-- ==== Sys2Proof/Syntax.lean ====
section
/-! DEFINITION. The commands of the block, one constructor per row of the opcode table, in its order. Operands, by name: `dt` is the time in
ns from the command before to an event that comes from outside or at no stated instant; `j` is a receive or transmit chain, `n` a rill, a
runnel or a ring, `k` a carrier, a session, a lane or a core, `p` an Ethernet port, `id` a frame in work, `req` a requester (0–127 an Ocell
thread, 128 the host, 129 Jomuter), `off` an offset in BAR0, `d` the word that a register write carries. The meanings say what each
constructor takes. -/

namespace Sys2Proof

/-- Who makes an access, and how many ns after the command before: 0 is the same cycle. -/
structure Requester where
  req : Nat
  dt  : Nat
  deriving DecidableEq, Repr

/-- A host read of RUN_HPOP_n: how many ns after the command before, and `n`. -/
structure PopAt where
  dt : Nat
  n  : Nat
  deriving DecidableEq, Repr

/-- A read of a register: who reads and when, where, and how many bytes. -/
structure RegRead where
  who   : Requester
  off   : Nat
  width : Nat
  deriving DecidableEq, Repr

/-- A signal changes `dt` ns after the command before and is on for `held` ns from then, or off: for PPS_IN and COEX_GNT_g on is high, for PFAIL_N
asserted, for the brown-out detector a supply below its threshold. -/
structure Change where
  dt   : Nat
  on   : Bool
  held : Nat
  deriving DecidableEq, Repr

/-- A ball that is low for `held` ns from `dt` ns after the command before: RST_N, PCIE_PERST_N or WAKE_N. -/
structure Low where
  dt   : Nat
  held : Nat
  deriving DecidableEq, Repr

/-- The level at a grant ball, for how many ns it has stood, and the level that stood before it. -/
structure PinLevel where
  level  : Bool
  since  : Nat
  before : Bool
  deriving DecidableEq, Repr

/-- What the Cistern runs from once VDD_IO has crossed 1.62 V: VDD_IO, or VBAT, with the main supplies gone or not. -/
inductive CisternSupply where
  | vddIo
  | vbat (removed : Bool)
  deriving DecidableEq, Repr

/-- What a write of configuration space does to the error registers: the bits it clears in the Uncorrectable and the Correctable Error Status and in
the PCI Status register; the Uncorrectable Error Mask, its Severity and the Correctable Error Mask where it sets them; and the correctable errors that
the link has met since the command before. -/
structure AerWrite where
  clearUncor  : Nat := 0
  clearCor    : Nat := 0
  clearStatus : Nat := 0
  masks       : Option (Nat × Nat × Nat) := none
  corrected   : Nat := 0
  deriving DecidableEq, Repr

/-- A write of configuration space: Bus Master Enable; Max_Payload_Size, Max_Read_Request_Size and D3hot where it sets them; the base addresses
of BAR0 and BAR2 where it sets them; and its part in the error registers. -/
structure ConfigWrite where
  bme  : Bool
  sets : Option (Nat × Nat × Bool)
  bars : Option (Nat × Nat)
  aer  : AerWrite := {}
  deriving DecidableEq, Repr

/-- Why a DMA read of a ring failed (R397): a completion with Unsupported Request or with Completer Abort, poisoned data in a completion whose header is
the four words given, or no completion within 50 ms. -/
inductive DmaCause where
  | unsupported
  | abort
  | poisoned (header : List Nat)
  | timeout
  deriving DecidableEq, Repr

/-- A DMA read that fails `dt` ns after the command before. -/
structure DmaFailure where
  dt    : Nat
  cause : DmaCause
  deriving DecidableEq, Repr

/-- A packet memory read on the management SPI, `dt` ns after the command before: `ready` if its data are there by the end of the dummy bytes. -/
structure PktRead where
  dt    : Nat
  ready : Bool
  deriving DecidableEq, Repr

/-- The commands. -/
inductive Instr where
  -- General
  /-- REGISTER_WRITE: A write to a register that has no row of its own takes effect under its access code and any lock or ignore rule of its field (R11). -/
  | registerWrite (a : Requester) (off w : Nat) (d : Word)
  /-- COUNTER_READ: A read of an RC field returns its value and clears it, keeping any increment of the same cycle (R12). -/
  | counterRead (a : RegRead)
  /-- MSIX_ENABLE: MSI-X Enable going from 0 to 1 sends a message for each raised vector (R527). -/
  | msixEnable (en funcMask : Bool)
  /-- MSIX_UNMASK: Unmasking a vector whose pending bit is set sends one message (R527). -/
  | msixUnmask (v : Nat)
  -- Receive: the Plume (R13–R72)
  /-- CLIP_INTERVAL: End of a 1 us interval in which an aerial reached full scale sets CLIP_A or CLIP_B and counts once (R21). -/
  | clipInterval (dt j : Nat) (a b : Bool)
  /-- PLM_WINDOW_WRITE: A write of the receive window centre takes effect only while the chain is Parked or Primed, else sets CFG_IGNORED (R23). -/
  | plmWindowWrite (j : Nat) (d : Word)
  /-- PLM_CHAIN_CTL_WRITE: A write of TARGET, AER_MODE or FCSFAIL_CMPL changes the chain's requested state or receive options (R55). -/
  | plmChainCtlWrite (j : Nat) (d : Word)
  /-- CHAIN_PRIMED: Converter PLL lock and ADC calibration complete and the window filters fill, so the chain reaches Primed (R56). -/
  | chainPrimed (j : Nat)
  /-- CHAIN_LISTENING: Detectors of every enabled rill start and STATE reads Listening (R56). -/
  | chainListening (j : Nat)
  /-- CHAIN_LEAVE_LISTENING: Once no rill has a claim or accepted frame, a chain asked to leave Listening moves down (R57). -/
  | chainLeaveListening (j : Nat)
  /-- CHAIN_PARKED: Primed to Parked completes, and the converter PLL stops when both chains of the pair are Parked (R57). -/
  | chainParked (j : Nat)
  /-- RILL_ENABLE: EN of PLM_RILL_CFG_n going 0 to 1 checks the rill in order and enables it or refuses with a code (R59). -/
  | rillEnable (j n : Nat) (d : Word)
  /-- RILL_DISABLE: Clearing EN stops the detectors, releases any claim without a PHR and lets an accepted frame finish (R61). -/
  | rillDisable (j n : Nat) (d : Word)
  /-- RILL_CONFIG_WRITE: A write to rill fields other than EN takes effect only while EN and STATE are 0, else sets CFG_IGNORED (R60). -/
  | rillConfigWrite (which j n : Nat) (d : Word)
  /-- PHY_MODE_WRITE: A write to PLM_PHY_MODE_m has no effect and sets MODE_WR_IGNORED while an enabled rill or carrier names m (R62). -/
  | phyModeWrite (m : Nat) (d : Word)
  /-- PREAMBLE_DETECT: A sniff detector correlates PRE_SYMS preamble symbols above threshold and declares detection (R32). -/
  | preambleDetect (dt j n : Nat) (ps : List (Nat × Nat)) (snrA snrB : List Int)
  /-- AERIAL_CHOICE: At a symbol boundary where one aerial's metric exceeds the other's by the hysteresis, the rill fixes its aerial (R36). -/
  | aerialChoice (j n k : Nat) (mA mB : Int)
  /-- AERIAL_CHOICE_FORCED: 16 preamble symbols after detection, the rill takes the aerial with the higher metric, A on a tie (R36). -/
  | aerialChoiceForced (dt j n : Nat) (mA mB : Int)
  /-- SFD_TIMEOUT: SFD not found within SFD_WAIT symbols releases the claim, counts a false detection and restarts the detectors (R34). -/
  | sfdTimeout (dt j n : Nat)
  /-- SFD_FOUND: The SFD is found, the rill locks to mode and aerial, and Clepsydra stamps the SFD time (R35). -/
  | sfdFound (dt j n : Nat) (mA mB err pwr snr8 foHz : Int)
  /-- PHR_RECEIVED: The PHR is complete and is accepted or rejected on length, check and mode-switch bit (R39). -/
  | phrReceived (dt j n len mcs : Nat) (modeSwitch checkOk fcs32 : Bool)
  /-- PSDU_BYTE: Each demodulated PSDU byte is written to packet memory within 100 ns of its last symbol (R42). -/
  | psduByte (dt j n : Nat) (b : Byte)
  /-- FRAME_END: The last FCS byte ends, the FCS is checked and the rill closes the frame to Sluice as OK or FCS_FAIL (R42). -/
  | frameEnd (dt j n : Nat)
  -- Transmit and front end (R73–R107)
  /-- BLANKING_END: BLANK_TAIL after FEM_TXSW_n release the blanking interval ends and every detector restarts with no state (R53). -/
  | blankingEnd (j : Nat)
  /-- SYN_WINDOW_WRITE: A transmit window centre write is held while a carrier radiates, or applied, possibly at the next start (R68). -/
  | synWindowWrite (j : Nat) (d : Word)
  /-- CAL: A CAL write starts full calibration, held while radiating, or clears CAL_VALID while Off (R69). -/
  | cal (j : Nat) (tempCalEn : Bool)
  /-- SYN_LOCK: The synthesiser finishes retune or calibration and asserts LOCK; the transmit side becomes Ready (R69). -/
  | synLock (j : Nat) (temp : Int)
  /-- SYN_FAULT: A calibration or retune not locked within 100 us fails and sets SYN_FAULT (R73). -/
  | synFault (j : Nat)
  /-- TEMP_CAL_DUE: A die temperature change of 10 C from CAL_TEMP sets CAL_DUE while Ready with TEMP_CAL_EN (R71). -/
  | tempCalDue (dt j : Nat) (temp : Int)
  /-- TEMP_CAL_START: At the first cycle with no carrier radiating and no commit within 200 us, the postponed calibration starts (R71). -/
  | tempCalStart (dt j : Nat)
  /-- CAL_STARVED: A temperature calibration postponed for 1 s sets CAL_STARVED and writes a Silt record (R72). -/
  | calStarved (j : Nat)
  /-- TX_WAKE: TX_HOLD or a held descriptor WAKE_LEAD from its launch puts the transmit side into Starting (R74). -/
  | txWake (j : Nat) (temp : Int)
  /-- TX_OFF: After IDLE_OFF x 10 us with nothing held, radiating or due, the transmit side returns to Off (R74). -/
  | txOff (j : Nat)
  /-- CARRIER_ENABLE: EN of TXF_CAR_CFG_k going 0 to 1 checks the carrier and enables it or refuses with a code (R77). -/
  | carrierEnable (j k : Nat) (d : Word)
  /-- CARRIER_CONFIG_WRITE: A carrier configuration write takes effect only while EN and BUSY are 0, else sets CFG_HELD (R78). -/
  | carrierConfigWrite (freq : Bool) (j k : Nat) (d : Word)
  /-- TX_DESCRIPTOR: The charter stage takes a TX descriptor, runs its structural checks, the charter and weirs, and places it in the launch unit (R83). -/
  | txDescriptor (dt : Nat) (src : Option Nat)
  /-- CHARTER_STAGE_RESUME: A place frees in a full launch unit and the waiting charter stage takes the next descriptor (R372). -/
  | charterStageResume (src : Option Nat)
  /-- COEX_REQ_ASSERT: REQ_LEAD before a member frame's grant sample, COEX_REQ_g asserts, with COEX_PRI_g for PRIORITY (R97). -/
  | coexReqAssert (j id : Nat)
  /-- GRANT_SAMPLE: The coexistence grant is sampled at RF start minus GNT_SAMPLE or at the commit point (R98). -/
  | grantSample (j id : Nat) (pin : PinLevel)
  /-- GRANT_WITHDRAWAL: The grant held inactive for GNT_HOLD aborts every committed or radiating member frame as TX_GRANT_LOST (R100). -/
  | grantWithdrawal (pin : Change) (g : Nat)
  /-- COMMIT_POINT: The latest of planned commit, LOCK and arrival is reached; the charter is rechecked and FEM_LNA_n goes inactive (R85). -/
  | commitPoint (j id : Nat)
  /-- TX_LATE: At the lock deadline without LOCK, or with RF start beyond tolerance, the frame completes TX_LATE (R86). -/
  | txLate (j id : Nat)
  /-- TXSW_ASSERT: FEM_TXSW_n asserts PA_LEAD + 1 us before RF start and the blanking interval starts (R89). -/
  | txswAssert (j id : Nat)
  /-- PA_ASSERT: FEM_PA_n asserts PA_LEAD before RF start, with LOCK set (R89). -/
  | paAssert (j id : Nat)
  /-- RF_START: The frame's RF starts at TXO within 50 ns of launch time plus TX_ADJ and metering begins (R374). -/
  | rfStart (j id : Nat)
  /-- LAST_RF: The frame's last RF leaves TXO, its metering ends and its completion is pushed unless an acknowledgement is awaited (R89). -/
  | lastRf (j id : Nat)
  /-- PA_RELEASE: FEM_PA_n releases PA_LAG after the last RF, and COEX_REQ_g releases with the last member's (R89). -/
  | paRelease (j : Nat)
  /-- TXSW_RELEASE: FEM_TXSW_n releases 1 us after FEM_PA_n (R89). -/
  | txswRelease (j : Nat)
  /-- LNA_ACTIVE: FEM_LNA_n becomes active again 1 us after FEM_TXSW_n release when LNA_EN and the receive side allow (R91). -/
  | lnaActive (j : Nat)
  /-- LOCK_LOSS: LOCK falling recalls committed frames and ramps down radiating frames as TX_SYNTH_FAULT (R87). -/
  | lockLoss (dt j : Nat)
  /-- FEM_POL_APPLY: A polarity write takes effect once no frame is past its commit point and FEM_TXSW_n has released (R94). -/
  | femPolApply (j : Nat)
  -- Charter and weirs (R108–R127)
  /-- FUSE_BLOW: BLOW of CHT_FPROG_CMD from Jomuter blows one charter fuse bit or is refused (R109). -/
  | fuseBlow (req : Nat)
  /-- FUSE_DONE: A blow completes after 12 us and the CHT shadows are reloaded within 10 us (R110). -/
  | fuseDone
  /-- DIGEST_DONE: The charter digest is recomputed within 50 us after a blow (R110). -/
  | digestDone
  /-- BIN_ROTATION: Every 60 s of trickle ticks the oldest weir bin is cleared and becomes the running bin (R116). -/
  | binRotation
  -- Mesh MAC (R128–R165)
  /-- MAC_ENABLE: EN of MAC_CTL going 0 to 1 checks the profile and enables or refuses with PROFILE_BAD (R130). -/
  | macEnable (d : Word)
  /-- SLOT_RESOLVE: 1,000 us before slot start the engine resolves the slot's cells and posts the wake set (R134). -/
  | slotResolve
  /-- SLOT_START: A slot starts at its mapped time, entering pause slots and checking that wanted chains are Listening (R128). -/
  | slotStart
  /-- SLOT_END: A slot ends; leaving the last pause slot sets PAUSE_END and clears ARM, and unheard expected beacon slots count as misses (R159). -/
  | slotEnd
  /-- ACK_WINDOW_CLOSE: A device frame's acknowledgement window closes without a match and it completes TX_NO_ACK (R151). -/
  | ackWindowClose (j id : Nat)
  -- Spillway (R166–R181)
  /-- SPW_LOAD: LOAD checks a session's registers and makes it Ready or completes INTERNAL with a reason (R177). -/
  | spwLoad (k : Nat)
  /-- START_FULL: START_FULL increments ROUND and runs a round over every block (R167). -/
  | startFull (k : Nat)
  /-- START_REPAIR: START_REPAIR runs a round over the missing map and clears it (R167). -/
  | startRepair (k : Nat)
  /-- MERGE: MERGE ORs SPW_CMD_MASK into the missing map from BASE (R176). -/
  | merge (k base : Nat)
  /-- CLEAR_MISSING: CLEAR_MISSING clears the session's missing map (R176). -/
  | clearMissing (k : Nat)
  /-- SUSPEND: SUSPEND makes a Running session Suspended, keeping its position (R176). -/
  | suspend (k : Nat)
  /-- RESUME: RESUME makes a Suspended session Running (R176). -/
  | resume (k : Nat)
  /-- ABORT: ABORT makes a session Idle and clears its send set and missing map (R176). -/
  | abort (k : Nat)
  /-- SPW_FLASH_READ_DONE: The flash read completes and Spillway places one copy per named chain and carrier (R169). -/
  | spwFlashReadDone (dt k : Nat)
  /-- SPW_SLOT_SKIP: A read not done 100 us before TX_OFFSET skips the slot and moves the frame on (R170). -/
  | spwSlotSkip (k : Nat)
  -- Sluice and the tables (R182–R224)
  /-- SLUICE_HEADER: Sluice opens a descriptor at the header span, looks up the source, requests the key and builds the decision (R185). -/
  | sluiceHeader (id : Nat)
  /-- WIRED_PACKET: A packet from ports 16 to 21 is taken by Sluice and completed with a wired RX completion (R186). -/
  | wiredPacket (port : Nat)
  /-- SLUICE_COMMIT: On the later of FCS result and MIC verdict, Sluice commits and applies deferred effects, or drops (R202). -/
  | sluiceCommit (id : Nat)
  /-- SEARCH: SEARCH looks up a key and returns its index and image or NOT_FOUND (R219). -/
  | search (req : Nat) (ws : List Word)
  /-- NEXT: NEXT scans up to 4,096 slots for the next filtered entry, taking or releasing the scan lock (R219). -/
  | next (req : Nat) (ws : List Word)
  /-- INSERT: INSERT places an entry, relocating others as needed, or completes TABLE_FULL or BUSY (R193). -/
  | insert (req : Nat) (ws : List Word)
  /-- UPDATE: UPDATE writes the masked fields of the entry with the key (R219). -/
  | update (req : Nat) (ws : List Word)
  /-- DELETE: DELETE invalidates an entry, refusing a PINNED one without FORCE (R219). -/
  | delete (req : Nat) (ws : List Word)
  /-- FLUSH_PORT: FLUSH_PORT starts a pass deleting every non-STATIC entry on the operand port (R219). -/
  | flushPort (req : Nat) (ws : List Word)
  /-- FLUSH_PORT_DONE: The FLUSH_PORT pass ends, FLUSH_BUSY clears and the count is returned (R219). -/
  | flushPortDone
  /-- SCAN_TIMEOUT: SCAN_TIMEOUT ms after it was taken the scan lock is released and SCAN_LOST set (R221). -/
  | scanTimeout
  /-- AGER_VISIT: The ager visits a slot and deletes an entry older than LIMIT, pushing a notice (R214). -/
  | agerVisit
  /-- RELOC_SEED_WRITE: A write of SLC_RELOC_SEED loads the victim-choice LFSR (R193). -/
  | relocSeedWrite (d : Word)
  -- Grotto (R225–R262)
  /-- RECON: RECON rebuilds the root secret from the PUF and helper data (R229). -/
  | recon (index : Nat)
  /-- ENROL: ENROL draws new messages, takes a majority read and outputs new helper data (R231). -/
  | enrol (index : Nat)
  /-- REFRESH: REFRESH recomputes helper data for a window from the held messages (R233). -/
  | refresh (index : Nat)
  /-- SEAL_ROOT: SEAL_ROOT erases the held message blocks (R230). -/
  | sealRoot (index : Nat)
  /-- GRT_LOAD: LOAD unwraps and installs the keys of a record body (R241). -/
  | grtLoad (index : Nat)
  /-- PROVISION: PROVISION installs the network key or attestation secret and outputs the device-keys body (R240). -/
  | provision (index : Nat)
  /-- REKEY_NET: REKEY_NET replaces the network key with one wrapped under the current one (R240). -/
  | rekeyNet (index : Nat)
  /-- IMPORT_GROUP: IMPORT_GROUP installs a group key, advances its epoch and marks it PENDING (R242). -/
  | importGroup (index : Nat)
  /-- RETIRE_GROUP: RETIRE_GROUP erases a group key and advances its epoch (R242). -/
  | retireGroup (index : Nat)
  /-- IMPORT_OVR: IMPORT_OVR installs an override cell key and advances its epoch (R242). -/
  | importOvr (index : Nat)
  /-- CLEAR_OVR: CLEAR_OVR erases an override cell key and advances its epoch (R242). -/
  | clearOvr (index : Nat)
  /-- EXPORT_PAGE: EXPORT_PAGE outputs a page body with new floors and leaves an export pending (R249). -/
  | exportPage (index : Nat)
  /-- FLOOR_COMMIT: FLOOR_COMMIT puts the pending floors in force and clears PENDING and FLOOR_DUE for the page (R240). -/
  | floorCommit (index : Nat)
  /-- ATTEST: ATTEST writes a 152-byte report signed by HMAC under the attestation secret (R256). -/
  | attest (index : Nat)
  /-- GRT_BLOW: BLOW blows PROV_LOCK, DBG_EXPORT_LOCK or JTAG_LOCK (R240). -/
  | grtBlow (index : Nat)
  /-- DEBUG_EXPORT: DEBUG_EXPORT outputs the debug-unlock secret unless DBG_EXPORT_LOCK is blown (R259). -/
  | debugExport (index : Nat)
  /-- GRT_CMD_DONE: A Grotto command that took time completes, setting STATUS and clearing BUSY (R240). -/
  | grtCmdDone
  /-- INVALIDATION_SWEEP_DONE: The cache sweep ends and the old key is erased when its last running job ends (R253). -/
  | invalidationSweepDone
  /-- MSG_ERASE: 1 s after a successful RECON the held message blocks are erased (R230). -/
  | msgErase
  /-- KEY_READY: A cache hit, derivation or override read delivers the key to the CCM* engine (R245). -/
  | keyReady (id : Nat)
  /-- VERIFY_JOB_START: A verify job takes a free lane after the frame's last byte (R248). -/
  | verifyJobStart (id : Nat)
  /-- VERIFY_DONE: A verify job delivers its MIC verdict, as pass, MIC_FAIL or KEY_STALE (R254). -/
  | verifyDone (id : Nat)
  /-- PROTECT_JOB_START: A protect job takes a lane, chooses its key and takes a transmit counter value (R251). -/
  | protectJobStart (j id : Nat)
  /-- PROTECT_DONE: A protect job finishes writing counter, ciphertext and MIC into the cells (R248). -/
  | protectDone (j id : Nat)
  /-- MASK_REFRESH: Every 10 ms each override cell's mask is redrawn (R246). -/
  | maskRefresh
  /-- DRBG_RESEED: After 2^16 requests the DRBG is reseeded from the entropy source (R260). -/
  | drbgReseed
  /-- DRBG_HEALTH_FAIL: A failed health test clears DRBG_OK and sets DRBG_FAIL (R260). -/
  | drbgHealthFail (dt : Nat) (failing : Bool)
  /-- UNLOCK_CHAL: The JTAG UNLOCK_CHAL instruction shifts out a fresh 32-byte challenge (R258). -/
  | unlockChal (dt : Nat)
  /-- UNLOCK_RESP: The JTAG UNLOCK_RESP instruction checks the response and opens JTAG or sets DEBUG_FAIL (R258). -/
  | unlockResp (dt : Nat) (resp : List Byte)
  -- Ocell instructions and waits (R263–R321): `t` is the TID, `w` bits [24:0] of the instruction word, or a whole word whose OPC is not assigned
  /-- ADD: gd = ga + gb (R277). -/
  | add (t w : Nat)
  /-- SUB: gd = ga - gb (R277). -/
  | sub (t w : Nat)
  /-- AND: gd = ga & gb (R277). -/
  | and (t w : Nat)
  /-- OR: gd = ga | gb (R277). -/
  | or (t w : Nat)
  /-- XOR: gd = ga ^ gb (R277). -/
  | xor (t w : Nat)
  /-- SLL: Logical left shift by gb[5:0] (R277). -/
  | sll (t w : Nat)
  /-- SRL: Logical right shift by gb[5:0] (R277). -/
  | srl (t w : Nat)
  /-- SRA: Arithmetic right shift by gb[5:0] (R277). -/
  | sra (t w : Nat)
  /-- MUL: gd = low 64 bits of ga x gb (R277). -/
  | mul (t w : Nat)
  /-- SEL: gd = px ? ga : gb (R277). -/
  | sel (t w : Nat)
  /-- ADDI: gd = ga + sext(IMM12) (R277). -/
  | addi (t w : Nat)
  /-- ANDI: gd = ga & sext(IMM12) (R277). -/
  | andi (t w : Nat)
  /-- ORI: gd = ga | sext(IMM12) (R277). -/
  | ori (t w : Nat)
  /-- XORI: gd = ga ^ sext(IMM12) (R277). -/
  | xori (t w : Nat)
  /-- SLLI: Logical left shift by an immediate (R277). -/
  | slli (t w : Nat)
  /-- SRLI: Logical right shift by an immediate (R277). -/
  | srli (t w : Nat)
  /-- SRAI: Arithmetic right shift by an immediate (R277). -/
  | srai (t w : Nat)
  /-- LI: gd = sext(IMM16) (R277). -/
  | li (t w : Nat)
  /-- LIH: gd = (gd << 16) | IMM16 (R277). -/
  | lih (t w : Nat)
  /-- CEQ: pd = (ga == op2) (R278). -/
  | ceq (t w : Nat)
  /-- CNE: pd = (ga != op2) (R278). -/
  | cne (t w : Nat)
  /-- CLT: pd = ga < op2, signed (R278). -/
  | clt (t w : Nat)
  /-- CLTU: pd = ga < op2, unsigned (R278). -/
  | cltu (t w : Nat)
  /-- CGE: pd = ga >= op2, signed (R278). -/
  | cge (t w : Nat)
  /-- CGEU: pd = ga >= op2, unsigned (R278). -/
  | cgeu (t w : Nat)
  /-- PAND: pd = pa & pb (R278). -/
  | pand (t w : Nat)
  /-- POR: pd = pa | pb (R278). -/
  | por (t w : Nat)
  /-- PNOT: pd = !pa (R278). -/
  | pnot (t w : Nat)
  /-- BR: Branch by a word offset, conditionally through the guard (R279). -/
  | br (t w : Nat)
  /-- CALL: g31 = pc + 4 and branch (R279). -/
  | call (t w : Nat)
  /-- JALR: Jump to ga + offset, linking in gd (R279). -/
  | jalr (t w : Nat)
  /-- DBNZ: Decrement gd and branch if not zero (R279). -/
  | dbnz (t w : Nat)
  /-- LDB: Load a byte, zero-extended (R281). -/
  | ldb (t w : Nat)
  /-- LDH: Load 2 bytes, zero-extended (R281). -/
  | ldh (t w : Nat)
  /-- LDW: Load 4 bytes, zero-extended (R281). -/
  | ldw (t w : Nat)
  /-- LDD: Load 8 bytes (R281). -/
  | ldd (t w : Nat)
  /-- STB: Store a byte (R281). -/
  | stb (t w : Nat)
  /-- STH: Store 2 bytes (R281). -/
  | sth (t w : Nat)
  /-- STW: Store 4 bytes (R281). -/
  | stw (t w : Nat)
  /-- STD: Store 8 bytes (R281). -/
  | std (t w : Nat)
  /-- AMOADD: Atomic fetch-and-add on a 64-bit word (R281). -/
  | amoadd (t w : Nat)
  /-- CAS: Atomic compare-and-swap on a 64-bit word (R281). -/
  | cas (t w : Nat)
  /-- FENCE_FULL: fence full orders every earlier access, command and seal effect before later ones (R308). -/
  | fenceFull (t w : Nat)
  /-- FENCE_ST: fence st makes every earlier store visible before later accesses (R308). -/
  | fenceSt (t w : Nat)
  /-- FENCE_RN: fence rn makes earlier stores visible before later pushes and tcmd (R308). -/
  | fenceRn (t w : Nat)
  /-- PUSH: Push one word to runnel n, waiting while it is full (R282). -/
  | push (t w : Nat)
  /-- PUSH4: Push four words as one group, waiting for four free places (R282). -/
  | push4 (t w : Nat)
  /-- TPUSH: Push one word if room, setting pd to success (R282). -/
  | tpush (t w : Nat)
  /-- POP: Pop the oldest word, waiting while the runnel is empty (R282). -/
  | pop (t w : Nat)
  /-- POP4: Pop four words, waiting until four are held (R282). -/
  | pop4 (t w : Nat)
  /-- POPW: Pop a word or time out after gb ns, setting px (R282). -/
  | popw (t w : Nat)
  /-- RLEV: Read the words held in runnel n (R282). -/
  | rlev (t w : Nat)
  /-- PUSH_ROOM: A waiting push or push4 completes when the runnel gains room (R303). -/
  | pushRoom (t : Nat)
  /-- POP_WORD_ARRIVE: A word lands and a waiting pop, pop4 or popw takes it (R303). -/
  | popWordArrive (t : Nat)
  /-- POPW_TIMEOUT: A popw timeout expires with no word, leaving gd and setting px = 0 (R317). -/
  | popwTimeout (t : Nat)
  /-- NOW: gd = service time (R284). -/
  | now (t w : Nat)
  /-- NOWF: Full-time seconds and nanoseconds of one instant (R284). -/
  | nowf (t w : Nat)
  /-- ASN: gd = current ASN, or the invalid marker (R284). -/
  | asn (t w : Nat)
  /-- WAITT: Wait until a service-time target is reached (R284). -/
  | waitt (t w : Nat)
  /-- WAITT_RELEASE: A waitt target is reached and the thread issues within 20 ns (R284). -/
  | waittRelease (t : Nat)
  /-- A2T: Convert an ASN plus offset to wrapping ns (R284). -/
  | a2t (t w : Nat)
  /-- TCMD: Issue a six-word table command record to Sluice (R285). -/
  | tcmd (t w : Nat)
  /-- TCMD_ACCEPT: Sluice becomes able to accept the command of a waiting tcmd (R285). -/
  | tcmdAccept (t : Nat)
  /-- TFIND: Look up an EUI in a class and wait for the index (R285). -/
  | tfind (t w : Nat)
  /-- TFIND_RESULT: A waiting tfind's lookup completes and gd takes the result (R285). -/
  | tfindResult (t : Nat)
  /-- TRD: Read one word of a node-table entry by index (R285). -/
  | trd (t w : Nat)
  /-- HMK: Make a valid handle from a cell and length (R286). -/
  | hmk (t w : Nat)
  /-- HGET: Read a handle's image (R286). -/
  | hget (t w : Nat)
  /-- HLDB: Load a frame byte through a handle (R286). -/
  | hldb (t w : Nat)
  /-- HLDD: Load 8 frame bytes through a handle (R286). -/
  | hldd (t w : Nat)
  /-- HSTB: Store a frame byte through a handle (R286). -/
  | hstb (t w : Nat)
  /-- HSTD: Store 8 frame bytes through a handle (R286). -/
  | hstd (t w : Nat)
  /-- HALLOC: Allocate cells for gb bytes, setting px to success (R286). -/
  | halloc (t w : Nat)
  /-- HFREE: Free a handle's chain and invalidate the handle (R346). -/
  | hfree (t w : Nat)
  /-- BFX: Extract a bit field, zero-extended (R288). -/
  | bfx (t w : Nat)
  /-- BFXS: Extract a bit field, sign-extended (R288). -/
  | bfxs (t w : Nat)
  /-- BFI: Insert a bit field (R288). -/
  | bfi (t w : Nat)
  /-- CLZ: Count leading zeros (R288). -/
  | clz (t w : Nat)
  /-- BSWAP: Reverse the 8 bytes (R288). -/
  | bswap (t w : Nat)
  /-- CRC32CB: CRC-32C step over one byte (R289). -/
  | crc32cb (t w : Nat)
  /-- CRC32CD: CRC-32C step over eight bytes (R289). -/
  | crc32cd (t w : Nat)
  /-- CRC32B: CRC-32 step over one byte (R289). -/
  | crc32b (t w : Nat)
  /-- CRC32D: CRC-32 step over eight bytes (R289). -/
  | crc32d (t w : Nat)
  /-- CRC16B: CRC-16 step over one byte (R289). -/
  | crc16b (t w : Nat)
  /-- SHAB: One SHA-256 compression in memory (R290). -/
  | shab (t w : Nat)
  /-- AESB: AES-128 encryption of 16 bytes in place (R290). -/
  | aesb (t w : Nat)
  /-- RND: 64 random bits from Grotto, waiting while DRBG_OK is 0 (R290). -/
  | rnd (t w : Nat)
  /-- RND_READY: DRBG_OK returns and a waiting rnd completes (R303). -/
  | rndReady (t : Nat)
  /-- SPB: Open a speculation region with a drop target (R291). -/
  | spb (t w : Nat)
  /-- SPS: Seal the region, performing buffered effects in order and releasing provisional descriptors (R312). -/
  | sps (t w : Nat)
  /-- SPD: Drop the region, discarding effects and restoring registers (R316). -/
  | spd (t w : Nat)
  /-- MFS: Read a special register (R293). -/
  | mfs (t w : Nat)
  /-- MTS: Write a special register, WDKICK restarting the watchdog (R293). -/
  | mts (t w : Nat)
  /-- TRAP: Raise TRAP with EINFO = IMM22 (R293). -/
  | trap (t w : Nat)
  /-- ERET: Return from the handler to EPC and clear EXC (R293). -/
  | eret (t w : Nat)
  /-- YIELD: Give up the rest of the issue turn (R302). -/
  | yield (t w : Nat)
  /-- BRK: Raise BREAK or halt when BRK_HALT is set (R321). -/
  | brk (t w : Nat)
  /-- REGISTER_WINDOW_DONE: A register-window access completes and the waiting thread continues (R303). -/
  | registerWindowDone (t : Nat)
  -- Thread commands, debug, watchdogs, wedges (R301, R321–R326)
  /-- THR_START: START initialises a thread from Off or Fault and makes it Ready (R301). -/
  | thrStart (t : Nat) (d : Word)
  /-- THR_STOP: STOP abandons waits, drops any region and turns the thread Off (R301). -/
  | thrStop (t : Nat) (d : Word)
  /-- THR_HALT: HALT abandons waits and halts the thread (R301). -/
  | thrHalt (t : Nat) (d : Word)
  /-- THR_RESUME: RESUME makes a Halted thread Ready at its pc (R301). -/
  | thrResume (t : Nat) (d : Word)
  /-- DBG_DATA_WRITE: A write of OCL_DBG_DATA_t sets the selected register of a Halted thread, else sets DBG_IGNORED (R321). -/
  | dbgDataWrite (t : Nat) (d : Word)
  /-- J_DBG_HALT: HALT of OCL_J_DBG_SEL halts Jomuter while UNLOCKED (R326). -/
  | jDbgHalt (d : Word)
  /-- J_DBG_RESUME: RESUME of OCL_J_DBG_SEL resumes a halted Jomuter while UNLOCKED (R326). -/
  | jDbgResume (d : Word)
  /-- WATCHDOG_EXPIRY: A watchdog reaching PERIOD_US sets STAGE and delivers WATCHDOG, or faults the thread on a second expiry (R322). -/
  | watchdogExpiry (t : Nat)
  /-- CORE_WEDGE: An instruction not completed for HANG_US wedges the core, possibly requesting a full reset (R325). -/
  | coreWedge (dt k : Nat)
  -- Runnels and packet cells (R330–R349)
  /-- RUNNEL_ENABLE: EN of RUN_CFG_n going 0 to 1 checks region and class and enables or refuses (R331). -/
  | runnelEnable (n : Nat) (d : Word)
  /-- RUNNEL_DISABLE: Clearing EN discards held records and makes the runnel count as not enabled (R332). -/
  | runnelDisable (n : Nat) (d : Word)
  /-- RUNNEL_DISABLE_DONE: The discard of a disabled runnel completes and EN reads 0 (R332). -/
  | runnelDisableDone (n : Nat)
  /-- ENGINE_PUSH_ROOM: A producer waiting for room in a runnel is served in a later cycle (R334). -/
  | enginePushRoom (n : Nat)
  /-- HOST_PUSH: GO of RUN_HPUSH_CTL pushes one or four words, ignored whole on overrun (R336). -/
  | hostPush (d : Word)
  /-- HOST_POP: A read of RUN_HPOP_n pops the oldest word or returns 0 with UNDERRUN (R335). -/
  | hostPop (a : PopAt)
  /-- RUNNEL_FLUSH: FLUSH starts or extends a discard of whole records up to the tail (R339). -/
  | runnelFlush (n : Nat)
  /-- FLUSH_DONE: The flush discard ends, each record's cells or completions settled, and FLUSH_DONE set (R340). -/
  | flushDone (n : Nat)
  /-- HOST_ALLOC: A write of RUN_HALLOC starts a host allocation (R347). -/
  | hostAlloc (d : Word)
  /-- HOST_ALLOC_DONE: The host allocation result is held in RUN_HALLOC_RES and BUSY clears (R347). -/
  | hostAllocDone
  /-- HOST_FREE: A write of RUN_HFREE frees a chain, counting double frees (R346). -/
  | hostFree (d : Word)
  -- Clepsydra (R353–R379)
  /-- CISTERN_TRIM_CORRECT: The trim accumulator passing one tick adds or drops a trickle tick (R357). -/
  | cisternTrimCorrect
  /-- NOW_S_READ: A read of CLP_NOW_S latches the nanoseconds of the same instant (R355). -/
  | nowSRead (dt : Nat)
  /-- SET: SET loads full time, refused while ARMED or ASN_VALID (R359). -/
  | set (dt : Nat)
  /-- STEP: STEP adds CLP_STEP to full time, making held timed launches TX_LATE (R360). -/
  | step (dt : Nat)
  /-- ARM: ARM sets ARMED unless SLOT_LEN_US is out of range (R370). -/
  | arm (dt : Nat)
  /-- DISARM: DISARM clears ARMED and ASN_VALID (R370). -/
  | disarm (dt : Nat)
  /-- MASTER_CHG: MASTER_CHG resets the rejection count and clears JUMP_PENDING (R365). -/
  | masterChg (dt : Nat)
  /-- RESET_I: RESET_I sets rate_i to 0 (R365). -/
  | resetI (dt : Nat)
  /-- OFS_SAMPLE: An offset sample is rejected or steers rate_i and the slew (R362). -/
  | ofsSample (dt : Nat) (d : Word)
  /-- SLEW_END: slew_rem reaches 0 and the slew term stops (R362). -/
  | slewEnd
  /-- HOLDOVER: No sample accepted for LOSS x 100 ms puts steering into holdover (R364). -/
  | holdover
  /-- PPS_IN_EDGE: An active PPS_IN edge is stamped and, under SRC 2, yields a sample (R367). -/
  | ppsInEdge (e : Change)
  /-- PPS_MISS: No PPS_IN edge within 1,001 ms sets PPS_MISS (R367). -/
  | ppsMiss
  /-- PPS_OUT_ASSERT: PPS_OUT asserts at each full-time second boundary (R368). -/
  | ppsOutAssert
  /-- PPS_OUT_RELEASE: PPS_OUT releases OUT_WIDTH x 100 us after assertion (R368). -/
  | ppsOutRelease
  /-- ASN_START: Full time reaching T0 while ARMED sets ASN_VALID and ASN_START, letting the slot engine run (R370). -/
  | asnStart
  -- Ethernet (R380–R387)
  /-- ETH_ENABLE: A write of ETH_CTL EN enables the port or takes the link down (R383). -/
  | ethEnable (p : Nat) (d : Word)
  /-- ETH_RX_FRAME: A received frame is checked, written into cells and passed to Sluice, or dropped and counted (R384). -/
  | ethRxFrame (dt p len : Nat) (bytes : List Byte)
  /-- ETH_TX_RECORD: The port pops an egress record and starts sending its frame, or completes it at once (R386). -/
  | ethTxRecord (dt p : Nat)
  /-- ETH_TX_DONE: The frame's last byte is sent, cells freed and a completion pushed as required (R387). -/
  | ethTxDone (dt p : Nat)
  /-- ETH_LINK_UP: LINK rises and LINK_UP is set (R387). -/
  | ethLinkUp (dt p : Nat)
  /-- ETH_LINK_DOWN: LINK falls, cutting frames in progress and setting LINK_DOWN (R387). -/
  | ethLinkDown (dt p : Nat) (cut : Bool)
  -- Host interface (R388–R400)
  /-- BAR2_ACCESS: A host BAR2 read or write reaches packet memory by physical offset (R390). -/
  | bar2Access (dt : Nat) (write : Bool) (o n : Nat) (bs : List Byte)
  /-- PCIE_LINK_DOWN: Loss of the PCIe link stops every ring and DMA (R391). -/
  | pcieLinkDown (dt : Nat) (popped : List Nat)
  /-- HOT_RESET: A hot reset stops rings and resets configuration space and ring registers (R391). -/
  | hotReset (dt : Nat) (popped : List Nat)
  /-- BUS_MASTER_CLEAR: Clearing Bus Master Enable stops every ring and DMA (R391). -/
  | busMasterClear (dt : Nat) (cfg : ConfigWrite) (popped : List Nat)
  /-- PCIE_PERST: PCIE_PERST_N held low acts as a hot reset for the endpoint and then it retrains (R550). -/
  | pciePerst (p : Low) (popped : List Nat)
  /-- RING_ENABLE: EN of a ring going 0 to 1 zeroes the indices or refuses with ERR (R393). -/
  | ringEnable (n : Nat) (d : Word)
  /-- RING_DISABLE: Clearing EN stops the ring after the record in transfer (R398). -/
  | ringDisable (n : Nat) (busy : Bool) (d : Word)
  /-- RING_DOORBELL: A write of HST_RING_DB_n moves the host's index, or stops an overfilled ring (R393). -/
  | ringDoorbell (n idx : Nat)
  /-- RING_DMA_READ_DONE: A to-device DMA read completes and the record is pushed to the runnel (R394). -/
  | ringDmaReadDone (dt n : Nat) (ws : List Word)
  /-- RING_RECORD_POP: A from-device ring with room pops a record, writes it and advances the tail (R395). -/
  | ringRecordPop (dt n : Nat)
  /-- RING_COAL_TIMER: COAL_US after the first unsignalled record the ring raises its vector (R396). -/
  | ringCoalTimer (n : Nat)
  /-- RING_DMA_ERROR: A failed or timed-out DMA read stops the ring with ERR and DMA_ERR (R397). -/
  | ringDmaError (e : DmaFailure) (n : Nat)
  /-- HOST_INGRESS_RECORD: Sluice takes a host ingress record as a port 20 packet (R399). -/
  | hostIngressRecord (dt : Nat)
  -- SPI
  /-- SPI_REG_READ32: SPI opcode 0x03 reads a 32-bit register (R400). -/
  | spiRegRead32 (dt off : Nat) (ready : Bool)
  /-- SPI_REG_READ64: SPI opcode 0x13 reads a 64-bit register (R400). -/
  | spiRegRead64 (dt off : Nat) (ready : Bool)
  /-- SPI_REG_WRITE32: SPI opcode 0x02 writes a 32-bit register (R400). -/
  | spiRegWrite32 (dt off : Nat) (d : Word)
  /-- SPI_REG_WRITE64: SPI opcode 0x12 writes a 64-bit register (R400). -/
  | spiRegWrite64 (dt off : Nat) (d : Word)
  /-- SPI_PKT_READ: SPI opcode 0x0B reads packet memory until SPI_CS_N rises (R400). -/
  | spiPktRead (r : PktRead) (o n : Nat)
  /-- SPI_PKT_WRITE: SPI opcode 0x0A writes packet memory until SPI_CS_N rises (R400). -/
  | spiPktWrite (dt o : Nat) (bs : List Byte)
  /-- SPI_STATUS_READ: SPI opcode 0x05 returns the status of the last transaction (R400). -/
  | spiStatusRead (dt : Nat)
  /-- SPI_BAD_TRANSACTION: An unknown opcode or early SPI_CS_N rise does nothing and sets status 0x03 (R400). -/
  | spiBadTransaction (dt : Nat)
  -- Flash port (R402–R409)
  /-- FLASH_DISCOVERY_DONE: SFDP discovery completes and the flash port enters its mode or sets DISCOVER_FAIL (R402). -/
  | flashDiscoveryDone (dt mode density : Nat)
  /-- FLS_READ: READ copies LEN flash bytes into FLS_BUF_i (R405). -/
  | flsRead (i len : Nat)
  /-- FLS_PROGRAM: PROGRAM writes LEN buffer bytes to one flash page (R405). -/
  | flsProgram (i len : Nat)
  /-- ERASE_4K: ERASE_4K erases a 4 KiB sector (R405). -/
  | erase4k (i : Nat)
  /-- ERASE_64K: ERASE_64K erases a 64 KiB block (R405). -/
  | erase64k (i : Nat)
  /-- FLS_CMD_DONE: A flash operation completes, setting STATUS and CMD_DONE, and the port serves the next waiting work (R405). -/
  | flsCmdDone (dt : Nat) (fail : Bool)
  -- Power, clocks and reset (R413–R434)
  /-- RESET_RELEASE: The internal reset releases; jet PLLs start and memory initialisation begins (R433). -/
  | resetRelease (dt : Nat) (strap1 strap0 : Bool)
  /-- MEMORY_INIT_DONE: A memory finishes initialisation to zero codewords and waiting reads proceed (R433). -/
  | memoryInitDone (dt m : Nat)
  /-- JET_LOCK: A jet PLL locks within 12 us of its start (R418). -/
  | jetLock (dt k : Nat)
  /-- JET_LOCK_TIMEOUT: A jet PLL not locked within 50 us is restarted once, then fails with a reset or JET_FAULT (R418). -/
  | jetLockTimeout (k : Nat)
  /-- CHAIN_WAKE_REQUEST: CHAIN_LEAD before a listen interval the wake fabric requests Listening for the chain (R419). -/
  | chainWakeRequest (j : Nat)
  /-- CLUSTER_STOP: An idle cluster with AUTO stops its clock and its jet PLL (R420). -/
  | clusterStop (c : Nat)
  /-- CLUSTER_WAKE: A stopped cluster restarts its clock on a deadline lead, a word or an OCL write (R421). -/
  | clusterWake (c : Nat)
  /-- SSC_APPLY: A PWR_SSC write takes effect at the next modulation period of each clock (R426). -/
  | sscApply
  /-- DORMANT_ENTER: A PWR_DORMANT write with KEY starts the power-fail sequence with cause DORMANT (R423). -/
  | dormantEnter (d : Word)
  /-- DORMANT_ALARM: Cistern seconds reaching ALARM raise PWR_REQ (R424). -/
  | dormantAlarm
  /-- WAKE_N_WAKE: WAKE_N held low past its filter raises PWR_REQ (R424). -/
  | wakeNWake (p : Low)
  /-- PFAIL_DETECT: PFAIL_N asserted starts the power-fail sequence (R428). -/
  | pfailDetect (e : Change) (both : Bool)
  /-- BROWN_OUT: The brown-out detector trips and starts the power-fail sequence (R428). -/
  | brownOut (e : Change)
  /-- PFAIL_RESET: 2.0 ms after detection the full reset is asserted and PWR_REQ set by cause (R428). -/
  | pfailReset (wakeN : Bool)
  /-- POWER_RESTART: After 1 ms of good supplies and inputs the device releases its internal reset (R425). -/
  | powerRestart (dt : Nat) (strap1 strap0 : Bool)
  /-- SOFT_RESET: GLB_RESET_CTL FULL with KEY requests a full reset (R430). -/
  | softReset (d : Word)
  /-- RST_N_ASSERT: RST_N falling while released starts a full reset (R430). -/
  | rstNAssert (p : Low)
  /-- VBAT_LOSS: VBAT below 1.6 V with VDD_IO absent loses the Cistern contents (R416). -/
  | vbatLoss (dt : Nat)
  /-- CISTERN_SUPPLY_SWITCH: VDD_IO crossing 1.62 V switches the Cistern between VDD_IO and VBAT (R416). -/
  | cisternSupplySwitch (dt : Nat) (supply : CisternSupply)
  /-- VBAT_LOW: VBAT falling below 1.8 V sets VBAT_LOW (R422). -/
  | vbatLow (dt : Nat)
  -- Memory integrity (R438–R450)
  /-- SKIM_START: START begins a Skimmer pass or is refused (R445). -/
  | skimStart (m : Nat)
  /-- SKIM_ABORT: ABORT ends the running pass after the current word (R446). -/
  | skimAbort
  /-- SKIM_WORD: The Skimmer reads one word when no functional access holds the memory (R446). -/
  | skimWord (dt : Nat)
  /-- SKIM_DONE: The pass ends and SKIM_DONE is set (R446). -/
  | skimDone
  /-- FLIP_ARM: Setting ARM arms the flip-mask or is refused (R449). -/
  | flipArm (d : Word)
  /-- FLIP_LOCK: LOCK closes the flip fields until full reset (R449). -/
  | flipLock
  -- Twin (R452–R474)
  /-- TWIN_ENABLE: EN of TWN_CTL going 0 to 1 checks the configuration and enters PAIRING (R455). -/
  | twinEnable (d : Word)
  /-- PAIR_WAIT_EXPIRY: PAIR_WAIT_MS after the enable the device settles its role (R455). -/
  | pairWaitExpiry
  /-- TWIN_LANE_LOCK: A Twin lane gains or loses block lock (R456). -/
  | twinLaneLock (dt k : Nat) (up : Bool)
  /-- HEARTBEAT_SEND: Every 250 us a HEARTBEAT goes out on every locked lane (R457). -/
  | heartbeatSend
  /-- HEARTBEAT: A received heartbeat updates TWN_PEER_OFS, link state and roles (R457). -/
  | heartbeat (dt seq stamp : Nat) (w : Word) (ok : Bool)
  /-- LINK_SILENCE: 1 ms without a good heartbeat fails the link path (R458). -/
  | linkSilence
  /-- MIRROR_SEND: A queued MIRROR message is sent, or RESYNC sent when the queue overflows (R461). -/
  | mirrorSend
  /-- MIRROR: A received MIRROR message is applied on the standby (R461). -/
  | mirror (dt seq stamp : Nat) (ws : List Word) (ok : Bool)
  /-- RESYNC: A received RESYNC clears SYNCED and starts a bulk sync (R461). -/
  | resync (dt seq stamp : Nat) (ok : Bool)
  /-- TWN_RESYNC: RESYNC of TWN_CMD asks for a bulk sync (R464). -/
  | twnResync
  /-- SYNC_END: A received SYNC_END closes the bulk pass and sets SYNCED (R464). -/
  | syncEnd (dt seq stamp : Nat) (ok : Bool)
  /-- TAKEOVER_DECISION: Both paths failed or GOODBYE heard, the standby increments TERM, sends TAKEOVER and places the takeover frame (R466). -/
  | takeoverDecision (dt : Nat)
  /-- TAKEOVER: A received TAKEOVER makes the active yield (R468). -/
  | takeover (dt seq stamp : Nat) (w : Word) (ok : Bool)
  /-- SUSPECT_WINDOW_END: SUSPECT_MS after D the suspect marks lapse (R470). -/
  | suspectWindowEnd
  /-- TWN_HANDOVER: HANDOVER of TWN_CMD names slot H or is refused (R471). -/
  | twnHandover
  /-- HANDOVER_SEND: Once QUEUED reaches 0 after the last commit the active sends HANDOVER (R471). -/
  | handoverSend (dt : Nat)
  /-- HANDOVER: A received HANDOVER makes the standby ACTIVE at slot H or the next slot start (R471). -/
  | handover (dt seq stamp : Nat) (w : Word) (ok : Bool)
  /-- GOODBYE: A received GOODBYE triggers takeover without waiting for the paths (R472). -/
  | goodbye (dt seq stamp : Nat) (w : Word) (ok : Bool)
  /-- PACKET: A received PACKET message enters Sluice as port 21 (R456). -/
  | packet (dt seq stamp : Nat) (ws : List Word) (ok : Bool)
  /-- TWIN_TX_RECORD: An egress record for port 21 is sent as a PACKET message (R456). -/
  | twinTxRecord (dt : Nat)
  -- Boot (R475–R495)
  /-- BOOT_ROM_START: Jomuter starts its boot ROM, chooses, verifies and loads a reservoir (R485). -/
  | bootRomStart (dt : Nat)
  /-- ACTIVATE: ACTIVATE runs the warm path, switching to the staged image without reset (R489). -/
  | activate (dt req : Nat)
  -- Observability (R496–R521)
  /-- STILL_TAKE: TAKE sets STILL_PENDING or is refused while STILL_HELD (R500). -/
  | stillTake (d : Word)
  /-- STILL_SNAPSHOT: At the snapshot edge every counter is copied to its shadow, optionally cleared (R500). -/
  | stillSnapshot
  /-- STILL_RELEASE: RELEASE clears STILL_HELD (R503). -/
  | stillRelease (d : Word)
  /-- STILL_AUTO: Every AUTO_S seconds an automatic Still is requested (R503). -/
  | stillAuto
  /-- SILT_POST: A write of OBS_SILT_POST posts a code, updating statistics and keeping or suppressing a record (R507). -/
  | siltPost (req code value : Nat)
  /-- STAT_CLEAR: STAT_CLEAR clears the statistics of every code (R508). -/
  | statClear
  /-- SILT_FLUSH: FLUSH starts a flush of buffered records to the ring (R513). -/
  | siltFlush
  /-- SILT_FLUSH_TIMER: FLUSH_S after the oldest unflushed record a flush starts (R513). -/
  | siltFlushTimer
  /-- SILT_FLUSH_DONE: A flush completes and FLUSH_DONE is set (R513). -/
  | siltFlushDone
  /-- SILT_RING_SCAN: The start-up ring scan completes, restoring operating time and SEQ (R512). -/
  | siltRingScan (dt : Nat)
  /-- OP_HOUR: OBS_OP_HOURS advances and a code-274 record is written (R512). -/
  | opHour
  /-- EDDY_KEY: A write of OBS_EDDY_KEY advances the key sequence, setting or clearing OPEN (R518). -/
  | eddyKey (dt : Nat) (d : Word)
  /-- EDDY_LOCK: LOCK closes Eddy until full reset (R518). -/
  | eddyLock
  /-- EDDY_SEED_WRITE: A write of OBS_EDDY_SEED_k loads the point's LFSR (R519). -/
  | eddySeedWrite (k : Nat) (d : Word)
  /-- EDDY_HOLD_RELEASE: A held frame passes after REORD_N + 1 frames or 1 ms (R520). -/
  | eddyHoldRelease (k : Nat)
  -- Further events
  /-- PCIE_LINK_UP: The PCIe endpoint finishes training, LINK_UP is set in HST_EVT and HST_STAT, and sources raised after the link returns can signal (R550). -/
  | pcieLinkUp (dt width speed : Nat)
  /-- CHARTER_LOADED: At full reset the charter shadows and digest finish loading from the fuses and LOADED is set, ending the TX_CHARTER refusals with reason 1 (R110). -/
  | charterLoaded
  /-- VBAT_RESTORE: VBAT rising back to 1.8 V or above clears the live VBAT_LOW status bit (R435). -/
  | vbatRestore (dt : Nat)
  deriving DecidableEq, Repr

end Sys2Proof
end

