-- ==== Sys2Proof/WellFormed.lean ====
section
/-! DEFINITION. Which commands are well-formed: every operand that names one of a number of like things, or a field of some width, lies in
its range. A sender sends only these; the meanings are stated for all. -/

namespace Sys2Proof

/-- A value fits `w` bits. -/
def fits (w v : Nat) : Bool := decide (v < 2 ^ w)
/-- The TID of an Ocell thread, or Jomuter's (R265). -/
def tidOk (t : Nat) : Bool := decide (t < 128) || t == 129
/-- OPC is assigned (R277–R293). -/
def opcAssigned (k : Nat) : Bool :=
  ([(0x00, 0x09), (0x10, 0x16), (0x18, 0x19), (0x20, 0x25), (0x28, 0x2A), (0x30, 0x33), (0x38, 0x42), (0x48, 0x4E), (0x50, 0x54),
    (0x58, 0x5A), (0x60, 0x71), (0x74, 0x7F)] : List (Nat × Nat)).any fun r => decide (r.1 ≤ k) && decide (k ≤ r.2)
/-- Bits [24:0] of an instruction word, or a whole word whose OPC is not assigned (R273, R275). -/
def wordOk (w : Nat) : Bool := fits 25 w || (fits 32 w && !opcAssigned (w / 2 ^ 25))
/-- One of the 16 chains. -/
def chainOk (j : Nat) : Bool := fits 4 j
/-- A requester (R217). -/
def reqOk (r : Nat) : Bool := decide (r ≤ 129)
/-- An offset in the 128 MiB of BAR0 (R390). -/
def offOk (o : Nat) : Bool := fits 27 o
/-- The width of an access in bytes. -/
def widthIs (w : Nat) : Bool := w == 1 || w == 2 || w == 4 || w == 8

/-- The command is well-formed. -/
def Instr.wf : Instr → Bool
  | .registerWrite a off w _ => reqOk a.req && offOk off && widthIs w
  | .counterRead a => reqOk a.who.req && offOk a.off && widthIs a.width
  | .msixEnable _ _ => true
  | .msixUnmask v => decide (v < 42)
  | .clipInterval _ j _ _ => chainOk j
  | .plmWindowWrite j _ => chainOk j
  | .plmChainCtlWrite j _ => chainOk j
  | .chainPrimed j => chainOk j
  | .chainListening j => chainOk j
  | .chainLeaveListening j => chainOk j
  | .chainParked j => chainOk j
  | .rillEnable j n _ => chainOk j && fits 6 n
  | .rillDisable j n _ => chainOk j && fits 6 n
  | .rillConfigWrite which j n _ => decide (which < 3) && chainOk j && fits 6 n
  | .phyModeWrite m _ => fits 4 m
  | .preambleDetect _ j n _ _ _ => chainOk j && fits 6 n
  | .aerialChoice j n _ _ _ => chainOk j && fits 6 n
  | .aerialChoiceForced _ j n _ _ => chainOk j && fits 6 n
  | .sfdTimeout _ j n => chainOk j && fits 6 n
  | .sfdFound _ j n _ _ _ _ _ _ => chainOk j && fits 6 n
  | .phrReceived _ j n len _ _ _ _ => chainOk j && fits 6 n && fits 11 len
  | .psduByte _ j n _ => chainOk j && fits 6 n
  | .frameEnd _ j n => chainOk j && fits 6 n
  | .blankingEnd j => chainOk j
  | .synWindowWrite j _ => chainOk j
  | .cal j _ => chainOk j
  | .synLock j _ => chainOk j
  | .synFault j => chainOk j
  | .tempCalDue _ j _ => chainOk j
  | .tempCalStart _ j => chainOk j
  | .calStarved j => chainOk j
  | .txWake j _ => chainOk j
  | .txOff j => chainOk j
  | .carrierEnable j k _ => chainOk j && fits 6 k
  | .carrierConfigWrite _ j k _ => chainOk j && fits 6 k
  | .txDescriptor _ src => src.all (fits 8)
  | .charterStageResume src => src.all (fits 8)
  | .coexReqAssert j _ => chainOk j
  | .grantSample j _ _ => chainOk j
  | .grantWithdrawal _ g => fits 2 g
  | .commitPoint j _ => chainOk j
  | .txLate j _ => chainOk j
  | .txswAssert j _ => chainOk j
  | .paAssert j _ => chainOk j
  | .rfStart j _ => chainOk j
  | .lastRf j _ => chainOk j
  | .paRelease j => chainOk j
  | .txswRelease j => chainOk j
  | .lnaActive j => chainOk j
  | .lockLoss _ j => chainOk j
  | .femPolApply j => chainOk j
  | .fuseBlow req => reqOk req
  | .fuseDone => true
  | .digestDone => true
  | .binRotation => true
  | .macEnable _ => true
  | .slotResolve => true
  | .slotStart => true
  | .slotEnd => true
  | .ackWindowClose j _ => chainOk j
  | .spwLoad k => fits 2 k
  | .startFull k => fits 2 k
  | .startRepair k => fits 2 k
  | .merge k base => fits 2 k && fits 24 base
  | .clearMissing k => fits 2 k
  | .suspend k => fits 2 k
  | .resume k => fits 2 k
  | .abort k => fits 2 k
  | .spwFlashReadDone _ k => fits 2 k
  | .spwSlotSkip k => fits 2 k
  | .sluiceHeader _ => true
  | .wiredPacket port => decide (16 ≤ port) && decide (port ≤ 21)
  | .sluiceCommit _ => true
  | .search req ws => reqOk req && ws.length == 6
  | .next req ws => reqOk req && ws.length == 6
  | .insert req ws => reqOk req && ws.length == 6
  | .update req ws => reqOk req && ws.length == 6
  | .delete req ws => reqOk req && ws.length == 6
  | .flushPort req ws => reqOk req && ws.length == 6
  | .flushPortDone => true
  | .scanTimeout => true
  | .agerVisit => true
  | .relocSeedWrite _ => true
  | .recon index => fits 16 index
  | .enrol index => fits 16 index
  | .refresh index => fits 16 index
  | .sealRoot index => fits 16 index
  | .grtLoad index => fits 16 index
  | .provision index => fits 16 index
  | .rekeyNet index => fits 16 index
  | .importGroup index => fits 16 index
  | .retireGroup index => fits 16 index
  | .importOvr index => fits 16 index
  | .clearOvr index => fits 16 index
  | .exportPage index => fits 16 index
  | .floorCommit index => fits 16 index
  | .attest index => fits 16 index
  | .grtBlow index => fits 16 index
  | .debugExport index => fits 16 index
  | .grtCmdDone => true
  | .invalidationSweepDone => true
  | .msgErase => true
  | .keyReady _ => true
  | .verifyJobStart _ => true
  | .verifyDone _ => true
  | .protectJobStart j _ => chainOk j
  | .protectDone j _ => chainOk j
  | .maskRefresh => true
  | .drbgReseed => true
  | .drbgHealthFail _ _ => true
  | .unlockChal _ => true
  | .unlockResp _ resp => resp.length == 64
  | .add t w => tidOk t && wordOk w
  | .sub t w => tidOk t && wordOk w
  | .and t w => tidOk t && wordOk w
  | .or t w => tidOk t && wordOk w
  | .xor t w => tidOk t && wordOk w
  | .sll t w => tidOk t && wordOk w
  | .srl t w => tidOk t && wordOk w
  | .sra t w => tidOk t && wordOk w
  | .mul t w => tidOk t && wordOk w
  | .sel t w => tidOk t && wordOk w
  | .addi t w => tidOk t && wordOk w
  | .andi t w => tidOk t && wordOk w
  | .ori t w => tidOk t && wordOk w
  | .xori t w => tidOk t && wordOk w
  | .slli t w => tidOk t && wordOk w
  | .srli t w => tidOk t && wordOk w
  | .srai t w => tidOk t && wordOk w
  | .li t w => tidOk t && wordOk w
  | .lih t w => tidOk t && wordOk w
  | .ceq t w => tidOk t && wordOk w
  | .cne t w => tidOk t && wordOk w
  | .clt t w => tidOk t && wordOk w
  | .cltu t w => tidOk t && wordOk w
  | .cge t w => tidOk t && wordOk w
  | .cgeu t w => tidOk t && wordOk w
  | .pand t w => tidOk t && wordOk w
  | .por t w => tidOk t && wordOk w
  | .pnot t w => tidOk t && wordOk w
  | .br t w => tidOk t && wordOk w
  | .call t w => tidOk t && wordOk w
  | .jalr t w => tidOk t && wordOk w
  | .dbnz t w => tidOk t && wordOk w
  | .ldb t w => tidOk t && wordOk w
  | .ldh t w => tidOk t && wordOk w
  | .ldw t w => tidOk t && wordOk w
  | .ldd t w => tidOk t && wordOk w
  | .stb t w => tidOk t && wordOk w
  | .sth t w => tidOk t && wordOk w
  | .stw t w => tidOk t && wordOk w
  | .std t w => tidOk t && wordOk w
  | .amoadd t w => tidOk t && wordOk w
  | .cas t w => tidOk t && wordOk w
  | .fenceFull t w => tidOk t && wordOk w
  | .fenceSt t w => tidOk t && wordOk w
  | .fenceRn t w => tidOk t && wordOk w
  | .push t w => tidOk t && wordOk w
  | .push4 t w => tidOk t && wordOk w
  | .tpush t w => tidOk t && wordOk w
  | .pop t w => tidOk t && wordOk w
  | .pop4 t w => tidOk t && wordOk w
  | .popw t w => tidOk t && wordOk w
  | .rlev t w => tidOk t && wordOk w
  | .pushRoom t => tidOk t
  | .popWordArrive t => tidOk t
  | .popwTimeout t => tidOk t
  | .now t w => tidOk t && wordOk w
  | .nowf t w => tidOk t && wordOk w
  | .asn t w => tidOk t && wordOk w
  | .waitt t w => tidOk t && wordOk w
  | .waittRelease t => tidOk t
  | .a2t t w => tidOk t && wordOk w
  | .tcmd t w => tidOk t && wordOk w
  | .tcmdAccept t => tidOk t
  | .tfind t w => tidOk t && wordOk w
  | .tfindResult t => tidOk t
  | .trd t w => tidOk t && wordOk w
  | .hmk t w => tidOk t && wordOk w
  | .hget t w => tidOk t && wordOk w
  | .hldb t w => tidOk t && wordOk w
  | .hldd t w => tidOk t && wordOk w
  | .hstb t w => tidOk t && wordOk w
  | .hstd t w => tidOk t && wordOk w
  | .halloc t w => tidOk t && wordOk w
  | .hfree t w => tidOk t && wordOk w
  | .bfx t w => tidOk t && wordOk w
  | .bfxs t w => tidOk t && wordOk w
  | .bfi t w => tidOk t && wordOk w
  | .clz t w => tidOk t && wordOk w
  | .bswap t w => tidOk t && wordOk w
  | .crc32cb t w => tidOk t && wordOk w
  | .crc32cd t w => tidOk t && wordOk w
  | .crc32b t w => tidOk t && wordOk w
  | .crc32d t w => tidOk t && wordOk w
  | .crc16b t w => tidOk t && wordOk w
  | .shab t w => tidOk t && wordOk w
  | .aesb t w => tidOk t && wordOk w
  | .rnd t w => tidOk t && wordOk w
  | .rndReady t => tidOk t
  | .spb t w => tidOk t && wordOk w
  | .sps t w => tidOk t && wordOk w
  | .spd t w => tidOk t && wordOk w
  | .mfs t w => tidOk t && wordOk w
  | .mts t w => tidOk t && wordOk w
  | .trap t w => tidOk t && wordOk w
  | .eret t w => tidOk t && wordOk w
  | .yield t w => tidOk t && wordOk w
  | .brk t w => tidOk t && wordOk w
  | .registerWindowDone t => tidOk t
  | .thrStart t _ => fits 7 t
  | .thrStop t _ => fits 7 t
  | .thrHalt t _ => fits 7 t
  | .thrResume t _ => fits 7 t
  | .dbgDataWrite t _ => fits 7 t
  | .jDbgHalt _ => true
  | .jDbgResume _ => true
  | .watchdogExpiry t => tidOk t
  | .coreWedge _ k => decide (k ≤ 32)
  | .runnelEnable n _ => fits 8 n
  | .runnelDisable n _ => fits 8 n
  | .runnelDisableDone n => fits 8 n
  | .enginePushRoom n => fits 8 n
  | .hostPush _ => true
  | .hostPop a => fits 8 a.n
  | .runnelFlush n => fits 8 n
  | .flushDone n => fits 8 n
  | .hostAlloc _ => true
  | .hostAllocDone => true
  | .hostFree _ => true
  | .cisternTrimCorrect => true
  | .nowSRead _ => true
  | .set _ => true
  | .step _ => true
  | .arm _ => true
  | .disarm _ => true
  | .masterChg _ => true
  | .resetI _ => true
  | .ofsSample _ _ => true
  | .slewEnd => true
  | .holdover => true
  | .ppsInEdge _ => true
  | .ppsMiss => true
  | .ppsOutAssert => true
  | .ppsOutRelease => true
  | .asnStart => true
  | .ethEnable p _ => fits 2 p
  | .ethRxFrame _ p _ _ => fits 2 p
  | .ethTxRecord _ p => fits 2 p
  | .ethTxDone _ p => fits 2 p
  | .ethLinkUp _ p => fits 2 p
  | .ethLinkDown _ p _ => fits 2 p
  | .bar2Access _ _ o _ _ => fits 24 o
  | .pcieLinkDown _ _ => true
  | .hotReset _ _ => true
  | .busMasterClear _ _ _ => true
  | .pciePerst _ _ => true
  | .ringEnable n _ => fits 4 n
  | .ringDisable n _ _ => fits 4 n
  | .ringDoorbell n idx => fits 4 n && fits 16 idx
  | .ringDmaReadDone _ n _ => fits 4 n
  | .ringRecordPop _ n => fits 4 n
  | .ringCoalTimer n => fits 4 n
  | .ringDmaError _ n => fits 4 n
  | .hostIngressRecord _ => true
  | .spiRegRead32 _ off _ => offOk off
  | .spiRegRead64 _ off _ => offOk off
  | .spiRegWrite32 _ off _ => offOk off
  | .spiRegWrite64 _ off _ => offOk off
  | .spiPktRead _ o _ => fits 24 o
  | .spiPktWrite _ o _ => fits 24 o
  | .spiStatusRead _ => true
  | .spiBadTransaction _ => true
  | .flashDiscoveryDone _ _ _ => true
  | .flsRead i _ => fits 1 i
  | .flsProgram i _ => fits 1 i
  | .erase4k i => fits 1 i
  | .erase64k i => fits 1 i
  | .flsCmdDone _ _ => true
  | .resetRelease _ _ _ => true
  | .memoryInitDone _ m => decide (m < 78)
  | .jetLock _ k => decide (k < 7)
  | .jetLockTimeout k => decide (k < 7)
  | .chainWakeRequest j => chainOk j
  | .clusterStop c => fits 2 c
  | .clusterWake c => fits 2 c
  | .sscApply => true
  | .dormantEnter _ => true
  | .dormantAlarm => true
  | .wakeNWake _ => true
  | .pfailDetect _ _ => true
  | .brownOut _ => true
  | .pfailReset _ => true
  | .powerRestart _ _ _ => true
  | .softReset _ => true
  | .rstNAssert _ => true
  | .vbatLoss _ => true
  | .cisternSupplySwitch _ _ => true
  | .vbatLow _ => true
  | .skimStart m => fits 8 m
  | .skimAbort => true
  | .skimWord _ => true
  | .skimDone => true
  | .flipArm _ => true
  | .flipLock => true
  | .twinEnable _ => true
  | .pairWaitExpiry => true
  | .twinLaneLock _ k _ => fits 1 k
  | .heartbeatSend => true
  | .heartbeat _ seq stamp _ _ => fits 16 seq && fits 32 stamp
  | .linkSilence => true
  | .mirrorSend => true
  | .mirror _ seq stamp _ _ => fits 16 seq && fits 32 stamp
  | .resync _ seq stamp _ => fits 16 seq && fits 32 stamp
  | .twnResync => true
  | .syncEnd _ seq stamp _ => fits 16 seq && fits 32 stamp
  | .takeoverDecision _ => true
  | .takeover _ seq stamp _ _ => fits 16 seq && fits 32 stamp
  | .suspectWindowEnd => true
  | .twnHandover => true
  | .handoverSend _ => true
  | .handover _ seq stamp _ _ => fits 16 seq && fits 32 stamp
  | .goodbye _ seq stamp _ _ => fits 16 seq && fits 32 stamp
  | .packet _ seq stamp _ _ => fits 16 seq && fits 32 stamp
  | .twinTxRecord _ => true
  | .bootRomStart _ => true
  | .activate _ req => reqOk req
  | .stillTake _ => true
  | .stillSnapshot => true
  | .stillRelease _ => true
  | .stillAuto => true
  | .siltPost req code value => reqOk req && fits 9 code && fits 32 value
  | .statClear => true
  | .siltFlush => true
  | .siltFlushTimer => true
  | .siltFlushDone => true
  | .siltRingScan _ => true
  | .opHour => true
  | .eddyKey _ _ => true
  | .eddyLock => true
  | .eddySeedWrite k _ => decide (k < 10)
  | .eddyHoldRelease k => decide (k < 10)
  | .pcieLinkUp _ _ _ => true
  | .charterLoaded => true
  | .vbatRestore _ => true

end Sys2Proof
end

