-- ==== Sys2Proof/Decode.lean ====
section
/-! DEFINITION. The decoder. The rows of the opcode table give no bits, so no word of the table spells a command; an Ocell instruction word
names its command by OPC (R273). -/

namespace Sys2Proof

/-- The command that a word spells by the table's bits: none, since the table gives no row any bits. -/
def decodeTableWord (_nbits _w : Nat) : Option Instr := none

/-- The command of opcode `k` for thread `t` with bits [24:0] in `w`, where the opcode is assigned (R277–R293); PX names the kind of a fence. -/
def ocellOp (k t w : Nat) : Option Instr :=
  match k with
  | 0x00 => some (.add t w)
  | 0x01 => some (.sub t w)
  | 0x02 => some (.and t w)
  | 0x03 => some (.or t w)
  | 0x04 => some (.xor t w)
  | 0x05 => some (.sll t w)
  | 0x06 => some (.srl t w)
  | 0x07 => some (.sra t w)
  | 0x08 => some (.mul t w)
  | 0x09 => some (.sel t w)
  | 0x10 => some (.addi t w)
  | 0x11 => some (.andi t w)
  | 0x12 => some (.ori t w)
  | 0x13 => some (.xori t w)
  | 0x14 => some (.slli t w)
  | 0x15 => some (.srli t w)
  | 0x16 => some (.srai t w)
  | 0x18 => some (.li t w)
  | 0x19 => some (.lih t w)
  | 0x20 => some (.ceq t w)
  | 0x21 => some (.cne t w)
  | 0x22 => some (.clt t w)
  | 0x23 => some (.cltu t w)
  | 0x24 => some (.cge t w)
  | 0x25 => some (.cgeu t w)
  | 0x28 => some (.pand t w)
  | 0x29 => some (.por t w)
  | 0x2A => some (.pnot t w)
  | 0x30 => some (.br t w)
  | 0x31 => some (.call t w)
  | 0x32 => some (.jalr t w)
  | 0x33 => some (.dbnz t w)
  | 0x38 => some (.ldb t w)
  | 0x39 => some (.ldh t w)
  | 0x3A => some (.ldw t w)
  | 0x3B => some (.ldd t w)
  | 0x3C => some (.stb t w)
  | 0x3D => some (.sth t w)
  | 0x3E => some (.stw t w)
  | 0x3F => some (.std t w)
  | 0x40 => some (.amoadd t w)
  | 0x41 => some (.cas t w)
  | 0x42 => some (if w % 8 = 1 then .fenceSt t w else if w % 8 = 2 then .fenceRn t w else .fenceFull t w)
  | 0x48 => some (.push t w)
  | 0x49 => some (.push4 t w)
  | 0x4A => some (.tpush t w)
  | 0x4B => some (.pop t w)
  | 0x4C => some (.pop4 t w)
  | 0x4D => some (.popw t w)
  | 0x4E => some (.rlev t w)
  | 0x50 => some (.now t w)
  | 0x51 => some (.nowf t w)
  | 0x52 => some (.asn t w)
  | 0x53 => some (.waitt t w)
  | 0x54 => some (.a2t t w)
  | 0x58 => some (.tcmd t w)
  | 0x59 => some (.tfind t w)
  | 0x5A => some (.trd t w)
  | 0x60 => some (.hmk t w)
  | 0x61 => some (.hget t w)
  | 0x62 => some (.hldb t w)
  | 0x63 => some (.hldd t w)
  | 0x64 => some (.hstb t w)
  | 0x65 => some (.hstd t w)
  | 0x66 => some (.halloc t w)
  | 0x67 => some (.hfree t w)
  | 0x68 => some (.bfx t w)
  | 0x69 => some (.bfxs t w)
  | 0x6A => some (.bfi t w)
  | 0x6B => some (.clz t w)
  | 0x6C => some (.bswap t w)
  | 0x6D => some (.crc32cb t w)
  | 0x6E => some (.crc32cd t w)
  | 0x6F => some (.crc32b t w)
  | 0x70 => some (.crc32d t w)
  | 0x71 => some (.crc16b t w)
  | 0x74 => some (.shab t w)
  | 0x75 => some (.aesb t w)
  | 0x76 => some (.rnd t w)
  | 0x77 => some (.spb t w)
  | 0x78 => some (.sps t w)
  | 0x79 => some (.spd t w)
  | 0x7A => some (.mfs t w)
  | 0x7B => some (.mts t w)
  | 0x7C => some (.trap t w)
  | 0x7D => some (.eret t w)
  | 0x7E => some (.yield t w)
  | 0x7F => some (.brk t w)
  | _ => none

/-- The command that an instruction word spells for thread `t`: by OPC, with bits [24:0] as operands (R273). A word whose OPC is not assigned is
no row's; it goes to the first row whole, which raises ILLEGAL on it (R275). -/
def decodeOcell (t word : Nat) : Instr := (ocellOp (word / 2 ^ 25 % 128) t (word % 2 ^ 25)).getD (.add t (word % 2 ^ 32))

end Sys2Proof
end

