-- ==== Sys2Proof/Machine/Crypto.lean ====
section
/-! DEFINITION. The cryptographic functions the manual names, in full: SHA-256 (FIPS 180-4), HMAC-SHA-256, AES-128 (FIPS 197),
AES-CMAC, the CCM* mode of IEEE 802.15.4, AES key wrap (RFC 3394) and ECDSA verification over P-256. -/

namespace Sys2Proof.Machine

/-! ## SHA-256 -/

/-- The 32-bit words of a number of `8 * n` bytes, most significant word first. -/
def words32 (n v : Nat) : List Nat := (List.range (2 * n)).map fun k => bits v (64 * n - 32 * (k + 1)) 32

/-- The round constants of SHA-256, eight to a number: bits 31–0 of the cube roots of the first 64 primes, times 2³². -/
def shaK : List Nat :=
  [0x428a2f9871374491b5c0fbcfe9b5dba53956c25b59f111f1923f82a4ab1c5ed5,
   0xd807aa9812835b01243185be550c7dc372be5d7480deb1fe9bdc06a7c19bf174,
   0xe49b69c1efbe47860fc19dc6240ca1cc2de92c6f4a7484aa5cb0a9dc76f988da,
   0x983e5152a831c66db00327c8bf597fc7c6e00bf3d5a7914706ca635114292967,
   0x27b70a852e1b21384d2c6dfc53380d13650a7354766a0abb81c2c92e92722c85,
   0xa2bfe8a1a81a664bc24b8b70c76c51a3d192e819d6990624f40e3585106aa070,
   0x19a4c1161e376c082748774c34b0bcb5391c0cb34ed8aa4a5b9cca4f682e6ff3,
   0x748f82ee78a5636f84c878148cc7020890befffaa4506cebbef9a3f7c67178f2].flatMap (words32 4)

/-- The initial hash value of SHA-256: bits 31–0 of the square roots of the first 8 primes, times 2³². -/
def shaInit : List Nat := words32 4 0x6a09e667bb67ae853c6ef372a54ff53a510e527f9b05688c1f83d9ab5be0cd19

/-- Rotate a 32-bit word right. -/
def rotr32 (n x : Nat) : Nat := x / 2 ^ n + x % 2 ^ n * 2 ^ (32 - n)

/-- The complement of a 32-bit word. -/
def not32 (x : Nat) : Nat := 2 ^ 32 - 1 - x

/-- The message schedule, newest word first: `n` more words. -/
def shaSchedule : Nat → List Nat → List Nat
  | 0, ws => ws
  | n + 1, ws =>
    let a := ws.getD 1 0
    let b := ws.getD 14 0
    let s1 := rotr32 17 a ^^^ rotr32 19 a ^^^ (a / 2 ^ 10)
    let s0 := rotr32 7 b ^^^ rotr32 18 b ^^^ (b / 2 ^ 3)
    shaSchedule n (((s1 + ws.getD 6 0 + s0 + ws.getD 15 0) % 2 ^ 32) :: ws)

/-- One round of SHA-256 over the state [a, b, c, d, e, f, g, h]. -/
def shaRound (st : List Nat) (kw : Nat × Nat) : List Nat :=
  match st with
  | [a, b, c, d, e, f, g, h] =>
    let t1 := h + (rotr32 6 e ^^^ rotr32 11 e ^^^ rotr32 25 e) + ((e &&& f) ^^^ (not32 e &&& g)) + kw.1 + kw.2
    let t2 := (rotr32 2 a ^^^ rotr32 13 a ^^^ rotr32 22 a) + ((a &&& b) ^^^ (a &&& c) ^^^ (b &&& c))
    [(t1 + t2) % 2 ^ 32, a, b, c, (d + t1) % 2 ^ 32, e, f, g]
  | st => st

/-- One SHA-256 compression: sixteen big-endian 32-bit words into an eight-word state. -/
def shaCompress (h ws : List Nat) : List Nat :=
  let sched := (shaSchedule 48 ws.reverse).reverse
  List.zipWith (fun a b => (a + b) % 2 ^ 32) h ((shaK.zip sched).foldl shaRound h)

/-- A byte string cut into pieces of `n` bytes, at most `fuel` of them. -/
def pieces (n : Nat) : Nat → List Byte → List (List Byte)
  | 0, _ => []
  | _, [] => []
  | fuel + 1, bs => bs.take n :: pieces n fuel (bs.drop n)

/-- A 64-byte block as sixteen big-endian words. -/
def shaWords (b : List Byte) : List Nat := (pieces 4 16 b).map ofBe

/-- SHA-256's padding of a message. -/
def shaPad (m : List Byte) : List Byte :=
  m ++ [0x80] ++ List.replicate ((119 - m.length % 64) % 64) 0 ++ beBytes 8 (8 * m.length)

/-- SHA-256 (FIPS 180-4). -/
def sha256 (m : List Byte) : List Byte :=
  let p := shaPad m
  ((pieces 64 (p.length / 64) p).foldl (fun h b => shaCompress h (shaWords b)) shaInit).flatMap (beBytes 4)

/-- HMAC-SHA-256. -/
def hmacSha256 (key msg : List Byte) : List Byte :=
  let k := if key.length > 64 then sha256 key else key
  let k := k ++ List.replicate (64 - k.length) 0
  sha256 (k.map (· ^^^ 0x5C) ++ sha256 (k.map (· ^^^ 0x36) ++ msg))

/-! ## AES-128 -/

/-- Multiplication by x in the field of AES. -/
def xtime (a : Nat) : Nat := if a < 128 then 2 * a else (2 * a % 256) ^^^ 0x1B

/-- Multiplication in the field of AES, by the bits of the second factor. -/
def gmulBits : Nat → Nat → Nat → Nat
  | 0, _, _ => 0
  | n + 1, a, b => (if b % 2 = 1 then a else 0) ^^^ gmulBits n (xtime a) (b / 2)

/-- Multiplication in the field of AES by a coefficient of MixColumns, which is below 16. -/
def gmul (a b : Nat) : Nat := gmulBits 4 a b

/-- The S-box of AES (FIPS 197, figure 7), the byte for 0 lowest. -/
def sboxTable : Nat :=
  0x75b227ebe28012079a059618c323c7041531d871f1e5a534ccf73f362693fdb7c072a49cafa2d4adf04759fa7dc982ca76abd7fe2b670130c56f6bf27b777c63 +
    2 ^ 512 * (0xd2f3ff1021dab6bcf5389d928f40a351a89f3c507f02f94585334d43fbaaefd0cf584c4a39becb6a5bb1fc20ed00d153842fe329b3d63b52a05a6e1b1a2c8309 +
    2 ^ 512 * (0x08ae7a65eaf4566ca94ed58d6d37c8e779e4959162acd3c25c2406490a3a32e0db0b5ede14b8ee4688902a22dc4f816073195d643d7ea7c41744975fec130ccd +
    2 ^ 512 * (0x16bb54b00f2d99416842e6bf0d89a18cdf2855cee9871e9b948ed9691198f8e19e1dc186b95735610ef6034866b53e708a8bbd4b1f74dde8c6b4a61c2e2578ba)))

/-- The inverse S-box of AES (FIPS 197, figure 14), the byte for 0 lowest. -/
def invSboxTable : Nat :=
  0x25d18b6d49a25b76b224d92866a12e084ec3fa420b954cee3d23c2a632947b54cbe9dec444438e3487ff2f9b8239e37cfbd7f3819ea340bf38a53630d56a0952 +
    2 ^ 512 * (0x6b8a130103bdafc1020f3fca8f1e2cd00645b3b80558e4f70ad3bc8c00abd890849d8da75746155edab9edfd5048706c92b6655dcc5ca4d41698688664f6f872 +
    2 ^ 512 * (0xf45acd78fec0db9a2079d2c64b3e56fc1bbe18aa0e62b76f89c5291d711af1476edf751ce837f9e28535ade72274ac9673e6b4f0cecff297eadc674f4111913a +
    2 ^ 512 * (0x7d0c2155631469e126d677ba7e042b17619953833cbbebc8b0f52aae4d3be0a0ef9cc9939f7ae52d0d4ab519a97f51605fec8027591012b131c7078833a8dd1f)))

/-- The S-box of AES. -/
def sbox (a : Nat) : Nat := bits sboxTable (8 * a) 8

/-- The inverse S-box of AES. -/
def invSbox (a : Nat) : Nat := bits invSboxTable (8 * a) 8

/-- The next round key of AES-128 from the last and its round constant. -/
def aesNextKey (rc : Nat) (k : List Nat) : List Nat :=
  let t := [sbox (k.getD 13 0) ^^^ rc, sbox (k.getD 14 0), sbox (k.getD 15 0), sbox (k.getD 12 0)]
  let w0 := List.zipWith (· ^^^ ·) (k.take 4) t
  let w1 := List.zipWith (· ^^^ ·) ((k.drop 4).take 4) w0
  let w2 := List.zipWith (· ^^^ ·) ((k.drop 8).take 4) w1
  let w3 := List.zipWith (· ^^^ ·) (k.drop 12) w2
  w0 ++ w1 ++ w2 ++ w3

/-- The round keys of AES-128. -/
def aesKeys (key : List Nat) : List (List Nat) :=
  ([1, 2, 4, 8, 16, 32, 64, 128, 27, 54].foldl (fun acc rc => aesNextKey rc (acc.headD key) :: acc) [key]).reverse

/-- ShiftRows on the sixteen bytes in order. -/
def shiftRows (st : List Nat) : List Nat :=
  [0, 5, 10, 15, 4, 9, 14, 3, 8, 13, 2, 7, 12, 1, 6, 11].map fun i => st.getD i 0

/-- Its inverse. -/
def invShiftRows (st : List Nat) : List Nat :=
  [0, 13, 10, 7, 4, 1, 14, 11, 8, 5, 2, 15, 12, 9, 6, 3].map fun i => st.getD i 0

/-- MixColumns with the coefficients of one row. -/
def mixWith (c : List Nat) (st : List Nat) : List Nat :=
  (List.range 16).map fun i =>
    let col := 4 * (i / 4)
    let r := i % 4
    (List.range 4).foldl (fun a k => a ^^^ gmul (st.getD (col + (r + k) % 4) 0) (c.getD k 0)) 0

/-- Byte-wise exclusive or. -/
def xorL (a b : List Nat) : List Nat := List.zipWith (· ^^^ ·) a b

/-- The rounds of AES over one block, under the round keys in order. -/
def aesRounds (ks : List (List Nat)) (blk : List Nat) : List Nat :=
  let st := ((ks.drop 1).dropLast).foldl (fun st k => xorL (mixWith [2, 3, 1, 1] (shiftRows (st.map sbox))) k) (xorL blk (ks.headD []))
  xorL (shiftRows (st.map sbox)) (ks.getLastD [])

/-- AES-128 encryption of one block. -/
def aesEncN (key blk : List Nat) : List Nat := aesRounds (aesKeys key) blk

/-- AES-128 decryption of one block. -/
def aesDecN (key blk : List Nat) : List Nat :=
  match (aesKeys key).reverse with
  | k0 :: ks =>
    let st := (ks.take 9).foldl
      (fun st k => mixWith [14, 11, 13, 9] (xorL ((invShiftRows st).map invSbox) k)) (xorL blk k0)
    xorL ((invShiftRows st).map invSbox) (ks.getD 9 [])
  | [] => blk

/-- AES-128 encryption of 16 bytes. -/
def aesEnc (key blk : List Byte) : List Byte :=
  (aesEncN (key.map (·.toNat)) (blk.map (·.toNat))).map (BitVec.ofNat 8)

/-- AES-128 decryption of 16 bytes. -/
def aesDec (key blk : List Byte) : List Byte :=
  (aesDecN (key.map (·.toNat)) (blk.map (·.toNat))).map (BitVec.ofNat 8)

/-! ## AES-256 and the CTR_DRBG of NIST SP 800-90A -/

/-- The next word of AES-256's key schedule, from the words before it, newest first. -/
def aes256Word (ws : List (List Nat)) : List Nat :=
  let i := ws.length
  let t := ws.headD []
  let t :=
    if i % 8 = 0 then xorL ((t.drop 1 ++ t.take 1).map sbox) [2 ^ (i / 8 - 1), 0, 0, 0]
    else if i % 8 = 4 then t.map sbox else t
  xorL (ws.getD 7 []) t

/-- `n` more words of the key schedule. -/
def aes256Words : Nat → List (List Nat) → List (List Nat)
  | 0, ws => ws
  | n + 1, ws => aes256Words n (aes256Word ws :: ws)

/-- The fifteen round keys of AES-256. -/
def aes256Keys (key : List Nat) : List (List Nat) :=
  let ws := (aes256Words 52 ((List.range 8).map fun k => (key.drop (4 * k)).take 4).reverse).reverse
  (List.range 15).map fun r => ((ws.drop (4 * r)).take 4).flatten

/-- AES-256 encryption of a 128-bit number under a 256-bit key, both read most significant byte first. -/
def aes256 (key blk : Nat) : Nat :=
  let bytes (n v : Nat) : List Nat := (beBytes n v).map (·.toNat)
  ofBe ((aesRounds (aes256Keys (bytes 32 key)) (bytes 16 blk)).map (BitVec.ofNat 8))

/-- `n` blocks of a CTR_DRBG's output as one number: its Key over V + 1, V + 2 and on. -/
def drbgBlocks (key v n : Nat) : Nat := (List.range n).foldl (fun a k => a * 2 ^ 128 + aes256 key ((v + k + 1) % 2 ^ 128)) 0

/-- CTR_DRBG_Update: Key and V under 384 bits of provided data. -/
def drbgUpdate (key v data : Nat) : Nat × Nat :=
  let t := drbgBlocks key v 3 ^^^ data
  (t / 2 ^ 128, t % 2 ^ 128)

/-- Byte-wise exclusive or of byte strings, to the shorter length. -/
def xorB (a b : List Byte) : List Byte := List.zipWith (· ^^^ ·) a b

/-! ## AES-CMAC -/

/-- Doubling in the field of CMAC. -/
def cmacDouble (b : List Byte) : List Byte :=
  let x := ofBe b
  beBytes 16 (if x < 2 ^ 127 then 2 * x else (2 * x % 2 ^ 128) ^^^ 0x87)

/-- CBC-MAC over whole blocks from a start value. -/
def cbcMac (key : List Byte) (iv : List Byte) (blocks : List (List Byte)) : List Byte :=
  blocks.foldl (fun x b => aesEnc key (xorB x b)) iv

/-- A block padded with zeros to 16 bytes. -/
def pad16 (b : List Byte) : List Byte := b ++ List.replicate (16 - b.length) 0

/-- AES-CMAC. -/
def aesCmac (key msg : List Byte) : List Byte :=
  let k1 := cmacDouble (aesEnc key (List.replicate 16 0))
  let k2 := cmacDouble k1
  let n := if msg.isEmpty then 1 else (msg.length + 15) / 16
  let head := msg.take (16 * (n - 1))
  let last := msg.drop (16 * (n - 1))
  let fin := if last.length = 16 then xorB last k1 else xorB (pad16 (last ++ [0x80])) k2
  cbcMac key (List.replicate 16 0) (pieces 16 (n - 1) head ++ [fin])

/-! ## CCM* -/

/-- The key stream block `i` of CCM* (length field of 2 octets, 13-octet nonce). -/
def ccmStream (key nonce : List Byte) (i : Nat) : List Byte := aesEnc key ([1] ++ nonce ++ beBytes 2 i)

/-- The cipher of CCM*: the text XOR the key stream from block 1. -/
def ccmCrypt (key nonce text : List Byte) : List Byte :=
  xorB text ((List.range ((text.length + 15) / 16)).flatMap fun i => ccmStream key nonce (i + 1))

/-- The unencrypted tag of CCM* with a MIC of `m` bytes (0, 4, 8 or 16) over `a` data and the plain text. -/
def ccmTag (key nonce a text : List Byte) (m : Nat) : List Byte :=
  let flags := (if a.isEmpty then 0 else 64) + 8 * ((m - 2) / 2) + 1
  let b0 := [BitVec.ofNat 8 flags] ++ nonce ++ beBytes 2 text.length
  let aData := if a.isEmpty then [] else beBytes 2 a.length ++ a
  let blocks (x : List Byte) := (pieces 16 ((x.length + 15) / 16) x).map pad16
  (cbcMac key (List.replicate 16 0) ([b0] ++ blocks aData ++ blocks text)).take m

/-- The MIC of CCM*: the tag XOR key stream block 0. -/
def ccmMic (key nonce a text : List Byte) (m : Nat) : List Byte :=
  xorB (ccmTag key nonce a text m) (ccmStream key nonce 0)

/-! ## AES key wrap (RFC 3394) -/

/-- One step of the wrapping loop: the counter, the key, the register A and the list of 8-byte blocks with the one in turn first. -/
def wrapStep (kek : List Byte) (st : List Byte × List (List Byte)) (t : Nat) : List Byte × List (List Byte) :=
  match st.2 with
  | r :: rs =>
    let b := aesEnc kek (st.1 ++ r)
    (xorB (b.take 8) (beBytes 8 t), rs ++ [b.drop 8])
  | [] => st

/-- AES key wrap of whole 8-byte blocks. -/
def keyWrap (kek plain : List Byte) : List Byte :=
  let n := plain.length / 8
  let r := (List.range (6 * n)).foldl (fun st t => wrapStep kek st (t + 1)) (List.replicate 8 0xA6, pieces 8 n plain)
  r.1 ++ r.2.flatten

/-- One step of the unwrapping loop. -/
def unwrapStep (kek : List Byte) (st : List Byte × List (List Byte)) (t : Nat) : List Byte × List (List Byte) :=
  match st.2.reverse with
  | r :: rs =>
    let b := aesDec kek (xorB st.1 (beBytes 8 t) ++ r)
    (b.take 8, b.drop 8 :: rs.reverse)
  | [] => st

/-- AES key unwrap: the plain text, or none when the integrity check fails. -/
def keyUnwrap (kek cipher : List Byte) : Option (List Byte) :=
  let n := cipher.length / 8 - 1
  let r := (List.range (6 * n)).foldl (fun st t => unwrapStep kek st (6 * n - t)) (cipher.take 8, pieces 8 n (cipher.drop 8))
  if r.1 = List.replicate 8 0xA6 then some r.2.flatten else none

/-! ## ECDSA over P-256 -/

/-- The prime of P-256. -/
def p256p : Nat := 0xFFFFFFFF00000001000000000000000000000000FFFFFFFFFFFFFFFFFFFFFFFF
/-- The order of P-256's base point. -/
def p256n : Nat := 0xFFFFFFFF00000000FFFFFFFFFFFFFFFFBCE6FAADA7179E84F3B9CAC2FC632551
/-- The constant b of P-256. -/
def p256b : Nat := 0x5AC635D8AA3A93E7B3EBBD55769886BC651D06B0CC53B0F63BCE3C3E27D2604B
/-- The base point of P-256. -/
def p256g : Nat × Nat :=
  (0x6B17D1F2E12C4247F8BCE6E563A440F277037D812DEB33A0F4A13945D898C296,
   0x4FE342E2FE1A7F9B8EE7EB4A7C0F9E162BCE33576B315ECECBB6406837BF51F5)

/-- Exponentiation modulo `m` over the low `k` bits of the exponent. -/
def powMod (m : Nat) : Nat → Nat → Nat → Nat
  | 0, _, _ => 1 % m
  | k + 1, b, e => (if e % 2 = 1 then b else 1) * powMod m k (b * b % m) (e / 2) % m

/-- The inverse modulo a 256-bit prime. -/
def invMod (m a : Nat) : Nat := powMod m 256 a (m - 2)

/-- Addition of affine points of P-256; `none` is the point at infinity. -/
def ecAdd : Option (Nat × Nat) → Option (Nat × Nat) → Option (Nat × Nat)
  | none, q => q
  | p, none => p
  | some (x1, y1), some (x2, y2) =>
    if x1 = x2 ∧ (y1 + y2) % p256p = 0 then none
    else
      let l := if x1 = x2
        then (3 * (x1 * x1) + (p256p - 3)) * invMod p256p (2 * y1 % p256p) % p256p
        else (y2 + p256p - y1) * invMod p256p ((x2 + p256p - x1) % p256p) % p256p
      let x3 := (l * l + 2 * p256p - x1 - x2) % p256p
      some (x3, (l * (x1 + p256p - x3) + p256p - y1) % p256p)

/-- Scalar multiplication over the low `k` bits of the scalar. -/
def ecMul : Nat → Nat → Option (Nat × Nat) → Option (Nat × Nat)
  | 0, _, _ => none
  | k + 1, e, p => ecAdd (if e % 2 = 1 then p else none) (ecMul k (e / 2) (ecAdd p p))

/-- ECDSA verification over P-256 with a SHA-256 digest: public point (x, y), signature (r, s). -/
def ecdsaVerify (x y : Nat) (digest : List Byte) (r sg : Nat) : Bool :=
  let onCurve := decide (x < p256p) && decide (y < p256p) &&
    y * y % p256p == (x * x % p256p * x + (p256p - 3) * x + p256b) % p256p
  if onCurve && decide (0 < r) && decide (r < p256n) && decide (0 < sg) && decide (sg < p256n) then
    let w := invMod p256n sg
    let u1 := ofBe digest * w % p256n
    let u2 := r * w % p256n
    match ecAdd (ecMul 256 u1 (some p256g)) (ecMul 256 u2 (some (x, y))) with
    | some (px, _) => px % p256n == r
    | none => false
  else false

end Sys2Proof.Machine
end

