-- ==== Sys2Proof/Config.lean ====
section
/-! DEFINITION. What the manual leaves open: free values. Every constant here is opaque: nothing in Lean can evaluate it,
so a statement about it holds for every value. `State.draw` (a counter the machine reads and advances) picks a fresh one
each time. The log entries under notes/assumptions name each use. -/

namespace Sys2Proof.Config

/-- A 64-bit value the manual does not state (log entry 4). -/
opaque freeValue : Nat → BitVec 64

/-- The seed material of the `n`-th seeding of the device's CTR_DRBG (R260): what the entropy source yields. -/
opaque entropy : Nat → BitVec 384

/-- Where the array of override cells holds each cell, under the value drawn at a start: a permutation that the manual does not
state (R246). -/
opaque cellPerm : Nat → Equiv.Perm (Fin 32768)

/-- Core cycles that spreading its clock takes from a cluster up to an elapsed instant (R426, R427): the manual states the depth and the rate of the
modulation, not its shape. -/
opaque spreadLag : Nat → Nat → Nat

/-- Which of the free cells the `n`-th cell taken is: "any free cells, in no promised order" (R345). -/
opaque cellPick : Nat → Nat

/-- The runnel that takes the TX completions of a chain: the manual names no runnel for them (R17, R340). -/
opaque txCompletionRunnel : Nat → BitVec 8

/-- How the SECDED code decodes an error pattern of three or more flipped bits (R439 states one and two only):
0 taken as good, 1 taken as correctable, anything else uncorrectable. -/
opaque eccDecode : Nat → Nat

/-- What the 32-bit LFSR that draws relocation victims holds after a draw, and which of `n` eligible victims the draw names, from what
it held before (R193 states its seed, not its steps). -/
opaque victimDraw : BitVec 32 → Nat → BitVec 32 × Nat

/-- The start-up value of PUF bit `b` at its `n`-th reading (R226): a property of the part. -/
opaque pufBit : Nat → Nat → Bool

/-- The time in ns of a number of symbols of a PHY mode entry, for the PHYs whose symbol times the manual leaves to IEEE 802.15.4
(R29, R34, R36). -/
opaque symbolTimeNs : Nat → Nat → Nat

/-- The time in ns from RF start to last RF of a frame, by PHY mode entry, MCS and length, for the PHYs whose symbol counts
the manual leaves to IEEE 802.15.4 (R29, R121). -/
opaque airTimeNs : Nat → Nat → Nat → Nat

end Sys2Proof.Config
end

