-- ==== Sys2Proof/Machine/Crc.lean ====
section
/-! DEFINITION. The cyclic redundancy checks the manual names (R188, R289, R511): the shift-register step on one bit, one byte
and a byte string, in the reflected bit order. -/

namespace Sys2Proof.Machine

/-- One bit of a reflected CRC with reflected polynomial `poly`. -/
def crcBitR (poly c : Nat) : Nat := if c % 2 = 1 then (c / 2) ^^^ poly else c / 2

/-- `n` bits of a reflected CRC. -/
def crcBitsR (poly : Nat) : Nat → Nat → Nat
  | 0, c => c
  | n + 1, c => crcBitsR poly n (crcBitR poly c)

/-- One byte into a reflected CRC. -/
def crcByteR (poly c b : Nat) : Nat := crcBitsR poly 8 (c ^^^ b)

/-- A byte string into a reflected CRC register. -/
def crcR (poly c : Nat) (bs : List Byte) : Nat := bs.foldl (fun a b => crcByteR poly a b.toNat) c

/-- The reflected Castagnoli polynomial of CRC-32C. -/
def polyC : Nat := 0x82F63B78

/-- The reflected polynomial of the Ethernet CRC-32. -/
def poly32 : Nat := 0xEDB88320

/-- CRC-32C of a byte string: start all ones, result complemented (R188). -/
def crc32c (bs : List Byte) : Nat := crcR polyC 0xFFFFFFFF bs ^^^ 0xFFFFFFFF

/-- CRC-32 of a byte string as Ethernet and the 4-octet IEEE 802.15.4 FCS form it. -/
def crc32 (bs : List Byte) : Nat := crcR poly32 0xFFFFFFFF bs ^^^ 0xFFFFFFFF

/-- The 2-octet IEEE 802.15.4 FCS: the ITU-T CRC-16, reflected, start 0. -/
def crc16Fcs (bs : List Byte) : Nat := crcR 0x8408 0 bs

end Sys2Proof.Machine
end

