-- ==== Sys2Proof/Machine/RegMap.lean ====
section
/-! DEFINITION. The register map: one name per register of the field tables, with the access code, the bit range and the
reset value of every field (the owning chapters' register tables; R11, R525), and the place of every copy in BAR0 (R523, R524). -/

namespace Sys2Proof.Machine

/-- Every register of the manual, by the manual's name (the register cross-index of 19_register_map.md). `RUN_EVT_N` and
`RUN_IRQ_EN_N` are RUN_EVT_n and RUN_IRQ_EN_n, the per-runnel registers; a name's index letter is dropped. -/
inductive RegId where
  | PLM_BLOCK_ID
  | PLM_PHY_MODE
  | PLM_GLB_EVT
  | PLM_GLB_IRQ_EN
  | PLM_CHAIN_CTL
  | PLM_CHAIN_STAT
  | PLM_WINDOW
  | PLM_CAL
  | PLM_EVT
  | PLM_IRQ_EN
  | PLM_CNT_DETECT
  | PLM_CNT_FALSE_DET
  | PLM_CNT_PHR_REJECT
  | PLM_CNT_NO_CELL
  | PLM_CNT_FCS_FAIL
  | PLM_CNT_BLANKED
  | PLM_CNT_AER_A
  | PLM_CNT_AER_B
  | PLM_CNT_CLIP_A
  | PLM_CNT_CLIP_B
  | PLM_RILL_CFG
  | PLM_RILL_FREQ
  | PLM_RILL_LIM
  | PLM_RILL_STAT
  | PLM_RILL_FRAMES
  | TXF_BLOCK_ID
  | TXF_BLANK_GRP
  | TXF_BLANK_CTL
  | TXF_COEX_GRP
  | TXF_COEX_STAT
  | TXF_CHAIN_CTL
  | TXF_CHAIN_STAT
  | TXF_SYN_WINDOW
  | TXF_SYN_CTL
  | TXF_LEVEL
  | TXF_FEM_CTL
  | TXF_COEX_CTL
  | TXF_EVT
  | TXF_IRQ_EN
  | TXF_CNT_SENT
  | TXF_CNT_LATE
  | TXF_CNT_NO_GRANT
  | TXF_CNT_GRANT_LOST
  | TXF_CNT_SYNTH_FAULT
  | TXF_CNT_CAL
  | TXF_CNT_CAL_DEFER
  | TXF_CNT_CAR_WAIT
  | TXF_CAR_CFG
  | TXF_CAR_FREQ
  | TXF_CAR_STAT
  | CHT_BLOCK_ID
  | CHT_STAT
  | CHT_EVT
  | CHT_IRQ_EN
  | CHT_LAST_REFUSE
  | CHT_BIN_SEL
  | CHT_BIN_DATA
  | CHT_DIGEST
  | CHT_FPROG_ADDR
  | CHT_FPROG_CMD
  | CHT_ENT_CFG
  | CHT_ENT_LOW
  | CHT_ENT_HIGH
  | CHT_ENT_DUTY
  | CHT_ENT_MASK
  | CHT_SWLIM
  | CHT_WEIR_NEAR
  | CHT_WEIR_USED
  | CHT_WEIR_RSV
  | CHT_WEIR_LIMIT
  | CHT_CNT_APPROVED
  | CHT_CNT_REFUSED
  | MAC_BLOCK_ID
  | MAC_CTL
  | MAC_STAT
  | MAC_EVT
  | MAC_IRQ_EN
  | MAC_SLOT
  | MAC_TMPL_0
  | MAC_TMPL_1
  | MAC_TMPL_2
  | MAC_ACK_CTL
  | MAC_DRIFT_CTL
  | MAC_ADDR
  | MAC_EUI
  | MAC_VENDOR
  | MAC_ASN
  | MAC_PAUSE
  | MAC_SFD_OFF
  | MAC_SF
  | MAC_BCN_CFG
  | MAC_BCN_MASK
  | MAC_CELL_IDX
  | MAC_CELL_DATA
  | MAC_DRIFT_IDX
  | MAC_DRIFT_DATA
  | MAC_CNT_ACK_SENT
  | MAC_CNT_ACK_FAIL
  | MAC_CNT_VERDICT_LATE
  | MAC_CNT_OFF_TEMPLATE
  | MAC_CNT_DUPLICATE
  | MAC_CNT_REPLAY
  | MAC_CNT_DUP_NOACK
  | MAC_CNT_TX_ACKED
  | MAC_CNT_TX_NO_ACK
  | MAC_CNT_NACK
  | MAC_CNT_BCN_SENT
  | MAC_CNT_BCN_FAIL
  | SPW_BLOCK_ID
  | SPW_CMD
  | SPW_CMD_STAT
  | SPW_EVT
  | SPW_IRQ_EN
  | SPW_CMD_MASK
  | SPW_CNT_BLOCKS
  | SPW_CNT_COPY_FAIL
  | SPW_CNT_SKIP
  | SPW_IMG
  | SPW_FLASH
  | SPW_GEOM
  | SPW_SCHED
  | SPW_TX
  | SPW_CAR
  | SPW_STAT
  | SPW_PROG
  | SLC_BLOCK_ID
  | SLC_CTL
  | SLC_STAT
  | SLC_EVT
  | SLC_IRQ_EN
  | SLC_AGE_CTL
  | SLC_AGE_LIMIT
  | SLC_RELOC_SEED
  | SLC_RUNNEL
  | SLC_SCAN_CTL
  | SLC_PINNED
  | SLC_CMD_W
  | SLC_CMD_GO
  | SLC_RES_W
  | SLC_CMD_STAT
  | SLC_PFX
  | SLC_PFX_EN
  | SLC_CNT_LOOKUP
  | SLC_CNT_HIT
  | SLC_CNT_UNKNOWN
  | SLC_CNT_COMMIT
  | SLC_CNT_DROP
  | SLC_CNT_MOVE
  | SLC_CNT_LEARN_NEW
  | SLC_CNT_LEARN_FAIL
  | SLC_CNT_AGED
  | SLC_CNT_RELOC
  | SLC_CNT_FULL
  | SLC_CNT_NO_ROUTE
  | GRT_BLOCK_ID
  | GRT_STAT
  | GRT_EVT
  | GRT_IRQ_EN
  | GRT_CMD
  | GRT_CMD_IN
  | GRT_CMD_OUT
  | GRT_CMD_STAT
  | GRT_PUF_STAT
  | GRT_PUF_CTL
  | GRT_KEY_IDX
  | GRT_KEY_FLOOR
  | GRT_KEY_DATA
  | GRT_FLOOR_DUE
  | GRT_PENDING
  | GRT_FUSE_STATE
  | GRT_CNT_VERIFY
  | GRT_CNT_MIC_FAIL
  | GRT_CNT_KEY_STALE
  | GRT_CNT_PROTECT
  | GRT_CNT_DERIVE
  | GRT_CNT_CACHE_HIT
  | GRT_CNT_UNWRAP_FAIL
  | GRT_CNT_TX_REFUSED
  | OCL_BLOCK_ID
  | OCL_WEDGE_CTL
  | OCL_J_STAT
  | OCL_J_WD
  | OCL_J_BOOT
  | OCL_J_DBG_SEL
  | OCL_J_DBG_DATA
  | OCL_CL_STAT
  | OCL_CL_EVT
  | OCL_CL_IRQ_EN
  | OCL_CNT_SEAL
  | OCL_CNT_DROP
  | OCL_CNT_EXC
  | OCL_CNT_SEAL_LATE
  | OCL_THR_CTL
  | OCL_THR_STAT
  | OCL_WD
  | OCL_WD_CNT
  | OCL_DBG_SEL
  | OCL_DBG_DATA
  | RUN_BLOCK_ID
  | RUN_EVT
  | RUN_IRQ_EN
  | RUN_CELL_STAT
  | RUN_CELL_CTL
  | RUN_LINK_IDX
  | RUN_LINK_DATA
  | RUN_HALLOC
  | RUN_HALLOC_RES
  | RUN_HFREE
  | RUN_HPUSH_CTL
  | RUN_HPUSH_W
  | RUN_NOTICE_SUM
  | RUN_CNT_BAD_WORD
  | RUN_CNT_OVERRUN
  | RUN_CNT_FLUSHED
  | RUN_CNT_LOST
  | RUN_CNT_ALLOC_FAIL
  | RUN_CNT_DOUBLE_FREE
  | RUN_CFG
  | RUN_MARK
  | RUN_STAT
  | RUN_EVT_N
  | RUN_IRQ_EN_N
  | RUN_CTL
  | RUN_HPOP
  | CLP_BLOCK_ID
  | CLP_STAT
  | CLP_EVT
  | CLP_IRQ_EN
  | CLP_CMD
  | CLP_SERVICE
  | CLP_NOW_S
  | CLP_NOW_NS
  | CLP_SET_S
  | CLP_STEP
  | CLP_SET_NS
  | CLP_STEER_CTL
  | CLP_STEER_LIM
  | CLP_TRIM
  | CLP_RATE
  | CLP_RATE_I
  | CLP_LAST_OFS
  | CLP_OFS_SAMPLE
  | CLP_ANCHOR_ASN
  | CLP_ANCHOR_S
  | CLP_ANCHOR_NS
  | CLP_PPS_CTL
  | CLP_PPS_TS_S
  | CLP_PPS_TS_NS
  | CLP_CIS_CTL
  | CLP_CIS_TIME
  | CLP_TC_CTL
  | CLP_TC_PDELAY
  | CLP_TX_ADJ
  | CLP_CNT_SAMPLE
  | CLP_CNT_REJECT
  | CLP_CNT_TC
  | CLP_CNT_PPS_IN
  | ETH_BLOCK_ID
  | ETH_CTL
  | ETH_STAT
  | ETH_EVT
  | ETH_IRQ_EN
  | ETH_MAC
  | ETH_MAX
  | ETH_CNT_RX_OK
  | ETH_CNT_RX_FCS
  | ETH_CNT_RX_SIZE
  | ETH_CNT_RX_FILTER
  | ETH_CNT_RX_PAUSE
  | ETH_CNT_RX_NO_CELL
  | ETH_CNT_TX_OK
  | ETH_CNT_TX_DROP
  | HST_BLOCK_ID
  | HST_STAT
  | HST_EVT
  | HST_IRQ_EN
  | HST_INTN_CTL
  | HST_IN_RUNNEL
  | HST_SSID
  | HST_CNT_RING_IN
  | HST_CNT_RING_OUT
  | HST_CNT_DMA_ERR
  | HST_CNT_SPI_ERR
  | HST_RING_CTL
  | HST_RING_COAL
  | HST_RING_BASE
  | HST_RING_WB
  | HST_RING_DB
  | HST_RING_PTR
  | FLS_BLOCK_ID
  | FLS_STAT
  | FLS_EVT
  | FLS_IRQ_EN
  | FLS_CNT_REFUSED
  | FLS_CNT_FLASH_ERR
  | FLS_CMD
  | FLS_ADDR
  | FLS_CSTAT
  | FLS_BUF
  | PWR_BLOCK_ID
  | PWR_STAT
  | PWR_EVT
  | PWR_IRQ_EN
  | PWR_WAKE_CTL
  | PWR_SSC
  | PWR_PFAIL_CTL
  | PWR_DORMANT
  | PWR_ALARM
  | PWR_CL_CTL
  | PWR_CNT_CHAIN_WAKE
  | PWR_CNT_CL_WAKE
  | PWR_CNT_WAKE_LATE
  | GLB_BLOCK_ID
  | GLB_RESET_CTL
  | GLB_RESET_CAUSE
  | GLB_RESET_COUNT
  | MEM_BLOCK_ID
  | MEM_STAT
  | MEM_EVT
  | MEM_IRQ_EN
  | MEM_SKIM_CTL
  | MEM_SKIM_FIRST
  | MEM_SKIM_LAST
  | MEM_SKIM_CE
  | MEM_SKIM_UE
  | MEM_SKIM_ADDR
  | MEM_LAST_CE
  | MEM_LAST_UE
  | MEM_FLIP_CTL
  | MEM_FLIP_WORD
  | MEM_FLIP_DATA
  | MEM_CNT_CE
  | MEM_CNT_UE
  | MEM_CNT_WRITE_POISON
  | MEM_CNT_DROP
  | MEM_CNT_FLIP
  | TWN_BLOCK_ID
  | TWN_CTL
  | TWN_TIMING
  | TWN_TK
  | TWN_AIR
  | TWN_STAT
  | TWN_EVT
  | TWN_IRQ_EN
  | TWN_CMD
  | TWN_SUSPECT
  | TWN_PEER_OFS
  | TWN_MIRROR
  | TWN_RUNNEL
  | TWN_CNT_HB_RX
  | TWN_CNT_BAD_MSG
  | TWN_CNT_MIRROR_TX
  | TWN_CNT_MIRROR_RX
  | TWN_CNT_AIR_MISS
  | TWN_CNT_TAKEOVER
  | TWN_CNT_DUP_SUSPECT
  | OBS_BLOCK_ID
  | OBS_STAT
  | OBS_EVT
  | OBS_IRQ_EN
  | OBS_STILL_CTL
  | OBS_STILL_SEQ
  | OBS_STILL_S
  | OBS_STILL_NS
  | OBS_OP_HOURS
  | OBS_OP_SEC
  | OBS_SILT_CTL
  | OBS_SILT_STAT
  | OBS_SILT_POST
  | OBS_SILT_SEQ
  | OBS_SILT_CODE_SEL
  | OBS_SILT_CODE_CFG
  | OBS_SILT_STAT_IDX
  | OBS_SILT_STAT_DATA
  | OBS_EDDY_KEY
  | OBS_EDDY_CFG
  | OBS_EDDY_SEED
  | OBS_EDDY_P
  | OBS_CNT_SILT_KEPT
  | OBS_CNT_SILT_SUPP
  | OBS_CNT_SILT_LOST
  | OBS_CNT_EDDY
  | OBS_UNIT
  | OBS_RILL_CNT
  | OBS_CAR_SENT
  | OBS_RUN_CNT
  | OBS_THR_CNT
  deriving DecidableEq, Repr

/-- The access codes of R11. -/
inductive Access where
  | ro | rw | wo | w1c | w1s | rc | rwl
  deriving DecidableEq, Repr

/-- One row of a register's field table: its lowest bit, its width and its access code. Reserved fields are not listed:
they read 0 and take no write (R7, R9). -/
structure FieldSpec where
  lo  : Nat
  w   : Nat
  acc : Access
  deriving DecidableEq, Repr

/-- A field of a register: which register, its lowest bit and its width. -/
structure Fld where
  reg : RegId
  lo  : Nat
  w   : Nat
  deriving DecidableEq, Repr

/-- The field table of each register (Reserved rows left out). -/
def RegId.fields : RegId → List FieldSpec
  | .PLM_BLOCK_ID => [⟨8, 24, .ro⟩, ⟨0, 8, .ro⟩]
  | .PLM_PHY_MODE => [⟨0, 3, .rw⟩, ⟨4, 4, .rw⟩, ⟨8, 1, .rw⟩, ⟨9, 7, .rw⟩, ⟨16, 2, .rw⟩, ⟨18, 1, .rw⟩, ⟨19, 1, .rw⟩, ⟨20, 2, .rw⟩, ⟨28, 4, .rw⟩]
  | .PLM_GLB_EVT => [⟨0, 1, .w1c⟩]
  | .PLM_GLB_IRQ_EN => [⟨0, 1, .rw⟩]
  | .PLM_CHAIN_CTL => [⟨0, 2, .rw⟩, ⟨4, 2, .rw⟩, ⟨8, 1, .rw⟩]
  | .PLM_CHAIN_STAT => [⟨0, 2, .ro⟩, ⟨2, 1, .ro⟩, ⟨3, 1, .ro⟩, ⟨8, 7, .ro⟩, ⟨16, 7, .ro⟩]
  | .PLM_WINDOW => [⟨0, 23, .rw⟩]
  | .PLM_CAL => [⟨0, 8, .rw⟩, ⟨8, 8, .rw⟩, ⟨16, 16, .rw⟩]
  | .PLM_EVT => [⟨0, 1, .w1c⟩, ⟨1, 1, .w1c⟩, ⟨2, 1, .w1c⟩, ⟨3, 1, .w1c⟩, ⟨4, 1, .w1c⟩, ⟨5, 1, .w1c⟩, ⟨6, 1, .w1c⟩]
  | .PLM_IRQ_EN => [⟨0, 7, .rw⟩]
  | .PLM_CNT_DETECT => [⟨0, 32, .rc⟩]
  | .PLM_CNT_FALSE_DET => [⟨0, 32, .rc⟩]
  | .PLM_CNT_PHR_REJECT => [⟨0, 32, .rc⟩]
  | .PLM_CNT_NO_CELL => [⟨0, 32, .rc⟩]
  | .PLM_CNT_FCS_FAIL => [⟨0, 32, .rc⟩]
  | .PLM_CNT_BLANKED => [⟨0, 32, .rc⟩]
  | .PLM_CNT_AER_A => [⟨0, 32, .rc⟩]
  | .PLM_CNT_AER_B => [⟨0, 32, .rc⟩]
  | .PLM_CNT_CLIP_A => [⟨0, 32, .rc⟩]
  | .PLM_CNT_CLIP_B => [⟨0, 32, .rc⟩]
  | .PLM_RILL_CFG => [⟨0, 1, .rw⟩, ⟨1, 5, .rw⟩, ⟨6, 2, .rw⟩, ⟨8, 4, .rw⟩, ⟨12, 4, .rw⟩, ⟨16, 4, .rw⟩, ⟨20, 4, .rw⟩, ⟨24, 4, .rw⟩]
  | .PLM_RILL_FREQ => [⟨0, 27, .rw⟩]
  | .PLM_RILL_LIM => [⟨0, 11, .rw⟩, ⟨16, 8, .rw⟩]
  | .PLM_RILL_STAT => [⟨0, 2, .ro⟩, ⟨2, 2, .ro⟩, ⟨4, 1, .ro⟩, ⟨8, 3, .ro⟩]
  | .PLM_RILL_FRAMES => [⟨0, 32, .rc⟩]
  | .TXF_BLOCK_ID => [⟨8, 24, .ro⟩, ⟨0, 8, .ro⟩]
  | .TXF_BLANK_GRP => [⟨0, 16, .rw⟩]
  | .TXF_BLANK_CTL => [⟨0, 6, .rw⟩]
  | .TXF_COEX_GRP => [⟨0, 8, .rw⟩, ⟨8, 10, .rw⟩, ⟨18, 4, .rw⟩, ⟨22, 1, .rw⟩, ⟨23, 1, .rw⟩, ⟨24, 1, .rw⟩]
  | .TXF_COEX_STAT => [⟨0, 4, .ro⟩, ⟨4, 4, .ro⟩, ⟨8, 4, .ro⟩]
  | .TXF_CHAIN_CTL => [⟨0, 1, .rw⟩, ⟨8, 10, .rw⟩, ⟨24, 8, .rw⟩]
  | .TXF_CHAIN_STAT => [⟨0, 2, .ro⟩, ⟨2, 1, .ro⟩, ⟨3, 1, .ro⟩, ⟨4, 1, .ro⟩, ⟨5, 1, .ro⟩, ⟨6, 1, .ro⟩, ⟨8, 3, .ro⟩, ⟨16, 8, .ro⟩, ⟨24, 7, .ro⟩]
  | .TXF_SYN_WINDOW => [⟨0, 23, .rw⟩]
  | .TXF_SYN_CTL => [⟨0, 1, .wo⟩, ⟨1, 1, .rw⟩]
  | .TXF_LEVEL => [⟨0, 8, .rw⟩, ⟨8, 1, .rw⟩]
  | .TXF_FEM_CTL => [⟨0, 7, .rw⟩, ⟨8, 6, .rw⟩, ⟨16, 1, .rw⟩, ⟨17, 1, .rw⟩, ⟨18, 1, .rw⟩, ⟨19, 1, .rw⟩]
  | .TXF_COEX_CTL => [⟨0, 1, .rw⟩, ⟨1, 2, .rw⟩]
  | .TXF_EVT => [⟨0, 1, .w1c⟩, ⟨1, 1, .w1c⟩, ⟨2, 1, .w1c⟩, ⟨3, 1, .w1c⟩, ⟨4, 1, .w1c⟩, ⟨5, 1, .w1c⟩, ⟨6, 1, .w1c⟩, ⟨7, 1, .w1c⟩, ⟨8, 1, .w1c⟩, ⟨9, 1, .w1c⟩]
  | .TXF_IRQ_EN => [⟨0, 10, .rw⟩]
  | .TXF_CNT_SENT => [⟨0, 32, .rc⟩]
  | .TXF_CNT_LATE => [⟨0, 32, .rc⟩]
  | .TXF_CNT_NO_GRANT => [⟨0, 32, .rc⟩]
  | .TXF_CNT_GRANT_LOST => [⟨0, 32, .rc⟩]
  | .TXF_CNT_SYNTH_FAULT => [⟨0, 32, .rc⟩]
  | .TXF_CNT_CAL => [⟨0, 32, .rc⟩]
  | .TXF_CNT_CAL_DEFER => [⟨0, 32, .rc⟩]
  | .TXF_CNT_CAR_WAIT => [⟨0, 32, .rc⟩]
  | .TXF_CAR_CFG => [⟨0, 1, .rw⟩, ⟨1, 4, .rw⟩, ⟨5, 1, .rw⟩, ⟨8, 4, .rw⟩, ⟨16, 8, .rw⟩]
  | .TXF_CAR_FREQ => [⟨0, 27, .rw⟩]
  | .TXF_CAR_STAT => [⟨0, 1, .ro⟩, ⟨1, 1, .ro⟩, ⟨2, 3, .ro⟩]
  | .CHT_BLOCK_ID => [⟨8, 24, .ro⟩, ⟨0, 8, .ro⟩]
  | .CHT_STAT => [⟨0, 1, .ro⟩, ⟨1, 1, .ro⟩, ⟨2, 1, .ro⟩, ⟨3, 1, .ro⟩, ⟨16, 16, .ro⟩]
  | .CHT_EVT => [⟨0, 1, .w1c⟩, ⟨1, 1, .w1c⟩, ⟨2, 1, .w1c⟩, ⟨3, 1, .w1c⟩, ⟨4, 1, .w1c⟩, ⟨5, 1, .w1c⟩]
  | .CHT_IRQ_EN => [⟨0, 6, .rw⟩]
  | .CHT_LAST_REFUSE => [⟨0, 4, .ro⟩, ⟨4, 3, .ro⟩, ⟨7, 1, .ro⟩, ⟨8, 4, .ro⟩, ⟨12, 6, .ro⟩]
  | .CHT_BIN_SEL => [⟨0, 4, .rw⟩, ⟨8, 6, .rw⟩]
  | .CHT_BIN_DATA => [⟨0, 40, .ro⟩]
  | .CHT_DIGEST => [⟨0, 32, .ro⟩]
  | .CHT_FPROG_ADDR => [⟨0, 12, .rw⟩]
  | .CHT_FPROG_CMD => [⟨0, 1, .wo⟩]
  | .CHT_ENT_CFG => [⟨0, 1, .ro⟩, ⟨1, 1, .ro⟩, ⟨2, 1, .ro⟩, ⟨3, 1, .ro⟩, ⟨8, 9, .ro⟩, ⟨17, 8, .ro⟩]
  | .CHT_ENT_LOW => [⟨0, 23, .ro⟩]
  | .CHT_ENT_HIGH => [⟨0, 23, .ro⟩]
  | .CHT_ENT_DUTY => [⟨0, 14, .ro⟩]
  | .CHT_ENT_MASK => [⟨0, 64, .ro⟩]
  | .CHT_SWLIM => [⟨0, 1, .rw⟩, ⟨8, 9, .rw⟩, ⟨18, 14, .rw⟩]
  | .CHT_WEIR_NEAR => [⟨0, 7, .rw⟩]
  | .CHT_WEIR_USED => [⟨0, 42, .ro⟩]
  | .CHT_WEIR_RSV => [⟨0, 42, .ro⟩]
  | .CHT_WEIR_LIMIT => [⟨0, 32, .ro⟩]
  | .CHT_CNT_APPROVED => [⟨0, 32, .rc⟩]
  | .CHT_CNT_REFUSED => [⟨0, 32, .rc⟩]
  | .MAC_BLOCK_ID => [⟨8, 24, .ro⟩, ⟨0, 8, .ro⟩]
  | .MAC_CTL => [⟨0, 1, .rw⟩, ⟨1, 1, .rw⟩, ⟨2, 1, .rw⟩, ⟨3, 1, .rw⟩, ⟨4, 1, .rw⟩, ⟨5, 1, .rw⟩, ⟨6, 1, .rw⟩]
  | .MAC_STAT => [⟨0, 1, .ro⟩, ⟨1, 1, .ro⟩, ⟨2, 1, .ro⟩, ⟨3, 1, .ro⟩]
  | .MAC_EVT => [⟨0, 1, .w1c⟩, ⟨1, 1, .w1c⟩, ⟨2, 1, .w1c⟩, ⟨3, 1, .w1c⟩, ⟨4, 1, .w1c⟩, ⟨5, 1, .w1c⟩, ⟨6, 1, .w1c⟩, ⟨7, 1, .w1c⟩]
  | .MAC_IRQ_EN => [⟨0, 8, .rw⟩]
  | .MAC_SLOT => [⟨0, 16, .rw⟩, ⟨16, 16, .rw⟩]
  | .MAC_TMPL_0 => [⟨0, 16, .rw⟩, ⟨16, 16, .rw⟩]
  | .MAC_TMPL_1 => [⟨0, 16, .rw⟩, ⟨16, 16, .rw⟩]
  | .MAC_TMPL_2 => [⟨0, 16, .rw⟩, ⟨16, 16, .rw⟩]
  | .MAC_ACK_CTL => [⟨0, 8, .rw⟩, ⟨8, 8, .rw⟩]
  | .MAC_DRIFT_CTL => [⟨0, 3, .rw⟩, ⟨8, 8, .rw⟩, ⟨16, 16, .rw⟩]
  | .MAC_ADDR => [⟨0, 16, .rw⟩, ⟨16, 16, .rw⟩]
  | .MAC_EUI => [⟨0, 64, .rw⟩]
  | .MAC_VENDOR => [⟨0, 24, .rw⟩, ⟨24, 8, .rw⟩]
  | .MAC_ASN => [⟨0, 40, .ro⟩]
  | .MAC_PAUSE => [⟨0, 40, .rw⟩, ⟨40, 8, .rw⟩, ⟨48, 1, .rw⟩]
  | .MAC_SFD_OFF => [⟨0, 16, .rw⟩]
  | .MAC_SF => [⟨0, 16, .rw⟩, ⟨16, 1, .rw⟩, ⟨17, 1, .rw⟩, ⟨24, 8, .rw⟩]
  | .MAC_BCN_CFG => [⟨0, 1, .rw⟩, ⟨1, 1, .rw⟩, ⟨2, 3, .rw⟩, ⟨8, 12, .rw⟩]
  | .MAC_BCN_MASK => [⟨0, 64, .rw⟩]
  | .MAC_CELL_IDX => [⟨0, 13, .rw⟩]
  | .MAC_CELL_DATA => [⟨0, 64, .rw⟩]
  | .MAC_DRIFT_IDX => [⟨0, 19, .rw⟩]
  | .MAC_DRIFT_DATA => [⟨0, 64, .ro⟩]
  | .MAC_CNT_ACK_SENT => [⟨0, 32, .rc⟩]
  | .MAC_CNT_ACK_FAIL => [⟨0, 32, .rc⟩]
  | .MAC_CNT_VERDICT_LATE => [⟨0, 32, .rc⟩]
  | .MAC_CNT_OFF_TEMPLATE => [⟨0, 32, .rc⟩]
  | .MAC_CNT_DUPLICATE => [⟨0, 32, .rc⟩]
  | .MAC_CNT_REPLAY => [⟨0, 32, .rc⟩]
  | .MAC_CNT_DUP_NOACK => [⟨0, 32, .rc⟩]
  | .MAC_CNT_TX_ACKED => [⟨0, 32, .rc⟩]
  | .MAC_CNT_TX_NO_ACK => [⟨0, 32, .rc⟩]
  | .MAC_CNT_NACK => [⟨0, 32, .rc⟩]
  | .MAC_CNT_BCN_SENT => [⟨0, 32, .rc⟩]
  | .MAC_CNT_BCN_FAIL => [⟨0, 32, .rc⟩]
  | .SPW_BLOCK_ID => [⟨8, 24, .ro⟩, ⟨0, 8, .ro⟩]
  | .SPW_CMD => [⟨0, 4, .wo⟩, ⟨4, 2, .wo⟩, ⟨16, 16, .wo⟩]
  | .SPW_CMD_STAT => [⟨0, 1, .ro⟩, ⟨1, 6, .ro⟩, ⟨7, 3, .ro⟩]
  | .SPW_EVT => [⟨0, 4, .w1c⟩, ⟨4, 1, .w1c⟩, ⟨5, 1, .w1c⟩, ⟨6, 1, .w1c⟩, ⟨7, 1, .w1c⟩, ⟨8, 1, .w1c⟩]
  | .SPW_IRQ_EN => [⟨0, 9, .rw⟩]
  | .SPW_CMD_MASK => [⟨0, 64, .rw⟩]
  | .SPW_CNT_BLOCKS => [⟨0, 32, .rc⟩]
  | .SPW_CNT_COPY_FAIL => [⟨0, 32, .rc⟩]
  | .SPW_CNT_SKIP => [⟨0, 32, .rc⟩]
  | .SPW_IMG => [⟨0, 32, .rw⟩]
  | .SPW_FLASH => [⟨0, 30, .rw⟩]
  | .SPW_GEOM => [⟨0, 4, .rw⟩, ⟨4, 9, .rw⟩, ⟨16, 16, .rw⟩]
  | .SPW_SCHED => [⟨0, 16, .rw⟩, ⟨16, 3, .rw⟩, ⟨20, 4, .rw⟩, ⟨24, 8, .rw⟩]
  | .SPW_TX => [⟨0, 16, .rw⟩, ⟨16, 3, .rw⟩, ⟨20, 12, .rw⟩]
  | .SPW_CAR => [⟨0, 64, .rw⟩]
  | .SPW_STAT => [⟨0, 2, .ro⟩, ⟨2, 1, .ro⟩, ⟨16, 16, .ro⟩]
  | .SPW_PROG => [⟨0, 16, .ro⟩, ⟨16, 16, .ro⟩]
  | .SLC_BLOCK_ID => [⟨8, 24, .ro⟩, ⟨0, 8, .ro⟩]
  | .SLC_CTL => [⟨0, 1, .rw⟩, ⟨1, 1, .rw⟩, ⟨2, 1, .rw⟩, ⟨8, 5, .rw⟩, ⟨16, 5, .rw⟩, ⟨24, 5, .rw⟩]
  | .SLC_STAT => [⟨0, 20, .ro⟩, ⟨20, 1, .ro⟩, ⟨21, 1, .ro⟩, ⟨22, 1, .ro⟩, ⟨24, 8, .ro⟩]
  | .SLC_EVT => [⟨0, 1, .w1c⟩, ⟨1, 1, .w1c⟩, ⟨2, 1, .w1c⟩, ⟨3, 1, .w1c⟩, ⟨4, 1, .w1c⟩, ⟨5, 1, .w1c⟩, ⟨6, 1, .w1c⟩]
  | .SLC_IRQ_EN => [⟨0, 7, .rw⟩]
  | .SLC_AGE_CTL => [⟨0, 1, .rw⟩, ⟨16, 16, .rw⟩]
  | .SLC_AGE_LIMIT => [⟨0, 19, .rw⟩]
  | .SLC_RELOC_SEED => [⟨0, 32, .rw⟩]
  | .SLC_RUNNEL => [⟨0, 8, .rw⟩, ⟨8, 8, .rw⟩]
  | .SLC_SCAN_CTL => [⟨0, 16, .rw⟩]
  | .SLC_PINNED => [⟨0, 20, .ro⟩]
  | .SLC_CMD_W => [⟨0, 64, .rw⟩]
  | .SLC_CMD_GO => [⟨0, 1, .wo⟩]
  | .SLC_RES_W => [⟨0, 64, .ro⟩]
  | .SLC_CMD_STAT => [⟨0, 1, .ro⟩]
  | .SLC_PFX => [⟨0, 64, .rw⟩]
  | .SLC_PFX_EN => [⟨0, 8, .rw⟩]
  | .SLC_CNT_LOOKUP => [⟨0, 32, .rc⟩]
  | .SLC_CNT_HIT => [⟨0, 32, .rc⟩]
  | .SLC_CNT_UNKNOWN => [⟨0, 32, .rc⟩]
  | .SLC_CNT_COMMIT => [⟨0, 32, .rc⟩]
  | .SLC_CNT_DROP => [⟨0, 32, .rc⟩]
  | .SLC_CNT_MOVE => [⟨0, 32, .rc⟩]
  | .SLC_CNT_LEARN_NEW => [⟨0, 32, .rc⟩]
  | .SLC_CNT_LEARN_FAIL => [⟨0, 32, .rc⟩]
  | .SLC_CNT_AGED => [⟨0, 32, .rc⟩]
  | .SLC_CNT_RELOC => [⟨0, 32, .rc⟩]
  | .SLC_CNT_FULL => [⟨0, 32, .rc⟩]
  | .SLC_CNT_NO_ROUTE => [⟨0, 32, .rc⟩]
  | .GRT_BLOCK_ID => [⟨8, 24, .ro⟩, ⟨0, 8, .ro⟩]
  | .GRT_STAT => [⟨0, 2, .ro⟩, ⟨2, 1, .ro⟩, ⟨3, 1, .ro⟩, ⟨4, 1, .ro⟩, ⟨5, 1, .ro⟩, ⟨6, 1, .ro⟩, ⟨7, 1, .ro⟩, ⟨16, 13, .ro⟩]
  | .GRT_EVT => [⟨0, 1, .w1c⟩, ⟨1, 1, .w1c⟩, ⟨2, 1, .w1c⟩, ⟨3, 1, .w1c⟩, ⟨4, 1, .w1c⟩, ⟨5, 1, .w1c⟩, ⟨6, 1, .w1c⟩, ⟨7, 1, .w1c⟩, ⟨8, 1, .w1c⟩, ⟨9, 1, .w1c⟩]
  | .GRT_IRQ_EN => [⟨0, 10, .rw⟩]
  | .GRT_CMD => [⟨0, 5, .wo⟩, ⟨8, 16, .wo⟩]
  | .GRT_CMD_IN => [⟨0, 18, .rw⟩]
  | .GRT_CMD_OUT => [⟨0, 18, .rw⟩]
  | .GRT_CMD_STAT => [⟨0, 1, .ro⟩, ⟨1, 6, .ro⟩, ⟨7, 3, .ro⟩]
  | .GRT_PUF_STAT => [⟨0, 5, .ro⟩, ⟨5, 6, .ro⟩, ⟨11, 3, .ro⟩]
  | .GRT_PUF_CTL => [⟨0, 5, .rw⟩]
  | .GRT_KEY_IDX => [⟨0, 15, .rw⟩, ⟨15, 1, .rw⟩]
  | .GRT_KEY_FLOOR => [⟨0, 32, .ro⟩]
  | .GRT_KEY_DATA => [⟨0, 32, .ro⟩, ⟨32, 8, .ro⟩, ⟨40, 2, .ro⟩, ⟨42, 1, .ro⟩]
  | .GRT_FLOOR_DUE => [⟨0, 16, .ro⟩, ⟨16, 32, .ro⟩]
  | .GRT_PENDING => [⟨0, 16, .ro⟩, ⟨16, 32, .ro⟩]
  | .GRT_FUSE_STATE => [⟨0, 32, .ro⟩]
  | .GRT_CNT_VERIFY => [⟨0, 32, .rc⟩]
  | .GRT_CNT_MIC_FAIL => [⟨0, 32, .rc⟩]
  | .GRT_CNT_KEY_STALE => [⟨0, 32, .rc⟩]
  | .GRT_CNT_PROTECT => [⟨0, 32, .rc⟩]
  | .GRT_CNT_DERIVE => [⟨0, 32, .rc⟩]
  | .GRT_CNT_CACHE_HIT => [⟨0, 32, .rc⟩]
  | .GRT_CNT_UNWRAP_FAIL => [⟨0, 32, .rc⟩]
  | .GRT_CNT_TX_REFUSED => [⟨0, 32, .rc⟩]
  | .OCL_BLOCK_ID => [⟨8, 24, .ro⟩, ⟨0, 8, .ro⟩]
  | .OCL_WEDGE_CTL => [⟨0, 1, .rw⟩, ⟨16, 16, .rw⟩]
  | .OCL_J_STAT => [⟨0, 3, .ro⟩, ⟨3, 1, .ro⟩, ⟨4, 1, .ro⟩, ⟨16, 15, .ro⟩]
  | .OCL_J_WD => [⟨0, 1, .rw⟩, ⟨1, 1, .ro⟩, ⟨12, 20, .rw⟩]
  | .OCL_J_BOOT => [⟨0, 1, .wo⟩, ⟨1, 1, .ro⟩, ⟨2, 1, .ro⟩, ⟨3, 1, .ro⟩, ⟨4, 1, .ro⟩, ⟨5, 3, .ro⟩, ⟨8, 2, .ro⟩, ⟨16, 16, .ro⟩]
  | .OCL_J_DBG_SEL => [⟨0, 7, .rw⟩, ⟨8, 1, .wo⟩, ⟨9, 1, .wo⟩, ⟨10, 1, .rw⟩]
  | .OCL_J_DBG_DATA => [⟨0, 64, .rw⟩]
  | .OCL_CL_STAT => [⟨0, 8, .ro⟩]
  | .OCL_CL_EVT => [⟨0, 1, .w1c⟩, ⟨1, 1, .w1c⟩, ⟨2, 1, .w1c⟩, ⟨3, 1, .w1c⟩, ⟨4, 1, .w1c⟩, ⟨5, 1, .w1c⟩]
  | .OCL_CL_IRQ_EN => [⟨0, 6, .rw⟩]
  | .OCL_CNT_SEAL => [⟨0, 32, .rc⟩]
  | .OCL_CNT_DROP => [⟨0, 32, .rc⟩]
  | .OCL_CNT_EXC => [⟨0, 32, .rc⟩]
  | .OCL_CNT_SEAL_LATE => [⟨0, 32, .rc⟩]
  | .OCL_THR_CTL => [⟨0, 1, .wo⟩, ⟨1, 1, .wo⟩, ⟨2, 1, .wo⟩, ⟨3, 1, .wo⟩, ⟨4, 1, .rw⟩, ⟨5, 1, .rw⟩, ⟨8, 15, .rw⟩]
  | .OCL_THR_STAT => [⟨0, 3, .ro⟩, ⟨3, 4, .ro⟩, ⟨7, 1, .ro⟩, ⟨8, 1, .ro⟩, ⟨16, 15, .ro⟩]
  | .OCL_WD => [⟨0, 1, .rw⟩, ⟨1, 1, .ro⟩, ⟨12, 20, .rw⟩]
  | .OCL_WD_CNT => [⟨0, 20, .ro⟩, ⟨24, 8, .ro⟩]
  | .OCL_DBG_SEL => [⟨0, 7, .rw⟩]
  | .OCL_DBG_DATA => [⟨0, 64, .rw⟩]
  | .RUN_BLOCK_ID => [⟨8, 24, .ro⟩, ⟨0, 8, .ro⟩]
  | .RUN_EVT => [⟨0, 1, .w1c⟩, ⟨1, 1, .w1c⟩, ⟨2, 1, .w1c⟩, ⟨3, 1, .w1c⟩, ⟨4, 1, .w1c⟩]
  | .RUN_IRQ_EN => [⟨0, 5, .rw⟩]
  | .RUN_CELL_STAT => [⟨0, 17, .ro⟩]
  | .RUN_CELL_CTL => [⟨0, 17, .rw⟩]
  | .RUN_LINK_IDX => [⟨0, 16, .rw⟩]
  | .RUN_LINK_DATA => [⟨0, 16, .ro⟩, ⟨16, 1, .ro⟩, ⟨17, 1, .ro⟩]
  | .RUN_HALLOC => [⟨0, 15, .wo⟩]
  | .RUN_HALLOC_RES => [⟨0, 16, .ro⟩, ⟨16, 1, .ro⟩, ⟨17, 1, .ro⟩]
  | .RUN_HFREE => [⟨0, 16, .wo⟩]
  | .RUN_HPUSH_CTL => [⟨0, 1, .wo⟩, ⟨1, 1, .wo⟩, ⟨2, 1, .wo⟩, ⟨8, 8, .wo⟩]
  | .RUN_HPUSH_W => [⟨0, 64, .rw⟩]
  | .RUN_NOTICE_SUM => [⟨0, 64, .ro⟩]
  | .RUN_CNT_BAD_WORD => [⟨0, 32, .rc⟩]
  | .RUN_CNT_OVERRUN => [⟨0, 32, .rc⟩]
  | .RUN_CNT_FLUSHED => [⟨0, 32, .rc⟩]
  | .RUN_CNT_LOST => [⟨0, 32, .rc⟩]
  | .RUN_CNT_ALLOC_FAIL => [⟨0, 32, .rc⟩]
  | .RUN_CNT_DOUBLE_FREE => [⟨0, 32, .rc⟩]
  | .RUN_CFG => [⟨0, 1, .rw⟩, ⟨1, 2, .rw⟩, ⟨3, 3, .rw⟩, ⟨8, 8, .rw⟩, ⟨16, 14, .rw⟩]
  | .RUN_MARK => [⟨0, 13, .rw⟩, ⟨13, 1, .rw⟩, ⟨16, 13, .rw⟩, ⟨29, 1, .rw⟩]
  | .RUN_STAT => [⟨0, 13, .ro⟩, ⟨13, 1, .ro⟩, ⟨14, 1, .ro⟩, ⟨15, 1, .ro⟩, ⟨16, 1, .ro⟩, ⟨17, 2, .ro⟩]
  | .RUN_EVT_N => [⟨0, 1, .w1c⟩, ⟨1, 1, .w1c⟩, ⟨2, 1, .w1c⟩, ⟨3, 1, .w1c⟩, ⟨4, 1, .w1c⟩, ⟨5, 1, .w1c⟩, ⟨8, 8, .ro⟩, ⟨16, 8, .ro⟩]
  | .RUN_IRQ_EN_N => [⟨0, 6, .rw⟩]
  | .RUN_CTL => [⟨0, 1, .wo⟩]
  | .RUN_HPOP => [⟨0, 64, .ro⟩]
  | .CLP_BLOCK_ID => [⟨8, 24, .ro⟩, ⟨0, 8, .ro⟩]
  | .CLP_STAT => [⟨0, 1, .ro⟩, ⟨1, 1, .ro⟩, ⟨2, 1, .ro⟩, ⟨3, 2, .ro⟩, ⟨5, 1, .ro⟩]
  | .CLP_EVT => [⟨0, 1, .w1c⟩, ⟨1, 1, .w1c⟩, ⟨2, 1, .w1c⟩, ⟨3, 1, .w1c⟩, ⟨4, 1, .w1c⟩, ⟨5, 1, .w1c⟩, ⟨6, 1, .w1c⟩, ⟨7, 1, .w1c⟩, ⟨8, 1, .w1c⟩, ⟨9, 1, .w1c⟩]
  | .CLP_IRQ_EN => [⟨0, 10, .rw⟩]
  | .CLP_CMD => [⟨0, 1, .wo⟩, ⟨1, 1, .wo⟩, ⟨2, 1, .wo⟩, ⟨3, 1, .wo⟩, ⟨4, 1, .wo⟩, ⟨5, 1, .wo⟩]
  | .CLP_SERVICE => [⟨0, 32, .ro⟩]
  | .CLP_NOW_S => [⟨0, 48, .ro⟩]
  | .CLP_NOW_NS => [⟨0, 32, .ro⟩]
  | .CLP_SET_S => [⟨0, 48, .rw⟩]
  | .CLP_STEP => [⟨0, 64, .rw⟩]
  | .CLP_SET_NS => [⟨0, 32, .rw⟩]
  | .CLP_STEER_CTL => [⟨0, 2, .rw⟩, ⟨4, 4, .rw⟩, ⟨8, 4, .rw⟩, ⟨16, 12, .rw⟩, ⟨28, 4, .rw⟩]
  | .CLP_STEER_LIM => [⟨0, 16, .rw⟩, ⟨16, 8, .rw⟩, ⟨24, 8, .rw⟩]
  | .CLP_TRIM => [⟨0, 32, .rw⟩]
  | .CLP_RATE => [⟨0, 32, .ro⟩]
  | .CLP_RATE_I => [⟨0, 32, .ro⟩]
  | .CLP_LAST_OFS => [⟨0, 32, .ro⟩]
  | .CLP_OFS_SAMPLE => [⟨0, 64, .wo⟩]
  | .CLP_ANCHOR_ASN => [⟨0, 40, .rw⟩]
  | .CLP_ANCHOR_S => [⟨0, 48, .rw⟩]
  | .CLP_ANCHOR_NS => [⟨0, 32, .rw⟩]
  | .CLP_PPS_CTL => [⟨0, 1, .rw⟩, ⟨1, 1, .rw⟩, ⟨2, 1, .rw⟩, ⟨3, 1, .rw⟩, ⟨8, 8, .rw⟩, ⟨16, 16, .rw⟩]
  | .CLP_PPS_TS_S => [⟨0, 48, .ro⟩]
  | .CLP_PPS_TS_NS => [⟨0, 32, .ro⟩]
  | .CLP_CIS_CTL => [⟨0, 16, .rw⟩, ⟨16, 1, .ro⟩]
  | .CLP_CIS_TIME => [⟨0, 15, .ro⟩, ⟨15, 48, .ro⟩]
  | .CLP_TC_CTL => [⟨0, 1, .rw⟩, ⟨1, 1, .rw⟩, ⟨8, 4, .rw⟩]
  | .CLP_TC_PDELAY => [⟨0, 24, .rw⟩]
  | .CLP_TX_ADJ => [⟨0, 16, .rw⟩]
  | .CLP_CNT_SAMPLE => [⟨0, 32, .rc⟩]
  | .CLP_CNT_REJECT => [⟨0, 32, .rc⟩]
  | .CLP_CNT_TC => [⟨0, 32, .rc⟩]
  | .CLP_CNT_PPS_IN => [⟨0, 32, .rc⟩]
  | .ETH_BLOCK_ID => [⟨8, 24, .ro⟩, ⟨0, 8, .ro⟩]
  | .ETH_CTL => [⟨0, 1, .rw⟩, ⟨1, 1, .rw⟩, ⟨2, 2, .rw⟩, ⟨4, 1, .rw⟩, ⟨5, 1, .rw⟩, ⟨6, 1, .rw⟩, ⟨7, 1, .rw⟩, ⟨8, 8, .rw⟩, ⟨16, 8, .rw⟩]
  | .ETH_STAT => [⟨0, 1, .ro⟩, ⟨1, 1, .ro⟩, ⟨2, 1, .ro⟩, ⟨3, 1, .ro⟩]
  | .ETH_EVT => [⟨0, 1, .w1c⟩, ⟨1, 1, .w1c⟩, ⟨2, 1, .w1c⟩, ⟨3, 1, .w1c⟩]
  | .ETH_IRQ_EN => [⟨0, 4, .rw⟩]
  | .ETH_MAC => [⟨0, 48, .rw⟩]
  | .ETH_MAX => [⟨0, 14, .rw⟩]
  | .ETH_CNT_RX_OK => [⟨0, 32, .rc⟩]
  | .ETH_CNT_RX_FCS => [⟨0, 32, .rc⟩]
  | .ETH_CNT_RX_SIZE => [⟨0, 32, .rc⟩]
  | .ETH_CNT_RX_FILTER => [⟨0, 32, .rc⟩]
  | .ETH_CNT_RX_PAUSE => [⟨0, 32, .rc⟩]
  | .ETH_CNT_RX_NO_CELL => [⟨0, 32, .rc⟩]
  | .ETH_CNT_TX_OK => [⟨0, 32, .rc⟩]
  | .ETH_CNT_TX_DROP => [⟨0, 32, .rc⟩]
  | .HST_BLOCK_ID => [⟨8, 24, .ro⟩, ⟨0, 8, .ro⟩]
  | .HST_STAT => [⟨0, 1, .ro⟩, ⟨1, 3, .ro⟩, ⟨4, 3, .ro⟩, ⟨7, 1, .ro⟩, ⟨8, 1, .ro⟩]
  | .HST_EVT => [⟨0, 1, .w1c⟩, ⟨1, 1, .w1c⟩, ⟨2, 1, .w1c⟩, ⟨3, 1, .w1c⟩, ⟨4, 1, .w1c⟩, ⟨5, 1, .w1c⟩]
  | .HST_IRQ_EN => [⟨0, 6, .rw⟩]
  | .HST_INTN_CTL => [⟨0, 1, .rw⟩]
  | .HST_IN_RUNNEL => [⟨0, 8, .rw⟩]
  | .HST_SSID => [⟨0, 16, .rwl⟩, ⟨16, 15, .rwl⟩, ⟨31, 1, .w1s⟩]
  | .HST_CNT_RING_IN => [⟨0, 32, .rc⟩]
  | .HST_CNT_RING_OUT => [⟨0, 32, .rc⟩]
  | .HST_CNT_DMA_ERR => [⟨0, 32, .rc⟩]
  | .HST_CNT_SPI_ERR => [⟨0, 32, .rc⟩]
  | .HST_RING_CTL => [⟨0, 1, .rw⟩, ⟨1, 1, .rw⟩, ⟨2, 5, .rw⟩, ⟨7, 1, .rw⟩, ⟨8, 8, .rw⟩, ⟨16, 6, .rw⟩, ⟨22, 1, .w1c⟩]
  | .HST_RING_COAL => [⟨0, 16, .rw⟩, ⟨16, 16, .rw⟩]
  | .HST_RING_BASE => [⟨0, 64, .rw⟩]
  | .HST_RING_WB => [⟨0, 64, .rw⟩]
  | .HST_RING_DB => [⟨0, 16, .wo⟩]
  | .HST_RING_PTR => [⟨0, 16, .ro⟩, ⟨16, 16, .ro⟩]
  | .FLS_BLOCK_ID => [⟨8, 24, .ro⟩, ⟨0, 8, .ro⟩]
  | .FLS_STAT => [⟨0, 2, .ro⟩, ⟨2, 2, .ro⟩, ⟨4, 1, .ro⟩, ⟨5, 1, .ro⟩]
  | .FLS_EVT => [⟨0, 1, .w1c⟩, ⟨1, 1, .w1c⟩, ⟨2, 1, .w1c⟩, ⟨3, 1, .w1c⟩, ⟨4, 1, .w1c⟩]
  | .FLS_IRQ_EN => [⟨0, 5, .rw⟩]
  | .FLS_CNT_REFUSED => [⟨0, 32, .rc⟩]
  | .FLS_CNT_FLASH_ERR => [⟨0, 32, .rc⟩]
  | .FLS_CMD => [⟨0, 3, .wo⟩, ⟨8, 9, .wo⟩]
  | .FLS_ADDR => [⟨0, 30, .rw⟩]
  | .FLS_CSTAT => [⟨0, 1, .ro⟩, ⟨1, 6, .ro⟩, ⟨7, 3, .ro⟩]
  | .FLS_BUF => [⟨0, 64, .rw⟩]
  | .PWR_BLOCK_ID => [⟨8, 24, .ro⟩, ⟨0, 8, .ro⟩]
  | .PWR_STAT => [⟨0, 2, .ro⟩, ⟨2, 7, .ro⟩, ⟨9, 4, .ro⟩, ⟨13, 1, .ro⟩, ⟨14, 1, .ro⟩, ⟨15, 1, .ro⟩]
  | .PWR_EVT => [⟨0, 1, .w1c⟩, ⟨1, 1, .w1c⟩, ⟨2, 1, .w1c⟩, ⟨3, 1, .w1c⟩, ⟨4, 1, .w1c⟩, ⟨5, 1, .w1c⟩]
  | .PWR_IRQ_EN => [⟨0, 6, .rw⟩]
  | .PWR_WAKE_CTL => [⟨0, 10, .rw⟩, ⟨16, 10, .rw⟩]
  | .PWR_SSC => [⟨0, 4, .rw⟩, ⟨4, 1, .rw⟩]
  | .PWR_PFAIL_CTL => [⟨0, 1, .rw⟩]
  | .PWR_DORMANT => [⟨0, 1, .wo⟩, ⟨1, 1, .rw⟩, ⟨2, 1, .rw⟩, ⟨16, 16, .wo⟩]
  | .PWR_ALARM => [⟨0, 48, .rw⟩]
  | .PWR_CL_CTL => [⟨0, 1, .rw⟩, ⟨16, 16, .rw⟩]
  | .PWR_CNT_CHAIN_WAKE => [⟨0, 32, .rc⟩]
  | .PWR_CNT_CL_WAKE => [⟨0, 32, .rc⟩]
  | .PWR_CNT_WAKE_LATE => [⟨0, 32, .rc⟩]
  | .GLB_BLOCK_ID => [⟨8, 24, .ro⟩, ⟨0, 8, .ro⟩]
  | .GLB_RESET_CTL => [⟨0, 1, .wo⟩, ⟨16, 16, .wo⟩]
  | .GLB_RESET_CAUSE => [⟨0, 1, .ro⟩, ⟨1, 1, .ro⟩, ⟨2, 1, .ro⟩, ⟨3, 1, .ro⟩, ⟨4, 1, .ro⟩, ⟨5, 1, .ro⟩, ⟨6, 1, .ro⟩, ⟨7, 1, .ro⟩, ⟨8, 1, .ro⟩]
  | .GLB_RESET_COUNT => [⟨0, 16, .ro⟩, ⟨16, 16, .ro⟩]
  | .MEM_BLOCK_ID => [⟨8, 24, .ro⟩, ⟨0, 8, .ro⟩]
  | .MEM_STAT => [⟨0, 1, .ro⟩, ⟨1, 1, .ro⟩, ⟨2, 1, .ro⟩, ⟨3, 1, .ro⟩]
  | .MEM_EVT => [⟨0, 1, .w1c⟩, ⟨1, 1, .w1c⟩, ⟨2, 1, .w1c⟩, ⟨3, 1, .w1c⟩, ⟨4, 1, .w1c⟩, ⟨5, 1, .w1c⟩, ⟨6, 1, .w1c⟩]
  | .MEM_IRQ_EN => [⟨0, 7, .rw⟩]
  | .MEM_SKIM_CTL => [⟨0, 8, .rw⟩, ⟨8, 1, .wo⟩, ⟨9, 1, .wo⟩]
  | .MEM_SKIM_FIRST => [⟨0, 21, .rw⟩]
  | .MEM_SKIM_LAST => [⟨0, 21, .rw⟩]
  | .MEM_SKIM_CE => [⟨0, 32, .ro⟩]
  | .MEM_SKIM_UE => [⟨0, 32, .ro⟩]
  | .MEM_SKIM_ADDR => [⟨0, 21, .ro⟩, ⟨30, 1, .ro⟩, ⟨31, 1, .ro⟩]
  | .MEM_LAST_CE => [⟨0, 8, .ro⟩, ⟨8, 21, .ro⟩]
  | .MEM_LAST_UE => [⟨0, 8, .ro⟩, ⟨8, 21, .ro⟩]
  | .MEM_FLIP_CTL => [⟨0, 8, .rwl⟩, ⟨8, 1, .rwl⟩, ⟨9, 1, .rwl⟩, ⟨10, 8, .rwl⟩, ⟨31, 1, .w1s⟩]
  | .MEM_FLIP_WORD => [⟨0, 21, .rwl⟩]
  | .MEM_FLIP_DATA => [⟨0, 64, .rwl⟩]
  | .MEM_CNT_CE => [⟨0, 32, .rc⟩]
  | .MEM_CNT_UE => [⟨0, 32, .rc⟩]
  | .MEM_CNT_WRITE_POISON => [⟨0, 32, .rc⟩]
  | .MEM_CNT_DROP => [⟨0, 32, .rc⟩]
  | .MEM_CNT_FLIP => [⟨0, 32, .rc⟩]
  | .TWN_BLOCK_ID => [⟨8, 24, .ro⟩, ⟨0, 8, .ro⟩]
  | .TWN_CTL => [⟨0, 1, .rw⟩, ⟨1, 1, .rw⟩, ⟨2, 1, .rw⟩, ⟨3, 1, .rw⟩, ⟨4, 1, .rw⟩, ⟨5, 1, .rw⟩]
  | .TWN_TIMING => [⟨0, 8, .rw⟩, ⟨16, 12, .rw⟩]
  | .TWN_TK => [⟨0, 4, .rw⟩, ⟨4, 6, .rw⟩, ⟨10, 3, .rw⟩, ⟨16, 12, .rw⟩]
  | .TWN_AIR => [⟨0, 16, .rw⟩]
  | .TWN_STAT => [⟨0, 2, .ro⟩, ⟨2, 1, .ro⟩, ⟨3, 1, .ro⟩, ⟨4, 1, .ro⟩, ⟨5, 2, .ro⟩, ⟨7, 2, .ro⟩, ⟨9, 3, .ro⟩, ⟨16, 16, .ro⟩]
  | .TWN_EVT => [⟨0, 1, .w1c⟩, ⟨1, 1, .w1c⟩, ⟨2, 1, .w1c⟩, ⟨3, 1, .w1c⟩, ⟨4, 1, .w1c⟩, ⟨5, 1, .w1c⟩, ⟨6, 1, .w1c⟩, ⟨7, 1, .w1c⟩, ⟨8, 1, .w1c⟩, ⟨9, 1, .w1c⟩, ⟨10, 1, .w1c⟩, ⟨11, 1, .w1c⟩, ⟨12, 1, .w1c⟩]
  | .TWN_IRQ_EN => [⟨0, 13, .rw⟩]
  | .TWN_CMD => [⟨0, 1, .wo⟩, ⟨1, 1, .wo⟩]
  | .TWN_SUSPECT => [⟨0, 16, .rw⟩]
  | .TWN_PEER_OFS => [⟨0, 32, .ro⟩]
  | .TWN_MIRROR => [⟨0, 13, .ro⟩]
  | .TWN_RUNNEL => [⟨0, 8, .rw⟩, ⟨8, 8, .rw⟩, ⟨16, 8, .rw⟩]
  | .TWN_CNT_HB_RX => [⟨0, 32, .rc⟩]
  | .TWN_CNT_BAD_MSG => [⟨0, 32, .rc⟩]
  | .TWN_CNT_MIRROR_TX => [⟨0, 32, .rc⟩]
  | .TWN_CNT_MIRROR_RX => [⟨0, 32, .rc⟩]
  | .TWN_CNT_AIR_MISS => [⟨0, 32, .rc⟩]
  | .TWN_CNT_TAKEOVER => [⟨0, 32, .rc⟩]
  | .TWN_CNT_DUP_SUSPECT => [⟨0, 32, .rc⟩]
  | .OBS_BLOCK_ID => [⟨8, 24, .ro⟩, ⟨0, 8, .ro⟩]
  | .OBS_STAT => [⟨0, 1, .ro⟩, ⟨1, 1, .ro⟩, ⟨2, 1, .ro⟩, ⟨3, 1, .ro⟩, ⟨4, 1, .ro⟩, ⟨5, 1, .ro⟩]
  | .OBS_EVT => [⟨0, 1, .w1c⟩, ⟨1, 1, .w1c⟩, ⟨2, 1, .w1c⟩, ⟨3, 1, .w1c⟩, ⟨4, 1, .w1c⟩, ⟨5, 1, .w1c⟩]
  | .OBS_IRQ_EN => [⟨0, 6, .rw⟩]
  | .OBS_STILL_CTL => [⟨0, 1, .wo⟩, ⟨1, 1, .wo⟩, ⟨2, 1, .rw⟩, ⟨3, 1, .rw⟩, ⟨16, 16, .rw⟩]
  | .OBS_STILL_SEQ => [⟨0, 32, .ro⟩]
  | .OBS_STILL_S => [⟨0, 48, .ro⟩]
  | .OBS_STILL_NS => [⟨0, 32, .ro⟩]
  | .OBS_OP_HOURS => [⟨0, 32, .ro⟩]
  | .OBS_OP_SEC => [⟨0, 12, .ro⟩]
  | .OBS_SILT_CTL => [⟨0, 1, .wo⟩, ⟨1, 1, .wo⟩, ⟨4, 12, .rw⟩, ⟨16, 16, .rw⟩]
  | .OBS_SILT_STAT => [⟨0, 12, .ro⟩, ⟨12, 10, .ro⟩, ⟨22, 7, .ro⟩]
  | .OBS_SILT_POST => [⟨0, 9, .wo⟩, ⟨32, 32, .wo⟩]
  | .OBS_SILT_SEQ => [⟨0, 32, .ro⟩]
  | .OBS_SILT_CODE_SEL => [⟨0, 9, .rw⟩]
  | .OBS_SILT_CODE_CFG => [⟨0, 8, .rw⟩, ⟨8, 5, .rw⟩, ⟨13, 1, .rw⟩]
  | .OBS_SILT_STAT_IDX => [⟨0, 5, .rw⟩]
  | .OBS_SILT_STAT_DATA => [⟨0, 32, .ro⟩]
  | .OBS_EDDY_KEY => [⟨0, 31, .wo⟩, ⟨31, 1, .w1s⟩]
  | .OBS_EDDY_CFG => [⟨0, 1, .rw⟩, ⟨1, 1, .rw⟩, ⟨2, 3, .rw⟩, ⟨8, 8, .rw⟩]
  | .OBS_EDDY_SEED => [⟨0, 32, .rw⟩]
  | .OBS_EDDY_P => [⟨0, 16, .rw⟩, ⟨16, 16, .rw⟩, ⟨32, 16, .rw⟩]
  | .OBS_CNT_SILT_KEPT => [⟨0, 32, .rc⟩]
  | .OBS_CNT_SILT_SUPP => [⟨0, 32, .rc⟩]
  | .OBS_CNT_SILT_LOST => [⟨0, 32, .rc⟩]
  | .OBS_CNT_EDDY => [⟨0, 32, .rc⟩]
  | .OBS_UNIT => [⟨0, 27, .ro⟩, ⟨32, 7, .ro⟩, ⟨40, 8, .ro⟩]
  | .OBS_RILL_CNT => [⟨0, 32, .rc⟩]
  | .OBS_CAR_SENT => [⟨0, 32, .rc⟩]
  | .OBS_RUN_CNT => [⟨0, 32, .rc⟩]
  | .OBS_THR_CNT => [⟨0, 32, .rc⟩]

/-- The reset value of a register as its table's Reset column gives it (R525). The columns that are not numbers: RUN_CFG_n's
BASE16 is 0x10 × n (its own table); a "Fuse" entry is what the fuses hold (0 while no fuse is blown, then loaded, R110);
the OBS_UNIT_u fields and the URGENT bits are computed where they are read (R497, R506). -/
def RegId.resetWord : RegId → Nat
  | .PLM_BLOCK_ID => 0x504C4D01
  | .PLM_PHY_MODE => 0x80004000
  | .PLM_CHAIN_CTL => 0x100
  | .PLM_RILL_CFG => 0x6400042
  | .PLM_RILL_LIM => 0x4007FF
  | .TXF_BLOCK_ID => 0x54584601
  | .TXF_BLANK_CTL => 0x2
  | .TXF_COEX_GRP => 0x1432
  | .TXF_CHAIN_CTL => 0xA006400
  | .TXF_SYN_CTL => 0x2
  | .TXF_LEVEL => 0x150
  | .TXF_FEM_CTL => 0x8040A
  | .TXF_CAR_CFG => 0xB00020
  | .CHT_BLOCK_ID => 0x43485401
  | .CHT_WEIR_NEAR => 0x5A
  | .MAC_BLOCK_ID => 0x4D414301
  | .MAC_CTL => 0x42
  | .MAC_SLOT => 0x4E20
  | .MAC_TMPL_0 => 0x3E807D0
  | .MAC_TMPL_1 => 0x3E81F40
  | .MAC_TMPL_2 => 0xC800190
  | .MAC_ACK_CTL => 0x14
  | .MAC_DRIFT_CTL => 0x323203
  | .MAC_ADDR => 0xFFFFFFFE
  | .MAC_VENDOR => 0x1000000
  | .MAC_SFD_OFF => 0x320
  | .SPW_BLOCK_ID => 0x53505701
  | .SPW_GEOM => 0x3
  | .SPW_SCHED => 0x10000000
  | .SLC_BLOCK_ID => 0x534C4301
  | .SLC_CTL => 0x14141000
  | .SLC_AGE_CTL => 0xE100000
  | .SLC_AGE_LIMIT => 0x15180
  | .SLC_RELOC_SEED => 0x1
  | .SLC_RUNNEL => 0x100
  | .SLC_SCAN_CTL => 0x3E8
  | .GRT_BLOCK_ID => 0x47525401
  | .GRT_PUF_CTL => 0xA
  | .OCL_BLOCK_ID => 0x4F434C01
  | .OCL_WEDGE_CTL => 0x640000
  | .OCL_J_WD => 0x2710000
  | .OCL_WD => 0x2710000
  | .RUN_BLOCK_ID => 0x52554E01
  | .RUN_CELL_STAT => 0x10000
  | .RUN_CELL_CTL => 0x200
  | .RUN_LINK_DATA => 0x20000
  | .RUN_CFG => 0xF01
  | .CLP_BLOCK_ID => 0x434C5001
  | .CLP_STEER_CTL => 0x73E80410
  | .CLP_STEER_LIM => 0x1E1403E8
  | .CLP_PPS_CTL => 0x6400
  | .ETH_BLOCK_ID => 0x45544801
  | .ETH_CTL => 0x20
  | .ETH_MAX => 0x2416
  | .HST_BLOCK_ID => 0x48535401
  | .HST_IN_RUNNEL => 0x2
  | .HST_SSID => 0x1F4C
  | .HST_RING_CTL => 0x18
  | .HST_RING_COAL => 0x32
  | .FLS_BLOCK_ID => 0x464C5301
  | .PWR_BLOCK_ID => 0x50575201
  | .PWR_STAT => 0x1
  | .PWR_WAKE_CTL => 0x140064
  | .PWR_PFAIL_CTL => 0x1
  | .PWR_DORMANT => 0x4
  | .PWR_CL_CTL => 0x640000
  | .GLB_BLOCK_ID => 0x474C4201
  | .GLB_RESET_CAUSE => 0x1
  | .MEM_BLOCK_ID => 0x4D454D01
  | .TWN_BLOCK_ID => 0x54574E01
  | .TWN_CTL => 0x8
  | .TWN_TIMING => 0x7D00032
  | .TWN_TK => 0x400
  | .TWN_SUSPECT => 0x3E8
  | .OBS_BLOCK_ID => 0x4F425301
  | .OBS_STILL_CTL => 0x3C0000
  | .OBS_SILT_CTL => 0x3C2000
  | .OBS_SILT_CODE_CFG => 0x3C
  | .OBS_EDDY_CFG => 0xFF00
  | .OBS_EDDY_SEED => 0x1
  | _ => 0

/-- Whether a register is 64 bits wide (R6 and the layout tables). -/
def RegId.wide : RegId → Bool
  | .CHT_BIN_DATA => true
  | .CHT_ENT_MASK => true
  | .CHT_WEIR_USED => true
  | .CHT_WEIR_RSV => true
  | .MAC_EUI => true
  | .MAC_ASN => true
  | .MAC_PAUSE => true
  | .MAC_BCN_MASK => true
  | .MAC_CELL_DATA => true
  | .MAC_DRIFT_DATA => true
  | .SPW_CMD_MASK => true
  | .SPW_CAR => true
  | .SLC_CMD_W => true
  | .SLC_RES_W => true
  | .SLC_PFX => true
  | .GRT_KEY_DATA => true
  | .GRT_FLOOR_DUE => true
  | .GRT_PENDING => true
  | .OCL_J_DBG_DATA => true
  | .OCL_DBG_DATA => true
  | .RUN_HPUSH_W => true
  | .RUN_NOTICE_SUM => true
  | .RUN_HPOP => true
  | .CLP_NOW_S => true
  | .CLP_SET_S => true
  | .CLP_STEP => true
  | .CLP_OFS_SAMPLE => true
  | .CLP_ANCHOR_ASN => true
  | .CLP_ANCHOR_S => true
  | .CLP_PPS_TS_S => true
  | .CLP_CIS_TIME => true
  | .ETH_MAC => true
  | .HST_RING_BASE => true
  | .HST_RING_WB => true
  | .FLS_BUF => true
  | .PWR_ALARM => true
  | .MEM_FLIP_DATA => true
  | .OBS_STILL_S => true
  | .OBS_SILT_POST => true
  | .OBS_EDDY_P => true
  | .OBS_UNIT => true
  | _ => false

/-- Where the copies of a register lie in BAR0 (R523, R524): copy (i, j) at base + i × ostride + j × istride,
i < ocount, j < icount. -/
structure Place where
  base    : Nat
  ostride : Nat
  ocount  : Nat
  istride : Nat
  icount  : Nat
  deriving DecidableEq, Repr

/-- The layout tables of the owning chapters with the block offsets and strides of R523 (R64, R103, R328 and the other layout rules). -/
def RegId.place : RegId → Place
  | .PLM_BLOCK_ID => ⟨0x800000, 0x0, 1, 0x0, 1⟩
  | .PLM_PHY_MODE => ⟨0x900000, 0x4, 16, 0x0, 1⟩
  | .PLM_GLB_EVT => ⟨0x900040, 0x0, 1, 0x0, 1⟩
  | .PLM_GLB_IRQ_EN => ⟨0x900044, 0x0, 1, 0x0, 1⟩
  | .PLM_CHAIN_CTL => ⟨0x800100, 0x10000, 16, 0x0, 1⟩
  | .PLM_CHAIN_STAT => ⟨0x800104, 0x10000, 16, 0x0, 1⟩
  | .PLM_WINDOW => ⟨0x800108, 0x10000, 16, 0x0, 1⟩
  | .PLM_CAL => ⟨0x80010C, 0x10000, 16, 0x0, 1⟩
  | .PLM_EVT => ⟨0x800110, 0x10000, 16, 0x0, 1⟩
  | .PLM_IRQ_EN => ⟨0x800114, 0x10000, 16, 0x0, 1⟩
  | .PLM_CNT_DETECT => ⟨0x800120, 0x10000, 16, 0x0, 1⟩
  | .PLM_CNT_FALSE_DET => ⟨0x800124, 0x10000, 16, 0x0, 1⟩
  | .PLM_CNT_PHR_REJECT => ⟨0x800128, 0x10000, 16, 0x0, 1⟩
  | .PLM_CNT_NO_CELL => ⟨0x80012C, 0x10000, 16, 0x0, 1⟩
  | .PLM_CNT_FCS_FAIL => ⟨0x800130, 0x10000, 16, 0x0, 1⟩
  | .PLM_CNT_BLANKED => ⟨0x800134, 0x10000, 16, 0x0, 1⟩
  | .PLM_CNT_AER_A => ⟨0x800138, 0x10000, 16, 0x0, 1⟩
  | .PLM_CNT_AER_B => ⟨0x80013C, 0x10000, 16, 0x0, 1⟩
  | .PLM_CNT_CLIP_A => ⟨0x800140, 0x10000, 16, 0x0, 1⟩
  | .PLM_CNT_CLIP_B => ⟨0x800144, 0x10000, 16, 0x0, 1⟩
  | .PLM_RILL_CFG => ⟨0x801000, 0x10000, 16, 0x20, 64⟩
  | .PLM_RILL_FREQ => ⟨0x801004, 0x10000, 16, 0x20, 64⟩
  | .PLM_RILL_LIM => ⟨0x801008, 0x10000, 16, 0x20, 64⟩
  | .PLM_RILL_STAT => ⟨0x80100C, 0x10000, 16, 0x20, 64⟩
  | .PLM_RILL_FRAMES => ⟨0x801010, 0x10000, 16, 0x20, 64⟩
  | .TXF_BLOCK_ID => ⟨0xC00000, 0x0, 1, 0x0, 1⟩
  | .TXF_BLANK_GRP => ⟨0xD00000, 0x4, 8, 0x0, 1⟩
  | .TXF_BLANK_CTL => ⟨0xD00020, 0x0, 1, 0x0, 1⟩
  | .TXF_COEX_GRP => ⟨0xD00040, 0x4, 4, 0x0, 1⟩
  | .TXF_COEX_STAT => ⟨0xD00050, 0x0, 1, 0x0, 1⟩
  | .TXF_CHAIN_CTL => ⟨0xC00100, 0x4000, 16, 0x0, 1⟩
  | .TXF_CHAIN_STAT => ⟨0xC00104, 0x4000, 16, 0x0, 1⟩
  | .TXF_SYN_WINDOW => ⟨0xC00108, 0x4000, 16, 0x0, 1⟩
  | .TXF_SYN_CTL => ⟨0xC0010C, 0x4000, 16, 0x0, 1⟩
  | .TXF_LEVEL => ⟨0xC00110, 0x4000, 16, 0x0, 1⟩
  | .TXF_FEM_CTL => ⟨0xC00114, 0x4000, 16, 0x0, 1⟩
  | .TXF_COEX_CTL => ⟨0xC00118, 0x4000, 16, 0x0, 1⟩
  | .TXF_EVT => ⟨0xC0011C, 0x4000, 16, 0x0, 1⟩
  | .TXF_IRQ_EN => ⟨0xC00120, 0x4000, 16, 0x0, 1⟩
  | .TXF_CNT_SENT => ⟨0xC00140, 0x4000, 16, 0x0, 1⟩
  | .TXF_CNT_LATE => ⟨0xC00144, 0x4000, 16, 0x0, 1⟩
  | .TXF_CNT_NO_GRANT => ⟨0xC00148, 0x4000, 16, 0x0, 1⟩
  | .TXF_CNT_GRANT_LOST => ⟨0xC0014C, 0x4000, 16, 0x0, 1⟩
  | .TXF_CNT_SYNTH_FAULT => ⟨0xC00150, 0x4000, 16, 0x0, 1⟩
  | .TXF_CNT_CAL => ⟨0xC00154, 0x4000, 16, 0x0, 1⟩
  | .TXF_CNT_CAL_DEFER => ⟨0xC00158, 0x4000, 16, 0x0, 1⟩
  | .TXF_CNT_CAR_WAIT => ⟨0xC0015C, 0x4000, 16, 0x0, 1⟩
  | .TXF_CAR_CFG => ⟨0xC01000, 0x4000, 16, 0x10, 64⟩
  | .TXF_CAR_FREQ => ⟨0xC01004, 0x4000, 16, 0x10, 64⟩
  | .TXF_CAR_STAT => ⟨0xC01008, 0x4000, 16, 0x10, 64⟩
  | .CHT_BLOCK_ID => ⟨0x1000000, 0x0, 1, 0x0, 1⟩
  | .CHT_STAT => ⟨0x1000004, 0x0, 1, 0x0, 1⟩
  | .CHT_EVT => ⟨0x1000008, 0x0, 1, 0x0, 1⟩
  | .CHT_IRQ_EN => ⟨0x100000C, 0x0, 1, 0x0, 1⟩
  | .CHT_LAST_REFUSE => ⟨0x1000010, 0x0, 1, 0x0, 1⟩
  | .CHT_BIN_SEL => ⟨0x1000014, 0x0, 1, 0x0, 1⟩
  | .CHT_BIN_DATA => ⟨0x1000018, 0x0, 1, 0x0, 1⟩
  | .CHT_DIGEST => ⟨0x1000020, 0x4, 8, 0x0, 1⟩
  | .CHT_FPROG_ADDR => ⟨0x1000040, 0x0, 1, 0x0, 1⟩
  | .CHT_FPROG_CMD => ⟨0x1000044, 0x0, 1, 0x0, 1⟩
  | .CHT_ENT_CFG => ⟨0x1001000, 0x40, 16, 0x0, 1⟩
  | .CHT_ENT_LOW => ⟨0x1001004, 0x40, 16, 0x0, 1⟩
  | .CHT_ENT_HIGH => ⟨0x1001008, 0x40, 16, 0x0, 1⟩
  | .CHT_ENT_DUTY => ⟨0x100100C, 0x40, 16, 0x0, 1⟩
  | .CHT_ENT_MASK => ⟨0x1001010, 0x40, 16, 0x0, 1⟩
  | .CHT_SWLIM => ⟨0x1001018, 0x40, 16, 0x0, 1⟩
  | .CHT_WEIR_NEAR => ⟨0x100101C, 0x40, 16, 0x0, 1⟩
  | .CHT_WEIR_USED => ⟨0x1001020, 0x40, 16, 0x0, 1⟩
  | .CHT_WEIR_RSV => ⟨0x1001028, 0x40, 16, 0x0, 1⟩
  | .CHT_WEIR_LIMIT => ⟨0x1001030, 0x40, 16, 0x0, 1⟩
  | .CHT_CNT_APPROVED => ⟨0x1001034, 0x40, 16, 0x0, 1⟩
  | .CHT_CNT_REFUSED => ⟨0x1001038, 0x40, 16, 0x0, 1⟩
  | .MAC_BLOCK_ID => ⟨0x1400000, 0x0, 1, 0x0, 1⟩
  | .MAC_CTL => ⟨0x1400004, 0x0, 1, 0x0, 1⟩
  | .MAC_STAT => ⟨0x1400008, 0x0, 1, 0x0, 1⟩
  | .MAC_EVT => ⟨0x140000C, 0x0, 1, 0x0, 1⟩
  | .MAC_IRQ_EN => ⟨0x1400010, 0x0, 1, 0x0, 1⟩
  | .MAC_SLOT => ⟨0x1400014, 0x0, 1, 0x0, 1⟩
  | .MAC_TMPL_0 => ⟨0x1400018, 0x0, 1, 0x0, 1⟩
  | .MAC_TMPL_1 => ⟨0x140001C, 0x0, 1, 0x0, 1⟩
  | .MAC_TMPL_2 => ⟨0x1400020, 0x0, 1, 0x0, 1⟩
  | .MAC_ACK_CTL => ⟨0x1400024, 0x0, 1, 0x0, 1⟩
  | .MAC_DRIFT_CTL => ⟨0x1400028, 0x0, 1, 0x0, 1⟩
  | .MAC_ADDR => ⟨0x140002C, 0x0, 1, 0x0, 1⟩
  | .MAC_EUI => ⟨0x1400030, 0x0, 1, 0x0, 1⟩
  | .MAC_VENDOR => ⟨0x1400038, 0x0, 1, 0x0, 1⟩
  | .MAC_ASN => ⟨0x1400040, 0x0, 1, 0x0, 1⟩
  | .MAC_PAUSE => ⟨0x1400048, 0x0, 1, 0x0, 1⟩
  | .MAC_SFD_OFF => ⟨0x1400080, 0x4, 16, 0x0, 1⟩
  | .MAC_SF => ⟨0x14000C0, 0x4, 8, 0x0, 1⟩
  | .MAC_BCN_CFG => ⟨0x1400100, 0x10, 16, 0x0, 1⟩
  | .MAC_BCN_MASK => ⟨0x1400108, 0x10, 16, 0x0, 1⟩
  | .MAC_CELL_IDX => ⟨0x1400200, 0x0, 1, 0x0, 1⟩
  | .MAC_CELL_DATA => ⟨0x1400208, 0x0, 1, 0x0, 1⟩
  | .MAC_DRIFT_IDX => ⟨0x1400210, 0x0, 1, 0x0, 1⟩
  | .MAC_DRIFT_DATA => ⟨0x1400218, 0x0, 1, 0x0, 1⟩
  | .MAC_CNT_ACK_SENT => ⟨0x1400300, 0x0, 1, 0x0, 1⟩
  | .MAC_CNT_ACK_FAIL => ⟨0x1400304, 0x0, 1, 0x0, 1⟩
  | .MAC_CNT_VERDICT_LATE => ⟨0x1400308, 0x0, 1, 0x0, 1⟩
  | .MAC_CNT_OFF_TEMPLATE => ⟨0x140030C, 0x0, 1, 0x0, 1⟩
  | .MAC_CNT_DUPLICATE => ⟨0x1400310, 0x0, 1, 0x0, 1⟩
  | .MAC_CNT_REPLAY => ⟨0x1400314, 0x0, 1, 0x0, 1⟩
  | .MAC_CNT_DUP_NOACK => ⟨0x1400318, 0x0, 1, 0x0, 1⟩
  | .MAC_CNT_TX_ACKED => ⟨0x140031C, 0x0, 1, 0x0, 1⟩
  | .MAC_CNT_TX_NO_ACK => ⟨0x1400320, 0x0, 1, 0x0, 1⟩
  | .MAC_CNT_NACK => ⟨0x1400324, 0x0, 1, 0x0, 1⟩
  | .MAC_CNT_BCN_SENT => ⟨0x1400328, 0x0, 1, 0x0, 1⟩
  | .MAC_CNT_BCN_FAIL => ⟨0x140032C, 0x0, 1, 0x0, 1⟩
  | .SPW_BLOCK_ID => ⟨0x1800000, 0x0, 1, 0x0, 1⟩
  | .SPW_CMD => ⟨0x1800004, 0x0, 1, 0x0, 1⟩
  | .SPW_CMD_STAT => ⟨0x1800008, 0x0, 1, 0x0, 1⟩
  | .SPW_EVT => ⟨0x180000C, 0x0, 1, 0x0, 1⟩
  | .SPW_IRQ_EN => ⟨0x1800010, 0x0, 1, 0x0, 1⟩
  | .SPW_CMD_MASK => ⟨0x1800018, 0x0, 1, 0x0, 1⟩
  | .SPW_CNT_BLOCKS => ⟨0x1800020, 0x0, 1, 0x0, 1⟩
  | .SPW_CNT_COPY_FAIL => ⟨0x1800024, 0x0, 1, 0x0, 1⟩
  | .SPW_CNT_SKIP => ⟨0x1800028, 0x0, 1, 0x0, 1⟩
  | .SPW_IMG => ⟨0x1800100, 0x40, 4, 0x0, 1⟩
  | .SPW_FLASH => ⟨0x1800104, 0x40, 4, 0x0, 1⟩
  | .SPW_GEOM => ⟨0x1800108, 0x40, 4, 0x0, 1⟩
  | .SPW_SCHED => ⟨0x180010C, 0x40, 4, 0x0, 1⟩
  | .SPW_TX => ⟨0x1800110, 0x40, 4, 0x0, 1⟩
  | .SPW_CAR => ⟨0x1800118, 0x40, 4, 0x0, 1⟩
  | .SPW_STAT => ⟨0x1800120, 0x40, 4, 0x0, 1⟩
  | .SPW_PROG => ⟨0x1800124, 0x40, 4, 0x0, 1⟩
  | .SLC_BLOCK_ID => ⟨0x1C00000, 0x0, 1, 0x0, 1⟩
  | .SLC_CTL => ⟨0x1C00004, 0x0, 1, 0x0, 1⟩
  | .SLC_STAT => ⟨0x1C00008, 0x0, 1, 0x0, 1⟩
  | .SLC_EVT => ⟨0x1C0000C, 0x0, 1, 0x0, 1⟩
  | .SLC_IRQ_EN => ⟨0x1C00010, 0x0, 1, 0x0, 1⟩
  | .SLC_AGE_CTL => ⟨0x1C00014, 0x0, 1, 0x0, 1⟩
  | .SLC_AGE_LIMIT => ⟨0x1C00018, 0x0, 1, 0x0, 1⟩
  | .SLC_RELOC_SEED => ⟨0x1C0001C, 0x0, 1, 0x0, 1⟩
  | .SLC_RUNNEL => ⟨0x1C00020, 0x0, 1, 0x0, 1⟩
  | .SLC_SCAN_CTL => ⟨0x1C00024, 0x0, 1, 0x0, 1⟩
  | .SLC_PINNED => ⟨0x1C00028, 0x0, 1, 0x0, 1⟩
  | .SLC_CMD_W => ⟨0x1C00040, 0x8, 6, 0x0, 1⟩
  | .SLC_CMD_GO => ⟨0x1C00070, 0x0, 1, 0x0, 1⟩
  | .SLC_RES_W => ⟨0x1C00080, 0x8, 6, 0x0, 1⟩
  | .SLC_CMD_STAT => ⟨0x1C000B0, 0x0, 1, 0x0, 1⟩
  | .SLC_PFX => ⟨0x1C00100, 0x8, 8, 0x0, 1⟩
  | .SLC_PFX_EN => ⟨0x1C00140, 0x0, 1, 0x0, 1⟩
  | .SLC_CNT_LOOKUP => ⟨0x1C00200, 0x0, 1, 0x0, 1⟩
  | .SLC_CNT_HIT => ⟨0x1C00204, 0x0, 1, 0x0, 1⟩
  | .SLC_CNT_UNKNOWN => ⟨0x1C00208, 0x0, 1, 0x0, 1⟩
  | .SLC_CNT_COMMIT => ⟨0x1C0020C, 0x0, 1, 0x0, 1⟩
  | .SLC_CNT_DROP => ⟨0x1C00210, 0x0, 1, 0x0, 1⟩
  | .SLC_CNT_MOVE => ⟨0x1C00214, 0x0, 1, 0x0, 1⟩
  | .SLC_CNT_LEARN_NEW => ⟨0x1C00218, 0x0, 1, 0x0, 1⟩
  | .SLC_CNT_LEARN_FAIL => ⟨0x1C0021C, 0x0, 1, 0x0, 1⟩
  | .SLC_CNT_AGED => ⟨0x1C00220, 0x0, 1, 0x0, 1⟩
  | .SLC_CNT_RELOC => ⟨0x1C00224, 0x0, 1, 0x0, 1⟩
  | .SLC_CNT_FULL => ⟨0x1C00228, 0x0, 1, 0x0, 1⟩
  | .SLC_CNT_NO_ROUTE => ⟨0x1C0022C, 0x0, 1, 0x0, 1⟩
  | .GRT_BLOCK_ID => ⟨0x2000000, 0x0, 1, 0x0, 1⟩
  | .GRT_STAT => ⟨0x2000004, 0x0, 1, 0x0, 1⟩
  | .GRT_EVT => ⟨0x2000008, 0x0, 1, 0x0, 1⟩
  | .GRT_IRQ_EN => ⟨0x200000C, 0x0, 1, 0x0, 1⟩
  | .GRT_CMD => ⟨0x2000010, 0x0, 1, 0x0, 1⟩
  | .GRT_CMD_IN => ⟨0x2000014, 0x0, 1, 0x0, 1⟩
  | .GRT_CMD_OUT => ⟨0x2000018, 0x0, 1, 0x0, 1⟩
  | .GRT_CMD_STAT => ⟨0x200001C, 0x0, 1, 0x0, 1⟩
  | .GRT_PUF_STAT => ⟨0x2000020, 0x0, 1, 0x0, 1⟩
  | .GRT_PUF_CTL => ⟨0x2000024, 0x0, 1, 0x0, 1⟩
  | .GRT_KEY_IDX => ⟨0x2000028, 0x0, 1, 0x0, 1⟩
  | .GRT_KEY_FLOOR => ⟨0x200002C, 0x0, 1, 0x0, 1⟩
  | .GRT_KEY_DATA => ⟨0x2000030, 0x0, 1, 0x0, 1⟩
  | .GRT_FLOOR_DUE => ⟨0x2000038, 0x0, 1, 0x0, 1⟩
  | .GRT_PENDING => ⟨0x2000040, 0x0, 1, 0x0, 1⟩
  | .GRT_FUSE_STATE => ⟨0x2000050, 0x4, 4, 0x0, 1⟩
  | .GRT_CNT_VERIFY => ⟨0x2000100, 0x0, 1, 0x0, 1⟩
  | .GRT_CNT_MIC_FAIL => ⟨0x2000104, 0x0, 1, 0x0, 1⟩
  | .GRT_CNT_KEY_STALE => ⟨0x2000108, 0x0, 1, 0x0, 1⟩
  | .GRT_CNT_PROTECT => ⟨0x200010C, 0x0, 1, 0x0, 1⟩
  | .GRT_CNT_DERIVE => ⟨0x2000110, 0x0, 1, 0x0, 1⟩
  | .GRT_CNT_CACHE_HIT => ⟨0x2000114, 0x0, 1, 0x0, 1⟩
  | .GRT_CNT_UNWRAP_FAIL => ⟨0x2000118, 0x0, 1, 0x0, 1⟩
  | .GRT_CNT_TX_REFUSED => ⟨0x200011C, 0x0, 1, 0x0, 1⟩
  | .OCL_BLOCK_ID => ⟨0x2400000, 0x0, 1, 0x0, 1⟩
  | .OCL_WEDGE_CTL => ⟨0x2400004, 0x0, 1, 0x0, 1⟩
  | .OCL_J_STAT => ⟨0x2400008, 0x0, 1, 0x0, 1⟩
  | .OCL_J_WD => ⟨0x240000C, 0x0, 1, 0x0, 1⟩
  | .OCL_J_BOOT => ⟨0x2400010, 0x0, 1, 0x0, 1⟩
  | .OCL_J_DBG_SEL => ⟨0x2400018, 0x0, 1, 0x0, 1⟩
  | .OCL_J_DBG_DATA => ⟨0x2400020, 0x0, 1, 0x0, 1⟩
  | .OCL_CL_STAT => ⟨0x2400100, 0x100000, 4, 0x0, 1⟩
  | .OCL_CL_EVT => ⟨0x2400104, 0x100000, 4, 0x0, 1⟩
  | .OCL_CL_IRQ_EN => ⟨0x2400108, 0x100000, 4, 0x0, 1⟩
  | .OCL_CNT_SEAL => ⟨0x2400120, 0x100000, 4, 0x0, 1⟩
  | .OCL_CNT_DROP => ⟨0x2400124, 0x100000, 4, 0x0, 1⟩
  | .OCL_CNT_EXC => ⟨0x2400128, 0x100000, 4, 0x0, 1⟩
  | .OCL_CNT_SEAL_LATE => ⟨0x240012C, 0x100000, 4, 0x0, 1⟩
  | .OCL_THR_CTL => ⟨0x2401000, 0x100000, 4, 0x40, 32⟩
  | .OCL_THR_STAT => ⟨0x2401004, 0x100000, 4, 0x40, 32⟩
  | .OCL_WD => ⟨0x2401008, 0x100000, 4, 0x40, 32⟩
  | .OCL_WD_CNT => ⟨0x240100C, 0x100000, 4, 0x40, 32⟩
  | .OCL_DBG_SEL => ⟨0x2401010, 0x100000, 4, 0x40, 32⟩
  | .OCL_DBG_DATA => ⟨0x2401018, 0x100000, 4, 0x40, 32⟩
  | .RUN_BLOCK_ID => ⟨0x2800000, 0x0, 1, 0x0, 1⟩
  | .RUN_EVT => ⟨0x2800004, 0x0, 1, 0x0, 1⟩
  | .RUN_IRQ_EN => ⟨0x2800008, 0x0, 1, 0x0, 1⟩
  | .RUN_CELL_STAT => ⟨0x280000C, 0x0, 1, 0x0, 1⟩
  | .RUN_CELL_CTL => ⟨0x2800010, 0x0, 1, 0x0, 1⟩
  | .RUN_LINK_IDX => ⟨0x2800014, 0x0, 1, 0x0, 1⟩
  | .RUN_LINK_DATA => ⟨0x2800018, 0x0, 1, 0x0, 1⟩
  | .RUN_HALLOC => ⟨0x280001C, 0x0, 1, 0x0, 1⟩
  | .RUN_HALLOC_RES => ⟨0x2800020, 0x0, 1, 0x0, 1⟩
  | .RUN_HFREE => ⟨0x2800024, 0x0, 1, 0x0, 1⟩
  | .RUN_HPUSH_CTL => ⟨0x2800028, 0x0, 1, 0x0, 1⟩
  | .RUN_HPUSH_W => ⟨0x2800040, 0x8, 4, 0x0, 1⟩
  | .RUN_NOTICE_SUM => ⟨0x2800080, 0x8, 4, 0x0, 1⟩
  | .RUN_CNT_BAD_WORD => ⟨0x2800100, 0x0, 1, 0x0, 1⟩
  | .RUN_CNT_OVERRUN => ⟨0x2800104, 0x0, 1, 0x0, 1⟩
  | .RUN_CNT_FLUSHED => ⟨0x2800108, 0x0, 1, 0x0, 1⟩
  | .RUN_CNT_LOST => ⟨0x280010C, 0x0, 1, 0x0, 1⟩
  | .RUN_CNT_ALLOC_FAIL => ⟨0x2800110, 0x0, 1, 0x0, 1⟩
  | .RUN_CNT_DOUBLE_FREE => ⟨0x2800114, 0x0, 1, 0x0, 1⟩
  | .RUN_CFG => ⟨0x2810000, 0x40, 256, 0x0, 1⟩
  | .RUN_MARK => ⟨0x2810004, 0x40, 256, 0x0, 1⟩
  | .RUN_STAT => ⟨0x2810008, 0x40, 256, 0x0, 1⟩
  | .RUN_EVT_N => ⟨0x281000C, 0x40, 256, 0x0, 1⟩
  | .RUN_IRQ_EN_N => ⟨0x2810010, 0x40, 256, 0x0, 1⟩
  | .RUN_CTL => ⟨0x2810014, 0x40, 256, 0x0, 1⟩
  | .RUN_HPOP => ⟨0x2810018, 0x40, 256, 0x0, 1⟩
  | .CLP_BLOCK_ID => ⟨0x2C00000, 0x0, 1, 0x0, 1⟩
  | .CLP_STAT => ⟨0x2C00004, 0x0, 1, 0x0, 1⟩
  | .CLP_EVT => ⟨0x2C00008, 0x0, 1, 0x0, 1⟩
  | .CLP_IRQ_EN => ⟨0x2C0000C, 0x0, 1, 0x0, 1⟩
  | .CLP_CMD => ⟨0x2C00010, 0x0, 1, 0x0, 1⟩
  | .CLP_SERVICE => ⟨0x2C00014, 0x0, 1, 0x0, 1⟩
  | .CLP_NOW_S => ⟨0x2C00018, 0x0, 1, 0x0, 1⟩
  | .CLP_NOW_NS => ⟨0x2C00020, 0x0, 1, 0x0, 1⟩
  | .CLP_SET_S => ⟨0x2C00028, 0x0, 1, 0x0, 1⟩
  | .CLP_STEP => ⟨0x2C00030, 0x0, 1, 0x0, 1⟩
  | .CLP_SET_NS => ⟨0x2C00038, 0x0, 1, 0x0, 1⟩
  | .CLP_STEER_CTL => ⟨0x2C00040, 0x0, 1, 0x0, 1⟩
  | .CLP_STEER_LIM => ⟨0x2C00044, 0x0, 1, 0x0, 1⟩
  | .CLP_TRIM => ⟨0x2C00048, 0x0, 1, 0x0, 1⟩
  | .CLP_RATE => ⟨0x2C0004C, 0x0, 1, 0x0, 1⟩
  | .CLP_RATE_I => ⟨0x2C00050, 0x0, 1, 0x0, 1⟩
  | .CLP_LAST_OFS => ⟨0x2C00054, 0x0, 1, 0x0, 1⟩
  | .CLP_OFS_SAMPLE => ⟨0x2C00058, 0x0, 1, 0x0, 1⟩
  | .CLP_ANCHOR_ASN => ⟨0x2C00060, 0x0, 1, 0x0, 1⟩
  | .CLP_ANCHOR_S => ⟨0x2C00068, 0x0, 1, 0x0, 1⟩
  | .CLP_ANCHOR_NS => ⟨0x2C00070, 0x0, 1, 0x0, 1⟩
  | .CLP_PPS_CTL => ⟨0x2C00074, 0x0, 1, 0x0, 1⟩
  | .CLP_PPS_TS_S => ⟨0x2C00078, 0x0, 1, 0x0, 1⟩
  | .CLP_PPS_TS_NS => ⟨0x2C00080, 0x0, 1, 0x0, 1⟩
  | .CLP_CIS_CTL => ⟨0x2C00084, 0x0, 1, 0x0, 1⟩
  | .CLP_CIS_TIME => ⟨0x2C00088, 0x0, 1, 0x0, 1⟩
  | .CLP_TC_CTL => ⟨0x2C00090, 0x0, 1, 0x0, 1⟩
  | .CLP_TC_PDELAY => ⟨0x2C000A0, 0x4, 4, 0x0, 1⟩
  | .CLP_TX_ADJ => ⟨0x2C00100, 0x4, 16, 0x0, 1⟩
  | .CLP_CNT_SAMPLE => ⟨0x2C00200, 0x0, 1, 0x0, 1⟩
  | .CLP_CNT_REJECT => ⟨0x2C00204, 0x0, 1, 0x0, 1⟩
  | .CLP_CNT_TC => ⟨0x2C00208, 0x0, 1, 0x0, 1⟩
  | .CLP_CNT_PPS_IN => ⟨0x2C0020C, 0x0, 1, 0x0, 1⟩
  | .ETH_BLOCK_ID => ⟨0x3000000, 0x0, 1, 0x0, 1⟩
  | .ETH_CTL => ⟨0x3000100, 0x40000, 4, 0x0, 1⟩
  | .ETH_STAT => ⟨0x3000104, 0x40000, 4, 0x0, 1⟩
  | .ETH_EVT => ⟨0x3000108, 0x40000, 4, 0x0, 1⟩
  | .ETH_IRQ_EN => ⟨0x300010C, 0x40000, 4, 0x0, 1⟩
  | .ETH_MAC => ⟨0x3000110, 0x40000, 4, 0x0, 1⟩
  | .ETH_MAX => ⟨0x3000118, 0x40000, 4, 0x0, 1⟩
  | .ETH_CNT_RX_OK => ⟨0x3000140, 0x40000, 4, 0x0, 1⟩
  | .ETH_CNT_RX_FCS => ⟨0x3000144, 0x40000, 4, 0x0, 1⟩
  | .ETH_CNT_RX_SIZE => ⟨0x3000148, 0x40000, 4, 0x0, 1⟩
  | .ETH_CNT_RX_FILTER => ⟨0x300014C, 0x40000, 4, 0x0, 1⟩
  | .ETH_CNT_RX_PAUSE => ⟨0x3000150, 0x40000, 4, 0x0, 1⟩
  | .ETH_CNT_RX_NO_CELL => ⟨0x3000154, 0x40000, 4, 0x0, 1⟩
  | .ETH_CNT_TX_OK => ⟨0x3000158, 0x40000, 4, 0x0, 1⟩
  | .ETH_CNT_TX_DROP => ⟨0x300015C, 0x40000, 4, 0x0, 1⟩
  | .HST_BLOCK_ID => ⟨0x3400000, 0x0, 1, 0x0, 1⟩
  | .HST_STAT => ⟨0x3400004, 0x0, 1, 0x0, 1⟩
  | .HST_EVT => ⟨0x3400008, 0x0, 1, 0x0, 1⟩
  | .HST_IRQ_EN => ⟨0x340000C, 0x0, 1, 0x0, 1⟩
  | .HST_INTN_CTL => ⟨0x3400010, 0x0, 1, 0x0, 1⟩
  | .HST_IN_RUNNEL => ⟨0x3400014, 0x0, 1, 0x0, 1⟩
  | .HST_SSID => ⟨0x3400018, 0x0, 1, 0x0, 1⟩
  | .HST_CNT_RING_IN => ⟨0x3400020, 0x0, 1, 0x0, 1⟩
  | .HST_CNT_RING_OUT => ⟨0x3400024, 0x0, 1, 0x0, 1⟩
  | .HST_CNT_DMA_ERR => ⟨0x3400028, 0x0, 1, 0x0, 1⟩
  | .HST_CNT_SPI_ERR => ⟨0x340002C, 0x0, 1, 0x0, 1⟩
  | .HST_RING_CTL => ⟨0x3401000, 0x40, 16, 0x0, 1⟩
  | .HST_RING_COAL => ⟨0x3401004, 0x40, 16, 0x0, 1⟩
  | .HST_RING_BASE => ⟨0x3401008, 0x40, 16, 0x0, 1⟩
  | .HST_RING_WB => ⟨0x3401010, 0x40, 16, 0x0, 1⟩
  | .HST_RING_DB => ⟨0x3401018, 0x40, 16, 0x0, 1⟩
  | .HST_RING_PTR => ⟨0x340101C, 0x40, 16, 0x0, 1⟩
  | .FLS_BLOCK_ID => ⟨0x3800000, 0x0, 1, 0x0, 1⟩
  | .FLS_STAT => ⟨0x3800004, 0x0, 1, 0x0, 1⟩
  | .FLS_EVT => ⟨0x3800008, 0x0, 1, 0x0, 1⟩
  | .FLS_IRQ_EN => ⟨0x380000C, 0x0, 1, 0x0, 1⟩
  | .FLS_CNT_REFUSED => ⟨0x3800020, 0x0, 1, 0x0, 1⟩
  | .FLS_CNT_FLASH_ERR => ⟨0x3800024, 0x0, 1, 0x0, 1⟩
  | .FLS_CMD => ⟨0x3800100, 0x800, 2, 0x0, 1⟩
  | .FLS_ADDR => ⟨0x3800104, 0x800, 2, 0x0, 1⟩
  | .FLS_CSTAT => ⟨0x3800108, 0x800, 2, 0x0, 1⟩
  | .FLS_BUF => ⟨0x3800200, 0x800, 2, 0x8, 32⟩
  | .PWR_BLOCK_ID => ⟨0x400000, 0x0, 1, 0x0, 1⟩
  | .PWR_STAT => ⟨0x400004, 0x0, 1, 0x0, 1⟩
  | .PWR_EVT => ⟨0x400008, 0x0, 1, 0x0, 1⟩
  | .PWR_IRQ_EN => ⟨0x40000C, 0x0, 1, 0x0, 1⟩
  | .PWR_WAKE_CTL => ⟨0x400010, 0x0, 1, 0x0, 1⟩
  | .PWR_SSC => ⟨0x400014, 0x0, 1, 0x0, 1⟩
  | .PWR_PFAIL_CTL => ⟨0x400018, 0x0, 1, 0x0, 1⟩
  | .PWR_DORMANT => ⟨0x40001C, 0x0, 1, 0x0, 1⟩
  | .PWR_ALARM => ⟨0x400020, 0x0, 1, 0x0, 1⟩
  | .PWR_CL_CTL => ⟨0x400040, 0x4, 4, 0x0, 1⟩
  | .PWR_CNT_CHAIN_WAKE => ⟨0x400100, 0x0, 1, 0x0, 1⟩
  | .PWR_CNT_CL_WAKE => ⟨0x400104, 0x0, 1, 0x0, 1⟩
  | .PWR_CNT_WAKE_LATE => ⟨0x400108, 0x0, 1, 0x0, 1⟩
  | .GLB_BLOCK_ID => ⟨0x0, 0x0, 1, 0x0, 1⟩
  | .GLB_RESET_CTL => ⟨0x10, 0x0, 1, 0x0, 1⟩
  | .GLB_RESET_CAUSE => ⟨0x14, 0x0, 1, 0x0, 1⟩
  | .GLB_RESET_COUNT => ⟨0x18, 0x0, 1, 0x0, 1⟩
  | .MEM_BLOCK_ID => ⟨0x4000000, 0x0, 1, 0x0, 1⟩
  | .MEM_STAT => ⟨0x4000004, 0x0, 1, 0x0, 1⟩
  | .MEM_EVT => ⟨0x4000008, 0x0, 1, 0x0, 1⟩
  | .MEM_IRQ_EN => ⟨0x400000C, 0x0, 1, 0x0, 1⟩
  | .MEM_SKIM_CTL => ⟨0x4000010, 0x0, 1, 0x0, 1⟩
  | .MEM_SKIM_FIRST => ⟨0x4000014, 0x0, 1, 0x0, 1⟩
  | .MEM_SKIM_LAST => ⟨0x4000018, 0x0, 1, 0x0, 1⟩
  | .MEM_SKIM_CE => ⟨0x400001C, 0x0, 1, 0x0, 1⟩
  | .MEM_SKIM_UE => ⟨0x4000020, 0x0, 1, 0x0, 1⟩
  | .MEM_SKIM_ADDR => ⟨0x4000040, 0x4, 8, 0x0, 1⟩
  | .MEM_LAST_CE => ⟨0x4000060, 0x0, 1, 0x0, 1⟩
  | .MEM_LAST_UE => ⟨0x4000064, 0x0, 1, 0x0, 1⟩
  | .MEM_FLIP_CTL => ⟨0x4000080, 0x0, 1, 0x0, 1⟩
  | .MEM_FLIP_WORD => ⟨0x4000084, 0x0, 1, 0x0, 1⟩
  | .MEM_FLIP_DATA => ⟨0x4000088, 0x0, 1, 0x0, 1⟩
  | .MEM_CNT_CE => ⟨0x4000100, 0x0, 1, 0x0, 1⟩
  | .MEM_CNT_UE => ⟨0x4000104, 0x0, 1, 0x0, 1⟩
  | .MEM_CNT_WRITE_POISON => ⟨0x4000108, 0x0, 1, 0x0, 1⟩
  | .MEM_CNT_DROP => ⟨0x400010C, 0x0, 1, 0x0, 1⟩
  | .MEM_CNT_FLIP => ⟨0x4000110, 0x0, 1, 0x0, 1⟩
  | .TWN_BLOCK_ID => ⟨0x3C00000, 0x0, 1, 0x0, 1⟩
  | .TWN_CTL => ⟨0x3C00004, 0x0, 1, 0x0, 1⟩
  | .TWN_TIMING => ⟨0x3C00008, 0x0, 1, 0x0, 1⟩
  | .TWN_TK => ⟨0x3C0000C, 0x0, 1, 0x0, 1⟩
  | .TWN_AIR => ⟨0x3C00010, 0x0, 1, 0x0, 1⟩
  | .TWN_STAT => ⟨0x3C00014, 0x0, 1, 0x0, 1⟩
  | .TWN_EVT => ⟨0x3C00018, 0x0, 1, 0x0, 1⟩
  | .TWN_IRQ_EN => ⟨0x3C0001C, 0x0, 1, 0x0, 1⟩
  | .TWN_CMD => ⟨0x3C00020, 0x0, 1, 0x0, 1⟩
  | .TWN_SUSPECT => ⟨0x3C00024, 0x0, 1, 0x0, 1⟩
  | .TWN_PEER_OFS => ⟨0x3C00028, 0x0, 1, 0x0, 1⟩
  | .TWN_MIRROR => ⟨0x3C0002C, 0x0, 1, 0x0, 1⟩
  | .TWN_RUNNEL => ⟨0x3C00030, 0x0, 1, 0x0, 1⟩
  | .TWN_CNT_HB_RX => ⟨0x3C00100, 0x0, 1, 0x0, 1⟩
  | .TWN_CNT_BAD_MSG => ⟨0x3C00104, 0x0, 1, 0x0, 1⟩
  | .TWN_CNT_MIRROR_TX => ⟨0x3C00108, 0x0, 1, 0x0, 1⟩
  | .TWN_CNT_MIRROR_RX => ⟨0x3C0010C, 0x0, 1, 0x0, 1⟩
  | .TWN_CNT_AIR_MISS => ⟨0x3C00110, 0x0, 1, 0x0, 1⟩
  | .TWN_CNT_TAKEOVER => ⟨0x3C00114, 0x0, 1, 0x0, 1⟩
  | .TWN_CNT_DUP_SUSPECT => ⟨0x3C00118, 0x0, 1, 0x0, 1⟩
  | .OBS_BLOCK_ID => ⟨0x4400000, 0x0, 1, 0x0, 1⟩
  | .OBS_STAT => ⟨0x4400004, 0x0, 1, 0x0, 1⟩
  | .OBS_EVT => ⟨0x4400008, 0x0, 1, 0x0, 1⟩
  | .OBS_IRQ_EN => ⟨0x440000C, 0x0, 1, 0x0, 1⟩
  | .OBS_STILL_CTL => ⟨0x4400010, 0x0, 1, 0x0, 1⟩
  | .OBS_STILL_SEQ => ⟨0x4400014, 0x0, 1, 0x0, 1⟩
  | .OBS_STILL_S => ⟨0x4400018, 0x0, 1, 0x0, 1⟩
  | .OBS_STILL_NS => ⟨0x4400020, 0x0, 1, 0x0, 1⟩
  | .OBS_OP_HOURS => ⟨0x4400024, 0x0, 1, 0x0, 1⟩
  | .OBS_OP_SEC => ⟨0x4400028, 0x0, 1, 0x0, 1⟩
  | .OBS_SILT_CTL => ⟨0x4400040, 0x0, 1, 0x0, 1⟩
  | .OBS_SILT_STAT => ⟨0x4400044, 0x0, 1, 0x0, 1⟩
  | .OBS_SILT_POST => ⟨0x4400048, 0x0, 1, 0x0, 1⟩
  | .OBS_SILT_SEQ => ⟨0x4400050, 0x0, 1, 0x0, 1⟩
  | .OBS_SILT_CODE_SEL => ⟨0x4400054, 0x0, 1, 0x0, 1⟩
  | .OBS_SILT_CODE_CFG => ⟨0x4400058, 0x0, 1, 0x0, 1⟩
  | .OBS_SILT_STAT_IDX => ⟨0x440005C, 0x0, 1, 0x0, 1⟩
  | .OBS_SILT_STAT_DATA => ⟨0x4400060, 0x0, 1, 0x0, 1⟩
  | .OBS_EDDY_KEY => ⟨0x4400080, 0x0, 1, 0x0, 1⟩
  | .OBS_EDDY_CFG => ⟨0x44000C0, 0x20, 10, 0x0, 1⟩
  | .OBS_EDDY_SEED => ⟨0x44000C4, 0x20, 10, 0x0, 1⟩
  | .OBS_EDDY_P => ⟨0x44000C8, 0x20, 10, 0x0, 1⟩
  | .OBS_CNT_SILT_KEPT => ⟨0x4400300, 0x0, 1, 0x0, 1⟩
  | .OBS_CNT_SILT_SUPP => ⟨0x4400304, 0x0, 1, 0x0, 1⟩
  | .OBS_CNT_SILT_LOST => ⟨0x4400308, 0x0, 1, 0x0, 1⟩
  | .OBS_CNT_EDDY => ⟨0x440030C, 0x0, 1, 0x0, 1⟩
  | .OBS_UNIT => ⟨0x4440000, 0x8, 292, 0x0, 1⟩
  | .OBS_RILL_CNT => ⟨0x4500000, 0x100, 256, 0x4, 64⟩
  | .OBS_CAR_SENT => ⟨0x4600000, 0x100, 16, 0x4, 64⟩
  | .OBS_RUN_CNT => ⟨0x4610000, 0x8, 256, 0x4, 2⟩
  | .OBS_THR_CNT => ⟨0x4620000, 0x8, 128, 0x4, 2⟩

/-- The registers of each 4 MiB block of BAR0, in the order of the block map (R523). -/
def blockRegs : Nat → List RegId
  | 0 => [.GLB_BLOCK_ID, .GLB_RESET_CTL, .GLB_RESET_CAUSE, .GLB_RESET_COUNT]
  | 1 => [.PWR_BLOCK_ID, .PWR_STAT, .PWR_EVT, .PWR_IRQ_EN, .PWR_WAKE_CTL, .PWR_SSC, .PWR_PFAIL_CTL, .PWR_DORMANT, .PWR_ALARM, .PWR_CL_CTL, .PWR_CNT_CHAIN_WAKE, .PWR_CNT_CL_WAKE, .PWR_CNT_WAKE_LATE]
  | 2 => [.PLM_BLOCK_ID, .PLM_PHY_MODE, .PLM_GLB_EVT, .PLM_GLB_IRQ_EN, .PLM_CHAIN_CTL, .PLM_CHAIN_STAT, .PLM_WINDOW, .PLM_CAL, .PLM_EVT, .PLM_IRQ_EN, .PLM_CNT_DETECT, .PLM_CNT_FALSE_DET, .PLM_CNT_PHR_REJECT, .PLM_CNT_NO_CELL, .PLM_CNT_FCS_FAIL, .PLM_CNT_BLANKED, .PLM_CNT_AER_A, .PLM_CNT_AER_B, .PLM_CNT_CLIP_A, .PLM_CNT_CLIP_B, .PLM_RILL_CFG, .PLM_RILL_FREQ, .PLM_RILL_LIM, .PLM_RILL_STAT, .PLM_RILL_FRAMES]
  | 3 => [.TXF_BLOCK_ID, .TXF_BLANK_GRP, .TXF_BLANK_CTL, .TXF_COEX_GRP, .TXF_COEX_STAT, .TXF_CHAIN_CTL, .TXF_CHAIN_STAT, .TXF_SYN_WINDOW, .TXF_SYN_CTL, .TXF_LEVEL, .TXF_FEM_CTL, .TXF_COEX_CTL, .TXF_EVT, .TXF_IRQ_EN, .TXF_CNT_SENT, .TXF_CNT_LATE, .TXF_CNT_NO_GRANT, .TXF_CNT_GRANT_LOST, .TXF_CNT_SYNTH_FAULT, .TXF_CNT_CAL, .TXF_CNT_CAL_DEFER, .TXF_CNT_CAR_WAIT, .TXF_CAR_CFG, .TXF_CAR_FREQ, .TXF_CAR_STAT]
  | 4 => [.CHT_BLOCK_ID, .CHT_STAT, .CHT_EVT, .CHT_IRQ_EN, .CHT_LAST_REFUSE, .CHT_BIN_SEL, .CHT_BIN_DATA, .CHT_DIGEST, .CHT_FPROG_ADDR, .CHT_FPROG_CMD, .CHT_ENT_CFG, .CHT_ENT_LOW, .CHT_ENT_HIGH, .CHT_ENT_DUTY, .CHT_ENT_MASK, .CHT_SWLIM, .CHT_WEIR_NEAR, .CHT_WEIR_USED, .CHT_WEIR_RSV, .CHT_WEIR_LIMIT, .CHT_CNT_APPROVED, .CHT_CNT_REFUSED]
  | 5 => [.MAC_BLOCK_ID, .MAC_CTL, .MAC_STAT, .MAC_EVT, .MAC_IRQ_EN, .MAC_SLOT, .MAC_TMPL_0, .MAC_TMPL_1, .MAC_TMPL_2, .MAC_ACK_CTL, .MAC_DRIFT_CTL, .MAC_ADDR, .MAC_EUI, .MAC_VENDOR, .MAC_ASN, .MAC_PAUSE, .MAC_SFD_OFF, .MAC_SF, .MAC_BCN_CFG, .MAC_BCN_MASK, .MAC_CELL_IDX, .MAC_CELL_DATA, .MAC_DRIFT_IDX, .MAC_DRIFT_DATA, .MAC_CNT_ACK_SENT, .MAC_CNT_ACK_FAIL, .MAC_CNT_VERDICT_LATE, .MAC_CNT_OFF_TEMPLATE, .MAC_CNT_DUPLICATE, .MAC_CNT_REPLAY, .MAC_CNT_DUP_NOACK, .MAC_CNT_TX_ACKED, .MAC_CNT_TX_NO_ACK, .MAC_CNT_NACK, .MAC_CNT_BCN_SENT, .MAC_CNT_BCN_FAIL]
  | 6 => [.SPW_BLOCK_ID, .SPW_CMD, .SPW_CMD_STAT, .SPW_EVT, .SPW_IRQ_EN, .SPW_CMD_MASK, .SPW_CNT_BLOCKS, .SPW_CNT_COPY_FAIL, .SPW_CNT_SKIP, .SPW_IMG, .SPW_FLASH, .SPW_GEOM, .SPW_SCHED, .SPW_TX, .SPW_CAR, .SPW_STAT, .SPW_PROG]
  | 7 => [.SLC_BLOCK_ID, .SLC_CTL, .SLC_STAT, .SLC_EVT, .SLC_IRQ_EN, .SLC_AGE_CTL, .SLC_AGE_LIMIT, .SLC_RELOC_SEED, .SLC_RUNNEL, .SLC_SCAN_CTL, .SLC_PINNED, .SLC_CMD_W, .SLC_CMD_GO, .SLC_RES_W, .SLC_CMD_STAT, .SLC_PFX, .SLC_PFX_EN, .SLC_CNT_LOOKUP, .SLC_CNT_HIT, .SLC_CNT_UNKNOWN, .SLC_CNT_COMMIT, .SLC_CNT_DROP, .SLC_CNT_MOVE, .SLC_CNT_LEARN_NEW, .SLC_CNT_LEARN_FAIL, .SLC_CNT_AGED, .SLC_CNT_RELOC, .SLC_CNT_FULL, .SLC_CNT_NO_ROUTE]
  | 8 => [.GRT_BLOCK_ID, .GRT_STAT, .GRT_EVT, .GRT_IRQ_EN, .GRT_CMD, .GRT_CMD_IN, .GRT_CMD_OUT, .GRT_CMD_STAT, .GRT_PUF_STAT, .GRT_PUF_CTL, .GRT_KEY_IDX, .GRT_KEY_FLOOR, .GRT_KEY_DATA, .GRT_FLOOR_DUE, .GRT_PENDING, .GRT_FUSE_STATE, .GRT_CNT_VERIFY, .GRT_CNT_MIC_FAIL, .GRT_CNT_KEY_STALE, .GRT_CNT_PROTECT, .GRT_CNT_DERIVE, .GRT_CNT_CACHE_HIT, .GRT_CNT_UNWRAP_FAIL, .GRT_CNT_TX_REFUSED]
  | 9 => [.OCL_BLOCK_ID, .OCL_WEDGE_CTL, .OCL_J_STAT, .OCL_J_WD, .OCL_J_BOOT, .OCL_J_DBG_SEL, .OCL_J_DBG_DATA, .OCL_CL_STAT, .OCL_CL_EVT, .OCL_CL_IRQ_EN, .OCL_CNT_SEAL, .OCL_CNT_DROP, .OCL_CNT_EXC, .OCL_CNT_SEAL_LATE, .OCL_THR_CTL, .OCL_THR_STAT, .OCL_WD, .OCL_WD_CNT, .OCL_DBG_SEL, .OCL_DBG_DATA]
  | 10 => [.RUN_BLOCK_ID, .RUN_EVT, .RUN_IRQ_EN, .RUN_CELL_STAT, .RUN_CELL_CTL, .RUN_LINK_IDX, .RUN_LINK_DATA, .RUN_HALLOC, .RUN_HALLOC_RES, .RUN_HFREE, .RUN_HPUSH_CTL, .RUN_HPUSH_W, .RUN_NOTICE_SUM, .RUN_CNT_BAD_WORD, .RUN_CNT_OVERRUN, .RUN_CNT_FLUSHED, .RUN_CNT_LOST, .RUN_CNT_ALLOC_FAIL, .RUN_CNT_DOUBLE_FREE, .RUN_CFG, .RUN_MARK, .RUN_STAT, .RUN_EVT_N, .RUN_IRQ_EN_N, .RUN_CTL, .RUN_HPOP]
  | 11 => [.CLP_BLOCK_ID, .CLP_STAT, .CLP_EVT, .CLP_IRQ_EN, .CLP_CMD, .CLP_SERVICE, .CLP_NOW_S, .CLP_NOW_NS, .CLP_SET_S, .CLP_STEP, .CLP_SET_NS, .CLP_STEER_CTL, .CLP_STEER_LIM, .CLP_TRIM, .CLP_RATE, .CLP_RATE_I, .CLP_LAST_OFS, .CLP_OFS_SAMPLE, .CLP_ANCHOR_ASN, .CLP_ANCHOR_S, .CLP_ANCHOR_NS, .CLP_PPS_CTL, .CLP_PPS_TS_S, .CLP_PPS_TS_NS, .CLP_CIS_CTL, .CLP_CIS_TIME, .CLP_TC_CTL, .CLP_TC_PDELAY, .CLP_TX_ADJ, .CLP_CNT_SAMPLE, .CLP_CNT_REJECT, .CLP_CNT_TC, .CLP_CNT_PPS_IN]
  | 12 => [.ETH_BLOCK_ID, .ETH_CTL, .ETH_STAT, .ETH_EVT, .ETH_IRQ_EN, .ETH_MAC, .ETH_MAX, .ETH_CNT_RX_OK, .ETH_CNT_RX_FCS, .ETH_CNT_RX_SIZE, .ETH_CNT_RX_FILTER, .ETH_CNT_RX_PAUSE, .ETH_CNT_RX_NO_CELL, .ETH_CNT_TX_OK, .ETH_CNT_TX_DROP]
  | 13 => [.HST_BLOCK_ID, .HST_STAT, .HST_EVT, .HST_IRQ_EN, .HST_INTN_CTL, .HST_IN_RUNNEL, .HST_SSID, .HST_CNT_RING_IN, .HST_CNT_RING_OUT, .HST_CNT_DMA_ERR, .HST_CNT_SPI_ERR, .HST_RING_CTL, .HST_RING_COAL, .HST_RING_BASE, .HST_RING_WB, .HST_RING_DB, .HST_RING_PTR]
  | 14 => [.FLS_BLOCK_ID, .FLS_STAT, .FLS_EVT, .FLS_IRQ_EN, .FLS_CNT_REFUSED, .FLS_CNT_FLASH_ERR, .FLS_CMD, .FLS_ADDR, .FLS_CSTAT, .FLS_BUF]
  | 15 => [.TWN_BLOCK_ID, .TWN_CTL, .TWN_TIMING, .TWN_TK, .TWN_AIR, .TWN_STAT, .TWN_EVT, .TWN_IRQ_EN, .TWN_CMD, .TWN_SUSPECT, .TWN_PEER_OFS, .TWN_MIRROR, .TWN_RUNNEL, .TWN_CNT_HB_RX, .TWN_CNT_BAD_MSG, .TWN_CNT_MIRROR_TX, .TWN_CNT_MIRROR_RX, .TWN_CNT_AIR_MISS, .TWN_CNT_TAKEOVER, .TWN_CNT_DUP_SUSPECT]
  | 16 => [.MEM_BLOCK_ID, .MEM_STAT, .MEM_EVT, .MEM_IRQ_EN, .MEM_SKIM_CTL, .MEM_SKIM_FIRST, .MEM_SKIM_LAST, .MEM_SKIM_CE, .MEM_SKIM_UE, .MEM_SKIM_ADDR, .MEM_LAST_CE, .MEM_LAST_UE, .MEM_FLIP_CTL, .MEM_FLIP_WORD, .MEM_FLIP_DATA, .MEM_CNT_CE, .MEM_CNT_UE, .MEM_CNT_WRITE_POISON, .MEM_CNT_DROP, .MEM_CNT_FLIP]
  | 17 => [.OBS_BLOCK_ID, .OBS_STAT, .OBS_EVT, .OBS_IRQ_EN, .OBS_STILL_CTL, .OBS_STILL_SEQ, .OBS_STILL_S, .OBS_STILL_NS, .OBS_OP_HOURS, .OBS_OP_SEC, .OBS_SILT_CTL, .OBS_SILT_STAT, .OBS_SILT_POST, .OBS_SILT_SEQ, .OBS_SILT_CODE_SEL, .OBS_SILT_CODE_CFG, .OBS_SILT_STAT_IDX, .OBS_SILT_STAT_DATA, .OBS_EDDY_KEY, .OBS_EDDY_CFG, .OBS_EDDY_SEED, .OBS_EDDY_P, .OBS_CNT_SILT_KEPT, .OBS_CNT_SILT_SUPP, .OBS_CNT_SILT_LOST, .OBS_CNT_EDDY, .OBS_UNIT, .OBS_RILL_CNT, .OBS_CAR_SENT, .OBS_RUN_CNT, .OBS_THR_CNT]
  | _ => []

/-! The named fields: `F.<register>_<field>`. -/
def F.PLM_BLOCK_ID_PREFIX : Fld := ⟨.PLM_BLOCK_ID, 8, 24⟩
def F.PLM_BLOCK_ID_VERSION : Fld := ⟨.PLM_BLOCK_ID, 0, 8⟩
def F.PLM_PHY_MODE_TYPE : Fld := ⟨.PLM_PHY_MODE, 0, 3⟩
def F.PLM_PHY_MODE_RATE : Fld := ⟨.PLM_PHY_MODE, 4, 4⟩
def F.PLM_PHY_MODE_ORDER : Fld := ⟨.PLM_PHY_MODE, 8, 1⟩
def F.PLM_PHY_MODE_MOD_INDEX : Fld := ⟨.PLM_PHY_MODE, 9, 7⟩
def F.PLM_PHY_MODE_FEC : Fld := ⟨.PLM_PHY_MODE, 16, 2⟩
def F.PLM_PHY_MODE_INTLV : Fld := ⟨.PLM_PHY_MODE, 18, 1⟩
def F.PLM_PHY_MODE_SFD_SEL : Fld := ⟨.PLM_PHY_MODE, 19, 1⟩
def F.PLM_PHY_MODE_RATE_MODE : Fld := ⟨.PLM_PHY_MODE, 20, 2⟩
def F.PLM_PHY_MODE_PRE_SYMS : Fld := ⟨.PLM_PHY_MODE, 28, 4⟩
def F.PLM_GLB_EVT_MODE_WR_IGNORED : Fld := ⟨.PLM_GLB_EVT, 0, 1⟩
def F.PLM_GLB_IRQ_EN_MODE_WR_IGNORED : Fld := ⟨.PLM_GLB_IRQ_EN, 0, 1⟩
def F.PLM_CHAIN_CTL_TARGET : Fld := ⟨.PLM_CHAIN_CTL, 0, 2⟩
def F.PLM_CHAIN_CTL_AER_MODE : Fld := ⟨.PLM_CHAIN_CTL, 4, 2⟩
def F.PLM_CHAIN_CTL_FCSFAIL_CMPL : Fld := ⟨.PLM_CHAIN_CTL, 8, 1⟩
def F.PLM_CHAIN_STAT_STATE : Fld := ⟨.PLM_CHAIN_STAT, 0, 2⟩
def F.PLM_CHAIN_STAT_CONV_LOCK : Fld := ⟨.PLM_CHAIN_STAT, 2, 1⟩
def F.PLM_CHAIN_STAT_ADC_CAL_OK : Fld := ⟨.PLM_CHAIN_STAT, 3, 1⟩
def F.PLM_CHAIN_STAT_RILLS_BUSY : Fld := ⟨.PLM_CHAIN_STAT, 8, 7⟩
def F.PLM_CHAIN_STAT_RILLS_EN : Fld := ⟨.PLM_CHAIN_STAT, 16, 7⟩
def F.PLM_WINDOW_CENTRE_KHZ : Fld := ⟨.PLM_WINDOW, 0, 23⟩
def F.PLM_CAL_RSSI_OFF_A : Fld := ⟨.PLM_CAL, 0, 8⟩
def F.PLM_CAL_RSSI_OFF_B : Fld := ⟨.PLM_CAL, 8, 8⟩
def F.PLM_CAL_TS_ADJ : Fld := ⟨.PLM_CAL, 16, 16⟩
def F.PLM_EVT_CFG_IGNORED : Fld := ⟨.PLM_EVT, 0, 1⟩
def F.PLM_EVT_WINDOW_BAD : Fld := ⟨.PLM_EVT, 1, 1⟩
def F.PLM_EVT_MODE_REFUSED : Fld := ⟨.PLM_EVT, 2, 1⟩
def F.PLM_EVT_NO_CELL : Fld := ⟨.PLM_EVT, 3, 1⟩
def F.PLM_EVT_CLIP_A : Fld := ⟨.PLM_EVT, 4, 1⟩
def F.PLM_EVT_CLIP_B : Fld := ⟨.PLM_EVT, 5, 1⟩
def F.PLM_EVT_STATE_CHANGE : Fld := ⟨.PLM_EVT, 6, 1⟩
def F.PLM_IRQ_EN_EN : Fld := ⟨.PLM_IRQ_EN, 0, 7⟩
def F.PLM_CNT_DETECT_COUNT : Fld := ⟨.PLM_CNT_DETECT, 0, 32⟩
def F.PLM_CNT_FALSE_DET_COUNT : Fld := ⟨.PLM_CNT_FALSE_DET, 0, 32⟩
def F.PLM_CNT_PHR_REJECT_COUNT : Fld := ⟨.PLM_CNT_PHR_REJECT, 0, 32⟩
def F.PLM_CNT_NO_CELL_COUNT : Fld := ⟨.PLM_CNT_NO_CELL, 0, 32⟩
def F.PLM_CNT_FCS_FAIL_COUNT : Fld := ⟨.PLM_CNT_FCS_FAIL, 0, 32⟩
def F.PLM_CNT_BLANKED_COUNT : Fld := ⟨.PLM_CNT_BLANKED, 0, 32⟩
def F.PLM_CNT_AER_A_COUNT : Fld := ⟨.PLM_CNT_AER_A, 0, 32⟩
def F.PLM_CNT_AER_B_COUNT : Fld := ⟨.PLM_CNT_AER_B, 0, 32⟩
def F.PLM_CNT_CLIP_A_COUNT : Fld := ⟨.PLM_CNT_CLIP_A, 0, 32⟩
def F.PLM_CNT_CLIP_B_COUNT : Fld := ⟨.PLM_CNT_CLIP_B, 0, 32⟩
def F.PLM_RILL_CFG_EN : Fld := ⟨.PLM_RILL_CFG, 0, 1⟩
def F.PLM_RILL_CFG_RBW : Fld := ⟨.PLM_RILL_CFG, 1, 5⟩
def F.PLM_RILL_CFG_SNIFF_CNT : Fld := ⟨.PLM_RILL_CFG, 6, 2⟩
def F.PLM_RILL_CFG_MODE0 : Fld := ⟨.PLM_RILL_CFG, 8, 4⟩
def F.PLM_RILL_CFG_MODE1 : Fld := ⟨.PLM_RILL_CFG, 12, 4⟩
def F.PLM_RILL_CFG_MODE2 : Fld := ⟨.PLM_RILL_CFG, 16, 4⟩
def F.PLM_RILL_CFG_DET_THR : Fld := ⟨.PLM_RILL_CFG, 20, 4⟩
def F.PLM_RILL_CFG_AER_HYST : Fld := ⟨.PLM_RILL_CFG, 24, 4⟩
def F.PLM_RILL_FREQ_OFFSET_HZ : Fld := ⟨.PLM_RILL_FREQ, 0, 27⟩
def F.PLM_RILL_LIM_MAX_PSDU : Fld := ⟨.PLM_RILL_LIM, 0, 11⟩
def F.PLM_RILL_LIM_SFD_WAIT : Fld := ⟨.PLM_RILL_LIM, 16, 8⟩
def F.PLM_RILL_STAT_STATE : Fld := ⟨.PLM_RILL_STAT, 0, 2⟩
def F.PLM_RILL_STAT_MODE_IDX : Fld := ⟨.PLM_RILL_STAT, 2, 2⟩
def F.PLM_RILL_STAT_AER : Fld := ⟨.PLM_RILL_STAT, 4, 1⟩
def F.PLM_RILL_STAT_REFUSE : Fld := ⟨.PLM_RILL_STAT, 8, 3⟩
def F.PLM_RILL_FRAMES_COUNT : Fld := ⟨.PLM_RILL_FRAMES, 0, 32⟩
def F.TXF_BLOCK_ID_PREFIX : Fld := ⟨.TXF_BLOCK_ID, 8, 24⟩
def F.TXF_BLOCK_ID_VERSION : Fld := ⟨.TXF_BLOCK_ID, 0, 8⟩
def F.TXF_BLANK_GRP_CHAINS : Fld := ⟨.TXF_BLANK_GRP, 0, 16⟩
def F.TXF_BLANK_CTL_BLANK_TAIL : Fld := ⟨.TXF_BLANK_CTL, 0, 6⟩
def F.TXF_COEX_GRP_GNT_SAMPLE : Fld := ⟨.TXF_COEX_GRP, 0, 8⟩
def F.TXF_COEX_GRP_REQ_LEAD : Fld := ⟨.TXF_COEX_GRP, 8, 10⟩
def F.TXF_COEX_GRP_GNT_HOLD : Fld := ⟨.TXF_COEX_GRP, 18, 4⟩
def F.TXF_COEX_GRP_GNT_POL : Fld := ⟨.TXF_COEX_GRP, 22, 1⟩
def F.TXF_COEX_GRP_REQ_POL : Fld := ⟨.TXF_COEX_GRP, 23, 1⟩
def F.TXF_COEX_GRP_PRI_POL : Fld := ⟨.TXF_COEX_GRP, 24, 1⟩
def F.TXF_COEX_STAT_REQ : Fld := ⟨.TXF_COEX_STAT, 0, 4⟩
def F.TXF_COEX_STAT_PRI : Fld := ⟨.TXF_COEX_STAT, 4, 4⟩
def F.TXF_COEX_STAT_GNT : Fld := ⟨.TXF_COEX_STAT, 8, 4⟩
def F.TXF_CHAIN_CTL_TX_HOLD : Fld := ⟨.TXF_CHAIN_CTL, 0, 1⟩
def F.TXF_CHAIN_CTL_WAKE_LEAD : Fld := ⟨.TXF_CHAIN_CTL, 8, 10⟩
def F.TXF_CHAIN_CTL_IDLE_OFF : Fld := ⟨.TXF_CHAIN_CTL, 24, 8⟩
def F.TXF_CHAIN_STAT_TX_STATE : Fld := ⟨.TXF_CHAIN_STAT, 0, 2⟩
def F.TXF_CHAIN_STAT_LOCK : Fld := ⟨.TXF_CHAIN_STAT, 2, 1⟩
def F.TXF_CHAIN_STAT_CAL_BUSY : Fld := ⟨.TXF_CHAIN_STAT, 3, 1⟩
def F.TXF_CHAIN_STAT_CAL_DUE : Fld := ⟨.TXF_CHAIN_STAT, 4, 1⟩
def F.TXF_CHAIN_STAT_SYN_FAULT : Fld := ⟨.TXF_CHAIN_STAT, 5, 1⟩
def F.TXF_CHAIN_STAT_CAL_VALID : Fld := ⟨.TXF_CHAIN_STAT, 6, 1⟩
def F.TXF_CHAIN_STAT_SYN_BAND : Fld := ⟨.TXF_CHAIN_STAT, 8, 3⟩
def F.TXF_CHAIN_STAT_CAL_TEMP : Fld := ⟨.TXF_CHAIN_STAT, 16, 8⟩
def F.TXF_CHAIN_STAT_CAR_BUSY : Fld := ⟨.TXF_CHAIN_STAT, 24, 7⟩
def F.TXF_SYN_WINDOW_CENTRE_KHZ : Fld := ⟨.TXF_SYN_WINDOW, 0, 23⟩
def F.TXF_SYN_CTL_CAL : Fld := ⟨.TXF_SYN_CTL, 0, 1⟩
def F.TXF_SYN_CTL_TEMP_CAL_EN : Fld := ⟨.TXF_SYN_CTL, 1, 1⟩
def F.TXF_LEVEL_CFR_PAPR : Fld := ⟨.TXF_LEVEL, 0, 8⟩
def F.TXF_LEVEL_CFR_EN : Fld := ⟨.TXF_LEVEL, 8, 1⟩
def F.TXF_FEM_CTL_PA_LEAD : Fld := ⟨.TXF_FEM_CTL, 0, 7⟩
def F.TXF_FEM_CTL_PA_LAG : Fld := ⟨.TXF_FEM_CTL, 8, 6⟩
def F.TXF_FEM_CTL_PA_POL : Fld := ⟨.TXF_FEM_CTL, 16, 1⟩
def F.TXF_FEM_CTL_TXSW_POL : Fld := ⟨.TXF_FEM_CTL, 17, 1⟩
def F.TXF_FEM_CTL_LNA_POL : Fld := ⟨.TXF_FEM_CTL, 18, 1⟩
def F.TXF_FEM_CTL_LNA_EN : Fld := ⟨.TXF_FEM_CTL, 19, 1⟩
def F.TXF_COEX_CTL_EN : Fld := ⟨.TXF_COEX_CTL, 0, 1⟩
def F.TXF_COEX_CTL_GROUP : Fld := ⟨.TXF_COEX_CTL, 1, 2⟩
def F.TXF_EVT_WINDOW_BAD : Fld := ⟨.TXF_EVT, 0, 1⟩
def F.TXF_EVT_CFG_HELD : Fld := ⟨.TXF_EVT, 1, 1⟩
def F.TXF_EVT_CAR_REFUSED : Fld := ⟨.TXF_EVT, 2, 1⟩
def F.TXF_EVT_LATE : Fld := ⟨.TXF_EVT, 3, 1⟩
def F.TXF_EVT_SYN_UNLOCK : Fld := ⟨.TXF_EVT, 4, 1⟩
def F.TXF_EVT_SYN_FAULT : Fld := ⟨.TXF_EVT, 5, 1⟩
def F.TXF_EVT_CAL_STARVED : Fld := ⟨.TXF_EVT, 6, 1⟩
def F.TXF_EVT_NO_GRANT : Fld := ⟨.TXF_EVT, 7, 1⟩
def F.TXF_EVT_GRANT_LOST : Fld := ⟨.TXF_EVT, 8, 1⟩
def F.TXF_EVT_COEX_ADJ : Fld := ⟨.TXF_EVT, 9, 1⟩
def F.TXF_IRQ_EN_EN : Fld := ⟨.TXF_IRQ_EN, 0, 10⟩
def F.TXF_CNT_SENT_COUNT : Fld := ⟨.TXF_CNT_SENT, 0, 32⟩
def F.TXF_CNT_LATE_COUNT : Fld := ⟨.TXF_CNT_LATE, 0, 32⟩
def F.TXF_CNT_NO_GRANT_COUNT : Fld := ⟨.TXF_CNT_NO_GRANT, 0, 32⟩
def F.TXF_CNT_GRANT_LOST_COUNT : Fld := ⟨.TXF_CNT_GRANT_LOST, 0, 32⟩
def F.TXF_CNT_SYNTH_FAULT_COUNT : Fld := ⟨.TXF_CNT_SYNTH_FAULT, 0, 32⟩
def F.TXF_CNT_CAL_COUNT : Fld := ⟨.TXF_CNT_CAL, 0, 32⟩
def F.TXF_CNT_CAL_DEFER_COUNT : Fld := ⟨.TXF_CNT_CAL_DEFER, 0, 32⟩
def F.TXF_CNT_CAR_WAIT_COUNT : Fld := ⟨.TXF_CNT_CAR_WAIT, 0, 32⟩
def F.TXF_CAR_CFG_EN : Fld := ⟨.TXF_CAR_CFG, 0, 1⟩
def F.TXF_CAR_CFG_MODE : Fld := ⟨.TXF_CAR_CFG, 1, 4⟩
def F.TXF_CAR_CFG_FCS32 : Fld := ⟨.TXF_CAR_CFG, 5, 1⟩
def F.TXF_CAR_CFG_MCS : Fld := ⟨.TXF_CAR_CFG, 8, 4⟩
def F.TXF_CAR_CFG_LEVEL : Fld := ⟨.TXF_CAR_CFG, 16, 8⟩
def F.TXF_CAR_FREQ_OFFSET_HZ : Fld := ⟨.TXF_CAR_FREQ, 0, 27⟩
def F.TXF_CAR_STAT_BUSY : Fld := ⟨.TXF_CAR_STAT, 0, 1⟩
def F.TXF_CAR_STAT_PENDING : Fld := ⟨.TXF_CAR_STAT, 1, 1⟩
def F.TXF_CAR_STAT_REFUSE : Fld := ⟨.TXF_CAR_STAT, 2, 3⟩
def F.CHT_BLOCK_ID_PREFIX : Fld := ⟨.CHT_BLOCK_ID, 8, 24⟩
def F.CHT_BLOCK_ID_VERSION : Fld := ⟨.CHT_BLOCK_ID, 0, 8⟩
def F.CHT_STAT_LOADED : Fld := ⟨.CHT_STAT, 0, 1⟩
def F.CHT_STAT_SEAL : Fld := ⟨.CHT_STAT, 1, 1⟩
def F.CHT_STAT_COLD_FILL : Fld := ⟨.CHT_STAT, 2, 1⟩
def F.CHT_STAT_FPROG_BUSY : Fld := ⟨.CHT_STAT, 3, 1⟩
def F.CHT_STAT_NEAR_MASK : Fld := ⟨.CHT_STAT, 16, 16⟩
def F.CHT_EVT_CHARTER_REFUSE : Fld := ⟨.CHT_EVT, 0, 1⟩
def F.CHT_EVT_BUDGET_REFUSE : Fld := ⟨.CHT_EVT, 1, 1⟩
def F.CHT_EVT_NEAR : Fld := ⟨.CHT_EVT, 2, 1⟩
def F.CHT_EVT_FUSE_DONE : Fld := ⟨.CHT_EVT, 3, 1⟩
def F.CHT_EVT_FUSE_REFUSED : Fld := ⟨.CHT_EVT, 4, 1⟩
def F.CHT_EVT_COLD_FILLED : Fld := ⟨.CHT_EVT, 5, 1⟩
def F.CHT_IRQ_EN_EN : Fld := ⟨.CHT_IRQ_EN, 0, 6⟩
def F.CHT_LAST_REFUSE_ENTRY : Fld := ⟨.CHT_LAST_REFUSE, 0, 4⟩
def F.CHT_LAST_REFUSE_REASON : Fld := ⟨.CHT_LAST_REFUSE, 4, 3⟩
def F.CHT_LAST_REFUSE_AT_COMMIT : Fld := ⟨.CHT_LAST_REFUSE, 7, 1⟩
def F.CHT_LAST_REFUSE_CHAIN : Fld := ⟨.CHT_LAST_REFUSE, 8, 4⟩
def F.CHT_LAST_REFUSE_CARRIER : Fld := ⟨.CHT_LAST_REFUSE, 12, 6⟩
def F.CHT_BIN_SEL_ENTRY : Fld := ⟨.CHT_BIN_SEL, 0, 4⟩
def F.CHT_BIN_SEL_BIN : Fld := ⟨.CHT_BIN_SEL, 8, 6⟩
def F.CHT_BIN_DATA_USEC : Fld := ⟨.CHT_BIN_DATA, 0, 40⟩
def F.CHT_DIGEST_DIGEST : Fld := ⟨.CHT_DIGEST, 0, 32⟩
def F.CHT_FPROG_ADDR_BIT : Fld := ⟨.CHT_FPROG_ADDR, 0, 12⟩
def F.CHT_FPROG_CMD_BLOW : Fld := ⟨.CHT_FPROG_CMD, 0, 1⟩
def F.CHT_ENT_CFG_PROGRAMMED : Fld := ⟨.CHT_ENT_CFG, 0, 1⟩
def F.CHT_ENT_CFG_REVOKED : Fld := ⟨.CHT_ENT_CFG, 1, 1⟩
def F.CHT_ENT_CFG_ACCOUNT : Fld := ⟨.CHT_ENT_CFG, 2, 1⟩
def F.CHT_ENT_CFG_LIVE : Fld := ⟨.CHT_ENT_CFG, 3, 1⟩
def F.CHT_ENT_CFG_CAP_DENY : Fld := ⟨.CHT_ENT_CFG, 8, 9⟩
def F.CHT_ENT_CFG_FE_GAIN : Fld := ⟨.CHT_ENT_CFG, 17, 8⟩
def F.CHT_ENT_LOW_LOW_KHZ : Fld := ⟨.CHT_ENT_LOW, 0, 23⟩
def F.CHT_ENT_HIGH_HIGH_DENY_KHZ : Fld := ⟨.CHT_ENT_HIGH, 0, 23⟩
def F.CHT_ENT_DUTY_DUTY_DENY : Fld := ⟨.CHT_ENT_DUTY, 0, 14⟩
def F.CHT_ENT_MASK_CHMASK : Fld := ⟨.CHT_ENT_MASK, 0, 64⟩
def F.CHT_SWLIM_SW_DISABLE : Fld := ⟨.CHT_SWLIM, 0, 1⟩
def F.CHT_SWLIM_SW_CAP_DENY : Fld := ⟨.CHT_SWLIM, 8, 9⟩
def F.CHT_SWLIM_SW_DUTY_DENY : Fld := ⟨.CHT_SWLIM, 18, 14⟩
def F.CHT_WEIR_NEAR_PCT : Fld := ⟨.CHT_WEIR_NEAR, 0, 7⟩
def F.CHT_WEIR_USED_USEC : Fld := ⟨.CHT_WEIR_USED, 0, 42⟩
def F.CHT_WEIR_RSV_USEC : Fld := ⟨.CHT_WEIR_RSV, 0, 42⟩
def F.CHT_WEIR_LIMIT_USEC : Fld := ⟨.CHT_WEIR_LIMIT, 0, 32⟩
def F.CHT_CNT_APPROVED_COUNT : Fld := ⟨.CHT_CNT_APPROVED, 0, 32⟩
def F.CHT_CNT_REFUSED_COUNT : Fld := ⟨.CHT_CNT_REFUSED, 0, 32⟩
def F.MAC_BLOCK_ID_PREFIX : Fld := ⟨.MAC_BLOCK_ID, 8, 24⟩
def F.MAC_BLOCK_ID_VERSION : Fld := ⟨.MAC_BLOCK_ID, 0, 8⟩
def F.MAC_CTL_EN : Fld := ⟨.MAC_CTL, 0, 1⟩
def F.MAC_CTL_ACK_AUTO : Fld := ⟨.MAC_CTL, 1, 1⟩
def F.MAC_CTL_UNSEC_ACK : Fld := ⟨.MAC_CTL, 2, 1⟩
def F.MAC_CTL_ACK_SEC : Fld := ⟨.MAC_CTL, 3, 1⟩
def F.MAC_CTL_REPORT_DUP : Fld := ⟨.MAC_CTL, 4, 1⟩
def F.MAC_CTL_REPORT_REPLAY : Fld := ⟨.MAC_CTL, 5, 1⟩
def F.MAC_CTL_BCN_EN : Fld := ⟨.MAC_CTL, 6, 1⟩
def F.MAC_STAT_RUNNING : Fld := ⟨.MAC_STAT, 0, 1⟩
def F.MAC_STAT_PROFILE_BAD : Fld := ⟨.MAC_STAT, 1, 1⟩
def F.MAC_STAT_ASN_VALID : Fld := ⟨.MAC_STAT, 2, 1⟩
def F.MAC_STAT_PAUSED : Fld := ⟨.MAC_STAT, 3, 1⟩
def F.MAC_EVT_CFG_IGNORED : Fld := ⟨.MAC_EVT, 0, 1⟩
def F.MAC_EVT_PROFILE_BAD : Fld := ⟨.MAC_EVT, 1, 1⟩
def F.MAC_EVT_ACK_FAIL : Fld := ⟨.MAC_EVT, 2, 1⟩
def F.MAC_EVT_BCN_FAIL : Fld := ⟨.MAC_EVT, 3, 1⟩
def F.MAC_EVT_DRIFT_ALARM : Fld := ⟨.MAC_EVT, 4, 1⟩
def F.MAC_EVT_PAUSE_START : Fld := ⟨.MAC_EVT, 5, 1⟩
def F.MAC_EVT_PAUSE_END : Fld := ⟨.MAC_EVT, 6, 1⟩
def F.MAC_EVT_VERDICT_LATE : Fld := ⟨.MAC_EVT, 7, 1⟩
def F.MAC_IRQ_EN_EN : Fld := ⟨.MAC_IRQ_EN, 0, 8⟩
def F.MAC_SLOT_SLOT_LEN_US : Fld := ⟨.MAC_SLOT, 0, 16⟩
def F.MAC_SLOT_HOP_ID : Fld := ⟨.MAC_SLOT, 16, 16⟩
def F.MAC_TMPL_0_TX_OFFSET : Fld := ⟨.MAC_TMPL_0, 0, 16⟩
def F.MAC_TMPL_0_RX_GUARD : Fld := ⟨.MAC_TMPL_0, 16, 16⟩
def F.MAC_TMPL_1_MAX_AIR : Fld := ⟨.MAC_TMPL_1, 0, 16⟩
def F.MAC_TMPL_1_ACK_DELAY : Fld := ⟨.MAC_TMPL_1, 16, 16⟩
def F.MAC_TMPL_2_ACK_WAIT : Fld := ⟨.MAC_TMPL_2, 0, 16⟩
def F.MAC_TMPL_2_ACK_MAX_AIR : Fld := ⟨.MAC_TMPL_2, 16, 16⟩
def F.MAC_ACK_CTL_ACK_LATE_TOL : Fld := ⟨.MAC_ACK_CTL, 0, 8⟩
def F.MAC_ACK_CTL_JOIN_METRIC : Fld := ⟨.MAC_ACK_CTL, 8, 8⟩
def F.MAC_DRIFT_CTL_DRIFT_W : Fld := ⟨.MAC_DRIFT_CTL, 0, 3⟩
def F.MAC_DRIFT_CTL_ALARM_PPM : Fld := ⟨.MAC_DRIFT_CTL, 8, 8⟩
def F.MAC_DRIFT_CTL_MIN_SLOTS : Fld := ⟨.MAC_DRIFT_CTL, 16, 16⟩
def F.MAC_ADDR_SHORT : Fld := ⟨.MAC_ADDR, 0, 16⟩
def F.MAC_ADDR_PAN : Fld := ⟨.MAC_ADDR, 16, 16⟩
def F.MAC_EUI_EUI64 : Fld := ⟨.MAC_EUI, 0, 64⟩
def F.MAC_VENDOR_OUI : Fld := ⟨.MAC_VENDOR, 0, 24⟩
def F.MAC_VENDOR_PROFILE_VER : Fld := ⟨.MAC_VENDOR, 24, 8⟩
def F.MAC_ASN_ASN : Fld := ⟨.MAC_ASN, 0, 40⟩
def F.MAC_PAUSE_START_ASN : Fld := ⟨.MAC_PAUSE, 0, 40⟩
def F.MAC_PAUSE_SLOTS : Fld := ⟨.MAC_PAUSE, 40, 8⟩
def F.MAC_PAUSE_ARM : Fld := ⟨.MAC_PAUSE, 48, 1⟩
def F.MAC_SFD_OFF_USEC : Fld := ⟨.MAC_SFD_OFF, 0, 16⟩
def F.MAC_SF_LENGTH : Fld := ⟨.MAC_SF, 0, 16⟩
def F.MAC_SF_EN : Fld := ⟨.MAC_SF, 16, 1⟩
def F.MAC_SF_ADVERTISE : Fld := ⟨.MAC_SF, 17, 1⟩
def F.MAC_SF_HANDLE : Fld := ⟨.MAC_SF, 24, 8⟩
def F.MAC_BCN_CFG_EN : Fld := ⟨.MAC_BCN_CFG, 0, 1⟩
def F.MAC_BCN_CFG_MODE : Fld := ⟨.MAC_BCN_CFG, 1, 1⟩
def F.MAC_BCN_CFG_SECLVL : Fld := ⟨.MAC_BCN_CFG, 2, 3⟩
def F.MAC_BCN_CFG_GROUP : Fld := ⟨.MAC_BCN_CFG, 8, 12⟩
def F.MAC_BCN_MASK_CARRIERS : Fld := ⟨.MAC_BCN_MASK, 0, 64⟩
def F.MAC_CELL_IDX_IDX : Fld := ⟨.MAC_CELL_IDX, 0, 13⟩
def F.MAC_CELL_DATA_CELL : Fld := ⟨.MAC_CELL_DATA, 0, 64⟩
def F.MAC_DRIFT_IDX_IDX : Fld := ⟨.MAC_DRIFT_IDX, 0, 19⟩
def F.MAC_DRIFT_DATA_RECORD : Fld := ⟨.MAC_DRIFT_DATA, 0, 64⟩
def F.MAC_CNT_ACK_SENT_COUNT : Fld := ⟨.MAC_CNT_ACK_SENT, 0, 32⟩
def F.MAC_CNT_ACK_FAIL_COUNT : Fld := ⟨.MAC_CNT_ACK_FAIL, 0, 32⟩
def F.MAC_CNT_VERDICT_LATE_COUNT : Fld := ⟨.MAC_CNT_VERDICT_LATE, 0, 32⟩
def F.MAC_CNT_OFF_TEMPLATE_COUNT : Fld := ⟨.MAC_CNT_OFF_TEMPLATE, 0, 32⟩
def F.MAC_CNT_DUPLICATE_COUNT : Fld := ⟨.MAC_CNT_DUPLICATE, 0, 32⟩
def F.MAC_CNT_REPLAY_COUNT : Fld := ⟨.MAC_CNT_REPLAY, 0, 32⟩
def F.MAC_CNT_DUP_NOACK_COUNT : Fld := ⟨.MAC_CNT_DUP_NOACK, 0, 32⟩
def F.MAC_CNT_TX_ACKED_COUNT : Fld := ⟨.MAC_CNT_TX_ACKED, 0, 32⟩
def F.MAC_CNT_TX_NO_ACK_COUNT : Fld := ⟨.MAC_CNT_TX_NO_ACK, 0, 32⟩
def F.MAC_CNT_NACK_COUNT : Fld := ⟨.MAC_CNT_NACK, 0, 32⟩
def F.MAC_CNT_BCN_SENT_COUNT : Fld := ⟨.MAC_CNT_BCN_SENT, 0, 32⟩
def F.MAC_CNT_BCN_FAIL_COUNT : Fld := ⟨.MAC_CNT_BCN_FAIL, 0, 32⟩
def F.SPW_BLOCK_ID_PREFIX : Fld := ⟨.SPW_BLOCK_ID, 8, 24⟩
def F.SPW_BLOCK_ID_VERSION : Fld := ⟨.SPW_BLOCK_ID, 0, 8⟩
def F.SPW_CMD_OP : Fld := ⟨.SPW_CMD, 0, 4⟩
def F.SPW_CMD_SESSION : Fld := ⟨.SPW_CMD, 4, 2⟩
def F.SPW_CMD_BASE : Fld := ⟨.SPW_CMD, 16, 16⟩
def F.SPW_CMD_STAT_BUSY : Fld := ⟨.SPW_CMD_STAT, 0, 1⟩
def F.SPW_CMD_STAT_STATUS : Fld := ⟨.SPW_CMD_STAT, 1, 6⟩
def F.SPW_CMD_STAT_REASON : Fld := ⟨.SPW_CMD_STAT, 7, 3⟩
def F.SPW_EVT_ROUND_DONE : Fld := ⟨.SPW_EVT, 0, 4⟩
def F.SPW_EVT_CMD_IGNORED : Fld := ⟨.SPW_EVT, 4, 1⟩
def F.SPW_EVT_CFG_IGNORED : Fld := ⟨.SPW_EVT, 5, 1⟩
def F.SPW_EVT_NO_CELL : Fld := ⟨.SPW_EVT, 6, 1⟩
def F.SPW_EVT_FLASH_LATE : Fld := ⟨.SPW_EVT, 7, 1⟩
def F.SPW_EVT_BUDGET_HOLD : Fld := ⟨.SPW_EVT, 8, 1⟩
def F.SPW_IRQ_EN_EN : Fld := ⟨.SPW_IRQ_EN, 0, 9⟩
def F.SPW_CMD_MASK_MASK : Fld := ⟨.SPW_CMD_MASK, 0, 64⟩
def F.SPW_CNT_BLOCKS_COUNT : Fld := ⟨.SPW_CNT_BLOCKS, 0, 32⟩
def F.SPW_CNT_COPY_FAIL_COUNT : Fld := ⟨.SPW_CNT_COPY_FAIL, 0, 32⟩
def F.SPW_CNT_SKIP_COUNT : Fld := ⟨.SPW_CNT_SKIP, 0, 32⟩
def F.SPW_IMG_IMAGE_ID : Fld := ⟨.SPW_IMG, 0, 32⟩
def F.SPW_FLASH_BASE : Fld := ⟨.SPW_FLASH, 0, 30⟩
def F.SPW_GEOM_BSIZE : Fld := ⟨.SPW_GEOM, 0, 4⟩
def F.SPW_GEOM_MAN_LEN : Fld := ⟨.SPW_GEOM, 4, 9⟩
def F.SPW_GEOM_BLOCKS : Fld := ⟨.SPW_GEOM, 16, 16⟩
def F.SPW_SCHED_SLOT_OFFSET : Fld := ⟨.SPW_SCHED, 0, 16⟩
def F.SPW_SCHED_SF : Fld := ⟨.SPW_SCHED, 16, 3⟩
def F.SPW_SCHED_PACE : Fld := ⟨.SPW_SCHED, 20, 4⟩
def F.SPW_SCHED_BACKOFF : Fld := ⟨.SPW_SCHED, 24, 8⟩
def F.SPW_TX_CHAINS : Fld := ⟨.SPW_TX, 0, 16⟩
def F.SPW_TX_SECLVL : Fld := ⟨.SPW_TX, 16, 3⟩
def F.SPW_TX_GROUP : Fld := ⟨.SPW_TX, 20, 12⟩
def F.SPW_CAR_CARRIERS : Fld := ⟨.SPW_CAR, 0, 64⟩
def F.SPW_STAT_STATE : Fld := ⟨.SPW_STAT, 0, 2⟩
def F.SPW_STAT_KIND : Fld := ⟨.SPW_STAT, 2, 1⟩
def F.SPW_STAT_ROUND : Fld := ⟨.SPW_STAT, 16, 16⟩
def F.SPW_PROG_REMAIN : Fld := ⟨.SPW_PROG, 0, 16⟩
def F.SPW_PROG_MISSING : Fld := ⟨.SPW_PROG, 16, 16⟩
def F.SLC_BLOCK_ID_PREFIX : Fld := ⟨.SLC_BLOCK_ID, 8, 24⟩
def F.SLC_BLOCK_ID_VERSION : Fld := ⟨.SLC_BLOCK_ID, 0, 8⟩
def F.SLC_CTL_LEARN_NEW : Fld := ⟨.SLC_CTL, 0, 1⟩
def F.SLC_CTL_LEARN_UNSEC : Fld := ⟨.SLC_CTL, 1, 1⟩
def F.SLC_CTL_ROUTE_FMT : Fld := ⟨.SLC_CTL, 2, 1⟩
def F.SLC_CTL_DEFAULT_PORT : Fld := ⟨.SLC_CTL, 8, 5⟩
def F.SLC_CTL_LOCAL_PORT : Fld := ⟨.SLC_CTL, 16, 5⟩
def F.SLC_CTL_MCAST_PORT : Fld := ⟨.SLC_CTL, 24, 5⟩
def F.SLC_STAT_ENTRIES : Fld := ⟨.SLC_STAT, 0, 20⟩
def F.SLC_STAT_SCAN_LOCKED : Fld := ⟨.SLC_STAT, 20, 1⟩
def F.SLC_STAT_FLUSH_BUSY : Fld := ⟨.SLC_STAT, 21, 1⟩
def F.SLC_STAT_INSERT_BUSY : Fld := ⟨.SLC_STAT, 22, 1⟩
def F.SLC_STAT_SCAN_OWNER : Fld := ⟨.SLC_STAT, 24, 8⟩
def F.SLC_EVT_TABLE_FULL : Fld := ⟨.SLC_EVT, 0, 1⟩
def F.SLC_EVT_LEARN_FAIL : Fld := ⟨.SLC_EVT, 1, 1⟩
def F.SLC_EVT_SCAN_LOST : Fld := ⟨.SLC_EVT, 2, 1⟩
def F.SLC_EVT_NO_ROUTE : Fld := ⟨.SLC_EVT, 3, 1⟩
def F.SLC_EVT_AGE_STALL : Fld := ⟨.SLC_EVT, 4, 1⟩
def F.SLC_EVT_CMD_IGNORED : Fld := ⟨.SLC_EVT, 5, 1⟩
def F.SLC_EVT_NO_CELL : Fld := ⟨.SLC_EVT, 6, 1⟩
def F.SLC_IRQ_EN_EN : Fld := ⟨.SLC_IRQ_EN, 0, 7⟩
def F.SLC_AGE_CTL_EN : Fld := ⟨.SLC_AGE_CTL, 0, 1⟩
def F.SLC_AGE_CTL_AGE_PERIOD : Fld := ⟨.SLC_AGE_CTL, 16, 16⟩
def F.SLC_AGE_LIMIT_LIMIT : Fld := ⟨.SLC_AGE_LIMIT, 0, 19⟩
def F.SLC_RELOC_SEED_SEED : Fld := ⟨.SLC_RELOC_SEED, 0, 32⟩
def F.SLC_RUNNEL_DELIVER : Fld := ⟨.SLC_RUNNEL, 0, 8⟩
def F.SLC_RUNNEL_AGE_NOTICE : Fld := ⟨.SLC_RUNNEL, 8, 8⟩
def F.SLC_SCAN_CTL_SCAN_TIMEOUT : Fld := ⟨.SLC_SCAN_CTL, 0, 16⟩
def F.SLC_PINNED_COUNT : Fld := ⟨.SLC_PINNED, 0, 20⟩
def F.SLC_CMD_W_WORD : Fld := ⟨.SLC_CMD_W, 0, 64⟩
def F.SLC_CMD_GO_GO : Fld := ⟨.SLC_CMD_GO, 0, 1⟩
def F.SLC_RES_W_WORD : Fld := ⟨.SLC_RES_W, 0, 64⟩
def F.SLC_CMD_STAT_BUSY : Fld := ⟨.SLC_CMD_STAT, 0, 1⟩
def F.SLC_PFX_PREFIX : Fld := ⟨.SLC_PFX, 0, 64⟩
def F.SLC_PFX_EN_EN : Fld := ⟨.SLC_PFX_EN, 0, 8⟩
def F.SLC_CNT_LOOKUP_COUNT : Fld := ⟨.SLC_CNT_LOOKUP, 0, 32⟩
def F.SLC_CNT_HIT_COUNT : Fld := ⟨.SLC_CNT_HIT, 0, 32⟩
def F.SLC_CNT_UNKNOWN_COUNT : Fld := ⟨.SLC_CNT_UNKNOWN, 0, 32⟩
def F.SLC_CNT_COMMIT_COUNT : Fld := ⟨.SLC_CNT_COMMIT, 0, 32⟩
def F.SLC_CNT_DROP_COUNT : Fld := ⟨.SLC_CNT_DROP, 0, 32⟩
def F.SLC_CNT_MOVE_COUNT : Fld := ⟨.SLC_CNT_MOVE, 0, 32⟩
def F.SLC_CNT_LEARN_NEW_COUNT : Fld := ⟨.SLC_CNT_LEARN_NEW, 0, 32⟩
def F.SLC_CNT_LEARN_FAIL_COUNT : Fld := ⟨.SLC_CNT_LEARN_FAIL, 0, 32⟩
def F.SLC_CNT_AGED_COUNT : Fld := ⟨.SLC_CNT_AGED, 0, 32⟩
def F.SLC_CNT_RELOC_COUNT : Fld := ⟨.SLC_CNT_RELOC, 0, 32⟩
def F.SLC_CNT_FULL_COUNT : Fld := ⟨.SLC_CNT_FULL, 0, 32⟩
def F.SLC_CNT_NO_ROUTE_COUNT : Fld := ⟨.SLC_CNT_NO_ROUTE, 0, 32⟩
def F.GRT_BLOCK_ID_PREFIX : Fld := ⟨.GRT_BLOCK_ID, 8, 24⟩
def F.GRT_BLOCK_ID_VERSION : Fld := ⟨.GRT_BLOCK_ID, 0, 8⟩
def F.GRT_STAT_ROOT_STATE : Fld := ⟨.GRT_STAT, 0, 2⟩
def F.GRT_STAT_MSG_HELD : Fld := ⟨.GRT_STAT, 2, 1⟩
def F.GRT_STAT_REFRESH_DUE : Fld := ⟨.GRT_STAT, 3, 1⟩
def F.GRT_STAT_NET_KEY : Fld := ⟨.GRT_STAT, 4, 1⟩
def F.GRT_STAT_ATT_KEY : Fld := ⟨.GRT_STAT, 5, 1⟩
def F.GRT_STAT_DRBG_OK : Fld := ⟨.GRT_STAT, 6, 1⟩
def F.GRT_STAT_UNLOCKED : Fld := ⟨.GRT_STAT, 7, 1⟩
def F.GRT_STAT_GROUPS_LIVE : Fld := ⟨.GRT_STAT, 16, 13⟩
def F.GRT_EVT_CMD_DONE : Fld := ⟨.GRT_EVT, 0, 1⟩
def F.GRT_EVT_CMD_IGNORED : Fld := ⟨.GRT_EVT, 1, 1⟩
def F.GRT_EVT_ROOT_FAIL : Fld := ⟨.GRT_EVT, 2, 1⟩
def F.GRT_EVT_REFRESH_DUE : Fld := ⟨.GRT_EVT, 3, 1⟩
def F.GRT_EVT_FLOOR_DUE : Fld := ⟨.GRT_EVT, 4, 1⟩
def F.GRT_EVT_FLOOR_HIT : Fld := ⟨.GRT_EVT, 5, 1⟩
def F.GRT_EVT_CTR_NEAR : Fld := ⟨.GRT_EVT, 6, 1⟩
def F.GRT_EVT_UNWRAP_FAIL : Fld := ⟨.GRT_EVT, 7, 1⟩
def F.GRT_EVT_DEBUG_FAIL : Fld := ⟨.GRT_EVT, 8, 1⟩
def F.GRT_EVT_DRBG_FAIL : Fld := ⟨.GRT_EVT, 9, 1⟩
def F.GRT_IRQ_EN_EN : Fld := ⟨.GRT_IRQ_EN, 0, 10⟩
def F.GRT_CMD_OP : Fld := ⟨.GRT_CMD, 0, 5⟩
def F.GRT_CMD_INDEX : Fld := ⟨.GRT_CMD, 8, 16⟩
def F.GRT_CMD_IN_ADDR : Fld := ⟨.GRT_CMD_IN, 0, 18⟩
def F.GRT_CMD_OUT_ADDR : Fld := ⟨.GRT_CMD_OUT, 0, 18⟩
def F.GRT_CMD_STAT_BUSY : Fld := ⟨.GRT_CMD_STAT, 0, 1⟩
def F.GRT_CMD_STAT_STATUS : Fld := ⟨.GRT_CMD_STAT, 1, 6⟩
def F.GRT_CMD_STAT_REASON : Fld := ⟨.GRT_CMD_STAT, 7, 3⟩
def F.GRT_PUF_STAT_MAX_ERR : Fld := ⟨.GRT_PUF_STAT, 0, 5⟩
def F.GRT_PUF_STAT_FAIL_BLOCKS : Fld := ⟨.GRT_PUF_STAT, 5, 6⟩
def F.GRT_PUF_STAT_WINDOW : Fld := ⟨.GRT_PUF_STAT, 11, 3⟩
def F.GRT_PUF_CTL_REFRESH_T : Fld := ⟨.GRT_PUF_CTL, 0, 5⟩
def F.GRT_KEY_IDX_INDEX : Fld := ⟨.GRT_KEY_IDX, 0, 15⟩
def F.GRT_KEY_IDX_OVR : Fld := ⟨.GRT_KEY_IDX, 15, 1⟩
def F.GRT_KEY_FLOOR_FLOOR : Fld := ⟨.GRT_KEY_FLOOR, 0, 32⟩
def F.GRT_KEY_DATA_TX_CTR : Fld := ⟨.GRT_KEY_DATA, 0, 32⟩
def F.GRT_KEY_DATA_EPOCH : Fld := ⟨.GRT_KEY_DATA, 32, 8⟩
def F.GRT_KEY_DATA_STATE : Fld := ⟨.GRT_KEY_DATA, 40, 2⟩
def F.GRT_KEY_DATA_PENDING : Fld := ⟨.GRT_KEY_DATA, 42, 1⟩
def F.GRT_FLOOR_DUE_GROUP_PAGES : Fld := ⟨.GRT_FLOOR_DUE, 0, 16⟩
def F.GRT_FLOOR_DUE_OVR_PAGES : Fld := ⟨.GRT_FLOOR_DUE, 16, 32⟩
def F.GRT_PENDING_GROUP_PAGES : Fld := ⟨.GRT_PENDING, 0, 16⟩
def F.GRT_PENDING_OVR_PAGES : Fld := ⟨.GRT_PENDING, 16, 32⟩
def F.GRT_FUSE_STATE_FUSES : Fld := ⟨.GRT_FUSE_STATE, 0, 32⟩
def F.GRT_CNT_VERIFY_COUNT : Fld := ⟨.GRT_CNT_VERIFY, 0, 32⟩
def F.GRT_CNT_MIC_FAIL_COUNT : Fld := ⟨.GRT_CNT_MIC_FAIL, 0, 32⟩
def F.GRT_CNT_KEY_STALE_COUNT : Fld := ⟨.GRT_CNT_KEY_STALE, 0, 32⟩
def F.GRT_CNT_PROTECT_COUNT : Fld := ⟨.GRT_CNT_PROTECT, 0, 32⟩
def F.GRT_CNT_DERIVE_COUNT : Fld := ⟨.GRT_CNT_DERIVE, 0, 32⟩
def F.GRT_CNT_CACHE_HIT_COUNT : Fld := ⟨.GRT_CNT_CACHE_HIT, 0, 32⟩
def F.GRT_CNT_UNWRAP_FAIL_COUNT : Fld := ⟨.GRT_CNT_UNWRAP_FAIL, 0, 32⟩
def F.GRT_CNT_TX_REFUSED_COUNT : Fld := ⟨.GRT_CNT_TX_REFUSED, 0, 32⟩
def F.OCL_BLOCK_ID_PREFIX : Fld := ⟨.OCL_BLOCK_ID, 8, 24⟩
def F.OCL_BLOCK_ID_VERSION : Fld := ⟨.OCL_BLOCK_ID, 0, 8⟩
def F.OCL_WEDGE_CTL_AUTO_RESET : Fld := ⟨.OCL_WEDGE_CTL, 0, 1⟩
def F.OCL_WEDGE_CTL_HANG_US : Fld := ⟨.OCL_WEDGE_CTL, 16, 16⟩
def F.OCL_J_STAT_STATE : Fld := ⟨.OCL_J_STAT, 0, 3⟩
def F.OCL_J_STAT_EXC : Fld := ⟨.OCL_J_STAT, 3, 1⟩
def F.OCL_J_STAT_SPEC : Fld := ⟨.OCL_J_STAT, 4, 1⟩
def F.OCL_J_STAT_PC : Fld := ⟨.OCL_J_STAT, 16, 15⟩
def F.OCL_J_WD_EN : Fld := ⟨.OCL_J_WD, 0, 1⟩
def F.OCL_J_WD_STAGE : Fld := ⟨.OCL_J_WD, 1, 1⟩
def F.OCL_J_WD_PERIOD_US : Fld := ⟨.OCL_J_WD, 12, 20⟩
def F.OCL_J_BOOT_ACTIVATE : Fld := ⟨.OCL_J_BOOT, 0, 1⟩
def F.OCL_J_BOOT_RES : Fld := ⟨.OCL_J_BOOT, 1, 1⟩
def F.OCL_J_BOOT_WARM : Fld := ⟨.OCL_J_BOOT, 2, 1⟩
def F.OCL_J_BOOT_DEFAULTS : Fld := ⟨.OCL_J_BOOT, 3, 1⟩
def F.OCL_J_BOOT_FALLBACK : Fld := ⟨.OCL_J_BOOT, 4, 1⟩
def F.OCL_J_BOOT_RESULT : Fld := ⟨.OCL_J_BOOT, 5, 3⟩
def F.OCL_J_BOOT_KEY_SLOT : Fld := ⟨.OCL_J_BOOT, 8, 2⟩
def F.OCL_J_BOOT_SETTINGS_FMT : Fld := ⟨.OCL_J_BOOT, 16, 16⟩
def F.OCL_J_DBG_SEL_REG : Fld := ⟨.OCL_J_DBG_SEL, 0, 7⟩
def F.OCL_J_DBG_SEL_HALT : Fld := ⟨.OCL_J_DBG_SEL, 8, 1⟩
def F.OCL_J_DBG_SEL_RESUME : Fld := ⟨.OCL_J_DBG_SEL, 9, 1⟩
def F.OCL_J_DBG_SEL_BRK_HALT : Fld := ⟨.OCL_J_DBG_SEL, 10, 1⟩
def F.OCL_J_DBG_DATA_DATA : Fld := ⟨.OCL_J_DBG_DATA, 0, 64⟩
def F.OCL_CL_STAT_WEDGED : Fld := ⟨.OCL_CL_STAT, 0, 8⟩
def F.OCL_CL_EVT_THR_FAULT : Fld := ⟨.OCL_CL_EVT, 0, 1⟩
def F.OCL_CL_EVT_WD_EXPIRED : Fld := ⟨.OCL_CL_EVT, 1, 1⟩
def F.OCL_CL_EVT_WEDGED : Fld := ⟨.OCL_CL_EVT, 2, 1⟩
def F.OCL_CL_EVT_CTL_IGNORED : Fld := ⟨.OCL_CL_EVT, 3, 1⟩
def F.OCL_CL_EVT_DBG_IGNORED : Fld := ⟨.OCL_CL_EVT, 4, 1⟩
def F.OCL_CL_EVT_SEAL_POISON : Fld := ⟨.OCL_CL_EVT, 5, 1⟩
def F.OCL_CL_IRQ_EN_EN : Fld := ⟨.OCL_CL_IRQ_EN, 0, 6⟩
def F.OCL_CNT_SEAL_COUNT : Fld := ⟨.OCL_CNT_SEAL, 0, 32⟩
def F.OCL_CNT_DROP_COUNT : Fld := ⟨.OCL_CNT_DROP, 0, 32⟩
def F.OCL_CNT_EXC_COUNT : Fld := ⟨.OCL_CNT_EXC, 0, 32⟩
def F.OCL_CNT_SEAL_LATE_COUNT : Fld := ⟨.OCL_CNT_SEAL_LATE, 0, 32⟩
def F.OCL_THR_CTL_START : Fld := ⟨.OCL_THR_CTL, 0, 1⟩
def F.OCL_THR_CTL_STOP : Fld := ⟨.OCL_THR_CTL, 1, 1⟩
def F.OCL_THR_CTL_HALT : Fld := ⟨.OCL_THR_CTL, 2, 1⟩
def F.OCL_THR_CTL_RESUME : Fld := ⟨.OCL_THR_CTL, 3, 1⟩
def F.OCL_THR_CTL_PRIO : Fld := ⟨.OCL_THR_CTL, 4, 1⟩
def F.OCL_THR_CTL_BRK_HALT : Fld := ⟨.OCL_THR_CTL, 5, 1⟩
def F.OCL_THR_CTL_START_PC : Fld := ⟨.OCL_THR_CTL, 8, 15⟩
def F.OCL_THR_STAT_STATE : Fld := ⟨.OCL_THR_STAT, 0, 3⟩
def F.OCL_THR_STAT_WAIT_KIND : Fld := ⟨.OCL_THR_STAT, 3, 4⟩
def F.OCL_THR_STAT_EXC : Fld := ⟨.OCL_THR_STAT, 7, 1⟩
def F.OCL_THR_STAT_SPEC : Fld := ⟨.OCL_THR_STAT, 8, 1⟩
def F.OCL_THR_STAT_PC : Fld := ⟨.OCL_THR_STAT, 16, 15⟩
def F.OCL_WD_EN : Fld := ⟨.OCL_WD, 0, 1⟩
def F.OCL_WD_STAGE : Fld := ⟨.OCL_WD, 1, 1⟩
def F.OCL_WD_PERIOD_US : Fld := ⟨.OCL_WD, 12, 20⟩
def F.OCL_WD_CNT_ELAPSED : Fld := ⟨.OCL_WD_CNT, 0, 20⟩
def F.OCL_WD_CNT_EXPIRIES : Fld := ⟨.OCL_WD_CNT, 24, 8⟩
def F.OCL_DBG_SEL_REG : Fld := ⟨.OCL_DBG_SEL, 0, 7⟩
def F.OCL_DBG_DATA_DATA : Fld := ⟨.OCL_DBG_DATA, 0, 64⟩
def F.RUN_BLOCK_ID_PREFIX : Fld := ⟨.RUN_BLOCK_ID, 8, 24⟩
def F.RUN_BLOCK_ID_VERSION : Fld := ⟨.RUN_BLOCK_ID, 0, 8⟩
def F.RUN_EVT_CFG_REFUSED : Fld := ⟨.RUN_EVT, 0, 1⟩
def F.RUN_EVT_CFG_IGNORED : Fld := ⟨.RUN_EVT, 1, 1⟩
def F.RUN_EVT_ALLOC_FAIL : Fld := ⟨.RUN_EVT, 2, 1⟩
def F.RUN_EVT_DOUBLE_FREE : Fld := ⟨.RUN_EVT, 3, 1⟩
def F.RUN_EVT_LOST_PUSH : Fld := ⟨.RUN_EVT, 4, 1⟩
def F.RUN_IRQ_EN_EN : Fld := ⟨.RUN_IRQ_EN, 0, 5⟩
def F.RUN_CELL_STAT_FREE : Fld := ⟨.RUN_CELL_STAT, 0, 17⟩
def F.RUN_CELL_CTL_HALLOC_FLOOR : Fld := ⟨.RUN_CELL_CTL, 0, 17⟩
def F.RUN_LINK_IDX_CELL : Fld := ⟨.RUN_LINK_IDX, 0, 16⟩
def F.RUN_LINK_DATA_NEXT : Fld := ⟨.RUN_LINK_DATA, 0, 16⟩
def F.RUN_LINK_DATA_LAST : Fld := ⟨.RUN_LINK_DATA, 16, 1⟩
def F.RUN_LINK_DATA_FREE : Fld := ⟨.RUN_LINK_DATA, 17, 1⟩
def F.RUN_HALLOC_LENGTH : Fld := ⟨.RUN_HALLOC, 0, 15⟩
def F.RUN_HALLOC_RES_CELL : Fld := ⟨.RUN_HALLOC_RES, 0, 16⟩
def F.RUN_HALLOC_RES_VALID : Fld := ⟨.RUN_HALLOC_RES, 16, 1⟩
def F.RUN_HALLOC_RES_BUSY : Fld := ⟨.RUN_HALLOC_RES, 17, 1⟩
def F.RUN_HFREE_CELL : Fld := ⟨.RUN_HFREE, 0, 16⟩
def F.RUN_HPUSH_CTL_GO : Fld := ⟨.RUN_HPUSH_CTL, 0, 1⟩
def F.RUN_HPUSH_CTL_COUNT : Fld := ⟨.RUN_HPUSH_CTL, 1, 1⟩
def F.RUN_HPUSH_CTL_POISON : Fld := ⟨.RUN_HPUSH_CTL, 2, 1⟩
def F.RUN_HPUSH_CTL_RUNNEL : Fld := ⟨.RUN_HPUSH_CTL, 8, 8⟩
def F.RUN_HPUSH_W_WORD : Fld := ⟨.RUN_HPUSH_W, 0, 64⟩
def F.RUN_NOTICE_SUM_ANY : Fld := ⟨.RUN_NOTICE_SUM, 0, 64⟩
def F.RUN_CNT_BAD_WORD_COUNT : Fld := ⟨.RUN_CNT_BAD_WORD, 0, 32⟩
def F.RUN_CNT_OVERRUN_COUNT : Fld := ⟨.RUN_CNT_OVERRUN, 0, 32⟩
def F.RUN_CNT_FLUSHED_COUNT : Fld := ⟨.RUN_CNT_FLUSHED, 0, 32⟩
def F.RUN_CNT_LOST_COUNT : Fld := ⟨.RUN_CNT_LOST, 0, 32⟩
def F.RUN_CNT_ALLOC_FAIL_COUNT : Fld := ⟨.RUN_CNT_ALLOC_FAIL, 0, 32⟩
def F.RUN_CNT_DOUBLE_FREE_COUNT : Fld := ⟨.RUN_CNT_DOUBLE_FREE, 0, 32⟩
def F.RUN_CFG_EN : Fld := ⟨.RUN_CFG, 0, 1⟩
def F.RUN_CFG_CLASS : Fld := ⟨.RUN_CFG, 1, 2⟩
def F.RUN_CFG_RECLEN : Fld := ⟨.RUN_CFG, 3, 3⟩
def F.RUN_CFG_DSIZE : Fld := ⟨.RUN_CFG, 8, 8⟩
def F.RUN_CFG_BASE16 : Fld := ⟨.RUN_CFG, 16, 14⟩
def F.RUN_MARK_HIGH : Fld := ⟨.RUN_MARK, 0, 13⟩
def F.RUN_MARK_HIGH_EN : Fld := ⟨.RUN_MARK, 13, 1⟩
def F.RUN_MARK_LOW : Fld := ⟨.RUN_MARK, 16, 13⟩
def F.RUN_MARK_LOW_EN : Fld := ⟨.RUN_MARK, 29, 1⟩
def F.RUN_STAT_DEPTH : Fld := ⟨.RUN_STAT, 0, 13⟩
def F.RUN_STAT_ABOVE_HIGH : Fld := ⟨.RUN_STAT, 13, 1⟩
def F.RUN_STAT_AT_LOW : Fld := ⟨.RUN_STAT, 14, 1⟩
def F.RUN_STAT_FULL : Fld := ⟨.RUN_STAT, 15, 1⟩
def F.RUN_STAT_FLUSHING : Fld := ⟨.RUN_STAT, 16, 1⟩
def F.RUN_STAT_REFUSE : Fld := ⟨.RUN_STAT, 17, 2⟩
def F.RUN_EVT_N_HIGH_NOTICE : Fld := ⟨.RUN_EVT_N, 0, 1⟩
def F.RUN_EVT_N_LOW_NOTICE : Fld := ⟨.RUN_EVT_N, 1, 1⟩
def F.RUN_EVT_N_OVERRUN : Fld := ⟨.RUN_EVT_N, 2, 1⟩
def F.RUN_EVT_N_BAD_WORD : Fld := ⟨.RUN_EVT_N, 3, 1⟩
def F.RUN_EVT_N_UNDERRUN : Fld := ⟨.RUN_EVT_N, 4, 1⟩
def F.RUN_EVT_N_FLUSH_DONE : Fld := ⟨.RUN_EVT_N, 5, 1⟩
def F.RUN_EVT_N_HIGH_CROSS : Fld := ⟨.RUN_EVT_N, 8, 8⟩
def F.RUN_EVT_N_LOW_CROSS : Fld := ⟨.RUN_EVT_N, 16, 8⟩
def F.RUN_IRQ_EN_N_EN : Fld := ⟨.RUN_IRQ_EN_N, 0, 6⟩
def F.RUN_CTL_FLUSH : Fld := ⟨.RUN_CTL, 0, 1⟩
def F.RUN_HPOP_WORD : Fld := ⟨.RUN_HPOP, 0, 64⟩
def F.CLP_BLOCK_ID_PREFIX : Fld := ⟨.CLP_BLOCK_ID, 8, 24⟩
def F.CLP_BLOCK_ID_VERSION : Fld := ⟨.CLP_BLOCK_ID, 0, 8⟩
def F.CLP_STAT_FT_VALID : Fld := ⟨.CLP_STAT, 0, 1⟩
def F.CLP_STAT_ASN_VALID : Fld := ⟨.CLP_STAT, 1, 1⟩
def F.CLP_STAT_ARMED : Fld := ⟨.CLP_STAT, 2, 1⟩
def F.CLP_STAT_STEER : Fld := ⟨.CLP_STAT, 3, 2⟩
def F.CLP_STAT_LOCKED : Fld := ⟨.CLP_STAT, 5, 1⟩
def F.CLP_EVT_SAMPLE_REJECT : Fld := ⟨.CLP_EVT, 0, 1⟩
def F.CLP_EVT_JUMP_PENDING : Fld := ⟨.CLP_EVT, 1, 1⟩
def F.CLP_EVT_HOLDOVER : Fld := ⟨.CLP_EVT, 2, 1⟩
def F.CLP_EVT_MASTER_CHANGE : Fld := ⟨.CLP_EVT, 3, 1⟩
def F.CLP_EVT_STEP_DONE : Fld := ⟨.CLP_EVT, 4, 1⟩
def F.CLP_EVT_CMD_REFUSED : Fld := ⟨.CLP_EVT, 5, 1⟩
def F.CLP_EVT_PPS_MISS : Fld := ⟨.CLP_EVT, 6, 1⟩
def F.CLP_EVT_ASN_START : Fld := ⟨.CLP_EVT, 7, 1⟩
def F.CLP_EVT_CFG_IGNORED : Fld := ⟨.CLP_EVT, 8, 1⟩
def F.CLP_EVT_TIME_LOST : Fld := ⟨.CLP_EVT, 9, 1⟩
def F.CLP_IRQ_EN_EN : Fld := ⟨.CLP_IRQ_EN, 0, 10⟩
def F.CLP_CMD_SET : Fld := ⟨.CLP_CMD, 0, 1⟩
def F.CLP_CMD_STEP : Fld := ⟨.CLP_CMD, 1, 1⟩
def F.CLP_CMD_ARM : Fld := ⟨.CLP_CMD, 2, 1⟩
def F.CLP_CMD_DISARM : Fld := ⟨.CLP_CMD, 3, 1⟩
def F.CLP_CMD_MASTER_CHG : Fld := ⟨.CLP_CMD, 4, 1⟩
def F.CLP_CMD_RESET_I : Fld := ⟨.CLP_CMD, 5, 1⟩
def F.CLP_SERVICE_NS : Fld := ⟨.CLP_SERVICE, 0, 32⟩
def F.CLP_NOW_S_SEC : Fld := ⟨.CLP_NOW_S, 0, 48⟩
def F.CLP_NOW_NS_NS : Fld := ⟨.CLP_NOW_NS, 0, 32⟩
def F.CLP_SET_S_SEC : Fld := ⟨.CLP_SET_S, 0, 48⟩
def F.CLP_STEP_NS : Fld := ⟨.CLP_STEP, 0, 64⟩
def F.CLP_SET_NS_NS : Fld := ⟨.CLP_SET_NS, 0, 32⟩
def F.CLP_STEER_CTL_SRC : Fld := ⟨.CLP_STEER_CTL, 0, 2⟩
def F.CLP_STEER_CTL_KP_SHIFT : Fld := ⟨.CLP_STEER_CTL, 4, 4⟩
def F.CLP_STEER_CTL_KI_SHIFT : Fld := ⟨.CLP_STEER_CTL, 8, 4⟩
def F.CLP_STEER_CTL_INTERVAL_MS : Fld := ⟨.CLP_STEER_CTL, 16, 12⟩
def F.CLP_STEER_CTL_LOCK : Fld := ⟨.CLP_STEER_CTL, 28, 4⟩
def F.CLP_STEER_LIM_JUMP_LIMIT_US : Fld := ⟨.CLP_STEER_LIM, 0, 16⟩
def F.CLP_STEER_LIM_SLEW_MAX_PPM : Fld := ⟨.CLP_STEER_LIM, 16, 8⟩
def F.CLP_STEER_LIM_LOSS : Fld := ⟨.CLP_STEER_LIM, 24, 8⟩
def F.CLP_TRIM_TRIM : Fld := ⟨.CLP_TRIM, 0, 32⟩
def F.CLP_RATE_RATE : Fld := ⟨.CLP_RATE, 0, 32⟩
def F.CLP_RATE_I_RATE_I : Fld := ⟨.CLP_RATE_I, 0, 32⟩
def F.CLP_LAST_OFS_OFS : Fld := ⟨.CLP_LAST_OFS, 0, 32⟩
def F.CLP_OFS_SAMPLE_OFF : Fld := ⟨.CLP_OFS_SAMPLE, 0, 64⟩
def F.CLP_ANCHOR_ASN_ASN : Fld := ⟨.CLP_ANCHOR_ASN, 0, 40⟩
def F.CLP_ANCHOR_S_SEC : Fld := ⟨.CLP_ANCHOR_S, 0, 48⟩
def F.CLP_ANCHOR_NS_NS : Fld := ⟨.CLP_ANCHOR_NS, 0, 32⟩
def F.CLP_PPS_CTL_IN_EN : Fld := ⟨.CLP_PPS_CTL, 0, 1⟩
def F.CLP_PPS_CTL_IN_POL : Fld := ⟨.CLP_PPS_CTL, 1, 1⟩
def F.CLP_PPS_CTL_OUT_EN : Fld := ⟨.CLP_PPS_CTL, 2, 1⟩
def F.CLP_PPS_CTL_OUT_POL : Fld := ⟨.CLP_PPS_CTL, 3, 1⟩
def F.CLP_PPS_CTL_OUT_WIDTH : Fld := ⟨.CLP_PPS_CTL, 8, 8⟩
def F.CLP_PPS_CTL_IN_ADJ : Fld := ⟨.CLP_PPS_CTL, 16, 16⟩
def F.CLP_PPS_TS_S_SEC : Fld := ⟨.CLP_PPS_TS_S, 0, 48⟩
def F.CLP_PPS_TS_NS_NS : Fld := ⟨.CLP_PPS_TS_NS, 0, 32⟩
def F.CLP_CIS_CTL_CIS_TRIM : Fld := ⟨.CLP_CIS_CTL, 0, 16⟩
def F.CLP_CIS_CTL_TIME_OK : Fld := ⟨.CLP_CIS_CTL, 16, 1⟩
def F.CLP_CIS_TIME_SUBSEC : Fld := ⟨.CLP_CIS_TIME, 0, 15⟩
def F.CLP_CIS_TIME_SEC : Fld := ⟨.CLP_CIS_TIME, 15, 48⟩
def F.CLP_TC_CTL_EN : Fld := ⟨.CLP_TC_CTL, 0, 1⟩
def F.CLP_TC_CTL_MODE : Fld := ⟨.CLP_TC_CTL, 1, 1⟩
def F.CLP_TC_CTL_PORTS : Fld := ⟨.CLP_TC_CTL, 8, 4⟩
def F.CLP_TC_PDELAY_DELAY : Fld := ⟨.CLP_TC_PDELAY, 0, 24⟩
def F.CLP_TX_ADJ_ADJ : Fld := ⟨.CLP_TX_ADJ, 0, 16⟩
def F.CLP_CNT_SAMPLE_COUNT : Fld := ⟨.CLP_CNT_SAMPLE, 0, 32⟩
def F.CLP_CNT_REJECT_COUNT : Fld := ⟨.CLP_CNT_REJECT, 0, 32⟩
def F.CLP_CNT_TC_COUNT : Fld := ⟨.CLP_CNT_TC, 0, 32⟩
def F.CLP_CNT_PPS_IN_COUNT : Fld := ⟨.CLP_CNT_PPS_IN, 0, 32⟩
def F.ETH_BLOCK_ID_PREFIX : Fld := ⟨.ETH_BLOCK_ID, 8, 24⟩
def F.ETH_BLOCK_ID_VERSION : Fld := ⟨.ETH_BLOCK_ID, 0, 8⟩
def F.ETH_CTL_EN : Fld := ⟨.ETH_CTL, 0, 1⟩
def F.ETH_CTL_SPEED : Fld := ⟨.ETH_CTL, 1, 1⟩
def F.ETH_CTL_FEC : Fld := ⟨.ETH_CTL, 2, 2⟩
def F.ETH_CTL_PROMISC : Fld := ⟨.ETH_CTL, 4, 1⟩
def F.ETH_CTL_MCAST_ALL : Fld := ⟨.ETH_CTL, 5, 1⟩
def F.ETH_CTL_ETYPE_OTHER : Fld := ⟨.ETH_CTL, 6, 1⟩
def F.ETH_CTL_CMPL_ALL : Fld := ⟨.ETH_CTL, 7, 1⟩
def F.ETH_CTL_TX_RUNNEL : Fld := ⟨.ETH_CTL, 8, 8⟩
def F.ETH_CTL_TXC_RUNNEL : Fld := ⟨.ETH_CTL, 16, 8⟩
def F.ETH_STAT_LINK : Fld := ⟨.ETH_STAT, 0, 1⟩
def F.ETH_STAT_BLOCK_LOCK : Fld := ⟨.ETH_STAT, 1, 1⟩
def F.ETH_STAT_FEC_LOCK : Fld := ⟨.ETH_STAT, 2, 1⟩
def F.ETH_STAT_TX_BUSY : Fld := ⟨.ETH_STAT, 3, 1⟩
def F.ETH_EVT_LINK_UP : Fld := ⟨.ETH_EVT, 0, 1⟩
def F.ETH_EVT_LINK_DOWN : Fld := ⟨.ETH_EVT, 1, 1⟩
def F.ETH_EVT_CFG_IGNORED : Fld := ⟨.ETH_EVT, 2, 1⟩
def F.ETH_EVT_RX_NO_CELL : Fld := ⟨.ETH_EVT, 3, 1⟩
def F.ETH_IRQ_EN_EN : Fld := ⟨.ETH_IRQ_EN, 0, 4⟩
def F.ETH_MAC_ADDR : Fld := ⟨.ETH_MAC, 0, 48⟩
def F.ETH_MAX_MAX_FRAME : Fld := ⟨.ETH_MAX, 0, 14⟩
def F.ETH_CNT_RX_OK_COUNT : Fld := ⟨.ETH_CNT_RX_OK, 0, 32⟩
def F.ETH_CNT_RX_FCS_COUNT : Fld := ⟨.ETH_CNT_RX_FCS, 0, 32⟩
def F.ETH_CNT_RX_SIZE_COUNT : Fld := ⟨.ETH_CNT_RX_SIZE, 0, 32⟩
def F.ETH_CNT_RX_FILTER_COUNT : Fld := ⟨.ETH_CNT_RX_FILTER, 0, 32⟩
def F.ETH_CNT_RX_PAUSE_COUNT : Fld := ⟨.ETH_CNT_RX_PAUSE, 0, 32⟩
def F.ETH_CNT_RX_NO_CELL_COUNT : Fld := ⟨.ETH_CNT_RX_NO_CELL, 0, 32⟩
def F.ETH_CNT_TX_OK_COUNT : Fld := ⟨.ETH_CNT_TX_OK, 0, 32⟩
def F.ETH_CNT_TX_DROP_COUNT : Fld := ⟨.ETH_CNT_TX_DROP, 0, 32⟩
def F.HST_BLOCK_ID_PREFIX : Fld := ⟨.HST_BLOCK_ID, 8, 24⟩
def F.HST_BLOCK_ID_VERSION : Fld := ⟨.HST_BLOCK_ID, 0, 8⟩
def F.HST_STAT_LINK_UP : Fld := ⟨.HST_STAT, 0, 1⟩
def F.HST_STAT_WIDTH : Fld := ⟨.HST_STAT, 1, 3⟩
def F.HST_STAT_SPEED : Fld := ⟨.HST_STAT, 4, 3⟩
def F.HST_STAT_MSIX_EN : Fld := ⟨.HST_STAT, 7, 1⟩
def F.HST_STAT_BUS_MASTER : Fld := ⟨.HST_STAT, 8, 1⟩
def F.HST_EVT_LINK_DOWN : Fld := ⟨.HST_EVT, 0, 1⟩
def F.HST_EVT_LINK_UP : Fld := ⟨.HST_EVT, 1, 1⟩
def F.HST_EVT_HOT_RESET : Fld := ⟨.HST_EVT, 2, 1⟩
def F.HST_EVT_WIDTH_ERR : Fld := ⟨.HST_EVT, 3, 1⟩
def F.HST_EVT_DMA_ERR : Fld := ⟨.HST_EVT, 4, 1⟩
def F.HST_EVT_SPI_ERR : Fld := ⟨.HST_EVT, 5, 1⟩
def F.HST_IRQ_EN_EN : Fld := ⟨.HST_IRQ_EN, 0, 6⟩
def F.HST_INTN_CTL_EN : Fld := ⟨.HST_INTN_CTL, 0, 1⟩
def F.HST_IN_RUNNEL_RUNNEL : Fld := ⟨.HST_IN_RUNNEL, 0, 8⟩
def F.HST_SSID_SSVID : Fld := ⟨.HST_SSID, 0, 16⟩
def F.HST_SSID_SSID : Fld := ⟨.HST_SSID, 16, 15⟩
def F.HST_SSID_LOCK : Fld := ⟨.HST_SSID, 31, 1⟩
def F.HST_CNT_RING_IN_COUNT : Fld := ⟨.HST_CNT_RING_IN, 0, 32⟩
def F.HST_CNT_RING_OUT_COUNT : Fld := ⟨.HST_CNT_RING_OUT, 0, 32⟩
def F.HST_CNT_DMA_ERR_COUNT : Fld := ⟨.HST_CNT_DMA_ERR, 0, 32⟩
def F.HST_CNT_SPI_ERR_COUNT : Fld := ⟨.HST_CNT_SPI_ERR, 0, 32⟩
def F.HST_RING_CTL_EN : Fld := ⟨.HST_RING_CTL, 0, 1⟩
def F.HST_RING_CTL_DIR : Fld := ⟨.HST_RING_CTL, 1, 1⟩
def F.HST_RING_CTL_SIZE : Fld := ⟨.HST_RING_CTL, 2, 5⟩
def F.HST_RING_CTL_IRQ : Fld := ⟨.HST_RING_CTL, 7, 1⟩
def F.HST_RING_CTL_RUNNEL : Fld := ⟨.HST_RING_CTL, 8, 8⟩
def F.HST_RING_CTL_VEC : Fld := ⟨.HST_RING_CTL, 16, 6⟩
def F.HST_RING_CTL_ERR : Fld := ⟨.HST_RING_CTL, 22, 1⟩
def F.HST_RING_COAL_COAL_US : Fld := ⟨.HST_RING_COAL, 0, 16⟩
def F.HST_RING_COAL_COAL_CNT : Fld := ⟨.HST_RING_COAL, 16, 16⟩
def F.HST_RING_BASE_ADDR : Fld := ⟨.HST_RING_BASE, 0, 64⟩
def F.HST_RING_WB_ADDR : Fld := ⟨.HST_RING_WB, 0, 64⟩
def F.HST_RING_DB_INDEX : Fld := ⟨.HST_RING_DB, 0, 16⟩
def F.HST_RING_PTR_HEAD : Fld := ⟨.HST_RING_PTR, 0, 16⟩
def F.HST_RING_PTR_TAIL : Fld := ⟨.HST_RING_PTR, 16, 16⟩
def F.FLS_BLOCK_ID_PREFIX : Fld := ⟨.FLS_BLOCK_ID, 8, 24⟩
def F.FLS_BLOCK_ID_VERSION : Fld := ⟨.FLS_BLOCK_ID, 0, 8⟩
def F.FLS_STAT_MODE : Fld := ⟨.FLS_STAT, 0, 2⟩
def F.FLS_STAT_DENSITY : Fld := ⟨.FLS_STAT, 2, 2⟩
def F.FLS_STAT_OP_BUSY : Fld := ⟨.FLS_STAT, 4, 1⟩
def F.FLS_STAT_SUSPENDED : Fld := ⟨.FLS_STAT, 5, 1⟩
def F.FLS_EVT_DISCOVER_FAIL : Fld := ⟨.FLS_EVT, 0, 1⟩
def F.FLS_EVT_CMD_DONE_0 : Fld := ⟨.FLS_EVT, 1, 1⟩
def F.FLS_EVT_CMD_DONE_1 : Fld := ⟨.FLS_EVT, 2, 1⟩
def F.FLS_EVT_CMD_IGNORED : Fld := ⟨.FLS_EVT, 3, 1⟩
def F.FLS_EVT_FLASH_ERR : Fld := ⟨.FLS_EVT, 4, 1⟩
def F.FLS_IRQ_EN_EN : Fld := ⟨.FLS_IRQ_EN, 0, 5⟩
def F.FLS_CNT_REFUSED_COUNT : Fld := ⟨.FLS_CNT_REFUSED, 0, 32⟩
def F.FLS_CNT_FLASH_ERR_COUNT : Fld := ⟨.FLS_CNT_FLASH_ERR, 0, 32⟩
def F.FLS_CMD_OP : Fld := ⟨.FLS_CMD, 0, 3⟩
def F.FLS_CMD_LEN : Fld := ⟨.FLS_CMD, 8, 9⟩
def F.FLS_ADDR_ADDR : Fld := ⟨.FLS_ADDR, 0, 30⟩
def F.FLS_CSTAT_BUSY : Fld := ⟨.FLS_CSTAT, 0, 1⟩
def F.FLS_CSTAT_STATUS : Fld := ⟨.FLS_CSTAT, 1, 6⟩
def F.FLS_CSTAT_REASON : Fld := ⟨.FLS_CSTAT, 7, 3⟩
def F.FLS_BUF_DATA : Fld := ⟨.FLS_BUF, 0, 64⟩
def F.PWR_BLOCK_ID_PREFIX : Fld := ⟨.PWR_BLOCK_ID, 8, 24⟩
def F.PWR_BLOCK_ID_VERSION : Fld := ⟨.PWR_BLOCK_ID, 0, 8⟩
def F.PWR_STAT_DEV_STATE : Fld := ⟨.PWR_STAT, 0, 2⟩
def F.PWR_STAT_JET_LOCK : Fld := ⟨.PWR_STAT, 2, 7⟩
def F.PWR_STAT_CL_RUN : Fld := ⟨.PWR_STAT, 9, 4⟩
def F.PWR_STAT_PFAIL : Fld := ⟨.PWR_STAT, 13, 1⟩
def F.PWR_STAT_BOR : Fld := ⟨.PWR_STAT, 14, 1⟩
def F.PWR_STAT_VBAT_LOW : Fld := ⟨.PWR_STAT, 15, 1⟩
def F.PWR_EVT_PFAIL : Fld := ⟨.PWR_EVT, 0, 1⟩
def F.PWR_EVT_BOR : Fld := ⟨.PWR_EVT, 1, 1⟩
def F.PWR_EVT_JET_FAULT : Fld := ⟨.PWR_EVT, 2, 1⟩
def F.PWR_EVT_WAKE_LATE : Fld := ⟨.PWR_EVT, 3, 1⟩
def F.PWR_EVT_VBAT_LOW : Fld := ⟨.PWR_EVT, 4, 1⟩
def F.PWR_EVT_DORMANT_REFUSED : Fld := ⟨.PWR_EVT, 5, 1⟩
def F.PWR_IRQ_EN_EN : Fld := ⟨.PWR_IRQ_EN, 0, 6⟩
def F.PWR_WAKE_CTL_CHAIN_LEAD : Fld := ⟨.PWR_WAKE_CTL, 0, 10⟩
def F.PWR_WAKE_CTL_CL_LEAD : Fld := ⟨.PWR_WAKE_CTL, 16, 10⟩
def F.PWR_SSC_CL_EN : Fld := ⟨.PWR_SSC, 0, 4⟩
def F.PWR_SSC_FAB_EN : Fld := ⟨.PWR_SSC, 4, 1⟩
def F.PWR_PFAIL_CTL_PFAIL_EN : Fld := ⟨.PWR_PFAIL_CTL, 0, 1⟩
def F.PWR_DORMANT_ENTER : Fld := ⟨.PWR_DORMANT, 0, 1⟩
def F.PWR_DORMANT_ALARM_EN : Fld := ⟨.PWR_DORMANT, 1, 1⟩
def F.PWR_DORMANT_WAKE_N_EN : Fld := ⟨.PWR_DORMANT, 2, 1⟩
def F.PWR_DORMANT_KEY : Fld := ⟨.PWR_DORMANT, 16, 16⟩
def F.PWR_ALARM_SEC : Fld := ⟨.PWR_ALARM, 0, 48⟩
def F.PWR_CL_CTL_AUTO : Fld := ⟨.PWR_CL_CTL, 0, 1⟩
def F.PWR_CL_CTL_SLEEP_MIN : Fld := ⟨.PWR_CL_CTL, 16, 16⟩
def F.PWR_CNT_CHAIN_WAKE_COUNT : Fld := ⟨.PWR_CNT_CHAIN_WAKE, 0, 32⟩
def F.PWR_CNT_CL_WAKE_COUNT : Fld := ⟨.PWR_CNT_CL_WAKE, 0, 32⟩
def F.PWR_CNT_WAKE_LATE_COUNT : Fld := ⟨.PWR_CNT_WAKE_LATE, 0, 32⟩
def F.GLB_BLOCK_ID_PREFIX : Fld := ⟨.GLB_BLOCK_ID, 8, 24⟩
def F.GLB_BLOCK_ID_VERSION : Fld := ⟨.GLB_BLOCK_ID, 0, 8⟩
def F.GLB_RESET_CTL_FULL : Fld := ⟨.GLB_RESET_CTL, 0, 1⟩
def F.GLB_RESET_CTL_KEY : Fld := ⟨.GLB_RESET_CTL, 16, 16⟩
def F.GLB_RESET_CAUSE_POWER : Fld := ⟨.GLB_RESET_CAUSE, 0, 1⟩
def F.GLB_RESET_CAUSE_RST_N : Fld := ⟨.GLB_RESET_CAUSE, 1, 1⟩
def F.GLB_RESET_CAUSE_PFAIL : Fld := ⟨.GLB_RESET_CAUSE, 2, 1⟩
def F.GLB_RESET_CAUSE_BOR : Fld := ⟨.GLB_RESET_CAUSE, 3, 1⟩
def F.GLB_RESET_CAUSE_SOFT : Fld := ⟨.GLB_RESET_CAUSE, 4, 1⟩
def F.GLB_RESET_CAUSE_WEDGE_OCELL : Fld := ⟨.GLB_RESET_CAUSE, 5, 1⟩
def F.GLB_RESET_CAUSE_WEDGE_JOMUTER : Fld := ⟨.GLB_RESET_CAUSE, 6, 1⟩
def F.GLB_RESET_CAUSE_JET : Fld := ⟨.GLB_RESET_CAUSE, 7, 1⟩
def F.GLB_RESET_CAUSE_DORMANT : Fld := ⟨.GLB_RESET_CAUSE, 8, 1⟩
def F.GLB_RESET_COUNT_RESETS : Fld := ⟨.GLB_RESET_COUNT, 0, 16⟩
def F.GLB_RESET_COUNT_CYCLES : Fld := ⟨.GLB_RESET_COUNT, 16, 16⟩
def F.MEM_BLOCK_ID_PREFIX : Fld := ⟨.MEM_BLOCK_ID, 8, 24⟩
def F.MEM_BLOCK_ID_VERSION : Fld := ⟨.MEM_BLOCK_ID, 0, 8⟩
def F.MEM_STAT_SKIM_BUSY : Fld := ⟨.MEM_STAT, 0, 1⟩
def F.MEM_STAT_ABORTED : Fld := ⟨.MEM_STAT, 1, 1⟩
def F.MEM_STAT_FLIP_ARMED : Fld := ⟨.MEM_STAT, 2, 1⟩
def F.MEM_STAT_FLIP_LOCKED : Fld := ⟨.MEM_STAT, 3, 1⟩
def F.MEM_EVT_CE : Fld := ⟨.MEM_EVT, 0, 1⟩
def F.MEM_EVT_UE : Fld := ⟨.MEM_EVT, 1, 1⟩
def F.MEM_EVT_WRITE_POISON : Fld := ⟨.MEM_EVT, 2, 1⟩
def F.MEM_EVT_SKIM_DONE : Fld := ⟨.MEM_EVT, 3, 1⟩
def F.MEM_EVT_SKIM_REFUSED : Fld := ⟨.MEM_EVT, 4, 1⟩
def F.MEM_EVT_FLIP_DONE : Fld := ⟨.MEM_EVT, 5, 1⟩
def F.MEM_EVT_FLIP_REFUSED : Fld := ⟨.MEM_EVT, 6, 1⟩
def F.MEM_IRQ_EN_EN : Fld := ⟨.MEM_IRQ_EN, 0, 7⟩
def F.MEM_SKIM_CTL_MEM : Fld := ⟨.MEM_SKIM_CTL, 0, 8⟩
def F.MEM_SKIM_CTL_START : Fld := ⟨.MEM_SKIM_CTL, 8, 1⟩
def F.MEM_SKIM_CTL_ABORT : Fld := ⟨.MEM_SKIM_CTL, 9, 1⟩
def F.MEM_SKIM_FIRST_WORD : Fld := ⟨.MEM_SKIM_FIRST, 0, 21⟩
def F.MEM_SKIM_LAST_WORD : Fld := ⟨.MEM_SKIM_LAST, 0, 21⟩
def F.MEM_SKIM_CE_COUNT : Fld := ⟨.MEM_SKIM_CE, 0, 32⟩
def F.MEM_SKIM_UE_COUNT : Fld := ⟨.MEM_SKIM_UE, 0, 32⟩
def F.MEM_SKIM_ADDR_WORD : Fld := ⟨.MEM_SKIM_ADDR, 0, 21⟩
def F.MEM_SKIM_ADDR_VALID : Fld := ⟨.MEM_SKIM_ADDR, 30, 1⟩
def F.MEM_SKIM_ADDR_PRIOR : Fld := ⟨.MEM_SKIM_ADDR, 31, 1⟩
def F.MEM_LAST_CE_MEM : Fld := ⟨.MEM_LAST_CE, 0, 8⟩
def F.MEM_LAST_CE_WORD : Fld := ⟨.MEM_LAST_CE, 8, 21⟩
def F.MEM_LAST_UE_MEM : Fld := ⟨.MEM_LAST_UE, 0, 8⟩
def F.MEM_LAST_UE_WORD : Fld := ⟨.MEM_LAST_UE, 8, 21⟩
def F.MEM_FLIP_CTL_MEM : Fld := ⟨.MEM_FLIP_CTL, 0, 8⟩
def F.MEM_FLIP_CTL_ARM : Fld := ⟨.MEM_FLIP_CTL, 8, 1⟩
def F.MEM_FLIP_CTL_ANY : Fld := ⟨.MEM_FLIP_CTL, 9, 1⟩
def F.MEM_FLIP_CTL_CHECK : Fld := ⟨.MEM_FLIP_CTL, 10, 8⟩
def F.MEM_FLIP_CTL_LOCK : Fld := ⟨.MEM_FLIP_CTL, 31, 1⟩
def F.MEM_FLIP_WORD_WORD : Fld := ⟨.MEM_FLIP_WORD, 0, 21⟩
def F.MEM_FLIP_DATA_DATA : Fld := ⟨.MEM_FLIP_DATA, 0, 64⟩
def F.MEM_CNT_CE_COUNT : Fld := ⟨.MEM_CNT_CE, 0, 32⟩
def F.MEM_CNT_UE_COUNT : Fld := ⟨.MEM_CNT_UE, 0, 32⟩
def F.MEM_CNT_WRITE_POISON_COUNT : Fld := ⟨.MEM_CNT_WRITE_POISON, 0, 32⟩
def F.MEM_CNT_DROP_COUNT : Fld := ⟨.MEM_CNT_DROP, 0, 32⟩
def F.MEM_CNT_FLIP_COUNT : Fld := ⟨.MEM_CNT_FLIP, 0, 32⟩
def F.TWN_BLOCK_ID_PREFIX : Fld := ⟨.TWN_BLOCK_ID, 8, 24⟩
def F.TWN_BLOCK_ID_VERSION : Fld := ⟨.TWN_BLOCK_ID, 0, 8⟩
def F.TWN_CTL_EN : Fld := ⟨.TWN_CTL, 0, 1⟩
def F.TWN_CTL_UNIT : Fld := ⟨.TWN_CTL, 1, 1⟩
def F.TWN_CTL_PREFER : Fld := ⟨.TWN_CTL, 2, 1⟩
def F.TWN_CTL_AUTO_TAKE : Fld := ⟨.TWN_CTL, 3, 1⟩
def F.TWN_CTL_TAKE_UNSYNCED : Fld := ⟨.TWN_CTL, 4, 1⟩
def F.TWN_CTL_OBSERVE_RX : Fld := ⟨.TWN_CTL, 5, 1⟩
def F.TWN_TIMING_PAIR_WAIT_MS : Fld := ⟨.TWN_TIMING, 0, 8⟩
def F.TWN_TIMING_TK_LEAD : Fld := ⟨.TWN_TIMING, 16, 12⟩
def F.TWN_TK_TK_CHAIN : Fld := ⟨.TWN_TK, 0, 4⟩
def F.TWN_TK_TK_CARRIER : Fld := ⟨.TWN_TK, 4, 6⟩
def F.TWN_TK_TK_SECLVL : Fld := ⟨.TWN_TK, 10, 3⟩
def F.TWN_TK_TK_GROUP : Fld := ⟨.TWN_TK, 16, 12⟩
def F.TWN_AIR_AIR_CHAINS : Fld := ⟨.TWN_AIR, 0, 16⟩
def F.TWN_STAT_ROLE : Fld := ⟨.TWN_STAT, 0, 2⟩
def F.TWN_STAT_LINK_OK : Fld := ⟨.TWN_STAT, 2, 1⟩
def F.TWN_STAT_AIR_OK : Fld := ⟨.TWN_STAT, 3, 1⟩
def F.TWN_STAT_SYNCED : Fld := ⟨.TWN_STAT, 4, 1⟩
def F.TWN_STAT_LANE_LOCK : Fld := ⟨.TWN_STAT, 5, 2⟩
def F.TWN_STAT_AIR_MISS : Fld := ⟨.TWN_STAT, 7, 2⟩
def F.TWN_STAT_REFUSE : Fld := ⟨.TWN_STAT, 9, 3⟩
def F.TWN_STAT_TERM : Fld := ⟨.TWN_STAT, 16, 16⟩
def F.TWN_EVT_LINK_FAIL : Fld := ⟨.TWN_EVT, 0, 1⟩
def F.TWN_EVT_LINK_RESTORE : Fld := ⟨.TWN_EVT, 1, 1⟩
def F.TWN_EVT_AIR_FAIL : Fld := ⟨.TWN_EVT, 2, 1⟩
def F.TWN_EVT_AIR_RESTORE : Fld := ⟨.TWN_EVT, 3, 1⟩
def F.TWN_EVT_TAKEOVER : Fld := ⟨.TWN_EVT, 4, 1⟩
def F.TWN_EVT_YIELDED : Fld := ⟨.TWN_EVT, 5, 1⟩
def F.TWN_EVT_SYNC_DONE : Fld := ⟨.TWN_EVT, 6, 1⟩
def F.TWN_EVT_SYNC_LOST : Fld := ⟨.TWN_EVT, 7, 1⟩
def F.TWN_EVT_TK_FAIL : Fld := ⟨.TWN_EVT, 8, 1⟩
def F.TWN_EVT_PAIR_CONFLICT : Fld := ⟨.TWN_EVT, 9, 1⟩
def F.TWN_EVT_ENABLE_REFUSED : Fld := ⟨.TWN_EVT, 10, 1⟩
def F.TWN_EVT_CMD_REFUSED : Fld := ⟨.TWN_EVT, 11, 1⟩
def F.TWN_EVT_KEY_MISMATCH : Fld := ⟨.TWN_EVT, 12, 1⟩
def F.TWN_IRQ_EN_EN : Fld := ⟨.TWN_IRQ_EN, 0, 13⟩
def F.TWN_CMD_HANDOVER : Fld := ⟨.TWN_CMD, 0, 1⟩
def F.TWN_CMD_RESYNC : Fld := ⟨.TWN_CMD, 1, 1⟩
def F.TWN_SUSPECT_SUSPECT_MS : Fld := ⟨.TWN_SUSPECT, 0, 16⟩
def F.TWN_PEER_OFS_OFS : Fld := ⟨.TWN_PEER_OFS, 0, 32⟩
def F.TWN_MIRROR_QUEUED : Fld := ⟨.TWN_MIRROR, 0, 13⟩
def F.TWN_RUNNEL_TX_RUNNEL : Fld := ⟨.TWN_RUNNEL, 0, 8⟩
def F.TWN_RUNNEL_TXC_RUNNEL : Fld := ⟨.TWN_RUNNEL, 8, 8⟩
def F.TWN_RUNNEL_KEY_RUNNEL : Fld := ⟨.TWN_RUNNEL, 16, 8⟩
def F.TWN_CNT_HB_RX_COUNT : Fld := ⟨.TWN_CNT_HB_RX, 0, 32⟩
def F.TWN_CNT_BAD_MSG_COUNT : Fld := ⟨.TWN_CNT_BAD_MSG, 0, 32⟩
def F.TWN_CNT_MIRROR_TX_COUNT : Fld := ⟨.TWN_CNT_MIRROR_TX, 0, 32⟩
def F.TWN_CNT_MIRROR_RX_COUNT : Fld := ⟨.TWN_CNT_MIRROR_RX, 0, 32⟩
def F.TWN_CNT_AIR_MISS_COUNT : Fld := ⟨.TWN_CNT_AIR_MISS, 0, 32⟩
def F.TWN_CNT_TAKEOVER_COUNT : Fld := ⟨.TWN_CNT_TAKEOVER, 0, 32⟩
def F.TWN_CNT_DUP_SUSPECT_COUNT : Fld := ⟨.TWN_CNT_DUP_SUSPECT, 0, 32⟩
def F.OBS_BLOCK_ID_PREFIX : Fld := ⟨.OBS_BLOCK_ID, 8, 24⟩
def F.OBS_BLOCK_ID_VERSION : Fld := ⟨.OBS_BLOCK_ID, 0, 8⟩
def F.OBS_STAT_STILL_PENDING : Fld := ⟨.OBS_STAT, 0, 1⟩
def F.OBS_STAT_STILL_HELD : Fld := ⟨.OBS_STAT, 1, 1⟩
def F.OBS_STAT_RESTORED : Fld := ⟨.OBS_STAT, 2, 1⟩
def F.OBS_STAT_FLUSHING : Fld := ⟨.OBS_STAT, 3, 1⟩
def F.OBS_STAT_OPEN : Fld := ⟨.OBS_STAT, 4, 1⟩
def F.OBS_STAT_LOCKED : Fld := ⟨.OBS_STAT, 5, 1⟩
def F.OBS_EVT_STILL_DONE : Fld := ⟨.OBS_EVT, 0, 1⟩
def F.OBS_EVT_STILL_REFUSED : Fld := ⟨.OBS_EVT, 1, 1⟩
def F.OBS_EVT_SILT_OVERFLOW : Fld := ⟨.OBS_EVT, 2, 1⟩
def F.OBS_EVT_FLUSH_DONE : Fld := ⟨.OBS_EVT, 3, 1⟩
def F.OBS_EVT_FLUSH_FAIL : Fld := ⟨.OBS_EVT, 4, 1⟩
def F.OBS_EVT_POST_REFUSED : Fld := ⟨.OBS_EVT, 5, 1⟩
def F.OBS_IRQ_EN_EN : Fld := ⟨.OBS_IRQ_EN, 0, 6⟩
def F.OBS_STILL_CTL_TAKE : Fld := ⟨.OBS_STILL_CTL, 0, 1⟩
def F.OBS_STILL_CTL_RELEASE : Fld := ⟨.OBS_STILL_CTL, 1, 1⟩
def F.OBS_STILL_CTL_CLEAR : Fld := ⟨.OBS_STILL_CTL, 2, 1⟩
def F.OBS_STILL_CTL_AUTO : Fld := ⟨.OBS_STILL_CTL, 3, 1⟩
def F.OBS_STILL_CTL_AUTO_S : Fld := ⟨.OBS_STILL_CTL, 16, 16⟩
def F.OBS_STILL_SEQ_SEQ : Fld := ⟨.OBS_STILL_SEQ, 0, 32⟩
def F.OBS_STILL_S_SEC : Fld := ⟨.OBS_STILL_S, 0, 48⟩
def F.OBS_STILL_NS_NS : Fld := ⟨.OBS_STILL_NS, 0, 32⟩
def F.OBS_OP_HOURS_HOURS : Fld := ⟨.OBS_OP_HOURS, 0, 32⟩
def F.OBS_OP_SEC_SEC : Fld := ⟨.OBS_OP_SEC, 0, 12⟩
def F.OBS_SILT_CTL_FLUSH : Fld := ⟨.OBS_SILT_CTL, 0, 1⟩
def F.OBS_SILT_CTL_STAT_CLEAR : Fld := ⟨.OBS_SILT_CTL, 1, 1⟩
def F.OBS_SILT_CTL_FLUSH_MARK : Fld := ⟨.OBS_SILT_CTL, 4, 12⟩
def F.OBS_SILT_CTL_FLUSH_S : Fld := ⟨.OBS_SILT_CTL, 16, 16⟩
def F.OBS_SILT_STAT_BUFFERED : Fld := ⟨.OBS_SILT_STAT, 0, 12⟩
def F.OBS_SILT_STAT_SECTOR : Fld := ⟨.OBS_SILT_STAT, 12, 10⟩
def F.OBS_SILT_STAT_SLOT : Fld := ⟨.OBS_SILT_STAT, 22, 7⟩
def F.OBS_SILT_POST_CODE : Fld := ⟨.OBS_SILT_POST, 0, 9⟩
def F.OBS_SILT_POST_VALUE : Fld := ⟨.OBS_SILT_POST, 32, 32⟩
def F.OBS_SILT_SEQ_SEQ : Fld := ⟨.OBS_SILT_SEQ, 0, 32⟩
def F.OBS_SILT_CODE_SEL_CODE : Fld := ⟨.OBS_SILT_CODE_SEL, 0, 9⟩
def F.OBS_SILT_CODE_CFG_RATE : Fld := ⟨.OBS_SILT_CODE_CFG, 0, 8⟩
def F.OBS_SILT_CODE_CFG_BIN_BASE : Fld := ⟨.OBS_SILT_CODE_CFG, 8, 5⟩
def F.OBS_SILT_CODE_CFG_URGENT : Fld := ⟨.OBS_SILT_CODE_CFG, 13, 1⟩
def F.OBS_SILT_STAT_IDX_ITEM : Fld := ⟨.OBS_SILT_STAT_IDX, 0, 5⟩
def F.OBS_SILT_STAT_DATA_DATA : Fld := ⟨.OBS_SILT_STAT_DATA, 0, 32⟩
def F.OBS_EDDY_KEY_KEY : Fld := ⟨.OBS_EDDY_KEY, 0, 31⟩
def F.OBS_EDDY_KEY_LOCK : Fld := ⟨.OBS_EDDY_KEY, 31, 1⟩
def F.OBS_EDDY_CFG_EN : Fld := ⟨.OBS_EDDY_CFG, 0, 1⟩
def F.OBS_EDDY_CFG_FIX_CHECK : Fld := ⟨.OBS_EDDY_CFG, 1, 1⟩
def F.OBS_EDDY_CFG_REORD_N : Fld := ⟨.OBS_EDDY_CFG, 2, 3⟩
def F.OBS_EDDY_CFG_TYPE_MASK : Fld := ⟨.OBS_EDDY_CFG, 8, 8⟩
def F.OBS_EDDY_SEED_SEED : Fld := ⟨.OBS_EDDY_SEED, 0, 32⟩
def F.OBS_EDDY_P_DROP_P : Fld := ⟨.OBS_EDDY_P, 0, 16⟩
def F.OBS_EDDY_P_CORR_P : Fld := ⟨.OBS_EDDY_P, 16, 16⟩
def F.OBS_EDDY_P_REORD_P : Fld := ⟨.OBS_EDDY_P, 32, 16⟩
def F.OBS_CNT_SILT_KEPT_COUNT : Fld := ⟨.OBS_CNT_SILT_KEPT, 0, 32⟩
def F.OBS_CNT_SILT_SUPP_COUNT : Fld := ⟨.OBS_CNT_SILT_SUPP, 0, 32⟩
def F.OBS_CNT_SILT_LOST_COUNT : Fld := ⟨.OBS_CNT_SILT_LOST, 0, 32⟩
def F.OBS_CNT_EDDY_COUNT : Fld := ⟨.OBS_CNT_EDDY, 0, 32⟩
def F.OBS_UNIT_OFFSET : Fld := ⟨.OBS_UNIT, 0, 27⟩
def F.OBS_UNIT_COUNT : Fld := ⟨.OBS_UNIT, 32, 7⟩
def F.OBS_UNIT_STRIDE : Fld := ⟨.OBS_UNIT, 40, 8⟩
def F.OBS_RILL_CNT_COUNT : Fld := ⟨.OBS_RILL_CNT, 0, 32⟩
def F.OBS_CAR_SENT_COUNT : Fld := ⟨.OBS_CAR_SENT, 0, 32⟩
def F.OBS_RUN_CNT_COUNT : Fld := ⟨.OBS_RUN_CNT, 0, 32⟩
def F.OBS_THR_CNT_COUNT : Fld := ⟨.OBS_THR_CNT, 0, 32⟩

end Sys2Proof.Machine
end

