-- ==== Sys2Proof/Machine/SMap.lean ====
section
/-! DEFINITION. Sparse maps from numbers as lists of (key, value) pairs with strictly rising keys: the one form in which the
state keeps every sparse array (registers, memory bytes, link table, per-index engines). -/

namespace Sys2Proof

/-- A sparse map: entries in strictly rising key order. -/
abbrev SMap (α : Type) := List (Nat × α)

namespace SMap

variable {α : Type}

/-- The value at a key, if listed. -/
def find? : SMap α → Nat → Option α
  | [], _ => none
  | (k, v) :: m, q => if q = k then some v else find? m q

/-- The value at a key, `d` where none is listed. -/
def getD (m : SMap α) (q : Nat) (d : α) : α := (m.find? q).getD d

/-- The map with `v` at key `q`. -/
def put : SMap α → Nat → α → SMap α
  | [], q, v => [(q, v)]
  | (k, w) :: m, q, v =>
    if q < k then (q, v) :: (k, w) :: m
    else if q = k then (q, v) :: m
    else (k, w) :: put m q v

/-- The map with nothing at key `q`. -/
def del : SMap α → Nat → SMap α
  | [], _ => []
  | (k, w) :: m, q => if q = k then del m q else (k, w) :: del m q

/-- The map with `v` at key `q`, kept canonical for the default `d`: the default is not listed. -/
def putD [DecidableEq α] (m : SMap α) (q : Nat) (v d : α) : SMap α :=
  if v = d then m.del q else m.put q v

/-- Keys strictly rise. -/
def sorted : SMap α → Bool
  | [] => true
  | [_] => true
  | a :: b :: m => decide (a.1 < b.1) && sorted (b :: m)

/-- The canonical form for the default `d`: keys strictly rise and no entry holds the default. -/
def wf [DecidableEq α] (d : α) (m : SMap α) : Bool :=
  sorted m && m.all fun e => decide (e.2 ≠ d)

end SMap
end Sys2Proof
end

