-- ==== Sys2Proof/Machine/State.lean ====
section
/-! DEFINITION. The block's state as plain data, the reasons a step can stop, and the state after reset. Registers live in one
sparse register file (`regs`); the SECDED memories in one list of (address, byte) cells (`mem`) with their error marks (`ecc`);
each engine's own state in a structure of its own. -/

namespace Sys2Proof.Machine

/-- Why a command ends in a fault. No command of this block faults: no spec rule stops the whole device on a command
(safe: nothing is claimed of a machine that stops). -/
inductive Fault where
  /-- Never raised: the manual states no event that leaves the device without a next state; the resets it names are next
  states. Safe. -/
  | stuck
  deriving DecidableEq, Repr

/-- Why a command is refused. -/
inductive Refusal where
  /-- Raised by the dispatch alone, for a command whose meaning is not written yet. Safe: nothing is claimed of it. -/
  | notModelled (mnemonic : String)
  deriving DecidableEq, Repr

/-- The error mark of one SECDED word (R439, R441): which of the 72 bits are flipped (data in [63:0], check in [71:64]),
or that the word is marked poisoned (syndrome 0x81). -/
structure EccMark where
  mask     : Nat
  poisoned : Bool
  deriving DecidableEq, Repr

/-- A word of the runnel pool with its parity bit and its poison tag (R338). -/
structure RunWord where
  val    : Word
  poison : Bool
  parity : Bool
  deriving DecidableEq, Repr

/-- One runnel (R330–R340): the words held, oldest first; the words pushed and popped modulo the record length; the end of a
running flush, in words from the head; whether a discard by clearing EN is under way; engine pushes, and records of host rings, waiting for room.
`stamps` holds,
for each word held, the elapsed instant at which it landed and its producer: an Ocell thread's TID, 200 the host, 255 an engine. -/
structure Runnel where
  words     : List RunWord := []
  stamps    : List (Nat × Nat) := []
  pushPos   : Nat := 0
  popPos    : Nat := 0
  flushEnd  : Option Nat := none
  disabling : Bool := false
  waiting   : List (Nat × List RunWord) := []
  ringWaits : List (List RunWord) := []
  deriving DecidableEq, Repr

/-- A link-table entry (R344). -/
structure Link where
  next : Nat
  last : Bool
  free : Bool
  deriving DecidableEq, Repr

/-- What one cycle has done to a runnel, for what is judged at its end (R337, R341, R343): the cycle, as elapsed instant and count of issues; the
depth, RUN_MARK_n and RUN_EVT_n as it began; and how many of the last words landed in it. -/
structure RunTurn where
  cycle  : Nat × Nat
  depth  : Nat
  landed : Nat
  mark   : Word
  evt    : Word
  deriving DecidableEq, Repr

/-- Runnels and packet cells. `halloc` is the LENGTH of a host allocation in progress (R347). -/
structure RunState where
  q      : SMap Runnel := []
  links  : SMap Link := []
  turns  : SMap RunTurn := []
  halloc : Option Nat := none
  deriving DecidableEq, Repr

/-- Clepsydra and the Cistern's clock. `now` is elapsed time on the counting clock at its nominal rate, in ns (R353);
`ft` is full time in units of 2⁻⁴⁰ ns (R350, R352). -/
structure ClpState where
  /-- Elapsed ns at the nominal rate. -/
  now       : Nat := 0
  /-- Full time, in 2⁻⁴⁰ ns. -/
  ft        : Nat := 0
  /-- Clepsydra runs (its jet PLL is locked and full time is loaded). -/
  on        : Bool := false
  /-- What is left of a slew, in 2⁻⁴⁰ ns, signed (R362). -/
  slewRem   : Int := 0
  /-- Consecutive rejected samples (R363). -/
  rejects   : Nat := 0
  /-- STEER reads 3 (R363). -/
  jump      : Bool := false
  /-- A sample has been accepted since the full reset (R366). -/
  sampled   : Bool := false
  /-- Elapsed ns of the last accepted sample, or of the start of tracking (R364). -/
  lastOk    : Nat := 0
  /-- The last PPS_IN edge, elapsed ns (R367). -/
  ppsIn     : Option Nat := none
  /-- PPS_OUT is active, since this elapsed instant (R368). -/
  ppsOut    : Option Nat := none
  /-- The mapping holds from this instant of full time in ns (R370); and the last one that ended (R48): from and to in ns of full time,
  its T0 in ns, A0 and slot length in ns. -/
  asnFrom   : Nat := 0
  asnPast   : Option (Nat × Nat × Nat × Nat × Nat) := none
  /-- The Cistern's clock: trickle ticks since 0 s (R356, R357). -/
  cisTicks  : Nat := 0
  /-- The trim accumulator, in 1/64 ppm of a tick (R357). -/
  cisAcc    : Int := 0
  /-- VBAT has been lost since Clepsydra last started (R358). -/
  cisLost   : Bool := true
  /-- The level of PPS_IN behind its filter, once a change has reached the ball (R537). -/
  ppsLevel  : Option Bool := none
  deriving DecidableEq, Repr

/-- A posted write the device sends to host memory: ring words, write-backs and MSI-X messages, in the order sent. -/
structure HostWrite where
  addr : Nat
  data : List Byte
  deriving DecidableEq, Repr

/-- One MSI-X table entry: message address, message data, per-vector mask. -/
structure MsixEntry where
  addr : Nat := 0
  data : Nat := 0
  mask : Bool := true
  deriving DecidableEq, Repr

/-- Statistics and rate window of one Silt code (R508–R510), and its three configuration fields. -/
structure SiltCode where
  count     : Nat := 0
  min       : Nat := 0
  max       : Nat := 0
  firstHour : Nat := 0
  lastHour  : Nat := 0
  bins      : SMap Nat := []
  /-- Operating hour of the rate window and records kept in it. -/
  window    : Nat := 0
  kept      : Nat := 0
  /-- Posts suppressed since the code's previous record. -/
  supp      : Nat := 0
  rate      : Nat := 0x3C
  binBase   : Nat := 0
  /-- URGENT as written; `none` while it stands as R506 gives it. -/
  urgent    : Option Bool := none
  deriving DecidableEq, Repr

/-- A frame or message Eddy holds at a point (R520): its bytes, its arrival in service time and its ASN, further frames to pass, and the
elapsed instant at which it was held. -/
structure EddyHeld where
  bytes : List Byte
  ts    : Nat
  asn   : Nat
  left  : Nat
  since : Nat
  deriving DecidableEq, Repr

/-- One Eddy injection point (R519, R520): its LFSR and the frame it holds. -/
structure EddyPoint where
  lfsr : BitVec 32 := 1
  held : Option EddyHeld := none
  deriving DecidableEq, Repr

/-- The posts of a cycle (R516): the codes as they stood before it; the posts in their order, each with its rank (0 an engine, 1 the host, 2
Jomuter, 3 + t thread t), code and value; how many of them were kept and how many lost. -/
structure SiltTurn where
  cycle : Nat × Nat := (0, 0)
  codes : SMap SiltCode := []
  posts : List (Nat × Nat × Nat) := []
  kept  : Nat := 0
  lost  : Nat := 0
  deriving DecidableEq, Repr

/-- The Still, the Silt recorder and Eddy beyond their registers. -/
structure ObsState where
  /-- Elapsed ns of the last automatic request, or of the write that set AUTO (R503). -/
  autoSince  : Nat := 0
  /-- Shadow of counter i of unit u at 64 × u + i (R501). -/
  shadow     : SMap Nat := []
  /-- Sequence word of unit u's shadow page (R501). -/
  shadowSeq  : SMap Nat := []
  /-- The cycle of the last Still, and the shadows that it replaced (R504). -/
  shadowWas  : (Nat × Nat) × SMap Nat × SMap Nat := ((0, 0), [], [])
  /-- The cycle of the last TAKE that was refused, and whether STILL_REFUSED was set before it (R504). -/
  refused    : Option ((Nat × Nat) × Bool) := none
  codes      : SMap SiltCode := []
  turn       : SiltTurn := {}
  /-- Buffer slot (0–2,047 of MEM 7) of the oldest record not flushed, and how many are held (R513). -/
  bufHead    : Nat := 0
  bufCount   : Nat := 0
  /-- Elapsed ns at which the oldest record not flushed was kept. -/
  bufSince   : Nat := 0
  /-- While a flush runs: elapsed ns at which the first record after those it covers was kept. -/
  bufNext    : Option Nat := none
  /-- Records lost since the last flush (R513). -/
  lost       : Nat := 0
  /-- A flush is asked for and has not started (R513); records that the running flush covers. -/
  flushReq   : Bool := false
  flushing   : Nat := 0
  /-- A flush has started and its records have not been read yet (R513). -/
  unread     : Bool := false
  /-- Elapsed ns at which OBS_OP_SEC held its stored value, and the write point's SECTOR_SEQ (R512, R514). -/
  opSince    : Nat := 0
  sectorSeq  : Nat := 0
  eddy       : SMap EddyPoint := []
  /-- Elapsed ns at which OBS_EDDY_KEY took 0x0000_EDD1 as its last write (R518). -/
  eddyKeyAt  : Option Nat := none
  deriving DecidableEq, Repr

/-- A ring that a doorbell beyond reach stopped (R398): the elapsed instant, the index written, and `count`, `since` and ERR as they stood before. -/
structure BeyondReach where
  at_   : Nat
  idx   : Nat
  count : Nat
  since : Option Nat
  err   : Nat
  deriving DecidableEq, Repr

/-- A host ring beyond its registers (R393–R396, R528): records transferred and not yet signalled, the elapsed instant of the first of
them, its interrupt as INT_N sees it, and EN cleared while a record is in transfer (R398). -/
structure HostRing where
  count    : Nat := 0
  since    : Option Nat := none
  raised   : Bool := false
  stopping : Bool := false
  /-- A doorbell out of reach stopped the ring (R398). -/
  beyond   : Option BeyondReach := none
  deriving DecidableEq, Repr

/-- The registers of Advanced Error Reporting (R388) and the error bits of the PCI Status register, laid out and reset as the PCIe specification has
them (PRESUMED, log entry 60): Uncorrectable Error Status, Mask and Severity, Correctable Error Status and Mask, First Error Pointer, Header Log. -/
structure AerState where
  uncor    : Nat := 0
  mask     : Nat := 0x400000
  severity : Nat := 0x462030
  cor      : Nat := 0
  corMask  : Nat := 0xE000
  first    : Nat := 0
  header   : List Nat := [0, 0, 0, 0]
  status   : Nat := 0
  deriving DecidableEq, Repr

/-- Settings of the endpoint's configuration space (R388, R389): Max_Payload_Size and Max_Read_Request_Size in bytes, power state D3hot, Advanced
Error Reporting, and the base addresses of BAR0 and BAR2. -/
structure PcieCfg where
  maxPayload : Nat := 128
  maxRead    : Nat := 512
  d3hot      : Bool := false
  aer        : AerState := {}
  bar0       : Nat := 0
  bar2       : Nat := 0
  deriving DecidableEq, Repr

/-- MSI-X table and pending bits, the endpoint's Function Mask, what was sent to host memory (R389, R392, R527), the rings, and the SPI
status byte of the last completed transaction (R400). -/
structure HostState where
  msix     : SMap MsixEntry := []
  pba      : SMap Unit := []
  funcMask : Bool := false
  /-- MSI-X messages sent in a cycle: the vector, the write, and whether the vector's unmasking sent it (R529). -/
  msgs     : (Nat × Nat) × List (Nat × HostWrite × Bool) := ((0, 0), [])
  sent     : List HostWrite := []
  rings    : SMap HostRing := []
  spi      : Nat := 0
  /-- Bytes that the last SPI transaction shifted out, status included (R400); and the data of the last host read of BAR0 or BAR2, and
  whether it completed poisoned (R390). -/
  spiOut   : List Byte := []
  readData : List Byte := []
  readBad  : Bool := false
  cfg      : PcieCfg := {}
  deriving DecidableEq, Repr

/-- Which reset or sequence the device is in (R428–R433). -/
inductive Phase where
  /-- The internal reset is held. -/
  | reset
  /-- The reset is released. -/
  | run
  /-- The power-fail sequence runs (R428). -/
  | failing
  /-- Dormant: the internal reset is held and PWR_REQ is low (R422–R424). -/
  | off
  deriving DecidableEq, Repr

/-- A jet PLL that has been started and has not locked (R418): the elapsed instant of its start, and that it was restarted. -/
structure Jet where
  startAt : Nat
  again   : Bool
  deriving DecidableEq, Repr

/-- Power, reset and the wake fabric beyond their registers. -/
structure PwrState where
  phase    : Phase := .reset
  /-- Elapsed instant of the last release of the internal reset (R433). -/
  released : Nat := 0
  /-- Causes of the power-fail sequence that runs, in the bits of GLB_RESET_CAUSE, and the elapsed instant of its detection (R428). -/
  causes   : Nat := 0
  failAt   : Nat := 0
  /-- VBAT has been lost since the last release (R118, R358). -/
  vbatLost : Bool := true
  /-- The PWR_REQ output (R416, R424). -/
  pwrReq   : Bool := true
  /-- The Cistern runs from VBAT (R416). -/
  onVbat   : Bool := false
  /-- The main supplies are present (R422, R429, R431), and have risen since the last release of the internal reset (R539). -/
  mains    : Bool := true
  rose     : Bool := true
  /-- RST_N has fallen during a reset of another cause (R539). -/
  rstFell  : Bool := false
  jets     : SMap Jet := []
  /-- Memories that have been initialised since the release (R433). -/
  inited   : List Nat := []
  /-- Spread spectrum as applied: clusters, and the fabric; and the elapsed instant from which the fabric clock is not spread (R426,
  R427). -/
  sscCl    : Nat := 0
  /-- Elapsed instant at which the clusters' spreading was last applied, and the core cycles that spreading took from each cluster before
  it (R427). -/
  sscSince : Nat := 0
  sscLag   : SMap Nat := []
  sscFab   : Bool := false
  sscOff   : Option Nat := none
  /-- The slew code of the straps, as sampled at the last release of RST_N (R539). -/
  slew     : Nat := 3
  deriving DecidableEq, Repr

/-- The status codes of R13. -/
inductive Status where
  | ok | duplicate | replay | micFail | keyStale | unknownSource | poisoned | fcsFail | blanked | dupSuspect
  | txLate | txBudget | txCharter | txNoGrant | txGrantLost | txNoAck | txFlushed | txSynthFault | txSpecDropped
  | tableFull | notFound | busy | internal
  deriving DecidableEq, Repr

/-- The 6-bit code of a status (R13). -/
def Status.code : Status → Nat
  | .ok => 0x00 | .duplicate => 0x01 | .replay => 0x02 | .micFail => 0x03 | .keyStale => 0x04 | .unknownSource => 0x05
  | .poisoned => 0x06 | .fcsFail => 0x07 | .blanked => 0x08 | .dupSuspect => 0x09 | .txLate => 0x10 | .txBudget => 0x11
  | .txCharter => 0x12 | .txNoGrant => 0x13 | .txGrantLost => 0x14 | .txNoAck => 0x15 | .txFlushed => 0x16
  | .txSynthFault => 0x17 | .txSpecDropped => 0x18 | .tableFull => 0x20 | .notFound => 0x21 | .busy => 0x22
  | .internal => 0x3F

/-- How a rill closed a frame to Sluice (R42, R52). -/
inductive RxClose where
  | ok | fcsFail | blanked
  deriving DecidableEq, Repr

/-- What a rill has measured of the frame it is receiving: the SFD timestamp in service time and in full time (R45–R47), RSSI,
LQI and frequency offset as the completion carries them (R49–R51). -/
structure SfdInfo where
  ts     : Nat := 0
  fullNs : Nat := 0
  /-- The ASN of the slot that holds it, all ones where no mapping holds (R47, R48). -/
  asn    : Nat := 0xFFFFFFFFFF
  rssi   : Nat := 0
  lqi    : Nat := 0
  fo     : Nat := 0
  deriving DecidableEq, Repr

/-- A rill's claim or reception in progress (R33–R42). STATE, MODE_IDX and AER stand in PLM_RILL_STAT_n. -/
structure Claim where
  /-- Elapsed ns of the detection. -/
  at_    : Nat
  /-- The preamble was detected on aerial A, on aerial B (R37). -/
  heardA : Bool
  heardB : Bool
  /-- The aerial is chosen (R36). -/
  fixed  : Bool := false
  sfd    : Option SfdInfo := none
  /-- The accepted frame's identifier in Sluice's list. -/
  frame  : Option Nat := none
  deriving DecidableEq, Repr

/-- One rill beyond its registers: the AER_MODE its detectors restarted with (R38), and its claim. -/
structure Rill where
  aerMode : Nat := 0
  claim   : Option Claim := none
  /-- The claim's detection moved PLM_CNT_DETECT (R63). -/
  counted : Bool := false
  /-- The frame that a blanking interval closed: the elapsed instant, its identifier, and whether PLM_CNT_BLANKED moved (R63). -/
  cut     : Option (Nat × Nat × Bool) := none
  deriving DecidableEq, Repr

/-- One chain's receive side beyond its registers: what the wake fabric asks for (R55, R419), the instant at which a start
under way reaches Primed, and the earliest instant of Listening (R56). -/
structure PlmChain where
  wake     : Bool := false
  primedAt : Option Nat := none
  listenAt : Nat := 0
  /-- Listening was asked for when the request was last judged. -/
  listen   : Bool := false
  /-- The elapsed instant at which a request was given up, and the instant at which the start that it ended was to reach Primed: a request
  of the same cycle takes it up again (R63). -/
  lost     : Option (Nat × Option Nat) := none
  deriving DecidableEq, Repr

/-- Plume: chains by chain number, rills by 64 × chain + rill. -/
structure PlmState where
  chains : SMap PlmChain := []
  rills  : SMap Rill := []
  deriving DecidableEq, Repr

/-- The key of a job or of an acknowledged frame (R243, R253): a group (`ovr` false) or an override cell, its index, the epoch it
had, whether it is the group key itself, the EUI-64 a link key was derived for, and the 128-bit key. -/
structure JobKey where
  ovr    : Bool := false
  idx    : Nat := 0
  epoch  : Nat := 0
  direct : Bool := false
  eui    : Nat := 0
  key    : Nat := 0
  deriving DecidableEq, Repr

/-- What the store holds of a group or an override cell (R236, R242, R249): STATE is 0 empty, 1 live, 2 retired. An override cell
holds its key as two shares, the key XOR a mask in `share` and the mask (R246); a group's mask is 0. -/
structure KeySlot where
  share   : Nat := 0
  mask    : Nat := 0
  epoch   : Nat := 0
  state   : Nat := 0
  ctr     : Nat := 0
  floor   : Nat := 0
  pending : Bool := false
  deriving DecidableEq, Repr

/-- An entry of the derived-key cache (R245); `used` orders the ways of a set by their last use, `made` is the elapsed instant at which it
was entered (R253). -/
structure CacheWay where
  eui   : Nat
  group : Nat
  epoch : Nat
  key   : Nat
  used  : Nat
  made  : Nat := 0
  deriving DecidableEq, Repr

/-- A Grotto command in progress (R239): OP, INDEX, the elapsed instant by which it completes, and what its completion reports: status,
REASON, and the output bytes with their address. -/
structure GrtCmd where
  op     : Nat
  index  : Nat
  due    : Nat
  ok     : Bool
  reason : Nat := 0
  out    : List Byte := []
  addr   : Nat := 0
  /-- The input of RECON, ENROL and REFRESH, which act when they complete; and the messages REFRESH found held (R233). -/
  data   : List Byte := []
  msgs   : List Nat := []
  deriving DecidableEq, Repr

/-- An invalidation sweep (R253): the group it removes from the cache (`none` for an override cell), the elapsed instant by which it is
complete, the old key, held until the jobs that use it end, and the elapsed instant of its start. -/
structure Sweep where
  group : Option Nat
  due   : Nat
  old   : Nat
  start : Nat := 0
  deriving DecidableEq, Repr

/-- Grotto beyond its registers (R225–R260). Keys, secrets and messages are numbers. -/
structure GrtState where
  groups  : SMap KeySlot := []
  ovrs    : SMap KeySlot := []
  cache   : SMap CacheWay := []
  /-- The order in which cache entries were used. -/
  uses    : Nat := 0
  kwk     : Option Nat := none
  dbg     : Option Nat := none
  netKey  : Option Nat := none
  attKey  : Option Nat := none
  /-- The 36 message blocks, while they are held, and the elapsed instant at which they are erased (R230). -/
  msgs    : Option (List Nat) := none
  msgsDue : Nat := 0
  /-- RECON was issued, and one succeeded, since the last full reset (R231, R240). -/
  reconed : Bool := false
  rebuilt : Bool := false
  /-- PUF readings made so far (R226). -/
  pufReads : Nat := 0
  cmd     : Option GrtCmd := none
  /-- Pending exports by 64 × TYPE + PAGE: EPOCH, STATE and FLOOR of each entry of the body output (R240). -/
  exports : SMap (List (Nat × Nat × Nat)) := []
  sweeps  : List Sweep := []
  /-- Value that permutes the override cells, drawn at each start (R246), and the elapsed instant of the last mask refresh. -/
  perm    : Nat := 0
  maskAt  : Nat := 0
  /-- The CTR_DRBG's Key (256 bits) and V (128 bits), how many times it has been seeded, and its requests since the last seeding
(R260). -/
  drbgKey : Nat := 0
  drbgV   : Nat := 0
  seeds   : Nat := 0
  requests : Nat := 0
  /-- A JTAG challenge that waits for its response, and wrong responses since the last full reset (R258). -/
  chal    : Option Nat := none
  wrong   : Nat := 0
  /-- An UNLOCK_CHAL waits for DRBG_OK (R260). -/
  chalWait : Bool := false
  /-- PROV_LOCK, DBG_EXPORT_LOCK and JTAG_LOCK fuses (R240, R257). -/
  provLock : Bool := false
  dbgLock  : Bool := false
  jtagLock : Bool := false
  deriving DecidableEq, Repr

/-- A TX descriptor (R15). -/
structure TxDesc where
  len     : Nat := 0
  chain   : Nat := 0
  carrier : Nat := 0
  mode    : Nat := 0
  time    : Nat := 0
  asn     : Nat := 0
  slotOff : Nat := 0
  tol     : Nat := 0
  cellHi  : Nat := 0
  cell    : Nat := 0
  group   : Nat := 0
  sec     : Nat := 0
  ovr     : Bool := false
  ackReq  : Bool := false
  spec    : Bool := false
  prio    : Bool := false
  keep    : Bool := false
  cookie  : Word := 0
  deriving DecidableEq, Repr

/-- Who placed a frame: what its completion does (R17, R141, R148, R166, R314, R467). -/
inductive TxOrigin where
  /-- A CLASS 1 runnel: the completion is pushed. -/
  | runnel (n : Nat)
  /-- A SPECULATIVE descriptor pushed to runnel `n` inside the open region of thread `tid` (R314). -/
  | spec (n tid : Nat)
  /-- The MAC slot engine's acknowledgement of a frame, with the key that verified the frame (R144, R146). -/
  | ack (key : Option JobKey)
  /-- A copy of a beacon that the slot engine built (R137); its copies share one cell chain. -/
  | beacon (group : Nat)
  /-- A copy of a Spillway frame of a session (R169); its copies share one cell chain. -/
  | spw (session : Nat) (group : Nat)
  /-- The Twin block's takeover frame (R466). -/
  | takeover
  deriving DecidableEq, Repr

/-- A descriptor that an engine has placed and the charter stage has not taken (R125). `modeSet` holds the PHY mode and MCS that
R143 gives an acknowledgement. -/
structure Placed where
  origin  : TxOrigin
  desc    : TxDesc
  modeSet : Option (Nat × Nat) := none
  /-- Elapsed instant at which it was placed. -/
  at_     : Nat := 0
  /-- The place in the order of R125 that it keeps once its region has sealed. -/
  rank    : Option Nat := none
  deriving DecidableEq, Repr

/-- What the charter stage decided of a SPECULATIVE descriptor while its region is open (R314): the identifier of the frame it
became, or the status that is held, whether the device frees its cells, and the refusal to record (entry and reason). `near` holds
the bits of NEAR_MASK whose NEAR event waits for the seal. -/
structure SpecItem where
  tid     : Nat
  runnel  : Nat
  desc    : TxDesc
  frame   : Option Nat := none
  status  : Status := .ok
  frees   : Bool := true
  refusal : Option (Nat × Nat) := none
  near    : Nat := 0
  deriving DecidableEq, Repr

/-- Where a frame stands between approval and completion (R85, R89). -/
inductive TxStage where
  /-- Held in the launch unit. -/
  | held
  /-- Past its commit point. -/
  | committed
  /-- FEM_TXSW_n asserted for it. -/
  | switched
  /-- FEM_PA_n asserted for it. -/
  | powered
  /-- Radiating. -/
  | radiating
  /-- Sent; its completion waits for the acknowledgement window (R149). -/
  | awaitAck
  deriving DecidableEq, Repr

/-- How far Grotto's protection of a frame is (R248, R251). A waiting job holds its place in the order of issue; a running one
the key and the counter value it took. -/
inductive TxSec where
  | none
  | waiting (seq : Nat)
  | running (seq : Nat) (key : JobKey) (ctr : Nat) (started : Nat)
  | done
  /-- The job ended without protecting the frame; the status every copy takes. -/
  | failed (status : Status)
  deriving DecidableEq, Repr

/-- A cell chain that several copies of one frame share (R141, R166): the copies that have not completed, the protection they
share, whether one has completed OK, and its first cell. -/
structure SharedChain where
  cell : Nat
  left : Nat
  ok   : Bool := false
  sec  : TxSec := .none
  deriving DecidableEq, Repr

/-- The PHR of a radiated frame (R79): its PSDU length, the FCS type of MR-FSK, the mode-switch bit, and the MCS of MR-OFDM; with the PHY
mode entry as it stood. -/
structure TxPhr where
  len        : Nat
  fcs32      : Bool
  modeSwitch : Bool := false
  mcs        : Nat
  phy        : Word
  deriving DecidableEq, Repr

/-- A frame between approval and completion: it holds a place of its chain's launch unit (R372). -/
structure TxFrame where
  id      : Nat
  desc    : TxDesc
  origin  : TxOrigin
  /-- PHY mode and MCS that R143 gives an acknowledgement in place of the carrier's. -/
  modeSet : Option (Nat × Nat) := none
  /-- Launch time in ns of full time, before TX_ADJ; `none` for mode 0 (R84, R373). -/
  launch  : Option Nat
  /-- Elapsed ns at which it reached the launch unit, protected where it has to be (R85). -/
  arrived : Nat
  /-- Elapsed ns at which the charter stage approved it (R125). -/
  taken   : Nat := 0
  stage   : TxStage := .held
  sec     : TxSec := .none
  /-- Entries charged, each with a reservation of air time `air` (R121). -/
  charged : List Nat := []
  air     : Nat := 0
  /-- The coexistence group whose request is raised for it, and the elapsed instant at which its grant was sampled active
  (R97, R98). -/
  req     : Option Nat := none
  granted : Option Nat := none
  /-- It has counted in TXF_CNT_CAR_WAIT (R80). -/
  waited  : Bool := false
  /-- PA_LEAD and PA_LAG in µs, in force from its commit point (R94), and the elapsed instant of that. -/
  paLead  : Nat := 0
  paLag   : Nat := 0
  passed  : Nat := 0
  /-- RF start in ns of full time, which it follows (R373), and the elapsed instant of last RF. -/
  rfFull  : Nat := 0
  endAt   : Nat := 0
  /-- Service time and ASN of the RF start, once it has started. -/
  rfTime  : Nat := 0
  rfAsn   : Nat := 0xFFFFFFFFFF
  /-- The PHR, and the PSDU as radiated, MIC and FCS included. -/
  phr     : Option TxPhr := none
  psdu    : List Byte := []
  /-- The status that an abort during radiation gives it at its ramp end. -/
  fate    : Option Status := none
  /-- Elapsed instant at which the transmit path reads an uncorrectable word of it (R444). -/
  badAt   : Option Nat := none
  /-- Instants of full time, in ns, between which the SFD of its acknowledgement may lie (R149), and the window has closed. -/
  ackFrom : Nat := 0
  ackTo   : Nat := 0
  closed  : Bool := false
  deriving DecidableEq, Repr

/-- A blanking interval: the chains it blanks and the tail in force at its start (R96), and its end once FEM_TXSW_n has
released. -/
structure BlankInt where
  mask  : Nat
  tail  : Nat
  endAt : Option Nat := none
  deriving DecidableEq, Repr

/-- One chain's transmit side beyond its registers. -/
structure TxfChain where
  /-- Approved frames, in the order they reached the launch unit (R372). -/
  frames   : List TxFrame := []
  /-- The window centre in force, in kHz (R67, R68). -/
  centre   : Nat := 0
  /-- A window centre held, or, while Off, waiting for the next start; and a held CAL write (R68). -/
  heldWin  : Option Nat := none
  heldCal  : Bool := false
  /-- A full calibration is due at the next start (R68, R69). -/
  startCal : Bool := false
  /-- A CAL write or a window change has come since SYN_FAULT set: the next LOCK clears it (R73). -/
  faultClr : Bool := false
  /-- The synthesiser band of the stored calibration (R70). -/
  calBand  : Option Nat := none
  /-- Elapsed instant at which the running retune or calibration locks, and at which it fails (R69, R73). -/
  lockAt   : Option Nat := none
  failAt   : Option Nat := none
  /-- The running lock sequence is a full calibration. -/
  fullCal  : Bool := false
  /-- Elapsed instant from which a temperature calibration has been postponed, and whether 1 s has been reported (R71, R72). -/
  deferAt  : Option Nat := none
  starved  : Bool := false
  /-- Elapsed instant from which IDLE_OFF counts (R74). -/
  idleAt   : Option Nat := none
  /-- The pins as asserted: FEM_PA_n and FEM_TXSW_n (R89, R90). -/
  pa       : Bool := false
  txsw     : Bool := false
  /-- LNA_EN as it stood at the last commit point, and the elapsed instant at which the pins of that frame were done (R94). -/
  lnaHold  : Option (Bool × Option Nat) := none
  /-- FEM_TXSW_n's interval widened by 1 µs is over: FEM_LNA_n may be active (R91). -/
  lnaFree  : Bool := true
  /-- Elapsed instants at which FEM_PA_n and FEM_TXSW_n are to release and FEM_LNA_n may go active. -/
  paOff    : Nat := 0
  swOff    : Nat := 0
  lnaOn    : Nat := 0
  /-- Polarity in force: PA, TXSW, LNA; `none` before the first write of TXF_FEM_CTL, when all three drive low (R92, R94). -/
  pol      : Option (Bool × Bool × Bool) := none
  /-- A write of TXF_FEM_CTL whose polarities wait (R94). -/
  polDue   : Bool := false
  blanks   : List BlankInt := []
  /-- Coexistence groups whose request covers a frame that has ended, until FEM_PA_n releases (R97). -/
  coexHold : List Nat := []
  deriving DecidableEq, Repr

/-- A running count of radiation in a weir: the entry, the frames it covers, its start, and the 1 µs steps already counted
(R119); it stands still while the entry is not live (R123). -/
structure Meter where
  entry   : Nat
  union   : Bool
  paused  : Bool := false
  start   : Nat
  counted : Nat
  frames  : List Nat
  deriving DecidableEq, Repr

/-- The charter stage and the weirs beyond their registers. -/
structure ChtState where
  /-- The charter fuse image: the indices of its blown bits, in rising order (R105). -/
  fuses   : List Nat := []
  /-- A blow in progress: the bit and the elapsed instant of its end (R108); a digest to recompute by an instant (R110). -/
  blow    : Option (Nat × Nat) := none
  digest  : Option Nat := none
  /-- Air time of entry e in the bin k rotations back, at 64 × e + k (R116). -/
  bins    : SMap Nat := []
  /-- The lowest LIMIT that entry e held while live in that bin (R123). -/
  limits  : SMap Nat := []
  rotations : Nat := 0
  /-- Trickle ticks at which the running bin began. -/
  binTick : Nat := 0
  meters  : List Meter := []
  /-- Descriptors that the engines have placed and the charter stage has not taken: Twin, MAC slot engine,
  threads' SPECULATIVE descriptors, Spillway. -/
  inbox   : List Placed := []
  /-- SPECULATIVE descriptors of open regions that the stage has taken, in order (R314). -/
  specs   : List SpecItem := []
  /-- The stage waits for a place in a full launch unit (R372). -/
  stalled : Bool := false
  /-- The bins that the last rotation cleared, with its elapsed instant: entry, air time and lowest LIMIT (R125). -/
  cleared : Nat × List (Nat × Nat × Option Nat) := (0, [])
  /-- Reservations released at an elapsed instant: entry and amount (R125). -/
  released : Nat × List (Nat × Nat) := (0, [])
  deriving DecidableEq, Repr

/-- The transmit side: chains by number, the next frame identifier, and the coexistence inputs as filtered. -/
structure TxfState where
  chains : SMap TxfChain := []
  nextId : Nat := 0
  /-- Shared cell chains by number, and the next number. -/
  shared : SMap SharedChain := []
  nextShared : Nat := 0
  /-- The next place in the order in which Grotto jobs were issued (R248). -/
  jobSeq : Nat := 0
  /-- The die temperature in °C as last sensed (R70, R71). -/
  temp : Int := 0
  /-- The blanking groups as they stood before the writes of this elapsed instant (R102). -/
  grpWas : Option (Nat × List Nat) := none
  /-- Groups whose filtered grant input is inactive and not yet withdrawn, and from which elapsed instant on (R100). -/
  gntFrom : SMap Nat := []
  deriving DecidableEq, Repr

/-- The MAC slot engine beyond its registers. -/
structure MacState where
  /-- The next ASN to resolve, while RUNNING (R132, R134). -/
  nextAsn  : Option Nat := none
  /-- The slot resolved and not yet started, the slot in work, and the last slot worked: ASN, and the chains that listen in it, as a
  mask (R135). -/
  resolved : Option (Nat × Nat) := none
  work     : Option (Nat × Nat) := none
  last     : Option (Nat × Nat) := none
  /-- Chains that the wake fabric holds for the listen slots of the engine (R419), as a mask. -/
  wake     : Nat := 0
  /-- Sources acknowledged in a slot: its ASN and the source address as the frame carried it (R144, condition 6). -/
  acked    : List (Nat × List Byte) := []
  /-- Beacons built on each chain, modulo 256 (R138), and the last carrier of the rotation (R137). -/
  bcnSeq   : SMap Nat := []
  bcnLast  : SMap Nat := []
  /-- Acknowledgement windows whose frames have completed and that have not closed, or whose candidates have not ended (R149, R150):
  frame identifier, chain, rill, and the window in ns of full time. -/
  answered : List (Nat × Nat × Nat × Nat × Nat) := []
  /-- Carriers that carry a beacon copy in the slot last resolved: ASN, chain, carriers (R169). -/
  bcnNow   : List (Nat × Nat × List Nat) := []
  /-- The first slot worked since RUNNING last set (R132). -/
  firstAsn : Nat := 0
  /-- The slot resolved was none to work when it was resolved (R466, R471). -/
  unworked : Bool := false
  /-- The valid cells that the slot last resolved found, by index (R134). -/
  cells    : List (Nat × Nat) := []
  /-- Cell-table entries written at an elapsed instant, with the entry before, `none` for an uncorrectable one (R160). -/
  cellWas  : Nat × List (Nat × Option Nat) := (0, [])
  /-- Drift records that an insert set to 0 at an elapsed instant, with the record before (R160). -/
  driftWas : Nat × List (Nat × Nat) := (0, [])
  deriving DecidableEq, Repr

/-- A sending slot in work: its ASN, the cells taken for its frame, the chains it sends on, and the block its frame carries, none for the manifest
(R170, R174); its round has been aborted (R176, R179). -/
structure SpwSlot where
  asn    : Nat
  cells  : List Nat
  chains : Nat
  block  : Option Nat
  stray  : Bool := false
  deriving DecidableEq, Repr

/-- A Spillway session beyond its registers (R163–R173). -/
structure SpwSession where
  /-- Blocks of the missing map, in rising order. -/
  missing  : List Nat := []
  /-- Blocks of the send set that are still to place, in rising order; the manifest is still to place. -/
  todo     : List Nat := []
  manifest : Bool := false
  /-- Matching slots since the last sending slot, `none` before the first of the round (R168). -/
  since    : Option Nat := none
  /-- Matching slots of a back-off still to pass (R172). -/
  backoff  : Nat := 0
  /-- The sending slots in work, the oldest first (R170). -/
  slots    : List SpwSlot := []
  deriving DecidableEq, Repr

/-- Spillway beyond its registers. -/
structure SpwState where
  sessions : SMap SpwSession := []
  /-- Elapsed instant until which SPW_CMD is BUSY (R175). -/
  busyTill : Nat := 0
  deriving DecidableEq, Repr

/-- A flash operation (R405). -/
inductive FlsKind where
  | read | program | erase4k | erase64k
  deriving DecidableEq, Repr

/-- Work for the flash port: where it stands in the order of R406 (0 Silt flush on power failure, 1 interface 0, 2 Spillway, 3 the
Silt recorder's routine writes, 4 interface 1), the Spillway session of a read, and what it does. -/
structure FlsOp where
  src     : Nat
  session : Nat := 0
  /-- The slot that a read is for. -/
  asn     : Nat := 0
  kind    : FlsKind
  addr    : Nat
  len     : Nat := 0
  data    : List Byte := []
  deriving DecidableEq, Repr

/-- The flash port and the device it drives (R402–R406): bytes that differ from the erased 0xFF, by address; the operation running,
those waiting in the order of arrival, and a suspended erase. -/
structure FlsState where
  bytes     : SMap Byte := []
  busy      : Option FlsOp := none
  waiting   : List FlsOp := []
  suspended : Option FlsOp := none
  /-- The running operation was started from the queue at this elapsed instant (R406). -/
  startedAt : Option Nat := none
  /-- SFDP discovery has run since the release (R402). -/
  discovered : Bool := false
  deriving DecidableEq, Repr

/-- A frame an Ethernet port is sending (R386, R387): its bytes as they leave, without FCS; the service time of its first byte; its
record's first word and cookie, none for a relay copy; a cell it read was uncorrectable. -/
structure EthTx where
  bytes : List Byte
  at_   : Nat
  desc  : Option (Nat × Word)
  bad   : Bool
  deriving DecidableEq, Repr

/-- A relay copy waiting at an egress port (R375, R376): the frame without FCS, its ingress port, and full time at ingress in ns. -/
structure EthRelay where
  bytes : List Byte
  port  : Nat
  at_   : Nat
  deriving DecidableEq, Repr

/-- An Ethernet port beyond its registers. -/
structure EthPort where
  tx    : Option EthTx := none
  relay : List EthRelay := []
  /-- EN has been set since the full reset (R387). -/
  used  : Bool := false
  deriving DecidableEq, Repr

/-- The Ethernet ports, and the frames that left them, FCS included, in order. -/
structure EthState where
  ports : SMap EthPort := []
  sent  : List (Nat × List Byte) := []
  deriving DecidableEq, Repr

/-- A Skimmer pass (R445, R446): memory, next word, last word; an ABORT waits for the next word. -/
structure Skim where
  mem   : Nat
  next  : Nat
  last  : Nat
  abort : Bool
  deriving DecidableEq, Repr

/-- Where a frame's verify job stands (R248, R254): running, with the key it found (`none` for none) and its epoch, the elapsed instant of its
start, the verdict it will deliver and the frame with its payload in clear; delivered, and whether a failure is for a stale key; or ended by an uncorrectable key word. -/
inductive RxVerify where
  | none
  | running (key : Option JobKey) (epoch start : Nat) (pass : Bool) (plain : List Byte)
  | verdict (epoch : Nat) (pass : Bool) (stale : Bool) (plain : List Byte)
  | poisoned
  deriving DecidableEq, Repr

/-- KIND of a decision record (R211). -/
inductive DecKind where
  | mesh | offMesh | local_ | multicast | drop | noRoute | mac | other | fragment
  deriving DecidableEq, Repr

/-- The code of a KIND (R211). -/
def DecKind.code : DecKind → Nat
  | .mesh => 0 | .offMesh => 1 | .local_ => 2 | .multicast => 3 | .drop => 4 | .noRoute => 5 | .mac => 6 | .other => 7
  | .fragment => 8

/-- A decision record (R211): indices are node-table indices, and follow relocation while the record is held (R195). -/
structure Decision where
  kind     : DecKind
  outPort  : Nat := 0
  outRill  : Nat := 0
  routeLen : Nat := 0
  sleepy   : Bool := false
  next     : Option Nat := none
  dest     : Option Nat := none
  nextEui  : Nat := 0
  destEui  : Nat := 0
  cell     : Option Nat := none
  ns       : Nat := 0
  deriving DecidableEq, Repr

/-- What Sluice holds of a frame between its header and its end (R198, R204): no source entry or no key; an uncorrectable word met; the
source entry's index, its EUI, and GROUP and OVR_EN as they stood at the lookup; whether an alias led to it; the key Grotto granted with
its epoch, the frame's epoch tag (R243); the elapsed instant at which that key is delivered, until it is (R245); its verify job; whether its
header job holds a lane (R248); its decision. -/
structure RxHold where
  unknown  : Bool := true
  poisoned : Bool := false
  src      : Option Nat := none
  eui      : Nat := 0
  group    : Nat := 0
  ovr      : Bool := false
  aliased  : Bool := false
  key      : Option JobKey := none
  keyAt    : Option Nat := none
  /-- The elapsed instant of the key request, and the epoch tag that Grotto then reported (R243). -/
  asked    : Nat := 0
  tag      : Nat := 0
  headRuns : Bool := false
  /-- The header job's place in the order of issue (R248), and whether it found no key at its start (R253). -/
  headSeq  : Nat := 0
  blind    : Bool := false
  verify   : RxVerify := .none
  decision : Option Decision := none
  deriving DecidableEq, Repr

/-- A frame a rill has accepted, until Sluice has completed it (R39–R44, R185, R202). -/
structure RxFrame where
  chain   : Nat
  rill    : Nat
  aer     : Nat
  modeIdx : Nat
  phy     : Nat
  /-- The MCS of its PHR, for MR-OFDM (R143). -/
  mcs     : Nat := 0
  len     : Nat
  fcsLen  : Nat
  cells   : List Nat
  /-- PSDU bytes written so far, oldest first (R42). -/
  bytes   : List Byte := []
  sfd     : SfdInfo := {}
  closed  : Option RxClose := none
  /-- Its place in the order in which frames ended (R248). -/
  endSeq  : Nat := 0
  hold    : Option RxHold := none
  deriving DecidableEq, Repr

/-- A packet of port 16–21 that Sluice has not completed (R186): its first cell, its length as the completion gives it, the offset of its
IPv6 header in its cells (`none` where it is not IPv6), its arrival in service time and its ASN. -/
structure Wired where
  port : Nat
  cell : Nat
  len  : Nat
  ipv6 : Option Nat
  ts   : Nat
  asn  : Nat
  deriving DecidableEq, Repr

/-- A FLUSH_PORT pass (R219): port, FORCE, requester, result runnel, TAG, entries deleted so far, slots already visited, and the elapsed
instant by which it ends. -/
structure FlushPass where
  port    : Nat
  force   : Bool
  req     : Nat
  runnel  : Nat
  tag     : Nat
  count   : Nat
  visited : Nat
  due     : Nat
  deriving DecidableEq, Repr

/-- Sluice beyond its registers. -/
structure SlcState where
  rx     : SMap RxFrame := []
  nextRx : Nat := 0
  wired  : List Wired := []
  /-- The victim-choice LFSR (R193). -/
  lfsr   : BitVec 32 := 1
  /-- The scan lock's holder and the elapsed instant at which it times out (R221). -/
  lock   : Option (Nat × Nat) := none
  flush  : Option FlushPass := none
  /-- The slot that the ager visits next, and the elapsed instant of its last visit or of its enable (R214). -/
  agerAt : Nat := 0
  agerLast : Nat := 0
  deriving DecidableEq, Repr

/-- What the last good heartbeat said of the peer (R456). -/
structure TwnPeer where
  role   : Nat := 0
  unit   : Nat := 0
  prefer : Bool := false
  synced : Bool := false
  term   : Nat := 0
  deriving DecidableEq, Repr

/-- The Twin block beyond its registers (R453–R472). -/
structure TwnState where
  /-- The TWN_ACT output. -/
  act       : Bool := false
  /-- Elapsed instants: of the enable; of the last good heartbeat and how many came in a row with no gap above 1 ms (R458); at
  which the next own heartbeat is due (R457). -/
  enabledAt : Nat := 0
  lastHb    : Option Nat := none
  streak    : Nat := 0
  beatAt    : Option Nat := none
  peer      : Option TwnPeer := none
  /-- A heartbeat carried the device's own UNIT (R454); a GOODBYE was received (R472). -/
  conflict  : Bool := false
  goodbye   : Bool := false
  /-- Consecutive heard beacon slots while the air path is failed, and what is expected of the slot in work: its ASN, its chains,
  and whether its beacon was heard (R459). -/
  airGood   : Nat := 0
  expected  : List (Nat × Nat × Bool) := []
  /-- Mirror messages waiting, as payload words (R461); that the queue overflowed and the RESYNC is still to send;
  the messages sent on the link, in order: the lane and the bytes. -/
  queue     : List (List Word) := []
  overflow  : Bool := false
  sent      : List (Nat × List Byte) := []
  seq       : Nat := 0
  /-- A bulk sync runs: what is still to send, as first word and index; its SYNC_END is still to send (R464). -/
  bulk      : List (Nat × Nat) := []
  bulkOpen  : Bool := false
  /-- A bulk sync waits for the memories it reads (R433). -/
  bulkAsked : Bool := false
  /-- A HANDOVER has arrived that has not taken effect (R471), and the elapsed instant of the last LINK_RESTORE (R473). -/
  arrived   : Bool := false
  restored  : Option Nat := none
  /-- The first class and index that the pass has not reached. -/
  bulkAt    : Nat × Nat := (0, 0)
  /-- A takeover was decided at this elapsed instant and the takeover frame has not completed (R466). -/
  taking    : Bool := false
  decidedAt : Nat := 0
  /-- Slot work begins with slots that start at or after this instant of full time, in ns (R466, R471). -/
  workFrom  : Nat := 0
  /-- A handover names this slot (R471): as active, before HANDOVER is sent; as standby, after it arrived. -/
  handing   : Option Nat := none
  /-- The active has sent HANDOVER. -/
  handed    : Bool := false
  /-- Node-table indices marked suspect, in rising order (R470). -/
  suspects  : List Nat := []
  deriving DecidableEq, Repr
/-- Boot and firmware beyond the registers (R476–R496): the digest of the active image (all zeros before one runs), the owner-key fuse
slots (programmed hashes and revoked slots), whether the boot ROM has run since the full reset, and whether it stopped Jomuter
because no image boots (R485). -/
structure BotState where
  digest  : List Byte := List.replicate 32 0
  owners  : SMap Nat := []
  revoked : List Nat := []
  booted  : Bool := false
  romHalt : Bool := false
  /-- Jomuter runs its boot ROM (R434). -/
  romRun  : Bool := false
  /-- The warm path has stopped the Ocell threads, and none has started since (R489, R496). -/
  stopped : Bool := false
  deriving DecidableEq, Repr

/-- What an Ocell thread that is Waiting waits for (R303). -/
inductive OclWait where
  /-- WAIT_KIND 1: the words of a push or push4 to runnel `n`. -/
  | push (n : Nat) (ws : List Word)
  /-- WAIT_KIND 2: a pop or pop4 of `k` words from runnel `n` to the registers from `rd` on. -/
  | pop (n k rd : Nat)
  /-- WAIT_KIND 3: a popw from runnel `n` to `rd` and predicate `px`, with the elapsed instant at which its timeout expires. -/
  | popw (n rd px due : Nat)
  /-- WAIT_KIND 4: a service time. -/
  | waitt (target : Nat)
  /-- WAIT_KIND 5: the command record at a data address, or a lookup whose result goes to `rd`. -/
  | tcmd (a : Nat)
  | tfind (eui cls rd : Nat)
  /-- WAIT_KIND 6. -/
  | rnd (rd : Nat)
  /-- WAIT_KIND 7: a read or write of `width` bytes at a BAR0 offset. -/
  | load (off width rd : Nat)
  | store (off width : Nat) (v : Word)
  /-- WAIT_KIND 8: sps performs the region's effects. -/
  | seal
  deriving DecidableEq, Repr

/-- A buffered effect of a speculation region (R311). -/
inductive OclEffect where
  /-- A store: its pieces as (memory, byte offset, bytes), and the data address that a POISON of it names (R272), or none where that is the
  address of the bad word (R287). -/
  | write (pieces : List (Nat × Nat × List Byte)) (addr : Option Nat)
  | regWrite (off width : Nat) (v : Word)
  | push (n : Nat) (ws : List Word)
  | free (cell : Nat)
  deriving DecidableEq, Repr

/-- An open speculation region (R309–R316): its drop target, the registers and RETIRED as they stood at spb, the buffered effects in program order,
the entries in use, the cells that halloc took, and, while sps performs the effects, the address of a store that met a poisoned
word (R313) and whether HALT was written (R327). -/
structure Region where
  target  : Nat
  g       : SMap Word
  p       : Nat
  h       : SMap Word
  retired : Nat
  effects : List OclEffect := []
  used    : Nat := 0
  cells   : List Nat := []
  poison  : Option Nat := none
  halt    : Bool := false
  deriving DecidableEq, Repr

/-- An Ocell thread (R263, R266, R300): its STATE and wait, general registers, predicates (PRED), handle images, program counter and
special registers, region, and watchdog. -/
structure OclThread where
  state     : Nat := 0
  wait      : Option OclWait := none
  g         : SMap Word := []
  p         : Nat := 1
  h         : SMap Word := []
  pc        : Nat := 0
  evec      : Word := 0
  epc       : Word := 0
  ecause    : Word := 0
  einfo     : Word := 0
  esave     : Word := 0
  exc       : Bool := false
  region    : Option Region := none
  dropCause : Nat := 0
  retired   : Nat := 0
  /-- The watchdog (R322): the elapsed instant from which it counts, ns counted before that, STAGE, EXPIRIES, and a WATCHDOG that waits
  for EXC to clear. -/
  wdFrom    : Nat := 0
  wdAcc     : Nat := 0
  stage     : Bool := false
  expiries  : Nat := 0
  wdDue     : Bool := false
  /-- The elapsed instant from which its waiting is still to be counted, and ns counted that make no whole µs (R499). -/
  waitFrom  : Nat := 0
  waitRest  : Nat := 0
  deriving DecidableEq, Repr

/-- The Ocell cores: threads by TID, 0–127 and Jomuter's 129; clusters whose clock is stopped, with the elapsed instant of the stop, and ns
for which each has stood still since the full reset (R266, R420). -/
structure OclState where
  threads : SMap OclThread := []
  stopped : SMap Nat := []
  still   : SMap Nat := []
  /-- The thread of each core that last issued, and the threads that executed yield and have not been passed over (R302). -/
  turns   : SMap Nat := []
  passes  : List Nat := []
  /-- Instructions issued and accesses of threads done since the full reset: the model's own count of cycles within one instant. -/
  issues  : Nat := 0
  deriving DecidableEq, Repr


/-- What hardware did in one cycle, while software may still meet it there (R12): the cycle, as elapsed instant and count of issues; the event
bits it set, by register, copy and bit; and by how much it raised counters, by register, copies and lowest bit. -/
structure CycleLog where
  cycle : Nat × Nat := (0, 0)
  evts  : List (RegId × Nat × Nat) := []
  incs  : List ((RegId × Nat × Nat × Nat) × Nat) := []
  deriving DecidableEq, Repr

/-- The block's whole state: the commands that wait, and everything the manual gives the device. -/
structure State where
  /-- Commands waiting, first in, first out. -/
  pending : List Instr := []
  /-- The register file; a register not listed holds its reset value. -/
  regs    : SMap Word := []
  /-- The SECDED memories: byte o of memory MEM at address MEM × 2²⁴ + o; an unlisted byte reads 0 (R433). -/
  mem     : List Host.Cell := []
  /-- Error marks: word w of memory MEM at MEM × 2²¹ + w; an unlisted word is a good codeword. -/
  ecc     : SMap EccMark := []
  /-- The model's own counter that picks fresh free values. -/
  draw    : Nat := 0
  clp     : ClpState := {}
  pwr     : PwrState := {}
  run     : RunState := {}
  hst     : HostState := {}
  obs     : ObsState := {}
  plm     : PlmState := {}
  txf     : TxfState := {}
  cht     : ChtState := {}
  mac     : MacState := {}
  spw     : SpwState := {}
  eth     : EthState := {}
  fls     : FlsState := {}
  skim    : Option Skim := none
  slc     : SlcState := {}
  twn     : TwnState := {}
  grt     : GrtState := {}
  bot     : BotState := {}
  ocl     : OclState := {}
  cyc     : CycleLog := {}
  deriving DecidableEq, Repr

/-- The machine right after a full reset. -/
def State.reset : State := {}

end Sys2Proof.Machine
end

