-- ==== Sys2Proof/Machine/Ops.lean ====
section
/-! DEFINITION. The shared operations: registers and fields, events and their interrupt messages (R526–R528), counters, time
(R350–R370), the SECDED memories (R438–R448), the Silt recorder's post (R505–R513), packet cells (R344–R346) and runnels
(R330–R343). Every family's meanings are written over these. -/

namespace Sys2Proof.Machine

/-- The outcome type of a meaning. -/
abbrev Out := Host.Outcome State Fault Refusal

/-! ## Registers and fields -/

/-- The key of copy (i, j) of a register in the register file. -/
def regKey (id : RegId) (i j : Nat) : Nat := Nat.pair (Nat.pair id.ctorIdx i) j

/-- The reset value of copy (i, j) of a register (R525): the field table's, and BASE16 = 0x10 × n of RUN_CFG_n. -/
def resetAt (id : RegId) (i _j : Nat) : Word :=
  BitVec.ofNat 64 (if id = .RUN_CFG then id.resetWord + 0x100000 * i else id.resetWord)

/-- The contents of copy (i, j) of a register. -/
def State.reg (s : State) (id : RegId) (i j : Nat) : Word := SMap.getD s.regs (regKey id i j) (resetAt id i j)

/-- The state with `v` in copy (i, j) of a register. -/
def State.setReg (s : State) (id : RegId) (i j : Nat) (v : Word) : State :=
  { s with regs := SMap.put s.regs (regKey id i j) v }

/-- A field of copy (i, j) of its register, as a number. -/
def State.fld (s : State) (f : Fld) (i : Nat := 0) (j : Nat := 0) : Nat := bits (s.reg f.reg i j).toNat f.lo f.w

/-- The state with a field of copy (i, j) of its register set. -/
def State.setFld (s : State) (f : Fld) (v : Nat) (i : Nat := 0) (j : Nat := 0) : State :=
  s.setReg f.reg i j (BitVec.ofNat 64 (setBits (s.reg f.reg i j).toNat f.lo f.w v))

/-- A one-bit field as a truth value. -/
def State.flag (s : State) (f : Fld) (i : Nat := 0) (j : Nat := 0) : Bool := s.fld f i j == 1

/-- The bits of a field. -/
def Fld.mask (f : Fld) : Word := BitVec.ofNat 64 ((2 ^ f.w - 1) * 2 ^ f.lo)

/-- A field read as two's complement (R3). -/
def State.sfld (s : State) (f : Fld) (i : Nat := 0) (j : Nat := 0) : Int := signed f.w (s.fld f i j)

/-- Apply `f` only where `c` holds. -/
def State.on (s : State) (c : Bool) (f : State → State) : State := if c then f s else s

/-- The internal reset is released (R422, R431, R512). -/
def State.released (s : State) : Bool := s.pwr.phase == .run || s.pwr.phase == .failing

/-- A register access, or another effect that takes a powered device: none while the internal reset is held, in Dormant or without the main
supplies (R422, R431). -/
def State.powered (s : State) (f : State → State) : State := s.on s.released f

/-- A fresh free value of the manual's open points, and the state that has drawn it. -/
def State.fresh (s : State) : Nat × State := ((Config.freeValue s.draw).toNat, { s with draw := s.draw + 1 })

/-! ## Counters (R497) -/

/-- The cycle that runs, as elapsed instant and count of issues: commands of one elapsed instant share it, but every instruction that issues, and
every access of a thread, is a cycle of its own (DESIGN CHOICE, log entry 152). -/
def State.cycle (s : State) : Nat × Nat := (s.clp.now, s.ocl.issues)

/-- What hardware has done in this cycle (R12). -/
def State.cycNow (s : State) : CycleLog := if s.cyc.cycle = s.cycle then s.cyc else { cycle := s.cycle }

/-- A new cycle of the same instant begins. -/
def State.nextCycle (s : State) : State := { s with ocl := { s.ocl with issues := s.ocl.issues + 1 } }

/-- Hardware sets an event bit in this cycle (R12). -/
def State.noteEvent (s : State) (f : Fld) (i : Nat) : State :=
  let c := s.cycNow
  if c.evts.contains (f.reg, i, f.lo) then s else { s with cyc := { c with evts := c.evts ++ [(f.reg, i, f.lo)] } }

/-- Hardware raises a counter by `n` in this cycle (R12). -/
def State.noteCount (s : State) (f : Fld) (n i j : Nat) : State :=
  let c := s.cycNow
  let k := (f.reg, i, j, f.lo)
  let old := ((c.incs.find? fun e => e.1 == k).map fun e => e.2).getD 0
  { s with cyc := { c with incs := (c.incs.filter fun e => e.1 != k) ++ [(k, old + n)] } }

/-- A counter field raised by `n`, saturating at 0xFFFF_FFFF (R497), by what earlier cycles have left to count. -/
def State.count (s : State) (f : Fld) (n : Nat := 1) (i : Nat := 0) (j : Nat := 0) : State :=
  s.setFld f (min (2 ^ f.w - 1) (s.fld f i j + n)) i j

/-- An event of this cycle counts (R12, R497). -/
def State.bump (s : State) (f : Fld) (n : Nat := 1) (i : Nat := 0) (j : Nat := 0) : State := (s.noteCount f n i j).count f n i j

/-- `n` of what this cycle has added to a counter is taken back. -/
def State.uncount (s : State) (f : Fld) (n : Nat := 1) (i : Nat := 0) (j : Nat := 0) : State :=
  let c := s.cycNow
  let k := (f.reg, i, j, f.lo)
  let incs := c.incs.map fun e => if e.1 == k then (k, e.2 - n) else e
  { s with cyc := { c with incs := incs } }.setFld f (s.fld f i j - n) i j

/-- An event that this cycle has counted turns out to be none. A saturated counter keeps its value. -/
def State.unbump (s : State) (f : Fld) (n : Nat := 1) (i : Nat := 0) (j : Nat := 0) : State :=
  s.on (decide (s.fld f i j + 1 < 2 ^ f.w)) fun s => s.uncount f n i j

/-! ## Events and interrupts (R392, R526–R528) -/

/-- The IRQ_EN register beside an EVT register. -/
def irqRegOf : RegId → Option RegId
  | .PLM_EVT => some .PLM_IRQ_EN
  | .PLM_GLB_EVT => some .PLM_GLB_IRQ_EN
  | .TXF_EVT => some .TXF_IRQ_EN
  | .CHT_EVT => some .CHT_IRQ_EN
  | .MAC_EVT => some .MAC_IRQ_EN
  | .SPW_EVT => some .SPW_IRQ_EN
  | .SLC_EVT => some .SLC_IRQ_EN
  | .GRT_EVT => some .GRT_IRQ_EN
  | .OCL_CL_EVT => some .OCL_CL_IRQ_EN
  | .RUN_EVT => some .RUN_IRQ_EN
  | .RUN_EVT_N => some .RUN_IRQ_EN_N
  | .CLP_EVT => some .CLP_IRQ_EN
  | .ETH_EVT => some .ETH_IRQ_EN
  | .HST_EVT => some .HST_IRQ_EN
  | .FLS_EVT => some .FLS_IRQ_EN
  | .PWR_EVT => some .PWR_IRQ_EN
  | .MEM_EVT => some .MEM_IRQ_EN
  | .TWN_EVT => some .TWN_IRQ_EN
  | .OBS_EVT => some .OBS_IRQ_EN
  | _ => none

/-- The vector of copy `i` of an EVT register (R526). -/
def vectorOf (id : RegId) (i : Nat) : Nat :=
  match id with
  | .PLM_EVT => i
  | .TXF_EVT => i
  | .PLM_GLB_EVT => 16
  | .CHT_EVT => 17
  | .MAC_EVT => 18
  | .SPW_EVT => 19
  | .SLC_EVT => 20
  | .GRT_EVT => 21
  | .OCL_CL_EVT => 22 + i
  | .RUN_EVT => 26
  | .RUN_EVT_N => 27 + i / 64
  | .CLP_EVT => 31
  | .ETH_EVT => 32 + i
  | .HST_EVT => 36
  | .FLS_EVT => 37
  | .PWR_EVT => 38
  | .MEM_EVT => 39
  | .TWN_EVT => 40
  | .OBS_EVT => 41
  | _ => 63

/-- The EVT registers that share a vector (R526). -/
def vectorSources (v : Nat) : List (RegId × Nat) :=
  if v < 16 then [(.PLM_EVT, v), (.TXF_EVT, v)]
  else if v < 22 then
    [([RegId.PLM_GLB_EVT, .CHT_EVT, .MAC_EVT, .SPW_EVT, .SLC_EVT, .GRT_EVT].getD (v - 16) .GRT_EVT, 0)]
  else if v < 26 then [(.OCL_CL_EVT, v - 22)]
  else if v = 26 then [(.RUN_EVT, 0)]
  else if v < 31 then (List.range 64).map fun k => (.RUN_EVT_N, 64 * (v - 27) + k)
  else if v = 31 then [(.CLP_EVT, 0)]
  else if v < 36 then [(.ETH_EVT, v - 32)]
  else if v < 42 then
    [([RegId.HST_EVT, .FLS_EVT, .PWR_EVT, .MEM_EVT, .TWN_EVT, .OBS_EVT].getD (v - 36) .OBS_EVT, 0)]
  else []

/-- A source is raised: some bit is set in both its EVT and its IRQ_EN register (R526). -/
def State.srcRaised (s : State) (id : RegId) (i : Nat) : Bool :=
  match irqRegOf id with
  | some q => (s.reg id i 0 &&& s.reg q i 0) != 0
  | none => false

/-- A vector is raised while any of its sources is (R526). -/
def State.vectorRaised (s : State) (v : Nat) : Bool := (vectorSources v).any fun e => s.srcRaised e.1 e.2

/-- The endpoint may send memory requests: the link is up, Bus Master Enable is 1 and the function is in D0 (R388, R391). -/
def State.busMaster (s : State) : Bool := s.flag F.HST_STAT_LINK_UP && s.flag F.HST_STAT_BUS_MASTER && !s.hst.cfg.d3hot

/-- MSI-X messages of this cycle (R529). -/
def State.msgsNow (s : State) : List (Nat × HostWrite × Bool) := if s.hst.msgs.1 = s.cycle then s.hst.msgs.2 else []

/-- The host interface without the message that a vector has sent in this cycle, which takes one place in the order at most (R529); and whether the
vector's unmasking sent it. -/
def State.unsend (s : State) (v : Nat) : HostState × Bool :=
  match s.msgsNow.find? fun m => m.1 == v with
  | some m =>
    ({ s.hst with
        sent := (s.hst.sent.reverse.erase m.2.1).reverse
        msgs := (s.cycle, s.msgsNow.erase m) }, m.2.2)
  | none => ({ s.hst with msgs := (s.cycle, s.msgsNow) }, false)

/-- Send the MSI-X message of a vector, one in a cycle and behind what was written before (R396, R529): nothing while MSI-X Enable is 0; a pending bit while the function or the vector is
masked; otherwise a posted write of the message data, while the link and Bus Master Enable allow it (R527). -/
def State.sendVector (s : State) (v : Nat) (unmasked : Bool := false) : State :=
  if !s.flag F.HST_STAT_MSIX_EN then s
  else
    let e := SMap.getD s.hst.msix v {}
    if s.hst.funcMask || e.mask then { s with hst := { s.hst with pba := SMap.put s.hst.pba v () } }
    else if s.busMaster then
      let (h, _) := s.unsend v
      let w : HostWrite := ⟨e.addr, leBytes 4 e.data⟩
      { s with hst := { h with sent := h.sent ++ [w], msgs := (s.cycle, h.msgs.2 ++ [(v, w, unmasked)]) } }
    else s

/-- Something raises a vector: a block interrupt or a ring (R396, R526). -/
def State.vectorHeld (s : State) (v : Nat) : Bool :=
  s.vectorRaised v || s.hst.rings.any fun e => e.2.raised && s.fld F.HST_RING_CTL_VEC e.1 == v

/-- A vector that nothing raises any more is not pending; a message that its unmasking sent in this cycle is not sent (R527, R529). -/
def State.settleVector (s : State) (v : Nat) : State :=
  if s.vectorHeld v then s
  else
    let s := { s with hst := { s.hst with pba := SMap.del s.hst.pba v } }
    let (h, unmasked) := s.unsend v
    if unmasked then { s with hst := h } else s

/-- Set an event bit; a source that goes from not raised to raised sends its vector's message (R527, case 1). -/
def State.raise (s : State) (f : Fld) (i : Nat := 0) : State :=
  let was := s.srcRaised f.reg i
  let s := (s.noteEvent f i).setFld f 1 i
  s.on (!was && s.srcRaised f.reg i) fun s => s.sendVector (vectorOf f.reg i)

/-- After a write of an EVT or IRQ_EN register: the vector sends if it is left raised (R527, cases 1 and 2), and is not pending any more if it is
not. -/
def State.rearm (s : State) (evt : RegId) (i : Nat) : State :=
  let v := vectorOf evt i
  if s.vectorRaised v then s.sendVector v else s.settleVector v

/-- An event of this cycle turns out to be none: its bit clears, and where nothing else raises its vector no message goes. -/
def State.retract (s : State) (f : Fld) (i : Nat := 0) : State :=
  let c := s.cycNow
  let v := vectorOf f.reg i
  let s := { s with cyc := { c with evts := c.evts.erase (f.reg, i, f.lo) } }.setFld f 0 i
  if s.vectorHeld v then s else { s with hst := { (s.unsend v).1 with pba := SMap.del s.hst.pba v } }

/-- Software has written an EVT or IRQ_EN register with `d`: a bit that it clears in the cycle in which hardware sets it stays set (R12); a vector
whose source would have risen in this cycle, and whose IRQ_EN bit is cleared in it, sends no message (R529). -/
def State.keepEvents (s : State) (id : RegId) (i : Nat) (d : Word) : State :=
  let c := s.cycNow
  let s := c.evts.foldl (fun s e =>
    if e.1 == id && e.2.1 == i && d.getLsbD e.2.2 && !(s.reg id i 0).getLsbD e.2.2 then s.raise ⟨id, e.2.2, 1⟩ i else s) s
  c.evts.foldl (fun s e =>
    let v := vectorOf e.1 e.2.1
    if irqRegOf e.1 == some id && e.2.1 == i && !s.vectorHeld v then { s with hst := (s.unsend v).1 } else s) s

/-- Hardware clears an event bit. -/
def State.lower (s : State) (f : Fld) (i : Nat := 0) : State := (s.setFld f 0 i).settleVector (vectorOf f.reg i)

/-! ## Time (R350–R354, R369) -/

/-- The slew term while a remainder is left, in 2⁻⁴⁰ of the nominal rate (R362). SLEW_MAX_PPM above 200 acts as 200. -/
def State.slewTerm (s : State) : Int :=
  let m : Int := min 200 (s.fld F.CLP_STEER_LIM_SLEW_MAX_PPM) * 2 ^ 40 / 10 ^ 6
  if s.clp.slewRem < 0 then -m else if s.clp.slewRem > 0 then m else 0

/-- ±500 ppm in 2⁻⁴⁰ (R352). -/
def rateClamp (x : Int) : Int := max (-549755814) (min 549755814 x)

/-- The applied rate (R352): TRIM + rate_i + the slew term, clamped. -/
def State.appliedRate (s : State) : Int :=
  rateClamp (s.sfld F.CLP_TRIM_TRIM + s.sfld F.CLP_RATE_I_RATE_I + s.slewTerm)

/-- The applied rate with no slew left. -/
def State.restRate (s : State) : Int := rateClamp (s.sfld F.CLP_TRIM_TRIM + s.sfld F.CLP_RATE_I_RATE_I)

/-- Elapsed ns until the running slew has no remainder (0 when none runs); `none` where it never ends (a slew of 0 ppm). -/
def State.slewLeft (s : State) : Option Nat :=
  if s.clp.slewRem = 0 then some 0
  else if s.slewTerm = 0 then none
  else some ((s.clp.slewRem.natAbs + s.slewTerm.natAbs - 1) / s.slewTerm.natAbs)

/-- The part of `d` elapsed ns during which the slew runs. -/
def State.slewPart (s : State) (d : Nat) : Nat :=
  match s.slewLeft with
  | some n => min d n
  | none => d

/-- The last instant of full time, in 2⁻⁴⁰ ns: 2⁴⁸ − 1 s 999,999,999 ns and what is above it of that ns (R350, R359). -/
def ftLast : Nat := 2 ^ 48 * 10 ^ 9 * 2 ^ 40 - 1

/-- What `d` elapsed ns add to full time, in 2⁻⁴⁰ ns (R350, R352). It never wraps (R359): at its last instant it stays (DESIGN CHOICE, log
entry 151). -/
def State.ftGain (s : State) (d : Nat) : Nat :=
  let n := s.slewPart d
  min (n * (2 ^ 40 + s.appliedRate).toNat + (d - n) * (2 ^ 40 + s.restRate).toNat) (ftLast - s.clp.ft)

/-- Trickle ticks in the first `t` elapsed ns (32.768 kHz). -/
def ticksAt (t : Nat) : Nat := t * 32768 / 10 ^ 9

/-- `n` trickle ticks of the Cistern's own count, corrected by CIS_TRIM (R357): each adds CIS_TRIM/64 ppm of a tick to the
accumulator, and each whole tick there adds or drops one. -/
def State.cisternTicks (s : State) (n : Nat) : State :=
  let acc := s.clp.cisAcc + n * s.sfld F.CLP_CIS_CTL_CIS_TRIM
  let whole := Int.tdiv acc 64000000
  { s with clp := { s.clp with cisTicks := ((s.clp.cisTicks + n : Nat) + whole).toNat, cisAcc := acc - whole * 64000000 } }

/-- The Cistern's ticks that a full time of `q` 2⁻⁴⁰ ns is written as (R356): seconds, and ⌊ns × 32,768 / 10⁹⌋ of the second. -/
def cisternOf (q : Nat) : Nat := q / 2 ^ 40 / 10 ^ 9 * 32768 + q / 2 ^ 40 % 10 ^ 9 * 32768 / 10 ^ 9

/-- The elapsed instant of the `n`-th trickle tick. -/
def tickTime (n : Nat) : Nat := (n * 10 ^ 9 + 32767) / 32768

/-- Let `d` ns of elapsed time pass. While Clepsydra runs, full time advances at the applied rate, a slew uses up its remainder (R350,
R352, R362), and each trickle tick writes full time into the Cistern (R356); while it is off, the Cistern counts (R357). -/
def State.advance (s : State) (d : Nat) : State :=
  let n := ticksAt (s.clp.now + d)
  if s.clp.on then
    let k := s.slewPart d
    let used : Int := k * s.slewTerm
    let rem := if s.clp.slewRem.natAbs ≤ used.natAbs then 0 else s.clp.slewRem - used
    let cis := if n = ticksAt s.clp.now then s.clp.cisTicks
      else cisternOf (s.clp.ft + s.ftGain (tickTime n - s.clp.now))
    { s with clp := { s.clp with now := s.clp.now + d, ft := s.clp.ft + s.ftGain d, slewRem := rem, cisTicks := cis } }
  else
    (s.cisternTicks (n - ticksAt s.clp.now)) |> fun t => { t with clp := { t.clp with now := t.clp.now + d } }

/-- The end of the cycle: an event whose outcome something else of its cycle may change comes 1 ns later, when nothing of that cycle can (DESIGN
CHOICE, log entry 154). -/
def State.endCycle (s : State) : State := s.advance 1

/-- Let time pass until elapsed instant `t` (nothing if it has passed). -/
def State.advanceTo (s : State) (t : Nat) : State := s.advance (t - s.clp.now)

/-- Full time in whole ns (R350: reported values are truncated). -/
def State.fullNs (s : State) : Nat := s.clp.ft / 2 ^ 40

/-- Service time (R351). -/
def State.service (s : State) : Nat := s.fullNs % 2 ^ 32

/-- Elapsed ns until full time reaches `t` ns. -/
def State.nsUntilFull (s : State) (t : Nat) : Nat :=
  let need := t * 2 ^ 40 - s.clp.ft
  let r1 := (2 ^ 40 + s.appliedRate).toNat
  let r2 := (2 ^ 40 + s.restRate).toNat
  match s.slewLeft with
  | none => (need + r1 - 1) / r1
  | some n => if need ≤ n * r1 then (need + r1 - 1) / r1 else n + (need - n * r1 + r2 - 1) / r2

/-- Let time pass until full time is `t` ns or later. -/
def State.advanceToFull (s : State) (t : Nat) : State := s.advance (s.nsUntilFull t)

/-- A service-time value lies in the past: (int32)(w − now) is negative (R354). -/
def inPast (now w : Nat) : Bool := decide ((w + 2 ^ 32 - now % 2 ^ 32) % 2 ^ 32 ≥ 2 ^ 31)

/-- The full time, in ns, of the instant a service-time value names (R354); below 0 is taken as 0. -/
def State.fullOfService (s : State) (w : Nat) : Nat :=
  let d := (w % 2 ^ 32 + 2 ^ 32 - s.service) % 2 ^ 32
  if d ≥ 2 ^ 31 then s.fullNs - (2 ^ 32 - d) else s.fullNs + d

/-- The slot length L in ns (R369). -/
def State.slotLen (s : State) : Nat := s.fld F.MAC_SLOT_SLOT_LEN_US * 1000

/-- T0 in ns of full time (R369); CLP_ANCHOR_NS above 999,999,999 acts as 999,999,999. -/
def State.anchorNs (s : State) : Nat :=
  s.fld F.CLP_ANCHOR_S_SEC * 10 ^ 9 + min 999999999 (s.fld F.CLP_ANCHOR_NS_NS)

/-- The start of slot `a` in ns of full time (R369). -/
def State.slotStart (s : State) (a : Nat) : Nat :=
  s.anchorNs + ((a % 2 ^ 40 + 2 ^ 40 - s.fld F.CLP_ANCHOR_ASN_ASN) % 2 ^ 40) * s.slotLen

/-- The ASN at full time `t` ns (R369). -/
def State.asnAt (s : State) (t : Nat) : Nat := (s.fld F.CLP_ANCHOR_ASN_ASN + (t - s.anchorNs) / s.slotLen) % 2 ^ 40

/-- The current ASN (R369). -/
def State.asn (s : State) : Nat := s.asnAt s.fullNs

/-- The mapping between ASN and time is held (R370). -/
def State.asnValid (s : State) : Bool := s.flag F.CLP_STAT_ASN_VALID

/-! ## The SECDED memories (R438–R448) -/

/-- The memories of R438. -/
def memWords (m : Nat) : Option Nat :=
  if m ≤ 1 then some 2097152
  else if m = 2 then some 65536
  else if m = 3 then some 131072
  else if m = 4 then some 16384
  else if m = 5 then some 524288
  else if m ≤ 7 then some 8192
  else if m = 8 then some 32768
  else if m = 9 then some 4096
  else if m < 42 then some 8192
  else if m < 74 then some 4096
  else if m < 78 then some 131072
  else none

/-- The address of byte `o` of memory `m` in the state's one byte memory. -/
def memAddr (m o : Nat) : Nat := m * 2 ^ 24 + o

/-- What an unlisted byte of memory reads as: the zeros of the memory initialisation (R433). -/
def memDefault : Byte := 0

/-- The canonical form of the byte memory: addresses strictly rise and no listed byte equals what an unlisted one reads as. -/
abbrev Memory.wf (m : List Host.Cell) : Bool := SMap.wf memDefault m

/-- One byte of memory `m`. -/
def State.memByte (s : State) (m o : Nat) : Byte := SMap.getD s.mem (memAddr m o) memDefault

/-- Store one byte. -/
def State.setMemByte (s : State) (m o : Nat) (b : Byte) : State :=
  { s with mem := SMap.putD s.mem (memAddr m o) b memDefault }

/-- Store bytes from byte `o` on. -/
def State.setMemBytes (s : State) (m : Nat) : Nat → List Byte → State
  | _, [] => s
  | o, b :: bs => (s.setMemByte m o b).setMemBytes m (o + 1) bs

/-- The bytes [o, o + n) of memory `m`. -/
def State.memBytes (s : State) (m o n : Nat) : List Byte := (List.range n).map fun k => s.memByte m (o + k)

/-- The data of word `w` of memory `m`, as stored. -/
def State.memWord (s : State) (m w : Nat) : Nat := ofLe (s.memBytes m (8 * w) 8)

/-- Store the data of word `w`. -/
def State.setMemWord (s : State) (m w v : Nat) : State := s.setMemBytes m (8 * w) (leBytes 8 v)

/-- The key of a word's error mark. -/
def eccKey (m w : Nat) : Nat := m * 2 ^ 21 + w

/-- The error mark of a word. -/
def State.eccOf (s : State) (m w : Nat) : Option EccMark := SMap.find? s.ecc (eccKey m w)

/-- The word becomes a good codeword. -/
def State.eccClear (s : State) (m w : Nat) : State := { s with ecc := SMap.del s.ecc (eccKey m w) }

/-- The word takes an error mark. -/
def State.eccSet (s : State) (m w : Nat) (k : EccMark) : State := { s with ecc := SMap.put s.ecc (eccKey m w) k }

/-- The flip-mask of R448 armed for this write. -/
def State.flipHits (s : State) (m w : Nat) : Bool :=
  s.flag F.MEM_FLIP_CTL_ARM && s.fld F.MEM_FLIP_CTL_MEM == m &&
    (s.flag F.MEM_FLIP_CTL_ANY || s.fld F.MEM_FLIP_WORD_WORD == w)

/-- FLIP_APPLY (R448): the next qualifying functional write stores its codeword XOR the mask; then ARM clears, FLIP_DONE is
set and MEM_CNT_FLIP counts. -/
def State.flipApply (s : State) (m w : Nat) : State :=
  if s.flipHits m w then
    let mask := s.fld F.MEM_FLIP_DATA_DATA + 2 ^ 64 * s.fld F.MEM_FLIP_CTL_CHECK
    (((s.on (mask != 0) fun s => s.eccSet m w ⟨mask, false⟩).setFld F.MEM_FLIP_CTL_ARM 0).raise
      F.MEM_EVT_FLIP_DONE).bump F.MEM_CNT_FLIP_COUNT
  else s

/-- A functional write of all 8 bytes of a word: a good codeword, ending its poison (R442), then the flip-mask (R448). -/
def State.memWrite (s : State) (m w v : Nat) : State := ((s.setMemWord m w v).eccClear m w).flipApply m w

/-- Functional writes of consecutive whole words. -/
def State.memWrites (s : State) (m : Nat) : Nat → List Nat → State
  | _, [] => s
  | w, v :: vs => (s.memWrite m w v).memWrites m (w + 1) vs

/-! ## The Silt recorder's post (R505–R513) -/

/-- The device codes that are URGENT at reset (R506). -/
def urgentCodes : List Nat := [1, 2, 17, 18, 129, 145, 146, 242, 243, 257]

/-- The histogram bin of a value (R509). -/
def siltBin (base v : Nat) : Nat := if v = 0 then 0 else min 15 (max 1 (Nat.log2 v + 1 - base))

/-- The 28 bytes of a Silt record that its CRC covers (R511). -/
def siltBody (code cycles hours sec supp value ftSec seq : Nat) : List Byte :=
  leBytes 2 code ++ leBytes 2 cycles ++ leBytes 4 hours ++ leBytes 2 sec ++ leBytes 2 (min 65535 supp) ++
    leBytes 4 value ++ leBytes 6 ftSec ++ leBytes 2 0 ++ leBytes 4 seq

/-- FLUSH_MARK as it acts: 0 acts as 1, above 2,048 as 2,048. -/
def State.flushMark (s : State) : Nat := min 2048 (max 1 (s.fld F.OBS_SILT_CTL_FLUSH_MARK))

/-- Operating seconds counted since OBS_OP_HOURS and OBS_OP_SEC held their stored values (R512): they count while the internal reset is released. -/
def State.opTime (s : State) : Nat :=
  s.fld F.OBS_OP_SEC_SEC + if s.released then (s.clp.now - s.obs.opSince) / 10 ^ 9 else 0

/-- The operating hour (R512). -/
def State.opHour (s : State) : Nat := (s.fld F.OBS_OP_HOURS_HOURS + s.opTime / 3600) % 2 ^ 32

/-- Seconds within the operating hour (R512). -/
def State.opSec (s : State) : Nat := s.opTime % 3600

/-- A flush of the records buffered now starts (R513); it is kept for later while one runs, or before the scan of R512. Its records are read when
the flash port next takes work. -/
def State.flushAsk (s : State) : State :=
  if s.flag F.OBS_STAT_FLUSHING || !s.flag F.OBS_STAT_RESTORED then { s with obs := { s.obs with flushReq := true } }
  else
    { s with obs := { s.obs with flushReq := false, flushing := s.obs.bufCount, bufNext := none, unread := true } }.setFld
      F.OBS_STAT_FLUSHING 1

/-- The statistics of a code after a post (R508, R509). -/
def SiltCode.note (c : SiltCode) (value hour : Nat) : SiltCode :=
  let b := siltBin c.binBase value
  { c with
    count := Nat.min (2 ^ 32 - 1) (c.count + 1)
    min := if c.count = 0 then value else Nat.min c.min value
    max := if c.count = 0 then value else Nat.max c.max value
    firstHour := if c.count = 0 then hour else c.firstHour
    lastHour := hour
    bins := SMap.put c.bins b (Nat.min 65535 (SMap.getD c.bins b 0 + 1)) }

/-- The rate window moved to the present operating hour (R510). -/
def SiltCode.inHour (c : SiltCode) (hour : Nat) : SiltCode :=
  if c.window = hour then c else { c with window := hour, kept := 0 }

/-- What becomes of a post (R510, R513): a record with its SUPP, for an URGENT code or not; none, by the rate limit; none, for a full buffer. -/
inductive SiltFate where
  | kept (code value supp : Nat) (urgent : Bool)
  | suppressed
  | lost
  deriving DecidableEq, Repr

/-- The record of a post that is kept: its code, value and SUPP. -/
def SiltFate.record : SiltFate → Option (Nat × Nat × Nat)
  | .kept code value supp _ => some (code, value, supp)
  | _ => none

/-- What becomes of a cycle's posts in their order, with room for `room` records: the statistics always; a record unless the rate limit suppresses
it or the buffer is full (R508–R510, R513). -/
def siltFates (hour : Nat) : Nat → SMap SiltCode → List (Nat × Nat × Nat) → SMap SiltCode × List SiltFate
  | _, codes, [] => (codes, [])
  | room, codes, (_, code, value) :: ps =>
    let c := ((SMap.getD codes code {}).note value hour).inHour hour
    let keep := decide (c.rate = 0) || decide (c.kept < c.rate) || [1, 18, 274].contains code
    let (c, room, f) :=
      if keep = false then ({ c with supp := c.supp + 1 }, room, SiltFate.suppressed)
      else match room with
        | 0 => (c, 0, SiltFate.lost)
        | room + 1 => ({ c with kept := c.kept + 1, supp := 0 }, room, .kept code value c.supp (c.urgent.getD (urgentCodes.contains code)))
    let (codes, fs) := siltFates hour room (SMap.put codes code c) ps
    (codes, f :: fs)

/-- The posts of this cycle so far. -/
def State.siltTurn (s : State) : SiltTurn :=
  if s.obs.turn.cycle = s.cycle && !s.obs.turn.posts.isEmpty then s.obs.turn else { cycle := s.cycle, codes := s.obs.codes }

/-- The records of the posts so far keep their places whatever follows. -/
def State.siltSettle (s : State) : State := { s with obs := { s.obs with turn := {} } }

/-- The 32 bytes of a record kept now (R511). -/
def State.siltRecord (s : State) (seq : Nat) (r : Nat × Nat × Nat) : List Byte :=
  let sec := if s.flag F.CLP_STAT_FT_VALID then s.fullNs / 10 ^ 9 else 0
  let body := siltBody r.1 (s.fld F.GLB_RESET_COUNT_CYCLES) s.opHour s.opSec r.2.2 r.2.1 sec seq
  body ++ leBytes 4 (crc32c body)

/-- The records of this cycle stand behind the first `base` of the buffer, MEM 7, in order, their SEQ going on from `seq` (R511, R513, R516). -/
def State.siltWrite (s : State) (base seq : Nat) (rs : List (Nat × Nat × Nat)) : State :=
  rs.zipIdx.foldl (fun s e =>
    s.memWrites 7 (4 * ((s.obs.bufHead + base + e.2) % 2048))
      ((List.range 4).map fun k => ofLe (((s.siltRecord ((seq + 1 + e.2) % 2 ^ 32) e.1).drop (8 * k)).take 8))) s

/-- The buffer holds `n` records (R513). -/
def State.siltCount (s : State) (n : Nat) : State :=
  let since := if s.obs.bufCount = 0 then s.clp.now else s.obs.bufSince
  let next := if s.flag F.OBS_STAT_FLUSHING then some (s.obs.bufNext.getD s.clp.now) else none
  { s with obs := { s.obs with bufCount := n, bufSince := since, bufNext := next } }.setFld F.OBS_SILT_STAT_BUFFERED n

/-- Post an event to the Silt recorder (R507–R510, R513): among the posts of its cycle it stands by its rank (R516). A kept record enters the buffer;
an URGENT code and FLUSH_MARK start a flush. -/
def State.siltPost (s : State) (code value : Nat) (rank : Nat := 0) : State :=
  let u := s.siltTurn
  let first := u.posts.filter fun p => decide (p.1 ≤ rank)
  let posts := first ++ (rank, code, value % 2 ^ 32) :: u.posts.filter fun p => decide (rank < p.1)
  let base := s.obs.bufCount - u.kept
  let seq := (s.fld F.OBS_SILT_SEQ_SEQ + 2 ^ 32 - u.kept) % 2 ^ 32
  let (codes, fates) := siltFates s.opHour (2048 - base) u.codes posts
  let rs := fates.filterMap SiltFate.record
  let lost := (fates.filter fun f => f == .lost).length
  let s := { s with obs := { s.obs with codes := codes, turn := { u with posts := posts, kept := rs.length, lost := lost } } }.siltWrite base seq rs
  let s := s.on (decide (u.kept < rs.length)) fun s =>
    ((s.siltCount (base + rs.length)).setFld F.OBS_SILT_SEQ_SEQ ((seq + rs.length) % 2 ^ 32)).bump F.OBS_CNT_SILT_KEPT_COUNT
  let s := s.on (decide (u.lost < lost)) fun s =>
    ({ s with obs := { s.obs with lost := s.obs.lost + 1 } }.bump F.OBS_CNT_SILT_LOST_COUNT).raise F.OBS_EVT_SILT_OVERFLOW
  let s := s.on (decide (u.kept + u.lost = rs.length + lost)) fun s => s.bump F.OBS_CNT_SILT_SUPP_COUNT
  match fates[first.length]? with
  | some (.kept _ _ _ urgent) => s.on (urgent || decide (s.flushMark ≤ s.obs.bufCount)) State.flushAsk
  | _ => s

/-- An INTERNAL completion or result of block `b` posts code 16 × b with the block's REASON, 0 where it has none (R505). -/
def State.siltInternal (s : State) (b reason : Nat) : State := s.siltPost (16 * b) reason

/-! ## Reads and partial writes of memory words (R439–R442) -/

/-- What a read of a word gives its reader: good data, or an uncorrectable word with the data as read. -/
inductive WordRead where
  | good (v : Nat)
  | bad  (v : Nat)
  deriving DecidableEq, Repr

/-- The data read, good or bad. -/
def WordRead.val : WordRead → Nat
  | .good v => v
  | .bad v => v

/-- The word read was uncorrectable. -/
def WordRead.isBad : WordRead → Bool
  | .good _ => false
  | .bad _ => true

/-- The number of set bits of a 72-bit mask. -/
def weight72 (m : Nat) : Nat := ((List.range 72).filter fun k => m.testBit k).length

/-- A correction (R439): the corrected codeword is written back, counted and recorded. -/
def State.correct (s : State) (m w : Nat) : State :=
  ((((s.eccClear m w).bump F.MEM_CNT_CE_COUNT).raise F.MEM_EVT_CE).setFld F.MEM_LAST_CE_MEM m).setFld F.MEM_LAST_CE_WORD w

/-- POISON_MARK (R441): a fresh uncorrectable word is marked in place over its data as read, counted, recorded and posted. -/
def State.poisonMark (s : State) (m w : Nat) (mask : Nat) : State :=
  let s := (s.setMemWord m w (s.memWord m w ^^^ (mask % 2 ^ 64))).eccSet m w ⟨0, true⟩
  ((((s.bump F.MEM_CNT_UE_COUNT).raise F.MEM_EVT_UE).setFld F.MEM_LAST_UE_MEM m).setFld F.MEM_LAST_UE_WORD w).siltPost 257 m

/-- How a marked word decodes: 0 good, 1 correctable, 2 uncorrectable. Three or more flipped bits are free (R439). -/
def State.decodeWeight (s : State) (k : EccMark) : Nat :=
  if k.poisoned then 2
  else if weight72 k.mask ≤ 2 then weight72 k.mask
  else Config.eccDecode s.draw

/-- A memory has been initialised since the release of the internal reset: a read of one that has not waits until it is (R433). -/
def State.memReady (s : State) (m : Nat) : Bool := s.pwr.inited.contains m

/-- Every one of some memories has been initialised (R433). -/
def State.memsReady (s : State) (ms : List Nat) : Bool := ms.all s.memReady

/-- The memories that hold keys (R438). -/
def keyMems : List Nat := [2, 3, 4]

/-- An effect that reads memory `m`: it waits where it is until the memory is initialised (R433). -/
def State.whenReady (s : State) (m : Nat) (f : State → State) : State := if s.memReady m then f s else s

/-- A read of a word through the decoder (R439, R441). Flips that decode good have made a good codeword, and the word is its data from then on. -/
def State.memRead (s : State) (m w : Nat) : WordRead × State :=
  match s.eccOf m w with
  | none => (.good (s.memWord m w), s)
  | some k =>
    if k.poisoned then (.bad (s.memWord m w), s)
    else match s.decodeWeight k with
      | 0 =>
        let v := s.memWord m w ^^^ (k.mask % 2 ^ 64)
        (.good v, ({ s with draw := s.draw + 1 }.setMemWord m w v).eccClear m w)
      | 1 =>
        if weight72 k.mask = 1 then (.good (s.memWord m w), s.correct m w)
        else
          let (v, s) := s.fresh
          (.good v, (s.setMemWord m w v).correct m w)
      | _ =>
        let s := s.poisonMark m w k.mask
        (.bad (s.memWord m w), s)

/-- Reads of consecutive words: their data, whether any was uncorrectable, and the state after. -/
def State.memReads (s : State) (m : Nat) : Nat → Nat → List Nat × Bool × State
  | _, 0 => ([], false, s)
  | w, n + 1 =>
    let (r, s) := s.memRead m w
    let (vs, bad, s) := s.memReads m (w + 1) n
    (r.val :: vs, r.isBad || bad, s)

/-- Whether bytes [o, o + n) cover word `w` only in part. -/
def coversPart (o n w : Nat) : Bool := !(decide (o ≤ 8 * w) && decide (8 * w + 8 ≤ o + n))

/-- The words that bytes [o, o + n) touch. -/
def wordsOf (o n : Nat) : List Nat := if n = 0 then [] else (List.range ((o + n - 1) / 8 + 1 - o / 8)).map (o / 8 + ·)

/-- The check before a partial write (R442): each word covered in part is decoded; an uncorrectable one stops the write,
counts and sets WRITE_POISON. -/
def State.partialCheck (s : State) (m o n : Nat) : List Nat → Bool × State
  | [] => (false, s)
  | w :: ws =>
    let (bad, s) :=
      if coversPart o n w then
        let (r, s) := s.memRead m w
        if r.isBad then (true, (s.bump F.MEM_CNT_WRITE_POISON_COUNT).raise F.MEM_EVT_WRITE_POISON) else (false, s)
      else (false, s)
    let (bad', s) := s.partialCheck m o n ws
    (bad || bad', s)

/-- After the bytes of a write are merged, every touched word is a good codeword, and the flip-mask may apply (R442, R448). -/
def State.sealWords (s : State) (m : Nat) : List Nat → State
  | [] => s
  | w :: ws => ((s.eccClear m w).flipApply m w).sealWords m ws

/-- A functional write of bytes [o, o + n): nothing is written to any word it covers when one covered in part is
uncorrectable (R442, R444). True: the writer met a poisoned word. -/
def State.memStore (s : State) (m o : Nat) (bs : List Byte) : Bool × State :=
  let ws := wordsOf o bs.length
  let (bad, s) := s.partialCheck m o bs.length ws
  if bad then (true, s) else (false, (s.setMemBytes m o bs).sealWords m ws)

/-- A functional read of bytes [o, o + n): the bytes, whether a word met was uncorrectable, and the state after. -/
def State.memLoad (s : State) (m o n : Nat) : List Byte × Bool × State :=
  let ws := wordsOf o n
  let (vs, bad, s) := s.memReads m (o / 8) ws.length
  (((vs.flatMap (leBytes 8)).drop (o % 8)).take n, bad, s)

/-! ## Packet cells (R344–R346) -/

/-- The link entry of a cell; every cell is free at reset. -/
def State.link (s : State) (c : Nat) : Link := SMap.getD s.run.links c ⟨0, false, true⟩

/-- Set a cell's link entry. -/
def State.setLink (s : State) (c : Nat) (l : Link) : State :=
  { s with run := { s.run with links := SMap.put s.run.links c l } }

/-- The cells in use, in rising order. -/
def State.usedCells (s : State) : List Nat := (s.run.links.filter fun e => !e.2.free).map (·.1)

/-- Free cells (RUN_CELL_STAT). -/
def State.freeCells (s : State) : Nat := 65536 - s.usedCells.length

/-- The `k`-th number, counted from 0, that is not in a rising list. -/
def kthFree : List Nat → Nat → Nat
  | [], k => k
  | u :: us, k => if u ≤ k then kthFree us (k + 1) else k

/-- Take one free cell, whichever the device picks (R345). It becomes the LAST cell of a chain of its own; NEXT of a LAST
cell is meaningless, so it takes a free value. -/
def State.takeCell (s : State) : Nat × State :=
  let c := kthFree s.usedCells (Config.cellPick s.draw % s.freeCells)
  let (v, s) := s.fresh
  (c, s.setLink c ⟨v % 65536, true, false⟩)

/-- Take `n` cells linked in a chain, in chain order (R344, R345). The caller has judged that enough are free. -/
def State.takeCells (s : State) : Nat → List Nat × State
  | 0 => ([], s)
  | n + 1 =>
    let (c, s) := s.takeCell
    let (cs, s) := s.takeCells n
    match cs with
    | [] => ([c], s)
    | d :: _ => (c :: cs, s.setLink c ⟨d, false, false⟩)

/-- Cells that a frame of `len` bytes needs (R344). -/
def cellsFor (len : Nat) : Nat := (len + 255) / 256

/-- An allocation that leaves at least `floor` cells free; a refused one counts and sets ALLOC_FAIL (R345). -/
def State.allocAbove (s : State) (floor len : Nat) : Option (List Nat) × State :=
  if cellsFor len + floor ≤ s.freeCells then
    let (cs, s) := s.takeCells (cellsFor len)
    (some cs, s)
  else (none, (s.bump F.RUN_CNT_ALLOC_FAIL_COUNT).raise F.RUN_EVT_ALLOC_FAIL)

/-- An allocation of a rill, a wired port, Sluice, Spillway or another engine: any free cells (R345). -/
def State.alloc (s : State) (len : Nat) : Option (List Nat) × State := s.allocAbove 0 len

/-- An allocation of halloc or the host: at least HALLOC_FLOOR cells stay free (R345). -/
def State.allocFloor (s : State) (len : Nat) : Option (List Nat) × State := s.allocAbove (s.fld F.RUN_CELL_CTL_HALLOC_FLOOR) len

/-- The cells of a chain from its first to its LAST cell; `none` when it starts at or passes through a free cell (R555). -/
def State.chainWalk (s : State) : Nat → Nat → Option (List Nat)
  | 0, _ => none
  | n + 1, c =>
    let l := s.link c
    if l.free then none
    else if l.last then some [c]
    else (s.chainWalk n l.next).map (c :: ·)

/-- The cells of a chain. -/
def State.chain (s : State) (c : Nat) : Option (List Nat) := s.chainWalk 65536 c

/-- The cells of a chain that holds a frame of `len` bytes; `none` when it does not (R555). -/
def State.chainFor (s : State) (c len : Nat) : Option (List Nat) :=
  match s.chain c with
  | some cs => if cellsFor len ≤ cs.length then some cs else none
  | none => none

/-- A free of a cell that is already free (R346). -/
def State.doubleFree (s : State) (c : Nat) : State :=
  ((s.bump F.RUN_CNT_DOUBLE_FREE_COUNT).raise F.RUN_EVT_DOUBLE_FREE).siltPost 162 c

/-- Free a chain from its first cell to its LAST cell; a free cell met is a double free and ends the walk (R346). -/
def State.freeWalk (s : State) : Nat → Nat → State
  | 0, _ => s
  | n + 1, c =>
    let l := s.link c
    if l.free then s.doubleFree c
    else
      let (v, s) := s.fresh
      let s := s.setLink c ⟨v % 65536, false, true⟩
      if l.last then s else s.freeWalk n l.next

/-- Free a chain (R346). -/
def State.freeChain (s : State) (c : Nat) : State := s.freeWalk 65536 c

/-- Byte address in packet memory of frame offset `o` in a chain (R344). -/
def frameAddr (cs : List Nat) (o : Nat) : Nat := cs.getD (o / 256) 0 * 256 + o % 256

/-- Write a frame's bytes into a chain from offset `o`, a multiple of 8, as whole words, padded with zeros (R443); never outside the chain
(R555). -/
def State.writeFrame (s : State) (cs : List Nat) : Nat → List (List Byte) → State
  | _, [] => s
  | o, b :: bs => if cs.length ≤ o / 256 then s else (s.memWrite 0 (frameAddr cs o / 8) (ofLe b)).writeFrame cs (o + 8) bs

/-- The byte string cut into pieces of 8. -/
def chunks8 : List Byte → List (List Byte)
  | a :: b :: c :: d :: e :: f :: g :: h :: t => [a, b, c, d, e, f, g, h] :: chunks8 t
  | [] => []
  | l => [l]

/-- Write a frame's bytes into a chain from its start (R443). -/
def State.putFrame (s : State) (cs : List Nat) (bs : List Byte) : State := s.writeFrame cs 0 (chunks8 bs)

/-- Read the words of a frame from offset `o` (R344), never outside its chain (R555): data, whether any word was uncorrectable, the state
after. -/
def State.readWords (s : State) (cs : List Nat) : Nat → Nat → List Byte × Bool × State
  | _, 0 => ([], false, s)
  | o, n + 1 =>
    if cs.length ≤ o / 256 then ([], false, s) else
    let (r, s) := s.memRead 0 (frameAddr cs o / 8)
    let (bs, bad, s) := s.readWords cs (o + 8) n
    (leBytes 8 r.val ++ bs, r.isBad || bad, s)

/-- Read a frame of `len` bytes. -/
def State.getFrame (s : State) (cs : List Nat) (len : Nat) : List Byte × Bool × State :=
  let (bs, bad, s) := s.readWords cs 0 ((len + 7) / 8)
  (bs.take len, bad, s)

/-! ## Runnels (R330–R343) -/

/-- A runnel's engine state. -/
def State.runnel (s : State) (n : Nat) : Runnel := SMap.getD s.run.q n {}

/-- Set a runnel's engine state. -/
def State.setRunnel (s : State) (n : Nat) (r : Runnel) : State := { s with run := { s.run with q := SMap.put s.run.q n r } }

/-- The depth of a runnel in words (R330). -/
def State.runnelSize (s : State) (n : Nat) : Nat := 16 * (s.fld F.RUN_CFG_DSIZE n + 1)

/-- The record length of a runnel (R333). CLASS 3 is never enabled. -/
def State.recLen (s : State) (n : Nat) : Nat :=
  match s.fld F.RUN_CFG_CLASS n with
  | 0 => s.fld F.RUN_CFG_RECLEN n + 1
  | 1 => 4
  | _ => 8

/-- A runnel counts as enabled: EN is 1 and no discard by clearing EN runs (R332). -/
def State.runnelOn (s : State) (n : Nat) : Bool :=
  decide (n < 256) && s.flag F.RUN_CFG_EN n && !(s.runnel n).disabling

/-- Room for more words (R336). -/
def State.runnelRoom (s : State) (n : Nat) : Nat := s.runnelSize n - (s.runnel n).words.length

/-- The cycle of a runnel as it stands: what this cycle has recorded, or its beginning. -/
def State.runTurn (s : State) (n : Nat) : RunTurn :=
  let u : RunTurn := ⟨s.cycle, (s.runnel n).words.length, 0, s.reg .RUN_MARK n 0, s.reg .RUN_EVT_N n 0⟩
  match SMap.find? s.run.turns n with
  | some v => if v.cycle = s.cycle then v else u
  | none => u

/-- Record what a cycle has done to a runnel. -/
def State.setRunTurn (s : State) (n : Nat) (u : RunTurn) : State := { s with run := { s.run with turns := SMap.put s.run.turns n u } }

/-- One notice and its count at the end of a cycle that began with RUN_EVT_n at `was` and has crossed the mark or not (R341, R342). -/
def State.crossing (s : State) (notice count : Fld) (n : Nat) (was : Word) (crossed : Bool) : State :=
  let noticed := bits was.toNat notice.lo 1 == 1
  let k := bits was.toNat count.lo count.w
  if crossed then
    if noticed then (s.noteEvent notice n).setFld count (min 255 (k + 1)) n else s.raise notice n
  else if noticed then s.setFld count k n
  else s.on (s.flag notice n) fun s => s.retract notice n

/-- Watermark judgement at the end of the cycle, which has brought the depth from what it was at its beginning to what it is (R341–R343). -/
def State.judgeMarks (s : State) (n : Nat) : State :=
  let u := s.runTurn n
  let d := (s.runnel n).words.length
  let mark (f : Fld) : Nat := bits u.mark.toNat f.lo f.w
  let hi := mark F.RUN_MARK_HIGH_EN == 1 && decide (u.depth < mark F.RUN_MARK_HIGH) && decide (mark F.RUN_MARK_HIGH ≤ d)
  let lo := mark F.RUN_MARK_LOW_EN == 1 && decide (mark F.RUN_MARK_LOW < u.depth) && decide (d ≤ mark F.RUN_MARK_LOW)
  (s.crossing F.RUN_EVT_N_HIGH_NOTICE F.RUN_EVT_N_HIGH_CROSS n u.evt hi).crossing F.RUN_EVT_N_LOW_NOTICE F.RUN_EVT_N_LOW_CROSS n u.evt lo

/-- A word with its parity as its producer sets it (R338). -/
def parityOf (v : Word) : Bool := ((List.range 64).filter fun k => v.getLsbD k).length % 2 == 1

/-- A word a producer pushes. -/
def mkWord (v : Word) (poison : Bool := false) : RunWord := ⟨v, poison, parityOf v⟩

/-- A word with bad parity or a poison tag (R338). -/
def RunWord.isBad (w : RunWord) : Bool := w.poison || w.parity != parityOf w.val

/-- Words of producer `who` (an Ocell thread's TID, 200 the host, 255 an engine) land in a runnel that has room for them (R334, R341,
R499). -/
def State.land (s : State) (n : Nat) (ws : List RunWord) (who : Nat := 255) : State :=
  let r := s.runnel n
  let u := s.runTurn n
  let s := (s.setRunTurn n { u with landed := u.landed + ws.length }).setRunnel n { r with
    words := r.words ++ ws
    stamps := r.stamps ++ List.replicate ws.length (s.clp.now, who)
    pushPos := (r.pushPos + ws.length) % s.recLen n }
  (s.bump F.OBS_RUN_CNT_COUNT ws.length n 0).judgeMarks n

/-- LOST_PUSH (R332): a push to a runnel that is not enabled is discarded and counted. -/
def State.lostPush (s : State) (n : Nat) : State :=
  ((s.bump F.RUN_CNT_LOST_COUNT).raise F.RUN_EVT_LOST_PUSH).siltPost 161 n

/-- An engine's push of a group of words (R332, R334, R336): lost on a disabled runnel; waits behind earlier waiting pushes
or for want of room; otherwise lands. `req`: the requester whose table command it is the result of (R308). -/
def State.enginePush (s : State) (n : Nat) (ws : List RunWord) (req : Nat := 255) : State :=
  if !s.runnelOn n then s.lostPush n
  else
    let r := s.runnel n
    if r.waiting.isEmpty && decide (ws.length ≤ s.runnelRoom n) then s.land n ws
    else s.setRunnel n { r with waiting := r.waiting ++ [(req, ws)] }

/-- A host ring's push of a record (R334, R394): as an engine's, but the host's own, behind every engine. -/
def State.ringPush (s : State) (n : Nat) (ws : List RunWord) : State :=
  if !s.runnelOn n then s.lostPush n
  else
    let r := s.runnel n
    if r.waiting.isEmpty && r.ringWaits.isEmpty && decide (ws.length ≤ s.runnelRoom n) then s.land n ws 200
    else s.setRunnel n { r with ringWaits := r.ringWaits ++ [ws] }

/-- Words of the record the consumer has begun that are still to pop (R339). -/
def State.recordRest (s : State) (n : Nat) : Nat := (s.recLen n - (s.runnel n).popPos) % s.recLen n

/-- Words a consumer may pop at this moment: all, or during a flush only the rest of the record begun (R339). -/
def State.poppable (s : State) (n : Nat) : Nat :=
  let r := s.runnel n
  match r.flushEnd with
  | none => r.words.length
  | some _ => min r.words.length (s.recordRest n)

/-- Take the oldest `k` words out of a runnel that can give them (R334, R339). -/
def State.unqueue (s : State) (n k : Nat) : List RunWord × State :=
  let r := s.runnel n
  let s' := (s.setRunTurn n (s.runTurn n)).setRunnel n { r with
    words := r.words.drop k
    stamps := r.stamps.drop k
    popPos := (r.popPos + k) % s.recLen n
    flushEnd := r.flushEnd.map (· - k) }
  (r.words.take k, s'.judgeMarks n)

/-- Count bad words of a runnel (R338). -/
def State.noteBad (s : State) (n k : Nat) : State :=
  s.on (decide (0 < k)) fun s => (s.bump F.RUN_CNT_BAD_WORD_COUNT k).raise F.RUN_EVT_N_BAD_WORD n

/-- Pop the oldest `k` words (the caller has judged `poppable`): counted as popped, bad words noted (R338, R499). -/
def State.popWords (s : State) (n k : Nat) : List RunWord × State :=
  let (ws, s) := s.unqueue n k
  (ws, (s.bump F.OBS_RUN_CNT_COUNT k n 1).noteBad n (ws.filter RunWord.isBad).length)

end Sys2Proof.Machine
end

