-- ==== Sys2Proof/Machine/FlashOps.lean ====
section
/-! DEFINITION. The flash port's operations (R402–R406): the device's bytes, the layout's access rights, the order of work; and what the Silt
recorder sends to it (R513, R514). -/

namespace Sys2Proof.Machine

/-- What an erased byte of the flash device reads as. -/
def flashErased : Byte := 0xFF

/-- A byte of the flash device. -/
def State.flashByte (s : State) (a : Nat) : Byte := SMap.getD s.fls.bytes a flashErased

/-- Bytes of the flash device. -/
def State.flashBytes (s : State) (a n : Nat) : List Byte := (List.range n).map fun k => s.flashByte (a + k)

/-- Set a byte of the flash device. -/
def State.setFlashByte (s : State) (a : Nat) (b : Byte) : State :=
  { s with fls := { s.fls with bytes := SMap.putD s.fls.bytes a b flashErased } }

/-- A program clears bits: each byte becomes the AND of what it holds and the data. -/
def State.flashProgram (s : State) : Nat → List Byte → State
  | _, [] => s
  | a, b :: bs => (s.setFlashByte a (s.flashByte a &&& b)).flashProgram (a + 1) bs

/-- An erase of the bytes [a, a + n). -/
def State.flashErase (s : State) (a n : Nat) : State :=
  { s with fls := { s.fls with bytes := s.fls.bytes.filter fun e => decide (e.1 < a) || decide (a + n ≤ e.1) } }

/-- The size of the flash device in bytes (DENSITY of FLS_STAT): while MODE is 0, that of DENSITY's reset value (DESIGN CHOICE, log entry 158). -/
def State.flashSize (s : State) : Nat := 2 ^ 27 * 2 ^ s.fld F.FLS_STAT_DENSITY

/-- The regions of R403: first address, first address after, read by all, programmed by the Silt recorder, by Jomuter, by all. -/
def flashRegions : List (Nat × Nat × Bool × Bool × Bool × Bool) :=
  [(0x00000000, 0x00100000, true, false, true, false), (0x00100000, 0x00900000, false, false, true, false),
   (0x00900000, 0x00D00000, true, true, true, false), (0x00D00000, 0x00F00000, true, false, true, false),
   (0x00F00000, 0x01000000, true, false, false, false), (0x01000000, 0x03000000, true, false, true, false),
   (0x03000000, 0x05000000, true, false, true, false), (0x05000000, 0x40000000, true, false, true, true)]

/-- R403 allows an access of bytes [a, a + n) to requester class `who` (0 Silt recorder, 1 Jomuter, 2 all others), as a read or as a
program or erase. -/
def flashAllowed (who a n : Nat) (isRead : Bool) : Bool :=
  flashRegions.all fun r =>
    let (lo, hi, rdAll, wrSilt, wrJ, wrAll) := r
    decide (a + n ≤ lo) || decide (hi ≤ a) ||
      (if isRead then rdAll || who == 1
       else wrAll || (who == 1 && wrJ) || (who == 0 && wrSilt))

/-- The power-fail flush has started and is not complete: nothing else is served (R406). -/
def State.flushHolds (s : State) : Bool := s.pwr.phase == .failing && s.flag F.OBS_STAT_FLUSHING

/-- The suspended erase goes on; without one the port is idle. -/
def State.flsResume (s : State) : State :=
  match s.fls.suspended with
  | some w => ({ s with fls := { s.fls with busy := some w, suspended := none, startedAt := none } }.setFld F.FLS_STAT_OP_BUSY 1).setFld
      F.FLS_STAT_SUSPENDED 0
  | none => s.setFld F.FLS_STAT_OP_BUSY 0

/-- The port starts the waiting work that the order of R406 puts first, if it is ready and idle: a suspended erase goes on before any but the
power-fail flush, and after it. -/
def State.flsServe (s : State) : State :=
  if s.fls.busy.isSome || s.fld F.FLS_STAT_MODE == 0 then s
  else
    let ready := s.fls.waiting.filter fun w => w.src == 0 || !s.flushHolds
    match (ready.map fun w => w.src).min? with
    | none => if s.flushHolds then s.setFld F.FLS_STAT_OP_BUSY 0 else s.flsResume
    | some r =>
      if s.fls.suspended.isSome && r != 0 then s.flsResume
      else match ready.find? fun w => w.src == r with
        | some w =>
          { s with fls := { s.fls with busy := some w, waiting := s.fls.waiting.erase w, startedAt := some s.clp.now } }.setFld
            F.FLS_STAT_OP_BUSY 1
        | none => s

/-- A running erase is suspended (R406). -/
def State.suspendErase (s : State) : State :=
  match s.fls.busy with
  | some b =>
    if b.kind = FlsKind.erase4k ∨ b.kind = FlsKind.erase64k then
      { s with fls := { s.fls with busy := none, suspended := some b } }.setFld F.FLS_STAT_SUSPENDED 1
    else s
  | none => s

/-- An operation that the port took up in this cycle gives way to a request of the same cycle that the order of R406 puts before it. -/
def State.flsYield (s : State) (src : Nat) : State :=
  match s.fls.busy with
  | some b =>
    if s.fls.startedAt = some s.clp.now ∧ src < b.src then
      { s with fls := { s.fls with busy := none, waiting := b :: s.fls.waiting, startedAt := none } }
    else s
  | none => s

/-- Work joins the queue; a power-fail flush suspends a running erase (R406). -/
def State.flsQueue (s : State) (w : FlsOp) : State :=
  let s := s.flsYield w.src
  let s := { s with fls := { s.fls with waiting := s.fls.waiting ++ [w] } }
  s.on (decide (w.src = 0)) State.suspendErase

/-! ## Ring layout (R514) -/

/-- The address of a sector of the ring. -/
def siltSector (k : Nat) : Nat := 0x00900000 + 4096 * (k % 1024)

/-- The write point: its sector and its next slot. -/
def State.siltAt (s : State) : Nat × Nat := (s.fld F.OBS_SILT_STAT_SECTOR, s.fld F.OBS_SILT_STAT_SLOT)

/-- Move the write point. -/
def State.setSiltAt (s : State) (sector slot : Nat) : State :=
  (s.setFld F.OBS_SILT_STAT_SECTOR sector).setFld F.OBS_SILT_STAT_SLOT slot

/-- A sector's header (R514); its reserved bytes are not stated. -/
def State.siltHeader (s : State) (seq : Nat) : List Byte × State :=
  let (a, s) := s.fresh
  let (b, s) := s.fresh
  let (c, s) := s.fresh
  let body := [0x47, 0x4C, 0x53, 0x52] ++ leBytes 4 seq ++ leBytes 2 (s.fld F.GLB_RESET_COUNT_CYCLES) ++
    leBytes 8 a ++ leBytes 8 b ++ leBytes 2 c
  (body ++ leBytes 4 (crc32c body), s)

/-- Records laid out from a sector and slot on: 32-byte pieces with their addresses, a header before slot 0 of a sector. -/
def State.siltLayout (s : State) : Nat → Nat → Nat → List (List Byte) → List (Nat × List Byte) × State
  | _, _, _, [] => ([], s)
  | sector, slot, seq, r :: rs =>
    let (h, s) := if slot = 0 then s.siltHeader seq else ([], s)
    let here := (siltSector sector + 32 + 32 * slot, r)
    let (rest, s) := if slot = 126 then s.siltLayout ((sector + 1) % 1024) 0 ((seq + 1) % 2 ^ 32) rs
      else s.siltLayout sector (slot + 1) seq rs
    ((if slot = 0 then [(siltSector sector, h), here] else [here]) ++ rest, s)

/-- Adjoining pieces of one 256-byte page joined into one program. -/
def joinPages : List (Nat × List Byte) → List (Nat × List Byte)
  | [] => []
  | (a, x) :: t =>
    match joinPages t with
    | (b, y) :: u => if a + x.length = b ∧ a / 256 = b / 256 then (a, x ++ y) :: u else (a, x) :: (b, y) :: u
    | [] => [(a, x)]

/-- Read `n` records of the buffer from a slot on; one with an uncorrectable word is lost and counted (R444, R513). -/
def State.siltRecords (s : State) : Nat → Nat → List (List Byte) × State
  | _, 0 => ([], s)
  | slot, n + 1 =>
    let (vs, bad, s) := s.memReads 7 (4 * (slot % 2048)) 4
    let s := if bad then
        (({ s with obs := { s.obs with lost := s.obs.lost + 1 } }.bump F.OBS_CNT_SILT_LOST_COUNT).bump F.MEM_CNT_DROP_COUNT)
      else s
    let (rs, s) := s.siltRecords (slot + 1) n
    (if bad then rs else (vs.flatMap (leBytes 8)) :: rs, s)

/-- Programs of records from the write point on join the queue, for the routine flush (3) or the power-fail flush (0). -/
def State.siltSubmit (s : State) (src : Nat) (rs : List (List Byte)) : State :=
  let (ps, s) := s.siltLayout s.siltAt.1 s.siltAt.2 s.obs.sectorSeq rs
  (joinPages ps).foldl (fun s p => s.flsQueue { src := src, kind := .program, addr := p.1, data := p.2 }) s

/-- The records of a flush that has started are read, and their programs join the queue (R513, R515). -/
def State.siltLoad (s : State) : State :=
  if s.obs.unread then
    let (rs, s) := { s with obs := { s.obs with unread := false } }.siltSettle.siltRecords s.obs.bufHead s.obs.flushing
    s.siltSubmit (if s.pwr.phase = .failing then 0 else 3) rs
  else s

/-- Work comes to the port, behind a flush that has started, and the port serves what is first. -/
def State.flsSubmit (s : State) (w : FlsOp) : State := (s.siltLoad.flsQueue w).flsServe

/-- The running operation ends, and the port serves the next. -/
def State.flsEnd (s : State) : State := { s with fls := { s.fls with busy := none } }.flsServe

/-- What a running program or erase does to the device. -/
def State.flsEffect (s : State) (w : FlsOp) : State :=
  match w.kind with
  | .read => s
  | .program => s.flashProgram w.addr w.data
  | .erase4k => s.flashErase w.addr 4096
  | .erase64k => s.flashErase w.addr 65536

end Sys2Proof.Machine
end

