-- ==== Sys2Proof/Machine/Bch.lean ====
section
/-! DEFINITION. The binary BCH(255, 131) code of R228: GF(2⁸) with x⁸ + x⁴ + x³ + x² + 1, designed distance 37, systematic with the message
in the high-order positions. A word is a number whose bit j is the coefficient of x^j. -/

namespace Sys2Proof.Machine

/-- Multiplication by x in the field. -/
def gfX (a : Nat) : Nat := if a < 128 then 2 * a else (2 * a) ^^^ 0x11D

/-- Multiplication in the field, over the low `n` bits of `b`. -/
def gfMulN : Nat → Nat → Nat → Nat
  | 0, _, _ => 0
  | n + 1, a, b => (if b % 2 = 1 then a else 0) ^^^ gfMulN n (gfX a) (b / 2)

/-- Multiplication in the field. -/
def gfMul (a b : Nat) : Nat := gfMulN 8 a b

/-- α^n. -/
def gfExp : Nat → Nat
  | 0 => 1
  | n + 1 => gfX (gfExp n)

/-- Powers α^0 to α^254. -/
def gfPowers : List Nat := (List.range 254).foldl (fun l _ => l ++ [gfX (l.getLastD 1)]) [1]

/-- The inverse of an element: its 254th power. -/
def gfInv (a : Nat) : Nat :=
  let a2 := gfMul a a
  let a4 := gfMul a2 a2
  let a8 := gfMul a4 a4
  let a16 := gfMul a8 a8
  let a32 := gfMul a16 a16
  let a64 := gfMul a32 a32
  let a128 := gfMul a64 a64
  gfMul a128 (gfMul a64 (gfMul a32 (gfMul a16 (gfMul a8 (gfMul a4 a2)))))

/-- The value of a polynomial, lowest coefficient first, at an element. -/
def gfEval (p : List Nat) (x : Nat) : Nat := p.reverse.foldl (fun acc c => gfMul acc x ^^^ c) 0

/-- A polynomial times (x + r). -/
def gfTimesRoot (p : List Nat) (r : Nat) : List Nat :=
  List.zipWith (· ^^^ ·) (0 :: p) (p.map (gfMul r) ++ [0])

/-- The exponents of the roots of the generator: the cyclotomic cosets of 1 to 36. -/
def bchRoots : List Nat :=
  (List.range 255).filter fun i => (List.range 8).any fun k => decide (1 ≤ i * 2 ^ k % 255) && decide (i * 2 ^ k % 255 ≤ 36)

/-- The generator polynomial as a number: the minimal polynomials of α to α³⁶. -/
def bchGen : Nat :=
  let p := bchRoots.foldl (fun p i => gfTimesRoot p (gfPowers.getD i 0)) [1]
  p.reverse.foldl (fun acc c => 2 * acc + c) 0

/-- The remainder of a word of `n` more bits by the generator, of degree 124. -/
def bchRem (g : Nat) : Nat → Nat → Nat
  | 0, v => v
  | n + 1, v => bchRem g n (if v.testBit (124 + n) then v ^^^ (g * 2 ^ n) else v)

/-- The codeword of a 131-bit message. -/
def bchEncode (m : Nat) : Nat :=
  let hi := m % 2 ^ 131 * 2 ^ 124
  hi + bchRem bchGen 131 hi

/-- The syndrome S_k of a word: its value at α^k. -/
def bchSyndrome (c k : Nat) : Nat :=
  (List.range 255).foldl (fun acc j => if c.testBit j then acc ^^^ gfPowers.getD (j * k % 255) 0 else acc) 0

/-- The state of the Berlekamp–Massey iteration: the connection polynomial and the saved one, its discrepancy, the length and the gap. -/
structure Bm where
  c : List Nat
  b : List Nat
  d : Nat
  l : Nat
  m : Nat

/-- The sum of two polynomials. -/
def polyAdd : List Nat → List Nat → List Nat
  | [], q => q
  | p, [] => p
  | a :: p, b :: q => (a ^^^ b) :: polyAdd p q

/-- One step of Berlekamp–Massey on syndrome number `n` (from 0). -/
def bmStep (syn : List Nat) (st : Bm) (n : Nat) : Bm :=
  let d := (List.range (st.l + 1)).foldl (fun acc i => if i ≤ n then acc ^^^ gfMul (st.c.getD i 0) (syn.getD (n - i) 0) else acc) 0
  if d = 0 then { st with m := st.m + 1 }
  else
    let k := gfMul d (gfInv st.d)
    let c := polyAdd st.c (List.replicate st.m 0 ++ st.b.map (gfMul k))
    if 2 * st.l ≤ n then { c := c, b := st.c, d := d, l := n + 1 - st.l, m := 1 } else { st with c := c, m := st.m + 1 }

/-- Bounded-distance decoding of a word: the message and the number of errors corrected, at most 18; none where it fails (R228). -/
def bchDecode (c : Nat) : Option (Nat × Nat) :=
  let syn := (List.range 36).map fun k => bchSyndrome c (k + 1)
  if syn.all (· == 0) then some (c / 2 ^ 124, 0)
  else
    let st := (List.range 36).foldl (bmStep syn) ⟨[1], [1], 1, 0, 1⟩
    let locs := (List.range 255).filter fun j => gfEval st.c (gfPowers.getD ((255 - j) % 255) 0) == 0
    let fixed := locs.foldl (fun c j => c ^^^ 2 ^ j) c
    if locs.length = st.l ∧ st.l ≤ 18 ∧ ((List.range 36).all fun k => bchSyndrome fixed (k + 1) == 0) = true then
      some (fixed / 2 ^ 124, st.l)
    else none

end Sys2Proof.Machine
end

