-- ==== Sys2Proof/Machine/RadioOps.lean ====
section
/-! DEFINITION. Operations shared by the receive and the transmit side: PHY modes (R29, R31, R59, R121, R554), chain requests
and states (R22, R55–R58), rill restart and the closing of frames (R42, R52, R53, R61), blanking (R95) and FEM_LNA_n (R91). -/

namespace Sys2Proof.Machine

/-! ## PHY modes -/

/-- The bit rate of an MR-FSK RATE code in bit/s. -/
def fskRate (r : Nat) : Nat := [50000, 100000, 150000, 200000, 300000, 400000].getD r 0

/-- The fields of a PHY mode entry are valid at enable: TYPE 1–4 and the values the field table admits (R59, R77). Any other entry is
refused with the code of an invalid TYPE (DESIGN CHOICE, log entry 103). -/
def State.phyValid (s : State) (m : Nat) : Bool :=
  let rate := s.fld F.PLM_PHY_MODE_RATE m
  match s.fld F.PLM_PHY_MODE_TYPE m with
  | 1 =>
    let h := s.fld F.PLM_PHY_MODE_MOD_INDEX m
    decide (rate ≤ 5) && decide (16 ≤ h) && decide (h ≤ 64) && s.fld F.PLM_PHY_MODE_FEC m != 3
  | 2 => decide (rate ≤ 2)
  | 3 => decide (1 ≤ rate) && decide (rate ≤ 4)
  | 4 => rate == 0
  | _ => false

/-- The minimum rill bandwidth of a PHY mode in Hz (R31). For MR-FSK: Rs × (1 + h × (M − 1)) rounded up to 100 kHz. -/
def State.phyMinBw (s : State) (m : Nat) : Nat :=
  let rate := s.fld F.PLM_PHY_MODE_RATE m
  match s.fld F.PLM_PHY_MODE_TYPE m with
  | 1 =>
    let h := s.fld F.PLM_PHY_MODE_MOD_INDEX m
    let four := s.flag F.PLM_PHY_MODE_ORDER m
    let rs := if four then fskRate rate / 2 else fskRate rate
    let x64 := rs * (64 + h * (if four then 3 else 1))
    (x64 + 6400000 - 1) / 6400000 * 100000
  | 2 => [200000, 1200000, 2400000].getD rate 0
  | 3 => [0, 1200000, 800000, 400000, 200000].getD rate 0
  | 4 => 2400000
  | _ => 0

/-- The time of `k` symbols of a PHY mode in ns: for MR-FSK at the symbol rate (R31), for the other PHYs the PHY standard's, which stands
free. -/
def State.symbolsNs (s : State) (m k : Nat) : Nat :=
  if s.fld F.PLM_PHY_MODE_TYPE m = 1 then
    let r := fskRate (s.fld F.PLM_PHY_MODE_RATE m)
    k * 10 ^ 9 / (if s.flag F.PLM_PHY_MODE_ORDER m then r / 2 else r)
  else Config.symbolTimeNs (s.reg .PLM_PHY_MODE m 0).toNat k

/-- The MCS values that IEEE 802.15.4-2020, with the rates up to 2.4 Mb/s that it took in, permits for an MR-OFDM option (R29, R77; PRESUMED,
log entry 21). -/
def ofdmMcsOk (opt mcs : Nat) : Bool :=
  match opt with
  | 1 => decide (mcs ≤ 6)
  | 2 => decide (mcs ≤ 6)
  | 3 => decide (1 ≤ mcs) && decide (mcs ≤ 6)
  | 4 => decide (2 ≤ mcs) && decide (mcs ≤ 6)
  | _ => false

/-- Bits a frame of `len` PSDU bytes sends in an MR-FSK mode, counted at the bit rate: 8 octets of preamble, 2 of SFD, then the
2-octet PHR and the PSDU, coded at rate 1/2 with tail and pad where FEC is 1 or 2 (R121, R554). -/
def State.fskBits (s : State) (m len : Nat) : Nat :=
  let fec := s.fld F.PLM_PHY_MODE_FEC m
  if fec = 1 ∨ fec = 2 then 80 + 32 + 16 * len + 16 else 80 + 16 + 8 * len

/-- The time from RF start to last RF of a frame in ns (R121). For MR-FSK it follows from R554 and the bit rate; the symbol
counts of the other PHYs are the PHY standard's and stand free. -/
def State.airNs (s : State) (m mcs len : Nat) : Nat :=
  if s.fld F.PLM_PHY_MODE_TYPE m = 1 then
    let r := fskRate (s.fld F.PLM_PHY_MODE_RATE m)
    (s.fskBits m len * 10 ^ 9 + r - 1) / r
  else Config.airTimeNs (s.reg .PLM_PHY_MODE m 0).toNat mcs len

/-- Air time A in µs, rounded up (R121). -/
def State.airUs (s : State) (m mcs len : Nat) : Nat :=
  if s.fld F.PLM_PHY_MODE_TYPE m = 1 then
    let r := fskRate (s.fld F.PLM_PHY_MODE_RATE m)
    (s.fskBits m len * 10 ^ 6 + r - 1) / r
  else (s.airNs m mcs len + 999) / 1000

/-- FCS bytes of a received frame: 4 only for MR-FSK whose PHR says so (R43). -/
def State.rxFcsLen (s : State) (m : Nat) (fcs32 : Bool) : Nat :=
  if s.fld F.PLM_PHY_MODE_TYPE m = 1 && fcs32 then 4 else 2

/-- The FCS over a MAC frame without its FCS: CRC-16, or CRC-32 with fields shorter than 4 octets padded with zeros. -/
def fcsOf (n : Nat) (bs : List Byte) : List Byte :=
  if n = 4 then leBytes 4 (crc32 (if bs.length < 4 then bs ++ List.replicate (4 - bs.length) 0 else bs))
  else leBytes 2 (crc16Fcs bs)

/-- The ASN field of a completion for which no ASN holds (R48). -/
def noAsn : Nat := 0xFFFFFFFFFF

/-- The ASN of an instant of the mapping that has ended, while it held (R48). -/
def State.asnBefore (s : State) (t : Nat) : Nat :=
  match s.clp.asnPast with
  | some (lo, hi, t0, a0, len) => if lo ≤ t ∧ t < hi then (a0 + (t - t0) / len) % 2 ^ 40 else noAsn
  | none => noAsn

/-- The ASN of the slot that contains an instant `t` of full time in ns, all ones where no mapping holds at `t` (R47, R48). -/
def State.asnOf (s : State) (t : Nat) : Nat :=
  if s.flag F.CLP_STAT_ARMED && decide ((if s.asnValid then s.clp.asnFrom else s.anchorNs) ≤ t) then s.asnAt t else s.asnBefore t

/-! ## Chains and rills -/

/-- One chain's receive side. -/
def State.plmChain (s : State) (j : Nat) : PlmChain := SMap.getD s.plm.chains j {}

/-- Set one chain's receive side. -/
def State.setPlmChain (s : State) (j : Nat) (c : PlmChain) : State :=
  { s with plm := { s.plm with chains := SMap.put s.plm.chains j c } }

/-- One rill. -/
def State.rill (s : State) (j n : Nat) : Rill := SMap.getD s.plm.rills (64 * j + n) {}

/-- Set one rill. -/
def State.setRill (s : State) (j n : Nat) (r : Rill) : State :=
  { s with plm := { s.plm with rills := SMap.put s.plm.rills (64 * j + n) r } }

/-- One chain's transmit side. -/
def State.tx (s : State) (j : Nat) : TxfChain := SMap.getD s.txf.chains j {}

/-- Set one chain's transmit side. -/
def State.setTx (s : State) (j : Nat) (c : TxfChain) : State :=
  { s with txf := { s.txf with chains := SMap.put s.txf.chains j c } }

/-- A receive or transmit window centre that the device accepts (R22, R67). -/
def centreOk (khz : Nat) : Bool := decide (380000 ≤ khz) && decide (khz ≤ 7200000)

/-- The state asked of a chain: the higher of TARGET (3 asks for none) and the wake schedule (R55). -/
def State.chainAsked (s : State) (j : Nat) : Nat :=
  let t := s.fld F.PLM_CHAIN_CTL_TARGET j
  max (if t = 3 then 0 else t) (if (s.plmChain j).wake then 2 else 0)

/-- A chain's STATE (0 Parked, 1 Primed, 2 Listening). -/
def State.chainState (s : State) (j : Nat) : Nat := s.fld F.PLM_CHAIN_STAT_STATE j

/-- A chain is blanked while any chain's blanking interval names it (R95). -/
def State.blanked (s : State) (j : Nat) : Bool :=
  (List.range 16).any fun i => (s.tx i).blanks.any fun b => b.mask.testBit j

/-- LNA_EN as FEM_LNA_n takes it: a frame past its commit point keeps the value of that point until its pins are done (R94). -/
def State.lnaEn (s : State) (j : Nat) : Bool :=
  let live := s.flag F.TXF_FEM_CTL_LNA_EN j
  match (s.tx j).lnaHold with
  | some (v, none) => v
  | some (v, some t) => if t = s.clp.now then v else live
  | none => live

/-- FEM_LNA_n is active: LNA_EN is 1, the receive side is Primed or Listening, and FEM_TXSW_n's widened interval does not run (R91). -/
def State.lnaOn (s : State) (j : Nat) : Bool := s.lnaEn j && decide (1 ≤ s.chainState j) && (s.tx j).lnaFree

/-- A change of STATE sets STATE_CHANGE (R58). -/
def State.setChainState (s : State) (j v : Nat) : State :=
  (s.setFld F.PLM_CHAIN_STAT_STATE v j).raise F.PLM_EVT_STATE_CHANGE j

/-- A request that this cycle gave up (R63). -/
def State.lostNow (s : State) (j : Nat) : Option (Option Nat) :=
  match (s.plmChain j).lost with
  | some (t, p) => if t = s.clp.now then some p else none
  | none => none

/-- After a change of what a chain is asked for: a Parked chain with a valid centre starts (R56), one with an invalid centre
stays Parked, whatever start was under way, and sets WINDOW_BAD (R22); a start no longer asked for ends, unless it is asked for again in the
same cycle (R63). A start that the wake fabric asks for counts (R419). -/
def State.chainAsk (s : State) (j : Nat) : State :=
  let c := s.plmChain j
  let asked := s.chainAsked j
  match s.chainState j with
  | 0 =>
    let s := s.setPlmChain j { c with listen := asked == 2 }
    if asked = 0 then
      let gone := if c.primedAt.isSome then some (s.clp.now, c.primedAt) else c.lost
      s.setPlmChain j { s.plmChain j with primedAt := none, lost := gone }
    else if !centreOk (s.fld F.PLM_WINDOW_CENTRE_KHZ j) then
      (s.setPlmChain j { s.plmChain j with primedAt := none }).raise F.PLM_EVT_WINDOW_BAD j
    else if c.primedAt.isSome then s
    else if ((s.lostNow j).getD none).isSome then s.setPlmChain j { s.plmChain j with primedAt := (s.lostNow j).getD none }
    else
      let t := s.clp.now + 56000
      (s.setPlmChain j { s.plmChain j with primedAt := some t, listenAt := t + 4000 }).on c.wake
        fun s => s.bump F.PWR_CNT_CHAIN_WAKE_COUNT
  | 1 =>
    s.setPlmChain j { c with
      listen := asked == 2
      listenAt := if asked = 2 ∧ c.listen = false ∧ s.lostNow j = none then s.clp.now + 4000 else c.listenAt
      lost := if asked < 2 ∧ c.listen = true then some (s.clp.now, none) else c.lost }
  | _ => s.setPlmChain j { c with listen := asked == 2 }

/-- A rill's STATE: 0 off, 1 sniffing, 2 claimed, 3 receiving. -/
def State.rillState (s : State) (j n : Nat) : Nat := s.fld F.PLM_RILL_STAT_STATE j n

/-- The detectors of a rill restart with no state kept, if it is enabled, its chain Listens, it is not blanked and no power-fail sequence
runs; otherwise the rill is off (R34, R38, R53, R428). MODE_IDX and AER go on reading as the last claim left them (DESIGN CHOICE, log entry
134). -/
def State.rillRestart (s : State) (j n : Nat) : State :=
  let go := s.flag F.PLM_RILL_CFG_EN j n && s.chainState j == 2 && !s.blanked j && s.pwr.phase != .failing
  (s.setRill j n { aerMode := s.fld F.PLM_CHAIN_CTL_AER_MODE j, claim := none, cut := (s.rill j n).cut }).setFld F.PLM_RILL_STAT_STATE
    (if go then 1 else 0) j n

/-- Apply an operation to the rill numbers 0–63 in turn. -/
def State.forRills (s : State) (f : State → Nat → State) : State := (List.range 64).foldl f s

/-- Rills of a chain with a claim or an accepted frame (RILLS_BUSY). -/
def State.rillsBusy (s : State) (j : Nat) : Nat := ((List.range 64).filter fun n => decide (2 ≤ s.rillState j n)).length

/-- Rills of a chain with EN set (RILLS_EN). -/
def State.rillsEn (s : State) (j : Nat) : Nat := ((List.range 64).filter fun n => s.flag F.PLM_RILL_CFG_EN j n).length

/-- A frame in Sluice's list. -/
def State.rx (s : State) (id : Nat) : Option RxFrame := SMap.find? s.slc.rx id

/-- Set a frame in Sluice's list. -/
def State.setRx (s : State) (id : Nat) (f : RxFrame) : State :=
  { s with slc := { s.slc with rx := SMap.put s.slc.rx id f } }

/-- A place in the order of issue of Grotto's jobs (R248). -/
def State.newJob (s : State) : Nat × State := (s.txf.jobSeq, { s with txf := { s.txf with jobSeq := s.txf.jobSeq + 1 } })

/-- The rill closes its accepted frame to Sluice (R42, R44, R52): the frame counts, and the rill starts afresh. -/
def State.closeRx (s : State) (j n : Nat) (how : RxClose) : State :=
  match (s.rill j n).claim with
  | some c =>
    match c.frame with
    | some id =>
      match s.rx id with
      | some f =>
        let (q, s) := s.newJob
        ((s.setRx id { f with closed := some how, endSeq := q }).bump F.PLM_RILL_FRAMES_COUNT 1 j n).rillRestart j n
      | none => s.rillRestart j n
    | none => s.rillRestart j n
  | none => s.rillRestart j n

/-- The frame that a rill is receiving. -/
def State.rillFrame (s : State) (j n : Nat) : Option (Nat × RxFrame) :=
  match (s.rill j n).claim with
  | some c =>
    match c.frame with
    | some id => (s.rx id).map (id, ·)
    | none => none
  | none => none

/-- The FCS at the end of a frame's bytes matches (R43). -/
def RxFrame.fcsOk (f : RxFrame) : Bool :=
  decide (f.fcsLen ≤ f.bytes.length) &&
    f.bytes.drop (f.bytes.length - f.fcsLen) == fcsOf f.fcsLen (f.bytes.take (f.bytes.length - f.fcsLen))

/-- The rill closes a frame whose last FCS byte has ended with its FCS result (R42, R43). -/
def State.endRx (s : State) (j n : Nat) (f : RxFrame) : State :=
  if f.fcsOk then s.closeRx j n .ok else (s.closeRx j n .fcsFail).bump F.PLM_CNT_FCS_FAIL_COUNT 1 j

/-- An accepted frame closes BLANKED and counts (R52); what takes that back stays with the rill (R63). -/
def State.cutRx (s : State) (j n id : Nat) : State :=
  let moved := decide (s.fld F.PLM_CNT_BLANKED_COUNT j < 0xFFFFFFFF)
  let s := (s.closeRx j n .blanked).bump F.PLM_CNT_BLANKED_COUNT 1 j
  s.setRill j n { s.rill j n with cut := some (s.clp.now, id, moved) }

/-- What a blanking interval does to one rill (R52, R63): an accepted frame closes BLANKED, unless its last FCS byte has ended; a claim is
released, sniffing stops. -/
def State.blankRill (s : State) (j n : Nat) : State :=
  match s.rillState j n with
  | 3 =>
    match s.rillFrame j n with
    | some (id, f) => if f.bytes.length = f.len then s.endRx j n f else s.cutRx j n id
    | none => s.rillRestart j n
  | 2 => (s.rillRestart j n).bump F.PLM_CNT_BLANKED_COUNT 1 j
  | _ => s.rillRestart j n

/-- RX_BLANKED (R52): every rill of a blanked chain. -/
def State.blankChain (s : State) (j : Nat) : State := s.forRills fun s n => s.blankRill j n

/-- An enabled rill lists mode `m`, or an enabled carrier names it (R62, R78). -/
def State.modeInUse (s : State) (m : Nat) : Bool :=
  (List.range 16).any fun j => (List.range 64).any fun n =>
    (s.flag F.PLM_RILL_CFG_EN j n &&
      (s.fld F.PLM_RILL_CFG_MODE0 j n == m ||
        (decide (2 ≤ s.fld F.PLM_RILL_CFG_SNIFF_CNT j n) && s.fld F.PLM_RILL_CFG_MODE1 j n == m) ||
        (s.fld F.PLM_RILL_CFG_SNIFF_CNT j n == 3 && s.fld F.PLM_RILL_CFG_MODE2 j n == m))) ||
    (s.flag F.TXF_CAR_CFG_EN j n && s.fld F.TXF_CAR_CFG_MODE j n == m)

/-- The whole-register fields other than bit 0: what R60 and R78 call the fields other than EN. -/
def otherFields (w : Nat) : Nat := w / 2

end Sys2Proof.Machine
end

