-- ==== Sys2Proof/Machine/Charter.lean ====
section
/-! DEFINITION. The charter and the weirs (04_charter_weirs.md, R105–R127): fuses and shadows, the charter check, the air-time
meters and reservations, and the commands of the block. -/

namespace Sys2Proof.Machine

/-! ## The fuse image (R105–R110) -/

/-- A fuse of the image is blown. -/
def State.fuse (s : State) (b : Nat) : Bool := s.cht.fuses.contains b

/-- A field of the image: `w` bits from bit `b` on. -/
def State.fuseField (s : State) (b : Nat) : Nat → Nat
  | 0 => 0
  | w + 1 => (if s.fuse b then 1 else 0) + 2 * s.fuseField (b + 1) w

/-- The first bit of entry `e` in the image (R105). -/
def entryBit (e : Nat) : Nat := 64 + 192 * e

/-- A bit of the image that is reserved, or outside it (R106). -/
def fuseReserved (b : Nat) : Bool :=
  if b < 64 then decide (2 ≤ b)
  else if b < 3136 then
    let k := (b - 64) % 192
    (decide (3 ≤ k) && decide (k ≤ 7)) || (decide (85 ≤ k) && decide (k ≤ 127))
  else true

/-- The 392-byte image (R105). -/
def State.fuseImage (s : State) : List Byte := (List.range 392).map fun i => BitVec.ofNat 8 (s.fuseField (8 * i) 8)

/-- Insert into a rising list without repeats. -/
def insertSorted (b : Nat) : List Nat → List Nat
  | [] => [b]
  | x :: xs => if b < x then b :: x :: xs else if b = x then x :: xs else x :: insertSorted b xs

/-! ## Entries (R107) -/

/-- An entry is live (R107). -/
def State.entryLive (s : State) (e : Nat) : Bool :=
  s.flag F.CHT_ENT_CFG_PROGRAMMED e && !s.flag F.CHT_ENT_CFG_REVOKED e && !s.flag F.CHT_SWLIM_SW_DISABLE e

/-- CHT_WEIR_LIMIT_e: LIMIT in µs, 0 while the entry is not live (R107). -/
def State.weirLimit (s : State) (e : Nat) : Nat :=
  if s.entryLive e then
    (10000 - max (s.fld F.CHT_ENT_DUTY_DUTY_DENY e) (s.fld F.CHT_SWLIM_SW_DUTY_DENY e)) * 360000
  else 0

/-- cap_txo in units of 0.25 dBm (R107). -/
def State.capTxo (s : State) (e : Nat) : Int :=
  min 0 (160 - (max (s.fld F.CHT_ENT_CFG_CAP_DENY e) (s.fld F.CHT_SWLIM_SW_CAP_DENY e) : Nat) -
    s.fld F.CHT_ENT_CFG_FE_GAIN e)

/-- The band of an entry in Hz: lower and upper edge (R107). -/
def State.entryBand (s : State) (e : Nat) : Int × Int :=
  (s.fld F.CHT_ENT_LOW_LOW_KHZ e * 1000, (7200000 - (s.fld F.CHT_ENT_HIGH_HIGH_DENY_KHZ e : Int)) * 1000)

/-! ## Bins (R116–R118) -/

/-- The place of the bin `k` rotations back in the sparse maps. -/
def State.binKey (s : State) (e k : Nat) : Nat := 64 * e + (s.cht.rotations + 60 * (k / 60 + 1) - k) % 60

/-- Air time in the bin `k` rotations back. -/
def State.bin (s : State) (e k : Nat) : Nat := SMap.getD s.cht.bins (s.binKey e k) 0

/-- Add to the running bin of an entry; a bin holds 40 bits (R116). -/
def State.binAdd (s : State) (e n : Nat) : State :=
  { s with cht := { s.cht with bins := SMap.put s.cht.bins (s.binKey e 0) (min (2 ^ 40 - 1) (s.bin e 0 + n)) } }

/-- Steps of 1 µs begun by elapsed instant `t` in a run of radiation (R119); none are begun while the entry is not live (R123). -/
def Meter.steps (m : Meter) (t : Nat) : Nat := if m.paused then m.counted else (t - m.start + 999) / 1000

/-- CHT_WEIR_USED_e: the sum of the 60 bins, with the steps of radiation going on (R117, R119). -/
def State.weirUsed (s : State) (e : Nat) : Nat :=
  ((List.range 60).map fun k => s.bin e k).sum +
    ((s.cht.meters.filter fun m => m.entry == e).map fun m => m.steps s.clp.now - m.counted).sum

/-- The LIMIT a frame is judged against: the lowest the entry has held while live over the last 60 bins (R121, R123). -/
def State.weirBound (s : State) (e : Nat) : Nat :=
  ((List.range 60).filterMap fun k => SMap.find? s.cht.limits (s.binKey e k)).foldl min (s.weirLimit e)

/-- Record the present LIMIT of every live entry in the running bin (R123). -/
def State.noteLimits (s : State) : State :=
  (List.range 16).foldl (fun s e =>
    if s.entryLive e then
      let k := s.binKey e 0
      { s with cht := { s.cht with limits := SMap.put s.cht.limits k (min (s.weirLimit e) (SMap.getD s.cht.limits k (s.weirLimit e))) } }
    else s) s

/-- Entry `e` is at or above its threshold (R124). PCT above 100 acts as 100. -/
def State.weirNear (s : State) (e : Nat) : Bool :=
  let pct := min 100 (s.fld F.CHT_WEIR_NEAR_PCT e)
  s.entryLive e && pct != 0 &&
    decide (pct * s.weirLimit e ≤ 100 * (s.weirUsed e + s.fld F.CHT_WEIR_RSV_USEC e))

/-- NEAR_MASK as it reads (R124). -/
def State.nearNow (s : State) : Nat := ((List.range 16).filter fun e => s.weirNear e).foldl (fun a e => a + 2 ^ e) 0

/-- NEAR_MASK follows the weirs (R124): the bits of it that set. -/
def State.nearMask (s : State) : Nat × State :=
  let old := s.fld F.CHT_STAT_NEAR_MASK
  let new := s.nearNow
  (new &&& (65535 ^^^ old), s.setFld F.CHT_STAT_NEAR_MASK new)

/-- NEAR (R124): NEAR_MASK follows; a bit that sets raises NEAR. A crossing by radiation that goes on is seen with the next change of the
weirs, and by a read of CHT_EVT (DESIGN CHOICE, log entry 148). -/
def State.nearUpdate (s : State) : State :=
  let (up, s) := s.nearMask
  s.on (up != 0) fun s => s.raise F.CHT_EVT_NEAR

/-- NEAR as radiation has brought it before a command that may change or clear it (R124): the crossing belongs to an earlier cycle. -/
def State.nearSeen (s : State) : State :=
  let t := s.nearUpdate
  if s.cycNow.evts.contains (.CHT_EVT, 0, F.CHT_EVT_NEAR.lo) then t
  else { t with cyc := { t.cycNow with evts := t.cycNow.evts.filter fun e => e != (.CHT_EVT, 0, F.CHT_EVT_NEAR.lo) } }

/-- One run of radiation after a change of its entry (R123): its steps so far count and it stands still once the entry is not live; it
starts afresh once the entry is live again. An entry that was not live at RF start has no run of the frame, whatever it becomes (DESIGN
CHOICE, log entry 140). -/
def State.meterOne (s : State) (m : Meter) : State :=
  let n := m.steps s.clp.now
  let keep (s : State) (m : Meter) : State := { s with cht := { s.cht with meters := s.cht.meters ++ [m] } }
  match s.entryLive m.entry, m.paused with
  | false, false => keep (s.binAdd m.entry (n - m.counted)) { m with counted := n, paused := true }
  | true, true => keep s { m with start := s.clp.now, counted := 0, paused := false }
  | _, _ => keep s m

/-- The runs of radiation follow the entries (R123). -/
def State.meterFollow (s : State) : State :=
  s.cht.meters.foldl (fun s m => s.meterOne m) { s with cht := { s.cht with meters := [] } }

/-- The CHT shadow registers reloaded from the fuses (R110). -/
def State.shadowReload (s : State) : State :=
  let s := (s.nearSeen.setFld F.CHT_STAT_SEAL (s.fuseField 0 1)).setFld F.CHT_STAT_COLD_FILL (s.fuseField 1 1)
  let s := (List.range 16).foldl (fun s e =>
    let b := entryBit e
    let s := ((s.setFld F.CHT_ENT_CFG_PROGRAMMED (s.fuseField b 1) e).setFld F.CHT_ENT_CFG_REVOKED
      (s.fuseField (b + 1) 1) e).setFld F.CHT_ENT_CFG_ACCOUNT (s.fuseField (b + 2) 1) e
    let s := (s.setFld F.CHT_ENT_CFG_CAP_DENY (s.fuseField (b + 8) 9) e).setFld F.CHT_ENT_CFG_FE_GAIN
      (s.fuseField (b + 17) 8) e
    let s := (s.setFld F.CHT_ENT_DUTY_DUTY_DENY (s.fuseField (b + 25) 14) e).setFld F.CHT_ENT_LOW_LOW_KHZ
      (s.fuseField (b + 39) 23) e
    (s.setFld F.CHT_ENT_HIGH_HIGH_DENY_KHZ (s.fuseField (b + 62) 23) e).setFld F.CHT_ENT_MASK_CHMASK
      (s.fuseField (b + 128) 64) e) s
  s.meterFollow.noteLimits.nearUpdate

/-- CHT_DIGEST_w recomputed: SHA-256 over the image (R110). -/
def State.digestReload (s : State) : State :=
  let d := sha256 s.fuseImage
  (List.range 8).foldl (fun s w => s.setFld F.CHT_DIGEST_DIGEST (ofLe ((d.drop (4 * w)).take 4)) w) s

/-! ## The charter check (R111–R115) -/

/-- The window centre, in kHz, that the carriers of a chain stand on (R68, R75): the one in force, or, while the transmit side is Off, the
one its next start takes. -/
def State.txCentre (s : State) (j : Nat) : Nat :=
  let c := s.tx j
  if s.fld F.TXF_CHAIN_STAT_TX_STATE j = 0 then c.heldWin.getD c.centre else c.centre

/-- A frame's span, in half-Hz: twice its carrier's channel centre less, and plus, the minimum bandwidth of its PHY mode. -/
def State.txSpan (s : State) (j k phy : Nat) : Int × Int :=
  let mid : Int := 2 * (s.txCentre j * 1000 + s.sfld F.TXF_CAR_FREQ_OFFSET_HZ j k)
  let bw : Int := s.phyMinBw phy
  (mid - bw, mid + bw)

/-- The segment of a frequency (in half-Hz) in a band (R112). -/
def segmentOf (band : Int × Int) (f2 : Int) : Nat := min 63 (64 * (f2 - 2 * band.1) / (2 * band.2 - 2 * band.1)).toNat

/-- 10^(−r/40), r = 0–39, in units of 10⁻²⁰, rounded down. -/
def powTable : List Nat :=
  [100000000000000000000, 94406087628592338036, 89125093813374552995, 84139514164519509115, 79432823472428150206,
   74989420933245582730, 70794578438413791080, 66834391756861460836, 63095734448019324943, 59566214352901046050] ++
  [56234132519034908039, 53088444423098835220, 50118723362727228500, 47315125896148047890, 44668359215096311855,
   42169650342858224856, 39810717055349725077, 37583740428844416737, 35481338923357545843, 33496543915782765954] ++
  [31622776601683793319, 29853826189179596179, 28183829312644538191, 26607250997988096349, 25118864315095801110,
   23713737056616552616, 22387211385683396119, 21134890398366467955, 19952623149688796013, 18836490894898005350] ++
  [17782794100389228012, 16788040181225603139, 15848931924611134852, 14962356560944334118, 14125375446227543021,
   13335214321633240256, 12589254117941672104, 11885022274370184377, 11220184543019634355, 10592537251772888788]

/-- The power of −n × 0.25 dBm, in fixed units. -/
def powerOf (n : Nat) : Nat := powTable.getD (n % 40) 0 * 10 ^ (16 - n / 40)

/-- A carrier's LEVEL as it acts, below 0 dBm in 0.25 dB (R81). -/
def State.levelDown (s : State) (j k : Nat) : Nat := (-(max (-160) (min 0 (s.sfld F.TXF_CAR_CFG_LEVEL j k)))).toNat

/-- The composite of a chain within an entry's band (R113): the power sum of LEVEL over its enabled carriers whose channel
centre lies in the band. -/
def State.composite (s : State) (j e : Nat) : Nat :=
  let b := s.entryBand e
  ((List.range 64).map fun k =>
    let c : Int := s.txCentre j * 1000 + s.sfld F.TXF_CAR_FREQ_OFFSET_HZ j k
    if s.flag F.TXF_CAR_CFG_EN j k && decide (b.1 ≤ c) && decide (c ≤ b.2) then powerOf (s.levelDown j k) else 0).sum

/-- Condition 3 of R113. The device errs by at most 0.05 dB, towards refusal: a composite that near the cap is admitted or not
as the free bit `luck` says. -/
def State.compositeOk (s : State) (j e : Nat) (luck : Bool) : Bool :=
  let p := s.composite j e
  let cap := powerOf (-(s.capTxo e)).toNat
  if cap < p then false else if p * 1011580 ≤ cap * 1000000 then true else luck

/-- The first of conditions 1, 2 and 3 of R113 that fails for entry `e`; 0 when it admits the frame. -/
def State.entryCheck (s : State) (e j k phy : Nat) (luck : Bool) : Nat :=
  let b := s.entryBand e
  let sp := s.txSpan j k phy
  let lo := segmentOf b sp.1
  let hi := segmentOf b sp.2
  let mask := s.fld F.CHT_ENT_MASK_CHMASK e
  if b.2 ≤ b.1 || decide (sp.1 < 2 * b.1) || decide (2 * b.2 < sp.2) then 1
  else if (List.range (hi + 1 - lo)).any fun i => mask.testBit (lo + i) then 2
  else if !s.compositeOk j e luck then 3
  else 0

/-- The verdict of the charter (R110, R113, R114): none when admitted, else the entry and reason to record. -/
def State.charterVerdict (s : State) (j k phy : Nat) (luck : Bool) : Option (Nat × Nat) :=
  if !s.flag F.CHT_STAT_LOADED then some (0, 1)
  else
    let live := (List.range 16).filter fun e => s.entryLive e
    if live.any fun e => s.entryCheck e j k phy luck == 0 then none
    else match live.find? fun e => s.entryCheck e j k phy luck != 1 with
      | some e => some (e, s.entryCheck e j k phy luck)
      | none => some (0, 1)

/-- Record a refusal: CHT_LAST_REFUSE, its counter and its event (R114, R115, R121, R127). -/
def State.noteRefusal (s : State) (e reason j k : Nat) (atCommit : Bool) : State :=
  let s := (((s.setFld F.CHT_LAST_REFUSE_ENTRY e).setFld F.CHT_LAST_REFUSE_REASON reason).setFld
    F.CHT_LAST_REFUSE_AT_COMMIT (cond atCommit 1 0)).setFld F.CHT_LAST_REFUSE_CHAIN j
  ((s.setFld F.CHT_LAST_REFUSE_CARRIER k).bump F.CHT_CNT_REFUSED_COUNT 1 e).raise
    (if reason = 4 then F.CHT_EVT_BUDGET_REFUSE else F.CHT_EVT_CHARTER_REFUSE)

/-! ## Charges (R119–R122) -/

/-- The live entries a frame is charged to: those whose band has a common interior with its span (R120). -/
def State.chargedTo (s : State) (j k phy : Nat) : List Nat :=
  let sp := s.txSpan j k phy
  (List.range 16).filter fun e =>
    let b := s.entryBand e
    s.entryLive e && decide (max sp.1 (2 * b.1) < min sp.2 (2 * b.2))

/-- Bins that a rotation of this cycle cleared (R125). -/
def State.clearedNow (s : State) (e : Nat) : List (Nat × Nat × Option Nat) :=
  if s.cht.cleared.1 = s.clp.now then s.cht.cleared.2.filter fun c => c.1 == e else []

/-- Reservations with an entry that were released in this cycle (R125). -/
def State.releasedNow (s : State) (e : Nat) : Nat :=
  if s.cht.released.1 = s.clp.now then ((s.cht.released.2.filter fun c => c.1 == e).map fun c => c.2).sum else 0

/-- What an approval sees of an entry (R121, R125): the bins before a rotation of this cycle, the reservations before a release of it. -/
def State.weirSeen (s : State) (e : Nat) : Nat :=
  s.weirUsed e + ((s.clearedNow e).map fun c => c.2.1).sum + s.fld F.CHT_WEIR_RSV_USEC e + s.releasedNow e

/-- The LIMIT that an approval sees (R121, R123, R125). -/
def State.boundSeen (s : State) (e : Nat) : Nat := ((s.clearedNow e).filterMap fun c => c.2.2).foldl min (s.weirBound e)

/-- The lowest-numbered entry charged whose budget a frame of air time `a` would pass (R121). -/
def State.weirFails (s : State) (es : List Nat) (a : Nat) : Option Nat :=
  es.find? fun e => decide (s.boundSeen e < s.weirSeen e + a)

/-- Reserve air time with every entry charged (R121). -/
def State.weirReserve (s : State) (es : List Nat) (a : Nat) : State :=
  es.foldl (fun s e => s.setFld F.CHT_WEIR_RSV_USEC (s.fld F.CHT_WEIR_RSV_USEC e + a) e) s

/-- Count an approval with every entry charged (R127). -/
def State.noteApproval (s : State) (es : List Nat) : State :=
  es.foldl (fun s e => s.bump F.CHT_CNT_APPROVED_COUNT 1 e) s

/-- An approval of this cycle is taken back (R125, R127). -/
def State.unnoteApproval (s : State) (es : List Nat) : State :=
  es.foldl (fun s e => s.unbump F.CHT_CNT_APPROVED_COUNT 1 e) s

/-- Reservations with some entries are taken back. -/
def State.weirReturn (s : State) (es : List Nat) (a : Nat) : State :=
  es.foldl (fun s e => s.setFld F.CHT_WEIR_RSV_USEC (s.fld F.CHT_WEIR_RSV_USEC e - a) e) s

/-- RESERVATION_RELEASE (R122): an approval of this cycle still sees them (R125). -/
def State.weirRelease (s : State) (es : List Nat) (a : Nat) : State :=
  let was := if s.cht.released.1 = s.clp.now then s.cht.released.2 else []
  { s with cht := { s.cht with released := (s.clp.now, (es.map fun e => (e, a)) ++ was) } }.weirReturn es a

/-- Metering of a frame begins at its RF start for every live entry it is charged to (R119, R120, R123): it joins the entry's running
union interval, or starts a count of its own. Frames of a running union interval stay in it though ACCOUNT is blown meanwhile (DESIGN CHOICE, log
entry 139). -/
def State.meterStart (s : State) (id : Nat) (es : List Nat) : State :=
  es.foldl (fun s e =>
    let union := !s.flag F.CHT_ENT_CFG_ACCOUNT e
    let ms := s.cht.meters
    let ms := if union && ms.any fun m => m.union && m.entry == e
      then ms.map fun m => if m.union && m.entry == e then { m with frames := m.frames ++ [id] } else m
      else ms ++ [{ entry := e, union := union, start := s.clp.now, counted := 0, frames := [id] }]
    { s with cht := { s.cht with meters := ms } }) s

/-- One run of radiation without frame `id`: its steps are counted when no frame is left (R119). -/
def State.meterLeave (s : State) (id : Nat) (m : Meter) : State :=
  let m' := { m with frames := m.frames.filter (· != id) }
  if m.frames.contains id && m'.frames.isEmpty then s.binAdd m.entry (m.steps s.clp.now - m.counted)
  else { s with cht := { s.cht with meters := s.cht.meters ++ [m'] } }

/-- Metering of a frame ends at its last RF (R119). -/
def State.meterStop (s : State) (id : Nat) : State :=
  s.cht.meters.foldl (fun s m => s.meterLeave id m) { s with cht := { s.cht with meters := [] } }

/-- Count the steps begun so far into the running bin, before it stops running (R119). -/
def State.meterFlush (s : State) : State :=
  s.cht.meters.foldl (fun s m =>
    let n := m.steps s.clp.now
    let s := s.binAdd m.entry (n - m.counted)
    { s with cht := { s.cht with meters := s.cht.meters ++ [{ m with counted := n }] } })
    { s with cht := { s.cht with meters := [] } }

/-! ## Commands -/

/-- BLOW of CHT_FPROG_CMD (R108, R109): only from Jomuter (requester 129), and not while a blow runs. -/
def State.fuseBlow (s : State) (req : Nat) : State :=
  if req != 129 || s.flag F.CHT_STAT_FPROG_BUSY then s
  else
    let b := s.fld F.CHT_FPROG_ADDR_BIT
    let sealed := s.fuse 0 && decide (64 ≤ b) && (b - 64) % 192 == 0
    if fuseReserved b || s.fuse b || sealed then s.raise F.CHT_EVT_FUSE_REFUSED
    else { s with cht := { s.cht with blow := some (b, s.clp.now + 12000) } }.setFld F.CHT_STAT_FPROG_BUSY 1

/-- FUSE_BLOW (R108, R109). -/
def execFuseBlow (req : Nat) (s : State) : Out := .next (s.powered fun s => s.fuseBlow req)

/-- The blow of bit `b` ends at `t` (R108, R110): the fuse is blown, the shadows reload within 10 µs, a free time, and the digest is due within 50 µs,
a free time, and no later for a further blow. FPROG_BUSY stays 1 through the reload (DESIGN CHOICE, log entry 138). -/
def State.fuseEnd (s : State) (b t : Nat) : State :=
  let s := s.advanceTo t
  let (v, s) := s.fresh
  let (w, s) := s.fresh
  let due := t + w % 50001
  let s := { s with cht := { s.cht with
    fuses := insertSorted b s.cht.fuses, blow := none, digest := some (min due (s.cht.digest.getD due)) } }
  ((s.advanceTo (t + v % 10001)).shadowReload.setFld F.CHT_STAT_FPROG_BUSY 0).raise F.CHT_EVT_FUSE_DONE

/-- DIGEST_DONE (R110): the charter digest is recomputed within 50 µs of a blow. -/
def execDigestDone (s : State) : Out :=
  match s.cht.digest with
  | some t => .next ({ s with cht := { s.cht with digest := none } }.advanceTo t).digestReload
  | none => .next s

/-- CHARTER_LOADED (R110, R434): 0.1 ms after the release of the internal reset the shadows and the digest are valid. -/
def execCharterLoaded (s : State) : Out :=
  if s.pwr.phase = .run ∧ s.flag F.CHT_STAT_LOADED = false then
    .next ((s.advanceTo (s.pwr.released + 100000)).shadowReload.digestReload.setFld F.CHT_STAT_LOADED 1)
  else .next s

/-- BIN_ROTATION (R116, R125): every 1,966,080 trickle ticks the oldest bin is cleared and becomes the running bin. -/
def execBinRotation (s : State) : Out :=
  let t := s.cht.binTick + 1966080
  let s := (s.advanceTo (tickTime t)).nearSeen.meterFlush
  let old := (List.range 16).map fun e => (e, s.bin e 59, SMap.find? s.cht.limits (s.binKey e 59))
  let s := { s with cht := { s.cht with rotations := (s.cht.rotations + 1) % 60, binTick := t, cleared := (s.clp.now, old) } }
  let s := (List.range 16).foldl (fun s e =>
    { s with cht := { s.cht with
        bins := SMap.del s.cht.bins (s.binKey e 0), limits := SMap.del s.cht.limits (s.binKey e 0) } }) s
  .next s.noteLimits.nearUpdate

/-- COLD_FILL (R118): after the loss of VBAT the weirs start empty, or full where the fuses say so. -/
def State.coldFill (s : State) : State :=
  let full := s.flag F.CHT_STAT_COLD_FILL
  let s := { s with cht := { s.cht with bins := [], limits := [] } }
  let s := s.on full fun s => (List.range 16).foldl (fun s e =>
    (List.range 60).foldl (fun s k =>
      { s with cht := { s.cht with bins := SMap.put s.cht.bins (s.binKey e k) ((s.weirLimit e + 59) / 60) } }) s) s
  (s.noteLimits.raise F.CHT_EVT_COLD_FILLED).siltPost 65 (cond full 1 0)

/-- CHT_SWLIM_e takes a word (R107): the narrowing takes effect at once. -/
def State.swlimSet (s : State) (e : Nat) (d : Word) : State :=
  (s.nearSeen.setReg .CHT_SWLIM e 0 (d &&& 0xFFFDFF01)).meterFollow.noteLimits.nearUpdate

/-- A write of CHT_WEIR_NEAR_e (R124). -/
def State.chtNearWrite (s : State) (e : Nat) (d : Word) : State :=
  (s.nearSeen.setFld F.CHT_WEIR_NEAR_PCT d.toNat e).nearUpdate

end Sys2Proof.Machine
end

