-- ==== Sys2Proof/Machine/TxOps.lean ====
section
/-! DEFINITION. Operations of the transmit path that several blocks share: TX descriptors and completions (R15–R18, R122), the
launch unit (R372–R374), shared cell chains (R141, R166), what each origin does with its completions, and the coexistence
request (R97). -/

namespace Sys2Proof.Machine

/-! ## Descriptors and completions (R15–R17) -/

/-- The descriptor that four runnel words hold (R15). -/
def descOf (w0 w1 w2 w3 : Word) : TxDesc :=
  let a := w0.toNat
  let b := w1.toNat
  let c := w2.toNat
  { len := bits a 48 16, chain := bits a 44 4, carrier := bits a 38 6, mode := bits a 36 2, time := bits a 0 32,
    asn := bits b 24 40, slotOff := bits b 8 16, tol := bits b 0 8, cellHi := bits c 48 16, cell := bits c 32 16,
    group := bits c 20 12, sec := bits c 17 3, ovr := c.testBit 16, ackReq := c.testBit 0, spec := c.testBit 1,
    prio := c.testBit 2, keep := c.testBit 3, cookie := w3 }

/-- The four words of a TX completion (R17). -/
def txDoneWords (d : TxDesc) (status launch asn rssi : Nat) : List Word :=
  [BitVec.ofNat 64 (launch % 2 ^ 32 * 2 ^ 32 + d.len * 2 ^ 16 + d.chain * 2 ^ 12 + d.carrier * 2 ^ 6),
   BitVec.ofNat 64 (asn % 2 ^ 40 * 2 ^ 24 + rssi % 256 * 2 ^ 16),
   BitVec.ofNat 64 (d.cell * 2 ^ 32 + status * 2 ^ 26),
   d.cookie]

/-- The TWN role lets the device transmit like a single device (R453, R465). -/
def State.mayTransmit (s : State) : Bool :=
  s.fld F.TWN_STAT_ROLE == 0 || s.fld F.TWN_STAT_ROLE == 3

/-- A TX completion is pushed to the runnel that takes those of its chain. No completion is pushed once the power-fail sequence
has begun (R428). -/
def State.pushTxDone (s : State) (d : TxDesc) (status launch asn rssi : Nat) : State :=
  if s.pwr.phase = .failing then s
  else s.enginePush (Config.txCompletionRunnel d.chain).toNat ((txDoneWords d status launch asn rssi).map fun w => mkWord w)

/-! ## Shared cell chains (R141, R166) -/

/-- A shared cell chain. -/
def State.shared (s : State) (g : Nat) : SharedChain := SMap.getD s.txf.shared g ⟨0, 0, false, .none⟩

/-- Set a shared cell chain. -/
def State.setShared (s : State) (g : Nat) (c : SharedChain) : State :=
  { s with txf := { s.txf with shared := SMap.put s.txf.shared g c } }

/-- A new shared cell chain for `n` copies, whose first cell is `cell`. -/
def State.newShared (s : State) (cell n : Nat) : Nat × State :=
  let g := s.txf.nextShared
  (g, { s with txf := { s.txf with nextShared := g + 1 } }.setShared g { cell := cell, left := n })

/-- One copy of a shared frame has completed: after the last one its chain is freed (R141, R166). True: it was the last. -/
def State.sharedDone (s : State) (g : Nat) (ok : Bool) : Bool × State :=
  let c := s.shared g
  let c := { c with left := c.left - 1, ok := c.ok || ok }
  if c.left = 0 then
    (true, { s with txf := { s.txf with shared := SMap.del s.txf.shared g } }.freeChain c.cell)
  else (false, s.setShared g c)

/-- The group whose copies a frame is one of. -/
def TxOrigin.group? : TxOrigin → Option Nat
  | .beacon g => some g
  | .spw _ g => some g
  | _ => none

/-- The protection of a frame: its group's, or its own (R141, R166). -/
def State.secOf (s : State) (f : TxFrame) : TxSec :=
  match f.origin.group? with
  | some g => (s.shared g).sec
  | none => f.sec

/-- Nothing is left to protect. -/
def TxSec.ready : TxSec → Bool
  | .none => true
  | .done => true
  | _ => false

/-! ## What an origin does with a completion -/

/-- A Spillway session. -/
def State.spwS (s : State) (k : Nat) : SpwSession := SMap.getD s.spw.sessions k {}

/-- Set a Spillway session. -/
def State.setSpw (s : State) (k : Nat) (v : SpwSession) : State :=
  { s with spw := { s.spw with sessions := SMap.put s.spw.sessions k v } }

/-- SPW_BACKOFF (R172): a copy that completes TX_BUDGET starts the back-off afresh. -/
def State.spwBudget (s : State) (k : Nat) : State :=
  (s.setSpw k { s.spwS k with backoff := s.fld F.SPW_SCHED_BACKOFF k }).raise F.SPW_EVT_BUDGET_HOLD

/-- A Spillway copy completes (R166, R171, R172); the last one counts the slot (DESIGN CHOICE, log entry 158). -/
def State.spwCopyDone (s : State) (k g : Nat) (st : Status) : State :=
  let ok := decide (st = .ok)
  let was := (s.shared g).ok
  let s := s.on (!ok) fun s => s.bump F.SPW_CNT_COPY_FAIL_COUNT
  let s := s.on (decide (st = .txBudget)) fun s => s.spwBudget k
  let (last, s) := s.sharedDone g ok
  s.on (last && (was || ok)) fun s => s.bump F.SPW_CNT_BLOCKS_COUNT

/-- A beacon copy completes (R141). -/
def State.bcnCopyDone (s : State) (g : Nat) (st : Status) : State :=
  let s := if st = .ok then s.bump F.MAC_CNT_BCN_SENT_COUNT
    else (s.bump F.MAC_CNT_BCN_FAIL_COUNT).raise F.MAC_EVT_BCN_FAIL
  (s.sharedDone g (decide (st = .ok))).2

/-- An acknowledgement completes (R148). -/
def State.ackFail (s : State) : State := (s.bump F.MAC_CNT_ACK_FAIL_COUNT).raise F.MAC_EVT_ACK_FAIL

/-- The takeover frame completes (R466, R467). -/
def State.takeoverDone (s : State) (st : Status) : State :=
  let s := { s with twn := { s.twn with taking := false, workFrom := s.fullNs } }
  if st = .ok then s
  else
    let s := s.raise F.TWN_EVT_TK_FAIL
    s.on (s.fld F.TWN_STAT_ROLE == 2) fun s =>
      { s with twn := { s.twn with act := true, handing := none, arrived := false } }.setFld F.TWN_STAT_ROLE 3

/-- The device frees a descriptor's cells unless KEEP_CELL is set (R346). -/
def State.freeDesc (s : State) (d : TxDesc) : State := s.on (!d.keep) fun s => s.freeChain d.cell

/-- The completion of a descriptor reaches whoever placed it. `frees` is false where the rules say that the device frees no
cell. INTERNAL completions post a Silt record (R13, R505), always as block 3's, whichever block decided them (DESIGN CHOICE, log entry
100). -/
def State.deliverTx (s : State) (o : TxOrigin) (d : TxDesc) (st : Status) (launch asn rssi : Nat) (frees : Bool) : State :=
  let s := s.on (decide (st = .internal)) fun s => s.siltInternal 3 0
  match o with
  | .runnel _ => (s.on frees fun s => s.freeDesc d).pushTxDone d st.code launch asn rssi
  | .spec _ _ => (s.on frees fun s => s.freeDesc d).pushTxDone d st.code launch asn rssi
  | .ack _ =>
    let s := s.on frees fun s => s.freeDesc d
    if st = .ok then s.bump F.MAC_CNT_ACK_SENT_COUNT else s.ackFail
  | .beacon g => s.bcnCopyDone g st
  | .spw k g => s.spwCopyDone k g st
  | .takeover => (s.on frees fun s => s.freeDesc d).takeoverDone st

/-! ## The launch unit (R84, R372–R374) -/

/-- Set the frames of a chain's launch unit. -/
def State.setFrames (s : State) (j : Nat) (fs : List TxFrame) : State := s.setTx j { s.tx j with frames := fs }

/-- A frame of a chain by its identifier. -/
def State.txFrame (s : State) (j id : Nat) : Option TxFrame := (s.tx j).frames.find? fun f => f.id == id

/-- Replace a frame. -/
def State.putTx (s : State) (j : Nat) (f : TxFrame) : State :=
  s.setFrames j ((s.tx j).frames.map fun g => if g.id = f.id then f else g)

/-- Some chain's launch unit is full: 256 descriptors between approval and completion (R372). -/
def State.launchFull (s : State) : Bool := (List.range 16).any fun j => decide (256 ≤ (s.tx j).frames.length)

/-- The frame is between its commit point and its last RF. -/
def TxStage.live : TxStage → Bool
  | .committed => true
  | .switched => true
  | .powered => true
  | .radiating => true
  | _ => false

/-- A carrier radiates (BUSY of TXF_CAR_STAT_k). -/
def State.carBusy (s : State) (j k : Nat) : Bool :=
  (s.tx j).frames.any fun f => f.desc.carrier == k && decide (f.stage = .radiating)

/-- A descriptor for a carrier is held in the launch unit (PENDING of TXF_CAR_STAT_k). -/
def State.carPending (s : State) (j k : Nat) : Bool :=
  (s.tx j).frames.any fun f => f.desc.carrier == k && decide (f.stage = .held)

/-- Carriers of a chain that radiate (CAR_BUSY). -/
def State.carsBusy (s : State) (j : Nat) : Nat := ((List.range 64).filter fun k => s.carBusy j k).length

/-- Some carrier of the chain radiates. -/
def State.radiating (s : State) (j : Nat) : Bool := (s.tx j).frames.any fun f => decide (f.stage = .radiating)

/-- The PHY mode entry and the MCS of a frame: the carrier's, or those R143 gives (R79). -/
def State.frameMode (s : State) (j k : Nat) (m : Option (Nat × Nat)) : Nat × Nat :=
  m.getD (s.fld F.TXF_CAR_CFG_MODE j k, s.fld F.TXF_CAR_CFG_MCS j k)

/-- FCS bytes of a transmitted frame (R79). -/
def State.txFcsLen (s : State) (j k phy : Nat) : Nat := s.rxFcsLen phy (s.flag F.TXF_CAR_CFG_FCS32 j k)

/-- The due instant of a frame in ns of full time: launch time plus TX_ADJ of its chain (R84, R374). -/
def State.due (s : State) (j : Nat) (f : TxFrame) : Option Nat :=
  f.launch.map fun t => ((t : Int) + s.sfld F.CLP_TX_ADJ_ADJ j).toNat

/-- PA_LEAD in µs, 2–64 (R89). -/
def State.paLead (s : State) (j : Nat) : Nat := max 2 (min 64 (s.fld F.TXF_FEM_CTL_PA_LEAD j))

/-- PA_LAG in µs, 1–32 (R89). -/
def State.paLagUs (s : State) (j : Nat) : Nat := max 1 (min 32 (s.fld F.TXF_FEM_CTL_PA_LAG j))

/-- WAKE_LEAD in µs, 30–1,000 (R74). -/
def State.wakeLead (s : State) (j : Nat) : Nat := max 30 (min 1000 (s.fld F.TXF_CHAIN_CTL_WAKE_LEAD j))

/-- The instant of full time, in ns, of the planned commit point (R85); mode 0 counts from its arrival. -/
def State.planned (s : State) (j : Nat) (f : TxFrame) : Option Nat :=
  (s.due j f).map fun t => t - (s.paLead j + 2) * 1000

/-- The instant of full time, in ns, at which a held frame asks for the transmit side (R74). -/
def State.wakeTime (s : State) (j : Nat) (f : TxFrame) : Nat :=
  match s.due j f with
  | some t => t - s.wakeLead j * 1000
  | none => 0

/-- A frame keeps the transmit side from going idle (R74): it radiates or is to, or it is held and due within WAKE_LEAD. -/
def State.keepsOn (s : State) (j : Nat) (f : TxFrame) : Bool :=
  f.stage.live || (decide (f.stage = .held) && decide (s.wakeTime j f ≤ s.fullNs))

/-- The three conditions of R74 hold. -/
def State.idleNow (s : State) (j : Nat) : Bool :=
  !s.flag F.TXF_CHAIN_CTL_TX_HOLD j && (s.tx j).frames.all fun f => !s.keepsOn j f

/-- The idle time of R74 counts afresh where the conditions did not hold in `before`, the state this command or event began with. -/
def State.idleTouch (s before : State) (j : Nat) : State :=
  s.on (!before.idleNow j) fun s => s.setTx j { s.tx j with idleAt := some s.clp.now }

/-! ## The coexistence request (R97) -/

/-- COEX_REQ_g covers a frame in progress, or one whose FEM_PA_n has still to release. -/
def State.coexCovered (s : State) (g : Nat) : Bool :=
  (List.range 16).any fun j =>
    (s.tx j).coexHold.contains g ||
      (s.tx j).frames.any fun f => f.req == some g && f.stage != .awaitAck

/-- COEX_REQ_g and COEX_PRI_g release once nothing is covered (R97). -/
def State.coexUpdate (s : State) (g : Nat) : State :=
  if s.coexCovered g then s
  else (s.setFld F.TXF_COEX_STAT_REQ (setBits (s.fld F.TXF_COEX_STAT_REQ) g 1 0)).setFld F.TXF_COEX_STAT_PRI
    (setBits (s.fld F.TXF_COEX_STAT_PRI) g 1 0)

/-- The frame's own request ends with it: held on while its FEM_PA_n is asserted. -/
def State.coexEnd (s : State) (j : Nat) (f : TxFrame) : State :=
  match f.req with
  | some g =>
    let c := s.tx j
    (s.on (c.pa && !c.coexHold.contains g) fun s => s.setTx j { c with coexHold := c.coexHold ++ [g] }).coexUpdate g
  | none => s

/-- The level of COEX_REQ_g and of COEX_PRI_g: REQ_POL and PRI_POL give the active level, 0 for active high (R97, R103). -/
def State.coexPins (s : State) (g : Nat) : Bool × Bool :=
  ((s.fld F.TXF_COEX_STAT_REQ).testBit g != s.flag F.TXF_COEX_GRP_REQ_POL g,
   (s.fld F.TXF_COEX_STAT_PRI).testBit g != s.flag F.TXF_COEX_GRP_PRI_POL g)

/-! ## Completion of a frame (R17, R122) -/

/-- The status counters and events of a chain's completions (R86, R99, R100, R104). -/
def State.countTx (s : State) (j : Nat) (st : Status) : State :=
  match st with
  | .txLate => (s.bump F.TXF_CNT_LATE_COUNT 1 j).raise F.TXF_EVT_LATE j
  | .txNoGrant => (s.bump F.TXF_CNT_NO_GRANT_COUNT 1 j).raise F.TXF_EVT_NO_GRANT j
  | .txGrantLost => (s.bump F.TXF_CNT_GRANT_LOST_COUNT 1 j).raise F.TXF_EVT_GRANT_LOST j
  | .txSynthFault => s.bump F.TXF_CNT_SYNTH_FAULT_COUNT 1 j
  | _ => s

/-- A frame of the launch unit completes: its place and its reservations are released, its status is counted and its origin
takes the completion (R122, R372). `rssi` is that of the matched acknowledgement, 0 where none matched (R17; DESIGN CHOICE, log entry
101, for ACK_REQ); `frees` is false where the device frees no cell (R555). -/
def State.completeTx (s : State) (j : Nat) (f : TxFrame) (st : Status) (rssi : Nat := 0) (frees : Bool := true) : State :=
  let before := s
  let s := s.nearSeen.setFrames j ((s.tx j).frames.filter fun g => g.id != f.id)
  let s := (s.coexEnd j f).weirRelease f.charged f.air
  ((s.nearUpdate.countTx j st).deliverTx f.origin f.desc st f.rfTime f.rfAsn rssi frees).idleTouch before j

/-- TX_NO_ACK counts (R151); `rssi` is that of a matched acknowledgement with NACK (R17). -/
def State.noAck (s : State) (j : Nat) (f : TxFrame) (rssi : Nat := 0) : State :=
  (s.bump F.MAC_CNT_TX_NO_ACK_COUNT).completeTx j f .txNoAck rssi

end Sys2Proof.Machine
end

