-- ==== Sys2Proof/Machine/MemOps.lean ====
section
/-! DEFINITION. Whole-memory helpers: the words of a memory that hold anything (R438), dropped entries (R444), and the mirror of the
Twin block (R461). -/

namespace Sys2Proof.Machine

/-- Keep one of each run of equal neighbours. -/
def dedup1 : List Nat → List Nat
  | a :: b :: t => if a = b then dedup1 (b :: t) else a :: dedup1 (b :: t)
  | l => l

/-- The words of memory `m` that hold a listed byte or an error mark, in rising order within each kind: every other word reads as a
good 0 with no effect. -/
def State.liveWords (s : State) (m : Nat) : List Nat :=
  let a := dedup1 (s.mem.filterMap fun c => if c.1 / 2 ^ 24 = m then some (c.1 % 2 ^ 24 / 8) else none)
  let b := s.ecc.filterMap fun e => if e.1 / 2 ^ 21 = m then some (e.1 % 2 ^ 21) else none
  (a ++ b.filter fun w => !a.contains w).insertionSort (· ≤ ·)

/-- A word dropped under R444: it becomes a good 0, and the drop counts. -/
def State.dropWord (s : State) (m w : Nat) : State := (s.memWrite m w 0).bump F.MEM_CNT_DROP_COUNT

/-! ## Mirroring (R461) -/

/-- A class and index of a bulk pass, in order. -/
def bulkKey (x : Nat × Nat) : Nat := 2 ^ 64 * x.1 + x.2

/-- A class and index take their place in what a bulk pass is still to send. -/
def bulkInsert (x : Nat × Nat) : List (Nat × Nat) → List (Nat × Nat)
  | [] => [x]
  | y :: ys => if x = y then y :: ys else if bulkKey x < bulkKey y then x :: y :: ys else y :: bulkInsert x ys

/-- MIRROR_POST (R461): while ACTIVE, an event to mirror joins the queue; past 4,096 the queue is discarded and RESYNC is due. The
payload is the class in bits [7:0] of its first word with the index above, then the words of the event. A write to an index that a bulk
pass has not reached is left to the pass (R464). -/
def State.mirrorPost (s : State) (cls idx : Nat) (ws : List Word) : State :=
  if s.fld F.TWN_STAT_ROLE = 3 then
    if s.twn.bulkOpen ∧ cls < 2 ∧ bulkKey s.twn.bulkAt ≤ bulkKey (cls, idx) then
      { s with twn := { s.twn with bulk := bulkInsert (cls, idx) s.twn.bulk } }
    else if 4096 ≤ s.twn.queue.length then { s with twn := { s.twn with queue := [], overflow := true } }
    else { s with twn := { s.twn with queue := s.twn.queue ++ [BitVec.ofNat 64 (cls + 256 * idx) :: ws] } }
  else s

/-- The groups of 8 words that Jomuter firmware has pushed to KEY_RUNNEL become class 3 messages (R461). -/
def State.keyGroups (s : State) : Nat → State
  | 0 => s
  | n + 1 =>
    let k := s.fld F.TWN_RUNNEL_KEY_RUNNEL
    if s.fld F.TWN_STAT_ROLE = 3 ∧ s.runnelOn k ∧ 8 ≤ s.poppable k then
      let (ws, s) := s.popWords k 8
      (s.mirrorPost 3 0 (ws.map fun (x : RunWord) => x.val)).keyGroups n
    else s

end Sys2Proof.Machine
end

