-- ==== Sys2Proof/Machine/Mhr.lean ====
section
/-! DEFINITION. IEEE 802.15.4 MAC frames as the device parses and builds them (R138, R146, R147, R165, R465, R553): the MAC
header, the auxiliary security header, header and payload IEs. Layouts that the manual takes from IEEE 802.15.4-2020 follow that
standard. -/

namespace Sys2Proof.Machine

/-- A parsed MAC frame. Addresses are numbers; offsets count from the first byte of the PSDU. -/
structure MacFrame where
  ftype    : Nat := 0
  version  : Nat := 0
  security : Bool := false
  ackReq   : Bool := false
  seq      : Option Nat := none
  dstPan   : Option Nat := none
  dstMode  : Nat := 0
  dst      : Nat := 0
  srcPan   : Option Nat := none
  srcMode  : Nat := 0
  src      : Nat := 0
  secLevel : Nat := 0
  keyMode  : Nat := 0
  counter  : Nat := 0
  /-- Offset of the auxiliary security header, where there is one. -/
  auxAt    : Nat := 0
  /-- Offset after the auxiliary security header. -/
  hdrEnd   : Nat := 0
  /-- Header IEs: element ID, offset and length of the content. -/
  ies      : List (Nat × Nat × Nat) := []
  /-- Start of the payload after the header IEs, and its end before the MIC. -/
  bodyAt   : Nat := 0
  bodyEnd  : Nat := 0
  /-- Payload IEs precede the payload (a Header Termination 1 ended the header IEs). -/
  payIes   : Bool := false
  deriving DecidableEq, Repr

/-- MIC bytes of a security level (R247). -/
def micLen (lvl : Nat) : Nat := [0, 4, 8, 16, 0, 4, 8, 16].getD lvl 0

/-- Whether destination and source PAN IDs are present (IEEE 802.15.4, PAN ID compression). -/
def panFields (version dm sm : Nat) (pc : Bool) : Bool × Bool :=
  if version < 2 then (dm != 0, sm != 0 && !pc)
  else if dm = 0 ∧ sm = 0 then (pc, false)
  else if dm = 0 then (false, !pc)
  else if sm = 0 then (!pc, false)
  else if dm = 3 ∧ sm = 3 then (!pc, false)
  else (true, !pc)

/-- The number of bytes of an address in a mode. -/
def addrLen (mode : Nat) : Nat := if mode = 2 then 2 else if mode = 3 then 8 else 0

/-- A little-endian number at an offset, if it lies before `e`. -/
def leAt (b : List Byte) (e o n : Nat) : Option Nat :=
  if o + n ≤ e then some (ofLe ((b.drop o).take n)) else none

/-- An optional little-endian field: its value, and the offset after it. -/
def optField (b : List Byte) (e o n : Nat) (present : Bool) : Option (Option Nat × Nat) :=
  if present then (leAt b e o n).map fun v => (some v, o + n) else some (none, o)

/-- Bytes of the key identifier, by key identifier mode. -/
def keyIdLen (m : Nat) : Nat := [0, 1, 5, 9].getD m 0

/-- The header IEs from offset `o` to their termination: the IEs, the offset after them, and whether payload IEs follow. -/
def parseIes (b : List Byte) (e : Nat) : Nat → Nat → Option (List (Nat × Nat × Nat) × Nat × Bool)
  | 0, o => some ([], o, false)
  | n + 1, o =>
    if e ≤ o then some ([], o, false)
    else match leAt b e o 2 with
      | none => none
      | some d =>
        if 2 ^ 15 ≤ d then some ([], o, true)
        else
          let len := d % 128
          let id := d / 128 % 256
          if e < o + 2 + len then none
          else if id = 0x7E then some ([(id, o + 2, len)], o + 2 + len, true)
          else if id = 0x7F then some ([(id, o + 2, len)], o + 2 + len, false)
          else match parseIes b e n (o + 2 + len) with
            | none => none
            | some (ies, o', pay) => some ((id, o + 2, len) :: ies, o', pay)

/-- The fields of the auxiliary security header at `o`: level, key identifier mode, counter, the offset after it. -/
def parseAux (b : List Byte) (e o : Nat) (v2 : Bool) : Option (Nat × Nat × Nat × Nat) :=
  match leAt b e o 1 with
  | none => none
  | some sc =>
    let km := sc / 8 % 4
    let suppressed := v2 && sc.testBit 5
    match optField b e (o + 1) 4 (!suppressed) with
    | none => none
    | some (ctr, o) => if o + keyIdLen km ≤ e then some (sc % 8, km, ctr.getD 0, o + keyIdLen km) else none

/-- The MAC header and the auxiliary security header of a PSDU whose bytes before the FCS end at `e` (R184: versions 0–2);
`none` where they cannot be parsed. -/
def parseHeader (b : List Byte) (e : Nat) : Option MacFrame :=
  match leAt b e 0 2 with
  | none => none
  | some fc =>
    let version := fc / 2 ^ 12 % 4
    let dm := fc / 2 ^ 10 % 4
    let sm := fc / 2 ^ 14 % 4
    let v2 := version == 2
    if version = 3 ∨ 3 < fc % 8 ∨ dm = 1 ∨ sm = 1 then none
    else
      let (hasDp, hasSp) := panFields version dm sm (fc.testBit 6)
      match optField b e 2 1 (!(v2 && fc.testBit 8)) with
      | none => none
      | some (seq, o) =>
      match optField b e o 2 hasDp with
      | none => none
      | some (dp, o) =>
      match leAt b e o (addrLen dm) with
      | none => none
      | some dst =>
      match optField b e (o + addrLen dm) 2 hasSp with
      | none => none
      | some (sp, o) =>
      match leAt b e o (addrLen sm) with
      | none => none
      | some src =>
        let o := o + addrLen sm
        let f : MacFrame := {
          ftype := fc % 8, version := version, security := fc.testBit 3, ackReq := fc.testBit 5, seq := seq
          dstPan := dp, dstMode := dm, dst := dst, srcPan := sp, srcMode := sm, src := src, auxAt := o, hdrEnd := o }
        if f.security then
          match parseAux b e o v2 with
          | none => none
          | some (lvl, km, ctr, o) => some { f with secLevel := lvl, keyMode := km, counter := ctr, hdrEnd := o }
        else some f

/-- The whole MAC frame of a PSDU whose bytes before the FCS end at `e`: header, header IEs, and the bounds of what follows them. -/
def parseMac (b : List Byte) (e : Nat) : Option MacFrame :=
  match parseHeader b e with
  | none => none
  | some f =>
    let e := e - (if f.security then micLen f.secLevel else 0)
    if e < f.hdrEnd then none
    else
      let fc := ofLe (b.take 2)
      if f.version == 2 && fc.testBit 9 then
        match parseIes b e e f.hdrEnd with
        | none => none
        | some (ies, o, pay) => some { f with ies := ies, bodyAt := o, bodyEnd := e, payIes := pay }
      else some { f with bodyAt := f.hdrEnd, bodyEnd := e }

/-- Where the 256 bytes after the auxiliary security header end that a header job decrypts, the MIC left out (R248). -/
def MacFrame.headLim (m : MacFrame) : Nat := min m.bodyEnd (m.hdrEnd + 256)

/-- The source address as the frame carried it: its mode and its bytes (R144, condition 6). -/
def MacFrame.srcBytes (f : MacFrame) : List Byte := BitVec.ofNat 8 f.srcMode :: leBytes (addrLen f.srcMode) f.src

/-- The time correction IE of an acknowledgement: the correction field and the NACK bit (R147). -/
def MacFrame.timeCorr (f : MacFrame) (b : List Byte) : Option (Nat × Bool) :=
  (f.ies.find? fun e => e.1 == 0x1E && decide (2 ≤ e.2.2)).map fun e =>
    let v := ofLe ((b.drop e.2.1).take 2)
    (v % 2 ^ 12, v.testBit 15)

/-! ## Building frames -/

/-- A header IE. -/
def hdrIe (id : Nat) (c : List Byte) : List Byte := leBytes 2 (id * 128 + c.length) ++ c

/-- A payload IE. -/
def payIe (group : Nat) (c : List Byte) : List Byte := leBytes 2 (2 ^ 15 + group * 2 ^ 11 + c.length) ++ c

/-- A short nested MLME IE. -/
def nestedIe (sub : Nat) (c : List Byte) : List Byte := leBytes 2 (sub * 256 + c.length) ++ c

/-- A long nested MLME IE. -/
def nestedLongIe (sub : Nat) (c : List Byte) : List Byte := leBytes 2 (2 ^ 15 + sub * 2 ^ 11 + c.length) ++ c

/-- The MAC header of a frame of version 2 with PAN ID compression, IEs present, and an auxiliary security header of key
identifier mode 0 when `lvl` is not 0; the frame counter is left 0 for Grotto to write (R251). -/
def buildHeader (ftype lvl : Nat) (seq : Option Nat) (pan dstMode dst srcMode src : Nat) : List Byte :=
  let fc := ftype + (if lvl = 0 then 0 else 8) + 64 + (if seq.isNone then 256 else 0) + 512 + dstMode * 2 ^ 10 + 2 * 2 ^ 12 +
    srcMode * 2 ^ 14
  let (hasDp, hasSp) := panFields 2 dstMode srcMode true
  leBytes 2 fc ++ (match seq with | some n => leBytes 1 n | none => []) ++ (if hasDp then leBytes 2 pan else []) ++
    leBytes (addrLen dstMode) dst ++ (if hasSp then leBytes 2 pan else []) ++ leBytes (addrLen srcMode) src ++
    (if lvl = 0 then [] else leBytes 1 lvl ++ leBytes 4 0)

/-- Room for the MIC and the FCS, as zeros (R79, R251). -/
def tailRoom (lvl fcs : Nat) : List Byte := List.replicate (micLen lvl + fcs) 0

/-- The Enh-Ack of R146, with the correction of R147 as its 12-bit field. Where the frame carries no source address there is no destination PAN ID and
no destination address (DESIGN CHOICE, log entry 157). -/
def buildAck (rx : MacFrame) (corr pan short : Nat) (secured : Bool) (fcs : Nat) : List Byte :=
  let lvl := if secured then 1 else 0
  buildHeader 2 lvl rx.seq pan rx.srcMode rx.src 2 short ++ hdrIe 0x1E (leBytes 2 corr) ++ tailRoom lvl fcs

/-- A broadcast data frame with one vendor-specific payload IE after Header Termination 1 (R165, R465). -/
def buildVendor (lvl pan short fcs : Nat) (c : List Byte) : List Byte :=
  buildHeader 1 lvl none pan 2 0xFFFF 2 short ++ hdrIe 0x7E [] ++ payIe 2 c ++ tailRoom lvl fcs

end Sys2Proof.Machine
end

