-- ==== Sys2Proof/Machine/Eddy.lean ====
section
/-! DEFINITION. Eddy's decision at an injection point (R517–R520): drop, corrupt, hold. The registers and commands of Eddy are in Obs. -/

namespace Sys2Proof.Machine

/-- A frame or message on its way through a point: its bytes, its arrival in service time, and its ASN. -/
structure Passing where
  bytes : List Byte
  ts    : Nat
  asn   : Nat
  deriving DecidableEq, Repr

/-- One step of a point's LFSR (R519). -/
def lfsrStep (x : BitVec 32) : BitVec 32 := (x >>> 1) ^^^ (if x.getLsbD 0 then 0x80200003 else 0)

/-- 32 steps (R519). -/
def lfsrNext (x : BitVec 32) : BitVec 32 := (List.range 32).foldl (fun y _ => lfsrStep y) x

/-- An injection point. -/
def State.point (s : State) (k : Nat) : EddyPoint := SMap.getD s.obs.eddy k {}

/-- Set an injection point. -/
def State.setPoint (s : State) (k : Nat) (p : EddyPoint) : State :=
  { s with obs := { s.obs with eddy := SMap.put s.obs.eddy k p } }

/-- Draw the next 32 bits of a point (R519). -/
def State.next32 (s : State) (k : Nat) : Nat × State :=
  let x := lfsrNext (s.point k).lfsr
  (x.toNat, s.setPoint k { s.point k with lfsr := x })

/-- A point acts: OPEN is set and so is its EN (R518). -/
def State.pointOn (s : State) (k : Nat) : Bool := s.flag F.OBS_STAT_OPEN && s.flag F.OBS_EDDY_CFG_EN k

/-- A fault counts (R519). -/
def State.eddyCount (s : State) : State := s.bump F.OBS_CNT_EDDY_COUNT

/-- A byte string with bit `b` flipped (R519). -/
def flipBit (bs : List Byte) (b : Nat) : List Byte :=
  let o := b / 8
  bs.take o ++ ((bs.getD o 0) ^^^ BitVec.ofNat 8 (2 ^ (b % 8))) :: bs.drop (o + 1)

/-- A frame passes a point: the frame held there counts it, and follows it when it was the last of its REORD_N + 1 (R520). -/
def State.passPoint (s : State) (k : Nat) (f : Passing) : List Passing × State :=
  match (s.point k).held with
  | none => ([f], s)
  | some h =>
    if h.left ≤ 1 then ([f, ⟨h.bytes, h.ts, h.asn⟩], s.setPoint k { s.point k with held := none })
    else ([f], s.setPoint k { s.point k with held := some { h with left := h.left - 1 } })

/-- The corruption draw (R519). -/
def State.eddyCorrupt (s : State) (k r : Nat) (fix : List Byte → List Byte) (f : Passing) : Passing × State :=
  if r / 2 ^ 16 < s.fld F.OBS_EDDY_P_CORR_P k ∧ f.bytes ≠ [] then
    let (b, s) := s.next32 k
    let bs := flipBit f.bytes (b % (8 * f.bytes.length))
    ({ f with bytes := if s.flag F.OBS_EDDY_CFG_FIX_CHECK k then fix bs else bs }, s.eddyCount)
  else (f, s)

/-- A frame or message that reaches point `k` now is dropped (R519). -/
def State.eddyDrops (s : State) (k : Nat) : Bool :=
  s.pointOn k && decide ((s.next32 k).1 % 2 ^ 16 < s.fld F.OBS_EDDY_P_DROP_P k)

/-- A frame or message reaches point `k` (R519, R520): what goes on from there, in order. `fix` recomputes its check. -/
def State.eddyAt (s : State) (k : Nat) (fix : List Byte → List Byte) (f : Passing) : List Passing × State :=
  if !s.pointOn k then ([f], s)
  else
    let (r, s) := s.next32 k
    if r % 2 ^ 16 < s.fld F.OBS_EDDY_P_DROP_P k then ([], s.eddyCount)
    else
      let (f, s) := s.eddyCorrupt k r fix f
      let (q, s) := s.next32 k
      if q % 2 ^ 16 < s.fld F.OBS_EDDY_P_REORD_P k ∧ (s.point k).held = none then
        let h : EddyHeld := ⟨f.bytes, f.ts, f.asn, s.fld F.OBS_EDDY_CFG_REORD_N k + 1, s.clp.now⟩
        ([], (s.setPoint k { s.point k with held := some h }).eddyCount)
      else s.passPoint k f

/-- A frame that a point holds is released unchanged (R518, R520): the frame, and the point without it. -/
def State.unhold (s : State) (k : Nat) : Option Passing × State :=
  match (s.point k).held with
  | some h => (some ⟨h.bytes, h.ts, h.asn⟩, s.setPoint k { s.point k with held := none })
  | none => (none, s)

end Sys2Proof.Machine
end

