-- ==== Sys2Proof/Machine/Plume.lean ====
section
/-! DEFINITION. Receive commands: windows, chain states, rills and receptions (02_receive_plume.md, R20–R65). -/

namespace Sys2Proof.Machine

/-- Let `dt` ns pass before an event that comes from outside. -/
def State.after (s : State) (dt : Nat) : State := s.advance dt

/-- An input filter that rejects levels of up to `no` ns and accepts those of `yes` ns or more, in between either (R537): whether it takes one of
`held` ns. -/
def State.filtered (s : State) (no yes held : Nat) : Bool × State :=
  if held ≤ no then (false, s)
  else if yes ≤ held then (true, s)
  else
    let (v, s) := s.fresh
    (v.testBit 0, s)

/-! ## Sampling and windows -/

/-- One aerial's clipped interval: its event and its counter (R21). -/
def State.clip (s : State) (j : Nat) (evt cnt : Fld) : State := (s.bump cnt 1 j).raise evt j

/-- CLIP_INTERVAL (R21): a 1 µs interval ends in which aerial A, or B, reached full scale. The ADCs sample while the chain is
Primed or Listening. -/
def execClipInterval (dt j : Nat) (a b : Bool) (s : State) : Out :=
  let s := s.after dt
  .next (s.on (decide (1 ≤ s.chainState j)) fun s =>
    (s.on a fun s => s.clip j F.PLM_EVT_CLIP_A F.PLM_CNT_CLIP_A_COUNT).on b fun s =>
      s.clip j F.PLM_EVT_CLIP_B F.PLM_CNT_CLIP_B_COUNT)

/-- The chain is Listening, or enters Listening at this instant (R63). -/
def State.listening (s : State) (j : Nat) : Bool :=
  s.chainState j == 2 || (s.chainState j == 1 && s.chainAsked j == 2 && decide ((s.plmChain j).listenAt ≤ s.clp.now))

/-- A write of PLM_WINDOW (R23, R63): it takes effect only while the chain is Parked or Primed. -/
def State.plmWindowWrite (s : State) (j : Nat) (d : Word) : State :=
  if s.listening j then s.raise F.PLM_EVT_CFG_IGNORED j
  else (s.setFld F.PLM_WINDOW_CENTRE_KHZ d.toNat j).chainAsk j

/-- PLM_WINDOW_WRITE (R22, R23). -/
def execPlmWindowWrite (j : Nat) (d : Word) (s : State) : Out := .next (s.powered fun s => s.plmWindowWrite j d)

/-- A write of PLM_CHAIN_CTL (R38, R55): the receive options as written, and the request followed. -/
def State.plmChainCtlWrite (s : State) (j : Nat) (d : Word) : State :=
  (((s.setFld F.PLM_CHAIN_CTL_TARGET (bits d.toNat 0 2) j).setFld F.PLM_CHAIN_CTL_AER_MODE (bits d.toNat 4 2) j).setFld
    F.PLM_CHAIN_CTL_FCSFAIL_CMPL (bits d.toNat 8 1) j).chainAsk j

/-- PLM_CHAIN_CTL_WRITE (R55). -/
def execPlmChainCtlWrite (j : Nat) (d : Word) (s : State) : Out := .next (s.powered fun s => s.plmChainCtlWrite j d)

/-! ## Chain states (R55–R58) -/

/-- CHAIN_PRIMED (R22, R56): 56 µs after the request, the converter PLL is locked, the ADCs are calibrated, the filters have filled; with an
invalid centre the chain stays Parked. -/
def execChainPrimed (j : Nat) (s : State) : Out :=
  match (s.plmChain j).primedAt with
  | some t =>
    if s.chainState j = 0 ∧ centreOk (s.fld F.PLM_WINDOW_CENTRE_KHZ j) = true then
      let s := s.advanceTo t
      let s := s.setPlmChain j { s.plmChain j with primedAt := none }
      let s := (s.setFld F.PLM_CHAIN_STAT_CONV_LOCK 1 (2 * (j / 2))).setFld F.PLM_CHAIN_STAT_CONV_LOCK 1 (2 * (j / 2) + 1)
      .next ((s.setFld F.PLM_CHAIN_STAT_ADC_CAL_OK 1 j).setChainState j 1)
    else .next s
  | none => .next s

/-- CHAIN_LISTENING (R56): 4 µs after Primed, or after the request to a Primed chain, every enabled rill's detectors start. -/
def execChainListening (j : Nat) (s : State) : Out :=
  if s.chainState j = 1 ∧ s.chainAsked j = 2 then
    let s := (s.advanceTo (s.plmChain j).listenAt).setChainState j 2
    .next (s.forRills fun s n => if s.rillState j n = 0 then s.rillRestart j n else s)
  else .next s

/-- CHAIN_LEAVE_LISTENING (R57, R63): at the end of a cycle in which no rill has a claim or an accepted frame, a chain no longer asked to listen
leaves. -/
def execChainLeaveListening (j : Nat) (s : State) : Out :=
  if s.chainState j = 2 ∧ s.chainAsked j < 2 ∧ s.rillsBusy j = 0 then
    let s := s.endCycle.setChainState j 1
    .next (s.forRills fun s n => s.rillRestart j n)
  else .next s

/-- CHAIN_PARKED (R57, R63, R419): Primed to Parked within 2 µs, a free time that ends no cycle but a later one, unless a transmit request holds the chain; the converter PLL
stops when both chains of the pair are Parked. ADC_CAL_OK reads 0 from then on (DESIGN CHOICE, log entry 102). -/
def execChainParked (j : Nat) (s : State) : Out :=
  if s.chainState j = 1 ∧ s.chainAsked j = 0 ∧ s.idleNow j = true then
    let (v, s) := s.fresh
    let s := ((s.after (1 + v % 2000)).setChainState j 0).setFld F.PLM_CHAIN_STAT_ADC_CAL_OK 0 j
    let k := 2 * (j / 2)
    .next (s.on (s.chainState k == 0 && s.chainState (k + 1) == 0) fun s =>
      (s.setFld F.PLM_CHAIN_STAT_CONV_LOCK 0 k).setFld F.PLM_CHAIN_STAT_CONV_LOCK 0 (k + 1))
  else .next s

/-- CONV_LOCK as it reads (R56): set 20 µs into a start of either chain of the pair. -/
def State.convLock (s : State) (j : Nat) : Bool :=
  s.flag F.PLM_CHAIN_STAT_CONV_LOCK j || [2 * (j / 2), 2 * (j / 2) + 1].any fun i =>
    match (s.plmChain i).primedAt with
    | some t => decide (t ≤ s.clp.now + 36000)
    | none => false

/-- ADC_CAL_OK as it reads (R56): set 48 µs into a start. -/
def State.adcCalOk (s : State) (j : Nat) : Bool :=
  s.flag F.PLM_CHAIN_STAT_ADC_CAL_OK j ||
    match (s.plmChain j).primedAt with
    | some t => decide (t ≤ s.clp.now + 8000)
    | none => false

/-! ## Rills (R59–R62) -/

/-- The sniff list of a rill. -/
def State.sniffList (s : State) (j n : Nat) : List Nat :=
  [s.fld F.PLM_RILL_CFG_MODE0 j n, s.fld F.PLM_RILL_CFG_MODE1 j n, s.fld F.PLM_RILL_CFG_MODE2 j n].take
    (s.fld F.PLM_RILL_CFG_SNIFF_CNT j n)

/-- A rill's bandwidth in Hz (R27). -/
def State.rillBw (s : State) (j n : Nat) : Nat := (s.fld F.PLM_RILL_CFG_RBW j n + 1) * 100000

/-- The code of the first enable check that fails, 0 when all pass (R59). -/
def State.rillCheck (s : State) (j n : Nat) : Nat :=
  let centre := s.fld F.PLM_WINDOW_CENTRE_KHZ j
  let list := s.sniffList j n
  let off := s.sfld F.PLM_RILL_FREQ_OFFSET_HZ j n
  let bw : Int := s.rillBw j n
  let mid : Int := centre * 1000 + off
  if !centreOk centre then 5
  else if list.isEmpty || !list.all s.phyValid || !decide list.Nodup then 1
  else if 24 ≤ s.fld F.PLM_RILL_CFG_RBW j n || !list.all fun m => decide (s.phyMinBw m ≤ s.rillBw j n) then 2
  else if 122880000 < 2 * |off| + bw then 3
  else if 2 * mid - bw < 760000000 ∨ 14400000000 < 2 * mid + bw then 4
  else 0

/-- EN going from 0 to 1 (R59). -/
def State.rillEnable (s : State) (j n : Nat) : State :=
  let code := s.rillCheck j n
  let s := s.setFld F.PLM_RILL_STAT_REFUSE code j n
  if code = 0 then
    let s := s.setFld F.PLM_RILL_CFG_EN 1 j n
    if s.rillState j n = 0 then s.rillRestart j n else s
  else s.raise F.PLM_EVT_MODE_REFUSED j

/-- Clearing EN (R61); in the cycle of a detection there is no claim and nothing counts (R63). -/
def State.rillDisable (s : State) (j n : Nat) : State :=
  let s := s.setFld F.PLM_RILL_CFG_EN 0 j n
  match s.rillState j n with
  | 3 => s
  | 2 =>
    let now := (s.rill j n).claim.any fun c => c.at_ == s.clp.now
    let back := if (s.rill j n).counted then 1 else 0
    let s := s.rillRestart j n
    if now then s.uncount F.PLM_CNT_DETECT_COUNT back j
    else s.bump F.PLM_CNT_FALSE_DET_COUNT 1 j
  | _ => s.rillRestart j n

/-- Fields other than EN take writes only while EN and STATE are 0 (R60). -/
def State.rillOpen (s : State) (j n : Nat) : Bool := !s.flag F.PLM_RILL_CFG_EN j n && s.rillState j n == 0

/-- A write of PLM_RILL_CFG_n (R59–R61): the fields other than EN first, as R60 allows; then EN. -/
def State.rillCfgWrite (s : State) (j n : Nat) (d : Word) : State :=
  let old := (s.reg .PLM_RILL_CFG j n).toNat
  let new := bits d.toNat 0 28
  let en := s.flag F.PLM_RILL_CFG_EN j n
  let s :=
    if otherFields old = otherFields new then s
    else if s.rillOpen j n then s.setReg .PLM_RILL_CFG j n (BitVec.ofNat 64 (2 * otherFields new + old % 2))
    else s.raise F.PLM_EVT_CFG_IGNORED j
  match en, new % 2 == 1 with
  | false, true => s.rillEnable j n
  | true, false => s.rillDisable j n
  | _, _ => s

/-- A write of PLM_RILL_FREQ_n or PLM_RILL_LIM_n (R60). -/
def State.rillParamWrite (s : State) (id : RegId) (mask : Word) (j n : Nat) (d : Word) : State :=
  if s.rillOpen j n then s.setReg id j n (d &&& mask) else s.raise F.PLM_EVT_CFG_IGNORED j

/-- A write of PLM_RILL_FREQ_n. -/
def State.rillFreqWrite (s : State) (j n : Nat) (d : Word) : State := s.rillParamWrite .PLM_RILL_FREQ 0x07FFFFFF j n d

/-- A write of PLM_RILL_LIM_n. -/
def State.rillLimWrite (s : State) (j n : Nat) (d : Word) : State := s.rillParamWrite .PLM_RILL_LIM 0x00FF07FF j n d

/-- RILL_ENABLE (R59): a write of PLM_RILL_CFG_n with EN 1 (the other fields as `d` gives them). -/
def execRillEnable (j n : Nat) (d : Word) (s : State) : Out := .next (s.powered fun s => s.rillCfgWrite j n (d ||| 1))

/-- RILL_DISABLE (R61): a write of PLM_RILL_CFG_n with EN 0. -/
def execRillDisable (j n : Nat) (d : Word) (s : State) : Out := .next (s.powered fun s => s.rillCfgWrite j n (d &&& ~~~1))

/-- RILL_CONFIG_WRITE (R60): a write of PLM_RILL_CFG_n with EN as it stands (`which` 0), of PLM_RILL_FREQ_n (1) or of
PLM_RILL_LIM_n (2 and above). -/
def execRillConfigWrite (which j n : Nat) (d : Word) (s : State) : Out :=
  match which with
  | 0 => .next (s.powered fun s => s.rillCfgWrite j n (if s.flag F.PLM_RILL_CFG_EN j n then d ||| 1 else d &&& ~~~1))
  | 1 => .next (s.powered fun s => s.rillFreqWrite j n d)
  | _ => .next (s.powered fun s => s.rillLimWrite j n d)

/-- A write of PLM_PHY_MODE_m (R62, R78). -/
def State.phyModeWrite (s : State) (m : Nat) (d : Word) : State :=
  if s.modeInUse m then s.raise F.PLM_GLB_EVT_MODE_WR_IGNORED
  else s.setReg .PLM_PHY_MODE m 0 (d &&& 0xF03FFFF7)

/-- PHY_MODE_WRITE (R62). -/
def execPhyModeWrite (m : Nat) (d : Word) (s : State) : Out := .next (s.powered fun s => s.phyModeWrite m d)

/-! ## Receptions (R32–R51) -/

/-- What one detector has heard when it may declare: its sniff-list position, how many consecutive preamble symbols correlated, and the
preamble's signal-to-noise ratio on aerial A and on aerial B, in 1/8 dB (R32). -/
abbrev PreambleHit := Nat × Nat × Int × Int

/-- A preamble of this signal-to-noise ratio (in 1/8 dB) lies above the rill's threshold (R32). -/
def State.overThreshold (s : State) (j n : Nat) (snr8 : Int) : Bool :=
  decide (8 * ((s.fld F.PLM_RILL_CFG_DET_THR j n : Int) - 6) < snr8)

/-- The aerials on which a detector declares detection (R32, R38): enough symbols, but for MR-OFDM, whose short training field is one
detection; a ratio above the threshold; on the aerials that AER_MODE admits. -/
def State.heardOn (s : State) (j n : Nat) (h : PreambleHit) : Bool × Bool :=
  let m := (s.sniffList j n).getD h.1 0
  let r := s.rill j n
  let long := s.fld F.PLM_PHY_MODE_TYPE m == 3 || decide (max 4 (s.fld F.PLM_PHY_MODE_PRE_SYMS m) ≤ h.2.1)
  (long && r.aerMode != 2 && s.overThreshold j n h.2.2.1, long && r.aerMode != 1 && s.overThreshold j n h.2.2.2)

/-- PREAMBLE_DETECT (R32, R33, R37, R38): of the detectors that declare detection in one cycle, the one at the lowest sniff-list position
claims the rill. Only a sniffing rill of a chain that is still asked to listen detects (R57). `ps`: position and symbols of each
detector; `snrA`, `snrB`: the ratios it measures on aerials A and B. Until the aerial is fixed, AER reads 0 where both are admitted (DESIGN
CHOICE, log entry 135). -/
def execPreambleDetect (dt j n : Nat) (ps : List (Nat × Nat)) (snrA snrB : List Int) (s : State) : Out :=
  let s := s.after dt
  let r := s.rill j n
  let hits : List PreambleHit := (ps.zip (snrA.zip snrB)).map fun x => (x.1.1, x.1.2, x.2.1, x.2.2)
  let declared := hits.filter fun h => decide (h.1 < s.fld F.PLM_RILL_CFG_SNIFF_CNT j n) && ((s.heardOn j n h).1 || (s.heardOn j n h).2)
  match (declared.map fun h => h.1).min? with
  | some p =>
    if s.rillState j n = 1 ∧ s.chainAsked j = 2 then
      let on := declared.filter fun h => h.1 == p
      let a := on.any fun h => (s.heardOn j n h).1
      let b := on.any fun h => (s.heardOn j n h).2
      let one := r.aerMode = 1 ∨ r.aerMode = 2
      let s := s.setRill j n { r with
        claim := some { at_ := s.clp.now, heardA := a, heardB := b, fixed := decide one }
        counted := decide (s.fld F.PLM_CNT_DETECT_COUNT j < 0xFFFFFFFF) }
      let s := (s.setFld F.PLM_RILL_STAT_STATE 2 j n).setFld F.PLM_RILL_STAT_MODE_IDX p j n
      .next ((s.setFld F.PLM_RILL_STAT_AER (if r.aerMode = 2 then 1 else 0) j n).bump F.PLM_CNT_DETECT_COUNT 1 j)
    else .next s
  | none => .next s

/-- The PHY mode entry of a claim, and the time of `k` of its symbols in ns. -/
def State.claimMode (s : State) (j n : Nat) : Nat := (s.sniffList j n).getD (s.fld F.PLM_RILL_STAT_MODE_IDX j n) 0

/-- The elapsed instant `k` symbols after a claim's detection. -/
def State.symbolsAfter (s : State) (j n : Nat) (c : Claim) (k : Nat) : Nat := c.at_ + s.symbolsNs (s.claimMode j n) k

/-- The claim's mode is MR-OFDM. -/
def State.claimOfdm (s : State) (j n : Nat) : Bool := s.fld F.PLM_PHY_MODE_TYPE (s.claimMode j n) == 3

/-- The elapsed instant at which the search of a claim ends: SFD_WAIT symbols after detection, below 16 as 16 (R34). -/
def State.sfdEnd (s : State) (j n : Nat) (c : Claim) : Nat := s.symbolsAfter j n c (max 16 (s.fld F.PLM_RILL_LIM_SFD_WAIT j n))

/-- Fix the aerial of a claim. -/
def State.fixAerial (s : State) (j n : Nat) (c : Claim) (toB : Bool) : State :=
  (s.setRill j n { s.rill j n with claim := some { c with fixed := true } }).setFld F.PLM_RILL_STAT_AER (cond toB 1 0) j n

/-- The forced choice (R36, R37): the aerial with the higher metric, A on a tie; an aerial that did not hear the preamble has a
metric of minus infinity. -/
def Claim.takesB (c : Claim) (mA mB : Int) : Bool := c.heardB && (!c.heardA || decide (mA < mB))

/-- AERIAL_CHOICE (R36): at the boundary of symbol `k` after detection, 4 at least and before the forced choice at 16, one aerial's metric
(in 0.5 dB) exceeds the other's by AER_HYST. A boundary that has passed chooses nothing. -/
def execAerialChoice (j n k : Nat) (mA mB : Int) (s : State) : Out :=
  match (s.rill j n).claim with
  | some c =>
    if s.rillState j n = 2 ∧ c.fixed = false ∧ 4 ≤ k ∧ k < 16 ∧ s.clp.now ≤ s.symbolsAfter j n c k then
      let s := s.advanceTo (s.symbolsAfter j n c k)
      let h : Int := s.fld F.PLM_RILL_CFG_AER_HYST j n
      if c.heardA && (!c.heardB || (decide (mB + h ≤ mA) && decide (mB < mA))) then .next (s.fixAerial j n c false)
      else if c.heardB && (!c.heardA || (decide (mA + h ≤ mB) && decide (mA < mB))) then .next (s.fixAerial j n c true)
      else .next s
    else .next s
  | none => .next s

/-- AERIAL_CHOICE_FORCED (R36): 16 preamble symbols after detection, or at `dt` where that is later, the higher metric wins, A on a tie. -/
def execAerialChoiceForced (dt j n : Nat) (mA mB : Int) (s : State) : Out :=
  let s := s.after dt
  match (s.rill j n).claim with
  | some c =>
    if s.rillState j n = 2 ∧ c.fixed = false then
      .next ((s.advanceTo (s.symbolsAfter j n c 16)).fixAerial j n c (c.takesB mA mB))
    else .next s
  | none => .next s

/-- SFD_TIMEOUT (R34): at the end of the search, or, for MR-OFDM, `dt` ns on at the position that the short training field predicts, the
claim is released and counted, and the detectors restart. -/
def execSfdTimeout (dt j n : Nat) (s : State) : Out :=
  match (s.rill j n).claim with
  | some c =>
    if s.rillState j n = 2 ∧ c.sfd = none then
      let s := if s.claimOfdm j n then s.after dt else s.advanceTo (s.sfdEnd j n c)
      .next ((s.rillRestart j n).bump F.PLM_CNT_FALSE_DET_COUNT 1 j)
    else .next s
  | none => .next s

/-- `num / den` rounded to the nearest integer; a tie, whose side the manual does not state, falls as `up` says. -/
def roundNearest (num den : Int) (up : Bool) : Int :=
  let r := 2 * num + den
  if r % (2 * den) = 0 ∧ up = false then r / (2 * den) - 1 else r / (2 * den)

/-- Saturate to 8-bit two's complement, as the byte that carries it. -/
def sat8 (x : Int) : Nat := toPattern 8 (max (-128) (min 127 x))

/-- LQI of an SNR given in 1/8 dB: min(255, max(0, 8 × (SNR + 5))) (R50). -/
def lqiOf (snr8 : Int) : Nat := (max 0 (min 255 (snr8 + 40))).toNat

/-- The timestamp error that R46 allows, in ns either way: 50 ns and 2 % of one symbol for a frame at least 10 dB above the sensitivity of
R54, taken as −108 dBm in every mode; nothing is stated of weaker ones (DEDUCED, log entry 105). `pwr` is in 0.5 dBm. -/
def State.stampErr (s : State) (j n : Nat) (pwr err : Int) : Int :=
  let lim : Int := 50 + s.symbolsNs (s.claimMode j n) 1 / 50
  if -196 ≤ pwr then max (-lim) (min lim err) else err

/-- SFD_FOUND (R35, R36, R45–R51): before the search ends, the choice of the aerial is forced if still open; the rill locks; Clepsydra stamps the PHR
start (in error by `err` ns within R46) plus TS_ADJ, modulo 2³²; the measurements are taken: power at the ball in 0.5 dBm, SNR in 1/8 dB and
carrier offset in Hz on the chosen aerial. -/
def execSfdFound (dt j n : Nat) (mA mB err pwr snr8 foHz : Int) (s : State) : Out :=
  let s := s.after dt
  match (s.rill j n).claim with
  | some c =>
    if s.rillState j n = 2 ∧ c.sfd = none ∧ (s.claimOfdm j n = true ∨ s.clp.now ≤ s.sfdEnd j n c) then
      let s := if c.fixed then s else s.fixAerial j n c (c.takesB mA mB)
      let onB := s.flag F.PLM_RILL_STAT_AER j n
      let at_ := s.fullNs + s.stampErr j n pwr err + s.sfld F.PLM_CAL_TS_ADJ j
      let adj := if onB then s.sfld F.PLM_CAL_RSSI_OFF_B j else s.sfld F.PLM_CAL_RSSI_OFF_A j
      let (v, s) := s.fresh
      let info : SfdInfo := {
        ts := toPattern 32 at_
        fullNs := at_.toNat
        asn := if 0 ≤ at_ then s.asnOf at_.toNat else noAsn
        rssi := sat8 (roundNearest (pwr + adj) 2 (v.testBit 0))
        lqi := lqiOf snr8
        fo := sat8 (roundNearest (foHz * 256) (s.rillBw j n) (v.testBit 1)) }
      .next (s.setRill j n { s.rill j n with claim := some { c with fixed := true, sfd := some info } })
    else .next s
  | none => .next s

/-- A rejected PHR (R30, R39): counted, and the rill sniffs again. -/
def State.phrReject (s : State) (j n : Nat) : State := (s.rillRestart j n).bump F.PLM_CNT_PHR_REJECT_COUNT 1 j

/-- PHR_RECEIVED (R29, R30, R39, R40, R43): length, mode-switch bit, the PHR's own check where its PHY has one, the MR-FSK FCS type and
the MR-OFDM MCS, which the standard has to permit for the option. An accepted PHR reserves cells for the whole PSDU and opens the frame. -/
def execPhrReceived (dt j n len mcs : Nat) (modeSwitch checkOk fcs32 : Bool) (s : State) : Out :=
  let s := s.after dt
  match (s.rill j n).claim with
  | some c =>
    match c.sfd with
    | some info =>
      if s.rillState j n = 2 then
        let bad := s.claimOfdm j n && !ofdmMcsOk (s.fld F.PLM_PHY_MODE_RATE (s.claimMode j n)) mcs
        if modeSwitch || !checkOk || bad || len == 0 || decide (s.fld F.PLM_RILL_LIM_MAX_PSDU j n < len) then
          .next (s.phrReject j n)
        else
          match s.alloc len with
          | (none, s) =>
            .next (((s.rillRestart j n).bump F.PLM_CNT_NO_CELL_COUNT 1 j).raise F.PLM_EVT_NO_CELL j)
          | (some cells, s) =>
            let idx := s.fld F.PLM_RILL_STAT_MODE_IDX j n
            let phy := s.claimMode j n
            let aer := s.fld F.PLM_RILL_STAT_AER j n
            let f : RxFrame := {
              chain := j, rill := n, aer := aer, modeIdx := idx, phy := phy, mcs := mcs, len := len
              fcsLen := s.rxFcsLen phy fcs32, cells := cells, sfd := info }
            let id := s.slc.nextRx
            let s := { s with slc := { s.slc with nextRx := id + 1 } }.setRx id f
            let s := s.setRill j n { s.rill j n with claim := some { c with frame := some id } }
            .next ((s.setFld F.PLM_RILL_STAT_STATE 3 j n).bump
              (if aer = 1 then F.PLM_CNT_AER_B_COUNT else F.PLM_CNT_AER_A_COUNT) 1 j)
      else .next s
    | none => .next s
  | none => .next s

/-- The byte that comes next goes to the frame's cells as a whole word, the bytes still to come padded with zeros (R42, R443). -/
def State.putByte (s : State) (id : Nat) (f : RxFrame) (b : Byte) : State :=
  let k := f.bytes.length
  let bytes := f.bytes ++ [b]
  (s.setRx id { f with bytes := bytes }).memWrite 0 (frameAddr f.cells k / 8) (ofLe (bytes.drop (8 * (k / 8))))

/-- The last FCS byte of a frame that a blanking interval closed in this cycle: the frame ends with its FCS result, not BLANKED (R63). -/
def State.lastByte (s : State) (j n : Nat) (b : Byte) : State :=
  match (s.rill j n).cut with
  | some (t, id, moved) =>
    match s.rx id with
    | some f =>
      if t = s.clp.now ∧ f.closed = some .blanked ∧ f.bytes.length + 1 = f.len then
        let g := { f with bytes := f.bytes ++ [b] }
        let s := (s.putByte id f b).setRx id { g with closed := some (if g.fcsOk then .ok else .fcsFail) }
        let s := s.on moved fun s => s.uncount F.PLM_CNT_BLANKED_COUNT 1 j
        (s.setRill j n { s.rill j n with cut := none }).on (!g.fcsOk) fun s => s.bump F.PLM_CNT_FCS_FAIL_COUNT 1 j
      else s
    | none => s
  | none => s

/-- PSDU_BYTE (R42, R63, R443). -/
def execPsduByte (dt j n : Nat) (b : Byte) (s : State) : Out :=
  let s := s.after dt
  match s.rillFrame j n with
  | some (id, f) =>
    if s.rillState j n = 3 ∧ f.bytes.length < f.len then .next (s.putByte id f b) else .next s
  | none => .next (s.lastByte j n b)

/-- FRAME_END (R42, R43): after the last FCS byte the rill closes the frame to Sluice as OK or FCS_FAIL. -/
def execFrameEnd (dt j n : Nat) (s : State) : Out :=
  let s := s.after dt
  match s.rillFrame j n with
  | some (_, f) =>
    if s.rillState j n = 3 ∧ f.bytes.length = f.len then .next (s.endRx j n f) else .next s
  | none => .next s

end Sys2Proof.Machine
end

