-- ==== Sys2Proof/Machine/Txf.lean ====
section
/-! DEFINITION. Transmit commands (03_transmit_fem.md, R66–R104): synthesisers, carriers, the charter stage and the launch unit,
the commit point and the front-end sequence, coexistence. -/

namespace Sys2Proof.Machine

/-! ## Synthesiser and transmit-side states (R66–R74) -/

/-- The synthesiser band of a centre in kHz (R66). -/
def synBand (khz : Nat) : Nat :=
  ([600000, 950000, 1500000, 2300000, 3500000, 4800000, 6000000].filter (· ≤ khz)).length

/-- The stored calibration is valid (R70). -/
def State.calValid (s : State) (j : Nat) : Bool :=
  let c := s.tx j
  c.calBand == some (synBand c.centre) && !c.startCal &&
    decide (|s.txf.temp - s.sfld F.TXF_CHAIN_STAT_CAL_TEMP j| < 10)

/-- SYN_BAND and CAL_VALID follow the centre and the temperature. -/
def State.calRefresh (s : State) (j : Nat) : State :=
  (s.setFld F.TXF_CHAIN_STAT_SYN_BAND (synBand (s.tx j).centre) j).setFld F.TXF_CHAIN_STAT_CAL_VALID
    (cond (s.calValid j) 1 0) j

/-- The die temperature is sensed. -/
def State.sense (s : State) (temp : Int) : State :=
  (List.range 16).foldl (fun s j => s.calRefresh j) { s with txf := { s.txf with temp := temp } }

/-- TX_STATE of a chain: 0 Off, 1 Starting, 2 Ready. -/
def State.txState (s : State) (j : Nat) : Nat := s.fld F.TXF_CHAIN_STAT_TX_STATE j

/-- The synthesiser of a chain is locked. -/
def State.locked (s : State) (j : Nat) : Bool := s.flag F.TXF_CHAIN_STAT_LOCK j

/-- A frame's pins follow R89 from a last RF at elapsed instant `e` (R90: over the union with those of other frames). -/
def State.pinsEnd (s : State) (j e lag : Nat) : State :=
  let c := s.tx j
  s.setTx j { c with
    paOff := max c.paOff (e + lag * 1000)
    swOff := max c.swOff (e + (lag + 1) * 1000)
    lnaOn := max c.lnaOn (e + (lag + 2) * 1000) }

/-- A frame past its commit point that has not reached RF is recalled (R87, R100). -/
def State.recall (s : State) (j : Nat) (f : TxFrame) (st : Status) (frees : Bool := true) : State :=
  (s.pinsEnd j s.clp.now f.paLag).completeTx j f st 0 frees

/-- The elapsed instant of a frame's RF start, as full time runs now (R373, R374). -/
def State.rfAt (s : State) (f : TxFrame) : Nat := s.clp.now + s.nsUntilFull f.rfFull

/-- Replace the end of a PSDU by the FCS over what comes before it (R79). -/
def withFcs (n : Nat) (bs : List Byte) : List Byte :=
  let body := bs.take (bs.length - n)
  (body ++ fcsOf n body).take bs.length

/-- The bytes a frame radiates, whether its first cell, or a later one, held an uncorrectable word, and the state after the
read. -/
def State.readFrame (s : State) (cells : List Nat) (d : TxDesc) : List Byte × Bool × Bool × State :=
  let (b0, bad0, s) := s.getFrame (cells.take 1) (min 256 d.len)
  let (b1, bad1, s) := s.getFrame (cells.drop 1) (d.len - 256)
  (b0 ++ b1, bad0, bad1, s)

/-- The takeover frame's RF start makes a standby device ACTIVE (R466); slot work begins with the first slot that starts after its last RF, `air`
ns on. -/
def State.takeoverStart (s : State) (air : Nat) : State :=
  if s.fld F.TWN_STAT_ROLE = 2 then
    let t := { s.twn with act := true, expected := [], goodbye := false, handing := none, arrived := false, workFrom := s.fullNs + air }
    ({ s with twn := t }.setFld F.TWN_STAT_ROLE 3 |>.raise F.TWN_EVT_TAKEOVER).bump F.TWN_CNT_TAKEOVER_COUNT
  else s

/-- RF start of a frame (R79, R84, R119, R120, R374, R444): it leaves TXO, its PHR and FCS computed; it is metered for the entries that are live
now. An uncorrectable word in the first cell completes it POISONED with nothing sent; one in a later cell ramps it down when the path reaches it. A
chain that does not hold the frame any more completes it INTERNAL with nothing sent, and no cell is freed (R555; DEDUCED, log entry 144). -/
def State.rfStart (s : State) (j : Nat) (f : TxFrame) : State :=
  match s.chainFor f.desc.cell f.desc.len with
  | none => s.recall j f .internal false
  | some cells =>
    let (bs, bad0, bad1, s) := s.readFrame cells f.desc
    if bad0 then s.recall j f .poisoned
    else
      let (phy, mcs) := s.frameMode j f.desc.carrier f.modeSet
      let air := s.airNs phy mcs f.desc.len
      let (v, s) := s.fresh
      let bad := s.clp.now + v / 1001 % (air + 1)
      let f := { f with
        stage := .radiating
        phr := some {
          len := f.desc.len, fcs32 := s.txFcsLen j f.desc.carrier phy == 4, mcs := mcs, phy := s.reg .PLM_PHY_MODE phy 0 }
        psdu := withFcs (s.txFcsLen j f.desc.carrier phy) bs
        rfTime := s.service
        rfAsn := if s.asnValid then s.asn else noAsn
        endAt := if bad1 then min (s.clp.now + air) (bad + v % 1001) else s.clp.now + air
        badAt := if bad1 then some bad else none }
      let s := ((s.putTx j f).meterStart f.id (s.chargedTo j f.desc.carrier phy)).nearUpdate
      s.on (decide (f.origin = .takeover)) fun s => s.takeoverStart (f.endAt - s.clp.now)

/-- Every frame of a chain whose RF start is due by now starts (R102). -/
def State.rfStartDue (s : State) (j : Nat) : State :=
  ((s.tx j).frames.filter fun f => decide (f.stage = .powered) && decide (s.rfAt f ≤ s.clp.now) && s.memReady 0).foldl (fun s f => s.rfStart j f) s

/-- A radiating frame ramps down within 1 µs; its metering ends here (R122), and it completes with status `st` at the end of its
ramp, or as the abort before gave it (R87, R100). A frame whose path has met an uncorrectable word is ramping down already (R444). -/
def State.rampDown (s : State) (j : Nat) (f : TxFrame) (st : Status) : State :=
  if f.badAt.any fun t => decide (t ≤ s.clp.now) then s
  else
    let (v, s) := s.fresh
    ((s.meterStop f.id).putTx j { f with
      fate := some (f.fate.getD st), badAt := none, endAt := min f.endAt (s.clp.now + v % 1001) }).nearUpdate

/-- Every frame of a chain that is committed or radiating is aborted; one whose last RF is in this cycle completes as it was (R102). -/
def State.abortLive (s : State) (j : Nat) (st : Status) : State :=
  (s.tx j).frames.foldl (fun s f =>
    if f.stage = .radiating then (if s.clp.now < f.endAt then s.rampDown j f st else s)
    else if f.stage.live then s.recall j f st
    else s) s

/-- LOCK falls (R87); a frame whose RF starts in this cycle radiates (R102). -/
def State.lockFall (s : State) (j : Nat) : State :=
  if s.locked j then
    let s := s.rfStartDue j
    let rad := s.radiating j
    (((s.setFld F.TXF_CHAIN_STAT_LOCK 0 j).abortLive j .txSynthFault).on rad fun s => s.raise F.TXF_EVT_SYN_UNLOCK j)
  else s

/-- The synthesiser deasserts LOCK and retunes; LOCK is due after 16 µs, or 42 µs with a full calibration, and the sequence has
failed 100 µs after its start (R69, R73). A retune that meets a full calibration in progress starts it again (DESIGN CHOICE, log entry 107). -/
def State.retune (s : State) (j : Nat) (full : Bool) : State :=
  let c := s.tx j
  let full := full || (c.lockAt.isSome && c.fullCal)
  let s := (s.lockFall j).setFld F.TXF_CHAIN_STAT_CAL_BUSY 1 j
  let s := s.on full fun s => s.setFld F.TXF_CHAIN_STAT_CAL_DUE 0 j
  let c := s.tx j
  let c := if full then { c with deferAt := none, starved := false } else c
  s.setTx j { c with
    lockAt := some (s.clp.now + (if full then 42000 else 16000))
    failAt := some (s.clp.now + 100000)
    fullCal := full }

/-- FEM_PA_n releases, and with it the coexistence requests held for it (R89, R97). -/
def State.paDrop (s : State) (j : Nat) : State :=
  let c := s.tx j
  c.coexHold.foldl (fun s g => s.coexUpdate g) (s.setTx j { c with pa := false, coexHold := [] })

/-- FEM_TXSW_n releases: the blanking intervals run on for their tails (R89, R96). -/
def State.txswDrop (s : State) (j : Nat) : State :=
  let c := s.tx j
  s.setTx j { c with
    txsw := false
    blanks := c.blanks.map fun b => if b.endAt = none then { b with endAt := some (s.clp.now + b.tail * 1000) } else b }

/-- The transmit side turns Off; calibration results are kept (R70, R74). FEM_PA_n and FEM_TXSW_n are inactive from now on (R92). -/
def State.txOffNow (s : State) (j : Nat) : State :=
  let s := s.lockFall j
  let s := s.on (s.tx j).pa fun s => s.paDrop j
  let s := s.on (s.tx j).txsw fun s => (s.setTx j { s.tx j with lnaOn := s.clp.now + 1000 }).txswDrop j
  let s := ((s.setFld F.TXF_CHAIN_STAT_TX_STATE 0 j).setFld F.TXF_CHAIN_STAT_CAL_BUSY 0 j).setFld F.TXF_CHAIN_STAT_CAL_DUE 0 j
  s.setTx j { s.tx j with lockAt := none, failAt := none, deferAt := none, starved := false, idleAt := none }

/-- A window change takes effect (R67, R69): a synthesiser that runs retunes, with a full calibration where the stored one is not valid. -/
def State.applyWindow (s : State) (j khz : Nat) : State :=
  let s := (s.setTx j { s.tx j with centre := khz, heldWin := none, faultClr := true }).calRefresh j
  if !centreOk khz then
    let s := s.raise F.TXF_EVT_WINDOW_BAD j
    s.on (s.txState j != 0) fun s => s.txOffNow j
  else s.on (s.txState j != 0) fun s => s.retune j (!s.calValid j)

/-- A window change made while the transmit side was Off takes effect at its next start (R68). -/
def State.startWindow (s : State) (j : Nat) : State :=
  match (s.tx j).heldWin with
  | some khz => s.applyWindow j khz
  | none => s

/-- A CAL write takes effect: full calibration, or while Off only CAL_VALID cleared (R68, R69). -/
def State.applyCal (s : State) (j : Nat) : State :=
  let s := s.setTx j { s.tx j with heldCal := false, faultClr := true }
  if s.txState j = 0 then (s.setTx j { s.tx j with startCal := true }).calRefresh j else s.retune j true

/-- HELD_WRITE_APPLY (R68): the held writes, at the end of the last radiating frame. A held window and a held CAL do not replace each
other (DESIGN CHOICE, log entry 106). -/
def State.applyHeld (s : State) (j : Nat) : State :=
  if s.radiating j || s.txState j == 0 then s
  else (s.startWindow j).on (s.tx j).heldCal fun s => s.applyCal j

/-- A carrier of the chain radiates, or starts to in this cycle (R68, R102). -/
def State.radiatesNow (s : State) (j : Nat) : Bool :=
  s.radiating j || (s.tx j).frames.any fun f => decide (f.stage = .powered) && decide (s.rfAt f ≤ s.clp.now)

/-- A write of TXF_SYN_WINDOW (R67, R68): held while the chain radiates, and, while it is Off, until the next start. -/
def State.synWindowWrite (s : State) (j : Nat) (d : Word) : State :=
  let s := s.setFld F.TXF_SYN_WINDOW_CENTRE_KHZ d.toNat j
  let khz := bits d.toNat 0 23
  if s.txState j = 0 then s.setTx j { s.tx j with heldWin := some khz }
  else if s.radiatesNow j then (s.setTx j { s.tx j with heldWin := some khz }).raise F.TXF_EVT_CFG_HELD j
  else s.applyWindow j khz

/-- A write of TXF_SYN_CTL (R68, R71). -/
def State.synCtlWrite (s : State) (j : Nat) (d : Word) : State :=
  let s := s.setFld F.TXF_SYN_CTL_TEMP_CAL_EN (bits d.toNat 1 1) j
  if !d.getLsbD 0 then s
  else if s.radiatesNow j then (s.setTx j { s.tx j with heldCal := true }).raise F.TXF_EVT_CFG_HELD j
  else s.applyCal j

/-- SYN_WINDOW_WRITE (R68). -/
def execSynWindowWrite (j : Nat) (d : Word) (s : State) : Out := .next (s.powered fun s => s.synWindowWrite j d)

/-- CAL (R68, R69): a write of TXF_SYN_CTL with CAL 1 and TEMP_CAL_EN as given. -/
def execCal (j : Nat) (tempCalEn : Bool) (s : State) : Out := .next (s.powered fun s => s.synCtlWrite j (if tempCalEn then 3 else 1))

/-- SYN_LOCK (R69, R70, R73, R74): the running sequence reaches LOCK at die temperature `temp`; a full calibration is stored and
counted; the transmit side is Ready. -/
def execSynLock (j : Nat) (temp : Int) (s : State) : Out :=
  match (s.tx j).lockAt with
  | some t =>
    let s := (s.advanceTo t).sense temp
    let c := s.tx j
    let s := (s.setFld F.TXF_CHAIN_STAT_LOCK 1 j).setFld F.TXF_CHAIN_STAT_CAL_BUSY 0 j
    let s := s.on c.faultClr fun s => s.setFld F.TXF_CHAIN_STAT_SYN_FAULT 0 j
    let s := s.on c.fullCal fun s =>
      (s.setFld F.TXF_CHAIN_STAT_CAL_TEMP (toPattern 8 temp) j).bump F.TXF_CNT_CAL_COUNT 1 j
    let c := if c.fullCal then { c with calBand := some (synBand c.centre), startCal := false } else c
    let s := s.setTx j { c with lockAt := none, failAt := none, fullCal := false }
    let s := s.on (s.txState j == 1) fun s => s.setFld F.TXF_CHAIN_STAT_TX_STATE 2 j
    .next (s.calRefresh j)
  | none => .next s

/-- SYN_FAULT (R73): 100 µs after its start the sequence has not reached LOCK. -/
def execSynFault (j : Nat) (s : State) : Out :=
  match (s.tx j).failAt with
  | some t =>
    let s := s.advanceTo t
    let s := s.setTx j { s.tx j with lockAt := none, failAt := none, fullCal := false, faultClr := false }
    .next (((s.setFld F.TXF_CHAIN_STAT_CAL_BUSY 0 j).setFld F.TXF_CHAIN_STAT_SYN_FAULT 1 j).raise F.TXF_EVT_SYN_FAULT j)
  | none => .next s

/-- No frame of the chain stands in the way of a temperature calibration (R71): none radiates, and no held one has its commit point within
the next 200 µs. One that waits past its planned commit point commits as soon as it can, so it does (DEDUCED, log entry 108). -/
def State.calFree (s : State) (j : Nat) : Bool :=
  (s.tx j).frames.all fun f =>
    match f.stage with
    | .radiating => false
    | .held => decide (s.fullNs + 200000 < (s.planned j f).getD 0)
    | _ => true

/-- A calibration that is due and cannot start in this cycle counts as postponed, once (R71). -/
def State.calPostpone (s : State) (j : Nat) : State :=
  s.on (s.flag F.TXF_CHAIN_STAT_CAL_DUE j && (s.tx j).deferAt.isNone && !s.calFree j) fun s =>
    (s.setTx j { s.tx j with deferAt := some s.clp.now }).bump F.TXF_CNT_CAL_DEFER_COUNT 1 j

/-- TEMP_CAL_DUE (R71): the die temperature becomes `temp`; a difference of 10 °C from CAL_TEMP asks for a full calibration, even while
one runs, and it counts as postponed where it cannot start in this cycle. -/
def execTempCalDue (dt j : Nat) (temp : Int) (s : State) : Out :=
  let s := (s.after dt).sense temp
  let far := decide (10 ≤ |temp - s.sfld F.TXF_CHAIN_STAT_CAL_TEMP j|)
  if s.txState j = 2 ∧ s.flag F.TXF_SYN_CTL_TEMP_CAL_EN j = true ∧ far = true ∧ s.flag F.TXF_CHAIN_STAT_CAL_DUE j = false then
    .next ((s.setFld F.TXF_CHAIN_STAT_CAL_DUE 1 j).calPostpone j)
  else .next s

/-- TEMP_CAL_START (R71, R102): at the end of the first cycle in which nothing stands in the way. A calibration once due starts whatever TEMP_CAL_EN and the
temperature have become (DEDUCED, log entry 108). -/
def execTempCalStart (dt j : Nat) (s : State) : Out :=
  let s' := (s.after dt).endCycle
  if s'.txState j = 2 ∧ s'.flag F.TXF_CHAIN_STAT_CAL_DUE j = true ∧ s'.calFree j = true then .next (s'.retune j true)
  else .next (s.calPostpone j)

/-- CAL_STARVED (R72): the calibration has been postponed for 1 s without a break. -/
def execCalStarved (j : Nat) (s : State) : Out :=
  let c := s.tx j
  match c.deferAt with
  | some t =>
    if c.starved then .next s
    else
      let s := s.advanceTo (t + 1000000000)
      .next (((s.setTx j { s.tx j with starved := true }).raise F.TXF_EVT_CAL_STARVED j).siltPost 49 j)
  | none => .next s

/-- The held frames of a chain. -/
def State.heldFrames (s : State) (j : Nat) : List TxFrame := (s.tx j).frames.filter fun f => decide (f.stage = .held)

/-- TX_WAKE (R68, R69, R74): TX_HOLD, or a held descriptor WAKE_LEAD from its due instant, starts the transmit side; the
synthesiser restarts at the stored centre, or the one that waits, with a full calibration where the stored one is not valid at
temperature `temp`. -/
def execTxWake (j : Nat) (temp : Int) (s : State) : Out :=
  if s.txState j != 0 then .next s
  else
    let go : Option State :=
      if s.flag F.TXF_CHAIN_CTL_TX_HOLD j then some s
      else ((s.heldFrames j).map fun f => s.wakeTime j f).min?.map fun t => s.advanceToFull t
    match go with
    | some s =>
      let s := s.startWindow j
      if !centreOk (s.tx j).centre then .next (s.raise F.TXF_EVT_WINDOW_BAD j)
      else
        let s := (s.sense temp).setFld F.TXF_CHAIN_STAT_TX_STATE 1 j
        .next ((s.setTx j { s.tx j with idleAt := some s.clp.now }).retune j (!s.calValid j))
    | none => .next s

/-- The chain may turn Off: the conditions of R74 hold, and its pins have released (DEDUCED, log entry 109). -/
def State.txIdle (s : State) (j : Nat) : Bool := s.idleNow j && !(s.tx j).pa && !(s.tx j).txsw

/-- TX_OFF (R74): IDLE_OFF × 10 µs after the chain went idle. -/
def execTxOff (j : Nat) (s : State) : Out :=
  match (s.tx j).idleAt with
  | some t =>
    let s' := s.advanceTo (t + s.fld F.TXF_CHAIN_CTL_IDLE_OFF j * 10000)
    if s.txState j != 0 ∧ s.txIdle j = true ∧ s'.txIdle j = true then .next (s'.txOffNow j) else .next s
  | none => .next s

/-- A write of TXF_CHAIN_CTL: the idle time counts from a write that makes the conditions of R74 hold. -/
def State.txChainCtlWrite (s : State) (j : Nat) (d : Word) : State := (s.setReg .TXF_CHAIN_CTL j 0 (d &&& 0xFF03FF01)).idleTouch s j

/-! ## Checks that meet a change of their cycle (R125) -/

/-- A frame that passed its commit point in this cycle completes as though it had not: no pin has moved. -/
def State.uncommit (s : State) (j : Nat) (f : TxFrame) (st : Status) : State :=
  let s := s.completeTx j f st
  let c := s.tx j
  let idle := !c.txsw && decide (c.lnaOn ≤ s.clp.now) && c.frames.all fun f => !f.stage.live
  s.on idle fun s => s.setTx j { c with lnaFree := true, lnaHold := none }

/-- A frame passed its commit point in this cycle. -/
def State.justCommitted (s : State) (f : TxFrame) : Bool :=
  decide (f.stage = .committed) && f.passed == s.clp.now

/-- The frame belongs to an open speculation region (R314). -/
def TxFrame.open (f : TxFrame) : Bool := match f.origin with | .spec _ _ => true | _ => false

/-- Air time that later approvals of this cycle have reserved with an entry. -/
def State.laterRsv (s : State) (f : TxFrame) (e : Nat) : Nat :=
  ((List.range 16).map fun j => (((s.tx j).frames.filter fun g =>
    g.taken == s.clp.now && decide (f.id < g.id) && g.charged.contains e).map fun g => g.air).sum).sum

/-- The frame's place in the weirs is taken back: what it has reserved, and, but for a frame of an open region, its count (R125, R127). -/
def State.unreserve (s : State) (j : Nat) (f : TxFrame) : State :=
  ((s.weirReturn f.charged f.air).on (!f.open) fun s => s.unnoteApproval f.charged).putTx j { f with charged := [] }

/-- An approval of this cycle, of a frame that has no place in the weirs any more, is a refusal after all, with its entry and reason. -/
def State.unapprove (s : State) (j : Nat) (f : TxFrame) (st : Status) (e r : Nat) : State :=
  if f.open then
    let item (i : SpecItem) : SpecItem :=
      if i.frame = some f.id then { i with frame := none, status := st, refusal := some (e, r), near := 0 } else i
    { s with cht := { s.cht with specs := s.cht.specs.map item } }.setFrames j ((s.tx j).frames.filter fun g => g.id != f.id)
  else (s.noteRefusal e r j f.desc.carrier false).completeTx j f st

/-- A held frame that the charter stage approved in this cycle is judged again, and counts with the entries it is charged to then. -/
def State.rejudge (s : State) (j : Nat) (f : TxFrame) (luck : Bool) : State :=
  let k := f.desc.carrier
  let phy := (s.frameMode j k f.modeSet).1
  let s := s.unreserve j f
  let f := { f with charged := [] }
  match s.charterVerdict j k phy luck with
  | some (e, r) => s.unapprove j f .txCharter e r
  | none =>
    let es := s.chargedTo j k phy
    match es.find? fun e => decide (s.boundSeen e + s.laterRsv f e < s.weirSeen e + f.air) with
    | some e => s.unapprove j f .txBudget e 4
    | none => ((s.on (!f.open) fun s => s.noteApproval es).putTx j { f with charged := es }).weirReserve es f.air

/-- One frame after a change of what the charter check reads (R125): a check of this cycle uses what stands now. -/
def State.recheckOne (s : State) (j : Nat) (f : TxFrame) : State :=
  let (v, s) := s.fresh
  if s.justCommitted f then
    match s.charterVerdict j f.desc.carrier (s.frameMode j f.desc.carrier f.modeSet).1 (v.testBit 0) with
    | some (e, r) => (s.noteRefusal e r j f.desc.carrier true).uncommit j f .txCharter
    | none => s
  else if f.stage = .held ∧ f.taken = s.clp.now then s.rejudge j f (v.testBit 0)
  else s

/-- Every check of this cycle that admitted a frame is made again (R125: a write of CHT_SWLIM_e, a reload of the shadows, a carrier enabled). One
that refuses comes at the end of its cycle. -/
def State.recheck (s : State) : State :=
  (List.range 16).foldl (fun s j => (s.tx j).frames.foldl (fun s f => s.recheckOne j f) s) s

/-- A write of CHT_SWLIM_e (R107, R125). -/
def State.chtSwlimWrite (s : State) (e : Nat) (d : Word) : State := (s.swlimSet e d).recheck

/-- FUSE_DONE (R108, R110, R125). -/
def execFuseDone (s : State) : Out :=
  match s.cht.blow with
  | some (b, t) => .next (s.fuseEnd b t).recheck
  | none => .next s

/-! ## Carriers (R75–R81) -/

/-- Check 3 of R77 for a carrier with the minimum bandwidth of mode `m`. -/
def State.carSpanOk (s : State) (j k m : Nat) : Bool :=
  decide (2 * |s.sfld F.TXF_CAR_FREQ_OFFSET_HZ j k| + (s.phyMinBw m : Int) ≤ 122880000)

/-- The code of the first check of R77 that fails, 0 when all pass. -/
def State.carCheck (s : State) (j k : Nat) : Nat :=
  let m := s.fld F.TXF_CAR_CFG_MODE j k
  let mcs := s.fld F.TXF_CAR_CFG_MCS j k
  if !s.phyValid m then 1
  else if !(if s.fld F.PLM_PHY_MODE_TYPE m = 3 then ofdmMcsOk (s.fld F.PLM_PHY_MODE_RATE m) mcs else mcs == 0) then 2
  else if !s.carSpanOk j k m then 3
  else 0

/-- EN going from 0 to 1 (R77). -/
def State.carEnable (s : State) (j k : Nat) : State :=
  let code := s.carCheck j k
  let s := s.setFld F.TXF_CAR_STAT_REFUSE code j k
  if code = 0 then (s.setFld F.TXF_CAR_CFG_EN 1 j k).recheck else s.raise F.TXF_EVT_CAR_REFUSED j

/-- Fields other than EN take writes only while EN and BUSY are 0 (R78). -/
def State.carOpen (s : State) (j k : Nat) : Bool := !s.flag F.TXF_CAR_CFG_EN j k && !s.carBusy j k

/-- EN of a carrier is cleared (R78); a frame of it whose commit point is this cycle is not sent (R83, R102). -/
def State.carDisable (s : State) (j k : Nat) : State :=
  let s := s.setFld F.TXF_CAR_CFG_EN 0 j k
  ((s.tx j).frames.filter fun f => f.desc.carrier == k && s.justCommitted f).foldl (fun s f => s.uncommit j f .internal) s

/-- A write of TXF_CAR_CFG_k (R77, R78): the fields other than EN first, as R78 allows; then EN. -/
def State.carCfgWrite (s : State) (j k : Nat) (d : Word) : State :=
  let old := (s.reg .TXF_CAR_CFG j k).toNat
  let new := (d &&& 0x00FF0F3F).toNat
  let en := s.flag F.TXF_CAR_CFG_EN j k
  let s :=
    if otherFields old = otherFields new then s
    else if s.carOpen j k then s.setReg .TXF_CAR_CFG j k (BitVec.ofNat 64 (2 * otherFields new + old % 2))
    else s.raise F.TXF_EVT_CFG_HELD j
  match en, new % 2 == 1 with
  | false, true => s.carEnable j k
  | true, false => s.carDisable j k
  | _, _ => s

/-- A write of TXF_CAR_FREQ_k (R78). -/
def State.carFreqWrite (s : State) (j k : Nat) (d : Word) : State :=
  if s.carOpen j k then s.setReg .TXF_CAR_FREQ j k (d &&& 0x07FFFFFF) else s.raise F.TXF_EVT_CFG_HELD j

/-- CARRIER_ENABLE (R77): a write of TXF_CAR_CFG_k with EN 1. -/
def execCarrierEnable (j k : Nat) (d : Word) (s : State) : Out := .next (s.powered fun s => s.carCfgWrite j k (d ||| 1))

/-- CARRIER_CONFIG_WRITE (R78): a write of TXF_CAR_FREQ_k, or of TXF_CAR_CFG_k with EN as `d` gives it unless that would set it. -/
def execCarrierConfigWrite (freq : Bool) (j k : Nat) (d : Word) (s : State) : Out :=
  if freq then .next (s.powered fun s => s.carFreqWrite j k d)
  else .next (s.powered fun s => s.carCfgWrite j k (if s.flag F.TXF_CAR_CFG_EN j k then d else d &&& ~~~1))

/-! ## The charter stage (R16, R83, R113, R121, R372, R373) -/

/-- What the charter stage decides of a descriptor. -/
inductive Verdict where
  /-- INTERNAL, and whether the device frees its cells. -/
  | internal (frees : Bool)
  | charter (entry reason : Nat)
  | budget (entry : Nat)
  /-- Approved: the entries charged and the air time in µs. -/
  | approved (charged : List Nat) (air : Nat)
  deriving DecidableEq, Repr

/-- The longest PSDU of a PHY mode (R83). -/
def State.maxPsdu (s : State) (m : Nat) : Nat := if s.fld F.PLM_PHY_MODE_TYPE m = 4 then 127 else 2047

/-- The structural checks, for the cases in which cells are freed as KEEP_CELL says (R83, R140, R373, R465). -/
def State.txMalformed (s : State) (o : TxOrigin) (d : TxDesc) (phy : Nat) : Bool :=
  (match o with
    | .takeover => false
    | .beacon _ => !s.mayTransmit || decide (4 ≤ d.sec)
    | _ => !s.mayTransmit) ||
  !s.flag F.TXF_CAR_CFG_EN d.chain d.carrier || d.len == 0 || decide (s.maxPsdu phy < d.len) ||
    (d.mode == 2 && !s.asnValid)

/-- The verdict of the structural checks, the charter and the weirs, in that order. `luck` decides a composite within 0.05 dB of
its cap (R113). -/
def State.judge (s : State) (o : TxOrigin) (d : TxDesc) (ms : Option (Nat × Nat)) (luck : Bool) : Verdict :=
  let (phy, mcs) := s.frameMode d.chain d.carrier ms
  if d.mode = 3 ∨ d.cellHi ≠ 0 then .internal false
  else if s.chainFor d.cell d.len = none then .internal false
  else if s.txMalformed o d phy then .internal true
  else match s.charterVerdict d.chain d.carrier phy luck with
    | some (e, r) => .charter e r
    | none =>
      let es := s.chargedTo d.chain d.carrier phy
      let a := s.airUs phy mcs d.len
      match s.weirFails es a with
      | some e => .budget e
      | none => .approved es a

/-- The launch time of a descriptor, in ns of full time (R84, R373). -/
def State.launchOf (s : State) (d : TxDesc) : Option Nat :=
  match d.mode with
  | 1 => some (s.fullOfService d.time)
  | 2 => some (s.slotStart d.asn + d.slotOff * 1000)
  | _ => none

/-- The protect job of a frame is issued (R248): at charter approval, once for all copies of a shared frame. -/
def State.issueProtect (s : State) (j : Nat) (f : TxFrame) : State :=
  if f.desc.sec = 0 then s
  else
    let (n, s) := s.newJob
    match f.origin.group? with
    | some g => if (s.shared g).sec = .none then s.setShared g { s.shared g with sec := .waiting n } else s
    | none => s.putTx j { f with sec := .waiting n }

/-- An approved descriptor reserves its air time and takes a place in its chain's launch unit (R121, R372, R373). -/
def State.hold (s : State) (o : TxOrigin) (d : TxDesc) (ms : Option (Nat × Nat)) (es : List Nat) (a : Nat) : TxFrame × State :=
  let f : TxFrame := { id := s.txf.nextId, desc := d, origin := o, modeSet := ms, launch := s.launchOf d, arrived := s.clp.now,
                       taken := s.clp.now, charged := es, air := a }
  let s := (s.weirReserve es a).setFrames d.chain ((s.tx d.chain).frames ++ [f])
  (f, { s with txf := { s.txf with nextId := s.txf.nextId + 1 } }.calPostpone d.chain)

/-- A frame whose shared protection has failed completes at once with its status (R141, R251). -/
def State.settleFailed (s : State) (j : Nat) (f : TxFrame) : State :=
  match s.secOf f with
  | .failed st => s.completeTx j f st
  | _ => s

/-- The charter stage takes a descriptor (R83, R113–R115, R121). It refuses at the end of the cycle, after whatever its check still had to use
(R125). -/
def State.takeDesc (s : State) (o : TxOrigin) (d : TxDesc) (ms : Option (Nat × Nat)) : State :=
  let (v, s) := s.fresh
  match s.judge o d ms (v.testBit 0) with
  | .internal frees => s.deliverTx o d .internal 0 noAsn 0 frees
  | .charter e r => (s.endCycle.noteRefusal e r d.chain d.carrier false).deliverTx o d .txCharter 0 noAsn 0 true
  | .budget e => (s.endCycle.noteRefusal e 4 d.chain d.carrier false).deliverTx o d .txBudget 0 noAsn 0 true
  | .approved es a =>
    let (f, s) := s.hold o d ms es a
    (((s.noteApproval es).nearUpdate.issueProtect d.chain f).settleFailed d.chain f)

/-- The charter stage takes a SPECULATIVE descriptor of an open region (R314): its checks run at once, what it counts, records
and completes waits for the seal. -/
def State.takeSpec (s : State) (n tid : Nat) (d : TxDesc) : State :=
  let (v, s) := s.nearSeen.fresh
  let item : SpecItem := { tid := tid, runnel := n, desc := d }
  let (item, s) : SpecItem × State :=
    match s.judge (.spec n tid) d none (v.testBit 0) with
    | .internal frees => ({ item with status := .internal, frees := frees }, s)
    | .charter e r => ({ item with status := .txCharter, refusal := some (e, r) }, s.endCycle)
    | .budget e => ({ item with status := .txBudget, refusal := some (e, 4) }, s.endCycle)
    | .approved es a =>
      let (f, s) := s.hold (.spec n tid) d none es a
      let (up, s) := s.nearMask
      ({ item with frame := some f.id, near := up }, s)
  { s with cht := { s.cht with specs := s.cht.specs ++ [item] } }

/-- The place of an origin in the order of R125: the takeover frame, the slot engine, threads by TID, Spillway; the host comes last. -/
def TxOrigin.order : TxOrigin → Nat
  | .takeover => 0
  | .ack _ => 1
  | .beacon _ => 1
  | .spec _ t => 2 + t
  | .runnel _ => 201
  | .spw _ _ => 200

/-- The place of a runnel descriptor's producer in that order. -/
def producerOrder (who : Nat) : Nat := if who < 130 then 2 + who else if who = 200 then 201 else 200

/-- An engine places a descriptor before the charter stage (R125). -/
def State.place (s : State) (p : Placed) : State := 
  { s with cht := { s.cht with inbox := s.cht.inbox ++ [{ p with at_ := s.clp.now }] } }

/-- Set the engines' descriptors. -/
def State.setInbox (s : State) (ps : List Placed) : State := { s with cht := { s.cht with inbox := ps } }

/-- The stage takes one placed descriptor. -/
def State.takePlaced (s : State) (p : Placed) : State :=
  match p.origin with
  | .spec n tid => s.takeSpec n tid p.desc
  | o => s.takeDesc o p.desc p.modeSet

/-- The stage takes the descriptor at the head of a CLASS 1 runnel (R338): a bad word makes it POISONED, with no cell freed. -/
def State.takeRunnel (s : State) (n : Nat) : State :=
  let (ws, s) := s.popWords n 4
  let w (i : Nat) : Word := ((ws.map fun x => x.val).getD i 0)
  let d := descOf (w 0) (w 1) (w 2) (w 3)
  if ws.any RunWord.isBad then
    let bad3 := (ws.getD 3 ⟨0, false, false⟩).isBad
    s.deliverTx (.runnel n) { d with cookie := if bad3 then BitVec.allOnes 64 else d.cookie } .poisoned 0 noAsn 0 false
  else s.takeDesc (.runnel n) d none

/-- A CLASS 1 runnel has a whole descriptor for the charter stage. -/
def State.descReady (s : State) (n : Nat) : Bool :=
  s.runnelOn n && s.fld F.RUN_CFG_CLASS n == 1 && decide (4 ≤ s.poppable n)

/-- A descriptor that stands before the charter stage: the elapsed instant at which it arrived, its place in the order of R125, and where
it stands, an engine's own or the head of a runnel. -/
structure Waiting where
  at_   : Nat
  order : Nat
  place : Placed ⊕ Nat

/-- The descriptors that stand before the stage: those the engines placed, and those at the head of a CLASS 1 runnel. -/
def State.waitingDescs (s : State) : List Waiting :=
  (s.cht.inbox.map fun p => ⟨p.at_, p.rank.getD p.origin.order, .inl p⟩) ++
    ((List.range 256).filter fun n => s.descReady n).map fun n =>
      let t := (s.runnel n).stamps.getD 3 (0, 255)
      ⟨t.1, producerOrder t.2, .inr n⟩

/-- The first of some waiting descriptors: the earliest, and of one cycle the first in the order of R125. -/
def firstWaiting (ws : List Waiting) : Option Waiting :=
  let key (w : Waiting) : Nat := 1024 * w.at_ + w.order
  match (ws.map key).min? with
  | some k => ws.find? fun w => key w == k
  | none => none

/-- The stage takes the descriptor at its head: of all that wait, the first to have arrived, and of one cycle the first in the order of R125
(R372). -/
def State.takeFirst (s : State) : State :=
  match firstWaiting s.waitingDescs with
  | some ⟨_, _, .inl p⟩ => (s.setInbox (s.cht.inbox.erase p)).takePlaced p
  | some ⟨_, _, .inr n⟩ => s.takeRunnel n
  | none => s

/-- A source has a descriptor for the stage: `none` the engines' own, `some n` CLASS 1 runnel n. -/
def State.hasDesc (s : State) (src : Option Nat) : Bool :=
  match src with
  | none => !s.cht.inbox.isEmpty
  | some n => s.descReady n

/-- TX_DESCRIPTOR (R83, R125, R372, R428): while any launch unit is full the stage stalls before any check of the descriptor at its
head; otherwise it takes it. A descriptor from the source `src` makes the stage take one. -/
def execTxDescriptor (dt : Nat) (src : Option Nat) (s : State) : Out :=
  let s' := s.after dt
  if !s'.hasDesc src || s'.pwr.phase == .failing then .next s
  else if s'.launchFull then .next { s' with cht := { s'.cht with stalled := true } }
  else .next ({ s' with cht := { s'.cht with stalled := false } }.takeFirst)

/-- CHARTER_STAGE_RESUME (R372, R428): a place has freed, and the waiting stage takes the descriptor at its head. -/
def execCharterStageResume (src : Option Nat) (s : State) : Out :=
  if s.cht.stalled ∧ s.hasDesc src ∧ s.launchFull = false ∧ s.pwr.phase ≠ .failing then .next ({ s with cht := { s.cht with stalled := false } }.takeFirst)
  else .next s

/-! ## Coexistence (R97–R100) -/

/-- GNT_SAMPLE in µs, 5–200 (R98). -/
def State.gntSample (s : State) (g : Nat) : Nat := max 5 (min 200 (s.fld F.TXF_COEX_GRP_GNT_SAMPLE g))

/-- The coexistence group of a chain that takes part (R97). -/
def State.coexGroup (s : State) (j : Nat) : Option Nat :=
  if s.flag F.TXF_COEX_CTL_EN j then some (s.fld F.TXF_COEX_CTL_GROUP j) else none

/-- GNT_SAMPLE lies after the commit point: the sample moves there (R98). -/
def State.sampleShort (s : State) (j g : Nat) : Bool := decide (s.gntSample g < s.paLead j + 2)

/-- The instant of full time, in ns, of a frame's own sample point: GNT_SAMPLE before RF start, or its planned commit point; none
for mode 0, sampled at its commit point (R98). -/
def State.samplePoint (s : State) (j g : Nat) (f : TxFrame) : Option Nat :=
  (s.due j f).map fun t => t - max (s.gntSample g) (s.paLead j + 2) * 1000

/-- The frame is held by the launch unit and has nothing to wait for but its instant, LOCK and its carrier. -/
def State.heldReady (s : State) (f : TxFrame) : Bool :=
  decide (f.stage = .held) && (s.secOf f).ready && !f.open

/-- Another frame of the carrier radiates, or is past its commit point (R80). -/
def State.carTaken (s : State) (j : Nat) (f : TxFrame) : Bool :=
  (s.tx j).frames.any fun g => g.id != f.id && g.desc.carrier == f.desc.carrier && g.stage.live

/-- The latest RF start that the late tolerance allows, in ns of full time; none for mode 0 (R84, R86). -/
def State.latest (s : State) (j : Nat) (f : TxFrame) : Option Nat := (s.due j f).map fun t => t + f.desc.tol * 1000

/-- At this instant the frame's RF start would come too late (R86). -/
def State.tooLate (s : State) (j : Nat) (f : TxFrame) : Bool :=
  match s.latest j f with
  | some t => decide (t < s.fullNs + (s.paLead j + 2) * 1000)
  | none => false

/-- A frame of the carrier that reached the launch unit before `f`, whose planned commit point has come and which is not too late, goes first (R80,
R102). -/
def State.carBefore (s : State) (j : Nat) (f : TxFrame) : Bool :=
  ((s.tx j).frames.takeWhile fun g => g.id != f.id).any fun g =>
    g.desc.carrier == f.desc.carrier && s.heldReady g && decide ((s.planned j g).getD 0 ≤ s.fullNs) && !s.tooLate j g

/-- COEX_REQ_ASSERT (R97): REQ_LEAD before the frame's sample point. -/
def execCoexReqAssert (j id : Nat) (s : State) : Out :=
  match s.txFrame j id, s.coexGroup j with
  | some f, some g =>
    if f.stage = .held ∧ f.req = none then
      let lead := min 1000 (s.fld F.TXF_COEX_GRP_REQ_LEAD g) * 1000
      let s := match s.samplePoint j g f with
        | some t => s.advanceToFull (t - lead)
        | none => s
      let s := s.putTx j { f with req := some g }
      let s := s.setFld F.TXF_COEX_STAT_REQ (setBits (s.fld F.TXF_COEX_STAT_REQ) g 1 1)
      .next (s.on f.desc.prio fun s => s.setFld F.TXF_COEX_STAT_PRI (setBits (s.fld F.TXF_COEX_STAT_PRI) g 1 1))
    else .next s
  | _, _ => .next s

/-- The filtered grant input of a group is at a level, from `at_` on where it changes: GNT of TXF_COEX_STAT, with GNT_POL applied. One that goes
inactive begins the time that counts as withdrawal (R100). -/
def State.setGrant (s : State) (g : Nat) (level : Bool) (at_ : Nat) : State :=
  let act := level != s.flag F.TXF_COEX_GRP_GNT_POL g
  let was := (s.fld F.TXF_COEX_STAT_GNT).testBit g
  let m := if act then SMap.del s.txf.gntFrom g else if was then SMap.put s.txf.gntFrom g at_ else s.txf.gntFrom
  { s with txf := { s.txf with gntFrom := m } }.setFld F.TXF_COEX_STAT_GNT (setBits (s.fld F.TXF_COEX_STAT_GNT) g 1 (cond act 1 0))

/-- The grant input of a group is active. -/
def State.grantActive (s : State) (g : Nat) : Bool := (s.fld F.TXF_COEX_STAT_GNT).testBit g

/-- What one sample does to a frame (R98, R99). -/
def State.sampled (s : State) (j g : Nat) (f : TxFrame) : State :=
  if s.grantActive g then s.putTx j { f with granted := some s.clp.now } else s.completeTx j f .txNoGrant

/-- The filtered grant input of a group, where its ball stands at `pin` (R537, R538): a level inside its 8 cycles counts as the one before. -/
def State.grantSeen (s : State) (g : Nat) (pin : PinLevel) : State :=
  if 33 ≤ pin.since then s.setGrant g pin.level (s.clp.now + 33 - pin.since) else s.setGrant g pin.before s.clp.now

/-- GRANT_SAMPLE (R98, R99, R314): the grant of a frame is sampled, its ball standing at `pin`, at its own sample point (at
this instant where that has passed and its planned commit point has not: DESIGN CHOICE, log entry 113); or, once that has passed, at its
commit point. A frame of an open region is not sampled. Frames of the chain with the same commit point share the sample. -/
def execGrantSample (j id : Nat) (pin : PinLevel) (s : State) : Out :=
  match s.txFrame j id, s.coexGroup j with
  | some f, some g =>
    let early := match s.planned j f with
      | some t => decide (s.fullNs ≤ t) && !s.sampleShort j g
      | none => false
    if f.stage = .held ∧ early = true ∧ f.open = false then
      let s := match s.samplePoint j g f with
        | some t => s.advanceToFull t
        | none => s
      let s := s.grantSeen g pin
      .next ((s.heldFrames j).foldl (fun s h => if h.launch = f.launch ∧ h.open = false then s.sampled j g h else s) s)
    else
      let s' := match s.planned j f with
        | some t => s.advanceToFull t
        | none => s
      if s'.heldReady f ∧ s'.locked j = true ∧ s'.carTaken j f = false then
        let s := (s'.grantSeen g pin).on (s'.sampleShort j g) fun s => s.raise F.TXF_EVT_COEX_ADJ j
        .next ((s.heldFrames j).foldl (fun s h =>
          if s.heldReady h && !s.carTaken j h && decide ((s.planned j h).getD 0 ≤ s.fullNs) then s.sampled j g h else s) s)
      else .next s
  | _, _ => .next s

/-- A withdrawal of a group's grant (R100): every committed or radiating frame of every member chain is aborted, one whose RF starts in this cycle
among them; frames not yet committed are sampled afresh. -/
def State.withdrawn (s : State) (g : Nat) : State :=
  (List.range 16).foldl (fun s j =>
    if s.coexGroup j = some g then
      let s := (s.rfStartDue j).abortLive j .txGrantLost
      s.setFrames j ((s.tx j).frames.map fun f => if f.stage = .held then { f with granted := none } else f)
    else s) { s with txf := { s.txf with gntFrom := SMap.del s.txf.gntFrom g } }

/-- GRANT_WITHDRAWAL (R100, R537): the grant ball of a group stands at a level for `held` ns from `dt` ns on. A level other than the one before
passes the filter, 8 cycles of the counting clock later, or is rejected; one that makes the grant inactive begins a time of GNT_HOLD µs. Where the
grant is inactive already and stays so, that time ends and the grant is withdrawn. With GNT_HOLD 0 the two are one event. -/
def execGrantWithdrawal (pin : Change) (g : Nat) (s : State) : Out :=
  let g := g % 4
  let s := s.after pin.dt
  let act := pin.on != s.flag F.TXF_COEX_GRP_GNT_POL g
  let hold := 1000 * s.fld F.TXF_COEX_GRP_GNT_HOLD g
  if act = s.grantActive g then
    match SMap.find? s.txf.gntFrom g with
    | some t => if act then .next s else .next ((s.advanceTo (t + hold)).withdrawn g)
    | none => .next s
  else
    let (seen, s) := s.filtered 28 37 pin.held
    if seen then
      let s := s.after 33
      let s := s.setGrant g pin.on s.clp.now
      .next (s.on (!act && hold == 0) fun s => s.withdrawn g)
    else .next s

/-! ## Commit point and front-end sequence (R80, R85–R96) -/

/-- The commit point at this instant, in ns of full time, and whether it has moved past the planned one (R85). `before` is the
state before time passed to the planned commit point. -/
def State.commitAt (s before : State) (j : Nat) (f : TxFrame) : Nat × Bool :=
  match before.planned j f with
  | some t => if before.fullNs ≤ t then (t, false) else (s.fullNs, true)
  | none => (s.fullNs, false)

/-- The grant that a frame needs at its commit point has been sampled (R98): at its own sample point, or, where the commit point
has moved or GNT_SAMPLE is short, in this instant. -/
def State.grantOk (s : State) (j : Nat) (f : TxFrame) (moved : Bool) : Bool :=
  match s.coexGroup j with
  | none => true
  | some g =>
    match f.granted with
    | none => false
    | some t => !(moved || s.sampleShort j g || f.launch == none) || t == s.clp.now

/-- The frame passes its commit point (R85, R89, R94), with RF start at `rf` ns of full time: PA_LEAD, PA_LAG and LNA_EN in force now are its own,
and FEM_LNA_n goes inactive. -/
def State.commit (s : State) (j : Nat) (f : TxFrame) (rf : Nat) : State :=
  let f' := { f with stage := .committed, paLead := s.paLead j, paLag := s.paLagUs j, passed := s.clp.now, rfFull := rf }
  let s := s.putTx j f'
  s.setTx j { s.tx j with lnaFree := false, lnaHold := some (s.flag F.TXF_FEM_CTL_LNA_EN j, none) }

/-- COMMIT_POINT (R67, R80, R83, R85, R102, R115, R428): at the latest of the planned commit point, LOCK and arrival, with the frame's carrier
free and its grant sampled, and unless RF start would come too late (TX_LATE then ends the frame). A carrier found disabled ends the frame
at its planned commit point, LOCK set or not (DESIGN CHOICE, log entry 110). -/
def execCommitPoint (j id : Nat) (s : State) : Out :=
  match s.txFrame j id with
  | some f =>
    if !s.heldReady f || s.pwr.phase == .failing then .next s
    else
      let s' := match s.planned j f with
        | some t => s.advanceToFull t
        | none => s
      if !s'.flag F.TXF_CAR_CFG_EN j f.desc.carrier then .next (s'.completeTx j f .internal)
      else if !centreOk (s'.tx j).centre then .next (s'.completeTx j f .txSynthFault)
      else if s'.carTaken j f || s'.carBefore j f then
        if f.waited then .next s
        else .next ((s'.putTx j { f with waited := true }).bump F.TXF_CNT_CAR_WAIT_COUNT 1 j)
      else
        let (c, moved) := s'.commitAt s j f
        let rf := c + (s'.paLead j + 2) * 1000
        let late := match s'.latest j f with
          | some t => decide (t < rf)
          | none => false
        if !s'.locked j || late || !s'.grantOk j f moved then .next s
        else
          let (v, s') := s'.fresh
          let phy := (s'.frameMode j f.desc.carrier f.modeSet).1
          match s'.charterVerdict j f.desc.carrier phy (v.testBit 0) with
          | some (e, r) => .next ((s'.endCycle.noteRefusal e r j f.desc.carrier true).completeTx j f .txCharter)
          | none => .next (s'.commit j f rf)
  | none => .next s

/-- TX_LATE (R86, R88): at the last instant at which the frame could still commit, it cannot. A lock sequence due in that cycle may still
lock, and a grant still to be sampled is sampled at that commit point (R98, R102). While SYN_FAULT is set, or the
window centre is invalid (R67), it completes TX_SYNTH_FAULT instead. -/
def execTxLate (j id : Nat) (s : State) : Out :=
  match s.txFrame j id with
  | some f =>
    match s.latest j f with
    | some t =>
      let deadline := t - (s.paLead j + 2) * 1000
      let s' := s.advanceToFull deadline
      let passed := decide (deadline < s.fullNs)
      let locks := s'.locked j || (s'.tx j).lockAt == some s'.clp.now
      let stuck := !(s'.secOf f).ready || !locks || s'.carTaken j f
      if f.stage = .held ∧ f.open = false ∧ (passed || stuck) = true then
        let fault := s'.flag F.TXF_CHAIN_STAT_SYN_FAULT j || !centreOk (s'.tx j).centre
        .next (s'.completeTx j f (if fault then .txSynthFault else .txLate))
      else .next s
    | none => .next s
  | none => .next s

/-- The blanking groups that an interval starting now takes: a write in this cycle comes too late for it (R96, R102). -/
def State.blankGroups (s : State) : List Nat :=
  let live := (List.range 8).map fun b => s.fld F.TXF_BLANK_GRP_CHAINS b
  match s.txf.grpWas with
  | some (t, gs) => if t = s.clp.now then gs else live
  | none => live

/-- A write of TXF_BLANK_GRP_b (R96, R102). -/
def State.blankGrpWrite (s : State) (b : Nat) (d : Word) : State :=
  let s := { s with txf := { s.txf with grpWas := some (s.clp.now, s.blankGroups) } }
  s.setFld F.TXF_BLANK_GRP_CHAINS d.toNat b

/-- The chains that a blanking interval of chain j blanks (R95). -/
def State.blankMask (s : State) (j : Nat) : Nat :=
  ((List.range 16).filter fun i => i == j || s.blankGroups.any fun g => g.testBit j && g.testBit i).foldl (fun a i => a + 2 ^ i) 0

/-- A blanking interval of a chain starts (R52, R95, R96). -/
def State.blankStart (s : State) (j : Nat) : State :=
  let mask := s.blankMask j
  let b : BlankInt := { mask := mask, tail := s.fld F.TXF_BLANK_CTL_BLANK_TAIL }
  let fresh := (List.range 16).filter fun i => mask.testBit i && !s.blanked i
  let s := s.setTx j { s.tx j with blanks := (s.tx j).blanks ++ [b] }
  fresh.foldl (fun s i => s.blankChain i) s

/-- TXSW_ASSERT (R89, R90, R95): PA_LEAD + 1 µs before RF start. -/
def execTxswAssert (j id : Nat) (s : State) : Out :=
  match s.txFrame j id with
  | some f =>
    if f.stage = .committed then
      let s := s.advanceTo (s.rfAt f - (f.paLead + 1) * 1000)
      let s := s.putTx j { f with stage := .switched }
      if (s.tx j).txsw then .next s
      else .next ((s.setTx j { s.tx j with txsw := true }).blankStart j)
    else .next s
  | none => .next s

/-- PA_ASSERT (R87, R89): PA_LEAD before RF start, with LOCK set. -/
def execPaAssert (j id : Nat) (s : State) : Out :=
  match s.txFrame j id with
  | some f =>
    if f.stage = .switched ∧ s.locked j = true then
      let s := s.advanceTo (s.rfAt f - f.paLead * 1000)
      let s := s.putTx j { f with stage := .powered }
      .next (s.setTx j { s.tx j with pa := true })
    else .next s
  | none => .next s

/-- RF_START (R84, R119, R374, R433): it waits until packet memory is initialised. -/
def execRfStart (j id : Nat) (s : State) : Out :=
  match s.txFrame j id with
  | some f => if f.stage = .powered then .next ((s.advanceTo (s.rfAt f)).whenReady 0 fun s => s.rfStart j f) else .next s
  | none => .next s

/-- What the wake fabric holds for a chain while the MAC slot engine runs: its listen slots, and acknowledgement windows that are open or
still to open (R132, R136, R419). -/
def State.wakeUpdate (s : State) (j : Nat) : State :=
  let want := s.flag F.MAC_STAT_RUNNING && (s.mac.wake.testBit j || ((s.tx j).frames.any fun f => decide (f.stage = .awaitAck)) ||
    s.mac.answered.any fun w => w.2.1 == j)
  if (s.plmChain j).wake = want then s else (s.setPlmChain j { s.plmChain j with wake := want }).chainAsk j

/-- The slot in work is a pause slot (R159). -/
def State.inPause (s : State) (a : Nat) : Bool :=
  s.flag F.MAC_PAUSE_ARM && decide (s.fld F.MAC_PAUSE_START_ASN ≤ a) &&
    decide (a < s.fld F.MAC_PAUSE_START_ASN + s.fld F.MAC_PAUSE_SLOTS)

/-- A frame sent to its end waits for its acknowledgement (R149), or, where the window would lie in a pause slot, opens none (R159). -/
def State.openAck (s : State) (j : Nat) (f : TxFrame) : State :=
  let phy := (s.frameMode j f.desc.carrier f.modeSet).1
  let mid := s.fullNs + (s.fld F.MAC_TMPL_1_ACK_DELAY + s.fld F.MAC_SFD_OFF_USEC phy) * 1000
  let half := s.fld F.MAC_TMPL_2_ACK_WAIT * 500
  if s.asnValid && s.inPause (s.asnAt (mid - half)) then s.noAck j f
  else
    let t := s.coexEnd j f
    ((t.putTx j { f with stage := .awaitAck, req := none, ackFrom := mid - half, ackTo := mid + half }).idleTouch s j).wakeUpdate j

/-- LAST_RF (R80, R89, R119, R122, R124, R149, R444): the metering ends; the pins follow; held writes take effect after the chain's last
radiating frame; the completion is pushed unless an acknowledgement is awaited. -/
def execLastRf (j id : Nat) (s : State) : Out :=
  match s.txFrame j id with
  | some f =>
    if f.stage = .radiating then
      let s := ((s.advanceTo f.endAt).meterStop f.id).nearUpdate.pinsEnd j f.endAt f.paLag
      let s := match (if f.badAt.isSome then some .poisoned else f.fate) with
        | some st => s.completeTx j f st
        | none =>
          let s := (s.bump F.TXF_CNT_SENT_COUNT 1 j).bump F.OBS_CAR_SENT_COUNT 1 j f.desc.carrier
          if f.desc.ackReq then s.openAck j f else s.completeTx j f .ok
      .next (s.applyHeld j)
    else .next s
  | none => .next s

/-- PA_RELEASE (R89, R90, R97): PA_LAG after the last RF of the union of the chain's frames. -/
def execPaRelease (j : Nat) (s : State) : Out :=
  let c := s.tx j
  let free := c.frames.all fun f =>
    !f.stage.live || (f.stage != .powered && f.stage != .radiating && decide (c.paOff < s.rfAt f - f.paLead * 1000))
  if c.pa ∧ free = true then
    .next ((s.advanceTo c.paOff).paDrop j)
  else .next s

/-- TXSW_RELEASE (R89, R90, R96): 1 µs after FEM_PA_n; the blanking interval runs on for its tail. -/
def execTxswRelease (j : Nat) (s : State) : Out :=
  let c := s.tx j
  let free := c.frames.all fun f =>
    !f.stage.live || (decide (f.stage = .committed) && decide (c.swOff < s.rfAt f - (f.paLead + 1) * 1000))
  if c.txsw ∧ c.pa = false ∧ free = true then
    .next ((s.advanceTo c.swOff).txswDrop j)
  else .next s

/-- LNA_ACTIVE (R89, R91, R94): 1 µs after the release of FEM_TXSW_n the pins are done: FEM_LNA_n goes as LNA_EN stood at the commit point,
and follows LNA_EN from then on. -/
def execLnaActive (j : Nat) (s : State) : Out :=
  let c := s.tx j
  if c.lnaFree = false ∧ c.txsw = false ∧ (c.frames.all fun f => !f.stage.live) = true then
    let s := s.advanceTo c.lnaOn
    let c := s.tx j
    .next (s.setTx j { c with lnaFree := true, lnaHold := c.lnaHold.map fun h => (h.1, some s.clp.now) })
  else .next s

/-- BLANKING_END (R53, R96): BLANK_TAIL after the release of FEM_TXSW_n, for the chain's interval that ends first; the detectors of every
rill of a chain that nothing blanks any more restart. -/
def execBlankingEnd (j : Nat) (s : State) : Out :=
  let bs := (s.tx j).blanks
  match (bs.filterMap fun b => b.endAt).min? with
  | some t =>
    match bs.find? fun b => b.endAt == some t with
    | some b =>
      let s := s.advanceTo t
      let s := s.setTx j { s.tx j with blanks := (s.tx j).blanks.erase b }
      .next ((List.range 16).foldl (fun s i =>
        if b.mask.testBit i && !s.blanked i then s.forRills fun s n => s.rillRestart i n else s) s)
    | none => .next s
  | none => .next s

/-- LOCK_LOSS (R87): LOCK falls; the synthesiser relocks at the next CAL, window change, temperature calibration or start, and not before
(DESIGN CHOICE, log entry 111). -/
def execLockLoss (dt j : Nat) (s : State) : Out := .next ((s.after dt).lockFall j)

/-! ## Front-end polarity (R92, R94) -/

/-- The chain's pins may change polarity: no frame is past its commit point and FEM_TXSW_n has released. -/
def State.femIdle (s : State) (j : Nat) : Bool :=
  !(s.tx j).txsw && !(s.tx j).pa && (s.tx j).frames.all fun f => !f.stage.live

/-- The polarities of TXF_FEM_CTL take effect. -/
def State.polApply (s : State) (j : Nat) : State :=
  s.setTx j { s.tx j with
    polDue := false
    pol := some (s.flag F.TXF_FEM_CTL_PA_POL j, s.flag F.TXF_FEM_CTL_TXSW_POL j, s.flag F.TXF_FEM_CTL_LNA_POL j) }

/-- A write of TXF_FEM_CTL (R91, R94): polarities wait for an idle chain. The first write finding a frame
past its commit point leaves all three pins low until then (DESIGN CHOICE, log entry 112). -/
def State.femCtlWrite (s : State) (j : Nat) (d : Word) : State :=
  let s := s.setReg .TXF_FEM_CTL j 0 (d &&& 0x000F3F7F)
  let s := s.setTx j { s.tx j with polDue := true }
  s.on (s.femIdle j) fun s => s.polApply j

/-- FEM_POL_APPLY (R94): the first instant at which the chain is idle after a write of TXF_FEM_CTL. -/
def execFemPolApply (j : Nat) (s : State) : Out := 
  if (s.tx j).polDue && s.femIdle j then .next (s.polApply j) else .next s

/-- The level of FEM_PA_n, FEM_TXSW_n and FEM_LNA_n; the first two are inactive while the transmit side is Off (R92). -/
def State.femPins (s : State) (j : Nat) : Bool × Bool × Bool :=
  let c := s.tx j
  let on := s.txState j != 0
  match c.pol with
  | none => (false, false, false)
  | some (p, w, l) => ((c.pa && on) != p, (c.txsw && on) != w, s.lnaOn j != l)

end Sys2Proof.Machine
end

