-- ==== Sys2Proof/Machine/TwinOps.lean ====
section
/-! DEFINITION. Operations of the Twin block that several blocks share (16_twin.md): messages on the link (R456), the roles' entries, and
yielding (R468). -/

namespace Sys2Proof.Machine

/-- The payload word of HEARTBEAT, TAKEOVER, HANDOVER and GOODBYE (R456). -/
def State.twnWord (s : State) : Word :=
  BitVec.ofNat 64 (s.fld F.TWN_STAT_ROLE + 4 * s.fld F.TWN_CTL_UNIT + 8 * s.fld F.TWN_CTL_PREFER + 16 * s.fld F.TWN_STAT_SYNCED +
    65536 * s.fld F.TWN_STAT_TERM)

/-- The check word of a message: the CRC-32C over the words before it (R456). -/
def twnCheck (bs : List Byte) : List Byte := leBytes 8 (crc32c bs)

/-- A message as it lies on the link (R456): header, payload words, check word. -/
def twnBytes (type seq stamp : Nat) (payload : List Word) : List Byte :=
  let head := stamp % 2 ^ 32 + 2 ^ 32 * (seq % 65536) + 2 ^ 48 * (payload.length % 4096) + 2 ^ 60 * (type % 16)
  let bs := leBytes 8 head ++ payload.flatMap fun w => leBytes 8 w.toNat
  bs ++ twnCheck bs

/-- A message with its check word recomputed (R519, FIX_CHECK). -/
def twnFix (bs : List Byte) : List Byte :=
  let body := bs.take (bs.length - 8)
  body ++ twnCheck body

/-- A message passes point 8 or 9; only types that TYPE_MASK names are subject to injection (R519). -/
def State.twnPoint (s : State) (k type : Nat) (f : Passing) : List Passing × State :=
  if (s.fld F.OBS_EDDY_CFG_TYPE_MASK k).testBit (type - 1) then s.eddyAt k twnFix f
  else if s.pointOn k then s.passPoint k f
  else ([f], s)

/-- A message that reaches point 9 now is dropped there (R519, R520). -/
def State.twnDrops (s : State) (type : Nat) : Bool := (s.fld F.OBS_EDDY_CFG_TYPE_MASK 9).testBit (type - 1) && s.eddyDrops 9

/-- The lanes a message leaves on (R456, R466, R472): heartbeats, TAKEOVER and GOODBYE on every locked lane, every other message on lane 0
while it is locked and on lane 1 otherwise. -/
def State.twnLanes (s : State) (type : Nat) : List Nat :=
  let locked := [0, 1].filter fun k => (s.fld F.TWN_STAT_LANE_LOCK).testBit k
  if ([1, 4, 6] : List Nat).contains type then locked else locked.take 1

/-- A message leaves on its lanes; its header names its TYPE (R456). -/
def State.twnEmit (s : State) (f : Passing) : State :=
  let lanes := s.twnLanes (bits (ofLe (f.bytes.take 8)) 60 4)
  { s with twn := { s.twn with sent := s.twn.sent ++ lanes.map fun k => (k, f.bytes) } }

/-- A message goes out while a lane is locked (R456), through point 9. -/
def State.twnSend (s : State) (type : Nat) (payload : List Word) : State :=
  if s.fld F.TWN_STAT_LANE_LOCK = 0 then s
  else
    let bs := twnBytes type s.twn.seq s.service payload
    let (fs, s) := { s with twn := { s.twn with seq := (s.twn.seq + 1) % 65536 } }.twnPoint 9 type ⟨bs, s.service, noAsn⟩
    fs.foldl (fun s f => s.twnEmit f) s

/-- The device becomes STANDBY (R459, R464): SYNCED clear, the air path taken as good, a bulk sync asked for; what it still had to mirror
is discarded. -/
def State.enterStandby (s : State) : State :=
  let s := (((s.setFld F.TWN_STAT_ROLE 2).setFld F.TWN_STAT_SYNCED 0).setFld F.TWN_STAT_AIR_OK 1).setFld F.TWN_STAT_AIR_MISS 0
  { s with twn := { s.twn with
      act := false, airGood := 0, expected := [], queue := [], overflow := false, bulk := [], bulkOpen := false, bulkAsked := false,
      handing := none, handed := false, arrived := false, goodbye := false }
    }.twnSend 8 []

/-- The device becomes ACTIVE. -/
def State.enterActive (s : State) : State :=
  let t := { s.twn with act := true, expected := [], goodbye := false, handing := none, handed := false, arrived := false }
  { s with twn := t }.setFld F.TWN_STAT_ROLE 3

/-- One frame of a yielding device (R468): a radiating one ramps down, one past its commit point is recalled, a held one is discarded; all
complete INTERNAL. A frame that waits for its acknowledgement has been sent. -/
def State.yieldFrame (s : State) (j : Nat) (f : TxFrame) : State :=
  match f.stage with
  | .held => s.completeTx j f .internal
  | .radiating => s.rampDown j f .internal
  | .awaitAck => s
  | _ => s.recall j f .internal

/-- Every chain's frames of a yielding device. -/
def State.yieldFrames (s : State) : State :=
  (List.range 16).foldl (fun s j => (s.tx j).frames.foldl (fun s f => s.yieldFrame j f) s) s

/-- An ACTIVE device yields and adopts a TERM (R468). -/
def State.yieldTo (s : State) (term : Nat) : State :=
  ((s.yieldFrames.setFld F.TWN_STAT_TERM term).enterStandby).raise F.TWN_EVT_YIELDED

end Sys2Proof.Machine
end

