-- ==== Sys2Proof/Machine/Mac.lean ====
section
/-! DEFINITION. The MAC slot engine (05_mesh_mac.md, R128–R141, R159): the profile, the slots, the beacons, and Spillway's sending
slots as a slot is resolved (R168–R174). -/

namespace Sys2Proof.Machine

/-! ## Profile and running (R130–R132) -/

/-- The profile checks of R130. -/
def State.profileOk (s : State) : Bool :=
  let len := s.fld F.MAC_SLOT_SLOT_LEN_US
  let off := s.fld F.MAC_TMPL_0_TX_OFFSET
  let delay := s.fld F.MAC_TMPL_1_ACK_DELAY
  decide (10000 ≤ len) && decide (len ≤ 50000) && decide (s.fld F.MAC_TMPL_0_RX_GUARD ≤ off) &&
    decide (100 ≤ delay) && decide (delay ≤ 5000) && decide (s.fld F.MAC_TMPL_2_ACK_WAIT ≤ 2 * delay) &&
    decide (off + s.fld F.MAC_TMPL_1_MAX_AIR + delay + s.fld F.MAC_TMPL_2_ACK_MAX_AIR ≤ len) &&
    (List.range 8).all fun k => !s.flag F.MAC_SF_EN k || decide (1 ≤ s.fld F.MAC_SF_LENGTH k)

/-- The chains that nothing holds awake any more, or that something now does, are told (R419). -/
def State.wakeAll (s : State) : State := (List.range 16).foldl (fun s j => s.wakeUpdate j) s

/-- RUNNING follows EN and ASN_VALID (R132): when it sets, the first slot worked is the next to start, and windows still open hold their
chains (R136); when it clears, the engine works no slot and asks for no chain. A read of Spillway's for a slot already resolved goes on and its copies are
placed; PAUSED reads 0, with no PAUSE_START, no PAUSE_END, and ARM as it stands; and an acknowledgement sent in a slot still counts for an ASN that
comes again (DESIGN CHOICE, log entry 156). -/
def State.macUpdate (s : State) : State :=
  let s := s.setFld F.MAC_STAT_ASN_VALID (cond s.asnValid 1 0)
  let run := s.flag F.MAC_CTL_EN && s.asnValid
  if run = s.flag F.MAC_STAT_RUNNING then s
  else
    let s := s.setFld F.MAC_STAT_RUNNING (cond run 1 0)
    if run then
      { s with mac := { s.mac with nextAsn := some ((s.asn + 1) % 2 ^ 40), firstAsn := (s.asn + 1) % 2 ^ 40 } }.wakeAll
    else
      ({ s with mac := { s.mac with nextAsn := none, resolved := none, work := none, last := none, wake := 0 } }.setFld
        F.MAC_STAT_PAUSED 0).wakeAll

/-- A write of MAC_CTL (R130). -/
def State.macCtlWrite (s : State) (d : Word) : State :=
  let was := s.flag F.MAC_CTL_EN
  let s := s.setReg .MAC_CTL 0 0 ((d &&& 0x7E) ||| (if was then 1 else 0))
  match was, d.getLsbD 0 with
  | false, true =>
    if s.profileOk then ((s.setFld F.MAC_CTL_EN 1).setFld F.MAC_STAT_PROFILE_BAD 0).macUpdate
    else (s.setFld F.MAC_STAT_PROFILE_BAD 1).raise F.MAC_EVT_PROFILE_BAD
  | true, false => (s.setFld F.MAC_CTL_EN 0).macUpdate
  | _, _ => s

/-- MAC_ENABLE (R130): a write of MAC_CTL with EN 1. -/
def execMacEnable (d : Word) (s : State) : Out := .next (s.powered fun s => s.macCtlWrite (d ||| 1))

/-- A write of MAC_SLOT, MAC_TMPL_0–2, MAC_SFD_OFF_m or MAC_SF_s (R131), mirrored where it took effect and R461 lists it. -/
def State.macProfileWrite (s : State) (id : RegId) (i : Nat) (d : Word) : State :=
  let len := bits d.toNat 0 16
  let bad := s.flag F.MAC_CTL_EN ||
    (decide (id = .MAC_SLOT) && s.flag F.CLP_STAT_ARMED && (decide (len < 10000) || decide (50000 < len)))
  if bad then s.raise F.MAC_EVT_CFG_IGNORED
  else
    let mask : Word := match id with
      | .MAC_SFD_OFF => 0xFFFF
      | .MAC_SF => 0xFF03FFFF
      | _ => 0xFFFFFFFF
    let s := s.setReg id i 0 (d &&& mask)
    if id = .MAC_SFD_OFF then s else s.mirrorPost 2 (64 * id.ctorIdx + i) [d &&& mask]

/-! ## Cells (R133–R135, R444) -/

/-- Cell-table entries written in this cycle, with the entry before (R160). -/
def State.cellsWas (s : State) : List (Nat × Option Nat) := if s.mac.cellWas.1 = s.clp.now then s.mac.cellWas.2 else []

/-- One entry of the cell table as the resolution of a slot reads it (R160, R444): as it stood before a write of this cycle; an
uncorrectable one does not match and is rewritten as 0. -/
def State.readCell (s : State) (w : Nat) : Option Nat × State :=
  match s.cellsWas.find? fun e => e.1 == w with
  | some e => (e.2, s)
  | none => match s.memRead 6 w with
    | (.good v, s) => (some v, s)
    | (.bad _, s) => (none, s.dropWord 6 w)

/-- The valid ones of some entries of the cell table, in order, and the state after the read. -/
def State.readCells (s : State) : List Nat → List (Nat × Nat) × State
  | [] => ([], s)
  | w :: ws =>
    let (v, s) := s.readCell w
    let (cs, s) := s.readCells ws
    (match v with
      | some v => if v.testBit 19 && bits v 20 2 != 3 then (w, v) :: cs else cs
      | none => cs, s)

/-- The indices of the cell-table entries that may be valid, rising. -/
def State.cellWords (s : State) : List Nat :=
  let a := s.liveWords 6
  (a ++ (s.cellsWas.map fun e => e.1).filter fun w => !a.contains w).insertionSort (· ≤ ·)

/-- An entry matches a slot (R134). -/
def State.cellMatches (s : State) (v a : Nat) : Bool :=
  let sf := bits v 16 3
  let len := s.fld F.MAC_SF_LENGTH sf
  s.flag F.MAC_SF_EN sf && decide (1 ≤ len) && decide (bits v 0 16 = a % len)

/-- The union of the CHAINS of matching entries whose kind is in a list. -/
def State.cellChains (s : State) (cs : List (Nat × Nat)) (kinds : List Nat) (a : Nat) : Nat :=
  cs.foldl (fun m e => if kinds.contains (bits e.2 20 2) && s.cellMatches e.2 a then m ||| bits e.2 24 16 else m) 0

/-! ## Beacons (R137–R141) -/

/-- The set bits of a 64-bit mask in rising order. -/
def bitsOf (m : Nat) : List Nat := (List.range 64).filter fun k => m.testBit k

/-- The carriers of a chain's beacon (R137). -/
def State.bcnCarriers (s : State) (j : Nat) : List Nat :=
  let cs := bitsOf (s.fld F.MAC_BCN_MASK_CARRIERS j)
  if !s.flag F.MAC_BCN_CFG_MODE j then cs
  else match SMap.find? s.mac.bcnLast j with
    | some k => match cs.find? (k < ·) with
      | some c => [c]
      | none => cs.take 1
    | none => cs.take 1

/-- The links that a slotframe advertises on a chain: SLOT_OFFSET, CH_OFFSET, LINK_OPT, by rising cell index. -/
def advLinks (cs : List (Nat × Nat)) (sf j : Nat) : List (List Byte) :=
  cs.filterMap fun e =>
    if bits e.2 16 3 = sf && e.2.testBit 22 && (bits e.2 24 16).testBit j then
      some (leBytes 2 (bits e.2 0 16) ++ leBytes 2 (bits e.2 40 16) ++ leBytes 1 (bits e.2 56 8))
    else none

/-- One slotframe of the TSCH Slotframe and Link IE: HANDLE, LENGTH, the link count, the links. -/
def State.sfEntry (s : State) (sf : Nat) (links : List (List Byte)) : List Byte :=
  leBytes 1 (s.fld F.MAC_SF_HANDLE sf) ++ leBytes 2 (s.fld F.MAC_SF_LENGTH sf) ++ leBytes 1 links.length ++ links.flatten

/-- The Timeslot IE of R138, full template; RxWait above 65,535 goes out modulo 2¹⁶ (DESIGN CHOICE, log entry 141). -/
def State.timeslotIe (s : State) : List Byte :=
  let off := s.fld F.MAC_TMPL_0_TX_OFFSET
  let guardUs := s.fld F.MAC_TMPL_0_RX_GUARD
  let delay := s.fld F.MAC_TMPL_1_ACK_DELAY
  let wait := s.fld F.MAC_TMPL_2_ACK_WAIT
  nestedIe 0x1C (leBytes 1 1 ++ leBytes 2 0 ++ leBytes 2 0 ++ leBytes 2 off ++ leBytes 2 (off - guardUs) ++
    leBytes 2 (delay - wait / 2) ++ leBytes 2 delay ++ leBytes 2 (2 * guardUs) ++ leBytes 2 wait ++ leBytes 2 0 ++
    leBytes 2 (s.fld F.MAC_TMPL_2_ACK_MAX_AIR) ++ leBytes 3 (s.fld F.MAC_TMPL_1_MAX_AIR) ++
    leBytes 3 (s.fld F.MAC_SLOT_SLOT_LEN_US))

/-- The aligned acknowledgement offset of a slot in µs (R142). -/
def State.ackOffset (s : State) : Nat :=
  s.fld F.MAC_TMPL_0_TX_OFFSET + s.fld F.MAC_TMPL_1_MAX_AIR + s.fld F.MAC_TMPL_1_ACK_DELAY

/-- The pause is announced in a beacon of slot `a` (R159). -/
def State.announces (s : State) (a : Nat) : Bool := s.flag F.MAC_PAUSE_ARM && decide (a < s.fld F.MAC_PAUSE_START_ASN)

/-- The beacon of a chain for slot `a`, with the slotframe entries `sfs` listed and `fcs` FCS bytes (R138). -/
def State.beaconBytes (s : State) (j a fcs : Nat) (sfs : List (List Byte)) : List Byte :=
  let lvl := s.fld F.MAC_BCN_CFG_SECLVL j
  let oui := leBytes 3 (s.fld F.MAC_VENDOR_OUI)
  let sync := nestedIe 0x1A (leBytes 5 a ++ leBytes 1 (s.fld F.MAC_ACK_CTL_JOIN_METRIC))
  let hop := nestedLongIe 0x9 (leBytes 1 (s.fld F.MAC_SLOT_HOP_ID))
  let mlme := payIe 1 (sync ++ s.timeslotIe ++ hop ++ nestedIe 0x1B (leBytes 1 sfs.length ++ sfs.flatten))
  let prof := payIe 2 (oui ++ leBytes 1 1 ++ leBytes 1 (s.fld F.MAC_VENDOR_PROFILE_VER) ++ leBytes 2 s.ackOffset ++
    leBytes 1 (s.fld F.MAC_CTL_ACK_SEC))
  let pause := if s.announces a then
      payIe 2 (oui ++ leBytes 1 2 ++ leBytes 5 (s.fld F.MAC_PAUSE_START_ASN) ++ leBytes 1 (s.fld F.MAC_PAUSE_SLOTS))
    else []
  buildHeader 0 lvl (some (SMap.getD s.mac.bcnSeq j 0)) (s.fld F.MAC_ADDR_PAN) 2 0xFFFF 3 (s.fld F.MAC_EUI_EUI64) ++
    hdrIe 0x7E [] ++ mlme ++ prof ++ pause ++ payIe 0xF [] ++ tailRoom lvl fcs

/-- A beacon of `n` bytes fits MAX_AIR on every enabled carrier of a list (R139). -/
def State.bcnFits (s : State) (j : Nat) (cars : List Nat) (n : Nat) : Bool :=
  cars.all fun k =>
    !s.flag F.TXF_CAR_CFG_EN j k ||
      decide (s.airNs (s.fld F.TXF_CAR_CFG_MODE j k) (s.fld F.TXF_CAR_CFG_MCS j k) n ≤ s.fld F.MAC_TMPL_1_MAX_AIR * 1000)

/-- The content of nested IE 4 fits its length field, and every link count its byte. -/
def sfListOk (sfs : List (Nat × List (List Byte))) : Bool :=
  sfs.all (fun e => decide (e.2.length ≤ 255)) && decide (1 + (sfs.map fun e => 4 + 5 * e.2.length).sum ≤ 255)

/-- The slotframes and links that a beacon lists (R139): all; else the longest run from the lowest that fits whole; else the lowest
with as many leading links as fit. -/
def State.listedLinks (s : State) (j a fcs : Nat) (cars : List Nat) (all : List (Nat × List (List Byte))) :
    List (Nat × List (List Byte)) :=
  let ok (sfs : List (Nat × List (List Byte))) : Bool :=
    sfListOk sfs && s.bcnFits j cars (s.beaconBytes j a fcs (sfs.map fun e => s.sfEntry e.1 e.2)).length
  match ((List.range (all.length + 1)).reverse.map fun n => all.take n).find? fun sfs => !sfs.isEmpty && ok sfs with
  | some sfs => sfs
  | none =>
    match all with
    | [] => []
    | (sf, links) :: _ =>
      match ((List.range (links.length + 1)).reverse.map fun n => [(sf, links.take n)]).find? ok with
      | some sfs => sfs
      | none => [(sf, [])]

/-- FCS bytes of a frame that copies on several carriers share: those of the first enabled carrier on the chains that are left, 2 where none is
enabled (DESIGN CHOICE, log entry 158). -/
def State.sharedFcs (s : State) (on : List (Nat × Nat)) : Nat :=
  match on.find? fun e => s.flag F.TXF_CAR_CFG_EN e.1 e.2 with
  | some (j, k) => s.txFcsLen j k (s.fld F.TXF_CAR_CFG_MODE j k)
  | none => 2

/-- Copies of a frame that share one cell chain are placed, in order (R141, R166, R169). -/
def State.placeCopies (s : State) (o : Nat → TxOrigin) (on : List (Nat × Nat)) (cells : List Nat) (d : TxDesc) : State :=
  let cell := cells.getD 0 0
  let (g, s) := s.newShared cell on.length
  on.foldl (fun s e => s.place { origin := o g, desc := { d with chain := e.1, carrier := e.2, cell := cell, keep := true } }) s

/-- The bytes of a chain's beacon for slot `a` on some carriers, with the valid cells `cs` (R138, R139). -/
def State.beaconFrame (s : State) (cs : List (Nat × Nat)) (j a : Nat) (cars : List Nat) : List Byte :=
  let fcs := s.sharedFcs (cars.map fun k => (j, k))
  let all := ((List.range 8).filter fun k => s.flag F.MAC_SF_EN k && s.flag F.MAC_SF_ADVERTISE k).map
    fun k => (k, advLinks cs k j)
  s.beaconBytes j a fcs ((s.listedLinks j a fcs cars all).map fun e => s.sfEntry e.1 e.2)

/-- The copies of a beacon for which no cell is free: each counts as not sent (R141; log entry 31). -/
def State.bcnUnsent (s : State) (cars : List Nat) : State :=
  cars.foldl (fun s _ => (s.bump F.MAC_CNT_BCN_FAIL_COUNT).raise F.MAC_EVT_BCN_FAIL) s

/-- BEACON_BUILD (R137, R141): the chain's beacon for slot `a` is built and its copies are placed. Without a free cell no copy is
placed and every copy counts as not sent; it counts as built all the same (DESIGN CHOICE, log entry 31). -/
def State.buildBeacon (s : State) (cs : List (Nat × Nat)) (j a : Nat) : State :=
  let cars := s.bcnCarriers j
  let on := cars.map fun k => (j, k)
  let bytes := s.beaconFrame cs j a cars
  let was := s.mac.bcnNow
  let s := { s with mac := { s.mac with
    bcnSeq := SMap.put s.mac.bcnSeq j ((SMap.getD s.mac.bcnSeq j 0 + 1) % 256)
    bcnLast := if s.flag F.MAC_BCN_CFG_MODE j then SMap.put s.mac.bcnLast j (cars.getLastD 0) else s.mac.bcnLast
    bcnNow := s.mac.bcnNow ++ [(a, j, cars)] } }
  match s.alloc bytes.length with
  | (some cells, s) =>
    (s.putFrame cells bytes).placeCopies (fun g => .beacon g) on cells
      { len := bytes.length, mode := 2, asn := a, slotOff := s.fld F.MAC_TMPL_0_TX_OFFSET, group := s.fld F.MAC_BCN_CFG_GROUP j,
        sec := s.fld F.MAC_BCN_CFG_SECLVL j }
  | (none, s) => { s with mac := { s.mac with bcnNow := was } }.bcnUnsent cars

/-- The copies of shared frame `g` that were placed in this cycle and that the charter stage has not taken. -/
def State.freshCopies (s : State) (g : Nat) : List Placed :=
  s.cht.inbox.filter fun p => decide (p.origin = .beacon g) && p.at_ == s.clp.now

/-- A beacon of this cycle whose copies all stand before the charter stage is built afresh: ARM has set, and it is to carry the Pause IE
(R160). -/
def State.rebuildBeacon (s : State) (g : Nat) : State :=
  let ps := s.freshCopies g
  match ps with
  | [] => s
  | p :: _ =>
    let j := p.desc.chain
    if ps.length = (s.shared g).left ∧ s.announces p.desc.asn = true then
      let cars := ps.map fun p => p.desc.carrier
      let seq := SMap.getD s.mac.bcnSeq j 0
      let was := { s with mac := { s.mac with bcnSeq := SMap.put s.mac.bcnSeq j ((seq + 255) % 256) } }
      let bytes := was.beaconFrame s.mac.cells j p.desc.asn cars
      match (s.freeChain (s.shared g).cell).alloc bytes.length with
      | (some cells, s) =>
        let cell := cells.getD 0 0
        let s := (s.putFrame cells bytes).setShared g { s.shared g with cell := cell }
        s.setInbox (s.cht.inbox.map fun q =>
          if q.origin = .beacon g then { q with desc := { q.desc with cell := cell, len := bytes.length } } else q)
      | (none, s) =>
        let s := s.setInbox (s.cht.inbox.filter fun q => decide (q.origin ≠ .beacon g))
        { s with txf := { s.txf with shared := SMap.del s.txf.shared g } }.bcnUnsent cars
    else s

/-- ARM of MAC_PAUSE sets: the beacons of this cycle are built afresh (R160). -/
def State.pauseArmed (s : State) : State := (s.txf.shared.map fun e => e.1).foldl (fun s g => s.rebuildBeacon g) s

/-- The conditions of R137 and R459 on a chain. -/
def State.beaconSet (s : State) (j a : Nat) : Bool :=
  s.flag F.MAC_CTL_BCN_EN && s.flag F.MAC_BCN_CFG_EN j && s.fld F.MAC_BCN_MASK_CARRIERS j != 0 && !s.inPause a

/-- The device sends a beacon on a chain: not while the warm path has stopped the threads (R496). -/
def State.sendsBeacon (s : State) (j a : Nat) : Bool := !s.bot.stopped && s.beaconSet j a

/-- The slot is one that the device works as the transmitting device (R465, R466, R471). -/
def State.worksSlot (s : State) (a : Nat) : Bool :=
  s.mayTransmit && decide (s.twn.workFrom ≤ s.slotStart a) &&
    (match s.twn.handing with | some h => s.fld F.TWN_STAT_ROLE != 3 || decide (a < h) | none => true)

/-! ## Spillway's sending slots (R168–R170, R174) -/

/-- A slot matches the schedule of a Running session (R168). Slots that pass while it does not run count for nothing, BACKOFF among it
(DESIGN CHOICE, log entry 142). -/
def State.spwMatches (s : State) (k a : Nat) : Bool :=
  let sf := s.fld F.SPW_SCHED_SF k
  let len := s.fld F.MAC_SF_LENGTH sf
  s.fld F.SPW_STAT_STATE k == 2 && !s.inPause a && s.flag F.MAC_SF_EN sf && decide (1 ≤ len) &&
    decide (a % len = s.fld F.SPW_SCHED_SLOT_OFFSET k)

/-- One session at a matching slot: whether it is a sending slot, and the session after it has been counted (R168, R172). The slots of a
back-off count for PACE (DESIGN CHOICE, log entry 142). -/
def SpwSession.turn (p : SpwSession) (pace : Nat) : Bool × SpwSession :=
  if 0 < p.backoff then (false, { p with backoff := p.backoff - 1, since := p.since.map (· + 1) })
  else match p.since with
    | none => (true, { p with since := some 0 })
    | some n => if pace ≤ n then (true, { p with since := some 0 }) else (false, { p with since := some (n + 1) })

/-- Block bytes of a session (R164). -/
def State.spwBlock (s : State) (k : Nat) : Nat := (s.fld F.SPW_GEOM_BSIZE k + 1) * 64

/-- Chains and carriers of a session that a mask of chains leaves (R169). -/
def State.spwOn (s : State) (k chains : Nat) : List (Nat × Nat) :=
  ((List.range 16).filter fun j => chains.testBit j).flatMap fun j =>
    (bitsOf (s.fld F.SPW_CAR_CARRIERS k)).map fun c => (j, c)

/-- The length of a session's manifest frame, or of a block frame, with `fcs` FCS bytes (R165). -/
def State.spwLen (s : State) (k fcs : Nat) (manifest : Bool) : Nat :=
  let lvl := s.fld F.SPW_TX_SECLVL k
  (buildVendor lvl 0 0 fcs []).length + (if manifest then 15 + s.fld F.SPW_GEOM_MAN_LEN k else 10 + s.spwBlock k)

/-- Where a frame of a session lies in flash, that of a block or the manifest: address and length (R164). -/
def State.spwSpan (s : State) (k : Nat) (block : Option Nat) : Nat × Nat :=
  let base := s.fld F.SPW_FLASH_BASE k
  match block with
  | none => (base, s.fld F.SPW_GEOM_MAN_LEN k)
  | some b => (base + 256 + b * s.spwBlock k, s.spwBlock k)

/-- What a session sends next: the manifest (`some none`), or the first block of the send set, that no slot in work carries (R167); `none` where
nothing is left. -/
def SpwSession.next (p : SpwSession) : Option (Option Nat) :=
  let busy := (p.slots.filter fun x => !x.stray).map fun x => x.block
  if p.manifest && !busy.contains none then some none
  else (p.todo.find? fun b => !busy.contains (some b)).map some

/-- SPW_SENDING_SLOT (R170, R174, R403): the sending slot of a session on the chains that no lower session takes; its cells are
taken and the flash read is asked for, unless the layout refuses it, which is recorded as INTERNAL (R13; the slot is then skipped as a late read). A
session that names no chain, or whose last frames are all in work, sends nothing and counts nothing (DESIGN CHOICE, log entry 143). One that loses a
chain and is then skipped counts twice (DESIGN CHOICE, log entry 158). -/
def State.spwStart (s : State) (k a taken : Nat) : State :=
  let named := s.fld F.SPW_TX_CHAINS k
  let chains := named &&& (65535 ^^^ taken)
  let s := s.on (chains != named) fun s => s.bump F.SPW_CNT_SKIP_COUNT
  match chains, (s.spwS k).next with
  | 0, _ => s
  | _, none => s
  | _, some block =>
    match s.alloc (s.spwLen k (s.sharedFcs (s.spwOn k chains)) block.isNone) with
    | (some cells, s) =>
      let s := s.setSpw k { s.spwS k with slots := (s.spwS k).slots ++ [{ asn := a, cells := cells, chains := chains, block := block }] }
      let (addr, n) := s.spwSpan k block
      if flashAllowed 2 addr n true then
        s.on (decide (addr + n ≤ s.flashSize)) fun s =>
          s.flsSubmit { src := 2, session := k, asn := a, kind := .read, addr := addr, len := n }
      else (s.bump F.FLS_CNT_REFUSED_COUNT).siltInternal 14 1
    | (none, s) => (s.bump F.SPW_CNT_SKIP_COUNT).raise F.SPW_EVT_NO_CELL

/-- The sessions at the resolution of slot `a`, in rising order: the chains taken so far, and the state. -/
def State.spwResolve (s : State) (a : Nat) : State :=
  ((List.range 4).foldl (fun (acc : Nat × State) k =>
    let (taken, s) := acc
    if s.spwMatches k a then
      let (send, p) := (s.spwS k).turn (s.fld F.SPW_SCHED_PACE k)
      let s := s.setSpw k p
      if send then (taken ||| s.fld F.SPW_TX_CHAINS k, s.spwStart k a taken) else (taken, s)
    else acc) (0, s)).2

/-! ## Slots -/

/-- The engine's work for slot `a` (R137, R170): the beacons of its beacon cells, and Spillway's sending slots. -/
def State.slotWork (s : State) (cs : List (Nat × Nat)) (a : Nat) : State :=
  let beacon := s.cellChains cs [1] a
  ((List.range 16).foldl (fun s j => if beacon.testBit j && s.sendsBeacon j a then s.buildBeacon cs j a else s) s).spwResolve a

/-- SLOT_RESOLVE (R134, R135, R137, R170, R459): 1,000 µs before the slot start, or at once where that has passed. -/
def execSlotResolve (s : State) : Out :=
  match s.mac.nextAsn with
  | some a =>
    if s.flag F.MAC_STAT_RUNNING = true ∧ s.memsReady [5, 6] = true then
      let s := s.advanceToFull (s.slotStart a - 1000000)
      let (cs, s) := s.readCells s.cellWords
      let listen := s.cellChains cs [0, 1] a
      let beacon := s.cellChains cs [1] a
      let s := { s with mac := { s.mac with
          bcnNow := s.mac.bcnNow.filter fun e => (e.1 + 1) % 2 ^ 40 == a
          nextAsn := some ((a + 1) % 2 ^ 40), resolved := some (a, listen), unworked := !s.worksSlot a, cells := cs } }
      let air := (List.range 16).foldl (fun m j =>
        if (beacon &&& s.fld F.TWN_AIR_AIR_CHAINS).testBit j && s.beaconSet j a then m + 2 ^ j else m) 0
      let s := s.on (s.fld F.TWN_STAT_ROLE == 2 && air != 0) fun s =>
        { s with twn := { s.twn with expected := s.twn.expected ++ [(a, air, false)] } }
      .next (s.on (s.worksSlot a) fun s => s.slotWork cs a)
    else .next s
  | none => .next s

/-- A handover that has arrived takes effect at the start of slot `a` (R471): the standby becomes ACTIVE with TERM raised. -/
def State.handoverTake (s : State) (a : Nat) : State :=
  match s.twn.handing with
  | some h =>
    if s.fld F.TWN_STAT_ROLE = 2 ∧ h ≤ a then
      let s := (s.setFld F.TWN_STAT_TERM (s.fld F.TWN_STAT_TERM + 1)).enterActive
      { s with twn := { s.twn with workFrom := s.slotStart a } }
    else s
  | none => s

/-- A slot that was none to work when it was resolved and is one now: its work begins at its start (R466, R471). -/
def State.lateWork (s : State) (a : Nat) : State :=
  s.on (s.mac.unworked && s.worksSlot a) fun s => s.slotWork s.mac.cells a

/-- A slot starts while the engine works none: a handover that has arrived takes effect at the start of its slot, or of the first since
(R471). -/
def State.bareStart (s : State) : State :=
  match s.twn.handing with
  | some h => s.on (s.fld F.TWN_STAT_ROLE == 2 && s.asnValid) fun s => (s.advanceToFull (s.slotStart h)).handoverTake h
  | none => s

/-- SLOT_START (R128, R159, R419, R471): pause slots are entered, and chains whose listen interval starts must be Listening. -/
def execSlotStart (s : State) : Out :=
  match s.mac.resolved with
  | some (a, listen) =>
    let s := ((s.advanceToFull (s.slotStart a)).handoverTake a).lateWork a
    let before := match s.mac.last with
      | some (b, m) => if (b + 1) % 2 ^ 40 = a then m else 0
      | none => 0
    let s := { s with mac := { s.mac with work := some (a, listen), resolved := none } }
    let s := (List.range 16).foldl (fun s j =>
      if listen.testBit j && !before.testBit j && s.chainState j != 2 then
        (s.bump F.PWR_CNT_WAKE_LATE_COUNT).raise F.PWR_EVT_WAKE_LATE
      else s) s
    let pause := s.inPause a
    let s := s.on (pause && !s.flag F.MAC_STAT_PAUSED) fun s => s.raise F.MAC_EVT_PAUSE_START
    .next (s.setFld F.MAC_STAT_PAUSED (cond pause 1 0))
  | none => .next s.bareStart

/-- A missed expected beacon slot (R459): the air path fails at the third in a row. -/
def State.airMiss (s : State) : State :=
  let n := s.fld F.TWN_STAT_AIR_MISS
  let s := (s.setFld F.TWN_STAT_AIR_MISS (min 3 (n + 1))).bump F.TWN_CNT_AIR_MISS_COUNT
  let s := { s with twn := { s.twn with airGood := 0 } }
  if n + 1 ≥ 3 && s.flag F.TWN_STAT_AIR_OK then (s.setFld F.TWN_STAT_AIR_OK 0).raise F.TWN_EVT_AIR_FAIL else s

/-- SLOT_END (R159, R419, R459): listen intervals that do not go on end; leaving the last pause slot ends the pause; an expected
beacon slot that ends unheard is a miss. -/
def execSlotEnd (s : State) : Out :=
  match s.mac.work with
  | some (a, listen) =>
    let b := (a + 1) % 2 ^ 40
    let s := s.advanceToFull (s.slotStart b)
    let next := match s.mac.resolved with
      | some (c, m) => if c = b then m else 0
      | none => 0
    let s := { s with mac := { s.mac with
      work := none, last := some (a, listen), wake := s.mac.wake &&& next
      acked := s.mac.acked.filter fun e => e.1 != a } }
    let s := s.wakeAll
    let s := s.on (s.inPause a && !s.inPause b) fun s =>
      ((s.raise F.MAC_EVT_PAUSE_END).setFld F.MAC_PAUSE_ARM 0).setFld F.MAC_STAT_PAUSED 0
    let missed := s.twn.expected.any fun e => e.1 == a && !e.2.2
    let s := { s with twn := { s.twn with expected := s.twn.expected.filter fun e => e.1 != a } }
    .next (s.on (missed && s.fld F.TWN_STAT_ROLE == 2) fun s => s.airMiss)
  | none => .next s

/-! ## Acknowledgement windows (R149–R151) -/

/-- A frame in reception on rill `k`, or closed and not yet completed by Sluice, whose SFD lies in a window, edges included (R150). -/
def State.candidates (s : State) (j k lo hi : Nat) : Bool :=
  let inWin (t : Nat) : Bool := decide (lo ≤ t) && decide (t ≤ hi)
  (s.slc.rx.any fun e => e.2.chain == j && e.2.rill == k && inWin e.2.sfd.fullNs) ||
    (match (s.rill j k).claim with
      | some c => match c.sfd with | some i => c.frame.isNone && inWin i.fullNs | none => false
      | none => false)

/-- Answered windows that have closed and whose candidates have ended are forgotten, and their chains are no longer held (R149). -/
def State.sweepAnswered (s : State) (j : Nat) : State :=
  let open_ := s.mac.answered.filter fun w =>
    w.2.1 != j || decide (s.fullNs ≤ w.2.2.2.2) || s.candidates w.2.1 w.2.2.1 w.2.2.2.1 w.2.2.2.2
  { s with mac := { s.mac with answered := open_ } }.wakeUpdate j

/-- A device frame's wait for its acknowledgement ends. -/
def State.ackEnd (s : State) (j : Nat) (f : TxFrame) : State := (s.noAck j f).wakeUpdate j

/-- ACK_WINDOW_CLOSE (R151): the window closes; without a candidate the frame completes TX_NO_ACK. -/
def execAckWindowClose (j id : Nat) (s : State) : Out :=
  match s.txFrame j id with
  | some f =>
    if f.stage = .awaitAck then
      let s := s.advanceToFull (f.ackTo + 1)
      let f := { f with closed := true }
      if s.candidates j f.desc.carrier f.ackFrom f.ackTo then .next (s.putTx j f) else .next (s.ackEnd j f)
    else .next s
  | none =>
    match s.mac.answered.find? fun w => w.1 == id && w.2.1 == j with
    | some w => .next ((s.advanceToFull (w.2.2.2.2 + 1)).sweepAnswered j)
    | none => .next s

end Sys2Proof.Machine
end

