-- ==== Sys2Proof/Machine/Keys.lean ====
section
/-! DEFINITION. Grotto's key store as the other blocks use it (08_grotto_security.md, R243–R253): groups, override cells, the
derived-key cache, and the keys that requests and jobs are given. -/

namespace Sys2Proof.Machine

/-! ## The random source (R260) -/

/-- The CTR_DRBG takes seed material from the entropy source (R260). -/
def State.reseed (s : State) : State :=
  let (k, v) := drbgUpdate s.grt.drbgKey s.grt.drbgV (Config.entropy s.grt.seeds).toNat
  { s with grt := { s.grt with drbgKey := k, drbgV := v, seeds := s.grt.seeds + 1, requests := 0 } }

/-- One request of the random source (R260): `n` 64-bit outputs as one number. -/
def State.randN (s : State) (n : Nat) : Nat × State :=
  let b := (n + 1) / 2
  let (k, v) := drbgUpdate s.grt.drbgKey ((s.grt.drbgV + b) % 2 ^ 128) 0
  (drbgBlocks s.grt.drbgKey s.grt.drbgV b / 2 ^ (128 * b - 64 * n),
   { s with grt := { s.grt with drbgKey := k, drbgV := v, requests := s.grt.requests + 1 } })

/-- One 64-bit output of the random source. -/
def State.rand (s : State) : Nat × State := s.randN 1

/-! ## The stores -/

/-- A 128-bit key as the bytes that AES takes. -/
def keyBytes (k : Nat) : List Byte := beBytes 16 k

/-- A group. -/
def State.grp (s : State) (g : Nat) : KeySlot := SMap.getD s.grt.groups g {}

/-- An override cell. -/
def State.cell (s : State) (q : Nat) : KeySlot := SMap.getD s.grt.ovrs q {}

/-- A group or an override cell. -/
def State.slot (s : State) (ovr : Bool) (i : Nat) : KeySlot := if ovr then s.cell i else s.grp i

/-- Set a group's or a cell's entry. -/
def State.setSlot (s : State) (ovr : Bool) (i : Nat) (v : KeySlot) : State :=
  if ovr then { s with grt := { s.grt with ovrs := SMap.putD s.grt.ovrs i v {} } }
  else { s with grt := { s.grt with groups := SMap.putD s.grt.groups i v {} } }

/-- The key that two shares hold (R246). -/
def KeySlot.key (e : KeySlot) : Nat := e.share ^^^ e.mask

/-- The slot with key `k` held under mask `m`. -/
def KeySlot.withKey (e : KeySlot) (k m : Nat) : KeySlot := { e with share := k ^^^ m, mask := m }

/-- The memory of R438 that holds the keys: 3 override cells, 4 the group-key store; four words an entry. -/
def keyMem (ovr : Bool) : Nat := if ovr then 3 else 4

/-- Where a key memory holds entry `i`: an override cell lies where the permutation of this start puts it (R246). -/
def State.keyPlace (s : State) (m i : Nat) : Nat := if m = 3 then (Config.cellPerm s.grt.perm (Fin.ofNat 32768 i)).val else i

/-- The four words of an entry of a key memory are written: good codewords, unless the flip-mask is armed for one (R442, R448). What
the words hold is kept apart from `mem` (R225), so that their data reads 0 here. -/
def State.keyWrite (s : State) (m i : Nat) : State := s.memWrites m (4 * s.keyPlace m i) [0, 0, 0, 0]

/-- What a request for a key gives: nothing live, an uncorrectable word, or the key and the time it takes in ns (R245). -/
inductive KeyAns where
  | absent
  | poisoned
  | found (k : JobKey) (ns : Nat)
  deriving DecidableEq, Repr

/-- A read of the four words of an entry: `none` when one was uncorrectable; otherwise the value, which three or more flipped bits that
decode as good leave free (R439). -/
def State.keyRead (s : State) (m i v : Nat) : Option Nat × State :=
  let (vs, bad, s) := s.memReads m (4 * s.keyPlace m i) 4
  if bad then (none, s)
  else if vs.all (· == 0) then (some v, s)
  else
    let (w, s) := s.fresh
    (some (v ^^^ w), s)

/-- A group's or a cell's key dropped under R444: it reads empty, its epoch unchanged. -/
def State.dropKey (s : State) (ovr : Bool) (i : Nat) : State :=
  ((s.setSlot ovr i { s.slot ovr i with share := 0, mask := 0, state := 0 }).keyWrite (keyMem ovr) i).bump
    F.MEM_CNT_DROP_COUNT

/-- The live key of a group or a cell, read from its store (R246, R444). -/
def State.storeKey (s : State) (ovr : Bool) (i : Nat) : KeyAns × State :=
  let e := s.slot ovr i
  if e.state != 1 then (.absent, s)
  else match s.keyRead (keyMem ovr) i e.key with
    | (some k, s) => (.found { ovr := ovr, idx := i, epoch := e.epoch, direct := true, key := k } 8, s)
    | (none, s) => (.poisoned, s.dropKey ovr i)

/-! ## Link keys (R244, R245) -/

/-- The link key of a node under a group key and its epoch (R244). -/
def linkKeyOf (gkey eui epoch : Nat) : Nat :=
  ofBe (aesCmac (keyBytes gkey) ([0x47, 0x4C, 0x4E] ++ beBytes 8 eui ++ beBytes 1 epoch))

/-- The bucket indices of a node-table key: H0, then H1 (R188). -/
def bucketOf (eui cls : Nat) : Nat × Nat :=
  let body := leBytes 1 cls ++ beBytes 8 eui
  (crc32c (0 :: body) % 65536, crc32 (1 :: body) % 65536)

/-- The cache set of a node (R245). -/
def cacheSet (eui : Nat) : Nat := (bucketOf eui 0).1 % 4096

/-- The time in ns from the start of a sweep to the cycle in which it reaches a set (R253): two sets in each fabric cycle of 625/768 ns, by
rising number (DESIGN CHOICE, log entry 145). -/
def sweepReach (set : Nat) : Nat := set / 2 * 625 / 768

/-- A sweep has removed the entry of way `i` (R253): it stood there when the sweep reached its set. -/
def State.sweptWay (s : State) (i : Nat) (e : CacheWay) : Bool :=
  s.grt.sweeps.any fun w =>
    w.group == some e.group && decide (e.made ≤ w.start + sweepReach (i / 4)) && decide (w.start + sweepReach (i / 4) ≤ s.clp.now)

/-- The ways of a set that hold an entry, as read: an uncorrectable entry is dropped (R444). -/
def State.readWays (s : State) (set : Nat) : List Nat → List (Nat × CacheWay) × State
  | [] => ([], s)
  | w :: ws =>
    let i := 4 * set + w
    match SMap.find? s.grt.cache i with
    | none => s.readWays set ws
    | some e =>
      if s.sweptWay i e then s.readWays set ws
      else match s.keyRead 2 i e.key with
      | (some k, s) =>
        let (es, s) := s.readWays set ws
        ((i, { e with key := k }) :: es, s)
      | (none, s) =>
        (({ s with grt := { s.grt with cache := SMap.del s.grt.cache i } }.keyWrite 2 i).bump F.MEM_CNT_DROP_COUNT).readWays set ws

/-- A cache entry is written. -/
def State.putWay (s : State) (i : Nat) (e : CacheWay) : State :=
  { s with grt := { s.grt with cache := SMap.put s.grt.cache i e, uses := s.grt.uses + 1 } }

/-- The way of a set that a new entry replaces: one that holds none, else the least recently used (R245). -/
def wayFor (set : Nat) (ws : List (Nat × CacheWay)) : Nat :=
  match ((List.range 4).map (4 * set + ·)).find? fun i => ws.all fun e => e.1 != i with
  | some i => i
  | none => (ws.foldl (fun (b : Nat × Nat) e => if e.2.used < b.2 then (e.1, e.2.used) else b) (4 * set, 2 ^ 64)).1

/-- The link key of a node under a live group: a cache hit, or a derivation that fills the cache (R244, R245). -/
def State.linkKey (s : State) (eui g : Nat) : KeyAns × State :=
  let e := s.grp g
  if e.state != 1 then (.absent, s)
  else
    let set := cacheSet eui
    let (ws, s) := s.readWays set [0, 1, 2, 3]
    let ans (k ns : Nat) : KeyAns := .found { idx := g, epoch := e.epoch, eui := eui, key := k } ns
    match ws.find? fun w => w.2.eui == eui && w.2.group == g && w.2.epoch == e.epoch with
    | some w => (ans w.2.key 4, (s.putWay w.1 { w.2 with used := s.grt.uses }).bump F.GRT_CNT_CACHE_HIT_COUNT)
    | none =>
      match s.storeKey false g with
      | (.found k _, s) =>
        let lk := linkKeyOf k.key eui e.epoch
        let i := wayFor set ws
        (ans lk 18, ((s.putWay i { eui := eui, group := g, epoch := e.epoch, key := lk, used := s.grt.uses, made := s.clp.now }).keyWrite 2 i).bump F.GRT_CNT_DERIVE_COUNT)
      | a => a

/-! ## Requests and jobs -/

/-- Sluice's request for a source entry's key (R229, R243). -/
def State.requestKey (s : State) (keyMode eui group ovrPtr : Nat) (ovrEn : Bool) : KeyAns × State :=
  if keyMode != 0 || s.fld F.GRT_STAT_ROOT_STATE == 3 then (.absent, s)
  else if ovrEn then s.storeKey true ovrPtr
  else s.linkKey eui group

/-- The key a job finds at its start for the key that was granted before (R248, R253). -/
def State.jobKey (s : State) (k : JobKey) : KeyAns × State :=
  if k.ovr then s.storeKey true k.idx
  else if k.direct then s.storeKey false k.idx
  else s.linkKey k.eui k.idx

/-! ## CCM* on a frame (R247) -/

/-- The nonce of R247. -/
def ccmNonce (eui ctr lvl : Nat) : List Byte := beBytes 8 eui ++ beBytes 4 ctr ++ beBytes 1 lvl

/-- Verify and decrypt a frame whose private payload runs from `a` to `e`, with its MIC after it: whether the MIC matches, and the
bytes with the payload in clear. The first `lim` bytes of the payload are decrypted under `head`, the rest under `key` (R248). Level 4 has no
MIC, and its verdict always passes (R247). -/
def ccmOpen (head key eui ctr lvl : Nat) (bs : List Byte) (a lim e : Nat) : Bool × List Byte :=
  let n := ccmNonce eui ctr lvl
  let m := micLen lvl
  let mic := (bs.drop e).take m
  let kb := keyBytes key
  if lvl < 4 then (ccmMic kb n (bs.take e) [] m == mic, bs)
  else
    let sealed := (bs.drop a).take (e - a)
    let text := (ccmCrypt (keyBytes head) n sealed).take lim ++ (ccmCrypt kb n sealed).drop lim
    let plain := bs.take a ++ text ++ bs.drop e
    (lvl == 4 || ccmMic kb n (bs.take a) text m == mic, plain)

/-- Protect a frame: the payload encrypted for levels 4–7, and the MIC written after it (R251). -/
def ccmSeal (key eui ctr lvl : Nat) (bs : List Byte) (a e : Nat) : List Byte :=
  let n := ccmNonce eui ctr lvl
  let m := micLen lvl
  let kb := keyBytes key
  if lvl < 4 then bs.take e ++ ccmMic kb n (bs.take e) [] m ++ bs.drop (e + m)
  else
    let text := (bs.drop a).take (e - a)
    bs.take a ++ ccmCrypt kb n text ++ ccmMic kb n (bs.take a) text m ++ bs.drop (e + m)

end Sys2Proof.Machine
end

