-- ==== Sys2Proof/Machine/Table.lean ====
section
/-! DEFINITION. Sluice's node table and drift records (07_sluice_tables.md, R187–R197, R217–R222; R156, R157): entries, lookup, insert
and relocation, the table commands, the scan lock, and the marks and references that follow a moved entry. -/

namespace Sys2Proof.Machine

/-! ## Entries (R190) -/

/-- A node-table entry: its four words. -/
structure Entry where
  e0 : Nat := 0
  e1 : Nat := 0
  e2 : Nat := 0
  e3 : Nat := 0
  deriving DecidableEq, Repr

def Entry.cls (e : Entry) : Nat := bits e.e1 56 8
def Entry.valid (e : Entry) : Bool := e.e1.testBit 55
def Entry.static (e : Entry) : Bool := e.e1.testBit 54
def Entry.root (e : Entry) : Bool := e.e1.testBit 52
def Entry.sleepy (e : Entry) : Bool := e.e1.testBit 51
def Entry.pinned (e : Entry) : Bool := e.e1.testBit 50
def Entry.port (e : Entry) : Nat := bits e.e1 43 5
def Entry.rill (e : Entry) : Nat := bits e.e1 37 6
def Entry.parent (e : Entry) : Nat := bits e.e1 18 19
def Entry.group (e : Entry) : Nat := bits e.e1 6 12
def Entry.hwm (e : Entry) : Nat := bits e.e2 32 32
def Entry.epoch (e : Entry) : Nat := bits e.e2 24 8
def Entry.lq (e : Entry) : Nat := bits e.e2 16 8
def Entry.ovrEn (e : Entry) : Bool := e.e2.testBit 15
def Entry.ovrPtr (e : Entry) : Nat := bits e.e2 0 15
def Entry.age (e : Entry) : Nat := bits e.e3 44 20

/-- An entry that may be a parent or an alias's target (R190, R198, R208). -/
def Entry.anchors (e : Entry) : Bool := e.valid && e.cls == 0 && e.pinned

def Entry.setValid (e : Entry) (v : Bool) : Entry := { e with e1 := setBits e.e1 55 1 (cond v 1 0) }
def Entry.setLearned (e : Entry) : Entry := { e with e1 := setBits e.e1 53 1 1 }
def Entry.setPort (e : Entry) (p r : Nat) : Entry := { e with e1 := setBits (setBits e.e1 43 5 p) 37 6 r }
def Entry.setHwm (e : Entry) (c ep : Nat) : Entry := { e with e2 := setBits (setBits e.e2 32 32 c) 24 8 ep }
def Entry.setAge (e : Entry) (a : Nat) : Entry := { e with e3 := setBits e.e3 44 20 a }
def Entry.setLq (e : Entry) (l : Nat) : Entry := { e with e2 := setBits e.e2 16 8 l }

/-- The four words in order. -/
def Entry.words (e : Entry) : List Nat := [e.e0, e.e1, e.e2, e.e3]

/-- The entry of four words. -/
def entryOf (ws : List Nat) : Entry := ⟨ws.getD 0 0, ws.getD 1 0, ws.getD 2 0, ws.getD 3 0⟩

/-- The first index of a key's bucket in half `h` (R188, R189). -/
def bucketBase (eui cls h : Nat) : Nat := if h = 0 then 4 * (bucketOf eui cls).1 else 2 ^ 18 + 4 * (bucketOf eui cls).2

/-- The first index of the other bucket of an entry that stands at index `i`. -/
def otherBase (e : Entry) (i : Nat) : Nat := bucketBase e.e0 e.cls (if i < 2 ^ 18 then 1 else 0)

/-! ## Drift records (R156, R157) -/

/-- A drift record is written, mirrored while ACTIVE (R461). -/
def State.writeDrift (s : State) (i v : Nat) : State := (s.memWrite 5 i v).mirrorPost 1 i [BitVec.ofNat 64 v]

/-- The drift record at an index is set to 0 (R157). -/
def State.zeroDrift (s : State) (i : Nat) : State := s.writeDrift i 0

/-! ## Suspect marks (R470) -/

/-- The mark at an index is cleared. -/
def State.unsuspect (s : State) (i : Nat) : State :=
  if s.twn.suspects.contains i then { s with twn := { s.twn with suspects := s.twn.suspects.filter (· != i) } } else s

/-! ## Slots -/

/-- A write to a slot through the one write port, mirrored while ACTIVE (R222, R461). -/
def State.writeEntry (s : State) (i : Nat) (e : Entry) : State :=
  (s.memWrites 1 (4 * i) e.words).mirrorPost 0 i (e.words.map (BitVec.ofNat 64))

/-- A slot that holds an uncorrectable word is rewritten as an empty slot, and its drift record is set to 0 (R444). -/
def State.dropSlot (s : State) (i : Nat) : State :=
  (((s.writeEntry i {}).zeroDrift i).unsuspect i).bump F.MEM_CNT_DROP_COUNT

/-- A read of a slot: `none` when it held an uncorrectable word, which drops it (R444). -/
def State.readEntry (s : State) (i : Nat) : Option Entry × State :=
  let (ws, bad, s) := s.memReads 1 (4 * i) 4
  if bad then (none, s.dropSlot i) else (some (entryOf ws), s)

/-- An entry is invalidated. -/
def State.invalidate (s : State) (i : Nat) (e : Entry) : State := (s.writeEntry i (e.setValid false)).unsuspect i

/-- The four slots of a bucket as read: index and entry, empty where the slot was dropped; whether one was. -/
def State.readBucket (s : State) (base : Nat) : Nat → List (Nat × Entry) × Bool × State
  | 0 => ([], false, s)
  | n + 1 =>
    let i := base + 3 - n
    let (e, s) := s.readEntry i
    let (es, bad, s) := s.readBucket base n
    ((i, e.getD {}) :: es, e.isNone || bad, s)

/-! ## Lookup (R191) -/

/-- What a lookup gives: nothing, an uncorrectable word, or the index and the entry. -/
inductive LookAns where
  | miss
  | poisoned
  | hit (i : Nat) (e : Entry)
  deriving DecidableEq, Repr

/-- The slot of two buckets that holds a key. -/
def findKey (es : List (Nat × Entry)) (eui cls : Nat) : Option (Nat × Entry) :=
  es.find? fun x => x.2.valid && x.2.e0 == eui && x.2.cls == cls

/-- Both buckets of a key, H0 first. -/
def State.readBoth (s : State) (eui cls : Nat) : List (Nat × Entry) × Bool × State :=
  let (a, bad, s) := s.readBucket (bucketBase eui cls 0) 4
  let (b, bad', s) := s.readBucket (bucketBase eui cls 1) 4
  (a ++ b, bad || bad', s)

/-- A lookup (R191, R444): it counts for every requester (R224). -/
def State.lookup (s : State) (eui cls : Nat) : LookAns × State :=
  let (es, bad, s) := (s.bump F.SLC_CNT_LOOKUP_COUNT).readBoth eui cls
  if bad then (.poisoned, s)
  else match findKey es eui cls with
    | some (i, e) => (.hit i e, s)
    | none => (.miss, s)

/-- The entry that an alias leads to: the one PARENT names, if it may be a target (R198). -/
def State.aliasTarget (s : State) (a : Entry) : LookAns × State :=
  match s.readEntry a.parent with
  | (none, s) => (.poisoned, s)
  | (some e, s) => if e.anchors then (.hit a.parent e, s) else (.miss, s)

/-- The class-1 key of a short address under a PAN (R187). -/
def aliasKey (pan short : Nat) : Nat := pan % 65536 * 65536 + short % 65536

/-- A short address followed to the entry it stands for (R198, R207, R251). -/
def State.lookupShort (s : State) (pan short : Nat) : LookAns × State :=
  match s.lookup (aliasKey pan short) 1 with
  | (.hit _ a, s) => s.aliasTarget a
  | r => r

/-! ## Moves (R194, R195) -/

/-- References to index `i` become references to `j`. -/
def movedRef (i j : Nat) (r : Option Nat) : Option Nat := r.map fun x => if x = i then j else x

/-- A held decision's references follow a move (R195). -/
def Decision.moved (d : Decision) (i j : Nat) : Decision := { d with next := movedRef i j d.next, dest := movedRef i j d.dest }

/-- An in-flight frame's references follow a move (R195). -/
def RxFrame.moved (f : RxFrame) (i j : Nat) : RxFrame :=
  { f with hold := f.hold.map fun h => { h with src := movedRef i j h.src, decision := h.decision.map fun d => d.moved i j } }

/-- The drift record of an index moves to another (R195); an uncorrectable one is dropped (R444). -/
def State.moveDrift (s : State) (i j : Nat) : State :=
  match s.memRead 5 i with
  | (.good v, s) => (s.writeDrift j v).zeroDrift i
  | (.bad _, s) => ((s.bump F.MEM_CNT_DROP_COUNT).zeroDrift i).zeroDrift j

/-- The mark of an index moves to another (R470). -/
def State.moveSuspect (s : State) (i j : Nat) : State :=
  if s.twn.suspects.contains i then
    let t := s.unsuspect i
    { t with twn := { t.twn with suspects := insertSorted j t.twn.suspects } }
  else s

/-- One move of an entry: the destination is written, then the source is invalidated; the drift record, the suspect mark and every
in-flight reference follow (R194, R195, R470). -/
def State.moveEntry (s : State) (e : Entry) (i j : Nat) : State :=
  let s := (((s.writeEntry j e).writeEntry i (e.setValid false)).moveDrift i j).moveSuspect i j
  { s with slc := { s.slc with rx := s.slc.rx.map fun (x : Nat × RxFrame) => (x.1, x.2.moved i j) } }.bump F.SLC_CNT_RELOC_COUNT

/-! ## Insert (R193) -/

/-- The first free slot of a bucket, in slot order. -/
def freeSlot (es : List (Nat × Entry)) : Option Nat := (es.find? fun x => !x.2.valid).map (·.1)

/-- One step of the search for a relocation path: the buckets it draws from, and the slots it has tried. -/
structure SearchStep where
  bases : List Nat
  tried : List Nat := []

/-- The eligible slots of the buckets that a step draws from (R193). -/
def State.eligible (s : State) (path tried : List Nat) : List Nat → List Nat × State
  | [] => ([], s)
  | b :: bs =>
    let (es, _, s) := s.readBucket b 4
    let ok := (es.filter fun x => x.2.valid && !x.2.pinned && !path.contains x.1 && !tried.contains x.1).map (·.1)
    let (more, s) := s.eligible path tried bs
    (ok ++ more, s)

/-- The search of R193: `path` holds the slots drawn so far with their entries, newest first; `n` moves have been examined. The answer is the path, newest
first, with the free slot it reaches. -/
def State.searchPath (s : State) : Nat → Nat → List (Nat × Entry) → List SearchStep → Option (Nat × List (Nat × Entry)) × State
  | 0, _, _, _ => (none, s)
  | _, _, _, [] => (none, s)
  | fuel + 1, n, path, st :: rest =>
    if 128 ≤ n then (none, s)
    else
      let (ok, s) := s.eligible (path.map (·.1)) st.tried st.bases
      if ok.isEmpty then
        match rest, path with
        | up :: more, p :: ps => s.searchPath fuel n ps ({ up with tried := p.1 :: up.tried } :: more)
        | _, _ => (none, s)
      else
        let (l, k) := Config.victimDraw s.slc.lfsr ok.length
        let s := { s with slc := { s.slc with lfsr := l } }
        let v := ok.getD (k % ok.length) 0
        match s.readEntry v with
        | (none, s) => (some (v, path), s)
        | (some e, s) =>
          let b := otherBase e v
          let (es, _, s) := s.readBucket b 4
          match freeSlot es with
          | some f => (some (f, (v, e) :: path), s)
          | none => s.searchPath fuel (n + 1) ((v, e) :: path) ({ bases := [b] } :: st :: rest)

/-- A re-read before a move (R194): the source still holds the key that the search found there, and the destination is free. -/
def State.moveHolds (s : State) (v : Nat × Entry) (f : Nat) : Option Entry × State :=
  let (src, s) := s.readEntry v.1
  let (dst, s) := s.readEntry f
  let same (e : Entry) : Bool := e.valid && e.e0 == v.2.e0 && e.cls == v.2.cls && !(dst.getD {}).valid
  (src.filter same, s)

/-- A path is executed from its free end backwards (R194): the slot it frees, `none` where a re-read ends it; and the moves made. -/
def State.runPath (s : State) : Nat → List (Nat × Entry) → Option Nat × Nat × State
  | f, [] => (some f, 0, s)
  | f, v :: vs =>
    match s.moveHolds v f with
    | (some e, s) =>
      let (r, n, s) := (s.moveEntry e v.1 f).runPath v.1 vs
      (r, n + 1, s)
    | (none, s) => (none, 0, s)

/-- One search, and the execution of its path (R193, R194): the slot it frees, `none` where a re-read ends the execution, or TABLE_FULL; and the
moves made. -/
def State.relocateOnce (s : State) (bases : List Nat) : Except Status (Option Nat) × Nat × State :=
  match s.searchPath 400 0 [] [{ bases := bases }] with
  | (none, s) => (.error .tableFull, 0, s)
  | (some (f, path), s) =>
    let (r, n, s) := s.runPath f path
    (.ok r, n, s)

/-- A slot freed by relocation (R193, R194): an execution that a re-read ends starts the search again, at most as often as `tries` says, and the
insert then completes BUSY. -/
def State.relocate (s : State) (bases : List Nat) (tries : Nat) : Except Status Nat × Nat × State :=
  match s.relocateOnce bases, tries with
  | (.ok (some i), n, s), _ => (.ok i, n, s)
  | (.error e, n, s), _ => (.error e, n, s)
  | (.ok none, n, s), 0 => (.error .busy, n, s)
  | (.ok none, n, s), k + 1 =>
    let (r, m, s) := s.relocate bases k
    (r, n + m, s)

/-- Drift records that an insert of this cycle set to 0 (R160). -/
def State.driftsWas (s : State) : List (Nat × Nat) := if s.mac.driftWas.1 = s.clp.now then s.mac.driftWas.2 else []

/-- A drift record as it stands: 0 where it is uncorrectable (R444). -/
def State.driftNow (s : State) (i : Nat) : Nat := match (s.memRead 5 i).1 with | .good v => v | .bad _ => 0

/-- The record before an insert sets it to 0 is kept for its cycle (R160). -/
def State.keepDrift (s : State) (i : Nat) : State :=
  { s with mac := { s.mac with driftWas := (s.clp.now, (i, s.driftNow i) :: s.driftsWas) } }

/-- A slot takes an inserted entry, whose drift record is set to 0 (R157, R160, R219). -/
def State.placeEntry (s : State) (i : Nat) (e : Entry) : State :=
  (((s.keepDrift i).writeEntry i (e.setValid true)).zeroDrift i).unsuspect i

/-- The outcome of an insert: status, index, whether the key was present, moves used, and the entry's image. -/
structure Inserted where
  status : Status
  index  : Nat := 0
  existed : Bool := false
  moves  : Nat := 0
  image  : Entry := {}

/-- An insert (R193, R194, R219, R221, R444). -/
def State.insertEntry (s : State) (e : Entry) : Inserted × State :=
  let (es, bad, s) := s.readBoth e.e0 e.cls
  if bad then ({ status := .poisoned }, s)
  else match findKey es e.e0 e.cls with
    | some (i, x) => ({ status := .ok, index := i, existed := true, image := x }, s)
    | none =>
      match freeSlot es with
      | some i => ({ status := .ok, index := i, image := e.setValid true }, s.placeEntry i e)
      | none =>
        if s.slc.lock.isSome then ({ status := .busy }, s)
        else match s.relocate [bucketBase e.e0 e.cls 0, bucketBase e.e0 e.cls 1] 4 with
          | (.ok i, n, s) => ({ status := .ok, index := i, moves := n, image := e.setValid true }, s.placeEntry i e)
          | (.error st, n, s) => ({ status := st, moves := n }, s)

/-! ## The scan lock (R221) -/

/-- SCAN_LOCKED and SCAN_OWNER follow the lock. -/
def State.setLock (s : State) (l : Option (Nat × Nat)) : State :=
  let s := { s with slc := { s.slc with lock := l } }
  (s.setFld F.SLC_STAT_SCAN_LOCKED (cond l.isSome 1 0)).setFld F.SLC_STAT_SCAN_OWNER ((l.map (·.1)).getD 0)

/-- The requester holds the lock. -/
def State.holdsLock (s : State) (req : Nat) : Bool := (s.slc.lock.map (·.1)) == some req

/-- The lifetime of the lock in ns. -/
def State.scanLife (s : State) : Nat := max 1 (s.fld F.SLC_SCAN_CTL_SCAN_TIMEOUT) * 1000000

/-! ## Commands (R217–R220) -/

/-- A result record (R218). -/
def resultRec (st : Status) (existed held : Bool) (index tag w1 : Nat) (e : Entry) : List Nat :=
  [st.code * 2 ^ 58 + (cond existed 1 0) * 2 ^ 57 + (cond held 1 0) * 2 ^ 56 + index % 2 ^ 19 * 2 ^ 37 + tag % 2 ^ 32,
   w1 % 2 ^ 20] ++ e.words

/-- A command's outcome before its record is made. -/
structure CmdAns where
  status  : Status
  index   : Nat := 0
  w1      : Nat := 0
  existed : Bool := false
  image   : Entry := {}

/-- SEARCH (R219). -/
def State.cmdSearch (s : State) (e : Entry) : CmdAns × State :=
  match s.lookup e.e0 e.cls with
  | (.hit i x, s) => ({ status := .ok, index := i, image := x }, s)
  | (.miss, s) => ({ status := .notFound }, s)
  | (.poisoned, s) => ({ status := .poisoned }, s)

/-- The entry passes the class and port filters of a NEXT. -/
def passes (w0 : Nat) (e : Entry) : Bool :=
  e.valid && (!w0.testBit 48 || e.cls == bits w0 40 8) && (!w0.testBit 39 || e.port == bits w0 34 5)

/-- The slots in a list of indices, in order, up to the first that passes: a slot with an uncorrectable word ends the examination. -/
def State.scan (s : State) (w0 : Nat) : List Nat → Option (Option (Nat × Entry)) × State
  | [] => (some none, s)
  | i :: is =>
    match s.readEntry i with
    | (none, s) => (none, s)
    | (some e, s) => if passes w0 e then (some (some (i, e)), s) else s.scan w0 is

/-- The indices from `lo` below `hi` whose slot holds anything. -/
def State.liveSlots (s : State) (lo hi : Nat) : List Nat :=
  dedup1 (((s.liveWords 1).map (· / 4)).filter fun i => decide (lo ≤ i) && decide (i < hi))

/-- NEXT (R219, R221): slots that hold nothing are examined without effect. -/
def State.cmdNext (s : State) (w0 w1 req : Nat) : CmdAns × State :=
  let cur := bits w1 0 20
  if w0.testBit 50 && s.slc.lock.isSome && !s.holdsLock req then ({ status := .busy, w1 := cur }, s)
  else
    let s := if w0.testBit 50 && s.slc.lock.isNone then s.setLock (some (req, s.clp.now + s.scanLife)) else s
    let hi := min 524288 (cur + 4096)
    let (r, s) := s.scan w0 (s.liveSlots cur hi)
    let a : CmdAns := match r with
      | some (some (i, e)) => { status := .ok, index := i, w1 := i + 1, image := e }
      | some none => { status := .notFound, w1 := max cur hi }
      | none => { status := .poisoned, w1 := cur }
    (a, s.on (s.holdsLock req && a.w1 == 524288) fun s => s.setLock none)

/-- A PORT that no write may store (R190, R220). -/
def badPort (e : Entry) : Bool := decide (22 ≤ e.port) && decide (e.port ≤ 30)

/-- INSERT (R193, R219). -/
def State.cmdInsert (s : State) (e : Entry) : CmdAns × State :=
  let (r, s) := (s.bump F.SLC_CNT_LOOKUP_COUNT).insertEntry e
  let s := s.on (decide (r.status = .tableFull)) fun s => (s.bump F.SLC_CNT_FULL_COUNT).raise F.SLC_EVT_TABLE_FULL
  ({ status := r.status, index := r.index, w1 := r.moves, existed := r.existed, image := r.image }, s)

/-- The fields of UPDATE by bit of its mask: word, lowest bit, width (R219). -/
def updateFields : List (Nat × Nat × Nat × Nat) :=
  [(0, 1, 43, 5), (1, 1, 37, 6), (2, 1, 18, 19), (3, 1, 6, 12), (4, 2, 0, 16), (5, 2, 32, 32), (6, 2, 24, 8), (7, 2, 16, 8),
   (8, 3, 44, 20), (9, 1, 54, 1), (10, 1, 53, 1), (11, 1, 52, 1), (12, 1, 51, 1), (13, 1, 50, 1), (14, 3, 0, 32)]

/-- One field of an image written into an entry. -/
def Entry.copyField (e x : Entry) (w lo n : Nat) : Entry :=
  match w with
  | 1 => { e with e1 := setBits e.e1 lo n (bits x.e1 lo n) }
  | 2 => { e with e2 := setBits e.e2 lo n (bits x.e2 lo n) }
  | _ => { e with e3 := setBits e.e3 lo n (bits x.e3 lo n) }

/-- UPDATE (R219). -/
def State.cmdUpdate (s : State) (mask : Nat) (x : Entry) : CmdAns × State :=
  match s.lookup x.e0 x.cls with
  | (.hit i e, s) =>
    let e := updateFields.foldl (fun (e : Entry) f => if mask.testBit f.1 then e.copyField x f.2.1 f.2.2.1 f.2.2.2 else e) e
    ({ status := .ok, index := i, image := e }, s.writeEntry i e)
  | (.miss, s) => ({ status := .notFound }, s)
  | (.poisoned, s) => ({ status := .poisoned }, s)

/-- DELETE (R219). -/
def State.cmdDelete (s : State) (force : Bool) (x : Entry) : CmdAns × State :=
  match s.lookup x.e0 x.cls with
  | (.hit i e, s) =>
    if e.pinned && !force then ({ status := .busy }, s)
    else ({ status := .ok, index := i, image := e }, s.invalidate i e)
  | (.miss, s) => ({ status := .notFound }, s)
  | (.poisoned, s) => ({ status := .poisoned }, s)

/-- The pass of FLUSH_PORT visits slots in index order: it deletes what its port and FORCE name (R219). -/
def State.flushSlots (s : State) (p : FlushPass) : List Nat → Nat × State
  | [] => (0, s)
  | i :: is =>
    match s.readEntry i with
    | (none, s) => s.flushSlots p is
    | (some e, s) =>
      if e.valid && e.port == p.port && !e.static && (!e.pinned || p.force) then
        let (n, s) := (s.invalidate i e).flushSlots p is
        (n + 1, s)
      else s.flushSlots p is

/-- The running pass visits the slots below `hi`. -/
def State.flushTo (s : State) (p : FlushPass) (hi : Nat) : FlushPass × State :=
  let (n, s) := s.flushSlots p (s.liveSlots p.visited hi)
  ({ p with count := p.count + n, visited := max p.visited hi }, s)

/-- FLUSH_PORT starts (R219): it has visited slots up to a point that the manual leaves open, and takes a time that it bounds. -/
def State.cmdFlush (s : State) (port req runnel tag : Nat) (force : Bool) : Option CmdAns × State :=
  if s.slc.flush.isSome then (some { status := .busy }, s)
  else
    let (v, s) := s.fresh
    let (t, s) := s.fresh
    let (p, s) := s.flushTo ⟨port, force, req, runnel, tag, 0, 0, s.clp.now + t % 500001⟩ (v % 524289)
    (none, { s with slc := { s.slc with flush := some p } }.setFld F.SLC_STAT_FLUSH_BUSY 1)

/-- A result reaches its requester: the host's result registers, or the result runnel (R217, R218), into which the power-fail sequence pushes
nothing (R428). -/
def State.deliverResult (s : State) (req runnel : Nat) (ws : List Nat) : State :=
  if req = 128 then
    ((List.range 6).foldl (fun s i => s.setReg .SLC_RES_W i 0 (BitVec.ofNat 64 (ws.getD i 0))) s).setFld F.SLC_CMD_STAT_BUSY 0
  else if s.pwr.phase = .failing then s
  else s.enginePush runnel (ws.map fun w => mkWord (BitVec.ofNat 64 w)) req

/-- The outcome of one command; `none` where its result comes later. -/
def State.runCmd (s : State) (op w0 w1 req : Nat) (x : Entry) : Option CmdAns × State :=
  match op with
  | 1 => let (a, s) := s.cmdSearch x; (some a, s)
  | 2 => let (a, s) := s.cmdNext w0 w1 req; (some a, s)
  | 3 => if badPort x then (some { status := .internal }, s) else let (a, s) := s.cmdInsert x; (some a, s)
  | 4 =>
    if badPort x && w1.testBit 0 then (some { status := .internal }, s)
    else let (a, s) := s.cmdUpdate (bits w1 0 32) x; (some a, s)
  | 5 => let (a, s) := s.cmdDelete (w0.testBit 51) x; (some a, s)
  | 6 => s.cmdFlush (bits w1 0 5) req (bits w0 52 8) (bits w0 0 32) (w0.testBit 51)
  | _ => (some { status := .internal }, s)

/-- A table command executes (R217–R222). -/
def State.tableRun (s : State) (req : Nat) (ws : List Nat) : State :=
  let w0 := ws.getD 0 0
  let (a, s) := s.runCmd (bits w0 60 4) w0 (ws.getD 1 0) req (entryOf (ws.drop 2))
  let s := s.on (w0.testBit 49 && s.holdsLock req && !(a.map fun a => a.status == .internal).getD false) fun s => s.setLock none
  match a with
  | some a =>
    let s := s.on (a.status == .internal) fun s => s.siltInternal 7 0
    s.deliverResult req (bits w0 52 8) (resultRec a.status a.existed (s.holdsLock req) a.index w0 a.w1 a.image)
  | none => s.on (req == 128) fun s => s.setFld F.SLC_CMD_STAT_BUSY 1

/-- A table command reaches Sluice; the host's has no effect while one of the host's runs (R217, R223). -/
def State.tableCmd (s : State) (req : Nat) (ws : List Nat) : State :=
  if req = 128 ∧ s.flag F.SLC_CMD_STAT_BUSY = true then s.raise F.SLC_EVT_CMD_IGNORED else s.tableRun req ws

/-- A write of SLC_CMD_GO (R217): 1 issues the host's record. -/
def State.slcGoWrite (s : State) (d : Word) : State :=
  if !d.getLsbD 0 then s
  else s.whenReady 1 fun s => s.tableCmd 128 ((List.range 6).map fun i => (s.reg .SLC_CMD_W i 0).toNat)

/-- Valid entries, as SLC_STAT shows them. -/
def State.slcEntries (s : State) : Nat := ((s.liveSlots 0 524288).filter fun i => (s.memWord 1 (4 * i + 1)).testBit 55).length

/-- Valid entries with PINNED set, as SLC_PINNED shows them. -/
def State.slcPinned (s : State) : Nat :=
  ((s.liveSlots 0 524288).filter fun i =>
    (s.memWord 1 (4 * i + 1)).testBit 55 && (s.memWord 1 (4 * i + 1)).testBit 50).length

end Sys2Proof.Machine
end

