-- ==== Sys2Proof/Machine/Route.lean ====
section
/-! DEFINITION. Sluice's parse of the 6LoWPAN and IPv6 headers and its decisions (07_sluice_tables.md, R183–R185, R206–R213). -/

namespace Sys2Proof.Machine

/-! ## 6LoWPAN (R183, R184) -/

/-- What the parse of a payload gives, each with the offset after what was walked: an IPv6 destination address, a FRAGN frame, or
anything else. -/
inductive Parsed where
  | ip (dst : List Byte) (e : Nat)
  | fragment (e : Nat)
  | other (e : Nat)
  deriving DecidableEq, Repr

/-- The offset after what was walked. -/
def Parsed.end_ : Parsed → Nat
  | .ip _ e => e
  | .fragment e => e
  | .other e => e

/-- A byte of a frame as a number. -/
def byteAt (b : List Byte) (o : Nat) : Nat := (b.getD o 0).toNat

/-- `n` bytes from an offset. -/
def sliceOf (b : List Byte) (o n : Nat) : List Byte := (b.drop o).take n

/-- The payload IEs from `o`, by their headers, to the payload termination: the offset after it. -/
def skipPayIes (b : List Byte) (e : Nat) : Nat → Nat → Option Nat
  | 0, _ => none
  | n + 1, o =>
    match leAt b e o 2 with
    | none => none
    | some d =>
      if d < 2 ^ 15 then none
      else if d / 2 ^ 11 % 16 = 15 then some (o + 2)
      else skipPayIes b e n (o + 2 + d % 2 ^ 11)

/-- The prefix of IPHC context `n`, where it is usable (R184). -/
def State.context (s : State) (n : Nat) : Option (List Byte) :=
  if n < 8 ∧ (s.fld F.SLC_PFX_EN_EN).testBit n then some (beBytes 8 (s.fld F.SLC_PFX_PREFIX n)) else none

/-- The interface identifier 0000:00ff:fe00:ssss. -/
def shortIid (ssss : List Byte) : List Byte := [0, 0, 0, 0xFF, 0xFE, 0] ++ ssss

/-- The link-local prefix fe80::/64. -/
def linkLocal : List Byte := [0xFE, 0x80, 0, 0, 0, 0, 0, 0]

/-- The interface identifier that RFC 6282 derives from the MAC destination address. -/
def macIid (m : MacFrame) : Option (List Byte) :=
  match m.dstMode with
  | 2 => some (shortIid (beBytes 2 m.dst))
  | 3 => some (beBytes 8 (m.dst ^^^ 2 ^ 57))
  | _ => none

/-- The destination of an IPHC header: its inline bytes and what they stand for (RFC 6282); `none` for a reserved form or an unusable
context. -/
def State.iphcDest (s : State) (m : MacFrame) (mc dac : Bool) (dam dci : Nat) (inl : List Byte) : Option (List Byte) :=
  match mc, dac with
  | true, true =>
    if dam = 0 then (s.context dci).map fun p => [0xFF] ++ inl.take 2 ++ [0x40] ++ p ++ inl.drop 2 else none
  | true, false =>
    match dam with
    | 0 => some inl
    | 1 => some ([0xFF] ++ inl.take 1 ++ List.replicate 9 0 ++ inl.drop 1)
    | 2 => some ([0xFF] ++ inl.take 1 ++ List.replicate 11 0 ++ inl.drop 1)
    | _ => some ([0xFF, 0x02] ++ List.replicate 13 0 ++ inl)
  | false, _ =>
    let pre := if dac then s.context dci else some linkLocal
    match dam with
    | 0 => if dac then none else some inl
    | 1 => pre.map fun p => p ++ inl
    | 2 => pre.map fun p => p ++ shortIid inl
    | _ => match pre, macIid m with
      | some p, some i => some (p ++ i)
      | _, _ => none

/-- Inline bytes of the destination of an IPHC header. -/
def iphcDestLen (mc dac : Bool) (dam : Nat) : Nat :=
  if mc then (if dac then [6, 0, 0, 0] else [16, 6, 4, 1]).getD dam 0 else [16, 8, 2, 0].getD dam 0

/-- An IPHC header at `o` (R183, R184). A context that either address uses must be usable. -/
def State.parseIphc (s : State) (m : MacFrame) (b : List Byte) (e o : Nat) : Parsed :=
  if e < o + 2 then .other e
  else
    let h := byteAt b o * 256 + byteAt b (o + 1)
    let cid := h.testBit 7
    if cid && decide (e < o + 3) then .other e
    else
      let sci := if cid then byteAt b (o + 2) / 16 else 0
      let dci := if cid then byteAt b (o + 2) % 16 else 0
      let o := if cid then o + 3 else o + 2
      let sac := h.testBit 6
      let sam := bits h 4 2
      let mc := h.testBit 3
      let dac := h.testBit 2
      let dam := bits h 0 2
      if 8 ≤ sci ∨ 8 ≤ dci ∨ (sac = true ∧ sam ≠ 0 ∧ s.context sci = none) then .other o
      else
        let o := o + [4, 3, 1, 0].getD (bits h 11 2) 0 + (if h.testBit 10 then 0 else 1) + (if bits h 8 2 = 0 then 1 else 0) +
          (if sac then [0, 8, 2, 0] else [16, 8, 2, 0]).getD sam 0
        let n := iphcDestLen mc dac dam
        if e < o + n then .other e
        else match s.iphcDest m mc dac dam dci (sliceOf b o n) with
          | some a => .ip a (o + n)
          | none => .other o

/-- The 6LoWPAN dispatch at `o` (R183, R184). -/
def State.parseDispatch (s : State) (m : MacFrame) (b : List Byte) (e o : Nat) : Parsed :=
  if e ≤ o then .other e
  else
    let d := byteAt b o
    if d = 0x41 then
      if e < o + 41 then .other e else .ip (sliceOf b (o + 25) 16) (o + 41)
    else if d / 32 = 3 then s.parseIphc m b e o
    else .other (o + 1)

/-- The payload of a MAC frame in clear, up to the end of the header span (R183, R184): a span of more than 255 bytes ends parsing. -/
def State.parseLowpan (s : State) (m : MacFrame) (b : List Byte) : Parsed :=
  let e := m.bodyEnd
  let r : Parsed :=
    match (if m.payIes then skipPayIes b e b.length m.bodyAt else some m.bodyAt) with
    | none => .other e
    | some o =>
      if e ≤ o then .other e
      else
        let d := byteAt b o
        if d / 8 = 0x1C then .fragment (min e (o + 5))
        else if d / 8 = 0x18 then s.parseDispatch m b e (o + 4)
        else s.parseDispatch m b e o
  match r with
  | .ip a o => if 255 < o then .other o else .ip a o
  | .fragment o => if 255 < o then .other o else .fragment o
  | r => r

/-- A fixed IPv6 header at offset `o` of a packet (R183). -/
def parseIpv6 (b : List Byte) (o : Nat) : Parsed :=
  if b.length < o + 40 ∨ byteAt b o / 16 ≠ 6 then .other b.length else .ip (sliceOf b (o + 24) 16) (o + 40)

/-! ## Decisions (R206–R213) -/

/-- From the write that sets FAB_EN until FAB_EN has been 0 for 64 µs (R427). -/
def State.fabSpread (s : State) : Bool :=
  s.flag F.PWR_SSC_FAB_EN || (match s.pwr.sscOff with | some a => decide (s.clp.now < a + 64000) | none => false)

/-- DECIDE_NS: the manual bounds it (R213) and does not state it. -/
def State.decideNs (s : State) : Nat × State :=
  let (v, s) := s.fresh
  (v % (if s.fabSpread then 243 else 241), s)

/-- The enabled /64 prefixes. -/
def State.prefixes (s : State) : List (List Byte) := (List.range 8).filterMap fun n => s.context n

/-- The device's own interface identifiers (R206). -/
def State.ownIids (s : State) : List (List Byte) :=
  [beBytes 8 (s.fld F.MAC_EUI_EUI64 ^^^ 2 ^ 57), shortIid (beBytes 2 (s.fld F.MAC_ADDR_SHORT))]

/-- The destination lookup of an IID (R207). -/
def State.lookupIid (s : State) (iid : List Byte) : LookAns × State :=
  if iid.take 6 = shortIid [] then s.lookupShort (s.fld F.MAC_ADDR_PAN) (ofBe (iid.drop 6))
  else s.lookup (ofBe iid ^^^ 2 ^ 57) 0

/-- The walk up the PARENT pointers from a destination (R208): the entries from the one reached last down to the destination, `none` when
it meets an invalid parent or does not reach ROOT within 12 entries; and whether an uncorrectable word was met (R444). -/
def State.walk (s : State) : Nat → List (Nat × Entry) → Option (List (Nat × Entry)) × Bool × State
  | n, hops =>
    match hops with
    | [] => (none, false, s)
    | (_, e) :: _ =>
      if e.root then (some hops, false, s)
      else match n with
        | 0 => (none, false, s)
        | n + 1 =>
          match s.readEntry e.parent with
          | (none, s) => (none, true, s)
          | (some p, s) => if p.anchors then s.walk n ((e.parent, p) :: hops) else (none, false, s)

/-- The route cell's contents (R209). -/
def routeBytes (fmt : Bool) (hops : List (Nat × Entry)) : List Byte :=
  hops.flatMap fun h => beBytes 8 (if fmt then h.2.e0 ^^^ 2 ^ 57 else h.2.e0)

/-- The decision for a destination entry found (R208, R209), and whether an uncorrectable word was met. -/
def State.decideEntry (s : State) (i : Nat) (e : Entry) : Decision × Bool × State :=
  let d : Decision := { kind := .mesh, sleepy := e.sleepy, dest := some i, destEui := e.e0 }
  if e.port = 31 then ({ d with kind := .drop }, false, s)
  else if 16 ≤ e.port then ({ d with outPort := e.port }, false, s)
  else
    match s.walk 11 [(i, e)] with
    | (none, true, s) => ({ d with kind := .noRoute }, true, s)
    | (none, false, s) => ({ d with kind := .noRoute }, false, (s.bump F.SLC_CNT_NO_ROUTE_COUNT).raise F.SLC_EVT_NO_ROUTE)
    | (some hops, _, s) =>
      let (j, r) := hops.getD 0 (i, e)
      let d := { d with outPort := r.port, outRill := if r.port < 16 then r.rill else 0, routeLen := hops.length, next := some j, nextEui := r.e0 }
      if hops.length < 2 then (d, false, s)
      else match s.alloc (8 * hops.length) with
        | (some cells, s) =>
          ({ d with cell := some (cells.getD 0 0) }, false, s.putFrame cells (routeBytes (s.flag F.SLC_CTL_ROUTE_FMT) hops))
        | (none, s) =>
          ({ kind := .noRoute, sleepy := e.sleepy, dest := some i, destEui := e.e0 }, false, s.raise F.SLC_EVT_NO_CELL)

/-- The decision for an IPv6 destination (R206, R207), and whether an uncorrectable word was met. -/
def State.decideIp (s : State) (dst : List Byte) : Decision × Bool × State :=
  let pre := dst.take 8
  let iid := dst.drop 8
  if byteAt dst 0 = 0xFF then ({ kind := .multicast, outPort := s.fld F.SLC_CTL_MCAST_PORT }, false, s)
  else if pre = linkLocal ∨ (s.prefixes.contains pre ∧ s.ownIids.contains iid) then
    ({ kind := .local_, outPort := s.fld F.SLC_CTL_LOCAL_PORT }, false, s)
  else if !s.prefixes.contains pre then ({ kind := .offMesh, outPort := s.fld F.SLC_CTL_DEFAULT_PORT }, false, s)
  else match s.lookupIid iid with
    | (.hit i e, s) => s.decideEntry i e
    | (.miss, s) => ({ kind := .noRoute }, false, s)
    | (.poisoned, s) => ({ kind := .noRoute }, true, s)

/-- The decision of a parse (R206, R212). -/
def State.decideParsed (s : State) (p : Parsed) : Decision × Bool × State :=
  let (d, bad, s) : Decision × Bool × State := match p with
    | .ip a _ => s.decideIp a
    | .fragment _ => ({ kind := .fragment }, false, s)
    | .other _ => ({ kind := .other }, false, s)
  let (n, s) := s.decideNs
  ({ d with ns := n }, bad, s)

/-- The decision record's four words (R211). -/
def Decision.words (d : Decision) (inPort : Nat) (aliased : Bool) : List Word :=
  [BitVec.ofNat 64 (d.outPort % 32 * 2 ^ 59 + d.outRill % 64 * 2 ^ 53 + inPort % 32 * 2 ^ 48 + d.kind.code * 2 ^ 44 +
      d.routeLen % 16 * 2 ^ 40 + (cond d.sleepy 1 0) * 2 ^ 39 + (cond aliased 1 0) * 2 ^ 38 + d.next.getD 0 % 2 ^ 19 * 2 ^ 19 +
      d.dest.getD 0 % 2 ^ 19),
   BitVec.ofNat 64 d.nextEui,
   BitVec.ofNat 64 (d.cell.getD 0xFFFFFFFF * 2 ^ 32 + d.ns % 65536),
   BitVec.ofNat 64 d.destEui]

end Sys2Proof.Machine
end

