-- ==== Sys2Proof/Machine/Acks.lean ====
section
/-! DEFINITION. What the MAC slot engine and the Twin block take from a received frame (05_mesh_mac.md, R129, R142–R158; 16_twin.md, R459,
R468): on-template frames, drift records, aligned acknowledgements, the acknowledgements of nodes, beacons and takeover frames heard. -/

namespace Sys2Proof.Machine

/-! ## Received frames -/

/-- Where a frame's bytes before its FCS end (R42, R43): a blanked frame's, at what was written of it. -/
def RxFrame.macEnd (f : RxFrame) : Nat :=
  if f.closed = some .blanked then min f.bytes.length (f.len - f.fcsLen) else f.len - f.fcsLen

/-- A frame's MAC headers. -/
def RxFrame.mac (f : RxFrame) : Option MacFrame := parseMac f.bytes f.macEnd

/-- The frame is secured (levels 1–7). -/
def MacFrame.secured (m : MacFrame) : Bool := m.security && m.secLevel != 0

/-- The frame's payload is encrypted (levels 4–7). -/
def MacFrame.encrypted (m : MacFrame) : Bool := m.security && decide (4 ≤ m.secLevel)

/-- Division rounded to the nearest integer, halves away from zero (R147, R157). -/
def roundAway (a : Int) (b : Nat) : Int :=
  let q : Int := (2 * a.natAbs + b) / (2 * b)
  if a < 0 then -q else q

/-- An address is the device's own (R144, R150). -/
def State.ownAddr (s : State) (mode a : Nat) : Bool :=
  (mode == 2 && a == s.fld F.MAC_ADDR_SHORT) || (mode == 3 && a == s.fld F.MAC_EUI_EUI64)

/-- The expected SFD time of a frame's slot minus its SFD timestamp, in ns (R129, R157): none where no ASN mapping holds. -/
def State.corrNs (s : State) (f : RxFrame) : Option Int :=
  if f.sfd.asn = noAsn ∨ s.asnValid = false then none
  else
    let exp := s.slotStart f.sfd.asn + (s.fld F.MAC_TMPL_0_TX_OFFSET + s.fld F.MAC_SFD_OFF_USEC f.phy) * 1000
    some ((exp : Int) - f.sfd.fullNs)

/-- The SFD timestamp lies within the expected SFD time ± RX_GUARD, closed at both ends (R144, condition 3). -/
def State.onTemplate (s : State) (c : Option Int) : Bool :=
  match c with
  | some c => decide (c.natAbs ≤ s.fld F.MAC_TMPL_0_RX_GUARD * 1000)
  | none => false

/-! ## Drift records (R156–R158) -/

/-- The DRIFT that an update leaves (R157): MIN_SLOTS 0 with no slot passed refines nothing. -/
def State.driftAfter (s : State) (r : Nat) (c : Int) (asn32 : Nat) : Int :=
  let drift := signed 16 (bits r 0 16)
  let d := (asn32 + 2 ^ 32 - bits r 32 32) % 2 ^ 32
  if r.testBit 28 && decide (max 1 (s.fld F.MAC_DRIFT_CTL_MIN_SLOTS) ≤ d) && decide (d ≤ 0x1000000) then
    let meas := max (-32768) (min 32767 (roundAway (c * 256000) (d * s.fld F.MAC_SLOT_SLOT_LEN_US)))
    drift + (meas - drift) / 2 ^ s.fld F.MAC_DRIFT_CTL_DRIFT_W
  else drift

/-- The correction in µs: 12-bit two's complement, clamped (R147). -/
def corrUs (c : Int) : Nat := toPattern 12 (max (-2047) (min 2047 (roundAway c 1000)))

/-- The drift record that an update starts from (R157, R444): one that an insert set to 0 in this cycle, as it stood before (R160). -/
def State.driftBase (s : State) (i : Nat) : Nat × State :=
  match s.driftsWas.find? fun e => e.1 == i with
  | some e => (e.2, s)
  | none => match s.memRead 5 i with
    | (.good v, s) => (v, s)
    | (.bad _, s) => (0, s.bump F.MEM_CNT_DROP_COUNT)

/-- The drift record at an index is updated with a correction in ns at an ASN (R157), mirrored while ACTIVE (R461); an insert of this cycle
leaves it 0 (R160). -/
def State.driftUpdate (s : State) (i : Nat) (c : Int) (asn : Nat) : State :=
  let zeroed := s.driftsWas.any fun e => e.1 == i
  let (r, s) := s.driftBase i
  let asn32 := asn % 2 ^ 32
  let drift := s.driftAfter r c asn32
  let v := toPattern 16 drift + corrUs c * 2 ^ 16 + 2 ^ 28 + asn32 * 2 ^ 32
  let s := s.on (!zeroed) fun s => s.writeDrift i v
  let alarm := s.fld F.MAC_DRIFT_CTL_ALARM_PPM
  s.on (alarm != 0 && decide (alarm * 256 < drift.natAbs)) fun s => (s.raise F.MAC_EVT_DRIFT_ALARM).siltPost 81 drift.natAbs

/-! ## Aligned acknowledgements (R142–R148) -/

/-- The launch time of the acknowledgements of slot `a`, in ns of full time (R142). -/
def State.ackInstant (s : State) (a : Nat) : Nat := s.slotStart a + s.ackOffset * 1000

/-- The slot engine works a slot: the first it works is the first that started after RUNNING set (R132). -/
def State.slotWorked (s : State) (a : Nat) : Bool :=
  s.flag F.MAC_STAT_RUNNING && decide ((a + 2 ^ 40 - s.mac.firstAsn) % 2 ^ 40 < 2 ^ 39)

/-- Conditions 1 and 2 of R144, and those of R132, R465, R466, R471 and R496 on the slot. -/
def State.ackAsked (s : State) (f : RxFrame) (m : MacFrame) : Bool :=
  s.flag F.MAC_CTL_ACK_AUTO && !s.bot.stopped && s.slotWorked f.sfd.asn && !s.inPause f.sfd.asn && s.worksSlot f.sfd.asn &&
    (m.ftype == 1 || m.ftype == 3) && m.ackReq && s.ownAddr m.dstMode m.dst

/-- Condition 4 of R144. -/
def State.ackStatus (s : State) (m : MacFrame) (st : Status) : Bool :=
  if m.secured then decide (st = .ok) || decide (st = .duplicate) || decide (st = .dupSuspect)
  else s.flag F.MAC_CTL_UNSEC_ACK && (decide (st = .ok) || decide (st = .dupSuspect) || decide (st = .unknownSource))

/-- The conditions of R143 on an acknowledgement of `n` bytes. -/
def State.ackFits (s : State) (f : RxFrame) (n : Nat) : Bool :=
  let air := s.airNs f.phy f.mcs n
  let rf := ((s.ackInstant f.sfd.asn : Int) + s.sfld F.CLP_TX_ADJ_ADJ f.chain).toNat
  s.flag F.TXF_CAR_CFG_EN f.chain f.rill && s.carSpanOk f.chain f.rill f.phy &&
    decide (air ≤ s.fld F.MAC_TMPL_2_ACK_MAX_AIR * 1000) && decide (rf + air ≤ s.slotStart ((f.sfd.asn + 1) % 2 ^ 40))

/-- The acknowledgement of a frame is built and placed (R143, R146, R148); without a free cell it is not sent. -/
def State.placeAck (s : State) (f : RxFrame) (m : MacFrame) (c : Int) (key : Option JobKey) : State :=
  let sec := s.flag F.MAC_CTL_ACK_SEC && m.secured
  let fcs := s.txFcsLen f.chain f.rill f.phy
  let bytes := buildAck m (corrUs c) (s.fld F.MAC_ADDR_PAN) (s.fld F.MAC_ADDR_SHORT) sec fcs
  if !s.ackFits f bytes.length then s.ackFail
  else match s.alloc bytes.length with
    | (none, s) => s.ackFail
    | (some cells, s) =>
      let s := { s.putFrame cells bytes with mac := { s.mac with acked := s.mac.acked ++ [(f.sfd.asn, m.srcBytes)] } }
      s.place {
        origin := .ack (if sec then key else none)
        modeSet := some (f.phy, f.mcs)
        desc := { len := bytes.length, chain := f.chain, carrier := f.rill, mode := 2, asn := f.sfd.asn, slotOff := s.ackOffset,
                  tol := s.fld F.MAC_ACK_CTL_ACK_LATE_TOL, cell := cells.getD 0 0, sec := if sec then 1 else 0 } }

/-- The verdict of a frame comes in time for its acknowledgement (R144, condition 5). -/
def State.verdictInTime (s : State) (f : RxFrame) : Bool := decide (s.fullNs + 20000 ≤ s.ackInstant f.sfd.asn)

/-- A received frame that fails condition 3 or 5 of R144 counts, while RUNNING is set and the mapping holds. -/
def State.countTiming (s : State) (f : RxFrame) : State :=
  if s.flag F.MAC_STAT_RUNNING && (s.corrNs f).isSome then
    (s.on (!s.onTemplate (s.corrNs f)) fun s => s.bump F.MAC_CNT_OFF_TEMPLATE_COUNT).on (!s.verdictInTime f) fun s =>
      (s.bump F.MAC_CNT_VERDICT_LATE_COUNT).raise F.MAC_EVT_VERDICT_LATE
  else s

/-- The acknowledgement decision for a frame with its final status (R144); one that fails only condition 6 counts. -/
def State.ackRx (s : State) (f : RxFrame) (m : MacFrame) (st : Status) (key : Option JobKey) : State :=
  match s.corrNs f with
  | none => s
  | some c =>
    if s.ackAsked f m && s.onTemplate (some c) && s.verdictInTime f && s.ackStatus m st then
      if s.mac.acked.contains (f.sfd.asn, m.srcBytes) then s.bump F.MAC_CNT_DUP_NOACK_COUNT else s.placeAck f m c key
    else s

/-! ## The acknowledgements of nodes (R149–R151) -/

/-- The SFD timestamp of a frame lies in a window. -/
def RxFrame.inWindow (f : RxFrame) (lo hi : Nat) : Bool := decide (lo ≤ f.sfd.fullNs) && decide (f.sfd.fullNs ≤ hi)

/-- The device's frame that a received frame is a candidate for, if its acknowledgement is still awaited (R150). -/
def State.windowOf (s : State) (f : RxFrame) : Option TxFrame :=
  (s.tx f.chain).frames.find? fun t =>
    decide (t.stage = .awaitAck) && t.desc.carrier == f.rill && f.inWindow t.ackFrom t.ackTo

/-- A received frame is a candidate of a window whose frame has completed. -/
def State.lateCandidate (s : State) (f : RxFrame) : Bool :=
  s.mac.answered.any fun w => w.2.1 == f.chain && w.2.2.1 == f.rill && f.inWindow w.2.2.2.1 w.2.2.2.2

/-- The slot engine consumes a received frame: an acknowledgement frame that is a candidate (R150). It counts as a received frame only. -/
def State.consumed (s : State) (f : RxFrame) (m : MacFrame) : Bool := m.ftype == 2 && ((s.windowOf f).isSome || s.lateCandidate f)

/-- The MAC headers of a frame the device sent. -/
def State.sentMac (s : State) (t : TxFrame) : MacFrame :=
  let phy := (s.frameMode t.desc.chain t.desc.carrier t.modeSet).1
  (parseMac t.psdu (t.psdu.length - s.txFcsLen t.desc.chain t.desc.carrier phy)).getD {}

/-- A candidate matches (R150). -/
def State.ackMatches (s : State) (t : TxFrame) (f : RxFrame) (m : MacFrame) (st : Status) : Bool :=
  let d := s.sentMac t
  m.ftype == 2 && decide (f.closed = some .ok) && s.ownAddr m.dstMode m.dst &&
    (m.srcMode == 0 || (m.srcMode == d.dstMode && m.src == d.dst)) && (m.seq.isNone || m.seq == d.seq) &&
    (!m.secured || decide (st = .ok) || decide (st = .dupSuspect))

/-- The index of the node that a device frame went to. -/
def State.destOf (s : State) (d : MacFrame) : Option Nat × State :=
  match (if d.dstMode = 3 then s.lookup d.dst 0
    else if d.dstMode = 2 then s.lookupShort (s.fld F.MAC_ADDR_PAN) d.dst else (.miss, s)) with
  | (.hit i _, s) => (some i, s)
  | (_, s) => (none, s)

/-- The device's frame completes; the rest of its window goes on consuming candidates (R150). -/
def State.answer (s : State) (t : TxFrame) (st : Status) (rssi : Nat) : State :=
  let j := t.desc.chain
  let s := { s with mac := { s.mac with answered := s.mac.answered ++ [(t.id, j, t.desc.carrier, t.ackFrom, t.ackTo)] } }
  ((if st = .ok then (s.bump F.MAC_CNT_TX_ACKED_COUNT).completeTx j t .ok rssi else s.noAck j t rssi)).sweepAnswered j

/-- A matched acknowledgement (R151, R157); an unsecured one updates the drift record too (DESIGN CHOICE, log entry 157). -/
def State.matched (s : State) (t : TxFrame) (f : RxFrame) (m : MacFrame) (src : Option Nat) : State :=
  let (i, s) := if src.isSome then (src, s) else s.destOf (s.sentMac t)
  let s := match i with
    | some i => if f.sfd.asn = noAsn then s else s.driftUpdate i (((t.ackFrom + t.ackTo) / 2 : Nat) - (f.sfd.fullNs : Int)) f.sfd.asn
    | none => s
  match m.timeCorr f.bytes with
  | some (_, true) => (s.bump F.MAC_CNT_NACK_COUNT).answer t .txNoAck f.sfd.rssi
  | _ => s.answer t .ok f.sfd.rssi

/-- A candidate that does not match ends (R151): the last one ends the wait of a window that has closed. -/
def State.unmatched (s : State) (t : TxFrame) : State :=
  let j := t.desc.chain
  s.on (t.closed && !s.candidates j t.desc.carrier t.ackFrom t.ackTo) fun s => s.ackEnd j t

/-- The slot engine takes a received frame with its status, already out of Sluice's list, as a candidate (R150): true where it consumes
it. -/
def State.candidate (s : State) (f : RxFrame) (m : Option MacFrame) (st : Status) (src : Option Nat) : Bool × State :=
  let isAck := (m.map fun m => m.ftype == 2).getD false
  match s.windowOf f with
  | some t =>
    match m with
    | some m => (isAck, if s.ackMatches t f m st then s.matched t f m src else s.unmatched t)
    | none => (false, s.unmatched t)
  | none => if s.lateCandidate f then (isAck, s.sweepAnswered f.chain) else (false, s)

/-! ## The Twin block's ears (R459, R468) -/

/-- A secured frame's MIC verifies under a group key used directly, with the device's own EUI-64 as the sender (R459, R468). -/
def State.micUnder (s : State) (g : Nat) (f : RxFrame) (m : MacFrame) : Bool × State :=
  match s.storeKey false g with
  | (.found k _, s) => ((ccmOpen k.key k.key (s.fld F.MAC_EUI_EUI64) m.counter m.secLevel f.bytes m.bodyAt 0 m.bodyEnd).1, s)
  | (_, s) => (false, s)

/-- An expected beacon slot is heard (R459): the path is restored at the second in a row. -/
def State.airHeard (s : State) (a : Nat) : State :=
  let n := s.twn.airGood + 1
  let es := s.twn.expected.map fun e => if e.1 = a then (e.1, e.2.1, true) else e
  let s := { s with twn := { s.twn with expected := es, airGood := n } }.setFld F.TWN_STAT_AIR_MISS 0
  if 2 ≤ n ∧ s.flag F.TWN_STAT_AIR_OK = false then (s.setFld F.TWN_STAT_AIR_OK 1).raise F.TWN_EVT_AIR_RESTORE else s

/-- STANDBY hears a beacon of the active (R459, R460). -/
def State.hearBeacon (s : State) (f : RxFrame) (m : MacFrame) : State :=
  let a := f.sfd.asn
  let due := s.twn.expected.any fun e => e.1 == a && e.2.1.testBit f.chain && !e.2.2
  if s.fld F.TWN_STAT_ROLE == 2 && due && m.ftype == 0 && m.version == 2 && m.srcMode == 3 && m.src == s.fld F.MAC_EUI_EUI64 &&
      s.onTemplate (s.corrNs f) then
    if m.secured then
      let (ok, s) := s.micUnder (s.fld F.MAC_BCN_CFG_GROUP f.chain) f m
      s.on ok fun s => s.airHeard a
    else s.airHeard a
  else s

/-- TERM of a takeover frame (R465): none where the frame has not its form, level 1–3 and key identifier mode 0 with it. -/
def State.takeoverTerm (s : State) (f : RxFrame) (m : MacFrame) : Option Nat :=
  let c := (f.bytes.drop (m.bodyAt + 2)).take 7
  if m.ftype == 1 && m.version == 2 && m.security && decide (1 ≤ m.secLevel) && decide (m.secLevel ≤ 3) && m.keyMode == 0 &&
      m.seq.isNone && m.srcMode == 2 && m.dstMode == 2 && m.dst == 0xFFFF && m.payIes &&
      leAt f.bytes m.bodyEnd m.bodyAt 2 == some (2 ^ 15 + 2 * 2 ^ 11 + 7) && ofLe (c.take 3) == s.fld F.MAC_VENDOR_OUI &&
      (c.getD 3 0).toNat == 5 then some (ofLe ((c.drop 4).take 2))
  else none

/-- ACTIVE hears a takeover frame with a higher TERM, and yields (R468). -/
def State.hearTakeover (s : State) (f : RxFrame) (m : MacFrame) : State :=
  match s.takeoverTerm f m with
  | some term =>
    if s.fld F.TWN_STAT_ROLE == 3 && decide (s.fld F.TWN_STAT_TERM < term) then
      let (ok, s) := s.micUnder (s.fld F.TWN_TK_TK_GROUP) f m
      s.on ok fun s => s.yieldTo term
    else s
  | none => s

end Sys2Proof.Machine
end

