-- ==== Sys2Proof/Machine/Sluice.lean ====
section
/-! DEFINITION. Sluice's commands (07_sluice_tables.md, R182–R224): the header stage, commit and drop, wired packets, the table commands,
the scan lock and the ager. -/

namespace Sys2Proof.Machine

/-! ## The header stage (R183–R185, R198) -/

/-- The source entry of a frame's MAC headers (R198), and whether an alias led to it. -/
def State.resolveSource (s : State) (m : MacFrame) : LookAns × Bool × State :=
  if m.srcMode = 3 then
    let (r, s) := s.lookup m.src 0
    (r, false, s)
  else if m.srcMode = 2 then
    let pan := m.srcPan.getD (m.dstPan.getD (s.fld F.MAC_ADDR_PAN))
    let (r, s) := s.lookupShort pan m.src
    (r, true, s)
  else (.miss, false, s)

/-- A frame's bytes with as much of an encrypted payload in clear as the header job decrypts (R185, R248). -/
def clearHead (m : MacFrame) (k : JobKey) (eui : Nat) (b : List Byte) : List Byte :=
  let text := (b.drop m.bodyAt).take (m.headLim - m.bodyAt)
  b.take m.bodyAt ++ ccmCrypt (keyBytes k.key) (ccmNonce eui m.counter m.secLevel) text ++ b.drop (m.bodyAt + text.length)

/-- The bytes that a frame's 6LoWPAN headers are parsed from: none where they are encrypted and no key was granted, or the header job found
none. -/
def RxHold.clear (h : RxHold) (m : MacFrame) (b : List Byte) : Option (List Byte) :=
  if m.encrypted then (if h.keyAt.isSome || h.blind then none else h.key.map fun k => clearHead m k h.eui b) else some b

/-- What the parse of a frame's payload gives (R184). -/
def State.parsePayload (s : State) (h : RxHold) (m : MacFrame) (b : List Byte) : Parsed :=
  match h.clear m b with
  | some c => s.parseLowpan m c
  | none => .other m.bodyEnd

/-- The header span is complete, and in clear (R41, R185): with the frame's end, if that comes first. -/
def State.spanReady (s : State) (f : RxFrame) (h : RxHold) : Bool :=
  !(h.keyAt.isSome && (f.mac.map fun m => m.encrypted).getD false) &&
    (f.closed.isSome || f.bytes.length == f.len ||
      match f.mac with
      | some m =>
        if m.ftype = 1 then decide ((s.parsePayload h m f.bytes).end_ ≤ f.bytes.length) else decide (m.bodyAt ≤ f.bytes.length)
      | none => false)

/-- Sluice may open the frame's descriptor (R41, R185). -/
def State.headerReady (s : State) (f : RxFrame) : Bool :=
  f.closed.isSome || f.bytes.length == f.len ||
    match f.mac with
    | some m => if m.encrypted then decide (m.bodyAt ≤ f.bytes.length) else s.spanReady f {}
    | none => false

/-- The decision of a frame is built (R206–R212). -/
def State.decideFrame (s : State) (f : RxFrame) (h : RxHold) : RxHold × State :=
  let (d, bad, s) : Decision × Bool × State := match f.mac with
    | some m =>
      if m.ftype = 1 then s.decideParsed (s.parsePayload h m f.bytes)
      else
        let (n, s) := s.decideNs
        ({ kind := .mac, ns := n }, false, s)
    | none => s.decideParsed (.other 0)
  ({ h with decision := some d, poisoned := h.poisoned || bad }, s)

/-- The source lookup and, for a secured frame, the key request (R198, R243), at the end of the cycle: one in the cycle of a new key gets that (R255). -/
def State.openHold (s : State) (m : MacFrame) : RxHold × State :=
  match s.resolveSource m with
  | (.miss, _, s) => ({}, s)
  | (.poisoned, _, s) => ({ poisoned := true }, s)
  | (.hit i e, aliased, s) =>
    let s := s.bump F.SLC_CNT_HIT_COUNT
    let h : RxHold := { unknown := false, src := some i, eui := e.e0, group := e.group, ovr := e.ovrEn, aliased := aliased }
    if m.secured then
      match s.endCycle.requestKey m.keyMode e.e0 e.group e.ovrPtr e.ovrEn with
      | (.found k ns, s) =>
        let (q, s) := s.newJob
        ({ h with key := some k, keyAt := some (s.clp.now + ns), asked := s.clp.now, tag := k.epoch, headSeq := q }, s)
      | (.absent, s) => ({ h with unknown := true }, s)
      | (.poisoned, s) => ({ h with poisoned := true }, s)
    else (h, s)

/-- Set what Sluice holds of a frame. -/
def State.setHold (s : State) (id : Nat) (h : RxHold) : State :=
  match s.rx id with
  | some f => s.setRx id { f with hold := some h }
  | none => s

/-- The header stage takes a frame: it opens the descriptor with the source lookup and the key request, and builds the decision once
the span is complete. -/
def State.headerStage (s : State) (id : Nat) (f : RxFrame) : State :=
  let (h, s) : RxHold × State := match f.mac with
    | some m => s.openHold m
    | none => ({}, s)
  let (h, s) := if s.spanReady f h then s.decideFrame f h else (h, s)
  s.setHold id h

/-- SLUICE_HEADER (R185): Sluice opens frame `id`'s descriptor, or, for a frame with an encrypted payload, goes on once the span is in
clear, which ends its header job. -/
def execSluiceHeader (id : Nat) (s : State) : Out :=
  match s.rx id with
  | some f =>
    match f.hold with
    | none => .next (if s.headerReady f && s.memsReady (1 :: keyMems) then s.headerStage id f else s)
    | some h =>
      if h.decision = none ∧ s.spanReady f h = true ∧ s.memReady 1 = true then
        let (h, s) := s.decideFrame f h
        .next (s.setHold id { h with headRuns := false })
      else .next s
  | none => .next s

/-! ## Completions (R14, R41, R202, R203, R211) -/

/-- The four words of an RX completion (R14). -/
def rxDoneWords (f : RxFrame) (len cell idx group : Nat) (ovr : Bool) (ctr : Nat) (st : Status) : List Word :=
  [BitVec.ofNat 64 (f.sfd.ts % 2 ^ 32 * 2 ^ 32 + len % 65536 * 65536 + f.chain * 4096 + f.rill * 64 + f.aer % 2 * 32 + f.modeIdx % 8 * 4),
   BitVec.ofNat 64 (f.sfd.asn % 2 ^ 40 * 2 ^ 24 + f.sfd.rssi % 256 * 65536 + f.sfd.lqi % 256 * 256 + f.sfd.fo % 256),
   BitVec.ofNat 64 (cell % 2 ^ 32 * 2 ^ 32 + idx % 2 ^ 19 * 2 ^ 13 + group % 4096 * 2 + cond ovr 1 0),
   BitVec.ofNat 64 (ctr % 2 ^ 32 * 2 ^ 32 + st.code * 2 ^ 26)]

/-- The pair of completion and decision record goes to the delivery runnel (R205, R211). -/
def State.pushPair (s : State) (done dec : List Word) : State :=
  if s.pwr.phase = .failing then s
  else s.enginePush (s.fld F.SLC_RUNNEL_DELIVER) ((done ++ dec).map fun w => mkWord w)

/-- A route cell belongs to the consumer only with OK or DUP_SUSPECT (R203). -/
def State.stripRoute (s : State) (d : Decision) (st : Status) : Decision × State :=
  if st = .ok ∨ st = .dupSuspect then (d, s)
  else match d.cell with
    | some c => ({ d with cell := none }, s.freeChain c)
    | none => (d, s)

/-- The device frees the frame's cells before a completion of this status (R203). -/
def freedByDevice (st : Status) : Bool :=
  match st with
  | .fcsFail => true
  | .blanked => true
  | .duplicate => true
  | .replay => true
  | .poisoned => true
  | _ => false

/-- A completion of this status is pushed (R41, R154). -/
def State.reports (s : State) (f : RxFrame) (st : Status) : Bool :=
  match st with
  | .fcsFail => s.flag F.PLM_CHAIN_CTL_FCSFAIL_CMPL f.chain
  | .duplicate => s.flag F.MAC_CTL_REPORT_DUP
  | .replay => s.flag F.MAC_CTL_REPORT_REPLAY
  | _ => true

/-- The class of a status in OBS_RILL_CNT (R499). -/
def rillClass (st : Status) : Nat :=
  match st with
  | .duplicate => 1
  | .replay => 2
  | .micFail => 3
  | .keyStale => 3
  | .unknownSource => 3
  | .fcsFail => 4
  | .poisoned => 4
  | .blanked => 5
  | _ => 0

/-- The frame's cells are freed. -/
def State.freeRx (s : State) (f : RxFrame) : State := s.freeChain (f.cells.getD 0 0)

/-- The frame's completion (R14, R44, R203, R211, R465). Without a source entry its node-table index, group and override read 0, with
FCS_FAIL, BLANKED and POISONED as with UNKNOWN_SOURCE (DESIGN CHOICE, log entry 136). -/
def State.completeRx (s : State) (f : RxFrame) (h : RxHold) (st : Status) : State :=
  let (d, s) := s.stripRoute (h.decision.getD { kind := .other }) st
  let freed := freedByDevice st
  let quiet := !(s.fld F.TWN_STAT_ROLE == 0 || s.fld F.TWN_STAT_ROLE == 3 || s.flag F.TWN_CTL_OBSERVE_RX)
  let s := s.on (freed || quiet) fun s => s.freeRx f
  if quiet then
    match d.cell with
    | some c => s.freeChain c
    | none => s
  else if s.reports f st then
    let (v, s) := s.fresh
    let cell := if freed then v else f.cells.getD 0 0
    let len := if st = .blanked then f.bytes.length else f.len
    let ctr := match f.mac with | some m => if m.secured then m.counter else 0 | none => 0
    let known := st != .unknownSource
    s.pushPair
      (rxDoneWords f len cell (if known then h.src.getD 0 else 0) (if known then h.group else 0) (known && h.ovr) ctr st)
      (d.words f.chain h.aliased)
  else s

/-- The counters of a frame's end (R202, R224). -/
def State.countRx (s : State) (st : Status) : State :=
  match st with
  | .unknownSource => s.bump F.SLC_CNT_UNKNOWN_COUNT
  | .poisoned => s
  | .fcsFail => s.bump F.SLC_CNT_DROP_COUNT
  | .blanked => s.bump F.SLC_CNT_DROP_COUNT
  | .micFail => s.bump F.SLC_CNT_DROP_COUNT
  | .keyStale => s.bump F.SLC_CNT_DROP_COUNT
  | .duplicate => (s.bump F.SLC_CNT_COMMIT_COUNT).bump F.MAC_CNT_DUPLICATE_COUNT
  | .replay => (s.bump F.SLC_CNT_COMMIT_COUNT).bump F.MAC_CNT_REPLAY_COUNT
  | _ => s.bump F.SLC_CNT_COMMIT_COUNT

/-- A frame leaves Sluice with its final status: the slot engine takes it if it is a candidate that it consumes (R150, R203); otherwise it
counts and completes. -/
def State.finishRx (s : State) (id : Nat) (f : RxFrame) (h : RxHold) (st : Status) : State :=
  let s := { s with slc := { s.slc with rx := SMap.del s.slc.rx id } }.bump F.OBS_RILL_CNT_COUNT 1 (16 * f.chain + rillClass st) f.rill
  let (used, s) := s.candidate f f.mac st h.src
  if used then ((s.stripRoute (h.decision.getD { kind := .other }) .duplicate).2).freeRx f
  else ((s.countRx st).countTiming f).completeRx f h st

/-! ## Commit (R199–R202) -/

/-- The comparison of R153 and R199 for a verified frame: the mark is 0 when EPOCH differs from the key's epoch. -/
def compareCtr (e : Entry) (epoch ctr : Nat) : Status :=
  let mark := if e.epoch = epoch then e.hwm else 0
  if mark < ctr then .ok else if ctr = mark then .duplicate else .replay

/-- The current full-time seconds, bits [19:0]. -/
def State.ageNow (s : State) : Nat := s.fullNs / 10 ^ 9 % 2 ^ 20

/-- Effects 4 and 5 on an entry (R202). -/
def Entry.refreshed (e : Entry) (age lqi : Nat) : Entry :=
  (e.setAge age).setLq (((e.lq : Int) + ((lqi : Int) - e.lq) / 4).toNat)

/-- The entry differs from the ingress of a frame, and a move may change it (R201). -/
def Entry.moves (e : Entry) (chain rill : Nat) : Bool := !e.static && (e.port != chain || e.rill != rill)

/-- Effects 2 to 5 on the source entry (R201, R202): secured frames always, unsecured ones while LEARN_UNSEC is 1. A move counts, but for a
frame that the slot engine consumes (R150). -/
def State.applyEntry (s : State) (i : Nat) (e : Entry) (f : RxFrame) (m : MacFrame) (st : Status) (epoch : Nat) : State :=
  if !(m.secured || s.flag F.SLC_CTL_LEARN_UNSEC) || (st != .ok && st != .duplicate) then s
  else
    let ok := decide (st = .ok)
    let e1 := if ok && m.secured then e.setHwm m.counter epoch else e
    let moved := ok && e1.moves f.chain f.rill
    let e2 := if moved then e1.setPort f.chain f.rill else e1
    (s.writeEntry i (e2.refreshed s.ageNow f.sfd.lqi)).on (moved && !s.consumed f m) fun s =>
      s.bump F.SLC_CNT_MOVE_COUNT

/-- DUP_SUSPECT takes the place of OK for the first frame of a suspect entry, and clears the mark (R470); one that the slot engine consumes is
not counted (R150). -/
def State.suspectStatus (s : State) (i : Nat) (st : Status) (counted : Bool) : Status × State :=
  if st = .ok ∧ s.twn.suspects.contains i then (.dupSuspect, (s.unsuspect i).on counted fun s => s.bump F.TWN_CNT_DUP_SUSPECT_COUNT)
  else (st, s)

/-- A frame commits against its source entry (R202): STANDBY and PAIRING apply none of effects 2 to 6 (R465). -/
def State.commitKnown (s : State) (id : Nat) (f : RxFrame) (h : RxHold) (m : MacFrame) (i : Nat) (e : Entry) (epoch : Nat) : State :=
  let st := if m.secured then compareCtr e epoch m.counter else .ok
  if !s.mayTransmit then s.finishRx id f h st
  else
    let s := s.applyEntry i e f m st epoch
    let on := s.onTemplate (s.corrNs f) && m.secured && (decide (st = .ok) || decide (st = .duplicate)) && !s.consumed f m
    let s := match s.corrNs f with
      | some c => if on then s.driftUpdate i c f.sfd.asn else s
      | none => s
    let (st, s) := s.suspectStatus i st (!s.consumed f m)
    (s.ackRx f m st h.key).finishRx id f h st

/-- An unsecured frame from an unknown extended source is learned (R201): the insert, `none` where the frame is not to be learned. A frame
that the slot engine consumes is not counted (R150). -/
def State.learn (s : State) (f : RxFrame) (m : MacFrame) : Option Inserted × State :=
  if !(s.flag F.SLC_CTL_LEARN_NEW && s.mayTransmit && !m.secured && m.srcMode == 3) then (none, s)
  else
    let e : Entry := (({ e0 := m.src } : Entry).setLearned).setPort f.chain f.rill
    let (r, s) := s.insertEntry e
    let s := s.on (decide (r.status = .ok) && !r.existed && !s.consumed f m) fun s => s.bump F.SLC_CNT_LEARN_NEW_COUNT
    let s := s.on (decide (r.status ≠ .ok) && decide (r.status ≠ .poisoned) && !s.consumed f m) fun s =>
      (s.bump F.SLC_CNT_LEARN_FAIL_COUNT).raise F.SLC_EVT_LEARN_FAIL
    (some r, s)

/-- A learned entry is refreshed by its first frame (R202, effects 4 and 5). -/
def State.refreshLearned (s : State) (r : Inserted) (f : RxFrame) : State :=
  s.writeEntry r.index (r.image.refreshed s.ageNow f.sfd.lqi)

/-- A frame without a source entry ends (R198, R200, R201): learned as OK, POISONED where the insert met an uncorrectable word, or
UNKNOWN_SOURCE. A key that another frame has inserted meanwhile gives OK, refreshes AGE and LQ of that entry whatever LEARN_UNSEC is, moves
nothing and counts nothing (DESIGN CHOICE, log entry 159). -/
def State.commitUnknown (s : State) (id : Nat) (f : RxFrame) (h : RxHold) : State :=
  match f.mac with
  | some m =>
    let (r, s) := if h.src.isNone then s.learn f m else (none, s)
    let ans : Inserted := r.getD { status := .unknownSource }
    match ans.status with
    | .ok =>
      ((s.refreshLearned ans f).ackRx f m .ok none).finishRx id f { h with src := some ans.index, group := 0, ovr := false } .ok
    | .poisoned => s.finishRx id f h .poisoned
    | _ => (s.ackRx f m .unknownSource none).finishRx id f h .unknownSource
  | none => s.finishRx id f h .unknownSource

/-- What a good frame's headers tell the Twin block (R459, R468). -/
def State.hear (s : State) (f : RxFrame) : State :=
  match f.mac with
  | some m => (s.hearBeacon f m).hearTakeover f m
  | none => s

/-- A frame with a good FCS ends once its verdict is known: committed, dropped with a failed verdict, or without a source (R202, R205). -/
def State.commitGood (s : State) (id : Nat) (f : RxFrame) (h : RxHold) : State :=
  match h.verify, f.mac, h.src with
  | .poisoned, _, _ => s.finishRx id f h .poisoned
  | .verdict _ false stale _, _, _ => s.finishRx id f h (if stale then .keyStale else .micFail)
  | v, some m, some i =>
    if h.unknown then s.commitUnknown id f h
    else match s.readEntry i with
      | (none, s) => s.finishRx id f h .poisoned
      | (some e, s) =>
        if e.valid && e.cls == 0 && e.e0 == h.eui then
          let epoch := match v with | .verdict ep _ _ _ => ep | _ => 0
          s.commitKnown id f h m i e epoch
        else s.finishRx id f h .unknownSource
  | _, _, _ => s.commitUnknown id f h

/-- The frame's fate waits for its MIC verdict (R202). -/
def verdictDue (f : RxFrame) (h : RxHold) : Bool :=
  match f.mac, h.verify with
  | some m, .none => m.secured && !h.unknown && !h.poisoned
  | some _, .running .. => true
  | _, _ => false

/-- No frame that the rill accepted before frame `id` is still with Sluice (R19). -/
def State.oldestOfRill (s : State) (id : Nat) (f : RxFrame) : Bool :=
  !s.slc.rx.any fun x => decide (x.1 < id) && x.2.chain == f.chain && x.2.rill == f.rill

/-- SLUICE_COMMIT (R200, R202): on the later of the FCS result and the MIC verdict, frame `id` commits with its deferred effects or is dropped;
an uncorrectable word on Sluice's path ends it POISONED whatever they are. The frames of a rill end in the order of their SFDs (R19). -/
def execSluiceCommit (id : Nat) (s : State) : Out :=
  match s.rx id with
  | some f =>
    match f.hold, f.closed with
    | some h, some c =>
      if (c = .ok ∧ verdictDue f h = true) ∨ s.oldestOfRill id f = false ∨ s.memsReady [1, 5] = false then .next s
      else
        let (h, s) := if h.decision = none then s.decideFrame f h else (h, s)
        let f := { f with hold := some h }
        if h.poisoned then .next ((s.on (decide (c = .ok)) fun s => s.hear f).finishRx id f h .poisoned)
        else match c with
          | .blanked => .next (s.finishRx id f h .blanked)
          | .fcsFail => .next (s.finishRx id f h .fcsFail)
          | .ok => .next ((s.hear f).commitGood id f h)
    | _, _ => .next s
  | none => .next s

/-! ## Wired packets (R186) -/

/-- The words of a wired RX completion (R186). -/
def wiredWords (p : Wired) (cell : Nat) (st : Status) : List Word :=
  [BitVec.ofNat 64 (p.ts % 2 ^ 32 * 2 ^ 32 + p.len % 65536 * 65536), BitVec.ofNat 64 (p.asn % 2 ^ 40 * 2 ^ 24),
   BitVec.ofNat 64 (cell % 2 ^ 32 * 2 ^ 32), BitVec.ofNat 64 (st.code * 2 ^ 26)]

/-- A wired packet completes with a status and a decision (R186, R203, R211). -/
def State.completeWired (s : State) (p : Wired) (d : Decision) (st : Status) : State :=
  let (d, s) := s.stripRoute d st
  let (v, s) := s.fresh
  let s := s.on (decide (st = .poisoned)) fun s => s.freeChain p.cell
  (s.on (decide (st = .ok)) fun s => s.bump F.SLC_CNT_COMMIT_COUNT).pushPair
    (wiredWords p (if st = .poisoned then v else p.cell) st) (d.words p.port false)

/-- Sluice takes a packet: header span, decision, completion (R183, R186, R200, R206). One whose chain holds its header span no more completes
INTERNAL, and no cell is freed (R555; DEDUCED, log entry 144). -/
def State.takeWired (s : State) (p : Wired) : State :=
  match p.ipv6 with
  | none =>
    let (d, _, s) := s.decideParsed (.other 0)
    s.completeWired p d .ok
  | some o =>
    match s.chainFor p.cell (o + 40) with
    | none =>
      let (d, _, s) := s.decideParsed (.other 0)
      (s.siltInternal 7 0).completeWired p d .internal
    | some cs =>
      let (b, bad, s) := s.getFrame cs (o + 40)
      if bad then
        let (d, _, s) := s.decideParsed (.other 0)
        s.completeWired p d .poisoned
      else
        let (d, bad, s) := s.decideParsed (parseIpv6 b o)
        s.completeWired p d (if bad then .poisoned else .ok)

/-- WIRED_PACKET (R186): Sluice takes the packet that has waited longest at a port from 16 to 21, once the memories it reads are initialised (R433). -/
def execWiredPacket (port : Nat) (s : State) : Out :=
  match s.slc.wired.find? fun p => p.port == port with
  | some p =>
    if s.memsReady [0, 1] then .next ({ s with slc := { s.slc with wired := s.slc.wired.erase p } }.takeWired p) else .next s
  | none => .next s

/-! ## Table commands (R217–R222) -/

/-- A command record with its OP replaced. -/
def withOp (op : Nat) (ws : List Word) : List Nat :=
  match ws.map BitVec.toNat with
  | w :: t => setBits w 60 4 op :: t
  | [] => [op * 2 ^ 60]

/-- SEARCH (R219): requester `req` issues the record `ws`. -/
def execSearch (req : Nat) (ws : List Word) (s : State) : Out := .next (s.powered fun s => s.whenReady 1 fun s => s.tableCmd req (withOp 1 ws))
/-- NEXT (R219, R221). -/
def execNext (req : Nat) (ws : List Word) (s : State) : Out := .next (s.powered fun s => s.whenReady 1 fun s => s.tableCmd req (withOp 2 ws))
/-- INSERT (R193, R219). -/
def execInsert (req : Nat) (ws : List Word) (s : State) : Out := .next (s.powered fun s => s.whenReady 1 fun s => s.tableCmd req (withOp 3 ws))
/-- UPDATE (R219). -/
def execUpdate (req : Nat) (ws : List Word) (s : State) : Out := .next (s.powered fun s => s.whenReady 1 fun s => s.tableCmd req (withOp 4 ws))
/-- DELETE (R219). -/
def execDelete (req : Nat) (ws : List Word) (s : State) : Out := .next (s.powered fun s => s.whenReady 1 fun s => s.tableCmd req (withOp 5 ws))
/-- FLUSH_PORT (R219). -/
def execFlushPort (req : Nat) (ws : List Word) (s : State) : Out := .next (s.powered fun s => s.whenReady 1 fun s => s.tableCmd req (withOp 6 ws))

/-- FLUSH_PORT_DONE (R219): the pass ends and its count is returned. -/
def execFlushPortDone (s : State) : Out :=
  match s.slc.flush with
  | some p =>
    let (p, s) := (s.advanceTo p.due).flushTo p 524288
    let s := { s with slc := { s.slc with flush := none } }.setFld F.SLC_STAT_FLUSH_BUSY 0
    .next (s.deliverResult p.req p.runnel (resultRec .ok false (s.holdsLock p.req) 0 p.tag p.count {}))
  | none => .next s

/-- SCAN_TIMEOUT (R221). -/
def execScanTimeout (s : State) : Out :=
  match s.slc.lock with
  | some (req, due) => .next ((((s.advanceTo due).setLock none).raise F.SLC_EVT_SCAN_LOST).siltPost 113 req)
  | none => .next s

/-! ## Ageing (R214–R216) -/

/-- The time between two visits in ns (R214). -/
def State.agerStep (s : State) : Nat := max 1 (s.fld F.SLC_AGE_CTL_AGE_PERIOD) * 10 ^ 9 / 524288

/-- An in-flight frame holds an entry (R215). -/
def State.entryHeld (s : State) (i : Nat) : Bool :=
  s.slc.rx.any fun x => match x.2.hold with | some h => h.src == some i | none => false

/-- The entry is to be aged out (R214). -/
def State.isAged (s : State) (i : Nat) (e : Entry) : Bool :=
  e.valid && decide (s.fld F.SLC_AGE_LIMIT_LIMIT < (s.ageNow + 2 ^ 20 - e.age) % 2 ^ 20) && !e.static && !e.pinned && !s.entryHeld i

/-- The ager has visited its slot. -/
def State.agerNext (s : State) : State := { s with slc := { s.slc with agerAt := (s.slc.agerAt + 1) % 524288 } }

/-- The ager's visit of a slot (R214–R216, R444). -/
def State.agerVisit (s : State) : State :=
  let i := s.slc.agerAt
  match s.readEntry i with
  | (none, s) => s.agerNext
  | (some e, s) =>
    if !s.isAged i e then s.agerNext
    else
      let n := s.fld F.SLC_RUNNEL_AGE_NOTICE
      if s.runnelOn n && (!(s.runnel n).waiting.isEmpty || decide (s.runnelRoom n < 6)) then s.raise F.SLC_EVT_AGE_STALL
      else
        let s := (s.invalidate i e).bump F.SLC_CNT_AGED_COUNT
        (s.deliverResult 255 n (resultRec .ok false false i 0 0 e)).agerNext

/-- AGER_VISIT (R214): the next visit, when it is due. -/
def execAgerVisit (s : State) : Out :=
  if s.flag F.SLC_AGE_CTL_EN = true ∧ s.memReady 1 = true then
    let t := s.slc.agerLast + s.agerStep
    let s := s.advanceTo t
    .next { s with slc := { s.slc with agerLast := max t s.slc.agerLast } }.agerVisit
  else .next s

/-- A write of SLC_AGE_CTL: ageing enabled counts its visits from then on. -/
def State.ageCtlWrite (s : State) (d : Word) : State :=
  let was := s.flag F.SLC_AGE_CTL_EN
  let s := (s.setFld F.SLC_AGE_CTL_EN (bits d.toNat 0 1)).setFld F.SLC_AGE_CTL_AGE_PERIOD (bits d.toNat 16 16)
  s.on (!was && d.getLsbD 0) fun s => { s with slc := { s.slc with agerLast := s.clp.now } }

/-- A write of SLC_RELOC_SEED (R193): the seed is loaded into the LFSR, 0 as 1. -/
def State.relocSeedWrite (s : State) (d : Word) : State :=
  let v := bits d.toNat 0 32
  { s with slc := { s.slc with lfsr := BitVec.ofNat 32 (max 1 v) } }.setFld F.SLC_RELOC_SEED_SEED v

/-- RELOC_SEED_WRITE (R193). -/
def execRelocSeedWrite (d : Word) (s : State) : Out := .next (s.powered fun s => s.relocSeedWrite d)

end Sys2Proof.Machine
end

