-- ==== Sys2Proof/Machine/Grotto.lean ====
section
/-! DEFINITION. Grotto's commands and jobs (08_grotto_security.md, R225–R262). -/

namespace Sys2Proof.Machine

/-- The 36 messages of ENROL. -/
def State.randMsgs (s : State) : Nat → List Nat × State
  | 0 => ([], s)
  | n + 1 =>
    let (v, s) := s.randN 3
    let (l, s) := s.randMsgs n
    (v % 2 ^ 131 :: l, s)

/-! ## The PUF and the root (R226–R234) -/

/-- The 255 bits of block `i` of window `w`, at one reading of the region. -/
def pufBlock (reading w i : Nat) : Nat :=
  (List.range 255).foldl (fun v j => if Config.pufBit (9216 * w + 256 * i + j) reading then v + 2 ^ j else v) 0

/-- The bitwise majority of 7 readings (R232). -/
def pufMajority (reading w i : Nat) : Nat :=
  (List.range 255).foldl (fun v j =>
    if 4 ≤ ((List.range 7).filter fun k => Config.pufBit (9216 * w + 256 * i + j) (reading + k)).length then v + 2 ^ j else v) 0

/-- The root that 36 messages give, as the KWK and the debug-unlock secret (R228). -/
def rootOf (msgs : List Nat) : Nat × Nat :=
  let root := sha256 ([0x47, 0x4C, 0x52] ++ msgs.flatMap fun m => beBytes 17 m)
  (ofBe ((hmacSha256 root [0x47, 0x4C, 0x4B]).take 16), ofBe (hmacSha256 root [0x47, 0x4C, 0x44]))

/-- The helper data of 36 messages for a window: h_i = r_maj ⊕ Enc(m_i) (R231, R233), as the helper body of R236. -/
def helperBody (reading w : Nat) (msgs : List Nat) : List Byte :=
  leBytes 1 w ++ leBytes 3 0 ++ (List.range 36).flatMap fun i => leBytes 32 (pufMajority reading w i ^^^ bchEncode (msgs.getD i 0))

/-- The code offset of block `i` in a helper body (R227, R236). -/
def helperBlock (body : List Byte) (i : Nat) : Nat := ofLe (sliceOf body (4 + 32 * i) 32) % 2 ^ 255

/-- ROOT_STATE. -/
def State.rootState (s : State) : Nat := s.fld F.GRT_STAT_ROOT_STATE

/-- The root is in place with its messages held (R229, R230). -/
def State.rootReady (s : State) (msgs : List Nat) : State :=
  let (kwk, dbg) := rootOf msgs
  ({ s with grt := { s.grt with
      kwk := some kwk, dbg := some dbg, msgs := some msgs, msgsDue := s.clp.now + 10 ^ 9 } }.setFld F.GRT_STAT_ROOT_STATE 2).setFld
    F.GRT_STAT_MSG_HELD 1

/-- REFRESH_DUE sets (R234). -/
def State.refreshDue (s : State) : State := (s.setFld F.GRT_STAT_REFRESH_DUE 1).raise F.GRT_EVT_REFRESH_DUE

/-- The root has failed (R229); its MAX_ERR of 31 is above every REFRESH_T (R234). -/
def State.rootFailed (s : State) (fails w : Nat) : State :=
  let s := (((s.setFld F.GRT_PUF_STAT_MAX_ERR 31).setFld F.GRT_PUF_STAT_FAIL_BLOCKS fails).setFld F.GRT_PUF_STAT_WINDOW w).refreshDue
  ((s.setFld F.GRT_STAT_ROOT_STATE 3).raise F.GRT_EVT_ROOT_FAIL).siltPost 129 fails

/-- RECON's outcome when it completes (R228, R229, R234): an empty body is no helper data. -/
def State.reconEnd (s : State) (body : List Byte) : State :=
  if body.isEmpty then s.rootFailed 36 0
  else
    let w := bits (byteAt body 0) 0 3
    let n := s.grt.pufReads
    let s := { s with grt := { s.grt with pufReads := n + 1 } }
    let rs := (List.range 36).map fun i => bchDecode (pufBlock n w i ^^^ helperBlock body i)
    let fails := (rs.filter Option.isNone).length
    if 0 < fails then s.rootFailed fails w
    else
      let ms := rs.filterMap id
      let err := (ms.map fun (x : Nat × Nat) => x.2).foldl max 0
      let s := s.rootReady (ms.map fun (x : Nat × Nat) => x.1)
      let s := { s with grt := { s.grt with rebuilt := true } }
      let s := ((s.setFld F.GRT_PUF_STAT_MAX_ERR err).setFld F.GRT_PUF_STAT_FAIL_BLOCKS 0).setFld F.GRT_PUF_STAT_WINDOW w
      s.on (decide (min 18 (s.fld F.GRT_PUF_CTL_REFRESH_T) ≤ err)) State.refreshDue

/-- ENROL's outcome: its helper body (R231). -/
def State.enrolEnd (s : State) (w : Nat) : List Byte × State :=
  let (msgs, s) := s.randMsgs 36
  let n := s.grt.pufReads
  let s := { s with grt := { s.grt with pufReads := n + 7 } }
  (helperBody n w msgs, (s.rootReady msgs).setFld F.GRT_PUF_STAT_WINDOW w)

/-- REFRESH's outcome: its helper body, from the messages that were held when it was accepted (R233). -/
def State.refreshEnd (s : State) (w : Nat) (msgs : List Nat) : List Byte × State :=
  let n := s.grt.pufReads
  (helperBody n w msgs, { s with grt := { s.grt with pufReads := n + 7 } }.setFld F.GRT_PUF_STAT_WINDOW w)

/-- The held messages are erased (R230). -/
def State.eraseMsgs (s : State) : State := { s with grt := { s.grt with msgs := none } }.setFld F.GRT_STAT_MSG_HELD 0

/-! ## Keys in the store (R236, R241, R242, R249, R253) -/

/-- Bit of GRT_FLOOR_DUE and GRT_PENDING for the page of a key. -/
def pageBit (ovr : Bool) (i : Nat) : Nat := if ovr then 16 + i / 1024 else i / 256

/-- The page's bit in GRT_FLOOR_DUE sets, and FLOOR_DUE with it (R249). -/
def State.floorDue (s : State) (bit : Nat) : State :=
  (s.setReg .GRT_FLOOR_DUE 0 0 (s.reg .GRT_FLOOR_DUE 0 0 ||| BitVec.ofNat 64 (2 ^ bit))).raise F.GRT_EVT_FLOOR_DUE

/-- Marks of a live key's counter (R249). -/
def State.counterMarks (s : State) (ovr : Bool) (i : Nat) : State :=
  let e := s.slot ovr i
  if e.state != 1 then s
  else
    let s := s.on (!e.pending && decide (e.floor ≤ e.ctr + 2 ^ 19)) fun s => s.floorDue (pageBit ovr i)
    s.on (decide (0xF0000000 ≤ e.ctr)) fun s => s.raise F.GRT_EVT_CTR_NEAR

/-- A live key is replaced or erased (R253): a sweep begins, and the old key is kept until the jobs that use it end. -/
def State.invalidateKey (s : State) (ovr : Bool) (i : Nat) (old : KeySlot) : State :=
  if old.state != 1 then s
  else
    let w : Sweep := ⟨if ovr then none else some i, s.clp.now + 3000, old.key, s.clp.now⟩
    { s with grt := { s.grt with sweeps := s.grt.sweeps ++ [w] } }

/-- A key's entry is written to the store (R246): an override cell's mask is drawn afresh. -/
def State.putSlot (s : State) (ovr : Bool) (i : Nat) (v : KeySlot) : State :=
  let (mask, s) := if ovr then s.randN 2 else (0, s)
  (s.setSlot ovr i (v.withKey v.key mask)).keyWrite (keyMem ovr) i

/-- A key's entry is written, and what it held before is invalidated (R253). -/
def State.storeSlot (s : State) (ovr : Bool) (i : Nat) (v : KeySlot) : State :=
  (s.putSlot ovr i v).invalidateKey ovr i (s.slot ovr i)

/-- A field of an entry changes: the entry is read, and written where it changes; an uncorrectable one loses its key (R444). -/
def State.updateSlot (s : State) (ovr : Bool) (i : Nat) (f : KeySlot → KeySlot) : State :=
  if f (s.slot ovr i) = s.slot ovr i then s
  else match s.keyRead (keyMem ovr) i 0 with
    | (some _, s) => s.putSlot ovr i (f (s.slot ovr i))
    | (none, s) => (s.dropKey ovr i) |> fun s => s.setSlot ovr i (f (s.slot ovr i))

/-- EPOCH after an import or a clear (R242). -/
def nextEpoch (e : KeySlot) : Nat := if e.state = 0 then 0 else (e.epoch + 1) % 256

/-- An entry is read for its EPOCH, through the decoder; an uncorrectable one loses its key, its EPOCH unchanged (R439, R444). -/
def State.readSlot (s : State) (ovr : Bool) (i : Nat) : KeySlot × State :=
  let e := s.slot ovr i
  match s.keyRead (keyMem ovr) i e.epoch with
  | (some v, s) => ({ e with epoch := v % 256 }, s)
  | (none, s) =>
    let s := s.dropKey ovr i
    (s.slot ovr i, s)

/-- An import (R242, R250). -/
def State.importKey (s : State) (ovr : Bool) (i key : Nat) : State :=
  let (e, s) := s.readSlot ovr i
  s.storeSlot ovr i { e.withKey key 0 with epoch := nextEpoch e, state := 1, ctr := 1, pending := true }

/-- A retirement or a clear (R242); PENDING stays until FLOOR_COMMIT (R250). -/
def State.retireKey (s : State) (ovr : Bool) (i : Nat) : State :=
  let (e, s) := s.readSlot ovr i
  s.storeSlot ovr i { e.withKey 0 0 with epoch := nextEpoch e, state := 2 }

/-- A wrapped key (R236). -/
def State.wrapped (s : State) (n : Nat) (k : Nat) : List Byte := keyWrap (keyBytes (s.grt.kwk.getD 0)) (beBytes n k)

/-- The first key of a page and the number of its entries (R236). -/
def pageSpan (type page : Nat) : Nat × Nat := if type = 2 then (256 * page, 256) else (1024 * page, 1024)

/-- The FLOOR of an entry in a page body (R241, R249): that of EXPORT_PAGE; 2²⁰ for the key newly imported. -/
def bodyFloor (e : KeySlot) (isNew : Bool) : Nat := if isNew then 2 ^ 20 else min 0xFFFFFFFF (max e.floor (e.ctr + 2 ^ 20))

/-- One entry of a page body (R236, R241): its bytes, and what the pending export keeps of it. A key that the store gives no more is
exported as none (R444). -/
def State.bodyEntry (s : State) (ovr : Bool) (new : Option Nat) (i : Nat) : (List Byte × Nat × Nat × Nat) × State :=
  let (key, s) := match s.storeKey ovr i with
    | (.found k _, s) => (s.wrapped 16 k.key, s)
    | (_, s) => (List.replicate 24 0, s)
  let e := s.slot ovr i
  let floor := bodyFloor e (new == some i)
  ((key ++ leBytes 1 e.epoch ++ leBytes 1 e.state ++ leBytes 2 0 ++ leBytes 4 floor, e.epoch, e.state, floor), s)

/-- The entries of a page body, in order. -/
def State.bodyEntries (s : State) (ovr : Bool) (new : Option Nat) : List Nat → List (List Byte × Nat × Nat × Nat) × State
  | [] => ([], s)
  | i :: is =>
    let (e, s) := s.bodyEntry ovr new i
    let (es, s) := s.bodyEntries ovr new is
    (e :: es, s)

/-- A page body is output, and an export is pending for its page (R240, R241). -/
def State.pageBody (s : State) (type page : Nat) (new : Option Nat) : List Byte × State :=
  let (lo, n) := pageSpan type page
  let (es, s) := s.bodyEntries (type == 3) new ((List.range n).map (lo + ·))
  (es.flatMap fun e => e.1, { s with grt := { s.grt with exports := SMap.put s.grt.exports (64 * type + page) (es.map fun e => e.2) } })

/-- The device-keys body (R236). -/
def State.deviceBody (s : State) : List Byte :=
  (match s.grt.netKey with | some k => s.wrapped 16 k | none => List.replicate 24 0) ++
    (match s.grt.attKey with | some k => s.wrapped 32 k | none => List.replicate 40 0)

/-- NET_KEY and ATT_KEY follow the keys held. -/
def State.showKeys (s : State) : State :=
  (s.setFld F.GRT_STAT_NET_KEY (cond s.grt.netKey.isSome 1 0)).setFld F.GRT_STAT_ATT_KEY (cond s.grt.attKey.isSome 1 0)

/-- A key failed to unwrap (R241). -/
def State.unwrapFail (s : State) (value : Nat) : State :=
  ((s.bump F.GRT_CNT_UNWRAP_FAIL_COUNT).raise F.GRT_EVT_UNWRAP_FAIL).siltPost 131 value

/-- One key of a device-keys body (R241): all zeros are an absent key. -/
def State.loadDevKey (s : State) (c : List Byte) : Option Nat × State :=
  if c.all (· == 0) then (none, s)
  else match keyUnwrap (keyBytes (s.grt.kwk.getD 0)) c with
    | some k => (some (ofBe k), s)
    | none =>
      let (v, s) := s.fresh
      (none, s.unwrapFail v)

/-- One entry of a page body installed (R241, R249); PENDING stays until FLOOR_COMMIT (R250). -/
def State.loadEntry (s : State) (ovr : Bool) (i : Nat) (b : List Byte) : State :=
  let st := bits (byteAt b 25) 0 8
  let floor := ofLe (sliceOf b 28 4)
  let base : KeySlot := { epoch := byteAt b 24, ctr := floor, floor := floor, pending := (s.slot ovr i).pending }
  match st with
  | 1 =>
    match keyUnwrap (keyBytes (s.grt.kwk.getD 0)) (b.take 24) with
    | some k => (s.storeSlot ovr i { base.withKey (ofBe k) 0 with state := 1 }).counterMarks ovr i
    | none => (s.storeSlot ovr i { pending := base.pending }).unwrapFail (4096 * (cond ovr 1 0) + i)
  | 2 => s.storeSlot ovr i { base with state := 2 }
  | _ => s.storeSlot ovr i { base with state := 0 }

/-- LOAD (R241). -/
def State.loadBody (s : State) (type page : Nat) (b : List Byte) : State :=
  if type = 1 then
    let (net, s) := s.loadDevKey (b.take 24)
    let (att, s) := s.loadDevKey (sliceOf b 24 40)
    { s with grt := { s.grt with netKey := net, attKey := att } }.showKeys
  else
    let (lo, n) := pageSpan type page
    (List.range n).foldl (fun s k => s.loadEntry (type == 3) (lo + k) (sliceOf b (32 * k) 32)) s

/-- FLOOR_COMMIT (R240, R461): the pending floors come into force, PENDING and the page's FLOOR_DUE clear; mirrored. -/
def State.floorCommit (s : State) (type page : Nat) : State :=
  let (lo, n) := pageSpan type page
  let ovr := type == 3
  let exp := SMap.getD s.grt.exports (64 * type + page) []
  let s := (List.range n).foldl (fun s k =>
    s.updateSlot ovr (lo + k) fun e => { e with floor := (exp.getD k (0, 0, 0)).2.2, pending := false }) s
  let bit := pageBit ovr lo
  let due := s.reg .GRT_FLOOR_DUE 0 0 &&& ~~~(BitVec.ofNat 64 (2 ^ bit))
  ({ s with grt := { s.grt with exports := SMap.del s.grt.exports (64 * type + page) } }.setReg .GRT_FLOOR_DUE 0 0 due).mirrorPost 4
    (64 * type + page) (exp.map fun (e : Nat × Nat × Nat) => BitVec.ofNat 64 (e.1 + 2 ^ 32 * e.2.2))

/-! ## Attestation (R256, R257) -/

/-- The 128 bits of fuse state (R257). -/
def State.fuseState (s : State) : Nat :=
  let b (c : Bool) (n : Nat) : Nat := if c then 2 ^ n else 0
  b (s.fuse 0) 0 + b (s.fuse 1) 1 + b s.grt.provLock 2 + b s.grt.dbgLock 3 + b s.grt.jtagLock 4 +
    ((List.range 4).map fun k => b (SMap.find? s.bot.owners k).isSome (8 + k) + b (s.bot.revoked.contains k) (12 + k)).sum

/-- The report of ATTEST (R256). -/
def State.attest (s : State) (chal : List Byte) : List Byte :=
  let dig := (List.range 8).flatMap fun k => leBytes 4 (s.fld F.CHT_DIGEST_DIGEST k)
  let state := s.bot.digest ++ dig ++ leBytes 16 s.fuseState
  [0x47, 0x4C, 0x41, 0x54, 0x01, 0, 0, 0] ++ chal ++ state ++
    hmacSha256 (beBytes 32 (s.grt.attKey.getD 0)) (chal ++ sha256 state)

/-! ## Commands (R239, R240) -/

/-- Bytes of Jomuter private memory for a command's input. -/
def State.grtInput (s : State) (n : Nat) : List Byte × State :=
  let (b, _, s) := s.memLoad 8 (s.fld F.GRT_CMD_IN_ADDR / 8 * 8) n
  (b, s)

/-- INDEX is in the range of its command (R240). -/
def grtIndexOk (op i : Nat) : Bool :=
  let type := i / 64
  let page := i % 64
  let paged := (type == 2 && decide (page < 16)) || (type == 3 && decide (page < 32))
  match op with
  | 2 => decide (i ≤ 6)
  | 3 => decide (i ≤ 6)
  | 5 => paged || i == 64
  | 6 => decide (i ≤ 1)
  | 8 => decide (i < 4096)
  | 9 => decide (i < 4096)
  | 10 => decide (i < 32768)
  | 11 => decide (i < 32768)
  | 12 => paged || i == 64 || i == 256
  | 13 => paged
  | 15 => decide (i ≤ 2)
  | _ => true

/-- The commands that need the root (R240). -/
def grtNeedsRoot (op : Nat) : Bool := [5, 6, 7, 8, 9, 10, 11, 12, 14, 16].contains op

/-- The reason for which a command is refused by its own row, before its input is unwrapped (R240). -/
def State.grtRowRefusal (s : State) (op i : Nat) : Option Nat :=
  match op with
  | 1 => if s.grt.reconed then some 6 else none
  | 2 => if s.rootState != 3 || s.grt.rebuilt then some 6 else none
  | 3 => if s.grt.msgs.isNone then some 6 else none
  | 6 => if s.grt.provLock then some 3 else none
  | 7 => if s.grt.netKey.isNone then some 2 else none
  | 8 => if s.grt.netKey.isNone then some 2 else none
  | 9 => if (s.grp i).state != 1 then some 2 else none
  | 10 => if s.grt.netKey.isNone then some 2 else none
  | 11 => if (s.cell i).state != 1 then some 2 else none
  | 12 => if i / 64 = 2 ∨ i / 64 = 3 then none else some 5
  | 13 => if (SMap.find? s.grt.exports i).isNone then some 6 else none
  | 14 => if s.grt.attKey.isNone then some 2 else none
  | 15 => if [s.grt.provLock, s.grt.dbgLock, s.grt.jtagLock].getD i true then some 3 else none
  | 16 => if s.grt.dbgLock then some 3 else none
  | _ => none

/-- The first refusal that applies (R240). -/
def State.grtRefusal (s : State) (op i : Nat) : Option Nat :=
  if op = 0 ∨ 16 < op then some 0
  else if !grtIndexOk op i then some 5
  else if grtNeedsRoot op && s.rootState != 2 then some 1
  else s.grtRowRefusal op i

/-- The time a command takes at most, in ns (R240). -/
def grtBound (op i : Nat) : Nat :=
  match op with
  | 1 => 2000000
  | 2 => 6000000
  | 3 => 6000000
  | 4 => 1000
  | 5 => if i / 64 = 3 then 200000 else 50000
  | 10 => 80000
  | 11 => 80000
  | 12 => 80000
  | 13 => 1000
  | 16 => 5000
  | _ => 20000

/-- A key that comes under the network key (R240). -/
def State.grtTransported (s : State) : Option Nat × State :=
  let (b, s) := s.grtInput 24
  ((keyUnwrap (keyBytes (s.grt.netKey.getD 0)) b).map ofBe, s)

/-- An import command: its page body, or none when the key does not unwrap. -/
def State.grtImport (s : State) (ovr : Bool) (i : Nat) : Option (List Byte) × State :=
  match s.grtTransported with
  | (some k, s) =>
    let (b, s) := (s.importKey ovr i k).pageBody (if ovr then 3 else 2) (if ovr then i / 1024 else i / 256) (some i)
    (some b, s)
  | (none, s) => (none, s)

/-- The effect of a command that no refusal stops: its output, none when its key does not unwrap (REASON 4). RECON, ENROL and REFRESH act
when they complete. -/
def State.grtRun (s : State) (op i : Nat) : Option (List Byte) × State :=
  match op with
  | 1 => (some [], { s with grt := { s.grt with reconed := true } }.setFld F.GRT_STAT_ROOT_STATE 1)
  | 4 => (some [], s.eraseMsgs)
  | 5 =>
    let (b, s) := s.grtInput (if i = 64 then 64 else if i / 64 = 2 then 8192 else 32768)
    (some [], s.loadBody (i / 64) (i % 64) b)
  | 6 =>
    let (b, s) := s.grtInput (if i = 0 then 16 else 32)
    let s := if i = 0 then { s with grt := { s.grt with netKey := some (ofBe b) } }
      else { s with grt := { s.grt with attKey := some (ofBe b) } }
    (some s.deviceBody, s.showKeys)
  | 7 =>
    match s.grtTransported with
    | (some k, s) =>
      let s := { s with grt := { s.grt with netKey := some k } }
      (some s.deviceBody, s)
    | (none, s) => (none, s)
  | 8 => s.grtImport false i
  | 9 =>
    let (b, s) := (s.retireKey false i).pageBody 2 (i / 256) none
    (some b, s)
  | 10 => s.grtImport true i
  | 11 =>
    let (b, s) := (s.retireKey true i).pageBody 3 (i / 1024) none
    (some b, s)
  | 12 =>
    let (b, s) := s.pageBody (i / 64) (i % 64) none
    (some b, s)
  | 13 => (some [], s.floorCommit (i / 64) (i % 64))
  | 14 =>
    let (c, s) := s.grtInput 32
    (some (s.attest c), s)
  | 15 =>
    (some [], match i with
      | 0 => { s with grt := { s.grt with provLock := true } }
      | 1 => { s with grt := { s.grt with dbgLock := true } }
      | _ => { s with grt := { s.grt with jtagLock := true } })
  | 16 => (some (beBytes 32 (s.grt.dbg.getD 0)), s)
  | _ => (some [], s)

/-- The helper body RECON is given: empty where GRT_CMD_IN is 0x3_FFF8 (R240). -/
def State.reconInput (s : State) (op : Nat) : List Byte × State :=
  if op = 1 ∧ s.fld F.GRT_CMD_IN_ADDR / 8 * 8 ≠ 0x3FFF8 then s.grtInput 1156 else ([], s)

/-- A command runs until `due` with its outcome decided. -/
def State.grtStart (s : State) (c : GrtCmd) : State :=
  { s with grt := { s.grt with cmd := some c } }.setFld F.GRT_CMD_STAT_BUSY 1

/-- A write of GRT_CMD by Jomuter (R239, R240). -/
def State.grtCmdWrite (s : State) (op i : Nat) : State :=
  if s.flag F.GRT_CMD_STAT_BUSY then s.raise F.GRT_EVT_CMD_IGNORED
  else
    let (v, s) := s.fresh
    let due := s.clp.now + v % (grtBound op i + 1)
    let addr := s.fld F.GRT_CMD_OUT_ADDR / 8 * 8
    match s.grtRefusal op i with
    | some r => s.grtStart { op := op, index := i, due := due, ok := false, reason := r, addr := addr }
    | none =>
      let (data, s) := s.reconInput op
      let msgs := if op = 3 then s.grt.msgs.getD [] else []
      match s.grtRun op i with
      | (some out, s) => s.grtStart { op := op, index := i, due := due, ok := true, out := out, addr := addr, data := data, msgs := msgs }
      | (none, s) => s.grtStart { op := op, index := i, due := due, ok := false, reason := 4, addr := addr }

/-- RECON (R229). -/
def execRecon (index : Nat) (s : State) : Out := .next (s.powered fun s => s.grtCmdWrite 1 index)
/-- ENROL (R231). -/
def execEnrol (index : Nat) (s : State) : Out := .next (s.powered fun s => s.grtCmdWrite 2 index)
/-- REFRESH (R233). -/
def execRefresh (index : Nat) (s : State) : Out := .next (s.powered fun s => s.grtCmdWrite 3 index)
/-- SEAL_ROOT (R230). -/
def execSealRoot (index : Nat) (s : State) : Out := .next (s.powered fun s => s.grtCmdWrite 4 index)
/-- LOAD (R241). -/
def execGrtLoad (index : Nat) (s : State) : Out := .next (s.powered fun s => s.grtCmdWrite 5 index)
/-- PROVISION (R240). -/
def execProvision (index : Nat) (s : State) : Out := .next (s.powered fun s => s.grtCmdWrite 6 index)
/-- REKEY_NET (R240). -/
def execRekeyNet (index : Nat) (s : State) : Out := .next (s.powered fun s => s.grtCmdWrite 7 index)
/-- IMPORT_GROUP (R242). -/
def execImportGroup (index : Nat) (s : State) : Out := .next (s.powered fun s => s.grtCmdWrite 8 index)
/-- RETIRE_GROUP (R242). -/
def execRetireGroup (index : Nat) (s : State) : Out := .next (s.powered fun s => s.grtCmdWrite 9 index)
/-- IMPORT_OVR (R242). -/
def execImportOvr (index : Nat) (s : State) : Out := .next (s.powered fun s => s.grtCmdWrite 10 index)
/-- CLEAR_OVR (R242). -/
def execClearOvr (index : Nat) (s : State) : Out := .next (s.powered fun s => s.grtCmdWrite 11 index)
/-- EXPORT_PAGE (R249). -/
def execExportPage (index : Nat) (s : State) : Out := .next (s.powered fun s => s.grtCmdWrite 12 index)
/-- FLOOR_COMMIT (R240). -/
def execFloorCommit (index : Nat) (s : State) : Out := .next (s.powered fun s => s.grtCmdWrite 13 index)
/-- ATTEST (R256). -/
def execAttest (index : Nat) (s : State) : Out := .next (s.powered fun s => s.grtCmdWrite 14 index)
/-- BLOW (R240). -/
def execGrtBlow (index : Nat) (s : State) : Out := .next (s.powered fun s => s.grtCmdWrite 15 index)
/-- DEBUG_EXPORT (R259). -/
def execDebugExport (index : Nat) (s : State) : Out := .next (s.powered fun s => s.grtCmdWrite 16 index)

/-- What RECON, ENROL and REFRESH do when they complete: the output, and the state after. -/
def State.grtEnd (s : State) (c : GrtCmd) : List Byte × State :=
  if !c.ok then ([], s)
  else match c.op with
    | 1 => ([], s.reconEnd c.data)
    | 2 => s.enrolEnd c.index
    | 3 => s.refreshEnd c.index c.msgs
    | _ => (c.out, s)

/-- GRT_CMD_DONE (R239, R240): the output is written in whole words, padded with zeros (R443), STATUS and REASON are set and BUSY clears. ENROL and REFRESH wait while a health test
of the random source fails (R260). -/
def execGrtCmdDone (s : State) : Out :=
  match s.grt.cmd with
  | some c =>
    if ((c.op = 2 ∨ c.op = 3) ∧ c.ok = true ∧ s.flag F.GRT_STAT_DRBG_OK = false) ∨ s.memsReady (8 :: keyMems) = false then .next s
    else
      let s := { s.advanceTo c.due with grt := { s.grt with cmd := none } }
      let (out, s) := s.grtEnd c
      let s := s.memWrites 8 (c.addr / 8) ((chunks8 (out.take (262144 - c.addr))).map ofLe)
      let s := s.on (!c.ok) fun s => s.siltInternal 8 c.reason
      let s := ((s.setFld F.GRT_CMD_STAT_STATUS (if c.ok then 0 else 0x3F)).setFld F.GRT_CMD_STAT_REASON c.reason).setFld
        F.GRT_CMD_STAT_BUSY 0
      .next (s.raise F.GRT_EVT_CMD_DONE)
  | none => .next s

/-- Jobs that run in a lane, of frames received and sent (R248). -/
def TxSec.runs : TxSec → Bool
  | .running .. => true
  | _ => false

/-- A verify job runs. -/
def RxVerify.runs : RxVerify → Bool
  | .running .. => true
  | _ => false

/-- Lanes in use (R248), by header, verify and protect jobs. -/
def State.lanesBusy (s : State) : Nat :=
  (s.slc.rx.filter fun x => match x.2.hold with | some h => h.headRuns || h.verify.runs | none => false).length +
    (s.txf.shared.filter fun x => x.2.sec.runs).length +
    ((List.range 16).map fun j => ((s.tx j).frames.filter fun f => f.sec.runs).length).sum

/-- INVALIDATION_SWEEP_DONE (R253): the sweep has removed every cache entry of its group that it met, and the old key is erased with the last
job that runs under it. An entry made after the sweep had passed its set stays. -/
def execInvalidationSweepDone (s : State) : Out :=
  match s.grt.sweeps with
  | w :: ws =>
    let s := s.advanceTo w.due
    .next { s with grt := { s.grt with sweeps := ws, cache := s.grt.cache.filter fun e => !s.sweptWay e.1 e.2 } }
  | [] => .next s

/-- MSG_ERASE (R230): 1 s after a successful RECON. -/
def execMsgErase (s : State) : Out :=
  if s.grt.msgs.isSome then .next (s.advanceTo s.grt.msgsDue).eraseMsgs else .next s

/-! ## Jobs (R245, R248–R251, R254) -/

/-- A frame with an encrypted payload waits for its key, and with it for the lane of its header job (R248). -/
def RxFrame.headWaits (f : RxFrame) : Bool :=
  match f.hold, f.mac with
  | some h, some m => m.encrypted && h.keyAt.isSome
  | _, _ => false

/-- A frame waits for its verify job: it has ended with a good FCS and its key has been delivered. -/
def RxFrame.verifyWaits (f : RxFrame) : Bool :=
  decide (f.closed = some .ok) && match f.hold, f.mac with
    | some h, some m =>
      m.secured && !h.unknown && !h.poisoned && h.key.isSome && h.keyAt.isNone && decide (h.verify = .none)
    | _, _ => false

/-- The order of issue of a waiting protect job. -/
def TxSec.seq? : TxSec → Option Nat
  | .waiting n => some n
  | _ => Option.none

/-- The kinds of Grotto's jobs (R248). -/
inductive JobKind where
  | header | verify | protect
  deriving DecidableEq, Repr

/-- The jobs that wait for a lane: the place of each in the order of issue, and its kind. -/
def State.waitingJobs (s : State) : List (Nat × JobKind) :=
  (s.slc.rx.filterMap fun x => if x.2.headWaits then x.2.hold.map fun h => (h.headSeq, .header) else none) ++
    (s.slc.rx.filterMap fun x => if x.2.verifyWaits then some (x.2.endSeq, .verify) else none) ++
    (((s.txf.shared.filterMap fun x => x.2.sec.seq?) ++
      (List.range 16).flatMap fun j => (s.tx j).frames.filterMap fun f => f.sec.seq?).map fun n => (n, .protect))

/-- The oldest of some jobs. -/
def oldestJob (ws : List (Nat × JobKind)) : Option (Nat × JobKind) :=
  match (ws.map fun w => w.1).min? with
  | some n => ws.find? fun w => w.1 == n
  | none => none

/-- The job that takes the next free lane (R248): the oldest, but no protect job before a verify job (DEDUCED, log entry 146). -/
def nextJob (ws : List (Nat × JobKind)) : Option (Nat × JobKind) :=
  match oldestJob ws with
  | some (n, .protect) => some ((oldestJob (ws.filter fun w => decide (w.2 = .verify))).getD (n, .protect))
  | w => w

/-- How many of some waiting jobs, at most `n`, take a lane before job `q`. -/
def jobsAhead (q : Nat) : Nat → List (Nat × JobKind) → Nat
  | 0, _ => 0
  | n + 1, ws =>
    match nextJob ws with
    | some w => if w.1 = q then 0 else 1 + jobsAhead q n (ws.filter fun v => v.1 != w.1)
    | none => 0

/-- A lane is free for job `q` (R248). -/
def State.laneFor (s : State) (q : Nat) : Bool := decide (s.lanesBusy + jobsAhead q 64 s.waitingJobs < 64)

/-- A key of the kind granted has been replaced or erased at `t` or since (R253). -/
def State.keyReplaced (s : State) (k : JobKey) (t : Nat) : Bool :=
  s.grt.sweeps.any fun w => w.group == (if k.ovr then none else some k.idx) && decide (t ≤ w.start)

/-- The header job of a frame takes a lane (R248, R253): where it has had to wait for one, or the key has been replaced since it was asked for, it
fetches its key afresh, and with none the header span stays encrypted. -/
def State.headStart (s : State) (id : Nat) (h : RxHold) (waited : Bool) : State :=
  let h := { h with keyAt := none, headRuns := true }
  match h.key with
  | some k =>
    if !waited && !s.keyReplaced k h.asked then s.setHold id h
    else match s.jobKey k with
      | (.found k _, s) => s.setHold id { h with key := some k }
      | (.absent, s) => s.setHold id { h with blind := true }
      | (.poisoned, s) => s.setHold id { h with poisoned := true }
  | none => s.setHold id h

/-- KEY_READY (R245, R248): the key of frame `id` is delivered 4 ns, 8 ns or 18 ns after its request. For an encrypted payload the header
job takes a lane with it, at the end of the cycle (R255), and waits where none is free. -/
def execKeyReady (id : Nat) (s : State) : Out :=
  match s.rx id with
  | some f =>
    match f.hold with
    | some h =>
      match h.keyAt with
      | some t =>
        if !f.headWaits then .next ((s.advanceTo t).setHold id { h with keyAt := none })
        else if s.laneFor h.headSeq && s.memsReady keyMems then .next ((s.advanceTo t).endCycle.headStart id h (decide (t < s.clp.now)))
        else .next s
      | none => .next s
    | none => .next s
  | none => .next s

/-- The verdict of a frame under the key its job found (R247, R254, R255): the header job decrypted the first 256 bytes after the auxiliary
security header under the key that was granted, the verify job decrypts the rest. -/
def verdictOf (f : RxFrame) (m : MacFrame) (h : RxHold) (k : JobKey) : Bool × List Byte :=
  let head := (h.key.getD k).key
  let r := ccmOpen head k.key h.eui m.counter m.secLevel f.bytes m.bodyAt (m.headLim - m.bodyAt) m.bodyEnd
  let torn := m.encrypted && m.secLevel != 4 && (h.key.map fun g => g.epoch) != some k.epoch
  (r.1 && !torn, r.2)

/-- VERIFY_JOB_START (R248, R255): the job of frame `id` takes a lane and fetches its key, at the end of the cycle. -/
def execVerifyJobStart (id : Nat) (s : State) : Out :=
  match s.rx id with
  | some f =>
    match f.hold, f.mac with
    | some h, some m =>
      match h.key with
      | some k =>
        if f.verifyWaits && s.laneFor f.endSeq && s.memsReady keyMems then
          let s := s.endCycle
          let t := s.clp.now
          match s.jobKey k with
          | (.found k' _, s) =>
            let (pass, plain) := verdictOf f m h k'
            .next (s.setHold id { h with headRuns := false, verify := .running (some k') k'.epoch t pass plain })
          | (.absent, s) =>
            .next (s.setHold id { h with headRuns := false, verify := .running none (s.slot k.ovr k.idx).epoch t false f.bytes })
          | (.poisoned, s) => .next (s.setHold id { h with headRuns := false, verify := .poisoned })
        else .next s
      | none => .next s
    | _, _ => .next s
  | none => .next s

/-- EPOCH of a source entry, as Grotto reads it; an uncorrectable word drops the slot (R444). -/
def State.entryEpoch (s : State) (i : Nat) : Option Nat × State :=
  match s.memRead 1 (4 * i + 2) with
  | (.good w, s) => (some (bits w 24 8), s)
  | (.bad _, s) => (none, s.dropSlot i)

/-- A verdict that fails is for a stale key (R254), or, where the source entry cannot be read, ends the frame POISONED. -/
def State.staleVerdict (s : State) (h : RxHold) (epoch : Nat) : Option Bool × State :=
  if h.tag = epoch then
    let (e, s) := s.entryEpoch (h.src.getD 0)
    (e.map fun e => e != epoch, s)
  else (some true, s)

/-- VERIFY_DONE (R248, R251, R254): the verdict of frame `id`, within 200 ns + 1 ns × PSDU bytes of its job's start; a frame that passes has its
payload in clear in its cells, and the key that verified it is the one its acknowledgement uses. -/
def execVerifyDone (id : Nat) (s : State) : Out :=
  match s.rx id with
  | some f =>
    match f.hold with
    | some h =>
      match h.verify with
      | .running key epoch start pass plain =>
        let (v, s) := s.fresh
        let s := (s.advanceTo (start + v % (201 + f.len))).bump F.GRT_CNT_VERIFY_COUNT
        if pass then
          let s := s.on (plain != f.bytes) fun s => s.putFrame f.cells plain
          .next (s.setHold id { h with key := key.or h.key, verify := .verdict epoch true false plain })
        else
          match s.staleVerdict h epoch with
          | (some stale, s) =>
            .next ((s.bump (if stale then F.GRT_CNT_KEY_STALE_COUNT else F.GRT_CNT_MIC_FAIL_COUNT)).setHold id
              { h with verify := .verdict epoch false stale plain })
          | (none, s) => .next (s.setHold id { h with verify := .poisoned })
      | _ => .next s
    | none => .next s
  | none => .next s

/-- Set how far the protection of a frame is: its own, or its group's. -/
def State.setSec (s : State) (j : Nat) (f : TxFrame) (x : TxSec) : State :=
  match f.origin.group? with
  | some g => s.setShared g { s.shared g with sec := x }
  | none => s.putTx j { f with sec := x }

/-- The frames that share a frame's protection, by chain. -/
def State.copiesOf (s : State) (j : Nat) (f : TxFrame) : List (Nat × TxFrame) :=
  match f.origin.group? with
  | some g => (List.range 16).flatMap fun i => ((s.tx i).frames.filter fun t => t.origin.group? == some g).map fun t => (i, t)
  | none => [(j, f)]

/-- A protect job ends without protecting its frame: every copy completes with its status (R251, R444). Where its chain does not hold the
frame, the device frees no cell (R555). -/
def State.protectFail (s : State) (j : Nat) (f : TxFrame) (st : Status) : State :=
  let cs := s.copiesOf j f
  let frees := (s.chainFor f.desc.cell f.desc.len).isSome
  let s := s.on (decide (st = .internal)) fun s => s.bump F.GRT_CNT_TX_REFUSED_COUNT
  cs.foldl (fun s c => s.completeTx c.1 c.2 st 0 frees) (s.setSec j f (.failed st))

/-- The destination entry of a frame to protect (R251, case 3). -/
def State.protectDest (s : State) (m : MacFrame) : LookAns × State :=
  if m.dstMode = 3 then s.lookup m.dst 0 else s.lookupShort (m.dstPan.getD (s.fld F.MAC_ADDR_PAN)) m.dst

/-- The key of a protect job (R146, R229, R251). -/
def State.protectKey (s : State) (f : TxFrame) (m : MacFrame) : KeyAns × State :=
  if s.rootState = 3 then (.absent, s)
  else match f.origin with
    | .ack (some k) =>
      let e := s.slot k.ovr k.idx
      if e.state = 1 ∧ e.epoch = k.epoch then s.jobKey k else (.absent, s)
    | _ =>
      if m.dstMode = 0 ∨ (m.dstMode = 2 ∧ m.dst = 0xFFFF) then s.storeKey false f.desc.group
      else match s.protectDest m with
        | (.hit _ e, s) =>
          if f.desc.ovr && e.ovrEn && (s.cell e.ovrPtr).state == 1 then s.storeKey true e.ovrPtr else s.linkKey e.e0 f.desc.group
        | (.miss, s) => (.absent, s)
        | (.poisoned, s) => (.poisoned, s)

/-- The bytes of a frame in its cells, its MAC headers, and whether a word was uncorrectable. A chain that does not hold the frame gives no
headers (R555). -/
def State.protectRead (s : State) (j : Nat) (f : TxFrame) : List Byte × Option MacFrame × Bool × State :=
  match s.chainFor f.desc.cell f.desc.len with
  | none => ([], none, false, s)
  | some cs =>
    let phy := (s.frameMode j f.desc.carrier f.modeSet).1
    let (b, bad, s) := s.getFrame cs f.desc.len
    (b, parseMac b (f.desc.len - s.txFcsLen j f.desc.carrier phy), bad, s)

/-- The auxiliary security header carries the descriptor's level, key identifier mode 0 and a frame counter (R251). -/
def auxOk (m : MacFrame) (lvl : Nat) : Bool :=
  m.security && m.secLevel == lvl && m.keyMode == 0 && m.hdrEnd == m.auxAt + 5

/-- What the counter of a key gives a frame (R249, R250): nothing, an uncorrectable entry, or the value. -/
inductive CtrAns where
  | refused
  | poisoned
  | taken (c : Nat)
  deriving DecidableEq, Repr

/-- The key's counter is taken for a frame (R249, R250): its entry is read and written (R444). -/
def State.takeCounter (s : State) (k : JobKey) : CtrAns × State :=
  match s.keyRead (keyMem k.ovr) k.idx 0 with
  | (none, s) => (.poisoned, s.dropKey k.ovr k.idx)
  | (some _, s) =>
    let e := s.slot k.ovr k.idx
    if e.pending then (.refused, s)
    else if e.floor ≤ e.ctr then (.refused, s.raise F.GRT_EVT_FLOOR_HIT)
    else if e.ctr = 0xFFFFFFFF then (.refused, s)
    else (.taken e.ctr, (s.putSlot k.ovr k.idx { e with ctr := e.ctr + 1 }).counterMarks k.ovr k.idx)

/-- A protect job begins on a lane (R248–R251). -/
def State.protectStart (s : State) (j : Nat) (f : TxFrame) (n : Nat) : State :=
  match s.protectRead j f with
  | (_, _, true, s) => s.protectFail j f .poisoned
  | (_, none, _, s) => s.protectFail j f .internal
  | (_, some m, _, s) =>
    if !auxOk m f.desc.sec then s.protectFail j f .internal
    else match s.protectKey f m with
      | (.absent, s) => s.protectFail j f .internal
      | (.poisoned, s) => s.protectFail j f .poisoned
      | (.found k _, s) =>
        match s.takeCounter k with
        | (.refused, s) => s.protectFail j f .internal
        | (.poisoned, s) => s.protectFail j f .poisoned
        | (.taken c, s) => s.setSec j f (.running n k c s.clp.now)

/-- PROTECT_JOB_START (R251, R255): the job of frame `id` of chain `j` takes a lane, its key and a counter value, at the end of the cycle. -/
def execProtectJobStart (j id : Nat) (s : State) : Out :=
  match s.txFrame j id with
  | some f =>
    match s.secOf f with
    | .waiting n => .next (if s.laneFor n && s.memsReady (0 :: keyMems) then s.endCycle.protectStart j f n else s)
    | _ => .next s
  | none => .next s

/-- The frame has its protection: its copies have reached the launch unit (R85). -/
def State.protectArrive (s : State) (j : Nat) (f : TxFrame) : State :=
  (s.copiesOf j f).foldl (fun s c =>
    match s.txFrame c.1 c.2.id with
    | some t => s.putTx c.1 { t with arrived := s.clp.now }
    | none => s) s

/-- PROTECT_DONE (R248, R251): counter, ciphertext and MIC stand in the cells of frame `id` of chain `j`. -/
def execProtectDone (j id : Nat) (s : State) : Out :=
  match s.txFrame j id with
  | some f =>
    match s.secOf f with
    | .running _ k c t =>
      let (v, s) := s.fresh
      let s := s.advanceTo (t + v % (1001 + f.desc.len))
      match s.protectRead j f with
      | (b, some m, false, s) =>
        let b := b.take (m.auxAt + 1) ++ leBytes 4 c ++ b.drop (m.auxAt + 5)
        let b := ccmSeal k.key (s.fld F.MAC_EUI_EUI64) c f.desc.sec b m.bodyAt m.bodyEnd
        let s := (s.putFrame ((s.chainFor f.desc.cell f.desc.len).getD []) b).bump F.GRT_CNT_PROTECT_COUNT
        .next ((s.setSec j f .done).protectArrive j f)
      | (_, none, false, s) => .next (s.protectFail j f .internal)
      | (_, _, true, s) => .next (s.protectFail j f .poisoned)
    | _ => .next s
  | none => .next s

/-! ## Upkeep (R246, R260) -/

/-- Fresh masks for override cells: each is read and written; an uncorrectable one loses its key (R444). -/
def State.redraw (s : State) : List Nat → State
  | [] => s
  | q :: qs =>
    match s.keyRead 3 q 0 with
    | (some _, s) => (s.putSlot true q (s.cell q)).redraw qs
    | (none, s) => (s.dropKey true q).redraw qs

/-- MASK_REFRESH (R246, R260): every 10 ms, while the random source is healthy. -/
def execMaskRefresh (s : State) : Out :=
  if s.flag F.GRT_STAT_DRBG_OK then
    let t := s.grt.maskAt + 10000000
    let s := s.advanceTo t
    .next ({ s with grt := { s.grt with maskAt := max t s.grt.maskAt } }.redraw (s.grt.ovrs.map fun (e : Nat × KeySlot) => e.1))
  else .next s

/-- DRBG_RESEED (R260): after 2¹⁶ requests. -/
def execDrbgReseed (s : State) : Out := .next (if 65536 ≤ s.grt.requests then s.reseed else s)

/-- A challenge is drawn (R258). -/
def State.challenge (s : State) : State :=
  let (v, s) := s.randN 4
  { s with grt := { s.grt with chal := some v, chalWait := false } }

/-- DRBG_HEALTH_FAIL (R260): a health test fails, or (`failing` false) the tests pass again and a challenge that waited is issued. -/
def execDrbgHealthFail (dt : Nat) (failing : Bool) (s : State) : Out :=
  let s := s.after dt
  if failing then .next ((s.setFld F.GRT_STAT_DRBG_OK 0).raise F.GRT_EVT_DRBG_FAIL)
  else .next ((s.setFld F.GRT_STAT_DRBG_OK 1).on (s.grt.chalWait && decide (s.grt.wrong < 3)) State.challenge)

/-! ## Debug unlock (R258) -/

/-- JTAG is open (R258): JTAG_LOCK is unblown, or a response has opened it. -/
def State.jtagOpen (s : State) : Bool := !s.grt.jtagLock || s.flag F.GRT_STAT_UNLOCKED

/-- UNLOCK_CHAL (R258, R260): a fresh challenge, until 3 responses were wrong; it waits while a health test fails. -/
def execUnlockChal (dt : Nat) (s : State) : Out :=
  let s := s.after dt
  if s.grt.wrong < 3 then
    .next (if s.flag F.GRT_STAT_DRBG_OK then s.challenge else { s with grt := { s.grt with chalWait := true } })
  else .next s

/-- UNLOCK_RESP (R258): the response to the challenge. -/
def execUnlockResp (dt : Nat) (resp : List Byte) (s : State) : Out :=
  let s := s.after dt
  match s.grt.chal with
  | some c =>
    let s := { s with grt := { s.grt with chal := none } }
    let good := match s.grt.dbg with
      | some d => hmacSha256 (beBytes 32 d) ([0x47, 0x4C, 0x55] ++ beBytes 32 c) == resp
      | none => false
    if good then .next (s.setFld F.GRT_STAT_UNLOCKED 1)
    else .next ({ s with grt := { s.grt with wrong := s.grt.wrong + 1 } }.raise F.GRT_EVT_DEBUG_FAIL)
  | none => .next s

/-! ## Registers (R261) -/

/-- The key that GRT_KEY_IDX shows. -/
def State.shownKey (s : State) : KeySlot :=
  let i := s.fld F.GRT_KEY_IDX_INDEX
  if s.flag F.GRT_KEY_IDX_OVR then s.cell i else if i < 4096 then s.grp i else {}

/-- GRT_KEY_DATA as read. -/
def State.keyData (s : State) : Nat :=
  let e := s.shownKey
  e.ctr + e.epoch * 2 ^ 32 + e.state * 2 ^ 40 + (cond e.pending 1 0) * 2 ^ 42

/-- GRT_PENDING as read. -/
def State.pendingPages (s : State) : Nat :=
  let put (v b : Nat) : Nat := if v.testBit b then v else v + 2 ^ b
  s.grt.ovrs.foldl (fun v e => if e.2.pending then put v (pageBit true e.1) else v)
    (s.grt.groups.foldl (fun v e => if e.2.pending then put v (pageBit false e.1) else v) 0)

/-- GROUPS_LIVE. -/
def State.groupsLive (s : State) : Nat := (s.grt.groups.filter fun e => e.2.state == 1).length

end Sys2Proof.Machine
end

