-- ==== Sys2Proof/Machine/Runnels.lean ====
section
/-! DEFINITION. Runnels and the host's side of the packet cells (R330–R349): enable and disable, host push and pop, flush, host
allocation and free. The operations all producers and consumers share are in Ops. -/

namespace Sys2Proof.Machine

/-! ## Configuration (R330–R333) -/

/-- The first word of a runnel's region (R330). -/
def State.runnelBase (s : State) (n : Nat) : Nat := 16 * s.fld F.RUN_CFG_BASE16 n

/-- The regions of two runnels share a word (R331). -/
def State.runnelOverlap (s : State) (n m : Nat) : Bool :=
  decide (s.runnelBase n < s.runnelBase m + s.runnelSize m) && decide (s.runnelBase m < s.runnelBase n + s.runnelSize n)

/-- The first check of R331 that fails, 0 where none does. -/
def State.runnelCheck (s : State) (n : Nat) : Nat :=
  if s.runnelBase n + s.runnelSize n > 262144 then 1
  else if (List.range 256).any fun m => m != n && s.flag F.RUN_CFG_EN m && s.runnelOverlap n m then 2
  else if s.fld F.RUN_CFG_CLASS n = 3 then 3
  else 0

/-- EN goes from 0 to 1 (R331): checked, then enabled empty, or refused. -/
def State.runnelEnable (s : State) (n : Nat) : State :=
  let code := s.runnelCheck n
  let s := s.setFld F.RUN_STAT_REFUSE code n
  if code = 0 then (s.setRunnel n { flushEnd := (s.runnel n).flushEnd }).setFld F.RUN_CFG_EN 1 n else s.raise F.RUN_EVT_CFG_REFUSED

/-- Whether the device has freed the cells of a delivery pair with this status already (R203, R340). -/
def cellsGone (code : Nat) : Bool :=
  [Status.fcsFail, .blanked, .duplicate, .replay, .poisoned].any fun st => st.code == code

/-- Free the chain a 32-bit index names, where it names a cell. -/
def State.freeIndex (s : State) (c : Nat) : State := if c < 65536 then s.freeChain c else s

/-- What a discarded CLASS 1 record leaves (R338, R340): its completion TX_FLUSHED, or POISONED for a bad word. -/
def State.flushDesc (s : State) (n : Nat) (ws : List RunWord) : State :=
  let w (i : Nat) : Word := (ws.map fun x => x.val).getD i 0
  let d := descOf (w 0) (w 1) (w 2) (w 3)
  if ws.any RunWord.isBad then
    let bad3 := (ws.getD 3 ⟨0, false, false⟩).isBad
    s.deliverTx (.runnel n) { d with cookie := if bad3 then BitVec.allOnes 64 else d.cookie } .poisoned 0 noAsn 0 false
  else s.deliverTx (.runnel n) d .txFlushed 0 noAsn 0 (decide (d.cellHi = 0) && decide (d.mode ≠ 3) && (s.chainFor d.cell d.len).isSome)

/-- What a discarded CLASS 2 record leaves (R340): its chain and its route cell freed, unless a word of it is bad. -/
def State.flushPair (s : State) (ws : List RunWord) : State :=
  let w (i : Nat) : Nat := ((ws.map fun (x : RunWord) => x.val).getD i 0).toNat
  if ws.any RunWord.isBad then s
  else
    let s := if cellsGone (bits (w 3) 26 6) then s else s.freeIndex (bits (w 2) 32 32)
    let route := bits (w 6) 32 32
    if route = 0xFFFFFFFF then s else s.freeIndex route

/-- One discarded record (R340): counted, its bad words noted (R338), and its effect by CLASS. -/
def State.discardRecord (s : State) (n : Nat) (ws : List RunWord) : State :=
  let s := (s.bump F.RUN_CNT_FLUSHED_COUNT).noteBad n (ws.filter RunWord.isBad).length
  match s.fld F.RUN_CFG_CLASS n with
  | 1 => s.flushDesc n ws
  | 2 => s.flushPair ws
  | _ => s

/-- The words cut into whole records of `len` words. -/
def recordsOf (len : Nat) : Nat → List RunWord → List (List RunWord)
  | 0, _ => []
  | k + 1, ws => ws.take len :: recordsOf len k (ws.drop len)

/-- Discard the oldest `k` whole records (R339, R340). -/
def State.discard (s : State) (n k : Nat) : State :=
  let len := s.recLen n
  let (ws, s) := s.unqueue n (k * len)
  (recordsOf len k ws).foldl (fun s r => s.discardRecord n r) s

/-- A flush ends (R339). -/
def State.flushStop (s : State) (n : Nat) : State :=
  ((s.setRunnel n { s.runnel n with flushEnd := none }).setFld F.RUN_STAT_FLUSHING 0 n).raise F.RUN_EVT_N_FLUSH_DONE n

/-- EN reads 0, and a flush that was running ends (R332, R339). -/
def State.runnelOff (s : State) (n : Nat) : State :=
  ((s.setRunnel n { s.runnel n with disabling := false }).setFld F.RUN_CFG_EN 0 n).on (s.runnel n).flushEnd.isSome fun s => s.flushStop n

/-- EN is cleared (R332): whole records are discarded as a flush discards them, the rest without effect; waiting pushes of
engines and host rings find a disabled runnel. EN reads 1 until the discard is complete. -/
def State.runnelDisable (s : State) (n : Nat) : State :=
  let r := s.runnel n
  if r.disabling then s
  else
    let lost := r.waiting.length + r.ringWaits.length
    if r.words.isEmpty then
      (List.range lost).foldl (fun s _ => s.lostPush n)
        ((s.setRunnel n { r with waiting := [], ringWaits := [] }).runnelOff n)
    else
      let s := s.setRunnel n { r with waiting := [], ringWaits := [], disabling := true, flushEnd := r.flushEnd.map fun _ => 0 }
      let (_, s) := s.unqueue n (min r.words.length (s.recordRest n))
      let s := s.discard n ((s.runnel n).words.length / s.recLen n)
      let (_, s) := s.unqueue n (s.runnel n).words.length
      (List.range lost).foldl (fun s _ => s.lostPush n) s

/-- A write of RUN_CFG_n (R331, R332). -/
def State.runCfgWrite (s : State) (n : Nat) (d : Word) : State :=
  let old := (s.reg .RUN_CFG n 0).toNat
  let new := d.toNat
  let mask (v : Nat) : Nat := bits v 1 5 + 64 * bits v 8 22
  let en := s.flag F.RUN_CFG_EN n
  let s :=
    if !en then s.setReg .RUN_CFG n 0 (d &&& 0x3FFFFF3E)
    else s.on (decide (mask old ≠ mask new)) fun s => s.raise F.RUN_EVT_CFG_IGNORED
  match en, new % 2 == 1 with
  | false, true => s.runnelEnable n
  | true, false => s.runnelDisable n
  | _, _ => s

/-- RUNNEL_ENABLE (R331): a write of RUN_CFG_n with EN 1 (the other fields as `d` gives them). -/
def execRunnelEnable (n : Nat) (d : Word) (s : State) : Out := .next (s.powered fun s => s.runCfgWrite (n % 256) (d ||| 1))

/-- RUNNEL_DISABLE (R332): a write of RUN_CFG_n with EN 0. -/
def execRunnelDisable (n : Nat) (d : Word) (s : State) : Out := .next (s.powered fun s => s.runCfgWrite (n % 256) (d &&& ~~~1))

/-- RUNNEL_DISABLE_DONE (R332): the discard is complete and EN reads 0. -/
def execRunnelDisableDone (n : Nat) (s : State) : Out :=
  let n := n % 256
  let r := s.runnel n
  if r.disabling then .next (s.runnelOff n) else .next s

/-- An engine waits for runnel `n` with a group that has room; in the power-fail sequence nothing of theirs is pushed (R428). -/
def State.engineReady (s : State) (n : Nat) : Bool :=
  match (s.runnel n).waiting with
  | (_, ws) :: _ => s.pwr.phase != .failing && decide (ws.length ≤ s.runnelRoom n)
  | [] => false

/-- A host ring waits for runnel `n` with a record that has room. -/
def State.ringReady (s : State) (n : Nat) : Bool :=
  match (s.runnel n).ringWaits with
  | ws :: _ => decide (ws.length ≤ s.runnelRoom n)
  | [] => false

/-- The words that a thread waits to push, in a push of its own or at its seal: runnel and words. -/
def OclThread.pushWait (th : OclThread) : Option (Nat × List Word) :=
  if th.state != 2 then none
  else match th.wait, th.region with
    | some (.push n ws), _ => some (n, ws)
    | some .seal, some r => match r.effects with
      | .push n ws :: _ => some (n, ws)
      | _ => none
    | _, _ => none

/-- The threads below `t` that wait for runnel `n` with words that have room, in the order in which they are served (R334). -/
def State.pushesBefore (s : State) (n t : Nat) : List Nat :=
  (s.ocl.threads.filter fun e => decide (e.1 < t) && match e.2.pushWait with
    | some (m, ws) => m == n && decide (ws.length ≤ s.runnelRoom n)
    | none => false).map fun e => e.1

/-- A thread below `t` waits for runnel `n` with words that have room: it is served before `t` (R334). -/
def State.threadReady (s : State) (n t : Nat) : Bool := !(s.pushesBefore n t).isEmpty

/-- The group of the engine, or behind every engine the record of the host ring, that waits first lands once there is room for it
(R334, R336). -/
def State.serveWaiting (s : State) (n : Nat) : State :=
  let r := s.runnel n
  match s.engineReady n, s.ringReady n, r.waiting, r.ringWaits with
  | true, _, (_, ws) :: rest, _ => (s.setRunnel n { r with waiting := rest }).land n ws
  | false, true, _, ws :: rest => (s.setRunnel n { r with ringWaits := rest }).land n ws 200
  | _, _, _, _ => s

/-- Up to `k` waiting engines and host rings are served: they go before a push of the host (R334). -/
def State.serveEngines (s : State) (n : Nat) : Nat → State
  | 0 => s
  | k + 1 => if s.engineReady n || s.ringReady n then (s.serveWaiting n).serveEngines n k else s

/-- Every waiting engine and host ring that finds room is served. -/
def State.serveAll (s : State) (n : Nat) : State := s.serveEngines n ((s.runnel n).waiting.length + (s.runnel n).ringWaits.length)

/-- ENGINE_PUSH_ROOM (R334, R336): once the power-fail sequence runs, nothing is pushed (R428). -/
def execEnginePushRoom (n : Nat) (s : State) : Out := .next (if s.pwr.phase = .failing then s else s.serveWaiting (n % 256))

/-! ## The host (R334–R338, R345–R347) -/

/-- A host push of one word or of four as one group (R334, R336), after the engines and the rings that wait: lost on a disabled runnel, ignored whole for
want of room at the end of its cycle, which a pop of that cycle may still make (R337; DESIGN CHOICE, log entry 154). -/
def State.hostPush (s : State) (n : Nat) (ws : List RunWord) : State :=
  if !s.runnelOn n then s.lostPush n
  else
    let s := s.serveAll n
    if ws.length ≤ s.runnelRoom n then s.land n ws 200
    else (s.endCycle.raise F.RUN_EVT_N_OVERRUN n).bump F.RUN_CNT_OVERRUN_COUNT

/-- A write of RUN_HPUSH_CTL (R334, R336, R338). -/
def State.hpushCtlWrite (s : State) (d : Word) : State :=
  if !d.getLsbD 0 then s
  else
    let k := if d.getLsbD 1 then 4 else 1
    s.hostPush (bits d.toNat 8 8) ((List.range k).map fun i => mkWord (s.reg .RUN_HPUSH_W i 0) (d.getLsbD 2))

/-- HOST_PUSH (R336): GO of RUN_HPUSH_CTL, its other fields as `d` gives them. -/
def execHostPush (d : Word) (s : State) : Out := .next (s.powered fun s => s.hpushCtlWrite (d ||| 1))

/-- Words that a pop of this cycle finds: none that landed in it (R335, R337). -/
def State.landedBefore (s : State) (n : Nat) : Nat := min (s.poppable n) ((s.runnel n).words.length - (s.runTurn n).landed)

/-- A read of RUN_HPOP_n (R335, R338): the oldest word as read, or 0 with UNDERRUN. -/
def State.hostPop (s : State) (n : Nat) : Word × State :=
  if s.runnelOn n && decide (0 < s.landedBefore n) then
    let (ws, s) := s.popWords n 1
    ((ws.map fun w => w.val).getD 0 0, s)
  else (0, s.raise F.RUN_EVT_N_UNDERRUN n)

/-- HOST_POP (R335). -/
def execHostPop (a : PopAt) (s : State) : Out := .next ((s.after a.dt).powered fun s => (s.hostPop (a.n % 256)).2)

/-- A write of RUN_HALLOC (R347): ignored while BUSY is set. -/
def State.hallocWrite (s : State) (d : Word) : State :=
  if s.flag F.RUN_HALLOC_RES_BUSY then s
  else { s with run := { s.run with halloc := some (bits d.toNat 0 15) } }.setFld F.RUN_HALLOC_RES_BUSY 1

/-- HOST_ALLOC (R347): a write of RUN_HALLOC. -/
def execHostAlloc (d : Word) (s : State) : Out := .next (s.powered fun s => s.hallocWrite d)

/-- HOST_ALLOC_DONE (R345, R347): the result is held and BUSY clears. -/
def execHostAllocDone (s : State) : Out :=
  match s.run.halloc with
  | none => .next s
  | some len =>
    let s := { s with run := { s.run with halloc := none } }.setFld F.RUN_HALLOC_RES_BUSY 0
    if 1 ≤ len ∧ len ≤ 16384 then
      match s.allocFloor len with
      | (some cs, s) => .next ((s.setFld F.RUN_HALLOC_RES_VALID 1).setFld F.RUN_HALLOC_RES_CELL (cs.getD 0 0))
      | (none, s) => .next (s.setFld F.RUN_HALLOC_RES_VALID 0)
    else .next (s.setFld F.RUN_HALLOC_RES_VALID 0)

/-- HOST_FREE (R346): a write of RUN_HFREE. -/
def execHostFree (d : Word) (s : State) : Out := .next (s.powered fun s => s.freeChain (bits d.toNat 0 16))

/-! ## Flush (R339, R340) -/

/-- FLUSH written (R339): the discard is to end at the last record boundary at or before the tail as it stands. -/
def State.flushWrite (s : State) (n : Nat) : State :=
  let r := s.runnel n
  (s.setRunnel n { r with flushEnd := some (r.words.length - r.pushPos) }).setFld F.RUN_STAT_FLUSHING 1 n

/-- RUNNEL_FLUSH (R339). -/
def execRunnelFlush (n : Nat) (s : State) : Out := .next (s.powered fun s => s.flushWrite (n % 256))

/-- FLUSH_DONE (R339, R340): once the consumer has the rest of its record, the records up to the flush's end are discarded. -/
def execFlushDone (n : Nat) (s : State) : Out :=
  let n := n % 256
  match (s.runnel n).flushEnd with
  | none => .next s
  | some e =>
    if s.recordRest n ≠ 0 ∧ (s.runnel n).disabling = false ∧ s.flag F.RUN_CFG_EN n = true then .next s
    else
      .next ((s.discard n (e / s.recLen n)).flushStop n)

/-! ## Registers (R341–R343, R348) -/

/-- RUN_STAT_n as it reads (R336, R339, R341). -/
def State.runStat (s : State) (n : Nat) : Word :=
  let d := (s.runnel n).words.length
  let b (c : Bool) (k : Nat) : Nat := if c then 2 ^ k else 0
  BitVec.ofNat 64 (d + b (s.flag F.RUN_MARK_HIGH_EN n && decide (s.fld F.RUN_MARK_HIGH n ≤ d)) 13 +
    b (s.flag F.RUN_MARK_LOW_EN n && decide (d ≤ s.fld F.RUN_MARK_LOW n)) 14 + b (decide (s.runnelSize n ≤ d)) 15 +
    b (s.flag F.RUN_STAT_FLUSHING n) 16 + s.fld F.RUN_STAT_REFUSE n * 2 ^ 17)

/-- A write of RUN_EVT_n (R342): a notice cleared by its 1 clears its count. -/
def State.runEvtWrite (s : State) (n : Nat) (d : Word) : State :=
  let u := s.runTurn n
  let mask := (d &&& 0x3F) ||| (if d.getLsbD 0 then F.RUN_EVT_N_HIGH_CROSS.mask else 0) ||| (if d.getLsbD 1 then F.RUN_EVT_N_LOW_CROSS.mask else 0)
  ((s.setRunTurn n { u with evt := u.evt &&& ~~~mask }).setReg .RUN_EVT_N n 0 (s.reg .RUN_EVT_N n 0 &&& ~~~mask)).rearm .RUN_EVT_N n

/-- Before a write of RUN_MARK_n (R343): a depth change of this cycle is judged against the marks that the cycle began with. -/
def State.holdMarks (s : State) (n : Nat) : State := s.setRunTurn n (s.runTurn n)

/-- RUN_NOTICE_SUM_w (R348): bit k is set while some bit of RUN_EVT_n is, n = 64 w + k. -/
def State.noticeSum (s : State) (w : Nat) : Word :=
  BitVec.ofNat 64 (((List.range 64).filter fun k => s.reg .RUN_EVT_N (64 * w + k) 0 != 0).foldl (fun a k => a + 2 ^ k) 0)

/-- RUN_LINK_DATA (R344): the link entry of the cell that RUN_LINK_IDX names. -/
def State.linkData (s : State) : Word :=
  let l := s.link (s.fld F.RUN_LINK_IDX_CELL)
  BitVec.ofNat 64 (l.next % 65536 + (if l.last then 2 ^ 16 else 0) + if l.free then 2 ^ 17 else 0)

end Sys2Proof.Machine
end

