-- ==== Sys2Proof/Machine/OclOps.lean ====
section
/-! DEFINITION. The threads of the Ocell cores as the other blocks use them (R263–R266, R300–R303, R309–R316, R322–R329): their
registers, waits, watchdogs and states, and how a speculation region ends. -/

namespace Sys2Proof.Machine

/-! ## Threads and their registers (R263–R266) -/

/-- A thread by its TID. -/
def State.thr (s : State) (t : Nat) : OclThread := SMap.getD s.ocl.threads t {}

/-- Set a thread. -/
def State.setThr (s : State) (t : Nat) (th : OclThread) : State :=
  { s with ocl := { s.ocl with threads := SMap.put s.ocl.threads t th } }

/-- General register `r`: g0 reads 0 (R263). -/
def OclThread.reg (th : OclThread) (r : Nat) : Word := if r = 0 then 0 else SMap.getD th.g r 0

/-- A write of general register `r`: discarded for g0 (R263). -/
def OclThread.setReg (th : OclThread) (r : Nat) (v : Word) : OclThread := if r = 0 then th else { th with g := SMap.putD th.g r v 0 }

/-- Predicate `k`: p0 reads 1 (R263). -/
def OclThread.pred (th : OclThread) (k : Nat) : Bool := k == 0 || th.p.testBit k

/-- A write of predicate `k`: discarded for p0 (R263). -/
def OclThread.setPred (th : OclThread) (k : Nat) (b : Bool) : OclThread :=
  if k = 0 then th else { th with p := setBits th.p k 1 (cond b 1 0) }

/-- The image of handle `k`; an invalid handle reads 0 (R264). -/
def OclThread.handle (th : OclThread) (k : Nat) : Word := SMap.getD th.h k 0

/-- Set the image of handle `k`. -/
def OclThread.setHandle (th : OclThread) (k : Nat) (v : Word) : OclThread := { th with h := SMap.putD th.h k v 0 }

/-- The image of a valid handle (R264). -/
def handleOf (len cell : Nat) : Word := BitVec.ofNat 64 (2 ^ 63 + len % 65536 * 2 ^ 32 + cell % 65536)

/-- The cluster whose registers show a thread; cluster 0 shows Jomuter. -/
def clusterOf (t : Nat) : Nat := if t < 128 then t / 32 else 0

/-- A thread of Jomuter. -/
def isJomuter (t : Nat) : Bool := t == 129

/-- A counter of the thread's cluster (R329); Jomuter belongs to none. -/
def State.oclCount (s : State) (f : Fld) (t : Nat) : State := s.on (decide (t < 128)) fun s => s.bump f 1 (clusterOf t)

/-- A special-register image: STATUS (R266). -/
def OclThread.status (th : OclThread) (priv : Bool) : Nat :=
  (cond priv 1 0) + (if th.region.isSome then 2 else 0) + (if th.exc then 4 else 0)

/-- SPSTAT (R266). -/
def OclThread.spstat (th : OclThread) : Nat :=
  (match th.region with | some r => 1 + 2 * r.used | none => 0) + 256 * th.dropCause

/-- Core cycles that spreading the clock of cluster `c` has taken since it was last applied (R426, R427): at most 0.5 %, 1 in 125 ns. -/
def State.lagNow (s : State) (c : Nat) : Nat :=
  if s.pwr.sscCl.testBit c then Config.spreadLag c s.clp.now % ((s.clp.now - s.pwr.sscSince) / 125 + 1) else 0

/-- Core cycles since the full reset: 1.6 GHz, less what spreading took, a stopped cluster's clock standing still (R266, R420, R427). -/
def State.cycles (s : State) (t : Nat) : Nat :=
  let c := clusterOf t
  let still := if t < 128 then
      SMap.getD s.ocl.still c 0 + (match SMap.find? s.ocl.stopped c with | some a => s.clp.now - a | none => 0)
    else 0
  let lag := if t < 128 then SMap.getD s.pwr.sscLag c 0 + s.lagNow c else 0
  (s.clp.now - s.pwr.released - still) * 8 / 5 - lag

/-- What mfs of special register `n` gives (R266, R267). -/
def State.special (s : State) (t n : Nat) : Word :=
  let th := s.thr t
  match n with
  | 0 => BitVec.ofNat 64 t
  | 1 => BitVec.ofNat 64 (t / 4)
  | 2 => BitVec.ofNat 64 (th.status (decide (128 ≤ t)))
  | 3 => th.evec
  | 4 => th.epc
  | 5 => th.ecause
  | 6 => th.einfo
  | 7 => th.esave
  | 8 => BitVec.ofNat 64 th.spstat
  | 9 => BitVec.ofNat 64 (s.cycles t)
  | 10 => BitVec.ofNat 64 th.retired
  | 11 => BitVec.ofNat 64 (th.p % 256)
  | _ => 0

/-- The special registers that mts writes, WDKICK apart (R266): the others are RO or unassigned. -/
def OclThread.setSpecial (th : OclThread) (n : Nat) (v : Word) : OclThread :=
  match n with
  | 3 => { th with evec := v &&& ~~~3 }
  | 4 => { th with epc := v }
  | 5 => { th with ecause := v &&& 0xFF }
  | 6 => { th with einfo := v }
  | 7 => { th with esave := v }
  | 11 => { th with p := v.toNat % 256 / 2 * 2 + 1 }
  | _ => th

/-! ## Watchdog and waiting time (R322, R499) -/

/-- The thread is Ready or Waiting. -/
def OclThread.runs (th : OclThread) : Bool := th.state == 1 || th.state == 2

/-- EN and PERIOD_US of a thread's watchdog (R322); PERIOD_US 0 acts as 1. -/
def State.wdEn (s : State) (t : Nat) : Bool := if t < 128 then s.flag F.OCL_WD_EN (t / 32) (t % 32) else s.flag F.OCL_J_WD_EN
/-- PERIOD_US in ns. -/
def State.wdPeriod (s : State) (t : Nat) : Nat :=
  1000 * max 1 (if t < 128 then s.fld F.OCL_WD_PERIOD_US (t / 32) (t % 32) else s.fld F.OCL_J_WD_PERIOD_US)

/-- ns that a watchdog has counted since its last restart. -/
def State.wdNs (s : State) (t : Nat) : Nat :=
  let th := s.thr t
  th.wdAcc + (if s.wdEn t && th.runs then s.clp.now - th.wdFrom else 0)

/-- What a watchdog has counted is kept, before something that starts or stops its count. -/
def State.wdHold (s : State) (t : Nat) : State := s.setThr t { s.thr t with wdAcc := s.wdNs t, wdFrom := s.clp.now }

/-- A watchdog starts afresh. -/
def State.wdRestart (s : State) (t : Nat) : State := s.setThr t { s.thr t with wdAcc := 0, wdFrom := s.clp.now }

/-- WDKICK (R322): the count restarts and STAGE clears. -/
def State.wdKick (s : State) (t : Nat) : State := s.setThr t { s.thr t with wdAcc := 0, wdFrom := s.clp.now, stage := false }

/-- OBS_THR_CNT counts for thread `t`: not inside a region, where R311 blocks every increment but OCL_CNT_DROP's (DEDUCED, log entry 160). -/
def State.thrCounts (s : State) (t : Nat) : Bool := decide (t < 128) && (s.thr t).region.isNone

/-- The µs spent Waiting so far enter OBS_THR_CNT (R499). -/
def State.waitCount (s : State) (t : Nat) : State :=
  let th := s.thr t
  if th.state = 2 then
    let ns := th.waitRest + (s.clp.now - th.waitFrom)
    (s.setThr t { th with waitFrom := s.clp.now, waitRest := if th.region.isSome then th.waitRest else ns % 1000 }).on (s.thrCounts t) fun s =>
      s.count F.OBS_THR_CNT_COUNT (ns / 1000) t 1
  else s

/-- A thread changes its STATE; a wait that it was in has ended. -/
def State.setThrState (s : State) (t st : Nat) : State :=
  let s := (s.waitCount t).wdHold t
  s.setThr t { s.thr t with state := st, wait := none }

/-- A thread begins to wait (R303). -/
def State.enterWait (s : State) (t : Nat) (w : OclWait) : State :=
  let s := s.setThrState t 2
  s.setThr t { s.thr t with wait := some w, waitFrom := s.clp.now }

/-- The instruction of a thread has retired: it is Ready at the next address. -/
def State.retire (s : State) (t : Nat) : State :=
  let s := if (s.thr t).state = 2 then s.setThrState t 1 else s
  s.setThr t { s.thr t with pc := ((s.thr t).pc + 4) % 32768, retired := ((s.thr t).retired + 1) % 2 ^ 64 }

/-- WAIT_KIND (R303). -/
def OclWait.kind : OclWait → Nat
  | .push _ _ => 1
  | .pop _ _ _ => 2
  | .popw _ _ _ _ => 3
  | .waitt _ => 4
  | .tcmd _ => 5
  | .tfind _ _ _ => 5
  | .rnd _ => 6
  | .load _ _ _ => 7
  | .store _ _ _ => 7
  | .seal => 8

/-! ## The ends of a region (R292, R314–R316) -/

/-- A SPECULATIVE descriptor of a dropped region completes TX_SPEC_DROPPED (R314): its reservation is released. Cells that the region
took by halloc have been returned already (R316), so its completion frees only others. -/
def State.specDrop (s : State) (cells : List Nat) (i : SpecItem) : State :=
  let j := i.desc.chain
  let done (s : State) : State :=
    s.deliverTx (.runnel i.runnel) i.desc .txSpecDropped 0 noAsn 0 (i.frees && !cells.contains i.desc.cell)
  match i.frame with
  | none => done s
  | some id =>
    match s.txFrame j id with
    | some f =>
      let t := s.nearSeen.setFrames j ((s.tx j).frames.filter fun g => g.id != id)
      let t := ((t.coexEnd j f).weirRelease f.charged f.air).nearUpdate
      let still := i.near &&& t.fld F.CHT_STAT_NEAR_MASK
      (done (t.on (still != 0) fun s => s.raise F.CHT_EVT_NEAR)).idleTouch s j
    | none => s

/-- A descriptor of the inbox is a thread's own. -/
def Placed.isSpec (p : Placed) (t : Nat) : Bool := match p.origin with | .spec _ u => u == t | _ => false

/-- Every SPECULATIVE descriptor of a thread's region completes TX_SPEC_DROPPED (R314); the device frees nothing for one that R16 refuses. -/
def State.specsDrop (s : State) (t : Nat) (cells : List Nat) : State :=
  let mine := s.cht.specs.filter fun i => i.tid == t
  let late := s.cht.inbox.filter fun p => p.isSpec t
  let run (o : TxOrigin) : Nat := match o with | .spec n _ => n | _ => 0
  let items := mine ++ late.map fun p =>
    { tid := t, runnel := run p.origin, desc := p.desc, frees := p.desc.mode != 3 && p.desc.cellHi == 0 }
  let s := { s with cht := { s.cht with
    specs := s.cht.specs.filter fun i => i.tid != t, inbox := s.cht.inbox.filter fun p => !p.isSpec t } }
  items.foldl (fun s i => s.specDrop cells i) s

/-- The launch time of an approved descriptor is less than 20 µs ahead as the seal completes (R315). -/
def State.sealLate (s : State) (f : TxFrame) : Bool :=
  match f.launch with
  | some l => decide (l < s.fullNs + 20000)
  | none => false

/-- An approved SPECULATIVE descriptor is released at seal (R314, R315). -/
def State.specRelease (s : State) (t : Nat) (i : SpecItem) (f : TxFrame) : State :=
  let j := i.desc.chain
  let f := { f with origin := .runnel i.runnel, arrived := s.clp.now }
  let s := ((s.putTx j f).noteApproval f.charged).on (i.near != 0) fun s => s.raise F.CHT_EVT_NEAR
  if i.status = .txLate then s.completeTx j f .txLate
  else if s.sealLate f then (s.oclCount F.OCL_CNT_SEAL_LATE_COUNT t).completeTx j f .txLate
  else s.issueProtect j f

/-- What the charter stage decided of a SPECULATIVE descriptor takes effect at seal (R314). -/
def State.specSeal (s : State) (t : Nat) (i : SpecItem) : State :=
  let j := i.desc.chain
  match i.frame with
  | some id => match s.txFrame j id with
    | some f => s.specRelease t i f
    | none => s
  | none =>
    let s := match i.refusal with
      | some (e, r) => s.noteRefusal e r j i.desc.carrier false
      | none => s
    s.deliverTx (.runnel i.runnel) i.desc i.status 0 noAsn 0 i.frees

/-- A thread's SPECULATIVE descriptors are released at seal, in order; one that the charter stage has not taken yet goes there as an
ordinary one (R314). -/
def State.specsSeal (s : State) (t : Nat) : State :=
  let mine := s.cht.specs.filter fun i => i.tid == t
  let plain (p : Placed) : Placed := match p.origin with | .spec n u => if u = t then { p with origin := .runnel n, rank := some (2 + u) } else p | _ => p
  let s := { s with cht := { s.cht with specs := s.cht.specs.filter fun i => i.tid != t, inbox := s.cht.inbox.map plain } }
  mine.foldl (fun s i => s.specSeal t i) s

/-- A drop's effects outside the thread (R316): buffered effects are gone, cells return, descriptors complete, OCL_CNT_DROP counts. -/
def State.regionDrop (s : State) (t : Nat) : State :=
  match (s.thr t).region with
  | some r =>
    let s := s.setThr t { s.thr t with region := none }
    let s := r.cells.foldl (fun s c => s.freeChain c) s
    (s.specsDrop t r.cells).oclCount F.OCL_CNT_DROP_COUNT t
  | none => s

/-- A drop by an instruction of the region (R292): the registers and RETIRED return to their values at spb (R311), and execution goes on at the target. -/
def State.dropTo (s : State) (t cause : Nat) : State :=
  match (s.thr t).region with
  | some r =>
    let s := (s.regionDrop t).setThrState t 1
    s.setThr t { s.thr t with g := r.g, p := r.p, h := r.h, retired := r.retired, pc := r.target, dropCause := cause }
  | none => s

/-! ## Waking a cluster (R421) -/

/-- The start of a jet PLL. -/
def State.jetStart (s : State) (k : Nat) (again : Bool) : State :=
  { s with pwr := { s.pwr with jets := SMap.put s.pwr.jets k ⟨s.clp.now, again⟩ } }

/-- A stopped cluster restarts its clock (R421): its jet PLL starts. -/
def State.clusterStart (s : State) (c : Nat) : State :=
  match SMap.find? s.ocl.stopped c with
  | some a =>
    let o := { s.ocl with
      stopped := SMap.del s.ocl.stopped c, still := SMap.put s.ocl.still c (SMap.getD s.ocl.still c 0 + (s.clp.now - a)) }
    ({ s with ocl := o }.jetStart (3 + c) false).bump F.PWR_CNT_CL_WAKE_COUNT
  | none => s

/-- A write of an OCL register of a thread of cluster `c` wakes the cluster first (R421). -/
def State.oclWake (s : State) (c : Nat) : State := s.clusterStart c

/-! ## Thread commands (R301) -/

/-- The registers of OCL_THR_CTL_t. -/
def State.thrFld (s : State) (f : Fld) (t : Nat) : Nat := s.fld f (t / 32) (t % 32)

/-- An event of the cluster of a thread. -/
def State.oclEvent (s : State) (f : Fld) (t : Nat) : State := s.raise f (clusterOf t)

/-- A thread starts (R263, R301), its pc without the two bits that are ignored: registers and special registers at their reset values. -/
def State.thrInit (s : State) (t pc : Nat) : State :=
  let s := { s with ocl := { s.ocl with passes := s.ocl.passes.filter (· ≠ t) } }.setThrState t 1
  s.setThr t { state := 1, pc := pc % 32768 / 4 * 4, wdFrom := s.clp.now, waitRest := (s.thr t).waitRest }

/-- START (R301). -/
def State.thrStart (s : State) (t : Nat) : State :=
  if (s.thr t).state = 0 ∨ (s.thr t).state = 4 then
    ({ s with bot := { s.bot with stopped := false } }.regionDrop t).thrInit t (s.thrFld F.OCL_THR_CTL_START_PC t)
  else s.oclEvent F.OCL_CL_EVT_CTL_IGNORED t

/-- STOP (R301): any wait is abandoned, any open region dropped. -/
def State.thrStop (s : State) (t : Nat) : State :=
  let st := (s.thr t).state
  if 1 ≤ st ∧ st ≤ 4 then (s.regionDrop t).setThrState t 0 else s.oclEvent F.OCL_CL_EVT_CTL_IGNORED t

/-- HALT of a thread that runs (R301, R327): while sps performs effects the thread halts after the seal. -/
def State.haltNow (s : State) (t : Nat) : State :=
  match (s.thr t).wait, (s.thr t).region with
  | some .seal, some r => s.setThr t { s.thr t with region := some { r with halt := true } }
  | _, _ => s.setThrState t 3

/-- HALT (R301). -/
def State.thrHalt (s : State) (t : Nat) : State :=
  if (s.thr t).runs then s.haltNow t else s.oclEvent F.OCL_CL_EVT_CTL_IGNORED t

/-- A Halted thread goes on (R301, R322). -/
def State.resumeNow (s : State) (t : Nat) : State := (s.setThrState t 1).wdRestart t

/-- RESUME (R301). -/
def State.thrResume (s : State) (t : Nat) : State :=
  if (s.thr t).state = 3 then s.resumeNow t else s.oclEvent F.OCL_CL_EVT_CTL_IGNORED t

/-- A write of OCL_THR_CTL_t (R301, R556): its fields, then its commands in bit order. -/
def State.thrCtlWrite (s : State) (t : Nat) (d : Word) : State :=
  let s := s.setReg .OCL_THR_CTL (t / 32) (t % 32) (d &&& 0x7FFF30)
  let s := s.on (d.getLsbD 0) fun s => s.thrStart t
  let s := s.on (d.getLsbD 1) fun s => s.thrStop t
  let s := s.on (d.getLsbD 2) fun s => s.thrHalt t
  s.on (d.getLsbD 3) fun s => s.thrResume t

/-- THR_START (R301): a write of OCL_THR_CTL_t with START set. -/
def execThrStart (t : Nat) (d : Word) (s : State) : Out := .next (s.powered fun s => (s.oclWake (t % 128 / 32)).thrCtlWrite (t % 128) (d &&& ~~~14 ||| 1))
/-- THR_STOP (R301). -/
def execThrStop (t : Nat) (d : Word) (s : State) : Out := .next (s.powered fun s => (s.oclWake (t % 128 / 32)).thrCtlWrite (t % 128) (d &&& ~~~13 ||| 2))
/-- THR_HALT (R301). -/
def execThrHalt (t : Nat) (d : Word) (s : State) : Out := .next (s.powered fun s => (s.oclWake (t % 128 / 32)).thrCtlWrite (t % 128) (d &&& ~~~11 ||| 4))
/-- THR_RESUME (R301). -/
def execThrResume (t : Nat) (d : Word) (s : State) : Out := .next (s.powered fun s => (s.oclWake (t % 128 / 32)).thrCtlWrite (t % 128) (d &&& ~~~7 ||| 8))

/-- OCL_THR_STAT_t, and OCL_J_STAT without its WAIT_KIND (R328). -/
def State.thrStat (s : State) (t : Nat) : Word :=
  let th := s.thr t
  let kind := match th.wait with | some w => w.kind | none => 0
  let flags (n : Nat) : Nat := (if th.exc then 2 ^ n else 0) + (if th.region.isSome then 2 ^ (n + 1) else 0)
  BitVec.ofNat 64 (th.state + th.pc % 32768 * 2 ^ 16 + if t < 128 then 8 * kind + flags 7 else flags 3)

/-- A write of OCL_WD_t or OCL_J_WD (R322). -/
def State.wdWrite (s : State) (t : Nat) (d : Word) : State :=
  let s := s.wdHold t
  let v := d &&& 0xFFFFF001
  if t < 128 then s.setReg .OCL_WD (t / 32) (t % 32) v else s.setReg .OCL_J_WD 0 0 v

/-- OCL_WD_t and OCL_J_WD with STAGE (R328). -/
def State.wdRead (s : State) (t : Nat) : Word :=
  (if t < 128 then s.reg .OCL_WD (t / 32) (t % 32) else s.reg .OCL_J_WD 0 0) ||| (if (s.thr t).stage then 2 else 0)

/-- OCL_WD_CNT_t (R328). -/
def State.wdCnt (s : State) (t : Nat) : Word := BitVec.ofNat 64 (s.wdNs t / 1000 % 2 ^ 20 + (s.thr t).expiries % 256 * 2 ^ 24)

/-! ## Debug (R321, R326) -/

/-- The register that REG selects (OCL_DBG_SEL_t). -/
def State.dbgRead (s : State) (t r : Nat) : Word :=
  let th := s.thr t
  if r < 32 then th.reg r
  else if r < 40 then th.handle (r - 32)
  else if r = 40 then BitVec.ofNat 64 (th.p % 256)
  else if r = 41 then BitVec.ofNat 64 th.pc
  else if 64 ≤ r then s.special t (r - 64)
  else 0

/-- A write of the register that REG selects. -/
def State.dbgSet (s : State) (t r : Nat) (v : Word) : State :=
  let th := s.thr t
  if r < 32 then s.setThr t (th.setReg r v)
  else if r < 40 then s.setThr t (th.setHandle (r - 32) v)
  else if r = 40 then s.setThr t (th.setSpecial 11 v)
  else if r = 41 then s.setThr t { th with pc := v.toNat % 32768 }
  else if r = 76 then s.wdKick t
  else if 64 ≤ r then s.setThr t (th.setSpecial (r - 64) v)
  else s

/-- A read of OCL_DBG_DATA_t (R321): valid while the thread is Halted or in Fault. -/
def State.dbgDataRead (s : State) (t : Nat) : Word × State :=
  if (s.thr t).state = 3 ∨ (s.thr t).state = 4 then (s.dbgRead t (s.thrFld F.OCL_DBG_SEL_REG t), s)
  else (0, s.oclEvent F.OCL_CL_EVT_DBG_IGNORED t)

/-- A write of OCL_DBG_DATA_t (R321): takes effect while the thread is Halted. -/
def State.dbgDataWrite (s : State) (t : Nat) (d : Word) : State :=
  if (s.thr t).state = 3 then s.dbgSet t (s.thrFld F.OCL_DBG_SEL_REG t) d else s.oclEvent F.OCL_CL_EVT_DBG_IGNORED t

/-- DBG_DATA_WRITE (R321). -/
def execDbgDataWrite (t : Nat) (d : Word) (s : State) : Out := .next (s.powered fun s => (s.oclWake (t % 128 / 32)).dbgDataWrite (t % 128) d)

/-- UNLOCKED of GRT_STAT (R258). -/
def State.unlocked (s : State) : Bool := s.jtagOpen

/-- A read of OCL_J_DBG_DATA (R326). -/
def State.jDbgDataRead (s : State) : Word × State :=
  if s.unlocked && ((s.thr 129).state == 3 || (s.thr 129).state == 4) then (s.dbgRead 129 (s.fld F.OCL_J_DBG_SEL_REG), s)
  else (0, s.raise F.OCL_CL_EVT_DBG_IGNORED)

/-- A write of OCL_J_DBG_DATA (R326). -/
def State.jDbgDataWrite (s : State) (d : Word) : State :=
  if s.unlocked && (s.thr 129).state == 3 then s.dbgSet 129 (s.fld F.OCL_J_DBG_SEL_REG) d else s.raise F.OCL_CL_EVT_DBG_IGNORED

/-- RESUME of OCL_J_DBG_SEL (R485): none for a Jomuter stopped by its boot ROM. -/
def State.jResume (s : State) : State := if (s.thr 129).state = 3 ∧ s.bot.romHalt = false then s.resumeNow 129 else s

/-- HALT of OCL_J_DBG_SEL (R301). -/
def State.jHalt (s : State) : State := if (s.thr 129).runs then s.haltNow 129 else s

/-- A write of OCL_J_DBG_SEL (R326): only while UNLOCKED. -/
def State.jDbgSelWrite (s : State) (d : Word) : State :=
  if s.unlocked then
    let s := s.setReg .OCL_J_DBG_SEL 0 0 (d &&& 0x47F)
    (s.on (d.getLsbD 8) State.jHalt).on (d.getLsbD 9) State.jResume
  else s.raise F.OCL_CL_EVT_DBG_IGNORED

/-- J_DBG_HALT (R326): a write of OCL_J_DBG_SEL with HALT set. -/
def execJDbgHalt (d : Word) (s : State) : Out := .next (s.powered fun s => s.jDbgSelWrite (d &&& ~~~0x200 ||| 0x100))
/-- J_DBG_RESUME (R326). -/
def execJDbgResume (d : Word) (s : State) : Out := .next (s.powered fun s => s.jDbgSelWrite (d &&& ~~~0x100 ||| 0x200))

end Sys2Proof.Machine
end

