-- ==== Sys2Proof/Machine/Boot.lean ====
section
/-! DEFINITION. Boot, firmware reservoirs and settings (R476–R496): the boot header, the checks of an image, the cold boot and the warm
activation: commands 325 and 326. -/

namespace Sys2Proof.Machine

/-! ## Images (R476–R479) -/

/-- The first flash address of a reservoir: 0 A, 1 B (R403). -/
def reservoirBase (r : Nat) : Nat := if r = 0 then 0x01000000 else 0x03000000

/-- The flash address of payload offset `p` of a reservoir (R476). -/
def payloadAddr (r p : Nat) : Nat := reservoirBase r + p / 65532 * 65536 + p % 65532

/-- `n` payload bytes from offset `p` on. -/
def State.payload (s : State) (r p n : Nat) : List Byte := (List.range n).map fun k => s.flashByte (payloadAddr r (p + k))

/-- A little-endian field of the payload. -/
def State.payloadNat (s : State) (r p n : Nat) : Nat := ofLe (s.payload r p n)

/-- The CRC of a block is correct (R476). -/
def State.blockOk (s : State) (r b : Nat) : Bool :=
  leBytes 4 (crc32c (s.flashBytes (reservoirBase r + 65536 * b) 65532)) == s.flashBytes (reservoirBase r + 65536 * b + 65532) 4

/-- A section entry (R478). -/
structure ImgSection where
  kind   : Nat
  target : Nat
  dest   : Nat
  src    : Nat
  len    : Nat
  sha    : List Byte

/-- The section table of the image in a reservoir. -/
def State.sections (s : State) (r : Nat) : List ImgSection :=
  (List.range (s.payloadNat r 6 2)).map fun k =>
    let o := 192 + 48 * k
    { kind := s.payloadNat r o 1, target := s.payloadNat r (o + 1) 1, dest := s.payloadNat r (o + 4) 4,
      src := s.payloadNat r (o + 8) 4, len := s.payloadNat r (o + 12) 4, sha := s.payload r (o + 16) 32 }

/-- The section is loaded (R478). -/
def ImgSection.loaded (x : ImgSection) : Bool := decide (1 ≤ x.kind) && decide (x.kind ≤ 5)

/-- The memory a loaded section goes to. -/
def ImgSection.mem (x : ImgSection) : Nat :=
  match x.kind with
  | 1 => 42 + x.target
  | 2 => 10 + x.target
  | 3 => 74 + x.target
  | 4 => 9
  | _ => 8

/-- KIND and TARGET are in range (R478). -/
def ImgSection.named (x : ImgSection) : Bool :=
  match x.kind with
  | 1 => decide (x.target < 32)
  | 2 => decide (x.target < 32)
  | 3 => decide (x.target < 4)
  | _ => decide (x.kind ≤ 6) && x.target == 0

/-- Check 1 of R484. -/
def State.checkShape (s : State) (r : Nat) : Bool :=
  let n := s.payloadNat r 6 2
  let len := s.payloadNat r 8 4
  let blocks := len / 65536
  s.payload r 0 5 == [0x47, 0x4C, 0x49, 0x4D, 0x01] && decide (1 ≤ n) && decide (n ≤ 64) && len % 65536 == 0 &&
    decide (1 ≤ blocks) && decide (blocks ≤ 512) && decide (s.payloadNat r 5 1 ≤ 3) &&
    (s.sections r).all fun x => x.named && decide (x.src + x.len ≤ 65532 * blocks) &&
      (!x.loaded || decide (x.dest + x.len ≤ 8 * (memWords x.mem).getD 0))

/-- The image digest (R479). -/
def State.imageDigest (s : State) (r : Nat) : List Byte :=
  sha256 (s.payload r 0 116 ++ List.replicate 64 0 ++ s.payload r 180 (12 + 48 * s.payloadNat r 6 2))

/-- SHA-256 of PUBKEY. -/
def State.keyHash (s : State) (r : Nat) : Nat := ofBe (sha256 (s.payload r 52 64))

/-- Check 3 of R484 (R480, R481). -/
def State.checkKey (s : State) (r : Nat) : Bool :=
  let k := s.payloadNat r 5 1
  s.bot.owners.isEmpty || (!s.bot.revoked.contains k && SMap.find? s.bot.owners k == some (s.keyHash r))

/-- Check 4 of R484. -/
def State.checkSig (s : State) (r : Nat) : Bool :=
  ecdsaVerify (ofBe (s.payload r 52 32)) (ofBe (s.payload r 84 32)) (s.imageDigest r) (ofBe (s.payload r 116 32))
    (ofBe (s.payload r 148 32))

/-- The digest of a section matches. -/
def State.sectionOk (s : State) (r : Nat) (x : ImgSection) : Bool := sha256 (s.payload r x.src x.len) == x.sha

/-- Two sections write a byte in common. -/
def ImgSection.overlaps (x y : ImgSection) : Bool :=
  x.mem == y.mem && decide (0 < x.len) && decide (0 < y.len) && decide (x.dest < y.dest + y.len) && decide (y.dest < x.dest + x.len)

/-- No two of a list of sections write the same byte. -/
def noOverlap : List ImgSection → Bool
  | [] => true
  | x :: xs => xs.all (fun y => !x.overlaps y) && noOverlap xs

/-- Check 6 of R484. -/
def State.checkLoad (s : State) (r : Nat) : Bool :=
  let xs := (s.sections r).filter ImgSection.loaded
  decide ((xs.map ImgSection.len).sum ≤ 6 * 2 ^ 20) && noOverlap xs

/-- Check 7 of R484. -/
def State.checkRevoke (s : State) (r : Nat) : Bool := !(s.payloadNat r 18 1).testBit (s.payloadNat r 5 1)

/-- The checks of a cold boot, in order (R484): the code of the first that fails, 0 for none. -/
def State.checkCold (s : State) (r : Nat) : Nat :=
  if !s.checkShape r then 1
  else if !(List.range (s.payloadNat r 8 4 / 65536)).all (s.blockOk r) then 2
  else if !s.checkKey r then 3
  else if !s.checkSig r then 4
  else if !(s.sections r).all (s.sectionOk r) then 5
  else if !s.checkLoad r then 6
  else if !s.checkRevoke r then 7
  else 0

/-- The checks of step 1 of an activation (R489): codes 1, 3, 4, 6 and 7. -/
def State.checkWarm (s : State) (r : Nat) : Nat :=
  if !s.checkShape r then 1
  else if !s.checkKey r then 3
  else if !s.checkSig r then 4
  else if !s.checkLoad r then 6
  else if !s.checkRevoke r then 7
  else 0

/-! ## Owner keys (R480–R482) -/

/-- A hash is blown into an owner slot, unless the slot is PROGRAMMED. -/
def State.blowKey (s : State) (slot hash : Nat) : State :=
  if (SMap.find? s.bot.owners slot).isSome then s else { s with bot := { s.bot with owners := SMap.put s.bot.owners slot hash } }

/-- The first key (R481). -/
def State.firstKey (s : State) (r : Nat) : State :=
  if s.bot.owners.isEmpty then s.blowKey (s.payloadNat r 5 1) (s.keyHash r) else s

/-- The key actions of an image whose reservoir is GOOD (R482). -/
def State.keyActions (s : State) (r : Nat) : State :=
  let add := s.payloadNat r 19 1
  let revoke := s.payloadNat r 18 1
  let s := if add ≤ 3 then s.blowKey add (ofBe (s.payload r 20 32)) else s
  (List.range 4).foldl (fun s k =>
    if revoke.testBit k && !s.bot.revoked.contains k then { s with bot := { s.bot with revoked := s.bot.revoked ++ [k] } } else s) s

/-- The key actions of an image that boots, where its reservoir is GOOD. -/
def State.keyActionsIf (s : State) (r : Nat) (good : Bool) : State := if good then s.keyActions r else s

/-! ## The boot header (R483) -/

/-- A boot header. -/
structure BootHdr where
  gen    : Nat
  active : Nat
  states : Nat × Nat
  tries  : Nat
  dgA    : List Byte
  dgB    : List Byte

/-- The address of a copy of the boot header. -/
def bootCopy (k : Nat) : Nat := if k = 0 then 0 else 0x80000

/-- A copy of the boot header, if it is valid. -/
def State.bootHdrAt (s : State) (k : Nat) : Option BootHdr :=
  let b := s.flashBytes (bootCopy k) 84
  let at_ (o n : Nat) : List Byte := (b.drop o).take n
  let gen := ofLe (at_ 4 4)
  if at_ 0 4 == [0x47, 0x4C, 0x42, 0x48] && at_ 80 4 == leBytes 4 (crc32c (b.take 80)) && gen != 0xFFFFFFFF then
    some { gen := gen, active := ofLe (at_ 8 1), states := (ofLe (at_ 9 1), ofLe (at_ 10 1)), tries := ofLe (at_ 11 1),
           dgA := at_ 16 32, dgB := at_ 48 32 }
  else none

/-- The boot header in force, and which copy it is. -/
def State.bootHdr (s : State) : Option (Nat × BootHdr) :=
  match s.bootHdrAt 0, s.bootHdrAt 1 with
  | some a, some b => if a.gen < b.gen then some (1, b) else some (0, a)
  | some a, none => some (0, a)
  | none, some b => some (1, b)
  | none, none => none

/-- The 84 bytes of a boot header. -/
def BootHdr.bytes (h : BootHdr) : List Byte :=
  let body := [0x47, 0x4C, 0x42, 0x48] ++ leBytes 4 h.gen ++ leBytes 1 h.active ++ leBytes 1 h.states.1 ++ leBytes 1 h.states.2 ++
    leBytes 1 h.tries ++ leBytes 4 0 ++ h.dgA ++ h.dgB
  body ++ leBytes 4 (crc32c body)

/-- A write of the boot header: the other copy is erased and programmed with GENERATION one higher. -/
def State.writeHdr (s : State) (k : Nat) (h : BootHdr) : State :=
  let a := bootCopy (1 - k)
  (s.flashErase a 4096).flashProgram a { h with gen := h.gen + 1 }.bytes

/-- The STATE of a reservoir. -/
def BootHdr.state (h : BootHdr) (r : Nat) : Nat := if r = 0 then h.states.1 else h.states.2

/-- The header with the STATE of a reservoir set. -/
def BootHdr.setState (h : BootHdr) (r v : Nat) : BootHdr := { h with states := if r = 0 then (v, h.states.2) else (h.states.1, v) }

/-- The header in force is rewritten by `f`, if there is one. -/
def State.editHdr (s : State) (f : BootHdr → BootHdr) : State :=
  match s.bootHdr with
  | some (k, h) => s.writeHdr k (f h)
  | none => s

/-! ## Settings and entry (R486, R491) -/

/-- A settings copy that is valid: GENERATION, FORMAT, and the address of its body. -/
def State.settingsAt (s : State) (a : Nat) : Option (Nat × Nat × Nat) :=
  let b := s.flashBytes a 32
  let at_ (o n : Nat) : List Byte := (b.drop o).take n
  let gen := ofLe (at_ 4 4)
  let len := ofLe (at_ 12 4)
  if at_ 0 4 == [0x47, 0x4C, 0x53, 0x54] && at_ 28 4 == leBytes 4 (crc32c (b.take 28)) && gen != 0xFFFFFFFF &&
      decide (len + 32 ≤ 2 ^ 20) && at_ 16 4 == leBytes 4 (crc32c (s.flashBytes (a + 32) len)) then
    some (gen, ofLe (at_ 8 2), a + 32)
  else none

/-- FORMAT and body of the selected settings copy. -/
def State.settings (s : State) : Option (Nat × Nat) :=
  match s.settingsAt 0x00D00000, s.settingsAt 0x00E00000 with
  | some a, some b => some (if a.1 < b.1 then b.2 else a.2)
  | some a, none => some a.2
  | none, some b => some b.2
  | none, none => none

/-- Bytes are loaded into a memory: whole words, and a word covered in part at either end; one of these that is uncorrectable takes
nothing (R444; DESIGN CHOICE, log entry 147). -/
def State.loadBytes (s : State) (m o : Nat) (bs : List Byte) : State :=
  let n := (8 - o % 8) % 8
  let body := bs.drop n
  let k := body.length / 8 * 8
  let s := (s.memStore m o (bs.take n)).2
  let s := (s.memStore m (o + n) (body.take k)).2
  (s.memStore m (o + n + k) (body.drop k)).2

/-- One section is loaded. -/
def State.loadSection (s : State) (r : Nat) (x : ImgSection) : State := s.loadBytes x.mem x.dest (s.payload r x.src x.len)

/-- Every loaded section is loaded (R486). -/
def State.loadAll (s : State) (r : Nat) : State := ((s.sections r).filter ImgSection.loaded).foldl (fun s x => s.loadSection r x) s

/-- The image of a reservoir is entered (R486, R491): OCL_J_BOOT, g1 and g2, and the Jomuter code at address 0. An image without a KIND 6
section leaves the address of its defaults unstated. -/
def State.enter (s : State) (r : Nat) (warm fallback : Bool) (result : Nat) : State :=
  let fmt := s.payloadNat r 16 2
  let body := match s.settings with | some (f, a) => if f = fmt then some a else none | none => none
  let (v, s) := s.fresh
  let dflt := match (s.sections r).find? fun x => x.kind == 6 with
    | some x => payloadAddr r x.src
    | none => v
  let s := { s with bot := { s.bot with digest := s.imageDigest r, booted := true, romRun := false } }
  let s := (((s.setFld F.OCL_J_BOOT_RES r).setFld F.OCL_J_BOOT_WARM (cond warm 1 0)).setFld F.OCL_J_BOOT_FALLBACK
    (cond fallback 1 0)).setFld F.OCL_J_BOOT_RESULT result
  let s := ((s.setFld F.OCL_J_BOOT_DEFAULTS (if body.isNone then 1 else 0)).setFld F.OCL_J_BOOT_KEY_SLOT
    (s.payloadNat r 5 1)).setFld F.OCL_J_BOOT_SETTINGS_FMT fmt
  let s := if body.isNone then s.siltPost 3 fmt else s
  let s := (s.regionDrop 129).thrInit 129 0
  s.setThr 129 (((s.thr 129).setReg 1 (BitVec.ofNat 64 (body.getD dflt))).setReg 2 (BitVec.ofNat 64 (s.payloadNat r 12 4)))

/-- No image boots (R485): Jomuter stops Halted at PC 0. -/
def State.romStop (s : State) : State :=
  let s := ((s.regionDrop 129).thrInit 129 0).setThrState 129 3
  { s with bot := { s.bot with booted := true, romHalt := true, romRun := false } }

/-! ## The cold boot (R485) -/

/-- A failed check is recorded (R485, R490). -/
def State.bootFail (s : State) (r code : Nat) : State := (s.setFld F.OCL_J_BOOT_RESULT code).siltPost 2 (8 * r + code)

/-- A reservoir is checked: the first key is blown once the signature has verified (R481); a failure is recorded. -/
def State.tryCold (s : State) (r : Nat) : Bool × State :=
  let code := s.checkCold r
  let s := if code = 0 ∨ 5 ≤ code then s.firstKey r else s
  if code = 0 then (true, s) else (false, s.bootFail r code)

/-- A reservoir that has passed is loaded and entered. -/
def State.bootFrom (s : State) (r : Nat) (good fallback : Bool) : State :=
  ((s.keyActionsIf r good).loadAll r).enter r false fallback (s.fld F.OCL_J_BOOT_RESULT)

/-- The second choice, where it may boot. -/
def State.bootOther (s : State) (r : Nat) : State :=
  match s.bootHdr with
  | some (_, h) =>
    if h.state r = 3 then
      let (ok, s) := s.tryCold r
      if ok then s.bootFrom r true true else (s.editHdr fun h => h.setState r 4).romStop
    else s.romStop
  | none => s.romStop

/-- The cold boot with a valid header: its choice, then the other reservoir. -/
def State.bootHeaded (s : State) (h : BootHdr) : State :=
  let r := h.active % 2
  let st := h.state r
  let spent := st == 2 && h.tries == 0
  let s := if st = 2 ∧ h.tries ≠ 0 then s.editHdr fun h => { h with tries := h.tries - 1 } else s
  if (st = 2 ∨ st = 3) ∧ spent = false then
    let (ok, s) := s.tryCold r
    if ok then s.bootFrom r (st == 3) false else (s.editHdr fun h => h.setState r 4).bootOther (1 - r)
  else (s.editHdr fun h => h.setState r 4).bootOther (1 - r)

/-- The cold boot without a valid header: Reservoir A, then Reservoir B. -/
def State.bootBare (s : State) : State :=
  let (ok, s) := s.tryCold 0
  if ok then s.bootFrom 0 false false
  else
    let (ok, s) := s.tryCold 1
    if ok then s.bootFrom 1 false true else s.romStop

/-- The boot ROM makes its choice (R485): with no flash device that the port can use, none boots. -/
def State.romBoot (s : State) : State :=
  if s.fld F.FLS_STAT_MODE = 0 then s.romStop
  else match s.bootHdr with
    | some (_, h) => s.bootHeaded h
    | none => s.bootBare

/-- Jomuter starts in its boot ROM, once after a full reset (R434). -/
def State.romStart (s : State) : State :=
  if s.bot.romRun then s else { s.thrInit 129 0 with bot := { s.bot with romRun := true } }

/-- BOOT_ROM_START (R434, R485): once after each full reset, when its private memory is ready, Jomuter starts in its boot ROM, which goes on once
the flash port's discovery is complete. -/
def execBootRomStart (dt : Nat) (s : State) : Out :=
  if s.pwr.phase = .run ∧ s.bot.booted = false ∧ s.memReady 8 = true then
    let s := (s.after dt).romStart
    .next (s.on s.fls.discovered State.romBoot)
  else .next s

/-! ## Activation (R488–R490) -/

/-- A section whose block CRC or digest fails while it is loaded leaves its target bytes unstated. -/
def State.loadTorn (s : State) (x : ImgSection) : State :=
  let (bs, s) := (List.range x.len).foldl (fun (p : List Byte × State) _ =>
    let (v, s) := p.2.fresh
    (p.1 ++ [BitVec.ofNat 8 v], s)) ([], s)
  s.loadBytes x.mem x.dest bs

/-- The blocks that hold a section. -/
def ImgSection.blocks (x : ImgSection) : List Nat :=
  if x.len = 0 then [] else (List.range ((x.src + x.len - 1) / 65532 + 1 - x.src / 65532)).map (x.src / 65532 + ·)

/-- Step 3 of R489: sections are loaded in table order, each with its checks; the code of the first that fails. -/
def State.loadWarm (s : State) (r : Nat) : List ImgSection → Nat × State
  | [] => (0, s)
  | x :: xs =>
    if !x.blocks.all (s.blockOk r) then (2, s.loadTorn x)
    else if !s.sectionOk r x then (5, s.loadTorn x)
    else (s.loadSection r x).loadWarm r xs

/-- A beacon or an acknowledgement. -/
def TxOrigin.ofSlot : TxOrigin → Bool
  | .beacon _ => true
  | .ack _ => true
  | _ => false

/-- Beacons and acknowledgements that have not reached RF when the threads stop are not sent (R496); they end as other aborted frames do, INTERNAL
(DESIGN CHOICE, log entry 161). -/
def State.stopFrames (s : State) : State :=
  let waiting := s.cht.inbox.filter fun p => p.origin.ofSlot
  let s := s.setInbox (s.cht.inbox.filter fun p => !p.origin.ofSlot)
  let s := waiting.foldl (fun s p => s.deliverTx p.origin p.desc .internal 0 noAsn 0 true) s
  (List.range 16).foldl (fun s j =>
    ((s.tx j).frames.filter fun f => f.origin.ofSlot && decide (f.stage ≠ .radiating)).foldl (fun s f => s.yieldFrame j f) s) s

/-- Every Ocell thread stops (R489, step 2). -/
def State.stopAll (s : State) : State :=
  let s := (List.range 128).foldl (fun s t =>
    if 1 ≤ (s.thr t).state ∧ (s.thr t).state ≤ 4 then (s.regionDrop t).setThrState t 0 else s)
    { s with bot := { s.bot with stopped := true } }
  s.stopFrames

/-- A reservoir may boot: it is neither EMPTY nor BAD (R487). -/
def State.bootable (s : State) (r : Nat) : Bool :=
  match s.bootHdr with
  | some (_, h) => h.state r != 0 && h.state r != 4
  | none => false

/-- Step 3 for a reservoir: block 0 is checked with the rest. -/
def State.warmLoad (s : State) (r : Nat) : Nat × State :=
  if !s.checkShape r then (1, s)
  else if !s.blockOk r 0 then (2, s)
  else s.loadWarm r ((s.sections r).filter ImgSection.loaded)

/-- The warm path from step 2 on (R489, R490); where step 3 fails and the other reservoir may not boot either, none does (R487). -/
def State.warmGo (s : State) (r : Nat) (good : Bool) : State :=
  let (code, s) := (s.firstKey r).stopAll.warmLoad r
  if code = 0 then (s.keyActionsIf r good).enter r true false (s.fld F.OCL_J_BOOT_RESULT)
  else
    let s := (s.bootFail r code).editHdr fun h => { h.setState r 4 with active := 1 - r }
    if !s.bootable (1 - r) then s.romStop else
    let (code2, s) := s.warmLoad (1 - r)
    let other := match s.bootHdr with | some (_, h) => h.state (1 - r) == 3 | none => false
    if code2 = 0 then (s.keyActionsIf (1 - r) other).enter (1 - r) true true code else (s.bootFail (1 - r) code2).romStop

/-- A write of OCL_J_BOOT (R488, R489): only Jomuter (requester 129) can write it. Step 1 may fail without a code of R484: with another
digest than the header's, or with no reservoir to boot. In the power-fail sequence Jomuter runs on, and so does the warm path (R428, R496). -/
def State.jBootWrite (s : State) (req : Nat) (d : Word) : State :=
  if req = 129 ∧ d.getLsbD 0 = true ∧ (s.pwr.phase = .run ∨ s.pwr.phase = .failing) then
    match s.bootHdr with
    | some (_, h) =>
      let r := h.active % 2
      let code := s.checkWarm r
      let (v, s) := s.fresh
      let digest := if r = 0 then h.dgA else h.dgB
      if code ≠ 0 then s.setFld F.OCL_J_BOOT_RESULT code
      else if h.state r = 0 ∨ h.state r = 4 ∨ s.imageDigest r ≠ digest then s.setFld F.OCL_J_BOOT_RESULT v
      else s.warmGo r (h.state r == 3)
    | none =>
      let (v, s) := s.fresh
      s.setFld F.OCL_J_BOOT_RESULT v
  else s

/-- ACTIVATE (R488, R489): a requester's write of OCL_J_BOOT with ACTIVATE set; the warm path takes `dt` ns. -/
def execActivate (dt req : Nat) (s : State) : Out := .next ((s.after dt).powered fun s => s.jBootWrite req 1)

end Sys2Proof.Machine
end

