-- ==== Sys2Proof/Machine/Silt.lean ====
section
/-! DEFINITION. The Silt recorder's ring in flash (R512–R516): flushes of the buffer, erasing ahead, the scan at start-up. Posts and the
buffer are in Ops. -/

namespace Sys2Proof.Machine

/-- The bytes cut into pieces of 32. -/
def pieces32 : Nat → List Byte → List (List Byte)
  | 0, _ => []
  | n + 1, bs => bs.take 32 :: pieces32 n (bs.drop 32)

/-- The records in a program of the recorder: its pieces but a sector's header. -/
def FlsOp.records (w : FlsOp) : List (List Byte) :=
  let ps := pieces32 (w.data.length / 32) w.data
  if w.addr % 4096 = 0 then ps.drop 1 else ps

/-- Work of the Silt recorder. -/
def FlsOp.isSilt (w : FlsOp) : Bool := w.src == 0 || w.src == 3

/-! ## Erasing ahead (R514) -/

/-- A sector of the ring holds nothing. -/
def State.sectorErased (s : State) (k : Nat) : Bool :=
  s.fls.bytes.all fun e => decide (e.1 < siltSector k) || decide (siltSector k + 4096 ≤ e.1)

/-- An erase of a sector of the ring runs or waits. -/
def State.erasing (s : State) (k : Nat) : Bool :=
  let f (w : FlsOp) : Bool := w.isSilt && w.kind == .erase4k && w.addr == siltSector k
  s.fls.waiting.any f || s.fls.busy.any f || s.fls.suspended.any f

/-- The 18 sectors ahead of the write point are erased, the oldest first (R514). -/
def State.eraseAhead (s : State) : State :=
  (List.range 18).foldl (fun s i =>
    let k := (s.siltAt.1 + 1 + i) % 1024
    if s.sectorErased k || s.erasing k then s
    else s.flsSubmit { src := 3, kind := .erase4k, addr := siltSector k }) s

/-! ## Flushes (R513, R515, R516) -/

/-- A flush starts (R513); in the power-fail sequence it is the power-fail flush. -/
def State.siltStart (s : State) : State := (s.flushAsk).siltLoad.flsServe

/-- No work of the flush is left at the flash port. -/
def State.siltIdle (s : State) : Bool :=
  let f (w : FlsOp) : Bool := w.isSilt && w.kind == .program
  !(s.obs.unread || s.fls.waiting.any f || s.fls.busy.any f)

/-- A program of the recorder ended well: the write point moves past its records (R514). -/
def State.siltProgrammed (s : State) (w : FlsOp) : State :=
  let slot := (w.addr % 4096 + w.data.length) / 32 - 1
  let sector := s.siltAt.1
  if slot = 127 then
    ({ s with obs := { s.obs with sectorSeq := (s.obs.sectorSeq + 1) % 2 ^ 32 } }.setSiltAt ((sector + 1) % 1024) 0).eraseAhead
  else s.setSiltAt sector slot

/-- A program of the recorder failed (R516): the sector is abandoned, and its records and those still to come go to the next. -/
def State.siltFailed (s : State) (w : FlsOp) : State :=
  let mine (x : FlsOp) : Bool := x.isSilt && x.kind == .program
  let rs := w.records ++ (s.fls.waiting.filter mine).flatMap FlsOp.records
  let s := { s with
    fls := { s.fls with waiting := s.fls.waiting.filter fun x => !mine x }
    obs := { s.obs with sectorSeq := (s.obs.sectorSeq + 1) % 2 ^ 32 } }
  (((s.setSiltAt ((s.siltAt.1 + 1) % 1024) 0).raise F.OBS_EVT_FLUSH_FAIL).siltSubmit w.src rs).flsServe.eraseAhead

/-- The recorder's operation at the flash port ended. -/
def State.siltOpDone (s : State) (w : FlsOp) (fail : Bool) : State :=
  if w.kind = .program then (if fail then s.siltFailed w else s.siltProgrammed w) else s

/-- The flush is complete (R513): its records leave the buffer; a code-273 record follows for records lost. In the power-fail sequence it goes
on until every buffered record is written (R515, R516); a flush that was asked for meanwhile starts. -/
def State.siltDone (s : State) : State :=
  let n := s.obs.flushing
  let s := { s with obs := { s.obs with
    bufHead := (s.obs.bufHead + n) % 2048, bufCount := s.obs.bufCount - n, bufSince := s.obs.bufNext.getD s.clp.now, flushing := 0 } }
  let s := (s.setFld F.OBS_SILT_STAT_BUFFERED s.obs.bufCount).setFld F.OBS_STAT_FLUSHING 0
  if s.pwr.phase = .failing ∧ 0 < s.obs.bufCount then s.siltStart
  else
    let s := (s.raise F.OBS_EVT_FLUSH_DONE).flsServe
    let k := s.obs.lost
    let s := s.on (decide (k ≠ 0)) fun s => { s with obs := { s.obs with lost := 0 } }.siltPost 273 k
    s.on s.obs.flushReq State.siltStart

/-- A power-fail flush (R428, R516): a routine flush that runs goes on as one. -/
def State.siltPfail (s : State) : State :=
  let up (w : FlsOp) : FlsOp := if w.src = 3 ∧ w.kind = .program then { w with src := 0 } else w
  if s.flag F.OBS_STAT_FLUSHING then
    let s := s.siltLoad
    { s with fls := { s.fls with waiting := s.fls.waiting.map up, busy := s.fls.busy.map up } }.suspendErase.flsServe
  else s.siltStart

/-! ## The scan at start-up (R512) -/

/-- A record slot of the ring: its bytes. -/
def State.siltSlot (s : State) (sector slot : Nat) : List Byte := s.flashBytes (siltSector sector + 32 + 32 * slot) 32

/-- The record's CRC holds. -/
def siltValid (r : List Byte) : Bool := leBytes 4 (crc32c (r.take 28)) == r.drop 28

/-- A sector's SECTOR_SEQ, where its header is valid. -/
def State.sectorSeqOf (s : State) (k : Nat) : Option Nat :=
  let h := s.flashBytes (siltSector k) 32
  if h.take 4 = [0x47, 0x4C, 0x53, 0x52] ∧ leBytes 4 (crc32c (h.take 28)) = h.drop 28 then some (ofLe ((h.drop 4).take 4)) else none

/-- The sector written last: the one with the highest SECTOR_SEQ, with it. -/
def State.lastSector (s : State) : Option (Nat × Nat) :=
  (List.range 1024).foldl (fun best k =>
    match s.sectorSeqOf k, best with
    | some q, some (_, b) => if b < q then some (k, q) else best
    | some q, none => some (k, q)
    | none, b => b) none

/-- The last valid record of a sector (R512); a slot that is unwritten or torn is none. -/
def State.newestIn (s : State) (k : Nat) : Option (List Byte) :=
  ((List.range 127).filterMap fun r =>
    let b := s.siltSlot k r
    if (b.all fun x => x == flashErased) || !siltValid b then none else some b).getLast?

/-- The first slot of a sector after its last written one. -/
def State.freeSlot (s : State) (k : Nat) : Nat :=
  (List.range 127).foldl (fun a r => if (s.siltSlot k r).all fun b => b == flashErased then a else r + 1) 0

/-- A buffered record with the restored time added, its SEQ going on from the restored one (R512). -/
def restoredRec (h0 s0 q0 : Nat) (r : List Byte) : List Byte :=
  let t := ofLe ((r.drop 4).take 4) * 3600 + ofLe ((r.drop 8).take 2) + h0 * 3600 + s0
  let q := ofLe ((r.drop 24).take 4) + q0
  let body := r.take 4 ++ leBytes 4 (t / 3600) ++ leBytes 2 (t % 3600) ++ (r.take 24).drop 10 ++ leBytes 4 q
  body ++ leBytes 4 (crc32c body)

/-- The buffer holds exactly some records, from its head on. -/
def State.setBuffer (s : State) (rs : List (List Byte)) : State :=
  let put (s : State) (e : List Byte × Nat) : State :=
    s.memWrites 7 (4 * ((s.obs.bufHead + e.2) % 2048)) ((List.range 4).map fun k => ofLe ((e.1.drop (8 * k)).take 8))
  let s := rs.zipIdx.foldl put s
  { s with obs := { s.obs with bufCount := rs.length } }.setFld F.OBS_SILT_STAT_BUFFERED rs.length

/-- Restored time and SEQ reach every record buffered so far, those posted while they are read among them; one that is uncorrectable is lost
(R444, R512). -/
def State.restoreBuffer (s : State) (h0 s0 q0 : Nat) : State :=
  let n := s.obs.bufCount
  let (rs, s) := s.siltRecords s.obs.bufHead n
  let (more, s) := s.siltRecords (s.obs.bufHead + n) (s.obs.bufCount - n)
  (s.setBuffer ((rs ++ more).map (restoredRec h0 s0 q0))).siltSettle

/-- The newest valid record of the ring: sector by sector from the one written last, those with a valid header (R512). -/
def State.newestRecord (s : State) (k : Nat) : Option (List Byte) :=
  (List.range 1024).findSome? fun i =>
    let j := (k + 1024 - i) % 1024
    if (s.sectorSeqOf j).isSome then s.newestIn j else none

/-- The write point after the sector written last (R514). -/
def State.ringWritePoint (s : State) (k q : Nat) : State :=
  let slot := s.freeSlot k
  if slot = 127 then { s with obs := { s.obs with sectorSeq := (q + 1) % 2 ^ 32 } }.setSiltAt ((k + 1) % 1024) 0
  else { s with obs := { s.obs with sectorSeq := q } }.setSiltAt k slot

/-- Operating time and SEQ continue from a record (R512). -/
def State.continueFrom (s : State) (r : List Byte) : State :=
  let h0 := ofLe ((r.drop 4).take 4)
  let s0 := ofLe ((r.drop 8).take 2)
  let q0 := ofLe ((r.drop 24).take 4)
  let s := s.restoreBuffer h0 s0 q0
  let t := s.fld F.OBS_OP_SEC_SEC + s0
  let s := (s.setFld F.OBS_OP_HOURS_HOURS (s.fld F.OBS_OP_HOURS_HOURS + h0 + t / 3600)).setFld F.OBS_OP_SEC_SEC (t % 3600)
  s.setFld F.OBS_SILT_SEQ_SEQ (s.fld F.OBS_SILT_SEQ_SEQ + q0)

/-- The ring scan is complete (R512): a ring that cannot be read, like an empty one, leaves the counts as they run from 0. A flush that was asked
for starts. -/
def State.ringScan (s : State) : State :=
  let erases := s.fld F.FLS_STAT_MODE != 0
  let s := match s.fld F.FLS_STAT_MODE, s.lastSector with
    | 0, _ => s
    | _, none => s.setSiltAt 0 0
    | _, some (k, q) => match s.newestRecord k with
      | some r => (s.ringWritePoint k q).continueFrom r
      | none => s.ringWritePoint k q
  let s := (s.setFld F.OBS_STAT_RESTORED 1).on erases State.eraseAhead
  s.on s.obs.flushReq State.siltStart

end Sys2Proof.Machine
end

