-- ==== Sys2Proof/Machine/Flash.lean ====
section
/-! DEFINITION. The flash port's two command interfaces and its discovery (R402–R406). -/

namespace Sys2Proof.Machine

/-- FLASH_DISCOVERY_DONE (R402): once after the release, within 2 ms of it: `mode` 1 or 2 with the device's density, or 0 for a device that lacks
what the port needs. -/
def execFlashDiscoveryDone (dt mode density : Nat) (s : State) : Out :=
  if s.released = false ∨ s.fls.discovered = true then .next (s.after dt)
  else
    let s := s.advanceTo (min (s.clp.now + dt) (s.pwr.released + 2000000))
    let s := { s with fls := { s.fls with discovered := true } }
    if mode = 1 ∨ mode = 2 then
      .next ((s.setFld F.FLS_STAT_MODE mode).setFld F.FLS_STAT_DENSITY (density % 4)).flsServe
    else .next (s.raise F.FLS_EVT_DISCOVER_FAIL)

/-- The bytes of FLS_BUF_i. -/
def State.flsBuf (s : State) (i : Nat) : List Byte := (List.range 32).flatMap fun w => leBytes 8 (s.reg .FLS_BUF i w).toNat

/-- FLS_BUF_i takes bytes from byte 0; those after keep their contents. -/
def State.setFlsBuf (s : State) (i : Nat) (bs : List Byte) : State :=
  let all := bs ++ (s.flsBuf i).drop bs.length
  (List.range 32).foldl (fun s w => s.setReg .FLS_BUF i w (BitVec.ofNat 64 (ofLe ((all.drop (8 * w)).take 8)))) s

/-- The completion of a command: STATUS, REASON, CMD_DONE (R405); an INTERNAL one posts a Silt record (R505). -/
def State.flsFinish (s : State) (i : Nat) (ok : Bool) (reason : Nat) : State :=
  let s := (((s.setFld F.FLS_CSTAT_BUSY 0 i).setFld F.FLS_CSTAT_STATUS (if ok then 0 else 0x3F) i).setFld F.FLS_CSTAT_REASON
    (if ok then 0 else reason) i)
  let s := s.raise (if i = 0 then F.FLS_EVT_CMD_DONE_0 else F.FLS_EVT_CMD_DONE_1)
  s.on (!ok) fun s => s.siltInternal 14 reason

/-- The reason for which a command is refused (R403, R405): port not ready, opcode, range, access right. -/
def State.flsRefusal (s : State) (i op len a : Nat) : Option Nat :=
  let size := s.flashSize
  let n := if op = 3 then 4096 else if op = 4 then 65536 else len
  if s.fld F.FLS_STAT_MODE = 0 then some 4
  else if op = 0 ∨ 4 < op then some 0
  else if (op ≤ 2 ∧ (len = 0 ∨ 256 < len)) ∨ (op = 1 ∧ size < a + len) ∨ (op = 2 ∧ a / 256 ≠ (a + len - 1) / 256) ∨
      (3 ≤ op ∧ a % n ≠ 0) then some 2
  else if size < a + n ∨ flashAllowed (if i = 0 then 1 else 2) a n (op == 1) = false then some 1
  else none

/-- A write of FLS_CMD_i (R405): ignored while BUSY is set; refused at once, or submitted to the port. -/
def State.flsCmdWrite (s : State) (i op len : Nat) : State :=
  if s.flag F.FLS_CSTAT_BUSY i then s.raise F.FLS_EVT_CMD_IGNORED
  else
    let a := s.fld F.FLS_ADDR_ADDR i
    let s := s.setFld F.FLS_CSTAT_BUSY 1 i
    match s.flsRefusal i op len a with
    | some r => (s.on (r == 1) fun s => s.bump F.FLS_CNT_REFUSED_COUNT).flsFinish i false r
    | none =>
      let kind : FlsKind := if op = 1 then .read else if op = 2 then .program else if op = 3 then .erase4k else .erase64k
      s.flsSubmit { src := if i = 0 then 1 else 4, kind := kind, addr := a, len := len, data := (s.flsBuf i).take len }

/-- FLS_READ (R405): READ of `len` bytes written to FLS_CMD_i. -/
def execFlsRead (i len : Nat) (s : State) : Out := .next (s.powered fun s => s.flsCmdWrite (i % 2) 1 (len % 512))
/-- FLS_PROGRAM (R405). -/
def execFlsProgram (i len : Nat) (s : State) : Out := .next (s.powered fun s => s.flsCmdWrite (i % 2) 2 (len % 512))
/-- ERASE_4K (R405). -/
def execErase4k (i : Nat) (s : State) : Out := .next (s.powered fun s => s.flsCmdWrite (i % 2) 3 0)
/-- ERASE_64K (R405). -/
def execErase64k (i : Nat) (s : State) : Out := .next (s.powered fun s => s.flsCmdWrite (i % 2) 4 0)

/-- An operation of an interface ends (R405). -/
def State.flsCmdEnd (s : State) (i : Nat) (w : FlsOp) (fail : Bool) : State :=
  if w.kind = .read then (s.setFlsBuf i (s.flashBytes w.addr w.len)).flsFinish i true 0
  else if fail then s.flsFinish i false 3
  else s.flsFinish i true 0

/-- FLS_CMD_DONE (R405, R406): after `dt` ns the running operation of an interface or of the Silt recorder ends; `fail` where the flash
reports a program or an erase as failed. The port then serves the next waiting work. A flush that has started comes to the port before. -/
def execFlsCmdDone (dt : Nat) (fail : Bool) (s : State) : Out :=
  let t := s.on s.obs.unread fun s => s.siltLoad.flsServe
  match t.fls.busy with
  | some w =>
    if w.src = 2 then .next t
    else
      let s := t.after dt
      let bad := fail && w.kind != .read
      let s := if bad then ((s.raise F.FLS_EVT_FLASH_ERR).bump F.FLS_CNT_FLASH_ERR_COUNT).siltPost 225 3 else s.flsEffect w
      let s := { s with fls := { s.fls with busy := none } }
      let s := if w.isSilt then s.siltOpDone w bad else s.flsCmdEnd (if w.src = 1 then 0 else 1) w bad
      .next s.flsServe
  | none => .next t

end Sys2Proof.Machine
end

