-- ==== Sys2Proof/Machine/Ethernet.lean ====
section
/-! DEFINITION. The four Ethernet ports (R382–R387): reception into cells, egress records, link state, and Clepsydra's relay of PTP
messages between them (R375–R378). -/

namespace Sys2Proof.Machine

/-! ## Ports -/

/-- A port beyond its registers. -/
def State.ethPort (s : State) (p : Nat) : EthPort := SMap.getD s.eth.ports p {}

/-- Set a port. -/
def State.setEthPort (s : State) (p : Nat) (v : EthPort) : State :=
  { s with eth := { s.eth with ports := SMap.put s.eth.ports p v } }

/-- The FCS of an Ethernet frame, as it is sent (IEEE 802.3). -/
def ethFcs (bs : List Byte) : List Byte := leBytes 4 (crc32 bs)

/-- A frame with its last four bytes replaced by its FCS: Eddy's FIX_CHECK on Ethernet (R519). -/
def ethFix (bs : List Byte) : List Byte :=
  let body := bs.take (bs.length - 4)
  body ++ ethFcs body

/-- The link of a port is up. -/
def State.ethUp (s : State) (p : Nat) : Bool := s.flag F.ETH_STAT_LINK p

/-! ## Frames (R384, R385) -/

/-- The offset of the EtherType, after at most one IEEE 802.1Q tag (R384). -/
def etherOff (b : List Byte) : Nat := if ofBe (sliceOf b 12 2) = 0x8100 then 16 else 12

/-- The EtherType of a frame (R384). -/
def etherType (b : List Byte) : Nat := ofBe (sliceOf b (etherOff b) 2)

/-- The destination address of a frame passes the port's filter (R384, check 3). -/
def State.ethDestOk (s : State) (p : Nat) (b : List Byte) : Bool :=
  let d := ofBe (b.take 6)
  d == s.fld F.ETH_MAC_ADDR p || d == 0xFFFFFFFFFFFF || d == 0x011B19000000 || d == 0x0180C200000E ||
    (s.flag F.ETH_CTL_MCAST_ALL p && (b.getD 0 0).getLsbD 0) || s.flag F.ETH_CTL_PROMISC p

/-- The EtherType of a frame passes (R384, check 4). -/
def State.ethTypeOk (s : State) (p : Nat) (b : List Byte) : Bool :=
  etherType b == 0x86DD || etherType b == 0x88F7 || (s.flag F.ETH_CTL_ETYPE_OTHER p && etherType b != 0x8808)

/-- MAX_FRAME as it acts. -/
def State.ethMax (s : State) (p : Nat) : Nat := max 64 (min 9238 (s.fld F.ETH_MAX_MAX_FRAME p))

/-! ## The transparent clock (R375–R378) -/

/-- Where a PTP message stands in a frame: the offset of its PTP header, and that of its UDP checksum with the IP version. -/
structure PtpAt where
  ptp : Nat
  udp : Option (Nat × Nat)
  deriving DecidableEq, Repr

/-- A UDP datagram at `o` goes to port 319 or 320 (R375). -/
def ptpUdp (b : List Byte) (o ver : Nat) : Option PtpAt :=
  let port := ofBe (sliceOf b (o + 2) 2)
  if (port = 319 ∨ port = 320) ∧ o + 8 ≤ b.length then some ⟨o + 8, some (o + 6, ver)⟩ else none

/-- The PTP message of a frame that the relay takes, by its form (R375). -/
def ptpAt (b : List Byte) : Option PtpAt :=
  let o := etherOff b + 2
  match etherType b with
  | 0x88F7 => if ofBe (b.take 6) = 0x011B19000000 then some ⟨o, none⟩ else none
  | 0x0800 =>
    if byteAt b o / 16 = 4 ∧ byteAt b (o + 9) = 17 ∧ ofBe (sliceOf b (o + 6) 2) % 2 ^ 13 = 0 ∧
        ofBe (sliceOf b (o + 16) 4) = 0xE0000181 then ptpUdp b (o + 4 * (byteAt b o % 16)) 4
    else none
  | 0x86DD =>
    if byteAt b o / 16 = 6 ∧ byteAt b (o + 6) = 17 ∧ byteAt b (o + 24) = 0xFF ∧ byteAt b (o + 25) / 16 = 0 ∧
        ofBe (sliceOf b (o + 26) 14) = 0x181 then ptpUdp b (o + 40) 6
    else none
  | _ => none

/-- Replace bytes of a frame from an offset. -/
def patch (b : List Byte) (o : Nat) (x : List Byte) : List Byte := b.take o ++ x ++ b.drop (o + x.length)

/-- The one's complement sum of 16-bit words, folded. -/
def ones16 (x : Nat) : Nat := (x % 65536 + x / 65536) % 65536 + (x % 65536 + x / 65536) / 65536

/-- The big-endian 16-bit words of an even byte string. -/
def words16 : List Byte → List Nat
  | a :: b :: t => (a.toNat * 256 + b.toNat) :: words16 t
  | _ => []

/-- The UDP checksum of a changed message, updated incrementally (R378, RFC 1624): `old` and `new` are the bytes replaced, at even
offsets of the datagram. A result of 0 is sent as all ones (RFC 768). -/
def udpUpdate (sum : Nat) (old new : List Byte) : Nat :=
  let t := (words16 old).foldl (fun a w => ones16 (a + (65535 - w))) (65535 - sum)
  let r := 65535 - (words16 new).foldl (fun a w => ones16 (a + w)) t
  if r = 0 then 65535 else r

/-- The PTP message type of a frame. -/
def ptpType (b : List Byte) (a : PtpAt) : Nat := byteAt b a.ptp % 16

/-- An egress copy with `ns` added to its correctionField and its UDP checksum updated (R376–R378). -/
def ptpCorrect (b : List Byte) (a : PtpAt) (ns : Int) : List Byte :=
  let o := a.ptp + 8
  let old := sliceOf b o 8
  let new := beBytes 8 (toPattern 64 (ofBe old + ns * 2 ^ 16))
  let b := patch b o new
  match a.udp with
  | some (c, ver) =>
    let sum := ofBe (sliceOf b c 2)
    if ver = 4 ∧ sum = 0 then b else patch b c (beBytes 2 (udpUpdate sum old new))
  | none => b

/-- Port `p` is a member of the relay (R375). -/
def State.tcMember (s : State) (p : Nat) : Bool := s.flag F.CLP_TC_CTL_EN && (s.fld F.CLP_TC_CTL_PORTS).testBit p

/-- PTP_RELAY (R375, R377): a copy of a message waits at every other member port whose link is up. `b` is the frame without FCS, `t` full
time at its ingress. -/
def State.ptpRelay (s : State) (p : Nat) (b : List Byte) (t : Nat) : State :=
  match ptpAt b with
  | some a =>
    if !s.tcMember p || (s.flag F.CLP_TC_CTL_MODE && ptpType b a == 1) then s
    else (List.range 4).foldl (fun s q =>
      if q != p && s.tcMember q && s.ethUp q then
        s.setEthPort q { s.ethPort q with relay := (s.ethPort q).relay ++ [⟨b, p, t⟩] }
      else s) s
  | none => s

/-- The egress copy of a relayed message as it leaves now (R376, R377): residence time, accurate to 8 ns, and in MODE 1 a Sync's link
delay. -/
def State.relayCopy (s : State) (r : EthRelay) : List Byte × State :=
  match ptpAt r.bytes with
  | some a =>
    if ptpType r.bytes a ≤ 3 then
      let (v, s) := s.fresh
      let link := if s.flag F.CLP_TC_CTL_MODE && ptpType r.bytes a == 0 then s.fld F.CLP_TC_PDELAY_DELAY r.port else 0
      let ns : Int := (s.fullNs : Int) - r.at_ + (v % 17 : Nat) - 8 + link
      (ptpCorrect r.bytes a ns, s.bump F.CLP_CNT_TC_COUNT)
    else (r.bytes, s)
  | none => (r.bytes, s)

/-! ## Reception (R384–R386) -/

/-- The packet that a passing frame is (R186, R385): its length, and the offset of its IPv6 header. -/
def ethPacket (b : List Byte) : Nat × Option Nat :=
  let o := etherOff b + 2
  if etherType b = 0x86DD then (40 + ofBe (sliceOf b (o + 4) 2), some o) else (b.length, none)

/-- A frame that has passed the checks enters cells and goes to Sluice (R385). -/
def State.ethAccept (s : State) (p : Nat) (f : Passing) (b : List Byte) : State :=
  match s.alloc b.length with
  | (some cs, s) =>
    let (len, ip) := ethPacket b
    let w : Wired := ⟨16 + p, cs.getD 0 0, len, ip, f.ts, f.asn⟩
    let s := (s.putFrame cs b).bump F.ETH_CNT_RX_OK_COUNT 1 p
    { s with slc := { s.slc with wired := s.slc.wired ++ [w] } }
  | (none, s) => (s.bump F.ETH_CNT_RX_NO_CELL_COUNT 1 p).raise F.ETH_EVT_RX_NO_CELL p

/-- A frame is checked (R384): dropped and counted once, or passed; a PTP message with a good FCS and size is relayed. `t` is full time at
its ingress. -/
def State.ethCheck (s : State) (p t : Nat) (f : Passing) : State :=
  let n := f.bytes.length
  let b := f.bytes.take (n - 4)
  if n < 4 ∨ ethFcs b ≠ f.bytes.drop (n - 4) then s.bump F.ETH_CNT_RX_FCS_COUNT 1 p
  else if n < 64 ∨ s.ethMax p < n then s.bump F.ETH_CNT_RX_SIZE_COUNT 1 p
  else
    let s := s.ptpRelay p b t
    if etherType b = 0x8808 then s.bump F.ETH_CNT_RX_PAUSE_COUNT 1 p
    else if s.ethDestOk p b && s.ethTypeOk p b then s.ethAccept p f b
    else s.bump F.ETH_CNT_RX_FILTER_COUNT 1 p

/-- The full time, in ns, at which a frame with service time `ts` came in, for its residence time. -/
def State.fullOfPast (s : State) (ts : Nat) : Nat := s.fullNs - (s.service + 2 ^ 32 - ts) % 2 ^ 32

/-- ETH_RX_FRAME (R384, R385): `dt` ns on, the first byte of a frame reaches port `p`, and `len` ns later its last; `bytes` are those after
the SFD, FCS included. -/
def execEthRxFrame (dt p len : Nat) (bytes : List Byte) (s : State) : Out :=
  let p := p % 4
  let s := s.after dt
  if s.ethUp p then
    let f : Passing := ⟨bytes, s.service, if s.asnValid then s.asn else noAsn⟩
    let s := s.advance len
    let (fs, s) := s.eddyAt p ethFix f
    .next (fs.foldl (fun s f => s.ethCheck p (s.fullOfPast f.ts) f) s)
  else .next s

/-! ## Egress (R386, R387) -/

/-- An egress completion, where one is due (R387): `w0` is the record's first word. -/
def State.egressDone (s : State) (runnel : Nat) (all : Bool) (drop : State → State) (block w0 : Nat) (cookie : Word) (st : Status)
    (ts : Nat) : State :=
  let s := s.on (decide (st ≠ .ok)) drop
  let s := s.on (decide (st = .internal)) fun s => s.siltInternal block 0
  if (w0.testBit 1 || all || decide (st ≠ .ok)) ∧ s.pwr.phase ≠ .failing then
    s.enginePush runnel [mkWord (BitVec.ofNat 64 (ts % 2 ^ 32 * 2 ^ 32 + st.code * 2 ^ 26)), mkWord cookie]
  else s

/-- An Ethernet egress record completes (R387). -/
def State.ethDone (s : State) (p w0 : Nat) (cookie : Word) (st : Status) (ts : Nat) (frees : Bool) : State :=
  let s := s.on (frees && !w0.testBit 2) fun s => s.freeChain (bits w0 32 16)
  s.egressDone (s.fld F.ETH_CTL_TXC_RUNNEL p) (s.flag F.ETH_CTL_CMPL_ALL p) (fun s => s.bump F.ETH_CNT_TX_DROP_COUNT 1 p) 12 w0 cookie
    st ts

/-- A port starts to send. -/
def State.ethStart (s : State) (p : Nat) (t : EthTx) : State :=
  (s.setEthPort p { s.ethPort p with tx := some t }).setFld F.ETH_STAT_TX_BUSY 1 p

/-- A port works one egress record (R386, R387, R555): completed at once, or its frame begins to leave. -/
def State.ethRecord (s : State) (p w0 : Nat) (cookie : Word) : State :=
  let len := bits w0 48 16
  if len < 14 ∨ 9234 < len then s.ethDone p w0 cookie .internal 0 true
  else match s.chainFor (bits w0 32 16) len with
    | none => s.ethDone p w0 cookie .internal 0 false
    | some cs =>
      if !s.ethUp p then s.ethDone p w0 cookie .txFlushed 0 true
      else
        let (bs, bad, s) := s.getFrame cs len
        let (v, s) := s.fresh
        if bad && v.testBit 0 then s.ethDone p w0 cookie .poisoned 0 true
        else s.ethStart p ⟨bs, s.service, some (w0, cookie), bad⟩

/-- A port takes its next egress record; one with a bad word completes POISONED and frees nothing (R338). -/
def State.ethPop (s : State) (p : Nat) : State :=
  let n := s.fld F.ETH_CTL_TX_RUNNEL p
  if s.runnelOn n && decide (2 ≤ s.poppable n) then
    let (ws, s) := s.popWords n 2
    let w (i : Nat) : RunWord := ws.getD i ⟨0, false, false⟩
    if ws.any RunWord.isBad then
      s.ethDone p (w 0).val.toNat (if (w 1).isBad then BitVec.allOnes 64 else (w 1).val) .poisoned 0 false
    else s.ethRecord p (w 0).val.toNat (w 1).val
  else s

/-- ETH_TX_RECORD (R376, R386, R387): a port that sends nothing takes its next relay copy, or else its next record. One that has been enabled goes on
taking records after EN is cleared; it waits for packet memory to be initialised (R433). -/
def execEthTxRecord (dt p : Nat) (s : State) : Out :=
  let p := p % 4
  let s := s.after dt
  if (s.flag F.ETH_CTL_EN p ∨ (s.ethPort p).used = true) ∧ (s.ethPort p).tx = none ∧ s.memReady 0 = true then
    match (s.ethPort p).relay with
    | r :: rest =>
      let (bs, s) := (s.setEthPort p { s.ethPort p with relay := rest }).relayCopy r
      .next (s.ethStart p ⟨bs, s.service, none, false⟩)
    | [] => .next (s.ethPop p)
  else .next s

/-- A frame as it leaves: padded to 60 bytes, then its FCS, inverted for a frame that must not be taken (R386, R387). -/
def ethWire (bs : List Byte) (bad : Bool) : List Byte :=
  let b := bs ++ List.replicate (60 - bs.length) 0
  b ++ (if bad then (ethFcs b).map fun x => ~~~x else ethFcs b)

/-- A frame leaves the MAC through the port's transmit point (R517). -/
def State.ethEmit (s : State) (p : Nat) (bs : List Byte) : State :=
  let (fs, s) := s.eddyAt (4 + p) ethFix ⟨bs, s.service, noAsn⟩
  { s with eth := { s.eth with sent := s.eth.sent ++ fs.map fun f => (p, f.bytes) } }

/-- The port has ended a frame. -/
def State.ethIdle (s : State) (p : Nat) : State :=
  (s.setEthPort p { s.ethPort p with tx := none }).setFld F.ETH_STAT_TX_BUSY 0 p

/-- ETH_TX_DONE (R387, R520): the last byte of the frame is sent; one that Eddy drops leaves no count of the port. -/
def execEthTxDone (dt p : Nat) (s : State) : Out :=
  let p := p % 4
  match (s.ethPort p).tx with
  | some t =>
    let s := (s.after dt).ethIdle p
    let counted := !t.bad && !s.eddyDrops (4 + p)
    let s := (s.ethEmit p (ethWire t.bytes t.bad)).on counted fun s => s.bump F.ETH_CNT_TX_OK_COUNT 1 p
    match t.desc with
    | some (w0, cookie) => .next (s.ethDone p w0 cookie (if t.bad then .poisoned else .ok) t.at_ true)
    | none => .next s
  | none => .next s

/-! ## Link and registers (R383, R387) -/

/-- The frame under transmission is cut (R387). -/
def State.ethCut (s : State) (p : Nat) : State :=
  match (s.ethPort p).tx with
  | some t =>
    let (v, s) := s.fresh
    let s := (s.ethIdle p).ethEmit p (ethWire (t.bytes.take (v % (t.bytes.length + 1))) true)
    match t.desc with
    | some (w0, cookie) => s.ethDone p w0 cookie .txFlushed t.at_ true
    | none => s
  | none => s

/-- The link of a port falls (R387, R520): a frame under transmission is cut; frames that Eddy holds and relay copies are discarded. -/
def State.ethLinkFall (s : State) (p : Nat) : State :=
  if !s.ethUp p then s
  else
    let s := s.ethCut p
    let s := (s.unhold p).2
    let s := (s.unhold (4 + p)).2
    let s := s.setEthPort p { s.ethPort p with relay := [] }
    (s.setReg .ETH_STAT p 0 0).raise F.ETH_EVT_LINK_DOWN p

/-- ETH_LINK_UP (R387): block lock and, with FEC, FEC lock. -/
def execEthLinkUp (dt p : Nat) (s : State) : Out :=
  let p := p % 4
  let s := s.after dt
  if s.flag F.ETH_CTL_EN p ∧ s.ethUp p = false then
    let fec := s.fld F.ETH_CTL_FEC p
    let s := ((s.setFld F.ETH_STAT_LINK 1 p).setFld F.ETH_STAT_BLOCK_LOCK 1 p).setFld F.ETH_STAT_FEC_LOCK
      (if fec = 1 ∨ fec = 2 then 1 else 0) p
    .next (s.raise F.ETH_EVT_LINK_UP p)
  else .next s

/-- The link of a port falls while a frame may be under reception (`cut`), which then counts in ETH_CNT_RX_FCS (R387). -/
def State.ethLinkLost (s : State) (p : Nat) (cut : Bool) : State :=
  (s.on (cut && s.ethUp p) fun s => s.bump F.ETH_CNT_RX_FCS_COUNT 1 p).ethLinkFall p

/-- ETH_LINK_DOWN (R387): `cut` where a frame was under reception, which counts in ETH_CNT_RX_FCS. -/
def execEthLinkDown (dt p : Nat) (cut : Bool) (s : State) : Out :=
  let p := p % 4
  let s := s.after dt
  .next (s.ethLinkLost p cut)

/-- A write of ETH_CTL (R383, R387): clearing EN takes the link down, and a frame under reception counts in ETH_CNT_RX_FCS. Whether one is stands
free, for the write does not say. -/
def State.ethCtlWrite (s : State) (p : Nat) (d : Word) : State :=
  let old := s.reg .ETH_CTL p 0
  let new := d &&& 0xFFFFFF
  let s :=
    if !old.getLsbD 0 then s.setReg .ETH_CTL p 0 new
    else (s.setReg .ETH_CTL p 0 ((old &&& 0xFFFFFE) ||| (new &&& 1))).on (decide ((old &&& 0xFFFFFE) ≠ (new &&& 0xFFFFFE))) fun s =>
      s.raise F.ETH_EVT_CFG_IGNORED p
  let s := s.on (new.getLsbD 0) fun s => s.setEthPort p { s.ethPort p with used := true }
  s.on (old.getLsbD 0 && !new.getLsbD 0) fun s =>
    let (v, s) := s.fresh
    s.ethLinkLost p (v.testBit 0)

/-- A write of ETH_MAC or ETH_MAX (R383). -/
def State.ethParamWrite (s : State) (id : RegId) (mask : Word) (p : Nat) (d : Word) : State :=
  if s.flag F.ETH_CTL_EN p then s.raise F.ETH_EVT_CFG_IGNORED p else s.setReg id p 0 (d &&& mask)

/-- ETH_ENABLE (R383): a write of ETH_CTL. -/
def execEthEnable (p : Nat) (d : Word) (s : State) : Out := .next (s.powered fun s => s.ethCtlWrite (p % 4) d)

end Sys2Proof.Machine
end

