-- ==== Sys2Proof/Machine/HostPcie.lean ====
section
/-! DEFINITION. The PCI Express endpoint (R388–R392, R550), the host rings (R393–R398), host ingress (R399) and INT_N (R392, R528). -/

namespace Sys2Proof.Machine

/-! ## Packet memory by physical offset (R389, R390) -/

/-- What a host read of BAR0 or BAR2 returns, and whether it completed poisoned (R390). -/
def State.hostAnswer (s : State) (bs : List Byte) (bad : Bool) : State :=
  { s with hst := { s.hst with readData := bs, readBad := bad } }

/-- A host write of `bs` at offset `o` of packet memory, as far as the memory goes: discarded where a word it covers in part is uncorrectable (R390,
R444). -/
def State.bar2Write (s : State) (o : Nat) (bs : List Byte) : State := (s.memStore 0 o (bs.take (2 ^ 24 - o))).2

/-- A host read of `n` bytes at offset `o` of packet memory, as far as the memory goes: its data, poisoned where a word is uncorrectable (R390). -/
def State.bar2Read (s : State) (o n : Nat) : State :=
  let (bs, bad, s) := s.memLoad 0 o (min n (2 ^ 24 - o))
  s.hostAnswer bs bad

/-- The host reaches the device's memory space: the link is up and the function is in D0 (R388); a device in reset has no link (R431). -/
def State.hostReaches (s : State) : Bool := s.flag F.HST_STAT_LINK_UP && !s.hst.cfg.d3hot

/-- BAR2_ACCESS (R390): a host read of `n` bytes, which waits for packet memory to be initialised (R433), or a write of `bs`, at offset `o`. -/
def execBar2Access (dt : Nat) (write : Bool) (o n : Nat) (bs : List Byte) (s : State) : Out :=
  let s := s.after dt
  if s.hostReaches = false then .next s
  else if write then .next (s.bar2Write (o % 2 ^ 24) (bs.take 4096))
  else if s.memReady 0 then .next (s.bar2Read (o % 2 ^ 24) (min n 4096))
  else .next s

/-! ## Configuration space (R388, R389) -/

/-- The 32-bit words of configuration space whose values the manual gives (R389), by their PCI offset: Vendor ID with Device ID, Revision ID
with the class code, BAR0 (64-bit, not prefetchable, 128 MiB) and BAR2 (64-bit, prefetchable, 16 MiB), and the subsystem IDs of
HST_SSID. -/
def State.configRead (s : State) (o : Nat) : Option Nat :=
  match o with
  | 0x00 => some (0x1F4C + 0x6416 * 2 ^ 16)
  | 0x08 => some ((s.reg .GLB_BLOCK_ID 0 0).toNat % 256 + 0x0D8000 * 2 ^ 8)
  | 0x10 => some (bits s.hst.cfg.bar0 27 5 * 2 ^ 27 + 4)
  | 0x14 => some (bits s.hst.cfg.bar0 32 32)
  | 0x18 => some (bits s.hst.cfg.bar2 24 8 * 2 ^ 24 + 12)
  | 0x1C => some (bits s.hst.cfg.bar2 32 32)
  | 0x2C => some (s.fld F.HST_SSID_SSVID + s.fld F.HST_SSID_SSID * 2 ^ 16)
  | _ => none

/-- The words of the MSI-X capability (R388, R389, R527): its ID 0x11 with Message Control, which holds the table's size less 1, the Function Mask
and MSI-X Enable; the table's offset in BAR0; the pending-bit array's. The next pointer reads 0. -/
def State.msixCap (s : State) : List Nat :=
  [0x11 + (63 + 2 ^ 14 * s.hst.funcMask.toNat + 2 ^ 15 * s.fld F.HST_STAT_MSIX_EN) * 2 ^ 16, 0x03410000, 0x03411000]

/-- The words of the Advanced Error Reporting capability after its header (R388), in the order of the PCIe specification: Uncorrectable Error Status,
Mask and Severity, Correctable Error Status and Mask, the First Error Pointer, the Header Log. -/
def State.aerRegs (s : State) : List Nat :=
  let a := s.hst.cfg.aer
  [a.uncor, a.mask, a.severity, a.cor, a.corMask, a.first] ++ a.header

/-- The error registers change. -/
def State.setAer (s : State) (a : AerState) : State := { s with hst := { s.hst with cfg := { s.hst.cfg with aer := a } } }

/-- Uncorrectable error `b` (R388; PRESUMED, log entry 60): its status bit, and where it is not masked and no earlier error stands, the First Error
Pointer and the Header Log. -/
def AerState.uncorrectable (a : AerState) (b : Nat) (header : List Nat) : AerState :=
  let t := { a with uncor := a.uncor ||| 2 ^ b }
  if a.mask.testBit b || a.uncor.testBit a.first then t else { t with first := b, header := header }

/-- Why a DMA read failed, in the error registers (R388, R397; PRESUMED, log entry 60): Received Master Abort or Received Target Abort of the PCI
Status register, Poisoned TLP Received with Detected Parity Error, or Completion Timeout. -/
def AerState.dmaError (a : AerState) : DmaCause → AerState
  | .unsupported => { a with status := a.status ||| 2 ^ 13 }
  | .abort => { a with status := a.status ||| 2 ^ 12 }
  | .poisoned h => { a with status := a.status ||| 2 ^ 15 }.uncorrectable 12 ((h ++ List.replicate 4 0).take 4)
  | .timeout => a.uncorrectable 14 (List.replicate 4 0)

/-- The correctable errors that a link can meet: Receiver Error, Bad TLP, Bad DLLP, Replay Number Rollover, Replay Timer Timeout. -/
def linkErrors : Nat := 0x11C1

/-- A write of configuration space meets the error registers: what the link has met comes first, and the bits written with 1 clear. -/
def AerState.write (a : AerState) (w : AerWrite) : AerState :=
  let cor := a.cor ||| (w.corrected &&& linkErrors)
  let t := { a with
    uncor := a.uncor - (a.uncor &&& w.clearUncor)
    cor := cor - (cor &&& w.clearCor)
    status := a.status - (a.status &&& w.clearStatus) }
  match w.masks with
  | some (m, v, k) => { t with mask := m % 2 ^ 32, severity := v % 2 ^ 32, corMask := k % 2 ^ 32 }
  | none => t

/-- Settings of configuration space (R388): Max_Payload_Size 128, 256 or 512, Max_Read_Request_Size 128 to 4,096, D0 or D3hot. Other sizes are not
taken. -/
def State.configSet (s : State) (mps mrrs : Nat) (d3hot : Bool) : State :=
  let c := s.hst.cfg
  let mps := if ([128, 256, 512] : List Nat).contains mps then mps else c.maxPayload
  let mrrs := if ([128, 256, 512, 1024, 2048, 4096] : List Nat).contains mrrs then mrrs else c.maxRead
  { s with hst := { s.hst with cfg := { c with maxPayload := mps, maxRead := mrrs, d3hot := d3hot } } }

/-- The parts of a write of configuration space beside Bus Master Enable (R388, R389). -/
def State.configWrite (s : State) (w : ConfigWrite) : State :=
  let s := match w.sets with
    | some (mps, mrrs, d3hot) => s.configSet mps mrrs d3hot
    | none => s
  let s := match w.bars with
    | some (b0, b2) => { s with hst := { s.hst with cfg := { s.hst.cfg with bar0 := b0 / 2 ^ 27 * 2 ^ 27, bar2 := b2 / 2 ^ 24 * 2 ^ 24 } } }
    | none => s
  s.setAer (s.hst.cfg.aer.write w.aer)

/-! ## Rings (R393–R398) -/

/-- A ring beyond its registers. -/
def State.ring (s : State) (n : Nat) : HostRing := SMap.getD s.hst.rings n {}

/-- Set a ring. -/
def State.setRing (s : State) (n : Nat) (r : HostRing) : State :=
  { s with hst := { s.hst with rings := SMap.put s.hst.rings n r } }

/-- The words of a ring (R393). -/
def State.ringSize (s : State) (n : Nat) : Nat := 2 ^ s.fld F.HST_RING_CTL_SIZE n

/-- Words from the ring's head to its tail. -/
def State.ringUsed (s : State) (n : Nat) : Nat :=
  (s.fld F.HST_RING_PTR_TAIL n + s.ringSize n - s.fld F.HST_RING_PTR_HEAD n % s.ringSize n) % s.ringSize n

/-- The runnel joined to a ring. -/
def State.ringRunnel (s : State) (n : Nat) : Nat := s.fld F.HST_RING_CTL_RUNNEL n

/-- The device may issue DMA (R391). -/
def State.dmaOk (s : State) : Bool := s.busMaster

/-- The ring may move a record: it runs, or one record was in transfer when EN was cleared (R398). -/
def State.ringRuns (s : State) (n : Nat) : Bool := s.dmaOk && (s.flag F.HST_RING_CTL_EN n || (s.ring n).stopping)

/-- A ring stops: EN is cleared, and with it its interrupt, which may have been the last cause of its vector (R391, R397, R527–R529). -/
def State.ringStop (s : State) (n : Nat) : State :=
  ((s.setRing n {}).setFld F.HST_RING_CTL_EN 0 n).settleVector (s.fld F.HST_RING_CTL_VEC n)

/-- A ring stops with ERR (R393, R397, R398). -/
def State.ringError (s : State) (n : Nat) : State := (s.ringStop n).setFld F.HST_RING_CTL_ERR 1 n

/-- A from-device record already popped when DMA ends is lost and counted (R398). -/
def State.ringLose (s : State) (n : Nat) : State :=
  let q := s.ringRunnel n
  if s.ringRuns n && s.flag F.HST_RING_CTL_DIR n && s.runnelOn q && decide (s.recLen q ≤ s.poppable q) then
    ((s.popWords q (s.recLen q)).2).bump F.HST_CNT_DMA_ERR_COUNT
  else s

/-- Every ring stops (R391): those of `popped` had a record in transfer. -/
def State.ringsStop (s : State) (popped : List Nat) : State :=
  let s := popped.dedup.foldl (fun s n => s.on (decide (n < 16)) fun s => s.ringLose n) s
  (List.range 16).foldl (fun s n => s.ringStop n) s

/-- A write of HST_RING_CTL_n (R393, R398): ERR is W1C, the other fields but EN take writes only while EN is 0, and EN going from 0 to 1
zeroes the indices and is checked. `busy`: a record is in transfer. -/
def State.ringCtlWrite (s : State) (n : Nat) (d : Word) (busy : Bool) : State :=
  let old := s.reg .HST_RING_CTL n 0
  let err := old &&& 0x400000 &&& ~~~d
  let s :=
    if old.getLsbD 0 then s.setReg .HST_RING_CTL n 0 ((old &&& 0x3FFFFF) ||| err)
    else s.setReg .HST_RING_CTL n 0 ((d &&& 0x3FFFFE) ||| err)
  match old.getLsbD 0, d.getLsbD 0 with
  | false, true =>
    let s := ((s.setReg .HST_RING_PTR n 0 0).setRing n {}).settleVector (bits old.toNat F.HST_RING_CTL_VEC.lo F.HST_RING_CTL_VEC.w)
    let size := s.fld F.HST_RING_CTL_SIZE n
    if s.fld F.HST_RING_BASE_ADDR n % 4096 ≠ 0 ∨ s.fld F.HST_RING_WB_ADDR n % 8 ≠ 0 ∨ size < 6 ∨ 16 < size then
      s.setFld F.HST_RING_CTL_ERR 1 n
    else s.setFld F.HST_RING_CTL_EN 1 n
  | true, false => (s.ringStop n).setRing n { stopping := busy }
  | _, _ => s

/-- RING_ENABLE (R393): a write of HST_RING_CTL_n with EN 1. -/
def execRingEnable (n : Nat) (d : Word) (s : State) : Out := .next (s.powered fun s => s.ringCtlWrite (n % 16) (d ||| 1) false)

/-- RING_DISABLE (R398): a write of HST_RING_CTL_n with EN 0; a record in transfer (`busy`) completes. -/
def execRingDisable (n : Nat) (busy : Bool) (d : Word) (s : State) : Out :=
  .next (s.powered fun s => s.ringCtlWrite (n % 16) (d &&& ~~~1) busy)

/-- A write of HST_RING_COAL_n, HST_RING_BASE_n or HST_RING_WB_n takes effect only while EN is 0 (R393). -/
def State.ringParamWrite (s : State) (id : RegId) (n : Nat) (d : Word) : State :=
  if s.flag F.HST_RING_CTL_EN n then s else s.setReg id n 0 d

/-- A doorbell beyond reach stops the ring with ERR (R398). -/
def State.beyondReach (s : State) (n idx : Nat) : State :=
  let r := s.ring n
  (s.ringError n).setRing n { beyond := some ⟨s.clp.now, idx, r.count, r.since, s.fld F.HST_RING_CTL_ERR n⟩ }

/-- A doorbell of this cycle that stopped a ring is judged against the index that the device moves in it (R398): the ring as it stood before, and
the index written. -/
def State.unstop (s : State) (n : Nat) : Option (Nat × State) :=
  match (s.ring n).beyond with
  | some b =>
    if b.at_ = s.clp.now ∧ s.flag F.HST_RING_CTL_ERR n = true then
      some (b.idx, ((s.setRing n { count := b.count, since := b.since }).setFld F.HST_RING_CTL_EN 1 n).setFld F.HST_RING_CTL_ERR b.err n)
    else none
  | none => none

/-- A write of HST_RING_DB_n (R393, R398, R528): the host's index, or an index beyond reach, which stops the ring with ERR. -/
def State.doorbell (s : State) (n idx : Nat) : State :=
  let s := (s.setRing n { s.ring n with raised := false }).settleVector (s.fld F.HST_RING_CTL_VEC n)
  if !s.flag F.HST_RING_CTL_EN n then s
  else
    let size := s.ringSize n
    let head := s.fld F.HST_RING_PTR_HEAD n
    if s.flag F.HST_RING_CTL_DIR n then
      if idx < size ∧ (idx + size - head) % size ≤ s.ringUsed n then s.setFld F.HST_RING_PTR_HEAD idx n else s.beyondReach n idx
    else if idx < size ∧ s.ringUsed n ≤ (idx + size - head) % size then s.setFld F.HST_RING_PTR_TAIL idx n
    else s.beyondReach n idx

/-- RING_DOORBELL (R393). -/
def execRingDoorbell (n idx : Nat) (s : State) : Out := .next (s.powered fun s => s.doorbell (n % 16) (idx % 65536))

/-- The ring raises its vector (R396). -/
def State.ringSignal (s : State) (n : Nat) : State :=
  (s.setRing n { s.ring n with count := 0, since := none, raised := true }).sendVector (s.fld F.HST_RING_CTL_VEC n)

/-- A posted write to host memory. -/
def State.hostWrite (s : State) (a : Nat) (bs : List Byte) : State := { s with hst := { s.hst with sent := s.hst.sent ++ [⟨a, bs⟩] } }

/-- After a record: the device's index goes to WB, and the record counts towards an interrupt (R393, R396). -/
def State.ringMoved (s : State) (n index : Nat) : State :=
  let s := s.hostWrite (s.fld F.HST_RING_WB_ADDR n) (leBytes 8 index)
  let r := s.ring n
  let s := s.setRing n { r with stopping := false }
  if !s.flag F.HST_RING_CTL_IRQ n then s
  else
    let s := s.setRing n { s.ring n with count := r.count + 1, since := some (r.since.getD s.clp.now) }
    if max 1 (s.fld F.HST_RING_COAL_COAL_CNT n) ≤ r.count + 1 then s.ringSignal n else s

/-- The device moves its index of a ring; a doorbell of this cycle that stopped the ring is judged after it (R398). -/
def State.ringMove (s : State) (n : Nat) (f : State → State) : State :=
  match s.unstop n with
  | some (idx, t) => (f t).doorbell n idx
  | none => f s

/-- The words of the record at the head have been read from the host's memory, and the record is pushed as the host's, waiting for room as an
engine does (R394). -/
def State.ringIn (s : State) (n : Nat) (ws : List Word) : State :=
  let q := s.ringRunnel n
  if s.ringRuns n ∧ s.flag F.HST_RING_CTL_DIR n = false ∧ ws.length = s.recLen q ∧ ws.length ≤ s.ringUsed n ∧
      (s.runnel q).ringWaits = [] then
    let head := (s.fld F.HST_RING_PTR_HEAD n + ws.length) % s.ringSize n
    let s := s.setFld F.HST_RING_PTR_HEAD head n
    let s := s.on (s.runnelOn q) fun s => s.bump F.HST_CNT_RING_IN_COUNT ws.length
    (s.ringPush q (ws.map fun w => mkWord w)).ringMoved n head
  else s

/-- RING_DMA_READ_DONE (R394), after `dt` ns. -/
def execRingDmaReadDone (dt n : Nat) (ws : List Word) (s : State) : Out :=
  .next ((s.after dt).ringMove (n % 16) fun s => s.ringIn (n % 16) ws)

/-- A from-device ring with room for a whole record pops it and writes it at the tail (R395). -/
def State.ringOut (s : State) (n : Nat) : State :=
  let q := s.ringRunnel n
  let k := s.recLen q
  if s.ringRuns n ∧ s.flag F.HST_RING_CTL_DIR n = true ∧ s.runnelOn q = true ∧ k ≤ s.poppable q ∧
      k + s.ringUsed n + 1 ≤ s.ringSize n then
    let (ws, s) := s.popWords q k
    let base := s.fld F.HST_RING_BASE_ADDR n
    let tail := s.fld F.HST_RING_PTR_TAIL n
    let put (s : State) (e : RunWord × Nat) : State :=
      s.hostWrite (base + 8 * ((tail + e.2) % s.ringSize n)) (leBytes 8 e.1.val.toNat)
    let s := ((ws.zipIdx).foldl put s).bump F.HST_CNT_RING_OUT_COUNT k
    let tail := (tail + k) % s.ringSize n
    (s.setFld F.HST_RING_PTR_TAIL tail n).ringMoved n tail
  else s

/-- RING_RECORD_POP (R395), after `dt` ns. -/
def execRingRecordPop (dt n : Nat) (s : State) : Out := .next ((s.after dt).ringMove (n % 16) fun s => s.ringOut (n % 16))

/-- RING_COAL_TIMER (R396): COAL_US after the first record not yet signalled; a record of the cycle in which they end is signalled with it, so it comes
at that cycle's end (R398; DESIGN CHOICE, log entry 154). -/
def execRingCoalTimer (n : Nat) (s : State) : Out :=
  let n := n % 16
  match (s.ring n).since with
  | some t => .next ((s.advanceTo (t + max 1 (s.fld F.HST_RING_COAL_COAL_US n) * 1000)).endCycle.ringSignal n)
  | none => .next s

/-- RING_DMA_ERROR (R397): a DMA read failed or timed out. -/
def execRingDmaError (e : DmaFailure) (n : Nat) (s : State) : Out :=
  let n := n % 16
  let s := s.after e.dt
  if s.ringRuns n ∧ s.flag F.HST_RING_CTL_DIR n = false then
    .next (((((s.setAer (s.hst.cfg.aer.dmaError e.cause)).ringError n).raise F.HST_EVT_DMA_ERR).bump F.HST_CNT_DMA_ERR_COUNT).siltPost 209 n)
  else .next s

/-! ## Link and resets (R391, R529, R550) -/

/-- The link is down. -/
def State.pcieDown (s : State) : State :=
  ((s.setFld F.HST_STAT_LINK_UP 0).setFld F.HST_STAT_WIDTH 0).setFld F.HST_STAT_SPEED 0

/-- PCIE_LINK_DOWN (R391): the rings of `popped` had a popped record in transfer. -/
def execPcieLinkDown (dt : Nat) (popped : List Nat) (s : State) : Out :=
  let s := s.after dt
  if s.flag F.HST_STAT_LINK_UP then .next (((s.ringsStop popped).pcieDown).raise F.HST_EVT_LINK_DOWN) else .next s

/-- A hot reset (R391, R529): configuration space and the ring registers return to reset, pending messages are discarded, and the link is to
train again. -/
def State.hotReset (s : State) (popped : List Nat) : State :=
  let s := (((s.ringsStop popped).pcieDown).setFld F.HST_STAT_MSIX_EN 0).setFld F.HST_STAT_BUS_MASTER 0
  let s := { s with hst := { s.hst with pba := [], msgs := ((0, 0), []), funcMask := false, cfg := {} } }
  let clear (s : State) (n : Nat) : State :=
    [RegId.HST_RING_CTL, .HST_RING_COAL, .HST_RING_BASE, .HST_RING_WB, .HST_RING_DB, .HST_RING_PTR].foldl (fun s id =>
      s.setReg id n 0 (resetAt id n 0)) s
  ((List.range 16).foldl clear s).raise F.HST_EVT_HOT_RESET

/-- HOT_RESET (R391). -/
def execHotReset (dt : Nat) (popped : List Nat) (s : State) : Out := .next ((s.after dt).powered fun s => s.hotReset popped)

/-- PCIE_PERST (R537, R538, R550): PCIE_PERST_N is low at its ball; its filter takes the level after 100 ns, which acts as a hot reset, or rejects
it. In a full reset the endpoint follows that reset (R431). -/
def execPciePerst (p : Low) (popped : List Nat) (s : State) : Out :=
  let (seen, s) := (s.after p.dt).filtered 19 100 p.held
  .next (s.on seen fun s => (s.after 100).powered fun s => s.hotReset popped)

/-- BUS_MASTER_CLEAR (R388, R391): the host's write of configuration space: Bus Master Enable, which stops every ring where it clears, and the
settings `cfg` where the write gives them. -/
def execBusMasterClear (dt : Nat) (cfg : ConfigWrite) (popped : List Nat) (s : State) : Out :=
  let s := s.after dt
  if s.released = false then .next s else
  let s := s.configWrite cfg
  if cfg.bme then .next (s.setFld F.HST_STAT_BUS_MASTER 1)
  else if s.flag F.HST_STAT_BUS_MASTER then .next ((s.ringsStop popped).setFld F.HST_STAT_BUS_MASTER 0)
  else .next s

/-- PCIE_LINK_UP (R388, R550): training ends with a width and a generation. -/
def execPcieLinkUp (dt width speed : Nat) (s : State) : Out :=
  let s := s.after dt
  if s.released = true ∧ s.flag F.HST_STAT_LINK_UP = false ∧ [1, 2, 4].contains width = true ∧ 1 ≤ speed ∧ speed ≤ 4 then
    let s := ((s.setFld F.HST_STAT_LINK_UP 1).setFld F.HST_STAT_WIDTH width).setFld F.HST_STAT_SPEED speed
    .next (s.raise F.HST_EVT_LINK_UP)
  else .next s

/-! ## INT_N (R392, R528) -/

/-- Some block interrupt or ring interrupt is raised. -/
def State.anyRaised (s : State) : Bool :=
  ((List.range 42).any fun v => s.vectorRaised v) || s.hst.rings.any fun e => e.2.raised

/-- INT_N is asserted, low (R392). -/
def State.intN (s : State) : Bool := s.flag F.HST_INTN_CTL_EN && s.anyRaised

/-! ## Host ingress (R399) -/

/-- An ingress record completes at once, with KIND OTHER and its cell index as read (R338, R399, R555). -/
def State.ingressEnd (s : State) (p : Wired) (st : Status) : State :=
  let (d, _, s) := s.decideParsed (.other 0)
  (s.on (decide (st = .internal)) fun s => s.siltInternal 7 0).pushPair (wiredWords p p.cell st) (d.words 20 false)

/-- Sluice takes a two-word ingress record (R338, R399, R555). -/
def State.takeIngress (s : State) (ws : List RunWord) : State :=
  let w := ((ws.map fun (x : RunWord) => x.val).getD 0 0).toNat
  let p : Wired := ⟨20, bits w 32 16, bits w 48 16, some 0, s.service, if s.asnValid then s.asn else noAsn⟩
  if ws.any RunWord.isBad then s.ingressEnd p .poisoned
  else if p.len < 40 ∨ 9216 < p.len then (s.freeChain p.cell).ingressEnd p .internal
  else if (s.chainFor p.cell p.len).isNone then s.ingressEnd p .internal
  else { s with slc := { s.slc with wired := s.slc.wired ++ [p] } }

/-- HOST_INGRESS_RECORD (R399). -/
def execHostIngressRecord (dt : Nat) (s : State) : Out :=
  let s := s.after dt
  let n := s.fld F.HST_IN_RUNNEL_RUNNEL
  if s.runnelOn n && decide (2 ≤ s.poppable n) then
    let (ws, s) := s.popWords n 2
    .next (s.takeIngress ws)
  else .next s

end Sys2Proof.Machine
end

