-- ==== Sys2Proof/Machine/MemInt.lean ====
section
/-! DEFINITION. The Skimmer and the flip-mask's registers (R445–R449). The memories themselves, their decoder and the flip itself are in
Ops. -/

namespace Sys2Proof.Machine

/-! ## The Skimmer (R445, R446) -/

/-- The Skimmer refuses a start (R445). -/
def State.skimRefused (s : State) : Bool :=
  let first := s.fld F.MEM_SKIM_FIRST_WORD
  let last := s.fld F.MEM_SKIM_LAST_WORD
  s.skim.isSome ||
    match memWords (s.fld F.MEM_SKIM_CTL_MEM) with
    | some n => decide (last < first) || decide (n ≤ last)
    | none => true

/-- A pass begins: the summary registers are cleared (R445). -/
def State.skimBegin (s : State) : State :=
  let m := s.fld F.MEM_SKIM_CTL_MEM
  let s := { s with skim := some ⟨m, s.fld F.MEM_SKIM_FIRST_WORD, s.fld F.MEM_SKIM_LAST_WORD, false⟩ }
  let s := ((s.setFld F.MEM_SKIM_CE_COUNT 0).setFld F.MEM_SKIM_UE_COUNT 0).setFld F.MEM_STAT_ABORTED 0
  ((List.range 8).foldl (fun s i => s.setReg .MEM_SKIM_ADDR i 0 0) s).setFld F.MEM_STAT_SKIM_BUSY 1

/-- A write of MEM_SKIM_CTL (R445): during a pass only ABORT acts, and a START is refused. -/
def State.skimCtlWrite (s : State) (d : Word) : State :=
  let s := s.on s.skim.isNone fun s => s.setFld F.MEM_SKIM_CTL_MEM (bits d.toNat 0 8)
  let abort (k : Skim) : Skim := { k with abort := true }
  let s := s.on (d.getLsbD 9) fun s => { s with skim := s.skim.map abort }
  if d.getLsbD 8 then (if s.skimRefused then s.raise F.MEM_EVT_SKIM_REFUSED else s.skimBegin) else s

/-- SKIM_START (R445): START written with a memory. -/
def execSkimStart (m : Nat) (s : State) : Out := .next (s.powered fun s => s.skimCtlWrite (BitVec.ofNat 64 (m % 256 + 256)))

/-- SKIM_ABORT (R446): ABORT written. -/
def execSkimAbort (s : State) : Out := .next (s.powered fun s => s.skimCtlWrite 0x200)

/-- A write of MEM_SKIM_FIRST or MEM_SKIM_LAST: no effect during a pass (R445). -/
def State.skimParamWrite (s : State) (id : RegId) (d : Word) : State :=
  if s.skim.isSome then s else s.setReg id 0 0 (d &&& 0x1FFFFF)

/-- An uncorrectable word enters the summary (R446). -/
def State.skimNote (s : State) (w : Nat) (prior : Bool) : State :=
  let n := s.fld F.MEM_SKIM_UE_COUNT
  let s := s.bump F.MEM_SKIM_UE_COUNT
  if n < 8 then
    ((s.setFld F.MEM_SKIM_ADDR_WORD w n).setFld F.MEM_SKIM_ADDR_VALID 1 n).setFld F.MEM_SKIM_ADDR_PRIOR (cond prior 1 0) n
  else s

/-- The Skimmer reads one word through the decoder (R446). -/
def State.skimRead (s : State) (m w : Nat) : State :=
  let before := s.eccOf m w
  let corrected := match before with | some k => s.decodeWeight k == 1 | none => false
  let (r, s) := s.memRead m w
  if r.isBad then s.skimNote w ((before.map fun k => k.poisoned).getD false)
  else s.on corrected fun s => s.bump F.MEM_SKIM_CE_COUNT

/-- SKIM_WORD (R446): `dt` ns on, the next word of the pass; it waits for a memory that is not initialised (R433). -/
def execSkimWord (dt : Nat) (s : State) : Out :=
  match s.skim with
  | some k =>
    if k.abort = true ∨ k.last < k.next ∨ s.memReady k.mem = false then .next s
    else
      let s := (s.after dt).skimRead k.mem k.next
      .next { s with skim := some { k with next := k.next + 1 } }
  | none => .next s

/-- SKIM_DONE (R446): the pass has read its last word, or was aborted. -/
def execSkimDone (s : State) : Out :=
  match s.skim with
  | some k =>
    if k.abort ∨ k.last < k.next then
      let s := { s with skim := none }.setFld F.MEM_STAT_SKIM_BUSY 0
      .next ((s.setFld F.MEM_STAT_ABORTED (cond k.abort 1 0)).raise F.MEM_EVT_SKIM_DONE)
    else .next s
  | none => .next s

/-! ## The flip-mask's registers (R449) -/

/-- An ARM is refused: MEM names no memory, or one of Grotto's while the device is not unlocked (R449). -/
def State.flipRefused (s : State) : Bool :=
  let m := s.fld F.MEM_FLIP_CTL_MEM
  (memWords m).isNone || (decide (2 ≤ m) && decide (m ≤ 4) && !s.jtagOpen)

/-- A write of MEM_FLIP_CTL (R12, R449): none of its fields takes a write once LOCK is set, nor in the write that sets LOCK, which
clears ARM. -/
def State.flipCtlWrite (s : State) (d : Word) : State :=
  if s.flag F.MEM_FLIP_CTL_LOCK then s
  else if d.getLsbD 31 then (s.setFld F.MEM_FLIP_CTL_LOCK 1).setFld F.MEM_FLIP_CTL_ARM 0
  else
    let s := s.setReg .MEM_FLIP_CTL 0 0 (d &&& 0x3FEFF)
    s.on (d.getLsbD 8) fun s =>
      if s.flipRefused then s.raise F.MEM_EVT_FLIP_REFUSED else s.setFld F.MEM_FLIP_CTL_ARM 1

/-- FLIP_ARM (R449): a write of MEM_FLIP_CTL with ARM set, its other fields as `d` gives them. -/
def execFlipArm (d : Word) (s : State) : Out := .next (s.powered fun s => s.flipCtlWrite (d ||| 0x100))

/-- FLIP_LOCK (R449): LOCK written. -/
def execFlipLock (s : State) : Out := .next (s.powered fun s => s.flipCtlWrite (s.reg .MEM_FLIP_CTL 0 0 ||| 0x80000000))

/-- A write of MEM_FLIP_WORD or MEM_FLIP_DATA (R449). -/
def State.flipParamWrite (s : State) (id : RegId) (mask d : Word) : State :=
  if s.flag F.MEM_FLIP_CTL_LOCK then s else s.setReg id 0 0 (d &&& mask)

end Sys2Proof.Machine
end

