-- ==== Sys2Proof/Machine/Clepsydra.lean ====
section
/-! DEFINITION. Clepsydra (R350–R371): full time as read, the Cistern's clock, SET and STEP, the steering servo, PPS_IN and PPS_OUT, and
the mapping between ASN and time. How time passes is in Ops. -/

namespace Sys2Proof.Machine

/-! ## Full time as read (R355–R358) -/

/-- NOW_S_READ (R355): a read of CLP_NOW_S latches the nanoseconds of the same instant. -/
def State.nowLatch (s : State) : State := s.setFld F.CLP_NOW_NS_NS (s.fullNs % 10 ^ 9)

/-- NOW_S_READ (R355), `dt` ns on. -/
def execNowSRead (dt : Nat) (s : State) : Out := .next ((s.after dt).powered fun s => s.nowLatch)

/-- CLP_CIS_TIME as it reads: seconds above the 15-bit count of trickle ticks (R356). -/
def State.cisTime (s : State) : Word := BitVec.ofNat 64 (s.clp.cisTicks % 2 ^ 63)

/-- Clepsydra starts at a trickle-tick edge (R358): full time is what the Cistern holds, its nanoseconds rounded to the nearest, or 0 where VBAT has
been lost. -/
def State.clpStart (s : State) : State :=
  let (v, s) := s.fresh
  let s := s.on s.clp.cisLost fun s => { s with clp := { s.clp with cisTicks := 0, cisAcc := 0, cisLost := false } }
  let sub := s.clp.cisTicks % 32768
  let ns := (roundNearest (sub * 10 ^ 9 : Nat) 32768 (v.testBit 0)).toNat
  let s := { s with clp := { s.clp with on := true, ft := (s.clp.cisTicks / 32768 % 2 ^ 48 * 10 ^ 9 + ns) * 2 ^ 40 } }
  if s.flag F.CLP_CIS_CTL_TIME_OK then s.setFld F.CLP_STAT_FT_VALID 1 else (s.raise F.CLP_EVT_TIME_LOST).siltPost 177 0

/-- Trickle ticks until the trim accumulator passes one tick (R357); none where CIS_TRIM is 0. -/
def State.trimTicks (s : State) : Option Nat :=
  let t := s.sfld F.CLP_CIS_CTL_CIS_TRIM
  if t = 0 then none
  else
    let left := if 0 < t then 64000000 - s.clp.cisAcc else 64000000 + s.clp.cisAcc
    some ((left.toNat + t.natAbs - 1) / t.natAbs)

/-- CISTERN_TRIM_CORRECT (R357): while Clepsydra is off, the tick at which the accumulator passes one tick. -/
def execCisternTrimCorrect (s : State) : Out :=
  match s.clp.on, s.trimTicks with
  | false, some k => .next (s.advanceTo (tickTime (ticksAt s.clp.now + k)))
  | _, _ => .next s

/-! ## Samples (R362, R363) -/

/-- A sample is rejected (R363). -/
def State.rejectSample (s : State) : State :=
  let s := (s.bump F.CLP_CNT_REJECT_COUNT).raise F.CLP_EVT_SAMPLE_REJECT
  let s := { s with clp := { s.clp with rejects := s.clp.rejects + 1 } }
  s.on (s.clp.rejects == 4) fun s => { s with clp := { s.clp with jump := true } }.raise F.CLP_EVT_JUMP_PENDING

/-- A sample is accepted (R362, R364): `f` is the offset over the interval in 2⁻⁴⁰, rounded toward zero. -/
def State.acceptSample (s : State) (off : Int) (interval : Nat) : State :=
  let f := Int.tdiv (off * 2 ^ 40) (interval * 10 ^ 6 : Nat)
  let rem : Int := -(off / 2 ^ s.fld F.CLP_STEER_CTL_KP_SHIFT) * 2 ^ 40
  let clp := { s.clp with rejects := 0, jump := false, sampled := true, lastOk := s.clp.now, slewRem := rem }
  let s := ({ s with clp := clp }.lower F.CLP_EVT_JUMP_PENDING).bump F.CLP_CNT_SAMPLE_COUNT
  let rate := rateClamp (s.sfld F.CLP_RATE_I_RATE_I - f / 2 ^ s.fld F.CLP_STEER_CTL_KI_SHIFT)
  ((s.setFld F.CLP_RATE_I_RATE_I (toPattern 32 rate)).setFld F.CLP_LAST_OFS_OFS
    (toPattern 32 (max (-(2 ^ 31)) (min (2 ^ 31 - 1) off)))).setFld F.CLP_STAT_STEER 1

/-- One offset sample (R362, R363); a sample exactly at the jump limit is accepted. -/
def State.sample (s : State) (off : Int) (interval : Nat) : State :=
  if s.fld F.CLP_STEER_LIM_JUMP_LIMIT_US * 1000 < off.natAbs then s.rejectSample else s.acceptSample off interval

/-! ## SET and STEP (R359, R360) -/

/-- A timed frame of an open region is overtaken by a SET or STEP: its TX_LATE is held with its item, and with it its reservation (R122, R314,
R360). -/
def State.specLate (s : State) (f : TxFrame) : State :=
  let late (i : SpecItem) : SpecItem := if i.frame = some f.id then { i with status := .txLate } else i
  { s with cht := { s.cht with specs := s.cht.specs.map late } }

/-- A held frame meets a SET or STEP (R360): TX_LATE for launch modes 1 and 2. -/
def State.overtaken (s : State) (j : Nat) (f : TxFrame) : State :=
  if f.stage = .held ∧ f.desc.mode ≠ 0 then
    match f.origin with
    | .spec _ _ => s.specLate f
    | _ => s.completeTx j f .txLate
  else s

/-- An instant of full time, in ns, on the scale that is `d` ns on. -/
def shiftNs (d : Int) (t : Nat) : Nat := ((t : Int) + d).toNat

/-- Instants that have been measured or reckoned in full time move with it, so that what waits on them ends as it would have without the SET or
STEP (R360): acknowledgement windows, and the SFDs of frames in reception. -/
def State.shiftTimes (s : State) (d : Int) : State :=
  let sfd (i : SfdInfo) : SfdInfo := { i with fullNs := shiftNs d i.fullNs }
  let frame (f : TxFrame) : TxFrame :=
    if f.stage = .awaitAck then { f with ackFrom := shiftNs d f.ackFrom, ackTo := shiftNs d f.ackTo }
    else { f with rfFull := shiftNs d f.rfFull }
  let claim (c : Claim) : Claim := { c with sfd := c.sfd.map sfd }
  { s with
    txf := { s.txf with chains := s.txf.chains.map fun (e : Nat × TxfChain) => (e.1, { e.2 with frames := e.2.frames.map frame }) }
    mac := { s.mac with answered := s.mac.answered.map fun w =>
      (w.1, w.2.1, w.2.2.1, shiftNs d w.2.2.2.1, shiftNs d w.2.2.2.2) }
    slc := { s.slc with rx := s.slc.rx.map fun (e : Nat × RxFrame) => (e.1, { e.2 with sfd := sfd e.2.sfd }) }
    plm := { s.plm with rills := s.plm.rills.map fun (e : Nat × Rill) => (e.1, { e.2 with claim := e.2.claim.map claim }) }
    twn := { s.twn with workFrom := shiftNs d s.twn.workFrom } }

/-- Full time becomes `q` 2⁻⁴⁰ ns, through an accepted SET or STEP (R360). -/
def State.jumpTo (s : State) (q : Nat) : State :=
  let d : Int := (q / 2 ^ 40 : Nat) - (s.fullNs : Int)
  let past := s.clp.asnPast.map fun _ => (0, 0, 0, 0, 1)
  let s := { s with clp := { s.clp with ft := q, rejects := 0, jump := false, asnPast := past } }.shiftTimes d
  let s := (s.lower F.CLP_EVT_JUMP_PENDING).raise F.CLP_EVT_STEP_DONE
  (List.range 16).foldl (fun s j => (s.tx j).frames.foldl (fun s f => s.overtaken j f) s) s

/-- SET and STEP are refused while ARMED or ASN_VALID is set (R359). -/
def State.timeHeld (s : State) : Bool := s.flag F.CLP_STAT_ARMED || s.flag F.CLP_STAT_ASN_VALID

/-- SET (R358, R359): also sets FT_VALID and TIME_OK. -/
def State.clpSet (s : State) : State :=
  let ns := s.fld F.CLP_SET_NS_NS
  if s.timeHeld || decide (999999999 < ns) then s.raise F.CLP_EVT_CMD_REFUSED
  else ((s.jumpTo ((s.fld F.CLP_SET_S_SEC * 10 ^ 9 + ns) * 2 ^ 40)).setFld F.CLP_STAT_FT_VALID 1).setFld F.CLP_CIS_CTL_TIME_OK 1

/-- STEP (R359): refused where full time would leave its range. -/
def State.clpStep (s : State) : State :=
  let q : Int := s.clp.ft + s.sfld F.CLP_STEP_NS * 2 ^ 40
  if s.timeHeld || decide (q < 0) || decide (2 ^ 48 * 10 ^ 9 * 2 ^ 40 ≤ q) then s.raise F.CLP_EVT_CMD_REFUSED
  else s.jumpTo q.toNat

/-- SET (R359), `dt` ns on. -/
def execSet (dt : Nat) (s : State) : Out := .next ((s.after dt).powered fun s => s.clpSet)

/-- STEP (R359, R360), `dt` ns on. -/
def execStep (dt : Nat) (s : State) : Out := .next ((s.after dt).powered fun s => s.clpStep)

/-! ## The mapping between ASN and time (R369–R371) -/

/-- A schedule write or command is mirrored (R461, class 2): the register, by its number and copy, and the word written. -/
def State.mirrorReg (s : State) (id : RegId) (i : Nat) (d : Word) : State := s.mirrorPost 2 (64 * id.ctorIdx + i) [d]

/-- A mapping begins while a HANDOVER has arrived that has not taken effect (R471): the first slot start from now on is that of T0, or where T0 has
passed the next. -/
def State.handoverSlot (s : State) : State :=
  let h := if s.fullNs ≤ s.anchorNs + 1 then s.asn else (s.asn + 1) % 2 ^ 40
  s.on s.twn.arrived fun s => { s with twn := { s.twn with handing := some h } }

/-- ASN_VALID sets (R132, R370). -/
def State.asnStart (s : State) : State :=
  let s := { s with clp := { s.clp with asnFrom := s.fullNs } }.handoverSlot
  ((s.setFld F.CLP_STAT_ASN_VALID 1).raise F.CLP_EVT_ASN_START).macUpdate

/-- ARM (R370): refused with a slot length out of range; with T0 past, the mapping holds at once. -/
def State.clpArm (s : State) : State :=
  let len := s.fld F.MAC_SLOT_SLOT_LEN_US
  if len < 10000 ∨ 50000 < len then s.raise F.CLP_EVT_CMD_REFUSED
  else
    let s := (s.setFld F.CLP_STAT_ARMED 1).mirrorReg .CLP_CMD 0 4
    if s.anchorNs ≤ s.fullNs ∧ s.asnValid = false then s.asnStart else s

/-- DISARM (R370). -/
def State.clpDisarm (s : State) : State :=
  let s := s.on s.asnValid fun s => { s with clp := { s.clp with
    asnPast := some (s.clp.asnFrom, s.fullNs, s.anchorNs, s.fld F.CLP_ANCHOR_ASN_ASN, s.slotLen) } }
  let s := s.on s.twn.arrived fun s => { s with twn := { s.twn with handing := none } }
  (((s.setFld F.CLP_STAT_ARMED 0).setFld F.CLP_STAT_ASN_VALID 0).mirrorReg .CLP_CMD 0 8).macUpdate

/-- ARM (R370), `dt` ns on. -/
def execArm (dt : Nat) (s : State) : Out := .next ((s.after dt).powered fun s => s.clpArm)

/-- DISARM (R370), `dt` ns on. -/
def execDisarm (dt : Nat) (s : State) : Out := .next ((s.after dt).powered fun s => s.clpDisarm)

/-- ASN_START (R370): full time reaches T0 while ARMED. -/
def execAsnStart (s : State) : Out :=
  if s.flag F.CLP_STAT_ARMED ∧ s.asnValid = false then .next (s.advanceToFull s.anchorNs).asnStart else .next s

/-- A write of CLP_ANCHOR_ASN, CLP_ANCHOR_S or CLP_ANCHOR_NS (R371, R461). -/
def State.anchorWrite (s : State) (id : RegId) (mask d : Word) : State :=
  if s.flag F.CLP_STAT_ARMED then s.raise F.CLP_EVT_CFG_IGNORED else (s.setReg id 0 0 (d &&& mask)).mirrorReg id 0 d

/-! ## Steering (R361–R366) -/

/-- Samples are taken: SRC is 1 or 2 (R361). -/
def State.steered (s : State) : Bool := s.fld F.CLP_STEER_CTL_SRC == 1 || s.fld F.CLP_STEER_CTL_SRC == 2

/-- STEER as it reads (R361, R363, R364): 3 jump pending, 0 free running, else tracking or holdover. -/
def State.steer (s : State) : Nat := if s.clp.jump then 3 else if s.steered then s.fld F.CLP_STAT_STEER else 0

/-- LOCKED as it reads (R366). -/
def State.clpLocked (s : State) : Bool :=
  s.steer == 1 && s.clp.sampled && decide ((s.sfld F.CLP_LAST_OFS_OFS).natAbs ≤ 2 ^ s.fld F.CLP_STEER_CTL_LOCK)

/-- A write of CLP_OFS_SAMPLE (R361): a sample under SRC 1, ignored otherwise. -/
def State.ofsWrite (s : State) (d : Word) : State :=
  if s.fld F.CLP_STEER_CTL_SRC = 1 then s.sample d.toInt (max 1 (s.fld F.CLP_STEER_CTL_INTERVAL_MS))
  else s.raise F.CLP_EVT_CFG_IGNORED

/-- OFS_SAMPLE (R361–R363), `dt` ns on. -/
def execOfsSample (dt : Nat) (d : Word) (s : State) : Out := .next ((s.after dt).powered fun s => s.ofsWrite d)

/-- SLEW_END (R362): slew_rem reaches 0. -/
def execSlewEnd (s : State) : Out :=
  match s.clp.on, s.slewLeft with
  | true, some d =>
    let s := s.advance d
    .next { s with clp := { s.clp with slewRem := 0 } }
  | _, _ => .next s

/-- HOLDOVER (R364): LOSS × 100 ms of elapsed time without an accepted sample; one of the cycle in which they end still arrives, so it comes at that
cycle's end (DESIGN CHOICE, log entry 154). -/
def execHoldover (s : State) : Out :=
  if s.steered ∧ s.fld F.CLP_STAT_STEER ≠ 2 then
    let s := (s.advanceTo (s.clp.lastOk + max 1 (s.fld F.CLP_STEER_LIM_LOSS) * 100000000)).endCycle
    .next ((s.setFld F.CLP_STAT_STEER 2).raise F.CLP_EVT_HOLDOVER)
  else .next s

/-- MASTER_CHG (R365). -/
def State.masterChg (s : State) : State :=
  ({ s with clp := { s.clp with rejects := 0 } }.lower F.CLP_EVT_JUMP_PENDING).raise F.CLP_EVT_MASTER_CHANGE

/-- RESET_I (R365). -/
def State.resetI (s : State) : State := s.setFld F.CLP_RATE_I_RATE_I 0

/-- MASTER_CHG (R365), `dt` ns on. -/
def execMasterChg (dt : Nat) (s : State) : Out := .next ((s.after dt).powered fun s => s.masterChg)

/-- RESET_I (R365), `dt` ns on. -/
def execResetI (dt : Nat) (s : State) : Out := .next ((s.after dt).powered fun s => s.resetI)

/-- A write of CLP_CMD (R556): its commands in bit order, each judged against what the ones before left. -/
def State.clpCmdWrite (s : State) (d : Word) : State :=
  let s := s.on (d.getLsbD 0) State.clpSet
  let s := s.on (d.getLsbD 1) State.clpStep
  let s := s.on (d.getLsbD 2) State.clpArm
  let s := s.on (d.getLsbD 3) State.clpDisarm
  let s := s.on (d.getLsbD 4) State.masterChg
  s.on (d.getLsbD 5) State.resetI

/-- A write of CLP_STEER_CTL (R361, R364): where SRC begins to take samples, tracking and the LOSS time start. -/
def State.steerCtlWrite (s : State) (d : Word) : State :=
  let was := s.steered
  let s := s.setReg .CLP_STEER_CTL 0 0 (d &&& 0xFFFF0FF3)
  s.on (!was && s.steered) fun s =>
    { s with clp := { s.clp with lastOk := s.clp.now } }.setFld F.CLP_STAT_STEER 1

/-! ## PPS (R367, R368) -/

/-- A stamp of PPS_IN of `t` ns of full time is written, and under SRC 2 gives a sample (R367). -/
def State.ppsStamp (s : State) (t : Nat) : State :=
  let c := t % 10 ^ 9
  let s := (s.setFld F.CLP_PPS_TS_S_SEC (t / 10 ^ 9)).setFld F.CLP_PPS_TS_NS_NS c
  s.on (s.fld F.CLP_STEER_CTL_SRC == 2) fun s => s.sample (if c < 500000000 then (c : Int) else (c : Int) - 1000000000) 1000

/-- An edge of PPS_IN behind its filter (R367): with IN_EN, the active one is counted and stamped in the full time of its arrival, `arrived` ns. -/
def State.ppsEdge (s : State) (on : Bool) (arrived : Nat) : State :=
  if s.flag F.CLP_PPS_CTL_IN_EN = true ∧ on = !s.flag F.CLP_PPS_CTL_IN_POL then
    let (v, s) := s.fresh
    let t := ((arrived : Int) + s.sfld F.CLP_PPS_CTL_IN_ADJ + (v % 11 : Nat) - 5).toNat
    let s := s.bump F.CLP_CNT_PPS_IN_COUNT
    { s with clp := { s.clp with ppsIn := some s.clp.now } }.ppsStamp t
  else s

/-- PPS_IN_EDGE (R367, R537): PPS_IN changes at the ball. Its filter takes the new level, 8 cycles of the counting clock later, or does not see the
change; a return to the level that the filter holds is no edge. A SET of the cycle in which the edge arrives comes before it (R379; DESIGN CHOICE, log
entry 154). -/
def execPpsInEdge (e : Change) (s : State) : Out :=
  let (seen, s) := (s.after e.dt).filtered 28 37 e.held
  let was := s.clp.ppsLevel.getD (!e.on)
  let hold (s : State) (l : Bool) : State := { s with clp := { s.clp with ppsLevel := some l } }
  if seen = true ∧ was ≠ e.on then .next ((hold (s.after 33) e.on).ppsEdge e.on s.fullNs) else .next (hold s was)

/-- PPS_MISS (R367): no edge within 1,001 ms of the previous one. -/
def execPpsMiss (s : State) : Out :=
  match s.clp.ppsIn with
  | some t =>
    let s := s.advanceTo (t + 1001000000)
    .next ({ s with clp := { s.clp with ppsIn := none } }.raise F.CLP_EVT_PPS_MISS)
  | none => .next s

/-- A write of CLP_PPS_CTL (R367, R368): without IN_EN no edge is awaited; without OUT_EN the pin drives its inactive level. -/
def State.ppsCtlWrite (s : State) (d : Word) : State :=
  let s := s.setReg .CLP_PPS_CTL 0 0 (d &&& 0xFFFFFF0F)
  { s with clp := { s.clp with
      ppsIn := if d.getLsbD 0 then s.clp.ppsIn else none
      ppsOut := if d.getLsbD 2 then s.clp.ppsOut else none } }

/-- PPS_OUT_ASSERT (R368): at the next full-time second boundary. -/
def execPpsOutAssert (s : State) : Out :=
  if s.flag F.CLP_PPS_CTL_OUT_EN ∧ s.clp.on = true ∧ s.clp.ppsOut = none then
    let s := s.advanceToFull ((s.fullNs + 999999999) / 10 ^ 9 * 10 ^ 9)
    .next { s with clp := { s.clp with ppsOut := some s.clp.now } }
  else .next s

/-- PPS_OUT_RELEASE (R368): OUT_WIDTH × 100 µs after it asserted. -/
def execPpsOutRelease (s : State) : Out :=
  match s.clp.ppsOut with
  | some t =>
    let s := s.advanceTo (t + max 1 (s.fld F.CLP_PPS_CTL_OUT_WIDTH) * 100000)
    .next { s with clp := { s.clp with ppsOut := none } }
  | none => .next s

/-- The level of PPS_OUT (R368). -/
def State.ppsOutLevel (s : State) : Bool := s.clp.ppsOut.isSome != s.flag F.CLP_PPS_CTL_OUT_POL

end Sys2Proof.Machine
end

