-- ==== Sys2Proof/Machine/Schedule.lean ====
section
/-! DEFINITION. Writes of the MAC schedule that take effect at any time (R131, R133, R137, R159), and the application of mirrored
schedule writes (R461, class 2). -/

namespace Sys2Proof.Machine

/-- The bits of a register that software writes as they stand (R11: RW, and RWL until it is locked). -/
def RegId.rwMask (id : RegId) : Word :=
  BitVec.ofNat 64 ((id.fields.map fun f => if f.acc = .rw ∨ f.acc = .rwl then (2 ^ f.w - 1) * 2 ^ f.lo else 0).sum)

/-- The entry before a write of the cell table is kept for its cycle (R160). -/
def State.keepCell (s : State) (i : Nat) : State :=
  let old := match (s.memRead 6 i).1 with | .good v => some v | .bad _ => none
  let was := s.cellsWas
  { s with mac := { s.mac with cellWas := (s.clp.now, if was.any fun e => e.1 == i then was else (i, old) :: was) } }

/-- Entry `i` of the cell table is written (R133); the mirror carries the index and the entry. -/
def State.cellSet (s : State) (i : Nat) (d : Word) : State :=
  ((s.keepCell i).memWrite 6 i d.toNat).mirrorPost 2 (64 * RegId.MAC_CELL_DATA.ctorIdx) [BitVec.ofNat 64 i, d]

/-- A write of MAC_CELL_DATA (R133): the entry that MAC_CELL_IDX names. -/
def State.cellWrite (s : State) (d : Word) : State := s.cellSet (s.fld F.MAC_CELL_IDX_IDX) d

/-- A write of MAC_PAUSE, MAC_BCN_CFG_j or MAC_BCN_MASK_j (R131), mirrored; ARM that sets reaches the beacons of this cycle (R160). -/
def State.schedWrite (s : State) (id : RegId) (i : Nat) (d : Word) : State :=
  let was := s.flag F.MAC_PAUSE_ARM
  let s := (s.setReg id i 0 (d &&& id.rwMask)).mirrorReg id i (d &&& id.rwMask)
  s.on (!was && s.flag F.MAC_PAUSE_ARM) fun s => s.pauseArmed

/-- A mirrored schedule write as though written here (R461, class 2): register number and copy in `key`. -/
def State.schedApply (s : State) (key : Nat) (ws : List Word) : State :=
  let i := key % 64
  let d := ws.getD 0 0
  let regs : List RegId := [.MAC_SLOT, .MAC_TMPL_0, .MAC_TMPL_1, .MAC_TMPL_2, .MAC_SF]
  let free : List RegId := [.MAC_PAUSE, .MAC_BCN_CFG, .MAC_BCN_MASK]
  let anchors : List RegId := [.CLP_ANCHOR_ASN, .CLP_ANCHOR_S, .CLP_ANCHOR_NS]
  let named (l : List RegId) : Option RegId := l.find? fun id => id.ctorIdx == key / 64
  if key / 64 = RegId.MAC_CELL_DATA.ctorIdx then s.cellSet (d.toNat % 8192) (ws.getD 1 0)
  else if key / 64 = RegId.CLP_CMD.ctorIdx then if d = 4 then s.clpArm else if d = 8 then s.clpDisarm else s
  else match named regs, named free, named anchors with
    | some id, _, _ => s.macProfileWrite id i d
    | _, some id, _ => s.schedWrite id i d
    | _, _, some id => s.anchorWrite id id.rwMask d
    | _, _, _ => s

/-- What a bulk sync sends of the schedule (R464): every register of class 2 and every cell, then ARM or DISARM as the state is. An
element is the first word of its message, without its class, and the cell's index. -/
def schedKeys : List (Nat × Nat) :=
  let regs : List (RegId × Nat) := [(.MAC_SLOT, 1), (.MAC_TMPL_0, 1), (.MAC_TMPL_1, 1), (.MAC_TMPL_2, 1), (.MAC_SF, 8), (.MAC_PAUSE, 1),
    (.MAC_BCN_CFG, 16), (.MAC_BCN_MASK, 16), (.CLP_ANCHOR_ASN, 1), (.CLP_ANCHOR_S, 1), (.CLP_ANCHOR_NS, 1)]
  (regs.flatMap fun e => (List.range e.2).map fun i => (64 * e.1.ctorIdx + i, 0)) ++
    (List.range 8192).map (fun i => (64 * RegId.MAC_CELL_DATA.ctorIdx, i)) ++ [(64 * RegId.CLP_CMD.ctorIdx, 0)]

/-- The register's word that a schedule message of a bulk sync carries, or the command that restores ARMED. -/
def State.schedRegs (s : State) (key : Nat) : List Word :=
  if key / 64 = RegId.CLP_CMD.ctorIdx then [if s.flag F.CLP_STAT_ARMED then 4 else 8]
  else match ([.MAC_SLOT, .MAC_TMPL_0, .MAC_TMPL_1, .MAC_TMPL_2, .MAC_SF, .MAC_PAUSE, .MAC_BCN_CFG, .MAC_BCN_MASK, .CLP_ANCHOR_ASN,
      .CLP_ANCHOR_S, .CLP_ANCHOR_NS] : List RegId).find? fun id => id.ctorIdx == key / 64 with
    | some id => [s.reg id (key % 64) 0]
    | none => [0]

/-- The words of one schedule message of a bulk sync, read as it is sent; a cell is read through the decoder (R439). -/
def State.schedWords (s : State) (key i : Nat) : List Word × State :=
  if key / 64 = RegId.MAC_CELL_DATA.ctorIdx then
    let (r, s) := s.memRead 6 i
    ([BitVec.ofNat 64 i, BitVec.ofNat 64 r.val], s)
  else (s.schedRegs key, s)

end Sys2Proof.Machine
end

