-- ==== Sys2Proof/Machine/Twin.lean ====
section
/-! DEFINITION. The Twin block (R453–R475): roles, the Twin link, heartbeats, mirroring and bulk sync, takeover, handover, and the
packets of port 21. -/

namespace Sys2Proof.Machine

/-- ROLE (R453). -/
def State.role (s : State) : Nat := s.fld F.TWN_STAT_ROLE

/-- A lane is locked (R456). -/
def State.linkUp (s : State) : Bool := s.fld F.TWN_STAT_LANE_LOCK != 0

/-! ## Enable (R455) -/

/-- The takeover frame of R465 with `fcs` FCS bytes. -/
def State.takeoverFrame (s : State) (fcs : Nat) : List Byte :=
  buildVendor (s.fld F.TWN_TK_TK_SECLVL) (s.fld F.MAC_ADDR_PAN) (s.fld F.MAC_ADDR_SHORT) fcs
    (leBytes 3 (s.fld F.MAC_VENDOR_OUI) ++ [5] ++ leBytes 2 (s.fld F.TWN_STAT_TERM) ++ leBytes 1 (s.fld F.TWN_CTL_UNIT))

/-- The takeover carrier: chain and carrier, PHY mode and MCS. -/
def State.tkMode (s : State) : Nat × Nat := s.frameMode (s.fld F.TWN_TK_TK_CHAIN) (s.fld F.TWN_TK_TK_CARRIER) none

/-- FCS bytes of the takeover frame. -/
def State.tkFcs (s : State) : Nat := s.txFcsLen (s.fld F.TWN_TK_TK_CHAIN) (s.fld F.TWN_TK_TK_CARRIER) s.tkMode.1

/-- The check of R455: 0 where all pass. -/
def State.twnCheckCode (s : State) : Nat :=
  let lvl := s.fld F.TWN_TK_TK_SECLVL
  if s.fld F.TWN_AIR_AIR_CHAINS = 0 then 1
  else if lvl < 1 ∨ 3 < lvl then 2
  else if !s.flag F.TXF_CAR_CFG_EN (s.fld F.TWN_TK_TK_CHAIN) (s.fld F.TWN_TK_TK_CARRIER) ||
      decide (1000000 < s.airNs s.tkMode.1 s.tkMode.2 (s.takeoverFrame s.tkFcs).length) then 3
  else 0

/-- A successful enable (R453, R455, R457): PAIRING, heartbeats from now on, and nothing transmitted: what the launch units hold ends as
the frames of a yielding device do. -/
def State.twnStart (s : State) : State :=
  let t := { s.twn with enabledAt := s.clp.now, beatAt := some (s.twn.beatAt.getD s.clp.now), peer := none, conflict := false }
  ({ s with twn := t }.yieldFrames.setFld F.TWN_CTL_EN 1).setFld F.TWN_STAT_ROLE 1

/-- EN goes from 1 to 0 (R453): ALONE. -/
def State.twnStop (s : State) : State :=
  let t := { s.twn with
    act := false, conflict := false, goodbye := false, expected := [], queue := [], overflow := false, bulk := [], bulkOpen := false
    bulkAsked := false, handing := none, handed := false, arrived := false, suspects := [] }
  (({ s with twn := t }.setFld F.TWN_CTL_EN 0).setFld F.TWN_STAT_ROLE 0).setFld F.TWN_STAT_SYNCED 0

/-- A write of TWN_CTL (R455): fields other than EN take effect only while EN is 0. -/
def State.twnCtlWrite (s : State) (d : Word) : State :=
  if s.flag F.TWN_CTL_EN then if d.getLsbD 0 then s else s.twnStop
  else
    let s := s.setReg .TWN_CTL 0 0 (d &&& 0x3E)
    if !d.getLsbD 0 then s
    else match s.twnCheckCode with
      | 0 => s.twnStart
      | c => (s.setFld F.TWN_STAT_REFUSE c).raise F.TWN_EVT_ENABLE_REFUSED

/-- A write of TWN_TIMING, TWN_TK or TWN_AIR (R455). -/
def State.twnParamWrite (s : State) (id : RegId) (d : Word) : State :=
  if s.flag F.TWN_CTL_EN then s else s.setReg id 0 0 (d &&& id.rwMask)

/-- TWIN_ENABLE (R455): a write of TWN_CTL. -/
def execTwinEnable (d : Word) (s : State) : Out := .next (s.powered fun s => s.twnCtlWrite d)

/-- PAIR_WAIT_EXPIRY (R455): no heartbeat settled the role. -/
def execPairWaitExpiry (s : State) : Out :=
  if s.role = 1 then
    let s := s.advanceTo (s.twn.enabledAt + max 1 (s.fld F.TWN_TIMING_PAIR_WAIT_MS) * 1000000)
    .next (if s.twn.conflict then s else s.enterActive)
  else .next s

/-! ## The link (R456–R460) -/

/-- TWIN_LANE_LOCK (R456): lane `k` gains or loses block lock. With no lane left, what Eddy holds on the link is discarded (R520). -/
def execTwinLaneLock (dt k : Nat) (up : Bool) (s : State) : Out :=
  let s := s.after dt
  let m := s.fld F.TWN_STAT_LANE_LOCK
  let b := 2 ^ (k % 2)
  let s := s.setFld F.TWN_STAT_LANE_LOCK (if up then m ||| b else m &&& (3 - b))
  .next (if s.linkUp then s else ((s.unhold 8).2.unhold 9).2)

/-- HEARTBEAT_SEND (R457): every 250 µs ± 1 µs from the enable. -/
def execHeartbeatSend (s : State) : Out :=
  match s.twn.beatAt with
  | some t =>
    let s := s.advanceTo t
    let (v, s) := s.fresh
    .next ({ s with twn := { s.twn with beatAt := some (t + 249000 + v % 2001) } }.twnSend 1 [s.twnWord])
  | none => .next s

/-- The payload word of HEARTBEAT, TAKEOVER, HANDOVER and GOODBYE as received (R456). -/
def peerOf (w : Nat) : TwnPeer := ⟨bits w 0 2, bits w 2 1, w.testBit 3, w.testBit 4, bits w 16 16⟩

/-- The link path after a good heartbeat (R458, R460): restored at the fourth in a row with no gap above 1 ms. -/
def State.linkHeard (s : State) : State :=
  let near := match s.twn.lastHb with | some t => decide (s.clp.now - t ≤ 1000000) | none => false
  let n := if near then s.twn.streak + 1 else 1
  let s := { s with twn := { s.twn with lastHb := some s.clp.now, streak := n } }
  if 4 ≤ n ∧ s.flag F.TWN_STAT_LINK_OK = false then
    ({ s with twn := { s.twn with restored := some s.clp.now } }.setFld F.TWN_STAT_LINK_OK 1).raise F.TWN_EVT_LINK_RESTORE
  else s

/-- LINK_SILENCE (R458): 1 ms without a good heartbeat; one of the cycle in which it ends still arrives, so it comes at that cycle's end (R460;
DESIGN CHOICE, log entry 154). -/
def execLinkSilence (s : State) : Out :=
  match s.twn.lastHb with
  | some t =>
    if s.flag F.TWN_STAT_LINK_OK then
      let s := (s.advanceTo (t + 1000000)).endCycle
      let s := { s with twn := { s.twn with streak := 0 } }
      .next ((s.setFld F.TWN_STAT_LINK_OK 0).raise F.TWN_EVT_LINK_FAIL)
    else .next s
  | none => .next s

/-- A heartbeat with the device's own UNIT (R454). -/
def State.pairConflict (s : State) (p : TwnPeer) : State :=
  let s := (s.raise F.TWN_EVT_PAIR_CONFLICT).siltPost 243 p.unit
  match s.role with
  | 3 =>
    if p.role = 3 ∧ s.fld F.TWN_STAT_TERM ≤ p.term then
      let s := (s.yieldTo p.term).setFld F.TWN_STAT_ROLE 1
      { s with twn := { s.twn with conflict := true } }
    else s
  | _ => { s with twn := { s.twn with conflict := true } }

/-- A heartbeat of the peer settles or changes the role (R455, R468). -/
def State.heartbeatRole (s : State) (p : TwnPeer) : State :=
  let unit := s.fld F.TWN_CTL_UNIT
  let term := s.fld F.TWN_STAT_TERM
  match s.role, p.role with
  | 1, 3 => if s.twn.conflict then s else (s.setFld F.TWN_STAT_TERM p.term).enterStandby
  | 1, 1 =>
    let mine := s.flag F.TWN_CTL_PREFER
    if s.twn.conflict then s
    else if (mine && !p.prefer) || (mine == p.prefer && unit == 0) then s.enterActive
    else s.enterStandby
  | 3, 3 => if term < p.term ∨ (term = p.term ∧ p.unit = 0 ∧ unit = 1) then s.yieldTo p.term else s
  | _, _ => s

/-- A good HEARTBEAT (R454–R458). TWN_PEER_OFS is the receive time minus the stamp, saturating at the ends of the signed
range (R474). -/
def State.heartbeat (s : State) (at_ stamp w : Nat) : State :=
  let p := peerOf w
  let s := s.bump F.TWN_CNT_HB_RX_COUNT
  let s := s.setFld F.TWN_PEER_OFS_OFS (toPattern 32 (max (-2147483648) (min 2147483647 ((at_ : Int) - stamp))))
  let s := { s with twn := { s.twn with peer := some p } }.linkHeard
  if p.unit = s.fld F.TWN_CTL_UNIT then s.pairConflict p else s.heartbeatRole p

/-! ## Mirroring (R461–R464) -/

/-- The words of a node-table slot as a bulk sync reads them (R464): through the decoder; an uncorrectable slot is dropped, and reads empty
(R439, R444). -/
def State.syncSlot (s : State) (i : Nat) : List Word × State :=
  let (e, s) := s.readEntry i
  (((e.getD {}).words).map fun v => BitVec.ofNat 64 v, s)

/-- A drift record as a bulk sync reads it (R464): an uncorrectable one is dropped, and reads 0 (R439, R444). -/
def State.syncDrift (s : State) (i : Nat) : Nat × State :=
  match s.memRead 5 i with
  | (.good v, s) => (v, s)
  | (.bad _, s) => (0, s.dropWord 5 i)

/-- The words of one message of a bulk sync (R464), read as it is sent. -/
def State.bulkWords (s : State) (cls key i : Nat) : List Word × State :=
  let (ws, s) := match cls with
    | 0 => s.syncSlot key
    | 1 => let (v, s) := s.syncDrift key; ([BitVec.ofNat 64 v], s)
    | _ => s.schedWords key i
  (BitVec.ofNat 64 (cls + 256 * key) :: ws, s)

/-- The node-table slots of a list that are valid, as a bulk sync reads them. -/
def State.validSlots (s : State) : List Nat → List Nat × State
  | [] => ([], s)
  | i :: is =>
    let (e, s) := s.readEntry i
    let (l, s) := s.validSlots is
    (if (e.getD {}).valid then i :: l else l, s)

/-- The drift records of a list that are valid, as a bulk sync reads them. -/
def State.validDrifts (s : State) : List Nat → List Nat × State
  | [] => ([], s)
  | i :: is =>
    let (v, s) := s.syncDrift i
    let (l, s) := s.validDrifts is
    (if v.testBit 28 then i :: l else l, s)

/-- The memories that a bulk sync reads. -/
def bulkMems : List Nat := [1, 5, 6]

/-- The pass of a bulk sync (R464): every valid node-table slot and drift record in index order, then the schedule. -/
def State.bulkPass (s : State) : State :=
  let (slots, s) := s.validSlots (s.liveSlots 0 524288)
  let (drifts, s) := s.validDrifts (s.liveWords 5)
  let bulk := slots.map (fun i => (0, i)) ++ drifts.map (fun i => (1, i)) ++ schedKeys.map (fun e => (2, 2 ^ 20 * e.2 + e.1))
  { s with twn := { s.twn with bulk := bulk, bulkOpen := true, bulkAsked := false, bulkAt := (0, 0) } }

/-- A bulk sync begins (R464), or waits until the memories it reads are initialised (R433). -/
def State.bulkStart (s : State) : State :=
  if s.memsReady bulkMems then s.bulkPass else { s with twn := { s.twn with bulk := [], bulkOpen := false, bulkAsked := true } }

/-- A mirror message leaves, and counts unless Eddy drops it (R461, R520). -/
def State.mirrorOut (s : State) (ws : List Word) : State :=
  (s.twnSend 2 ws).on (!s.twnDrops 2) fun s => s.bump F.TWN_CNT_MIRROR_TX_COUNT

/-- The next message of the pass leaves (R464). -/
def State.bulkNext (s : State) (cls k : Nat) (rest : List (Nat × Nat)) : State :=
  let (ws, s) := { s with twn := { s.twn with bulk := rest, bulkAt := (cls, k + 1) } }.bulkWords cls (k % 2 ^ 20) (k / 2 ^ 20)
  s.mirrorOut ws

/-- MIRROR_SEND (R461, R464): the next message of the stream leaves: RESYNC after an overflow, a live message, one of the bulk pass, or its
SYNC_END. -/
def execMirrorSend (s : State) : Out :=
  if s.role = 3 ∧ s.linkUp = true then
    let s := (s.on (s.twn.bulkAsked && s.memsReady bulkMems) State.bulkPass).keyGroups 8192
    if s.twn.overflow then .next ({ s with twn := { s.twn with overflow := false } }.twnSend 8 [])
    else match s.twn.queue, s.twn.bulk with
      | m :: ms, _ => .next ({ s with twn := { s.twn with queue := ms } }.mirrorOut m)
      | [], (cls, k) :: ks => .next (s.bulkNext cls k ks)
      | [], [] =>
        if s.twn.bulkOpen then .next ({ s with twn := { s.twn with bulkOpen := false } }.twnSend 3 []) else .next s
  else .next s

/-- One entry of a floor message (R463): the counter of the group or cell is raised to the mirrored FLOOR. -/
def State.floorEntry (s : State) (ovr : Bool) (i : Nat) (w : Nat) : State :=
  let (e, s) := s.readSlot ovr i
  let s := s.updateSlot ovr i fun e => { e with ctr := max e.ctr (w / 2 ^ 32) }
  let s := (s.floorDue (pageBit ovr i)).counterMarks ovr i
  if e.epoch = w % 2 ^ 32 then s
  else (s.raise F.TWN_EVT_KEY_MISMATCH).siltPost 241 ((if ovr then 4096 else 0) + i)

/-- A floor message (R463): its key names type and page. -/
def State.floorApply (s : State) (key : Nat) (ws : List Word) : State :=
  let (lo, n) := pageSpan (key / 64) (key % 64)
  (List.range (min n ws.length)).foldl (fun s k => s.floorEntry (key / 64 == 3) (lo + k) (ws.getD k 0).toNat) s

/-- A MIRROR message is applied on the standby (R461). -/
def State.mirrorApply (s : State) (ws : List Word) : State :=
  if s.role = 2 then
    let head := (ws.getD 0 0).toNat
    let key := head / 256
    let rest := ws.drop 1
    let s := s.bump F.TWN_CNT_MIRROR_RX_COUNT
    match head % 256 with
    | 0 => s.writeEntry (key % 524288) (entryOf (rest.map fun (w : Word) => w.toNat))
    | 1 => s.memWrite 5 (key % 524288) (rest.getD 0 0).toNat
    | 2 => s.schedApply key rest
    | 3 => s.enginePush (s.fld F.TWN_RUNNEL_KEY_RUNNEL) (rest.map fun w => mkWord w)
    | 4 => s.floorApply key rest
    | _ => s
  else s

/-- A RESYNC is received (R461, R464): the standby has lost the stream and asks for a bulk sync; the active starts one. -/
def State.resyncArrives (s : State) : State :=
  match s.role with
  | 2 => ((s.setFld F.TWN_STAT_SYNCED 0).raise F.TWN_EVT_SYNC_LOST).twnSend 8 []
  | 3 => s.bulkStart
  | _ => s

/-- A SYNC_END is received (R464). -/
def State.syncEnds (s : State) : State := if s.role = 2 then (s.setFld F.TWN_STAT_SYNCED 1).raise F.TWN_EVT_SYNC_DONE else s

/-! ## Takeover and handover (R466–R472) -/

/-- The takeover frame is placed for `D` + TK_LEAD (R466); with no free cell it completes INTERNAL, which is recorded (R13). -/
def State.takeoverPlace (s : State) : State :=
  let bs := s.takeoverFrame s.tkFcs
  let lead := max 500 (min 3500 (s.fld F.TWN_TIMING_TK_LEAD))
  match s.alloc bs.length with
  | (some cs, s) =>
    (s.putFrame cs bs).place { origin := .takeover, desc := {
      len := bs.length, chain := s.fld F.TWN_TK_TK_CHAIN, carrier := s.fld F.TWN_TK_TK_CARRIER, mode := 1
      time := (s.service + 1000 * lead) % 2 ^ 32, tol := 255, cell := cs.getD 0 0, group := s.fld F.TWN_TK_TK_GROUP
      sec := s.fld F.TWN_TK_TK_SECLVL } }
  | (none, s) => (s.siltInternal 3 0).takeoverDone .internal

/-- The link path has failed, or was restored in this very cycle (R473). -/
def State.linkLost (s : State) : Bool := !s.flag F.TWN_STAT_LINK_OK || s.twn.restored == some s.clp.now

/-- A standby may decide to take over (R466). -/
def State.mayTake (s : State) : Bool :=
  s.role == 2 && !s.twn.taking && (s.twn.goodbye || (s.linkLost && !s.flag F.TWN_STAT_AIR_OK)) &&
    s.flag F.TWN_CTL_AUTO_TAKE && !s.twn.conflict && (s.flag F.TWN_STAT_SYNCED || s.flag F.TWN_CTL_TAKE_UNSYNCED)

/-- TAKEOVER_DECISION (R466, R470): TERM rises, TAKEOVER goes out, the takeover frame is placed, and every valid index is suspect. A HANDOVER that has
not taken effect comes to nothing (R473). -/
def execTakeoverDecision (dt : Nat) (s : State) : Out :=
  let s := s.after dt
  if s.mayTake then
    let s := s.setFld F.TWN_STAT_TERM (s.fld F.TWN_STAT_TERM + 1)
    let s := (s.twnSend 4 [s.twnWord]).siltPost 242 (s.fld F.TWN_STAT_TERM)
    let valid := (s.liveSlots 0 524288).filter fun i => (s.memWord 1 (4 * i + 1)).testBit 55
    .next { s with twn := { s.twn with
        taking := true, decidedAt := s.clp.now, suspects := valid, handing := none, arrived := false } }.takeoverPlace
  else .next s

/-- SUSPECT_WINDOW_END (R470): SUSPECT_MS after the decision. -/
def execSuspectWindowEnd (s : State) : Out :=
  if s.twn.suspects = [] then .next s
  else
    let s := s.advanceTo (s.twn.decidedAt + s.fld F.TWN_SUSPECT_SUSPECT_MS * 1000000)
    .next { s with twn := { s.twn with suspects := [] } }

/-- The peer is STANDBY, SYNCED and heard on the link (R471). -/
def State.peerReady (s : State) : Bool :=
  s.flag F.TWN_STAT_LINK_OK && (match s.twn.peer with | some p => p.role == 2 && p.synced | none => false)

/-- HANDOVER of TWN_CMD (R471): slot H is the current ASN + 2. -/
def State.twnHandover (s : State) : State :=
  if s.role == 3 && s.peerReady && s.asnValid then
    { s with twn := { s.twn with handing := some ((s.asn + 2) % 2 ^ 40), handed := false } }
  else s.raise F.TWN_EVT_CMD_REFUSED

/-- RESYNC of TWN_CMD (R464): a standby asks for a bulk sync. -/
def State.twnResync (s : State) : State := if s.role = 2 then s.twnSend 8 [] else s

/-- A write of TWN_CMD (R556): its commands in bit order. -/
def State.twnCmdWrite (s : State) (d : Word) : State := (s.on (d.getLsbD 0) State.twnHandover).on (d.getLsbD 1) State.twnResync

/-- TWN_HANDOVER (R471). -/
def execTwnHandover (s : State) : Out := .next (s.powered fun s => s.twnCmdWrite 1)

/-- TWN_RESYNC (R464). -/
def execTwnResync (s : State) : Out := .next (s.powered fun s => s.twnCmdWrite 2)

/-- HANDOVER_SEND (R471): in slot H − 1 or later, `dt` ns on, with nothing left to mirror. -/
def execHandoverSend (dt : Nat) (s : State) : Out :=
  let s := s.after dt
  match s.twn.handing with
  | some h =>
    let left := (h + 2 ^ 40 - s.asn) % 2 ^ 40
    if s.role = 3 ∧ s.twn.handed = false ∧ s.twn.queue = [] ∧ s.twn.overflow = false ∧ (left ≤ 1 ∨ 2 ^ 39 ≤ left) then
      .next ({ s with twn := { s.twn with handed := true } }.twnSend 5 [s.twnWord])
    else .next s
  | none => .next s

/-- A HANDOVER is received (R471): the standby becomes ACTIVE at the first slot start after it, be it that of a mapping it does not hold yet. -/
def State.handoverArrives (s : State) : State :=
  if s.role = 2 ∧ s.twn.taking = false then
    { s with twn := { s.twn with arrived := true, handing := if s.asnValid then some ((s.asn + 1) % 2 ^ 40) else none } }
  else s

/-- A GOODBYE is received (R472). -/
def State.goodbyeArrives (s : State) : State := if s.role = 2 then { s with twn := { s.twn with goodbye := true } } else s

/-- A TAKEOVER is received (R468). -/
def State.takeoverArrives (s : State) (w : Nat) : State := if s.role = 3 then s.yieldTo (peerOf w).term else s

/-! ## Packets (R456) -/

/-- A PACKET enters Sluice as port 21. Without a free cell it is dropped. -/
def State.packetArrives (s : State) (f : Passing) (bs : List Byte) : State :=
  match s.alloc bs.length with
  | (some cs, s) =>
    let w : Wired := ⟨21, cs.getD 0 0, 40 + ofBe (sliceOf bs 4 2), some 0, f.ts, f.asn⟩
    { s.putFrame cs bs with slc := { (s.putFrame cs bs).slc with wired := s.slc.wired ++ [w] } }
  | (none, s) => s

/-! ## Reception (R456) -/

/-- A message on the link is good: its check holds, its length is its own, and its TYPE is known. -/
def goodMsg (bs : List Byte) : Bool :=
  let n := bs.length
  let head := ofLe (bs.take 8)
  let type := bits head 60 4
  decide (16 ≤ n) && n % 8 == 0 && bits head 48 12 == n / 8 - 2 && bs.drop (n - 8) == twnCheck (bs.take (n - 8)) &&
    decide (1 ≤ type) && decide (type ≤ 8) && (!([1, 4, 5, 6] : List Nat).contains type || n == 24)

/-- A message that has passed point 8 takes effect, or is dropped and counted. -/
def State.twnReceive (s : State) (f : Passing) : State :=
  if !goodMsg f.bytes then s.bump F.TWN_CNT_BAD_MSG_COUNT
  else
    let head := ofLe (f.bytes.take 8)
    let body := (f.bytes.drop 8).take (f.bytes.length - 16)
    let ws := (chunks8 body).map fun c => BitVec.ofNat 64 (ofLe c)
    let w := (ws.getD 0 0).toNat
    match bits head 60 4 with
    | 1 => s.heartbeat f.ts (head % 2 ^ 32) w
    | 2 => s.mirrorApply ws
    | 3 => s.syncEnds
    | 4 => s.takeoverArrives w
    | 5 => s.handoverArrives
    | 6 => s.goodbyeArrives
    | 7 => s.packetArrives f body
    | _ => s.resyncArrives

/-- A message arrives on the link after `dt` ns (R456); `ok` is false where its check word came wrong. An ALONE device takes none. -/
def State.twnArrive (s : State) (dt type seq stamp : Nat) (payload : List Word) (ok : Bool) : State :=
  let s := s.after dt
  if s.role = 0 ∨ s.linkUp = false then s
  else
    let bs := twnBytes type seq stamp payload
    let f : Passing := ⟨if ok then bs else flipBit bs (8 * (bs.length - 8)), s.service, if s.asnValid then s.asn else noAsn⟩
    let (fs, s) := s.twnPoint 8 type f
    fs.foldl (fun s f => s.twnReceive f) s

/-- HEARTBEAT (R457). -/
def execHeartbeat (dt seq stamp : Nat) (w : Word) (ok : Bool) (s : State) : Out := .next (s.twnArrive dt 1 seq stamp [w] ok)
/-- MIRROR (R461). -/
def execMirror (dt seq stamp : Nat) (ws : List Word) (ok : Bool) (s : State) : Out := .next (s.twnArrive dt 2 seq stamp ws ok)
/-- RESYNC (R461). -/
def execResync (dt seq stamp : Nat) (ok : Bool) (s : State) : Out := .next (s.twnArrive dt 8 seq stamp [] ok)
/-- SYNC_END (R464). -/
def execSyncEnd (dt seq stamp : Nat) (ok : Bool) (s : State) : Out := .next (s.twnArrive dt 3 seq stamp [] ok)
/-- TAKEOVER (R468). -/
def execTakeover (dt seq stamp : Nat) (w : Word) (ok : Bool) (s : State) : Out := .next (s.twnArrive dt 4 seq stamp [w] ok)
/-- HANDOVER (R471). -/
def execHandover (dt seq stamp : Nat) (w : Word) (ok : Bool) (s : State) : Out := .next (s.twnArrive dt 5 seq stamp [w] ok)
/-- GOODBYE (R472). -/
def execGoodbye (dt seq stamp : Nat) (w : Word) (ok : Bool) (s : State) : Out := .next (s.twnArrive dt 6 seq stamp [w] ok)
/-- PACKET (R456). -/
def execPacket (dt seq stamp : Nat) (ws : List Word) (ok : Bool) (s : State) : Out := .next (s.twnArrive dt 7 seq stamp ws ok)

/-! ## Egress (R456, R386, R387) -/

/-- An egress record of port 21 completes. -/
def State.twnTxDone (s : State) (w0 : Nat) (cookie : Word) (st : Status) (ts : Nat) (frees : Bool) : State :=
  let s := s.on (frees && !w0.testBit 2) fun s => s.freeChain (bits w0 32 16)
  s.egressDone (s.fld F.TWN_RUNNEL_TXC_RUNNEL) false id 15 w0 cookie st ts

/-- An egress record of port 21 is worked (R386, R387, R456, R555). -/
def State.twnTx (s : State) (w0 : Nat) (cookie : Word) : State :=
  let len := bits w0 48 16
  if len < 40 ∨ 9216 < len then s.twnTxDone w0 cookie .internal 0 true
  else match s.chainFor (bits w0 32 16) len with
    | none => s.twnTxDone w0 cookie .internal 0 false
    | some cs =>
      if !s.linkUp then s.twnTxDone w0 cookie .txFlushed 0 true
      else
        let (bs, bad, s) := s.getFrame cs len
        if bad then s.twnTxDone w0 cookie .poisoned 0 true
        else
          let ts := s.service
          (s.twnSend 7 ((chunks8 bs).map fun c => BitVec.ofNat 64 (ofLe c))).twnTxDone w0 cookie .ok ts true

/-- TWIN_TX_RECORD (R456): the next egress record of TX_RUNNEL; one with a bad word completes POISONED and frees nothing (R338). It waits
for packet memory to be initialised (R433). -/
def execTwinTxRecord (dt : Nat) (s : State) : Out :=
  let s := s.after dt
  let n := s.fld F.TWN_RUNNEL_TX_RUNNEL
  if s.role ≠ 0 ∧ s.runnelOn n = true ∧ 2 ≤ s.poppable n ∧ s.memReady 0 = true then
    let (ws, s) := s.popWords n 2
    let w (i : Nat) : RunWord := ws.getD i ⟨0, false, false⟩
    if ws.any RunWord.isBad then
      .next (s.twnTxDone (w 0).val.toNat (if (w 1).isBad then BitVec.allOnes 64 else (w 1).val) .poisoned 0 false)
    else .next (s.twnTx (w 0).val.toNat (w 1).val)
  else .next s

/-! ## Registers -/

/-- AIR_OK as it reads (R459): 1 in PAIRING and ACTIVE. -/
def State.airOk (s : State) : Bool := s.role == 1 || s.role == 3 || s.flag F.TWN_STAT_AIR_OK

/-- QUEUED of TWN_MIRROR (R461). -/
def State.mirrorQueued (s : State) : Nat := s.twn.queue.length

end Sys2Proof.Machine
end

