-- ==== Sys2Proof/Machine/Obs.lean ====
section
/-! DEFINITION. Counters and their catalogue, the Still, the Silt recorder's registers, operating time, and Eddy's registers
(R497–R513, R517–R522): commands 327–341. -/

namespace Sys2Proof.Machine

/-! ## The catalogue (R497, R498) -/

/-- The counters of the units that list single registers, in the order of BAR0. -/
def unitList : Nat → List RegId
  | 0 => [.PLM_CNT_DETECT, .PLM_CNT_FALSE_DET, .PLM_CNT_PHR_REJECT, .PLM_CNT_NO_CELL, .PLM_CNT_FCS_FAIL, .PLM_CNT_BLANKED,
      .PLM_CNT_AER_A, .PLM_CNT_AER_B, .PLM_CNT_CLIP_A, .PLM_CNT_CLIP_B]
  | 32 => [.TXF_CNT_SENT, .TXF_CNT_LATE, .TXF_CNT_NO_GRANT, .TXF_CNT_GRANT_LOST, .TXF_CNT_SYNTH_FAULT, .TXF_CNT_CAL,
      .TXF_CNT_CAL_DEFER, .TXF_CNT_CAR_WAIT]
  | 48 => [.CHT_CNT_APPROVED, .CHT_CNT_REFUSED]
  | 64 => [.MAC_CNT_ACK_SENT, .MAC_CNT_ACK_FAIL, .MAC_CNT_VERDICT_LATE, .MAC_CNT_OFF_TEMPLATE, .MAC_CNT_DUPLICATE, .MAC_CNT_REPLAY,
      .MAC_CNT_DUP_NOACK, .MAC_CNT_TX_ACKED, .MAC_CNT_TX_NO_ACK, .MAC_CNT_NACK, .MAC_CNT_BCN_SENT, .MAC_CNT_BCN_FAIL]
  | 65 => [.SPW_CNT_BLOCKS, .SPW_CNT_COPY_FAIL, .SPW_CNT_SKIP]
  | 66 => [.SLC_CNT_LOOKUP, .SLC_CNT_HIT, .SLC_CNT_UNKNOWN, .SLC_CNT_COMMIT, .SLC_CNT_DROP, .SLC_CNT_MOVE, .SLC_CNT_LEARN_NEW,
      .SLC_CNT_LEARN_FAIL, .SLC_CNT_AGED, .SLC_CNT_RELOC, .SLC_CNT_FULL, .SLC_CNT_NO_ROUTE]
  | 67 => [.GRT_CNT_VERIFY, .GRT_CNT_MIC_FAIL, .GRT_CNT_KEY_STALE, .GRT_CNT_PROTECT, .GRT_CNT_DERIVE, .GRT_CNT_CACHE_HIT,
      .GRT_CNT_UNWRAP_FAIL, .GRT_CNT_TX_REFUSED]
  | 68 => [.OCL_CNT_SEAL, .OCL_CNT_DROP, .OCL_CNT_EXC, .OCL_CNT_SEAL_LATE]
  | 72 => [.RUN_CNT_BAD_WORD, .RUN_CNT_OVERRUN, .RUN_CNT_FLUSHED, .RUN_CNT_LOST, .RUN_CNT_ALLOC_FAIL, .RUN_CNT_DOUBLE_FREE]
  | 73 => [.CLP_CNT_SAMPLE, .CLP_CNT_REJECT, .CLP_CNT_TC, .CLP_CNT_PPS_IN]
  | 74 => [.ETH_CNT_RX_OK, .ETH_CNT_RX_FCS, .ETH_CNT_RX_SIZE, .ETH_CNT_RX_FILTER, .ETH_CNT_RX_PAUSE, .ETH_CNT_RX_NO_CELL,
      .ETH_CNT_TX_OK, .ETH_CNT_TX_DROP]
  | 78 => [.HST_CNT_RING_IN, .HST_CNT_RING_OUT, .HST_CNT_DMA_ERR, .HST_CNT_SPI_ERR]
  | 79 => [.FLS_CNT_REFUSED, .FLS_CNT_FLASH_ERR]
  | 80 => [.PWR_CNT_CHAIN_WAKE, .PWR_CNT_CL_WAKE, .PWR_CNT_WAKE_LATE]
  | 81 => [.MEM_CNT_CE, .MEM_CNT_UE, .MEM_CNT_WRITE_POISON, .MEM_CNT_DROP, .MEM_CNT_FLIP]
  | 82 => [.TWN_CNT_HB_RX, .TWN_CNT_BAD_MSG, .TWN_CNT_MIRROR_TX, .TWN_CNT_MIRROR_RX, .TWN_CNT_AIR_MISS, .TWN_CNT_TAKEOVER,
      .TWN_CNT_DUP_SUSPECT]
  | 83 => [.OBS_CNT_SILT_KEPT, .OBS_CNT_SILT_SUPP, .OBS_CNT_SILT_LOST, .OBS_CNT_EDDY]
  | _ => []

/-- The counters of unit `u` as copies of registers, in the order of the unit (R497). -/
def unitCounters (u : Nat) : List (RegId × Nat × Nat) :=
  let lone (first : Nat) : List (RegId × Nat × Nat) := (unitList first).map fun id => (id, u - first, 0)
  let row (id : RegId) (i n : Nat) : List (RegId × Nat × Nat) := (List.range n).map fun k => (id, i, k)
  let pairs (id : RegId) (i n : Nat) : List (RegId × Nat × Nat) := (List.range (2 * n)).map fun k => (id, i + k / 2, k % 2)
  if u < 16 then lone 0
  else if u < 32 then row .PLM_RILL_FRAMES (u - 16) 64
  else if u < 48 then lone 32
  else if u < 64 then lone 48
  else if u < 68 then lone u
  else if u < 72 then lone 68
  else if u < 74 then lone u
  else if u < 78 then lone 74
  else if u < 84 then lone u
  else if u < 180 then row .OBS_RILL_CNT (16 * ((u - 84) / 6) + (u - 84) % 6) 64
  else if u < 196 then row .OBS_CAR_SENT (u - 180) 64
  else if u < 260 then pairs .OBS_RUN_CNT (4 * (u - 196)) 4
  else if u < 292 then pairs .OBS_THR_CNT (4 * (u - 260)) 4
  else []

/-- The offset in BAR0 of copy (i, j) of a register (R524). -/
def regOffset (id : RegId) (i j : Nat) : Nat := id.place.base + i * id.place.ostride + j * id.place.istride

/-- OBS_UNIT_u (R498). -/
def unitWord (u : Nat) : Word :=
  match unitCounters u with
  | (id, i, j) :: rest =>
    let stride := if 16 ≤ u && u < 32 then 8 else 1
    BitVec.ofNat 64 (regOffset id i j + (rest.length + 1) * 2 ^ 32 + stride * 2 ^ 40)
  | [] => 0

/-- A register of the register file is a counter of the catalogue. -/
def counterKeys : List Nat := (List.range 292).flatMap fun u => (unitCounters u).map fun c => regKey c.1 c.2.1 c.2.2

/-! ## The Still (R500–R504) -/

/-- A Still is asked for (R500, R503): refused while one is held; no effect while one is pending or during the power-fail sequence. -/
def State.stillTake (s : State) : State :=
  if s.flag F.OBS_STAT_STILL_HELD then
    let was := match s.obs.refused with
      | some (c, was) => if c = s.cycle then was else s.flag F.OBS_EVT_STILL_REFUSED
      | none => s.flag F.OBS_EVT_STILL_REFUSED
    { s with obs := { s.obs with refused := some (s.cycle, was) } }.raise F.OBS_EVT_STILL_REFUSED
  else if s.flag F.OBS_STAT_STILL_PENDING || s.pwr.phase == .failing then s
  else s.setFld F.OBS_STAT_STILL_PENDING 1

/-- The Still is released (R503): a TAKE that its own cycle refused acts after it (R504). -/
def State.stillRelease (s : State) : State :=
  let s' := { s with obs := { s.obs with refused := none } }.setFld F.OBS_STAT_STILL_HELD 0
  match s.obs.refused with
  | some (c, was) => if c = s.cycle then (if was then s' else s'.retract F.OBS_EVT_STILL_REFUSED).stillTake else s'
  | none => s'

/-- A write of OBS_STILL_CTL (R500, R502–R504): a release acts before a take. -/
def State.stillWrite (s : State) (d : Word) : State :=
  let was := s.flag F.OBS_STILL_CTL_AUTO
  let s := s.setReg .OBS_STILL_CTL 0 0 (d &&& 0xFFFF000C)
  let s := s.on (d.getLsbD 3 && !was) fun s => { s with obs := { s.obs with autoSince := s.clp.now } }
  let s := s.on (d.getLsbD 1 && !s.flag F.OBS_STAT_STILL_PENDING) State.stillRelease
  s.on (d.getLsbD 0) State.stillTake

/-- STILL_TAKE (R500): a write of OBS_STILL_CTL with TAKE set. -/
def execStillTake (d : Word) (s : State) : Out := .next (s.powered fun s => s.stillWrite (d ||| 1))
/-- STILL_RELEASE (R503): a write of OBS_STILL_CTL with RELEASE set and TAKE clear. -/
def execStillRelease (d : Word) (s : State) : Out := .next (s.powered fun s => s.stillWrite (d &&& ~~~1 ||| 2))

/-- STILL_AUTO (R503): AUTO_S seconds after the last automatic request, or after AUTO was set. -/
def execStillAuto (s : State) : Out :=
  if s.flag F.OBS_STILL_CTL_AUTO then
    let s := s.advanceTo (s.obs.autoSince + 10 ^ 9 * max 1 (s.fld F.OBS_STILL_CTL_AUTO_S))
    .next { s with obs := { s.obs with autoSince := s.clp.now } }.stillTake
  else .next s

/-- The time that every thread has spent Waiting is in its counter. -/
def State.waitCounts (s : State) : State := (List.range 128).foldl (fun s t => s.waitCount t) s

/-- The counters that do not read 0, by 64 × unit + index. -/
def State.counterCopy (s : State) : SMap Nat :=
  (List.range 292).flatMap fun u =>
    ((unitCounters u).zipIdx.map fun e => (64 * u + e.2, (s.reg e.1.1 e.1.2.1 e.1.2.2).toNat)).filter fun e => e.2 != 0

/-- Every counter is 0. -/
def State.countersClear (s : State) : State := { s with regs := s.regs.filter fun e => !counterKeys.contains e.1 }

/-- The shadows and their sequence words as they read: on the edge of a Still, those of the Still before (R504). -/
def State.shadows (s : State) : SMap Nat × SMap Nat :=
  if s.obs.shadowWas.1 = s.cycle then s.obs.shadowWas.2 else (s.obs.shadow, s.obs.shadowSeq)

/-- STILL_SNAPSHOT (R500–R502): at the first edge of the fabric clock after the next trickle tick. -/
def execStillSnapshot (s : State) : Out :=
  if s.flag F.OBS_STAT_STILL_PENDING && s.pwr.phase != .failing then
    let (v, s) := s.fresh
    let s := (s.advanceTo (tickTime (ticksAt s.clp.now + 1) + v % 2)).waitCounts
    let seq := (s.fld F.OBS_STILL_SEQ_SEQ + 1) % 2 ^ 32
    let s := { s with obs := { s.obs with
      shadow := s.counterCopy, shadowSeq := (List.range 292).map fun u => (u, seq)
      shadowWas := (s.cycle, s.obs.shadow, s.obs.shadowSeq) } }
    let s := s.on (s.flag F.OBS_STILL_CTL_CLEAR) State.countersClear
    let s := s.setFld F.OBS_STILL_SEQ_SEQ seq
    let s := (s.setFld F.OBS_STILL_S_SEC (s.fullNs / 10 ^ 9)).setFld F.OBS_STILL_NS_NS (s.fullNs % 10 ^ 9)
    .next (((s.setFld F.OBS_STAT_STILL_PENDING 0).setFld F.OBS_STAT_STILL_HELD 1).raise F.OBS_EVT_STILL_DONE)
  else .next s

/-! ## The Silt recorder's registers (R505–R513) -/

/-- A write of OBS_SILT_POST (R507): any code from Jomuter (requester 129), 384–511 from the others. -/
def State.siltPostWrite (s : State) (req code value : Nat) : State :=
  let code := code % 512
  let rank := if req = 128 then 1 else if req = 129 then 2 else 3 + req
  if req = 129 ∨ 384 ≤ code then s.siltPost code value rank else s.raise F.OBS_EVT_POST_REFUSED

/-- SILT_POST (R507). -/
def execSiltPost (req code value : Nat) (s : State) : Out := .next (s.powered fun s => s.siltPostWrite req code value)

/-- A code without its statistics; configuration and the rate window stay (R508). -/
def SiltCode.clear (c : SiltCode) : SiltCode := { c with count := 0, min := 0, max := 0, firstHour := 0, lastHour := 0, bins := [] }

/-- The statistics of every code are cleared (R508); the posts of this cycle count after that (R516). -/
def State.statClear (s : State) : State :=
  let clear (m : SMap SiltCode) : SMap SiltCode := m.map fun e => (e.1, e.2.clear)
  let u := s.siltTurn
  let codes := u.posts.foldl (fun m p => SMap.put m p.2.1 ((SMap.getD m p.2.1 {}).note p.2.2 s.opHour)) (clear s.obs.codes)
  { s with obs := { s.obs with codes := codes, turn := { u with codes := clear u.codes } } }

/-- A write of OBS_SILT_CTL (R508, R513). -/
def State.siltCtlWrite (s : State) (d : Word) : State :=
  let s := s.setReg .OBS_SILT_CTL 0 0 (d &&& 0xFFFFFFF0)
  let s := s.on (d.getLsbD 1) State.statClear
  s.on (d.getLsbD 0 || decide (s.flushMark ≤ s.obs.bufCount)) State.siltStart

/-- STAT_CLEAR (R508): a write of OBS_SILT_CTL that keeps its fields. -/
def execStatClear (s : State) : Out := .next (s.powered fun s => s.siltCtlWrite (s.reg .OBS_SILT_CTL 0 0 &&& ~~~1 ||| 2))
/-- SILT_FLUSH (R513). -/
def execSiltFlush (s : State) : Out := .next (s.powered fun s => s.siltCtlWrite (s.reg .OBS_SILT_CTL 0 0 &&& ~~~2 ||| 1))

/-- SILT_FLUSH_TIMER (R513): one starts FLUSH_S seconds after the oldest record. -/
def execSiltFlushTimer (s : State) : Out :=
  if 0 < s.obs.bufCount ∧ s.flag F.OBS_STAT_FLUSHING = false then
    .next ((s.advanceTo (s.obs.bufSince + 10 ^ 9 * max 1 (s.fld F.OBS_SILT_CTL_FLUSH_S))).siltStart)
  else .next s

/-- SILT_FLUSH_DONE (R513): the flash port has served the whole flush. -/
def execSiltFlushDone (s : State) : Out :=
  if s.flag F.OBS_STAT_FLUSHING && s.siltIdle then .next s.siltDone else .next s

/-- SILT_RING_SCAN (R512): the scan after flash discovery, whatever that found, ends. -/
def execSiltRingScan (dt : Nat) (s : State) : Out :=
  if s.flag F.OBS_STAT_RESTORED || !s.fls.discovered || !s.memReady 7 then .next s else .next (s.after dt).ringScan

/-- OP_HOUR (R512): an operating hour ends, and a record of code 274 is written. -/
def execOpHour (s : State) : Out :=
  if s.released then
    let left := 3600 - s.fld F.OBS_OP_SEC_SEC
    let s := s.advanceTo (s.obs.opSince + left * 10 ^ 9)
    let s := { s with obs := { s.obs with opSince := s.obs.opSince + left * 10 ^ 9 } }
    let s := (s.setFld F.OBS_OP_HOURS_HOURS (s.fld F.OBS_OP_HOURS_HOURS + 1)).setFld F.OBS_OP_SEC_SEC 0
    .next (s.siltPost 274 0)
  else .next s

/-- The code that OBS_SILT_CODE_SEL selects. -/
def State.siltSel (s : State) : SiltCode := SMap.getD s.obs.codes (s.fld F.OBS_SILT_CODE_SEL_CODE) {}

/-- OBS_SILT_CODE_CFG as it reads (R506, R509, R510). -/
def State.siltCfg (s : State) : Word :=
  let c := s.siltSel
  let urgent := c.urgent.getD (urgentCodes.contains (s.fld F.OBS_SILT_CODE_SEL_CODE))
  BitVec.ofNat 64 (c.rate % 256 + c.binBase % 32 * 256 + (if urgent then 8192 else 0))

/-- A write of OBS_SILT_CODE_CFG. -/
def State.siltCfgWrite (s : State) (d : Word) : State :=
  let n := d.toNat
  let c := { s.siltSel with rate := bits n 0 8, binBase := bits n 8 5, urgent := some (d.getLsbD 13) }
  { s with obs := { s.obs with codes := SMap.put s.obs.codes (s.fld F.OBS_SILT_CODE_SEL_CODE) c } }.siltSettle

/-- OBS_SILT_STAT_DATA as it reads (R508). -/
def State.siltData (s : State) : Word :=
  let c := s.siltSel
  BitVec.ofNat 64 (match s.fld F.OBS_SILT_STAT_IDX_ITEM with
    | 0 => c.count
    | 1 => c.min
    | 2 => c.max
    | 3 => c.firstHour
    | 4 => c.lastHour
    | n => if 16 ≤ n then SMap.getD c.bins (n - 16) 0 else 0)

/-! ## Eddy (R517–R520) -/

/-- A frame that point `k` holds goes on from there. -/
def State.eddyRelease (s : State) (k : Nat) : State :=
  let (f, s) := s.unhold k
  match f with
  | none => s
  | some f =>
    if k < 4 then s.ethCheck k (s.fullOfPast f.ts) f
    else if k < 8 then { s with eth := { s.eth with sent := s.eth.sent ++ [(k - 4, f.bytes)] } }
    else if k = 8 then (if s.role = 0 then s else s.twnReceive f)
    else s.twnEmit f

/-- OPEN clears: every point is disabled and releases what it holds (R518). -/
def State.eddyClose (s : State) : State :=
  let s := s.setFld F.OBS_STAT_OPEN 0
  (List.range 10).foldl (fun s k => (s.setFld F.OBS_EDDY_CFG_EN 0 k).eddyRelease k) s

/-- A write of OBS_EDDY_KEY (R518): the first key begins the sequence; the second, within 1 ms, opens; any other write closes. -/
def State.eddyKeyWrite (s : State) (d : Word) : State :=
  let n := d.toNat % 2 ^ 32
  let inTime := match s.obs.eddyKeyAt with | some t => decide (s.clp.now ≤ t + 1000000) | none => false
  let after (s : State) (k : Option Nat) : State := { s with obs := { s.obs with eddyKeyAt := k } }
  if n = 0x0000EDD1 then after s (some s.clp.now)
  else if n = 0x1EDD0000 ∧ inTime = true ∧ s.flag F.OBS_STAT_LOCKED = false then after (s.setFld F.OBS_STAT_OPEN 1) none
  else (after s none).eddyClose.on (d.getLsbD 31) fun s =>
    (s.setFld F.OBS_STAT_LOCKED 1).setFld F.OBS_EDDY_KEY_LOCK 1

/-- EDDY_KEY (R518): the write comes `dt` ns on. -/
def execEddyKey (dt : Nat) (d : Word) (s : State) : Out := .next ((s.after dt).powered fun s => s.eddyKeyWrite d)
/-- EDDY_LOCK (R518). -/
def execEddyLock (s : State) : Out := .next (s.powered fun s => s.eddyKeyWrite 0x80000000)

/-- A write of OBS_EDDY_SEED_k (R519). -/
def State.eddySeedWrite (s : State) (k : Nat) (d : Word) : State :=
  let n := d.toNat % 2 ^ 32
  (s.setReg .OBS_EDDY_SEED k 0 (BitVec.ofNat 64 n)).setPoint k { s.point k with lfsr := BitVec.ofNat 32 (if n = 0 then 1 else n) }

/-- EDDY_SEED_WRITE (R519). -/
def execEddySeedWrite (k : Nat) (d : Word) (s : State) : Out := .next (s.powered fun s => s.eddySeedWrite (k % 10) d)

/-- A write of OBS_EDDY_CFG_k (R518, R520): none while OPEN is clear; clearing EN releases a held frame. -/
def State.eddyCfgWrite (s : State) (k : Nat) (d : Word) : State :=
  if s.flag F.OBS_STAT_OPEN then
    let s := s.setReg .OBS_EDDY_CFG k 0 (d &&& 0xFF1F)
    if d.getLsbD 0 then s else s.eddyRelease k
  else s

/-- EDDY_HOLD_RELEASE (R520): 1 ms after it was held, a frame passes. (A frame whose REORD_N + 1 successors have passed left with the last
of them.) -/
def execEddyHoldRelease (k : Nat) (s : State) : Out :=
  let k := k % 10
  match (s.point k).held with
  | some h => .next ((s.advanceTo (h.since + 1000000)).eddyRelease k)
  | none => .next s

end Sys2Proof.Machine
end

