-- ==== Sys2Proof/Machine/Power.lean ====
section
/-! DEFINITION. Power, clocks, sleep, start-up and reset (R413–R437): commands 279–298 and 344, and the full reset itself. -/

namespace Sys2Proof.Machine

/-! ## The full reset (R430–R432) -/

/-- A flash program or erase that is cut leaves its bytes at values the manual does not state. -/
def State.tear (s : State) (w : FlsOp) : State :=
  let n := match w.kind with | .read => 0 | .program => w.data.length | .erase4k => 4096 | .erase64k => 65536
  (List.range n).foldl (fun s k =>
    let (v, s) := s.fresh
    s.setFlashByte (w.addr + k) (BitVec.ofNat 8 v)) s

/-- Operations of the flash port that a full reset cuts. -/
def State.tearFlash (s : State) : State :=
  let s := match s.fls.busy with | some w => s.tear w | none => s
  match s.fls.suspended with | some w => s.tear w | none => s

/-- Registers after a full reset: reset values, but for the Cistern's fields and the live inputs (R416, R431). -/
def State.resetRegs (s : State) (cause : Nat) : State :=
  let t : State := { s with regs := [] }
  let t := (t.setReg .CLP_CIS_CTL 0 0 (s.reg .CLP_CIS_CTL 0 0)).setReg .PWR_ALARM 0 0 (s.reg .PWR_ALARM 0 0)
  let t := (t.setFld F.PWR_DORMANT_ALARM_EN (s.fld F.PWR_DORMANT_ALARM_EN)).setFld F.PWR_DORMANT_WAKE_N_EN
    (s.fld F.PWR_DORMANT_WAKE_N_EN)
  let t := (t.setReg .GLB_RESET_CAUSE 0 0 (BitVec.ofNat 64 cause)).setReg .GLB_RESET_COUNT 0 0 (s.reg .GLB_RESET_COUNT 0 0)
  let t := t.setFld F.GLB_RESET_COUNT_RESETS (s.fld F.GLB_RESET_COUNT_RESETS + 1)
  ((t.setFld F.PWR_STAT_PFAIL (s.fld F.PWR_STAT_PFAIL)).setFld F.PWR_STAT_BOR (s.fld F.PWR_STAT_BOR)).setFld F.PWR_STAT_VBAT_LOW
    (s.fld F.PWR_STAT_VBAT_LOW)

/-- A full reset is asserted (R430, R431): every function returns to its reset state; the Cistern, the fuses, the flash device and what
has left the device stay. `cause` holds the bits of GLB_RESET_CAUSE. A fuse blow in progress is given up and its bit stays unblown
(DESIGN CHOICE, log entry 137). -/
def State.fullReset (s : State) (cause : Nat) : State :=
  let s := s.meterFlush.tearFlash
  let t := s.resetRegs cause
  { t with
    clp := { now := s.clp.now, cisTicks := s.clp.cisTicks, cisAcc := s.clp.cisAcc, cisLost := s.clp.cisLost }
    pwr := { phase := .reset, vbatLost := s.pwr.vbatLost, pwrReq := s.pwr.pwrReq, onVbat := s.pwr.onVbat, mains := s.pwr.mains,
             rose := s.pwr.rose, slew := s.pwr.slew }
    run := {}
    hst := { sent := s.hst.sent }
    obs := {}
    plm := {}
    txf := { temp := s.txf.temp }
    cht := { fuses := s.cht.fuses, bins := s.cht.bins, limits := s.cht.limits, rotations := s.cht.rotations, binTick := s.cht.binTick }
    mac := {}
    spw := {}
    eth := { sent := s.eth.sent }
    fls := { bytes := s.fls.bytes }
    skim := none
    cyc := {}
    slc := {}
    twn := { sent := s.twn.sent }
    grt := { provLock := s.grt.provLock, dbgLock := s.grt.dbgLock, jtagLock := s.grt.jtagLock, pufReads := s.grt.pufReads,
             seeds := s.grt.seeds }
    bot := { owners := s.bot.owners, revoked := s.bot.revoked }
    ocl := {} }

/-- GOODBYE of an ACTIVE device (R472). -/
def State.goodbyeSend (s : State) : State := if s.fld F.TWN_STAT_ROLE = 3 then s.twnSend 6 [s.twnWord] else s

/-- A full reset is asked for by a register, a wedge or a jet PLL (R430, R472): ignored while the power-fail sequence runs (R429). -/
def State.requestReset (s : State) (bit : Nat) : State :=
  if s.pwr.phase = .run then s.goodbyeSend.fullReset (2 ^ bit) else s

/-! ## Wedged cores (R325) -/

/-- A core is wedged: 0–31, or 32 for Jomuter; what follows of it is `wedgeReset`. -/
def State.wedgeMark (s : State) (k : Nat) : State :=
  let ts := if k = 32 then [129] else (List.range 4).map (4 * k + ·)
  let s := ts.foldl (fun s t => (s.regionDrop t).setThrState t 5) s
  let c := if k = 32 then 0 else k / 8
  let s := s.on (k != 32) fun s => s.setFld F.OCL_CL_STAT_WEDGED (setBits (s.fld F.OCL_CL_STAT_WEDGED c) (k % 8) 1 1) c
  (s.raise F.OCL_CL_EVT_WEDGED c).siltPost 146 k

/-- The full reset that a wedged core asks for: Jomuter always, an Ocell core while AUTO_RESET is 1 (R325, R430). -/
def State.wedgeReset (s : State) (k : Nat) : State :=
  if k = 32 then s.requestReset 6 else s.on (s.flag F.OCL_WEDGE_CTL_AUTO_RESET) fun s => s.requestReset 5

/-- A core is wedged, with the reset it asks for. -/
def State.wedgeCore (s : State) (k : Nat) : State := (s.wedgeMark k).wedgeReset k

/-! ## Release (R431, R433) -/

/-- RST_N is released with the internal reset, and the straps are sampled (R413, R539): it fell for this reset or during it, or the supplies
rose. -/
def State.strapsSampled (s : State) : Bool :=
  s.pwr.rose || s.pwr.rstFell || s.flag F.GLB_RESET_CAUSE_POWER || s.flag F.GLB_RESET_CAUSE_RST_N

/-- Grotto's random source starts and draws the value that permutes the override cells (R246, R260). -/
def State.drbgStart (s : State) : State :=
  let (v, s) := s.reseed.randN 1
  { s with grt := { s.grt with perm := v } }.setFld F.GRT_STAT_DRBG_OK 1

/-- The code at the slew straps (R539). -/
def slewCode (strap1 strap0 : Bool) : Nat := 2 * strap1.toNat + strap0.toNat

/-- The internal reset is released (R118, R418, R433, R512): the jet PLLs start, memories are initialised, the straps are sampled where
RST_N is released with it. -/
def State.release (s : State) (strap : Nat) : State :=
  let jet (m : SMap Jet) (k : Nat) : SMap Jet := SMap.put m k ⟨s.clp.now, false⟩
  let slew := if s.strapsSampled then strap else s.pwr.slew
  let s := { s with
    mem := [], ecc := []
    pwr := { s.pwr with
      phase := .run, released := s.clp.now, jets := (List.range 7).foldl jet [], rose := false, rstFell := false, slew := slew }
    obs := { s.obs with opSince := s.clp.now } }
  let s := s.drbgStart
  let s := s.on s.pwr.vbatLost fun s => (s.setFld F.CHT_STAT_COLD_FILL (s.fuseField 1 1)).shadowReload.coldFill
  { s with pwr := { s.pwr with vbatLost := false } }.siltPost 1 (s.reg .GLB_RESET_CAUSE 0 0).toNat

/-- A sequence of PFAIL_N or the detector brought the reset: POWER_RESTART ends it (R425). -/
def State.failReset (s : State) : Bool := s.flag F.GLB_RESET_CAUSE_PFAIL || s.flag F.GLB_RESET_CAUSE_BOR

/-- The least time to the release: 10 µs from the reset (R431), 1 ms from the wake out of Dormant (R424). -/
def State.resetLeast (s : State) : Nat := if s.flag F.GLB_RESET_CAUSE_DORMANT then 1000000 else 10000

/-- One chain at the start of the power-fail sequence (R428): its rills stop, radiating frames ramp down, and frames that have not started
are recalled. A claim that is open then ends and counts nowhere (DESIGN CHOICE, log entry 104). -/
def State.pfailChain (s : State) (j : Nat) : State :=
  let s := s.abortLive j .internal
  s.forRills fun s n => (s.setRill j n { s.rill j n with claim := none }).setFld F.PLM_RILL_STAT_STATE 0 j n

/-- The power-fail sequence starts (R428, R472), its time 0 being now: cause bits as in GLB_RESET_CAUSE. -/
def State.pfailStart (s : State) (causes : Nat) : State :=
  let s := { s with pwr := { s.pwr with phase := .failing, causes := causes, failAt := s.clp.now } }
  let s := s.on (causes.testBit 2) fun s => s.raise F.PWR_EVT_PFAIL
  let s := s.on (causes.testBit 3) fun s => s.raise F.PWR_EVT_BOR
  let s := (s.goodbyeSend.siltPost 18 (bits causes 2 2)).siltPfail
  (List.range 16).foldl (fun s j => s.pfailChain j) s

/-- What stands already starts the sequence where it may (R428): PFAIL_N asserted past its filter as PFAIL_EN becomes 1 or the internal reset is
released, or the detector tripped as it is released. -/
def State.pfailHeld (s : State) : State :=
  let causes := (if s.flag F.PWR_STAT_PFAIL && s.flag F.PWR_PFAIL_CTL_PFAIL_EN then 4 else 0) + (if s.flag F.PWR_STAT_BOR then 8 else 0)
  s.on (decide (s.pwr.phase = .run ∧ causes ≠ 0)) fun s => s.pfailStart causes

/-- A write of PWR_PFAIL_CTL (R428). -/
def State.pfailCtlWrite (s : State) (d : Word) : State := (s.setReg .PWR_PFAIL_CTL 0 0 (d &&& 1)).pfailHeld

/-- RESET_RELEASE (R424, R428, R431, R433), with the main supplies present. `strap1`, `strap0`: the levels of STRAP_SLEW_1 and
STRAP_SLEW_0 (R539). -/
def execResetRelease (dt : Nat) (strap1 strap0 : Bool) (s : State) : Out :=
  if s.pwr.phase = .reset ∧ s.pwr.mains = true ∧ s.failReset = false then
    .next ((s.after (max dt s.resetLeast)).release (slewCode strap1 strap0)).pfailHeld
  else .next s

/-- POWER_RESTART (R425): after a sequence of PFAIL_N or the detector, 1 ms of good supplies and inputs. -/
def execPowerRestart (dt : Nat) (strap1 strap0 : Bool) (s : State) : Out :=
  if s.pwr.phase = .reset ∧ s.pwr.mains = true ∧ s.failReset = true then
    let s := s.after (dt + 1000000)
    .next (((s.setFld F.PWR_STAT_PFAIL 0).setFld F.PWR_STAT_BOR 0).release (slewCode strap1 strap0))
  else .next s

/-- MEMORY_INIT_DONE (R433): Jomuter private memory (MEM 8) is ready within 0.5 ms of the release, every other memory within 8 ms. -/
def execMemoryInitDone (dt m : Nat) (s : State) : Out :=
  if s.released && (memWords m).isSome && !s.pwr.inited.contains m then
    let last := s.pwr.released + (if m = 8 then 500000 else 8000000)
    let s := s.advanceTo (min (s.clp.now + dt) last)
    .next { s with pwr := { s.pwr with inited := insertSorted m s.pwr.inited } }
  else .next s

/-! ## Jet PLLs (R418) -/

/-- JET_LOCK bit of a jet PLL. -/
def State.jetLocked (s : State) (k : Nat) : Bool := (s.fld F.PWR_STAT_JET_LOCK).testBit k

/-- Set the JET_LOCK bit of a jet PLL. -/
def State.setJetLock (s : State) (k v : Nat) : State := s.setFld F.PWR_STAT_JET_LOCK (setBits (s.fld F.PWR_STAT_JET_LOCK) k 1 v)

/-- JET_LOCK (R358, R418): within 12 µs of the PLL's start; Clepsydra starts with the trickle tick after the lock of PLL 1. -/
def execJetLock (dt k : Nat) (s : State) : Out :=
  match SMap.find? s.pwr.jets k with
  | some j =>
    let s := s.advanceTo (min (s.clp.now + dt) (j.startAt + 12000))
    let s := { s with pwr := { s.pwr with jets := SMap.del s.pwr.jets k } }.setJetLock k 1
    if k = 1 then .next (s.advanceTo (tickTime (ticksAt s.clp.now + 1))).clpStart else .next s
  | none => .next s

/-- JET_LOCK_TIMEOUT (R418): a PLL not locked 50 µs after its start is restarted once; at the second failure PLLs 0–2 end in a full reset,
and a cluster's PLL wedges its cores. -/
def execJetLockTimeout (k : Nat) (s : State) : Out :=
  match SMap.find? s.pwr.jets k with
  | some j =>
    let s := s.advanceTo (j.startAt + 50000)
    if !j.again then .next (s.jetStart k true)
    else
      let s := { s with pwr := { s.pwr with jets := SMap.del s.pwr.jets k } }
      if k ≤ 2 then .next (s.requestReset 7)
      else
        let s := (s.raise F.PWR_EVT_JET_FAULT).siltPost 17 k
        .next (((List.range 8).foldl (fun s i => s.wedgeMark (8 * (k - 3) + i)) s).wedgeReset (8 * (k - 3)))
  | none => .next s

/-! ## The wake fabric (R419) -/

/-- CHAIN_LEAD as it acts, in ns. -/
def State.chainLead (s : State) : Nat := 1000 * max 60 (min 1000 (s.fld F.PWR_WAKE_CTL_CHAIN_LEAD))

/-- CHAIN_WAKE_REQUEST (R419): CHAIN_LEAD before the start of a listen interval of the chain, or at once where that has passed. -/
def execChainWakeRequest (j : Nat) (s : State) : Out :=
  let j := j % 16
  let ask (a listen : Nat) : Option Nat := if listen.testBit j && !s.mac.wake.testBit j then some (s.slotStart a) else none
  let due := (s.mac.work.bind fun p => ask p.1 p.2) <|> (s.mac.resolved.bind fun p => ask p.1 p.2)
  match due with
  | some t =>
    let s := s.advanceToFull (t - s.chainLead)
    .next ({ s with mac := { s.mac with wake := setBits s.mac.wake j 1 1 } }.wakeUpdate j)
  | none => .next s

/-! ## Gating clusters (R420, R421) -/

/-- The threads of a cluster. -/
def clusterThreads (c : Nat) : List Nat := (List.range 32).map (32 * c + ·)

/-- The clock of a cluster runs (R418, R420). -/
def State.clusterRuns (s : State) (c : Nat) : Bool := s.jetLocked (3 + c) && (SMap.find? s.ocl.stopped c).isNone

/-- Elapsed ns left to the deadlines of a thread: its wait's and its watchdog's (R420). -/
def State.thrDeadlines (s : State) (t : Nat) : List Nat :=
  let th := s.thr t
  (match th.wait with
    | some (.waitt w) => [s.nsUntilFull (s.fullOfService w)]
    | some (.popw _ _ _ due) => [due - s.clp.now]
    | _ => []) ++
  (if s.wdEn t && th.runs then [s.wdPeriod t - s.wdNs t] else [])

/-- Elapsed ns left to the earliest deadline of a cluster. -/
def State.clusterDeadline (s : State) (c : Nat) : Option Nat := ((clusterThreads c).flatMap s.thrDeadlines).min?

/-- No thread of a cluster needs its clock (R420). -/
def State.thrIdle (s : State) (t : Nat) : Bool :=
  let th := s.thr t
  th.state == 0 || th.state == 3 || th.state == 4 ||
    (th.state == 2 && match th.wait with | some w => decide (2 ≤ w.kind) && decide (w.kind ≤ 4) | none => false)

/-- CLUSTER_STOP (R420). -/
def execClusterStop (c : Nat) (s : State) : Out :=
  let c := c % 4
  let far := match s.clusterDeadline c with
    | some d => decide (1000 * max 50 (s.fld F.PWR_CL_CTL_SLEEP_MIN c) < d)
    | none => true
  if s.clusterRuns c && s.flag F.PWR_CL_CTL_AUTO c && far && (clusterThreads c).all s.thrIdle then
    .next ({ s with ocl := { s.ocl with stopped := SMap.put s.ocl.stopped c s.clp.now } }.setJetLock (3 + c) 0)
  else .next s

/-- A word has landed, since the cluster stopped at `a`, in a runnel that a thread of it waits to pop (R421). -/
def State.wordLanded (s : State) (c a : Nat) : Bool :=
  let landed (n : Nat) : Bool := (s.runnel n).stamps.any fun x => decide (a ≤ x.1)
  (clusterThreads c).any fun t => match (s.thr t).wait with
    | some (.pop n _ _) => landed n
    | some (.popw n _ _ _) => landed n
    | _ => false

/-- CL_LEAD as it acts, in ns. -/
def State.clLead (s : State) : Nat := 1000 * max 14 (min 1000 (s.fld F.PWR_WAKE_CTL_CL_LEAD))

/-- CLUSTER_WAKE (R421): at once for a word that has landed; else CL_LEAD before the earliest deadline. A write of an OCL register wakes its
cluster in the write itself. -/
def execClusterWake (c : Nat) (s : State) : Out :=
  let c := c % 4
  match SMap.find? s.ocl.stopped c with
  | none => .next s
  | some a =>
    if s.wordLanded c a then .next (s.clusterStart c)
    else match s.clusterDeadline c with
      | some d => .next ((s.advance (d - s.clLead)).clusterStart c)
      | none => .next s

/-! ## Spread spectrum (R426, R427) -/

/-- A write of PWR_SSC. -/
def State.sscWrite (s : State) (d : Word) : State :=
  let was := s.flag F.PWR_SSC_FAB_EN
  let s := s.setReg .PWR_SSC 0 0 (d &&& 0x1F)
  if d.getLsbD 4 then { s with pwr := { s.pwr with sscOff := none } }
  else if was then { s with pwr := { s.pwr with sscOff := some s.clp.now } }
  else s

/-- SSC_APPLY (R426): the start of the next modulation period, at 31.5 kHz. -/
def execSscApply (s : State) : Out :=
  let (v, s) := s.fresh
  let s := s.advance (v % 31747)
  let lag := (List.range 4).foldl (fun m c => SMap.put m c (SMap.getD s.pwr.sscLag c 0 + s.lagNow c)) s.pwr.sscLag
  .next { s with pwr := { s.pwr with sscLag := lag, sscSince := s.clp.now, sscCl := s.fld F.PWR_SSC_CL_EN, sscFab := s.flag F.PWR_SSC_FAB_EN } }

/-! ## Power failure and Dormant (R422–R425, R428, R429) -/

/-- PFAIL_DETECT (R428, R429, R435, R537): PFAIL_N changes at its ball, asserted or not from then on, and its filter takes the change whole, 8
cycles of the counting clock later, or not at all; `both`: the detector trips in the same cycle. -/
def execPfailDetect (e : Change) (both : Bool) (s : State) : Out :=
  let (seen, s) := (s.after e.dt).filtered 28 37 e.held
  let s := s.on seen fun s => (s.after 33).setFld F.PWR_STAT_PFAIL (cond e.on 1 0)
  let s := s.on both fun s => s.setFld F.PWR_STAT_BOR 1
  let causes := (if seen && e.on && s.flag F.PWR_PFAIL_CTL_PFAIL_EN then 4 else 0) + (if both then 8 else 0)
  if s.pwr.phase = .run ∧ causes ≠ 0 then .next (s.pfailStart causes) else .next s

/-- BROWN_OUT (R428, R435): a supply is below its threshold, where the brown-out detector trips after 1 µs, or is good again. -/
def execBrownOut (e : Change) (s : State) : Out :=
  let s := s.after e.dt
  if e.on = false then .next (s.setFld F.PWR_STAT_BOR 0)
  else if e.held < 1000 then .next s
  else
    let s := (s.after 1000).setFld F.PWR_STAT_BOR 1
    if s.pwr.phase = .run then .next (s.pfailStart 8) else .next s

/-- A write of PWR_DORMANT (R423): with ENTER it needs the KEY; it has no effect during the power-fail sequence (R429). -/
def State.dormantWrite (s : State) (d : Word) : State :=
  if s.pwr.phase = .failing then s
  else if d.getLsbD 0 && bits d.toNat 16 16 != 0x6416 then s.raise F.PWR_EVT_DORMANT_REFUSED
  else
    let s := s.setReg .PWR_DORMANT 0 0 (d &&& 6)
    if d.getLsbD 0 ∧ s.pwr.phase = .run then s.pfailStart 256 else s

/-- DORMANT_ENTER (R423): a write of PWR_DORMANT with ENTER set. -/
def execDormantEnter (d : Word) (s : State) : Out := .next (s.powered fun s => s.dormantWrite (d ||| 1))

/-- The Cistern's full-time seconds. -/
def State.cisSeconds (s : State) : Nat := s.clp.cisTicks / 32768 % 2 ^ 48

/-- The alarm of Dormant is enabled and reached (R424). -/
def State.alarmDue (s : State) : Bool := s.flag F.PWR_DORMANT_ALARM_EN && decide (s.fld F.PWR_ALARM_SEC ≤ s.cisSeconds)

/-- A device that is Dormant, or enters it, wakes: PWR_REQ is high and the reset goes on until it is released. -/
def State.wakeUp (s : State) : State := { s with pwr := { s.pwr with phase := .reset, pwrReq := true } }

/-- PFAIL_RESET (R424, R428, R429): 2.0 ms after the detection. The Cistern takes full time at its trickle tick; a DORMANT sequence lowers
PWR_REQ unless a wake condition is true (`wakeN`: WAKE_N is low). -/
def execPfailReset (wakeN : Bool) (s : State) : Out :=
  if s.pwr.phase = .failing then
    let s := s.advanceTo (s.pwr.failAt + 2000000)
    let s := if s.clp.on then { s with clp := { s.clp with cisTicks := cisternOf s.clp.ft } } else s
    let causes := s.pwr.causes
    let s := s.fullReset causes
    if causes.testBit 8 && !(s.alarmDue || (wakeN && s.flag F.PWR_DORMANT_WAKE_N_EN)) then
      .next { s with pwr := { s.pwr with phase := .off, pwrReq := false } }
    else .next s.wakeUp
  else .next s

/-- The first number of trickle ticks, from `n` on, after which the Cistern's seconds have reached ALARM. -/
def State.alarmTicks (s : State) : Nat → Nat → Nat
  | 0, n => n
  | k + 1, n => if s.fld F.PWR_ALARM_SEC ≤ (s.cisternTicks n).cisSeconds then n else s.alarmTicks k (n + 1)

/-- Trickle ticks until the alarm comes: each adds 1 + CIS_TRIM / 64 ppm of a tick to the Cistern's count (R357), and the accumulator holds
less than one tick. -/
def State.alarmAt (s : State) : Nat :=
  let need := s.fld F.PWR_ALARM_SEC * 32768 - s.clp.cisTicks
  s.alarmTicks 8 (need * 64000000 / (64000000 + s.sfld F.CLP_CIS_CTL_CIS_TRIM).toNat - 3)

/-- DORMANT_ALARM (R424): the Cistern's seconds reach ALARM while the device is Dormant. -/
def execDormantAlarm (s : State) : Out :=
  if s.pwr.phase = .off ∧ s.flag F.PWR_DORMANT_ALARM_EN = true then
    .next (s.advanceTo (tickTime (ticksAt s.clp.now + s.alarmAt))).wakeUp
  else .next s

/-- WAKE_N_WAKE (R424, R537, R538): WAKE_N is low while the device is Dormant; low at two consecutive trickle ticks it wakes the device at the
second. -/
def execWakeNWake (p : Low) (s : State) : Out :=
  let s := s.after p.dt
  let t := tickTime (ticksAt s.clp.now + 2)
  if s.pwr.phase = .off ∧ s.flag F.PWR_DORMANT_WAKE_N_EN = true ∧ t ≤ s.clp.now + p.held then .next (s.advanceTo t).wakeUp else .next s

/-! ## Resets from outside, and the Cistern's supply (R416, R430) -/

/-- A write of GLB_RESET_CTL (R430): any other KEY has no effect. -/
def State.resetCtlWrite (s : State) (d : Word) : State :=
  if d.getLsbD 0 && bits d.toNat 16 16 == 0x6416 then s.requestReset 4 else s

/-- SOFT_RESET (R430): a write of GLB_RESET_CTL with FULL set. -/
def execSoftReset (d : Word) (s : State) : Out := .next (s.powered fun s => s.resetCtlWrite (d ||| 1))

/-- RST_N past its filter (R430, R538, R539): a full reset; during the power-fail sequence a cause beside the sequence's; while a reset is in
progress it adds no cause, and its release samples the straps. -/
def State.rstN (s : State) : State :=
  match s.pwr.phase with
  | .run => s.fullReset 2
  | .failing => { s with pwr := { s.pwr with causes := setBits s.pwr.causes 1 1 1 } }
  | _ => { s with pwr := { s.pwr with rstFell := true } }

/-- RST_N_ASSERT (R430, R537): RST_N is low at its ball, and its filter takes the level after 100 ns, or rejects it. -/
def execRstNAssert (p : Low) (s : State) : Out :=
  let (seen, s) := (s.after p.dt).filtered 19 100 p.held
  .next (s.on seen fun s => (s.after 100).rstN)

/-- The main supplies are gone (R416, R429): what is not in the Cistern is lost, a flash operation in progress and the Silt buffer among it. A device
that ran has fallen below the detector's threshold; one in the power-fail sequence keeps that sequence's causes. -/
def State.powerLost (s : State) : State :=
  let s := match s.pwr.phase with
    | .run => s.fullReset 8
    | .failing => s.fullReset s.pwr.causes
    | _ => s
  { s with pwr := { s.pwr with mains := false } }

/-- VBAT_LOSS (R416, R118, R430): the Cistern runs from VBAT and VBAT falls below 1.6 V: its contents are lost, and a full reset has the
cause POWER. The 60 s of the running bin count from the loss on (DESIGN CHOICE, log entry 155). -/
def execVbatLoss (dt : Nat) (s : State) : Out :=
  if !s.pwr.onVbat then .next s
  else
    let s := s.after dt
    let s := s.on s.released fun s => s.fullReset 1
    let clear (s : State) (id : RegId) : State := s.setReg id 0 0 (resetAt id 0 0)
    let s := [RegId.CLP_CIS_CTL, .PWR_DORMANT, .PWR_ALARM, .GLB_RESET_CAUSE, .GLB_RESET_COUNT].foldl clear s
    let s := s.setFld F.GLB_RESET_COUNT_RESETS 1
    .next { s with
      clp := { s.clp with cisTicks := 0, cisAcc := 0, cisLost := true }
      cht := { s.cht with bins := [], limits := [], rotations := 0, binTick := ticksAt s.clp.now }
      pwr := { s.pwr with phase := .reset, vbatLost := true, pwrReq := true } }

/-- CISTERN_SUPPLY_SWITCH (R416, R431): VDD_IO crosses 1.62 V; no trickle tick is lost. Where VDD_IO comes back, the Cistern sees the main
supplies rise and CYCLES counts; one that has lost its contents starts at 0 (R358). -/
def execCisternSupplySwitch (dt : Nat) (supply : CisternSupply) (s : State) : Out :=
  let s := s.after dt
  match supply with
  | .vbat removed =>
    let s := s.on removed State.powerLost
    .next { s with pwr := { s.pwr with onVbat := true } }
  | .vddIo =>
    let s := s.on s.pwr.onVbat fun s => s.setFld F.GLB_RESET_COUNT_CYCLES (s.fld F.GLB_RESET_COUNT_CYCLES + 1)
    let s := s.on s.clp.cisLost fun s => { s with clp := { s.clp with cisTicks := 0, cisAcc := 0 } }
    .next { s with pwr := { s.pwr with onVbat := false, mains := true, rose := s.pwr.rose || !s.pwr.mains } }

/-- VBAT_LOW (R435): VBAT falls below 1.8 V. -/
def execVbatLow (dt : Nat) (s : State) : Out :=
  let s := s.after dt
  if s.flag F.PWR_STAT_VBAT_LOW then .next s
  else .next ((s.setFld F.PWR_STAT_VBAT_LOW 1).on s.released fun s => s.raise F.PWR_EVT_VBAT_LOW)

/-- VBAT_RESTORE (R435): VBAT is 1.8 V or more again. -/
def execVbatRestore (dt : Nat) (s : State) : Out := .next ((s.after dt).setFld F.PWR_STAT_VBAT_LOW 0)

/-- DEV_STATE (R422): 2 Active while a chain is not Parked, a transmit side not Off or a cluster runs. -/
def State.devState (s : State) : Nat :=
  if (List.range 16).any (fun j => s.chainState j != 0 || s.txState j != 0) || (List.range 4).any s.clusterRuns then 2 else 1

/-- PWR_STAT as it reads. -/
def State.pwrStat (s : State) : Word :=
  let run := (List.range 4).foldl (fun m c => if s.clusterRuns c then m + 2 ^ c else m) 0
  BitVec.ofNat 64 (setBits (setBits (s.reg .PWR_STAT 0 0).toNat 0 2 s.devState) 9 4 run)

end Sys2Proof.Machine
end

