-- ==== Sys2Proof/Machine/Spillway.lean ====
section
/-! DEFINITION. Spillway's commands and frames (06_spillway.md, R163–R181). -/

namespace Sys2Proof.Machine

/-- REMAIN and MISSING follow the session (SPW_PROG_s). -/
def State.spwShow (s : State) (k : Nat) : State :=
  (s.setFld F.SPW_PROG_REMAIN (s.spwS k).todo.length k).setFld F.SPW_PROG_MISSING (s.spwS k).missing.length k

/-- Set a session and what it shows. -/
def State.putSpw (s : State) (k : Nat) (p : SpwSession) : State := (s.setSpw k p).spwShow k

/-- STATE of a session: 0 Idle, 1 Ready, 2 Running, 3 Suspended (R163). -/
def State.spwState (s : State) (k : Nat) : Nat := s.fld F.SPW_STAT_STATE k

/-- SPW_CMD is BUSY (R175). -/
def State.spwBusy (s : State) : Bool := decide (s.clp.now < s.spw.busyTill)

/-- The result of a command in SPW_CMD_STAT, which is BUSY for 1 µs at most from the write (R175); INTERNAL posts a Silt record (R13). -/
def State.spwResult (s : State) (st : Status) (reason : Nat) : State :=
  let (v, s) := s.fresh
  let s := { s with spw := { s.spw with busyTill := s.clp.now + v % 1001 } }
  let s := (s.setFld F.SPW_CMD_STAT_STATUS st.code).setFld F.SPW_CMD_STAT_REASON reason
  s.on (decide (st = .internal)) fun s => s.siltInternal 6 reason

/-- A command that its session's state admits runs `f`; otherwise it completes BUSY with nothing changed (R176). -/
def State.spwWhen (s : State) (ok : Bool) (f : State → State) : State := if ok then (f s).spwResult .ok 0 else s.spwResult .busy 0

/-- Both frames of a session, with the FCS that its copies share, fit MAX_AIR on an enabled carrier (R177, check 4). -/
def State.spwFits (s : State) (k fcs j c : Nat) : Bool :=
  let m := s.fld F.TXF_CAR_CFG_MODE j c
  let mcs := s.fld F.TXF_CAR_CFG_MCS j c
  let lim := s.fld F.MAC_TMPL_1_MAX_AIR * 1000
  !s.flag F.TXF_CAR_CFG_EN j c ||
    (decide (s.airNs m mcs (s.spwLen k fcs false) ≤ lim) && decide (s.airNs m mcs (s.spwLen k fcs true) ≤ lim))

/-- The REASON of the first check of R177 that fails, 0 when all pass. -/
def State.spwCheck (s : State) (k : Nat) : Nat :=
  let blocks := s.fld F.SPW_GEOM_BLOCKS k
  let on := s.spwOn k (s.fld F.SPW_TX_CHAINS k)
  if blocks = 0 then 1
  else if 256 < s.fld F.SPW_GEOM_MAN_LEN k ∨
      s.flashSize < s.fld F.SPW_FLASH_BASE k + 256 + blocks * s.spwBlock k then 2
  else if !(on.all fun e => s.spwFits k (s.sharedFcs on) e.1 e.2) then 4
  else 0

/-- SPW_LOAD (R176, R177). -/
def State.spwLoad (s : State) (k : Nat) : State :=
  if 2 ≤ s.spwState k then s.spwResult .busy 0
  else
    let r := s.spwCheck k
    if r = 0 then
      ((((s.putSpw k { slots := (s.spwS k).slots, backoff := (s.spwS k).backoff }).setFld F.SPW_STAT_STATE 1 k).setFld F.SPW_STAT_ROUND 0 k).spwResult .ok 0)
    else s.spwResult .internal r

/-- A round begins (R167, R173); a back-off that runs goes on (R172), and its first matching slot is a sending slot whatever PACE says (DESIGN
CHOICE, log entry 142). -/
def State.spwRound (s : State) (k : Nat) (kind : Nat) (set missing : List Nat) : State :=
  let s := (s.setFld F.SPW_STAT_ROUND (s.fld F.SPW_STAT_ROUND k + 1) k).setFld F.SPW_STAT_KIND kind k
  let s := s.putSpw k { s.spwS k with
    todo := set, missing := missing, manifest := true, since := none }
  if set.isEmpty then s.raise ⟨.SPW_EVT, k, 1⟩ else s.setFld F.SPW_STAT_STATE 2 k

/-- START_FULL (R167). -/
def State.spwStartFull (s : State) (k : Nat) : State :=
  s.spwWhen (s.spwState k == 1) fun s =>
    s.spwRound k 0 (List.range (s.fld F.SPW_GEOM_BLOCKS k)) (s.spwS k).missing

/-- START_REPAIR (R167, R173). -/
def State.spwStartRepair (s : State) (k : Nat) : State :=
  s.spwWhen (s.spwState k == 1) fun s => s.spwRound k 1 (s.spwS k).missing []

/-- Merge two rising lists without repeats. -/
def mergeSorted (xs ys : List Nat) : List Nat := ys.foldl (fun l y => insertSorted y l) xs

/-- MERGE (R175, R176): SPW_CMD_MASK joins the missing map from bit `base` on. -/
def State.spwMerge (s : State) (k base : Nat) : State :=
  s.spwWhen (s.spwState k != 0) fun s =>
    let new := ((bitsOf (s.fld F.SPW_CMD_MASK_MASK)).map (base + ·)).filter (· < s.fld F.SPW_GEOM_BLOCKS k)
    s.putSpw k { s.spwS k with missing := mergeSorted (s.spwS k).missing new }

/-- CLEAR_MISSING (R176). -/
def State.spwClearMissing (s : State) (k : Nat) : State :=
  s.spwWhen (s.spwState k != 0) fun s => s.putSpw k { s.spwS k with missing := [] }

/-- SUSPEND (R176). -/
def State.spwSuspend (s : State) (k : Nat) : State := s.spwWhen (s.spwState k == 2) fun s => s.setFld F.SPW_STAT_STATE 3 k

/-- RESUME (R176). -/
def State.spwResume (s : State) (k : Nat) : State := s.spwWhen (s.spwState k == 3) fun s => s.setFld F.SPW_STAT_STATE 2 k

/-- ABORT (R176). -/
def State.spwAbort (s : State) (k : Nat) : State :=
  s.spwWhen true fun s =>
    (s.putSpw k { s.spwS k with todo := [], missing := [], manifest := false, slots := (s.spwS k).slots.map fun x => { x with stray := true } }).setFld F.SPW_STAT_STATE 0 k

/-- A write of SPW_CMD (R175, R176). -/
def State.spwCmdWrite (s : State) (d : Word) : State :=
  if s.spwBusy then s.raise F.SPW_EVT_CMD_IGNORED
  else
    let k := bits d.toNat 4 2
    match bits d.toNat 0 4 with
    | 1 => s.spwLoad k
    | 2 => s.spwStartFull k
    | 3 => s.spwStartRepair k
    | 4 => s.spwMerge k (bits d.toNat 16 16)
    | 5 => s.spwClearMissing k
    | 6 => s.spwSuspend k
    | 7 => s.spwResume k
    | 8 => s.spwAbort k
    | _ => s.spwResult .internal 0

/-- The word that a write of SPW_CMD carries. -/
def spwCmdWord (op k base : Nat) : Word := BitVec.ofNat 64 (op + 16 * (k % 4) + 2 ^ 16 * (base % 2 ^ 16))

/-- SPW_LOAD. -/
def execSpwLoad (k : Nat) (s : State) : Out := .next (s.powered fun s => s.spwCmdWrite (spwCmdWord 1 k 0))
/-- START_FULL. -/
def execStartFull (k : Nat) (s : State) : Out := .next (s.powered fun s => s.spwCmdWrite (spwCmdWord 2 k 0))
/-- START_REPAIR. -/
def execStartRepair (k : Nat) (s : State) : Out := .next (s.powered fun s => s.spwCmdWrite (spwCmdWord 3 k 0))
/-- MERGE. -/
def execMerge (k base : Nat) (s : State) : Out := .next (s.powered fun s => s.spwCmdWrite (spwCmdWord 4 k base))
/-- CLEAR_MISSING. -/
def execClearMissing (k : Nat) (s : State) : Out := .next (s.powered fun s => s.spwCmdWrite (spwCmdWord 5 k 0))
/-- SUSPEND. -/
def execSuspend (k : Nat) (s : State) : Out := .next (s.powered fun s => s.spwCmdWrite (spwCmdWord 6 k 0))
/-- RESUME. -/
def execResume (k : Nat) (s : State) : Out := .next (s.powered fun s => s.spwCmdWrite (spwCmdWord 7 k 0))
/-- ABORT. -/
def execAbort (k : Nat) (s : State) : Out := .next (s.powered fun s => s.spwCmdWrite (spwCmdWord 8 k 0))

/-- A write of a session's register (R178): only while the session is Idle. -/
def State.spwRegWrite (s : State) (id : RegId) (k : Nat) (d : Word) : State :=
  if s.spwState k = 0 then
    let mask : Word := match id with
      | .SPW_FLASH => 0x3FFFFFFF
      | .SPW_GEOM => 0xFFFF1FFF
      | .SPW_SCHED => 0xFFF7FFFF
      | .SPW_TX => 0xFFF7FFFF
      | .SPW_CAR => BitVec.allOnes 64
      | _ => 0xFFFFFFFF
    s.setReg id k 0 (d &&& mask)
  else s.raise F.SPW_EVT_CFG_IGNORED

/-- The frame of a block of a session, or its manifest, from its flash bytes (R165). -/
def State.spwFrame (s : State) (k fcs : Nat) (block : Option Nat) (data : List Byte) : List Byte :=
  let oui := leBytes 3 (s.fld F.MAC_VENDOR_OUI)
  let img := leBytes 4 (s.fld F.SPW_IMG_IMAGE_ID k)
  let c := match block with
    | none =>
      oui ++ leBytes 1 4 ++ img ++ leBytes 2 (s.fld F.SPW_STAT_ROUND k) ++ leBytes 1 (s.fld F.SPW_STAT_KIND k) ++
        leBytes 2 (s.spwBlock k) ++ leBytes 2 (s.fld F.SPW_GEOM_BLOCKS k) ++ data
    | some b => oui ++ leBytes 1 3 ++ img ++ leBytes 2 b ++ data
  buildVendor (s.fld F.SPW_TX_SECLVL k) (s.fld F.MAC_ADDR_PAN) (s.fld F.MAC_ADDR_SHORT) fcs c

/-- The slot of an ASN is in work no more. -/
def SpwSession.leave (p : SpwSession) (a : Nat) : SpwSession := { p with slots := p.slots.filter fun x => x.asn != a }

/-- The frame of a slot has been placed: the session moves on, and its round is done after the last block (R171, R173); a frame of an aborted
round moves nothing (R179). -/
def State.spwPlaced (s : State) (k : Nat) (x : SpwSlot) : State :=
  let p := (s.spwS k).leave x.asn
  let p := if x.stray then p else match x.block with
    | none => { p with manifest := false }
    | some b => { p with todo := p.todo.filter (· != b) }
  let s := s.putSpw k p
  s.on (!x.stray && !p.manifest && p.todo.isEmpty && (s.spwState k == 2 || s.spwState k == 3)) fun s =>
    (s.setFld F.SPW_STAT_STATE 1 k).raise ⟨.SPW_EVT, k, 1⟩

/-- A carrier carries a beacon copy in slot `a` on chain j (R169). -/
def State.beaconOn (s : State) (a j c : Nat) : Bool :=
  s.mac.bcnNow.any fun e => e.1 == a && e.2.1 == j && e.2.2.contains c

/-- A sending slot of a session is given up: its cells are freed and the slot counts as skipped (R170). -/
def State.spwSkip (s : State) (k : Nat) (x : SpwSlot) : State :=
  let s := s.setSpw k ((s.spwS k).leave x.asn)
  let mine (w : FlsOp) : Bool := w.src == 2 && w.session == k && w.asn == x.asn
  let s := { s with fls := { s.fls with waiting := s.fls.waiting.filter fun w => !mine w } }
  let s := s.on (s.fls.busy.any mine) fun s => s.flsEnd
  (s.freeChain (x.cells.getD 0 0)).bump F.SPW_CNT_SKIP_COUNT

/-- SPW_FLASH_READ_DONE (R165, R166, R169, R171, R173): the read that the port runs for a session ends, no later than 100 µs before
TX_OFFSET, and one copy goes to each named chain and carrier that carries no beacon copy in the slot. A slot with no copy to place is skipped (DESIGN
CHOICE, log entry 143). -/
def execSpwFlashReadDone (dt k : Nat) (s : State) : Out :=
  let s' := s.after dt
  match s'.fls.busy with
  | some w =>
    match (s'.spwS k).slots.find? fun x => x.asn == w.asn with
    | some x =>
      let off := s'.fld F.MAC_TMPL_0_TX_OFFSET
      if w.src = 2 ∧ w.session = k ∧ s'.fullNs + 100000 ≤ s'.slotStart x.asn + off * 1000 then
        let s := s'.flsEnd
        let bytes := s.spwFrame k (s.sharedFcs (s.spwOn k x.chains)) x.block (s.flashBytes w.addr w.len)
        let on := (s.spwOn k x.chains).filter fun e => !s.beaconOn x.asn e.1 e.2
        if on.isEmpty then .next (s.spwSkip k x)
        else
          let s := (s.putFrame x.cells bytes).placeCopies (fun g => .spw k g) on x.cells
            { len := bytes.length, mode := 2, asn := x.asn, slotOff := off, group := s.fld F.SPW_TX_GROUP k
              sec := s.fld F.SPW_TX_SECLVL k }
          .next (s.spwPlaced k x)
      else .next s
    | none => .next s
  | none => .next s

/-- SPW_SLOT_SKIP (R170): 100 µs before TX_OFFSET the read of the oldest slot in work has not completed. -/
def execSpwSlotSkip (k : Nat) (s : State) : Out :=
  match (s.spwS k).slots with
  | x :: _ =>
    let s := s.advanceToFull (s.slotStart x.asn + s.fld F.MAC_TMPL_0_TX_OFFSET * 1000 - 100000 + 1)
    .next ((s.spwSkip k x).raise F.SPW_EVT_FLASH_LATE)
  | [] => .next s

end Sys2Proof.Machine
end

