-- ==== Sys2Proof/Machine/Bus.lean ====
section
/-! DEFINITION. The register window, BAR0 (R6–R12, R390, R523–R528): which register an offset names, what a read gives and does, what a
write does, and the commands 0–3. A requester is 0–127 for an Ocell thread, 128 for the host, 129 for Jomuter (R217). -/

namespace Sys2Proof.Machine

/-! ## Offsets (R523, R524) -/

/-- What an offset of BAR0 names: a register's copy, a word of the MSI-X table or of the pending-bit array, a shadow counter, a shadow
page's sequence word, or nothing. -/
inductive BusTarget where
  | reg (id : RegId) (i j : Nat)
  | msix (v k : Nat)
  | pba (k : Nat)
  | shadow (u i : Nat)
  | shadowSeq (u : Nat)
  | none
  deriving DecidableEq, Repr

/-- The copy of a register at an offset (R524). OBS_RILL_CNT has six copies of each chain (R497). -/
def RegId.copyAt (id : RegId) (off : Nat) : Option (Nat × Nat) :=
  let p := id.place
  let d := off - p.base
  let i := if p.ostride = 0 then 0 else d / p.ostride
  let r := d - i * p.ostride
  let j := if p.istride = 0 then 0 else r / p.istride
  let some' := id != .OBS_RILL_CNT || decide (i % 16 < 6)
  if p.base ≤ off ∧ r = j * p.istride ∧ i < p.ocount ∧ j < p.icount ∧ some' = true then some (i, j) else none

/-- The first register of a list with a copy at an offset. -/
def regIn (off : Nat) : List RegId → BusTarget
  | [] => .none
  | id :: ids => match id.copyAt off with
    | some (i, j) => .reg id i j
    | none => regIn off ids

/-- What an offset names. -/
def busTarget (off : Nat) : BusTarget :=
  match regIn off (blockRegs (off / 2 ^ 22)) with
  | .none =>
    if 0x03410000 ≤ off ∧ off < 0x03410400 ∧ off % 4 = 0 then .msix ((off - 0x03410000) / 16) (off % 16 / 4)
    else if 0x03411000 ≤ off ∧ off < 0x03411008 ∧ off % 4 = 0 then .pba (off % 8 / 4)
    else if 0x04480000 ≤ off ∧ off < 0x04480000 + 0x200 * 292 ∧ off % 4 = 0 then
      let u := (off - 0x04480000) / 512
      let o := (off - 0x04480000) % 512
      if o = 0x100 then .shadowSeq u
      else if o / 4 < (unitCounters u).length then .shadow u (o / 4)
      else .none
    else .none
  | t => t

/-- The words that the PCIe specification lets be read as 32-bit or as 64-bit words. -/
def BusTarget.isPcie : BusTarget → Bool
  | .msix _ _ => true
  | .pba _ => true
  | _ => false

/-- An access of `w` bytes at an offset keeps R6: aligned, and of the width of the register it names, if it names one. -/
def widthOk (off w : Nat) : Bool :=
  let wideAt (o : Nat) : Bool := match busTarget o with | .reg id _ _ => id.wide | _ => false
  let t := busTarget off
  match w with
  | 4 => off % 4 == 0 && (match t with
    | .reg id _ _ => !id.wide
    | .none => !(off % 8 == 4 && wideAt (off - 4))
    | _ => true)
  | 8 => off % 8 == 0 && (match t with
    | .reg id _ _ => id.wide
    | .none => busTarget (off + 4) == .none
    | t => t.isPcie)
  | _ => off % w == 0 && (w == 1 || w == 2) && busTarget (off - off % 4) == .none && !wideAt (off - off % 8)

/-- Registers that only Jomuter may access (R108, R239, R405): others read 0 and write nothing. -/
def jomuterOnly (id : RegId) (i : Nat) : Bool :=
  match id with
  | .CHT_FPROG_ADDR => true
  | .CHT_FPROG_CMD => true
  | .GRT_CMD => true
  | .GRT_CMD_IN => true
  | .GRT_CMD_OUT => true
  | .FLS_CMD => i == 0
  | .FLS_ADDR => i == 0
  | .FLS_CSTAT => i == 0
  | .FLS_BUF => i == 0
  | _ => false

/-! ## MSI-X (R392, R527) -/

/-- A pending vector whose mask has gone sends its message, and its pending bit clears (R527). -/
def State.msixFlush (s : State) (v : Nat) : State :=
  if (SMap.find? s.hst.pba v).isSome && !s.hst.funcMask && !(SMap.getD s.hst.msix v {}).mask then
    { s with hst := { s.hst with pba := SMap.del s.hst.pba v } }.sendVector v true
  else s

/-- A word of the MSI-X table is written: address low and high, data, vector control. -/
def State.msixWrite (s : State) (v k : Nat) (d : Nat) : State :=
  let e := SMap.getD s.hst.msix v {}
  let d := d % 2 ^ 32
  let e := match k with
    | 0 => { e with addr := setBits e.addr 0 32 d }
    | 1 => { e with addr := setBits e.addr 32 32 d }
    | 2 => { e with data := d }
    | _ => { e with mask := d.testBit 0 }
  { s with hst := { s.hst with msix := SMap.put s.hst.msix v e } }.msixFlush v

/-- A word of the MSI-X table as it reads. -/
def State.msixRead (s : State) (v k : Nat) : Nat :=
  let e := SMap.getD s.hst.msix v {}
  match k with
  | 0 => bits e.addr 0 32
  | 1 => bits e.addr 32 32
  | 2 => e.data
  | _ => cond e.mask 1 0

/-- A 32-bit word of the pending-bit array. -/
def State.pbaRead (s : State) (k : Nat) : Nat :=
  (s.hst.pba.filter fun e => e.1 / 32 == k).foldl (fun m e => m + 2 ^ (e.1 % 32)) 0

/-- The vectors that are raised. -/
def State.raisedVectors (s : State) : List Nat := (List.range 42).filter fun v => s.vectorRaised v

/-- MSI-X Enable and the Function Mask are written (R527, R529): where Enable rises, each raised vector sends; a pending vector that neither mask
holds sends its message. -/
def State.msixEnable (s : State) (en funcMask : Bool) : State :=
  let rose := en && !s.flag F.HST_STAT_MSIX_EN
  let s := { s with hst := { s.hst with funcMask := funcMask } }.setFld F.HST_STAT_MSIX_EN (cond en 1 0)
  let s := s.on en fun s => (List.range 64).foldl (fun s v => s.msixFlush v) s
  s.on rose fun s => s.raisedVectors.foldl (fun s v => s.sendVector v) s

/-- MSIX_ENABLE (R527): the host's write of MSI-X Enable and the Function Mask. -/
def execMsixEnable (en funcMask : Bool) (s : State) : Out := .next (s.powered fun s => s.msixEnable en funcMask)

/-- MSIX_UNMASK (R527): the Mask bit of a vector's control word is written 0. -/
def execMsixUnmask (v : Nat) (s : State) : Out := .next (s.powered fun s => s.msixWrite (v % 64) 3 0)

/-! ## Reads (R11) -/

/-- The bits of a register under an access code. -/
def RegId.accMask (id : RegId) (a : Access) : Word :=
  BitVec.ofNat 64 ((id.fields.map fun f => if f.acc = a then (2 ^ f.w - 1) * 2 ^ f.lo else 0).sum)

/-- A value with a field replaced. -/
def Fld.over (f : Fld) (v : Nat) (w : Word) : Word := BitVec.ofNat 64 (setBits w.toNat f.lo f.w v)

/-- A truth value as a bit. -/
def bit1 (b : Bool) : Nat := cond b 1 0

/-- What hardware has added to the RC fields of a register in this cycle (R12); a saturated field keeps nothing back. -/
def State.lateCount (s : State) (id : RegId) (i j : Nat) : Nat :=
  ((id.fields.filter fun f => f.acc == .rc).map fun f =>
    let v := bits (s.reg id i j).toNat f.lo f.w
    let k := ((s.cycNow.incs.find? fun e => e.1 == (id, i, j, f.lo)).map fun e => e.2).getD 0
    if v + 1 = 2 ^ f.w then 0 else min v k * 2 ^ f.lo).sum

/-- An RC field is cleared by its read, but for what this cycle has added, which the read does not return (R11, R12). -/
def State.rcRead (s : State) (id : RegId) (i j : Nat) : Word × State :=
  let late := BitVec.ofNat 64 (s.lateCount id i j)
  (s.reg id i j - late, s.setReg id i j ((s.reg id i j &&& ~~~(id.accMask .rc)) ||| late))

/-- A word of memory `m` as a register shows it; an uncorrectable one is dropped (R444). -/
def State.shownWord (s : State) (m w : Nat) : Word × State :=
  match s.memRead m w with
  | (.good v, s) => (BitVec.ofNat 64 v, s)
  | (.bad v, s) => (BitVec.ofNat 64 v, s.dropWord m w)

/-- What a read of a register gives without an effect of its own: what it holds, and the fields that show live state. -/
def State.regView (s : State) (id : RegId) (i j : Nat) : Word :=
  let r := s.reg id i j
  let n (v : Nat) : Word := BitVec.ofNat 64 v
  match id with
  | .PLM_CHAIN_STAT =>
    F.PLM_CHAIN_STAT_CONV_LOCK.over (bit1 (s.convLock i)) (F.PLM_CHAIN_STAT_ADC_CAL_OK.over (bit1 (s.adcCalOk i))
      (F.PLM_CHAIN_STAT_RILLS_BUSY.over (s.rillsBusy i) (F.PLM_CHAIN_STAT_RILLS_EN.over (s.rillsEn i) r)))
  | .TXF_CHAIN_STAT => F.TXF_CHAIN_STAT_CAR_BUSY.over (s.carsBusy i) r
  | .TXF_CAR_STAT => F.TXF_CAR_STAT_BUSY.over (bit1 (s.carBusy i j)) (F.TXF_CAR_STAT_PENDING.over (bit1 (s.carPending i j)) r)
  | .FLS_STAT => F.FLS_STAT_OP_BUSY.over (bit1 (s.flag F.FLS_STAT_OP_BUSY || (s.obs.unread && s.fld F.FLS_STAT_MODE != 0))) r
  | .CHT_STAT => F.CHT_STAT_NEAR_MASK.over s.nearNow r
  | .SPW_CMD_STAT => F.SPW_CMD_STAT_BUSY.over (bit1 s.spwBusy) r
  | .CHT_BIN_DATA =>
    let e := s.fld F.CHT_BIN_SEL_ENTRY
    let k := s.fld F.CHT_BIN_SEL_BIN
    let live := if k = 0 then ((s.cht.meters.filter fun m => m.entry == e).map fun m => m.steps s.clp.now - m.counted).sum else 0
    if k < 60 then n (s.bin e k + live) else 0
  | .CHT_ENT_CFG => F.CHT_ENT_CFG_LIVE.over (bit1 (s.entryLive i)) r
  | .CHT_WEIR_USED => n (s.weirUsed i)
  | .CHT_WEIR_LIMIT => if s.entryLive i then n (s.weirLimit i) else 0
  | .SLC_STAT => F.SLC_STAT_ENTRIES.over s.slcEntries r
  | .SLC_PINNED => n s.slcPinned
  | .GRT_STAT => F.GRT_STAT_GROUPS_LIVE.over s.groupsLive (F.GRT_STAT_UNLOCKED.over (bit1 s.unlocked) r)
  | .GRT_KEY_FLOOR => n s.shownKey.floor
  | .GRT_KEY_DATA => n s.keyData
  | .GRT_PENDING => n s.pendingPages
  | .GRT_FUSE_STATE => n (bits s.fuseState (32 * i) 32)
  | .OCL_J_STAT => s.thrStat 129
  | .OCL_J_WD => s.wdRead 129
  | .OCL_THR_STAT => s.thrStat (32 * i + j)
  | .OCL_WD => s.wdRead (32 * i + j)
  | .OCL_WD_CNT => s.wdCnt (32 * i + j)
  | .RUN_CELL_STAT => n s.freeCells
  | .RUN_LINK_DATA => s.linkData
  | .RUN_NOTICE_SUM => s.noticeSum i
  | .RUN_STAT => s.runStat i
  | .CLP_STAT => F.CLP_STAT_STEER.over s.steer (F.CLP_STAT_LOCKED.over (bit1 s.clpLocked) r)
  | .CLP_SERVICE => n s.service
  | .CLP_NOW_S => n (s.fullNs / 10 ^ 9)
  | .CLP_RATE => n (toPattern F.CLP_RATE_RATE.w s.appliedRate)
  | .CLP_CIS_TIME => s.cisTime
  | .PWR_STAT => s.pwrStat
  | .MEM_STAT =>
    F.MEM_STAT_FLIP_ARMED.over (s.fld F.MEM_FLIP_CTL_ARM) (F.MEM_STAT_FLIP_LOCKED.over (s.fld F.MEM_FLIP_CTL_LOCK) r)
  | .TWN_STAT => F.TWN_STAT_AIR_OK.over (bit1 s.airOk) r
  | .TWN_MIRROR => F.TWN_MIRROR_QUEUED.over s.mirrorQueued r
  | .OBS_OP_HOURS => n s.opHour
  | .OBS_OP_SEC => n s.opSec
  | .OBS_SILT_CODE_CFG => s.siltCfg
  | .OBS_SILT_STAT_DATA => s.siltData
  | .OBS_UNIT => unitWord i
  | _ => r

/-- A read of an offset need not wait for a memory to be initialised (R433). -/
def State.readReady (s : State) (off : Nat) : Bool :=
  match busTarget off with
  | .reg .MAC_CELL_DATA _ _ => s.memReady 6
  | .reg .MAC_DRIFT_DATA _ _ => s.memReady 5
  | _ => true

/-- A read of a register by a requester that may read it: what it gives, and the state after (R11, R335, R355). -/
def State.regRead (s : State) (id : RegId) (i j : Nat) : Word × State :=
  match id with
  | .MAC_ASN =>
    if s.asnValid then (BitVec.ofNat 64 s.asn, s)
    else if s.clp.asnPast.isNone then (0, s)
    else
      let (v, s) := s.fresh
      (BitVec.ofNat 64 (v % 2 ^ 40), s)
  | .MAC_CELL_DATA => s.shownWord 6 (s.fld F.MAC_CELL_IDX_IDX)
  | .MAC_DRIFT_DATA => s.shownWord 5 (s.fld F.MAC_DRIFT_IDX_IDX)
  | .OCL_J_DBG_DATA => s.jDbgDataRead
  | .OCL_DBG_DATA => s.dbgDataRead (32 * i + j)
  | .RUN_HPOP => s.hostPop i
  | .CLP_NOW_S => (s.regView .CLP_NOW_S i j, s.nowLatch)
  | .OBS_THR_CNT => (s.waitCount i).rcRead .OBS_THR_CNT i j
  | .CHT_EVT => let s := s.nearSeen; (s.regView .CHT_EVT i j, s)
  | _ => if id.accMask .rc = 0 then (s.regView id i j, s) else s.rcRead id i j

/-- A read of an offset by a requester (R7, R108, R239, R501). While the internal reset is held nothing answers (R422, R431). -/
def State.busRead (s : State) (req off : Nat) : Word × State :=
  if s.released = false then (0, s) else
  match busTarget off with
  | .reg id i j => if jomuterOnly id i && req != 129 then (0, s) else s.regRead id i j
  | .msix v k => (BitVec.ofNat 64 (s.msixRead v k + 2 ^ 32 * (if k % 2 = 0 then s.msixRead v (k + 1) else 0)), s)
  | .pba k => (BitVec.ofNat 64 (s.pbaRead k + 2 ^ 32 * (if k = 0 then s.pbaRead 1 else 0)), s)
  | .shadow u i => (BitVec.ofNat 64 (SMap.getD s.shadows.1 (64 * u + i) 0), s)
  | .shadowSeq u => (BitVec.ofNat 64 (SMap.getD s.shadows.2 u 0), s)
  | .none => (0, s)

/-- COUNTER_READ (R11, R12, R390): a read of an RC register. Where the width breaks R6 nothing is read, and the host's read returns
every bit 1 and sets WIDTH_ERR. -/
def execCounterRead (a : RegRead) (s : State) : Out :=
  let host := a.who.req == 128
  let s := s.after a.who.dt
  if s.released = false then .next s
  else if !widthOk a.off a.width then
    .next (s.on host fun s => (s.raise F.HST_EVT_WIDTH_ERR).hostAnswer (List.replicate a.width 0xFF) false)
  else match busTarget a.off with
    | .reg id _ _ =>
      if id.accMask .rc = 0 then .next s
      else
        let (v, s) := s.busRead a.who.req a.off
        .next (s.on host fun s => s.hostAnswer (leBytes a.width v.toNat) false)
    | _ => .next s

/-! ## Writes (R11) -/

/-- What a register holds after a write, by the access codes of its fields (R11). RWL fields are unlocked here. -/
def RegId.written (id : RegId) (old d : Word) : Word :=
  let take := id.rwMask
  let clear := id.accMask .w1c
  let set := id.accMask .w1s
  (old &&& ~~~take &&& ~~~(clear &&& d)) ||| (d &&& take) ||| (d &&& set)

/-- The EVT register beside an IRQ_EN register. -/
def evtRegOf (q : RegId) : Option RegId :=
  ([.PLM_EVT, .PLM_GLB_EVT, .TXF_EVT, .CHT_EVT, .MAC_EVT, .SPW_EVT, .SLC_EVT, .GRT_EVT, .OCL_CL_EVT, .RUN_EVT, .RUN_EVT_N, .CLP_EVT,
    .ETH_EVT, .HST_EVT, .FLS_EVT, .PWR_EVT, .MEM_EVT, .TWN_EVT, .OBS_EVT] : List RegId).find? fun e => irqRegOf e == some q

/-- A write under the access codes alone; an EVT or IRQ_EN register then rearms its vector (R11, R527). -/
def State.plainWrite (s : State) (id : RegId) (i j : Nat) (d : Word) : State :=
  let s := s.setReg id i j (id.written (s.reg id i j) d)
  if (irqRegOf id).isSome then s.rearm id i
  else match evtRegOf id with
    | some e => s.rearm e i
    | none => s

/-- A write of HST_SSID (R409): LOCK, once set or in this write, keeps the other fields. -/
def State.ssidWrite (s : State) (d : Word) : State :=
  if s.flag F.HST_SSID_LOCK then s
  else if d.getLsbD 31 then s.setFld F.HST_SSID_LOCK 1
  else s.setReg .HST_SSID 0 0 (d &&& 0x7FFFFFFF)

/-- A write of TXF_COEX_GRP_g: a change of GNT_POL changes what the grant input's level means (R98). -/
def State.coexGrpWrite (s : State) (g : Nat) (d : Word) : State :=
  let was := s.flag F.TXF_COEX_GRP_GNT_POL g
  let level := s.grantActive g != was
  (s.plainWrite .TXF_COEX_GRP g 0 d).setGrant g level s.clp.now

/-- A write of a register of the blocks PLM, TXF, CHT, MAC and SPW that has a rule of its own; `none` for the others. -/
def State.radioWrite (s : State) (id : RegId) (i j : Nat) (d : Word) : Option State :=
  match id with
  | .PLM_PHY_MODE => some (s.phyModeWrite i d)
  | .PLM_CHAIN_CTL => some (s.plmChainCtlWrite i d)
  | .PLM_WINDOW => some (s.plmWindowWrite i d)
  | .PLM_RILL_CFG => some (s.rillCfgWrite i j d)
  | .PLM_RILL_FREQ => some (s.rillFreqWrite i j d)
  | .PLM_RILL_LIM => some (s.rillLimWrite i j d)
  | .TXF_BLANK_GRP => some (s.blankGrpWrite i d)
  | .TXF_COEX_GRP => some (s.coexGrpWrite i d)
  | .TXF_CHAIN_CTL => some (s.txChainCtlWrite i d)
  | .TXF_SYN_WINDOW => some (s.synWindowWrite i d)
  | .TXF_SYN_CTL => some (s.synCtlWrite i d)
  | .TXF_FEM_CTL => some (s.femCtlWrite i d)
  | .TXF_CAR_CFG => some (s.carCfgWrite i j d)
  | .TXF_CAR_FREQ => some (s.carFreqWrite i j d)
  | .CHT_FPROG_CMD => some (s.on (d.getLsbD 0) fun s => s.fuseBlow 129)
  | .CHT_EVT => some (s.nearSeen.plainWrite id i j d)
  | .CHT_IRQ_EN => some (s.nearSeen.plainWrite id i j d)
  | .CHT_SWLIM => some (s.chtSwlimWrite i d)
  | .CHT_WEIR_NEAR => some (s.chtNearWrite i d)
  | .MAC_CTL => some (s.macCtlWrite d)
  | .MAC_SLOT => some (s.macProfileWrite id i d)
  | .MAC_TMPL_0 => some (s.macProfileWrite id i d)
  | .MAC_TMPL_1 => some (s.macProfileWrite id i d)
  | .MAC_TMPL_2 => some (s.macProfileWrite id i d)
  | .MAC_SFD_OFF => some (s.macProfileWrite id i d)
  | .MAC_SF => some (s.macProfileWrite id i d)
  | .MAC_PAUSE => some (s.schedWrite id i d)
  | .MAC_BCN_CFG => some (s.schedWrite id i d)
  | .MAC_BCN_MASK => some (s.schedWrite id i d)
  | .MAC_CELL_DATA => some (s.cellWrite d)
  | .SPW_CMD => some (s.spwCmdWrite d)
  | .SPW_IMG => some (s.spwRegWrite id i d)
  | .SPW_FLASH => some (s.spwRegWrite id i d)
  | .SPW_GEOM => some (s.spwRegWrite id i d)
  | .SPW_SCHED => some (s.spwRegWrite id i d)
  | .SPW_TX => some (s.spwRegWrite id i d)
  | .SPW_CAR => some (s.spwRegWrite id i d)
  | _ => none

/-- A write of a register of the blocks SLC, GRT, OCL, RUN and CLP that has a rule of its own; `none` for the others. -/
def State.coreWrite (s : State) (req : Nat) (id : RegId) (i j : Nat) (d : Word) : Option State :=
  let t := 32 * i + j
  match id with
  | .SLC_AGE_CTL => some (s.ageCtlWrite d)
  | .SLC_RELOC_SEED => some (s.relocSeedWrite d)
  | .SLC_CMD_GO => some (s.slcGoWrite d)
  | .GRT_CMD => some (s.grtCmdWrite (bits d.toNat 0 5) (bits d.toNat 8 16))
  | .OCL_J_WD => some (if req = 129 then s.wdWrite 129 d else s)
  | .OCL_J_BOOT => some (s.jBootWrite req d)
  | .OCL_J_DBG_SEL => some (s.jDbgSelWrite d)
  | .OCL_J_DBG_DATA => some (s.jDbgDataWrite d)
  | .OCL_THR_CTL => some ((s.oclWake i).thrCtlWrite t d)
  | .OCL_WD => some ((s.oclWake i).wdWrite t d)
  | .OCL_DBG_SEL => some ((s.oclWake i).plainWrite id i j d)
  | .OCL_DBG_DATA => some ((s.oclWake i).dbgDataWrite t d)
  | .RUN_HALLOC => some (s.hallocWrite d)
  | .RUN_HFREE => some (s.freeChain (bits d.toNat 0 16))
  | .RUN_HPUSH_CTL => some (s.hpushCtlWrite d)
  | .RUN_CFG => some (s.runCfgWrite i d)
  | .RUN_EVT_N => some (s.runEvtWrite i d)
  | .RUN_MARK => some ((s.holdMarks i).plainWrite id i j d)
  | .RUN_CTL => some (s.on (d.getLsbD 0) fun s => s.flushWrite i)
  | .CLP_CMD => some (s.clpCmdWrite d)
  | .CLP_STEER_CTL => some (s.steerCtlWrite d)
  | .CLP_OFS_SAMPLE => some (s.ofsWrite d)
  | .CLP_ANCHOR_ASN => some (s.anchorWrite id id.rwMask d)
  | .CLP_ANCHOR_S => some (s.anchorWrite id id.rwMask d)
  | .CLP_ANCHOR_NS => some (s.anchorWrite id id.rwMask d)
  | .CLP_PPS_CTL => some (s.ppsCtlWrite d)
  | _ => none

/-- A write of a register of the other blocks that has a rule of its own; `none` for the others. -/
def State.sysWrite (s : State) (req : Nat) (id : RegId) (i : Nat) (d : Word) : Option State :=
  match id with
  | .ETH_CTL => some (s.ethCtlWrite i d)
  | .ETH_MAC => some (s.ethParamWrite id id.rwMask i d)
  | .ETH_MAX => some (s.ethParamWrite id id.rwMask i d)
  | .HST_SSID => some (s.ssidWrite d)
  | .HST_RING_CTL => some (s.ringCtlWrite i d false)
  | .HST_RING_COAL => some (s.ringParamWrite id i (d &&& id.rwMask))
  | .HST_RING_BASE => some (s.ringParamWrite id i (d &&& id.rwMask))
  | .HST_RING_WB => some (s.ringParamWrite id i (d &&& id.rwMask))
  | .HST_RING_DB => some (s.doorbell i (bits d.toNat 0 16))
  | .FLS_CMD => some (s.flsCmdWrite i (bits d.toNat 0 3) (bits d.toNat 8 9))
  | .PWR_SSC => some (s.sscWrite d)
  | .PWR_PFAIL_CTL => some (s.pfailCtlWrite d)
  | .PWR_DORMANT => some (s.dormantWrite d)
  | .GLB_RESET_CTL => some (s.resetCtlWrite d)
  | .MEM_SKIM_CTL => some (s.skimCtlWrite d)
  | .MEM_SKIM_FIRST => some (s.skimParamWrite id d)
  | .MEM_SKIM_LAST => some (s.skimParamWrite id d)
  | .MEM_FLIP_CTL => some (s.flipCtlWrite d)
  | .MEM_FLIP_WORD => some (s.flipParamWrite id id.rwMask d)
  | .MEM_FLIP_DATA => some (s.flipParamWrite id id.rwMask d)
  | .TWN_CTL => some (s.twnCtlWrite d)
  | .TWN_TIMING => some (s.twnParamWrite id d)
  | .TWN_TK => some (s.twnParamWrite id d)
  | .TWN_AIR => some (s.twnParamWrite id d)
  | .TWN_CMD => some (s.twnCmdWrite d)
  | .OBS_STILL_CTL => some (s.stillWrite d)
  | .OBS_SILT_CTL => some (s.siltCtlWrite d)
  | .OBS_SILT_POST => some (s.siltPostWrite req (bits d.toNat 0 9) (bits d.toNat 32 32))
  | .OBS_SILT_CODE_CFG => some (s.siltCfgWrite d)
  | .OBS_EDDY_KEY => some (s.eddyKeyWrite d)
  | .OBS_EDDY_CFG => some (s.eddyCfgWrite i d)
  | .OBS_EDDY_SEED => some (s.eddySeedWrite i d)
  | _ => none

/-- A write of a register by a requester that may write it. -/
def State.regWrite (s : State) (req : Nat) (id : RegId) (i j : Nat) (d : Word) : State :=
  match s.radioWrite id i j d, s.coreWrite req id i j d, s.sysWrite req id i d with
  | some t, _, _ => t
  | _, some t, _ => t
  | _, _, some t => t
  | _, _, _ => s.plainWrite id i j d

/-- A write of `w` bytes at an offset by a requester (R7, R11, R12). While the internal reset is held nothing takes it (R422, R431). -/
def State.busWrite (s : State) (req off w : Nat) (d : Word) : State :=
  if s.released = false then s else
  match busTarget off with
  | .reg id i j =>
    if jomuterOnly id i && req != 129 then s
    else
      let d := if id.wide then d else d &&& 0xFFFFFFFF
      (s.regWrite req id i j d).keepEvents id i d
  | .msix v k =>
    let s := s.msixWrite v k d.toNat
    if w = 8 then s.msixWrite v (k + 1) (d.toNat / 2 ^ 32) else s
  | _ => s

/-- REGISTER_WRITE (R6, R7, R11, R390): a requester's write of `w` bytes. A host access that breaks R6 is discarded and sets WIDTH_ERR; the
threads' own accesses are those of their instructions, and one that breaks R6 writes nothing. -/
def execRegisterWrite (a : Requester) (off w : Nat) (d : Word) (s : State) : Out :=
  let s := s.after a.dt
  if widthOk off w then .next (s.busWrite a.req off w d)
  else if a.req = 128 then .next (s.powered fun s => s.raise F.HST_EVT_WIDTH_ERR)
  else .next s

end Sys2Proof.Machine
end

