-- ==== Sys2Proof/Machine/Operands.lean ====
section
/-! DEFINITION. The operands of Ocell instructions: the fields of the five formats and their immediates (R273, R276), the data space
(R269–R271), frames through handles (R264, R286, R287), and loads and stores of memory, a region's buffered stores over them
(R272, R311). An instruction comes as the thread's TID and bits [24:0] of its word; the command's name stands for OPC. A word whose OPC is not
assigned comes whole. -/

namespace Sys2Proof.Machine

/-! ## Fields (R273, R276) -/

/-- The operand is the fields of a word with the command's own OPC. -/
def opFields (w : Nat) : Bool := decide (w < 2 ^ 25)
/-- The instruction word: OPC over the other fields, or the whole word of an OPC that is not assigned. -/
def opWord (opc w : Nat) : Nat := if opFields w then opc * 2 ^ 25 + w else w % 2 ^ 32
/-- The guard QP. -/
def opQP (w : Nat) : Nat := bits w 22 3
/-- RD of formats A, B and D. -/
def opRD (w : Nat) : Nat := bits w 17 5
/-- RA of formats A and B. -/
def opRA (w : Nat) : Nat := bits w 12 5
/-- RB of format A. -/
def opRB (w : Nat) : Nat := bits w 7 5
/-- PX of format A. -/
def opPX (w : Nat) : Nat := bits w 0 3
/-- PD of format E. -/
def opPD (w : Nat) : Nat := bits w 19 3
/-- RA of format E. -/
def opEA (w : Nat) : Nat := bits w 14 5
/-- RB of format E. -/
def opEB (w : Nat) : Nat := bits w 8 5
/-- IMM12, sign-extended. -/
def imm12 (w : Nat) : Word := (BitVec.ofNat 12 w).signExtend 64
/-- IMM13, sign-extended. -/
def imm13 (w : Nat) : Word := (BitVec.ofNat 13 w).signExtend 64
/-- IMM16, sign-extended. -/
def imm16 (w : Nat) : Word := (BitVec.ofNat 16 w).signExtend 64
/-- IMM22, sign-extended. -/
def imm22 (w : Nat) : Word := (BitVec.ofNat 22 w).signExtend 64

/-- Format A's reserved field is 0. -/
def fmtA (w : Nat) : Bool := bits w 3 4 == 0
/-- Format D's reserved bit is 0. -/
def fmtD (w : Nat) : Bool := bits w 16 1 == 0
/-- I of format E. -/
def opI (w : Nat) : Bool := w.testBit 13
/-- Format E's reserved field is 0 where I is 0. -/
def fmtE (w : Nat) : Bool := opI w || bits w 0 8 == 0
/-- A field that names a handle or a predicate has bits [4:3] clear (R273). -/
def names8 (f : Nat) : Bool := decide (f < 8)
/-- LEN of a bit-field instruction: 0 means 64 (R276). -/
def bfLen (w : Nat) : Nat := if bits w 0 6 = 0 then 64 else bits w 0 6
/-- POS of a bit-field instruction. -/
def bfPos (w : Nat) : Nat := bits w 6 6

/-- A register of a thread. -/
def State.g (s : State) (t r : Nat) : Word := (s.thr t).reg r
/-- A write of a register of a thread. -/
def State.setG (s : State) (t r : Nat) (v : Word) : State := s.setThr t ((s.thr t).setReg r v)
/-- Writes of consecutive registers of a thread. -/
def State.setGs (s : State) (t : Nat) : Nat → List Word → State
  | _, [] => s
  | r, v :: vs => (s.setG t r v).setGs t (r + 1) vs
/-- A write of a predicate of a thread. -/
def State.setP (s : State) (t k : Nat) (b : Bool) : State := s.setThr t ((s.thr t).setPred k b)
/-- A write of a handle of a thread. -/
def State.setH (s : State) (t k : Nat) (v : Word) : State := s.setThr t ((s.thr t).setHandle k v)

/-- The address of a memory instruction in format B (R281). -/
def State.addrB (s : State) (t w : Nat) : Nat := (s.g t (opRA w) + imm12 w).toNat
/-- The second operand of a compare (R278). -/
def State.op2 (s : State) (t w : Nat) : Word := if opI w then imm13 w else s.g t (opEB w)
/-- The runnel number of format B (R282). -/
def State.runB (s : State) (t w : Nat) : Nat := s.addrB t w % 256

/-! ## The data space (R269–R271) -/

/-- Where an address of the data space lies: a byte of a memory, an offset of the register window, or nowhere. -/
inductive DataLoc where
  | mem (m o : Nat)
  | window (off : Nat)
  | none
  deriving DecidableEq, Repr

/-- The data space of a thread (R269, R271). -/
def dataLoc (t a : Nat) : DataLoc :=
  if t = 129 ∧ a < 0x40000 then .mem 8 a
  else if t ≠ 129 ∧ a < 0x10000 then .mem (10 + t / 4) a
  else if t ≠ 129 ∧ 0x100000 ≤ a ∧ a < 0x200000 then .mem (74 + t / 32) (a - 0x100000)
  else if 0x100000000 ≤ a ∧ a < 0x101000000 then .mem 0 (a - 0x100000000)
  else if 0x200000000 ≤ a ∧ a < 0x208000000 then .window (a - 0x200000000)
  else .none

/-- The region of `n` bytes from an address lies in one memory that atomics and the crypto instructions reach (R281, R290). -/
def coreLoc (t a n : Nat) : Option (Nat × Nat) :=
  match dataLoc t a, dataLoc t (a + (n - 1)) with
  | .mem m o, .mem k _ => if m = k ∧ m ≠ 0 then some (m, o) else none
  | _, _ => none

/-- The data-space address of a word of a memory. -/
def dataAddr (m w : Nat) : Nat := (if m = 0 then 0x100000000 else if 74 ≤ m then 0x100000 else 0) + 8 * w

/-! ## Frames (R264, R287) -/

/-- VALID of a handle's image. -/
def handleOk (h : Word) : Bool := h.getLsbD 63
/-- LENGTH of a handle's image. -/
def handleLen (h : Word) : Nat := bits h.toNat 32 16
/-- CELL of a handle's image. -/
def handleCell (h : Word) : Nat := bits h.toNat 0 16

/-- The cell that lies `k` cells along a chain; none beyond its LAST cell or at a free cell (R287). -/
def State.cellAt (s : State) : Nat → Nat → Option Nat
  | c, 0 => if (s.link c).free then none else some c
  | c, k + 1 => if (s.link c).free || (s.link c).last then none else s.cellAt (s.link c).next k

/-- Bytes [o, o + n) of a handle's frame, as at most two pieces (byte offset in packet memory, number of bytes); none raises HANDLE. -/
def State.framePieces (s : State) (h : Word) (o n : Nat) : Option (List (Nat × Nat)) :=
  if handleOk h && decide (o + n ≤ handleLen h) then
    let k := min n (256 - o % 256)
    match s.cellAt (handleCell h) (o / 256) with
    | none => none
    | some c =>
      if k = n then some [(256 * c + o % 256, n)]
      else match s.cellAt (handleCell h) (o / 256 + 1) with
        | some d => some [(256 * c + o % 256, k), (256 * d, n - k)]
        | none => none
  else none

/-! ## Loads (R272, R287, R311) -/

/-- The newest buffered byte at byte `o` of memory `m`. -/
def bufByte (es : List OclEffect) (m o : Nat) : Option Byte :=
  let piece (old : Option Byte) (p : Nat × Nat × List Byte) : Option Byte :=
    if p.1 = m ∧ p.2.1 ≤ o ∧ o < p.2.1 + p.2.2.length then p.2.2[o - p.2.1]? else old
  let effect (old : Option Byte) (e : OclEffect) : Option Byte := match e with | .write ps _ => ps.foldl piece old | _ => old
  es.foldl effect none

/-- Reads of words of one memory: their data by word, and the first uncorrectable one. -/
def State.readEach (s : State) (m : Nat) : List Nat → SMap Nat × Option Nat × State
  | [] => ([], none, s)
  | w :: ws =>
    let (r, s) := s.memRead m w
    let (vs, bad, s) := s.readEach m ws
    ((w, r.val) :: vs, if r.isBad then some w else bad, s)

/-- Bytes [o, o + n) of a memory under a region's buffered stores: a word whose wanted bytes are all buffered is not read. -/
def State.loadPiece (s : State) (es : List OclEffect) (m o n : Nat) : List Byte × Option Nat × State :=
  let wanted (w : Nat) : Bool :=
    (List.range 8).any fun k => decide (o ≤ 8 * w + k) && decide (8 * w + k < o + n) && (bufByte es m (8 * w + k)).isNone
  let (vs, bad, s) := s.readEach m ((wordsOf o n).filter wanted)
  let byte (a : Nat) : Byte := (bufByte es m a).getD (BitVec.ofNat 8 (SMap.getD vs (a / 8) 0 / 256 ^ (a % 8)))
  ((List.range n).map fun k => byte (o + k), bad, s)

/-- Bytes of several pieces (memory, offset, length): the bytes, the first uncorrectable word met, the state after. -/
def State.loadPieces (s : State) (es : List OclEffect) : List (Nat × Nat × Nat) → List Byte × Option (Nat × Nat) × State
  | [] => ([], none, s)
  | (m, o, n) :: ps =>
    let (bs, bad, s) := s.loadPiece es m o n
    let (cs, bad', s) := s.loadPieces es ps
    (bs ++ cs, match bad with | some w => some (m, w) | none => bad', s)

/-- What an instruction of a region does outside its thread, without the counters, Silt records and event bits that it would cause:
those are blocked (R311). -/
def State.quiet (old new : State) : State := { new with regs := old.regs, obs := old.obs, hst := old.hst }

/-- An effect of an instruction, quiet in a region. -/
def State.inRegion (s : State) (t : Nat) (new : State) : State := if (s.thr t).region.isSome then s.quiet new else new

/-- The effects that a thread's region holds. -/
def OclThread.effects (th : OclThread) : List OclEffect := match th.region with | some r => r.effects | none => []

/-- A thread's load of memory. -/
def State.load (s : State) (t : Nat) (ps : List (Nat × Nat × Nat)) : List Byte × Option (Nat × Nat) × State :=
  let (bs, bad, s') := s.loadPieces (s.thr t).effects ps
  (bs, bad, s.inRegion t s')

/-! ## Stores (R272, R287, R442) -/

/-- The check of R442 over all pieces of a store. -/
def State.checkPieces (s : State) : List (Nat × Nat × List Byte) → Bool × State
  | [] => (false, s)
  | (m, o, bs) :: ps =>
    let (bad, s) := s.partialCheck m o bs.length (wordsOf o bs.length)
    let (bad', s) := s.checkPieces ps
    (bad || bad', s)

/-- The first word that a store covers in part and that is poisoned. -/
def State.badWord (s : State) (ps : List (Nat × Nat × List Byte)) : Option (Nat × Nat) :=
  let words := ps.flatMap fun p => ((wordsOf p.2.1 p.2.2.length).filter (coversPart p.2.1 p.2.2.length)).map fun w => (p.1, w)
  words.find? fun x => match s.eccOf x.1 x.2 with | some k => k.poisoned | none => false

/-- The bytes of a store are merged into the words they touch. -/
def State.mergePiece (s : State) (p : Nat × Nat × List Byte) : State :=
  (s.setMemBytes p.1 p.2.1 p.2.2).sealWords p.1 (wordsOf p.2.1 p.2.2.length)

/-- A store of several pieces: nothing is written when a word covered in part is uncorrectable, and that word is given. -/
def State.storePieces (s : State) (ps : List (Nat × Nat × List Byte)) : Option (Nat × Nat) × State :=
  let (bad, s) := s.checkPieces ps
  if bad then (some ((s.badWord ps).getD (0, 0)), s) else (none, ps.foldl State.mergePiece s)

end Sys2Proof.Machine
end

