-- ==== Sys2Proof/Machine/Flags.lean ====
section
/-! DEFINITION. What the compare and predicate instructions compute (R278), and the shifts, bit fields and CRC steps of the integer
instructions (R277, R288, R289). An Ocell thread has no flags other than its predicates. -/

namespace Sys2Proof.Machine

/-- ga < op2, signed. -/
def cmpLt (a b : Word) : Bool := a.slt b
/-- ga < op2, unsigned: op2 after sign extension, as an unsigned value. -/
def cmpLtu (a b : Word) : Bool := a.ult b

/-- Shift count of a register shift: gb[5:0]. -/
def shiftOf (b : Word) : Nat := b.toNat % 64

/-- lih: gd moves up 16 bits and takes IMM16 unsigned. -/
def lihOf (d : Word) (w : Nat) : Word := d <<< (16 : Nat) ||| BitVec.ofNat 64 (w % 65536)

/-- bfx: `len` bits from bit `pos`, zero-extended. -/
def bfxOf (a : Word) (pos len : Nat) : Word := BitVec.ofNat 64 (bits a.toNat pos len)
/-- bfxs: as bfx, sign-extended from bit len − 1. -/
def bfxsOf (a : Word) (pos len : Nat) : Word := BitVec.ofNat 64 (toPattern 64 (signed len (bits a.toNat pos len)))
/-- bfi: bits [pos + len − 1 : pos] of `d` become bits [len − 1 : 0] of `a`. -/
def bfiOf (d a : Word) (pos len : Nat) : Word := BitVec.ofNat 64 (setBits d.toNat pos len a.toNat)
/-- Leading zero bits, 0–64. -/
def clzOf (a : Word) : Word := if a = 0 then 64 else BitVec.ofNat 64 (63 - Nat.log2 a.toNat)
/-- The 8 bytes in reverse order. -/
def bswapOf (a : Word) : Word := BitVec.ofNat 64 (ofBe (leBytes 8 a.toNat))
/-- A CRC step over the low `n` bytes of `b`, bits [7:0] first, of a state of `width` bits (R289). -/
def crcOf (poly width n : Nat) (a b : Word) : Word := BitVec.ofNat 64 (crcR poly (a.toNat % 2 ^ width) (leBytes n b.toNat))

end Sys2Proof.Machine
end

