-- ==== Sys2Proof/Machine/OclCore.lean ====
section
/-! DEFINITION. How an Ocell instruction issues, retires, raises an exception and is treated in a speculation region (R274, R275,
R302, R310–R313, R318–R320), and the seal. -/

namespace Sys2Proof.Machine

/-! ## Exceptions (R294, R318–R320) -/

/-- An exception that is not delivered (R320), and a second watchdog expiry (R323): the thread enters Fault. Jomuter's Fault wedges its
core (R324). -/
def State.thrFault (s : State) (t cause : Nat) (einfo : Word) : State :=
  let s := s.setThrState t 4
  let th := s.thr t
  let s := s.setThr t { th with epc := BitVec.ofNat 64 th.pc, ecause := BitVec.ofNat 64 cause, einfo := einfo }
  let s := (s.oclEvent F.OCL_CL_EVT_THR_FAULT t).siltPost 145 t
  s.on (t == 129) fun s => s.wedgeCore 32

/-- Delivery outside a region (R318), or Fault while EXC is 1 or EVEC is 0 (R320). -/
def State.deliver (s : State) (t cause : Nat) (einfo : Word) : State :=
  if (s.thr t).exc = true ∨ (s.thr t).evec = 0 then s.thrFault t cause einfo
  else
    let s := s.on ((s.thr t).state == 2) fun s => s.setThrState t 1
    let th := s.thr t
    let s := s.setThr t { th with
      epc := BitVec.ofNat 64 th.pc, ecause := BitVec.ofNat 64 cause, einfo := einfo, exc := true, pc := th.evec.toNat % 32768 }
    s.oclCount F.OCL_CNT_EXC_COUNT t

/-- An instruction raises an exception: inside a region it drops the region with DROP_CAUSE 3 (R292). -/
def State.except (s : State) (t cause : Nat) (einfo : Word) : State :=
  if (s.thr t).region.isSome then
    let s := s.dropTo t 3
    s.setThr t { s.thr t with ecause := BitVec.ofNat 64 cause, einfo := einfo }
  else s.deliver t cause einfo

/-- A WATCHDOG that waits is delivered at a boundary at which EXC is 0 (R322). -/
def State.wdDeliver (s : State) (t : Nat) : State :=
  if (s.thr t).wdDue && !(s.thr t).exc && (s.thr t).runs then
    (s.setThr t { s.thr t with wdDue := false }).except t 9 (BitVec.ofNat 64 (s.thr t).expiries)
  else s

/-! ## Issue (R274, R275, R302) -/

/-- The thread can execute: Jomuter, or an Ocell thread whose cluster's clock runs and whose core has not stopped issuing (R420, R428). -/
def State.threadLive (s : State) (t : Nat) : Bool :=
  t == 129 || (decide (t < 128) && s.pwr.phase != .failing && s.clusterRuns (t / 32))

/-- PRIO of a thread (R302). -/
def State.prio (s : State) (t : Nat) : Nat := s.thrFld F.OCL_THR_CTL_PRIO t

/-- The threads of core `k` among which the next choice is made, in the order of the choice (R302): from the one after that which last issued,
the Ready ones of PRIO 1, or where there is none those of PRIO 0. -/
def State.contenders (s : State) (k : Nat) : List Nat :=
  let order := (List.range 4).map fun i => 4 * k + (SMap.getD s.ocl.turns k 3 + 1 + i) % 4
  let ready := order.filter fun t => (s.thr t).state == 1
  let high := ready.filter fun t => s.prio t == 1
  if high.isEmpty then ready else high

/-- The thread of core `k` that issues next (R302): a thread that executed yield is passed over where another can be chosen. -/
def State.chosen (s : State) (k : Nat) : Option Nat :=
  let c := s.contenders k
  let keen := c.filter fun t => !s.ocl.passes.contains t
  (if keen.isEmpty then c else keen).head?

/-- The memory that holds a thread's instructions (R268, R438). -/
def instrMem (t : Nat) : Nat := if t = 129 then 9 else 42 + t / 4

/-- The thread's next instruction may issue: it is Ready, its instruction memory is initialised (R433), and its core's choice falls on it (R302). In its boot ROM Jomuter issues
no instruction of its memory (R434). -/
def State.mayIssue (s : State) (t : Nat) : Bool :=
  (s.thr t).state == 1 && s.threadLive t && s.memReady (instrMem t) && (if t = 129 then !s.bot.romRun else s.chosen (t / 4) == some t)

/-- The choice of a core falls on thread `t` (R302), in a cycle of its own: the next one starts after it, and a contender that yielded has been
passed over. -/
def State.takeTurn (s : State) (t : Nat) : State :=
  let s := s.nextCycle
  if t < 128 then
    let others := (s.contenders (t / 4)).filter (· ≠ t)
    { s with ocl := { s.ocl with
        turns := SMap.put s.ocl.turns (t / 4) (t % 4), passes := s.ocl.passes.filter fun u => !others.contains u } }
  else s

/-- Each issue counts in OBS_THR_CNT (R499). -/
def State.issueCount (s : State) (t : Nat) : State := s.on (s.thrCounts t) fun s => s.bump F.OBS_THR_CNT_COUNT 1 t 0

/-- The fetch of a thread's next instruction reads its word of instruction memory (R268, R439): whether it is uncorrectable. -/
def State.fetch (s : State) (t : Nat) : Bool × State :=
  let (r, s') := s.memRead (instrMem t) ((s.thr t).pc / 8)
  (r.isBad, s.inRegion t s')

/-- An instruction issues: nothing happens unless the core's choice falls on the thread; an uncorrectable instruction word raises POISON with the instruction
address (R444); a guarded-off instruction only retires; one that breaks its format or an operand limit raises ILLEGAL with the instruction
word; any other has its effect. -/
def State.issue (s : State) (t opc w : Nat) (legal : Bool) (f : State → State) : State :=
  if s.mayIssue t then
    match (s.takeTurn t).fetch t with
    | (true, s) => s.except t 4 (BitVec.ofNat 64 (s.thr t).pc)
    | (false, s) =>
      let s := s.issueCount t
      if (s.thr t).pred (opQP w) then
        if opFields w && legal then f s else s.except t 1 (BitVec.ofNat 64 (opWord opc w))
      else s.retire t
  else s

/-- A branch resolves (R304): the wrong path that the thread may have issued on is rolled back, and all it leaves is a free number of issue
cycles in OBS_THR_CNT. -/
def State.wrongPath (s : State) (t : Nat) : State :=
  let (v, s) := s.fresh
  s.on (s.thrCounts t) fun s => s.bump F.OBS_THR_CNT_COUNT v t 0

/-- A branch issues and resolves. -/
def State.issueBranch (s : State) (t opc w : Nat) (legal : Bool) (f : State → State) : State :=
  (s.issue t opc w legal f).on (s.mayIssue t && !(s.fetch t).1) fun s => s.wrongPath t

/-- A general register takes a result, and the instruction retires. -/
def State.result (s : State) (t rd : Nat) (v : Word) : State := (s.setG t rd v).retire t

/-- A predicate takes a result, and the instruction retires. -/
def State.resultP (s : State) (t pd : Nat) (b : Bool) : State := (s.setP t pd b).retire t

/-! ## In a region (R310, R311) -/

/-- A forbidden instruction drops an open region with DROP_CAUSE 4; outside a region it has its effect. -/
def State.unlessRegion (s : State) (t : Nat) (f : State → State) : State :=
  if (s.thr t).region.isSome then s.dropTo t 4 else f s

/-- Effects that need `n` entries of the effect buffer: held, with `f` done at once; or the region drops with DROP_CAUSE 2. -/
def State.buffer (s : State) (t n : Nat) (es : List OclEffect) (f : State → State := id) : State :=
  match (s.thr t).region with
  | some r =>
    if r.used + n ≤ 64 then
      (f (s.setThr t { s.thr t with region := some { r with effects := r.effects ++ es, used := r.used + n } })).retire t
    else s.dropTo t 2
  | none => s

/-! ## Loads and stores (R269–R272, R281, R286) -/

/-- A load of `n` bytes to a register. -/
def State.loadOp (s : State) (t a n rd : Nat) : State :=
  match dataLoc t a with
  | .window off =>
    s.unlessRegion t fun s =>
      if a % n ≠ 0 then s.except t 2 (BitVec.ofNat 64 a)
      else if widthOk off n then s.enterWait t (.load off n rd)
      else s.except t 3 (BitVec.ofNat 64 a)
  | .mem m o =>
    if a % n ≠ 0 then s.except t 2 (BitVec.ofNat 64 a)
    else s.whenReady m fun s =>
      let (bs, bad, s) := s.load t [(m, o, n)]
      if bad.isSome then s.except t 4 (BitVec.ofNat 64 a) else s.result t rd (BitVec.ofNat 64 (ofLe bs))
  | .none => if a % n ≠ 0 then s.except t 2 (BitVec.ofNat 64 a) else s.except t 3 (BitVec.ofNat 64 a)

/-- The bytes of a store reach memory, or the effect buffer. `a` is the address that POISON names, none for that of the bad word. -/
def State.writeOp (s : State) (t : Nat) (ps : List (Nat × Nat × List Byte)) (a : Option Nat) : State :=
  if (s.thr t).region.isSome then s.buffer t 1 [.write ps a]
  else
    let (bad, s) := s.storePieces ps
    match bad with
    | some b => s.except t 4 (BitVec.ofNat 64 (a.getD (dataAddr b.1 b.2)))
    | none => s.retire t

/-- A store of the low `n` bytes of a value. -/
def State.storeOp (s : State) (t a n : Nat) (v : Word) : State :=
  if a % n ≠ 0 then s.except t 2 (BitVec.ofNat 64 a)
  else match dataLoc t a with
    | .window off =>
      if widthOk off n then
        if (s.thr t).region.isSome then s.buffer t 1 [.regWrite off n v] else s.enterWait t (.store off n v)
      else s.except t 3 (BitVec.ofNat 64 a)
    | .mem m o => s.writeOp t [(m, o, leBytes n v.toNat)] (some a)
    | .none => s.except t 3 (BitVec.ofNat 64 a)

/-- An atomic: `f` gives what the word becomes, none where it stays. -/
def State.atomicOp (s : State) (t a rd : Nat) (f : Word → Option Word) : State :=
  s.unlessRegion t fun s =>
    if a % 8 ≠ 0 then s.except t 2 (BitVec.ofNat 64 a)
    else match coreLoc t a 8 with
      | some (m, o) => s.whenReady m fun s =>
        let (r, s) := s.memRead m (o / 8)
        if r.isBad then s.except t 4 (BitVec.ofNat 64 a)
        else
          let old := BitVec.ofNat 64 r.val
          (match f old with
            | some v => s.memWrite m (o / 8) v.toNat
            | none => s).result t rd old
      | none => s.except t 3 (BitVec.ofNat 64 a)

/-- A load through a handle. -/
def State.frameLoad (s : State) (t hs o n rd : Nat) : State :=
  match s.framePieces ((s.thr t).handle hs) o n with
  | none => s.except t 5 (BitVec.ofNat 64 o)
  | some ps => s.whenReady 0 fun s =>
    let (bs, bad, s) := s.load t (ps.map fun p => (0, p.1, p.2))
    match bad with
    | some b => s.except t 4 (BitVec.ofNat 64 (dataAddr b.1 b.2))
    | none => s.result t rd (BitVec.ofNat 64 (ofLe bs))

/-- The bytes of a store cut into its pieces. -/
def cutPieces : List (Nat × Nat) → List Byte → List (Nat × Nat × List Byte)
  | [], _ => []
  | p :: ps, bs => (0, p.1, bs.take p.2) :: cutPieces ps (bs.drop p.2)

/-- A store through a handle. -/
def State.frameStore (s : State) (t hs o n : Nat) (v : Word) : State :=
  match s.framePieces ((s.thr t).handle hs) o n with
  | none => s.except t 5 (BitVec.ofNat 64 o)
  | some ps => s.writeOp t (cutPieces ps (leBytes n v.toNat)) none

/-! ## Runnels (R282, R283) -/

/-- A thread's push of `k` words may land: room, and no engine, host ring or thread below it waits for that room (R296, R334). -/
def State.pushReady (s : State) (t n k : Nat) : Bool :=
  decide (k ≤ s.runnelRoom n) && !s.engineReady n && !s.ringReady n && !s.threadReady n t

/-- A thread's words land; those that Jomuter pushes to KEY_RUNNEL go to the mirror at once, in groups of 8 (R461). -/
def State.threadLand (s : State) (t n : Nat) (ws : List Word) : State :=
  (s.land n (ws.map fun w => mkWord w) t).on (isJomuter t && n == s.fld F.TWN_RUNNEL_KEY_RUNNEL) fun s =>
    s.keyGroups ((s.runnel n).words.length / 8)

/-- A push of one word, or of four as one group. -/
def State.pushOp (s : State) (t n : Nat) (ws : List Word) : State :=
  if !s.runnelOn n then s.except t 6 (BitVec.ofNat 64 n)
  else if (s.thr t).region.isSome then s.buffer t ws.length [.push n ws]
  else if s.pushReady t n ws.length then (s.threadLand t n ws).retire t
  else s.enterWait t (.push n ws)

/-- A pop of `k` words into consecutive registers; a bad word is consumed and raises POISON. -/
def State.popInto (s : State) (t n k rd : Nat) : State :=
  let (ws, s) := s.popWords n k
  if ws.any RunWord.isBad then s.except t 4 (BitVec.ofNat 64 n) else (s.setGs t rd (ws.map fun w => w.val)).retire t

/-- A popw takes a word. -/
def State.popwTake (s : State) (t n rd px : Nat) : State :=
  let (ws, s) := s.popWords n 1
  if ws.any RunWord.isBad then s.except t 4 (BitVec.ofNat 64 n)
  else ((s.setGs t rd (ws.map fun w => w.val)).setP t px true).retire t

/-- The words that a thread waits to pop: runnel and number. -/
def OclThread.popWait (th : OclThread) : Option (Nat × Nat) :=
  match th.wait with
  | some (.pop n k _) => some (n, k)
  | some (.popw n _ _ _) => some (n, 1)
  | _ => none

/-- A waiting pop, pop4 or popw takes its words, where the runnel holds them; a runnel no longer enabled raises RUNNEL. -/
def State.popArrive (s : State) (t : Nat) : State :=
  match s.threadLive t, (s.thr t).wait, (s.thr t).popWait with
  | true, some w, some (n, k) =>
    if !s.runnelOn n then s.except t 6 (BitVec.ofNat 64 n)
    else if s.poppable n < k then s
    else match w with
      | .popw _ rd px _ => s.popwTake t n rd px
      | .pop _ _ rd => s.popInto t n k rd
      | _ => s
  | _, _, _ => s

/-- The threads below `t` that wait for words that runnel `n` holds, in the order in which they take them (R296). -/
def State.popsBefore (s : State) (t n : Nat) : List Nat :=
  (s.ocl.threads.filter fun e => decide (e.1 < t) && s.threadLive e.1 && (match e.2.popWait with
    | some (m, k) => m == n && decide (k ≤ s.poppable n)
    | none => false)).map fun e => e.1

/-- The waiting threads below `t` take the words of runnel `n` before it (R296). -/
def State.servePops (s : State) (t n : Nat) : State := (s.popsBefore t n).foldl (fun s u => s.popArrive u) s

/-- pop and pop4. -/
def State.popOp (s : State) (t n k rd : Nat) : State :=
  s.unlessRegion t fun s =>
    if !s.runnelOn n then s.except t 6 (BitVec.ofNat 64 n)
    else
      let s := s.servePops t n
      if k ≤ s.poppable n then s.popInto t n k rd else s.enterWait t (.pop n k rd)

/-! ## The seal (R312–R315) -/

/-- A buffered store met a poisoned word (R313): the first one is what POISON will name. -/
def State.sealPoison (s : State) (t a : Nat) : State :=
  match (s.thr t).region with
  | some r => s.setThr t { s.thr t with region := some { r with poison := r.poison <|> some a } }
  | none => s

/-- An offset of OBS_SILT_POST, whose post a region blocks for good (R311, R507). -/
def isSiltPost (off : Nat) : Bool := match busTarget off with | .reg .OBS_SILT_POST _ _ => true | _ => false

/-- One buffered effect is performed; none where it must wait for room. -/
def State.sealEffect (s : State) (t : Nat) : OclEffect → Option State
  | .write ps a =>
    let (bad, s) := s.storePieces ps
    some (match bad with
      | some b => s.sealPoison t (a.getD (dataAddr b.1 b.2))
      | none => s)
  | .regWrite off n v => some (if isSiltPost off then s else s.busWrite t off n v)
  | .push n ws =>
    if !s.runnelOn n then some (s.lostPush n)
    else if s.pushReady t n ws.length then some (s.threadLand t n ws)
    else none
  | .free c => some (s.freeChain c)

/-- The effects still to perform are held. -/
def State.holdEffects (s : State) (t : Nat) (es : List OclEffect) : State :=
  match (s.thr t).region with
  | some r => s.setThr t { s.thr t with region := some { r with effects := es } }
  | none => s

/-- The seal completes: the provisional descriptors are released, SPEC clears, and the thread goes on at pc + 4, where a POISON of R313, a
WATCHDOG and a HALT that came meanwhile take effect (R312, R313, R327). -/
def State.sealDone (s : State) (t : Nat) : State :=
  match (s.thr t).region with
  | some r =>
    let s := (s.specsSeal t).oclCount F.OCL_CNT_SEAL_COUNT t
    let s := (s.setThr t { s.thr t with region := none }).retire t
    let s := match r.poison with
      | some a => (s.oclEvent F.OCL_CL_EVT_SEAL_POISON t).deliver t 4 (BitVec.ofNat 64 a)
      | none => s
    let s := s.wdDeliver t
    s.on (r.halt && (s.thr t).state == 1) fun s => s.setThrState t 3
  | none => s

/-- The buffered effects are performed in order, until one must wait or the seal has been given up. -/
def State.sealRun (s : State) (t : Nat) : List OclEffect → State
  | [] => s.sealDone t
  | e :: es =>
    match s.sealEffect t e with
    | none => s.holdEffects t (e :: es)
    | some s' => if (s'.thr t).wait = some .seal then (s'.holdEffects t es).sealRun t es else s'

/-- A waiting push or push4 lands once its runnel has room that nothing before it waits for, and a waiting seal goes on; a runnel no longer enabled
raises RUNNEL (R283, R303, R312, R332). -/
def State.pushRoom (s : State) (t : Nat) : State :=
  if !s.threadLive t then s
  else match (s.thr t).wait, (s.thr t).region with
    | some (.push n ws), _ =>
      if !s.runnelOn n then s.except t 6 (BitVec.ofNat 64 n)
      else if s.pushReady t n ws.length then (s.threadLand t n ws).retire t
      else s
    | some .seal, some r => s.sealRun t r.effects
    | _, _ => s

/-- Whatever is served before a push of thread `t` to runnel `n`, and finds room, is served (R334). -/
def State.servePushes (s : State) (t n : Nat) : State :=
  let s := s.serveAll n
  (s.pushesBefore n t).foldl (fun s u => s.pushRoom u) s

/-- The time that performing `n` entries takes: at most 40 ns + 10 ns per entry (R312). -/
def State.sealTime (s : State) (n : Nat) : State :=
  let (v, s) := s.fresh
  s.advance (v % (41 + 10 * n))

end Sys2Proof.Machine
end

