-- ==== Sys2Proof/Machine/OclAlu.lean ====
section
/-! DEFINITION. The integer, compare, predicate, bit-field and CRC instructions (R277, R278, R288, R289). Each takes the TID and bits [24:0] of the
instruction word. -/

namespace Sys2Proof.Machine

/-! The shared operations: a result of format A, of format B, of a shift count, of format D, and a predicate of format E. -/

/-- gd = f ga gb, in format A. -/
def State.aluA (s : State) (t opc w : Nat) (f : Word → Word → Word) : State :=
  s.issue t opc w (fmtA w) fun s => s.result t (opRD w) (f (s.g t (opRA w)) (s.g t (opRB w)))

/-- gd = f ga, in format B with a legal immediate. -/
def State.aluB (s : State) (t opc w : Nat) (legal : Bool) (f : Word → Word) : State :=
  s.issue t opc w legal fun s => s.result t (opRD w) (f (s.g t (opRA w)))

/-- IMM12 [11:6] of a shift is 0 (R276). -/
def shiftOk (w : Nat) : Bool := bits w 6 6 == 0

/-- POS + LEN is at most 64 (R276). -/
def bfOk (w : Nat) : Bool := decide (bfPos w + bfLen w ≤ 64)

/-- gd = f gd, in format D. -/
def State.aluD (s : State) (t opc w : Nat) (f : Word → Word) : State :=
  s.issue t opc w (fmtD w) fun s => s.result t (opRD w) (f (s.g t (opRD w)))

/-- pd = f ga op2, in format E. -/
def State.compare (s : State) (t opc w : Nat) (f : Word → Word → Bool) : State :=
  s.issue t opc w (fmtE w) fun s => s.resultP t (opPD w) (f (s.g t (opEA w)) (s.op2 t w))

/-- pd = f pa pb: I is 0, and RA and RB name predicates. -/
def State.predOp (s : State) (t opc w : Nat) (legal : Bool) (f : Bool → Bool → Bool) : State :=
  s.issue t opc w (!opI w && fmtE w && names8 (opEA w) && legal) fun s =>
    s.resultP t (opPD w) (f ((s.thr t).pred (opEA w)) ((s.thr t).pred (opEB w)))

/-! ## Integer instructions (R277) -/

/-- ADD: gd = ga + gb (R277). -/
def execAdd (t w : Nat) (s : State) : Out := .next (s.aluA t 0x00 w fun a b => a + b)
/-- SUB: gd = ga − gb (R277). -/
def execSub (t w : Nat) (s : State) : Out := .next (s.aluA t 0x01 w fun a b => a - b)
/-- AND: gd = ga & gb (R277). -/
def execAnd (t w : Nat) (s : State) : Out := .next (s.aluA t 0x02 w fun a b => a &&& b)
/-- OR: gd = ga | gb (R277). -/
def execOr (t w : Nat) (s : State) : Out := .next (s.aluA t 0x03 w fun a b => a ||| b)
/-- XOR: gd = ga ^ gb (R277). -/
def execXor (t w : Nat) (s : State) : Out := .next (s.aluA t 0x04 w fun a b => a ^^^ b)
/-- SLL: gd = ga << gb[5:0] (R277). -/
def execSll (t w : Nat) (s : State) : Out := .next (s.aluA t 0x05 w fun a b => a <<< shiftOf b)
/-- SRL: gd = ga >> gb[5:0], zeros shifted in (R277). -/
def execSrl (t w : Nat) (s : State) : Out := .next (s.aluA t 0x06 w fun a b => a >>> shiftOf b)
/-- SRA: gd = ga >> gb[5:0], sign copied in (R277). -/
def execSra (t w : Nat) (s : State) : Out := .next (s.aluA t 0x07 w fun a b => a.sshiftRight (shiftOf b))
/-- MUL: gd = low 64 bits of ga × gb (R277). -/
def execMul (t w : Nat) (s : State) : Out := .next (s.aluA t 0x08 w fun a b => a * b)
/-- SEL: gd = px ? ga : gb (R277). -/
def execSel (t w : Nat) (s : State) : Out :=
  .next (s.aluA t 0x09 w fun a b => if (s.thr t).pred (opPX w) then a else b)
/-- ADDI: gd = ga + sext(IMM12) (R277). -/
def execAddi (t w : Nat) (s : State) : Out := .next (s.aluB t 0x10 w true fun a => a + imm12 w)
/-- ANDI: gd = ga & sext(IMM12) (R277). -/
def execAndi (t w : Nat) (s : State) : Out := .next (s.aluB t 0x11 w true fun a => a &&& imm12 w)
/-- ORI: gd = ga | sext(IMM12) (R277). -/
def execOri (t w : Nat) (s : State) : Out := .next (s.aluB t 0x12 w true fun a => a ||| imm12 w)
/-- XORI: gd = ga ^ sext(IMM12) (R277). -/
def execXori (t w : Nat) (s : State) : Out := .next (s.aluB t 0x13 w true fun a => a ^^^ imm12 w)
/-- SLLI: gd = ga << sh (R277). -/
def execSlli (t w : Nat) (s : State) : Out := .next (s.aluB t 0x14 w (shiftOk w) fun a => a <<< bits w 0 6)
/-- SRLI: gd = ga >> sh, zeros shifted in (R277). -/
def execSrli (t w : Nat) (s : State) : Out := .next (s.aluB t 0x15 w (shiftOk w) fun a => a >>> bits w 0 6)
/-- SRAI: gd = ga >> sh, sign copied in (R277). -/
def execSrai (t w : Nat) (s : State) : Out := .next (s.aluB t 0x16 w (shiftOk w) fun a => a.sshiftRight (bits w 0 6))
/-- LI: gd = sext(IMM16) (R277). -/
def execLi (t w : Nat) (s : State) : Out := .next (s.aluD t 0x18 w fun _ => imm16 w)
/-- LIH: gd = (gd << 16) | IMM16 (R277). -/
def execLih (t w : Nat) (s : State) : Out := .next (s.aluD t 0x19 w fun d => lihOf d w)

/-! ## Compares and predicates (R278) -/

/-- CEQ: pd = (ga == op2) (R278). -/
def execCeq (t w : Nat) (s : State) : Out := .next (s.compare t 0x20 w fun a b => a == b)
/-- CNE: pd = (ga != op2) (R278). -/
def execCne (t w : Nat) (s : State) : Out := .next (s.compare t 0x21 w fun a b => a != b)
/-- CLT: pd = (ga < op2), signed (R278). -/
def execClt (t w : Nat) (s : State) : Out := .next (s.compare t 0x22 w fun a b => cmpLt a b)
/-- CLTU: pd = (ga < op2), unsigned (R278). -/
def execCltu (t w : Nat) (s : State) : Out := .next (s.compare t 0x23 w fun a b => cmpLtu a b)
/-- CGE: pd = (ga ≥ op2), signed (R278). -/
def execCge (t w : Nat) (s : State) : Out := .next (s.compare t 0x24 w fun a b => !cmpLt a b)
/-- CGEU: pd = (ga ≥ op2), unsigned (R278). -/
def execCgeu (t w : Nat) (s : State) : Out := .next (s.compare t 0x25 w fun a b => !cmpLtu a b)
/-- PAND: pd = pa & pb (R278). -/
def execPand (t w : Nat) (s : State) : Out := .next (s.predOp t 0x28 w (names8 (opEB w)) fun a b => a && b)
/-- POR: pd = pa | pb (R278). -/
def execPor (t w : Nat) (s : State) : Out := .next (s.predOp t 0x29 w (names8 (opEB w)) fun a b => a || b)
/-- PNOT: pd = !pa; RB must be 0 (R278). -/
def execPnot (t w : Nat) (s : State) : Out := .next (s.predOp t 0x2A w (opEB w == 0) fun a _ => !a)

/-! ## Bit fields and CRC steps (R288, R289) -/

/-- BFX: gd = ga[pos + len − 1 : pos], zero-extended (R288). -/
def execBfx (t w : Nat) (s : State) : Out := .next (s.aluB t 0x68 w (bfOk w) fun a => bfxOf a (bfPos w) (bfLen w))
/-- BFXS: as BFX, sign-extended (R288). -/
def execBfxs (t w : Nat) (s : State) : Out := .next (s.aluB t 0x69 w (bfOk w) fun a => bfxsOf a (bfPos w) (bfLen w))
/-- BFI: gd[pos + len − 1 : pos] = ga[len − 1 : 0] (R288). -/
def execBfi (t w : Nat) (s : State) : Out :=
  .next (s.aluB t 0x6A w (bfOk w) fun a => bfiOf (s.g t (opRD w)) a (bfPos w) (bfLen w))
/-- CLZ: gd = leading zero bits of ga (R288). -/
def execClz (t w : Nat) (s : State) : Out := .next (s.aluA t 0x6B w fun a _ => clzOf a)
/-- BSWAP: gd = ga with its 8 bytes in reverse order (R288). -/
def execBswap (t w : Nat) (s : State) : Out := .next (s.aluA t 0x6C w fun a _ => bswapOf a)
/-- CRC32CB: CRC-32C step of ga[31:0] over byte gb[7:0] (R288, R289). -/
def execCrc32cb (t w : Nat) (s : State) : Out := .next (s.aluA t 0x6d w fun a b => crcOf polyC 32 1 a b)
/-- CRC32CD: CRC-32C step over the 8 bytes of gb (R288, R289). -/
def execCrc32cd (t w : Nat) (s : State) : Out := .next (s.aluA t 0x6e w fun a b => crcOf polyC 32 8 a b)
/-- CRC32B: CRC-32 step over byte gb[7:0] (R288, R289). -/
def execCrc32b (t w : Nat) (s : State) : Out := .next (s.aluA t 0x6f w fun a b => crcOf poly32 32 1 a b)
/-- CRC32D: CRC-32 step over the 8 bytes of gb (R288, R289). -/
def execCrc32d (t w : Nat) (s : State) : Out := .next (s.aluA t 0x70 w fun a b => crcOf poly32 32 8 a b)
/-- CRC16B: CRC-16 step of ga[15:0] over byte gb[7:0] (R288, R289). -/
def execCrc16b (t w : Nat) (s : State) : Out := .next (s.aluA t 0x71 w fun a b => crcOf 0x8408 16 1 a b)

end Sys2Proof.Machine
end

