-- ==== Sys2Proof/Machine/OclMem.lean ====
section
/-! DEFINITION. Branches, loads, stores, atomics, fences, handles and crypto instructions (R279–R281, R286, R287, R290). -/

namespace Sys2Proof.Machine

/-! ## Branches (R279, R280) -/

/-- pc + 4 × a word offset, as a signed number. -/
def State.branchTo (s : State) (t : Nat) (imm : Word) : Int := ((s.thr t).pc : Int) + 4 * imm.toInt

/-- The instruction retires at a target. -/
def State.goTo (s : State) (t target : Nat) : State :=
  let s := s.retire t
  s.setThr t { s.thr t with pc := target }

/-- A taken branch: a target outside instruction memory raises ADDR, and `f` is done otherwise. -/
def State.branch (s : State) (t : Nat) (target : Int) (f : State → State) : State :=
  if 0 ≤ target ∧ target ≤ 0x7FFC then (f s).goTo t target.toNat
  else s.except t 3 (BitVec.ofNat 64 (toPattern 64 target))

/-- pc + 4, as a link register takes it. -/
def State.link4 (s : State) (t : Nat) : Word := BitVec.ofNat 64 ((s.thr t).pc + 4)

/-- BR: pc = pc + 4 × sext(IMM22) (R279). -/
def execBr (t w : Nat) (s : State) : Out :=
  .next (s.issueBranch t 0x30 w true fun s => s.branch t (s.branchTo t (imm22 w)) id)

/-- CALL: g31 = pc + 4; pc = pc + 4 × sext(IMM22) (R279). -/
def execCall (t w : Nat) (s : State) : Out :=
  .next (s.issueBranch t 0x31 w true fun s => s.branch t (s.branchTo t (imm22 w)) fun s => s.setG t 31 (s.link4 t))

/-- JALR: the target is ga + sext(IMM12), read before gd takes pc + 4 (R279, R280). -/
def execJalr (t w : Nat) (s : State) : Out :=
  .next (s.issueBranch t 0x32 w true fun s =>
    let a := s.addrB t w
    if a % 4 ≠ 0 then s.except t 2 (BitVec.ofNat 64 a)
    else s.branch t a fun s => s.setG t (opRD w) (s.link4 t))

/-- DBNZ: gd = gd − 1; if gd is then not 0, pc = pc + 4 × sext(IMM12) (R279). RA must be 0. -/
def execDbnz (t w : Nat) (s : State) : Out :=
  .next (s.issueBranch t 0x33 w (opRA w == 0) fun s =>
    let v := s.g t (opRD w) - 1
    let dec (s : State) : State := s.setG t (opRD w) v
    if (dec s).g t (opRD w) = 0 then (dec s).retire t else s.branch t (s.branchTo t (imm12 w)) dec)

/-! ## Loads, stores, atomics and fences (R281) -/

/-- LDB: gd = 1 byte at the address, zero-extended (R281). -/
def execLdb (t w : Nat) (s : State) : Out := .next (s.issue t 0x38 w true fun s => s.loadOp t (s.addrB t w) 1 (opRD w))
/-- LDH: gd = 2 bytes at the address, zero-extended (R281). -/
def execLdh (t w : Nat) (s : State) : Out := .next (s.issue t 0x39 w true fun s => s.loadOp t (s.addrB t w) 2 (opRD w))
/-- LDW: gd = 4 bytes at the address, zero-extended (R281). -/
def execLdw (t w : Nat) (s : State) : Out := .next (s.issue t 0x3a w true fun s => s.loadOp t (s.addrB t w) 4 (opRD w))
/-- LDD: gd = 8 bytes at the address, zero-extended (R281). -/
def execLdd (t w : Nat) (s : State) : Out := .next (s.issue t 0x3b w true fun s => s.loadOp t (s.addrB t w) 8 (opRD w))
/-- STB: 1 byte at the address = the low 8 bits of gs (R281). -/
def execStb (t w : Nat) (s : State) : Out := .next (s.issue t 0x3c w true fun s => s.storeOp t (s.addrB t w) 1 (s.g t (opRD w)))
/-- STH: 2 bytes at the address = the low 16 bits of gs (R281). -/
def execSth (t w : Nat) (s : State) : Out := .next (s.issue t 0x3d w true fun s => s.storeOp t (s.addrB t w) 2 (s.g t (opRD w)))
/-- STW: 4 bytes at the address = the low 32 bits of gs (R281). -/
def execStw (t w : Nat) (s : State) : Out := .next (s.issue t 0x3e w true fun s => s.storeOp t (s.addrB t w) 4 (s.g t (opRD w)))
/-- STD: 8 bytes at the address = the low 64 bits of gs (R281). -/
def execStd (t w : Nat) (s : State) : Out := .next (s.issue t 0x3f w true fun s => s.storeOp t (s.addrB t w) 8 (s.g t (opRD w)))

/-- AMOADD: old = mem[ga]; mem[ga] = old + gb; gd = old (R281). -/
def execAmoadd (t w : Nat) (s : State) : Out :=
  .next (s.issue t 0x40 w (fmtA w) fun s =>
    s.atomicOp t (s.g t (opRA w)).toNat (opRD w) fun old => some (old + s.g t (opRB w)))

/-- CAS: old = mem[ga]; if old is gd, mem[ga] = gb; gd = old (R281). -/
def execCas (t w : Nat) (s : State) : Out :=
  .next (s.issue t 0x41 w (fmtA w) fun s =>
    s.atomicOp t (s.g t (opRA w)).toNat (opRD w) fun old => if old = s.g t (opRD w) then some (s.g t (opRB w)) else none)

/-- RD, RA and RB of fence are 0 and PX names a kind (R281). -/
def fenceOk (w : Nat) : Bool := fmtA w && bits w 7 15 == 0 && decide (opPX w < 3)

/-- A table command of the thread has not completed: its FLUSH_PORT pass runs, or its result waits for room in its runnel (R219, R285, R308). -/
def State.cmdRuns (s : State) (t : Nat) : Bool :=
  (s.slc.flush.any fun p => p.req == t) || s.run.q.any fun e => e.2.waiting.any fun g => g.1 == t

/-- A fence of kind full that is to issue waits for a table command of its thread (R308). -/
def State.fenceWaits (s : State) (t w : Nat) : Bool :=
  s.mayIssue t && !((s.takeTurn t).fetch t).1 && (s.thr t).pred (opQP w) && opFields w && fenceOk w && opPX w == 0 && s.cmdRuns t

/-- fence: every access of a thread takes effect before its next instruction, so the ordering of R308 is met when it issues; but one of kind full
issues only once the thread's table commands have completed, and until then leaves the turn to the core's other threads. -/
def State.fence (s : State) (t w : Nat) : State :=
  if s.fenceWaits t w then s.takeTurn t else s.issue t 0x42 w (fenceOk w) fun s => s.retire t

/-- fence full (R281, R308). -/
def execFenceFull (t w : Nat) (s : State) : Out := .next (s.fence t w)
/-- fence st (R281, R308). -/
def execFenceSt (t w : Nat) (s : State) : Out := .next (s.fence t w)
/-- fence rn (R281, R308). -/
def execFenceRn (t w : Nat) (s : State) : Out := .next (s.fence t w)

/-! ## Handles (R286, R287) -/

/-- HMK: hd names cell ga with LENGTH gb[15:0] (R286). -/
def execHmk (t w : Nat) (s : State) : Out :=
  .next (s.issue t 0x60 w (fmtA w && names8 (opRD w)) fun s =>
    let c := (s.g t (opRA w)).toNat
    if 65536 ≤ c then s.except t 5 (BitVec.ofNat 64 c)
    else (s.setH t (opRD w) (handleOf (s.g t (opRB w)).toNat c)).retire t)

/-- HGET: gd = image of hs (R286). -/
def execHget (t w : Nat) (s : State) : Out :=
  .next (s.issue t 0x61 w (fmtA w && names8 (opRA w)) fun s => s.result t (opRD w) ((s.thr t).handle (opRA w)))

/-- HLDB: gd = 1 byte of the frame from offset gb (R286). -/
def execHldb (t w : Nat) (s : State) : Out :=
  .next (s.issue t 0x62 w (fmtA w && names8 (opRA w)) fun s => s.frameLoad t (opRA w) (s.g t (opRB w)).toNat 1 (opRD w))

/-- HLDD: gd = 8 bytes of the frame from offset gb (R286). -/
def execHldd (t w : Nat) (s : State) : Out :=
  .next (s.issue t 0x63 w (fmtA w && names8 (opRA w)) fun s => s.frameLoad t (opRA w) (s.g t (opRB w)).toNat 8 (opRD w))

/-- HSTB: 1 byte of the frame from offset gb = gs (R286). -/
def execHstb (t w : Nat) (s : State) : Out :=
  .next (s.issue t 0x64 w (fmtA w && names8 (opRA w)) fun s =>
    s.frameStore t (opRA w) (s.g t (opRB w)).toNat 1 (s.g t (opRD w)))

/-- HSTD: 8 bytes of the frame from offset gb = gs (R286). -/
def execHstd (t w : Nat) (s : State) : Out :=
  .next (s.issue t 0x65 w (fmtA w && names8 (opRA w)) fun s =>
    s.frameStore t (opRA w) (s.g t (opRB w)).toNat 8 (s.g t (opRD w)))

/-- A HANDLE exception of halloc or hfree: the manual states no offset for it. -/
def State.badHandle (s : State) (t : Nat) : State :=
  let (v, s) := s.fresh
  s.except t 5 (BitVec.ofNat 64 v)

/-- Cells that halloc took in a region return at drop (R311, R316). -/
def State.noteCell (s : State) (t c : Nat) : State :=
  match (s.thr t).region with
  | some r => s.setThr t { s.thr t with region := some { r with cells := r.cells ++ [c] } }
  | none => s

/-- HALLOC: hd = a chain for gb bytes and px = 1, or hd invalid and px = 0 (R286, R345). -/
def execHalloc (t w : Nat) (s : State) : Out :=
  .next (s.issue t 0x66 w (fmtA w && names8 (opRD w)) fun s =>
    let n := (s.g t (opRB w)).toNat
    if n = 0 ∨ 16384 < n then s.badHandle t
    else
      let (cs, s') := s.allocFloor n
      let s := s.inRegion t s'
      match cs with
      | some (c :: _) => (((s.noteCell t c).setH t (opRD w) (handleOf n c)).setP t (opPX w) true).retire t
      | _ => ((s.setH t (opRD w) 0).setP t (opPX w) false).retire t)

/-- HFREE: the frame's cells are freed and hs becomes invalid (R286). -/
def execHfree (t w : Nat) (s : State) : Out :=
  .next (s.issue t 0x67 w (fmtA w && names8 (opRA w)) fun s =>
    let h := (s.thr t).handle (opRA w)
    let clear (s : State) : State := s.setH t (opRA w) 0
    if !handleOk h then s.badHandle t
    else if (s.thr t).region.isSome then s.buffer t 1 [.free (handleCell h)] clear
    else (clear (s.freeChain (handleCell h))).retire t)

/-! ## Crypto (R290) -/

/-- A crypto instruction: its operand regions (address, length) lie in local, private or shared memory on 8-byte boundaries; `f` makes of
their bytes what is written as 8-byte stores over the region at its first argument. -/
def State.cryptoOp (s : State) (t : Nat) (dst : Nat × Nat) (src : Nat × Nat) (f : List Byte → List Byte → List Byte) : State :=
  let bad := [dst, src].find? fun x => x.1 % 8 != 0
  match bad, coreLoc t dst.1 dst.2, coreLoc t src.1 src.2 with
  | some x, _, _ => s.except t 2 (BitVec.ofNat 64 x.1)
  | none, some (m, o), some (k, p) => s.whenReady m fun s => s.whenReady k fun s =>
    let (ds, bad, s) := s.load t [(m, o, dst.2)]
    let (ss, bad', s) := s.load t [(k, p, src.2)]
    match bad <|> bad' with
    | some b => s.except t 4 (BitVec.ofNat 64 (dataAddr b.1 b.2))
    | none =>
      let stores := ((pieces 8 (dst.2 / 8) (f ds ss)).zipIdx).map fun x => (m, o + 8 * x.2, x.1)
      if (s.thr t).region.isSome then s.buffer t stores.length (stores.map fun x => .write [x] none)
      else (stores.foldl State.mergePiece s).retire t
  | none, none, _ => s.except t 3 (BitVec.ofNat 64 dst.1)
  | none, _, none => s.except t 3 (BitVec.ofNat 64 src.1)

/-- SHAB: one SHA-256 compression of the block at ga into the state at gb (R290). -/
def execShab (t w : Nat) (s : State) : Out :=
  .next (s.issue t 0x74 w (fmtA w) fun s =>
    s.cryptoOp t ((s.g t (opRB w)).toNat, 32) ((s.g t (opRA w)).toNat, 64) fun h b =>
      (shaCompress ((pieces 4 8 h).map ofLe) (shaWords b)).flatMap (leBytes 4))

/-- AESB: AES-128 encryption of the 16 bytes at ga, in place, under the key at gb (R290). -/
def execAesb (t w : Nat) (s : State) : Out :=
  .next (s.issue t 0x75 w (fmtA w) fun s =>
    s.cryptoOp t ((s.g t (opRA w)).toNat, 16) ((s.g t (opRB w)).toNat, 16) fun b k => aesEnc k b)

end Sys2Proof.Machine
end

