-- ==== Sys2Proof/Machine/OclRun.lean ====
section
/-! DEFINITION. The runnel, time and table instructions, and the ends of their waits (R282–R285, R303, R317). -/

namespace Sys2Proof.Machine

/-! ## Runnels (R282, R283, R303, R317) -/

/-- PUSH: waits while runnel n is full, and pushes gs (R282). -/
def execPush (t w : Nat) (s : State) : Out :=
  .next (s.issue t 0x48 w true fun s => s.pushOp t (s.runB t w) [s.g t (opRD w)])

/-- The four words of push4. -/
def State.words4 (s : State) (t w : Nat) : List Word := (List.range 4).map fun i => s.g t (opRD w + i)

/-- A push4 of a TX descriptor with SPECULATIVE set to a runnel whose consumer is the charter stage goes there at once, and takes one
entry (R311, R314). -/
def State.pushSpec (s : State) (t n : Nat) (d : TxDesc) : State :=
  s.buffer t 1 [] fun s => s.place { origin := .spec n t, desc := d }

/-- PUSH4: waits until runnel n has 4 free places, and pushes gs to gs+3 as one group (R282). -/
def execPush4 (t w : Nat) (s : State) : Out :=
  .next (s.issue t 0x49 w (decide (opRD w ≤ 28)) fun s =>
    let n := s.runB t w
    let ws := s.words4 t w
    let d := descOf (ws.getD 0 0) (ws.getD 1 0) (ws.getD 2 0) (ws.getD 3 0)
    if (s.thr t).region.isSome && s.runnelOn n && s.fld F.RUN_CFG_CLASS n == 1 && d.spec then s.pushSpec t n d
    else s.pushOp t n ws)

/-- TPUSH: pushes gs and sets pd to 1 if runnel n has a free place once those before it are served; otherwise pd = 0 (R282, R334). -/
def execTpush (t w : Nat) (s : State) : Out :=
  .next (s.issue t 0x4A w (opI w && bits w 8 5 == 0) fun s =>
    s.unlessRegion t fun s =>
      let n := bits w 0 8
      if !s.runnelOn n then s.except t 6 (BitVec.ofNat 64 n)
      else
        let s := s.servePushes t n
        if 1 ≤ s.runnelRoom n then (s.threadLand t n [s.g t (opEA w)]).resultP t (opPD w) true
        else s.resultP t (opPD w) false)

/-- POP: waits while runnel n is empty; gd = oldest word (R282). -/
def execPop (t w : Nat) (s : State) : Out :=
  .next (s.issue t 0x4B w true fun s => s.popOp t (s.runB t w) 1 (opRD w))

/-- POP4: waits until runnel n holds 4 words; gd to gd+3 take them, oldest in gd (R282). -/
def execPop4 (t w : Nat) (s : State) : Out :=
  .next (s.issue t 0x4C w (decide (opRD w ≤ 28)) fun s => s.popOp t (s.runB t w) 4 (opRD w))

/-- POPW: waits at most gb[31:0] ns for a word (R282, R317). -/
def execPopw (t w : Nat) (s : State) : Out :=
  .next (s.issue t 0x4D w (fmtA w) fun s =>
    s.unlessRegion t fun s =>
      let n := (s.g t (opRA w)).toNat % 256
      let ns := (s.g t (opRB w)).toNat % 2 ^ 32
      if !s.runnelOn n then s.except t 6 (BitVec.ofNat 64 n)
      else
        let s := s.servePops t n
        if 1 ≤ s.poppable n then s.popwTake t n (opRD w) (opPX w)
        else if ns = 0 then s.resultP t (opPX w) false
        else
          let (v, s) := s.fresh
          s.enterWait t (.popw n (opRD w) (opPX w) (s.clp.now + ns + v % 11)))

/-- RLEV: gd = words held in runnel n (R282). -/
def execRlev (t w : Nat) (s : State) : Out :=
  .next (s.issue t 0x4E w true fun s =>
    let n := s.runB t w
    if !s.runnelOn n then s.except t 6 (BitVec.ofNat 64 n)
    else s.result t (opRD w) (BitVec.ofNat 64 (s.runnel n).words.length))

/-- PUSH_ROOM (R283, R303, R312, R332). -/
def execPushRoom (t : Nat) (s : State) : Out := .next (s.pushRoom t)

/-- POP_WORD_ARRIVE: a waiting pop, pop4 or popw takes its words; the lower TID goes first (R296, R303). -/
def execPopWordArrive (t : Nat) (s : State) : Out :=
  .next (match (s.thr t).popWait with
    | some (n, _) => (s.servePops t n).popArrive t
    | none => s)

/-- POPW_TIMEOUT: px = 0, or the word that arrived in that cycle is taken (R317). -/
def execPopwTimeout (t : Nat) (s : State) : Out :=
  .next (match s.threadLive t, (s.thr t).wait with
    | true, some (.popw n rd px due) =>
      let s := (s.advanceTo due).servePops t n
      if s.runnelOn n && decide (1 ≤ s.poppable n) then s.popwTake t n rd px else s.resultP t px false
    | _, _ => s)

/-! ## Time (R284) -/

/-- NOW: gd = service time (R284). -/
def execNow (t w : Nat) (s : State) : Out :=
  .next (s.issue t 0x50 w (fmtA w) fun s => s.result t (opRD w) (BitVec.ofNat 64 s.service))

/-- NOWF: gd = full-time seconds [47:0]; gd+1 = nanoseconds (R284). -/
def execNowf (t w : Nat) (s : State) : Out :=
  .next (s.issue t 0x51 w (fmtA w && decide (opRD w ≤ 30)) fun s =>
    (s.setGs t (opRD w) [BitVec.ofNat 64 (s.fullNs / 10 ^ 9 % 2 ^ 48), BitVec.ofNat 64 (s.fullNs % 10 ^ 9)]).retire t)

/-- What asn and a2t give while no mapping is held. -/
def noTime : Word := 0x8000000000000000

/-- ASN: gd = current ASN (R284). -/
def execAsn (t w : Nat) (s : State) : Out :=
  .next (s.issue t 0x52 w (fmtA w) fun s => s.result t (opRD w) (if s.asnValid then BitVec.ofNat 64 s.asn else noTime))

/-- A service time lies ahead: (int32_t)(target − now) > 0 (R284). -/
def State.ahead (s : State) (target : Nat) : Bool := decide (0 < signed 32 (target + 2 ^ 32 - s.service % 2 ^ 32))

/-- WAITT: waits while ga[31:0] lies ahead (R284). -/
def execWaitt (t w : Nat) (s : State) : Out :=
  .next (s.issue t 0x53 w (fmtA w) fun s =>
    let target := (s.g t (opRA w)).toNat % 2 ^ 32
    if s.ahead target then s.enterWait t (.waitt target) else s.retire t)

/-- WAITT_RELEASE: the target is reached, or lies behind after a step of the clock (R284). -/
def execWaittRelease (t : Nat) (s : State) : Out :=
  .next (match s.threadLive t, (s.thr t).wait with
    | true, some (.waitt target) => (s.on (s.ahead target) fun s => s.advanceToFull (s.fullOfService target)).retire t
    | _, _ => s)

/-- A2T: gd = wrapping ns of the slot start of ASN ga[39:0] plus gb[15:0] µs (R284). -/
def execA2t (t w : Nat) (s : State) : Out :=
  .next (s.issue t 0x54 w (fmtA w) fun s =>
    let ns := s.slotStart ((s.g t (opRA w)).toNat % 2 ^ 40) + (s.g t (opRB w)).toNat % 2 ^ 16 * 1000
    s.result t (opRD w) (if s.asnValid then BitVec.ofNat 64 (ns % 2 ^ 32) else noTime))

/-! ## Tables (R285) -/

/-- The record of a tcmd is read and the command issued, with requester TID (R217, R285). -/
def State.tcmdIssue (s : State) (t a : Nat) : State :=
  match dataLoc t a with
  | .mem m o => s.whenReady m fun s => s.whenReady 1 fun s =>
    let (vs, bad, s) := s.readEach m ((List.range 6).map (o / 8 + ·))
    match bad with
    | some b => s.except t 4 (BitVec.ofNat 64 (dataAddr m b))
    | none => (s.tableCmd t (vs.map (·.2))).retire t
  | _ => s

/-- The six words at an address lie in local data memory or private memory. -/
def recordLoc (t a : Nat) : Bool :=
  match coreLoc t a 48 with | some (m, _) => decide (m < 74) | none => false

/-- TCMD: issues the command record at ga; waits while Sluice cannot accept it (R285). When Sluice can is not stated: a free value. -/
def execTcmd (t w : Nat) (s : State) : Out :=
  .next (s.issue t 0x58 w (fmtA w) fun s =>
    s.unlessRegion t fun s =>
      let a := (s.g t (opRA w)).toNat
      if a % 8 ≠ 0 then s.except t 2 (BitVec.ofNat 64 a)
      else if !recordLoc t a then s.except t 3 (BitVec.ofNat 64 a)
      else
        let (v, s) := s.fresh
        if v % 2 = 1 then s.tcmdIssue t a else s.enterWait t (.tcmd a))

/-- TCMD_ACCEPT: Sluice accepts the command of a waiting tcmd (R285, R303). -/
def execTcmdAccept (t : Nat) (s : State) : Out :=
  .next (match s.threadLive t, (s.thr t).wait with
    | true, some (.tcmd a) => s.tcmdIssue t a
    | _, _ => s)

/-- TFIND: a lookup of EUI ga in class gb[7:0]; waits for its result (R285). -/
def execTfind (t w : Nat) (s : State) : Out :=
  .next (s.issue t 0x59 w (fmtA w) fun s =>
    s.enterWait t (.tfind (s.g t (opRA w)).toNat ((s.g t (opRB w)).toNat % 256) (opRD w)))

/-- The slots at some indices, and the first that holds an uncorrectable word; nothing is dropped (R444). -/
def State.readSlots (s : State) : List Nat → List (Nat × Entry) × Option Nat × State
  | [] => ([], none, s)
  | i :: is =>
    let (ws, bad, s) := s.memReads 1 (4 * i) 4
    let (es, bad', s) := s.readSlots is
    ((i, entryOf ws) :: es, if bad then some i else bad', s)

/-- TFIND_RESULT: the lookup completes (R191, R285): it counts outside a region (R311). -/
def execTfindResult (t : Nat) (s : State) : Out :=
  .next (match s.threadLive t && s.memReady 1, (s.thr t).wait with
    | true, some (.tfind eui cls rd) =>
      let slots := (List.range 4).map (bucketBase eui cls 0 + ·) ++ (List.range 4).map (bucketBase eui cls 1 + ·)
      let (es, bad, s') := (s.bump F.SLC_CNT_LOOKUP_COUNT).readSlots slots
      let s := s.inRegion t s'
      match bad with
      | some i => s.except t 4 (BitVec.ofNat 64 i)
      | none => s.result t rd (match findKey es eui cls with | some x => BitVec.ofNat 64 (2 ^ 63 + x.1) | none => 0)
    | _, _ => s)

/-- TRD: gd = word IMM12 [1:0] of the entry at index ga[18:0], whatever its VALID (R192, R285). -/
def execTrd (t w : Nat) (s : State) : Out :=
  .next (s.issue t 0x5A w (bits w 2 10 == 0) fun s =>
    s.whenReady 1 fun s =>
    let i := (s.g t (opRA w)).toNat % 2 ^ 19
    let (r, s') := s.memRead 1 (4 * i + bits w 0 2)
    let s := s.inRegion t s'
    if r.isBad then s.except t 4 (BitVec.ofNat 64 i) else s.result t (opRD w) (BitVec.ofNat 64 r.val))

end Sys2Proof.Machine
end

