-- ==== Sys2Proof/Machine/OclSys.lean ====
section
/-! DEFINITION. Random numbers, speculation, system instructions, and the events of cores and threads (R290–R293, R303, R309–R325). -/

namespace Sys2Proof.Machine

/-! ## Random numbers (R290) -/

/-- 64 bits of the random source to a register. -/
def State.rndTo (s : State) (t rd : Nat) : State :=
  let (v, s') := s.rand
  s'.result t rd (BitVec.ofNat 64 v)

/-- RND: gd = 64 random bits; waits while DRBG_OK is 0 (R290). -/
def execRnd (t w : Nat) (s : State) : Out :=
  .next (s.issue t 0x76 w (fmtA w) fun s =>
    if s.flag F.GRT_STAT_DRBG_OK then s.rndTo t (opRD w) else s.enterWait t (.rnd (opRD w)))

/-- RND_READY: DRBG_OK has returned and a waiting rnd completes (R303). -/
def execRndReady (t : Nat) (s : State) : Out :=
  .next (match s.threadLive t && s.flag F.GRT_STAT_DRBG_OK, (s.thr t).wait with
    | true, some (.rnd rd) => s.rndTo t rd
    | _, _ => s)

/-! ## Speculation (R291, R292, R309–R316) -/

/-- A region opens (R291): the registers are kept as they stand. -/
def State.openRegion (s : State) (t target : Nat) : State :=
  let s := s.retire t
  let th := s.thr t
  s.setThr t { th with region := some { target := target, g := th.g, p := th.p, h := th.h, retired := th.retired } }

/-- SPB: opens a region whose drop target is the label (R291); forbidden in a region. -/
def execSpb (t w : Nat) (s : State) : Out :=
  .next (s.issue t 0x77 w true fun s =>
    s.unlessRegion t fun s => s.openRegion t (toPattern 15 (s.branchTo t (imm22 w))))

/-- SPS: seals the region (R291, R312); ILLEGAL without one (R292). -/
def execSps (t w : Nat) (s : State) : Out :=
  .next (s.issue t 0x78 w (fmtA w && (s.thr t).region.isSome) fun s =>
    match (s.thr t).region with
    | some r => ((s.enterWait t .seal).sealTime r.used).sealRun t r.effects
    | none => s)

/-- SPD: drops the region (R291, R292); ILLEGAL without one. -/
def execSpd (t w : Nat) (s : State) : Out :=
  .next (s.issue t 0x79 w (fmtA w && (s.thr t).region.isSome) fun s => s.dropTo t 1)

/-! ## System instructions (R293) -/

/-- MFS: gd = special register N (R266, R267). -/
def execMfs (t w : Nat) (s : State) : Out :=
  .next (s.issue t 0x7A w (fmtA w) fun s => s.result t (opRD w) (s.special t (opRB w)))

/-- The special registers that mts may name (R266, R267). -/
def mtsOk (n : Nat) : Bool := (decide (3 ≤ n) && decide (n ≤ 7)) || n == 11 || n == 12

/-- MTS: special register N = ga; WDKICK restarts the watchdog (R266, R267). In a region only WDKICK may be written. -/
def execMts (t w : Nat) (s : State) : Out :=
  .next (s.issue t 0x7B w (fmtA w && mtsOk (opRB w)) fun s =>
    if opRB w = 12 then (s.wdKick t).retire t
    else s.unlessRegion t fun s => (s.setThr t ((s.thr t).setSpecial (opRB w) (s.g t (opRA w)))).retire t)

/-- TRAP: raises TRAP with EINFO = IMM22 (R293). -/
def execTrap (t w : Nat) (s : State) : Out :=
  .next (s.issue t 0x7C w true fun s => s.except t 7 (BitVec.ofNat 64 (bits w 0 22)))

/-- ERET: returns to EPC and clears EXC (R293); a WATCHDOG that waits is then delivered (R322). Forbidden in a region. -/
def execEret (t w : Nat) (s : State) : Out :=
  .next (s.issue t 0x7D w (fmtA w && (s.thr t).exc) fun s =>
    s.unlessRegion t fun s =>
      let s := s.retire t
      (s.setThr t { s.thr t with exc := false, pc := (s.thr t).epc.toNat % 32768 }).wdDeliver t)

/-- YIELD: gives up the issue turn (R293, R302): the thread is to be passed over once. -/
def execYield (t w : Nat) (s : State) : Out :=
  .next (s.issue t 0x7E w (fmtA w) fun s =>
    { s with ocl := { s.ocl with passes := t :: s.ocl.passes.filter (· ≠ t) } }.retire t)

/-- BRK_HALT of a thread (R321). -/
def State.brkHalt (s : State) (t : Nat) : Bool :=
  if t < 128 then s.flag F.OCL_THR_CTL_BRK_HALT (t / 32) (t % 32) else s.flag F.OCL_J_DBG_SEL_BRK_HALT

/-- BRK: raises BREAK, or halts the thread with pc on the brk (R293, R321). -/
def execBrk (t w : Nat) (s : State) : Out :=
  .next (s.issue t 0x7F w (fmtA w) fun s =>
    if s.brkHalt t && (s.thr t).region.isNone then s.setThrState t 3 else s.except t 8 0)

/-! ## Register-window accesses, watchdogs and wedges (R303, R322–R325) -/

/-- REGISTER_WINDOW_DONE: the access reaches its block in a cycle of its own, and the thread goes on (R303, R307); a read of a memory that is not initialised waits
(R433). A store that stops its own thread leaves it so. -/
def execRegisterWindowDone (t : Nat) (s : State) : Out :=
  let s := s.nextCycle
  .next (match s.threadLive t, (s.thr t).wait with
    | true, some (.load off n rd) =>
      let (v, s') := s.busRead t off
      if s.readReady off then s'.result t rd (BitVec.ofNat 64 (v.toNat % 256 ^ n)) else s
    | true, some (.store off n v) =>
      let s' := s.busWrite t off n v
      if (s'.thr t).wait = some (.store off n v) then s'.retire t else s'
    | _, _ => s)

/-- A watchdog's first expiry (R322): a region drops, a seal is left to complete (R327), and a WATCHDOG waits while EXC is 1. -/
def State.wdFirst (s : State) (t : Nat) : State :=
  let s := s.setThr t { s.thr t with stage := true, expiries := min 255 ((s.thr t).expiries + 1) }
  let s := s.oclEvent F.OCL_CL_EVT_WD_EXPIRED t
  if (s.thr t).wait ≠ some .seal ∧ (s.thr t).region.isSome then s.except t 9 (BitVec.ofNat 64 (s.thr t).expiries)
  else
    let s := s.setThr t { s.thr t with wdDue := true }
    if (s.thr t).wait = some .seal then s else s.wdDeliver t

/-- WATCHDOG_EXPIRY: the watchdog reaches PERIOD_US (R322); a second expiry while STAGE is 1 is a Fault (R323). -/
def execWatchdogExpiry (t : Nat) (s : State) : Out :=
  .next (if s.wdEn t && (s.thr t).runs && (t == 129 || decide (t < 128)) then
      let s := (s.advance (s.wdPeriod t - s.wdNs t)).wdRestart t
      if (s.thr t).stage then s.thrFault t 9 (BitVec.ofNat 64 (s.thr t).expiries) else s.wdFirst t
    else s)

/-- The threads of a core; 32 is Jomuter's. -/
def coreThreads (k : Nat) : List Nat := if k = 32 then [129] else (List.range 4).map (4 * k + ·)

/-- CORE_WEDGE: `dt` ns from now an instruction of a Ready thread of core `k` issues and does not complete for HANG_US (R324, R325). -/
def execCoreWedge (dt k : Nat) (s : State) : Out :=
  .next (if k ≤ 32 ∧ (coreThreads k).any (fun t => (s.thr t).state == 1) then
      (s.advance (dt + 1000 * max 100 (s.fld F.OCL_WEDGE_CTL_HANG_US))).wedgeCore k
    else s)

end Sys2Proof.Machine
end

