-- ==== Sys2Proof/Machine/Spi.lean ====
section
/-! DEFINITION. The management SPI target (R400, R401): commands 265–272. A command is one whole transaction; the host is requester 128. -/

namespace Sys2Proof.Machine

/-- A transaction runs: while the internal reset is held SPI_MISO is high-impedance and nothing is done (R431). -/
def State.spiOpen (s : State) (f : State → State) : State :=
  if s.released then f s else { s with hst := { s.hst with spiOut := [] } }

/-- A transaction ends with a status, after the bytes `out` have left the device (R400). -/
def State.spiEnd (s : State) (status : Nat) (out : List Byte := []) : State :=
  let s := { s with hst := { s.hst with spi := status, spiOut := out } }
  if status = 0 then s else (s.raise F.HST_EVT_SPI_ERR).bump F.HST_CNT_SPI_ERR_COUNT

/-- A read of `w` bytes that gives no data: every data byte is 0xFF, and the status follows (R400). -/
def State.spiNoData (s : State) (w status : Nat) : State := s.spiEnd status (List.replicate w 0xFF ++ [BitVec.ofNat 8 status])

/-- A register read of `w` bytes. Where the width breaks R6 nothing is read. Where the read is not `ready` by the end of the dummy bytes, or waits for
a memory to be initialised (R433), the status is 0x01; whether its effect on the register still takes place is not stated. -/
def State.spiRead (s : State) (off w : Nat) (ready : Bool) : State :=
  if !widthOk off w then s.spiNoData w 2
  else if !s.readReady off then s.spiNoData w 1
  else if ready then
    let (v, s) := s.busRead 128 off
    s.spiEnd 0 (leBytes w v.toNat ++ [0])
  else
    let (v, s) := s.fresh
    (s.on (v.testBit 0) fun s => (s.busRead 128 off).2).spiNoData w 1

/-- A register write of `w` bytes. -/
def State.spiWrite (s : State) (off w : Nat) (d : Word) : State :=
  if widthOk off w then (s.busWrite 128 off w d).spiEnd 0 else s.spiEnd 2

/-- SPI_REG_READ32 (R400, R401). -/
def execSpiRegRead32 (dt off : Nat) (ready : Bool) (s : State) : Out := .next ((s.after dt).spiOpen fun s => s.spiRead off 4 ready)
/-- SPI_REG_READ64 (R400, R401). -/
def execSpiRegRead64 (dt off : Nat) (ready : Bool) (s : State) : Out := .next ((s.after dt).spiOpen fun s => s.spiRead off 8 ready)
/-- SPI_REG_WRITE32 (R400). -/
def execSpiRegWrite32 (dt off : Nat) (d : Word) (s : State) : Out := .next ((s.after dt).spiOpen fun s => s.spiWrite off 4 (d &&& 0xFFFFFFFF))
/-- SPI_REG_WRITE64 (R400). -/
def execSpiRegWrite64 (dt off : Nat) (d : Word) (s : State) : Out := .next ((s.after dt).spiOpen fun s => s.spiWrite off 8 d)

/-- A run of packet memory that wraps at 16 MiB as often as it comes to its end, in pieces: offset and length. -/
def spiRuns (o n : Nat) : List (Nat × Nat) :=
  let o := o % 2 ^ 24
  let k := n - (2 ^ 24 - o)
  (o, min n (2 ^ 24 - o)) :: (List.replicate (k / 2 ^ 24) (0, 2 ^ 24) ++ [(0, k % 2 ^ 24)])

/-- The bytes of runs of packet memory. -/
def State.spiLoad (s : State) : List (Nat × Nat) → List Byte × State
  | [] => ([], s)
  | r :: rs =>
    let (bs, _, s) := s.memLoad 0 r.1 r.2
    let (cs, s) := s.spiLoad rs
    (bs ++ cs, s)

/-- SPI_PKT_READ (R400): `n` bytes from offset `o` on. Where they are not ready by the end of the dummy bytes, or packet memory is not initialised
(R433), every byte is 0xFF and the status is 0x01; whether the memory is read then is not stated. -/
def execSpiPktRead (r : PktRead) (o n : Nat) (s : State) : Out :=
  .next ((s.after r.dt).spiOpen fun s =>
    let (bs, t) := s.spiLoad (spiRuns o n)
    if !s.memReady 0 then s.spiEnd 1 (List.replicate n 0xFF)
    else if r.ready then t.spiEnd 0 bs
    else
      let (v, s) := s.fresh
      (s.on (v.testBit 0) fun s => (s.spiLoad (spiRuns o n)).2).spiEnd 1 (List.replicate n 0xFF))

/-- Bytes written from offset `o` on, word by word: a word covered in part that is uncorrectable is left as it is (R444). -/
def State.spiStore (s : State) (o : Nat) (bs : List Byte) : State :=
  (wordsOf o bs.length).foldl (fun s w =>
    let lo := max o (8 * w)
    let hi := min (o + bs.length) (8 * w + 8)
    (s.memStore 0 lo ((bs.drop (lo - o)).take (hi - lo))).2) s

/-- SPI_PKT_WRITE (R400, R444): bytes from offset `o` on. -/
def execSpiPktWrite (dt o : Nat) (bs : List Byte) (s : State) : Out :=
  let o := o % 2 ^ 24
  let k := 2 ^ 24 - o
  .next ((s.after dt).spiOpen fun s => ((s.spiStore o (bs.take k)).spiStore 0 (bs.drop k)).spiEnd 0)

/-- SPI_STATUS_READ (R400): the status of the last completed transaction goes out, and stays as it is. -/
def execSpiStatusRead (dt : Nat) (s : State) : Out :=
  .next ((s.after dt).spiOpen fun s => { s with hst := { s.hst with spiOut := [BitVec.ofNat 8 s.hst.spi] } })

/-- SPI_BAD_TRANSACTION (R400): an unknown opcode, or an early end. -/
def execSpiBadTransaction (dt : Nat) (s : State) : Out := .next ((s.after dt).spiOpen fun s => s.spiEnd 3)

end Sys2Proof.Machine
end

