-- ==== Sys2Proof/Machine/Dispatch.lean ====
section
/-! DEFINITION. One arm per command: its meaning. -/

namespace Sys2Proof.Machine

/-- The effect of a command on everything but the queue. -/
def exec (i : Instr) (s : State) : Host.Outcome State Fault Refusal :=
  match i with
  | .registerWrite a off w d => Sys2Proof.Machine.execRegisterWrite a off w d s
  | .counterRead a => Sys2Proof.Machine.execCounterRead a s
  | .msixEnable en funcMask => Sys2Proof.Machine.execMsixEnable en funcMask s
  | .msixUnmask v => Sys2Proof.Machine.execMsixUnmask v s
  | .clipInterval dt j a b => Sys2Proof.Machine.execClipInterval dt j a b s
  | .plmWindowWrite j d => Sys2Proof.Machine.execPlmWindowWrite j d s
  | .plmChainCtlWrite j d => Sys2Proof.Machine.execPlmChainCtlWrite j d s
  | .chainPrimed j => Sys2Proof.Machine.execChainPrimed j s
  | .chainListening j => Sys2Proof.Machine.execChainListening j s
  | .chainLeaveListening j => Sys2Proof.Machine.execChainLeaveListening j s
  | .chainParked j => Sys2Proof.Machine.execChainParked j s
  | .rillEnable j n d => Sys2Proof.Machine.execRillEnable j n d s
  | .rillDisable j n d => Sys2Proof.Machine.execRillDisable j n d s
  | .rillConfigWrite which j n d => Sys2Proof.Machine.execRillConfigWrite which j n d s
  | .phyModeWrite m d => Sys2Proof.Machine.execPhyModeWrite m d s
  | .preambleDetect dt j n ps snrA snrB => Sys2Proof.Machine.execPreambleDetect dt j n ps snrA snrB s
  | .aerialChoice j n k mA mB => Sys2Proof.Machine.execAerialChoice j n k mA mB s
  | .aerialChoiceForced dt j n mA mB => Sys2Proof.Machine.execAerialChoiceForced dt j n mA mB s
  | .sfdTimeout dt j n => Sys2Proof.Machine.execSfdTimeout dt j n s
  | .sfdFound dt j n mA mB err pwr snr8 foHz => Sys2Proof.Machine.execSfdFound dt j n mA mB err pwr snr8 foHz s
  | .phrReceived dt j n len mcs modeSwitch checkOk fcs32 => Sys2Proof.Machine.execPhrReceived dt j n len mcs modeSwitch checkOk fcs32 s
  | .psduByte dt j n b => Sys2Proof.Machine.execPsduByte dt j n b s
  | .frameEnd dt j n => Sys2Proof.Machine.execFrameEnd dt j n s
  | .blankingEnd j => Sys2Proof.Machine.execBlankingEnd j s
  | .synWindowWrite j d => Sys2Proof.Machine.execSynWindowWrite j d s
  | .cal j tempCalEn => Sys2Proof.Machine.execCal j tempCalEn s
  | .synLock j temp => Sys2Proof.Machine.execSynLock j temp s
  | .synFault j => Sys2Proof.Machine.execSynFault j s
  | .tempCalDue dt j temp => Sys2Proof.Machine.execTempCalDue dt j temp s
  | .tempCalStart dt j => Sys2Proof.Machine.execTempCalStart dt j s
  | .calStarved j => Sys2Proof.Machine.execCalStarved j s
  | .txWake j temp => Sys2Proof.Machine.execTxWake j temp s
  | .txOff j => Sys2Proof.Machine.execTxOff j s
  | .carrierEnable j k d => Sys2Proof.Machine.execCarrierEnable j k d s
  | .carrierConfigWrite freq j k d => Sys2Proof.Machine.execCarrierConfigWrite freq j k d s
  | .txDescriptor dt src => Sys2Proof.Machine.execTxDescriptor dt src s
  | .charterStageResume src => Sys2Proof.Machine.execCharterStageResume src s
  | .coexReqAssert j id => Sys2Proof.Machine.execCoexReqAssert j id s
  | .grantSample j id pin => Sys2Proof.Machine.execGrantSample j id pin s
  | .grantWithdrawal pin g => Sys2Proof.Machine.execGrantWithdrawal pin g s
  | .commitPoint j id => Sys2Proof.Machine.execCommitPoint j id s
  | .txLate j id => Sys2Proof.Machine.execTxLate j id s
  | .txswAssert j id => Sys2Proof.Machine.execTxswAssert j id s
  | .paAssert j id => Sys2Proof.Machine.execPaAssert j id s
  | .rfStart j id => Sys2Proof.Machine.execRfStart j id s
  | .lastRf j id => Sys2Proof.Machine.execLastRf j id s
  | .paRelease j => Sys2Proof.Machine.execPaRelease j s
  | .txswRelease j => Sys2Proof.Machine.execTxswRelease j s
  | .lnaActive j => Sys2Proof.Machine.execLnaActive j s
  | .lockLoss dt j => Sys2Proof.Machine.execLockLoss dt j s
  | .femPolApply j => Sys2Proof.Machine.execFemPolApply j s
  | .fuseBlow req => Sys2Proof.Machine.execFuseBlow req s
  | .fuseDone => Sys2Proof.Machine.execFuseDone s
  | .digestDone => Sys2Proof.Machine.execDigestDone s
  | .binRotation => Sys2Proof.Machine.execBinRotation s
  | .macEnable d => Sys2Proof.Machine.execMacEnable d s
  | .slotResolve => Sys2Proof.Machine.execSlotResolve s
  | .slotStart => Sys2Proof.Machine.execSlotStart s
  | .slotEnd => Sys2Proof.Machine.execSlotEnd s
  | .ackWindowClose j id => Sys2Proof.Machine.execAckWindowClose j id s
  | .spwLoad k => Sys2Proof.Machine.execSpwLoad k s
  | .startFull k => Sys2Proof.Machine.execStartFull k s
  | .startRepair k => Sys2Proof.Machine.execStartRepair k s
  | .merge k base => Sys2Proof.Machine.execMerge k base s
  | .clearMissing k => Sys2Proof.Machine.execClearMissing k s
  | .suspend k => Sys2Proof.Machine.execSuspend k s
  | .resume k => Sys2Proof.Machine.execResume k s
  | .abort k => Sys2Proof.Machine.execAbort k s
  | .spwFlashReadDone dt k => Sys2Proof.Machine.execSpwFlashReadDone dt k s
  | .spwSlotSkip k => Sys2Proof.Machine.execSpwSlotSkip k s
  | .sluiceHeader id => Sys2Proof.Machine.execSluiceHeader id s
  | .wiredPacket port => Sys2Proof.Machine.execWiredPacket port s
  | .sluiceCommit id => Sys2Proof.Machine.execSluiceCommit id s
  | .search req ws => Sys2Proof.Machine.execSearch req ws s
  | .next req ws => Sys2Proof.Machine.execNext req ws s
  | .insert req ws => Sys2Proof.Machine.execInsert req ws s
  | .update req ws => Sys2Proof.Machine.execUpdate req ws s
  | .delete req ws => Sys2Proof.Machine.execDelete req ws s
  | .flushPort req ws => Sys2Proof.Machine.execFlushPort req ws s
  | .flushPortDone => Sys2Proof.Machine.execFlushPortDone s
  | .scanTimeout => Sys2Proof.Machine.execScanTimeout s
  | .agerVisit => Sys2Proof.Machine.execAgerVisit s
  | .relocSeedWrite d => Sys2Proof.Machine.execRelocSeedWrite d s
  | .recon index => Sys2Proof.Machine.execRecon index s
  | .enrol index => Sys2Proof.Machine.execEnrol index s
  | .refresh index => Sys2Proof.Machine.execRefresh index s
  | .sealRoot index => Sys2Proof.Machine.execSealRoot index s
  | .grtLoad index => Sys2Proof.Machine.execGrtLoad index s
  | .provision index => Sys2Proof.Machine.execProvision index s
  | .rekeyNet index => Sys2Proof.Machine.execRekeyNet index s
  | .importGroup index => Sys2Proof.Machine.execImportGroup index s
  | .retireGroup index => Sys2Proof.Machine.execRetireGroup index s
  | .importOvr index => Sys2Proof.Machine.execImportOvr index s
  | .clearOvr index => Sys2Proof.Machine.execClearOvr index s
  | .exportPage index => Sys2Proof.Machine.execExportPage index s
  | .floorCommit index => Sys2Proof.Machine.execFloorCommit index s
  | .attest index => Sys2Proof.Machine.execAttest index s
  | .grtBlow index => Sys2Proof.Machine.execGrtBlow index s
  | .debugExport index => Sys2Proof.Machine.execDebugExport index s
  | .grtCmdDone => Sys2Proof.Machine.execGrtCmdDone s
  | .invalidationSweepDone => Sys2Proof.Machine.execInvalidationSweepDone s
  | .msgErase => Sys2Proof.Machine.execMsgErase s
  | .keyReady id => Sys2Proof.Machine.execKeyReady id s
  | .verifyJobStart id => Sys2Proof.Machine.execVerifyJobStart id s
  | .verifyDone id => Sys2Proof.Machine.execVerifyDone id s
  | .protectJobStart j id => Sys2Proof.Machine.execProtectJobStart j id s
  | .protectDone j id => Sys2Proof.Machine.execProtectDone j id s
  | .maskRefresh => Sys2Proof.Machine.execMaskRefresh s
  | .drbgReseed => Sys2Proof.Machine.execDrbgReseed s
  | .drbgHealthFail dt failing => Sys2Proof.Machine.execDrbgHealthFail dt failing s
  | .unlockChal dt => Sys2Proof.Machine.execUnlockChal dt s
  | .unlockResp dt resp => Sys2Proof.Machine.execUnlockResp dt resp s
  | .add t w => Sys2Proof.Machine.execAdd t w s
  | .sub t w => Sys2Proof.Machine.execSub t w s
  | .and t w => Sys2Proof.Machine.execAnd t w s
  | .or t w => Sys2Proof.Machine.execOr t w s
  | .xor t w => Sys2Proof.Machine.execXor t w s
  | .sll t w => Sys2Proof.Machine.execSll t w s
  | .srl t w => Sys2Proof.Machine.execSrl t w s
  | .sra t w => Sys2Proof.Machine.execSra t w s
  | .mul t w => Sys2Proof.Machine.execMul t w s
  | .sel t w => Sys2Proof.Machine.execSel t w s
  | .addi t w => Sys2Proof.Machine.execAddi t w s
  | .andi t w => Sys2Proof.Machine.execAndi t w s
  | .ori t w => Sys2Proof.Machine.execOri t w s
  | .xori t w => Sys2Proof.Machine.execXori t w s
  | .slli t w => Sys2Proof.Machine.execSlli t w s
  | .srli t w => Sys2Proof.Machine.execSrli t w s
  | .srai t w => Sys2Proof.Machine.execSrai t w s
  | .li t w => Sys2Proof.Machine.execLi t w s
  | .lih t w => Sys2Proof.Machine.execLih t w s
  | .ceq t w => Sys2Proof.Machine.execCeq t w s
  | .cne t w => Sys2Proof.Machine.execCne t w s
  | .clt t w => Sys2Proof.Machine.execClt t w s
  | .cltu t w => Sys2Proof.Machine.execCltu t w s
  | .cge t w => Sys2Proof.Machine.execCge t w s
  | .cgeu t w => Sys2Proof.Machine.execCgeu t w s
  | .pand t w => Sys2Proof.Machine.execPand t w s
  | .por t w => Sys2Proof.Machine.execPor t w s
  | .pnot t w => Sys2Proof.Machine.execPnot t w s
  | .br t w => Sys2Proof.Machine.execBr t w s
  | .call t w => Sys2Proof.Machine.execCall t w s
  | .jalr t w => Sys2Proof.Machine.execJalr t w s
  | .dbnz t w => Sys2Proof.Machine.execDbnz t w s
  | .ldb t w => Sys2Proof.Machine.execLdb t w s
  | .ldh t w => Sys2Proof.Machine.execLdh t w s
  | .ldw t w => Sys2Proof.Machine.execLdw t w s
  | .ldd t w => Sys2Proof.Machine.execLdd t w s
  | .stb t w => Sys2Proof.Machine.execStb t w s
  | .sth t w => Sys2Proof.Machine.execSth t w s
  | .stw t w => Sys2Proof.Machine.execStw t w s
  | .std t w => Sys2Proof.Machine.execStd t w s
  | .amoadd t w => Sys2Proof.Machine.execAmoadd t w s
  | .cas t w => Sys2Proof.Machine.execCas t w s
  | .fenceFull t w => Sys2Proof.Machine.execFenceFull t w s
  | .fenceSt t w => Sys2Proof.Machine.execFenceSt t w s
  | .fenceRn t w => Sys2Proof.Machine.execFenceRn t w s
  | .push t w => Sys2Proof.Machine.execPush t w s
  | .push4 t w => Sys2Proof.Machine.execPush4 t w s
  | .tpush t w => Sys2Proof.Machine.execTpush t w s
  | .pop t w => Sys2Proof.Machine.execPop t w s
  | .pop4 t w => Sys2Proof.Machine.execPop4 t w s
  | .popw t w => Sys2Proof.Machine.execPopw t w s
  | .rlev t w => Sys2Proof.Machine.execRlev t w s
  | .pushRoom t => Sys2Proof.Machine.execPushRoom t s
  | .popWordArrive t => Sys2Proof.Machine.execPopWordArrive t s
  | .popwTimeout t => Sys2Proof.Machine.execPopwTimeout t s
  | .now t w => Sys2Proof.Machine.execNow t w s
  | .nowf t w => Sys2Proof.Machine.execNowf t w s
  | .asn t w => Sys2Proof.Machine.execAsn t w s
  | .waitt t w => Sys2Proof.Machine.execWaitt t w s
  | .waittRelease t => Sys2Proof.Machine.execWaittRelease t s
  | .a2t t w => Sys2Proof.Machine.execA2t t w s
  | .tcmd t w => Sys2Proof.Machine.execTcmd t w s
  | .tcmdAccept t => Sys2Proof.Machine.execTcmdAccept t s
  | .tfind t w => Sys2Proof.Machine.execTfind t w s
  | .tfindResult t => Sys2Proof.Machine.execTfindResult t s
  | .trd t w => Sys2Proof.Machine.execTrd t w s
  | .hmk t w => Sys2Proof.Machine.execHmk t w s
  | .hget t w => Sys2Proof.Machine.execHget t w s
  | .hldb t w => Sys2Proof.Machine.execHldb t w s
  | .hldd t w => Sys2Proof.Machine.execHldd t w s
  | .hstb t w => Sys2Proof.Machine.execHstb t w s
  | .hstd t w => Sys2Proof.Machine.execHstd t w s
  | .halloc t w => Sys2Proof.Machine.execHalloc t w s
  | .hfree t w => Sys2Proof.Machine.execHfree t w s
  | .bfx t w => Sys2Proof.Machine.execBfx t w s
  | .bfxs t w => Sys2Proof.Machine.execBfxs t w s
  | .bfi t w => Sys2Proof.Machine.execBfi t w s
  | .clz t w => Sys2Proof.Machine.execClz t w s
  | .bswap t w => Sys2Proof.Machine.execBswap t w s
  | .crc32cb t w => Sys2Proof.Machine.execCrc32cb t w s
  | .crc32cd t w => Sys2Proof.Machine.execCrc32cd t w s
  | .crc32b t w => Sys2Proof.Machine.execCrc32b t w s
  | .crc32d t w => Sys2Proof.Machine.execCrc32d t w s
  | .crc16b t w => Sys2Proof.Machine.execCrc16b t w s
  | .shab t w => Sys2Proof.Machine.execShab t w s
  | .aesb t w => Sys2Proof.Machine.execAesb t w s
  | .rnd t w => Sys2Proof.Machine.execRnd t w s
  | .rndReady t => Sys2Proof.Machine.execRndReady t s
  | .spb t w => Sys2Proof.Machine.execSpb t w s
  | .sps t w => Sys2Proof.Machine.execSps t w s
  | .spd t w => Sys2Proof.Machine.execSpd t w s
  | .mfs t w => Sys2Proof.Machine.execMfs t w s
  | .mts t w => Sys2Proof.Machine.execMts t w s
  | .trap t w => Sys2Proof.Machine.execTrap t w s
  | .eret t w => Sys2Proof.Machine.execEret t w s
  | .yield t w => Sys2Proof.Machine.execYield t w s
  | .brk t w => Sys2Proof.Machine.execBrk t w s
  | .registerWindowDone t => Sys2Proof.Machine.execRegisterWindowDone t s
  | .thrStart t d => Sys2Proof.Machine.execThrStart t d s
  | .thrStop t d => Sys2Proof.Machine.execThrStop t d s
  | .thrHalt t d => Sys2Proof.Machine.execThrHalt t d s
  | .thrResume t d => Sys2Proof.Machine.execThrResume t d s
  | .dbgDataWrite t d => Sys2Proof.Machine.execDbgDataWrite t d s
  | .jDbgHalt d => Sys2Proof.Machine.execJDbgHalt d s
  | .jDbgResume d => Sys2Proof.Machine.execJDbgResume d s
  | .watchdogExpiry t => Sys2Proof.Machine.execWatchdogExpiry t s
  | .coreWedge dt k => Sys2Proof.Machine.execCoreWedge dt k s
  | .runnelEnable n d => Sys2Proof.Machine.execRunnelEnable n d s
  | .runnelDisable n d => Sys2Proof.Machine.execRunnelDisable n d s
  | .runnelDisableDone n => Sys2Proof.Machine.execRunnelDisableDone n s
  | .enginePushRoom n => Sys2Proof.Machine.execEnginePushRoom n s
  | .hostPush d => Sys2Proof.Machine.execHostPush d s
  | .hostPop a => Sys2Proof.Machine.execHostPop a s
  | .runnelFlush n => Sys2Proof.Machine.execRunnelFlush n s
  | .flushDone n => Sys2Proof.Machine.execFlushDone n s
  | .hostAlloc d => Sys2Proof.Machine.execHostAlloc d s
  | .hostAllocDone => Sys2Proof.Machine.execHostAllocDone s
  | .hostFree d => Sys2Proof.Machine.execHostFree d s
  | .cisternTrimCorrect => Sys2Proof.Machine.execCisternTrimCorrect s
  | .nowSRead dt => Sys2Proof.Machine.execNowSRead dt s
  | .set dt => Sys2Proof.Machine.execSet dt s
  | .step dt => Sys2Proof.Machine.execStep dt s
  | .arm dt => Sys2Proof.Machine.execArm dt s
  | .disarm dt => Sys2Proof.Machine.execDisarm dt s
  | .masterChg dt => Sys2Proof.Machine.execMasterChg dt s
  | .resetI dt => Sys2Proof.Machine.execResetI dt s
  | .ofsSample dt d => Sys2Proof.Machine.execOfsSample dt d s
  | .slewEnd => Sys2Proof.Machine.execSlewEnd s
  | .holdover => Sys2Proof.Machine.execHoldover s
  | .ppsInEdge e => Sys2Proof.Machine.execPpsInEdge e s
  | .ppsMiss => Sys2Proof.Machine.execPpsMiss s
  | .ppsOutAssert => Sys2Proof.Machine.execPpsOutAssert s
  | .ppsOutRelease => Sys2Proof.Machine.execPpsOutRelease s
  | .asnStart => Sys2Proof.Machine.execAsnStart s
  | .ethEnable p d => Sys2Proof.Machine.execEthEnable p d s
  | .ethRxFrame dt p len bytes => Sys2Proof.Machine.execEthRxFrame dt p len bytes s
  | .ethTxRecord dt p => Sys2Proof.Machine.execEthTxRecord dt p s
  | .ethTxDone dt p => Sys2Proof.Machine.execEthTxDone dt p s
  | .ethLinkUp dt p => Sys2Proof.Machine.execEthLinkUp dt p s
  | .ethLinkDown dt p cut => Sys2Proof.Machine.execEthLinkDown dt p cut s
  | .bar2Access dt write o n bs => Sys2Proof.Machine.execBar2Access dt write o n bs s
  | .pcieLinkDown dt popped => Sys2Proof.Machine.execPcieLinkDown dt popped s
  | .hotReset dt popped => Sys2Proof.Machine.execHotReset dt popped s
  | .busMasterClear dt cfg popped => Sys2Proof.Machine.execBusMasterClear dt cfg popped s
  | .pciePerst p popped => Sys2Proof.Machine.execPciePerst p popped s
  | .ringEnable n d => Sys2Proof.Machine.execRingEnable n d s
  | .ringDisable n busy d => Sys2Proof.Machine.execRingDisable n busy d s
  | .ringDoorbell n idx => Sys2Proof.Machine.execRingDoorbell n idx s
  | .ringDmaReadDone dt n ws => Sys2Proof.Machine.execRingDmaReadDone dt n ws s
  | .ringRecordPop dt n => Sys2Proof.Machine.execRingRecordPop dt n s
  | .ringCoalTimer n => Sys2Proof.Machine.execRingCoalTimer n s
  | .ringDmaError dt n => Sys2Proof.Machine.execRingDmaError dt n s
  | .hostIngressRecord dt => Sys2Proof.Machine.execHostIngressRecord dt s
  | .spiRegRead32 dt off ready => Sys2Proof.Machine.execSpiRegRead32 dt off ready s
  | .spiRegRead64 dt off ready => Sys2Proof.Machine.execSpiRegRead64 dt off ready s
  | .spiRegWrite32 dt off d => Sys2Proof.Machine.execSpiRegWrite32 dt off d s
  | .spiRegWrite64 dt off d => Sys2Proof.Machine.execSpiRegWrite64 dt off d s
  | .spiPktRead dt o n => Sys2Proof.Machine.execSpiPktRead dt o n s
  | .spiPktWrite dt o bs => Sys2Proof.Machine.execSpiPktWrite dt o bs s
  | .spiStatusRead dt => Sys2Proof.Machine.execSpiStatusRead dt s
  | .spiBadTransaction dt => Sys2Proof.Machine.execSpiBadTransaction dt s
  | .flashDiscoveryDone dt mode density => Sys2Proof.Machine.execFlashDiscoveryDone dt mode density s
  | .flsRead k len => Sys2Proof.Machine.execFlsRead k len s
  | .flsProgram k len => Sys2Proof.Machine.execFlsProgram k len s
  | .erase4k k => Sys2Proof.Machine.execErase4k k s
  | .erase64k k => Sys2Proof.Machine.execErase64k k s
  | .flsCmdDone dt fail => Sys2Proof.Machine.execFlsCmdDone dt fail s
  | .resetRelease dt strap1 strap0 => Sys2Proof.Machine.execResetRelease dt strap1 strap0 s
  | .memoryInitDone dt m => Sys2Proof.Machine.execMemoryInitDone dt m s
  | .jetLock dt k => Sys2Proof.Machine.execJetLock dt k s
  | .jetLockTimeout k => Sys2Proof.Machine.execJetLockTimeout k s
  | .chainWakeRequest j => Sys2Proof.Machine.execChainWakeRequest j s
  | .clusterStop c => Sys2Proof.Machine.execClusterStop c s
  | .clusterWake c => Sys2Proof.Machine.execClusterWake c s
  | .sscApply => Sys2Proof.Machine.execSscApply s
  | .dormantEnter d => Sys2Proof.Machine.execDormantEnter d s
  | .dormantAlarm => Sys2Proof.Machine.execDormantAlarm s
  | .wakeNWake p => Sys2Proof.Machine.execWakeNWake p s
  | .pfailDetect e both => Sys2Proof.Machine.execPfailDetect e both s
  | .brownOut e => Sys2Proof.Machine.execBrownOut e s
  | .pfailReset wakeN => Sys2Proof.Machine.execPfailReset wakeN s
  | .powerRestart dt strap1 strap0 => Sys2Proof.Machine.execPowerRestart dt strap1 strap0 s
  | .softReset d => Sys2Proof.Machine.execSoftReset d s
  | .rstNAssert p => Sys2Proof.Machine.execRstNAssert p s
  | .vbatLoss dt => Sys2Proof.Machine.execVbatLoss dt s
  | .cisternSupplySwitch dt supply => Sys2Proof.Machine.execCisternSupplySwitch dt supply s
  | .vbatLow dt => Sys2Proof.Machine.execVbatLow dt s
  | .skimStart m => Sys2Proof.Machine.execSkimStart m s
  | .skimAbort => Sys2Proof.Machine.execSkimAbort s
  | .skimWord dt => Sys2Proof.Machine.execSkimWord dt s
  | .skimDone => Sys2Proof.Machine.execSkimDone s
  | .flipArm d => Sys2Proof.Machine.execFlipArm d s
  | .flipLock => Sys2Proof.Machine.execFlipLock s
  | .twinEnable d => Sys2Proof.Machine.execTwinEnable d s
  | .pairWaitExpiry => Sys2Proof.Machine.execPairWaitExpiry s
  | .twinLaneLock dt k up => Sys2Proof.Machine.execTwinLaneLock dt k up s
  | .heartbeatSend => Sys2Proof.Machine.execHeartbeatSend s
  | .heartbeat dt seq stamp w ok => Sys2Proof.Machine.execHeartbeat dt seq stamp w ok s
  | .linkSilence => Sys2Proof.Machine.execLinkSilence s
  | .mirrorSend => Sys2Proof.Machine.execMirrorSend s
  | .mirror dt seq stamp ws ok => Sys2Proof.Machine.execMirror dt seq stamp ws ok s
  | .resync dt seq stamp ok => Sys2Proof.Machine.execResync dt seq stamp ok s
  | .twnResync => Sys2Proof.Machine.execTwnResync s
  | .syncEnd dt seq stamp ok => Sys2Proof.Machine.execSyncEnd dt seq stamp ok s
  | .takeoverDecision dt => Sys2Proof.Machine.execTakeoverDecision dt s
  | .takeover dt seq stamp w ok => Sys2Proof.Machine.execTakeover dt seq stamp w ok s
  | .suspectWindowEnd => Sys2Proof.Machine.execSuspectWindowEnd s
  | .twnHandover => Sys2Proof.Machine.execTwnHandover s
  | .handoverSend dt => Sys2Proof.Machine.execHandoverSend dt s
  | .handover dt seq stamp w ok => Sys2Proof.Machine.execHandover dt seq stamp w ok s
  | .goodbye dt seq stamp w ok => Sys2Proof.Machine.execGoodbye dt seq stamp w ok s
  | .packet dt seq stamp ws ok => Sys2Proof.Machine.execPacket dt seq stamp ws ok s
  | .twinTxRecord dt => Sys2Proof.Machine.execTwinTxRecord dt s
  | .bootRomStart dt => Sys2Proof.Machine.execBootRomStart dt s
  | .activate dt req => Sys2Proof.Machine.execActivate dt req s
  | .stillTake d => Sys2Proof.Machine.execStillTake d s
  | .stillSnapshot => Sys2Proof.Machine.execStillSnapshot s
  | .stillRelease d => Sys2Proof.Machine.execStillRelease d s
  | .stillAuto => Sys2Proof.Machine.execStillAuto s
  | .siltPost req code value => Sys2Proof.Machine.execSiltPost req code value s
  | .statClear => Sys2Proof.Machine.execStatClear s
  | .siltFlush => Sys2Proof.Machine.execSiltFlush s
  | .siltFlushTimer => Sys2Proof.Machine.execSiltFlushTimer s
  | .siltFlushDone => Sys2Proof.Machine.execSiltFlushDone s
  | .siltRingScan dt => Sys2Proof.Machine.execSiltRingScan dt s
  | .opHour => Sys2Proof.Machine.execOpHour s
  | .eddyKey dt d => Sys2Proof.Machine.execEddyKey dt d s
  | .eddyLock => Sys2Proof.Machine.execEddyLock s
  | .eddySeedWrite k d => Sys2Proof.Machine.execEddySeedWrite k d s
  | .eddyHoldRelease k => Sys2Proof.Machine.execEddyHoldRelease k s
  | .pcieLinkUp dt width speed => Sys2Proof.Machine.execPcieLinkUp dt width speed s
  | .charterLoaded => Sys2Proof.Machine.execCharterLoaded s
  | .vbatRestore dt => Sys2Proof.Machine.execVbatRestore dt s

end Sys2Proof.Machine
end

