-- ==== Sys2Proof/Machine/Step.lean ====
section
/-! DEFINITION. One step: the command at the front of the queue, or 1 ns of idle time. -/

namespace Sys2Proof.Machine

/-- The state with the queue's front command taken off. -/
def State.withQueue (s : State) (q : List Instr) : State := { s with pending := q }

/-- One step: exec of the command at the front, on the state with the queue's rest; with an empty queue, 1 ns passes (log entry 3). -/
def step (s : State) : Host.Outcome State Fault Refusal :=
  match s.pending with
  | c :: q => exec c (s.withQueue q)
  | [] => .next (s.advance 1)

/-- The state with the command that a word spells put at the front of the queue; unchanged where it spells none. -/
def State.withFetchWord (s : State) (nbits w : Nat) : State :=
  match decodeTableWord nbits w with
  | some c => s.withQueue (c :: s.pending)
  | none => s

end Sys2Proof.Machine
end

