-- ==== Sys2Proof/Safety.lean ====
section
/-! DEFINITION. The terms in which statements speak of the block: a command that completes with an effect, the canonical form of the
state's sparse maps, a thread whose next instruction issues, and what an instruction that touches only its thread leaves. -/

namespace Sys2Proof.Machine

/-- The command answers a next state, and that state has the property. -/
def Completes (c : Instr) (s : State) (P : State → Prop) : Prop := ∃ t, exec c s = .next t ∧ P t

/-- The canonical form of memory and of the register file: keys strictly rise, and memory lists no byte that reads so unlisted. -/
def Canonical (s : State) : Prop := Memory.wf s.mem = true ∧ SMap.sorted s.regs = true

/-- Grotto's key memories hold no bad word, and no flip-mask is armed (R438, R448). Their keys are kept apart from `mem`, whose words read 0. -/
def KeysGood (s : State) : Prop :=
  s.flag F.MEM_FLIP_CTL_ARM = false ∧ ∀ m ∈ keyMems, ∀ w, w < 2 ^ 21 → s.eccOf m w = none ∧ s.memWord m w = 0

/-- The word of instruction memory at a thread's pc is a good codeword. -/
def FetchGood (t : Nat) (s : State) : Prop := s.eccOf (instrMem t) ((s.thr t).pc / 8) = none

/-- An instruction word issues on a thread unguarded: it may issue, the word at its pc bears no error mark, its guard predicate reads 1, and the
operand is the fields of a word. -/
def Issues (t w : Nat) (s : State) : Prop :=
  s.mayIssue t = true ∧ FetchGood t s ∧ (s.thr t).pred (opQP w) = true ∧ opFields w = true

/-- The state on which a thread's instruction has its effect: its core's choice has passed on, and the issue is counted. -/
def State.issued (s : State) (t : Nat) : State := (s.takeTurn t).issueCount t

/-- The address after a thread's next instruction (R268). -/
def nextPc (th : OclThread) : Nat := (th.pc + 4) % 32768

/-- A thread's record once an instruction has retired and execution goes on at `pc`. -/
def retiredAt (th : OclThread) (pc : Nat) : OclThread := { th with pc := pc, retired := (th.retired + 1) % 2 ^ 64 }

/-- `u` is `s` after an instruction of thread `t` that touches nothing but its thread: its record is `th`; other threads, every byte of
memory, time, and every register but the issue count OBS_THR_CNT (R499) are as before; whose turn it is to issue may change (R302). -/
def ThreadOnly (t : Nat) (th : OclThread) (s u : State) : Prop :=
  u.thr t = th ∧ (∀ x, x ≠ t → u.thr x = s.thr x) ∧ (∀ m o, u.memByte m o = s.memByte m o) ∧ u.clp = s.clp ∧
    ∀ id i j, id ≠ .OBS_THR_CNT → u.reg id i j = s.reg id i j

/-- The integer instructions (R277). -/
def ocellInt (t w : Nat) : List (Instr × Nat × Bool) :=
  [(Instr.add t w, 0x00, fmtA w), (Instr.sub t w, 0x01, fmtA w), (Instr.and t w, 0x02, fmtA w),
   (Instr.or t w, 0x03, fmtA w), (Instr.xor t w, 0x04, fmtA w), (Instr.sll t w, 0x05, fmtA w),
   (Instr.srl t w, 0x06, fmtA w), (Instr.sra t w, 0x07, fmtA w), (Instr.mul t w, 0x08, fmtA w),
   (Instr.sel t w, 0x09, fmtA w), (Instr.addi t w, 0x10, true), (Instr.andi t w, 0x11, true), (Instr.ori t w, 0x12, true),
   (Instr.xori t w, 0x13, true), (Instr.slli t w, 0x14, shiftOk w), (Instr.srli t w, 0x15, shiftOk w),
   (Instr.srai t w, 0x16, shiftOk w), (Instr.li t w, 0x18, fmtD w), (Instr.lih t w, 0x19, fmtD w)]

/-- The compare and predicate instructions (R278). -/
def ocellPred (t w : Nat) : List (Instr × Nat × Bool) :=
  [(Instr.ceq t w, 0x20, fmtE w), (Instr.cne t w, 0x21, fmtE w), (Instr.clt t w, 0x22, fmtE w),
   (Instr.cltu t w, 0x23, fmtE w), (Instr.cge t w, 0x24, fmtE w), (Instr.cgeu t w, 0x25, fmtE w),
   (Instr.pand t w, 0x28, !opI w && fmtE w && names8 (opEA w) && names8 (opEB w)),
   (Instr.por t w, 0x29, !opI w && fmtE w && names8 (opEA w) && names8 (opEB w)),
   (Instr.pnot t w, 0x2A, !opI w && fmtE w && names8 (opEA w) && (opEB w == 0))]

/-- Branches, loads, stores, atomics and fences (R279, R281). -/
def ocellMem (t w : Nat) : List (Instr × Nat × Bool) :=
  [(Instr.br t w, 0x30, true), (Instr.call t w, 0x31, true), (Instr.jalr t w, 0x32, true),
   (Instr.dbnz t w, 0x33, opRA w == 0), (Instr.ldb t w, 0x38, true), (Instr.ldh t w, 0x39, true),
   (Instr.ldw t w, 0x3A, true), (Instr.ldd t w, 0x3B, true), (Instr.stb t w, 0x3C, true), (Instr.sth t w, 0x3D, true),
   (Instr.stw t w, 0x3E, true), (Instr.std t w, 0x3F, true), (Instr.amoadd t w, 0x40, fmtA w),
   (Instr.cas t w, 0x41, fmtA w), (Instr.fenceFull t w, 0x42, fenceOk w), (Instr.fenceSt t w, 0x42, fenceOk w),
   (Instr.fenceRn t w, 0x42, fenceOk w)]

/-- Runnel, time and table instructions (R282, R284, R285). -/
def ocellRun (t w : Nat) : List (Instr × Nat × Bool) :=
  [(Instr.push t w, 0x48, true), (Instr.push4 t w, 0x49, decide (opRD w ≤ 28)),
   (Instr.tpush t w, 0x4A, opI w && bits w 8 5 == 0), (Instr.pop t w, 0x4B, true),
   (Instr.pop4 t w, 0x4C, decide (opRD w ≤ 28)), (Instr.popw t w, 0x4D, fmtA w), (Instr.rlev t w, 0x4E, true),
   (Instr.now t w, 0x50, fmtA w), (Instr.nowf t w, 0x51, fmtA w && decide (opRD w ≤ 30)), (Instr.asn t w, 0x52, fmtA w),
   (Instr.waitt t w, 0x53, fmtA w), (Instr.a2t t w, 0x54, fmtA w), (Instr.tcmd t w, 0x58, fmtA w),
   (Instr.tfind t w, 0x59, fmtA w), (Instr.trd t w, 0x5A, bits w 2 10 == 0)]

/-- Handle instructions (R286). -/
def ocellHandle (t w : Nat) : List (Instr × Nat × Bool) :=
  [(Instr.hmk t w, 0x60, fmtA w && names8 (opRD w)), (Instr.hget t w, 0x61, fmtA w && names8 (opRA w)),
   (Instr.hldb t w, 0x62, fmtA w && names8 (opRA w)), (Instr.hldd t w, 0x63, fmtA w && names8 (opRA w)),
   (Instr.hstb t w, 0x64, fmtA w && names8 (opRA w)), (Instr.hstd t w, 0x65, fmtA w && names8 (opRA w)),
   (Instr.halloc t w, 0x66, fmtA w && names8 (opRD w)), (Instr.hfree t w, 0x67, fmtA w && names8 (opRA w))]

/-- Bit-field and CRC instructions (R288). -/
def ocellBits (t w : Nat) : List (Instr × Nat × Bool) :=
  [(Instr.bfx t w, 0x68, bfOk w), (Instr.bfxs t w, 0x69, bfOk w), (Instr.bfi t w, 0x6A, bfOk w),
   (Instr.clz t w, 0x6B, fmtA w), (Instr.bswap t w, 0x6C, fmtA w), (Instr.crc32cb t w, 0x6D, fmtA w),
   (Instr.crc32cd t w, 0x6E, fmtA w), (Instr.crc32b t w, 0x6F, fmtA w), (Instr.crc32d t w, 0x70, fmtA w),
   (Instr.crc16b t w, 0x71, fmtA w)]

/-- Crypto, random, region and system instructions (R290, R291, R293). -/
def ocellSys (t w : Nat) (th : OclThread) : List (Instr × Nat × Bool) :=
  [(Instr.shab t w, 0x74, fmtA w), (Instr.aesb t w, 0x75, fmtA w), (Instr.rnd t w, 0x76, fmtA w),
   (Instr.spb t w, 0x77, true), (Instr.sps t w, 0x78, fmtA w && th.region.isSome),
   (Instr.spd t w, 0x79, fmtA w && th.region.isSome), (Instr.mfs t w, 0x7A, fmtA w),
   (Instr.mts t w, 0x7B, fmtA w && mtsOk (opRB w)), (Instr.trap t w, 0x7C, true), (Instr.eret t w, 0x7D, fmtA w && th.exc),
   (Instr.yield t w, 0x7E, fmtA w), (Instr.brk t w, 0x7F, fmtA w)]

/-- Every Ocell instruction for thread `t` and bits [24:0] `w` of its word, with its OPC and whether it meets its format and the limits on
its operands (R273–R293); `th` is the thread, for those that need a region or EXC. -/
def ocellOps (t w : Nat) (th : OclThread) : List (Instr × Nat × Bool) :=
  ocellInt t w ++ ocellPred t w ++ ocellMem t w ++ ocellRun t w ++ ocellHandle t w ++ ocellBits t w ++ ocellSys t w th

end Sys2Proof.Machine
end

