-- ==== Sys2Proof/Certificates/Slice0/Obligations.lean ====
section
/-! DEFINITION. The statements for the provers. Each command's statement has the next state as its conclusion, under hypotheses on the
state and operands alone (`Completes`). -/

open Sys2Proof Sys2Proof.Machine

/-- A step takes the command at the front of the queue and is exec of it on the state with the queue's rest; on an empty queue 1 ns passes and
nothing but Clepsydra changes (the model's choice, log entry 3). Where the manual leaves a point open this rests on the model's choices:
log entry 90. -/
def Obligations.StepRunsFrontCommand : Prop :=
  (∀ (s : State) (c : Instr) (q : List Instr), s.pending = c :: q → step s = exec c (s.withQueue q)) ∧
  (∀ (s : State) (q : List Instr), s.withQueue q = { s with pending := q }) ∧
  (∀ (s : State), s.pending = [] → step s = .next (s.advance 1) ∧ (s.advance 1).clp.now = s.clp.now + 1 ∧
    (s.advance 1) = { s with clp := (s.advance 1).clp })

/-- The block right after reset: no command waits, every register reads its reset value, every byte of memory reads 0, no chain, port, ring,
thread or engine works, and memory and register file are in canonical form. Where the manual leaves a point open this rests on the model's
choices: log entries 8, 9, 10, 60, 119. -/
def Obligations.ResetState : Prop :=
  State.reset.pending = [] ∧ (∀ id i j, State.reset.reg id i j = resetAt id i j) ∧ (∀ m o, State.reset.memByte m o = 0) ∧
  (∀ m w, State.reset.eccOf m w = none) ∧ (∀ n, State.reset.runnel n = {}) ∧ (∀ t, State.reset.thr t = {}) ∧
  (∀ j, (State.reset.tx j).frames = []) ∧ State.reset.pwr.phase = .reset ∧ State.reset.clp.on = false ∧
  State.reset.fld F.PLM_WINDOW_CENTRE_KHZ 0 = 0 ∧ State.reset.role = 0 ∧ State.reset.skim = none ∧ Canonical State.reset

/-- R7: a read of an unassigned offset returns 0, a write to one has no effect, and neither raises an error. -/
def Obligations.UnassignedOffsets : Prop :=
  ∀ (s : State) (req dt off w : Nat) (d : Word), busTarget off = .none →
    s.busRead req off = (0, s) ∧ s.busWrite req off w d = s ∧
      (widthOk off w = true → s.released = true → Completes (.registerWrite ⟨req, dt⟩ off w d) s fun t => t = s.after dt) ∧
        (widthOk off w = true → s.released = true → Completes (.counterRead ⟨⟨req, dt⟩, off, w⟩) s fun t => t = s.after dt)

/-- CLIP_INTERVAL, PLM_WINDOW_WRITE, PLM_CHAIN_CTL_WRITE and the changes of a receive chain's STATE complete: R21, R22, R23, R55–R57. Where
the manual leaves a point open this rests on the model's choices: log entries 2, 5, 12, 102, 134, 154. -/
def Obligations.ReceiveChainCommands : Prop :=
  (∀ (s : State) (dt j : Nat) (b : Bool), 1 ≤ s.chainState j → Completes (.clipInterval dt j true b) s fun t =>
    t.flag F.PLM_EVT_CLIP_A j = true ∧ t.fld F.PLM_CNT_CLIP_A_COUNT j = min 0xFFFFFFFF (s.fld F.PLM_CNT_CLIP_A_COUNT j + 1)) ∧
  (∀ (s : State) (j : Nat) (d : Word), s.listening j = false → s.released = true → Completes (.plmWindowWrite j d) s fun t =>
    t.fld F.PLM_WINDOW_CENTRE_KHZ j = d.toNat % 2 ^ 23) ∧
  (∀ (s : State) (j : Nat) (d : Word), s.chainState j = 0 → s.chainAsked j ≠ 0 → centreOk (d.toNat % 2 ^ 23) = false →
    s.released = true → Completes (.plmWindowWrite j d) s fun t => t.chainState j = 0 ∧ (t.plmChain j).primedAt = none ∧
      t.flag F.PLM_EVT_WINDOW_BAD j = true) ∧
  (∀ (s : State) (j : Nat) (d : Word), s.released = true → Completes (.plmChainCtlWrite j d) s fun t =>
    t.fld F.PLM_CHAIN_CTL_TARGET j = bits d.toNat 0 2 ∧ t.fld F.PLM_CHAIN_CTL_AER_MODE j = bits d.toNat 4 2 ∧
      t.fld F.PLM_CHAIN_CTL_FCSFAIL_CMPL j = bits d.toNat 8 1) ∧
  (∀ (s : State) (j at_ : Nat), (s.plmChain j).primedAt = some at_ → s.chainState j = 0 →
    centreOk (s.fld F.PLM_WINDOW_CENTRE_KHZ j) = true → Completes (.chainPrimed j) s fun t => t.clp.now = max s.clp.now at_ ∧
    t.chainState j = 1 ∧ t.flag F.PLM_EVT_STATE_CHANGE j = true) ∧
  (∀ (s : State) (j : Nat), s.chainState j = 1 → s.chainAsked j = 2 → Completes (.chainListening j) s fun t =>
    t.chainState j = 2) ∧
  (∀ (s : State) (j : Nat), s.chainState j = 2 → s.chainAsked j < 2 → s.rillsBusy j = 0 → Completes (.chainLeaveListening j) s fun t =>
    t.chainState j = 1 ∧ t.clp.now = s.clp.now + 1) ∧
  (∀ (s : State) (j : Nat), s.chainState j = 1 → s.chainAsked j = 0 → s.idleNow j = true → Completes (.chainParked j) s fun t =>
    t.chainState j = 0 ∧ s.clp.now < t.clp.now ∧ t.clp.now ≤ s.clp.now + 2000)

/-- The rill commands and PHY_MODE_WRITE complete: R59–R62. Where the manual leaves a point open this rests on the model's choices: log
entries 2, 38, 103, 134. -/
def Obligations.RillCommands : Prop :=
  (∀ (s : State) (j n : Nat) (d : Word), s.rillOpen j n = true →
    (s.setReg .PLM_RILL_CFG j n (BitVec.ofNat 64 (2 * otherFields (bits d.toNat 0 28)))).rillCheck j n = 0 →
    s.released = true → Completes (.rillEnable j n d) s fun t => t.flag F.PLM_RILL_CFG_EN j n = true ∧ t.fld F.PLM_RILL_STAT_REFUSE j n = 0) ∧
  (∀ (s : State) (j n : Nat) (d : Word), s.rillOpen j n = true →
    (s.setReg .PLM_RILL_CFG j n (BitVec.ofNat 64 (2 * otherFields (bits d.toNat 0 28)))).rillCheck j n ≠ 0 →
    s.released = true → Completes (.rillEnable j n d) s fun t => t.flag F.PLM_RILL_CFG_EN j n = false ∧ t.flag F.PLM_EVT_MODE_REFUSED j = true) ∧
  (∀ (s : State) (j n : Nat) (d : Word), s.flag F.PLM_RILL_CFG_EN j n = true →
    s.released = true → Completes (.rillDisable j n d) s fun t => t.flag F.PLM_RILL_CFG_EN j n = false) ∧
  (∀ (s : State) (j n : Nat) (d : Word), s.rillOpen j n = true →
    s.released = true → Completes (.rillConfigWrite 0 j n d) s fun t => t.reg .PLM_RILL_CFG j n = BitVec.ofNat 64 (2 * otherFields (bits d.toNat 0 28))) ∧
  (∀ (s : State) (j n : Nat) (d : Word), s.rillOpen j n = true →
    s.released = true → Completes (.rillConfigWrite 1 j n d) s fun t => t.fld F.PLM_RILL_FREQ_OFFSET_HZ j n = d.toNat % 2 ^ 27) ∧
  (∀ (s : State) (which j n : Nat) (d : Word), 2 ≤ which → s.rillOpen j n = true →
    s.released = true → Completes (.rillConfigWrite which j n d) s fun t => t.fld F.PLM_RILL_LIM_MAX_PSDU j n = d.toNat % 2 ^ 11) ∧
  (∀ (s : State) (which j n : Nat) (d : Word), 1 ≤ which → s.rillOpen j n = false →
    s.released = true → Completes (.rillConfigWrite which j n d) s fun t => t = s.raise F.PLM_EVT_CFG_IGNORED j) ∧
  (∀ (s : State) (m : Nat) (d : Word), s.modeInUse m = false →
    s.released = true → Completes (.phyModeWrite m d) s fun t => t.fld F.PLM_PHY_MODE_TYPE m = d.toNat % 2 ^ 3)

/-- The events of a reception complete: detection, the choice of the aerial, the SFD and its timeout, the PHR, a PSDU byte and the end of the
frame (R32–R43). Where the manual leaves a point open this rests on the model's choices: log entries 2, 5, 21, 40, 95, 105, 133, 134, 135. -/
def Obligations.ReceptionCommands : Prop :=
  (∀ (s : State) (dt j n p k : Nat) (snrA snrB : Int), s.rillState j n = 1 → s.chainAsked j = 2 → (s.rill j n).aerMode = 0 →
    p < s.fld F.PLM_RILL_CFG_SNIFF_CNT j n →
    (s.fld F.PLM_PHY_MODE_TYPE ((s.sniffList j n).getD p 0) = 3 ∨
      max 4 (s.fld F.PLM_PHY_MODE_PRE_SYMS ((s.sniffList j n).getD p 0)) ≤ k) →
    8 * ((s.fld F.PLM_RILL_CFG_DET_THR j n : Int) - 6) < max snrA snrB →
    Completes (.preambleDetect dt j n [(p, k)] [snrA] [snrB]) s fun t =>
      t.rillState j n = 2 ∧ t.fld F.PLM_RILL_STAT_MODE_IDX j n = p ∧
        t.fld F.PLM_CNT_DETECT_COUNT j = min 0xFFFFFFFF (s.fld F.PLM_CNT_DETECT_COUNT j + 1)) ∧
  (∀ (s : State) (dt j n p k : Nat) (snrA snrB : Int), s.fld F.PLM_PHY_MODE_TYPE ((s.sniffList j n).getD p 0) ≠ 3 →
    k < max 4 (s.fld F.PLM_PHY_MODE_PRE_SYMS ((s.sniffList j n).getD p 0)) →
    Completes (.preambleDetect dt j n [(p, k)] [snrA] [snrB]) s fun t => t = s.after dt) ∧
  (∀ (s : State) (j n k : Nat) (mA mB : Int) (c : Claim), (s.rill j n).claim = some c → s.rillState j n = 2 → c.fixed = false →
    4 ≤ k → k < 16 → s.clp.now ≤ s.symbolsAfter j n c k →
    c.heardA = true → mB + (s.fld F.PLM_RILL_CFG_AER_HYST j n : Int) ≤ mA → mB < mA →
    Completes (.aerialChoice j n k mA mB) s fun t => t.clp.now = s.symbolsAfter j n c k ∧
      t.flag F.PLM_RILL_STAT_AER j n = false ∧ (t.rill j n).claim = some { c with fixed := true }) ∧
  (∀ (s : State) (dt j n : Nat) (mA mB : Int) (c : Claim), (s.rill j n).claim = some c → s.rillState j n = 2 → c.fixed = false →
    Completes (.aerialChoiceForced dt j n mA mB) s fun t => t.clp.now = max (s.clp.now + dt) (s.symbolsAfter j n c 16) ∧
      t.flag F.PLM_RILL_STAT_AER j n = (c.heardB && (!c.heardA || decide (mA < mB))) ∧
        (t.rill j n).claim = some { c with fixed := true }) ∧
  (∀ (s : State) (dt j n : Nat) (c : Claim), (s.rill j n).claim = some c → s.rillState j n = 2 → c.sfd = none →
    Completes (.sfdTimeout dt j n) s fun t => (t.rill j n).claim = none ∧
      (s.claimOfdm j n = false → t.clp.now = max s.clp.now (s.sfdEnd j n c)) ∧
      t.fld F.PLM_CNT_FALSE_DET_COUNT j = min 0xFFFFFFFF (s.fld F.PLM_CNT_FALSE_DET_COUNT j + 1)) ∧
  (∀ (s : State) (dt j n : Nat) (mA mB err pwr snr8 foHz : Int) (c : Claim), (s.rill j n).claim = some c → s.rillState j n = 2 →
    c.sfd = none → s.clp.now + dt ≤ s.sfdEnd j n c → Completes (.sfdFound dt j n mA mB err pwr snr8 foHz) s fun t =>
      ∃ d i, (t.rill j n).claim = some d ∧ d.fixed = true ∧ d.sfd = some i ∧ i.lqi = (max 0 (min 255 (snr8 + 40))).toNat ∧
        i.ts = toPattern 32 (((s.advance dt).fullNs : Int) + s.stampErr j n pwr err + s.sfld F.PLM_CAL_TS_ADJ j)) ∧
  (∀ (s : State) (dt j n len mcs : Nat) (fcs32 : Bool) (c : Claim) (i : SfdInfo), (s.rill j n).claim = some c → c.sfd = some i →
    s.rillState j n = 2 → len ≠ 0 → len ≤ s.fld F.PLM_RILL_LIM_MAX_PSDU j n →
    (s.claimOfdm j n = true → ofdmMcsOk (s.fld F.PLM_PHY_MODE_RATE (s.claimMode j n)) mcs = true) → cellsFor len ≤ s.freeCells →
    Completes (.phrReceived dt j n len mcs false true fcs32) s fun t => t.rillState j n = 3 ∧
      ∃ f, t.rx s.slc.nextRx = some f ∧ f.len = len ∧ f.cells.length = cellsFor len ∧ f.sfd = i) ∧
  (∀ (s : State) (dt j n : Nat) (b : Byte) (id : Nat) (f : RxFrame), s.rillFrame j n = some (id, f) → s.rillState j n = 3 →
    f.bytes.length < f.len → Completes (.psduByte dt j n b) s fun t => t.rx id = some { f with bytes := f.bytes ++ [b] }) ∧
  (∀ (s : State) (j n : Nat) (b : Byte) (id : Nat) (moved : Bool) (f : RxFrame), s.rillFrame j n = none →
    (s.rill j n).cut = some (s.clp.now, id, moved) → s.rx id = some f → f.closed = some .blanked → f.bytes.length + 1 = f.len →
    Completes (.psduByte 0 j n b) s fun t => ∃ g, t.rx id = some g ∧ g.bytes = f.bytes ++ [b] ∧
      g.closed = some (if g.fcsOk then .ok else .fcsFail)) ∧
  (∀ (s : State) (dt j n : Nat) (id : Nat) (f : RxFrame), s.rillFrame j n = some (id, f) → s.rillState j n = 3 →
    f.bytes.length = f.len → Completes (.frameEnd dt j n) s fun t => (t.rill j n).claim = none ∧
      ∃ g, t.rx id = some g ∧ g.bytes = f.bytes ∧ g.closed = some (if f.fcsOk then .ok else .fcsFail))

/-- The commands and events of a chain's synthesiser and transmit side complete: a window write, CAL, LOCK, the failure of a lock sequence,
the temperature calibration, and the start and end of the transmit side (R67–R74). CARRIER_ENABLE and CARRIER_CONFIG_WRITE complete: R77,
R78. Where the manual leaves a point open this rests on the model's choices: log entries 2, 5, 10, 17, 106, 107, 108, 109, 154. -/
def Obligations.SynthesiserAndCarriers : Prop :=
  ((∀ (s : State) (j : Nat) (d : Word), s.txState j ≠ 0 → s.radiating j = true → s.released = true → Completes (.synWindowWrite j d) s fun t =>
    (t.tx j).heldWin = some (d.toNat % 2 ^ 23) ∧ t.flag F.TXF_EVT_CFG_HELD j = true) ∧
  (∀ (s : State) (j : Nat) (d : Word), s.txState j = 0 → s.released = true → Completes (.synWindowWrite j d) s fun t =>
    t.fld F.TXF_SYN_WINDOW_CENTRE_KHZ j = d.toNat % 2 ^ 23 ∧ (t.tx j).heldWin = some (d.toNat % 2 ^ 23) ∧
      (t.tx j).centre = (s.tx j).centre ∧ t.flag F.TXF_EVT_CFG_HELD j = s.flag F.TXF_EVT_CFG_HELD j) ∧
  (∀ (s : State) (j : Nat) (e : Bool), s.radiatesNow j = false → s.txState j ≠ 0 → s.released = true → Completes (.cal j e) s fun t =>
    t.flag F.TXF_CHAIN_STAT_CAL_BUSY j = true ∧ (t.tx j).fullCal = true ∧ (t.tx j).lockAt = some (t.clp.now + 42000)) ∧
  (∀ (s : State) (j : Nat) (e : Bool), s.radiating j = true → s.released = true → Completes (.cal j e) s fun t =>
    (t.tx j).heldCal = true ∧ t.fld F.TXF_SYN_CTL_TEMP_CAL_EN j = cond e 1 0) ∧
  (∀ (s : State) (j at_ : Nat) (temp : Int), (s.tx j).lockAt = some at_ → Completes (.synLock j temp) s fun t =>
    t.locked j = true ∧ t.flag F.TXF_CHAIN_STAT_CAL_BUSY j = false ∧ (t.tx j).lockAt = none) ∧
  (∀ (s : State) (j at_ : Nat), (s.tx j).failAt = some at_ → Completes (.synFault j) s fun t =>
    t.flag F.TXF_CHAIN_STAT_SYN_FAULT j = true ∧ t.flag F.TXF_EVT_SYN_FAULT j = true ∧ (t.tx j).lockAt = none) ∧
  (∀ (s : State) (dt j : Nat) (temp : Int), let u := (s.advance dt).sense temp
    u.txState j = 2 → u.flag F.TXF_SYN_CTL_TEMP_CAL_EN j = true → 10 ≤ |temp - u.sfld F.TXF_CHAIN_STAT_CAL_TEMP j| →
    u.flag F.TXF_CHAIN_STAT_CAL_DUE j = false →
    Completes (.tempCalDue dt j temp) s fun t => t.flag F.TXF_CHAIN_STAT_CAL_DUE j = true ∧
      ((s.tx j).deferAt = none → u.calFree j = false →
        t.fld F.TXF_CNT_CAL_DEFER_COUNT j = min 0xFFFFFFFF (s.fld F.TXF_CNT_CAL_DEFER_COUNT j + 1))) ∧
  (∀ (s : State) (dt j : Nat), let u := (s.advance dt).endCycle
    u.txState j = 2 → u.flag F.TXF_CHAIN_STAT_CAL_DUE j = true → u.calFree j = true →
    Completes (.tempCalStart dt j) s fun t => t.flag F.TXF_CHAIN_STAT_CAL_BUSY j = true ∧ (t.tx j).lockAt = some (t.clp.now + 42000)) ∧
  (∀ (s : State) (j at_ : Nat), (s.tx j).deferAt = some at_ → (s.tx j).starved = false → Completes (.calStarved j) s fun t =>
    (t.tx j).starved = true) ∧
  (∀ (s : State) (j : Nat) (temp : Int), s.txState j = 0 → s.flag F.TXF_CHAIN_CTL_TX_HOLD j = true →
    centreOk ((s.tx j).heldWin.getD (s.tx j).centre) = true → Completes (.txWake j temp) s fun t =>
      (t.tx j).centre = (s.tx j).heldWin.getD (s.tx j).centre ∧ (t.tx j).heldWin = none ∧ t.txState j = 1 ∧
      t.flag F.TXF_CHAIN_STAT_CAL_BUSY j = true ∧ (t.tx j).failAt = some (t.clp.now + 100000)) ∧
  (∀ (s : State) (j at_ : Nat), let u := s.advanceTo (at_ + s.fld F.TXF_CHAIN_CTL_IDLE_OFF j * 10000)
    (s.tx j).idleAt = some at_ → s.txState j ≠ 0 → s.txIdle j = true → u.txIdle j = true → Completes (.txOff j) s fun t =>
      (t.tx j).idleAt = none ∧ t.txState j = 0)) ∧
  ((∀ (s : State) (j k : Nat) (d : Word), s.carOpen j k = true →
    let u := s.setReg .TXF_CAR_CFG j k (BitVec.ofNat 64 (2 * otherFields (d &&& 0x00FF0F3F).toNat))
    u.carCheck j k = 0 → s.released = true → Completes (.carrierEnable j k d) s fun t =>
      ∃ v : State, t = v.recheck ∧ v.flag F.TXF_CAR_CFG_EN j k = true ∧ v.fld F.TXF_CAR_STAT_REFUSE j k = 0 ∧
        ((∀ i, ∀ f ∈ (s.tx i).frames, s.justCommitted f = false ∧ f.taken ≠ s.clp.now) → t.regs = v.regs)) ∧
  (∀ (s : State) (j k : Nat) (d : Word), s.carOpen j k = true →
    let u := s.setReg .TXF_CAR_CFG j k (BitVec.ofNat 64 (2 * otherFields (d &&& 0x00FF0F3F).toNat))
    u.carCheck j k ≠ 0 → s.released = true → Completes (.carrierEnable j k d) s fun t =>
      t.flag F.TXF_CAR_CFG_EN j k = false ∧ t.flag F.TXF_EVT_CAR_REFUSED j = true) ∧
  (∀ (s : State) (j k : Nat) (d : Word), s.carOpen j k = true → s.released = true → Completes (.carrierConfigWrite false j k d) s fun t =>
    t.reg .TXF_CAR_CFG j k = BitVec.ofNat 64 (2 * otherFields (d &&& 0x00FF0F3F).toNat)) ∧
  (∀ (s : State) (j k : Nat) (d : Word), s.carOpen j k = true → s.released = true → Completes (.carrierConfigWrite true j k d) s fun t =>
    t.fld F.TXF_CAR_FREQ_OFFSET_HZ j k = d.toNat % 2 ^ 27) ∧
  (∀ (s : State) (j k : Nat) (d : Word), s.carOpen j k = false → s.released = true → Completes (.carrierConfigWrite true j k d) s fun t =>
    t = s.raise F.TXF_EVT_CFG_HELD j))

/-- The charter stage and the sample of a grant complete: a descriptor is taken or the stage stalls (R83, R372), a request is raised (R97), a
grant is sampled or withdrawn (R98–R100). R99: a grant sampled inactive completes the frame TX_NO_GRANT at the sample, with nothing sent
and no front-end pin moved; NO_GRANT is set in TXF_EVT and TXF_CNT_NO_GRANT increments. Here the sample falls at the commit point, the
frame is the only one held, and its descriptor came from a runnel. Where the manual leaves a point open this rests on the model's choices:
log entries 2, 5, 20, 22, 25, 37, 113, 114, 115, 148, 149, 154. -/
def Obligations.CharterStageCommands : Prop :=
  ((∀ (s : State) (dt : Nat) (src : Option Nat), let u := s.advance dt
    u.hasDesc src = true → u.pwr.phase ≠ .failing → u.launchFull = true → Completes (.txDescriptor dt src) s fun t =>
      t = { u with cht := { u.cht with stalled := true } }) ∧
  (∀ (s : State) (dt : Nat) (src : Option Nat), let u := s.advance dt
    u.hasDesc src = true → u.pwr.phase ≠ .failing → u.launchFull = false → Completes (.txDescriptor dt src) s fun t =>
      t = ({ u with cht := { u.cht with stalled := false } }).takeFirst) ∧
  (∀ (s : State) (src : Option Nat), s.cht.stalled = true → s.hasDesc src = true → s.launchFull = false →
    s.pwr.phase ≠ .failing → Completes (.charterStageResume src) s fun t =>
      t = ({ s with cht := { s.cht with stalled := false } }).takeFirst) ∧
  (∀ (s : State) (j id g : Nat) (f : TxFrame), s.txFrame j id = some f → s.coexGroup j = some g → f.stage = .held → f.req = none →
    f.desc.prio = false → s.samplePoint j g f = none → Completes (.coexReqAssert j id) s fun t =>
      (t.fld F.TXF_COEX_STAT_REQ).testBit g = true ∧ ∃ h ∈ (t.tx j).frames, h.id = id ∧ h.req = some g) ∧
  (∀ (s : State) (j id g : Nat) (f : TxFrame) (pin : PinLevel), s.txFrame j id = some f → s.coexGroup j = some g → f.launch = none →
    s.heldReady f = true → s.locked j = true → s.carTaken j f = false → s.heldFrames j = [f] →
    ((if 33 ≤ pin.since then pin.level else pin.before) != s.flag F.TXF_COEX_GRP_GNT_POL g) = true → s.sampleShort j g = false →
    Completes (.grantSample j id pin) s fun t => (t.tx j).frames.any (fun h => h.id == id && h.granted == some t.clp.now) = true) ∧
  (∀ (s : State) (pin : Change) (g : Nat), pin.on = s.flag F.TXF_COEX_GRP_GNT_POL (g % 4) → s.grantActive (g % 4) = true →
    37 ≤ pin.held → s.fld F.TXF_COEX_GRP_GNT_HOLD (g % 4) = 0 →
    (∀ j f, s.coexGroup j = some (g % 4) → f ∈ (s.tx j).frames → f.stage = .held) →
    Completes (.grantWithdrawal pin g) s fun t => t.clp.now = s.clp.now + pin.dt + 33 ∧ t.grantActive (g % 4) = false ∧
      ∀ j f, j < 16 → s.coexGroup j = some (g % 4) → f ∈ (t.tx j).frames → f.granted = none) ∧
  (∀ (s : State) (pin : Change) (g : Nat), pin.on = s.flag F.TXF_COEX_GRP_GNT_POL (g % 4) → s.grantActive (g % 4) = true →
    37 ≤ pin.held → s.fld F.TXF_COEX_GRP_GNT_HOLD (g % 4) ≠ 0 → Completes (.grantWithdrawal pin g) s fun t =>
      t.grantActive (g % 4) = false ∧ SMap.find? t.txf.gntFrom (g % 4) = some t.clp.now ∧ t.clp.now = s.clp.now + pin.dt + 33 ∧
        t.txf.chains = s.txf.chains) ∧
  (∀ (s : State) (pin : Change) (g at_ : Nat), pin.on = s.flag F.TXF_COEX_GRP_GNT_POL (g % 4) → s.grantActive (g % 4) = false →
    SMap.find? s.txf.gntFrom (g % 4) = some at_ →
    (∀ j f, s.coexGroup j = some (g % 4) → f ∈ (s.tx j).frames → f.stage = .held) →
    Completes (.grantWithdrawal pin g) s fun t =>
      t.clp.now = max (s.clp.now + pin.dt) (at_ + 1000 * s.fld F.TXF_COEX_GRP_GNT_HOLD (g % 4)) ∧
        SMap.find? t.txf.gntFrom (g % 4) = none ∧
        ∀ j f, j < 16 → s.coexGroup j = some (g % 4) → f ∈ (t.tx j).frames → f.granted = none) ∧
  (∀ (s : State) (pin : Change) (g : Nat), (pin.on != s.flag F.TXF_COEX_GRP_GNT_POL (g % 4)) ≠ s.grantActive (g % 4) → pin.held ≤ 28 →
    Completes (.grantWithdrawal pin g) s fun t => t = s.after pin.dt)) ∧
  (∀ (s : State) (j id g n : Nat) (f : TxFrame) (pin : PinLevel), s.txFrame j id = some f → s.coexGroup j = some g → f.launch = none →
    s.heldReady f = true → s.locked j = true → s.carTaken j f = false → s.heldFrames j = [f] →
    ((if 33 ≤ pin.since then pin.level else pin.before) != s.flag F.TXF_COEX_GRP_GNT_POL g) = false → s.sampleShort j g = false → f.origin = .runnel n → f.charged = [] → f.req = none →
    Completes (.grantSample j id pin) s fun t => ∃ v : State, t = v.completeTx j f .txNoGrant ∧ v.clp.now = t.clp.now ∧
      t.flag F.TXF_EVT_NO_GRANT j = true ∧
        t.fld F.TXF_CNT_NO_GRANT_COUNT j = min 0xFFFFFFFF (s.fld F.TXF_CNT_NO_GRANT_COUNT j + 1) ∧
          (t.tx j).frames = (s.tx j).frames.filter (fun h => h.id != f.id) ∧ (t.tx j).pa = (s.tx j).pa ∧
            (t.tx j).txsw = (s.tx j).txsw ∧ (t.tx j).lnaFree = (s.tx j).lnaFree ∧ (t.tx j).lnaHold = (s.tx j).lnaHold)

/-- The life of a frame in its launch unit completes: its commit point and its lateness (R80, R85, R86), its switch and amplifier pins (R89),
RF start and last RF (R84, R119). A frame that completes leaves its launch unit, and no other does (R122, R372). Where the manual leaves a
point open this rests on the model's choices: log entries 2, 5, 18, 19, 22, 23, 97, 100, 101, 110, 114, 139, 140, 144, 148, 156, 158. -/
def Obligations.LaunchCommands : Prop :=
  ((∀ (s : State) (j id : Nat) (f : TxFrame), s.txFrame j id = some f → s.heldReady f = true → s.pwr.phase ≠ .failing →
    f.launch = none → s.flag F.TXF_CAR_CFG_EN j f.desc.carrier = true → centreOk (s.tx j).centre = true → s.carTaken j f = true →
    f.waited = false → Completes (.commitPoint j id) s fun t =>
      t.fld F.TXF_CNT_CAR_WAIT_COUNT j = min 0xFFFFFFFF (s.fld F.TXF_CNT_CAR_WAIT_COUNT j + 1)) ∧
  (∀ (s : State) (j id : Nat) (f : TxFrame), s.txFrame j id = some f → s.heldReady f = true → s.pwr.phase ≠ .failing →
    f.launch = none → s.flag F.TXF_CAR_CFG_EN j f.desc.carrier = true → centreOk (s.tx j).centre = true → s.carTaken j f = false →
    s.carBefore j f = false → s.locked j = true → s.grantOk j f false = true →
    s.fresh.2.charterVerdict j f.desc.carrier (s.frameMode j f.desc.carrier f.modeSet).1 (s.fresh.1.testBit 0) = none →
    Completes (.commitPoint j id) s fun t =>
      ∃ h ∈ (t.tx j).frames, h.id = id ∧ h.stage = .committed ∧ h.paLead = s.paLead j ∧
        h.passed = s.clp.now ∧ h.rfFull = s.fullNs + (s.paLead j + 2) * 1000) ∧
  (∀ (s : State) (j id l : Nat) (f : TxFrame), s.txFrame j id = some f → s.latest j f = some l → f.stage = .held →
    (∀ n t, f.origin ≠ .spec n t) → l - (s.paLead j + 2) * 1000 < s.fullNs → s.flag F.TXF_CHAIN_STAT_SYN_FAULT j = false →
    centreOk (s.tx j).centre = true → Completes (.txLate j id) s fun t =>
      t = (s.advanceToFull (l - (s.paLead j + 2) * 1000)).completeTx j f .txLate) ∧
  (∀ (s : State) (j id : Nat) (f : TxFrame), s.txFrame j id = some f → f.stage = .committed → (s.tx j).txsw = true →
    Completes (.txswAssert j id) s fun t => t.clp.now = max s.clp.now (s.rfAt f - (f.paLead + 1) * 1000) ∧
      ∃ h ∈ (t.tx j).frames, h.id = id ∧ h.stage = .switched) ∧
  (∀ (s : State) (j id : Nat) (f : TxFrame), s.txFrame j id = some f → f.stage = .committed → (s.tx j).txsw = false →
    Completes (.txswAssert j id) s fun t => (t.tx j).txsw = true) ∧
  (∀ (s : State) (j id : Nat) (f : TxFrame), s.txFrame j id = some f → f.stage = .switched → s.locked j = true →
    Completes (.paAssert j id) s fun t => (t.tx j).pa = true ∧ t.clp.now = max s.clp.now (s.rfAt f - f.paLead * 1000)) ∧
  (∀ (s : State) (j id : Nat) (f : TxFrame), s.txFrame j id = some f → f.stage = .powered →
    let u := s.advanceTo (s.rfAt f)
    (s.memReady 0 = false → Completes (.rfStart j id) s fun t => t = u) ∧ (s.memReady 0 = true →
    (∀ cells, u.chainFor f.desc.cell f.desc.len = some cells → (u.readFrame cells f.desc).2.1 = false →
      Completes (.rfStart j id) s fun t => ∃ h ∈ (t.tx j).frames, h.id = id ∧ h.stage = .radiating) ∧
    (∀ cells, u.chainFor f.desc.cell f.desc.len = some cells → (u.readFrame cells f.desc).2.1 = true →
      Completes (.rfStart j id) s fun t => t = (u.readFrame cells f.desc).2.2.2.recall j f .poisoned) ∧
    (u.chainFor f.desc.cell f.desc.len = none → Completes (.rfStart j id) s fun t => t = u.recall j f .internal false))) ∧
  (∀ (s : State) (j id : Nat) (f : TxFrame), s.txFrame j id = some f → f.stage = .radiating →
    let u := ((s.advanceTo f.endAt).meterStop f.id).nearUpdate.pinsEnd j f.endAt f.paLag
    (f.badAt ≠ none → Completes (.lastRf j id) s fun t => t = (u.completeTx j f .poisoned).applyHeld j) ∧
    (∀ st, f.badAt = none → f.fate = some st → Completes (.lastRf j id) s fun t => t = (u.completeTx j f st).applyHeld j) ∧
    (f.badAt = none → f.fate = none → f.desc.ackReq = false → Completes (.lastRf j id) s fun t =>
      t = (((u.bump F.TXF_CNT_SENT_COUNT 1 j).bump F.OBS_CAR_SENT_COUNT 1 j f.desc.carrier).completeTx j f .ok).applyHeld j))) ∧
  (∀ (s : State) (j : Nat) (f : TxFrame) (st : Status) (rssi : Nat) (n : Nat), f.origin = .runnel n → f.req = none → f.charged = [] →
    ((s.completeTx j f st rssi).tx j).frames = (s.tx j).frames.filter fun g => g.id != f.id)

/-- The pins, blanking and the loss of LOCK complete: R87, R89, R91, R94, R96. Where the manual leaves a point open this rests on the model's
choices: log entries 2, 5, 6, 97, 111, 112. -/
def Obligations.PinCommands : Prop :=
  (∀ (s : State) (j : Nat), (s.tx j).pa = true → (s.tx j).frames = [] → Completes (.paRelease j) s fun t =>
    (t.tx j).pa = false ∧ (t.tx j).coexHold = [] ∧ t.clp.now = max s.clp.now (s.tx j).paOff) ∧
  (∀ (s : State) (j : Nat), (s.tx j).txsw = true → (s.tx j).pa = false → (s.tx j).frames = [] → Completes (.txswRelease j) s fun t =>
    (t.tx j).txsw = false ∧ t.clp.now = max s.clp.now (s.tx j).swOff ∧ (t.tx j).blanks.all (fun b => b.endAt.isSome) = true) ∧
  (∀ (s : State) (j : Nat), (s.tx j).lnaFree = false → (s.tx j).txsw = false → (s.tx j).frames = [] →
    Completes (.lnaActive j) s fun t => (t.tx j).lnaFree = true ∧ t.clp.now = max s.clp.now (s.tx j).lnaOn ∧
      t.lnaOn j = (((s.tx j).lnaHold.map fun h => h.1).getD (s.flag F.TXF_FEM_CTL_LNA_EN j) && decide (1 ≤ s.chainState j))) ∧
  (∀ (s : State) (j at_ : Nat) (b : BlankInt), b ∈ (s.tx j).blanks → b.endAt = some at_ →
    (∀ c ∈ (s.tx j).blanks, ∀ e, c.endAt = some e → at_ ≤ e) →
    Completes (.blankingEnd j) s fun t => t.clp.now = max s.clp.now at_ ∧
      ∃ c ∈ (s.tx j).blanks, c.endAt = some at_ ∧ (t.tx j).blanks = (s.tx j).blanks.erase c) ∧
  (∀ (s : State) (dt j : Nat), s.locked j = true → (s.tx j).frames = [] → Completes (.lockLoss dt j) s fun t =>
    t = (s.advance dt).setFld F.TXF_CHAIN_STAT_LOCK 0 j) ∧
  (∀ (s : State) (j : Nat), (s.tx j).polDue = true → s.femIdle j = true → Completes (.femPolApply j) s fun t =>
    (t.tx j).polDue = false ∧ (t.tx j).pol = some (s.flag F.TXF_FEM_CTL_PA_POL j, s.flag F.TXF_FEM_CTL_TXSW_POL j,
      s.flag F.TXF_FEM_CTL_LNA_POL j)) ∧
  (∀ (s : State) (j : Nat) (p w l : Bool), (s.tx j).pol = some (p, w, l) → s.txState j = 0 →
    s.femPins j = (p, w, s.lnaOn j != l))

/-- The charter's fuses and meters complete: a blow, its end, the digest, the load after reset, and a rotation of the bins (R108–R110, R116).
Where the manual leaves a point open this rests on the model's choices: log entries 2, 5, 6, 8, 114, 137, 138, 139, 140, 148, 155. -/
def Obligations.CharterFuseCommands : Prop :=
  (∀ (s : State), let b := s.fld F.CHT_FPROG_ADDR_BIT
    s.flag F.CHT_STAT_FPROG_BUSY = false → fuseReserved b = false → s.fuse b = false →
    (s.fuse 0 = true → 64 ≤ b → (b - 64) % 192 ≠ 0) → s.released = true → Completes (.fuseBlow 129) s fun t =>
      t.flag F.CHT_STAT_FPROG_BUSY = true ∧ t.cht.blow = some (b, s.clp.now + 12000) ∧ t.cht.fuses = s.cht.fuses) ∧
  (∀ (s : State), let b := s.fld F.CHT_FPROG_ADDR_BIT
    s.flag F.CHT_STAT_FPROG_BUSY = false → (fuseReserved b = true ∨ s.fuse b = true ∨ (s.fuse 0 = true ∧ 64 ≤ b ∧ (b - 64) % 192 = 0)) →
    s.released = true → Completes (.fuseBlow 129) s fun t => t = s.raise F.CHT_EVT_FUSE_REFUSED) ∧
  (∀ (s : State) (req : Nat), req ≠ 129 → s.released = true → Completes (.fuseBlow req) s fun t => t = s) ∧
  (∀ (s : State) (b at_ : Nat), s.cht.blow = some (b, at_) → Completes .fuseDone s fun t => ∃ u : State, t = u.recheck ∧
    u.cht.fuses = insertSorted b s.cht.fuses ∧ u.cht.blow = none ∧ u.flag F.CHT_STAT_FPROG_BUSY = false ∧ u.flag F.CHT_EVT_FUSE_DONE = true ∧
      max s.clp.now at_ ≤ u.clp.now ∧ u.clp.now ≤ max s.clp.now (at_ + 10000) ∧
      ∃ w ≤ 50000, u.cht.digest = some (min (at_ + w) (s.cht.digest.getD (at_ + w)))) ∧
  (∀ (s : State) (at_ w : Nat), s.cht.digest = some at_ → w < 8 → Completes .digestDone s fun t =>
    t.fld F.CHT_DIGEST_DIGEST w = ofLe (((sha256 s.fuseImage).drop (4 * w)).take 4) % 2 ^ 32 ∧ t.cht.digest = none) ∧
  (∀ (s : State), s.pwr.phase = .run → s.flag F.CHT_STAT_LOADED = false → Completes .charterLoaded s fun t =>
    t.flag F.CHT_STAT_LOADED = true ∧ t.clp.now = max s.clp.now (s.pwr.released + 100000)) ∧
  (∀ (s : State) (e : Nat), e < 16 → Completes .binRotation s fun t =>
    t.cht.rotations = (s.cht.rotations + 1) % 60 ∧ t.cht.binTick = s.cht.binTick + 1966080 ∧ t.bin e 0 = 0)

/-- MAC_ENABLE, the slots of the MAC slot engine and the end of an acknowledgement window complete: R130, R132, R134, R151, R159. Where the
manual leaves a point open this rests on the model's choices: log entries 2, 5, 31, 34, 98, 132, 141, 142, 156, 157. -/
def Obligations.MacCommands : Prop :=
  (∀ (s : State) (d : Word), let u := s.setReg .MAC_CTL 0 0 (d &&& 0x7E)
    s.flag F.MAC_CTL_EN = false → u.profileOk = true → s.released = true → Completes (.macEnable d) s fun t =>
      t = ((u.setFld F.MAC_CTL_EN 1).setFld F.MAC_STAT_PROFILE_BAD 0).macUpdate) ∧
  (∀ (s : State) (d : Word), let u := s.setReg .MAC_CTL 0 0 (d &&& 0x7E)
    s.flag F.MAC_CTL_EN = false → u.profileOk = false → s.released = true → Completes (.macEnable d) s fun t =>
      t.flag F.MAC_CTL_EN = false ∧ t.flag F.MAC_STAT_PROFILE_BAD = true ∧ t.flag F.MAC_EVT_PROFILE_BAD = true) ∧
  (∀ (s : State) (a : Nat), s.mac.nextAsn = some a → s.flag F.MAC_STAT_RUNNING = true →
    s.memsReady [5, 6] = true → Completes .slotResolve s fun t =>
    ∃ (u : State) (cs : List (Nat × Nat)), u.mac.nextAsn = some ((a + 1) % 2 ^ 40) ∧
      u.mac.resolved = some (a, u.cellChains cs [0, 1] a) ∧ u.mac.unworked = !u.worksSlot a ∧
      u.clp.now = s.clp.now + s.nsUntilFull (s.slotStart a - 1000000) ∧ t = if u.worksSlot a then u.slotWork cs a else u) ∧
  (∀ (s : State) (a listen : Nat), s.mac.resolved = some (a, listen) → Completes .slotStart s fun t =>
    t.mac.work = some (a, listen) ∧ t.mac.resolved = none ∧
      t.flag F.MAC_STAT_PAUSED = ((s.advanceToFull (s.slotStart a)).handoverTake a).inPause a) ∧
  (∀ (s : State) (h : Nat), s.mac.resolved = none → s.twn.handing = some h → s.fld F.TWN_STAT_ROLE = 2 → s.asnValid = true →
    Completes .slotStart s fun t => t = (s.advanceToFull (s.slotStart h)).handoverTake h) ∧
  (∀ (s : State) (a listen : Nat), s.mac.work = some (a, listen) → s.twn.expected = [] →
    s.inPause a = true → s.inPause ((a + 1) % 2 ^ 40) = false → Completes .slotEnd s fun t =>
      t.mac.work = none ∧ t.mac.last = some (a, listen) ∧ t.flag F.MAC_STAT_PAUSED = false ∧ t.flag F.MAC_PAUSE_ARM = false ∧
        t.flag F.MAC_EVT_PAUSE_END = true) ∧
  (∀ (s : State) (j id : Nat) (f : TxFrame), s.txFrame j id = some f → f.stage = .awaitAck →
    let u := s.advanceToFull (f.ackTo + 1)
    Completes (.ackWindowClose j id) s fun t => t =
      (if u.candidates j f.desc.carrier f.ackFrom f.ackTo then u.putTx j { f with closed := true }
        else u.ackEnd j { f with closed := true }))

/-- Spillway's commands complete: R163, R167, R173, R175–R177, and the read of a sending slot ends or is too late (R165–R171). Where the
manual leaves a point open this rests on the model's choices: log entries 2, 32, 142, 143, 156, 158. -/
def Obligations.SpillwayCommands : Prop :=
  (∀ (s : State) (k : Nat), k < 4 → s.spwBusy = false → s.spwState k < 2 → s.spwCheck k = 0 →
    s.released = true → Completes (.spwLoad k) s fun t => t.spwState k = 1 ∧ t.fld F.SPW_STAT_ROUND k = 0 ∧ (t.spwS k).missing = [] ∧
      t.fld F.SPW_CMD_STAT_STATUS = Status.ok.code ∧ t.spw.busyTill ≤ t.clp.now + 1000) ∧
  (∀ (s : State) (k : Nat), k < 4 → s.spwBusy = false → s.spwState k < 2 → s.spwCheck k ≠ 0 →
    s.released = true → Completes (.spwLoad k) s fun t => t = s.spwResult .internal (s.spwCheck k)) ∧
  (∀ (s : State) (k : Nat), k < 4 → s.spwBusy = false → s.spwState k = 1 → s.fld F.SPW_GEOM_BLOCKS k ≠ 0 →
    s.released = true → Completes (.startFull k) s fun t => t.spwState k = 2 ∧ (t.spwS k).todo = List.range (s.fld F.SPW_GEOM_BLOCKS k) ∧
      (t.spwS k).manifest = true ∧ t.fld F.SPW_STAT_KIND k = 0 ∧
      t.fld F.SPW_STAT_ROUND k = (s.fld F.SPW_STAT_ROUND k + 1) % 2 ^ 16) ∧
  (∀ (s : State) (k : Nat), k < 4 → s.spwBusy = false → s.spwState k = 1 → (s.spwS k).missing ≠ [] →
    s.released = true → Completes (.startRepair k) s fun t => t.spwState k = 2 ∧ (t.spwS k).todo = (s.spwS k).missing ∧ (t.spwS k).missing = [] ∧
      t.fld F.SPW_STAT_KIND k = 1) ∧
  (∀ (s : State) (k base : Nat), k < 4 → base < 65536 → s.spwBusy = false → s.spwState k ≠ 0 →
    s.released = true → Completes (.merge k base) s fun t => (t.spwS k).missing = mergeSorted (s.spwS k).missing
      (((bitsOf (s.fld F.SPW_CMD_MASK_MASK)).map (base + ·)).filter (· < s.fld F.SPW_GEOM_BLOCKS k))) ∧
  (∀ (s : State) (k : Nat), k < 4 → s.spwBusy = false → s.spwState k ≠ 0 →
    s.released = true → Completes (.clearMissing k) s fun t => (t.spwS k).missing = [] ∧ (t.spwS k).todo = (s.spwS k).todo) ∧
  (∀ (s : State) (k : Nat), k < 4 → s.spwBusy = false → s.spwState k = 2 →
    s.released = true → Completes (.suspend k) s fun t => t.spwState k = 3 ∧ t.spwS k = s.spwS k) ∧
  (∀ (s : State) (k : Nat), k < 4 → s.spwBusy = false → s.spwState k = 3 →
    s.released = true → Completes (.resume k) s fun t => t.spwState k = 2 ∧ t.spwS k = s.spwS k) ∧
  (∀ (s : State) (k : Nat), k < 4 → s.spwBusy = false → s.released = true → Completes (.abort k) s fun t =>
    t.spwState k = 0 ∧ (t.spwS k).missing = [] ∧ (t.spwS k).todo = []) ∧
  (∀ (s : State) (k : Nat), k < 4 → s.spwBusy = false → s.spwState k ≠ 1 → s.released = true → Completes (.startFull k) s fun t =>
    t.fld F.SPW_CMD_STAT_STATUS = Status.busy.code ∧ t.spwState k = s.spwState k ∧ t.spwS k = s.spwS k) ∧
  (∀ (s : State) (k : Nat), s.spwBusy = true → s.released = true → Completes (.startFull k) s fun t =>
    t = s.raise F.SPW_EVT_CMD_IGNORED) ∧
  (∀ (s : State) (dt k b : Nat) (x : SpwSlot) (w : FlsOp), (s.after dt).fls.busy = some w → w.src = 2 →
    w.session = k → (s.spwS k).slots.find? (fun y => y.asn == w.asn) = some x → x.block = some b → x.stray = false →
    (s.after dt).fullNs + 100000 ≤ (s.after dt).slotStart x.asn + s.fld F.MAC_TMPL_0_TX_OFFSET * 1000 →
    (∃ e ∈ s.spwOn k x.chains, s.beaconOn x.asn e.1 e.2 = false) →
    Completes (.spwFlashReadDone dt k) s fun t => (t.spwS k).slots = (s.spwS k).slots.filter (·.asn != x.asn) ∧
      (t.spwS k).todo = (s.spwS k).todo.filter (· != b)) ∧
  (∀ (s : State) (k : Nat) (x : SpwSlot) (xs : List SpwSlot), (s.spwS k).slots = x :: xs →
    Completes (.spwSlotSkip k) s fun t => (t.spwS k).slots = xs.filter (·.asn != x.asn) ∧ t.flag F.SPW_EVT_FLASH_LATE = true)

/-- Sluice's stages complete: the header stage and the decision (R185), the commit (R202), a wired packet (R186), the ager's visit (R214), the
loss of a scan lock (R221) and a seed (R193). Where the manual leaves a point open this rests on the model's choices: log entries 2, 5,
43, 45, 68, 118, 128, 136, 144, 145, 146, 154, 157, 159. -/
def Obligations.SluiceCommands : Prop :=
  (∀ (s : State) (id : Nat) (f : RxFrame), s.rx id = some f → f.hold = none → s.headerReady f = true →
    s.memsReady (1 :: keyMems) = true → Completes (.sluiceHeader id) s fun t => t = s.headerStage id f) ∧
  (∀ (s : State) (id : Nat) (f : RxFrame) (h : RxHold), s.rx id = some f → f.hold = some h → h.decision = none →
    s.spanReady f h = true → s.memReady 1 = true → Completes (.sluiceHeader id) s fun t =>
      ∃ g u, g.decision.isSome = true ∧ g.src = h.src ∧ s.decideFrame f h = (g, u) ∧
        t = u.setHold id { g with headRuns := false }) ∧
  (∀ (s : State) (id : Nat) (f : RxFrame) (h : RxHold), s.rx id = some f → f.hold = some h → h.decision ≠ none →
    h.poisoned = false → s.memsReady [1, 5] = true → s.oldestOfRill id f = true → f.closed = some .fcsFail → Completes (.sluiceCommit id) s fun t => t = s.finishRx id f h .fcsFail) ∧
  (∀ (s : State) (id : Nat) (f : RxFrame) (h : RxHold), s.rx id = some f → f.hold = some h → h.decision ≠ none →
    h.poisoned = false → s.memsReady [1, 5] = true → s.oldestOfRill id f = true → f.closed = some .blanked → Completes (.sluiceCommit id) s fun t => t = s.finishRx id f h .blanked) ∧
  (∀ (s : State) (id : Nat) (f : RxFrame) (h : RxHold), s.rx id = some f → f.hold = some h → h.decision ≠ none →
    h.poisoned = false → s.memsReady [1, 5] = true → s.oldestOfRill id f = true → f.closed = some .ok → verdictDue f h = false → Completes (.sluiceCommit id) s fun t => t = (s.hear f).commitGood id f h) ∧
  (∀ (s : State) (id : Nat) (f : RxFrame) (h : RxHold), s.rx id = some f → f.hold = some h →
    f.closed = some .ok → verdictDue f h = true → Completes (.sluiceCommit id) s fun t => t = s) ∧
  (∀ (s : State) (id : Nat) (f : RxFrame) (h : RxHold), s.rx id = some f → f.hold = some h → s.oldestOfRill id f = false →
    Completes (.sluiceCommit id) s fun t => t = s) ∧
  (∀ (s : State) (id : Nat) (f : RxFrame) (h : RxHold), s.rx id = some f → f.hold = some h → h.decision ≠ none →
    h.poisoned = true → s.memsReady [1, 5] = true → s.oldestOfRill id f = true → (f.closed = some .fcsFail ∨ f.closed = some .blanked) →
    Completes (.sluiceCommit id) s fun t => t = s.finishRx id f h .poisoned) ∧
  (∀ (s : State) (port : Nat) (p : Wired), s.slc.wired.find? (fun q => q.port == port) = some p →
    s.memsReady [0, 1] = true → Completes (.wiredPacket port) s fun t => ∃ u : State, u.slc.wired = s.slc.wired.erase p ∧ t = u.takeWired p) ∧
  (∀ (s : State), s.flag F.SLC_AGE_CTL_EN = true → s.memReady 1 = true → Completes .agerVisit s fun t => ∃ u : State,
    u.slc.agerLast = s.slc.agerLast + s.agerStep ∧ u.slc.agerAt = s.slc.agerAt ∧
      u.clp.now = max s.clp.now (s.slc.agerLast + s.agerStep) ∧ t = u.agerVisit) ∧
  (∀ (s : State) (e : Entry) (u : State), s.readEntry s.slc.agerAt = (some e, u) → u.isAged s.slc.agerAt e = false →
    s.agerVisit = u.agerNext) ∧
  (∀ (s : State) (req due : Nat), s.slc.lock = some (req, due) → Completes .scanTimeout s fun t => ∃ u : State,
    u.slc.lock = none ∧ u.flag F.SLC_STAT_SCAN_LOCKED = false ∧ u.flag F.SLC_EVT_SCAN_LOST = true ∧ t = u.siltPost 113 req) ∧
  (∀ (s : State) (d : Word), s.released = true → Completes (.relocSeedWrite d) s fun t =>
    t.slc.lfsr = BitVec.ofNat 32 (max 1 (d.toNat % 2 ^ 32)) ∧ t.fld F.SLC_RELOC_SEED_SEED = d.toNat % 2 ^ 32)

/-- The table commands complete, the host's (requester 128) with their result in SLC_RES_W (R217–R219, R221). Where the manual leaves a point
open this rests on the model's choices: log entries 2, 5, 68, 92, 127. -/
def Obligations.TableCommands : Prop :=
  (∀ (s u : State) (ws : List Word) (i : Nat) (x : Entry), let r := withOp 1 ws
    s.lookup (entryOf (r.drop 2)).e0 (entryOf (r.drop 2)).cls = (.hit i x, u) → u.slc.lock = none →
    s.released = true → s.memReady 1 = true → s.flag F.SLC_CMD_STAT_BUSY = false → Completes (.search 128 ws) s fun t => t.mem = u.mem ∧ t.flag F.SLC_CMD_STAT_BUSY = false ∧
      ∀ k, k < 6 → t.reg .SLC_RES_W k 0 = BitVec.ofNat 64 ((resultRec .ok false false i (r.getD 0 0) 0 x).getD k 0)) ∧
  (∀ (s u : State) (ws : List Word), let r := withOp 1 ws
    s.lookup (entryOf (r.drop 2)).e0 (entryOf (r.drop 2)).cls = (.miss, u) → u.slc.lock = none →
    s.released = true → s.memReady 1 = true → s.flag F.SLC_CMD_STAT_BUSY = false → Completes (.search 128 ws) s fun t => t.mem = u.mem ∧ bits (t.reg .SLC_RES_W 0 0).toNat 58 6 = Status.notFound.code) ∧
  (∀ (s u : State) (ws : List Word) (req i : Nat) (x : Entry), let r := withOp 1 ws
    s.lookup (entryOf (r.drop 2)).e0 (entryOf (r.drop 2)).cls = (.hit i x, u) → u.slc.lock = none → req ≠ 128 → u.pwr.phase ≠ .failing →
    s.released = true → s.memReady 1 = true → Completes (.search req ws) s fun t => t = u.enginePush (bits (r.getD 0 0) 52 8)
      ((resultRec .ok false false i (r.getD 0 0) 0 x).map fun w => mkWord (BitVec.ofNat 64 w))) ∧
  (∀ (s : State) (ws : List Word), let r := withOp 2 ws
    s.slc.lock = none → (r.getD 0 0).testBit 50 = false → s.liveSlots (bits (r.getD 1 0) 0 20) (min 524288 (bits (r.getD 1 0) 0 20 + 4096)) = [] →
    s.released = true → s.memReady 1 = true → s.flag F.SLC_CMD_STAT_BUSY = false → Completes (.next 128 ws) s fun t => t.mem = s.mem ∧ bits (t.reg .SLC_RES_W 0 0).toNat 58 6 = Status.notFound.code ∧
      t.reg .SLC_RES_W 1 0 = BitVec.ofNat 64
        (max (bits (r.getD 1 0) 0 20) (min 524288 (bits (r.getD 1 0) 0 20 + 4096)) % 2 ^ 20)) ∧
  (∀ (s u : State) (ws : List Word) (i : Nat) (x : Entry), let r := withOp 2 ws
    s.slc.lock = none → (r.getD 0 0).testBit 50 = false →
    s.scan (r.getD 0 0) (s.liveSlots (bits (r.getD 1 0) 0 20) (min 524288 (bits (r.getD 1 0) 0 20 + 4096))) = (some (some (i, x)), u) →
    u.slc.lock = none → s.released = true → s.memReady 1 = true → s.flag F.SLC_CMD_STAT_BUSY = false → Completes (.next 128 ws) s fun t => t.mem = u.mem ∧ bits (t.reg .SLC_RES_W 0 0).toNat 58 6 = Status.ok.code ∧
      t.reg .SLC_RES_W 1 0 = BitVec.ofNat 64 ((i + 1) % 2 ^ 20) ∧ t.reg .SLC_RES_W 2 0 = BitVec.ofNat 64 x.e0) ∧
  (∀ (s u : State) (ws : List Word) (a : Inserted), let r := withOp 3 ws
    badPort (entryOf (r.drop 2)) = false → (s.bump F.SLC_CNT_LOOKUP_COUNT).insertEntry (entryOf (r.drop 2)) = (a, u) →
    a.status ≠ .internal → u.slc.lock = none → s.released = true → s.memReady 1 = true → s.flag F.SLC_CMD_STAT_BUSY = false → Completes (.insert 128 ws) s fun t =>
      t.mem = u.mem ∧ bits (t.reg .SLC_RES_W 0 0).toNat 58 6 = a.status.code ∧
        t.reg .SLC_RES_W 2 0 = BitVec.ofNat 64 a.image.e0) ∧
  (∀ (s u : State) (ws : List Word) (i : Nat) (e : Entry), let r := withOp 4 ws
    let mask := bits (r.getD 1 0) 0 32
    let e' := updateFields.foldl (fun (e : Entry) f =>
      if mask.testBit f.1 then e.copyField (entryOf (r.drop 2)) f.2.1 f.2.2.1 f.2.2.2 else e) e
    badPort (entryOf (r.drop 2)) = false → s.lookup (entryOf (r.drop 2)).e0 (entryOf (r.drop 2)).cls = (.hit i e, u) →
    (u.writeEntry i e').slc.lock = none → s.released = true → s.memReady 1 = true → s.flag F.SLC_CMD_STAT_BUSY = false → Completes (.update 128 ws) s fun t =>
      t.mem = (u.writeEntry i e').mem ∧ bits (t.reg .SLC_RES_W 0 0).toNat 58 6 = Status.ok.code) ∧
  (∀ (s u : State) (ws : List Word) (i : Nat) (e : Entry), let r := withOp 5 ws
    s.lookup (entryOf (r.drop 2)).e0 (entryOf (r.drop 2)).cls = (.hit i e, u) →
    (e.pinned = false ∨ (r.getD 0 0).testBit 51 = true) → (u.invalidate i e).slc.lock = none →
    s.released = true → s.memReady 1 = true → s.flag F.SLC_CMD_STAT_BUSY = false → Completes (.delete 128 ws) s fun t =>
      t.mem = (u.invalidate i e).mem ∧ bits (t.reg .SLC_RES_W 0 0).toNat 58 6 = Status.ok.code) ∧
  (∀ (s u : State) (ws : List Word) (i : Nat) (e : Entry), let r := withOp 5 ws
    s.lookup (entryOf (r.drop 2)).e0 (entryOf (r.drop 2)).cls = (.hit i e, u) → e.pinned = true →
    (r.getD 0 0).testBit 51 = false → u.slc.lock = none → s.released = true → s.memReady 1 = true → s.flag F.SLC_CMD_STAT_BUSY = false → Completes (.delete 128 ws) s fun t =>
      t.mem = u.mem ∧ bits (t.reg .SLC_RES_W 0 0).toNat 58 6 = Status.busy.code) ∧
  (∀ (s : State) (req : Nat) (ws : List Word), s.slc.flush = none → s.released = true → s.memReady 1 = true →
    (req = 128 → s.flag F.SLC_CMD_STAT_BUSY = false) → Completes (.flushPort req ws) s fun t =>
    t.flag F.SLC_STAT_FLUSH_BUSY = true ∧ t.slc.flush.isSome = true) ∧
  (∀ (s : State) (ws : List Word), s.flag F.SLC_CMD_STAT_BUSY = true → s.released = true → s.memReady 1 = true →
    ∀ c ∈ [Instr.search 128 ws, .next 128 ws, .insert 128 ws, .update 128 ws, .delete 128 ws, .flushPort 128 ws],
      Completes c s fun t => t = s.raise F.SLC_EVT_CMD_IGNORED) ∧
  (∀ (s : State) (p : FlushPass), s.slc.flush = some p → Completes .flushPortDone s fun t => ∃ (u : State) (n : Nat),
    u.slc.flush = none ∧ u.flag F.SLC_STAT_FLUSH_BUSY = false ∧
      t = u.deliverResult p.req p.runnel (resultRec .ok false (u.holdsLock p.req) 0 p.tag n {}))

/-- Grotto's commands and their completion: R230, R239, R240. Where the manual leaves a point open this rests on the model's choices: log
entries 4, 6, 52, 116, 117, 125. -/
def Obligations.GrottoCommands : Prop :=
  (∀ (s : State) (i : Nat), ∀ p ∈ [(Instr.recon i, 1), (.enrol i, 2), (.refresh i, 3), (.sealRoot i, 4), (.grtLoad i, 5), (.provision i, 6),
      (.rekeyNet i, 7), (.importGroup i, 8), (.retireGroup i, 9), (.importOvr i, 10), (.clearOvr i, 11), (.exportPage i, 12),
      (.floorCommit i, 13), (.attest i, 14), (.grtBlow i, 15), (.debugExport i, 16)],
    s.flag F.GRT_CMD_STAT_BUSY = false → s.fresh.2.grtRefusal p.2 i = none →
    s.released = true → Completes p.1 s fun t =>
      t.flag F.GRT_CMD_STAT_BUSY = true ∧ ∃ c, t.grt.cmd = some c ∧ c.op = p.2 ∧ c.index = i ∧
        s.clp.now ≤ c.due ∧ c.due ≤ s.clp.now + grtBound p.2 i ∧ (c.ok = true ∧ c.reason = 0 ∨ c.ok = false ∧ c.reason = 4)) ∧
  (∀ (s : State) (i r : Nat), ∀ p ∈ [(Instr.recon i, 1), (.enrol i, 2), (.refresh i, 3), (.sealRoot i, 4), (.grtLoad i, 5), (.provision i, 6),
      (.rekeyNet i, 7), (.importGroup i, 8), (.retireGroup i, 9), (.importOvr i, 10), (.clearOvr i, 11), (.exportPage i, 12),
      (.floorCommit i, 13), (.attest i, 14), (.grtBlow i, 15), (.debugExport i, 16)],
    s.flag F.GRT_CMD_STAT_BUSY = false → s.fresh.2.grtRefusal p.2 i = some r →
    s.released = true → Completes p.1 s fun t =>
      t.grt.cmd.map (fun c => (c.op, c.index, c.ok, c.reason, c.out)) = some (p.2, i, false, r, []) ∧
        t.mem = s.mem ∧ t.grt.netKey = s.grt.netKey ∧ t.grt.groups = s.grt.groups ∧ t.grt.ovrs = s.grt.ovrs) ∧
  (∀ (s : State) (i : Nat), s.flag F.GRT_CMD_STAT_BUSY = true → s.released = true → Completes (.recon i) s fun t =>
    t = s.raise F.GRT_EVT_CMD_IGNORED) ∧
  (∀ (s : State) (i : Nat), s.flag F.GRT_CMD_STAT_BUSY = false → s.fresh.2.grtRefusal 4 i = none → s.released = true → Completes (.sealRoot i) s fun t =>
    t.grt.msgs = none ∧ t.flag F.GRT_STAT_MSG_HELD = false) ∧
  (∀ (s : State), s.flag F.GRT_CMD_STAT_BUSY = false → s.fresh.2.grtRefusal 15 0 = none → s.released = true → Completes (.grtBlow 0) s fun t =>
    t.grt.provLock = true ∧ t.grt.dbgLock = s.grt.dbgLock ∧ t.grt.jtagLock = s.grt.jtagLock) ∧
  (∀ (s u : State) (i k : Nat), s.flag F.GRT_CMD_STAT_BUSY = false → s.fresh.2.grtRefusal 8 i = none → s.released = true → KeysGood s →
    s.fresh.2.grtTransported = (some k, u) → Completes (.importGroup i) s fun t =>
      t.grp i = { (s.grp i).withKey k 0 with epoch := nextEpoch (s.grp i), state := 1, ctr := 1, pending := true } ∧
        (∀ g, g ≠ i → t.grp g = s.grp g) ∧ t.grt.ovrs = s.grt.ovrs ∧ (SMap.find? t.grt.exports (128 + i / 256)).isSome = true) ∧
  (∀ (s u : State) (i k : Nat), s.flag F.GRT_CMD_STAT_BUSY = false → s.fresh.2.grtRefusal 10 i = none → s.released = true → KeysGood s →
    s.fresh.2.grtTransported = (some k, u) → Completes (.importOvr i) s fun t =>
      (∃ m, t.cell i = { (s.cell i).withKey k m with epoch := nextEpoch (s.cell i), state := 1, ctr := 1, pending := true }) ∧
        (∀ q, q ≠ i → t.cell q = s.cell q) ∧ t.grt.groups = s.grt.groups ∧ (SMap.find? t.grt.exports (192 + i / 1024)).isSome = true) ∧
  (∀ (s u : State) (i : Nat), s.flag F.GRT_CMD_STAT_BUSY = false → s.released = true → s.fresh.2.grtTransported = (none, u) →
    ∀ p ∈ [(Instr.rekeyNet i, 7), (.importGroup i, 8), (.importOvr i, 10)], s.fresh.2.grtRefusal p.2 i = none → Completes p.1 s fun t =>
      t.grt.cmd.map (fun c => (c.op, c.ok, c.reason)) = some (p.2, false, 4) ∧ t.grt.netKey = s.grt.netKey ∧
        t.grt.groups = s.grt.groups ∧ t.grt.ovrs = s.grt.ovrs) ∧
  (∀ (s : State) (i : Nat), s.flag F.GRT_CMD_STAT_BUSY = false → s.fresh.2.grtRefusal 9 i = none → s.released = true → KeysGood s →
    Completes (.retireGroup i) s fun t =>
      t.grp i = { (s.grp i).withKey 0 0 with epoch := nextEpoch (s.grp i), state := 2 } ∧ (∀ g, g ≠ i → t.grp g = s.grp g) ∧
        t.grt.ovrs = s.grt.ovrs ∧ t.grt.sweeps = s.grt.sweeps ++ [⟨some i, s.clp.now + 3000, (s.grp i).key, s.clp.now⟩]) ∧
  (∀ (s : State) (i : Nat), s.flag F.GRT_CMD_STAT_BUSY = false → s.fresh.2.grtRefusal 11 i = none → s.released = true → KeysGood s →
    Completes (.clearOvr i) s fun t =>
      (∃ m, t.cell i = { (s.cell i).withKey 0 m with epoch := nextEpoch (s.cell i), state := 2 }) ∧ (∀ q, q ≠ i → t.cell q = s.cell q) ∧
        t.grt.groups = s.grt.groups ∧ t.grt.sweeps = s.grt.sweeps ++ [⟨none, s.clp.now + 3000, (s.cell i).key, s.clp.now⟩]) ∧
  (∀ (s u v w : State) (b : List Byte) (net att : Option Nat), s.flag F.GRT_CMD_STAT_BUSY = false → s.fresh.2.grtRefusal 5 64 = none →
    s.released = true → s.fresh.2.grtInput 64 = (b, u) → u.loadDevKey (b.take 24) = (net, v) → v.loadDevKey (sliceOf b 24 40) = (att, w) →
    Completes (.grtLoad 64) s fun t => t.grt.netKey = net ∧ t.grt.attKey = att ∧ t.flag F.GRT_STAT_NET_KEY = net.isSome ∧
      t.flag F.GRT_STAT_ATT_KEY = att.isSome ∧ t.grt.groups = s.grt.groups ∧ t.grt.ovrs = s.grt.ovrs) ∧
  (∀ (s u : State) (ovr : Bool) (p k : Nat) (b : List Byte), let n := if ovr then 1024 else 256
    let i := (if ovr then 192 else 128) + p
    let c := sliceOf b (32 * k) 32
    let old := s.slot ovr (n * p + k)
    s.flag F.GRT_CMD_STAT_BUSY = false → s.fresh.2.grtRefusal 5 i = none → s.released = true → p < 64 → k < n →
    s.fresh.2.grtInput (32 * n) = (b, u) → Completes (.grtLoad i) s fun t => let e := t.slot ovr (n * p + k)
      e.pending = old.pending ∧
      (∀ key, byteAt c 25 = 1 → keyUnwrap (keyBytes (s.grt.kwk.getD 0)) (c.take 24) = some key →
        e.key = ofBe key ∧ e.state = 1 ∧ e.epoch = byteAt c 24 ∧ e.floor = ofLe (sliceOf c 28 4) ∧ e.ctr = e.floor) ∧
      (byteAt c 25 = 1 → keyUnwrap (keyBytes (s.grt.kwk.getD 0)) (c.take 24) = none → e.key = 0 ∧ e.state = 0 ∧ e.epoch = 0) ∧
      (byteAt c 25 = 2 → e.key = 0 ∧ e.state = 2 ∧ e.epoch = byteAt c 24)) ∧
  (∀ (s u : State) (b : List Byte), s.flag F.GRT_CMD_STAT_BUSY = false → s.fresh.2.grtRefusal 6 0 = none → s.released = true →
    s.fresh.2.grtInput 16 = (b, u) → Completes (.provision 0) s fun t =>
      t.grt.netKey = some (ofBe b) ∧ t.grt.attKey = s.grt.attKey ∧ t.flag F.GRT_STAT_NET_KEY = true) ∧
  (∀ (s u : State) (b : List Byte), s.flag F.GRT_CMD_STAT_BUSY = false → s.fresh.2.grtRefusal 6 1 = none → s.released = true →
    s.fresh.2.grtInput 32 = (b, u) → Completes (.provision 1) s fun t =>
      t.grt.attKey = some (ofBe b) ∧ t.grt.netKey = s.grt.netKey ∧ t.flag F.GRT_STAT_ATT_KEY = true) ∧
  (∀ (s u : State) (i k : Nat), s.flag F.GRT_CMD_STAT_BUSY = false → s.fresh.2.grtRefusal 7 i = none → s.released = true →
    s.fresh.2.grtTransported = (some k, u) → Completes (.rekeyNet i) s fun t =>
      t.grt.netKey = some k ∧ t.grt.attKey = s.grt.attKey ∧ t.grt.groups = s.grt.groups ∧ t.grt.ovrs = s.grt.ovrs) ∧
  (∀ (s : State) (ovr : Bool) (p k : Nat), let n := if ovr then 1024 else 256
    let i := (if ovr then 192 else 128) + p
    let old := s.slot ovr (n * p + k)
    s.flag F.GRT_CMD_STAT_BUSY = false → s.fresh.2.grtRefusal 13 i = none → s.released = true → KeysGood s → p < 64 → k < n →
    Completes (.floorCommit i) s fun t => let e := t.slot ovr (n * p + k)
      e.floor = ((SMap.getD s.grt.exports i []).getD k (0, 0, 0)).2.2 ∧ e.pending = false ∧ e.key = old.key ∧ e.epoch = old.epoch ∧
        e.state = old.state ∧ e.ctr = old.ctr ∧ SMap.find? t.grt.exports i = none ∧
          (t.reg .GRT_FLOOR_DUE 0 0).getLsbD ((if ovr then 16 else 0) + p) = false) ∧
  (∀ (s : State) (c : GrtCmd), s.grt.cmd = some c → (c.op = 2 ∨ c.op = 3 → s.flag F.GRT_STAT_DRBG_OK = true) →
    s.memsReady (8 :: keyMems) = true → Completes .grtCmdDone s fun t => t.flag F.GRT_CMD_STAT_BUSY = false ∧ t.flag F.GRT_EVT_CMD_DONE = true ∧
      t.fld F.GRT_CMD_STAT_STATUS = (if c.ok then 0 else 0x3F) ∧ t.fld F.GRT_CMD_STAT_REASON = c.reason % 2 ^ F.GRT_CMD_STAT_REASON.w)

/-- Grotto's jobs, its random source and debug unlock: R230, R245, R246, R248, R251, R253, R258, R260. Where the manual leaves a point open
this rests on the model's choices: log entries 2, 4, 6, 49, 68, 116, 118, 145, 146, 154. -/
def Obligations.GrottoEvents : Prop :=
  (∀ (s : State) (w : Sweep) (ws : List Sweep), s.grt.sweeps = w :: ws → Completes .invalidationSweepDone s fun t =>
    t.grt.sweeps = ws ∧ t.clp.now = max s.clp.now w.due ∧
      (∀ e ∈ t.grt.cache, e ∈ s.grt.cache ∧ (w.group = some e.2.group →
        w.start + sweepReach (e.1 / 4) < e.2.made ∨ t.clp.now < w.start + sweepReach (e.1 / 4))) ∧
        ∀ e ∈ s.grt.cache, (∀ v ∈ s.grt.sweeps, v.group ≠ some e.2.group) → e ∈ t.grt.cache) ∧
  (∀ (s : State), s.grt.msgs.isSome = true → Completes .msgErase s fun t =>
    t.grt.msgs = none ∧ t.flag F.GRT_STAT_MSG_HELD = false ∧ t.clp.now = max s.clp.now s.grt.msgsDue) ∧
  (∀ (s : State) (id at_ : Nat) (f : RxFrame) (h : RxHold), s.rx id = some f → f.hold = some h → h.keyAt = some at_ →
    f.headWaits = false → Completes (.keyReady id) s fun t => t.clp.now = max s.clp.now at_ ∧
      t.rx id = some { f with hold := some { h with keyAt := none } }) ∧
  (∀ (s : State) (id at_ : Nat) (f : RxFrame) (h : RxHold), s.rx id = some f → f.hold = some h → h.keyAt = some at_ →
    f.headWaits = true → s.laneFor h.headSeq = true → s.memsReady keyMems = true → Completes (.keyReady id) s fun t =>
      t = (s.advanceTo at_).endCycle.headStart id h (decide (at_ < s.clp.now)) ∧
        (s.clp.now ≤ at_ → (∀ k, h.key = some k → s.keyReplaced k h.asked = false) → t.clp.now = at_ + 1 ∧ t.rx id = some { f with hold := some { h with keyAt := none, headRuns := true } })) ∧
  (∀ (s : State) (id at_ : Nat) (f : RxFrame) (h : RxHold), s.rx id = some f → f.hold = some h → h.keyAt = some at_ →
    f.headWaits = true → s.laneFor h.headSeq = false → Completes (.keyReady id) s fun t => t = s) ∧
  (∀ (s u : State) (id : Nat) (f : RxFrame) (h : RxHold) (m : MacFrame) (k k' : JobKey) (x : Nat), s.rx id = some f →
    f.hold = some h → f.mac = some m → h.key = some k → f.verifyWaits = true → s.laneFor f.endSeq = true →
    s.memsReady keyMems = true → s.endCycle.jobKey k = (.found k' x, u) → Completes (.verifyJobStart id) s fun t =>
      t = u.setHold id { h with
        headRuns := false, verify := .running (some k') k'.epoch (s.clp.now + 1) (verdictOf f m h k').1 (verdictOf f m h k').2 }) ∧
  (∀ (s : State) (id epoch start : Nat) (key : Option JobKey) (pass : Bool) (plain : List Byte) (f : RxFrame) (h : RxHold), s.rx id = some f →
    f.hold = some h → h.verify = .running key epoch start pass plain →
    let u := (s.fresh.2.advanceTo (start + s.fresh.1 % (201 + f.len))).bump F.GRT_CNT_VERIFY_COUNT
    (pass = true → Completes (.verifyDone id) s fun t =>
      t = (if plain = f.bytes then u else u.putFrame f.cells plain).setHold id
        { h with key := key.or h.key, verify := .verdict epoch true false plain }) ∧
    (pass = false → h.tag ≠ epoch → Completes (.verifyDone id) s fun t =>
      t = (u.bump F.GRT_CNT_KEY_STALE_COUNT).setHold id { h with verify := .verdict epoch false true plain }) ∧
    (∀ e v, pass = false → h.tag = epoch → u.entryEpoch (h.src.getD 0) = (some e, v) →
      Completes (.verifyDone id) s fun t => t = (v.bump (if e = epoch then F.GRT_CNT_MIC_FAIL_COUNT else F.GRT_CNT_KEY_STALE_COUNT)).setHold
        id { h with verify := .verdict epoch false (e != epoch) plain })) ∧
  (∀ (s : State) (j id n : Nat) (f : TxFrame), s.txFrame j id = some f → s.secOf f = .waiting n → s.laneFor n = true →
    s.memsReady (0 :: keyMems) = true → Completes (.protectJobStart j id) s fun t => t = s.endCycle.protectStart j f n) ∧
  (∀ (s v : State) (j id n c at_ : Nat) (f : TxFrame) (k : JobKey) (b : List Byte) (m : MacFrame), s.txFrame j id = some f →
    s.secOf f = .running n k c at_ →
    (s.fresh.2.advanceTo (at_ + s.fresh.1 % (1001 + f.desc.len))).protectRead j f = (b, some m, false, v) →
    let p := (ccmSeal k.key (v.fld F.MAC_EUI_EUI64) c f.desc.sec (b.take (m.auxAt + 1) ++ leBytes 4 c ++ b.drop (m.auxAt + 5))
      m.bodyAt m.bodyEnd)
    Completes (.protectDone j id) s fun t =>
      t = ((((v.putFrame ((v.chainFor f.desc.cell f.desc.len).getD []) p).bump F.GRT_CNT_PROTECT_COUNT).setSec j f .done).protectArrive j f)) ∧
  (∀ (s : State), s.flag F.GRT_STAT_DRBG_OK = true → Completes .maskRefresh s fun t => ∃ u : State,
    u.grt.maskAt = s.grt.maskAt + 10000000 ∧ u.clp.now = max s.clp.now (s.grt.maskAt + 10000000) ∧
      t = u.redraw (s.grt.ovrs.map fun (e : Nat × KeySlot) => e.1)) ∧
  (∀ (s : State), 65536 ≤ s.grt.requests → Completes .drbgReseed s fun t => t.grt.requests = 0 ∧
    t.grt.seeds = s.grt.seeds + 1 ∧ t.regs = s.regs ∧
      (t.grt.drbgKey, t.grt.drbgV) = drbgUpdate s.grt.drbgKey s.grt.drbgV (Config.entropy s.grt.seeds).toNat) ∧
  (∀ (s : State) (dt : Nat), Completes (.drbgHealthFail dt true) s fun t =>
    t.flag F.GRT_STAT_DRBG_OK = false ∧ t.flag F.GRT_EVT_DRBG_FAIL = true) ∧
  (∀ (s : State) (dt : Nat), Completes (.drbgHealthFail dt false) s fun t => t.flag F.GRT_STAT_DRBG_OK = true ∧
    (s.grt.chalWait = true → s.grt.wrong < 3 → t.grt.chal = some ((s.after dt).randN 4).1 ∧ t.grt.chalWait = false) ∧
      (3 ≤ s.grt.wrong → t.grt.chal = s.grt.chal)) ∧
  (∀ (s : State) (dt : Nat), s.grt.wrong < 3 → s.flag F.GRT_STAT_DRBG_OK = true → Completes (.unlockChal dt) s fun t =>
    t.grt.chal = some ((s.after dt).randN 4).1) ∧
  (∀ (s : State) (dt : Nat), s.grt.wrong < 3 → s.flag F.GRT_STAT_DRBG_OK = false → Completes (.unlockChal dt) s fun t =>
    t.grt.chalWait = true ∧ t.grt.chal = s.grt.chal) ∧
  (∀ (s : State) (dt : Nat), 3 ≤ s.grt.wrong → Completes (.unlockChal dt) s fun t => t = s.after dt) ∧
  (∀ (s : State) (dt c d : Nat) (resp : List Byte), s.grt.chal = some c → s.grt.dbg = some d →
    hmacSha256 (beBytes 32 d) ([0x47, 0x4C, 0x55] ++ beBytes 32 c) = resp → Completes (.unlockResp dt resp) s fun t =>
      t.flag F.GRT_STAT_UNLOCKED = true ∧ t.grt.chal = none ∧ t.grt.wrong = s.grt.wrong) ∧
  (∀ (s : State) (dt c d : Nat) (resp : List Byte), s.grt.chal = some c → s.grt.dbg = some d →
    hmacSha256 (beBytes 32 d) ([0x47, 0x4C, 0x55] ++ beBytes 32 c) ≠ resp → Completes (.unlockResp dt resp) s fun t =>
      t.flag F.GRT_STAT_UNLOCKED = s.flag F.GRT_STAT_UNLOCKED ∧ t.grt.chal = none ∧ t.grt.wrong = s.grt.wrong + 1 ∧
        t.flag F.GRT_EVT_DEBUG_FAIL = true)

/-- The integer instructions (R263, R276, R277): a legal one of a Ready thread gives its destination its result, retires, and leaves all else
as it was. Where the manual leaves a point open this rests on the model's choices: log entries 77, 78, 79, 119, 120, 160. -/
def Obligations.OcellInteger : Prop :=
  ∀ (s : State) (t w : Nat), Issues t w s →
    let a := s.g t (opRA w)
    let b := s.g t (opRB w)
    let d := s.g t (opRD w)
    let gives (c : Instr) (v : Word) : Prop :=
      Completes c s (ThreadOnly t (retiredAt ((s.thr t).setReg (opRD w) v) (nextPc (s.thr t))) s)
    (fmtA w = true → gives (.add t w) (a + b) ∧ gives (.sub t w) (a - b) ∧ gives (.and t w) (a &&& b) ∧ gives (.or t w) (a ||| b) ∧
      gives (.xor t w) (a ^^^ b) ∧ gives (.sll t w) (a <<< (b.toNat % 64)) ∧ gives (.srl t w) (a >>> (b.toNat % 64)) ∧
      gives (.sra t w) (a.sshiftRight (b.toNat % 64)) ∧ gives (.mul t w) (a * b) ∧
      gives (.sel t w) (if (s.thr t).pred (opPX w) then a else b)) ∧
    gives (.addi t w) (a + imm12 w) ∧ gives (.andi t w) (a &&& imm12 w) ∧ gives (.ori t w) (a ||| imm12 w) ∧
    gives (.xori t w) (a ^^^ imm12 w) ∧
    (bits w 6 6 = 0 → gives (.slli t w) (a <<< bits w 0 6) ∧ gives (.srli t w) (a >>> bits w 0 6) ∧
      gives (.srai t w) (a.sshiftRight (bits w 0 6))) ∧
    (fmtD w = true → gives (.li t w) (imm16 w) ∧ gives (.lih t w) (d <<< (16 : Nat) ||| BitVec.ofNat 64 (w % 65536)))

/-- The compare and predicate instructions (R278): the destination predicate takes its value, and nothing else changes but the thread's pc and
RETIRED. Where the manual leaves a point open this rests on the model's choices: log entries 77, 78, 79, 119, 120, 160. -/
def Obligations.OcellPredicates : Prop :=
  ∀ (s : State) (t w : Nat), Issues t w s →
    let a := s.g t (opEA w)
    let b := if opI w then imm13 w else s.g t (opEB w)
    let pa := (s.thr t).pred (opEA w)
    let pb := (s.thr t).pred (opEB w)
    let gives (c : Instr) (v : Bool) : Prop :=
      Completes c s (ThreadOnly t (retiredAt ((s.thr t).setPred (opPD w) v) (nextPc (s.thr t))) s)
    (fmtE w = true → gives (.ceq t w) (a == b) ∧ gives (.cne t w) (a != b) ∧ gives (.clt t w) (decide (a.toInt < b.toInt)) ∧
      gives (.cltu t w) (decide (a.toNat < b.toNat)) ∧ gives (.cge t w) (decide (b.toInt ≤ a.toInt)) ∧
      gives (.cgeu t w) (decide (b.toNat ≤ a.toNat))) ∧
    (opI w = false → fmtE w = true → opEA w < 8 → (opEB w < 8 → gives (.pand t w) (pa && pb) ∧ gives (.por t w) (pa || pb)) ∧
      (opEB w = 0 → gives (.pnot t w) (!pa)))

/-- The bit-field and CRC instructions (R288, R289). Leading zeros and reversed bytes (R288): clz of a value that is not 0 is the distance of
its highest 1 from bit 63, clz of 0 is 64, and byte k of bswap is byte 7 − k of its operand. Where the manual leaves a point open this
rests on the model's choices: log entries 77, 78, 79, 119, 120, 160. -/
def Obligations.OcellBitFields : Prop :=
  (∀ (s : State) (t w : Nat), Issues t w s →
    let a := s.g t (opRA w)
    let b := s.g t (opRB w)
    let pos := bits w 6 6
    let len := if bits w 0 6 = 0 then 64 else bits w 0 6
    let gives (c : Instr) (v : Word) : Prop :=
      Completes c s (ThreadOnly t (retiredAt ((s.thr t).setReg (opRD w) v) (nextPc (s.thr t))) s)
    (pos + len ≤ 64 → gives (.bfx t w) (BitVec.ofNat 64 (a.toNat / 2 ^ pos % 2 ^ len)) ∧
      gives (.bfxs t w) (((a >>> pos).setWidth len).signExtend 64) ∧
      gives (.bfi t w) (BitVec.ofNat 64 (setBits (s.g t (opRD w)).toNat pos len a.toNat))) ∧
    (fmtA w = true → gives (.clz t w) (clzOf a) ∧ gives (.bswap t w) (bswapOf a) ∧
      gives (.crc32cb t w) (crcOf polyC 32 1 a b) ∧ gives (.crc32cd t w) (crcOf polyC 32 8 a b) ∧
      gives (.crc32b t w) (crcOf poly32 32 1 a b) ∧ gives (.crc32d t w) (crcOf poly32 32 8 a b) ∧
      gives (.crc16b t w) (crcOf 0x8408 16 1 a b))) ∧
  (clzOf 0 = 64 ∧
  (∀ (a : Word) (n : Nat), n < 64 → a.getLsbD (63 - n) = true → (∀ m, m < n → a.getLsbD (63 - m) = false) → clzOf a = BitVec.ofNat 64 n) ∧
  (∀ (a : Word) (k : Nat), k < 8 → (bswapOf a).toNat / 256 ^ k % 256 = a.toNat / 256 ^ (7 - k) % 256))

/-- The registers of a thread (R263, R264): a read after a write, with g0 and p0 fixed; a write of one kind leaves the others alone. -/
def Obligations.ThreadRegisters : Prop :=
  (∀ (th : OclThread) (r k : Nat) (v : Word), (th.setReg r v).reg k = if k = r ∧ r ≠ 0 then v else th.reg k) ∧
  (∀ (th : OclThread) (r k : Nat) (b : Bool), (th.setPred r b).pred k = if k = r ∧ r ≠ 0 then b else th.pred k) ∧
  (∀ (th : OclThread) (r k : Nat) (v : Word), (th.setHandle r v).handle k = if k = r then v else th.handle k) ∧
  (∀ th : OclThread, th.reg 0 = 0 ∧ th.pred 0 = true) ∧
  (∀ (th : OclThread) (r k : Nat) (v : Word), (th.setReg r v).pred k = th.pred k ∧ (th.setReg r v).handle k = th.handle k ∧
    (th.setReg r v).pc = th.pc ∧ (th.setReg r v).epc = th.epc) ∧
  (∀ (th : OclThread) (r k : Nat) (b : Bool), (th.setPred r b).reg k = th.reg k ∧ (th.setPred r b).handle k = th.handle k ∧
    (th.setPred r b).pc = th.pc)

/-- Issue (R275, R294, R302, R444): an instruction of a thread that is not Ready does nothing; one whose word in instruction memory is
poisoned raises POISON with its address; one whose guard predicate is 0 only retires; one that breaks its format or a limit on its
operands, or whose OPC is not assigned, raises ILLEGAL with its word as EINFO. A core chooses a Ready thread of the highest PRIO, and one
that yielded only where every other such thread has. Where the manual leaves a point open this rests on the model's choices: log entries
77, 78, 79, 119, 120, 160. -/
def Obligations.OcellIssue : Prop :=
  (∀ (s : State) (t w : Nat), s.mayIssue t = false → ∀ e ∈ ocellOps t w (s.thr t), exec e.1 s = .next s) ∧
  (∀ (s : State) (t w : Nat) (k : EccMark), s.mayIssue t = true → s.eccOf (instrMem t) ((s.thr t).pc / 8) = some k → k.poisoned = true →
    ∀ e ∈ ocellOps t w (s.thr t), Completes e.1 s fun u => u = (s.takeTurn t).except t 4 (BitVec.ofNat 64 (s.thr t).pc)) ∧
  (∀ (s : State) (t w : Nat), s.mayIssue t = true → FetchGood t s → (s.thr t).pred (opQP w) = false → ∀ e ∈ ocellOps t w (s.thr t),
    Completes e.1 s (ThreadOnly t (retiredAt (s.thr t) (nextPc (s.thr t))) s)) ∧
  (∀ (s : State) (t w : Nat), Issues t w s → ∀ e ∈ ocellOps t w (s.thr t), e.2.2 = false →
    let u := (s.issued t).except t 1 (BitVec.ofNat 64 (e.2.1 * 2 ^ 25 + w))
    Completes e.1 s fun v => v = if e.1 = .dbnz t w then u.wrongPath t else u) ∧
  (∀ (s : State) (t w : Nat), s.mayIssue t = true → FetchGood t s → (s.thr t).pred (opQP w) = true → opFields w = false →
    Completes (.add t w) s fun u => u = (s.issued t).except t 1 (BitVec.ofNat 64 (w % 2 ^ 32))) ∧
  (∀ (s : State) (k t : Nat), s.chosen k = some t → t / 4 = k ∧ (s.thr t).state = 1 ∧
    (∀ u, u / 4 = k → (s.thr u).state = 1 → s.prio u ≤ s.prio t) ∧
    (t ∈ s.ocl.passes → ∀ u, u / 4 = k → (s.thr u).state = 1 → s.prio u = s.prio t → u ∈ s.ocl.passes)) ∧
  (∀ (s : State) (k t : Nat), t / 4 = k → (s.thr t).state = 1 → ∃ u, s.chosen k = some u)

/-- Taking an exception (R292, R318, R320): outside a region a thread saves its pc, cause and information and goes on at its vector; with EXC
set or no vector it enters Fault; inside a region the region drops, its registers come back and the cause is recorded. Where the manual
leaves a point open this rests on the model's choices: log entries 81, 87. -/
def Obligations.OcellExceptions : Prop :=
  (∀ (s : State) (t cause : Nat) (einfo : Word), (s.thr t).region = none → (s.thr t).exc = false → (s.thr t).evec ≠ 0 →
    (s.thr t).state = 1 →
    let u := s.except t cause einfo
    u.thr t = { s.thr t with epc := BitVec.ofNat 64 (s.thr t).pc, ecause := BitVec.ofNat 64 cause, einfo := einfo, exc := true,
                             pc := (s.thr t).evec.toNat % 32768 } ∧
      (∀ x, x ≠ t → u.thr x = s.thr x) ∧ (∀ m o, u.memByte m o = s.memByte m o) ∧
      ∀ id i j, id ≠ .OCL_CNT_EXC → u.reg id i j = s.reg id i j) ∧
  (∀ (s : State) (t cause : Nat) (einfo : Word), t < 128 → (s.thr t).region = none → ((s.thr t).exc = true ∨ (s.thr t).evec = 0) →
    let u := s.except t cause einfo
    (u.thr t).state = 4 ∧ (u.thr t).epc = BitVec.ofNat 64 (s.thr t).pc ∧ (u.thr t).ecause = BitVec.ofNat 64 cause ∧
      (u.thr t).einfo = einfo ∧ (u.thr t).pc = (s.thr t).pc ∧ (u.thr t).g = (s.thr t).g) ∧
  (∀ (s : State) (t cause : Nat) (einfo : Word) (r : Region), (s.thr t).region = some r →
    let u := s.except t cause einfo
    (u.thr t).g = r.g ∧ (u.thr t).p = r.p ∧ (u.thr t).h = r.h ∧ (u.thr t).pc = r.target ∧ (u.thr t).dropCause = 3 ∧
      (u.thr t).ecause = BitVec.ofNat 64 cause ∧ (u.thr t).einfo = einfo)

/-- The system instructions (R266, R267, R293, R321): mfs and mts, trap, eret, yield and brk. Where the manual leaves a point open this rests
on the model's choices: log entries 77, 79, 80, 87, 119, 160. -/
def Obligations.OcellSystem : Prop :=
  ∀ (s : State) (t w : Nat), Issues t w s →
    (fmtA w = true → Completes (.mfs t w) s
      (ThreadOnly t (retiredAt ((s.thr t).setReg (opRD w) (s.special t (opRB w))) (nextPc (s.thr t))) s)) ∧
    (fmtA w = true → (3 ≤ opRB w ∧ opRB w ≤ 7 ∨ opRB w = 11) → (s.thr t).region = none → Completes (.mts t w) s
      (ThreadOnly t (retiredAt ((s.thr t).setSpecial (opRB w) (s.g t (opRA w))) (nextPc (s.thr t))) s)) ∧
    (fmtA w = true → opRB w = 12 → Completes (.mts t w) s
      (ThreadOnly t (retiredAt { s.thr t with wdAcc := 0, wdFrom := s.clp.now, stage := false } (nextPc (s.thr t))) s)) ∧
    (fmtA w = true → (3 ≤ opRB w ∧ opRB w ≤ 7 ∨ opRB w = 11) → (s.thr t).region ≠ none → Completes (.mts t w) s fun u =>
      u = (s.issued t).dropTo t 4) ∧
    Completes (.trap t w) s (fun u => u = (s.issued t).except t 7 (BitVec.ofNat 64 (w % 2 ^ 22))) ∧
    (fmtA w = true → (s.thr t).exc = true → (s.thr t).region = none → (s.thr t).wdDue = false → Completes (.eret t w) s
      (ThreadOnly t { retiredAt (s.thr t) ((s.thr t).epc.toNat % 32768) with exc := false } s)) ∧
    (fmtA w = true → Completes (.yield t w) s fun u => ThreadOnly t (retiredAt (s.thr t) (nextPc (s.thr t))) s u ∧
      t ∈ u.ocl.passes) ∧
    (fmtA w = true → s.brkHalt t = false → Completes (.brk t w) s fun u => u = (s.issued t).except t 8 0) ∧
    (fmtA w = true → s.brkHalt t = true → (s.thr t).region = none → Completes (.brk t w) s fun u =>
      (u.thr t).state = 3 ∧ (u.thr t).pc = (s.thr t).pc ∧ (u.thr t).g = (s.thr t).g)

/-- Branches (R279, R280, R294): taken and untaken, and a target outside instruction memory or not on a word. Where the manual leaves a point
open this rests on the model's choices: log entries 77, 80, 89, 119, 160. -/
def Obligations.OcellBranches : Prop :=
  ∀ (s : State) (t w : Nat), Issues t w s →
    let here : Int := (s.thr t).pc
    let link : Word := BitVec.ofNat 64 ((s.thr t).pc + 4)
    let a := (s.g t (opRA w) + imm12 w).toNat
    let near := here + 4 * (imm22 w).toInt
    let loop := here + 4 * (imm12 w).toInt
    (0 ≤ near → near ≤ 0x7FFC → Completes (.br t w) s (ThreadOnly t (retiredAt (s.thr t) near.toNat) s) ∧
      Completes (.call t w) s (ThreadOnly t (retiredAt ((s.thr t).setReg 31 link) near.toNat) s)) ∧
    (¬(0 ≤ near ∧ near ≤ 0x7FFC) → ∀ c ∈ [Instr.br t w, .call t w], Completes c s fun u =>
      u = ((s.issued t).except t 3 (BitVec.ofNat 64 (toPattern 64 near))).wrongPath t) ∧
    (a % 4 = 0 → a ≤ 0x7FFC → Completes (.jalr t w) s (ThreadOnly t (retiredAt ((s.thr t).setReg (opRD w) link) a) s)) ∧
    (a % 4 ≠ 0 → Completes (.jalr t w) s fun u => u = ((s.issued t).except t 2 (BitVec.ofNat 64 a)).wrongPath t) ∧
    (opRA w = 0 → opRD w ≠ 0 → s.g t (opRD w) = 1 → Completes (.dbnz t w) s
      (ThreadOnly t (retiredAt ((s.thr t).setReg (opRD w) 0) (nextPc (s.thr t))) s)) ∧
    (opRA w = 0 → opRD w ≠ 0 → s.g t (opRD w) ≠ 1 → 0 ≤ loop → loop ≤ 0x7FFC → Completes (.dbnz t w) s
      (ThreadOnly t (retiredAt ((s.thr t).setReg (opRD w) (s.g t (opRD w) - 1)) loop.toNat) s))

/-- Loads of memory (R269–R272, R281, R294): an aligned load of a word without error marks gives its bytes, zero-extended, and touches nothing
else; a misaligned one, one of a poisoned word and one outside the data space raise their exceptions. Where the manual leaves a point open
this rests on the model's choices: log entries 68, 77, 86, 119, 160. -/
def Obligations.OcellLoads : Prop :=
  ∀ (s : State) (t w : Nat), Issues t w s → (s.thr t).region = none →
    let a := (s.g t (opRA w) + imm12 w).toNat
    let i := s.issued t
    ∀ e ∈ [(Instr.ldb t w, 1), (.ldh t w, 2), (.ldw t w, 4), (.ldd t w, 8)],
      (∀ m o, dataLoc t a = .mem m o → a % e.2 = 0 → s.memReady m = true → s.eccOf m (o / 8) = none → Completes e.1 s
        (ThreadOnly t (retiredAt ((s.thr t).setReg (opRD w) (BitVec.ofNat 64 (ofLe (s.memBytes m o e.2)))) (nextPc (s.thr t))) s)) ∧
      (∀ m o, dataLoc t a = .mem m o → a % e.2 = 0 → s.memReady m = false → Completes e.1 s fun u => u = i) ∧
      (∀ m o k, dataLoc t a = .mem m o → a % e.2 = 0 → s.memReady m = true → s.eccOf m (o / 8) = some k → k.poisoned = true → Completes e.1 s fun u =>
        u = i.except t 4 (BitVec.ofNat 64 a)) ∧
      (a % e.2 ≠ 0 → Completes e.1 s fun u => u = i.except t 2 (BitVec.ofNat 64 a)) ∧
      (dataLoc t a = .none → a % e.2 = 0 → Completes e.1 s fun u => u = i.except t 3 (BitVec.ofNat 64 a)) ∧
      (∀ off, dataLoc t a = .window off → a % e.2 = 0 → widthOk off e.2 = true → Completes e.1 s fun u =>
        (u.thr t).state = 2 ∧ (u.thr t).wait = some (.load off e.2 (opRD w)) ∧ (u.thr t).pc = (s.thr t).pc) ∧
      (∀ off, dataLoc t a = .window off → a % e.2 = 0 → widthOk off e.2 = false → Completes e.1 s fun u =>
        u = i.except t 3 (BitVec.ofNat 64 a))

/-- Stores of memory (R272, R281, R441, R442, R448): an aligned store of a word without error marks, or of all 8 bytes of any word, writes its
bytes, and leaves a good codeword unless the flip-mask hits; every other byte of every memory, every other thread and every register but
those of the error injector stay as they were. One of 1, 2 or 4 bytes onto an uncorrectable word stores nothing, counts and raises POISON
with its address; the word is marked if it was not. Where the manual leaves a point open this rests on the model's choices: log entries
77, 87, 119, 160. -/
def Obligations.OcellStores : Prop :=
  ∀ (s : State) (t w : Nat), Issues t w s → (s.thr t).region = none →
    let a := (s.g t (opRA w) + imm12 w).toNat
    let v := (s.g t (opRD w)).toNat
    ∀ e ∈ [(Instr.stb t w, 1), (.sth t w, 2), (.stw t w, 4), (.std t w, 8)],
      (∀ m o, dataLoc t a = .mem m o → a % e.2 = 0 → (s.eccOf m (o / 8) = none ∨ e.2 = 8) → Completes e.1 s fun u =>
        (s.flipHits m (o / 8) = false → u.eccOf m (o / 8) = none) ∧
        u.thr t = retiredAt (s.thr t) (nextPc (s.thr t)) ∧ (∀ x, x ≠ t → u.thr x = s.thr x) ∧
        (∀ m' b, b < 2 ^ 24 → u.memByte m' b =
          if m' = m ∧ o ≤ b ∧ b < o + e.2 then BitVec.ofNat 8 (v / 256 ^ (b - o)) else s.memByte m' b) ∧
        ∀ id i j, id ∉ [RegId.OBS_THR_CNT, .MEM_FLIP_CTL, .MEM_EVT, .MEM_CNT_FLIP] → u.reg id i j = s.reg id i j) ∧
      (∀ m o k, dataLoc t a = .mem m o → a % e.2 = 0 → e.2 < 8 → s.eccOf m (o / 8) = some k → k.poisoned = true → Completes e.1 s fun u =>
        u = (((s.issued t).bump F.MEM_CNT_WRITE_POISON_COUNT).raise F.MEM_EVT_WRITE_POISON).except t 4 (BitVec.ofNat 64 a)) ∧
      (∀ m o k, dataLoc t a = .mem m o → a % e.2 = 0 → e.2 < 8 → s.eccOf m (o / 8) = some k → k.poisoned = false → 2 ≤ s.decodeWeight k →
        Completes e.1 s fun u => u = ((((s.issued t).poisonMark m (o / 8) k.mask).bump F.MEM_CNT_WRITE_POISON_COUNT).raise
          F.MEM_EVT_WRITE_POISON).except t 4 (BitVec.ofNat 64 a)) ∧
      (a % e.2 ≠ 0 → Completes e.1 s fun u => u = (s.issued t).except t 2 (BitVec.ofNat 64 a)) ∧
      (dataLoc t a = .none → a % e.2 = 0 → Completes e.1 s fun u => u = (s.issued t).except t 3 (BitVec.ofNat 64 a)) ∧
      (∀ off, dataLoc t a = .window off → a % e.2 = 0 → widthOk off e.2 = true → Completes e.1 s fun u =>
        (u.thr t).state = 2 ∧ (u.thr t).wait = some (.store off e.2 (s.g t (opRD w))) ∧ (u.thr t).pc = (s.thr t).pc)

/-- Atomics and fences (R281, R308): the old word comes to the destination, the word takes its new value, and no other word changes; a fence
only retires, and one of kind full waits for a table command of its thread that has not completed. Where the manual leaves a point open
this rests on the model's choices: log entries 68, 77, 88, 119, 152, 153, 160. -/
def Obligations.OcellAtomics : Prop :=
  ∀ (s : State) (t w : Nat), Issues t w s → (s.thr t).region = none →
    let a := (s.g t (opRA w)).toNat
    let b := s.g t (opRB w)
    let keeps (m x : Nat) (u : State) : Prop := ∀ m' x', x' < 2 ^ 21 → ¬(m' = m ∧ x' = x) → u.memWord m' x' = s.memWord m' x'
    (∀ m o, fmtA w = true → a % 8 = 0 → coreLoc t a 8 = some (m, o) → s.memReady m = true → s.eccOf m (o / 8) = none →
      let old : Word := BitVec.ofNat 64 (s.memWord m (o / 8))
      let next := retiredAt ((s.thr t).setReg (opRD w) old) (nextPc (s.thr t))
      (Completes (.amoadd t w) s fun u => u.thr t = next ∧ u.memWord m (o / 8) = (old + b).toNat ∧ keeps m (o / 8) u) ∧
      (old = s.g t (opRD w) → Completes (.cas t w) s fun u => u.thr t = next ∧ u.memWord m (o / 8) = b.toNat ∧ keeps m (o / 8) u) ∧
      (old ≠ s.g t (opRD w) → Completes (.cas t w) s (ThreadOnly t next s))) ∧
    (fmtA w = true → a % 8 ≠ 0 → ∀ c ∈ [Instr.amoadd t w, .cas t w], Completes c s fun u =>
      u = (s.issued t).except t 2 (BitVec.ofNat 64 a)) ∧
    (fenceOk w = true → (opPX w ≠ 0 ∨ s.cmdRuns t = false) → ∀ c ∈ [Instr.fenceFull t w, .fenceSt t w, .fenceRn t w],
      Completes c s (ThreadOnly t (retiredAt (s.thr t) (nextPc (s.thr t))) s)) ∧
    (fenceOk w = true → opPX w = 0 → s.cmdRuns t = true → Completes (.fenceFull t w) s fun u => u = s.takeTurn t)

/-- Handle instructions (R264, R286, R287, R345). Where the manual leaves a point open this rests on the model's choices: log entries 68, 77,
84, 119, 160. -/
def Obligations.OcellHandles : Prop :=
  ∀ (s : State) (t w : Nat), Issues t w s → (s.thr t).region = none → fmtA w = true →
    let i := s.issued t
    let next := nextPc (s.thr t)
    let c := (s.g t (opRA w)).toNat
    let n := (s.g t (opRB w)).toNat
    let h := (s.thr t).handle (opRA w)
    (opRD w < 8 → c < 65536 → Completes (.hmk t w) s
      (ThreadOnly t (retiredAt ((s.thr t).setHandle (opRD w) (handleOf n c)) next) s)) ∧
    (opRD w < 8 → 65536 ≤ c → Completes (.hmk t w) s fun u => u = i.except t 5 (BitVec.ofNat 64 c)) ∧
    (opRA w < 8 → Completes (.hget t w) s (ThreadOnly t (retiredAt ((s.thr t).setReg (opRD w) h) next) s)) ∧
    (opRA w < 8 → ∀ e ∈ [(Instr.hldb t w, 1), (.hldd t w, 8)],
      (∀ ps, s.framePieces h n e.2 = some ps → s.memReady 0 = true → (∀ p ∈ ps, ∀ x ∈ wordsOf p.1 p.2, s.eccOf 0 x = none) →
        Completes e.1 s (ThreadOnly t (retiredAt ((s.thr t).setReg (opRD w)
          (BitVec.ofNat 64 (ofLe (ps.flatMap fun p => s.memBytes 0 p.1 p.2)))) next) s)) ∧
      (s.framePieces h n e.2 = none → Completes e.1 s fun u => u = i.except t 5 (BitVec.ofNat 64 n))) ∧
    (opRA w < 8 → ∀ e ∈ [(Instr.hstb t w, 1), (.hstd t w, 8)],
      (∀ ps, s.framePieces h n e.2 = some ps → (∀ p ∈ ps, ∀ x ∈ wordsOf p.1 p.2, s.eccOf 0 x = none) → Completes e.1 s fun u =>
        u.thr t = retiredAt (s.thr t) next ∧ ∀ m b, u.memByte m b =
          ((cutPieces ps (leBytes e.2 (s.g t (opRD w)).toNat)).foldl State.mergePiece s).memByte m b) ∧
      (s.framePieces h n e.2 = none → Completes e.1 s fun u => u = i.except t 5 (BitVec.ofNat 64 n))) ∧
    (opRD w < 8 → ∀ v x xs, 1 ≤ n → n ≤ 16384 → i.allocFloor n = (some (x :: xs), v) → Completes (.halloc t w) s fun u =>
      u.thr t = retiredAt (((s.thr t).setHandle (opRD w) (handleOf n x)).setPred (opPX w) true) next ∧ u.run = v.run) ∧
    (opRD w < 8 → ∀ v, 1 ≤ n → n ≤ 16384 → i.allocFloor n = (none, v) → Completes (.halloc t w) s fun u =>
      u.thr t = retiredAt (((s.thr t).setHandle (opRD w) 0).setPred (opPX w) false) next ∧ u.run = s.run) ∧
    (opRA w < 8 → handleOk h = true → Completes (.hfree t w) s fun u =>
      u.thr t = retiredAt ((s.thr t).setHandle (opRA w) 0) next ∧ u.run = (i.freeChain (handleCell h)).run)

/-- Runnel instructions (R282, R283, R294, R296, R334): a push lands or waits, a pop takes the oldest words or waits, both behind the waiting
threads that go before; and a runnel that is not enabled raises RUNNEL. Where the manual leaves a point open this rests on the model's
choices: log entries 77, 82, 119, 152, 160. -/
def Obligations.OcellRunnels : Prop :=
  ∀ (s : State) (t w : Nat), Issues t w s → (s.thr t).region = none →
    let i := s.issued t
    let n := (s.g t (opRA w) + imm12 w).toNat % 256
    let k := bits w 0 8
    let q := (s.g t (opRA w)).toNat % 256
    let four := (List.range 4).map fun x => s.g t (opRD w + x)
    let key := s.fld F.TWN_RUNNEL_KEY_RUNNEL
    let v := i.servePops t n
    let y := i.servePops t q
    let z := i.servePushes t k
    (i.popsBefore t n = [] → v = i) ∧
    (s.runnelOn n = true → s.pushReady t n 1 = true → Completes (.push t w) s fun u =>
      u = (i.threadLand t n [s.g t (opRD w)]).retire t ∧
        ((t ≠ 129 ∨ n ≠ key) → (u.runnel n).words = (s.runnel n).words ++ [mkWord (s.g t (opRD w))])) ∧
    (s.runnelOn n = true → s.pushReady t n 1 = false → Completes (.push t w) s fun u =>
      (u.thr t).state = 2 ∧ (u.thr t).wait = some (.push n [s.g t (opRD w)]) ∧ u.run = s.run) ∧
    (opRD w ≤ 28 → s.runnelOn n = true → s.pushReady t n 4 = true → Completes (.push4 t w) s fun u =>
      u = (i.threadLand t n four).retire t ∧
        ((t ≠ 129 ∨ n ≠ key) → (u.runnel n).words = (s.runnel n).words ++ four.map fun x => mkWord x)) ∧
    (opI w = true → bits w 8 5 = 0 → s.runnelOn k = true → s.pushReady t k 1 = true → (t ≠ 129 ∨ k ≠ key) →
      Completes (.tpush t w) s fun u => (u.runnel k).words = (s.runnel k).words ++ [mkWord (s.g t (opEA w))] ∧
        u.thr t = retiredAt ((s.thr t).setPred (opPD w) true) (nextPc (s.thr t))) ∧
    (opI w = true → bits w 8 5 = 0 → s.runnelOn k = true → 1 ≤ z.runnelRoom k → Completes (.tpush t w) s fun u =>
      u = (z.threadLand t k [z.g t (opEA w)]).resultP t (opPD w) true) ∧
    (opI w = true → bits w 8 5 = 0 → s.runnelOn k = true → z.runnelRoom k = 0 → Completes (.tpush t w) s fun u =>
      u = z.resultP t (opPD w) false) ∧
    (opI w = true → bits w 8 5 = 0 → s.runnelOn k = true → s.runnelRoom k = 0 → (s.runnel k).waiting = [] → (s.runnel k).ringWaits = [] →
      s.pushesBefore k t = [] → Completes (.tpush t w) s
        (ThreadOnly t (retiredAt ((s.thr t).setPred (opPD w) false) (nextPc (s.thr t))) s)) ∧
    (∀ x c, s.pushReady t x c = (decide (c ≤ s.runnelRoom x) && !s.engineReady x && !s.ringReady x && !s.threadReady x t)) ∧
    (s.runnelOn n = true → 1 ≤ v.poppable n → (v.popWords n 1).1.any RunWord.isBad = false → Completes (.pop t w) s fun u =>
      u = ((v.popWords n 1).2.setGs t (opRD w) ((v.popWords n 1).1.map fun x => x.val)).retire t ∧
        (u.runnel n).words = (v.runnel n).words.drop 1) ∧
    (opRD w ≤ 28 → s.runnelOn n = true → 4 ≤ v.poppable n → (v.popWords n 4).1.any RunWord.isBad = false →
      Completes (.pop4 t w) s fun u =>
        u = ((v.popWords n 4).2.setGs t (opRD w) ((v.popWords n 4).1.map fun x => x.val)).retire t ∧
          (u.runnel n).words = (v.runnel n).words.drop 4) ∧
    (s.runnelOn n = true → v.poppable n = 0 → Completes (.pop t w) s fun u =>
      (u.thr t).state = 2 ∧ (u.thr t).wait = some (.pop n 1 (opRD w)) ∧ u.run = v.run) ∧
    (fmtA w = true → s.runnelOn q = true → 1 ≤ y.poppable q → (y.popWords q 1).1.any RunWord.isBad = false →
      Completes (.popw t w) s fun u => (u.thr t).pred (opPX w) = true ∧ (u.thr t).pc = nextPc (y.thr t) ∧
        (u.runnel q).words = (y.runnel q).words.drop 1) ∧
    (fmtA w = true → s.runnelOn q = true → y.poppable q = 0 → (s.g t (opRB w)).toNat % 2 ^ 32 ≠ 0 → Completes (.popw t w) s fun u =>
      ∃ due, (u.thr t).wait = some (.popw q (opRD w) (opPX w) due) ∧ s.clp.now + (s.g t (opRB w)).toNat % 2 ^ 32 ≤ due ∧
        due ≤ s.clp.now + (s.g t (opRB w)).toNat % 2 ^ 32 + 10) ∧
    (s.runnelOn n = true → Completes (.rlev t w) s
      (ThreadOnly t (retiredAt ((s.thr t).setReg (opRD w) (BitVec.ofNat 64 (s.runnel n).words.length)) (nextPc (s.thr t))) s)) ∧
    (s.runnelOn n = false → ∀ c ∈ [Instr.push t w, .pop t w, .rlev t w], Completes c s fun u =>
      u = i.except t 6 (BitVec.ofNat 64 n))

/-- Time, table and random-number instructions (R191, R192, R284, R285, R290). Where the manual leaves a point open this rests on the model's
choices: log entries 68, 77, 83, 119, 160. -/
def Obligations.OcellTimeAndTables : Prop :=
  ∀ (s : State) (t w : Nat), Issues t w s →
    let a := (s.g t (opRA w)).toNat
    let b := (s.g t (opRB w)).toNat
    let i := s.issued t
    let gives (c : Instr) (v : Word) : Prop :=
      Completes c s (ThreadOnly t (retiredAt ((s.thr t).setReg (opRD w) v) (nextPc (s.thr t))) s)
    (fmtA w = true → gives (.now t w) (BitVec.ofNat 64 (s.fullNs % 2 ^ 32)) ∧
      gives (.asn t w) (if s.asnValid then BitVec.ofNat 64 s.asn else 0x8000000000000000) ∧
      gives (.a2t t w) (if s.asnValid then BitVec.ofNat 64 ((s.slotStart (a % 2 ^ 40) + b % 2 ^ 16 * 1000) % 2 ^ 32)
        else 0x8000000000000000)) ∧
    (fmtA w = true → opRD w ≤ 30 → Completes (.nowf t w) s
      (ThreadOnly t (retiredAt (((s.thr t).setReg (opRD w) (BitVec.ofNat 64 (s.fullNs / 10 ^ 9 % 2 ^ 48))).setReg (opRD w + 1)
        (BitVec.ofNat 64 (s.fullNs % 10 ^ 9))) (nextPc (s.thr t))) s)) ∧
    (fmtA w = true → s.ahead (a % 2 ^ 32) = false → Completes (.waitt t w) s
      (ThreadOnly t (retiredAt (s.thr t) (nextPc (s.thr t))) s)) ∧
    (fmtA w = true → s.ahead (a % 2 ^ 32) = true → Completes (.waitt t w) s fun u =>
      (u.thr t).state = 2 ∧ (u.thr t).wait = some (.waitt (a % 2 ^ 32)) ∧ (u.thr t).pc = (s.thr t).pc) ∧
    (fmtA w = true → (s.thr t).region = none → a % 8 = 0 → recordLoc t a = true → Completes (.tcmd t w) s fun u =>
      u = (if i.fresh.1 % 2 = 1 then i.fresh.2.tcmdIssue t a else i.fresh.2.enterWait t (.tcmd a))) ∧
    (fmtA w = true → Completes (.tfind t w) s fun u =>
      (u.thr t).state = 2 ∧ (u.thr t).wait = some (.tfind a (b % 256) (opRD w)) ∧ (u.thr t).pc = (s.thr t).pc) ∧
    (bits w 2 10 = 0 → s.memReady 1 = true → s.eccOf 1 (4 * (a % 2 ^ 19) + bits w 0 2) = none →
      gives (.trd t w) (BitVec.ofNat 64 (s.memWord 1 (4 * (a % 2 ^ 19) + bits w 0 2)))) ∧
    (fmtA w = true → s.flag F.GRT_STAT_DRBG_OK = true → Completes (.rnd t w) s fun u =>
      u.thr t = retiredAt ((s.thr t).setReg (opRD w) (BitVec.ofNat 64 s.rand.1)) (nextPc (s.thr t)) ∧ u.grt = s.rand.2.grt) ∧
    (fmtA w = true → s.flag F.GRT_STAT_DRBG_OK = false → Completes (.rnd t w) s fun u =>
      (u.thr t).state = 2 ∧ (u.thr t).wait = some (.rnd (opRD w)))

/-- The crypto instructions (R290) over operands without error marks: the state or the block in memory takes its new value by 8-byte stores.
Where the manual leaves a point open this rests on the model's choices: log entries 68, 77, 85, 119, 160. -/
def Obligations.OcellCrypto : Prop :=
  ∀ (s : State) (t w : Nat), Issues t w s → (s.thr t).region = none → fmtA w = true →
    let a := (s.g t (opRA w)).toNat
    let b := (s.g t (opRB w)).toNat
    let puts (m o k : Nat) (bs : List Byte) (u : State) : Prop :=
      u.thr t = retiredAt (s.thr t) (nextPc (s.thr t)) ∧ ∀ m' x, u.memByte m' x =
        ((((pieces 8 k bs).zipIdx).map fun p => (m, o + 8 * p.2, p.1)).foldl State.mergePiece s).memByte m' x
    (∀ m o k p, a % 8 = 0 → b % 8 = 0 → coreLoc t b 32 = some (m, o) → coreLoc t a 64 = some (k, p) → s.memReady m = true → s.memReady k = true →
      (∀ x ∈ wordsOf o 32, s.eccOf m x = none) → (∀ x ∈ wordsOf p 64, s.eccOf k x = none) → Completes (.shab t w) s
        (puts m o 4 ((shaCompress ((pieces 4 8 (s.memBytes m o 32)).map ofLe) (shaWords (s.memBytes k p 64))).flatMap (leBytes 4)))) ∧
    (∀ m o k p, a % 8 = 0 → b % 8 = 0 → coreLoc t a 16 = some (m, o) → coreLoc t b 16 = some (k, p) → s.memReady m = true → s.memReady k = true →
      (∀ x ∈ wordsOf o 16, s.eccOf m x = none) → (∀ x ∈ wordsOf p 16, s.eccOf k x = none) → Completes (.aesb t w) s
        (puts m o 2 (aesEnc (s.memBytes k p 16) (s.memBytes m o 16)))) ∧
    (b % 8 ≠ 0 → Completes (.shab t w) s fun u => u = (s.issued t).except t 2 (BitVec.ofNat 64 b)) ∧
    (a % 8 ≠ 0 → Completes (.aesb t w) s fun u => u = (s.issued t).except t 2 (BitVec.ofNat 64 a))

/-- Speculation (R291, R292, R311–R313, R316): a region opens with the registers kept, stores in it are held, it drops or it seals. Where the
manual leaves a point open this rests on the model's choices: log entries 77, 81, 86, 119, 160. -/
def Obligations.OcellRegions : Prop :=
  ∀ (s : State) (t w : Nat), Issues t w s →
    let th := s.thr t
    let a := (s.g t (opRA w) + imm12 w).toNat
    (th.region = none → Completes (.spb t w) s (ThreadOnly t { retiredAt th (nextPc th) with
      region := some { target := toPattern 15 (s.branchTo t (imm22 w)), g := th.g, p := th.p, h := th.h,
                       retired := (th.retired + 1) % 2 ^ 64 } } s)) ∧
    (∀ r, th.region = some r → Completes (.spb t w) s fun u => u = (s.issued t).dropTo t 4) ∧
    (∀ r m o, th.region = some r → r.used < 64 → dataLoc t a = .mem m o → a % 8 = 0 → Completes (.std t w) s
      (ThreadOnly t { retiredAt th (nextPc th) with region := some { r with
        effects := r.effects ++ [.write [(m, o, leBytes 8 (s.g t (opRD w)).toNat)] (some a)], used := r.used + 1 } } s)) ∧
    (∀ r m o, th.region = some r → r.used = 64 → dataLoc t a = .mem m o → a % 8 = 0 → Completes (.std t w) s fun u =>
      u = (s.issued t).dropTo t 2) ∧
    (∀ r m o (f : Nat → Byte), th.region = some r → dataLoc t a = .mem m o → a % 8 = 0 → s.memReady m = true →
      (∀ k, k < 8 → bufByte r.effects m (o + k) = some (f k)) → Completes (.ldd t w) s
        (ThreadOnly t (retiredAt (th.setReg (opRD w) (BitVec.ofNat 64 (ofLe ((List.range 8).map f)))) (nextPc th)) s)) ∧
    (∀ r, th.region = some r → fmtA w = true → Completes (.spd t w) s fun u => u = (s.issued t).dropTo t 1) ∧
    (∀ r, th.region = some r → let u := s.dropTo t 1
      (u.thr t).region = none ∧ (u.thr t).state = 1 ∧ (u.thr t).g = r.g ∧ (u.thr t).p = r.p ∧ (u.thr t).h = r.h ∧
        (u.thr t).pc = r.target ∧ (u.thr t).dropCause = 1) ∧
    (∀ r, th.region = some r → fmtA w = true → Completes (.sps t w) s fun u =>
      u = (((s.issued t).enterWait t .seal).sealTime r.used).sealRun t r.effects) ∧
    (∀ r, th.region = some r → fmtA w = true → r.effects = [] → r.poison = none → r.halt = false → th.wdDue = false →
      s.cht.specs = [] → Completes (.sps t w) s fun u =>
        (u.thr t).region = none ∧ (u.thr t).state = 1 ∧ (u.thr t).pc = nextPc th ∧ (u.thr t).g = th.g ∧
          (∀ m b, u.memByte m b = s.memByte m b) ∧ s.clp.now ≤ u.clp.now ∧ u.clp.now ≤ s.clp.now + 40 + 10 * r.used)

/-- The ends of waits (R283–R285, R290, R303, R307, R317): a thread that waits goes on once what it waits for is there. Where the manual
leaves a point open this rests on the model's choices: log entries 2, 6, 68, 82, 83, 152, 160. -/
def Obligations.OcellWaits : Prop :=
  (∀ (s : State) (t n : Nat) (ws : List Word), s.threadLive t = true → (s.thr t).wait = some (.push n ws) → s.runnelOn n = true →
    s.pushReady t n ws.length = true → Completes (.pushRoom t) s fun u => u = (s.threadLand t n ws).retire t ∧
      (u.thr t).pc = nextPc (s.thr t) ∧ ((t ≠ 129 ∨ n ≠ s.fld F.TWN_RUNNEL_KEY_RUNNEL) →
        (u.runnel n).words = (s.runnel n).words ++ ws.map fun x => mkWord x)) ∧
  (∀ (s : State) (t n : Nat) (ws : List Word), s.threadLive t = true → (s.thr t).wait = some (.push n ws) → s.runnelOn n = true →
    s.pushReady t n ws.length = false → Completes (.pushRoom t) s fun u => u = s) ∧
  (∀ (s : State) (t n k rd : Nat), s.threadLive t = true → (s.thr t).wait = some (.pop n k rd) → s.runnelOn n = true →
    k ≤ s.poppable n → s.popsBefore t n = [] → (s.popWords n k).1.any RunWord.isBad = false →
    Completes (.popWordArrive t) s fun u => (u.thr t).pc = nextPc (s.thr t) ∧ (u.runnel n).words = (s.runnel n).words.drop k ∧
      u = ((s.popWords n k).2.setGs t rd ((s.popWords n k).1.map fun x => x.val)).retire t) ∧
  (∀ (s : State) (t n k rd : Nat), s.threadLive t = true → (s.thr t).wait = some (.pop n k rd) → s.runnelOn n = false →
    s.popsBefore t n = [] → Completes (.popWordArrive t) s fun u => u = s.except t 6 (BitVec.ofNat 64 n)) ∧
  (∀ (s : State) (t n k rd : Nat), (s.thr t).wait = some (.pop n k rd) → Completes (.popWordArrive t) s fun u =>
    u = (s.servePops t n).popArrive t) ∧
  (∀ (s : State) (t n rd px due : Nat), s.threadLive t = true → (s.thr t).wait = some (.popw n rd px due) →
    (s.advanceTo due).poppable n = 0 → (s.advanceTo due).popsBefore t n = [] → Completes (.popwTimeout t) s fun u =>
      u.clp.now = max s.clp.now due ∧ (px ≠ 0 → (u.thr t).pred px = false) ∧ (u.thr t).pc = nextPc (s.thr t) ∧ u.run = s.run) ∧
  (∀ (s : State) (t target : Nat), s.threadLive t = true → (s.thr t).wait = some (.waitt target) → s.ahead target = true →
    Completes (.waittRelease t) s fun u => u = (s.advanceToFull (s.fullOfService target)).retire t) ∧
  (∀ (s : State) (t target : Nat), s.threadLive t = true → (s.thr t).wait = some (.waitt target) → s.ahead target = false →
    Completes (.waittRelease t) s fun u => u = s.retire t) ∧
  (∀ (s : State) (t a : Nat), s.threadLive t = true → (s.thr t).wait = some (.tcmd a) → Completes (.tcmdAccept t) s fun u =>
    u = s.tcmdIssue t a) ∧
  (∀ (s u : State) (t eui cls rd : Nat) (es : List (Nat × Entry)), s.threadLive t = true → s.memReady 1 = true →
    (s.thr t).wait = some (.tfind eui cls rd) → (s.thr t).region = none →
    (s.bump F.SLC_CNT_LOOKUP_COUNT).readSlots ((List.range 4).map (bucketBase eui cls 0 + ·) ++
      (List.range 4).map (bucketBase eui cls 1 + ·)) = (es, none, u) →
    Completes (.tfindResult t) s fun v =>
      v = u.result t rd (match findKey es eui cls with | some x => BitVec.ofNat 64 (2 ^ 63 + x.1) | none => 0)) ∧
  (∀ (s : State) (t rd : Nat), s.threadLive t = true → s.flag F.GRT_STAT_DRBG_OK = true → (s.thr t).wait = some (.rnd rd) →
    Completes (.rndReady t) s fun u => u = s.rand.2.result t rd (BitVec.ofNat 64 s.rand.1)) ∧
  (∀ (s : State) (t off n rd : Nat), s.threadLive t = true → (s.thr t).wait = some (.load off n rd) → s.readReady off = true →
    Completes (.registerWindowDone t) s fun u =>
      let r := s.nextCycle.busRead t off
      u = r.2.result t rd (BitVec.ofNat 64 (r.1.toNat % 256 ^ n))) ∧
  (∀ (s : State) (t off n : Nat) (v : Word), s.threadLive t = true → (s.thr t).wait = some (.store off n v) →
    ((s.nextCycle.busWrite t off n v).thr t).wait = some (.store off n v) → Completes (.registerWindowDone t) s fun u =>
      u = (s.nextCycle.busWrite t off n v).retire t)

/-- Thread commands, debug and Jomuter's debug (R300, R301, R321, R326). `t` is an Ocell thread. Where the manual leaves a point open this
rests on the model's choices: log entries 14, 87, 121. -/
def Obligations.ThreadCommands : Prop :=
  (∀ (s : State) (t : Nat) (d : Word), t < 128 → (s.thr t).state = 0 → s.released = true → Completes (.thrStart t d) s fun u =>
    (u.thr t).state = 1 ∧ (u.thr t).pc = bits d.toNat 10 13 * 4 % 32768 ∧ (∀ r, (u.thr t).reg r = 0) ∧
      (∀ k, (u.thr t).pred k = decide (k = 0)) ∧ (∀ k, (u.thr t).handle k = 0) ∧ (u.thr t).evec = 0 ∧ (u.thr t).exc = false ∧
      (u.thr t).retired = 0) ∧
  (∀ (s : State) (t : Nat) (d : Word), t < 128 → (s.thr t).runs = true → s.released = true → Completes (.thrStart t d) s fun u =>
    (u.thr t).state = (s.thr t).state ∧ u.flag F.OCL_CL_EVT_CTL_IGNORED (t / 32) = true) ∧
  (∀ (s : State) (t : Nat) (d : Word), t < 128 → 1 ≤ (s.thr t).state → (s.thr t).state ≤ 4 → s.released = true → Completes (.thrStop t d) s fun u =>
    (u.thr t).state = 0 ∧ (u.thr t).wait = none ∧ (u.thr t).region = none) ∧
  (∀ (s : State) (t : Nat) (d : Word), t < 128 → (s.thr t).runs = true → (s.thr t).wait ≠ some .seal → s.released = true → Completes (.thrHalt t d) s
    fun u => (u.thr t).state = 3 ∧ (u.thr t).pc = (s.thr t).pc ∧ (u.thr t).region = (s.thr t).region) ∧
  (∀ (s : State) (t : Nat) (d : Word), t < 128 → (s.thr t).state = 3 → s.released = true → Completes (.thrResume t d) s fun u =>
    (u.thr t).state = 1 ∧ (u.thr t).pc = (s.thr t).pc) ∧
  (∀ (s : State) (t : Nat) (d : Word), t < 128 → (s.thr t).state = 3 → s.released = true → Completes (.dbgDataWrite t d) s fun u =>
    u = (s.oclWake (t / 32)).dbgSet t (s.thrFld F.OCL_DBG_SEL_REG t) d) ∧
  (∀ (s : State) (t : Nat) (d : Word), t < 128 → (s.thr t).state ≠ 3 → s.released = true → Completes (.dbgDataWrite t d) s fun u =>
    u = (s.oclWake (t / 32)).raise F.OCL_CL_EVT_DBG_IGNORED (t / 32)) ∧
  (∀ (s : State) (d : Word), s.unlocked = true → (s.thr 129).runs = true → (s.thr 129).wait ≠ some .seal →
    s.released = true → Completes (.jDbgHalt d) s fun u => (u.thr 129).state = 3 ∧ (u.thr 129).pc = (s.thr 129).pc) ∧
  (∀ (s : State) (d : Word), s.unlocked = true → (s.thr 129).state = 3 → s.bot.romHalt = false →
    s.released = true → Completes (.jDbgResume d) s fun u => (u.thr 129).state = 1) ∧
  (∀ (s : State) (d : Word), s.unlocked = false → s.released = true → ∀ c ∈ [Instr.jDbgHalt d, .jDbgResume d], Completes c s fun u =>
    u = s.raise F.OCL_CL_EVT_DBG_IGNORED)

/-- Watchdogs and wedges (R322–R325). Where the manual leaves a point open this rests on the model's choices: log entries 2, 5, 87. -/
def Obligations.Watchdogs : Prop :=
  (∀ (s : State) (t : Nat), t < 128 → s.wdEn t = true → (s.thr t).runs = true → (s.thr t).stage = true →
    Completes (.watchdogExpiry t) s fun u => (u.thr t).state = 4 ∧ (u.thr t).ecause = 9 ∧
      (u.thr t).einfo = BitVec.ofNat 64 (s.thr t).expiries) ∧
  (∀ (s : State) (t : Nat), t < 128 → s.wdEn t = true → (s.thr t).state = 1 → (s.thr t).wait = none → (s.thr t).stage = false →
    (s.thr t).region = none → (s.thr t).exc = false → (s.thr t).evec ≠ 0 → Completes (.watchdogExpiry t) s fun u =>
      (u.thr t).stage = true ∧ (u.thr t).exc = true ∧ (u.thr t).ecause = 9 ∧ (u.thr t).wdDue = false ∧
        (u.thr t).einfo = BitVec.ofNat 64 (min 255 ((s.thr t).expiries + 1)) ∧
        (u.thr t).pc = (s.thr t).evec.toNat % 32768 ∧ u.flag F.OCL_CL_EVT_WD_EXPIRED (t / 32) = true ∧
        u.clp.now = s.clp.now + (s.wdPeriod t - s.wdNs t)) ∧
  (∀ (s : State) (t : Nat), t < 128 → s.wdEn t = true → (s.thr t).state = 1 → (s.thr t).stage = false → (s.thr t).region = none →
    (s.thr t).exc = true → Completes (.watchdogExpiry t) s fun u =>
      (u.thr t).stage = true ∧ (u.thr t).wdDue = true ∧ (u.thr t).pc = (s.thr t).pc ∧ (u.thr t).state = 1) ∧
  (∀ (s : State) (dt k : Nat), k < 32 → (∃ x, x < 4 ∧ (s.thr (4 * k + x)).state = 1) → Completes (.coreWedge dt k) s fun u =>
    ∃ v : State, (∀ x, x < 4 → (v.thr (4 * k + x)).state = 5) ∧ (v.fld F.OCL_CL_STAT_WEDGED (k / 8)).testBit (k % 8) = true ∧
      v.clp.now = s.clp.now + dt + 1000 * max 100 (s.fld F.OCL_WEDGE_CTL_HANG_US) ∧
      u = ((v.raise F.OCL_CL_EVT_WEDGED (k / 8)).siltPost 146 k).on
        (((v.raise F.OCL_CL_EVT_WEDGED (k / 8)).siltPost 146 k).flag F.OCL_WEDGE_CTL_AUTO_RESET) fun w => w.requestReset 5)

/-- The runnel commands complete: R331–R340, R345–R347. `n` is a runnel. Where the manual leaves a point open this rests on the model's
choices: log entries 2, 4, 5, 54, 99, 152, 154. -/
def Obligations.RunnelCommands : Prop :=
  (∀ (s : State) (n : Nat) (d : Word), n < 256 → s.flag F.RUN_CFG_EN n = false →
    let c := (s.setReg .RUN_CFG n 0 (d &&& 0x3FFFFF3E)).runnelCheck n
    s.released = true → Completes (.runnelEnable n d) s fun t => t.fld F.RUN_STAT_REFUSE n = c ∧ t.flag F.RUN_CFG_EN n = decide (c = 0) ∧
      if c = 0 then t.runnel n = { flushEnd := (s.runnel n).flushEnd } else t.flag F.RUN_EVT_CFG_REFUSED = true) ∧
  (∀ (s : State) (n : Nat) (d : Word), n < 256 → s.flag F.RUN_CFG_EN n = true → (s.runnel n).disabling = false →
    (s.runnel n).words = [] → (s.runnel n).waiting = [] → (s.runnel n).ringWaits = [] → s.released = true →
    Completes (.runnelDisable n d) s fun t => t.flag F.RUN_CFG_EN n = false ∧ (t.runnel n).words = []) ∧
  (∀ (s : State) (n : Nat) (d : Word), n < 256 → s.flag F.RUN_CFG_EN n = true → (s.runnel n).disabling = false →
    (s.runnel n).words ≠ [] → s.released = true → Completes (.runnelDisable n d) s fun t =>
      (t.runnel n).words = [] ∧ (t.runnel n).disabling = true ∧ t.flag F.RUN_CFG_EN n = true ∧ t.runnelOn n = false) ∧
  (∀ (s : State) (n : Nat) (d : Word), let r := s.runnel n
    let rest := min r.words.length (s.recordRest n)
    let whole := (r.words.length - rest) / s.recLen n
    let bad := (((r.words.drop rest).take (whole * s.recLen n)).filter RunWord.isBad).length
    n < 256 → s.flag F.RUN_CFG_EN n = true → r.disabling = false → r.words ≠ [] → s.fld F.RUN_CFG_CLASS n = 0 →
    s.released = true → Completes (.runnelDisable n d) s fun t =>
      t.fld F.RUN_CNT_FLUSHED_COUNT = min 0xFFFFFFFF (s.fld F.RUN_CNT_FLUSHED_COUNT + whole) ∧
      t.fld F.RUN_CNT_BAD_WORD_COUNT = min 0xFFFFFFFF (s.fld F.RUN_CNT_BAD_WORD_COUNT + bad) ∧
      t.fld F.RUN_CNT_LOST_COUNT = min 0xFFFFFFFF (s.fld F.RUN_CNT_LOST_COUNT + (r.waiting.length + r.ringWaits.length))) ∧
  (∀ (s : State) (n : Nat), n < 256 → (s.runnel n).disabling = true → Completes (.runnelDisableDone n) s fun t =>
    t.flag F.RUN_CFG_EN n = false ∧ t.runnel n = { s.runnel n with disabling := false, flushEnd := none }) ∧
  (∀ (s : State) (n tag : Nat) (ws : List RunWord) (rest : List (Nat × List RunWord)), n < 256 → (s.runnel n).waiting = (tag, ws) :: rest →
    ws.length ≤ s.runnelRoom n → s.pwr.phase ≠ .failing → Completes (.enginePushRoom n) s fun t =>
      (t.runnel n).words = (s.runnel n).words ++ ws ∧ (t.runnel n).waiting = rest) ∧
  (∀ (s : State) (d : Word), let n := bits d.toNat 8 8
    let ws := (List.range (if d.getLsbD 1 then 4 else 1)).map fun i => mkWord (s.reg .RUN_HPUSH_W i 0) (d.getLsbD 2)
    let u := s.serveAll n
    ((s.runnel n).waiting = [] → (s.runnel n).ringWaits = [] → u = s) ∧
    (s.runnelOn n = true → ws.length ≤ u.runnelRoom n → s.released = true → Completes (.hostPush d) s fun t =>
      (t.runnel n).words = (u.runnel n).words ++ ws) ∧
    (s.runnelOn n = true → u.runnelRoom n < ws.length → s.released = true → Completes (.hostPush d) s fun t =>
      t.runnel n = u.runnel n ∧ t.flag F.RUN_EVT_N_OVERRUN n = true) ∧
    (s.runnelOn n = false → s.released = true → Completes (.hostPush d) s fun t => t = s.lostPush n)) ∧
  (∀ (s : State) (dt n : Nat), n < 256 → s.runnelOn n = true → 0 < (s.after dt).landedBefore n → s.released = true →
    Completes (.hostPop ⟨dt, n⟩) s fun t => (t.runnel n).words = (s.runnel n).words.drop 1) ∧
  (∀ (s : State) (dt n : Nat), n < 256 → (s.runnelOn n = false ∨ (s.after dt).landedBefore n = 0) → s.released = true →
    Completes (.hostPop ⟨dt, n⟩) s fun t => t.flag F.RUN_EVT_N_UNDERRUN n = true ∧ t.runnel n = s.runnel n) ∧
  (∀ (s : State) (n : Nat), (s.runnel n).flushEnd = none → (s.runTurn n).landed = 0 → s.landedBefore n = (s.runnel n).words.length) ∧
  (∀ (s : State) (n who : Nat) (ws : List RunWord), (s.land n ws who).landedBefore n ≤ (s.runnel n).words.length) ∧
  (∀ (s : State) (n : Nat), n < 256 → s.released = true → Completes (.runnelFlush n) s fun t => t.flag F.RUN_STAT_FLUSHING n = true ∧
    t.runnel n = { s.runnel n with flushEnd := some ((s.runnel n).words.length - (s.runnel n).pushPos) }) ∧
  (∀ (s : State) (n e : Nat), n < 256 → (s.runnel n).flushEnd = some e → s.recordRest n = 0 → Completes (.flushDone n) s fun t =>
    (t.runnel n).flushEnd = none ∧ t.flag F.RUN_STAT_FLUSHING n = false ∧ t.flag F.RUN_EVT_N_FLUSH_DONE n = true) ∧
  (∀ (s : State) (d : Word), s.flag F.RUN_HALLOC_RES_BUSY = false → s.released = true → Completes (.hostAlloc d) s fun t =>
    t.run.halloc = some (d.toNat % 2 ^ 15) ∧ t.flag F.RUN_HALLOC_RES_BUSY = true) ∧
  (∀ (s : State) (d : Word), s.flag F.RUN_HALLOC_RES_BUSY = true → s.released = true → Completes (.hostAlloc d) s fun t => t = s) ∧
  (∀ (s v : State) (len : Nat) (cs : List Nat), s.run.halloc = some len → 1 ≤ len → len ≤ 16384 →
    ({ s with run := { s.run with halloc := none } }.setFld F.RUN_HALLOC_RES_BUSY 0).allocFloor len = (some cs, v) →
    Completes .hostAllocDone s fun t => t.flag F.RUN_HALLOC_RES_VALID = true ∧
      t.fld F.RUN_HALLOC_RES_CELL = cs.getD 0 0 % 2 ^ 16 ∧ t.run = v.run) ∧
  (∀ (s : State) (len : Nat), s.run.halloc = some len → (len = 0 ∨ 16384 < len) → Completes .hostAllocDone s fun t =>
    t.flag F.RUN_HALLOC_RES_VALID = false ∧ t.flag F.RUN_HALLOC_RES_BUSY = false ∧ t.run.halloc = none) ∧
  (∀ (s : State) (d : Word), s.released = true → Completes (.hostFree d) s fun t => t = s.freeChain (d.toNat % 65536))

/-- Clepsydra's commands and events complete: R355–R370. Where the manual leaves a point open this rests on the model's choices: log entries
2, 5, 40, 55, 56, 94, 129, 149, 151, 154. -/
def Obligations.ClepsydraCommands : Prop :=
  (∀ (s : State) (k : Nat), s.clp.on = false → s.trimTicks = some k → Completes .cisternTrimCorrect s fun t =>
    t = s.advanceTo (tickTime (ticksAt s.clp.now + k))) ∧
  (∀ (s : State) (dt : Nat), s.released = true → Completes (.nowSRead dt) s fun t => t.fld F.CLP_NOW_NS_NS = (s.after dt).fullNs % 10 ^ 9) ∧
  (∀ (s : State) (dt : Nat), s.timeHeld = false → s.fld F.CLP_SET_NS_NS ≤ 999999999 → s.released = true → Completes (.set dt) s fun t =>
    t.flag F.CLP_STAT_FT_VALID = true ∧ t.flag F.CLP_CIS_CTL_TIME_OK = true ∧
      t = (((s.after dt).jumpTo ((s.fld F.CLP_SET_S_SEC * 10 ^ 9 + s.fld F.CLP_SET_NS_NS) * 2 ^ 40)).setFld
        F.CLP_STAT_FT_VALID 1).setFld F.CLP_CIS_CTL_TIME_OK 1) ∧
  (∀ (s : State) (dt : Nat), (s.timeHeld = true ∨ 999999999 < s.fld F.CLP_SET_NS_NS) → s.released = true → Completes (.set dt) s fun t =>
    t = (s.after dt).raise F.CLP_EVT_CMD_REFUSED) ∧
  (∀ (s : State) (dt : Nat), let q : Int := (s.after dt).clp.ft + s.sfld F.CLP_STEP_NS * 2 ^ 40
    s.timeHeld = false → 0 ≤ q → q < 2 ^ 48 * 10 ^ 9 * 2 ^ 40 → s.released = true → Completes (.step dt) s fun t => t = (s.after dt).jumpTo q.toNat) ∧
  (∀ (s : State) (dt : Nat), s.timeHeld = true → s.released = true → Completes (.step dt) s fun t => t = (s.after dt).raise F.CLP_EVT_CMD_REFUSED) ∧
  (∀ (s : State) (q : Nat), (∀ j, (s.tx j).frames = []) → (s.jumpTo q).clp.ft = q ∧ (s.jumpTo q).clp.rejects = 0 ∧
    (s.jumpTo q).flag F.CLP_EVT_STEP_DONE = true) ∧
  (∀ (s : State) (dt : Nat), 10000 ≤ s.fld F.MAC_SLOT_SLOT_LEN_US → s.fld F.MAC_SLOT_SLOT_LEN_US ≤ 50000 → s.asnValid = false →
    s.released = true → Completes (.arm dt) s fun t => ∃ v : State, v.flag F.CLP_STAT_ARMED = true ∧ v.fullNs = (s.after dt).fullNs ∧
      t = if s.anchorNs ≤ v.fullNs then v.asnStart else v) ∧
  (∀ (s : State) (dt : Nat), (s.fld F.MAC_SLOT_SLOT_LEN_US < 10000 ∨ 50000 < s.fld F.MAC_SLOT_SLOT_LEN_US) →
    s.released = true → Completes (.arm dt) s fun t => t = (s.after dt).raise F.CLP_EVT_CMD_REFUSED) ∧
  (∀ (s : State) (dt : Nat), s.released = true → Completes (.disarm dt) s fun t => ∃ v : State, v.flag F.CLP_STAT_ARMED = false ∧ v.asnValid = false ∧
    t = v.macUpdate) ∧
  (∀ (s : State), s.flag F.CLP_STAT_ARMED = true → s.asnValid = false → Completes .asnStart s fun t =>
    t = (s.advanceToFull s.anchorNs).asnStart) ∧
  (∀ (s : State) (dt : Nat), s.released = true → Completes (.masterChg dt) s fun t => t.clp.rejects = 0 ∧ t.flag F.CLP_EVT_JUMP_PENDING = false ∧
    t.flag F.CLP_EVT_MASTER_CHANGE = true) ∧
  (∀ (s : State) (dt : Nat), s.released = true → Completes (.resetI dt) s fun t => t = (s.after dt).setFld F.CLP_RATE_I_RATE_I 0) ∧
  (∀ (s : State) (dt : Nat) (d : Word), s.fld F.CLP_STEER_CTL_SRC = 1 →
    d.toInt.natAbs ≤ s.fld F.CLP_STEER_LIM_JUMP_LIMIT_US * 1000 → s.released = true → Completes (.ofsSample dt d) s fun t =>
      t.fld F.CLP_STAT_STEER = 1 ∧ t.clp.lastOk = s.clp.now + dt ∧ t.clp.rejects = 0 ∧ t.clp.sampled = true ∧
        t.clp.slewRem = -(d.toInt / 2 ^ s.fld F.CLP_STEER_CTL_KP_SHIFT) * 2 ^ 40) ∧
  (∀ (s : State) (dt : Nat) (d : Word), s.fld F.CLP_STEER_CTL_SRC = 1 →
    s.fld F.CLP_STEER_LIM_JUMP_LIMIT_US * 1000 < d.toInt.natAbs → s.released = true → Completes (.ofsSample dt d) s fun t =>
      t.clp.rejects = s.clp.rejects + 1 ∧ t.flag F.CLP_EVT_SAMPLE_REJECT = true ∧
        (s.clp.rejects = 3 → t.flag F.CLP_EVT_JUMP_PENDING = true)) ∧
  (∀ (s : State) (d : Nat), s.clp.on = true → s.slewLeft = some d → Completes .slewEnd s fun t =>
    t.clp.slewRem = 0 ∧ t.clp.now = s.clp.now + d) ∧
  (∀ (s : State), s.steered = true → s.fld F.CLP_STAT_STEER ≠ 2 → Completes .holdover s fun t =>
    t.fld F.CLP_STAT_STEER = 2 ∧ t.flag F.CLP_EVT_HOLDOVER = true ∧
      t.clp.now = max s.clp.now (s.clp.lastOk + max 1 (s.fld F.CLP_STEER_LIM_LOSS) * 100000000) + 1) ∧
  (∀ (s : State) (dt : Nat), s.flag F.CLP_PPS_CTL_IN_EN = true → s.fld F.CLP_STEER_CTL_SRC ≠ 2 →
    let on := !s.flag F.CLP_PPS_CTL_IN_POL
    (∀ (held : Nat), 37 ≤ held → s.clp.ppsLevel ≠ some on → Completes (.ppsInEdge ⟨dt, on, held⟩) s fun t => t.clp.ppsIn = some t.clp.now ∧
      t.clp.now = s.clp.now + dt + 33 ∧ ∃ e : Int, -5 ≤ e ∧ e ≤ 5 ∧ t.fld F.CLP_PPS_TS_NS_NS =
        ((((s.after dt).fullNs : Int) + s.sfld F.CLP_PPS_CTL_IN_ADJ + e).toNat % 10 ^ 9)) ∧
    (∀ (held : Nat), 37 ≤ held → s.clp.ppsLevel ≠ some (!on) → Completes (.ppsInEdge ⟨dt, !on, held⟩) s fun t =>
      let v := (s.after dt).after 33
      t = { v with clp := { v.clp with ppsLevel := some !on } }) ∧
    (∀ (level : Bool) (held : Nat), (held ≤ 28 ∨ 37 ≤ held) → s.clp.ppsLevel = some level → Completes (.ppsInEdge ⟨dt, level, held⟩) s fun t =>
      t = s.after dt) ∧
    (∀ (level : Bool) (held : Nat), held ≤ 28 → s.clp.ppsLevel = some (!level) → Completes (.ppsInEdge ⟨dt, level, held⟩) s fun t =>
      t = s.after dt)) ∧
  (∀ (s : State) (at_ : Nat), s.clp.ppsIn = some at_ → Completes .ppsMiss s fun t =>
    t.clp.ppsIn = none ∧ t.flag F.CLP_EVT_PPS_MISS = true ∧ t.clp.now = max s.clp.now (at_ + 1001000000)) ∧
  (∀ (s : State), s.flag F.CLP_PPS_CTL_OUT_EN = true → s.clp.on = true → s.clp.ppsOut = none → Completes .ppsOutAssert s fun t =>
    t.clp.ppsOut = some t.clp.now ∧ t.clp.now = s.clp.now + s.nsUntilFull ((s.fullNs + 999999999) / 10 ^ 9 * 10 ^ 9)) ∧
  (∀ (s : State) (at_ : Nat), s.clp.ppsOut = some at_ → Completes .ppsOutRelease s fun t =>
    t.clp.ppsOut = none ∧ t.clp.now = max s.clp.now (at_ + max 1 (s.fld F.CLP_PPS_CTL_OUT_WIDTH) * 100000))

/-- The Ethernet commands and events complete: R383–R387. `p` is a port; Eddy's points are off where a frame passes one. Where the manual
leaves a point open this rests on the model's choices: log entries 2, 5, 58, 59, 124. -/
def Obligations.EthernetCommands : Prop :=
  (∀ (s : State) (p : Nat) (d : Word), p < 4 → s.flag F.ETH_CTL_EN p = false → s.released = true → Completes (.ethEnable p d) s fun t =>
    t.reg .ETH_CTL p 0 = d &&& 0xFFFFFF ∧ (t.ethPort p).used = (d.getLsbD 0 || (s.ethPort p).used)) ∧
  (∀ (s : State) (p : Nat) (d : Word), p < 4 → s.flag F.ETH_CTL_EN p = true → d.getLsbD 0 = false →
    s.released = true → Completes (.ethEnable p d) s fun t => ∃ (v : State) (cut : Bool), v.flag F.ETH_CTL_EN p = false ∧
      v.ethUp p = s.ethUp p ∧ t = v.ethLinkLost p cut) ∧
  (∀ (s : State) (dt p len : Nat) (bs : List Byte), p < 4 → s.ethUp p = true → s.pointOn p = false →
    let u := s.after dt
    let asn := if u.asnValid then u.asn else noAsn
    Completes (.ethRxFrame dt p len bs) s fun t =>
      t = (u.advance len).ethCheck p ((u.advance len).fullOfPast u.service) ⟨bs, u.service, asn⟩) ∧
  (∀ (s : State) (dt p len : Nat) (bs : List Byte), p < 4 → s.ethUp p = false → Completes (.ethRxFrame dt p len bs) s fun t =>
    t = s.after dt) ∧
  (∀ (s : State) (p x : Nat) (f : Passing), (f.bytes.length < 4 ∨
      ethFcs (f.bytes.take (f.bytes.length - 4)) ≠ f.bytes.drop (f.bytes.length - 4)) →
    s.ethCheck p x f = s.bump F.ETH_CNT_RX_FCS_COUNT 1 p) ∧
  (∀ (s : State) (dt p : Nat), p < 4 → (s.flag F.ETH_CTL_EN p = true ∨ (s.ethPort p).used = true) →
    (s.ethPort p).tx = none → (s.ethPort p).relay = [] → s.memReady 0 = true →
    Completes (.ethTxRecord dt p) s fun t => t = (s.after dt).ethPop p) ∧
  (∀ (s : State) (dt p : Nat), s.memReady 0 = false → Completes (.ethTxRecord dt p) s fun t => t = s.after dt) ∧
  (∀ (s : State) (dt p : Nat) (r : EthRelay) (rest : List EthRelay), p < 4 →
    (s.flag F.ETH_CTL_EN p = true ∨ (s.ethPort p).used = true) → (s.ethPort p).tx = none → (s.ethPort p).relay = r :: rest → s.memReady 0 = true →
    Completes (.ethTxRecord dt p) s fun t =>
      t.flag F.ETH_STAT_TX_BUSY p = true ∧ ∃ x, (t.ethPort p).tx = some x ∧ x.desc = none ∧ x.bad = false) ∧
  (∀ (s : State) (dt p : Nat) (x : EthTx), p < 4 → (s.ethPort p).tx = some x → x.desc = none → s.pointOn (4 + p) = false →
    Completes (.ethTxDone dt p) s fun t => (t.ethPort p).tx = none ∧ t.flag F.ETH_STAT_TX_BUSY p = false ∧
      t.eth.sent = s.eth.sent ++ [(p, ethWire x.bytes x.bad)]) ∧
  (∀ (s : State) (dt p w0 : Nat) (cookie : Word) (x : EthTx), p < 4 → (s.ethPort p).tx = some x → x.desc = some (w0, cookie) →
    s.pointOn (4 + p) = false → Completes (.ethTxDone dt p) s fun t => ∃ v : State, (v.ethPort p).tx = none ∧
      v.flag F.ETH_STAT_TX_BUSY p = false ∧ v.eth.sent = s.eth.sent ++ [(p, ethWire x.bytes x.bad)] ∧
        t = v.ethDone p w0 cookie (if x.bad then .poisoned else .ok) x.at_ true) ∧
  (∀ (s : State) (dt p : Nat), p < 4 → s.flag F.ETH_CTL_EN p = true → s.ethUp p = false → Completes (.ethLinkUp dt p) s fun t =>
    t.ethUp p = true ∧ t.flag F.ETH_STAT_BLOCK_LOCK p = true ∧
      t.flag F.ETH_STAT_FEC_LOCK p = decide (s.fld F.ETH_CTL_FEC p = 1 ∨ s.fld F.ETH_CTL_FEC p = 2) ∧
      t.flag F.ETH_EVT_LINK_UP p = true) ∧
  (∀ (s : State) (dt p : Nat) (cut : Bool), p < 4 → s.ethUp p = true → Completes (.ethLinkDown dt p cut) s fun t =>
    t.ethUp p = false ∧ t.flag F.ETH_EVT_LINK_DOWN p = true ∧ (t.ethPort p).relay = [] ∧
      (cut = true → t.fld F.ETH_CNT_RX_FCS_COUNT p = min 0xFFFFFFFF (s.fld F.ETH_CNT_RX_FCS_COUNT p + 1))) ∧
  (∀ (s : State) (dt p : Nat) (cut : Bool), p < 4 → s.ethUp p = false → Completes (.ethLinkDown dt p cut) s fun t => t = s.after dt)

/-- Register accesses and MSI-X (R6, R7, R11, R12, R422, R431, R527): a write of a register without a rule of its own follows its access
codes, an RW field taking the data, W1C bits clearing where it is 1, W1S bits setting, every other bit staying; a write that breaks the
width rule writes nothing; a read of an RC register gives the value it held and leaves its RC fields 0, and one that breaks the width rule
returns every bit 1 to the host; while the internal reset is held no access has an effect. Where the manual leaves a point open this rests
on the model's choices: log entries 5, 9, 11, 13, 15, 68, 150, 152. -/
def Obligations.RegisterCommands : Prop :=
  (∀ (s : State) (dt off w : Nat) (d : Word), widthOk off w = false → s.released = true → Completes (.registerWrite ⟨128, dt⟩ off w d) s fun t =>
    t = (s.after dt).raise F.HST_EVT_WIDTH_ERR) ∧
  (∀ (s : State) (req dt off w : Nat) (d : Word), widthOk off w = false → req ≠ 128 → s.released = true →
    Completes (.registerWrite ⟨req, dt⟩ off w d) s fun t => t = s.after dt) ∧
  (∀ (s : State) (req dt off w : Nat) (d : Word) (id : RegId) (i j : Nat), let u := s.after dt
    widthOk off w = true → busTarget off = .reg id i j →
    jomuterOnly id i = false → (∀ e, u.radioWrite id i j e = none ∧ u.coreWrite req id i j e = none ∧ u.sysWrite req id i e = none) →
    u.cycNow.evts = [] → s.released = true → Completes (.registerWrite ⟨req, dt⟩ off w d) s fun t =>
      t.reg id i j = id.written (s.reg id i j) (if id.wide then d else d &&& 0xFFFFFFFF) ∧
        ∀ id' i' j', ¬(id' = id ∧ i' = i ∧ j' = j) → t.reg id' i' j' = s.reg id' i' j') ∧
  (∀ (s : State) (req dt off w k : Nat) (d : Word) (id : RegId) (i : Nat), let u := s.after dt
    widthOk off w = true → busTarget off = .reg id i 0 →
    jomuterOnly id i = false → (∀ e, u.radioWrite id i 0 e = none ∧ u.coreWrite req id i 0 e = none ∧ u.sysWrite req id i e = none) →
    k < 64 → (id, i, k) ∈ u.cycNow.evts → (s.reg id i 0).getLsbD k = true → s.released = true →
    Completes (.registerWrite ⟨req, dt⟩ off w d) s fun t => d.getLsbD k = true → (t.reg id i 0).getLsbD k = true) ∧
  (∀ (id : RegId) (old d : Word) (k : Nat), k < 64 → (id.written old d).getLsbD k =
    (if (id.fields.any fun f => decide ((f.acc = .rw ∨ f.acc = .rwl) ∧ f.lo ≤ k ∧ k < f.lo + f.w)) = true then d.getLsbD k
    else if (id.fields.any fun f => decide (f.acc = .w1c ∧ f.lo ≤ k ∧ k < f.lo + f.w)) = true then old.getLsbD k && !d.getLsbD k
    else if (id.fields.any fun f => decide (f.acc = .w1s ∧ f.lo ≤ k ∧ k < f.lo + f.w)) = true then old.getLsbD k || d.getLsbD k
    else old.getLsbD k)) ∧
  (∀ (s : State) (req dt off w : Nat) (d : Word), widthOk off w = true → s.released = true → Completes (.registerWrite ⟨req, dt⟩ off w d) s
    fun t => t = (s.after dt).busWrite req off w d) ∧
  (∀ (s : State) (req dt off w : Nat) (d : Word), s.released = false → Completes (.registerWrite ⟨req, dt⟩ off w d) s (fun t => t = s.after dt) ∧
    Completes (.counterRead ⟨⟨req, dt⟩, off, w⟩) s (fun t => t = s.after dt) ∧ s.busRead req off = (0, s)) ∧
  (∀ (s : State) (dt off w : Nat) (d : Word), widthOk off w = true → busTarget off = .none → s.released = true →
    Completes (.registerWrite ⟨128, dt⟩ off w d) s fun t => t = s.after dt) ∧
  (∀ (s : State) (req dt off w : Nat) (id : RegId) (i j : Nat), let r := (s.after dt).busRead req off
    widthOk off w = true → busTarget off = .reg id i j → id.accMask .rc ≠ 0 →
    s.released = true → Completes (.counterRead ⟨⟨req, dt⟩, off, w⟩) s fun t =>
      t = if req = 128 then r.2.hostAnswer (leBytes w r.1.toNat) false else r.2) ∧
  (∀ (s : State) (req dt off w : Nat) (id : RegId) (i j : Nat), let late := (s.after dt).lateCount id i j
    widthOk off w = true → busTarget off = .reg id i j → id.accMask .rc ≠ 0 →
    jomuterOnly id i = false → id ≠ .OBS_THR_CNT → s.released = true → Completes (.counterRead ⟨⟨req, dt⟩, off, w⟩) s fun t =>
      (req = 128 → t.hst.readData = leBytes w (s.reg id i j - BitVec.ofNat 64 late).toNat ∧ t.hst.readBad = false) ∧
        ((s.after dt).busRead req off).1 = s.reg id i j - BitVec.ofNat 64 late ∧
        t.reg id i j = (s.reg id i j &&& ~~~(id.accMask .rc)) ||| BitVec.ofNat 64 late ∧
        (late = 0 → (∀ f ∈ id.fields, f.acc = .rc → bits (t.reg id i j).toNat f.lo f.w = 0) ∧
          ∀ f ∈ id.fields, f.acc ≠ .rc → bits (t.reg id i j).toNat f.lo f.w = bits (s.reg id i j).toNat f.lo f.w) ∧
        ∀ id' i' j', ¬(id' = id ∧ i' = i ∧ j' = j) → t.reg id' i' j' = s.reg id' i' j') ∧
  (∀ (s : State) (id : RegId) (i j : Nat), s.cycNow.incs = [] → s.lateCount id i j = 0) ∧
  (∀ (s : State) (req dt off w : Nat) (id : RegId) (i j : Nat), widthOk off w = true → busTarget off = .reg id i j → id.accMask .rc = 0 →
    s.released = true → Completes (.counterRead ⟨⟨req, dt⟩, off, w⟩) s fun t => t = s.after dt) ∧
  (∀ (s : State) (dt off w : Nat), widthOk off w = false → s.released = true → Completes (.counterRead ⟨⟨128, dt⟩, off, w⟩) s fun t =>
    t.flag F.HST_EVT_WIDTH_ERR = true ∧ t.hst.readData = List.replicate w 0xFF ∧ t.hst.readBad = false ∧
    t = ((s.after dt).raise F.HST_EVT_WIDTH_ERR).hostAnswer (List.replicate w 0xFF) false) ∧
  (∀ (s : State) (req dt off w : Nat), widthOk off w = false → req ≠ 128 → s.released = true →
    Completes (.counterRead ⟨⟨req, dt⟩, off, w⟩) s fun t => t = s.after dt) ∧
  (∀ (s : State) (req off : Nat) (id : RegId) (i j : Nat), s.released = true → busTarget off = .reg id i j → jomuterOnly id i = false →
    id ∉ [RegId.MAC_ASN, .MAC_CELL_DATA, .MAC_DRIFT_DATA, .OCL_J_DBG_DATA, .OCL_DBG_DATA, .RUN_HPOP, .CLP_NOW_S, .OBS_THR_CNT, .CHT_EVT] →
    id.accMask .rc = 0 → s.busRead req off = (s.regView id i j, s)) ∧
  (∀ (s : State) (en m : Bool), s.released = true → Completes (.msixEnable en m) s fun t => t.flag F.HST_STAT_MSIX_EN = en ∧ t.hst.funcMask = m ∧
    t.mem = s.mem) ∧
  (∀ (s : State) (v : Nat), v < 64 → s.released = true → Completes (.msixUnmask v) s fun t => (SMap.getD t.hst.msix v {}).mask = false ∧
    (SMap.getD t.hst.msix v {}).addr = (SMap.getD s.hst.msix v {}).addr ∧ t.regs = s.regs)

/-- The host's link, configuration space, DMA rings and packet-memory window complete: R388–R399, R433, R550. Where the manual leaves a point
open this rests on the model's choices: log entries 2, 5, 9, 60, 68, 149, 150, 154. -/
def Obligations.HostCommands : Prop :=
  (∀ (s : State) (dt o n : Nat) (bs : List Byte), s.flag F.HST_STAT_LINK_UP = true → s.hst.cfg.d3hot = false →
    (Completes (.bar2Access dt true o n bs) s fun t => t = (s.after dt).bar2Write (o % 2 ^ 24) (bs.take 4096)) ∧
    (s.memReady 0 = true → Completes (.bar2Access dt false o n bs) s fun t => t = (s.after dt).bar2Read (o % 2 ^ 24) (min n 4096)) ∧
    (s.memReady 0 = false → Completes (.bar2Access dt false o n bs) s fun t => t = s.after dt)) ∧
  (∀ (s : State) (o n : Nat), o + n ≤ 2 ^ 24 → (∀ x, s.eccOf 0 x = none) → s.bar2Read o n = s.hostAnswer (s.memBytes 0 o n) false) ∧
  (∀ (s : State) (dt o n : Nat) (write : Bool) (bs : List Byte), (s.flag F.HST_STAT_LINK_UP = false ∨ s.hst.cfg.d3hot = true) →
    Completes (.bar2Access dt write o n bs) s fun t => t = s.after dt) ∧
  (∀ (s : State) (dt : Nat) (popped : List Nat), s.flag F.HST_STAT_LINK_UP = true → Completes (.pcieLinkDown dt popped) s fun t =>
    t.flag F.HST_STAT_LINK_UP = false ∧ t.fld F.HST_STAT_WIDTH = 0 ∧ t.flag F.HST_EVT_LINK_DOWN = true ∧
      ∀ n, n < 16 → t.flag F.HST_RING_CTL_EN n = false) ∧
  (∀ (s : State) (dt held : Nat) (popped : List Nat), s.released = true → 100 ≤ held →
    ∀ c ∈ [Instr.hotReset dt popped, .pciePerst ⟨dt, held⟩ popped], Completes c s fun t =>
    t.flag F.HST_STAT_LINK_UP = false ∧ t.flag F.HST_STAT_MSIX_EN = false ∧ t.flag F.HST_STAT_BUS_MASTER = false ∧
      t.hst.funcMask = false ∧ t.hst.cfg = {} ∧ t.flag F.HST_EVT_HOT_RESET = true ∧ ∀ n, n < 16 → t.flag F.HST_RING_CTL_EN n = false) ∧
  (∀ (s : State) (dt held : Nat) (popped : List Nat), held ≤ 19 → Completes (.pciePerst ⟨dt, held⟩ popped) s fun t => t = s.after dt) ∧
  (∀ (s : State) (dt held : Nat) (popped : List Nat), s.released = false → 100 ≤ held →
    Completes (.pciePerst ⟨dt, held⟩ popped) s fun t => t = (s.after dt).after 100) ∧
  (∀ (s : State) (dt : Nat) (popped : List Nat), s.released = true → Completes (.busMasterClear dt ⟨true, none, none, {}⟩ popped) s fun t =>
    t = (s.after dt).setFld F.HST_STAT_BUS_MASTER 1) ∧
  (∀ (s : State) (dt : Nat) (popped : List Nat), s.flag F.HST_STAT_BUS_MASTER = true →
    s.released = true → Completes (.busMasterClear dt ⟨false, none, none, {}⟩ popped) s fun t => t.flag F.HST_STAT_BUS_MASTER = false ∧
      ∀ n, n < 16 → t.flag F.HST_RING_CTL_EN n = false) ∧
  (∀ (s : State) (dt mps mrrs : Nat) (d3 : Bool) (popped : List Nat), mps ∈ [128, 256, 512] →
    mrrs ∈ [128, 256, 512, 1024, 2048, 4096] → s.released = true → Completes (.busMasterClear dt ⟨true, some (mps, mrrs, d3), none, {}⟩ popped) s fun t =>
      t.hst.cfg = { s.hst.cfg with maxPayload := mps, maxRead := mrrs, d3hot := d3 } ∧ t.flag F.HST_STAT_BUS_MASTER = true ∧ (d3 = true → t.dmaOk = false)) ∧
  (∀ (s : State) (dt b0 b2 : Nat) (w : AerWrite) (popped : List Nat), let a := s.hst.cfg.aer
    let cor := a.cor ||| (w.corrected &&& linkErrors)
    b0 < 2 ^ 64 → b2 < 2 ^ 64 → s.released = true → Completes (.busMasterClear dt ⟨true, none, some (b0, b2), w⟩ popped) s fun t =>
      t.configRead 0x10 = some (b0 % 2 ^ 32 / 2 ^ 27 * 2 ^ 27 + 4) ∧ t.configRead 0x14 = some (b0 / 2 ^ 32) ∧
      t.configRead 0x18 = some (b2 % 2 ^ 32 / 2 ^ 24 * 2 ^ 24 + 12) ∧ t.configRead 0x1C = some (b2 / 2 ^ 32) ∧
      t.hst.cfg.aer.status = a.status - (a.status &&& w.clearStatus) ∧ (w.masks = none →
        t.aerRegs = [a.uncor - (a.uncor &&& w.clearUncor), a.mask, a.severity, cor - (cor &&& w.clearCor), a.corMask, a.first] ++ a.header) ∧
      ∀ m v k, m < 2 ^ 32 → v < 2 ^ 32 → k < 2 ^ 32 → w.masks = some (m, v, k) →
        t.aerRegs = [a.uncor - (a.uncor &&& w.clearUncor), m, v, cor - (cor &&& w.clearCor), k, a.first] ++ a.header) ∧
  (∀ (s : State), s.configRead 0 = some 0x64161F4C ∧ (s.configRead 8).map (fun v => v / 256) = some 0x0D8000 ∧
    s.configRead 0x2C = some (s.fld F.HST_SSID_SSVID + s.fld F.HST_SSID_SSID * 2 ^ 16)) ∧
  (∀ (s : State) (dt width speed : Nat), s.flag F.HST_STAT_LINK_UP = false → width ∈ [1, 2, 4] → 1 ≤ speed → speed ≤ 4 →
    s.released = true → Completes (.pcieLinkUp dt width speed) s fun t => t.flag F.HST_STAT_LINK_UP = true ∧ t.fld F.HST_STAT_WIDTH = width ∧
      t.fld F.HST_STAT_SPEED = speed ∧ t.flag F.HST_EVT_LINK_UP = true) ∧
  (∀ (s : State) (n : Nat) (d : Word), n < 16 → s.flag F.HST_RING_CTL_EN n = false → s.fld F.HST_RING_BASE_ADDR n % 4096 = 0 →
    s.fld F.HST_RING_WB_ADDR n % 8 = 0 → 6 ≤ bits d.toNat 2 5 → bits d.toNat 2 5 ≤ 16 → s.released = true → Completes (.ringEnable n d) s fun t =>
      t.flag F.HST_RING_CTL_EN n = true ∧ t.fld F.HST_RING_CTL_SIZE n = bits d.toNat 2 5 ∧ t.fld F.HST_RING_PTR_HEAD n = 0 ∧
        t.fld F.HST_RING_PTR_TAIL n = 0 ∧ t.ring n = {}) ∧
  (∀ (s : State) (n : Nat) (d : Word), n < 16 → s.flag F.HST_RING_CTL_EN n = false → s.fld F.HST_RING_BASE_ADDR n % 4096 ≠ 0 →
    s.released = true → Completes (.ringEnable n d) s fun t => t.flag F.HST_RING_CTL_EN n = false ∧ t.flag F.HST_RING_CTL_ERR n = true) ∧
  (∀ (s : State) (n : Nat) (busy : Bool) (d : Word), n < 16 → s.flag F.HST_RING_CTL_EN n = true →
    s.released = true → Completes (.ringDisable n busy d) s fun t => t.flag F.HST_RING_CTL_EN n = false ∧ t.ring n = { stopping := busy }) ∧
  (∀ (s : State) (n idx : Nat), let q := (idx + s.ringSize n - s.fld F.HST_RING_PTR_HEAD n) % s.ringSize n
    n < 16 → idx < s.ringSize n → idx < 65536 → s.flag F.HST_RING_CTL_EN n = true →
    (s.flag F.HST_RING_CTL_DIR n = false → s.ringUsed n ≤ q → s.released = true → Completes (.ringDoorbell n idx) s fun t =>
      t.fld F.HST_RING_PTR_TAIL n = idx) ∧
    (s.flag F.HST_RING_CTL_DIR n = true → q ≤ s.ringUsed n → s.released = true → Completes (.ringDoorbell n idx) s fun t =>
      t.fld F.HST_RING_PTR_HEAD n = idx) ∧
    ((if s.flag F.HST_RING_CTL_DIR n then s.ringUsed n < q else q < s.ringUsed n) → s.released = true → Completes (.ringDoorbell n idx) s fun t =>
      t.flag F.HST_RING_CTL_EN n = false ∧ t.flag F.HST_RING_CTL_ERR n = true)) ∧
  (∀ (s : State) (n idx : Nat), n < 16 → s.ringSize n ≤ idx → idx < 65536 → s.flag F.HST_RING_CTL_EN n = true →
    s.released = true → Completes (.ringDoorbell n idx) s fun t => t.flag F.HST_RING_CTL_EN n = false ∧ t.flag F.HST_RING_CTL_ERR n = true) ∧
  (∀ (s : State) (dt n : Nat) (ws : List Word), let q := s.ringRunnel n
    n < 16 → s.ringRuns n = true → s.flag F.HST_RING_CTL_DIR n = false → ws.length = s.recLen q → ws.length ≤ s.ringUsed n →
    (s.runnel q).ringWaits = [] → (s.ring n).beyond = none → Completes (.ringDmaReadDone dt n ws) s fun t => ∃ v : State, v.fld F.HST_RING_PTR_HEAD n =
      (s.fld F.HST_RING_PTR_HEAD n + ws.length) % s.ringSize n % 2 ^ F.HST_RING_PTR_HEAD.w ∧
        t = (v.ringPush q (ws.map fun w => mkWord w)).ringMoved n ((s.fld F.HST_RING_PTR_HEAD n + ws.length) % s.ringSize n)) ∧
  (∀ (s : State) (dt n : Nat), let q := s.ringRunnel n
    n < 16 → s.ringRuns n = true → s.flag F.HST_RING_CTL_DIR n = true → s.runnelOn q = true → s.recLen q ≤ s.poppable q →
    s.recLen q + s.ringUsed n + 1 ≤ s.ringSize n → (s.ring n).beyond = none → Completes (.ringRecordPop dt n) s fun t =>
      (t.runnel q).words = (s.runnel q).words.drop (s.recLen q) ∧
        t.fld F.HST_RING_PTR_TAIL n = (s.fld F.HST_RING_PTR_TAIL n + s.recLen q) % s.ringSize n % 2 ^ F.HST_RING_PTR_TAIL.w) ∧
  (∀ (s : State) (n at_ : Nat), n < 16 → (s.ring n).since = some at_ → Completes (.ringCoalTimer n) s fun t =>
    (t.ring n).count = 0 ∧ (t.ring n).since = none ∧ (t.ring n).raised = true ∧
      t.clp.now = max s.clp.now (at_ + max 1 (s.fld F.HST_RING_COAL_COAL_US n) * 1000) + 1) ∧
  (∀ (s : State) (e : DmaFailure) (n : Nat), n < 16 → s.ringRuns n = true → s.flag F.HST_RING_CTL_DIR n = false → Completes (.ringDmaError e n) s
    fun t => t.hst.cfg.aer = s.hst.cfg.aer.dmaError e.cause ∧ ∃ v : State, v.flag F.HST_RING_CTL_EN n = false ∧ v.flag F.HST_RING_CTL_ERR n = true ∧ v.flag F.HST_EVT_DMA_ERR = true ∧
      t = v.siltPost 209 n) ∧
  (∀ (a : AerState), (a.dmaError .timeout).uncor = a.uncor ||| 2 ^ 14 ∧ (∀ h, (a.dmaError (.poisoned h)).uncor = a.uncor ||| 2 ^ 12) ∧
    (a.dmaError .unsupported).status = a.status ||| 2 ^ 13 ∧ (a.dmaError .abort).status = a.status ||| 2 ^ 12) ∧
  (∀ (s : State) (dt : Nat), let n := s.fld F.HST_IN_RUNNEL_RUNNEL
    s.runnelOn n = true → 2 ≤ s.poppable n → Completes (.hostIngressRecord dt) s fun t =>
      t = ((s.after dt).popWords n 2).2.takeIngress ((s.after dt).popWords n 2).1)

/-- The SPI transactions complete: R400, R401, R433, R444; while the internal reset is held SPI_MISO carries nothing (R431). The flash
commands complete: R402–R406. `i` is an interface. Where the manual leaves a point open this rests on the model's choices: log entries 2,
5, 11, 35, 68, 71, 72, 96, 149. -/
def Obligations.SpiAndFlash : Prop :=
  ((∀ (s : State) (dt off : Nat), ∀ e ∈ [(Instr.spiRegRead32 dt off true, 4), (.spiRegRead64 dt off true, 8)],
    widthOk off e.2 = true → s.readReady off = true → s.released = true → Completes e.1 s fun t =>
      t = ((s.after dt).busRead 128 off).2.spiEnd 0 (leBytes e.2 ((s.after dt).busRead 128 off).1.toNat ++ [0])) ∧
  (∀ (s : State) (dt off : Nat) (r : Bool), ∀ e ∈ [(Instr.spiRegRead32 dt off r, 4), (.spiRegRead64 dt off r, 8)],
    widthOk off e.2 = false → s.released = true → Completes e.1 s fun t => t = (s.after dt).spiEnd 2 (List.replicate e.2 0xFF ++ [2])) ∧
  (∀ (s : State) (dt off : Nat) (r : Bool), ∀ e ∈ [(Instr.spiRegRead32 dt off r, 4), (.spiRegRead64 dt off r, 8)],
    widthOk off e.2 = true → (r = false ∨ s.readReady off = false) → s.released = true → Completes e.1 s fun t => t.hst.spi = 1 ∧ t.hst.spiOut = List.replicate e.2 0xFF ++ [1] ∧
      t.flag F.HST_EVT_SPI_ERR = true) ∧
  (∀ (s : State) (dt off : Nat) (d : Word),
    (widthOk off 4 = true → s.released = true → Completes (.spiRegWrite32 dt off d) s fun t =>
      t = ((s.after dt).busWrite 128 off 4 (d &&& 0xFFFFFFFF)).spiEnd 0) ∧
    (widthOk off 4 = false → s.released = true → Completes (.spiRegWrite32 dt off d) s fun t => t = (s.after dt).spiEnd 2) ∧
    (widthOk off 8 = true → s.released = true → Completes (.spiRegWrite64 dt off d) s fun t => t = ((s.after dt).busWrite 128 off 8 d).spiEnd 0) ∧
    (widthOk off 8 = false → s.released = true → Completes (.spiRegWrite64 dt off d) s fun t => t = (s.after dt).spiEnd 2)) ∧
  (∀ (s : State) (dt o n : Nat), s.memReady 0 = true → (∀ x, s.eccOf 0 x = none) → s.released = true →
    Completes (.spiPktRead ⟨dt, true⟩ o n) s fun t => t = { s.after dt with hst := { (s.after dt).hst with
      spi := 0, spiOut := (spiRuns o n).flatMap fun r => s.memBytes 0 r.1 r.2 } }) ∧
  (∀ (s : State) (r : PktRead) (o n : Nat), (r.ready = false ∨ s.memReady 0 = false) → s.released = true → Completes (.spiPktRead r o n) s fun t =>
    t.hst.spi = 1 ∧ t.hst.spiOut = List.replicate n 0xFF ∧ t.flag F.HST_EVT_SPI_ERR = true ∧ t.clp.now = s.clp.now + r.dt) ∧
  (∀ (s : State) (dt o : Nat) (bs : List Byte), o + bs.length ≤ 2 ^ 24 → (∀ x, s.eccOf 0 x = none) →
    s.flag F.MEM_FLIP_CTL_ARM = false → s.released = true → Completes (.spiPktWrite dt o bs) s fun t => t.hst.spi = 0 ∧
      ∀ m a, a < 2 ^ 24 → t.memByte m a = if m = 0 ∧ o ≤ a ∧ a < o + bs.length then bs.getD (a - o) 0 else s.memByte m a) ∧
  (∀ (s : State) (dt : Nat), s.released = true → Completes (.spiStatusRead dt) s fun t =>
    t = { s.after dt with hst := { (s.after dt).hst with spiOut := [BitVec.ofNat 8 s.hst.spi] } }) ∧
  (∀ (s : State) (dt : Nat), s.released = true → Completes (.spiBadTransaction dt) s fun t => t.hst.spi = 3 ∧ t.flag F.HST_EVT_SPI_ERR = true ∧
    t.fld F.HST_CNT_SPI_ERR_COUNT = min 0xFFFFFFFF (s.fld F.HST_CNT_SPI_ERR_COUNT + 1)) ∧
  (∀ (s : State) (dt o n : Nat) (d : Word) (r : Bool) (bs : List Byte), s.released = false →
    ∀ c ∈ [Instr.spiRegRead32 dt o r, .spiRegRead64 dt o r, .spiRegWrite32 dt o d, .spiRegWrite64 dt o d, .spiPktRead ⟨dt, r⟩ o n,
        .spiPktWrite dt o bs, .spiStatusRead dt, .spiBadTransaction dt], Completes c s fun t =>
      t = { s.after dt with hst := { (s.after dt).hst with spiOut := [] } })) ∧
  ((∀ (s : State) (dt mode density : Nat), s.released = true → s.fls.discovered = false → (mode = 1 ∨ mode = 2) → s.fls.busy = none →
    s.fls.waiting = [] → Completes (.flashDiscoveryDone dt mode density) s fun t =>
      t.fld F.FLS_STAT_MODE = mode ∧ t.fld F.FLS_STAT_DENSITY = density % 4 ∧ t.fls.discovered = true ∧
        t.clp.now ≤ max s.clp.now (s.pwr.released + 2000000)) ∧
  (∀ (s : State) (dt mode density : Nat), (s.released = false ∨ s.fls.discovered = true) →
    Completes (.flashDiscoveryDone dt mode density) s fun t => t = s.after dt) ∧
  (∀ (s : State) (dt density : Nat), s.released = true → s.fls.discovered = false → s.fld F.FLS_STAT_MODE = 0 → Completes (.flashDiscoveryDone dt 0 density) s fun t =>
    t.fld F.FLS_STAT_MODE = 0 ∧ t.flag F.FLS_EVT_DISCOVER_FAIL = true) ∧
  (∀ (s : State) (i len : Nat), i < 2 → len < 512 → s.flag F.FLS_CSTAT_BUSY i = false → s.released = true →
    let u := s.setFld F.FLS_CSTAT_BUSY 1 i
    let a := s.fld F.FLS_ADDR_ADDR i
    let src := if i = 0 then 1 else 4
    ∀ e ∈ [(Instr.flsRead i len, 1, FlsKind.read, len), (.flsProgram i len, 2, .program, len), (.erase4k i, 3, .erase4k, 0),
        (.erase64k i, 4, .erase64k, 0)],
      (u.flsRefusal i e.2.1 e.2.2.2 a = none → Completes e.1 s fun t => t = u.flsSubmit
        { src := src, kind := e.2.2.1, addr := a, len := e.2.2.2, data := (s.flsBuf i).take e.2.2.2 }) ∧
      (∀ r, u.flsRefusal i e.2.1 e.2.2.2 a = some r → Completes e.1 s fun t => ∃ v : State, t = v.flsFinish i false r ∧
        v.fls = s.fls ∧ (r = 1 → v.fld F.FLS_CNT_REFUSED_COUNT = min 0xFFFFFFFF (s.fld F.FLS_CNT_REFUSED_COUNT + 1)))) ∧
  (∀ (s : State) (i len : Nat), i < 2 → s.flag F.FLS_CSTAT_BUSY i = true → s.released = true → Completes (.flsRead i len) s fun t =>
    t = s.raise F.FLS_EVT_CMD_IGNORED) ∧
  (∀ (s : State) (w : FlsOp), s.fls.busy = none → s.fls.waiting = [] → s.fls.suspended = none → s.fld F.FLS_STAT_MODE ≠ 0 →
    s.obs.unread = false → (w.src = 0 ∨ s.flushHolds = false) → (s.flsSubmit w).fls.busy = some w ∧ (s.flsSubmit w).flag F.FLS_STAT_OP_BUSY = true) ∧
  (∀ (s : State) (w b : FlsOp), s.fls.busy = some b → s.fls.startedAt = some s.clp.now → 1 ≤ w.src → w.src < b.src → s.fls.waiting = [] →
    s.fls.suspended = none → s.fld F.FLS_STAT_MODE ≠ 0 → s.obs.unread = false → s.flushHolds = false →
    (s.flsSubmit w).fls.busy = some w ∧ (s.flsSubmit w).fls.waiting = [b]) ∧
  (∀ (s : State) (dt : Nat) (w : FlsOp), s.obs.unread = false → s.fls.busy = some w → w.src = 1 → s.fls.waiting = [] → s.fls.suspended = none →
    s.fld F.FLS_STAT_MODE ≠ 0 → Completes (.flsCmdDone dt false) s fun t =>
      t.fls.busy = none ∧ t.flag F.FLS_STAT_OP_BUSY = false ∧ t.flag F.FLS_CSTAT_BUSY 0 = false ∧ t.fld F.FLS_CSTAT_STATUS 0 = 0 ∧
        t.flag F.FLS_EVT_CMD_DONE_0 = true))

/-- A full reset (R430, R431): every register but those of the Cistern, the causes, the counts and the live supply inputs reads its reset
value, the blocks are empty, and the Cistern, the fuses, the locks, the owner records and the count of what left the device stay. Where
the manual leaves a point open this rests on the model's choices: log entries 36, 68, 70, 137. -/
def Obligations.FullReset : Prop :=
  (∀ (s : State) (cause : Nat) (id : RegId) (i j : Nat),
    id ∉ [RegId.CLP_CIS_CTL, .PWR_ALARM, .PWR_DORMANT, .GLB_RESET_CAUSE, .GLB_RESET_COUNT, .PWR_STAT] →
    (s.fullReset cause).reg id i j = resetAt id i j) ∧
  (∀ (s : State) (cause : Nat), let t := s.fullReset cause
    t.pwr.phase = .reset ∧ t.run = {} ∧ t.ocl = {} ∧ t.mac = {} ∧ t.slc = {} ∧ t.spw = {} ∧ t.plm = {} ∧ t.skim = none ∧
      t.clp.on = false ∧ t.clp.now = s.clp.now ∧ t.clp.cisTicks = s.clp.cisTicks ∧ t.cht.fuses = s.cht.fuses ∧
      t.grt.provLock = s.grt.provLock ∧ t.bot.owners = s.bot.owners ∧ t.eth.sent = s.eth.sent ∧
      t.reg .GLB_RESET_CAUSE 0 0 = BitVec.ofNat 64 cause ∧ t.reg .CLP_CIS_CTL 0 0 = s.reg .CLP_CIS_CTL 0 0 ∧
      t.fld F.GLB_RESET_COUNT_RESETS = (s.fld F.GLB_RESET_COUNT_RESETS + 1) % 2 ^ 16 ∧
      t.fld F.GLB_RESET_COUNT_CYCLES = s.fld F.GLB_RESET_COUNT_CYCLES)

/-- Resets, their release and the power-fail sequence complete: R416, R422–R425, R428–R433, R435, with the input filters (R537, R538). While
the internal reset is held a register access has no effect. That RESET_RELEASE leaves DRBG_OK set is the model's reading of R260 (log
entry 53). Where the manual leaves a point open this rests on the model's choices: log entries 2, 5, 11, 53, 68, 69, 70, 116, 149, 155. -/
def Obligations.ResetCommands : Prop :=
  (∀ (s : State) (dt : Nat) (strap1 strap0 : Bool), s.pwr.phase = .reset → s.pwr.mains = true → s.failReset = false → s.pwr.vbatLost = false →
    s.flag F.PWR_STAT_BOR = false → (s.flag F.PWR_STAT_PFAIL = false ∨ s.flag F.PWR_PFAIL_CTL_PFAIL_EN = false) →
    Completes (.resetRelease dt strap1 strap0) s fun t => ∃ v : State, v.pwr.phase = .run ∧ v.pwr.released = v.clp.now ∧
      v.clp.now = s.clp.now + max dt s.resetLeast ∧ v.pwr.slew = (if s.strapsSampled then 2 * strap1.toNat + strap0.toNat else s.pwr.slew) ∧ v.mem = [] ∧ v.ecc = [] ∧
      v.flag F.GRT_STAT_DRBG_OK = true ∧ v.fld F.GLB_RESET_COUNT_CYCLES = s.fld F.GLB_RESET_COUNT_CYCLES ∧
      t = v.siltPost 1 (s.reg .GLB_RESET_CAUSE 0 0).toNat) ∧
  (∀ (s : State) (dt : Nat) (strap1 strap0 : Bool), (s.pwr.phase ≠ .reset ∨ s.pwr.mains = false ∨ s.failReset = true) →
    Completes (.resetRelease dt strap1 strap0) s fun t => t = s) ∧
  (∀ (s : State) (dt : Nat) (strap1 strap0 : Bool), s.pwr.phase = .reset → s.pwr.mains = true → s.failReset = false → s.pwr.vbatLost = false →
    s.flag F.PWR_STAT_BOR = true → s.flag F.PWR_STAT_PFAIL = false → Completes (.resetRelease dt strap1 strap0) s fun t =>
      ∃ v : State, v.pwr.phase = .run ∧ v.clp.now = s.clp.now + max dt s.resetLeast ∧ t = v.pfailStart 8) ∧
  (∀ (s : State) (d : Word), s.pwr.phase = .run → d.getLsbD 0 = true → s.flag F.PWR_STAT_PFAIL = true → s.flag F.PWR_STAT_BOR = false →
    s.pfailCtlWrite d = (s.setReg .PWR_PFAIL_CTL 0 0 1).pfailStart 4) ∧
  (∀ (s : State) (dt : Nat) (strap1 strap0 : Bool), s.pwr.phase = .reset → s.pwr.mains = true → s.pwr.vbatLost = false →
    s.failReset = true → Completes (.powerRestart dt strap1 strap0) s fun t => ∃ v : State, v.pwr.phase = .run ∧
      v.clp.now = s.clp.now + (dt + 1000000) ∧ v.pwr.released = v.clp.now ∧ v.mem = [] ∧ v.flag F.PWR_STAT_PFAIL = false ∧
      v.flag F.PWR_STAT_BOR = false ∧ t = v.siltPost 1 (s.reg .GLB_RESET_CAUSE 0 0).toNat) ∧
  (∀ (s : State) (dt m : Nat), s.released = true → (memWords m).isSome = true → m ∉ s.pwr.inited →
    Completes (.memoryInitDone dt m) s fun t => t.pwr.inited = insertSorted m s.pwr.inited ∧
      t.clp.now = max s.clp.now (min (s.clp.now + dt) (s.pwr.released + if m = 8 then 500000 else 8000000))) ∧
  (∀ (s : State) (d : Word), s.pwr.phase = .run → bits d.toNat 16 16 = 0x6416 → s.released = true → Completes (.softReset d) s fun t =>
    t = s.goodbyeSend.fullReset 16) ∧
  (∀ (s : State) (d : Word), bits d.toNat 16 16 ≠ 0x6416 → s.released = true → Completes (.softReset d) s fun t => t = s) ∧
  (∀ (s : State) (dt held : Nat), 100 ≤ held → s.pwr.phase = .run → Completes (.rstNAssert ⟨dt, held⟩) s fun t =>
    t = ((s.after dt).after 100).fullReset 2) ∧
  (∀ (s : State) (dt held : Nat), 100 ≤ held → s.pwr.phase = .failing → Completes (.rstNAssert ⟨dt, held⟩) s fun t =>
    t.pwr.causes.testBit 1 = true ∧ t.pwr.phase = .failing ∧ t.regs = s.regs) ∧
  (∀ (s : State) (dt held : Nat), 100 ≤ held → s.released = false → Completes (.rstNAssert ⟨dt, held⟩) s fun t =>
    t.pwr.phase = s.pwr.phase ∧ t.regs = s.regs ∧ t.strapsSampled = true) ∧
  (∀ (s : State) (dt held : Nat), held ≤ 19 → Completes (.rstNAssert ⟨dt, held⟩) s fun t => t = s.after dt) ∧
  (∀ (s : State) (j k n req : Nat) (e : Bool) (d : Word), s.released = false →
    ∀ c ∈ [Instr.plmWindowWrite j d, .rillEnable j k d, .phyModeWrite j d, .cal j e, .carrierEnable j k d, .fuseBlow req, .macEnable d,
        .spwLoad k, .search req [], .recon n, .thrStart n d, .runnelEnable n d, .ethEnable n d, .ringEnable n d, .flsRead j n,
        .softReset d, .dormantEnter d, .skimStart n, .flipArm d, .twinEnable d, .activate 0 req, .stillTake d, .siltFlush, .eddyLock],
      Completes c s fun t => t = s) ∧
  (∀ (s : State) (a : PopAt), s.released = false → Completes (.hostPop a) s fun t => t = s.after a.dt) ∧
  (∀ (s : State) (d : Word), s.pwr.phase = .run → bits d.toNat 16 16 = 0x6416 → s.released = true → Completes (.dormantEnter d) s fun t => ∃ v : State,
    v.pwr.phase = .failing ∧ v.pwr.causes = 256 ∧ v.pwr.failAt = s.clp.now ∧ v.reg .PWR_DORMANT 0 0 = d &&& 6 ∧
      t = (List.range 16).foldl (fun u j => u.pfailChain j) ((v.goodbyeSend.siltPost 18 0).siltPfail)) ∧
  (∀ (s : State) (d : Word), s.pwr.phase ≠ .failing → bits d.toNat 16 16 ≠ 0x6416 → s.released = true → Completes (.dormantEnter d) s fun t =>
    t = s.raise F.PWR_EVT_DORMANT_REFUSED) ∧
  (∀ (s : State) (dt : Nat) (both : Bool), s.pwr.phase = .run → s.flag F.PWR_PFAIL_CTL_PFAIL_EN = true →
    ∀ held, 37 ≤ held → Completes (.pfailDetect ⟨dt, true, held⟩ both) s fun t => ∃ v : State, v.pwr.phase = .failing ∧
      v.pwr.causes = 4 + (if both then 8 else 0) ∧ v.pwr.failAt = s.clp.now + dt + 33 ∧ v.flag F.PWR_STAT_PFAIL = true ∧ v.flag F.PWR_EVT_PFAIL = true ∧
      t = (List.range 16).foldl (fun u j => u.pfailChain j)
        ((v.goodbyeSend.siltPost 18 (1 + (if both then 2 else 0))).siltPfail)) ∧
  (∀ (s : State) (dt : Nat) (low : Bool), (s.pwr.phase ≠ .run ∨ low = false ∨ s.flag F.PWR_PFAIL_CTL_PFAIL_EN = false) →
    ∀ held, 37 ≤ held → Completes (.pfailDetect ⟨dt, low, held⟩ false) s fun t =>
      t = ((s.after dt).after 33).setFld F.PWR_STAT_PFAIL (cond low 1 0)) ∧
  (∀ (s : State) (dt held : Nat) (low : Bool), held ≤ 28 → Completes (.pfailDetect ⟨dt, low, held⟩ false) s fun t => t = s.after dt) ∧
  (∀ (s : State) (dt held : Nat), Completes (.brownOut ⟨dt, false, held⟩) s fun t => t = (s.after dt).setFld F.PWR_STAT_BOR 0) ∧
  (∀ (s : State) (dt held : Nat), held < 1000 → Completes (.brownOut ⟨dt, true, held⟩) s fun t => t = s.after dt) ∧
  (∀ (s : State) (dt held : Nat), 1000 ≤ held → s.pwr.phase = .run → Completes (.brownOut ⟨dt, true, held⟩) s fun t => ∃ v : State,
    v.pwr.phase = .failing ∧ v.pwr.causes = 8 ∧ v.pwr.failAt = s.clp.now + dt + 1000 ∧ v.flag F.PWR_STAT_BOR = true ∧ v.flag F.PWR_EVT_BOR = true ∧
      t = (List.range 16).foldl (fun u j => u.pfailChain j) ((v.goodbyeSend.siltPost 18 2).siltPfail)) ∧
  (∀ (s : State) (wakeN : Bool), s.pwr.phase = .failing → s.pwr.causes.testBit 8 = false → Completes (.pfailReset wakeN) s fun t =>
    t.pwr.phase = .reset ∧ t.pwr.pwrReq = true ∧ t.clp.now = max s.clp.now (s.pwr.failAt + 2000000) ∧ t.clp.on = false ∧ t.run = {}) ∧
  (∀ (s : State), s.pwr.phase = .failing → s.pwr.causes.testBit 8 = true → s.flag F.PWR_DORMANT_ALARM_EN = false →
    Completes (.pfailReset false) s fun t => t.pwr.phase = .off ∧ t.pwr.pwrReq = false ∧ t.clp.on = false) ∧
  (∀ (s : State), s.pwr.phase = .off → s.flag F.PWR_DORMANT_ALARM_EN = true → Completes .dormantAlarm s fun t =>
    t.pwr.phase = .reset ∧ t.pwr.pwrReq = true ∧ t.clp.now = max s.clp.now (tickTime (ticksAt s.clp.now + s.alarmAt))) ∧
  (∀ (s : State) (dt held : Nat), let second := tickTime (ticksAt (s.clp.now + dt) + 2)
    s.pwr.phase = .off → s.flag F.PWR_DORMANT_WAKE_N_EN = true →
    (second ≤ s.clp.now + dt + held → Completes (.wakeNWake ⟨dt, held⟩) s fun t =>
      t.pwr.phase = .reset ∧ t.pwr.pwrReq = true ∧ t.clp.now = max (s.clp.now + dt) second) ∧
    (s.clp.now + dt + held < second → Completes (.wakeNWake ⟨dt, held⟩) s fun t => t = s.after dt)) ∧
  (∀ (s : State) (dt : Nat), s.pwr.onVbat = true → Completes (.vbatLoss dt) s fun t =>
    t.clp.cisTicks = 0 ∧ t.cht.bins = [] ∧ t.pwr.vbatLost = true ∧ t.pwr.phase = .reset ∧ t.cht.fuses = s.cht.fuses ∧
      t.reg .GLB_RESET_CAUSE 0 0 = resetAt .GLB_RESET_CAUSE 0 0 ∧ t.fld F.GLB_RESET_COUNT_RESETS = 1) ∧
  (∀ (s : State) (dt : Nat), s.pwr.onVbat = false → Completes (.vbatLoss dt) s fun t => t = s) ∧
  (∀ (s : State) (dt : Nat), Completes (.cisternSupplySwitch dt (.vbat false)) s fun t =>
    t = { s.after dt with pwr := { (s.after dt).pwr with onVbat := true } }) ∧
  (∀ (s : State) (dt : Nat), s.released = true → Completes (.cisternSupplySwitch dt (.vbat true)) s fun t =>
    t.pwr.onVbat = true ∧ t.pwr.mains = false ∧ t.pwr.phase = .reset ∧ t.obs = {} ∧ t.cht.fuses = s.cht.fuses ∧
      t.clp.cisTicks = (s.after dt).clp.cisTicks ∧
      t.reg .GLB_RESET_CAUSE 0 0 = BitVec.ofNat 64 (if s.pwr.phase = .run then 8 else s.pwr.causes)) ∧
  (∀ (s : State) (dt : Nat), Completes (.cisternSupplySwitch dt .vddIo) s fun t => t.pwr.onVbat = false ∧
    t.pwr.mains = true ∧ t.pwr.phase = s.pwr.phase ∧ (s.clp.cisLost = false → t.clp = (s.after dt).clp) ∧
      (s.clp.cisLost = true → t.clp.cisTicks = 0) ∧ t.fld F.GLB_RESET_COUNT_CYCLES =
      (s.fld F.GLB_RESET_COUNT_CYCLES + cond s.pwr.onVbat 1 0) % 2 ^ 16) ∧
  (∀ (s : State) (dt : Nat), s.released = true → s.flag F.PWR_STAT_VBAT_LOW = false → Completes (.vbatLow dt) s fun t =>
    t.flag F.PWR_STAT_VBAT_LOW = true ∧ t.flag F.PWR_EVT_VBAT_LOW = true) ∧
  (∀ (s : State) (dt : Nat), Completes (.vbatRestore dt) s fun t => t.flag F.PWR_STAT_VBAT_LOW = false)

/-- Clocks complete: jet PLLs, chain and cluster wake, spread spectrum (R358, R418–R421, R426). Where the manual leaves a point open this
rests on the model's choices: log entries 2, 5, 6, 70, 121, 122. -/
def Obligations.ClockCommands : Prop :=
  (∀ (s : State) (dt k : Nat) (j : Jet), k < 7 → k ≠ 1 → SMap.find? s.pwr.jets k = some j → Completes (.jetLock dt k) s fun t =>
    t.jetLocked k = true ∧ SMap.find? t.pwr.jets k = none ∧
      t.clp.now = max s.clp.now (min (s.clp.now + dt) (j.startAt + 12000))) ∧
  (∀ (s : State) (dt : Nat) (j : Jet), SMap.find? s.pwr.jets 1 = some j → Completes (.jetLock dt 1) s fun t => ∃ v : State,
    v.jetLocked 1 = true ∧ SMap.find? v.pwr.jets 1 = none ∧ t = v.clpStart ∧ t.clp.on = true) ∧
  (∀ (s : State) (k : Nat) (j : Jet), SMap.find? s.pwr.jets k = some j → j.again = false → Completes (.jetLockTimeout k) s fun t =>
    SMap.find? t.pwr.jets k = some ⟨t.clp.now, true⟩ ∧ t.clp.now = max s.clp.now (j.startAt + 50000)) ∧
  (∀ (s : State) (k : Nat) (j : Jet), SMap.find? s.pwr.jets k = some j → j.again = true → k ≤ 2 → Completes (.jetLockTimeout k) s
    fun t => ∃ v : State, SMap.find? v.pwr.jets k = none ∧ v.pwr.phase = s.pwr.phase ∧ t = v.requestReset 7) ∧
  (∀ (s : State) (k : Nat) (j : Jet), SMap.find? s.pwr.jets k = some j → j.again = true → 3 ≤ k → Completes (.jetLockTimeout k) s
    fun t => ∃ v : State, SMap.find? v.pwr.jets k = none ∧ v.flag F.PWR_EVT_JET_FAULT = true ∧
      t = ((List.range 8).foldl (fun u i => u.wedgeMark (8 * (k - 3) + i)) (v.siltPost 17 k)).wedgeReset (8 * (k - 3))) ∧
  (∀ (s : State) (j a listen : Nat), j < 16 → s.mac.work = some (a, listen) → listen.testBit j = true → s.mac.wake.testBit j = false →
    Completes (.chainWakeRequest j) s fun t => ∃ v : State, v.mac.wake.testBit j = true ∧
      v.clp.now = s.clp.now + s.nsUntilFull (s.slotStart a - s.chainLead) ∧ t = v.wakeUpdate j) ∧
  (∀ (s : State) (j : Nat), s.mac.work = none → s.mac.resolved = none → Completes (.chainWakeRequest j) s fun t => t = s) ∧
  (∀ (s : State) (c : Nat), c < 4 → s.clusterRuns c = true → s.flag F.PWR_CL_CTL_AUTO c = true → s.clusterDeadline c = none →
    (∀ t, t < 32 → s.thrIdle (32 * c + t) = true) → Completes (.clusterStop c) s fun t =>
      SMap.find? t.ocl.stopped c = some s.clp.now ∧ t.jetLocked (3 + c) = false ∧ t.clusterRuns c = false) ∧
  (∀ (s : State) (c a : Nat), c < 4 → SMap.find? s.ocl.stopped c = some a → s.wordLanded c a = true → Completes (.clusterWake c) s fun t =>
    SMap.find? t.ocl.stopped c = none ∧ SMap.find? t.pwr.jets (3 + c) = some ⟨s.clp.now, false⟩) ∧
  (∀ (s : State) (c a d : Nat), c < 4 → SMap.find? s.ocl.stopped c = some a → s.wordLanded c a = false → s.clusterDeadline c = some d →
    Completes (.clusterWake c) s fun t => SMap.find? t.ocl.stopped c = none ∧ t.clp.now = s.clp.now + (d - s.clLead)) ∧
  (∀ (s : State), Completes .sscApply s fun t => t.pwr.sscCl = s.fld F.PWR_SSC_CL_EN ∧ t.pwr.sscFab = s.flag F.PWR_SSC_FAB_EN ∧ t.pwr.sscSince = t.clp.now ∧
    s.clp.now ≤ t.clp.now ∧ t.clp.now ≤ s.clp.now + 31746)

/-- The Skimmer's commands complete: R445, R446. Where the manual leaves a point open this rests on the model's choices: log entries 2, 93. -/
def Obligations.SkimmerCommands : Prop :=
  (∀ (s : State) (m : Nat), m < 256 → s.skim = none → (s.setFld F.MEM_SKIM_CTL_MEM m).skimRefused = false →
    s.released = true → Completes (.skimStart m) s fun t => t.skim = some ⟨m, s.fld F.MEM_SKIM_FIRST_WORD, s.fld F.MEM_SKIM_LAST_WORD, false⟩ ∧
      t.flag F.MEM_STAT_SKIM_BUSY = true ∧ t.fld F.MEM_SKIM_UE_COUNT = 0 ∧ t.fld F.MEM_SKIM_CE_COUNT = 0) ∧
  (∀ (s : State) (m : Nat) (k : Skim), s.skim = some k → s.released = true → Completes (.skimStart m) s fun t =>
    t = s.raise F.MEM_EVT_SKIM_REFUSED) ∧
  (∀ (s : State) (k : Skim), s.skim = some k → s.released = true → Completes .skimAbort s fun t => t = { s with skim := some { k with abort := true } }) ∧
  (∀ (s : State) (dt : Nat) (k : Skim), s.skim = some k → k.abort = false → k.next ≤ k.last → s.memReady k.mem = true →
    s.eccOf k.mem k.next = none →
    Completes (.skimWord dt) s fun t => t = { s.after dt with skim := some { k with next := k.next + 1 } }) ∧
  (∀ (s : State) (dt : Nat) (k : Skim) (e : EccMark), s.skim = some k → k.abort = false → k.next ≤ k.last →
    s.memReady k.mem = true → s.eccOf k.mem k.next = some e → e.poisoned = true → Completes (.skimWord dt) s fun t =>
      t.skim = some { k with next := k.next + 1 } ∧ t.eccOf k.mem k.next = some e ∧
        t.fld F.MEM_SKIM_UE_COUNT = min 0xFFFFFFFF (s.fld F.MEM_SKIM_UE_COUNT + 1)) ∧
  (∀ (s : State) (dt : Nat) (k : Skim) (e : EccMark), s.skim = some k → k.abort = false → k.next ≤ k.last →
    s.memReady k.mem = true → s.eccOf k.mem k.next = some e → e.poisoned = false → s.decodeWeight e = 0 → Completes (.skimWord dt) s fun t =>
      t.skim = some { k with next := k.next + 1 } ∧ t.eccOf k.mem k.next = none ∧ t.regs = s.regs) ∧
  (∀ (s : State) (dt : Nat) (k : Skim), s.skim = some k → s.memReady k.mem = false → Completes (.skimWord dt) s fun t => t = s) ∧
  (∀ (s : State) (k : Skim), s.skim = some k → (k.abort = true ∨ k.last < k.next) → Completes .skimDone s fun t =>
    t.skim = none ∧ t.flag F.MEM_STAT_SKIM_BUSY = false ∧ t.flag F.MEM_STAT_ABORTED = k.abort ∧ t.flag F.MEM_EVT_SKIM_DONE = true)

/-- Twin's enable, link, heartbeats and mirroring complete: R453–R458, R461, R464. Where the manual leaves a point open this rests on the
model's choices: log entries 2, 5, 33, 64, 65, 66, 67, 123, 126, 154. -/
def Obligations.TwinLinkCommands : Prop :=
  (∀ (s : State) (d : Word), s.flag F.TWN_CTL_EN = false → d.getLsbD 0 = true →
    let c := (s.setReg .TWN_CTL 0 0 (d &&& 0x3E)).twnCheckCode
    s.released = true → Completes (.twinEnable d) s fun t =>
      if c = 0 then t.flag F.TWN_CTL_EN = true ∧ t.role = 1 ∧ ∃ v : State, t = (v.yieldFrames.setFld F.TWN_CTL_EN 1).setFld F.TWN_STAT_ROLE 1 ∧
        v.txf = s.txf ∧ v.twn.enabledAt = s.clp.now ∧ v.twn.peer = none ∧ v.twn.beatAt = some (s.twn.beatAt.getD s.clp.now) ∧
          ((∀ j, (s.tx j).frames = []) → t.twn = v.twn)
      else t.flag F.TWN_CTL_EN = false ∧ t.fld F.TWN_STAT_REFUSE = c ∧ t.flag F.TWN_EVT_ENABLE_REFUSED = true ∧ t.role = s.role) ∧
  (∀ (s : State) (d : Word), s.flag F.TWN_CTL_EN = true → d.getLsbD 0 = false → s.released = true → Completes (.twinEnable d) s fun t =>
    t.flag F.TWN_CTL_EN = false ∧ t.role = 0 ∧ t.twn.act = false ∧ t.twn.queue = [] ∧ t.flag F.TWN_STAT_SYNCED = false) ∧
  (∀ (s : State), s.role = 1 → s.twn.conflict = false → Completes .pairWaitExpiry s fun t => t.role = 3 ∧ t.twn.act = true ∧
    t.clp.now = max s.clp.now (s.twn.enabledAt + max 1 (s.fld F.TWN_TIMING_PAIR_WAIT_MS) * 1000000)) ∧
  (∀ (s : State) (dt k : Nat), k < 2 → Completes (.twinLaneLock dt k true) s fun t =>
    t.fld F.TWN_STAT_LANE_LOCK = s.fld F.TWN_STAT_LANE_LOCK ||| 2 ^ k ∧ t.clp.now = s.clp.now + dt) ∧
  (∀ (s : State) (dt k : Nat), k < 2 → Completes (.twinLaneLock dt k false) s fun t =>
    t.fld F.TWN_STAT_LANE_LOCK = s.fld F.TWN_STAT_LANE_LOCK &&& (3 - 2 ^ k) ∧
      (t.fld F.TWN_STAT_LANE_LOCK = 0 → (t.point 8).held = none ∧ (t.point 9).held = none)) ∧
  (∀ (s : State) (b : Nat), s.twn.beatAt = some b → s.linkUp = true → s.pointOn 9 = false → Completes .heartbeatSend s fun t =>
    t.twn.sent = s.twn.sent ++ (s.twnLanes 1).map (fun k => (k, twnBytes 1 s.twn.seq (s.advanceTo b).service [s.twnWord])) ∧
      t.twn.seq = (s.twn.seq + 1) % 65536 ∧ ∃ x, t.twn.beatAt = some x ∧ b + 249000 ≤ x ∧ x ≤ b + 251000) ∧
  (∀ (s : State) (a : Nat), s.twn.lastHb = some a → s.flag F.TWN_STAT_LINK_OK = true → Completes .linkSilence s fun t =>
    t.flag F.TWN_STAT_LINK_OK = false ∧ t.flag F.TWN_EVT_LINK_FAIL = true ∧ t.twn.streak = 0 ∧
      t.clp.now = max s.clp.now (a + 1000000) + 1) ∧
  (∀ (s : State) (m : List Word) (ms : List (List Word)), s.role = 3 → s.linkUp = true → s.pointOn 9 = false →
    s.runnelOn (s.fld F.TWN_RUNNEL_KEY_RUNNEL) = false → s.twn.overflow = false → s.twn.bulkAsked = false → s.twn.queue = m :: ms →
    Completes .mirrorSend s fun t => t.twn.queue = ms ∧
      t.twn.sent = s.twn.sent ++ (s.twnLanes 2).map (fun k => (k, twnBytes 2 s.twn.seq s.service m)) ∧
        t.fld F.TWN_CNT_MIRROR_TX_COUNT = min 0xFFFFFFFF (s.fld F.TWN_CNT_MIRROR_TX_COUNT + 1)) ∧
  (∀ (s : State) (cls k : Nat) (ks : List (Nat × Nat)), s.role = 3 → s.linkUp = true → s.pointOn 9 = false →
    s.runnelOn (s.fld F.TWN_RUNNEL_KEY_RUNNEL) = false → s.twn.overflow = false → s.twn.bulkAsked = false →
    s.twn.queue = [] → s.twn.bulk = (cls, k) :: ks →
    (∀ m x, s.eccOf m x = none) → Completes .mirrorSend s fun t => t.twn.bulk = ks ∧ t.twn.bulkAt = (cls, k + 1) ∧
      t.twn.sent = s.twn.sent ++ (s.twnLanes 2).map fun l => (l, twnBytes 2 s.twn.seq s.service
        (s.bulkWords cls (k % 2 ^ 20) (k / 2 ^ 20)).1)) ∧
  (∀ (s : State), s.role = 3 → s.linkUp = true → s.pointOn 9 = false → s.runnelOn (s.fld F.TWN_RUNNEL_KEY_RUNNEL) = false →
    s.twn.overflow = false → s.twn.bulkAsked = false → s.twn.queue = [] → s.twn.bulk = [] → s.twn.bulkOpen = true → Completes .mirrorSend s fun t =>
      t.twn.bulkOpen = false ∧ t.twn.sent = s.twn.sent ++ (s.twnLanes 3).map fun l => (l, twnBytes 3 s.twn.seq s.service [])) ∧
  (∀ (s : State), s.role = 3 → s.linkUp = true → s.runnelOn (s.fld F.TWN_RUNNEL_KEY_RUNNEL) = false → s.twn.bulkAsked = true →
    s.memsReady bulkMems = false → s.twn.overflow = false → s.twn.queue = [] → s.twn.bulk = [] → s.twn.bulkOpen = false →
    Completes .mirrorSend s fun t => t = s) ∧
  (∀ (s : State), s.bulkPass.twn.bulkAsked = false ∧ s.bulkPass.twn.bulkOpen = true ∧ s.bulkPass.twn.bulkAt = (0, 0)) ∧
  (∀ (s : State) (cls idx : Nat) (ws : List Word), s.role = 3 → cls < 2 → s.twn.bulkOpen = true →
    bulkKey s.twn.bulkAt ≤ bulkKey (cls, idx) → (s.mirrorPost cls idx ws).twn.queue = s.twn.queue ∧
      (cls, idx) ∈ (s.mirrorPost cls idx ws).twn.bulk) ∧
  (∀ (s : State), s.linkUp = true → (∀ type ∈ [1, 4, 6], s.twnLanes type = [0, 1].filter fun k =>
      (s.fld F.TWN_STAT_LANE_LOCK).testBit k) ∧ (∀ type ∈ [2, 3, 5, 7, 8], s.twnLanes type =
        [if (s.fld F.TWN_STAT_LANE_LOCK).testBit 0 then 0 else 1])) ∧
  (∀ (s : State), s.role = 2 → s.linkUp = true → s.pointOn 9 = false → s.released = true → Completes .twnResync s fun t =>
    t.twn.sent = s.twn.sent ++ (s.twnLanes 8).map (fun l => (l, twnBytes 8 s.twn.seq s.service [])) ∧ t.regs = s.regs)

/-- Messages that arrive on the Twin link take their effect (R456): a good one by its type, a bad one counts, and an ALONE device takes none.
Point 8 of Eddy is off. Where the manual leaves a point open this rests on the model's choices: log entries 5, 63, 65. -/
def Obligations.TwinMessages : Prop :=
  (∀ (s : State) (dt seq stamp : Nat) (w : Word) (ws : List Word), s.role ≠ 0 → s.linkUp = true → s.pointOn 8 = false →
    ws.length < 4096 →
    let u := s.after dt
    Completes (.heartbeat dt seq stamp w true) s (fun t => t = u.heartbeat u.service (stamp % 2 ^ 32) w.toNat) ∧
    Completes (.mirror dt seq stamp ws true) s (fun t => t = u.mirrorApply ws) ∧
    Completes (.resync dt seq stamp true) s (fun t => t = u.resyncArrives) ∧
    Completes (.syncEnd dt seq stamp true) s (fun t => t = u.syncEnds) ∧
    Completes (.takeover dt seq stamp w true) s (fun t => t = u.takeoverArrives w.toNat) ∧
    Completes (.handover dt seq stamp w true) s (fun t => t = u.handoverArrives) ∧
    Completes (.goodbye dt seq stamp w true) s (fun t => t = u.goodbyeArrives) ∧
    Completes (.packet dt seq stamp ws true) s (fun t => t = u.packetArrives
      ⟨twnBytes 7 seq stamp ws, u.service, if u.asnValid then u.asn else noAsn⟩ (ws.flatMap fun x => leBytes 8 x.toNat))) ∧
  (∀ (s : State) (dt seq stamp : Nat) (w : Word) (ws : List Word), s.role ≠ 0 → s.linkUp = true → s.pointOn 8 = false →
    ws.length < 4096 →
    ∀ c ∈ [Instr.heartbeat dt seq stamp w false, .mirror dt seq stamp ws false, .resync dt seq stamp false,
        .syncEnd dt seq stamp false, .takeover dt seq stamp w false, .handover dt seq stamp w false, .goodbye dt seq stamp w false,
        .packet dt seq stamp ws false],
      Completes c s fun t => t = (s.after dt).bump F.TWN_CNT_BAD_MSG_COUNT) ∧
  (∀ (s : State) (dt seq stamp : Nat) (w : Word) (ws : List Word) (ok : Bool), s.role = 0 →
    ∀ c ∈ [Instr.heartbeat dt seq stamp w ok, .mirror dt seq stamp ws ok, .resync dt seq stamp ok, .syncEnd dt seq stamp ok,
        .takeover dt seq stamp w ok, .handover dt seq stamp w ok, .goodbye dt seq stamp w ok, .packet dt seq stamp ws ok],
      Completes c s fun t => t = s.after dt)

/-- What the Twin messages do (R455, R458, R461, R464, R468, R471, R472). Where the manual leaves a point open this rests on the model's
choices: log entries 33, 48, 67. -/
def Obligations.TwinMessageEffects : Prop :=
  (∀ (s : State) (a stamp w : Nat), (peerOf w).unit ≠ s.fld F.TWN_CTL_UNIT → (s.role = 0 ∨ s.role = 2) →
    let t := s.heartbeat a stamp w
    t.fld F.TWN_CNT_HB_RX_COUNT = min 0xFFFFFFFF (s.fld F.TWN_CNT_HB_RX_COUNT + 1) ∧ t.twn.peer = some (peerOf w) ∧
      t.twn.lastHb = some s.clp.now ∧ t.role = s.role ∧
      t.fld F.TWN_PEER_OFS_OFS = toPattern 32 (max (-2147483648) (min 2147483647 ((a : Int) - stamp)))) ∧
  (∀ (s : State) (w : Nat), s.role = 1 → s.twn.conflict = false → (peerOf w).role = 3 →
    (s.heartbeatRole (peerOf w)).role = 2 ∧ (s.heartbeatRole (peerOf w)).fld F.TWN_STAT_TERM = (peerOf w).term) ∧
  (∀ (s : State) (w : Nat), s.role = 1 → s.twn.conflict = false → (peerOf w).role = 1 →
    (s.flag F.TWN_CTL_PREFER = true → (peerOf w).prefer = false → (s.heartbeatRole (peerOf w)).role = 3) ∧
    (s.flag F.TWN_CTL_PREFER = false → (peerOf w).prefer = true → (s.heartbeatRole (peerOf w)).role = 2) ∧
    (s.flag F.TWN_CTL_PREFER = (peerOf w).prefer →
      (s.heartbeatRole (peerOf w)).role = if s.fld F.TWN_CTL_UNIT = 0 then 3 else 2)) ∧
  (∀ (s : State), s.flag F.TWN_STAT_LINK_OK = false → 3 ≤ s.twn.streak → s.twn.lastHb = some s.clp.now →
    s.linkHeard.flag F.TWN_STAT_LINK_OK = true ∧ s.linkHeard.flag F.TWN_EVT_LINK_RESTORE = true) ∧
  (∀ (s : State), s.role = 2 → s.syncEnds.flag F.TWN_STAT_SYNCED = true ∧ s.syncEnds.flag F.TWN_EVT_SYNC_DONE = true ∧
    s.goodbyeArrives = { s with twn := { s.twn with goodbye := true } } ∧
      s.resyncArrives = ((s.setFld F.TWN_STAT_SYNCED 0).raise F.TWN_EVT_SYNC_LOST).twnSend 8 [] ∧
        (s.twn.taking = true → s.handoverArrives = s) ∧ (s.twn.taking = false → s.handoverArrives = { s with twn := { s.twn with
          arrived := true, handing := if s.asnValid then some ((s.asn + 1) % 2 ^ 40) else none } })) ∧
  (∀ (s : State), s.twn.arrived = true → s.fullNs = s.anchorNs → s.handoverSlot.twn.handing = some s.asn) ∧
  (∀ (s : State), s.role ≠ 2 → s.syncEnds = s ∧ s.goodbyeArrives = s ∧ s.handoverArrives = s ∧ ∀ ws, s.mirrorApply ws = s) ∧
  (∀ (s : State) (w : Nat), (s.role = 3 → s.takeoverArrives w = s.yieldTo (peerOf w).term) ∧
    (s.role ≠ 3 → s.takeoverArrives w = s)) ∧
  (∀ (s : State) (term : Nat), term < 65536 → (s.yieldTo term).role = 2 ∧ (s.yieldTo term).fld F.TWN_STAT_TERM = term ∧
    (s.yieldTo term).twn.act = false ∧ (s.yieldTo term).flag F.TWN_EVT_YIELDED = true) ∧
  (∀ (s : State) (w : Word) (ws : List Word), s.role = 2 → w.toNat % 256 = 0 → s.mirrorApply (w :: ws) =
    (s.bump F.TWN_CNT_MIRROR_RX_COUNT).writeEntry (w.toNat / 256 % 524288) (entryOf (ws.map fun (x : Word) => x.toNat))) ∧
  (∀ (s : State) (w x : Word), s.role = 2 → w.toNat % 256 = 1 → s.mirrorApply [w, x] =
    (s.bump F.TWN_CNT_MIRROR_RX_COUNT).memWrite 5 (w.toNat / 256 % 524288) x.toNat)

/-- Takeover, handover and the link's egress complete: R466, R470, R471, R456, R386. Where the manual leaves a point open this rests on the
model's choices: log entries 2, 5, 48, 66, 67, 132. -/
def Obligations.TwinTakeoverCommands : Prop :=
  (∀ (s : State) (dt : Nat), (s.after dt).mayTake = true → Completes (.takeoverDecision dt) s fun t => ∃ v : State,
    v.fld F.TWN_STAT_TERM = (s.fld F.TWN_STAT_TERM + 1) % 65536 ∧ v.twn.taking = true ∧ v.twn.decidedAt = s.clp.now + dt ∧ v.twn.handing = none ∧
      t = v.takeoverPlace) ∧
  (∀ (s : State) (dt : Nat), (s.after dt).mayTake = false → Completes (.takeoverDecision dt) s fun t => t = s.after dt) ∧
  (∀ (s v : State) (cs : List Nat), s.alloc (s.takeoverFrame s.tkFcs).length = (some cs, v) →
    ∃ p : Placed, s.takeoverPlace = (v.putFrame cs (s.takeoverFrame s.tkFcs)).place p ∧ p.origin = .takeover ∧
      p.desc.len = (s.takeoverFrame s.tkFcs).length ∧ p.desc.mode = 1 ∧ p.desc.tol = 255 ∧
        p.desc.group = s.fld F.TWN_TK_TK_GROUP ∧ p.desc.chain = s.fld F.TWN_TK_TK_CHAIN) ∧
  (∀ (s v : State), s.alloc (s.takeoverFrame s.tkFcs).length = (none, v) →
    s.takeoverPlace = (v.siltInternal 3 0).takeoverDone .internal) ∧
  (∀ (s : State) (st : Status), s.fld F.TWN_STAT_ROLE = 2 → st ≠ .ok → (s.takeoverDone st).fld F.TWN_STAT_ROLE = 3 ∧
    (s.takeoverDone st).twn.handing = none ∧ (s.takeoverDone st).flag F.TWN_EVT_TK_FAIL = true) ∧
  (∀ (s : State), s.twn.suspects ≠ [] → Completes .suspectWindowEnd s fun t => t.twn.suspects = [] ∧
    t.clp.now = max s.clp.now (s.twn.decidedAt + s.fld F.TWN_SUSPECT_SUSPECT_MS * 1000000)) ∧
  (∀ (s : State), s.role = 3 → s.peerReady = true → s.asnValid = true → s.released = true → Completes .twnHandover s fun t =>
    t = { s with twn := { s.twn with handing := some ((s.asn + 2) % 2 ^ 40), handed := false } }) ∧
  (∀ (s : State), (s.role ≠ 3 ∨ s.peerReady = false ∨ s.asnValid = false) → s.released = true → Completes .twnHandover s fun t =>
    t = s.raise F.TWN_EVT_CMD_REFUSED) ∧
  (∀ (s : State) (dt h : Nat), let u := s.after dt
    s.twn.handing = some h → s.role = 3 → s.twn.handed = false → s.twn.queue = [] → s.twn.overflow = false →
    (h + 2 ^ 40 - u.asn) % 2 ^ 40 ≤ 1 → s.linkUp = true → s.pointOn 9 = false → Completes (.handoverSend dt) s fun t =>
      t.twn.handed = true ∧ t.twn.sent = s.twn.sent ++ (s.twnLanes 5).map fun l =>
        (l, twnBytes 5 s.twn.seq u.service [u.twnWord])) ∧
  (∀ (s : State) (dt : Nat), let n := s.fld F.TWN_RUNNEL_TX_RUNNEL
    let q := ((s.after dt).popWords n 2).1
    let u := ((s.after dt).popWords n 2).2
    s.role ≠ 0 → s.runnelOn n = true → 2 ≤ s.poppable n → s.memReady 0 = true → q.any RunWord.isBad = false → Completes (.twinTxRecord dt) s fun t =>
      t = u.twnTx ((q.getD 0 ⟨0, false, false⟩).val).toNat (q.getD 1 ⟨0, false, false⟩).val) ∧
  (∀ (s : State) (dt : Nat), (s.role = 0 ∨ s.poppable (s.fld F.TWN_RUNNEL_TX_RUNNEL) < 2 ∨ s.memReady 0 = false) →
    Completes (.twinTxRecord dt) s fun t => t = s.after dt) ∧
  (∀ (s : State) (w0 : Nat) (cookie : Word), (bits w0 48 16 < 40 ∨ 9216 < bits w0 48 16) →
    s.twnTx w0 cookie = s.twnTxDone w0 cookie .internal 0 true)

/-- The cold boot and the activation complete: R434, R481, R484–R486, R488–R491. Where the manual leaves a point open this rests on the
model's choices: log entries 2, 5, 68, 73, 74, 75, 76, 147, 161. -/
def Obligations.BootCommands : Prop :=
  (∀ (s : State) (dt k : Nat) (h : BootHdr), let r := h.active % 2
    let u := (s.after dt).romStart
    s.pwr.phase = .run → s.bot.booted = false → s.memReady 8 = true → s.fls.discovered = true → s.fld F.FLS_STAT_MODE ≠ 0 →
    s.bootHdr = some (k, h) → h.state r = 3 → Completes (.bootRomStart dt) s fun t => t.bot.booted = true ∧ t.bot.romRun = false ∧
      t = if (u.tryCold r).1 then (u.tryCold r).2.bootFrom r true false
        else ((u.tryCold r).2.editHdr fun e => e.setState r 4).bootOther (1 - r)) ∧
  (∀ (s : State) (dt k : Nat) (h : BootHdr), let r := h.active % 2
    s.pwr.phase = .run → s.bot.booted = false → s.memReady 8 = true → s.fls.discovered = true → s.fld F.FLS_STAT_MODE ≠ 0 →
    s.bootHdr = some (k, h) → (h.state r = 0 ∨ h.state r = 1 ∨ 4 ≤ h.state r) → Completes (.bootRomStart dt) s fun t =>
      t = ((s.after dt).romStart.editHdr fun e => e.setState r 4).bootOther (1 - r)) ∧
  (∀ (s : State) (dt : Nat), let u := (s.after dt).romStart
    s.pwr.phase = .run → s.bot.booted = false → s.memReady 8 = true → s.fls.discovered = true → s.fld F.FLS_STAT_MODE ≠ 0 →
    s.bootHdr = none → Completes (.bootRomStart dt) s fun t =>
      let v := (u.tryCold 0).2
      t = if (u.tryCold 0).1 then v.bootFrom 0 false false
        else if (v.tryCold 1).1 then (v.tryCold 1).2.bootFrom 1 false true else (v.tryCold 1).2.romStop) ∧
  (∀ (s : State) (dt : Nat), s.pwr.phase = .run → s.bot.booted = false → s.memReady 8 = true → s.fls.discovered = true →
    s.fld F.FLS_STAT_MODE = 0 → Completes (.bootRomStart dt) s fun t => t = (s.after dt).romStart.romStop) ∧
  (∀ (s : State) (dt : Nat), s.pwr.phase = .run → s.bot.booted = false → s.memReady 8 = true → s.fls.discovered = false →
    Completes (.bootRomStart dt) s fun t => t = (s.after dt).romStart ∧ t.bot.romRun = true ∧ t.bot.booted = false ∧
      (s.bot.romRun = false → (t.thr 129).pc = 0 ∧ (t.thr 129).state = 1)) ∧
  (∀ (s : State), (s.romStop.thr 129).state = 3 ∧ (s.romStop.thr 129).pc = 0 ∧ s.romStop.bot.romHalt = true ∧
    s.romStop.bot.booted = true) ∧
  (∀ (s : State) (dt : Nat), (s.pwr.phase ≠ .run ∨ s.bot.booted = true ∨ s.memReady 8 = false) →
    Completes (.bootRomStart dt) s fun t => t = s) ∧
  (∀ (s : State) (r : Nat), (s.tryCold r).1 = decide (s.checkCold r = 0) ∧
    ((s.tryCold r).1 = false → (s.tryCold r).2.fld F.OCL_J_BOOT_RESULT = s.checkCold r)) ∧
  (∀ (s : State) (r a fmt res : Nat) (warm fallback : Bool), r < 2 → res < 8 → s.settings = some (fmt, a) →
    s.payloadNat r 16 2 = fmt → let t := s.enter r warm fallback res
    t.bot.digest = s.imageDigest r ∧ t.bot.booted = true ∧ t.fld F.OCL_J_BOOT_RES = r ∧ t.flag F.OCL_J_BOOT_WARM = warm ∧
      t.flag F.OCL_J_BOOT_FALLBACK = fallback ∧ t.fld F.OCL_J_BOOT_RESULT = res ∧ t.flag F.OCL_J_BOOT_DEFAULTS = false ∧
        (t.thr 129).state = 1 ∧ (t.thr 129).pc = 0 ∧ (t.thr 129).reg 1 = BitVec.ofNat 64 a ∧
          (t.thr 129).reg 2 = BitVec.ofNat 64 (s.payloadNat r 12 4)) ∧
  (∀ (s : State) (dt req : Nat), req ≠ 129 → s.released = true → Completes (.activate dt req) s fun t => t = s.after dt) ∧
  (∀ (s : State) (dt k : Nat) (h : BootHdr), let r := h.active % 2
    s.bootHdr = some (k, h) → s.released = true → Completes (.activate dt 129) s fun t =>
      if (s.after dt).checkWarm r ≠ 0 then
        t.fld F.OCL_J_BOOT_RESULT = (s.after dt).checkWarm r ∧ t.bot = s.bot ∧ t.ocl = s.ocl ∧ t.fls = s.fls
      else if h.state r = 0 ∨ h.state r = 4 ∨ s.imageDigest r ≠ (if r = 0 then h.dgA else h.dgB) then
        t.bot = s.bot ∧ t.ocl = s.ocl ∧ t.fls = s.fls
      else t = ({ s.after dt with draw := s.draw + 1 }).warmGo r (h.state r == 3)) ∧
  (∀ (s : State) (r : Nat) (good : Bool), let v := (s.firstKey r).stopAll
    let w := ((v.warmLoad r).2.bootFail r (v.warmLoad r).1).editHdr fun h => { h.setState r 4 with active := 1 - r }
    let u := w.warmLoad (1 - r)
    s.warmGo r good = if (v.warmLoad r).1 = 0 then
        ((v.warmLoad r).2.keyActionsIf r good).enter r true false ((v.warmLoad r).2.fld F.OCL_J_BOOT_RESULT)
      else if w.bootable (1 - r) = false then w.romStop
      else if u.1 = 0 then
        (u.2.keyActionsIf (1 - r) (match u.2.bootHdr with | some (_, h) => h.state (1 - r) == 3 | none => false)).enter (1 - r) true true
          (v.warmLoad r).1
      else (u.2.bootFail (1 - r) u.1).romStop)

/-- The Still and the operating hours complete: R500–R504, R512. The Silt recorder's commands complete: R507, R508, R512, R513. Where the
manual leaves a point open this rests on the model's choices: log entries 2, 4, 5, 61, 62, 152. -/
def Obligations.StillAndSilt : Prop :=
  ((∀ (s : State) (d : Word), s.flag F.OBS_STAT_STILL_PENDING = false → s.flag F.OBS_STAT_STILL_HELD = false →
    s.pwr.phase ≠ .failing → s.released = true → Completes (.stillTake d) s fun t => t.flag F.OBS_STAT_STILL_PENDING = true ∧
      t.flag F.OBS_STAT_STILL_HELD = false) ∧
  (∀ (s : State) (d : Word), s.flag F.OBS_STAT_STILL_PENDING = false → s.flag F.OBS_STAT_STILL_HELD = true → d.getLsbD 1 = false →
    s.released = true → Completes (.stillTake d) s fun t => t.flag F.OBS_STAT_STILL_PENDING = false ∧
      t.flag F.OBS_STAT_STILL_HELD = true ∧ t.flag F.OBS_EVT_STILL_REFUSED = true) ∧
  (∀ (s : State) (d : Word), s.flag F.OBS_STAT_STILL_PENDING = false → (∀ p, s.obs.refused = some p → p.1 ≠ s.cycle) → s.released = true →
    Completes (.stillRelease d) s fun t => t.flag F.OBS_STAT_STILL_HELD = false ∧ t.flag F.OBS_STAT_STILL_PENDING = false) ∧
  (∀ (s : State) (d : Word), s.flag F.OBS_STAT_STILL_PENDING = false → s.obs.refused = some (s.cycle, false) → s.pwr.phase ≠ .failing →
    s.released = true → Completes (.stillRelease d) s fun t => t.flag F.OBS_STAT_STILL_HELD = false ∧
      t.flag F.OBS_STAT_STILL_PENDING = true ∧ t.flag F.OBS_EVT_STILL_REFUSED = false) ∧
  (∀ (s : State), s.flag F.OBS_STAT_STILL_PENDING = true → s.pwr.phase ≠ .failing → Completes .stillSnapshot s fun t =>
    t.flag F.OBS_STAT_STILL_PENDING = false ∧ t.flag F.OBS_STAT_STILL_HELD = true ∧ t.flag F.OBS_EVT_STILL_DONE = true ∧
      t.shadows = (s.obs.shadow, s.obs.shadowSeq) ∧ t.fld F.OBS_STILL_SEQ_SEQ = (s.fld F.OBS_STILL_SEQ_SEQ + 1) % 2 ^ 32 ∧
        (t.clp.now = max s.clp.now (tickTime (ticksAt s.clp.now + 1)) ∨
          t.clp.now = max s.clp.now (tickTime (ticksAt s.clp.now + 1) + 1)) ∧
          ∀ u, u < 292 → SMap.find? t.obs.shadowSeq u = some ((s.fld F.OBS_STILL_SEQ_SEQ + 1) % 2 ^ 32)) ∧
  (∀ (s : State) (u : Nat) (c : RegId × Nat × Nat), u < 292 → c ∈ unitCounters u →
    s.countersClear.reg c.1 c.2.1 c.2.2 = resetAt c.1 c.2.1 c.2.2) ∧
  (∀ (s : State), s.flag F.OBS_STILL_CTL_AUTO = true → s.flag F.OBS_STAT_STILL_PENDING = false →
    s.flag F.OBS_STAT_STILL_HELD = false → s.pwr.phase ≠ .failing → Completes .stillAuto s fun t =>
      t.flag F.OBS_STAT_STILL_PENDING = true ∧ t.obs.autoSince = t.clp.now ∧
        t.clp.now = max s.clp.now (s.obs.autoSince + 10 ^ 9 * max 1 (s.fld F.OBS_STILL_CTL_AUTO_S))) ∧
  (∀ (s : State), s.released = true → Completes .opHour s fun t => ∃ v : State,
    v.fld F.OBS_OP_HOURS_HOURS = (s.fld F.OBS_OP_HOURS_HOURS + 1) % 2 ^ 32 ∧ v.fld F.OBS_OP_SEC_SEC = 0 ∧ t = v.siltPost 274 0) ∧
  (∀ (s : State), s.released = false → Completes .opHour s fun t => t = s)) ∧
  ((∀ (s : State) (req code value : Nat), (req = 129 ∨ 384 ≤ code % 512) → s.released = true → Completes (.siltPost req code value) s fun t =>
    t = s.siltPost (code % 512) value (if req = 128 then 1 else if req = 129 then 2 else 3 + req)) ∧
  (∀ (s : State) (req code value : Nat), req ≠ 129 → code % 512 < 384 → s.released = true → Completes (.siltPost req code value) s fun t =>
    t = s.raise F.OBS_EVT_POST_REFUSED) ∧
  (∀ (s : State) (code value rank : Nat), let c := SMap.getD s.obs.codes code {}
    let d := SMap.getD (s.siltPost code value rank).obs.codes code {}
    s.siltTurn.posts = [] → d.count = min (2 ^ 32 - 1) (c.count + 1) ∧ d.lastHour = s.opHour ∧
      (c.count ≠ 0 → d.min = min c.min (value % 2 ^ 32) ∧ d.max = max c.max (value % 2 ^ 32) ∧ d.firstHour = c.firstHour) ∧
      (c.count = 0 → d.min = value % 2 ^ 32 ∧ d.max = value % 2 ^ 32 ∧ d.firstHour = s.opHour)) ∧
  (∀ (s : State) (code value rank : Nat), ∀ p ∈ s.siltTurn.posts, p ∈ (s.siltPost code value rank).obs.turn.posts) ∧
  (∀ (s : State), s.obs.bufCount < s.flushMark → s.siltTurn.posts = [] → s.released = true → Completes .statClear s fun t => ∀ code,
    let c := SMap.getD s.obs.codes code {}
    SMap.getD t.obs.codes code {} = { c with count := 0, min := 0, max := 0, firstHour := 0, lastHour := 0, bins := [] }) ∧
  (∀ (s : State), s.flag F.OBS_STAT_FLUSHING = false → s.flag F.OBS_STAT_RESTORED = true → s.released = true → Completes .siltFlush s fun t =>
    t.flag F.OBS_STAT_FLUSHING = true ∧ t.obs.flushing = s.obs.bufCount) ∧
  (∀ (s : State), (s.flag F.OBS_STAT_FLUSHING = true ∨ s.flag F.OBS_STAT_RESTORED = false) →
    s.flushAsk = { s with obs := { s.obs with flushReq := true } }) ∧
  (∀ (s : State), s.flag F.OBS_STAT_RESTORED = false → s.obs.unread = false → s.released = true → Completes .siltFlush s fun t =>
    t.obs.flushReq = true ∧ t.flag F.OBS_STAT_FLUSHING = s.flag F.OBS_STAT_FLUSHING) ∧
  (∀ (s : State), 0 < s.obs.bufCount → s.flag F.OBS_STAT_FLUSHING = false →
    Completes .siltFlushTimer s fun t =>
      t = (s.advanceTo (s.obs.bufSince + 10 ^ 9 * max 1 (s.fld F.OBS_SILT_CTL_FLUSH_S))).siltStart) ∧
  (∀ (s : State), s.flag F.OBS_STAT_FLUSHING = true → s.siltIdle = true → s.obs.lost = 0 → s.obs.flushReq = false → s.pwr.phase ≠ .failing →
    Completes .siltFlushDone s fun t =>
    t.flag F.OBS_STAT_FLUSHING = false ∧ t.flag F.OBS_EVT_FLUSH_DONE = true ∧ t.obs.bufCount = s.obs.bufCount - s.obs.flushing ∧
      t.obs.bufHead = (s.obs.bufHead + s.obs.flushing) % 2048 ∧ t.obs.flushing = 0) ∧
  (∀ (s : State) (dt : Nat), s.flag F.OBS_STAT_RESTORED = false → s.fls.discovered = true → s.memReady 7 = true →
    Completes (.siltRingScan dt) s fun t => ∃ v w : State, v.flag F.OBS_STAT_RESTORED = true ∧ t = w.on w.obs.flushReq State.siltStart ∧
      (s.fld F.FLS_STAT_MODE ≠ 0 → w = v.eraseAhead) ∧
        (s.fld F.FLS_STAT_MODE = 0 → w = v ∧ v.fld F.OBS_SILT_SEQ_SEQ = s.fld F.OBS_SILT_SEQ_SEQ)) ∧
  (∀ (s : State) (dt : Nat), (s.flag F.OBS_STAT_RESTORED = true ∨ s.fls.discovered = false ∨ s.memReady 7 = false) →
    Completes (.siltRingScan dt) s fun t => t = s))

/-- Eddy's commands complete: R517–R520. Where the manual leaves a point open this rests on the model's choices: log entries 2, 63. -/
def Obligations.EddyCommands : Prop :=
  (∀ (s : State) (dt : Nat) (d : Word), d.toNat % 2 ^ 32 = 0x0000EDD1 → s.released = true → Completes (.eddyKey dt d) s fun t =>
    t.obs.eddyKeyAt = some (s.clp.now + dt) ∧ t.regs = s.regs) ∧
  (∀ (s : State) (dt a : Nat) (d : Word), d.toNat % 2 ^ 32 = 0x1EDD0000 → s.obs.eddyKeyAt = some a → s.clp.now + dt ≤ a + 1000000 →
    s.flag F.OBS_STAT_LOCKED = false → s.released = true → Completes (.eddyKey dt d) s fun t =>
      t.flag F.OBS_STAT_OPEN = true ∧ t.obs.eddyKeyAt = none) ∧
  (∀ (s : State) (dt : Nat) (d : Word), d.toNat % 2 ^ 32 ≠ 0x0000EDD1 → d.toNat % 2 ^ 32 ≠ 0x1EDD0000 →
    (∀ k, (s.point k).held = none) → s.released = true → Completes (.eddyKey dt d) s fun t => t.flag F.OBS_STAT_OPEN = false ∧
      t.flag F.OBS_STAT_LOCKED = (s.flag F.OBS_STAT_LOCKED || d.getLsbD 31) ∧ ∀ k, k < 10 → t.flag F.OBS_EDDY_CFG_EN k = false) ∧
  (∀ (s : State), (∀ k, (s.point k).held = none) → s.released = true → Completes .eddyLock s fun t =>
    t.flag F.OBS_STAT_OPEN = false ∧ t.flag F.OBS_STAT_LOCKED = true ∧ t.flag F.OBS_EDDY_KEY_LOCK = true) ∧
  (∀ (s : State) (dt : Nat) (d : Word), s.flag F.OBS_STAT_LOCKED = true → s.flag F.OBS_STAT_OPEN = false →
    d.toNat % 2 ^ 32 = 0x1EDD0000 → (∀ k, (s.point k).held = none) → s.released = true → Completes (.eddyKey dt d) s fun t =>
      t.flag F.OBS_STAT_OPEN = false) ∧
  (∀ (s : State) (k : Nat) (d : Word), k < 10 → s.released = true → Completes (.eddySeedWrite k d) s fun t =>
    t.reg .OBS_EDDY_SEED k 0 = BitVec.ofNat 64 (d.toNat % 2 ^ 32) ∧
      (t.point k).lfsr = BitVec.ofNat 32 (if d.toNat % 2 ^ 32 = 0 then 1 else d.toNat % 2 ^ 32) ∧
        (t.point k).held = (s.point k).held) ∧
  (∀ (s : State) (k : Nat) (h : EddyHeld), k < 10 → (s.point k).held = some h → Completes (.eddyHoldRelease k) s fun t =>
    let u := (s.advanceTo (h.since + 1000000)).setPoint k { s.point k with held := none }
    t = if k < 4 then u.ethCheck k (u.fullOfPast h.ts) ⟨h.bytes, h.ts, h.asn⟩
      else if k < 8 then { u with eth := { u.eth with sent := s.eth.sent ++ [(k - 4, h.bytes)] } }
      else if k = 8 then (if s.role = 0 then u else u.twnReceive ⟨h.bytes, h.ts, h.asn⟩)
      else u.twnEmit ⟨h.bytes, h.ts, h.asn⟩)

/-- Every step keeps memory and register file in canonical form: keys strictly rise, and no listed byte is one that reads so unlisted. -/
def Obligations.StepKeepsCanonicalForm : Prop :=
  ∀ (s t : State), Canonical s → step s = .next t → Canonical t

/-- What no command undoes: elapsed time never goes back; a blown fuse, a programmed owner key, a revoked slot and the three locks stay (R108,
R240, R480, R482); and a command leaves the queue of waiting commands as it is. Where the manual leaves a point open this rests on the
model's choices: log entries 3, 5. -/
def Obligations.NoCommandUndoes : Prop :=
  ∀ (c : Instr) (s t : State), exec c s = .next t → t.pending = s.pending ∧ s.clp.now ≤ t.clp.now ∧
    (∀ b, s.fuse b = true → t.fuse b = true) ∧
    (∀ k h, SMap.find? s.bot.owners k = some h → SMap.find? t.bot.owners k = some h) ∧
    (∀ k ∈ s.bot.revoked, k ∈ t.bot.revoked) ∧ (s.grt.provLock = true → t.grt.provLock = true) ∧
    (s.grt.dbgLock = true → t.grt.dbgLock = true) ∧ (s.grt.jtagLock = true → t.grt.jtagLock = true)

/-- A functional write of a whole word (R442, R448): the word then reads as written and is a good codeword, unless the armed flip-mask hits,
which leaves its error mark; every other byte of memory, and every register while no mask hits, is as before. Where the manual leaves a
point open this rests on the model's choices: log entry 93. -/
def Obligations.WordWrite : Prop :=
  ∀ (s : State) (m w v : Nat), w < 2 ^ 21 → v < 2 ^ 64 →
    (∀ m' a, a < 2 ^ 24 → (m' ≠ m ∨ a / 8 ≠ w) → (s.memWrite m w v).memByte m' a = s.memByte m' a) ∧
    (s.memWrite m w v).memWord m w = v ∧
    (s.flipHits m w = false → (s.memWrite m w v).eccOf m w = none ∧ (s.memWrite m w v).regs = s.regs ∧
      (s.memWrite m w v).memRead m w = (.good v, s.memWrite m w v)) ∧
    (s.flipHits m w = true →
      let k := s.fld F.MEM_FLIP_DATA_DATA + 2 ^ 64 * s.fld F.MEM_FLIP_CTL_CHECK
      (s.memWrite m w v).eccOf m w = (if k = 0 then none else some ⟨k, false⟩) ∧
        (s.memWrite m w v).flag F.MEM_FLIP_CTL_ARM = false ∧ (s.memWrite m w v).flag F.MEM_EVT_FLIP_DONE = true ∧
          (s.memWrite m w v).fld F.MEM_CNT_FLIP_COUNT = min 0xFFFFFFFF (s.fld F.MEM_CNT_FLIP_COUNT + 1))

/-- The messages of block interrupts (R527): none and no pending bit while MSI-X is disabled; a pending bit while masked; else one posted
write, which takes the place of the one that the vector has sent in this cycle (R529). An event raises its source's vector only where the
source was not raised before. Where the manual leaves a point open this rests on the model's choices: log entries 9, 150. -/
def Obligations.InterruptMessages : Prop :=
  (∀ (s : State) (v : Nat), s.flag F.HST_STAT_MSIX_EN = false → s.sendVector v = s) ∧
  (∀ (s : State) (v : Nat), let e := SMap.getD s.hst.msix v {}
    s.flag F.HST_STAT_MSIX_EN = true → (s.hst.funcMask = true ∨ e.mask = true) →
      s.sendVector v = { s with hst := { s.hst with pba := SMap.put s.hst.pba v () } }) ∧
  (∀ (s : State) (v : Nat), let e := SMap.getD s.hst.msix v {}
    s.flag F.HST_STAT_MSIX_EN = true → s.hst.funcMask = false → e.mask = false → s.flag F.HST_STAT_LINK_UP = true →
    s.flag F.HST_STAT_BUS_MASTER = true → s.hst.cfg.d3hot = false →
      s.sendVector v = { s with hst := { (s.unsend v).1 with
        sent := (s.unsend v).1.sent ++ [⟨e.addr, leBytes 4 e.data⟩],
        msgs := (s.cycle, (s.unsend v).1.msgs.2 ++ [(v, ⟨e.addr, leBytes 4 e.data⟩, false)]) } }) ∧
  (∀ (s : State) (v : Nat), s.msgsNow.find? (fun m => m.1 == v) = none → (s.unsend v).1.sent = s.hst.sent) ∧
  (∀ (s : State) (v : Nat) (m : Nat × HostWrite × Bool), s.msgsNow.find? (fun m => m.1 == v) = some m →
    (s.unsend v).1.sent = (s.hst.sent.reverse.erase m.2.1).reverse) ∧
  (∀ (s : State) (f : Fld) (i : Nat), f.w = 1 → f.lo < 64 → (s.raise f i).flag f i = true) ∧
  (∀ (s : State) (f : Fld) (i : Nat), s.srcRaised f.reg i = true → s.raise f i = (s.noteEvent f i).setFld f 1 i) ∧
  (∀ (s : State) (f : Fld) (i : Nat), s.srcRaised f.reg i = false → (s.setFld f 1 i).srcRaised f.reg i = true →
    s.raise f i = ((s.noteEvent f i).setFld f 1 i).sendVector (vectorOf f.reg i))

/-- While no slot is PROGRAMMED any KEY_SLOT is accepted without the comparison, and once the signature has verified the image's key hash is
in slot KEY_SLOT (R481), before any check after it and so where a later one fails too (R484, in the order of log entry 73, the model's
reading); no memory but the event buffer, which takes the record of R485, has changed by then. Where the manual leaves a point open this
rests on the model's choices: log entry 73. -/
def Obligations.FirstOwnerKey : Prop :=
  ∀ (s : State) (r : Nat), s.bot.owners = [] → s.checkKey r = true ∧
    (s.tryCold r).2.bot.owners = (if s.checkShape r = true ∧
        (List.range (s.payloadNat r 8 4 / 65536)).all (s.blockOk r) = true ∧ s.checkSig r = true then
      [(s.payloadNat r 5 1, ofBe (sha256 (s.payload r 52 64)))] else []) ∧
    ∀ m a, m ≠ 7 → a < 2 ^ 24 → (s.tryCold r).2.memByte m a = s.memByte m a

/-- ARM is refused for a MEM outside R438's table and, while JTAG is not open, for MEM 2, 3 and 4; a refused ARM sets FLIP_REFUSED and leaves
ARM 0 (R449); the write that sets LOCK clears ARM and writes no other field (R12); once LOCK is set the flip fields take no write. JTAG
open stands for UNLOCKED of GRT_STAT (R258) as the model reads it (log entry 53). Where the manual leaves a point open this rests on the
model's choices: log entry 53. -/
def Obligations.FlipMaskArming : Prop :=
  (∀ (s : State) (d : Word), let m := d.toNat % 2 ^ 8
    s.flag F.MEM_FLIP_CTL_LOCK = false → d.getLsbD 31 = false →
    (memWords m = none ∨ ((m = 2 ∨ m = 3 ∨ m = 4) ∧ s.jtagOpen = false)) → s.released = true → Completes (.flipArm d) s fun t =>
      t.flag F.MEM_FLIP_CTL_ARM = false ∧ t.flag F.MEM_EVT_FLIP_REFUSED = true) ∧
  (∀ (s : State) (d : Word), let m := d.toNat % 2 ^ 8
    s.flag F.MEM_FLIP_CTL_LOCK = false → d.getLsbD 31 = false → memWords m ≠ none → ((m ≠ 2 ∧ m ≠ 3 ∧ m ≠ 4) ∨ s.jtagOpen = true) →
    s.released = true → Completes (.flipArm d) s fun t => t.flag F.MEM_FLIP_CTL_ARM = true ∧ t.fld F.MEM_FLIP_CTL_MEM = m) ∧
  (∀ (s : State), s.flag F.MEM_FLIP_CTL_LOCK = false → s.released = true → Completes .flipLock s fun t =>
    t.flag F.MEM_FLIP_CTL_LOCK = true ∧ t.flag F.MEM_FLIP_CTL_ARM = false ∧
      ∀ f ∈ [F.MEM_FLIP_CTL_MEM, F.MEM_FLIP_CTL_ANY, F.MEM_FLIP_CTL_CHECK], t.fld f = s.fld f) ∧
  (∀ (s : State) (d : Word), s.flag F.MEM_FLIP_CTL_LOCK = false → d.getLsbD 31 = true →
    s.flipCtlWrite d = (s.setFld F.MEM_FLIP_CTL_LOCK 1).setFld F.MEM_FLIP_CTL_ARM 0) ∧
  (∀ (s : State) (d : Word) (id : RegId), s.flag F.MEM_FLIP_CTL_LOCK = true →
    (s.released = true → ∀ c ∈ [Instr.flipArm d, .flipLock], Completes c s fun t => t = s) ∧ s.flipCtlWrite d = s ∧ ∀ mask, s.flipParamWrite id mask d = s)

/-- R117: CHT_WEIR_USED_e reads as the sum of the entry's 60 bins, the running bin 0 and the 59 before it, each as CHT_BIN_DATA reads it once
CHT_BIN_SEL selects it. -/
def Obligations.WeirUsedSumsBins : Prop :=
  ∀ (s : State) (e : Nat), e < 16 → s.regView .CHT_WEIR_USED e 0 =
    ((List.range 60).map fun k => ((s.setFld F.CHT_BIN_SEL_ENTRY e).setFld F.CHT_BIN_SEL_BIN k).regView .CHT_BIN_DATA 0 0).sum
end

