-- ==== Sys2Proof/Laws/SMap.lean ====
section
/-! SUPPORT. Sparse maps: a read after a write, and the canonical form. -/

namespace Sys2Proof.SMap

variable {α : Type}

@[simp] theorem find?_nil (q : Nat) : find? ([] : SMap α) q = none := rfl

theorem find?_cons (k : Nat) (v : α) (m : SMap α) (q : Nat) :
    find? ((k, v) :: m) q = if q = k then some v else find? m q := rfl

/-- A write is read back. -/
@[simp] theorem find?_put_self (m : SMap α) (q : Nat) (v : α) : (m.put q v).find? q = some v := by
  induction m with
  | nil => simp [put, find?]
  | cons e m ih =>
    obtain ⟨k, w⟩ := e
    simp only [put]
    split
    · simp [find?]
    · split
      · simp [find?]
      · rename_i h
        simp [find?, h, ih]

/-- A write leaves every other key alone. -/
theorem find?_put_ne (m : SMap α) {q p : Nat} (v : α) (h : p ≠ q) : (m.put q v).find? p = m.find? p := by
  induction m with
  | nil => simp [put, find?, h]
  | cons e m ih =>
    obtain ⟨k, w⟩ := e
    simp only [put]
    split
    · simp [find?, h]
    · split
      · rename_i hk
        subst hk
        simp [find?, h]
      · simp [find?, ih]

@[simp] theorem find?_del_self (m : SMap α) (q : Nat) : (m.del q).find? q = none := by
  induction m with
  | nil => rfl
  | cons e m ih =>
    obtain ⟨k, w⟩ := e
    simp only [del]
    split
    · exact ih
    · rename_i h
      simp [find?, h, ih]

theorem find?_del_ne (m : SMap α) {q p : Nat} (h : p ≠ q) : (m.del q).find? p = m.find? p := by
  induction m with
  | nil => rfl
  | cons e m ih =>
    obtain ⟨k, w⟩ := e
    simp only [del]
    split
    · rename_i hk
      subst hk
      simp [find?, h, ih]
    · simp [find?, ih]

@[simp] theorem getD_put_self (m : SMap α) (q : Nat) (v d : α) : (m.put q v).getD q d = v := by simp [getD]

theorem getD_put_ne (m : SMap α) {q p : Nat} (v d : α) (h : p ≠ q) : (m.put q v).getD p d = m.getD p d := by
  simp [getD, find?_put_ne m v h]

@[simp] theorem getD_putD_self [DecidableEq α] (m : SMap α) (q : Nat) (v d : α) : (m.putD q v d).getD q d = v := by
  unfold putD
  split
  · rename_i h
    simp [getD, h]
  · simp

theorem getD_putD_ne [DecidableEq α] (m : SMap α) {q p : Nat} (v d e : α) (h : p ≠ q) :
    (m.putD q v d).getD p e = m.getD p e := by
  unfold putD
  split
  · simp [getD, find?_del_ne m h]
  · exact getD_put_ne m v e h

/-! ## The canonical form -/

/-- Every key of a map lies above a bound. -/
def above (b : Nat) : SMap α → Bool
  | [] => true
  | e :: _ => decide (b < e.1)

theorem sorted_cons (e : Nat × α) (m : SMap α) : sorted (e :: m) = (above e.1 m && sorted m) := by
  cases m <;> simp [sorted, above]

theorem above_of_lt {b c : Nat} {m : SMap α} (h : b ≤ c) (hc : above c m = true) : above b m = true := by
  cases m <;> simp_all [above]
  omega

theorem above_put {b q : Nat} {v : α} {m : SMap α} (hq : b < q) (h : above b m = true) : above b (m.put q v) = true := by
  cases m with
  | nil => simpa [put, above] using hq
  | cons e m =>
    obtain ⟨k, w⟩ := e
    simp only [put]
    split
    · simpa [above] using hq
    · split
      · simpa [above] using hq
      · simpa [above] using h

/-- A write keeps the keys rising. -/
theorem sorted_put (m : SMap α) (q : Nat) (v : α) (h : sorted m = true) : sorted (m.put q v) = true := by
  induction m with
  | nil => rfl
  | cons e m ih =>
    obtain ⟨k, w⟩ := e
    rw [sorted_cons] at h
    simp only [Bool.and_eq_true] at h
    simp only [put]
    split
    · rename_i hq
      rw [sorted_cons, sorted_cons]
      simp only [Bool.and_eq_true]
      exact ⟨by simpa [above] using hq, h.1, h.2⟩
    · split
      · rename_i hk
        subst hk
        simp [sorted_cons, h.1, h.2]
      · rename_i h1 h2
        rw [sorted_cons]
        simp only [Bool.and_eq_true]
        exact ⟨above_put (by omega) h.1, ih h.2⟩

theorem above_del {b q : Nat} {m : SMap α} (h : above b m = true) (hs : sorted m = true) : above b (m.del q) = true := by
  induction m with
  | nil => rfl
  | cons e m ih =>
    obtain ⟨k, w⟩ := e
    rw [sorted_cons] at hs
    simp only [Bool.and_eq_true] at hs
    simp only [del]
    split
    · refine ih (above_of_lt ?_ hs.1) hs.2
      simp [above] at h
      omega
    · simpa [above] using h

/-- A removal keeps the keys rising. -/
theorem sorted_del (m : SMap α) (q : Nat) (h : sorted m = true) : sorted (m.del q) = true := by
  induction m with
  | nil => rfl
  | cons e m ih =>
    obtain ⟨k, w⟩ := e
    rw [sorted_cons] at h
    simp only [Bool.and_eq_true] at h
    simp only [del]
    split
    · exact ih h.2
    · rw [sorted_cons]
      simp only [Bool.and_eq_true]
      exact ⟨above_del h.1 h.2, ih h.2⟩

theorem all_put {p : Nat × α → Bool} (m : SMap α) (q : Nat) (v : α) (h : m.all p = true) (hv : p (q, v) = true) :
    (m.put q v).all p = true := by
  induction m with
  | nil => simpa [put] using hv
  | cons e m ih =>
    obtain ⟨k, w⟩ := e
    simp only [List.all_cons, Bool.and_eq_true] at h
    simp only [put]
    split
    · simp only [List.all_cons, hv, h.1, h.2, Bool.and_self]
    · split
      · simp only [List.all_cons, hv, h.2, Bool.and_self]
      · simp only [List.all_cons, h.1, ih h.2, Bool.and_self]

theorem all_del {p : Nat × α → Bool} (m : SMap α) (q : Nat) (h : m.all p = true) : (m.del q).all p = true := by
  induction m with
  | nil => rfl
  | cons e m ih =>
    obtain ⟨k, w⟩ := e
    simp only [List.all_cons, Bool.and_eq_true] at h
    simp only [del]
    split
    · exact ih h.2
    · simp only [List.all_cons, h.1, ih h.2, Bool.and_self]

/-- A write keeps the canonical form: writing the default removes the entry. -/
theorem wf_putD [DecidableEq α] {d : α} (m : SMap α) (q : Nat) (v : α) (h : wf d m = true) : wf d (m.putD q v d) = true := by
  unfold wf at h ⊢
  simp only [Bool.and_eq_true] at h ⊢
  unfold putD
  split
  · exact ⟨sorted_del m q h.1, all_del m q h.2⟩
  · rename_i hv
    exact ⟨sorted_put m q v h.1, all_put m q v h.2 (by simpa using hv)⟩

@[simp] theorem wf_nil [DecidableEq α] (d : α) : wf d ([] : SMap α) = true := rfl

/-- The later of two writes of a key stays. -/
theorem put_put (m : SMap α) (q : Nat) (v w : α) : (m.put q v).put q w = m.put q w := by
  induction m with
  | nil => simp [put]
  | cons e m ih =>
    obtain ⟨k, x⟩ := e
    by_cases h1 : q < k
    · simp [put, h1]
    · by_cases h2 : q = k <;> simp [put, h1, h2, ih]

end Sys2Proof.SMap
end

