-- ==== Sys2Proof/Laws/RegFile.lean ====
section
/-! SUPPORT. The register file: a field after a write, events and counters. -/

namespace Sys2Proof.Machine

theorem RegId.ctorIdx_inj {a b : RegId} (h : a.ctorIdx = b.ctorIdx) : a = b := by
  have := congrArg RegId.ofNat h
  rwa [RegId.ofNat_ctorIdx, RegId.ofNat_ctorIdx] at this

theorem regKey_inj {a b : RegId} {i j k l : Nat} (h : regKey a i j = regKey b k l) : a = b ∧ i = k ∧ j = l := by
  unfold regKey at h
  obtain ⟨h1, h2⟩ := Nat.pair_eq_pair.mp h
  obtain ⟨h3, h4⟩ := Nat.pair_eq_pair.mp h1
  exact ⟨RegId.ctorIdx_inj h3, h4, h2⟩

/-- A register reads what was written. -/
@[simp] theorem reg_setReg_self (s : State) (id : RegId) (i j : Nat) (v : Word) : (s.setReg id i j v).reg id i j = v := by
  simp [State.reg, State.setReg]

/-- A write leaves every other register alone. -/
theorem reg_setReg_ne (s : State) {id id' : RegId} {i j i' j' : Nat} (v : Word) (h : ¬(id' = id ∧ i' = i ∧ j' = j)) :
    (s.setReg id i j v).reg id' i' j' = s.reg id' i' j' := by
  unfold State.reg State.setReg
  exact SMap.getD_put_ne _ _ _ fun hk => h (regKey_inj hk)

/-- A write leaves registers of other names alone. -/
theorem reg_setReg_id (s : State) {id id' : RegId} (i j : Nat) (i' j' : Nat) (v : Word) (h : id' ≠ id) :
    (s.setReg id i j v).reg id' i' j' = s.reg id' i' j' := reg_setReg_ne s v fun e => h e.1

/-- A register that `reg` reads depends on the register file alone. -/
theorem reg_congr {s t : State} (h : s.regs = t.regs) (id : RegId) (i j : Nat) : s.reg id i j = t.reg id i j := by
  simp [State.reg, h]

theorem fld_congr {s t : State} (h : s.regs = t.regs) (f : Fld) (i j : Nat) : s.fld f i j = t.fld f i j := by
  simp [State.fld, reg_congr h]

theorem flag_congr {s t : State} (h : s.regs = t.regs) (f : Fld) (i j : Nat) : s.flag f i j = t.flag f i j := by
  simp [State.flag, fld_congr h]

theorem setBits_lt {v lo w x n : Nat} (hv : v < 2 ^ n) (hn : lo + w ≤ n) : setBits v lo w x < 2 ^ n := by
  unfold setBits
  have h1 : v % 2 ^ lo < 2 ^ lo := Nat.mod_lt _ (by positivity)
  have h2 : x % 2 ^ w < 2 ^ w := Nat.mod_lt _ (by positivity)
  have h3 : v / 2 ^ (lo + w) < 2 ^ (n - (lo + w)) := by
    rw [Nat.div_lt_iff_lt_mul (by positivity), ← pow_add]
    rwa [Nat.sub_add_cancel hn]
  have h4 : 2 ^ lo * (x % 2 ^ w) + 2 ^ lo ≤ 2 ^ (lo + w) := by
    rw [pow_add, ← Nat.mul_succ]
    exact Nat.mul_le_mul_left _ h2
  have h5 : 2 ^ (lo + w) * (v / 2 ^ (lo + w)) + 2 ^ (lo + w) ≤ 2 ^ n := by
    have : 2 ^ n = 2 ^ (lo + w) * 2 ^ (n - (lo + w)) := by rw [← pow_add, Nat.add_sub_cancel' hn]
    rw [this, ← Nat.mul_succ]
    exact Nat.mul_le_mul_left _ h3
  omega

theorem bits_setBits (v lo w x : Nat) : bits (setBits v lo w x) lo w = x % 2 ^ w := by
  unfold bits setBits
  have h1 : v % 2 ^ lo / 2 ^ lo = 0 := Nat.div_eq_of_lt (Nat.mod_lt _ (by positivity))
  have e : v % 2 ^ lo + 2 ^ lo * (x % 2 ^ w) + 2 ^ (lo + w) * (v / 2 ^ (lo + w)) =
      v % 2 ^ lo + 2 ^ lo * (x % 2 ^ w + 2 ^ w * (v / 2 ^ (lo + w))) := by rw [pow_add]; ring
  rw [e, Nat.add_mul_div_left _ _ (by positivity), h1, Nat.zero_add, Nat.add_mul_mod_self_left, Nat.mod_mod]

/-- A field reads what was written, cut to its width. -/
theorem fld_setFld_self (s : State) (f : Fld) (v i j : Nat) (h : f.lo + f.w ≤ 64) : (s.setFld f v i j).fld f i j = v % 2 ^ f.w := by
  unfold State.fld State.setFld
  rw [reg_setReg_self, BitVec.toNat_ofNat, Nat.mod_eq_of_lt (setBits_lt (BitVec.isLt _) h), bits_setBits]

/-- Bits below or above a written field stay. -/
theorem bits_setBits_disjoint (v lo w x lo' w' : Nat) (h : lo' + w' ≤ lo ∨ lo + w ≤ lo') :
    bits (setBits v lo w x) lo' w' = bits v lo' w' := by
  unfold bits
  apply Nat.eq_of_testBit_eq
  intro k
  simp only [Nat.testBit_mod_two_pow, Nat.testBit_div_two_pow]
  by_cases hk : k < w'
  · simp only [hk, decide_true, Bool.true_and]
    have key : ∀ p, p < lo ∨ lo + w ≤ p → (setBits v lo w x).testBit p = v.testBit p := by
      intro p hp
      unfold setBits
      have h1 : v % 2 ^ lo + 2 ^ lo * (x % 2 ^ w) < 2 ^ (lo + w) := by
        have h2 : v % 2 ^ lo < 2 ^ lo := Nat.mod_lt _ (by positivity)
        have h3 : x % 2 ^ w < 2 ^ w := Nat.mod_lt _ (by positivity)
        have : 2 ^ lo * (x % 2 ^ w) + 2 ^ lo ≤ 2 ^ (lo + w) := by
          rw [pow_add, ← Nat.mul_succ]
          exact Nat.mul_le_mul_left _ h3
        omega
      rw [Nat.add_comm (v % 2 ^ lo + 2 ^ lo * (x % 2 ^ w)), Nat.testBit_two_pow_mul_add _ h1]
      split
      · rename_i hlt
        have hp' : p < lo := by omega
        rw [Nat.add_comm, Nat.testBit_two_pow_mul_add _ (Nat.mod_lt _ (by positivity))]
        simp [hp', Nat.testBit_mod_two_pow]
      · rename_i hge
        rw [Nat.testBit_div_two_pow]
        congr 1
        omega
    rw [key _ (by omega)]
  · simp [hk]

/-- A write of a field leaves a field apart from it alone. -/
theorem fld_setFld_disjoint (s : State) {f g : Fld} (v i j i' j' : Nat) (h : f.lo + f.w ≤ 64)
    (hd : g.lo + g.w ≤ f.lo ∨ f.lo + f.w ≤ g.lo) : (s.setFld f v i j).fld g i' j' = s.fld g i' j' := by
  unfold State.fld State.setFld
  by_cases e : g.reg = f.reg ∧ i' = i ∧ j' = j
  · obtain ⟨e1, rfl, rfl⟩ := e
    rw [e1, reg_setReg_self, BitVec.toNat_ofNat, Nat.mod_eq_of_lt (setBits_lt (BitVec.isLt _) h), bits_setBits_disjoint _ _ _ _ _ _ hd]
  · rw [reg_setReg_ne _ _ e]

/-- A write of a field leaves fields of other registers alone. -/
theorem fld_setFld_id (s : State) {f g : Fld} (v i j i' j' : Nat) (h : g.reg ≠ f.reg) :
    (s.setFld f v i j).fld g i' j' = s.fld g i' j' := by
  unfold State.fld State.setFld
  rw [reg_setReg_id _ _ _ _ _ _ h]

/-- A write of a field leaves the same field of another copy alone. -/
theorem fld_setFld_copy (s : State) {f g : Fld} (v i j i' j' : Nat) (h : ¬(i' = i ∧ j' = j)) :
    (s.setFld f v i j).fld g i' j' = s.fld g i' j' := by
  unfold State.fld State.setFld
  rw [reg_setReg_ne _ _ fun e => h e.2]

/-! ## Interrupt messages and events -/

@[simp] theorem sendVector_regs (s : State) (v : Nat) : (s.sendVector v).regs = s.regs := by
  simp only [State.sendVector]
  repeat' split
  all_goals rfl

/-- What a cycle has done is held beside the registers. -/
theorem noteEvent_eq (s : State) (f : Fld) (i : Nat) : ∃ c, s.noteEvent f i = { s with cyc := c } := by
  simp only [State.noteEvent]
  split
  · exact ⟨s.cyc, rfl⟩
  · exact ⟨_, rfl⟩

@[simp] theorem noteEvent_regs (s : State) (f : Fld) (i : Nat) : (s.noteEvent f i).regs = s.regs := by
  obtain ⟨c, h⟩ := noteEvent_eq s f i
  rw [h]
@[simp] theorem noteCount_regs (s : State) (f : Fld) (n i j : Nat) : (s.noteCount f n i j).regs = s.regs := rfl

/-- What a write of a field leaves in the register file depends on that file alone. -/
theorem setFld_regs_congr {s t : State} (h : s.regs = t.regs) (f : Fld) (v i j : Nat) : (s.setFld f v i j).regs = (t.setFld f v i j).regs := by
  simp only [State.setFld, State.setReg, reg_congr h, h]

/-- An event is noted, sets its bit, and may send a message. -/
theorem raise_cases (s : State) (f : Fld) (i : Nat) :
    s.raise f i = (s.noteEvent f i).setFld f 1 i ∨ s.raise f i = ((s.noteEvent f i).setFld f 1 i).sendVector (vectorOf f.reg i) := by
  simp only [State.raise, State.on]
  split
  · exact .inr rfl
  · exact .inl rfl

/-- The register file after an event. -/
@[simp] theorem raise_regs (s : State) (f : Fld) (i : Nat) : (s.raise f i).regs = (s.setFld f 1 i).regs := by
  obtain h | h := raise_cases s f i <;> simp [h, setFld_regs_congr (noteEvent_regs s f i)]

/-- An event bit is set. -/
theorem fld_raise_self (s : State) (f : Fld) (i : Nat) (h : f.lo + f.w ≤ 64) (hw : f.w = 1) : (s.raise f i).fld f i 0 = 1 := by
  rw [fld_congr (raise_regs _ _ _), fld_setFld_self _ _ _ _ _ h, hw]
  rfl

/-- An event leaves the fields of other registers alone. -/
theorem fld_raise_id (s : State) {f g : Fld} (i i' j' : Nat) (h : g.reg ≠ f.reg) : (s.raise f i).fld g i' j' = s.fld g i' j' := by
  rw [fld_congr (raise_regs _ _ _), fld_setFld_id _ _ _ _ _ _ h]

/-- An event leaves a field apart from its bit alone. -/
theorem fld_raise_disjoint (s : State) {f g : Fld} (i i' j' : Nat) (h : f.lo + f.w ≤ 64)
    (hd : g.lo + g.w ≤ f.lo ∨ f.lo + f.w ≤ g.lo) : (s.raise f i).fld g i' j' = s.fld g i' j' := by
  rw [fld_congr (raise_regs _ _ _), fld_setFld_disjoint _ _ _ _ _ _ h hd]

theorem reg_raise_id (s : State) {f : Fld} {id : RegId} (i i' j' : Nat) (h : id ≠ f.reg) : (s.raise f i).reg id i' j' = s.reg id i' j' := by
  rw [reg_congr (raise_regs _ _ _)]
  exact reg_setReg_id _ _ _ _ _ _ h

/-- The register file after a count. -/
theorem bump_regs (s : State) (f : Fld) (n i j : Nat) : (s.bump f n i j).regs = (s.setFld f (min (2 ^ f.w - 1) (s.fld f i j + n)) i j).regs :=
  setFld_regs_congr (noteCount_regs s f n i j) f _ i j

/-- A counter after a count. -/
theorem fld_bump_self (s : State) (f : Fld) (n i j : Nat) (h : f.lo + f.w ≤ 64) :
    (s.bump f n i j).fld f i j = min (2 ^ f.w - 1) (s.fld f i j + n) := by
  rw [fld_congr (bump_regs _ _ _ _ _), fld_setFld_self _ _ _ _ _ h, Nat.mod_eq_of_lt]
  have : 0 < 2 ^ f.w := by positivity
  omega

theorem fld_bump_id (s : State) {f g : Fld} (n i j i' j' : Nat) (h : g.reg ≠ f.reg) : (s.bump f n i j).fld g i' j' = s.fld g i' j' := by
  rw [fld_congr (bump_regs _ _ _ _ _), fld_setFld_id _ _ _ _ _ _ h]

/-- A field fits its width. -/
theorem fld_lt (s : State) (f : Fld) (i j : Nat) : s.fld f i j < 2 ^ f.w := Nat.mod_lt _ (by positivity)

/-- A field that every step of a fold leaves alone. -/
theorem foldl_fld {α : Type} {f : State → α → State} {g : Fld} {i j : Nat} (h : ∀ s a, (f s a).fld g i j = s.fld g i j)
    (l : List α) (s : State) : (l.foldl f s).fld g i j = s.fld g i j := by
  induction l generalizing s with
  | nil => rfl
  | cons a l ih => rw [List.foldl_cons, ih, h]

end Sys2Proof.Machine
end

