-- ==== Sys2Proof/Laws/State.lean ====
section
/-! SUPPORT. What each named update of the state leaves alone, and what it sets: one lemma per update and field. -/

namespace Sys2Proof.Machine

@[simp] theorem setReg_pending (s : State) (id : RegId) (i j : Nat) (v : Word) : (s.setReg id i j v).pending = s.pending := rfl
@[simp] theorem setReg_mem (s : State) (id : RegId) (i j : Nat) (v : Word) : (s.setReg id i j v).mem = s.mem := rfl
@[simp] theorem setReg_ecc (s : State) (id : RegId) (i j : Nat) (v : Word) : (s.setReg id i j v).ecc = s.ecc := rfl
@[simp] theorem setReg_draw (s : State) (id : RegId) (i j : Nat) (v : Word) : (s.setReg id i j v).draw = s.draw := rfl
@[simp] theorem setReg_cyc (s : State) (id : RegId) (i j : Nat) (v : Word) : (s.setReg id i j v).cyc = s.cyc := rfl
@[simp] theorem setReg_clp (s : State) (id : RegId) (i j : Nat) (v : Word) : (s.setReg id i j v).clp = s.clp := rfl
@[simp] theorem setReg_pwr (s : State) (id : RegId) (i j : Nat) (v : Word) : (s.setReg id i j v).pwr = s.pwr := rfl
@[simp] theorem setReg_run (s : State) (id : RegId) (i j : Nat) (v : Word) : (s.setReg id i j v).run = s.run := rfl
@[simp] theorem setReg_hst (s : State) (id : RegId) (i j : Nat) (v : Word) : (s.setReg id i j v).hst = s.hst := rfl
@[simp] theorem setReg_obs (s : State) (id : RegId) (i j : Nat) (v : Word) : (s.setReg id i j v).obs = s.obs := rfl
@[simp] theorem setReg_plm (s : State) (id : RegId) (i j : Nat) (v : Word) : (s.setReg id i j v).plm = s.plm := rfl
@[simp] theorem setReg_txf (s : State) (id : RegId) (i j : Nat) (v : Word) : (s.setReg id i j v).txf = s.txf := rfl
@[simp] theorem setReg_cht (s : State) (id : RegId) (i j : Nat) (v : Word) : (s.setReg id i j v).cht = s.cht := rfl
@[simp] theorem setReg_mac (s : State) (id : RegId) (i j : Nat) (v : Word) : (s.setReg id i j v).mac = s.mac := rfl
@[simp] theorem setReg_spw (s : State) (id : RegId) (i j : Nat) (v : Word) : (s.setReg id i j v).spw = s.spw := rfl
@[simp] theorem setReg_eth (s : State) (id : RegId) (i j : Nat) (v : Word) : (s.setReg id i j v).eth = s.eth := rfl
@[simp] theorem setReg_fls (s : State) (id : RegId) (i j : Nat) (v : Word) : (s.setReg id i j v).fls = s.fls := rfl
@[simp] theorem setReg_skim (s : State) (id : RegId) (i j : Nat) (v : Word) : (s.setReg id i j v).skim = s.skim := rfl
@[simp] theorem setReg_slc (s : State) (id : RegId) (i j : Nat) (v : Word) : (s.setReg id i j v).slc = s.slc := rfl
@[simp] theorem setReg_twn (s : State) (id : RegId) (i j : Nat) (v : Word) : (s.setReg id i j v).twn = s.twn := rfl
@[simp] theorem setReg_grt (s : State) (id : RegId) (i j : Nat) (v : Word) : (s.setReg id i j v).grt = s.grt := rfl
@[simp] theorem setReg_bot (s : State) (id : RegId) (i j : Nat) (v : Word) : (s.setReg id i j v).bot = s.bot := rfl
@[simp] theorem setReg_ocl (s : State) (id : RegId) (i j : Nat) (v : Word) : (s.setReg id i j v).ocl = s.ocl := rfl

@[simp] theorem setFld_pending (s : State) (f : Fld) (v i j : Nat) : (s.setFld f v i j).pending = s.pending := rfl
@[simp] theorem setFld_mem (s : State) (f : Fld) (v i j : Nat) : (s.setFld f v i j).mem = s.mem := rfl
@[simp] theorem setFld_ecc (s : State) (f : Fld) (v i j : Nat) : (s.setFld f v i j).ecc = s.ecc := rfl
@[simp] theorem setFld_draw (s : State) (f : Fld) (v i j : Nat) : (s.setFld f v i j).draw = s.draw := rfl
@[simp] theorem setFld_cyc (s : State) (f : Fld) (v i j : Nat) : (s.setFld f v i j).cyc = s.cyc := rfl
@[simp] theorem setFld_clp (s : State) (f : Fld) (v i j : Nat) : (s.setFld f v i j).clp = s.clp := rfl
@[simp] theorem setFld_pwr (s : State) (f : Fld) (v i j : Nat) : (s.setFld f v i j).pwr = s.pwr := rfl
@[simp] theorem setFld_run (s : State) (f : Fld) (v i j : Nat) : (s.setFld f v i j).run = s.run := rfl
@[simp] theorem setFld_hst (s : State) (f : Fld) (v i j : Nat) : (s.setFld f v i j).hst = s.hst := rfl
@[simp] theorem setFld_obs (s : State) (f : Fld) (v i j : Nat) : (s.setFld f v i j).obs = s.obs := rfl
@[simp] theorem setFld_plm (s : State) (f : Fld) (v i j : Nat) : (s.setFld f v i j).plm = s.plm := rfl
@[simp] theorem setFld_txf (s : State) (f : Fld) (v i j : Nat) : (s.setFld f v i j).txf = s.txf := rfl
@[simp] theorem setFld_cht (s : State) (f : Fld) (v i j : Nat) : (s.setFld f v i j).cht = s.cht := rfl
@[simp] theorem setFld_mac (s : State) (f : Fld) (v i j : Nat) : (s.setFld f v i j).mac = s.mac := rfl
@[simp] theorem setFld_spw (s : State) (f : Fld) (v i j : Nat) : (s.setFld f v i j).spw = s.spw := rfl
@[simp] theorem setFld_eth (s : State) (f : Fld) (v i j : Nat) : (s.setFld f v i j).eth = s.eth := rfl
@[simp] theorem setFld_fls (s : State) (f : Fld) (v i j : Nat) : (s.setFld f v i j).fls = s.fls := rfl
@[simp] theorem setFld_skim (s : State) (f : Fld) (v i j : Nat) : (s.setFld f v i j).skim = s.skim := rfl
@[simp] theorem setFld_slc (s : State) (f : Fld) (v i j : Nat) : (s.setFld f v i j).slc = s.slc := rfl
@[simp] theorem setFld_twn (s : State) (f : Fld) (v i j : Nat) : (s.setFld f v i j).twn = s.twn := rfl
@[simp] theorem setFld_grt (s : State) (f : Fld) (v i j : Nat) : (s.setFld f v i j).grt = s.grt := rfl
@[simp] theorem setFld_bot (s : State) (f : Fld) (v i j : Nat) : (s.setFld f v i j).bot = s.bot := rfl
@[simp] theorem setFld_ocl (s : State) (f : Fld) (v i j : Nat) : (s.setFld f v i j).ocl = s.ocl := rfl

@[simp] theorem bump_pending (s : State) (f : Fld) (n i j : Nat) : (s.bump f n i j).pending = s.pending := rfl
@[simp] theorem bump_mem (s : State) (f : Fld) (n i j : Nat) : (s.bump f n i j).mem = s.mem := rfl
@[simp] theorem bump_ecc (s : State) (f : Fld) (n i j : Nat) : (s.bump f n i j).ecc = s.ecc := rfl
@[simp] theorem bump_draw (s : State) (f : Fld) (n i j : Nat) : (s.bump f n i j).draw = s.draw := rfl
@[simp] theorem bump_clp (s : State) (f : Fld) (n i j : Nat) : (s.bump f n i j).clp = s.clp := rfl
@[simp] theorem bump_pwr (s : State) (f : Fld) (n i j : Nat) : (s.bump f n i j).pwr = s.pwr := rfl
@[simp] theorem bump_run (s : State) (f : Fld) (n i j : Nat) : (s.bump f n i j).run = s.run := rfl
@[simp] theorem bump_hst (s : State) (f : Fld) (n i j : Nat) : (s.bump f n i j).hst = s.hst := rfl
@[simp] theorem bump_obs (s : State) (f : Fld) (n i j : Nat) : (s.bump f n i j).obs = s.obs := rfl
@[simp] theorem bump_plm (s : State) (f : Fld) (n i j : Nat) : (s.bump f n i j).plm = s.plm := rfl
@[simp] theorem bump_txf (s : State) (f : Fld) (n i j : Nat) : (s.bump f n i j).txf = s.txf := rfl
@[simp] theorem bump_cht (s : State) (f : Fld) (n i j : Nat) : (s.bump f n i j).cht = s.cht := rfl
@[simp] theorem bump_mac (s : State) (f : Fld) (n i j : Nat) : (s.bump f n i j).mac = s.mac := rfl
@[simp] theorem bump_spw (s : State) (f : Fld) (n i j : Nat) : (s.bump f n i j).spw = s.spw := rfl
@[simp] theorem bump_eth (s : State) (f : Fld) (n i j : Nat) : (s.bump f n i j).eth = s.eth := rfl
@[simp] theorem bump_fls (s : State) (f : Fld) (n i j : Nat) : (s.bump f n i j).fls = s.fls := rfl
@[simp] theorem bump_skim (s : State) (f : Fld) (n i j : Nat) : (s.bump f n i j).skim = s.skim := rfl
@[simp] theorem bump_slc (s : State) (f : Fld) (n i j : Nat) : (s.bump f n i j).slc = s.slc := rfl
@[simp] theorem bump_twn (s : State) (f : Fld) (n i j : Nat) : (s.bump f n i j).twn = s.twn := rfl
@[simp] theorem bump_grt (s : State) (f : Fld) (n i j : Nat) : (s.bump f n i j).grt = s.grt := rfl
@[simp] theorem bump_bot (s : State) (f : Fld) (n i j : Nat) : (s.bump f n i j).bot = s.bot := rfl
@[simp] theorem bump_ocl (s : State) (f : Fld) (n i j : Nat) : (s.bump f n i j).ocl = s.ocl := rfl

@[simp] theorem setMemByte_pending (s : State) (m o : Nat) (b : Byte) : (s.setMemByte m o b).pending = s.pending := rfl
@[simp] theorem setMemByte_regs (s : State) (m o : Nat) (b : Byte) : (s.setMemByte m o b).regs = s.regs := rfl
@[simp] theorem setMemByte_ecc (s : State) (m o : Nat) (b : Byte) : (s.setMemByte m o b).ecc = s.ecc := rfl
@[simp] theorem setMemByte_draw (s : State) (m o : Nat) (b : Byte) : (s.setMemByte m o b).draw = s.draw := rfl
@[simp] theorem setMemByte_cyc (s : State) (m o : Nat) (b : Byte) : (s.setMemByte m o b).cyc = s.cyc := rfl
@[simp] theorem setMemByte_clp (s : State) (m o : Nat) (b : Byte) : (s.setMemByte m o b).clp = s.clp := rfl
@[simp] theorem setMemByte_pwr (s : State) (m o : Nat) (b : Byte) : (s.setMemByte m o b).pwr = s.pwr := rfl
@[simp] theorem setMemByte_run (s : State) (m o : Nat) (b : Byte) : (s.setMemByte m o b).run = s.run := rfl
@[simp] theorem setMemByte_hst (s : State) (m o : Nat) (b : Byte) : (s.setMemByte m o b).hst = s.hst := rfl
@[simp] theorem setMemByte_obs (s : State) (m o : Nat) (b : Byte) : (s.setMemByte m o b).obs = s.obs := rfl
@[simp] theorem setMemByte_plm (s : State) (m o : Nat) (b : Byte) : (s.setMemByte m o b).plm = s.plm := rfl
@[simp] theorem setMemByte_txf (s : State) (m o : Nat) (b : Byte) : (s.setMemByte m o b).txf = s.txf := rfl
@[simp] theorem setMemByte_cht (s : State) (m o : Nat) (b : Byte) : (s.setMemByte m o b).cht = s.cht := rfl
@[simp] theorem setMemByte_mac (s : State) (m o : Nat) (b : Byte) : (s.setMemByte m o b).mac = s.mac := rfl
@[simp] theorem setMemByte_spw (s : State) (m o : Nat) (b : Byte) : (s.setMemByte m o b).spw = s.spw := rfl
@[simp] theorem setMemByte_eth (s : State) (m o : Nat) (b : Byte) : (s.setMemByte m o b).eth = s.eth := rfl
@[simp] theorem setMemByte_fls (s : State) (m o : Nat) (b : Byte) : (s.setMemByte m o b).fls = s.fls := rfl
@[simp] theorem setMemByte_skim (s : State) (m o : Nat) (b : Byte) : (s.setMemByte m o b).skim = s.skim := rfl
@[simp] theorem setMemByte_slc (s : State) (m o : Nat) (b : Byte) : (s.setMemByte m o b).slc = s.slc := rfl
@[simp] theorem setMemByte_twn (s : State) (m o : Nat) (b : Byte) : (s.setMemByte m o b).twn = s.twn := rfl
@[simp] theorem setMemByte_grt (s : State) (m o : Nat) (b : Byte) : (s.setMemByte m o b).grt = s.grt := rfl
@[simp] theorem setMemByte_bot (s : State) (m o : Nat) (b : Byte) : (s.setMemByte m o b).bot = s.bot := rfl
@[simp] theorem setMemByte_ocl (s : State) (m o : Nat) (b : Byte) : (s.setMemByte m o b).ocl = s.ocl := rfl
@[simp] theorem setMemByte_reg (s : State) (m o : Nat) (b : Byte) (id : RegId) (x y : Nat) : (s.setMemByte m o b).reg id x y = s.reg id x y := rfl
@[simp] theorem setMemByte_fld (s : State) (m o : Nat) (b : Byte) (h : Fld) (x y : Nat) : (s.setMemByte m o b).fld h x y = s.fld h x y := rfl

@[simp] theorem eccClear_pending (s : State) (m w : Nat) : (s.eccClear m w).pending = s.pending := rfl
@[simp] theorem eccClear_regs (s : State) (m w : Nat) : (s.eccClear m w).regs = s.regs := rfl
@[simp] theorem eccClear_mem (s : State) (m w : Nat) : (s.eccClear m w).mem = s.mem := rfl
@[simp] theorem eccClear_draw (s : State) (m w : Nat) : (s.eccClear m w).draw = s.draw := rfl
@[simp] theorem eccClear_cyc (s : State) (m w : Nat) : (s.eccClear m w).cyc = s.cyc := rfl
@[simp] theorem eccClear_clp (s : State) (m w : Nat) : (s.eccClear m w).clp = s.clp := rfl
@[simp] theorem eccClear_pwr (s : State) (m w : Nat) : (s.eccClear m w).pwr = s.pwr := rfl
@[simp] theorem eccClear_run (s : State) (m w : Nat) : (s.eccClear m w).run = s.run := rfl
@[simp] theorem eccClear_hst (s : State) (m w : Nat) : (s.eccClear m w).hst = s.hst := rfl
@[simp] theorem eccClear_obs (s : State) (m w : Nat) : (s.eccClear m w).obs = s.obs := rfl
@[simp] theorem eccClear_plm (s : State) (m w : Nat) : (s.eccClear m w).plm = s.plm := rfl
@[simp] theorem eccClear_txf (s : State) (m w : Nat) : (s.eccClear m w).txf = s.txf := rfl
@[simp] theorem eccClear_cht (s : State) (m w : Nat) : (s.eccClear m w).cht = s.cht := rfl
@[simp] theorem eccClear_mac (s : State) (m w : Nat) : (s.eccClear m w).mac = s.mac := rfl
@[simp] theorem eccClear_spw (s : State) (m w : Nat) : (s.eccClear m w).spw = s.spw := rfl
@[simp] theorem eccClear_eth (s : State) (m w : Nat) : (s.eccClear m w).eth = s.eth := rfl
@[simp] theorem eccClear_fls (s : State) (m w : Nat) : (s.eccClear m w).fls = s.fls := rfl
@[simp] theorem eccClear_skim (s : State) (m w : Nat) : (s.eccClear m w).skim = s.skim := rfl
@[simp] theorem eccClear_slc (s : State) (m w : Nat) : (s.eccClear m w).slc = s.slc := rfl
@[simp] theorem eccClear_twn (s : State) (m w : Nat) : (s.eccClear m w).twn = s.twn := rfl
@[simp] theorem eccClear_grt (s : State) (m w : Nat) : (s.eccClear m w).grt = s.grt := rfl
@[simp] theorem eccClear_bot (s : State) (m w : Nat) : (s.eccClear m w).bot = s.bot := rfl
@[simp] theorem eccClear_ocl (s : State) (m w : Nat) : (s.eccClear m w).ocl = s.ocl := rfl
@[simp] theorem eccClear_reg (s : State) (m w : Nat) (id : RegId) (x y : Nat) : (s.eccClear m w).reg id x y = s.reg id x y := rfl
@[simp] theorem eccClear_fld (s : State) (m w : Nat) (h : Fld) (x y : Nat) : (s.eccClear m w).fld h x y = s.fld h x y := rfl

@[simp] theorem eccSet_pending (s : State) (m w : Nat) (k : EccMark) : (s.eccSet m w k).pending = s.pending := rfl
@[simp] theorem eccSet_regs (s : State) (m w : Nat) (k : EccMark) : (s.eccSet m w k).regs = s.regs := rfl
@[simp] theorem eccSet_mem (s : State) (m w : Nat) (k : EccMark) : (s.eccSet m w k).mem = s.mem := rfl
@[simp] theorem eccSet_draw (s : State) (m w : Nat) (k : EccMark) : (s.eccSet m w k).draw = s.draw := rfl
@[simp] theorem eccSet_cyc (s : State) (m w : Nat) (k : EccMark) : (s.eccSet m w k).cyc = s.cyc := rfl
@[simp] theorem eccSet_clp (s : State) (m w : Nat) (k : EccMark) : (s.eccSet m w k).clp = s.clp := rfl
@[simp] theorem eccSet_pwr (s : State) (m w : Nat) (k : EccMark) : (s.eccSet m w k).pwr = s.pwr := rfl
@[simp] theorem eccSet_run (s : State) (m w : Nat) (k : EccMark) : (s.eccSet m w k).run = s.run := rfl
@[simp] theorem eccSet_hst (s : State) (m w : Nat) (k : EccMark) : (s.eccSet m w k).hst = s.hst := rfl
@[simp] theorem eccSet_obs (s : State) (m w : Nat) (k : EccMark) : (s.eccSet m w k).obs = s.obs := rfl
@[simp] theorem eccSet_plm (s : State) (m w : Nat) (k : EccMark) : (s.eccSet m w k).plm = s.plm := rfl
@[simp] theorem eccSet_txf (s : State) (m w : Nat) (k : EccMark) : (s.eccSet m w k).txf = s.txf := rfl
@[simp] theorem eccSet_cht (s : State) (m w : Nat) (k : EccMark) : (s.eccSet m w k).cht = s.cht := rfl
@[simp] theorem eccSet_mac (s : State) (m w : Nat) (k : EccMark) : (s.eccSet m w k).mac = s.mac := rfl
@[simp] theorem eccSet_spw (s : State) (m w : Nat) (k : EccMark) : (s.eccSet m w k).spw = s.spw := rfl
@[simp] theorem eccSet_eth (s : State) (m w : Nat) (k : EccMark) : (s.eccSet m w k).eth = s.eth := rfl
@[simp] theorem eccSet_fls (s : State) (m w : Nat) (k : EccMark) : (s.eccSet m w k).fls = s.fls := rfl
@[simp] theorem eccSet_skim (s : State) (m w : Nat) (k : EccMark) : (s.eccSet m w k).skim = s.skim := rfl
@[simp] theorem eccSet_slc (s : State) (m w : Nat) (k : EccMark) : (s.eccSet m w k).slc = s.slc := rfl
@[simp] theorem eccSet_twn (s : State) (m w : Nat) (k : EccMark) : (s.eccSet m w k).twn = s.twn := rfl
@[simp] theorem eccSet_grt (s : State) (m w : Nat) (k : EccMark) : (s.eccSet m w k).grt = s.grt := rfl
@[simp] theorem eccSet_bot (s : State) (m w : Nat) (k : EccMark) : (s.eccSet m w k).bot = s.bot := rfl
@[simp] theorem eccSet_ocl (s : State) (m w : Nat) (k : EccMark) : (s.eccSet m w k).ocl = s.ocl := rfl
@[simp] theorem eccSet_reg (s : State) (m w : Nat) (k : EccMark) (id : RegId) (x y : Nat) : (s.eccSet m w k).reg id x y = s.reg id x y := rfl
@[simp] theorem eccSet_fld (s : State) (m w : Nat) (k : EccMark) (h : Fld) (x y : Nat) : (s.eccSet m w k).fld h x y = s.fld h x y := rfl

@[simp] theorem setLink_pending (s : State) (c : Nat) (l : Link) : (s.setLink c l).pending = s.pending := rfl
@[simp] theorem setLink_regs (s : State) (c : Nat) (l : Link) : (s.setLink c l).regs = s.regs := rfl
@[simp] theorem setLink_mem (s : State) (c : Nat) (l : Link) : (s.setLink c l).mem = s.mem := rfl
@[simp] theorem setLink_ecc (s : State) (c : Nat) (l : Link) : (s.setLink c l).ecc = s.ecc := rfl
@[simp] theorem setLink_draw (s : State) (c : Nat) (l : Link) : (s.setLink c l).draw = s.draw := rfl
@[simp] theorem setLink_cyc (s : State) (c : Nat) (l : Link) : (s.setLink c l).cyc = s.cyc := rfl
@[simp] theorem setLink_clp (s : State) (c : Nat) (l : Link) : (s.setLink c l).clp = s.clp := rfl
@[simp] theorem setLink_pwr (s : State) (c : Nat) (l : Link) : (s.setLink c l).pwr = s.pwr := rfl
@[simp] theorem setLink_hst (s : State) (c : Nat) (l : Link) : (s.setLink c l).hst = s.hst := rfl
@[simp] theorem setLink_obs (s : State) (c : Nat) (l : Link) : (s.setLink c l).obs = s.obs := rfl
@[simp] theorem setLink_plm (s : State) (c : Nat) (l : Link) : (s.setLink c l).plm = s.plm := rfl
@[simp] theorem setLink_txf (s : State) (c : Nat) (l : Link) : (s.setLink c l).txf = s.txf := rfl
@[simp] theorem setLink_cht (s : State) (c : Nat) (l : Link) : (s.setLink c l).cht = s.cht := rfl
@[simp] theorem setLink_mac (s : State) (c : Nat) (l : Link) : (s.setLink c l).mac = s.mac := rfl
@[simp] theorem setLink_spw (s : State) (c : Nat) (l : Link) : (s.setLink c l).spw = s.spw := rfl
@[simp] theorem setLink_eth (s : State) (c : Nat) (l : Link) : (s.setLink c l).eth = s.eth := rfl
@[simp] theorem setLink_fls (s : State) (c : Nat) (l : Link) : (s.setLink c l).fls = s.fls := rfl
@[simp] theorem setLink_skim (s : State) (c : Nat) (l : Link) : (s.setLink c l).skim = s.skim := rfl
@[simp] theorem setLink_slc (s : State) (c : Nat) (l : Link) : (s.setLink c l).slc = s.slc := rfl
@[simp] theorem setLink_twn (s : State) (c : Nat) (l : Link) : (s.setLink c l).twn = s.twn := rfl
@[simp] theorem setLink_grt (s : State) (c : Nat) (l : Link) : (s.setLink c l).grt = s.grt := rfl
@[simp] theorem setLink_bot (s : State) (c : Nat) (l : Link) : (s.setLink c l).bot = s.bot := rfl
@[simp] theorem setLink_ocl (s : State) (c : Nat) (l : Link) : (s.setLink c l).ocl = s.ocl := rfl
@[simp] theorem setLink_reg (s : State) (c : Nat) (l : Link) (id : RegId) (x y : Nat) : (s.setLink c l).reg id x y = s.reg id x y := rfl
@[simp] theorem setLink_fld (s : State) (c : Nat) (l : Link) (h : Fld) (x y : Nat) : (s.setLink c l).fld h x y = s.fld h x y := rfl

@[simp] theorem setRunnel_pending (s : State) (n : Nat) (r : Runnel) : (s.setRunnel n r).pending = s.pending := rfl
@[simp] theorem setRunnel_regs (s : State) (n : Nat) (r : Runnel) : (s.setRunnel n r).regs = s.regs := rfl
@[simp] theorem setRunnel_mem (s : State) (n : Nat) (r : Runnel) : (s.setRunnel n r).mem = s.mem := rfl
@[simp] theorem setRunnel_ecc (s : State) (n : Nat) (r : Runnel) : (s.setRunnel n r).ecc = s.ecc := rfl
@[simp] theorem setRunnel_draw (s : State) (n : Nat) (r : Runnel) : (s.setRunnel n r).draw = s.draw := rfl
@[simp] theorem setRunnel_cyc (s : State) (n : Nat) (r : Runnel) : (s.setRunnel n r).cyc = s.cyc := rfl
@[simp] theorem setRunnel_clp (s : State) (n : Nat) (r : Runnel) : (s.setRunnel n r).clp = s.clp := rfl
@[simp] theorem setRunnel_pwr (s : State) (n : Nat) (r : Runnel) : (s.setRunnel n r).pwr = s.pwr := rfl
@[simp] theorem setRunnel_hst (s : State) (n : Nat) (r : Runnel) : (s.setRunnel n r).hst = s.hst := rfl
@[simp] theorem setRunnel_obs (s : State) (n : Nat) (r : Runnel) : (s.setRunnel n r).obs = s.obs := rfl
@[simp] theorem setRunnel_plm (s : State) (n : Nat) (r : Runnel) : (s.setRunnel n r).plm = s.plm := rfl
@[simp] theorem setRunnel_txf (s : State) (n : Nat) (r : Runnel) : (s.setRunnel n r).txf = s.txf := rfl
@[simp] theorem setRunnel_cht (s : State) (n : Nat) (r : Runnel) : (s.setRunnel n r).cht = s.cht := rfl
@[simp] theorem setRunnel_mac (s : State) (n : Nat) (r : Runnel) : (s.setRunnel n r).mac = s.mac := rfl
@[simp] theorem setRunnel_spw (s : State) (n : Nat) (r : Runnel) : (s.setRunnel n r).spw = s.spw := rfl
@[simp] theorem setRunnel_eth (s : State) (n : Nat) (r : Runnel) : (s.setRunnel n r).eth = s.eth := rfl
@[simp] theorem setRunnel_fls (s : State) (n : Nat) (r : Runnel) : (s.setRunnel n r).fls = s.fls := rfl
@[simp] theorem setRunnel_skim (s : State) (n : Nat) (r : Runnel) : (s.setRunnel n r).skim = s.skim := rfl
@[simp] theorem setRunnel_slc (s : State) (n : Nat) (r : Runnel) : (s.setRunnel n r).slc = s.slc := rfl
@[simp] theorem setRunnel_twn (s : State) (n : Nat) (r : Runnel) : (s.setRunnel n r).twn = s.twn := rfl
@[simp] theorem setRunnel_grt (s : State) (n : Nat) (r : Runnel) : (s.setRunnel n r).grt = s.grt := rfl
@[simp] theorem setRunnel_bot (s : State) (n : Nat) (r : Runnel) : (s.setRunnel n r).bot = s.bot := rfl
@[simp] theorem setRunnel_ocl (s : State) (n : Nat) (r : Runnel) : (s.setRunnel n r).ocl = s.ocl := rfl
@[simp] theorem setRunnel_reg (s : State) (n : Nat) (r : Runnel) (id : RegId) (x y : Nat) : (s.setRunnel n r).reg id x y = s.reg id x y := rfl
@[simp] theorem setRunnel_fld (s : State) (n : Nat) (r : Runnel) (h : Fld) (x y : Nat) : (s.setRunnel n r).fld h x y = s.fld h x y := rfl

@[simp] theorem setPlmChain_pending (s : State) (j : Nat) (c : PlmChain) : (s.setPlmChain j c).pending = s.pending := rfl
@[simp] theorem setPlmChain_regs (s : State) (j : Nat) (c : PlmChain) : (s.setPlmChain j c).regs = s.regs := rfl
@[simp] theorem setPlmChain_mem (s : State) (j : Nat) (c : PlmChain) : (s.setPlmChain j c).mem = s.mem := rfl
@[simp] theorem setPlmChain_ecc (s : State) (j : Nat) (c : PlmChain) : (s.setPlmChain j c).ecc = s.ecc := rfl
@[simp] theorem setPlmChain_draw (s : State) (j : Nat) (c : PlmChain) : (s.setPlmChain j c).draw = s.draw := rfl
@[simp] theorem setPlmChain_cyc (s : State) (j : Nat) (c : PlmChain) : (s.setPlmChain j c).cyc = s.cyc := rfl
@[simp] theorem setPlmChain_clp (s : State) (j : Nat) (c : PlmChain) : (s.setPlmChain j c).clp = s.clp := rfl
@[simp] theorem setPlmChain_pwr (s : State) (j : Nat) (c : PlmChain) : (s.setPlmChain j c).pwr = s.pwr := rfl
@[simp] theorem setPlmChain_run (s : State) (j : Nat) (c : PlmChain) : (s.setPlmChain j c).run = s.run := rfl
@[simp] theorem setPlmChain_hst (s : State) (j : Nat) (c : PlmChain) : (s.setPlmChain j c).hst = s.hst := rfl
@[simp] theorem setPlmChain_obs (s : State) (j : Nat) (c : PlmChain) : (s.setPlmChain j c).obs = s.obs := rfl
@[simp] theorem setPlmChain_txf (s : State) (j : Nat) (c : PlmChain) : (s.setPlmChain j c).txf = s.txf := rfl
@[simp] theorem setPlmChain_cht (s : State) (j : Nat) (c : PlmChain) : (s.setPlmChain j c).cht = s.cht := rfl
@[simp] theorem setPlmChain_mac (s : State) (j : Nat) (c : PlmChain) : (s.setPlmChain j c).mac = s.mac := rfl
@[simp] theorem setPlmChain_spw (s : State) (j : Nat) (c : PlmChain) : (s.setPlmChain j c).spw = s.spw := rfl
@[simp] theorem setPlmChain_eth (s : State) (j : Nat) (c : PlmChain) : (s.setPlmChain j c).eth = s.eth := rfl
@[simp] theorem setPlmChain_fls (s : State) (j : Nat) (c : PlmChain) : (s.setPlmChain j c).fls = s.fls := rfl
@[simp] theorem setPlmChain_skim (s : State) (j : Nat) (c : PlmChain) : (s.setPlmChain j c).skim = s.skim := rfl
@[simp] theorem setPlmChain_slc (s : State) (j : Nat) (c : PlmChain) : (s.setPlmChain j c).slc = s.slc := rfl
@[simp] theorem setPlmChain_twn (s : State) (j : Nat) (c : PlmChain) : (s.setPlmChain j c).twn = s.twn := rfl
@[simp] theorem setPlmChain_grt (s : State) (j : Nat) (c : PlmChain) : (s.setPlmChain j c).grt = s.grt := rfl
@[simp] theorem setPlmChain_bot (s : State) (j : Nat) (c : PlmChain) : (s.setPlmChain j c).bot = s.bot := rfl
@[simp] theorem setPlmChain_ocl (s : State) (j : Nat) (c : PlmChain) : (s.setPlmChain j c).ocl = s.ocl := rfl
@[simp] theorem setPlmChain_reg (s : State) (j : Nat) (c : PlmChain) (id : RegId) (x y : Nat) : (s.setPlmChain j c).reg id x y = s.reg id x y := rfl
@[simp] theorem setPlmChain_fld (s : State) (j : Nat) (c : PlmChain) (h : Fld) (x y : Nat) : (s.setPlmChain j c).fld h x y = s.fld h x y := rfl

@[simp] theorem setRill_pending (s : State) (j n : Nat) (r : Rill) : (s.setRill j n r).pending = s.pending := rfl
@[simp] theorem setRill_regs (s : State) (j n : Nat) (r : Rill) : (s.setRill j n r).regs = s.regs := rfl
@[simp] theorem setRill_mem (s : State) (j n : Nat) (r : Rill) : (s.setRill j n r).mem = s.mem := rfl
@[simp] theorem setRill_ecc (s : State) (j n : Nat) (r : Rill) : (s.setRill j n r).ecc = s.ecc := rfl
@[simp] theorem setRill_draw (s : State) (j n : Nat) (r : Rill) : (s.setRill j n r).draw = s.draw := rfl
@[simp] theorem setRill_cyc (s : State) (j n : Nat) (r : Rill) : (s.setRill j n r).cyc = s.cyc := rfl
@[simp] theorem setRill_clp (s : State) (j n : Nat) (r : Rill) : (s.setRill j n r).clp = s.clp := rfl
@[simp] theorem setRill_pwr (s : State) (j n : Nat) (r : Rill) : (s.setRill j n r).pwr = s.pwr := rfl
@[simp] theorem setRill_run (s : State) (j n : Nat) (r : Rill) : (s.setRill j n r).run = s.run := rfl
@[simp] theorem setRill_hst (s : State) (j n : Nat) (r : Rill) : (s.setRill j n r).hst = s.hst := rfl
@[simp] theorem setRill_obs (s : State) (j n : Nat) (r : Rill) : (s.setRill j n r).obs = s.obs := rfl
@[simp] theorem setRill_txf (s : State) (j n : Nat) (r : Rill) : (s.setRill j n r).txf = s.txf := rfl
@[simp] theorem setRill_cht (s : State) (j n : Nat) (r : Rill) : (s.setRill j n r).cht = s.cht := rfl
@[simp] theorem setRill_mac (s : State) (j n : Nat) (r : Rill) : (s.setRill j n r).mac = s.mac := rfl
@[simp] theorem setRill_spw (s : State) (j n : Nat) (r : Rill) : (s.setRill j n r).spw = s.spw := rfl
@[simp] theorem setRill_eth (s : State) (j n : Nat) (r : Rill) : (s.setRill j n r).eth = s.eth := rfl
@[simp] theorem setRill_fls (s : State) (j n : Nat) (r : Rill) : (s.setRill j n r).fls = s.fls := rfl
@[simp] theorem setRill_skim (s : State) (j n : Nat) (r : Rill) : (s.setRill j n r).skim = s.skim := rfl
@[simp] theorem setRill_slc (s : State) (j n : Nat) (r : Rill) : (s.setRill j n r).slc = s.slc := rfl
@[simp] theorem setRill_twn (s : State) (j n : Nat) (r : Rill) : (s.setRill j n r).twn = s.twn := rfl
@[simp] theorem setRill_grt (s : State) (j n : Nat) (r : Rill) : (s.setRill j n r).grt = s.grt := rfl
@[simp] theorem setRill_bot (s : State) (j n : Nat) (r : Rill) : (s.setRill j n r).bot = s.bot := rfl
@[simp] theorem setRill_ocl (s : State) (j n : Nat) (r : Rill) : (s.setRill j n r).ocl = s.ocl := rfl
@[simp] theorem setRill_reg (s : State) (j n : Nat) (r : Rill) (id : RegId) (x y : Nat) : (s.setRill j n r).reg id x y = s.reg id x y := rfl
@[simp] theorem setRill_fld (s : State) (j n : Nat) (r : Rill) (h : Fld) (x y : Nat) : (s.setRill j n r).fld h x y = s.fld h x y := rfl

@[simp] theorem setTx_pending (s : State) (j : Nat) (c : TxfChain) : (s.setTx j c).pending = s.pending := rfl
@[simp] theorem setTx_regs (s : State) (j : Nat) (c : TxfChain) : (s.setTx j c).regs = s.regs := rfl
@[simp] theorem setTx_mem (s : State) (j : Nat) (c : TxfChain) : (s.setTx j c).mem = s.mem := rfl
@[simp] theorem setTx_ecc (s : State) (j : Nat) (c : TxfChain) : (s.setTx j c).ecc = s.ecc := rfl
@[simp] theorem setTx_draw (s : State) (j : Nat) (c : TxfChain) : (s.setTx j c).draw = s.draw := rfl
@[simp] theorem setTx_cyc (s : State) (j : Nat) (c : TxfChain) : (s.setTx j c).cyc = s.cyc := rfl
@[simp] theorem setTx_clp (s : State) (j : Nat) (c : TxfChain) : (s.setTx j c).clp = s.clp := rfl
@[simp] theorem setTx_pwr (s : State) (j : Nat) (c : TxfChain) : (s.setTx j c).pwr = s.pwr := rfl
@[simp] theorem setTx_run (s : State) (j : Nat) (c : TxfChain) : (s.setTx j c).run = s.run := rfl
@[simp] theorem setTx_hst (s : State) (j : Nat) (c : TxfChain) : (s.setTx j c).hst = s.hst := rfl
@[simp] theorem setTx_obs (s : State) (j : Nat) (c : TxfChain) : (s.setTx j c).obs = s.obs := rfl
@[simp] theorem setTx_plm (s : State) (j : Nat) (c : TxfChain) : (s.setTx j c).plm = s.plm := rfl
@[simp] theorem setTx_cht (s : State) (j : Nat) (c : TxfChain) : (s.setTx j c).cht = s.cht := rfl
@[simp] theorem setTx_mac (s : State) (j : Nat) (c : TxfChain) : (s.setTx j c).mac = s.mac := rfl
@[simp] theorem setTx_spw (s : State) (j : Nat) (c : TxfChain) : (s.setTx j c).spw = s.spw := rfl
@[simp] theorem setTx_eth (s : State) (j : Nat) (c : TxfChain) : (s.setTx j c).eth = s.eth := rfl
@[simp] theorem setTx_fls (s : State) (j : Nat) (c : TxfChain) : (s.setTx j c).fls = s.fls := rfl
@[simp] theorem setTx_skim (s : State) (j : Nat) (c : TxfChain) : (s.setTx j c).skim = s.skim := rfl
@[simp] theorem setTx_slc (s : State) (j : Nat) (c : TxfChain) : (s.setTx j c).slc = s.slc := rfl
@[simp] theorem setTx_twn (s : State) (j : Nat) (c : TxfChain) : (s.setTx j c).twn = s.twn := rfl
@[simp] theorem setTx_grt (s : State) (j : Nat) (c : TxfChain) : (s.setTx j c).grt = s.grt := rfl
@[simp] theorem setTx_bot (s : State) (j : Nat) (c : TxfChain) : (s.setTx j c).bot = s.bot := rfl
@[simp] theorem setTx_ocl (s : State) (j : Nat) (c : TxfChain) : (s.setTx j c).ocl = s.ocl := rfl
@[simp] theorem setTx_reg (s : State) (j : Nat) (c : TxfChain) (id : RegId) (x y : Nat) : (s.setTx j c).reg id x y = s.reg id x y := rfl
@[simp] theorem setTx_fld (s : State) (j : Nat) (c : TxfChain) (h : Fld) (x y : Nat) : (s.setTx j c).fld h x y = s.fld h x y := rfl

@[simp] theorem setShared_pending (s : State) (g : Nat) (c : SharedChain) : (s.setShared g c).pending = s.pending := rfl
@[simp] theorem setShared_regs (s : State) (g : Nat) (c : SharedChain) : (s.setShared g c).regs = s.regs := rfl
@[simp] theorem setShared_mem (s : State) (g : Nat) (c : SharedChain) : (s.setShared g c).mem = s.mem := rfl
@[simp] theorem setShared_ecc (s : State) (g : Nat) (c : SharedChain) : (s.setShared g c).ecc = s.ecc := rfl
@[simp] theorem setShared_draw (s : State) (g : Nat) (c : SharedChain) : (s.setShared g c).draw = s.draw := rfl
@[simp] theorem setShared_cyc (s : State) (g : Nat) (c : SharedChain) : (s.setShared g c).cyc = s.cyc := rfl
@[simp] theorem setShared_clp (s : State) (g : Nat) (c : SharedChain) : (s.setShared g c).clp = s.clp := rfl
@[simp] theorem setShared_pwr (s : State) (g : Nat) (c : SharedChain) : (s.setShared g c).pwr = s.pwr := rfl
@[simp] theorem setShared_run (s : State) (g : Nat) (c : SharedChain) : (s.setShared g c).run = s.run := rfl
@[simp] theorem setShared_hst (s : State) (g : Nat) (c : SharedChain) : (s.setShared g c).hst = s.hst := rfl
@[simp] theorem setShared_obs (s : State) (g : Nat) (c : SharedChain) : (s.setShared g c).obs = s.obs := rfl
@[simp] theorem setShared_plm (s : State) (g : Nat) (c : SharedChain) : (s.setShared g c).plm = s.plm := rfl
@[simp] theorem setShared_cht (s : State) (g : Nat) (c : SharedChain) : (s.setShared g c).cht = s.cht := rfl
@[simp] theorem setShared_mac (s : State) (g : Nat) (c : SharedChain) : (s.setShared g c).mac = s.mac := rfl
@[simp] theorem setShared_spw (s : State) (g : Nat) (c : SharedChain) : (s.setShared g c).spw = s.spw := rfl
@[simp] theorem setShared_eth (s : State) (g : Nat) (c : SharedChain) : (s.setShared g c).eth = s.eth := rfl
@[simp] theorem setShared_fls (s : State) (g : Nat) (c : SharedChain) : (s.setShared g c).fls = s.fls := rfl
@[simp] theorem setShared_skim (s : State) (g : Nat) (c : SharedChain) : (s.setShared g c).skim = s.skim := rfl
@[simp] theorem setShared_slc (s : State) (g : Nat) (c : SharedChain) : (s.setShared g c).slc = s.slc := rfl
@[simp] theorem setShared_twn (s : State) (g : Nat) (c : SharedChain) : (s.setShared g c).twn = s.twn := rfl
@[simp] theorem setShared_grt (s : State) (g : Nat) (c : SharedChain) : (s.setShared g c).grt = s.grt := rfl
@[simp] theorem setShared_bot (s : State) (g : Nat) (c : SharedChain) : (s.setShared g c).bot = s.bot := rfl
@[simp] theorem setShared_ocl (s : State) (g : Nat) (c : SharedChain) : (s.setShared g c).ocl = s.ocl := rfl
@[simp] theorem setShared_reg (s : State) (g : Nat) (c : SharedChain) (id : RegId) (x y : Nat) : (s.setShared g c).reg id x y = s.reg id x y := rfl
@[simp] theorem setShared_fld (s : State) (g : Nat) (c : SharedChain) (h : Fld) (x y : Nat) : (s.setShared g c).fld h x y = s.fld h x y := rfl

@[simp] theorem setRx_pending (s : State) (i : Nat) (f : RxFrame) : (s.setRx i f).pending = s.pending := rfl
@[simp] theorem setRx_regs (s : State) (i : Nat) (f : RxFrame) : (s.setRx i f).regs = s.regs := rfl
@[simp] theorem setRx_mem (s : State) (i : Nat) (f : RxFrame) : (s.setRx i f).mem = s.mem := rfl
@[simp] theorem setRx_ecc (s : State) (i : Nat) (f : RxFrame) : (s.setRx i f).ecc = s.ecc := rfl
@[simp] theorem setRx_draw (s : State) (i : Nat) (f : RxFrame) : (s.setRx i f).draw = s.draw := rfl
@[simp] theorem setRx_cyc (s : State) (i : Nat) (f : RxFrame) : (s.setRx i f).cyc = s.cyc := rfl
@[simp] theorem setRx_clp (s : State) (i : Nat) (f : RxFrame) : (s.setRx i f).clp = s.clp := rfl
@[simp] theorem setRx_pwr (s : State) (i : Nat) (f : RxFrame) : (s.setRx i f).pwr = s.pwr := rfl
@[simp] theorem setRx_run (s : State) (i : Nat) (f : RxFrame) : (s.setRx i f).run = s.run := rfl
@[simp] theorem setRx_hst (s : State) (i : Nat) (f : RxFrame) : (s.setRx i f).hst = s.hst := rfl
@[simp] theorem setRx_obs (s : State) (i : Nat) (f : RxFrame) : (s.setRx i f).obs = s.obs := rfl
@[simp] theorem setRx_plm (s : State) (i : Nat) (f : RxFrame) : (s.setRx i f).plm = s.plm := rfl
@[simp] theorem setRx_txf (s : State) (i : Nat) (f : RxFrame) : (s.setRx i f).txf = s.txf := rfl
@[simp] theorem setRx_cht (s : State) (i : Nat) (f : RxFrame) : (s.setRx i f).cht = s.cht := rfl
@[simp] theorem setRx_mac (s : State) (i : Nat) (f : RxFrame) : (s.setRx i f).mac = s.mac := rfl
@[simp] theorem setRx_spw (s : State) (i : Nat) (f : RxFrame) : (s.setRx i f).spw = s.spw := rfl
@[simp] theorem setRx_eth (s : State) (i : Nat) (f : RxFrame) : (s.setRx i f).eth = s.eth := rfl
@[simp] theorem setRx_fls (s : State) (i : Nat) (f : RxFrame) : (s.setRx i f).fls = s.fls := rfl
@[simp] theorem setRx_skim (s : State) (i : Nat) (f : RxFrame) : (s.setRx i f).skim = s.skim := rfl
@[simp] theorem setRx_twn (s : State) (i : Nat) (f : RxFrame) : (s.setRx i f).twn = s.twn := rfl
@[simp] theorem setRx_grt (s : State) (i : Nat) (f : RxFrame) : (s.setRx i f).grt = s.grt := rfl
@[simp] theorem setRx_bot (s : State) (i : Nat) (f : RxFrame) : (s.setRx i f).bot = s.bot := rfl
@[simp] theorem setRx_ocl (s : State) (i : Nat) (f : RxFrame) : (s.setRx i f).ocl = s.ocl := rfl
@[simp] theorem setRx_reg (s : State) (i : Nat) (f : RxFrame) (id : RegId) (x y : Nat) : (s.setRx i f).reg id x y = s.reg id x y := rfl
@[simp] theorem setRx_fld (s : State) (i : Nat) (f : RxFrame) (h : Fld) (x y : Nat) : (s.setRx i f).fld h x y = s.fld h x y := rfl

@[simp] theorem setSpw_pending (s : State) (k : Nat) (v : SpwSession) : (s.setSpw k v).pending = s.pending := rfl
@[simp] theorem setSpw_regs (s : State) (k : Nat) (v : SpwSession) : (s.setSpw k v).regs = s.regs := rfl
@[simp] theorem setSpw_mem (s : State) (k : Nat) (v : SpwSession) : (s.setSpw k v).mem = s.mem := rfl
@[simp] theorem setSpw_ecc (s : State) (k : Nat) (v : SpwSession) : (s.setSpw k v).ecc = s.ecc := rfl
@[simp] theorem setSpw_draw (s : State) (k : Nat) (v : SpwSession) : (s.setSpw k v).draw = s.draw := rfl
@[simp] theorem setSpw_cyc (s : State) (k : Nat) (v : SpwSession) : (s.setSpw k v).cyc = s.cyc := rfl
@[simp] theorem setSpw_clp (s : State) (k : Nat) (v : SpwSession) : (s.setSpw k v).clp = s.clp := rfl
@[simp] theorem setSpw_pwr (s : State) (k : Nat) (v : SpwSession) : (s.setSpw k v).pwr = s.pwr := rfl
@[simp] theorem setSpw_run (s : State) (k : Nat) (v : SpwSession) : (s.setSpw k v).run = s.run := rfl
@[simp] theorem setSpw_hst (s : State) (k : Nat) (v : SpwSession) : (s.setSpw k v).hst = s.hst := rfl
@[simp] theorem setSpw_obs (s : State) (k : Nat) (v : SpwSession) : (s.setSpw k v).obs = s.obs := rfl
@[simp] theorem setSpw_plm (s : State) (k : Nat) (v : SpwSession) : (s.setSpw k v).plm = s.plm := rfl
@[simp] theorem setSpw_txf (s : State) (k : Nat) (v : SpwSession) : (s.setSpw k v).txf = s.txf := rfl
@[simp] theorem setSpw_cht (s : State) (k : Nat) (v : SpwSession) : (s.setSpw k v).cht = s.cht := rfl
@[simp] theorem setSpw_mac (s : State) (k : Nat) (v : SpwSession) : (s.setSpw k v).mac = s.mac := rfl
@[simp] theorem setSpw_eth (s : State) (k : Nat) (v : SpwSession) : (s.setSpw k v).eth = s.eth := rfl
@[simp] theorem setSpw_fls (s : State) (k : Nat) (v : SpwSession) : (s.setSpw k v).fls = s.fls := rfl
@[simp] theorem setSpw_skim (s : State) (k : Nat) (v : SpwSession) : (s.setSpw k v).skim = s.skim := rfl
@[simp] theorem setSpw_slc (s : State) (k : Nat) (v : SpwSession) : (s.setSpw k v).slc = s.slc := rfl
@[simp] theorem setSpw_twn (s : State) (k : Nat) (v : SpwSession) : (s.setSpw k v).twn = s.twn := rfl
@[simp] theorem setSpw_grt (s : State) (k : Nat) (v : SpwSession) : (s.setSpw k v).grt = s.grt := rfl
@[simp] theorem setSpw_bot (s : State) (k : Nat) (v : SpwSession) : (s.setSpw k v).bot = s.bot := rfl
@[simp] theorem setSpw_ocl (s : State) (k : Nat) (v : SpwSession) : (s.setSpw k v).ocl = s.ocl := rfl
@[simp] theorem setSpw_reg (s : State) (k : Nat) (v : SpwSession) (id : RegId) (x y : Nat) : (s.setSpw k v).reg id x y = s.reg id x y := rfl
@[simp] theorem setSpw_fld (s : State) (k : Nat) (v : SpwSession) (h : Fld) (x y : Nat) : (s.setSpw k v).fld h x y = s.fld h x y := rfl

@[simp] theorem place_pending (s : State) (p : Placed) : (s.place p).pending = s.pending := rfl
@[simp] theorem place_regs (s : State) (p : Placed) : (s.place p).regs = s.regs := rfl
@[simp] theorem place_mem (s : State) (p : Placed) : (s.place p).mem = s.mem := rfl
@[simp] theorem place_ecc (s : State) (p : Placed) : (s.place p).ecc = s.ecc := rfl
@[simp] theorem place_draw (s : State) (p : Placed) : (s.place p).draw = s.draw := rfl
@[simp] theorem place_cyc (s : State) (p : Placed) : (s.place p).cyc = s.cyc := rfl
@[simp] theorem place_clp (s : State) (p : Placed) : (s.place p).clp = s.clp := rfl
@[simp] theorem place_pwr (s : State) (p : Placed) : (s.place p).pwr = s.pwr := rfl
@[simp] theorem place_run (s : State) (p : Placed) : (s.place p).run = s.run := rfl
@[simp] theorem place_hst (s : State) (p : Placed) : (s.place p).hst = s.hst := rfl
@[simp] theorem place_obs (s : State) (p : Placed) : (s.place p).obs = s.obs := rfl
@[simp] theorem place_plm (s : State) (p : Placed) : (s.place p).plm = s.plm := rfl
@[simp] theorem place_txf (s : State) (p : Placed) : (s.place p).txf = s.txf := rfl
@[simp] theorem place_mac (s : State) (p : Placed) : (s.place p).mac = s.mac := rfl
@[simp] theorem place_spw (s : State) (p : Placed) : (s.place p).spw = s.spw := rfl
@[simp] theorem place_eth (s : State) (p : Placed) : (s.place p).eth = s.eth := rfl
@[simp] theorem place_fls (s : State) (p : Placed) : (s.place p).fls = s.fls := rfl
@[simp] theorem place_skim (s : State) (p : Placed) : (s.place p).skim = s.skim := rfl
@[simp] theorem place_slc (s : State) (p : Placed) : (s.place p).slc = s.slc := rfl
@[simp] theorem place_twn (s : State) (p : Placed) : (s.place p).twn = s.twn := rfl
@[simp] theorem place_grt (s : State) (p : Placed) : (s.place p).grt = s.grt := rfl
@[simp] theorem place_bot (s : State) (p : Placed) : (s.place p).bot = s.bot := rfl
@[simp] theorem place_ocl (s : State) (p : Placed) : (s.place p).ocl = s.ocl := rfl
@[simp] theorem place_reg (s : State) (p : Placed) (id : RegId) (x y : Nat) : (s.place p).reg id x y = s.reg id x y := rfl
@[simp] theorem place_fld (s : State) (p : Placed) (h : Fld) (x y : Nat) : (s.place p).fld h x y = s.fld h x y := rfl

@[simp] theorem setThr_pending (s : State) (t : Nat) (th : OclThread) : (s.setThr t th).pending = s.pending := rfl
@[simp] theorem setThr_regs (s : State) (t : Nat) (th : OclThread) : (s.setThr t th).regs = s.regs := rfl
@[simp] theorem setThr_mem (s : State) (t : Nat) (th : OclThread) : (s.setThr t th).mem = s.mem := rfl
@[simp] theorem setThr_ecc (s : State) (t : Nat) (th : OclThread) : (s.setThr t th).ecc = s.ecc := rfl
@[simp] theorem setThr_draw (s : State) (t : Nat) (th : OclThread) : (s.setThr t th).draw = s.draw := rfl
@[simp] theorem setThr_cyc (s : State) (t : Nat) (th : OclThread) : (s.setThr t th).cyc = s.cyc := rfl
@[simp] theorem setThr_clp (s : State) (t : Nat) (th : OclThread) : (s.setThr t th).clp = s.clp := rfl
@[simp] theorem setThr_pwr (s : State) (t : Nat) (th : OclThread) : (s.setThr t th).pwr = s.pwr := rfl
@[simp] theorem setThr_run (s : State) (t : Nat) (th : OclThread) : (s.setThr t th).run = s.run := rfl
@[simp] theorem setThr_hst (s : State) (t : Nat) (th : OclThread) : (s.setThr t th).hst = s.hst := rfl
@[simp] theorem setThr_obs (s : State) (t : Nat) (th : OclThread) : (s.setThr t th).obs = s.obs := rfl
@[simp] theorem setThr_plm (s : State) (t : Nat) (th : OclThread) : (s.setThr t th).plm = s.plm := rfl
@[simp] theorem setThr_txf (s : State) (t : Nat) (th : OclThread) : (s.setThr t th).txf = s.txf := rfl
@[simp] theorem setThr_cht (s : State) (t : Nat) (th : OclThread) : (s.setThr t th).cht = s.cht := rfl
@[simp] theorem setThr_mac (s : State) (t : Nat) (th : OclThread) : (s.setThr t th).mac = s.mac := rfl
@[simp] theorem setThr_spw (s : State) (t : Nat) (th : OclThread) : (s.setThr t th).spw = s.spw := rfl
@[simp] theorem setThr_eth (s : State) (t : Nat) (th : OclThread) : (s.setThr t th).eth = s.eth := rfl
@[simp] theorem setThr_fls (s : State) (t : Nat) (th : OclThread) : (s.setThr t th).fls = s.fls := rfl
@[simp] theorem setThr_skim (s : State) (t : Nat) (th : OclThread) : (s.setThr t th).skim = s.skim := rfl
@[simp] theorem setThr_slc (s : State) (t : Nat) (th : OclThread) : (s.setThr t th).slc = s.slc := rfl
@[simp] theorem setThr_twn (s : State) (t : Nat) (th : OclThread) : (s.setThr t th).twn = s.twn := rfl
@[simp] theorem setThr_grt (s : State) (t : Nat) (th : OclThread) : (s.setThr t th).grt = s.grt := rfl
@[simp] theorem setThr_bot (s : State) (t : Nat) (th : OclThread) : (s.setThr t th).bot = s.bot := rfl
@[simp] theorem setThr_reg (s : State) (t : Nat) (th : OclThread) (id : RegId) (x y : Nat) : (s.setThr t th).reg id x y = s.reg id x y := rfl
@[simp] theorem setThr_fld (s : State) (t : Nat) (th : OclThread) (h : Fld) (x y : Nat) : (s.setThr t th).fld h x y = s.fld h x y := rfl

@[simp] theorem setRing_pending (s : State) (n : Nat) (r : HostRing) : (s.setRing n r).pending = s.pending := rfl
@[simp] theorem setRing_regs (s : State) (n : Nat) (r : HostRing) : (s.setRing n r).regs = s.regs := rfl
@[simp] theorem setRing_mem (s : State) (n : Nat) (r : HostRing) : (s.setRing n r).mem = s.mem := rfl
@[simp] theorem setRing_ecc (s : State) (n : Nat) (r : HostRing) : (s.setRing n r).ecc = s.ecc := rfl
@[simp] theorem setRing_draw (s : State) (n : Nat) (r : HostRing) : (s.setRing n r).draw = s.draw := rfl
@[simp] theorem setRing_cyc (s : State) (n : Nat) (r : HostRing) : (s.setRing n r).cyc = s.cyc := rfl
@[simp] theorem setRing_clp (s : State) (n : Nat) (r : HostRing) : (s.setRing n r).clp = s.clp := rfl
@[simp] theorem setRing_pwr (s : State) (n : Nat) (r : HostRing) : (s.setRing n r).pwr = s.pwr := rfl
@[simp] theorem setRing_run (s : State) (n : Nat) (r : HostRing) : (s.setRing n r).run = s.run := rfl
@[simp] theorem setRing_obs (s : State) (n : Nat) (r : HostRing) : (s.setRing n r).obs = s.obs := rfl
@[simp] theorem setRing_plm (s : State) (n : Nat) (r : HostRing) : (s.setRing n r).plm = s.plm := rfl
@[simp] theorem setRing_txf (s : State) (n : Nat) (r : HostRing) : (s.setRing n r).txf = s.txf := rfl
@[simp] theorem setRing_cht (s : State) (n : Nat) (r : HostRing) : (s.setRing n r).cht = s.cht := rfl
@[simp] theorem setRing_mac (s : State) (n : Nat) (r : HostRing) : (s.setRing n r).mac = s.mac := rfl
@[simp] theorem setRing_spw (s : State) (n : Nat) (r : HostRing) : (s.setRing n r).spw = s.spw := rfl
@[simp] theorem setRing_eth (s : State) (n : Nat) (r : HostRing) : (s.setRing n r).eth = s.eth := rfl
@[simp] theorem setRing_fls (s : State) (n : Nat) (r : HostRing) : (s.setRing n r).fls = s.fls := rfl
@[simp] theorem setRing_skim (s : State) (n : Nat) (r : HostRing) : (s.setRing n r).skim = s.skim := rfl
@[simp] theorem setRing_slc (s : State) (n : Nat) (r : HostRing) : (s.setRing n r).slc = s.slc := rfl
@[simp] theorem setRing_twn (s : State) (n : Nat) (r : HostRing) : (s.setRing n r).twn = s.twn := rfl
@[simp] theorem setRing_grt (s : State) (n : Nat) (r : HostRing) : (s.setRing n r).grt = s.grt := rfl
@[simp] theorem setRing_bot (s : State) (n : Nat) (r : HostRing) : (s.setRing n r).bot = s.bot := rfl
@[simp] theorem setRing_ocl (s : State) (n : Nat) (r : HostRing) : (s.setRing n r).ocl = s.ocl := rfl
@[simp] theorem setRing_reg (s : State) (n : Nat) (r : HostRing) (id : RegId) (x y : Nat) : (s.setRing n r).reg id x y = s.reg id x y := rfl
@[simp] theorem setRing_fld (s : State) (n : Nat) (r : HostRing) (h : Fld) (x y : Nat) : (s.setRing n r).fld h x y = s.fld h x y := rfl

@[simp] theorem setEthPort_pending (s : State) (p : Nat) (v : EthPort) : (s.setEthPort p v).pending = s.pending := rfl
@[simp] theorem setEthPort_regs (s : State) (p : Nat) (v : EthPort) : (s.setEthPort p v).regs = s.regs := rfl
@[simp] theorem setEthPort_mem (s : State) (p : Nat) (v : EthPort) : (s.setEthPort p v).mem = s.mem := rfl
@[simp] theorem setEthPort_ecc (s : State) (p : Nat) (v : EthPort) : (s.setEthPort p v).ecc = s.ecc := rfl
@[simp] theorem setEthPort_draw (s : State) (p : Nat) (v : EthPort) : (s.setEthPort p v).draw = s.draw := rfl
@[simp] theorem setEthPort_cyc (s : State) (p : Nat) (v : EthPort) : (s.setEthPort p v).cyc = s.cyc := rfl
@[simp] theorem setEthPort_clp (s : State) (p : Nat) (v : EthPort) : (s.setEthPort p v).clp = s.clp := rfl
@[simp] theorem setEthPort_pwr (s : State) (p : Nat) (v : EthPort) : (s.setEthPort p v).pwr = s.pwr := rfl
@[simp] theorem setEthPort_run (s : State) (p : Nat) (v : EthPort) : (s.setEthPort p v).run = s.run := rfl
@[simp] theorem setEthPort_hst (s : State) (p : Nat) (v : EthPort) : (s.setEthPort p v).hst = s.hst := rfl
@[simp] theorem setEthPort_obs (s : State) (p : Nat) (v : EthPort) : (s.setEthPort p v).obs = s.obs := rfl
@[simp] theorem setEthPort_plm (s : State) (p : Nat) (v : EthPort) : (s.setEthPort p v).plm = s.plm := rfl
@[simp] theorem setEthPort_txf (s : State) (p : Nat) (v : EthPort) : (s.setEthPort p v).txf = s.txf := rfl
@[simp] theorem setEthPort_cht (s : State) (p : Nat) (v : EthPort) : (s.setEthPort p v).cht = s.cht := rfl
@[simp] theorem setEthPort_mac (s : State) (p : Nat) (v : EthPort) : (s.setEthPort p v).mac = s.mac := rfl
@[simp] theorem setEthPort_spw (s : State) (p : Nat) (v : EthPort) : (s.setEthPort p v).spw = s.spw := rfl
@[simp] theorem setEthPort_fls (s : State) (p : Nat) (v : EthPort) : (s.setEthPort p v).fls = s.fls := rfl
@[simp] theorem setEthPort_skim (s : State) (p : Nat) (v : EthPort) : (s.setEthPort p v).skim = s.skim := rfl
@[simp] theorem setEthPort_slc (s : State) (p : Nat) (v : EthPort) : (s.setEthPort p v).slc = s.slc := rfl
@[simp] theorem setEthPort_twn (s : State) (p : Nat) (v : EthPort) : (s.setEthPort p v).twn = s.twn := rfl
@[simp] theorem setEthPort_grt (s : State) (p : Nat) (v : EthPort) : (s.setEthPort p v).grt = s.grt := rfl
@[simp] theorem setEthPort_bot (s : State) (p : Nat) (v : EthPort) : (s.setEthPort p v).bot = s.bot := rfl
@[simp] theorem setEthPort_ocl (s : State) (p : Nat) (v : EthPort) : (s.setEthPort p v).ocl = s.ocl := rfl
@[simp] theorem setEthPort_reg (s : State) (p : Nat) (v : EthPort) (id : RegId) (x y : Nat) : (s.setEthPort p v).reg id x y = s.reg id x y := rfl
@[simp] theorem setEthPort_fld (s : State) (p : Nat) (v : EthPort) (h : Fld) (x y : Nat) : (s.setEthPort p v).fld h x y = s.fld h x y := rfl

@[simp] theorem setPoint_pending (s : State) (k : Nat) (p : EddyPoint) : (s.setPoint k p).pending = s.pending := rfl
@[simp] theorem setPoint_regs (s : State) (k : Nat) (p : EddyPoint) : (s.setPoint k p).regs = s.regs := rfl
@[simp] theorem setPoint_mem (s : State) (k : Nat) (p : EddyPoint) : (s.setPoint k p).mem = s.mem := rfl
@[simp] theorem setPoint_ecc (s : State) (k : Nat) (p : EddyPoint) : (s.setPoint k p).ecc = s.ecc := rfl
@[simp] theorem setPoint_draw (s : State) (k : Nat) (p : EddyPoint) : (s.setPoint k p).draw = s.draw := rfl
@[simp] theorem setPoint_cyc (s : State) (k : Nat) (p : EddyPoint) : (s.setPoint k p).cyc = s.cyc := rfl
@[simp] theorem setPoint_clp (s : State) (k : Nat) (p : EddyPoint) : (s.setPoint k p).clp = s.clp := rfl
@[simp] theorem setPoint_pwr (s : State) (k : Nat) (p : EddyPoint) : (s.setPoint k p).pwr = s.pwr := rfl
@[simp] theorem setPoint_run (s : State) (k : Nat) (p : EddyPoint) : (s.setPoint k p).run = s.run := rfl
@[simp] theorem setPoint_hst (s : State) (k : Nat) (p : EddyPoint) : (s.setPoint k p).hst = s.hst := rfl
@[simp] theorem setPoint_plm (s : State) (k : Nat) (p : EddyPoint) : (s.setPoint k p).plm = s.plm := rfl
@[simp] theorem setPoint_txf (s : State) (k : Nat) (p : EddyPoint) : (s.setPoint k p).txf = s.txf := rfl
@[simp] theorem setPoint_cht (s : State) (k : Nat) (p : EddyPoint) : (s.setPoint k p).cht = s.cht := rfl
@[simp] theorem setPoint_mac (s : State) (k : Nat) (p : EddyPoint) : (s.setPoint k p).mac = s.mac := rfl
@[simp] theorem setPoint_spw (s : State) (k : Nat) (p : EddyPoint) : (s.setPoint k p).spw = s.spw := rfl
@[simp] theorem setPoint_eth (s : State) (k : Nat) (p : EddyPoint) : (s.setPoint k p).eth = s.eth := rfl
@[simp] theorem setPoint_fls (s : State) (k : Nat) (p : EddyPoint) : (s.setPoint k p).fls = s.fls := rfl
@[simp] theorem setPoint_skim (s : State) (k : Nat) (p : EddyPoint) : (s.setPoint k p).skim = s.skim := rfl
@[simp] theorem setPoint_slc (s : State) (k : Nat) (p : EddyPoint) : (s.setPoint k p).slc = s.slc := rfl
@[simp] theorem setPoint_twn (s : State) (k : Nat) (p : EddyPoint) : (s.setPoint k p).twn = s.twn := rfl
@[simp] theorem setPoint_grt (s : State) (k : Nat) (p : EddyPoint) : (s.setPoint k p).grt = s.grt := rfl
@[simp] theorem setPoint_bot (s : State) (k : Nat) (p : EddyPoint) : (s.setPoint k p).bot = s.bot := rfl
@[simp] theorem setPoint_ocl (s : State) (k : Nat) (p : EddyPoint) : (s.setPoint k p).ocl = s.ocl := rfl
@[simp] theorem setPoint_reg (s : State) (k : Nat) (p : EddyPoint) (id : RegId) (x y : Nat) : (s.setPoint k p).reg id x y = s.reg id x y := rfl
@[simp] theorem setPoint_fld (s : State) (k : Nat) (p : EddyPoint) (h : Fld) (x y : Nat) : (s.setPoint k p).fld h x y = s.fld h x y := rfl

@[simp] theorem withQueue_regs (s : State) (q : List Instr) : (s.withQueue q).regs = s.regs := rfl
@[simp] theorem withQueue_mem (s : State) (q : List Instr) : (s.withQueue q).mem = s.mem := rfl
@[simp] theorem withQueue_ecc (s : State) (q : List Instr) : (s.withQueue q).ecc = s.ecc := rfl
@[simp] theorem withQueue_draw (s : State) (q : List Instr) : (s.withQueue q).draw = s.draw := rfl
@[simp] theorem withQueue_cyc (s : State) (q : List Instr) : (s.withQueue q).cyc = s.cyc := rfl
@[simp] theorem withQueue_clp (s : State) (q : List Instr) : (s.withQueue q).clp = s.clp := rfl
@[simp] theorem withQueue_pwr (s : State) (q : List Instr) : (s.withQueue q).pwr = s.pwr := rfl
@[simp] theorem withQueue_run (s : State) (q : List Instr) : (s.withQueue q).run = s.run := rfl
@[simp] theorem withQueue_hst (s : State) (q : List Instr) : (s.withQueue q).hst = s.hst := rfl
@[simp] theorem withQueue_obs (s : State) (q : List Instr) : (s.withQueue q).obs = s.obs := rfl
@[simp] theorem withQueue_plm (s : State) (q : List Instr) : (s.withQueue q).plm = s.plm := rfl
@[simp] theorem withQueue_txf (s : State) (q : List Instr) : (s.withQueue q).txf = s.txf := rfl
@[simp] theorem withQueue_cht (s : State) (q : List Instr) : (s.withQueue q).cht = s.cht := rfl
@[simp] theorem withQueue_mac (s : State) (q : List Instr) : (s.withQueue q).mac = s.mac := rfl
@[simp] theorem withQueue_spw (s : State) (q : List Instr) : (s.withQueue q).spw = s.spw := rfl
@[simp] theorem withQueue_eth (s : State) (q : List Instr) : (s.withQueue q).eth = s.eth := rfl
@[simp] theorem withQueue_fls (s : State) (q : List Instr) : (s.withQueue q).fls = s.fls := rfl
@[simp] theorem withQueue_skim (s : State) (q : List Instr) : (s.withQueue q).skim = s.skim := rfl
@[simp] theorem withQueue_slc (s : State) (q : List Instr) : (s.withQueue q).slc = s.slc := rfl
@[simp] theorem withQueue_twn (s : State) (q : List Instr) : (s.withQueue q).twn = s.twn := rfl
@[simp] theorem withQueue_grt (s : State) (q : List Instr) : (s.withQueue q).grt = s.grt := rfl
@[simp] theorem withQueue_bot (s : State) (q : List Instr) : (s.withQueue q).bot = s.bot := rfl
@[simp] theorem withQueue_ocl (s : State) (q : List Instr) : (s.withQueue q).ocl = s.ocl := rfl
@[simp] theorem withQueue_reg (s : State) (q : List Instr) (id : RegId) (x y : Nat) : (s.withQueue q).reg id x y = s.reg id x y := rfl
@[simp] theorem withQueue_fld (s : State) (q : List Instr) (h : Fld) (x y : Nat) : (s.withQueue q).fld h x y = s.fld h x y := rfl

/-! ## Time, messages and events -/

@[simp] theorem advance_pending (s : State) (d : Nat) : (s.advance d).pending = s.pending := by
  simp only [State.advance, State.cisternTicks]
  split <;> rfl
@[simp] theorem advance_regs (s : State) (d : Nat) : (s.advance d).regs = s.regs := by
  simp only [State.advance, State.cisternTicks]
  split <;> rfl
@[simp] theorem advance_mem (s : State) (d : Nat) : (s.advance d).mem = s.mem := by
  simp only [State.advance, State.cisternTicks]
  split <;> rfl
@[simp] theorem advance_ecc (s : State) (d : Nat) : (s.advance d).ecc = s.ecc := by
  simp only [State.advance, State.cisternTicks]
  split <;> rfl
@[simp] theorem advance_draw (s : State) (d : Nat) : (s.advance d).draw = s.draw := by
  simp only [State.advance, State.cisternTicks]
  split <;> rfl
@[simp] theorem advance_cyc (s : State) (d : Nat) : (s.advance d).cyc = s.cyc := by
  simp only [State.advance, State.cisternTicks]
  split <;> rfl
@[simp] theorem advance_pwr (s : State) (d : Nat) : (s.advance d).pwr = s.pwr := by
  simp only [State.advance, State.cisternTicks]
  split <;> rfl
@[simp] theorem advance_run (s : State) (d : Nat) : (s.advance d).run = s.run := by
  simp only [State.advance, State.cisternTicks]
  split <;> rfl
@[simp] theorem advance_hst (s : State) (d : Nat) : (s.advance d).hst = s.hst := by
  simp only [State.advance, State.cisternTicks]
  split <;> rfl
@[simp] theorem advance_obs (s : State) (d : Nat) : (s.advance d).obs = s.obs := by
  simp only [State.advance, State.cisternTicks]
  split <;> rfl
@[simp] theorem advance_plm (s : State) (d : Nat) : (s.advance d).plm = s.plm := by
  simp only [State.advance, State.cisternTicks]
  split <;> rfl
@[simp] theorem advance_txf (s : State) (d : Nat) : (s.advance d).txf = s.txf := by
  simp only [State.advance, State.cisternTicks]
  split <;> rfl
@[simp] theorem advance_cht (s : State) (d : Nat) : (s.advance d).cht = s.cht := by
  simp only [State.advance, State.cisternTicks]
  split <;> rfl
@[simp] theorem advance_mac (s : State) (d : Nat) : (s.advance d).mac = s.mac := by
  simp only [State.advance, State.cisternTicks]
  split <;> rfl
@[simp] theorem advance_spw (s : State) (d : Nat) : (s.advance d).spw = s.spw := by
  simp only [State.advance, State.cisternTicks]
  split <;> rfl
@[simp] theorem advance_eth (s : State) (d : Nat) : (s.advance d).eth = s.eth := by
  simp only [State.advance, State.cisternTicks]
  split <;> rfl
@[simp] theorem advance_fls (s : State) (d : Nat) : (s.advance d).fls = s.fls := by
  simp only [State.advance, State.cisternTicks]
  split <;> rfl
@[simp] theorem advance_skim (s : State) (d : Nat) : (s.advance d).skim = s.skim := by
  simp only [State.advance, State.cisternTicks]
  split <;> rfl
@[simp] theorem advance_slc (s : State) (d : Nat) : (s.advance d).slc = s.slc := by
  simp only [State.advance, State.cisternTicks]
  split <;> rfl
@[simp] theorem advance_twn (s : State) (d : Nat) : (s.advance d).twn = s.twn := by
  simp only [State.advance, State.cisternTicks]
  split <;> rfl
@[simp] theorem advance_grt (s : State) (d : Nat) : (s.advance d).grt = s.grt := by
  simp only [State.advance, State.cisternTicks]
  split <;> rfl
@[simp] theorem advance_bot (s : State) (d : Nat) : (s.advance d).bot = s.bot := by
  simp only [State.advance, State.cisternTicks]
  split <;> rfl
@[simp] theorem advance_ocl (s : State) (d : Nat) : (s.advance d).ocl = s.ocl := by
  simp only [State.advance, State.cisternTicks]
  split <;> rfl
@[simp] theorem advance_reg (s : State) (d : Nat) (id : RegId) (x y : Nat) : (s.advance d).reg id x y = s.reg id x y :=
  reg_congr (advance_regs s d) id x y
@[simp] theorem advance_fld (s : State) (d : Nat) (h : Fld) (x y : Nat) : (s.advance d).fld h x y = s.fld h x y :=
  fld_congr (advance_regs s d) h x y
/-- Time passes. -/
@[simp] theorem advance_now (s : State) (d : Nat) : (s.advance d).clp.now = s.clp.now + d := by
  simp only [State.advance, State.cisternTicks]
  split <;> rfl

@[simp] theorem sendVector_pending (s : State) (v : Nat) : (s.sendVector v).pending = s.pending := by
  simp only [State.sendVector]
  repeat' split
  all_goals rfl
@[simp] theorem sendVector_mem (s : State) (v : Nat) : (s.sendVector v).mem = s.mem := by
  simp only [State.sendVector]
  repeat' split
  all_goals rfl
@[simp] theorem sendVector_ecc (s : State) (v : Nat) : (s.sendVector v).ecc = s.ecc := by
  simp only [State.sendVector]
  repeat' split
  all_goals rfl
@[simp] theorem sendVector_draw (s : State) (v : Nat) : (s.sendVector v).draw = s.draw := by
  simp only [State.sendVector]
  repeat' split
  all_goals rfl
@[simp] theorem sendVector_cyc (s : State) (v : Nat) : (s.sendVector v).cyc = s.cyc := by
  simp only [State.sendVector]
  repeat' split
  all_goals rfl
@[simp] theorem sendVector_clp (s : State) (v : Nat) : (s.sendVector v).clp = s.clp := by
  simp only [State.sendVector]
  repeat' split
  all_goals rfl
@[simp] theorem sendVector_pwr (s : State) (v : Nat) : (s.sendVector v).pwr = s.pwr := by
  simp only [State.sendVector]
  repeat' split
  all_goals rfl
@[simp] theorem sendVector_run (s : State) (v : Nat) : (s.sendVector v).run = s.run := by
  simp only [State.sendVector]
  repeat' split
  all_goals rfl
@[simp] theorem sendVector_obs (s : State) (v : Nat) : (s.sendVector v).obs = s.obs := by
  simp only [State.sendVector]
  repeat' split
  all_goals rfl
@[simp] theorem sendVector_plm (s : State) (v : Nat) : (s.sendVector v).plm = s.plm := by
  simp only [State.sendVector]
  repeat' split
  all_goals rfl
@[simp] theorem sendVector_txf (s : State) (v : Nat) : (s.sendVector v).txf = s.txf := by
  simp only [State.sendVector]
  repeat' split
  all_goals rfl
@[simp] theorem sendVector_cht (s : State) (v : Nat) : (s.sendVector v).cht = s.cht := by
  simp only [State.sendVector]
  repeat' split
  all_goals rfl
@[simp] theorem sendVector_mac (s : State) (v : Nat) : (s.sendVector v).mac = s.mac := by
  simp only [State.sendVector]
  repeat' split
  all_goals rfl
@[simp] theorem sendVector_spw (s : State) (v : Nat) : (s.sendVector v).spw = s.spw := by
  simp only [State.sendVector]
  repeat' split
  all_goals rfl
@[simp] theorem sendVector_eth (s : State) (v : Nat) : (s.sendVector v).eth = s.eth := by
  simp only [State.sendVector]
  repeat' split
  all_goals rfl
@[simp] theorem sendVector_fls (s : State) (v : Nat) : (s.sendVector v).fls = s.fls := by
  simp only [State.sendVector]
  repeat' split
  all_goals rfl
@[simp] theorem sendVector_skim (s : State) (v : Nat) : (s.sendVector v).skim = s.skim := by
  simp only [State.sendVector]
  repeat' split
  all_goals rfl
@[simp] theorem sendVector_slc (s : State) (v : Nat) : (s.sendVector v).slc = s.slc := by
  simp only [State.sendVector]
  repeat' split
  all_goals rfl
@[simp] theorem sendVector_twn (s : State) (v : Nat) : (s.sendVector v).twn = s.twn := by
  simp only [State.sendVector]
  repeat' split
  all_goals rfl
@[simp] theorem sendVector_grt (s : State) (v : Nat) : (s.sendVector v).grt = s.grt := by
  simp only [State.sendVector]
  repeat' split
  all_goals rfl
@[simp] theorem sendVector_bot (s : State) (v : Nat) : (s.sendVector v).bot = s.bot := by
  simp only [State.sendVector]
  repeat' split
  all_goals rfl
@[simp] theorem sendVector_ocl (s : State) (v : Nat) : (s.sendVector v).ocl = s.ocl := by
  simp only [State.sendVector]
  repeat' split
  all_goals rfl
@[simp] theorem noteEvent_pending (s : State) (f : Fld) (i : Nat) : (s.noteEvent f i).pending = s.pending := by
  obtain ⟨c, h⟩ := noteEvent_eq s f i
  rw [h]
@[simp] theorem noteEvent_mem (s : State) (f : Fld) (i : Nat) : (s.noteEvent f i).mem = s.mem := by
  obtain ⟨c, h⟩ := noteEvent_eq s f i
  rw [h]
@[simp] theorem noteEvent_ecc (s : State) (f : Fld) (i : Nat) : (s.noteEvent f i).ecc = s.ecc := by
  obtain ⟨c, h⟩ := noteEvent_eq s f i
  rw [h]
@[simp] theorem noteEvent_draw (s : State) (f : Fld) (i : Nat) : (s.noteEvent f i).draw = s.draw := by
  obtain ⟨c, h⟩ := noteEvent_eq s f i
  rw [h]
@[simp] theorem noteEvent_clp (s : State) (f : Fld) (i : Nat) : (s.noteEvent f i).clp = s.clp := by
  obtain ⟨c, h⟩ := noteEvent_eq s f i
  rw [h]
@[simp] theorem noteEvent_pwr (s : State) (f : Fld) (i : Nat) : (s.noteEvent f i).pwr = s.pwr := by
  obtain ⟨c, h⟩ := noteEvent_eq s f i
  rw [h]
@[simp] theorem noteEvent_run (s : State) (f : Fld) (i : Nat) : (s.noteEvent f i).run = s.run := by
  obtain ⟨c, h⟩ := noteEvent_eq s f i
  rw [h]
@[simp] theorem noteEvent_hst (s : State) (f : Fld) (i : Nat) : (s.noteEvent f i).hst = s.hst := by
  obtain ⟨c, h⟩ := noteEvent_eq s f i
  rw [h]
@[simp] theorem noteEvent_obs (s : State) (f : Fld) (i : Nat) : (s.noteEvent f i).obs = s.obs := by
  obtain ⟨c, h⟩ := noteEvent_eq s f i
  rw [h]
@[simp] theorem noteEvent_plm (s : State) (f : Fld) (i : Nat) : (s.noteEvent f i).plm = s.plm := by
  obtain ⟨c, h⟩ := noteEvent_eq s f i
  rw [h]
@[simp] theorem noteEvent_txf (s : State) (f : Fld) (i : Nat) : (s.noteEvent f i).txf = s.txf := by
  obtain ⟨c, h⟩ := noteEvent_eq s f i
  rw [h]
@[simp] theorem noteEvent_cht (s : State) (f : Fld) (i : Nat) : (s.noteEvent f i).cht = s.cht := by
  obtain ⟨c, h⟩ := noteEvent_eq s f i
  rw [h]
@[simp] theorem noteEvent_mac (s : State) (f : Fld) (i : Nat) : (s.noteEvent f i).mac = s.mac := by
  obtain ⟨c, h⟩ := noteEvent_eq s f i
  rw [h]
@[simp] theorem noteEvent_spw (s : State) (f : Fld) (i : Nat) : (s.noteEvent f i).spw = s.spw := by
  obtain ⟨c, h⟩ := noteEvent_eq s f i
  rw [h]
@[simp] theorem noteEvent_eth (s : State) (f : Fld) (i : Nat) : (s.noteEvent f i).eth = s.eth := by
  obtain ⟨c, h⟩ := noteEvent_eq s f i
  rw [h]
@[simp] theorem noteEvent_fls (s : State) (f : Fld) (i : Nat) : (s.noteEvent f i).fls = s.fls := by
  obtain ⟨c, h⟩ := noteEvent_eq s f i
  rw [h]
@[simp] theorem noteEvent_skim (s : State) (f : Fld) (i : Nat) : (s.noteEvent f i).skim = s.skim := by
  obtain ⟨c, h⟩ := noteEvent_eq s f i
  rw [h]
@[simp] theorem noteEvent_slc (s : State) (f : Fld) (i : Nat) : (s.noteEvent f i).slc = s.slc := by
  obtain ⟨c, h⟩ := noteEvent_eq s f i
  rw [h]
@[simp] theorem noteEvent_twn (s : State) (f : Fld) (i : Nat) : (s.noteEvent f i).twn = s.twn := by
  obtain ⟨c, h⟩ := noteEvent_eq s f i
  rw [h]
@[simp] theorem noteEvent_grt (s : State) (f : Fld) (i : Nat) : (s.noteEvent f i).grt = s.grt := by
  obtain ⟨c, h⟩ := noteEvent_eq s f i
  rw [h]
@[simp] theorem noteEvent_bot (s : State) (f : Fld) (i : Nat) : (s.noteEvent f i).bot = s.bot := by
  obtain ⟨c, h⟩ := noteEvent_eq s f i
  rw [h]
@[simp] theorem noteEvent_ocl (s : State) (f : Fld) (i : Nat) : (s.noteEvent f i).ocl = s.ocl := by
  obtain ⟨c, h⟩ := noteEvent_eq s f i
  rw [h]
@[simp] theorem raise_pending (s : State) (f : Fld) (i : Nat) : (s.raise f i).pending = s.pending := by
  obtain h | h := raise_cases s f i <;> simp [h]
@[simp] theorem raise_mem (s : State) (f : Fld) (i : Nat) : (s.raise f i).mem = s.mem := by
  obtain h | h := raise_cases s f i <;> simp [h]
@[simp] theorem raise_ecc (s : State) (f : Fld) (i : Nat) : (s.raise f i).ecc = s.ecc := by
  obtain h | h := raise_cases s f i <;> simp [h]
@[simp] theorem raise_draw (s : State) (f : Fld) (i : Nat) : (s.raise f i).draw = s.draw := by
  obtain h | h := raise_cases s f i <;> simp [h]
@[simp] theorem raise_clp (s : State) (f : Fld) (i : Nat) : (s.raise f i).clp = s.clp := by
  obtain h | h := raise_cases s f i <;> simp [h]
@[simp] theorem raise_pwr (s : State) (f : Fld) (i : Nat) : (s.raise f i).pwr = s.pwr := by
  obtain h | h := raise_cases s f i <;> simp [h]
@[simp] theorem raise_run (s : State) (f : Fld) (i : Nat) : (s.raise f i).run = s.run := by
  obtain h | h := raise_cases s f i <;> simp [h]
@[simp] theorem raise_obs (s : State) (f : Fld) (i : Nat) : (s.raise f i).obs = s.obs := by
  obtain h | h := raise_cases s f i <;> simp [h]
@[simp] theorem raise_plm (s : State) (f : Fld) (i : Nat) : (s.raise f i).plm = s.plm := by
  obtain h | h := raise_cases s f i <;> simp [h]
@[simp] theorem raise_txf (s : State) (f : Fld) (i : Nat) : (s.raise f i).txf = s.txf := by
  obtain h | h := raise_cases s f i <;> simp [h]
@[simp] theorem raise_cht (s : State) (f : Fld) (i : Nat) : (s.raise f i).cht = s.cht := by
  obtain h | h := raise_cases s f i <;> simp [h]
@[simp] theorem raise_mac (s : State) (f : Fld) (i : Nat) : (s.raise f i).mac = s.mac := by
  obtain h | h := raise_cases s f i <;> simp [h]
@[simp] theorem raise_spw (s : State) (f : Fld) (i : Nat) : (s.raise f i).spw = s.spw := by
  obtain h | h := raise_cases s f i <;> simp [h]
@[simp] theorem raise_eth (s : State) (f : Fld) (i : Nat) : (s.raise f i).eth = s.eth := by
  obtain h | h := raise_cases s f i <;> simp [h]
@[simp] theorem raise_fls (s : State) (f : Fld) (i : Nat) : (s.raise f i).fls = s.fls := by
  obtain h | h := raise_cases s f i <;> simp [h]
@[simp] theorem raise_skim (s : State) (f : Fld) (i : Nat) : (s.raise f i).skim = s.skim := by
  obtain h | h := raise_cases s f i <;> simp [h]
@[simp] theorem raise_slc (s : State) (f : Fld) (i : Nat) : (s.raise f i).slc = s.slc := by
  obtain h | h := raise_cases s f i <;> simp [h]
@[simp] theorem raise_twn (s : State) (f : Fld) (i : Nat) : (s.raise f i).twn = s.twn := by
  obtain h | h := raise_cases s f i <;> simp [h]
@[simp] theorem raise_grt (s : State) (f : Fld) (i : Nat) : (s.raise f i).grt = s.grt := by
  obtain h | h := raise_cases s f i <;> simp [h]
@[simp] theorem raise_bot (s : State) (f : Fld) (i : Nat) : (s.raise f i).bot = s.bot := by
  obtain h | h := raise_cases s f i <;> simp [h]
@[simp] theorem raise_ocl (s : State) (f : Fld) (i : Nat) : (s.raise f i).ocl = s.ocl := by
  obtain h | h := raise_cases s f i <;> simp [h]

/-- A free value is drawn: only the model's counter moves. -/
@[simp] theorem fresh_regs (s : State) : s.fresh.2.regs = s.regs := rfl
@[simp] theorem fresh_mem (s : State) : s.fresh.2.mem = s.mem := rfl
@[simp] theorem fresh_fld (s : State) (f : Fld) (i j : Nat) : s.fresh.2.fld f i j = s.fld f i j := rfl
@[simp] theorem fresh_reg (s : State) (id : RegId) (i j : Nat) : s.fresh.2.reg id i j = s.reg id i j := rfl

@[simp] theorem on_true (s : State) (f : State → State) : s.on true f = f s := rfl
@[simp] theorem on_false (s : State) (f : State → State) : s.on false f = s := rfl

/-- A conditional effect keeps what the effect keeps. -/
theorem on_keeps {P : State → Prop} {s : State} (c : Bool) {f : State → State} (h : P s) (hf : P (f s)) : P (s.on c f) := by
  cases c <;> simpa

/-- A field that an effect leaves alone stays under a condition. -/
theorem on_fld {s : State} (c : Bool) {f : State → State} {g : Fld} {i j : Nat} (h : (f s).fld g i j = s.fld g i j) :
    (s.on c f).fld g i j = s.fld g i j := by
  cases c <;> simp [h]

/-! ## Records set and read -/

@[simp] theorem plmChain_setPlmChain (s : State) (j : Nat) (c : PlmChain) : (s.setPlmChain j c).plmChain j = c := by
  simp [State.plmChain, State.setPlmChain]
@[simp] theorem rill_setRill (s : State) (j n : Nat) (r : Rill) : (s.setRill j n r).rill j n = r := by
  simp [State.rill, State.setRill]
@[simp] theorem tx_setTx (s : State) (j : Nat) (c : TxfChain) : (s.setTx j c).tx j = c := by simp [State.tx, State.setTx]
@[simp] theorem rx_setRx (s : State) (i : Nat) (f : RxFrame) : (s.setRx i f).rx i = some f := by simp [State.rx, State.setRx]
@[simp] theorem runnel_setRunnel (s : State) (n : Nat) (r : Runnel) : (s.setRunnel n r).runnel n = r := by
  simp [State.runnel, State.setRunnel]
@[simp] theorem link_setLink (s : State) (c : Nat) (l : Link) : (s.setLink c l).link c = l := by simp [State.link, State.setLink]
theorem link_setLink_ne (s : State) {c d : Nat} (l : Link) (h : d ≠ c) : (s.setLink c l).link d = s.link d := by
  simp [State.link, State.setLink, SMap.getD_put_ne _ _ _ h]
@[simp] theorem thr_setThr (s : State) (t : Nat) (th : OclThread) : (s.setThr t th).thr t = th := by
  simp [State.thr, State.setThr]
theorem thr_setThr_ne (s : State) {t u : Nat} (th : OclThread) (h : u ≠ t) : (s.setThr t th).thr u = s.thr u := by
  simp [State.thr, State.setThr, SMap.getD_put_ne _ _ _ h]

end Sys2Proof.Machine
end

