-- ==== Sys2Proof/Laws/Memory.lean ====
section
/-! SUPPORT. The byte memory: a read after a write, and that every operation on memory keeps its canonical form. -/

namespace Sys2Proof.Machine

/-! ## Bytes read and written -/

@[simp] theorem memByte_setMemByte (s : State) (m o : Nat) (b : Byte) : (s.setMemByte m o b).memByte m o = b := by
  simp [State.memByte, State.setMemByte]

theorem memByte_setMemByte_ne (s : State) {m o m' o' : Nat} (b : Byte) (h : memAddr m' o' ≠ memAddr m o) :
    (s.setMemByte m o b).memByte m' o' = s.memByte m' o' := by
  simp [State.memByte, State.setMemByte, SMap.getD_putD_ne _ _ _ _ h]

/-- Byte addresses of the memories of R438 do not meet. -/
theorem memAddr_inj {m o m' o' : Nat} (ho : o < 2 ^ 24) (ho' : o' < 2 ^ 24) (h : memAddr m o = memAddr m' o') : m = m' ∧ o = o' := by
  unfold memAddr at h
  omega

/-- A store of bytes leaves every byte outside them alone. -/
theorem memByte_setMemBytes_out (bs : List Byte) (s : State) (m o m' o' : Nat)
    (h : ∀ k, k < bs.length → memAddr m' o' ≠ memAddr m (o + k)) : (s.setMemBytes m o bs).memByte m' o' = s.memByte m' o' := by
  induction bs generalizing s o with
  | nil => rfl
  | cons b bs ih =>
    simp only [State.setMemBytes]
    rw [ih (s.setMemByte m o b) (o + 1) fun k hk => ?_, memByte_setMemByte_ne]
    · exact h 0 (by simp)
    · have := h (k + 1) (by simpa using hk)
      rwa [Nat.add_assoc, Nat.add_comm 1 k]

/-- A store of bytes is read back. -/
theorem memByte_setMemBytes_in (bs : List Byte) (s : State) (m o k : Nat) (hk : k < bs.length) :
    (s.setMemBytes m o bs).memByte m (o + k) = bs[k] := by
  induction bs generalizing s o k with
  | nil => simp at hk
  | cons b bs ih =>
    simp only [State.setMemBytes]
    cases k with
    | zero =>
      rw [memByte_setMemBytes_out]
      · simp
      · intro j _
        unfold memAddr
        omega
    | succ k =>
      have := ih (s.setMemByte m o b) (o + 1) k (by simpa using hk)
      rw [Nat.add_right_comm] at this
      simpa [Nat.add_assoc] using this

/-! ## The canonical form -/

theorem wf_setMemByte (s : State) (m o : Nat) (b : Byte) (h : Memory.wf s.mem = true) : Memory.wf (s.setMemByte m o b).mem = true :=
  SMap.wf_putD _ _ _ h

theorem wf_setMemBytes (bs : List Byte) (s : State) (m o : Nat) (h : Memory.wf s.mem = true) :
    Memory.wf (s.setMemBytes m o bs).mem = true := by
  induction bs generalizing s o with
  | nil => exact h
  | cons b bs ih => exact ih _ _ (wf_setMemByte s m o b h)

theorem wf_setMemWord (s : State) (m w v : Nat) (h : Memory.wf s.mem = true) : Memory.wf (s.setMemWord m w v).mem = true :=
  wf_setMemBytes _ s m _ h

@[simp] theorem flipApply_mem (s : State) (m w : Nat) : (s.flipApply m w).mem = s.mem := by
  unfold State.flipApply
  split
  · simp only [bump_mem, raise_mem, setFld_mem]
    unfold State.on
    split <;> rfl
  · rfl

@[simp] theorem sealWords_mem (ws : List Nat) (s : State) (m : Nat) : (s.sealWords m ws).mem = s.mem := by
  induction ws generalizing s with
  | nil => rfl
  | cons w ws ih => simp [State.sealWords, ih]

@[simp] theorem correct_mem (s : State) (m w : Nat) : (s.correct m w).mem = s.mem := by simp [State.correct]

/-- A functional write of a word changes bytes as its plain store does. -/
@[simp] theorem memWrite_mem (s : State) (m w v : Nat) : (s.memWrite m w v).mem = (s.setMemWord m w v).mem := by
  simp [State.memWrite]

theorem wf_memWrite (s : State) (m w v : Nat) (h : Memory.wf s.mem = true) : Memory.wf (s.memWrite m w v).mem = true := by
  simpa using wf_setMemWord s m w v h

theorem wf_memWrites (vs : List Nat) (s : State) (m w : Nat) (h : Memory.wf s.mem = true) :
    Memory.wf (s.memWrites m w vs).mem = true := by
  induction vs generalizing s w with
  | nil => exact h
  | cons v vs ih => exact ih _ _ (wf_memWrite s m w v h)

@[simp] theorem flushAsk_mem (s : State) : s.flushAsk.mem = s.mem := by
  unfold State.flushAsk
  split
  · rfl
  · simp

@[simp] theorem siltCount_mem (s : State) (n : Nat) : (s.siltCount n).mem = s.mem := rfl

theorem wf_siltWrite (s : State) (base seq : Nat) (rs : List (Nat × Nat × Nat)) (h : Memory.wf s.mem = true) :
    Memory.wf (s.siltWrite base seq rs).mem = true := by
  unfold State.siltWrite
  generalize rs.zipIdx = l
  induction l generalizing s with
  | nil => exact h
  | cons e l ih => exact ih _ (wf_memWrites _ s 7 _ h)

/-- The post of a Silt record writes at most words of the event buffer. -/
theorem wf_siltPost (s : State) (code value rank : Nat) (h : Memory.wf s.mem = true) : Memory.wf (s.siltPost code value rank).mem = true := by
  have keep (c : Bool) (f : State → State) (hf : ∀ s : State, (f s).mem = s.mem) {s : State} (h : Memory.wf s.mem = true) :
      Memory.wf (s.on c f).mem = true := on_keeps (P := fun s => Memory.wf s.mem = true) c h (by rw [hf]; exact h)
  simp only [State.siltPost]
  split
  · refine keep _ _ flushAsk_mem ?_
    exact keep _ _ (fun s => by simp) (keep _ _ (fun s => by simp) (keep _ _ (fun s => by simp) (wf_siltWrite _ _ _ _ h)))
  · exact keep _ _ (fun s => by simp) (keep _ _ (fun s => by simp) (keep _ _ (fun s => by simp) (wf_siltWrite _ _ _ _ h)))

theorem wf_poisonMark (s : State) (m w mask : Nat) (h : Memory.wf s.mem = true) : Memory.wf (s.poisonMark m w mask).mem = true := by
  simp only [State.poisonMark]
  refine wf_siltPost _ _ _ _ ?_
  simpa using wf_setMemWord s m w _ h

theorem wf_memRead (s : State) (m w : Nat) (h : Memory.wf s.mem = true) : Memory.wf (s.memRead m w).2.mem = true := by
  unfold State.memRead
  split
  · exact h
  · split
    · exact h
    · split
      · rw [eccClear_mem]
        exact wf_setMemWord { s with draw := s.draw + 1 } m w _ h
      · split
        · simpa using h
        · simpa [State.fresh] using wf_setMemWord { s with draw := s.draw + 1 } m w _ h
      · exact wf_poisonMark s m w _ h

theorem wf_memReads (n : Nat) (s : State) (m w : Nat) (h : Memory.wf s.mem = true) : Memory.wf (s.memReads m w n).2.2.mem = true := by
  induction n generalizing s w with
  | zero => exact h
  | succ n ih => exact ih _ _ (wf_memRead s m w h)

theorem wf_partialCheck (ws : List Nat) (s : State) (m o n : Nat) (h : Memory.wf s.mem = true) :
    Memory.wf (s.partialCheck m o n ws).2.mem = true := by
  induction ws generalizing s with
  | nil => exact h
  | cons w ws ih =>
    simp only [State.partialCheck]
    refine ih _ ?_
    split
    · split
      · simpa using wf_memRead s m w h
      · exact wf_memRead s m w h
    · exact h

theorem wf_memStore (s : State) (m o : Nat) (bs : List Byte) (h : Memory.wf s.mem = true) : Memory.wf (s.memStore m o bs).2.mem = true := by
  have k := wf_partialCheck (wordsOf o bs.length) s m o bs.length h
  simp only [State.memStore]
  split
  · exact k
  · simpa using wf_setMemBytes bs _ m o k

theorem wf_memLoad (s : State) (m o n : Nat) (h : Memory.wf s.mem = true) : Memory.wf (s.memLoad m o n).2.2.mem = true :=
  wf_memReads _ s m _ h

/-- Reset memory lists nothing. -/
theorem wf_reset : Memory.wf State.reset.mem = true := rfl

end Sys2Proof.Machine
end

