-- ==== Sys2Proof/Laws/Ocell.lean ====
section
/-! SUPPORT. How an Ocell instruction issues and retires, said once: what the statements about instructions rest on. -/

namespace Sys2Proof.Machine

@[simp] theorem thr_issueCount (s : State) (t x : Nat) : (s.issueCount t).thr x = s.thr x := by
  unfold State.issueCount State.on; split <;> rfl

@[simp] theorem memByte_issueCount (s : State) (t m o : Nat) : (s.issueCount t).memByte m o = s.memByte m o := by
  unfold State.issueCount State.on; split <;> rfl

@[simp] theorem clp_issueCount (s : State) (t : Nat) : (s.issueCount t).clp = s.clp := by
  unfold State.issueCount State.on; split <;> rfl

@[simp] theorem mem_issueCount (s : State) (t : Nat) : (s.issueCount t).mem = s.mem := by
  unfold State.issueCount State.on; split <;> rfl

@[simp] theorem ecc_issueCount (s : State) (t : Nat) : (s.issueCount t).ecc = s.ecc := by
  unfold State.issueCount State.on; split <;> rfl

@[simp] theorem run_issueCount (s : State) (t : Nat) : (s.issueCount t).run = s.run := by
  unfold State.issueCount State.on; split <;> rfl

@[simp] theorem ocl_issueCount (s : State) (t : Nat) : (s.issueCount t).ocl = s.ocl := by
  unfold State.issueCount State.on; split <;> rfl

@[simp] theorem pwr_issueCount (s : State) (t : Nat) : (s.issueCount t).pwr = s.pwr := by
  unfold State.issueCount State.on; split <;> rfl

@[simp] theorem thr_takeTurn (s : State) (t x : Nat) : (s.takeTurn t).thr x = s.thr x := by
  unfold State.takeTurn; split <;> rfl

@[simp] theorem mem_takeTurn (s : State) (t : Nat) : (s.takeTurn t).mem = s.mem := by unfold State.takeTurn; split <;> rfl

@[simp] theorem clp_takeTurn (s : State) (t : Nat) : (s.takeTurn t).clp = s.clp := by unfold State.takeTurn; split <;> rfl

@[simp] theorem ecc_takeTurn (s : State) (t : Nat) : (s.takeTurn t).ecc = s.ecc := by unfold State.takeTurn; split <;> rfl

@[simp] theorem run_takeTurn (s : State) (t : Nat) : (s.takeTurn t).run = s.run := by unfold State.takeTurn; split <;> rfl

@[simp] theorem pwr_takeTurn (s : State) (t : Nat) : (s.takeTurn t).pwr = s.pwr := by unfold State.takeTurn; split <;> rfl

@[simp] theorem regs_takeTurn (s : State) (t : Nat) : (s.takeTurn t).regs = s.regs := by unfold State.takeTurn; split <;> rfl

@[simp] theorem thr_issued (s : State) (t x : Nat) : (s.issued t).thr x = s.thr x := by simp [State.issued]

@[simp] theorem mem_issued (s : State) (t : Nat) : (s.issued t).mem = s.mem := by simp [State.issued]

@[simp] theorem memByte_issued (s : State) (t m o : Nat) : (s.issued t).memByte m o = s.memByte m o := by
  simp [State.memByte]

@[simp] theorem clp_issued (s : State) (t : Nat) : (s.issued t).clp = s.clp := by simp [State.issued]

@[simp] theorem ecc_issued (s : State) (t : Nat) : (s.issued t).ecc = s.ecc := by simp [State.issued]

@[simp] theorem run_issued (s : State) (t : Nat) : (s.issued t).run = s.run := by simp [State.issued]

@[simp] theorem pwr_issued (s : State) (t : Nat) : (s.issued t).pwr = s.pwr := by simp [State.issued]

@[simp] theorem g_issued (s : State) (t x r : Nat) : (s.issued t).g x r = s.g x r := by simp [State.g]

/-- An issue leaves every register but the issue count alone. -/
theorem reg_issued (s : State) (t : Nat) {id : RegId} (i j : Nat) (h : id ≠ .OBS_THR_CNT) :
    (s.issued t).reg id i j = s.reg id i j := by
  unfold State.issued State.issueCount State.on
  split
  · exact (reg_setReg_id (s.takeTurn t) _ _ _ _ _ h).trans (by simp [State.reg])
  · simp [State.reg]

@[simp] theorem fetchGood_takeTurn (s : State) (t x : Nat) : FetchGood x (s.takeTurn t) = FetchGood x s := by
  simp [FetchGood, State.eccOf]

/-- The fetch of a good word leaves the state as it is. -/
theorem fetch_good {s : State} {t : Nat} (h : FetchGood t s) : s.fetch t = (false, s) := by
  unfold FetchGood at h
  simp only [State.fetch, State.memRead, h, WordRead.isBad, State.inRegion, State.quiet]
  split <;> rfl

/-- The fetch of a poisoned word leaves the state as it is, and is bad. -/
theorem fetch_poisoned {s : State} {t : Nat} {k : EccMark} (h : s.eccOf (instrMem t) ((s.thr t).pc / 8) = some k)
    (hk : k.poisoned = true) : s.fetch t = (true, s) := by
  simp only [State.fetch, State.memRead, h, hk, WordRead.isBad, State.inRegion, State.quiet, if_true]
  split <;> rfl

/-- An unguarded instruction of a Ready thread has its effect where it is legal, and raises ILLEGAL where it is not. -/
theorem issue_run {s : State} {t w : Nat} (h : Issues t w s) (opc : Nat) (legal : Bool) (f : State → State) :
    s.issue t opc w legal f =
      if legal then f (s.issued t) else (s.issued t).except t 1 (BitVec.ofNat 64 (opWord opc w)) := by
  simp [State.issue, State.issued, h.1, h.2.2, fetch_good (s := s.takeTurn t) (by simpa using h.2.1)]

/-- A guarded-off instruction only retires. -/
theorem issue_off {s : State} {t w : Nat} (h : s.mayIssue t = true) (hf : FetchGood t s) (hp : (s.thr t).pred (opQP w) = false) (opc : Nat)
    (legal : Bool) (f : State → State) : s.issue t opc w legal f = (s.issued t).retire t := by
  simp [State.issue, State.issued, h, hp, fetch_good (s := s.takeTurn t) (by simpa using hf)]

/-- A poisoned instruction word raises POISON. -/
theorem issue_poisoned {s : State} {t : Nat} {k : EccMark} (h : s.mayIssue t = true)
    (he : s.eccOf (instrMem t) ((s.thr t).pc / 8) = some k) (hk : k.poisoned = true) (opc w : Nat) (legal : Bool) (f : State → State) :
    s.issue t opc w legal f = (s.takeTurn t).except t 4 (BitVec.ofNat 64 (s.thr t).pc) := by
  simp [State.issue, h, fetch_poisoned (s := s.takeTurn t) (t := t) (k := k) (by simpa [State.eccOf] using he) hk]

/-- An instruction of a thread that is not Ready does nothing. -/
theorem issue_wait {s : State} {t : Nat} (h : s.mayIssue t = false) (opc w : Nat) (legal : Bool) (f : State → State) :
    s.issue t opc w legal f = s := by simp [State.issue, h]

/-- A thread whose instruction issues is Ready. -/
theorem Issues.ready {t w : Nat} {s : State} (h : Issues t w s) : (s.thr t).state = 1 := by
  have := h.1; simp [State.mayIssue] at this; exact this.1.1.1

/-- A Ready thread retires at the next address. -/
theorem retire_ready {s : State} {t : Nat} (h : (s.thr t).state = 1) :
    s.retire t = s.setThr t (retiredAt (s.thr t) (nextPc (s.thr t))) := by
  simp [State.retire, h, retiredAt, nextPc]

/-- The later of two changes of a thread's record is the one that stays. -/
@[simp] theorem setThr_setThr (s : State) (t : Nat) (a b : OclThread) : (s.setThr t a).setThr t b = s.setThr t b := by
  simp [State.setThr, SMap.put_put]

@[simp] theorem retiredAt_state (th : OclThread) (pc : Nat) : (retiredAt th pc).state = th.state := rfl

@[simp] theorem setReg_state (th : OclThread) (r : Nat) (v : Word) : (th.setReg r v).state = th.state := by
  unfold OclThread.setReg; split <;> rfl
@[simp] theorem setReg_pc (th : OclThread) (r : Nat) (v : Word) : (th.setReg r v).pc = th.pc := by
  unfold OclThread.setReg; split <;> rfl
@[simp] theorem setPred_state (th : OclThread) (k : Nat) (b : Bool) : (th.setPred k b).state = th.state := by
  unfold OclThread.setPred; split <;> rfl
@[simp] theorem setPred_pc (th : OclThread) (k : Nat) (b : Bool) : (th.setPred k b).pc = th.pc := by
  unfold OclThread.setPred; split <;> rfl
@[simp] theorem setHandle_state (th : OclThread) (k : Nat) (v : Word) : (th.setHandle k v).state = th.state := rfl
@[simp] theorem setHandle_pc (th : OclThread) (k : Nat) (v : Word) : (th.setHandle k v).pc = th.pc := rfl

/-- A change of one thread's record alone, after the issue count. -/
theorem threadOnly_setThr (s : State) (t : Nat) (th : OclThread) : ThreadOnly t th s ((s.issued t).setThr t th) := by
  refine ⟨by simp, fun x hx => ?_, fun m o => ?_, ?_, fun id i j h => ?_⟩
  · rw [thr_setThr_ne _ _ hx]; simp
  · simp [State.memByte]
  · simp
  · have := reg_issued s t i j h
    simpa [State.reg] using this

/-- A result of a Ready thread. -/
theorem result_ready {s : State} {t : Nat} (h : (s.thr t).state = 1) (rd : Nat) (v : Word) :
    s.result t rd v = s.setThr t (retiredAt ((s.thr t).setReg rd v) (nextPc (s.thr t))) := by
  unfold State.result State.setG
  rw [retire_ready (by simp [h])]
  simp [nextPc]

/-- A predicate of a Ready thread. -/
theorem resultP_ready {s : State} {t : Nat} (h : (s.thr t).state = 1) (k : Nat) (b : Bool) :
    s.resultP t k b = s.setThr t (retiredAt ((s.thr t).setPred k b) (nextPc (s.thr t))) := by
  unfold State.resultP State.setP
  rw [retire_ready (by simp [h])]
  simp [nextPc]

/-- A legal instruction of a Ready thread whose effect is a result of a general register touches only its thread. -/
theorem threadOnly_result {s : State} {t w : Nat} (h : Issues t w s) (opc : Nat) (f : State → State) (legal : Bool)
    (hl : legal = true) (rd : Nat) (v : Word) (hf : f (s.issued t) = (s.issued t).result t rd v) :
    ThreadOnly t (retiredAt ((s.thr t).setReg rd v) (nextPc (s.thr t))) s (s.issue t opc w legal f) := by
  rw [issue_run h, hl, if_pos rfl, hf, result_ready (by simp [h.ready])]
  simpa using threadOnly_setThr s t _

/-- A legal instruction of a Ready thread whose effect is a result of a predicate touches only its thread. -/
theorem threadOnly_resultP {s : State} {t w : Nat} (h : Issues t w s) (opc : Nat) (f : State → State) (legal : Bool)
    (hl : legal = true) (pd : Nat) (v : Bool) (hf : f (s.issued t) = (s.issued t).resultP t pd v) :
    ThreadOnly t (retiredAt ((s.thr t).setPred pd v) (nextPc (s.thr t))) s (s.issue t opc w legal f) := by
  rw [issue_run h, hl, if_pos rfl, hf, resultP_ready (by simp [h.ready])]
  simpa using threadOnly_setThr s t _

end Sys2Proof.Machine
end

