-- ==== Sys2Proof/Laws/Receive.lean ====
section
/-! SUPPORT. What the operations of a receive chain leave as they were. -/

namespace Sys2Proof.Machine

theorem chainAsk_fld (s : State) (j : Nat) {g : Fld} (i k : Nat) (h1 : g.reg ≠ .PLM_EVT) (h2 : g.reg ≠ .PWR_CNT_CHAIN_WAKE) :
    (s.chainAsk j).fld g i k = s.fld g i k := by
  have e1 : g.reg ≠ F.PLM_EVT_WINDOW_BAD.reg := h1
  have e2 : g.reg ≠ F.PWR_CNT_CHAIN_WAKE_COUNT.reg := h2
  simp only [State.chainAsk]
  split
  · split
    · simp
    · split
      · simp [fld_raise_id _ _ _ _ e1]
      · split
        · simp
        · split
          · simp
          · rw [on_fld]
            · simp
            · simp [fld_bump_id _ _ _ _ _ _ e2]
  · simp
  · simp
theorem rillRestart_fld (s : State) (j n : Nat) {g : Fld} (i k : Nat) (h : g.reg ≠ .PLM_RILL_STAT) : (s.rillRestart j n).fld g i k = s.fld g i k := by
  have : g.reg ≠ F.PLM_RILL_STAT_STATE.reg := h
  simp [State.rillRestart, fld_setFld_id _ _ _ _ _ _ this]
theorem setChainState_chainState (s : State) (j v : Nat) (h : v < 4): (s.setChainState j v).chainState j = v := by
  unfold State.setChainState State.chainState
  rw [fld_raise_id _ _ _ _ (by decide), fld_setFld_self _ _ _ _ _ (by decide)]
  exact Nat.mod_eq_of_lt h

end Sys2Proof.Machine
end

