-- ==== Sys2Proof/Tests/Slice0.lean ====
section
/-! SUPPORT. Tests: each well-formedness check refuses an ill-formed command; examples the manual works out and published check values of
the functions it names; and for each statement with hypotheses a state and operands that meet them together. -/

namespace Sys2Proof.Machine

set_option linter.unusedVariables false
set_option Elab.async false

/-! ## States of the tests -/

/-- Released, with every memory initialised. -/
def State.up (s : State) : State := { s with pwr := { s.pwr with phase := .run, inited := List.range 84 } }
/-- Every memory is initialised. -/
def State.inited (s : State) : State := { s with pwr := { s.pwr with inited := List.range 84 } }
def State.pendWith (s : State) (q : List Instr) : State := { s with pending := q }
def State.eccWith (s : State) (m w : Nat) (k : EccMark) : State := { s with ecc := SMap.put s.ecc (eccKey m w) k }
def State.flashAt (s : State) (a : Nat) (bs : List Byte) : State := s.flashProgram a (bs ++ leBytes 4 (crc32c bs))
/-- A boot header in copy 0: ACTIVE and the state of Reservoir A. -/
def State.hdrWith (s : State) (active st : Nat) : State :=
  s.flashAt 0 ([0x47, 0x4C, 0x42, 0x48] ++ leBytes 4 1 ++ leBytes 1 active ++ leBytes 1 st ++ List.replicate 70 0)
/-- Empty settings of FORMAT 65,535 in copy 0. -/
def State.settingsWith (s : State) : State :=
  s.flashAt 0x00D00000 ([0x47, 0x4C, 0x53, 0x54] ++ leBytes 4 1 ++ leBytes 4 65535 ++ leBytes 4 0 ++ leBytes 4 0 ++ List.replicate 8 0)
theorem find?_none_of_above {α : Type} (m : SMap α) (b k : Nat) (hm : m.all (fun e => decide (b ≤ e.1)) = true) (hk : k < b) :
    SMap.find? m k = none := by
  induction m with
  | nil => rfl
  | cons e m ih =>
    obtain ⟨a, v⟩ := e
    simp only [List.all_cons, Bool.and_eq_true, decide_eq_true_eq] at hm
    simp only [SMap.find?]
    rw [if_neg (by omega)]
    exact ih hm.2
/-- Nothing listed in the memories of the keys, and no flip-mask armed. -/
theorem keysGood_of (s : State) (h1 : s.flag F.MEM_FLIP_CTL_ARM = false) (h2 : s.ecc.all (fun e => decide (5 * 2 ^ 21 ≤ e.1)) = true)
    (h3 : s.mem.all (fun e => decide (5 * 2 ^ 24 ≤ e.1)) = true) : KeysGood s := by
  refine ⟨h1, fun m hm w hw => ?_⟩
  have hm' : m ≤ 4 := by simp [keyMems] at hm; omega
  refine ⟨find?_none_of_above _ _ _ h2 (by unfold eccKey; omega), ?_⟩
  have hb : ∀ k < 8, s.memByte m (8 * w + k) = 0 := fun k hk => by
    simp only [State.memByte, SMap.getD, find?_none_of_above _ _ _ h3 (show memAddr m (8 * w + k) < _ by unfold memAddr; omega)]
    rfl
  have hl : s.memBytes m (8 * w) 8 = List.replicate 8 0 := by
    simp [State.memBytes, List.range, List.range.loop, hb, List.replicate, show s.memByte m (8 * w) = 0 from hb 0 (by decide)]
  simp only [State.memWord, hl]
  decide
/-- RFC 3394, section 4.1: 128 bits of key data under a 128-bit key. -/
theorem test_unwrap_rfc3394 : keyUnwrap (keyBytes 0x000102030405060708090A0B0C0D0E0F)
    (beBytes 24 0x1FA68B0A8112B447AEF34BD8FB5A7B829D3E862371D2CFE5) = some (beBytes 16 0x00112233445566778899AABBCCDDEEFF) := by decide +kernel
/-- The RFC's key data, where a command's input and the network key are the RFC's. -/
theorem transported_rfc3394 (s : State) (hk : (s.grtInput 24).2.grt.netKey = some 0x000102030405060708090A0B0C0D0E0F)
    (hb : (s.grtInput 24).1 = beBytes 24 0x1FA68B0A8112B447AEF34BD8FB5A7B829D3E862371D2CFE5) : ∃ k u, s.grtTransported = (some k, u) := by
  refine ⟨ofBe (beBytes 16 0x00112233445566778899AABBCCDDEEFF), (s.grtInput 24).2, ?_⟩
  unfold State.grtTransported
  simp only [hk, hb, Option.getD_some, test_unwrap_rfc3394, Option.map_some]
def State.skimWith (s : State) (k : Option Skim) : State := { s with skim := k }
def State.clpWith (s : State) (f : ClpState → ClpState) : State := { s with clp := f s.clp }
def State.pwrWith (s : State) (f : PwrState → PwrState) : State := { s with pwr := f s.pwr }
def State.runWith (s : State) (f : RunState → RunState) : State := { s with run := f s.run }
def State.hstWith (s : State) (f : HostState → HostState) : State := { s with hst := f s.hst }
def State.obsWith (s : State) (f : ObsState → ObsState) : State := { s with obs := f s.obs }
def State.plmWith (s : State) (f : PlmState → PlmState) : State := { s with plm := f s.plm }
def State.txfWith (s : State) (f : TxfState → TxfState) : State := { s with txf := f s.txf }
def State.chtWith (s : State) (f : ChtState → ChtState) : State := { s with cht := f s.cht }
def State.macWith (s : State) (f : MacState → MacState) : State := { s with mac := f s.mac }
def State.spwWith (s : State) (f : SpwState → SpwState) : State := { s with spw := f s.spw }
def State.ethWith (s : State) (f : EthState → EthState) : State := { s with eth := f s.eth }
def State.flsWith (s : State) (f : FlsState → FlsState) : State := { s with fls := f s.fls }
def State.slcWith (s : State) (f : SlcState → SlcState) : State := { s with slc := f s.slc }
def State.twnWith (s : State) (f : TwnState → TwnState) : State := { s with twn := f s.twn }
def State.grtWith (s : State) (f : GrtState → GrtState) : State := { s with grt := f s.grt }
def State.botWith (s : State) (f : BotState → BotState) : State := { s with bot := f s.bot }
def State.oclWith (s : State) (f : OclState → OclState) : State := { s with ocl := f s.ocl }
/-! ## Well-formedness: an ill-formed term for each check, which the check refuses -/

theorem test_wf_refuses_requester : (Instr.registerWrite ⟨130, 0⟩ 0 4 0).wf = false ∧ (Instr.fuseBlow 130).wf = false := by decide
theorem test_wf_refuses_offset : (Instr.counterRead ⟨⟨128, 0⟩, 2 ^ 27, 4⟩).wf = false ∧ (Instr.registerWrite ⟨0, 0⟩ 0 3 0).wf = false := by decide
theorem test_wf_refuses_vector : (Instr.msixUnmask 42).wf = false := by decide
theorem test_wf_refuses_chain : (Instr.chainPrimed 16).wf = false ∧ (Instr.rillEnable 0 64 0).wf = false := by decide
theorem test_wf_refuses_rill_register : (Instr.rillConfigWrite 3 0 0 0).wf = false ∧ (Instr.phyModeWrite 16 0).wf = false := by decide
theorem test_wf_refuses_port : (Instr.wiredPacket 15).wf = false ∧ (Instr.wiredPacket 22).wf = false := by decide
theorem test_wf_refuses_session : (Instr.spwLoad 4).wf = false ∧ (Instr.merge 0 (2 ^ 24)).wf = false := by decide
theorem test_wf_refuses_record : (Instr.search 0 [1, 2, 3]).wf = false ∧ (Instr.unlockResp 0 []).wf = false := by decide
theorem test_wf_refuses_index : (Instr.recon (2 ^ 16)).wf = false ∧ (Instr.grantWithdrawal ⟨0, false, 0⟩ 4).wf = false := by decide
theorem test_wf_refuses_thread : (Instr.add 128 0).wf = false ∧ (Instr.thrStart 128 0).wf = false := by decide
theorem test_wf_refuses_word : (Instr.add 0 (2 ^ 25)).wf = false := by decide
/-- R277–R293: the OPC codes the tables assign are those of the Ocell commands; a word with another one is carried whole. -/
theorem test_opc_assigned : (List.range 128).all (fun k => opcAssigned k == (ocellOps 0 0 {}).any fun e => e.2.1 == k) = true ∧
    (Instr.add 0 0x14000000).wf = true := by decide +kernel
theorem test_wf_refuses_core : (Instr.coreWedge 0 33).wf = false := by decide
theorem test_wf_refuses_runnel : (Instr.runnelDisableDone 256).wf = false := by decide
theorem test_wf_refuses_lane : (Instr.flsRead 2 0).wf = false ∧ (Instr.twinLaneLock 0 2 true).wf = false := by decide
theorem test_wf_refuses_memory : (Instr.memoryInitDone 0 78).wf = false ∧ (Instr.jetLockTimeout 7).wf = false := by decide
theorem test_wf_refuses_code : (Instr.siltPost 0 512 0).wf = false ∧ (Instr.siltPost 0 0 (2 ^ 32)).wf = false := by decide
theorem test_wf_refuses_point : (Instr.eddyHoldRelease 10).wf = false := by decide
theorem test_wf_accepts : (Instr.registerWrite ⟨128, 0⟩ 4 4 0).wf = true ∧ (Instr.add 129 (2 ^ 25 - 1)).wf = true ∧
    (Instr.chainPrimed 15).wf = true ∧ (Instr.search 0 [0, 0, 0, 0, 0, 0]).wf = true := by decide

/-! ## The step and the words -/

/-- A command's next state has the property. -/
def Tests.after (o : Host.Outcome State Fault Refusal) (p : State → Bool) : Bool :=
  match o with
  | .next t => p t
  | _ => false

theorem test_step_takes_first : Tests.after (step (State.reset.pendWith [.msgErase, .softReset 0]))
    (fun t => decide (t.pending.length = 1)) = true := by decide +kernel
theorem test_step_idles : Tests.after (step State.reset) (fun t => t.clp.now == 1) = true := by decide +kernel
theorem test_no_word_is_a_command : decodeTableWord 32 0x20CA2FF8 = none ∧ State.reset.withFetchWord 32 7 = State.reset :=
  ⟨rfl, rfl⟩

/-! ## Examples of the manual -/

/-- Jomuter Ready with some registers. -/
def State.jomuterWith (s : State) (p : Nat) (gs : List (Nat × Word)) : State :=
  gs.foldl (fun s g => s.setG 129 g.1 g.2) (s.inited.setThr 129 { state := 1, p := p })

/-- 09_ocell_isa.md, R276: (p3) addi g5, g2, -8 is 0x20CA_2FF8, bits [24:0] of which are 0x0CA_2FF8. -/
theorem test_addi_example : Tests.after (exec (.addi 129 0x0CA2FF8) (State.reset.jomuterWith 8 [(2, 10)]))
    (fun t => t.g 129 5 == 2 && (t.thr 129).pc == 4) = true := by decide +kernel
/-- With p3 clear the same word only passes (R275). -/
theorem test_addi_guarded : Tests.after (exec (.addi 129 0x0CA2FF8) (State.reset.jomuterWith 0 [(2, 10), (5, 3)]))
    (fun t => t.g 129 5 == 3 && (t.thr 129).pc == 4) = true := by decide +kernel
/-- 09_ocell_isa.md, li64: the last lih of 0x7A31_0E55_0000_2C41. -/
theorem test_lih_example : Tests.after (exec (.lih 129 (5 * 2 ^ 17 + 0x2C41)) (State.reset.jomuterWith 0 [(5, 0x00007A310E550000)]))
    (fun t => t.g 129 5 == 0x7A310E5500002C41) = true := by decide +kernel
/-- li g6, -2 sign-extends (R277). -/
theorem test_li_example : Tests.after (exec (.li 129 (6 * 2 ^ 17 + 0xFFFE)) (State.reset.jomuterWith 0 []))
    (fun t => t.g 129 6 == 0xFFFFFFFFFFFFFFFE) = true := by decide +kernel

/-- The anchor of the example of R371: A0 1,000,000 at 20,000 s, slots of 20 ms. -/
def State.anchored (s : State) : State :=
  (((s.setFld F.CLP_ANCHOR_ASN_ASN 1000000).setFld F.CLP_ANCHOR_S_SEC 20000).setFld F.MAC_SLOT_SLOT_LEN_US 20000).setFld F.CLP_STAT_ASN_VALID 1

/-- 12_clepsydra_time.md: slot 1,000,250 starts at service time 0xC6EB_3200, slot 1,000,298 at 0x0023_A200. -/
theorem test_slot_start_example : State.reset.anchored.slotStart 1000250 % 2 ^ 32 = 0xC6EB3200 ∧
    State.reset.anchored.slotStart 1000298 % 2 ^ 32 = 0x0023A200 := by decide +kernel
/-- The same example: a2t of that ASN with 11,000 µs gives 0xC793_0AC0. -/
theorem test_a2t_example : Tests.after (exec (.a2t 129 (1 * 2 ^ 17 + 2 * 2 ^ 12 + 3 * 2 ^ 7)) (State.reset.anchored.jomuterWith 0 [(2, 1000250), (3, 11000)]))
    (fun t => t.g 129 1 == 0xC7930AC0) = true := by decide +kernel

/-- 12_clepsydra_time.md, example of R363: the first sample, +300,000 ns, is accepted and slew_rem is −300,000 ns. -/
theorem test_ofs_sample_example : Tests.after (exec (.ofsSample 0 300000)
      ((((State.reset.up.setFld F.CLP_STEER_CTL_SRC 1).setFld F.CLP_STEER_CTL_INTERVAL_MS 125).setFld F.CLP_STEER_CTL_KP_SHIFT 0).setFld
        F.CLP_STEER_LIM_JUMP_LIMIT_US 1000))
    (fun t => decide (t.clp.slewRem = -300000 * 2 ^ 40) && t.clp.rejects == 0) = true := by decide +kernel
/-- The same example: +1,200,000 ns is rejected. -/
theorem test_ofs_sample_reject : Tests.after (exec (.ofsSample 0 1200000)
      ((State.reset.up.setFld F.CLP_STEER_CTL_SRC 1).setFld F.CLP_STEER_LIM_JUMP_LIMIT_US 1000))
    (fun t => t.clp.rejects == 1 && t.flag F.CLP_EVT_SAMPLE_REJECT) = true := by decide +kernel

/-- 05_mesh_mac.md, example of R157: DRIFT −300 with −37,000 ns after 1,500 slots of 20 ms becomes −302; the correction is −37 µs. -/
theorem test_drift_example :
    ((State.reset.setFld F.MAC_SLOT_SLOT_LEN_US 20000).setFld F.MAC_DRIFT_CTL_DRIFT_W 3).driftAfter
      (toPattern 16 (-300) + 2 ^ 28) (-37000) 1500 = -302 ∧ corrUs (-37000) = 0xFDB := by decide +kernel

/-- 02_receive_plume.md, examples of R31: 2-FSK 150 kb/s at h 0.5 needs 300 kHz; 4-FSK 400 kb/s at h 21/64 needs 400 kHz. -/
theorem test_min_bandwidth_examples :
    ((((State.reset.setFld F.PLM_PHY_MODE_TYPE 1).setFld F.PLM_PHY_MODE_RATE 2).setFld F.PLM_PHY_MODE_MOD_INDEX 32).phyMinBw 0 = 300000) ∧
    (((((State.reset.setFld F.PLM_PHY_MODE_TYPE 1).setFld F.PLM_PHY_MODE_RATE 5).setFld F.PLM_PHY_MODE_MOD_INDEX 21).setFld
      F.PLM_PHY_MODE_ORDER 1).phyMinBw 0 = 400000) := by decide +kernel

/-- 11_runnels_buffers.md, example of R342: HIGH 384, LOW 64; depths 70, 390, 200, 400, 60 leave RUN_EVT_5 at 0x0000_0103. -/
theorem test_watermark_example :
    let s := (((State.reset.setFld F.RUN_MARK_HIGH 384 5).setFld F.RUN_MARK_LOW 64 5).setFld F.RUN_MARK_HIGH_EN 1 5).setFld F.RUN_MARK_LOW_EN 1 5
    ([(70, 390), (390, 200), (200, 400), (400, 60)].foldl (fun s d =>
      let hold (s : State) (n : Nat) : State := s.setRunnel 5 { s.runnel 5 with words := List.replicate n (mkWord 0) }
      let s := hold (s.advance 1) d.1
      (hold (s.setRunTurn 5 (s.runTurn 5)) d.2).judgeMarks 5) s).reg .RUN_EVT_N 5 0 = 0x103 := by
  decide +kernel
/-- R337: with one word held, a push and a pop of one cycle give the pop the old word, and a second pop of that cycle finds none. -/
theorem test_pop_never_bypasses :
    let s := (State.reset.up.setFld F.RUN_CFG_EN 1 5).land 5 [mkWord 7]
    let t := (s.advance 1).land 5 [mkWord 9] 200
    (t.hostPop 5).1 = 7 ∧ (t.hostPop 5).2.landedBefore 5 = 0 ∧ ((t.hostPop 5).2.advance 1).landedBefore 5 = 1 := by decide +kernel

/-- 00_scope.md: a read of a counter with access RC that holds 41 leaves it 0. -/
theorem test_counter_read_clears : Tests.after (exec (.counterRead ⟨⟨128, 0⟩, 0x02C00200, 4⟩)
      (State.reset.up.setFld F.CLP_CNT_SAMPLE_COUNT 41)) (fun t => t.fld F.CLP_CNT_SAMPLE_COUNT == 0) = true := by decide +kernel

/-- 15_memory_integrity.md, example of R448: word 0x15_0B48 of packet memory reads in MEM_SKIM_ADDR_0 as 0x4015_0B48. -/
theorem test_skim_addr_example :
    ((State.reset.setFld F.MEM_SKIM_ADDR_WORD 0x150B48 0).setFld F.MEM_SKIM_ADDR_VALID 1 0).reg .MEM_SKIM_ADDR 0 0 = 0x40150B48 := by
  decide +kernel

/-! ## Published check values of the functions the manual names -/

/-- The check values of CRC-32C and CRC-32, over the nine octets "123456789". -/
theorem test_crc_check_values : crc32c ((List.range 9).map fun i => BitVec.ofNat 8 (0x31 + i)) = 0xE3069283 ∧
    crc32 ((List.range 9).map fun i => BitVec.ofNat 8 (0x31 + i)) = 0xCBF43926 := by decide +kernel
/-- SHA-256 of "abc" (FIPS 180-4). -/
theorem test_sha256_abc :
    ofBe (sha256 [0x61, 0x62, 0x63]) = 0xba7816bf8f01cfea414140de5dae2223b00361a396177a9cb410ff61f20015ad := by decide +kernel
/-- AES-128 (FIPS 197, appendix C.1). -/
theorem test_aes_fips197 : ofBe (aesEnc ((List.range 16).map fun i => BitVec.ofNat 8 i) ((List.range 16).map fun i => BitVec.ofNat 8 (17 * i))) =
    0x69c4e0d86a7b0430d8cdb78070b4c55a := by decide +kernel
/-- AES-CMAC of the empty message (RFC 4493, example 1). -/
theorem test_cmac_rfc4493 : ofBe (aesCmac (beBytes 16 0x2b7e151628aed2a6abf7158809cf4f3c) []) =
    0xbb1d6929e95937287fa37d129b756746 := by decide +kernel

/-! ## The hypotheses of the statements are met -/


/-- The hypotheses of `Obligations.StepKeepsCanonicalForm` are met, by reset. -/
theorem test_hyps_StepKeepsCanonicalForm : Canonical State.reset ∧ ∃ t, step State.reset = .next t := ⟨⟨by decide, by decide⟩, _, rfl⟩

/-- The hypotheses of `Obligations.NoCommandUndoes` are met, each by something a command could undo. -/
theorem test_hyps_NoCommandUndoes :
    let s := ((State.reset.botWith fun b => { b with owners := [(0, 5)], revoked := [3] }).grtWith
      fun g => { g with provLock := true, dbgLock := true, jtagLock := true }).chtWith fun c => { c with fuses := [7] }
    (∃ t, exec .flipLock s = .next t) ∧ s.fuse 7 = true ∧ SMap.find? s.bot.owners 0 = some 5 ∧ 3 ∈ s.bot.revoked ∧
      s.grt.provLock = true ∧ s.grt.dbgLock = true ∧ s.grt.jtagLock = true :=
  ⟨⟨_, rfl⟩, by decide +kernel⟩

/-- FIPS 180-4: the round constants are the fractional parts of the cube roots of the first 64 primes, the initial value those of the square
roots of the first 8. -/
theorem test_sha256_constants :
    let primes := (List.range 312).filter fun p => decide (2 ≤ p) && (List.range p).all fun d => decide (d < 2) || p % d != 0
    let root (e p k : Nat) : Bool := (List.range 8).any fun i =>
      decide ((i * 2 ^ 32 + k) ^ e ≤ p * 2 ^ (32 * e)) && decide (p * 2 ^ (32 * e) < (i * 2 ^ 32 + k + 1) ^ e)

    (primes.length = 64 ∧ (primes.zip shaK).all (fun x => root 3 x.1 x.2) = true) ∧
      ((primes.take 8).zip shaInit).all (fun x => root 2 x.1 x.2) = true := by decide +kernel

/-- The hypotheses of `Obligations.ReceiveChainCommands` are met: each clause at a state and operands. -/
theorem test_hyps_ReceiveChainCommands :
  ((let s : State := (State.reset).setFld F.PLM_CHAIN_STAT_STATE 1 1; let j : Nat := 1; decide (1 ≤ s.chainState j)) &&
   (let s : State := (State.reset).up; let j : Nat := 1; decide (s.listening j = false) && decide (s.released = true)) &&
   (let s : State := ((State.reset).setFld F.PLM_CHAIN_CTL_TARGET 2 1).up; let j : Nat := 1; let d : Word := 0; decide (s.chainState j = 0) && decide (s.chainAsked j ≠ 0) && decide (centreOk (d.toNat % 2 ^ 23) = false) && decide (s.released = true)) &&
   (let s : State := (State.reset).up; decide (s.released = true)) &&
   (let s : State := ((State.reset).setFld F.PLM_WINDOW_CENTRE_KHZ 900000 1).setPlmChain 1 { primedAt := some 9 }; let j : Nat := 1; let at_ : Nat := 9; decide ((s.plmChain j).primedAt = some at_) && decide (s.chainState j = 0) && decide (centreOk (s.fld F.PLM_WINDOW_CENTRE_KHZ j) = true)) &&
   (let s : State := ((State.reset).setFld F.PLM_CHAIN_STAT_STATE 1 1).setFld F.PLM_CHAIN_CTL_TARGET 2 1; let j : Nat := 1; decide (s.chainState j = 1) && decide (s.chainAsked j = 2))) = true ∧
  ((let s : State := ((State.reset).setFld F.PLM_CHAIN_STAT_STATE 2 1).setFld F.PLM_CHAIN_CTL_TARGET 1 1; let j : Nat := 1; decide (s.chainState j = 2) && decide (s.chainAsked j < 2) && decide (s.rillsBusy j = 0)) &&
   (let s : State := (State.reset).setFld F.PLM_CHAIN_STAT_STATE 1 15; let j : Nat := 15; decide (s.chainState j = 1) && decide (s.chainAsked j = 0) && decide (s.idleNow j = true))) = true :=
  ⟨by decide +kernel, by decide +kernel⟩

/-- The hypotheses of `Obligations.RillCommands` are met: each clause at a state and operands. -/
theorem test_hyps_RillCommands :
  ((let s : State := (((State.reset).setFld F.PLM_WINDOW_CENTRE_KHZ 900000 15).setFld F.PLM_PHY_MODE_TYPE 2 0).up; let j : Nat := 15; let n : Nat := 63; let d : Word := 0x42; decide (s.rillOpen j n = true) && decide ((s.setReg .PLM_RILL_CFG j n (BitVec.ofNat 64 (2 * otherFields (bits d.toNat 0 28)))).rillCheck j n = 0) && decide (s.released = true)) &&
   (let s : State := (State.reset).up; let j : Nat := 1; let n : Nat := 1; let d : Word := 0; decide (s.rillOpen j n = true) && decide ((s.setReg .PLM_RILL_CFG j n (BitVec.ofNat 64 (2 * otherFields (bits d.toNat 0 28)))).rillCheck j n ≠ 0) && decide (s.released = true)) &&
   (let s : State := ((State.reset).setFld F.PLM_RILL_CFG_EN 1 1 1).up; let j : Nat := 1; let n : Nat := 1; decide (s.flag F.PLM_RILL_CFG_EN j n = true) && decide (s.released = true)) &&
   (let s : State := (State.reset).up; let j : Nat := 1; let n : Nat := 1; decide (s.rillOpen j n = true) && decide (s.released = true)) &&
   (let s : State := (State.reset).up; let which : Nat := 2; let j : Nat := 1; let n : Nat := 1; decide (2 ≤ which) && decide (s.rillOpen j n = true) && decide (s.released = true)) &&
   (let s : State := ((State.reset).setFld F.PLM_RILL_CFG_EN 1 1 1).up; let which : Nat := 2; let j : Nat := 1; let n : Nat := 1; decide (1 ≤ which) && decide (s.rillOpen j n = false) && decide (s.released = true))) = true ∧
  ((let s : State := (State.reset).up; let m : Nat := 1; decide (s.modeInUse m = false) && decide (s.released = true))) = true :=
  ⟨by decide +kernel, by decide +kernel⟩

/-- The hypotheses of `Obligations.ReceptionCommands` are met: each clause at a state and operands. -/
theorem test_hyps_ReceptionCommands :
  ((let s : State := (((State.reset).setFld F.PLM_RILL_STAT_STATE 1 1 63).setFld F.PLM_CHAIN_CTL_TARGET 2 1).setFld F.PLM_RILL_CFG_SNIFF_CNT 1 1 63; let j : Nat := 1; let n : Nat := 63; let p : Nat := 0; let k : Nat := 32; let snrA : Int := 0; let snrB : Int := 0; decide (s.rillState j n = 1) && decide (s.chainAsked j = 2) && decide ((s.rill j n).aerMode = 0) && decide (p < s.fld F.PLM_RILL_CFG_SNIFF_CNT j n) && decide ((s.fld F.PLM_PHY_MODE_TYPE ((s.sniffList j n).getD p 0) = 3 ∨ max 4 (s.fld F.PLM_PHY_MODE_PRE_SYMS ((s.sniffList j n).getD p 0)) ≤ k)) && decide (8 * ((s.fld F.PLM_RILL_CFG_DET_THR j n : Int) - 6) < max snrA snrB)) &&
   (let s : State := State.reset; let j : Nat := 1; let n : Nat := 1; let p : Nat := 1; let k : Nat := 1; decide (s.fld F.PLM_PHY_MODE_TYPE ((s.sniffList j n).getD p 0) ≠ 3) && decide (k < max 4 (s.fld F.PLM_PHY_MODE_PRE_SYMS ((s.sniffList j n).getD p 0)))) &&
   (let s : State := (((((State.reset).setFld F.PLM_PHY_MODE_TYPE 1 0).setFld F.PLM_PHY_MODE_RATE 2 0).setFld F.PLM_RILL_STAT_STATE 2 1 2).setFld F.PLM_RILL_CFG_AER_HYST 1 1 2).setRill 1 2 { claim := some ⟨5, true, true, false, none, none⟩ }; let j : Nat := 1; let n : Nat := 2; let k : Nat := 4; let mA : Int := 3; let mB : Int := 0; let c : Claim := ⟨5, true, true, false, none, none⟩; decide ((s.rill j n).claim = some c) && decide (s.rillState j n = 2) && decide (c.fixed = false) && decide (4 ≤ k) && decide (k < 16) && decide (s.clp.now ≤ s.symbolsAfter j n c k) && decide (c.heardA = true) && decide (mB + (s.fld F.PLM_RILL_CFG_AER_HYST j n : Int) ≤ mA) && decide (mB < mA)) &&
   (let s : State := ((State.reset).setFld F.PLM_RILL_STAT_STATE 2 1 2).setRill 1 2 { claim := some ⟨5, true, true, false, none, none⟩ }; let j : Nat := 1; let n : Nat := 2; let c : Claim := ⟨5, true, true, false, none, none⟩; decide ((s.rill j n).claim = some c) && decide (s.rillState j n = 2) && decide (c.fixed = false)) &&
   (let s : State := ((State.reset).setFld F.PLM_RILL_STAT_STATE 2 1 2).setRill 1 2 { claim := some ⟨5, true, true, false, none, none⟩ }; let j : Nat := 1; let n : Nat := 2; let c : Claim := ⟨5, true, true, false, none, none⟩; decide ((s.rill j n).claim = some c) && decide (s.rillState j n = 2) && decide (c.sfd = none)) &&
   (let s : State := ((((State.reset).setFld F.PLM_PHY_MODE_TYPE 1 0).setFld F.PLM_PHY_MODE_RATE 2 0).setFld F.PLM_RILL_STAT_STATE 2 1 2).setRill 1 2 { claim := some ⟨5, true, true, false, none, none⟩ }; let dt : Nat := 1; let j : Nat := 1; let n : Nat := 2; let c : Claim := ⟨5, true, true, false, none, none⟩; decide ((s.rill j n).claim = some c) && decide (s.rillState j n = 2) && decide (c.sfd = none) && decide (s.clp.now + dt ≤ s.sfdEnd j n c))) = true ∧
  ((let s : State := (((State.reset).setFld F.PLM_RILL_STAT_STATE 2 1 2).setFld F.PLM_RILL_LIM_MAX_PSDU 2047 1 2).setRill 1 2 { claim := some ⟨5, true, true, true, some {}, none⟩ }; let j : Nat := 1; let n : Nat := 2; let len : Nat := 2047; let mcs : Nat := 1; let c : Claim := ⟨5, true, true, true, some {}, none⟩; let i : SfdInfo := {}; decide ((s.rill j n).claim = some c) && decide (c.sfd = some i) && decide (s.rillState j n = 2) && decide (len ≠ 0) && decide (len ≤ s.fld F.PLM_RILL_LIM_MAX_PSDU j n) && decide ((s.claimOfdm j n = true → ofdmMcsOk (s.fld F.PLM_PHY_MODE_RATE (s.claimMode j n)) mcs = true)) && decide (cellsFor len ≤ s.freeCells)) &&
   (let s : State := (((State.reset).setFld F.PLM_RILL_STAT_STATE 3 1 2).setRill 1 2 { claim := some ⟨5, true, true, true, some {}, some 4⟩ }).setRx 4 { chain := 1, rill := 2, aer := 0, modeIdx := 0, phy := 0, len := 1, fcsLen := 2, cells := [7] }; let j : Nat := 1; let n : Nat := 2; let id : Nat := 4; let f : RxFrame := { chain := 1, rill := 2, aer := 0, modeIdx := 0, phy := 0, len := 1, fcsLen := 2, cells := [7] }; decide (s.rillFrame j n = some (id, f)) && decide (s.rillState j n = 3) && decide (f.bytes.length < f.len)) &&
   (let s : State := (((State.reset).setFld F.PLM_RILL_STAT_STATE 1 1 2).setRill 1 2 { cut := some (0, 4, false) }).setRx 4 { chain := 1, rill := 2, aer := 0, modeIdx := 0, phy := 0, len := 2, fcsLen := 2, cells := [7], bytes := [3], closed := some .blanked }; let j : Nat := 1; let n : Nat := 2; let id : Nat := 4; let moved : Bool := false; let f : RxFrame := { chain := 1, rill := 2, aer := 0, modeIdx := 0, phy := 0, len := 2, fcsLen := 2, cells := [7], bytes := [3], closed := some .blanked }; decide (s.rillFrame j n = none) && decide ((s.rill j n).cut = some (s.clp.now, id, moved)) && decide (s.rx id = some f) && decide (f.closed = some .blanked) && decide (f.bytes.length + 1 = f.len)) &&
   (let s : State := (((State.reset).setFld F.PLM_RILL_STAT_STATE 3 1 2).setRill 1 2 { claim := some ⟨5, true, true, true, some {}, some 4⟩ }).setRx 4 { chain := 1, rill := 2, aer := 0, modeIdx := 0, phy := 0, len := 1, fcsLen := 2, cells := [7], bytes := [3] }; let j : Nat := 1; let n : Nat := 2; let id : Nat := 4; let f : RxFrame := { chain := 1, rill := 2, aer := 0, modeIdx := 0, phy := 0, len := 1, fcsLen := 2, cells := [7], bytes := [3] }; decide (s.rillFrame j n = some (id, f)) && decide (s.rillState j n = 3) && decide (f.bytes.length = f.len))) = true :=
  ⟨by decide +kernel, by decide +kernel⟩

/-- The hypotheses of `Obligations.SynthesiserAndCarriers` are met: each clause at a state and operands. -/
theorem test_hyps_SynthesiserAndCarriers :
  ((let s : State := (((State.reset).setFld F.TXF_CHAIN_STAT_TX_STATE 2 1).setTx 1 { frames := [{ id := 0, desc := {}, origin := .takeover, launch := none, arrived := 0, stage := .radiating }] }).up; let j : Nat := 1; decide (s.txState j ≠ 0) && decide (s.radiating j = true) && decide (s.released = true)) &&
   (let s : State := (State.reset).up; let j : Nat := 1; decide (s.txState j = 0) && decide (s.released = true)) &&
   (let s : State := ((State.reset).setFld F.TXF_CHAIN_STAT_TX_STATE 2 1).up; let j : Nat := 1; decide (s.radiatesNow j = false) && decide (s.txState j ≠ 0) && decide (s.released = true)) &&
   (let s : State := ((State.reset).setTx 1 { frames := [{ id := 0, desc := {}, origin := .takeover, launch := none, arrived := 0, stage := .radiating }] }).up; let j : Nat := 1; decide (s.radiating j = true) && decide (s.released = true)) &&
   (let s : State := (State.reset).setTx 1 { lockAt := some 9 }; let j : Nat := 1; let at_ : Nat := 9; decide ((s.tx j).lockAt = some at_)) &&
   (let s : State := (State.reset).setTx 1 { failAt := some 9 }; let j : Nat := 1; let at_ : Nat := 9; decide ((s.tx j).failAt = some at_))) = true ∧
  ((let s : State := ((State.reset).setFld F.TXF_CHAIN_STAT_TX_STATE 2 1).setFld F.TXF_SYN_CTL_TEMP_CAL_EN 1 1; let dt : Nat := 1; let j : Nat := 1; let temp : Int := 10; let u := (s.advance dt).sense temp; decide (u.txState j = 2) && decide (u.flag F.TXF_SYN_CTL_TEMP_CAL_EN j = true) && decide (10 ≤ |temp - u.sfld F.TXF_CHAIN_STAT_CAL_TEMP j|) && decide (u.flag F.TXF_CHAIN_STAT_CAL_DUE j = false)) &&
   (let s : State := ((State.reset).setFld F.TXF_CHAIN_STAT_TX_STATE 2 1).setFld F.TXF_CHAIN_STAT_CAL_DUE 1 1; let dt : Nat := 1; let j : Nat := 1; let u := (s.advance dt).endCycle; decide (u.txState j = 2) && decide (u.flag F.TXF_CHAIN_STAT_CAL_DUE j = true) && decide (u.calFree j = true)) &&
   (let s : State := (State.reset).setTx 1 { deferAt := some 9 }; let j : Nat := 1; let at_ : Nat := 9; decide ((s.tx j).deferAt = some at_) && decide ((s.tx j).starved = false)) &&
   (let s : State := ((State.reset).setFld F.TXF_CHAIN_CTL_TX_HOLD 1 1).setTx 1 { centre := 7200000 }; let j : Nat := 1; decide (s.txState j = 0) && decide (s.flag F.TXF_CHAIN_CTL_TX_HOLD j = true) && decide (centreOk ((s.tx j).heldWin.getD (s.tx j).centre) = true)) &&
   (let s : State := ((State.reset).setFld F.TXF_CHAIN_STAT_TX_STATE 2 1).setTx 1 { idleAt := some 4 }; let j : Nat := 1; let at_ : Nat := 4; let u := s.advanceTo (at_ + s.fld F.TXF_CHAIN_CTL_IDLE_OFF j * 10000); decide ((s.tx j).idleAt = some at_) && decide (s.txState j ≠ 0) && decide (s.txIdle j = true) && decide (u.txIdle j = true))) = true ∧
  ((let s : State := (((State.reset).setTx 1 { centre := 900000 }).setFld F.PLM_PHY_MODE_TYPE 4 0).up; let j : Nat := 1; let k : Nat := 63; let d : Word := 0; decide (s.carOpen j k = true) && let u := s.setReg .TXF_CAR_CFG j k (BitVec.ofNat 64 (2 * otherFields (d &&& 0x00FF0F3F).toNat)); decide (u.carCheck j k = 0) && decide (s.released = true)) &&
   (let s : State := (State.reset).up; let j : Nat := 1; let k : Nat := 63; let d : Word := 0x300; decide (s.carOpen j k = true) && let u := s.setReg .TXF_CAR_CFG j k (BitVec.ofNat 64 (2 * otherFields (d &&& 0x00FF0F3F).toNat)); decide (u.carCheck j k ≠ 0) && decide (s.released = true)) &&
   (let s : State := (State.reset).up; let j : Nat := 1; let k : Nat := 1; decide (s.carOpen j k = true) && decide (s.released = true)) &&
   (let s : State := ((State.reset).setFld F.TXF_CAR_CFG_EN 1 1 1).up; let j : Nat := 1; let k : Nat := 1; decide (s.carOpen j k = false) && decide (s.released = true))) = true :=
  ⟨by decide +kernel, by decide +kernel, by decide +kernel⟩

/-- The hypotheses of `Obligations.CharterStageCommands` are met: each clause at a state and operands. -/
theorem test_hyps_CharterStageCommands :
  ((let s : State := ((State.reset).chtWith (fun x => { x with inbox := [{ origin := .takeover, desc := {} }] })).setTx 1 { frames := List.replicate 256 { id := 0, desc := {}, origin := .takeover, launch := none, arrived := 0 } }; let dt : Nat := 1; let src : Option Nat := none; let u := s.advance dt; decide (u.hasDesc src = true) && decide (u.pwr.phase ≠ .failing) && decide (u.launchFull = true)) &&
   (let s : State := (State.reset).chtWith (fun x => { x with inbox := [{ origin := .takeover, desc := {} }] }); let dt : Nat := 1; let src : Option Nat := none; let u := s.advance dt; decide (u.hasDesc src = true) && decide (u.pwr.phase ≠ .failing) && decide (u.launchFull = false)) &&
   (let s : State := (State.reset).chtWith (fun x => { x with stalled := true, inbox := [{ origin := .takeover, desc := {} }] }); let src : Option Nat := none; decide (s.cht.stalled = true) && decide (s.hasDesc src = true) && decide (s.launchFull = false) && decide (s.pwr.phase ≠ .failing)) &&
   (let s : State := (((State.reset).setFld F.TXF_COEX_CTL_EN 1 1).setFld F.TXF_COEX_CTL_GROUP 3 1).setTx 1 { frames := [{ id := 5, desc := {}, origin := .takeover, launch := none, arrived := 0 }] }; let j : Nat := 1; let id : Nat := 5; let g : Nat := 3; let f : TxFrame := { id := 5, desc := {}, origin := .takeover, launch := none, arrived := 0 }; decide (s.txFrame j id = some f) && decide (s.coexGroup j = some g) && decide (f.stage = .held) && decide (f.req = none) && decide (f.desc.prio = false) && decide (s.samplePoint j g f = none)) &&
   (let s : State := (((((State.reset).setFld F.TXF_COEX_CTL_EN 1 1).setFld F.TXF_COEX_CTL_GROUP 3 1).setFld F.TXF_CHAIN_STAT_LOCK 1 1).setFld F.TXF_COEX_GRP_GNT_SAMPLE 66 3).setTx 1 { frames := [{ id := 5, desc := {}, origin := .runnel 1, launch := none, arrived := 0 }] }; let j : Nat := 1; let id : Nat := 5; let g : Nat := 3; let f : TxFrame := { id := 5, desc := {}, origin := .runnel 1, launch := none, arrived := 0 }; let pin : PinLevel := ⟨true, 40, false⟩; decide (s.txFrame j id = some f) && decide (s.coexGroup j = some g) && decide (f.launch = none) && decide (s.heldReady f = true) && decide (s.locked j = true) && decide (s.carTaken j f = false) && decide (s.heldFrames j = [f]) && decide (((if 33 ≤ pin.since then pin.level else pin.before) != s.flag F.TXF_COEX_GRP_GNT_POL g) = true) && decide (s.sampleShort j g = false)) &&
   (let s : State := ((State.reset).setFld F.TXF_COEX_STAT_GNT 2).setFld F.TXF_COEX_GRP_GNT_HOLD 0 1; let pin : Change := ⟨1, false, 40⟩; let g : Nat := 1; decide (pin.on = s.flag F.TXF_COEX_GRP_GNT_POL (g % 4)) && decide (s.grantActive (g % 4) = true) && decide (37 ≤ pin.held) && decide (s.fld F.TXF_COEX_GRP_GNT_HOLD (g % 4) = 0))) = true ∧
  ((let s : State := ((State.reset).setFld F.TXF_COEX_STAT_GNT 2).setFld F.TXF_COEX_GRP_GNT_HOLD 5 1; let pin : Change := ⟨1, false, 37⟩; let g : Nat := 1; decide (pin.on = s.flag F.TXF_COEX_GRP_GNT_POL (g % 4)) && decide (s.grantActive (g % 4) = true) && decide (37 ≤ pin.held) && decide (s.fld F.TXF_COEX_GRP_GNT_HOLD (g % 4) ≠ 0)) &&
   (let s : State := (State.reset).txfWith (fun x => { x with gntFrom := [(1, 0)] }); let pin : Change := ⟨1, false, 40⟩; let g : Nat := 1; let at_ : Nat := 0; decide (pin.on = s.flag F.TXF_COEX_GRP_GNT_POL (g % 4)) && decide (s.grantActive (g % 4) = false) && decide (SMap.find? s.txf.gntFrom (g % 4) = some at_)) &&
   (let s : State := State.reset; let pin : Change := ⟨1, true, 28⟩; let g : Nat := 1; decide ((pin.on != s.flag F.TXF_COEX_GRP_GNT_POL (g % 4)) ≠ s.grantActive (g % 4)) && decide (pin.held ≤ 28))) = true ∧
  (let s : State := ((State.reset).setFld F.TXF_COEX_STAT_GNT 2).setFld F.TXF_COEX_GRP_GNT_HOLD 0 1; let pin : Change := ⟨1, false, 40⟩; let g : Nat := 1; (∀ j f, s.coexGroup j = some (g % 4) → f ∈ (s.tx j).frames → f.stage = .held)) ∧
  (let s : State := (State.reset).txfWith (fun x => { x with gntFrom := [(1, 0)] }); let pin : Change := ⟨1, false, 40⟩; let g : Nat := 1; let at_ : Nat := 0; (∀ j f, s.coexGroup j = some (g % 4) → f ∈ (s.tx j).frames → f.stage = .held)) ∧
  ((let s : State := (((((State.reset).setFld F.TXF_COEX_CTL_EN 1 15).setFld F.TXF_COEX_CTL_GROUP 1 15).setFld F.TXF_CHAIN_STAT_LOCK 1 15).setFld F.TXF_COEX_GRP_GNT_SAMPLE 200 1).setTx 15 { frames := [{ id := 5, desc := {}, origin := .runnel 3, launch := none, arrived := 0 }] }; let j : Nat := 15; let id : Nat := 5; let g : Nat := 1; let n : Nat := 3; let f : TxFrame := { id := 5, desc := {}, origin := .runnel 3, launch := none, arrived := 0 }; let pin : PinLevel := ⟨false, 40, true⟩; decide (s.txFrame j id = some f) && decide (s.coexGroup j = some g) && decide (f.launch = none) && decide (s.heldReady f = true) && decide (s.locked j = true) && decide (s.carTaken j f = false) && decide (s.heldFrames j = [f]) && decide (((if 33 ≤ pin.since then pin.level else pin.before) != s.flag F.TXF_COEX_GRP_GNT_POL g) = false) && decide (s.sampleShort j g = false) && decide (f.origin = .runnel n) && decide (f.charged = []) && decide (f.req = none))) = true :=
  ⟨by decide +kernel, by decide +kernel, (by dsimp only; intro j f _ hf; exact absurd hf List.not_mem_nil), (by dsimp only; intro j f _ hf; exact absurd hf List.not_mem_nil), by decide +kernel⟩

/-- The hypotheses of `Obligations.LaunchCommands` are met: each clause at a state and operands. -/
theorem test_hyps_LaunchCommands :
  ((let s : State := ((State.reset).setFld F.TXF_CAR_CFG_EN 1 1 0).setTx 1 { centre := 900000, frames := [{ id := 5, desc := {}, origin := .takeover, launch := none, arrived := 0 }, { id := 6, desc := {}, origin := .takeover, launch := none, arrived := 0, stage := .radiating }] }; let j : Nat := 1; let id : Nat := 5; let f : TxFrame := { id := 5, desc := {}, origin := .takeover, launch := none, arrived := 0 }; decide (s.txFrame j id = some f) && decide (s.heldReady f = true) && decide (s.pwr.phase ≠ .failing) && decide (f.launch = none) && decide (s.flag F.TXF_CAR_CFG_EN j f.desc.carrier = true) && decide (centreOk (s.tx j).centre = true) && decide (s.carTaken j f = true) && decide (f.waited = false)) &&
   (let s : State := ((((((State.reset).setFld F.TXF_CAR_CFG_EN 1 1 0).setFld F.TXF_CAR_CFG_LEVEL 0x380 1 0).setFld F.TXF_CHAIN_STAT_LOCK 1 1).setFld F.CHT_STAT_LOADED 1).setFld F.CHT_ENT_CFG_PROGRAMMED 1 0).setTx 1 { centre := 900000, frames := [{ id := 5, desc := {}, origin := .takeover, launch := none, arrived := 0 }] }; let j : Nat := 1; let id : Nat := 5; let f : TxFrame := { id := 5, desc := {}, origin := .takeover, launch := none, arrived := 0 }; decide (s.txFrame j id = some f) && decide (s.heldReady f = true) && decide (s.pwr.phase ≠ .failing) && decide (f.launch = none) && decide (s.flag F.TXF_CAR_CFG_EN j f.desc.carrier = true) && decide (centreOk (s.tx j).centre = true) && decide (s.carTaken j f = false) && decide (s.carBefore j f = false) && decide (s.locked j = true) && decide (s.grantOk j f false = true) && decide (s.fresh.2.charterVerdict j f.desc.carrier (s.frameMode j f.desc.carrier f.modeSet).1 (s.fresh.1.testBit 0) = none)) &&
   (let s : State := ((State.reset).clpWith (fun x => { x with ft := 2 ^ 40 * 100000 })).setTx 1 { centre := 900000, frames := [{ id := 5, desc := { mode := 1 }, origin := .takeover, launch := some 9, arrived := 0 }] }; let j : Nat := 1; let id : Nat := 5; let l : Nat := 9; let f : TxFrame := { id := 5, desc := { mode := 1 }, origin := .takeover, launch := some 9, arrived := 0 }; decide (s.txFrame j id = some f) && decide (s.latest j f = some l) && decide (f.stage = .held) && decide (l - (s.paLead j + 2) * 1000 < s.fullNs) && decide (s.flag F.TXF_CHAIN_STAT_SYN_FAULT j = false) && decide (centreOk (s.tx j).centre = true)) &&
   (let s : State := (State.reset).setTx 1 { txsw := true, frames := [{ id := 5, desc := {}, origin := .takeover, launch := none, arrived := 0, stage := .committed }] }; let j : Nat := 1; let id : Nat := 5; let f : TxFrame := { id := 5, desc := {}, origin := .takeover, launch := none, arrived := 0, stage := .committed }; decide (s.txFrame j id = some f) && decide (f.stage = .committed) && decide ((s.tx j).txsw = true)) &&
   (let s : State := (State.reset).setTx 1 { frames := [{ id := 5, desc := {}, origin := .takeover, launch := none, arrived := 0, stage := .committed }] }; let j : Nat := 1; let id : Nat := 5; let f : TxFrame := { id := 5, desc := {}, origin := .takeover, launch := none, arrived := 0, stage := .committed }; decide (s.txFrame j id = some f) && decide (f.stage = .committed) && decide ((s.tx j).txsw = false)) &&
   (let s : State := ((State.reset).setFld F.TXF_CHAIN_STAT_LOCK 1 1).setTx 1 { frames := [{ id := 5, desc := {}, origin := .takeover, launch := none, arrived := 0, stage := .switched }] }; let j : Nat := 1; let id : Nat := 5; let f : TxFrame := { id := 5, desc := {}, origin := .takeover, launch := none, arrived := 0, stage := .switched }; decide (s.txFrame j id = some f) && decide (f.stage = .switched) && decide (s.locked j = true))) = true ∧
  ((let s : State := (State.reset).setTx 1 { frames := [{ id := 5, desc := { len := 9 }, origin := .takeover, launch := none, arrived := 0, stage := .powered }] }; let j : Nat := 1; let id : Nat := 5; let f : TxFrame := { id := 5, desc := { len := 9 }, origin := .takeover, launch := none, arrived := 0, stage := .powered }; decide (s.txFrame j id = some f) && decide (f.stage = .powered) && decide (s.memReady 0 = false)) &&
   (let s : State := (((State.reset).runWith (fun x => { x with links := [(0, ⟨0, true, false⟩)] })).setTx 1 { frames := [{ id := 5, desc := { len := 9 }, origin := .takeover, launch := none, arrived := 0, stage := .powered }] }).up; let j : Nat := 1; let id : Nat := 5; let f : TxFrame := { id := 5, desc := { len := 9 }, origin := .takeover, launch := none, arrived := 0, stage := .powered }; decide (s.txFrame j id = some f) && decide (f.stage = .powered) && let u := s.advanceTo (s.rfAt f); let cells := [0]; decide (s.memReady 0 = true) && decide (u.chainFor f.desc.cell f.desc.len = some cells) && decide ((u.readFrame cells f.desc).2.1 = false)) &&
   (let s : State := ((((State.reset).runWith (fun x => { x with links := [(0, ⟨0, true, false⟩)] })).eccWith 0 1 ⟨3, true⟩).setTx 1 { frames := [{ id := 5, desc := { len := 9 }, origin := .takeover, launch := none, arrived := 0, stage := .powered }] }).up; let j : Nat := 1; let id : Nat := 5; let f : TxFrame := { id := 5, desc := { len := 9 }, origin := .takeover, launch := none, arrived := 0, stage := .powered }; decide (s.txFrame j id = some f) && decide (f.stage = .powered) && let u := s.advanceTo (s.rfAt f); let cells := [0]; decide (s.memReady 0 = true) && decide (u.chainFor f.desc.cell f.desc.len = some cells) && decide ((u.readFrame cells f.desc).2.1 = true)) &&
   (let s : State := ((State.reset).setTx 1 { frames := [{ id := 5, desc := { len := 9 }, origin := .takeover, launch := none, arrived := 0, stage := .powered }] }).up; let j : Nat := 1; let id : Nat := 5; let f : TxFrame := { id := 5, desc := { len := 9 }, origin := .takeover, launch := none, arrived := 0, stage := .powered }; decide (s.txFrame j id = some f) && decide (f.stage = .powered) && let u := s.advanceTo (s.rfAt f); decide (s.memReady 0 = true) && decide (u.chainFor f.desc.cell f.desc.len = none)) &&
   (let s : State := (State.reset).setTx 1 { frames := [{ id := 5, desc := {}, origin := .takeover, launch := none, arrived := 0, stage := .radiating, badAt := some 8 }] }; let j : Nat := 1; let id : Nat := 5; let f : TxFrame := { id := 5, desc := {}, origin := .takeover, launch := none, arrived := 0, stage := .radiating, badAt := some 8 }; decide (s.txFrame j id = some f) && decide (f.stage = .radiating) && decide (f.badAt ≠ none)) &&
   (let s : State := (State.reset).setTx 1 { frames := [{ id := 5, desc := {}, origin := .takeover, launch := none, arrived := 0, stage := .radiating, fate := some .txGrantLost }] }; let j : Nat := 1; let id : Nat := 5; let f : TxFrame := { id := 5, desc := {}, origin := .takeover, launch := none, arrived := 0, stage := .radiating, fate := some .txGrantLost }; let st := .txGrantLost; decide (s.txFrame j id = some f) && decide (f.stage = .radiating) && decide (f.badAt = none) && decide (f.fate = some st))) = true ∧
  ((let s : State := (State.reset).setTx 1 { frames := [{ id := 5, desc := {}, origin := .takeover, launch := none, arrived := 0, stage := .radiating }] }; let j : Nat := 1; let id : Nat := 5; let f : TxFrame := { id := 5, desc := {}, origin := .takeover, launch := none, arrived := 0, stage := .radiating }; decide (s.txFrame j id = some f) && decide (f.stage = .radiating) && decide (f.badAt = none) && decide (f.fate = none) && decide (f.desc.ackReq = false))) = true ∧
  (let s : State := ((State.reset).clpWith (fun x => { x with ft := 2 ^ 40 * 100000 })).setTx 1 { centre := 900000, frames := [{ id := 5, desc := { mode := 1 }, origin := .takeover, launch := some 9, arrived := 0 }] }; let j : Nat := 1; let id : Nat := 5; let l : Nat := 9; let f : TxFrame := { id := 5, desc := { mode := 1 }, origin := .takeover, launch := some 9, arrived := 0 }; (∀ n t, f.origin ≠ .spec n t)) ∧
  ((let f : TxFrame := { id := 5, desc := {}, origin := .runnel 1, launch := none, arrived := 0, stage := .radiating }; let n : Nat := 1; decide (f.origin = .runnel n) && decide (f.req = none) && decide (f.charged = []))) = true :=
  ⟨by decide +kernel, by decide +kernel, by decide +kernel, (by intros; intro h; cases h), by decide +kernel⟩

/-- The hypotheses of `Obligations.PinCommands` are met: each clause at a state and operands. -/
theorem test_hyps_PinCommands :
  ((let s : State := (State.reset).setTx 1 { pa := true, paOff := 5 }; let j : Nat := 1; decide ((s.tx j).pa = true) && decide ((s.tx j).frames = [])) &&
   (let s : State := (State.reset).setTx 1 { txsw := true, swOff := 5, blanks := [⟨1, 2, none⟩] }; let j : Nat := 1; decide ((s.tx j).txsw = true) && decide ((s.tx j).pa = false) && decide ((s.tx j).frames = [])) &&
   (let s : State := (State.reset).setTx 1 { lnaFree := false }; let j : Nat := 1; decide ((s.tx j).lnaFree = false) && decide ((s.tx j).txsw = false) && decide ((s.tx j).frames = [])) &&
   (let s : State := (State.reset).setTx 1 { blanks := [⟨1, 2, some 7⟩] }; let j : Nat := 1; let at_ : Nat := 7; let b : BlankInt := ⟨1, 2, some 7⟩; decide (b ∈ (s.tx j).blanks) && decide (b.endAt = some at_) && decide ((∀ c ∈ (s.tx j).blanks, ∀ e, c.endAt = some e → at_ ≤ e))) &&
   (let s : State := (State.reset).setFld F.TXF_CHAIN_STAT_LOCK 1 1; let j : Nat := 1; decide (s.locked j = true) && decide ((s.tx j).frames = [])) &&
   (let s : State := (State.reset).setTx 1 { polDue := true }; let j : Nat := 1; decide ((s.tx j).polDue = true) && decide (s.femIdle j = true))) = true ∧
  ((let s : State := (State.reset).setTx 1 { pol := some (true, true, true) }; let j : Nat := 1; let p : Bool := true; let w : Bool := true; let l : Bool := true; decide ((s.tx j).pol = some (p, w, l)) && decide (s.txState j = 0))) = true :=
  ⟨by decide +kernel, by decide +kernel⟩

/-- The hypotheses of `Obligations.CharterFuseCommands` are met: each clause at a state and operands. -/
theorem test_hyps_CharterFuseCommands :
  ((let s : State := ((State.reset).setFld F.CHT_FPROG_ADDR_BIT 3135).up; let b := s.fld F.CHT_FPROG_ADDR_BIT; decide (s.flag F.CHT_STAT_FPROG_BUSY = false) && decide (fuseReserved b = false) && decide (s.fuse b = false) && decide ((s.fuse 0 = true → 64 ≤ b → (b - 64) % 192 ≠ 0)) && decide (s.released = true)) &&
   (let s : State := ((State.reset).setFld F.CHT_FPROG_ADDR_BIT 3136).up; let b := s.fld F.CHT_FPROG_ADDR_BIT; decide (s.flag F.CHT_STAT_FPROG_BUSY = false) && decide ((fuseReserved b = true ∨ s.fuse b = true ∨ (s.fuse 0 = true ∧ 64 ≤ b ∧ (b - 64) % 192 = 0))) && decide (s.released = true)) &&
   (let s : State := (State.reset).up; let req : Nat := 128; decide (req ≠ 129) && decide (s.released = true)) &&
   (let s : State := (State.reset).chtWith (fun x => { x with blow := some (64, 5) }); let b : Nat := 64; let at_ : Nat := 5; decide (s.cht.blow = some (b, at_))) &&
   (let s : State := (State.reset).chtWith (fun x => { x with digest := some 5 }); let at_ : Nat := 5; let w : Nat := 7; decide (s.cht.digest = some at_) && decide (w < 8)) &&
   (let s : State := (State.reset).pwrWith (fun x => { x with phase := .run }); decide (s.pwr.phase = .run) && decide (s.flag F.CHT_STAT_LOADED = false))) = true ∧
  ((let e : Nat := 15; decide (e < 16))) = true :=
  ⟨by decide +kernel, by decide +kernel⟩

/-- The hypotheses of `Obligations.MacCommands` are met: each clause at a state and operands. -/
theorem test_hyps_MacCommands :
  ((let s : State := ((((((((State.reset).setFld F.MAC_SLOT_SLOT_LEN_US 10000).setFld F.MAC_TMPL_1_ACK_DELAY 100).setFld F.MAC_TMPL_0_RX_GUARD 0).setFld F.MAC_TMPL_0_TX_OFFSET 0).setFld F.MAC_TMPL_2_ACK_WAIT 200).setFld F.MAC_TMPL_1_MAX_AIR 9000).setFld F.MAC_TMPL_2_ACK_MAX_AIR 900).up; let d : Word := 0; let u := s.setReg .MAC_CTL 0 0 (d &&& 0x7E); decide (s.flag F.MAC_CTL_EN = false) && decide (u.profileOk = true) && decide (s.released = true)) &&
   (let s : State := ((State.reset).setFld F.MAC_SLOT_SLOT_LEN_US 9999).up; let d : Word := 0; let u := s.setReg .MAC_CTL 0 0 (d &&& 0x7E); decide (s.flag F.MAC_CTL_EN = false) && decide (u.profileOk = false) && decide (s.released = true)) &&
   (let s : State := (((State.reset).macWith (fun x => { x with nextAsn := some 3 })).setFld F.MAC_STAT_RUNNING 1).up; let a : Nat := 3; decide (s.mac.nextAsn = some a) && decide (s.flag F.MAC_STAT_RUNNING = true) && decide (s.memsReady [5, 6] = true)) &&
   (let s : State := (State.reset).macWith (fun x => { x with resolved := some (3, 1) }); let a : Nat := 3; let listen : Nat := 1; decide (s.mac.resolved = some (a, listen))) &&
   (let s : State := (((State.reset).twnWith (fun x => { x with handing := some 3 })).setFld F.TWN_STAT_ROLE 2).setFld F.CLP_STAT_ASN_VALID 1; let h : Nat := 3; decide (s.mac.resolved = none) && decide (s.twn.handing = some h) && decide (s.fld F.TWN_STAT_ROLE = 2) && decide (s.asnValid = true)) &&
   (let s : State := ((((State.reset).macWith (fun x => { x with work := some (3, 1) })).setFld F.MAC_PAUSE_ARM 1).setFld F.MAC_PAUSE_START_ASN 2).setFld F.MAC_PAUSE_SLOTS 2; let a : Nat := 3; let listen : Nat := 1; decide (s.mac.work = some (a, listen)) && decide (s.twn.expected = []) && decide (s.inPause a = true) && decide (s.inPause ((a + 1) % 2 ^ 40) = false))) = true ∧
  ((let s : State := (State.reset).setTx 1 { frames := [{ id := 5, desc := {}, origin := .takeover, launch := none, arrived := 0, stage := .awaitAck }] }; let j : Nat := 1; let id : Nat := 5; let f : TxFrame := { id := 5, desc := {}, origin := .takeover, launch := none, arrived := 0, stage := .awaitAck }; decide (s.txFrame j id = some f) && decide (f.stage = .awaitAck))) = true :=
  ⟨by decide +kernel, by decide +kernel⟩

/-- The hypotheses of `Obligations.SpillwayCommands` are met: each clause at a state and operands. -/
theorem test_hyps_SpillwayCommands :
  ((let s : State := (((State.reset).setFld F.SPW_GEOM_BLOCKS 1 3).setFld F.SPW_GEOM_MAN_LEN 256 3).up; let k : Nat := 3; decide (k < 4) && decide (s.spwBusy = false) && decide (s.spwState k < 2) && decide (s.spwCheck k = 0) && decide (s.released = true)) &&
   (let s : State := (State.reset).up; let k : Nat := 3; decide (k < 4) && decide (s.spwBusy = false) && decide (s.spwState k < 2) && decide (s.spwCheck k ≠ 0) && decide (s.released = true)) &&
   (let s : State := (((State.reset).setFld F.SPW_STAT_STATE 1 3).setFld F.SPW_GEOM_BLOCKS 1 3).up; let k : Nat := 3; decide (k < 4) && decide (s.spwBusy = false) && decide (s.spwState k = 1) && decide (s.fld F.SPW_GEOM_BLOCKS k ≠ 0) && decide (s.released = true)) &&
   (let s : State := (((State.reset).setFld F.SPW_STAT_STATE 1 3).setSpw 3 { missing := [4] }).up; let k : Nat := 3; decide (k < 4) && decide (s.spwBusy = false) && decide (s.spwState k = 1) && decide ((s.spwS k).missing ≠ []) && decide (s.released = true)) &&
   (let s : State := ((State.reset).setFld F.SPW_STAT_STATE 1 3).up; let k : Nat := 3; let base : Nat := 65535; decide (k < 4) && decide (base < 65536) && decide (s.spwBusy = false) && decide (s.spwState k ≠ 0) && decide (s.released = true)) &&
   (let s : State := (((State.reset).setFld F.SPW_STAT_STATE 1 3).setSpw 3 { missing := [4] }).up; let k : Nat := 3; decide (k < 4) && decide (s.spwBusy = false) && decide (s.spwState k ≠ 0) && decide (s.released = true))) = true ∧
  ((let s : State := ((State.reset).setFld F.SPW_STAT_STATE 2 3).up; let k : Nat := 3; decide (k < 4) && decide (s.spwBusy = false) && decide (s.spwState k = 2) && decide (s.released = true)) &&
   (let s : State := ((State.reset).setFld F.SPW_STAT_STATE 3 3).up; let k : Nat := 3; decide (k < 4) && decide (s.spwBusy = false) && decide (s.spwState k = 3) && decide (s.released = true)) &&
   (let s : State := ((State.reset).setFld F.SPW_STAT_STATE 2 3).up; let k : Nat := 3; decide (k < 4) && decide (s.spwBusy = false) && decide (s.released = true)) &&
   (let s : State := ((State.reset).setFld F.SPW_STAT_STATE 2 3).up; let k : Nat := 3; decide (k < 4) && decide (s.spwBusy = false) && decide (s.spwState k ≠ 1) && decide (s.released = true)) &&
   (let s : State := ((State.reset).spwWith (fun x => { x with busyTill := 5 })).up; decide (s.spwBusy = true) && decide (s.released = true)) &&
   (let s : State := ((((((State.reset).setFld F.SPW_TX_CHAINS 1 1).setFld F.SPW_CAR_CARRIERS 1 1).setFld F.MAC_SLOT_SLOT_LEN_US 10000).setFld F.MAC_TMPL_0_TX_OFFSET 2000).flsWith (fun x => { x with busy := some { src := 2, session := 1, asn := 3, kind := .read, addr := 0 } })).setSpw 1 { slots := [⟨3, [7], 1, some 2, false⟩] }; let dt : Nat := 1; let k : Nat := 1; let b : Nat := 2; let x : SpwSlot := ⟨3, [7], 1, some 2, false⟩; let w : FlsOp := { src := 2, session := 1, asn := 3, kind := .read, addr := 0 }; decide ((s.after dt).fls.busy = some w) && decide (w.src = 2) && decide (w.session = k) && decide ((s.spwS k).slots.find? (fun y => y.asn == w.asn) = some x) && decide (x.block = some b) && decide (x.stray = false) && decide ((s.after dt).fullNs + 100000 ≤ (s.after dt).slotStart x.asn + s.fld F.MAC_TMPL_0_TX_OFFSET * 1000) && decide ((∃ e ∈ s.spwOn k x.chains, s.beaconOn x.asn e.1 e.2 = false)))) = true ∧
  ((let s : State := (State.reset).setSpw 3 { slots := [⟨3, [7], 1, none, false⟩] }; let k : Nat := 3; let x : SpwSlot := ⟨3, [7], 1, none, false⟩; let xs : List SpwSlot := []; decide ((s.spwS k).slots = x :: xs))) = true :=
  ⟨by decide +kernel, by decide +kernel, by decide +kernel⟩

/-- The hypotheses of `Obligations.SluiceCommands` are met: each clause at a state and operands. -/
theorem test_hyps_SluiceCommands :
  ((let s : State := ((State.reset).setRx 4 { chain := 1, rill := 2, aer := 0, modeIdx := 0, phy := 0, len := 0, fcsLen := 2, cells := [7] }).up; let id : Nat := 4; let f : RxFrame := { chain := 1, rill := 2, aer := 0, modeIdx := 0, phy := 0, len := 0, fcsLen := 2, cells := [7] }; decide (s.rx id = some f) && decide (f.hold = none) && decide (s.headerReady f = true) && decide (s.memsReady (1 :: keyMems) = true)) &&
   (let s : State := ((State.reset).setRx 4 { chain := 1, rill := 2, aer := 0, modeIdx := 0, phy := 0, len := 0, fcsLen := 2, cells := [7], hold := some {} }).up; let id : Nat := 4; let f : RxFrame := { chain := 1, rill := 2, aer := 0, modeIdx := 0, phy := 0, len := 0, fcsLen := 2, cells := [7], hold := some {} }; let h : RxHold := {}; decide (s.rx id = some f) && decide (f.hold = some h) && decide (h.decision = none) && decide (s.spanReady f h = true) && decide (s.memReady 1 = true)) &&
   (let s : State := ((State.reset).setRx 4 { chain := 1, rill := 2, aer := 0, modeIdx := 0, phy := 0, len := 0, fcsLen := 2, cells := [7], closed := some .fcsFail, hold := some { decision := some { kind := .other } } }).up; let id : Nat := 4; let f : RxFrame := { chain := 1, rill := 2, aer := 0, modeIdx := 0, phy := 0, len := 0, fcsLen := 2, cells := [7], closed := some .fcsFail, hold := some { decision := some { kind := .other } } }; let h : RxHold := { decision := some { kind := .other } }; decide (s.rx id = some f) && decide (f.hold = some h) && decide (h.decision ≠ none) && decide (h.poisoned = false) && decide (s.memsReady [1, 5] = true) && decide (s.oldestOfRill id f = true) && decide (f.closed = some .fcsFail)) &&
   (let s : State := ((State.reset).setRx 4 { chain := 1, rill := 2, aer := 0, modeIdx := 0, phy := 0, len := 0, fcsLen := 2, cells := [7], closed := some .blanked, hold := some { decision := some { kind := .other } } }).up; let id : Nat := 4; let f : RxFrame := { chain := 1, rill := 2, aer := 0, modeIdx := 0, phy := 0, len := 0, fcsLen := 2, cells := [7], closed := some .blanked, hold := some { decision := some { kind := .other } } }; let h : RxHold := { decision := some { kind := .other } }; decide (s.rx id = some f) && decide (f.hold = some h) && decide (h.decision ≠ none) && decide (h.poisoned = false) && decide (s.memsReady [1, 5] = true) && decide (s.oldestOfRill id f = true) && decide (f.closed = some .blanked)) &&
   (let s : State := ((State.reset).setRx 4 { chain := 1, rill := 2, aer := 0, modeIdx := 0, phy := 0, len := 0, fcsLen := 2, cells := [7], closed := some .ok, hold := some { decision := some { kind := .other } } }).up; let id : Nat := 4; let f : RxFrame := { chain := 1, rill := 2, aer := 0, modeIdx := 0, phy := 0, len := 0, fcsLen := 2, cells := [7], closed := some .ok, hold := some { decision := some { kind := .other } } }; let h : RxHold := { decision := some { kind := .other } }; decide (s.rx id = some f) && decide (f.hold = some h) && decide (h.decision ≠ none) && decide (h.poisoned = false) && decide (s.memsReady [1, 5] = true) && decide (s.oldestOfRill id f = true) && decide (f.closed = some .ok) && decide (verdictDue f h = false)) &&
   (let s : State := (State.reset).setRx 4 { chain := 1, rill := 2, aer := 0, modeIdx := 0, phy := 0, len := 14, fcsLen := 2, cells := [7], bytes := [0x09, 0x21, 1, 0, 0, 0, 0, 9, 0, 0, 0, 0, 0, 0], closed := some .ok, hold := some { verify := .running none 0 0 true [] } }; let id : Nat := 4; let f : RxFrame := { chain := 1, rill := 2, aer := 0, modeIdx := 0, phy := 0, len := 14, fcsLen := 2, cells := [7], bytes := [0x09, 0x21, 1, 0, 0, 0, 0, 9, 0, 0, 0, 0, 0, 0], closed := some .ok, hold := some { verify := .running none 0 0 true [] } }; let h : RxHold := { verify := .running none 0 0 true [] }; decide (s.rx id = some f) && decide (f.hold = some h) && decide (f.closed = some .ok) && decide (verdictDue f h = true))) = true ∧
  ((let s : State := ((State.reset).setRx 3 { chain := 1, rill := 2, aer := 0, modeIdx := 0, phy := 0, len := 14, fcsLen := 2, cells := [7], closed := some .fcsFail, hold := some { decision := some { kind := .drop } } }).setRx 4 { chain := 1, rill := 2, aer := 0, modeIdx := 0, phy := 0, len := 14, fcsLen := 2, cells := [7], closed := some .fcsFail, hold := some { decision := some { kind := .drop } } }; let id : Nat := 4; let f : RxFrame := { chain := 1, rill := 2, aer := 0, modeIdx := 0, phy := 0, len := 14, fcsLen := 2, cells := [7], closed := some .fcsFail, hold := some { decision := some { kind := .drop } } }; let h : RxHold := { decision := some { kind := .drop } }; decide (s.rx id = some f) && decide (f.hold = some h) && decide (s.oldestOfRill id f = false)) &&
   (let s : State := ((State.reset).setRx 4 { chain := 1, rill := 2, aer := 0, modeIdx := 0, phy := 0, len := 14, fcsLen := 2, cells := [7], closed := some .fcsFail, hold := some { decision := some { kind := .drop }, poisoned := true } }).up; let id : Nat := 4; let f : RxFrame := { chain := 1, rill := 2, aer := 0, modeIdx := 0, phy := 0, len := 14, fcsLen := 2, cells := [7], closed := some .fcsFail, hold := some { decision := some { kind := .drop }, poisoned := true } }; let h : RxHold := { decision := some { kind := .drop }, poisoned := true }; decide (s.rx id = some f) && decide (f.hold = some h) && decide (h.decision ≠ none) && decide (h.poisoned = true) && decide (s.memsReady [1, 5] = true) && decide (s.oldestOfRill id f = true) && decide ((f.closed = some .fcsFail ∨ f.closed = some .blanked))) &&
   (let s : State := ((State.reset).slcWith (fun x => { x with wired := [⟨20, 7, 40, none, 0, 0⟩] })).up; let port : Nat := 20; let p : Wired := ⟨20, 7, 40, none, 0, 0⟩; decide (s.slc.wired.find? (fun q => q.port == port) = some p) && decide (s.memsReady [0, 1] = true)) &&
   (let s : State := ((State.reset).setFld F.SLC_AGE_CTL_EN 1).up; decide (s.flag F.SLC_AGE_CTL_EN = true) && decide (s.memReady 1 = true)) &&
   (let s : State := State.reset; (match s.readEntry s.slc.agerAt with | (some e, u) => decide (u.isAged s.slc.agerAt e = false) | _ => false)) &&
   (let s : State := (State.reset).slcWith (fun x => { x with lock := some (5, 9) }); let req : Nat := 5; let due : Nat := 9; decide (s.slc.lock = some (req, due)))) = true ∧
  ((let s : State := (State.reset).up; decide (s.released = true))) = true :=
  ⟨by decide +kernel, by decide +kernel, by decide +kernel⟩

/-- The hypotheses of `Obligations.TableCommands` are met: each clause at a state and operands. -/
theorem test_hyps_TableCommands :
  ((let s : State := ((State.reset).writeEntry (bucketBase 5 0 0) ⟨5, 2 ^ 55, 0, 0⟩).up; let ws : List Word := [0, 0, 5]; let r := withOp 1 ws; (match s.lookup (entryOf (r.drop 2)).e0 (entryOf (r.drop 2)).cls with | (.hit i x, u) => decide (u.slc.lock = none) && decide (s.released = true) && decide (s.memReady 1 = true) && decide (s.flag F.SLC_CMD_STAT_BUSY = false) | _ => false)) &&
   (let s : State := (State.reset).up; let ws : List Word := [0, 0, 5]; let r := withOp 1 ws; (match s.lookup (entryOf (r.drop 2)).e0 (entryOf (r.drop 2)).cls with | (.miss, u) => decide (u.slc.lock = none) && decide (s.released = true) && decide (s.memReady 1 = true) && decide (s.flag F.SLC_CMD_STAT_BUSY = false) | _ => false)) &&
   (let s : State := ((State.reset).writeEntry (bucketBase 5 0 0) ⟨5, 2 ^ 55, 0, 0⟩).up; let ws : List Word := [0, 0, 5]; let req : Nat := 127; let r := withOp 1 ws; (match s.lookup (entryOf (r.drop 2)).e0 (entryOf (r.drop 2)).cls with | (.hit i x, u) => decide (u.slc.lock = none) && decide (req ≠ 128) && decide (u.pwr.phase ≠ .failing) && decide (s.released = true) && decide (s.memReady 1 = true) | _ => false)) &&
   (let s : State := (State.reset).up; let ws : List Word := [0, 0, 5]; let r := withOp 2 ws; decide (s.slc.lock = none) && decide ((r.getD 0 0).testBit 50 = false) && decide (s.liveSlots (bits (r.getD 1 0) 0 20) (min 524288 (bits (r.getD 1 0) 0 20 + 4096)) = []) && decide (s.released = true) && decide (s.memReady 1 = true) && decide (s.flag F.SLC_CMD_STAT_BUSY = false)) &&
   (let s : State := ((State.reset).writeEntry 7 ⟨5, 2 ^ 55, 0, 0⟩).up; let ws : List Word := [0, 0, 5]; let r := withOp 2 ws; decide (s.slc.lock = none) && decide ((r.getD 0 0).testBit 50 = false) && (match s.scan (r.getD 0 0) (s.liveSlots (bits (r.getD 1 0) 0 20) (min 524288 (bits (r.getD 1 0) 0 20 + 4096))) with | (some (some (i, x)), u) => decide (u.slc.lock = none) && decide (s.released = true) && decide (s.memReady 1 = true) && decide (s.flag F.SLC_CMD_STAT_BUSY = false) | _ => false)) &&
   (let s : State := ((State.reset).writeEntry (bucketBase 5 0 0) ⟨5, 2 ^ 55, 0, 0⟩).up; let ws : List Word := [0, 0, 5]; let r := withOp 3 ws; decide (badPort (entryOf (r.drop 2)) = false) && (match (s.bump F.SLC_CNT_LOOKUP_COUNT).insertEntry (entryOf (r.drop 2)) with | (a, u) => decide (a.status ≠ .internal) && decide (u.slc.lock = none) && decide (s.released = true) && decide (s.memReady 1 = true) && decide (s.flag F.SLC_CMD_STAT_BUSY = false)))) = true ∧
  ((let s : State := ((State.reset).writeEntry (bucketBase 5 0 0) ⟨5, 2 ^ 55, 0, 0⟩).up; let ws : List Word := [0, 0, 5]; let e : Entry := ⟨5, 2 ^ 55, 0, 0⟩; let r := withOp 4 ws; let mask := bits (r.getD 1 0) 0 32; let e' := updateFields.foldl (fun (e : Entry) f => if mask.testBit f.1 then e.copyField (entryOf (r.drop 2)) f.2.1 f.2.2.1 f.2.2.2 else e) e; decide (badPort (entryOf (r.drop 2)) = false) && (match s.lookup (entryOf (r.drop 2)).e0 (entryOf (r.drop 2)).cls with | (.hit i e, u) => decide ((u.writeEntry i e').slc.lock = none) && decide (s.released = true) && decide (s.memReady 1 = true) && decide (s.flag F.SLC_CMD_STAT_BUSY = false) | _ => false)) &&
   (let s : State := ((State.reset).writeEntry (bucketBase 5 0 0) ⟨5, 2 ^ 55, 0, 0⟩).up; let ws : List Word := [0, 0, 5]; let r := withOp 5 ws; (match s.lookup (entryOf (r.drop 2)).e0 (entryOf (r.drop 2)).cls with | (.hit i e, u) => decide ((e.pinned = false ∨ (r.getD 0 0).testBit 51 = true)) && decide ((u.invalidate i e).slc.lock = none) && decide (s.released = true) && decide (s.memReady 1 = true) && decide (s.flag F.SLC_CMD_STAT_BUSY = false) | _ => false)) &&
   (let s : State := ((State.reset).writeEntry (bucketBase 5 0 0) ⟨5, 2 ^ 55 + 2 ^ 50, 0, 0⟩).up; let ws : List Word := [0, 0, 5]; let r := withOp 5 ws; (match s.lookup (entryOf (r.drop 2)).e0 (entryOf (r.drop 2)).cls with | (.hit i e, u) => decide (e.pinned = true) && decide ((r.getD 0 0).testBit 51 = false) && decide (u.slc.lock = none) && decide (s.released = true) && decide (s.memReady 1 = true) && decide (s.flag F.SLC_CMD_STAT_BUSY = false) | _ => false)) &&
   (let s : State := (State.reset).up; let req : Nat := 128; decide (s.slc.flush = none) && decide (s.released = true) && decide (s.memReady 1 = true) && decide ((req = 128 → s.flag F.SLC_CMD_STAT_BUSY = false))) &&
   (let s : State := ((State.reset).setFld F.SLC_CMD_STAT_BUSY 1).up; let ws : List Word := [0, 0, 5]; decide (s.flag F.SLC_CMD_STAT_BUSY = true) && decide (s.released = true) && decide (s.memReady 1 = true)) &&
   (let s : State := (State.reset).slcWith (fun x => { x with flush := some ⟨1, true, 5, 0, 0, 0, 0, 0⟩ }); let p : FlushPass := ⟨1, true, 5, 0, 0, 0, 0, 0⟩; decide (s.slc.flush = some p))) = true :=
  ⟨by decide +kernel, by decide +kernel⟩

/-- The hypotheses of `Obligations.GrottoCommands` are met: each clause at a state and operands. -/
theorem test_hyps_GrottoCommands :
  ((let s : State := (State.reset).up; let i : Nat := 0; let p := ([(Instr.recon i, 1), (.enrol i, 2), (.refresh i, 3), (.sealRoot i, 4), (.grtLoad i, 5), (.provision i, 6), (.rekeyNet i, 7), (.importGroup i, 8), (.retireGroup i, 9), (.importOvr i, 10), (.clearOvr i, 11), (.exportPage i, 12), (.floorCommit i, 13), (.attest i, 14), (.grtBlow i, 15), (.debugExport i, 16)])[0]; decide (s.flag F.GRT_CMD_STAT_BUSY = false) && decide (s.fresh.2.grtRefusal p.2 i = none) && decide (s.released = true)) &&
   (let s : State := ((State.reset).grtWith (fun x => { x with reconed := true })).up; let i : Nat := 0; let r : Nat := 6; let p := ([(Instr.recon i, 1), (.enrol i, 2), (.refresh i, 3), (.sealRoot i, 4), (.grtLoad i, 5), (.provision i, 6), (.rekeyNet i, 7), (.importGroup i, 8), (.retireGroup i, 9), (.importOvr i, 10), (.clearOvr i, 11), (.exportPage i, 12), (.floorCommit i, 13), (.attest i, 14), (.grtBlow i, 15), (.debugExport i, 16)])[0]; decide (s.flag F.GRT_CMD_STAT_BUSY = false) && decide (s.fresh.2.grtRefusal p.2 i = some r) && decide (s.released = true)) &&
   (let s : State := ((State.reset).setFld F.GRT_CMD_STAT_BUSY 1).up; decide (s.flag F.GRT_CMD_STAT_BUSY = true) && decide (s.released = true)) &&
   (let s : State := (State.reset).up; let i : Nat := 1; decide (s.flag F.GRT_CMD_STAT_BUSY = false) && decide (s.fresh.2.grtRefusal 4 i = none) && decide (s.released = true)) &&
   (let s : State := (State.reset).up; decide (s.flag F.GRT_CMD_STAT_BUSY = false) && decide (s.fresh.2.grtRefusal 15 0 = none) && decide (s.released = true)) &&
   (let s : State := ((((((State.reset).setFld F.GRT_STAT_ROOT_STATE 2).grtWith (fun x => { x with netKey := some 0x000102030405060708090A0B0C0D0E0F })).setMemWord 8 0 0x47B412810A8BA61F).setMemWord 8 1 0x827B5AFBD84BF3AE).setMemWord 8 2 0xE5CFD27123863E9D).up; let i : Nat := 4095; decide (s.flag F.GRT_CMD_STAT_BUSY = false) && decide (s.fresh.2.grtRefusal 8 i = none) && decide (s.released = true))) = true ∧
  ((let s : State := ((((((State.reset).setFld F.GRT_STAT_ROOT_STATE 2).grtWith (fun x => { x with netKey := some 0x000102030405060708090A0B0C0D0E0F })).setMemWord 8 0 0x47B412810A8BA61F).setMemWord 8 1 0x827B5AFBD84BF3AE).setMemWord 8 2 0xE5CFD27123863E9D).up; let i : Nat := 32767; decide (s.flag F.GRT_CMD_STAT_BUSY = false) && decide (s.fresh.2.grtRefusal 10 i = none) && decide (s.released = true)) &&
   (let s : State := (((State.reset).setFld F.GRT_STAT_ROOT_STATE 2).grtWith (fun x => { x with netKey := some 0x000102030405060708090A0B0C0D0E0F })).up; let i : Nat := 0; decide (s.flag F.GRT_CMD_STAT_BUSY = false) && decide (s.released = true) && (match s.fresh.2.grtTransported with | (none, u) => let p := ([(Instr.rekeyNet i, 7), (.importGroup i, 8), (.importOvr i, 10)])[0]; decide (s.fresh.2.grtRefusal p.2 i = none) | _ => false)) &&
   (let s : State := (((State.reset).setFld F.GRT_STAT_ROOT_STATE 2).setSlot false 4095 { state := 1 }).up; let i : Nat := 4095; decide (s.flag F.GRT_CMD_STAT_BUSY = false) && decide (s.fresh.2.grtRefusal 9 i = none) && decide (s.released = true)) &&
   (let s : State := (((State.reset).setFld F.GRT_STAT_ROOT_STATE 2).setSlot true 7 { state := 1 }).up; let i : Nat := 7; decide (s.flag F.GRT_CMD_STAT_BUSY = false) && decide (s.fresh.2.grtRefusal 11 i = none) && decide (s.released = true)) &&
   (let s : State := ((State.reset).setFld F.GRT_STAT_ROOT_STATE 2).up; decide (s.flag F.GRT_CMD_STAT_BUSY = false) && decide (s.fresh.2.grtRefusal 5 64 = none) && decide (s.released = true) && (match s.fresh.2.grtInput 64 with | (b, u) => (match u.loadDevKey (b.take 24) with | (net, v) => (match v.loadDevKey (sliceOf b 24 40) with | (att, w) => true)))) &&
   (let s : State := ((((((State.reset).setFld F.GRT_STAT_ROOT_STATE 2).grtWith (fun x => { x with kwk := some 0x000102030405060708090A0B0C0D0E0F })).setMemWord 8 0 0x47B412810A8BA61F).setMemWord 8 1 0x827B5AFBD84BF3AE).setMemWord 8 2 0xE5CFD27123863E9D).up; let ovr : Bool := false; let p : Nat := 15; let k : Nat := 255; let n := if ovr then 1024 else 256; let i := (if ovr then 192 else 128) + p; decide (s.flag F.GRT_CMD_STAT_BUSY = false) && decide (s.fresh.2.grtRefusal 5 i = none) && decide (s.released = true) && decide (p < 64) && decide (k < n) && (match s.fresh.2.grtInput (32 * n) with | (b, u) => true))) = true ∧
  ((let s : State := (((((State.reset).setFld F.GRT_STAT_ROOT_STATE 2).setMemWord 8 0 0x47B412810A8BA61F).setMemWord 8 1 0x827B5AFBD84BF3AE).setMemWord 8 2 0xE5CFD27123863E9D).up; decide (s.flag F.GRT_CMD_STAT_BUSY = false) && decide (s.fresh.2.grtRefusal 6 0 = none) && decide (s.released = true) && (match s.fresh.2.grtInput 16 with | (b, u) => true)) &&
   (let s : State := (((((State.reset).setFld F.GRT_STAT_ROOT_STATE 2).setMemWord 8 0 0x47B412810A8BA61F).setMemWord 8 1 0x827B5AFBD84BF3AE).setMemWord 8 2 0xE5CFD27123863E9D).up; decide (s.flag F.GRT_CMD_STAT_BUSY = false) && decide (s.fresh.2.grtRefusal 6 1 = none) && decide (s.released = true) && (match s.fresh.2.grtInput 32 with | (b, u) => true)) &&
   (let s : State := ((((((State.reset).setFld F.GRT_STAT_ROOT_STATE 2).grtWith (fun x => { x with netKey := some 0x000102030405060708090A0B0C0D0E0F })).setMemWord 8 0 0x47B412810A8BA61F).setMemWord 8 1 0x827B5AFBD84BF3AE).setMemWord 8 2 0xE5CFD27123863E9D).up; let i : Nat := 1; decide (s.flag F.GRT_CMD_STAT_BUSY = false) && decide (s.fresh.2.grtRefusal 7 i = none) && decide (s.released = true)) &&
   (let s : State := (((State.reset).grtWith (fun x => { x with exports := [(143, [])] })).setSlot false 3840 { state := 1, pending := true }).up; let ovr : Bool := false; let p : Nat := 15; let k : Nat := 0; let n := if ovr then 1024 else 256; let i := (if ovr then 192 else 128) + p; decide (s.flag F.GRT_CMD_STAT_BUSY = false) && decide (s.fresh.2.grtRefusal 13 i = none) && decide (s.released = true) && decide (p < 64) && decide (k < n)) &&
   (let s : State := ((State.reset).grtWith (fun x => { x with cmd := some { op := 1, index := 0, due := 9, ok := true } })).up; let c : GrtCmd := { op := 1, index := 0, due := 9, ok := true }; decide (s.grt.cmd = some c) && decide ((c.op = 2 ∨ c.op = 3 → s.flag F.GRT_STAT_DRBG_OK = true)) && decide (s.memsReady (8 :: keyMems) = true))) = true ∧
  (let s : State := ((((((State.reset).setFld F.GRT_STAT_ROOT_STATE 2).grtWith (fun x => { x with netKey := some 0x000102030405060708090A0B0C0D0E0F })).setMemWord 8 0 0x47B412810A8BA61F).setMemWord 8 1 0x827B5AFBD84BF3AE).setMemWord 8 2 0xE5CFD27123863E9D).up; let i : Nat := 4095; KeysGood s) ∧
  (let s : State := ((((((State.reset).setFld F.GRT_STAT_ROOT_STATE 2).grtWith (fun x => { x with netKey := some 0x000102030405060708090A0B0C0D0E0F })).setMemWord 8 0 0x47B412810A8BA61F).setMemWord 8 1 0x827B5AFBD84BF3AE).setMemWord 8 2 0xE5CFD27123863E9D).up; let i : Nat := 4095; ∃ k u, s.fresh.2.grtTransported = (some k, u)) ∧
  (let s : State := ((((((State.reset).setFld F.GRT_STAT_ROOT_STATE 2).grtWith (fun x => { x with netKey := some 0x000102030405060708090A0B0C0D0E0F })).setMemWord 8 0 0x47B412810A8BA61F).setMemWord 8 1 0x827B5AFBD84BF3AE).setMemWord 8 2 0xE5CFD27123863E9D).up; let i : Nat := 32767; KeysGood s) ∧
  (let s : State := ((((((State.reset).setFld F.GRT_STAT_ROOT_STATE 2).grtWith (fun x => { x with netKey := some 0x000102030405060708090A0B0C0D0E0F })).setMemWord 8 0 0x47B412810A8BA61F).setMemWord 8 1 0x827B5AFBD84BF3AE).setMemWord 8 2 0xE5CFD27123863E9D).up; let i : Nat := 32767; ∃ k u, s.fresh.2.grtTransported = (some k, u)) ∧
  (let s : State := (((State.reset).setFld F.GRT_STAT_ROOT_STATE 2).setSlot false 4095 { state := 1 }).up; let i : Nat := 4095; KeysGood s) ∧
  (let s : State := (((State.reset).setFld F.GRT_STAT_ROOT_STATE 2).setSlot true 7 { state := 1 }).up; let i : Nat := 7; KeysGood s) ∧
  (let s : State := ((((((State.reset).setFld F.GRT_STAT_ROOT_STATE 2).grtWith (fun x => { x with netKey := some 0x000102030405060708090A0B0C0D0E0F })).setMemWord 8 0 0x47B412810A8BA61F).setMemWord 8 1 0x827B5AFBD84BF3AE).setMemWord 8 2 0xE5CFD27123863E9D).up; let i : Nat := 1; ∃ k u, s.fresh.2.grtTransported = (some k, u)) ∧
  (let s : State := (((State.reset).grtWith (fun x => { x with exports := [(143, [])] })).setSlot false 3840 { state := 1, pending := true }).up; let ovr : Bool := false; let p : Nat := 15; let k : Nat := 0; let n := if ovr then 1024 else 256; let i := (if ovr then 192 else 128) + p; KeysGood s) :=
  ⟨by decide +kernel, by decide +kernel, by decide +kernel, (by exact keysGood_of _ (by decide +kernel) (by decide +kernel) (by decide +kernel)), (by exact transported_rfc3394 _ (by decide +kernel) (by decide +kernel)), (by exact keysGood_of _ (by decide +kernel) (by decide +kernel) (by decide +kernel)), (by exact transported_rfc3394 _ (by decide +kernel) (by decide +kernel)), (by exact keysGood_of _ (by decide +kernel) (by decide +kernel) (by decide +kernel)), (by exact keysGood_of _ (by decide +kernel) (by decide +kernel) (by decide +kernel)), (by exact transported_rfc3394 _ (by decide +kernel) (by decide +kernel)), (by exact keysGood_of _ (by decide +kernel) (by decide +kernel) (by decide +kernel))⟩

/-- The hypotheses of `Obligations.GrottoEvents` are met: each clause at a state and operands. -/
theorem test_hyps_GrottoEvents :
  ((let s : State := (State.reset).grtWith (fun x => { x with sweeps := [⟨none, 5, 0, 0⟩] }); let w : Sweep := ⟨none, 5, 0, 0⟩; let ws : List Sweep := []; decide (s.grt.sweeps = w :: ws)) &&
   (let s : State := (State.reset).grtWith (fun x => { x with msgs := some [] }); decide (s.grt.msgs.isSome = true)) &&
   (let s : State := (State.reset).setRx 4 { chain := 1, rill := 2, aer := 0, modeIdx := 0, phy := 0, len := 0, fcsLen := 2, cells := [7], hold := some { keyAt := some 8 } }; let id : Nat := 4; let at_ : Nat := 8; let f : RxFrame := { chain := 1, rill := 2, aer := 0, modeIdx := 0, phy := 0, len := 0, fcsLen := 2, cells := [7], hold := some { keyAt := some 8 } }; let h : RxHold := { keyAt := some 8 }; decide (s.rx id = some f) && decide (f.hold = some h) && decide (h.keyAt = some at_) && decide (f.headWaits = false)) &&
   (let s : State := ((State.reset).setRx 4 { chain := 1, rill := 2, aer := 0, modeIdx := 0, phy := 0, len := 14, fcsLen := 2, cells := [7], bytes := [0x09, 0x21, 5, 9, 0, 0, 0, 0, 0, 0, 0, 0, 0, 0], hold := some { keyAt := some 8, headSeq := 3 } }).up; let id : Nat := 4; let at_ : Nat := 8; let f : RxFrame := { chain := 1, rill := 2, aer := 0, modeIdx := 0, phy := 0, len := 14, fcsLen := 2, cells := [7], bytes := [0x09, 0x21, 5, 9, 0, 0, 0, 0, 0, 0, 0, 0, 0, 0], hold := some { keyAt := some 8, headSeq := 3 } }; let h : RxHold := { keyAt := some 8, headSeq := 3 }; decide (s.rx id = some f) && decide (f.hold = some h) && decide (h.keyAt = some at_) && decide (f.headWaits = true) && decide (s.laneFor h.headSeq = true) && decide (s.memsReady keyMems = true)) &&
   (let s : State := ((State.reset).setTx 1 { frames := List.replicate 64 { id := 5, desc := {}, origin := .takeover, launch := none, arrived := 0, sec := .running 0 {} 0 0 } }).setRx 4 { chain := 1, rill := 2, aer := 0, modeIdx := 0, phy := 0, len := 14, fcsLen := 2, cells := [7], bytes := [0x09, 0x21, 5, 9, 0, 0, 0, 0, 0, 0, 0, 0, 0, 0], hold := some { keyAt := some 8, headSeq := 3 } }; let id : Nat := 4; let at_ : Nat := 8; let f : RxFrame := { chain := 1, rill := 2, aer := 0, modeIdx := 0, phy := 0, len := 14, fcsLen := 2, cells := [7], bytes := [0x09, 0x21, 5, 9, 0, 0, 0, 0, 0, 0, 0, 0, 0, 0], hold := some { keyAt := some 8, headSeq := 3 } }; let h : RxHold := { keyAt := some 8, headSeq := 3 }; decide (s.rx id = some f) && decide (f.hold = some h) && decide (h.keyAt = some at_) && decide (f.headWaits = true) && decide (s.laneFor h.headSeq = false)) &&
   (let s : State := (((State.reset).setSlot false 0 { state := 1 }).setRx 4 { chain := 1, rill := 2, aer := 0, modeIdx := 0, phy := 0, len := 14, fcsLen := 2, cells := [7], bytes := [0x09, 0x21, 1, 0, 0, 0, 0, 9, 0, 0, 0, 0, 0, 0], closed := some .ok, hold := some { unknown := false, key := some { direct := true } } }).up; let id : Nat := 4; let f : RxFrame := { chain := 1, rill := 2, aer := 0, modeIdx := 0, phy := 0, len := 14, fcsLen := 2, cells := [7], bytes := [0x09, 0x21, 1, 0, 0, 0, 0, 9, 0, 0, 0, 0, 0, 0], closed := some .ok, hold := some { unknown := false, key := some { direct := true } } }; let h : RxHold := { unknown := false, key := some { direct := true } }; let k : JobKey := { direct := true }; decide (s.rx id = some f) && decide (f.hold = some h) && (match f.mac with | some m => decide (h.key = some k) && decide (f.verifyWaits = true) && decide (s.laneFor f.endSeq = true) && decide (s.memsReady keyMems = true) && (match s.endCycle.jobKey k with | (.found k' x, u) => true | _ => false) | _ => false))) = true ∧
  ((let s : State := (State.reset).setRx 4 { chain := 1, rill := 2, aer := 0, modeIdx := 0, phy := 0, len := 0, fcsLen := 2, cells := [7], bytes := [], hold := some { verify := .running (some { epoch := 3 }) 3 0 true [] } }; let id : Nat := 4; let epoch : Nat := 3; let start : Nat := 0; let key : Option JobKey := some { epoch := 3 }; let pass : Bool := true; let plain : List Byte := []; let f : RxFrame := { chain := 1, rill := 2, aer := 0, modeIdx := 0, phy := 0, len := 0, fcsLen := 2, cells := [7], bytes := [], hold := some { verify := .running (some { epoch := 3 }) 3 0 true [] } }; let h : RxHold := { verify := .running (some { epoch := 3 }) 3 0 true [] }; decide (s.rx id = some f) && decide (f.hold = some h) && decide (h.verify = .running key epoch start pass plain) && decide (pass = true)) &&
   (let s : State := (State.reset).setRx 4 { chain := 1, rill := 2, aer := 0, modeIdx := 0, phy := 0, len := 0, fcsLen := 2, cells := [7], bytes := [], hold := some { verify := .running none 3 0 false [], key := some { epoch := 1 } } }; let id : Nat := 4; let epoch : Nat := 3; let start : Nat := 0; let key : Option JobKey := none; let pass : Bool := false; let plain : List Byte := []; let f : RxFrame := { chain := 1, rill := 2, aer := 0, modeIdx := 0, phy := 0, len := 0, fcsLen := 2, cells := [7], bytes := [], hold := some { verify := .running none 3 0 false [], key := some { epoch := 1 } } }; let h : RxHold := { verify := .running none 3 0 false [], key := some { epoch := 1 } }; decide (s.rx id = some f) && decide (f.hold = some h) && decide (h.verify = .running key epoch start pass plain) && decide (pass = false) && decide (h.tag ≠ epoch)) &&
   (let s : State := (State.reset).setRx 4 { chain := 1, rill := 2, aer := 0, modeIdx := 0, phy := 0, len := 0, fcsLen := 2, cells := [7], bytes := [], hold := some { verify := .running none 0 0 false [] } }; let id : Nat := 4; let epoch : Nat := 0; let start : Nat := 0; let key : Option JobKey := none; let pass : Bool := false; let plain : List Byte := []; let f : RxFrame := { chain := 1, rill := 2, aer := 0, modeIdx := 0, phy := 0, len := 0, fcsLen := 2, cells := [7], bytes := [], hold := some { verify := .running none 0 0 false [] } }; let h : RxHold := { verify := .running none 0 0 false [] }; decide (s.rx id = some f) && decide (f.hold = some h) && decide (h.verify = .running key epoch start pass plain) && let u := (s.fresh.2.advanceTo (start + s.fresh.1 % (201 + f.len))).bump F.GRT_CNT_VERIFY_COUNT; decide (pass = false) && decide (h.tag = epoch) && (match u.entryEpoch (h.src.getD 0) with | (some e, v) => true | _ => false)) &&
   (let s : State := ((State.reset).setTx 1 { frames := [{ id := 5, desc := {}, origin := .takeover, launch := none, arrived := 0, sec := .waiting 2 }] }).up; let j : Nat := 1; let id : Nat := 5; let n : Nat := 2; let f : TxFrame := { id := 5, desc := {}, origin := .takeover, launch := none, arrived := 0, sec := .waiting 2 }; decide (s.txFrame j id = some f) && decide (s.secOf f = .waiting n) && decide (s.laneFor n = true) && decide (s.memsReady (0 :: keyMems) = true)) &&
   (let s : State := ((((State.reset).setMemWord 0 224 0x0900000000012109).setMemWord 0 225 0).setLink 7 ⟨0, true, false⟩).setTx 1 { frames := [{ id := 5, desc := { cell := 7, len := 14, sec := 1 }, origin := .takeover, launch := none, arrived := 0, sec := .running 2 {} 1 9 }] }; let j : Nat := 1; let id : Nat := 5; let n : Nat := 2; let c : Nat := 1; let at_ : Nat := 9; let f : TxFrame := { id := 5, desc := { cell := 7, len := 14, sec := 1 }, origin := .takeover, launch := none, arrived := 0, sec := .running 2 {} 1 9 }; let k : JobKey := {}; decide (s.txFrame j id = some f) && decide (s.secOf f = .running n k c at_) && (match (s.fresh.2.advanceTo (at_ + s.fresh.1 % (1001 + f.desc.len))).protectRead j f with | (b, some m, false, v) => true | _ => false)) &&
   (let s : State := (State.reset).setFld F.GRT_STAT_DRBG_OK 1; decide (s.flag F.GRT_STAT_DRBG_OK = true))) = true ∧
  ((let s : State := (State.reset).grtWith (fun x => { x with requests := 65536 }); decide (65536 ≤ s.grt.requests)) &&
   (let s : State := (State.reset).setFld F.GRT_STAT_DRBG_OK 1; decide (s.grt.wrong < 3) && decide (s.flag F.GRT_STAT_DRBG_OK = true)) &&
   (let s : State := State.reset; decide (s.grt.wrong < 3) && decide (s.flag F.GRT_STAT_DRBG_OK = false)) &&
   (let s : State := (State.reset).grtWith (fun x => { x with wrong := 3 }); decide (3 ≤ s.grt.wrong)) &&
   (let s : State := (State.reset).grtWith (fun x => { x with chal := some 3, dbg := some 4 }); let c : Nat := 3; let d : Nat := 4; let resp : List Byte := hmacSha256 (beBytes 32 d) ([0x47, 0x4C, 0x55] ++ beBytes 32 c); decide (s.grt.chal = some c) && decide (s.grt.dbg = some d) && decide (hmacSha256 (beBytes 32 d) ([0x47, 0x4C, 0x55] ++ beBytes 32 c) = resp)) &&
   (let s : State := (State.reset).grtWith (fun x => { x with chal := some 3, dbg := some 4 }); let c : Nat := 3; let d : Nat := 4; let resp : List Byte := hmacSha256 (beBytes 32 d) ([0x47, 0x4C, 0x55] ++ beBytes 32 c) ++ [0]; decide (s.grt.chal = some c) && decide (s.grt.dbg = some d) && decide (hmacSha256 (beBytes 32 d) ([0x47, 0x4C, 0x55] ++ beBytes 32 c) ≠ resp))) = true :=
  ⟨by decide +kernel, by decide +kernel, by decide +kernel⟩

/-- The hypotheses of `Obligations.OcellInteger` are met: each clause at a state and operands. -/
theorem test_hyps_OcellInteger :
  ((let s : State := (((State.reset).inited.setThr 129 { state := 1 }).setG 129 4 7).setG 129 5 9; let t : Nat := 129; let w : Nat := 410240; decide (s.mayIssue t = true ∧ s.eccOf (instrMem t) ((s.thr t).pc / 8) = none ∧ (s.thr t).pred (opQP w) = true ∧ opFields w = true) && decide (fmtA w = true)) &&
   (let s : State := ((State.reset).inited.setThr 129 { state := 1 }).setG 129 4 7; let t : Nat := 129; let w : Nat := 413695; decide (s.mayIssue t = true ∧ s.eccOf (instrMem t) ((s.thr t).pc / 8) = none ∧ (s.thr t).pred (opQP w) = true ∧ opFields w = true)) &&
   (let s : State := ((State.reset).inited.setThr 129 { state := 1 }).setG 129 4 7; let t : Nat := 129; let w : Nat := 409663; decide (s.mayIssue t = true ∧ s.eccOf (instrMem t) ((s.thr t).pc / 8) = none ∧ (s.thr t).pred (opQP w) = true ∧ opFields w = true) && decide (bits w 6 6 = 0)) &&
   (let s : State := ((State.reset).inited.setThr 129 { state := 1 }).setG 129 3 7; let t : Nat := 129; let w : Nat := 458751; decide (s.mayIssue t = true ∧ s.eccOf (instrMem t) ((s.thr t).pc / 8) = none ∧ (s.thr t).pred (opQP w) = true ∧ opFields w = true) && decide (fmtD w = true))) = true :=
  by decide +kernel

/-- The hypotheses of `Obligations.OcellPredicates` are met: each clause at a state and operands. -/
theorem test_hyps_OcellPredicates :
  ((let s : State := (((State.reset).inited.setThr 129 { state := 1 }).setG 129 4 7).setG 129 5 9; let t : Nat := 129; let w : Nat := 1115392; decide (s.mayIssue t = true ∧ s.eccOf (instrMem t) ((s.thr t).pc / 8) = none ∧ (s.thr t).pred (opQP w) = true ∧ opFields w = true) && decide (fmtE w = true)) &&
   (let s : State := (State.reset).inited.setThr 129 { state := 1, p := 17 }; let t : Nat := 129; let w : Nat := 1115392; decide (s.mayIssue t = true ∧ s.eccOf (instrMem t) ((s.thr t).pc / 8) = none ∧ (s.thr t).pred (opQP w) = true ∧ opFields w = true) && decide (opI w = false) && decide (fmtE w = true) && decide (opEA w < 8) && decide (opEB w < 8)) &&
   (let s : State := (State.reset).inited.setThr 129 { state := 1, p := 17 }; let t : Nat := 129; let w : Nat := 1114112; decide (s.mayIssue t = true ∧ s.eccOf (instrMem t) ((s.thr t).pc / 8) = none ∧ (s.thr t).pred (opQP w) = true ∧ opFields w = true) && decide (opI w = false) && decide (fmtE w = true) && decide (opEA w < 8) && decide (opEB w = 0))) = true :=
  by decide +kernel

/-- The hypotheses of `Obligations.OcellBitFields` are met: each clause at a state and operands. -/
theorem test_hyps_OcellBitFields :
  ((let s : State := (((State.reset).inited.setThr 129 { state := 1 }).setG 129 4 7).setG 129 5 9; let t : Nat := 129; let w : Nat := 409600; decide (s.mayIssue t = true ∧ s.eccOf (instrMem t) ((s.thr t).pc / 8) = none ∧ (s.thr t).pred (opQP w) = true ∧ opFields w = true) && let pos := bits w 6 6; let len := if bits w 0 6 = 0 then 64 else bits w 0 6; decide (pos + len ≤ 64)) &&
   (let s : State := (((State.reset).inited.setThr 129 { state := 1 }).setG 129 4 7).setG 129 5 9; let t : Nat := 129; let w : Nat := 410240; decide (s.mayIssue t = true ∧ s.eccOf (instrMem t) ((s.thr t).pc / 8) = none ∧ (s.thr t).pred (opQP w) = true ∧ opFields w = true) && decide (fmtA w = true))) = true ∧
  ((let a : Word := 5; let n : Nat := 61; decide (n < 64) && decide (a.getLsbD (63 - n) = true)) &&
   (let k : Nat := 1; decide (k < 8))) = true ∧
  (let a : Word := 5; let n : Nat := 61; (∀ m, m < n → a.getLsbD (63 - m) = false)) :=
  ⟨by decide +kernel, by decide +kernel, (by dsimp only; intro k hk; interval_cases k <;> decide)⟩

/-- The hypotheses of `Obligations.OcellIssue` are met: each clause at a state and operands. -/
theorem test_hyps_OcellIssue :
  ((let s : State := State.reset; let t : Nat := 129; let w : Nat := 1; decide (s.mayIssue t = false)) &&
   (let s : State := ((State.reset).inited.setThr 129 { state := 1 }).eccWith 9 0 ⟨0, true⟩; let t : Nat := 129; let w : Nat := 8; let k : EccMark := ⟨0, true⟩; decide (s.mayIssue t = true) && decide (s.eccOf (instrMem t) ((s.thr t).pc / 8) = some k) && decide (k.poisoned = true)) &&
   (let s : State := (State.reset).inited.setThr 129 { state := 1 }; let t : Nat := 129; let w : Nat := 4194304; decide (s.mayIssue t = true) && decide (s.eccOf (instrMem t) ((s.thr t).pc / 8) = none) && decide ((s.thr t).pred (opQP w) = false)) &&
   (let s : State := (State.reset).inited.setThr 129 { state := 1 }; let t : Nat := 129; let w : Nat := 8; decide (s.mayIssue t = true ∧ s.eccOf (instrMem t) ((s.thr t).pc / 8) = none ∧ (s.thr t).pred (opQP w) = true ∧ opFields w = true) && let e := (ocellOps t w (s.thr t))[0]; decide (e.2.2 = false)) &&
   (let s : State := (State.reset).inited.setThr 129 { state := 1 }; let t : Nat := 129; let w : Nat := 0x14000000; decide (s.mayIssue t = true) && decide (s.eccOf (instrMem t) ((s.thr t).pc / 8) = none) && decide ((s.thr t).pred (opQP w) = true) && decide (opFields w = false)) &&
   (let s : State := ((State.reset).inited.setFld F.PWR_STAT_JET_LOCK 15).setThr 5 { state := 1 }; let k : Nat := 1; let t : Nat := 5; decide (s.chosen k = some t))) = true ∧
  ((let s : State := ((State.reset).inited.setFld F.PWR_STAT_JET_LOCK 15).setThr 5 { state := 1 }; let k : Nat := 1; let t : Nat := 5; let u := 5; decide (s.chosen k = some t) && decide (u / 4 = k) && decide ((s.thr u).state = 1)) &&
   (let s : State := (((State.reset).inited.setFld F.PWR_STAT_JET_LOCK 15).setThr 5 { state := 1 }).oclWith (fun x => { x with passes := [5] }); let k : Nat := 1; let t : Nat := 5; let u := 5; decide (s.chosen k = some t) && decide (t ∈ s.ocl.passes) && decide (u / 4 = k) && decide ((s.thr u).state = 1) && decide (s.prio u = s.prio t)) &&
   (let s : State := ((State.reset).inited.setFld F.PWR_STAT_JET_LOCK 15).setThr 5 { state := 1 }; let k : Nat := 1; let t : Nat := 5; decide (t / 4 = k) && decide ((s.thr t).state = 1))) = true :=
  ⟨by decide +kernel, by decide +kernel⟩

/-- The hypotheses of `Obligations.OcellExceptions` are met: each clause at a state and operands. -/
theorem test_hyps_OcellExceptions :
  ((let s : State := (State.reset).inited.setThr 129 { state := 1, evec := 16, pc := 4 }; let t : Nat := 129; let cause : Nat := 1; let einfo : Word := 0; decide ((s.thr t).region = none) && decide ((s.thr t).exc = false) && decide ((s.thr t).evec ≠ 0) && decide ((s.thr t).state = 1) && let u := s.except t cause einfo; true) &&
   (let s : State := ((State.reset).inited.setFld F.PWR_STAT_JET_LOCK 15).setThr 127 { state := 1 }; let t : Nat := 127; let cause : Nat := 1; let einfo : Word := 0; decide (t < 128) && decide ((s.thr t).region = none) && decide (((s.thr t).exc = true ∨ (s.thr t).evec = 0))) &&
   (let s : State := (State.reset).inited.setThr 129 { state := 1, region := some ⟨8, [], 1, [], 0, [], 0, [], none, false⟩ }; let t : Nat := 129; let cause : Nat := 3; let einfo : Word := 0; let r : Region := ⟨8, [], 1, [], 0, [], 0, [], none, false⟩; decide ((s.thr t).region = some r))) = true :=
  by decide +kernel

/-- The hypotheses of `Obligations.OcellSystem` are met: each clause at a state and operands. -/
theorem test_hyps_OcellSystem :
  ((let s : State := (State.reset).inited.setThr 129 { state := 1 }; let t : Nat := 129; let w : Nat := 410112; decide (s.mayIssue t = true ∧ s.eccOf (instrMem t) ((s.thr t).pc / 8) = none ∧ (s.thr t).pred (opQP w) = true ∧ opFields w = true) && decide (fmtA w = true)) &&
   (let s : State := ((State.reset).inited.setThr 129 { state := 1 }).setG 129 4 32768; let t : Nat := 129; let w : Nat := 411008; decide (s.mayIssue t = true ∧ s.eccOf (instrMem t) ((s.thr t).pc / 8) = none ∧ (s.thr t).pred (opQP w) = true ∧ opFields w = true) && decide (fmtA w = true) && decide ((3 ≤ opRB w ∧ opRB w ≤ 7 ∨ opRB w = 11)) && decide ((s.thr t).region = none)) &&
   (let s : State := (State.reset).inited.setThr 129 { state := 1 }; let t : Nat := 129; let w : Nat := 411136; decide (s.mayIssue t = true ∧ s.eccOf (instrMem t) ((s.thr t).pc / 8) = none ∧ (s.thr t).pred (opQP w) = true ∧ opFields w = true) && decide (fmtA w = true) && decide (opRB w = 12)) &&
   (let s : State := (State.reset).inited.setThr 129 { state := 1, region := some ⟨8, [], 1, [], 0, [], 0, [], none, false⟩ }; let t : Nat := 129; let w : Nat := 411008; decide (s.mayIssue t = true ∧ s.eccOf (instrMem t) ((s.thr t).pc / 8) = none ∧ (s.thr t).pred (opQP w) = true ∧ opFields w = true) && decide (fmtA w = true) && decide ((3 ≤ opRB w ∧ opRB w ≤ 7 ∨ opRB w = 11)) && decide ((s.thr t).region ≠ none)) &&
   (let s : State := (State.reset).inited.setThr 129 { state := 1 }; let t : Nat := 129; let w : Nat := 4194303; decide (s.mayIssue t = true ∧ s.eccOf (instrMem t) ((s.thr t).pc / 8) = none ∧ (s.thr t).pred (opQP w) = true ∧ opFields w = true)) &&
   (let s : State := (State.reset).inited.setThr 129 { state := 1, exc := true, epc := 8 }; let t : Nat := 129; let w : Nat := 1; decide (s.mayIssue t = true ∧ s.eccOf (instrMem t) ((s.thr t).pc / 8) = none ∧ (s.thr t).pred (opQP w) = true ∧ opFields w = true) && decide (fmtA w = true) && decide ((s.thr t).exc = true) && decide ((s.thr t).region = none) && decide ((s.thr t).wdDue = false))) = true ∧
  ((let s : State := (State.reset).inited.setThr 129 { state := 1 }; let t : Nat := 129; let w : Nat := 1; decide (s.mayIssue t = true ∧ s.eccOf (instrMem t) ((s.thr t).pc / 8) = none ∧ (s.thr t).pred (opQP w) = true ∧ opFields w = true) && decide (fmtA w = true)) &&
   (let s : State := (State.reset).inited.setThr 129 { state := 1 }; let t : Nat := 129; let w : Nat := 1; decide (s.mayIssue t = true ∧ s.eccOf (instrMem t) ((s.thr t).pc / 8) = none ∧ (s.thr t).pred (opQP w) = true ∧ opFields w = true) && decide (fmtA w = true) && decide (s.brkHalt t = false)) &&
   (let s : State := (((State.reset).inited.setFld F.PWR_STAT_JET_LOCK 15).setThr 5 { state := 1 }).setFld F.OCL_THR_CTL_BRK_HALT 1 0 5; let t : Nat := 5; let w : Nat := 1; decide (s.mayIssue t = true ∧ s.eccOf (instrMem t) ((s.thr t).pc / 8) = none ∧ (s.thr t).pred (opQP w) = true ∧ opFields w = true) && decide (fmtA w = true) && decide (s.brkHalt t = true) && decide ((s.thr t).region = none))) = true :=
  ⟨by decide +kernel, by decide +kernel⟩

/-- The hypotheses of `Obligations.OcellBranches` are met: each clause at a state and operands. -/
theorem test_hyps_OcellBranches :
  ((let s : State := (State.reset).inited.setThr 129 { state := 1 }; let t : Nat := 129; let w : Nat := 8191; decide (s.mayIssue t = true ∧ s.eccOf (instrMem t) ((s.thr t).pc / 8) = none ∧ (s.thr t).pred (opQP w) = true ∧ opFields w = true) && let here : Int := (s.thr t).pc; let near := here + 4 * (imm22 w).toInt; decide (0 ≤ near) && decide (near ≤ 0x7FFC)) &&
   (let s : State := (State.reset).inited.setThr 129 { state := 1 }; let t : Nat := 129; let w : Nat := 4194303; decide (s.mayIssue t = true ∧ s.eccOf (instrMem t) ((s.thr t).pc / 8) = none ∧ (s.thr t).pred (opQP w) = true ∧ opFields w = true) && let here : Int := (s.thr t).pc; let near := here + 4 * (imm22 w).toInt; decide (¬(0 ≤ near ∧ near ≤ 0x7FFC))) &&
   (let s : State := ((State.reset).inited.setThr 129 { state := 1, pc := 12 }).setG 129 4 32764; let t : Nat := 129; let w : Nat := 409600; decide (s.mayIssue t = true ∧ s.eccOf (instrMem t) ((s.thr t).pc / 8) = none ∧ (s.thr t).pred (opQP w) = true ∧ opFields w = true) && let here : Int := (s.thr t).pc; let a := (s.g t (opRA w) + imm12 w).toNat; decide (a % 4 = 0) && decide (a ≤ 0x7FFC)) &&
   (let s : State := ((State.reset).inited.setThr 129 { state := 1 }).setG 129 4 3; let t : Nat := 129; let w : Nat := 409600; decide (s.mayIssue t = true ∧ s.eccOf (instrMem t) ((s.thr t).pc / 8) = none ∧ (s.thr t).pred (opQP w) = true ∧ opFields w = true) && let here : Int := (s.thr t).pc; let a := (s.g t (opRA w) + imm12 w).toNat; decide (a % 4 ≠ 0)) &&
   (let s : State := ((State.reset).inited.setThr 129 { state := 1 }).setG 129 3 1; let t : Nat := 129; let w : Nat := 393216; decide (s.mayIssue t = true ∧ s.eccOf (instrMem t) ((s.thr t).pc / 8) = none ∧ (s.thr t).pred (opQP w) = true ∧ opFields w = true) && let here : Int := (s.thr t).pc; decide (opRA w = 0) && decide (opRD w ≠ 0) && decide (s.g t (opRD w) = 1)) &&
   (let s : State := ((State.reset).inited.setThr 129 { state := 1 }).setG 129 3 2; let t : Nat := 129; let w : Nat := 395263; decide (s.mayIssue t = true ∧ s.eccOf (instrMem t) ((s.thr t).pc / 8) = none ∧ (s.thr t).pred (opQP w) = true ∧ opFields w = true) && let here : Int := (s.thr t).pc; let loop := here + 4 * (imm12 w).toInt; decide (opRA w = 0) && decide (opRD w ≠ 0) && decide (s.g t (opRD w) ≠ 1) && decide (0 ≤ loop) && decide (loop ≤ 0x7FFC))) = true :=
  by decide +kernel

/-- The hypotheses of `Obligations.OcellLoads` are met: each clause at a state and operands. -/
theorem test_hyps_OcellLoads :
  ((let s : State := (((State.reset).inited.setThr 129 { state := 1 }).setG 129 4 8).setMemWord 8 1 77; let t : Nat := 129; let w : Nat := 409600; decide (s.mayIssue t = true ∧ s.eccOf (instrMem t) ((s.thr t).pc / 8) = none ∧ (s.thr t).pred (opQP w) = true ∧ opFields w = true) && decide ((s.thr t).region = none) && let a := (s.g t (opRA w) + imm12 w).toNat; let e := ([(Instr.ldb t w, 1), (.ldh t w, 2), (.ldw t w, 4), (.ldd t w, 8)])[3]; let m := 8; let o := 8; decide (dataLoc t a = .mem m o) && decide (a % e.2 = 0) && decide (s.memReady m = true) && decide (s.eccOf m (o / 8) = none)) &&
   (let s : State := ((((State.reset).inited.setThr 129 { state := 1 }).setG 129 4 8).setMemWord 8 1 77).pwrWith (fun x => { x with inited := [9] }); let t : Nat := 129; let w : Nat := 409600; decide (s.mayIssue t = true ∧ s.eccOf (instrMem t) ((s.thr t).pc / 8) = none ∧ (s.thr t).pred (opQP w) = true ∧ opFields w = true) && decide ((s.thr t).region = none) && let a := (s.g t (opRA w) + imm12 w).toNat; let e := ([(Instr.ldb t w, 1), (.ldh t w, 2), (.ldw t w, 4), (.ldd t w, 8)])[3]; let m := 8; let o := 8; decide (dataLoc t a = .mem m o) && decide (a % e.2 = 0) && decide (s.memReady m = false)) &&
   (let s : State := (((State.reset).inited.setThr 129 { state := 1 }).setG 129 4 8).eccWith 8 1 ⟨0, true⟩; let t : Nat := 129; let w : Nat := 409600; decide (s.mayIssue t = true ∧ s.eccOf (instrMem t) ((s.thr t).pc / 8) = none ∧ (s.thr t).pred (opQP w) = true ∧ opFields w = true) && decide ((s.thr t).region = none) && let a := (s.g t (opRA w) + imm12 w).toNat; let e := ([(Instr.ldb t w, 1), (.ldh t w, 2), (.ldw t w, 4), (.ldd t w, 8)])[0]; let m := 8; let o := 8; let k := ⟨0, true⟩; decide (dataLoc t a = .mem m o) && decide (a % e.2 = 0) && decide (s.memReady m = true) && decide (s.eccOf m (o / 8) = some k) && decide (k.poisoned = true)) &&
   (let s : State := ((State.reset).inited.setThr 129 { state := 1 }).setG 129 4 1; let t : Nat := 129; let w : Nat := 409600; decide (s.mayIssue t = true ∧ s.eccOf (instrMem t) ((s.thr t).pc / 8) = none ∧ (s.thr t).pred (opQP w) = true ∧ opFields w = true) && decide ((s.thr t).region = none) && let a := (s.g t (opRA w) + imm12 w).toNat; let e := ([(Instr.ldb t w, 1), (.ldh t w, 2), (.ldw t w, 4), (.ldd t w, 8)])[1]; decide (a % e.2 ≠ 0)) &&
   (let s : State := ((State.reset).inited.setThr 129 { state := 1 }).setG 129 4 262144; let t : Nat := 129; let w : Nat := 409600; decide (s.mayIssue t = true ∧ s.eccOf (instrMem t) ((s.thr t).pc / 8) = none ∧ (s.thr t).pred (opQP w) = true ∧ opFields w = true) && decide ((s.thr t).region = none) && let a := (s.g t (opRA w) + imm12 w).toNat; let e := ([(Instr.ldb t w, 1), (.ldh t w, 2), (.ldw t w, 4), (.ldd t w, 8)])[0]; decide (dataLoc t a = .none) && decide (a % e.2 = 0)) &&
   (let s : State := ((State.reset).inited.setThr 129 { state := 1 }).setG 129 4 8589934592; let t : Nat := 129; let w : Nat := 409600; decide (s.mayIssue t = true ∧ s.eccOf (instrMem t) ((s.thr t).pc / 8) = none ∧ (s.thr t).pred (opQP w) = true ∧ opFields w = true) && decide ((s.thr t).region = none) && let a := (s.g t (opRA w) + imm12 w).toNat; let e := ([(Instr.ldb t w, 1), (.ldh t w, 2), (.ldw t w, 4), (.ldd t w, 8)])[2]; let off := 0; decide (dataLoc t a = .window off) && decide (a % e.2 = 0) && decide (widthOk off e.2 = true))) = true ∧
  ((let s : State := ((State.reset).inited.setThr 129 { state := 1 }).setG 129 4 8589934592; let t : Nat := 129; let w : Nat := 409600; decide (s.mayIssue t = true ∧ s.eccOf (instrMem t) ((s.thr t).pc / 8) = none ∧ (s.thr t).pred (opQP w) = true ∧ opFields w = true) && decide ((s.thr t).region = none) && let a := (s.g t (opRA w) + imm12 w).toNat; let e := ([(Instr.ldb t w, 1), (.ldh t w, 2), (.ldw t w, 4), (.ldd t w, 8)])[0]; let off := 0; decide (dataLoc t a = .window off) && decide (a % e.2 = 0) && decide (widthOk off e.2 = false))) = true :=
  ⟨by decide +kernel, by decide +kernel⟩

/-- The hypotheses of `Obligations.OcellStores` are met: each clause at a state and operands. -/
theorem test_hyps_OcellStores :
  ((let s : State := (((State.reset).inited.setThr 129 { state := 1 }).setG 129 4 8).setG 129 3 77; let t : Nat := 129; let w : Nat := 409600; decide (s.mayIssue t = true ∧ s.eccOf (instrMem t) ((s.thr t).pc / 8) = none ∧ (s.thr t).pred (opQP w) = true ∧ opFields w = true) && decide ((s.thr t).region = none) && let a := (s.g t (opRA w) + imm12 w).toNat; let e := ([(Instr.stb t w, 1), (.sth t w, 2), (.stw t w, 4), (.std t w, 8)])[3]; let m := 8; let o := 8; decide (dataLoc t a = .mem m o) && decide (a % e.2 = 0) && decide ((s.eccOf m (o / 8) = none ∨ e.2 = 8))) &&
   (let s : State := (((State.reset).inited.setThr 129 { state := 1 }).eccWith 8 1 ⟨3, true⟩).setG 129 4 8; let t : Nat := 129; let w : Nat := 409600; decide (s.mayIssue t = true ∧ s.eccOf (instrMem t) ((s.thr t).pc / 8) = none ∧ (s.thr t).pred (opQP w) = true ∧ opFields w = true) && decide ((s.thr t).region = none) && let a := (s.g t (opRA w) + imm12 w).toNat; let e := ([(Instr.stb t w, 1), (.sth t w, 2), (.stw t w, 4), (.std t w, 8)])[2]; let m := 8; let o := 8; let k := ⟨3, true⟩; decide (dataLoc t a = .mem m o) && decide (a % e.2 = 0) && decide (e.2 < 8) && decide (s.eccOf m (o / 8) = some k) && decide (k.poisoned = true)) &&
   (let s : State := (((State.reset).inited.setThr 129 { state := 1 }).eccWith 8 1 ⟨3, false⟩).setG 129 4 15; let t : Nat := 129; let w : Nat := 409600; decide (s.mayIssue t = true ∧ s.eccOf (instrMem t) ((s.thr t).pc / 8) = none ∧ (s.thr t).pred (opQP w) = true ∧ opFields w = true) && decide ((s.thr t).region = none) && let a := (s.g t (opRA w) + imm12 w).toNat; let e := ([(Instr.stb t w, 1), (.sth t w, 2), (.stw t w, 4), (.std t w, 8)])[0]; let m := 8; let o := 15; let k := ⟨3, false⟩; decide (dataLoc t a = .mem m o) && decide (a % e.2 = 0) && decide (e.2 < 8) && decide (s.eccOf m (o / 8) = some k) && decide (k.poisoned = false) && decide (2 ≤ s.decodeWeight k)) &&
   (let s : State := ((State.reset).inited.setThr 129 { state := 1 }).setG 129 4 7; let t : Nat := 129; let w : Nat := 409600; decide (s.mayIssue t = true ∧ s.eccOf (instrMem t) ((s.thr t).pc / 8) = none ∧ (s.thr t).pred (opQP w) = true ∧ opFields w = true) && decide ((s.thr t).region = none) && let a := (s.g t (opRA w) + imm12 w).toNat; let e := ([(Instr.stb t w, 1), (.sth t w, 2), (.stw t w, 4), (.std t w, 8)])[3]; decide (a % e.2 ≠ 0)) &&
   (let s : State := ((State.reset).inited.setThr 129 { state := 1 }).setG 129 4 262144; let t : Nat := 129; let w : Nat := 409600; decide (s.mayIssue t = true ∧ s.eccOf (instrMem t) ((s.thr t).pc / 8) = none ∧ (s.thr t).pred (opQP w) = true ∧ opFields w = true) && decide ((s.thr t).region = none) && let a := (s.g t (opRA w) + imm12 w).toNat; let e := ([(Instr.stb t w, 1), (.sth t w, 2), (.stw t w, 4), (.std t w, 8)])[0]; decide (dataLoc t a = .none) && decide (a % e.2 = 0)) &&
   (let s : State := ((State.reset).inited.setThr 129 { state := 1 }).setG 129 4 8589934592; let t : Nat := 129; let w : Nat := 409600; decide (s.mayIssue t = true ∧ s.eccOf (instrMem t) ((s.thr t).pc / 8) = none ∧ (s.thr t).pred (opQP w) = true ∧ opFields w = true) && decide ((s.thr t).region = none) && let a := (s.g t (opRA w) + imm12 w).toNat; let e := ([(Instr.stb t w, 1), (.sth t w, 2), (.stw t w, 4), (.std t w, 8)])[2]; let off := 0; decide (dataLoc t a = .window off) && decide (a % e.2 = 0) && decide (widthOk off e.2 = true))) = true :=
  by decide +kernel

/-- The hypotheses of `Obligations.OcellAtomics` are met: each clause at a state and operands. -/
theorem test_hyps_OcellAtomics :
  ((let s : State := ((((State.reset).inited.setThr 129 { state := 1 }).setG 129 4 8).setG 129 5 3).setMemWord 8 1 77; let t : Nat := 129; let w : Nat := 410240; decide (s.mayIssue t = true ∧ s.eccOf (instrMem t) ((s.thr t).pc / 8) = none ∧ (s.thr t).pred (opQP w) = true ∧ opFields w = true) && decide ((s.thr t).region = none) && let a := (s.g t (opRA w)).toNat; let m := 8; let o := 8; decide (fmtA w = true) && decide (a % 8 = 0) && decide (coreLoc t a 8 = some (m, o)) && decide (s.memReady m = true) && decide (s.eccOf m (o / 8) = none) && let old : Word := BitVec.ofNat 64 (s.memWord m (o / 8)); true) &&
   (let s : State := (((((State.reset).inited.setThr 129 { state := 1 }).setG 129 4 8).setG 129 5 3).setG 129 3 77).setMemWord 8 1 77; let t : Nat := 129; let w : Nat := 410240; decide (s.mayIssue t = true ∧ s.eccOf (instrMem t) ((s.thr t).pc / 8) = none ∧ (s.thr t).pred (opQP w) = true ∧ opFields w = true) && decide ((s.thr t).region = none) && let a := (s.g t (opRA w)).toNat; let m := 8; let o := 8; decide (fmtA w = true) && decide (a % 8 = 0) && decide (coreLoc t a 8 = some (m, o)) && decide (s.memReady m = true) && decide (s.eccOf m (o / 8) = none) && let old : Word := BitVec.ofNat 64 (s.memWord m (o / 8)); decide (old = s.g t (opRD w))) &&
   (let s : State := ((((State.reset).inited.setThr 129 { state := 1 }).setG 129 4 8).setG 129 5 3).setMemWord 8 1 77; let t : Nat := 129; let w : Nat := 410240; decide (s.mayIssue t = true ∧ s.eccOf (instrMem t) ((s.thr t).pc / 8) = none ∧ (s.thr t).pred (opQP w) = true ∧ opFields w = true) && decide ((s.thr t).region = none) && let a := (s.g t (opRA w)).toNat; let m := 8; let o := 8; decide (fmtA w = true) && decide (a % 8 = 0) && decide (coreLoc t a 8 = some (m, o)) && decide (s.memReady m = true) && decide (s.eccOf m (o / 8) = none) && let old : Word := BitVec.ofNat 64 (s.memWord m (o / 8)); decide (old ≠ s.g t (opRD w))) &&
   (let s : State := ((State.reset).inited.setThr 129 { state := 1 }).setG 129 4 7; let t : Nat := 129; let w : Nat := 410240; decide (s.mayIssue t = true ∧ s.eccOf (instrMem t) ((s.thr t).pc / 8) = none ∧ (s.thr t).pred (opQP w) = true ∧ opFields w = true) && decide ((s.thr t).region = none) && let a := (s.g t (opRA w)).toNat; decide (fmtA w = true) && decide (a % 8 ≠ 0)) &&
   (let s : State := (State.reset).inited.setThr 129 { state := 1 }; let t : Nat := 129; let w : Nat := 0; decide (s.mayIssue t = true ∧ s.eccOf (instrMem t) ((s.thr t).pc / 8) = none ∧ (s.thr t).pred (opQP w) = true ∧ opFields w = true) && decide ((s.thr t).region = none) && decide (fenceOk w = true) && decide ((opPX w ≠ 0 ∨ s.cmdRuns t = false))) &&
   (let s : State := ((State.reset).inited.setThr 129 { state := 1 }).slcWith (fun x => { x with flush := some ⟨5, true, 129, 0, 0, 0, 0, 0⟩ }); let t : Nat := 129; let w : Nat := 0; decide (s.mayIssue t = true ∧ s.eccOf (instrMem t) ((s.thr t).pc / 8) = none ∧ (s.thr t).pred (opQP w) = true ∧ opFields w = true) && decide ((s.thr t).region = none) && decide (fenceOk w = true) && decide (opPX w = 0) && decide (s.cmdRuns t = true))) = true :=
  by decide +kernel

/-- The hypotheses of `Obligations.OcellHandles` are met: each clause at a state and operands. -/
theorem test_hyps_OcellHandles :
  ((let s : State := ((State.reset).inited.setThr 129 { state := 1 }).setG 129 4 65535; let t : Nat := 129; let w : Nat := 410240; decide (s.mayIssue t = true ∧ s.eccOf (instrMem t) ((s.thr t).pc / 8) = none ∧ (s.thr t).pred (opQP w) = true ∧ opFields w = true) && decide ((s.thr t).region = none) && decide (fmtA w = true) && let c := (s.g t (opRA w)).toNat; decide (opRD w < 8) && decide (c < 65536)) &&
   (let s : State := ((State.reset).inited.setThr 129 { state := 1 }).setG 129 4 65536; let t : Nat := 129; let w : Nat := 410240; decide (s.mayIssue t = true ∧ s.eccOf (instrMem t) ((s.thr t).pc / 8) = none ∧ (s.thr t).pred (opQP w) = true ∧ opFields w = true) && decide ((s.thr t).region = none) && decide (fmtA w = true) && let c := (s.g t (opRA w)).toNat; decide (opRD w < 8) && decide (65536 ≤ c)) &&
   (let s : State := (State.reset).inited.setThr 129 { state := 1 }; let t : Nat := 129; let w : Nat := 410240; decide (s.mayIssue t = true ∧ s.eccOf (instrMem t) ((s.thr t).pc / 8) = none ∧ (s.thr t).pred (opQP w) = true ∧ opFields w = true) && decide ((s.thr t).region = none) && decide (fmtA w = true) && decide (opRA w < 8)) &&
   (let s : State := (((State.reset).inited.setThr 129 { state := 1, h := [(4, 0x8000000800000007)] }).setLink 7 ⟨0, true, false⟩).up; let t : Nat := 129; let w : Nat := 410240; decide (s.mayIssue t = true ∧ s.eccOf (instrMem t) ((s.thr t).pc / 8) = none ∧ (s.thr t).pred (opQP w) = true ∧ opFields w = true) && decide ((s.thr t).region = none) && decide (fmtA w = true) && let n := (s.g t (opRB w)).toNat; let h := (s.thr t).handle (opRA w); decide (opRA w < 8) && let e := ([(Instr.hldb t w, 1), (.hldd t w, 8)])[1]; let ps := [(1792, 8)]; decide (s.framePieces h n e.2 = some ps) && decide (s.memReady 0 = true) && decide ((∀ p ∈ ps, ∀ x ∈ wordsOf p.1 p.2, s.eccOf 0 x = none))) &&
   (let s : State := (((State.reset).inited.setThr 129 { state := 1, h := [(4, 0x8000000800000007)] }).setLink 7 ⟨0, true, false⟩).setG 129 5 1; let t : Nat := 129; let w : Nat := 410240; decide (s.mayIssue t = true ∧ s.eccOf (instrMem t) ((s.thr t).pc / 8) = none ∧ (s.thr t).pred (opQP w) = true ∧ opFields w = true) && decide ((s.thr t).region = none) && decide (fmtA w = true) && let n := (s.g t (opRB w)).toNat; let h := (s.thr t).handle (opRA w); decide (opRA w < 8) && let e := ([(Instr.hldb t w, 1), (.hldd t w, 8)])[1]; decide (s.framePieces h n e.2 = none)) &&
   (let s : State := ((State.reset).inited.setThr 129 { state := 1, h := [(4, 0x8000000800000007)] }).setLink 7 ⟨0, true, false⟩; let t : Nat := 129; let w : Nat := 410240; decide (s.mayIssue t = true ∧ s.eccOf (instrMem t) ((s.thr t).pc / 8) = none ∧ (s.thr t).pred (opQP w) = true ∧ opFields w = true) && decide ((s.thr t).region = none) && decide (fmtA w = true) && let n := (s.g t (opRB w)).toNat; let h := (s.thr t).handle (opRA w); decide (opRA w < 8) && let e := ([(Instr.hstb t w, 1), (.hstd t w, 8)])[1]; let ps := [(1792, 8)]; decide (s.framePieces h n e.2 = some ps) && decide ((∀ p ∈ ps, ∀ x ∈ wordsOf p.1 p.2, s.eccOf 0 x = none)))) = true ∧
  ((let s : State := (((State.reset).inited.setThr 129 { state := 1, h := [(4, 0x8000000800000007)] }).setLink 7 ⟨0, true, false⟩).setG 129 5 8; let t : Nat := 129; let w : Nat := 410240; decide (s.mayIssue t = true ∧ s.eccOf (instrMem t) ((s.thr t).pc / 8) = none ∧ (s.thr t).pred (opQP w) = true ∧ opFields w = true) && decide ((s.thr t).region = none) && decide (fmtA w = true) && let n := (s.g t (opRB w)).toNat; let h := (s.thr t).handle (opRA w); decide (opRA w < 8) && let e := ([(Instr.hstb t w, 1), (.hstd t w, 8)])[0]; decide (s.framePieces h n e.2 = none)) &&
   (let s : State := ((State.reset).inited.setThr 129 { state := 1 }).setG 129 5 256; let t : Nat := 129; let w : Nat := 410240; decide (s.mayIssue t = true ∧ s.eccOf (instrMem t) ((s.thr t).pc / 8) = none ∧ (s.thr t).pred (opQP w) = true ∧ opFields w = true) && decide ((s.thr t).region = none) && decide (fmtA w = true) && let i := s.issued t; let n := (s.g t (opRB w)).toNat; decide (opRD w < 8) && decide (1 ≤ n) && decide (n ≤ 16384) && (match i.allocFloor n with | (some (x :: xs), v) => true | _ => false)) &&
   (let s : State := (((State.reset).inited.setThr 129 { state := 1 }).setG 129 5 16384).setFld F.RUN_CELL_CTL_HALLOC_FLOOR 65535; let t : Nat := 129; let w : Nat := 410240; decide (s.mayIssue t = true ∧ s.eccOf (instrMem t) ((s.thr t).pc / 8) = none ∧ (s.thr t).pred (opQP w) = true ∧ opFields w = true) && decide ((s.thr t).region = none) && decide (fmtA w = true) && let i := s.issued t; let n := (s.g t (opRB w)).toNat; decide (opRD w < 8) && decide (1 ≤ n) && decide (n ≤ 16384) && (match i.allocFloor n with | (none, v) => true | _ => false)) &&
   (let s : State := ((State.reset).inited.setThr 129 { state := 1, h := [(4, 0x8000000800000007)] }).setLink 7 ⟨0, true, false⟩; let t : Nat := 129; let w : Nat := 410240; decide (s.mayIssue t = true ∧ s.eccOf (instrMem t) ((s.thr t).pc / 8) = none ∧ (s.thr t).pred (opQP w) = true ∧ opFields w = true) && decide ((s.thr t).region = none) && decide (fmtA w = true) && let h := (s.thr t).handle (opRA w); decide (opRA w < 8) && decide (handleOk h = true))) = true :=
  ⟨by decide +kernel, by decide +kernel⟩

/-- The hypotheses of `Obligations.OcellRunnels` are met: each clause at a state and operands. -/
theorem test_hyps_OcellRunnels :
  ((let s : State := ((((State.reset).inited.setThr 129 { state := 1 }).setFld F.RUN_CFG_EN 1 255).setG 129 4 255).setG 129 3 5; let t : Nat := 129; let w : Nat := 409600; decide (s.mayIssue t = true ∧ s.eccOf (instrMem t) ((s.thr t).pc / 8) = none ∧ (s.thr t).pred (opQP w) = true ∧ opFields w = true) && decide ((s.thr t).region = none) && let i := s.issued t; let n := (s.g t (opRA w) + imm12 w).toNat % 256; let k := bits w 0 8; let q := (s.g t (opRA w)).toNat % 256; decide (i.popsBefore t n = [])) &&
   (let s : State := ((((State.reset).inited.setThr 129 { state := 1 }).setFld F.RUN_CFG_EN 1 255).setG 129 4 255).setG 129 3 5; let t : Nat := 129; let w : Nat := 409600; decide (s.mayIssue t = true ∧ s.eccOf (instrMem t) ((s.thr t).pc / 8) = none ∧ (s.thr t).pred (opQP w) = true ∧ opFields w = true) && decide ((s.thr t).region = none) && let i := s.issued t; let n := (s.g t (opRA w) + imm12 w).toNat % 256; let k := bits w 0 8; let q := (s.g t (opRA w)).toNat % 256; decide (s.runnelOn n = true) && decide (s.pushReady t n 1 = true)) &&
   (let s : State := ((((State.reset).inited.setThr 129 { state := 1 }).setFld F.RUN_CFG_EN 1 5).setRunnel 5 { words := List.replicate 4096 ⟨0, false, false⟩ }).setG 129 4 5; let t : Nat := 129; let w : Nat := 409600; decide (s.mayIssue t = true ∧ s.eccOf (instrMem t) ((s.thr t).pc / 8) = none ∧ (s.thr t).pred (opQP w) = true ∧ opFields w = true) && decide ((s.thr t).region = none) && let i := s.issued t; let n := (s.g t (opRA w) + imm12 w).toNat % 256; let k := bits w 0 8; let q := (s.g t (opRA w)).toNat % 256; decide (s.runnelOn n = true) && decide (s.pushReady t n 1 = false)) &&
   (let s : State := (((State.reset).inited.setThr 129 { state := 1 }).setFld F.RUN_CFG_EN 1 5).setG 129 4 5; let t : Nat := 129; let w : Nat := 409600; decide (s.mayIssue t = true ∧ s.eccOf (instrMem t) ((s.thr t).pc / 8) = none ∧ (s.thr t).pred (opQP w) = true ∧ opFields w = true) && decide ((s.thr t).region = none) && let i := s.issued t; let n := (s.g t (opRA w) + imm12 w).toNat % 256; let k := bits w 0 8; let q := (s.g t (opRA w)).toNat % 256; decide (opRD w ≤ 28) && decide (s.runnelOn n = true) && decide (s.pushReady t n 4 = true)) &&
   (let s : State := ((State.reset).inited.setThr 129 { state := 1 }).setFld F.RUN_CFG_EN 1 5; let t : Nat := 129; let w : Nat := 1122309; decide (s.mayIssue t = true ∧ s.eccOf (instrMem t) ((s.thr t).pc / 8) = none ∧ (s.thr t).pred (opQP w) = true ∧ opFields w = true) && decide ((s.thr t).region = none) && let i := s.issued t; let n := (s.g t (opRA w) + imm12 w).toNat % 256; let k := bits w 0 8; let q := (s.g t (opRA w)).toNat % 256; let key := s.fld F.TWN_RUNNEL_KEY_RUNNEL; decide (opI w = true) && decide (bits w 8 5 = 0) && decide (s.runnelOn k = true) && decide (s.pushReady t k 1 = true) && decide ((t ≠ 129 ∨ k ≠ key))) &&
   (let s : State := ((State.reset).inited.setThr 129 { state := 1 }).setFld F.RUN_CFG_EN 1 5; let t : Nat := 129; let w : Nat := 1122309; decide (s.mayIssue t = true ∧ s.eccOf (instrMem t) ((s.thr t).pc / 8) = none ∧ (s.thr t).pred (opQP w) = true ∧ opFields w = true) && decide ((s.thr t).region = none) && let i := s.issued t; let n := (s.g t (opRA w) + imm12 w).toNat % 256; let k := bits w 0 8; let q := (s.g t (opRA w)).toNat % 256; let z := i.servePushes t k; decide (opI w = true) && decide (bits w 8 5 = 0) && decide (s.runnelOn k = true) && decide (1 ≤ z.runnelRoom k))) = true ∧
  ((let s : State := (((State.reset).inited.setThr 129 { state := 1 }).setFld F.RUN_CFG_EN 1 5).setRunnel 5 { words := List.replicate 4096 ⟨0, false, false⟩ }; let t : Nat := 129; let w : Nat := 1122309; decide (s.mayIssue t = true ∧ s.eccOf (instrMem t) ((s.thr t).pc / 8) = none ∧ (s.thr t).pred (opQP w) = true ∧ opFields w = true) && decide ((s.thr t).region = none) && let i := s.issued t; let n := (s.g t (opRA w) + imm12 w).toNat % 256; let k := bits w 0 8; let q := (s.g t (opRA w)).toNat % 256; let z := i.servePushes t k; decide (opI w = true) && decide (bits w 8 5 = 0) && decide (s.runnelOn k = true) && decide (z.runnelRoom k = 0)) &&
   (let s : State := (((State.reset).inited.setThr 129 { state := 1 }).setFld F.RUN_CFG_EN 1 5).setRunnel 5 { words := List.replicate 4096 ⟨0, false, false⟩ }; let t : Nat := 129; let w : Nat := 1122309; decide (s.mayIssue t = true ∧ s.eccOf (instrMem t) ((s.thr t).pc / 8) = none ∧ (s.thr t).pred (opQP w) = true ∧ opFields w = true) && decide ((s.thr t).region = none) && let i := s.issued t; let n := (s.g t (opRA w) + imm12 w).toNat % 256; let k := bits w 0 8; let q := (s.g t (opRA w)).toNat % 256; decide (opI w = true) && decide (bits w 8 5 = 0) && decide (s.runnelOn k = true) && decide (s.runnelRoom k = 0) && decide ((s.runnel k).waiting = []) && decide ((s.runnel k).ringWaits = []) && decide (s.pushesBefore k t = [])) &&
   (let s : State := (State.reset).inited.setThr 129 { state := 1 }; let t : Nat := 129; let w : Nat := 409600; decide (s.mayIssue t = true ∧ s.eccOf (instrMem t) ((s.thr t).pc / 8) = none ∧ (s.thr t).pred (opQP w) = true ∧ opFields w = true) && decide ((s.thr t).region = none) && let i := s.issued t; let n := (s.g t (opRA w) + imm12 w).toNat % 256; let k := bits w 0 8; let q := (s.g t (opRA w)).toNat % 256; true) &&
   (let s : State := ((((State.reset).inited.setThr 129 { state := 1 }).setFld F.RUN_CFG_EN 1 5).setG 129 4 5).setRunnel 5 { words := [mkWord 9] }; let t : Nat := 129; let w : Nat := 409600; decide (s.mayIssue t = true ∧ s.eccOf (instrMem t) ((s.thr t).pc / 8) = none ∧ (s.thr t).pred (opQP w) = true ∧ opFields w = true) && decide ((s.thr t).region = none) && let i := s.issued t; let n := (s.g t (opRA w) + imm12 w).toNat % 256; let k := bits w 0 8; let q := (s.g t (opRA w)).toNat % 256; let v := i.servePops t n; decide (s.runnelOn n = true) && decide (1 ≤ v.poppable n) && decide ((v.popWords n 1).1.any RunWord.isBad = false)) &&
   (let s : State := ((((State.reset).inited.setThr 129 { state := 1 }).setFld F.RUN_CFG_EN 1 5).setG 129 4 5).setRunnel 5 { words := [mkWord 9, mkWord 8, mkWord 7, mkWord 6] }; let t : Nat := 129; let w : Nat := 409600; decide (s.mayIssue t = true ∧ s.eccOf (instrMem t) ((s.thr t).pc / 8) = none ∧ (s.thr t).pred (opQP w) = true ∧ opFields w = true) && decide ((s.thr t).region = none) && let i := s.issued t; let n := (s.g t (opRA w) + imm12 w).toNat % 256; let k := bits w 0 8; let q := (s.g t (opRA w)).toNat % 256; let v := i.servePops t n; decide (opRD w ≤ 28) && decide (s.runnelOn n = true) && decide (4 ≤ v.poppable n) && decide ((v.popWords n 4).1.any RunWord.isBad = false)) &&
   (let s : State := (((State.reset).inited.setThr 129 { state := 1 }).setFld F.RUN_CFG_EN 1 5).setG 129 4 5; let t : Nat := 129; let w : Nat := 409600; decide (s.mayIssue t = true ∧ s.eccOf (instrMem t) ((s.thr t).pc / 8) = none ∧ (s.thr t).pred (opQP w) = true ∧ opFields w = true) && decide ((s.thr t).region = none) && let i := s.issued t; let n := (s.g t (opRA w) + imm12 w).toNat % 256; let k := bits w 0 8; let q := (s.g t (opRA w)).toNat % 256; let v := i.servePops t n; decide (s.runnelOn n = true) && decide (v.poppable n = 0))) = true ∧
  ((let s : State := ((((State.reset).inited.setThr 129 { state := 1 }).setFld F.RUN_CFG_EN 1 5).setG 129 4 5).setRunnel 5 { words := [mkWord 9] }; let t : Nat := 129; let w : Nat := 409601; decide (s.mayIssue t = true ∧ s.eccOf (instrMem t) ((s.thr t).pc / 8) = none ∧ (s.thr t).pred (opQP w) = true ∧ opFields w = true) && decide ((s.thr t).region = none) && let i := s.issued t; let n := (s.g t (opRA w) + imm12 w).toNat % 256; let k := bits w 0 8; let q := (s.g t (opRA w)).toNat % 256; let y := i.servePops t q; decide (fmtA w = true) && decide (s.runnelOn q = true) && decide (1 ≤ y.poppable q) && decide ((y.popWords q 1).1.any RunWord.isBad = false)) &&
   (let s : State := ((((State.reset).inited.setThr 129 { state := 1 }).setFld F.RUN_CFG_EN 1 5).setG 129 4 5).setG 129 5 4294967295; let t : Nat := 129; let w : Nat := 410241; decide (s.mayIssue t = true ∧ s.eccOf (instrMem t) ((s.thr t).pc / 8) = none ∧ (s.thr t).pred (opQP w) = true ∧ opFields w = true) && decide ((s.thr t).region = none) && let i := s.issued t; let n := (s.g t (opRA w) + imm12 w).toNat % 256; let k := bits w 0 8; let q := (s.g t (opRA w)).toNat % 256; let y := i.servePops t q; decide (fmtA w = true) && decide (s.runnelOn q = true) && decide (y.poppable q = 0) && decide ((s.g t (opRB w)).toNat % 2 ^ 32 ≠ 0)) &&
   (let s : State := (((State.reset).inited.setThr 129 { state := 1 }).setFld F.RUN_CFG_EN 1 5).setG 129 4 5; let t : Nat := 129; let w : Nat := 409600; decide (s.mayIssue t = true ∧ s.eccOf (instrMem t) ((s.thr t).pc / 8) = none ∧ (s.thr t).pred (opQP w) = true ∧ opFields w = true) && decide ((s.thr t).region = none) && let i := s.issued t; let n := (s.g t (opRA w) + imm12 w).toNat % 256; let k := bits w 0 8; let q := (s.g t (opRA w)).toNat % 256; decide (s.runnelOn n = true)) &&
   (let s : State := (((State.reset).inited.setThr 129 { state := 1 }).setFld F.RUN_CFG_EN 0 200).setG 129 4 200; let t : Nat := 129; let w : Nat := 409600; decide (s.mayIssue t = true ∧ s.eccOf (instrMem t) ((s.thr t).pc / 8) = none ∧ (s.thr t).pred (opQP w) = true ∧ opFields w = true) && decide ((s.thr t).region = none) && let i := s.issued t; let n := (s.g t (opRA w) + imm12 w).toNat % 256; let k := bits w 0 8; let q := (s.g t (opRA w)).toNat % 256; decide (s.runnelOn n = false))) = true :=
  ⟨by decide +kernel, by decide +kernel, by decide +kernel⟩

/-- The hypotheses of `Obligations.OcellTimeAndTables` are met: each clause at a state and operands. -/
theorem test_hyps_OcellTimeAndTables :
  ((let s : State := (State.reset).inited.setThr 129 { state := 1 }; let t : Nat := 129; let w : Nat := 410240; decide (s.mayIssue t = true ∧ s.eccOf (instrMem t) ((s.thr t).pc / 8) = none ∧ (s.thr t).pred (opQP w) = true ∧ opFields w = true) && decide (fmtA w = true)) &&
   (let s : State := (State.reset).inited.setThr 129 { state := 1 }; let t : Nat := 129; let w : Nat := 410240; decide (s.mayIssue t = true ∧ s.eccOf (instrMem t) ((s.thr t).pc / 8) = none ∧ (s.thr t).pred (opQP w) = true ∧ opFields w = true) && decide (fmtA w = true) && decide (opRD w ≤ 30)) &&
   (let s : State := (State.reset).inited.setThr 129 { state := 1 }; let t : Nat := 129; let w : Nat := 410240; decide (s.mayIssue t = true ∧ s.eccOf (instrMem t) ((s.thr t).pc / 8) = none ∧ (s.thr t).pred (opQP w) = true ∧ opFields w = true) && let a := (s.g t (opRA w)).toNat; decide (fmtA w = true) && decide (s.ahead (a % 2 ^ 32) = false)) &&
   (let s : State := ((State.reset).inited.setThr 129 { state := 1 }).setG 129 4 2147483647; let t : Nat := 129; let w : Nat := 410240; decide (s.mayIssue t = true ∧ s.eccOf (instrMem t) ((s.thr t).pc / 8) = none ∧ (s.thr t).pred (opQP w) = true ∧ opFields w = true) && let a := (s.g t (opRA w)).toNat; decide (fmtA w = true) && decide (s.ahead (a % 2 ^ 32) = true)) &&
   (let s : State := ((State.reset).inited.setThr 129 { state := 1 }).setG 129 4 8; let t : Nat := 129; let w : Nat := 410240; decide (s.mayIssue t = true ∧ s.eccOf (instrMem t) ((s.thr t).pc / 8) = none ∧ (s.thr t).pred (opQP w) = true ∧ opFields w = true) && let a := (s.g t (opRA w)).toNat; decide (fmtA w = true) && decide ((s.thr t).region = none) && decide (a % 8 = 0) && decide (recordLoc t a = true)) &&
   (let s : State := ((((State.reset).inited.setThr 129 { state := 1 }).setG 129 4 5).setMemWord 1 23 77).up; let t : Nat := 129; let w : Nat := 409603; decide (s.mayIssue t = true ∧ s.eccOf (instrMem t) ((s.thr t).pc / 8) = none ∧ (s.thr t).pred (opQP w) = true ∧ opFields w = true) && let a := (s.g t (opRA w)).toNat; decide (bits w 2 10 = 0) && decide (s.memReady 1 = true) && decide (s.eccOf 1 (4 * (a % 2 ^ 19) + bits w 0 2) = none))) = true ∧
  ((let s : State := ((State.reset).inited.setThr 129 { state := 1 }).setFld F.GRT_STAT_DRBG_OK 1; let t : Nat := 129; let w : Nat := 410240; decide (s.mayIssue t = true ∧ s.eccOf (instrMem t) ((s.thr t).pc / 8) = none ∧ (s.thr t).pred (opQP w) = true ∧ opFields w = true) && decide (fmtA w = true) && decide (s.flag F.GRT_STAT_DRBG_OK = true)) &&
   (let s : State := (State.reset).inited.setThr 129 { state := 1 }; let t : Nat := 129; let w : Nat := 410240; decide (s.mayIssue t = true ∧ s.eccOf (instrMem t) ((s.thr t).pc / 8) = none ∧ (s.thr t).pred (opQP w) = true ∧ opFields w = true) && decide (fmtA w = true) && decide (s.flag F.GRT_STAT_DRBG_OK = false))) = true :=
  ⟨by decide +kernel, by decide +kernel⟩

/-- The hypotheses of `Obligations.OcellCrypto` are met: each clause at a state and operands. -/
theorem test_hyps_OcellCrypto :
  ((let s : State := (((State.reset).inited.setThr 129 { state := 1 }).setG 129 4 8).setG 129 5 48; let t : Nat := 129; let w : Nat := 410240; decide (s.mayIssue t = true ∧ s.eccOf (instrMem t) ((s.thr t).pc / 8) = none ∧ (s.thr t).pred (opQP w) = true ∧ opFields w = true) && decide ((s.thr t).region = none) && decide (fmtA w = true)) &&
   (let s : State := (((State.reset).inited.setThr 129 { state := 1 }).setG 129 4 8).setG 129 5 48; let t : Nat := 129; let w : Nat := 410240; decide (s.mayIssue t = true ∧ s.eccOf (instrMem t) ((s.thr t).pc / 8) = none ∧ (s.thr t).pred (opQP w) = true ∧ opFields w = true) && decide ((s.thr t).region = none) && decide (fmtA w = true) && let a := (s.g t (opRA w)).toNat; let b := (s.g t (opRB w)).toNat; let m := 8; let o := 8; let k := 8; let p := 48; decide (a % 8 = 0) && decide (b % 8 = 0) && decide (coreLoc t a 16 = some (m, o)) && decide (coreLoc t b 16 = some (k, p)) && decide (s.memReady m = true) && decide (s.memReady k = true) && decide ((∀ x ∈ wordsOf o 16, s.eccOf m x = none)) && decide ((∀ x ∈ wordsOf p 16, s.eccOf k x = none))) &&
   (let s : State := (((State.reset).inited.setThr 129 { state := 1 }).setG 129 4 8).setG 129 5 7; let t : Nat := 129; let w : Nat := 410240; decide (s.mayIssue t = true ∧ s.eccOf (instrMem t) ((s.thr t).pc / 8) = none ∧ (s.thr t).pred (opQP w) = true ∧ opFields w = true) && decide ((s.thr t).region = none) && decide (fmtA w = true) && let b := (s.g t (opRB w)).toNat; decide (b % 8 ≠ 0)) &&
   (let s : State := (((State.reset).inited.setThr 129 { state := 1 }).setG 129 4 7).setG 129 5 8; let t : Nat := 129; let w : Nat := 410240; decide (s.mayIssue t = true ∧ s.eccOf (instrMem t) ((s.thr t).pc / 8) = none ∧ (s.thr t).pred (opQP w) = true ∧ opFields w = true) && decide ((s.thr t).region = none) && decide (fmtA w = true) && let a := (s.g t (opRA w)).toNat; decide (a % 8 ≠ 0))) = true :=
  by decide +kernel

/-- The hypotheses of `Obligations.OcellRegions` are met: each clause at a state and operands. -/
theorem test_hyps_OcellRegions :
  ((let s : State := (State.reset).inited.setThr 129 { state := 1 }; let t : Nat := 129; let w : Nat := 8191; decide (s.mayIssue t = true ∧ s.eccOf (instrMem t) ((s.thr t).pc / 8) = none ∧ (s.thr t).pred (opQP w) = true ∧ opFields w = true) && let th := s.thr t; decide (th.region = none)) &&
   (let s : State := (State.reset).inited.setThr 129 { state := 1, region := some ⟨8, [], 1, [], 0, [], 0, [], none, false⟩ }; let t : Nat := 129; let w : Nat := 8191; decide (s.mayIssue t = true ∧ s.eccOf (instrMem t) ((s.thr t).pc / 8) = none ∧ (s.thr t).pred (opQP w) = true ∧ opFields w = true) && let th := s.thr t; let r : Region := ⟨8, [], 1, [], 0, [], 0, [], none, false⟩; decide (th.region = some r)) &&
   (let s : State := ((State.reset).inited.setThr 129 { state := 1, region := some ⟨8, [], 1, [], 0, [], 63, [], none, false⟩ }).setG 129 4 8; let t : Nat := 129; let w : Nat := 409600; decide (s.mayIssue t = true ∧ s.eccOf (instrMem t) ((s.thr t).pc / 8) = none ∧ (s.thr t).pred (opQP w) = true ∧ opFields w = true) && let th := s.thr t; let a := (s.g t (opRA w) + imm12 w).toNat; let r : Region := ⟨8, [], 1, [], 0, [], 63, [], none, false⟩; let m := 8; let o := 8; decide (th.region = some r) && decide (r.used < 64) && decide (dataLoc t a = .mem m o) && decide (a % 8 = 0)) &&
   (let s : State := ((State.reset).inited.setThr 129 { state := 1, region := some ⟨8, [], 1, [], 0, [], 64, [], none, false⟩ }).setG 129 4 8; let t : Nat := 129; let w : Nat := 409600; decide (s.mayIssue t = true ∧ s.eccOf (instrMem t) ((s.thr t).pc / 8) = none ∧ (s.thr t).pred (opQP w) = true ∧ opFields w = true) && let th := s.thr t; let a := (s.g t (opRA w) + imm12 w).toNat; let r : Region := ⟨8, [], 1, [], 0, [], 64, [], none, false⟩; let m := 8; let o := 8; decide (th.region = some r) && decide (r.used = 64) && decide (dataLoc t a = .mem m o) && decide (a % 8 = 0)) &&
   (let s : State := ((State.reset).inited.setThr 129 { state := 1, region := some ⟨8, [], 1, [], 0, [.write [(8, 8, List.replicate 8 3)] none], 1, [], none, false⟩ }).setG 129 4 8; let t : Nat := 129; let w : Nat := 409600; decide (s.mayIssue t = true ∧ s.eccOf (instrMem t) ((s.thr t).pc / 8) = none ∧ (s.thr t).pred (opQP w) = true ∧ opFields w = true) && let th := s.thr t; let a := (s.g t (opRA w) + imm12 w).toNat; let r : Region := ⟨8, [], 1, [], 0, [.write [(8, 8, List.replicate 8 3)] none], 1, [], none, false⟩; let m := 8; let o := 8; let f : Nat → Byte := fun _ => 3; decide (th.region = some r) && decide (dataLoc t a = .mem m o) && decide (a % 8 = 0) && decide (s.memReady m = true)) &&
   (let s : State := (State.reset).inited.setThr 129 { state := 1, region := some ⟨8, [], 1, [], 0, [], 0, [], none, false⟩ }; let t : Nat := 129; let w : Nat := 128; decide (s.mayIssue t = true ∧ s.eccOf (instrMem t) ((s.thr t).pc / 8) = none ∧ (s.thr t).pred (opQP w) = true ∧ opFields w = true) && let th := s.thr t; let r : Region := ⟨8, [], 1, [], 0, [], 0, [], none, false⟩; decide (th.region = some r) && decide (fmtA w = true))) = true ∧
  ((let s : State := (State.reset).inited.setThr 129 { state := 1, region := some ⟨8, [], 1, [], 0, [], 0, [], none, false⟩ }; let t : Nat := 129; let w : Nat := 1; decide (s.mayIssue t = true ∧ s.eccOf (instrMem t) ((s.thr t).pc / 8) = none ∧ (s.thr t).pred (opQP w) = true ∧ opFields w = true) && let th := s.thr t; let r : Region := ⟨8, [], 1, [], 0, [], 0, [], none, false⟩; decide (th.region = some r)) &&
   (let s : State := (State.reset).inited.setThr 129 { state := 1, region := some ⟨8, [], 1, [], 0, [], 0, [], none, false⟩ }; let t : Nat := 129; let w : Nat := 128; decide (s.mayIssue t = true ∧ s.eccOf (instrMem t) ((s.thr t).pc / 8) = none ∧ (s.thr t).pred (opQP w) = true ∧ opFields w = true) && let th := s.thr t; let r : Region := ⟨8, [], 1, [], 0, [], 0, [], none, false⟩; decide (th.region = some r) && decide (fmtA w = true) && decide (r.effects = []) && decide (r.poison = none) && decide (r.halt = false) && decide (th.wdDue = false) && decide (s.cht.specs = []))) = true ∧
  (let s : State := ((State.reset).inited.setThr 129 { state := 1, region := some ⟨8, [], 1, [], 0, [.write [(8, 8, List.replicate 8 3)] none], 1, [], none, false⟩ }).setG 129 4 8; let t : Nat := 129; let w : Nat := 409600; let th := s.thr t; let a := (s.g t (opRA w) + imm12 w).toNat; let r : Region := ⟨8, [], 1, [], 0, [.write [(8, 8, List.replicate 8 3)] none], 1, [], none, false⟩; let m := 8; let o := 8; let f : Nat → Byte := fun _ => 3; (∀ k, k < 8 → bufByte r.effects m (o + k) = some (f k))) :=
  ⟨by decide +kernel, by decide +kernel, (by dsimp only; intro k hk; interval_cases k <;> rfl)⟩

/-- The hypotheses of `Obligations.OcellWaits` are met: each clause at a state and operands. -/
theorem test_hyps_OcellWaits :
  ((let s : State := ((State.reset).inited.setThr 129 { state := 1, wait := some (.push 5 [9]) }).setFld F.RUN_CFG_EN 1 5; let t : Nat := 129; let n : Nat := 5; let ws : List Word := [9]; decide (s.threadLive t = true) && decide ((s.thr t).wait = some (.push n ws)) && decide (s.runnelOn n = true) && decide (s.pushReady t n ws.length = true)) &&
   (let s : State := (((State.reset).inited.setThr 129 { state := 1, wait := some (.push 5 [9]) }).setFld F.RUN_CFG_EN 1 5).setRunnel 5 { waiting := [(0, [mkWord 3])] }; let t : Nat := 129; let n : Nat := 5; let ws : List Word := [9]; decide (s.threadLive t = true) && decide ((s.thr t).wait = some (.push n ws)) && decide (s.runnelOn n = true) && decide (s.pushReady t n ws.length = false)) &&
   (let s : State := (((State.reset).inited.setThr 129 { state := 1, wait := some (.pop 5 1 3) }).setFld F.RUN_CFG_EN 1 5).setRunnel 5 { words := [mkWord 9] }; let t : Nat := 129; let n : Nat := 5; let k : Nat := 1; let rd : Nat := 3; decide (s.threadLive t = true) && decide ((s.thr t).wait = some (.pop n k rd)) && decide (s.runnelOn n = true) && decide (k ≤ s.poppable n) && decide (s.popsBefore t n = []) && decide ((s.popWords n k).1.any RunWord.isBad = false)) &&
   (let s : State := ((State.reset).inited.setThr 129 { state := 1, wait := some (.pop 5 1 3) }).setFld F.RUN_CFG_EN 0 5; let t : Nat := 129; let n : Nat := 5; let k : Nat := 1; let rd : Nat := 3; decide (s.threadLive t = true) && decide ((s.thr t).wait = some (.pop n k rd)) && decide (s.runnelOn n = false) && decide (s.popsBefore t n = [])) &&
   (let s : State := (((State.reset).inited.setThr 129 { state := 1, wait := some (.pop 5 1 3) }).setFld F.RUN_CFG_EN 1 5).setRunnel 5 { words := [mkWord 9] }; let t : Nat := 129; let n : Nat := 5; let k : Nat := 1; let rd : Nat := 3; decide ((s.thr t).wait = some (.pop n k rd))) &&
   (let s : State := (State.reset).inited.setThr 129 { state := 1, wait := some (.popw 5 3 2 100) }; let t : Nat := 129; let n : Nat := 5; let rd : Nat := 3; let px : Nat := 2; let due : Nat := 100; decide (s.threadLive t = true) && decide ((s.thr t).wait = some (.popw n rd px due)) && decide ((s.advanceTo due).poppable n = 0) && decide ((s.advanceTo due).popsBefore t n = []))) = true ∧
  ((let s : State := (State.reset).inited.setThr 129 { state := 1, wait := some (.waitt 100) }; let t : Nat := 129; let target : Nat := 100; decide (s.threadLive t = true) && decide ((s.thr t).wait = some (.waitt target)) && decide (s.ahead target = true)) &&
   (let s : State := (State.reset).inited.setThr 129 { state := 1, wait := some (.waitt 0) }; let t : Nat := 129; let target : Nat := 0; decide (s.threadLive t = true) && decide ((s.thr t).wait = some (.waitt target)) && decide (s.ahead target = false)) &&
   (let s : State := (State.reset).inited.setThr 129 { state := 1, wait := some (.tcmd 8) }; let t : Nat := 129; let a : Nat := 8; decide (s.threadLive t = true) && decide ((s.thr t).wait = some (.tcmd a))) &&
   (let s : State := ((State.reset).inited.setThr 129 { state := 1, wait := some (.tfind 7 0 3) }).up; let t : Nat := 129; let eui : Nat := 7; let cls : Nat := 0; let rd : Nat := 3; decide (s.threadLive t = true) && decide (s.memReady 1 = true) && decide ((s.thr t).wait = some (.tfind eui cls rd)) && decide ((s.thr t).region = none) && (match (s.bump F.SLC_CNT_LOOKUP_COUNT).readSlots ((List.range 4).map (bucketBase eui cls 0 + ·) ++ (List.range 4).map (bucketBase eui cls 1 + ·)) with | (es, none, u) => true | _ => false)) &&
   (let s : State := ((State.reset).inited.setThr 129 { state := 1, wait := some (.rnd 3) }).setFld F.GRT_STAT_DRBG_OK 1; let t : Nat := 129; let rd : Nat := 3; decide (s.threadLive t = true) && decide (s.flag F.GRT_STAT_DRBG_OK = true) && decide ((s.thr t).wait = some (.rnd rd))) &&
   (let s : State := (State.reset).inited.setThr 129 { state := 1, wait := some (.load 0 4 3) }; let t : Nat := 129; let off : Nat := 0; let n : Nat := 4; let rd : Nat := 3; decide (s.threadLive t = true) && decide ((s.thr t).wait = some (.load off n rd)) && decide (s.readReady off = true))) = true ∧
  ((let s : State := (State.reset).inited.setThr 129 { state := 1, wait := some (.store 0x40000C 4 1) }; let t : Nat := 129; let off : Nat := 0x40000C; let n : Nat := 4; let v : Word := 1; decide (s.threadLive t = true) && decide ((s.thr t).wait = some (.store off n v)) && decide (((s.nextCycle.busWrite t off n v).thr t).wait = some (.store off n v)))) = true :=
  ⟨by decide +kernel, by decide +kernel, by decide +kernel⟩

/-- The hypotheses of `Obligations.ThreadCommands` are met: each clause at a state and operands. -/
theorem test_hyps_ThreadCommands :
  ((let s : State := (State.reset).up; let t : Nat := 127; decide (t < 128) && decide ((s.thr t).state = 0) && decide (s.released = true)) &&
   (let s : State := ((State.reset).setThr 127 { state := 2 }).up; let t : Nat := 127; decide (t < 128) && decide ((s.thr t).runs = true) && decide (s.released = true)) &&
   (let s : State := ((State.reset).setThr 127 { state := 4 }).up; let t : Nat := 127; decide (t < 128) && decide (1 ≤ (s.thr t).state) && decide ((s.thr t).state ≤ 4) && decide (s.released = true)) &&
   (let s : State := ((State.reset).setThr 127 { state := 1 }).up; let t : Nat := 127; decide (t < 128) && decide ((s.thr t).runs = true) && decide ((s.thr t).wait ≠ some .seal) && decide (s.released = true)) &&
   (let s : State := ((State.reset).setThr 127 { state := 3 }).up; let t : Nat := 127; decide (t < 128) && decide ((s.thr t).state = 3) && decide (s.released = true)) &&
   (let s : State := ((State.reset).setThr 127 { state := 1 }).up; let t : Nat := 127; decide (t < 128) && decide ((s.thr t).state ≠ 3) && decide (s.released = true))) = true ∧
  ((let s : State := ((State.reset).inited.setThr 129 { state := 1 }).up; decide (s.unlocked = true) && decide ((s.thr 129).runs = true) && decide ((s.thr 129).wait ≠ some .seal) && decide (s.released = true)) &&
   (let s : State := ((State.reset).setThr 129 { state := 3 }).up; decide (s.unlocked = true) && decide ((s.thr 129).state = 3) && decide (s.bot.romHalt = false) && decide (s.released = true)) &&
   (let s : State := (((State.reset).inited.setThr 129 { state := 1 }).grtWith (fun x => { x with jtagLock := true })).up; let d : Word := 0; decide (s.unlocked = false) && decide (s.released = true))) = true :=
  ⟨by decide +kernel, by decide +kernel⟩

/-- The hypotheses of `Obligations.Watchdogs` are met: each clause at a state and operands. -/
theorem test_hyps_Watchdogs :
  ((let s : State := ((State.reset).setFld F.OCL_WD_EN 1 3 31).setThr 127 { state := 1, stage := true }; let t : Nat := 127; decide (t < 128) && decide (s.wdEn t = true) && decide ((s.thr t).runs = true) && decide ((s.thr t).stage = true)) &&
   (let s : State := ((State.reset).setFld F.OCL_WD_EN 1 3 31).setThr 127 { state := 1, evec := 16 }; let t : Nat := 127; decide (t < 128) && decide (s.wdEn t = true) && decide ((s.thr t).state = 1) && decide ((s.thr t).wait = none) && decide ((s.thr t).stage = false) && decide ((s.thr t).region = none) && decide ((s.thr t).exc = false) && decide ((s.thr t).evec ≠ 0)) &&
   (let s : State := ((State.reset).setFld F.OCL_WD_EN 1 3 31).setThr 127 { state := 1, exc := true }; let t : Nat := 127; decide (t < 128) && decide (s.wdEn t = true) && decide ((s.thr t).state = 1) && decide ((s.thr t).stage = false) && decide ((s.thr t).region = none) && decide ((s.thr t).exc = true)) &&
   (let s : State := (State.reset).setThr 127 { state := 1 }; let k : Nat := 31; decide (k < 32))) = true ∧
  (let s : State := (State.reset).setThr 127 { state := 1 }; let k : Nat := 31; (∃ x, x < 4 ∧ (s.thr (4 * k + x)).state = 1)) :=
  ⟨by decide +kernel, (by exact ⟨3, by decide, rfl⟩)⟩

/-- The hypotheses of `Obligations.RunnelCommands` are met: each clause at a state and operands. -/
theorem test_hyps_RunnelCommands :
  ((let s : State := ((State.reset).setFld F.RUN_CFG_EN 0 255).up; let n : Nat := 255; let d : Word := 0; decide (n < 256) && decide (s.flag F.RUN_CFG_EN n = false) && decide (s.released = true)) &&
   (let s : State := ((State.reset).setFld F.RUN_CFG_EN 1 255).up; let n : Nat := 255; decide (n < 256) && decide (s.flag F.RUN_CFG_EN n = true) && decide ((s.runnel n).disabling = false) && decide ((s.runnel n).words = []) && decide ((s.runnel n).waiting = []) && decide ((s.runnel n).ringWaits = []) && decide (s.released = true)) &&
   (let s : State := (((State.reset).setFld F.RUN_CFG_EN 1 5).setRunnel 5 { words := [mkWord 9] }).up; let n : Nat := 5; decide (n < 256) && decide (s.flag F.RUN_CFG_EN n = true) && decide ((s.runnel n).disabling = false) && decide ((s.runnel n).words ≠ []) && decide (s.released = true)) &&
   (let s : State := (((State.reset).setFld F.RUN_CFG_EN 1 5).setRunnel 5 { words := [mkWord 9, { mkWord 8 with parity := true }] }).up; let n : Nat := 5; let r := s.runnel n; let rest := min r.words.length (s.recordRest n); let whole := (r.words.length - rest) / s.recLen n; decide (n < 256) && decide (s.flag F.RUN_CFG_EN n = true) && decide (r.disabling = false) && decide (r.words ≠ []) && decide (s.fld F.RUN_CFG_CLASS n = 0) && decide (s.released = true)) &&
   (let s : State := (State.reset).setRunnel 5 { disabling := true }; let n : Nat := 5; decide (n < 256) && decide ((s.runnel n).disabling = true)) &&
   (let s : State := (State.reset).setRunnel 5 { waiting := [(3, [mkWord 9])] }; let n : Nat := 5; let tag : Nat := 3; let ws : List RunWord := [mkWord 9]; let rest : List (Nat × List RunWord) := []; decide (n < 256) && decide ((s.runnel n).waiting = (tag, ws) :: rest) && decide (ws.length ≤ s.runnelRoom n) && decide (s.pwr.phase ≠ .failing))) = true ∧
  ((let s : State := (State.reset).setFld F.RUN_CFG_EN 1 5; let d : Word := 0x500; let n := bits d.toNat 8 8; decide ((s.runnel n).waiting = []) && decide ((s.runnel n).ringWaits = [])) &&
   (let s : State := ((State.reset).setFld F.RUN_CFG_EN 1 5).up; let d : Word := 0x500; let n := bits d.toNat 8 8; let ws := (List.range (if d.getLsbD 1 then 4 else 1)).map fun i => mkWord (s.reg .RUN_HPUSH_W i 0) (d.getLsbD 2); let u := s.serveAll n; decide (s.runnelOn n = true) && decide (ws.length ≤ u.runnelRoom n) && decide (s.released = true)) &&
   (let s : State := (((State.reset).setFld F.RUN_CFG_EN 1 5).setRunnel 5 { words := List.replicate 256 ⟨0, false, false⟩ }).up; let d : Word := 0x500; let n := bits d.toNat 8 8; let ws := (List.range (if d.getLsbD 1 then 4 else 1)).map fun i => mkWord (s.reg .RUN_HPUSH_W i 0) (d.getLsbD 2); let u := s.serveAll n; decide (s.runnelOn n = true) && decide (u.runnelRoom n < ws.length) && decide (s.released = true)) &&
   (let s : State := ((State.reset).setFld F.RUN_CFG_EN 0 5).up; let d : Word := 0x500; let n := bits d.toNat 8 8; decide (s.runnelOn n = false) && decide (s.released = true)) &&
   (let s : State := (((State.reset).setFld F.RUN_CFG_EN 1 5).setRunnel 5 { words := [mkWord 9] }).up; let dt : Nat := 1; let n : Nat := 5; decide (n < 256) && decide (s.runnelOn n = true) && decide (0 < (s.after dt).landedBefore n) && decide (s.released = true)) &&
   (let s : State := ((State.reset).setFld F.RUN_CFG_EN 1 5).up; let dt : Nat := 1; let n : Nat := 5; decide (n < 256) && decide ((s.runnelOn n = false ∨ (s.after dt).landedBefore n = 0)) && decide (s.released = true))) = true ∧
  ((let s : State := (State.reset).setRunnel 255 { words := [mkWord 9] }; let n : Nat := 255; decide ((s.runnel n).flushEnd = none) && decide ((s.runTurn n).landed = 0)) &&
   (let s : State := (State.reset).up; let n : Nat := 255; decide (n < 256) && decide (s.released = true)) &&
   (let s : State := ((State.reset).setFld F.RUN_CFG_EN 1 5).setRunnel 5 { words := [mkWord 9], flushEnd := some 1 }; let n : Nat := 5; let e : Nat := 1; decide (n < 256) && decide ((s.runnel n).flushEnd = some e) && decide (s.recordRest n = 0)) &&
   (let s : State := (State.reset).up; decide (s.flag F.RUN_HALLOC_RES_BUSY = false) && decide (s.released = true)) &&
   (let s : State := ((State.reset).setFld F.RUN_HALLOC_RES_BUSY 1).up; decide (s.flag F.RUN_HALLOC_RES_BUSY = true) && decide (s.released = true)) &&
   (let s : State := (State.reset).runWith (fun x => { x with halloc := some 256 }); let len : Nat := 256; decide (s.run.halloc = some len) && decide (1 ≤ len) && decide (len ≤ 16384) && (match ({ s with run := { s.run with halloc := none } }.setFld F.RUN_HALLOC_RES_BUSY 0).allocFloor len with | (some cs, v) => true | _ => false))) = true ∧
  ((let s : State := (State.reset).runWith (fun x => { x with halloc := some 16385 }); let len : Nat := 16385; decide (s.run.halloc = some len) && decide ((len = 0 ∨ 16384 < len))) &&
   (let s : State := (State.reset).up; decide (s.released = true))) = true :=
  ⟨by decide +kernel, by decide +kernel, by decide +kernel, by decide +kernel⟩

/-- The hypotheses of `Obligations.ClepsydraCommands` are met: each clause at a state and operands. -/
theorem test_hyps_ClepsydraCommands :
  ((let s : State := (State.reset).setFld F.CLP_CIS_CTL_CIS_TRIM 1; let k : Nat := 64000000; decide (s.clp.on = false) && decide (s.trimTicks = some k)) &&
   (let s : State := ((State.reset).clpWith (fun x => { x with on := true })).up; decide (s.released = true)) &&
   (let s : State := ((State.reset).setFld F.CLP_SET_NS_NS 999999999).up; decide (s.timeHeld = false) && decide (s.fld F.CLP_SET_NS_NS ≤ 999999999) && decide (s.released = true)) &&
   (let s : State := ((State.reset).setFld F.CLP_SET_NS_NS 1000000000).up; decide ((s.timeHeld = true ∨ 999999999 < s.fld F.CLP_SET_NS_NS)) && decide (s.released = true)) &&
   (let s : State := ((State.reset).setFld F.CLP_STEP_NS 5).up; let dt : Nat := 1; let q : Int := (s.after dt).clp.ft + s.sfld F.CLP_STEP_NS * 2 ^ 40; decide (s.timeHeld = false) && decide (0 ≤ q) && decide (q < 2 ^ 48 * 10 ^ 9 * 2 ^ 40) && decide (s.released = true)) &&
   (let s : State := ((State.reset).setFld F.CLP_STAT_ARMED 1).up; decide (s.timeHeld = true) && decide (s.released = true))) = true ∧
  ((let s : State := State.reset; true) &&
   (let s : State := ((State.reset).setFld F.MAC_SLOT_SLOT_LEN_US 10000).up; decide (10000 ≤ s.fld F.MAC_SLOT_SLOT_LEN_US) && decide (s.fld F.MAC_SLOT_SLOT_LEN_US ≤ 50000) && decide (s.asnValid = false) && decide (s.released = true)) &&
   (let s : State := ((State.reset).setFld F.MAC_SLOT_SLOT_LEN_US 50001).up; decide ((s.fld F.MAC_SLOT_SLOT_LEN_US < 10000 ∨ 50000 < s.fld F.MAC_SLOT_SLOT_LEN_US)) && decide (s.released = true)) &&
   (let s : State := ((State.reset).setFld F.CLP_STAT_ARMED 1).up; decide (s.released = true)) &&
   (let s : State := (State.reset).setFld F.CLP_STAT_ARMED 1; decide (s.flag F.CLP_STAT_ARMED = true) && decide (s.asnValid = false)) &&
   (let s : State := ((State.reset).clpWith (fun x => { x with rejects := 2 })).up; decide (s.released = true))) = true ∧
  ((let s : State := ((State.reset).setFld F.CLP_RATE_I_RATE_I 5).up; decide (s.released = true)) &&
   (let s : State := (((State.reset).setFld F.CLP_STEER_CTL_SRC 1).setFld F.CLP_STEER_LIM_JUMP_LIMIT_US 1).up; let d : Word := 1000; decide (s.fld F.CLP_STEER_CTL_SRC = 1) && decide (d.toInt.natAbs ≤ s.fld F.CLP_STEER_LIM_JUMP_LIMIT_US * 1000) && decide (s.released = true)) &&
   (let s : State := (((State.reset).setFld F.CLP_STEER_CTL_SRC 1).setFld F.CLP_STEER_LIM_JUMP_LIMIT_US 1).up; let d : Word := 1001; decide (s.fld F.CLP_STEER_CTL_SRC = 1) && decide (s.fld F.CLP_STEER_LIM_JUMP_LIMIT_US * 1000 < d.toInt.natAbs) && decide (s.released = true)) &&
   (let s : State := (State.reset).clpWith (fun x => { x with on := true, slewRem := 1099511627776 }); let d : Nat := (((State.reset).clpWith (fun x => { x with on := true, slewRem := 1099511627776 })).slewLeft.getD 0); decide (s.clp.on = true) && decide (s.slewLeft = some d)) &&
   (let s : State := (State.reset).setFld F.CLP_STEER_CTL_SRC 2; decide (s.steered = true) && decide (s.fld F.CLP_STAT_STEER ≠ 2)) &&
   (let s : State := (State.reset).setFld F.CLP_PPS_CTL_IN_EN 1; decide (s.flag F.CLP_PPS_CTL_IN_EN = true) && decide (s.fld F.CLP_STEER_CTL_SRC ≠ 2) && let on := !s.flag F.CLP_PPS_CTL_IN_POL; let held : Nat := 37; decide (37 ≤ held) && decide (s.clp.ppsLevel ≠ some on))) = true ∧
  ((let s : State := (State.reset).setFld F.CLP_PPS_CTL_IN_EN 1; decide (s.flag F.CLP_PPS_CTL_IN_EN = true) && decide (s.fld F.CLP_STEER_CTL_SRC ≠ 2) && let on := !s.flag F.CLP_PPS_CTL_IN_POL; let held : Nat := 37; decide (37 ≤ held) && decide (s.clp.ppsLevel ≠ some (!on))) &&
   (let s : State := ((State.reset).setFld F.CLP_PPS_CTL_IN_EN 1).clpWith (fun x => { x with ppsLevel := some true }); let level : Bool := true; let held : Nat := 37; decide (s.flag F.CLP_PPS_CTL_IN_EN = true) && decide (s.fld F.CLP_STEER_CTL_SRC ≠ 2) && decide ((held ≤ 28 ∨ 37 ≤ held)) && decide (s.clp.ppsLevel = some level)) &&
   (let s : State := ((State.reset).setFld F.CLP_PPS_CTL_IN_EN 1).clpWith (fun x => { x with ppsLevel := some true }); let level : Bool := false; let held : Nat := 28; decide (s.flag F.CLP_PPS_CTL_IN_EN = true) && decide (s.fld F.CLP_STEER_CTL_SRC ≠ 2) && decide (held ≤ 28) && decide (s.clp.ppsLevel = some (!level))) &&
   (let s : State := (State.reset).clpWith (fun x => { x with ppsIn := some 4 }); let at_ : Nat := 4; decide (s.clp.ppsIn = some at_)) &&
   (let s : State := ((State.reset).clpWith (fun x => { x with on := true })).setFld F.CLP_PPS_CTL_OUT_EN 1; decide (s.flag F.CLP_PPS_CTL_OUT_EN = true) && decide (s.clp.on = true) && decide (s.clp.ppsOut = none)) &&
   (let s : State := (State.reset).clpWith (fun x => { x with ppsOut := some 4 }); let at_ : Nat := 4; decide (s.clp.ppsOut = some at_))) = true ∧
  (let s : State := State.reset; (∀ j, (s.tx j).frames = [])) :=
  ⟨by decide +kernel, by decide +kernel, by decide +kernel, by decide +kernel, (by intros; rfl)⟩

/-- The hypotheses of `Obligations.EthernetCommands` are met: each clause at a state and operands. -/
theorem test_hyps_EthernetCommands :
  ((let s : State := (State.reset).up; let p : Nat := 3; decide (p < 4) && decide (s.flag F.ETH_CTL_EN p = false) && decide (s.released = true)) &&
   (let s : State := ((State.reset).setFld F.ETH_CTL_EN 1 3).up; let p : Nat := 3; let d : Word := 0; decide (p < 4) && decide (s.flag F.ETH_CTL_EN p = true) && decide (d.getLsbD 0 = false) && decide (s.released = true)) &&
   (let s : State := (State.reset).setFld F.ETH_STAT_LINK 1 3; let dt : Nat := 1; let p : Nat := 3; decide (p < 4) && decide (s.ethUp p = true) && decide (s.pointOn p = false) && let u := s.after dt; true) &&
   (let s : State := State.reset; let p : Nat := 3; decide (p < 4) && decide (s.ethUp p = false)) &&
   (let f : Passing := { bytes := [], ts := 0, asn := 0 }; decide ((f.bytes.length < 4 ∨ ethFcs (f.bytes.take (f.bytes.length - 4)) ≠ f.bytes.drop (f.bytes.length - 4)))) &&
   (let s : State := ((State.reset).setFld F.ETH_CTL_EN 1 3).up; let p : Nat := 3; decide (p < 4) && decide ((s.flag F.ETH_CTL_EN p = true ∨ (s.ethPort p).used = true)) && decide ((s.ethPort p).tx = none) && decide ((s.ethPort p).relay = []) && decide (s.memReady 0 = true))) = true ∧
  ((let s : State := State.reset; decide (s.memReady 0 = false)) &&
   (let s : State := (((State.reset).setFld F.ETH_CTL_EN 1 3).setEthPort 3 { relay := [{ bytes := [], port := 1, at_ := 0 }] }).up; let p : Nat := 3; let r : EthRelay := { bytes := [], port := 1, at_ := 0 }; let rest : List EthRelay := []; decide (p < 4) && decide ((s.flag F.ETH_CTL_EN p = true ∨ (s.ethPort p).used = true)) && decide ((s.ethPort p).tx = none) && decide ((s.ethPort p).relay = r :: rest) && decide (s.memReady 0 = true)) &&
   (let s : State := (State.reset).setEthPort 3 { tx := some { bytes := [], at_ := 0, desc := none, bad := false } }; let p : Nat := 3; let x : EthTx := { bytes := [], at_ := 0, desc := none, bad := false }; decide (p < 4) && decide ((s.ethPort p).tx = some x) && decide (x.desc = none) && decide (s.pointOn (4 + p) = false)) &&
   (let s : State := (State.reset).setEthPort 3 { tx := some { bytes := [], at_ := 0, desc := some (5, 7), bad := false } }; let p : Nat := 3; let w0 : Nat := 5; let cookie : Word := 7; let x : EthTx := { bytes := [], at_ := 0, desc := some (5, 7), bad := false }; decide (p < 4) && decide ((s.ethPort p).tx = some x) && decide (x.desc = some (w0, cookie)) && decide (s.pointOn (4 + p) = false)) &&
   (let s : State := (State.reset).setFld F.ETH_CTL_EN 1 3; let p : Nat := 3; decide (p < 4) && decide (s.flag F.ETH_CTL_EN p = true) && decide (s.ethUp p = false)) &&
   (let s : State := (State.reset).setFld F.ETH_STAT_LINK 1 3; let p : Nat := 3; decide (p < 4) && decide (s.ethUp p = true))) = true :=
  ⟨by decide +kernel, by decide +kernel⟩

/-- The hypotheses of `Obligations.RegisterCommands` are met: each clause at a state and operands. -/
theorem test_hyps_RegisterCommands :
  ((let s : State := (State.reset).up; let off : Nat := 1; let w : Nat := 4; decide (widthOk off w = false) && decide (s.released = true)) &&
   (let s : State := (State.reset).up; let req : Nat := 5; let off : Nat := 1; let w : Nat := 4; decide (widthOk off w = false) && decide (req ≠ 128) && decide (s.released = true)) &&
   (let s : State := (State.reset).up; let req : Nat := 128; let dt : Nat := 1; let off : Nat := 0x40000C; let w : Nat := 4; let id : RegId := .PWR_IRQ_EN; let i : Nat := 0; let j : Nat := 0; let u := s.after dt; decide (widthOk off w = true) && decide (busTarget off = .reg id i j) && decide (jomuterOnly id i = false) && decide (u.cycNow.evts = []) && decide (s.released = true)) &&
   (let s : State := (((((State.reset).setFld F.PWR_EVT_DORMANT_REFUSED 1).up).advance 1).raise F.PWR_EVT_DORMANT_REFUSED).up; let req : Nat := 128; let dt : Nat := 0; let off : Nat := 0x400008; let w : Nat := 4; let k : Nat := F.PWR_EVT_DORMANT_REFUSED.lo; let id : RegId := .PWR_EVT; let i : Nat := 0; let u := s.after dt; decide (widthOk off w = true) && decide (busTarget off = .reg id i 0) && decide (jomuterOnly id i = false) && decide (k < 64) && decide ((id, i, k) ∈ u.cycNow.evts) && decide ((s.reg id i 0).getLsbD k = true) && decide (s.released = true)) &&
   (let k : Nat := 63; decide (k < 64)) &&
   (let s : State := (State.reset).up; let off : Nat := 0x40000C; let w : Nat := 4; decide (widthOk off w = true) && decide (s.released = true))) = true ∧
  ((let s : State := State.reset; decide (s.released = false)) &&
   (let s : State := (State.reset).up; let off : Nat := 0x40FFFC; let w : Nat := 4; decide (widthOk off w = true) && decide (busTarget off = .none) && decide (s.released = true)) &&
   (let s : State := (State.reset).up; let req : Nat := 128; let dt : Nat := 1; let off : Nat := 0x800120; let w : Nat := 4; let id : RegId := .PLM_CNT_DETECT; let i : Nat := 0; let j : Nat := 0; decide (widthOk off w = true) && decide (busTarget off = .reg id i j) && decide (id.accMask .rc ≠ 0) && decide (s.released = true)) &&
   (let s : State := (State.reset).up; let dt : Nat := 1; let off : Nat := 0x800120; let w : Nat := 4; let id : RegId := .PLM_CNT_DETECT; let i : Nat := 0; let j : Nat := 0; decide (widthOk off w = true) && decide (busTarget off = .reg id i j) && decide (id.accMask .rc ≠ 0) && decide (jomuterOnly id i = false) && decide (id ≠ .OBS_THR_CNT) && decide (s.released = true)) &&
   (let s : State := State.reset; decide (s.cycNow.incs = [])) &&
   (let s : State := (State.reset).up; let off : Nat := 0x40000C; let w : Nat := 4; let id : RegId := .PWR_IRQ_EN; let i : Nat := 0; let j : Nat := 0; decide (widthOk off w = true) && decide (busTarget off = .reg id i j) && decide (id.accMask .rc = 0) && decide (s.released = true))) = true ∧
  ((let s : State := (State.reset).up; let off : Nat := 0x40000C; let id : RegId := .PWR_IRQ_EN; let i : Nat := 0; let j : Nat := 0; decide (s.released = true) && decide (busTarget off = .reg id i j) && decide (jomuterOnly id i = false) && decide (id ∉ [RegId.MAC_ASN, .MAC_CELL_DATA, .MAC_DRIFT_DATA, .OCL_J_DBG_DATA, .OCL_DBG_DATA, .RUN_HPOP, .CLP_NOW_S, .OBS_THR_CNT, .CHT_EVT]) && decide (id.accMask .rc = 0)) &&
   (let s : State := (State.reset).up; decide (s.released = true)) &&
   (let s : State := (State.reset).up; let v : Nat := 1; decide (v < 64) && decide (s.released = true))) = true ∧
  (let s : State := (State.reset).up; let req : Nat := 128; let dt : Nat := 1; let off : Nat := 0x40000C; let w : Nat := 4; let id : RegId := .PWR_IRQ_EN; let i : Nat := 0; let j : Nat := 0; let u := s.after dt; (∀ e, u.radioWrite id i j e = none ∧ u.coreWrite req id i j e = none ∧ u.sysWrite req id i e = none)) ∧
  (let s : State := (((((State.reset).setFld F.PWR_EVT_DORMANT_REFUSED 1).up).advance 1).raise F.PWR_EVT_DORMANT_REFUSED).up; let req : Nat := 128; let dt : Nat := 0; let off : Nat := 0x400008; let w : Nat := 4; let k : Nat := F.PWR_EVT_DORMANT_REFUSED.lo; let id : RegId := .PWR_EVT; let i : Nat := 0; let u := s.after dt; (∀ e, u.radioWrite id i 0 e = none ∧ u.coreWrite req id i 0 e = none ∧ u.sysWrite req id i e = none)) :=
  ⟨by decide +kernel, by decide +kernel, by decide +kernel, (by intros; exact ⟨rfl, rfl, rfl⟩), (by intros; exact ⟨rfl, rfl, rfl⟩)⟩

/-- The hypotheses of `Obligations.HostCommands` are met: each clause at a state and operands. -/
theorem test_hyps_HostCommands :
  ((let s : State := (State.reset).setFld F.HST_STAT_LINK_UP 1; decide (s.flag F.HST_STAT_LINK_UP = true) && decide (s.hst.cfg.d3hot = false)) &&
   (let s : State := (((State.reset).setFld F.HST_STAT_LINK_UP 1).inited).up; decide (s.flag F.HST_STAT_LINK_UP = true) && decide (s.hst.cfg.d3hot = false) && decide (s.memReady 0 = true)) &&
   (let s : State := (State.reset).setFld F.HST_STAT_LINK_UP 1; decide (s.flag F.HST_STAT_LINK_UP = true) && decide (s.hst.cfg.d3hot = false) && decide (s.memReady 0 = false)) &&
   (let s : State := State.reset; let o : Nat := 8; let n : Nat := 8; decide (o + n ≤ 2 ^ 24)) &&
   (let s : State := State.reset; decide ((s.flag F.HST_STAT_LINK_UP = false ∨ s.hst.cfg.d3hot = true))) &&
   (let s : State := (State.reset).setFld F.HST_STAT_LINK_UP 1; decide (s.flag F.HST_STAT_LINK_UP = true))) = true ∧
  ((let s : State := (State.reset).up; let dt : Nat := 1; let held : Nat := 100; let popped : List Nat := []; decide (s.released = true) && decide (100 ≤ held)) &&
   (let held : Nat := 19; decide (held ≤ 19)) &&
   (let s : State := State.reset; let held : Nat := 100; decide (s.released = false) && decide (100 ≤ held)) &&
   (let s : State := (State.reset).up; decide (s.released = true)) &&
   (let s : State := ((State.reset).setFld F.HST_STAT_BUS_MASTER 1).up; decide (s.flag F.HST_STAT_BUS_MASTER = true) && decide (s.released = true)) &&
   (let s : State := (State.reset).up; let mps : Nat := 256; let mrrs : Nat := 4096; decide (mps ∈ [128, 256, 512]) && decide (mrrs ∈ [128, 256, 512, 1024, 2048, 4096]) && decide (s.released = true))) = true ∧
  ((let s : State := (State.reset).up; let b0 : Nat := 1; let b2 : Nat := 2; let w : AerWrite := { clearUncor := 5 }; let a := s.hst.cfg.aer; decide (b0 < 2 ^ 64) && decide (b2 < 2 ^ 64) && decide (s.released = true)) &&
   (let s : State := (State.reset).up; let width : Nat := 4; let speed : Nat := 4; decide (s.flag F.HST_STAT_LINK_UP = false) && decide (width ∈ [1, 2, 4]) && decide (1 ≤ speed) && decide (speed ≤ 4) && decide (s.released = true)) &&
   (let s : State := (State.reset).up; let n : Nat := 15; let d : Word := 0x41; decide (n < 16) && decide (s.flag F.HST_RING_CTL_EN n = false) && decide (s.fld F.HST_RING_BASE_ADDR n % 4096 = 0) && decide (s.fld F.HST_RING_WB_ADDR n % 8 = 0) && decide (6 ≤ bits d.toNat 2 5) && decide (bits d.toNat 2 5 ≤ 16) && decide (s.released = true)) &&
   (let s : State := ((State.reset).setFld F.HST_RING_BASE_ADDR 1 15).up; let n : Nat := 15; decide (n < 16) && decide (s.flag F.HST_RING_CTL_EN n = false) && decide (s.fld F.HST_RING_BASE_ADDR n % 4096 ≠ 0) && decide (s.released = true)) &&
   (let s : State := ((State.reset).setFld F.HST_RING_CTL_EN 1 15).up; let n : Nat := 15; decide (n < 16) && decide (s.flag F.HST_RING_CTL_EN n = true) && decide (s.released = true)) &&
   (let s : State := (((State.reset).setFld F.HST_RING_CTL_EN 1 15).setFld F.HST_RING_CTL_SIZE 16 15).up; let n : Nat := 15; let idx : Nat := 65535; let q := (idx + s.ringSize n - s.fld F.HST_RING_PTR_HEAD n) % s.ringSize n; decide (n < 16) && decide (idx < s.ringSize n) && decide (idx < 65536) && decide (s.flag F.HST_RING_CTL_EN n = true) && decide (s.flag F.HST_RING_CTL_DIR n = false) && decide (s.ringUsed n ≤ q) && decide (s.released = true))) = true ∧
  ((let s : State := (((((State.reset).setFld F.HST_RING_CTL_EN 1 15).setFld F.HST_RING_CTL_DIR 1 15).setFld F.HST_RING_CTL_SIZE 16 15).setFld F.HST_RING_PTR_TAIL 65535 15).up; let n : Nat := 15; let idx : Nat := 65535; let q := (idx + s.ringSize n - s.fld F.HST_RING_PTR_HEAD n) % s.ringSize n; decide (n < 16) && decide (idx < s.ringSize n) && decide (idx < 65536) && decide (s.flag F.HST_RING_CTL_EN n = true) && decide (s.flag F.HST_RING_CTL_DIR n = true) && decide (q ≤ s.ringUsed n) && decide (s.released = true)) &&
   (let s : State := ((((State.reset).setFld F.HST_RING_CTL_EN 1 15).setFld F.HST_RING_CTL_SIZE 6 15).setFld F.HST_RING_PTR_TAIL 8 15).up; let n : Nat := 15; let idx : Nat := 7; let q := (idx + s.ringSize n - s.fld F.HST_RING_PTR_HEAD n) % s.ringSize n; decide (n < 16) && decide (idx < s.ringSize n) && decide (idx < 65536) && decide (s.flag F.HST_RING_CTL_EN n = true) && decide ((if s.flag F.HST_RING_CTL_DIR n then s.ringUsed n < q else q < s.ringUsed n)) && decide (s.released = true)) &&
   (let s : State := (((State.reset).setFld F.HST_RING_CTL_EN 1 15).setFld F.HST_RING_CTL_SIZE 6 15).up; let n : Nat := 15; let idx : Nat := 64; decide (n < 16) && decide (s.ringSize n ≤ idx) && decide (idx < 65536) && decide (s.flag F.HST_RING_CTL_EN n = true) && decide (s.released = true)) &&
   (let s : State := (((((((State.reset).setFld F.HST_STAT_LINK_UP 1).setFld F.HST_STAT_BUS_MASTER 1).setFld F.HST_RING_CTL_EN 1 15).setFld F.HST_RING_CTL_SIZE 6 15).setFld F.HST_RING_PTR_TAIL 8 15).setFld F.HST_RING_CTL_RUNNEL 5 15).setFld F.RUN_CFG_RECLEN 3 5; let n : Nat := 15; let ws : List Word := [1, 2, 3, 4]; let q := s.ringRunnel n; decide (n < 16) && decide (s.ringRuns n = true) && decide (s.flag F.HST_RING_CTL_DIR n = false) && decide (ws.length = s.recLen q) && decide (ws.length ≤ s.ringUsed n) && decide ((s.runnel q).ringWaits = []) && decide ((s.ring n).beyond = none)) &&
   (let s : State := ((((((((State.reset).setFld F.HST_STAT_LINK_UP 1).setFld F.HST_STAT_BUS_MASTER 1).setFld F.HST_RING_CTL_EN 1 15).setFld F.HST_RING_CTL_DIR 1 15).setFld F.HST_RING_CTL_SIZE 6 15).setFld F.HST_RING_CTL_RUNNEL 5 15).setFld F.RUN_CFG_EN 1 5).setRunnel 5 { words := [mkWord 9] }; let n : Nat := 15; let q := s.ringRunnel n; decide (n < 16) && decide (s.ringRuns n = true) && decide (s.flag F.HST_RING_CTL_DIR n = true) && decide (s.runnelOn q = true) && decide (s.recLen q ≤ s.poppable q) && decide (s.recLen q + s.ringUsed n + 1 ≤ s.ringSize n) && decide ((s.ring n).beyond = none)) &&
   (let s : State := (State.reset).setRing 15 { since := some 4, count := 2 }; let n : Nat := 15; let at_ : Nat := 4; decide (n < 16) && decide ((s.ring n).since = some at_))) = true ∧
  ((let s : State := (((State.reset).setFld F.HST_STAT_LINK_UP 1).setFld F.HST_STAT_BUS_MASTER 1).setFld F.HST_RING_CTL_EN 1 15; let n : Nat := 15; decide (n < 16) && decide (s.ringRuns n = true) && decide (s.flag F.HST_RING_CTL_DIR n = false)) &&
   (let s : State := (((State.reset).setFld F.HST_IN_RUNNEL_RUNNEL 5).setFld F.RUN_CFG_EN 1 5).setRunnel 5 { words := [mkWord 9, mkWord 8] }; let n := s.fld F.HST_IN_RUNNEL_RUNNEL; decide (s.runnelOn n = true) && decide (2 ≤ s.poppable n))) = true ∧
  (let s : State := State.reset; let o : Nat := 8; let n : Nat := 8; (∀ x, s.eccOf 0 x = none)) :=
  ⟨by decide +kernel, by decide +kernel, by decide +kernel, by decide +kernel, by decide +kernel, (by intros; rfl)⟩

/-- The hypotheses of `Obligations.SpiAndFlash` are met: each clause at a state and operands. -/
theorem test_hyps_SpiAndFlash :
  ((let s : State := (State.reset).up; let dt : Nat := 1; let off : Nat := 0; let e := ([(Instr.spiRegRead32 dt off true, 4), (.spiRegRead64 dt off true, 8)])[0]; decide (widthOk off e.2 = true) && decide (s.readReady off = true) && decide (s.released = true)) &&
   (let s : State := (State.reset).up; let dt : Nat := 1; let off : Nat := 2; let r : Bool := true; let e := ([(Instr.spiRegRead32 dt off r, 4), (.spiRegRead64 dt off r, 8)])[1]; decide (widthOk off e.2 = false) && decide (s.released = true)) &&
   (let s : State := (State.reset).up; let dt : Nat := 1; let off : Nat := 0; let r : Bool := false; let e := ([(Instr.spiRegRead32 dt off r, 4), (.spiRegRead64 dt off r, 8)])[0]; decide (widthOk off e.2 = true) && decide ((r = false ∨ s.readReady off = false)) && decide (s.released = true)) &&
   (let s : State := (State.reset).up; let off : Nat := 0x40000C; decide (widthOk off 4 = true) && decide (s.released = true)) &&
   (let s : State := (State.reset).up; let off : Nat := 2; decide (widthOk off 4 = false) && decide (s.released = true)) &&
   (let s : State := (State.reset).up; let off : Nat := 0x3401208; decide (widthOk off 8 = true) && decide (s.released = true))) = true ∧
  ((let s : State := (State.reset).up; let off : Nat := 4; decide (widthOk off 8 = false) && decide (s.released = true)) &&
   (let s : State := ((State.reset).inited).up; decide (s.memReady 0 = true) && decide (s.released = true)) &&
   (let s : State := (State.reset).pwrWith (fun x => { x with phase := .run }); let r : PktRead := ⟨1, true⟩; decide ((r.ready = false ∨ s.memReady 0 = false)) && decide (s.released = true)) &&
   (let s : State := (State.reset).up; let o : Nat := 16777215; let bs : List Byte := [3]; decide (o + bs.length ≤ 2 ^ 24) && decide (s.flag F.MEM_FLIP_CTL_ARM = false) && decide (s.released = true)) &&
   (let s : State := (State.reset).up; decide (s.released = true)) &&
   (let s : State := State.reset; let dt : Nat := 1; let o : Nat := 1; let n : Nat := 1; let d : Word := 0; let r : Bool := true; let bs : List Byte := []; decide (s.released = false))) = true ∧
  (let s : State := ((State.reset).inited).up; (∀ x, s.eccOf 0 x = none)) ∧
  (let s : State := (State.reset).up; let o : Nat := 16777215; let bs : List Byte := [3]; (∀ x, s.eccOf 0 x = none)) ∧
  ((let s : State := (State.reset).pwrWith (fun x => { x with phase := .run }); let mode : Nat := 2; decide (s.released = true) && decide (s.fls.discovered = false) && decide ((mode = 1 ∨ mode = 2)) && decide (s.fls.busy = none) && decide (s.fls.waiting = [])) &&
   (let s : State := State.reset; decide ((s.released = false ∨ s.fls.discovered = true))) &&
   (let s : State := (State.reset).pwrWith (fun x => { x with phase := .run }); decide (s.released = true) && decide (s.fls.discovered = false) && decide (s.fld F.FLS_STAT_MODE = 0)) &&
   (let s : State := ((((State.reset).setFld F.FLS_STAT_MODE 2).setFld F.FLS_STAT_DENSITY 2).setFld F.FLS_ADDR_ADDR 0x05000000 1).up; let i : Nat := 1; let len : Nat := 256; decide (i < 2) && decide (len < 512) && decide (s.flag F.FLS_CSTAT_BUSY i = false) && decide (s.released = true) && let u := s.setFld F.FLS_CSTAT_BUSY 1 i; let a := s.fld F.FLS_ADDR_ADDR i; let e := ([(Instr.flsRead i len, 1, FlsKind.read, len), (.flsProgram i len, 2, .program, len), (.erase4k i, 3, .erase4k, 0), (.erase64k i, 4, .erase64k, 0)])[1]; decide (u.flsRefusal i e.2.1 e.2.2.2 a = none)) &&
   (let s : State := (State.reset).up; let i : Nat := 1; let len : Nat := 1; decide (i < 2) && decide (len < 512) && decide (s.flag F.FLS_CSTAT_BUSY i = false) && decide (s.released = true) && let u := s.setFld F.FLS_CSTAT_BUSY 1 i; let a := s.fld F.FLS_ADDR_ADDR i; let e := ([(Instr.flsRead i len, 1, FlsKind.read, len), (.flsProgram i len, 2, .program, len), (.erase4k i, 3, .erase4k, 0), (.erase64k i, 4, .erase64k, 0)])[2]; let r := 4; decide (u.flsRefusal i e.2.1 e.2.2.2 a = some r)) &&
   (let s : State := ((State.reset).setFld F.FLS_CSTAT_BUSY 1 1).up; let i : Nat := 1; decide (i < 2) && decide (s.flag F.FLS_CSTAT_BUSY i = true) && decide (s.released = true))) = true ∧
  ((let s : State := (State.reset).setFld F.FLS_STAT_MODE 2; let w : FlsOp := { src := 1, session := 0, kind := .read, addr := 0 }; decide (s.fls.busy = none) && decide (s.fls.waiting = []) && decide (s.fls.suspended = none) && decide (s.fld F.FLS_STAT_MODE ≠ 0) && decide (s.obs.unread = false) && decide ((w.src = 0 ∨ s.flushHolds = false))) &&
   (let s : State := ((State.reset).setFld F.FLS_STAT_MODE 2).flsWith (fun x => { x with busy := some { src := 4, session := 0, kind := .read, addr := 0 }, startedAt := some 0 }); let w : FlsOp := { src := 1, session := 0, kind := .read, addr := 0 }; let b : FlsOp := { src := 4, session := 0, kind := .read, addr := 0 }; decide (s.fls.busy = some b) && decide (s.fls.startedAt = some s.clp.now) && decide (1 ≤ w.src) && decide (w.src < b.src) && decide (s.fls.waiting = []) && decide (s.fls.suspended = none) && decide (s.fld F.FLS_STAT_MODE ≠ 0) && decide (s.obs.unread = false) && decide (s.flushHolds = false)) &&
   (let s : State := ((State.reset).setFld F.FLS_STAT_MODE 2).flsWith (fun x => { x with busy := some { src := 1, session := 0, kind := .read, addr := 0 } }); let w : FlsOp := { src := 1, session := 0, kind := .read, addr := 0 }; decide (s.obs.unread = false) && decide (s.fls.busy = some w) && decide (w.src = 1) && decide (s.fls.waiting = []) && decide (s.fls.suspended = none) && decide (s.fld F.FLS_STAT_MODE ≠ 0))) = true :=
  ⟨by decide +kernel, by decide +kernel, (by intros; rfl), (by intros; rfl), by decide +kernel, by decide +kernel⟩

/-- The hypotheses of `Obligations.FullReset` are met: each clause at a state and operands. -/
theorem test_hyps_FullReset :
  ((let id : RegId := .PLM_CHAIN_CTL; decide (id ∉ [RegId.CLP_CIS_CTL, .PWR_ALARM, .PWR_DORMANT, .GLB_RESET_CAUSE, .GLB_RESET_COUNT, .PWR_STAT]))) = true :=
  by decide +kernel

/-- The hypotheses of `Obligations.ResetCommands` are met: each clause at a state and operands. -/
theorem test_hyps_ResetCommands :
  ((let s : State := (State.reset).pwrWith (fun x => { x with vbatLost := false }); decide (s.pwr.phase = .reset) && decide (s.pwr.mains = true) && decide (s.failReset = false) && decide (s.pwr.vbatLost = false) && decide (s.flag F.PWR_STAT_BOR = false) && decide ((s.flag F.PWR_STAT_PFAIL = false ∨ s.flag F.PWR_PFAIL_CTL_PFAIL_EN = false))) &&
   (let s : State := (State.reset).pwrWith (fun x => { x with phase := .run }); decide ((s.pwr.phase ≠ .reset ∨ s.pwr.mains = false ∨ s.failReset = true))) &&
   (let s : State := (((State.reset).pwrWith (fun x => { x with vbatLost := false })).setFld F.PWR_STAT_BOR 1).setFld F.PWR_STAT_PFAIL 0; decide (s.pwr.phase = .reset) && decide (s.pwr.mains = true) && decide (s.failReset = false) && decide (s.pwr.vbatLost = false) && decide (s.flag F.PWR_STAT_BOR = true) && decide (s.flag F.PWR_STAT_PFAIL = false)) &&
   (let s : State := (((State.reset).setFld F.PWR_STAT_PFAIL 1).setFld F.PWR_STAT_BOR 0).up; let d : Word := 1; decide (s.pwr.phase = .run) && decide (d.getLsbD 0 = true) && decide (s.flag F.PWR_STAT_PFAIL = true) && decide (s.flag F.PWR_STAT_BOR = false)) &&
   (let s : State := ((State.reset).pwrWith (fun x => { x with vbatLost := false })).setFld F.GLB_RESET_CAUSE_PFAIL 1; decide (s.pwr.phase = .reset) && decide (s.pwr.mains = true) && decide (s.pwr.vbatLost = false) && decide (s.failReset = true)) &&
   (let s : State := (State.reset).pwrWith (fun x => { x with phase := .run }); let m : Nat := 0; decide (s.released = true) && decide ((memWords m).isSome = true) && decide (m ∉ s.pwr.inited))) = true ∧
  ((let s : State := (State.reset).pwrWith (fun x => { x with phase := .run }); let d : Word := 0x64160000; decide (s.pwr.phase = .run) && decide (bits d.toNat 16 16 = 0x6416) && decide (s.released = true)) &&
   (let s : State := (State.reset).up; let d : Word := 0x64170000; decide (bits d.toNat 16 16 ≠ 0x6416) && decide (s.released = true)) &&
   (let s : State := (State.reset).pwrWith (fun x => { x with phase := .run }); let held : Nat := 100; decide (100 ≤ held) && decide (s.pwr.phase = .run)) &&
   (let s : State := (State.reset).pwrWith (fun x => { x with phase := .failing }); let held : Nat := 100; decide (100 ≤ held) && decide (s.pwr.phase = .failing)) &&
   (let s : State := State.reset; let held : Nat := 100; decide (100 ≤ held) && decide (s.released = false)) &&
   (let held : Nat := 19; decide (held ≤ 19))) = true ∧
  ((let s : State := State.reset; let j : Nat := 1; let k : Nat := 1; let n : Nat := 1; let req : Nat := 1; let e : Bool := true; let d : Word := 0; decide (s.released = false)) &&
   (let s : State := State.reset; decide (s.released = false)) &&
   (let s : State := (State.reset).up; let d : Word := 0; decide (s.pwr.phase ≠ .failing) && decide (bits d.toNat 16 16 ≠ 0x6416) && decide (s.released = true)) &&
   (let s : State := ((State.reset).pwrWith (fun x => { x with phase := .run })).setFld F.PWR_PFAIL_CTL_PFAIL_EN 1; let held := 37; decide (s.pwr.phase = .run) && decide (s.flag F.PWR_PFAIL_CTL_PFAIL_EN = true) && decide (37 ≤ held)) &&
   (let s : State := State.reset; let low : Bool := true; let held := 37; decide ((s.pwr.phase ≠ .run ∨ low = false ∨ s.flag F.PWR_PFAIL_CTL_PFAIL_EN = false)) && decide (37 ≤ held)) &&
   (let held : Nat := 28; decide (held ≤ 28))) = true ∧
  ((let held : Nat := 999; decide (held < 1000)) &&
   (let s : State := (State.reset).pwrWith (fun x => { x with phase := .run }); let held : Nat := 1000; decide (1000 ≤ held) && decide (s.pwr.phase = .run)) &&
   (let s : State := (State.reset).pwrWith (fun x => { x with phase := .failing }); decide (s.pwr.phase = .failing) && decide (s.pwr.causes.testBit 8 = false)) &&
   (let s : State := (State.reset).pwrWith (fun x => { x with phase := .failing, causes := 256 }); decide (s.pwr.phase = .failing) && decide (s.pwr.causes.testBit 8 = true) && decide (s.flag F.PWR_DORMANT_ALARM_EN = false)) &&
   (let s : State := ((State.reset).pwrWith (fun x => { x with phase := .off })).setFld F.PWR_DORMANT_ALARM_EN 1; decide (s.pwr.phase = .off) && decide (s.flag F.PWR_DORMANT_ALARM_EN = true)) &&
   (let s : State := ((State.reset).pwrWith (fun x => { x with phase := .off })).setFld F.PWR_DORMANT_WAKE_N_EN 1; let dt : Nat := 1; let held : Nat := 100000; let second := tickTime (ticksAt (s.clp.now + dt) + 2); decide (s.pwr.phase = .off) && decide (s.flag F.PWR_DORMANT_WAKE_N_EN = true) && decide (second ≤ s.clp.now + dt + held))) = true ∧
  ((let s : State := ((State.reset).pwrWith (fun x => { x with phase := .off })).setFld F.PWR_DORMANT_WAKE_N_EN 1; let dt : Nat := 1; let held : Nat := 5; let second := tickTime (ticksAt (s.clp.now + dt) + 2); decide (s.pwr.phase = .off) && decide (s.flag F.PWR_DORMANT_WAKE_N_EN = true) && decide (s.clp.now + dt + held < second)) &&
   (let s : State := (State.reset).pwrWith (fun x => { x with onVbat := true }); decide (s.pwr.onVbat = true)) &&
   (let s : State := State.reset; decide (s.pwr.onVbat = false)) &&
   (let s : State := (State.reset).up; decide (s.released = true)) &&
   (let s : State := (State.reset).up; decide (s.released = true) && decide (s.flag F.PWR_STAT_VBAT_LOW = false))) = true :=
  ⟨by decide +kernel, by decide +kernel, by decide +kernel, by decide +kernel, by decide +kernel⟩

/-- The hypotheses of `Obligations.ClockCommands` are met: each clause at a state and operands. -/
theorem test_hyps_ClockCommands :
  ((let s : State := (State.reset).pwrWith (fun x => { x with jets := [(6, ⟨0, false⟩)] }); let k : Nat := 6; let j : Jet := ⟨0, false⟩; decide (k < 7) && decide (k ≠ 1) && decide (SMap.find? s.pwr.jets k = some j)) &&
   (let s : State := (State.reset).pwrWith (fun x => { x with jets := [(1, ⟨0, false⟩)] }); let j : Jet := ⟨0, false⟩; decide (SMap.find? s.pwr.jets 1 = some j)) &&
   (let s : State := (State.reset).pwrWith (fun x => { x with jets := [(6, ⟨0, false⟩)] }); let k : Nat := 6; let j : Jet := ⟨0, false⟩; decide (SMap.find? s.pwr.jets k = some j) && decide (j.again = false)) &&
   (let s : State := (State.reset).pwrWith (fun x => { x with jets := [(2, ⟨0, true⟩)] }); let k : Nat := 2; let j : Jet := ⟨0, true⟩; decide (SMap.find? s.pwr.jets k = some j) && decide (j.again = true) && decide (k ≤ 2)) &&
   (let s : State := (State.reset).pwrWith (fun x => { x with jets := [(3, ⟨0, true⟩)] }); let k : Nat := 3; let j : Jet := ⟨0, true⟩; decide (SMap.find? s.pwr.jets k = some j) && decide (j.again = true) && decide (3 ≤ k)) &&
   (let s : State := (State.reset).macWith (fun x => { x with work := some (3, 32768) }); let j : Nat := 15; let a : Nat := 3; let listen : Nat := 32768; decide (j < 16) && decide (s.mac.work = some (a, listen)) && decide (listen.testBit j = true) && decide (s.mac.wake.testBit j = false))) = true ∧
  ((let s : State := State.reset; decide (s.mac.work = none) && decide (s.mac.resolved = none)) &&
   (let s : State := ((State.reset).setFld F.PWR_STAT_JET_LOCK 127).setFld F.PWR_CL_CTL_AUTO 1 3; let c : Nat := 3; decide (c < 4) && decide (s.clusterRuns c = true) && decide (s.flag F.PWR_CL_CTL_AUTO c = true) && decide (s.clusterDeadline c = none)) &&
   (let s : State := (((((State.reset).setFld F.PWR_STAT_JET_LOCK 127).oclWith (fun x => { x with stopped := [(3, 5)] })).setThr 96 { state := 2, wait := some (.pop 5 1 3) }).setFld F.RUN_CFG_EN 1 5).setRunnel 5 { words := [mkWord 9], stamps := [(7, 1)] }; let c : Nat := 3; let a : Nat := 5; decide (c < 4) && decide (SMap.find? s.ocl.stopped c = some a) && decide (s.wordLanded c a = true)) &&
   (let s : State := (((State.reset).setFld F.PWR_STAT_JET_LOCK 127).oclWith (fun x => { x with stopped := [(3, 5)] })).setThr 96 { state := 2, wait := some (.popw 5 3 2 100) }; let c : Nat := 3; let a : Nat := 5; let d : Nat := 100; decide (c < 4) && decide (SMap.find? s.ocl.stopped c = some a) && decide (s.wordLanded c a = false) && decide (s.clusterDeadline c = some d))) = true ∧
  (let s : State := ((State.reset).setFld F.PWR_STAT_JET_LOCK 127).setFld F.PWR_CL_CTL_AUTO 1 3; let c : Nat := 3; (∀ t, t < 32 → s.thrIdle (32 * c + t) = true)) :=
  ⟨by decide +kernel, by decide +kernel, (by intros; rfl)⟩

/-- The hypotheses of `Obligations.SkimmerCommands` are met: each clause at a state and operands. -/
theorem test_hyps_SkimmerCommands :
  ((let s : State := (State.reset).up; let m : Nat := 0; decide (m < 256) && decide (s.skim = none) && decide ((s.setFld F.MEM_SKIM_CTL_MEM m).skimRefused = false) && decide (s.released = true)) &&
   (let s : State := ((State.reset).skimWith (some ⟨0, 3, 4, false⟩)).up; let k : Skim := ⟨0, 3, 4, false⟩; decide (s.skim = some k) && decide (s.released = true)) &&
   (let s : State := ((State.reset).inited).skimWith (some ⟨0, 4, 4, false⟩); let k : Skim := ⟨0, 4, 4, false⟩; decide (s.skim = some k) && decide (k.abort = false) && decide (k.next ≤ k.last) && decide (s.memReady k.mem = true) && decide (s.eccOf k.mem k.next = none)) &&
   (let s : State := (((State.reset).inited).skimWith (some ⟨0, 4, 4, false⟩)).eccWith 0 4 ⟨0, true⟩; let k : Skim := ⟨0, 4, 4, false⟩; let e : EccMark := ⟨0, true⟩; decide (s.skim = some k) && decide (k.abort = false) && decide (k.next ≤ k.last) && decide (s.memReady k.mem = true) && decide (s.eccOf k.mem k.next = some e) && decide (e.poisoned = true)) &&
   (let s : State := (((State.reset).inited).eccWith 0 3 ⟨0, false⟩).skimWith (some ⟨0, 3, 4, false⟩); let k : Skim := ⟨0, 3, 4, false⟩; let e : EccMark := ⟨0, false⟩; decide (s.skim = some k) && decide (k.abort = false) && decide (k.next ≤ k.last) && decide (s.memReady k.mem = true) && decide (s.eccOf k.mem k.next = some e) && decide (e.poisoned = false) && decide (s.decodeWeight e = 0)) &&
   (let s : State := (State.reset).skimWith (some ⟨0, 4, 4, false⟩); let k : Skim := ⟨0, 4, 4, false⟩; decide (s.skim = some k) && decide (s.memReady k.mem = false))) = true ∧
  ((let s : State := (State.reset).skimWith (some ⟨0, 5, 4, false⟩); let k : Skim := ⟨0, 5, 4, false⟩; decide (s.skim = some k) && decide ((k.abort = true ∨ k.last < k.next)))) = true :=
  ⟨by decide +kernel, by decide +kernel⟩

/-- The hypotheses of `Obligations.TwinLinkCommands` are met: each clause at a state and operands. -/
theorem test_hyps_TwinLinkCommands :
  ((let s : State := (State.reset).up; let d : Word := 1; decide (s.flag F.TWN_CTL_EN = false) && decide (d.getLsbD 0 = true) && decide (s.released = true)) &&
   (let s : State := ((State.reset).setFld F.TWN_CTL_EN 1).up; let d : Word := 0; decide (s.flag F.TWN_CTL_EN = true) && decide (d.getLsbD 0 = false) && decide (s.released = true)) &&
   (let s : State := (State.reset).setFld F.TWN_STAT_ROLE 1; decide (s.role = 1) && decide (s.twn.conflict = false)) &&
   (let k : Nat := 1; decide (k < 2)) &&
   (let s : State := ((State.reset).twnWith (fun x => { x with beatAt := some 9 })).setFld F.TWN_STAT_LANE_LOCK 2; let b : Nat := 9; decide (s.twn.beatAt = some b) && decide (s.linkUp = true) && decide (s.pointOn 9 = false)) &&
   (let s : State := ((State.reset).twnWith (fun x => { x with lastHb := some 9 })).setFld F.TWN_STAT_LINK_OK 1; let a : Nat := 9; decide (s.twn.lastHb = some a) && decide (s.flag F.TWN_STAT_LINK_OK = true))) = true ∧
  ((let s : State := ((((State.reset).twnWith (fun x => { x with queue := [[3]] })).setFld F.TWN_STAT_LANE_LOCK 2).setFld F.TWN_STAT_ROLE 3).setFld F.RUN_CFG_EN 0 0; let m : List Word := [3]; let ms : List (List Word) := []; decide (s.role = 3) && decide (s.linkUp = true) && decide (s.pointOn 9 = false) && decide (s.runnelOn (s.fld F.TWN_RUNNEL_KEY_RUNNEL) = false) && decide (s.twn.overflow = false) && decide (s.twn.bulkAsked = false) && decide (s.twn.queue = m :: ms)) &&
   (let s : State := ((((State.reset).twnWith (fun x => { x with bulk := [(2, 0)] })).setFld F.TWN_STAT_LANE_LOCK 2).setFld F.TWN_STAT_ROLE 3).setFld F.RUN_CFG_EN 0 0; let cls : Nat := 2; let k : Nat := 0; let ks : List (Nat × Nat) := []; decide (s.role = 3) && decide (s.linkUp = true) && decide (s.pointOn 9 = false) && decide (s.runnelOn (s.fld F.TWN_RUNNEL_KEY_RUNNEL) = false) && decide (s.twn.overflow = false) && decide (s.twn.bulkAsked = false) && decide (s.twn.queue = []) && decide (s.twn.bulk = (cls, k) :: ks)) &&
   (let s : State := ((((State.reset).twnWith (fun x => { x with bulkOpen := true })).setFld F.TWN_STAT_LANE_LOCK 2).setFld F.TWN_STAT_ROLE 3).setFld F.RUN_CFG_EN 0 0; decide (s.role = 3) && decide (s.linkUp = true) && decide (s.pointOn 9 = false) && decide (s.runnelOn (s.fld F.TWN_RUNNEL_KEY_RUNNEL) = false) && decide (s.twn.overflow = false) && decide (s.twn.bulkAsked = false) && decide (s.twn.queue = []) && decide (s.twn.bulk = []) && decide (s.twn.bulkOpen = true)) &&
   (let s : State := ((((State.reset).twnWith (fun x => { x with bulkAsked := true })).setFld F.TWN_STAT_LANE_LOCK 2).setFld F.TWN_STAT_ROLE 3).setFld F.RUN_CFG_EN 0 0; decide (s.role = 3) && decide (s.linkUp = true) && decide (s.runnelOn (s.fld F.TWN_RUNNEL_KEY_RUNNEL) = false) && decide (s.twn.bulkAsked = true) && decide (s.memsReady bulkMems = false) && decide (s.twn.overflow = false) && decide (s.twn.queue = []) && decide (s.twn.bulk = []) && decide (s.twn.bulkOpen = false)) &&
   (let s : State := ((State.reset).twnWith (fun x => { x with bulkOpen := true })).setFld F.TWN_STAT_ROLE 3; let cls : Nat := 1; let idx : Nat := 9; decide (s.role = 3) && decide (cls < 2) && decide (s.twn.bulkOpen = true) && decide (bulkKey s.twn.bulkAt ≤ bulkKey (cls, idx))) &&
   (let s : State := (State.reset).setFld F.TWN_STAT_LANE_LOCK 3; decide (s.linkUp = true))) = true ∧
  ((let s : State := (State.reset).setFld F.TWN_STAT_LANE_LOCK 2; decide (s.linkUp = true)) &&
   (let s : State := (((State.reset).setFld F.TWN_STAT_LANE_LOCK 2).setFld F.TWN_STAT_ROLE 2).up; decide (s.role = 2) && decide (s.linkUp = true) && decide (s.pointOn 9 = false) && decide (s.released = true))) = true ∧
  (let s : State := ((((State.reset).twnWith (fun x => { x with bulk := [(2, 0)] })).setFld F.TWN_STAT_LANE_LOCK 2).setFld F.TWN_STAT_ROLE 3).setFld F.RUN_CFG_EN 0 0; let cls : Nat := 2; let k : Nat := 0; let ks : List (Nat × Nat) := []; (∀ m x, s.eccOf m x = none)) :=
  ⟨by decide +kernel, by decide +kernel, by decide +kernel, (by intros; rfl)⟩

/-- The hypotheses of `Obligations.TwinMessages` are met: each clause at a state and operands. -/
theorem test_hyps_TwinMessages :
  ((let s : State := ((State.reset).setFld F.TWN_STAT_LANE_LOCK 2).setFld F.TWN_STAT_ROLE 2; let dt : Nat := 1; let ws : List Word := []; decide (s.role ≠ 0) && decide (s.linkUp = true) && decide (s.pointOn 8 = false) && decide (ws.length < 4096)) &&
   (let s : State := ((State.reset).setFld F.TWN_STAT_LANE_LOCK 2).setFld F.TWN_STAT_ROLE 2; let dt : Nat := 1; let seq : Nat := 1; let stamp : Nat := 1; let w : Word := 0; let ws : List Word := []; decide (s.role ≠ 0) && decide (s.linkUp = true) && decide (s.pointOn 8 = false) && decide (ws.length < 4096)) &&
   (let s : State := State.reset; let dt : Nat := 1; let seq : Nat := 1; let stamp : Nat := 1; let w : Word := 0; let ws : List Word := []; let ok : Bool := true; decide (s.role = 0))) = true :=
  by decide +kernel

/-- The hypotheses of `Obligations.TwinMessageEffects` are met: each clause at a state and operands. -/
theorem test_hyps_TwinMessageEffects :
  ((let s : State := State.reset; let a : Nat := 1; let stamp : Nat := 1; let w : Nat := 4; decide ((peerOf w).unit ≠ s.fld F.TWN_CTL_UNIT) && decide ((s.role = 0 ∨ s.role = 2))) &&
   (let s : State := (State.reset).setFld F.TWN_STAT_ROLE 1; let w : Nat := 3; decide (s.role = 1) && decide (s.twn.conflict = false) && decide ((peerOf w).role = 3)) &&
   (let s : State := ((State.reset).setFld F.TWN_STAT_ROLE 1).setFld F.TWN_CTL_PREFER 1; let w : Nat := 1; decide (s.role = 1) && decide (s.twn.conflict = false) && decide ((peerOf w).role = 1) && decide (s.flag F.TWN_CTL_PREFER = true) && decide ((peerOf w).prefer = false)) &&
   (let s : State := (State.reset).setFld F.TWN_STAT_ROLE 1; let w : Nat := 9; decide (s.role = 1) && decide (s.twn.conflict = false) && decide ((peerOf w).role = 1) && decide (s.flag F.TWN_CTL_PREFER = false) && decide ((peerOf w).prefer = true)) &&
   (let s : State := (State.reset).setFld F.TWN_STAT_ROLE 1; let w : Nat := 1; decide (s.role = 1) && decide (s.twn.conflict = false) && decide ((peerOf w).role = 1) && decide (s.flag F.TWN_CTL_PREFER = (peerOf w).prefer)) &&
   (let s : State := (State.reset).twnWith (fun x => { x with streak := 3, lastHb := some 0 }); decide (s.flag F.TWN_STAT_LINK_OK = false) && decide (3 ≤ s.twn.streak) && decide (s.twn.lastHb = some s.clp.now))) = true ∧
  ((let s : State := (State.reset).setFld F.TWN_STAT_ROLE 2; decide (s.role = 2)) &&
   (let s : State := ((State.reset).setFld F.TWN_STAT_ROLE 2).twnWith (fun x => { x with taking := true }); decide (s.role = 2) && decide (s.twn.taking = true)) &&
   (let s : State := ((State.reset).setFld F.TWN_STAT_ROLE 2).setFld F.CLP_STAT_ASN_VALID 1; decide (s.role = 2) && decide (s.twn.taking = false)) &&
   (let s : State := (State.reset).twnWith (fun x => { x with arrived := true }); decide (s.twn.arrived = true) && decide (s.fullNs = s.anchorNs)) &&
   (let s : State := (State.reset).setFld F.TWN_STAT_ROLE 3; decide (s.role ≠ 2)) &&
   (let s : State := (State.reset).setFld F.TWN_STAT_ROLE 3; decide (s.role = 3))) = true ∧
  ((let s : State := (State.reset).setFld F.TWN_STAT_ROLE 2; decide (s.role ≠ 3)) &&
   (let term : Nat := 65535; decide (term < 65536)) &&
   (let s : State := (State.reset).setFld F.TWN_STAT_ROLE 2; let w : Word := 0; decide (s.role = 2) && decide (w.toNat % 256 = 0)) &&
   (let s : State := (State.reset).setFld F.TWN_STAT_ROLE 2; let w : Word := 1; decide (s.role = 2) && decide (w.toNat % 256 = 1))) = true :=
  ⟨by decide +kernel, by decide +kernel, by decide +kernel⟩

/-- The hypotheses of `Obligations.TwinTakeoverCommands` are met: each clause at a state and operands. -/
theorem test_hyps_TwinTakeoverCommands :
  ((let s : State := ((((State.reset).twnWith (fun x => { x with goodbye := true })).setFld F.TWN_STAT_ROLE 2).setFld F.TWN_CTL_AUTO_TAKE 1).setFld F.TWN_STAT_SYNCED 1; let dt : Nat := 1; decide ((s.after dt).mayTake = true)) &&
   (let s : State := State.reset; let dt : Nat := 1; decide ((s.after dt).mayTake = false)) &&
   (let s : State := State.reset; (match s.alloc (s.takeoverFrame s.tkFcs).length with | (some cs, v) => true | _ => false)) &&
   (let s : State := (State.reset).runWith (fun x => { x with links := List.replicate 65536 (0, ⟨0, false, false⟩) }); (match s.alloc (s.takeoverFrame s.tkFcs).length with | (none, v) => true | _ => false)) &&
   (let s : State := (State.reset).setFld F.TWN_STAT_ROLE 2; let st : Status := .internal; decide (s.fld F.TWN_STAT_ROLE = 2) && decide (st ≠ .ok)) &&
   (let s : State := (State.reset).twnWith (fun x => { x with suspects := [4] }); decide (s.twn.suspects ≠ []))) = true ∧
  ((let s : State := (((((State.reset).twnWith (fun x => { x with peer := some { role := 2, synced := true } })).setFld F.TWN_STAT_ROLE 3).setFld F.TWN_STAT_LINK_OK 1).setFld F.CLP_STAT_ASN_VALID 1).up; decide (s.role = 3) && decide (s.peerReady = true) && decide (s.asnValid = true) && decide (s.released = true)) &&
   (let s : State := (State.reset).up; decide ((s.role ≠ 3 ∨ s.peerReady = false ∨ s.asnValid = false)) && decide (s.released = true)) &&
   (let s : State := ((((State.reset).twnWith (fun x => { x with handing := some 1 })).setFld F.TWN_STAT_ROLE 3).setFld F.TWN_STAT_LANE_LOCK 2).setFld F.CLP_STAT_ASN_VALID 1; let dt : Nat := 1; let h : Nat := 1; let u := s.after dt; decide (s.twn.handing = some h) && decide (s.role = 3) && decide (s.twn.handed = false) && decide (s.twn.queue = []) && decide (s.twn.overflow = false) && decide ((h + 2 ^ 40 - u.asn) % 2 ^ 40 ≤ 1) && decide (s.linkUp = true) && decide (s.pointOn 9 = false)) &&
   (let s : State := ((((State.reset).setFld F.TWN_STAT_ROLE 3).setFld F.RUN_CFG_EN 1 0).setRunnel 0 { words := [mkWord 9, mkWord 8] }).up; let dt : Nat := 1; let n := s.fld F.TWN_RUNNEL_TX_RUNNEL; let q := ((s.after dt).popWords n 2).1; decide (s.role ≠ 0) && decide (s.runnelOn n = true) && decide (2 ≤ s.poppable n) && decide (s.memReady 0 = true) && decide (q.any RunWord.isBad = false)) &&
   (let s : State := State.reset; decide ((s.role = 0 ∨ s.poppable (s.fld F.TWN_RUNNEL_TX_RUNNEL) < 2 ∨ s.memReady 0 = false))) &&
   (let w0 : Nat := 10977524091715584; decide ((bits w0 48 16 < 40 ∨ 9216 < bits w0 48 16)))) = true :=
  ⟨by decide +kernel, by decide +kernel⟩

/-- The hypotheses of `Obligations.BootCommands` are met: each clause at a state and operands. -/
theorem test_hyps_BootCommands :
  ((let s : State := ((((State.reset).pwrWith (fun x => { x with phase := .run, inited := [8] })).flsWith (fun x => { x with discovered := true })).setFld F.FLS_STAT_MODE 2).hdrWith 0 3; let dt : Nat := 1; decide (s.pwr.phase = .run) && decide (s.bot.booted = false) && decide (s.memReady 8 = true) && decide (s.fls.discovered = true) && decide (s.fld F.FLS_STAT_MODE ≠ 0) && (match s.bootHdr with | some (k, h) => let r := h.active % 2; decide (h.state r = 3) | _ => false)) &&
   (let s : State := ((((State.reset).pwrWith (fun x => { x with phase := .run, inited := [8] })).flsWith (fun x => { x with discovered := true })).setFld F.FLS_STAT_MODE 2).hdrWith 0 4; decide (s.pwr.phase = .run) && decide (s.bot.booted = false) && decide (s.memReady 8 = true) && decide (s.fls.discovered = true) && decide (s.fld F.FLS_STAT_MODE ≠ 0) && (match s.bootHdr with | some (k, h) => let r := h.active % 2; decide ((h.state r = 0 ∨ h.state r = 1 ∨ 4 ≤ h.state r)) | _ => false)) &&
   (let s : State := (((State.reset).pwrWith (fun x => { x with phase := .run, inited := [8] })).flsWith (fun x => { x with discovered := true })).setFld F.FLS_STAT_MODE 2; let dt : Nat := 1; decide (s.pwr.phase = .run) && decide (s.bot.booted = false) && decide (s.memReady 8 = true) && decide (s.fls.discovered = true) && decide (s.fld F.FLS_STAT_MODE ≠ 0) && decide (s.bootHdr = none)) &&
   (let s : State := ((State.reset).pwrWith (fun x => { x with phase := .run, inited := [8] })).flsWith (fun x => { x with discovered := true }); decide (s.pwr.phase = .run) && decide (s.bot.booted = false) && decide (s.memReady 8 = true) && decide (s.fls.discovered = true) && decide (s.fld F.FLS_STAT_MODE = 0)) &&
   (let s : State := (State.reset).pwrWith (fun x => { x with phase := .run, inited := [8] }); decide (s.pwr.phase = .run) && decide (s.bot.booted = false) && decide (s.memReady 8 = true) && decide (s.fls.discovered = false)) &&
   (let s : State := State.reset; decide ((s.pwr.phase ≠ .run ∨ s.bot.booted = true ∨ s.memReady 8 = false)))) = true ∧
  ((let s : State := State.reset; let r : Nat := 0; decide ((s.tryCold r).1 = false)) &&
   (let s : State := (State.reset).settingsWith; let r : Nat := 0; let res : Nat := 3; let warm : Bool := true; let fallback : Bool := true; decide (r < 2) && decide (res < 8) && (match s.settings with | some (fmt, a) => decide (s.payloadNat r 16 2 = fmt) | _ => false)) &&
   (let s : State := (State.reset).up; let req : Nat := 1; decide (req ≠ 129) && decide (s.released = true)) &&
   (let s : State := ((State.reset).pwrWith (fun x => { x with phase := .run })).hdrWith 0 3; (match s.bootHdr with | some (k, h) => decide (s.released = true) | _ => false))) = true :=
  ⟨by decide +kernel, by decide +kernel⟩

/-- The hypotheses of `Obligations.StillAndSilt` are met: each clause at a state and operands. -/
theorem test_hyps_StillAndSilt :
  ((let s : State := (State.reset).up; decide (s.flag F.OBS_STAT_STILL_PENDING = false) && decide (s.flag F.OBS_STAT_STILL_HELD = false) && decide (s.pwr.phase ≠ .failing) && decide (s.released = true)) &&
   (let s : State := ((State.reset).setFld F.OBS_STAT_STILL_HELD 1).up; let d : Word := 0; decide (s.flag F.OBS_STAT_STILL_PENDING = false) && decide (s.flag F.OBS_STAT_STILL_HELD = true) && decide (d.getLsbD 1 = false) && decide (s.released = true)) &&
   (let s : State := (State.reset).up; decide (s.flag F.OBS_STAT_STILL_PENDING = false) && decide (s.released = true)) &&
   (let s : State := ((State.reset).obsWith (fun x => { x with refused := some ((0, 0), false) })).up; decide (s.flag F.OBS_STAT_STILL_PENDING = false) && decide (s.obs.refused = some (s.cycle, false)) && decide (s.pwr.phase ≠ .failing) && decide (s.released = true)) &&
   (let s : State := (State.reset).setFld F.OBS_STAT_STILL_PENDING 1; decide (s.flag F.OBS_STAT_STILL_PENDING = true) && decide (s.pwr.phase ≠ .failing)) &&
   (let u : Nat := 291; let c : RegId × Nat × Nat := (unitCounters 291).headD (.GLB_BLOCK_ID, 0, 0); decide (u < 292) && decide (c ∈ unitCounters u))) = true ∧
  ((let s : State := (State.reset).setFld F.OBS_STILL_CTL_AUTO 1; decide (s.flag F.OBS_STILL_CTL_AUTO = true) && decide (s.flag F.OBS_STAT_STILL_PENDING = false) && decide (s.flag F.OBS_STAT_STILL_HELD = false) && decide (s.pwr.phase ≠ .failing)) &&
   (let s : State := (State.reset).pwrWith (fun x => { x with phase := .run }); decide (s.released = true)) &&
   (let s : State := State.reset; decide (s.released = false))) = true ∧
  (let s : State := (State.reset).up; (∀ p, s.obs.refused = some p → p.1 ≠ s.cycle)) ∧
  ((let s : State := (State.reset).up; let req : Nat := 5; let code : Nat := 384; decide ((req = 129 ∨ 384 ≤ code % 512)) && decide (s.released = true)) &&
   (let s : State := (State.reset).up; let req : Nat := 128; let code : Nat := 383; decide (req ≠ 129) && decide (code % 512 < 384) && decide (s.released = true)) &&
   (let s : State := State.reset; let code : Nat := 384; let value : Nat := 7; let rank : Nat := 1; decide (s.siltTurn.posts = [])) &&
   (let s : State := ((State.reset).siltPost 384 9).advance 1; let code : Nat := 384; let value : Nat := 7; let rank : Nat := 1; let c := SMap.getD s.obs.codes code {}; decide (s.siltTurn.posts = []) && decide (c.count ≠ 0)) &&
   (let s : State := State.reset; let code : Nat := 384; let value : Nat := 7; let rank : Nat := 1; let c := SMap.getD s.obs.codes code {}; decide (s.siltTurn.posts = []) && decide (c.count = 0)) &&
   (let s : State := (State.reset).up; decide (s.obs.bufCount < s.flushMark) && decide (s.siltTurn.posts = []) && decide (s.released = true))) = true ∧
  ((let s : State := ((State.reset).setFld F.OBS_STAT_RESTORED 1).up; decide (s.flag F.OBS_STAT_FLUSHING = false) && decide (s.flag F.OBS_STAT_RESTORED = true) && decide (s.released = true)) &&
   (let s : State := State.reset; decide ((s.flag F.OBS_STAT_FLUSHING = true ∨ s.flag F.OBS_STAT_RESTORED = false))) &&
   (let s : State := ((State.reset).obsWith (fun x => { x with flushReq := true })).up; decide (s.flag F.OBS_STAT_RESTORED = false) && decide (s.obs.unread = false) && decide (s.released = true)) &&
   (let s : State := (State.reset).obsWith (fun x => { x with bufCount := 1 }); decide (0 < s.obs.bufCount) && decide (s.flag F.OBS_STAT_FLUSHING = false)) &&
   (let s : State := (State.reset).setFld F.OBS_STAT_FLUSHING 1; decide (s.flag F.OBS_STAT_FLUSHING = true) && decide (s.siltIdle = true) && decide (s.obs.lost = 0) && decide (s.obs.flushReq = false) && decide (s.pwr.phase ≠ .failing)) &&
   (let s : State := (((State.reset).setFld F.FLS_STAT_MODE 2).flsWith (fun x => { x with discovered := true })).up; decide (s.flag F.OBS_STAT_RESTORED = false) && decide (s.fls.discovered = true) && decide (s.memReady 7 = true))) = true ∧
  ((let s : State := (State.reset).setFld F.OBS_STAT_RESTORED 1; decide ((s.flag F.OBS_STAT_RESTORED = true ∨ s.fls.discovered = false ∨ s.memReady 7 = false)))) = true :=
  ⟨by decide +kernel, by decide +kernel, (by dsimp only; intro w h; cases h), by decide +kernel, by decide +kernel, by decide +kernel⟩

/-- The hypotheses of `Obligations.EddyCommands` are met: each clause at a state and operands. -/
theorem test_hyps_EddyCommands :
  ((let s : State := (State.reset).up; let d : Word := 0x0000EDD1; decide (d.toNat % 2 ^ 32 = 0x0000EDD1) && decide (s.released = true)) &&
   (let s : State := ((State.reset).obsWith (fun x => { x with eddyKeyAt := some 0 })).up; let dt : Nat := 1000000; let a : Nat := 0; let d : Word := 0x1EDD0000; decide (d.toNat % 2 ^ 32 = 0x1EDD0000) && decide (s.obs.eddyKeyAt = some a) && decide (s.clp.now + dt ≤ a + 1000000) && decide (s.flag F.OBS_STAT_LOCKED = false) && decide (s.released = true)) &&
   (let s : State := (State.reset).up; let d : Word := 5; decide (d.toNat % 2 ^ 32 ≠ 0x0000EDD1) && decide (d.toNat % 2 ^ 32 ≠ 0x1EDD0000) && decide (s.released = true)) &&
   (let s : State := (State.reset).up; decide (s.released = true)) &&
   (let s : State := ((State.reset).setFld F.OBS_STAT_LOCKED 1).up; let d : Word := 0x1EDD0000; decide (s.flag F.OBS_STAT_LOCKED = true) && decide (s.flag F.OBS_STAT_OPEN = false) && decide (d.toNat % 2 ^ 32 = 0x1EDD0000) && decide (s.released = true)) &&
   (let s : State := (State.reset).up; let k : Nat := 9; decide (k < 10) && decide (s.released = true))) = true ∧
  ((let s : State := (State.reset).setPoint 9 { held := some { bytes := [], ts := 0, asn := 0, left := 5, since := 0 } }; let k : Nat := 9; let h : EddyHeld := { bytes := [], ts := 0, asn := 0, left := 5, since := 0 }; decide (k < 10) && decide ((s.point k).held = some h))) = true ∧
  (let s : State := (State.reset).up; let d : Word := 5; (∀ k, (s.point k).held = none)) ∧
  (let s : State := (State.reset).up; (∀ k, (s.point k).held = none)) ∧
  (let s : State := ((State.reset).setFld F.OBS_STAT_LOCKED 1).up; let d : Word := 0x1EDD0000; (∀ k, (s.point k).held = none)) :=
  ⟨by decide +kernel, by decide +kernel, (by intros; rfl), (by intros; rfl), (by intros; rfl)⟩

/-- The hypotheses of `Obligations.StepRunsFrontCommand` are met: each clause at a state and operands. -/
theorem test_hyps_StepRunsFrontCommand :
  ((let s : State := (State.reset).pendWith [.flipLock]; let c : Instr := .flipLock; let q : List Instr := []; decide (s.pending = c :: q)) &&
   (let s : State := State.reset; decide (s.pending = []))) = true :=
  by decide +kernel

/-- The hypotheses of `Obligations.WordWrite` are met: each clause at a state and operands. -/
theorem test_hyps_WordWrite :
  ((let m : Nat := 0; let w : Nat := 2097151; let v : Nat := 18446744073709551615; let m' := 7; let a := 16777215; decide (w < 2 ^ 21) && decide (v < 2 ^ 64) && decide (a < 2 ^ 24) && decide ((m' ≠ m ∨ a / 8 ≠ w))) &&
   (let w : Nat := 2097151; let v : Nat := 18446744073709551615; decide (w < 2 ^ 21) && decide (v < 2 ^ 64)) &&
   (let s : State := State.reset; let m : Nat := 1; let w : Nat := 2097151; let v : Nat := 18446744073709551615; decide (w < 2 ^ 21) && decide (v < 2 ^ 64) && decide (s.flipHits m w = false)) &&
   (let s : State := ((((State.reset).setFld F.MEM_FLIP_CTL_ARM 1).setFld F.MEM_FLIP_CTL_MEM 74).setFld F.MEM_FLIP_CTL_ANY 1).setFld F.MEM_FLIP_CTL_CHECK 1; let m : Nat := 74; let w : Nat := 2097151; let v : Nat := 18446744073709551615; decide (w < 2 ^ 21) && decide (v < 2 ^ 64) && decide (s.flipHits m w = true))) = true :=
  by decide +kernel

/-- The hypotheses of `Obligations.InterruptMessages` are met: each clause at a state and operands. -/
theorem test_hyps_InterruptMessages :
  ((let s : State := State.reset; decide (s.flag F.HST_STAT_MSIX_EN = false)) &&
   (let s : State := (State.reset).setFld F.HST_STAT_MSIX_EN 1; let v : Nat := 63; let e := SMap.getD s.hst.msix v {}; decide (s.flag F.HST_STAT_MSIX_EN = true) && decide ((s.hst.funcMask = true ∨ e.mask = true))) &&
   (let s : State := ((((State.reset).setFld F.HST_STAT_MSIX_EN 1).setFld F.HST_STAT_LINK_UP 1).setFld F.HST_STAT_BUS_MASTER 1).hstWith (fun x => { x with msix := [(63, ⟨4096, 9, false⟩)] }); let v : Nat := 63; let e := SMap.getD s.hst.msix v {}; decide (s.flag F.HST_STAT_MSIX_EN = true) && decide (s.hst.funcMask = false) && decide (e.mask = false) && decide (s.flag F.HST_STAT_LINK_UP = true) && decide (s.flag F.HST_STAT_BUS_MASTER = true) && decide (s.hst.cfg.d3hot = false)) &&
   (let s : State := State.reset; let v : Nat := 63; decide (s.msgsNow.find? (fun m => m.1 == v) = none)) &&
   (let s : State := (State.reset).hstWith (fun x => { x with msgs := (0, [(63, ⟨0, []⟩, false)]) }); let v : Nat := 63; let m : Nat × HostWrite × Bool := (63, ⟨0, []⟩, false); decide (s.msgsNow.find? (fun m => m.1 == v) = some m)) &&
   (let f : Fld := F.PWR_EVT_DORMANT_REFUSED; decide (f.w = 1) && decide (f.lo < 64))) = true ∧
  ((let s : State := ((State.reset).setReg .PWR_EVT 0 0 1).setReg .PWR_IRQ_EN 0 0 1; let f : Fld := F.PWR_EVT_DORMANT_REFUSED; let i : Nat := 0; decide (s.srcRaised f.reg i = true)) &&
   (let s : State := (State.reset).setReg .PWR_IRQ_EN 0 0 63; let f : Fld := F.PWR_EVT_DORMANT_REFUSED; let i : Nat := 0; decide (s.srcRaised f.reg i = false) && decide ((s.setFld f 1 i).srcRaised f.reg i = true))) = true :=
  ⟨by decide +kernel, by decide +kernel⟩

/-- The hypotheses of `Obligations.UnassignedOffsets` are met: each clause at a state and operands. -/
theorem test_hyps_UnassignedOffsets :
  ((let off : Nat := 0x40FFFC; decide (busTarget off = .none)) &&
   (let s : State := (State.reset).up; let off : Nat := 0x40FFFC; let w : Nat := 4; decide (busTarget off = .none) && decide (widthOk off w = true) && decide (s.released = true)) &&
   (let s : State := (State.reset).up; let off : Nat := 0x40FFFC; let w : Nat := 1; decide (busTarget off = .none) && decide (widthOk off w = true) && decide (s.released = true))) = true :=
  by decide +kernel

/-- The hypotheses of `Obligations.FirstOwnerKey` are met: each clause at a state and operands. -/
theorem test_hyps_FirstOwnerKey :
  ((let s : State := State.reset; let r : Nat := 1; decide (s.bot.owners = []))) = true :=
  by decide +kernel

/-- The hypotheses of `Obligations.FlipMaskArming` are met: each clause at a state and operands. -/
theorem test_hyps_FlipMaskArming :
  ((let s : State := ((State.reset).grtWith (fun x => { x with jtagLock := true })).up; let d : Word := 2; let m := d.toNat % 2 ^ 8; decide (s.flag F.MEM_FLIP_CTL_LOCK = false) && decide (d.getLsbD 31 = false) && decide ((memWords m = none ∨ ((m = 2 ∨ m = 3 ∨ m = 4) ∧ s.jtagOpen = false))) && decide (s.released = true)) &&
   (let s : State := (State.reset).up; let d : Word := 0x4A; let m := d.toNat % 2 ^ 8; decide (s.flag F.MEM_FLIP_CTL_LOCK = false) && decide (d.getLsbD 31 = false) && decide (memWords m ≠ none) && decide (((m ≠ 2 ∧ m ≠ 3 ∧ m ≠ 4) ∨ s.jtagOpen = true)) && decide (s.released = true)) &&
   (let s : State := (State.reset).up; decide (s.flag F.MEM_FLIP_CTL_LOCK = false) && decide (s.released = true)) &&
   (let s : State := State.reset; let d : Word := 0x80000000; decide (s.flag F.MEM_FLIP_CTL_LOCK = false) && decide (d.getLsbD 31 = true)) &&
   (let s : State := ((State.reset).setFld F.MEM_FLIP_CTL_LOCK 1).up; let d : Word := 0; decide (s.flag F.MEM_FLIP_CTL_LOCK = true) && decide (s.released = true)) &&
   (let s : State := (State.reset).setFld F.MEM_FLIP_CTL_LOCK 1; decide (s.flag F.MEM_FLIP_CTL_LOCK = true))) = true :=
  by decide +kernel

/-- The hypotheses of `Obligations.WeirUsedSumsBins` are met: each clause at a state and operands. -/
theorem test_hyps_WeirUsedSumsBins :
  ((let e : Nat := 1; decide (e < 16))) = true :=
  by decide +kernel

end Sys2Proof.Machine
end

section
/-! PROOFS. Accesses of the register window (R6, R7, R11, R12, R422, R431) and MSI-X (R527): what the access codes make of a register bit by
bit, what messages leave alone, each access by what its offset names, and the statements of the family that rest on them. -/

namespace Sys2Proof.Machine

/-! ## Field tables and masks (R11) -/

/-- Bit `k` of a register lies in a field. -/
def FieldSpec.Covers (f : FieldSpec) (k : Nat) : Prop := f.lo ≤ k ∧ k < f.lo + f.w

/-- Two fields share no bit. -/
abbrev FieldSpec.Apart (f g : FieldSpec) : Prop := f.lo + f.w ≤ g.lo ∨ g.lo + g.w ≤ f.lo

theorem FieldSpec.Apart.not_covers {f g : FieldSpec} (h : f.Apart g) {k : Nat} (hf : f.Covers k) : ¬ g.Covers k := by
  unfold FieldSpec.Apart at h
  unfold FieldSpec.Covers at hf ⊢
  omega

/-- A field table is sound: no two fields share a bit, and those of a 32-bit register lie in bits 31:0. -/
def RegId.fieldsSound (id : RegId) : Bool :=
  decide (id.fields.Pairwise FieldSpec.Apart) && (id.wide || id.fields.all fun f => decide (f.lo + f.w ≤ 32))

/-- Each register's own table, row by row. -/
theorem RegId.fieldsSound_all (id : RegId) : id.fieldsSound = true := by
  cases id <;> rfl

theorem RegId.fields_apart (id : RegId) : id.fields.Pairwise FieldSpec.Apart := by
  have h := id.fieldsSound_all
  simp only [RegId.fieldsSound, Bool.and_eq_true, decide_eq_true_eq] at h
  exact h.1

/-- A bit lies in one field at most. -/
theorem RegId.field_unique (id : RegId) {f g : FieldSpec} {k : Nat} (hf : f ∈ id.fields) (hg : g ∈ id.fields)
    (hfk : f.Covers k) (hgk : g.Covers k) : f = g := by
  by_contra hne
  have : Std.Symm FieldSpec.Apart := ⟨fun _ _ => Or.symm⟩
  exact (id.fields_apart.forall hf hg hne).not_covers hfk hgk

/-- The mask of the fields of a table that meet a condition. -/
def maskOf (P : FieldSpec → Prop) [DecidablePred P] (l : List FieldSpec) : Word :=
  BitVec.ofNat 64 ((l.map fun f => if P f then (2 ^ f.w - 1) * 2 ^ f.lo else 0).sum)

theorem RegId.accMask_eq_maskOf (id : RegId) (a : Access) : id.accMask a = maskOf (fun f => f.acc = a) id.fields := rfl

theorem RegId.rwMask_eq_maskOf (id : RegId) : id.rwMask = maskOf (fun f => f.acc = .rw ∨ f.acc = .rwl) id.fields := rfl

theorem getLsbD_fieldMask (f : FieldSpec) {k : Nat} (hk : k < 64) :
    (BitVec.ofNat 64 ((2 ^ f.w - 1) * 2 ^ f.lo)).getLsbD k = true ↔ f.Covers k := by
  simp only [BitVec.getLsbD_ofNat, hk, Nat.testBit_mul_two_pow, Nat.testBit_two_pow_sub_one, FieldSpec.Covers, decide_true,
    Bool.true_and, Bool.and_eq_true, decide_eq_true_eq]
  omega

/-- A bit of a mask is set where a chosen field covers it. -/
theorem getLsbD_maskOf (P : FieldSpec → Prop) [DecidablePred P] {l : List FieldSpec} (hl : l.Pairwise FieldSpec.Apart) {k : Nat}
    (hk : k < 64) : (maskOf P l).getLsbD k = true ↔ ∃ f ∈ l, P f ∧ f.Covers k := by
  induction l generalizing k with
  | nil => simp [maskOf]
  | cons f l ih =>
    obtain ⟨hf, hl⟩ := List.pairwise_cons.mp hl
    have hcons : maskOf P (f :: l) = BitVec.ofNat 64 (if P f then (2 ^ f.w - 1) * 2 ^ f.lo else 0) + maskOf P l := by
      simp [maskOf, BitVec.ofNat_add]
    by_cases hP : P f
    · have hdisj : BitVec.ofNat 64 ((2 ^ f.w - 1) * 2 ^ f.lo) &&& maskOf P l = 0#64 := by
        ext n hn
        rw [BitVec.getElem_and, BitVec.getElem_zero, ← BitVec.getLsbD_eq_getElem, ← BitVec.getLsbD_eq_getElem,
          Bool.and_eq_false_iff, ← Bool.not_eq_true, ← Bool.not_eq_true, getLsbD_fieldMask f hn, ih hl hn]
        by_contra! hboth
        obtain ⟨hfn, g, hg, -, hgn⟩ := hboth
        exact (hf g hg).not_covers hfn hgn
      rw [hcons, if_pos hP, BitVec.add_eq_or_of_and_eq_zero _ _ hdisj, BitVec.getLsbD_or, Bool.or_eq_true,
        getLsbD_fieldMask f hk, ih hl hk]
      simp [hP]
    · rw [hcons, if_neg hP]
      simp [ih hl hk, hP]

theorem RegId.getLsbD_accMask (id : RegId) (a : Access) {k : Nat} (hk : k < 64) :
    (id.accMask a).getLsbD k = true ↔ ∃ f ∈ id.fields, f.acc = a ∧ f.Covers k := by
  rw [id.accMask_eq_maskOf, getLsbD_maskOf _ id.fields_apart hk]

theorem RegId.getLsbD_rwMask (id : RegId) {k : Nat} (hk : k < 64) :
    id.rwMask.getLsbD k = true ↔ ∃ f ∈ id.fields, (f.acc = .rw ∨ f.acc = .rwl) ∧ f.Covers k := by
  rw [id.rwMask_eq_maskOf, getLsbD_maskOf _ id.fields_apart hk]

/-- A mask read off the field table: some field of those access codes covers the bit. -/
theorem RegId.any_covers_eq (id : RegId) (p : Access → Prop) [DecidablePred p] {k : Nat} (hk : k < 64) :
    (id.fields.any fun f => decide (p f.acc ∧ f.lo ≤ k ∧ k < f.lo + f.w)) = (maskOf (fun f => p f.acc) id.fields).getLsbD k := by
  rw [Bool.eq_iff_iff, getLsbD_maskOf _ id.fields_apart hk]
  simp [FieldSpec.Covers]

/-- A register after a write, bit by bit (R11). -/
theorem RegId.getLsbD_written (id : RegId) (old d : Word) {k : Nat} (hk : k < 64) : (id.written old d).getLsbD k =
    (if (id.fields.any fun f => decide ((f.acc = .rw ∨ f.acc = .rwl) ∧ f.lo ≤ k ∧ k < f.lo + f.w)) = true then d.getLsbD k
    else if (id.fields.any fun f => decide (f.acc = .w1c ∧ f.lo ≤ k ∧ k < f.lo + f.w)) = true then old.getLsbD k && !d.getLsbD k
    else if (id.fields.any fun f => decide (f.acc = .w1s ∧ f.lo ≤ k ∧ k < f.lo + f.w)) = true then old.getLsbD k || d.getLsbD k
    else old.getLsbD k) := by
  have hexcl : (id.accMask .w1c).getLsbD k = true → (id.accMask .w1s).getLsbD k = true → False := by
    rw [id.getLsbD_accMask _ hk, id.getLsbD_accMask _ hk]
    rintro ⟨f, hf, hfa, hfk⟩ ⟨g, hg, hga, hgk⟩
    obtain rfl := id.field_unique hf hg hfk hgk
    simp [hfa] at hga
  rw [id.any_covers_eq (fun a => a = .rw ∨ a = .rwl) hk, id.any_covers_eq (· = .w1c) hk, id.any_covers_eq (· = .w1s) hk,
    ← id.rwMask_eq_maskOf, ← id.accMask_eq_maskOf, ← id.accMask_eq_maskOf]
  simp only [RegId.written, BitVec.getLsbD_or, BitVec.getLsbD_and, BitVec.getLsbD_not, hk, decide_true, Bool.true_and]
  cases id.rwMask.getLsbD k with
  | true => cases d.getLsbD k <;> simp
  | false =>
    cases hc : (id.accMask .w1c).getLsbD k with
    | true => simp [eq_false_of_ne_true (hexcl hc)]
    | false => cases (id.accMask .w1s).getLsbD k <;> simp

/-- The fields of a 32-bit register lie in bits 31:0 (R6). -/
theorem RegId.covers_lt_32 (id : RegId) (hw : id.wide = false) {f : FieldSpec} (hf : f ∈ id.fields) {k : Nat} (hk : f.Covers k) :
    k < 32 := by
  have h := id.fieldsSound_all
  simp only [RegId.fieldsSound, hw, Bool.and_eq_true, Bool.false_or, List.all_eq_true, decide_eq_true_eq] at h
  exact lt_of_lt_of_le hk.2 (h.2 f hf)

/-- The upper half of a 32-bit register takes no write. -/
theorem RegId.getLsbD_written_upper (id : RegId) (hw : id.wide = false) (old d : Word) {k : Nat} (hk : k < 64) (h32 : 32 ≤ k) :
    (id.written old d).getLsbD k = old.getLsbD k := by
  have hno (p : Access → Prop) [DecidablePred p] :
      ¬ (id.fields.any fun f => decide (p f.acc ∧ f.lo ≤ k ∧ k < f.lo + f.w)) = true := by
    rw [id.any_covers_eq p hk, getLsbD_maskOf _ id.fields_apart hk]
    rintro ⟨f, hf, -, hfk⟩
    exact absurd (id.covers_lt_32 hw hf hfk) (by omega)
  rw [id.getLsbD_written old d hk, if_neg (hno fun a => a = .rw ∨ a = .rwl), if_neg (hno (· = .w1c)), if_neg (hno (· = .w1s))]

/-! ## Bits of a field -/

theorem testBit_bits (v lo w k : Nat) : (bits v lo w).testBit k = (decide (k < w) && v.testBit (lo + k)) := by
  simp [bits, Nat.testBit_mod_two_pow, Nat.testBit_div_two_pow, Nat.add_comm]

/-- A field reads alike where its bits are alike. -/
theorem bits_congr {v v' lo w : Nat} (h : ∀ k, lo ≤ k → k < lo + w → v.testBit k = v'.testBit k) : bits v lo w = bits v' lo w := by
  apply Nat.eq_of_testBit_eq
  intro k
  rw [testBit_bits, testBit_bits]
  by_cases hk : k < w
  · rw [h (lo + k) (by omega) (by omega)]
  · simp [hk]

/-- A bit of a register as a field of its own. -/
theorem flag_bit (s : State) (id : RegId) (i j k : Nat) : s.flag ⟨id, k, 1⟩ i j = (s.reg id i j).getLsbD k := by
  simp only [State.flag, State.fld, bits, BitVec.getLsbD, Nat.testBit_eq_decide_div_mod_eq, pow_one]
  rfl

/-! ## A read of an RC register (R11, R12) -/

/-- With nothing added in its cycle a read clears the RC fields. -/
theorem RegId.bits_cleared_rc (id : RegId) (r : Word) {f : FieldSpec} (hf : f ∈ id.fields) (ha : f.acc = .rc) :
    bits (r &&& ~~~(id.accMask .rc)).toNat f.lo f.w = 0 := by
  calc bits (r &&& ~~~(id.accMask .rc)).toNat f.lo f.w
      = bits 0 f.lo f.w := bits_congr fun k hlo hhi => ?_
    _ = 0 := by simp [bits]
  by_cases hk : k < 64
  · have hm := (id.getLsbD_accMask .rc hk).mpr ⟨f, hf, ha, hlo, hhi⟩
    rw [BitVec.testBit_toNat, BitVec.getLsbD_and, BitVec.getLsbD_not, hm, Nat.zero_testBit]
    simp
  · rw [BitVec.testBit_toNat, BitVec.getLsbD_of_ge _ _ (by omega), Nat.zero_testBit]

/-- A read that clears the RC fields leaves the others. -/
theorem RegId.bits_cleared_other (id : RegId) (r : Word) {f : FieldSpec} (hf : f ∈ id.fields) (ha : f.acc ≠ .rc) :
    bits (r &&& ~~~(id.accMask .rc)).toNat f.lo f.w = bits r.toNat f.lo f.w := by
  refine bits_congr fun k hlo hhi => ?_
  by_cases hk : k < 64
  · have hm : (id.accMask .rc).getLsbD k = false := by
      rw [← Bool.not_eq_true, id.getLsbD_accMask .rc hk]
      rintro ⟨g, hg, hga, hgk⟩
      exact ha (id.field_unique hf hg ⟨hlo, hhi⟩ hgk ▸ hga)
    rw [BitVec.testBit_toNat, BitVec.testBit_toNat, BitVec.getLsbD_and, BitVec.getLsbD_not, hm]
    simp [hk]
  · rw [BitVec.testBit_toNat, BitVec.testBit_toNat, BitVec.getLsbD_of_ge _ _ (by omega), BitVec.getLsbD_of_ge _ _ (by omega)]

/-! ## What sending messages leaves alone (R527, R529) -/

/-- `t` is `s` but for its interrupt messages: pending bits, the messages of the cycle, and what was sent. -/
def State.SameButMessages (s t : State) : Prop :=
  ∃ pba sent msgs, t = { s with hst := { s.hst with pba := pba, sent := sent, msgs := msgs } }

namespace State.SameButMessages

theorem refl (s : State) : s.SameButMessages s := ⟨_, _, _, rfl⟩

theorem trans {s t u : State} (h : s.SameButMessages t) (h' : t.SameButMessages u) : s.SameButMessages u := by
  obtain ⟨_, _, _, rfl⟩ := h
  obtain ⟨_, _, _, rfl⟩ := h'
  exact ⟨_, _, _, rfl⟩

/-- A conditional effect that only sends messages. -/
theorem on {s t : State} (h : s.SameButMessages t) (c : Bool) {f : State → State} (hf : ∀ t : State, t.SameButMessages (f t)) :
    s.SameButMessages (t.on c f) :=
  on_keeps c h (h.trans (hf t))

variable {s t : State} (h : s.SameButMessages t)
include h

theorem regs : t.regs = s.regs := by obtain ⟨_, _, _, rfl⟩ := h; rfl
theorem mem : t.mem = s.mem := by obtain ⟨_, _, _, rfl⟩ := h; rfl
theorem funcMask : t.hst.funcMask = s.hst.funcMask := by obtain ⟨_, _, _, rfl⟩ := h; rfl
theorem msix : t.hst.msix = s.hst.msix := by obtain ⟨_, _, _, rfl⟩ := h; rfl
theorem cycNow : t.cycNow = s.cycNow := by obtain ⟨_, _, _, rfl⟩ := h; rfl

end State.SameButMessages

theorem unsend_sameButMessages (s : State) (v : Nat) : s.SameButMessages { s with hst := (s.unsend v).1 } := by
  unfold State.unsend
  split <;> exact ⟨_, _, _, rfl⟩

theorem sendVector_sameButMessages (s : State) (v : Nat) (b : Bool) : s.SameButMessages (s.sendVector v b) := by
  unfold State.sendVector
  split
  · exact .refl s
  · dsimp only
    split
    · exact ⟨_, _, _, rfl⟩
    · split
      · exact (unsend_sameButMessages s v).trans ⟨_, _, _, rfl⟩
      · exact .refl s

theorem settleVector_sameButMessages (s : State) (v : Nat) : s.SameButMessages (s.settleVector v) := by
  unfold State.settleVector
  split
  · exact .refl s
  · dsimp only
    have hclear : s.SameButMessages { s with hst := { s.hst with pba := SMap.del s.hst.pba v } } := ⟨_, _, _, rfl⟩
    split
    · exact hclear.trans (unsend_sameButMessages _ v)
    · exact hclear

theorem rearm_sameButMessages (s : State) (evt : RegId) (i : Nat) : s.SameButMessages (s.rearm evt i) := by
  unfold State.rearm
  dsimp only
  split
  · exact sendVector_sameButMessages _ _ _
  · exact settleVector_sameButMessages _ _

theorem msixFlush_sameButMessages (s : State) (v : Nat) : s.SameButMessages (s.msixFlush v) := by
  unfold State.msixFlush
  split
  · exact State.SameButMessages.trans ⟨_, _, _, rfl⟩ (sendVector_sameButMessages _ _ _)
  · exact .refl s

theorem foldl_sameButMessages {α : Type} {f : State → α → State} (hf : ∀ (s : State) (a : α), s.SameButMessages (f s a)) (l : List α)
    (s : State) : s.SameButMessages (l.foldl f s) :=
  List.foldlRecOn l f (.refl s) fun _ h a _ => h.trans (hf _ a)

/-! ## Writes under the access codes (R11, R12) -/

/-- A plain write puts what the access codes give and may send messages. -/
theorem plainWrite_sameButMessages (s : State) (id : RegId) (i j : Nat) (d : Word) :
    (s.setReg id i j (id.written (s.reg id i j) d)).SameButMessages (s.plainWrite id i j d) := by
  unfold State.plainWrite
  dsimp only
  split
  · exact rearm_sameButMessages _ _ _
  · split
    · exact rearm_sameButMessages _ _ _
    · exact .refl _

theorem cycNow_plainWrite (s : State) (id : RegId) (i j : Nat) (d : Word) : (s.plainWrite id i j d).cycNow = s.cycNow :=
  (plainWrite_sameButMessages s id i j d).cycNow

theorem reg_plainWrite_self (s : State) (id : RegId) (i j : Nat) (d : Word) :
    (s.plainWrite id i j d).reg id i j = id.written (s.reg id i j) d := by
  rw [reg_congr (plainWrite_sameButMessages s id i j d).regs, reg_setReg_self]

theorem reg_plainWrite_ne (s : State) {id id' : RegId} {i j i' j' : Nat} (d : Word) (h : ¬(id' = id ∧ i' = i ∧ j' = j)) :
    (s.plainWrite id i j d).reg id' i' j' = s.reg id' i' j' := by
  rw [reg_congr (plainWrite_sameButMessages s id i j d).regs, reg_setReg_ne _ _ h]

/-- A register without a rule of its own takes a plain write. -/
theorem regWrite_eq_plainWrite (s : State) (req : Nat) (id : RegId) (i j : Nat) (d : Word)
    (h : s.radioWrite id i j d = none ∧ s.coreWrite req id i j d = none ∧ s.sysWrite req id i d = none) :
    s.regWrite req id i j d = s.plainWrite id i j d := by
  obtain ⟨hradio, hcore, hsys⟩ := h
  simp only [State.regWrite, hradio, hcore, hsys]

/-- With no event in the cycle a write leaves nothing to keep. -/
theorem keepEvents_of_no_events (s : State) (id : RegId) (i : Nat) (d : Word) (h : s.cycNow.evts = []) : s.keepEvents id i d = s := by
  simp only [State.keepEvents, h, List.foldl_nil]

/-- Hardware sets an event bit again that a write with `d` has just cleared (R12). -/
def State.raiseAgain (id : RegId) (i : Nat) (d : Word) (s : State) (e : RegId × Nat × Nat) : State :=
  if e.1 == id && e.2.1 == i && d.getLsbD e.2.2 && !(s.reg id i 0).getLsbD e.2.2 then s.raise ⟨id, e.2.2, 1⟩ i else s

/-- Keeping the cycle's events raises again those cleared, and then only messages go. -/
theorem keepEvents_sameButMessages (s : State) (id : RegId) (i : Nat) (d : Word) :
    (s.cycNow.evts.foldl (State.raiseAgain id i d) s).SameButMessages (s.keepEvents id i d) := by
  refine foldl_sameButMessages (fun s e => ?_) _ _
  dsimp only
  split
  · exact unsend_sameButMessages s _
  · exact .refl s

/-- An event that is raised leaves the other event bits set. -/
theorem getLsbD_raise_of_set (s : State) (id : RegId) (i n k : Nat) (hn : n < 64) (h : (s.reg id i 0).getLsbD k = true) :
    ((s.raise ⟨id, n, 1⟩ i).reg id i 0).getLsbD k = true := by
  rw [← flag_bit, State.flag, beq_iff_eq] at h ⊢
  by_cases hk : n = k
  · subst hk
    exact fld_raise_self s _ i hn rfl
  · rw [fld_raise_disjoint s (f := ⟨id, n, 1⟩) (g := ⟨id, k, 1⟩) i i 0 hn (by dsimp only; omega), h]

theorem raiseAgain_keeps_set (id : RegId) (i : Nat) (d : Word) (s : State) (e : RegId × Nat × Nat) {k : Nat}
    (h : (s.reg id i 0).getLsbD k = true) : ((State.raiseAgain id i d s e).reg id i 0).getLsbD k = true := by
  unfold State.raiseAgain
  split
  · rename_i hc
    simp only [Bool.and_eq_true] at hc
    obtain ⟨⟨-, hd⟩, -⟩ := hc
    exact getLsbD_raise_of_set s id i _ k (BitVec.lt_of_getLsbD hd) h
  · exact h

theorem raiseAgain_sets (id : RegId) (i : Nat) (d : Word) (s : State) {k : Nat} (hd : d.getLsbD k = true) :
    ((State.raiseAgain id i d s (id, i, k)).reg id i 0).getLsbD k = true := by
  by_cases hset : (s.reg id i 0).getLsbD k = true
  · exact raiseAgain_keeps_set id i d s _ hset
  · have hc : State.raiseAgain id i d s (id, i, k) = s.raise ⟨id, k, 1⟩ i := by simp [State.raiseAgain, hd, hset]
    rw [hc, ← flag_bit, State.flag, fld_raise_self s ⟨id, k, 1⟩ i (BitVec.lt_of_getLsbD hd) rfl]
    rfl

/-- What each step of a fold keeps, and the step of one element brings about, holds at the end. -/
theorem foldl_of_mem {σ α : Type} {P : σ → Prop} {f : σ → α → σ} (hkeep : ∀ s a, P s → P (f s a)) {a : α} (hset : ∀ s, P (f s a)) :
    ∀ (l : List α) (s : σ), a ∈ l → P (l.foldl f s)
  | b :: l, s, ha => by
    rcases List.mem_cons.mp ha with rfl | ha
    · exact List.foldlRecOn l f (hset s) fun s h b _ => hkeep s b h
    · exact foldl_of_mem hkeep hset l (f s b) ha

/-- A bit that stands set before the cycle's events are kept stays so. -/
theorem keepEvents_keeps_set (s : State) (id : RegId) (i : Nat) (d : Word) {k : Nat} (h : (s.reg id i 0).getLsbD k = true) :
    ((s.keepEvents id i d).reg id i 0).getLsbD k = true := by
  rw [reg_congr (keepEvents_sameButMessages s id i d).regs]
  exact List.foldlRecOn (motive := fun u : State => (u.reg id i 0).getLsbD k = true) _ _ h
    fun u hu e _ => raiseAgain_keeps_set id i d u e hu

/-- A bit that hardware sets in the cycle in which software clears it is set after it (R12). -/
theorem keepEvents_sets (s : State) (id : RegId) (i : Nat) (d : Word) {k : Nat} (he : (id, i, k) ∈ s.cycNow.evts)
    (hd : d.getLsbD k = true) : ((s.keepEvents id i d).reg id i 0).getLsbD k = true := by
  rw [reg_congr (keepEvents_sameButMessages s id i d).regs]
  exact foldl_of_mem (P := fun u : State => (u.reg id i 0).getLsbD k = true) (fun u e hu => raiseAgain_keeps_set id i d u e hu)
    (fun u => raiseAgain_sets id i d u hd) _ _ he

/-- The data a register of its width takes. -/
def RegId.cut (id : RegId) (d : Word) : Word := if id.wide then d else d &&& 0xFFFFFFFF

theorem RegId.getLsbD_cut (id : RegId) {d : Word} {k : Nat} (hd : d.getLsbD k = true) (hk : id.wide = true ∨ k < 32) :
    (id.cut d).getLsbD k = true := by
  unfold RegId.cut
  split
  · exact hd
  · rename_i hwide
    have hk32 : k < 32 := hk.resolve_left hwide
    have hmask : ∀ n < 32, (0xFFFFFFFF : Word).getLsbD n = true := by decide
    rw [BitVec.getLsbD_and, hd, hmask k hk32]
    rfl

/-! ## Time before an access -/

@[simp] theorem after_reg (s : State) (dt : Nat) (id : RegId) (i j : Nat) : (s.after dt).reg id i j = s.reg id i j :=
  advance_reg s dt id i j

@[simp] theorem after_released (s : State) (dt : Nat) : (s.after dt).released = s.released := by
  simp only [State.released, State.after, advance_pwr]

theorem powered_of_released {s : State} (h : s.released = true) (f : State → State) : s.powered f = f s := by
  rw [State.powered, h, on_true]

/-! ## Accesses by what the offset names (R6, R7, R422, R431) -/

/-- While the internal reset is held nothing answers a read. -/
theorem busRead_of_held {s : State} (h : s.released = false) (req off : Nat) : s.busRead req off = (0, s) := by
  rw [State.busRead, if_pos h]

theorem busWrite_of_held {s : State} (h : s.released = false) (req off w : Nat) (d : Word) : s.busWrite req off w d = s := by
  rw [State.busWrite, if_pos h]

/-- An unassigned offset reads 0. -/
theorem busRead_of_unassigned (s : State) (req : Nat) {off : Nat} (h : busTarget off = .none) : s.busRead req off = (0, s) := by
  simp only [State.busRead, h, ite_self]

/-- An unassigned offset takes no write. -/
theorem busWrite_of_unassigned (s : State) (req : Nat) {off : Nat} (w : Nat) (d : Word) (h : busTarget off = .none) :
    s.busWrite req off w d = s := by
  simp only [State.busWrite, h, ite_self]

theorem busRead_of_reg {s : State} (req : Nat) {off : Nat} {id : RegId} {i j : Nat} (hr : s.released = true)
    (ht : busTarget off = .reg id i j) (hj : jomuterOnly id i = false) : s.busRead req off = s.regRead id i j := by
  simp [State.busRead, hr, ht, hj]

theorem busWrite_of_reg {s : State} (req : Nat) {off : Nat} (w : Nat) (d : Word) {id : RegId} {i j : Nat} (hr : s.released = true)
    (ht : busTarget off = .reg id i j) (hj : jomuterOnly id i = false) :
    s.busWrite req off w d = (s.regWrite req id i j (id.cut d)).keepEvents id i (id.cut d) := by
  simp [State.busWrite, hr, ht, hj, RegId.cut]

/-- A write of a register without a rule of its own: a plain write, and the cycle's events kept. -/
theorem busWrite_of_plain {s : State} {req off : Nat} (w : Nat) (d : Word) {id : RegId} {i j : Nat} (hr : s.released = true)
    (ht : busTarget off = .reg id i j) (hj : jomuterOnly id i = false)
    (hplain : ∀ e, s.radioWrite id i j e = none ∧ s.coreWrite req id i j e = none ∧ s.sysWrite req id i e = none) :
    s.busWrite req off w d = (s.plainWrite id i j (id.cut d)).keepEvents id i (id.cut d) := by
  rw [busWrite_of_reg req w d hr ht hj, regWrite_eq_plainWrite _ _ _ _ _ _ (hplain _)]

/-! ## Reads of registers (R11, R12) -/

/-- The registers whose read has a rule of its own. -/
def regsWithReadRule : List RegId :=
  [.MAC_ASN, .MAC_CELL_DATA, .MAC_DRIFT_DATA, .OCL_J_DBG_DATA, .OCL_DBG_DATA, .RUN_HPOP, .CLP_NOW_S, .OBS_THR_CNT, .CHT_EVT]

/-- A register without such a rule is read by its access codes. -/
theorem regRead_of_no_rule (s : State) {id : RegId} (i j : Nat) (hid : id ∉ regsWithReadRule) :
    s.regRead id i j = if id.accMask .rc = 0 then (s.regView id i j, s) else s.rcRead id i j := by
  unfold State.regRead
  split
  case h_10 => rfl
  all_goals exact absurd (by decide) hid

/-- A read of a register with RC fields clears them; OBS_THR_CNT counts first (R499). -/
theorem regRead_of_rc (s : State) {id : RegId} (i j : Nat) (hrc : id.accMask .rc ≠ 0) (hid : id ≠ .OBS_THR_CNT) :
    s.regRead id i j = s.rcRead id i j := by
  have hrule : ∀ r ∈ regsWithReadRule, r = .OBS_THR_CNT ∨ r.accMask .rc = 0 := by decide
  have hno : id ∉ regsWithReadRule := fun hm => (hrule id hm).elim hid hrc
  rw [regRead_of_no_rule s i j hno, if_neg hrc]

/-- Nothing counted in the cycle: nothing is kept back from an RC read. -/
theorem lateCount_of_no_incs (s : State) (id : RegId) (i j : Nat) (h : s.cycNow.incs = []) : s.lateCount id i j = 0 := by
  refine List.sum_eq_zero fun x hx => ?_
  obtain ⟨f, -, rfl⟩ := List.mem_map.mp hx
  simp [h]

/-! ## COUNTER_READ and REGISTER_WRITE, case by case -/

theorem exec_registerWrite (a : Requester) (off w : Nat) (d : Word) (s : State) :
    exec (.registerWrite a off w d) s = execRegisterWrite a off w d s := rfl

theorem exec_counterRead (a : RegRead) (s : State) : exec (.counterRead a) s = execCounterRead a s := rfl

section
variable {s : State} {req dt off w : Nat}

theorem registerWrite_of_widthOk (d : Word) (hw : widthOk off w = true) :
    exec (.registerWrite ⟨req, dt⟩ off w d) s = .next ((s.after dt).busWrite req off w d) := by
  simp [exec_registerWrite, execRegisterWrite, hw]

theorem registerWrite_of_bad_width_host (d : Word) (hw : widthOk off w = false) :
    exec (.registerWrite ⟨128, dt⟩ off w d) s = .next ((s.after dt).powered fun s => s.raise F.HST_EVT_WIDTH_ERR) := by
  simp [exec_registerWrite, execRegisterWrite, hw]

theorem registerWrite_of_bad_width (d : Word) (hw : widthOk off w = false) (hq : req ≠ 128) :
    exec (.registerWrite ⟨req, dt⟩ off w d) s = .next (s.after dt) := by
  simp [exec_registerWrite, execRegisterWrite, hw, hq]

/-- A register write while the internal reset is held is lost, whatever its width. -/
theorem registerWrite_of_held (d : Word) (hr : s.released = false) :
    exec (.registerWrite ⟨req, dt⟩ off w d) s = .next (s.after dt) := by
  have hr' : (s.after dt).released = false := by rw [after_released, hr]
  cases hw : widthOk off w with
  | true => rw [registerWrite_of_widthOk d hw, busWrite_of_held hr']
  | false =>
    by_cases hq : req = 128
    · rw [hq, registerWrite_of_bad_width_host d hw, State.powered, hr', on_false]
    · exact registerWrite_of_bad_width d hw hq

theorem counterRead_of_held (hr : s.released = false) : exec (.counterRead ⟨⟨req, dt⟩, off, w⟩) s = .next (s.after dt) := by
  simp [exec_counterRead, execCounterRead, hr]

theorem counterRead_of_bad_width (hw : widthOk off w = false) (hr : s.released = true) :
    exec (.counterRead ⟨⟨req, dt⟩, off, w⟩) s =
      .next ((s.after dt).on (req == 128) fun s => (s.raise F.HST_EVT_WIDTH_ERR).hostAnswer (List.replicate w 0xFF) false) := by
  simp [exec_counterRead, execCounterRead, hr, hw]

theorem counterRead_of_unassigned (hw : widthOk off w = true) (ht : busTarget off = .none) (hr : s.released = true) :
    exec (.counterRead ⟨⟨req, dt⟩, off, w⟩) s = .next (s.after dt) := by
  simp [exec_counterRead, execCounterRead, hr, hw, ht]

variable {id : RegId} {i j : Nat}

theorem counterRead_of_no_rc (hw : widthOk off w = true) (ht : busTarget off = .reg id i j) (hrc : id.accMask .rc = 0)
    (hr : s.released = true) : exec (.counterRead ⟨⟨req, dt⟩, off, w⟩) s = .next (s.after dt) := by
  simp [exec_counterRead, execCounterRead, hr, hw, ht, hrc]

/-- A read of an RC register: what the bus gives, answered to the host where it asks. -/
theorem counterRead_of_rc (hw : widthOk off w = true) (ht : busTarget off = .reg id i j) (hrc : id.accMask .rc ≠ 0)
    (hr : s.released = true) : exec (.counterRead ⟨⟨req, dt⟩, off, w⟩) s =
      .next (((s.after dt).busRead req off).2.on (req == 128)
        fun u => u.hostAnswer (leBytes w ((s.after dt).busRead req off).1.toNat) false) := by
  simpa [exec_counterRead, execCounterRead, hr, hw, ht] using fun h => absurd h hrc

end

/-! ## MSI-X Enable and the masks (R527) -/

theorem exec_msixEnable (en m : Bool) (s : State) : exec (.msixEnable en m) s = .next (s.powered fun s => s.msixEnable en m) := rfl

theorem exec_msixUnmask (v : Nat) (s : State) : exec (.msixUnmask v) s = .next (s.powered fun s => s.msixWrite (v % 64) 3 0) := rfl

/-- MSI-X Enable and the Function Mask take what is written, and then only messages go. -/
theorem msixEnable_sameButMessages (s : State) (en m : Bool) :
    ({ s with hst := { s.hst with funcMask := m } }.setFld F.HST_STAT_MSIX_EN (cond en 1 0)).SameButMessages (s.msixEnable en m) := by
  unfold State.msixEnable
  refine State.SameButMessages.on (.on (.refl _) en ?flush) _ ?raised
  case flush => exact fun t => foldl_sameButMessages msixFlush_sameButMessages (List.range 64) t
  case raised => exact fun t => foldl_sameButMessages (fun t v => sendVector_sameButMessages t v false) t.raisedVectors t

/-- Writing the control word 0 clears a vector's mask, and then only messages go. -/
theorem msixUnmask_sameButMessages (s : State) (v : Nat) :
    { s with hst := { s.hst with msix := SMap.put s.hst.msix v { SMap.getD s.hst.msix v {} with mask := false } } }.SameButMessages
      (s.msixWrite v 3 0) :=
  msixFlush_sameButMessages _ v

theorem flag_msixEnable (s : State) (en m : Bool) : (s.msixEnable en m).flag F.HST_STAT_MSIX_EN = en := by
  rw [flag_congr (msixEnable_sameButMessages s en m).regs, State.flag, fld_setFld_self _ _ _ _ _ (by decide)]
  cases en <;> rfl

/-! ## The statements -/

/-- A host write of a wrong width writes nothing and sets WIDTH_ERR (R6). -/
theorem registerWrite_width_err {s : State} (dt : Nat) {off w : Nat} (d : Word) (hw : widthOk off w = false) (hr : s.released = true) :
    Completes (.registerWrite ⟨128, dt⟩ off w d) s fun t => t = (s.after dt).raise F.HST_EVT_WIDTH_ERR :=
  ⟨_, registerWrite_of_bad_width_host d hw, powered_of_released (by rw [after_released, hr]) _⟩

section
variable {s : State} {req dt off w : Nat} {d : Word} {id : RegId} {i j : Nat}

/-- With no event in the cycle a plain write leaves what the access codes give, and every other register. -/
theorem registerWrite_plain (hw : widthOk off w = true) (ht : busTarget off = .reg id i j) (hj : jomuterOnly id i = false)
    (hplain : ∀ e, (s.after dt).radioWrite id i j e = none ∧ (s.after dt).coreWrite req id i j e = none ∧
      (s.after dt).sysWrite req id i e = none)
    (he : (s.after dt).cycNow.evts = []) (hr : s.released = true) : Completes (.registerWrite ⟨req, dt⟩ off w d) s fun t =>
      t.reg id i j = id.written (s.reg id i j) (id.cut d) ∧
        ∀ id' i' j', ¬(id' = id ∧ i' = i ∧ j' = j) → t.reg id' i' j' = s.reg id' i' j' := by
  refine ⟨_, registerWrite_of_widthOk d hw, ?_⟩
  have hr' : (s.after dt).released = true := by rw [after_released, hr]
  rw [busWrite_of_plain w d hr' ht hj hplain, keepEvents_of_no_events _ _ _ _ (by rw [cycNow_plainWrite, he])]
  refine ⟨by rw [reg_plainWrite_self, after_reg], fun id' i' j' hne => ?_⟩
  rw [reg_plainWrite_ne _ _ hne, after_reg]

/-- A bit that hardware sets in the cycle of its clearing write stays set (R12). -/
theorem registerWrite_keeps_event {k : Nat} (hw : widthOk off w = true) (ht : busTarget off = .reg id i 0)
    (hj : jomuterOnly id i = false)
    (hplain : ∀ e, (s.after dt).radioWrite id i 0 e = none ∧ (s.after dt).coreWrite req id i 0 e = none ∧
      (s.after dt).sysWrite req id i e = none)
    (hk : k < 64) (he : (id, i, k) ∈ (s.after dt).cycNow.evts) (hset : (s.reg id i 0).getLsbD k = true) (hr : s.released = true) :
    Completes (.registerWrite ⟨req, dt⟩ off w d) s fun t => d.getLsbD k = true → (t.reg id i 0).getLsbD k = true := by
  refine ⟨_, registerWrite_of_widthOk d hw, fun hd => ?_⟩
  have hr' : (s.after dt).released = true := by rw [after_released, hr]
  rw [busWrite_of_plain w d hr' ht hj hplain]
  by_cases hcut : id.wide = true ∨ k < 32
  · exact keepEvents_sets _ id i _ (by rwa [cycNow_plainWrite]) (id.getLsbD_cut hd hcut)
  · obtain ⟨hwide, h32⟩ := not_or.mp hcut
    apply keepEvents_keeps_set
    rw [reg_plainWrite_self, id.getLsbD_written_upper (eq_false_of_ne_true hwide) _ _ hk (by omega), after_reg, hset]

/-- An RC read: what is answered, what stays in the register, and every other register. -/
theorem counterRead_clears (hw : widthOk off w = true) (ht : busTarget off = .reg id i j) (hrc : id.accMask .rc ≠ 0)
    (hj : jomuterOnly id i = false) (hid : id ≠ .OBS_THR_CNT) (hr : s.released = true) :
    let late := (s.after dt).lateCount id i j
    Completes (.counterRead ⟨⟨req, dt⟩, off, w⟩) s fun t =>
      (req = 128 → t.hst.readData = leBytes w (s.reg id i j - BitVec.ofNat 64 late).toNat ∧ t.hst.readBad = false) ∧
        ((s.after dt).busRead req off).1 = s.reg id i j - BitVec.ofNat 64 late ∧
        t.reg id i j = (s.reg id i j &&& ~~~(id.accMask .rc)) ||| BitVec.ofNat 64 late ∧
        (late = 0 → (∀ f ∈ id.fields, f.acc = .rc → bits (t.reg id i j).toNat f.lo f.w = 0) ∧
          ∀ f ∈ id.fields, f.acc ≠ .rc → bits (t.reg id i j).toNat f.lo f.w = bits (s.reg id i j).toNat f.lo f.w) ∧
        ∀ id' i' j', ¬(id' = id ∧ i' = i ∧ j' = j) → t.reg id' i' j' = s.reg id' i' j' := by
  intro late
  refine ⟨_, counterRead_of_rc hw ht hrc hr, ?_⟩
  have hr' : (s.after dt).released = true := by rw [after_released, hr]
  rw [busRead_of_reg req hr' ht hj, regRead_of_rc _ i j hrc hid]
  have hregs (c : Bool) (u : State) (bs : List Byte) (id' : RegId) (i' j' : Nat) :
      (u.on c fun u => u.hostAnswer bs false).reg id' i' j' = u.reg id' i' j' := by cases c <;> rfl
  have hself : ((s.after dt).rcRead id i j).2.reg id i j = (s.reg id i j &&& ~~~(id.accMask .rc)) ||| BitVec.ofNat 64 late := by
    simp only [State.rcRead, reg_setReg_self, after_reg, late]
  refine ⟨?_, ?_, ?_, ?_, ?_⟩
  · rintro rfl
    simp only [State.rcRead, after_reg, late]
    exact ⟨rfl, rfl⟩
  · simp only [State.rcRead, after_reg, late]
  · rw [hregs, hself]
  · intro hlate
    rw [hregs, hself, hlate, BitVec.or_zero]
    exact ⟨fun f hf ha => id.bits_cleared_rc _ hf ha, fun f hf ha => id.bits_cleared_other _ hf ha⟩
  · intro id' i' j' hne
    rw [hregs]
    simp only [State.rcRead, reg_setReg_ne _ _ hne, after_reg]

end

/-- A host's RC read of a wrong width returns every bit 1 and sets WIDTH_ERR (R6, R390). -/
theorem counterRead_width_err {s : State} (dt : Nat) {off w : Nat} (hw : widthOk off w = false) (hr : s.released = true) :
    Completes (.counterRead ⟨⟨128, dt⟩, off, w⟩) s fun t =>
      t.flag F.HST_EVT_WIDTH_ERR = true ∧ t.hst.readData = List.replicate w 0xFF ∧ t.hst.readBad = false ∧
        t = ((s.after dt).raise F.HST_EVT_WIDTH_ERR).hostAnswer (List.replicate w 0xFF) false := by
  refine ⟨_, counterRead_of_bad_width hw hr, ?_, rfl, rfl, rfl⟩
  have h := fld_raise_self (s.after dt) F.HST_EVT_WIDTH_ERR 0 (by decide) rfl
  exact beq_iff_eq.mpr h

theorem msixEnable_completes {s : State} (en m : Bool) (hr : s.released = true) : Completes (.msixEnable en m) s fun t =>
    t.flag F.HST_STAT_MSIX_EN = en ∧ t.hst.funcMask = m ∧ t.mem = s.mem := by
  refine ⟨_, exec_msixEnable en m s, ?_⟩
  rw [powered_of_released hr]
  have h := msixEnable_sameButMessages s en m
  exact ⟨flag_msixEnable s en m, h.funcMask, h.mem⟩

theorem msixUnmask_completes {s : State} {v : Nat} (hv : v < 64) (hr : s.released = true) : Completes (.msixUnmask v) s fun t =>
    (SMap.getD t.hst.msix v {}).mask = false ∧ (SMap.getD t.hst.msix v {}).addr = (SMap.getD s.hst.msix v {}).addr ∧
      t.regs = s.regs := by
  refine ⟨_, exec_msixUnmask v s, ?_⟩
  rw [powered_of_released hr, Nat.mod_eq_of_lt hv]
  have h := msixUnmask_sameButMessages s v
  dsimp only
  rw [h.msix, SMap.getD_put_self]
  exact ⟨rfl, rfl, h.regs⟩

/-- Settles O3: an unassigned offset is none of the bus's targets, so every access passes it by. -/
theorem unassignedOffsets : Obligations.UnassignedOffsets := by
  intro s req dt off w d ht
  refine ⟨busRead_of_unassigned s req ht, busWrite_of_unassigned s req w d ht, fun hw _ => ?_, fun hw hr => ?_⟩
  · exact ⟨_, registerWrite_of_widthOk d hw, busWrite_of_unassigned _ req w d ht⟩
  · exact ⟨_, counterRead_of_unassigned hw ht hr, rfl⟩

/-- Settles O40: each clause by the lemma of its case; the register after a write or an RC read is worked out bit by bit from the field
tables, whose fields share no bit. -/
theorem registerCommands : Obligations.RegisterCommands := by
  unfold Obligations.RegisterCommands
  refine ⟨fun s dt off w d hw hr => registerWrite_width_err dt d hw hr,
    fun s req dt off w d hw hq _ => ⟨_, registerWrite_of_bad_width d hw hq, rfl⟩,
    fun s req dt off w d id i j => registerWrite_plain,
    fun s req dt off w k d id i => registerWrite_keeps_event,
    fun id old d k hk => id.getLsbD_written old d hk,
    fun s req dt off w d hw _ => ⟨_, registerWrite_of_widthOk d hw, rfl⟩,
    fun s req dt off w d hr => ⟨⟨_, registerWrite_of_held d hr, rfl⟩, ⟨_, counterRead_of_held hr, rfl⟩, busRead_of_held hr req off⟩,
    fun s dt off w d hw ht _ => ⟨_, registerWrite_of_widthOk d hw, busWrite_of_unassigned _ 128 w d ht⟩,
    fun s req dt off w id i j => ?rcRead,
    fun s req dt off w id i j => counterRead_clears,
    fun s id i j => lateCount_of_no_incs s id i j,
    fun s req dt off w id i j hw ht hrc hr => ⟨_, counterRead_of_no_rc hw ht hrc hr, rfl⟩,
    fun s dt off w hw hr => counterRead_width_err dt hw hr,
    fun s req dt off w hw hq hr => ⟨_, counterRead_of_bad_width hw hr, by rw [beq_false_of_ne hq, on_false]⟩,
    fun s req off id i j hr ht hj hid hrc => ?plainRead,
    fun s en m hr => msixEnable_completes en m hr,
    fun s v hv hr => msixUnmask_completes hv hr⟩
  case rcRead =>
    intro r hw ht hrc hr
    refine ⟨_, counterRead_of_rc hw ht hrc hr, ?_⟩
    by_cases hq : req = 128
    · simp [hq, r]
    · rw [beq_false_of_ne hq, on_false, if_neg hq]
  case plainRead =>
    rw [busRead_of_reg req hr ht hj, regRead_of_no_rule s i j hid, if_pos hrc]

end Sys2Proof.Machine
end

section
/-! PROOFS. The receive chains (R21–R23, R55–R58): flags, counters and time as the receive side uses them, then clipping, the window and
control writes and the changes of STATE, each command by a lemma of its own. -/

namespace Sys2Proof.Machine

/-! ## Flags and time -/

theorem flag_of_fld_eq_one {s : State} {f : Fld} {i j : Nat} (h : s.fld f i j = 1) : s.flag f i j = true := by
  rw [State.flag, h]
  rfl

/-- An event bit reads set. -/
theorem flag_raise_self (s : State) (f : Fld) (i : Nat) (h : f.lo + f.w ≤ 64) (hw : f.w = 1) : (s.raise f i).flag f i = true :=
  flag_of_fld_eq_one (fld_raise_self s f i h hw)

/-- A one-bit field takes a written truth value. -/
theorem flag_setFld_cond (s : State) (f : Fld) (b : Bool) (i j : Nat) (h : f.lo + f.w ≤ 64) (hw : f.w = 1) :
    (s.setFld f (cond b 1 0) i j).flag f i j = b := by
  rw [State.flag, fld_setFld_self _ _ _ _ _ h, hw]
  cases b <;> rfl

@[simp] theorem after_fld (s : State) (dt : Nat) (f : Fld) (i j : Nat) : (s.after dt).fld f i j = s.fld f i j := advance_fld s dt f i j

theorem advanceTo_now (s : State) (t : Nat) : (s.advanceTo t).clp.now = max s.clp.now t := by
  rw [State.advanceTo, advance_now]
  omega

@[simp] theorem advanceTo_fld (s : State) (t : Nat) (f : Fld) (i j : Nat) : (s.advanceTo t).fld f i j = s.fld f i j :=
  advance_fld s _ f i j

/-- A 32-bit counter after a count (R497). -/
theorem fld_bump_32 (s : State) {f : Fld} (n i j : Nat) (hlo : f.lo = 0) (hw : f.w = 32) :
    (s.bump f n i j).fld f i j = min 0xFFFFFFFF (s.fld f i j + n) := by
  rw [fld_bump_self _ _ _ _ _ (by omega), hw]
  rfl

/-! ## Commands that complete -/

theorem completes_of_exec {c : Instr} {s t : State} {P : State → Prop} (he : exec c s = .next t) (h : P t) : Completes c s P :=
  ⟨t, he, h⟩

theorem completes_of_powered {c : Instr} {s : State} {f : State → State} {P : State → Prop} (hr : s.released = true)
    (he : exec c s = .next (s.powered f)) (h : P (f s)) : Completes c s P :=
  ⟨_, he, by rwa [powered_of_released hr]⟩

/-! ## Clipping (R21) -/

/-- A clipped interval sets its event and counts. -/
theorem clip_effect (s : State) (j : Nat) {evt cnt : Fld} (he : evt.lo + evt.w ≤ 64) (hew : evt.w = 1) (hlo : cnt.lo = 0)
    (hw : cnt.w = 32) (hne : cnt.reg ≠ evt.reg) : (s.clip j evt cnt).flag evt j = true ∧
      (s.clip j evt cnt).fld cnt j = min 0xFFFFFFFF (s.fld cnt j + 1) := by
  refine ⟨flag_raise_self _ _ _ he hew, ?_⟩
  rw [State.clip, fld_raise_id _ _ _ _ hne, fld_bump_32 _ _ _ _ hlo hw]

/-- An interval clipped on aerial B leaves what aerial A's has set. -/
theorem clipB_fld (s : State) (b : Bool) (j : Nat) {g : Fld} (hg : g = F.PLM_EVT_CLIP_A ∨ g = F.PLM_CNT_CLIP_A_COUNT) :
    (s.on b fun s => s.clip j F.PLM_EVT_CLIP_B F.PLM_CNT_CLIP_B_COUNT).fld g j = s.fld g j := by
  refine on_fld b (f := fun s => s.clip j F.PLM_EVT_CLIP_B F.PLM_CNT_CLIP_B_COUNT) ?_
  obtain rfl | rfl := hg
  · rw [State.clip, fld_raise_disjoint _ _ _ _ (by decide) (by decide), fld_bump_id _ _ _ _ _ _ (by decide)]
  · rw [State.clip, fld_raise_id _ _ _ _ (by decide), fld_bump_id _ _ _ _ _ _ (by decide)]

theorem exec_clipInterval (dt j : Nat) (a b : Bool) (s : State) : exec (.clipInterval dt j a b) s = execClipInterval dt j a b s := rfl

theorem clipInterval_of_sampling {s : State} {dt j : Nat} (b : Bool) (h : 1 ≤ s.chainState j) : exec (.clipInterval dt j true b) s =
    .next (((s.after dt).clip j F.PLM_EVT_CLIP_A F.PLM_CNT_CLIP_A_COUNT).on b fun s => s.clip j F.PLM_EVT_CLIP_B F.PLM_CNT_CLIP_B_COUNT) := by
  have hs : 1 ≤ (s.after dt).chainState j := by rwa [State.chainState, after_fld]
  rw [exec_clipInterval, execClipInterval, decide_eq_true hs, on_true, on_true]

theorem clipInterval_completes {s : State} (dt : Nat) {j : Nat} (b : Bool) (h : 1 ≤ s.chainState j) :
    Completes (.clipInterval dt j true b) s fun t => t.flag F.PLM_EVT_CLIP_A j = true ∧
      t.fld F.PLM_CNT_CLIP_A_COUNT j = min 0xFFFFFFFF (s.fld F.PLM_CNT_CLIP_A_COUNT j + 1) := by
  refine completes_of_exec (clipInterval_of_sampling b h) ?_
  obtain ⟨hflag, hcount⟩ := clip_effect (s.after dt) j (evt := F.PLM_EVT_CLIP_A) (cnt := F.PLM_CNT_CLIP_A_COUNT) (by decide) rfl
    rfl rfl (by decide)
  rw [State.flag, clipB_fld _ b j (.inl rfl), clipB_fld _ b j (.inr rfl), hcount, after_fld]
  exact ⟨hflag, rfl⟩

/-! ## Windows and requests (R22, R23, R55) -/

theorem exec_plmWindowWrite (j : Nat) (d : Word) (s : State) :
    exec (.plmWindowWrite j d) s = .next (s.powered fun s => s.plmWindowWrite j d) := rfl

theorem exec_plmChainCtlWrite (j : Nat) (d : Word) (s : State) :
    exec (.plmChainCtlWrite j d) s = .next (s.powered fun s => s.plmChainCtlWrite j d) := rfl

theorem plmWindowWrite_of_not_listening {s : State} {j : Nat} (d : Word) (h : s.listening j = false) :
    s.plmWindowWrite j d = (s.setFld F.PLM_WINDOW_CENTRE_KHZ d.toNat j).chainAsk j := by
  rw [State.plmWindowWrite, h, if_neg Bool.false_ne_true]

theorem plmWindowWrite_completes {s : State} {j : Nat} (d : Word) (h : s.listening j = false) (hr : s.released = true) :
    Completes (.plmWindowWrite j d) s fun t => t.fld F.PLM_WINDOW_CENTRE_KHZ j = d.toNat % 2 ^ 23 := by
  refine completes_of_powered hr (exec_plmWindowWrite j d s) ?_
  rw [plmWindowWrite_of_not_listening d h, chainAsk_fld _ _ _ _ (by decide) (by decide)]
  exact fld_setFld_self _ _ _ _ _ (by decide)

/-- A Parked chain with an invalid centre stays Parked, whatever start was under way (R22). -/
theorem chainAsk_of_bad_centre {s : State} {j : Nat} (hp : s.chainState j = 0) (ha : s.chainAsked j ≠ 0)
    (hc : centreOk (s.fld F.PLM_WINDOW_CENTRE_KHZ j) = false) : ∃ c c' : PlmChain, c'.primedAt = none ∧
      s.chainAsk j = ((s.setPlmChain j c).setPlmChain j c').raise F.PLM_EVT_WINDOW_BAD j := by
  simp only [State.chainAsk, hp, if_neg ha, setPlmChain_fld, hc, Bool.not_false, if_true]
  exact ⟨_, _, rfl, rfl⟩

theorem plmWindowWrite_bad_completes {s : State} {j : Nat} {d : Word} (hp : s.chainState j = 0) (ha : s.chainAsked j ≠ 0)
    (hc : centreOk (d.toNat % 2 ^ 23) = false) (hr : s.released = true) : Completes (.plmWindowWrite j d) s fun t =>
      t.chainState j = 0 ∧ (t.plmChain j).primedAt = none ∧ t.flag F.PLM_EVT_WINDOW_BAD j = true := by
  have hl : s.listening j = false := by simp [State.listening, hp]
  refine completes_of_powered hr (exec_plmWindowWrite j d s) ?_
  rw [plmWindowWrite_of_not_listening d hl]
  have hwin : (s.setFld F.PLM_WINDOW_CENTRE_KHZ d.toNat j).fld F.PLM_WINDOW_CENTRE_KHZ j = d.toNat % 2 ^ 23 :=
    fld_setFld_self _ _ _ _ _ (by decide)
  have hkeep {g : Fld} (hg : g.reg ≠ .PLM_WINDOW) : (s.setFld F.PLM_WINDOW_CENTRE_KHZ d.toNat j).fld g j = s.fld g j :=
    fld_setFld_id _ _ _ _ _ _ hg
  have hp' : (s.setFld F.PLM_WINDOW_CENTRE_KHZ d.toNat j).chainState j = 0 := (hkeep (by decide)).trans hp
  have ha' : (s.setFld F.PLM_WINDOW_CENTRE_KHZ d.toNat j).chainAsked j ≠ 0 := by
    rwa [State.chainAsked, hkeep (by decide)]
  obtain ⟨c, c', hnone, hask⟩ := chainAsk_of_bad_centre hp' ha' (by rwa [hwin])
  rw [hask]
  refine ⟨?_, ?_, flag_raise_self _ _ _ (by decide) rfl⟩
  · rw [State.chainState, fld_raise_id _ _ _ _ (by decide)]
    exact hp'
  · rw [State.plmChain, raise_plm]
    exact (congrArg PlmChain.primedAt (plmChain_setPlmChain _ j c')).trans hnone

theorem plmChainCtlWrite_completes {s : State} (j : Nat) (d : Word) (hr : s.released = true) : Completes (.plmChainCtlWrite j d) s fun t =>
    t.fld F.PLM_CHAIN_CTL_TARGET j = bits d.toNat 0 2 ∧ t.fld F.PLM_CHAIN_CTL_AER_MODE j = bits d.toNat 4 2 ∧
      t.fld F.PLM_CHAIN_CTL_FCSFAIL_CMPL j = bits d.toNat 8 1 := by
  refine completes_of_powered hr (exec_plmChainCtlWrite j d s) ?_
  have hask (s : State) {g : Fld} (hg : g.reg = .PLM_CHAIN_CTL) : (s.chainAsk j).fld g j = s.fld g j :=
    chainAsk_fld s j j 0 (by rw [hg]; decide) (by rw [hg]; decide)
  have hmod (lo w : Nat) : bits d.toNat lo w % 2 ^ w = bits d.toNat lo w := Nat.mod_mod _ _
  rw [State.plmChainCtlWrite]
  refine ⟨?_, ?_, ?_⟩
  · rw [hask _ rfl, fld_setFld_disjoint _ _ _ _ _ _ (by decide) (by decide), fld_setFld_disjoint _ _ _ _ _ _ (by decide) (by decide),
      fld_setFld_self _ _ _ _ _ (by decide)]
    exact hmod 0 2
  · rw [hask _ rfl, fld_setFld_disjoint _ _ _ _ _ _ (by decide) (by decide), fld_setFld_self _ _ _ _ _ (by decide)]
    exact hmod 4 2
  · rw [hask _ rfl, fld_setFld_self _ _ _ _ _ (by decide)]
    exact hmod 8 1

/-! ## Changes of STATE (R55–R58) -/

@[simp] theorem setChainState_clp (s : State) (j v : Nat) : (s.setChainState j v).clp = s.clp := by
  rw [State.setChainState, raise_clp, setFld_clp]

@[simp] theorem rillRestart_clp (s : State) (j n : Nat) : (s.rillRestart j n).clp = s.clp := rfl

/-- What every rill's turn leaves alone stays. -/
theorem forRills_clp {f : State → Nat → State} (h : ∀ s n, (f s n).clp = s.clp) (s : State) : (s.forRills f).clp = s.clp :=
  List.foldlRecOn (motive := fun t => t.clp = s.clp) _ f rfl fun t ih n _ => (h t n).trans ih

theorem forRills_chainState {f : State → Nat → State} (j : Nat) (h : ∀ s n, (f s n).chainState j = s.chainState j) (s : State) :
    (s.forRills f).chainState j = s.chainState j := foldl_fld h _ _

theorem rillRestart_chainState (s : State) (j n i : Nat) : (s.rillRestart j n).chainState i = s.chainState i :=
  rillRestart_fld s j n i 0 (by decide)

/-- STATE and the other bits of its register share none. -/
theorem setFld_chainState (s : State) {f : Fld} (v i j : Nat) (hf : f = F.PLM_CHAIN_STAT_CONV_LOCK ∨ f = F.PLM_CHAIN_STAT_ADC_CAL_OK) :
    (s.setFld f v i).chainState j = s.chainState j := by
  obtain rfl | rfl := hf
  · exact fld_setFld_disjoint s v i 0 j 0 (by decide) (by decide)
  · exact fld_setFld_disjoint s v i 0 j 0 (by decide) (by decide)

/-- The converter PLL of a pair stopping leaves STATE as it is. -/
theorem unlockPair_chainState (s : State) (b : Bool) (k j : Nat) : (s.on b fun s =>
    (s.setFld F.PLM_CHAIN_STAT_CONV_LOCK 0 k).setFld F.PLM_CHAIN_STAT_CONV_LOCK 0 (k + 1)).chainState j = s.chainState j :=
  on_keeps (P := fun t => t.chainState j = s.chainState j) b rfl
    ((setFld_chainState _ _ _ _ (.inl rfl)).trans (setFld_chainState _ _ _ _ (.inl rfl)))

theorem unlockPair_clp (s : State) (b : Bool) (k : Nat) : (s.on b fun s =>
    (s.setFld F.PLM_CHAIN_STAT_CONV_LOCK 0 k).setFld F.PLM_CHAIN_STAT_CONV_LOCK 0 (k + 1)).clp = s.clp :=
  on_keeps (P := fun t => t.clp = s.clp) b rfl rfl

theorem exec_chainPrimed (j : Nat) (s : State) : exec (.chainPrimed j) s = execChainPrimed j s := rfl
theorem exec_chainListening (j : Nat) (s : State) : exec (.chainListening j) s = execChainListening j s := rfl
theorem exec_chainLeaveListening (j : Nat) (s : State) : exec (.chainLeaveListening j) s = execChainLeaveListening j s := rfl
theorem exec_chainParked (j : Nat) (s : State) : exec (.chainParked j) s = execChainParked j s := rfl

theorem chainPrimed_completes {s : State} {j at_ : Nat} (hat : (s.plmChain j).primedAt = some at_) (hp : s.chainState j = 0)
    (hc : centreOk (s.fld F.PLM_WINDOW_CENTRE_KHZ j) = true) : Completes (.chainPrimed j) s fun t =>
      t.clp.now = max s.clp.now at_ ∧ t.chainState j = 1 ∧ t.flag F.PLM_EVT_STATE_CHANGE j = true := by
  rw [Completes, exec_chainPrimed, execChainPrimed, hat]
  simp only [hp, hc, and_self, if_true]
  refine ⟨_, rfl, ?_, setChainState_chainState _ j 1 (by decide), flag_raise_self _ _ _ (by decide) rfl⟩
  simp only [setChainState_clp, setFld_clp, setPlmChain_clp, advanceTo_now]

theorem chainListening_completes {s : State} {j : Nat} (hs : s.chainState j = 1) (ha : s.chainAsked j = 2) :
    Completes (.chainListening j) s fun t => t.chainState j = 2 := by
  rw [Completes, exec_chainListening, execChainListening, if_pos ⟨hs, ha⟩]
  refine ⟨_, rfl, ?_⟩
  rw [forRills_chainState j fun s n => ?keeps, setChainState_chainState _ _ _ (by decide)]
  case keeps =>
    split
    · exact rillRestart_chainState s j n j
    · rfl

theorem chainLeaveListening_completes {s : State} {j : Nat} (hs : s.chainState j = 2) (ha : s.chainAsked j < 2)
    (hb : s.rillsBusy j = 0) : Completes (.chainLeaveListening j) s fun t => t.chainState j = 1 ∧ t.clp.now = s.clp.now + 1 := by
  rw [Completes, exec_chainLeaveListening, execChainLeaveListening, if_pos ⟨hs, ha, hb⟩]
  refine ⟨_, rfl, ?_, ?_⟩
  · rw [forRills_chainState j fun s n => rillRestart_chainState s j n j, setChainState_chainState _ _ _ (by decide)]
  · rw [forRills_clp fun s n => rillRestart_clp s j n, setChainState_clp, State.endCycle, advance_now]

theorem chainParked_completes {s : State} {j : Nat} (hs : s.chainState j = 1) (ha : s.chainAsked j = 0) (hi : s.idleNow j = true) :
    Completes (.chainParked j) s fun t => t.chainState j = 0 ∧ s.clp.now < t.clp.now ∧ t.clp.now ≤ s.clp.now + 2000 := by
  rw [Completes, exec_chainParked, execChainParked, if_pos ⟨hs, ha, hi⟩]
  refine ⟨_, rfl, ?_⟩
  rw [unlockPair_chainState, unlockPair_clp, setFld_chainState _ _ _ _ (.inr rfl), setFld_clp, setChainState_clp, State.after, advance_now]
  have hfree (v : Nat) : s.clp.now < s.clp.now + (1 + v % 2000) ∧ s.clp.now + (1 + v % 2000) ≤ s.clp.now + 2000 := by omega
  exact ⟨setChainState_chainState _ _ _ (by decide), hfree _⟩

/-- Settles O4, each clause by the lemma of its command. -/
theorem receiveChainCommands : Obligations.ReceiveChainCommands :=
  ⟨fun _ dt _ b h => clipInterval_completes dt b h,
    fun _ _ d h hr => plmWindowWrite_completes d h hr,
    fun _ _ _ hp ha hc hr => plmWindowWrite_bad_completes hp ha hc hr,
    fun _ j d hr => plmChainCtlWrite_completes j d hr,
    fun _ _ _ hat hp hc => chainPrimed_completes hat hp hc,
    fun _ _ hs ha => chainListening_completes hs ha,
    fun _ _ hs ha hb => chainLeaveListening_completes hs ha hb,
    fun _ _ hs ha hi => chainParked_completes hs ha hi⟩

end Sys2Proof.Machine
end

section
/-! PROOFS. The rill commands and PHY_MODE_WRITE (R59–R62): a write of PLM_RILL_CFG as its two halves, the fields other than EN and then EN. -/

namespace Sys2Proof.Machine

/-! ## Fields of written words -/

/-- The fields of PLM_RILL_CFG_n other than EN are bits 27:1. -/
theorem otherFields_bits (v : Nat) : otherFields (bits v 0 28) = bits v 1 27 := by
  simp only [otherFields, bits]
  omega

theorem getLsbD_one_of_pos {k : Nat} (hk : 1 ≤ k) : (1 : Word).getLsbD k = false := by
  simpa using Nat.ne_of_gt hk

theorem otherFields_or_one (d : Word) : otherFields (bits (d ||| 1).toNat 0 28) = otherFields (bits d.toNat 0 28) := by
  rw [otherFields_bits, otherFields_bits]
  refine bits_congr fun k hk _ => ?_
  rw [BitVec.testBit_toNat, BitVec.testBit_toNat, BitVec.getLsbD_or, getLsbD_one_of_pos hk, Bool.or_false]

theorem otherFields_and_not_one (d : Word) : otherFields (bits (d &&& ~~~1).toNat 0 28) = otherFields (bits d.toNat 0 28) := by
  rw [otherFields_bits, otherFields_bits]
  refine bits_congr fun k hk hk' => ?_
  have hlt : k < 64 := by omega
  rw [BitVec.testBit_toNat, BitVec.testBit_toNat, BitVec.getLsbD_and, BitVec.getLsbD_not, getLsbD_one_of_pos hk, decide_eq_true hlt,
    Bool.not_false, Bool.and_true, Bool.and_true]

/-- EN as a word written to PLM_RILL_CFG_n gives it is its bit 0. -/
theorem en_of_cfg (d : Word) : bits d.toNat 0 28 % 2 = (d.getLsbD 0).toNat := by
  have h : bits d.toNat 0 28 % 2 = d.toNat % 2 := by
    rw [bits]
    omega
  rw [h, ← BitVec.testBit_toNat, Nat.toNat_testBit, pow_zero, Nat.div_one]

theorem en_or_one (d : Word) : bits (d ||| 1).toNat 0 28 % 2 = 1 := by
  rw [en_of_cfg, BitVec.getLsbD_or, show (1 : Word).getLsbD 0 = true from rfl, Bool.or_true, Bool.toNat_true]

theorem en_and_not_one (d : Word) : bits (d &&& ~~~1).toNat 0 28 % 2 = 0 := by
  rw [en_of_cfg, BitVec.getLsbD_and, show (~~~1 : Word).getLsbD 0 = false from rfl, Bool.and_false, Bool.toNat_false]

/-- A field of a register written whole. -/
theorem fld_setReg_self (s : State) (f : Fld) (i j : Nat) (v : Word) : (s.setReg f.reg i j v).fld f i j = bits v.toNat f.lo f.w := by
  rw [State.fld, reg_setReg_self]

/-- A field at bit 0 that a mask lets through whole takes the low bits written. -/
theorem fld_setReg_masked (s : State) (f : Fld) (i j : Nat) (d mask : Word) (hlo : f.lo = 0) (hm : ∀ k < f.w, mask.getLsbD k = true) :
    (s.setReg f.reg i j (d &&& mask)).fld f i j = d.toNat % 2 ^ f.w := by
  rw [fld_setReg_self, hlo]
  calc bits (d &&& mask).toNat 0 f.w
      = bits d.toNat 0 f.w := bits_congr fun k _ hk => ?_
    _ = d.toNat % 2 ^ f.w := by rw [bits, pow_zero, Nat.div_one]
  rw [BitVec.testBit_toNat, BitVec.testBit_toNat, BitVec.getLsbD_and, hm k (by omega), Bool.and_true]

/-! ## The enable checks and the registers they read (R59) -/

/-- Two states whose registers read alike. -/
def State.SameRegs (s t : State) : Prop := ∀ id i j, s.reg id i j = t.reg id i j

namespace State.SameRegs

variable {s t : State} (h : s.SameRegs t)
include h

theorem fld (f : Fld) (i j : Nat) : s.fld f i j = t.fld f i j := by
  rw [State.fld, State.fld, h]

theorem flag (f : Fld) (i j : Nat) : s.flag f i j = t.flag f i j := by
  rw [State.flag, State.flag, h.fld]

theorem sfld (f : Fld) (i j : Nat) : s.sfld f i j = t.sfld f i j := by
  rw [State.sfld, State.sfld, h.fld]

theorem phyValid (m : Nat) : s.phyValid m = t.phyValid m := by
  simp only [State.phyValid, h.fld]

theorem phyMinBw (m : Nat) : s.phyMinBw m = t.phyMinBw m := by
  simp only [State.phyMinBw, h.flag, h.fld]

theorem rillBw (j n : Nat) : s.rillBw j n = t.rillBw j n := by
  rw [State.rillBw, State.rillBw, h.fld]

theorem sniffList (j n : Nat) : s.sniffList j n = t.sniffList j n := by
  simp only [State.sniffList, h.fld]

/-- The enable checks read registers alone. -/
theorem rillCheck (j n : Nat) : s.rillCheck j n = t.rillCheck j n := by
  simp only [State.rillCheck, h.sfld, h.fld, h.sniffList, h.rillBw, h.phyMinBw, funext h.phyValid]

end State.SameRegs

/-! ## A restart of the detectors -/

/-- A restart changes STATE alone of PLM_RILL_STAT_n. -/
theorem rillRestart_stat (s : State) (j n : Nat) {g : Fld} (i k : Nat) (h : 2 ≤ g.lo) : (s.rillRestart j n).fld g i k = s.fld g i k := by
  rw [State.rillRestart, fld_setFld_disjoint _ _ _ _ _ _ (by decide) (.inr (by exact h)), setRill_fld]

theorem rillRestart_en (s : State) (j n : Nat) : (s.rillRestart j n).fld F.PLM_RILL_CFG_EN j n = s.fld F.PLM_RILL_CFG_EN j n :=
  rillRestart_fld s j n j n (by decide)

/-! ## EN set and cleared (R59, R61) -/

theorem rillEnable_accepted {s : State} {j n : Nat} (h : s.rillCheck j n = 0) :
    (s.rillEnable j n).flag F.PLM_RILL_CFG_EN j n = true ∧ (s.rillEnable j n).fld F.PLM_RILL_STAT_REFUSE j n = 0 := by
  simp only [State.rillEnable, h, if_true]
  have hen : ((s.setFld F.PLM_RILL_STAT_REFUSE 0 j n).setFld F.PLM_RILL_CFG_EN 1 j n).fld F.PLM_RILL_CFG_EN j n = 1 :=
    fld_setFld_self _ _ _ _ _ (by decide)
  have href : ((s.setFld F.PLM_RILL_STAT_REFUSE 0 j n).setFld F.PLM_RILL_CFG_EN 1 j n).fld F.PLM_RILL_STAT_REFUSE j n = 0 := by
    rw [fld_setFld_id _ _ _ _ _ _ (by decide), fld_setFld_self _ _ _ _ _ (by decide), Nat.zero_mod]
  split
  · rw [rillRestart_stat _ _ _ _ _ (by decide)]
    exact ⟨flag_of_fld_eq_one ((rillRestart_en _ _ _).trans hen), href⟩
  · exact ⟨flag_of_fld_eq_one hen, href⟩

theorem rillEnable_refused {s : State} {j n : Nat} (h : s.rillCheck j n ≠ 0) :
    (s.rillEnable j n).flag F.PLM_RILL_CFG_EN j n = s.flag F.PLM_RILL_CFG_EN j n ∧
      (s.rillEnable j n).flag F.PLM_EVT_MODE_REFUSED j = true := by
  rw [State.rillEnable, if_neg h]
  refine ⟨?_, flag_raise_self _ _ _ (by decide) rfl⟩
  rw [State.flag, fld_raise_id _ _ _ _ (by decide), fld_setFld_id _ _ _ _ _ _ (by decide), State.flag]

theorem rillDisable_en (s : State) (j n : Nat) : (s.rillDisable j n).flag F.PLM_RILL_CFG_EN j n = false := by
  have hen : (s.setFld F.PLM_RILL_CFG_EN 0 j n).fld F.PLM_RILL_CFG_EN j n = 0 := fld_setFld_self _ _ _ _ _ (by decide)
  suffices h : (s.rillDisable j n).fld F.PLM_RILL_CFG_EN j n = 0 by rw [State.flag, h]; rfl
  rw [State.rillDisable]
  split
  · exact hen
  · dsimp only
    split
    · rw [State.uncount, fld_setFld_id _ _ _ _ _ _ (by decide)]
      exact (rillRestart_en _ _ _).trans hen
    · rw [fld_bump_id _ _ _ _ _ _ (by decide)]
      exact (rillRestart_en _ _ _).trans hen
  · exact (rillRestart_en _ _ _).trans hen

/-! ## A write of PLM_RILL_CFG_n (R59–R61) -/

/-- An open rill: EN and STATE are 0 (R60). -/
theorem rillOpen_iff (s : State) (j n : Nat) : s.rillOpen j n = true ↔ s.flag F.PLM_RILL_CFG_EN j n = false ∧ s.rillState j n = 0 := by
  simp [State.rillOpen]

theorem cfg_even_of_not_en {s : State} {j n : Nat} (h : s.flag F.PLM_RILL_CFG_EN j n = false) :
    (s.reg .PLM_RILL_CFG j n).toNat % 2 = 0 := by
  have hb : bits (s.reg .PLM_RILL_CFG j n).toNat 0 1 ≠ 1 := beq_eq_false_iff_ne.mp h
  rw [bits] at hb
  omega

/-- An even word of PLM_RILL_CFG_n leaves EN 0. -/
theorem flag_en_of_even (s : State) (j n v : Nat) : (s.setReg .PLM_RILL_CFG j n (BitVec.ofNat 64 (2 * v))).flag F.PLM_RILL_CFG_EN j n = false := by
  have hb : bits (BitVec.ofNat 64 (2 * v)).toNat 0 1 ≠ 1 := by
    rw [bits, BitVec.toNat_ofNat]
    omega
  exact beq_eq_false_iff_ne.mpr ((fld_setReg_self s F.PLM_RILL_CFG_EN j n _).trans_ne hb)

/-- An open rill takes the fields other than EN; EN set then enables it. -/
theorem rillCfgWrite_of_open {s : State} {j n : Nat} (ho : s.rillOpen j n = true) (d : Word) : ∃ u : State,
    u.SameRegs (s.setReg .PLM_RILL_CFG j n (BitVec.ofNat 64 (2 * otherFields (bits d.toNat 0 28)))) ∧
      s.rillCfgWrite j n d = if bits d.toNat 0 28 % 2 = 1 then u.rillEnable j n else u := by
  obtain ⟨hen, -⟩ := (rillOpen_iff s j n).mp ho
  have heven := cfg_even_of_not_en hen
  by_cases hsame : otherFields (s.reg .PLM_RILL_CFG j n).toNat = otherFields (bits d.toNat 0 28)
  · refine ⟨s, fun id i k => ?same, ?written⟩
    case same =>
      by_cases hk : id = .PLM_RILL_CFG ∧ i = j ∧ k = n
      · obtain ⟨rfl, rfl, rfl⟩ := hk
        rw [reg_setReg_self, ← hsame, otherFields, Nat.mul_div_cancel' (Nat.dvd_of_mod_eq_zero heven), BitVec.ofNat_toNat, BitVec.setWidth_eq]
      · rw [reg_setReg_ne _ _ hk]
    case written =>
      by_cases hone : bits d.toNat 0 28 % 2 = 1 <;> simp [State.rillCfgWrite, hsame, hen, hone]
  · refine ⟨s.setReg .PLM_RILL_CFG j n (BitVec.ofNat 64 (2 * otherFields (bits d.toNat 0 28))), fun _ _ _ => rfl, ?_⟩
    by_cases hone : bits d.toNat 0 28 % 2 = 1 <;> simp [State.rillCfgWrite, hsame, hen, ho, heven, hone]

/-- Clearing EN disables the rill, whatever the other fields are written to. -/
theorem rillCfgWrite_of_enabled {s : State} {j n : Nat} {d : Word} (hen : s.flag F.PLM_RILL_CFG_EN j n = true)
    (hd : bits d.toNat 0 28 % 2 = 0) : ∃ u : State, s.rillCfgWrite j n d = u.rillDisable j n := by
  simp only [State.rillCfgWrite, hen, hd]
  exact ⟨_, rfl⟩

/-! ## The commands -/

theorem exec_rillEnable (j n : Nat) (d : Word) (s : State) :
    exec (.rillEnable j n d) s = .next (s.powered fun s => s.rillCfgWrite j n (d ||| 1)) := rfl

theorem exec_rillDisable (j n : Nat) (d : Word) (s : State) :
    exec (.rillDisable j n d) s = .next (s.powered fun s => s.rillCfgWrite j n (d &&& ~~~1)) := rfl

theorem exec_rillConfigWrite_cfg (j n : Nat) (d : Word) (s : State) : exec (.rillConfigWrite 0 j n d) s =
    .next (s.powered fun s => s.rillCfgWrite j n (if s.flag F.PLM_RILL_CFG_EN j n then d ||| 1 else d &&& ~~~1)) := rfl

theorem exec_rillConfigWrite_freq (j n : Nat) (d : Word) (s : State) :
    exec (.rillConfigWrite 1 j n d) s = .next (s.powered fun s => s.rillFreqWrite j n d) := rfl

theorem exec_rillConfigWrite_lim {which : Nat} (hw : 2 ≤ which) (j n : Nat) (d : Word) (s : State) :
    exec (.rillConfigWrite which j n d) s = .next (s.powered fun s => s.rillLimWrite j n d) := by
  obtain ⟨k, rfl⟩ := Nat.exists_eq_add_of_le' hw
  rfl

theorem exec_phyModeWrite (m : Nat) (d : Word) (s : State) :
    exec (.phyModeWrite m d) s = .next (s.powered fun s => s.phyModeWrite m d) := rfl

section
variable {s : State} {j n : Nat} (d : Word)

/-- RILL_ENABLE of an open rill: the other fields are taken, then EN is judged. -/
theorem rillEnable_of_open (ho : s.rillOpen j n = true) : ∃ u : State,
    u.SameRegs (s.setReg .PLM_RILL_CFG j n (BitVec.ofNat 64 (2 * otherFields (bits d.toNat 0 28)))) ∧
      s.rillCfgWrite j n (d ||| 1) = u.rillEnable j n := by
  obtain ⟨u, hu, hw⟩ := rillCfgWrite_of_open ho (d ||| 1)
  rw [if_pos (en_or_one d)] at hw
  rw [otherFields_or_one] at hu
  exact ⟨u, hu, hw⟩

theorem rillEnable_completes (ho : s.rillOpen j n = true)
    (hc : (s.setReg .PLM_RILL_CFG j n (BitVec.ofNat 64 (2 * otherFields (bits d.toNat 0 28)))).rillCheck j n = 0)
    (hr : s.released = true) : Completes (.rillEnable j n d) s fun t =>
      t.flag F.PLM_RILL_CFG_EN j n = true ∧ t.fld F.PLM_RILL_STAT_REFUSE j n = 0 := by
  refine completes_of_powered hr (exec_rillEnable j n d s) ?_
  obtain ⟨u, hu, hw⟩ := rillEnable_of_open d ho
  rw [hw]
  exact rillEnable_accepted ((hu.rillCheck j n).trans hc)

theorem rillEnable_refused_completes (ho : s.rillOpen j n = true)
    (hc : (s.setReg .PLM_RILL_CFG j n (BitVec.ofNat 64 (2 * otherFields (bits d.toNat 0 28)))).rillCheck j n ≠ 0)
    (hr : s.released = true) : Completes (.rillEnable j n d) s fun t =>
      t.flag F.PLM_RILL_CFG_EN j n = false ∧ t.flag F.PLM_EVT_MODE_REFUSED j = true := by
  refine completes_of_powered hr (exec_rillEnable j n d s) ?_
  obtain ⟨u, hu, hw⟩ := rillEnable_of_open d ho
  obtain ⟨hen, hevt⟩ := rillEnable_refused ((hu.rillCheck j n).trans_ne hc)
  rw [hw, hen, hu.flag]
  exact ⟨flag_en_of_even _ _ _ _, hevt⟩

theorem rillDisable_completes (hen : s.flag F.PLM_RILL_CFG_EN j n = true) (hr : s.released = true) :
    Completes (.rillDisable j n d) s fun t => t.flag F.PLM_RILL_CFG_EN j n = false := by
  refine completes_of_powered hr (exec_rillDisable j n d s) ?_
  obtain ⟨u, hw⟩ := rillCfgWrite_of_enabled hen (en_and_not_one d)
  rw [hw]
  exact rillDisable_en u j n

theorem rillConfigWrite_cfg_completes (ho : s.rillOpen j n = true) (hr : s.released = true) :
    Completes (.rillConfigWrite 0 j n d) s fun t =>
      t.reg .PLM_RILL_CFG j n = BitVec.ofNat 64 (2 * otherFields (bits d.toNat 0 28)) := by
  refine completes_of_powered hr (exec_rillConfigWrite_cfg j n d s) ?_
  obtain ⟨hen, -⟩ := (rillOpen_iff s j n).mp ho
  obtain ⟨u, hu, hw⟩ := rillCfgWrite_of_open ho (d &&& ~~~1)
  rw [hen, if_neg Bool.false_ne_true, hw, if_neg (by rw [en_and_not_one]; decide), hu, reg_setReg_self, otherFields_and_not_one]

theorem rillParamWrite_of_open (ho : s.rillOpen j n = true) (id : RegId) (mask : Word) :
    s.rillParamWrite id mask j n d = s.setReg id j n (d &&& mask) := by
  rw [State.rillParamWrite, if_pos ho]

theorem rillParamWrite_of_not_open (ho : s.rillOpen j n = false) (id : RegId) (mask : Word) :
    s.rillParamWrite id mask j n d = s.raise F.PLM_EVT_CFG_IGNORED j := by
  rw [State.rillParamWrite, ho, if_neg Bool.false_ne_true]

theorem rillConfigWrite_freq_completes (ho : s.rillOpen j n = true) (hr : s.released = true) :
    Completes (.rillConfigWrite 1 j n d) s fun t => t.fld F.PLM_RILL_FREQ_OFFSET_HZ j n = d.toNat % 2 ^ 27 := by
  refine completes_of_powered hr (exec_rillConfigWrite_freq j n d s) ?_
  rw [State.rillFreqWrite, rillParamWrite_of_open d ho]
  exact fld_setReg_masked s F.PLM_RILL_FREQ_OFFSET_HZ j n d _ rfl (by decide)

theorem rillConfigWrite_lim_completes {which : Nat} (hw : 2 ≤ which) (ho : s.rillOpen j n = true) (hr : s.released = true) :
    Completes (.rillConfigWrite which j n d) s fun t => t.fld F.PLM_RILL_LIM_MAX_PSDU j n = d.toNat % 2 ^ 11 := by
  refine completes_of_powered hr (exec_rillConfigWrite_lim hw j n d s) ?_
  rw [State.rillLimWrite, rillParamWrite_of_open d ho]
  exact fld_setReg_masked s F.PLM_RILL_LIM_MAX_PSDU j n d _ rfl (by decide)

theorem rillConfigWrite_ignored_completes {which : Nat} (hw : 1 ≤ which) (ho : s.rillOpen j n = false) (hr : s.released = true) :
    Completes (.rillConfigWrite which j n d) s fun t => t = s.raise F.PLM_EVT_CFG_IGNORED j := by
  obtain rfl | hw := hw.eq_or_lt
  · exact completes_of_powered hr (exec_rillConfigWrite_freq j n d s) (rillParamWrite_of_not_open d ho _ _)
  · exact completes_of_powered hr (exec_rillConfigWrite_lim hw j n d s) (rillParamWrite_of_not_open d ho _ _)

theorem phyModeWrite_completes {m : Nat} (hm : s.modeInUse m = false) (hr : s.released = true) :
    Completes (.phyModeWrite m d) s fun t => t.fld F.PLM_PHY_MODE_TYPE m = d.toNat % 2 ^ 3 := by
  refine completes_of_powered hr (exec_phyModeWrite m d s) ?_
  rw [State.phyModeWrite, hm, if_neg Bool.false_ne_true]
  exact fld_setReg_masked s F.PLM_PHY_MODE_TYPE m 0 d _ rfl (by decide)

end

/-- Settles O5, each clause by the lemma of its command. -/
theorem rillCommands : Obligations.RillCommands :=
  ⟨fun _ _ _ d ho hc hr => rillEnable_completes d ho hc hr,
    fun _ _ _ d ho hc hr => rillEnable_refused_completes d ho hc hr,
    fun _ _ _ d hen hr => rillDisable_completes d hen hr,
    fun _ _ _ d ho hr => rillConfigWrite_cfg_completes d ho hr,
    fun _ _ _ d ho hr => rillConfigWrite_freq_completes d ho hr,
    fun _ _ _ _ d hw ho hr => rillConfigWrite_lim_completes d hw ho hr,
    fun _ _ _ _ d hw ho hr => rillConfigWrite_ignored_completes d hw ho hr,
    fun _ _ d hm hr => phyModeWrite_completes d hm hr⟩

end Sys2Proof.Machine
end

section
/-! PROOFS. The events of a reception (R32–R43): what a reception's state reads after time has passed, then each event from detection to the
end of the frame. -/

namespace Sys2Proof.Machine

/-! ## What a reception reads, and time (R31–R34, R46) -/

theorem fld_of_reg {s t : State} {f : Fld} {i j : Nat} (h : s.reg f.reg i j = t.reg f.reg i j) : s.fld f i j = t.fld f i j := by
  rw [State.fld, State.fld, h]

theorem flag_of_reg {s t : State} {f : Fld} {i j : Nat} (h : s.reg f.reg i j = t.reg f.reg i j) : s.flag f i j = t.flag f i j := by
  rw [State.flag, State.flag, fld_of_reg h]

/-- A symbol time reads its PHY mode's register alone. -/
theorem symbolsNs_congr {s t : State} {m : Nat} (h : s.reg .PLM_PHY_MODE m 0 = t.reg .PLM_PHY_MODE m 0) (k : Nat) :
    s.symbolsNs m k = t.symbolsNs m k := by
  simp only [State.symbolsNs, fld_of_reg (f := F.PLM_PHY_MODE_TYPE) h, fld_of_reg (f := F.PLM_PHY_MODE_RATE) h,
    flag_of_reg (f := F.PLM_PHY_MODE_ORDER) h, h]

/-- A claim's mode reads the sniff list and MODE_IDX alone. -/
theorem claimMode_congr {s t : State} {j n : Nat} (h : s.reg .PLM_RILL_CFG j n = t.reg .PLM_RILL_CFG j n)
    (hidx : s.fld F.PLM_RILL_STAT_MODE_IDX j n = t.fld F.PLM_RILL_STAT_MODE_IDX j n) : s.claimMode j n = t.claimMode j n := by
  simp only [State.claimMode, State.sniffList, fld_of_reg (f := F.PLM_RILL_CFG_MODE0) h, fld_of_reg (f := F.PLM_RILL_CFG_MODE1) h,
    fld_of_reg (f := F.PLM_RILL_CFG_MODE2) h, fld_of_reg (f := F.PLM_RILL_CFG_SNIFF_CNT) h, hidx]

namespace State.SameRegs

variable {s t : State} (h : s.SameRegs t)
include h

theorem rillState (j n : Nat) : s.rillState j n = t.rillState j n := h.fld _ _ _

theorem claimMode (j n : Nat) : s.claimMode j n = t.claimMode j n := claimMode_congr (h _ _ _) (h.fld _ _ _)

theorem claimOfdm (j n : Nat) : s.claimOfdm j n = t.claimOfdm j n := by
  rw [State.claimOfdm, State.claimOfdm, h.claimMode, h.fld]

theorem symbolsNs (m k : Nat) : s.symbolsNs m k = t.symbolsNs m k := symbolsNs_congr (h _ _ _) k

theorem symbolsAfter (j n : Nat) (c : Claim) (k : Nat) : s.symbolsAfter j n c k = t.symbolsAfter j n c k := by
  rw [State.symbolsAfter, State.symbolsAfter, h.claimMode, h.symbolsNs]

theorem stampErr (j n : Nat) (pwr err : Int) : s.stampErr j n pwr err = t.stampErr j n pwr err := by
  simp only [State.stampErr, h.claimMode, h.symbolsNs]

theorem sfdEnd (j n : Nat) (c : Claim) : s.sfdEnd j n c = t.sfdEnd j n c := by
  rw [State.sfdEnd, State.sfdEnd, h.fld, h.symbolsAfter]

end State.SameRegs

theorem after_sameRegs (s : State) (dt : Nat) : (s.after dt).SameRegs s := after_reg s dt

@[simp] theorem after_plm (s : State) (dt : Nat) : (s.after dt).plm = s.plm := advance_plm s dt
@[simp] theorem after_slc (s : State) (dt : Nat) : (s.after dt).slc = s.slc := advance_slc s dt
@[simp] theorem after_run (s : State) (dt : Nat) : (s.after dt).run = s.run := advance_run s dt
@[simp] theorem after_now (s : State) (dt : Nat) : (s.after dt).clp.now = s.clp.now + dt := advance_now s dt

@[simp] theorem after_plmChain (s : State) (dt j : Nat) : (s.after dt).plmChain j = s.plmChain j := by
  rw [State.plmChain, after_plm, State.plmChain]

@[simp] theorem after_rill (s : State) (dt j n : Nat) : (s.after dt).rill j n = s.rill j n := by
  rw [State.rill, after_plm, State.rill]

@[simp] theorem after_rx (s : State) (dt id : Nat) : (s.after dt).rx id = s.rx id := by
  rw [State.rx, after_slc, State.rx]

@[simp] theorem after_rillFrame (s : State) (dt j n : Nat) : (s.after dt).rillFrame j n = s.rillFrame j n := by
  simp only [State.rillFrame, after_rill, after_rx]

@[simp] theorem after_rillState (s : State) (dt j n : Nat) : (s.after dt).rillState j n = s.rillState j n :=
  (after_sameRegs s dt).rillState j n

@[simp] theorem after_chainAsked (s : State) (dt j : Nat) : (s.after dt).chainAsked j = s.chainAsked j := by
  simp only [State.chainAsked, after_plmChain, after_fld]

/-! ## Detection (R32, R33, R38) -/

/-- The preamble is long enough for a detector to declare detection (R32): MR-OFDM's short training field is one detection. -/
def State.longEnough (s : State) (j n p k : Nat) : Prop :=
  s.fld F.PLM_PHY_MODE_TYPE ((s.sniffList j n).getD p 0) = 3 ∨ max 4 (s.fld F.PLM_PHY_MODE_PRE_SYMS ((s.sniffList j n).getD p 0)) ≤ k

theorem heardOn_of_short {s : State} {j n p k : Nat} (a b : Int) (h : ¬ s.longEnough j n p k) :
    s.heardOn j n (p, k, a, b) = (false, false) := by
  obtain ⟨htype, hk⟩ := not_or.mp h
  simp only [State.heardOn, beq_false_of_ne htype, decide_eq_false hk, Bool.or_self, Bool.false_and]

/-- Where both aerials are admitted, the louder one above the threshold is heard. -/
theorem heardOn_of_long {s : State} {j n p k : Nat} {a b : Int} (h : s.longEnough j n p k) (hm : (s.rill j n).aerMode = 0)
    (hsnr : 8 * ((s.fld F.PLM_RILL_CFG_DET_THR j n : Int) - 6) < max a b) :
    ((s.heardOn j n (p, k, a, b)).1 || (s.heardOn j n (p, k, a, b)).2) = true := by
  have hlong : (s.fld F.PLM_PHY_MODE_TYPE ((s.sniffList j n).getD p 0) == 3 ||
      decide (max 4 (s.fld F.PLM_PHY_MODE_PRE_SYMS ((s.sniffList j n).getD p 0)) ≤ k)) = true := by
    rw [Bool.or_eq_true, beq_iff_eq, decide_eq_true_eq]
    exact h
  simp only [State.heardOn, hlong, hm, State.overThreshold]
  simpa using lt_max_iff.mp hsnr

theorem exec_preambleDetect (dt j n : Nat) (ps : List (Nat × Nat)) (snrA snrB : List Int) (s : State) :
    exec (.preambleDetect dt j n ps snrA snrB) s = execPreambleDetect dt j n ps snrA snrB s := rfl

/-- Time alone does not change what counts as long enough. -/
theorem longEnough_after (s : State) (dt j n p k : Nat) : (s.after dt).longEnough j n p k ↔ s.longEnough j n p k := by
  simp only [State.longEnough, (after_sameRegs s dt).sniffList, after_fld]

theorem preambleDetect_short {s : State} {j n p k : Nat} (dt : Nat) (a b : Int) (h : ¬ s.longEnough j n p k) :
    Completes (.preambleDetect dt j n [(p, k)] [a] [b]) s fun t => t = s.after dt := by
  have hheard := heardOn_of_short a b (mt (longEnough_after s dt j n p k).mp h)
  rw [Completes, exec_preambleDetect, execPreambleDetect]
  simp [hheard]

/-- A detection claims the rill: STATE, MODE_IDX and the count (R33). -/
theorem claimed_fields (s : State) (j n : Nat) {p m : Nat} (aer : Nat) (hp : p < 4) (hm : s.fld F.PLM_CNT_DETECT_COUNT j = m) :
    let t := (((s.setFld F.PLM_RILL_STAT_STATE 2 j n).setFld F.PLM_RILL_STAT_MODE_IDX p j n).setFld F.PLM_RILL_STAT_AER aer j n).bump
      F.PLM_CNT_DETECT_COUNT 1 j
    t.rillState j n = 2 ∧ t.fld F.PLM_RILL_STAT_MODE_IDX j n = p ∧
      t.fld F.PLM_CNT_DETECT_COUNT j = min 0xFFFFFFFF (m + 1) := by
  refine ⟨?_, ?_, ?_⟩
  · rw [State.rillState, fld_bump_id _ _ _ _ _ _ (by decide), fld_setFld_disjoint _ _ _ _ _ _ (by decide) (by decide),
      fld_setFld_disjoint _ _ _ _ _ _ (by decide) (by decide), fld_setFld_self _ _ _ _ _ (by decide)]
    rfl
  · rw [fld_bump_id _ _ _ _ _ _ (by decide), fld_setFld_disjoint _ _ _ _ _ _ (by decide) (by decide),
      fld_setFld_self _ _ _ _ _ (by decide)]
    exact Nat.mod_eq_of_lt hp
  · rw [fld_bump_32 _ _ _ _ rfl rfl, fld_setFld_id _ _ _ _ _ _ (by decide), fld_setFld_id _ _ _ _ _ _ (by decide),
      fld_setFld_id _ _ _ _ _ _ (by decide), hm]

theorem preambleDetect_claims {s : State} {j n p k : Nat} (dt : Nat) {a b : Int} (hs : s.rillState j n = 1) (hask : s.chainAsked j = 2)
    (hm : (s.rill j n).aerMode = 0) (hp : p < s.fld F.PLM_RILL_CFG_SNIFF_CNT j n) (h : s.longEnough j n p k)
    (hsnr : 8 * ((s.fld F.PLM_RILL_CFG_DET_THR j n : Int) - 6) < max a b) :
    Completes (.preambleDetect dt j n [(p, k)] [a] [b]) s fun t => t.rillState j n = 2 ∧ t.fld F.PLM_RILL_STAT_MODE_IDX j n = p ∧
      t.fld F.PLM_CNT_DETECT_COUNT j = min 0xFFFFFFFF (s.fld F.PLM_CNT_DETECT_COUNT j + 1) := by
  have hheard : (((s.after dt).heardOn j n (p, k, a, b)).1 || ((s.after dt).heardOn j n (p, k, a, b)).2) = true :=
    heardOn_of_long ((longEnough_after s dt j n p k).mpr h) (by rwa [after_rill]) (by rwa [after_fld])
  have hp4 : p < 4 := hp.trans (fld_lt s F.PLM_RILL_CFG_SNIFF_CNT j n)
  rw [Completes, exec_preambleDetect, execPreambleDetect]
  simp only [List.zip_cons_cons, List.zip_nil_right, List.map_cons, List.map_nil, after_fld, decide_eq_true hp, hheard, Bool.and_self,
    List.filter_cons_of_pos, List.filter_nil, List.min?_singleton, after_rillState, after_chainAsked, hs, hask, and_self, if_true]
  exact ⟨_, rfl, claimed_fields _ j n _ hp4 (by rw [setRill_fld, after_fld])⟩

/-! ## The choice of the aerial (R36, R37) -/

/-- The aerial of a claim fixed: AER reads it and the claim says so. -/
theorem fixAerial_effect (s : State) (j n : Nat) (c : Claim) (toB : Bool) : (s.fixAerial j n c toB).flag F.PLM_RILL_STAT_AER j n = toB ∧
    ((s.fixAerial j n c toB).rill j n).claim = some { c with fixed := true } :=
  ⟨flag_setFld_cond _ _ _ _ _ (by decide) rfl, congrArg Rill.claim (rill_setRill s j n _)⟩

@[simp] theorem fixAerial_clp (s : State) (j n : Nat) (c : Claim) (toB : Bool) : (s.fixAerial j n c toB).clp = s.clp := rfl

theorem fixAerial_fld (s : State) (j n : Nat) (c : Claim) (toB : Bool) {g : Fld} (i k : Nat)
    (h : g.reg ≠ .PLM_RILL_STAT ∨ g.lo + g.w ≤ 4) : (s.fixAerial j n c toB).fld g i k = s.fld g i k := by
  rw [State.fixAerial]
  obtain h | h := h
  · rw [fld_setFld_id _ _ _ _ _ _ (by exact h), setRill_fld]
  · rw [fld_setFld_disjoint _ _ _ _ _ _ (by decide) (.inl (by exact h)), setRill_fld]

theorem exec_aerialChoice (j n k : Nat) (mA mB : Int) (s : State) :
    exec (.aerialChoice j n k mA mB) s = execAerialChoice j n k mA mB s := rfl

theorem exec_aerialChoiceForced (dt j n : Nat) (mA mB : Int) (s : State) :
    exec (.aerialChoiceForced dt j n mA mB) s = execAerialChoiceForced dt j n mA mB s := rfl

section
variable {s : State} {j n : Nat} {c : Claim} {mA mB : Int} (hc : (s.rill j n).claim = some c) (hs : s.rillState j n = 2)
include hc hs

theorem aerialChoice_completes {k : Nat} (hf : c.fixed = false) (h4 : 4 ≤ k) (h16 : k < 16) (hnow : s.clp.now ≤ s.symbolsAfter j n c k)
    (hA : c.heardA = true) (hhyst : mB + (s.fld F.PLM_RILL_CFG_AER_HYST j n : Int) ≤ mA) (hlt : mB < mA) :
    Completes (.aerialChoice j n k mA mB) s fun t => t.clp.now = s.symbolsAfter j n c k ∧
      t.flag F.PLM_RILL_STAT_AER j n = false ∧ (t.rill j n).claim = some { c with fixed := true } := by
  have htake : (c.heardA && (!c.heardB || (decide (mB + (s.fld F.PLM_RILL_CFG_AER_HYST j n : Int) ≤ mA) && decide (mB < mA)))) = true := by
    rw [hA, decide_eq_true hhyst, decide_eq_true hlt, Bool.and_true, Bool.or_true, Bool.and_true]
  rw [Completes, exec_aerialChoice, execAerialChoice, hc]
  simp only [hs, hf, h4, h16, hnow, and_self, if_true, advanceTo_fld, htake]
  refine ⟨_, rfl, ?_, fixAerial_effect _ j n c false⟩
  rw [fixAerial_clp, advanceTo_now, max_eq_right hnow]

theorem aerialChoiceForced_completes (dt : Nat) (hf : c.fixed = false) : Completes (.aerialChoiceForced dt j n mA mB) s fun t =>
    t.clp.now = max (s.clp.now + dt) (s.symbolsAfter j n c 16) ∧
      t.flag F.PLM_RILL_STAT_AER j n = (c.heardB && (!c.heardA || decide (mA < mB))) ∧
        (t.rill j n).claim = some { c with fixed := true } := by
  rw [Completes, exec_aerialChoiceForced, execAerialChoiceForced, after_rill, hc]
  simp only [after_rillState, hs, hf, and_self, if_true]
  refine ⟨_, rfl, ?_, fixAerial_effect _ j n c (c.takesB mA mB)⟩
  rw [fixAerial_clp, advanceTo_now, after_now, (after_sameRegs s dt).symbolsAfter]

end

/-! ## The search for the SFD (R34, R35, R45–R50) -/

theorem rillRestart_claim (s : State) (j n : Nat) : ((s.rillRestart j n).rill j n).claim = none :=
  congrArg Rill.claim (rill_setRill s j n _)

theorem exec_sfdTimeout (dt j n : Nat) (s : State) : exec (.sfdTimeout dt j n) s = execSfdTimeout dt j n s := rfl

theorem exec_sfdFound (dt j n : Nat) (mA mB err pwr snr8 foHz : Int) (s : State) :
    exec (.sfdFound dt j n mA mB err pwr snr8 foHz) s = execSfdFound dt j n mA mB err pwr snr8 foHz s := rfl

theorem fixAerial_reg (s : State) (j n : Nat) (c : Claim) (toB : Bool) {id : RegId} (i k : Nat) (h : id ≠ .PLM_RILL_STAT) :
    (s.fixAerial j n c toB).reg id i k = s.reg id i k :=
  (reg_setReg_id _ _ _ _ _ _ h).trans (setRill_reg _ _ _ _ _ _ _)

/-- The timestamp's allowed error follows the claim's mode alone. -/
theorem fixAerial_stampErr (s : State) (j n : Nat) (c : Claim) (toB : Bool) (pwr err : Int) :
    (s.fixAerial j n c toB).stampErr j n pwr err = s.stampErr j n pwr err := by
  have hmode : (s.fixAerial j n c toB).claimMode j n = s.claimMode j n :=
    claimMode_congr (fixAerial_reg s j n c toB j n (by decide)) (fixAerial_fld s j n c toB j n (.inr (by decide)))
  have hsym (m k : Nat) : (s.fixAerial j n c toB).symbolsNs m k = s.symbolsNs m k :=
    symbolsNs_congr (fixAerial_reg s j n c toB m 0 (by decide)) k
  simp only [State.stampErr, hmode, hsym]

/-- A claim whose aerial is fixed where it was still open, by the forced choice (R36). -/
def State.aerialFixed (s : State) (j n : Nat) (c : Claim) (mA mB : Int) : State :=
  if c.fixed then s else s.fixAerial j n c (c.takesB mA mB)

/-- The timestamp reads alike before and after the forced choice. -/
theorem aerialFixed_stamp (s : State) (j n : Nat) (c : Claim) (mA mB pwr err : Int) :
    ((s.aerialFixed j n c mA mB).fullNs : Int) + (s.aerialFixed j n c mA mB).stampErr j n pwr err +
      (s.aerialFixed j n c mA mB).sfld F.PLM_CAL_TS_ADJ j = s.fullNs + s.stampErr j n pwr err + s.sfld F.PLM_CAL_TS_ADJ j := by
  unfold State.aerialFixed
  split
  · rfl
  · rw [fixAerial_stampErr, State.fullNs, fixAerial_clp, State.sfld, fixAerial_fld _ _ _ _ _ _ _ (.inl (by decide)), State.sfld, State.fullNs]

/-- A released claim counts as a false detection. -/
theorem sfdTimeout_release (u : State) (j n : Nat) :
    (((u.rillRestart j n).bump F.PLM_CNT_FALSE_DET_COUNT 1 j).rill j n).claim = none ∧
      ((u.rillRestart j n).bump F.PLM_CNT_FALSE_DET_COUNT 1 j).fld F.PLM_CNT_FALSE_DET_COUNT j =
        min 0xFFFFFFFF (u.fld F.PLM_CNT_FALSE_DET_COUNT j + 1) := by
  refine ⟨rillRestart_claim u j n, ?_⟩
  rw [fld_bump_32 _ _ _ _ rfl rfl, rillRestart_fld _ _ _ _ _ (by decide)]

section
variable {s : State} {j n : Nat} {c : Claim} (hc : (s.rill j n).claim = some c) (hs : s.rillState j n = 2) (hsfd : c.sfd = none)
include hc hs hsfd

theorem sfdTimeout_completes (dt : Nat) : Completes (.sfdTimeout dt j n) s fun t => (t.rill j n).claim = none ∧
    (s.claimOfdm j n = false → t.clp.now = max s.clp.now (s.sfdEnd j n c)) ∧
      t.fld F.PLM_CNT_FALSE_DET_COUNT j = min 0xFFFFFFFF (s.fld F.PLM_CNT_FALSE_DET_COUNT j + 1) := by
  rw [Completes, exec_sfdTimeout, execSfdTimeout, hc]
  simp only [hs, hsfd, and_self, if_true]
  obtain ⟨hclaim, hcount⟩ := sfdTimeout_release (if s.claimOfdm j n then s.after dt else s.advanceTo (s.sfdEnd j n c)) j n
  refine ⟨_, rfl, hclaim, fun hofdm => ?_, hcount.trans ?_⟩
  · rw [bump_clp, rillRestart_clp, hofdm, if_neg Bool.false_ne_true, advanceTo_now]
  · split
    · rw [after_fld]
    · rw [advanceTo_fld]

/-- The rill locks: what the SFD's timestamp and the measurements give (R45–R47, R50). -/
theorem sfdFound_completes (dt : Nat) (mA mB err pwr snr8 foHz : Int) (hend : s.clp.now + dt ≤ s.sfdEnd j n c) :
    Completes (.sfdFound dt j n mA mB err pwr snr8 foHz) s fun t =>
      ∃ d i, (t.rill j n).claim = some d ∧ d.fixed = true ∧ d.sfd = some i ∧ i.lqi = (max 0 (min 255 (snr8 + 40))).toNat ∧
        i.ts = toPattern 32 (((s.advance dt).fullNs : Int) + s.stampErr j n pwr err + s.sfld F.PLM_CAL_TS_ADJ j) := by
  have hsame := after_sameRegs s dt
  rw [Completes, exec_sfdFound, execSfdFound, after_rill, hc]
  have hgo : (s.after dt).rillState j n = 2 ∧ c.sfd = none ∧
      ((s.after dt).claimOfdm j n = true ∨ (s.after dt).clp.now ≤ (s.after dt).sfdEnd j n c) :=
    ⟨by rwa [after_rillState], hsfd, .inr (by rwa [after_now, hsame.sfdEnd])⟩
  simp only [if_pos hgo]
  refine ⟨_, rfl, _, _, congrArg Rill.claim (rill_setRill _ j n _), rfl, rfl, rfl, ?_⟩
  have hstamp := aerialFixed_stamp (s.after dt) j n c mA mB pwr err
  rw [hsame.stampErr, hsame.sfld] at hstamp
  exact congrArg (toPattern 32) hstamp

end

/-! ## The PHR (R29, R39, R40) -/

/-- `t` is `s` but for cells taken: the link table and the model's count of free values drawn. -/
def State.SameButCells (s t : State) : Prop := ∃ draw run, t = { s with draw := draw, run := run }

namespace State.SameButCells

theorem refl (s : State) : s.SameButCells s := ⟨_, _, rfl⟩

theorem trans {s t u : State} (h : s.SameButCells t) (h' : t.SameButCells u) : s.SameButCells u := by
  obtain ⟨_, _, rfl⟩ := h
  obtain ⟨_, _, rfl⟩ := h'
  exact ⟨_, _, rfl⟩

theorem setLink {s t : State} (h : s.SameButCells t) (c : Nat) (l : Link) : s.SameButCells (t.setLink c l) :=
  h.trans ⟨_, _, rfl⟩

variable {s t : State} (h : s.SameButCells t)
include h

theorem slc : t.slc = s.slc := by obtain ⟨_, _, rfl⟩ := h; rfl

end State.SameButCells

theorem takeCell_sameButCells (s : State) : s.SameButCells s.takeCell.2 := ⟨_, _, rfl⟩

/-- Taking cells gives as many as asked for, and touches cells alone. -/
theorem takeCells_effect (n : Nat) (s : State) : (s.takeCells n).1.length = n ∧ s.SameButCells (s.takeCells n).2 := by
  induction n generalizing s with
  | zero => exact ⟨rfl, .refl s⟩
  | succ n ih =>
    obtain ⟨hlen, hsame⟩ := ih s.takeCell.2
    have hs := (takeCell_sameButCells s).trans hsame
    simp only [State.takeCells]
    split
    · next hnil =>
      rw [hnil] at hlen
      exact ⟨by rw [← hlen]; rfl, hs⟩
    · exact ⟨by rw [List.length_cons, hlen], hs.setLink _ _⟩

/-- An allocation that the free cells cover. -/
theorem alloc_of_free {s : State} {len : Nat} (h : cellsFor len ≤ s.freeCells) :
    ∃ cells u, s.alloc len = (some cells, u) ∧ cells.length = cellsFor len ∧ s.SameButCells u := by
  obtain ⟨hlen, hsame⟩ := takeCells_effect (cellsFor len) s
  exact ⟨_, _, by rw [State.alloc, State.allocAbove, Nat.add_zero, if_pos h], hlen, hsame⟩

theorem exec_phrReceived (dt j n len mcs : Nat) (modeSwitch checkOk fcs32 : Bool) (s : State) :
    exec (.phrReceived dt j n len mcs modeSwitch checkOk fcs32) s = execPhrReceived dt j n len mcs modeSwitch checkOk fcs32 s := rfl

/-- An accepted frame counts for its aerial, and no other register changes. -/
theorem phr_count_fld (s : State) (b : Prop) [Decidable b] {g : Fld} (j i k : Nat) (hA : g.reg ≠ .PLM_CNT_AER_A)
    (hB : g.reg ≠ .PLM_CNT_AER_B) :
    (s.bump (if b then F.PLM_CNT_AER_B_COUNT else F.PLM_CNT_AER_A_COUNT) 1 j).fld g i k = s.fld g i k := by
  split
  · exact fld_bump_id _ _ _ _ _ _ hB
  · exact fld_bump_id _ _ _ _ _ _ hA

theorem phrReceived_completes {s : State} {j n len mcs : Nat} (dt : Nat) (fcs32 : Bool) {c : Claim} {i : SfdInfo}
    (hc : (s.rill j n).claim = some c) (hsfd : c.sfd = some i) (hs : s.rillState j n = 2) (h0 : len ≠ 0)
    (hmax : len ≤ s.fld F.PLM_RILL_LIM_MAX_PSDU j n)
    (hmcs : s.claimOfdm j n = true → ofdmMcsOk (s.fld F.PLM_PHY_MODE_RATE (s.claimMode j n)) mcs = true)
    (hfree : cellsFor len ≤ s.freeCells) : Completes (.phrReceived dt j n len mcs false true fcs32) s fun t => t.rillState j n = 3 ∧
      ∃ f, t.rx s.slc.nextRx = some f ∧ f.len = len ∧ f.cells.length = cellsFor len ∧ f.sfd = i := by
  have hsame := after_sameRegs s dt
  have hok : ((s.claimOfdm j n && !ofdmMcsOk (s.fld F.PLM_PHY_MODE_RATE (s.claimMode j n)) mcs) || len == 0 ||
      decide (s.fld F.PLM_RILL_LIM_MAX_PSDU j n < len)) = false := by
    rw [beq_false_of_ne h0, decide_eq_false hmax.not_gt, Bool.or_false, Bool.or_false, Bool.and_eq_false_imp]
    intro hofdm
    rw [hmcs hofdm, Bool.not_true]
  obtain ⟨cells, u, halloc, hlen, hu⟩ := alloc_of_free (s := s.after dt) (len := len) (by rwa [State.freeCells, State.usedCells, after_run])
  rw [Completes, exec_phrReceived, execPhrReceived, after_rill, hc]
  simp only [hsfd, after_rillState, hs, if_true, hsame.claimOfdm, hsame.claimMode, after_fld, Bool.not_true, Bool.false_or, hok,
    Bool.false_eq_true, if_false, halloc]
  refine ⟨_, rfl, ?_, ?_⟩
  · rw [State.rillState, phr_count_fld _ _ _ _ _ (by decide) (by decide), fld_setFld_self _ _ _ _ _ (by decide)]
    rfl
  · have hid : s.slc.nextRx = u.slc.nextRx := by rw [hu.slc, after_slc]
    rw [State.rx, bump_slc, setFld_slc, setRill_slc, hid]
    exact ⟨_, rx_setRx _ _ _, rfl, hlen, rfl⟩

/-! ## Bytes and the end of a frame (R42, R43, R63) -/

theorem rx_congr {s t : State} (h : s.slc = t.slc) (id : Nat) : s.rx id = t.rx id := by
  rw [State.rx, State.rx, h]

@[simp] theorem flipApply_slc (s : State) (m w : Nat) : (s.flipApply m w).slc = s.slc := by
  unfold State.flipApply
  split
  · rw [bump_slc, raise_slc, setFld_slc]
    exact on_keeps (P := fun t => t.slc = s.slc) _ rfl (eccSet_slc s m w _)
  · rfl

@[simp] theorem setMemBytes_slc (bs : List Byte) (s : State) (m o : Nat) : (s.setMemBytes m o bs).slc = s.slc := by
  induction bs generalizing s o with
  | nil => rfl
  | cons b bs ih => exact ih _ _

@[simp] theorem memWrite_slc (s : State) (m w v : Nat) : (s.memWrite m w v).slc = s.slc := by
  rw [State.memWrite, flipApply_slc, eccClear_slc, State.setMemWord, setMemBytes_slc]

/-- A byte received joins its frame's bytes. -/
theorem putByte_rx (s : State) (id : Nat) (f : RxFrame) (b : Byte) : (s.putByte id f b).rx id = some { f with bytes := f.bytes ++ [b] } :=
  (rx_congr (memWrite_slc _ _ _ _) id).trans (rx_setRx s id _)

theorem exec_psduByte (dt j n : Nat) (b : Byte) (s : State) : exec (.psduByte dt j n b) s = execPsduByte dt j n b s := rfl

theorem exec_frameEnd (dt j n : Nat) (s : State) : exec (.frameEnd dt j n) s = execFrameEnd dt j n s := rfl

theorem psduByte_completes {s : State} {j n id : Nat} (dt : Nat) (b : Byte) {f : RxFrame} (hf : s.rillFrame j n = some (id, f))
    (hs : s.rillState j n = 3) (hlen : f.bytes.length < f.len) :
    Completes (.psduByte dt j n b) s fun t => t.rx id = some { f with bytes := f.bytes ++ [b] } := by
  rw [Completes, exec_psduByte, execPsduByte, after_rillFrame, hf]
  simp only [after_rillState, hs, hlen, and_self, if_true]
  exact ⟨_, rfl, putByte_rx _ id f b⟩

/-- A frame whose last byte is `b`, closed with its FCS result. -/
def RxFrame.endedBy (f : RxFrame) (b : Byte) : RxFrame :=
  let g := { f with bytes := f.bytes ++ [b] }
  { g with closed := some (if g.fcsOk then .ok else .fcsFail) }

/-- The last byte of a frame that a blanking interval closed in this cycle ends it with its FCS result (R63). -/
theorem lastByte_rx {s : State} {j n id : Nat} {moved : Bool} (b : Byte) {f : RxFrame} (hcut : (s.rill j n).cut = some (s.clp.now, id, moved))
    (hf : s.rx id = some f) (hclosed : f.closed = some .blanked) (hlen : f.bytes.length + 1 = f.len) :
    (s.lastByte j n b).rx id = some (f.endedBy b) := by
  simp only [State.lastByte, hcut, hf, hclosed, hlen, and_self, if_true]
  have hended : ((s.putByte id f b).setRx id (f.endedBy b)).rx id = some (f.endedBy b) := rx_setRx _ id _
  have huncounted := on_keeps (P := fun t => t.rx id = some (f.endedBy b)) moved
    (f := fun s => s.uncount F.PLM_CNT_BLANKED_COUNT 1 j) hended hended
  exact on_keeps (P := fun t => t.rx id = some (f.endedBy b)) _ huncounted huncounted

theorem psduByte_last_completes {s : State} {j n id : Nat} {moved : Bool} (b : Byte) {f : RxFrame} (hnone : s.rillFrame j n = none)
    (hcut : (s.rill j n).cut = some (s.clp.now, id, moved)) (hf : s.rx id = some f) (hclosed : f.closed = some .blanked)
    (hlen : f.bytes.length + 1 = f.len) : Completes (.psduByte 0 j n b) s fun t =>
      ∃ g, t.rx id = some g ∧ g.bytes = f.bytes ++ [b] ∧ g.closed = some (if g.fcsOk then .ok else .fcsFail) := by
  rw [Completes, exec_psduByte, execPsduByte, after_rillFrame, hnone]
  have hlast : ((s.after 0).lastByte j n b).rx id = some (f.endedBy b) :=
    lastByte_rx (moved := moved) b (by rw [after_rill, after_now, Nat.add_zero, hcut]) (by rw [after_rx, hf]) hclosed hlen
  exact ⟨_, rfl, f.endedBy b, hlast, rfl, rfl⟩

/-- A rill that receives a frame: its claim names the frame in Sluice's list. -/
theorem rillFrame_eq_some {s : State} {j n id : Nat} {f : RxFrame} (h : s.rillFrame j n = some (id, f)) :
    ∃ c, (s.rill j n).claim = some c ∧ c.frame = some id ∧ s.rx id = some f := by
  unfold State.rillFrame at h
  split at h
  · next c hc =>
    split at h
    · next id' hid =>
      obtain ⟨g, hg, heq⟩ := Option.map_eq_some_iff.mp h
      obtain ⟨rfl, rfl⟩ := Prod.mk.inj heq
      exact ⟨c, hc, hid, hg⟩
    · exact absurd h (by simp)
  · exact absurd h (by simp)

/-- A closed frame stands in Sluice's list with how it closed, and the rill has no claim left (R42). -/
theorem closeRx_effect {s : State} {j n id : Nat} {f : RxFrame} (h : s.rillFrame j n = some (id, f)) (how : RxClose) :
    ((s.closeRx j n how).rill j n).claim = none ∧
      ∃ g, (s.closeRx j n how).rx id = some g ∧ g.bytes = f.bytes ∧ g.closed = some how := by
  obtain ⟨c, hc, hid, hf⟩ := rillFrame_eq_some h
  simp only [State.closeRx, hc, hid, hf]
  exact ⟨rillRestart_claim _ j n, _, rx_setRx _ id _, rfl, rfl⟩

/-- A frame whose last FCS byte has ended closes with its FCS result (R43). -/
theorem endRx_effect {s : State} {j n id : Nat} {f : RxFrame} (h : s.rillFrame j n = some (id, f)) :
    ((s.endRx j n f).rill j n).claim = none ∧
      ∃ g, (s.endRx j n f).rx id = some g ∧ g.bytes = f.bytes ∧ g.closed = some (if f.fcsOk then .ok else .fcsFail) := by
  unfold State.endRx
  split
  · exact closeRx_effect h .ok
  · exact closeRx_effect h .fcsFail

theorem frameEnd_completes {s : State} {j n id : Nat} (dt : Nat) {f : RxFrame} (hf : s.rillFrame j n = some (id, f))
    (hs : s.rillState j n = 3) (hlen : f.bytes.length = f.len) : Completes (.frameEnd dt j n) s fun t => (t.rill j n).claim = none ∧
      ∃ g, t.rx id = some g ∧ g.bytes = f.bytes ∧ g.closed = some (if f.fcsOk then .ok else .fcsFail) := by
  rw [Completes, exec_frameEnd, execFrameEnd, after_rillFrame, hf]
  simp only [after_rillState, hs, hlen, and_self, if_true]
  exact ⟨_, rfl, endRx_effect ((after_rillFrame s dt j n).trans hf)⟩

/-- Settles O6, each clause by the lemma of its event. -/
theorem receptionCommands : Obligations.ReceptionCommands :=
  ⟨fun _ dt _ _ _ _ _ _ hs hask hm hp h hsnr => preambleDetect_claims dt hs hask hm hp h hsnr,
    fun _ dt _ _ _ _ a b htype hk => preambleDetect_short dt a b (not_or.mpr ⟨htype, hk.not_ge⟩),
    fun _ _ _ _ _ _ _ hc hs hf h4 h16 hnow hA hhyst hlt => aerialChoice_completes hc hs hf h4 h16 hnow hA hhyst hlt,
    fun _ dt _ _ _ _ _ hc hs hf => aerialChoiceForced_completes hc hs dt hf,
    fun _ dt _ _ _ hc hs hsfd => sfdTimeout_completes hc hs hsfd dt,
    fun _ dt _ _ mA mB err pwr snr8 foHz _ hc hs hsfd hend => sfdFound_completes hc hs hsfd dt mA mB err pwr snr8 foHz hend,
    fun _ dt _ _ _ _ fcs32 _ _ hc hsfd hs h0 hmax hmcs hfree => phrReceived_completes dt fcs32 hc hsfd hs h0 hmax hmcs hfree,
    fun _ dt _ _ b _ _ hf hs hlen => psduByte_completes dt b hf hs hlen,
    fun _ _ _ b _ _ _ hnone hcut hf hclosed hlen => psduByte_last_completes b hnone hcut hf hclosed hlen,
    fun _ dt _ _ _ _ hf hs hlen => frameEnd_completes dt hf hs hlen⟩

end Sys2Proof.Machine
end

section
/-! PROOFS. What the transmit side keeps while other blocks work (R121–R124, R332–R346, R440–R448, R505–R513): an operation of another block leaves
every launch unit, the time and every register of the transmit block as they were. -/

namespace Sys2Proof.Machine

/-- `t` is `s` as the transmit side sees it: the same chains, the same time, and the same registers of its block. -/
structure State.TxAlike (s t : State) : Prop where
  chains : t.txf.chains = s.txf.chains
  clp : t.clp = s.clp
  reg : ∀ id ∈ blockRegs 3, ∀ i j, t.reg id i j = s.reg id i j

namespace State.TxAlike

variable {s t u : State}

theorem refl (s : State) : s.TxAlike s := ⟨rfl, rfl, fun _ _ _ _ => rfl⟩

theorem trans (h : s.TxAlike t) (h' : t.TxAlike u) : s.TxAlike u :=
  ⟨h'.chains.trans h.chains, h'.clp.trans h.clp, fun id hid i j => (h'.reg id hid i j).trans (h.reg id hid i j)⟩

theorem tx (h : s.TxAlike t) (j : Nat) : t.tx j = s.tx j := by
  rw [State.tx, h.chains, State.tx]

theorem fld (h : s.TxAlike t) {f : Fld} (hf : f.reg ∈ blockRegs 3) (i j : Nat) : t.fld f i j = s.fld f i j := fld_of_reg (h.reg _ hf i j)

/-- A change of what lies outside the chains, the time and the registers. -/
theorem rest (h : s.TxAlike t) (hc : u.txf.chains = t.txf.chains) (hclp : u.clp = t.clp) (hr : u.regs = t.regs) : s.TxAlike u :=
  h.trans ⟨hc, hclp, fun id _ i j => reg_congr hr id i j⟩

theorem setFld {f : Fld} {v i j : Nat} (hf : f.reg ∉ blockRegs 3) (h : s.TxAlike t) : s.TxAlike (t.setFld f v i j) :=
  h.trans ⟨rfl, rfl, fun _ hid _ _ => reg_setReg_id _ _ _ _ _ _ fun e => hf (e ▸ hid)⟩

theorem raise {f : Fld} {i : Nat} (hf : f.reg ∉ blockRegs 3) (h : s.TxAlike t) : s.TxAlike (t.raise f i) :=
  h.trans ⟨by rw [raise_txf], raise_clp t f i, fun _ hid _ _ => reg_raise_id _ _ _ _ fun e => hf (e ▸ hid)⟩

theorem bump {f : Fld} {n i j : Nat} (hf : f.reg ∉ blockRegs 3) (h : s.TxAlike t) : s.TxAlike (t.bump f n i j) :=
  h.trans ⟨rfl, rfl, fun id hid i' j' => (reg_congr (bump_regs t f n i j) id i' j').trans
    (reg_setReg_id _ _ _ _ _ _ fun e => hf (e ▸ hid))⟩

/-- A conditional effect. -/
theorem on {c : Bool} {f : State → State} (hf : ∀ t : State, t.TxAlike (f t)) (h : s.TxAlike t) : s.TxAlike (t.on c f) :=
  on_keeps c h (h.trans (hf t))

/-- What every turn of a fold leaves alike. -/
theorem foldl {α : Type} {f : State → α → State} {l : List α} (hf : ∀ (s : State) (a : α), s.TxAlike (f s a)) (h : s.TxAlike t) :
    s.TxAlike (l.foldl f t) :=
  List.foldlRecOn l f h fun _ h a _ => h.trans (hf _ a)

end State.TxAlike

/-! ## Memory words and the Silt recorder (R439–R448, R505–R513) -/

theorem setMemByte_txAlike (s : State) (m o : Nat) (b : Byte) : s.TxAlike (s.setMemByte m o b) := .rest (.refl s) rfl rfl rfl

theorem setMemBytes_txAlike (m : Nat) (bs : List Byte) (s : State) (o : Nat) : s.TxAlike (s.setMemBytes m o bs) := by
  induction bs generalizing s o with
  | nil => exact .refl s
  | cons b bs ih => exact (setMemByte_txAlike s m o b).trans (ih _ _)

theorem setMemWord_txAlike (s : State) (m w v : Nat) : s.TxAlike (s.setMemWord m w v) := setMemBytes_txAlike m _ s _

theorem eccClear_txAlike (s : State) (m w : Nat) : s.TxAlike (s.eccClear m w) := .rest (.refl s) rfl rfl rfl

theorem eccSet_txAlike (s : State) (m w : Nat) (k : EccMark) : s.TxAlike (s.eccSet m w k) := .rest (.refl s) rfl rfl rfl

theorem fresh_txAlike (s : State) : s.TxAlike s.fresh.2 := .rest (.refl s) rfl rfl rfl

theorem flipApply_txAlike (s : State) (m w : Nat) : s.TxAlike (s.flipApply m w) := by
  unfold State.flipApply
  split
  · exact .bump (by decide) <| .raise (by decide) <| .setFld (by decide) <| .on (fun t => eccSet_txAlike t m w _) <| .refl s
  · exact .refl s

theorem memWrite_txAlike (s : State) (m w v : Nat) : s.TxAlike (s.memWrite m w v) :=
  ((setMemWord_txAlike s m w v).trans (eccClear_txAlike _ m w)).trans (flipApply_txAlike _ m w)

theorem memWrites_txAlike (m : Nat) (vs : List Nat) (s : State) (w : Nat) : s.TxAlike (s.memWrites m w vs) := by
  induction vs generalizing s w with
  | nil => exact .refl s
  | cons v vs ih => exact (memWrite_txAlike s m w v).trans (ih _ _)

theorem withObs_txAlike (s : State) (o : ObsState) : s.TxAlike { s with obs := o } := .rest (.refl s) rfl rfl rfl

theorem siltWrite_txAlike (s : State) (base seq : Nat) (rs : List (Nat × Nat × Nat)) : s.TxAlike (s.siltWrite base seq rs) :=
  .foldl (fun t _ => memWrites_txAlike 7 _ t _) (.refl s)

theorem siltCount_txAlike (s : State) (n : Nat) : s.TxAlike (s.siltCount n) := .setFld (by decide) (withObs_txAlike s _)

theorem flushAsk_txAlike (s : State) : s.TxAlike s.flushAsk := by
  unfold State.flushAsk
  split
  · exact withObs_txAlike s _
  · exact .setFld (by decide) (withObs_txAlike s _)

theorem siltPost_txAlike (s : State) (code value rank : Nat) : s.TxAlike (s.siltPost code value rank) := by
  have kept (n seq k : Nat) (t : State) : t.TxAlike (((t.siltCount n).setFld F.OBS_SILT_SEQ_SEQ seq).bump F.OBS_CNT_SILT_KEPT_COUNT k) :=
    .bump (by decide) <| .setFld (by decide) <| siltCount_txAlike t n
  have lost (t : State) : t.TxAlike
      (({ t with obs := { t.obs with lost := t.obs.lost + 1 } }.bump F.OBS_CNT_SILT_LOST_COUNT).raise F.OBS_EVT_SILT_OVERFLOW) :=
    .raise (by decide) <| .bump (by decide) <| withObs_txAlike t _
  have supp (t : State) : t.TxAlike (t.bump F.OBS_CNT_SILT_SUPP_COUNT) := .bump (by decide) (.refl t)
  have posted (obs : ObsState) (base seq : Nat) (rs : List (Nat × Nat × Nat)) : s.TxAlike ({ s with obs := obs }.siltWrite base seq rs) :=
    (withObs_txAlike s obs).trans (siltWrite_txAlike _ base seq rs)
  simp only [State.siltPost]
  split
  · exact .on flushAsk_txAlike <| .on supp <| .on lost <| .on (kept _ _ _) <| posted _ _ _ _
  · exact .on supp <| .on lost <| .on (kept _ _ _) <| posted _ _ _ _

theorem correct_txAlike (s : State) (m w : Nat) : s.TxAlike (s.correct m w) :=
  .setFld (by decide) <| .setFld (by decide) <| .raise (by decide) <| .bump (by decide) <| eccClear_txAlike s m w

theorem poisonMark_txAlike (s : State) (m w mask : Nat) : s.TxAlike (s.poisonMark m w mask) := by
  refine State.TxAlike.trans ?_ (siltPost_txAlike _ _ _ _)
  exact .setFld (by decide) <| .setFld (by decide) <| .raise (by decide) <| .bump (by decide) <|
    (setMemWord_txAlike s m w _).trans (eccSet_txAlike _ m w _)

theorem memRead_txAlike (s : State) (m w : Nat) : s.TxAlike (s.memRead m w).2 := by
  unfold State.memRead
  split
  · exact .refl s
  · split
    · exact .refl s
    · split
      · exact ((fresh_txAlike s).trans (setMemWord_txAlike _ m w _)).trans (eccClear_txAlike _ m w)
      · split
        · exact correct_txAlike s m w
        · exact ((fresh_txAlike s).trans (setMemWord_txAlike _ m w _)).trans (correct_txAlike _ m w)
      · exact poisonMark_txAlike s m w _

/-! ## Frames, cells and runnels (R332–R346) -/

theorem readWords_txAlike (cs : List Nat) (n : Nat) (s : State) (o : Nat) : s.TxAlike (s.readWords cs o n).2.2 := by
  induction n generalizing s o with
  | zero => exact .refl s
  | succ n ih =>
    unfold State.readWords
    split
    · exact .refl s
    · exact (memRead_txAlike s 0 _).trans (ih _ _)

theorem readFrame_txAlike (s : State) (cells : List Nat) (d : TxDesc) : s.TxAlike (s.readFrame cells d).2.2.2 :=
  (readWords_txAlike _ _ s 0).trans (readWords_txAlike _ _ _ 0)

theorem doubleFree_txAlike (s : State) (c : Nat) : s.TxAlike (s.doubleFree c) := by
  refine State.TxAlike.trans ?_ (siltPost_txAlike _ _ _ _)
  exact .raise (by decide) <| .bump (by decide) <| .refl s

theorem setLink_txAlike (s : State) (c : Nat) (l : Link) : s.TxAlike (s.setLink c l) := .rest (.refl s) rfl rfl rfl

theorem freeWalk_txAlike (n : Nat) (s : State) (c : Nat) : s.TxAlike (s.freeWalk n c) := by
  induction n generalizing s c with
  | zero => exact .refl s
  | succ n ih =>
    have hfreed := (fresh_txAlike s).trans (setLink_txAlike s.fresh.2 c ⟨s.fresh.1 % 65536, false, true⟩)
    simp only [State.freeWalk]
    split
    · exact doubleFree_txAlike s c
    · split
      · exact hfreed
      · exact hfreed.trans (ih _ _)

theorem freeChain_txAlike (s : State) (c : Nat) : s.TxAlike (s.freeChain c) := freeWalk_txAlike _ s c

theorem freeDesc_txAlike (s : State) (d : TxDesc) : s.TxAlike (s.freeDesc d) := .on (fun t => freeChain_txAlike t _) (.refl s)

theorem noteEvent_txAlike (s : State) (f : Fld) (i : Nat) : s.TxAlike (s.noteEvent f i) :=
  .rest (.refl s) (by rw [noteEvent_txf]) (noteEvent_clp s f i) (noteEvent_regs s f i)

theorem withCyc_txAlike (s : State) (c : CycleLog) : s.TxAlike { s with cyc := c } := .rest (.refl s) rfl rfl rfl

theorem withHst_txAlike (s : State) (h : HostState) : s.TxAlike { s with hst := h } := .rest (.refl s) rfl rfl rfl

theorem retract_txAlike (s : State) {f : Fld} (hf : f.reg ∉ blockRegs 3) (i : Nat) : s.TxAlike (s.retract f i) := by
  have hcleared (c : CycleLog) : s.TxAlike ({ s with cyc := c }.setFld f 0 i) := .setFld hf (withCyc_txAlike s c)
  simp only [State.retract]
  split
  · exact hcleared _
  · exact (hcleared _).trans (withHst_txAlike _ _)

theorem crossing_txAlike (s : State) {notice count : Fld} (hn : notice.reg ∉ blockRegs 3) (hc : count.reg ∉ blockRegs 3) (n : Nat)
    (was : Word) (crossed : Bool) : s.TxAlike (s.crossing notice count n was crossed) := by
  simp only [State.crossing]
  split
  · split
    · exact .setFld hc (noteEvent_txAlike s notice n)
    · exact .raise hn (.refl s)
  · split
    · exact .setFld hc (.refl s)
    · exact .on (fun t => retract_txAlike t hn n) (.refl s)

theorem judgeMarks_txAlike (s : State) (n : Nat) : s.TxAlike (s.judgeMarks n) :=
  (crossing_txAlike s (by decide) (by decide) n _ _).trans (crossing_txAlike _ (by decide) (by decide) n _ _)

theorem setRunTurn_txAlike (s : State) (n : Nat) (u : RunTurn) : s.TxAlike (s.setRunTurn n u) := .rest (.refl s) rfl rfl rfl

theorem setRunnel_txAlike (s : State) (n : Nat) (r : Runnel) : s.TxAlike (s.setRunnel n r) := .rest (.refl s) rfl rfl rfl

theorem land_txAlike (s : State) (n : Nat) (ws : List RunWord) (who : Nat) : s.TxAlike (s.land n ws who) := by
  refine State.TxAlike.trans ?_ (judgeMarks_txAlike _ n)
  exact .bump (by decide) <| (setRunTurn_txAlike s n _).trans (setRunnel_txAlike _ n _)

theorem lostPush_txAlike (s : State) (n : Nat) : s.TxAlike (s.lostPush n) := by
  refine State.TxAlike.trans ?_ (siltPost_txAlike _ _ _ _)
  exact .raise (by decide) <| .bump (by decide) <| .refl s

theorem enginePush_txAlike (s : State) (n : Nat) (ws : List RunWord) (req : Nat) : s.TxAlike (s.enginePush n ws req) := by
  unfold State.enginePush
  split
  · exact lostPush_txAlike s n
  · dsimp only
    split
    · exact land_txAlike s n ws 255
    · exact setRunnel_txAlike s n _

theorem pushTxDone_txAlike (s : State) (d : TxDesc) (status launch asn rssi : Nat) : s.TxAlike (s.pushTxDone d status launch asn rssi) := by
  unfold State.pushTxDone
  split
  · exact .refl s
  · exact enginePush_txAlike s _ _ _

/-! ## What an origin does with a completion (R141, R148, R166, R171, R466) -/

theorem withShared_txAlike (s : State) (sh : SMap SharedChain) : s.TxAlike { s with txf := { s.txf with shared := sh } } :=
  .rest (.refl s) rfl rfl rfl

theorem sharedDone_txAlike (s : State) (g : Nat) (ok : Bool) : s.TxAlike (s.sharedDone g ok).2 := by
  simp only [State.sharedDone]
  split
  · exact (withShared_txAlike s _).trans (freeChain_txAlike _ _)
  · exact withShared_txAlike s _

theorem bcnCopyDone_txAlike (s : State) (g : Nat) (st : Status) : s.TxAlike (s.bcnCopyDone g st) := by
  refine State.TxAlike.trans ?_ (sharedDone_txAlike _ g _)
  split
  · exact .bump (by decide) (.refl s)
  · exact .raise (by decide) <| .bump (by decide) <| .refl s

theorem setSpw_txAlike (s : State) (k : Nat) (v : SpwSession) : s.TxAlike (s.setSpw k v) := .rest (.refl s) rfl rfl rfl

theorem spwBudget_txAlike (s : State) (k : Nat) : s.TxAlike (s.spwBudget k) := .raise (by decide) (setSpw_txAlike s k _)

theorem spwCopyDone_txAlike (s : State) (k g : Nat) (st : Status) : s.TxAlike (s.spwCopyDone k g st) := by
  refine .on (fun t => .bump (by decide) (.refl t)) ?_
  refine State.TxAlike.trans ?_ (sharedDone_txAlike _ g _)
  exact .on (fun t => spwBudget_txAlike t k) <| .on (fun t => .bump (by decide) (.refl t)) <| .refl s

theorem ackFail_txAlike (s : State) : s.TxAlike s.ackFail := .raise (by decide) <| .bump (by decide) <| .refl s

theorem withTwn_txAlike (s : State) (w : TwnState) : s.TxAlike { s with twn := w } := .rest (.refl s) rfl rfl rfl

theorem takeoverDone_txAlike (s : State) (st : Status) : s.TxAlike (s.takeoverDone st) := by
  simp only [State.takeoverDone]
  split
  · exact withTwn_txAlike s _
  · exact .on (fun t => .setFld (by decide) (withTwn_txAlike t _)) <| .raise (by decide) <| withTwn_txAlike s _

/-- A completion reaches whoever placed the descriptor, and no part of the transmit side. -/
theorem deliverTx_txAlike (s : State) (o : TxOrigin) (d : TxDesc) (st : Status) (launch asn rssi : Nat) (frees : Bool) :
    s.TxAlike (s.deliverTx o d st launch asn rssi frees) := by
  have hposted : s.TxAlike (s.on (decide (st = .internal)) fun s => s.siltInternal 3 0) := .on (fun t => siltPost_txAlike t _ _ _) (.refl s)
  have hfreed := State.TxAlike.on (c := frees) (fun t => freeDesc_txAlike t d) hposted
  cases o with
  | runnel n => exact hfreed.trans (pushTxDone_txAlike _ _ _ _ _ _)
  | spec n tid => exact hfreed.trans (pushTxDone_txAlike _ _ _ _ _ _)
  | ack key =>
    simp only [State.deliverTx]
    split
    · exact .bump (by decide) hfreed
    · exact hfreed.trans (ackFail_txAlike _)
  | beacon g => exact hposted.trans (bcnCopyDone_txAlike _ g st)
  | spw k g => exact hposted.trans (spwCopyDone_txAlike _ k g st)
  | takeover => exact hfreed.trans (takeoverDone_txAlike _ st)

/-! ## The weirs (R119–R124) -/

theorem withCht_txAlike (s : State) (c : ChtState) : s.TxAlike { s with cht := c } := .rest (.refl s) rfl rfl rfl

theorem nearUpdate_txAlike (s : State) : s.TxAlike s.nearUpdate :=
  .on (fun t => .raise (by decide) (.refl t)) <| .setFld (by decide) <| .refl s

theorem nearSeen_txAlike (s : State) : s.TxAlike s.nearSeen := by
  simp only [State.nearSeen]
  split
  · exact nearUpdate_txAlike s
  · exact (nearUpdate_txAlike s).trans (withCyc_txAlike _ _)

theorem weirRelease_txAlike (s : State) (es : List Nat) (a : Nat) : s.TxAlike (s.weirRelease es a) :=
  .foldl (fun t _ => .setFld (by decide) (.refl t)) (withCht_txAlike s _)

theorem meterStart_txAlike (s : State) (id : Nat) (es : List Nat) : s.TxAlike (s.meterStart id es) :=
  .foldl (fun t _ => withCht_txAlike t _) (.refl s)

theorem meterStop_txAlike (s : State) (id : Nat) : s.TxAlike (s.meterStop id) := by
  refine .foldl (fun t m => ?_) (withCht_txAlike s _)
  simp only [State.meterLeave]
  split <;> exact withCht_txAlike t _

end Sys2Proof.Machine
end

section
/-! PROOFS. The transmit side's own operations: a chain after each of them, and what a completion leaves alone (R17, R97, R122, R372). -/

namespace Sys2Proof.Machine

/-! ## A chain after an update -/

theorem tx_congr {s t : State} (h : s.txf = t.txf) (j : Nat) : s.tx j = t.tx j := by
  rw [State.tx, State.tx, h]

@[simp] theorem setFld_tx (s : State) (f : Fld) (v i k j : Nat) : (s.setFld f v i k).tx j = s.tx j := rfl
@[simp] theorem fresh_tx (s : State) (j : Nat) : s.fresh.2.tx j = s.tx j := rfl
@[simp] theorem raise_tx (s : State) (f : Fld) (i j : Nat) : (s.raise f i).tx j = s.tx j := tx_congr (raise_txf s f i) j
@[simp] theorem advance_tx (s : State) (d j : Nat) : (s.advance d).tx j = s.tx j := tx_congr (advance_txf s d) j
@[simp] theorem after_tx (s : State) (dt j : Nat) : (s.after dt).tx j = s.tx j := advance_tx s dt j
@[simp] theorem advanceTo_tx (s : State) (t j : Nat) : (s.advanceTo t).tx j = s.tx j := advance_tx s _ j
@[simp] theorem advanceToFull_tx (s : State) (t j : Nat) : (s.advanceToFull t).tx j = s.tx j := advance_tx s _ j
@[simp] theorem advanceToFull_fld (s : State) (t : Nat) (f : Fld) (i j : Nat) : (s.advanceToFull t).fld f i j = s.fld f i j :=
  advance_fld s _ f i j

theorem tx_setTx_ne (s : State) {i j : Nat} (c : TxfChain) (h : i ≠ j) : (s.setTx j c).tx i = s.tx i := by
  rw [State.tx, State.setTx, SMap.getD_put_ne _ _ _ h, State.tx]

@[simp] theorem on_tx_of (s : State) (c : Bool) {f : State → State} {j : Nat} (h : (f s).tx j = s.tx j) : (s.on c f).tx j = s.tx j :=
  on_keeps (P := fun t => t.tx j = s.tx j) c rfl h

@[simp] theorem setFrames_tx (s : State) (j : Nat) (fs : List TxFrame) : (s.setFrames j fs).tx j = { s.tx j with frames := fs } :=
  tx_setTx s j _

theorem putTx_tx (s : State) (j : Nat) (f : TxFrame) :
    (s.putTx j f).tx j = { s.tx j with frames := (s.tx j).frames.map fun g => if g.id = f.id then f else g } := setFrames_tx s j _

/-! ## Frames of a launch unit -/

theorem txFrame_mem {s : State} {j id : Nat} {f : TxFrame} (h : s.txFrame j id = some f) : f ∈ (s.tx j).frames :=
  List.mem_of_find?_eq_some h

theorem txFrame_id {s : State} {j id : Nat} {f : TxFrame} (h : s.txFrame j id = some f) : f.id = id :=
  beq_iff_eq.mp (List.find?_some (p := fun g : TxFrame => g.id == id) h)

/-- A replaced frame stands in its unit. -/
theorem mem_putTx {s t : State} {j id : Nat} {f g : TxFrame} (h : s.txFrame j id = some f) (ht : t.tx j = s.tx j) (hg : g.id = id) :
    g ∈ ((t.putTx j g).tx j).frames := by
  rw [putTx_tx, ht]
  exact List.mem_map.mpr ⟨f, txFrame_mem h, if_pos ((txFrame_id h).trans hg.symm)⟩

/-! ## Completions (R17, R97, R122) -/

/-- The registers of the transmit block that a completion may change: the coexistence requests, the chain's events, and its counters of
completions. -/
def completionRegs : List RegId :=
  [.TXF_COEX_STAT, .TXF_EVT, .TXF_CNT_LATE, .TXF_CNT_NO_GRANT, .TXF_CNT_GRANT_LOST, .TXF_CNT_SYNTH_FAULT]

/-- The first half of a completion: the frame leaves its unit, its request and its reservations are released (R97, R122). -/
def State.leaveUnit (s : State) (j : Nat) (f : TxFrame) : State :=
  (((s.nearSeen.setFrames j ((s.tx j).frames.filter fun g => g.id != f.id)).coexEnd j f).weirRelease f.charged f.air).nearUpdate

theorem completeTx_eq (s : State) (j : Nat) (f : TxFrame) (st : Status) (rssi : Nat) (frees : Bool) : s.completeTx j f st rssi frees =
    (((s.leaveUnit j f).countTx j st).deliverTx f.origin f.desc st f.rfTime f.rfAsn rssi frees).idleTouch s j := rfl

theorem coexUpdate_txf (s : State) (g : Nat) : (s.coexUpdate g).txf = s.txf := by
  unfold State.coexUpdate
  split <;> rfl

theorem coexUpdate_clp (s : State) (g : Nat) : (s.coexUpdate g).clp = s.clp := by
  unfold State.coexUpdate
  split <;> rfl

theorem coexUpdate_reg (s : State) (g : Nat) {id : RegId} (h : id ≠ .TXF_COEX_STAT) (i k : Nat) : (s.coexUpdate g).reg id i k = s.reg id i k := by
  unfold State.coexUpdate
  split
  · rfl
  · exact (reg_setReg_id _ _ _ _ _ _ h).trans (reg_setReg_id _ _ _ _ _ _ h)

/-- The end of a frame's request changes the held requests of its chain at most. -/
theorem coexEnd_tx (s : State) (j : Nat) (f : TxFrame) : ∃ hold, (s.coexEnd j f).tx j = { s.tx j with coexHold := hold } := by
  unfold State.coexEnd
  split
  · next g _ =>
    rw [tx_congr (coexUpdate_txf _ g) j]
    exact on_keeps (P := fun t => ∃ hold, t.tx j = { s.tx j with coexHold := hold }) _ ⟨_, rfl⟩ ⟨_, tx_setTx s j _⟩
  · exact ⟨_, rfl⟩

theorem coexEnd_clp (s : State) (j : Nat) (f : TxFrame) : (s.coexEnd j f).clp = s.clp := by
  unfold State.coexEnd
  split
  · rw [coexUpdate_clp]
    exact on_keeps (P := fun t => t.clp = s.clp) _ rfl rfl
  · rfl

theorem coexEnd_reg (s : State) (j : Nat) (f : TxFrame) {id : RegId} (h : id ≠ .TXF_COEX_STAT) (i k : Nat) :
    (s.coexEnd j f).reg id i k = s.reg id i k := by
  unfold State.coexEnd
  split
  · rw [coexUpdate_reg _ _ h]
    exact on_keeps (P := fun t => t.reg id i k = s.reg id i k) _ rfl rfl
  · rfl

/-- What follows the end of the request: the weirs. -/
theorem leaveUnit_txAlike (s : State) (j : Nat) (f : TxFrame) :
    ((s.nearSeen.setFrames j ((s.tx j).frames.filter fun g => g.id != f.id)).coexEnd j f).TxAlike (s.leaveUnit j f) :=
  (weirRelease_txAlike _ f.charged f.air).trans (nearUpdate_txAlike _)

theorem leaveUnit_tx (s : State) (j : Nat) (f : TxFrame) : ∃ hold, (s.leaveUnit j f).tx j =
    { s.tx j with frames := (s.tx j).frames.filter fun g => g.id != f.id, coexHold := hold } := by
  obtain ⟨hold, h⟩ := coexEnd_tx (s.nearSeen.setFrames j ((s.tx j).frames.filter fun g => g.id != f.id)) j f
  exact ⟨hold, by rw [(leaveUnit_txAlike s j f).tx, h, setFrames_tx, (nearSeen_txAlike s).tx]⟩

theorem leaveUnit_clp (s : State) (j : Nat) (f : TxFrame) : (s.leaveUnit j f).clp = s.clp := by
  rw [(leaveUnit_txAlike s j f).clp, coexEnd_clp]
  exact (nearSeen_txAlike s).clp

theorem leaveUnit_reg (s : State) (j : Nat) (f : TxFrame) {id : RegId} (hid : id ∈ blockRegs 3) (h : id ≠ .TXF_COEX_STAT) (i k : Nat) :
    (s.leaveUnit j f).reg id i k = s.reg id i k := by
  rw [(leaveUnit_txAlike s j f).reg id hid, coexEnd_reg _ _ _ h]
  exact (nearSeen_txAlike s).reg id hid i k

@[simp] theorem countTx_txf (s : State) (j : Nat) (st : Status) : (s.countTx j st).txf = s.txf := by
  unfold State.countTx
  split <;> simp only [raise_txf, bump_txf]

@[simp] theorem countTx_clp (s : State) (j : Nat) (st : Status) : (s.countTx j st).clp = s.clp := by
  unfold State.countTx
  split <;> simp only [raise_clp, bump_clp]

theorem reg_bump_id (s : State) {f : Fld} {id : RegId} (n i j i' j' : Nat) (h : id ≠ f.reg) :
    (s.bump f n i j).reg id i' j' = s.reg id i' j' := by
  rw [reg_congr (bump_regs s f n i j)]
  exact reg_setReg_id _ _ _ _ _ _ h

theorem countTx_reg (s : State) (j : Nat) (st : Status) {id : RegId} (h : id ∉ completionRegs) (i k : Nat) :
    (s.countTx j st).reg id i k = s.reg id i k := by
  have hne (r : RegId) (hr : r ∈ completionRegs) : id ≠ r := fun e => h (e ▸ hr)
  unfold State.countTx
  split
  · rw [reg_raise_id _ _ _ _ (hne _ (by decide)), reg_bump_id _ _ _ _ _ _ (hne _ (by decide))]
  · rw [reg_raise_id _ _ _ _ (hne _ (by decide)), reg_bump_id _ _ _ _ _ _ (hne _ (by decide))]
  · rw [reg_raise_id _ _ _ _ (hne _ (by decide)), reg_bump_id _ _ _ _ _ _ (hne _ (by decide))]
  · exact reg_bump_id _ _ _ _ _ _ (hne _ (by decide))
  · rfl

theorem idleTouch_tx (s b : State) (j : Nat) : ∃ idle, (s.idleTouch b j).tx j = { s.tx j with idleAt := idle } :=
  on_keeps (P := fun t => ∃ idle, t.tx j = { s.tx j with idleAt := idle }) _ ⟨_, rfl⟩ ⟨_, tx_setTx s j _⟩

@[simp] theorem idleTouch_clp (s b : State) (j : Nat) : (s.idleTouch b j).clp = s.clp :=
  on_keeps (P := fun t => t.clp = s.clp) _ rfl rfl

@[simp] theorem idleTouch_reg (s b : State) (j : Nat) (id : RegId) (i k : Nat) : (s.idleTouch b j).reg id i k = s.reg id i k :=
  on_keeps (P := fun t => t.reg id i k = s.reg id i k) _ rfl rfl

/-- A completion takes its frame out of the chain, and touches besides only the held requests and the idle time (R74, R97, R122). -/
theorem completeTx_tx (s : State) (j : Nat) (f : TxFrame) (st : Status) (rssi : Nat) (frees : Bool) : ∃ hold idle,
    (s.completeTx j f st rssi frees).tx j =
      { s.tx j with frames := (s.tx j).frames.filter fun g => g.id != f.id, coexHold := hold, idleAt := idle } := by
  obtain ⟨hold, hleave⟩ := leaveUnit_tx s j f
  obtain ⟨idle, hidle⟩ := idleTouch_tx
    (((s.leaveUnit j f).countTx j st).deliverTx f.origin f.desc st f.rfTime f.rfAsn rssi frees) s j
  refine ⟨hold, idle, ?_⟩
  rw [completeTx_eq, hidle, (deliverTx_txAlike _ _ _ _ _ _ _ _).tx, tx_congr (countTx_txf _ j st) j, hleave]

@[simp] theorem completeTx_clp (s : State) (j : Nat) (f : TxFrame) (st : Status) (rssi : Nat) (frees : Bool) :
    (s.completeTx j f st rssi frees).clp = s.clp := by
  rw [completeTx_eq, idleTouch_clp, (deliverTx_txAlike _ _ _ _ _ _ _ _).clp, countTx_clp, leaveUnit_clp]

theorem completeTx_reg (s : State) (j : Nat) (f : TxFrame) (st : Status) (rssi : Nat) (frees : Bool) {id : RegId} (hid : id ∈ blockRegs 3)
    (h : id ∉ completionRegs) (i k : Nat) : (s.completeTx j f st rssi frees).reg id i k = s.reg id i k := by
  rw [completeTx_eq, idleTouch_reg, (deliverTx_txAlike _ _ _ _ _ _ _ _).reg id hid, countTx_reg _ _ _ h,
    leaveUnit_reg _ _ _ hid fun e => h (by rw [e]; decide)]

/-- A frame that completes leaves its launch unit, and no other does (R122, R372). -/
theorem completeTx_frames (s : State) (j : Nat) (f : TxFrame) (st : Status) (rssi : Nat) (frees : Bool) :
    ((s.completeTx j f st rssi frees).tx j).frames = (s.tx j).frames.filter fun g => g.id != f.id := by
  obtain ⟨_, _, h⟩ := completeTx_tx s j f st rssi frees
  rw [h]

end Sys2Proof.Machine
end

section
/-! PROOFS. The front-end pins, blanking and the loss of LOCK (R87, R89, R91, R94, R96), each command by a lemma of its own. -/

namespace Sys2Proof.Machine

/-! ## Releases (R89, R96, R97) -/

theorem foldl_coexUpdate_txf (gs : List Nat) (s : State) : (gs.foldl (fun s g => s.coexUpdate g) s).txf = s.txf :=
  List.foldlRecOn (motive := fun t => t.txf = s.txf) gs _ rfl fun t ih g _ => (coexUpdate_txf t g).trans ih

theorem foldl_coexUpdate_clp (gs : List Nat) (s : State) : (gs.foldl (fun s g => s.coexUpdate g) s).clp = s.clp :=
  List.foldlRecOn (motive := fun t => t.clp = s.clp) gs _ rfl fun t ih g _ => (coexUpdate_clp t g).trans ih

theorem paDrop_tx (s : State) (j : Nat) : (s.paDrop j).tx j = { s.tx j with pa := false, coexHold := [] } :=
  (tx_congr (foldl_coexUpdate_txf _ _) j).trans (tx_setTx s j _)

@[simp] theorem paDrop_clp (s : State) (j : Nat) : (s.paDrop j).clp = s.clp := foldl_coexUpdate_clp _ _

theorem txswDrop_tx (s : State) (j : Nat) : (s.txswDrop j).tx j = { s.tx j with
    txsw := false
    blanks := (s.tx j).blanks.map fun b => if b.endAt = none then { b with endAt := some (s.clp.now + b.tail * 1000) } else b } :=
  tx_setTx s j _

theorem exec_paRelease (j : Nat) (s : State) : exec (.paRelease j) s = execPaRelease j s := rfl
theorem exec_txswRelease (j : Nat) (s : State) : exec (.txswRelease j) s = execTxswRelease j s := rfl
theorem exec_lnaActive (j : Nat) (s : State) : exec (.lnaActive j) s = execLnaActive j s := rfl

section
variable {s : State} {j : Nat} (hf : (s.tx j).frames = [])
include hf

theorem paRelease_completes (hpa : (s.tx j).pa = true) : Completes (.paRelease j) s fun t =>
    (t.tx j).pa = false ∧ (t.tx j).coexHold = [] ∧ t.clp.now = max s.clp.now (s.tx j).paOff := by
  rw [Completes, exec_paRelease, execPaRelease]
  simp only [hf, hpa, List.all_nil, and_self, if_true]
  refine ⟨_, rfl, ?_, ?_, ?_⟩
  · rw [paDrop_tx]
  · rw [paDrop_tx]
  · rw [paDrop_clp, advanceTo_now]

theorem txswRelease_completes (hsw : (s.tx j).txsw = true) (hpa : (s.tx j).pa = false) : Completes (.txswRelease j) s fun t =>
    (t.tx j).txsw = false ∧ t.clp.now = max s.clp.now (s.tx j).swOff ∧ (t.tx j).blanks.all (fun b => b.endAt.isSome) = true := by
  rw [Completes, exec_txswRelease, execTxswRelease]
  simp only [hf, hsw, hpa, List.all_nil, and_self, if_true]
  refine ⟨_, rfl, ?_, advanceTo_now s _, ?_⟩
  · rw [txswDrop_tx]
  · rw [txswDrop_tx, List.all_map, List.all_eq_true]
    intro b _
    cases hb : b.endAt with
    | none => simp [hb]
    | some e => simp [hb]

/-! ## FEM_LNA_n (R91, R94) -/

/-- Held at a commit point and done in this cycle, LNA_EN reads as it stood at that point. -/
theorem lnaActive_completes (hfree : (s.tx j).lnaFree = false) (hsw : (s.tx j).txsw = false) : Completes (.lnaActive j) s fun t =>
    (t.tx j).lnaFree = true ∧ t.clp.now = max s.clp.now (s.tx j).lnaOn ∧
      t.lnaOn j = (((s.tx j).lnaHold.map fun h => h.1).getD (s.flag F.TXF_FEM_CTL_LNA_EN j) && decide (1 ≤ s.chainState j)) := by
  rw [Completes, exec_lnaActive, execLnaActive]
  simp only [hf, hfree, hsw, List.all_nil, and_self, if_true]
  refine ⟨_, rfl, ?_, advanceTo_now s _, ?_⟩
  · rw [tx_setTx]
  · simp only [State.lnaOn, State.lnaEn, State.chainState, State.flag, tx_setTx, setTx_fld, setTx_clp, advanceTo_fld, advanceTo_tx,
      Bool.and_true]
    cases (s.tx j).lnaHold with
    | none => rfl
    | some h =>
      simp only [Option.map_some, Option.getD_some, if_true]
      rfl

end

/-! ## Blanking (R53, R96) -/

@[simp] theorem rillRestart_tx (s : State) (j n i : Nat) : (s.rillRestart j n).tx i = s.tx i := rfl

theorem forRills_tx {f : State → Nat → State} (i : Nat) (h : ∀ s n, (f s n).tx i = s.tx i) (s : State) : (s.forRills f).tx i = s.tx i :=
  List.foldlRecOn (motive := fun t => t.tx i = s.tx i) _ f rfl fun t ih n _ => (h t n).trans ih

/-- The detectors of the chains that the interval `b` blanked and nothing blanks any more restart. -/
def State.unblank (s : State) (b : BlankInt) : State :=
  (List.range 16).foldl (fun s i => if b.mask.testBit i && !s.blanked i then s.forRills fun s n => s.rillRestart i n else s) s

/-- That changes neither a chain's transmit side nor the time. -/
theorem unblank_keeps (s : State) (b : BlankInt) (j : Nat) : (s.unblank b).tx j = s.tx j ∧ (s.unblank b).clp = s.clp := by
  refine List.foldlRecOn (motive := fun t : State => t.tx j = s.tx j ∧ t.clp = s.clp) _ _ ⟨rfl, rfl⟩ fun t ih i _ => ?_
  obtain ⟨htx, hclp⟩ := ih
  split
  · exact ⟨(forRills_tx j (fun t n => rillRestart_tx t i n j) t).trans htx, (forRills_clp (fun t n => rillRestart_clp t i n) t).trans hclp⟩
  · exact ⟨htx, hclp⟩

/-- The least of the ends of a chain's blanking intervals. -/
theorem firstEnd_eq {bs : List BlankInt} {b : BlankInt} {e : Nat} (hb : b ∈ bs) (hend : b.endAt = some e)
    (hfirst : ∀ c ∈ bs, ∀ e', c.endAt = some e' → e ≤ e') : (bs.filterMap fun c => c.endAt).min? = some e := by
  refine List.min?_eq_some_iff.mpr ⟨List.mem_filterMap.mpr ⟨b, hb, hend⟩, fun e' he' => ?_⟩
  obtain ⟨c, hc, hce⟩ := List.mem_filterMap.mp he'
  exact hfirst c hc e' hce

theorem exec_blankingEnd (j : Nat) (s : State) : exec (.blankingEnd j) s = execBlankingEnd j s := rfl

theorem blankingEnd_completes {s : State} {j e : Nat} {b : BlankInt} (hb : b ∈ (s.tx j).blanks) (hend : b.endAt = some e)
    (hfirst : ∀ c ∈ (s.tx j).blanks, ∀ e', c.endAt = some e' → e ≤ e') : Completes (.blankingEnd j) s fun t =>
      t.clp.now = max s.clp.now e ∧ ∃ c ∈ (s.tx j).blanks, c.endAt = some e ∧ (t.tx j).blanks = (s.tx j).blanks.erase c := by
  obtain ⟨c, hfind⟩ : ∃ c, (s.tx j).blanks.find? (fun c => c.endAt == some e) = some c :=
    Option.isSome_iff_exists.mp (List.find?_isSome.mpr ⟨b, hb, beq_iff_eq.mpr hend⟩)
  have hend' : c.endAt = some e := beq_iff_eq.mp (List.find?_some (p := fun c : BlankInt => c.endAt == some e) hfind)
  rw [Completes, exec_blankingEnd, execBlankingEnd]
  simp only [firstEnd_eq hb hend hfirst, hfind]
  obtain ⟨htx, hclp⟩ := unblank_keeps
    ((s.advanceTo e).setTx j { (s.advanceTo e).tx j with blanks := ((s.advanceTo e).tx j).blanks.erase c }) c j
  refine ⟨_, rfl, ?_, c, List.mem_of_find?_eq_some hfind, hend', ?_⟩
  · exact (congrArg ClpState.now hclp).trans (advanceTo_now s e)
  · refine (congrArg TxfChain.blanks htx).trans ?_
    rw [tx_setTx, advanceTo_tx]

/-! ## LOCK (R87) -/

theorem rfStartDue_of_idle {s : State} {j : Nat} (h : ∀ f ∈ (s.tx j).frames, f.stage = .powered → s.clp.now < s.rfAt f) : s.rfStartDue j = s := by
  have hnone : ((s.tx j).frames.filter fun f => decide (f.stage = .powered) && decide (s.rfAt f ≤ s.clp.now) && s.memReady 0) = [] := by
    refine List.filter_eq_nil_iff.mpr fun f hf => ?_
    rw [Bool.and_eq_true, Bool.and_eq_true, decide_eq_true_eq, decide_eq_true_eq]
    exact fun hdue => absurd (h f hf hdue.1.1) (not_lt.mpr hdue.1.2)
  rw [State.rfStartDue, hnone, List.foldl_nil]

theorem lockFall_of_empty {s : State} {j : Nat} (hf : (s.tx j).frames = []) (hl : s.locked j = true) :
    s.lockFall j = s.setFld F.TXF_CHAIN_STAT_LOCK 0 j := by
  have hstart : s.rfStartDue j = s := rfStartDue_of_idle fun f hmem => by rw [hf] at hmem; cases hmem
  have hrad : s.radiating j = false := by rw [State.radiating, hf, List.any_nil]
  rw [State.lockFall, if_pos hl]
  simp only [hstart, hrad, State.abortLive, setFld_tx, hf, List.foldl_nil, on_false]

theorem exec_lockLoss (dt j : Nat) (s : State) : exec (.lockLoss dt j) s = .next ((s.after dt).lockFall j) := rfl

theorem lockLoss_completes {s : State} {j : Nat} (dt : Nat) (hl : s.locked j = true) (hf : (s.tx j).frames = []) :
    Completes (.lockLoss dt j) s fun t => t = (s.advance dt).setFld F.TXF_CHAIN_STAT_LOCK 0 j := by
  refine completes_of_exec (exec_lockLoss dt j s) (lockFall_of_empty ?_ ?_)
  · rw [after_tx, hf]
  · rwa [State.locked, State.flag, after_fld]

/-! ## Polarity (R92, R94) -/

theorem exec_femPolApply (j : Nat) (s : State) : exec (.femPolApply j) s = execFemPolApply j s := rfl

theorem femPolApply_completes {s : State} {j : Nat} (hdue : (s.tx j).polDue = true) (hidle : s.femIdle j = true) :
    Completes (.femPolApply j) s fun t => (t.tx j).polDue = false ∧ (t.tx j).pol = some (s.flag F.TXF_FEM_CTL_PA_POL j,
      s.flag F.TXF_FEM_CTL_TXSW_POL j, s.flag F.TXF_FEM_CTL_LNA_POL j) := by
  rw [Completes, exec_femPolApply, execFemPolApply, hdue, hidle, Bool.and_self, if_pos rfl]
  refine ⟨_, rfl, ?_, ?_⟩ <;> rw [State.polApply, tx_setTx]

/-- With the transmit side Off, FEM_PA_n and FEM_TXSW_n stand at their inactive levels. -/
theorem femPins_of_off {s : State} {j : Nat} {p w l : Bool} (hpol : (s.tx j).pol = some (p, w, l)) (hoff : s.txState j = 0) :
    s.femPins j = (p, w, s.lnaOn j != l) := by
  have hnotOn : (s.txState j != 0) = false := by rw [hoff, bne_self_eq_false]
  simp only [State.femPins, hpol, hnotOn, Bool.and_false, Bool.false_bne]

/-- Settles O10, each clause by the lemma of its command. -/
theorem pinCommands : Obligations.PinCommands :=
  ⟨fun _ _ hpa hf => paRelease_completes hf hpa,
    fun _ _ hsw hpa hf => txswRelease_completes hf hsw hpa,
    fun _ _ hfree hsw hf => lnaActive_completes hf hfree hsw,
    fun _ _ _ _ hb hend hfirst => blankingEnd_completes hb hend hfirst,
    fun _ dt _ hl hf => lockLoss_completes dt hl hf,
    fun _ _ hdue hidle => femPolApply_completes hdue hidle,
    fun _ _ _ _ _ hpol hoff => femPins_of_off hpol hoff⟩

end Sys2Proof.Machine
end

section
/-! PROOFS. RF start, aborts and the fall of LOCK (R84, R87, R102, R119): what they leave of the synthesiser. -/

namespace Sys2Proof.Machine

/-! ## RF start (R84, R119, R444, R555) -/

theorem takeoverStart_txAlike (s : State) (air : Nat) : s.TxAlike (s.takeoverStart air) := by
  unfold State.takeoverStart
  split
  · exact .bump (by decide) <| .raise (by decide) <| .setFld (by decide) <| withTwn_txAlike s _
  · exact .refl s

theorem rfStart_of_no_chain {s : State} {j : Nat} {f : TxFrame} (h : s.chainFor f.desc.cell f.desc.len = none) :
    s.rfStart j f = s.recall j f .internal false := by
  simp only [State.rfStart, h]

theorem rfStart_of_bad_cell {s : State} {j : Nat} {f : TxFrame} {cells : List Nat} (h : s.chainFor f.desc.cell f.desc.len = some cells)
    (hbad : (s.readFrame cells f.desc).2.1 = true) : s.rfStart j f = (s.readFrame cells f.desc).2.2.2.recall j f .poisoned := by
  simp only [State.rfStart, h, hbad, if_true]

/-- A frame whose first cell reads good radiates from its RF start on. -/
theorem rfStart_of_good_cell {s : State} {j : Nat} {f : TxFrame} {cells : List Nat} (h : s.chainFor f.desc.cell f.desc.len = some cells)
    (hgood : (s.readFrame cells f.desc).2.1 = false) : ∃ (u : State) (g : TxFrame), s.TxAlike u ∧ g.id = f.id ∧ g.stage = .radiating ∧
      (u.putTx j g).TxAlike (s.rfStart j f) := by
  simp only [State.rfStart, h, hgood, Bool.false_eq_true, if_false]
  refine ⟨(s.readFrame cells f.desc).2.2.2.fresh.2, _, (readFrame_txAlike s cells f.desc).trans (fresh_txAlike _), ?_, ?_,
    .on (fun t => takeoverStart_txAlike t _) ((meterStart_txAlike _ _ _).trans (nearUpdate_txAlike _))⟩
  · rfl
  · rfl

/-! ## The synthesiser through completions (R66–R74) -/

/-- The synthesiser of chain `j` stands in `t` as in `s`: the centre in force, the one that waits, and TX_STATE. -/
structure State.SynAlike (j : Nat) (s t : State) : Prop where
  centre : (t.tx j).centre = (s.tx j).centre
  heldWin : (t.tx j).heldWin = (s.tx j).heldWin
  txState : t.txState j = s.txState j

theorem State.SynAlike.refl (j : Nat) (s : State) : s.SynAlike j s := ⟨rfl, rfl, rfl⟩

theorem State.SynAlike.trans {j : Nat} {s t u : State} (h : s.SynAlike j t) (h' : t.SynAlike j u) : s.SynAlike j u :=
  ⟨h'.centre.trans h.centre, h'.heldWin.trans h.heldWin, h'.txState.trans h.txState⟩

theorem State.TxAlike.synAlike {s t : State} (h : s.TxAlike t) (j : Nat) : s.SynAlike j t :=
  ⟨by rw [h.tx], by rw [h.tx], h.fld (by decide) j 0⟩

theorem foldl_synAlike {α : Type} {j : Nat} {f : State → α → State} (hf : ∀ (s : State) (a : α), s.SynAlike j (f s a)) (l : List α) (s : State) :
    s.SynAlike j (l.foldl f s) :=
  List.foldlRecOn l f (.refl j s) fun _ h a _ => h.trans (hf _ a)

theorem completeTx_synAlike (s : State) (j : Nat) (f : TxFrame) (st : Status) (rssi : Nat) (frees : Bool) :
    s.SynAlike j (s.completeTx j f st rssi frees) := by
  obtain ⟨hold, idle, htx⟩ := completeTx_tx s j f st rssi frees
  exact ⟨by rw [htx], by rw [htx], fld_of_reg (completeTx_reg s j f st rssi frees (by decide) (by decide) j 0)⟩

theorem setTx_synAlike {s : State} {j : Nat} {c : TxfChain} (hc : c.centre = (s.tx j).centre) (hw : c.heldWin = (s.tx j).heldWin) :
    s.SynAlike j (s.setTx j c) :=
  ⟨by rw [tx_setTx, hc], by rw [tx_setTx, hw], rfl⟩

theorem putTx_synAlike (s : State) (j : Nat) (f : TxFrame) : s.SynAlike j (s.putTx j f) := setTx_synAlike rfl rfl

theorem pinsEnd_synAlike (s : State) (j e lag : Nat) : s.SynAlike j (s.pinsEnd j e lag) := setTx_synAlike rfl rfl

theorem recall_synAlike (s : State) (j : Nat) (f : TxFrame) (st : Status) (frees : Bool) : s.SynAlike j (s.recall j f st frees) :=
  (pinsEnd_synAlike s j s.clp.now f.paLag).trans (completeTx_synAlike _ j f st 0 frees)

theorem rfStart_synAlike (s : State) (j : Nat) (f : TxFrame) : s.SynAlike j (s.rfStart j f) := by
  cases hchain : s.chainFor f.desc.cell f.desc.len with
  | none =>
    rw [rfStart_of_no_chain hchain]
    exact recall_synAlike s j f _ _
  | some cells =>
    cases hcell : (s.readFrame cells f.desc).2.1 with
    | true =>
      rw [rfStart_of_bad_cell hchain hcell]
      exact ((readFrame_txAlike s cells f.desc).synAlike j).trans (recall_synAlike _ j f _ _)
    | false =>
      obtain ⟨u, g, hu, -, -, hg⟩ := rfStart_of_good_cell (j := j) hchain hcell
      exact ((hu.synAlike j).trans (putTx_synAlike u j g)).trans (hg.synAlike j)

theorem rfStartDue_synAlike (s : State) (j : Nat) : s.SynAlike j (s.rfStartDue j) := foldl_synAlike (fun t f => rfStart_synAlike t j f) _ s

theorem rampDown_synAlike (s : State) (j : Nat) (f : TxFrame) (st : Status) : s.SynAlike j (s.rampDown j f st) := by
  unfold State.rampDown
  split
  · exact .refl j s
  · exact ((((fresh_txAlike s).trans (meterStop_txAlike _ f.id)).synAlike j).trans (putTx_synAlike _ j _)).trans
      ((nearUpdate_txAlike _).synAlike j)

theorem abortLive_synAlike (s : State) (j : Nat) (st : Status) : s.SynAlike j (s.abortLive j st) := by
  refine foldl_synAlike (fun t f => ?_) _ s
  split
  · split
    · exact rampDown_synAlike t j f st
    · exact .refl j t
  · split
    · exact recall_synAlike t j f st true
    · exact .refl j t

theorem lockFall_synAlike (s : State) (j : Nat) : s.SynAlike j (s.lockFall j) := by
  have hlock (t : State) : t.SynAlike j (t.setFld F.TXF_CHAIN_STAT_LOCK 0 j) :=
    ⟨rfl, rfl, fld_setFld_disjoint _ _ _ _ _ _ (by decide) (by decide)⟩
  have hevt (t : State) : t.SynAlike j (t.raise F.TXF_EVT_SYN_UNLOCK j) :=
    ⟨by rw [raise_tx], by rw [raise_tx], fld_raise_id _ _ _ _ (by decide)⟩
  unfold State.lockFall
  split
  · exact (((rfStartDue_synAlike s j).trans (hlock _)).trans (abortLive_synAlike _ j _)).trans
      (on_keeps (P := fun t => State.SynAlike j _ t) _ (.refl j _) (hevt _))
  · exact .refl j s

end Sys2Proof.Machine
end

section
/-! PROOFS. The synthesiser and the transmit side (R67–R74), each command by a lemma of its own. -/

namespace Sys2Proof.Machine

theorem exec_synWindowWrite (j : Nat) (d : Word) (s : State) :
    exec (.synWindowWrite j d) s = .next (s.powered fun s => s.synWindowWrite j d) := rfl
theorem exec_cal (j : Nat) (e : Bool) (s : State) : exec (.cal j e) s = .next (s.powered fun s => s.synCtlWrite j (if e then 3 else 1)) := rfl
theorem exec_synLock (j : Nat) (temp : Int) (s : State) : exec (.synLock j temp) s = execSynLock j temp s := rfl
theorem exec_synFault (j : Nat) (s : State) : exec (.synFault j) s = execSynFault j s := rfl
theorem exec_tempCalDue (dt j : Nat) (temp : Int) (s : State) : exec (.tempCalDue dt j temp) s = execTempCalDue dt j temp s := rfl
theorem exec_tempCalStart (dt j : Nat) (s : State) : exec (.tempCalStart dt j) s = execTempCalStart dt j s := rfl
theorem exec_calStarved (j : Nat) (s : State) : exec (.calStarved j) s = execCalStarved j s := rfl
theorem exec_txWake (j : Nat) (temp : Int) (s : State) : exec (.txWake j temp) s = execTxWake j temp s := rfl
theorem exec_txOff (j : Nat) (s : State) : exec (.txOff j) s = execTxOff j s := rfl

/-! ## Window writes (R67, R68) -/

theorem bits_from_zero (v w : Nat) : bits v 0 w = v % 2 ^ w := by rw [bits, pow_zero, Nat.div_one]

theorem txState_setFld_id (s : State) {f : Fld} (v i k j : Nat) (h : .TXF_CHAIN_STAT ≠ f.reg) : (s.setFld f v i k).txState j = s.txState j :=
  fld_setFld_id _ _ _ _ _ _ h

section
variable {s : State} {j : Nat} (d : Word)

theorem synWindowWrite_completes_radiating (hs : s.txState j ≠ 0) (hrad : s.radiating j = true) (hr : s.released = true) :
    Completes (.synWindowWrite j d) s fun t => (t.tx j).heldWin = some (d.toNat % 2 ^ 23) ∧ t.flag F.TXF_EVT_CFG_HELD j = true := by
  refine completes_of_powered hr (exec_synWindowWrite j d s) ?_
  have hs' : (s.setFld F.TXF_SYN_WINDOW_CENTRE_KHZ d.toNat j).txState j ≠ 0 := by rwa [txState_setFld_id _ _ _ _ _ (by decide)]
  have hrad' : (s.setFld F.TXF_SYN_WINDOW_CENTRE_KHZ d.toNat j).radiatesNow j = true := Bool.or_eq_true_iff.mpr (.inl hrad)
  rw [State.synWindowWrite, if_neg hs', if_pos hrad']
  exact ⟨by rw [raise_tx, tx_setTx, bits_from_zero], flag_raise_self _ _ _ (by decide) rfl⟩

theorem synWindowWrite_completes_off (hs : s.txState j = 0) (hr : s.released = true) : Completes (.synWindowWrite j d) s fun t =>
    t.fld F.TXF_SYN_WINDOW_CENTRE_KHZ j = d.toNat % 2 ^ 23 ∧ (t.tx j).heldWin = some (d.toNat % 2 ^ 23) ∧
      (t.tx j).centre = (s.tx j).centre ∧ t.flag F.TXF_EVT_CFG_HELD j = s.flag F.TXF_EVT_CFG_HELD j := by
  refine completes_of_powered hr (exec_synWindowWrite j d s) ?_
  have hs' : (s.setFld F.TXF_SYN_WINDOW_CENTRE_KHZ d.toNat j).txState j = 0 := by rwa [txState_setFld_id _ _ _ _ _ (by decide)]
  rw [State.synWindowWrite, if_pos hs']
  refine ⟨?_, ?_, ?_, ?_⟩
  · rw [setTx_fld, fld_setFld_self _ _ _ _ _ (by decide)]
    rfl
  · rw [tx_setTx, bits_from_zero]
  · rw [tx_setTx, setFld_tx]
  · rw [State.flag, setTx_fld, fld_setFld_id _ _ _ _ _ _ (by decide), State.flag]

end

/-! ## A lock sequence begins (R69, R71, R73) -/

/-- A retune calibrates in full where it is asked to, or where it meets a full calibration in progress. -/
def State.retunesFull (s : State) (j : Nat) (full : Bool) : Bool := full || ((s.tx j).lockAt.isSome && (s.tx j).fullCal)

/-- The chain as a retune finds it once LOCK has fallen: CAL_BUSY is set, and a full calibration is not due any more. -/
def State.retuning (s : State) (j : Nat) (full : Bool) : State :=
  ((s.lockFall j).setFld F.TXF_CHAIN_STAT_CAL_BUSY 1 j).on (s.retunesFull j full) fun s => s.setFld F.TXF_CHAIN_STAT_CAL_DUE 0 j

/-- A full calibration ends what postponed it. -/
def TxfChain.undeferred (c : TxfChain) (full : Bool) : TxfChain := if full then { c with deferAt := none, starved := false } else c

theorem TxfChain.undeferred_centre (c : TxfChain) (full : Bool) : (c.undeferred full).centre = c.centre := by cases full <;> rfl

theorem TxfChain.undeferred_heldWin (c : TxfChain) (full : Bool) : (c.undeferred full).heldWin = c.heldWin := by cases full <;> rfl

theorem retune_eq (s : State) (j : Nat) (full : Bool) : s.retune j full =
    (s.retuning j full).setTx j { ((s.retuning j full).tx j).undeferred (s.retunesFull j full) with
      lockAt := some ((s.retuning j full).clp.now + if s.retunesFull j full then 42000 else 16000)
      failAt := some ((s.retuning j full).clp.now + 100000)
      fullCal := s.retunesFull j full } := rfl

theorem retuning_synAlike (s : State) (j : Nat) (full : Bool) : s.SynAlike j (s.retuning j full) := by
  have hbusy (t : State) : t.SynAlike j (t.setFld F.TXF_CHAIN_STAT_CAL_BUSY 1 j) :=
    ⟨rfl, rfl, fld_setFld_disjoint _ _ _ _ _ _ (by decide) (by decide)⟩
  have hdue (t : State) : t.SynAlike j (t.setFld F.TXF_CHAIN_STAT_CAL_DUE 0 j) :=
    ⟨rfl, rfl, fld_setFld_disjoint _ _ _ _ _ _ (by decide) (by decide)⟩
  exact ((lockFall_synAlike s j).trans (hbusy _)).trans (on_keeps (P := fun t => State.SynAlike j _ t) _ (.refl j _) (hdue _))

theorem retune_synAlike (s : State) (j : Nat) (full : Bool) : s.SynAlike j (s.retune j full) := by
  rw [retune_eq]
  exact (retuning_synAlike s j full).trans (setTx_synAlike (TxfChain.undeferred_centre _ _) (TxfChain.undeferred_heldWin _ _))

theorem retune_calBusy (s : State) (j : Nat) (full : Bool) : (s.retune j full).flag F.TXF_CHAIN_STAT_CAL_BUSY j = true := by
  have hbusy : ((s.lockFall j).setFld F.TXF_CHAIN_STAT_CAL_BUSY 1 j).fld F.TXF_CHAIN_STAT_CAL_BUSY j = 1 := fld_setFld_self _ _ _ _ _ (by decide)
  refine flag_of_fld_eq_one ((on_fld _ ?_).trans hbusy)
  exact fld_setFld_disjoint _ _ _ _ _ _ (by decide) (by decide)

theorem retune_failAt (s : State) (j : Nat) (full : Bool) : ((s.retune j full).tx j).failAt = some ((s.retune j full).clp.now + 100000) := by
  rw [retune_eq, tx_setTx]
  rfl

/-- A full calibration begins: LOCK is due 42 µs on. -/
theorem retune_full (s : State) (j : Nat) :
    ((s.retune j true).tx j).fullCal = true ∧ ((s.retune j true).tx j).lockAt = some ((s.retune j true).clp.now + 42000) := by
  rw [retune_eq, tx_setTx]
  exact ⟨rfl, rfl⟩

/-! ## CAL (R68, R69) -/

/-- TEMP_CAL_EN as CAL's word gives it. -/
theorem calWord_tempCalEn (e : Bool) : bits (if e then 3 else 1 : Word).toNat 1 1 = cond e 1 0 := by cases e <;> rfl

theorem calWord_cal (e : Bool) : (if e then 3 else 1 : Word).getLsbD 0 = true := by cases e <;> rfl

/-- The way to an instant of full time reads the clock's registers alone. -/
theorem nsUntilFull_setFld (s : State) {f : Fld} (v i k t : Nat) (hf : f.reg ∉ [RegId.CLP_TRIM, .CLP_RATE_I, .CLP_STEER_LIM]) :
    (s.setFld f v i k).nsUntilFull t = s.nsUntilFull t := by
  have hfld {g : Fld} (hg : g.reg ∈ [RegId.CLP_TRIM, .CLP_RATE_I, .CLP_STEER_LIM]) : (s.setFld f v i k).fld g = s.fld g :=
    fld_setFld_id _ _ _ _ _ _ fun e => hf (e ▸ hg)
  have hterm : (s.setFld f v i k).slewTerm = s.slewTerm := by
    rw [State.slewTerm, hfld (by decide)]
    rfl
  have happlied : (s.setFld f v i k).appliedRate = s.appliedRate := by
    rw [State.appliedRate, hterm, State.sfld, State.sfld, hfld (by decide), hfld (by decide)]
    rfl
  have hrest : (s.setFld f v i k).restRate = s.restRate := by
    rw [State.restRate, State.sfld, State.sfld, hfld (by decide), hfld (by decide)]
    rfl
  have hleft : (s.setFld f v i k).slewLeft = s.slewLeft := by
    rw [State.slewLeft, hterm]
    rfl
  rw [State.nsUntilFull, happlied, hrest, hleft]
  rfl

theorem radiatesNow_setFld (s : State) {f : Fld} (v i k j : Nat) (hf : f.reg ∉ [RegId.CLP_TRIM, .CLP_RATE_I, .CLP_STEER_LIM]) :
    (s.setFld f v i k).radiatesNow j = s.radiatesNow j := by
  have hat : (s.setFld f v i k).rfAt = s.rfAt := funext fun g => by rw [State.rfAt, nsUntilFull_setFld _ _ _ _ _ hf, setFld_clp, State.rfAt]
  rw [State.radiatesNow, hat]
  rfl

section
variable {s : State} {j : Nat} (e : Bool)

theorem cal_completes (hrad : s.radiatesNow j = false) (hs : s.txState j ≠ 0) (hr : s.released = true) : Completes (.cal j e) s fun t =>
    t.flag F.TXF_CHAIN_STAT_CAL_BUSY j = true ∧ (t.tx j).fullCal = true ∧ (t.tx j).lockAt = some (t.clp.now + 42000) := by
  refine completes_of_powered hr (exec_cal j e s) ?_
  have hrad' : ∀ v, (s.setFld F.TXF_SYN_CTL_TEMP_CAL_EN v j).radiatesNow j = false := fun v => by
    rw [radiatesNow_setFld _ _ _ _ _ (by decide), hrad]
  have hs' (v : Nat) (c : TxfChain) : ((s.setFld F.TXF_SYN_CTL_TEMP_CAL_EN v j).setTx j c).txState j ≠ 0 := by
    rwa [State.txState, setTx_fld, ← State.txState, txState_setFld_id _ _ _ _ _ (by decide)]
  simp only [State.synCtlWrite, calWord_cal, Bool.not_true, Bool.false_eq_true, if_false, hrad', State.applyCal, hs']
  exact ⟨retune_calBusy _ j true, retune_full _ j⟩

theorem cal_completes_radiating (hrad : s.radiating j = true) (hr : s.released = true) : Completes (.cal j e) s fun t =>
    (t.tx j).heldCal = true ∧ t.fld F.TXF_SYN_CTL_TEMP_CAL_EN j = cond e 1 0 := by
  refine completes_of_powered hr (exec_cal j e s) ?_
  have hrad' (v : Nat) : (s.setFld F.TXF_SYN_CTL_TEMP_CAL_EN v j).radiatesNow j = true := Bool.or_eq_true_iff.mpr (.inl hrad)
  simp only [State.synCtlWrite, calWord_cal, Bool.not_true, Bool.false_eq_true, if_false, hrad', if_true]
  refine ⟨by rw [raise_tx, tx_setTx], ?_⟩
  rw [fld_raise_id _ _ _ _ (by decide), setTx_fld, fld_setFld_self _ _ _ _ _ (by decide), calWord_tempCalEn]
  cases e <;> rfl

end

/-! ## The die temperature and the stored calibration (R70) -/

/-- SYN_BAND and CAL_VALID alone follow the centre and the temperature. -/
theorem calRefresh_fld (s : State) (j : Nat) {g : Fld} (i k : Nat) (h : g.reg ≠ .TXF_CHAIN_STAT ∨ g.lo + g.w ≤ 6 ∨ 11 ≤ g.lo) :
    (s.calRefresh j).fld g i k = s.fld g i k := by
  obtain h | h := h
  · exact (fld_setFld_id _ _ _ _ _ _ h).trans (fld_setFld_id _ _ _ _ _ _ h)
  · refine (fld_setFld_disjoint _ _ _ _ _ _ (by decide) ?_).trans (fld_setFld_disjoint _ _ _ _ _ _ (by decide) ?_)
    · exact h.imp id (le_trans (by decide))
    · exact h.imp (le_trans · (by decide)) id

@[simp] theorem calRefresh_tx (s : State) (j i : Nat) : (s.calRefresh j).tx i = s.tx i := rfl

theorem sense_fld (s : State) (temp : Int) {g : Fld} (i k : Nat) (h : g.reg ≠ .TXF_CHAIN_STAT ∨ g.lo + g.w ≤ 6 ∨ 11 ≤ g.lo) :
    (s.sense temp).fld g i k = s.fld g i k := foldl_fld (fun t j => calRefresh_fld t j i k h) _ _

@[simp] theorem sense_tx (s : State) (temp : Int) (j : Nat) : (s.sense temp).tx j = s.tx j :=
  List.foldlRecOn (motive := fun t : State => t.tx j = s.tx j) _ _ rfl fun t ih i _ => (calRefresh_tx t i j).trans ih

/-! ## The end of a lock sequence (R69, R73) -/

theorem synLock_completes {s : State} {j at_ : Nat} (temp : Int) (h : (s.tx j).lockAt = some at_) : Completes (.synLock j temp) s fun t =>
    t.locked j = true ∧ t.flag F.TXF_CHAIN_STAT_CAL_BUSY j = false ∧ (t.tx j).lockAt = none := by
  rw [Completes, exec_synLock, execSynLock, h]
  dsimp only
  generalize (s.advanceTo at_).sense temp = u
  have hbusy : ((u.setFld F.TXF_CHAIN_STAT_LOCK 1 j).setFld F.TXF_CHAIN_STAT_CAL_BUSY 0 j).fld F.TXF_CHAIN_STAT_CAL_BUSY j = 0 :=
    fld_setFld_self _ _ _ _ _ (by decide)
  have hlock : ((u.setFld F.TXF_CHAIN_STAT_LOCK 1 j).setFld F.TXF_CHAIN_STAT_CAL_BUSY 0 j).fld F.TXF_CHAIN_STAT_LOCK j = 1 :=
    (fld_setFld_disjoint _ _ _ _ _ _ (by decide) (by decide)).trans (fld_setFld_self _ _ _ _ _ (by decide))
  have hkeep {g : Fld} (hg : g = F.TXF_CHAIN_STAT_LOCK ∨ g = F.TXF_CHAIN_STAT_CAL_BUSY) (t : State) (a b c : Bool) (v : Nat) (ch : TxfChain) :
      (State.calRefresh (State.on (State.setTx (State.on (State.on t a fun s => s.setFld F.TXF_CHAIN_STAT_SYN_FAULT 0 j) b
        fun s => (s.setFld F.TXF_CHAIN_STAT_CAL_TEMP v j).bump F.TXF_CNT_CAL_COUNT 1 j) j ch) c
          fun s => s.setFld F.TXF_CHAIN_STAT_TX_STATE 2 j) j).fld g j = t.fld g j := by
    rw [calRefresh_fld _ _ _ _ ?far, on_fld _ ?state, setTx_fld, on_fld _ ?stored, on_fld _ ?fault]
    case far => obtain rfl | rfl := hg <;> exact .inr (.inl (by decide))
    case state => obtain rfl | rfl := hg <;> exact fld_setFld_disjoint _ _ _ _ _ _ (by decide) (by decide)
    case fault => obtain rfl | rfl := hg <;> exact fld_setFld_disjoint _ _ _ _ _ _ (by decide) (by decide)
    case stored =>
      obtain rfl | rfl := hg <;>
        exact (fld_bump_id _ _ _ _ _ _ (by decide)).trans (fld_setFld_disjoint _ _ _ _ _ _ (by decide) (by decide))
  refine ⟨_, rfl, flag_of_fld_eq_one ((hkeep (.inl rfl) _ _ _ _ _ _).trans hlock), ?_, ?_⟩
  · rw [State.flag, hkeep (.inr rfl), hbusy]
    rfl
  · rw [calRefresh_tx, on_tx_of _ _ (setFld_tx _ _ _ _ _ _), tx_setTx]

theorem synFault_completes {s : State} {j at_ : Nat} (h : (s.tx j).failAt = some at_) : Completes (.synFault j) s fun t =>
    t.flag F.TXF_CHAIN_STAT_SYN_FAULT j = true ∧ t.flag F.TXF_EVT_SYN_FAULT j = true ∧ (t.tx j).lockAt = none := by
  rw [Completes, exec_synFault, execSynFault, h]
  refine ⟨_, rfl, flag_of_fld_eq_one ?_, flag_raise_self _ _ _ (by decide) rfl, ?_⟩
  · rw [fld_raise_id _ _ _ _ (by decide), fld_setFld_self _ _ _ _ _ (by decide)]
    rfl
  · rw [raise_tx, setFld_tx, setFld_tx, tx_setTx]

/-! ## Temperature calibrations (R71, R72) -/

/-- A planned commit point reads TX_ADJ and PA_LEAD of its chain, and no other register. -/
theorem planned_setFld (s : State) {f : Fld} (v i k j : Nat) (g : TxFrame) (hf : f.reg ∉ [RegId.CLP_TX_ADJ, .TXF_FEM_CTL]) :
    (s.setFld f v i k).planned j g = s.planned j g := by
  have hne (r : RegId) (hr : r ∈ [RegId.CLP_TX_ADJ, .TXF_FEM_CTL]) : r ≠ f.reg := fun e => hf (e ▸ hr)
  simp only [State.planned, State.due, State.paLead, State.sfld,
    fld_setFld_id s (f := f) (g := F.CLP_TX_ADJ_ADJ) v i k j 0 (hne _ (by decide)),
    fld_setFld_id s (f := f) (g := F.TXF_FEM_CTL_PA_LEAD) v i k j 0 (hne _ (by decide))]

theorem calFree_setFld (s : State) {f : Fld} (v i k j : Nat) (hf : f.reg ∉ [RegId.CLP_TX_ADJ, .TXF_FEM_CTL]) :
    (s.setFld f v i k).calFree j = s.calFree j := by
  have hplanned : (s.setFld f v i k).planned j = s.planned j := funext fun g => planned_setFld s v i k j g hf
  rw [State.calFree, hplanned]
  rfl

theorem calPostpone_calDue (s : State) (j : Nat) : (s.calPostpone j).fld F.TXF_CHAIN_STAT_CAL_DUE j = s.fld F.TXF_CHAIN_STAT_CAL_DUE j := by
  refine on_fld _ ?_
  rw [fld_bump_id _ _ _ _ _ _ (by decide), setTx_fld]

/-- A calibration that is due and finds a frame in its way counts as postponed. -/
theorem calPostpone_counts {s : State} {j : Nat} (hdue : s.flag F.TXF_CHAIN_STAT_CAL_DUE j = true) (hnone : (s.tx j).deferAt = none)
    (hfree : s.calFree j = false) : (s.calPostpone j).fld F.TXF_CNT_CAL_DEFER_COUNT j =
      min 0xFFFFFFFF (s.fld F.TXF_CNT_CAL_DEFER_COUNT j + 1) := by
  rw [State.calPostpone, hdue, hnone, hfree, Option.isNone_none, Bool.not_false, Bool.and_self, Bool.and_self, on_true,
    fld_bump_32 _ _ _ _ rfl rfl, setTx_fld]

theorem tempCalDue_completes {s : State} {dt j : Nat} {temp : Int} (hs : ((s.advance dt).sense temp).txState j = 2)
    (hen : ((s.advance dt).sense temp).flag F.TXF_SYN_CTL_TEMP_CAL_EN j = true)
    (hfar : 10 ≤ |temp - ((s.advance dt).sense temp).sfld F.TXF_CHAIN_STAT_CAL_TEMP j|)
    (hdue : ((s.advance dt).sense temp).flag F.TXF_CHAIN_STAT_CAL_DUE j = false) : Completes (.tempCalDue dt j temp) s fun t =>
      t.flag F.TXF_CHAIN_STAT_CAL_DUE j = true ∧ ((s.tx j).deferAt = none → ((s.advance dt).sense temp).calFree j = false →
        t.fld F.TXF_CNT_CAL_DEFER_COUNT j = min 0xFFFFFFFF (s.fld F.TXF_CNT_CAL_DEFER_COUNT j + 1)) := by
  rw [Completes, exec_tempCalDue, execTempCalDue]
  have hgo : ((s.after dt).sense temp).txState j = 2 ∧ ((s.after dt).sense temp).flag F.TXF_SYN_CTL_TEMP_CAL_EN j = true ∧
      decide (10 ≤ |temp - ((s.after dt).sense temp).sfld F.TXF_CHAIN_STAT_CAL_TEMP j|) = true ∧
        ((s.after dt).sense temp).flag F.TXF_CHAIN_STAT_CAL_DUE j = false := ⟨hs, hen, decide_eq_true hfar, hdue⟩
  have hset : (((s.after dt).sense temp).setFld F.TXF_CHAIN_STAT_CAL_DUE 1 j).fld F.TXF_CHAIN_STAT_CAL_DUE j = 1 :=
    fld_setFld_self _ _ _ _ _ (by decide)
  rw [if_pos hgo]
  refine ⟨_, rfl, flag_of_fld_eq_one ((calPostpone_calDue _ j).trans hset), fun hnone hfree => ?_⟩
  rw [calPostpone_counts (flag_of_fld_eq_one hset) (by rwa [setFld_tx, sense_tx, after_tx])
    ((calFree_setFld _ _ _ _ _ (by decide)).trans hfree), fld_setFld_id _ _ _ _ _ _ (by decide), sense_fld _ _ _ _ (.inl (by decide)),
    after_fld]

theorem tempCalStart_completes {s : State} {dt j : Nat} (hs : (s.advance dt).endCycle.txState j = 2)
    (hdue : (s.advance dt).endCycle.flag F.TXF_CHAIN_STAT_CAL_DUE j = true) (hfree : (s.advance dt).endCycle.calFree j = true) :
    Completes (.tempCalStart dt j) s fun t => t.flag F.TXF_CHAIN_STAT_CAL_BUSY j = true ∧ (t.tx j).lockAt = some (t.clp.now + 42000) := by
  have hgo : (s.after dt).endCycle.txState j = 2 ∧ (s.after dt).endCycle.flag F.TXF_CHAIN_STAT_CAL_DUE j = true ∧
      (s.after dt).endCycle.calFree j = true := ⟨hs, hdue, hfree⟩
  rw [Completes, exec_tempCalStart, execTempCalStart, if_pos hgo]
  exact ⟨_, rfl, retune_calBusy _ j true, (retune_full _ j).2⟩

theorem calStarved_completes {s : State} {j at_ : Nat} (hdefer : (s.tx j).deferAt = some at_) (hs : (s.tx j).starved = false) :
    Completes (.calStarved j) s fun t => (t.tx j).starved = true := by
  rw [Completes, exec_calStarved, execCalStarved, hdefer, hs]
  refine ⟨_, rfl, ?_⟩
  rw [(siltPost_txAlike _ _ _ _).tx, raise_tx, tx_setTx]

/-! ## The transmit side starts and stops (R68, R74) -/

/-- The centre that waits is in force after a start's window change; with none waiting the stored one stays. -/
theorem startWindow_of_off {s : State} {j : Nat} (hs : s.txState j = 0) (hc : centreOk ((s.tx j).heldWin.getD (s.tx j).centre) = true) :
    ((s.startWindow j).tx j).centre = (s.tx j).heldWin.getD (s.tx j).centre ∧ ((s.startWindow j).tx j).heldWin = none ∧
      (s.startWindow j).txState j = 0 := by
  unfold State.startWindow
  cases hw : (s.tx j).heldWin with
  | none => exact ⟨rfl, hw, hs⟩
  | some khz =>
    rw [hw, Option.getD_some] at hc
    have hoff : ((s.setTx j { s.tx j with centre := khz, heldWin := none, faultClr := true }).calRefresh j).txState j = 0 :=
      (calRefresh_fld _ _ _ _ (.inr (.inl (by decide)))).trans hs
    simp only [State.applyWindow, hc, Bool.not_true, Bool.false_eq_true, if_false, hoff, bne_self_eq_false, on_false, calRefresh_tx, tx_setTx,
      Option.getD_some, and_self]

/-- The transmit side as a start leaves it before its lock sequence: Starting, at the centre that was to come into force. -/
def State.starting (s : State) (j : Nat) (temp : Int) : State :=
  let u := ((s.startWindow j).sense temp).setFld F.TXF_CHAIN_STAT_TX_STATE 1 j
  u.setTx j { u.tx j with idleAt := some u.clp.now }

theorem starting_txState (s : State) (j : Nat) (temp : Int) : (s.starting j temp).txState j = 1 := by
  rw [State.starting, State.txState, setTx_fld, fld_setFld_self _ _ _ _ _ (by decide)]
  rfl

theorem starting_centre (s : State) (j : Nat) (temp : Int) : ((s.starting j temp).tx j).centre = ((s.startWindow j).tx j).centre := by
  rw [State.starting, tx_setTx, setFld_tx, sense_tx]

theorem starting_heldWin (s : State) (j : Nat) (temp : Int) : ((s.starting j temp).tx j).heldWin = ((s.startWindow j).tx j).heldWin := by
  rw [State.starting, tx_setTx, setFld_tx, sense_tx]

theorem txWake_of_hold {s : State} {j : Nat} (temp : Int) (hs : s.txState j = 0) (hold : s.flag F.TXF_CHAIN_CTL_TX_HOLD j = true)
    (hc : centreOk ((s.startWindow j).tx j).centre = true) : ∃ full, exec (.txWake j temp) s = .next ((s.starting j temp).retune j full) := by
  rw [exec_txWake, execTxWake]
  simp only [hs, bne_self_eq_false, Bool.false_eq_true, if_false, hold, if_true, hc, Bool.not_true]
  exact ⟨_, rfl⟩

theorem txWake_completes {s : State} {j : Nat} (temp : Int) (hs : s.txState j = 0) (hold : s.flag F.TXF_CHAIN_CTL_TX_HOLD j = true)
    (hc : centreOk ((s.tx j).heldWin.getD (s.tx j).centre) = true) : Completes (.txWake j temp) s fun t =>
      (t.tx j).centre = (s.tx j).heldWin.getD (s.tx j).centre ∧ (t.tx j).heldWin = none ∧ t.txState j = 1 ∧
        t.flag F.TXF_CHAIN_STAT_CAL_BUSY j = true ∧ (t.tx j).failAt = some (t.clp.now + 100000) := by
  obtain ⟨hcentre, hheld, -⟩ := startWindow_of_off hs hc
  obtain ⟨full, hexec⟩ := txWake_of_hold temp hs hold (by rwa [hcentre])
  have halike := retune_synAlike (s.starting j temp) j full
  refine completes_of_exec hexec ⟨?_, ?_, ?_, retune_calBusy _ j full, retune_failAt _ j full⟩
  · rw [halike.centre, starting_centre, hcentre]
  · rw [halike.heldWin, starting_heldWin, hheld]
  · rw [halike.txState, starting_txState]

theorem txOffNow_effect (s : State) (j : Nat) : ((s.txOffNow j).tx j).idleAt = none ∧ (s.txOffNow j).txState j = 0 := by
  rw [State.txOffNow]
  refine ⟨by rw [tx_setTx], ?_⟩
  rw [State.txState, setTx_fld, fld_setFld_disjoint _ _ _ _ _ _ (by decide) (by decide),
    fld_setFld_disjoint _ _ _ _ _ _ (by decide) (by decide), fld_setFld_self _ _ _ _ _ (by decide)]
  rfl

theorem txOff_completes {s : State} {j at_ : Nat} (hat : (s.tx j).idleAt = some at_) (hs : s.txState j ≠ 0) (hi : s.txIdle j = true)
    (hi' : (s.advanceTo (at_ + s.fld F.TXF_CHAIN_CTL_IDLE_OFF j * 10000)).txIdle j = true) : Completes (.txOff j) s fun t =>
      (t.tx j).idleAt = none ∧ t.txState j = 0 := by
  rw [Completes, exec_txOff, execTxOff, hat]
  simp only [bne_iff_ne.mpr hs, hi, hi', and_self, if_true]
  exact ⟨_, rfl, txOffNow_effect _ j⟩

end Sys2Proof.Machine
end

section
/-! PROOFS. The carriers (R77, R78): a write of TXF_CAR_CFG_k as its two halves, the fields other than EN and then EN; and the statement of the
synthesiser and the carriers. -/

namespace Sys2Proof.Machine

/-! ## Words written to TXF_CAR_CFG_k -/

/-- The bits of a word that TXF_CAR_CFG_k takes. -/
abbrev carWord (d : Word) : Word := d &&& 0x00FF0F3F

theorem toNat_mod_two (v : Word) : v.toNat % 2 = (v.getLsbD 0).toNat := by
  rw [← BitVec.testBit_toNat, Nat.toNat_testBit, pow_zero, Nat.div_one]

/-- The fields other than EN follow bits 63:1. -/
theorem otherFields_congr {v w : Word} (h : ∀ k, 1 ≤ k → v.getLsbD k = w.getLsbD k) : otherFields v.toNat = otherFields w.toNat := by
  have hbits (x : Word) : otherFields x.toNat = bits x.toNat 1 63 := by
    rw [otherFields, bits, pow_one, Nat.mod_eq_of_lt]
    have := x.isLt
    omega
  rw [hbits, hbits]
  exact bits_congr fun k hk _ => by rw [BitVec.testBit_toNat, BitVec.testBit_toNat, h k hk]

theorem otherFields_carWord_or_one (d : Word) : otherFields (carWord (d ||| 1)).toNat = otherFields (carWord d).toNat :=
  otherFields_congr fun k hk => by
    rw [BitVec.getLsbD_and, BitVec.getLsbD_and, BitVec.getLsbD_or, getLsbD_one_of_pos hk, Bool.or_false]

theorem otherFields_carWord_and_not_one (d : Word) : otherFields (carWord (d &&& ~~~1)).toNat = otherFields (carWord d).toNat :=
  otherFields_congr fun k hk => by
    by_cases hlt : k < 64
    · rw [BitVec.getLsbD_and, BitVec.getLsbD_and, BitVec.getLsbD_and, BitVec.getLsbD_not, getLsbD_one_of_pos hk, decide_eq_true hlt,
        Bool.not_false, Bool.and_true, Bool.and_true]
    · rw [BitVec.getLsbD_of_ge _ _ (not_lt.mp hlt), BitVec.getLsbD_of_ge _ _ (not_lt.mp hlt)]

theorem carWord_or_one_odd (d : Word) : (carWord (d ||| 1)).toNat % 2 = 1 := by
  rw [toNat_mod_two, BitVec.getLsbD_and, BitVec.getLsbD_or, show (1 : Word).getLsbD 0 = true from rfl, Bool.or_true]
  rfl

theorem carWord_and_not_one_even (d : Word) : (carWord (d &&& ~~~1)).toNat % 2 = 0 := by
  rw [toNat_mod_two, BitVec.getLsbD_and, BitVec.getLsbD_and, show (~~~1 : Word).getLsbD 0 = false from rfl, Bool.and_false]
  rfl

/-! ## The enable checks and the registers they read (R77) -/

theorem State.SameRegs.carCheck {s t : State} (h : s.SameRegs t) (j k : Nat) : s.carCheck j k = t.carCheck j k := by
  have hspan (m : Nat) : s.carSpanOk j k m = t.carSpanOk j k m := by rw [State.carSpanOk, State.carSpanOk, h.sfld, h.phyMinBw]
  simp only [State.carCheck, h.fld, h.phyValid, hspan]

/-! ## A write of TXF_CAR_CFG_k (R77, R78) -/

theorem carOpen_en {s : State} {j k : Nat} (h : s.carOpen j k = true) : s.flag F.TXF_CAR_CFG_EN j k = false := by
  rw [State.carOpen, Bool.and_eq_true, Bool.not_eq_true'] at h
  exact h.1

theorem carCfg_even_of_not_en {s : State} {j k : Nat} (h : s.flag F.TXF_CAR_CFG_EN j k = false) :
    (s.reg .TXF_CAR_CFG j k).toNat % 2 = 0 := by
  have hb : bits (s.reg .TXF_CAR_CFG j k).toNat 0 1 ≠ 1 := beq_eq_false_iff_ne.mp h
  rw [bits] at hb
  omega

/-- An even word of TXF_CAR_CFG_k leaves EN 0. -/
theorem flag_carEn_of_even (s : State) (j k v : Nat) : (s.setReg .TXF_CAR_CFG j k (BitVec.ofNat 64 (2 * v))).flag F.TXF_CAR_CFG_EN j k = false := by
  have hb : bits (BitVec.ofNat 64 (2 * v)).toNat 0 1 ≠ 1 := by
    rw [bits, BitVec.toNat_ofNat]
    omega
  exact beq_eq_false_iff_ne.mpr ((fld_setReg_self s F.TXF_CAR_CFG_EN j k _).trans_ne hb)

/-- The fields other than EN as a write of TXF_CAR_CFG_k leaves them on a carrier that takes them. -/
abbrev State.carTaking (s : State) (j k : Nat) (d : Word) : State :=
  s.setReg .TXF_CAR_CFG j k (BitVec.ofNat 64 (2 * otherFields (carWord d).toNat))

/-- An open carrier takes the fields other than EN; EN set then enables it. -/
theorem carCfgWrite_of_open {s : State} {j k : Nat} (ho : s.carOpen j k = true) (d : Word) : ∃ u : State,
    u.SameRegs (s.carTaking j k d) ∧ u.txf = s.txf ∧ u.clp = s.clp ∧
      s.carCfgWrite j k d = if (carWord d).toNat % 2 = 1 then u.carEnable j k else u := by
  have hen := carOpen_en ho
  have heven := carCfg_even_of_not_en hen
  by_cases hsame : otherFields (s.reg .TXF_CAR_CFG j k).toNat = otherFields (carWord d).toNat
  · refine ⟨s, fun id i n => ?same, rfl, rfl, ?written⟩
    case same =>
      by_cases hk : id = .TXF_CAR_CFG ∧ i = j ∧ n = k
      · obtain ⟨rfl, rfl, rfl⟩ := hk
        rw [reg_setReg_self, ← hsame, otherFields, Nat.mul_div_cancel' (Nat.dvd_of_mod_eq_zero heven), BitVec.ofNat_toNat, BitVec.setWidth_eq]
      · rw [reg_setReg_ne _ _ hk]
    case written =>
      by_cases hone : (carWord d).toNat % 2 = 1
      · simp only [State.carCfgWrite, hsame, hen, hone, beq_self_eq_true, if_true]
      · simp only [State.carCfgWrite, hsame, hen, hone, beq_false_of_ne, ne_eq, not_false_eq_true, if_true, if_false]
  · refine ⟨s.carTaking j k d, fun _ _ _ => rfl, rfl, rfl, ?_⟩
    by_cases hone : (carWord d).toNat % 2 = 1
    · simp only [State.carCfgWrite, hsame, hen, ho, heven, hone, beq_self_eq_true, if_true, if_false, Nat.add_zero]
    · simp only [State.carCfgWrite, hsame, hen, ho, heven, hone, beq_false_of_ne, ne_eq, not_false_eq_true, if_true, if_false, Nat.add_zero]

/-! ## EN set (R77, R125) -/

/-- A frame that neither passed its commit point nor came in this cycle is not judged again. -/
theorem recheckOne_of_old {s : State} {f : TxFrame} (j : Nat) (hc : s.justCommitted f = false) (ht : f.taken ≠ s.clp.now) :
    s.recheckOne j f = s.fresh.2 := by
  have hc' : s.fresh.2.justCommitted f = false := hc
  have ht' : ¬(f.stage = .held ∧ f.taken = s.fresh.2.clp.now) := fun h => ht h.2
  simp only [State.recheckOne, hc', Bool.false_eq_true, if_false, if_neg ht']

/-- With no check made in this cycle a recheck draws free values alone. -/
theorem recheck_of_old {s : State} (h : ∀ i, ∀ f ∈ (s.tx i).frames, s.justCommitted f = false ∧ f.taken ≠ s.clp.now) :
    ∃ draw, s.recheck = { s with draw := draw } := by
  refine List.foldlRecOn (motive := fun t : State => ∃ draw, t = { s with draw := draw }) _ _ ⟨_, rfl⟩ ?_
  rintro _ ⟨_, rfl⟩ i _
  refine List.foldlRecOn (motive := fun t : State => ∃ draw, t = { s with draw := draw }) _ _ ⟨_, rfl⟩ ?_
  rintro _ ⟨draw, rfl⟩ f hf
  obtain ⟨hc, ht⟩ := h i f hf
  exact ⟨_, recheckOne_of_old (s := { s with draw := draw }) i hc ht⟩

theorem carEnable_accepted {s : State} {j k : Nat} (h : s.carCheck j k = 0) : ∃ v : State, s.carEnable j k = v.recheck ∧
    v.flag F.TXF_CAR_CFG_EN j k = true ∧ v.fld F.TXF_CAR_STAT_REFUSE j k = 0 ∧ v.txf = s.txf ∧ v.clp = s.clp := by
  refine ⟨(s.setFld F.TXF_CAR_STAT_REFUSE 0 j k).setFld F.TXF_CAR_CFG_EN 1 j k, ?_, flag_of_fld_eq_one ?_, ?_, rfl, rfl⟩
  · simp only [State.carEnable, h, if_true]
  · exact fld_setFld_self _ _ _ _ _ (by decide)
  · rw [fld_setFld_id _ _ _ _ _ _ (by decide), fld_setFld_self _ _ _ _ _ (by decide), Nat.zero_mod]

theorem carEnable_refused {s : State} {j k : Nat} (h : s.carCheck j k ≠ 0) :
    (s.carEnable j k).flag F.TXF_CAR_CFG_EN j k = s.flag F.TXF_CAR_CFG_EN j k ∧ (s.carEnable j k).flag F.TXF_EVT_CAR_REFUSED j = true := by
  rw [State.carEnable, if_neg h]
  refine ⟨?_, flag_raise_self _ _ _ (by decide) rfl⟩
  rw [State.flag, fld_raise_id _ _ _ _ (by decide), fld_setFld_id _ _ _ _ _ _ (by decide), State.flag]

/-! ## The commands -/

theorem exec_carrierEnable (j k : Nat) (d : Word) (s : State) :
    exec (.carrierEnable j k d) s = .next (s.powered fun s => s.carCfgWrite j k (d ||| 1)) := rfl

theorem exec_carrierConfigWrite_cfg (j k : Nat) (d : Word) (s : State) : exec (.carrierConfigWrite false j k d) s =
    .next (s.powered fun s => s.carCfgWrite j k (if s.flag F.TXF_CAR_CFG_EN j k then d else d &&& ~~~1)) := rfl

theorem exec_carrierConfigWrite_freq (j k : Nat) (d : Word) (s : State) :
    exec (.carrierConfigWrite true j k d) s = .next (s.powered fun s => s.carFreqWrite j k d) := rfl

section
variable {s : State} {j k : Nat} (d : Word)

/-- CARRIER_ENABLE of an open carrier: the other fields are taken, then EN is judged. -/
theorem carCfgWrite_enables (ho : s.carOpen j k = true) : ∃ u : State, u.SameRegs (s.carTaking j k d) ∧ u.txf = s.txf ∧ u.clp = s.clp ∧
    s.carCfgWrite j k (d ||| 1) = u.carEnable j k := by
  obtain ⟨u, hu, htxf, hclp, hw⟩ := carCfgWrite_of_open ho (d ||| 1)
  rw [if_pos (carWord_or_one_odd d)] at hw
  rw [State.carTaking, otherFields_carWord_or_one] at hu
  exact ⟨u, hu, htxf, hclp, hw⟩

theorem carrierEnable_completes (ho : s.carOpen j k = true) (hc : (s.carTaking j k d).carCheck j k = 0) (hr : s.released = true) :
    Completes (.carrierEnable j k d) s fun t => ∃ v : State, t = v.recheck ∧ v.flag F.TXF_CAR_CFG_EN j k = true ∧
      v.fld F.TXF_CAR_STAT_REFUSE j k = 0 ∧
        ((∀ i, ∀ f ∈ (s.tx i).frames, s.justCommitted f = false ∧ f.taken ≠ s.clp.now) → t.regs = v.regs) := by
  refine completes_of_powered hr (exec_carrierEnable j k d s) ?_
  obtain ⟨u, hu, hutxf, huclp, hw⟩ := carCfgWrite_enables d ho
  obtain ⟨v, heq, hen, href, hvtxf, hvclp⟩ := carEnable_accepted ((hu.carCheck j k).trans hc)
  rw [hw, heq]
  refine ⟨v, rfl, hen, href, fun hold => ?_⟩
  have hold' : ∀ i, ∀ f ∈ (v.tx i).frames, v.justCommitted f = false ∧ f.taken ≠ v.clp.now := by
    intro i f hf
    rw [tx_congr (hvtxf.trans hutxf)] at hf
    rw [State.justCommitted, hvclp, huclp]
    exact hold i f hf
  obtain ⟨_, hsame⟩ := recheck_of_old hold'
  rw [hsame]

theorem carrierEnable_refused_completes (ho : s.carOpen j k = true) (hc : (s.carTaking j k d).carCheck j k ≠ 0) (hr : s.released = true) :
    Completes (.carrierEnable j k d) s fun t => t.flag F.TXF_CAR_CFG_EN j k = false ∧ t.flag F.TXF_EVT_CAR_REFUSED j = true := by
  refine completes_of_powered hr (exec_carrierEnable j k d s) ?_
  obtain ⟨u, hu, -, -, hw⟩ := carCfgWrite_enables d ho
  obtain ⟨hen, hevt⟩ := carEnable_refused ((hu.carCheck j k).trans_ne hc)
  rw [hw, hen, hu.flag]
  exact ⟨flag_carEn_of_even _ _ _ _, hevt⟩

theorem carrierConfigWrite_cfg_completes (ho : s.carOpen j k = true) (hr : s.released = true) :
    Completes (.carrierConfigWrite false j k d) s fun t =>
      t.reg .TXF_CAR_CFG j k = BitVec.ofNat 64 (2 * otherFields (carWord d).toNat) := by
  refine completes_of_powered hr (exec_carrierConfigWrite_cfg j k d s) ?_
  obtain ⟨u, hu, -, -, hw⟩ := carCfgWrite_of_open ho (d &&& ~~~1)
  rw [carOpen_en ho, if_neg Bool.false_ne_true, hw, if_neg (by rw [carWord_and_not_one_even]; decide), hu, reg_setReg_self,
    otherFields_carWord_and_not_one]

theorem carrierConfigWrite_freq_completes (ho : s.carOpen j k = true) (hr : s.released = true) :
    Completes (.carrierConfigWrite true j k d) s fun t => t.fld F.TXF_CAR_FREQ_OFFSET_HZ j k = d.toNat % 2 ^ 27 := by
  refine completes_of_powered hr (exec_carrierConfigWrite_freq j k d s) ?_
  rw [State.carFreqWrite, if_pos ho]
  exact fld_setReg_masked s F.TXF_CAR_FREQ_OFFSET_HZ j k d _ rfl (by decide)

theorem carrierConfigWrite_held_completes (ho : s.carOpen j k = false) (hr : s.released = true) :
    Completes (.carrierConfigWrite true j k d) s fun t => t = s.raise F.TXF_EVT_CFG_HELD j := by
  refine completes_of_powered hr (exec_carrierConfigWrite_freq j k d s) ?_
  rw [State.carFreqWrite, ho, if_neg Bool.false_ne_true]

end

/-- Settles O7, each clause by the lemma of its command. -/
theorem synthesiserAndCarriers : Obligations.SynthesiserAndCarriers :=
  ⟨⟨fun _ _ d hs hrad hr => synWindowWrite_completes_radiating d hs hrad hr,
      fun _ _ d hs hr => synWindowWrite_completes_off d hs hr,
      fun _ _ e hrad hs hr => cal_completes e hrad hs hr,
      fun _ _ e hrad hr => cal_completes_radiating e hrad hr,
      fun _ _ _ temp h => synLock_completes temp h,
      fun _ _ _ h => synFault_completes h,
      fun _ _ _ _ hs hen hfar hdue => tempCalDue_completes hs hen hfar hdue,
      fun _ _ _ hs hdue hfree => tempCalStart_completes hs hdue hfree,
      fun _ _ _ hdefer hs => calStarved_completes hdefer hs,
      fun _ _ temp hs hold hc => txWake_completes temp hs hold hc,
      fun _ _ _ hat hs hi hi' => txOff_completes hat hs hi hi'⟩,
    fun _ _ _ d ho hc hr => carrierEnable_completes d ho hc hr,
    fun _ _ _ d ho hc hr => carrierEnable_refused_completes d ho hc hr,
    fun _ _ _ d ho hr => carrierConfigWrite_cfg_completes d ho hr,
    fun _ _ _ d ho hr => carrierConfigWrite_freq_completes d ho hr,
    fun _ _ _ d ho hr => carrierConfigWrite_held_completes d ho hr⟩

end Sys2Proof.Machine
end

section
/-! PROOFS. The charter stage (R83, R372) and coexistence (R97–R100): a descriptor taken or the stage stalled, a request raised, a grant sampled,
a grant withdrawn. -/

namespace Sys2Proof.Machine

/-! ## The charter stage (R83, R372, R428) -/

theorem exec_txDescriptor (dt : Nat) (src : Option Nat) (s : State) : exec (.txDescriptor dt src) s = execTxDescriptor dt src s := rfl
theorem exec_charterStageResume (src : Option Nat) (s : State) : exec (.charterStageResume src) s = execCharterStageResume src s := rfl
theorem exec_coexReqAssert (j id : Nat) (s : State) : exec (.coexReqAssert j id) s = execCoexReqAssert j id s := rfl
theorem exec_grantSample (j id : Nat) (pin : PinLevel) (s : State) : exec (.grantSample j id pin) s = execGrantSample j id pin s := rfl
theorem exec_grantWithdrawal (pin : Change) (g : Nat) (s : State) : exec (.grantWithdrawal pin g) s = execGrantWithdrawal pin g s := rfl

/-- With a descriptor waiting and no power-fail sequence, the launch units decide. -/
theorem txDescriptor_of_waiting {s : State} {dt : Nat} {src : Option Nat} (hdesc : (s.advance dt).hasDesc src = true)
    (hphase : (s.advance dt).pwr.phase ≠ .failing) : exec (.txDescriptor dt src) s =
      .next (if (s.advance dt).launchFull then { s.advance dt with cht := { (s.advance dt).cht with stalled := true } }
        else ({ s.advance dt with cht := { (s.advance dt).cht with stalled := false } }).takeFirst) := by
  have hgo : (!(s.advance dt).hasDesc src || (s.advance dt).pwr.phase == .failing) = false := by
    rw [hdesc, beq_false_of_ne hphase]
    rfl
  rw [exec_txDescriptor, execTxDescriptor]
  simp only [State.after, hgo, Bool.false_eq_true, if_false]
  exact (apply_ite _ _ _ _).symm

theorem charterStageResume_completes {s : State} {src : Option Nat} (hst : s.cht.stalled = true) (hdesc : s.hasDesc src = true)
    (hfull : s.launchFull = false) (hphase : s.pwr.phase ≠ .failing) : Completes (.charterStageResume src) s fun t =>
      t = ({ s with cht := { s.cht with stalled := false } }).takeFirst := by
  rw [Completes, exec_charterStageResume, execCharterStageResume, if_pos ⟨hst, hdesc, hfull, hphase⟩]
  exact ⟨_, rfl, rfl⟩

/-! ## Groups and their bits (R97) -/

theorem testBit_setBits_self (v lo x : Nat) : (setBits v lo 1 x).testBit lo = x.testBit 0 := by
  have h := testBit_bits (setBits v lo 1 x) lo 1 0
  rw [bits_setBits, Nat.testBit_mod_two_pow] at h
  simpa using h.symm

/-- A bit of a four-bit field of groups after a write of it. -/
theorem testBit_group (s : State) {f : Fld} (v : Nat) {g x : Nat} (hf : f.lo + f.w ≤ 64) (hg : g < f.w) :
    ((s.setFld f (setBits v g 1 x)).fld f).testBit g = x.testBit 0 := by
  rw [fld_setFld_self _ _ _ _ _ hf, Nat.testBit_mod_two_pow, decide_eq_true hg, Bool.true_and, testBit_setBits_self]

theorem coexGroup_lt {s : State} {j g : Nat} (h : s.coexGroup j = some g) : g < 4 := by
  rw [State.coexGroup, Option.ite_none_right_eq_some] at h
  exact Option.some.inj h.2 ▸ fld_lt s F.TXF_COEX_CTL_GROUP j 0

theorem coexReqAssert_completes {s : State} {j id g : Nat} {f : TxFrame} (hf : s.txFrame j id = some f) (hg : s.coexGroup j = some g)
    (hheld : f.stage = .held) (hreq : f.req = none) (hprio : f.desc.prio = false) (hpoint : s.samplePoint j g f = none) :
    Completes (.coexReqAssert j id) s fun t =>
      (t.fld F.TXF_COEX_STAT_REQ).testBit g = true ∧ ∃ h ∈ (t.tx j).frames, h.id = id ∧ h.req = some g := by
  rw [Completes, exec_coexReqAssert, execCoexReqAssert]
  simp only [hf, hg, if_pos (And.intro hheld hreq), hpoint, hprio, on_false]
  have hid : f.id = id := txFrame_id hf
  refine ⟨_, rfl, testBit_group _ _ (by decide) (coexGroup_lt hg), { f with req := some g }, ?_, hid, rfl⟩
  rw [setFld_tx]
  exact mem_putTx hf rfl hid

/-! ## The filtered grant input (R98, R100, R537) -/

/-- The level at which a sample reads a grant ball. -/
def pinSeen (pin : PinLevel) : Bool := if 33 ≤ pin.since then pin.level else pin.before

theorem grantSeen_eq (s : State) (g : Nat) (pin : PinLevel) : ∃ at_, s.grantSeen g pin = s.setGrant g (pinSeen pin) at_ := by
  unfold State.grantSeen pinSeen
  split <;> exact ⟨_, rfl⟩

section
variable (s : State) (g : Nat) (level : Bool) (at_ : Nat)

@[simp] theorem setGrant_clp : (s.setGrant g level at_).clp = s.clp := rfl
@[simp] theorem setGrant_tx (j : Nat) : (s.setGrant g level at_).tx j = s.tx j := rfl

theorem setGrant_reg {id : RegId} (h : id ≠ .TXF_COEX_STAT) (i k : Nat) : (s.setGrant g level at_).reg id i k = s.reg id i k :=
  reg_setReg_id _ _ _ _ _ _ h

theorem setGrant_fld {f : Fld} (h : f.reg ≠ .TXF_COEX_STAT) (i k : Nat) : (s.setGrant g level at_).fld f i k = s.fld f i k :=
  fld_of_reg (setGrant_reg s g level at_ h i k)

theorem setGrant_coexGroup (j : Nat) : (s.setGrant g level at_).coexGroup j = s.coexGroup j := by
  rw [State.coexGroup, State.flag, setGrant_fld _ _ _ _ (by decide), setGrant_fld _ _ _ _ (by decide), State.coexGroup, State.flag]

/-- GNT follows the level as GNT_POL reads it. -/
theorem grantActive_setGrant (hg : g < 4) : (s.setGrant g level at_).grantActive g = (level != s.flag F.TXF_COEX_GRP_GNT_POL g) := by
  rw [State.grantActive, State.setGrant, testBit_group _ _ (by decide) hg]
  cases level != s.flag F.TXF_COEX_GRP_GNT_POL g <;> rfl

end

/-! ## The sample (R98, R99) -/

theorem planned_of_no_launch (s : State) (j : Nat) {f : TxFrame} (h : f.launch = none) : s.planned j f = none := by
  rw [State.planned, State.due, h]
  rfl

/-- What makes a frame's sample fall at its commit point, now, with no other frame held (R98). -/
structure State.SampledNow (s : State) (j id g : Nat) (f : TxFrame) : Prop where
  frame : s.txFrame j id = some f
  group : s.coexGroup j = some g
  launch : f.launch = none
  ready : s.heldReady f = true
  locked : s.locked j = true
  free : s.carTaken j f = false
  alone : s.heldFrames j = [f]
  long : s.sampleShort j g = false

/-- Such a frame is sampled once the grant input reads as its ball stands. -/
theorem grantSample_now {s : State} {j id g : Nat} {f : TxFrame} (h : s.SampledNow j id g f) (pin : PinLevel) :
    ∃ at_, exec (.grantSample j id pin) s = .next ((s.setGrant g (pinSeen pin) at_).sampled j g f) := by
  obtain ⟨at_, hseen⟩ := grantSeen_eq s g pin
  have hplan (t : State) : t.planned j f = none := planned_of_no_launch t j h.launch
  have halone : (s.setGrant g (pinSeen pin) at_).heldFrames j = [f] := h.alone
  have hready : (s.setGrant g (pinSeen pin) at_).heldReady f = true := h.ready
  have hfree : (s.setGrant g (pinSeen pin) at_).carTaken j f = false := h.free
  refine ⟨at_, ?_⟩
  rw [exec_grantSample, execGrantSample]
  simp only [h.frame, h.group, hplan, Bool.false_eq_true, false_and, and_false, if_false, h.ready, h.locked, h.free, and_self, if_true, h.long,
    on_false, hseen, halone, List.foldl_cons, List.foldl_nil, hready, hfree, Bool.not_false, Bool.and_self, Option.getD_none, Nat.zero_le,
    decide_true]

theorem grantSample_active_completes {s : State} {j id g : Nat} {f : TxFrame} {pin : PinLevel} (h : s.SampledNow j id g f)
    (hact : (pinSeen pin != s.flag F.TXF_COEX_GRP_GNT_POL g) = true) : Completes (.grantSample j id pin) s fun t =>
      (t.tx j).frames.any (fun h => h.id == id && h.granted == some t.clp.now) = true := by
  obtain ⟨at_, hexec⟩ := grantSample_now h pin
  have hactive : (s.setGrant g (pinSeen pin) at_).grantActive g = true :=
    (grantActive_setGrant s g (pinSeen pin) at_ (coexGroup_lt h.group)).trans hact
  rw [State.sampled, if_pos hactive] at hexec
  have hid : f.id = id := txFrame_id h.frame
  refine completes_of_exec hexec (List.any_eq_true.mpr ⟨_, mem_putTx h.frame (setGrant_tx s g _ _ j) hid, ?_⟩)
  rw [Bool.and_eq_true, beq_iff_eq, beq_iff_eq]
  exact ⟨hid, rfl⟩

/-- A frame that completes TX_NO_GRANT sets NO_GRANT and counts (R99). -/
theorem completeTx_noGrant (s : State) (j : Nat) (f : TxFrame) : (s.completeTx j f .txNoGrant).flag F.TXF_EVT_NO_GRANT j = true ∧
    (s.completeTx j f .txNoGrant).fld F.TXF_CNT_NO_GRANT_COUNT j = min 0xFFFFFFFF (s.fld F.TXF_CNT_NO_GRANT_COUNT j + 1) := by
  have hkept {g : Fld} (hg : g.reg ∈ blockRegs 3) : (s.completeTx j f .txNoGrant).fld g j = ((s.leaveUnit j f).countTx j .txNoGrant).fld g j := by
    refine fld_of_reg ?_
    rw [completeTx_eq, idleTouch_reg]
    exact (deliverTx_txAlike _ _ _ _ _ _ _ _).reg _ hg _ _
  refine ⟨flag_of_fld_eq_one ((hkept (by decide)).trans (fld_raise_self _ _ _ (by decide) rfl)), (hkept (by decide)).trans ?_⟩
  rw [State.countTx, fld_raise_id _ _ _ _ (by decide), fld_bump_32 _ _ _ _ rfl rfl,
    fld_of_reg (leaveUnit_reg s j f (id := F.TXF_CNT_NO_GRANT_COUNT.reg) (by decide) (by decide) j 0)]

theorem grantSample_inactive_completes {s : State} {j id g : Nat} {f : TxFrame} {pin : PinLevel} (h : s.SampledNow j id g f)
    (hact : (pinSeen pin != s.flag F.TXF_COEX_GRP_GNT_POL g) = false) : Completes (.grantSample j id pin) s fun t =>
      ∃ v : State, t = v.completeTx j f .txNoGrant ∧ v.clp.now = t.clp.now ∧ t.flag F.TXF_EVT_NO_GRANT j = true ∧
        t.fld F.TXF_CNT_NO_GRANT_COUNT j = min 0xFFFFFFFF (s.fld F.TXF_CNT_NO_GRANT_COUNT j + 1) ∧
          (t.tx j).frames = (s.tx j).frames.filter (fun h => h.id != f.id) ∧ (t.tx j).pa = (s.tx j).pa ∧
            (t.tx j).txsw = (s.tx j).txsw ∧ (t.tx j).lnaFree = (s.tx j).lnaFree ∧ (t.tx j).lnaHold = (s.tx j).lnaHold := by
  obtain ⟨at_, hexec⟩ := grantSample_now h pin
  have hactive : ¬(s.setGrant g (pinSeen pin) at_).grantActive g = true := by
    rw [grantActive_setGrant s g (pinSeen pin) at_ (coexGroup_lt h.group), hact]
    exact Bool.false_ne_true
  rw [State.sampled, if_neg hactive] at hexec
  obtain ⟨hevt, hcount⟩ := completeTx_noGrant (s.setGrant g (pinSeen pin) at_) j f
  obtain ⟨hold, idle, htx⟩ := completeTx_tx (s.setGrant g (pinSeen pin) at_) j f .txNoGrant 0 true
  rw [setGrant_fld _ _ _ _ (by decide)] at hcount
  rw [setGrant_tx] at htx
  refine completes_of_exec hexec ⟨_, rfl, by rw [completeTx_clp], hevt, hcount, ?_⟩
  rw [htx]
  exact ⟨rfl, rfl, rfl, rfl, rfl⟩

/-! ## Withdrawal (R100) -/

/-- No frame of the chains of group `g` has passed its commit point. -/
def State.GroupHeld (s : State) (g : Nat) : Prop := ∀ j f, s.coexGroup j = some g → f ∈ (s.tx j).frames → f.stage = .held

theorem abortLive_of_held {s : State} {j : Nat} (st : Status) (h : ∀ f ∈ (s.tx j).frames, f.stage = .held) : s.abortLive j st = s := by
  refine List.foldlRecOn (motive := fun t => t = s) _ _ rfl ?_
  rintro _ rfl f hf
  simp only [h f hf, reduceCtorEq, if_false, TxStage.live, Bool.false_eq_true]

/-- A held frame is to be sampled afresh. -/
def TxFrame.unsampled (f : TxFrame) : TxFrame := if f.stage = .held then { f with granted := none } else f

theorem TxFrame.unsampled_granted {f : TxFrame} (h : f.stage = .held) : f.unsampled.granted = none := by rw [unsampled, if_pos h]

theorem TxFrame.unsampled_stage (f : TxFrame) : f.unsampled.stage = f.stage := by
  unfold unsampled
  split <;> rfl

/-- One chain's turn of a withdrawal. -/
def State.withdrawOne (s : State) (g j : Nat) : State :=
  if s.coexGroup j = some g then
    let s := (s.rfStartDue j).abortLive j .txGrantLost
    s.setFrames j ((s.tx j).frames.map TxFrame.unsampled)
  else s

theorem withdrawn_eq (s : State) (g : Nat) : s.withdrawn g = (List.range 16).foldl (fun s j => s.withdrawOne g j)
    { s with txf := { s.txf with gntFrom := SMap.del s.txf.gntFrom g } } := rfl

/-- With every frame held, a chain's turn takes back the samples alone. -/
theorem withdrawOne_of_held {s : State} {g j : Nat} (h : s.GroupHeld g) (hj : s.coexGroup j = some g) :
    s.withdrawOne g j = s.setFrames j ((s.tx j).frames.map TxFrame.unsampled) := by
  have hheld := fun f => h j f hj
  have hstart : s.rfStartDue j = s := rfStartDue_of_idle fun f hf hp => by
    rw [hheld f hf] at hp
    cases hp
  simp only [State.withdrawOne, hj, if_true, hstart, abortLive_of_held _ hheld]

/-- The frames of chain `j` are to be sampled afresh. -/
def State.Unsampled (s : State) (j : Nat) : Prop := ∀ f ∈ (s.tx j).frames, f.granted = none

/-- What one chain's turn keeps, and what it does, with every frame of the group held. -/
theorem withdrawOne_effect {s : State} {g : Nat} (h : s.GroupHeld g) (i : Nat) :
    (s.withdrawOne g i).clp = s.clp ∧ (s.withdrawOne g i).regs = s.regs ∧ (s.withdrawOne g i).txf.gntFrom = s.txf.gntFrom ∧
      (s.withdrawOne g i).GroupHeld g ∧
        ∀ j, s.coexGroup j = some g → j = i ∨ s.Unsampled j → (s.withdrawOne g i).Unsampled j := by
  by_cases hi : s.coexGroup i = some g
  · rw [withdrawOne_of_held h hi]
    refine ⟨rfl, rfl, rfl, fun j f hj hf => ?_, fun j hj hor f hf => ?_⟩
    · by_cases hji : j = i
      · subst hji
        rw [setFrames_tx] at hf
        obtain ⟨f', hf', rfl⟩ := List.mem_map.mp hf
        rw [TxFrame.unsampled_stage]
        exact h j f' hi hf'
      · rw [State.setFrames, tx_setTx_ne _ _ hji] at hf
        exact h j f hj hf
    · by_cases hji : j = i
      · subst hji
        rw [setFrames_tx] at hf
        obtain ⟨f', hf', rfl⟩ := List.mem_map.mp hf
        exact TxFrame.unsampled_granted (h j f' hi hf')
      · rw [State.setFrames, tx_setTx_ne _ _ hji] at hf
        exact hor.resolve_left hji f hf
  · rw [State.withdrawOne, if_neg hi]
    exact ⟨rfl, rfl, rfl, h, fun j hj hor => hor.resolve_left fun e => hi (e ▸ hj)⟩

theorem coexGroup_congr {s t : State} (h : s.regs = t.regs) (j : Nat) : s.coexGroup j = t.coexGroup j := by
  rw [State.coexGroup, flag_congr h, fld_congr h, State.coexGroup]

theorem foldl_withdrawOne {g : Nat} (l : List Nat) (s : State) (h : s.GroupHeld g) :
    (l.foldl (fun s j => s.withdrawOne g j) s).clp = s.clp ∧ (l.foldl (fun s j => s.withdrawOne g j) s).regs = s.regs ∧
      (l.foldl (fun s j => s.withdrawOne g j) s).txf.gntFrom = s.txf.gntFrom ∧
        ∀ j, s.coexGroup j = some g → j ∈ l ∨ s.Unsampled j → (l.foldl (fun s j => s.withdrawOne g j) s).Unsampled j := by
  induction l generalizing s with
  | nil => exact ⟨rfl, rfl, rfl, fun j _ hor => hor.resolve_left List.not_mem_nil⟩
  | cons i l ih =>
    obtain ⟨hclp, hregs, hgnt, hheld, hone⟩ := withdrawOne_effect h i
    obtain ⟨hclp', hregs', hgnt', hall⟩ := ih (s.withdrawOne g i) hheld
    refine ⟨hclp'.trans hclp, hregs'.trans hregs, hgnt'.trans hgnt, fun j hj hor => hall j ?_ ?_⟩
    · rwa [coexGroup_congr hregs]
    · rw [List.mem_cons] at hor
      obtain (rfl | hmem) | huns := hor
      · exact .inr (hone j hj (.inl rfl))
      · exact .inl hmem
      · exact .inr (hone j hj (.inr huns))

/-- A withdrawal over held frames takes no time and moves no register; each of them is sampled afresh. -/
theorem withdrawn_of_held {s : State} {g : Nat} (h : s.GroupHeld g) : (s.withdrawn g).clp = s.clp ∧ (s.withdrawn g).regs = s.regs ∧
    SMap.find? (s.withdrawn g).txf.gntFrom g = none ∧ ∀ j, j < 16 → s.coexGroup j = some g → (s.withdrawn g).Unsampled j := by
  obtain ⟨hclp, hregs, hgnt, hall⟩ :=
    foldl_withdrawOne (List.range 16) { s with txf := { s.txf with gntFrom := SMap.del s.txf.gntFrom g } } h
  rw [withdrawn_eq]
  exact ⟨hclp, hregs, by rw [hgnt, SMap.find?_del_self], fun j hlt hj => hall j hj (.inl (List.mem_range.mpr hlt))⟩

/-! ## GRANT_WITHDRAWAL (R100, R537) -/

theorem after_flag (s : State) (dt : Nat) (f : Fld) (i j : Nat) : (s.after dt).flag f i j = s.flag f i j := by
  rw [State.flag, after_fld, State.flag]

theorem after_grantActive (s : State) (dt g : Nat) : (s.after dt).grantActive g = s.grantActive g := by
  rw [State.grantActive, after_fld, State.grantActive]

theorem after_txf (s : State) (dt : Nat) : (s.after dt).txf = s.txf := advance_txf s dt

theorem filtered_of_long (s : State) {held : Nat} (h : 37 ≤ held) : s.filtered 28 37 held = (true, s) := by
  rw [State.filtered, if_neg (by omega), if_pos h]

theorem filtered_of_short (s : State) {held : Nat} (h : held ≤ 28) : s.filtered 28 37 held = (false, s) := by
  rw [State.filtered, if_pos h]

/-- The state in which a level that passes the filter has made a group's grant inactive. -/
abbrev State.grantLost (s : State) (pin : Change) (g : Nat) : State :=
  ((s.after pin.dt).after 33).setGrant g pin.on ((s.after pin.dt).after 33).clp.now

section
variable {s : State} {pin : Change} {g : Nat}

/-- A level that makes the grant inactive and passes the filter; the withdrawal is one event with it where GNT_HOLD is 0. -/
theorem grantWithdrawal_of_loss (hpin : pin.on = s.flag F.TXF_COEX_GRP_GNT_POL (g % 4)) (hact : s.grantActive (g % 4) = true)
    (hheld : 37 ≤ pin.held) : exec (.grantWithdrawal pin g) s = .next ((s.grantLost pin (g % 4)).on
      (1000 * s.fld F.TXF_COEX_GRP_GNT_HOLD (g % 4) == 0) fun s => s.withdrawn (g % 4)) := by
  rw [exec_grantWithdrawal, execGrantWithdrawal]
  have hoff : (pin.on != s.flag F.TXF_COEX_GRP_GNT_POL (g % 4)) = false := by rw [hpin, bne_self_eq_false]
  simp only [after_flag, after_grantActive, after_fld, hoff, hact, Bool.false_eq_true, if_false, filtered_of_long _ hheld, if_true,
    Bool.not_false, Bool.true_and]

theorem grantLost_now : (s.grantLost pin g).clp.now = s.clp.now + pin.dt + 33 := by
  rw [setGrant_clp, after_now, after_now]

theorem grantLost_inactive (hpin : pin.on = s.flag F.TXF_COEX_GRP_GNT_POL g) (hg : g < 4) : (s.grantLost pin g).grantActive g = false := by
  rw [grantActive_setGrant _ _ _ _ hg, after_flag, after_flag, hpin, bne_self_eq_false]

theorem grantLost_coexGroup (j : Nat) : (s.grantLost pin g).coexGroup j = s.coexGroup j := by
  exact (setGrant_coexGroup ..).trans ((coexGroup_congr (advance_regs _ _) j).trans (coexGroup_congr (advance_regs _ _) j))

theorem grantWithdrawal_at_once_completes (hpin : pin.on = s.flag F.TXF_COEX_GRP_GNT_POL (g % 4)) (hact : s.grantActive (g % 4) = true)
    (hlen : 37 ≤ pin.held) (hhold : s.fld F.TXF_COEX_GRP_GNT_HOLD (g % 4) = 0) (hheld : s.GroupHeld (g % 4)) :
    Completes (.grantWithdrawal pin g) s fun t => t.clp.now = s.clp.now + pin.dt + 33 ∧ t.grantActive (g % 4) = false ∧
      ∀ j f, j < 16 → s.coexGroup j = some (g % 4) → f ∈ (t.tx j).frames → f.granted = none := by
  have hheld' : (s.grantLost pin (g % 4)).GroupHeld (g % 4) := fun j f hj hf => by
    rw [grantLost_coexGroup] at hj
    rw [setGrant_tx, after_tx, after_tx] at hf
    exact hheld j f hj hf
  obtain ⟨hclp, hregs, -, hall⟩ := withdrawn_of_held hheld'
  have hexec := grantWithdrawal_of_loss hpin hact hlen
  rw [hhold, Nat.mul_zero, beq_self_eq_true, on_true] at hexec
  refine completes_of_exec hexec ⟨?_, ?_, fun j f hlt hj hf => hall j hlt (by rwa [grantLost_coexGroup]) f hf⟩
  · rw [hclp, grantLost_now]
  · rw [State.grantActive, fld_congr hregs]
    exact grantLost_inactive hpin (Nat.mod_lt _ (by decide))

theorem grantWithdrawal_held_completes (hpin : pin.on = s.flag F.TXF_COEX_GRP_GNT_POL (g % 4)) (hact : s.grantActive (g % 4) = true)
    (hlen : 37 ≤ pin.held) (hhold : s.fld F.TXF_COEX_GRP_GNT_HOLD (g % 4) ≠ 0) : Completes (.grantWithdrawal pin g) s fun t =>
      t.grantActive (g % 4) = false ∧ SMap.find? t.txf.gntFrom (g % 4) = some t.clp.now ∧ t.clp.now = s.clp.now + pin.dt + 33 ∧
        t.txf.chains = s.txf.chains := by
  have hexec := grantWithdrawal_of_loss hpin hact hlen
  rw [beq_false_of_ne (by omega), on_false] at hexec
  refine completes_of_exec hexec ⟨grantLost_inactive hpin (Nat.mod_lt _ (by decide)), ?_, grantLost_now, ?_⟩
  · have hwas : ((((s.after pin.dt).after 33).fld F.TXF_COEX_STAT_GNT).testBit (g % 4)) = true := by rwa [after_fld, after_fld]
    have hact' : (pin.on != ((s.after pin.dt).after 33).flag F.TXF_COEX_GRP_GNT_POL (g % 4)) = false := by
      rw [after_flag, after_flag, hpin, bne_self_eq_false]
    simp only [State.grantLost, State.setGrant, hact', Bool.false_eq_true, if_false, hwas, if_true, setFld_txf, setFld_clp, SMap.find?_put_self]
  · simp only [State.grantLost, State.setGrant, setFld_txf, after_txf]

theorem grantWithdrawal_after_hold_completes {at_ : Nat} (hpin : pin.on = s.flag F.TXF_COEX_GRP_GNT_POL (g % 4))
    (hact : s.grantActive (g % 4) = false) (hfrom : SMap.find? s.txf.gntFrom (g % 4) = some at_) (hheld : s.GroupHeld (g % 4)) :
    Completes (.grantWithdrawal pin g) s fun t =>
      t.clp.now = max (s.clp.now + pin.dt) (at_ + 1000 * s.fld F.TXF_COEX_GRP_GNT_HOLD (g % 4)) ∧
        SMap.find? t.txf.gntFrom (g % 4) = none ∧
        ∀ j f, j < 16 → s.coexGroup j = some (g % 4) → f ∈ (t.tx j).frames → f.granted = none := by
  have hgroup (d e j : Nat) : ((s.after d).advanceTo e).coexGroup j = s.coexGroup j :=
    (coexGroup_congr (advance_regs _ _) j).trans (coexGroup_congr (advance_regs _ _) j)
  have hheld' (d e : Nat) : ((s.after d).advanceTo e).GroupHeld (g % 4) := fun j f hj hf => by
    rw [hgroup] at hj
    rw [advanceTo_tx, after_tx] at hf
    exact hheld j f hj hf
  obtain ⟨hclp, -, hnone, hall⟩ := withdrawn_of_held
    (hheld' pin.dt (at_ + 1000 * s.fld F.TXF_COEX_GRP_GNT_HOLD (g % 4)))
  rw [Completes, exec_grantWithdrawal, execGrantWithdrawal]
  simp only [after_flag, after_grantActive, after_fld, after_txf, hpin, bne_self_eq_false, hact, if_true, hfrom, Bool.false_eq_true, if_false]
  refine ⟨_, rfl, ?_, hnone, fun j f hlt hj hf => hall j hlt (by rwa [hgroup]) f hf⟩
  rw [hclp, advanceTo_now, after_now]

theorem grantWithdrawal_rejected_completes (hact : (pin.on != s.flag F.TXF_COEX_GRP_GNT_POL (g % 4)) ≠ s.grantActive (g % 4))
    (hlen : pin.held ≤ 28) : Completes (.grantWithdrawal pin g) s fun t => t = s.after pin.dt := by
  rw [Completes, exec_grantWithdrawal, execGrantWithdrawal]
  simp only [after_flag, after_grantActive, if_neg hact, filtered_of_short _ hlen, Bool.false_eq_true, if_false]
  exact ⟨_, rfl, rfl⟩

end

/-- Settles O8, each clause by the lemma of its command. -/
theorem charterStageCommands : Obligations.CharterStageCommands :=
  ⟨⟨fun _ _ _ hdesc hphase hfull => ⟨_, txDescriptor_of_waiting hdesc hphase, if_pos hfull⟩,
      fun _ _ _ hdesc hphase hfull => ⟨_, txDescriptor_of_waiting hdesc hphase, if_neg (by rw [hfull]; exact Bool.false_ne_true)⟩,
      fun _ _ hst hdesc hfull hphase => charterStageResume_completes hst hdesc hfull hphase,
      fun _ _ _ _ _ hf hg hheld hreq hprio hpoint => coexReqAssert_completes hf hg hheld hreq hprio hpoint,
      fun _ _ _ _ _ _ hf hg hlaunch hready hlock hfree halone hact hlong =>
        grantSample_active_completes ⟨hf, hg, hlaunch, hready, hlock, hfree, halone, hlong⟩ hact,
      fun _ _ _ hpin hact hlen hhold hheld => grantWithdrawal_at_once_completes hpin hact hlen hhold hheld,
      fun _ _ _ hpin hact hlen hhold => grantWithdrawal_held_completes hpin hact hlen hhold,
      fun _ _ _ _ hpin hact hfrom hheld => grantWithdrawal_after_hold_completes hpin hact hfrom hheld,
      fun _ _ _ hact hlen => grantWithdrawal_rejected_completes hact hlen⟩,
    fun _ _ _ _ _ _ _ hf hg hlaunch hready hlock hfree halone hact hlong _ _ _ =>
      grantSample_inactive_completes ⟨hf, hg, hlaunch, hready, hlock, hfree, halone, hlong⟩ hact⟩

end Sys2Proof.Machine
end

section
/-! PROOFS. The life of a frame in its launch unit (R80, R84–R86, R89, R119, R122): commit point and lateness, the switch and amplifier pins,
RF start, last RF. -/

namespace Sys2Proof.Machine

theorem exec_commitPoint (j id : Nat) (s : State) : exec (.commitPoint j id) s = execCommitPoint j id s := rfl
theorem exec_txLate (j id : Nat) (s : State) : exec (.txLate j id) s = execTxLate j id s := rfl
theorem exec_txswAssert (j id : Nat) (s : State) : exec (.txswAssert j id) s = execTxswAssert j id s := rfl
theorem exec_paAssert (j id : Nat) (s : State) : exec (.paAssert j id) s = execPaAssert j id s := rfl
theorem exec_rfStart (j id : Nat) (s : State) : exec (.rfStart j id) s = execRfStart j id s := rfl
theorem exec_lastRf (j id : Nat) (s : State) : exec (.lastRf j id) s = execLastRf j id s := rfl

/-! ## A frame without a launch time (R84–R86) -/

theorem latest_of_no_launch (s : State) (j : Nat) {f : TxFrame} (h : f.launch = none) : s.latest j f = none := by
  rw [State.latest, State.due, h]
  rfl

theorem commitAt_of_no_launch (s before : State) (j : Nat) {f : TxFrame} (h : f.launch = none) : s.commitAt before j f = (s.fullNs, false) := by
  rw [State.commitAt, planned_of_no_launch before j h]

/-! ## The commit point (R80, R85, R115) -/

/-- What brings a frame without a launch time to its commit point, LOCK, its grant and its carrier aside. -/
structure State.AtCommit (s : State) (j id : Nat) (f : TxFrame) : Prop where
  frame : s.txFrame j id = some f
  ready : s.heldReady f = true
  phase : s.pwr.phase ≠ .failing
  launch : f.launch = none
  enabled : s.flag F.TXF_CAR_CFG_EN j f.desc.carrier = true
  centre : centreOk (s.tx j).centre = true

/-- The frame as its commit point leaves it, with RF start at `rf`. -/
def State.committed (s : State) (j : Nat) (f : TxFrame) (rf : Nat) : TxFrame :=
  { f with stage := .committed, paLead := s.paLead j, paLag := s.paLagUs j, passed := s.clp.now, rfFull := rf }

theorem committed_id (s : State) (j : Nat) (f : TxFrame) (rf : Nat) : (s.committed j f rf).id = f.id := rfl

theorem mem_commit {s t : State} {j id : Nat} {f : TxFrame} (h : s.txFrame j id = some f) (ht : t.tx j = s.tx j) (rf : Nat) :
    t.committed j f rf ∈ ((t.commit j f rf).tx j).frames := by
  rw [State.commit, tx_setTx]
  exact mem_putTx h ht ((committed_id t j f rf).trans (txFrame_id h))

section
variable {s : State} {j id : Nat} {f : TxFrame}

theorem commitPoint_waiting_completes (h : s.AtCommit j id f) (htaken : s.carTaken j f = true) (hwaited : f.waited = false) :
    Completes (.commitPoint j id) s fun t => t.fld F.TXF_CNT_CAR_WAIT_COUNT j = min 0xFFFFFFFF (s.fld F.TXF_CNT_CAR_WAIT_COUNT j + 1) := by
  rw [Completes, exec_commitPoint, execCommitPoint]
  simp only [h.frame, h.ready, beq_false_of_ne h.phase, planned_of_no_launch s j h.launch, h.enabled, h.centre, htaken, hwaited, Bool.not_true,
    Bool.or_false, Bool.true_or, Bool.false_eq_true, if_false, if_true]
  exact ⟨_, rfl, fld_bump_32 _ _ _ _ rfl rfl⟩

/-- With its carrier free, LOCK and its grant, and the charter's consent, the frame commits. -/
theorem commitPoint_commits (h : s.AtCommit j id f) (hfree : s.carTaken j f = false) (hfirst : s.carBefore j f = false)
    (hlock : s.locked j = true) (hgrant : s.grantOk j f false = true)
    (hcharter : s.fresh.2.charterVerdict j f.desc.carrier (s.frameMode j f.desc.carrier f.modeSet).1 (s.fresh.1.testBit 0) = none) :
    exec (.commitPoint j id) s = .next (s.fresh.2.commit j f (s.fullNs + (s.paLead j + 2) * 1000)) := by
  have hmode : s.fresh.2.frameMode j f.desc.carrier f.modeSet = s.frameMode j f.desc.carrier f.modeSet := rfl
  rw [exec_commitPoint, execCommitPoint]
  simp only [h.frame, h.ready, beq_false_of_ne h.phase, planned_of_no_launch s j h.launch, latest_of_no_launch s j h.launch,
    commitAt_of_no_launch s s j h.launch, h.enabled, h.centre, hfree, hfirst, hlock, hgrant, hmode, hcharter, Bool.not_true, Bool.or_false,
    Bool.false_eq_true, if_false]

theorem commitPoint_commits_completes (h : s.AtCommit j id f) (hfree : s.carTaken j f = false) (hfirst : s.carBefore j f = false)
    (hlock : s.locked j = true) (hgrant : s.grantOk j f false = true)
    (hcharter : s.fresh.2.charterVerdict j f.desc.carrier (s.frameMode j f.desc.carrier f.modeSet).1 (s.fresh.1.testBit 0) = none) :
    Completes (.commitPoint j id) s fun t => ∃ g ∈ (t.tx j).frames, g.id = id ∧ g.stage = .committed ∧ g.paLead = s.paLead j ∧
      g.passed = s.clp.now ∧ g.rfFull = s.fullNs + (s.paLead j + 2) * 1000 :=
  completes_of_exec (commitPoint_commits h hfree hfirst hlock hgrant hcharter)
    ⟨_, mem_commit h.frame (fresh_tx s j) _, (committed_id ..).trans (txFrame_id h.frame), rfl, rfl, rfl, rfl⟩

/-! ## TX_LATE (R86) -/

theorem open_of_not_spec (h : ∀ n t, f.origin ≠ .spec n t) : f.open = false := by
  unfold TxFrame.open
  split
  · next n t hspec => exact absurd hspec (h n t)
  · rfl

theorem txLate_completes {l : Nat} (hf : s.txFrame j id = some f) (hlatest : s.latest j f = some l) (hheld : f.stage = .held)
    (hspec : ∀ n t, f.origin ≠ .spec n t) (hpast : l - (s.paLead j + 2) * 1000 < s.fullNs)
    (hsynth : s.flag F.TXF_CHAIN_STAT_SYN_FAULT j = false) (hcentre : centreOk (s.tx j).centre = true) :
    Completes (.txLate j id) s fun t => t = (s.advanceToFull (l - (s.paLead j + 2) * 1000)).completeTx j f .txLate := by
  have hflag (d : Nat) : (s.advanceToFull d).flag F.TXF_CHAIN_STAT_SYN_FAULT j = false := by
    rwa [State.flag, advanceToFull_fld]
  rw [Completes, exec_txLate, execTxLate]
  simp only [hf, hlatest, hheld, open_of_not_spec hspec, hpast, decide_true, Bool.true_or, and_self, if_true, hflag, advanceToFull_tx, hcentre,
    Bool.not_true, Bool.or_self, Bool.false_eq_true, if_false]
  exact ⟨_, rfl, rfl⟩

end

/-! ## The start of a blanking interval (R52, R95) -/

theorem closeRx_tx (s : State) (j n : Nat) (how : RxClose) (i : Nat) : (s.closeRx j n how).tx i = s.tx i := by
  unfold State.closeRx
  split
  · split
    · split <;> rfl
    · rfl
  · rfl

theorem cutRx_tx (s : State) (j n id i : Nat) : (s.cutRx j n id).tx i = s.tx i := closeRx_tx s j n .blanked i

theorem endRx_tx (s : State) (j n : Nat) (f : RxFrame) (i : Nat) : (s.endRx j n f).tx i = s.tx i := by
  unfold State.endRx
  split
  · exact closeRx_tx s j n .ok i
  · exact closeRx_tx s j n .fcsFail i

theorem blankRill_tx (s : State) (j n i : Nat) : (s.blankRill j n).tx i = s.tx i := by
  unfold State.blankRill
  split
  · split
    · split
      · exact endRx_tx s j n _ i
      · exact cutRx_tx s j n _ i
    · rfl
  · rfl
  · rfl

theorem blankStart_tx (s : State) (j : Nat) : ∃ bs, (s.blankStart j).tx j = { s.tx j with blanks := bs } :=
  ⟨_, List.foldlRecOn (motive := fun t : State => t.tx j = _) _ _ (tx_setTx s j _) fun t ht i _ =>
    (forRills_tx j (fun u n => blankRill_tx u i n j) t).trans ht⟩

/-! ## Pins, RF start and last RF (R84, R89, R119) -/

section
variable {s : State} {j id : Nat} {f : TxFrame}

theorem txswAssert_switched_completes (hf : s.txFrame j id = some f) (hstage : f.stage = .committed) (hsw : (s.tx j).txsw = true) :
    Completes (.txswAssert j id) s fun t => t.clp.now = max s.clp.now (s.rfAt f - (f.paLead + 1) * 1000) ∧
      ∃ g ∈ (t.tx j).frames, g.id = id ∧ g.stage = .switched := by
  have hid : f.id = id := txFrame_id hf
  rw [Completes, exec_txswAssert, execTxswAssert]
  simp only [hf, if_pos hstage, putTx_tx, advanceTo_tx, hsw, if_true]
  exact ⟨_, rfl, advanceTo_now s _, { f with stage := .switched }, mem_putTx hf (advanceTo_tx s _ j) hid, hid, rfl⟩

theorem txswAssert_asserts_completes (hf : s.txFrame j id = some f) (hstage : f.stage = .committed) (hsw : (s.tx j).txsw = false) :
    Completes (.txswAssert j id) s fun t => (t.tx j).txsw = true := by
  rw [Completes, exec_txswAssert, execTxswAssert]
  simp only [hf, if_pos hstage, putTx_tx, advanceTo_tx, hsw, Bool.false_eq_true, if_false]
  refine ⟨_, rfl, ?_⟩
  obtain ⟨bs, hbs⟩ := blankStart_tx (((s.advanceTo (s.rfAt f - (f.paLead + 1) * 1000)).putTx j { f with stage := .switched }).setTx j _) j
  rw [hbs, tx_setTx]

theorem paAssert_completes (hf : s.txFrame j id = some f) (hstage : f.stage = .switched) (hlock : s.locked j = true) :
    Completes (.paAssert j id) s fun t => (t.tx j).pa = true ∧ t.clp.now = max s.clp.now (s.rfAt f - f.paLead * 1000) := by
  rw [Completes, exec_paAssert, execPaAssert]
  simp only [hf, if_pos (And.intro hstage hlock)]
  exact ⟨_, rfl, by rw [tx_setTx], advanceTo_now s _⟩

/-- A powered frame starts at its instant once packet memory is initialised (R433). -/
theorem rfStart_of_powered (hf : s.txFrame j id = some f) (hstage : f.stage = .powered) : exec (.rfStart j id) s =
    .next (if s.memReady 0 then (s.advanceTo (s.rfAt f)).rfStart j f else s.advanceTo (s.rfAt f)) := by
  have hready : (s.advanceTo (s.rfAt f)).memReady 0 = s.memReady 0 := by
    rw [State.memReady, State.advanceTo, advance_pwr, State.memReady]
  rw [exec_rfStart, execRfStart]
  simp only [hf, if_pos hstage, State.whenReady, hready]

theorem rfStart_radiating_completes (hf : s.txFrame j id = some f) (hstage : f.stage = .powered) (hmem : s.memReady 0 = true) {cells : List Nat}
    (hchain : (s.advanceTo (s.rfAt f)).chainFor f.desc.cell f.desc.len = some cells)
    (hgood : ((s.advanceTo (s.rfAt f)).readFrame cells f.desc).2.1 = false) :
    Completes (.rfStart j id) s fun t => ∃ g ∈ (t.tx j).frames, g.id = id ∧ g.stage = .radiating := by
  obtain ⟨u, g, hu, hid, hrad, hstart⟩ := rfStart_of_good_cell (j := j) hchain hgood
  have hgid : g.id = id := hid.trans (txFrame_id hf)
  refine completes_of_exec (rfStart_of_powered hf hstage) ⟨g, ?_, hgid, hrad⟩
  rw [if_pos hmem, hstart.tx]
  exact mem_putTx hf ((hu.tx j).trans (advanceTo_tx s _ j)) hgid

theorem rfStart_completes (hf : s.txFrame j id = some f) (hstage : f.stage = .powered) : let u := s.advanceTo (s.rfAt f)
    (s.memReady 0 = false → Completes (.rfStart j id) s fun t => t = u) ∧ (s.memReady 0 = true →
    (∀ cells, u.chainFor f.desc.cell f.desc.len = some cells → (u.readFrame cells f.desc).2.1 = false →
      Completes (.rfStart j id) s fun t => ∃ h ∈ (t.tx j).frames, h.id = id ∧ h.stage = .radiating) ∧
    (∀ cells, u.chainFor f.desc.cell f.desc.len = some cells → (u.readFrame cells f.desc).2.1 = true →
      Completes (.rfStart j id) s fun t => t = (u.readFrame cells f.desc).2.2.2.recall j f .poisoned) ∧
    (u.chainFor f.desc.cell f.desc.len = none → Completes (.rfStart j id) s fun t => t = u.recall j f .internal false)) := by
  have hexec := rfStart_of_powered hf hstage
  refine ⟨fun hmem => ⟨_, hexec, if_neg (by rw [hmem]; exact Bool.false_ne_true)⟩, fun hmem => ?_⟩
  exact ⟨fun cells => rfStart_radiating_completes hf hstage hmem,
    fun cells hchain hbad => ⟨_, hexec, (if_pos hmem).trans (rfStart_of_bad_cell hchain hbad)⟩,
    fun hchain => ⟨_, hexec, (if_pos hmem).trans (rfStart_of_no_chain hchain)⟩⟩

theorem lastRf_completes (hf : s.txFrame j id = some f) (hstage : f.stage = .radiating) :
    let u := ((s.advanceTo f.endAt).meterStop f.id).nearUpdate.pinsEnd j f.endAt f.paLag
    (f.badAt ≠ none → Completes (.lastRf j id) s fun t => t = (u.completeTx j f .poisoned).applyHeld j) ∧
    (∀ st, f.badAt = none → f.fate = some st → Completes (.lastRf j id) s fun t => t = (u.completeTx j f st).applyHeld j) ∧
    (f.badAt = none → f.fate = none → f.desc.ackReq = false → Completes (.lastRf j id) s fun t =>
      t = (((u.bump F.TXF_CNT_SENT_COUNT 1 j).bump F.OBS_CAR_SENT_COUNT 1 j f.desc.carrier).completeTx j f .ok).applyHeld j) := by
  simp only [Completes, exec_lastRf, execLastRf, hf, if_pos hstage]
  refine ⟨fun hbad => ?_, fun st hbad hfate => ?_, fun hbad hfate hack => ?_⟩
  · simp only [Option.isSome_iff_ne_none.mpr hbad, if_true]
    exact ⟨_, rfl, rfl⟩
  · simp only [hbad, hfate, Option.isSome_none, Bool.false_eq_true, if_false]
    exact ⟨_, rfl, rfl⟩
  · simp only [hbad, hfate, hack, Option.isSome_none, Bool.false_eq_true, if_false]
    exact ⟨_, rfl, rfl⟩

end

/-- Settles O9, each clause by the lemma of its command. -/
theorem launchCommands : Obligations.LaunchCommands :=
  ⟨⟨fun _ _ _ _ hf hready hphase hlaunch hen hcentre htaken hwaited =>
        commitPoint_waiting_completes ⟨hf, hready, hphase, hlaunch, hen, hcentre⟩ htaken hwaited,
      fun _ _ _ _ hf hready hphase hlaunch hen hcentre hfree hfirst hlock hgrant hcharter =>
        commitPoint_commits_completes ⟨hf, hready, hphase, hlaunch, hen, hcentre⟩ hfree hfirst hlock hgrant hcharter,
      fun _ _ _ _ _ hf hlatest hheld hspec hpast hsynth hcentre => txLate_completes hf hlatest hheld hspec hpast hsynth hcentre,
      fun _ _ _ _ hf hstage hsw => txswAssert_switched_completes hf hstage hsw,
      fun _ _ _ _ hf hstage hsw => txswAssert_asserts_completes hf hstage hsw,
      fun _ _ _ _ hf hstage hlock => paAssert_completes hf hstage hlock,
      fun _ _ _ _ hf hstage => rfStart_completes hf hstage,
      fun _ _ _ _ hf hstage => lastRf_completes hf hstage⟩,
    fun s j f st rssi _ _ _ _ => completeTx_frames s j f st rssi true⟩

end Sys2Proof.Machine
end

section
/-! PROOFS. The part of a state that no command undoes, and the shared operations that leave it as it is. -/

namespace Sys2Proof.Machine

/-- What no command undoes (R108, R240, R480, R482), and the queue, which no command touches. -/
structure Lasting where
  pending  : List Instr
  now      : Nat
  fuses    : List Nat
  owners   : SMap Nat
  revoked  : List Nat
  provLock : Bool
  dbgLock  : Bool
  jtagLock : Bool

/-- The part of a state that no command undoes. -/
def State.lasting (s : State) : Lasting :=
  ⟨s.pending, s.clp.now, s.cht.fuses, s.bot.owners, s.bot.revoked, s.grt.provLock, s.grt.dbgLock, s.grt.jtagLock⟩

@[simp] theorem lasting_mk (pending regs mem ecc draw clp pwr run hst obs plm txf cht mac spw eth fls skim slc twn grt bot ocl cyc) :
    State.lasting ⟨pending, regs, mem, ecc, draw, clp, pwr, run, hst, obs, plm, txf, cht, mac, spw, eth, fls, skim, slc, twn, grt, bot, ocl,
      cyc⟩ = ⟨pending, clp.now, cht.fuses, bot.owners, bot.revoked, grt.provLock, grt.dbgLock, grt.jtagLock⟩ := (rfl)

@[simp] theorem lasting_fields (s : State) : (⟨s.pending, s.clp.now, s.cht.fuses, s.bot.owners, s.bot.revoked, s.grt.provLock, s.grt.dbgLock,
    s.grt.jtagLock⟩ : Lasting) = s.lasting := (rfl)

@[simp] theorem ite_lasting (c : Prop) [Decidable c] (s t : State) :
    (if c then s else t).lasting = if c then s.lasting else t.lasting := apply_ite ..

@[simp] theorem foldl_lasting {α : Type} {f : State → α → State} (h : ∀ s a, (f s a).lasting = s.lasting) (l : List α) (s : State) :
    (l.foldl f s).lasting = s.lasting :=
  List.foldlRecOn (motive := fun t : State => t.lasting = s.lasting) l f rfl fun t ht a _ => (h t a).trans ht

@[simp] theorem on_lasting {f : State → State} (h : ∀ t, (f t).lasting = t.lasting) (s : State) (c : Bool) : (s.on c f).lasting = s.lasting := by
  unfold State.on
  split
  · exact h s
  · rfl

theorem lasting_of_snd {α : Type} {p : α × State} {a : α} {u : State} (h : p = (a, u)) : u.lasting = p.2.lasting := by rw [h]

theorem lasting_of_third {α β : Type} {p : α × β × State} {a : α} {b : β} {u : State} (h : p = (a, b, u)) :
    u.lasting = p.2.2.lasting := by rw [h]

theorem lasting_of_fourth {α β γ : Type} {p : α × β × γ × State} {a : α} {b : β} {c : γ} {u : State} (h : p = (a, b, c, u)) :
    u.lasting = p.2.2.2.lasting := by rw [h]

/-! A frame lemma per operation. The proof of a setter is written `(rfl)`: as a plain `rfl` the lemma would be one for definitional
rewriting, and `simp` does not use such a lemma for the side conditions of `on_lasting` and `foldl_lasting`. -/

variable (s : State)

/-! ### Sys2Proof/Machine/Ops.lean -/

@[simp] theorem setReg_lasting (id : RegId) (i j : Nat) (v : Word) : (s.setReg id i j v).lasting = s.lasting := (rfl)
@[simp] theorem setFld_lasting (f : Fld) (v i j : Nat) : (s.setFld f v i j).lasting = s.lasting := by simp [State.setFld]

@[simp] theorem powered_lasting {f : State → State} (h : ∀ t, (f t).lasting = t.lasting) (s : State) : (s.powered f).lasting = s.lasting :=
    on_lasting h ..

@[simp] theorem fresh_lasting : s.fresh.2.lasting = s.lasting := by simp [State.fresh]
@[simp] theorem nextCycle_lasting : s.nextCycle.lasting = s.lasting := (rfl)
@[simp] theorem noteEvent_lasting (f : Fld) (i : Nat) : (s.noteEvent f i).lasting = s.lasting := by simp [State.noteEvent]
@[simp] theorem noteCount_lasting (f : Fld) (n i j : Nat) : (s.noteCount f n i j).lasting = s.lasting := by simp [State.noteCount]
@[simp] theorem count_lasting (f : Fld) (n i j : Nat) : (s.count f n i j).lasting = s.lasting := by simp [State.count]
@[simp] theorem bump_lasting (f : Fld) (n i j : Nat) : (s.bump f n i j).lasting = s.lasting := by simp [State.bump]
@[simp] theorem uncount_lasting (f : Fld) (n i j : Nat) : (s.uncount f n i j).lasting = s.lasting := by simp [State.uncount]
@[simp] theorem unbump_lasting (f : Fld) (n i j : Nat) : (s.unbump f n i j).lasting = s.lasting := by simp [State.unbump]
@[simp] theorem sendVector_lasting (v : Nat) (unmasked : Bool) : (s.sendVector v unmasked).lasting = s.lasting := by simp [State.sendVector]
@[simp] theorem settleVector_lasting (v : Nat) : (s.settleVector v).lasting = s.lasting := by simp [State.settleVector]
@[simp] theorem raise_lasting (f : Fld) (i : Nat) : (s.raise f i).lasting = s.lasting := by simp [State.raise]
@[simp] theorem rearm_lasting (evt : RegId) (i : Nat) : (s.rearm evt i).lasting = s.lasting := by simp [State.rearm]
@[simp] theorem retract_lasting (f : Fld) (i : Nat) : (s.retract f i).lasting = s.lasting := by simp [State.retract]
@[simp] theorem keepEvents_lasting (id : RegId) (i : Nat) (d : Word) : (s.keepEvents id i d).lasting = s.lasting := by simp [State.keepEvents]
@[simp] theorem lower_lasting (f : Fld) (i : Nat) : (s.lower f i).lasting = s.lasting := by simp [State.lower]
@[simp] theorem setMemByte_lasting (m o : Nat) (b : Byte) : (s.setMemByte m o b).lasting = s.lasting := (rfl)

@[simp] theorem setMemBytes_lasting (m o : Nat) (bs : List Byte) : (s.setMemBytes m o bs).lasting = s.lasting := by
  induction bs generalizing s o with
  | nil => rfl
  | cons x xs ih => simp [State.setMemBytes, ih]

@[simp] theorem setMemWord_lasting (m w v : Nat) : (s.setMemWord m w v).lasting = s.lasting := by
  simp [State.setMemWord]

@[simp] theorem eccClear_lasting (m w : Nat) : (s.eccClear m w).lasting = s.lasting := (rfl)
@[simp] theorem eccSet_lasting (m w : Nat) (k : EccMark) : (s.eccSet m w k).lasting = s.lasting := (rfl)
@[simp] theorem flipApply_lasting (m w : Nat) : (s.flipApply m w).lasting = s.lasting := by simp [State.flipApply]
@[simp] theorem memWrite_lasting (m w v : Nat) : (s.memWrite m w v).lasting = s.lasting := by simp [State.memWrite]

@[simp] theorem memWrites_lasting (m w : Nat) (vs : List Nat) : (s.memWrites m w vs).lasting = s.lasting := by
  induction vs generalizing s w with
  | nil => rfl
  | cons x xs ih => simp [State.memWrites, ih]

@[simp] theorem flushAsk_lasting : s.flushAsk.lasting = s.lasting := by simp [State.flushAsk]
@[simp] theorem siltSettle_lasting : s.siltSettle.lasting = s.lasting := (rfl)

@[simp] theorem siltWrite_lasting (base seq : Nat) (rs : List (Nat × Nat × Nat)) : (s.siltWrite base seq rs).lasting = s.lasting := by
  simp [State.siltWrite]

@[simp] theorem siltCount_lasting (n : Nat) : (s.siltCount n).lasting = s.lasting := by simp [State.siltCount]

@[simp] theorem siltPost_lasting (code value rank : Nat) : (s.siltPost code value rank).lasting = s.lasting := by
  unfold State.siltPost
  dsimp only
  (repeat' split) <;> simp

@[simp] theorem siltInternal_lasting (b reason : Nat) : (s.siltInternal b reason).lasting = s.lasting := by simp [State.siltInternal]
@[simp] theorem correct_lasting (m w : Nat) : (s.correct m w).lasting = s.lasting := by simp [State.correct]
@[simp] theorem poisonMark_lasting (m w mask : Nat) : (s.poisonMark m w mask).lasting = s.lasting := by simp [State.poisonMark]

@[simp] theorem whenReady_lasting {f : State → State} (h : ∀ t, (f t).lasting = t.lasting) (s : State) (m : Nat) :
    (s.whenReady m f).lasting = s.lasting := by
  unfold State.whenReady; split <;> simp [h]

@[simp] theorem memRead_lasting (m w : Nat) : (s.memRead m w).2.lasting = s.lasting := by
  unfold State.memRead
  dsimp only
  (repeat' split) <;> simp

@[simp] theorem memReads_lasting (m w n : Nat) : (s.memReads m w n).2.2.lasting = s.lasting := by
  induction n generalizing s w with
  | zero => rfl
  | succ n ih => simp [State.memReads, ih]

@[simp] theorem partialCheck_lasting (m o n : Nat) (xs : List Nat) : (s.partialCheck m o n xs).2.lasting = s.lasting := by
  induction xs generalizing s with
  | nil => rfl
  | cons x xs ih => unfold State.partialCheck; dsimp only; (repeat' split) <;> simp [ih]

@[simp] theorem sealWords_lasting (m : Nat) (xs : List Nat) : (s.sealWords m xs).lasting = s.lasting := by
  induction xs generalizing s with
  | nil => rfl
  | cons x xs ih => simp [State.sealWords, ih]

@[simp] theorem memStore_lasting (m o : Nat) (bs : List Byte) : (s.memStore m o bs).2.lasting = s.lasting := by
  unfold State.memStore
  dsimp only
  (repeat' split) <;> simp

@[simp] theorem memLoad_lasting (m o n : Nat) : (s.memLoad m o n).2.2.lasting = s.lasting := by simp [State.memLoad]
@[simp] theorem setLink_lasting (c : Nat) (l : Link) : (s.setLink c l).lasting = s.lasting := (rfl)
@[simp] theorem takeCell_lasting : s.takeCell.2.lasting = s.lasting := by simp [State.takeCell]

@[simp] theorem takeCells_lasting (n : Nat) : (s.takeCells n).2.lasting = s.lasting := by
  induction n generalizing s with
  | zero => rfl
  | succ n ih => unfold State.takeCells; dsimp only; split <;> simp [ih]

@[simp] theorem allocAbove_lasting (floor len : Nat) : (s.allocAbove floor len).2.lasting = s.lasting := by
  unfold State.allocAbove
  split <;> simp

@[simp] theorem alloc_lasting (len : Nat) : (s.alloc len).2.lasting = s.lasting := by simp [State.alloc]
@[simp] theorem allocFloor_lasting (len : Nat) : (s.allocFloor len).2.lasting = s.lasting := by simp [State.allocFloor]
@[simp] theorem doubleFree_lasting (c : Nat) : (s.doubleFree c).lasting = s.lasting := by simp [State.doubleFree]

@[simp] theorem freeWalk_lasting (n c : Nat) : (s.freeWalk n c).lasting = s.lasting := by
  induction n generalizing s c with
  | zero => rfl
  | succ n ih => unfold State.freeWalk; dsimp only; (repeat' split) <;> simp [ih]

@[simp] theorem freeChain_lasting (c : Nat) : (s.freeChain c).lasting = s.lasting := by simp [State.freeChain]

@[simp] theorem writeFrame_lasting (cs : List Nat) (o : Nat) (bs : List (List Byte)) : (s.writeFrame cs o bs).lasting = s.lasting := by
  induction bs generalizing s o with
  | nil => rfl
  | cons x xs ih => simp [State.writeFrame, ih]

@[simp] theorem putFrame_lasting (cs : List Nat) (bs : List Byte) : (s.putFrame cs bs).lasting = s.lasting := by simp [State.putFrame]

@[simp] theorem readWords_lasting (cs : List Nat) (o n : Nat) : (s.readWords cs o n).2.2.lasting = s.lasting := by
  induction n generalizing s o with
  | zero => rfl
  | succ n ih => unfold State.readWords; split <;> simp [ih]

@[simp] theorem getFrame_lasting (cs : List Nat) (len : Nat) : (s.getFrame cs len).2.2.lasting = s.lasting := by simp [State.getFrame]
@[simp] theorem setRunnel_lasting (n : Nat) (r : Runnel) : (s.setRunnel n r).lasting = s.lasting := (rfl)
@[simp] theorem setRunTurn_lasting (n : Nat) (u : RunTurn) : (s.setRunTurn n u).lasting = s.lasting := (rfl)

@[simp] theorem crossing_lasting (notice count : Fld) (n : Nat) (was : Word) (crossed : Bool) :
    (s.crossing notice count n was crossed).lasting = s.lasting := by
  simp [State.crossing]

@[simp] theorem judgeMarks_lasting (n : Nat) : (s.judgeMarks n).lasting = s.lasting := by simp [State.judgeMarks]
@[simp] theorem land_lasting (n : Nat) (ws : List RunWord) (who : Nat) : (s.land n ws who).lasting = s.lasting := by simp [State.land]
@[simp] theorem lostPush_lasting (n : Nat) : (s.lostPush n).lasting = s.lasting := by simp [State.lostPush]

@[simp] theorem enginePush_lasting (n : Nat) (ws : List RunWord) (req : Nat) : (s.enginePush n ws req).lasting = s.lasting := by
  simp [State.enginePush]

@[simp] theorem ringPush_lasting (n : Nat) (ws : List RunWord) : (s.ringPush n ws).lasting = s.lasting := by simp [State.ringPush]
@[simp] theorem unqueue_lasting (n k : Nat) : (s.unqueue n k).2.lasting = s.lasting := by simp [State.unqueue]
@[simp] theorem noteBad_lasting (n k : Nat) : (s.noteBad n k).lasting = s.lasting := by simp [State.noteBad]
@[simp] theorem popWords_lasting (n k : Nat) : (s.popWords n k).2.lasting = s.lasting := by simp [State.popWords]

/-! ### Sys2Proof/Machine/FlashOps.lean -/

@[simp] theorem setFlashByte_lasting (a : Nat) (b : Byte) : (s.setFlashByte a b).lasting = s.lasting := (rfl)

@[simp] theorem flashProgram_lasting (a : Nat) (xs : List Byte) : (s.flashProgram a xs).lasting = s.lasting := by
  induction xs generalizing s a with
  | nil => rfl
  | cons x xs ih => simp [State.flashProgram, ih]

@[simp] theorem flashErase_lasting (a n : Nat) : (s.flashErase a n).lasting = s.lasting := by simp [State.flashErase]

@[simp] theorem flsResume_lasting : s.flsResume.lasting = s.lasting := by
  unfold State.flsResume
  split <;> simp

@[simp] theorem flsServe_lasting : s.flsServe.lasting = s.lasting := by
  unfold State.flsServe
  dsimp only
  (repeat' split) <;> simp

@[simp] theorem suspendErase_lasting : s.suspendErase.lasting = s.lasting := by
  unfold State.suspendErase
  split <;> simp

@[simp] theorem flsYield_lasting (src : Nat) : (s.flsYield src).lasting = s.lasting := by
  unfold State.flsYield
  split <;> simp

@[simp] theorem flsQueue_lasting (w : FlsOp) : (s.flsQueue w).lasting = s.lasting := by simp [State.flsQueue]
@[simp] theorem setSiltAt_lasting (sector slot : Nat) : (s.setSiltAt sector slot).lasting = s.lasting := by simp [State.setSiltAt]
@[simp] theorem siltHeader_lasting (seq : Nat) : (s.siltHeader seq).2.lasting = s.lasting := by simp [State.siltHeader]

@[simp] theorem siltLayout_lasting (sector slot seq : Nat) (xs : List (List Byte)) : (s.siltLayout sector slot seq xs).2.lasting = s.lasting := by
  induction xs generalizing s sector slot seq with
  | nil => rfl
  | cons x xs ih => unfold State.siltLayout; dsimp only; (repeat' split) <;> simp [ih]

@[simp] theorem siltRecords_lasting (slot n : Nat) : (s.siltRecords slot n).2.lasting = s.lasting := by
  induction n generalizing s slot with
  | zero => rfl
  | succ n ih => simp [State.siltRecords, ih]

@[simp] theorem siltSubmit_lasting (src : Nat) (rs : List (List Byte)) : (s.siltSubmit src rs).lasting = s.lasting := by simp [State.siltSubmit]
@[simp] theorem siltLoad_lasting : s.siltLoad.lasting = s.lasting := by simp [State.siltLoad]
@[simp] theorem flsSubmit_lasting (w : FlsOp) : (s.flsSubmit w).lasting = s.lasting := by simp [State.flsSubmit]
@[simp] theorem flsEnd_lasting : s.flsEnd.lasting = s.lasting := by simp [State.flsEnd]

@[simp] theorem flsEffect_lasting (w : FlsOp) : (s.flsEffect w).lasting = s.lasting := by
  unfold State.flsEffect
  split <;> simp

/-! ### Sys2Proof/Machine/RadioOps.lean -/

@[simp] theorem setPlmChain_lasting (j : Nat) (c : PlmChain) : (s.setPlmChain j c).lasting = s.lasting := (rfl)
@[simp] theorem setRill_lasting (j n : Nat) (r : Rill) : (s.setRill j n r).lasting = s.lasting := (rfl)
@[simp] theorem setTx_lasting (j : Nat) (c : TxfChain) : (s.setTx j c).lasting = s.lasting := (rfl)
@[simp] theorem setChainState_lasting (j v : Nat) : (s.setChainState j v).lasting = s.lasting := by simp [State.setChainState]

@[simp] theorem chainAsk_lasting (j : Nat) : (s.chainAsk j).lasting = s.lasting := by
  unfold State.chainAsk
  split <;> simp

@[simp] theorem rillRestart_lasting (j n : Nat) : (s.rillRestart j n).lasting = s.lasting := by simp [State.rillRestart]

@[simp] theorem forRills_lasting {f : State → Nat → State} (h : ∀ s n, (f s n).lasting = s.lasting) (s : State) :
    (s.forRills f).lasting = s.lasting := 
    foldl_lasting h ..

@[simp] theorem setRx_lasting (id : Nat) (f : RxFrame) : (s.setRx id f).lasting = s.lasting := (rfl)
@[simp] theorem newJob_lasting : s.newJob.2.lasting = s.lasting := by simp [State.newJob]

@[simp] theorem closeRx_lasting (j n : Nat) (how : RxClose) : (s.closeRx j n how).lasting = s.lasting := by
  unfold State.closeRx
  dsimp only
  (repeat' split) <;> simp

@[simp] theorem endRx_lasting (j n : Nat) (f : RxFrame) : (s.endRx j n f).lasting = s.lasting := by simp [State.endRx]
@[simp] theorem cutRx_lasting (j n id : Nat) : (s.cutRx j n id).lasting = s.lasting := by simp [State.cutRx]

@[simp] theorem blankRill_lasting (j n : Nat) : (s.blankRill j n).lasting = s.lasting := by
  unfold State.blankRill
  (repeat' split) <;> simp

@[simp] theorem blankChain_lasting (j : Nat) : (s.blankChain j).lasting = s.lasting := by simp [State.blankChain]

/-! ### Sys2Proof/Machine/Charter.lean -/

@[simp] theorem binAdd_lasting (e n : Nat) : (s.binAdd e n).lasting = s.lasting := (rfl)
@[simp] theorem noteLimits_lasting : s.noteLimits.lasting = s.lasting := by simp [State.noteLimits]
@[simp] theorem nearMask_lasting : s.nearMask.2.lasting = s.lasting := by simp [State.nearMask]
@[simp] theorem nearUpdate_lasting : s.nearUpdate.lasting = s.lasting := by simp [State.nearUpdate]
@[simp] theorem nearSeen_lasting : s.nearSeen.lasting = s.lasting := by simp [State.nearSeen]

@[simp] theorem meterOne_lasting (m : Meter) : (s.meterOne m).lasting = s.lasting := by
  unfold State.meterOne
  split <;> simp

@[simp] theorem meterFollow_lasting : s.meterFollow.lasting = s.lasting := by simp [State.meterFollow]
@[simp] theorem shadowReload_lasting : s.shadowReload.lasting = s.lasting := by simp [State.shadowReload]
@[simp] theorem digestReload_lasting : s.digestReload.lasting = s.lasting := by simp [State.digestReload]

@[simp] theorem noteRefusal_lasting (e reason j k : Nat) (atCommit : Bool) : (s.noteRefusal e reason j k atCommit).lasting = s.lasting := by
  simp [State.noteRefusal]

@[simp] theorem weirReserve_lasting (es : List Nat) (a : Nat) : (s.weirReserve es a).lasting = s.lasting := by simp [State.weirReserve]
@[simp] theorem noteApproval_lasting (es : List Nat) : (s.noteApproval es).lasting = s.lasting := by simp [State.noteApproval]
@[simp] theorem unnoteApproval_lasting (es : List Nat) : (s.unnoteApproval es).lasting = s.lasting := by simp [State.unnoteApproval]
@[simp] theorem weirReturn_lasting (es : List Nat) (a : Nat) : (s.weirReturn es a).lasting = s.lasting := by simp [State.weirReturn]
@[simp] theorem weirRelease_lasting (es : List Nat) (a : Nat) : (s.weirRelease es a).lasting = s.lasting := by simp [State.weirRelease]
@[simp] theorem meterStart_lasting (id : Nat) (es : List Nat) : (s.meterStart id es).lasting = s.lasting := by simp [State.meterStart]
@[simp] theorem meterLeave_lasting (id : Nat) (m : Meter) : (s.meterLeave id m).lasting = s.lasting := by simp [State.meterLeave]
@[simp] theorem meterStop_lasting (id : Nat) : (s.meterStop id).lasting = s.lasting := by simp [State.meterStop]
@[simp] theorem meterFlush_lasting : s.meterFlush.lasting = s.lasting := by simp [State.meterFlush]
@[simp] theorem fuseBlow_lasting (req : Nat) : (s.fuseBlow req).lasting = s.lasting := by simp [State.fuseBlow]

@[simp] theorem coldFill_lasting : (s.coldFill).lasting = s.lasting := by
  have hfill (e : Nat) (u : State) : ((List.range 60).foldl (fun s k => { s with cht := { s.cht with
      bins := SMap.put s.cht.bins (s.binKey e k) ((s.weirLimit e + 59) / 60) } }) u).lasting = u.lasting := by
    apply foldl_lasting
    intros; rfl
  simp [State.coldFill, hfill]

@[simp] theorem swlimSet_lasting (e : Nat) (d : Word) : (s.swlimSet e d).lasting = s.lasting := by simp [State.swlimSet]
@[simp] theorem chtNearWrite_lasting (e : Nat) (d : Word) : (s.chtNearWrite e d).lasting = s.lasting := by simp [State.chtNearWrite]

/-! ### Sys2Proof/Machine/TxOps.lean -/

@[simp] theorem pushTxDone_lasting (d : TxDesc) (status launch asn rssi : Nat) : (s.pushTxDone d status launch asn rssi).lasting = s.lasting := by
  simp [State.pushTxDone]

@[simp] theorem setShared_lasting (g : Nat) (c : SharedChain) : (s.setShared g c).lasting = s.lasting := (rfl)
@[simp] theorem newShared_lasting (cell n : Nat) : (s.newShared cell n).2.lasting = s.lasting := by simp [State.newShared]

@[simp] theorem sharedDone_lasting (g : Nat) (ok : Bool) : (s.sharedDone g ok).2.lasting = s.lasting := by
  unfold State.sharedDone
  dsimp only
  (repeat' split) <;> simp

@[simp] theorem setSpw_lasting (k : Nat) (v : SpwSession) : (s.setSpw k v).lasting = s.lasting := (rfl)
@[simp] theorem spwBudget_lasting (k : Nat) : (s.spwBudget k).lasting = s.lasting := by simp [State.spwBudget]
@[simp] theorem spwCopyDone_lasting (k g : Nat) (st : Status) : (s.spwCopyDone k g st).lasting = s.lasting := by simp [State.spwCopyDone]
@[simp] theorem bcnCopyDone_lasting (g : Nat) (st : Status) : (s.bcnCopyDone g st).lasting = s.lasting := by simp [State.bcnCopyDone]
@[simp] theorem ackFail_lasting : s.ackFail.lasting = s.lasting := by simp [State.ackFail]
@[simp] theorem takeoverDone_lasting (st : Status) : (s.takeoverDone st).lasting = s.lasting := by simp [State.takeoverDone]
@[simp] theorem freeDesc_lasting (d : TxDesc) : (s.freeDesc d).lasting = s.lasting := by simp [State.freeDesc]

@[simp] theorem deliverTx_lasting (o : TxOrigin) (d : TxDesc) (st : Status) (launch asn rssi : Nat) (frees : Bool) :
    (s.deliverTx o d st launch asn rssi frees).lasting = s.lasting := by
  unfold State.deliverTx
  split <;> simp

@[simp] theorem setFrames_lasting (j : Nat) (fs : List TxFrame) : (s.setFrames j fs).lasting = s.lasting := by simp [State.setFrames]
@[simp] theorem putTx_lasting (j : Nat) (f : TxFrame) : (s.putTx j f).lasting = s.lasting := by simp [State.putTx]

@[simp] theorem idleTouch_lasting (s before : State) (j : Nat) : (s.idleTouch before j).lasting = s.lasting := by
  simp [State.idleTouch]

@[simp] theorem coexUpdate_lasting (g : Nat) : (s.coexUpdate g).lasting = s.lasting := by simp [State.coexUpdate]

@[simp] theorem coexEnd_lasting (j : Nat) (f : TxFrame) : (s.coexEnd j f).lasting = s.lasting := by
  unfold State.coexEnd
  split <;> simp

@[simp] theorem countTx_lasting (j : Nat) (st : Status) : (s.countTx j st).lasting = s.lasting := by
  unfold State.countTx
  split <;> simp

@[simp] theorem completeTx_lasting (j : Nat) (f : TxFrame) (st : Status) (rssi : Nat) (frees : Bool) :
    (s.completeTx j f st rssi frees).lasting = s.lasting := by
  simp [State.completeTx]

@[simp] theorem noAck_lasting (j : Nat) (f : TxFrame) (rssi : Nat) : (s.noAck j f rssi).lasting = s.lasting := by simp [State.noAck]

/-! ### Sys2Proof/Machine/MemOps.lean -/

@[simp] theorem dropWord_lasting (m w : Nat) : (s.dropWord m w).lasting = s.lasting := by simp [State.dropWord]
@[simp] theorem mirrorPost_lasting (cls idx : Nat) (ws : List Word) : (s.mirrorPost cls idx ws).lasting = s.lasting := by simp [State.mirrorPost]

@[simp] theorem keyGroups_lasting (n : Nat) : (s.keyGroups n).lasting = s.lasting := by
  induction n generalizing s with
  | zero => rfl
  | succ n ih => unfold State.keyGroups; dsimp only; split <;> simp [ih]

/-! ### Sys2Proof/Machine/Eddy.lean -/

@[simp] theorem setPoint_lasting (k : Nat) (p : EddyPoint) : (s.setPoint k p).lasting = s.lasting := (rfl)
@[simp] theorem next32_lasting (k : Nat) : (s.next32 k).2.lasting = s.lasting := by simp [State.next32]
@[simp] theorem eddyCount_lasting : s.eddyCount.lasting = s.lasting := by simp [State.eddyCount]

@[simp] theorem passPoint_lasting (k : Nat) (f : Passing) : (s.passPoint k f).2.lasting = s.lasting := by
  unfold State.passPoint
  (repeat' split) <;> simp

@[simp] theorem eddyCorrupt_lasting (k r : Nat) (fix : List Byte → List Byte) (f : Passing) : (s.eddyCorrupt k r fix f).2.lasting = s.lasting := by
  unfold State.eddyCorrupt
  split <;> simp

@[simp] theorem eddyAt_lasting (k : Nat) (fix : List Byte → List Byte) (f : Passing) : (s.eddyAt k fix f).2.lasting = s.lasting := by
  unfold State.eddyAt
  dsimp only
  (repeat' split) <;> simp

@[simp] theorem unhold_lasting (k : Nat) : (s.unhold k).2.lasting = s.lasting := by
  unfold State.unhold
  split <;> simp

end Sys2Proof.Machine
end

section
/-! PROOFS. What no command undoes, under the operations of the radio. -/

namespace Sys2Proof.Machine

variable (s : State)

/-! ### Sys2Proof/Machine/Plume.lean -/

@[simp] theorem filtered_lasting (no yes held : Nat) : (s.filtered no yes held).2.lasting = s.lasting := by
  unfold State.filtered
  dsimp only
  (repeat' split) <;> simp

@[simp] theorem clip_lasting (j : Nat) (evt cnt : Fld) : (s.clip j evt cnt).lasting = s.lasting := by simp [State.clip]
@[simp] theorem plmWindowWrite_lasting (j : Nat) (d : Word) : (s.plmWindowWrite j d).lasting = s.lasting := by simp [State.plmWindowWrite]
@[simp] theorem plmChainCtlWrite_lasting (j : Nat) (d : Word) : (s.plmChainCtlWrite j d).lasting = s.lasting := by simp [State.plmChainCtlWrite]
@[simp] theorem rillEnable_lasting (j n : Nat) : (s.rillEnable j n).lasting = s.lasting := by simp [State.rillEnable]

@[simp] theorem rillDisable_lasting (j n : Nat) : (s.rillDisable j n).lasting = s.lasting := by
  unfold State.rillDisable
  dsimp only
  (repeat' split) <;> simp

@[simp] theorem rillCfgWrite_lasting (j n : Nat) (d : Word) : (s.rillCfgWrite j n d).lasting = s.lasting := by
  unfold State.rillCfgWrite
  dsimp only
  (repeat' split) <;> simp

@[simp] theorem rillParamWrite_lasting (id : RegId) (mask : Word) (j n : Nat) (d : Word) : (s.rillParamWrite id mask j n d).lasting = s.lasting := by
  simp [State.rillParamWrite]

@[simp] theorem rillFreqWrite_lasting (j n : Nat) (d : Word) : (s.rillFreqWrite j n d).lasting = s.lasting := by simp [State.rillFreqWrite]
@[simp] theorem rillLimWrite_lasting (j n : Nat) (d : Word) : (s.rillLimWrite j n d).lasting = s.lasting := by simp [State.rillLimWrite]
@[simp] theorem phyModeWrite_lasting (m : Nat) (d : Word) : (s.phyModeWrite m d).lasting = s.lasting := by simp [State.phyModeWrite]
@[simp] theorem fixAerial_lasting (j n : Nat) (c : Claim) (toB : Bool) : (s.fixAerial j n c toB).lasting = s.lasting := by simp [State.fixAerial]
@[simp] theorem phrReject_lasting (j n : Nat) : (s.phrReject j n).lasting = s.lasting := by simp [State.phrReject]
@[simp] theorem putByte_lasting (id : Nat) (f : RxFrame) (b : Byte) : (s.putByte id f b).lasting = s.lasting := by simp [State.putByte]

@[simp] theorem lastByte_lasting (j n : Nat) (b : Byte) : (s.lastByte j n b).lasting = s.lasting := by
  unfold State.lastByte
  (repeat' split) <;> simp

/-! ### Sys2Proof/Machine/Txf.lean -/

@[simp] theorem calRefresh_lasting (j : Nat) : (s.calRefresh j).lasting = s.lasting := by simp [State.calRefresh]
@[simp] theorem sense_lasting (temp : Int) : (s.sense temp).lasting = s.lasting := by simp [State.sense]
@[simp] theorem pinsEnd_lasting (j e lag : Nat) : (s.pinsEnd j e lag).lasting = s.lasting := by simp [State.pinsEnd]

@[simp] theorem recall_lasting (j : Nat) (f : TxFrame) (st : Status) (frees : Bool) : (s.recall j f st frees).lasting = s.lasting := by
  simp [State.recall]

@[simp] theorem readFrame_lasting (cells : List Nat) (d : TxDesc) : (s.readFrame cells d).2.2.2.lasting = s.lasting := by simp [State.readFrame]
@[simp] theorem takeoverStart_lasting (air : Nat) : (s.takeoverStart air).lasting = s.lasting := by simp [State.takeoverStart]

@[simp] theorem rfStart_lasting (j : Nat) (f : TxFrame) : (s.rfStart j f).lasting = s.lasting := by
  unfold State.rfStart
  split <;> simp

@[simp] theorem rfStartDue_lasting (j : Nat) : (s.rfStartDue j).lasting = s.lasting := by simp [State.rfStartDue]
@[simp] theorem rampDown_lasting (j : Nat) (f : TxFrame) (st : Status) : (s.rampDown j f st).lasting = s.lasting := by simp [State.rampDown]
@[simp] theorem abortLive_lasting (j : Nat) (st : Status) : (s.abortLive j st).lasting = s.lasting := by simp [State.abortLive]
@[simp] theorem lockFall_lasting (j : Nat) : (s.lockFall j).lasting = s.lasting := by simp [State.lockFall]
@[simp] theorem retune_lasting (j : Nat) (full : Bool) : (s.retune j full).lasting = s.lasting := by simp [State.retune]
@[simp] theorem paDrop_lasting (j : Nat) : (s.paDrop j).lasting = s.lasting := by simp [State.paDrop]
@[simp] theorem txswDrop_lasting (j : Nat) : (s.txswDrop j).lasting = s.lasting := by simp [State.txswDrop]
@[simp] theorem txOffNow_lasting (j : Nat) : (s.txOffNow j).lasting = s.lasting := by simp [State.txOffNow]
@[simp] theorem applyWindow_lasting (j khz : Nat) : (s.applyWindow j khz).lasting = s.lasting := by simp [State.applyWindow]

@[simp] theorem startWindow_lasting (j : Nat) : (s.startWindow j).lasting = s.lasting := by
  unfold State.startWindow
  split <;> simp

@[simp] theorem applyCal_lasting (j : Nat) : (s.applyCal j).lasting = s.lasting := by simp [State.applyCal]
@[simp] theorem applyHeld_lasting (j : Nat) : (s.applyHeld j).lasting = s.lasting := by simp [State.applyHeld]
@[simp] theorem synWindowWrite_lasting (j : Nat) (d : Word) : (s.synWindowWrite j d).lasting = s.lasting := by simp [State.synWindowWrite]
@[simp] theorem synCtlWrite_lasting (j : Nat) (d : Word) : (s.synCtlWrite j d).lasting = s.lasting := by simp [State.synCtlWrite]
@[simp] theorem calPostpone_lasting (j : Nat) : (s.calPostpone j).lasting = s.lasting := by simp [State.calPostpone]
@[simp] theorem txChainCtlWrite_lasting (j : Nat) (d : Word) : (s.txChainCtlWrite j d).lasting = s.lasting := by simp [State.txChainCtlWrite]
@[simp] theorem uncommit_lasting (j : Nat) (f : TxFrame) (st : Status) : (s.uncommit j f st).lasting = s.lasting := by simp [State.uncommit]
@[simp] theorem unreserve_lasting (j : Nat) (f : TxFrame) : (s.unreserve j f).lasting = s.lasting := by simp [State.unreserve]

@[simp] theorem unapprove_lasting (j : Nat) (f : TxFrame) (st : Status) (e r : Nat) : (s.unapprove j f st e r).lasting = s.lasting := by
  simp [State.unapprove]

@[simp] theorem rejudge_lasting (j : Nat) (f : TxFrame) (luck : Bool) : (s.rejudge j f luck).lasting = s.lasting := by
  unfold State.rejudge
  dsimp only
  (repeat' split) <;> simp

@[simp] theorem recheckOne_lasting (j : Nat) (f : TxFrame) : (s.recheckOne j f).lasting = s.lasting := by
  unfold State.recheckOne
  dsimp only
  (repeat' split) <;> simp

@[simp] theorem recheck_lasting : s.recheck.lasting = s.lasting := by simp [State.recheck]
@[simp] theorem chtSwlimWrite_lasting (e : Nat) (d : Word) : (s.chtSwlimWrite e d).lasting = s.lasting := by simp [State.chtSwlimWrite]
@[simp] theorem carEnable_lasting (j k : Nat) : (s.carEnable j k).lasting = s.lasting := by simp [State.carEnable]
@[simp] theorem carDisable_lasting (j k : Nat) : (s.carDisable j k).lasting = s.lasting := by simp [State.carDisable]

@[simp] theorem carCfgWrite_lasting (j k : Nat) (d : Word) : (s.carCfgWrite j k d).lasting = s.lasting := by
  unfold State.carCfgWrite
  dsimp only
  (repeat' split) <;> simp

@[simp] theorem carFreqWrite_lasting (j k : Nat) (d : Word) : (s.carFreqWrite j k d).lasting = s.lasting := by simp [State.carFreqWrite]

@[simp] theorem issueProtect_lasting (j : Nat) (f : TxFrame) : (s.issueProtect j f).lasting = s.lasting := by
  unfold State.issueProtect
  dsimp only
  (repeat' split) <;> simp

@[simp] theorem hold_lasting (o : TxOrigin) (d : TxDesc) (ms : Option (Nat × Nat)) (es : List Nat) (a : Nat) :
    (s.hold o d ms es a).2.lasting = s.lasting := by
  simp [State.hold]

@[simp] theorem settleFailed_lasting (j : Nat) (f : TxFrame) : (s.settleFailed j f).lasting = s.lasting := by
  unfold State.settleFailed
  split <;> simp

@[simp] theorem place_lasting (p : Placed) : (s.place p).lasting = s.lasting := (rfl)
@[simp] theorem setInbox_lasting (ps : List Placed) : (s.setInbox ps).lasting = s.lasting := (rfl)
@[simp] theorem setGrant_lasting (g : Nat) (level : Bool) (at_ : Nat) : (s.setGrant g level at_).lasting = s.lasting := by simp [State.setGrant]
@[simp] theorem sampled_lasting (j g : Nat) (f : TxFrame) : (s.sampled j g f).lasting = s.lasting := by simp [State.sampled]
@[simp] theorem grantSeen_lasting (g : Nat) (pin : PinLevel) : (s.grantSeen g pin).lasting = s.lasting := by simp [State.grantSeen]
@[simp] theorem withdrawn_lasting (g : Nat) : (s.withdrawn g).lasting = s.lasting := by simp [State.withdrawn]
@[simp] theorem commit_lasting (j : Nat) (f : TxFrame) (rf : Nat) : (s.commit j f rf).lasting = s.lasting := by simp [State.commit]
@[simp] theorem blankGrpWrite_lasting (b : Nat) (d : Word) : (s.blankGrpWrite b d).lasting = s.lasting := by simp [State.blankGrpWrite]
@[simp] theorem blankStart_lasting (j : Nat) : (s.blankStart j).lasting = s.lasting := by simp [State.blankStart]
@[simp] theorem wakeUpdate_lasting (j : Nat) : (s.wakeUpdate j).lasting = s.lasting := by simp [State.wakeUpdate]
@[simp] theorem openAck_lasting (j : Nat) (f : TxFrame) : (s.openAck j f).lasting = s.lasting := by simp [State.openAck]
@[simp] theorem polApply_lasting (j : Nat) : (s.polApply j).lasting = s.lasting := by simp [State.polApply]
@[simp] theorem femCtlWrite_lasting (j : Nat) (d : Word) : (s.femCtlWrite j d).lasting = s.lasting := by simp [State.femCtlWrite]

/-! ### Sys2Proof/Machine/TwinOps.lean -/

@[simp] theorem twnPoint_lasting (k type : Nat) (f : Passing) : (s.twnPoint k type f).2.lasting = s.lasting := by
  unfold State.twnPoint
  (repeat' split) <;> simp

@[simp] theorem twnEmit_lasting (f : Passing) : (s.twnEmit f).lasting = s.lasting := by simp [State.twnEmit]
@[simp] theorem twnSend_lasting (type : Nat) (payload : List Word) : (s.twnSend type payload).lasting = s.lasting := by simp [State.twnSend]
@[simp] theorem enterStandby_lasting : s.enterStandby.lasting = s.lasting := by simp [State.enterStandby]
@[simp] theorem enterActive_lasting : s.enterActive.lasting = s.lasting := by simp [State.enterActive]

@[simp] theorem yieldFrame_lasting (j : Nat) (f : TxFrame) : (s.yieldFrame j f).lasting = s.lasting := by
  unfold State.yieldFrame
  split <;> simp

@[simp] theorem yieldFrames_lasting : s.yieldFrames.lasting = s.lasting := by simp [State.yieldFrames]
@[simp] theorem yieldTo_lasting (term : Nat) : (s.yieldTo term).lasting = s.lasting := by simp [State.yieldTo]

/-! ### Sys2Proof/Machine/Mac.lean -/

@[simp] theorem wakeAll_lasting : s.wakeAll.lasting = s.lasting := by simp [State.wakeAll]
@[simp] theorem macUpdate_lasting : s.macUpdate.lasting = s.lasting := by simp [State.macUpdate]

@[simp] theorem macCtlWrite_lasting (d : Word) : (s.macCtlWrite d).lasting = s.lasting := by
  unfold State.macCtlWrite
  dsimp only
  (repeat' split) <;> simp

@[simp] theorem macProfileWrite_lasting (id : RegId) (i : Nat) (d : Word) : (s.macProfileWrite id i d).lasting = s.lasting := by
  simp [State.macProfileWrite]

@[simp] theorem readCell_lasting (w : Nat) : (s.readCell w).2.lasting = s.lasting := by
  unfold State.readCell
  split
  · rfl
  · split <;> next heq => simp [lasting_of_snd heq]

@[simp] theorem readCells_lasting (xs : List Nat) : (s.readCells xs).2.lasting = s.lasting := by
  induction xs generalizing s with
  | nil => rfl
  | cons x xs ih => simp [State.readCells, ih]

@[simp] theorem placeCopies_lasting (o : Nat → TxOrigin) (on : List (Nat × Nat)) (cells : List Nat) (d : TxDesc) :
    (s.placeCopies o on cells d).lasting = s.lasting := by
  simp [State.placeCopies]

@[simp] theorem bcnUnsent_lasting (cars : List Nat) : (s.bcnUnsent cars).lasting = s.lasting := by simp [State.bcnUnsent]

@[simp] theorem buildBeacon_lasting (cs : List (Nat × Nat)) (j a : Nat) : (s.buildBeacon cs j a).lasting = s.lasting := by
  unfold State.buildBeacon
  dsimp only
  split <;> next heq => simp [lasting_of_snd heq]

@[simp] theorem rebuildBeacon_lasting (g : Nat) : (s.rebuildBeacon g).lasting = s.lasting := by
  unfold State.rebuildBeacon
  dsimp only
  split
  · rfl
  · split
    · split <;> next heq => simp [lasting_of_snd heq]
    · rfl

@[simp] theorem pauseArmed_lasting : s.pauseArmed.lasting = s.lasting := by simp [State.pauseArmed]

@[simp] theorem spwStart_lasting (k a taken : Nat) : (s.spwStart k a taken).lasting = s.lasting := by
  unfold State.spwStart
  dsimp only
  split
  · simp
  · simp
  · split
    · next heq => split <;> simp [lasting_of_snd heq]
    · next heq => simp [lasting_of_snd heq]

@[simp] theorem spwResolve_lasting (a : Nat) : (s.spwResolve a).lasting = s.lasting := by
  unfold State.spwResolve
  refine List.foldlRecOn (motive := fun p : Nat × State => p.2.lasting = s.lasting) _ _ rfl fun p h k _ => ?_
  dsimp only
  split
  · split <;> simpa using h
  · exact h

@[simp] theorem slotWork_lasting (cs : List (Nat × Nat)) (a : Nat) : (s.slotWork cs a).lasting = s.lasting := by simp [State.slotWork]

@[simp] theorem handoverTake_lasting (a : Nat) : (s.handoverTake a).lasting = s.lasting := by
  unfold State.handoverTake
  split <;> simp

@[simp] theorem lateWork_lasting (a : Nat) : (s.lateWork a).lasting = s.lasting := by simp [State.lateWork]
@[simp] theorem airMiss_lasting : s.airMiss.lasting = s.lasting := by simp [State.airMiss]
@[simp] theorem sweepAnswered_lasting (j : Nat) : (s.sweepAnswered j).lasting = s.lasting := by simp [State.sweepAnswered]
@[simp] theorem ackEnd_lasting (j : Nat) (f : TxFrame) : (s.ackEnd j f).lasting = s.lasting := by simp [State.ackEnd]

end Sys2Proof.Machine
end

section
/-! PROOFS. What no command undoes, under the operations of keys, tables, routes and the Sluice. -/

namespace Sys2Proof.Machine

variable (s : State)

/-! ### Sys2Proof/Machine/Keys.lean -/

@[simp] theorem reseed_lasting : s.reseed.lasting = s.lasting := by simp [State.reseed]
@[simp] theorem randN_lasting (n : Nat) : (s.randN n).2.lasting = s.lasting := by simp [State.randN]
@[simp] theorem rand_lasting : s.rand.2.lasting = s.lasting := by simp [State.rand]
@[simp] theorem setSlot_lasting (ovr : Bool) (i : Nat) (v : KeySlot) : (s.setSlot ovr i v).lasting = s.lasting := by simp [State.setSlot]
@[simp] theorem keyWrite_lasting (m i : Nat) : (s.keyWrite m i).lasting = s.lasting := by simp [State.keyWrite]

@[simp] theorem keyRead_lasting (m i v : Nat) : (s.keyRead m i v).2.lasting = s.lasting := by
  unfold State.keyRead
  dsimp only
  (repeat' split) <;> simp

@[simp] theorem dropKey_lasting (ovr : Bool) (i : Nat) : (s.dropKey ovr i).lasting = s.lasting := by simp [State.dropKey]

@[simp] theorem storeKey_lasting (ovr : Bool) (i : Nat) : (s.storeKey ovr i).2.lasting = s.lasting := by
  unfold State.storeKey
  dsimp only
  split
  · rfl
  · split <;> next heq => simp [lasting_of_snd heq]

@[simp] theorem readWays_lasting (set : Nat) (xs : List Nat) : (s.readWays set xs).2.lasting = s.lasting := by
  induction xs generalizing s with
  | nil => rfl
  | cons x xs ih => 
    unfold State.readWays
    dsimp only
    split
    · exact ih s
    · next e _ =>
      split
      · exact ih s
      · rw [← keyRead_lasting s 2 (4 * set + x) e.key]
        rcases s.keyRead 2 (4 * set + x) e.key with ⟨_ | k, u⟩ <;> simp [ih]

@[simp] theorem putWay_lasting (i : Nat) (e : CacheWay) : (s.putWay i e).lasting = s.lasting := (rfl)

@[simp] theorem linkKey_lasting (eui g : Nat) : (s.linkKey eui g).2.lasting = s.lasting := by
  unfold State.linkKey
  dsimp only
  split
  · rfl
  · split
    · simp
    · split
      · next heq => simp [lasting_of_snd heq]
      · simp

@[simp] theorem requestKey_lasting (keyMode eui group ovrPtr : Nat) (ovrEn : Bool) :
    (s.requestKey keyMode eui group ovrPtr ovrEn).2.lasting = s.lasting := by
  unfold State.requestKey
  (repeat' split) <;> simp

@[simp] theorem jobKey_lasting (k : JobKey) : (s.jobKey k).2.lasting = s.lasting := by
  unfold State.jobKey
  (repeat' split) <;> simp

/-! ### Sys2Proof/Machine/Table.lean -/

@[simp] theorem writeDrift_lasting (i v : Nat) : (s.writeDrift i v).lasting = s.lasting := by simp [State.writeDrift]
@[simp] theorem zeroDrift_lasting (i : Nat) : (s.zeroDrift i).lasting = s.lasting := by simp [State.zeroDrift]
@[simp] theorem unsuspect_lasting (i : Nat) : (s.unsuspect i).lasting = s.lasting := by simp [State.unsuspect]
@[simp] theorem writeEntry_lasting (i : Nat) (e : Entry) : (s.writeEntry i e).lasting = s.lasting := by simp [State.writeEntry]
@[simp] theorem dropSlot_lasting (i : Nat) : (s.dropSlot i).lasting = s.lasting := by simp [State.dropSlot]

@[simp] theorem readEntry_lasting (i : Nat) : (s.readEntry i).2.lasting = s.lasting := by
  unfold State.readEntry
  dsimp only
  (repeat' split) <;> simp

@[simp] theorem invalidate_lasting (i : Nat) (e : Entry) : (s.invalidate i e).lasting = s.lasting := by simp [State.invalidate]

@[simp] theorem readBucket_lasting (base n : Nat) : (s.readBucket base n).2.2.lasting = s.lasting := by
  induction n generalizing s with
  | zero => rfl
  | succ n ih => simp [State.readBucket, ih]

@[simp] theorem readBoth_lasting (eui cls : Nat) : (s.readBoth eui cls).2.2.lasting = s.lasting := by simp [State.readBoth]

@[simp] theorem lookup_lasting (eui cls : Nat) : (s.lookup eui cls).2.lasting = s.lasting := by
  unfold State.lookup
  dsimp only
  (repeat' split) <;> simp

@[simp] theorem aliasTarget_lasting (a : Entry) : (s.aliasTarget a).2.lasting = s.lasting := by
  unfold State.aliasTarget
  split
  · next heq => simp [lasting_of_snd heq]
  · next heq => split <;> simp [lasting_of_snd heq]

@[simp] theorem lookupShort_lasting (pan short : Nat) : (s.lookupShort pan short).2.lasting = s.lasting := by
  unfold State.lookupShort
  split
  · next heq => simp [lasting_of_snd heq]
  · exact lookup_lasting ..

@[simp] theorem moveDrift_lasting (i j : Nat) : (s.moveDrift i j).lasting = s.lasting := by
  unfold State.moveDrift
  split <;> next heq => simp [lasting_of_snd heq]

@[simp] theorem moveSuspect_lasting (i j : Nat) : (s.moveSuspect i j).lasting = s.lasting := by simp [State.moveSuspect]
@[simp] theorem moveEntry_lasting (e : Entry) (i j : Nat) : (s.moveEntry e i j).lasting = s.lasting := by simp [State.moveEntry]

@[simp] theorem eligible_lasting (path tried xs : List Nat) : (s.eligible path tried xs).2.lasting = s.lasting := by
  induction xs generalizing s with
  | nil => rfl
  | cons x xs ih => simp [State.eligible, ih]

/-- One step of the search. -/
theorem searchPath_succ (s : State) (fuel n : Nat) (path : List (Nat × Entry)) (st : SearchStep) (rest : List SearchStep) :
    s.searchPath (fuel + 1) n path (st :: rest) =
    if 128 ≤ n then (none, s)
    else match s.eligible (path.map (·.1)) st.tried st.bases with
      | (ok, s) =>
        if ok.isEmpty then match rest, path with
          | up :: more, p :: ps => s.searchPath fuel n ps ({ up with tried := p.1 :: up.tried } :: more)
          | _, _ => (none, s)
        else match Config.victimDraw s.slc.lfsr ok.length with
          | (l, k) => match State.readEntry { s with slc := { s.slc with lfsr := l } } (ok.getD (k % ok.length) 0) with
            | (none, s) => (some (ok.getD (k % ok.length) 0, path), s)
            | (some e, s) => match s.readBucket (otherBase e (ok.getD (k % ok.length) 0)) 4 with
              | (es, _, s) => match freeSlot es with
                | some f => (some (f, (ok.getD (k % ok.length) 0, e) :: path), s)
                | none => s.searchPath fuel (n + 1) ((ok.getD (k % ok.length) 0, e) :: path)
                  ({ bases := [otherBase e (ok.getD (k % ok.length) 0)] } :: st :: rest) := by
  delta State.searchPath
  rfl

@[simp] theorem searchPath_lasting (fuel n : Nat) (path : List (Nat × Entry)) (steps : List SearchStep) :
    (s.searchPath fuel n path steps).2.lasting = s.lasting := by
  induction fuel generalizing s n path steps with
  | zero => cases steps <;> rfl
  | succ fuel ih =>
    cases steps with
    | nil => rfl
    | cons st rest =>
      rw [searchPath_succ]
      split
      · rfl
      · split
        next heq =>
        have h := lasting_of_snd heq
        split
        · split <;> simp [ih, h]
        · split
          split
          · next heq' => simp [lasting_of_snd heq', h]
          · next heq' =>
            split
            next heq'' => split <;> simp [ih, lasting_of_third heq'', lasting_of_snd heq', h]

@[simp] theorem moveHolds_lasting (v : Nat × Entry) (f : Nat) : (s.moveHolds v f).2.lasting = s.lasting := by simp [State.moveHolds]

@[simp] theorem runPath_lasting (f : Nat) (vs : List (Nat × Entry)) : (s.runPath f vs).2.2.lasting = s.lasting := by
  induction vs generalizing s f with
  | nil => rfl
  | cons x xs ih => 
    unfold State.runPath
    rw [← moveHolds_lasting s x f]
    rcases s.moveHolds x f with ⟨_ | e, u⟩ <;> simp [ih]

@[simp] theorem relocateOnce_lasting (bases : List Nat) : (s.relocateOnce bases).2.2.lasting = s.lasting := by
  unfold State.relocateOnce
  split <;> next heq => simp [lasting_of_snd heq]

@[simp] theorem relocate_lasting (bases : List Nat) (tries : Nat) : (s.relocate bases tries).2.2.lasting = s.lasting := by
  induction tries generalizing s with
  | zero =>
    unfold State.relocate
    have h := relocateOnce_lasting s bases
    generalize s.relocateOnce bases = p at h ⊢
    obtain ⟨_ | _ | _, n, u⟩ := p <;> exact h
  | succ n ih =>
    unfold State.relocate
    have h := relocateOnce_lasting s bases
    generalize s.relocateOnce bases = p at h ⊢
    obtain ⟨_ | _ | _, n, u⟩ := p <;> simp_all

@[simp] theorem keepDrift_lasting (i : Nat) : (s.keepDrift i).lasting = s.lasting := (rfl)
@[simp] theorem placeEntry_lasting (i : Nat) (e : Entry) : (s.placeEntry i e).lasting = s.lasting := by simp [State.placeEntry]

@[simp] theorem insertEntry_lasting (e : Entry) : (s.insertEntry e).2.lasting = s.lasting := by
  unfold State.insertEntry
  split
  next heq =>
  have h := lasting_of_third heq
  split
  · simp [h]
  · split
    · simp [h]
    · split
      · simp [h]
      · split
        · simp [h]
        · split <;> next heq' => simp [lasting_of_third heq', h]

@[simp] theorem setLock_lasting (l : Option (Nat × Nat)) : (s.setLock l).lasting = s.lasting := by simp [State.setLock]

@[simp] theorem cmdSearch_lasting (e : Entry) : (s.cmdSearch e).2.lasting = s.lasting := by
  unfold State.cmdSearch
  split <;> next heq => simp [lasting_of_snd heq]

@[simp] theorem scan_lasting (w0 : Nat) (xs : List Nat) : (s.scan w0 xs).2.lasting = s.lasting := by
  induction xs generalizing s with
  | nil => rfl
  | cons x xs ih => 
    unfold State.scan
    rw [← readEntry_lasting s x]
    rcases s.readEntry x with ⟨_ | e, u⟩
    · rfl
    · dsimp only; split <;> simp [ih]

@[simp] theorem cmdNext_lasting (w0 w1 req : Nat) : (s.cmdNext w0 w1 req).2.lasting = s.lasting := by
  unfold State.cmdNext
  dsimp only
  split <;> simp

@[simp] theorem cmdInsert_lasting (e : Entry) : (s.cmdInsert e).2.lasting = s.lasting := by simp [State.cmdInsert]

@[simp] theorem cmdUpdate_lasting (mask : Nat) (x : Entry) : (s.cmdUpdate mask x).2.lasting = s.lasting := by
  unfold State.cmdUpdate
  split <;> next heq => simp [lasting_of_snd heq]

@[simp] theorem cmdDelete_lasting (force : Bool) (x : Entry) : (s.cmdDelete force x).2.lasting = s.lasting := by
  unfold State.cmdDelete
  split
  · next heq => split <;> simp [lasting_of_snd heq]
  · next heq => simp [lasting_of_snd heq]
  · next heq => simp [lasting_of_snd heq]

@[simp] theorem flushSlots_lasting (p : FlushPass) (xs : List Nat) : (s.flushSlots p xs).2.lasting = s.lasting := by
  induction xs generalizing s with
  | nil => rfl
  | cons x xs ih => 
    unfold State.flushSlots
    rw [← readEntry_lasting s x]
    rcases s.readEntry x with ⟨_ | e, u⟩
    · simp [ih]
    · dsimp only; split <;> simp [ih]

@[simp] theorem flushTo_lasting (p : FlushPass) (hi : Nat) : (s.flushTo p hi).2.lasting = s.lasting := by simp [State.flushTo]

@[simp] theorem cmdFlush_lasting (port req runnel tag : Nat) (force : Bool) : (s.cmdFlush port req runnel tag force).2.lasting = s.lasting := by
  unfold State.cmdFlush
  split <;> simp

@[simp] theorem deliverResult_lasting (req runnel : Nat) (ws : List Nat) : (s.deliverResult req runnel ws).lasting = s.lasting := by
  simp [State.deliverResult]

@[simp] theorem runCmd_lasting (op w0 w1 req : Nat) (x : Entry) : (s.runCmd op w0 w1 req x).2.lasting = s.lasting := by
  unfold State.runCmd
  split
  case h_3 | h_4 => split <;> simp
  all_goals simp

@[simp] theorem tableRun_lasting (req : Nat) (ws : List Nat) : (s.tableRun req ws).lasting = s.lasting := by
  unfold State.tableRun
  dsimp only
  split <;> simp

@[simp] theorem tableCmd_lasting (req : Nat) (ws : List Nat) : (s.tableCmd req ws).lasting = s.lasting := by simp [State.tableCmd]
@[simp] theorem slcGoWrite_lasting (d : Word) : (s.slcGoWrite d).lasting = s.lasting := by simp [State.slcGoWrite]

/-! ### Sys2Proof/Machine/Route.lean -/

@[simp] theorem decideNs_lasting : s.decideNs.2.lasting = s.lasting := by simp [State.decideNs]

@[simp] theorem lookupIid_lasting (iid : List Byte) : (s.lookupIid iid).2.lasting = s.lasting := by
  unfold State.lookupIid
  split <;> simp

@[simp] theorem walk_lasting (n : Nat) (hops : List (Nat × Entry)) : (s.walk n hops).2.2.lasting = s.lasting := by
  induction n generalizing s hops with
  | zero =>
    cases hops with
    | nil => rfl
    | cons h hops => unfold State.walk; dsimp only; split <;> rfl
  | succ n ih =>
    cases hops with
    | nil => rfl
    | cons h hops =>
      unfold State.walk
      dsimp only
      split
      · rfl
      · split
        · next heq => simp [lasting_of_snd heq]
        · next heq => split <;> simp [ih, lasting_of_snd heq]

@[simp] theorem decideEntry_lasting (i : Nat) (e : Entry) : (s.decideEntry i e).2.2.lasting = s.lasting := by
  unfold State.decideEntry
  dsimp only
  split
  · rfl
  · split
    · rfl
    · split
      · next heq => simp [lasting_of_third heq]
      · next heq => simp [lasting_of_third heq]
      · next heq =>
        split
        · simp [lasting_of_third heq]
        · split <;> next heq' => simp [lasting_of_snd heq', lasting_of_third heq]

@[simp] theorem decideIp_lasting (dst : List Byte) : (s.decideIp dst).2.2.lasting = s.lasting := by
  unfold State.decideIp
  dsimp only
  split
  · rfl
  · split
    · rfl
    · split
      · rfl
      · split <;> next heq => simp [lasting_of_snd heq]

@[simp] theorem decideParsed_lasting (p : Parsed) : (s.decideParsed p).2.2.lasting = s.lasting := by
  unfold State.decideParsed
  dsimp only
  (repeat' split) <;> simp

/-! ### Sys2Proof/Machine/Acks.lean -/

@[simp] theorem driftBase_lasting (i : Nat) : (s.driftBase i).2.lasting = s.lasting := by
  unfold State.driftBase
  split
  · rfl
  · split <;> next heq => simp [lasting_of_snd heq]

@[simp] theorem driftUpdate_lasting (i : Nat) (c : Int) (asn : Nat) : (s.driftUpdate i c asn).lasting = s.lasting := by simp [State.driftUpdate]

@[simp] theorem placeAck_lasting (f : RxFrame) (m : MacFrame) (c : Int) (key : Option JobKey) : (s.placeAck f m c key).lasting = s.lasting := by
  unfold State.placeAck
  dsimp only
  split
  · simp
  · split <;> next heq => simp [lasting_of_snd heq]

@[simp] theorem countTiming_lasting (f : RxFrame) : (s.countTiming f).lasting = s.lasting := by simp [State.countTiming]

@[simp] theorem ackRx_lasting (f : RxFrame) (m : MacFrame) (st : Status) (key : Option JobKey) : (s.ackRx f m st key).lasting = s.lasting := by
  unfold State.ackRx
  split <;> simp

@[simp] theorem destOf_lasting (d : MacFrame) : (s.destOf d).2.lasting = s.lasting := by
  unfold State.destOf
  split <;> next heq => rw [lasting_of_snd heq]; (repeat' split) <;> simp

@[simp] theorem answer_lasting (t : TxFrame) (st : Status) (rssi : Nat) : (s.answer t st rssi).lasting = s.lasting := by simp [State.answer]

@[simp] theorem matched_lasting (t : TxFrame) (f : RxFrame) (m : MacFrame) (src : Option Nat) : (s.matched t f m src).lasting = s.lasting := by
  unfold State.matched
  dsimp only
  (repeat' split) <;> simp

@[simp] theorem unmatched_lasting (t : TxFrame) : (s.unmatched t).lasting = s.lasting := by simp [State.unmatched]

@[simp] theorem candidate_lasting (f : RxFrame) (m : Option MacFrame) (st : Status) (src : Option Nat) :
    (s.candidate f m st src).2.lasting = s.lasting := by
  unfold State.candidate
  (repeat' split) <;> simp

@[simp] theorem micUnder_lasting (g : Nat) (f : RxFrame) (m : MacFrame) : (s.micUnder g f m).2.lasting = s.lasting := by
  unfold State.micUnder
  split <;> next heq => simp [lasting_of_snd heq]

@[simp] theorem airHeard_lasting (a : Nat) : (s.airHeard a).lasting = s.lasting := by simp [State.airHeard]
@[simp] theorem hearBeacon_lasting (f : RxFrame) (m : MacFrame) : (s.hearBeacon f m).lasting = s.lasting := by simp [State.hearBeacon]

@[simp] theorem hearTakeover_lasting (f : RxFrame) (m : MacFrame) : (s.hearTakeover f m).lasting = s.lasting := by
  unfold State.hearTakeover
  split <;> simp

/-! ### Sys2Proof/Machine/Sluice.lean -/

@[simp] theorem resolveSource_lasting (m : MacFrame) : (s.resolveSource m).2.2.lasting = s.lasting := by
  unfold State.resolveSource
  dsimp only
  (repeat' split) <;> simp

@[simp] theorem decideFrame_lasting (f : RxFrame) (h : RxHold) : (s.decideFrame f h).2.lasting = s.lasting := by
  unfold State.decideFrame
  dsimp only
  (repeat' split) <;> simp

@[simp] theorem setHold_lasting (id : Nat) (h : RxHold) : (s.setHold id h).lasting = s.lasting := by
  unfold State.setHold
  split <;> simp

@[simp] theorem pushPair_lasting (done dec : List Word) : (s.pushPair done dec).lasting = s.lasting := by simp [State.pushPair]

@[simp] theorem stripRoute_lasting (d : Decision) (st : Status) : (s.stripRoute d st).2.lasting = s.lasting := by
  unfold State.stripRoute
  (repeat' split) <;> simp

@[simp] theorem freeRx_lasting (f : RxFrame) : (s.freeRx f).lasting = s.lasting := by simp [State.freeRx]

@[simp] theorem completeRx_lasting (f : RxFrame) (h : RxHold) (st : Status) : (s.completeRx f h st).lasting = s.lasting := by
  unfold State.completeRx
  dsimp only
  (repeat' split) <;> simp

@[simp] theorem countRx_lasting (st : Status) : (s.countRx st).lasting = s.lasting := by
  unfold State.countRx
  split <;> simp

@[simp] theorem finishRx_lasting (id : Nat) (f : RxFrame) (h : RxHold) (st : Status) : (s.finishRx id f h st).lasting = s.lasting := by
  simp [State.finishRx]

@[simp] theorem applyEntry_lasting (i : Nat) (e : Entry) (f : RxFrame) (m : MacFrame) (st : Status) (epoch : Nat) :
    (s.applyEntry i e f m st epoch).lasting = s.lasting := by
  simp [State.applyEntry]

@[simp] theorem suspectStatus_lasting (i : Nat) (st : Status) (counted : Bool) : (s.suspectStatus i st counted).2.lasting = s.lasting := by
  unfold State.suspectStatus
  split <;> simp

@[simp] theorem commitKnown_lasting (id : Nat) (f : RxFrame) (h : RxHold) (m : MacFrame) (i : Nat) (e : Entry) (epoch : Nat) :
    (s.commitKnown id f h m i e epoch).lasting = s.lasting := by
  unfold State.commitKnown
  dsimp only
  (repeat' split) <;> simp

@[simp] theorem learn_lasting (f : RxFrame) (m : MacFrame) : (s.learn f m).2.lasting = s.lasting := by
  unfold State.learn
  split <;> simp

@[simp] theorem refreshLearned_lasting (r : Inserted) (f : RxFrame) : (s.refreshLearned r f).lasting = s.lasting := by simp [State.refreshLearned]

@[simp] theorem commitUnknown_lasting (id : Nat) (f : RxFrame) (h : RxHold) : (s.commitUnknown id f h).lasting = s.lasting := by
  unfold State.commitUnknown
  dsimp only
  (repeat' split) <;> simp

@[simp] theorem hear_lasting (f : RxFrame) : (s.hear f).lasting = s.lasting := by
  unfold State.hear
  split <;> simp

@[simp] theorem commitGood_lasting (s : State) (id : Nat) (f : RxFrame) (h : RxHold) : (State.commitGood s id f h).lasting = s.lasting := by
  unfold State.commitGood
  split
  · simp
  · simp
  · split
    · simp
    · split
      · next heq => simp [lasting_of_snd heq]
      · next heq => split <;> simp [lasting_of_snd heq]
  · simp

@[simp] theorem completeWired_lasting (p : Wired) (d : Decision) (st : Status) : (s.completeWired p d st).lasting = s.lasting := by
  simp [State.completeWired]

@[simp] theorem takeWired_lasting (p : Wired) : (s.takeWired p).lasting = s.lasting := by
  unfold State.takeWired
  dsimp only
  (repeat' split) <;> simp

@[simp] theorem agerNext_lasting : s.agerNext.lasting = s.lasting := (rfl)

@[simp] theorem agerVisit_lasting : s.agerVisit.lasting = s.lasting := by
  unfold State.agerVisit
  dsimp only
  split <;> next heq => simp [lasting_of_snd heq]

@[simp] theorem ageCtlWrite_lasting (d : Word) : (s.ageCtlWrite d).lasting = s.lasting := by simp [State.ageCtlWrite]
@[simp] theorem relocSeedWrite_lasting (d : Word) : (s.relocSeedWrite d).lasting = s.lasting := by simp [State.relocSeedWrite]

/-! ### Sys2Proof/Machine/Grotto.lean -/

@[simp] theorem randMsgs_lasting (n : Nat) : (s.randMsgs n).2.lasting = s.lasting := by
  induction n generalizing s with
  | zero => rfl
  | succ n ih => simp [State.randMsgs, ih]

@[simp] theorem rootReady_lasting (msgs : List Nat) : (s.rootReady msgs).lasting = s.lasting := by simp [State.rootReady]
@[simp] theorem refreshDue_lasting : s.refreshDue.lasting = s.lasting := by simp [State.refreshDue]
@[simp] theorem rootFailed_lasting (fails w : Nat) : (s.rootFailed fails w).lasting = s.lasting := by simp [State.rootFailed]
@[simp] theorem reconEnd_lasting (body : List Byte) : (s.reconEnd body).lasting = s.lasting := by simp [State.reconEnd]
@[simp] theorem enrolEnd_lasting (w : Nat) : (s.enrolEnd w).2.lasting = s.lasting := by simp [State.enrolEnd]
@[simp] theorem refreshEnd_lasting (w : Nat) (msgs : List Nat) : (s.refreshEnd w msgs).2.lasting = s.lasting := by simp [State.refreshEnd]
@[simp] theorem eraseMsgs_lasting : s.eraseMsgs.lasting = s.lasting := by simp [State.eraseMsgs]
@[simp] theorem floorDue_lasting (bit : Nat) : (s.floorDue bit).lasting = s.lasting := by simp [State.floorDue]
@[simp] theorem counterMarks_lasting (ovr : Bool) (i : Nat) : (s.counterMarks ovr i).lasting = s.lasting := by simp [State.counterMarks]

@[simp] theorem invalidateKey_lasting (ovr : Bool) (i : Nat) (old : KeySlot) : (s.invalidateKey ovr i old).lasting = s.lasting := by
  simp [State.invalidateKey]

@[simp] theorem putSlot_lasting (ovr : Bool) (i : Nat) (v : KeySlot) : (s.putSlot ovr i v).lasting = s.lasting := by
  cases ovr <;> simp [State.putSlot]

@[simp] theorem storeSlot_lasting (ovr : Bool) (i : Nat) (v : KeySlot) : (s.storeSlot ovr i v).lasting = s.lasting := by simp [State.storeSlot]

@[simp] theorem updateSlot_lasting (ovr : Bool) (i : Nat) (f : KeySlot → KeySlot) : (s.updateSlot ovr i f).lasting = s.lasting := by
  unfold State.updateSlot
  split
  · rfl
  · split <;> next heq => simp [lasting_of_snd heq]

@[simp] theorem readSlot_lasting (ovr : Bool) (i : Nat) : (s.readSlot ovr i).2.lasting = s.lasting := by
  unfold State.readSlot
  dsimp only
  split <;> next heq => simp [lasting_of_snd heq]

@[simp] theorem importKey_lasting (ovr : Bool) (i key : Nat) : (s.importKey ovr i key).lasting = s.lasting := by simp [State.importKey]
@[simp] theorem retireKey_lasting (ovr : Bool) (i : Nat) : (s.retireKey ovr i).lasting = s.lasting := by simp [State.retireKey]

@[simp] theorem bodyEntry_lasting (ovr : Bool) (new : Option Nat) (i : Nat) : (s.bodyEntry ovr new i).2.lasting = s.lasting := by
  unfold State.bodyEntry
  dsimp only
  split <;> next heq => simp [lasting_of_snd heq]

@[simp] theorem bodyEntries_lasting (ovr : Bool) (new : Option Nat) (xs : List Nat) : (s.bodyEntries ovr new xs).2.lasting = s.lasting := by
  induction xs generalizing s with
  | nil => rfl
  | cons x xs ih => simp [State.bodyEntries, ih]

@[simp] theorem pageBody_lasting (type page : Nat) (new : Option Nat) : (s.pageBody type page new).2.lasting = s.lasting := by simp [State.pageBody]
@[simp] theorem showKeys_lasting : s.showKeys.lasting = s.lasting := by simp [State.showKeys]
@[simp] theorem unwrapFail_lasting (value : Nat) : (s.unwrapFail value).lasting = s.lasting := by simp [State.unwrapFail]

@[simp] theorem loadDevKey_lasting (c : List Byte) : (s.loadDevKey c).2.lasting = s.lasting := by
  unfold State.loadDevKey
  dsimp only
  (repeat' split) <;> simp

@[simp] theorem loadEntry_lasting (ovr : Bool) (i : Nat) (b : List Byte) : (s.loadEntry ovr i b).lasting = s.lasting := by
  unfold State.loadEntry
  dsimp only
  (repeat' split) <;> simp

@[simp] theorem loadBody_lasting (type page : Nat) (b : List Byte) : (s.loadBody type page b).lasting = s.lasting := by simp [State.loadBody]
@[simp] theorem floorCommit_lasting (type page : Nat) : (s.floorCommit type page).lasting = s.lasting := by simp [State.floorCommit]
@[simp] theorem grtInput_lasting (n : Nat) : (s.grtInput n).2.lasting = s.lasting := by simp [State.grtInput]
@[simp] theorem grtTransported_lasting : s.grtTransported.2.lasting = s.lasting := by simp [State.grtTransported]

@[simp] theorem grtImport_lasting (ovr : Bool) (i : Nat) : (s.grtImport ovr i).2.lasting = s.lasting := by
  unfold State.grtImport
  split <;> next heq => simp [lasting_of_snd heq]

@[simp] theorem reconInput_lasting (op : Nat) : (s.reconInput op).2.lasting = s.lasting := by
  unfold State.reconInput
  split <;> simp

@[simp] theorem grtStart_lasting (c : GrtCmd) : (s.grtStart c).lasting = s.lasting := by simp [State.grtStart]

@[simp] theorem grtEnd_lasting (c : GrtCmd) : (s.grtEnd c).2.lasting = s.lasting := by
  unfold State.grtEnd
  (repeat' split) <;> simp

@[simp] theorem headStart_lasting (s : State) (id : Nat) (h : RxHold) (waited : Bool) : (State.headStart s id h waited).lasting = s.lasting := by
  unfold State.headStart
  dsimp only
  split
  · split
    · simp
    · split <;> next heq => simp [lasting_of_snd heq]
  · simp

@[simp] theorem entryEpoch_lasting (i : Nat) : (s.entryEpoch i).2.lasting = s.lasting := by
  unfold State.entryEpoch
  split <;> next heq => simp [lasting_of_snd heq]

@[simp] theorem staleVerdict_lasting (h : RxHold) (epoch : Nat) : (s.staleVerdict h epoch).2.lasting = s.lasting := by
  unfold State.staleVerdict
  split <;> simp

@[simp] theorem setSec_lasting (j : Nat) (f : TxFrame) (x : TxSec) : (s.setSec j f x).lasting = s.lasting := by
  unfold State.setSec
  split <;> simp

@[simp] theorem protectFail_lasting (j : Nat) (f : TxFrame) (st : Status) : (s.protectFail j f st).lasting = s.lasting := by simp [State.protectFail]

@[simp] theorem protectDest_lasting (m : MacFrame) : (s.protectDest m).2.lasting = s.lasting := by
  unfold State.protectDest
  split <;> simp

@[simp] theorem protectKey_lasting (f : TxFrame) (m : MacFrame) : (s.protectKey f m).2.lasting = s.lasting := by
  unfold State.protectKey
  split
  · rfl
  · split
    · dsimp only; split <;> simp
    · split
      · simp
      · split
        · next heq => split <;> simp [lasting_of_snd heq]
        · next heq => simp [lasting_of_snd heq]
        · next heq => simp [lasting_of_snd heq]

@[simp] theorem protectRead_lasting (j : Nat) (f : TxFrame) : (s.protectRead j f).2.2.2.lasting = s.lasting := by
  unfold State.protectRead
  split <;> simp

@[simp] theorem takeCounter_lasting (k : JobKey) : (s.takeCounter k).2.lasting = s.lasting := by
  unfold State.takeCounter
  split
  · next heq => simp [lasting_of_snd heq]
  · next heq => dsimp only; (repeat' split) <;> simp [lasting_of_snd heq]

@[simp] theorem protectStart_lasting (j : Nat) (f : TxFrame) (n : Nat) : (s.protectStart j f n).lasting = s.lasting := by
  unfold State.protectStart
  split
  · next heq => simp [lasting_of_fourth heq]
  · next heq => simp [lasting_of_fourth heq]
  · next heq =>
    split
    · simp [lasting_of_fourth heq]
    · split
      · next heq' => simp [lasting_of_snd heq', lasting_of_fourth heq]
      · next heq' => simp [lasting_of_snd heq', lasting_of_fourth heq]
      · next heq' => split <;> next heq'' => simp [lasting_of_snd heq'', lasting_of_snd heq', lasting_of_fourth heq]

@[simp] theorem protectArrive_lasting (j : Nat) (f : TxFrame) : (s.protectArrive j f).lasting = s.lasting :=
    foldl_lasting (fun s c => by split <;> simp) ..

@[simp] theorem redraw_lasting (xs : List Nat) : (s.redraw xs).lasting = s.lasting := by
  induction xs generalizing s with
  | nil => rfl
  | cons x xs ih => 
    unfold State.redraw
    rw [← keyRead_lasting s 3 x 0]
    rcases s.keyRead 3 x 0 with ⟨_ | v, u⟩ <;> simp [ih]

@[simp] theorem challenge_lasting : s.challenge.lasting = s.lasting := by simp [State.challenge]

end Sys2Proof.Machine
end

section
/-! PROOFS. What no command undoes, under the operations of the Runnels, the Ocell's schedule, the Boot block and the ports. -/

namespace Sys2Proof.Machine

variable (s : State)

/-! ### Sys2Proof/Machine/Runnels.lean -/

@[simp] theorem runnelEnable_lasting (n : Nat) : (s.runnelEnable n).lasting = s.lasting := by simp [State.runnelEnable]
@[simp] theorem freeIndex_lasting (c : Nat) : (s.freeIndex c).lasting = s.lasting := by simp [State.freeIndex]
@[simp] theorem flushDesc_lasting (n : Nat) (ws : List RunWord) : (s.flushDesc n ws).lasting = s.lasting := by simp [State.flushDesc]
@[simp] theorem flushPair_lasting (ws : List RunWord) : (s.flushPair ws).lasting = s.lasting := by simp [State.flushPair]

@[simp] theorem discardRecord_lasting (n : Nat) (ws : List RunWord) : (s.discardRecord n ws).lasting = s.lasting := by
  unfold State.discardRecord
  dsimp only
  (repeat' split) <;> simp

@[simp] theorem discard_lasting (n k : Nat) : (s.discard n k).lasting = s.lasting := by simp [State.discard]
@[simp] theorem flushStop_lasting (n : Nat) : (s.flushStop n).lasting = s.lasting := by simp [State.flushStop]
@[simp] theorem runnelOff_lasting (n : Nat) : (s.runnelOff n).lasting = s.lasting := by simp [State.runnelOff]
@[simp] theorem runnelDisable_lasting (n : Nat) : (s.runnelDisable n).lasting = s.lasting := by simp [State.runnelDisable]

@[simp] theorem runCfgWrite_lasting (n : Nat) (d : Word) : (s.runCfgWrite n d).lasting = s.lasting := by
  unfold State.runCfgWrite
  dsimp only
  (repeat' split) <;> simp

@[simp] theorem serveWaiting_lasting (n : Nat) : (s.serveWaiting n).lasting = s.lasting := by
  unfold State.serveWaiting
  dsimp only
  (repeat' split) <;> simp

@[simp] theorem serveEngines_lasting (q n : Nat) : (s.serveEngines q n).lasting = s.lasting := by
  induction n generalizing s with
  | zero => rfl
  | succ n ih => unfold State.serveEngines; split <;> simp [ih]

@[simp] theorem serveAll_lasting (n : Nat) : (s.serveAll n).lasting = s.lasting := by
  simp [State.serveAll]

@[simp] theorem hostPop_lasting (n : Nat) : (s.hostPop n).2.lasting = s.lasting := by
  unfold State.hostPop
  split <;> simp

@[simp] theorem hallocWrite_lasting (d : Word) : (s.hallocWrite d).lasting = s.lasting := by simp [State.hallocWrite]
@[simp] theorem flushWrite_lasting (n : Nat) : (s.flushWrite n).lasting = s.lasting := by simp [State.flushWrite]
@[simp] theorem runEvtWrite_lasting (n : Nat) (d : Word) : (s.runEvtWrite n d).lasting = s.lasting := by simp [State.runEvtWrite]
@[simp] theorem holdMarks_lasting (n : Nat) : (s.holdMarks n).lasting = s.lasting := by simp [State.holdMarks]

/-! ### Sys2Proof/Machine/OclOps.lean -/

@[simp] theorem setThr_lasting (t : Nat) (th : OclThread) : (s.setThr t th).lasting = s.lasting := (rfl)
@[simp] theorem oclCount_lasting (f : Fld) (t : Nat) : (s.oclCount f t).lasting = s.lasting := by simp [State.oclCount]
@[simp] theorem wdHold_lasting (t : Nat) : (s.wdHold t).lasting = s.lasting := by simp [State.wdHold]
@[simp] theorem wdRestart_lasting (t : Nat) : (s.wdRestart t).lasting = s.lasting := by simp [State.wdRestart]
@[simp] theorem wdKick_lasting (t : Nat) : (s.wdKick t).lasting = s.lasting := by simp [State.wdKick]
@[simp] theorem waitCount_lasting (t : Nat) : (s.waitCount t).lasting = s.lasting := by simp [State.waitCount]
@[simp] theorem setThrState_lasting (t st : Nat) : (s.setThrState t st).lasting = s.lasting := by simp [State.setThrState]
@[simp] theorem enterWait_lasting (t : Nat) (w : OclWait) : (s.enterWait t w).lasting = s.lasting := by simp [State.enterWait]
@[simp] theorem retire_lasting (t : Nat) : (s.retire t).lasting = s.lasting := by simp [State.retire]

@[simp] theorem specDrop_lasting (cells : List Nat) (i : SpecItem) : (s.specDrop cells i).lasting = s.lasting := by
  unfold State.specDrop
  dsimp only
  (repeat' split) <;> simp

@[simp] theorem specsDrop_lasting (t : Nat) (cells : List Nat) : (s.specsDrop t cells).lasting = s.lasting := by simp [State.specsDrop]
@[simp] theorem specRelease_lasting (t : Nat) (i : SpecItem) (f : TxFrame) : (s.specRelease t i f).lasting = s.lasting := by simp [State.specRelease]

@[simp] theorem specSeal_lasting (t : Nat) (i : SpecItem) : (s.specSeal t i).lasting = s.lasting := by
  unfold State.specSeal
  dsimp only
  (repeat' split) <;> simp

@[simp] theorem specsSeal_lasting (t : Nat) : (s.specsSeal t).lasting = s.lasting := by simp [State.specsSeal]

@[simp] theorem regionDrop_lasting (t : Nat) : (s.regionDrop t).lasting = s.lasting := by
  unfold State.regionDrop
  split <;> simp

@[simp] theorem dropTo_lasting (t cause : Nat) : (s.dropTo t cause).lasting = s.lasting := by
  unfold State.dropTo
  split <;> simp

@[simp] theorem jetStart_lasting (k : Nat) (again : Bool) : (s.jetStart k again).lasting = s.lasting := (rfl)

@[simp] theorem clusterStart_lasting (c : Nat) : (s.clusterStart c).lasting = s.lasting := by
  unfold State.clusterStart
  split <;> simp

@[simp] theorem oclWake_lasting (c : Nat) : (s.oclWake c).lasting = s.lasting := by simp [State.oclWake]
@[simp] theorem oclEvent_lasting (f : Fld) (t : Nat) : (s.oclEvent f t).lasting = s.lasting := by simp [State.oclEvent]
@[simp] theorem thrInit_lasting (t pc : Nat) : (s.thrInit t pc).lasting = s.lasting := by simp [State.thrInit]
@[simp] theorem thrStart_lasting (t : Nat) : (s.thrStart t).lasting = s.lasting := by simp [State.thrStart]
@[simp] theorem thrStop_lasting (t : Nat) : (s.thrStop t).lasting = s.lasting := by simp [State.thrStop]

@[simp] theorem haltNow_lasting (t : Nat) : (s.haltNow t).lasting = s.lasting := by
  unfold State.haltNow
  split <;> simp

@[simp] theorem thrHalt_lasting (t : Nat) : (s.thrHalt t).lasting = s.lasting := by simp [State.thrHalt]
@[simp] theorem resumeNow_lasting (t : Nat) : (s.resumeNow t).lasting = s.lasting := by simp [State.resumeNow]
@[simp] theorem thrResume_lasting (t : Nat) : (s.thrResume t).lasting = s.lasting := by simp [State.thrResume]
@[simp] theorem thrCtlWrite_lasting (t : Nat) (d : Word) : (s.thrCtlWrite t d).lasting = s.lasting := by simp [State.thrCtlWrite]
@[simp] theorem wdWrite_lasting (t : Nat) (d : Word) : (s.wdWrite t d).lasting = s.lasting := by simp [State.wdWrite]
@[simp] theorem dbgSet_lasting (t r : Nat) (v : Word) : (s.dbgSet t r v).lasting = s.lasting := by simp [State.dbgSet]

@[simp] theorem dbgDataRead_lasting (t : Nat) : (s.dbgDataRead t).2.lasting = s.lasting := by
  unfold State.dbgDataRead
  split <;> simp

@[simp] theorem dbgDataWrite_lasting (t : Nat) (d : Word) : (s.dbgDataWrite t d).lasting = s.lasting := by simp [State.dbgDataWrite]

@[simp] theorem jDbgDataRead_lasting : s.jDbgDataRead.2.lasting = s.lasting := by
  unfold State.jDbgDataRead
  split <;> simp

@[simp] theorem jDbgDataWrite_lasting (d : Word) : (s.jDbgDataWrite d).lasting = s.lasting := by simp [State.jDbgDataWrite]
@[simp] theorem jResume_lasting : s.jResume.lasting = s.lasting := by simp [State.jResume]
@[simp] theorem jHalt_lasting : s.jHalt.lasting = s.lasting := by simp [State.jHalt]
@[simp] theorem jDbgSelWrite_lasting (d : Word) : (s.jDbgSelWrite d).lasting = s.lasting := by simp [State.jDbgSelWrite]

/-! ### Sys2Proof/Machine/Boot.lean -/

@[simp] theorem writeHdr_lasting (k : Nat) (h : BootHdr) : (s.writeHdr k h).lasting = s.lasting := by simp [State.writeHdr]

@[simp] theorem editHdr_lasting (f : BootHdr → BootHdr) : (s.editHdr f).lasting = s.lasting := by
  unfold State.editHdr
  split <;> simp

@[simp] theorem loadBytes_lasting (m o : Nat) (bs : List Byte) : (s.loadBytes m o bs).lasting = s.lasting := by simp [State.loadBytes]
@[simp] theorem loadSection_lasting (r : Nat) (x : ImgSection) : (s.loadSection r x).lasting = s.lasting := by simp [State.loadSection]
@[simp] theorem loadAll_lasting (r : Nat) : (s.loadAll r).lasting = s.lasting := by simp [State.loadAll]

@[simp] theorem enter_lasting (r : Nat) (warm fallback : Bool) (result : Nat) : (s.enter r warm fallback result).lasting = s.lasting := by
  simp [State.enter]

@[simp] theorem romStop_lasting : s.romStop.lasting = s.lasting := by simp [State.romStop]
@[simp] theorem bootFail_lasting (r code : Nat) : (s.bootFail r code).lasting = s.lasting := by simp [State.bootFail]

@[simp] theorem romStart_lasting : (s.romStart).lasting = s.lasting := by
  have h := thrInit_lasting s 129 0
  simp only [State.lasting, Lasting.mk.injEq] at h
  unfold State.romStart
  split
  · rfl
  · simp only [lasting_mk, h]; rfl

@[simp] theorem loadTorn_lasting (x : ImgSection) : (s.loadTorn x).lasting = s.lasting := by
  unfold State.loadTorn
  dsimp only
  rw [loadBytes_lasting]
  exact List.foldlRecOn (motive := fun p : List Byte × State => p.2.lasting = s.lasting) _ _ rfl fun p h _ _ => by simp [h]

@[simp] theorem loadWarm_lasting (r : Nat) (xs : List ImgSection) : (s.loadWarm r xs).2.lasting = s.lasting := by
  induction xs generalizing s with
  | nil => rfl
  | cons x xs ih => unfold State.loadWarm; (repeat' split) <;> simp [ih]

@[simp] theorem stopFrames_lasting : s.stopFrames.lasting = s.lasting := by simp [State.stopFrames]
@[simp] theorem stopAll_lasting : s.stopAll.lasting = s.lasting := by simp [State.stopAll]

@[simp] theorem warmLoad_lasting (r : Nat) : (s.warmLoad r).2.lasting = s.lasting := by
  unfold State.warmLoad
  (repeat' split) <;> simp

/-! ### Sys2Proof/Machine/Silt.lean -/

@[simp] theorem eraseAhead_lasting : s.eraseAhead.lasting = s.lasting := by simp [State.eraseAhead]
@[simp] theorem siltStart_lasting : s.siltStart.lasting = s.lasting := by simp [State.siltStart]
@[simp] theorem siltProgrammed_lasting (w : FlsOp) : (s.siltProgrammed w).lasting = s.lasting := by simp [State.siltProgrammed]
@[simp] theorem siltFailed_lasting (w : FlsOp) : (s.siltFailed w).lasting = s.lasting := by simp [State.siltFailed]
@[simp] theorem siltOpDone_lasting (w : FlsOp) (fail : Bool) : (s.siltOpDone w fail).lasting = s.lasting := by simp [State.siltOpDone]
@[simp] theorem siltDone_lasting : s.siltDone.lasting = s.lasting := by simp [State.siltDone]
@[simp] theorem siltPfail_lasting : s.siltPfail.lasting = s.lasting := by simp [State.siltPfail]
@[simp] theorem setBuffer_lasting (rs : List (List Byte)) : (s.setBuffer rs).lasting = s.lasting := by simp [State.setBuffer]
@[simp] theorem restoreBuffer_lasting (h0 s0 q0 : Nat) : (s.restoreBuffer h0 s0 q0).lasting = s.lasting := by simp [State.restoreBuffer]
@[simp] theorem ringWritePoint_lasting (k q : Nat) : (s.ringWritePoint k q).lasting = s.lasting := by simp [State.ringWritePoint]
@[simp] theorem continueFrom_lasting (r : List Byte) : (s.continueFrom r).lasting = s.lasting := by simp [State.continueFrom]

@[simp] theorem ringScan_lasting : s.ringScan.lasting = s.lasting := by
  unfold State.ringScan
  (repeat' split) <;> simp

/-! ### Sys2Proof/Machine/Flash.lean -/

@[simp] theorem setFlsBuf_lasting (i : Nat) (bs : List Byte) : (s.setFlsBuf i bs).lasting = s.lasting := by simp [State.setFlsBuf]
@[simp] theorem flsFinish_lasting (i : Nat) (ok : Bool) (reason : Nat) : (s.flsFinish i ok reason).lasting = s.lasting := by simp [State.flsFinish]

@[simp] theorem flsCmdWrite_lasting (i op len : Nat) : (s.flsCmdWrite i op len).lasting = s.lasting := by
  unfold State.flsCmdWrite
  dsimp only
  (repeat' split) <;> simp

@[simp] theorem flsCmdEnd_lasting (i : Nat) (w : FlsOp) (fail : Bool) : (s.flsCmdEnd i w fail).lasting = s.lasting := by simp [State.flsCmdEnd]

/-! ### Sys2Proof/Machine/Ethernet.lean -/

@[simp] theorem setEthPort_lasting (p : Nat) (v : EthPort) : (s.setEthPort p v).lasting = s.lasting := (rfl)

@[simp] theorem ptpRelay_lasting (p : Nat) (b : List Byte) (t : Nat) : (s.ptpRelay p b t).lasting = s.lasting := by
  unfold State.ptpRelay
  split <;> simp

@[simp] theorem relayCopy_lasting (r : EthRelay) : (s.relayCopy r).2.lasting = s.lasting := by
  unfold State.relayCopy
  dsimp only
  (repeat' split) <;> simp

@[simp] theorem ethAccept_lasting (p : Nat) (f : Passing) (b : List Byte) : (s.ethAccept p f b).lasting = s.lasting := by
  unfold State.ethAccept
  split <;> next heq => simp [lasting_of_snd heq]

@[simp] theorem ethCheck_lasting (p t : Nat) (f : Passing) : (s.ethCheck p t f).lasting = s.lasting := by simp [State.ethCheck]

@[simp] theorem egressDone_lasting {drop : State → State} (h : ∀ t, (drop t).lasting = t.lasting) (s : State) (r : Nat) (all : Bool) (b w0 : Nat)
    (c : Word) (st : Status) (ts : Nat) : (s.egressDone r all drop b w0 c st ts).lasting = s.lasting := by
  unfold State.egressDone; dsimp only; split <;> simp [h]

@[simp] theorem ethDone_lasting (p w0 : Nat) (cookie : Word) (st : Status) (ts : Nat) (frees : Bool) :
    (s.ethDone p w0 cookie st ts frees).lasting = s.lasting := by
  simp [State.ethDone]

@[simp] theorem ethStart_lasting (p : Nat) (t : EthTx) : (s.ethStart p t).lasting = s.lasting := by simp [State.ethStart]

@[simp] theorem ethRecord_lasting (p w0 : Nat) (cookie : Word) : (s.ethRecord p w0 cookie).lasting = s.lasting := by
  unfold State.ethRecord
  dsimp only
  (repeat' split) <;> simp

@[simp] theorem ethPop_lasting (p : Nat) : (s.ethPop p).lasting = s.lasting := by simp [State.ethPop]
@[simp] theorem ethEmit_lasting (p : Nat) (bs : List Byte) : (s.ethEmit p bs).lasting = s.lasting := by simp [State.ethEmit]
@[simp] theorem ethIdle_lasting (p : Nat) : (s.ethIdle p).lasting = s.lasting := by simp [State.ethIdle]

@[simp] theorem ethCut_lasting (p : Nat) : (s.ethCut p).lasting = s.lasting := by
  unfold State.ethCut
  dsimp only
  (repeat' split) <;> simp

@[simp] theorem ethLinkFall_lasting (p : Nat) : (s.ethLinkFall p).lasting = s.lasting := by simp [State.ethLinkFall]
@[simp] theorem ethLinkLost_lasting (p : Nat) (cut : Bool) : (s.ethLinkLost p cut).lasting = s.lasting := by simp [State.ethLinkLost]
@[simp] theorem ethCtlWrite_lasting (p : Nat) (d : Word) : (s.ethCtlWrite p d).lasting = s.lasting := by simp [State.ethCtlWrite]

@[simp] theorem ethParamWrite_lasting (id : RegId) (mask : Word) (p : Nat) (d : Word) : (s.ethParamWrite id mask p d).lasting = s.lasting := by
  simp [State.ethParamWrite]

/-! ### Sys2Proof/Machine/HostPcie.lean -/

@[simp] theorem hostAnswer_lasting (bs : List Byte) (bad : Bool) : (s.hostAnswer bs bad).lasting = s.lasting := (rfl)
@[simp] theorem bar2Write_lasting (o : Nat) (bs : List Byte) : (s.bar2Write o bs).lasting = s.lasting := by simp [State.bar2Write]
@[simp] theorem bar2Read_lasting (o n : Nat) : (s.bar2Read o n).lasting = s.lasting := by simp [State.bar2Read]
@[simp] theorem setAer_lasting (a : AerState) : (s.setAer a).lasting = s.lasting := (rfl)
@[simp] theorem configSet_lasting (mps mrrs : Nat) (d3hot : Bool) : (s.configSet mps mrrs d3hot).lasting = s.lasting := by simp [State.configSet]

@[simp] theorem configWrite_lasting (w : ConfigWrite) : (s.configWrite w).lasting = s.lasting := by
  unfold State.configWrite
  (repeat' split) <;> simp

@[simp] theorem setRing_lasting (n : Nat) (r : HostRing) : (s.setRing n r).lasting = s.lasting := (rfl)
@[simp] theorem ringStop_lasting (n : Nat) : (s.ringStop n).lasting = s.lasting := by simp [State.ringStop]
@[simp] theorem ringError_lasting (n : Nat) : (s.ringError n).lasting = s.lasting := by simp [State.ringError]
@[simp] theorem ringLose_lasting (n : Nat) : (s.ringLose n).lasting = s.lasting := by simp [State.ringLose]
@[simp] theorem ringsStop_lasting (popped : List Nat) : (s.ringsStop popped).lasting = s.lasting := by simp [State.ringsStop]

@[simp] theorem ringCtlWrite_lasting (n : Nat) (d : Word) (busy : Bool) : (s.ringCtlWrite n d busy).lasting = s.lasting := by
  unfold State.ringCtlWrite
  dsimp only
  (repeat' split) <;> simp

@[simp] theorem ringParamWrite_lasting (id : RegId) (n : Nat) (d : Word) : (s.ringParamWrite id n d).lasting = s.lasting := by
  simp [State.ringParamWrite]

@[simp] theorem beyondReach_lasting (n idx : Nat) : (s.beyondReach n idx).lasting = s.lasting := by simp [State.beyondReach]
@[simp] theorem doorbell_lasting (n idx : Nat) : (s.doorbell n idx).lasting = s.lasting := by simp [State.doorbell]
@[simp] theorem ringSignal_lasting (n : Nat) : (s.ringSignal n).lasting = s.lasting := by simp [State.ringSignal]
@[simp] theorem hostWrite_lasting (a : Nat) (bs : List Byte) : (s.hostWrite a bs).lasting = s.lasting := (rfl)
@[simp] theorem ringMoved_lasting (n index : Nat) : (s.ringMoved n index).lasting = s.lasting := by simp [State.ringMoved]
theorem unstop_lasting {s t : State} {n k : Nat} (h : s.unstop n = some (k, t)) : t.lasting = s.lasting := by
  unfold State.unstop at h
  split at h
  · split at h
    · obtain ⟨-, rfl⟩ := Prod.mk.inj (Option.some.inj h)
      simp
    · cases h
  · cases h

@[simp] theorem ringMove_lasting {f : State → State} (h : ∀ t, (f t).lasting = t.lasting) (s : State) (n : Nat) :
    (s.ringMove n f).lasting = s.lasting := by
  unfold State.ringMove
  split
  · next idx t heq => simp [h, unstop_lasting heq]
  · exact h s

@[simp] theorem ringIn_lasting (n : Nat) (ws : List Word) : (s.ringIn n ws).lasting = s.lasting := by simp [State.ringIn]
@[simp] theorem ringOut_lasting (n : Nat) : (s.ringOut n).lasting = s.lasting := by simp [State.ringOut]
@[simp] theorem pcieDown_lasting : s.pcieDown.lasting = s.lasting := by simp [State.pcieDown]
@[simp] theorem hotReset_lasting (popped : List Nat) : (s.hotReset popped).lasting = s.lasting := by simp [State.hotReset]
@[simp] theorem ingressEnd_lasting (p : Wired) (st : Status) : (s.ingressEnd p st).lasting = s.lasting := by simp [State.ingressEnd]
@[simp] theorem takeIngress_lasting (ws : List RunWord) : (s.takeIngress ws).lasting = s.lasting := by simp [State.takeIngress]

/-! ### Sys2Proof/Machine/MemInt.lean -/

@[simp] theorem skimBegin_lasting : s.skimBegin.lasting = s.lasting := by simp [State.skimBegin]
@[simp] theorem skimCtlWrite_lasting (d : Word) : (s.skimCtlWrite d).lasting = s.lasting := by simp [State.skimCtlWrite]
@[simp] theorem skimParamWrite_lasting (id : RegId) (d : Word) : (s.skimParamWrite id d).lasting = s.lasting := by simp [State.skimParamWrite]
@[simp] theorem skimNote_lasting (w : Nat) (prior : Bool) : (s.skimNote w prior).lasting = s.lasting := by simp [State.skimNote]
@[simp] theorem skimRead_lasting (m w : Nat) : (s.skimRead m w).lasting = s.lasting := by simp [State.skimRead]
@[simp] theorem flipCtlWrite_lasting (d : Word) : (s.flipCtlWrite d).lasting = s.lasting := by simp [State.flipCtlWrite]

@[simp] theorem flipParamWrite_lasting (id : RegId) (mask d : Word) : (s.flipParamWrite id mask d).lasting = s.lasting := by
  simp [State.flipParamWrite]

/-! ### Sys2Proof/Machine/Clepsydra.lean -/

@[simp] theorem nowLatch_lasting : s.nowLatch.lasting = s.lasting := by simp [State.nowLatch]
@[simp] theorem clpStart_lasting : s.clpStart.lasting = s.lasting := by simp [State.clpStart]
@[simp] theorem rejectSample_lasting : s.rejectSample.lasting = s.lasting := by simp [State.rejectSample]
@[simp] theorem acceptSample_lasting (off : Int) (interval : Nat) : (s.acceptSample off interval).lasting = s.lasting := by simp [State.acceptSample]
@[simp] theorem sample_lasting (off : Int) (interval : Nat) : (s.sample off interval).lasting = s.lasting := by simp [State.sample]
@[simp] theorem specLate_lasting (f : TxFrame) : (s.specLate f).lasting = s.lasting := by simp [State.specLate]

@[simp] theorem overtaken_lasting (j : Nat) (f : TxFrame) : (s.overtaken j f).lasting = s.lasting := by
  unfold State.overtaken
  (repeat' split) <;> simp

@[simp] theorem shiftTimes_lasting (d : Int) : (s.shiftTimes d).lasting = s.lasting := by simp [State.shiftTimes]
@[simp] theorem jumpTo_lasting (q : Nat) : (s.jumpTo q).lasting = s.lasting := by simp [State.jumpTo]
@[simp] theorem clpSet_lasting : s.clpSet.lasting = s.lasting := by simp [State.clpSet]
@[simp] theorem clpStep_lasting : s.clpStep.lasting = s.lasting := by simp [State.clpStep]
@[simp] theorem mirrorReg_lasting (id : RegId) (i : Nat) (d : Word) : (s.mirrorReg id i d).lasting = s.lasting := by simp [State.mirrorReg]
@[simp] theorem handoverSlot_lasting : s.handoverSlot.lasting = s.lasting := by simp [State.handoverSlot]
@[simp] theorem asnStart_lasting : s.asnStart.lasting = s.lasting := by simp [State.asnStart]
@[simp] theorem clpArm_lasting : s.clpArm.lasting = s.lasting := by simp [State.clpArm]
@[simp] theorem clpDisarm_lasting : s.clpDisarm.lasting = s.lasting := by simp [State.clpDisarm]
@[simp] theorem anchorWrite_lasting (id : RegId) (mask d : Word) : (s.anchorWrite id mask d).lasting = s.lasting := by simp [State.anchorWrite]
@[simp] theorem ofsWrite_lasting (d : Word) : (s.ofsWrite d).lasting = s.lasting := by simp [State.ofsWrite]
@[simp] theorem masterChg_lasting : s.masterChg.lasting = s.lasting := by simp [State.masterChg]
@[simp] theorem resetI_lasting : s.resetI.lasting = s.lasting := by simp [State.resetI]
@[simp] theorem clpCmdWrite_lasting (d : Word) : (s.clpCmdWrite d).lasting = s.lasting := by simp [State.clpCmdWrite]
@[simp] theorem steerCtlWrite_lasting (d : Word) : (s.steerCtlWrite d).lasting = s.lasting := by simp [State.steerCtlWrite]
@[simp] theorem ppsStamp_lasting (t : Nat) : (s.ppsStamp t).lasting = s.lasting := by simp [State.ppsStamp]
@[simp] theorem ppsEdge_lasting (on : Bool) (arrived : Nat) : (s.ppsEdge on arrived).lasting = s.lasting := by simp [State.ppsEdge]
@[simp] theorem ppsCtlWrite_lasting (d : Word) : (s.ppsCtlWrite d).lasting = s.lasting := by simp [State.ppsCtlWrite]

/-! ### Sys2Proof/Machine/Schedule.lean -/

@[simp] theorem keepCell_lasting (i : Nat) : (s.keepCell i).lasting = s.lasting := by simp [State.keepCell]
@[simp] theorem cellSet_lasting (i : Nat) (d : Word) : (s.cellSet i d).lasting = s.lasting := by simp [State.cellSet]
@[simp] theorem cellWrite_lasting (d : Word) : (s.cellWrite d).lasting = s.lasting := by simp [State.cellWrite]
@[simp] theorem schedWrite_lasting (id : RegId) (i : Nat) (d : Word) : (s.schedWrite id i d).lasting = s.lasting := by simp [State.schedWrite]

@[simp] theorem schedApply_lasting (key : Nat) (ws : List Word) : (s.schedApply key ws).lasting = s.lasting := by
  unfold State.schedApply
  dsimp only
  (repeat' split) <;> simp

@[simp] theorem schedWords_lasting (key i : Nat) : (s.schedWords key i).2.lasting = s.lasting := by
  unfold State.schedWords
  split <;> simp

/-! ### Sys2Proof/Machine/Twin.lean -/

@[simp] theorem twnStart_lasting : s.twnStart.lasting = s.lasting := by simp [State.twnStart]
@[simp] theorem twnStop_lasting : s.twnStop.lasting = s.lasting := by simp [State.twnStop]

@[simp] theorem twnCtlWrite_lasting (d : Word) : (s.twnCtlWrite d).lasting = s.lasting := by
  unfold State.twnCtlWrite
  dsimp only
  (repeat' split) <;> simp

@[simp] theorem twnParamWrite_lasting (id : RegId) (d : Word) : (s.twnParamWrite id d).lasting = s.lasting := by simp [State.twnParamWrite]
@[simp] theorem linkHeard_lasting : s.linkHeard.lasting = s.lasting := by simp [State.linkHeard]

@[simp] theorem pairConflict_lasting (p : TwnPeer) : (s.pairConflict p).lasting = s.lasting := by
  unfold State.pairConflict
  dsimp only
  (repeat' split) <;> simp

@[simp] theorem heartbeatRole_lasting (p : TwnPeer) : (s.heartbeatRole p).lasting = s.lasting := by
  unfold State.heartbeatRole
  split <;> simp

@[simp] theorem heartbeat_lasting (at_ stamp w : Nat) : (s.heartbeat at_ stamp w).lasting = s.lasting := by
  unfold State.heartbeat
  dsimp only
  (repeat' split) <;> simp

@[simp] theorem syncSlot_lasting (i : Nat) : (s.syncSlot i).2.lasting = s.lasting := by simp [State.syncSlot]

@[simp] theorem syncDrift_lasting (i : Nat) : (s.syncDrift i).2.lasting = s.lasting := by
  unfold State.syncDrift
  split <;> next heq => simp [lasting_of_snd heq]

@[simp] theorem bulkWords_lasting (cls key i : Nat) : (s.bulkWords cls key i).2.lasting = s.lasting := by
  unfold State.bulkWords
  dsimp only
  (repeat' split) <;> simp

@[simp] theorem validSlots_lasting (xs : List Nat) : (s.validSlots xs).2.lasting = s.lasting := by
  induction xs generalizing s with
  | nil => rfl
  | cons x xs ih => simp [State.validSlots, ih]

@[simp] theorem validDrifts_lasting (xs : List Nat) : (s.validDrifts xs).2.lasting = s.lasting := by
  induction xs generalizing s with
  | nil => rfl
  | cons x xs ih => simp [State.validDrifts, ih]

@[simp] theorem bulkPass_lasting : s.bulkPass.lasting = s.lasting := by simp [State.bulkPass]
@[simp] theorem bulkStart_lasting : s.bulkStart.lasting = s.lasting := by simp [State.bulkStart]
@[simp] theorem mirrorOut_lasting (ws : List Word) : (s.mirrorOut ws).lasting = s.lasting := by simp [State.mirrorOut]
@[simp] theorem bulkNext_lasting (cls k : Nat) (rest : List (Nat × Nat)) : (s.bulkNext cls k rest).lasting = s.lasting := by simp [State.bulkNext]
@[simp] theorem floorEntry_lasting (ovr : Bool) (i w : Nat) : (s.floorEntry ovr i w).lasting = s.lasting := by simp [State.floorEntry]
@[simp] theorem floorApply_lasting (key : Nat) (ws : List Word) : (s.floorApply key ws).lasting = s.lasting := by simp [State.floorApply]

@[simp] theorem mirrorApply_lasting (ws : List Word) : (s.mirrorApply ws).lasting = s.lasting := by
  unfold State.mirrorApply
  dsimp only
  (repeat' split) <;> simp

@[simp] theorem resyncArrives_lasting : s.resyncArrives.lasting = s.lasting := by
  unfold State.resyncArrives
  split <;> simp

@[simp] theorem syncEnds_lasting : s.syncEnds.lasting = s.lasting := by simp [State.syncEnds]

@[simp] theorem takeoverPlace_lasting : s.takeoverPlace.lasting = s.lasting := by
  unfold State.takeoverPlace
  dsimp only
  split <;> next heq => simp [lasting_of_snd heq]

@[simp] theorem twnHandover_lasting : s.twnHandover.lasting = s.lasting := by simp [State.twnHandover]
@[simp] theorem twnResync_lasting : s.twnResync.lasting = s.lasting := by simp [State.twnResync]
@[simp] theorem twnCmdWrite_lasting (d : Word) : (s.twnCmdWrite d).lasting = s.lasting := by simp [State.twnCmdWrite]
@[simp] theorem handoverArrives_lasting : s.handoverArrives.lasting = s.lasting := by simp [State.handoverArrives]
@[simp] theorem goodbyeArrives_lasting : s.goodbyeArrives.lasting = s.lasting := by simp [State.goodbyeArrives]
@[simp] theorem takeoverArrives_lasting (w : Nat) : (s.takeoverArrives w).lasting = s.lasting := by simp [State.takeoverArrives]

@[simp] theorem packetArrives_lasting (f : Passing) (bs : List Byte) : (s.packetArrives f bs).lasting = s.lasting := by
  unfold State.packetArrives
  split <;> next heq => simp [lasting_of_snd heq]

@[simp] theorem twnReceive_lasting (f : Passing) : (s.twnReceive f).lasting = s.lasting := by
  unfold State.twnReceive
  dsimp only
  (repeat' split) <;> simp

@[simp] theorem twnTxDone_lasting (w0 : Nat) (cookie : Word) (st : Status) (ts : Nat) (frees : Bool) :
    (s.twnTxDone w0 cookie st ts frees).lasting = s.lasting := by
  simp [State.twnTxDone]

@[simp] theorem twnTx_lasting (w0 : Nat) (cookie : Word) : (s.twnTx w0 cookie).lasting = s.lasting := by
  unfold State.twnTx
  dsimp only
  (repeat' split) <;> simp

/-! ### Sys2Proof/Machine/Obs.lean -/

@[simp] theorem stillTake_lasting : s.stillTake.lasting = s.lasting := by simp [State.stillTake]

@[simp] theorem stillRelease_lasting : s.stillRelease.lasting = s.lasting := by
  unfold State.stillRelease
  split <;> simp

@[simp] theorem stillWrite_lasting (d : Word) : (s.stillWrite d).lasting = s.lasting := by simp [State.stillWrite]
@[simp] theorem waitCounts_lasting : s.waitCounts.lasting = s.lasting := by simp [State.waitCounts]
@[simp] theorem countersClear_lasting : s.countersClear.lasting = s.lasting := by simp [State.countersClear]
@[simp] theorem siltPostWrite_lasting (req code value : Nat) : (s.siltPostWrite req code value).lasting = s.lasting := by simp [State.siltPostWrite]
@[simp] theorem statClear_lasting : s.statClear.lasting = s.lasting := by simp [State.statClear]
@[simp] theorem siltCtlWrite_lasting (d : Word) : (s.siltCtlWrite d).lasting = s.lasting := by simp [State.siltCtlWrite]
@[simp] theorem siltCfgWrite_lasting (d : Word) : (s.siltCfgWrite d).lasting = s.lasting := by simp [State.siltCfgWrite]

@[simp] theorem eddyRelease_lasting (k : Nat) : (s.eddyRelease k).lasting = s.lasting := by
  unfold State.eddyRelease
  dsimp only
  (repeat' split) <;> simp

@[simp] theorem eddyClose_lasting : s.eddyClose.lasting = s.lasting := by simp [State.eddyClose]
@[simp] theorem eddyKeyWrite_lasting (d : Word) : (s.eddyKeyWrite d).lasting = s.lasting := by simp [State.eddyKeyWrite]
@[simp] theorem eddySeedWrite_lasting (k : Nat) (d : Word) : (s.eddySeedWrite k d).lasting = s.lasting := by simp [State.eddySeedWrite]
@[simp] theorem eddyCfgWrite_lasting (k : Nat) (d : Word) : (s.eddyCfgWrite k d).lasting = s.lasting := by simp [State.eddyCfgWrite]

/-! ### Sys2Proof/Machine/Power.lean -/

@[simp] theorem tear_lasting (w : FlsOp) : (s.tear w).lasting = s.lasting := by simp [State.tear]

@[simp] theorem tearFlash_lasting : s.tearFlash.lasting = s.lasting := by
  unfold State.tearFlash
  dsimp only
  (repeat' split) <;> simp

@[simp] theorem fullReset_lasting (cause : Nat) : (s.fullReset cause).lasting = s.lasting := by
  have hpending : (s.meterFlush.tearFlash.resetRegs cause).pending = s.meterFlush.tearFlash.pending := rfl
  unfold State.fullReset
  dsimp only
  rw [lasting_mk, hpending, lasting_fields]
  simp

@[simp] theorem goodbyeSend_lasting : s.goodbyeSend.lasting = s.lasting := by simp [State.goodbyeSend]
@[simp] theorem requestReset_lasting (bit : Nat) : (s.requestReset bit).lasting = s.lasting := by simp [State.requestReset]
@[simp] theorem wedgeMark_lasting (k : Nat) : (s.wedgeMark k).lasting = s.lasting := by simp [State.wedgeMark]
@[simp] theorem wedgeReset_lasting (k : Nat) : (s.wedgeReset k).lasting = s.lasting := by simp [State.wedgeReset]
@[simp] theorem wedgeCore_lasting (k : Nat) : (s.wedgeCore k).lasting = s.lasting := by simp [State.wedgeCore]
@[simp] theorem drbgStart_lasting : s.drbgStart.lasting = s.lasting := by simp [State.drbgStart]
@[simp] theorem release_lasting (strap : Nat) : (s.release strap).lasting = s.lasting := by simp [State.release]
@[simp] theorem pfailChain_lasting (j : Nat) : (s.pfailChain j).lasting = s.lasting := by simp [State.pfailChain]
@[simp] theorem pfailStart_lasting (causes : Nat) : (s.pfailStart causes).lasting = s.lasting := by simp [State.pfailStart]
@[simp] theorem pfailHeld_lasting : s.pfailHeld.lasting = s.lasting := by simp [State.pfailHeld]
@[simp] theorem pfailCtlWrite_lasting (d : Word) : (s.pfailCtlWrite d).lasting = s.lasting := by simp [State.pfailCtlWrite]
@[simp] theorem setJetLock_lasting (k v : Nat) : (s.setJetLock k v).lasting = s.lasting := by simp [State.setJetLock]
@[simp] theorem sscWrite_lasting (d : Word) : (s.sscWrite d).lasting = s.lasting := by simp [State.sscWrite]
@[simp] theorem dormantWrite_lasting (d : Word) : (s.dormantWrite d).lasting = s.lasting := by simp [State.dormantWrite]
@[simp] theorem wakeUp_lasting : s.wakeUp.lasting = s.lasting := (rfl)
@[simp] theorem resetCtlWrite_lasting (d : Word) : (s.resetCtlWrite d).lasting = s.lasting := by simp [State.resetCtlWrite]

@[simp] theorem rstN_lasting : s.rstN.lasting = s.lasting := by
  unfold State.rstN
  split <;> simp

@[simp] theorem powerLost_lasting : s.powerLost.lasting = s.lasting := by
  unfold State.powerLost
  split <;> simp

/-! ### Sys2Proof/Machine/Spillway.lean -/

@[simp] theorem spwShow_lasting (k : Nat) : (s.spwShow k).lasting = s.lasting := by simp [State.spwShow]
@[simp] theorem putSpw_lasting (k : Nat) (p : SpwSession) : (s.putSpw k p).lasting = s.lasting := by simp [State.putSpw]
@[simp] theorem spwResult_lasting (st : Status) (reason : Nat) : (s.spwResult st reason).lasting = s.lasting := by simp [State.spwResult]

@[simp] theorem spwWhen_lasting {f : State → State} (h : ∀ t, (f t).lasting = t.lasting) (s : State) (c : Bool) :
    (s.spwWhen c f).lasting = s.lasting := by
  unfold State.spwWhen; split <;> simp [h]

@[simp] theorem spwLoad_lasting (k : Nat) : (s.spwLoad k).lasting = s.lasting := by simp [State.spwLoad]

@[simp] theorem spwRound_lasting (k kind : Nat) (set missing : List Nat) : (s.spwRound k kind set missing).lasting = s.lasting := by
  simp [State.spwRound]

@[simp] theorem spwStartFull_lasting (k : Nat) : (s.spwStartFull k).lasting = s.lasting := by simp [State.spwStartFull]
@[simp] theorem spwStartRepair_lasting (k : Nat) : (s.spwStartRepair k).lasting = s.lasting := by simp [State.spwStartRepair]
@[simp] theorem spwMerge_lasting (k base : Nat) : (s.spwMerge k base).lasting = s.lasting := by simp [State.spwMerge]
@[simp] theorem spwClearMissing_lasting (k : Nat) : (s.spwClearMissing k).lasting = s.lasting := by simp [State.spwClearMissing]
@[simp] theorem spwSuspend_lasting (k : Nat) : (s.spwSuspend k).lasting = s.lasting := by simp [State.spwSuspend]
@[simp] theorem spwResume_lasting (k : Nat) : (s.spwResume k).lasting = s.lasting := by simp [State.spwResume]
@[simp] theorem spwAbort_lasting (k : Nat) : (s.spwAbort k).lasting = s.lasting := by simp [State.spwAbort]

@[simp] theorem spwCmdWrite_lasting (d : Word) : (s.spwCmdWrite d).lasting = s.lasting := by
  unfold State.spwCmdWrite
  (repeat' split) <;> simp

@[simp] theorem spwRegWrite_lasting (id : RegId) (k : Nat) (d : Word) : (s.spwRegWrite id k d).lasting = s.lasting := by simp [State.spwRegWrite]
@[simp] theorem spwPlaced_lasting (k : Nat) (x : SpwSlot) : (s.spwPlaced k x).lasting = s.lasting := by simp [State.spwPlaced]
@[simp] theorem spwSkip_lasting (k : Nat) (x : SpwSlot) : (s.spwSkip k x).lasting = s.lasting := by simp [State.spwSkip]

/-! ### Sys2Proof/Machine/Bus.lean -/

@[simp] theorem msixFlush_lasting (v : Nat) : (s.msixFlush v).lasting = s.lasting := by simp [State.msixFlush]
@[simp] theorem msixWrite_lasting (v k d : Nat) : (s.msixWrite v k d).lasting = s.lasting := by simp [State.msixWrite]
@[simp] theorem msixEnable_lasting (en funcMask : Bool) : (s.msixEnable en funcMask).lasting = s.lasting := by simp [State.msixEnable]
@[simp] theorem rcRead_lasting (id : RegId) (i j : Nat) : (s.rcRead id i j).2.lasting = s.lasting := by simp [State.rcRead]

@[simp] theorem shownWord_lasting (m w : Nat) : (s.shownWord m w).2.lasting = s.lasting := by
  unfold State.shownWord
  split <;> next heq => simp [lasting_of_snd heq]

@[simp] theorem regRead_lasting (id : RegId) (i j : Nat) : (s.regRead id i j).2.lasting = s.lasting := by
  unfold State.regRead
  dsimp only
  (repeat' split) <;> simp

@[simp] theorem busRead_lasting (req off : Nat) : (s.busRead req off).2.lasting = s.lasting := by
  unfold State.busRead
  (repeat' split) <;> simp

@[simp] theorem plainWrite_lasting (id : RegId) (i j : Nat) (d : Word) : (s.plainWrite id i j d).lasting = s.lasting := by
  unfold State.plainWrite
  (repeat' split) <;> simp

@[simp] theorem ssidWrite_lasting (d : Word) : (s.ssidWrite d).lasting = s.lasting := by simp [State.ssidWrite]
@[simp] theorem coexGrpWrite_lasting (g : Nat) (d : Word) : (s.coexGrpWrite g d).lasting = s.lasting := by simp [State.coexGrpWrite]

end Sys2Proof.Machine
end

section
/-! PROOFS. What no command undoes, under the operations of the Ocell's instructions and of SPI. -/

namespace Sys2Proof.Machine

variable (s : State)

/-! ### Sys2Proof/Machine/Operands.lean -/

@[simp] theorem setG_lasting (t r : Nat) (v : Word) : (s.setG t r v).lasting = s.lasting := by simp [State.setG]

@[simp] theorem setGs_lasting (t r : Nat) (vs : List Word) : (s.setGs t r vs).lasting = s.lasting := by
  induction vs generalizing s r with
  | nil => rfl
  | cons x xs ih => simp [State.setGs, ih]

@[simp] theorem setP_lasting (t k : Nat) (b : Bool) : (s.setP t k b).lasting = s.lasting := by simp [State.setP]
@[simp] theorem setH_lasting (t k : Nat) (v : Word) : (s.setH t k v).lasting = s.lasting := by simp [State.setH]

@[simp] theorem readEach_lasting (m : Nat) (xs : List Nat) : (s.readEach m xs).2.2.lasting = s.lasting := by
  induction xs generalizing s with
  | nil => rfl
  | cons x xs ih => simp [State.readEach, ih]

@[simp] theorem loadPiece_lasting (es : List OclEffect) (m o n : Nat) : (s.loadPiece es m o n).2.2.lasting = s.lasting := by simp [State.loadPiece]

@[simp] theorem loadPieces_lasting (es : List OclEffect) (xs : List (Nat × Nat × Nat)) : (s.loadPieces es xs).2.2.lasting = s.lasting := by
  induction xs generalizing s with
  | nil => rfl
  | cons x xs ih => simp [State.loadPieces, ih]

@[simp] theorem quiet_lasting (old new : State) : (old.quiet new).lasting = new.lasting := (rfl)

@[simp] theorem inRegion_lasting (s : State) (t : Nat) (new : State) : (s.inRegion t new).lasting = new.lasting := by
  simp [State.inRegion]

@[simp] theorem load_lasting (t : Nat) (ps : List (Nat × Nat × Nat)) : (s.load t ps).2.2.lasting = s.lasting := by simp [State.load]

@[simp] theorem checkPieces_lasting (xs : List (Nat × Nat × List Byte)) : (s.checkPieces xs).2.lasting = s.lasting := by
  induction xs generalizing s with
  | nil => rfl
  | cons x xs ih => simp [State.checkPieces, ih]

@[simp] theorem mergePiece_lasting (p : Nat × Nat × List Byte) : (s.mergePiece p).lasting = s.lasting := by simp [State.mergePiece]

@[simp] theorem storePieces_lasting (ps : List (Nat × Nat × List Byte)) : (s.storePieces ps).2.lasting = s.lasting := by
  unfold State.storePieces
  dsimp only
  (repeat' split) <;> simp

/-! ### Sys2Proof/Machine/OclCore.lean -/

@[simp] theorem thrFault_lasting (t cause : Nat) (einfo : Word) : (s.thrFault t cause einfo).lasting = s.lasting := by simp [State.thrFault]
@[simp] theorem deliver_lasting (t cause : Nat) (einfo : Word) : (s.deliver t cause einfo).lasting = s.lasting := by simp [State.deliver]
@[simp] theorem except_lasting (t cause : Nat) (einfo : Word) : (s.except t cause einfo).lasting = s.lasting := by simp [State.except]
@[simp] theorem wdDeliver_lasting (t : Nat) : (s.wdDeliver t).lasting = s.lasting := by simp [State.wdDeliver]
@[simp] theorem takeTurn_lasting (t : Nat) : (s.takeTurn t).lasting = s.lasting := by simp [State.takeTurn]
@[simp] theorem issueCount_lasting (t : Nat) : (s.issueCount t).lasting = s.lasting := by simp [State.issueCount]
@[simp] theorem fetch_lasting (t : Nat) : (s.fetch t).2.lasting = s.lasting := by simp [State.fetch]

@[simp] theorem issue_lasting {f : State → State} (h : ∀ t, (f t).lasting = t.lasting) (s : State) (t opc w : Nat) (legal : Bool) :
    (s.issue t opc w legal f).lasting = s.lasting := by
  unfold State.issue
  split
  · split
    · next heq => simp [lasting_of_snd heq]
    · next heq => dsimp only; (repeat' split) <;> simp [lasting_of_snd heq, h]
  · rfl

@[simp] theorem wrongPath_lasting (t : Nat) : (s.wrongPath t).lasting = s.lasting := by simp [State.wrongPath]

@[simp] theorem issueBranch_lasting {f : State → State} (h : ∀ t, (f t).lasting = t.lasting) (s : State) (t opc w : Nat) (legal : Bool) :
    (s.issueBranch t opc w legal f).lasting = s.lasting := by
  simp [State.issueBranch, h]

@[simp] theorem result_lasting (t rd : Nat) (v : Word) : (s.result t rd v).lasting = s.lasting := by simp [State.result]
@[simp] theorem resultP_lasting (t pd : Nat) (b : Bool) : (s.resultP t pd b).lasting = s.lasting := by simp [State.resultP]

@[simp] theorem unlessRegion_lasting {f : State → State} (h : ∀ t, (f t).lasting = t.lasting) (s : State) (t : Nat) :
    (s.unlessRegion t f).lasting = s.lasting := by
  unfold State.unlessRegion; split <;> simp [h]

@[simp] theorem buffer_lasting {f : State → State} (h : ∀ t, (f t).lasting = t.lasting) (s : State) (t n : Nat) (es : List OclEffect) :
    (s.buffer t n es f).lasting = s.lasting := by
  unfold State.buffer; (repeat' split) <;> simp [h]

@[simp] theorem loadOp_lasting (t a n rd : Nat) : (s.loadOp t a n rd).lasting = s.lasting := by
  unfold State.loadOp
  split <;> simp

@[simp] theorem writeOp_lasting (t : Nat) (ps : List (Nat × Nat × List Byte)) (a : Option Nat) : (s.writeOp t ps a).lasting = s.lasting := by
  unfold State.writeOp
  dsimp only
  (repeat' split) <;> simp

@[simp] theorem storeOp_lasting (t a n : Nat) (v : Word) : (s.storeOp t a n v).lasting = s.lasting := by
  unfold State.storeOp
  (repeat' split) <;> simp

@[simp] theorem atomicOp_lasting (t a rd : Nat) (f : Word → Option Word) : (s.atomicOp t a rd f).lasting = s.lasting := by
  refine unlessRegion_lasting (fun s => ?_) ..
  split
  · simp
  · split
    · exact whenReady_lasting (fun s => by dsimp only; (repeat' split) <;> simp) ..
    · simp

@[simp] theorem frameLoad_lasting (t hs o n rd : Nat) : (s.frameLoad t hs o n rd).lasting = s.lasting := by
  unfold State.frameLoad
  split
  · simp
  · exact whenReady_lasting (fun s => by dsimp only; split <;> simp) ..

@[simp] theorem frameStore_lasting (t hs o n : Nat) (v : Word) : (s.frameStore t hs o n v).lasting = s.lasting := by
  unfold State.frameStore
  split <;> simp

@[simp] theorem threadLand_lasting (t n : Nat) (ws : List Word) : (s.threadLand t n ws).lasting = s.lasting := by simp [State.threadLand]
@[simp] theorem pushOp_lasting (t n : Nat) (ws : List Word) : (s.pushOp t n ws).lasting = s.lasting := by simp [State.pushOp]
@[simp] theorem popInto_lasting (t n k rd : Nat) : (s.popInto t n k rd).lasting = s.lasting := by simp [State.popInto]
@[simp] theorem popwTake_lasting (t n rd px : Nat) : (s.popwTake t n rd px).lasting = s.lasting := by simp [State.popwTake]

@[simp] theorem popArrive_lasting (t : Nat) : (s.popArrive t).lasting = s.lasting := by
  unfold State.popArrive
  (repeat' split) <;> simp

@[simp] theorem servePops_lasting (t n : Nat) : (s.servePops t n).lasting = s.lasting := by simp [State.servePops]
@[simp] theorem popOp_lasting (t n k rd : Nat) : (s.popOp t n k rd).lasting = s.lasting := by simp [State.popOp]

@[simp] theorem sealPoison_lasting (t a : Nat) : (s.sealPoison t a).lasting = s.lasting := by
  unfold State.sealPoison
  split <;> simp

@[simp] theorem holdEffects_lasting (t : Nat) (es : List OclEffect) : (s.holdEffects t es).lasting = s.lasting := by
  unfold State.holdEffects
  split <;> simp

@[simp] theorem sealDone_lasting (t : Nat) : (s.sealDone t).lasting = s.lasting := by
  unfold State.sealDone
  (repeat' split) <;> simp

/-! ### Sys2Proof/Machine/OclAlu.lean -/

@[simp] theorem aluA_lasting (t opc w : Nat) (f : Word → Word → Word) : (s.aluA t opc w f).lasting = s.lasting := by simp [State.aluA]
@[simp] theorem aluB_lasting (t opc w : Nat) (legal : Bool) (f : Word → Word) : (s.aluB t opc w legal f).lasting = s.lasting := by simp [State.aluB]
@[simp] theorem aluD_lasting (t opc w : Nat) (f : Word → Word) : (s.aluD t opc w f).lasting = s.lasting := by simp [State.aluD]
@[simp] theorem compare_lasting (t opc w : Nat) (f : Word → Word → Bool) : (s.compare t opc w f).lasting = s.lasting := by simp [State.compare]

@[simp] theorem predOp_lasting (t opc w : Nat) (legal : Bool) (f : Bool → Bool → Bool) : (s.predOp t opc w legal f).lasting = s.lasting := by
  simp [State.predOp]

/-! ### Sys2Proof/Machine/OclMem.lean -/

@[simp] theorem goTo_lasting (t target : Nat) : (s.goTo t target).lasting = s.lasting := by simp [State.goTo]

@[simp] theorem branch_lasting {f : State → State} (h : ∀ t, (f t).lasting = t.lasting) (s : State) (t : Nat) (a : Int) :
    (s.branch t a f).lasting = s.lasting := by
  unfold State.branch; split <;> simp [h]

@[simp] theorem fence_lasting (t w : Nat) : (s.fence t w).lasting = s.lasting := by simp [State.fence]
@[simp] theorem badHandle_lasting (t : Nat) : (s.badHandle t).lasting = s.lasting := by simp [State.badHandle]

@[simp] theorem noteCell_lasting (t c : Nat) : (s.noteCell t c).lasting = s.lasting := by
  unfold State.noteCell
  split <;> simp

@[simp] theorem cryptoOp_lasting (t : Nat) (dst src : Nat × Nat) (f : List Byte → List Byte → List Byte) :
    (s.cryptoOp t dst src f).lasting = s.lasting := by
  unfold State.cryptoOp
  dsimp only
  split
  · simp
  · exact whenReady_lasting (fun s => whenReady_lasting (fun s => by (repeat' split) <;> simp) ..) ..
  · simp
  · simp

/-! ### Sys2Proof/Machine/OclRun.lean -/

@[simp] theorem pushSpec_lasting (t n : Nat) (d : TxDesc) : (s.pushSpec t n d).lasting = s.lasting := by simp [State.pushSpec]

@[simp] theorem tcmdIssue_lasting (t a : Nat) : (s.tcmdIssue t a).lasting = s.lasting := by
  unfold State.tcmdIssue
  split
  · exact whenReady_lasting (fun s => whenReady_lasting (fun s => by dsimp only; split <;> simp) ..) ..
  · rfl

@[simp] theorem readSlots_lasting (xs : List Nat) : (s.readSlots xs).2.2.lasting = s.lasting := by
  induction xs generalizing s with
  | nil => rfl
  | cons x xs ih => simp [State.readSlots, ih]

/-! ### Sys2Proof/Machine/OclSys.lean -/

@[simp] theorem rndTo_lasting (t rd : Nat) : (s.rndTo t rd).lasting = s.lasting := by simp [State.rndTo]
@[simp] theorem openRegion_lasting (t target : Nat) : (s.openRegion t target).lasting = s.lasting := by simp [State.openRegion]
@[simp] theorem wdFirst_lasting (t : Nat) : (s.wdFirst t).lasting = s.lasting := by simp [State.wdFirst]

/-! ### Sys2Proof/Machine/Spi.lean -/

@[simp] theorem spiOpen_lasting {f : State → State} (h : ∀ t, (f t).lasting = t.lasting) (s : State) : (s.spiOpen f).lasting = s.lasting := by
  unfold State.spiOpen; split <;> simp [h]

@[simp] theorem spiEnd_lasting (status : Nat) (out : List Byte) : (s.spiEnd status out).lasting = s.lasting := by simp [State.spiEnd]
@[simp] theorem spiNoData_lasting (w status : Nat) : (s.spiNoData w status).lasting = s.lasting := by simp [State.spiNoData]
@[simp] theorem spiRead_lasting (off w : Nat) (ready : Bool) : (s.spiRead off w ready).lasting = s.lasting := by simp [State.spiRead]

@[simp] theorem spiLoad_lasting (xs : List (Nat × Nat)) : (s.spiLoad xs).2.lasting = s.lasting := by
  induction xs generalizing s with
  | nil => rfl
  | cons x xs ih => simp [State.spiLoad, ih]

@[simp] theorem spiStore_lasting (o : Nat) (bs : List Byte) : (s.spiStore o bs).lasting = s.lasting := by simp [State.spiStore]

end Sys2Proof.Machine
end

section
/-! PROOFS. What a command may add to: time, fuses, owner keys, revocations and locks only grow. -/

namespace Sys2Proof.Machine

variable (s : State)

/-- `b` undoes nothing of `a`. -/
structure Lasting.Le (a b : Lasting) : Prop where
  pending : b.pending = a.pending
  now : a.now ≤ b.now
  fuses : ∀ x ∈ a.fuses, x ∈ b.fuses
  owners : ∀ k h, SMap.find? a.owners k = some h → SMap.find? b.owners k = some h
  revoked : ∀ k ∈ a.revoked, k ∈ b.revoked
  provLock : a.provLock = true → b.provLock = true
  dbgLock : a.dbgLock = true → b.dbgLock = true
  jtagLock : a.jtagLock = true → b.jtagLock = true

@[simp] theorem Lasting.Le.refl (a : Lasting) : a.Le a :=
  ⟨rfl, le_rfl, fun _ h => h, fun _ _ h => h, fun _ h => h, id, id, id⟩

theorem Lasting.Le.trans {a b c : Lasting} (h : a.Le b) (h' : b.Le c) : a.Le c :=
  ⟨h'.pending.trans h.pending, h.now.trans h'.now, fun x hx => h'.fuses x (h.fuses x hx),
    fun k x hk => h'.owners k x (h.owners k x hk), fun k hk => h'.revoked k (h.revoked k hk), h'.provLock ∘ h.provLock,
    h'.dbgLock ∘ h.dbgLock, h'.jtagLock ∘ h.jtagLock⟩

section
variable {a : Lasting} {s : State}

@[simp] theorem Lasting.Le.ite {c : Prop} [Decidable c] {b b' : Lasting} (h : a.Le b) (h' : a.Le b') : a.Le (if c then b else b') := by
  split <;> assumption

@[simp] theorem Lasting.Le.on (h : a.Le s.lasting) (c : Bool) {f : State → State} (hf : ∀ t : State, t.lasting.Le (f t).lasting) :
    a.Le (s.on c f).lasting := by
  unfold State.on
  split
  · exact h.trans (hf s)
  · exact h

@[simp] theorem Lasting.Le.powered (h : a.Le s.lasting) {f : State → State} (hf : ∀ t : State, t.lasting.Le (f t).lasting) :
    a.Le (s.powered f).lasting := h.on _ hf

@[simp] theorem Lasting.Le.foldl {α : Type} (h : a.Le s.lasting) {f : State → α → State} (hf : ∀ (t : State) x, t.lasting.Le (f t x).lasting)
    (l : List α) : a.Le (l.foldl f s).lasting :=
  List.foldlRecOn (motive := fun t : State => a.Le t.lasting) l f h fun t ht x _ => ht.trans (hf t x)

@[simp] theorem Lasting.Le.advance (h : a.Le s.lasting) (d : Nat) : a.Le (s.advance d).lasting := by
  refine h.trans ?_
  unfold State.advance
  dsimp only
  split <;> exact ⟨rfl, Nat.le_add_right .., fun _ h => h, fun _ _ h => h, fun _ h => h, id, id, id⟩

@[simp] theorem Lasting.Le.after (h : a.Le s.lasting) (d : Nat) : a.Le (s.after d).lasting := h.advance d
@[simp] theorem Lasting.Le.endCycle (h : a.Le s.lasting) : a.Le s.endCycle.lasting := h.advance 1
@[simp] theorem Lasting.Le.advanceTo (h : a.Le s.lasting) (t : Nat) : a.Le (s.advanceTo t).lasting := h.advance _
@[simp] theorem Lasting.Le.advanceToFull (h : a.Le s.lasting) (t : Nat) : a.Le (s.advanceToFull t).lasting := h.advance _

/-! ### Fuses (R108, R109): a blow only adds to the list -/

theorem mem_insertSorted {b x : Nat} {l : List Nat} : x ∈ insertSorted b l ↔ x = b ∨ x ∈ l := by
  induction l with
  | nil => simp [insertSorted]
  | cons y l ih =>
    unfold insertSorted
    split
    · simp
    · split <;> simp_all [or_left_comm]

@[simp] theorem Lasting.Le.fuseEnd (h : a.Le s.lasting) (b t : Nat) : a.Le (s.fuseEnd b t).lasting := by
  have hu : a.Le (s.advanceTo t).fresh.2.fresh.2.lasting := by simp [h]
  unfold State.fuseEnd
  rw [raise_lasting, setFld_lasting, shadowReload_lasting]
  refine Lasting.Le.advanceTo ?_ _
  exact { hu with fuses := fun x hx => mem_insertSorted.mpr (.inr (hu.fuses x hx)) }

/-! ### The locks of the Grotto (R240): a command only sets them -/

@[simp] theorem Lasting.Le.grtRun (h : a.Le s.lasting) (op i : Nat) : a.Le (s.grtRun op i).2.lasting := by
  unfold State.grtRun
  split
  case h_5 => split <;> next heq => simp [lasting_of_snd heq, h]
  case h_13 =>
    dsimp only
    split
    · exact { h with provLock := fun _ => rfl }
    · exact { h with dbgLock := fun _ => rfl }
    · exact { h with jtagLock := fun _ => rfl }
  all_goals simp [h]

@[simp] theorem Lasting.Le.grtCmdWrite (h : a.Le s.lasting) (op i : Nat) : a.Le (s.grtCmdWrite op i).lasting := by
  unfold State.grtCmdWrite
  split
  · simp [h]
  · dsimp only
    split
    · simp [h]
    · split <;> next heq => rw [grtStart_lasting, lasting_of_snd heq]; exact Lasting.Le.grtRun (by simp [h]) op i

/-! ### Owner keys and revocations (R480, R482): a programmed slot is never written again -/

@[simp] theorem Lasting.Le.blowKey (h : a.Le s.lasting) (slot hash : Nat) : a.Le (s.blowKey slot hash).lasting := by
  unfold State.blowKey
  split
  · exact h
  · next hfree =>
    refine { h with owners := fun k x hk => ?_ }
    have hs : SMap.find? s.bot.owners k = some x := h.owners k x hk
    have hne : k ≠ slot := fun e => hfree (by rw [← e, hs]; rfl)
    exact (SMap.find?_put_ne _ _ hne).trans hs

@[simp] theorem Lasting.Le.firstKey (h : a.Le s.lasting) (r : Nat) : a.Le (s.firstKey r).lasting := by
  simp [State.firstKey, h]

@[simp] theorem Lasting.Le.keyActions (h : a.Le s.lasting) (r : Nat) : a.Le (s.keyActions r).lasting := by
  unfold State.keyActions
  refine Lasting.Le.foldl (by split <;> simp [h]) (fun t k => ?_) _
  split
  · exact { Lasting.Le.refl _ with revoked := fun x hx => List.mem_append_left _ hx }
  · exact .refl _

@[simp] theorem Lasting.Le.keyActionsIf (h : a.Le s.lasting) (r : Nat) (good : Bool) : a.Le (s.keyActionsIf r good).lasting := by
  simp [State.keyActionsIf, h]

@[simp] theorem Lasting.Le.warmGo (h : a.Le s.lasting) (r : Nat) (good : Bool) : a.Le (s.warmGo r good).lasting := by
  unfold State.warmGo
  dsimp only
  (repeat' split) <;> simp [h]

@[simp] theorem Lasting.Le.jBootWrite (h : a.Le s.lasting) (req : Nat) (d : Word) : a.Le (s.jBootWrite req d).lasting := by
  unfold State.jBootWrite
  split
  · split
    · dsimp only; (repeat' split) <;> simp [h]
    · simp [h]
  · exact h

@[simp] theorem Lasting.Le.tryCold (h : a.Le s.lasting) (r : Nat) : a.Le (s.tryCold r).2.lasting := by
  unfold State.tryCold
  dsimp only
  (repeat' split) <;> simp [h]

@[simp] theorem Lasting.Le.bootFrom (h : a.Le s.lasting) (r : Nat) (good fallback : Bool) : a.Le (s.bootFrom r good fallback).lasting := by
  simp [State.bootFrom, h]

@[simp] theorem Lasting.Le.bootOther (h : a.Le s.lasting) (r : Nat) : a.Le (s.bootOther r).lasting := by
  unfold State.bootOther
  split
  · dsimp only; (repeat' split) <;> simp [h]
  · simp [h]

@[simp] theorem Lasting.Le.bootHeaded (h : a.Le s.lasting) (x : BootHdr) : a.Le (s.bootHeaded x).lasting := by
  unfold State.bootHeaded
  dsimp only
  (repeat' split) <;> simp [h]

@[simp] theorem Lasting.Le.bootBare (h : a.Le s.lasting) : a.Le s.bootBare.lasting := by
  have h1 := (h.tryCold 0).tryCold 1
  unfold State.bootBare
  dsimp only
  (repeat' split) <;> simp [h, h1]

@[simp] theorem Lasting.Le.romBoot (h : a.Le s.lasting) : a.Le s.romBoot.lasting := by
  unfold State.romBoot
  (repeat' split) <;> simp [h]

/-! ### Register writes, frames, and the regions of the Ocell: what else reaches a fuse, a key or the clock -/

@[simp] theorem Lasting.Le.hostPush (h : a.Le s.lasting) (n : Nat) (ws : List RunWord) : a.Le (s.hostPush n ws).lasting := by
  unfold State.hostPush
  dsimp only
  (repeat' split) <;> simp [h]

@[simp] theorem Lasting.Le.hpushCtlWrite (h : a.Le s.lasting) (d : Word) : a.Le (s.hpushCtlWrite d).lasting := by
  simp [State.hpushCtlWrite, h]

theorem radioWrite_lasting (id : RegId) (i j : Nat) (d : Word) : ∀ t ∈ s.radioWrite id i j d, t.lasting = s.lasting := by
  unfold State.radioWrite
  split <;> simp

theorem sysWrite_lasting (req : Nat) (id : RegId) (i : Nat) (d : Word) : ∀ t ∈ s.sysWrite req id i d, t.lasting = s.lasting := by
  unfold State.sysWrite
  split <;> simp

theorem Lasting.Le.coreWrite (h : a.Le s.lasting) (req : Nat) (id : RegId) (i j : Nat) (d : Word) :
    ∀ t ∈ s.coreWrite req id i j d, a.Le t.lasting := by
  unfold State.coreWrite
  dsimp only
  split <;> simp [h]

@[simp] theorem Lasting.Le.regWrite (h : a.Le s.lasting) (req : Nat) (id : RegId) (i j : Nat) (d : Word) :
    a.Le (s.regWrite req id i j d).lasting := by
  unfold State.regWrite
  split
  · next heq => rwa [radioWrite_lasting _ _ _ _ _ heq]
  · next heq _ => exact h.coreWrite _ _ _ _ _ _ heq
  · next heq _ _ => rwa [sysWrite_lasting _ _ _ _ _ heq]
  · simp [h]

@[simp] theorem Lasting.Le.busWrite (h : a.Le s.lasting) (req off w : Nat) (d : Word) : a.Le (s.busWrite req off w d).lasting := by
  unfold State.busWrite
  split
  · exact h
  · split
    · split
      · exact h
      · simp [h]
    · simp [h]
    · exact h

@[simp] theorem Lasting.Le.takeSpec (h : a.Le s.lasting) (n tid : Nat) (d : TxDesc) : a.Le (s.takeSpec n tid d).lasting := by
  unfold State.takeSpec
  dsimp only
  split <;> simp [h]

@[simp] theorem Lasting.Le.takeDesc (h : a.Le s.lasting) (o : TxOrigin) (d : TxDesc) (ms : Option (Nat × Nat)) :
    a.Le (s.takeDesc o d ms).lasting := by
  unfold State.takeDesc
  dsimp only
  split <;> simp [h]

@[simp] theorem Lasting.Le.takePlaced (h : a.Le s.lasting) (p : Placed) : a.Le (s.takePlaced p).lasting := by
  unfold State.takePlaced
  split <;> simp [h]

@[simp] theorem Lasting.Le.takeRunnel (h : a.Le s.lasting) (n : Nat) : a.Le (s.takeRunnel n).lasting := by
  unfold State.takeRunnel
  dsimp only
  split <;> simp [h]

@[simp] theorem Lasting.Le.takeFirst (h : a.Le s.lasting) : a.Le s.takeFirst.lasting := by
  unfold State.takeFirst
  split <;> simp [h]

@[simp] theorem Lasting.Le.bareStart (h : a.Le s.lasting) : a.Le s.bareStart.lasting := by
  unfold State.bareStart
  split <;> simp [h]

@[simp] theorem Lasting.Le.openHold (h : a.Le s.lasting) (m : MacFrame) : a.Le (s.openHold m).2.lasting := by
  unfold State.openHold
  split
  · next heq => rw [lasting_of_third heq]; simp [h]
  · next heq => rw [lasting_of_third heq]; simp [h]
  · next heq =>
    have h' := lasting_of_third heq
    dsimp only
    split
    · split <;> next heq' => simp [lasting_of_snd heq', h, h']
    · simp [h, h']

@[simp] theorem Lasting.Le.headerStage (h : a.Le s.lasting) (id : Nat) (f : RxFrame) : a.Le (s.headerStage id f).lasting := by
  unfold State.headerStage
  dsimp only
  (repeat' split) <;> simp [h]

theorem Lasting.Le.sealEffect (h : a.Le s.lasting) (n : Nat) (e : OclEffect) : ∀ t ∈ s.sealEffect n e, a.Le t.lasting := by
  unfold State.sealEffect
  split
  · simp only [Option.mem_def, Option.some.injEq, forall_eq']
    split <;> simp [h]
  · simp [h]
  · (repeat' split) <;> simp [h]
  · simp [h]

@[simp] theorem Lasting.Le.sealRun (h : a.Le s.lasting) (t : Nat) (es : List OclEffect) : a.Le (s.sealRun t es).lasting := by
  induction es generalizing s with
  | nil => unfold State.sealRun; simp [h]
  | cons e es ih =>
    unfold State.sealRun
    split
    · simp [h]
    · next u heq =>
      have hu := h.sealEffect _ _ _ heq
      split
      · exact ih (by simp [hu])
      · exact hu

@[simp] theorem Lasting.Le.pushRoom (h : a.Le s.lasting) (t : Nat) : a.Le (s.pushRoom t).lasting := by
  unfold State.pushRoom
  (repeat' split) <;> simp [h]

@[simp] theorem Lasting.Le.servePushes (h : a.Le s.lasting) (t n : Nat) : a.Le (s.servePushes t n).lasting :=
  Lasting.Le.foldl (by simp [h]) (fun t u => (Lasting.Le.refl t.lasting).pushRoom u) _

@[simp] theorem Lasting.Le.sealTime (h : a.Le s.lasting) (n : Nat) : a.Le (s.sealTime n).lasting := by
  simp [State.sealTime, h]

@[simp] theorem Lasting.Le.spiWrite (h : a.Le s.lasting) (off w : Nat) (d : Word) : a.Le (s.spiWrite off w d).lasting := by
  simp [State.spiWrite, h]

@[simp] theorem Lasting.Le.twnArrive (h : a.Le s.lasting) (dt type seq stamp : Nat) (ws : List Word) (ok : Bool) :
    a.Le (s.twnArrive dt type seq stamp ws ok).lasting := by
  simp [State.twnArrive, h]

@[simp] theorem Lasting.Le.spiOpen (h : a.Le s.lasting) {f : State → State} (hf : ∀ t : State, t.lasting.Le (f t).lasting) :
    a.Le (s.spiOpen f).lasting := by
  unfold State.spiOpen
  split
  · exact h.trans (hf s)
  · simp [h]
end

section
variable {a : Lasting} {s : State} {f : State → State}

@[simp] theorem Lasting.Le.issue (h : a.Le s.lasting) (t opc w : Nat) (legal : Bool) (hf : ∀ t : State, t.lasting.Le (f t).lasting) :
    a.Le (s.issue t opc w legal f).lasting := by
  unfold State.issue
  split
  · split
    · next heq => simp [lasting_of_snd heq, h]
    · next u heq =>
      have hu : a.Le (u.issueCount t).lasting := by simp [lasting_of_snd heq, h]
      dsimp only
      split
      · split
        · exact hu.trans (hf _)
        · simpa using hu
      · simpa using hu
  · exact h

@[simp] theorem Lasting.Le.unlessRegion (h : a.Le s.lasting) (t : Nat) (hf : ∀ t : State, t.lasting.Le (f t).lasting) :
    a.Le (s.unlessRegion t f).lasting := by
  unfold State.unlessRegion
  split
  · simp [h]
  · exact h.trans (hf s)
end

end Sys2Proof.Machine
end

section
/-! PROOFS. No meaning of a command undoes anything. -/

namespace Sys2Proof.Machine

/-- The state that a meaning answers undoes nothing of `s`. -/
structure State.Keeps (s : State) (o : Out) : Prop where
  le : ∀ t, o = .next t → s.lasting.Le t.lasting

@[simp] theorem keeps_next {s t : State} : s.Keeps (.next t) ↔ s.lasting.Le t.lasting :=
  ⟨fun h => h.le t rfl, fun h => ⟨fun _ e => Host.Outcome.next.inj e ▸ h⟩⟩

theorem keeps_of_lasting {s t : State} (h : t.lasting = s.lasting) : s.Keeps (.next t) := by simp [h]

theorem keeps_powered {s : State} {f : State → State} (h : ∀ t, (f t).lasting = t.lasting) : s.Keeps (.next (s.powered f)) :=
  keeps_of_lasting (powered_lasting h s)

theorem keeps_issue {s : State} {t opc w : Nat} {legal : Bool} {f : State → State} (h : ∀ t, (f t).lasting = t.lasting) :
    s.Keeps (.next (s.issue t opc w legal f)) :=
  keeps_of_lasting (issue_lasting h ..)

section
variable (s : State)

theorem execDigestDone_keeps : s.Keeps (execDigestDone s) := by
  unfold execDigestDone
  split <;> simp

theorem execCharterLoaded_keeps : s.Keeps (execCharterLoaded s) := by
  unfold execCharterLoaded
  split <;> simp

theorem execBinRotation_keeps : s.Keeps (execBinRotation s) := by simp [execBinRotation]
theorem execClipInterval_keeps (dt j : Nat) (a b : Bool) : s.Keeps (execClipInterval dt j a b s) := by simp [execClipInterval]

theorem execChainPrimed_keeps (j : Nat) : s.Keeps (execChainPrimed j s) := by
  unfold execChainPrimed
  (repeat' split) <;> simp

theorem execChainListening_keeps (j : Nat) : s.Keeps (execChainListening j s) := by
  unfold execChainListening
  split <;> simp

theorem execChainLeaveListening_keeps (j : Nat) : s.Keeps (execChainLeaveListening j s) := by
  unfold execChainLeaveListening
  split <;> simp

theorem execChainParked_keeps (j : Nat) : s.Keeps (execChainParked j s) := by
  unfold execChainParked
  split <;> simp

theorem execRillConfigWrite_keeps (which j n : Nat) (d : Word) : s.Keeps (execRillConfigWrite which j n d s) := by
  unfold execRillConfigWrite
  split <;> simp

theorem execPreambleDetect_keeps (dt j n : Nat) (ps : List (Nat × Nat)) (snrA snrB : List Int) :
    s.Keeps (execPreambleDetect dt j n ps snrA snrB s) := by
  unfold execPreambleDetect
  dsimp only
  (repeat' split) <;> simp

theorem execAerialChoice_keeps (j n k : Nat) (mA mB : Int) : s.Keeps (execAerialChoice j n k mA mB s) := by
  unfold execAerialChoice
  dsimp only
  (repeat' split) <;> simp

theorem execAerialChoiceForced_keeps (dt j n : Nat) (mA mB : Int) : s.Keeps (execAerialChoiceForced dt j n mA mB s) := by
  unfold execAerialChoiceForced
  dsimp only
  (repeat' split) <;> simp

theorem execSfdTimeout_keeps (dt j n : Nat) : s.Keeps (execSfdTimeout dt j n s) := by
  unfold execSfdTimeout
  (repeat' split) <;> simp

theorem execSfdFound_keeps (dt j n : Nat) (mA mB err pwr snr8 foHz : Int) : s.Keeps (execSfdFound dt j n mA mB err pwr snr8 foHz s) := by
  unfold execSfdFound
  dsimp only
  (repeat' split) <;> simp

theorem execPhrReceived_keeps (dt j n len mcs : Nat) (modeSwitch checkOk fcs32 : Bool) (s : State) :
    s.Keeps (execPhrReceived dt j n len mcs modeSwitch checkOk fcs32 s) := by
  unfold execPhrReceived
  dsimp only
  split
  · split
    · split
      · split
        · simp
        · split <;> next heq => simp [lasting_of_snd heq]
      · simp
    · simp
  · simp

theorem execPsduByte_keeps (dt j n : Nat) (b : Byte) : s.Keeps (execPsduByte dt j n b s) := by
  unfold execPsduByte
  dsimp only
  (repeat' split) <;> simp

theorem execFrameEnd_keeps (dt j n : Nat) : s.Keeps (execFrameEnd dt j n s) := by
  unfold execFrameEnd
  dsimp only
  (repeat' split) <;> simp

theorem execSynLock_keeps (j : Nat) (temp : Int) : s.Keeps (execSynLock j temp s) := by
  unfold execSynLock
  split <;> simp

theorem execSynFault_keeps (j : Nat) : s.Keeps (execSynFault j s) := by
  unfold execSynFault
  split <;> simp

theorem execTempCalDue_keeps (dt j : Nat) (temp : Int) : s.Keeps (execTempCalDue dt j temp s) := by
  unfold execTempCalDue
  dsimp only
  (repeat' split) <;> simp

theorem execTempCalStart_keeps (dt j : Nat) : s.Keeps (execTempCalStart dt j s) := by
  unfold execTempCalStart
  dsimp only
  (repeat' split) <;> simp

theorem execCalStarved_keeps (j : Nat) : s.Keeps (execCalStarved j s) := by
  unfold execCalStarved
  dsimp only
  (repeat' split) <;> simp

theorem execTxWake_keeps (j : Nat) (temp : Int) (s : State) : s.Keeps (execTxWake j temp s) := by
  unfold execTxWake
  split
  · simp
  · split
    · dsimp only; split <;> simp
    · dsimp only
      split
      · next heq =>
        obtain ⟨t, -, rfl⟩ := Option.map_eq_some_iff.mp heq
        split <;> simp
      · simp

theorem execTxOff_keeps (j : Nat) : s.Keeps (execTxOff j s) := by
  unfold execTxOff
  dsimp only
  (repeat' split) <;> simp

theorem execFuseDone_keeps : s.Keeps (execFuseDone s) := by
  unfold execFuseDone
  split <;> simp

theorem execCarrierConfigWrite_keeps (freq : Bool) (j k : Nat) (d : Word) : s.Keeps (execCarrierConfigWrite freq j k d s) := by
  unfold execCarrierConfigWrite
  split <;> simp

theorem execTxDescriptor_keeps (dt : Nat) (src : Option Nat) (s : State) : s.Keeps (execTxDescriptor dt src s) := by
  unfold execTxDescriptor
  dsimp only
  split
  · simp
  · split
    · exact keeps_next.mpr ((Lasting.Le.refl _).after dt)
    · exact keeps_next.mpr (Lasting.Le.takeFirst ((Lasting.Le.refl _).after dt))

theorem execCharterStageResume_keeps (src : Option Nat) : s.Keeps (execCharterStageResume src s) := by
  unfold execCharterStageResume
  split <;> simp

theorem execCoexReqAssert_keeps (j id : Nat) : s.Keeps (execCoexReqAssert j id s) := by
  unfold execCoexReqAssert
  dsimp only
  (repeat' split) <;> simp

theorem execGrantSample_keeps (j id : Nat) (pin : PinLevel) : s.Keeps (execGrantSample j id pin s) := by
  unfold execGrantSample
  dsimp only
  (repeat' split) <;> simp

theorem execGrantWithdrawal_keeps (pin : Change) (g : Nat) : s.Keeps (execGrantWithdrawal pin g s) := by
  unfold execGrantWithdrawal
  dsimp only
  (repeat' split) <;> simp

theorem execCommitPoint_keeps (j id : Nat) : s.Keeps (execCommitPoint j id s) := by
  unfold execCommitPoint
  dsimp only
  (repeat' split) <;> simp

theorem execTxLate_keeps (j id : Nat) : s.Keeps (execTxLate j id s) := by
  unfold execTxLate
  dsimp only
  (repeat' split) <;> simp

theorem execTxswAssert_keeps (j id : Nat) : s.Keeps (execTxswAssert j id s) := by
  unfold execTxswAssert
  dsimp only
  (repeat' split) <;> simp

theorem execPaAssert_keeps (j id : Nat) : s.Keeps (execPaAssert j id s) := by
  unfold execPaAssert
  (repeat' split) <;> simp

theorem execRfStart_keeps (j id : Nat) : s.Keeps (execRfStart j id s) := by
  unfold execRfStart
  (repeat' split) <;> simp

theorem execLastRf_keeps (j id : Nat) : s.Keeps (execLastRf j id s) := by
  unfold execLastRf
  (repeat' split) <;> simp

theorem execPaRelease_keeps (j : Nat) : s.Keeps (execPaRelease j s) := by
  unfold execPaRelease
  dsimp only
  (repeat' split) <;> simp

theorem execTxswRelease_keeps (j : Nat) : s.Keeps (execTxswRelease j s) := by
  unfold execTxswRelease
  dsimp only
  (repeat' split) <;> simp

theorem execLnaActive_keeps (j : Nat) : s.Keeps (execLnaActive j s) := by
  unfold execLnaActive
  dsimp only
  (repeat' split) <;> simp

theorem execBlankingEnd_keeps (j : Nat) : s.Keeps (execBlankingEnd j s) := by
  unfold execBlankingEnd
  dsimp only
  (repeat' split) <;> simp

theorem execLockLoss_keeps (dt j : Nat) : s.Keeps (execLockLoss dt j s) := by simp [execLockLoss]

theorem execFemPolApply_keeps (j : Nat) : s.Keeps (execFemPolApply j s) := by
  unfold execFemPolApply
  split <;> simp

theorem execSlotResolve_keeps : s.Keeps (execSlotResolve s) := by
  unfold execSlotResolve
  (repeat' split) <;> simp

theorem execSlotStart_keeps : s.Keeps (execSlotStart s) := by
  unfold execSlotStart
  split <;> simp

theorem execSlotEnd_keeps : s.Keeps (execSlotEnd s) := by
  unfold execSlotEnd
  split <;> simp

theorem execAckWindowClose_keeps (j id : Nat) : s.Keeps (execAckWindowClose j id s) := by
  unfold execAckWindowClose
  dsimp only
  (repeat' split) <;> simp

theorem execSluiceHeader_keeps (id : Nat) : s.Keeps (execSluiceHeader id s) := by
  unfold execSluiceHeader
  dsimp only
  (repeat' split) <;> simp

theorem execSluiceCommit_keeps (id : Nat) : s.Keeps (execSluiceCommit id s) := by
  unfold execSluiceCommit
  dsimp only
  (repeat' split) <;> simp

theorem execWiredPacket_keeps (port : Nat) : s.Keeps (execWiredPacket port s) := by
  unfold execWiredPacket
  (repeat' split) <;> simp

theorem execSearch_keeps (req : Nat) (ws : List Word) : s.Keeps (execSearch req ws s) := by simp [execSearch]
theorem execNext_keeps (req : Nat) (ws : List Word) : s.Keeps (execNext req ws s) := by simp [execNext]
theorem execInsert_keeps (req : Nat) (ws : List Word) : s.Keeps (execInsert req ws s) := by simp [execInsert]
theorem execUpdate_keeps (req : Nat) (ws : List Word) : s.Keeps (execUpdate req ws s) := by simp [execUpdate]
theorem execDelete_keeps (req : Nat) (ws : List Word) : s.Keeps (execDelete req ws s) := by simp [execDelete]
theorem execFlushPort_keeps (req : Nat) (ws : List Word) : s.Keeps (execFlushPort req ws s) := by simp [execFlushPort]

theorem execFlushPortDone_keeps : s.Keeps (execFlushPortDone s) := by
  unfold execFlushPortDone
  split <;> simp

theorem execScanTimeout_keeps : s.Keeps (execScanTimeout s) := by
  unfold execScanTimeout
  split <;> simp

theorem execAgerVisit_keeps : s.Keeps (execAgerVisit s) := by
  unfold execAgerVisit
  split <;> simp

theorem execRecon_keeps (index : Nat) : s.Keeps (execRecon index s) := by simp [execRecon]
theorem execEnrol_keeps (index : Nat) : s.Keeps (execEnrol index s) := by simp [execEnrol]
theorem execRefresh_keeps (index : Nat) : s.Keeps (execRefresh index s) := by simp [execRefresh]
theorem execSealRoot_keeps (index : Nat) : s.Keeps (execSealRoot index s) := by simp [execSealRoot]
theorem execGrtLoad_keeps (index : Nat) : s.Keeps (execGrtLoad index s) := by simp [execGrtLoad]
theorem execProvision_keeps (index : Nat) : s.Keeps (execProvision index s) := by simp [execProvision]
theorem execRekeyNet_keeps (index : Nat) : s.Keeps (execRekeyNet index s) := by simp [execRekeyNet]
theorem execImportGroup_keeps (index : Nat) : s.Keeps (execImportGroup index s) := by simp [execImportGroup]
theorem execRetireGroup_keeps (index : Nat) : s.Keeps (execRetireGroup index s) := by simp [execRetireGroup]
theorem execImportOvr_keeps (index : Nat) : s.Keeps (execImportOvr index s) := by simp [execImportOvr]
theorem execClearOvr_keeps (index : Nat) : s.Keeps (execClearOvr index s) := by simp [execClearOvr]
theorem execExportPage_keeps (index : Nat) : s.Keeps (execExportPage index s) := by simp [execExportPage]
theorem execFloorCommit_keeps (index : Nat) : s.Keeps (execFloorCommit index s) := by simp [execFloorCommit]
theorem execAttest_keeps (index : Nat) : s.Keeps (execAttest index s) := by simp [execAttest]
theorem execGrtBlow_keeps (index : Nat) : s.Keeps (execGrtBlow index s) := by simp [execGrtBlow]
theorem execDebugExport_keeps (index : Nat) : s.Keeps (execDebugExport index s) := by simp [execDebugExport]

theorem execGrtCmdDone_keeps (s : State) : s.Keeps (execGrtCmdDone s) := by
  unfold execGrtCmdDone
  split
  · next c _ =>
    have hc : s.lasting.Le (State.lasting { s.advanceTo c.due with grt := { s.grt with cmd := none } }) :=
      { (Lasting.Le.refl s.lasting).advanceTo c.due with provLock := id, dbgLock := id, jtagLock := id }
    split
    · simp
    · simp [-lasting_mk, hc]
  · simp

theorem execInvalidationSweepDone_keeps : s.Keeps (execInvalidationSweepDone s) := by
  unfold execInvalidationSweepDone
  split <;> simp

theorem execMsgErase_keeps : s.Keeps (execMsgErase s) := by
  unfold execMsgErase
  split <;> simp

theorem execKeyReady_keeps (id : Nat) : s.Keeps (execKeyReady id s) := by
  unfold execKeyReady
  (repeat' split) <;> simp

theorem execVerifyJobStart_keeps (id : Nat) (s : State) : s.Keeps (execVerifyJobStart id s) := by
  unfold execVerifyJobStart
  split
  · split
    · split
      · split
        · dsimp only
          split <;> next heq => simp [lasting_of_snd heq]
        · simp
      · simp
    · simp
  · simp

theorem execVerifyDone_keeps (id : Nat) (s : State) : s.Keeps (execVerifyDone id s) := by
  unfold execVerifyDone
  split
  · split
    · split
      · dsimp only
        split
        · simp
        · split <;> next heq => simp [lasting_of_snd heq]
      · simp
    · simp
  · simp

theorem execProtectJobStart_keeps (j id : Nat) : s.Keeps (execProtectJobStart j id s) := by
  unfold execProtectJobStart
  (repeat' split) <;> simp

theorem execProtectDone_keeps (j id : Nat) (s : State) : s.Keeps (execProtectDone j id s) := by
  unfold execProtectDone
  split
  · split
    · dsimp only
      split <;> next heq => simp [lasting_of_fourth heq]
    · simp
  · simp

theorem execMaskRefresh_keeps : s.Keeps (execMaskRefresh s) := by
  unfold execMaskRefresh
  split <;> simp

theorem execDrbgReseed_keeps : s.Keeps (execDrbgReseed s) := by simp [execDrbgReseed]

theorem execDrbgHealthFail_keeps (dt : Nat) (failing : Bool) : s.Keeps (execDrbgHealthFail dt failing s) := by
  unfold execDrbgHealthFail
  split <;> simp

theorem execUnlockChal_keeps (dt : Nat) (s : State) : s.Keeps (execUnlockChal dt s) := by
  have h := (Lasting.Le.refl s.lasting).after dt
  unfold execUnlockChal
  dsimp only
  split
  · split
    · simp
    · exact keeps_next.mpr h
  · simp

theorem execUnlockResp_keeps (dt : Nat) (resp : List Byte) (s : State) : s.Keeps (execUnlockResp dt resp s) := by
  have h := (Lasting.Le.refl s.lasting).after dt
  unfold execUnlockResp
  dsimp only
  split
  · split
    · rw [keeps_next, setFld_lasting]; exact h
    · rw [keeps_next, raise_lasting]; exact h
  · simp

theorem execRunnelDisableDone_keeps (n : Nat) : s.Keeps (execRunnelDisableDone n s) := by
  unfold execRunnelDisableDone
  dsimp only
  (repeat' split) <;> simp

theorem execEnginePushRoom_keeps (n : Nat) : s.Keeps (execEnginePushRoom n s) := by simp [execEnginePushRoom]
theorem execHostPush_keeps (d : Word) : s.Keeps (execHostPush d s) := by simp [execHostPush]
theorem execHostPop_keeps (a : PopAt) : s.Keeps (execHostPop a s) := by simp [execHostPop]

theorem execHostAllocDone_keeps (s : State) : s.Keeps (execHostAllocDone s) := by
  unfold execHostAllocDone
  split
  · simp
  · dsimp only
    split
    · split <;> next heq => simp [lasting_of_snd heq]
    · simp

theorem execFlushDone_keeps (n : Nat) : s.Keeps (execFlushDone n s) := by
  unfold execFlushDone
  dsimp only
  (repeat' split) <;> simp

theorem execThrStart_keeps (t : Nat) (d : Word) : s.Keeps (execThrStart t d s) := by simp [execThrStart]
theorem execThrStop_keeps (t : Nat) (d : Word) : s.Keeps (execThrStop t d s) := by simp [execThrStop]
theorem execThrHalt_keeps (t : Nat) (d : Word) : s.Keeps (execThrHalt t d s) := by simp [execThrHalt]
theorem execThrResume_keeps (t : Nat) (d : Word) : s.Keeps (execThrResume t d s) := by simp [execThrResume]
theorem execDbgDataWrite_keeps (t : Nat) (d : Word) : s.Keeps (execDbgDataWrite t d s) := by simp [execDbgDataWrite]

theorem execBootRomStart_keeps (dt : Nat) : s.Keeps (execBootRomStart dt s) := by
  unfold execBootRomStart
  split <;> simp

theorem execActivate_keeps (dt req : Nat) : s.Keeps (execActivate dt req s) := by simp [execActivate]

theorem execFlashDiscoveryDone_keeps (dt mode density : Nat) : s.Keeps (execFlashDiscoveryDone dt mode density s) := by
  unfold execFlashDiscoveryDone
  (repeat' split) <;> simp

theorem execFlsCmdDone_keeps (dt : Nat) (fail : Bool) : s.Keeps (execFlsCmdDone dt fail s) := by
  unfold execFlsCmdDone
  dsimp only
  (repeat' split) <;> simp

theorem execEthRxFrame_keeps (dt p len : Nat) (bytes : List Byte) : s.Keeps (execEthRxFrame dt p len bytes s) := by
  unfold execEthRxFrame
  dsimp only
  (repeat' split) <;> simp

theorem execEthTxRecord_keeps (dt p : Nat) : s.Keeps (execEthTxRecord dt p s) := by
  unfold execEthTxRecord
  dsimp only
  (repeat' split) <;> simp

theorem execEthTxDone_keeps (dt p : Nat) : s.Keeps (execEthTxDone dt p s) := by
  unfold execEthTxDone
  dsimp only
  (repeat' split) <;> simp

theorem execEthLinkUp_keeps (dt p : Nat) : s.Keeps (execEthLinkUp dt p s) := by
  unfold execEthLinkUp
  dsimp only
  (repeat' split) <;> simp

theorem execEthLinkDown_keeps (dt p : Nat) (cut : Bool) : s.Keeps (execEthLinkDown dt p cut s) := by simp [execEthLinkDown]

theorem execBar2Access_keeps (dt : Nat) (write : Bool) (o n : Nat) (bs : List Byte) : s.Keeps (execBar2Access dt write o n bs s) := by
  unfold execBar2Access
  dsimp only
  (repeat' split) <;> simp

theorem execRingDmaReadDone_keeps (dt n : Nat) (ws : List Word) : s.Keeps (execRingDmaReadDone dt n ws s) := by simp [execRingDmaReadDone]
theorem execRingRecordPop_keeps (dt n : Nat) : s.Keeps (execRingRecordPop dt n s) := by simp [execRingRecordPop]

theorem execRingCoalTimer_keeps (n : Nat) : s.Keeps (execRingCoalTimer n s) := by
  unfold execRingCoalTimer
  dsimp only
  (repeat' split) <;> simp

theorem execRingDmaError_keeps (e : DmaFailure) (n : Nat) : s.Keeps (execRingDmaError e n s) := by
  unfold execRingDmaError
  dsimp only
  (repeat' split) <;> simp

theorem execPcieLinkDown_keeps (dt : Nat) (popped : List Nat) : s.Keeps (execPcieLinkDown dt popped s) := by
  unfold execPcieLinkDown
  dsimp only
  (repeat' split) <;> simp

theorem execHotReset_keeps (dt : Nat) (popped : List Nat) : s.Keeps (execHotReset dt popped s) := by simp [execHotReset]
theorem execPciePerst_keeps (p : Low) (popped : List Nat) : s.Keeps (execPciePerst p popped s) := by simp [execPciePerst]

theorem execBusMasterClear_keeps (dt : Nat) (cfg : ConfigWrite) (popped : List Nat) : s.Keeps (execBusMasterClear dt cfg popped s) := by
  unfold execBusMasterClear
  dsimp only
  (repeat' split) <;> simp

theorem execPcieLinkUp_keeps (dt width speed : Nat) : s.Keeps (execPcieLinkUp dt width speed s) := by
  unfold execPcieLinkUp
  dsimp only
  (repeat' split) <;> simp

theorem execHostIngressRecord_keeps (dt : Nat) : s.Keeps (execHostIngressRecord dt s) := by
  unfold execHostIngressRecord
  dsimp only
  (repeat' split) <;> simp

theorem execSkimWord_keeps (dt : Nat) : s.Keeps (execSkimWord dt s) := by
  unfold execSkimWord
  (repeat' split) <;> simp

theorem execSkimDone_keeps : s.Keeps (execSkimDone s) := by
  unfold execSkimDone
  (repeat' split) <;> simp

theorem execNowSRead_keeps (dt : Nat) : s.Keeps (execNowSRead dt s) := by simp [execNowSRead]

theorem execCisternTrimCorrect_keeps : s.Keeps (execCisternTrimCorrect s) := by
  unfold execCisternTrimCorrect
  split <;> simp

theorem execSet_keeps (dt : Nat) : s.Keeps (execSet dt s) := by simp [execSet]
theorem execStep_keeps (dt : Nat) : s.Keeps (execStep dt s) := by simp [execStep]
theorem execArm_keeps (dt : Nat) : s.Keeps (execArm dt s) := by simp [execArm]
theorem execDisarm_keeps (dt : Nat) : s.Keeps (execDisarm dt s) := by simp [execDisarm]

theorem execAsnStart_keeps : s.Keeps (execAsnStart s) := by
  unfold execAsnStart
  split <;> simp

theorem execOfsSample_keeps (dt : Nat) (d : Word) : s.Keeps (execOfsSample dt d s) := by simp [execOfsSample]

theorem execSlewEnd_keeps (s : State) : s.Keeps (execSlewEnd s) := by
  unfold execSlewEnd
  split
  · next d _ _ => exact keeps_next.mpr ((Lasting.Le.refl s.lasting).advance d)
  · simp

theorem execHoldover_keeps : s.Keeps (execHoldover s) := by
  unfold execHoldover
  split <;> simp

theorem execMasterChg_keeps (dt : Nat) : s.Keeps (execMasterChg dt s) := by simp [execMasterChg]
theorem execResetI_keeps (dt : Nat) : s.Keeps (execResetI dt s) := by simp [execResetI]

theorem execPpsInEdge_keeps (e : Change) (s : State) : s.Keeps (execPpsInEdge e s) := by
  have h : s.lasting.Le ((s.after e.dt).filtered 28 37 e.held).2.lasting := by simp
  unfold execPpsInEdge
  dsimp only
  split
  · rw [keeps_next, ppsEdge_lasting]
    exact h.after 33
  · exact keeps_next.mpr h

theorem execPpsMiss_keeps : s.Keeps (execPpsMiss s) := by
  unfold execPpsMiss
  split <;> simp

theorem execPpsOutAssert_keeps : s.Keeps (execPpsOutAssert s) := by
  unfold execPpsOutAssert
  split <;> simp

theorem execPpsOutRelease_keeps : s.Keeps (execPpsOutRelease s) := by
  unfold execPpsOutRelease
  split <;> simp

theorem execPairWaitExpiry_keeps : s.Keeps (execPairWaitExpiry s) := by
  unfold execPairWaitExpiry
  split <;> simp

theorem execTwinLaneLock_keeps (dt k : Nat) (up : Bool) : s.Keeps (execTwinLaneLock dt k up s) := by simp [execTwinLaneLock]

theorem execHeartbeatSend_keeps : s.Keeps (execHeartbeatSend s) := by
  unfold execHeartbeatSend
  split <;> simp

theorem execLinkSilence_keeps : s.Keeps (execLinkSilence s) := by
  unfold execLinkSilence
  (repeat' split) <;> simp

theorem execMirrorSend_keeps : s.Keeps (execMirrorSend s) := by
  unfold execMirrorSend
  dsimp only
  (repeat' split) <;> simp

theorem execTakeoverDecision_keeps (dt : Nat) : s.Keeps (execTakeoverDecision dt s) := by
  unfold execTakeoverDecision
  dsimp only
  (repeat' split) <;> simp

theorem execSuspectWindowEnd_keeps : s.Keeps (execSuspectWindowEnd s) := by
  unfold execSuspectWindowEnd
  split <;> simp

theorem execHandoverSend_keeps (dt : Nat) (s : State) : s.Keeps (execHandoverSend dt s) := by
  have h := (Lasting.Le.refl s.lasting).after dt
  unfold execHandoverSend
  dsimp only
  split
  · split
    · rw [keeps_next, twnSend_lasting]; exact h
    · simp
  · simp

theorem execTwinTxRecord_keeps (dt : Nat) : s.Keeps (execTwinTxRecord dt s) := by
  unfold execTwinTxRecord
  dsimp only
  (repeat' split) <;> simp

theorem execStillAuto_keeps : s.Keeps (execStillAuto s) := by
  unfold execStillAuto
  split <;> simp

theorem execStillSnapshot_keeps : s.Keeps (execStillSnapshot s) := by
  unfold execStillSnapshot
  split <;> simp

theorem execSiltFlushTimer_keeps : s.Keeps (execSiltFlushTimer s) := by
  unfold execSiltFlushTimer
  split <;> simp

theorem execSiltFlushDone_keeps : s.Keeps (execSiltFlushDone s) := by
  unfold execSiltFlushDone
  split <;> simp

theorem execSiltRingScan_keeps (dt : Nat) : s.Keeps (execSiltRingScan dt s) := by
  unfold execSiltRingScan
  split <;> simp

theorem execOpHour_keeps : s.Keeps (execOpHour s) := by
  unfold execOpHour
  split <;> simp

theorem execEddyKey_keeps (dt : Nat) (d : Word) : s.Keeps (execEddyKey dt d s) := by simp [execEddyKey]

theorem execEddyHoldRelease_keeps (k : Nat) : s.Keeps (execEddyHoldRelease k s) := by
  unfold execEddyHoldRelease
  dsimp only
  (repeat' split) <;> simp

theorem execResetRelease_keeps (dt : Nat) (strap1 strap0 : Bool) : s.Keeps (execResetRelease dt strap1 strap0 s) := by
  unfold execResetRelease
  split <;> simp

theorem execPowerRestart_keeps (dt : Nat) (strap1 strap0 : Bool) : s.Keeps (execPowerRestart dt strap1 strap0 s) := by
  unfold execPowerRestart
  split <;> simp

theorem execMemoryInitDone_keeps (dt m : Nat) : s.Keeps (execMemoryInitDone dt m s) := by
  unfold execMemoryInitDone
  split <;> simp

theorem execJetLock_keeps (dt k : Nat) : s.Keeps (execJetLock dt k s) := by
  unfold execJetLock
  (repeat' split) <;> simp

theorem execJetLockTimeout_keeps (k : Nat) : s.Keeps (execJetLockTimeout k s) := by
  unfold execJetLockTimeout
  (repeat' split) <;> simp

theorem execChainWakeRequest_keeps (j : Nat) : s.Keeps (execChainWakeRequest j s) := by
  unfold execChainWakeRequest
  dsimp only
  (repeat' split) <;> simp

theorem execClusterStop_keeps (c : Nat) : s.Keeps (execClusterStop c s) := by
  unfold execClusterStop
  dsimp only
  (repeat' split) <;> simp

theorem execClusterWake_keeps (c : Nat) : s.Keeps (execClusterWake c s) := by
  unfold execClusterWake
  dsimp only
  (repeat' split) <;> simp

theorem execSscApply_keeps (s : State) : s.Keeps (execSscApply s) :=
  keeps_next.mpr (Lasting.Le.advance (by simp) _)

theorem execPfailDetect_keeps (e : Change) (both : Bool) : s.Keeps (execPfailDetect e both s) := by
  unfold execPfailDetect
  dsimp only
  (repeat' split) <;> simp

theorem execBrownOut_keeps (e : Change) : s.Keeps (execBrownOut e s) := by
  unfold execBrownOut
  dsimp only
  (repeat' split) <;> simp

theorem execPfailReset_keeps (wakeN : Bool) : s.Keeps (execPfailReset wakeN s) := by
  unfold execPfailReset
  dsimp only
  (repeat' split) <;> simp

theorem execDormantAlarm_keeps : s.Keeps (execDormantAlarm s) := by
  unfold execDormantAlarm
  split <;> simp

theorem execWakeNWake_keeps (p : Low) : s.Keeps (execWakeNWake p s) := by
  unfold execWakeNWake
  dsimp only
  (repeat' split) <;> simp

theorem execRstNAssert_keeps (p : Low) : s.Keeps (execRstNAssert p s) := by simp [execRstNAssert]

theorem execVbatLoss_keeps (dt : Nat) : s.Keeps (execVbatLoss dt s) := by
  unfold execVbatLoss
  split <;> simp

theorem execCisternSupplySwitch_keeps (dt : Nat) (supply : CisternSupply) : s.Keeps (execCisternSupplySwitch dt supply s) := by
  unfold execCisternSupplySwitch
  split <;> simp

theorem execVbatLow_keeps (dt : Nat) : s.Keeps (execVbatLow dt s) := by
  unfold execVbatLow
  dsimp only
  (repeat' split) <;> simp

theorem execVbatRestore_keeps (dt : Nat) : s.Keeps (execVbatRestore dt s) := by simp [execVbatRestore]

theorem execSpwFlashReadDone_keeps (dt k : Nat) : s.Keeps (execSpwFlashReadDone dt k s) := by
  unfold execSpwFlashReadDone
  dsimp only
  (repeat' split) <;> simp

theorem execSpwSlotSkip_keeps (k : Nat) : s.Keeps (execSpwSlotSkip k s) := by
  unfold execSpwSlotSkip
  split <;> simp

theorem execCounterRead_keeps (a : RegRead) : s.Keeps (execCounterRead a s) := by
  unfold execCounterRead
  dsimp only
  (repeat' split) <;> simp

theorem execRegisterWrite_keeps (a : Requester) (off w : Nat) (d : Word) : s.Keeps (execRegisterWrite a off w d s) := by
  unfold execRegisterWrite
  (repeat' split) <;> simp

theorem execBr_keeps (t w : Nat) : s.Keeps (execBr t w s) := by simp [execBr]
theorem execCall_keeps (t w : Nat) : s.Keeps (execCall t w s) := by simp [execCall]
theorem execJalr_keeps (t w : Nat) : s.Keeps (execJalr t w s) := by simp [execJalr]
theorem execDbnz_keeps (t w : Nat) : s.Keeps (execDbnz t w s) := by simp [execDbnz]
theorem execHmk_keeps (t w : Nat) : s.Keeps (execHmk t w s) := by simp [execHmk]

theorem execHalloc_keeps (t w : Nat) (s : State) : s.Keeps (execHalloc t w s) := by
  refine keeps_issue fun s => ?_
  dsimp only
  split
  · simp
  · split <;> simp

theorem execHfree_keeps (t w : Nat) : s.Keeps (execHfree t w s) := by simp [execHfree]
theorem execPush4_keeps (t w : Nat) : s.Keeps (execPush4 t w s) := by simp [execPush4]

theorem execTpush_keeps (t w : Nat) (s : State) : s.Keeps (execTpush t w s) := by
  refine keeps_next.mpr (Lasting.Le.issue (.refl _) _ _ _ _ fun s => Lasting.Le.unlessRegion (.refl _) _ fun s => ?_)
  dsimp only
  (repeat' split) <;> simp

theorem execPopw_keeps (t w : Nat) : s.Keeps (execPopw t w s) := by simp [execPopw]
theorem execRlev_keeps (t w : Nat) : s.Keeps (execRlev t w s) := by simp [execRlev]
theorem execPushRoom_keeps (t : Nat) : s.Keeps (execPushRoom t s) := by simp [execPushRoom]

theorem execPopWordArrive_keeps (t : Nat) : s.Keeps (execPopWordArrive t s) := by
  unfold execPopWordArrive
  split <;> simp

theorem execPopwTimeout_keeps (t : Nat) : s.Keeps (execPopwTimeout t s) := by
  unfold execPopwTimeout
  split <;> simp

theorem execNowf_keeps (t w : Nat) : s.Keeps (execNowf t w s) := by simp [execNowf]
theorem execWaitt_keeps (t w : Nat) : s.Keeps (execWaitt t w s) := by simp [execWaitt]

theorem execWaittRelease_keeps (t : Nat) : s.Keeps (execWaittRelease t s) := by
  unfold execWaittRelease
  split <;> simp

theorem execA2t_keeps (t w : Nat) : s.Keeps (execA2t t w s) := by simp [execA2t]
theorem execTcmd_keeps (t w : Nat) : s.Keeps (execTcmd t w s) := by simp [execTcmd]

theorem execTcmdAccept_keeps (t : Nat) : s.Keeps (execTcmdAccept t s) := by
  unfold execTcmdAccept
  split <;> simp

theorem execTfindResult_keeps (t : Nat) : s.Keeps (execTfindResult t s) := by
  unfold execTfindResult
  dsimp only
  (repeat' split) <;> simp

theorem execTrd_keeps (t w : Nat) : s.Keeps (execTrd t w s) := by simp [execTrd]
theorem execRnd_keeps (t w : Nat) : s.Keeps (execRnd t w s) := by simp [execRnd]

theorem execRndReady_keeps (t : Nat) : s.Keeps (execRndReady t s) := by
  unfold execRndReady
  split <;> simp

theorem execSpb_keeps (t w : Nat) : s.Keeps (execSpb t w s) := by simp [execSpb]

theorem execSps_keeps (t w : Nat) (s : State) : s.Keeps (execSps t w s) := by
  refine keeps_next.mpr (Lasting.Le.issue (.refl _) _ _ _ _ fun s => ?_)
  split <;> simp

theorem execMts_keeps (t w : Nat) : s.Keeps (execMts t w s) := by simp [execMts]
theorem execEret_keeps (t w : Nat) : s.Keeps (execEret t w s) := by simp [execEret]
theorem execYield_keeps (t w : Nat) : s.Keeps (execYield t w s) := by simp [execYield]
theorem execBrk_keeps (t w : Nat) : s.Keeps (execBrk t w s) := by simp [execBrk]

theorem execRegisterWindowDone_keeps (t : Nat) : s.Keeps (execRegisterWindowDone t s) := by
  unfold execRegisterWindowDone
  dsimp only
  (repeat' split) <;> simp

theorem execWatchdogExpiry_keeps (t : Nat) : s.Keeps (execWatchdogExpiry t s) := by simp [execWatchdogExpiry]
theorem execCoreWedge_keeps (dt k : Nat) : s.Keeps (execCoreWedge dt k s) := by simp [execCoreWedge]
theorem execSpiRegRead32_keeps (dt off : Nat) (ready : Bool) : s.Keeps (execSpiRegRead32 dt off ready s) := by simp [execSpiRegRead32]
theorem execSpiRegRead64_keeps (dt off : Nat) (ready : Bool) : s.Keeps (execSpiRegRead64 dt off ready s) := by simp [execSpiRegRead64]
theorem execSpiRegWrite32_keeps (dt off : Nat) (d : Word) : s.Keeps (execSpiRegWrite32 dt off d s) := by simp [execSpiRegWrite32]
theorem execSpiRegWrite64_keeps (dt off : Nat) (d : Word) : s.Keeps (execSpiRegWrite64 dt off d s) := by simp [execSpiRegWrite64]
theorem execSpiPktRead_keeps (r : PktRead) (o n : Nat) : s.Keeps (execSpiPktRead r o n s) := by simp [execSpiPktRead]
theorem execSpiPktWrite_keeps (dt o : Nat) (bs : List Byte) : s.Keeps (execSpiPktWrite dt o bs s) := by simp [execSpiPktWrite]
theorem execSpiStatusRead_keeps (dt : Nat) : s.Keeps (execSpiStatusRead dt s) := by simp [execSpiStatusRead]
theorem execSpiBadTransaction_keeps (dt : Nat) : s.Keeps (execSpiBadTransaction dt s) := by simp [execSpiBadTransaction]
end

end Sys2Proof.Machine
end

section
/-! PROOFS. `Obligations.NoCommandUndoes`. -/

namespace Sys2Proof.Machine

theorem exec_keeps (c : Instr) (s : State) : s.Keeps (exec c s) := by
  cases c with
  | registerWrite _ _ _ _ => exact execRegisterWrite_keeps ..
  | counterRead _ => exact execCounterRead_keeps ..
  | msixEnable _ _ => exact keeps_powered fun _ => msixEnable_lasting ..
  | msixUnmask _ => exact keeps_powered fun _ => msixWrite_lasting ..
  | clipInterval _ _ _ _ => exact execClipInterval_keeps ..
  | plmWindowWrite _ _ => exact keeps_powered fun _ => plmWindowWrite_lasting ..
  | plmChainCtlWrite _ _ => exact keeps_powered fun _ => plmChainCtlWrite_lasting ..
  | chainPrimed _ => exact execChainPrimed_keeps ..
  | chainListening _ => exact execChainListening_keeps ..
  | chainLeaveListening _ => exact execChainLeaveListening_keeps ..
  | chainParked _ => exact execChainParked_keeps ..
  | rillEnable _ _ _ => exact keeps_powered fun _ => rillCfgWrite_lasting ..
  | rillDisable _ _ _ => exact keeps_powered fun _ => rillCfgWrite_lasting ..
  | rillConfigWrite _ _ _ _ => exact execRillConfigWrite_keeps ..
  | phyModeWrite _ _ => exact keeps_powered fun _ => phyModeWrite_lasting ..
  | preambleDetect _ _ _ _ _ _ => exact execPreambleDetect_keeps ..
  | aerialChoice _ _ _ _ _ => exact execAerialChoice_keeps ..
  | aerialChoiceForced _ _ _ _ _ => exact execAerialChoiceForced_keeps ..
  | sfdTimeout _ _ _ => exact execSfdTimeout_keeps ..
  | sfdFound _ _ _ _ _ _ _ _ _ => exact execSfdFound_keeps ..
  | phrReceived _ _ _ _ _ _ _ _ => exact execPhrReceived_keeps ..
  | psduByte _ _ _ _ => exact execPsduByte_keeps ..
  | frameEnd _ _ _ => exact execFrameEnd_keeps ..
  | blankingEnd _ => exact execBlankingEnd_keeps ..
  | synWindowWrite _ _ => exact keeps_powered fun _ => synWindowWrite_lasting ..
  | cal _ _ => exact keeps_powered fun _ => synCtlWrite_lasting ..
  | synLock _ _ => exact execSynLock_keeps ..
  | synFault _ => exact execSynFault_keeps ..
  | tempCalDue _ _ _ => exact execTempCalDue_keeps ..
  | tempCalStart _ _ => exact execTempCalStart_keeps ..
  | calStarved _ => exact execCalStarved_keeps ..
  | txWake _ _ => exact execTxWake_keeps ..
  | txOff _ => exact execTxOff_keeps ..
  | carrierEnable _ _ _ => exact keeps_powered fun _ => carCfgWrite_lasting ..
  | carrierConfigWrite _ _ _ _ => exact execCarrierConfigWrite_keeps ..
  | txDescriptor _ _ => exact execTxDescriptor_keeps ..
  | charterStageResume _ => exact execCharterStageResume_keeps ..
  | coexReqAssert _ _ => exact execCoexReqAssert_keeps ..
  | grantSample _ _ _ => exact execGrantSample_keeps ..
  | grantWithdrawal _ _ => exact execGrantWithdrawal_keeps ..
  | commitPoint _ _ => exact execCommitPoint_keeps ..
  | txLate _ _ => exact execTxLate_keeps ..
  | txswAssert _ _ => exact execTxswAssert_keeps ..
  | paAssert _ _ => exact execPaAssert_keeps ..
  | rfStart _ _ => exact execRfStart_keeps ..
  | lastRf _ _ => exact execLastRf_keeps ..
  | paRelease _ => exact execPaRelease_keeps ..
  | txswRelease _ => exact execTxswRelease_keeps ..
  | lnaActive _ => exact execLnaActive_keeps ..
  | lockLoss _ _ => exact execLockLoss_keeps ..
  | femPolApply _ => exact execFemPolApply_keeps ..
  | fuseBlow _ => exact keeps_powered fun _ => fuseBlow_lasting ..
  | fuseDone => exact execFuseDone_keeps ..
  | digestDone => exact execDigestDone_keeps ..
  | binRotation => exact execBinRotation_keeps ..
  | macEnable _ => exact keeps_powered fun _ => macCtlWrite_lasting ..
  | slotResolve => exact execSlotResolve_keeps ..
  | slotStart => exact execSlotStart_keeps ..
  | slotEnd => exact execSlotEnd_keeps ..
  | ackWindowClose _ _ => exact execAckWindowClose_keeps ..
  | spwLoad _ => exact keeps_powered fun _ => spwCmdWrite_lasting ..
  | startFull _ => exact keeps_powered fun _ => spwCmdWrite_lasting ..
  | startRepair _ => exact keeps_powered fun _ => spwCmdWrite_lasting ..
  | merge _ _ => exact keeps_powered fun _ => spwCmdWrite_lasting ..
  | clearMissing _ => exact keeps_powered fun _ => spwCmdWrite_lasting ..
  | suspend _ => exact keeps_powered fun _ => spwCmdWrite_lasting ..
  | resume _ => exact keeps_powered fun _ => spwCmdWrite_lasting ..
  | abort _ => exact keeps_powered fun _ => spwCmdWrite_lasting ..
  | spwFlashReadDone _ _ => exact execSpwFlashReadDone_keeps ..
  | spwSlotSkip _ => exact execSpwSlotSkip_keeps ..
  | sluiceHeader _ => exact execSluiceHeader_keeps ..
  | wiredPacket _ => exact execWiredPacket_keeps ..
  | sluiceCommit _ => exact execSluiceCommit_keeps ..
  | search _ _ => exact execSearch_keeps ..
  | next _ _ => exact execNext_keeps ..
  | insert _ _ => exact execInsert_keeps ..
  | update _ _ => exact execUpdate_keeps ..
  | delete _ _ => exact execDelete_keeps ..
  | flushPort _ _ => exact execFlushPort_keeps ..
  | flushPortDone => exact execFlushPortDone_keeps ..
  | scanTimeout => exact execScanTimeout_keeps ..
  | agerVisit => exact execAgerVisit_keeps ..
  | relocSeedWrite _ => exact keeps_powered fun _ => relocSeedWrite_lasting ..
  | recon _ => exact execRecon_keeps ..
  | enrol _ => exact execEnrol_keeps ..
  | refresh _ => exact execRefresh_keeps ..
  | sealRoot _ => exact execSealRoot_keeps ..
  | grtLoad _ => exact execGrtLoad_keeps ..
  | provision _ => exact execProvision_keeps ..
  | rekeyNet _ => exact execRekeyNet_keeps ..
  | importGroup _ => exact execImportGroup_keeps ..
  | retireGroup _ => exact execRetireGroup_keeps ..
  | importOvr _ => exact execImportOvr_keeps ..
  | clearOvr _ => exact execClearOvr_keeps ..
  | exportPage _ => exact execExportPage_keeps ..
  | floorCommit _ => exact execFloorCommit_keeps ..
  | attest _ => exact execAttest_keeps ..
  | grtBlow _ => exact execGrtBlow_keeps ..
  | debugExport _ => exact execDebugExport_keeps ..
  | grtCmdDone => exact execGrtCmdDone_keeps ..
  | invalidationSweepDone => exact execInvalidationSweepDone_keeps ..
  | msgErase => exact execMsgErase_keeps ..
  | keyReady _ => exact execKeyReady_keeps ..
  | verifyJobStart _ => exact execVerifyJobStart_keeps ..
  | verifyDone _ => exact execVerifyDone_keeps ..
  | protectJobStart _ _ => exact execProtectJobStart_keeps ..
  | protectDone _ _ => exact execProtectDone_keeps ..
  | maskRefresh => exact execMaskRefresh_keeps ..
  | drbgReseed => exact execDrbgReseed_keeps ..
  | drbgHealthFail _ _ => exact execDrbgHealthFail_keeps ..
  | unlockChal _ => exact execUnlockChal_keeps ..
  | unlockResp _ _ => exact execUnlockResp_keeps ..
  | add _ _ => exact keeps_of_lasting (aluA_lasting ..)
  | sub _ _ => exact keeps_of_lasting (aluA_lasting ..)
  | and _ _ => exact keeps_of_lasting (aluA_lasting ..)
  | or _ _ => exact keeps_of_lasting (aluA_lasting ..)
  | xor _ _ => exact keeps_of_lasting (aluA_lasting ..)
  | sll _ _ => exact keeps_of_lasting (aluA_lasting ..)
  | srl _ _ => exact keeps_of_lasting (aluA_lasting ..)
  | sra _ _ => exact keeps_of_lasting (aluA_lasting ..)
  | mul _ _ => exact keeps_of_lasting (aluA_lasting ..)
  | sel _ _ => exact keeps_of_lasting (aluA_lasting ..)
  | addi _ _ => exact keeps_of_lasting (aluB_lasting ..)
  | andi _ _ => exact keeps_of_lasting (aluB_lasting ..)
  | ori _ _ => exact keeps_of_lasting (aluB_lasting ..)
  | xori _ _ => exact keeps_of_lasting (aluB_lasting ..)
  | slli _ _ => exact keeps_of_lasting (aluB_lasting ..)
  | srli _ _ => exact keeps_of_lasting (aluB_lasting ..)
  | srai _ _ => exact keeps_of_lasting (aluB_lasting ..)
  | li _ _ => exact keeps_of_lasting (aluD_lasting ..)
  | lih _ _ => exact keeps_of_lasting (aluD_lasting ..)
  | ceq _ _ => exact keeps_of_lasting (compare_lasting ..)
  | cne _ _ => exact keeps_of_lasting (compare_lasting ..)
  | clt _ _ => exact keeps_of_lasting (compare_lasting ..)
  | cltu _ _ => exact keeps_of_lasting (compare_lasting ..)
  | cge _ _ => exact keeps_of_lasting (compare_lasting ..)
  | cgeu _ _ => exact keeps_of_lasting (compare_lasting ..)
  | pand _ _ => exact keeps_of_lasting (predOp_lasting ..)
  | por _ _ => exact keeps_of_lasting (predOp_lasting ..)
  | pnot _ _ => exact keeps_of_lasting (predOp_lasting ..)
  | br _ _ => exact execBr_keeps ..
  | call _ _ => exact execCall_keeps ..
  | jalr _ _ => exact execJalr_keeps ..
  | dbnz _ _ => exact execDbnz_keeps ..
  | ldb _ _ => exact keeps_issue fun _ => loadOp_lasting ..
  | ldh _ _ => exact keeps_issue fun _ => loadOp_lasting ..
  | ldw _ _ => exact keeps_issue fun _ => loadOp_lasting ..
  | ldd _ _ => exact keeps_issue fun _ => loadOp_lasting ..
  | stb _ _ => exact keeps_issue fun _ => storeOp_lasting ..
  | sth _ _ => exact keeps_issue fun _ => storeOp_lasting ..
  | stw _ _ => exact keeps_issue fun _ => storeOp_lasting ..
  | std _ _ => exact keeps_issue fun _ => storeOp_lasting ..
  | amoadd _ _ => exact keeps_issue fun _ => atomicOp_lasting ..
  | cas _ _ => exact keeps_issue fun _ => atomicOp_lasting ..
  | fenceFull _ _ => exact keeps_of_lasting (fence_lasting ..)
  | fenceSt _ _ => exact keeps_of_lasting (fence_lasting ..)
  | fenceRn _ _ => exact keeps_of_lasting (fence_lasting ..)
  | push _ _ => exact keeps_issue fun _ => pushOp_lasting ..
  | push4 _ _ => exact execPush4_keeps ..
  | tpush _ _ => exact execTpush_keeps ..
  | pop _ _ => exact keeps_issue fun _ => popOp_lasting ..
  | pop4 _ _ => exact keeps_issue fun _ => popOp_lasting ..
  | popw _ _ => exact execPopw_keeps ..
  | rlev _ _ => exact execRlev_keeps ..
  | pushRoom _ => exact execPushRoom_keeps ..
  | popWordArrive _ => exact execPopWordArrive_keeps ..
  | popwTimeout _ => exact execPopwTimeout_keeps ..
  | now _ _ => exact keeps_issue fun _ => result_lasting ..
  | nowf _ _ => exact execNowf_keeps ..
  | asn _ _ => exact keeps_issue fun _ => result_lasting ..
  | waitt _ _ => exact execWaitt_keeps ..
  | waittRelease _ => exact execWaittRelease_keeps ..
  | a2t _ _ => exact execA2t_keeps ..
  | tcmd _ _ => exact execTcmd_keeps ..
  | tcmdAccept _ => exact execTcmdAccept_keeps ..
  | tfind _ _ => exact keeps_issue fun _ => enterWait_lasting ..
  | tfindResult _ => exact execTfindResult_keeps ..
  | trd _ _ => exact execTrd_keeps ..
  | hmk _ _ => exact execHmk_keeps ..
  | hget _ _ => exact keeps_issue fun _ => result_lasting ..
  | hldb _ _ => exact keeps_issue fun _ => frameLoad_lasting ..
  | hldd _ _ => exact keeps_issue fun _ => frameLoad_lasting ..
  | hstb _ _ => exact keeps_issue fun _ => frameStore_lasting ..
  | hstd _ _ => exact keeps_issue fun _ => frameStore_lasting ..
  | halloc _ _ => exact execHalloc_keeps ..
  | hfree _ _ => exact execHfree_keeps ..
  | bfx _ _ => exact keeps_of_lasting (aluB_lasting ..)
  | bfxs _ _ => exact keeps_of_lasting (aluB_lasting ..)
  | bfi _ _ => exact keeps_of_lasting (aluB_lasting ..)
  | clz _ _ => exact keeps_of_lasting (aluA_lasting ..)
  | bswap _ _ => exact keeps_of_lasting (aluA_lasting ..)
  | crc32cb _ _ => exact keeps_of_lasting (aluA_lasting ..)
  | crc32cd _ _ => exact keeps_of_lasting (aluA_lasting ..)
  | crc32b _ _ => exact keeps_of_lasting (aluA_lasting ..)
  | crc32d _ _ => exact keeps_of_lasting (aluA_lasting ..)
  | crc16b _ _ => exact keeps_of_lasting (aluA_lasting ..)
  | shab _ _ => exact keeps_issue fun _ => cryptoOp_lasting ..
  | aesb _ _ => exact keeps_issue fun _ => cryptoOp_lasting ..
  | rnd _ _ => exact execRnd_keeps ..
  | rndReady _ => exact execRndReady_keeps ..
  | spb _ _ => exact execSpb_keeps ..
  | sps _ _ => exact execSps_keeps ..
  | spd _ _ => exact keeps_issue fun _ => dropTo_lasting ..
  | mfs _ _ => exact keeps_issue fun _ => result_lasting ..
  | mts _ _ => exact execMts_keeps ..
  | trap _ _ => exact keeps_issue fun _ => except_lasting ..
  | eret _ _ => exact execEret_keeps ..
  | yield _ _ => exact execYield_keeps ..
  | brk _ _ => exact execBrk_keeps ..
  | registerWindowDone _ => exact execRegisterWindowDone_keeps ..
  | thrStart _ _ => exact execThrStart_keeps ..
  | thrStop _ _ => exact execThrStop_keeps ..
  | thrHalt _ _ => exact execThrHalt_keeps ..
  | thrResume _ _ => exact execThrResume_keeps ..
  | dbgDataWrite _ _ => exact execDbgDataWrite_keeps ..
  | jDbgHalt _ => exact keeps_powered fun _ => jDbgSelWrite_lasting ..
  | jDbgResume _ => exact keeps_powered fun _ => jDbgSelWrite_lasting ..
  | watchdogExpiry _ => exact execWatchdogExpiry_keeps ..
  | coreWedge _ _ => exact execCoreWedge_keeps ..
  | runnelEnable _ _ => exact keeps_powered fun _ => runCfgWrite_lasting ..
  | runnelDisable _ _ => exact keeps_powered fun _ => runCfgWrite_lasting ..
  | runnelDisableDone _ => exact execRunnelDisableDone_keeps ..
  | enginePushRoom _ => exact execEnginePushRoom_keeps ..
  | hostPush _ => exact execHostPush_keeps ..
  | hostPop _ => exact execHostPop_keeps ..
  | runnelFlush _ => exact keeps_powered fun _ => flushWrite_lasting ..
  | flushDone _ => exact execFlushDone_keeps ..
  | hostAlloc _ => exact keeps_powered fun _ => hallocWrite_lasting ..
  | hostAllocDone => exact execHostAllocDone_keeps ..
  | hostFree _ => exact keeps_powered fun _ => freeChain_lasting ..
  | cisternTrimCorrect => exact execCisternTrimCorrect_keeps ..
  | nowSRead _ => exact execNowSRead_keeps ..
  | set _ => exact execSet_keeps ..
  | step _ => exact execStep_keeps ..
  | arm _ => exact execArm_keeps ..
  | disarm _ => exact execDisarm_keeps ..
  | masterChg _ => exact execMasterChg_keeps ..
  | resetI _ => exact execResetI_keeps ..
  | ofsSample _ _ => exact execOfsSample_keeps ..
  | slewEnd => exact execSlewEnd_keeps ..
  | holdover => exact execHoldover_keeps ..
  | ppsInEdge _ => exact execPpsInEdge_keeps ..
  | ppsMiss => exact execPpsMiss_keeps ..
  | ppsOutAssert => exact execPpsOutAssert_keeps ..
  | ppsOutRelease => exact execPpsOutRelease_keeps ..
  | asnStart => exact execAsnStart_keeps ..
  | ethEnable _ _ => exact keeps_powered fun _ => ethCtlWrite_lasting ..
  | ethRxFrame _ _ _ _ => exact execEthRxFrame_keeps ..
  | ethTxRecord _ _ => exact execEthTxRecord_keeps ..
  | ethTxDone _ _ => exact execEthTxDone_keeps ..
  | ethLinkUp _ _ => exact execEthLinkUp_keeps ..
  | ethLinkDown _ _ _ => exact execEthLinkDown_keeps ..
  | bar2Access _ _ _ _ _ => exact execBar2Access_keeps ..
  | pcieLinkDown _ _ => exact execPcieLinkDown_keeps ..
  | hotReset _ _ => exact execHotReset_keeps ..
  | busMasterClear _ _ _ => exact execBusMasterClear_keeps ..
  | pciePerst _ _ => exact execPciePerst_keeps ..
  | ringEnable _ _ => exact keeps_powered fun _ => ringCtlWrite_lasting ..
  | ringDisable _ _ _ => exact keeps_powered fun _ => ringCtlWrite_lasting ..
  | ringDoorbell _ _ => exact keeps_powered fun _ => doorbell_lasting ..
  | ringDmaReadDone _ _ _ => exact execRingDmaReadDone_keeps ..
  | ringRecordPop _ _ => exact execRingRecordPop_keeps ..
  | ringCoalTimer _ => exact execRingCoalTimer_keeps ..
  | ringDmaError _ _ => exact execRingDmaError_keeps ..
  | hostIngressRecord _ => exact execHostIngressRecord_keeps ..
  | spiRegRead32 _ _ _ => exact execSpiRegRead32_keeps ..
  | spiRegRead64 _ _ _ => exact execSpiRegRead64_keeps ..
  | spiRegWrite32 _ _ _ => exact execSpiRegWrite32_keeps ..
  | spiRegWrite64 _ _ _ => exact execSpiRegWrite64_keeps ..
  | spiPktRead _ _ _ => exact execSpiPktRead_keeps ..
  | spiPktWrite _ _ _ => exact execSpiPktWrite_keeps ..
  | spiStatusRead _ => exact execSpiStatusRead_keeps ..
  | spiBadTransaction _ => exact execSpiBadTransaction_keeps ..
  | flashDiscoveryDone _ _ _ => exact execFlashDiscoveryDone_keeps ..
  | flsRead _ _ => exact keeps_powered fun _ => flsCmdWrite_lasting ..
  | flsProgram _ _ => exact keeps_powered fun _ => flsCmdWrite_lasting ..
  | erase4k _ => exact keeps_powered fun _ => flsCmdWrite_lasting ..
  | erase64k _ => exact keeps_powered fun _ => flsCmdWrite_lasting ..
  | flsCmdDone _ _ => exact execFlsCmdDone_keeps ..
  | resetRelease _ _ _ => exact execResetRelease_keeps ..
  | memoryInitDone _ _ => exact execMemoryInitDone_keeps ..
  | jetLock _ _ => exact execJetLock_keeps ..
  | jetLockTimeout _ => exact execJetLockTimeout_keeps ..
  | chainWakeRequest _ => exact execChainWakeRequest_keeps ..
  | clusterStop _ => exact execClusterStop_keeps ..
  | clusterWake _ => exact execClusterWake_keeps ..
  | sscApply => exact execSscApply_keeps ..
  | dormantEnter _ => exact keeps_powered fun _ => dormantWrite_lasting ..
  | dormantAlarm => exact execDormantAlarm_keeps ..
  | wakeNWake _ => exact execWakeNWake_keeps ..
  | pfailDetect _ _ => exact execPfailDetect_keeps ..
  | brownOut _ => exact execBrownOut_keeps ..
  | pfailReset _ => exact execPfailReset_keeps ..
  | powerRestart _ _ _ => exact execPowerRestart_keeps ..
  | softReset _ => exact keeps_powered fun _ => resetCtlWrite_lasting ..
  | rstNAssert _ => exact execRstNAssert_keeps ..
  | vbatLoss _ => exact execVbatLoss_keeps ..
  | cisternSupplySwitch _ _ => exact execCisternSupplySwitch_keeps ..
  | vbatLow _ => exact execVbatLow_keeps ..
  | skimStart _ => exact keeps_powered fun _ => skimCtlWrite_lasting ..
  | skimAbort => exact keeps_powered fun _ => skimCtlWrite_lasting ..
  | skimWord _ => exact execSkimWord_keeps ..
  | skimDone => exact execSkimDone_keeps ..
  | flipArm _ => exact keeps_powered fun _ => flipCtlWrite_lasting ..
  | flipLock => exact keeps_powered fun _ => flipCtlWrite_lasting ..
  | twinEnable _ => exact keeps_powered fun _ => twnCtlWrite_lasting ..
  | pairWaitExpiry => exact execPairWaitExpiry_keeps ..
  | twinLaneLock _ _ _ => exact execTwinLaneLock_keeps ..
  | heartbeatSend => exact execHeartbeatSend_keeps ..
  | heartbeat _ _ _ _ _ => exact keeps_next.mpr ((Lasting.Le.refl _).twnArrive ..)
  | linkSilence => exact execLinkSilence_keeps ..
  | mirrorSend => exact execMirrorSend_keeps ..
  | mirror _ _ _ _ _ => exact keeps_next.mpr ((Lasting.Le.refl _).twnArrive ..)
  | resync _ _ _ _ => exact keeps_next.mpr ((Lasting.Le.refl _).twnArrive ..)
  | twnResync => exact keeps_powered fun _ => twnCmdWrite_lasting ..
  | syncEnd _ _ _ _ => exact keeps_next.mpr ((Lasting.Le.refl _).twnArrive ..)
  | takeoverDecision _ => exact execTakeoverDecision_keeps ..
  | takeover _ _ _ _ _ => exact keeps_next.mpr ((Lasting.Le.refl _).twnArrive ..)
  | suspectWindowEnd => exact execSuspectWindowEnd_keeps ..
  | twnHandover => exact keeps_powered fun _ => twnCmdWrite_lasting ..
  | handoverSend _ => exact execHandoverSend_keeps ..
  | handover _ _ _ _ _ => exact keeps_next.mpr ((Lasting.Le.refl _).twnArrive ..)
  | goodbye _ _ _ _ _ => exact keeps_next.mpr ((Lasting.Le.refl _).twnArrive ..)
  | packet _ _ _ _ _ => exact keeps_next.mpr ((Lasting.Le.refl _).twnArrive ..)
  | twinTxRecord _ => exact execTwinTxRecord_keeps ..
  | bootRomStart _ => exact execBootRomStart_keeps ..
  | activate _ _ => exact execActivate_keeps ..
  | stillTake _ => exact keeps_powered fun _ => stillWrite_lasting ..
  | stillSnapshot => exact execStillSnapshot_keeps ..
  | stillRelease _ => exact keeps_powered fun _ => stillWrite_lasting ..
  | stillAuto => exact execStillAuto_keeps ..
  | siltPost _ _ _ => exact keeps_powered fun _ => siltPostWrite_lasting ..
  | statClear => exact keeps_powered fun _ => siltCtlWrite_lasting ..
  | siltFlush => exact keeps_powered fun _ => siltCtlWrite_lasting ..
  | siltFlushTimer => exact execSiltFlushTimer_keeps ..
  | siltFlushDone => exact execSiltFlushDone_keeps ..
  | siltRingScan _ => exact execSiltRingScan_keeps ..
  | opHour => exact execOpHour_keeps ..
  | eddyKey _ _ => exact execEddyKey_keeps ..
  | eddyLock => exact keeps_powered fun _ => eddyKeyWrite_lasting ..
  | eddySeedWrite _ _ => exact keeps_powered fun _ => eddySeedWrite_lasting ..
  | eddyHoldRelease _ => exact execEddyHoldRelease_keeps ..
  | pcieLinkUp _ _ _ => exact execPcieLinkUp_keeps ..
  | charterLoaded => exact execCharterLoaded_keeps ..
  | vbatRestore _ => exact execVbatRestore_keeps ..

/-- Settles O55: `exec_keeps` says it of every command, one arm of `exec` after another. -/
theorem noCommandUndoes : Obligations.NoCommandUndoes := by
  intro c s t ht
  obtain ⟨hq, hnow, hfuses, howners, hrevoked, hprov, hdbg, hjtag⟩ := (exec_keeps c s).le t ht
  refine ⟨hq, hnow, fun b hb => ?_, howners, hrevoked, hprov, hdbg, hjtag⟩
  exact List.contains_iff_mem.mpr (hfuses b (List.contains_iff_mem.mp hb))

end Sys2Proof.Machine
end

section
/-! PROOFS. `Obligations.WeirUsedSumsBins`: what CHT_BIN_DATA and CHT_WEIR_USED read as (R116, R117). -/

namespace Sys2Proof.Machine

/-- The steps of the runs of radiation going on with an entry that its running bin does not hold yet (R119). -/
def State.liveSteps (s : State) (e : Nat) : Nat :=
  ((s.cht.meters.filter fun m => m.entry == e).map fun m => m.steps s.clp.now - m.counted).sum

/-- Air time that CHT_BIN_DATA shows of the bin `k` rotations back: the running bin 0 with the steps going on. -/
def State.binShown (s : State) (e k : Nat) : Nat := s.bin e k + if k = 0 then s.liveSteps e else 0

theorem regView_weirUsed (s : State) (e j : Nat) : s.regView .CHT_WEIR_USED e j = BitVec.ofNat 64 (s.weirUsed e) := rfl

/-- A bin that CHT_BIN_SEL selects reads as its air time (R116). -/
theorem regView_binData {s : State} (i j : Nat) {e k : Nat} (he : s.fld F.CHT_BIN_SEL_ENTRY = e) (hk : s.fld F.CHT_BIN_SEL_BIN = k) (h : k < 60) :
    s.regView .CHT_BIN_DATA i j = BitVec.ofNat 64 (s.binShown e k) := by
  subst he hk
  exact if_pos h

/-- A write of CHT_BIN_SEL selects the bin. -/
theorem regView_binSel (s : State) {e k : Nat} (he : e < 16) (hk : k < 60) :
    ((s.setFld F.CHT_BIN_SEL_ENTRY e).setFld F.CHT_BIN_SEL_BIN k).regView .CHT_BIN_DATA 0 0 = BitVec.ofNat 64 (s.binShown e k) := by
  refine regView_binData 0 0 ?_ ?_ hk
  · rw [fld_setFld_disjoint _ _ _ _ _ _ (by decide) (by decide), fld_setFld_self _ _ _ _ _ (by decide)]
    exact Nat.mod_eq_of_lt he
  · rw [fld_setFld_self _ _ _ _ _ (by decide)]
    exact Nat.mod_eq_of_lt (hk.trans (by decide))

/-- The steps going on stand in one of the 60 bins: the running one. -/
theorem weirUsed_eq_sum_binShown (s : State) (e : Nat) : s.weirUsed e = ((List.range 60).map fun k => s.binShown e k).sum := by
  have hlive : ((List.range 60).map fun k => if k = 0 then s.liveSteps e else 0).sum = s.liveSteps e := by
    simp [List.range_succ_eq_map]
  calc s.weirUsed e = ((List.range 60).map fun k => s.bin e k).sum + s.liveSteps e := rfl
    _ = _ := by rw [← hlive, ← List.sum_map_add]; rfl

theorem ofNat_sum {w : Nat} (l : List Nat) : BitVec.ofNat w l.sum = (l.map fun n => BitVec.ofNat w n).sum := by
  induction l with
  | nil => rfl
  | cons n l ih => rw [List.sum_cons, BitVec.ofNat_add, ih, List.map_cons, List.sum_cons]

/-- Settles O60: the reading is the sum of the bins as shown, and each reads so once it is selected. -/
theorem weirUsedSumsBins : Obligations.WeirUsedSumsBins := by
  intro s e he
  rw [regView_weirUsed, weirUsed_eq_sum_binShown, ofNat_sum, List.map_map]
  congr 1
  exact List.map_congr_left fun k hk => (regView_binSel s he (List.mem_range.mp hk)).symm

end Sys2Proof.Machine
end

section
/-! PROOFS. `Obligations.CharterFuseCommands`: a blow and its end, the digest, the load after reset and the rotation of the bins (R108–R110,
R116). -/

namespace Sys2Proof.Machine

/-! ## What the meters leave of the charter block (R116–R124) -/

/-- The charter block without what its meters count and record: bins, limits and runs of radiation. -/
def State.unmetered (s : State) : ChtState := { s.cht with bins := [], limits := [], meters := [] }

@[simp] theorem setFld_unmetered (s : State) (f : Fld) (v i j : Nat) : (s.setFld f v i j).unmetered = s.unmetered := rfl

@[simp] theorem raise_unmetered (s : State) (f : Fld) (i : Nat) : (s.raise f i).unmetered = s.unmetered := by
  rw [State.unmetered, raise_cht, State.unmetered]

@[simp] theorem advanceTo_cht (s : State) (t : Nat) : (s.advanceTo t).cht = s.cht := advance_cht ..

@[simp] theorem advanceTo_unmetered (s : State) (t : Nat) : (s.advanceTo t).unmetered = s.unmetered := by
  rw [State.unmetered, advanceTo_cht, State.unmetered]

theorem foldl_unmetered {α : Type} {f : State → α → State} (h : ∀ s a, (f s a).unmetered = s.unmetered) (l : List α) (s : State) :
    (l.foldl f s).unmetered = s.unmetered :=
  List.foldlRecOn (motive := fun t : State => t.unmetered = s.unmetered) l f rfl fun t ht a _ => (h t a).trans ht

@[simp] theorem nearUpdate_cht (s : State) : s.nearUpdate.cht = s.cht := by
  rw [State.nearUpdate, State.nearMask]
  exact on_keeps (P := fun t => t.cht = s.cht) _ rfl (raise_cht ..)

@[simp] theorem nearSeen_cht (s : State) : s.nearSeen.cht = s.cht := by
  unfold State.nearSeen
  split <;> exact nearUpdate_cht s

@[simp] theorem noteLimits_unmetered (s : State) : s.noteLimits.unmetered = s.unmetered :=
  foldl_unmetered (fun _ _ => by dsimp only; split <;> rfl) _ s

theorem meterOne_unmetered (s : State) (m : Meter) : (s.meterOne m).unmetered = s.unmetered := by
  unfold State.meterOne
  split <;> rfl

@[simp] theorem meterFollow_unmetered (s : State) : s.meterFollow.unmetered = s.unmetered :=
  foldl_unmetered meterOne_unmetered s.cht.meters _

@[simp] theorem meterFlush_unmetered (s : State) : s.meterFlush.unmetered = s.unmetered :=
  foldl_unmetered (fun _ _ => by rfl) s.cht.meters _

theorem nearUpdate_unmetered (s : State) : s.nearUpdate.unmetered = s.unmetered := by
  rw [State.unmetered, nearUpdate_cht, State.unmetered]

theorem nearSeen_unmetered (s : State) : s.nearSeen.unmetered = s.unmetered := by
  rw [State.unmetered, nearSeen_cht, State.unmetered]

/-! ## The reloads (R110) -/

@[simp] theorem shadowReload_unmetered (s : State) : s.shadowReload.unmetered = s.unmetered := by
  unfold State.shadowReload
  dsimp only
  rw [nearUpdate_unmetered, noteLimits_unmetered, meterFollow_unmetered, foldl_unmetered fun _ _ => ?_]
  · exact nearSeen_unmetered s
  · rfl

@[simp] theorem shadowReload_now (s : State) : s.shadowReload.clp.now = s.clp.now := congrArg Lasting.now (shadowReload_lasting s)
@[simp] theorem digestReload_now (s : State) : s.digestReload.clp.now = s.clp.now := congrArg Lasting.now (digestReload_lasting s)

theorem foldl_setFld_cht (f : Fld) (v : Nat → Nat) (l : List Nat) (s : State) : (l.foldl (fun s w => s.setFld f (v w) w) s).cht = s.cht :=
  List.foldlRecOn (motive := fun t : State => t.cht = s.cht) l _ rfl fun _ ht _ _ => ht

@[simp] theorem digestReload_cht (s : State) : s.digestReload.cht = s.cht := foldl_setFld_cht ..

/-- A write of every copy below `n` of a field leaves in each the value meant for it. -/
theorem fld_foldl_setFld {f : Fld} (hf : f.lo + f.w ≤ 64) (v : Nat → Nat) (s : State) {w n : Nat} (h : w < n) :
    ((List.range n).foldl (fun s w => s.setFld f (v w) w) s).fld f w 0 = v w % 2 ^ f.w := by
  induction n with
  | zero => exact absurd h (Nat.not_lt_zero w)
  | succ n ih =>
    rw [List.range_succ, List.foldl_append]
    obtain hlt | rfl := Nat.lt_succ_iff_lt_or_eq.mp h
    · exact (fld_setFld_copy _ _ _ _ _ _ fun e => hlt.ne e.1).trans (ih hlt)
    · exact fld_setFld_self _ _ _ _ _ hf

theorem digestReload_digest (s : State) {w : Nat} (h : w < 8) :
    s.digestReload.fld F.CHT_DIGEST_DIGEST w = ofLe (((sha256 s.fuseImage).drop (4 * w)).take 4) % 2 ^ 32 :=
  fld_foldl_setFld (f := F.CHT_DIGEST_DIGEST) (by decide) (fun w => ofLe (((sha256 s.fuseImage).drop (4 * w)).take 4)) s h

/-- The image is read from the fuses alone. -/
theorem fuseImage_congr {s t : State} (h : s.cht.fuses = t.cht.fuses) : s.fuseImage = t.fuseImage := by
  have hfield (w b : Nat) : s.fuseField b w = t.fuseField b w := by
    induction w generalizing b with
    | zero => rfl
    | succ w ih => rw [State.fuseField, State.fuseField, ih, State.fuse, State.fuse, h]
  exact List.map_congr_left fun i _ => by rw [hfield]

/-! ## A blow and its end (R108–R110) -/

theorem fuseBlow_of_other (s : State) {req : Nat} (h : req ≠ 129) : s.fuseBlow req = s := by
  simp [State.fuseBlow, h]

theorem fuseBlow_refused {s : State} (h : s.flag F.CHT_STAT_FPROG_BUSY = false)
    (hr : let b := s.fld F.CHT_FPROG_ADDR_BIT
      fuseReserved b = true ∨ s.fuse b = true ∨ (s.fuse 0 = true ∧ 64 ≤ b ∧ (b - 64) % 192 = 0)) :
    s.fuseBlow 129 = s.raise F.CHT_EVT_FUSE_REFUSED := by
  rw [State.fuseBlow, h]
  refine (if_neg (by decide)).trans (if_pos ?_)
  simpa [or_assoc, and_assoc] using hr

theorem fuseBlow_starts {s : State} (h : s.flag F.CHT_STAT_FPROG_BUSY = false)
    (hr : let b := s.fld F.CHT_FPROG_ADDR_BIT
      fuseReserved b = false ∧ s.fuse b = false ∧ (s.fuse 0 = true → 64 ≤ b → (b - 64) % 192 ≠ 0)) :
    s.fuseBlow 129 =
      { s with cht := { s.cht with blow := some (s.fld F.CHT_FPROG_ADDR_BIT, s.clp.now + 12000) } }.setFld F.CHT_STAT_FPROG_BUSY 1 := by
  rw [State.fuseBlow, h]
  refine (if_neg (by decide)).trans (if_neg ?_)
  obtain ⟨hres, hblown, hseal⟩ := hr
  simpa [hres, hblown] using hseal

/-- The state as the blow of bit `b` ends at `t`, before the reload of the shadows. -/
def State.fuseBlown (s : State) (b t : Nat) : State :=
  let s := s.advanceTo t
  let (w, s) := s.fresh.2.fresh
  let due := t + w % 50001
  { s with cht := { s.cht with fuses := insertSorted b s.cht.fuses, blow := none, digest := some (min due (s.cht.digest.getD due)) } }

theorem fuseEnd_eq (s : State) (b t : Nat) : s.fuseEnd b t =
    ((((s.fuseBlown b t).advanceTo (t + (s.advanceTo t).fresh.1 % 10001)).shadowReload.setFld F.CHT_STAT_FPROG_BUSY 0).raise
      F.CHT_EVT_FUSE_DONE) := rfl

@[simp] theorem fuseBlown_now (s : State) (b t : Nat) : (s.fuseBlown b t).clp.now = max s.clp.now t := advanceTo_now s t

@[simp] theorem fuseBlown_cht (s : State) (b t : Nat) : (s.fuseBlown b t).cht =
    let due := t + (s.advanceTo t).fresh.2.fresh.1 % 50001
    { s.cht with fuses := insertSorted b s.cht.fuses, blow := none, digest := some (min due (s.cht.digest.getD due)) } := by
  rw [← advanceTo_cht s t]
  rfl

theorem fuseEnd_unmetered (s : State) (b t : Nat) : (s.fuseEnd b t).unmetered = (s.fuseBlown b t).unmetered := by
  rw [fuseEnd_eq, raise_unmetered, setFld_unmetered, shadowReload_unmetered, advanceTo_unmetered]

theorem fuseEnd_now (s : State) (b t : Nat) :
    (s.fuseEnd b t).clp.now = max (max s.clp.now t) (t + (s.advanceTo t).fresh.1 % 10001) := by
  rw [fuseEnd_eq, raise_clp, setFld_clp, shadowReload_now, advanceTo_now, fuseBlown_now]

theorem fuseEnd_busy (s : State) (b t : Nat) : (s.fuseEnd b t).flag F.CHT_STAT_FPROG_BUSY = false := by
  rw [fuseEnd_eq, State.flag, fld_raise_id _ _ _ _ (by decide), fld_setFld_self _ _ _ _ _ (by decide)]
  rfl

theorem fuseEnd_done (s : State) (b t : Nat) : (s.fuseEnd b t).flag F.CHT_EVT_FUSE_DONE = true :=
  flag_raise_self _ _ _ (by decide) rfl

theorem fuseDone_completes {s : State} {b t : Nat} (h : s.cht.blow = some (b, t)) : Completes .fuseDone s fun t' => ∃ u : State, t' = u.recheck ∧
    u.cht.fuses = insertSorted b s.cht.fuses ∧ u.cht.blow = none ∧ u.flag F.CHT_STAT_FPROG_BUSY = false ∧ u.flag F.CHT_EVT_FUSE_DONE = true ∧
      max s.clp.now t ≤ u.clp.now ∧ u.clp.now ≤ max s.clp.now (t + 10000) ∧
      ∃ w ≤ 50000, u.cht.digest = some (min (t + w) (s.cht.digest.getD (t + w))) := by
  have hexec : exec .fuseDone s = .next (s.fuseEnd b t).recheck := by
    change execFuseDone s = _
    rw [execFuseDone, h]
  have hcht := fuseEnd_unmetered s b t
  have hblown := fuseBlown_cht s b t
  have hnow := fuseEnd_now s b t
  refine completes_of_exec hexec ⟨_, rfl, ?_, ?_, fuseEnd_busy s b t, fuseEnd_done s b t, by omega, by omega,
    (s.advanceTo t).fresh.2.fresh.1 % 50001, by omega, ?_⟩
  · exact (congrArg ChtState.fuses hcht).trans (congrArg ChtState.fuses hblown)
  · exact (congrArg ChtState.blow hcht).trans (congrArg ChtState.blow hblown)
  · exact (congrArg ChtState.digest hcht).trans (congrArg ChtState.digest hblown)

/-! ## The digest and the load after reset (R110) -/

theorem digestDone_completes {s : State} {t w : Nat} (h : s.cht.digest = some t) (hw : w < 8) : Completes .digestDone s fun t =>
    t.fld F.CHT_DIGEST_DIGEST w = ofLe (((sha256 s.fuseImage).drop (4 * w)).take 4) % 2 ^ 32 ∧ t.cht.digest = none := by
  have hexec : exec .digestDone s = .next ({ s with cht := { s.cht with digest := none } }.advanceTo t).digestReload := by
    change execDigestDone s = _
    rw [execDigestDone, h]
  have hcht := advanceTo_cht { s with cht := { s.cht with digest := none } } t
  refine completes_of_exec hexec ⟨?_, ?_⟩
  · rw [digestReload_digest _ hw, fuseImage_congr (congrArg ChtState.fuses hcht)]
    rfl
  · rw [digestReload_cht, hcht]

theorem charterLoaded_completes {s : State} (hrun : s.pwr.phase = .run) (h : s.flag F.CHT_STAT_LOADED = false) :
    Completes .charterLoaded s fun t => t.flag F.CHT_STAT_LOADED = true ∧ t.clp.now = max s.clp.now (s.pwr.released + 100000) := by
  refine completes_of_exec (if_pos ⟨hrun, h⟩) ⟨flag_setFld_cond _ _ true _ _ (by decide) rfl, ?_⟩
  rw [setFld_clp, digestReload_now, shadowReload_now, advanceTo_now]

/-! ## The rotation of the bins (R116) -/

/-- The running bins of the entries below `n` cleared, with their limits. -/
def State.clearRunning (s : State) (n : Nat) : State :=
  (List.range n).foldl (fun s e =>
    { s with cht := { s.cht with
        bins := SMap.del s.cht.bins (s.binKey e 0), limits := SMap.del s.cht.limits (s.binKey e 0) } }) s

theorem clearRunning_succ (s : State) (n : Nat) : s.clearRunning (n + 1) =
    { s.clearRunning n with cht := { (s.clearRunning n).cht with
        bins := SMap.del (s.clearRunning n).cht.bins ((s.clearRunning n).binKey n 0),
        limits := SMap.del (s.clearRunning n).cht.limits ((s.clearRunning n).binKey n 0) } } := by
  rw [State.clearRunning, List.range_succ, List.foldl_append]
  rfl

theorem clearRunning_unmetered (s : State) (n : Nat) : (s.clearRunning n).unmetered = s.unmetered :=
  foldl_unmetered (fun _ _ => by rfl) _ s

theorem bin_clearRunning (s : State) {e n : Nat} (h : e < n) : (s.clearRunning n).bin e 0 = 0 := by
  induction n with
  | zero => exact absurd h (Nat.not_lt_zero e)
  | succ n ih =>
    rw [clearRunning_succ]
    change SMap.getD (SMap.del _ _) ((s.clearRunning n).binKey e 0) 0 = 0
    by_cases hk : (s.clearRunning n).binKey e 0 = (s.clearRunning n).binKey n 0
    · rw [hk, SMap.getD, SMap.find?_del_self]
      rfl
    · have hne : e ≠ n := fun h' => hk (h' ▸ rfl)
      rw [SMap.getD, SMap.find?_del_ne _ hk]
      exact ih (by omega)

@[simp] theorem noteLimits_bin (s : State) (e k : Nat) : s.noteLimits.bin e k = s.bin e k :=
  List.foldlRecOn (motive := fun t : State => t.bin e k = s.bin e k) _ _ rfl fun t ht e' _ => by
    dsimp only
    split <;> exact ht

@[simp] theorem nearUpdate_bin (s : State) (e k : Nat) : s.nearUpdate.bin e k = s.bin e k := by
  rw [State.bin, State.binKey, nearUpdate_cht, State.bin, State.binKey]

/-- The bins move by one place, as the trickle ticks say; the oldest are not cleared yet. -/
def State.binsMoved (s : State) : State :=
  let t := s.cht.binTick + 1966080
  let s := (s.advanceTo (tickTime t)).nearSeen.meterFlush
  let old := (List.range 16).map fun e => (e, s.bin e 59, SMap.find? s.cht.limits (s.binKey e 59))
  { s with cht := { s.cht with rotations := (s.cht.rotations + 1) % 60, binTick := t, cleared := (s.clp.now, old) } }

theorem execBinRotation_eq (s : State) : execBinRotation s = .next (s.binsMoved.clearRunning 16).noteLimits.nearUpdate := rfl

theorem meterFlush_nearSeen_unmetered (s : State) (t : Nat) : (s.advanceTo t).nearSeen.meterFlush.unmetered = s.unmetered := by
  rw [meterFlush_unmetered, nearSeen_unmetered, advanceTo_unmetered]

theorem binsMoved_rotations (s : State) : s.binsMoved.cht.rotations = (s.cht.rotations + 1) % 60 := by
  have h := congrArg ChtState.rotations (meterFlush_nearSeen_unmetered s (tickTime (s.cht.binTick + 1966080)))
  exact congrArg (fun r => (r + 1) % 60) h

theorem binRotation_completes (s : State) {e : Nat} (he : e < 16) : Completes .binRotation s fun t =>
    t.cht.rotations = (s.cht.rotations + 1) % 60 ∧ t.cht.binTick = s.cht.binTick + 1966080 ∧ t.bin e 0 = 0 := by
  have hcht : (s.binsMoved.clearRunning 16).noteLimits.nearUpdate.unmetered = s.binsMoved.unmetered := by
    rw [nearUpdate_unmetered, noteLimits_unmetered, clearRunning_unmetered]
  refine completes_of_exec (execBinRotation_eq s) ⟨?_, congrArg ChtState.binTick hcht, ?_⟩
  · exact (congrArg ChtState.rotations hcht).trans (binsMoved_rotations s)
  · rw [nearUpdate_bin, noteLimits_bin, bin_clearRunning _ he]

/-- Settles O11, each command by its lemma above. -/
theorem charterFuseCommands : Obligations.CharterFuseCommands := by
  refine ⟨fun s hidle hres hblown hseal hr => ?_, fun s hidle hrefused hr => ?_, fun s req hreq hr => ?_,
    fun _ _ _ h => fuseDone_completes h, fun _ _ _ h hw => digestDone_completes h hw, fun _ hrun h => charterLoaded_completes hrun h,
    fun s _ he => binRotation_completes s he⟩
  · refine completes_of_powered (f := fun s => s.fuseBlow 129) hr rfl ?_
    rw [fuseBlow_starts hidle ⟨hres, hblown, hseal⟩]
    exact ⟨flag_setFld_cond _ _ true _ _ (by decide) rfl, rfl, rfl⟩
  · exact completes_of_powered (f := fun s => s.fuseBlow 129) hr rfl (fuseBlow_refused hidle hrefused)
  · exact completes_of_powered (f := fun s => s.fuseBlow req) hr rfl (fuseBlow_of_other s hreq)

end Sys2Proof.Machine
end

section
/-! PROOFS. The registers that the work of a slot may write (R137–R141, R168–R174), and that it leaves every other as it is. -/

namespace Sys2Proof.Machine

/-- The registers that the work of a slot may write: what Spillway, the beacons, the cells, the flash port, the Silt recorder and the memories
count and report. -/
def slotWorkRegs : List RegId :=
  [.MAC_CNT_BCN_FAIL, .MAC_EVT, .SPW_CNT_SKIP, .SPW_EVT, .RUN_CNT_ALLOC_FAIL, .RUN_EVT, .FLS_STAT, .FLS_CNT_REFUSED,
    .OBS_STAT, .OBS_EVT, .OBS_SILT_STAT, .OBS_SILT_SEQ, .OBS_CNT_SILT_KEPT, .OBS_CNT_SILT_LOST, .OBS_CNT_SILT_SUPP,
    .MEM_EVT, .MEM_FLIP_CTL, .MEM_CNT_FLIP, .MEM_CNT_CE, .MEM_LAST_CE, .MEM_CNT_UE, .MEM_LAST_UE, .MEM_CNT_DROP]

/-- `t` holds what `s` holds in every register that the work of a slot does not write. -/
def State.WorkAlike (s t : State) : Prop := ∀ id ∉ slotWorkRegs, ∀ i j, t.reg id i j = s.reg id i j

namespace State.WorkAlike

variable {s t u : State}

theorem refl (s : State) : s.WorkAlike s := fun _ _ _ _ => rfl

theorem trans (h : s.WorkAlike t) (h' : t.WorkAlike u) : s.WorkAlike u := fun id hid i j => (h' id hid i j).trans (h id hid i j)

/-- A change of what lies outside the registers. -/
theorem rest (h : s.WorkAlike t) (hr : u.regs = t.regs) : s.WorkAlike u := h.trans fun id _ i j => reg_congr hr id i j

theorem setFld {f : Fld} {v i j : Nat} (hf : f.reg ∈ slotWorkRegs) (h : s.WorkAlike t) : s.WorkAlike (t.setFld f v i j) :=
  h.trans fun _ hid _ _ => reg_setReg_id _ _ _ _ _ _ fun e => hid (e ▸ hf)

theorem raise {f : Fld} {i : Nat} (hf : f.reg ∈ slotWorkRegs) (h : s.WorkAlike t) : s.WorkAlike (t.raise f i) :=
  (h.setFld hf).rest (raise_regs t f i)

theorem bump {f : Fld} {n i j : Nat} (hf : f.reg ∈ slotWorkRegs) (h : s.WorkAlike t) : s.WorkAlike (t.bump f n i j) :=
  (h.setFld hf).rest (bump_regs t f n i j)

/-- A conditional effect. -/
theorem on {c : Bool} {f : State → State} (hf : ∀ t : State, t.WorkAlike (f t)) (h : s.WorkAlike t) : s.WorkAlike (t.on c f) :=
  on_keeps c h (h.trans (hf t))

/-- What every turn of a fold leaves alike. -/
theorem foldl {α : Type} {f : State → α → State} {l : List α} (hf : ∀ (s : State) (a : α), s.WorkAlike (f s a)) (h : s.WorkAlike t) :
    s.WorkAlike (l.foldl f t) :=
  List.foldlRecOn l f h fun _ h a _ => h.trans (hf _ a)

end State.WorkAlike

theorem State.SameButCells.workAlike {s t : State} (h : s.SameButCells t) : s.WorkAlike t := by
  obtain ⟨_, _, rfl⟩ := h
  exact .rest (.refl s) rfl

/-! ## Memory words and the Silt recorder (R439–R448, R505–R513) -/

theorem setMemBytes_workAlike (m : Nat) (bs : List Byte) (s : State) (o : Nat) : s.WorkAlike (s.setMemBytes m o bs) := by
  induction bs generalizing s o with
  | nil => exact .refl s
  | cons b bs ih => exact .trans (.rest (.refl s) rfl) (ih (s.setMemByte m o b) (o + 1))

theorem eccClear_workAlike (s : State) (m w : Nat) : s.WorkAlike (s.eccClear m w) := .rest (.refl s) rfl

theorem eccSet_workAlike (s : State) (m w : Nat) (k : EccMark) : s.WorkAlike (s.eccSet m w k) := .rest (.refl s) rfl

theorem flipApply_workAlike (s : State) (m w : Nat) : s.WorkAlike (s.flipApply m w) := by
  unfold State.flipApply
  split
  · exact .bump (by decide) <| .raise (by decide) <| .setFld (by decide) <| .on (fun t => eccSet_workAlike t m w _) <| .refl s
  · exact .refl s

theorem setMemWord_workAlike (s : State) (m w v : Nat) : s.WorkAlike (s.setMemWord m w v) := setMemBytes_workAlike m _ s _

theorem memWrite_workAlike (s : State) (m w v : Nat) : s.WorkAlike (s.memWrite m w v) :=
  ((setMemWord_workAlike s m w v).trans (eccClear_workAlike _ m w)).trans (flipApply_workAlike _ m w)

theorem memWrites_workAlike (m : Nat) (vs : List Nat) (s : State) (w : Nat) : s.WorkAlike (s.memWrites m w vs) := by
  induction vs generalizing s w with
  | nil => exact .refl s
  | cons v vs ih => exact (memWrite_workAlike s m w v).trans (ih _ _)

theorem flushAsk_workAlike (s : State) : s.WorkAlike s.flushAsk := by
  unfold State.flushAsk
  split
  · exact .rest (.refl s) rfl
  · exact .setFld (by decide) (.rest (.refl s) rfl)

theorem siltPost_workAlike (s : State) (code value rank : Nat) : s.WorkAlike (s.siltPost code value rank) := by
  have posted (obs : ObsState) (base seq : Nat) (rs : List (Nat × Nat × Nat)) : s.WorkAlike ({ s with obs := obs }.siltWrite base seq rs) :=
    .foldl (fun t _ => memWrites_workAlike 7 _ t _) (.rest (.refl s) rfl)
  have kept (n seq k : Nat) (t : State) : t.WorkAlike (((t.siltCount n).setFld F.OBS_SILT_SEQ_SEQ seq).bump F.OBS_CNT_SILT_KEPT_COUNT k) :=
    .bump (by decide) <| .setFld (by decide) <| .setFld (by decide) <| .rest (.refl t) rfl
  have lost (t : State) : t.WorkAlike
      (({ t with obs := { t.obs with lost := t.obs.lost + 1 } }.bump F.OBS_CNT_SILT_LOST_COUNT).raise F.OBS_EVT_SILT_OVERFLOW) :=
    .raise (by decide) <| .bump (by decide) <| .rest (.refl t) rfl
  have supp (t : State) : t.WorkAlike (t.bump F.OBS_CNT_SILT_SUPP_COUNT) := .bump (by decide) (.refl t)
  simp only [State.siltPost]
  split
  · exact .on flushAsk_workAlike <| .on supp <| .on lost <| .on (kept _ _ _) <| posted _ _ _ _
  · exact .on supp <| .on lost <| .on (kept _ _ _) <| posted _ _ _ _

theorem correct_workAlike (s : State) (m w : Nat) : s.WorkAlike (s.correct m w) :=
  .setFld (by decide) <| .setFld (by decide) <| .raise (by decide) <| .bump (by decide) <| eccClear_workAlike s m w

theorem poisonMark_workAlike (s : State) (m w mask : Nat) : s.WorkAlike (s.poisonMark m w mask) := by
  refine State.WorkAlike.trans ?_ (siltPost_workAlike _ _ _ _)
  exact .setFld (by decide) <| .setFld (by decide) <| .raise (by decide) <| .bump (by decide) <|
    (setMemWord_workAlike s m w _).trans (eccSet_workAlike _ m w _)

theorem memRead_workAlike (s : State) (m w : Nat) : s.WorkAlike (s.memRead m w).2 := by
  have redrawn (v : Nat) : s.WorkAlike (s.fresh.2.setMemWord m w v) :=
    .trans (.rest (.refl s) (fresh_regs s)) (setMemWord_workAlike s.fresh.2 m w v)
  unfold State.memRead
  split
  · exact .refl s
  · split
    · exact .refl s
    · split
      · exact (redrawn _).trans (eccClear_workAlike _ m w)
      · split
        · exact correct_workAlike s m w
        · exact (redrawn _).trans (correct_workAlike _ m w)
      · exact poisonMark_workAlike s m w _

theorem memReads_workAlike (m n : Nat) (s : State) (w : Nat) : s.WorkAlike (s.memReads m w n).2.2 := by
  induction n generalizing s w with
  | zero => exact .refl s
  | succ n ih => exact (memRead_workAlike s m w).trans (ih _ _)

/-! ## The flash port (R406, R513, R514) -/

theorem siltLayout_regs (rs : List (List Byte)) (s : State) (sector slot seq : Nat) : (s.siltLayout sector slot seq rs).2.regs = s.regs := by
  induction rs generalizing s sector slot seq with
  | nil => rfl
  | cons r rs ih =>
    unfold State.siltLayout
    dsimp only
    have hhead : (if slot = 0 then s.siltHeader seq else ([], s)).2.regs = s.regs := by split <;> rfl
    split <;> exact (ih _ _ _ _).trans hhead

theorem flsQueue_workAlike (s : State) (w : FlsOp) : s.WorkAlike (s.flsQueue w) := by
  have yields (src : Nat) : (s.flsYield src).regs = s.regs := by
    unfold State.flsYield
    (repeat' split) <;> rfl
  have suspends (t : State) : t.WorkAlike t.suspendErase := by
    unfold State.suspendErase
    split
    · split
      · exact .setFld (by decide) (.rest (.refl t) rfl)
      · exact .refl t
    · exact .refl t
  exact .on suspends <| .rest (.refl s) (yields w.src)

theorem siltRecords_workAlike (n : Nat) (s : State) (slot : Nat) : s.WorkAlike (s.siltRecords slot n).2 := by
  induction n generalizing s slot with
  | zero => exact .refl s
  | succ n ih =>
    have hread := memReads_workAlike 7 4 s (4 * (slot % 2048))
    unfold State.siltRecords
    refine State.WorkAlike.trans ?_ (ih _ _)
    split
    · exact .bump (by decide) <| .bump (by decide) <| hread.rest rfl
    · exact hread

theorem siltLoad_workAlike (s : State) : s.WorkAlike s.siltLoad := by
  have submitted (src : Nat) (rs : List (List Byte)) (t : State) : t.WorkAlike (t.siltSubmit src rs) :=
    .foldl (fun u _ => flsQueue_workAlike u _) (.rest (.refl t) (siltLayout_regs rs t _ _ _))
  unfold State.siltLoad
  split
  · refine State.WorkAlike.trans ?_ (submitted _ _ _)
    exact .trans (.rest (.refl s) rfl) (siltRecords_workAlike _ _ _)
  · exact .refl s

theorem flsResume_workAlike (s : State) : s.WorkAlike s.flsResume := by
  unfold State.flsResume
  split
  · exact .setFld (by decide) <| .setFld (by decide) <| .rest (.refl s) rfl
  · exact .setFld (by decide) (.refl s)

theorem flsServe_workAlike (s : State) : s.WorkAlike s.flsServe := by
  unfold State.flsServe
  dsimp only
  split
  · exact .refl s
  · split
    · split
      · exact .setFld (by decide) (.refl s)
      · exact flsResume_workAlike s
    · split
      · exact flsResume_workAlike s
      · split
        · exact .setFld (by decide) (.rest (.refl s) rfl)
        · exact .refl s

theorem flsSubmit_workAlike (s : State) (w : FlsOp) : s.WorkAlike (s.flsSubmit w) :=
  ((siltLoad_workAlike s).trans (flsQueue_workAlike _ w)).trans (flsServe_workAlike _)

/-! ## Beacons and Spillway's sending slots (R137–R141, R168–R174) -/

theorem alloc_workAlike (s : State) (len : Nat) : s.WorkAlike (s.alloc len).2 := by
  unfold State.alloc State.allocAbove
  split
  · exact (takeCells_effect _ s).2.workAlike
  · exact .raise (by decide) <| .bump (by decide) <| .refl s

/-- The state that an allocation leaves, whichever way it is answered. -/
theorem workAlike_of_alloc {s u : State} {len : Nat} {cells : Option (List Nat)} (h : s.alloc len = (cells, u)) : s.WorkAlike u := by
  simpa only [h] using alloc_workAlike s len

theorem writeFrame_workAlike (cs : List Nat) (bs : List (List Byte)) (s : State) (o : Nat) : s.WorkAlike (s.writeFrame cs o bs) := by
  induction bs generalizing s o with
  | nil => exact .refl s
  | cons b bs ih =>
    unfold State.writeFrame
    split
    · exact .refl s
    · exact (memWrite_workAlike s 0 _ _).trans (ih _ _)

theorem placeCopies_workAlike (s : State) (o : Nat → TxOrigin) (on : List (Nat × Nat)) (cells : List Nat) (d : TxDesc) :
    s.WorkAlike (s.placeCopies o on cells d) :=
  .foldl (fun t _ => .rest (.refl t) rfl) (.rest (.refl s) rfl)

theorem bcnUnsent_workAlike (s : State) (cars : List Nat) : s.WorkAlike (s.bcnUnsent cars) :=
  .foldl (fun t _ => .raise (by decide) <| .bump (by decide) <| .refl t) (.refl s)

theorem withMac_workAlike (s : State) (m : MacState) : s.WorkAlike { s with mac := m } := .rest (.refl s) rfl

theorem buildBeacon_workAlike (s : State) (cs : List (Nat × Nat)) (j a : Nat) : s.WorkAlike (s.buildBeacon cs j a) := by
  unfold State.buildBeacon
  dsimp only
  split
  · next halloc =>
    have htaken := (withMac_workAlike s _).trans (workAlike_of_alloc halloc)
    exact (htaken.trans (writeFrame_workAlike _ _ _ 0)).trans (placeCopies_workAlike _ _ _ _ _)
  · next halloc =>
    have htaken := (withMac_workAlike s _).trans (workAlike_of_alloc halloc)
    exact .trans (htaken.trans (withMac_workAlike _ _)) (bcnUnsent_workAlike _ _)

theorem spwStart_workAlike (s : State) (k a taken : Nat) : s.WorkAlike (s.spwStart k a taken) := by
  have skipped (c : Bool) : s.WorkAlike (s.on c fun s => s.bump F.SPW_CNT_SKIP_COUNT) :=
    .on (fun t => .bump (by decide) (.refl t)) (.refl s)
  unfold State.spwStart
  dsimp only
  split
  · exact skipped _
  · exact skipped _
  · split
    · next halloc =>
      have hset (v : SpwSession) := ((skipped _).trans (workAlike_of_alloc halloc)).rest (setSpw_regs _ k v)
      split
      · exact .on (fun t => flsSubmit_workAlike t _) (hset _)
      · exact ((hset _).bump (by decide)).trans (siltPost_workAlike _ _ _ _)
    · next halloc => exact ((skipped _).trans (workAlike_of_alloc halloc)).bump (by decide) |>.raise (by decide)

theorem spwResolve_workAlike (s : State) (a : Nat) : s.WorkAlike (s.spwResolve a) := by
  refine List.foldlRecOn (motive := fun acc : Nat × State => s.WorkAlike acc.2) (List.range 4) _ (.refl s) fun acc h k _ => ?_
  dsimp only
  split
  · split
    · exact (h.rest rfl).trans (spwStart_workAlike _ _ _ _)
    · exact h.rest rfl
  · exact h

/-- The work of a slot writes no register but those listed. -/
theorem slotWork_workAlike (s : State) (cs : List (Nat × Nat)) (a : Nat) : s.WorkAlike (s.slotWork cs a) := by
  refine .trans (.foldl (fun t j => ?_) (.refl s)) (spwResolve_workAlike _ a)
  split
  · exact buildBeacon_workAlike t cs j a
  · exact .refl t

end Sys2Proof.Machine
end

section
/-! PROOFS. `Obligations.MacCommands`: the MAC slot engine's enable, slots and acknowledgement windows (R130, R132, R134, R151, R159). -/

namespace Sys2Proof.Machine

/-! ## The enable (R130, R132) -/

theorem exec_macEnable (d : Word) (s : State) : exec (.macEnable d) s = .next (s.powered fun s => s.macCtlWrite (d ||| 1)) := rfl

/-- A write of MAC_CTL with EN 1 while EN is 0: its other bits are taken, and the profile decides. -/
theorem macCtlWrite_enable {s : State} (d : Word) (h : s.flag F.MAC_CTL_EN = false) : s.macCtlWrite (d ||| 1) =
    if (s.setReg .MAC_CTL 0 0 (d &&& 0x7E)).profileOk then
      (((s.setReg .MAC_CTL 0 0 (d &&& 0x7E)).setFld F.MAC_CTL_EN 1).setFld F.MAC_STAT_PROFILE_BAD 0).macUpdate
    else ((s.setReg .MAC_CTL 0 0 (d &&& 0x7E)).setFld F.MAC_STAT_PROFILE_BAD 1).raise F.MAC_EVT_PROFILE_BAD := by
  have hbits : (d ||| 1) &&& 0x7E ||| 0 = d &&& 0x7E := by
    rw [BitVec.and_or_distrib_right]
    simp
  have hen : (d ||| 1).getLsbD 0 = true := by simp
  simp only [State.macCtlWrite, h, hen, Bool.false_eq_true, if_false, hbits]

/-- The bits of MAC_CTL beside EN leave EN 0. -/
theorem flag_en_otherBits (s : State) (d : Word) : (s.setReg .MAC_CTL 0 0 (d &&& 0x7E)).flag F.MAC_CTL_EN = false := by
  rw [F.MAC_CTL_EN, flag_bit, reg_setReg_self]
  simp

theorem macEnable_accepted {s : State} {d : Word} (hen : s.flag F.MAC_CTL_EN = false)
    (hok : (s.setReg .MAC_CTL 0 0 (d &&& 0x7E)).profileOk = true) (hr : s.released = true) : Completes (.macEnable d) s fun t =>
      t = (((s.setReg .MAC_CTL 0 0 (d &&& 0x7E)).setFld F.MAC_CTL_EN 1).setFld F.MAC_STAT_PROFILE_BAD 0).macUpdate :=
  completes_of_powered hr (exec_macEnable d s) (by rw [macCtlWrite_enable d hen, if_pos hok])

theorem macEnable_refused {s : State} {d : Word} (hen : s.flag F.MAC_CTL_EN = false)
    (hbad : (s.setReg .MAC_CTL 0 0 (d &&& 0x7E)).profileOk = false) (hr : s.released = true) : Completes (.macEnable d) s fun t =>
      t.flag F.MAC_CTL_EN = false ∧ t.flag F.MAC_STAT_PROFILE_BAD = true ∧ t.flag F.MAC_EVT_PROFILE_BAD = true := by
  refine completes_of_powered hr (exec_macEnable d s) ?_
  rw [macCtlWrite_enable d hen, hbad, if_neg Bool.false_ne_true]
  refine ⟨?_, ?_, flag_raise_self _ _ _ (by decide) rfl⟩
  · rw [State.flag, fld_raise_id _ _ _ _ (by decide), fld_setFld_id _ _ _ _ _ _ (by decide)]
    exact flag_en_otherBits s d
  · rw [State.flag, fld_raise_id _ _ _ _ (by decide)]
    exact flag_setFld_cond _ _ true _ _ (by decide) rfl

/-! ## The resolution of a slot (R134) -/

/-- Slot `a` resolved with the valid cells `cs` (R134): the next slot, the chains that listen, and whether the slot is one to work. -/
def State.withResolved (s : State) (cs : List (Nat × Nat)) (a : Nat) : State :=
  { s with mac := { s.mac with
      bcnNow := s.mac.bcnNow.filter fun e => (e.1 + 1) % 2 ^ 40 == a
      nextAsn := some ((a + 1) % 2 ^ 40), resolved := some (a, s.cellChains cs [0, 1] a), unworked := !s.worksSlot a, cells := cs } }

/-- The chains on which a standby expects a beacon in slot `a`, as a mask (R459). -/
def State.airChains (s : State) (cs : List (Nat × Nat)) (a : Nat) : Nat :=
  (List.range 16).foldl (fun m j =>
    if (s.cellChains cs [1] a &&& s.fld F.TWN_AIR_AIR_CHAINS).testBit j && s.beaconSet j a then m + 2 ^ j else m) 0

/-- Slot `a` resolved, with the beacons that a standby expects in it (R459). -/
def State.withExpected (s : State) (cs : List (Nat × Nat)) (a : Nat) : State :=
  (s.withResolved cs a).on (s.fld F.TWN_STAT_ROLE == 2 && s.airChains cs a != 0) fun t =>
    { t with twn := { t.twn with expected := t.twn.expected ++ [(a, s.airChains cs a, false)] } }

theorem withExpected_cases (s : State) (cs : List (Nat × Nat)) (a : Nat) : s.withExpected cs a = s.withResolved cs a ∨
    ∃ x, s.withExpected cs a = { s.withResolved cs a with twn := { s.twn with expected := x } } := by
  unfold State.withExpected State.on
  split
  · exact .inr ⟨_, rfl⟩
  · exact .inl rfl

/-- What resolving the slot has recorded, and the time it leaves alone. -/
theorem withExpected_records (s : State) (cs : List (Nat × Nat)) (a : Nat) :
    (s.withExpected cs a).mac.nextAsn = some ((a + 1) % 2 ^ 40) ∧
      (s.withExpected cs a).mac.resolved = some (a, (s.withExpected cs a).cellChains cs [0, 1] a) ∧
      (s.withExpected cs a).mac.unworked = !(s.withExpected cs a).worksSlot a ∧ (s.withExpected cs a).clp = s.clp := by
  obtain h | ⟨x, h⟩ := withExpected_cases s cs a <;> rw [h] <;> exact ⟨rfl, rfl, rfl, rfl⟩

/-- The valid cells and the state after their read, 1,000 µs before the start of slot `a` (R134). -/
def State.cellsRead (s : State) (a : Nat) : List (Nat × Nat) × State :=
  (s.advanceToFull (s.slotStart a - 1000000)).readCells (s.advanceToFull (s.slotStart a - 1000000)).cellWords

theorem cellsRead_now (s : State) (a : Nat) : (s.cellsRead a).2.clp.now = s.clp.now + s.nsUntilFull (s.slotStart a - 1000000) :=
  (congrArg Lasting.now (readCells_lasting _ _)).trans (advance_now s _)

theorem execSlotResolve_eq {s : State} {a : Nat} (ha : s.mac.nextAsn = some a) (hrun : s.flag F.MAC_STAT_RUNNING = true)
    (hm : s.memsReady [5, 6] = true) : execSlotResolve s = .next (((s.cellsRead a).2.withExpected (s.cellsRead a).1 a).on
      (((s.cellsRead a).2.withExpected (s.cellsRead a).1 a).worksSlot a) fun t => t.slotWork (s.cellsRead a).1 a) := by
  simp only [execSlotResolve, ha, hrun, hm, and_self, if_true]
  rfl

theorem exec_slotResolve (s : State) : exec .slotResolve s = execSlotResolve s := rfl

theorem slotResolve_completes {s : State} {a : Nat} (ha : s.mac.nextAsn = some a) (hrun : s.flag F.MAC_STAT_RUNNING = true)
    (hm : s.memsReady [5, 6] = true) : Completes .slotResolve s fun t => ∃ (u : State) (cs : List (Nat × Nat)),
      u.mac.nextAsn = some ((a + 1) % 2 ^ 40) ∧ u.mac.resolved = some (a, u.cellChains cs [0, 1] a) ∧ u.mac.unworked = !u.worksSlot a ∧
      u.clp.now = s.clp.now + s.nsUntilFull (s.slotStart a - 1000000) ∧ t = if u.worksSlot a then u.slotWork cs a else u := by
  obtain ⟨hnext, hresolved, hunworked, hclp⟩ := withExpected_records (s.cellsRead a).2 (s.cellsRead a).1 a
  refine completes_of_exec ((exec_slotResolve s).trans (execSlotResolve_eq ha hrun hm)) ⟨_, _, hnext, hresolved, hunworked, ?_, rfl⟩
  rw [hclp, cellsRead_now]

/-! ## The start of a slot (R159, R419, R471) -/

@[simp] theorem advanceToFull_twn (s : State) (t : Nat) : (s.advanceToFull t).twn = s.twn := advance_twn ..

/-- A pause reads MAC_PAUSE alone. -/
theorem inPause_of_fld {s t : State} (h : ∀ g : Fld, g.reg = .MAC_PAUSE → t.fld g = s.fld g) (a : Nat) : t.inPause a = s.inPause a := by
  simp only [State.inPause, State.flag, h F.MAC_PAUSE_ARM rfl, h F.MAC_PAUSE_START_ASN rfl, h F.MAC_PAUSE_SLOTS rfl]

theorem lateWork_workAlike (s : State) (a : Nat) : s.WorkAlike (s.lateWork a) :=
  .on (fun t => slotWork_workAlike t _ a) (.refl s)

/-- Slot `a` starts: it is the slot in work, and no slot is resolved (R128). -/
def State.slotBegun (s : State) (a listen : Nat) : State :=
  let s := ((s.advanceToFull (s.slotStart a)).handoverTake a).lateWork a
  { s with mac := { s.mac with work := some (a, listen), resolved := none } }

/-- Chains that listen from here on and not before, and are not Listening, count as late (R419). -/
def State.lateWakes (s : State) (listen before : Nat) : State :=
  (List.range 16).foldl (fun s j =>
    if listen.testBit j && !before.testBit j && s.chainState j != 2 then
      (s.bump F.PWR_CNT_WAKE_LATE_COUNT).raise F.PWR_EVT_WAKE_LATE
    else s) s

/-- PAUSED follows the slot in work (R159). -/
def State.pauseSet (s : State) (a : Nat) : State :=
  (s.on (s.inPause a && !s.flag F.MAC_STAT_PAUSED) fun s => s.raise F.MAC_EVT_PAUSE_START).setFld F.MAC_STAT_PAUSED (cond (s.inPause a) 1 0)

theorem exec_slotStart (s : State) : exec .slotStart s = execSlotStart s := rfl

theorem execSlotStart_of_resolved {s : State} {a listen : Nat} (h : s.mac.resolved = some (a, listen)) :
    ∃ before, execSlotStart s = .next (((s.slotBegun a listen).lateWakes listen before).pauseSet a) := by
  simp only [execSlotStart, h]
  exact ⟨_, rfl⟩

theorem execSlotStart_of_none {s : State} (h : s.mac.resolved = none) : execSlotStart s = .next s.bareStart := by
  simp only [execSlotStart, h]

/-- Late chains count and raise an event: the engine's state and the pause stay. -/
theorem lateWakes_keeps (s : State) (listen before : Nat) :
    (s.lateWakes listen before).mac = s.mac ∧ (s.lateWakes listen before).reg .MAC_PAUSE 0 0 = s.reg .MAC_PAUSE 0 0 := by
  refine List.foldlRecOn (motive := fun t : State => t.mac = s.mac ∧ t.reg .MAC_PAUSE 0 0 = s.reg .MAC_PAUSE 0 0)
    (List.range 16) _ ⟨rfl, rfl⟩ fun t ⟨hmac, hreg⟩ j _ => ?_
  split
  · refine ⟨by rw [raise_mac, bump_mac, hmac], ?_⟩
    rw [reg_raise_id _ _ _ _ (by decide), reg_congr (bump_regs _ _ _ _ _)]
    exact (reg_setReg_id _ _ _ _ _ _ (by decide)).trans hreg
  · exact ⟨hmac, hreg⟩

theorem pauseSet_mac (s : State) (a : Nat) : (s.pauseSet a).mac = s.mac :=
  on_keeps (P := fun t => t.mac = s.mac) _ rfl (raise_mac ..)

theorem slotStart_completes {s : State} {a listen : Nat} (h : s.mac.resolved = some (a, listen)) : Completes .slotStart s fun t =>
    t.mac.work = some (a, listen) ∧ t.mac.resolved = none ∧
      t.flag F.MAC_STAT_PAUSED = ((s.advanceToFull (s.slotStart a)).handoverTake a).inPause a := by
  obtain ⟨before, hexec⟩ := execSlotStart_of_resolved h
  obtain ⟨hmac, hreg⟩ := lateWakes_keeps (s.slotBegun a listen) listen before
  refine completes_of_exec ((exec_slotStart s).trans hexec) ⟨?_, ?_, ?_⟩
  · rw [pauseSet_mac, hmac]
    rfl
  · rw [pauseSet_mac, hmac]
    rfl
  · have hwork := lateWork_workAlike ((s.advanceToFull (s.slotStart a)).handoverTake a) a .MAC_PAUSE (by decide) 0 0
    exact (flag_setFld_cond _ _ _ _ _ (by decide) rfl).trans (inPause_of_fld (fun g hg => fld_of_reg (hg ▸ hreg.trans hwork)) a)

theorem slotStart_bare_completes {s : State} {h : Nat} (hnone : s.mac.resolved = none) (hh : s.twn.handing = some h)
    (hrole : s.fld F.TWN_STAT_ROLE = 2) (hvalid : s.asnValid = true) :
    Completes .slotStart s fun t => t = (s.advanceToFull (s.slotStart h)).handoverTake h :=
  completes_of_exec ((exec_slotStart s).trans (execSlotStart_of_none hnone)) (by simp [State.bareStart, hh, hrole, hvalid])

/-! ## The end of a slot (R159, R419, R459) -/

/-- What a chain is asked for concerns the receive side alone. -/
theorem chainAsk_mac_twn (s : State) (j : Nat) : (s.chainAsk j).mac = s.mac ∧ (s.chainAsk j).twn = s.twn := by
  unfold State.chainAsk
  dsimp only
  (repeat' split) <;> simp [State.on, apply_ite State.mac, apply_ite State.twn]

theorem wakeUpdate_mac_twn (s : State) (j : Nat) : (s.wakeUpdate j).mac = s.mac ∧ (s.wakeUpdate j).twn = s.twn := by
  unfold State.wakeUpdate
  dsimp only
  split
  · exact ⟨rfl, rfl⟩
  · exact chainAsk_mac_twn _ j

theorem wakeAll_mac_twn (s : State) : s.wakeAll.mac = s.mac ∧ s.wakeAll.twn = s.twn :=
  List.foldlRecOn (motive := fun t : State => t.mac = s.mac ∧ t.twn = s.twn) (List.range 16) _ ⟨rfl, rfl⟩ fun t ⟨hmac, htwn⟩ j _ =>
    ⟨(wakeUpdate_mac_twn t j).1.trans hmac, (wakeUpdate_mac_twn t j).2.trans htwn⟩

theorem wakeAll_fld (s : State) {g : Fld} (i k : Nat) (h1 : g.reg ≠ .PLM_EVT) (h2 : g.reg ≠ .PWR_CNT_CHAIN_WAKE) :
    s.wakeAll.fld g i k = s.fld g i k := by
  refine foldl_fld (fun t j => ?_) _ s
  unfold State.wakeUpdate
  dsimp only
  split
  · rfl
  · rw [chainAsk_fld _ _ _ _ h1 h2, setPlmChain_fld]

/-- Slot `a` ends: no slot is in work, and of the chains held the fabric goes on holding those in `next` (R419). -/
def State.slotClosed (s : State) (a listen next : Nat) : State :=
  let s := s.advanceToFull (s.slotStart ((a + 1) % 2 ^ 40))
  { s with mac := { s.mac with
      work := none, last := some (a, listen), wake := s.mac.wake &&& next, acked := s.mac.acked.filter fun e => e.1 != a } }.wakeAll

/-- The pause ends (R159). -/
def State.pauseEnd (s : State) : State :=
  ((s.raise F.MAC_EVT_PAUSE_END).setFld F.MAC_PAUSE_ARM 0).setFld F.MAC_STAT_PAUSED 0

/-- The beacons expected in slot `a` have come or been missed (R459). -/
def State.expectDone (s : State) (a : Nat) : State :=
  { s with twn := { s.twn with expected := s.twn.expected.filter fun e => e.1 != a } }

theorem exec_slotEnd (s : State) : exec .slotEnd s = execSlotEnd s := rfl

theorem execSlotEnd_of_work {s : State} {a listen : Nat} (h : s.mac.work = some (a, listen)) : ∃ next, execSlotEnd s =
    let u := s.slotClosed a listen next
    let v := u.on (u.inPause a && !u.inPause ((a + 1) % 2 ^ 40)) State.pauseEnd
    .next ((v.expectDone a).on ((v.twn.expected.any fun e => e.1 == a && !e.2.2) && v.fld F.TWN_STAT_ROLE == 2) State.airMiss) := by
  simp only [execSlotEnd, h]
  exact ⟨_, rfl⟩

theorem slotClosed_twn (s : State) (a listen next : Nat) : (s.slotClosed a listen next).twn = s.twn :=
  (wakeAll_mac_twn _).2.trans (advanceToFull_twn s _)

theorem slotClosed_inPause (s : State) (a listen next b : Nat) : (s.slotClosed a listen next).inPause b = s.inPause b := by
  refine inPause_of_fld (fun g hg => ?_) b
  exact (wakeAll_fld _ 0 0 (by rw [hg]; decide) (by rw [hg]; decide)).trans (advanceToFull_fld s _ g 0 0)

theorem slotClosed_mac (s : State) (a listen next : Nat) :
    (s.slotClosed a listen next).mac.work = none ∧ (s.slotClosed a listen next).mac.last = some (a, listen) := by
  unfold State.slotClosed
  dsimp only
  rw [(wakeAll_mac_twn _).1]
  exact ⟨rfl, rfl⟩

/-- The pause's end: its event is set, and ARM and PAUSED clear. -/
theorem pauseEnd_flags (s : State) : s.pauseEnd.flag F.MAC_STAT_PAUSED = false ∧ s.pauseEnd.flag F.MAC_PAUSE_ARM = false ∧
    s.pauseEnd.flag F.MAC_EVT_PAUSE_END = true := by
  refine ⟨flag_setFld_cond _ _ false _ _ (by decide) rfl, ?_, ?_⟩
  · rw [State.pauseEnd, State.flag, fld_setFld_id _ _ _ _ _ _ (by decide)]
    exact flag_setFld_cond _ _ false _ _ (by decide) rfl
  · rw [State.pauseEnd, State.flag, fld_setFld_id _ _ _ _ _ _ (by decide), fld_setFld_id _ _ _ _ _ _ (by decide)]
    exact flag_raise_self s _ _ (by decide) rfl

theorem pauseEnd_mac (s : State) : s.pauseEnd.mac = s.mac := raise_mac ..
theorem pauseEnd_twn (s : State) : s.pauseEnd.twn = s.twn := raise_twn ..

/-- The last slot of a pause ends, with no beacon expected. -/
theorem slotEnd_of_pause {s : State} {a listen : Nat} (h : s.mac.work = some (a, listen)) (hexp : s.twn.expected = [])
    (hin : s.inPause a = true) (hout : s.inPause ((a + 1) % 2 ^ 40) = false) :
    ∃ next, execSlotEnd s = .next ((s.slotClosed a listen next).pauseEnd.expectDone a) := by
  obtain ⟨next, hexec⟩ := execSlotEnd_of_work h
  refine ⟨next, hexec.trans ?_⟩
  simp only [slotClosed_inPause, slotClosed_twn, pauseEnd_twn, hin, hout, hexp, Bool.not_false, Bool.and_self, on_true, List.any_nil,
    Bool.false_and, on_false]

theorem slotEnd_completes {s : State} {a listen : Nat} (h : s.mac.work = some (a, listen)) (hexp : s.twn.expected = [])
    (hin : s.inPause a = true) (hout : s.inPause ((a + 1) % 2 ^ 40) = false) : Completes .slotEnd s fun t =>
      t.mac.work = none ∧ t.mac.last = some (a, listen) ∧ t.flag F.MAC_STAT_PAUSED = false ∧ t.flag F.MAC_PAUSE_ARM = false ∧
        t.flag F.MAC_EVT_PAUSE_END = true := by
  obtain ⟨next, hexec⟩ := slotEnd_of_pause h hexp hin hout
  obtain ⟨hwork, hlast⟩ := slotClosed_mac s a listen next
  have hmac := pauseEnd_mac (s.slotClosed a listen next)
  exact completes_of_exec ((exec_slotEnd s).trans hexec) ⟨(congrArg MacState.work hmac).trans hwork,
    (congrArg MacState.last hmac).trans hlast, pauseEnd_flags _⟩

/-! ## The end of an acknowledgement window (R151) -/

theorem exec_ackWindowClose (j id : Nat) (s : State) : exec (.ackWindowClose j id) s = execAckWindowClose j id s := rfl

theorem ackWindowClose_completes {s : State} {j id : Nat} {f : TxFrame} (hf : s.txFrame j id = some f) (hst : f.stage = .awaitAck) :
    let u := s.advanceToFull (f.ackTo + 1)
    Completes (.ackWindowClose j id) s fun t => t =
      (if u.candidates j f.desc.carrier f.ackFrom f.ackTo then u.putTx j { f with closed := true }
        else u.ackEnd j { f with closed := true }) := by
  refine ⟨_, ?_, rfl⟩
  simp only [exec_ackWindowClose, execAckWindowClose, hf, hst, if_true]
  exact (apply_ite Host.Outcome.next _ _ _).symm

/-- Settles O12, each command by its lemma above. -/
theorem macCommands : Obligations.MacCommands :=
  ⟨fun _ _ hen hok hr => macEnable_accepted hen hok hr, fun _ _ hen hbad hr => macEnable_refused hen hbad hr,
    fun _ _ ha hrun hm => slotResolve_completes ha hrun hm, fun _ _ _ h => slotStart_completes h,
    fun _ _ hnone hh hrole hvalid => slotStart_bare_completes hnone hh hrole hvalid,
    fun _ _ _ h hexp hin hout => slotEnd_completes h hexp hin hout, fun _ _ _ _ hf hst => ackWindowClose_completes hf hst⟩

end Sys2Proof.Machine
end

section
/-! PROOFS. What leaves Spillway's sessions and their command time as they were (R163–R175): memory words, the Silt recorder, the free of cells,
the frames of copies and the flash port. -/

namespace Sys2Proof.Machine

/-- A conditional effect leaves Spillway as the effect does. -/
theorem on_spw {f : State → State} (hf : ∀ t : State, (f t).spw = t.spw) (s : State) (c : Bool) : (s.on c f).spw = s.spw :=
  on_keeps (P := fun t => t.spw = s.spw) c rfl (hf s)

/-- What every turn of a fold leaves of Spillway. -/
theorem foldl_spw {α : Type} {f : State → α → State} (hf : ∀ (t : State) (a : α), (f t a).spw = t.spw) (l : List α) (s : State) :
    (l.foldl f s).spw = s.spw :=
  List.foldlRecOn (motive := fun t : State => t.spw = s.spw) l f rfl fun t ht a _ => (hf t a).trans ht

/-! ## Memory words and the Silt recorder (R442, R448, R505–R513) -/

@[simp] theorem setMemBytes_spw (bs : List Byte) (s : State) (m o : Nat) : (s.setMemBytes m o bs).spw = s.spw := by
  induction bs generalizing s o with
  | nil => rfl
  | cons b bs ih => exact ih _ _

@[simp] theorem flipApply_spw (s : State) (m w : Nat) : (s.flipApply m w).spw = s.spw := by
  unfold State.flipApply
  split
  · rw [bump_spw, raise_spw, setFld_spw]
    exact on_spw (fun t => eccSet_spw t m w _) s _
  · rfl

@[simp] theorem memWrite_spw (s : State) (m w v : Nat) : (s.memWrite m w v).spw = s.spw := by
  rw [State.memWrite, flipApply_spw, eccClear_spw, State.setMemWord, setMemBytes_spw]

@[simp] theorem memWrites_spw (m : Nat) (vs : List Nat) (s : State) (w : Nat) : (s.memWrites m w vs).spw = s.spw := by
  induction vs generalizing s w with
  | nil => rfl
  | cons v vs ih => exact (ih _ _).trans (memWrite_spw s m w v)

@[simp] theorem flushAsk_spw (s : State) : s.flushAsk.spw = s.spw := by
  unfold State.flushAsk
  split <;> rfl

@[simp] theorem siltWrite_spw (s : State) (base seq : Nat) (rs : List (Nat × Nat × Nat)) : (s.siltWrite base seq rs).spw = s.spw :=
  foldl_spw (fun t _ => memWrites_spw 7 _ t _) _ s

@[simp] theorem siltPost_spw (s : State) (code value rank : Nat) : (s.siltPost code value rank).spw = s.spw := by
  have kept (n seq k : Nat) (t : State) :
      (((t.siltCount n).setFld F.OBS_SILT_SEQ_SEQ seq).bump F.OBS_CNT_SILT_KEPT_COUNT k).spw = t.spw := rfl
  have lost (t : State) :
      (({ t with obs := { t.obs with lost := t.obs.lost + 1 } }.bump F.OBS_CNT_SILT_LOST_COUNT).raise F.OBS_EVT_SILT_OVERFLOW).spw = t.spw :=
    raise_spw ..
  have supp (t : State) : (t.bump F.OBS_CNT_SILT_SUPP_COUNT).spw = t.spw := rfl
  have posted (obs : ObsState) (base seq : Nat) (rs : List (Nat × Nat × Nat)) : ({ s with obs := obs }.siltWrite base seq rs).spw = s.spw :=
    siltWrite_spw ..
  simp only [State.siltPost]
  split
  · rw [on_spw flushAsk_spw, on_spw supp, on_spw lost, on_spw (kept _ _ _), posted]
  · rw [on_spw supp, on_spw lost, on_spw (kept _ _ _), posted]

/-! ## Cells and copies (R141, R169, R346, R443) -/

@[simp] theorem doubleFree_spw (s : State) (c : Nat) : (s.doubleFree c).spw = s.spw := by
  rw [State.doubleFree, siltPost_spw, raise_spw, bump_spw]

@[simp] theorem freeWalk_spw (n : Nat) (s : State) (c : Nat) : (s.freeWalk n c).spw = s.spw := by
  induction n generalizing s c with
  | zero => rfl
  | succ n ih =>
    simp only [State.freeWalk]
    split
    · exact doubleFree_spw s c
    · split
      · rfl
      · exact ih _ _

@[simp] theorem freeChain_spw (s : State) (c : Nat) : (s.freeChain c).spw = s.spw := freeWalk_spw ..

@[simp] theorem writeFrame_spw (cs : List Nat) (bs : List (List Byte)) (s : State) (o : Nat) : (s.writeFrame cs o bs).spw = s.spw := by
  induction bs generalizing s o with
  | nil => rfl
  | cons b bs ih =>
    unfold State.writeFrame
    split
    · rfl
    · exact (ih _ _).trans (memWrite_spw s 0 _ _)

@[simp] theorem putFrame_spw (s : State) (cs : List Nat) (bs : List Byte) : (s.putFrame cs bs).spw = s.spw := writeFrame_spw ..

@[simp] theorem placeCopies_spw (s : State) (o : Nat → TxOrigin) (on : List (Nat × Nat)) (cells : List Nat) (d : TxDesc) :
    (s.placeCopies o on cells d).spw = s.spw :=
  foldl_spw (fun t _ => place_spw t _) on _

/-! ## The flash port (R406) -/

/-- The port's next work concerns the port alone: Spillway and the MAC engine stay as they were. -/
theorem flsServe_spw_mac (s : State) : s.flsServe.spw = s.spw ∧ s.flsServe.mac = s.mac := by
  have resumes : s.flsResume.spw = s.spw ∧ s.flsResume.mac = s.mac := by
    unfold State.flsResume
    split <;> exact ⟨rfl, rfl⟩
  unfold State.flsServe
  dsimp only
  split
  · exact ⟨rfl, rfl⟩
  · split
    · split
      · exact ⟨rfl, rfl⟩
      · exact resumes
    · split
      · exact resumes
      · split <;> exact ⟨rfl, rfl⟩

@[simp] theorem flsEnd_spw (s : State) : s.flsEnd.spw = s.spw := (flsServe_spw_mac _).1
@[simp] theorem flsEnd_mac (s : State) : s.flsEnd.mac = s.mac := (flsServe_spw_mac _).2

theorem flsEnd_workAlike (s : State) : s.WorkAlike s.flsEnd := .trans (.rest (.refl s) rfl) (flsServe_workAlike _)

end Sys2Proof.Machine
end

section
/-! PROOFS. `Obligations.SpillwayCommands`: Spillway's commands, and the read of a sending slot that ends or is too late (R163–R177). -/

namespace Sys2Proof.Machine

/-! ## A session and what it shows (R163) -/

theorem spwS_congr {s t : State} (h : t.spw = s.spw) (k : Nat) : t.spwS k = s.spwS k := by
  rw [State.spwS, h, State.spwS]

@[simp] theorem spwS_setSpw (s : State) (k : Nat) (p : SpwSession) : (s.setSpw k p).spwS k = p := SMap.getD_put_self ..

@[simp] theorem spwS_setFld (s : State) (f : Fld) (v i j k : Nat) : (s.setFld f v i j).spwS k = s.spwS k := rfl

@[simp] theorem spwS_raise (s : State) (f : Fld) (i k : Nat) : (s.raise f i).spwS k = s.spwS k := spwS_congr (raise_spw s f i) k

@[simp] theorem putSpw_spwS (s : State) (k : Nat) (p : SpwSession) : (s.putSpw k p).spwS k = p := spwS_setSpw s k p

/-- A session shows itself in SPW_PROG alone. -/
theorem putSpw_fld (s : State) (k : Nat) (p : SpwSession) {g : Fld} (i j : Nat) (h : g.reg ≠ .SPW_PROG) :
    (s.putSpw k p).fld g i j = s.fld g i j := by
  rw [State.putSpw, State.spwShow, fld_setFld_id _ _ _ _ _ _ h, fld_setFld_id _ _ _ _ _ _ h, setSpw_fld]

/-- STATE takes a written state. -/
theorem spwState_setFld (s : State) (k : Nat) {v : Nat} (h : v < 4) : (s.setFld F.SPW_STAT_STATE v k).spwState k = v :=
  (fld_setFld_self _ _ _ _ _ (by decide)).trans (Nat.mod_eq_of_lt h)

/-! ## The result of a command (R13, R175) -/

theorem Status.code_lt (st : Status) : st.code < 64 := by
  cases st <;> decide

/-- The record of an INTERNAL result (R13) leaves Spillway, the time and every register outside the Silt recorder's and the memories'. -/
theorem internalPosted (s : State) (c : Bool) (b reason : Nat) :
    (s.on c fun s => s.siltInternal b reason).spw = s.spw ∧ (s.on c fun s => s.siltInternal b reason).clp = s.clp ∧
      s.WorkAlike (s.on c fun s => s.siltInternal b reason) :=
  ⟨on_spw (fun t => siltPost_spw t _ _ _) s c, (State.TxAlike.on (fun t => siltPost_txAlike t _ _ _) (.refl s)).clp,
    .on (fun t => siltPost_workAlike t _ _ _) (.refl s)⟩

@[simp] theorem spwResult_spwS (s : State) (st : Status) (reason k : Nat) : (s.spwResult st reason).spwS k = s.spwS k := by
  obtain ⟨hspw, -, -⟩ := internalPosted _ (decide (st = .internal)) 6 reason
  exact (spwS_congr hspw k).trans rfl

/-- BUSY lasts 1 µs at most from the write (R175). -/
theorem spwResult_busyTill (s : State) (st : Status) (reason : Nat) :
    (s.spwResult st reason).spw.busyTill ≤ (s.spwResult st reason).clp.now + 1000 := by
  obtain ⟨hspw, hclp, -⟩ := internalPosted _ (decide (st = .internal)) 6 reason
  rw [State.spwResult, congrArg SpwState.busyTill hspw, congrArg ClpState.now hclp]
  exact Nat.add_le_add_left (Nat.le_of_lt_succ (Nat.mod_lt _ (by decide))) _

theorem spwResult_status (s : State) (st : Status) (reason : Nat) : (s.spwResult st reason).fld F.SPW_CMD_STAT_STATUS = st.code := by
  obtain ⟨-, -, halike⟩ := internalPosted _ (decide (st = .internal)) 6 reason
  refine (fld_of_reg (halike _ (by decide) 0 0)).trans ?_
  rw [fld_setFld_disjoint _ _ _ _ _ _ (by decide) (by decide), fld_setFld_self _ _ _ _ _ (by decide)]
  exact Nat.mod_eq_of_lt st.code_lt

/-- A result leaves the fields of a session's registers alone. -/
theorem spwResult_fld (s : State) (st : Status) (reason : Nat) {g : Fld} (i j : Nat) (h : g.reg ≠ .SPW_CMD_STAT)
    (hg : g.reg ∉ slotWorkRegs) : (s.spwResult st reason).fld g i j = s.fld g i j := by
  obtain ⟨-, -, halike⟩ := internalPosted _ (decide (st = .internal)) 6 reason
  refine (fld_of_reg (halike _ hg i j)).trans ?_
  rw [fld_setFld_id _ _ _ _ _ _ h, fld_setFld_id _ _ _ _ _ _ h]
  rfl

@[simp] theorem spwResult_spwState (s : State) (st : Status) (reason k : Nat) : (s.spwResult st reason).spwState k = s.spwState k :=
  spwResult_fld s st reason k 0 (by decide) (by decide)

/-! ## A write of SPW_CMD (R175, R176) -/

theorem spwWhen_admitted {s : State} {ok : Bool} (h : ok = true) (f : State → State) : s.spwWhen ok f = (f s).spwResult .ok 0 := if_pos h

theorem spwWhen_refused {s : State} {ok : Bool} (h : ok = false) (f : State → State) : s.spwWhen ok f = s.spwResult .busy 0 := by
  rw [State.spwWhen, h, if_neg Bool.false_ne_true]

/-- What SPW_CMD's operation `op` does, with its session and the BASE of a MERGE. -/
def State.spwOperate (s : State) (op k base : Nat) : State :=
  match op with
  | 1 => s.spwLoad k
  | 2 => s.spwStartFull k
  | 3 => s.spwStartRepair k
  | 4 => s.spwMerge k base
  | 5 => s.spwClearMissing k
  | 6 => s.spwSuspend k
  | 7 => s.spwResume k
  | 8 => s.spwAbort k
  | _ => s.spwResult .internal 0

theorem spwCmdWrite_of_idle {s : State} (h : s.spwBusy = false) (d : Word) :
    s.spwCmdWrite d = s.spwOperate (bits d.toNat 0 4) (bits d.toNat 4 2) (bits d.toNat 16 16) := by
  rw [State.spwCmdWrite, h, if_neg Bool.false_ne_true]
  rfl

theorem spwCmdWrite_of_busy {s : State} (h : s.spwBusy = true) (d : Word) : s.spwCmdWrite d = s.raise F.SPW_EVT_CMD_IGNORED := if_pos h

/-- The fields of a command's word. -/
theorem spwCmdWord_fields {op k base : Nat} (hop : op < 16) (hk : k < 4) (hbase : base < 65536) :
    bits (spwCmdWord op k base).toNat 0 4 = op ∧ bits (spwCmdWord op k base).toNat 4 2 = k ∧
      bits (spwCmdWord op k base).toNat 16 16 = base := by
  simp only [bits, spwCmdWord, BitVec.toNat_ofNat]
  omega

/-- A command while SPW_CMD is not BUSY completes as its operation does. -/
theorem completes_of_operation {c : Instr} {op k base : Nat} {s : State} {P : State → Prop}
    (he : exec c s = .next (s.powered fun s => s.spwCmdWrite (spwCmdWord op k base))) (hr : s.released = true) (hidle : s.spwBusy = false)
    (hop : op < 16) (hk : k < 4) (hbase : base < 65536) (h : P (s.spwOperate op k base)) : Completes c s P := by
  obtain ⟨hopBits, hkBits, hbaseBits⟩ := spwCmdWord_fields hop hk hbase
  refine completes_of_powered hr he ?_
  rwa [spwCmdWrite_of_idle hidle, hopBits, hkBits, hbaseBits]

theorem exec_spwLoad (k : Nat) (s : State) : exec (.spwLoad k) s = .next (s.powered fun s => s.spwCmdWrite (spwCmdWord 1 k 0)) := rfl
theorem exec_startFull (k : Nat) (s : State) : exec (.startFull k) s = .next (s.powered fun s => s.spwCmdWrite (spwCmdWord 2 k 0)) := rfl
theorem exec_startRepair (k : Nat) (s : State) : exec (.startRepair k) s = .next (s.powered fun s => s.spwCmdWrite (spwCmdWord 3 k 0)) := rfl
theorem exec_merge (k base : Nat) (s : State) : exec (.merge k base) s = .next (s.powered fun s => s.spwCmdWrite (spwCmdWord 4 k base)) := rfl
theorem exec_clearMissing (k : Nat) (s : State) : exec (.clearMissing k) s = .next (s.powered fun s => s.spwCmdWrite (spwCmdWord 5 k 0)) := rfl
theorem exec_suspend (k : Nat) (s : State) : exec (.suspend k) s = .next (s.powered fun s => s.spwCmdWrite (spwCmdWord 6 k 0)) := rfl
theorem exec_resume (k : Nat) (s : State) : exec (.resume k) s = .next (s.powered fun s => s.spwCmdWrite (spwCmdWord 7 k 0)) := rfl
theorem exec_abort (k : Nat) (s : State) : exec (.abort k) s = .next (s.powered fun s => s.spwCmdWrite (spwCmdWord 8 k 0)) := rfl

/-! ## LOAD (R176, R177) -/

theorem spwLoad_loads {s : State} {k : Nat} (hst : s.spwState k < 2) (hcheck : s.spwCheck k = 0) :
    let t := s.spwLoad k
    t.spwState k = 1 ∧ t.fld F.SPW_STAT_ROUND k = 0 ∧ (t.spwS k).missing = [] ∧ t.fld F.SPW_CMD_STAT_STATUS = Status.ok.code ∧
      t.spw.busyTill ≤ t.clp.now + 1000 := by
  simp only [State.spwLoad, if_neg hst.not_ge, hcheck, if_true]
  refine ⟨?_, ?_, ?_, spwResult_status .., spwResult_busyTill ..⟩
  · rw [spwResult_spwState, State.spwState, fld_setFld_disjoint _ _ _ _ _ _ (by decide) (by decide)]
    exact spwState_setFld _ k (by decide)
  · rw [spwResult_fld _ _ _ _ _ (by decide) (by decide)]
    exact fld_setFld_self _ _ _ _ _ (by decide)
  · rw [spwResult_spwS, spwS_setFld, spwS_setFld, putSpw_spwS]

theorem spwLoad_fails {s : State} {k : Nat} (hst : s.spwState k < 2) (hcheck : s.spwCheck k ≠ 0) :
    s.spwLoad k = s.spwResult .internal (s.spwCheck k) := by
  simp only [State.spwLoad, if_neg hst.not_ge, if_neg hcheck]

/-! ## START_FULL and START_REPAIR (R167, R173) -/

/-- A round with a block to send runs: its send set and manifest are still to place. -/
theorem spwRound_runs (s : State) (k kind : Nat) {set : List Nat} (missing : List Nat) (hset : set ≠ []) :
    let t := s.spwRound k kind set missing
    t.spwState k = 2 ∧ t.spwS k = { s.spwS k with todo := set, missing := missing, manifest := true, since := none } ∧
      t.fld F.SPW_STAT_KIND k = kind % 2 ∧ t.fld F.SPW_STAT_ROUND k = (s.fld F.SPW_STAT_ROUND k + 1) % 2 ^ 16 := by
  have hfull : set.isEmpty = false := List.isEmpty_eq_false_iff.mpr hset
  simp only [State.spwRound, hfull, Bool.false_eq_true, if_false]
  refine ⟨spwState_setFld _ k (by decide), ?_, ?_, ?_⟩
  · rw [spwS_setFld, putSpw_spwS, spwS_setFld, spwS_setFld]
  · rw [fld_setFld_disjoint _ _ _ _ _ _ (by decide) (by decide), putSpw_fld _ _ _ _ _ (by decide)]
    exact fld_setFld_self _ _ _ _ _ (by decide)
  · rw [fld_setFld_disjoint _ _ _ _ _ _ (by decide) (by decide), putSpw_fld _ _ _ _ _ (by decide),
      fld_setFld_disjoint _ _ _ _ _ _ (by decide) (by decide)]
    exact fld_setFld_self _ _ _ _ _ (by decide)

theorem spwStartFull_runs {s : State} {k : Nat} (hst : s.spwState k = 1) (hblocks : s.fld F.SPW_GEOM_BLOCKS k ≠ 0) :
    let t := s.spwStartFull k
    t.spwState k = 2 ∧ (t.spwS k).todo = List.range (s.fld F.SPW_GEOM_BLOCKS k) ∧ (t.spwS k).manifest = true ∧
      t.fld F.SPW_STAT_KIND k = 0 ∧ t.fld F.SPW_STAT_ROUND k = (s.fld F.SPW_STAT_ROUND k + 1) % 2 ^ 16 := by
  obtain ⟨hrun, hsession, hkind, hround⟩ :=
    spwRound_runs s k 0 (s.spwS k).missing (set := List.range (s.fld F.SPW_GEOM_BLOCKS k)) (by rwa [ne_eq, List.range_eq_nil])
  dsimp only
  rw [State.spwStartFull, spwWhen_admitted (beq_iff_eq.mpr hst), spwResult_spwState, spwResult_spwS,
    spwResult_fld _ _ _ _ _ (by decide) (by decide), spwResult_fld _ _ _ _ _ (by decide) (by decide), hsession]
  exact ⟨hrun, rfl, rfl, hkind, hround⟩

theorem spwStartRepair_runs {s : State} {k : Nat} (hst : s.spwState k = 1) (hmissing : (s.spwS k).missing ≠ []) :
    let t := s.spwStartRepair k
    t.spwState k = 2 ∧ (t.spwS k).todo = (s.spwS k).missing ∧ (t.spwS k).missing = [] ∧ t.fld F.SPW_STAT_KIND k = 1 := by
  obtain ⟨hrun, hsession, hkind, -⟩ := spwRound_runs s k 1 [] hmissing
  dsimp only
  rw [State.spwStartRepair, spwWhen_admitted (beq_iff_eq.mpr hst), spwResult_spwState, spwResult_spwS,
    spwResult_fld _ _ _ _ _ (by decide) (by decide), hsession]
  exact ⟨hrun, rfl, rfl, hkind⟩

/-- START_FULL of a session that is not Ready completes BUSY with nothing changed (R176). -/
theorem spwStartFull_refused {s : State} {k : Nat} (hst : s.spwState k ≠ 1) :
    let t := s.spwStartFull k
    t.fld F.SPW_CMD_STAT_STATUS = Status.busy.code ∧ t.spwState k = s.spwState k ∧ t.spwS k = s.spwS k := by
  dsimp only
  rw [State.spwStartFull, spwWhen_refused (beq_false_of_ne hst)]
  exact ⟨spwResult_status .., spwResult_spwState .., spwResult_spwS ..⟩

/-! ## The missing map, SUSPEND, RESUME and ABORT (R175, R176) -/

theorem spwMerge_missing {s : State} {k : Nat} (base : Nat) (hst : s.spwState k ≠ 0) : ((s.spwMerge k base).spwS k).missing =
    mergeSorted (s.spwS k).missing
      (((bitsOf (s.fld F.SPW_CMD_MASK_MASK)).map (base + ·)).filter (· < s.fld F.SPW_GEOM_BLOCKS k)) := by
  rw [State.spwMerge, spwWhen_admitted (bne_iff_ne.mpr hst), spwResult_spwS, putSpw_spwS]

theorem spwClearMissing_clears {s : State} {k : Nat} (hst : s.spwState k ≠ 0) :
    ((s.spwClearMissing k).spwS k).missing = [] ∧ ((s.spwClearMissing k).spwS k).todo = (s.spwS k).todo := by
  rw [State.spwClearMissing, spwWhen_admitted (bne_iff_ne.mpr hst), spwResult_spwS, putSpw_spwS]
  exact ⟨rfl, rfl⟩

/-- A command that only moves STATE leaves the session as it was. -/
theorem spwResult_moved (s : State) (k : Nat) {v : Nat} (h : v < 4) :
    let t := (s.setFld F.SPW_STAT_STATE v k).spwResult .ok 0
    t.spwState k = v ∧ t.spwS k = s.spwS k :=
  ⟨(spwResult_spwState ..).trans (spwState_setFld s k h), spwResult_spwS ..⟩

theorem spwSuspend_suspends {s : State} {k : Nat} (hst : s.spwState k = 2) :
    (s.spwSuspend k).spwState k = 3 ∧ (s.spwSuspend k).spwS k = s.spwS k := by
  rw [State.spwSuspend, spwWhen_admitted (beq_iff_eq.mpr hst)]
  exact spwResult_moved s k (by decide)

theorem spwResume_resumes {s : State} {k : Nat} (hst : s.spwState k = 3) :
    (s.spwResume k).spwState k = 2 ∧ (s.spwResume k).spwS k = s.spwS k := by
  rw [State.spwResume, spwWhen_admitted (beq_iff_eq.mpr hst)]
  exact spwResult_moved s k (by decide)

theorem spwAbort_idles (s : State) (k : Nat) :
    let t := s.spwAbort k
    t.spwState k = 0 ∧ (t.spwS k).missing = [] ∧ (t.spwS k).todo = [] := by
  dsimp only
  rw [State.spwAbort, spwWhen_admitted rfl, spwResult_spwState, spwResult_spwS, spwS_setFld, putSpw_spwS]
  exact ⟨spwState_setFld _ k (by decide), rfl, rfl⟩

/-! ## The read of a sending slot (R165–R171) -/

theorem spwOn_congr {s t : State} {k : Nat} (h : t.fld F.SPW_CAR_CARRIERS k = s.fld F.SPW_CAR_CARRIERS k) (chains : Nat) :
    t.spwOn k chains = s.spwOn k chains := by
  rw [State.spwOn, h, State.spwOn]

theorem beaconOn_congr {s t : State} (h : t.mac = s.mac) (a j c : Nat) : t.beaconOn a j c = s.beaconOn a j c := by
  rw [State.beaconOn, h, State.beaconOn]

/-- The session after the frame of a block has been placed: the slot is in work no more, and the block is sent. -/
theorem spwPlaced_spwS (s : State) (k : Nat) {x : SpwSlot} {b : Nat} (hb : x.block = some b) (hx : x.stray = false) :
    (s.spwPlaced k x).spwS k =
      { (s.spwS k).leave x.asn with todo := (s.spwS k).todo.filter (· != b) } := by
  simp only [State.spwPlaced, hb, hx, Bool.false_eq_true, if_false]
  refine (on_keeps (P := fun t => t.spwS k = _) _ (putSpw_spwS s k _) ?_)
  rw [spwS_raise, spwS_setFld, putSpw_spwS]
  rfl

theorem exec_spwFlashReadDone (dt k : Nat) (s : State) : exec (.spwFlashReadDone dt k) s = execSpwFlashReadDone dt k s := rfl

/-- A read that ends in time, with a copy to place, leaves the frame of its slot placed; until then no session has changed. -/
theorem spwFlashReadDone_places {s : State} {dt k : Nat} {x : SpwSlot} {w : FlsOp} (hw : (s.after dt).fls.busy = some w) (hsrc : w.src = 2)
    (hk : w.session = k) (hx : (s.spwS k).slots.find? (fun y => y.asn == w.asn) = some x)
    (htime : (s.after dt).fullNs + 100000 ≤ (s.after dt).slotStart x.asn + s.fld F.MAC_TMPL_0_TX_OFFSET * 1000)
    (hcopy : ∃ e ∈ s.spwOn k x.chains, s.beaconOn x.asn e.1 e.2 = false) :
    ∃ u : State, u.spw = s.spw ∧ execSpwFlashReadDone dt k s = .next (u.spwPlaced k x) := by
  have hspw : (s.after dt).spw = s.spw := advance_spw s dt
  have hfind : ((s.after dt).spwS k).slots.find? (fun y => y.asn == w.asn) = some x := by rwa [spwS_congr hspw]
  have hmac : (s.after dt).flsEnd.mac = s.mac := (flsEnd_mac _).trans (advance_mac s dt)
  have hcarriers : (s.after dt).flsEnd.fld F.SPW_CAR_CARRIERS k = s.fld F.SPW_CAR_CARRIERS k :=
    (fld_of_reg (flsEnd_workAlike _ _ (by decide) k 0)).trans (after_fld ..)
  have hon : (((s.after dt).flsEnd.spwOn k x.chains).filter fun e => !(s.after dt).flsEnd.beaconOn x.asn e.1 e.2).isEmpty = false := by
    obtain ⟨e, he, hfree⟩ := hcopy
    refine List.isEmpty_eq_false_iff_exists_mem.mpr ⟨e, List.mem_filter.mpr ⟨?_, ?_⟩⟩
    · rwa [spwOn_congr hcarriers]
    · rw [beaconOn_congr hmac, hfree]
      rfl
  rw [← after_fld s dt] at htime
  simp only [execSpwFlashReadDone, hw, hfind, hsrc, hk, htime, and_self, if_true, hon, Bool.false_eq_true, if_false]
  refine ⟨_, ?_, rfl⟩
  rw [placeCopies_spw, putFrame_spw, flsEnd_spw, hspw]

theorem spwFlashReadDone_completes {s : State} {dt k b : Nat} {x : SpwSlot} {w : FlsOp} (hw : (s.after dt).fls.busy = some w)
    (hsrc : w.src = 2) (hk : w.session = k) (hx : (s.spwS k).slots.find? (fun y => y.asn == w.asn) = some x) (hb : x.block = some b)
    (hstray : x.stray = false)
    (htime : (s.after dt).fullNs + 100000 ≤ (s.after dt).slotStart x.asn + s.fld F.MAC_TMPL_0_TX_OFFSET * 1000)
    (hcopy : ∃ e ∈ s.spwOn k x.chains, s.beaconOn x.asn e.1 e.2 = false) :
    Completes (.spwFlashReadDone dt k) s fun t => (t.spwS k).slots = (s.spwS k).slots.filter (·.asn != x.asn) ∧
      (t.spwS k).todo = (s.spwS k).todo.filter (· != b) := by
  obtain ⟨u, hspw, hexec⟩ := spwFlashReadDone_places hw hsrc hk hx htime hcopy
  refine completes_of_exec ((exec_spwFlashReadDone dt k s).trans hexec) ?_
  rw [spwPlaced_spwS u k hb hstray, spwS_congr hspw]
  exact ⟨rfl, rfl⟩

/-- A slot given up leaves its session's slots in work. -/
theorem spwSkip_spwS (s : State) (k : Nat) (x : SpwSlot) : (s.spwSkip k x).spwS k = (s.spwS k).leave x.asn := by
  unfold State.spwSkip
  dsimp only
  have hleft : (s.setSpw k ((s.spwS k).leave x.asn)).spwS k = (s.spwS k).leave x.asn := spwS_setSpw ..
  refine (spwS_congr ?_ k).trans hleft
  rw [bump_spw, freeChain_spw, on_spw flsEnd_spw]

theorem exec_spwSlotSkip (k : Nat) (s : State) : exec (.spwSlotSkip k) s = execSpwSlotSkip k s := rfl

theorem spwSlotSkip_completes {s : State} {k : Nat} {x : SpwSlot} {xs : List SpwSlot} (h : (s.spwS k).slots = x :: xs) :
    Completes (.spwSlotSkip k) s fun t =>
      (t.spwS k).slots = xs.filter (·.asn != x.asn) ∧ t.flag F.SPW_EVT_FLASH_LATE = true := by
  have hexec : execSpwSlotSkip k s = .next (((s.advanceToFull
      (s.slotStart x.asn + s.fld F.MAC_TMPL_0_TX_OFFSET * 1000 - 100000 + 1)).spwSkip k x).raise F.SPW_EVT_FLASH_LATE) := by
    rw [execSpwSlotSkip, h]
  refine completes_of_exec ((exec_spwSlotSkip k s).trans hexec) ⟨?_, flag_raise_self _ _ _ (by decide) rfl⟩
  have hspw (n : Nat) : (s.advanceToFull n).spw = s.spw := advance_spw s _
  rw [spwS_raise, spwSkip_spwS, spwS_congr (hspw _), SpwSession.leave, h]
  exact List.filter_cons_of_neg (p := fun y : SpwSlot => y.asn != x.asn) (by simp)

/-- Settles O13, each command by its lemma above. -/
theorem spillwayCommands : Obligations.SpillwayCommands :=
  ⟨fun s k hk hidle hst hcheck hr =>
      completes_of_operation (exec_spwLoad k s) hr hidle (by decide) hk (by decide) (spwLoad_loads hst hcheck),
    fun s k hk hidle hst hcheck hr =>
      completes_of_operation (exec_spwLoad k s) hr hidle (by decide) hk (by decide) (spwLoad_fails hst hcheck),
    fun s k hk hidle hst hblocks hr =>
      completes_of_operation (exec_startFull k s) hr hidle (by decide) hk (by decide) (spwStartFull_runs hst hblocks),
    fun s k hk hidle hst hmissing hr =>
      completes_of_operation (exec_startRepair k s) hr hidle (by decide) hk (by decide) (spwStartRepair_runs hst hmissing),
    fun s k base hk hbase hidle hst hr =>
      completes_of_operation (exec_merge k base s) hr hidle (by decide) hk hbase (spwMerge_missing base hst),
    fun s k hk hidle hst hr =>
      completes_of_operation (exec_clearMissing k s) hr hidle (by decide) hk (by decide) (spwClearMissing_clears hst),
    fun s k hk hidle hst hr =>
      completes_of_operation (exec_suspend k s) hr hidle (by decide) hk (by decide) (spwSuspend_suspends hst),
    fun s k hk hidle hst hr =>
      completes_of_operation (exec_resume k s) hr hidle (by decide) hk (by decide) (spwResume_resumes hst),
    fun s k hk hidle hr => completes_of_operation (exec_abort k s) hr hidle (by decide) hk (by decide) (spwAbort_idles s k),
    fun s k hk hidle hst hr =>
      completes_of_operation (exec_startFull k s) hr hidle (by decide) hk (by decide) (spwStartFull_refused hst),
    fun s k hbusy hr => completes_of_powered hr (exec_startFull k s) (spwCmdWrite_of_busy hbusy _),
    fun _ _ _ _ _ _ hw hsrc hk hx hb hstray htime hcopy => spwFlashReadDone_completes hw hsrc hk hx hb hstray htime hcopy,
    fun _ _ _ _ h => spwSlotSkip_completes h⟩

end Sys2Proof.Machine
end

section
/-! PROOFS. `Obligations.SluiceCommands`: the header stage and the decision, the end of a frame, a wired packet, the ager, the loss of the scan
lock and a seed (R185, R186, R193, R200–R202, R214, R221), each command by a lemma of its own. -/

namespace Sys2Proof.Machine

/-! ## The header stage and the decision (R185) -/

theorem exec_sluiceHeader (id : Nat) (s : State) : exec (.sluiceHeader id) s = execSluiceHeader id s := rfl

theorem sluiceHeader_opens {s : State} {id : Nat} {f : RxFrame} (hf : s.rx id = some f) (hnone : f.hold = none)
    (hready : s.headerReady f = true) (hmems : s.memsReady (1 :: keyMems) = true) :
    Completes (.sluiceHeader id) s fun t => t = s.headerStage id f := by
  refine completes_of_exec ((exec_sluiceHeader id s).trans ?_) rfl
  simp [execSluiceHeader, hf, hnone, hready, hmems]

/-- A decision that is built is held, beside the source entry that the frame had. -/
theorem decideFrame_holds (s : State) (f : RxFrame) (h : RxHold) :
    (s.decideFrame f h).1.decision.isSome = true ∧ (s.decideFrame f h).1.src = h.src := ⟨rfl, rfl⟩

theorem sluiceHeader_decides {s : State} {id : Nat} {f : RxFrame} {h : RxHold} (hf : s.rx id = some f) (hh : f.hold = some h)
    (hnone : h.decision = none) (hspan : s.spanReady f h = true) (hmem : s.memReady 1 = true) :
    Completes (.sluiceHeader id) s fun t => ∃ g u, g.decision.isSome = true ∧ g.src = h.src ∧ s.decideFrame f h = (g, u) ∧
      t = u.setHold id { g with headRuns := false } := by
  obtain ⟨hdecision, hsrc⟩ := decideFrame_holds s f h
  refine completes_of_exec ((exec_sluiceHeader id s).trans ?_) ⟨_, _, hdecision, hsrc, rfl, rfl⟩
  simp only [execSluiceHeader, hf, hh]
  exact if_pos ⟨hnone, hspan, hmem⟩

/-! ## The end of a frame (R19, R200, R202) -/

theorem exec_sluiceCommit (id : Nat) (s : State) : exec (.sluiceCommit id) s = execSluiceCommit id s := rfl

/-- A frame whose decision is built ends as it closed: POISONED whatever that is, where Sluice's path met an uncorrectable word. -/
def State.commitAs (s : State) (id : Nat) (f : RxFrame) (h : RxHold) (c : RxClose) : State :=
  if h.poisoned then (s.on (decide (c = .ok)) fun s => s.hear f).finishRx id f h .poisoned
  else match c with
    | .blanked => s.finishRx id f h .blanked
    | .fcsFail => s.finishRx id f h .fcsFail
    | .ok => (s.hear f).commitGood id f h

section
variable {s : State} {id : Nat} {f : RxFrame} {h : RxHold} (hf : s.rx id = some f) (hh : f.hold = some h)
include hf hh

theorem sluiceCommit_ends {c : RxClose} (hc : f.closed = some c) (hdecided : h.decision ≠ none) (hmems : s.memsReady [1, 5] = true)
    (holdest : s.oldestOfRill id f = true) (hdue : c = .ok → verdictDue f h = false) :
    exec (.sluiceCommit id) s = .next (s.commitAs id f h c) := by
  have hwait : ¬((c = .ok ∧ verdictDue f h = true) ∨ s.oldestOfRill id f = false ∨ s.memsReady [1, 5] = false) := by
    simpa [holdest, hmems] using hdue
  cases f
  cases hh
  cases hc
  rw [exec_sluiceCommit]
  simp only [execSluiceCommit, hf, if_neg hwait, if_neg hdecided, State.commitAs]
  cases h.poisoned <;> cases c <;> rfl

/-- A good frame waits for its verdict, and every frame for the older ones of its rill. -/
theorem sluiceCommit_waits (hwait : f.closed = some .ok ∧ verdictDue f h = true ∨ s.oldestOfRill id f = false) :
    Completes (.sluiceCommit id) s fun t => t = s := by
  refine completes_of_exec ((exec_sluiceCommit id s).trans ?_) rfl
  simp only [execSluiceCommit, hf, hh]
  cases hc : f.closed with
  | none => rfl
  | some c =>
    refine if_pos ?_
    obtain ⟨hok, hdue⟩ | hyoung := hwait
    · exact .inl ⟨Option.some.inj (hc.symm.trans hok), hdue⟩
    · exact .inr (.inl hyoung)

end

/-! ## Wired packets (R186) -/

theorem exec_wiredPacket (port : Nat) (s : State) : exec (.wiredPacket port) s = execWiredPacket port s := rfl

theorem wiredPacket_completes {s : State} {port : Nat} {p : Wired} (hp : s.slc.wired.find? (fun q => q.port == port) = some p)
    (hmems : s.memsReady [0, 1] = true) :
    Completes (.wiredPacket port) s fun t => ∃ u : State, u.slc.wired = s.slc.wired.erase p ∧ t = u.takeWired p := by
  refine completes_of_exec ((exec_wiredPacket port s).trans ?_)
    ⟨{ s with slc := { s.slc with wired := s.slc.wired.erase p } }, rfl, rfl⟩
  simp [execWiredPacket, hp, hmems]

/-! ## The ager (R214) -/

@[simp] theorem advanceTo_slc (s : State) (t : Nat) : (s.advanceTo t).slc = s.slc := advance_slc s _

theorem exec_agerVisit (s : State) : exec .agerVisit s = execAgerVisit s := rfl

/-- The state in which the ager makes its next visit, once that is due. -/
def State.atAgerVisit (s : State) : State :=
  let u := s.advanceTo (s.slc.agerLast + s.agerStep)
  { u with slc := { u.slc with agerLast := max (s.slc.agerLast + s.agerStep) u.slc.agerLast } }

theorem execAgerVisit_of_enabled {s : State} (hen : s.flag F.SLC_AGE_CTL_EN = true) (hmem : s.memReady 1 = true) :
    execAgerVisit s = .next s.atAgerVisit.agerVisit := by
  simp only [execAgerVisit, hen, hmem, and_self, if_true, State.atAgerVisit]

theorem agerVisit_completes {s : State} (hen : s.flag F.SLC_AGE_CTL_EN = true) (hmem : s.memReady 1 = true) :
    Completes .agerVisit s fun t => ∃ u : State, u.slc.agerLast = s.slc.agerLast + s.agerStep ∧ u.slc.agerAt = s.slc.agerAt ∧
      u.clp.now = max s.clp.now (s.slc.agerLast + s.agerStep) ∧ t = u.agerVisit := by
  refine completes_of_exec ((exec_agerVisit s).trans (execAgerVisit_of_enabled hen hmem)) ⟨_, ?_, ?_, ?_, rfl⟩
  · simp [State.atAgerVisit]
  · simp [State.atAgerVisit]
  · simp [State.atAgerVisit, advanceTo_now]

/-- The ager passes over a slot that is not to be aged out. -/
theorem agerVisit_of_young {s u : State} {e : Entry} (hread : s.readEntry s.slc.agerAt = (some e, u))
    (hyoung : u.isAged s.slc.agerAt e = false) : s.agerVisit = u.agerNext := by
  simp [State.agerVisit, hread, hyoung]

/-! ## The scan lock and the seed (R193, R221) -/

theorem exec_scanTimeout (s : State) : exec .scanTimeout s = execScanTimeout s := rfl

@[simp] theorem setLock_slc (s : State) (l : Option (Nat × Nat)) : (s.setLock l).slc = { s.slc with lock := l } := rfl

theorem setLock_locked (s : State) (l : Option (Nat × Nat)) : (s.setLock l).flag F.SLC_STAT_SCAN_LOCKED = l.isSome := by
  rw [State.setLock, State.flag, fld_setFld_disjoint _ _ _ _ _ _ (by decide) (by decide)]
  exact flag_setFld_cond _ _ _ _ _ (by decide) rfl

theorem scanTimeout_completes {s : State} {req due : Nat} (hlock : s.slc.lock = some (req, due)) :
    Completes .scanTimeout s fun t => ∃ u : State, u.slc.lock = none ∧ u.flag F.SLC_STAT_SCAN_LOCKED = false ∧
      u.flag F.SLC_EVT_SCAN_LOST = true ∧ t = u.siltPost 113 req := by
  refine completes_of_exec (t := (((s.advanceTo due).setLock none).raise F.SLC_EVT_SCAN_LOST).siltPost 113 req) ?_
    ⟨_, ?_, ?_, flag_raise_self _ _ _ (by decide) rfl, rfl⟩
  · simp [exec_scanTimeout, execScanTimeout, hlock]
  · simp
  · rw [State.flag, fld_raise_id _ _ _ _ (by decide)]
    exact setLock_locked _ none

theorem exec_relocSeedWrite (d : Word) (s : State) :
    exec (.relocSeedWrite d) s = .next (s.powered fun s => s.relocSeedWrite d) := rfl

theorem relocSeedWrite_completes {s : State} (d : Word) (hr : s.released = true) : Completes (.relocSeedWrite d) s fun t =>
    t.slc.lfsr = BitVec.ofNat 32 (max 1 (d.toNat % 2 ^ 32)) ∧ t.fld F.SLC_RELOC_SEED_SEED = d.toNat % 2 ^ 32 := by
  refine completes_of_powered hr (exec_relocSeedWrite d s) ⟨?_, ?_⟩
  · simp [State.relocSeedWrite, bits_from_zero]
  · rw [State.relocSeedWrite, fld_setFld_self _ _ _ _ _ (by decide), bits_from_zero]
    exact Nat.mod_mod _ _

/-! ## The statement -/

/-- Settles O14, each command by its lemma above. -/
theorem sluiceCommands : Obligations.SluiceCommands :=
  ⟨fun _ _ _ hf hnone hready hmems => sluiceHeader_opens hf hnone hready hmems,
    fun _ _ _ _ hf hh hnone hspan hmem => sluiceHeader_decides hf hh hnone hspan hmem,
    fun s id f h hf hh hdecided hgood hmems holdest hc =>
      completes_of_exec (sluiceCommit_ends hf hh hc hdecided hmems holdest (by simp)) (by simp [State.commitAs, hgood]),
    fun s id f h hf hh hdecided hgood hmems holdest hc =>
      completes_of_exec (sluiceCommit_ends hf hh hc hdecided hmems holdest (by simp)) (by simp [State.commitAs, hgood]),
    fun s id f h hf hh hdecided hgood hmems holdest hc hdue =>
      completes_of_exec (sluiceCommit_ends hf hh hc hdecided hmems holdest fun _ => hdue) (by simp [State.commitAs, hgood]),
    fun _ _ _ _ hf hh hok hdue => sluiceCommit_waits hf hh (.inl ⟨hok, hdue⟩),
    fun _ _ _ _ hf hh hyoung => sluiceCommit_waits hf hh (.inr hyoung),
    fun s id f h hf hh hdecided hbad hmems holdest hc => by
      obtain hc | hc := hc <;>
        exact completes_of_exec (sluiceCommit_ends hf hh hc hdecided hmems holdest (by simp)) (by simp [State.commitAs, hbad]),
    fun _ _ _ hp hmems => wiredPacket_completes hp hmems,
    fun _ hen hmem => agerVisit_completes hen hmem,
    fun _ _ _ hread hyoung => agerVisit_of_young hread hyoung,
    fun _ _ _ hlock => scanTimeout_completes hlock,
    fun _ d hr => relocSeedWrite_completes d hr⟩

end Sys2Proof.Machine
end

section
/-! PROOFS. The negation of `Obligations.TableCommands`: a SEARCH by another requester than the host hands its result to the result runnel
(R217, R218), and where that push must wait it waits under the requester's own number (R308), not under the 255 of an engine without one. -/

namespace Sys2Proof.Machine

/-! ## A SEARCH that finds its key (R217–R219) -/

theorem withOp_op {op : Nat} (hop : op < 16) (ws : List Word) : bits ((withOp op ws).getD 0 0) 60 4 = op := by
  cases ws with
  | nil => simp [withOp, bits, Nat.mod_eq_of_lt hop]
  | cons w ws => exact (bits_setBits _ _ _ _).trans (Nat.mod_eq_of_lt hop)

theorem holdsLock_of_free {s : State} (h : s.slc.lock = none) (req : Nat) : s.holdsLock req = false := by
  simp [State.holdsLock, h]

theorem cmdSearch_of_hit {s u : State} {x y : Entry} {i : Nat} (hlook : s.lookup x.e0 x.cls = (.hit i y, u)) :
    s.cmdSearch x = ({ status := .ok, index := i, image := y }, u) := by
  unfold State.cmdSearch
  rw [hlook]

theorem runCmd_search {s u : State} {x : Entry} {a : CmdAns} (h : s.cmdSearch x = (a, u)) (w0 w1 req : Nat) :
    s.runCmd 1 w0 w1 req x = (some a, u) := by
  unfold State.runCmd
  simp only [h]

/-- A record whose OP is SEARCH delivers the entry that the lookup finds. -/
theorem tableRun_search {s u : State} {r : List Nat} {req i : Nat} {x : Entry} (hop : bits (r.getD 0 0) 60 4 = 1)
    (hlook : s.lookup (entryOf (r.drop 2)).e0 (entryOf (r.drop 2)).cls = (.hit i x, u)) (hlock : u.slc.lock = none) :
    s.tableRun req r = u.deliverResult req (bits (r.getD 0 0) 52 8) (resultRec .ok false false i (r.getD 0 0) 0 x) := by
  have hrun := runCmd_search (cmdSearch_of_hit hlook) (r.getD 0 0) (r.getD 1 0) req
  have hok : (Status.ok == Status.internal) = false := by decide
  simp only [State.tableRun, hop, hrun, holdsLock_of_free hlock, Bool.and_false, Bool.false_and, hok, on_false]

theorem exec_search (req : Nat) (ws : List Word) (s : State) :
    exec (.search req ws) s = .next (s.powered fun s => s.whenReady 1 fun s => s.tableCmd req (withOp 1 ws)) := rfl

/-- The result of a SEARCH of another requester than the host goes to the result runnel, as a push that carries the requester's number. -/
theorem search_pushes {s u : State} {ws : List Word} {req i : Nat} {x : Entry}
    (hlook : s.lookup (entryOf ((withOp 1 ws).drop 2)).e0 (entryOf ((withOp 1 ws).drop 2)).cls = (.hit i x, u)) (hlock : u.slc.lock = none)
    (hreq : req ≠ 128) (hphase : u.pwr.phase ≠ .failing) (hr : s.released = true) (hmem : s.memReady 1 = true) :
    exec (.search req ws) s = .next (u.enginePush (bits ((withOp 1 ws).getD 0 0) 52 8)
      ((resultRec .ok false false i ((withOp 1 ws).getD 0 0) 0 x).map fun w => mkWord (BitVec.ofNat 64 w)) req) := by
  rw [exec_search, powered_of_released hr, State.whenReady, if_pos hmem, State.tableCmd, if_neg fun h => hreq h.1,
    tableRun_search (withOp_op (by decide) ws) hlook hlock, State.deliverResult, if_neg hreq, if_neg hphase]

/-! ## A push that waits (R334, R336) -/

/-- A push for which an enabled runnel has no room waits behind those that wait, with its requester. -/
theorem enginePush_waits {s : State} {n : Nat} {ws : List RunWord} (hon : s.runnelOn n = true) (hroom : s.runnelRoom n < ws.length)
    (req : Nat) : ((s.enginePush n ws req).runnel n).waiting = (s.runnel n).waiting ++ [(req, ws)] := by
  simp [State.enginePush, hon, Nat.not_le.mpr hroom]

/-- The requester can be told from a push that waits. -/
theorem enginePush_ne_of_full {s : State} {n : Nat} {ws : List RunWord} {a b : Nat} (hon : s.runnelOn n = true)
    (hroom : s.runnelRoom n < ws.length) (hne : a ≠ b) : s.enginePush n ws a ≠ s.enginePush n ws b := by
  intro h
  have hwaiting := congrArg (fun t : State => (t.runnel n).waiting) h
  simp only [enginePush_waits hon hroom] at hwaiting
  simp [hne] at hwaiting

/-! ## The counterexample -/

/-- The node table holds the entry of EUI 5, and runnel 0 is enabled and full. -/
def State.fullRunnel : State :=
  let s := (State.reset.writeEntry (bucketBase 5 0 0) ⟨5, 2 ^ 55, 0, 0⟩).setFld F.RUN_CFG_EN 1
  let s := s.setRunnel 0 { words := List.replicate 256 (mkWord 0) }
  { s with pwr := { s.pwr with phase := .run, inited := [1] } }

/-- A record that searches for EUI 5 in class 0, its result to go to runnel 0. -/
def searchFor5 : List Word := [0, 0, 5, 0, 0, 0]

theorem searchFor5_fields : (entryOf ((withOp 1 searchFor5).drop 2)).e0 = 5 ∧ (entryOf ((withOp 1 searchFor5).drop 2)).cls = 0 ∧
    bits ((withOp 1 searchFor5).getD 0 0) 52 8 = 0 := by decide

theorem fullRunnel_ready : State.fullRunnel.released = true ∧ State.fullRunnel.memReady 1 = true := by decide +kernel

/-- The lookup finds the entry, and leaves the lock free and the runnel enabled, with no room for a result's 6 words. -/
theorem fullRunnel_lookup : ∃ (i : Nat) (x : Entry) (u : State), State.fullRunnel.lookup 5 0 = (.hit i x, u) ∧
    u.slc.lock = none ∧ u.pwr.phase ≠ .failing ∧ u.runnelOn 0 = true ∧ u.runnelRoom 0 < 6 := by
  have hrun : (State.fullRunnel.lookup 5 0).1 = .hit (bucketBase 5 0 0) ⟨5, 2 ^ 55, 0, 0⟩ ∧
      (State.fullRunnel.lookup 5 0).2.slc.lock = none ∧ (State.fullRunnel.lookup 5 0).2.pwr.phase ≠ .failing ∧
      (State.fullRunnel.lookup 5 0).2.runnelOn 0 = true ∧ (State.fullRunnel.lookup 5 0).2.runnelRoom 0 < 6 := by decide +kernel
  generalize State.fullRunnel.lookup 5 0 = a at hrun ⊢
  obtain ⟨hhit, hrest⟩ := hrun
  exact ⟨_, _, a.2, congrArg (·, a.2) hhit, hrest⟩

/-- Refutes O15: its third clause has the result of a SEARCH pushed as requester 255 whoever asked. Thread 5 searches for a key that the table
holds while its result runnel is full: the push waits as thread 5's. -/
theorem not_tableCommands : ¬ Obligations.TableCommands := by
  rintro ⟨-, -, hclause, -⟩
  obtain ⟨he0, hcls, hn⟩ := searchFor5_fields
  obtain ⟨hr, hmem⟩ := fullRunnel_ready
  obtain ⟨i, x, u, hlook, hlock, hphase, hon, hroom⟩ := fullRunnel_lookup
  rw [← he0, ← hcls] at hlook
  rw [← hn] at hon hroom
  obtain ⟨t, hexec, ht⟩ := hclause _ u searchFor5 5 i x hlook hlock (by decide) hphase hr hmem
  have hpush := hexec.symm.trans (search_pushes hlook hlock (by decide) hphase hr hmem)
  refine enginePush_ne_of_full hon ?_ (by decide) (ht.symm.trans (Host.Outcome.next.inj hpush))
  simpa [resultRec, Entry.words] using hroom

end Sys2Proof.Machine
end

section
/-! PROOFS. `Obligations.OcellTimeAndTables`: what an issue leaves for an instruction to read, waits, and the time, table and random-number
instructions (R191, R192, R284, R285, R290). -/

namespace Sys2Proof.Machine

/-! ## What an issued instruction reads (R302, R499) -/

theorem fld_issued (s : State) (t : Nat) {f : Fld} (i j : Nat) (h : f.reg ≠ .OBS_THR_CNT) : (s.issued t).fld f i j = s.fld f i j :=
  fld_of_reg (reg_issued s t i j h)

theorem flag_issued (s : State) (t : Nat) {f : Fld} (i j : Nat) (h : f.reg ≠ .OBS_THR_CNT) : (s.issued t).flag f i j = s.flag f i j :=
  flag_of_reg (reg_issued s t i j h)

@[simp] theorem grt_issued (s : State) (t : Nat) : (s.issued t).grt = s.grt := by
  simp only [State.issued, State.issueCount, State.on, State.takeTurn]
  repeat' split
  all_goals rfl

@[simp] theorem fullNs_issued (s : State) (t : Nat) : (s.issued t).fullNs = s.fullNs := by simp [State.fullNs]

@[simp] theorem service_issued (s : State) (t : Nat) : (s.issued t).service = s.service := by simp [State.service]

@[simp] theorem ahead_issued (s : State) (t target : Nat) : (s.issued t).ahead target = s.ahead target := by simp [State.ahead]

@[simp] theorem asnValid_issued (s : State) (t : Nat) : (s.issued t).asnValid = s.asnValid := flag_issued s t 0 0 (by decide)

@[simp] theorem anchorNs_issued (s : State) (t : Nat) : (s.issued t).anchorNs = s.anchorNs := by
  rw [State.anchorNs, fld_issued _ _ _ _ (by decide), fld_issued _ _ _ _ (by decide)]
  rfl

@[simp] theorem slotLen_issued (s : State) (t : Nat) : (s.issued t).slotLen = s.slotLen := by
  rw [State.slotLen, fld_issued _ _ _ _ (by decide)]
  rfl

@[simp] theorem asn_issued (s : State) (t : Nat) : (s.issued t).asn = s.asn := by
  rw [State.asn, State.asnAt, fld_issued _ _ _ _ (by decide)]
  simp [State.asn, State.asnAt]

@[simp] theorem slotStart_issued (s : State) (t a : Nat) : (s.issued t).slotStart a = s.slotStart a := by
  rw [State.slotStart, fld_issued _ _ _ _ (by decide)]
  simp [State.slotStart]

@[simp] theorem memReady_issued (s : State) (t m : Nat) : (s.issued t).memReady m = s.memReady m := by simp [State.memReady]

@[simp] theorem eccOf_issued (s : State) (t m w : Nat) : (s.issued t).eccOf m w = s.eccOf m w := by simp [State.eccOf]

@[simp] theorem memWord_issued (s : State) (t m w : Nat) : (s.issued t).memWord m w = s.memWord m w := by
  simp [State.memWord, State.memBytes]

/-! ## Instructions that issue -/

/-- An effect that leaves the state as it is leaves it so in a region too. -/
@[simp] theorem inRegion_self (s : State) (t : Nat) : s.inRegion t s = s := ite_self s

/-- A read of a good word changes nothing (R439). -/
theorem memRead_of_good {s : State} {m w : Nat} (h : s.eccOf m w = none) : s.memRead m w = (.good (s.memWord m w), s) := by
  simp [State.memRead, h]

theorem unlessRegion_of_none {s : State} {t : Nat} (h : (s.thr t).region = none) (f : State → State) : s.unlessRegion t f = f s := by
  simp [State.unlessRegion, h]

@[simp] theorem count_thr (s : State) (f : Fld) (n i j t : Nat) : (s.count f n i j).thr t = s.thr t := rfl

/-- A thread that changes its STATE stays at its address. -/
theorem setThrState_pc (s : State) (t st : Nat) : ((s.setThrState t st).thr t).pc = (s.thr t).pc := by
  have hcount : ((s.waitCount t).thr t).pc = (s.thr t).pc := by
    simp only [State.waitCount]
    split
    · exact on_keeps (P := fun u : State => (u.thr t).pc = (s.thr t).pc) _ (by simp) (by simp)
    · rfl
  simpa [State.setThrState, State.wdHold] using hcount

/-- A thread that begins to wait is Waiting for what it waits for, at the address of its instruction (R303). -/
theorem enterWait_thr (s : State) (t : Nat) (x : OclWait) : ((s.enterWait t x).thr t).state = 2 ∧
    ((s.enterWait t x).thr t).wait = some x ∧ ((s.enterWait t x).thr t).pc = (s.thr t).pc := by
  rw [State.enterWait, thr_setThr]
  exact ⟨by simp [State.setThrState], rfl, setThrState_pc s t 2⟩

section
variable {s : State} {t w opc : Nat} {legal : Bool} {f : State → State} {c : Instr} (h : Issues t w s)
  (he : exec c s = .next (s.issue t opc w legal f)) (hl : legal = true)
include h he hl

/-- A legal instruction has its effect on the state as issued. -/
theorem completes_of_issue {P : State → Prop} (hP : P (f (s.issued t))) : Completes c s P :=
  completes_of_exec he (by rwa [issue_run h, hl, if_pos rfl])

/-- An instruction whose effect is a result of RD. -/
theorem completes_of_result {v : Word} (hf : f (s.issued t) = (s.issued t).result t (opRD w) v) :
    Completes c s (ThreadOnly t (retiredAt ((s.thr t).setReg (opRD w) v) (nextPc (s.thr t))) s) :=
  completes_of_exec he (threadOnly_result h opc f legal hl _ v hf)

/-- An instruction whose effect is a wait. -/
theorem completes_of_wait {x : OclWait} (hf : f (s.issued t) = (s.issued t).enterWait t x) : Completes c s fun u =>
    (u.thr t).state = 2 ∧ (u.thr t).wait = some x ∧ (u.thr t).pc = (s.thr t).pc := by
  refine completes_of_issue h he hl ?_
  simpa [hf] using enterWait_thr (s.issued t) t x

end

/-! ## Time (R284) -/

theorem exec_now (t w : Nat) (s : State) : exec (.now t w) s = execNow t w s := rfl
theorem exec_nowf (t w : Nat) (s : State) : exec (.nowf t w) s = execNowf t w s := rfl
theorem exec_asn (t w : Nat) (s : State) : exec (.asn t w) s = execAsn t w s := rfl
theorem exec_a2t (t w : Nat) (s : State) : exec (.a2t t w) s = execA2t t w s := rfl
theorem exec_waitt (t w : Nat) (s : State) : exec (.waitt t w) s = execWaitt t w s := rfl

section
variable {s : State} {t w : Nat} (h : Issues t w s) (hfmt : fmtA w = true)
include h hfmt

theorem now_completes : Completes (.now t w) s
    (ThreadOnly t (retiredAt ((s.thr t).setReg (opRD w) (BitVec.ofNat 64 (s.fullNs % 2 ^ 32))) (nextPc (s.thr t))) s) :=
  completes_of_result h (exec_now t w s) hfmt (by rw [service_issued, State.service])

theorem asn_completes : Completes (.asn t w) s (ThreadOnly t (retiredAt ((s.thr t).setReg (opRD w)
    (if s.asnValid then BitVec.ofNat 64 s.asn else 0x8000000000000000)) (nextPc (s.thr t))) s) :=
  completes_of_result h (exec_asn t w s) hfmt (by rw [asnValid_issued, asn_issued, noTime])

theorem a2t_completes : Completes (.a2t t w) s (ThreadOnly t (retiredAt ((s.thr t).setReg (opRD w)
    (if s.asnValid then BitVec.ofNat 64
        ((s.slotStart ((s.g t (opRA w)).toNat % 2 ^ 40) + (s.g t (opRB w)).toNat % 2 ^ 16 * 1000) % 2 ^ 32)
      else 0x8000000000000000)) (nextPc (s.thr t))) s) :=
  completes_of_result h (exec_a2t t w s) hfmt
    (by simp only [asnValid_issued, slotStart_issued, g_issued, noTime])

theorem nowf_completes (hrd : opRD w ≤ 30) : Completes (.nowf t w) s
    (ThreadOnly t (retiredAt (((s.thr t).setReg (opRD w) (BitVec.ofNat 64 (s.fullNs / 10 ^ 9 % 2 ^ 48))).setReg (opRD w + 1)
      (BitVec.ofNat 64 (s.fullNs % 10 ^ 9))) (nextPc (s.thr t))) s) := by
  refine completes_of_issue h (exec_nowf t w s) (by simp [hfmt, hrd]) ?_
  rw [retire_ready (by simp [State.setGs, State.setG, h.ready])]
  simpa [State.setGs, State.setG, nextPc] using threadOnly_setThr s t _

theorem waitt_passes (hpast : s.ahead ((s.g t (opRA w)).toNat % 2 ^ 32) = false) : Completes (.waitt t w) s
    (ThreadOnly t (retiredAt (s.thr t) (nextPc (s.thr t))) s) := by
  refine completes_of_issue h (exec_waitt t w s) hfmt ?_
  simp only [g_issued, ahead_issued, hpast, Bool.false_eq_true, if_false]
  rw [retire_ready (by simp [h.ready]), thr_issued]
  exact threadOnly_setThr s t _

theorem waitt_waits (hahead : s.ahead ((s.g t (opRA w)).toNat % 2 ^ 32) = true) : Completes (.waitt t w) s fun u =>
    (u.thr t).state = 2 ∧ (u.thr t).wait = some (.waitt ((s.g t (opRA w)).toNat % 2 ^ 32)) ∧ (u.thr t).pc = (s.thr t).pc :=
  completes_of_wait h (exec_waitt t w s) hfmt (by simp only [g_issued, ahead_issued, hahead, if_true])

end

/-! ## Tables (R191, R192, R285) -/

theorem exec_tcmd (t w : Nat) (s : State) : exec (.tcmd t w) s = execTcmd t w s := rfl
theorem exec_tfind (t w : Nat) (s : State) : exec (.tfind t w) s = execTfind t w s := rfl
theorem exec_trd (t w : Nat) (s : State) : exec (.trd t w) s = execTrd t w s := rfl

section
variable {s : State} {t w : Nat} (h : Issues t w s)
include h

theorem tcmd_completes (hfmt : fmtA w = true) (hregion : (s.thr t).region = none) (halign : (s.g t (opRA w)).toNat % 8 = 0)
    (hloc : recordLoc t (s.g t (opRA w)).toNat = true) : Completes (.tcmd t w) s fun u =>
      u = (if (s.issued t).fresh.1 % 2 = 1 then (s.issued t).fresh.2.tcmdIssue t (s.g t (opRA w)).toNat
        else (s.issued t).fresh.2.enterWait t (.tcmd (s.g t (opRA w)).toNat)) := by
  refine completes_of_issue h (exec_tcmd t w s) hfmt ?_
  rw [unlessRegion_of_none (by rw [thr_issued, hregion])]
  simp [halign, hloc]

theorem tfind_completes (hfmt : fmtA w = true) : Completes (.tfind t w) s fun u => (u.thr t).state = 2 ∧
    (u.thr t).wait = some (.tfind (s.g t (opRA w)).toNat ((s.g t (opRB w)).toNat % 256) (opRD w)) ∧ (u.thr t).pc = (s.thr t).pc :=
  completes_of_wait h (exec_tfind t w s) hfmt (by rw [g_issued, g_issued])

theorem trd_completes (himm : bits w 2 10 = 0) (hmem : s.memReady 1 = true)
    (hgood : s.eccOf 1 (4 * ((s.g t (opRA w)).toNat % 2 ^ 19) + bits w 0 2) = none) : Completes (.trd t w) s
    (ThreadOnly t (retiredAt ((s.thr t).setReg (opRD w)
      (BitVec.ofNat 64 (s.memWord 1 (4 * ((s.g t (opRA w)).toNat % 2 ^ 19) + bits w 0 2)))) (nextPc (s.thr t))) s) := by
  refine completes_of_result h (exec_trd t w s) (by simp [himm]) ?_
  have hread := memRead_of_good (s := s.issued t) (by rwa [eccOf_issued])
  rw [State.whenReady, memReady_issued, if_pos hmem, g_issued]
  simp only [hread, inRegion_self, memWord_issued, WordRead.isBad, WordRead.val, Bool.false_eq_true, if_false]

end

/-! ## Random numbers (R290) -/

theorem exec_rnd (t w : Nat) (s : State) : exec (.rnd t w) s = execRnd t w s := rfl

/-- Random numbers depend on Grotto's generator alone. -/
theorem randN_congr {s u : State} (h : u.grt = s.grt) (n : Nat) :
    (u.randN n).1 = (s.randN n).1 ∧ (u.randN n).2.grt = (s.randN n).2.grt := by
  simp only [State.randN, h, and_self]

/-- Random numbers change nothing but Grotto's generator. -/
theorem randN_thr (s : State) (n t : Nat) : (s.randN n).2.thr t = s.thr t := by
  rcases hd : drbgUpdate s.grt.drbgKey ((s.grt.drbgV + (n + 1) / 2) % 2 ^ 128) 0 with ⟨k, v⟩
  simp only [State.randN, hd, State.thr]

theorem rndTo_of_ready {s : State} {t : Nat} (h : (s.thr t).state = 1) (rd : Nat) : s.rndTo t rd =
    s.rand.2.setThr t (retiredAt ((s.thr t).setReg rd (BitVec.ofNat 64 s.rand.1)) (nextPc (s.thr t))) := by
  have hthr : s.rand.2.thr t = s.thr t := randN_thr s 1 t
  rcases hrand : s.rand with ⟨v, u⟩
  rw [hrand] at hthr
  simp only [State.rndTo, hrand]
  rw [result_ready (by rw [hthr, h]), hthr]

section
variable {s : State} {t w : Nat} (h : Issues t w s) (hfmt : fmtA w = true)
include h hfmt

theorem rnd_completes (hok : s.flag F.GRT_STAT_DRBG_OK = true) : Completes (.rnd t w) s fun u =>
    u.thr t = retiredAt ((s.thr t).setReg (opRD w) (BitVec.ofNat 64 s.rand.1)) (nextPc (s.thr t)) ∧ u.grt = s.rand.2.grt := by
  obtain ⟨hval, hgrt⟩ := randN_congr (grt_issued s t) 1
  refine completes_of_issue h (exec_rnd t w s) hfmt ?_
  rw [flag_issued _ _ _ _ (by decide), if_pos hok, rndTo_of_ready (by rw [thr_issued, h.ready]), thr_setThr, setThr_grt, thr_issued,
    State.rand, State.rand, hval]
  exact ⟨rfl, hgrt⟩

theorem rnd_waits (hbad : s.flag F.GRT_STAT_DRBG_OK = false) : Completes (.rnd t w) s fun u =>
    (u.thr t).state = 2 ∧ (u.thr t).wait = some (.rnd (opRD w)) := by
  obtain ⟨u, he, hstate, hwait, -⟩ := completes_of_wait (x := .rnd (opRD w)) h (exec_rnd t w s) hfmt
    (by rw [flag_issued _ _ _ _ (by decide), hbad]; rfl)
  exact ⟨u, he, hstate, hwait⟩

end

/-! ## The statement -/

/-- Settles O31, each instruction by its lemma above. -/
theorem ocellTimeAndTables : Obligations.OcellTimeAndTables := fun _ _ _ h =>
  ⟨fun hfmt => ⟨now_completes h hfmt, asn_completes h hfmt, a2t_completes h hfmt⟩,
    fun hfmt hrd => nowf_completes h hfmt hrd,
    fun hfmt hpast => waitt_passes h hfmt hpast,
    fun hfmt hahead => waitt_waits h hfmt hahead,
    fun hfmt hregion halign hloc => tcmd_completes h hfmt hregion halign hloc,
    fun hfmt => tfind_completes h hfmt,
    fun himm hmem hgood => trd_completes h himm hmem hgood,
    fun hfmt hok => rnd_completes h hfmt hok,
    fun hfmt hbad => rnd_waits h hfmt hbad⟩

end Sys2Proof.Machine
end

section
/-! PROOFS. What leaves Grotto as it is (R225, R438–R448, R505–R513): reads of other memories than those that hold keys, the words that a write
of a key leaves, and the Silt recorder. Key memories that are good stay so. -/

namespace Sys2Proof.Machine

/-! ## Key memories byte by byte (R438) -/

theorem ofLe_eq_zero_iff (bs : List Byte) : ofLe bs = 0 ↔ ∀ b ∈ bs, b = 0 := by
  induction bs with
  | nil => simp [ofLe]
  | cons b bs ih =>
    rw [List.forall_mem_cons, ← ih, ← BitVec.toNat_inj]
    simp [ofLe]

theorem leBytes_zero (n : Nat) : ∀ b ∈ leBytes n 0, b = 0 := by simp [leBytes]

/-- The words of a memory read 0 exactly where its bytes do. -/
theorem memWord_eq_zero_iff (s : State) (m w : Nat) : s.memWord m w = 0 ↔ ∀ k < 8, s.memByte m (8 * w + k) = 0 := by
  simp [State.memWord, ofLe_eq_zero_iff, State.memBytes]

theorem keysGood_iff (s : State) : KeysGood s ↔ s.flag F.MEM_FLIP_CTL_ARM = false ∧
    ∀ m ∈ keyMems, (∀ w < 2 ^ 21, s.eccOf m w = none) ∧ ∀ o < 2 ^ 24, s.memByte m o = 0 := by
  simp only [KeysGood, memWord_eq_zero_iff]
  refine and_congr_right fun _ => forall₂_congr fun m _ =>
    ⟨fun h => ⟨fun w hw => (h w hw).1, fun o ho => ?_⟩, fun h w hw => ⟨h.1 w hw, fun k hk => h.2 _ (by omega)⟩⟩
  have hbyte := (h (o / 8) (by omega)).2 (o % 8) (Nat.mod_lt _ (by decide))
  rwa [Nat.div_add_mod] at hbyte

/-- Key memories stay good where no mark and no byte of theirs comes up, and no flip-mask is armed. -/
theorem KeysGood.congr {s t : State} (h : KeysGood s) (hreg : t.reg .MEM_FLIP_CTL 0 0 = s.reg .MEM_FLIP_CTL 0 0)
    (hecc : ∀ m ∈ keyMems, ∀ w < 2 ^ 21, s.eccOf m w = none → t.eccOf m w = none)
    (hmem : ∀ m ∈ keyMems, ∀ o < 2 ^ 24, s.memByte m o = 0 → t.memByte m o = 0) : KeysGood t := by
  rw [keysGood_iff] at h ⊢
  obtain ⟨harm, hgood⟩ := h
  exact ⟨(flag_of_reg hreg).trans harm, fun m hm =>
    ⟨fun w hw => hecc m hm w hw ((hgood m hm).1 w hw), fun o ho => hmem m hm o ho ((hgood m hm).2 o ho)⟩⟩

theorem keyMems_lt {m : Nat} (h : m ∈ keyMems) : m < 5 := by
  simp [keyMems] at h
  omega

/-! ## Grotto left as it is -/

/-- `t` is `s` as Grotto sees it: its own state, the time, and key memories that are good if they were. -/
structure State.GrtAlike (s t : State) : Prop where
  grt : t.grt = s.grt
  clp : t.clp = s.clp
  keys : KeysGood s → KeysGood t

namespace State.GrtAlike

variable {s t u : State}

theorem refl (s : State) : s.GrtAlike s := ⟨rfl, rfl, id⟩

theorem trans (h : s.GrtAlike t) (h' : t.GrtAlike u) : s.GrtAlike u :=
  ⟨h'.grt.trans h.grt, h'.clp.trans h.clp, fun hs => h'.keys (h.keys hs)⟩

theorem groups (h : s.GrtAlike t) : t.grt.groups = s.grt.groups := by rw [h.grt]
theorem ovrs (h : s.GrtAlike t) : t.grt.ovrs = s.grt.ovrs := by rw [h.grt]
theorem netKey (h : s.GrtAlike t) : t.grt.netKey = s.grt.netKey := by rw [h.grt]
theorem attKey (h : s.GrtAlike t) : t.grt.attKey = s.grt.attKey := by rw [h.grt]
theorem kwk (h : s.GrtAlike t) : t.grt.kwk = s.grt.kwk := by rw [h.grt]

/-- A change of what lies outside Grotto, the time, the registers and the memories. -/
theorem rest (h : s.GrtAlike t) (hgrt : u.grt = t.grt) (hclp : u.clp = t.clp) (hregs : u.regs = t.regs) (hmem : u.mem = t.mem)
    (hecc : u.ecc = t.ecc) : s.GrtAlike u :=
  h.trans ⟨hgrt, hclp, fun ht => ht.congr (reg_congr hregs _ _ _) (fun _ _ _ _ he => by rwa [State.eccOf, hecc])
    fun _ _ _ _ hb => by rwa [State.memByte, hmem]⟩

/-- A write of a register other than the flip-mask's. -/
theorem setReg {id : RegId} {i j : Nat} {v : Word} (hid : id ≠ .MEM_FLIP_CTL) (h : s.GrtAlike t) : s.GrtAlike (t.setReg id i j v) :=
  h.trans ⟨rfl, rfl, fun ht => ht.congr (reg_setReg_id _ _ _ _ _ _ hid.symm) (fun _ _ _ _ he => he) fun _ _ _ _ hb => hb⟩

theorem setFld {f : Fld} {v i j : Nat} (hf : f.reg ≠ .MEM_FLIP_CTL) (h : s.GrtAlike t) : s.GrtAlike (t.setFld f v i j) := h.setReg hf

theorem raise {f : Fld} {i : Nat} (hf : f.reg ≠ .MEM_FLIP_CTL) (h : s.GrtAlike t) : s.GrtAlike (t.raise f i) :=
  (h.setFld hf).rest (raise_grt t f i) (raise_clp t f i) (raise_regs t f i) (raise_mem t f i) (raise_ecc t f i)

theorem bump {f : Fld} {n i j : Nat} (hf : f.reg ≠ .MEM_FLIP_CTL) (h : s.GrtAlike t) : s.GrtAlike (t.bump f n i j) :=
  (h.setFld hf).rest rfl rfl (bump_regs t f n i j) rfl rfl

/-- A conditional effect. -/
theorem on {c : Bool} {f : State → State} (hf : ∀ t : State, t.GrtAlike (f t)) (h : s.GrtAlike t) : s.GrtAlike (t.on c f) :=
  on_keeps c h (h.trans (hf t))

end State.GrtAlike

/-! ## Memory words (R438–R448) -/

theorem fresh_grtAlike (s : State) : s.GrtAlike s.fresh.2 := .rest (.refl s) rfl rfl rfl rfl rfl

/-- A byte of another memory than those that hold keys, or a byte of zeros. -/
theorem setMemByte_grtAlike (s : State) {m : Nat} (o : Nat) {b : Byte} (hm : 5 ≤ m ∨ b = 0) : s.GrtAlike (s.setMemByte m o b) := by
  refine ⟨rfl, rfl, fun h => h.congr rfl (fun _ _ _ _ he => he) fun m' hm' o' ho' hzero => ?_⟩
  by_cases haddr : memAddr m' o' = memAddr m o
  · obtain hm | rfl := hm
    · have := keyMems_lt hm'
      unfold memAddr at haddr
      omega
    · rw [State.memByte, haddr]
      exact memByte_setMemByte s m o 0
  · rwa [memByte_setMemByte_ne s b haddr]

theorem setMemBytes_grtAlike (m : Nat) (bs : List Byte) (s : State) (o : Nat) (hm : 5 ≤ m ∨ ∀ b ∈ bs, b = 0) :
    s.GrtAlike (s.setMemBytes m o bs) := by
  induction bs generalizing s o with
  | nil => exact .refl s
  | cons b bs ih =>
    exact (setMemByte_grtAlike s o (hm.imp_right fun h => h b (by simp))).trans (ih _ _ (hm.imp_right fun h c hc => h c (by simp [hc])))

theorem setMemWord_grtAlike (s : State) {m : Nat} (w : Nat) {v : Nat} (hm : 5 ≤ m ∨ v = 0) : s.GrtAlike (s.setMemWord m w v) :=
  setMemBytes_grtAlike m _ s _ (hm.imp_right fun (h : v = 0) => h ▸ leBytes_zero 8)

theorem eccClear_grtAlike (s : State) (m w : Nat) : s.GrtAlike (s.eccClear m w) := by
  refine ⟨rfl, rfl, fun h => h.congr rfl (fun m' _ w' _ hnone => ?_) fun _ _ _ _ hb => hb⟩
  by_cases hkey : eccKey m' w' = eccKey m w
  · rw [State.eccOf, hkey]
    exact SMap.find?_del_self ..
  · exact (SMap.find?_del_ne _ hkey).trans hnone

theorem eccSet_grtAlike (s : State) {m : Nat} (w : Nat) (k : EccMark) (hm : 5 ≤ m) : s.GrtAlike (s.eccSet m w k) := by
  refine ⟨rfl, rfl, fun h => h.congr rfl (fun m' hm' w' hw' hnone => ?_) fun _ _ _ _ hb => hb⟩
  have hlt := keyMems_lt hm'
  exact (SMap.find?_put_ne _ _ (by unfold eccKey; omega)).trans hnone

theorem flipApply_of_unarmed {s : State} (h : s.flag F.MEM_FLIP_CTL_ARM = false) (m w : Nat) : s.flipApply m w = s := by
  simp [State.flipApply, State.flipHits, h]

theorem flipApply_grtAlike (s : State) (m w : Nat) : s.GrtAlike (s.flipApply m w) := by
  refine ⟨?_, (flipApply_txAlike s m w).clp, fun h => by rwa [flipApply_of_unarmed h.1]⟩
  unfold State.flipApply
  split
  · rw [bump_grt, raise_grt, setFld_grt]
    exact on_keeps (P := fun t : State => t.grt = s.grt) _ rfl rfl
  · rfl

theorem memWrite_grtAlike (s : State) {m : Nat} (w : Nat) {v : Nat} (hm : 5 ≤ m ∨ v = 0) : s.GrtAlike (s.memWrite m w v) :=
  ((setMemWord_grtAlike s w hm).trans (eccClear_grtAlike _ m w)).trans (flipApply_grtAlike _ m w)

theorem memWrites_grtAlike (m : Nat) (vs : List Nat) (s : State) (w : Nat) (hm : 5 ≤ m ∨ ∀ v ∈ vs, v = 0) :
    s.GrtAlike (s.memWrites m w vs) := by
  induction vs generalizing s w with
  | nil => exact .refl s
  | cons v vs ih =>
    exact (memWrite_grtAlike s w (hm.imp_right fun h => h v (by simp))).trans (ih _ _ (hm.imp_right fun h x hx => h x (by simp [hx])))

/-- The words of a key that is written (R225). -/
theorem keyWrite_grtAlike (s : State) (m i : Nat) : s.GrtAlike (s.keyWrite m i) :=
  memWrites_grtAlike m _ s _ (.inr (by simp))

/-! ## The Silt recorder (R505–R513) -/

theorem withObs_grtAlike (s : State) (o : ObsState) : s.GrtAlike { s with obs := o } := .rest (.refl s) rfl rfl rfl rfl rfl

theorem siltWrite_grtAlike (s : State) (base seq : Nat) (rs : List (Nat × Nat × Nat)) : s.GrtAlike (s.siltWrite base seq rs) :=
  List.foldlRecOn _ _ (.refl s) fun t h _ _ => h.trans (memWrites_grtAlike 7 _ t _ (.inl (by decide)))

theorem flushAsk_grtAlike (s : State) : s.GrtAlike s.flushAsk := by
  unfold State.flushAsk
  split
  · exact withObs_grtAlike s _
  · exact .setFld (by decide) (withObs_grtAlike s _)

theorem siltPost_grtAlike (s : State) (code value rank : Nat) : s.GrtAlike (s.siltPost code value rank) := by
  have kept (n seq k : Nat) (t : State) : t.GrtAlike (((t.siltCount n).setFld F.OBS_SILT_SEQ_SEQ seq).bump F.OBS_CNT_SILT_KEPT_COUNT k) :=
    .bump (by decide) <| .setFld (by decide) <| .setFld (by decide) <| withObs_grtAlike t _
  have lost (t : State) : t.GrtAlike
      (({ t with obs := { t.obs with lost := t.obs.lost + 1 } }.bump F.OBS_CNT_SILT_LOST_COUNT).raise F.OBS_EVT_SILT_OVERFLOW) :=
    .raise (by decide) <| .bump (by decide) <| withObs_grtAlike t _
  have supp (t : State) : t.GrtAlike (t.bump F.OBS_CNT_SILT_SUPP_COUNT) := .bump (by decide) (.refl t)
  have posted (obs : ObsState) (base seq : Nat) (rs : List (Nat × Nat × Nat)) : s.GrtAlike ({ s with obs := obs }.siltWrite base seq rs) :=
    (withObs_grtAlike s obs).trans (siltWrite_grtAlike _ base seq rs)
  simp only [State.siltPost]
  split
  · exact .on flushAsk_grtAlike <| .on supp <| .on lost <| .on (kept _ _ _) <| posted _ _ _ _
  · exact .on supp <| .on lost <| .on (kept _ _ _) <| posted _ _ _ _

/-! ## Reads of memories that hold no keys (R439–R441) -/

theorem correct_grtAlike (s : State) (m w : Nat) : s.GrtAlike (s.correct m w) :=
  .setFld (by decide) <| .setFld (by decide) <| .raise (by decide) <| .bump (by decide) <| eccClear_grtAlike s m w

section
variable (s : State) {m : Nat} (hm : 5 ≤ m)
include hm

theorem poisonMark_grtAlike (w mask : Nat) : s.GrtAlike (s.poisonMark m w mask) := by
  refine State.GrtAlike.trans ?_ (siltPost_grtAlike _ _ _ _)
  exact .setFld (by decide) <| .setFld (by decide) <| .raise (by decide) <| .bump (by decide) <|
    (setMemWord_grtAlike s w (.inl hm)).trans (eccSet_grtAlike _ w _ hm)

theorem memRead_grtAlike (w : Nat) : s.GrtAlike (s.memRead m w).2 := by
  have redrawn (v : Nat) : s.GrtAlike (s.fresh.2.setMemWord m w v) := (fresh_grtAlike s).trans (setMemWord_grtAlike _ w (.inl hm))
  unfold State.memRead
  split
  · exact .refl s
  · split
    · exact .refl s
    · split
      · exact (redrawn _).trans (eccClear_grtAlike _ m w)
      · split
        · exact correct_grtAlike s m w
        · exact (redrawn _).trans (correct_grtAlike _ m w)
      · exact poisonMark_grtAlike s hm w _

theorem memReads_grtAlike (n w : Nat) : s.GrtAlike (s.memReads m w n).2.2 := by
  induction n generalizing s w with
  | zero => exact .refl s
  | succ n ih => exact (memRead_grtAlike s hm w).trans (ih _ _)

end

/-- The input of a command is read from Jomuter's own memory (R240). -/
theorem grtInput_grtAlike (s : State) (n : Nat) : s.GrtAlike (s.grtInput n).2 := memReads_grtAlike s (by decide) _ _

theorem grtTransported_grtAlike (s : State) : s.GrtAlike s.grtTransported.2 := grtInput_grtAlike s 24

end Sys2Proof.Machine
end

section
/-! PROOFS. Grotto's key store (R236, R241, R242, R246, R249): an entry read or written while the key memories are good, and what a write of one
entry leaves of the others. -/

namespace Sys2Proof.Machine

/-! ## The two stores -/

/-- The store of the groups, or of the override cells. -/
def State.store (s : State) (ovr : Bool) : SMap KeySlot := if ovr then s.grt.ovrs else s.grt.groups

theorem slot_eq_getD (s : State) (ovr : Bool) (i : Nat) : s.slot ovr i = SMap.getD (s.store ovr) i {} := by
  cases ovr <;> rfl

theorem store_congr {s t : State} (h : t.grt = s.grt) (ovr : Bool) : t.store ovr = s.store ovr := by rw [State.store, h, State.store]

theorem slot_congr {s t : State} {ovr : Bool} (h : t.store ovr = s.store ovr) (i : Nat) : t.slot ovr i = s.slot ovr i := by
  rw [slot_eq_getD, h, slot_eq_getD]

theorem setSlot_store (s : State) (ovr : Bool) (i : Nat) (v : KeySlot) :
    (s.setSlot ovr i v).store ovr = SMap.putD (s.store ovr) i v {} ∧ (s.setSlot ovr i v).store (!ovr) = s.store (!ovr) := by
  cases ovr <;> exact ⟨rfl, rfl⟩

theorem withKey_key (e : KeySlot) (k m : Nat) : (e.withKey k m).key = k := by
  simp [KeySlot.key, KeySlot.withKey]

/-! ## A write of one entry -/

/-- `t` is `s` with entry `i` of a key store holding `v`, an override cell under a mask of its own (R246); the other entries and the other
store, the time and the KWK are as they were, and key memories are good if they were. -/
structure State.Stores (s t : State) (ovr : Bool) (i : Nat) (v : KeySlot) : Prop where
  slot : ∃ mask, (ovr = false → mask = 0) ∧ t.slot ovr i = v.withKey v.key mask
  others : ∀ j, j ≠ i → t.slot ovr j = s.slot ovr j
  store : t.store (!ovr) = s.store (!ovr)
  clp : t.clp = s.clp
  kwk : t.grt.kwk = s.grt.kwk
  keys : KeysGood s → KeysGood t

/-- What follows a write and changes neither store. -/
theorem State.Stores.andThen {s t u : State} {ovr : Bool} {i : Nat} {v : KeySlot} (h : s.Stores t ovr i v)
    (hstore : ∀ o, u.store o = t.store o) (hclp : u.clp = t.clp) (hkwk : u.grt.kwk = t.grt.kwk) (hkeys : KeysGood t → KeysGood u) :
    s.Stores u ovr i v := by
  obtain ⟨mask, hmask, hslot⟩ := h.slot
  exact ⟨⟨mask, hmask, (slot_congr (hstore _) i).trans hslot⟩, fun j hj => (slot_congr (hstore _) j).trans (h.others j hj),
    (hstore _).trans h.store, hclp.trans h.clp, hkwk.trans h.kwk, fun hs => hkeys (h.keys hs)⟩

theorem State.Stores.andAlike {s t u : State} {ovr : Bool} {i : Nat} {v : KeySlot} (h : s.Stores t ovr i v) (hu : t.GrtAlike u) :
    s.Stores u ovr i v :=
  h.andThen (store_congr hu.grt) hu.clp hu.kwk hu.keys

/-- A write follows what changes neither store. -/
theorem State.GrtAlike.andStores {s t u : State} {ovr : Bool} {i : Nat} {v : KeySlot} (h : s.GrtAlike t) (hu : t.Stores u ovr i v) :
    s.Stores u ovr i v := by
  exact ⟨hu.slot, fun j hj => (hu.others j hj).trans (slot_congr (store_congr h.grt _) j), hu.store.trans (store_congr h.grt _),
    hu.clp.trans h.clp, hu.kwk.trans h.kwk, fun hs => hu.keys (h.keys hs)⟩

/-- Grotto's random source with another state. -/
def State.withSource (s : State) (key v n : Nat) : State := { s with grt := { s.grt with drbgKey := key, drbgV := v, requests := n } }

/-- A request of the random source changes the random source alone (R260). -/
theorem randN_eq (s : State) (n : Nat) : ∃ key v, s.randN n = ((s.randN n).1, s.withSource key v (s.grt.requests + 1)) := by
  rcases hd : drbgUpdate s.grt.drbgKey ((s.grt.drbgV + (n + 1) / 2) % 2 ^ 128) 0 with ⟨key, v⟩
  exact ⟨key, v, by simp only [State.randN, hd, State.withSource]⟩

/-- An override cell takes its mask from the random source, a group has none (R246). -/
theorem putSlot_eq (s : State) (ovr : Bool) (i : Nat) (x : KeySlot) : ∃ mask key v n, (ovr = false → mask = 0) ∧
    s.putSlot ovr i x = ((s.withSource key v n).setSlot ovr i (x.withKey x.key mask)).keyWrite (keyMem ovr) i := by
  cases ovr with
  | false => exact ⟨0, s.grt.drbgKey, s.grt.drbgV, s.grt.requests, fun _ => rfl, rfl⟩
  | true =>
    obtain ⟨key, v, hrand⟩ := randN_eq s 2
    exact ⟨(s.randN 2).1, key, v, s.grt.requests + 1, nofun, by simp only [State.putSlot, if_true]; rw [hrand]⟩

/-- A change of Grotto's own state leaves the key memories good. -/
theorem KeysGood.withGrt {s : State} (h : KeysGood s) (g : GrtState) : KeysGood { s with grt := g } := h

theorem setSlot_stores (s : State) (ovr : Bool) (i : Nat) (x : KeySlot) {mask : Nat} (hmask : ovr = false → mask = 0) (key v n : Nat) :
    s.Stores ((s.withSource key v n).setSlot ovr i (x.withKey x.key mask)) ovr i x := by
  obtain ⟨hself, hother⟩ := setSlot_store (s.withSource key v n) ovr i (x.withKey x.key mask)
  have hstore : ∀ o, (s.withSource key v n).store o = s.store o := fun _ => rfl
  refine ⟨⟨mask, hmask, ?_⟩, fun j hj => ?_, hother.trans (hstore _), ?_, ?_, ?_⟩
  · rw [slot_eq_getD, hself, SMap.getD_putD_self]
  · rw [slot_eq_getD, hself, SMap.getD_putD_ne _ _ _ _ hj, hstore, slot_eq_getD]
  · cases ovr <;> rfl
  · cases ovr <;> rfl
  · cases ovr <;> exact fun h => h.withGrt _

theorem putSlot_stores (s : State) (ovr : Bool) (i : Nat) (x : KeySlot) : s.Stores (s.putSlot ovr i x) ovr i x := by
  obtain ⟨mask, key, v, n, hmask, heq⟩ := putSlot_eq s ovr i x
  rw [heq]
  exact (setSlot_stores s ovr i x hmask key v n).andAlike (keyWrite_grtAlike ..)

/-- A sweep that begins changes neither store. -/
theorem State.Stores.andSweep {s t : State} {ovr : Bool} {i : Nat} {v : KeySlot} (h : s.Stores t ovr i v) (old : KeySlot) :
    s.Stores (t.invalidateKey ovr i old) ovr i v := by
  unfold State.invalidateKey
  split
  · exact h
  · exact h.andThen (fun _ => rfl) rfl rfl fun ht => ht.withGrt _

theorem storeSlot_stores (s : State) (ovr : Bool) (i : Nat) (v : KeySlot) : s.Stores (s.storeSlot ovr i v) ovr i v :=
  (putSlot_stores s ovr i v).andSweep _

/-- The sweep list after a write of an entry. -/
theorem putSlot_sweeps (s : State) (ovr : Bool) (i : Nat) (v : KeySlot) : (s.putSlot ovr i v).grt.sweeps = s.grt.sweeps := by
  obtain ⟨mask, key, w, n, -, heq⟩ := putSlot_eq s ovr i v
  rw [heq, (keyWrite_grtAlike ..).grt]
  cases ovr <;> rfl

/-- A live key that is replaced or erased starts a sweep (R253). -/
theorem storeSlot_sweeps {s : State} {ovr : Bool} {i : Nat} (hlive : (s.slot ovr i).state = 1) (v : KeySlot) :
    (s.storeSlot ovr i v).grt.sweeps =
      s.grt.sweeps ++ [⟨if ovr then none else some i, s.clp.now + 3000, (s.slot ovr i).key, s.clp.now⟩] := by
  simp only [State.storeSlot, State.invalidateKey, hlive, bne_self_eq_false, Bool.false_eq_true, if_false, putSlot_sweeps,
    (putSlot_stores s ovr i v).clp]

/-! ## Good key memories (R438, R439) -/

/-- The words of an entry lie in its memory. -/
theorem keyPlace_lt (s : State) {ovr : Bool} {i : Nat} (hi : ovr = false → i < 2 ^ 19) : 4 * s.keyPlace (keyMem ovr) i + 4 ≤ 2 ^ 21 := by
  cases ovr with
  | false =>
    have := hi rfl
    simp [State.keyPlace, keyMem]
    omega
  | true =>
    have := (Config.cellPerm s.grt.perm (Fin.ofNat 32768 i)).isLt
    simp [State.keyPlace, keyMem]
    omega

theorem keyMem_mem (ovr : Bool) : keyMem ovr ∈ keyMems := by cases ovr <;> decide

theorem memReads_of_good {s : State} {m : Nat} (n w : Nat) (h : ∀ k < n, s.eccOf m (w + k) = none ∧ s.memWord m (w + k) = 0) :
    s.memReads m w n = (List.replicate n 0, false, s) := by
  induction n generalizing w with
  | zero => rfl
  | succ n ih =>
    obtain ⟨hnone, hzero⟩ : s.eccOf m w = none ∧ s.memWord m w = 0 := h 0 (Nat.succ_pos n)
    have hrest := ih (w + 1) fun k hk => by simpa only [Nat.add_assoc, Nat.add_comm 1] using h (k + 1) (Nat.succ_lt_succ hk)
    simp [State.memReads, memRead_of_good hnone, hrest, hzero, WordRead.val, WordRead.isBad, List.replicate_succ]

section
variable {s : State} (hkeys : KeysGood s) {ovr : Bool} {i : Nat} (hi : ovr = false → i < 2 ^ 19)
include hkeys hi

/-- An entry of a good key memory is read as it is. -/
theorem keyRead_of_good (v : Nat) : s.keyRead (keyMem ovr) i v = (some v, s) := by
  have hplace := keyPlace_lt s hi
  have hread := memReads_of_good (s := s) 4 (4 * s.keyPlace (keyMem ovr) i) fun k hk => hkeys.2 _ (keyMem_mem ovr) _ (by omega)
  simp [State.keyRead, hread]

theorem storeKey_of_good : (s.storeKey ovr i).2 = s := by
  simp only [State.storeKey, keyRead_of_good hkeys hi]
  split <;> rfl

theorem readSlot_of_good : s.readSlot ovr i = ({ s.slot ovr i with epoch := (s.slot ovr i).epoch % 256 }, s) := by
  simp [State.readSlot, keyRead_of_good hkeys hi]

theorem bodyEntry_of_good (new : Option Nat) : (s.bodyEntry ovr new i).2 = s := by
  have hstore := storeKey_of_good hkeys hi
  rcases hkey : s.storeKey ovr i with ⟨a, u⟩
  rw [hkey] at hstore
  cases a <;> simpa only [State.bodyEntry, hkey] using hstore

end

theorem bodyEntries_of_good {s : State} (hkeys : KeysGood s) {ovr : Bool} (new : Option Nat) (is : List Nat)
    (his : ∀ i ∈ is, ovr = false → i < 2 ^ 19) : (s.bodyEntries ovr new is).2 = s := by
  induction is with
  | nil => rfl
  | cons i is ih =>
    have hhead := bodyEntry_of_good hkeys (his i (by simp)) new
    simp only [State.bodyEntries, hhead]
    exact ih fun k hk => his k (by simp [hk])

/-- TYPE of the pages of a key store (R236). -/
def pageType (ovr : Bool) : Nat := if ovr then 3 else 2

/-- How many entries a page holds (R236). -/
def pageLen (ovr : Bool) : Nat := if ovr then 1024 else 256

theorem pageSpan_pageType (ovr : Bool) (page : Nat) : pageSpan (pageType ovr) page = (pageLen ovr * page, pageLen ovr) := by
  cases ovr <;> rfl

theorem pageType_ovr (ovr : Bool) : (pageType ovr == 3) = ovr := by cases ovr <;> rfl

/-- The output of a page body reads good key memories, and leaves a page hand-over pending (R240, R241). -/
theorem pageBody_of_good {s : State} (hkeys : KeysGood s) {ovr : Bool} {page : Nat} (hpage : ovr = false → page < 64) (new : Option Nat) :
    ∃ exp, (s.pageBody (pageType ovr) page new).2 =
      { s with grt := { s.grt with exports := SMap.put s.grt.exports (64 * pageType ovr + page) exp } } := by
  have hentries := bodyEntries_of_good hkeys (ovr := ovr) new ((List.range (pageLen ovr)).map (pageLen ovr * page + ·)) fun i hi hfalse => by
    subst hfalse
    have := hpage rfl
    simp only [pageLen, List.mem_map, List.mem_range, Bool.false_eq_true, if_false] at hi
    omega
  simp only [State.pageBody, pageSpan_pageType, pageType_ovr, hentries]
  exact ⟨_, rfl⟩

end Sys2Proof.Machine
end

section
/-! PROOFS. Grotto's commands (R239–R242, R249, R250, R253): a write of GRT_CMD, and what each command leaves in the key store. -/

namespace Sys2Proof.Machine

/-! ## A write of GRT_CMD (R239, R240) -/

/-- Grotto's commands at one INDEX, each with its OP (R240). -/
def grtCommands (i : Nat) : List (Instr × Nat) :=
  [(.recon i, 1), (.enrol i, 2), (.refresh i, 3), (.sealRoot i, 4), (.grtLoad i, 5), (.provision i, 6), (.rekeyNet i, 7), (.importGroup i, 8),
    (.retireGroup i, 9), (.importOvr i, 10), (.clearOvr i, 11), (.exportPage i, 12), (.floorCommit i, 13), (.attest i, 14), (.grtBlow i, 15),
    (.debugExport i, 16)]

theorem exec_grtCommand (s : State) (i : Nat) : ∀ p ∈ grtCommands i, exec p.1 s = .next (s.powered fun s => s.grtCmdWrite p.2 i) := by
  simp only [grtCommands, List.forall_mem_cons]
  exact ⟨rfl, rfl, rfl, rfl, rfl, rfl, rfl, rfl, rfl, rfl, rfl, rfl, rfl, rfl, rfl, rfl, nofun⟩

/-- A command completes as the write of its OP and INDEX does. -/
theorem completes_of_grtCmdWrite {s : State} {c : Instr} {op i : Nat} {P : State → Prop} (hc : (c, op) ∈ grtCommands i)
    (hr : s.released = true) (h : P (s.grtCmdWrite op i)) : Completes c s P :=
  completes_of_powered hr (exec_grtCommand s i _ hc) h

/-- A refused command has the reason of its refusal, and no output (R240). -/
theorem grtCmdWrite_refused {s : State} {op i r : Nat} (hidle : s.flag F.GRT_CMD_STAT_BUSY = false)
    (href : s.fresh.2.grtRefusal op i = some r) : ∃ c, s.grtCmdWrite op i = s.fresh.2.grtStart c ∧
      (c.op, c.index, c.ok, c.reason, c.out) = (op, i, false, r, []) := by
  simp only [State.grtCmdWrite, hidle, href, Bool.false_eq_true, if_false]
  exact ⟨_, rfl, rfl⟩

/-- An accepted command has its effect, and runs until its time is up; with a key that does not unwrap its REASON is 4 (R240). -/
theorem grtCmdWrite_accepted {s u : State} {op i : Nat} {o : Option (List Byte)} (hidle : s.flag F.GRT_CMD_STAT_BUSY = false)
    (href : s.fresh.2.grtRefusal op i = none) (hrun : (s.fresh.2.reconInput op).2.grtRun op i = (o, u)) :
    ∃ c, s.grtCmdWrite op i = u.grtStart c ∧ c.op = op ∧ c.index = i ∧ c.due = s.clp.now + s.fresh.1 % (grtBound op i + 1) ∧
      c.ok = o.isSome ∧ c.reason = if o.isSome then 0 else 4 := by
  simp only [State.grtCmdWrite, hidle, href, Bool.false_eq_true, if_false, hrun]
  cases o <;> exact ⟨_, rfl, rfl, rfl, rfl, rfl, rfl⟩

/-- Every command but RECON has its effect on the state that the write finds. -/
theorem grtCmdWrite_runs {s u : State} {op i : Nat} {o : Option (List Byte)} (hidle : s.flag F.GRT_CMD_STAT_BUSY = false)
    (href : s.fresh.2.grtRefusal op i = none) (hop : op ≠ 1) (hrun : s.fresh.2.grtRun op i = (o, u)) :
    ∃ c, s.grtCmdWrite op i = u.grtStart c ∧ c.op = op ∧ c.ok = o.isSome ∧ c.reason = if o.isSome then 0 else 4 := by
  have hinput : (s.fresh.2.reconInput op).2 = s.fresh.2 := by simp [State.reconInput, hop]
  obtain ⟨c, hw, hcop, -, -, hok, hreason⟩ := grtCmdWrite_accepted hidle href (hinput.symm ▸ hrun)
  exact ⟨c, hw, hcop, hok, hreason⟩

theorem flag_grtStart_busy (s : State) (c : GrtCmd) : (s.grtStart c).flag F.GRT_CMD_STAT_BUSY = true :=
  flag_setFld_cond _ F.GRT_CMD_STAT_BUSY true 0 0 (by decide) rfl

theorem reg_grtStart (s : State) (c : GrtCmd) {id : RegId} (i j : Nat) (h : id ≠ .GRT_CMD_STAT) : (s.grtStart c).reg id i j = s.reg id i j :=
  (reg_setReg_id _ _ _ _ _ _ h).trans rfl

theorem flag_grtStart (s : State) (c : GrtCmd) {g : Fld} (i j : Nat) (h : g.reg ≠ .GRT_CMD_STAT) : (s.grtStart c).flag g i j = s.flag g i j :=
  flag_of_reg (reg_grtStart s c i j h)

@[simp] theorem grtStart_grt (s : State) (c : GrtCmd) : (s.grtStart c).grt = { s.grt with cmd := some c } := rfl

/-- A command that is accepted has an INDEX in its range, and nothing of its own row against it (R240). -/
theorem accepted_of_no_refusal {s : State} {op i : Nat} (h : s.grtRefusal op i = none) : grtIndexOk op i = true ∧ s.grtRowRefusal op i = none := by
  unfold State.grtRefusal at h
  split at h
  · cases h
  · split at h
    · cases h
    · rename_i hindex
      split at h
      · cases h
      · exact ⟨by simpa using hindex, h⟩

section
variable {s : State} {i : Nat} (hidle : s.flag F.GRT_CMD_STAT_BUSY = false) (hr : s.released = true)
include hidle hr

theorem grtCommand_runs_completes {c : Instr} {op : Nat} (hc : (c, op) ∈ grtCommands i) (href : s.fresh.2.grtRefusal op i = none) :
    Completes c s fun t => t.flag F.GRT_CMD_STAT_BUSY = true ∧ ∃ c, t.grt.cmd = some c ∧ c.op = op ∧ c.index = i ∧
      s.clp.now ≤ c.due ∧ c.due ≤ s.clp.now + grtBound op i ∧ (c.ok = true ∧ c.reason = 0 ∨ c.ok = false ∧ c.reason = 4) := by
  rcases hrun : (s.fresh.2.reconInput op).2.grtRun op i with ⟨o, u⟩
  obtain ⟨x, hw, hop, hindex, hdue, hok, hreason⟩ := grtCmdWrite_accepted hidle href hrun
  refine completes_of_grtCmdWrite hc hr ?_
  rw [hw]
  refine ⟨flag_grtStart_busy _ _, x, rfl, hop, hindex, ?_, ?_, ?_⟩
  · omega
  · have : s.fresh.1 % (grtBound op i + 1) < grtBound op i + 1 := Nat.mod_lt _ (Nat.succ_pos _)
    omega
  · rw [hok, hreason]
    cases o <;> simp

theorem grtCommand_refused_completes {c : Instr} {op r : Nat} (hc : (c, op) ∈ grtCommands i) (href : s.fresh.2.grtRefusal op i = some r) :
    Completes c s fun t => t.grt.cmd.map (fun c => (c.op, c.index, c.ok, c.reason, c.out)) = some (op, i, false, r, []) ∧
      t.mem = s.mem ∧ t.grt.netKey = s.grt.netKey ∧ t.grt.groups = s.grt.groups ∧ t.grt.ovrs = s.grt.ovrs := by
  obtain ⟨x, hw, hx⟩ := grtCmdWrite_refused hidle href
  refine completes_of_grtCmdWrite hc hr ?_
  rw [hw]
  exact ⟨congrArg some hx, rfl, rfl, rfl, rfl⟩

/-- A command completes with what its effect leaves, beside the record of the command itself. -/
theorem completes_of_grtRun {c : Instr} {op : Nat} {o : Option (List Byte)} {u : State} {P : State → Prop} (hc : (c, op) ∈ grtCommands i)
    (href : s.fresh.2.grtRefusal op i = none) (hop : op ≠ 1) (hrun : s.fresh.2.grtRun op i = (o, u)) (h : ∀ x, P (u.grtStart x)) :
    Completes c s P := by
  obtain ⟨x, hw, -⟩ := grtCmdWrite_runs hidle href hop hrun
  exact completes_of_grtCmdWrite hc hr (hw ▸ h x)

end

theorem recon_ignored_completes {s : State} (i : Nat) (hbusy : s.flag F.GRT_CMD_STAT_BUSY = true) (hr : s.released = true) :
    Completes (.recon i) s fun t => t = s.raise F.GRT_EVT_CMD_IGNORED :=
  completes_of_grtCmdWrite (i := i) (op := 1) (by simp [grtCommands]) hr (if_pos hbusy)

/-! ## SEAL_ROOT and BLOW (R230, R240) -/

section
variable {s : State} (hidle : s.flag F.GRT_CMD_STAT_BUSY = false) (hr : s.released = true)
include hidle hr

theorem sealRoot_completes {i : Nat} (href : s.fresh.2.grtRefusal 4 i = none) :
    Completes (.sealRoot i) s fun t => t.grt.msgs = none ∧ t.flag F.GRT_STAT_MSG_HELD = false := by
  refine completes_of_grtRun hidle hr (by simp [grtCommands]) href (by decide) rfl fun x => ⟨rfl, ?_⟩
  rw [flag_grtStart _ _ _ _ (by decide)]
  exact flag_setFld_cond _ F.GRT_STAT_MSG_HELD false 0 0 (by decide) rfl

theorem grtBlow_completes (href : s.fresh.2.grtRefusal 15 0 = none) :
    Completes (.grtBlow 0) s fun t => t.grt.provLock = true ∧ t.grt.dbgLock = s.grt.dbgLock ∧ t.grt.jtagLock = s.grt.jtagLock :=
  completes_of_grtRun hidle hr (by simp [grtCommands]) href (by decide) rfl fun _ => ⟨rfl, rfl, rfl⟩

end

/-! ## The device keys (R236, R240, R241) -/

/-- The keys held show in GRT_STAT. -/
theorem showKeys_flags (s : State) : s.showKeys.flag F.GRT_STAT_NET_KEY = s.grt.netKey.isSome ∧
    s.showKeys.flag F.GRT_STAT_ATT_KEY = s.grt.attKey.isSome := by
  refine ⟨?_, flag_setFld_cond _ _ _ _ _ (by decide) rfl⟩
  rw [State.showKeys, State.flag, fld_setFld_disjoint _ _ _ _ _ _ (by decide) (by decide)]
  exact flag_setFld_cond _ _ _ _ _ (by decide) rfl

/-- The device keys replaced (R236). -/
def State.withDevKeys (s : State) (net att : Option Nat) : State := { s with grt := { s.grt with netKey := net, attKey := att } }

/-- What a command that replaces the device keys leaves. -/
theorem grtStart_devKeys {s u : State} (hu : s.GrtAlike u) (net att : Option Nat) (x : GrtCmd) :
    let t := (u.withDevKeys net att).showKeys.grtStart x
    t.grt.netKey = net ∧ t.grt.attKey = att ∧ t.flag F.GRT_STAT_NET_KEY = net.isSome ∧ t.flag F.GRT_STAT_ATT_KEY = att.isSome ∧
      t.grt.groups = s.grt.groups ∧ t.grt.ovrs = s.grt.ovrs := by
  obtain ⟨hnet, hatt⟩ := showKeys_flags (u.withDevKeys net att)
  exact ⟨rfl, rfl, (flag_grtStart _ _ _ _ (by decide)).trans hnet, (flag_grtStart _ _ _ _ (by decide)).trans hatt, hu.groups, hu.ovrs⟩

theorem unwrapFail_grtAlike (s : State) (v : Nat) : s.GrtAlike (s.unwrapFail v) :=
  .trans (.raise (by decide) <| .bump (by decide) <| .refl s) (siltPost_grtAlike ..)

theorem loadDevKey_grtAlike (s : State) (c : List Byte) : s.GrtAlike (s.loadDevKey c).2 := by
  unfold State.loadDevKey
  split
  · exact .refl s
  · split
    · exact .refl s
    · exact (fresh_grtAlike s).trans (unwrapFail_grtAlike s.fresh.2 s.fresh.1)

section
variable {s : State} (hidle : s.flag F.GRT_CMD_STAT_BUSY = false) (hr : s.released = true)
include hidle hr

theorem grtLoad_device_completes {u v w : State} {b : List Byte} {net att : Option Nat} (href : s.fresh.2.grtRefusal 5 64 = none)
    (hin : s.fresh.2.grtInput 64 = (b, u)) (hnet : u.loadDevKey (b.take 24) = (net, v)) (hatt : v.loadDevKey (sliceOf b 24 40) = (att, w)) :
    Completes (.grtLoad 64) s fun t => t.grt.netKey = net ∧ t.grt.attKey = att ∧ t.flag F.GRT_STAT_NET_KEY = net.isSome ∧
      t.flag F.GRT_STAT_ATT_KEY = att.isSome ∧ t.grt.groups = s.grt.groups ∧ t.grt.ovrs = s.grt.ovrs := by
  have hu : s.GrtAlike u := by simpa only [hin] using (fresh_grtAlike s).trans (grtInput_grtAlike s.fresh.2 64)
  have hv : u.GrtAlike v := by simpa only [hnet] using loadDevKey_grtAlike u (b.take 24)
  have hw : v.GrtAlike w := by simpa only [hatt] using loadDevKey_grtAlike v (sliceOf b 24 40)
  have hrun : s.fresh.2.grtRun 5 64 = (some [], (w.withDevKeys net att).showKeys) := by
    simp only [State.grtRun, if_true, hin, State.loadBody, hnet, hatt]
    rfl
  exact completes_of_grtRun hidle hr (by simp [grtCommands]) href (by decide) hrun (grtStart_devKeys ((hu.trans hv).trans hw) net att)

theorem provision_net_completes {u : State} {b : List Byte} (href : s.fresh.2.grtRefusal 6 0 = none) (hin : s.fresh.2.grtInput 16 = (b, u)) :
    Completes (.provision 0) s fun t => t.grt.netKey = some (ofBe b) ∧ t.grt.attKey = s.grt.attKey ∧ t.flag F.GRT_STAT_NET_KEY = true := by
  have hu : s.GrtAlike u := by simpa only [hin] using (fresh_grtAlike s).trans (grtInput_grtAlike s.fresh.2 16)
  have hrun : ∃ out, s.fresh.2.grtRun 6 0 = (some out, (u.withDevKeys (some (ofBe b)) u.grt.attKey).showKeys) := by
    simp only [State.grtRun, if_true, hin]
    exact ⟨_, rfl⟩
  obtain ⟨out, hrun⟩ := hrun
  refine completes_of_grtRun hidle hr (by simp [grtCommands]) href (by decide) hrun fun x => ?_
  obtain ⟨hnet, hatt, hflag, -⟩ := grtStart_devKeys hu (some (ofBe b)) u.grt.attKey x
  exact ⟨hnet, hatt.trans hu.attKey, hflag⟩

theorem provision_att_completes {u : State} {b : List Byte} (href : s.fresh.2.grtRefusal 6 1 = none) (hin : s.fresh.2.grtInput 32 = (b, u)) :
    Completes (.provision 1) s fun t => t.grt.attKey = some (ofBe b) ∧ t.grt.netKey = s.grt.netKey ∧ t.flag F.GRT_STAT_ATT_KEY = true := by
  have hu : s.GrtAlike u := by simpa only [hin] using (fresh_grtAlike s).trans (grtInput_grtAlike s.fresh.2 32)
  have hrun : ∃ out, s.fresh.2.grtRun 6 1 = (some out, (u.withDevKeys u.grt.netKey (some (ofBe b))).showKeys) := by
    simp only [State.grtRun, if_neg Nat.one_ne_zero, hin]
    exact ⟨_, rfl⟩
  obtain ⟨out, hrun⟩ := hrun
  refine completes_of_grtRun hidle hr (by simp [grtCommands]) href (by decide) hrun fun x => ?_
  obtain ⟨hnet, hatt, -, hflag, -⟩ := grtStart_devKeys hu u.grt.netKey (some (ofBe b)) x
  exact ⟨hatt, hnet.trans hu.netKey, hflag⟩

/-! ## Keys that come under the network key (R240) -/

theorem rekeyNet_completes {u : State} {i k : Nat} (href : s.fresh.2.grtRefusal 7 i = none) (hkey : s.fresh.2.grtTransported = (some k, u)) :
    Completes (.rekeyNet i) s fun t => t.grt.netKey = some k ∧ t.grt.attKey = s.grt.attKey ∧ t.grt.groups = s.grt.groups ∧
      t.grt.ovrs = s.grt.ovrs := by
  have hu : s.GrtAlike u := by simpa only [hkey] using (fresh_grtAlike s).trans (grtTransported_grtAlike s.fresh.2)
  have hrun : ∃ out, s.fresh.2.grtRun 7 i = (some out, u.withDevKeys (some k) u.grt.attKey) := by
    simp only [State.grtRun, hkey]
    exact ⟨_, rfl⟩
  obtain ⟨out, hrun⟩ := hrun
  exact completes_of_grtRun hidle hr (by simp [grtCommands]) href (by decide) hrun fun _ => ⟨rfl, hu.attKey, hu.groups, hu.ovrs⟩

/-- A key that does not unwrap changes no key (R240). -/
theorem transport_fails_completes {u : State} {c : Instr} {op i : Nat} (hkey : s.fresh.2.grtTransported = (none, u))
    (hc : (c, op) ∈ [(Instr.rekeyNet i, 7), (.importGroup i, 8), (.importOvr i, 10)]) (href : s.fresh.2.grtRefusal op i = none) :
    Completes c s fun t => t.grt.cmd.map (fun c => (c.op, c.ok, c.reason)) = some (op, false, 4) ∧ t.grt.netKey = s.grt.netKey ∧
      t.grt.groups = s.grt.groups ∧ t.grt.ovrs = s.grt.ovrs := by
  have hu : s.GrtAlike u := by simpa only [hkey] using (fresh_grtAlike s).trans (grtTransported_grtAlike s.fresh.2)
  have hwhich : (c, op) ∈ grtCommands i ∧ op ≠ 1 ∧ s.fresh.2.grtRun op i = (none, u) := by
    simp only [List.mem_cons, Prod.mk.injEq, List.not_mem_nil, or_false] at hc
    obtain ⟨rfl, rfl⟩ | ⟨rfl, rfl⟩ | ⟨rfl, rfl⟩ := hc <;> simp [grtCommands, State.grtRun, State.grtImport, hkey]
  obtain ⟨hmem, hop, hrun⟩ := hwhich
  obtain ⟨x, hw, hxop, hok, hreason⟩ := grtCmdWrite_runs hidle href hop hrun
  refine completes_of_grtCmdWrite hmem hr ?_
  rw [hw]
  exact ⟨by simp [hxop, hok, hreason], hu.netKey, hu.groups, hu.ovrs⟩

end

end Sys2Proof.Machine
end

section
/-! PROOFS. `Obligations.GrottoCommands`: the commands on the key store (R241, R242, R249, R250, R253) and GRT_CMD_DONE (R239). -/

namespace Sys2Proof.Machine

/-! ## Import, retirement and clear (R242, R253) -/

/-- The EPOCH that follows is the same however the one read is cut to its byte. -/
theorem nextEpoch_mod (e : KeySlot) : nextEpoch { e with epoch := e.epoch % 256 } = nextEpoch e := by simp [nextEpoch]

/-- An entry as an import of key `k` writes it (R242, R250). -/
def importedSlot (e : KeySlot) (k : Nat) : KeySlot := { e.withKey k 0 with epoch := nextEpoch e, state := 1, ctr := 1, pending := true }

/-- An entry as a retirement or a clear writes it (R242). -/
def retiredSlot (e : KeySlot) : KeySlot := { e.withKey 0 0 with epoch := nextEpoch e, state := 2 }

/-- A group holds what is written. -/
theorem State.Stores.grp {s t : State} {i : Nat} {v : KeySlot} (h : s.Stores t false i v) (hmask : v.mask = 0) : t.grp i = v := by
  obtain ⟨mask, hzero, hslot⟩ := h.slot
  refine Eq.trans hslot ?_
  rw [hzero rfl]
  cases v
  simp_all [KeySlot.withKey, KeySlot.key]

section
variable {s : State} (hkeys : KeysGood s) {ovr : Bool} {i : Nat} (hi : ovr = false → i < 4096)
include hkeys hi

theorem importKey_of_good (k : Nat) : s.importKey ovr i k = s.storeSlot ovr i (importedSlot (s.slot ovr i) k) := by
  rw [State.importKey, readSlot_of_good hkeys fun h => (hi h).trans (by decide)]
  simp only [nextEpoch_mod]
  rfl

theorem retireKey_of_good : s.retireKey ovr i = s.storeSlot ovr i (retiredSlot (s.slot ovr i)) := by
  rw [State.retireKey, readSlot_of_good hkeys fun h => (hi h).trans (by decide)]
  simp only [nextEpoch_mod]
  rfl

/-- An entry is written and its page body output (R241, R242): the entry holds what is written, a live key that it held before starts a sweep, and
the page has a pending hand-over. -/
theorem storeSlot_pageBody (v : KeySlot) (new : Option Nat) :
    let t := ((s.storeSlot ovr i v).pageBody (pageType ovr) (i / pageLen ovr) new).2
    s.Stores t ovr i v ∧ (SMap.find? t.grt.exports (64 * pageType ovr + i / pageLen ovr)).isSome = true ∧
      ((s.slot ovr i).state = 1 → t.grt.sweeps =
        s.grt.sweeps ++ [⟨if ovr then none else some i, s.clp.now + 3000, (s.slot ovr i).key, s.clp.now⟩]) := by
  have hstored := storeSlot_stores s ovr i v
  have hpage : ovr = false → i / pageLen ovr < 64 := by
    rintro rfl
    exact Nat.div_lt_of_lt_mul ((hi rfl).trans (by decide))
  obtain ⟨exp, hbody⟩ := pageBody_of_good (hstored.keys hkeys) hpage new
  simp only [hbody]
  exact ⟨hstored.andThen (fun _ => rfl) rfl rfl fun h => h.withGrt _, by rw [SMap.find?_put_self]; rfl, fun hlive => storeSlot_sweeps hlive v⟩

end

/-- A command's record changes neither store. -/
theorem State.Stores.andStart {s t : State} {ovr : Bool} {i : Nat} {v : KeySlot} (h : s.Stores t ovr i v) (x : GrtCmd) :
    s.Stores (t.grtStart x) ovr i v :=
  h.andThen (fun _ => rfl) rfl rfl fun ht =>
    (((State.GrtAlike.refl _).setFld (f := F.GRT_CMD_STAT_BUSY) (by decide)).keys (ht.withGrt _))

/-- The store that a group's command leaves alone is that of the override cells, and the other way about. -/
theorem State.Stores.ovrs {s t : State} {i : Nat} {v : KeySlot} (h : s.Stores t false i v) : t.grt.ovrs = s.grt.ovrs := h.store
theorem State.Stores.groups {s t : State} {i : Nat} {v : KeySlot} (h : s.Stores t true i v) : t.grt.groups = s.grt.groups := h.store

/-- An import whose key unwraps outputs the page body of its store (R241, R242). -/
theorem grtImport_of_key {s u : State} {k : Nat} (hkey : s.grtTransported = (some k, u)) (ovr : Bool) (i : Nat) : ∃ out,
    s.grtImport ovr i = (some out, ((u.importKey ovr i k).pageBody (pageType ovr) (i / pageLen ovr) (some i)).2) := by
  have hpage : (if ovr = true then i / 1024 else i / 256) = i / pageLen ovr := by cases ovr <;> rfl
  have htype : (if ovr = true then 3 else 2) = pageType ovr := rfl
  simp only [State.grtImport, hkey, hpage, htype]
  generalize (u.importKey ovr i k).pageBody (pageType ovr) (i / pageLen ovr) (some i) = p
  exact ⟨_, rfl⟩

theorem grtRun_retireGroup (s : State) (i : Nat) : ∃ out,
    s.grtRun 9 i = (some out, ((s.retireKey false i).pageBody 2 (i / 256) none).2) := by
  simp only [State.grtRun]
  generalize (s.retireKey false i).pageBody 2 (i / 256) none = p
  exact ⟨_, rfl⟩

theorem grtRun_clearOvr (s : State) (i : Nat) : ∃ out,
    s.grtRun 11 i = (some out, ((s.retireKey true i).pageBody 3 (i / 1024) none).2) := by
  simp only [State.grtRun]
  generalize (s.retireKey true i).pageBody 3 (i / 1024) none = p
  exact ⟨_, rfl⟩

section
variable {s : State} {i : Nat} (hidle : s.flag F.GRT_CMD_STAT_BUSY = false) (hr : s.released = true) (hkeys : KeysGood s)
include hidle hr hkeys

/-- An import command of either store completes with its key written, and a hand-over pending for its page. -/
theorem import_completes {u : State} {ovr : Bool} {k : Nat} {P : State → Prop} {c : Instr} {op : Nat} (hc : (c, op) ∈ grtCommands i)
    (href : s.fresh.2.grtRefusal op i = none) (hop : op ≠ 1) (hrun : s.fresh.2.grtRun op i = s.fresh.2.grtImport ovr i)
    (hi : ovr = false → i < 4096) (hkey : s.fresh.2.grtTransported = (some k, u))
    (h : ∀ t : State, s.Stores t ovr i (importedSlot (s.slot ovr i) k) →
      (SMap.find? t.grt.exports (64 * pageType ovr + i / pageLen ovr)).isSome = true → P t) : Completes c s P := by
  have hu : s.GrtAlike u := by simpa only [hkey] using (fresh_grtAlike s).trans (grtTransported_grtAlike s.fresh.2)
  have hslot : u.slot ovr i = s.slot ovr i := slot_congr (store_congr hu.grt _) i
  obtain ⟨hstored, hexport, -⟩ := storeSlot_pageBody (hu.keys hkeys) hi (importedSlot (u.slot ovr i) k) (some i)
  rw [hslot] at hstored hexport
  obtain ⟨out, himport⟩ := grtImport_of_key hkey ovr i
  rw [importKey_of_good (hu.keys hkeys) hi, hslot] at himport
  exact completes_of_grtRun hidle hr hc href hop (hrun.trans himport) fun x => h _ ((hu.andStores hstored).andStart x) hexport

/-- A retirement or a clear completes with its entry retired, and a sweep for its key. -/
theorem retire_completes {ovr : Bool} {P : State → Prop} {c : Instr} {op : Nat} (hc : (c, op) ∈ grtCommands i)
    (href : s.fresh.2.grtRefusal op i = none) (hop : op ≠ 1) (hrun : ∃ out, s.fresh.2.grtRun op i =
      (some out, ((s.fresh.2.retireKey ovr i).pageBody (pageType ovr) (i / pageLen ovr) none).2))
    (hi : ovr = false → i < 4096) (hlive : (s.slot ovr i).state = 1)
    (h : ∀ t : State, s.Stores t ovr i (retiredSlot (s.slot ovr i)) → t.grt.sweeps =
        s.grt.sweeps ++ [⟨if ovr then none else some i, s.clp.now + 3000, (s.slot ovr i).key, s.clp.now⟩] → P t) : Completes c s P := by
  have hfresh := fresh_grtAlike s
  have hslot : s.fresh.2.slot ovr i = s.slot ovr i := slot_congr (store_congr hfresh.grt _) i
  obtain ⟨hstored, -, hsweep⟩ := storeSlot_pageBody (hfresh.keys hkeys) hi (retiredSlot (s.fresh.2.slot ovr i)) none
  obtain ⟨out, hrun⟩ := hrun
  rw [retireKey_of_good (hfresh.keys hkeys) hi] at hrun
  exact completes_of_grtRun hidle hr hc href hop hrun fun x => h _ ((hfresh.andStores hstored).andStart x) (hsweep hlive)

theorem importGroup_completes {u : State} {k : Nat} (href : s.fresh.2.grtRefusal 8 i = none)
    (hkey : s.fresh.2.grtTransported = (some k, u)) : Completes (.importGroup i) s fun t =>
      t.grp i = { (s.grp i).withKey k 0 with epoch := nextEpoch (s.grp i), state := 1, ctr := 1, pending := true } ∧
        (∀ g, g ≠ i → t.grp g = s.grp g) ∧ t.grt.ovrs = s.grt.ovrs ∧ (SMap.find? t.grt.exports (128 + i / 256)).isSome = true := by
  obtain ⟨hindex, -⟩ := accepted_of_no_refusal href
  exact import_completes (ovr := false) hidle hr hkeys (by simp [grtCommands]) href (by decide) rfl (fun _ => of_decide_eq_true hindex) hkey
    fun t ht hexport => ⟨ht.grp rfl, ht.others, ht.ovrs, hexport⟩

theorem importOvr_completes {u : State} {k : Nat} (href : s.fresh.2.grtRefusal 10 i = none)
    (hkey : s.fresh.2.grtTransported = (some k, u)) : Completes (.importOvr i) s fun t =>
      (∃ m, t.cell i = { (s.cell i).withKey k m with epoch := nextEpoch (s.cell i), state := 1, ctr := 1, pending := true }) ∧
        (∀ q, q ≠ i → t.cell q = s.cell q) ∧ t.grt.groups = s.grt.groups ∧ (SMap.find? t.grt.exports (192 + i / 1024)).isSome = true := by
  refine import_completes (ovr := true) hidle hr hkeys (by simp [grtCommands]) href (by decide) rfl nofun hkey
    fun t ht hexport => ⟨?_, ht.others, ht.groups, hexport⟩
  obtain ⟨m, -, hslot⟩ := ht.slot
  exact ⟨m, hslot.trans (by simp [importedSlot, KeySlot.withKey, KeySlot.key, State.slot])⟩

theorem retireGroup_completes (href : s.fresh.2.grtRefusal 9 i = none) : Completes (.retireGroup i) s fun t =>
    t.grp i = { (s.grp i).withKey 0 0 with epoch := nextEpoch (s.grp i), state := 2 } ∧ (∀ g, g ≠ i → t.grp g = s.grp g) ∧
      t.grt.ovrs = s.grt.ovrs ∧ t.grt.sweeps = s.grt.sweeps ++ [⟨some i, s.clp.now + 3000, (s.grp i).key, s.clp.now⟩] := by
  obtain ⟨hindex, hrow⟩ := accepted_of_no_refusal href
  have hlive : (s.fresh.2.grp i).state = 1 := by simpa [State.grtRowRefusal] using hrow
  exact retire_completes (ovr := false) hidle hr hkeys (by simp [grtCommands]) href (by decide)
    (grtRun_retireGroup ..) (fun _ => of_decide_eq_true hindex) hlive
    fun t ht hsweep => ⟨ht.grp rfl, ht.others, ht.ovrs, hsweep⟩

theorem clearOvr_completes (href : s.fresh.2.grtRefusal 11 i = none) : Completes (.clearOvr i) s fun t =>
    (∃ m, t.cell i = { (s.cell i).withKey 0 m with epoch := nextEpoch (s.cell i), state := 2 }) ∧ (∀ q, q ≠ i → t.cell q = s.cell q) ∧
      t.grt.groups = s.grt.groups ∧ t.grt.sweeps = s.grt.sweeps ++ [⟨none, s.clp.now + 3000, (s.cell i).key, s.clp.now⟩] := by
  obtain ⟨-, hrow⟩ := accepted_of_no_refusal href
  have hlive : (s.fresh.2.cell i).state = 1 := by simpa [State.grtRowRefusal] using hrow
  refine retire_completes (ovr := true) hidle hr hkeys (by simp [grtCommands]) href (by decide) (grtRun_clearOvr ..) nofun hlive
    fun t ht hsweep => ⟨?_, ht.others, ht.groups, hsweep⟩
  obtain ⟨m, -, hslot⟩ := ht.slot
  exact ⟨m, hslot.trans (by simp [retiredSlot, KeySlot.withKey, KeySlot.key, State.slot])⟩

end

end Sys2Proof.Machine
end

section
/-! PROOFS. `Obligations.GrottoCommands`: the commands on the pages of the key store (R236, R240, R241, R249, R250) and GRT_CMD_DONE (R239). -/

namespace Sys2Proof.Machine

/-! ## An entry of a page body that is installed (R241, R249) -/

/-- `e` is what the 32 bytes `c` of a page body give an entry under a KWK; PENDING stays (R241, R249, R250). -/
def LoadedEntry (kwk : Option Nat) (c : List Byte) (pending : Bool) (e : KeySlot) : Prop :=
  e.pending = pending ∧
  (∀ key, byteAt c 25 = 1 → keyUnwrap (keyBytes (kwk.getD 0)) (c.take 24) = some key →
    e.key = ofBe key ∧ e.state = 1 ∧ e.epoch = byteAt c 24 ∧ e.floor = ofLe (sliceOf c 28 4) ∧ e.ctr = e.floor) ∧
  (byteAt c 25 = 1 → keyUnwrap (keyBytes (kwk.getD 0)) (c.take 24) = none → e.key = 0 ∧ e.state = 0 ∧ e.epoch = 0) ∧
  (byteAt c 25 = 2 → e.key = 0 ∧ e.state = 2 ∧ e.epoch = byteAt c 24)

/-- A mask hides a loaded key and nothing else. -/
theorem LoadedEntry.masked {kwk : Option Nat} {c : List Byte} {pending : Bool} {e : KeySlot} (h : LoadedEntry kwk c pending e) (m : Nat) :
    LoadedEntry kwk c pending (e.withKey e.key m) := by
  unfold LoadedEntry at h ⊢
  rw [withKey_key]
  exact h

theorem floorDue_grtAlike (s : State) (bit : Nat) : s.GrtAlike (s.floorDue bit) := .raise (by decide) <| .setReg (by decide) <| .refl s

theorem counterMarks_grtAlike (s : State) (ovr : Bool) (i : Nat) : s.GrtAlike (s.counterMarks ovr i) := by
  unfold State.counterMarks
  dsimp only
  split
  · exact .refl s
  · exact .on (fun t => .raise (by decide) (.refl t)) <| .on (fun t => floorDue_grtAlike t _) <| .refl s

theorem byteAt_bits (b : List Byte) (o : Nat) : bits (byteAt b o) 0 8 = byteAt b o := by
  simpa [bits, byteAt] using Nat.mod_eq_of_lt (b.getD o 0).isLt

/-- An entry that is installed. -/
theorem loadEntry_stores (s : State) (ovr : Bool) (i : Nat) (c : List Byte) :
    ∃ v, s.Stores (s.loadEntry ovr i c) ovr i v ∧ LoadedEntry s.grt.kwk c (s.slot ovr i).pending v := by
  simp only [State.loadEntry, byteAt_bits]
  split
  case h_1 hst =>
    split
    case h_1 k hkey =>
      refine ⟨_, (storeSlot_stores ..).andAlike (counterMarks_grtAlike ..), rfl, fun key _ h => ?_, fun _ h => ?_, fun h => ?_⟩
      · cases hkey.symm.trans h
        exact ⟨by simp [KeySlot.key, KeySlot.withKey], rfl, rfl, rfl, rfl⟩
      · cases hkey.symm.trans h
      · omega
    case h_2 hkey =>
      refine ⟨_, (storeSlot_stores ..).andAlike (unwrapFail_grtAlike ..),
        rfl, fun key _ h => ?_, fun _ _ => ⟨Nat.xor_self 0, rfl, rfl⟩, fun h => ?_⟩
      · cases hkey.symm.trans h
      · omega
  case h_2 hst =>
    exact ⟨_, storeSlot_stores .., rfl, fun _ h => by omega, fun h => by omega, fun _ => ⟨Nat.xor_self 0, rfl, rfl⟩⟩
  case h_3 h1 h2 =>
    exact ⟨_, storeSlot_stores .., rfl, fun _ h => absurd h h1, fun h => absurd h h1, fun h => absurd h h2⟩

/-! ## The entries of a page in turn -/

/-- Turns that each change one entry of a page: an entry after all of them is as its own turn left it, and its own turn found it as it was. -/
theorem slot_foldl_range {P : State → Prop} {f : State → Nat → State} {ovr : Bool} {lo n : Nat}
    (hstep : ∀ t, ∀ k < n, P t → P (f t k) ∧ ∀ j, j ≠ lo + k → (f t k).slot ovr j = t.slot ovr j) {s : State} (hs : P s) :
    P ((List.range n).foldl f s) ∧ (∀ j, (∀ k < n, j ≠ lo + k) → ((List.range n).foldl f s).slot ovr j = s.slot ovr j) ∧
      ∀ k < n, ∃ u, P u ∧ u.slot ovr (lo + k) = s.slot ovr (lo + k) ∧
        ((List.range n).foldl f s).slot ovr (lo + k) = (f u k).slot ovr (lo + k) := by
  induction n with
  | zero => exact ⟨hs, fun _ _ => rfl, nofun⟩
  | succ n ih =>
    obtain ⟨hP, hout, hin⟩ := ih fun t k hk => hstep t k (Nat.lt_succ_of_lt hk)
    obtain ⟨hP', hlast⟩ := hstep _ n (Nat.lt_succ_self n) hP
    rw [List.range_succ, List.foldl_concat]
    refine ⟨hP', fun j hj => (hlast j (hj n (Nat.lt_succ_self n))).trans (hout j fun k hk => hj k (Nat.lt_succ_of_lt hk)), fun k hk => ?_⟩
    obtain hk | rfl := Nat.lt_succ_iff_lt_or_eq.mp hk
    · obtain ⟨u, hu, hbefore, hafter⟩ := hin k hk
      exact ⟨u, hu, hbefore, (hlast _ (by omega)).trans hafter⟩
    · exact ⟨_, hP, hout _ fun j hj => by omega, rfl⟩

/-- INDEX of a page of a key store: its TYPE and its PAGE (R240). -/
theorem pageIndex (ovr : Bool) {p : Nat} (hp : p < 64) : (if ovr then 192 else 128) + p = 64 * pageType ovr + p ∧
    ((if ovr then 192 else 128) + p) / 64 = pageType ovr ∧ ((if ovr then 192 else 128) + p) % 64 = p := by
  cases ovr <;> simp only [pageType, Bool.false_eq_true, ↓reduceIte, true_and] <;> omega

/-- A page body that is installed gives each entry of its page what it holds for it (R241). -/
theorem loadBody_slot (s : State) (ovr : Bool) (p : Nat) (b : List Byte) {k : Nat} (hk : k < pageLen ovr) :
    LoadedEntry s.grt.kwk (sliceOf b (32 * k) 32) (s.slot ovr (pageLen ovr * p + k)).pending
      ((s.loadBody (pageType ovr) p b).slot ovr (pageLen ovr * p + k)) := by
  have hstep (t : State) (k : Nat) (_ : k < pageLen ovr) (ht : t.grt.kwk = s.grt.kwk) :
      (t.loadEntry ovr (pageLen ovr * p + k) (sliceOf b (32 * k) 32)).grt.kwk = s.grt.kwk ∧ ∀ j, j ≠ pageLen ovr * p + k →
        (t.loadEntry ovr (pageLen ovr * p + k) (sliceOf b (32 * k) 32)).slot ovr j = t.slot ovr j := by
    obtain ⟨v, hstores, -⟩ := loadEntry_stores t ovr (pageLen ovr * p + k) (sliceOf b (32 * k) 32)
    exact ⟨hstores.kwk.trans ht, hstores.others⟩
  obtain ⟨-, -, hentry⟩ := slot_foldl_range (P := fun t : State => t.grt.kwk = s.grt.kwk) (ovr := ovr) hstep rfl
  obtain ⟨u, hkwk, hbefore, hafter⟩ := hentry k hk
  obtain ⟨v, hstores, hloaded⟩ := loadEntry_stores u ovr (pageLen ovr * p + k) (sliceOf b (32 * k) 32)
  obtain ⟨m, -, hslot⟩ := hstores.slot
  have hbody : s.loadBody (pageType ovr) p b =
      (List.range (pageLen ovr)).foldl (fun s k => s.loadEntry ovr (pageLen ovr * p + k) (sliceOf b (32 * k) 32)) s := by
    cases ovr <;> rfl
  rw [hbody, hafter, hslot, ← hkwk, ← hbefore]
  exact hloaded.masked m

/-! ## FLOOR_COMMIT (R240, R249, R461) -/

/-- An entry of a good key memory whose fields change is written, or is as it should be already. -/
theorem updateSlot_of_good {s : State} (hkeys : KeysGood s) {ovr : Bool} {i : Nat} (hi : ovr = false → i < 2 ^ 19) (f : KeySlot → KeySlot) :
    KeysGood (s.updateSlot ovr i f) ∧ (∀ j, j ≠ i → (s.updateSlot ovr i f).slot ovr j = s.slot ovr j) ∧
      ∃ m, (s.updateSlot ovr i f).slot ovr i = (f (s.slot ovr i)).withKey (f (s.slot ovr i)).key m := by
  unfold State.updateSlot
  split
  case isTrue hsame =>
    refine ⟨hkeys, fun _ _ => rfl, (s.slot ovr i).mask, ?_⟩
    rw [hsame]
    simp [KeySlot.withKey, KeySlot.key]
  case isFalse =>
    simp only [keyRead_of_good hkeys hi]
    have hstores := putSlot_stores s ovr i (f (s.slot ovr i))
    obtain ⟨m, -, hslot⟩ := hstores.slot
    exact ⟨hstores.keys hkeys, hstores.others, m, hslot⟩

theorem mirrorPost_regs_grt (s : State) (cls idx : Nat) (ws : List Word) :
    (s.mirrorPost cls idx ws).regs = s.regs ∧ (s.mirrorPost cls idx ws).grt = s.grt := by
  unfold State.mirrorPost
  (repeat' split) <;> exact ⟨rfl, rfl⟩

/-- The bit of a page in GRT_FLOOR_DUE (R249). -/
theorem pageBit_first (ovr : Bool) (p : Nat) : pageBit ovr (pageLen ovr * p) = (if ovr then 16 else 0) + p := by
  cases ovr <;> simp [pageBit, pageLen]

/-- A bit that is masked out reads 0. -/
theorem getLsbD_and_not_two_pow (x : Word) (k : Nat) : (x &&& ~~~(BitVec.ofNat 64 (2 ^ k))).getLsbD k = false := by
  rw [BitVec.getLsbD_and, BitVec.getLsbD_not, BitVec.getLsbD_ofNat, Nat.testBit_two_pow_self, Bool.and_true, Bool.and_not_self, Bool.and_false]

/-- An entry as FLOOR_COMMIT leaves it (R249, R250). -/
def committedSlot (exp : List (Nat × Nat × Nat)) (k : Nat) (e : KeySlot) : KeySlot :=
  { e with floor := (exp.getD k (0, 0, 0)).2.2, pending := false }

/-- The pending hand-over `exp` of a page comes into force for each of its entries. -/
theorem floorCommit_slot {s : State} (hkeys : KeysGood s) {ovr : Bool} {p k : Nat} (hp : p < 64) (hk : k < pageLen ovr)
    {exp : List (Nat × Nat × Nat)} (hexp : SMap.getD s.grt.exports (64 * pageType ovr + p) [] = exp) :
    let t := s.floorCommit (pageType ovr) p
    let e := committedSlot exp k (s.slot ovr (pageLen ovr * p + k))
    (∃ m, t.slot ovr (pageLen ovr * p + k) = e.withKey e.key m) ∧ SMap.find? t.grt.exports (64 * pageType ovr + p) = none ∧
      (t.reg .GRT_FLOOR_DUE 0 0).getLsbD ((if ovr then 16 else 0) + p) = false := by
  intro t e
  have hi (k : Nat) (hk : k < pageLen ovr) : ovr = false → pageLen ovr * p + k < 2 ^ 19 := by
    rintro rfl
    simp only [pageLen, Bool.false_eq_true, if_false] at hk ⊢
    omega
  obtain ⟨-, -, hentry⟩ := slot_foldl_range (P := KeysGood) (ovr := ovr) (lo := pageLen ovr * p) (n := pageLen ovr)
    (f := fun t k => t.updateSlot ovr (pageLen ovr * p + k) (committedSlot exp k)) (fun t k hk ht =>
      have ⟨hgood, hothers, _⟩ := updateSlot_of_good ht (hi k hk) (committedSlot exp k)
      ⟨hgood, hothers⟩) hkeys
  obtain ⟨u, hu, hbefore, hafter⟩ := hentry k hk
  obtain ⟨-, -, m, hslot⟩ := updateSlot_of_good hu (hi k hk) (committedSlot exp k)
  simp only [t, State.floorCommit, pageSpan_pageType, pageType_ovr, hexp]
  refine ⟨⟨m, ?_⟩, ?_, ?_⟩
  · rw [slot_congr (store_congr (mirrorPost_regs_grt ..).2 _)]
    refine Eq.trans ?_ ((hafter.trans hslot).trans (by rw [hbefore]))
    exact slot_congr rfl _
  · rw [(mirrorPost_regs_grt ..).2]
    exact SMap.find?_del_self ..
  · rw [reg_congr (mirrorPost_regs_grt ..).1, reg_setReg_self, pageBit_first]
    exact getLsbD_and_not_two_pow _ _

section
variable {s : State} {ovr : Bool} {p k : Nat} (hidle : s.flag F.GRT_CMD_STAT_BUSY = false) (hr : s.released = true) (hp : p < 64)
  (hk : k < pageLen ovr)
include hidle hr hp hk

theorem grtLoad_page_completes {u : State} {b : List Byte} (href : s.fresh.2.grtRefusal 5 ((if ovr then 192 else 128) + p) = none)
    (hin : s.fresh.2.grtInput (32 * pageLen ovr) = (b, u)) : Completes (.grtLoad ((if ovr then 192 else 128) + p)) s fun t =>
      LoadedEntry s.grt.kwk (sliceOf b (32 * k) 32) (s.slot ovr (pageLen ovr * p + k)).pending (t.slot ovr (pageLen ovr * p + k)) := by
  obtain ⟨-, htype, hpage⟩ := pageIndex ovr hp
  have hu : s.GrtAlike u := by simpa only [hin] using (fresh_grtAlike s).trans (grtInput_grtAlike s.fresh.2 (32 * pageLen ovr))
  have hlen : (if (if ovr then 192 else 128) + p = 64 then 64 else if pageType ovr = 2 then 8192 else 32768) = 32 * pageLen ovr := by
    rw [if_neg (by split <;> omega)]
    cases ovr <;> rfl
  have hrun : s.fresh.2.grtRun 5 ((if ovr then 192 else 128) + p) = (some [], u.loadBody (pageType ovr) p b) := by
    simp only [State.grtRun, htype, hpage, hlen, hin]
  refine completes_of_grtRun hidle hr (by simp [grtCommands]) href (by decide) hrun fun x => ?_
  have hloaded := loadBody_slot u ovr p b hk
  rw [hu.kwk, slot_congr (store_congr hu.grt _)] at hloaded
  exact hloaded

theorem floorCommit_completes (hkeys : KeysGood s) (href : s.fresh.2.grtRefusal 13 ((if ovr then 192 else 128) + p) = none) :
    Completes (.floorCommit ((if ovr then 192 else 128) + p)) s fun t =>
      let e := t.slot ovr (pageLen ovr * p + k)
      let old := s.slot ovr (pageLen ovr * p + k)
      e.floor = ((SMap.getD s.grt.exports ((if ovr then 192 else 128) + p) []).getD k (0, 0, 0)).2.2 ∧ e.pending = false ∧ e.key = old.key ∧
        e.epoch = old.epoch ∧ e.state = old.state ∧ e.ctr = old.ctr ∧ SMap.find? t.grt.exports ((if ovr then 192 else 128) + p) = none ∧
          (t.reg .GRT_FLOOR_DUE 0 0).getLsbD ((if ovr then 16 else 0) + p) = false := by
  obtain ⟨hindex, htype, hpage⟩ := pageIndex ovr hp
  obtain ⟨⟨m, hslot⟩, hexport, hdue⟩ := floorCommit_slot ((fresh_grtAlike s).keys hkeys) hp hk rfl
  have hrun : s.fresh.2.grtRun 13 ((if ovr then 192 else 128) + p) = (some [], s.fresh.2.floorCommit (pageType ovr) p) := by
    simp only [State.grtRun, htype, hpage]
  refine completes_of_grtRun hidle hr (by simp [grtCommands]) href (by decide) hrun fun x => ?_
  have he : ((s.fresh.2.floorCommit (pageType ovr) p).grtStart x).slot ovr (pageLen ovr * p + k) = _ := (slot_congr rfl _).trans hslot
  simp only [he]
  rw [hindex]
  refine ⟨rfl, rfl, withKey_key .., rfl, rfl, rfl, hexport, ?_⟩
  rwa [reg_grtStart _ _ _ _ (by decide)]

end

/-! ## GRT_CMD_DONE (R239) -/

theorem exec_grtCmdDone (s : State) : exec .grtCmdDone s = execGrtCmdDone s := rfl

/-- GRT_CMD_STAT and GRT_EVT as a command's completion sets them (R239). -/
def State.grtReported (s : State) (ok : Bool) (reason : Nat) : State :=
  (((s.setFld F.GRT_CMD_STAT_STATUS (if ok then 0 else 0x3F)).setFld F.GRT_CMD_STAT_REASON reason).setFld F.GRT_CMD_STAT_BUSY 0).raise
    F.GRT_EVT_CMD_DONE

theorem grtReported_shows (s : State) (ok : Bool) (reason : Nat) : let t := s.grtReported ok reason
    t.flag F.GRT_CMD_STAT_BUSY = false ∧ t.flag F.GRT_EVT_CMD_DONE = true ∧ t.fld F.GRT_CMD_STAT_STATUS = (if ok then 0 else 0x3F) ∧
      t.fld F.GRT_CMD_STAT_REASON = reason % 2 ^ F.GRT_CMD_STAT_REASON.w := by
  refine ⟨?_, flag_raise_self _ _ _ (by decide) rfl, ?_, ?_⟩
  · rw [State.flag, State.grtReported, fld_raise_id _ _ _ _ (by decide)]
    exact flag_setFld_cond _ F.GRT_CMD_STAT_BUSY false 0 0 (by decide) rfl
  · rw [State.grtReported, fld_raise_id _ _ _ _ (by decide), fld_setFld_disjoint _ _ _ _ _ _ (by decide) (by decide),
      fld_setFld_disjoint _ _ _ _ _ _ (by decide) (by decide), fld_setFld_self _ _ _ _ _ (by decide)]
    cases ok <;> rfl
  · rw [State.grtReported, fld_raise_id _ _ _ _ (by decide), fld_setFld_disjoint _ _ _ _ _ _ (by decide) (by decide),
      fld_setFld_self _ _ _ _ _ (by decide)]

theorem grtCmdDone_completes {s : State} {c : GrtCmd} (hcmd : s.grt.cmd = some c)
    (hrandom : c.op = 2 ∨ c.op = 3 → s.flag F.GRT_STAT_DRBG_OK = true) (hmems : s.memsReady (8 :: keyMems) = true) :
    Completes .grtCmdDone s fun t => t.flag F.GRT_CMD_STAT_BUSY = false ∧ t.flag F.GRT_EVT_CMD_DONE = true ∧
      t.fld F.GRT_CMD_STAT_STATUS = (if c.ok then 0 else 0x3F) ∧ t.fld F.GRT_CMD_STAT_REASON = c.reason % 2 ^ F.GRT_CMD_STAT_REASON.w := by
  have hgo : ¬(((c.op = 2 ∨ c.op = 3) ∧ c.ok = true ∧ s.flag F.GRT_STAT_DRBG_OK = false) ∨ s.memsReady (8 :: keyMems) = false) := by
    rintro (⟨hop, -, hbad⟩ | hbad)
    · exact Bool.false_ne_true (hbad.symm.trans (hrandom hop))
    · exact Bool.false_ne_true (hbad.symm.trans hmems)
  have hexec : ∃ u : State, exec .grtCmdDone s = .next (u.grtReported c.ok c.reason) := by
    simp only [exec_grtCmdDone, execGrtCmdDone, hcmd, if_neg hgo]
    exact ⟨_, rfl⟩
  obtain ⟨u, hexec⟩ := hexec
  exact completes_of_exec hexec (grtReported_shows u c.ok c.reason)

/-! ## The statement -/

/-- Settles O16, each command by its lemma above. -/
theorem grottoCommands : Obligations.GrottoCommands :=
  ⟨fun _ _ _ hp hidle href hr => grtCommand_runs_completes hidle hr hp href,
    fun _ _ _ _ hp hidle href hr => grtCommand_refused_completes hidle hr hp href,
    fun _ i hbusy hr => recon_ignored_completes i hbusy hr,
    fun _ _ hidle href hr => sealRoot_completes hidle hr href,
    fun _ hidle href hr => grtBlow_completes hidle hr href,
    fun _ _ _ _ hidle href hr hkeys hkey => importGroup_completes hidle hr hkeys href hkey,
    fun _ _ _ _ hidle href hr hkeys hkey => importOvr_completes hidle hr hkeys href hkey,
    fun _ _ _ hidle hr hkey _ hp href => transport_fails_completes hidle hr hkey hp href,
    fun _ _ hidle href hr hkeys => retireGroup_completes hidle hr hkeys href,
    fun _ _ hidle href hr hkeys => clearOvr_completes hidle hr hkeys href,
    fun _ _ _ _ _ _ _ hidle href hr hin hnet hatt => grtLoad_device_completes hidle hr href hin hnet hatt,
    fun _ _ _ _ _ _ hidle href hr hp hk hin => grtLoad_page_completes hidle hr hp hk href hin,
    fun _ _ _ hidle href hr hin => provision_net_completes hidle hr href hin,
    fun _ _ _ hidle href hr hin => provision_att_completes hidle hr href hin,
    fun _ _ _ _ hidle href hr hkey => rekeyNet_completes hidle hr href hkey,
    fun _ _ _ _ hidle href hr hkeys hp hk => floorCommit_completes hidle hr hp hk hkeys href,
    fun _ _ hcmd hrandom hmems => grtCmdDone_completes hcmd hrandom hmems⟩

end Sys2Proof.Machine
end

section
/-! PROOFS. `Obligations.GrottoEvents`: sweeps and the erasure of messages (R230, R253), key delivery and jobs (R245, R248, R251, R254), the random
source (R246, R260) and debug unlock (R258). -/

namespace Sys2Proof.Machine

@[simp] theorem advanceTo_grt (s : State) (t : Nat) : (s.advanceTo t).grt = s.grt := advance_grt s _
@[simp] theorem after_grt (s : State) (dt : Nat) : (s.after dt).grt = s.grt := advance_grt s dt

/-! ## Sweeps and the messages of the root (R230, R253) -/

theorem exec_invalidationSweepDone (s : State) : exec .invalidationSweepDone s = execInvalidationSweepDone s := rfl
theorem exec_msgErase (s : State) : exec .msgErase s = execMsgErase s := rfl

/-- An entry that a sweep of its group has not removed was made after the sweep passed its set, or stands in a set that it has not reached. -/
theorem survives_of_not_swept {s : State} {i : Nat} {e : CacheWay} {w : Sweep} (h : s.sweptWay i e = false) (hw : w ∈ s.grt.sweeps)
    (hgroup : w.group = some e.group) : w.start + sweepReach (i / 4) < e.made ∨ s.clp.now < w.start + sweepReach (i / 4) := by
  have hout := List.any_eq_false.mp h w hw
  simp only [hgroup, BEq.rfl, Bool.true_and, Bool.and_eq_true, decide_eq_true_eq] at hout
  omega

/-- No sweep of another group removes an entry. -/
theorem not_swept_of_no_sweep {s : State} {e : CacheWay} (i : Nat) (h : ∀ v ∈ s.grt.sweeps, v.group ≠ some e.group) :
    s.sweptWay i e = false := by
  refine List.any_eq_false.mpr fun v hv => ?_
  simp [h v hv]

/-- The state in which the oldest sweep has ended (R253). -/
def State.sweepEnded (s : State) (w : Sweep) (ws : List Sweep) : State :=
  let u := s.advanceTo w.due
  { u with grt := { u.grt with sweeps := ws, cache := u.grt.cache.filter fun e => !u.sweptWay e.1 e.2 } }

theorem invalidationSweepDone_completes {s : State} {w : Sweep} {ws : List Sweep} (hsweeps : s.grt.sweeps = w :: ws) :
    Completes .invalidationSweepDone s fun t => t.grt.sweeps = ws ∧ t.clp.now = max s.clp.now w.due ∧
      (∀ e ∈ t.grt.cache, e ∈ s.grt.cache ∧ (w.group = some e.2.group →
        w.start + sweepReach (e.1 / 4) < e.2.made ∨ t.clp.now < w.start + sweepReach (e.1 / 4))) ∧
        ∀ e ∈ s.grt.cache, (∀ v ∈ s.grt.sweeps, v.group ≠ some e.2.group) → e ∈ t.grt.cache := by
  have hgrt := advanceTo_grt s w.due
  have hexec : exec .invalidationSweepDone s = .next (s.sweepEnded w ws) := by
    simp only [exec_invalidationSweepDone, execInvalidationSweepDone, hsweeps, State.sweepEnded]
  refine completes_of_exec hexec ⟨rfl, advanceTo_now s _, ?_, ?_⟩
  · intro e he
    obtain ⟨hmem, hkept⟩ := List.mem_filter.mp he
    exact ⟨hgrt ▸ hmem, survives_of_not_swept (s := s.advanceTo w.due) (by simpa using hkept) (by simp [hsweeps])⟩
  · intro e he hother
    exact List.mem_filter.mpr ⟨hgrt.symm ▸ he, by simp [not_swept_of_no_sweep e.1 (hgrt.symm ▸ hother)]⟩

theorem msgErase_completes {s : State} (hheld : s.grt.msgs.isSome = true) : Completes .msgErase s fun t =>
    t.grt.msgs = none ∧ t.flag F.GRT_STAT_MSG_HELD = false ∧ t.clp.now = max s.clp.now s.grt.msgsDue :=
  completes_of_exec ((exec_msgErase s).trans (if_pos hheld))
    ⟨rfl, flag_setFld_cond _ F.GRT_STAT_MSG_HELD false 0 0 (by decide) rfl, advanceTo_now s _⟩

/-! ## The delivery of a key (R245, R248, R255) -/

theorem exec_keyReady (id : Nat) (s : State) : exec (.keyReady id) s = execKeyReady id s := rfl

@[simp] theorem advanceTo_rx (s : State) (t id : Nat) : (s.advanceTo t).rx id = s.rx id := by rw [State.rx, advanceTo_slc, State.rx]
@[simp] theorem endCycle_rx (s : State) (id : Nat) : s.endCycle.rx id = s.rx id := by rw [State.rx, State.endCycle, advance_slc, State.rx]

theorem setHold_of_rx {s : State} {id : Nat} {f : RxFrame} (hf : s.rx id = some f) (h : RxHold) :
    s.setHold id h = s.setRx id { f with hold := some h } := by rw [State.setHold, hf]

theorem setHold_rx {s : State} {id : Nat} {f : RxFrame} (hf : s.rx id = some f) (h : RxHold) :
    (s.setHold id h).rx id = some { f with hold := some h } := by rw [setHold_of_rx hf, rx_setRx]

theorem setHold_clp (s : State) (id : Nat) (h : RxHold) : (s.setHold id h).clp = s.clp := by
  unfold State.setHold
  split <;> rfl

/-- A header job that had not to wait, and whose key stands, takes the key that was granted (R253). -/
theorem headStart_granted {s : State} {h : RxHold} (id : Nat) (hkey : ∀ k, h.key = some k → s.keyReplaced k h.asked = false) :
    s.headStart id h false = s.setHold id { h with keyAt := none, headRuns := true } := by
  unfold State.headStart
  cases hk : h.key with
  | none => rfl
  | some k => simp [hkey k hk]

section
variable {s : State} {id at_ : Nat} {f : RxFrame} {h : RxHold} (hf : s.rx id = some f) (hh : f.hold = some h) (hat : h.keyAt = some at_)
include hf hh hat

theorem keyReady_plain_completes (hwaits : f.headWaits = false) : Completes (.keyReady id) s fun t =>
    t.clp.now = max s.clp.now at_ ∧ t.rx id = some { f with hold := some { h with keyAt := none } } := by
  have hexec : exec (.keyReady id) s = .next ((s.advanceTo at_).setHold id { h with keyAt := none }) := by
    simp [exec_keyReady, execKeyReady, hf, hh, hat, hwaits]
  refine completes_of_exec hexec ⟨?_, setHold_rx (by rw [advanceTo_rx, hf]) _⟩
  rw [setHold_clp, advanceTo_now]

theorem keyReady_starts_completes (hwaits : f.headWaits = true) (hlane : s.laneFor h.headSeq = true) (hmems : s.memsReady keyMems = true) :
    Completes (.keyReady id) s fun t => t = (s.advanceTo at_).endCycle.headStart id h (decide (at_ < s.clp.now)) ∧
      (s.clp.now ≤ at_ → (∀ k, h.key = some k → s.keyReplaced k h.asked = false) →
        t.clp.now = at_ + 1 ∧ t.rx id = some { f with hold := some { h with keyAt := none, headRuns := true } }) := by
  have hexec : exec (.keyReady id) s = .next ((s.advanceTo at_).endCycle.headStart id h (decide (at_ < s.clp.now))) := by
    simp [exec_keyReady, execKeyReady, hf, hh, hat, hwaits, hlane, hmems]
  refine completes_of_exec hexec ⟨rfl, fun hnow hkey => ?_⟩
  have hgrt : (s.advanceTo at_).endCycle.grt = s.grt := by simp [State.endCycle]
  have hstands (k : JobKey) (hk : h.key = some k) : (s.advanceTo at_).endCycle.keyReplaced k h.asked = false := by
    rw [State.keyReplaced, hgrt]
    exact hkey k hk
  rw [decide_eq_false hnow.not_gt, headStart_granted id hstands]
  refine ⟨?_, setHold_rx (by rw [endCycle_rx, advanceTo_rx, hf]) _⟩
  rw [setHold_clp, State.endCycle, advance_now, advanceTo_now, max_eq_right hnow]

theorem keyReady_waits_completes (hwaits : f.headWaits = true) (hlane : s.laneFor h.headSeq = false) :
    Completes (.keyReady id) s fun t => t = s :=
  completes_of_exec (by simp [exec_keyReady, execKeyReady, hf, hh, hat, hwaits, hlane]) rfl

end

/-! ## Verify jobs (R248, R254, R255) -/

theorem exec_verifyJobStart (id : Nat) (s : State) : exec (.verifyJobStart id) s = execVerifyJobStart id s := rfl
theorem exec_verifyDone (id : Nat) (s : State) : exec (.verifyDone id) s = execVerifyDone id s := rfl

theorem verifyJobStart_completes {s u : State} {id : Nat} {f : RxFrame} {h : RxHold} {m : MacFrame} {k k' : JobKey} {x : Nat}
    (hf : s.rx id = some f) (hh : f.hold = some h) (hm : f.mac = some m) (hk : h.key = some k) (hwaits : f.verifyWaits = true)
    (hlane : s.laneFor f.endSeq = true) (hmems : s.memsReady keyMems = true) (hfound : s.endCycle.jobKey k = (.found k' x, u)) :
    Completes (.verifyJobStart id) s fun t => t = u.setHold id { h with
      headRuns := false, verify := .running (some k') k'.epoch (s.clp.now + 1) (verdictOf f m h k').1 (verdictOf f m h k').2 } := by
  have hnow : s.endCycle.clp.now = s.clp.now + 1 := advance_now s 1
  refine completes_of_exec ((exec_verifyJobStart id s).trans ?_) rfl
  simp [execVerifyJobStart, hf, hh, hm, hk, hwaits, hlane, hmems, hfound, hnow]

/-- The state in which a verify job that started at `start` ends (R251). -/
def State.atVerdict (s : State) (start : Nat) (f : RxFrame) : State :=
  (s.fresh.2.advanceTo (start + s.fresh.1 % (201 + f.len))).bump F.GRT_CNT_VERIFY_COUNT

section
variable {s : State} {id epoch start : Nat} {key : Option JobKey} {plain : List Byte} {f : RxFrame} {h : RxHold} (hf : s.rx id = some f)
  (hh : f.hold = some h)
include hf hh

theorem verifyDone_passes_completes (hrun : h.verify = .running key epoch start true plain) : Completes (.verifyDone id) s fun t =>
    t = (if plain = f.bytes then s.atVerdict start f else (s.atVerdict start f).putFrame f.cells plain).setHold id
      { h with key := key.or h.key, verify := .verdict epoch true false plain } := by
  refine completes_of_exec ((exec_verifyDone id s).trans ?_) rfl
  simp only [execVerifyDone, hf, hh, hrun, if_true, State.atVerdict]
  by_cases hsame : plain = f.bytes <;> simp [hsame, State.on]

/-- A verdict that fails, once it is known whether its key is stale (R254). -/
theorem verifyDone_fails {stale : Bool} {v : State} (hrun : h.verify = .running key epoch start false plain)
    (hstale : (s.atVerdict start f).staleVerdict h epoch = (some stale, v)) : exec (.verifyDone id) s =
      .next ((v.bump (if stale then F.GRT_CNT_KEY_STALE_COUNT else F.GRT_CNT_MIC_FAIL_COUNT)).setHold id
        { h with verify := .verdict epoch false stale plain }) := by
  rw [State.atVerdict] at hstale
  simp only [exec_verifyDone, execVerifyDone, hf, hh, hrun, hstale, Bool.false_eq_true, if_false]

theorem verifyDone_stale_completes (hrun : h.verify = .running key epoch start false plain) (htag : h.tag ≠ epoch) :
    Completes (.verifyDone id) s fun t => t = ((s.atVerdict start f).bump F.GRT_CNT_KEY_STALE_COUNT).setHold id
      { h with verify := .verdict epoch false true plain } :=
  completes_of_exec (verifyDone_fails hf hh hrun (if_neg htag)) rfl

theorem verifyDone_fails_completes (hrun : h.verify = .running key epoch start false plain) (htag : h.tag = epoch) {e : Nat} {v : State}
    (he : (s.atVerdict start f).entryEpoch (h.src.getD 0) = (some e, v)) : Completes (.verifyDone id) s fun t =>
      t = (v.bump (if e = epoch then F.GRT_CNT_MIC_FAIL_COUNT else F.GRT_CNT_KEY_STALE_COUNT)).setHold id
        { h with verify := .verdict epoch false (e != epoch) plain } := by
  have hstale : (s.atVerdict start f).staleVerdict h epoch = (some (e != epoch), v) := by simp [State.staleVerdict, htag, he]
  refine completes_of_exec (verifyDone_fails hf hh hrun hstale) ?_
  by_cases heq : e = epoch <;> simp [heq]

end

/-! ## Protect jobs (R248, R251, R255) -/

theorem exec_protectJobStart (j id : Nat) (s : State) : exec (.protectJobStart j id) s = execProtectJobStart j id s := rfl
theorem exec_protectDone (j id : Nat) (s : State) : exec (.protectDone j id) s = execProtectDone j id s := rfl

section
variable {s : State} {j id n : Nat} {f : TxFrame} (hf : s.txFrame j id = some f)
include hf

theorem protectJobStart_completes (hsec : s.secOf f = .waiting n) (hlane : s.laneFor n = true) (hmems : s.memsReady (0 :: keyMems) = true) :
    Completes (.protectJobStart j id) s fun t => t = s.endCycle.protectStart j f n := by
  refine completes_of_exec ((exec_protectJobStart j id s).trans ?_) rfl
  simp [execProtectJobStart, hf, hsec, hlane, hmems]

theorem protectDone_completes {v : State} {c at_ : Nat} {k : JobKey} {b : List Byte} {m : MacFrame} (hsec : s.secOf f = .running n k c at_)
    (hread : (s.fresh.2.advanceTo (at_ + s.fresh.1 % (1001 + f.desc.len))).protectRead j f = (b, some m, false, v)) :
    let p := (ccmSeal k.key (v.fld F.MAC_EUI_EUI64) c f.desc.sec (b.take (m.auxAt + 1) ++ leBytes 4 c ++ b.drop (m.auxAt + 5))
      m.bodyAt m.bodyEnd)
    Completes (.protectDone j id) s fun t =>
      t = ((((v.putFrame ((v.chainFor f.desc.cell f.desc.len).getD []) p).bump F.GRT_CNT_PROTECT_COUNT).setSec j f .done).protectArrive j f) :=
  completes_of_exec (by simp only [exec_protectDone, execProtectDone, hf, hsec, hread]) rfl

end

/-! ## Masks and the random source (R246, R260) -/

theorem exec_maskRefresh (s : State) : exec .maskRefresh s = execMaskRefresh s := rfl
theorem exec_drbgReseed (s : State) : exec .drbgReseed s = execDrbgReseed s := rfl
theorem exec_drbgHealthFail (dt : Nat) (failing : Bool) (s : State) : exec (.drbgHealthFail dt failing) s = execDrbgHealthFail dt failing s := rfl

/-- The state at `t`, when the masks are drawn afresh. -/
def State.atMaskRefresh (s : State) (t : Nat) : State :=
  let u := s.advanceTo t
  { u with grt := { u.grt with maskAt := max t u.grt.maskAt } }

theorem atMaskRefresh_now (s : State) (t : Nat) : (s.atMaskRefresh t).clp.now = max s.clp.now t := advanceTo_now s t

theorem maskRefresh_completes {s : State} (hok : s.flag F.GRT_STAT_DRBG_OK = true) : Completes .maskRefresh s fun t => ∃ u : State,
    u.grt.maskAt = s.grt.maskAt + 10000000 ∧ u.clp.now = max s.clp.now (s.grt.maskAt + 10000000) ∧
      t = u.redraw (s.grt.ovrs.map fun (e : Nat × KeySlot) => e.1) := by
  have hexec : exec .maskRefresh s =
      .next ((s.atMaskRefresh (s.grt.maskAt + 10000000)).redraw (s.grt.ovrs.map fun (e : Nat × KeySlot) => e.1)) := by
    simp only [exec_maskRefresh, execMaskRefresh, hok, if_true, State.atMaskRefresh, advanceTo_grt]
  refine completes_of_exec hexec ⟨s.atMaskRefresh (s.grt.maskAt + 10000000), ?_, atMaskRefresh_now s _, rfl⟩
  simp [State.atMaskRefresh]

/-- Seed material is taken in (R260). -/
theorem reseed_of_update {s : State} {p : Nat × Nat} (h : drbgUpdate s.grt.drbgKey s.grt.drbgV (Config.entropy s.grt.seeds).toNat = p) :
    s.reseed = { s with grt := { s.grt with drbgKey := p.1, drbgV := p.2, seeds := s.grt.seeds + 1, requests := 0 } } := by
  simp only [State.reseed, h]

theorem drbgReseed_completes {s : State} (hmany : 65536 ≤ s.grt.requests) : Completes .drbgReseed s fun t => t.grt.requests = 0 ∧
    t.grt.seeds = s.grt.seeds + 1 ∧ t.regs = s.regs ∧
      (t.grt.drbgKey, t.grt.drbgV) = drbgUpdate s.grt.drbgKey s.grt.drbgV (Config.entropy s.grt.seeds).toNat := by
  have hexec : exec .drbgReseed s = .next s.reseed := by rw [exec_drbgReseed, execDrbgReseed, if_pos hmany]
  rw [reseed_of_update rfl] at hexec
  exact completes_of_exec hexec ⟨rfl, rfl, rfl, Prod.mk.eta⟩

/-- A challenge is four outputs of the random source (R258). -/
theorem challenge_grt (s : State) : s.challenge.grt.chal = some (s.randN 4).1 ∧ s.challenge.grt.chalWait = false ∧ s.challenge.regs = s.regs := by
  obtain ⟨key, v, hrand⟩ := randN_eq s 4
  generalize (s.randN 4).1 = x at hrand ⊢
  simp only [State.challenge, hrand, State.withSource, and_self]

theorem drbgHealthFail_fails_completes (s : State) (dt : Nat) : Completes (.drbgHealthFail dt true) s fun t =>
    t.flag F.GRT_STAT_DRBG_OK = false ∧ t.flag F.GRT_EVT_DRBG_FAIL = true := by
  refine completes_of_exec (exec_drbgHealthFail dt true s) ⟨?_, flag_raise_self _ _ _ (by decide) rfl⟩
  rw [State.flag, fld_raise_id _ _ _ _ (by decide)]
  exact flag_setFld_cond _ F.GRT_STAT_DRBG_OK false 0 0 (by decide) rfl

/-- The state in which the health tests pass again (R260). -/
def State.healthy (s : State) (dt : Nat) : State := (s.after dt).setFld F.GRT_STAT_DRBG_OK 1

/-- The tests pass again: a challenge that waited is issued, unless 3 responses were wrong (R258, R260). -/
theorem drbgHealthFail_passes_completes (s : State) (dt : Nat) : Completes (.drbgHealthFail dt false) s fun t =>
    t.flag F.GRT_STAT_DRBG_OK = true ∧
      (s.grt.chalWait = true → s.grt.wrong < 3 → t.grt.chal = some ((s.after dt).randN 4).1 ∧ t.grt.chalWait = false) ∧
      (3 ≤ s.grt.wrong → t.grt.chal = s.grt.chal) := by
  have hgrt : (s.healthy dt).grt = s.grt := after_grt s dt
  have hok : (s.healthy dt).flag F.GRT_STAT_DRBG_OK = true := flag_setFld_cond _ F.GRT_STAT_DRBG_OK true 0 0 (by decide) rfl
  obtain ⟨hchal, hwait, hregs⟩ := challenge_grt (s.healthy dt)
  have hsame : ((s.healthy dt).randN 4).1 = ((s.after dt).randN 4).1 := (randN_congr rfl 4).1
  have hexec : exec (.drbgHealthFail dt false) s = .next ((s.healthy dt).on (s.grt.chalWait && decide (s.grt.wrong < 3)) State.challenge) := by
    rw [← hgrt]
    rfl
  refine completes_of_exec hexec ⟨?_, fun hwaited hwrong => ?_, fun hwrong => ?_⟩
  · exact on_keeps (P := fun t : State => t.flag F.GRT_STAT_DRBG_OK = true) _ hok ((flag_congr hregs _ _ _).trans hok)
  · rw [hwaited, decide_eq_true hwrong, Bool.and_self, on_true]
    exact ⟨hchal.trans (congrArg some hsame), hwait⟩
  · rw [decide_eq_false hwrong.not_gt, Bool.and_false, on_false, hgrt]

/-! ## Debug unlock (R258) -/

theorem exec_unlockChal (dt : Nat) (s : State) : exec (.unlockChal dt) s = execUnlockChal dt s := rfl
theorem exec_unlockResp (dt : Nat) (resp : List Byte) (s : State) : exec (.unlockResp dt resp) s = execUnlockResp dt resp s := rfl

/-- The state once a response has met its challenge (R258). -/
def State.answered (s : State) (dt : Nat) : State := { s.after dt with grt := { (s.after dt).grt with chal := none } }

section
variable {s : State} (dt : Nat)

theorem unlockChal_open (hwrong : s.grt.wrong < 3) : exec (.unlockChal dt) s = .next (if s.flag F.GRT_STAT_DRBG_OK then (s.after dt).challenge
    else { s.after dt with grt := { (s.after dt).grt with chalWait := true } }) := by
  rw [exec_unlockChal, execUnlockChal]
  simp only [after_grt, after_flag, if_pos hwrong]

theorem unlockChal_issues_completes (hwrong : s.grt.wrong < 3) (hok : s.flag F.GRT_STAT_DRBG_OK = true) :
    Completes (.unlockChal dt) s fun t => t.grt.chal = some ((s.after dt).randN 4).1 :=
  completes_of_exec ((unlockChal_open dt hwrong).trans (by rw [if_pos hok])) (challenge_grt (s.after dt)).1

theorem unlockChal_waits_completes (hwrong : s.grt.wrong < 3) (hbad : s.flag F.GRT_STAT_DRBG_OK = false) :
    Completes (.unlockChal dt) s fun t => t.grt.chalWait = true ∧ t.grt.chal = s.grt.chal :=
  completes_of_exec ((unlockChal_open dt hwrong).trans (by rw [hbad, if_neg Bool.false_ne_true])) ⟨rfl, by rw [after_grt]⟩

theorem unlockChal_closed_completes (hwrong : 3 ≤ s.grt.wrong) : Completes (.unlockChal dt) s fun t => t = s.after dt := by
  refine completes_of_exec ((exec_unlockChal dt s).trans ?_) rfl
  simp only [execUnlockChal, after_grt, if_neg hwrong.not_gt]

variable {c d : Nat} {resp : List Byte} (hchal : s.grt.chal = some c) (hdbg : s.grt.dbg = some d)
include hchal hdbg

theorem unlockResp_judged : exec (.unlockResp dt resp) s = .next
    (if hmacSha256 (beBytes 32 d) ([0x47, 0x4C, 0x55] ++ beBytes 32 c) == resp then (s.answered dt).setFld F.GRT_STAT_UNLOCKED 1
      else { s.answered dt with grt := { (s.answered dt).grt with wrong := s.grt.wrong + 1 } }.raise F.GRT_EVT_DEBUG_FAIL) := by
  simp only [exec_unlockResp, execUnlockResp, State.answered, after_grt, hchal, hdbg]
  split <;> rfl

theorem unlockResp_right_completes (hright : hmacSha256 (beBytes 32 d) ([0x47, 0x4C, 0x55] ++ beBytes 32 c) = resp) :
    Completes (.unlockResp dt resp) s fun t => t.flag F.GRT_STAT_UNLOCKED = true ∧ t.grt.chal = none ∧ t.grt.wrong = s.grt.wrong := by
  refine completes_of_exec ((unlockResp_judged dt hchal hdbg).trans (by rw [if_pos (beq_iff_eq.mpr hright)])) ⟨?_, rfl, ?_⟩
  · exact flag_setFld_cond _ F.GRT_STAT_UNLOCKED true 0 0 (by decide) rfl
  · rw [setFld_grt, State.answered, after_grt]

theorem unlockResp_wrong_completes (hwrong : hmacSha256 (beBytes 32 d) ([0x47, 0x4C, 0x55] ++ beBytes 32 c) ≠ resp) :
    Completes (.unlockResp dt resp) s fun t => t.flag F.GRT_STAT_UNLOCKED = s.flag F.GRT_STAT_UNLOCKED ∧ t.grt.chal = none ∧
      t.grt.wrong = s.grt.wrong + 1 ∧ t.flag F.GRT_EVT_DEBUG_FAIL = true := by
  refine completes_of_exec ((unlockResp_judged dt hchal hdbg).trans (by rw [if_neg (mt beq_iff_eq.mp hwrong)]))
    ⟨?_, by rw [raise_grt]; rfl, by rw [raise_grt], flag_raise_self _ _ _ (by decide) rfl⟩
  exact (flag_of_reg (reg_raise_id _ _ _ _ (by decide))).trans (after_flag s dt _ _ _)

end

/-! ## The statement -/

/-- Settles O17, each event by its lemma above. -/
theorem grottoEvents : Obligations.GrottoEvents :=
  ⟨fun _ _ _ hsweeps => invalidationSweepDone_completes hsweeps,
    fun _ hheld => msgErase_completes hheld,
    fun _ _ _ _ _ hf hh hat hwaits => keyReady_plain_completes hf hh hat hwaits,
    fun _ _ _ _ _ hf hh hat hwaits hlane hmems => keyReady_starts_completes hf hh hat hwaits hlane hmems,
    fun _ _ _ _ _ hf hh hat hwaits hlane => keyReady_waits_completes hf hh hat hwaits hlane,
    fun _ _ _ _ _ _ _ _ _ hf hh hm hk hwaits hlane hmems hfound => verifyJobStart_completes hf hh hm hk hwaits hlane hmems hfound,
    fun _ _ _ _ _ _ _ _ _ hf hh hrun =>
      ⟨fun hpass => verifyDone_passes_completes hf hh (hpass ▸ hrun),
        fun hfail htag => verifyDone_stale_completes hf hh (hfail ▸ hrun) htag,
        fun _ _ hfail htag he => verifyDone_fails_completes hf hh (hfail ▸ hrun) htag he⟩,
    fun _ _ _ _ _ hf hsec hlane hmems => protectJobStart_completes hf hsec hlane hmems,
    fun _ _ _ _ _ _ _ _ _ _ _ hf hsec hread => protectDone_completes hf hsec hread,
    fun _ hok => maskRefresh_completes hok,
    fun _ hmany => drbgReseed_completes hmany,
    fun s dt => drbgHealthFail_fails_completes s dt,
    fun s dt => drbgHealthFail_passes_completes s dt,
    fun _ dt hwrong hok => unlockChal_issues_completes dt hwrong hok,
    fun _ dt hwrong hbad => unlockChal_waits_completes dt hwrong hbad,
    fun _ dt hwrong => unlockChal_closed_completes dt hwrong,
    fun _ dt _ _ _ hchal hdbg hright => unlockResp_right_completes dt hchal hdbg hright,
    fun _ dt _ _ _ hchal hdbg hwrong => unlockResp_wrong_completes dt hchal hdbg hwrong⟩

end Sys2Proof.Machine
end

section
/-! PROOFS. `Obligations.ThreadRegisters`, and the instructions whose effect is one result: integer, compare, predicate, bit-field and CRC
instructions (R263, R264, R276–R278, R288, R289). -/

namespace Sys2Proof.Machine

/-! ## The registers of a thread (R263, R264) -/

theorem reg_setReg (th : OclThread) (r k : Nat) (v : Word) : (th.setReg r v).reg k = if k = r ∧ r ≠ 0 then v else th.reg k := by
  by_cases hr : r = 0
  · simp [OclThread.setReg, hr]
  · by_cases hk : k = r
    · simp [OclThread.setReg, OclThread.reg, hr, hk]
    · simp [OclThread.setReg, OclThread.reg, hr, hk, SMap.getD_putD_ne]

/-- A bit of a number after one bit of it was set. -/
theorem testBit_setBits_one (v r k : Nat) (b : Bool) :
    (setBits v r 1 (cond b 1 0)).testBit k = if k = r then b else v.testBit k := by
  have hbit (x j : Nat) : x.testBit j = (bits x j 1 == 1) := by
    rw [Nat.testBit_eq_decide_div_mod_eq, bits, Nat.pow_one]; rfl
  rw [hbit, hbit]
  split
  · next hk => rw [hk, bits_setBits]; cases b <;> rfl
  · rw [bits_setBits_disjoint _ _ _ _ _ _ (by omega)]

theorem pred_setPred (th : OclThread) (r k : Nat) (b : Bool) : (th.setPred r b).pred k = if k = r ∧ r ≠ 0 then b else th.pred k := by
  by_cases hr : r = 0
  · simp [OclThread.setPred, hr]
  · by_cases hk : k = r
    · simp [OclThread.setPred, OclThread.pred, hr, hk, testBit_setBits_one]
    · simp [OclThread.setPred, OclThread.pred, hr, hk, testBit_setBits_one]

theorem handle_setHandle (th : OclThread) (r k : Nat) (v : Word) : (th.setHandle r v).handle k = if k = r then v else th.handle k := by
  by_cases hk : k = r
  · simp [OclThread.setHandle, OclThread.handle, hk]
  · simp [OclThread.setHandle, OclThread.handle, hk, SMap.getD_putD_ne]

@[simp] theorem setReg_pred (th : OclThread) (r k : Nat) (v : Word) : (th.setReg r v).pred k = th.pred k := by
  unfold OclThread.setReg; split <;> rfl
@[simp] theorem setReg_handle (th : OclThread) (r k : Nat) (v : Word) : (th.setReg r v).handle k = th.handle k := by
  unfold OclThread.setReg; split <;> rfl
@[simp] theorem setReg_epc (th : OclThread) (r : Nat) (v : Word) : (th.setReg r v).epc = th.epc := by
  unfold OclThread.setReg; split <;> rfl
@[simp] theorem setPred_reg (th : OclThread) (r k : Nat) (b : Bool) : (th.setPred r b).reg k = th.reg k := by
  unfold OclThread.setPred; split <;> rfl
@[simp] theorem setPred_handle (th : OclThread) (r k : Nat) (b : Bool) : (th.setPred r b).handle k = th.handle k := by
  unfold OclThread.setPred; split <;> rfl

/-- Settles O21. -/
theorem threadRegisters : Obligations.ThreadRegisters :=
  ⟨reg_setReg, pred_setPred, handle_setHandle, fun _ => ⟨rfl, rfl⟩,
    fun th r k v => ⟨setReg_pred th r k v, setReg_handle th r k v, setReg_pc th r v, setReg_epc th r v⟩,
    fun th r k b => ⟨setPred_reg th r k b, setPred_handle th r k b, setPred_pc th r b⟩⟩

/-! ## One result (R276–R278) -/

@[simp] theorem op2_issued (s : State) (t x w : Nat) : (s.issued t).op2 x w = s.op2 x w := by simp [State.op2]

section
variable {s : State} {t w opc : Nat} {c : Instr} (h : Issues t w s)
include h

theorem aluA_completes {f : Word → Word → Word} (hfmt : fmtA w = true) (he : exec c s = .next (s.aluA t opc w f)) : Completes c s
    (ThreadOnly t (retiredAt ((s.thr t).setReg (opRD w) (f (s.g t (opRA w)) (s.g t (opRB w)))) (nextPc (s.thr t))) s) :=
  completes_of_result h he hfmt (by rw [g_issued, g_issued])

theorem aluB_completes {f : Word → Word} {legal : Bool} (hl : legal = true) (he : exec c s = .next (s.aluB t opc w legal f)) : Completes c s
    (ThreadOnly t (retiredAt ((s.thr t).setReg (opRD w) (f (s.g t (opRA w)))) (nextPc (s.thr t))) s) :=
  completes_of_result h he hl (by rw [g_issued])

theorem aluD_completes {f : Word → Word} (hfmt : fmtD w = true) (he : exec c s = .next (s.aluD t opc w f)) : Completes c s
    (ThreadOnly t (retiredAt ((s.thr t).setReg (opRD w) (f (s.g t (opRD w)))) (nextPc (s.thr t))) s) :=
  completes_of_result h he hfmt (by rw [g_issued])

/-- An instruction whose effect is a result of PD. -/
theorem completes_of_resultP {f : State → State} {legal v : Bool} (he : exec c s = .next (s.issue t opc w legal f)) (hl : legal = true)
    (hf : f (s.issued t) = (s.issued t).resultP t (opPD w) v) :
    Completes c s (ThreadOnly t (retiredAt ((s.thr t).setPred (opPD w) v) (nextPc (s.thr t))) s) :=
  completes_of_exec he (threadOnly_resultP h opc f legal hl _ v hf)

theorem compare_completes {f : Word → Word → Bool} (hfmt : fmtE w = true) (he : exec c s = .next (s.compare t opc w f)) : Completes c s
    (ThreadOnly t (retiredAt ((s.thr t).setPred (opPD w) (f (s.g t (opEA w)) (s.op2 t w))) (nextPc (s.thr t))) s) :=
  completes_of_resultP h he hfmt (by rw [g_issued, op2_issued])

theorem predOp_completes {f : Bool → Bool → Bool} {legal : Bool} (hi : opI w = false) (hfmt : fmtE w = true) (ha : opEA w < 8)
    (hl : legal = true) (he : exec c s = .next (s.predOp t opc w legal f)) : Completes c s
    (ThreadOnly t (retiredAt ((s.thr t).setPred (opPD w) (f ((s.thr t).pred (opEA w)) ((s.thr t).pred (opEB w)))) (nextPc (s.thr t))) s) :=
  completes_of_resultP h he (by simp [hi, hfmt, names8, ha, hl]) (by rw [thr_issued])

end

/-! ## Integer instructions (R277) -/

/-- Settles O18, each instruction by the lemma of its format. -/
theorem ocellInteger : Obligations.OcellInteger := by
  intro s t w h
  refine ⟨fun hfmt => ?_, aluB_completes (c := .addi t w) h rfl rfl, aluB_completes (c := .andi t w) h rfl rfl,
    aluB_completes (c := .ori t w) h rfl rfl, aluB_completes (c := .xori t w) h rfl rfl, fun himm => ?_, fun hfmt => ?_⟩
  · exact ⟨aluA_completes (c := .add t w) h hfmt rfl, aluA_completes (c := .sub t w) h hfmt rfl,
      aluA_completes (c := .and t w) h hfmt rfl, aluA_completes (c := .or t w) h hfmt rfl,
      aluA_completes (c := .xor t w) h hfmt rfl, aluA_completes (c := .sll t w) h hfmt rfl,
      aluA_completes (c := .srl t w) h hfmt rfl, aluA_completes (c := .sra t w) h hfmt rfl,
      aluA_completes (c := .mul t w) h hfmt rfl, aluA_completes (c := .sel t w) h hfmt rfl⟩
  · have hshift : shiftOk w = true := by simp [shiftOk, himm]
    exact ⟨aluB_completes (c := .slli t w) h hshift rfl, aluB_completes (c := .srli t w) h hshift rfl,
      aluB_completes (c := .srai t w) h hshift rfl⟩
  · exact ⟨aluD_completes (c := .li t w) h hfmt rfl, aluD_completes (c := .lih t w) h hfmt rfl⟩

/-! ## Compares and predicates (R278) -/

theorem cmpLt_eq (a b : Word) : cmpLt a b = decide (a.toInt < b.toInt) := rfl

theorem cmpLtu_eq (a b : Word) : cmpLtu a b = decide (a.toNat < b.toNat) := rfl

theorem not_cmpLt (a b : Word) : (!cmpLt a b) = decide (b.toInt ≤ a.toInt) := by
  rw [cmpLt_eq, ← decide_not]
  exact decide_eq_decide.mpr Int.not_lt

theorem not_cmpLtu (a b : Word) : (!cmpLtu a b) = decide (b.toNat ≤ a.toNat) := by
  rw [cmpLtu_eq, ← decide_not]
  exact decide_eq_decide.mpr Nat.not_lt

/-- Settles O19, each instruction by the lemma of its format. -/
theorem ocellPredicates : Obligations.OcellPredicates := by
  intro s t w h
  refine ⟨fun hfmt => ?_, fun hi hfmt ha => ⟨fun hb => ?_, fun hb => ?_⟩⟩
  · simp only [← not_cmpLt, ← not_cmpLtu, ← cmpLt_eq, ← cmpLtu_eq]
    exact ⟨compare_completes (c := .ceq t w) h hfmt rfl, compare_completes (c := .cne t w) h hfmt rfl,
      compare_completes (c := .clt t w) (f := cmpLt) h hfmt rfl, compare_completes (c := .cltu t w) (f := cmpLtu) h hfmt rfl,
      compare_completes (c := .cge t w) (f := fun a b => !cmpLt a b) h hfmt rfl,
      compare_completes (c := .cgeu t w) (f := fun a b => !cmpLtu a b) h hfmt rfl⟩
  · exact ⟨predOp_completes (c := .pand t w) h hi hfmt ha (decide_eq_true hb) rfl,
      predOp_completes (c := .por t w) h hi hfmt ha (decide_eq_true hb) rfl⟩
  · exact predOp_completes (c := .pnot t w) (f := fun a _ => !a) h hi hfmt ha (beq_iff_eq.mpr hb) rfl

end Sys2Proof.Machine
end

section
/-! PROOFS. `Obligations.OcellBitFields`: byte strings and their numbers (R5), leading zeros, reversed bytes and bit fields (R288, R289). -/

namespace Sys2Proof.Machine

/-! ## Byte strings (R5) -/

theorem length_leBytes (n v : Nat) : (leBytes n v).length = n := by simp [leBytes]

theorem leBytes_succ (n v : Nat) : leBytes (n + 1) v = BitVec.ofNat 8 v :: leBytes n (v / 256) := by
  simp [leBytes, List.range_succ_eq_map, Nat.div_div_eq_div_mul, ← Nat.pow_succ']

/-- The number of a byte string that spells a number is that number, cut to the string's length. -/
theorem ofLe_leBytes (n v : Nat) : ofLe (leBytes n v) = v % 256 ^ n := by
  induction n generalizing v with
  | zero => simp [leBytes, ofLe, Nat.mod_one]
  | succ n ih => rw [leBytes_succ, ofLe, ih, Nat.pow_succ', Nat.mod_mul, BitVec.toNat_ofNat]

theorem ofLe_lt (bs : List Byte) : ofLe bs < 256 ^ bs.length := by
  induction bs with
  | nil => simp [ofLe]
  | cons b bs ih =>
    rw [ofLe, List.length_cons, Nat.pow_succ']
    omega

/-- A byte of a string out of the string's number. -/
theorem ofLe_div_mod (bs : List Byte) (k : Nat) (hk : k < bs.length) : ofLe bs / 256 ^ k % 256 = bs[k].toNat := by
  induction bs generalizing k with
  | nil => simp at hk
  | cons b bs ih =>
    cases k with
    | zero => simp [ofLe]; omega
    | succ k =>
      rw [ofLe, Nat.pow_succ', ← Nat.div_div_eq_div_mul, show (b.toNat + 256 * ofLe bs) / 256 = ofLe bs by omega, List.getElem_cons_succ]
      exact ih k (by simpa using hk)

/-! ## Leading zeros and reversed bytes (R288) -/

theorem clzOf_of_highest {a : Word} {n : Nat} (hn : n < 64) (hset : a.getLsbD (63 - n) = true)
    (hclear : ∀ m, m < n → a.getLsbD (63 - m) = false) : clzOf a = BitVec.ofNat 64 n := by
  have hlow : 2 ^ (63 - n) ≤ a.toNat := Nat.ge_two_pow_of_testBit hset
  have hhigh : a.toNat < 2 ^ (63 - n + 1) := by
    refine Nat.lt_pow_two_of_testBit _ fun i hi => ?_
    by_cases hi' : i < 64
    · have hbit := hclear (63 - i) (by omega)
      rwa [show 63 - (63 - i) = i by omega] at hbit
    · exact BitVec.getLsbD_of_ge a i (by omega)
  have hpos : 0 < 2 ^ (63 - n) := by positivity
  have hlog : Nat.log2 a.toNat = 63 - n := (Nat.log2_eq_iff (by omega)).mpr ⟨hlow, hhigh⟩
  have hne : a ≠ 0 := by
    rintro rfl
    exact absurd hlow (by simp)
  rw [clzOf, if_neg hne, hlog, show 63 - (63 - n) = n by omega]

theorem bswapOf_byte (a : Word) {k : Nat} (hk : k < 8) : (bswapOf a).toNat / 256 ^ k % 256 = a.toNat / 256 ^ (7 - k) % 256 := by
  have hlen : (leBytes 8 a.toNat).reverse.length = 8 := by rw [List.length_reverse, length_leBytes]
  have hlt := ofLe_lt (leBytes 8 a.toNat).reverse
  rw [hlen] at hlt
  have hval : (bswapOf a).toNat = ofLe (leBytes 8 a.toNat).reverse := by
    rw [bswapOf, ofBe, BitVec.toNat_ofNat]
    exact Nat.mod_eq_of_lt hlt
  rw [hval, ofLe_div_mod _ k (by omega), List.getElem_reverse]
  simp [leBytes]

/-! ## Bit fields (R288) -/

theorem ofNat_toPattern (x : Int) : BitVec.ofNat 64 (toPattern 64 x) = BitVec.ofInt 64 x := by
  apply BitVec.eq_of_toNat_eq
  rw [BitVec.toNat_ofNat, BitVec.toNat_ofInt, toPattern]
  exact Nat.mod_eq_of_lt (by omega)

theorem signed_toNat {n : Nat} (hn : 0 < n) (x : BitVec n) : signed n x.toNat = x.toInt := by
  obtain ⟨n, rfl⟩ : ∃ k, n = k + 1 := ⟨n - 1, by omega⟩
  rw [signed, Nat.mod_eq_of_lt x.isLt, BitVec.toInt_eq_toNat_cond, Nat.add_sub_cancel]
  exact if_congr (by rw [Nat.pow_succ]; omega) rfl rfl

/-- The sign-extended field is the sign extension of the field as a vector of its width. -/
theorem bfxsOf_eq (a : Word) (pos : Nat) {len : Nat} (hlen : 0 < len) :
    bfxsOf a pos len = ((a >>> pos).setWidth len).signExtend 64 := by
  have hfield : bits a.toNat pos len = ((a >>> pos).setWidth len).toNat := by
    rw [bits, BitVec.toNat_setWidth, BitVec.toNat_ushiftRight, Nat.shiftRight_eq_div_pow]
  rw [bfxsOf, hfield, signed_toNat hlen, ofNat_toPattern, BitVec.signExtend]

theorem bfLen_pos (w : Nat) : 0 < bfLen w := by
  unfold bfLen
  split <;> omega

/-- Settles O20. -/
theorem ocellBitFields : Obligations.OcellBitFields := by
  refine ⟨fun s t w h => ⟨fun hfit => ?_, fun hfmt => ?_⟩, rfl, fun _ _ hn hset hclear => clzOf_of_highest hn hset hclear,
    fun a _ hk => bswapOf_byte a hk⟩
  · have hbf : bfOk w = true := decide_eq_true hfit
    refine ⟨aluB_completes (c := .bfx t w) (f := fun a => bfxOf a (bfPos w) (bfLen w)) h hbf rfl, ?_,
      aluB_completes (c := .bfi t w) (f := fun a => bfiOf (s.g t (opRD w)) a (bfPos w) (bfLen w)) h hbf rfl⟩
    have hext := bfxsOf_eq (s.g t (opRA w)) (bfPos w) (bfLen_pos w)
    exact hext ▸ aluB_completes (c := .bfxs t w) (f := fun a => bfxsOf a (bfPos w) (bfLen w)) h hbf rfl
  · exact ⟨aluA_completes (c := .clz t w) (f := fun a _ => clzOf a) h hfmt rfl,
      aluA_completes (c := .bswap t w) (f := fun a _ => bswapOf a) h hfmt rfl,
      aluA_completes (c := .crc32cb t w) h hfmt rfl, aluA_completes (c := .crc32cd t w) h hfmt rfl,
      aluA_completes (c := .crc32b t w) h hfmt rfl, aluA_completes (c := .crc32d t w) h hfmt rfl,
      aluA_completes (c := .crc16b t w) h hfmt rfl⟩

end Sys2Proof.Machine
end

section
/-! PROOFS. `Obligations.OcellIssue`: the three forms in which an instruction's meaning issues, what each does at an issue (R275, R294, R304,
R444), and the choice of a core (R302). -/

namespace Sys2Proof.Machine

/-! ## A thread alone -/

/-- The issue cycles of a wrong path touch nothing that an instruction of the thread alone leaves (R304). -/
theorem ThreadOnly.wrongPath {t x : Nat} {th : OclThread} {s u : State} (h : ThreadOnly t th s u) : ThreadOnly t th s (u.wrongPath x) := by
  obtain ⟨hthr, hothers, hmem, hclp, hreg⟩ := h
  simp only [State.wrongPath, State.on]
  split
  · exact ⟨hthr, hothers, hmem, hclp, fun id i j hid =>
      ((reg_congr (bump_regs _ _ _ _ _) id i j).trans (reg_setReg_id _ _ _ _ _ _ hid)).trans (hreg id i j hid)⟩
  · exact ⟨hthr, hothers, hmem, hclp, hreg⟩

/-- A Ready thread that only retires. -/
theorem threadOnly_retire {s : State} {t : Nat} (h : (s.thr t).state = 1) :
    ThreadOnly t (retiredAt (s.thr t) (nextPc (s.thr t))) s ((s.issued t).retire t) := by
  rw [retire_ready (by rwa [thr_issued]), thr_issued]
  exact threadOnly_setThr s t _

theorem ready_of_mayIssue {s : State} {t : Nat} (h : s.mayIssue t = true) : (s.thr t).state = 1 := by
  simp only [State.mayIssue, Bool.and_eq_true, beq_iff_eq] at h
  exact h.1.1.1

/-! ## Branches (R304) and fences (R308) at an issue -/

section
variable {s : State} {t w : Nat} (opc : Nat) (legal : Bool) (f : State → State)

theorem issueBranch_wait (h : s.mayIssue t = false) : s.issueBranch t opc w legal f = s := by
  rw [State.issueBranch, h, issue_wait h]
  rfl

theorem issueBranch_poisoned {k : EccMark} (h : s.mayIssue t = true) (he : s.eccOf (instrMem t) ((s.thr t).pc / 8) = some k)
    (hk : k.poisoned = true) : s.issueBranch t opc w legal f = (s.takeTurn t).except t 4 (BitVec.ofNat 64 (s.thr t).pc) := by
  rw [State.issueBranch, fetch_poisoned he hk, issue_poisoned h he hk, h]
  rfl

theorem issueBranch_good (h : s.mayIssue t = true) (hf : FetchGood t s) :
    s.issueBranch t opc w legal f = (s.issue t opc w legal f).wrongPath t := by
  rw [State.issueBranch, fetch_good hf, h]
  rfl

theorem fence_of_free (h : s.fenceWaits t w = false) : s.fence t w = s.issue t 0x42 w (fenceOk w) fun s => s.retire t := by
  rw [State.fence, h]
  rfl

theorem fenceWaits_of_good (h : s.mayIssue t = true) (hf : FetchGood t s) :
    s.fenceWaits t w = ((s.thr t).pred (opQP w) && opFields w && fenceOk w && opPX w == 0 && s.cmdRuns t) := by
  rw [State.fenceWaits, fetch_good (s := s.takeTurn t) (by rwa [fetchGood_takeTurn]), h]
  rfl

end

/-! ## The forms of an issue (R273–R275) -/

/-- How the meaning of an instruction issues: by itself, as a branch that then resolves, or as a fence that may wait. Of the branches only
`dbnz` can break its format. -/
inductive IssueForm (t w : Nat) (s : State) : Instr → Nat → Bool → Prop
  | plain {c : Instr} {opc : Nat} {legal : Bool} (f : State → State) (he : exec c s = .next (s.issue t opc w legal f))
      (hc : c ≠ .dbnz t w) : IssueForm t w s c opc legal
  | branch {c : Instr} {opc : Nat} {legal : Bool} (f : State → State) (he : exec c s = .next (s.issueBranch t opc w legal f))
      (hc : legal = false → c = .dbnz t w) : IssueForm t w s c opc legal
  | fence {c : Instr} (he : exec c s = .next (s.fence t w)) (hc : c ≠ .dbnz t w) : IssueForm t w s c 0x42 (fenceOk w)

section
variable (t w : Nat) (s : State)

theorem ocellMem_form : ∀ e ∈ ocellMem t w, IssueForm t w s e.1 e.2.1 e.2.2 := by
  simp only [ocellMem, List.forall_mem_cons, List.not_mem_nil, IsEmpty.forall_iff, implies_true, and_true]
  refine ⟨.branch _ rfl (by nofun), .branch _ rfl (by nofun), .branch _ rfl (by nofun), .branch _ rfl fun _ => rfl, ?_, ?_, ?_, ?_, ?_, ?_,
    ?_, ?_, ?_, ?_, .fence rfl (by nofun), .fence rfl (by nofun), .fence rfl (by nofun)⟩ <;> exact .plain _ rfl (by nofun)

/-- Every instruction but branches and fences issues by itself. -/
theorem ocellPlain_form : ∀ e ∈ ocellInt t w ++ ocellPred t w ++ ocellRun t w ++ ocellHandle t w ++ ocellBits t w ++ ocellSys t w (s.thr t),
    IssueForm t w s e.1 e.2.1 e.2.2 := by
  simp only [ocellInt, ocellPred, ocellRun, ocellHandle, ocellBits, ocellSys, List.forall_mem_append, List.forall_mem_cons,
    List.not_mem_nil, IsEmpty.forall_iff, implies_true, and_true]
  and_intros <;> exact .plain _ rfl (by nofun)

theorem ocellOps_form : ∀ e ∈ ocellOps t w (s.thr t), IssueForm t w s e.1 e.2.1 e.2.2 := by
  have hplain := ocellPlain_form t w s
  simp only [List.forall_mem_append] at hplain
  obtain ⟨⟨⟨⟨⟨hint, hpred⟩, hrun⟩, hhandle⟩, hbits⟩, hsys⟩ := hplain
  simp only [ocellOps, List.forall_mem_append]
  exact ⟨⟨⟨⟨⟨⟨hint, hpred⟩, ocellMem_form t w s⟩, hrun⟩, hhandle⟩, hbits⟩, hsys⟩

end

section
variable {s : State} {t w opc : Nat} {c : Instr} {legal : Bool} (hform : IssueForm t w s c opc legal)
include hform

theorem IssueForm.waits (h : s.mayIssue t = false) : exec c s = .next s := by
  cases hform with
  | plain f he => rw [he, issue_wait h]
  | branch f he => rw [he, issueBranch_wait _ _ _ h]
  | fence he => rw [he, fence_of_free (by simp [State.fenceWaits, h]), issue_wait h]

theorem IssueForm.poisoned {k : EccMark} (h : s.mayIssue t = true) (he : s.eccOf (instrMem t) ((s.thr t).pc / 8) = some k)
    (hk : k.poisoned = true) : exec c s = .next ((s.takeTurn t).except t 4 (BitVec.ofNat 64 (s.thr t).pc)) := by
  cases hform with
  | plain f hexec => rw [hexec, issue_poisoned h he hk]
  | branch f hexec => rw [hexec, issueBranch_poisoned _ _ _ h he hk]
  | fence hexec =>
    have hbad : ((s.takeTurn t).fetch t).1 = true := by
      rw [fetch_poisoned (s := s.takeTurn t) (k := k) (by rwa [thr_takeTurn, State.eccOf, ecc_takeTurn]) hk]
    rw [hexec, fence_of_free (by simp [State.fenceWaits, hbad]), issue_poisoned h he hk]

theorem IssueForm.guardedOff (h : s.mayIssue t = true) (hf : FetchGood t s) (hp : (s.thr t).pred (opQP w) = false) :
    Completes c s (ThreadOnly t (retiredAt (s.thr t) (nextPc (s.thr t))) s) := by
  have hretire := threadOnly_retire (ready_of_mayIssue h)
  cases hform with
  | plain f he => exact completes_of_exec he (by rwa [issue_off h hf hp])
  | branch f he => exact completes_of_exec he (by rw [issueBranch_good _ _ _ h hf, issue_off h hf hp]; exact hretire.wrongPath)
  | fence he =>
    exact completes_of_exec he (by rwa [fence_of_free (by simp [fenceWaits_of_good h hf, hp]), issue_off h hf hp])

theorem IssueForm.illegal (h : Issues t w s) (hillegal : legal = false) :
    let u := (s.issued t).except t 1 (BitVec.ofNat 64 (opc * 2 ^ 25 + w))
    Completes c s fun v => v = if c = .dbnz t w then u.wrongPath t else u := by
  have ⟨hmay, hfetch, _, hfields⟩ := h
  have hword (opc : Nat) : opWord opc w = opc * 2 ^ 25 + w := by rw [opWord, hfields, if_pos rfl]
  cases hform with
  | plain f he hc => exact completes_of_exec he (by rw [issue_run h, hillegal, hword, if_neg hc]; rfl)
  | branch f he hc =>
    exact completes_of_exec he (by rw [issueBranch_good _ _ _ hmay hfetch, issue_run h, hillegal, hword, if_pos (hc hillegal)]; rfl)
  | fence he hc =>
    have hbad : fenceOk w = false := hillegal
    exact completes_of_exec he
      (by rw [fence_of_free (by simp [fenceWaits_of_good hmay hfetch, hbad]), issue_run h, hbad, hword, if_neg hc]; rfl)

end

/-- A word whose OPC is not assigned comes whole, and raises ILLEGAL with itself as EINFO (R294). -/
theorem add_unassigned_completes {s : State} {t w : Nat} (h : s.mayIssue t = true) (hf : FetchGood t s)
    (hp : (s.thr t).pred (opQP w) = true) (hw : opFields w = false) :
    Completes (.add t w) s fun u => u = (s.issued t).except t 1 (BitVec.ofNat 64 (w % 2 ^ 32)) := by
  have hfetch := fetch_good (s := s.takeTurn t) (by rwa [fetchGood_takeTurn])
  refine completes_of_exec (t := s.aluA t 0x00 w fun a b => a + b) rfl ?_
  simp [State.aluA, State.issue, State.issued, h, hfetch, hp, hw, opWord]

/-! ## The choice of a core (R302) -/

theorem prio_lt (s : State) (t : Nat) : s.prio t < 2 := fld_lt s F.OCL_THR_CTL_PRIO _ _

/-- The threads of a core, in whatever order its last issue gives. -/
theorem mem_coreOrder {a k t : Nat} : t ∈ (List.range 4).map (fun i => 4 * k + (a + 1 + i) % 4) ↔ t / 4 = k := by
  simp only [List.mem_map, List.mem_range]
  constructor
  · rintro ⟨i, _, rfl⟩
    omega
  · exact fun h => ⟨(t + 3 * (a + 1)) % 4, by omega, by omega⟩

/-- A contender of a core is a Ready thread of it of the highest PRIO. -/
theorem mem_contenders {s : State} {k t : Nat} : t ∈ s.contenders k ↔
    (t / 4 = k ∧ (s.thr t).state = 1) ∧ ∀ u, u / 4 = k → (s.thr u).state = 1 → s.prio u ≤ s.prio t := by
  have hready {u : Nat} : u ∈ ((List.range 4).map fun i => 4 * k + (SMap.getD s.ocl.turns k 3 + 1 + i) % 4).filter
      (fun t => (s.thr t).state == 1) ↔ u / 4 = k ∧ (s.thr u).state = 1 := by
    rw [List.mem_filter, mem_coreOrder, beq_iff_eq]
  simp only [State.contenders, List.isEmpty_iff]
  split
  · next hlow =>
    simp only [List.filter_eq_nil_iff, hready, beq_iff_eq] at hlow
    rw [hready]
    refine ⟨fun h => ⟨h, fun u hu hs => ?_⟩, And.left⟩
    have := hlow u ⟨hu, hs⟩
    have := prio_lt s u
    omega
  · next hhigh =>
    obtain ⟨v, hv⟩ := List.exists_mem_of_ne_nil _ hhigh
    rw [List.mem_filter, hready, beq_iff_eq] at hv ⊢
    refine and_congr_right fun h => ⟨fun h1 u _ _ => ?_, fun hmax => ?_⟩
    · have := prio_lt s u
      omega
    · have := hmax v hv.1.1 hv.1.2
      have := prio_lt s t
      omega

/-- The choice falls on a contender, and on one that yielded only where every contender has. -/
theorem chosen_contender {s : State} {k t : Nat} (h : s.chosen k = some t) :
    t ∈ s.contenders k ∧ (t ∈ s.ocl.passes → ∀ u ∈ s.contenders k, u ∈ s.ocl.passes) := by
  simp only [State.chosen, List.isEmpty_iff] at h
  split at h
  · next hkeen =>
    refine ⟨List.mem_of_head? h, fun _ u hu => ?_⟩
    simpa using List.filter_eq_nil_iff.mp hkeen u hu
  · have hmem := List.mem_filter.mp (List.mem_of_head? h)
    exact ⟨hmem.1, fun hpass => by simp [hpass] at hmem⟩

theorem chosen_spec {s : State} {k t : Nat} (h : s.chosen k = some t) : t / 4 = k ∧ (s.thr t).state = 1 ∧
    (∀ u, u / 4 = k → (s.thr u).state = 1 → s.prio u ≤ s.prio t) ∧
    (t ∈ s.ocl.passes → ∀ u, u / 4 = k → (s.thr u).state = 1 → s.prio u = s.prio t → u ∈ s.ocl.passes) := by
  obtain ⟨hmem, hpass⟩ := chosen_contender h
  obtain ⟨⟨hcore, hstate⟩, hmax⟩ := mem_contenders.mp hmem
  exact ⟨hcore, hstate, hmax, fun hp u hu hs hprio =>
    hpass hp u (mem_contenders.mpr ⟨⟨hu, hs⟩, fun v hv hvs => hprio ▸ hmax v hv hvs⟩)⟩

/-- A core with a Ready thread has a contender. -/
theorem contenders_ne_nil {s : State} {k t : Nat} (hk : t / 4 = k) (hs : (s.thr t).state = 1) : s.contenders k ≠ [] := by
  by_cases hhigh : ∃ v, v / 4 = k ∧ (s.thr v).state = 1 ∧ s.prio v = 1
  · obtain ⟨v, hv, hvs, hprio⟩ := hhigh
    refine List.ne_nil_of_mem (mem_contenders.mpr ⟨⟨hv, hvs⟩, fun u _ _ => ?_⟩)
    have := prio_lt s u
    omega
  · refine List.ne_nil_of_mem (mem_contenders.mpr ⟨⟨hk, hs⟩, fun u hu hus => ?_⟩)
    have : s.prio u ≠ 1 := fun hprio => hhigh ⟨u, hu, hus, hprio⟩
    have := prio_lt s u
    omega

theorem chosen_exists {s : State} {k t : Nat} (hk : t / 4 = k) (hs : (s.thr t).state = 1) : ∃ u, s.chosen k = some u := by
  refine Option.ne_none_iff_exists'.mp fun hnone => ?_
  simp only [State.chosen, List.head?_eq_none_iff, List.isEmpty_iff] at hnone
  split at hnone
  · exact contenders_ne_nil hk hs hnone
  · contradiction

/-- Settles O22: each instruction by the form in which it issues. -/
theorem ocellIssue : Obligations.OcellIssue :=
  ⟨fun s t w h e he => (ocellOps_form t w s e he).waits h,
    fun s t w _ h hecc hk e he => completes_of_exec ((ocellOps_form t w s e he).poisoned h hecc hk) rfl,
    fun s t w h hf hp e he => (ocellOps_form t w s e he).guardedOff h hf hp,
    fun s t w h e he hillegal => (ocellOps_form t w s e he).illegal h hillegal,
    fun _ _ _ h hf hp hw => add_unassigned_completes h hf hp hw,
    fun _ _ _ h => chosen_spec h,
    fun _ _ _ hk hs => chosen_exists hk hs⟩

end Sys2Proof.Machine
end

section
/-! PROOFS. What leaves the threads of the Ocell cores as they are (R332–R346, R438–R448, R505–R513): memory words, the Silt recorder, cells,
runnels and completions; and what leaves the runnels as they are. -/

namespace Sys2Proof.Machine

variable (s : State)

/-! ## The shared shapes -/

/-- A conditional effect that leaves the threads alone. -/
theorem on_ocl {s u : State} {c : Bool} {f : State → State} (hf : ∀ v, (f v).ocl = v.ocl) (h : u.ocl = s.ocl) : (u.on c f).ocl = s.ocl :=
  on_keeps (P := fun v : State => v.ocl = s.ocl) c h ((hf u).trans h)

/-- A fold whose every turn leaves the threads alone. -/
theorem foldl_ocl {α : Type} {f : State → α → State} (h : ∀ u a, (f u a).ocl = u.ocl) (l : List α) (s : State) :
    (l.foldl f s).ocl = s.ocl :=
  List.foldlRecOn (motive := fun u : State => u.ocl = s.ocl) l f rfl fun u hu a _ => (h u a).trans hu

/-! ## Memory words and the Silt recorder (R439–R448, R505–R513) -/

@[simp] theorem setMemBytes_ocl (m o : Nat) (bs : List Byte) : (s.setMemBytes m o bs).ocl = s.ocl := by
  induction bs generalizing s o with
  | nil => rfl
  | cons b bs ih => rw [State.setMemBytes, ih, setMemByte_ocl]

@[simp] theorem setMemWord_ocl (m w v : Nat) : (s.setMemWord m w v).ocl = s.ocl := setMemBytes_ocl s m _ _

@[simp] theorem flipApply_ocl (m w : Nat) : (s.flipApply m w).ocl = s.ocl := by
  unfold State.flipApply
  split
  · rw [bump_ocl, raise_ocl, setFld_ocl]
    exact on_ocl (fun u => eccSet_ocl u m w _) rfl
  · rfl

@[simp] theorem memWrite_ocl (m w v : Nat) : (s.memWrite m w v).ocl = s.ocl := by simp [State.memWrite]

@[simp] theorem memWrites_ocl (m w : Nat) (vs : List Nat) : (s.memWrites m w vs).ocl = s.ocl := by
  induction vs generalizing s w with
  | nil => rfl
  | cons v vs ih => rw [State.memWrites, ih, memWrite_ocl]

@[simp] theorem sealWords_ocl (m : Nat) (ws : List Nat) : (s.sealWords m ws).ocl = s.ocl := by
  induction ws generalizing s with
  | nil => rfl
  | cons w ws ih => rw [State.sealWords, ih, flipApply_ocl, eccClear_ocl]

@[simp] theorem mergePiece_ocl (p : Nat × Nat × List Byte) : (s.mergePiece p).ocl = s.ocl := by simp [State.mergePiece]

@[simp] theorem flushAsk_ocl : s.flushAsk.ocl = s.ocl := by
  unfold State.flushAsk
  split <;> rfl

@[simp] theorem siltPost_ocl (code value rank : Nat) : (s.siltPost code value rank).ocl = s.ocl := by
  have hwrite (u : State) (base seq : Nat) (rs : List (Nat × Nat × Nat)) : (u.siltWrite base seq rs).ocl = u.ocl :=
    foldl_ocl (fun u _ => memWrites_ocl u 7 _ _) _ u
  have hevent (u : State) (f : Fld) (n : Nat) :
      (({ u with obs := { u.obs with lost := n } }.bump F.OBS_CNT_SILT_LOST_COUNT).raise f).ocl = u.ocl := raise_ocl _ _ _
  simp only [State.siltPost]
  split
  · exact on_ocl flushAsk_ocl <| on_ocl (fun _ => rfl) <| on_ocl (fun _ => hevent _ _ _) <| on_ocl (fun _ => rfl) <| hwrite _ _ _ _
  · exact on_ocl (fun _ => rfl) <| on_ocl (fun _ => hevent _ _ _) <| on_ocl (fun _ => rfl) <| hwrite _ _ _ _

/-! ## Cells (R344–R346) -/

@[simp] theorem takeCells_ocl (n : Nat) : (s.takeCells n).2.ocl = s.ocl := by
  induction n generalizing s with
  | zero => rfl
  | succ n ih =>
    simp only [State.takeCells]
    split <;> exact ih _

@[simp] theorem allocFloor_ocl (len : Nat) : (s.allocFloor len).2.ocl = s.ocl := by
  unfold State.allocFloor State.allocAbove
  split
  · exact takeCells_ocl s _
  · rw [raise_ocl, bump_ocl]

@[simp] theorem doubleFree_ocl (c : Nat) : (s.doubleFree c).ocl = s.ocl := by
  rw [State.doubleFree, siltPost_ocl, raise_ocl, bump_ocl]

@[simp] theorem freeWalk_ocl (n c : Nat) : (s.freeWalk n c).ocl = s.ocl := by
  induction n generalizing s c with
  | zero => rfl
  | succ n ih =>
    simp only [State.freeWalk]
    split
    · exact doubleFree_ocl s c
    · split
      · rfl
      · exact ih _ _

@[simp] theorem freeChain_ocl (c : Nat) : (s.freeChain c).ocl = s.ocl := freeWalk_ocl s _ c

/-! ## Runnels (R332–R342) -/

@[simp] theorem retract_ocl (f : Fld) (i : Nat) : (s.retract f i).ocl = s.ocl := by
  simp only [State.retract]
  split <;> rfl

@[simp] theorem retract_run (f : Fld) (i : Nat) : (s.retract f i).run = s.run := by
  simp only [State.retract]
  split <;> rfl

/-- A watermark's judgement keeps whatever field writes and events keep. -/
theorem crossing_keeps {α : Type} {p : State → α} (hset : ∀ u f v i j, p (State.setFld u f v i j) = p u)
    (hnote : ∀ u f i, p (State.noteEvent u f i) = p u) (hraise : ∀ u f i, p (State.raise u f i) = p u)
    (hretract : ∀ u f i, p (State.retract u f i) = p u) (notice count : Fld) (n : Nat) (was : Word) (crossed : Bool) :
    p (s.crossing notice count n was crossed) = p s := by
  simp only [State.crossing]
  split
  · split
    · rw [hset, hnote]
    · rw [hraise]
  · split
    · rw [hset]
    · exact on_keeps (P := fun u => p u = p s) _ rfl (hretract _ _ _)

@[simp] theorem judgeMarks_ocl (n : Nat) : (s.judgeMarks n).ocl = s.ocl := by
  have hcrossing (u : State) := crossing_keeps u (p := State.ocl) setFld_ocl noteEvent_ocl raise_ocl retract_ocl
  rw [State.judgeMarks, hcrossing, hcrossing]

@[simp] theorem judgeMarks_run (n : Nat) : (s.judgeMarks n).run = s.run := by
  have hcrossing (u : State) := crossing_keeps u (p := State.run) setFld_run noteEvent_run raise_run retract_run
  rw [State.judgeMarks, hcrossing, hcrossing]

@[simp] theorem land_ocl (n : Nat) (ws : List RunWord) (who : Nat) : (s.land n ws who).ocl = s.ocl := by
  simp only [State.land, judgeMarks_ocl, bump_ocl]
  rfl

@[simp] theorem lostPush_ocl (n : Nat) : (s.lostPush n).ocl = s.ocl := by
  rw [State.lostPush, siltPost_ocl, raise_ocl, bump_ocl]

@[simp] theorem enginePush_ocl (n : Nat) (ws : List RunWord) (req : Nat) : (s.enginePush n ws req).ocl = s.ocl := by
  simp only [State.enginePush]
  split
  · exact lostPush_ocl s n
  · split
    · exact land_ocl s n ws 255
    · rfl

@[simp] theorem noteBad_ocl (n k : Nat) : (s.noteBad n k).ocl = s.ocl := on_ocl (fun _ => raise_ocl _ _ _) rfl

@[simp] theorem noteBad_run (n k : Nat) : (s.noteBad n k).run = s.run :=
  on_keeps (P := fun u : State => u.run = s.run) _ rfl (raise_run _ _ _)

@[simp] theorem popWords_ocl (n k : Nat) : (s.popWords n k).2.ocl = s.ocl := by
  simp only [State.popWords, State.unqueue, noteBad_ocl, bump_ocl, judgeMarks_ocl]
  rfl

/-! ## Completions (R17, R122, R141, R148, R166, R171, R466) -/

@[simp] theorem freeDesc_ocl (d : TxDesc) : (s.freeDesc d).ocl = s.ocl := on_ocl (fun _ => freeChain_ocl _ _) rfl

@[simp] theorem pushTxDone_ocl (d : TxDesc) (status launch asn rssi : Nat) : (s.pushTxDone d status launch asn rssi).ocl = s.ocl := by
  unfold State.pushTxDone
  split
  · rfl
  · exact enginePush_ocl s _ _ _

@[simp] theorem sharedDone_ocl (g : Nat) (ok : Bool) : (s.sharedDone g ok).2.ocl = s.ocl := by
  simp only [State.sharedDone]
  split
  · exact freeChain_ocl _ _
  · rfl

@[simp] theorem bcnCopyDone_ocl (g : Nat) (st : Status) : (s.bcnCopyDone g st).ocl = s.ocl := by
  simp only [State.bcnCopyDone, sharedDone_ocl]
  split
  · rfl
  · exact raise_ocl _ _ _

@[simp] theorem spwCopyDone_ocl (k g : Nat) (st : Status) : (s.spwCopyDone k g st).ocl = s.ocl :=
  on_ocl (fun _ => rfl) <| (sharedDone_ocl _ _ _).trans <| on_ocl (fun _ => raise_ocl _ _ _) <| on_ocl (fun _ => rfl) rfl

@[simp] theorem takeoverDone_ocl (st : Status) : (s.takeoverDone st).ocl = s.ocl := by
  simp only [State.takeoverDone]
  split
  · rfl
  · exact on_ocl (fun _ => rfl) (raise_ocl _ _ _)

@[simp] theorem deliverTx_ocl (o : TxOrigin) (d : TxDesc) (st : Status) (launch asn rssi : Nat) (frees : Bool) :
    (s.deliverTx o d st launch asn rssi frees).ocl = s.ocl := by
  have hposted : (s.on (decide (st = .internal)) fun s => s.siltInternal 3 0).ocl = s.ocl := on_ocl (fun u => siltPost_ocl u _ _ _) rfl
  have hfreed := on_ocl (c := frees) (fun u => freeDesc_ocl u d) hposted
  cases o with
  | runnel n => exact (pushTxDone_ocl _ _ _ _ _ _).trans hfreed
  | spec n tid => exact (pushTxDone_ocl _ _ _ _ _ _).trans hfreed
  | ack key =>
    simp only [State.deliverTx]
    split
    · exact hfreed
    · exact (raise_ocl _ _ _).trans hfreed
  | beacon g => exact (bcnCopyDone_ocl _ g st).trans hposted
  | spw k g => exact (spwCopyDone_ocl _ k g st).trans hposted
  | takeover => exact (takeoverDone_ocl _ st).trans hfreed

@[simp] theorem nearUpdate_ocl : s.nearUpdate.ocl = s.ocl := on_ocl (fun _ => raise_ocl _ _ _) rfl

@[simp] theorem nearSeen_ocl : s.nearSeen.ocl = s.ocl := by
  simp only [State.nearSeen]
  split <;> exact nearUpdate_ocl s

@[simp] theorem coexEnd_ocl (j : Nat) (f : TxFrame) : (s.coexEnd j f).ocl = s.ocl := by
  unfold State.coexEnd State.coexUpdate
  split
  · dsimp only
    split <;> exact on_ocl (fun _ => rfl) rfl
  · rfl

@[simp] theorem weirRelease_ocl (es : List Nat) (a : Nat) : (s.weirRelease es a).ocl = s.ocl := foldl_ocl (fun u _ => setFld_ocl u _ _ _ _) es _

/-- The completion of a SPECULATIVE descriptor that a drop gives up leaves every thread alone (R314). -/
@[simp] theorem specDrop_ocl (cells : List Nat) (i : SpecItem) : (s.specDrop cells i).ocl = s.ocl := by
  simp only [State.specDrop]
  split
  · exact deliverTx_ocl s _ _ _ _ _ _ _
  · split
    · refine on_ocl (fun _ => rfl) ((deliverTx_ocl _ _ _ _ _ _ _ _).trans ?_)
      refine on_ocl (fun _ => raise_ocl _ _ _) ?_
      rw [nearUpdate_ocl, weirRelease_ocl, coexEnd_ocl]
      exact nearSeen_ocl s
    · rfl

@[simp] theorem specsDrop_ocl (t : Nat) (cells : List Nat) : (s.specsDrop t cells).ocl = s.ocl :=
  foldl_ocl (fun u i => specDrop_ocl u cells i) _ _

/-! ## Jomuter's keys (R461) -/

@[simp] theorem mirrorPost_ocl (cls idx : Nat) (ws : List Word) : (s.mirrorPost cls idx ws).ocl = s.ocl := by
  simp only [State.mirrorPost]
  (repeat' split) <;> rfl

@[simp] theorem keyGroups_ocl (n : Nat) : (s.keyGroups n).ocl = s.ocl := by
  induction n generalizing s with
  | zero => rfl
  | succ n ih =>
    simp only [State.keyGroups]
    split
    · rw [ih, mirrorPost_ocl, popWords_ocl]
    · rfl

@[simp] theorem threadLand_ocl (t n : Nat) (ws : List Word) : (s.threadLand t n ws).ocl = s.ocl :=
  on_ocl (fun u => keyGroups_ocl u _) (land_ocl s n _ t)

end Sys2Proof.Machine
end

section
/-! PROOFS. `Obligations.OcellExceptions`, `Obligations.OcellSystem` and `Obligations.OcellBranches`: a thread's record through a change of its
STATE, a retirement and an exception (R292, R303, R318, R320), the system instructions (R266, R267, R293, R321) and branches (R279, R280). -/

namespace Sys2Proof.Machine

/-! ## A thread's record -/

theorem thr_of_ocl {s u : State} (h : u.ocl = s.ocl) (t : Nat) : u.thr t = s.thr t := by rw [State.thr, h, State.thr]

/-- A change of STATE ends the wait and settles what the watchdog and the wait have counted; the rest of the record stays. -/
theorem setThrState_thr (s : State) (t st : Nat) : ∃ acc since wait rest, (s.setThrState t st).thr t =
    { s.thr t with state := st, wait := none, wdAcc := acc, wdFrom := since, waitFrom := wait, waitRest := rest } := by
  have hcount : ∃ wait rest, (s.waitCount t).thr t = { s.thr t with waitFrom := wait, waitRest := rest } := by
    simp only [State.waitCount]
    split
    · exact on_keeps (P := fun u : State => ∃ wait rest, u.thr t = { s.thr t with waitFrom := wait, waitRest := rest }) _
        ⟨_, _, thr_setThr _ _ _⟩ ⟨_, _, thr_setThr _ _ _⟩
    · exact ⟨_, _, rfl⟩
  obtain ⟨wait, rest, hcount⟩ := hcount
  refine ⟨(s.waitCount t).wdNs t, (s.waitCount t).clp.now, wait, rest, ?_⟩
  rw [State.setThrState, thr_setThr, State.wdHold, thr_setThr, hcount]

/-- A Ready thread with a new record retires. -/
theorem setThr_retire (s : State) {t : Nat} {th : OclThread} (h : th.state = 1) :
    (s.setThr t th).retire t = s.setThr t (retiredAt th (nextPc th)) := by
  rw [retire_ready (by rwa [thr_setThr]), thr_setThr, setThr_setThr]

theorem threadOnly_setThr_retire (s : State) {t : Nat} {th : OclThread} (h : th.state = 1) :
    ThreadOnly t (retiredAt th (nextPc th)) s (((s.issued t).setThr t th).retire t) := by
  rw [setThr_retire _ h]
  exact threadOnly_setThr s t _

/-! ## Exceptions (R292, R318, R320) -/

theorem except_of_none {s : State} {t : Nat} (h : (s.thr t).region = none) (cause : Nat) (einfo : Word) :
    s.except t cause einfo = s.deliver t cause einfo := by rw [State.except, h]; rfl

theorem oclCount_ocl (s : State) (f : Fld) (t : Nat) : (s.oclCount f t).ocl = s.ocl := on_ocl (fun _ => rfl) rfl

theorem oclCount_mem (s : State) (f : Fld) (t : Nat) : (s.oclCount f t).mem = s.mem :=
  on_keeps (P := fun u : State => u.mem = s.mem) _ rfl rfl

theorem oclCount_reg (s : State) (f : Fld) (t : Nat) {id : RegId} (h : id ≠ f.reg) (i j : Nat) : (s.oclCount f t).reg id i j = s.reg id i j :=
  on_keeps (P := fun u : State => u.reg id i j = s.reg id i j) _ rfl
    ((reg_congr (bump_regs _ _ _ _ _) id i j).trans (reg_setReg_id _ _ _ _ _ _ h))

section
variable {s : State} {t : Nat} (cause : Nat) (einfo : Word)

/-- An exception of a Ready thread is delivered (R318). -/
theorem except_delivers (hregion : (s.thr t).region = none) (hexc : (s.thr t).exc = false) (hevec : (s.thr t).evec ≠ 0)
    (hstate : (s.thr t).state = 1) : s.except t cause einfo = (s.setThr t { s.thr t with
      epc := BitVec.ofNat 64 (s.thr t).pc, ecause := BitVec.ofNat 64 cause, einfo := einfo, exc := true,
      pc := (s.thr t).evec.toNat % 32768 }).oclCount F.OCL_CNT_EXC_COUNT t := by
  rw [except_of_none hregion, State.deliver, if_neg (not_or.mpr ⟨by simp [hexc], hevec⟩), hstate]
  rfl

/-- An exception that cannot be delivered is the Fault of the thread (R320). -/
theorem except_faults (ht : t < 128) (hregion : (s.thr t).region = none) (hfault : (s.thr t).exc = true ∨ (s.thr t).evec = 0) :
    (s.except t cause einfo).thr t = { (s.setThrState t 4).thr t with
      epc := BitVec.ofNat 64 ((s.setThrState t 4).thr t).pc, ecause := BitVec.ofNat 64 cause, einfo := einfo } := by
  rw [except_of_none hregion, State.deliver, if_pos hfault, State.thrFault, beq_eq_false_iff_ne.mpr (by omega : t ≠ 129), on_false,
    thr_of_ocl (siltPost_ocl _ _ _ _), State.oclEvent, thr_of_ocl (raise_ocl _ _ _), thr_setThr]

/-- An exception inside a region drops it, and records its cause and information (R292). -/
theorem except_drops {r : Region} (hregion : (s.thr t).region = some r) : (s.except t cause einfo).thr t =
    { (s.dropTo t 3).thr t with ecause := BitVec.ofNat 64 cause, einfo := einfo } := by
  rw [State.except, hregion]
  exact thr_setThr _ _ _

/-- A drop by the thread: its registers and RETIRED as they stood at spb, at the drop target (R292, R311). -/
theorem dropTo_thr {r : Region} (hregion : (s.thr t).region = some r) (cause : Nat) : (s.dropTo t cause).thr t =
    { ((s.regionDrop t).setThrState t 1).thr t with
      g := r.g, p := r.p, h := r.h, retired := r.retired, pc := r.target, dropCause := cause } := by
  rw [State.dropTo, hregion]
  exact thr_setThr _ _ _

end

/-- Settles O23. -/
theorem ocellExceptions : Obligations.OcellExceptions := by
  refine ⟨fun s t cause einfo hregion hexc hevec hstate => ?_, fun s t cause einfo ht hregion hfault => ?_,
    fun s t cause einfo r hregion => ?_⟩
  · dsimp only
    rw [except_delivers cause einfo hregion hexc hevec hstate]
    refine ⟨?_, fun x hx => ?_, fun m o => ?_, fun id i j hid => oclCount_reg _ _ _ hid i j⟩
    · rw [thr_of_ocl (oclCount_ocl _ _ _), thr_setThr]
    · rw [thr_of_ocl (oclCount_ocl _ _ _), thr_setThr_ne _ _ hx]
    · rw [State.memByte, oclCount_mem, State.memByte, setThr_mem]
  · dsimp only
    obtain ⟨_, _, _, _, hthr⟩ := setThrState_thr s t 4
    rw [except_faults cause einfo ht hregion hfault, hthr]
    exact ⟨rfl, rfl, rfl, rfl, rfl, rfl⟩
  · dsimp only
    rw [except_drops cause einfo hregion, dropTo_thr hregion]
    exact ⟨rfl, rfl, rfl, rfl, rfl, rfl, rfl⟩

/-! ## System instructions (R266, R267, R293, R321) -/

@[simp] theorem special_issued (s : State) (t n : Nat) : (s.issued t).special t n = s.special t n := by
  have hocl : (s.issued t).ocl.still = s.ocl.still ∧ (s.issued t).ocl.stopped = s.ocl.stopped := by
    rw [State.issued, ocl_issueCount, State.takeTurn]
    split <;> exact ⟨rfl, rfl⟩
  simp only [State.special, State.cycles, State.lagNow, thr_issued, clp_issued, pwr_issued, hocl]

@[simp] theorem setSpecial_state (th : OclThread) (n : Nat) (v : Word) : (th.setSpecial n v).state = th.state := by
  unfold OclThread.setSpecial; split <;> rfl

@[simp] theorem setSpecial_pc (th : OclThread) (n : Nat) (v : Word) : (th.setSpecial n v).pc = th.pc := by
  unfold OclThread.setSpecial; split <;> rfl

theorem unlessRegion_of_some {s : State} {t : Nat} (h : (s.thr t).region ≠ none) (f : State → State) :
    s.unlessRegion t f = s.dropTo t 4 := by
  rw [State.unlessRegion, if_pos (Option.isSome_iff_ne_none.mpr h)]

theorem wdDeliver_of_not_due {s : State} {t : Nat} (h : (s.thr t).wdDue = false) : s.wdDeliver t = s := by
  rw [State.wdDeliver, h]
  rfl

/-- The list of threads that yielded lies beside what a retirement touches. -/
theorem retire_withPasses {s : State} {t : Nat} (h : (s.thr t).state = 1) (ps : List Nat) :
    State.retire { s with ocl := { s.ocl with passes := ps } } t =
      { s.retire t with ocl := { (s.retire t).ocl with passes := ps } } := by
  rw [retire_ready h, retire_ready (by exact h)]
  rfl

theorem ThreadOnly.withPasses {t : Nat} {th : OclThread} {s u : State} (h : ThreadOnly t th s u) (ps : List Nat) :
    ThreadOnly t th s { u with ocl := { u.ocl with passes := ps } } := h

theorem brkHalt_issued (s : State) (t : Nat) : (s.issued t).brkHalt t = s.brkHalt t := by
  unfold State.brkHalt
  rw [flag_issued _ _ _ _ (by decide), flag_issued _ _ _ _ (by decide)]

section
variable {s : State} {t w : Nat} (h : Issues t w s)
include h

theorem mfs_completes (hfmt : fmtA w = true) : Completes (.mfs t w) s
    (ThreadOnly t (retiredAt ((s.thr t).setReg (opRD w) (s.special t (opRB w))) (nextPc (s.thr t))) s) :=
  completes_of_result (c := .mfs t w) h rfl hfmt (by rw [special_issued])

theorem mts_completes (hfmt : fmtA w = true) (hn : 3 ≤ opRB w ∧ opRB w ≤ 7 ∨ opRB w = 11) (hregion : (s.thr t).region = none) :
    Completes (.mts t w) s (ThreadOnly t (retiredAt ((s.thr t).setSpecial (opRB w) (s.g t (opRA w))) (nextPc (s.thr t))) s) := by
  refine completes_of_issue (c := .mts t w) h rfl (by simp [hfmt, mtsOk]; omega) ?_
  rw [if_neg (by omega), unlessRegion_of_none (by rwa [thr_issued]), thr_issued, g_issued]
  simpa [nextPc] using threadOnly_setThr_retire s (th := (s.thr t).setSpecial (opRB w) (s.g t (opRA w))) (by simp [h.ready])

theorem mts_kicks (hfmt : fmtA w = true) (hn : opRB w = 12) : Completes (.mts t w) s
    (ThreadOnly t (retiredAt { s.thr t with wdAcc := 0, wdFrom := s.clp.now, stage := false } (nextPc (s.thr t))) s) := by
  refine completes_of_issue (c := .mts t w) h rfl (by simp [hfmt, mtsOk, hn]) ?_
  rw [if_pos hn, State.wdKick, thr_issued, clp_issued]
  exact threadOnly_setThr_retire s (th := { s.thr t with wdAcc := 0, wdFrom := s.clp.now, stage := false }) h.ready

theorem mts_drops (hfmt : fmtA w = true) (hn : 3 ≤ opRB w ∧ opRB w ≤ 7 ∨ opRB w = 11) (hregion : (s.thr t).region ≠ none) :
    Completes (.mts t w) s fun u => u = (s.issued t).dropTo t 4 := by
  refine completes_of_issue (c := .mts t w) h rfl (by simp [hfmt, mtsOk]; omega) ?_
  rw [if_neg (by omega), unlessRegion_of_some (by rwa [thr_issued])]

theorem trap_completes : Completes (.trap t w) s fun u => u = (s.issued t).except t 7 (BitVec.ofNat 64 (w % 2 ^ 22)) := by
  refine completes_of_issue (c := .trap t w) h rfl rfl ?_
  rw [bits, Nat.pow_zero, Nat.div_one]

theorem eret_completes (hfmt : fmtA w = true) (hexc : (s.thr t).exc = true) (hregion : (s.thr t).region = none)
    (hdue : (s.thr t).wdDue = false) : Completes (.eret t w) s
    (ThreadOnly t { retiredAt (s.thr t) ((s.thr t).epc.toNat % 32768) with exc := false } s) := by
  refine completes_of_issue (c := .eret t w) h rfl (by simp [hfmt, hexc]) ?_
  rw [unlessRegion_of_none (by rwa [thr_issued]), retire_ready (by rw [thr_issued, h.ready]), thr_issued]
  dsimp only
  rw [thr_setThr, setThr_setThr, wdDeliver_of_not_due (by rw [thr_setThr]; exact hdue)]
  exact threadOnly_setThr s t _

theorem yield_completes (hfmt : fmtA w = true) : Completes (.yield t w) s fun u =>
    ThreadOnly t (retiredAt (s.thr t) (nextPc (s.thr t))) s u ∧ t ∈ u.ocl.passes := by
  refine completes_of_issue (c := .yield t w) h rfl hfmt ?_
  rw [retire_withPasses (by rw [thr_issued, h.ready])]
  exact ⟨(threadOnly_retire h.ready).withPasses _, List.mem_cons_self⟩

theorem brk_raises (hfmt : fmtA w = true) (hbrk : s.brkHalt t = false) : Completes (.brk t w) s fun u =>
    u = (s.issued t).except t 8 0 := by
  refine completes_of_issue (c := .brk t w) h rfl hfmt ?_
  rw [brkHalt_issued, hbrk]
  rfl

theorem brk_halts (hfmt : fmtA w = true) (hbrk : s.brkHalt t = true) (hregion : (s.thr t).region = none) : Completes (.brk t w) s fun u =>
    (u.thr t).state = 3 ∧ (u.thr t).pc = (s.thr t).pc ∧ (u.thr t).g = (s.thr t).g := by
  obtain ⟨_, _, _, _, hthr⟩ := setThrState_thr (s.issued t) t 3
  refine completes_of_issue (c := .brk t w) h rfl hfmt ?_
  rw [brkHalt_issued, hbrk, thr_issued, hregion, Option.isNone_none, Bool.and_true, if_pos rfl, hthr, thr_issued]
  exact ⟨rfl, rfl, rfl⟩

end

/-- Settles O24, each instruction by its lemmas above. -/
theorem ocellSystem : Obligations.OcellSystem := fun _ _ _ h =>
  ⟨fun hfmt => mfs_completes h hfmt,
    fun hfmt hn hregion => mts_completes h hfmt hn hregion,
    fun hfmt hn => mts_kicks h hfmt hn,
    fun hfmt hn hregion => mts_drops h hfmt hn hregion,
    trap_completes h,
    fun hfmt hexc hregion hdue => eret_completes h hfmt hexc hregion hdue,
    fun hfmt => yield_completes h hfmt,
    fun hfmt hbrk => brk_raises h hfmt hbrk,
    fun hfmt hbrk hregion => brk_halts h hfmt hbrk hregion⟩

/-! ## Branches (R279, R280, R294) -/

theorem goTo_setThr (s : State) {t : Nat} {th : OclThread} (h : th.state = 1) (target : Nat) :
    (s.setThr t th).goTo t target = s.setThr t (retiredAt th target) := by
  rw [State.goTo, setThr_retire _ h, thr_setThr, setThr_setThr]
  rfl

theorem goTo_ready {s : State} {t : Nat} (h : (s.thr t).state = 1) (target : Nat) :
    s.goTo t target = s.setThr t (retiredAt (s.thr t) target) := by
  rw [State.goTo, retire_ready h, thr_setThr, setThr_setThr]
  rfl

theorem branch_near (s : State) (t : Nat) {target : Int} (hlo : 0 ≤ target) (hhi : target ≤ 0x7FFC) (f : State → State) :
    s.branch t target f = (f s).goTo t target.toNat := if_pos ⟨hlo, hhi⟩

theorem branch_far (s : State) (t : Nat) {target : Int} (h : ¬(0 ≤ target ∧ target ≤ 0x7FFC)) (f : State → State) :
    s.branch t target f = s.except t 3 (BitVec.ofNat 64 (toPattern 64 target)) := if_neg h

@[simp] theorem branchTo_issued (s : State) (t : Nat) (imm : Word) : (s.issued t).branchTo t imm = s.branchTo t imm := by
  simp only [State.branchTo, thr_issued]

@[simp] theorem link4_issued (s : State) (t : Nat) : (s.issued t).link4 t = s.link4 t := by simp only [State.link4, thr_issued]

@[simp] theorem addrB_issued (s : State) (t w : Nat) : (s.issued t).addrB t w = s.addrB t w := by simp only [State.addrB, g_issued]

@[simp] theorem setG_issued (s : State) (t r : Nat) (v : Word) :
    (s.issued t).setG t r v = (s.issued t).setThr t ((s.thr t).setReg r v) := by rw [State.setG, thr_issued]

section
variable {s : State} {t w : Nat} (h : Issues t w s)
include h

/-- A legal branch has its effect on the state as issued, and resolves. -/
theorem completes_of_issueBranch {opc : Nat} {legal : Bool} {f : State → State} {c : Instr} {P : State → Prop}
    (he : exec c s = .next (s.issueBranch t opc w legal f)) (hl : legal = true) (hP : P ((f (s.issued t)).wrongPath t)) :
    Completes c s P :=
  completes_of_exec he (by rwa [issueBranch_good _ _ _ h.1 h.2.1, issue_run h, hl, if_pos rfl])

/-- A Ready thread that goes on at a target with a register written. -/
theorem threadOnly_goTo (r : Nat) (v : Word) (target : Nat) : ThreadOnly t (retiredAt ((s.thr t).setReg r v) target) s
    (((s.issued t).setG t r v).goTo t target) := by
  rw [setG_issued, goTo_setThr _ (by rw [setReg_state, h.ready])]
  exact threadOnly_setThr s t _

theorem br_completes (hlo : 0 ≤ s.branchTo t (imm22 w)) (hhi : s.branchTo t (imm22 w) ≤ 0x7FFC) :
    Completes (.br t w) s (ThreadOnly t (retiredAt (s.thr t) (s.branchTo t (imm22 w)).toNat) s) := by
  refine completes_of_issueBranch (c := .br t w) h rfl rfl (.wrongPath ?_)
  rw [branchTo_issued, branch_near _ _ hlo hhi, id, goTo_ready (by rw [thr_issued, h.ready]), thr_issued]
  exact threadOnly_setThr s t _

theorem call_completes (hlo : 0 ≤ s.branchTo t (imm22 w)) (hhi : s.branchTo t (imm22 w) ≤ 0x7FFC) :
    Completes (.call t w) s (ThreadOnly t (retiredAt ((s.thr t).setReg 31 (s.link4 t)) (s.branchTo t (imm22 w)).toNat) s) := by
  refine completes_of_issueBranch (c := .call t w) h rfl rfl (.wrongPath ?_)
  rw [branchTo_issued, branch_near _ _ hlo hhi, link4_issued]
  exact threadOnly_goTo h 31 _ _

theorem br_call_outside (hout : ¬(0 ≤ s.branchTo t (imm22 w) ∧ s.branchTo t (imm22 w) ≤ 0x7FFC)) :
    ∀ c ∈ [Instr.br t w, .call t w], Completes c s fun u =>
      u = ((s.issued t).except t 3 (BitVec.ofNat 64 (toPattern 64 (s.branchTo t (imm22 w))))).wrongPath t := by
  simp only [List.forall_mem_cons, List.not_mem_nil, IsEmpty.forall_iff, implies_true, and_true]
  exact ⟨completes_of_issueBranch (c := .br t w) h rfl rfl (by rw [branchTo_issued, branch_far _ _ hout]),
    completes_of_issueBranch (c := .call t w) h rfl rfl (by rw [branchTo_issued, branch_far _ _ hout])⟩

theorem jalr_completes (halign : s.addrB t w % 4 = 0) (hhi : s.addrB t w ≤ 0x7FFC) :
    Completes (.jalr t w) s (ThreadOnly t (retiredAt ((s.thr t).setReg (opRD w) (s.link4 t)) (s.addrB t w)) s) := by
  refine completes_of_issueBranch (c := .jalr t w) h rfl rfl (.wrongPath ?_)
  simp only [addrB_issued]
  rw [if_neg (not_not_intro halign), branch_near _ _ (Int.natCast_nonneg _) (by omega), Int.toNat_natCast, link4_issued]
  exact threadOnly_goTo h _ _ _

theorem jalr_misaligned (halign : s.addrB t w % 4 ≠ 0) : Completes (.jalr t w) s fun u =>
    u = ((s.issued t).except t 2 (BitVec.ofNat 64 (s.addrB t w))).wrongPath t := by
  refine completes_of_issueBranch (c := .jalr t w) h rfl rfl ?_
  simp only [addrB_issued]
  rw [if_pos halign]

theorem dbnz_ends (hra : opRA w = 0) (hrd : opRD w ≠ 0) (hone : s.g t (opRD w) = 1) : Completes (.dbnz t w) s
    (ThreadOnly t (retiredAt ((s.thr t).setReg (opRD w) 0) (nextPc (s.thr t))) s) := by
  refine completes_of_issueBranch (c := .dbnz t w) h rfl (by rw [hra]; rfl) (.wrongPath ?_)
  have hzero : ((s.issued t).setG t (opRD w) 0).g t (opRD w) = 0 := by
    rw [State.g, State.setG, thr_setThr, reg_setReg, if_pos ⟨rfl, hrd⟩]
  have hone' : (1 : Word) - 1 = 0 := rfl
  simp only [g_issued, hone, hone']
  rw [if_pos hzero, setG_issued]
  simpa [nextPc] using threadOnly_setThr_retire s (th := (s.thr t).setReg (opRD w) 0) (by rw [setReg_state, h.ready])

theorem dbnz_loops (hra : opRA w = 0) (hrd : opRD w ≠ 0) (hone : s.g t (opRD w) ≠ 1) (hlo : 0 ≤ s.branchTo t (imm12 w))
    (hhi : s.branchTo t (imm12 w) ≤ 0x7FFC) : Completes (.dbnz t w) s
    (ThreadOnly t (retiredAt ((s.thr t).setReg (opRD w) (s.g t (opRD w) - 1)) (s.branchTo t (imm12 w)).toNat) s) := by
  refine completes_of_issueBranch (c := .dbnz t w) h rfl (by rw [hra]; rfl) (.wrongPath ?_)
  have hleft : ((s.issued t).setG t (opRD w) (s.g t (opRD w) - 1)).g t (opRD w) ≠ 0 := by
    rw [State.g, State.setG, thr_setThr, reg_setReg, if_pos ⟨rfl, hrd⟩]
    exact fun hzero => hone (sub_eq_zero.mp hzero)
  simp only [g_issued, branchTo_issued, if_neg hleft]
  rw [branch_near _ _ hlo hhi]
  exact threadOnly_goTo h _ _ _

end

/-- Settles O25, each branch by its lemmas above. -/
theorem ocellBranches : Obligations.OcellBranches := fun _ _ _ h =>
  ⟨fun hlo hhi => ⟨br_completes h hlo hhi, call_completes h hlo hhi⟩,
    fun hout => br_call_outside h hout,
    fun halign hhi => jalr_completes h halign hhi,
    fun halign => jalr_misaligned h halign,
    fun hra hrd hone => dbnz_ends h hra hrd hone,
    fun hra hrd hone hlo hhi => dbnz_loops h hra hrd hone hlo hhi⟩

end Sys2Proof.Machine
end

section
/-! PROOFS. `Obligations.OcellLoads`: the words and bytes of a memory that an instruction touches, reads of words without error marks under a
region's buffered stores, and loads (R269–R272, R281, R294). -/

namespace Sys2Proof.Machine

/-! ## Where bytes lie (R269, R438) -/

/-- A byte of the data space lies in its memory at the same byte of a word, and within the 2^24 bytes that a memory's addresses give. -/
theorem dataLoc_mem {t a m o : Nat} (h : dataLoc t a = .mem m o) : o % 8 = a % 8 ∧ o < 2 ^ 24 := by
  unfold dataLoc at h
  split at h
  · obtain ⟨-, rfl⟩ := DataLoc.mem.inj h; omega
  · split at h
    · obtain ⟨-, rfl⟩ := DataLoc.mem.inj h; omega
    · split at h
      · obtain ⟨-, rfl⟩ := DataLoc.mem.inj h; omega
      · split at h
        · obtain ⟨-, rfl⟩ := DataLoc.mem.inj h; omega
        · split at h <;> cases h

theorem mem_wordsOf {o n x : Nat} : x ∈ wordsOf o n ↔ 0 < n ∧ o / 8 ≤ x ∧ x ≤ (o + n - 1) / 8 := by
  unfold wordsOf
  split
  case isTrue h => simp [h]
  case isFalse h =>
    simp only [List.mem_map, List.mem_range]
    constructor
    · rintro ⟨k, hk, rfl⟩
      omega
    · rintro ⟨-, hlo, hhi⟩
      exact ⟨x - o / 8, by omega, by omega⟩

/-- The widths of a load or store of registers. -/
def Width (n : Nat) : Prop := n = 1 ∨ n = 2 ∨ n = 4 ∨ n = 8

theorem Width.pos {n : Nat} (h : Width n) : 0 < n := by unfold Width at h; omega

section
variable {n o : Nat} (hn : Width n) (ho : o % n = 0)
include hn ho

/-- An aligned access stays in one word. -/
theorem Width.div_eq {k : Nat} (hk : k < n) : (o + k) / 8 = o / 8 := by
  rcases hn with rfl | rfl | rfl | rfl <;> omega

theorem Width.wordsOf_eq : wordsOf o n = [o / 8] := by
  have hlast : (o + n - 1) / 8 = o / 8 := by
    rw [Nat.add_sub_assoc hn.pos]
    exact hn.div_eq ho (Nat.sub_lt hn.pos Nat.one_pos)
  have hone : o / 8 + 1 - o / 8 = 1 := Nat.add_sub_cancel_left ..
  rw [wordsOf, if_neg hn.pos.ne', hlast, hone]
  rfl

/-- An aligned access ends within the 2^24 bytes of its memory. -/
theorem Width.end_le (hlt : o < 2 ^ 24) : o + n ≤ 2 ^ 24 := by
  rcases hn with rfl | rfl | rfl | rfl <;> omega

end

/-- An access aligned in the data space is aligned in its memory. -/
theorem Width.aligned {n t a m o : Nat} (hn : Width n) (h : dataLoc t a = .mem m o) (ha : a % n = 0) : o % n = 0 := by
  have := (dataLoc_mem h).1
  rcases hn with rfl | rfl | rfl | rfl <;> omega

/-! ## Reads of good words (R439, R442) -/

/-- A byte of a word's data. -/
theorem memWord_byte (s : State) (m a : Nat) : BitVec.ofNat 8 (s.memWord m (a / 8) / 256 ^ (a % 8)) = s.memByte m a := by
  have hk : a % 8 < 8 := Nat.mod_lt _ (by decide)
  have hbyte := ofLe_div_mod (s.memBytes m (8 * (a / 8)) 8) (a % 8) (by simpa [State.memBytes] using hk)
  simp only [State.memBytes, List.getElem_map, List.getElem_range, Nat.div_add_mod] at hbyte
  refine BitVec.eq_of_toNat_eq ?_
  rw [BitVec.toNat_ofNat, ← hbyte]
  rfl

theorem find?_map_pair (ws : List Nat) (f : Nat → Nat) {q : Nat} (h : q ∈ ws) : SMap.find? (ws.map fun w => (w, f w)) q = some (f q) := by
  induction ws with
  | nil => cases h
  | cons w ws ih =>
    rw [List.map_cons, SMap.find?_cons]
    split
    case isTrue hq => rw [hq]
    case isFalse hq => exact ih ((List.mem_cons.mp h).resolve_left hq)

theorem readEach_of_good {s : State} {m : Nat} (ws : List Nat) (h : ∀ x ∈ ws, s.eccOf m x = none) :
    s.readEach m ws = (ws.map fun w => (w, s.memWord m w), none, s) := by
  induction ws with
  | nil => rfl
  | cons w ws ih =>
    simp only [State.readEach, memRead_of_good (h w List.mem_cons_self), ih fun x hx => h x (List.mem_cons_of_mem _ hx), List.map_cons]
    rfl

/-- The bytes of a piece (memory, offset, length) under buffered stores. -/
def State.seenBytes (s : State) (es : List OclEffect) (p : Nat × Nat × Nat) : List Byte :=
  (List.range p.2.2).map fun k => (bufByte es p.1 (p.2.1 + k)).getD (s.memByte p.1 (p.2.1 + k))

/-- Every byte of a piece is buffered or lies in a word without an error mark. -/
def State.SeesGood (s : State) (es : List OclEffect) (p : Nat × Nat × Nat) : Prop :=
  ∀ k < p.2.2, bufByte es p.1 (p.2.1 + k) = none → s.eccOf p.1 ((p.2.1 + k) / 8) = none

/-- The words that a load reads: those that hold a byte of it that is not buffered. -/
def wantedWord (es : List OclEffect) (m o n w : Nat) : Bool :=
  (List.range 8).any fun k => decide (o ≤ 8 * w + k) && decide (8 * w + k < o + n) && (bufByte es m (8 * w + k)).isNone

theorem wantedWord_iff {es : List OclEffect} {m o n w : Nat} :
    wantedWord es m o n w = true ↔ ∃ k < n, (o + k) / 8 = w ∧ bufByte es m (o + k) = none := by
  simp only [wantedWord, List.any_eq_true, List.mem_range, Bool.and_eq_true, decide_eq_true_eq, Option.isNone_iff_eq_none]
  constructor
  · rintro ⟨j, hj, ⟨hlo, hhi⟩, hnone⟩
    exact ⟨8 * w + j - o, by omega, by omega, by rwa [Nat.add_sub_cancel' hlo]⟩
  · rintro ⟨k, hk, rfl, hnone⟩
    exact ⟨(o + k) % 8, Nat.mod_lt _ (by decide), by omega, by rwa [Nat.div_add_mod]⟩

theorem loadPiece_eq (s : State) (es : List OclEffect) (m o n : Nat) : s.loadPiece es m o n =
    ((List.range n).map fun k => (bufByte es m (o + k)).getD (BitVec.ofNat 8
        (SMap.getD (s.readEach m ((wordsOf o n).filter (wantedWord es m o n))).1 ((o + k) / 8) 0 / 256 ^ ((o + k) % 8))),
      (s.readEach m ((wordsOf o n).filter (wantedWord es m o n))).2) := rfl

theorem loadPiece_of_good {s : State} {es : List OclEffect} {m o n : Nat} (h : s.SeesGood es (m, o, n)) :
    s.loadPiece es m o n = (s.seenBytes es (m, o, n), none, s) := by
  have hgood : ∀ x ∈ (wordsOf o n).filter (wantedWord es m o n), s.eccOf m x = none := by
    intro x hx
    obtain ⟨k, hk, rfl, hnone⟩ := wantedWord_iff.mp (List.mem_filter.mp hx).2
    exact h k hk hnone
  rw [loadPiece_eq, readEach_of_good _ hgood, State.seenBytes]
  refine congrArg (·, none, s) (List.map_congr_left fun k hk => ?_)
  have hk : k < n := List.mem_range.mp hk
  rcases hbuf : bufByte es m (o + k) with _ | b
  · have hmem : (o + k) / 8 ∈ (wordsOf o n).filter (wantedWord es m o n) :=
      List.mem_filter.mpr ⟨mem_wordsOf.mpr (by omega), wantedWord_iff.mpr ⟨k, hk, rfl, hbuf⟩⟩
    rw [SMap.getD, find?_map_pair _ _ hmem]
    exact memWord_byte s m (o + k)
  · rfl

theorem loadPieces_of_good {s : State} {es : List OclEffect} (ps : List (Nat × Nat × Nat)) (h : ∀ p ∈ ps, s.SeesGood es p) :
    s.loadPieces es ps = (ps.flatMap (s.seenBytes es), none, s) := by
  induction ps with
  | nil => rfl
  | cons p ps ih =>
    obtain ⟨m, o, n⟩ := p
    simp only [State.loadPieces, loadPiece_of_good (h _ List.mem_cons_self), ih fun q hq => h q (List.mem_cons_of_mem _ hq),
      List.flatMap_cons]

theorem load_of_good {s : State} {t : Nat} {ps : List (Nat × Nat × Nat)} (h : ∀ p ∈ ps, s.SeesGood (s.thr t).effects p) :
    s.load t ps = (ps.flatMap (s.seenBytes (s.thr t).effects), none, s) := by
  simp only [State.load, loadPieces_of_good ps h, inRegion_self]

theorem effects_of_none {th : OclThread} (h : th.region = none) : th.effects = [] := by rw [OclThread.effects, h]

theorem seenBytes_nil (s : State) (p : Nat × Nat × Nat) : s.seenBytes [] p = s.memBytes p.1 p.2.1 p.2.2 := rfl

/-- A load of a poisoned word meets an uncorrectable word and changes nothing (R441). -/
theorem load_poisoned {s : State} {t m o n : Nat} {k : EccMark} (hn : Width n) (ho : o % n = 0) (hregion : (s.thr t).region = none)
    (he : s.eccOf m (o / 8) = some k) (hk : k.poisoned = true) :
    (s.load t [(m, o, n)]).2.1.isSome = true ∧ (s.load t [(m, o, n)]).2.2 = s := by
  have hwant : (wordsOf o n).filter (wantedWord [] m o n) = [o / 8] := by
    rw [hn.wordsOf_eq ho]
    exact List.filter_eq_self.mpr fun x hx => wantedWord_iff.mpr ⟨0, hn.pos, (List.mem_singleton.mp hx).symm, rfl⟩
  have hread : s.memRead m (o / 8) = (.bad (s.memWord m (o / 8)), s) := by simp [State.memRead, he, hk]
  rw [State.load, effects_of_none hregion]
  simp only [State.loadPieces, loadPiece_eq, hwant, State.readEach, hread, WordRead.isBad, if_true, inRegion_self]
  exact ⟨rfl, trivial⟩

/-! ## Loads (R281) -/

@[simp] theorem memBytes_issued (s : State) (t m o n : Nat) : (s.issued t).memBytes m o n = s.memBytes m o n := by
  simp only [State.memBytes, memByte_issued]

/-- What an aligned load of memory does (R281). -/
theorem loadOp_mem {t a n m o : Nat} (s : State) (rd : Nat) (ha : a % n = 0) (hloc : dataLoc t a = .mem m o) : s.loadOp t a n rd =
    s.whenReady m fun s => if (s.load t [(m, o, n)]).2.1.isSome then
        (s.load t [(m, o, n)]).2.2.except t 4 (BitVec.ofNat 64 a)
      else (s.load t [(m, o, n)]).2.2.result t rd (BitVec.ofNat 64 (ofLe (s.load t [(m, o, n)]).1)) := by
  simp only [State.loadOp, hloc, ha, ne_eq, not_true_eq_false, if_false]

/-- What an aligned load of the register window does (R281, R303). -/
theorem loadOp_window {s : State} {t a n off : Nat} (rd : Nat) (hregion : (s.thr t).region = none) (ha : a % n = 0)
    (hloc : dataLoc t a = .window off) : s.loadOp t a n rd = if widthOk off n = true then s.enterWait t (.load off n rd)
      else s.except t 3 (BitVec.ofNat 64 a) := by
  simp only [State.loadOp, hloc]
  rw [unlessRegion_of_none hregion, if_neg (not_not_intro ha)]

section
variable {s : State} {t w opc n : Nat} {c : Instr} (h : Issues t w s)
  (he : exec c s = .next (s.issue t opc w true fun s => s.loadOp t (s.addrB t w) n (opRD w)))
include h he

theorem load_misaligned (hregion : (s.thr t).region = none) (ha : s.addrB t w % n ≠ 0) : Completes c s fun u =>
    u = (s.issued t).except t 2 (BitVec.ofNat 64 (s.addrB t w)) := by
  refine completes_of_issue h he rfl ?_
  rw [addrB_issued, State.loadOp]
  split
  · rw [unlessRegion_of_none (by rw [thr_issued, hregion]), if_pos ha]
  · rw [if_pos ha]
  · rw [if_pos ha]

section
variable (ha : s.addrB t w % n = 0)
include ha

theorem load_completes (hn : Width n) (hregion : (s.thr t).region = none) {m o : Nat} (hloc : dataLoc t (s.addrB t w) = .mem m o)
    (hready : s.memReady m = true) (hgood : s.eccOf m (o / 8) = none) : Completes c s (ThreadOnly t
      (retiredAt ((s.thr t).setReg (opRD w) (BitVec.ofNat 64 (ofLe (s.memBytes m o n)))) (nextPc (s.thr t))) s) := by
  have heff : ((s.issued t).thr t).effects = [] := by rw [thr_issued, effects_of_none hregion]
  have hsees : ∀ p ∈ [(m, o, n)], (s.issued t).SeesGood ((s.issued t).thr t).effects p := by
    rw [List.forall_mem_singleton]
    intro k hk _
    rwa [eccOf_issued, hn.div_eq (hn.aligned hloc ha) hk]
  refine completes_of_result h he rfl ?_
  rw [addrB_issued, loadOp_mem _ _ ha hloc, State.whenReady, memReady_issued, if_pos hready, load_of_good hsees, heff]
  simp only [List.flatMap_singleton, seenBytes_nil, memBytes_issued]
  rfl

theorem load_unready {m o : Nat} (hloc : dataLoc t (s.addrB t w) = .mem m o) (hready : s.memReady m = false) :
    Completes c s fun u => u = s.issued t := by
  refine completes_of_issue h he rfl ?_
  rw [addrB_issued, loadOp_mem _ _ ha hloc, State.whenReady, memReady_issued, hready]
  rfl

theorem load_poison_raises (hn : Width n) (hregion : (s.thr t).region = none) {m o : Nat} {k : EccMark} (hloc : dataLoc t (s.addrB t w) = .mem m o)
    (hready : s.memReady m = true) (hmark : s.eccOf m (o / 8) = some k) (hk : k.poisoned = true) : Completes c s fun u =>
      u = (s.issued t).except t 4 (BitVec.ofNat 64 (s.addrB t w)) := by
  obtain ⟨hbad, hsame⟩ := load_poisoned (s := s.issued t) (t := t) hn (hn.aligned hloc ha) (by rw [thr_issued, hregion])
    (by rwa [eccOf_issued]) hk
  refine completes_of_issue h he rfl ?_
  rw [addrB_issued, loadOp_mem _ _ ha hloc, State.whenReady, memReady_issued, if_pos hready, if_pos hbad, hsame]

theorem load_nowhere (hloc : dataLoc t (s.addrB t w) = .none) : Completes c s fun u =>
    u = (s.issued t).except t 3 (BitVec.ofNat 64 (s.addrB t w)) := by
  refine completes_of_issue h he rfl ?_
  simp only [addrB_issued, State.loadOp, hloc, ha, ne_eq, not_true_eq_false, if_false]

section
variable (hregion : (s.thr t).region = none) {off : Nat} (hloc : dataLoc t (s.addrB t w) = .window off)
include hregion hloc

theorem load_window_waits (hwidth : widthOk off n = true) : Completes c s fun u =>
    (u.thr t).state = 2 ∧ (u.thr t).wait = some (.load off n (opRD w)) ∧ (u.thr t).pc = (s.thr t).pc :=
  completes_of_wait h he rfl (by rw [addrB_issued, loadOp_window _ (by rw [thr_issued, hregion]) ha hloc, if_pos hwidth])

theorem load_window_misfits (hwidth : widthOk off n = false) : Completes c s fun u =>
    u = (s.issued t).except t 3 (BitVec.ofNat 64 (s.addrB t w)) := by
  refine completes_of_issue h he rfl ?_
  rw [addrB_issued, loadOp_window _ (by rw [thr_issued, hregion]) ha hloc, if_neg (by simp [hwidth])]

end
end
end

/-- Each load by its opcode and width. -/
theorem load_form (s : State) (t w : Nat) : ∀ e ∈ [(Instr.ldb t w, 1), (.ldh t w, 2), (.ldw t w, 4), (.ldd t w, 8)],
    Width e.2 ∧ ∃ opc, exec e.1 s = .next (s.issue t opc w true fun s => s.loadOp t (s.addrB t w) e.2 (opRD w)) := by
  simp only [List.forall_mem_cons, List.not_mem_nil, IsEmpty.forall_iff, implies_true, and_true]
  exact ⟨⟨.inl rfl, _, rfl⟩, ⟨.inr (.inl rfl), _, rfl⟩, ⟨.inr (.inr (.inl rfl)), _, rfl⟩, .inr (.inr (.inr rfl)), _, rfl⟩

/-- Settles O26, each load by what its address names. -/
theorem ocellLoads : Obligations.OcellLoads := fun s t w h hregion e he => by
  obtain ⟨hn, opc, hexec⟩ := load_form s t w e he
  exact ⟨fun _ _ hloc ha hready hgood => load_completes h hexec ha hn hregion hloc hready hgood,
    fun _ _ hloc ha hready => load_unready h hexec ha hloc hready,
    fun _ _ _ hloc ha hready hmark hk => load_poison_raises h hexec ha hn hregion hloc hready hmark hk,
    fun ha => load_misaligned h hexec hregion ha,
    fun hloc ha => load_nowhere h hexec ha hloc,
    fun _ hloc ha hwidth => load_window_waits h hexec ha hregion hloc hwidth,
    fun _ hloc ha hwidth => load_window_misfits h hexec ha hregion hloc hwidth⟩

end Sys2Proof.Machine
end

section
/-! PROOFS. `Obligations.OcellStores`: what the merge of a store's bytes changes, the check of the words that it covers in part, and stores
(R272, R281, R441, R442, R448). -/

namespace Sys2Proof.Machine

/-! ## What a store changes (R272, R442, R448) -/

theorem getElem_leBytes {n v k : Nat} (h : k < (leBytes n v).length) : (leBytes n v)[k] = BitVec.ofNat 8 (v / 256 ^ k) := by simp [leBytes]

/-- A byte of any memory after a store of bytes. -/
theorem memByte_setMemBytes (s : State) (m o : Nat) (bs : List Byte) {m' b : Nat} (hend : o + bs.length ≤ 2 ^ 24) (hb : b < 2 ^ 24) :
    (s.setMemBytes m o bs).memByte m' b =
      if h : m' = m ∧ o ≤ b ∧ b < o + bs.length then bs[b - o]'(by omega) else s.memByte m' b := by
  split
  case isTrue h =>
    obtain ⟨rfl, hlo, hhi⟩ := h
    have hin := memByte_setMemBytes_in bs s m' o (b - o) (by omega)
    rwa [Nat.add_sub_cancel' hlo] at hin
  case isFalse h =>
    refine memByte_setMemBytes_out _ _ _ _ _ _ fun k hk heq => h ?_
    obtain ⟨hm, hbk⟩ := memAddr_inj hb (by omega) heq
    omega

theorem flipHits_congr {s u : State} (h : u.regs = s.regs) (m w : Nat) : u.flipHits m w = s.flipHits m w := by
  simp only [State.flipHits, flag_congr h, fld_congr h]

theorem flipApply_of_misses {s : State} {m w : Nat} (h : s.flipHits m w = false) : s.flipApply m w = s := by
  rw [State.flipApply, h]
  rfl

/-- The flip-mask touches the registers of the error injector alone (R448). -/
theorem flipApply_reg (s : State) (m w : Nat) {id : RegId} (h : id ∉ [RegId.MEM_FLIP_CTL, .MEM_EVT, .MEM_CNT_FLIP]) (i j : Nat) :
    (s.flipApply m w).reg id i j = s.reg id i j := by
  simp only [List.mem_cons, List.not_mem_nil, or_false, not_or] at h
  obtain ⟨hctl, hevt, hcnt⟩ := h
  unfold State.flipApply
  split
  · rw [reg_bump_id _ _ _ _ _ _ hcnt, reg_raise_id _ _ _ _ hevt]
    refine (reg_setReg_id _ _ _ _ _ _ hctl).trans ?_
    exact on_keeps (P := fun u : State => u.reg id i j = s.reg id i j) _ rfl rfl
  · rfl

theorem sealWords_reg (s : State) (m : Nat) (ws : List Nat) {id : RegId} (h : id ∉ [RegId.MEM_FLIP_CTL, .MEM_EVT, .MEM_CNT_FLIP]) (i j : Nat) :
    (s.sealWords m ws).reg id i j = s.reg id i j := by
  induction ws generalizing s with
  | nil => rfl
  | cons w ws ih =>
    rw [State.sealWords, ih, flipApply_reg _ _ _ h]
    rfl

theorem setMemBytes_regs (s : State) (m o : Nat) (bs : List Byte) : (s.setMemBytes m o bs).regs = s.regs := by
  induction bs generalizing s o with
  | nil => rfl
  | cons b bs ih => exact ih (s.setMemByte m o b) (o + 1)

theorem mergePiece_reg (s : State) (p : Nat × Nat × List Byte) {id : RegId} (h : id ∉ [RegId.MEM_FLIP_CTL, .MEM_EVT, .MEM_CNT_FLIP]) (i j : Nat) :
    (s.mergePiece p).reg id i j = s.reg id i j := by
  rw [State.mergePiece, sealWords_reg _ _ _ h, reg_congr (setMemBytes_regs s _ _ _)]

@[simp] theorem mergePiece_mem (s : State) (p : Nat × Nat × List Byte) : (s.mergePiece p).mem = (s.setMemBytes p.1 p.2.1 p.2.2).mem :=
  sealWords_mem _ _ _

theorem memByte_of_mem {s u : State} (h : u.mem = s.mem) (m o : Nat) : u.memByte m o = s.memByte m o := by rw [State.memByte, h, State.memByte]

theorem eccOf_eccClear (s : State) (m w : Nat) : (s.eccClear m w).eccOf m w = none := SMap.find?_del_self ..

/-- A store within one word leaves a good codeword unless the flip-mask hits (R442, R448). -/
theorem mergePiece_eccOf (s : State) {m o w : Nat} {bs : List Byte} (hw : wordsOf o bs.length = [w]) (hflip : s.flipHits m w = false) :
    (s.mergePiece (m, o, bs)).eccOf m w = none := by
  have hmiss : ((s.setMemBytes m o bs).eccClear m w).flipHits m w = false := by
    rw [← hflip]
    exact flipHits_congr (setMemBytes_regs s m o bs) m w
  simp only [State.mergePiece, hw, State.sealWords, flipApply_of_misses hmiss, eccOf_eccClear]

/-! ## The check of words covered in part (R442) -/

theorem partialCheck_of_good {s : State} {m o n : Nat} (ws : List Nat) (h : ∀ x ∈ ws, coversPart o n x = true → s.eccOf m x = none) :
    s.partialCheck m o n ws = (false, s) := by
  induction ws with
  | nil => rfl
  | cons w ws ih =>
    have hrest := ih fun x hx => h x (List.mem_cons_of_mem _ hx)
    rcases hcover : coversPart o n w with _ | _
    · simp [State.partialCheck, hcover, hrest]
    · simp [State.partialCheck, hcover, memRead_of_good (h w List.mem_cons_self hcover), WordRead.isBad, hrest]

/-- Every word that a piece (memory, offset, bytes) covers in part bears no error mark. -/
def State.WritesGood (s : State) (p : Nat × Nat × List Byte) : Prop :=
  ∀ x ∈ wordsOf p.2.1 p.2.2.length, coversPart p.2.1 p.2.2.length x = true → s.eccOf p.1 x = none

theorem checkPieces_of_good {s : State} (ps : List (Nat × Nat × List Byte)) (h : ∀ p ∈ ps, s.WritesGood p) : s.checkPieces ps = (false, s) := by
  induction ps with
  | nil => rfl
  | cons p ps ih =>
    have hp : s.partialCheck p.1 p.2.1 p.2.2.length (wordsOf p.2.1 p.2.2.length) = (false, s) :=
      partialCheck_of_good _ (h p List.mem_cons_self)
    obtain ⟨m, o, bs⟩ := p
    simp [State.checkPieces, hp, ih fun q hq => h q (List.mem_cons_of_mem _ hq)]

/-- A store outside a region whose words covered in part are good merges its bytes, and retires. -/
theorem writeOp_of_good {s : State} {t : Nat} {ps : List (Nat × Nat × List Byte)} (hregion : (s.thr t).region = none)
    (h : ∀ p ∈ ps, s.WritesGood p) (a : Option Nat) : s.writeOp t ps a = (ps.foldl State.mergePiece s).retire t := by
  simp [State.writeOp, hregion, State.storePieces, checkPieces_of_good ps h]

/-- A store within one word, covered in part and uncorrectable, stores nothing (R441, R442). -/
theorem writeOp_of_bad {s u : State} {t m o w v : Nat} {bs : List Byte} (hregion : (s.thr t).region = none) (hw : wordsOf o bs.length = [w])
    (hcover : coversPart o bs.length w = true) (hread : s.memRead m w = (.bad v, u)) (a : Nat) : s.writeOp t [(m, o, bs)] (some a) =
      ((u.bump F.MEM_CNT_WRITE_POISON_COUNT).raise F.MEM_EVT_WRITE_POISON).except t 4 (BitVec.ofNat 64 a) := by
  simp [State.writeOp, hregion, State.storePieces, State.checkPieces, hw, State.partialCheck, hcover, hread, WordRead.isBad]

/-- An aligned narrow store covers its word in part. -/
theorem Width.coversPart_eq {n o : Nat} (ho : o % n = 0) (hn : Width n) : coversPart o n (o / 8) = decide (n < 8) := by
  rw [Bool.eq_iff_iff]
  simp only [coversPart, Bool.not_eq_true', Bool.and_eq_false_iff, decide_eq_false_iff_not, decide_eq_true_eq]
  rcases hn with rfl | rfl | rfl | rfl <;> omega

/-- A read of an uncorrectable word that is not poisoned poisons it (R441). -/
theorem memRead_of_uncorrectable {s : State} {m w : Nat} {k : EccMark} (he : s.eccOf m w = some k) (hk : k.poisoned = false)
    (hweight : 2 ≤ s.decodeWeight k) : ∃ v, s.memRead m w = (.bad v, s.poisonMark m w k.mask) := by
  simp only [State.memRead, he, hk, Bool.false_eq_true, if_false]
  split
  case h_1 h0 => omega
  case h_2 h1 => omega
  case h_3 => exact ⟨_, rfl⟩

theorem memRead_of_poisoned {s : State} {m w : Nat} {k : EccMark} (he : s.eccOf m w = some k) (hk : k.poisoned = true) :
    s.memRead m w = (.bad (s.memWord m w), s) := by simp [State.memRead, he, hk]

/-! ## Stores (R281) -/

@[simp] theorem draw_issued (s : State) (t : Nat) : (s.issued t).draw = s.draw := by
  simp only [State.issued, State.issueCount, State.on, State.takeTurn]
  repeat' split
  all_goals rfl

@[simp] theorem decodeWeight_issued (s : State) (t : Nat) (k : EccMark) : (s.issued t).decodeWeight k = s.decodeWeight k := by
  simp only [State.decodeWeight, draw_issued]

@[simp] theorem flipHits_issued (s : State) (t m w : Nat) : (s.issued t).flipHits m w = s.flipHits m w := by
  simp only [State.flipHits, flag_issued _ _ _ _ (show F.MEM_FLIP_CTL_ARM.reg ≠ .OBS_THR_CNT by decide),
    flag_issued _ _ _ _ (show F.MEM_FLIP_CTL_ANY.reg ≠ .OBS_THR_CNT by decide),
    fld_issued _ _ _ _ (show F.MEM_FLIP_CTL_MEM.reg ≠ .OBS_THR_CNT by decide),
    fld_issued _ _ _ _ (show F.MEM_FLIP_WORD_WORD.reg ≠ .OBS_THR_CNT by decide)]

/-- What an aligned store of memory does. -/
theorem storeOp_mem {t a n m o : Nat} (s : State) (v : Word) (ha : a % n = 0) (hloc : dataLoc t a = .mem m o) :
    s.storeOp t a n v = s.writeOp t [(m, o, leBytes n v.toNat)] (some a) := by
  rw [State.storeOp, if_neg (not_not_intro ha), hloc]

section
variable {s : State} {t w opc n : Nat} {c : Instr} (h : Issues t w s)
  (he : exec c s = .next (s.issue t opc w true fun s => s.storeOp t (s.addrB t w) n (s.g t (opRD w))))
include h he

theorem store_misaligned (ha : s.addrB t w % n ≠ 0) : Completes c s fun u =>
    u = (s.issued t).except t 2 (BitVec.ofNat 64 (s.addrB t w)) := by
  refine completes_of_issue h he rfl ?_
  rw [addrB_issued, State.storeOp, if_pos ha]

section
variable (ha : s.addrB t w % n = 0)
include ha

theorem store_nowhere (hloc : dataLoc t (s.addrB t w) = .none) : Completes c s fun u =>
    u = (s.issued t).except t 3 (BitVec.ofNat 64 (s.addrB t w)) := by
  refine completes_of_issue h he rfl ?_
  rw [addrB_issued, State.storeOp, if_neg (not_not_intro ha), hloc]

theorem store_window_waits (hregion : (s.thr t).region = none) {off : Nat} (hloc : dataLoc t (s.addrB t w) = .window off)
    (hwidth : widthOk off n = true) : Completes c s fun u =>
      (u.thr t).state = 2 ∧ (u.thr t).wait = some (.store off n (s.g t (opRD w))) ∧ (u.thr t).pc = (s.thr t).pc := by
  refine completes_of_wait h he rfl ?_
  rw [addrB_issued, State.storeOp, if_neg (not_not_intro ha), hloc]
  simp [hwidth, hregion]

section
variable (hn : Width n) (hregion : (s.thr t).region = none) {m o : Nat} (hloc : dataLoc t (s.addrB t w) = .mem m o)
include hn hregion hloc

/-- The state after an aligned store of a word without error marks, or of a whole word. -/
theorem store_completes (hgood : s.eccOf m (o / 8) = none ∨ n = 8) : Completes c s fun u =>
    u = (((s.issued t).mergePiece (m, o, leBytes n (s.g t (opRD w)).toNat)).setThr t (retiredAt (s.thr t) (nextPc (s.thr t)))) := by
  have ho := hn.aligned hloc ha
  have hwrites : ∀ p ∈ [(m, o, leBytes n (s.g t (opRD w)).toNat)], (s.issued t).WritesGood p := by
    rw [List.forall_mem_singleton]
    intro x hx hcover
    rw [length_leBytes, hn.wordsOf_eq ho, List.mem_singleton] at hx
    subst hx
    rw [length_leBytes, hn.coversPart_eq ho, decide_eq_true_eq] at hcover
    rw [eccOf_issued]
    exact hgood.resolve_right (by omega)
  refine completes_of_issue h he rfl ?_
  rw [addrB_issued, g_issued, storeOp_mem _ _ ha hloc, writeOp_of_good (by rw [thr_issued, hregion]) hwrites, List.foldl_cons, List.foldl_nil]
  have hthr : ((s.issued t).mergePiece (m, o, leBytes n (s.g t (opRD w)).toNat)).thr t = s.thr t := by
    rw [thr_of_ocl (mergePiece_ocl _ _), thr_issued]
  rw [retire_ready (by rw [hthr, h.ready]), hthr]

/-- An aligned store of 1, 2 or 4 bytes onto an uncorrectable word. -/
theorem store_raises (hnarrow : n < 8) {v : Nat} {u : State} (hread : (s.issued t).memRead m (o / 8) = (.bad v, u)) : Completes c s fun u' =>
    u' = ((u.bump F.MEM_CNT_WRITE_POISON_COUNT).raise F.MEM_EVT_WRITE_POISON).except t 4 (BitVec.ofNat 64 (s.addrB t w)) := by
  have ho := hn.aligned hloc ha
  refine completes_of_issue h he rfl ?_
  rw [addrB_issued, storeOp_mem _ _ ha hloc, writeOp_of_bad (by rw [thr_issued, hregion]) (by rw [length_leBytes, hn.wordsOf_eq ho])
    (by rw [length_leBytes, hn.coversPart_eq ho, decide_eq_true hnarrow]) hread]

end
end
end

/-- What a store of one aligned access leaves (R272, R442, R448). -/
theorem store_frame {s : State} {t n m o v : Nat} (hn : Width n) (ho : o % n = 0) (hlt : o < 2 ^ 24) (th : OclThread) {u : State}
    (hu : u = ((s.issued t).mergePiece (m, o, leBytes n v)).setThr t th) :
    (s.flipHits m (o / 8) = false → u.eccOf m (o / 8) = none) ∧ u.thr t = th ∧ (∀ x, x ≠ t → u.thr x = s.thr x) ∧
      (∀ m' b, b < 2 ^ 24 → u.memByte m' b = if m' = m ∧ o ≤ b ∧ b < o + n then BitVec.ofNat 8 (v / 256 ^ (b - o)) else s.memByte m' b) ∧
      ∀ id i j, id ∉ [RegId.OBS_THR_CNT, .MEM_FLIP_CTL, .MEM_EVT, .MEM_CNT_FLIP] → u.reg id i j = s.reg id i j := by
  subst hu
  refine ⟨fun hflip => ?_, thr_setThr _ _ _, fun x hx => ?_, fun m' b hb => ?_, fun id i j hid => ?_⟩
  · exact mergePiece_eccOf (s.issued t) (by rw [length_leBytes, hn.wordsOf_eq ho]) (by rwa [flipHits_issued])
  · rw [thr_setThr_ne _ _ hx, thr_of_ocl (mergePiece_ocl _ _), thr_issued]
  · refine (memByte_of_mem (mergePiece_mem _ _) m' b).trans ?_
    rw [memByte_setMemBytes _ _ _ _ (by simpa [length_leBytes] using hn.end_le ho hlt) hb, memByte_issued]
    simp only [length_leBytes, getElem_leBytes, dite_eq_ite]
  · rw [List.mem_cons, not_or] at hid
    exact (mergePiece_reg _ _ hid.2 i j).trans (reg_issued s t i j hid.1)

/-- Each store by its opcode and width. -/
theorem store_form (s : State) (t w : Nat) : ∀ e ∈ [(Instr.stb t w, 1), (.sth t w, 2), (.stw t w, 4), (.std t w, 8)],
    Width e.2 ∧ ∃ opc, exec e.1 s = .next (s.issue t opc w true fun s => s.storeOp t (s.addrB t w) e.2 (s.g t (opRD w))) := by
  simp only [List.forall_mem_cons, List.not_mem_nil, IsEmpty.forall_iff, implies_true, and_true]
  exact ⟨⟨.inl rfl, _, rfl⟩, ⟨.inr (.inl rfl), _, rfl⟩, ⟨.inr (.inr (.inl rfl)), _, rfl⟩, .inr (.inr (.inr rfl)), _, rfl⟩

theorem Completes.imp {c : Instr} {s : State} {P Q : State → Prop} (h : Completes c s P) (hPQ : ∀ u, P u → Q u) : Completes c s Q :=
  let ⟨u, hexec, hu⟩ := h
  ⟨u, hexec, hPQ u hu⟩

/-- Settles O27, each store by what its address names and whether its word is good. -/
theorem ocellStores : Obligations.OcellStores := fun s t w h hregion e he => by
  obtain ⟨hn, opc, hexec⟩ := store_form s t w e he
  refine ⟨fun m o hloc ha hgood => ?_, fun m o k hloc ha hnarrow hmark hk => ?_, fun m o k hloc ha hnarrow hmark hk hweight => ?_,
    fun ha => store_misaligned h hexec ha, fun hloc ha => store_nowhere h hexec ha hloc,
    fun off hloc ha hwidth => store_window_waits h hexec ha hregion hloc hwidth⟩
  · exact (store_completes h hexec ha hn hregion hloc hgood).imp fun u hu =>
      store_frame hn (hn.aligned hloc ha) (dataLoc_mem hloc).2 _ hu
  · exact store_raises h hexec ha hn hregion hloc hnarrow (memRead_of_poisoned (by rwa [eccOf_issued]) hk)
  · obtain ⟨v, hread⟩ := memRead_of_uncorrectable (s := s.issued t) (by rwa [eccOf_issued]) hk (by rwa [decodeWeight_issued])
    exact store_raises h hexec ha hn hregion hloc hnarrow hread

end Sys2Proof.Machine
end

section
/-! PROOFS. `Obligations.OcellAtomics`: a write of a word read back, atomics and fences (R281, R308). -/

namespace Sys2Proof.Machine

/-! ## A word written (R442) -/

theorem memBytes_setMemBytes_self (s : State) (m o : Nat) (bs : List Byte) : (s.setMemBytes m o bs).memBytes m o bs.length = bs := by
  refine List.ext_getElem (by simp [State.memBytes]) fun k hk _ => ?_
  simp only [State.memBytes, List.length_map, List.length_range, List.getElem_map, List.getElem_range] at hk ⊢
  exact memByte_setMemBytes_in bs s m o k hk

theorem memWord_of_mem {s u : State} (h : u.mem = s.mem) (m w : Nat) : u.memWord m w = s.memWord m w := by
  simp only [State.memWord, State.memBytes, memByte_of_mem h]

theorem memWord_memWrite (s : State) (m w : Nat) (v : Word) : (s.memWrite m w v.toNat).memWord m w = v.toNat := by
  have hbytes := memBytes_setMemBytes_self s m (8 * w) (leBytes 8 v.toNat)
  rw [length_leBytes] at hbytes
  rw [memWord_of_mem (memWrite_mem _ _ _ _), State.memWord, State.setMemWord, hbytes, ofLe_leBytes]
  exact Nat.mod_eq_of_lt v.isLt

theorem memWord_memWrite_ne (s : State) {m w v m' w' : Nat} (hw : w < 2 ^ 21) (hw' : w' < 2 ^ 21) (h : ¬(m' = m ∧ w' = w)) :
    (s.memWrite m w v).memWord m' w' = s.memWord m' w' := by
  rw [memWord_of_mem (memWrite_mem _ _ _ _), State.memWord, State.memWord]
  refine congrArg ofLe (List.map_congr_left fun k hk => ?_)
  have hk : k < 8 := List.mem_range.mp hk
  rw [State.setMemWord, memByte_setMemBytes _ _ _ _ (by rw [length_leBytes]; omega) (by omega), dif_neg]
  rw [length_leBytes]
  omega

/-! ## Atomics (R281) -/

theorem coreLoc_mem {t a n m o : Nat} (h : coreLoc t a n = some (m, o)) : dataLoc t a = .mem m o ∧ m ≠ 0 := by
  unfold coreLoc at h
  split at h
  case h_1 hloc _ =>
    split at h
    case isTrue hm =>
      cases h
      exact ⟨hloc, hm.2⟩
    case isFalse => cases h
  case h_2 => cases h

/-- What an atomic leaves of word `w`: a new value, or the word as it was. -/
def State.atomicWrite (s : State) (m w : Nat) : Option Word → State
  | some v => s.memWrite m w v.toNat
  | none => s

theorem atomicOp_of_good {s : State} {t a m o : Nat} (rd : Nat) (f : Word → Option Word) (hregion : (s.thr t).region = none) (ha : a % 8 = 0)
    (hloc : coreLoc t a 8 = some (m, o)) (hready : s.memReady m = true) (hgood : s.eccOf m (o / 8) = none) :
    s.atomicOp t a rd f = (s.atomicWrite m (o / 8) (f (BitVec.ofNat 64 (s.memWord m (o / 8))))).result t rd
      (BitVec.ofNat 64 (s.memWord m (o / 8))) := by
  rw [State.atomicOp, unlessRegion_of_none hregion, if_neg (not_not_intro ha), hloc]
  simp only [State.whenReady, hready, if_true, memRead_of_good hgood, WordRead.isBad, WordRead.val, Bool.false_eq_true, if_false]
  cases f (BitVec.ofNat 64 (s.memWord m (o / 8))) <;> rfl

theorem atomicOp_of_misaligned {s : State} {t a : Nat} (rd : Nat) (f : Word → Option Word) (hregion : (s.thr t).region = none) (ha : a % 8 ≠ 0) :
    s.atomicOp t a rd f = s.except t 2 (BitVec.ofNat 64 a) := by
  rw [State.atomicOp, unlessRegion_of_none hregion, if_pos ha]

/-- A word of a memory is written, and the thread's instruction retires with a result. -/
theorem memWrite_result {s : State} {t rd m w : Nat} (hs : (s.thr t).state = 1) (hw : w < 2 ^ 21) (v old : Word) {u : State}
    (hu : u = ((s.issued t).memWrite m w v.toNat).result t rd old) :
    u.thr t = retiredAt ((s.thr t).setReg rd old) (nextPc (s.thr t)) ∧ u.memWord m w = v.toNat ∧
      ∀ m' w', w' < 2 ^ 21 → ¬(m' = m ∧ w' = w) → u.memWord m' w' = s.memWord m' w' := by
  have hthr : ((s.issued t).memWrite m w v.toNat).thr t = s.thr t := by rw [thr_of_ocl (memWrite_ocl _ _ _ _), thr_issued]
  rw [result_ready (by rw [hthr, hs]), hthr] at hu
  subst hu
  exact ⟨thr_setThr _ _ _, memWord_memWrite _ m w v, fun m' w' hw' hne =>
    (memWord_memWrite_ne (s.issued t) hw hw' hne).trans (memWord_issued s t m' w')⟩

section
variable {s : State} {t w : Nat} (h : Issues t w s) (hregion : (s.thr t).region = none)
include h hregion

section
variable (ha : (s.g t (opRA w)).toNat % 8 = 0) {m o : Nat} (hloc : coreLoc t (s.g t (opRA w)).toNat 8 = some (m, o))
  (hready : s.memReady m = true) (hgood : s.eccOf m (o / 8) = none)
include ha hloc hready hgood

omit h in
/-- What an atomic of a good word does, by what becomes of the word. -/
theorem atomicOp_issued (rd : Nat) (f : Word → Option Word) : (s.issued t).atomicOp t (s.g t (opRA w)).toNat rd f =
    ((s.issued t).atomicWrite m (o / 8) (f (BitVec.ofNat 64 (s.memWord m (o / 8))))).result t rd
      (BitVec.ofNat 64 (s.memWord m (o / 8))) := by
  rw [atomicOp_of_good rd f (by rw [thr_issued, hregion]) ha hloc (by rwa [memReady_issued]) (by rwa [eccOf_issued]), memWord_issued]

theorem amoadd_completes (hfmt : fmtA w = true) : Completes (.amoadd t w) s fun u =>
    u = ((s.issued t).memWrite m (o / 8) (BitVec.ofNat 64 (s.memWord m (o / 8)) + s.g t (opRB w)).toNat).result t (opRD w)
      (BitVec.ofNat 64 (s.memWord m (o / 8))) := by
  refine completes_of_issue (c := .amoadd t w) h rfl hfmt ?_
  simp only [g_issued]
  rw [atomicOp_issued hregion ha hloc hready hgood]
  rfl

theorem cas_completes (hfmt : fmtA w = true) : Completes (.cas t w) s fun u =>
    u = ((s.issued t).atomicWrite m (o / 8)
      (if BitVec.ofNat 64 (s.memWord m (o / 8)) = s.g t (opRD w) then some (s.g t (opRB w)) else none)).result t (opRD w)
      (BitVec.ofNat 64 (s.memWord m (o / 8))) := by
  refine completes_of_issue (c := .cas t w) h rfl hfmt ?_
  simp only [g_issued]
  rw [atomicOp_issued hregion ha hloc hready hgood]

end

theorem atomics_misaligned (hfmt : fmtA w = true) (ha : (s.g t (opRA w)).toNat % 8 ≠ 0) :
    ∀ c ∈ [Instr.amoadd t w, .cas t w], Completes c s fun u =>
      u = (s.issued t).except t 2 (BitVec.ofNat 64 (s.g t (opRA w)).toNat) := by
  have hr : ((s.issued t).thr t).region = none := by rw [thr_issued, hregion]
  simp only [List.forall_mem_cons, List.not_mem_nil, IsEmpty.forall_iff, implies_true, and_true]
  refine ⟨completes_of_issue (c := .amoadd t w) h rfl hfmt ?_, completes_of_issue (c := .cas t w) h rfl hfmt ?_⟩
  · rw [g_issued, atomicOp_of_misaligned _ _ hr ha]
  · rw [g_issued, atomicOp_of_misaligned _ _ hr ha]

end

/-! ## Fences (R308) -/

section
variable {s : State} {t w : Nat} (h : Issues t w s) (hok : fenceOk w = true)
include h hok

theorem fenceWaits_eq : s.fenceWaits t w = (opPX w == 0 && s.cmdRuns t) := by
  rw [fenceWaits_of_good h.1 h.2.1, h.2.2.1, h.2.2.2, hok]
  rfl

theorem fence_completes (hfree : opPX w ≠ 0 ∨ s.cmdRuns t = false) : ∀ c ∈ [Instr.fenceFull t w, .fenceSt t w, .fenceRn t w],
    Completes c s (ThreadOnly t (retiredAt (s.thr t) (nextPc (s.thr t))) s) := by
  have hfence : s.fenceWaits t w = false := by
    rw [fenceWaits_eq h hok]
    rcases hfree with hkind | hruns
    · simp [hkind]
    · simp [hruns]
  have hend : ∀ c : Instr, exec c s = .next (s.fence t w) → Completes c s (ThreadOnly t (retiredAt (s.thr t) (nextPc (s.thr t))) s) :=
    fun c he => completes_of_issue (c := c) h (he.trans (by rw [fence_of_free hfence])) hok (threadOnly_retire h.ready)
  simp only [List.forall_mem_cons, List.not_mem_nil, IsEmpty.forall_iff, implies_true, and_true]
  exact ⟨hend _ rfl, hend _ rfl, hend _ rfl⟩

theorem fenceFull_waits (hkind : opPX w = 0) (hruns : s.cmdRuns t = true) : Completes (.fenceFull t w) s fun u => u = s.takeTurn t :=
  completes_of_exec (c := .fenceFull t w) (t := s.fence t w) rfl (by rw [State.fence, fenceWaits_eq h hok, hkind, hruns]; rfl)

end

/-- Settles O28, each atomic by whether it writes its word. -/
theorem ocellAtomics : Obligations.OcellAtomics := fun s t w h hregion => by
  refine ⟨fun m o hfmt ha hloc hready hgood => ?_, fun hfmt ha => atomics_misaligned h hregion hfmt ha,
    fun hok hfree => fence_completes h hok hfree, fun hok hkind hruns => fenceFull_waits h hok hkind hruns⟩
  have hw : o / 8 < 2 ^ 21 := by have := (dataLoc_mem (coreLoc_mem hloc).1).2; omega
  have hcas := cas_completes h hregion ha hloc hready hgood hfmt
  refine ⟨?_, fun hold => ?_, fun hold => ?_⟩
  · refine (amoadd_completes h hregion ha hloc hready hgood hfmt).imp fun u hu => ?_
    have hend := memWrite_result h.ready hw _ _ hu
    exact hend
  · rw [if_pos hold] at hcas
    refine hcas.imp fun u hu => ?_
    have hend := memWrite_result h.ready hw _ _ hu
    exact hend
  · rw [if_neg hold] at hcas
    refine hcas.imp fun u hu => ?_
    rw [hu, State.atomicWrite, result_ready (by rw [thr_issued, h.ready]), thr_issued]
    exact threadOnly_setThr s t _

end Sys2Proof.Machine
end

section
/-! PROOFS. `Obligations.OcellHandles`: the pieces of a frame, stores of several pieces, and the handle instructions (R264, R286, R287,
R345). -/

namespace Sys2Proof.Machine

/-! ## Stores of several pieces (R272) -/

theorem setMemBytes_mem_congr {s u : State} (h : u.mem = s.mem) (m o : Nat) (bs : List Byte) :
    (u.setMemBytes m o bs).mem = (s.setMemBytes m o bs).mem := by
  induction bs generalizing s u o with
  | nil => exact h
  | cons b bs ih => exact ih (by rw [State.setMemByte, h, State.setMemByte]) (o + 1)

/-- The bytes that the pieces of a store leave depend on the bytes of memory alone. -/
theorem mergePieces_mem_congr {s u : State} (h : u.mem = s.mem) (ps : List (Nat × Nat × List Byte)) :
    (ps.foldl State.mergePiece u).mem = (ps.foldl State.mergePiece s).mem := by
  induction ps generalizing s u with
  | nil => exact h
  | cons p ps ih => exact ih (by rw [mergePiece_mem, mergePiece_mem, setMemBytes_mem_congr h])

theorem mergePieces_ocl (s : State) (ps : List (Nat × Nat × List Byte)) : (ps.foldl State.mergePiece s).ocl = s.ocl :=
  foldl_ocl (fun u p => mergePiece_ocl u p) ps s

/-- An effect that leaves the threads alone and then retires an instruction of a Ready thread. -/
theorem retire_of_ocl {s u : State} {t : Nat} (h : u.ocl = s.ocl) (hs : (s.thr t).state = 1) :
    u.retire t = u.setThr t (retiredAt (s.thr t) (nextPc (s.thr t))) := by
  rw [retire_ready (by rw [thr_of_ocl h, hs]), thr_of_ocl h]

/-- Every piece that a store is cut into begins with a frame's piece and ends within it. -/
theorem cutPieces_within {ps : List (Nat × Nat)} {bs : List Byte} :
    ∀ p ∈ cutPieces ps bs, ∃ q ∈ ps, p.1 = 0 ∧ p.2.1 = q.1 ∧ p.2.2.length ≤ q.2 := by
  induction ps generalizing bs with
  | nil => intro p hp; cases hp
  | cons q ps ih =>
    intro p hp
    rcases List.mem_cons.mp hp with rfl | hp
    · exact ⟨q, List.mem_cons_self, rfl, rfl, List.length_take_le _ _⟩
    · obtain ⟨q', hq', hin⟩ := ih p hp
      exact ⟨q', List.mem_cons_of_mem _ hq', hin⟩

theorem wordsOf_mono {o n k x : Nat} (h : k ≤ n) (hx : x ∈ wordsOf o k) : x ∈ wordsOf o n := by
  rw [mem_wordsOf] at hx ⊢
  omega

/-! ## Frames (R287) -/

theorem link_issued (s : State) (t c : Nat) : (s.issued t).link c = s.link c := by rw [State.link, run_issued, State.link]

theorem cellAt_issued (s : State) (t c k : Nat) : (s.issued t).cellAt c k = s.cellAt c k := by
  induction k generalizing c with
  | zero => rw [State.cellAt, State.cellAt, link_issued]
  | succ k ih => rw [State.cellAt, State.cellAt, link_issued, ih]

@[simp] theorem framePieces_issued (s : State) (t : Nat) (h : Word) (o n : Nat) : (s.issued t).framePieces h o n = s.framePieces h o n := by
  simp only [State.framePieces, cellAt_issued]

section
variable {s : State} {t hs o n : Nat} {ps : List (Nat × Nat)} (hps : s.framePieces ((s.thr t).handle hs) o n = some ps)
  (hregion : (s.thr t).region = none) (hgood : ∀ p ∈ ps, ∀ x ∈ wordsOf p.1 p.2, s.eccOf 0 x = none)
include hps hregion hgood

theorem frameLoad_of_good (hready : s.memReady 0 = true) (rd : Nat) : s.frameLoad t hs o n rd =
    s.result t rd (BitVec.ofNat 64 (ofLe (ps.flatMap fun p => s.memBytes 0 p.1 p.2))) := by
  have hsees : ∀ p ∈ ps.map fun p => (0, p.1, p.2), s.SeesGood (s.thr t).effects p := by
    intro p hp k hk _
    obtain ⟨q, hq, rfl⟩ := List.mem_map.mp hp
    exact hgood q hq _ (mem_wordsOf.mpr (by dsimp only at hk ⊢; omega))
  simp only [State.frameLoad, hps, State.whenReady, hready, if_true, load_of_good hsees, effects_of_none hregion, List.flatMap_map, seenBytes_nil]

theorem frameStore_of_good (hstate : (s.thr t).state = 1) (v : Word) : s.frameStore t hs o n v =
    ((cutPieces ps (leBytes n v.toNat)).foldl State.mergePiece s).setThr t (retiredAt (s.thr t) (nextPc (s.thr t))) := by
  have hwrites : ∀ p ∈ cutPieces ps (leBytes n v.toNat), s.WritesGood p := by
    intro p hp x hx _
    obtain ⟨q, hq, hm, ho, hlen⟩ := cutPieces_within p hp
    rw [ho] at hx
    rw [hm]
    exact hgood q hq x (wordsOf_mono hlen hx)
  rw [State.frameStore, hps]
  exact (writeOp_of_good hregion hwrites none).trans (retire_of_ocl (mergePieces_ocl s _) hstate)

end

/-! ## Cells (R345) -/

/-- A refused allocation counts and raises its event, and leaves cells and runnels alone. -/
theorem allocFloor_refused {s u : State} {len : Nat} (h : s.allocFloor len = (none, u)) : u.run = s.run := by
  rw [State.allocFloor, State.allocAbove] at h
  split at h
  · cases h
  · cases h
    simp

/-! ## The handle instructions (R286) -/

/-- A Ready thread with a new record retires: its record, and the cells and runnels. -/
theorem setThr_retire_run (s : State) {t : Nat} {th : OclThread} (h : th.state = 1) :
    ((s.setThr t th).retire t).thr t = retiredAt th (nextPc th) ∧ ((s.setThr t th).retire t).run = s.run := by
  rw [setThr_retire s h]
  exact ⟨thr_setThr _ _ _, rfl⟩

theorem nextPc_setHandle (th : OclThread) (k : Nat) (v : Word) : nextPc (th.setHandle k v) = nextPc th := by rw [nextPc, setHandle_pc, nextPc]

theorem nextPc_setPred (th : OclThread) (k : Nat) (b : Bool) : nextPc (th.setPred k b) = nextPc th := by rw [nextPc, setPred_pc, nextPc]

/-- Each load through a handle by its opcode and width. -/
theorem frameLoad_form (s : State) (t w : Nat) : ∀ e ∈ [(Instr.hldb t w, 1), (.hldd t w, 8)], ∃ opc, exec e.1 s =
    .next (s.issue t opc w (fmtA w && names8 (opRA w)) fun s => s.frameLoad t (opRA w) (s.g t (opRB w)).toNat e.2 (opRD w)) := by
  simp only [List.forall_mem_cons, List.not_mem_nil, IsEmpty.forall_iff, implies_true, and_true]
  exact ⟨⟨_, rfl⟩, _, rfl⟩

/-- Each store through a handle by its opcode and width. -/
theorem frameStore_form (s : State) (t w : Nat) : ∀ e ∈ [(Instr.hstb t w, 1), (.hstd t w, 8)], ∃ opc, exec e.1 s =
    .next (s.issue t opc w (fmtA w && names8 (opRA w)) fun s => s.frameStore t (opRA w) (s.g t (opRB w)).toNat e.2 (s.g t (opRD w))) := by
  simp only [List.forall_mem_cons, List.not_mem_nil, IsEmpty.forall_iff, implies_true, and_true]
  exact ⟨⟨_, rfl⟩, _, rfl⟩

section
variable {s : State} {t w : Nat} (h : Issues t w s) (hfmt : fmtA w = true)
include h hfmt

theorem hmk_completes (hrd : opRD w < 8) (hc : (s.g t (opRA w)).toNat < 65536) : Completes (.hmk t w) s (ThreadOnly t
    (retiredAt ((s.thr t).setHandle (opRD w) (handleOf (s.g t (opRB w)).toNat (s.g t (opRA w)).toNat)) (nextPc (s.thr t))) s) := by
  refine completes_of_issue (c := .hmk t w) h rfl (by simp [hfmt, names8, hrd]) ?_
  simp only [g_issued]
  rw [if_neg (by omega), State.setH, thr_issued]
  have hend := threadOnly_setThr_retire s (t := t)
    (th := (s.thr t).setHandle (opRD w) (handleOf (s.g t (opRB w)).toNat (s.g t (opRA w)).toNat)) (by rw [setHandle_state, h.ready])
  rwa [nextPc_setHandle] at hend

theorem hmk_raises (hrd : opRD w < 8) (hc : 65536 ≤ (s.g t (opRA w)).toNat) : Completes (.hmk t w) s fun u =>
    u = (s.issued t).except t 5 (BitVec.ofNat 64 (s.g t (opRA w)).toNat) := by
  refine completes_of_issue (c := .hmk t w) h rfl (by simp [hfmt, names8, hrd]) ?_
  simp only [g_issued]
  rw [if_pos hc]

theorem hget_completes (hra : opRA w < 8) : Completes (.hget t w) s
    (ThreadOnly t (retiredAt ((s.thr t).setReg (opRD w) ((s.thr t).handle (opRA w))) (nextPc (s.thr t))) s) :=
  completes_of_result (c := .hget t w) h rfl (by simp [hfmt, names8, hra]) (by rw [thr_issued])

section
variable (hregion : (s.thr t).region = none)
include hregion

theorem halloc_completes (hrd : opRD w < 8) {v : State} {x : Nat} {xs : List Nat} (hlo : 1 ≤ (s.g t (opRB w)).toNat)
    (hhi : (s.g t (opRB w)).toNat ≤ 16384) (halloc : (s.issued t).allocFloor (s.g t (opRB w)).toNat = (some (x :: xs), v)) :
    Completes (.halloc t w) s fun u => u.thr t = retiredAt (((s.thr t).setHandle (opRD w)
      (handleOf (s.g t (opRB w)).toNat x)).setPred (opPX w) true) (nextPc (s.thr t)) ∧ u.run = v.run := by
  have hv : v.ocl = (s.issued t).ocl := by simpa [halloc] using allocFloor_ocl (s.issued t) (s.g t (opRB w)).toNat
  have hthr : v.thr t = s.thr t := by rw [thr_of_ocl hv, thr_issued]
  refine completes_of_issue (c := .halloc t w) h rfl (by simp [hfmt, names8, hrd]) ?_
  simp only [g_issued]
  rw [if_neg (by omega), halloc]
  simp only [State.inRegion, thr_issued, hregion, Option.isSome_none, Bool.false_eq_true, if_false, State.noteCell, hthr]
  rw [State.setP, State.setH, hthr, thr_setThr, setThr_setThr]
  have hend := setThr_retire_run v (t := t) (th := ((s.thr t).setHandle (opRD w)
    (handleOf (s.g t (opRB w)).toNat x)).setPred (opPX w) true) (by rw [setPred_state, setHandle_state, h.ready])
  rwa [nextPc_setPred, nextPc_setHandle] at hend

theorem halloc_refused (hrd : opRD w < 8) {v : State} (hlo : 1 ≤ (s.g t (opRB w)).toNat)
    (hhi : (s.g t (opRB w)).toNat ≤ 16384) (halloc : (s.issued t).allocFloor (s.g t (opRB w)).toNat = (none, v)) :
    Completes (.halloc t w) s fun u => u.thr t = retiredAt (((s.thr t).setHandle (opRD w) 0).setPred (opPX w) false)
      (nextPc (s.thr t)) ∧ u.run = s.run := by
  have hv : v.ocl = (s.issued t).ocl := by simpa [halloc] using allocFloor_ocl (s.issued t) (s.g t (opRB w)).toNat
  have hthr : v.thr t = s.thr t := by rw [thr_of_ocl hv, thr_issued]
  have hrun : v.run = s.run := by rw [allocFloor_refused halloc, run_issued]
  refine completes_of_issue (c := .halloc t w) h rfl (by simp [hfmt, names8, hrd]) ?_
  simp only [g_issued]
  rw [if_neg (by omega), halloc]
  simp only [State.inRegion, thr_issued, hregion, Option.isSome_none, Bool.false_eq_true, if_false]
  rw [State.setP, State.setH, hthr, thr_setThr, setThr_setThr, ← hrun]
  have hend := setThr_retire_run v (t := t) (th := ((s.thr t).setHandle (opRD w) 0).setPred (opPX w) false)
    (by rw [setPred_state, setHandle_state, h.ready])
  rwa [nextPc_setPred, nextPc_setHandle] at hend

theorem hfree_completes (hra : opRA w < 8) (hok : handleOk ((s.thr t).handle (opRA w)) = true) : Completes (.hfree t w) s fun u =>
    u.thr t = retiredAt ((s.thr t).setHandle (opRA w) 0) (nextPc (s.thr t)) ∧
      u.run = ((s.issued t).freeChain (handleCell ((s.thr t).handle (opRA w)))).run := by
  refine completes_of_issue (c := .hfree t w) h rfl (by simp [hfmt, names8, hra]) ?_
  simp only [thr_issued, hok, Bool.not_true, Bool.false_eq_true, if_false, hregion, Option.isSome_none]
  rw [State.setH, thr_of_ocl (freeChain_ocl _ _), thr_issued]
  have hend := setThr_retire_run ((s.issued t).freeChain (handleCell ((s.thr t).handle (opRA w)))) (t := t)
    (th := (s.thr t).setHandle (opRA w) 0) (by rw [setHandle_state, h.ready])
  rwa [nextPc_setHandle] at hend

end

section
variable {opc n : Nat} {c : Instr} (hra : opRA w < 8)
include hra

theorem frameLoad_completes (he : exec c s = .next (s.issue t opc w (fmtA w && names8 (opRA w)) fun s =>
      s.frameLoad t (opRA w) (s.g t (opRB w)).toNat n (opRD w))) (hregion : (s.thr t).region = none) {ps : List (Nat × Nat)}
    (hps : s.framePieces ((s.thr t).handle (opRA w)) (s.g t (opRB w)).toNat n = some ps) (hready : s.memReady 0 = true)
    (hgood : ∀ p ∈ ps, ∀ x ∈ wordsOf p.1 p.2, s.eccOf 0 x = none) : Completes c s (ThreadOnly t (retiredAt ((s.thr t).setReg (opRD w)
      (BitVec.ofNat 64 (ofLe (ps.flatMap fun p => s.memBytes 0 p.1 p.2)))) (nextPc (s.thr t))) s) := by
  refine completes_of_result h he (by simp [hfmt, names8, hra]) ?_
  have hload := frameLoad_of_good (s := s.issued t) (t := t) (hs := opRA w) (o := (s.g t (opRB w)).toNat) (n := n) (ps := ps)
    (by rwa [thr_issued, framePieces_issued]) (by rw [thr_issued, hregion]) (by simpa using hgood) (by rwa [memReady_issued]) (opRD w)
  simpa only [g_issued, memBytes_issued] using hload

theorem frameStore_completes (he : exec c s = .next (s.issue t opc w (fmtA w && names8 (opRA w)) fun s =>
      s.frameStore t (opRA w) (s.g t (opRB w)).toNat n (s.g t (opRD w)))) (hregion : (s.thr t).region = none) {ps : List (Nat × Nat)}
    (hps : s.framePieces ((s.thr t).handle (opRA w)) (s.g t (opRB w)).toNat n = some ps)
    (hgood : ∀ p ∈ ps, ∀ x ∈ wordsOf p.1 p.2, s.eccOf 0 x = none) : Completes c s fun u =>
      u.thr t = retiredAt (s.thr t) (nextPc (s.thr t)) ∧ ∀ m b, u.memByte m b =
        ((cutPieces ps (leBytes n (s.g t (opRD w)).toNat)).foldl State.mergePiece s).memByte m b := by
  refine completes_of_issue h he (by simp [hfmt, names8, hra]) ?_
  have hstore := frameStore_of_good (s := s.issued t) (t := t) (hs := opRA w) (o := (s.g t (opRB w)).toNat) (n := n) (ps := ps)
    (by rwa [thr_issued, framePieces_issued]) (by rw [thr_issued, hregion]) (by simpa using hgood) (by rw [thr_issued, h.ready])
    (s.g t (opRD w))
  simp only [g_issued]
  rw [hstore, thr_issued]
  exact ⟨thr_setThr _ _ _, memByte_of_mem (mergePieces_mem_congr (mem_issued s t) _)⟩

section
variable (hps : s.framePieces ((s.thr t).handle (opRA w)) (s.g t (opRB w)).toNat n = none)
include hps

theorem frameLoad_outside (he : exec c s = .next (s.issue t opc w (fmtA w && names8 (opRA w)) fun s =>
      s.frameLoad t (opRA w) (s.g t (opRB w)).toNat n (opRD w))) : Completes c s fun u =>
    u = (s.issued t).except t 5 (BitVec.ofNat 64 (s.g t (opRB w)).toNat) := by
  refine completes_of_issue h he (by simp [hfmt, names8, hra]) ?_
  simp only [State.frameLoad, thr_issued, g_issued, framePieces_issued, hps]

theorem frameStore_outside (he : exec c s = .next (s.issue t opc w (fmtA w && names8 (opRA w)) fun s =>
      s.frameStore t (opRA w) (s.g t (opRB w)).toNat n (s.g t (opRD w)))) : Completes c s fun u =>
    u = (s.issued t).except t 5 (BitVec.ofNat 64 (s.g t (opRB w)).toNat) := by
  refine completes_of_issue h he (by simp [hfmt, names8, hra]) ?_
  simp only [State.frameStore, thr_issued, g_issued, framePieces_issued, hps]

end
end
end

/-- Settles O29, each handle instruction by its lemmas above. -/
theorem ocellHandles : Obligations.OcellHandles := fun s t w h hregion hfmt => by
  refine ⟨fun hrd hc => hmk_completes h hfmt hrd hc, fun hrd hc => hmk_raises h hfmt hrd hc, fun hra => hget_completes h hfmt hra,
    fun hra e he => ?_, fun hra e he => ?_, fun hrd v x xs hlo hhi halloc => halloc_completes h hfmt hregion hrd hlo hhi halloc,
    fun hrd v hlo hhi halloc => halloc_refused h hfmt hregion hrd hlo hhi halloc, fun hra hok => hfree_completes h hfmt hregion hra hok⟩
  · obtain ⟨opc, hexec⟩ := frameLoad_form s t w e he
    exact ⟨fun ps hps hready hgood => frameLoad_completes h hfmt hra hexec hregion hps hready hgood,
      fun hps => frameLoad_outside h hfmt hra hps hexec⟩
  · obtain ⟨opc, hexec⟩ := frameStore_form s t w e he
    exact ⟨fun ps hps hgood => frameStore_completes h hfmt hra hexec hregion hps hgood,
      fun hps => frameStore_outside h hfmt hra hps hexec⟩

end Sys2Proof.Machine
end

section
/-! PROOFS. `Obligations.OcellRunnels`: what an issue leaves for a runnel instruction to read, what words that land or are popped leave, and the
runnel instructions (R282, R283, R296, R334). -/

namespace Sys2Proof.Machine

/-! ## What an issued runnel instruction reads -/

theorem threads_issued (s : State) (t : Nat) : (s.issued t).ocl.threads = s.ocl.threads := by
  simp only [State.issued, State.issueCount, State.on, State.takeTurn, State.nextCycle]
  repeat' split
  all_goals simp

@[simp] theorem runnel_issued (s : State) (t n : Nat) : (s.issued t).runnel n = s.runnel n := by rw [State.runnel, run_issued, State.runnel]

@[simp] theorem runnelOn_issued (s : State) (t n : Nat) : (s.issued t).runnelOn n = s.runnelOn n := by
  rw [State.runnelOn, runnel_issued, flag_issued _ _ _ _ (by decide), State.runnelOn]

@[simp] theorem runnelRoom_issued (s : State) (t n : Nat) : (s.issued t).runnelRoom n = s.runnelRoom n := by
  rw [State.runnelRoom, State.runnelSize, runnel_issued, fld_issued _ _ _ _ (by decide), State.runnelRoom, State.runnelSize]

@[simp] theorem pushesBefore_issued (s : State) (t n x : Nat) : (s.issued t).pushesBefore n x = s.pushesBefore n x := by
  simp only [State.pushesBefore, threads_issued, runnelRoom_issued]

@[simp] theorem engineReady_issued (s : State) (t n : Nat) : (s.issued t).engineReady n = s.engineReady n := by
  simp only [State.engineReady, runnel_issued, pwr_issued, runnelRoom_issued]

@[simp] theorem ringReady_issued (s : State) (t n : Nat) : (s.issued t).ringReady n = s.ringReady n := by
  simp only [State.ringReady, runnel_issued, runnelRoom_issued]

@[simp] theorem pushReady_issued (s : State) (t x n k : Nat) : (s.issued t).pushReady x n k = s.pushReady x n k := by
  simp only [State.pushReady, State.threadReady, runnelRoom_issued, engineReady_issued, ringReady_issued, pushesBefore_issued]

@[simp] theorem runB_issued (s : State) (t w : Nat) : (s.issued t).runB t w = s.runB t w := by rw [State.runB, addrB_issued, State.runB]

@[simp] theorem words4_issued (s : State) (t w : Nat) : (s.issued t).words4 t w = s.words4 t w := by simp only [State.words4, g_issued]

/-! ## What a retirement and a wait leave (R302, R303) -/

/-- What neither a thread's record nor a count touches, a change of STATE leaves alone. -/
theorem setThrState_keeps {α : Type} {p : State → α} (hthr : ∀ u x th, p (State.setThr u x th) = p u)
    (hcount : ∀ u f n i j, p (State.count u f n i j) = p u) (s : State) (t st : Nat) : p (s.setThrState t st) = p s := by
  rw [State.setThrState, hthr, State.wdHold, hthr, State.waitCount]
  dsimp only
  split
  · exact on_keeps (P := fun u : State => p u = p s) _ (hthr _ _ _) ((hcount _ _ _ _ _).trans (hthr _ _ _))
  · rfl

theorem retire_keeps {α : Type} {p : State → α} (hthr : ∀ u x th, p (State.setThr u x th) = p u)
    (hcount : ∀ u f n i j, p (State.count u f n i j) = p u) (s : State) (t : Nat) : p (s.retire t) = p s := by
  rw [State.retire, hthr]
  split
  · exact setThrState_keeps hthr hcount s t 1
  · rfl

@[simp] theorem setThrState_run (s : State) (t st : Nat) : (s.setThrState t st).run = s.run :=
  setThrState_keeps (p := State.run) (fun _ _ _ => rfl) (fun _ _ _ _ _ => rfl) s t st

@[simp] theorem retire_run (s : State) (t : Nat) : (s.retire t).run = s.run :=
  retire_keeps (p := State.run) (fun _ _ _ => rfl) (fun _ _ _ _ _ => rfl) s t

@[simp] theorem enterWait_run (s : State) (t : Nat) (x : OclWait) : (s.enterWait t x).run = s.run := setThrState_run s t 2

/-- A thread that retires goes to its next address; a wait ends, and what the watchdog and the wait have counted is settled. -/
theorem retire_record (s : State) (t : Nat) : ∃ state wait acc since start rest, (s.retire t).thr t = retiredAt { s.thr t with
    state := state, wait := wait, wdAcc := acc, wdFrom := since, waitFrom := start, waitRest := rest } (nextPc (s.thr t)) ∧
      (state = if (s.thr t).state = 2 then 1 else (s.thr t).state) := by
  rw [State.retire, thr_setThr]
  split
  · obtain ⟨acc, since, start, rest, hthr⟩ := setThrState_thr s t 1
    rw [hthr]
    exact ⟨_, _, acc, since, start, rest, rfl, rfl⟩
  · exact ⟨_, _, _, _, _, _, rfl, rfl⟩

/-- A thread that retires goes to its next address, with the predicates that it had. -/
theorem retire_thr (s : State) (t : Nat) : ((s.retire t).thr t).pc = nextPc (s.thr t) ∧ ∀ k, ((s.retire t).thr t).pred k = (s.thr t).pred k := by
  obtain ⟨state, wait, acc, since, start, rest, hthr, -⟩ := retire_record s t
  rw [hthr]
  exact ⟨rfl, fun _ => rfl⟩

theorem setGs_run (s : State) (t r : Nat) (vs : List Word) : (s.setGs t r vs).run = s.run := by
  induction vs generalizing s r with
  | nil => rfl
  | cons v vs ih => exact ih (s.setG t r v) (r + 1)

theorem setGs_pc (s : State) (t r : Nat) (vs : List Word) : ((s.setGs t r vs).thr t).pc = (s.thr t).pc := by
  induction vs generalizing s r with
  | nil => rfl
  | cons v vs ih => rw [State.setGs, ih, State.setG, thr_setThr, setReg_pc]

/-! ## Words that land, and words that are popped (R296, R334) -/

theorem runnel_of_run {s u : State} (h : u.run = s.run) (n : Nat) : u.runnel n = s.runnel n := by rw [State.runnel, h, State.runnel]

theorem land_words (s : State) (n : Nat) (ws : List RunWord) (who : Nat) : ((s.land n ws who).runnel n).words = (s.runnel n).words ++ ws := by
  rw [State.land, runnel_of_run (judgeMarks_run _ _), runnel_of_run (bump_run _ _ _ _ _), runnel_setRunnel]

/-- Words that a thread pushes lie at the end of their runnel, but those that Jomuter pushes to KEY_RUNNEL (R461). -/
theorem threadLand_words (s : State) {t n : Nat} (ws : List Word) (h : t ≠ 129 ∨ n ≠ s.fld F.TWN_RUNNEL_KEY_RUNNEL) :
    ((s.threadLand t n ws).runnel n).words = (s.runnel n).words ++ ws.map fun x => mkWord x := by
  have hkey : (isJomuter t && n == s.fld F.TWN_RUNNEL_KEY_RUNNEL) = false := by
    rcases h with h | h
    · simp [isJomuter, h]
    · simp [h]
  rw [State.threadLand, hkey]
  exact land_words s n _ t

theorem popWords_words (s : State) (n k : Nat) : ((s.popWords n k).2.runnel n).words = (s.runnel n).words.drop k := by
  rw [State.popWords, runnel_of_run (noteBad_run _ _ _), runnel_of_run (bump_run _ _ _ _ _), State.unqueue, runnel_of_run (judgeMarks_run _ _),
    runnel_setRunnel]

/-- A push with nothing ready before it finds nothing to serve (R334). -/
theorem servePushes_of_idle {s : State} {t n : Nat} (hengine : s.engineReady n = false) (hring : s.ringReady n = false)
    (hthread : s.pushesBefore n t = []) : s.servePushes t n = s := by
  have hall : s.serveAll n = s := by
    rw [State.serveAll]
    cases (s.runnel n).waiting.length + (s.runnel n).ringWaits.length with
    | zero => rfl
    | succ k => simp [State.serveEngines, hengine, hring]
  rw [State.servePushes, hall, hthread]
  rfl

theorem pushReady_iff {s : State} {t n k : Nat} : s.pushReady t n k = true ↔
    k ≤ s.runnelRoom n ∧ s.engineReady n = false ∧ s.ringReady n = false ∧ s.pushesBefore n t = [] := by
  simp only [State.pushReady, State.threadReady, Bool.and_eq_true, decide_eq_true_eq, Bool.not_eq_true', Bool.not_eq_false',
    List.isEmpty_iff, and_assoc]

/-! ## The runnel instructions (R282) -/

/-- A push of words that have room that nothing before them waits for. -/
theorem pushOp_lands {s : State} {t n : Nat} {ws : List Word} (hregion : (s.thr t).region = none) (hon : s.runnelOn n = true)
    (hready : s.pushReady t n ws.length = true) : (s.issued t).pushOp t n ws = ((s.issued t).threadLand t n ws).retire t := by
  simp [State.pushOp, hon, hregion, hready]

theorem landed_words (s : State) {t n : Nat} (ws : List Word) (hkey : t ≠ 129 ∨ n ≠ s.fld F.TWN_RUNNEL_KEY_RUNNEL) :
    ((((s.issued t).threadLand t n ws).retire t).runnel n).words = (s.runnel n).words ++ ws.map fun x => mkWord x := by
  rw [runnel_of_run (retire_run _ _), threadLand_words _ _ (by rwa [fld_issued _ _ _ _ (by decide)]), runnel_issued]

section
variable {s : State} {t w : Nat} (h : Issues t w s)
include h

section
variable {n : Nat} (hn : n = s.runB t w)
include hn

theorem push_completes (hregion : (s.thr t).region = none) (hon : s.runnelOn n = true) (hready : s.pushReady t n 1 = true) :
    Completes (.push t w) s fun u => u = ((s.issued t).threadLand t n [s.g t (opRD w)]).retire t ∧
      ((t ≠ 129 ∨ n ≠ s.fld F.TWN_RUNNEL_KEY_RUNNEL) → (u.runnel n).words = (s.runnel n).words ++ [mkWord (s.g t (opRD w))]) := by
  refine completes_of_issue (c := .push t w) h rfl rfl ?_
  rw [runB_issued, ← hn, g_issued, pushOp_lands (ws := [s.g t (opRD w)]) hregion hon hready]
  exact ⟨rfl, landed_words s [s.g t (opRD w)]⟩

theorem push_waits (hregion : (s.thr t).region = none) (hon : s.runnelOn n = true) (hready : s.pushReady t n 1 = false) :
    Completes (.push t w) s fun u => (u.thr t).state = 2 ∧ (u.thr t).wait = some (.push n [s.g t (opRD w)]) ∧ u.run = s.run := by
  refine completes_of_issue (c := .push t w) h rfl rfl ?_
  have hwait : (s.issued t).pushOp t n [s.g t (opRD w)] = (s.issued t).enterWait t (.push n [s.g t (opRD w)]) := by
    simp [State.pushOp, hon, hregion, hready]
  obtain ⟨hstate, hfor, -⟩ := enterWait_thr (s.issued t) t (.push n [s.g t (opRD w)])
  rw [runB_issued, ← hn, g_issued, hwait]
  exact ⟨hstate, hfor, by rw [enterWait_run, run_issued]⟩

theorem push4_completes (hregion : (s.thr t).region = none) (hrd : opRD w ≤ 28) (hon : s.runnelOn n = true)
    (hready : s.pushReady t n 4 = true) : Completes (.push4 t w) s fun u => u = ((s.issued t).threadLand t n (s.words4 t w)).retire t ∧
      ((t ≠ 129 ∨ n ≠ s.fld F.TWN_RUNNEL_KEY_RUNNEL) →
        (u.runnel n).words = (s.runnel n).words ++ (s.words4 t w).map fun x => mkWord x) := by
  refine completes_of_issue (c := .push4 t w) h rfl (decide_eq_true hrd) ?_
  simp only [runB_issued, ← hn, words4_issued, thr_issued, hregion, Option.isSome_none, Bool.false_and, Bool.false_eq_true, if_false]
  rw [pushOp_lands hregion hon (by simpa [State.words4] using hready)]
  exact ⟨rfl, landed_words s (s.words4 t w)⟩

theorem rlev_completes (hon : s.runnelOn n = true) : Completes (.rlev t w) s (ThreadOnly t
    (retiredAt ((s.thr t).setReg (opRD w) (BitVec.ofNat 64 (s.runnel n).words.length)) (nextPc (s.thr t))) s) :=
  completes_of_result (c := .rlev t w) h rfl rfl (by simp [← hn, hon])

end
end

/-- A pop of `k` words outside a region, behind the waiting threads below it (R296). -/
theorem popOp_issued {s : State} {t n : Nat} (hregion : (s.thr t).region = none) (hon : s.runnelOn n = true) (k rd : Nat) :
    (s.issued t).popOp t n k rd = if k ≤ ((s.issued t).servePops t n).poppable n then ((s.issued t).servePops t n).popInto t n k rd
      else ((s.issued t).servePops t n).enterWait t (.pop n k rd) := by
  rw [State.popOp, unlessRegion_of_none (by rw [thr_issued, hregion])]
  simp [hon]

/-- Good words that are popped into registers, and the runnel after. -/
theorem popInto_of_good {s : State} {t n k : Nat} (hgood : (s.popWords n k).1.any RunWord.isBad = false) (rd : Nat) :
    s.popInto t n k rd = ((s.popWords n k).2.setGs t rd ((s.popWords n k).1.map fun x => x.val)).retire t ∧
      ((s.popInto t n k rd).runnel n).words = (s.runnel n).words.drop k := by
  have heq : s.popInto t n k rd = ((s.popWords n k).2.setGs t rd ((s.popWords n k).1.map fun x => x.val)).retire t := by
    simp [State.popInto, hgood]
  exact ⟨heq, by rw [heq, runnel_of_run (retire_run _ _), runnel_of_run (setGs_run _ _ _ _), popWords_words]⟩

/-- What popw leaves of its thread and its runnel when it takes a good word. -/
theorem popwTake_of_good {s : State} {t n : Nat} (hgood : (s.popWords n 1).1.any RunWord.isBad = false) (rd px : Nat) :
    ((s.popwTake t n rd px).thr t).pred px = true ∧ ((s.popwTake t n rd px).thr t).pc = nextPc (s.thr t) ∧
      ((s.popwTake t n rd px).runnel n).words = (s.runnel n).words.drop 1 := by
  have heq : s.popwTake t n rd px =
      (((s.popWords n 1).2.setGs t rd ((s.popWords n 1).1.map fun x => x.val)).setP t px true).retire t := by
    simp [State.popwTake, hgood]
  obtain ⟨hpc, hpred⟩ := retire_thr (((s.popWords n 1).2.setGs t rd ((s.popWords n 1).1.map fun x => x.val)).setP t px true) t
  rw [heq]
  refine ⟨?_, ?_, ?_⟩
  · rw [hpred, State.setP, thr_setThr, pred_setPred]
    split
    · rfl
    · rename_i hpx
      have : px = 0 := by simpa using hpx
      simp [OclThread.pred, this]
  · rw [hpc, State.setP, thr_setThr, nextPc_setPred, nextPc, setGs_pc, thr_of_ocl (popWords_ocl _ _ _), nextPc]
  · rw [runnel_of_run (retire_run _ _), State.setP, runnel_of_run (setThr_run _ _ _), runnel_of_run (setGs_run _ _ _ _), popWords_words]

section
variable {s : State} {t w : Nat} (h : Issues t w s) (hregion : (s.thr t).region = none)
include h hregion

section
variable {n : Nat} (hn : n = s.runB t w) (hon : s.runnelOn n = true)
include hn hon

theorem pop_completes (hmany : 1 ≤ ((s.issued t).servePops t n).poppable n)
    (hgood : (((s.issued t).servePops t n).popWords n 1).1.any RunWord.isBad = false) : Completes (.pop t w) s fun u =>
      u = ((((s.issued t).servePops t n).popWords n 1).2.setGs t (opRD w)
          ((((s.issued t).servePops t n).popWords n 1).1.map fun x => x.val)).retire t ∧
        (u.runnel n).words = (((s.issued t).servePops t n).runnel n).words.drop 1 := by
  refine completes_of_issue (c := .pop t w) h rfl rfl ?_
  rw [runB_issued, ← hn, popOp_issued hregion hon, if_pos hmany]
  exact popInto_of_good hgood _

theorem pop4_completes (hrd : opRD w ≤ 28) (hmany : 4 ≤ ((s.issued t).servePops t n).poppable n)
    (hgood : (((s.issued t).servePops t n).popWords n 4).1.any RunWord.isBad = false) : Completes (.pop4 t w) s fun u =>
      u = ((((s.issued t).servePops t n).popWords n 4).2.setGs t (opRD w)
          ((((s.issued t).servePops t n).popWords n 4).1.map fun x => x.val)).retire t ∧
        (u.runnel n).words = (((s.issued t).servePops t n).runnel n).words.drop 4 := by
  refine completes_of_issue (c := .pop4 t w) h rfl (decide_eq_true hrd) ?_
  rw [runB_issued, ← hn, popOp_issued hregion hon, if_pos hmany]
  exact popInto_of_good hgood _

theorem pop_waits (hempty : ((s.issued t).servePops t n).poppable n = 0) : Completes (.pop t w) s fun u =>
    (u.thr t).state = 2 ∧ (u.thr t).wait = some (.pop n 1 (opRD w)) ∧ u.run = ((s.issued t).servePops t n).run := by
  refine completes_of_issue (c := .pop t w) h rfl rfl ?_
  obtain ⟨hstate, hfor, -⟩ := enterWait_thr ((s.issued t).servePops t n) t (.pop n 1 (opRD w))
  rw [runB_issued, ← hn, popOp_issued hregion hon, if_neg (by omega)]
  exact ⟨hstate, hfor, enterWait_run _ _ _⟩

end

section
variable (hfmt : fmtA w = true) {q : Nat} (hq : q = (s.g t (opRA w)).toNat % 256) (hon : s.runnelOn q = true)
include hfmt hq hon

theorem popw_completes (hmany : 1 ≤ ((s.issued t).servePops t q).poppable q)
    (hgood : (((s.issued t).servePops t q).popWords q 1).1.any RunWord.isBad = false) : Completes (.popw t w) s fun u =>
      (u.thr t).pred (opPX w) = true ∧ (u.thr t).pc = nextPc (((s.issued t).servePops t q).thr t) ∧
        (u.runnel q).words = (((s.issued t).servePops t q).runnel q).words.drop 1 := by
  refine completes_of_issue (c := .popw t w) h rfl hfmt ?_
  dsimp only
  rw [unlessRegion_of_none (by rw [thr_issued, hregion])]
  simp only [g_issued, ← hq, runnelOn_issued, hon, Bool.not_true, Bool.false_eq_true, if_false, if_pos hmany]
  exact popwTake_of_good hgood _ _

theorem popw_waits (hempty : ((s.issued t).servePops t q).poppable q = 0) (hns : (s.g t (opRB w)).toNat % 2 ^ 32 ≠ 0) :
    Completes (.popw t w) s fun u => ∃ due, (u.thr t).wait = some (.popw q (opRD w) (opPX w) due) ∧
      s.clp.now + (s.g t (opRB w)).toNat % 2 ^ 32 ≤ due ∧ due ≤ s.clp.now + (s.g t (opRB w)).toNat % 2 ^ 32 + 10 := by
  have hnow : ((s.issued t).servePops t q).clp.now = s.clp.now :=
    (congrArg Lasting.now (servePops_lasting (s := s.issued t) t q)).trans (congrArg ClpState.now (clp_issued s t))
  refine completes_of_issue (c := .popw t w) h rfl hfmt ?_
  dsimp only
  rw [unlessRegion_of_none (by rw [thr_issued, hregion])]
  simp only [g_issued, ← hq, runnelOn_issued, hon, Bool.not_true, Bool.false_eq_true, if_false, hempty, hns, State.fresh, hnow,
    Nat.one_ne_zero, nonpos_iff_eq_zero]
  exact ⟨_, (enterWait_thr _ t _).2.1, by omega, by omega⟩

end

section
variable (himm : opI w = true) (hbits : bits w 8 5 = 0) {k : Nat} (hk : k = bits w 0 8) (hon : s.runnelOn k = true)
include himm hbits hk hon

theorem tpush_completes : Completes (.tpush t w) s fun u =>
    u = if 1 ≤ ((s.issued t).servePushes t k).runnelRoom k then
        (((s.issued t).servePushes t k).threadLand t k [((s.issued t).servePushes t k).g t (opEA w)]).resultP t (opPD w) true
      else ((s.issued t).servePushes t k).resultP t (opPD w) false := by
  refine completes_of_issue (c := .tpush t w) h rfl (by simp [himm, hbits]) ?_
  dsimp only
  rw [unlessRegion_of_none (by rw [thr_issued, hregion])]
  simp only [← hk, runnelOn_issued, hon, Bool.not_true, Bool.false_eq_true, if_false]

theorem tpush_lands (hready : s.pushReady t k 1 = true) (hkey : t ≠ 129 ∨ k ≠ s.fld F.TWN_RUNNEL_KEY_RUNNEL) :
    Completes (.tpush t w) s fun u => (u.runnel k).words = (s.runnel k).words ++ [mkWord (s.g t (opEA w))] ∧
      u.thr t = retiredAt ((s.thr t).setPred (opPD w) true) (nextPc (s.thr t)) := by
  obtain ⟨hroom, hengine, hring, hthread⟩ := pushReady_iff.mp hready
  have hidle : (s.issued t).servePushes t k = s.issued t :=
    servePushes_of_idle (by rwa [engineReady_issued]) (by rwa [ringReady_issued]) (by rwa [pushesBefore_issued])
  refine (tpush_completes h hregion himm hbits hk hon).imp fun u hu => ?_
  have hthr : ((s.issued t).threadLand t k [s.g t (opEA w)]).thr t = s.thr t := by rw [thr_of_ocl (threadLand_ocl _ _ _ _), thr_issued]
  rw [hidle, if_pos (by rwa [runnelRoom_issued]), g_issued, resultP_ready (by rw [hthr, h.ready]), hthr] at hu
  subst hu
  refine ⟨?_, thr_setThr _ _ _⟩
  rw [runnel_of_run (setThr_run _ _ _), threadLand_words _ _ (by rwa [fld_issued _ _ _ _ (by decide)]), runnel_issued]
  rfl

theorem tpush_full (hroom : s.runnelRoom k = 0) (hwaiting : (s.runnel k).waiting = []) (hrings : (s.runnel k).ringWaits = [])
    (hthread : s.pushesBefore k t = []) : Completes (.tpush t w) s
      (ThreadOnly t (retiredAt ((s.thr t).setPred (opPD w) false) (nextPc (s.thr t))) s) := by
  have hidle : (s.issued t).servePushes t k = s.issued t :=
    servePushes_of_idle (by rw [engineReady_issued, State.engineReady, hwaiting]) (by rw [ringReady_issued, State.ringReady, hrings])
      (by rwa [pushesBefore_issued])
  refine (tpush_completes h hregion himm hbits hk hon).imp fun u hu => ?_
  rw [hidle, if_neg (by rw [runnelRoom_issued]; omega), resultP_ready (by rw [thr_issued, h.ready]), thr_issued] at hu
  subst hu
  exact threadOnly_setThr s t _

end
end

/-- A runnel that is not enabled raises RUNNEL (R294). -/
theorem runnel_off {s : State} {t w n : Nat} (h : Issues t w s) (hregion : (s.thr t).region = none) (hn : n = s.runB t w)
    (hoff : s.runnelOn n = false) : ∀ c ∈ [Instr.push t w, .pop t w, .rlev t w], Completes c s fun u =>
      u = (s.issued t).except t 6 (BitVec.ofNat 64 n) := by
  simp only [List.forall_mem_cons, List.not_mem_nil, IsEmpty.forall_iff, implies_true, and_true]
  refine ⟨completes_of_issue (c := .push t w) h rfl rfl ?_, completes_of_issue (c := .pop t w) h rfl rfl ?_,
    completes_of_issue (c := .rlev t w) h rfl rfl ?_⟩
  · simp [State.pushOp, ← hn, hoff]
  · rw [State.popOp, unlessRegion_of_none (by rw [thr_issued, hregion])]
    simp [← hn, hoff]
  · simp [← hn, hoff]

/-- Settles O30, each runnel instruction by its lemmas above. -/
theorem ocellRunnels : Obligations.OcellRunnels := fun s t w h hregion =>
  ⟨fun hnone => by rw [State.servePops, hnone]; rfl,
    fun hon hready => push_completes h rfl hregion hon hready,
    fun hon hready => push_waits h rfl hregion hon hready,
    fun hrd hon hready => push4_completes h rfl hregion hrd hon hready,
    fun himm hbits hon hready hkey => tpush_lands h hregion himm hbits rfl hon hready hkey,
    fun himm hbits hon hroom => (tpush_completes h hregion himm hbits rfl hon).imp fun u hu => by rwa [if_pos hroom] at hu,
    fun himm hbits hon hroom => (tpush_completes h hregion himm hbits rfl hon).imp fun u hu => by rwa [if_neg (by omega)] at hu,
    fun himm hbits hon hroom hwaiting hrings hthread => tpush_full h hregion himm hbits rfl hon hroom hwaiting hrings hthread,
    fun _ _ => rfl,
    fun hon hmany hgood => pop_completes h hregion rfl hon hmany hgood,
    fun hrd hon hmany hgood => pop4_completes h hregion rfl hon hrd hmany hgood,
    fun hon hempty => pop_waits h hregion rfl hon hempty,
    fun hfmt hon hmany hgood => popw_completes h hregion hfmt rfl hon hmany hgood,
    fun hfmt hon hempty hns => popw_waits h hregion hfmt rfl hon hempty hns,
    fun hon => rlev_completes h rfl hon,
    fun hoff => runnel_off h hregion rfl hoff⟩

end Sys2Proof.Machine
end

section
/-! PROOFS. `Obligations.OcellCrypto`: what a crypto instruction does over operands without error marks (R290). -/

namespace Sys2Proof.Machine

section
variable {s : State} {t : Nat} {dst src : Nat × Nat} {m o k p n : Nat} (f : List Byte → List Byte → List Byte)

/-- Bytes of memory in words without error marks are good under any buffered stores. -/
theorem seesGood_of_words (es : List OclEffect) {n : Nat} (h : ∀ x ∈ wordsOf o n, s.eccOf m x = none) : s.SeesGood es (m, o, n) :=
  fun x hx _ => h _ (mem_wordsOf.mpr (by dsimp only at hx ⊢; omega))

/-- A crypto instruction over good operands outside a region stores its result, and retires. -/
theorem cryptoOp_of_good (hregion : (s.thr t).region = none) (hstate : (s.thr t).state = 1) (hn : dst.2 / 8 = n)
    (hd : dst.1 % 8 = 0) (hs : src.1 % 8 = 0)
    (hdloc : coreLoc t dst.1 dst.2 = some (m, o)) (hsloc : coreLoc t src.1 src.2 = some (k, p)) (hm : s.memReady m = true)
    (hk : s.memReady k = true) (hdgood : ∀ x ∈ wordsOf o dst.2, s.eccOf m x = none) (hsgood : ∀ x ∈ wordsOf p src.2, s.eccOf k x = none) :
    s.cryptoOp t dst src f =
      ((((pieces 8 n (f (s.memBytes m o dst.2) (s.memBytes k p src.2))).zipIdx).map fun x => (m, o + 8 * x.2, x.1)).foldl
        State.mergePiece s).setThr t (retiredAt (s.thr t) (nextPc (s.thr t))) := by
  have hload : ∀ {m o n : Nat}, (∀ x ∈ wordsOf o n, s.eccOf m x = none) → s.load t [(m, o, n)] = (s.memBytes m o n, none, s) := by
    intro m o n hgood
    rw [load_of_good (List.forall_mem_singleton.mpr (seesGood_of_words _ hgood)), effects_of_none hregion, List.flatMap_singleton]
    rfl
  have hfind : [dst, src].find? (fun x => x.1 % 8 != 0) = none := by simp [hd, hs]
  rw [← retire_of_ocl (mergePieces_ocl s _) hstate, State.cryptoOp]
  simp only [hfind, hdloc, hsloc, State.whenReady, hm, hk, if_true, hload hdgood, hload hsgood, hregion, Option.isSome_none,
    Bool.false_eq_true, if_false, hn]
  rfl

theorem cryptoOp_of_misaligned (hd : dst.1 % 8 ≠ 0) : s.cryptoOp t dst src f = s.except t 2 (BitVec.ofNat 64 dst.1) := by
  have hfind : [dst, src].find? (fun x => x.1 % 8 != 0) = some dst := by simp [hd]
  simp only [State.cryptoOp, hfind]

end

section
variable {s : State} {t w opc : Nat} {c : Instr} {dst src : Nat × Nat} {f : List Byte → List Byte → List Byte} (h : Issues t w s)
  (hfmt : fmtA w = true)
include h hfmt

theorem crypto_completes {g : State → State} (he : exec c s = .next (s.issue t opc w (fmtA w) g))
    (hg : g (s.issued t) = (s.issued t).cryptoOp t dst src f) (hregion : (s.thr t).region = none) {m o k p n : Nat}
    (hn : dst.2 / 8 = n) (hd : dst.1 % 8 = 0) (hs : src.1 % 8 = 0) (hdloc : coreLoc t dst.1 dst.2 = some (m, o)) (hsloc : coreLoc t src.1 src.2 = some (k, p))
    (hm : s.memReady m = true) (hk : s.memReady k = true) (hdgood : ∀ x ∈ wordsOf o dst.2, s.eccOf m x = none)
    (hsgood : ∀ x ∈ wordsOf p src.2, s.eccOf k x = none) : Completes c s fun u =>
      u.thr t = retiredAt (s.thr t) (nextPc (s.thr t)) ∧ ∀ m' x, u.memByte m' x =
        ((((pieces 8 n (f (s.memBytes m o dst.2) (s.memBytes k p src.2))).zipIdx).map fun x => (m, o + 8 * x.2, x.1)).foldl
          State.mergePiece s).memByte m' x := by
  refine completes_of_issue h he hfmt ?_
  rw [hg, cryptoOp_of_good f (by rw [thr_issued, hregion]) (by rw [thr_issued, h.ready]) hn hd hs hdloc hsloc (by rwa [memReady_issued])
    (by rwa [memReady_issued]) (by simpa using hdgood) (by simpa using hsgood), thr_issued, memBytes_issued, memBytes_issued]
  exact ⟨thr_setThr _ _ _, memByte_of_mem (mergePieces_mem_congr (mem_issued s t) _)⟩

end

/-- Settles O32, the two instructions as one operation on two operand regions. -/
theorem ocellCrypto : Obligations.OcellCrypto := fun s t w h hregion hfmt => by
  refine ⟨fun m o k p ha hb hd hs hm hk hdgood hsgood => ?_, fun m o k p ha hb hd hs hm hk hdgood hsgood => ?_, fun hb => ?_, fun ha => ?_⟩
  · exact crypto_completes (c := .shab t w) (dst := ((s.g t (opRB w)).toNat, 32)) (src := ((s.g t (opRA w)).toNat, 64))
      (f := fun h b => (shaCompress ((pieces 4 8 h).map ofLe) (shaWords b)).flatMap (leBytes 4)) h hfmt rfl
      (by rw [g_issued, g_issued]) hregion (by norm_num) hb ha hd hs hm hk hdgood hsgood
  · exact crypto_completes (c := .aesb t w) (dst := ((s.g t (opRA w)).toNat, 16)) (src := ((s.g t (opRB w)).toNat, 16))
      (f := fun b k => aesEnc k b) h hfmt rfl (by rw [g_issued, g_issued]) hregion (by norm_num) ha hb hd hs hm hk hdgood hsgood
  · exact completes_of_issue (c := .shab t w) h rfl hfmt (by simp only [g_issued]; exact cryptoOp_of_misaligned _ hb)
  · exact completes_of_issue (c := .aesb t w) h rfl hfmt (by simp only [g_issued]; exact cryptoOp_of_misaligned _ ha)

end Sys2Proof.Machine
end

section
/-! PROOFS. `Obligations.OcellRegions`: what a drop leaves of its thread, an empty seal, and the instructions of a speculation region
(R291, R292, R311–R313, R316). -/

namespace Sys2Proof.Machine

/-! ## A drop (R292, R311, R316) -/

theorem regionDrop_thr {s : State} {t : Nat} {r : Region} (h : (s.thr t).region = some r) :
    (s.regionDrop t).thr t = { s.thr t with region := none } := by
  rw [State.regionDrop, h]
  dsimp only
  rw [thr_of_ocl (oclCount_ocl _ _ _), thr_of_ocl (specsDrop_ocl _ _ _), thr_of_ocl (foldl_ocl (fun u c => freeChain_ocl u c) _ _), thr_setThr]

/-- A thread that drops its region is Ready at the drop target with its registers as they stood at spb. -/
theorem dropTo_record {s : State} {t : Nat} {r : Region} (h : (s.thr t).region = some r) (cause : Nat) : let u := s.dropTo t cause
    (u.thr t).region = none ∧ (u.thr t).state = 1 ∧ (u.thr t).g = r.g ∧ (u.thr t).p = r.p ∧ (u.thr t).h = r.h ∧ (u.thr t).pc = r.target ∧
      (u.thr t).dropCause = cause := by
  obtain ⟨acc, since, start, rest, hthr⟩ := setThrState_thr (s.regionDrop t) t 1
  dsimp only
  rw [dropTo_thr h, hthr, regionDrop_thr h]
  exact ⟨rfl, rfl, rfl, rfl, rfl, rfl, rfl⟩

/-! ## A seal (R312, R313) -/

@[simp] theorem cht_issued (s : State) (t : Nat) : (s.issued t).cht = s.cht := by
  simp only [State.issued, State.issueCount, State.on, State.takeTurn]
  repeat' split
  all_goals rfl

/-- The record of a thread that begins to wait (R303). -/
theorem enterWait_record (s : State) (t : Nat) (x : OclWait) : ∃ acc since start rest, (s.enterWait t x).thr t =
    { s.thr t with state := 2, wait := some x, wdAcc := acc, wdFrom := since, waitFrom := start, waitRest := rest } := by
  obtain ⟨acc, since, start, rest, hthr⟩ := setThrState_thr s t 2
  rw [State.enterWait, thr_setThr, hthr]
  exact ⟨acc, since, _, rest, rfl⟩

theorem sealTime_frame (s : State) (n : Nat) : (s.sealTime n).ocl = s.ocl ∧ (s.sealTime n).mem = s.mem ∧ (s.sealTime n).cht = s.cht ∧
    s.clp.now ≤ (s.sealTime n).clp.now ∧ (s.sealTime n).clp.now ≤ s.clp.now + 40 + 10 * n := by
  have hlt := Nat.mod_lt s.fresh.1 (show 0 < 41 + 10 * n by omega)
  have hnow : (s.sealTime n).clp.now = s.clp.now + s.fresh.1 % (41 + 10 * n) := advance_now s.fresh.2 _
  exact ⟨advance_ocl s.fresh.2 _, advance_mem s.fresh.2 _, advance_cht s.fresh.2 _, by omega, by omega⟩

theorem specsSeal_of_empty {s : State} (h : s.cht.specs = []) (t : Nat) : (s.specsSeal t).ocl = s.ocl ∧ (s.specsSeal t).mem = s.mem ∧
    (s.specsSeal t).clp = s.clp := by
  simp only [State.specsSeal, h, List.filter_nil, List.foldl_nil]
  trivial

section
variable {s : State} {t : Nat} {r : Region} (hregion : (s.thr t).region = some r)
include hregion

/-- What a seal of a thread with no POISON and no HALT to take, and no WATCHDOG, does. -/
theorem sealDone_of_quiet (hpoison : r.poison = none) (hhalt : r.halt = false)
    (hdue : (((s.specsSeal t).oclCount F.OCL_CNT_SEAL_COUNT t).thr t).wdDue = false) :
    s.sealDone t = ((((s.specsSeal t).oclCount F.OCL_CNT_SEAL_COUNT t).setThr t
      { ((s.specsSeal t).oclCount F.OCL_CNT_SEAL_COUNT t).thr t with region := none }).retire t) := by
  have hstay : ∀ u : State, (u.thr t).wdDue = false → (u.retire t).wdDeliver t = u.retire t := by
    intro u hu
    obtain ⟨state, wait, acc, since, start, rest, hthr, -⟩ := retire_record u t
    exact wdDeliver_of_not_due (by rw [hthr]; exact hu)
  rw [State.sealDone, hregion]
  simp only [hpoison, hhalt, Bool.false_and]
  rw [hstay _ (by rw [thr_setThr]; exact hdue)]
  rfl

/-- What is left by a seal of a thread with nothing provisional, no POISON and no HALT to take, and no WATCHDOG. -/
theorem sealDone_empty (hstate : (s.thr t).state = 2) (hpoison : r.poison = none) (hhalt : r.halt = false)
    (hdue : (s.thr t).wdDue = false) (hspecs : s.cht.specs = []) : let u := s.sealDone t
      (u.thr t).region = none ∧ (u.thr t).state = 1 ∧ (u.thr t).pc = nextPc (s.thr t) ∧ (u.thr t).g = (s.thr t).g ∧ u.mem = s.mem ∧
        u.clp = s.clp := by
  obtain ⟨hocl, hmem, hclp⟩ := specsSeal_of_empty hspecs t
  have hthr : ((s.specsSeal t).oclCount F.OCL_CNT_SEAL_COUNT t).thr t = s.thr t := by
    rw [thr_of_ocl (oclCount_ocl _ _ _), thr_of_ocl hocl]
  dsimp only
  rw [sealDone_of_quiet hregion hpoison hhalt (by rw [hthr, hdue])]
  obtain ⟨state, wait, acc, since, start, rest, hretire, hready⟩ :=
    retire_record (((s.specsSeal t).oclCount F.OCL_CNT_SEAL_COUNT t).setThr t
      { ((s.specsSeal t).oclCount F.OCL_CNT_SEAL_COUNT t).thr t with region := none }) t
  rw [thr_setThr, hthr] at hready hretire
  rw [hthr, hretire]
  refine ⟨rfl, by rw [hready]; exact if_pos hstate, rfl, rfl, ?_, ?_⟩
  · rw [retire_keeps (p := State.mem) (fun _ _ _ => rfl) (fun _ _ _ _ _ => rfl), setThr_mem, oclCount_mem, hmem]
  · rw [retire_keeps (p := State.clp) (fun _ _ _ => rfl) (fun _ _ _ _ _ => rfl), setThr_clp, State.oclCount]
    exact (on_keeps (P := fun u : State => u.clp = (s.specsSeal t).clp) _ rfl rfl).trans hclp

/-- A seal with nothing to perform takes at most 40 ns + 10 ns per entry (R312). -/
theorem sealRun_empty (hpoison : r.poison = none) (hhalt : r.halt = false) (hdue : (s.thr t).wdDue = false) (hspecs : s.cht.specs = []) :
    let u := ((s.enterWait t .seal).sealTime r.used).sealRun t []
    (u.thr t).region = none ∧ (u.thr t).state = 1 ∧ (u.thr t).pc = nextPc (s.thr t) ∧ (u.thr t).g = (s.thr t).g ∧ u.mem = s.mem ∧
      s.clp.now ≤ u.clp.now ∧ u.clp.now ≤ s.clp.now + 40 + 10 * r.used := by
  obtain ⟨acc, since, start, rest, hwait⟩ := enterWait_record s t .seal
  obtain ⟨hocl, hmem, hcht, hlo, hhi⟩ := sealTime_frame (s.enterWait t .seal) r.used
  have hframe {α : Type} {p : State → α} (hthr : ∀ u x th, p (State.setThr u x th) = p u)
      (hcount : ∀ u f n i j, p (State.count u f n i j) = p u) : p (s.enterWait t .seal) = p s :=
    (hthr _ _ _).trans (setThrState_keeps hthr hcount s t 2)
  have hthr := (thr_of_ocl hocl t).trans hwait
  obtain ⟨hregion', hstate, hpc, hg, hmem', hclp⟩ := sealDone_empty (s := (s.enterWait t .seal).sealTime r.used) (t := t) (r := r)
    (by rw [hthr]; exact hregion) (by rw [hthr]) hpoison hhalt (by rw [hthr]; exact hdue)
    (by rw [hcht, hframe (p := State.cht) (fun _ _ _ => rfl) fun _ _ _ _ _ => rfl, hspecs])
  dsimp only
  rw [State.sealRun, hclp, hmem', hmem, hpc, hg, hthr]
  rw [hframe (p := State.clp) (fun _ _ _ => rfl) fun _ _ _ _ _ => rfl] at hlo hhi
  exact ⟨hregion', hstate, rfl, rfl, hframe (p := State.mem) (fun _ _ _ => rfl) fun _ _ _ _ _ => rfl, hlo, hhi⟩

end

/-! ## The instructions of a region (R291, R292, R311) -/

theorem openRegion_ready {s : State} {t : Nat} (h : (s.thr t).state = 1) (target : Nat) : s.openRegion t target = s.setThr t
    { retiredAt (s.thr t) (nextPc (s.thr t)) with region := some { target := target, g := (s.thr t).g, p := (s.thr t).p, h := (s.thr t).h,
                                                                   retired := ((s.thr t).retired + 1) % 2 ^ 64 } } := by
  simp only [State.openRegion, retire_ready h, thr_setThr, setThr_setThr]
  rfl

/-- A store of memory in a region with an entry left is held (R311). -/
theorem writeOp_held {s : State} {t : Nat} {r : Region} (hregion : (s.thr t).region = some r) (hstate : (s.thr t).state = 1)
    (hused : r.used < 64) (ps : List (Nat × Nat × List Byte)) (a : Option Nat) : s.writeOp t ps a = s.setThr t
      { retiredAt (s.thr t) (nextPc (s.thr t)) with
        region := some { r with effects := r.effects ++ [.write ps a], used := r.used + 1 } } := by
  simp only [State.writeOp, hregion, Option.isSome_some, if_true, State.buffer, if_pos (show r.used + 1 ≤ 64 by omega), id]
  exact setThr_retire s hstate

/-- A store of memory in a region with no entry left drops it (R311). -/
theorem writeOp_drops {s : State} {t : Nat} {r : Region} (hregion : (s.thr t).region = some r) (hused : r.used = 64)
    (ps : List (Nat × Nat × List Byte)) (a : Option Nat) : s.writeOp t ps a = s.dropTo t 2 := by
  simp [State.writeOp, hregion, State.buffer, hused]

section
variable {s : State} {t w : Nat} (h : Issues t w s)
include h

theorem spb_completes (hregion : (s.thr t).region = none) : Completes (.spb t w) s (ThreadOnly t { retiredAt (s.thr t) (nextPc (s.thr t)) with
    region := some { target := toPattern 15 (s.branchTo t (imm22 w)), g := (s.thr t).g, p := (s.thr t).p, h := (s.thr t).h,
                     retired := ((s.thr t).retired + 1) % 2 ^ 64 } } s) := by
  refine completes_of_issue (c := .spb t w) h rfl rfl ?_
  dsimp only
  rw [unlessRegion_of_none (by rw [thr_issued, hregion]), openRegion_ready (by rw [thr_issued, h.ready]), branchTo_issued, thr_issued]
  exact threadOnly_setThr s t _

section
variable {r : Region} (hregion : (s.thr t).region = some r)
include hregion

theorem spb_drops : Completes (.spb t w) s fun u => u = (s.issued t).dropTo t 4 :=
  completes_of_issue (c := .spb t w) h rfl rfl (unlessRegion_of_some (by rw [thr_issued, hregion]; nofun) _)

theorem spd_drops (hfmt : fmtA w = true) : Completes (.spd t w) s fun u => u = (s.issued t).dropTo t 1 :=
  completes_of_issue (c := .spd t w) h rfl (by rw [hfmt, hregion]; rfl) rfl

theorem sps_seals (hfmt : fmtA w = true) : Completes (.sps t w) s fun u =>
    u = (((s.issued t).enterWait t .seal).sealTime r.used).sealRun t r.effects := by
  refine completes_of_issue (c := .sps t w) h rfl (by rw [hfmt, hregion]; rfl) ?_
  simp only [thr_issued, hregion]

theorem sps_empty_completes (hfmt : fmtA w = true) (heffects : r.effects = []) (hpoison : r.poison = none) (hhalt : r.halt = false)
    (hdue : (s.thr t).wdDue = false) (hspecs : s.cht.specs = []) : Completes (.sps t w) s fun u =>
      (u.thr t).region = none ∧ (u.thr t).state = 1 ∧ (u.thr t).pc = nextPc (s.thr t) ∧ (u.thr t).g = (s.thr t).g ∧
        (∀ m b, u.memByte m b = s.memByte m b) ∧ s.clp.now ≤ u.clp.now ∧ u.clp.now ≤ s.clp.now + 40 + 10 * r.used := by
  refine (sps_seals h hregion hfmt).imp fun u hu => ?_
  obtain ⟨hclosed, hstate, hpc, hg, hmem, hlo, hhi⟩ := sealRun_empty (s := s.issued t) (t := t) (r := r) (by rw [thr_issued, hregion])
    hpoison hhalt (by rw [thr_issued, hdue]) (by rw [cht_issued, hspecs])
  rw [heffects] at hu
  rw [← hu, thr_issued] at hpc hg
  rw [← hu] at hclosed hstate hmem hlo hhi
  rw [clp_issued] at hlo hhi
  exact ⟨hclosed, hstate, hpc, hg, memByte_of_mem (hmem.trans (mem_issued s t)), hlo, hhi⟩

section
variable {m o : Nat} (hloc : dataLoc t (s.addrB t w) = .mem m o) (ha : s.addrB t w % 8 = 0)
include hloc ha

theorem std_held (hused : r.used < 64) : Completes (.std t w) s (ThreadOnly t { retiredAt (s.thr t) (nextPc (s.thr t)) with
    region := some { r with effects := r.effects ++ [.write [(m, o, leBytes 8 (s.g t (opRD w)).toNat)] (some (s.addrB t w))],
                            used := r.used + 1 } } s) := by
  refine completes_of_issue (c := .std t w) h rfl rfl ?_
  rw [addrB_issued, g_issued, storeOp_mem _ _ ha hloc, writeOp_held (by rw [thr_issued, hregion]) (by rw [thr_issued, h.ready]) hused,
    thr_issued]
  exact threadOnly_setThr s t _

theorem std_drops (hused : r.used = 64) : Completes (.std t w) s fun u => u = (s.issued t).dropTo t 2 := by
  refine completes_of_issue (c := .std t w) h rfl rfl ?_
  rw [addrB_issued, storeOp_mem _ _ ha hloc, writeOp_drops (by rw [thr_issued, hregion]) hused]

theorem ldd_buffered (hready : s.memReady m = true) {f : Nat → Byte} (hbuf : ∀ k, k < 8 → bufByte r.effects m (o + k) = some (f k)) :
    Completes (.ldd t w) s (ThreadOnly t
      (retiredAt ((s.thr t).setReg (opRD w) (BitVec.ofNat 64 (ofLe ((List.range 8).map f)))) (nextPc (s.thr t))) s) := by
  have heff : ((s.issued t).thr t).effects = r.effects := by rw [thr_issued, OclThread.effects, hregion]
  have hsees : ∀ p ∈ [(m, o, 8)], (s.issued t).SeesGood ((s.issued t).thr t).effects p := by
    rw [List.forall_mem_singleton, heff]
    intro k hk hnone
    cases hnone.symm.trans (hbuf k hk)
  have hseen : (s.issued t).seenBytes r.effects (m, o, 8) = (List.range 8).map f :=
    List.map_congr_left fun k hk => by rw [hbuf k (List.mem_range.mp hk)]; rfl
  refine completes_of_result (c := .ldd t w) h rfl rfl ?_
  rw [addrB_issued, loadOp_mem _ _ ha hloc, State.whenReady, memReady_issued, if_pos hready, load_of_good hsees, heff]
  simp only [List.flatMap_singleton, hseen]
  rfl

end
end
end

/-- Settles O33, each instruction by its lemmas above. -/
theorem ocellRegions : Obligations.OcellRegions := fun _ _ _ h =>
  ⟨fun hregion => spb_completes h hregion, fun _ hregion => spb_drops h hregion,
    fun _ _ _ hregion hused hloc ha => std_held h hregion hloc ha hused,
    fun _ _ _ hregion hused hloc ha => std_drops h hregion hloc ha hused,
    fun _ _ _ _ hregion hloc ha hready hbuf => ldd_buffered h hregion hloc ha hready hbuf,
    fun _ hregion hfmt => spd_drops h hregion hfmt, fun _ hregion => dropTo_record hregion 1,
    fun _ hregion hfmt => sps_seals h hregion hfmt,
    fun _ hregion hfmt heffects hpoison hhalt hdue hspecs => sps_empty_completes h hregion hfmt heffects hpoison hhalt hdue hspecs⟩

end Sys2Proof.Machine
end

section
/-! PROOFS. `Obligations.OcellWaits`: the end of each kind of wait (R283–R285, R290, R303, R307, R317). -/

namespace Sys2Proof.Machine

/-! ## Runnels (R282, R283, R317) -/

section
variable {s : State} {t n : Nat} {ws : List Word} (hlive : s.threadLive t = true) (hwait : (s.thr t).wait = some (.push n ws))
  (hon : s.runnelOn n = true)
include hlive hwait hon

/-- What the room for a waiting push does. -/
theorem pushRoom_of_push : s.pushRoom t = if s.pushReady t n ws.length = true then (s.threadLand t n ws).retire t else s := by
  simp only [State.pushRoom, hlive, hwait, hon, Bool.not_true, Bool.false_eq_true, if_false]

theorem pushRoom_lands (hready : s.pushReady t n ws.length = true) : Completes (.pushRoom t) s fun u => u = (s.threadLand t n ws).retire t ∧
    (u.thr t).pc = nextPc (s.thr t) ∧ ((t ≠ 129 ∨ n ≠ s.fld F.TWN_RUNNEL_KEY_RUNNEL) →
      (u.runnel n).words = (s.runnel n).words ++ ws.map fun x => mkWord x) := by
  refine completes_of_exec (c := .pushRoom t) (t := s.pushRoom t) rfl ?_
  rw [pushRoom_of_push hlive hwait hon, if_pos hready]
  exact ⟨rfl, by rw [(retire_thr _ t).1, thr_of_ocl (threadLand_ocl _ _ _ _)],
    fun hkey => by rw [runnel_of_run (retire_run _ _), threadLand_words _ _ hkey]⟩

theorem pushRoom_stays (hready : s.pushReady t n ws.length = false) : Completes (.pushRoom t) s fun u => u = s :=
  completes_of_exec (c := .pushRoom t) (t := s.pushRoom t) rfl (by rw [pushRoom_of_push hlive hwait hon, hready]; rfl)

end

theorem servePops_of_none {s : State} {t n : Nat} (h : s.popsBefore t n = []) : s.servePops t n = s := by rw [State.servePops, h]; rfl

section
variable {s : State} {t n k rd : Nat} (hwait : (s.thr t).wait = some (.pop n k rd))
include hwait

theorem popWordArrive_serves : Completes (.popWordArrive t) s fun u => u = (s.servePops t n).popArrive t :=
  completes_of_exec (c := .popWordArrive t) (t := (s.servePops t n).popArrive t)
    (congrArg Host.Outcome.next (by simp only [OclThread.popWait, hwait])) rfl

section
variable (hlive : s.threadLive t = true) (hfirst : s.popsBefore t n = [])
include hlive hfirst

theorem popWordArrive_takes (hon : s.runnelOn n = true) (hmany : k ≤ s.poppable n)
    (hgood : (s.popWords n k).1.any RunWord.isBad = false) : Completes (.popWordArrive t) s fun u =>
      (u.thr t).pc = nextPc (s.thr t) ∧ (u.runnel n).words = (s.runnel n).words.drop k ∧
        u = ((s.popWords n k).2.setGs t rd ((s.popWords n k).1.map fun x => x.val)).retire t := by
  obtain ⟨heq, hwords⟩ := popInto_of_good (t := t) hgood rd
  refine (popWordArrive_serves hwait).imp fun u hu => ?_
  have hpop : s.popArrive t = s.popInto t n k rd := by
    simp only [State.popArrive, OclThread.popWait, hlive, hwait, hon, Bool.not_true, Bool.false_eq_true, if_false,
      if_neg (Nat.not_lt.mpr hmany)]
  rw [servePops_of_none hfirst, hpop] at hu
  rw [hu]
  refine ⟨?_, hwords, heq⟩
  rw [heq, (retire_thr _ t).1, nextPc, setGs_pc, thr_of_ocl (popWords_ocl _ _ _), nextPc]

theorem popWordArrive_off (hoff : s.runnelOn n = false) : Completes (.popWordArrive t) s fun u => u = s.except t 6 (BitVec.ofNat 64 n) := by
  refine (popWordArrive_serves hwait).imp fun u hu => ?_
  rw [hu, servePops_of_none hfirst]
  simp only [State.popArrive, OclThread.popWait, hlive, hwait, hoff, Bool.not_false, if_true]

end
end

theorem popwTimeout_ends {s : State} {t n rd px due : Nat} (hlive : s.threadLive t = true) (hwait : (s.thr t).wait = some (.popw n rd px due))
    (hempty : (s.advanceTo due).poppable n = 0) (hfirst : (s.advanceTo due).popsBefore t n = []) : Completes (.popwTimeout t) s fun u =>
      u.clp.now = max s.clp.now due ∧ (px ≠ 0 → (u.thr t).pred px = false) ∧ (u.thr t).pc = nextPc (s.thr t) ∧ u.run = s.run := by
  refine completes_of_exec (c := .popwTimeout t) (t := (s.advanceTo due).resultP t px false)
    (congrArg Host.Outcome.next (by simp [hlive, hwait, servePops_of_none hfirst, hempty])) ?_
  obtain ⟨hpc, hpred⟩ := retire_thr ((s.advanceTo due).setP t px false) t
  rw [State.resultP]
  refine ⟨?_, fun hpx => ?_, ?_, ?_⟩
  · rw [retire_keeps (p := fun u => u.clp.now) (fun _ _ _ => rfl) fun _ _ _ _ _ => rfl]
    exact advanceTo_now s due
  · rw [hpred, State.setP, thr_setThr, pred_setPred, if_pos ⟨rfl, hpx⟩]
  · rw [hpc, State.setP, thr_setThr, nextPc_setPred, State.advanceTo, thr_of_ocl (advance_ocl _ _)]
  · rw [retire_run]
    exact advance_run s _

/-! ## Time, tables and random numbers (R284, R285, R290) -/

theorem waittRelease_retires {s : State} {t target : Nat} (hlive : s.threadLive t = true) (hwait : (s.thr t).wait = some (.waitt target)) :
    Completes (.waittRelease t) s fun u =>
      u = (s.on (s.ahead target) fun s => s.advanceToFull (s.fullOfService target)).retire t :=
  completes_of_exec (c := .waittRelease t) (t := (s.on (s.ahead target) fun s => s.advanceToFull (s.fullOfService target)).retire t)
    (congrArg Host.Outcome.next (by simp only [hlive, hwait])) rfl

theorem tcmdAccept_issues {s : State} {t a : Nat} (hlive : s.threadLive t = true) (hwait : (s.thr t).wait = some (.tcmd a)) :
    Completes (.tcmdAccept t) s fun u => u = s.tcmdIssue t a :=
  completes_of_exec (c := .tcmdAccept t) (t := s.tcmdIssue t a) (congrArg Host.Outcome.next (by simp only [hlive, hwait])) rfl

theorem tfindResult_completes {s u : State} {t eui cls rd : Nat} {es : List (Nat × Entry)} (hlive : s.threadLive t = true)
    (hready : s.memReady 1 = true) (hwait : (s.thr t).wait = some (.tfind eui cls rd)) (hregion : (s.thr t).region = none)
    (hread : (s.bump F.SLC_CNT_LOOKUP_COUNT).readSlots ((List.range 4).map (bucketBase eui cls 0 + ·) ++
      (List.range 4).map (bucketBase eui cls 1 + ·)) = (es, none, u)) : Completes (.tfindResult t) s fun v =>
        v = u.result t rd (match findKey es eui cls with | some x => BitVec.ofNat 64 (2 ^ 63 + x.1) | none => 0) := by
  refine completes_of_exec (c := .tfindResult t) (t := u.result t rd (match findKey es eui cls with
    | some x => BitVec.ofNat 64 (2 ^ 63 + x.1)
    | none => 0)) (congrArg Host.Outcome.next ?_) rfl
  simp only [hlive, hready, Bool.and_self, hwait, hread, State.inRegion, hregion, Option.isSome_none, Bool.false_eq_true, if_false]
    <;> rfl

theorem rndReady_completes {s : State} {t rd : Nat} (hlive : s.threadLive t = true) (hok : s.flag F.GRT_STAT_DRBG_OK = true)
    (hwait : (s.thr t).wait = some (.rnd rd)) : Completes (.rndReady t) s fun u => u = s.rand.2.result t rd (BitVec.ofNat 64 s.rand.1) :=
  completes_of_exec (c := .rndReady t) (t := s.rndTo t rd) (congrArg Host.Outcome.next (by simp only [hlive, hok, Bool.and_self, hwait])) rfl

/-! ## The register window (R303, R307, R433) -/

theorem threadLive_nextCycle (s : State) (t : Nat) : s.nextCycle.threadLive t = s.threadLive t := rfl

theorem registerWindow_loads {s : State} {t off n rd : Nat} (hlive : s.threadLive t = true) (hwait : (s.thr t).wait = some (.load off n rd))
    (hready : s.readReady off = true) : Completes (.registerWindowDone t) s fun u =>
      u = (s.nextCycle.busRead t off).2.result t rd (BitVec.ofNat 64 ((s.nextCycle.busRead t off).1.toNat % 256 ^ n)) := by
  have hwait' : (s.nextCycle.thr t).wait = some (.load off n rd) := hwait
  have hready' : s.nextCycle.readReady off = true := hready
  refine completes_of_exec (c := .registerWindowDone t) (t := (s.nextCycle.busRead t off).2.result t rd
    (BitVec.ofNat 64 ((s.nextCycle.busRead t off).1.toNat % 256 ^ n))) (congrArg Host.Outcome.next ?_) rfl
  simp only [threadLive_nextCycle, hlive, hwait', hready', if_true]

theorem registerWindow_stores {s : State} {t off n : Nat} {v : Word} (hlive : s.threadLive t = true)
    (hwait : (s.thr t).wait = some (.store off n v)) (hgoes : ((s.nextCycle.busWrite t off n v).thr t).wait = some (.store off n v)) :
    Completes (.registerWindowDone t) s fun u => u = (s.nextCycle.busWrite t off n v).retire t := by
  have hwait' : (s.nextCycle.thr t).wait = some (.store off n v) := hwait
  refine completes_of_exec (c := .registerWindowDone t) (t := (s.nextCycle.busWrite t off n v).retire t) (congrArg Host.Outcome.next ?_) rfl
  simp only [threadLive_nextCycle, hlive, hwait', hgoes, if_true]

/-- Settles O34, each kind of wait by its lemma above. -/
theorem ocellWaits : Obligations.OcellWaits :=
  ⟨fun _ _ _ _ hlive hwait hon hready => pushRoom_lands hlive hwait hon hready,
    fun _ _ _ _ hlive hwait hon hready => pushRoom_stays hlive hwait hon hready,
    fun _ _ _ _ _ hlive hwait hon hmany hfirst hgood => popWordArrive_takes hwait hlive hfirst hon hmany hgood,
    fun _ _ _ _ _ hlive hwait hoff hfirst => popWordArrive_off hwait hlive hfirst hoff,
    fun _ _ _ _ _ hwait => popWordArrive_serves hwait,
    fun _ _ _ _ _ _ hlive hwait hempty hfirst => popwTimeout_ends hlive hwait hempty hfirst,
    fun _ _ _ hlive hwait hahead => (waittRelease_retires hlive hwait).imp fun u hu => by rwa [hahead] at hu,
    fun _ _ _ hlive hwait hahead => (waittRelease_retires hlive hwait).imp fun u hu => by rwa [hahead] at hu,
    fun _ _ _ hlive hwait => tcmdAccept_issues hlive hwait,
    fun _ _ _ _ _ _ _ hlive hready hwait hregion hread => tfindResult_completes hlive hready hwait hregion hread,
    fun _ _ _ hlive hok hwait => rndReady_completes hlive hok hwait,
    fun _ _ _ _ _ hlive hwait hready => registerWindow_loads hlive hwait hready,
    fun _ _ _ _ _ hlive hwait hgoes => registerWindow_stores hlive hwait hgoes⟩

end Sys2Proof.Machine
end

section
/-! PROOFS. `Obligations.ThreadCommands`: a write of OCL_THR_CTL_t with one command bit, of OCL_DBG_DATA_t and of OCL_J_DBG_SEL (R300, R301,
R321, R326). -/

namespace Sys2Proof.Machine

/-- The predicates as reset leaves them (R263). -/
theorem pred_of_p_one {th : OclThread} (h : th.p = 1) (k : Nat) : th.pred k = decide (k = 0) := by
  cases k with
  | zero => rfl
  | succ k =>
    rw [OclThread.pred, h, Nat.testBit_succ]
    simp

/-! ## A thread after a drop, a halt, a resumption and a wake -/

theorem regionDrop_of_none {s : State} {t : Nat} (h : (s.thr t).region = none) : s.regionDrop t = s := by rw [State.regionDrop, h]

/-- A drop outside a region does nothing, so in every case only the region is gone from the record. -/
theorem regionDrop_record (s : State) (t : Nat) : (s.regionDrop t).thr t = { s.thr t with region := none } := by
  cases h : (s.thr t).region with
  | some r => exact regionDrop_thr h
  | none => rw [regionDrop_of_none h, ← h]

@[simp] theorem oclWake_thr (s : State) (c t : Nat) : (s.oclWake c).thr t = s.thr t := by
  unfold State.oclWake State.clusterStart
  split <;> rfl

theorem haltNow_record {s : State} {t : Nat} (h : (s.thr t).wait ≠ some .seal) : ((s.haltNow t).thr t).state = 3 ∧
    ((s.haltNow t).thr t).pc = (s.thr t).pc ∧ ((s.haltNow t).thr t).region = (s.thr t).region := by
  have hhalt : s.haltNow t = s.setThrState t 3 := by
    unfold State.haltNow
    split
    · exact absurd ‹_› h
    · rfl
  obtain ⟨_, _, _, _, hthr⟩ := setThrState_thr s t 3
  rw [hhalt, hthr]
  exact ⟨rfl, rfl, rfl⟩

theorem resumeNow_record (s : State) (t : Nat) : ((s.resumeNow t).thr t).state = 1 ∧ ((s.resumeNow t).thr t).pc = (s.thr t).pc := by
  obtain ⟨_, _, _, _, hthr⟩ := setThrState_thr s t 1
  rw [State.resumeNow, State.wdRestart, thr_setThr, hthr]
  exact ⟨rfl, rfl⟩

/-- A wake counts and writes no other register (R421). -/
theorem oclWake_fld (s : State) (c : Nat) {f : Fld} (h : f.reg ≠ .PWR_CNT_CL_WAKE) (i j : Nat) :
    (s.oclWake c).fld f i j = s.fld f i j := by
  unfold State.oclWake State.clusterStart
  split
  · exact fld_bump_id _ _ _ _ _ _ h
  · rfl

/-! ## Writes of OCL_THR_CTL_t (R300, R301) -/

/-- The state in which a command of OCL_THR_CTL_t acts: its cluster woken and the fields of the written word taken (R301, R421). -/
def State.ctlTaken (s : State) (t : Nat) (w : Word) : State :=
  (s.oclWake (t / 32)).setReg .OCL_THR_CTL (t / 32) (t % 32) (w &&& 0x7FFF30)

@[simp] theorem ctlTaken_thr (s : State) (t : Nat) (w : Word) (x : Nat) : (s.ctlTaken t w).thr x = s.thr x := oclWake_thr s _ x

/-- START_PC as START takes it: its two low bits are ignored (R263). -/
theorem startPc_aligned (v : Nat) : bits v 8 15 % 32768 / 4 * 4 = bits v 10 13 * 4 % 32768 := by
  unfold bits
  omega

theorem ctlTaken_startPc (s : State) (t : Nat) (d : Word) :
    (s.ctlTaken t (d &&& ~~~14 ||| 1)).thrFld F.OCL_THR_CTL_START_PC t % 32768 / 4 * 4 = bits d.toNat 10 13 * 4 % 32768 := by
  have hmask : ∀ k < 23, 10 ≤ k →
      (~~~14 : Word).getLsbD k = true ∧ (1 : Word).getLsbD k = false ∧ (0x7FFF30 : Word).getLsbD k = true := by decide
  have hbits : bits ((d &&& ~~~14 ||| 1) &&& 0x7FFF30).toNat 10 13 = bits d.toNat 10 13 := bits_congr fun k hlo hhi => by
    obtain ⟨hclear, hset, htaken⟩ := hmask k (by omega) hlo
    rw [BitVec.testBit_toNat, BitVec.testBit_toNat, BitVec.getLsbD_and, BitVec.getLsbD_or, BitVec.getLsbD_and, hclear, hset, htaken,
      Bool.and_true, Bool.or_false, Bool.and_true]
  have hfld : (s.ctlTaken t (d &&& ~~~14 ||| 1)).thrFld F.OCL_THR_CTL_START_PC t = bits ((d &&& ~~~14 ||| 1) &&& 0x7FFF30).toNat 8 15 :=
    fld_setReg_self (s.oclWake (t / 32)) F.OCL_THR_CTL_START_PC _ _ _
  rw [hfld, startPc_aligned, hbits]

section
variable {s : State} {t : Nat} {P : State → Prop} (ht : t < 128) (hr : s.released = true) (d : Word)
include ht hr

/-- A write of OCL_THR_CTL_t is its fields, and then the commands whose bits are set, in bit order (R301, R556). -/
theorem completes_of_ctlWrite {c : Instr} {w : Word}
    (he : exec c s = .next (s.powered fun s => (s.oclWake (t % 128 / 32)).thrCtlWrite (t % 128) w))
    (h : P (((((s.ctlTaken t w).on (w.getLsbD 0) fun s => s.thrStart t).on (w.getLsbD 1) fun s => s.thrStop t).on (w.getLsbD 2) fun s =>
      s.thrHalt t).on (w.getLsbD 3) fun s => s.thrResume t)) : Completes c s P :=
  completes_of_powered hr he (by rw [Nat.mod_eq_of_lt ht]; exact h)

theorem completes_of_thrStart (h : P ((s.ctlTaken t (d &&& ~~~14 ||| 1)).thrStart t)) : Completes (.thrStart t d) s P :=
  completes_of_ctlWrite (c := .thrStart t d) ht hr rfl (by simpa using h)

theorem completes_of_thrStop (h : P ((s.ctlTaken t (d &&& ~~~13 ||| 2)).thrStop t)) : Completes (.thrStop t d) s P :=
  completes_of_ctlWrite (c := .thrStop t d) ht hr rfl (by simpa using h)

theorem completes_of_thrHalt (h : P ((s.ctlTaken t (d &&& ~~~11 ||| 4)).thrHalt t)) : Completes (.thrHalt t d) s P :=
  completes_of_ctlWrite (c := .thrHalt t d) ht hr rfl (by simpa using h)

theorem completes_of_thrResume (h : P ((s.ctlTaken t (d &&& ~~~7 ||| 8)).thrResume t)) : Completes (.thrResume t d) s P :=
  completes_of_ctlWrite (c := .thrResume t d) ht hr rfl (by simpa using h)

/-- START gives an Off thread its record at reset, but for its STATE, its pc and the clocks of its watchdog and wait (R263, R301). -/
theorem thrStart_off (hstate : (s.thr t).state = 0) : Completes (.thrStart t d) s fun u => ∃ since rest,
    u.thr t = { state := 1, pc := bits d.toNat 10 13 * 4 % 32768, wdFrom := since, waitRest := rest } := by
  refine completes_of_thrStart ht hr d ?_
  rw [State.thrStart, if_pos (.inl (by rw [ctlTaken_thr, hstate])), State.thrInit, ctlTaken_startPc, thr_setThr]
  exact ⟨_, _, rfl⟩

/-- START of a thread that runs is ignored (R301). -/
theorem thrStart_ignored (hruns : (s.thr t).runs = true) : Completes (.thrStart t d) s fun u =>
    u.thr t = s.thr t ∧ u.flag F.OCL_CL_EVT_CTL_IGNORED (t / 32) = true := by
  have hstate : ¬((s.thr t).state = 0 ∨ (s.thr t).state = 4) := by
    simp only [OclThread.runs, Bool.or_eq_true, beq_iff_eq] at hruns
    omega
  refine completes_of_thrStart ht hr d ?_
  rw [State.thrStart, ctlTaken_thr, if_neg hstate, State.oclEvent, clusterOf, if_pos ht]
  exact ⟨(thr_of_ocl (raise_ocl _ _ _) t).trans (ctlTaken_thr _ _ _ _), flag_raise_self _ _ _ (by decide) rfl⟩

theorem thrStop_stops (hlo : 1 ≤ (s.thr t).state) (hhi : (s.thr t).state ≤ 4) : Completes (.thrStop t d) s fun u =>
    (u.thr t).state = 0 ∧ (u.thr t).wait = none ∧ (u.thr t).region = none := by
  refine completes_of_thrStop ht hr d ?_
  obtain ⟨_, _, _, _, hthr⟩ := setThrState_thr ((s.ctlTaken t (d &&& ~~~13 ||| 2)).regionDrop t) t 0
  simp only [State.thrStop, ctlTaken_thr, if_pos (And.intro hlo hhi), hthr, regionDrop_record]
  trivial

theorem thrHalt_halts (hruns : (s.thr t).runs = true) (hwait : (s.thr t).wait ≠ some .seal) : Completes (.thrHalt t d) s fun u =>
    (u.thr t).state = 3 ∧ (u.thr t).pc = (s.thr t).pc ∧ (u.thr t).region = (s.thr t).region := by
  refine completes_of_thrHalt ht hr d ?_
  have hrecord := haltNow_record (s := s.ctlTaken t (d &&& ~~~11 ||| 4)) (t := t) (by rwa [ctlTaken_thr])
  rw [State.thrHalt, ctlTaken_thr, if_pos hruns]
  rwa [ctlTaken_thr] at hrecord

theorem thrResume_resumes (hstate : (s.thr t).state = 3) : Completes (.thrResume t d) s fun u =>
    (u.thr t).state = 1 ∧ (u.thr t).pc = (s.thr t).pc := by
  refine completes_of_thrResume ht hr d ?_
  have hrecord := resumeNow_record (s.ctlTaken t (d &&& ~~~7 ||| 8)) t
  rw [State.thrResume, ctlTaken_thr, if_pos hstate]
  rwa [ctlTaken_thr] at hrecord

end

/-! ## Debug (R321, R326) -/

/-- The state in which a command of OCL_J_DBG_SEL acts: the fields of the written word taken (R326). -/
def State.jSelTaken (s : State) (w : Word) : State := s.setReg .OCL_J_DBG_SEL 0 0 (w &&& 0x47F)

/-- A write of OCL_J_DBG_SEL while UNLOCKED is its fields, and then the commands whose bits are set (R326). -/
theorem jDbgSelWrite_unlocked {s : State} (h : s.unlocked = true) (w : Word) :
    s.jDbgSelWrite w = ((s.jSelTaken w).on (w.getLsbD 8) State.jHalt).on (w.getLsbD 9) State.jResume := if_pos h

section
variable {s : State} {t : Nat} (hr : s.released = true) (d : Word)
include hr

section
variable (ht : t < 128)
include ht

theorem dbgDataWrite_writes (hstate : (s.thr t).state = 3) : Completes (.dbgDataWrite t d) s fun u =>
    u = (s.oclWake (t / 32)).dbgSet t (s.thrFld F.OCL_DBG_SEL_REG t) d := by
  have hsel : (s.oclWake (t / 32)).thrFld F.OCL_DBG_SEL_REG t = s.thrFld F.OCL_DBG_SEL_REG t := oclWake_fld s _ (by decide) _ _
  refine completes_of_powered (c := .dbgDataWrite t d) hr rfl ?_
  rw [Nat.mod_eq_of_lt ht, State.dbgDataWrite, oclWake_thr, if_pos hstate, hsel]

theorem dbgDataWrite_ignored (hstate : (s.thr t).state ≠ 3) : Completes (.dbgDataWrite t d) s fun u =>
    u = (s.oclWake (t / 32)).raise F.OCL_CL_EVT_DBG_IGNORED (t / 32) := by
  refine completes_of_powered (c := .dbgDataWrite t d) hr rfl ?_
  rw [Nat.mod_eq_of_lt ht, State.dbgDataWrite, oclWake_thr, if_neg hstate, State.oclEvent, clusterOf, if_pos ht]

end

section
variable (hopen : s.unlocked = true)
include hopen

theorem completes_of_jDbgHalt {P : State → Prop} (h : P (s.jSelTaken (d &&& ~~~0x200 ||| 0x100)).jHalt) :
    Completes (.jDbgHalt d) s P :=
  completes_of_powered (c := .jDbgHalt d) hr rfl (by rw [jDbgSelWrite_unlocked hopen]; simpa using h)

theorem completes_of_jDbgResume {P : State → Prop} (h : P (s.jSelTaken (d &&& ~~~0x100 ||| 0x200)).jResume) :
    Completes (.jDbgResume d) s P :=
  completes_of_powered (c := .jDbgResume d) hr rfl (by rw [jDbgSelWrite_unlocked hopen]; simpa using h)

theorem jDbgHalt_halts (hruns : (s.thr 129).runs = true) (hwait : (s.thr 129).wait ≠ some .seal) :
    Completes (.jDbgHalt d) s fun u => (u.thr 129).state = 3 ∧ (u.thr 129).pc = (s.thr 129).pc := by
  refine completes_of_jDbgHalt hr d hopen ?_
  obtain ⟨hstate, hpc, -⟩ := haltNow_record (s := s.jSelTaken (d &&& ~~~0x200 ||| 0x100)) (t := 129) hwait
  rw [State.jHalt, if_pos (by exact hruns)]
  exact ⟨hstate, hpc⟩

theorem jDbgResume_resumes (hstate : (s.thr 129).state = 3) (hrom : s.bot.romHalt = false) :
    Completes (.jDbgResume d) s fun u => (u.thr 129).state = 1 := by
  refine completes_of_jDbgResume hr d hopen ?_
  rw [State.jResume, if_pos (by exact ⟨hstate, hrom⟩)]
  exact (resumeNow_record _ 129).1

end

theorem jDbg_locked (hopen : s.unlocked = false) : ∀ c ∈ [Instr.jDbgHalt d, .jDbgResume d], Completes c s fun u =>
    u = s.raise F.OCL_CL_EVT_DBG_IGNORED := by
  have hlocked (w : Word) : s.jDbgSelWrite w = s.raise F.OCL_CL_EVT_DBG_IGNORED := if_neg (by rw [hopen]; nofun)
  simp only [List.forall_mem_cons, List.not_mem_nil, IsEmpty.forall_iff, implies_true, and_true]
  exact ⟨completes_of_powered (c := .jDbgHalt d) hr rfl (hlocked _), completes_of_powered (c := .jDbgResume d) hr rfl (hlocked _)⟩

end

/-- Settles O35, each command by its lemma above. -/
theorem threadCommands : Obligations.ThreadCommands := by
  refine ⟨fun s t d ht hstate hr => (thrStart_off ht hr d hstate).imp fun u hu => ?_,
    fun _ _ d ht hruns hr => (thrStart_ignored ht hr d hruns).imp fun u hu => ⟨congrArg OclThread.state hu.1, hu.2⟩,
    fun _ _ d ht hlo hhi hr => thrStop_stops ht hr d hlo hhi,
    fun _ _ d ht hruns hwait hr => thrHalt_halts ht hr d hruns hwait,
    fun _ _ d ht hstate hr => thrResume_resumes ht hr d hstate,
    fun _ _ d ht hstate hr => dbgDataWrite_writes hr d ht hstate,
    fun _ _ d ht hstate hr => dbgDataWrite_ignored hr d ht hstate,
    fun _ d hopen hruns hwait hr => jDbgHalt_halts hr d hopen hruns hwait,
    fun _ d hopen hstate hrom hr => jDbgResume_resumes hr d hopen hstate hrom,
    fun _ d hopen hr => jDbg_locked hr d hopen⟩
  obtain ⟨since, rest, hthr⟩ := hu
  rw [hthr]
  exact ⟨rfl, rfl, fun r => ite_self _, pred_of_p_one rfl, fun _ => rfl, rfl, rfl, rfl⟩

end Sys2Proof.Machine
end

section
/-! PROOFS. `Obligations.Watchdogs`: the two expiries of a watchdog and the wedge of a core (R322–R325). -/

namespace Sys2Proof.Machine

/-! ## A watchdog's expiries (R322, R323) -/

/-- The state at a watchdog's expiry: PERIOD_US has passed and it counts afresh (R322). -/
def State.wdReached (s : State) (t : Nat) : State := (s.advance (s.wdPeriod t - s.wdNs t)).wdRestart t

theorem wdReached_thr (s : State) (t : Nat) :
    (s.wdReached t).thr t = { s.thr t with wdAcc := 0, wdFrom := s.clp.now + (s.wdPeriod t - s.wdNs t) } := by
  rw [State.wdReached, State.wdRestart, thr_setThr, thr_of_ocl (advance_ocl _ _), advance_now]

theorem wdReached_now (s : State) (t : Nat) : (s.wdReached t).clp.now = s.clp.now + (s.wdPeriod t - s.wdNs t) := advance_now _ _

/-- The state at a watchdog's first expiry before what follows for its thread: STAGE, EXPIRIES and the event (R322). -/
def State.wdNoted (s : State) (t : Nat) : State :=
  (s.setThr t { s.thr t with stage := true, expiries := min 255 ((s.thr t).expiries + 1) }).oclEvent F.OCL_CL_EVT_WD_EXPIRED t

theorem wdNoted_thr (s : State) (t : Nat) :
    (s.wdNoted t).thr t = { s.thr t with stage := true, expiries := min 255 ((s.thr t).expiries + 1) } := by
  rw [State.wdNoted, State.oclEvent, thr_of_ocl (raise_ocl _ _ _), thr_setThr]

/-- The state at a first expiry with its WATCHDOG left waiting (R322). -/
def State.wdPending (s : State) (t : Nat) : State := (s.wdNoted t).setThr t { (s.wdNoted t).thr t with wdDue := true }

theorem wdPending_thr (s : State) (t : Nat) :
    (s.wdPending t).thr t = { s.thr t with stage := true, expiries := min 255 ((s.thr t).expiries + 1), wdDue := true } := by
  rw [State.wdPending, thr_setThr, wdNoted_thr]

theorem wdPending_now (s : State) (t : Nat) : (s.wdPending t).clp.now = s.clp.now := by
  rw [State.wdPending, setThr_clp, State.wdNoted, State.oclEvent, raise_clp, setThr_clp]

theorem wdPending_flag (s : State) {t : Nat} (ht : t < 128) : (s.wdPending t).flag F.OCL_CL_EVT_WD_EXPIRED (t / 32) = true := by
  rw [State.wdPending, State.wdNoted, State.oclEvent, clusterOf, if_pos ht]
  exact flag_raise_self _ _ _ (by decide) rfl

/-- A first expiry outside a region leaves a WATCHDOG waiting, and delivers it unless a seal is to complete (R322, R327). -/
theorem wdFirst_of_no_region {s : State} {t : Nat} (h : (s.thr t).region = none) :
    s.wdFirst t = if (s.thr t).wait = some .seal then s.wdPending t else (s.wdPending t).wdDeliver t := by
  have hstays : ¬(((s.wdNoted t).thr t).wait ≠ some .seal ∧ ((s.wdNoted t).thr t).region.isSome = true) := by
    rw [wdNoted_thr, h]
    simp
  have hwait : ((s.wdPending t).thr t).wait = (s.thr t).wait := by rw [wdPending_thr]
  rw [← hwait]
  exact if_neg hstays

/-- A WATCHDOG is not delivered while EXC is 1 (R322). -/
theorem wdDeliver_of_exc {s : State} {t : Nat} (h : (s.thr t).exc = true) : s.wdDeliver t = s := by
  rw [State.wdDeliver, h, Bool.not_true, Bool.and_false, Bool.false_and]
  rfl

/-- A WATCHDOG that is due is delivered to a Ready thread with a handler (R318, R322). -/
theorem wdDeliver_delivers {s : State} {t : Nat} (hdue : (s.thr t).wdDue = true) (hregion : (s.thr t).region = none)
    (hexc : (s.thr t).exc = false) (hevec : (s.thr t).evec ≠ 0) (hstate : (s.thr t).state = 1) : s.wdDeliver t =
    (s.setThr t { s.thr t with
      wdDue := false, epc := BitVec.ofNat 64 (s.thr t).pc, ecause := 9, einfo := BitVec.ofNat 64 (s.thr t).expiries, exc := true,
      pc := (s.thr t).evec.toNat % 32768 }).oclCount F.OCL_CNT_EXC_COUNT t := by
  have hruns : (s.thr t).runs = true := by rw [OclThread.runs, hstate]; rfl
  rw [State.wdDeliver, hdue, hexc, hruns, Bool.not_false, Bool.and_self, Bool.and_self, if_pos rfl,
    except_delivers _ _ (by rw [thr_setThr, hregion]) (by rw [thr_setThr, hexc]) (by rwa [thr_setThr]) (by rw [thr_setThr, hstate]),
    thr_setThr, setThr_setThr]
  rfl

section
variable {s : State} {t : Nat} (ht : t < 128)
include ht

/-- The record of a thread that enters Fault (R320). -/
theorem thrFault_record (cause : Nat) (einfo : Word) : ((s.thrFault t cause einfo).thr t).state = 4 ∧
    ((s.thrFault t cause einfo).thr t).ecause = BitVec.ofNat 64 cause ∧ ((s.thrFault t cause einfo).thr t).einfo = einfo := by
  obtain ⟨_, _, _, _, hthr⟩ := setThrState_thr s t 4
  rw [State.thrFault, beq_eq_false_iff_ne.mpr (by omega : t ≠ 129), on_false, thr_of_ocl (siltPost_ocl _ _ _ _), State.oclEvent,
    thr_of_ocl (raise_ocl _ _ _), thr_setThr, hthr]
  exact ⟨rfl, rfl, rfl⟩

section
variable (hen : s.wdEn t = true)
include hen

/-- A watchdog that counts and reaches PERIOD_US expires, a second time while STAGE is 1 (R322, R323). -/
theorem exec_watchdogExpiry (hruns : (s.thr t).runs = true) : exec (.watchdogExpiry t) s = .next
    (if (s.thr t).stage then (s.wdReached t).thrFault t 9 (BitVec.ofNat 64 (s.thr t).expiries) else (s.wdReached t).wdFirst t) := by
  have hthr := wdReached_thr s t
  have hexec : exec (.watchdogExpiry t) s = .next (if ((s.wdReached t).thr t).stage then
      (s.wdReached t).thrFault t 9 (BitVec.ofNat 64 ((s.wdReached t).thr t).expiries) else (s.wdReached t).wdFirst t) :=
    congrArg Host.Outcome.next (if_pos (by simp [hen, hruns, ht]))
  rw [hexec, hthr]

theorem watchdogExpiry_faults (hruns : (s.thr t).runs = true) (hstage : (s.thr t).stage = true) : Completes (.watchdogExpiry t) s fun u =>
    (u.thr t).state = 4 ∧ (u.thr t).ecause = 9 ∧ (u.thr t).einfo = BitVec.ofNat 64 (s.thr t).expiries :=
  completes_of_exec (exec_watchdogExpiry ht hen hruns) (by rw [if_pos hstage]; exact thrFault_record ht 9 _)

section
variable (hstate : (s.thr t).state = 1) (hstage : (s.thr t).stage = false)
include hstate hstage

theorem completes_of_wdFirst {P : State → Prop} (h : P ((s.wdReached t).wdFirst t)) : Completes (.watchdogExpiry t) s P :=
  completes_of_exec (exec_watchdogExpiry ht hen (by rw [OclThread.runs, hstate]; rfl)) (by rw [hstage]; exact h)

variable (hregion : (s.thr t).region = none)
include hregion

theorem watchdogExpiry_delivers (hwait : (s.thr t).wait = none) (hexc : (s.thr t).exc = false) (hevec : (s.thr t).evec ≠ 0) :
    Completes (.watchdogExpiry t) s fun u => (u.thr t).stage = true ∧ (u.thr t).exc = true ∧ (u.thr t).ecause = 9 ∧
      (u.thr t).wdDue = false ∧ (u.thr t).einfo = BitVec.ofNat 64 (min 255 ((s.thr t).expiries + 1)) ∧
        (u.thr t).pc = (s.thr t).evec.toNat % 32768 ∧ u.flag F.OCL_CL_EVT_WD_EXPIRED (t / 32) = true ∧
        u.clp.now = s.clp.now + (s.wdPeriod t - s.wdNs t) := by
  refine completes_of_wdFirst ht hen hstate hstage ?_
  have hthr := (wdPending_thr (s.wdReached t) t).trans (by rw [wdReached_thr])
  rw [wdFirst_of_no_region (by rw [wdReached_thr, hregion]), if_neg (by rw [wdReached_thr, hwait]; nofun),
    wdDeliver_delivers (by rw [hthr]) (by rw [hthr, hregion]) (by rw [hthr, hexc]) (by rwa [hthr]) (by rw [hthr, hstate]),
    thr_of_ocl (oclCount_ocl _ _ _), thr_setThr, State.flag, State.fld, oclCount_reg _ F.OCL_CNT_EXC_COUNT _ (by decide), hthr]
  exact ⟨rfl, rfl, rfl, rfl, rfl, rfl, wdPending_flag _ ht,
    (congrArg Lasting.now (oclCount_lasting _ _ _)).trans ((wdPending_now _ t).trans (wdReached_now s t))⟩

theorem watchdogExpiry_waits (hexc : (s.thr t).exc = true) : Completes (.watchdogExpiry t) s fun u =>
    (u.thr t).stage = true ∧ (u.thr t).wdDue = true ∧ (u.thr t).pc = (s.thr t).pc ∧ (u.thr t).state = 1 := by
  refine completes_of_wdFirst ht hen hstate hstage ?_
  have hthr := (wdPending_thr (s.wdReached t) t).trans (by rw [wdReached_thr])
  rw [wdFirst_of_no_region (by rw [wdReached_thr, hregion]), wdDeliver_of_exc (by rw [hthr, hexc]), ite_self, hthr]
  exact ⟨rfl, rfl, rfl, hstate⟩

end
end
end

/-! ## A wedged core (R325) -/

theorem setThrState_thr_ne {s : State} {t x : Nat} (h : x ≠ t) (st : Nat) : (s.setThrState t st).thr x = s.thr x := by
  have hcount : (s.waitCount t).thr x = s.thr x := by
    simp only [State.waitCount]
    split
    · exact on_keeps (P := fun u : State => u.thr x = s.thr x) _ (thr_setThr_ne _ _ h) (thr_setThr_ne _ _ h)
    · rfl
  rw [State.setThrState, thr_setThr_ne _ _ h, State.wdHold, thr_setThr_ne _ _ h, hcount]

theorem regionDrop_thr_ne {s : State} {t x : Nat} (h : x ≠ t) : (s.regionDrop t).thr x = s.thr x := by
  cases hregion : (s.thr t).region with
  | none => rw [regionDrop_of_none hregion]
  | some r =>
    rw [State.regionDrop, hregion]
    dsimp only
    rw [thr_of_ocl (oclCount_ocl _ _ _), thr_of_ocl (specsDrop_ocl _ _ _), thr_of_ocl (foldl_ocl (fun u c => freeChain_ocl u c) _ _),
      thr_setThr_ne _ _ h]

/-- The wedge of one thread of a core: its region is dropped and its STATE is Wedged (R325). -/
def State.thrWedge (s : State) (t : Nat) : State := (s.regionDrop t).setThrState t 5

theorem thrWedge_state (s : State) (t x : Nat) : ((s.thrWedge t).thr x).state = if x = t then 5 else (s.thr x).state := by
  by_cases h : x = t
  · obtain ⟨_, _, _, _, hthr⟩ := setThrState_thr (s.regionDrop t) t 5
    rw [h, if_pos rfl, State.thrWedge, hthr]
  · rw [if_neg h, State.thrWedge, setThrState_thr_ne h, regionDrop_thr_ne h]

theorem thrWedge_lasting (s : State) (t : Nat) : (s.thrWedge t).lasting = s.lasting :=
  (setThrState_lasting _ _ _).trans (regionDrop_lasting _ _)

theorem foldl_thrWedge_state (ts : List Nat) (s : State) (x : Nat) :
    ((ts.foldl State.thrWedge s).thr x).state = if x ∈ ts then 5 else (s.thr x).state := by
  induction ts generalizing s with
  | nil => simp
  | cons t ts ih =>
    rw [List.foldl_cons, ih, thrWedge_state]
    by_cases h : x = t <;> simp [h]

theorem foldl_thrWedge_now (ts : List Nat) (s : State) : (ts.foldl State.thrWedge s).clp.now = s.clp.now :=
  congrArg Lasting.now (foldl_lasting thrWedge_lasting ts s)

/-- An Ocell core with its threads Wedged and its bit of WEDGED set, before its event (R325). -/
def State.coreStopped (s : State) (k : Nat) : State :=
  let u := (coreThreads k).foldl State.thrWedge s
  u.setFld F.OCL_CL_STAT_WEDGED (setBits (u.fld F.OCL_CL_STAT_WEDGED (k / 8)) (k % 8) 1 1) (k / 8)

theorem coreStopped_state {k : Nat} (hk : k < 32) {x : Nat} (hx : x < 4) (s : State) : ((s.coreStopped k).thr (4 * k + x)).state = 5 := by
  have hmem : 4 * k + x ∈ coreThreads k := by simp [coreThreads, hk.ne, hx]
  exact (foldl_thrWedge_state (coreThreads k) s (4 * k + x)).trans (if_pos hmem)

theorem coreStopped_wedged (s : State) (k : Nat) : ((s.coreStopped k).fld F.OCL_CL_STAT_WEDGED (k / 8)).testBit (k % 8) = true := by
  rw [State.coreStopped, fld_setFld_self _ _ _ _ _ (by decide), Nat.testBit_mod_two_pow, testBit_setBits_self]
  simp [F.OCL_CL_STAT_WEDGED, Nat.mod_lt]

theorem coreStopped_now (s : State) (k : Nat) : (s.coreStopped k).clp.now = s.clp.now := foldl_thrWedge_now _ s

theorem wedgeCore_of_ocell {k : Nat} (hk : k < 32) (s : State) :
    s.wedgeCore k = (((s.coreStopped k).raise F.OCL_CL_EVT_WEDGED (k / 8)).siltPost 146 k).on
      ((((s.coreStopped k).raise F.OCL_CL_EVT_WEDGED (k / 8)).siltPost 146 k).flag F.OCL_WEDGE_CTL_AUTO_RESET) fun w =>
        w.requestReset 5 := by
  have hmark : s.wedgeMark k = ((s.coreStopped k).raise F.OCL_CL_EVT_WEDGED (k / 8)).siltPost 146 k := by
    simp only [State.wedgeMark, if_neg hk.ne, bne_iff_ne.mpr hk.ne, on_true, State.coreStopped, coreThreads]
    rfl
  rw [State.wedgeCore, hmark, State.wedgeReset, if_neg hk.ne]

theorem coreWedge_wedges {s : State} {k : Nat} (hk : k < 32) (hready : ∃ x, x < 4 ∧ (s.thr (4 * k + x)).state = 1) (dt : Nat) :
    Completes (.coreWedge dt k) s fun u => u = (s.advance (dt + 1000 * max 100 (s.fld F.OCL_WEDGE_CTL_HANG_US))).wedgeCore k := by
  obtain ⟨x, hx, hstate⟩ := hready
  have hany : ((coreThreads k).any fun t => (s.thr t).state == 1) = true :=
    List.any_eq_true.mpr ⟨4 * k + x, by simp [coreThreads, hk.ne, hx], beq_iff_eq.mpr hstate⟩
  exact completes_of_exec (c := .coreWedge dt k) (congrArg Host.Outcome.next (if_pos ⟨hk.le, hany⟩)) rfl

/-- Settles O36, each expiry and the wedge by its lemma above. -/
theorem watchdogs : Obligations.Watchdogs := by
  refine ⟨fun _ _ ht hen hruns hstage => watchdogExpiry_faults ht hen hruns hstage,
    fun _ _ ht hen hstate hwait hstage hregion hexc hevec => watchdogExpiry_delivers ht hen hstate hstage hregion hwait hexc hevec,
    fun _ _ ht hen hstate hstage hregion hexc => watchdogExpiry_waits ht hen hstate hstage hregion hexc,
    fun s dt k hk hready => (coreWedge_wedges hk hready dt).imp fun u hu => ?_⟩
  refine ⟨_, fun x hx => coreStopped_state hk hx _, coreStopped_wedged _ k, ?_, hu.trans (wedgeCore_of_ocell hk _)⟩
  rw [coreStopped_now, advance_now, Nat.add_assoc]

end Sys2Proof.Machine
end

section
/-! PROOFS. `Obligations.RunnelCommands`: what the Silt recorder, completions and the marks leave of the runnels, the discard of a runnel that is
disabled, and the runnel commands and events (R331–R340, R345–R347). -/

namespace Sys2Proof.Machine

/-! ## The Silt recorder leaves the runnels as they are (R505–R513) -/

/-- A conditional effect that leaves the runnels alone. -/
theorem on_run {f : State → State} (hf : ∀ u, (f u).run = u.run) (s : State) (c : Bool) : (s.on c f).run = s.run :=
  on_keeps (P := fun u : State => u.run = s.run) c rfl (hf s)

theorem setMemBytes_run (m : Nat) (bs : List Byte) (s : State) (o : Nat) : (s.setMemBytes m o bs).run = s.run := by
  induction bs generalizing s o with
  | nil => rfl
  | cons b bs ih => rw [State.setMemBytes, ih, setMemByte_run]

theorem flipApply_run (s : State) (m w : Nat) : (s.flipApply m w).run = s.run := by
  unfold State.flipApply
  split
  · rw [bump_run, raise_run, setFld_run, on_run fun u => eccSet_run u m w _]
  · rfl

theorem memWrite_run (s : State) (m w v : Nat) : (s.memWrite m w v).run = s.run := by
  rw [State.memWrite, flipApply_run, eccClear_run, State.setMemWord, setMemBytes_run]

theorem memWrites_run (m : Nat) (vs : List Nat) (s : State) (w : Nat) : (s.memWrites m w vs).run = s.run := by
  induction vs generalizing s w with
  | nil => rfl
  | cons v vs ih => rw [State.memWrites, ih, memWrite_run]

theorem flushAsk_run (s : State) : s.flushAsk.run = s.run := by
  unfold State.flushAsk
  split <;> rfl

@[simp] theorem siltPost_run (s : State) (code value rank : Nat) : (s.siltPost code value rank).run = s.run := by
  have kept (n seq k : Nat) (t : State) :
      (((t.siltCount n).setFld F.OBS_SILT_SEQ_SEQ seq).bump F.OBS_CNT_SILT_KEPT_COUNT k).run = t.run := rfl
  have lost (t : State) :
      (({ t with obs := { t.obs with lost := t.obs.lost + 1 } }.bump F.OBS_CNT_SILT_LOST_COUNT).raise F.OBS_EVT_SILT_OVERFLOW).run = t.run :=
    raise_run ..
  have supp (t : State) : (t.bump F.OBS_CNT_SILT_SUPP_COUNT).run = t.run := rfl
  have posted (obs : ObsState) (base seq : Nat) (rs : List (Nat × Nat × Nat)) : ({ s with obs := obs }.siltWrite base seq rs).run = s.run :=
    List.foldlRecOn (motive := fun t : State => t.run = s.run) _ _ rfl fun t h _ _ => (memWrites_run 7 _ t _).trans h
  simp only [State.siltPost]
  split
  · rw [on_run flushAsk_run, on_run supp, on_run lost, on_run (kept _ _ _), posted]
  · rw [on_run supp, on_run lost, on_run (kept _ _ _), posted]

/-! ## What the marks, words taken and lost pushes leave of the registers (R332, R338, R341, R342) -/

theorem retract_reg (s : State) {f : Fld} {id : RegId} (i i' j' : Nat) (h : id ≠ f.reg) : (s.retract f i).reg id i' j' = s.reg id i' j' := by
  have hcleared (c : CycleLog) : ({ s with cyc := c }.setFld f 0 i).reg id i' j' = s.reg id i' j' := reg_setReg_id _ _ _ _ _ _ h
  simp only [State.retract]
  split <;> exact hcleared _

theorem crossing_reg (s : State) {notice count : Fld} {id : RegId} (hn : id ≠ notice.reg) (hc : id ≠ count.reg) (n : Nat) (was : Word)
    (crossed : Bool) (i j : Nat) : (s.crossing notice count n was crossed).reg id i j = s.reg id i j := by
  simp only [State.crossing]
  split
  · split
    · exact (reg_setReg_id _ _ _ _ _ _ hc).trans (reg_congr (noteEvent_regs s notice n) id i j)
    · exact reg_raise_id s n i j hn
  · split
    · exact reg_setReg_id s _ _ _ _ _ hc
    · exact on_keeps (P := fun u : State => u.reg id i j = s.reg id i j) _ rfl (retract_reg s n i j hn)

/-- The marks are judged into RUN_EVT_n alone. -/
theorem judgeMarks_reg (s : State) (n : Nat) {id : RegId} (i j : Nat) (h : id ≠ .RUN_EVT_N) : (s.judgeMarks n).reg id i j = s.reg id i j := by
  have hcrossing (u : State) (notice count : Fld) (hn : notice.reg = .RUN_EVT_N) (hc : count.reg = .RUN_EVT_N) (was : Word) (b : Bool) :
      (u.crossing notice count n was b).reg id i j = u.reg id i j := crossing_reg u (hn ▸ h) (hc ▸ h) n was b i j
  rw [State.judgeMarks, hcrossing _ _ _ rfl rfl, hcrossing _ _ _ rfl rfl]

theorem unqueue_reg (s : State) (n k : Nat) {id : RegId} (i j : Nat) (h : id ≠ .RUN_EVT_N) : (s.unqueue n k).2.reg id i j = s.reg id i j :=
  judgeMarks_reg _ n i j h

theorem unqueue_fld (s : State) (n k : Nat) {f : Fld} (i j : Nat) (h : f.reg ≠ .RUN_EVT_N) : (s.unqueue n k).2.fld f i j = s.fld f i j :=
  fld_of_reg (unqueue_reg s n k i j h)

theorem noteBad_reg (s : State) (n k : Nat) {id : RegId} (i j : Nat) (h : id ≠ .RUN_CNT_BAD_WORD) (he : id ≠ .RUN_EVT_N) :
    (s.noteBad n k).reg id i j = s.reg id i j := by
  refine on_keeps (P := fun u : State => u.reg id i j = s.reg id i j) _ rfl ?_
  rw [reg_raise_id _ _ _ _ he, reg_congr (bump_regs s _ _ _ _)]
  exact reg_setReg_id _ _ _ _ _ _ h

/-- The bad words of a record are counted (R338). -/
theorem noteBad_count (s : State) (n k : Nat) :
    (s.noteBad n k).fld F.RUN_CNT_BAD_WORD_COUNT = min 0xFFFFFFFF (s.fld F.RUN_CNT_BAD_WORD_COUNT + k) := by
  have hlt : s.fld F.RUN_CNT_BAD_WORD_COUNT < 2 ^ 32 := fld_lt s F.RUN_CNT_BAD_WORD_COUNT 0 0
  rw [State.noteBad]
  cases k with
  | zero =>
    rw [decide_eq_false (lt_irrefl 0), on_false]
    omega
  | succ k =>
    rw [decide_eq_true k.succ_pos, on_true, fld_raise_id _ _ _ _ (by decide), fld_bump_32 _ _ _ _ rfl rfl]

@[simp] theorem lostPush_run (s : State) (n : Nat) : (s.lostPush n).run = s.run := by
  rw [State.lostPush, siltPost_run, raise_run, bump_run]

theorem lostPush_reg (s : State) (n : Nat) {id : RegId} (i j : Nat) (h : id ∉ slotWorkRegs) (hc : id ≠ .RUN_CNT_LOST) :
    (s.lostPush n).reg id i j = s.reg id i j := by
  have hraise : id ≠ F.RUN_EVT_LOST_PUSH.reg := fun e => h (e ▸ by decide)
  rw [State.lostPush, siltPost_workAlike _ _ _ _ id h, reg_raise_id _ _ _ _ hraise, reg_congr (bump_regs s _ _ _ _)]
  exact reg_setReg_id _ _ _ _ _ _ hc

theorem lostPush_count (s : State) (n : Nat) :
    (s.lostPush n).fld F.RUN_CNT_LOST_COUNT = min 0xFFFFFFFF (s.fld F.RUN_CNT_LOST_COUNT + 1) := by
  rw [State.lostPush, fld_of_reg (siltPost_workAlike _ _ _ _ .RUN_CNT_LOST (by decide) 0 0), fld_raise_id _ _ _ _ (by decide),
    fld_bump_32 _ _ _ _ rfl rfl]

/-- The pushes that wait for a runnel which is disabled are lost one by one (R332). -/
def State.lostPushes (s : State) (n k : Nat) : State := (List.range k).foldl (fun s _ => s.lostPush n) s

theorem lostPushes_succ (s : State) (n k : Nat) : s.lostPushes n (k + 1) = (s.lostPushes n k).lostPush n := by
  rw [State.lostPushes, List.range_succ, List.foldl_append]
  rfl

theorem lostPushes_run (s : State) (n k : Nat) : (s.lostPushes n k).run = s.run := by
  induction k with
  | zero => rfl
  | succ k ih => rw [lostPushes_succ, lostPush_run, ih]

theorem lostPushes_fld (s : State) (n k : Nat) {f : Fld} (i j : Nat) (h : f.reg ∉ slotWorkRegs) (hc : f.reg ≠ .RUN_CNT_LOST) :
    (s.lostPushes n k).fld f i j = s.fld f i j := by
  induction k with
  | zero => rfl
  | succ k ih => rw [lostPushes_succ, fld_of_reg (lostPush_reg _ n i j h hc), ih]

theorem lostPushes_count (s : State) (n k : Nat) :
    (s.lostPushes n k).fld F.RUN_CNT_LOST_COUNT = min 0xFFFFFFFF (s.fld F.RUN_CNT_LOST_COUNT + k) := by
  induction k with
  | zero =>
    have hlt : s.fld F.RUN_CNT_LOST_COUNT < 2 ^ 32 := fld_lt s F.RUN_CNT_LOST_COUNT 0 0
    change s.fld F.RUN_CNT_LOST_COUNT = _
    omega
  | succ k ih =>
    rw [lostPushes_succ, lostPush_count, ih]
    omega

/-! ## What no discarded record changes: the runnels' configuration, and which of them are being disabled (R332, R340) -/

theorem runnel_setRunnel_ne (s : State) {n m : Nat} (r : Runnel) (h : m ≠ n) : (s.setRunnel n r).runnel m = s.runnel m :=
  SMap.getD_put_ne _ _ _ h

/-- `t` holds the configuration of the runnels that `s` holds, and the same runnels are being disabled. -/
structure State.SetupAlike (s t : State) : Prop where
  cfg : ∀ n, t.reg .RUN_CFG n 0 = s.reg .RUN_CFG n 0
  disabling : ∀ n, (t.runnel n).disabling = (s.runnel n).disabling

namespace State.SetupAlike

variable {s t u : State}

theorem refl (s : State) : s.SetupAlike s := ⟨fun _ => rfl, fun _ => rfl⟩

theorem trans (h : s.SetupAlike t) (h' : t.SetupAlike u) : s.SetupAlike u :=
  ⟨fun n => (h'.cfg n).trans (h.cfg n), fun n => (h'.disabling n).trans (h.disabling n)⟩

theorem fld (h : s.SetupAlike t) (n : Nat) {f : Fld} (hf : f.reg = .RUN_CFG) : t.fld f n = s.fld f n :=
  fld_of_reg (by rw [hf]; exact h.cfg n)

theorem flag (h : s.SetupAlike t) (n : Nat) {f : Fld} (hf : f.reg = .RUN_CFG) : t.flag f n = s.flag f n := by
  rw [State.flag, h.fld n hf, State.flag]

/-- A change of what lies outside the runnels. -/
theorem rest (hr : ∀ n, t.reg .RUN_CFG n 0 = s.reg .RUN_CFG n 0) (hrun : t.run = s.run) : s.SetupAlike t :=
  ⟨hr, fun n => by rw [runnel_of_run hrun]⟩

theorem raise {f : Fld} {i : Nat} (hf : .RUN_CFG ≠ f.reg) (h : s.SetupAlike t) : s.SetupAlike (t.raise f i) :=
  h.trans (.rest (fun _ => reg_raise_id _ _ _ _ hf) (raise_run t f i))

theorem bump {f : Fld} {n i j : Nat} (hf : .RUN_CFG ≠ f.reg) (h : s.SetupAlike t) : s.SetupAlike (t.bump f n i j) :=
  h.trans (.rest (fun m => (reg_congr (bump_regs t f n i j) _ m 0).trans (reg_setReg_id _ _ _ _ _ _ hf)) rfl)

/-- A conditional effect. -/
theorem on {c : Bool} {f : State → State} (hf : ∀ t : State, t.SetupAlike (f t)) (h : s.SetupAlike t) : s.SetupAlike (t.on c f) :=
  on_keeps c h (h.trans (hf t))

end State.SetupAlike

theorem siltPost_setupAlike (s : State) (code value rank : Nat) : s.SetupAlike (s.siltPost code value rank) :=
  .rest (fun n => siltPost_workAlike s code value rank .RUN_CFG (by decide) n 0) (siltPost_run s code value rank)

theorem judgeMarks_setupAlike (s : State) (n : Nat) : s.SetupAlike (s.judgeMarks n) :=
  .rest (fun m => judgeMarks_reg s n m 0 (by decide)) (judgeMarks_run s n)

theorem noteBad_setupAlike (s : State) (n k : Nat) : s.SetupAlike (s.noteBad n k) :=
  .rest (fun m => noteBad_reg s n k m 0 (by decide) (by decide)) (noteBad_run s n k)

theorem lostPush_setupAlike (s : State) (n : Nat) : s.SetupAlike (s.lostPush n) :=
  .rest (fun m => lostPush_reg s n m 0 (by decide) (by decide)) (lostPush_run s n)

theorem lostPushes_setupAlike (s : State) (n k : Nat) : s.SetupAlike (s.lostPushes n k) := by
  induction k with
  | zero => exact .refl s
  | succ k ih => exact lostPushes_succ s n k ▸ ih.trans (lostPush_setupAlike _ n)

theorem setRunnel_setupAlike (s : State) {n : Nat} {r : Runnel} (h : r.disabling = (s.runnel n).disabling) :
    s.SetupAlike (s.setRunnel n r) := by
  refine ⟨fun _ => rfl, fun m => ?_⟩
  by_cases hm : m = n
  · rw [hm, runnel_setRunnel, h]
  · rw [runnel_setRunnel_ne _ _ hm]

theorem setRunTurn_setupAlike (s : State) (n : Nat) (u : RunTurn) : s.SetupAlike (s.setRunTurn n u) := ⟨fun _ => rfl, fun _ => rfl⟩

theorem unqueue_setupAlike (s : State) (n k : Nat) : s.SetupAlike (s.unqueue n k).2 := by
  refine State.SetupAlike.trans ?_ (judgeMarks_setupAlike _ n)
  exact (setRunTurn_setupAlike s n _).trans (setRunnel_setupAlike _ rfl)

theorem land_setupAlike (s : State) (n : Nat) (ws : List RunWord) (who : Nat) : s.SetupAlike (s.land n ws who) := by
  refine State.SetupAlike.trans ?_ (judgeMarks_setupAlike _ n)
  exact .bump (by decide) <| (setRunTurn_setupAlike s n _).trans (setRunnel_setupAlike _ rfl)

theorem enginePush_setupAlike (s : State) (n : Nat) (ws : List RunWord) (req : Nat) : s.SetupAlike (s.enginePush n ws req) := by
  unfold State.enginePush
  split
  · exact lostPush_setupAlike s n
  · dsimp only
    split
    · exact land_setupAlike s n ws 255
    · exact setRunnel_setupAlike s rfl

theorem pushTxDone_setupAlike (s : State) (d : TxDesc) (status launch asn rssi : Nat) :
    s.SetupAlike (s.pushTxDone d status launch asn rssi) := by
  unfold State.pushTxDone
  split
  · exact .refl s
  · exact enginePush_setupAlike s _ _ _

theorem doubleFree_setupAlike (s : State) (c : Nat) : s.SetupAlike (s.doubleFree c) :=
  State.SetupAlike.trans (.raise (by decide) <| .bump (by decide) <| .refl s) (siltPost_setupAlike _ _ _ _)

theorem freeWalk_setupAlike (n : Nat) (s : State) (c : Nat) : s.SetupAlike (s.freeWalk n c) := by
  induction n generalizing s c with
  | zero => exact .refl s
  | succ n ih =>
    have hfreed (l : Link) : s.SetupAlike (s.fresh.2.setLink c l) := ⟨fun _ => rfl, fun _ => rfl⟩
    simp only [State.freeWalk]
    split
    · exact doubleFree_setupAlike s c
    · split
      · exact hfreed _
      · exact (hfreed _).trans (ih _ _)

theorem freeChain_setupAlike (s : State) (c : Nat) : s.SetupAlike (s.freeChain c) := freeWalk_setupAlike _ s c

theorem freeIndex_setupAlike (s : State) (c : Nat) : s.SetupAlike (s.freeIndex c) := by
  unfold State.freeIndex
  split
  · exact freeChain_setupAlike s c
  · exact .refl s

/-- The completion of a descriptor from a runnel. -/
theorem deliverTx_setupAlike (s : State) (n : Nat) (d : TxDesc) (st : Status) (launch asn rssi : Nat) (frees : Bool) :
    s.SetupAlike (s.deliverTx (.runnel n) d st launch asn rssi frees) := by
  refine State.SetupAlike.trans ?_ (pushTxDone_setupAlike _ d _ _ _ _)
  exact .on (fun t => .on (fun t => freeChain_setupAlike t _) (.refl t)) <| .on (fun t => siltPost_setupAlike t _ _ _) <| .refl s

theorem flushDesc_setupAlike (s : State) (n : Nat) (ws : List RunWord) : s.SetupAlike (s.flushDesc n ws) := by
  simp only [State.flushDesc]
  split <;> exact deliverTx_setupAlike s n _ _ _ _ _ _

theorem flushPair_setupAlike (s : State) (ws : List RunWord) : s.SetupAlike (s.flushPair ws) := by
  have hchain (b : Bool) (c : Nat) : s.SetupAlike (if b then s else s.freeIndex c) := by
    cases b
    · exact freeIndex_setupAlike s c
    · exact .refl s
  simp only [State.flushPair]
  split
  · exact .refl s
  · split
    · exact hchain _ _
    · exact (hchain _ _).trans (freeIndex_setupAlike _ _)

theorem discardRecord_setupAlike (s : State) (n : Nat) (ws : List RunWord) : s.SetupAlike (s.discardRecord n ws) := by
  have hcounted : s.SetupAlike ((s.bump F.RUN_CNT_FLUSHED_COUNT).noteBad n (ws.filter RunWord.isBad).length) :=
    State.SetupAlike.trans (.bump (by decide) <| .refl s) (noteBad_setupAlike _ n _)
  simp only [State.discardRecord]
  split
  · exact hcounted.trans (flushDesc_setupAlike _ n ws)
  · exact hcounted.trans (flushPair_setupAlike _ ws)
  · exact hcounted

/-- The records that a discard gives up, one after another (R340). -/
def State.discardAll (s : State) (n : Nat) (rs : List (List RunWord)) : State := rs.foldl (fun s r => s.discardRecord n r) s

theorem discardAll_setupAlike (s : State) (n : Nat) (rs : List (List RunWord)) : s.SetupAlike (s.discardAll n rs) :=
  List.foldlRecOn _ _ (.refl s) fun t h _ _ => h.trans (discardRecord_setupAlike t n _)

theorem discard_eq (s : State) (n k : Nat) :
    s.discard n k = (s.unqueue n (k * s.recLen n)).2.discardAll n (recordsOf (s.recLen n) k ((s.runnel n).words.take (k * s.recLen n))) := rfl

theorem discard_setupAlike (s : State) (n k : Nat) : s.SetupAlike (s.discard n k) :=
  (unqueue_setupAlike s n _).trans (discardAll_setupAlike _ n _)

/-! ## Records of plain words (R333, R340) -/

theorem recordsOf_length (len k : Nat) (ws : List RunWord) : (recordsOf len k ws).length = k := by
  induction k generalizing ws with
  | zero => rfl
  | succ k ih => rw [recordsOf, List.length_cons, ih]

/-- The records that words are cut into hold them in their order. -/
theorem recordsOf_flatten (len k : Nat) (ws : List RunWord) : (recordsOf len k ws).flatten = ws.take (k * len) := by
  induction k generalizing ws with
  | zero => rw [Nat.zero_mul, List.take_zero]; rfl
  | succ k ih => rw [recordsOf, List.flatten_cons, ih, Nat.succ_mul, Nat.add_comm, List.take_add]

section
variable {s : State} {n : Nat} (hclass : s.fld F.RUN_CFG_CLASS n = 0)
include hclass

/-- A record of plain words is counted, and leaves nothing else (R340). -/
theorem discardRecord_plain (ws : List RunWord) :
    s.discardRecord n ws = (s.bump F.RUN_CNT_FLUSHED_COUNT).noteBad n (ws.filter RunWord.isBad).length := by
  have hkept : ((s.bump F.RUN_CNT_FLUSHED_COUNT).noteBad n (ws.filter RunWord.isBad).length).fld F.RUN_CFG_CLASS n = 0 := by
    rw [(noteBad_setupAlike _ n _).fld n rfl, fld_bump_id _ _ _ _ _ _ (by decide), hclass]
  simp only [State.discardRecord, hkept]

theorem discardRecord_counts (ws : List RunWord) :
    (s.discardRecord n ws).fld F.RUN_CNT_FLUSHED_COUNT = min 0xFFFFFFFF (s.fld F.RUN_CNT_FLUSHED_COUNT + 1) ∧
    (s.discardRecord n ws).fld F.RUN_CNT_BAD_WORD_COUNT =
      min 0xFFFFFFFF (s.fld F.RUN_CNT_BAD_WORD_COUNT + (ws.filter RunWord.isBad).length) ∧
    (s.discardRecord n ws).fld F.RUN_CNT_LOST_COUNT = s.fld F.RUN_CNT_LOST_COUNT := by
  rw [discardRecord_plain hclass, noteBad_count, fld_of_reg (noteBad_reg _ n _ 0 0 (by decide) (by decide)),
    fld_of_reg (noteBad_reg _ n _ 0 0 (by decide) (by decide)), fld_bump_32 _ _ _ _ rfl rfl, fld_bump_id _ _ _ _ _ _ (by decide),
    fld_bump_id _ _ _ _ _ _ (by decide)]
  exact ⟨rfl, rfl, rfl⟩

theorem discardAll_counts (rs : List (List RunWord)) :
    (s.discardAll n rs).fld F.RUN_CNT_FLUSHED_COUNT = min 0xFFFFFFFF (s.fld F.RUN_CNT_FLUSHED_COUNT + rs.length) ∧
    (s.discardAll n rs).fld F.RUN_CNT_BAD_WORD_COUNT =
      min 0xFFFFFFFF (s.fld F.RUN_CNT_BAD_WORD_COUNT + (rs.flatten.filter RunWord.isBad).length) ∧
    (s.discardAll n rs).fld F.RUN_CNT_LOST_COUNT = s.fld F.RUN_CNT_LOST_COUNT := by
  induction rs generalizing s with
  | nil =>
    have hflushed : s.fld F.RUN_CNT_FLUSHED_COUNT < 2 ^ 32 := fld_lt s F.RUN_CNT_FLUSHED_COUNT 0 0
    have hbad : s.fld F.RUN_CNT_BAD_WORD_COUNT < 2 ^ 32 := fld_lt s F.RUN_CNT_BAD_WORD_COUNT 0 0
    simp only [State.discardAll, List.foldl_nil, List.length_nil, List.flatten_nil, List.filter_nil, and_true]
    omega
  | cons r rs ih =>
    obtain ⟨hflushed, hbad, hlost⟩ := discardRecord_counts hclass r
    obtain ⟨hflushed', hbad', hlost'⟩ := ih (((discardRecord_setupAlike s n r).fld n rfl).trans hclass)
    simp only [State.discardAll, List.foldl_cons] at hflushed' hbad' hlost' ⊢
    rw [hflushed', hbad', hlost', hflushed, hbad, hlost, List.length_cons, List.flatten_cons, List.filter_append, List.length_append]
    omega

theorem discard_counts (k : Nat) :
    (s.discard n k).fld F.RUN_CNT_FLUSHED_COUNT = min 0xFFFFFFFF (s.fld F.RUN_CNT_FLUSHED_COUNT + k) ∧
    (s.discard n k).fld F.RUN_CNT_BAD_WORD_COUNT = min 0xFFFFFFFF (s.fld F.RUN_CNT_BAD_WORD_COUNT +
      (((s.runnel n).words.take (k * s.recLen n)).filter RunWord.isBad).length) ∧
    (s.discard n k).fld F.RUN_CNT_LOST_COUNT = s.fld F.RUN_CNT_LOST_COUNT := by
  have hcounts := discardAll_counts (((unqueue_setupAlike s n (k * s.recLen n)).fld n rfl).trans hclass)
    (recordsOf (s.recLen n) k ((s.runnel n).words.take (k * s.recLen n)))
  rwa [← discard_eq, recordsOf_length, recordsOf_flatten, List.take_take, min_self, unqueue_fld _ _ _ _ _ (by decide),
    unqueue_fld _ _ _ _ _ (by decide), unqueue_fld _ _ _ _ _ (by decide)] at hcounts

end

/-! ## A runnel that is disabled (R332) -/

/-- A flush that ends leaves its runnel without one, and its event set (R339). -/
theorem flushStop_runnel (s : State) (n : Nat) : (s.flushStop n).runnel n = { s.runnel n with flushEnd := none } := by
  rw [State.flushStop, runnel_of_run (raise_run _ _ _), runnel_of_run (setFld_run _ _ _ _ _), runnel_setRunnel]

theorem flushStop_flags (s : State) (n : Nat) :
    (s.flushStop n).flag F.RUN_STAT_FLUSHING n = false ∧ (s.flushStop n).flag F.RUN_EVT_N_FLUSH_DONE n = true := by
  refine ⟨?_, flag_raise_self _ _ _ (by decide) rfl⟩
  rw [State.flushStop, State.flag, fld_raise_id _ _ _ _ (by decide)]
  exact flag_setFld_cond _ F.RUN_STAT_FLUSHING false n 0 (by decide) rfl

theorem runnelOff_runnel (s : State) (n : Nat) :
    (s.runnelOff n).runnel n = { s.runnel n with disabling := false, flushEnd := none } := by
  have hoff (r : Runnel) : ((s.setRunnel n r).setFld F.RUN_CFG_EN 0 n).runnel n = r := runnel_setRunnel s n r
  rw [State.runnelOff]
  cases hflush : (s.runnel n).flushEnd with
  | none => rw [Option.isSome_none, on_false, hoff, ← hflush]
  | some e => rw [Option.isSome_some, on_true, flushStop_runnel, hoff]

theorem runnelOff_en (s : State) (n : Nat) : (s.runnelOff n).flag F.RUN_CFG_EN n = false := by
  have hoff (u : State) : (u.setFld F.RUN_CFG_EN 0 n).flag F.RUN_CFG_EN n = false := flag_setFld_cond u _ false n 0 (by decide) rfl
  refine on_keeps (P := fun u : State => u.flag F.RUN_CFG_EN n = false) _ (hoff _) ?_
  rw [State.flag, State.flushStop, fld_raise_id _ _ _ _ (by decide), fld_setFld_id _ _ _ _ _ _ (by decide), setRunnel_fld]
  exact hoff _

/-- The runnel counts as not enabled, and no push waits for it any more. -/
def State.disableStart (s : State) (n : Nat) : State := s.setRunnel n { s.runnel n with
  waiting := [], ringWaits := [], disabling := true, flushEnd := (s.runnel n).flushEnd.map fun _ => 0 }

/-- The rest of the record that the consumer has begun is discarded, with no effect. -/
def State.disableRest (s : State) (n : Nat) : State :=
  ((s.disableStart n).unqueue n (min (s.runnel n).words.length (s.recordRest n))).2

/-- Then the whole records as a flush discards them, and a partial record at the tail with no effect. -/
def State.disableDrop (s : State) (n : Nat) : State :=
  let u := (s.disableRest n).discard n (((s.disableRest n).runnel n).words.length / s.recLen n)
  (u.unqueue n (u.runnel n).words.length).2

theorem recLen_congr {s t : State} {n : Nat} (h : t.reg .RUN_CFG n 0 = s.reg .RUN_CFG n 0) : t.recLen n = s.recLen n := by
  rw [State.recLen, fld_of_reg (f := F.RUN_CFG_CLASS) h, fld_of_reg (f := F.RUN_CFG_RECLEN) h, State.recLen]

theorem recordRest_congr {s t : State} {n : Nat} (h : t.reg .RUN_CFG n 0 = s.reg .RUN_CFG n 0)
    (hpos : (t.runnel n).popPos = (s.runnel n).popPos) : t.recordRest n = s.recordRest n := by
  rw [State.recordRest, recLen_congr h, hpos, State.recordRest]

theorem unqueue_runnel_words (s : State) (n k : Nat) : ((s.unqueue n k).2.runnel n).words = (s.runnel n).words.drop k := by
  rw [State.unqueue, runnel_of_run (judgeMarks_run _ _), runnel_setRunnel]

theorem disableRest_recLen (s : State) (n : Nat) : (s.disableRest n).recLen n = s.recLen n :=
  recLen_congr (unqueue_reg (s.disableStart n) n _ n 0 (by decide))

theorem disableRest_words (s : State) (n : Nat) :
    ((s.disableRest n).runnel n).words = (s.runnel n).words.drop (min (s.runnel n).words.length (s.recordRest n)) := by
  rw [State.disableRest, unqueue_runnel_words, State.disableStart, runnel_setRunnel]

theorem disableDrop_words (s : State) (n : Nat) : ((s.disableDrop n).runnel n).words = [] := by
  rw [State.disableDrop, unqueue_runnel_words, List.drop_length]

theorem disableDrop_setupAlike (s : State) (n : Nat) : (s.disableStart n).SetupAlike (s.disableDrop n) :=
  ((unqueue_setupAlike _ n _).trans (discard_setupAlike _ n _)).trans (unqueue_setupAlike _ n _)

section
variable {s : State} {n : Nat} (hdis : (s.runnel n).disabling = false)
include hdis

theorem runnelDisable_of_empty (hwords : (s.runnel n).words = []) (hwaiting : (s.runnel n).waiting = [])
    (hrings : (s.runnel n).ringWaits = []) :
    s.runnelDisable n = (s.setRunnel n { s.runnel n with waiting := [], ringWaits := [] }).runnelOff n := by
  have hempty : (s.runnel n).words.isEmpty = true := List.isEmpty_iff.mpr hwords
  rw [State.runnelDisable]
  simp only [hdis, hempty, Bool.false_eq_true, if_false, if_true, hwaiting, hrings]
  rfl

variable (hwords : (s.runnel n).words ≠ [])
include hwords

theorem runnelDisable_of_words :
    s.runnelDisable n = (s.disableDrop n).lostPushes n ((s.runnel n).waiting.length + (s.runnel n).ringWaits.length) := by
  have hrest : (s.disableStart n).recordRest n = s.recordRest n :=
    recordRest_congr rfl (by rw [State.disableStart, runnel_setRunnel])
  have hempty : (s.runnel n).words.isEmpty = false := by simpa using hwords
  rw [State.runnelDisable]
  simp only [hdis, hempty, Bool.false_eq_true, if_false]
  rw [State.disableDrop, ← disableRest_recLen s n, State.disableRest, ← hrest]
  rfl

theorem runnelDisable_drops : ((s.runnelDisable n).runnel n).words = [] ∧ ((s.runnelDisable n).runnel n).disabling = true ∧
    (s.runnelDisable n).flag F.RUN_CFG_EN n = s.flag F.RUN_CFG_EN n := by
  have hsetup := (disableDrop_setupAlike s n).trans
    (lostPushes_setupAlike _ n ((s.runnel n).waiting.length + (s.runnel n).ringWaits.length))
  rw [runnelDisable_of_words hdis hwords]
  refine ⟨?_, ?_, hsetup.flag n rfl⟩
  · rw [runnel_of_run (lostPushes_run _ _ _), disableDrop_words]
  · rw [hsetup.disabling, State.disableStart, runnel_setRunnel]

/-- Disabling a runnel of plain words counts its whole records, their bad words, and the pushes that waited. -/
theorem runnelDisable_counts (hclass : s.fld F.RUN_CFG_CLASS n = 0) : let r := s.runnel n
    let rest := min r.words.length (s.recordRest n)
    let whole := (r.words.length - rest) / s.recLen n
    let bad := (((r.words.drop rest).take (whole * s.recLen n)).filter RunWord.isBad).length
    (s.runnelDisable n).fld F.RUN_CNT_FLUSHED_COUNT = min 0xFFFFFFFF (s.fld F.RUN_CNT_FLUSHED_COUNT + whole) ∧
    (s.runnelDisable n).fld F.RUN_CNT_BAD_WORD_COUNT = min 0xFFFFFFFF (s.fld F.RUN_CNT_BAD_WORD_COUNT + bad) ∧
    (s.runnelDisable n).fld F.RUN_CNT_LOST_COUNT =
      min 0xFFFFFFFF (s.fld F.RUN_CNT_LOST_COUNT + (r.waiting.length + r.ringWaits.length)) := by
  intro r rest whole bad
  have hfld {f : Fld} (i : Nat) (hf : f.reg ≠ .RUN_EVT_N) : (s.disableRest n).fld f i = s.fld f i :=
    unqueue_fld (s.disableStart n) n _ i 0 hf
  have hwhole : ((s.disableRest n).runnel n).words.length / s.recLen n = whole := by rw [disableRest_words, List.length_drop]
  obtain ⟨hflushed, hbad, hlost⟩ := discard_counts (s := s.disableRest n) ((hfld n (by decide)).trans hclass) whole
  rw [hfld 0 (by decide)] at hflushed hbad hlost
  rw [disableRest_words, disableRest_recLen] at hbad
  rw [runnelDisable_of_words hdis hwords, lostPushes_fld _ _ _ _ _ (by decide) (by decide),
    lostPushes_fld _ _ _ _ _ (by decide) (by decide), lostPushes_count, State.disableDrop, hwhole, unqueue_fld _ _ _ _ _ (by decide),
    unqueue_fld _ _ _ _ _ (by decide), unqueue_fld _ _ _ _ _ (by decide), hlost]
  exact ⟨hflushed, hbad, rfl⟩

end

/-! ## Writes of RUN_CFG_n (R331, R332) -/

/-- RUN_CFG_n as a write of `d` with EN 1 leaves it before EN is judged. -/
abbrev State.cfgTaken (s : State) (n : Nat) (d : Word) : State := s.setReg .RUN_CFG n 0 (d &&& 0x3FFFFF3E)

theorem runCfgWrite_enable {s : State} {n : Nat} (d : Word) (hen : s.flag F.RUN_CFG_EN n = false) :
    s.runCfgWrite n (d ||| 1) = (s.cfgTaken n d).runnelEnable n := by
  have hodd : (d ||| 1).toNat % 2 = 1 := by
    rw [BitVec.toNat_or]
    exact Nat.or_mod_two_eq_one.mpr (.inr rfl)
  have hbits : (d ||| 1) &&& 0x3FFFFF3E = d &&& 0x3FFFFF3E := by
    rw [BitVec.and_or_distrib_right]
    simp
  simp only [State.runCfgWrite, hen, hodd, hbits]
  rfl

/-- A write with EN 0 to an enabled runnel: other fields that it would change are ignored, and the runnel is disabled. -/
theorem runCfgWrite_disable {s : State} {n : Nat} (d : Word) (hen : s.flag F.RUN_CFG_EN n = true) :
    ∃ c, s.runCfgWrite n (d &&& ~~~1) = (s.on c fun s => s.raise F.RUN_EVT_CFG_IGNORED).runnelDisable n := by
  have heven : (d &&& ~~~1).toNat % 2 = 0 := by
    rw [BitVec.toNat_and, ← Nat.mod_two_not_eq_one, Nat.and_mod_two_eq_one]
    exact fun h => absurd h.2 (by decide)
  simp only [State.runCfgWrite, hen, heven]
  exact ⟨_, rfl⟩

theorem cfgTaken_en (s : State) (n : Nat) (d : Word) : (s.cfgTaken n d).flag F.RUN_CFG_EN n = false := by
  rw [F.RUN_CFG_EN, flag_bit, reg_setReg_self]
  simp

theorem runnelCheck_lt (s : State) (n : Nat) : s.runnelCheck n < 4 := by
  unfold State.runnelCheck
  repeat' split
  all_goals decide

/-- An enable that passes every check: the runnel is enabled and empty (R331). -/
theorem runnelEnable_accepted {s : State} {n : Nat} (h : s.runnelCheck n = 0) :
    (s.runnelEnable n).fld F.RUN_STAT_REFUSE n = 0 ∧ (s.runnelEnable n).flag F.RUN_CFG_EN n = true ∧
      (s.runnelEnable n).runnel n = { flushEnd := (s.runnel n).flushEnd } := by
  have heq : s.runnelEnable n =
      ((s.setFld F.RUN_STAT_REFUSE 0 n).setRunnel n { flushEnd := (s.runnel n).flushEnd }).setFld F.RUN_CFG_EN 1 n := by
    simp only [State.runnelEnable, h, if_true]
    rfl
  rw [heq]
  refine ⟨?_, flag_setFld_cond _ _ true n 0 (by decide) rfl, runnel_setRunnel _ _ _⟩
  rw [fld_setFld_id _ _ _ _ _ _ (by decide), setRunnel_fld, fld_setFld_self _ _ _ _ _ (by decide), Nat.zero_mod]

/-- An enable that fails a check: its code is held, and EN stays (R331). -/
theorem runnelEnable_refused {s : State} {n : Nat} (h : s.runnelCheck n ≠ 0) :
    (s.runnelEnable n).fld F.RUN_STAT_REFUSE n = s.runnelCheck n ∧ (s.runnelEnable n).flag F.RUN_CFG_EN n = s.flag F.RUN_CFG_EN n ∧
      (s.runnelEnable n).flag F.RUN_EVT_CFG_REFUSED = true := by
  have heq : s.runnelEnable n = (s.setFld F.RUN_STAT_REFUSE (s.runnelCheck n) n).raise F.RUN_EVT_CFG_REFUSED := by
    simp only [State.runnelEnable, h, if_false]
  rw [heq]
  refine ⟨?_, ?_, flag_raise_self _ _ _ (by decide) rfl⟩
  · rw [fld_raise_id _ _ _ _ (by decide), fld_setFld_self _ _ _ _ _ (by decide)]
    exact Nat.mod_eq_of_lt (runnelCheck_lt s n)
  · rw [State.flag, fld_raise_id _ _ _ _ (by decide), fld_setFld_id _ _ _ _ _ _ (by decide), State.flag]

theorem exec_runnelEnable {n : Nat} (hn : n < 256) (d : Word) (s : State) :
    exec (.runnelEnable n d) s = .next (s.powered fun s => s.runCfgWrite n (d ||| 1)) := by
  have hexec : exec (.runnelEnable n d) s = execRunnelEnable n d s := rfl
  rw [hexec, execRunnelEnable, Nat.mod_eq_of_lt hn]

theorem exec_runnelDisable {n : Nat} (hn : n < 256) (d : Word) (s : State) :
    exec (.runnelDisable n d) s = .next (s.powered fun s => s.runCfgWrite n (d &&& ~~~1)) := by
  have hexec : exec (.runnelDisable n d) s = execRunnelDisable n d s := rfl
  rw [hexec, execRunnelDisable, Nat.mod_eq_of_lt hn]

section
variable {s : State} {n : Nat} (hn : n < 256) (d : Word)
include hn

theorem runnelEnable_completes (hen : s.flag F.RUN_CFG_EN n = false) (hr : s.released = true) :
    let c := (s.cfgTaken n d).runnelCheck n
    Completes (.runnelEnable n d) s fun t => t.fld F.RUN_STAT_REFUSE n = c ∧ t.flag F.RUN_CFG_EN n = decide (c = 0) ∧
      if c = 0 then t.runnel n = { flushEnd := (s.runnel n).flushEnd } else t.flag F.RUN_EVT_CFG_REFUSED = true := by
  intro c
  refine completes_of_powered hr (exec_runnelEnable hn d s) ?_
  rw [runCfgWrite_enable d hen]
  by_cases hc : c = 0
  · obtain ⟨hrefuse, hon, hrunnel⟩ := runnelEnable_accepted hc
    rw [if_pos hc, decide_eq_true hc, hc]
    exact ⟨hrefuse, hon, hrunnel⟩
  · obtain ⟨hrefuse, hoff, hevent⟩ := runnelEnable_refused hc
    rw [if_neg hc, decide_eq_false hc]
    exact ⟨hrefuse, hoff.trans (cfgTaken_en s n d), hevent⟩

/-- A disable of an enabled runnel, from a state that may have CFG_IGNORED set besides. -/
theorem completes_of_runnelDisable (hen : s.flag F.RUN_CFG_EN n = true) (hr : s.released = true) {P : State → Prop}
    (h : ∀ u : State, u.run = s.run → (∀ id ≠ .RUN_EVT, ∀ i j, u.reg id i j = s.reg id i j) → P (u.runnelDisable n)) :
    Completes (.runnelDisable n d) s P := by
  obtain ⟨c, hwrite⟩ := runCfgWrite_disable d hen
  refine completes_of_powered hr (exec_runnelDisable hn d s) (hwrite ▸ h _ (on_run (fun u => raise_run u _ _) s c) fun id hid i j => ?_)
  exact on_keeps (P := fun u : State => u.reg id i j = s.reg id i j) c rfl (reg_raise_id s _ _ _ hid)

variable (hen : s.flag F.RUN_CFG_EN n = true) (hdis : (s.runnel n).disabling = false) (hr : s.released = true)
include hen hdis hr

theorem runnelDisable_completes_of_empty (hwords : (s.runnel n).words = []) (hwaiting : (s.runnel n).waiting = [])
    (hrings : (s.runnel n).ringWaits = []) : Completes (.runnelDisable n d) s fun t =>
      t.flag F.RUN_CFG_EN n = false ∧ (t.runnel n).words = [] := by
  refine completes_of_runnelDisable hn d hen hr fun u hrun _ => ?_
  rw [← runnel_of_run hrun n] at hdis hwords hwaiting hrings
  rw [runnelDisable_of_empty hdis hwords hwaiting hrings, runnelOff_runnel, runnel_setRunnel]
  exact ⟨runnelOff_en _ n, hwords⟩

variable (hwords : (s.runnel n).words ≠ [])
include hwords

theorem runnelDisable_completes_of_words : Completes (.runnelDisable n d) s fun t =>
    (t.runnel n).words = [] ∧ (t.runnel n).disabling = true ∧ t.flag F.RUN_CFG_EN n = true ∧ t.runnelOn n = false := by
  refine completes_of_runnelDisable hn d hen hr fun u hrun hreg => ?_
  rw [← runnel_of_run hrun n] at hdis hwords
  obtain ⟨hempty, hnow, hflag⟩ := runnelDisable_drops hdis hwords
  have hon : (u.runnelDisable n).flag F.RUN_CFG_EN n = true := (hflag.trans (flag_of_reg (hreg _ (by decide) n 0))).trans hen
  exact ⟨hempty, hnow, hon, by simp [State.runnelOn, hnow]⟩

theorem runnelDisable_completes_of_plain (hclass : s.fld F.RUN_CFG_CLASS n = 0) : let r := s.runnel n
    let rest := min r.words.length (s.recordRest n)
    let whole := (r.words.length - rest) / s.recLen n
    let bad := (((r.words.drop rest).take (whole * s.recLen n)).filter RunWord.isBad).length
    Completes (.runnelDisable n d) s fun t =>
      t.fld F.RUN_CNT_FLUSHED_COUNT = min 0xFFFFFFFF (s.fld F.RUN_CNT_FLUSHED_COUNT + whole) ∧
      t.fld F.RUN_CNT_BAD_WORD_COUNT = min 0xFFFFFFFF (s.fld F.RUN_CNT_BAD_WORD_COUNT + bad) ∧
      t.fld F.RUN_CNT_LOST_COUNT = min 0xFFFFFFFF (s.fld F.RUN_CNT_LOST_COUNT + (r.waiting.length + r.ringWaits.length)) := by
  refine completes_of_runnelDisable hn d hen hr fun u hrun hreg => ?_
  have hrunnel : u.runnel n = s.runnel n := runnel_of_run hrun n
  have hcfg := hreg .RUN_CFG (by decide) n 0
  have hcounts := runnelDisable_counts (s := u) (n := n) (by rwa [hrunnel]) (by rwa [hrunnel])
    ((fld_of_reg (f := F.RUN_CFG_CLASS) hcfg).trans hclass)
  simpa only [hrunnel, recordRest_congr hcfg (congrArg Runnel.popPos hrunnel), recLen_congr hcfg,
    fld_of_reg (f := F.RUN_CNT_FLUSHED_COUNT) (hreg _ (by decide) 0 0), fld_of_reg (f := F.RUN_CNT_BAD_WORD_COUNT) (hreg _ (by decide) 0 0),
    fld_of_reg (f := F.RUN_CNT_LOST_COUNT) (hreg _ (by decide) 0 0)] using hcounts

end

theorem runnelDisableDone_completes {s : State} {n : Nat} (hn : n < 256) (hdis : (s.runnel n).disabling = true) :
    Completes (.runnelDisableDone n) s fun t =>
      t.flag F.RUN_CFG_EN n = false ∧ t.runnel n = { s.runnel n with disabling := false, flushEnd := none } := by
  have hexec : exec (.runnelDisableDone n) s = execRunnelDisableDone n s := rfl
  refine completes_of_exec (t := s.runnelOff n) ?_ ⟨runnelOff_en s n, runnelOff_runnel s n⟩
  simp [hexec, execRunnelDisableDone, Nat.mod_eq_of_lt hn, hdis]

/-! ## Pushes (R334, R336) -/

theorem land_waiting (s : State) (n : Nat) (ws : List RunWord) (who : Nat) :
    ((s.land n ws who).runnel n).waiting = (s.runnel n).waiting := by
  rw [State.land, runnel_of_run (judgeMarks_run _ _), runnel_of_run (bump_run _ _ _ _ _), runnel_setRunnel]

theorem enginePushRoom_completes {s : State} {n tag : Nat} {ws : List RunWord} {rest : List (Nat × List RunWord)} (hn : n < 256)
    (hwaiting : (s.runnel n).waiting = (tag, ws) :: rest) (hroom : ws.length ≤ s.runnelRoom n) (hphase : s.pwr.phase ≠ .failing) :
    Completes (.enginePushRoom n) s fun t => (t.runnel n).words = (s.runnel n).words ++ ws ∧ (t.runnel n).waiting = rest := by
  have hexec : exec (.enginePushRoom n) s = execEnginePushRoom n s := rfl
  have hready : s.engineReady n = true := by simp [State.engineReady, hwaiting, hroom, hphase]
  refine completes_of_exec (t := (s.setRunnel n { s.runnel n with waiting := rest }).land n ws) ?_ ?_
  · rw [hexec, execEnginePushRoom, if_neg hphase, Nat.mod_eq_of_lt hn]
    simp [State.serveWaiting, hready, hwaiting]
  · rw [land_words, land_waiting, runnel_setRunnel]
    exact ⟨rfl, rfl⟩

/-- A runnel for which nothing waits has nothing to serve. -/
theorem serveAll_of_idle {s : State} {n : Nat} (hwaiting : (s.runnel n).waiting = []) (hrings : (s.runnel n).ringWaits = []) :
    s.serveAll n = s := by
  rw [State.serveAll, hwaiting, hrings]
  rfl

/-- The words that a write of RUN_HPUSH_CTL pushes (R334, R338). -/
def State.hostWords (s : State) (d : Word) : List RunWord :=
  (List.range (if d.getLsbD 1 then 4 else 1)).map fun i => mkWord (s.reg .RUN_HPUSH_W i 0) (d.getLsbD 2)

theorem hpushCtlWrite_go (s : State) (d : Word) : s.hpushCtlWrite (d ||| 1) = s.hostPush (bits d.toNat 8 8) (s.hostWords d) := by
  have hgo : (d ||| 1).getLsbD 0 = true := by simp
  have hrest {k : Nat} (hk : 1 ≤ k) : (d ||| 1).getLsbD k = d.getLsbD k := by
    rw [BitVec.getLsbD_or, getLsbD_one_of_pos hk, Bool.or_false]
  have hrunnel : bits (d ||| 1).toNat 8 8 = bits d.toNat 8 8 := bits_congr fun k hk _ => by
    rw [BitVec.testBit_toNat, BitVec.testBit_toNat, hrest (by omega)]
  simp only [State.hpushCtlWrite, hgo, Bool.not_true, Bool.false_eq_true, if_false, hrunnel, hrest (k := 1) (by omega),
    hrest (k := 2) (by omega), State.hostWords]

section
variable {s : State} {d : Word} (hr : s.released = true)
include hr

theorem completes_of_hostPush {P : State → Prop} (h : P (s.hostPush (bits d.toNat 8 8) (s.hostWords d))) : Completes (.hostPush d) s P :=
  completes_of_powered (f := fun s => s.hpushCtlWrite (d ||| 1)) hr rfl ((hpushCtlWrite_go s d).symm ▸ h)

theorem hostPush_completes_of_off (hoff : s.runnelOn (bits d.toNat 8 8) = false) :
    Completes (.hostPush d) s fun t => t = s.lostPush (bits d.toNat 8 8) :=
  completes_of_hostPush hr (by simp [State.hostPush, hoff])

variable {n : Nat} (hn : bits d.toNat 8 8 = n) (hon : s.runnelOn n = true)
include hn hon

theorem hostPush_completes_of_room (hroom : (s.hostWords d).length ≤ (s.serveAll n).runnelRoom n) : Completes (.hostPush d) s fun t =>
    (t.runnel n).words = ((s.serveAll n).runnel n).words ++ s.hostWords d := by
  subst hn
  refine completes_of_hostPush hr ?_
  have hpush : s.hostPush (bits d.toNat 8 8) (s.hostWords d) =
      (s.serveAll (bits d.toNat 8 8)).land (bits d.toNat 8 8) (s.hostWords d) 200 := by simp [State.hostPush, hon, hroom]
  rw [hpush, land_words]

theorem hostPush_completes_of_full (hroom : (s.serveAll n).runnelRoom n < (s.hostWords d).length) : Completes (.hostPush d) s fun t =>
    t.runnel n = (s.serveAll n).runnel n ∧ t.flag F.RUN_EVT_N_OVERRUN n = true := by
  subst hn
  refine completes_of_hostPush hr ?_
  have hpush : s.hostPush (bits d.toNat 8 8) (s.hostWords d) = ((s.serveAll (bits d.toNat 8 8)).endCycle.raise F.RUN_EVT_N_OVERRUN
      (bits d.toNat 8 8)).bump F.RUN_CNT_OVERRUN_COUNT := by simp [State.hostPush, hon, Nat.not_le.mpr hroom]
  rw [hpush]
  refine ⟨runnel_of_run (by rw [bump_run, raise_run, State.endCycle, advance_run]) _, ?_⟩
  rw [State.flag, fld_bump_id _ _ _ _ _ _ (by decide)]
  exact flag_raise_self _ _ _ (by decide) rfl

end

/-! ## Pops of the host (R335, R337) -/

theorem after_runnel (s : State) (dt n : Nat) : (s.after dt).runnel n = s.runnel n := runnel_of_run (after_run s dt) n

theorem after_runnelOn (s : State) (dt n : Nat) : (s.after dt).runnelOn n = s.runnelOn n := by
  rw [State.runnelOn, after_flag, after_runnel, State.runnelOn]

section
variable {s : State} {dt n : Nat} (hn : n < 256) (hr : s.released = true)
include hn hr

theorem completes_of_hostPop {P : State → Prop} (h : P ((s.after dt).hostPop n).2) : Completes (.hostPop ⟨dt, n⟩) s P := by
  have hexec : exec (.hostPop ⟨dt, n⟩) s = execHostPop ⟨dt, n⟩ s := rfl
  refine completes_of_exec (t := ((s.after dt).hostPop n).2) ?_ h
  rw [hexec, execHostPop, Nat.mod_eq_of_lt hn, powered_of_released ((after_released s dt).trans hr)]

theorem hostPop_completes (hon : s.runnelOn n = true) (hmany : 0 < (s.after dt).landedBefore n) :
    Completes (.hostPop ⟨dt, n⟩) s fun t => (t.runnel n).words = (s.runnel n).words.drop 1 := by
  refine completes_of_hostPop hn hr ?_
  have hpop : ((s.after dt).hostPop n).2 = ((s.after dt).popWords n 1).2 := by simp [State.hostPop, after_runnelOn, hon, hmany]
  rw [hpop, popWords_words, after_runnel]

theorem hostPop_underrun (h : s.runnelOn n = false ∨ (s.after dt).landedBefore n = 0) :
    Completes (.hostPop ⟨dt, n⟩) s fun t => t.flag F.RUN_EVT_N_UNDERRUN n = true ∧ t.runnel n = s.runnel n := by
  refine completes_of_hostPop hn hr ?_
  have hnone : (s.runnelOn n && decide (0 < (s.after dt).landedBefore n)) = false := by
    rcases h with h | h <;> simp [h]
  have hpop : ((s.after dt).hostPop n).2 = (s.after dt).raise F.RUN_EVT_N_UNDERRUN n := by
    rw [State.hostPop, after_runnelOn, hnone]
    rfl
  rw [hpop, runnel_of_run (raise_run _ _ _), after_runnel]
  exact ⟨flag_raise_self _ _ _ (by decide) rfl, rfl⟩

end

/-- Without a flush, and with nothing landed in this cycle, a pop finds every word. -/
theorem landedBefore_of_settled {s : State} {n : Nat} (hflush : (s.runnel n).flushEnd = none) (hlanded : (s.runTurn n).landed = 0) :
    s.landedBefore n = (s.runnel n).words.length := by
  rw [State.landedBefore, hlanded, State.poppable, hflush]
  exact min_self _

theorem runTurn_cycle (s : State) (n : Nat) : (s.runTurn n).cycle = s.cycle := by
  rw [State.runTurn]
  split
  · split
    · assumption
    · rfl
  · rfl

/-- Words that land count as landed in this cycle. -/
theorem land_landed (s : State) (n : Nat) (ws : List RunWord) (who : Nat) :
    ((s.land n ws who).runTurn n).landed = (s.runTurn n).landed + ws.length := by
  have hcycle : (s.land n ws who).cycle = s.cycle := by
    rw [State.cycle, land_ocl, (land_txAlike s n ws who).clp, State.cycle]
  have hturn : SMap.find? (s.land n ws who).run.turns n =
      some { s.runTurn n with landed := (s.runTurn n).landed + ws.length } := by
    rw [State.land, judgeMarks_run]
    exact SMap.find?_put_self _ _ _
  rw [State.runTurn, hturn]
  simp only [hcycle, runTurn_cycle, if_true]

/-- No pop of the cycle finds a word that landed in it (R337). -/
theorem landedBefore_land_le (s : State) (n : Nat) (ws : List RunWord) (who : Nat) :
    (s.land n ws who).landedBefore n ≤ (s.runnel n).words.length := by
  refine (min_le_right _ _).trans ?_
  rw [land_words, land_landed, List.length_append]
  omega

/-! ## Flush (R339) -/

theorem runnelFlush_completes {s : State} {n : Nat} (hn : n < 256) (hr : s.released = true) : Completes (.runnelFlush n) s fun t =>
    t.flag F.RUN_STAT_FLUSHING n = true ∧
      t.runnel n = { s.runnel n with flushEnd := some ((s.runnel n).words.length - (s.runnel n).pushPos) } := by
  have hexec : exec (.runnelFlush n) s = execRunnelFlush n s := rfl
  refine completes_of_powered (f := fun s => s.flushWrite n) hr (by rw [hexec, execRunnelFlush, Nat.mod_eq_of_lt hn]) ?_
  exact ⟨flag_setFld_cond _ _ true n 0 (by decide) rfl, runnel_setRunnel _ _ _⟩

theorem flushDone_completes {s : State} {n e : Nat} (hn : n < 256) (hend : (s.runnel n).flushEnd = some e) (hrest : s.recordRest n = 0) :
    Completes (.flushDone n) s fun t =>
      (t.runnel n).flushEnd = none ∧ t.flag F.RUN_STAT_FLUSHING n = false ∧ t.flag F.RUN_EVT_N_FLUSH_DONE n = true := by
  have hexec : exec (.flushDone n) s = execFlushDone n s := rfl
  refine completes_of_exec (t := (s.discard n (e / s.recLen n)).flushStop n) ?_ ⟨by rw [flushStop_runnel], flushStop_flags _ n⟩
  simp [hexec, execFlushDone, Nat.mod_eq_of_lt hn, hend, hrest]

/-! ## Cells of the host (R345–R347) -/

theorem hostAlloc_completes {s : State} (d : Word) (hbusy : s.flag F.RUN_HALLOC_RES_BUSY = false) (hr : s.released = true) :
    Completes (.hostAlloc d) s fun t => t.run.halloc = some (d.toNat % 2 ^ 15) ∧ t.flag F.RUN_HALLOC_RES_BUSY = true := by
  refine completes_of_powered (f := fun s => s.hallocWrite d) hr rfl ?_
  have hwrite : s.hallocWrite d =
      { s with run := { s.run with halloc := some (d.toNat % 2 ^ 15) } }.setFld F.RUN_HALLOC_RES_BUSY 1 := by
    rw [State.hallocWrite, hbusy, bits_from_zero]
    rfl
  rw [hwrite]
  exact ⟨rfl, flag_setFld_cond _ _ true 0 0 (by decide) rfl⟩

theorem hostAlloc_ignored {s : State} (d : Word) (hbusy : s.flag F.RUN_HALLOC_RES_BUSY = true) (hr : s.released = true) :
    Completes (.hostAlloc d) s fun t => t = s :=
  completes_of_powered (f := fun s => s.hallocWrite d) hr rfl (by simp [State.hallocWrite, hbusy])

section
variable {s : State} {len : Nat} (hlen : s.run.halloc = some len)
include hlen

theorem hostAllocDone_completes {v : State} {cs : List Nat} (hlo : 1 ≤ len) (hhi : len ≤ 16384)
    (halloc : ({ s with run := { s.run with halloc := none } }.setFld F.RUN_HALLOC_RES_BUSY 0).allocFloor len = (some cs, v)) :
    Completes .hostAllocDone s fun t => t.flag F.RUN_HALLOC_RES_VALID = true ∧
      t.fld F.RUN_HALLOC_RES_CELL = cs.getD 0 0 % 2 ^ 16 ∧ t.run = v.run := by
  have hexec : exec .hostAllocDone s = execHostAllocDone s := rfl
  refine completes_of_exec (t := (v.setFld F.RUN_HALLOC_RES_VALID 1).setFld F.RUN_HALLOC_RES_CELL (cs.getD 0 0)) ?_ ⟨?_, ?_, rfl⟩
  · simp only [hexec, execHostAllocDone, hlen, hlo, hhi, and_self, if_true, halloc]
  · rw [State.flag, fld_setFld_disjoint _ _ _ _ _ _ (by decide) (by decide)]
    exact flag_setFld_cond _ _ true 0 0 (by decide) rfl
  · exact fld_setFld_self _ _ _ _ _ (by decide)

theorem hostAllocDone_refused (hout : len = 0 ∨ 16384 < len) : Completes .hostAllocDone s fun t =>
    t.flag F.RUN_HALLOC_RES_VALID = false ∧ t.flag F.RUN_HALLOC_RES_BUSY = false ∧ t.run.halloc = none := by
  have hexec : exec .hostAllocDone s = execHostAllocDone s := rfl
  refine completes_of_exec (t := ({ s with run := { s.run with halloc := none } }.setFld F.RUN_HALLOC_RES_BUSY 0).setFld
    F.RUN_HALLOC_RES_VALID 0) ?_ ⟨flag_setFld_cond _ _ false 0 0 (by decide) rfl, ?_, rfl⟩
  · simp only [hexec, execHostAllocDone, hlen]
    rw [if_neg (by omega)]
  · rw [State.flag, fld_setFld_disjoint _ _ _ _ _ _ (by decide) (by decide)]
    exact flag_setFld_cond _ _ false 0 0 (by decide) rfl

end

theorem hostFree_completes {s : State} (d : Word) (hr : s.released = true) :
    Completes (.hostFree d) s fun t => t = s.freeChain (d.toNat % 65536) :=
  completes_of_powered (f := fun s => s.freeChain (bits d.toNat 0 16)) hr rfl (congrArg s.freeChain (bits_from_zero _ 16))

/-- Settles O37, each command and event by its lemma above. -/
theorem runnelCommands : Obligations.RunnelCommands :=
  ⟨fun _ _ d hn hen hr => runnelEnable_completes hn d hen hr,
    fun _ _ d hn hen hdis hwords hwaiting hrings hr => runnelDisable_completes_of_empty hn d hen hdis hr hwords hwaiting hrings,
    fun _ _ d hn hen hdis hwords hr => runnelDisable_completes_of_words hn d hen hdis hr hwords,
    fun _ _ d hn hen hdis hwords hclass hr => runnelDisable_completes_of_plain hn d hen hdis hr hwords hclass,
    fun _ _ hn hdis => runnelDisableDone_completes hn hdis,
    fun _ _ _ _ _ hn hwaiting hroom hphase => enginePushRoom_completes hn hwaiting hroom hphase,
    fun _ _ => ⟨serveAll_of_idle, fun hon hroom hr => hostPush_completes_of_room hr rfl hon hroom,
      fun hon hroom hr => hostPush_completes_of_full hr rfl hon hroom, fun hoff hr => hostPush_completes_of_off hr hoff⟩,
    fun _ _ _ hn hon hmany hr => hostPop_completes hn hr hon hmany,
    fun _ _ _ hn hnone hr => hostPop_underrun hn hr hnone,
    fun _ _ hflush hlanded => landedBefore_of_settled hflush hlanded,
    fun s n who ws => landedBefore_land_le s n ws who,
    fun _ _ hn hr => runnelFlush_completes hn hr,
    fun _ _ _ hn hend hrest => flushDone_completes hn hend hrest,
    fun _ d hbusy hr => hostAlloc_completes d hbusy hr,
    fun _ d hbusy hr => hostAlloc_ignored d hbusy hr,
    fun _ _ _ _ hlen hlo hhi halloc => hostAllocDone_completes hlen hlo hhi halloc,
    fun _ _ hlen hout => hostAllocDone_refused hlen hout,
    fun _ d hr => hostFree_completes d hr⟩

end Sys2Proof.Machine
end

section
/-! PROOFS. `Obligations.StepKeepsCanonicalForm`: the rules by which an operation keeps the canonical form. Each operation of the model has one
lemma `Canonical.<its name>` below, cited as `h.<its name>`: from a canonical state it makes a canonical one. -/

namespace Sys2Proof.Machine

/-- The next state of an outcome, if it has one, is in canonical form. -/
def OutCanonical (o : Out) : Prop := ∀ t, o = .next t → Canonical t

variable {s t : State}

theorem Canonical.next (h : Canonical t) : OutCanonical (.next t) := fun _ e => Host.Outcome.next.inj e ▸ h

/-- What is in no field but memory and the register file does not matter. -/
theorem Canonical.frame (h : Canonical s)
    {pending ecc draw clp pwr run hst obs plm txf cht mac spw eth fls skim slc twn grt bot ocl cyc} :
    Canonical ⟨pending, s.regs, s.mem, ecc, draw, clp, pwr, run, hst, obs, plm, txf, cht, mac, spw, eth, fls, skim, slc, twn, grt, bot, ocl,
      cyc⟩ := h

theorem Canonical.pair {α : Type} {a : α} (h : Canonical s) : Canonical (a, s).2 := h

theorem Canonical.triple {α β : Type} {a : α} {b : β} (h : Canonical s) : Canonical (a, b, s).2.2 := h

theorem Canonical.ite {c : Prop} [Decidable c] (h : Canonical s) (h' : Canonical t) : Canonical (if c then s else t) := by
  split <;> assumption

theorem OutCanonical.ite {c : Prop} [Decidable c] {o o' : Out} (h : OutCanonical o) (h' : OutCanonical o') :
    OutCanonical (if c then o else o') := by
  split <;> assumption

theorem Canonical.foldl {α : Type} {f : State → α → State} {l : List α} (h : Canonical s)
    (hf : ∀ t a, Canonical t → Canonical (f t a)) : Canonical (l.foldl f s) :=
  List.foldlRecOn (motive := Canonical) l f h fun t ht a _ => hf t a ht

theorem Canonical.of_snd {α : Type} {p : α × State} {a : α} (hp : Canonical p.2) (e : p = (a, t)) : Canonical t := by
  subst e
  exact hp

theorem Canonical.of_third {α β : Type} {p : α × β × State} {a : α} {b : β} (hp : Canonical p.2.2) (e : p = (a, b, t)) :
    Canonical t := by
  subst e
  exact hp

theorem Canonical.of_fourth {α β γ : Type} {p : α × β × γ × State} {a : α} {b : β} {c : γ} (hp : Canonical p.2.2.2)
    (e : p = (a, b, c, t)) : Canonical t := by
  subst e
  exact hp

end Sys2Proof.Machine
end

section
/-! PROOFS. The canonical form is kept by what the blocks share: registers, memory words, cells, waits and the transmit paths. -/

namespace Sys2Proof.Machine

variable {s t : State}

theorem Canonical.setReg (h : Canonical s) {id : RegId} {i j : Nat} {v : Word} : Canonical (s.setReg id i j v) :=
  ⟨h.1, SMap.sorted_put _ _ _ h.2⟩

theorem Canonical.setFld (h : Canonical s) {f : Fld} {v i j : Nat} :
    Canonical (s.setFld f v i j) := h.setReg

theorem Canonical.on (h : Canonical s) {c : Bool} {f : State → State} (hf : ∀ u, Canonical u → Canonical (f u)) :
    Canonical (s.on c f) := on_keeps c h (hf s h)

theorem Canonical.powered (h : Canonical s) {f : State → State} (hf : ∀ u, Canonical u → Canonical (f u)) :
    Canonical (s.powered f) := h.on hf

theorem Canonical.fresh (h : Canonical s) :
    Canonical (s.fresh).2 := h

theorem Canonical.nextCycle (h : Canonical s) :
    Canonical (s.nextCycle) := h

theorem Canonical.noteEvent (h : Canonical s) {f : Fld} {i : Nat} :
    Canonical (s.noteEvent f i) := Canonical.ite h h.frame

theorem Canonical.noteCount (h : Canonical s) {f : Fld} {n i j : Nat} :
    Canonical (s.noteCount f n i j) := h

theorem Canonical.count (h : Canonical s) {f : Fld} {n i j : Nat} :
    Canonical (s.count f n i j) := h.setFld

theorem Canonical.bump (h : Canonical s) {f : Fld} {n i j : Nat} :
    Canonical (s.bump f n i j) := h.noteCount.count

theorem Canonical.uncount (h : Canonical s) {f : Fld} {n i j : Nat} :
    Canonical (s.uncount f n i j) := h.frame.setFld

theorem Canonical.unbump (h : Canonical s) {f : Fld} {n i j : Nat} :
    Canonical (s.unbump f n i j) := h.on (fun _ hu => hu.uncount)

theorem Canonical.sendVector (h : Canonical s) {v : Nat} {unmasked : Bool} :
    Canonical (s.sendVector v unmasked) := Canonical.ite h (Canonical.ite h.frame (Canonical.ite h.frame h))

theorem Canonical.settleVector (h : Canonical s) {v : Nat} :
    Canonical (s.settleVector v) := Canonical.ite h (Canonical.ite h.frame h.frame)

theorem Canonical.raise (h : Canonical s) {f : Fld} {i : Nat} :
    Canonical (s.raise f i) := h.noteEvent.setFld.on (fun _ hu => hu.sendVector)

theorem Canonical.rearm (h : Canonical s) {evt : RegId} {i : Nat} :
    Canonical (s.rearm evt i) := Canonical.ite h.sendVector h.settleVector

theorem Canonical.retract (h : Canonical s) {f : Fld} {i : Nat} :
    Canonical (s.retract f i) := Canonical.ite h.frame.setFld h.frame.setFld.frame

theorem Canonical.keepEvents (h : Canonical s) {id : RegId} {i : Nat} {d : Word} :
    Canonical (s.keepEvents id i d) := (h.foldl fun _ _ hu => Canonical.ite hu.raise hu).foldl fun _ _ hu => Canonical.ite hu.frame hu

theorem Canonical.lower (h : Canonical s) {f : Fld} {i : Nat} :
    Canonical (s.lower f i) := h.setFld.settleVector

theorem Canonical.cisternTicks (h : Canonical s) {n : Nat} :
    Canonical (s.cisternTicks n) := h

theorem Canonical.advance (h : Canonical s) {d : Nat} :
    Canonical (s.advance d) := Canonical.ite h.frame h.cisternTicks.frame

theorem Canonical.endCycle (h : Canonical s) :
    Canonical (s.endCycle) := h.advance

theorem Canonical.advanceTo (h : Canonical s) {t : Nat} :
    Canonical (s.advanceTo t) := h.advance

theorem Canonical.advanceToFull (h : Canonical s) {t : Nat} :
    Canonical (s.advanceToFull t) := h.advance

theorem Canonical.setMemByte (h : Canonical s) {m o : Nat} {b : Byte} : Canonical (s.setMemByte m o b) :=
  ⟨wf_setMemByte s m o b h.1, h.2⟩

theorem Canonical.setMemBytes (h : Canonical s) {m o : Nat} {bs : List Byte} : Canonical (s.setMemBytes m o bs) := by
  induction bs generalizing s o with
  | nil => exact h
  | cons b bs ih => exact ih h.setMemByte

theorem Canonical.setMemWord (h : Canonical s) {m w v : Nat} :
    Canonical (s.setMemWord m w v) := h.setMemBytes

theorem Canonical.eccClear (h : Canonical s) {m w : Nat} :
    Canonical (s.eccClear m w) := h

theorem Canonical.eccSet (h : Canonical s) {m w : Nat} {k : EccMark} :
    Canonical (s.eccSet m w k) := h

theorem Canonical.flipApply (h : Canonical s) {m w : Nat} :
    Canonical (s.flipApply m w) := Canonical.ite (h.on (fun _ hu => hu.eccSet)).setFld.raise.bump h

theorem Canonical.memWrite (h : Canonical s) {m w v : Nat} :
    Canonical (s.memWrite m w v) := h.setMemWord.eccClear.flipApply

theorem Canonical.memWrites (h : Canonical s) {m w : Nat} {vs : List Nat} : Canonical (s.memWrites m w vs) := by
  induction vs generalizing s w with
  | nil => exact h
  | cons v vs ih => exact ih h.memWrite

theorem Canonical.flushAsk (h : Canonical s) :
    Canonical (s.flushAsk) := Canonical.ite h.frame h.frame.setFld

theorem Canonical.siltSettle (h : Canonical s) :
    Canonical (s.siltSettle) := h

theorem Canonical.siltWrite (h : Canonical s) {base seq : Nat} {rs : List (Nat × Nat × Nat)} :
    Canonical (s.siltWrite base seq rs) := h.foldl fun _ _ hu => hu.memWrites

theorem Canonical.siltCount (h : Canonical s) {n : Nat} :
    Canonical (s.siltCount n) := h.frame.setFld

theorem Canonical.siltPost (h : Canonical s) {code value rank : Nat} :
    Canonical (s.siltPost code value rank) := by
  unfold State.siltPost
  dsimp only
  split
  · exact (((h.frame.siltWrite.on (fun _ hu => hu.siltCount.setFld.bump)).on (fun _ hu => hu.frame.bump.raise)).on (fun _ hu => hu.bump)).on
        (fun _ hu => hu.flushAsk)
  · exact ((h.frame.siltWrite.on (fun _ hu => hu.siltCount.setFld.bump)).on (fun _ hu => hu.frame.bump.raise)).on (fun _ hu => hu.bump)

theorem Canonical.siltInternal (h : Canonical s) {b reason : Nat} :
    Canonical (s.siltInternal b reason) := h.siltPost

theorem Canonical.correct (h : Canonical s) {m w : Nat} :
    Canonical (s.correct m w) := h.eccClear.bump.raise.setFld.setFld

theorem Canonical.poisonMark (h : Canonical s) {m w mask : Nat} :
    Canonical (s.poisonMark m w mask) := h.setMemWord.eccSet.bump.raise.setFld.setFld.siltPost

theorem Canonical.whenReady (h : Canonical s) {m : Nat} {f : State → State} (hf : ∀ u, Canonical u → Canonical (f u)) :
    Canonical (s.whenReady m f) := Canonical.ite (hf s h) h

theorem Canonical.memRead (h : Canonical s) {m w : Nat} :
    Canonical (s.memRead m w).2 := by
  unfold State.memRead
  split
  · exact h
  · split
    · exact h
    · split
      · exact h.frame.setMemWord.eccClear
      · split
        · exact h.correct
        · exact h.frame.setMemWord.correct
      · exact h.poisonMark

theorem Canonical.memReads (h : Canonical s) {m w n : Nat} : Canonical (s.memReads m w n).2.2 := by
  induction n generalizing s w with
  | zero => exact h
  | succ n ih => exact ih h.memRead

theorem Canonical.partialCheck (h : Canonical s) {m o n : Nat} {ws : List Nat} : Canonical (s.partialCheck m o n ws).2 := by
  induction ws generalizing s with
  | nil => exact h
  | cons w ws ih =>
    unfold State.partialCheck
    dsimp only
    refine ih ?_
    split
    · split
      · exact h.memRead.bump.raise
      · exact h.memRead
    · exact h

theorem Canonical.sealWords (h : Canonical s) {m : Nat} {ws : List Nat} : Canonical (s.sealWords m ws) := by
  induction ws generalizing s with
  | nil => exact h
  | cons w ws ih => exact ih h.eccClear.flipApply

theorem Canonical.memStore (h : Canonical s) {m o : Nat} {bs : List Byte} : Canonical (s.memStore m o bs).2 := by
  unfold State.memStore
  dsimp only
  split
  · exact h.partialCheck
  · exact h.partialCheck.setMemBytes.sealWords

theorem Canonical.memLoad (h : Canonical s) {m o n : Nat} :
    Canonical (s.memLoad m o n).2.2 := h.memReads

theorem Canonical.setLink (h : Canonical s) {c : Nat} {l : Link} :
    Canonical (s.setLink c l) := h

theorem Canonical.takeCell (h : Canonical s) :
    Canonical (s.takeCell).2 := h.frame.setLink

theorem Canonical.takeCells (h : Canonical s) {n : Nat} : Canonical (s.takeCells n).2 := by
  induction n generalizing s with
  | zero => exact h
  | succ n ih =>
    unfold State.takeCells
    dsimp only
    split
    · exact ih h.takeCell
    · exact (ih h.takeCell).setLink

theorem Canonical.allocAbove (h : Canonical s) {floor len : Nat} :
    Canonical (s.allocAbove floor len).2 := by
  unfold State.allocAbove
  split
  · exact h.takeCells
  · exact h.bump.raise

theorem Canonical.alloc (h : Canonical s) {len : Nat} :
    Canonical (s.alloc len).2 := h.allocAbove

theorem Canonical.allocFloor (h : Canonical s) {len : Nat} :
    Canonical (s.allocFloor len).2 := h.allocAbove

theorem Canonical.doubleFree (h : Canonical s) {c : Nat} :
    Canonical (s.doubleFree c) := h.bump.raise.siltPost

theorem Canonical.freeWalk (h : Canonical s) {n c : Nat} : Canonical (s.freeWalk n c) := by
  induction n generalizing s c with
  | zero => exact h
  | succ n ih =>
    unfold State.freeWalk
    dsimp only
    split
    · exact h.doubleFree
    · split
      · exact h.fresh.setLink
      · exact ih h.fresh.setLink

theorem Canonical.freeChain (h : Canonical s) {c : Nat} :
    Canonical (s.freeChain c) := h.freeWalk

theorem Canonical.writeFrame (h : Canonical s) {cs : List Nat} {o : Nat} {bs : List (List Byte)} :
    Canonical (s.writeFrame cs o bs) := by
  induction bs generalizing s o with
  | nil => exact h
  | cons b bs ih => exact Canonical.ite h (ih h.memWrite)

theorem Canonical.putFrame (h : Canonical s) {cs : List Nat} {bs : List Byte} :
    Canonical (s.putFrame cs bs) := h.writeFrame

theorem Canonical.readWords (h : Canonical s) {cs : List Nat} {o n : Nat} : Canonical (s.readWords cs o n).2.2 := by
  induction n generalizing s o with
  | zero => exact h
  | succ n ih =>
    unfold State.readWords
    split
    · exact h
    · exact ih h.memRead

theorem Canonical.getFrame (h : Canonical s) {cs : List Nat} {len : Nat} :
    Canonical (s.getFrame cs len).2.2 := h.readWords

theorem Canonical.setRunnel (h : Canonical s) {n : Nat} {r : Runnel} :
    Canonical (s.setRunnel n r) := h

theorem Canonical.setRunTurn (h : Canonical s) {n : Nat} {u : RunTurn} :
    Canonical (s.setRunTurn n u) := h

theorem Canonical.crossing (h : Canonical s) {notice count : Fld} {n : Nat} {was : Word} {crossed : Bool} :
    Canonical (s.crossing notice count n was crossed) :=
    Canonical.ite (Canonical.ite h.noteEvent.setFld h.raise) (Canonical.ite h.setFld (h.on (fun _ hu => hu.retract)))

theorem Canonical.judgeMarks (h : Canonical s) {n : Nat} :
    Canonical (s.judgeMarks n) := h.crossing.crossing

theorem Canonical.land (h : Canonical s) {n : Nat} {ws : List RunWord} {who : Nat} :
    Canonical (s.land n ws who) := h.setRunTurn.setRunnel.bump.judgeMarks

theorem Canonical.lostPush (h : Canonical s) {n : Nat} :
    Canonical (s.lostPush n) := h.bump.raise.siltPost

theorem Canonical.enginePush (h : Canonical s) {n : Nat} {ws : List RunWord} {req : Nat} :
    Canonical (s.enginePush n ws req) := Canonical.ite h.lostPush (Canonical.ite h.land h.setRunnel)

theorem Canonical.ringPush (h : Canonical s) {n : Nat} {ws : List RunWord} :
    Canonical (s.ringPush n ws) := Canonical.ite h.lostPush (Canonical.ite h.land h.setRunnel)

theorem Canonical.unqueue (h : Canonical s) {n k : Nat} :
    Canonical (s.unqueue n k).2 := h.setRunTurn.setRunnel.judgeMarks

theorem Canonical.noteBad (h : Canonical s) {n k : Nat} :
    Canonical (s.noteBad n k) := h.on (fun _ hu => hu.bump.raise)

theorem Canonical.popWords (h : Canonical s) {n k : Nat} :
    Canonical (s.popWords n k).2 := h.setRunTurn.setRunnel.judgeMarks.bump.noteBad

theorem Canonical.setFlashByte (h : Canonical s) {a : Nat} {b : Byte} :
    Canonical (s.setFlashByte a b) := h

theorem Canonical.flashProgram (h : Canonical s) {a : Nat} {bs : List Byte} : Canonical (s.flashProgram a bs) := by
  induction bs generalizing s a with
  | nil => exact h
  | cons b bs ih => exact ih h.setFlashByte

theorem Canonical.flashErase (h : Canonical s) {a n : Nat} :
    Canonical (s.flashErase a n) := h

theorem Canonical.flsResume (h : Canonical s) :
    Canonical (s.flsResume) := by
  unfold State.flsResume
  split
  · exact h.frame.setFld.setFld
  · exact h.setFld

theorem Canonical.flsServe (h : Canonical s) :
    Canonical (s.flsServe) := by
  unfold State.flsServe
  dsimp only
  split
  · exact h
  · split
    · exact Canonical.ite h.setFld h.flsResume
    · split
      · exact h.flsResume
      · split
        · exact h.frame.setFld
        · exact h

theorem Canonical.suspendErase (h : Canonical s) :
    Canonical (s.suspendErase) := by
  unfold State.suspendErase
  split
  · exact Canonical.ite h.frame.setFld h
  · exact h

theorem Canonical.flsYield (h : Canonical s) {src : Nat} :
    Canonical (s.flsYield src) := by
  unfold State.flsYield
  split
  · exact Canonical.ite h.frame h
  · exact h

theorem Canonical.flsQueue (h : Canonical s) {w : FlsOp} :
    Canonical (s.flsQueue w) := h.flsYield.frame.on (fun _ hu => hu.suspendErase)

theorem Canonical.setSiltAt (h : Canonical s) {sector slot : Nat} :
    Canonical (s.setSiltAt sector slot) := h.setFld.setFld

theorem Canonical.siltHeader (h : Canonical s) {seq : Nat} :
    Canonical (s.siltHeader seq).2 := h.frame

theorem Canonical.siltLayout (h : Canonical s) {sector slot seq : Nat} {rs : List (List Byte)} :
    Canonical (s.siltLayout sector slot seq rs).2 := by
  induction rs generalizing s sector slot seq with
  | nil => exact h
  | cons r rs ih =>
    unfold State.siltLayout
    dsimp only
    have hs : Canonical (if slot = 0 then s.siltHeader seq else ([], s)).2 := by
      split
      · exact h.siltHeader
      · exact h
    split
    · exact ih hs
    · exact ih hs

theorem Canonical.siltRecords (h : Canonical s) {slot n : Nat} : Canonical (s.siltRecords slot n).2 := by
  induction n generalizing s slot with
  | zero => exact h
  | succ n ih =>
    have hr : Canonical (s.memReads 7 (4 * (slot % 2048)) 4).2.2 := h.memReads
    unfold State.siltRecords
    dsimp only
    generalize s.memReads 7 (4 * (slot % 2048)) 4 = p at hr ⊢
    refine ih ?_
    split
    · exact hr.frame.bump.bump
    · exact hr

theorem Canonical.siltSubmit (h : Canonical s) {src : Nat} {rs : List (List Byte)} :
    Canonical (s.siltSubmit src rs) := h.siltLayout.foldl fun _ _ hu => hu.flsQueue

theorem Canonical.siltLoad (h : Canonical s) :
    Canonical (s.siltLoad) := Canonical.ite h.frame.siltSettle.siltRecords.siltSubmit h

theorem Canonical.flsSubmit (h : Canonical s) {w : FlsOp} :
    Canonical (s.flsSubmit w) := h.siltLoad.flsQueue.flsServe

theorem Canonical.flsEnd (h : Canonical s) :
    Canonical (s.flsEnd) := h.frame.flsServe

theorem Canonical.flsEffect (h : Canonical s) {w : FlsOp} :
    Canonical (s.flsEffect w) := by
  unfold State.flsEffect
  split
  · exact h
  · exact h.flashProgram
  · exact h.flashErase
  · exact h.flashErase

theorem Canonical.setPlmChain (h : Canonical s) {j : Nat} {c : PlmChain} :
    Canonical (s.setPlmChain j c) := h

theorem Canonical.setRill (h : Canonical s) {j n : Nat} {r : Rill} :
    Canonical (s.setRill j n r) := h

theorem Canonical.setTx (h : Canonical s) {j : Nat} {c : TxfChain} :
    Canonical (s.setTx j c) := h

theorem Canonical.setChainState (h : Canonical s) {j v : Nat} :
    Canonical (s.setChainState j v) := h.setFld.raise

theorem Canonical.chainAsk (h : Canonical s) {j : Nat} :
    Canonical (s.chainAsk j) := by
  unfold State.chainAsk
  split
  · exact Canonical.ite h.setPlmChain.setPlmChain (Canonical.ite h.setPlmChain.setPlmChain.raise (Canonical.ite h.setPlmChain (Canonical.ite
        h.setPlmChain.setPlmChain (h.setPlmChain.setPlmChain.on (fun _ hu => hu.bump)))))
  · exact h.setPlmChain
  · exact h.setPlmChain

theorem Canonical.rillRestart (h : Canonical s) {j n : Nat} :
    Canonical (s.rillRestart j n) := h.setRill.setFld

theorem Canonical.forRills (h : Canonical s) {f : State → Nat → State} (hf : ∀ u x, Canonical u → Canonical (f u x)) :
    Canonical (s.forRills f) := h.foldl fun _ _ hu => hf _ _ hu

theorem Canonical.setRx (h : Canonical s) {id : Nat} {f : RxFrame} :
    Canonical (s.setRx id f) := h

theorem Canonical.newJob (h : Canonical s) :
    Canonical (s.newJob).2 := h

theorem Canonical.closeRx (h : Canonical s) {j n : Nat} {how : RxClose} :
    Canonical (s.closeRx j n how) := by
  unfold State.closeRx
  split
  · split
    · split
      · exact h.frame.setRx.bump.rillRestart
      · exact h.rillRestart
    · exact h.rillRestart
  · exact h.rillRestart

theorem Canonical.endRx (h : Canonical s) {j n : Nat} {f : RxFrame} :
    Canonical (s.endRx j n f) := Canonical.ite h.closeRx h.closeRx.bump

theorem Canonical.cutRx (h : Canonical s) {j n id : Nat} :
    Canonical (s.cutRx j n id) := h.closeRx.bump.setRill

theorem Canonical.blankRill (h : Canonical s) {j n : Nat} :
    Canonical (s.blankRill j n) := by
  unfold State.blankRill
  split
  · split
    · exact Canonical.ite h.endRx h.cutRx
    · exact h.rillRestart
  · exact h.rillRestart.bump
  · exact h.rillRestart

theorem Canonical.blankChain (h : Canonical s) {j : Nat} :
    Canonical (s.blankChain j) := h.forRills (fun _ _ hu => hu.blankRill)

theorem Canonical.binAdd (h : Canonical s) {e n : Nat} :
    Canonical (s.binAdd e n) := h

theorem Canonical.noteLimits (h : Canonical s) :
    Canonical (s.noteLimits) := h.foldl fun _ _ hu => Canonical.ite hu.frame hu

theorem Canonical.nearMask (h : Canonical s) :
    Canonical (s.nearMask).2 := h.setFld

theorem Canonical.nearUpdate (h : Canonical s) :
    Canonical (s.nearUpdate) := h.setFld.on (fun _ hu => hu.raise)

theorem Canonical.nearSeen (h : Canonical s) :
    Canonical (s.nearSeen) := Canonical.ite h.nearUpdate h.nearUpdate.frame

theorem Canonical.meterOne (h : Canonical s) {m : Meter} :
    Canonical (s.meterOne m) := by
  unfold State.meterOne
  split
  · exact h.binAdd.frame
  · exact h.frame
  · exact h.frame

theorem Canonical.meterFollow (h : Canonical s) :
    Canonical (s.meterFollow) := h.frame.foldl fun _ _ hu => hu.meterOne

theorem Canonical.shadowReload (h : Canonical s) :
    Canonical (s.shadowReload) :=
        (h.nearSeen.setFld.setFld.foldl fun _ _ hu => hu.setFld.setFld.setFld.setFld.setFld.setFld.setFld.setFld.setFld).meterFollow.noteLimits.nearUpdate

theorem Canonical.digestReload (h : Canonical s) :
    Canonical (s.digestReload) := h.foldl fun _ _ hu => hu.setFld

theorem Canonical.noteRefusal (h : Canonical s) {e reason j k : Nat} {atCommit : Bool} :
    Canonical (s.noteRefusal e reason j k atCommit) := h.setFld.setFld.setFld.setFld.setFld.bump.raise

theorem Canonical.weirReserve (h : Canonical s) {es : List Nat} {a : Nat} :
    Canonical (s.weirReserve es a) := h.foldl fun _ _ hu => hu.setFld

theorem Canonical.noteApproval (h : Canonical s) {es : List Nat} :
    Canonical (s.noteApproval es) := h.foldl fun _ _ hu => hu.bump

theorem Canonical.unnoteApproval (h : Canonical s) {es : List Nat} :
    Canonical (s.unnoteApproval es) := h.foldl fun _ _ hu => hu.unbump

theorem Canonical.weirReturn (h : Canonical s) {es : List Nat} {a : Nat} :
    Canonical (s.weirReturn es a) := h.foldl fun _ _ hu => hu.setFld

theorem Canonical.weirRelease (h : Canonical s) {es : List Nat} {a : Nat} :
    Canonical (s.weirRelease es a) := h.frame.weirReturn

theorem Canonical.meterStart (h : Canonical s) {id : Nat} {es : List Nat} :
    Canonical (s.meterStart id es) := h.foldl fun _ _ hu => hu.frame

theorem Canonical.meterLeave (h : Canonical s) {id : Nat} {m : Meter} :
    Canonical (s.meterLeave id m) := Canonical.ite h.binAdd h.frame

theorem Canonical.meterStop (h : Canonical s) {id : Nat} :
    Canonical (s.meterStop id) := h.frame.foldl fun _ _ hu => hu.meterLeave

theorem Canonical.meterFlush (h : Canonical s) :
    Canonical (s.meterFlush) := h.frame.foldl fun _ _ hu => hu.binAdd.frame

theorem Canonical.fuseBlow (h : Canonical s) {req : Nat} :
    Canonical (s.fuseBlow req) := Canonical.ite h (Canonical.ite h.raise h.frame.setFld)

theorem execFuseBlow_canonical (h : Canonical s) {req : Nat} :
    OutCanonical (execFuseBlow req s) := (h.powered (fun _ hu => hu.fuseBlow)).next

theorem Canonical.fuseEnd (h : Canonical s) {b t : Nat} :
    Canonical (s.fuseEnd b t) := h.advanceTo.frame.advanceTo.shadowReload.setFld.raise

theorem execDigestDone_canonical (h : Canonical s) :
    OutCanonical (execDigestDone s) := by
  unfold execDigestDone
  split
  · exact h.frame.advanceTo.digestReload.next
  · exact h.next

theorem execCharterLoaded_canonical (h : Canonical s) :
    OutCanonical (execCharterLoaded s) := OutCanonical.ite h.advanceTo.shadowReload.digestReload.setFld.next h.next

theorem execBinRotation_canonical (h : Canonical s) :
    OutCanonical (execBinRotation s) := (h.advanceTo.nearSeen.meterFlush.frame.foldl fun _ _ hu => hu.frame).noteLimits.nearUpdate.next

theorem Canonical.coldFill (h : Canonical s) :
    Canonical (s.coldFill) := (h.frame.on (fun _ hu => hu.foldl fun _ _ hv => hv.foldl fun _ _ hw => hw.frame)).noteLimits.raise.siltPost

theorem Canonical.swlimSet (h : Canonical s) {e : Nat} {d : Word} :
    Canonical (s.swlimSet e d) := h.nearSeen.setReg.meterFollow.noteLimits.nearUpdate

theorem Canonical.chtNearWrite (h : Canonical s) {e : Nat} {d : Word} :
    Canonical (s.chtNearWrite e d) := h.nearSeen.setFld.nearUpdate

theorem Canonical.pushTxDone (h : Canonical s) {d : TxDesc} {status launch asn rssi : Nat} :
    Canonical (s.pushTxDone d status launch asn rssi) := Canonical.ite h h.enginePush

theorem Canonical.setShared (h : Canonical s) {g : Nat} {c : SharedChain} :
    Canonical (s.setShared g c) := h

theorem Canonical.newShared (h : Canonical s) {cell n : Nat} :
    Canonical (s.newShared cell n).2 := h.frame.setShared

theorem Canonical.sharedDone (h : Canonical s) {g : Nat} {ok : Bool} :
    Canonical (s.sharedDone g ok).2 := by
  unfold State.sharedDone
  dsimp only
  split
  · exact h.frame.freeChain
  · exact h.setShared

theorem Canonical.setSpw (h : Canonical s) {k : Nat} {v : SpwSession} :
    Canonical (s.setSpw k v) := h

theorem Canonical.spwBudget (h : Canonical s) {k : Nat} :
    Canonical (s.spwBudget k) := h.setSpw.raise

theorem Canonical.spwCopyDone (h : Canonical s) {k g : Nat} {st : Status} :
    Canonical (s.spwCopyDone k g st) := by
  unfold State.spwCopyDone
  dsimp only
  exact ((h.on (fun _ hu => hu.bump)).on (fun _ hu => hu.spwBudget)).sharedDone.on (fun _ hu => hu.bump)

theorem Canonical.bcnCopyDone (h : Canonical s) {g : Nat} {st : Status} :
    Canonical (s.bcnCopyDone g st) := (Canonical.ite h.bump h.bump.raise).sharedDone

theorem Canonical.ackFail (h : Canonical s) :
    Canonical (s.ackFail) := h.bump.raise

theorem Canonical.takeoverDone (h : Canonical s) {st : Status} :
    Canonical (s.takeoverDone st) := Canonical.ite h.frame (h.frame.raise.on (fun _ hu => hu.frame.setFld))

theorem Canonical.freeDesc (h : Canonical s) {d : TxDesc} :
    Canonical (s.freeDesc d) := h.on (fun _ hu => hu.freeChain)

theorem Canonical.deliverTx (h : Canonical s) {o : TxOrigin} {d : TxDesc} {st : Status} {launch asn rssi : Nat} {frees : Bool} :
    Canonical (s.deliverTx o d st launch asn rssi frees) := by
  unfold State.deliverTx
  split
  · exact ((h.on (fun _ hu => hu.siltInternal)).on (fun _ hu => hu.freeDesc)).pushTxDone
  · exact ((h.on (fun _ hu => hu.siltInternal)).on (fun _ hu => hu.freeDesc)).pushTxDone
  · exact Canonical.ite ((h.on (fun _ hu => hu.siltInternal)).on (fun _ hu => hu.freeDesc)).bump ((h.on (fun _ hu => hu.siltInternal)).on
        (fun _ hu => hu.freeDesc)).ackFail
  · exact (h.on (fun _ hu => hu.siltInternal)).bcnCopyDone
  · exact (h.on (fun _ hu => hu.siltInternal)).spwCopyDone
  · exact ((h.on (fun _ hu => hu.siltInternal)).on (fun _ hu => hu.freeDesc)).takeoverDone

theorem Canonical.setFrames (h : Canonical s) {j : Nat} {fs : List TxFrame} :
    Canonical (s.setFrames j fs) := h.setTx

theorem Canonical.putTx (h : Canonical s) {j : Nat} {f : TxFrame} :
    Canonical (s.putTx j f) := h.setFrames

theorem Canonical.idleTouch (h : Canonical s) {before : State} {j : Nat} : Canonical (s.idleTouch before j) :=
  h.on (fun _ hu => hu.setTx)

theorem Canonical.coexUpdate (h : Canonical s) {g : Nat} :
    Canonical (s.coexUpdate g) := Canonical.ite h h.setFld.setFld

theorem Canonical.coexEnd (h : Canonical s) {j : Nat} {f : TxFrame} :
    Canonical (s.coexEnd j f) := by
  unfold State.coexEnd
  split
  · exact (h.on (fun _ hu => hu.setTx)).coexUpdate
  · exact h

theorem Canonical.countTx (h : Canonical s) {j : Nat} {st : Status} :
    Canonical (s.countTx j st) := by
  unfold State.countTx
  split
  · exact h.bump.raise
  · exact h.bump.raise
  · exact h.bump.raise
  · exact h.bump
  · exact h

theorem Canonical.completeTx (h : Canonical s) {j : Nat} {f : TxFrame} {st : Status} {rssi : Nat} {frees : Bool} :
    Canonical (s.completeTx j f st rssi frees) := h.nearSeen.setFrames.coexEnd.weirRelease.nearUpdate.countTx.deliverTx.idleTouch

theorem Canonical.noAck (h : Canonical s) {j : Nat} {f : TxFrame} {rssi : Nat} :
    Canonical (s.noAck j f rssi) := h.bump.completeTx

theorem Canonical.dropWord (h : Canonical s) {m w : Nat} :
    Canonical (s.dropWord m w) := h.memWrite.bump

theorem Canonical.mirrorPost (h : Canonical s) {cls idx : Nat} {ws : List Word} :
    Canonical (s.mirrorPost cls idx ws) := Canonical.ite (Canonical.ite h.frame (Canonical.ite h.frame h.frame)) h

theorem Canonical.keyGroups (h : Canonical s) {n : Nat} : Canonical (s.keyGroups n) := by
  induction n generalizing s with
  | zero => exact h
  | succ n ih => exact Canonical.ite (ih h.popWords.mirrorPost) h

theorem Canonical.setPoint (h : Canonical s) {k : Nat} {p : EddyPoint} :
    Canonical (s.setPoint k p) := h

theorem Canonical.next32 (h : Canonical s) {k : Nat} :
    Canonical (s.next32 k).2 := h.setPoint

theorem Canonical.eddyCount (h : Canonical s) :
    Canonical (s.eddyCount) := h.bump

theorem Canonical.passPoint (h : Canonical s) {k : Nat} {f : Passing} :
    Canonical (s.passPoint k f).2 := by
  unfold State.passPoint
  split
  · exact h
  · split <;> exact h.setPoint

theorem Canonical.eddyCorrupt (h : Canonical s) {k r : Nat} {fix : List Byte → List Byte} {f : Passing} :
    Canonical (s.eddyCorrupt k r fix f).2 := by
  unfold State.eddyCorrupt
  split
  · exact h.setPoint.eddyCount
  · exact h

theorem Canonical.eddyAt (h : Canonical s) {k : Nat} {fix : List Byte → List Byte} {f : Passing} :
    Canonical (s.eddyAt k fix f).2 := by
  unfold State.eddyAt
  dsimp only
  split
  · exact h
  · split
    · exact h.next32.eddyCount
    · split
      · exact h.next32.eddyCorrupt.next32.setPoint.eddyCount
      · exact h.next32.eddyCorrupt.next32.passPoint

theorem Canonical.unhold (h : Canonical s) {k : Nat} :
    Canonical (s.unhold k).2 := by
  unfold State.unhold
  split
  · exact h.setPoint
  · exact h

end Sys2Proof.Machine
end

section
/-! PROOFS. The canonical form is kept by the radio and the MAC. -/

namespace Sys2Proof.Machine

variable {s t : State}

theorem Canonical.after (h : Canonical s) {dt : Nat} :
    Canonical (s.after dt) := h.advance

theorem Canonical.filtered (h : Canonical s) {no yes held : Nat} :
    Canonical (s.filtered no yes held).2 := by
  unfold State.filtered
  split
  · exact h
  · split
    · exact h
    · exact h.frame

theorem Canonical.clip (h : Canonical s) {j : Nat} {evt cnt : Fld} :
    Canonical (s.clip j evt cnt) := h.bump.raise

theorem execClipInterval_canonical (h : Canonical s) {dt j : Nat} {a b : Bool} :
    OutCanonical (execClipInterval dt j a b s) := (h.after.on (fun _ hu => (hu.on (fun _ hv => hv.clip)).on (fun _ hv => hv.clip))).next

theorem Canonical.plmWindowWrite (h : Canonical s) {j : Nat} {d : Word} :
    Canonical (s.plmWindowWrite j d) := Canonical.ite h.raise h.setFld.chainAsk

theorem execPlmWindowWrite_canonical (h : Canonical s) {j : Nat} {d : Word} :
    OutCanonical (execPlmWindowWrite j d s) := (h.powered (fun _ hu => hu.plmWindowWrite)).next

theorem Canonical.plmChainCtlWrite (h : Canonical s) {j : Nat} {d : Word} :
    Canonical (s.plmChainCtlWrite j d) := h.setFld.setFld.setFld.chainAsk

theorem execPlmChainCtlWrite_canonical (h : Canonical s) {j : Nat} {d : Word} :
    OutCanonical (execPlmChainCtlWrite j d s) := (h.powered (fun _ hu => hu.plmChainCtlWrite)).next

theorem execChainPrimed_canonical (h : Canonical s) {j : Nat} :
    OutCanonical (execChainPrimed j s) := by
  unfold execChainPrimed
  split
  · exact OutCanonical.ite h.advanceTo.setPlmChain.setFld.setFld.setFld.setChainState.next h.next
  · exact h.next

theorem execChainListening_canonical (h : Canonical s) {j : Nat} :
    OutCanonical (execChainListening j s) :=
    OutCanonical.ite (h.advanceTo.setChainState.forRills (fun _ _ hu => Canonical.ite hu.rillRestart hu)).next h.next

theorem execChainLeaveListening_canonical (h : Canonical s) {j : Nat} :
    OutCanonical (execChainLeaveListening j s) := OutCanonical.ite (h.endCycle.setChainState.forRills (fun _ _ hu => hu.rillRestart)).next h.next

theorem execChainParked_canonical (h : Canonical s) {j : Nat} :
    OutCanonical (execChainParked j s) := OutCanonical.ite (h.frame.after.setChainState.setFld.on (fun _ hu => hu.setFld.setFld)).next h.next

theorem Canonical.rillEnable (h : Canonical s) {j n : Nat} :
    Canonical (s.rillEnable j n) := Canonical.ite (Canonical.ite h.setFld.setFld.rillRestart h.setFld.setFld) h.setFld.raise

theorem Canonical.rillDisable (h : Canonical s) {j n : Nat} :
    Canonical (s.rillDisable j n) := by
  unfold State.rillDisable
  dsimp only
  split
  · exact h.setFld
  · exact Canonical.ite h.setFld.rillRestart.uncount h.setFld.rillRestart.bump
  · exact h.setFld.rillRestart

theorem Canonical.rillCfgWrite (h : Canonical s) {j n : Nat} {d : Word} :
    Canonical (s.rillCfgWrite j n d) := by
  unfold State.rillCfgWrite
  dsimp only
  split
  · exact (Canonical.ite h (Canonical.ite h.setReg h.raise)).rillEnable
  · exact (Canonical.ite h (Canonical.ite h.setReg h.raise)).rillDisable
  · exact Canonical.ite h (Canonical.ite h.setReg h.raise)

theorem Canonical.rillParamWrite (h : Canonical s) {id : RegId} {mask : Word} {j n : Nat} {d : Word} :
    Canonical (s.rillParamWrite id mask j n d) := Canonical.ite h.setReg h.raise

theorem Canonical.rillFreqWrite (h : Canonical s) {j n : Nat} {d : Word} :
    Canonical (s.rillFreqWrite j n d) := h.rillParamWrite

theorem Canonical.rillLimWrite (h : Canonical s) {j n : Nat} {d : Word} :
    Canonical (s.rillLimWrite j n d) := h.rillParamWrite

theorem execRillEnable_canonical (h : Canonical s) {j n : Nat} {d : Word} :
    OutCanonical (execRillEnable j n d s) := (h.powered (fun _ hu => hu.rillCfgWrite)).next

theorem execRillDisable_canonical (h : Canonical s) {j n : Nat} {d : Word} :
    OutCanonical (execRillDisable j n d s) := (h.powered (fun _ hu => hu.rillCfgWrite)).next

theorem execRillConfigWrite_canonical (h : Canonical s) {which j n : Nat} {d : Word} :
    OutCanonical (execRillConfigWrite which j n d s) := by
  unfold execRillConfigWrite
  split
  · exact (h.powered (fun _ hu => hu.rillCfgWrite)).next
  · exact (h.powered (fun _ hu => hu.rillFreqWrite)).next
  · exact (h.powered (fun _ hu => hu.rillLimWrite)).next

theorem Canonical.phyModeWrite (h : Canonical s) {m : Nat} {d : Word} :
    Canonical (s.phyModeWrite m d) := Canonical.ite h.raise h.setReg

theorem execPhyModeWrite_canonical (h : Canonical s) {m : Nat} {d : Word} :
    OutCanonical (execPhyModeWrite m d s) := (h.powered (fun _ hu => hu.phyModeWrite)).next

theorem execPreambleDetect_canonical (h : Canonical s) {dt j n : Nat} {ps : List (Nat × Nat)} {snrA snrB : List Int} :
    OutCanonical (execPreambleDetect dt j n ps snrA snrB s) := by
  unfold execPreambleDetect
  dsimp only
  split
  · exact OutCanonical.ite h.after.setRill.setFld.setFld.setFld.bump.next h.after.next
  · exact h.after.next

theorem Canonical.fixAerial (h : Canonical s) {j n : Nat} {c : Claim} {toB : Bool} :
    Canonical (s.fixAerial j n c toB) := h.setRill.setFld

theorem execAerialChoice_canonical (h : Canonical s) {j n k : Nat} {mA mB : Int} :
    OutCanonical (execAerialChoice j n k mA mB s) := by
  unfold execAerialChoice
  split
  · exact OutCanonical.ite (OutCanonical.ite h.advanceTo.fixAerial.next (OutCanonical.ite h.advanceTo.fixAerial.next h.advanceTo.next)) h.next
  · exact h.next

theorem execAerialChoiceForced_canonical (h : Canonical s) {dt j n : Nat} {mA mB : Int} :
    OutCanonical (execAerialChoiceForced dt j n mA mB s) := by
  unfold execAerialChoiceForced
  dsimp only
  split
  · exact OutCanonical.ite h.after.advanceTo.fixAerial.next h.after.next
  · exact h.after.next

theorem execSfdTimeout_canonical (h : Canonical s) {dt j n : Nat} :
    OutCanonical (execSfdTimeout dt j n s) := by
  unfold execSfdTimeout
  split
  · exact OutCanonical.ite (Canonical.ite h.after h.advanceTo).rillRestart.bump.next h.next
  · exact h.next

theorem execSfdFound_canonical (h : Canonical s) {dt j n : Nat} {mA mB err pwr snr8 foHz : Int} :
    OutCanonical (execSfdFound dt j n mA mB err pwr snr8 foHz s) := by
  unfold execSfdFound
  dsimp only
  split
  · exact OutCanonical.ite (Canonical.ite h.after h.after.fixAerial).fresh.setRill.next h.after.next
  · exact h.after.next

theorem Canonical.phrReject (h : Canonical s) {j n : Nat} :
    Canonical (s.phrReject j n) := h.rillRestart.bump

theorem execPhrReceived_canonical (h : Canonical s) {dt j n len mcs : Nat} {modeSwitch checkOk fcs32 : Bool} :
    OutCanonical (execPhrReceived dt j n len mcs modeSwitch checkOk fcs32 s) := by
  unfold execPhrReceived
  dsimp only
  split
  · split
    · split
      · split
        · exact h.after.phrReject.next
        · split
          · next heq => exact (h.after.alloc.of_snd heq).rillRestart.bump.raise.next
          · next heq => exact (h.after.alloc.of_snd heq).frame.setRx.setRill.setFld.bump.next
      · exact h.after.next
    · exact h.after.next
  · exact h.after.next

theorem Canonical.putByte (h : Canonical s) {id : Nat} {f : RxFrame} {b : Byte} :
    Canonical (s.putByte id f b) := h.setRx.memWrite

theorem Canonical.lastByte (h : Canonical s) {j n : Nat} {b : Byte} :
    Canonical (s.lastByte j n b) := by
  unfold State.lastByte
  split
  · split
    · exact Canonical.ite ((h.putByte.setRx.on (fun _ hu => hu.uncount)).setRill.on (fun _ hu => hu.bump)) h
    · exact h
  · exact h

theorem execPsduByte_canonical (h : Canonical s) {dt j n : Nat} {b : Byte} :
    OutCanonical (execPsduByte dt j n b s) := by
  unfold execPsduByte
  dsimp only
  split
  · exact OutCanonical.ite h.after.putByte.next h.after.next
  · exact h.after.lastByte.next

theorem execFrameEnd_canonical (h : Canonical s) {dt j n : Nat} :
    OutCanonical (execFrameEnd dt j n s) := by
  unfold execFrameEnd
  dsimp only
  split
  · exact OutCanonical.ite h.after.endRx.next h.after.next
  · exact h.after.next

theorem Canonical.calRefresh (h : Canonical s) {j : Nat} :
    Canonical (s.calRefresh j) := h.setFld.setFld

theorem Canonical.sense (h : Canonical s) {temp : Int} :
    Canonical (s.sense temp) := h.frame.foldl fun _ _ hu => hu.calRefresh

theorem Canonical.pinsEnd (h : Canonical s) {j e lag : Nat} :
    Canonical (s.pinsEnd j e lag) := h.setTx

theorem Canonical.recall (h : Canonical s) {j : Nat} {f : TxFrame} {st : Status} {frees : Bool} :
    Canonical (s.recall j f st frees) := h.pinsEnd.completeTx

theorem Canonical.readFrame (h : Canonical s) {cells : List Nat} {d : TxDesc} :
    Canonical (s.readFrame cells d).2.2.2 := h.readWords.readWords

theorem Canonical.takeoverStart (h : Canonical s) {air : Nat} :
    Canonical (s.takeoverStart air) := Canonical.ite h.frame.setFld.raise.bump h

theorem Canonical.rfStart (h : Canonical s) {j : Nat} {f : TxFrame} :
    Canonical (s.rfStart j f) := by
  unfold State.rfStart
  split
  · exact h.recall
  · exact Canonical.ite h.readWords.readWords.recall (h.readWords.readWords.frame.putTx.meterStart.nearUpdate.on (fun _ hu => hu.takeoverStart))

theorem Canonical.rfStartDue (h : Canonical s) {j : Nat} :
    Canonical (s.rfStartDue j) := h.foldl fun _ _ hu => hu.rfStart

theorem Canonical.rampDown (h : Canonical s) {j : Nat} {f : TxFrame} {st : Status} :
    Canonical (s.rampDown j f st) := Canonical.ite h h.frame.meterStop.putTx.nearUpdate

theorem Canonical.abortLive (h : Canonical s) {j : Nat} {st : Status} :
    Canonical (s.abortLive j st) := h.foldl fun _ _ hu => Canonical.ite (Canonical.ite hu.rampDown hu) (Canonical.ite hu.recall hu)

theorem Canonical.lockFall (h : Canonical s) {j : Nat} :
    Canonical (s.lockFall j) := Canonical.ite (h.rfStartDue.setFld.abortLive.on (fun _ hu => hu.raise)) h

theorem Canonical.retune (h : Canonical s) {j : Nat} {full : Bool} :
    Canonical (s.retune j full) := (h.lockFall.setFld.on (fun _ hu => hu.setFld)).setTx

theorem Canonical.paDrop (h : Canonical s) {j : Nat} :
    Canonical (s.paDrop j) := h.setTx.foldl fun _ _ hu => hu.coexUpdate

theorem Canonical.txswDrop (h : Canonical s) {j : Nat} :
    Canonical (s.txswDrop j) := h.setTx

theorem Canonical.txOffNow (h : Canonical s) {j : Nat} :
    Canonical (s.txOffNow j) := ((h.lockFall.on (fun _ hu => hu.paDrop)).on (fun _ hu => hu.setTx.txswDrop)).setFld.setFld.setFld.setTx

theorem Canonical.applyWindow (h : Canonical s) {j khz : Nat} :
    Canonical (s.applyWindow j khz) :=
    Canonical.ite (h.setTx.calRefresh.raise.on (fun _ hu => hu.txOffNow)) (h.setTx.calRefresh.on (fun _ hu => hu.retune))

theorem Canonical.startWindow (h : Canonical s) {j : Nat} :
    Canonical (s.startWindow j) := by
  unfold State.startWindow
  split
  · exact h.applyWindow
  · exact h

theorem Canonical.applyCal (h : Canonical s) {j : Nat} :
    Canonical (s.applyCal j) := Canonical.ite h.setTx.setTx.calRefresh h.setTx.retune

theorem Canonical.applyHeld (h : Canonical s) {j : Nat} :
    Canonical (s.applyHeld j) := Canonical.ite h (h.startWindow.on (fun _ hu => hu.applyCal))

theorem Canonical.synWindowWrite (h : Canonical s) {j : Nat} {d : Word} :
    Canonical (s.synWindowWrite j d) := Canonical.ite h.setFld.setTx (Canonical.ite h.setFld.setTx.raise h.setFld.applyWindow)

theorem Canonical.synCtlWrite (h : Canonical s) {j : Nat} {d : Word} :
    Canonical (s.synCtlWrite j d) := Canonical.ite h.setFld (Canonical.ite h.setFld.setTx.raise h.setFld.applyCal)

theorem execSynWindowWrite_canonical (h : Canonical s) {j : Nat} {d : Word} :
    OutCanonical (execSynWindowWrite j d s) := (h.powered (fun _ hu => hu.synWindowWrite)).next

theorem execCal_canonical (h : Canonical s) {j : Nat} {tempCalEn : Bool} :
    OutCanonical (execCal j tempCalEn s) := (h.powered (fun _ hu => hu.synCtlWrite)).next

theorem execSynLock_canonical (h : Canonical s) {j : Nat} {temp : Int} :
    OutCanonical (execSynLock j temp s) := by
  unfold execSynLock
  split
  · exact (((h.advanceTo.sense.setFld.setFld.on (fun _ hu => hu.setFld)).on (fun _ hu => hu.setFld.bump)).setTx.on
        (fun _ hu => hu.setFld)).calRefresh.next
  · exact h.next

theorem execSynFault_canonical (h : Canonical s) {j : Nat} :
    OutCanonical (execSynFault j s) := by
  unfold execSynFault
  split
  · exact h.advanceTo.setTx.setFld.setFld.raise.next
  · exact h.next

theorem Canonical.calPostpone (h : Canonical s) {j : Nat} :
    Canonical (s.calPostpone j) := h.on (fun _ hu => hu.setTx.bump)

theorem execTempCalDue_canonical (h : Canonical s) {dt j : Nat} {temp : Int} :
    OutCanonical (execTempCalDue dt j temp s) := OutCanonical.ite h.after.sense.setFld.calPostpone.next h.after.sense.next

theorem execTempCalStart_canonical (h : Canonical s) {dt j : Nat} :
    OutCanonical (execTempCalStart dt j s) := OutCanonical.ite h.after.endCycle.retune.next h.calPostpone.next

theorem execCalStarved_canonical (h : Canonical s) {j : Nat} :
    OutCanonical (execCalStarved j s) := by
  unfold execCalStarved
  dsimp only
  split
  · exact OutCanonical.ite h.next h.advanceTo.setTx.raise.siltPost.next
  · exact h.next

theorem execTxWake_canonical (h : Canonical s) {j : Nat} {temp : Int} : OutCanonical (execTxWake j temp s) := by
  unfold execTxWake
  dsimp only
  split
  · exact h.next
  · split
    · next t heq =>
      have ht : Canonical t := by
        split at heq
        · exact Option.some.inj heq ▸ h
        · obtain ⟨d, -, rfl⟩ := Option.map_eq_some_iff.mp heq
          exact h.advanceToFull
      exact OutCanonical.ite ht.startWindow.raise.next ht.startWindow.sense.setFld.setTx.retune.next
    · exact h.next

theorem execTxOff_canonical (h : Canonical s) {j : Nat} :
    OutCanonical (execTxOff j s) := by
  unfold execTxOff
  split
  · exact OutCanonical.ite h.advanceTo.txOffNow.next h.next
  · exact h.next

theorem Canonical.txChainCtlWrite (h : Canonical s) {j : Nat} {d : Word} :
    Canonical (s.txChainCtlWrite j d) := h.setReg.idleTouch

theorem Canonical.uncommit (h : Canonical s) {j : Nat} {f : TxFrame} {st : Status} :
    Canonical (s.uncommit j f st) := h.completeTx.on (fun _ hu => hu.setTx)

theorem Canonical.unreserve (h : Canonical s) {j : Nat} {f : TxFrame} :
    Canonical (s.unreserve j f) := (h.weirReturn.on (fun _ hu => hu.unnoteApproval)).putTx

theorem Canonical.unapprove (h : Canonical s) {j : Nat} {f : TxFrame} {st : Status} {e r : Nat} :
    Canonical (s.unapprove j f st e r) := Canonical.ite h.frame.setFrames h.noteRefusal.completeTx

theorem Canonical.rejudge (h : Canonical s) {j : Nat} {f : TxFrame} {luck : Bool} :
    Canonical (s.rejudge j f luck) := by
  unfold State.rejudge
  dsimp only
  split
  · exact h.unreserve.unapprove
  · split
    · exact h.unreserve.unapprove
    · exact (h.unreserve.on (fun _ hu => hu.noteApproval)).putTx.weirReserve

theorem Canonical.recheckOne (h : Canonical s) {j : Nat} {f : TxFrame} :
    Canonical (s.recheckOne j f) := by
  unfold State.recheckOne
  dsimp only
  split
  · split
    · exact h.fresh.noteRefusal.uncommit
    · exact h.fresh
  · exact Canonical.ite h.fresh.rejudge h.fresh

theorem Canonical.recheck (h : Canonical s) :
    Canonical (s.recheck) := h.foldl fun _ _ hu => hu.foldl fun _ _ hv => hv.recheckOne

theorem Canonical.chtSwlimWrite (h : Canonical s) {e : Nat} {d : Word} :
    Canonical (s.chtSwlimWrite e d) := h.swlimSet.recheck

theorem execFuseDone_canonical (h : Canonical s) :
    OutCanonical (execFuseDone s) := by
  unfold execFuseDone
  split
  · exact h.fuseEnd.recheck.next
  · exact h.next

theorem Canonical.carEnable (h : Canonical s) {j k : Nat} :
    Canonical (s.carEnable j k) := Canonical.ite h.setFld.setFld.recheck h.setFld.raise

theorem Canonical.carDisable (h : Canonical s) {j k : Nat} :
    Canonical (s.carDisable j k) := h.setFld.foldl fun _ _ hu => hu.uncommit

theorem Canonical.carCfgWrite (h : Canonical s) {j k : Nat} {d : Word} :
    Canonical (s.carCfgWrite j k d) := by
  unfold State.carCfgWrite
  dsimp only
  split
  · exact (Canonical.ite h (Canonical.ite h.setReg h.raise)).carEnable
  · exact (Canonical.ite h (Canonical.ite h.setReg h.raise)).carDisable
  · exact Canonical.ite h (Canonical.ite h.setReg h.raise)

theorem Canonical.carFreqWrite (h : Canonical s) {j k : Nat} {d : Word} :
    Canonical (s.carFreqWrite j k d) := Canonical.ite h.setReg h.raise

theorem execCarrierEnable_canonical (h : Canonical s) {j k : Nat} {d : Word} :
    OutCanonical (execCarrierEnable j k d s) := (h.powered (fun _ hu => hu.carCfgWrite)).next

theorem execCarrierConfigWrite_canonical (h : Canonical s) {freq : Bool} {j k : Nat} {d : Word} :
    OutCanonical (execCarrierConfigWrite freq j k d s) :=
    OutCanonical.ite (h.powered (fun _ hu => hu.carFreqWrite)).next (h.powered (fun _ hu => hu.carCfgWrite)).next

theorem Canonical.issueProtect (h : Canonical s) {j : Nat} {f : TxFrame} :
    Canonical (s.issueProtect j f) := by
  unfold State.issueProtect
  dsimp only
  split
  · exact h
  · split
    · exact Canonical.ite h.newJob.setShared h.newJob
    · exact h.newJob.putTx

theorem Canonical.hold (h : Canonical s) {o : TxOrigin} {d : TxDesc} {ms : Option (Nat × Nat)} {es : List Nat} {a : Nat} :
    Canonical (s.hold o d ms es a).2 := h.weirReserve.setFrames.frame.calPostpone

theorem Canonical.settleFailed (h : Canonical s) {j : Nat} {f : TxFrame} :
    Canonical (s.settleFailed j f) := by
  unfold State.settleFailed
  split
  · exact h.completeTx
  · exact h

theorem Canonical.takeDesc (h : Canonical s) {o : TxOrigin} {d : TxDesc} {ms : Option (Nat × Nat)} :
    Canonical (s.takeDesc o d ms) := by
  unfold State.takeDesc
  dsimp only
  split
  · exact h.fresh.deliverTx
  · exact h.fresh.endCycle.noteRefusal.deliverTx
  · exact h.fresh.endCycle.noteRefusal.deliverTx
  · exact h.fresh.hold.noteApproval.nearUpdate.issueProtect.settleFailed

theorem Canonical.takeSpec (h : Canonical s) {n tid : Nat} {d : TxDesc} :
    Canonical (s.takeSpec n tid d) := by
  unfold State.takeSpec
  dsimp only
  split
  · exact h.nearSeen.fresh.frame
  · exact h.nearSeen.fresh.endCycle.frame
  · exact h.nearSeen.fresh.endCycle.frame
  · exact h.nearSeen.fresh.hold.nearMask.frame

theorem Canonical.place (h : Canonical s) {p : Placed} :
    Canonical (s.place p) := h

theorem Canonical.setInbox (h : Canonical s) {ps : List Placed} :
    Canonical (s.setInbox ps) := h

theorem Canonical.takePlaced (h : Canonical s) {p : Placed} :
    Canonical (s.takePlaced p) := by
  unfold State.takePlaced
  split
  · exact h.takeSpec
  · exact h.takeDesc

theorem Canonical.takeRunnel (h : Canonical s) {n : Nat} :
    Canonical (s.takeRunnel n) :=
    Canonical.ite h.setRunTurn.setRunnel.judgeMarks.bump.noteBad.deliverTx h.setRunTurn.setRunnel.judgeMarks.bump.noteBad.takeDesc

theorem Canonical.takeFirst (h : Canonical s) :
    Canonical (s.takeFirst) := by
  unfold State.takeFirst
  split
  · exact h.setInbox.takePlaced
  · exact h.takeRunnel
  · exact h

theorem execTxDescriptor_canonical (h : Canonical s) {dt : Nat} {src : Option Nat} :
    OutCanonical (execTxDescriptor dt src s) := OutCanonical.ite h.next (OutCanonical.ite h.after.frame.next h.after.frame.takeFirst.next)

theorem execCharterStageResume_canonical (h : Canonical s) {src : Option Nat} :
    OutCanonical (execCharterStageResume src s) := OutCanonical.ite h.frame.takeFirst.next h.next

theorem execCoexReqAssert_canonical (h : Canonical s) {j id : Nat} :
    OutCanonical (execCoexReqAssert j id s) := by
  unfold execCoexReqAssert
  split
  · split
    · split
      · exact (h.advanceToFull.putTx.setFld.on (fun _ hu => hu.setFld)).next
      · exact (h.putTx.setFld.on (fun _ hu => hu.setFld)).next
    · exact h.next
  · exact h.next

theorem Canonical.setGrant (h : Canonical s) {g : Nat} {level : Bool} {at_ : Nat} :
    Canonical (s.setGrant g level at_) := h.frame.setFld

theorem Canonical.sampled (h : Canonical s) {j g : Nat} {f : TxFrame} :
    Canonical (s.sampled j g f) := Canonical.ite h.putTx h.completeTx

theorem Canonical.grantSeen (h : Canonical s) {g : Nat} {pin : PinLevel} :
    Canonical (s.grantSeen g pin) := Canonical.ite h.setGrant h.setGrant

theorem execGrantSample_canonical (h : Canonical s) {j id : Nat} {pin : PinLevel} : OutCanonical (execGrantSample j id pin s) := by
  have hat (o : Option Nat) : Canonical (match o with | some t => s.advanceToFull t | none => s) := by
    split
    · exact h.advanceToFull
    · exact h
  unfold execGrantSample
  split
  · next f g _ _ =>
    refine OutCanonical.ite ?_ (OutCanonical.ite ?_ h.next)
    · exact .next (.foldl (hat (s.samplePoint j g f)).grantSeen fun _ _ hu => .ite hu.sampled hu)
    · exact .next (.foldl ((hat (s.planned j f)).grantSeen.on fun _ hu => hu.raise) fun _ _ hu => .ite hu.sampled hu)
  · exact h.next

theorem Canonical.withdrawn (h : Canonical s) {g : Nat} :
    Canonical (s.withdrawn g) := h.frame.foldl fun _ _ hu => Canonical.ite hu.rfStartDue.abortLive.setFrames hu

theorem execGrantWithdrawal_canonical (h : Canonical s) {pin : Change} {g : Nat} :
    OutCanonical (execGrantWithdrawal pin g s) := by
  unfold execGrantWithdrawal
  dsimp only
  split
  · split
    · exact OutCanonical.ite h.after.next h.after.advanceTo.withdrawn.next
    · exact h.after.next
  · exact OutCanonical.ite (h.after.filtered.after.setGrant.on (fun _ hu => hu.withdrawn)).next h.after.filtered.next

theorem Canonical.commit (h : Canonical s) {j : Nat} {f : TxFrame} {rf : Nat} :
    Canonical (s.commit j f rf) := h.putTx.setTx

theorem execCommitPoint_canonical (h : Canonical s) {j id : Nat} :
    OutCanonical (execCommitPoint j id s) := by
  unfold execCommitPoint
  dsimp only
  split
  · split
    · exact h.next
    · split
      · split
        · exact h.advanceToFull.completeTx.next
        · split
          · exact h.advanceToFull.completeTx.next
          · split
            · exact OutCanonical.ite h.next h.advanceToFull.putTx.bump.next
            · split
              · split
                · exact h.next
                · split
                  · exact h.advanceToFull.fresh.endCycle.noteRefusal.completeTx.next
                  · exact h.advanceToFull.fresh.commit.next
              · split
                · exact h.next
                · split
                  · exact h.advanceToFull.fresh.endCycle.noteRefusal.completeTx.next
                  · exact h.advanceToFull.fresh.commit.next
      · split
        · exact h.completeTx.next
        · split
          · exact h.completeTx.next
          · split
            · exact OutCanonical.ite h.next h.putTx.bump.next
            · split
              · split
                · exact h.next
                · split
                  · exact h.fresh.endCycle.noteRefusal.completeTx.next
                  · exact h.fresh.commit.next
              · split
                · exact h.next
                · split
                  · exact h.fresh.endCycle.noteRefusal.completeTx.next
                  · exact h.fresh.commit.next
  · exact h.next

theorem execTxLate_canonical (h : Canonical s) {j id : Nat} :
    OutCanonical (execTxLate j id s) := by
  unfold execTxLate
  split
  · split
    · exact OutCanonical.ite h.advanceToFull.completeTx.next h.next
    · exact h.next
  · exact h.next

theorem Canonical.blankGrpWrite (h : Canonical s) {b : Nat} {d : Word} :
    Canonical (s.blankGrpWrite b d) := h.frame.setFld

theorem Canonical.blankStart (h : Canonical s) {j : Nat} :
    Canonical (s.blankStart j) := h.setTx.foldl fun _ _ hu => hu.blankChain

theorem execTxswAssert_canonical (h : Canonical s) {j id : Nat} :
    OutCanonical (execTxswAssert j id s) := by
  unfold execTxswAssert
  split
  · exact OutCanonical.ite (OutCanonical.ite h.advanceTo.putTx.next h.advanceTo.putTx.setTx.blankStart.next) h.next
  · exact h.next

theorem execPaAssert_canonical (h : Canonical s) {j id : Nat} :
    OutCanonical (execPaAssert j id s) := by
  unfold execPaAssert
  split
  · exact OutCanonical.ite h.advanceTo.putTx.setTx.next h.next
  · exact h.next

theorem execRfStart_canonical (h : Canonical s) {j id : Nat} :
    OutCanonical (execRfStart j id s) := by
  unfold execRfStart
  split
  · exact OutCanonical.ite (h.advanceTo.whenReady (fun _ hu => hu.rfStart)).next h.next
  · exact h.next

theorem Canonical.wakeUpdate (h : Canonical s) {j : Nat} :
    Canonical (s.wakeUpdate j) := Canonical.ite h h.setPlmChain.chainAsk

theorem Canonical.openAck (h : Canonical s) {j : Nat} {f : TxFrame} :
    Canonical (s.openAck j f) := Canonical.ite h.noAck (h.coexEnd.putTx.idleTouch).wakeUpdate

theorem execLastRf_canonical (h : Canonical s) {j id : Nat} :
    OutCanonical (execLastRf j id s) := by
  unfold execLastRf
  split
  · split
    · split
      · exact h.advanceTo.meterStop.nearUpdate.pinsEnd.completeTx.applyHeld.next
      · exact (Canonical.ite h.advanceTo.meterStop.nearUpdate.pinsEnd.bump.bump.openAck
            h.advanceTo.meterStop.nearUpdate.pinsEnd.bump.bump.completeTx).applyHeld.next
    · exact h.next
  · exact h.next

theorem execPaRelease_canonical (h : Canonical s) {j : Nat} :
    OutCanonical (execPaRelease j s) := OutCanonical.ite h.advanceTo.paDrop.next h.next

theorem execTxswRelease_canonical (h : Canonical s) {j : Nat} :
    OutCanonical (execTxswRelease j s) := OutCanonical.ite h.advanceTo.txswDrop.next h.next

theorem execLnaActive_canonical (h : Canonical s) {j : Nat} :
    OutCanonical (execLnaActive j s) := OutCanonical.ite h.advanceTo.setTx.next h.next

theorem execBlankingEnd_canonical (h : Canonical s) {j : Nat} :
    OutCanonical (execBlankingEnd j s) := by
  unfold execBlankingEnd
  dsimp only
  split
  · split
    · exact (h.advanceTo.setTx.foldl fun _ _ hu => Canonical.ite (hu.forRills (fun _ _ hv => hv.rillRestart)) hu).next
    · exact h.next
  · exact h.next

theorem execLockLoss_canonical (h : Canonical s) {dt j : Nat} :
    OutCanonical (execLockLoss dt j s) := h.after.lockFall.next

theorem Canonical.polApply (h : Canonical s) {j : Nat} :
    Canonical (s.polApply j) := h.setTx

theorem Canonical.femCtlWrite (h : Canonical s) {j : Nat} {d : Word} :
    Canonical (s.femCtlWrite j d) := h.setReg.setTx.on (fun _ hu => hu.polApply)

theorem execFemPolApply_canonical (h : Canonical s) {j : Nat} :
    OutCanonical (execFemPolApply j s) := OutCanonical.ite h.polApply.next h.next

theorem Canonical.twnPoint (h : Canonical s) {k type : Nat} {f : Passing} :
    Canonical (s.twnPoint k type f).2 := by
  unfold State.twnPoint
  split
  · exact h.eddyAt
  · split
    · exact h.passPoint
    · exact h

theorem Canonical.twnEmit (h : Canonical s) {f : Passing} :
    Canonical (s.twnEmit f) := h

theorem Canonical.twnSend (h : Canonical s) {type : Nat} {payload : List Word} :
    Canonical (s.twnSend type payload) := by
  unfold State.twnSend
  dsimp only
  exact Canonical.ite h (h.frame.twnPoint.foldl fun _ _ hu => hu.twnEmit)

theorem Canonical.enterStandby (h : Canonical s) :
    Canonical (s.enterStandby) := h.setFld.setFld.setFld.setFld.frame.twnSend

theorem Canonical.enterActive (h : Canonical s) :
    Canonical (s.enterActive) := h.frame.setFld

theorem Canonical.yieldFrame (h : Canonical s) {j : Nat} {f : TxFrame} :
    Canonical (s.yieldFrame j f) := by
  unfold State.yieldFrame
  split
  · exact h.completeTx
  · exact h.rampDown
  · exact h
  · exact h.recall

theorem Canonical.yieldFrames (h : Canonical s) :
    Canonical (s.yieldFrames) := h.foldl fun _ _ hu => hu.foldl fun _ _ hv => hv.yieldFrame

theorem Canonical.yieldTo (h : Canonical s) {term : Nat} :
    Canonical (s.yieldTo term) := h.yieldFrames.setFld.enterStandby.raise

theorem Canonical.wakeAll (h : Canonical s) :
    Canonical (s.wakeAll) := h.foldl fun _ _ hu => hu.wakeUpdate

theorem Canonical.macUpdate (h : Canonical s) :
    Canonical (s.macUpdate) := Canonical.ite h.setFld (Canonical.ite h.setFld.setFld.frame.wakeAll h.setFld.setFld.frame.setFld.wakeAll)

theorem Canonical.macCtlWrite (h : Canonical s) {d : Word} :
    Canonical (s.macCtlWrite d) := by
  unfold State.macCtlWrite
  dsimp only
  split
  · exact Canonical.ite h.setReg.setFld.setFld.macUpdate h.setReg.setFld.raise
  · exact h.setReg.setFld.macUpdate
  · exact h.setReg

theorem execMacEnable_canonical (h : Canonical s) {d : Word} :
    OutCanonical (execMacEnable d s) := (h.powered (fun _ hu => hu.macCtlWrite)).next

theorem Canonical.macProfileWrite (h : Canonical s) {id : RegId} {i : Nat} {d : Word} :
    Canonical (s.macProfileWrite id i d) := Canonical.ite h.raise (Canonical.ite h.setReg h.setReg.mirrorPost)

theorem Canonical.readCell (h : Canonical s) {w : Nat} :
    Canonical (s.readCell w).2 := by
  unfold State.readCell
  split
  · exact h
  · split
    · next heq => exact h.memRead.of_snd heq
    · next heq => exact (h.memRead.of_snd heq).dropWord

theorem Canonical.readCells (h : Canonical s) {ws : List Nat} : Canonical (s.readCells ws).2 := by
  induction ws generalizing s with
  | nil => exact h
  | cons w ws ih => exact ih h.readCell

theorem Canonical.placeCopies (h : Canonical s) {o : Nat → TxOrigin} {on : List (Nat × Nat)} {cells : List Nat} {d : TxDesc} :
    Canonical (s.placeCopies o on cells d) := h.frame.setShared.foldl fun _ _ hu => hu.place

theorem Canonical.bcnUnsent (h : Canonical s) {cars : List Nat} :
    Canonical (s.bcnUnsent cars) := h.foldl fun _ _ hu => hu.bump.raise

theorem Canonical.buildBeacon (h : Canonical s) {cs : List (Nat × Nat)} {j a : Nat} :
    Canonical (s.buildBeacon cs j a) := by
  unfold State.buildBeacon
  dsimp only
  split
  · next heq => exact (h.frame.alloc.of_snd heq).putFrame.placeCopies
  · next heq => exact (h.frame.alloc.of_snd heq).frame.bcnUnsent

theorem Canonical.rebuildBeacon (h : Canonical s) {g : Nat} :
    Canonical (s.rebuildBeacon g) := by
  unfold State.rebuildBeacon
  dsimp only
  split
  · exact h
  · split
    · split
      · next heq => exact (h.freeChain.alloc.of_snd heq).putFrame.setShared.setInbox
      · next heq => exact (h.freeChain.alloc.of_snd heq).setInbox.frame.bcnUnsent
    · exact h

theorem Canonical.pauseArmed (h : Canonical s) :
    Canonical (s.pauseArmed) := h.foldl fun _ _ hu => hu.rebuildBeacon

theorem Canonical.spwStart (h : Canonical s) {k a taken : Nat} :
    Canonical (s.spwStart k a taken) := by
  unfold State.spwStart
  dsimp only
  split
  · exact h.on (fun _ hu => hu.bump)
  · exact h.on (fun _ hu => hu.bump)
  · split
    · split
      · next heq _ => exact ((h.on (fun _ hu => hu.bump)).alloc.of_snd heq).setSpw.on (fun _ hu => hu.flsSubmit)
      · next heq _ => exact ((h.on (fun _ hu => hu.bump)).alloc.of_snd heq).setSpw.bump.siltInternal
    · next heq => exact ((h.on (fun _ hu => hu.bump)).alloc.of_snd heq).bump.raise

theorem Canonical.spwResolve (h : Canonical s) {a : Nat} : Canonical (s.spwResolve a) := by
  unfold State.spwResolve
  refine List.foldlRecOn (motive := fun p : Nat × State => Canonical p.2) _ _ h fun p hp k _ => ?_
  dsimp only
  split
  · split
    · exact hp.setSpw.spwStart.pair
    · exact hp.setSpw.pair
  · exact hp

theorem Canonical.slotWork (h : Canonical s) {cs : List (Nat × Nat)} {a : Nat} :
    Canonical (s.slotWork cs a) := (h.foldl fun _ _ hu => Canonical.ite hu.buildBeacon hu).spwResolve

theorem execSlotResolve_canonical (h : Canonical s) :
    OutCanonical (execSlotResolve s) := by
  unfold execSlotResolve
  split
  · exact OutCanonical.ite ((h.advanceToFull.readCells.frame.on (fun _ hu => hu.frame)).on (fun _ hu => hu.slotWork)).next h.next
  · exact h.next

theorem Canonical.handoverTake (h : Canonical s) {a : Nat} :
    Canonical (s.handoverTake a) := by
  unfold State.handoverTake
  split
  · exact Canonical.ite h.setFld.enterActive.frame h
  · exact h

theorem Canonical.lateWork (h : Canonical s) {a : Nat} :
    Canonical (s.lateWork a) := h.on (fun _ hu => hu.slotWork)

theorem Canonical.bareStart (h : Canonical s) :
    Canonical (s.bareStart) := by
  unfold State.bareStart
  split
  · exact h.on (fun _ hu => hu.advanceToFull.handoverTake)
  · exact h

theorem execSlotStart_canonical (h : Canonical s) :
    OutCanonical (execSlotStart s) := by
  unfold execSlotStart
  split
  · exact ((h.advanceToFull.handoverTake.lateWork.frame.foldl fun _ _ hu => Canonical.ite hu.bump.raise hu).on (fun _ hu => hu.raise)).setFld.next
  · exact h.bareStart.next

theorem Canonical.airMiss (h : Canonical s) :
    Canonical (s.airMiss) := Canonical.ite h.setFld.bump.frame.setFld.raise h.setFld.bump.frame

theorem execSlotEnd_canonical (h : Canonical s) :
    OutCanonical (execSlotEnd s) := by
  unfold execSlotEnd
  split
  · exact ((h.advanceToFull.frame.wakeAll.on (fun _ hu => hu.raise.setFld.setFld)).frame.on (fun _ hu => hu.airMiss)).next
  · exact h.next

theorem Canonical.sweepAnswered (h : Canonical s) {j : Nat} :
    Canonical (s.sweepAnswered j) := h.frame.wakeUpdate

theorem Canonical.ackEnd (h : Canonical s) {j : Nat} {f : TxFrame} :
    Canonical (s.ackEnd j f) := h.noAck.wakeUpdate

theorem execAckWindowClose_canonical (h : Canonical s) {j id : Nat} :
    OutCanonical (execAckWindowClose j id s) := by
  unfold execAckWindowClose
  split
  · exact OutCanonical.ite (OutCanonical.ite h.advanceToFull.putTx.next h.advanceToFull.ackEnd.next) h.next
  · split
    · exact h.advanceToFull.sweepAnswered.next
    · exact h.next

end Sys2Proof.Machine
end

section
/-! PROOFS. The canonical form is kept by keys, the node table and Sluice. -/

namespace Sys2Proof.Machine

variable {s t : State}

theorem Canonical.reseed (h : Canonical s) :
    Canonical (s.reseed) := h.frame

theorem Canonical.randN (h : Canonical s) {n : Nat} :
    Canonical (s.randN n).2 := h.frame

theorem Canonical.rand (h : Canonical s) :
    Canonical (s.rand).2 := h.randN

theorem Canonical.setSlot (h : Canonical s) {ovr : Bool} {i : Nat} {v : KeySlot} :
    Canonical (s.setSlot ovr i v) := Canonical.ite h.frame h.frame

theorem Canonical.keyWrite (h : Canonical s) {m i : Nat} :
    Canonical (s.keyWrite m i) := h.memWrites

theorem Canonical.keyRead (h : Canonical s) {m i v : Nat} :
    Canonical (s.keyRead m i v).2 := by
  unfold State.keyRead
  split
  · split
    · next heq _ => exact (h.memReads.of_third heq).pair
    · split
      · next heq _ _ => exact (h.memReads.of_third heq).pair
      · next heq _ _ => exact (h.memReads.of_third heq).frame

theorem Canonical.dropKey (h : Canonical s) {ovr : Bool} {i : Nat} :
    Canonical (s.dropKey ovr i) := h.setSlot.keyWrite.bump

theorem Canonical.storeKey (h : Canonical s) {ovr : Bool} {i : Nat} :
    Canonical (s.storeKey ovr i).2 := by
  unfold State.storeKey
  dsimp only
  split
  · exact h
  · split
    · next heq => exact h.keyRead.of_snd heq
    · next heq => exact (h.keyRead.of_snd heq).dropKey

theorem Canonical.readWays (h : Canonical s) {set : Nat} {ws : List Nat} : Canonical (s.readWays set ws).2 := by
  induction ws generalizing s with
  | nil => exact h
  | cons w ws ih =>
    unfold State.readWays
    dsimp only
    split
    · exact ih h
    · split
      · exact ih h
      · split
        · next heq => exact ih (h.keyRead.of_snd heq)
        · next heq => exact ih (h.keyRead.of_snd heq).frame.keyWrite.bump

theorem Canonical.putWay (h : Canonical s) {i : Nat} {e : CacheWay} :
    Canonical (s.putWay i e) := h

theorem Canonical.linkKey (h : Canonical s) {eui g : Nat} :
    Canonical (s.linkKey eui g).2 := by
  unfold State.linkKey
  dsimp only
  split
  · exact h.pair
  · split
    · exact h.readWays.putWay.bump.pair
    · split
      · next heq => exact (h.readWays.storeKey.of_snd heq).putWay.keyWrite.bump.pair
      · exact h.readWays.storeKey

theorem Canonical.requestKey (h : Canonical s) {keyMode eui group ovrPtr : Nat} {ovrEn : Bool} :
    Canonical (s.requestKey keyMode eui group ovrPtr ovrEn).2 := by
  unfold State.requestKey
  split
  · exact h
  · split
    · exact h.storeKey
    · exact h.linkKey

theorem Canonical.jobKey (h : Canonical s) {k : JobKey} :
    Canonical (s.jobKey k).2 := by
  unfold State.jobKey
  split
  · exact h.storeKey
  · split
    · exact h.storeKey
    · exact h.linkKey

theorem Canonical.writeDrift (h : Canonical s) {i v : Nat} :
    Canonical (s.writeDrift i v) := h.memWrite.mirrorPost

theorem Canonical.zeroDrift (h : Canonical s) {i : Nat} :
    Canonical (s.zeroDrift i) := h.writeDrift

theorem Canonical.unsuspect (h : Canonical s) {i : Nat} :
    Canonical (s.unsuspect i) := Canonical.ite h.frame h

theorem Canonical.writeEntry (h : Canonical s) {i : Nat} {e : Entry} :
    Canonical (s.writeEntry i e) := h.memWrites.mirrorPost

theorem Canonical.dropSlot (h : Canonical s) {i : Nat} :
    Canonical (s.dropSlot i) := h.writeEntry.zeroDrift.unsuspect.bump

theorem Canonical.readEntry (h : Canonical s) {i : Nat} :
    Canonical (s.readEntry i).2 := by
  unfold State.readEntry
  split
  · split
    · next heq _ => exact (h.memReads.of_third heq).dropSlot.pair
    · next heq _ => exact (h.memReads.of_third heq).pair

theorem Canonical.invalidate (h : Canonical s) {i : Nat} {e : Entry} :
    Canonical (s.invalidate i e) := h.writeEntry.unsuspect

theorem Canonical.readBucket (h : Canonical s) {base n : Nat} : Canonical (s.readBucket base n).2.2 := by
  induction n generalizing s with
  | zero => exact h
  | succ n ih => exact ih h.readEntry

theorem Canonical.readBoth (h : Canonical s) {eui cls : Nat} : Canonical (s.readBoth eui cls).2.2 := by
  have h₀ := h.readBucket (base := bucketBase eui cls 0) (n := 4)
  unfold State.readBoth
  generalize s.readBucket (bucketBase eui cls 0) 4 = p at h₀ ⊢
  obtain ⟨a, bad, u⟩ := p
  have h₁ := Canonical.readBucket h₀ (base := bucketBase eui cls 1) (n := 4)
  dsimp only at h₁ ⊢
  generalize u.readBucket (bucketBase eui cls 1) 4 = q at h₁ ⊢
  obtain ⟨b, bad', v⟩ := q
  exact h₁

theorem Canonical.lookup (h : Canonical s) {eui cls : Nat} : Canonical (s.lookup eui cls).2 := by
  unfold State.lookup
  split
  next heq =>
  have ht := h.bump.readBoth.of_third heq
  split
  · exact ht.pair
  · split <;> exact ht.pair

theorem Canonical.aliasTarget (h : Canonical s) {a : Entry} :
    Canonical (s.aliasTarget a).2 := by
  unfold State.aliasTarget
  split
  · next heq => exact (h.readEntry.of_snd heq).pair
  · split <;> next heq _ => exact (h.readEntry.of_snd heq).pair

theorem Canonical.lookupShort (h : Canonical s) {pan short : Nat} : Canonical (s.lookupShort pan short).2 := by
  unfold State.lookupShort
  split
  · next heq => exact (h.lookup.of_snd heq).aliasTarget
  · exact h.lookup

theorem Canonical.moveDrift (h : Canonical s) {i j : Nat} :
    Canonical (s.moveDrift i j) := by
  unfold State.moveDrift
  split
  · next heq => exact (h.memRead.of_snd heq).writeDrift.zeroDrift
  · next heq => exact (h.memRead.of_snd heq).bump.zeroDrift.zeroDrift

theorem Canonical.moveSuspect (h : Canonical s) {i j : Nat} :
    Canonical (s.moveSuspect i j) := Canonical.ite h.unsuspect.frame h

theorem Canonical.moveEntry (h : Canonical s) {e : Entry} {i j : Nat} :
    Canonical (s.moveEntry e i j) := h.writeEntry.writeEntry.moveDrift.moveSuspect.frame.bump

theorem Canonical.eligible (h : Canonical s) {path tried bs : List Nat} : Canonical (s.eligible path tried bs).2 := by
  induction bs generalizing s with
  | nil => exact h
  | cons b bs ih =>
    unfold State.eligible
    generalize 4 = n
    exact ih h.readBucket

theorem Canonical.searchPath (h : Canonical s) {fuel n : Nat} {path : List (Nat × Entry)} {sts : List SearchStep} :
    Canonical (s.searchPath fuel n path sts).2 := by
  induction fuel generalizing s n path sts with
  | zero => exact h
  | succ fuel ih =>
    cases sts with
    | nil => exact h
    | cons st rest =>
      rw [searchPath_succ]
      split
      · exact h.pair
      · split
        next ok t hok =>
        have ht : Canonical t := h.eligible.of_snd hok
        split
        · split
          · exact ih ht
          · exact ht.pair
        · split
          split
          · next heq => exact (ht.frame.readEntry.of_snd heq).pair
          · next heq =>
            have hu := ht.frame.readEntry.of_snd heq
            split
            next hes =>
            have hv := hu.readBucket.of_third hes
            split
            · exact hv.pair
            · exact ih hv

theorem Canonical.moveHolds (h : Canonical s) {v : Nat × Entry} {f : Nat} :
    Canonical (s.moveHolds v f).2 := by
  unfold State.moveHolds
  dsimp only
  exact h.readEntry.readEntry

theorem Canonical.runPath (h : Canonical s) {f : Nat} {vs : List (Nat × Entry)} : Canonical (s.runPath f vs).2.2 := by
  induction vs generalizing s f with
  | nil => exact h
  | cons v vs ih =>
    unfold State.runPath
    split
    · next heq => exact ih (h.moveHolds.of_snd heq).moveEntry
    · next heq => exact (h.moveHolds.of_snd heq).triple

theorem Canonical.relocateOnce (h : Canonical s) {bases : List Nat} :
    Canonical (s.relocateOnce bases).2.2 := by
  unfold State.relocateOnce
  split
  · next heq => exact h.searchPath.of_snd heq
  · next heq => exact (h.searchPath.of_snd heq).runPath

theorem Canonical.relocate (h : Canonical s) {bases : List Nat} {tries : Nat} : Canonical (s.relocate bases tries).2.2 := by
  induction tries generalizing s with
  | zero =>
    unfold State.relocate
    have hr := h.relocateOnce (bases := bases)
    generalize s.relocateOnce bases = p at hr ⊢
    obtain ⟨_ | _ | _, n, u⟩ := p <;> exact hr
  | succ k ih =>
    unfold State.relocate
    have hr := h.relocateOnce (bases := bases)
    generalize s.relocateOnce bases = p at hr ⊢
    obtain ⟨_ | _ | _, n, u⟩ := p
    · exact hr
    · exact ih hr
    · exact hr

theorem Canonical.keepDrift (h : Canonical s) {i : Nat} :
    Canonical (s.keepDrift i) := h

theorem Canonical.placeEntry (h : Canonical s) {i : Nat} {e : Entry} :
    Canonical (s.placeEntry i e) := h.keepDrift.writeEntry.zeroDrift.unsuspect

theorem Canonical.insertEntry (h : Canonical s) {e : Entry} : Canonical (s.insertEntry e).2 := by
  unfold State.insertEntry
  split
  next heq =>
  have ht := h.readBoth.of_third heq
  split
  · exact ht.pair
  · split
    · exact ht.pair
    · split
      · exact ht.placeEntry.pair
      · split
        · exact ht.pair
        · split
          · next heq' => exact (ht.relocate.of_third heq').placeEntry.pair
          · next heq' => exact (ht.relocate.of_third heq').pair

theorem Canonical.setLock (h : Canonical s) {l : Option (Nat × Nat)} :
    Canonical (s.setLock l) := h.frame.setFld.setFld

theorem Canonical.cmdSearch (h : Canonical s) {e : Entry} : Canonical (s.cmdSearch e).2 := by
  unfold State.cmdSearch
  split <;> next heq => exact (h.lookup.of_snd heq).pair

theorem Canonical.scan (h : Canonical s) {w0 : Nat} {is : List Nat} : Canonical (s.scan w0 is).2 := by
  induction is generalizing s with
  | nil => exact h
  | cons i is ih =>
    unfold State.scan
    split
    · next heq => exact (h.readEntry.of_snd heq).pair
    · next heq =>
      split
      · exact (h.readEntry.of_snd heq).pair
      · exact ih (h.readEntry.of_snd heq)

theorem Canonical.cmdNext (h : Canonical s) {w0 w1 req : Nat} :
    Canonical (s.cmdNext w0 w1 req).2 := by
  unfold State.cmdNext
  split
  · exact h
  · exact (Canonical.ite h.setLock h).scan.on (fun _ hu => hu.setLock)

theorem Canonical.cmdInsert (h : Canonical s) {e : Entry} : Canonical (s.cmdInsert e).2 := by
  unfold State.cmdInsert
  dsimp only
  exact h.bump.insertEntry.on fun _ hu => hu.bump.raise

theorem Canonical.cmdUpdate (h : Canonical s) {mask : Nat} {x : Entry} : Canonical (s.cmdUpdate mask x).2 := by
  unfold State.cmdUpdate
  split
  · next heq => exact (h.lookup.of_snd heq).writeEntry.pair
  · next heq => exact (h.lookup.of_snd heq).pair
  · next heq => exact (h.lookup.of_snd heq).pair

theorem Canonical.cmdDelete (h : Canonical s) {force : Bool} {x : Entry} : Canonical (s.cmdDelete force x).2 := by
  unfold State.cmdDelete
  split
  · next heq =>
    have ht := h.lookup.of_snd heq
    split
    · exact ht.pair
    · exact ht.invalidate.pair
  · next heq => exact (h.lookup.of_snd heq).pair
  · next heq => exact (h.lookup.of_snd heq).pair

theorem Canonical.flushSlots (h : Canonical s) {p : FlushPass} {is : List Nat} : Canonical (s.flushSlots p is).2 := by
  induction is generalizing s with
  | nil => exact h
  | cons i is ih =>
    unfold State.flushSlots
    split
    · next heq => exact ih (h.readEntry.of_snd heq)
    · next heq =>
      split
      · exact ih (h.readEntry.of_snd heq).invalidate
      · exact ih (h.readEntry.of_snd heq)

theorem Canonical.flushTo (h : Canonical s) {p : FlushPass} {hi : Nat} :
    Canonical (s.flushTo p hi).2 := h.flushSlots

theorem Canonical.cmdFlush (h : Canonical s) {port req runnel tag : Nat} {force : Bool} :
    Canonical (s.cmdFlush port req runnel tag force).2 := by
  unfold State.cmdFlush
  split
  · exact h
  · exact h.frame.flushSlots.frame.setFld

theorem Canonical.deliverResult (h : Canonical s) {req runnel : Nat} {ws : List Nat} :
    Canonical (s.deliverResult req runnel ws) := Canonical.ite (h.foldl fun _ _ hu => hu.setReg).setFld (Canonical.ite h h.enginePush)

theorem Canonical.runCmd (h : Canonical s) {op w0 w1 req : Nat} {x : Entry} : Canonical (s.runCmd op w0 w1 req x).2 := by
  unfold State.runCmd
  split
  · dsimp only; exact h.cmdSearch
  · dsimp only; exact h.cmdNext
  · split
    · exact h.pair
    · dsimp only; exact h.cmdInsert
  · split
    · exact h.pair
    · dsimp only; exact h.cmdUpdate
  · dsimp only; exact h.cmdDelete
  · exact h.cmdFlush
  · exact h.pair

theorem Canonical.tableRun (h : Canonical s) {req : Nat} {ws : List Nat} : Canonical (s.tableRun req ws) := by
  unfold State.tableRun
  dsimp only
  split
  · exact ((h.runCmd.on fun _ hu => hu.setLock).on fun _ hu => hu.siltInternal).deliverResult
  · exact (h.runCmd.on fun _ hu => hu.setLock).on fun _ hu => hu.setFld

theorem Canonical.tableCmd (h : Canonical s) {req : Nat} {ws : List Nat} :
    Canonical (s.tableCmd req ws) := Canonical.ite h.raise h.tableRun

theorem Canonical.slcGoWrite (h : Canonical s) {d : Word} :
    Canonical (s.slcGoWrite d) := Canonical.ite h (h.whenReady (fun _ hu => hu.tableCmd))

theorem Canonical.decideNs (h : Canonical s) :
    Canonical (s.decideNs).2 := h

theorem Canonical.lookupIid (h : Canonical s) {iid : List Byte} : Canonical (s.lookupIid iid).2 := by
  unfold State.lookupIid
  split
  · exact h.lookupShort
  · exact h.lookup

theorem Canonical.walk (h : Canonical s) {n : Nat} {hops : List (Nat × Entry)} : Canonical (s.walk n hops).2.2 := by
  induction n generalizing s hops with
  | zero =>
    unfold State.walk
    split
    · exact h.triple
    · split <;> exact h.triple
  | succ n ih =>
    unfold State.walk
    split
    · exact h.triple
    · split
      · exact h.triple
      · dsimp only
        split
        · next heq => exact (h.readEntry.of_snd heq).triple
        · next heq =>
          split
          · exact ih (h.readEntry.of_snd heq)
          · exact (h.readEntry.of_snd heq).triple

theorem Canonical.decideEntry (h : Canonical s) {i : Nat} {e : Entry} : Canonical (s.decideEntry i e).2.2 := by
  unfold State.decideEntry
  dsimp only
  split
  · exact h.triple
  · split
    · exact h.triple
    · split
      · next heq => exact (h.walk.of_third heq).triple
      · next heq => exact (h.walk.of_third heq).bump.raise.triple
      · next heq =>
        have ht := h.walk.of_third heq
        split
        · exact ht.triple
        · split
          · next heq' => exact (ht.alloc.of_snd heq').putFrame.triple
          · next heq' => exact (ht.alloc.of_snd heq').raise.triple

theorem Canonical.decideIp (h : Canonical s) {dst : List Byte} :
    Canonical (s.decideIp dst).2.2 := by
  unfold State.decideIp
  dsimp only
  split
  · exact h
  · split
    · exact h
    · split
      · exact h
      · split
        · next heq => exact (h.lookupIid.of_snd heq).decideEntry
        · next heq => exact h.lookupIid.of_snd heq
        · next heq => exact h.lookupIid.of_snd heq

theorem Canonical.decideParsed (h : Canonical s) {p : Parsed} :
    Canonical (s.decideParsed p).2.2 := by
  unfold State.decideParsed
  dsimp only
  split
  · exact h.decideIp.decideNs
  · exact h.decideNs
  · exact h.decideNs

theorem Canonical.driftBase (h : Canonical s) {i : Nat} :
    Canonical (s.driftBase i).2 := by
  unfold State.driftBase
  split
  · exact h
  · split
    · next heq => exact h.memRead.of_snd heq
    · next heq => exact (h.memRead.of_snd heq).bump

theorem Canonical.driftUpdate (h : Canonical s) {i : Nat} {c : Int} {asn : Nat} :
    Canonical (s.driftUpdate i c asn) := by
  unfold State.driftUpdate
  split; next heq => exact ((h.driftBase.of_snd heq).on (fun _ hu => hu.writeDrift)).on (fun _ hu => hu.raise.siltPost)

theorem Canonical.placeAck (h : Canonical s) {f : RxFrame} {m : MacFrame} {c : Int} {key : Option JobKey} :
    Canonical (s.placeAck f m c key) := by
  unfold State.placeAck
  dsimp only
  split
  · exact h.ackFail
  · split
    · next heq => exact (h.alloc.of_snd heq).ackFail
    · next heq => exact (h.alloc.of_snd heq).putFrame.frame.place

theorem Canonical.countTiming (h : Canonical s) {f : RxFrame} :
    Canonical (s.countTiming f) := Canonical.ite ((h.on (fun _ hu => hu.bump)).on (fun _ hu => hu.bump.raise)) h

theorem Canonical.ackRx (h : Canonical s) {f : RxFrame} {m : MacFrame} {st : Status} {key : Option JobKey} :
    Canonical (s.ackRx f m st key) := by
  unfold State.ackRx
  split
  · exact h
  · exact Canonical.ite (Canonical.ite h.bump h.placeAck) h

theorem Canonical.destOf (h : Canonical s) {d : MacFrame} : Canonical (s.destOf d).2 := by
  have hp : Canonical (if d.dstMode = 3 then s.lookup d.dst 0
      else if d.dstMode = 2 then s.lookupShort (s.fld F.MAC_ADDR_PAN) d.dst else (.miss, s)).2 := by
    split
    · exact h.lookup
    · split
      · exact h.lookupShort
      · exact h.pair
  unfold State.destOf
  split <;> next heq => exact (hp.of_snd heq).pair

theorem Canonical.answer (h : Canonical s) {t : TxFrame} {st : Status} {rssi : Nat} :
    Canonical (s.answer t st rssi) := (Canonical.ite h.frame.bump.completeTx h.frame.noAck).sweepAnswered

theorem Canonical.matched (h : Canonical s) {t : TxFrame} {f : RxFrame} {m : MacFrame} {src : Option Nat} :
    Canonical (s.matched t f m src) := by
  unfold State.matched
  dsimp only
  split
  · split
    · split
      · split
        · exact h.bump.answer
        · exact h.destOf.bump.answer
      · split
        · exact h.driftUpdate.bump.answer
        · exact h.destOf.driftUpdate.bump.answer
    · split
      · exact h.bump.answer
      · exact h.destOf.bump.answer
  · split
    · split
      · split
        · exact h.answer
        · exact h.destOf.answer
      · split
        · exact h.driftUpdate.answer
        · exact h.destOf.driftUpdate.answer
    · split
      · exact h.answer
      · exact h.destOf.answer

theorem Canonical.unmatched (h : Canonical s) {t : TxFrame} :
    Canonical (s.unmatched t) := h.on (fun _ hu => hu.ackEnd)

theorem Canonical.candidate (h : Canonical s) {f : RxFrame} {m : Option MacFrame} {st : Status} {src : Option Nat} :
    Canonical (s.candidate f m st src).2 := by
  unfold State.candidate
  split
  · split
    · exact Canonical.ite h.matched h.unmatched
    · exact h.unmatched
  · split
    · exact h.sweepAnswered
    · exact h

theorem Canonical.micUnder (h : Canonical s) {g : Nat} {f : RxFrame} {m : MacFrame} :
    Canonical (s.micUnder g f m).2 := by
  unfold State.micUnder
  split <;> next heq => exact h.storeKey.of_snd heq

theorem Canonical.airHeard (h : Canonical s) {a : Nat} :
    Canonical (s.airHeard a) := Canonical.ite h.frame.setFld.setFld.raise h.frame.setFld

theorem Canonical.hearBeacon (h : Canonical s) {f : RxFrame} {m : MacFrame} :
    Canonical (s.hearBeacon f m) := by
  unfold State.hearBeacon
  split
  · split; next heq => exact Canonical.ite ((h.micUnder.of_snd heq).on (fun _ hu => hu.airHeard)) h
  · exact Canonical.ite h.airHeard h

theorem Canonical.hearTakeover (h : Canonical s) {f : RxFrame} {m : MacFrame} :
    Canonical (s.hearTakeover f m) := by
  unfold State.hearTakeover
  split
  · split
    · split; next heq => exact (h.micUnder.of_snd heq).on (fun _ hu => hu.yieldTo)
    · exact h
  · exact h

theorem Canonical.resolveSource (h : Canonical s) {m : MacFrame} : Canonical (s.resolveSource m).2.2 := by
  unfold State.resolveSource
  dsimp only
  split
  · exact h.lookup.triple
  · split
    · exact h.lookupShort.triple
    · exact h.triple

theorem Canonical.decideFrame (h : Canonical s) {f : RxFrame} {x : RxHold} : Canonical (s.decideFrame f x).2 := by
  unfold State.decideFrame
  dsimp only
  split
  · split
    · exact Canonical.decideParsed h
    · exact Canonical.decideNs h
  · exact Canonical.decideParsed (p := .other 0) h

theorem Canonical.openHold (h : Canonical s) {m : MacFrame} : Canonical (s.openHold m).2 := by
  unfold State.openHold
  split
  · next heq => exact (h.resolveSource.of_third heq).pair
  · next heq => exact (h.resolveSource.of_third heq).pair
  · next heq =>
    have ht := (h.resolveSource.of_third heq).bump (f := F.SLC_CNT_HIT_COUNT) (n := 1) (i := 0) (j := 0)
    dsimp only
    split
    · split
      · next heq' => exact (ht.endCycle.requestKey.of_snd heq').newJob.pair
      · next heq' => exact (ht.endCycle.requestKey.of_snd heq').pair
      · next heq' => exact (ht.endCycle.requestKey.of_snd heq').pair
    · exact ht.pair

theorem Canonical.setHold (h : Canonical s) {id : Nat} {x2 : RxHold} :
    Canonical (s.setHold id x2) := by
  unfold State.setHold
  split
  · exact h.setRx
  · exact h

theorem Canonical.headerStage (h : Canonical s) {id : Nat} {f : RxFrame} :
    Canonical (s.headerStage id f) := by
  unfold State.headerStage
  dsimp only
  split
  · split
    · exact h.openHold.decideFrame.setHold
    · exact h.openHold.setHold
  · split
    · exact h.decideFrame.setHold
    · exact h.setHold

theorem execSluiceHeader_canonical (h : Canonical s) {id : Nat} :
    OutCanonical (execSluiceHeader id s) := by
  unfold execSluiceHeader
  split
  · split
    · exact (Canonical.ite h.headerStage h).next
    · split
      · split; next heq => exact (h.decideFrame.of_snd heq).setHold.next
      · exact h.next
  · exact h.next

theorem Canonical.pushPair (h : Canonical s) {done dec : List Word} :
    Canonical (s.pushPair done dec) := Canonical.ite h h.enginePush

theorem Canonical.stripRoute (h : Canonical s) {d : Decision} {st : Status} :
    Canonical (s.stripRoute d st).2 := by
  unfold State.stripRoute
  split
  · exact h
  · split
    · exact h.freeChain
    · exact h

theorem Canonical.freeRx (h : Canonical s) {f : RxFrame} :
    Canonical (s.freeRx f) := h.freeChain

theorem Canonical.completeRx (h : Canonical s) {f : RxFrame} {x2 : RxHold} {st : Status} :
    Canonical (s.completeRx f x2 st) := by
  unfold State.completeRx
  dsimp only
  split
  · split
    · exact (h.stripRoute.on (fun _ hu => hu.freeRx)).freeChain
    · exact h.stripRoute.on (fun _ hu => hu.freeRx)
  · exact Canonical.ite (h.stripRoute.on (fun _ hu => hu.freeRx)).fresh.pushPair (h.stripRoute.on (fun _ hu => hu.freeRx))

theorem Canonical.countRx (h : Canonical s) {st : Status} :
    Canonical (s.countRx st) := by
  unfold State.countRx
  split
  · exact h.bump
  · exact h
  · exact h.bump
  · exact h.bump
  · exact h.bump
  · exact h.bump
  · exact h.bump.bump
  · exact h.bump.bump
  · exact h.bump

theorem Canonical.finishRx (h : Canonical s) {id : Nat} {f : RxFrame} {x3 : RxHold} {st : Status} :
    Canonical (s.finishRx id f x3 st) := by
  unfold State.finishRx
  dsimp only
  exact Canonical.ite h.frame.bump.candidate.stripRoute.freeRx h.frame.bump.candidate.countRx.countTiming.completeRx

theorem Canonical.applyEntry (h : Canonical s) {i : Nat} {e : Entry} {f : RxFrame} {m : MacFrame} {st : Status} {epoch : Nat} :
    Canonical (s.applyEntry i e f m st epoch) := Canonical.ite h (h.writeEntry.on (fun _ hu => hu.bump))

theorem Canonical.suspectStatus (h : Canonical s) {i : Nat} {st : Status} {counted : Bool} :
    Canonical (s.suspectStatus i st counted).2 := by
  unfold State.suspectStatus
  split
  · exact h.unsuspect.on (fun _ hu => hu.bump)
  · exact h

theorem Canonical.commitKnown (h : Canonical s) {id : Nat} {f : RxFrame} {x3 : RxHold} {m : MacFrame} {i : Nat} {e : Entry} {epoch : Nat} :
    Canonical (s.commitKnown id f x3 m i e epoch) := by
  unfold State.commitKnown
  dsimp only
  split
  · exact h.finishRx
  · split
    · exact (Canonical.ite h.applyEntry.driftUpdate h.applyEntry).suspectStatus.ackRx.finishRx
    · exact h.applyEntry.suspectStatus.ackRx.finishRx

theorem Canonical.learn (h : Canonical s) {f : RxFrame} {m : MacFrame} : Canonical (s.learn f m).2 := by
  unfold State.learn
  dsimp only
  split
  · exact h.pair
  · exact ((h.insertEntry.on fun _ hu => hu.bump).on fun _ hu => hu.bump.raise).pair

theorem Canonical.refreshLearned (h : Canonical s) {r : Inserted} {f : RxFrame} :
    Canonical (s.refreshLearned r f) := h.writeEntry

theorem Canonical.commitUnknown (h : Canonical s) {id : Nat} {f : RxFrame} {h' : RxHold} : Canonical (s.commitUnknown id f h') := by
  unfold State.commitUnknown
  split
  · next m _ =>
    have ht : Canonical (if h'.src.isNone then s.learn f m else (none, s)).2 := by
      split
      · exact h.learn
      · exact h.pair
    dsimp only
    split
    · exact ht.refreshLearned.ackRx.finishRx
    · exact ht.finishRx
    · exact ht.ackRx.finishRx
  · exact h.finishRx

theorem Canonical.hear (h : Canonical s) {f : RxFrame} :
    Canonical (s.hear f) := by
  unfold State.hear
  split
  · exact h.hearBeacon.hearTakeover
  · exact h

theorem Canonical.commitGood (h : Canonical s) {id : Nat} {f : RxFrame} {x3 : RxHold} :
    Canonical (s.commitGood id f x3) := by
  unfold State.commitGood
  split
  · exact h.finishRx
  · exact h.finishRx
  · split
    · exact h.commitUnknown
    · split
      · next heq => exact (h.readEntry.of_snd heq).finishRx
      · split
        · next heq _ => exact (h.readEntry.of_snd heq).commitKnown
        · next heq _ => exact (h.readEntry.of_snd heq).finishRx
  · exact h.commitUnknown

theorem execSluiceCommit_canonical (h : Canonical s) {id : Nat} :
    OutCanonical (execSluiceCommit id s) := by
  unfold execSluiceCommit
  dsimp only
  split
  · split
    · split
      · exact h.next
      · split
        · split
          · exact (h.decideFrame.on (fun _ hu => hu.hear)).finishRx.next
          · split
            · exact h.decideFrame.finishRx.next
            · exact h.decideFrame.finishRx.next
            · exact h.decideFrame.hear.commitGood.next
        · split
          · exact (h.on (fun _ hu => hu.hear)).finishRx.next
          · split
            · exact h.finishRx.next
            · exact h.finishRx.next
            · exact h.hear.commitGood.next
    · exact h.next
  · exact h.next

theorem Canonical.completeWired (h : Canonical s) {p : Wired} {d : Decision} {st : Status} :
    Canonical (s.completeWired p d st) := by
  unfold State.completeWired
  split; next heq => exact (((h.stripRoute.of_snd heq).frame.on (fun _ hu => hu.freeChain)).on (fun _ hu => hu.bump)).pushPair

theorem Canonical.takeWired (h : Canonical s) {p : Wired} : Canonical (s.takeWired p) := by
  unfold State.takeWired
  split
  · exact (h.decideParsed (p := .other 0)).completeWired
  · split
    · exact (h.decideParsed (p := .other 0)).siltInternal.completeWired
    · next o _ _ cs _ =>
      have hf := h.getFrame (cs := cs) (len := o + 40)
      generalize s.getFrame cs (o + 40) = q at hf ⊢
      obtain ⟨b, bad, u⟩ := q
      dsimp only
      split
      · exact (hf.decideParsed (p := .other 0)).completeWired
      · exact (hf.decideParsed (p := parseIpv6 b o)).completeWired

theorem execWiredPacket_canonical (h : Canonical s) {port : Nat} :
    OutCanonical (execWiredPacket port s) := by
  unfold execWiredPacket
  split
  · exact OutCanonical.ite h.frame.takeWired.next h.next
  · exact h.next

theorem execSearch_canonical (h : Canonical s) {req : Nat} {ws : List Word} :
    OutCanonical (execSearch req ws s) := (h.powered (fun _ hu => hu.whenReady (fun _ hv => hv.tableCmd))).next

theorem execNext_canonical (h : Canonical s) {req : Nat} {ws : List Word} :
    OutCanonical (execNext req ws s) := (h.powered (fun _ hu => hu.whenReady (fun _ hv => hv.tableCmd))).next

theorem execInsert_canonical (h : Canonical s) {req : Nat} {ws : List Word} :
    OutCanonical (execInsert req ws s) := (h.powered (fun _ hu => hu.whenReady (fun _ hv => hv.tableCmd))).next

theorem execUpdate_canonical (h : Canonical s) {req : Nat} {ws : List Word} :
    OutCanonical (execUpdate req ws s) := (h.powered (fun _ hu => hu.whenReady (fun _ hv => hv.tableCmd))).next

theorem execDelete_canonical (h : Canonical s) {req : Nat} {ws : List Word} :
    OutCanonical (execDelete req ws s) := (h.powered (fun _ hu => hu.whenReady (fun _ hv => hv.tableCmd))).next

theorem execFlushPort_canonical (h : Canonical s) {req : Nat} {ws : List Word} :
    OutCanonical (execFlushPort req ws s) := (h.powered (fun _ hu => hu.whenReady (fun _ hv => hv.tableCmd))).next

theorem execFlushPortDone_canonical (h : Canonical s) :
    OutCanonical (execFlushPortDone s) := by
  unfold execFlushPortDone
  split
  · exact h.advanceTo.flushSlots.frame.setFld.deliverResult.next
  · exact h.next

theorem execScanTimeout_canonical (h : Canonical s) :
    OutCanonical (execScanTimeout s) := by
  unfold execScanTimeout
  split
  · exact h.advanceTo.setLock.raise.siltPost.next
  · exact h.next

theorem Canonical.agerNext (h : Canonical s) :
    Canonical (s.agerNext) := h

theorem Canonical.agerVisit (h : Canonical s) :
    Canonical (s.agerVisit) := by
  unfold State.agerVisit
  dsimp only
  split
  · next heq => exact (h.readEntry.of_snd heq).agerNext
  · split
    · next heq _ => exact (h.readEntry.of_snd heq).agerNext
    · split
      · next heq _ _ => exact (h.readEntry.of_snd heq).raise
      · next heq _ _ => exact (h.readEntry.of_snd heq).invalidate.bump.deliverResult.agerNext

theorem execAgerVisit_canonical (h : Canonical s) :
    OutCanonical (execAgerVisit s) := OutCanonical.ite h.advanceTo.frame.agerVisit.next h.next

theorem Canonical.ageCtlWrite (h : Canonical s) {d : Word} :
    Canonical (s.ageCtlWrite d) := h.setFld.setFld.on (fun _ hu => hu.frame)

theorem Canonical.relocSeedWrite (h : Canonical s) {d : Word} :
    Canonical (s.relocSeedWrite d) := h.frame.setFld

theorem execRelocSeedWrite_canonical (h : Canonical s) {d : Word} :
    OutCanonical (execRelocSeedWrite d s) := (h.powered (fun _ hu => hu.relocSeedWrite)).next

end Sys2Proof.Machine
end

section
/-! PROOFS. The canonical form is kept by Grotto, runnels and the threads of the cores. -/

namespace Sys2Proof.Machine

variable {s t : State}

theorem Canonical.randMsgs (h : Canonical s) {n : Nat} : Canonical (s.randMsgs n).2 := by
  induction n generalizing s with
  | zero => exact h
  | succ n ih => exact ih h.randN

theorem Canonical.rootReady (h : Canonical s) {msgs : List Nat} :
    Canonical (s.rootReady msgs) := h.frame.setFld.setFld

theorem Canonical.refreshDue (h : Canonical s) :
    Canonical (s.refreshDue) := h.setFld.raise

theorem Canonical.rootFailed (h : Canonical s) {fails w : Nat} :
    Canonical (s.rootFailed fails w) := h.setFld.setFld.setFld.refreshDue.setFld.raise.siltPost

theorem Canonical.reconEnd (h : Canonical s) {body : List Byte} :
    Canonical (s.reconEnd body) :=
    Canonical.ite h.rootFailed (Canonical.ite h.frame.rootFailed (h.frame.rootReady.frame.setFld.setFld.setFld.on (fun _ hu => hu.refreshDue)))

theorem Canonical.enrolEnd (h : Canonical s) {w : Nat} :
    Canonical (s.enrolEnd w).2 :=
    h.frame.rootReady.setFld

theorem Canonical.refreshEnd (h : Canonical s) {w : Nat} {msgs : List Nat} :
    Canonical (s.refreshEnd w msgs).2 := h.frame.setFld

theorem Canonical.eraseMsgs (h : Canonical s) :
    Canonical (s.eraseMsgs) := h.frame.setFld

theorem Canonical.floorDue (h : Canonical s) {bit : Nat} :
    Canonical (s.floorDue bit) := h.setReg.raise

theorem Canonical.counterMarks (h : Canonical s) {ovr : Bool} {i : Nat} :
    Canonical (s.counterMarks ovr i) := Canonical.ite h ((h.on (fun _ hu => hu.floorDue)).on (fun _ hu => hu.raise))

theorem Canonical.invalidateKey (h : Canonical s) {ovr : Bool} {i : Nat} {old : KeySlot} :
    Canonical (s.invalidateKey ovr i old) := Canonical.ite h h.frame

theorem Canonical.putSlot (h : Canonical s) {ovr : Bool} {i : Nat} {v : KeySlot} :
    Canonical (s.putSlot ovr i v) := by
  unfold State.putSlot
  dsimp only
  split
  · exact h.randN.setSlot.keyWrite
  · exact h.setSlot.keyWrite

theorem Canonical.storeSlot (h : Canonical s) {ovr : Bool} {i : Nat} {v : KeySlot} :
    Canonical (s.storeSlot ovr i v) := h.putSlot.invalidateKey

theorem Canonical.updateSlot (h : Canonical s) {ovr : Bool} {i : Nat} {f : KeySlot → KeySlot} :
    Canonical (s.updateSlot ovr i f) := by
  unfold State.updateSlot
  split
  · exact h
  · split
    · next heq => exact (h.keyRead.of_snd heq).putSlot
    · next heq => exact (h.keyRead.of_snd heq).dropKey.setSlot

theorem Canonical.readSlot (h : Canonical s) {ovr : Bool} {i : Nat} :
    Canonical (s.readSlot ovr i).2 := by
  unfold State.readSlot
  dsimp only
  split
  · next heq => exact h.keyRead.of_snd heq
  · next heq => exact (h.keyRead.of_snd heq).dropKey

theorem Canonical.importKey (h : Canonical s) {ovr : Bool} {i key : Nat} :
    Canonical (s.importKey ovr i key) := by
  unfold State.importKey
  split; next heq => exact (h.readSlot.of_snd heq).storeSlot

theorem Canonical.retireKey (h : Canonical s) {ovr : Bool} {i : Nat} :
    Canonical (s.retireKey ovr i) := by
  unfold State.retireKey
  split; next heq => exact (h.readSlot.of_snd heq).storeSlot

theorem Canonical.bodyEntry (h : Canonical s) {ovr : Bool} {new : Option Nat} {i : Nat} :
    Canonical (s.bodyEntry ovr new i).2 := by
  unfold State.bodyEntry
  dsimp only
  split <;> next heq => exact h.storeKey.of_snd heq

theorem Canonical.bodyEntries (h : Canonical s) {ovr : Bool} {new : Option Nat} {is : List Nat} :
    Canonical (s.bodyEntries ovr new is).2 := by
  induction is generalizing s with
  | nil => exact h
  | cons i is ih =>
    unfold State.bodyEntries
    exact ih h.bodyEntry

theorem Canonical.pageBody (h : Canonical s) {type page : Nat} {new : Option Nat} :
    Canonical (s.pageBody type page new).2 := h.bodyEntries.frame

theorem Canonical.showKeys (h : Canonical s) :
    Canonical (s.showKeys) := h.setFld.setFld

theorem Canonical.unwrapFail (h : Canonical s) {value : Nat} :
    Canonical (s.unwrapFail value) := h.bump.raise.siltPost

theorem Canonical.loadDevKey (h : Canonical s) {c : List Byte} :
    Canonical (s.loadDevKey c).2 := by
  unfold State.loadDevKey
  split
  · exact h
  · split
    · exact h
    · exact h.frame.unwrapFail

theorem Canonical.loadEntry (h : Canonical s) {ovr : Bool} {i : Nat} {b : List Byte} :
    Canonical (s.loadEntry ovr i b) := by
  unfold State.loadEntry
  dsimp only
  split
  · split
    · exact h.storeSlot.counterMarks
    · exact h.storeSlot.unwrapFail
  · exact h.storeSlot
  · exact h.storeSlot

theorem Canonical.loadBody (h : Canonical s) {type page : Nat} {b : List Byte} :
    Canonical (s.loadBody type page b) := by
  unfold State.loadBody
  dsimp only
  exact Canonical.ite h.loadDevKey.loadDevKey.frame.showKeys (h.foldl fun _ _ hu => hu.loadEntry)

theorem Canonical.floorCommit (h : Canonical s) {type page : Nat} :
    Canonical (s.floorCommit type page) := (h.foldl fun _ _ hu => hu.updateSlot).frame.setReg.mirrorPost

theorem Canonical.grtInput (h : Canonical s) {n : Nat} :
    Canonical (s.grtInput n).2 := h.memReads

theorem Canonical.grtTransported (h : Canonical s) :
    Canonical (s.grtTransported).2 := h.memReads

theorem Canonical.grtImport (h : Canonical s) {ovr : Bool} {i : Nat} :
    Canonical (s.grtImport ovr i).2 := by
  unfold State.grtImport
  split
  · next heq => exact (h.grtTransported.of_snd heq).importKey.bodyEntries.frame
  · next heq => exact (h.grtTransported.of_snd heq).pair

theorem Canonical.grtRun (h : Canonical s) {op i : Nat} : Canonical (s.grtRun op i).2 := by
  unfold State.grtRun
  split
  · exact h.frame.setFld.pair
  · exact h.eraseMsgs.pair
  · exact h.grtInput.loadBody.pair
  · refine (Canonical.showKeys ?_).pair (a := some _)
    exact Canonical.ite h.grtInput h.grtInput
  · split
    · next heq => exact (h.grtTransported.of_snd heq).frame.pair
    · next heq => exact (h.grtTransported.of_snd heq).pair
  · exact h.grtImport
  · have hp := Canonical.pageBody (type := 2) (page := i / 256) (new := none) (h.retireKey (ovr := false) (i := i))
    generalize (s.retireKey false i).pageBody 2 (i / 256) none = q at hp ⊢
    exact hp.pair
  · exact h.grtImport
  · have hp := Canonical.pageBody (type := 3) (page := i / 1024) (new := none) (h.retireKey (ovr := true) (i := i))
    generalize (s.retireKey true i).pageBody 3 (i / 1024) none = q at hp ⊢
    exact hp.pair
  · exact h.pageBody.pair
  · exact h.floorCommit.pair
  · exact h.grtInput.pair
  · dsimp only
    split
    · exact h.frame
    · exact h.frame
    · exact h.frame
  · exact h.pair
  · exact h.pair

theorem Canonical.reconInput (h : Canonical s) {op : Nat} :
    Canonical (s.reconInput op).2 := by
  unfold State.reconInput
  split
  · exact h.grtInput
  · exact h

theorem Canonical.grtStart (h : Canonical s) {c : GrtCmd} :
    Canonical (s.grtStart c) := h.frame.setFld

theorem Canonical.grtCmdWrite (h : Canonical s) {op i : Nat} :
    Canonical (s.grtCmdWrite op i) := by
  unfold State.grtCmdWrite
  dsimp only
  split
  · exact h.raise
  · split
    · exact h.fresh.grtStart
    · split <;> next heq => exact (h.fresh.reconInput.grtRun.of_snd heq).grtStart

theorem execRecon_canonical (h : Canonical s) {index : Nat} :
    OutCanonical (execRecon index s) := (h.powered (fun _ hu => hu.grtCmdWrite)).next

theorem execEnrol_canonical (h : Canonical s) {index : Nat} :
    OutCanonical (execEnrol index s) := (h.powered (fun _ hu => hu.grtCmdWrite)).next

theorem execRefresh_canonical (h : Canonical s) {index : Nat} :
    OutCanonical (execRefresh index s) := (h.powered (fun _ hu => hu.grtCmdWrite)).next

theorem execSealRoot_canonical (h : Canonical s) {index : Nat} :
    OutCanonical (execSealRoot index s) := (h.powered (fun _ hu => hu.grtCmdWrite)).next

theorem execGrtLoad_canonical (h : Canonical s) {index : Nat} :
    OutCanonical (execGrtLoad index s) := (h.powered (fun _ hu => hu.grtCmdWrite)).next

theorem execProvision_canonical (h : Canonical s) {index : Nat} :
    OutCanonical (execProvision index s) := (h.powered (fun _ hu => hu.grtCmdWrite)).next

theorem execRekeyNet_canonical (h : Canonical s) {index : Nat} :
    OutCanonical (execRekeyNet index s) := (h.powered (fun _ hu => hu.grtCmdWrite)).next

theorem execImportGroup_canonical (h : Canonical s) {index : Nat} :
    OutCanonical (execImportGroup index s) := (h.powered (fun _ hu => hu.grtCmdWrite)).next

theorem execRetireGroup_canonical (h : Canonical s) {index : Nat} :
    OutCanonical (execRetireGroup index s) := (h.powered (fun _ hu => hu.grtCmdWrite)).next

theorem execImportOvr_canonical (h : Canonical s) {index : Nat} :
    OutCanonical (execImportOvr index s) := (h.powered (fun _ hu => hu.grtCmdWrite)).next

theorem execClearOvr_canonical (h : Canonical s) {index : Nat} :
    OutCanonical (execClearOvr index s) := (h.powered (fun _ hu => hu.grtCmdWrite)).next

theorem execExportPage_canonical (h : Canonical s) {index : Nat} :
    OutCanonical (execExportPage index s) := (h.powered (fun _ hu => hu.grtCmdWrite)).next

theorem execFloorCommit_canonical (h : Canonical s) {index : Nat} :
    OutCanonical (execFloorCommit index s) := (h.powered (fun _ hu => hu.grtCmdWrite)).next

theorem execAttest_canonical (h : Canonical s) {index : Nat} :
    OutCanonical (execAttest index s) := (h.powered (fun _ hu => hu.grtCmdWrite)).next

theorem execGrtBlow_canonical (h : Canonical s) {index : Nat} :
    OutCanonical (execGrtBlow index s) := (h.powered (fun _ hu => hu.grtCmdWrite)).next

theorem execDebugExport_canonical (h : Canonical s) {index : Nat} :
    OutCanonical (execDebugExport index s) := (h.powered (fun _ hu => hu.grtCmdWrite)).next

theorem Canonical.grtEnd (h : Canonical s) {c : GrtCmd} :
    Canonical (s.grtEnd c).2 := by
  unfold State.grtEnd
  split
  · exact h
  · split
    · exact h.reconEnd
    · exact h.enrolEnd
    · exact h.refreshEnd
    · exact h

theorem execGrtCmdDone_canonical (h : Canonical s) :
    OutCanonical (execGrtCmdDone s) := by
  unfold execGrtCmdDone
  dsimp only
  split
  · exact OutCanonical.ite h.next (h.advanceTo.frame.grtEnd.memWrites.on (fun _ hu => hu.siltInternal)).setFld.setFld.setFld.raise.next
  · exact h.next

theorem execInvalidationSweepDone_canonical (h : Canonical s) :
    OutCanonical (execInvalidationSweepDone s) := by
  unfold execInvalidationSweepDone
  split
  · exact h.advanceTo.frame.next
  · exact h.next

theorem execMsgErase_canonical (h : Canonical s) :
    OutCanonical (execMsgErase s) := OutCanonical.ite h.advanceTo.eraseMsgs.next h.next

theorem Canonical.headStart (h : Canonical s) {id : Nat} {x2 : RxHold} {waited : Bool} :
    Canonical (s.headStart id x2 waited) := by
  unfold State.headStart
  dsimp only
  split
  · split
    · exact h.setHold
    · split <;> next heq => exact (h.jobKey.of_snd heq).setHold
  · exact h.setHold

theorem execKeyReady_canonical (h : Canonical s) {id : Nat} :
    OutCanonical (execKeyReady id s) := by
  unfold execKeyReady
  split
  · split
    · split
      · exact OutCanonical.ite h.advanceTo.setHold.next (OutCanonical.ite h.advanceTo.endCycle.headStart.next h.next)
      · exact h.next
    · exact h.next
  · exact h.next

theorem execVerifyJobStart_canonical (h : Canonical s) {id : Nat} :
    OutCanonical (execVerifyJobStart id s) := by
  unfold execVerifyJobStart
  dsimp only
  split
  · split
    · split
      · split
        · split <;> next heq => exact (h.endCycle.jobKey.of_snd heq).setHold.next
        · exact h.next
      · exact h.next
    · exact h.next
  · exact h.next

theorem Canonical.entryEpoch (h : Canonical s) {i : Nat} :
    Canonical (s.entryEpoch i).2 := by
  unfold State.entryEpoch
  split
  · next heq => exact h.memRead.of_snd heq
  · next heq => exact (h.memRead.of_snd heq).dropSlot

theorem Canonical.staleVerdict (h : Canonical s) {x1 : RxHold} {epoch : Nat} :
    Canonical (s.staleVerdict x1 epoch).2 := by
  unfold State.staleVerdict
  split
  · split; next heq => exact (h.entryEpoch.of_snd heq).pair
  · exact h.pair

theorem execVerifyDone_canonical (h : Canonical s) {id : Nat} :
    OutCanonical (execVerifyDone id s) := by
  unfold execVerifyDone
  dsimp only
  split
  · split
    · split
      · split
        · exact (h.fresh.advanceTo.bump.on (fun _ hu => hu.putFrame)).setHold.next
        · split
          · next heq => exact (h.fresh.advanceTo.bump.staleVerdict.of_snd heq).bump.setHold.next
          · next heq => exact (h.fresh.advanceTo.bump.staleVerdict.of_snd heq).setHold.next
      · exact h.next
    · exact h.next
  · exact h.next

theorem Canonical.setSec (h : Canonical s) {j : Nat} {f : TxFrame} {x : TxSec} :
    Canonical (s.setSec j f x) := by
  unfold State.setSec
  split
  · exact h.setShared
  · exact h.putTx

theorem Canonical.protectFail (h : Canonical s) {j : Nat} {f : TxFrame} {st : Status} :
    Canonical (s.protectFail j f st) := (h.on (fun _ hu => hu.bump)).setSec.foldl fun _ _ hu => hu.completeTx

theorem Canonical.protectDest (h : Canonical s) {m : MacFrame} : Canonical (s.protectDest m).2 := by
  unfold State.protectDest
  split
  · exact h.lookup
  · exact h.lookupShort

theorem Canonical.protectKey (h : Canonical s) {f : TxFrame} {m : MacFrame} :
    Canonical (s.protectKey f m).2 := by
  unfold State.protectKey
  dsimp only
  split
  · exact h.pair
  · split
    · split
      · exact h.jobKey
      · exact h.pair
    · split
      · exact h.storeKey
      · split
        · split
          · next heq _ => exact (h.protectDest.of_snd heq).storeKey
          · next heq _ => exact (h.protectDest.of_snd heq).linkKey
        · next heq => exact (h.protectDest.of_snd heq).pair
        · next heq => exact (h.protectDest.of_snd heq).pair

theorem Canonical.protectRead (h : Canonical s) {j : Nat} {f : TxFrame} :
    Canonical (s.protectRead j f).2.2.2 := by
  unfold State.protectRead
  split
  · exact h
  · exact h.readWords

theorem Canonical.takeCounter (h : Canonical s) {k : JobKey} :
    Canonical (s.takeCounter k).2 := by
  unfold State.takeCounter
  dsimp only
  split
  · next heq => exact (h.keyRead.of_snd heq).dropKey.pair
  · split
    · next heq _ => exact (h.keyRead.of_snd heq).pair
    · split
      · next heq _ _ => exact (h.keyRead.of_snd heq).raise.pair
      · split
        · next heq _ _ _ => exact (h.keyRead.of_snd heq).pair
        · next heq _ _ _ => exact (h.keyRead.of_snd heq).putSlot.counterMarks.pair

theorem Canonical.protectStart (h : Canonical s) {j : Nat} {f : TxFrame} {n : Nat} : Canonical (s.protectStart j f n) := by
  unfold State.protectStart
  split
  · next heq => exact (h.protectRead.of_fourth heq).protectFail
  · next heq => exact (h.protectRead.of_fourth heq).protectFail
  · next heq =>
    have hr := h.protectRead.of_fourth heq
    split
    · exact hr.protectFail
    · split
      · next heq' => exact (hr.protectKey.of_snd heq').protectFail
      · next heq' => exact (hr.protectKey.of_snd heq').protectFail
      · next heq' =>
        have hk := hr.protectKey.of_snd heq'
        split
        · next heq'' => exact (hk.takeCounter.of_snd heq'').protectFail
        · next heq'' => exact (hk.takeCounter.of_snd heq'').protectFail
        · next heq'' => exact (hk.takeCounter.of_snd heq'').setSec

theorem execProtectJobStart_canonical (h : Canonical s) {j id : Nat} :
    OutCanonical (execProtectJobStart j id s) := by
  unfold execProtectJobStart
  split
  · split
    · exact (Canonical.ite h.endCycle.protectStart h).next
    · exact h.next
  · exact h.next

theorem Canonical.protectArrive (h : Canonical s) {j : Nat} {f : TxFrame} :
    Canonical (s.protectArrive j f) := by
  unfold State.protectArrive
  exact h.foldl fun _ _ hu => (by split; exacts [hu.putTx, hu])

theorem execProtectDone_canonical (h : Canonical s) {j id : Nat} :
    OutCanonical (execProtectDone j id s) := by
  unfold execProtectDone
  dsimp only
  split
  · split
    · split
      · next heq => exact (h.fresh.advanceTo.protectRead.of_fourth heq).putFrame.bump.setSec.protectArrive.next
      · next heq => exact (h.fresh.advanceTo.protectRead.of_fourth heq).protectFail.next
      · next heq => exact (h.fresh.advanceTo.protectRead.of_fourth heq).protectFail.next
    · exact h.next
  · exact h.next

theorem Canonical.redraw (h : Canonical s) {xs : List Nat} : Canonical (s.redraw xs) := by
  induction xs generalizing s with
  | nil => exact h
  | cons x xs ih =>
    unfold State.redraw
    split
    · next heq => exact ih (h.keyRead.of_snd heq).putSlot
    · next heq => exact ih (h.keyRead.of_snd heq).dropKey

theorem execMaskRefresh_canonical (h : Canonical s) :
    OutCanonical (execMaskRefresh s) := OutCanonical.ite h.advanceTo.frame.redraw.next h.next

theorem execDrbgReseed_canonical (h : Canonical s) :
    OutCanonical (execDrbgReseed s) := (Canonical.ite h.reseed h).next

theorem Canonical.challenge (h : Canonical s) :
    Canonical (s.challenge) := h.frame

theorem execDrbgHealthFail_canonical (h : Canonical s) {dt : Nat} {failing : Bool} :
    OutCanonical (execDrbgHealthFail dt failing s) := OutCanonical.ite h.after.setFld.raise.next (h.after.setFld.on (fun _ hu => hu.challenge)).next

theorem execUnlockChal_canonical (h : Canonical s) {dt : Nat} :
    OutCanonical (execUnlockChal dt s) := OutCanonical.ite (Canonical.ite h.after.challenge h.after.frame).next h.after.next

theorem execUnlockResp_canonical (h : Canonical s) {dt : Nat} {resp : List Byte} :
    OutCanonical (execUnlockResp dt resp s) := by
  unfold execUnlockResp
  dsimp only
  split
  · exact OutCanonical.ite h.after.frame.setFld.next h.after.frame.raise.next
  · exact h.after.next

theorem Canonical.runnelEnable (h : Canonical s) {n : Nat} :
    Canonical (s.runnelEnable n) := Canonical.ite h.setFld.setRunnel.setFld h.setFld.raise

theorem Canonical.freeIndex (h : Canonical s) {c : Nat} :
    Canonical (s.freeIndex c) := Canonical.ite h.freeChain h

theorem Canonical.flushDesc (h : Canonical s) {n : Nat} {ws : List RunWord} :
    Canonical (s.flushDesc n ws) := Canonical.ite h.deliverTx h.deliverTx

theorem Canonical.flushPair (h : Canonical s) {ws : List RunWord} :
    Canonical (s.flushPair ws) := Canonical.ite h (Canonical.ite (Canonical.ite h h.freeIndex) (Canonical.ite h h.freeIndex).freeIndex)

theorem Canonical.discardRecord (h : Canonical s) {n : Nat} {ws : List RunWord} :
    Canonical (s.discardRecord n ws) := by
  unfold State.discardRecord
  dsimp only
  split
  · exact h.bump.noteBad.flushDesc
  · exact h.bump.noteBad.flushPair
  · exact h.bump.noteBad

theorem Canonical.discard (h : Canonical s) {n k : Nat} :
    Canonical (s.discard n k) := h.setRunTurn.setRunnel.judgeMarks.foldl fun _ _ hu => hu.discardRecord

theorem Canonical.flushStop (h : Canonical s) {n : Nat} :
    Canonical (s.flushStop n) := h.setRunnel.setFld.raise

theorem Canonical.runnelOff (h : Canonical s) {n : Nat} :
    Canonical (s.runnelOff n) := h.setRunnel.setFld.on (fun _ hu => hu.flushStop)

theorem Canonical.runnelDisable (h : Canonical s) {n : Nat} :
    Canonical (s.runnelDisable n) :=
    Canonical.ite h (Canonical.ite (h.setRunnel.runnelOff.foldl fun _ _ hu => hu.lostPush)
        (h.setRunnel.setRunTurn.setRunnel.judgeMarks.discard.setRunTurn.setRunnel.judgeMarks.foldl fun _ _ hu => hu.lostPush))

theorem Canonical.runCfgWrite (h : Canonical s) {n : Nat} {d : Word} :
    Canonical (s.runCfgWrite n d) := by
  unfold State.runCfgWrite
  dsimp only
  split
  · exact (Canonical.ite h.setReg (h.on (fun _ hu => hu.raise))).runnelEnable
  · exact (Canonical.ite h.setReg (h.on (fun _ hu => hu.raise))).runnelDisable
  · exact Canonical.ite h.setReg (h.on (fun _ hu => hu.raise))

theorem execRunnelEnable_canonical (h : Canonical s) {n : Nat} {d : Word} :
    OutCanonical (execRunnelEnable n d s) := (h.powered (fun _ hu => hu.runCfgWrite)).next

theorem execRunnelDisable_canonical (h : Canonical s) {n : Nat} {d : Word} :
    OutCanonical (execRunnelDisable n d s) := (h.powered (fun _ hu => hu.runCfgWrite)).next

theorem execRunnelDisableDone_canonical (h : Canonical s) {n : Nat} :
    OutCanonical (execRunnelDisableDone n s) := OutCanonical.ite h.runnelOff.next h.next

theorem Canonical.serveWaiting (h : Canonical s) {n : Nat} :
    Canonical (s.serveWaiting n) := by
  unfold State.serveWaiting
  dsimp only
  split
  · exact h.setRunnel.land
  · exact h.setRunnel.land
  · exact h

theorem Canonical.serveEngines (h : Canonical s) {n k : Nat} : Canonical (s.serveEngines n k) := by
  induction k generalizing s with
  | zero => exact h
  | succ k ih =>
    unfold State.serveEngines
    split
    · exact ih h.serveWaiting
    · exact h

theorem Canonical.serveAll (h : Canonical s) {n : Nat} :
    Canonical (s.serveAll n) := h.serveEngines

theorem execEnginePushRoom_canonical (h : Canonical s) {n : Nat} :
    OutCanonical (execEnginePushRoom n s) := (Canonical.ite h h.serveWaiting).next

theorem Canonical.hostPush (h : Canonical s) {n : Nat} {ws : List RunWord} :
    Canonical (s.hostPush n ws) := Canonical.ite h.lostPush (Canonical.ite h.serveAll.land h.serveAll.endCycle.raise.bump)

theorem Canonical.hpushCtlWrite (h : Canonical s) {d : Word} :
    Canonical (s.hpushCtlWrite d) := Canonical.ite h h.hostPush

theorem execHostPush_canonical (h : Canonical s) {d : Word} :
    OutCanonical (execHostPush d s) := (h.powered (fun _ hu => hu.hpushCtlWrite)).next

theorem Canonical.hostPop (h : Canonical s) {n : Nat} :
    Canonical (s.hostPop n).2 := by
  unfold State.hostPop
  split
  · exact h.setRunTurn.setRunnel.judgeMarks.bump.noteBad
  · exact h.raise

theorem execHostPop_canonical (h : Canonical s) {a : PopAt} :
    OutCanonical (execHostPop a s) := (h.after.powered (fun _ hu => hu.hostPop)).next

theorem Canonical.hallocWrite (h : Canonical s) {d : Word} :
    Canonical (s.hallocWrite d) := Canonical.ite h h.frame.setFld

theorem execHostAlloc_canonical (h : Canonical s) {d : Word} :
    OutCanonical (execHostAlloc d s) := (h.powered (fun _ hu => hu.hallocWrite)).next

theorem execHostAllocDone_canonical (h : Canonical s) :
    OutCanonical (execHostAllocDone s) := by
  unfold execHostAllocDone
  dsimp only
  split
  · exact h.next
  · split
    · split
      · next heq => exact (h.frame.setFld.allocFloor.of_snd heq).setFld.setFld.next
      · next heq => exact (h.frame.setFld.allocFloor.of_snd heq).setFld.next
    · exact h.frame.setFld.setFld.next

theorem execHostFree_canonical (h : Canonical s) {d : Word} :
    OutCanonical (execHostFree d s) := (h.powered (fun _ hu => hu.freeChain)).next

theorem Canonical.flushWrite (h : Canonical s) {n : Nat} :
    Canonical (s.flushWrite n) := h.setRunnel.setFld

theorem execRunnelFlush_canonical (h : Canonical s) {n : Nat} :
    OutCanonical (execRunnelFlush n s) := (h.powered (fun _ hu => hu.flushWrite)).next

theorem execFlushDone_canonical (h : Canonical s) {n : Nat} :
    OutCanonical (execFlushDone n s) := by
  unfold execFlushDone
  dsimp only
  split
  · exact h.next
  · exact OutCanonical.ite h.next h.discard.flushStop.next

theorem Canonical.runEvtWrite (h : Canonical s) {n : Nat} {d : Word} :
    Canonical (s.runEvtWrite n d) := h.setRunTurn.setReg.rearm

theorem Canonical.holdMarks (h : Canonical s) {n : Nat} :
    Canonical (s.holdMarks n) := h.setRunTurn

theorem Canonical.setThr (h : Canonical s) {t : Nat} {th : OclThread} :
    Canonical (s.setThr t th) := h

theorem Canonical.oclCount (h : Canonical s) {f : Fld} {t : Nat} :
    Canonical (s.oclCount f t) := h.on (fun _ hu => hu.bump)

theorem Canonical.wdHold (h : Canonical s) {t : Nat} :
    Canonical (s.wdHold t) := h.setThr

theorem Canonical.wdRestart (h : Canonical s) {t : Nat} :
    Canonical (s.wdRestart t) := h.setThr

theorem Canonical.wdKick (h : Canonical s) {t : Nat} :
    Canonical (s.wdKick t) := h.setThr

theorem Canonical.waitCount (h : Canonical s) {t : Nat} :
    Canonical (s.waitCount t) := Canonical.ite (h.setThr.on (fun _ hu => hu.count)) h

theorem Canonical.setThrState (h : Canonical s) {t st : Nat} :
    Canonical (s.setThrState t st) := h.waitCount.wdHold.setThr

theorem Canonical.enterWait (h : Canonical s) {t : Nat} {w : OclWait} :
    Canonical (s.enterWait t w) := h.setThrState.setThr

theorem Canonical.retire (h : Canonical s) {t : Nat} :
    Canonical (s.retire t) := (Canonical.ite h.setThrState h).setThr

theorem Canonical.specDrop (h : Canonical s) {cells : List Nat} {i : SpecItem} :
    Canonical (s.specDrop cells i) := by
  unfold State.specDrop
  dsimp only
  split
  · exact h.deliverTx
  · split
    · exact (h.nearSeen.setFrames.coexEnd.weirRelease.nearUpdate.on (fun _ hu => hu.raise)).deliverTx.idleTouch
    · exact h

theorem Canonical.specsDrop (h : Canonical s) {t : Nat} {cells : List Nat} :
    Canonical (s.specsDrop t cells) := h.frame.foldl fun _ _ hu => hu.specDrop

theorem Canonical.specRelease (h : Canonical s) {t : Nat} {i : SpecItem} {f : TxFrame} :
    Canonical (s.specRelease t i f) :=
    Canonical.ite (h.putTx.noteApproval.on (fun _ hu => hu.raise)).completeTx (Canonical.ite (h.putTx.noteApproval.on
        (fun _ hu => hu.raise)).oclCount.completeTx (h.putTx.noteApproval.on (fun _ hu => hu.raise)).issueProtect)

theorem Canonical.specSeal (h : Canonical s) {t : Nat} {i : SpecItem} :
    Canonical (s.specSeal t i) := by
  unfold State.specSeal
  dsimp only
  split
  · split
    · exact h.specRelease
    · exact h
  · split
    · exact h.noteRefusal.deliverTx
    · exact h.deliverTx

theorem Canonical.specsSeal (h : Canonical s) {t : Nat} :
    Canonical (s.specsSeal t) := h.frame.foldl fun _ _ hu => hu.specSeal

theorem Canonical.regionDrop (h : Canonical s) {t : Nat} :
    Canonical (s.regionDrop t) := by
  unfold State.regionDrop
  split
  · exact (h.setThr.foldl fun _ _ hu => hu.freeChain).specsDrop.oclCount
  · exact h

theorem Canonical.dropTo (h : Canonical s) {t cause : Nat} :
    Canonical (s.dropTo t cause) := by
  unfold State.dropTo
  split
  · exact h.regionDrop.setThrState.setThr
  · exact h

theorem Canonical.jetStart (h : Canonical s) {k : Nat} {again : Bool} :
    Canonical (s.jetStart k again) := h

theorem Canonical.clusterStart (h : Canonical s) {c : Nat} :
    Canonical (s.clusterStart c) := by
  unfold State.clusterStart
  split
  · exact h.frame.jetStart.bump
  · exact h

theorem Canonical.oclWake (h : Canonical s) {c : Nat} :
    Canonical (s.oclWake c) := h.clusterStart

theorem Canonical.oclEvent (h : Canonical s) {f : Fld} {t : Nat} :
    Canonical (s.oclEvent f t) := h.raise

theorem Canonical.thrInit (h : Canonical s) {t pc : Nat} :
    Canonical (s.thrInit t pc) := h.frame.setThrState.setThr

theorem Canonical.thrStart (h : Canonical s) {t : Nat} :
    Canonical (s.thrStart t) := Canonical.ite h.frame.regionDrop.thrInit h.oclEvent

theorem Canonical.thrStop (h : Canonical s) {t : Nat} :
    Canonical (s.thrStop t) := Canonical.ite h.regionDrop.setThrState h.oclEvent

theorem Canonical.haltNow (h : Canonical s) {t : Nat} :
    Canonical (s.haltNow t) := by
  unfold State.haltNow
  split
  · exact h.setThr
  · exact h.setThrState

theorem Canonical.thrHalt (h : Canonical s) {t : Nat} :
    Canonical (s.thrHalt t) := Canonical.ite h.haltNow h.oclEvent

theorem Canonical.resumeNow (h : Canonical s) {t : Nat} :
    Canonical (s.resumeNow t) := h.setThrState.wdRestart

theorem Canonical.thrResume (h : Canonical s) {t : Nat} :
    Canonical (s.thrResume t) := Canonical.ite h.resumeNow h.oclEvent

theorem Canonical.thrCtlWrite (h : Canonical s) {t : Nat} {d : Word} :
    Canonical (s.thrCtlWrite t d) := (((h.setReg.on (fun _ hu => hu.thrStart)).on (fun _ hu => hu.thrStop)).on (fun _ hu => hu.thrHalt)).on
        (fun _ hu => hu.thrResume)

theorem execThrStart_canonical (h : Canonical s) {t : Nat} {d : Word} :
    OutCanonical (execThrStart t d s) := (h.powered (fun _ hu => hu.oclWake.thrCtlWrite)).next

theorem execThrStop_canonical (h : Canonical s) {t : Nat} {d : Word} :
    OutCanonical (execThrStop t d s) := (h.powered (fun _ hu => hu.oclWake.thrCtlWrite)).next

theorem execThrHalt_canonical (h : Canonical s) {t : Nat} {d : Word} :
    OutCanonical (execThrHalt t d s) := (h.powered (fun _ hu => hu.oclWake.thrCtlWrite)).next

theorem execThrResume_canonical (h : Canonical s) {t : Nat} {d : Word} :
    OutCanonical (execThrResume t d s) := (h.powered (fun _ hu => hu.oclWake.thrCtlWrite)).next

theorem Canonical.wdWrite (h : Canonical s) {t : Nat} {d : Word} :
    Canonical (s.wdWrite t d) := Canonical.ite h.wdHold.setReg h.wdHold.setReg

theorem Canonical.dbgSet (h : Canonical s) {t r : Nat} {v : Word} :
    Canonical (s.dbgSet t r v) :=
    Canonical.ite h.setThr (Canonical.ite h.setThr (Canonical.ite h.setThr (Canonical.ite h.setThr (Canonical.ite h.wdKick (Canonical.ite
        h.setThr h)))))

theorem Canonical.dbgDataRead (h : Canonical s) {t : Nat} :
    Canonical (s.dbgDataRead t).2 := by
  unfold State.dbgDataRead
  split
  · exact h
  · exact h.oclEvent

theorem Canonical.dbgDataWrite (h : Canonical s) {t : Nat} {d : Word} :
    Canonical (s.dbgDataWrite t d) := Canonical.ite h.dbgSet h.oclEvent

theorem execDbgDataWrite_canonical (h : Canonical s) {t : Nat} {d : Word} :
    OutCanonical (execDbgDataWrite t d s) := (h.powered (fun _ hu => hu.oclWake.dbgDataWrite)).next

theorem Canonical.jDbgDataRead (h : Canonical s) :
    Canonical (s.jDbgDataRead).2 := by
  unfold State.jDbgDataRead
  split
  · exact h
  · exact h.raise

theorem Canonical.jDbgDataWrite (h : Canonical s) {d : Word} :
    Canonical (s.jDbgDataWrite d) := Canonical.ite h.dbgSet h.raise

theorem Canonical.jResume (h : Canonical s) :
    Canonical (s.jResume) := Canonical.ite h.resumeNow h

theorem Canonical.jHalt (h : Canonical s) :
    Canonical (s.jHalt) := Canonical.ite h.haltNow h

theorem Canonical.jDbgSelWrite (h : Canonical s) {d : Word} :
    Canonical (s.jDbgSelWrite d) := Canonical.ite ((h.setReg.on (fun _ hu => hu.jHalt)).on (fun _ hu => hu.jResume)) h.raise

theorem execJDbgHalt_canonical (h : Canonical s) {d : Word} :
    OutCanonical (execJDbgHalt d s) := (h.powered (fun _ hu => hu.jDbgSelWrite)).next

theorem execJDbgResume_canonical (h : Canonical s) {d : Word} :
    OutCanonical (execJDbgResume d s) := (h.powered (fun _ hu => hu.jDbgSelWrite)).next

end Sys2Proof.Machine
end

section
/-! PROOFS. The canonical form is kept by the boot, Silt, the flash and Ethernet. -/

namespace Sys2Proof.Machine

variable {s t : State}

theorem Canonical.blowKey (h : Canonical s) {slot hash : Nat} :
    Canonical (s.blowKey slot hash) := Canonical.ite h h.frame

theorem Canonical.firstKey (h : Canonical s) {r : Nat} :
    Canonical (s.firstKey r) := Canonical.ite h.blowKey h

theorem Canonical.keyActions (h : Canonical s) {r : Nat} :
    Canonical (s.keyActions r) := (Canonical.ite h.blowKey h).foldl fun _ _ hu => Canonical.ite hu.frame hu

theorem Canonical.keyActionsIf (h : Canonical s) {r : Nat} {good : Bool} :
    Canonical (s.keyActionsIf r good) := Canonical.ite h.keyActions h

theorem Canonical.writeHdr (h : Canonical s) {k : Nat} {x2 : BootHdr} :
    Canonical (s.writeHdr k x2) := h.flashErase.flashProgram

theorem Canonical.editHdr (h : Canonical s) {f : BootHdr → BootHdr} :
    Canonical (s.editHdr f) := by
  unfold State.editHdr
  split
  · exact h.writeHdr
  · exact h

theorem Canonical.loadBytes (h : Canonical s) {m o : Nat} {bs : List Byte} :
    Canonical (s.loadBytes m o bs) := h.memStore.memStore.memStore

theorem Canonical.loadSection (h : Canonical s) {r : Nat} {x : ImgSection} :
    Canonical (s.loadSection r x) := h.loadBytes

theorem Canonical.loadAll (h : Canonical s) {r : Nat} :
    Canonical (s.loadAll r) := h.foldl fun _ _ hu => hu.loadSection

theorem Canonical.enter (h : Canonical s) {r : Nat} {warm fallback : Bool} {result : Nat} :
    Canonical (s.enter r warm fallback result) := (Canonical.ite h.frame.setFld.setFld.setFld.setFld.setFld.setFld.setFld.siltPost
        h.frame.setFld.setFld.setFld.setFld.setFld.setFld.setFld).regionDrop.thrInit.setThr

theorem Canonical.romStop (h : Canonical s) :
    Canonical (s.romStop) := h.regionDrop.thrInit.setThrState.frame

theorem Canonical.bootFail (h : Canonical s) {r code : Nat} :
    Canonical (s.bootFail r code) := h.setFld.siltPost

theorem Canonical.tryCold (h : Canonical s) {r : Nat} :
    Canonical (s.tryCold r).2 := by
  unfold State.tryCold
  dsimp only
  split
  · exact Canonical.ite h.firstKey h
  · exact (Canonical.ite h.firstKey h).bootFail

theorem Canonical.bootFrom (h : Canonical s) {r : Nat} {good fallback : Bool} :
    Canonical (s.bootFrom r good fallback) := h.keyActionsIf.loadAll.enter

theorem Canonical.bootOther (h : Canonical s) {r : Nat} :
    Canonical (s.bootOther r) := by
  unfold State.bootOther
  dsimp only
  split
  · exact Canonical.ite (Canonical.ite h.tryCold.bootFrom h.tryCold.editHdr.romStop) h.romStop
  · exact h.romStop

theorem Canonical.bootHeaded (h : Canonical s) {x1 : BootHdr} :
    Canonical (s.bootHeaded x1) := by
  unfold State.bootHeaded
  dsimp only
  exact Canonical.ite (Canonical.ite (Canonical.ite h.editHdr h).tryCold.bootFrom (Canonical.ite h.editHdr h).tryCold.editHdr.bootOther)
      (Canonical.ite h.editHdr h).editHdr.bootOther

theorem Canonical.bootBare (h : Canonical s) :
    Canonical (s.bootBare) := by
  unfold State.bootBare
  dsimp only
  exact Canonical.ite h.tryCold.bootFrom (Canonical.ite h.tryCold.tryCold.bootFrom h.tryCold.tryCold.romStop)

theorem Canonical.romBoot (h : Canonical s) :
    Canonical (s.romBoot) := by
  unfold State.romBoot
  split
  · exact h.romStop
  · split
    · exact h.bootHeaded
    · exact h.bootBare

theorem Canonical.romStart (h : Canonical s) :
    Canonical (s.romStart) := Canonical.ite h h.thrInit.frame

theorem execBootRomStart_canonical (h : Canonical s) {dt : Nat} :
    OutCanonical (execBootRomStart dt s) := OutCanonical.ite (h.after.romStart.on (fun _ hu => hu.romBoot)).next h.next

theorem Canonical.loadTorn (h : Canonical s) {x : ImgSection} : Canonical (s.loadTorn x) := by
  have hf : Canonical ((List.range x.len).foldl (fun (p : List Byte × State) _ =>
      let (v, s) := p.2.fresh
      (p.1 ++ [BitVec.ofNat 8 v], s)) ([], s)).2 :=
    List.foldlRecOn (motive := fun p : List Byte × State => Canonical p.2) _ _ h fun _ hp _ _ => hp.fresh
  exact hf.loadBytes

theorem Canonical.loadWarm (h : Canonical s) {r : Nat} {xs : List ImgSection} : Canonical (s.loadWarm r xs).2 := by
  induction xs generalizing s with
  | nil => exact h
  | cons x xs ih =>
    unfold State.loadWarm
    split
    · exact h.loadTorn.pair
    · split
      · exact h.loadTorn.pair
      · exact ih h.loadSection

theorem Canonical.stopFrames (h : Canonical s) :
    Canonical (s.stopFrames) := (h.setInbox.foldl fun _ _ hu => hu.deliverTx).foldl fun _ _ hu => hu.foldl fun _ _ hv => hv.yieldFrame

theorem Canonical.stopAll (h : Canonical s) :
    Canonical (s.stopAll) := by
  unfold State.stopAll
  exact (h.frame.foldl fun _ _ hu => Canonical.ite hu.regionDrop.setThrState hu).stopFrames

theorem Canonical.warmLoad (h : Canonical s) {r : Nat} :
    Canonical (s.warmLoad r).2 := by
  unfold State.warmLoad
  split
  · exact h
  · split
    · exact h
    · exact h.loadWarm

theorem Canonical.warmGo (h : Canonical s) {r : Nat} {good : Bool} : Canonical (s.warmGo r good) := by
  unfold State.warmGo
  have hw := (h.firstKey (r := r)).stopAll.warmLoad (r := r)
  generalize (s.firstKey r).stopAll.warmLoad r = p at hw ⊢
  obtain ⟨code, t⟩ := p
  dsimp only
  split
  · exact hw.keyActionsIf.enter
  · split
    · exact hw.bootFail.editHdr.romStop
    · split
      · exact hw.bootFail.editHdr.warmLoad.keyActionsIf.enter
      · exact hw.bootFail.editHdr.warmLoad.bootFail.romStop

theorem Canonical.jBootWrite (h : Canonical s) {req : Nat} {d : Word} : Canonical (s.jBootWrite req d) := by
  unfold State.jBootWrite
  split
  · split
    · have hf := h.fresh
      generalize s.fresh = p at hf ⊢
      dsimp only
      split
      · exact hf.setFld
      · exact Canonical.ite hf.setFld hf.warmGo
    · exact h.fresh.setFld
  · exact h

theorem execActivate_canonical (h : Canonical s) {dt req : Nat} :
    OutCanonical (execActivate dt req s) := (h.after.powered (fun _ hu => hu.jBootWrite)).next

theorem Canonical.eraseAhead (h : Canonical s) :
    Canonical (s.eraseAhead) := h.foldl fun _ _ hu => Canonical.ite hu hu.flsSubmit

theorem Canonical.siltStart (h : Canonical s) :
    Canonical (s.siltStart) := h.flushAsk.siltLoad.flsServe

theorem Canonical.siltProgrammed (h : Canonical s) {w : FlsOp} :
    Canonical (s.siltProgrammed w) := Canonical.ite h.frame.setSiltAt.eraseAhead h.setSiltAt

theorem Canonical.siltFailed (h : Canonical s) {w : FlsOp} :
    Canonical (s.siltFailed w) := h.frame.setSiltAt.raise.siltSubmit.flsServe.eraseAhead

theorem Canonical.siltOpDone (h : Canonical s) {w : FlsOp} {fail : Bool} :
    Canonical (s.siltOpDone w fail) := Canonical.ite (Canonical.ite h.siltFailed h.siltProgrammed) h

theorem Canonical.siltDone (h : Canonical s) :
    Canonical (s.siltDone) :=
    Canonical.ite h.frame.setFld.setFld.siltStart ((h.frame.setFld.setFld.raise.flsServe.on (fun _ hu => hu.frame.siltPost)).on
        (fun _ hu => hu.siltStart))

theorem Canonical.siltPfail (h : Canonical s) :
    Canonical (s.siltPfail) := Canonical.ite h.siltLoad.frame.suspendErase.flsServe h.siltStart

theorem Canonical.setBuffer (h : Canonical s) {rs : List (List Byte)} :
    Canonical (s.setBuffer rs) := (h.foldl fun _ _ hu => hu.memWrites).frame.setFld

theorem Canonical.restoreBuffer (h : Canonical s) {h0 s0 q0 : Nat} :
    Canonical (s.restoreBuffer h0 s0 q0) := h.siltRecords.siltRecords.setBuffer.siltSettle

theorem Canonical.ringWritePoint (h : Canonical s) {k q : Nat} :
    Canonical (s.ringWritePoint k q) := Canonical.ite h.frame.setSiltAt h.frame.setSiltAt

theorem Canonical.continueFrom (h : Canonical s) {r : List Byte} :
    Canonical (s.continueFrom r) := h.restoreBuffer.setFld.setFld.setFld

theorem Canonical.ringScan (h : Canonical s) : Canonical s.ringScan := by
  unfold State.ringScan
  dsimp only
  refine Canonical.on (Canonical.on (Canonical.setFld ?_) fun _ hu => hu.eraseAhead) fun _ hu => hu.siltStart
  split
  · exact h
  · exact h.setSiltAt
  · split
    · exact h.ringWritePoint.continueFrom
    · exact h.ringWritePoint

theorem execFlashDiscoveryDone_canonical (h : Canonical s) {dt mode density : Nat} :
    OutCanonical (execFlashDiscoveryDone dt mode density s) :=
    OutCanonical.ite h.after.next (OutCanonical.ite h.advanceTo.frame.setFld.setFld.flsServe.next h.advanceTo.frame.raise.next)

theorem Canonical.setFlsBuf (h : Canonical s) {i : Nat} {bs : List Byte} :
    Canonical (s.setFlsBuf i bs) := h.foldl fun _ _ hu => hu.setReg

theorem Canonical.flsFinish (h : Canonical s) {i : Nat} {ok : Bool} {reason : Nat} :
    Canonical (s.flsFinish i ok reason) := h.setFld.setFld.setFld.raise.on (fun _ hu => hu.siltInternal)

theorem Canonical.flsCmdWrite (h : Canonical s) {i op len : Nat} :
    Canonical (s.flsCmdWrite i op len) := by
  unfold State.flsCmdWrite
  dsimp only
  split
  · exact h.raise
  · split
    · exact (h.setFld.on (fun _ hu => hu.bump)).flsFinish
    · exact h.setFld.flsSubmit

theorem execFlsRead_canonical (h : Canonical s) {i len : Nat} :
    OutCanonical (execFlsRead i len s) := (h.powered (fun _ hu => hu.flsCmdWrite)).next

theorem execFlsProgram_canonical (h : Canonical s) {i len : Nat} :
    OutCanonical (execFlsProgram i len s) := (h.powered (fun _ hu => hu.flsCmdWrite)).next

theorem execErase4k_canonical (h : Canonical s) {i : Nat} :
    OutCanonical (execErase4k i s) := (h.powered (fun _ hu => hu.flsCmdWrite)).next

theorem execErase64k_canonical (h : Canonical s) {i : Nat} :
    OutCanonical (execErase64k i s) := (h.powered (fun _ hu => hu.flsCmdWrite)).next

theorem Canonical.flsCmdEnd (h : Canonical s) {i : Nat} {w : FlsOp} {fail : Bool} :
    Canonical (s.flsCmdEnd i w fail) := Canonical.ite h.setFlsBuf.flsFinish (Canonical.ite h.flsFinish h.flsFinish)

theorem execFlsCmdDone_canonical (h : Canonical s) {dt : Nat} {fail : Bool} :
    OutCanonical (execFlsCmdDone dt fail s) := by
  unfold execFlsCmdDone
  dsimp only
  split
  · exact OutCanonical.ite (h.on (fun _ hu => hu.siltLoad.flsServe)).next (Canonical.ite (Canonical.ite (h.on
        (fun _ hu => hu.siltLoad.flsServe)).after.raise.bump.siltPost (h.on
        (fun _ hu => hu.siltLoad.flsServe)).after.flsEffect).frame.siltOpDone (Canonical.ite (h.on
        (fun _ hu => hu.siltLoad.flsServe)).after.raise.bump.siltPost (h.on
        (fun _ hu => hu.siltLoad.flsServe)).after.flsEffect).frame.flsCmdEnd).flsServe.next
  · exact (h.on (fun _ hu => hu.siltLoad.flsServe)).next

theorem Canonical.setEthPort (h : Canonical s) {p : Nat} {v : EthPort} :
    Canonical (s.setEthPort p v) := h

theorem Canonical.ptpRelay (h : Canonical s) {p : Nat} {b : List Byte} {t : Nat} :
    Canonical (s.ptpRelay p b t) := by
  unfold State.ptpRelay
  split
  · exact Canonical.ite h (h.foldl fun _ _ hu => Canonical.ite hu.setEthPort hu)
  · exact h

theorem Canonical.relayCopy (h : Canonical s) {r : EthRelay} :
    Canonical (s.relayCopy r).2 := by
  unfold State.relayCopy
  split
  · split
    · exact h.frame.bump
    · exact h
  · exact h

theorem Canonical.ethAccept (h : Canonical s) {p : Nat} {f : Passing} {b : List Byte} :
    Canonical (s.ethAccept p f b) := by
  unfold State.ethAccept
  split
  · next heq => exact (h.alloc.of_snd heq).putFrame.bump.frame
  · next heq => exact (h.alloc.of_snd heq).bump.raise

theorem Canonical.ethCheck (h : Canonical s) {p t : Nat} {f : Passing} :
    Canonical (s.ethCheck p t f) :=
    Canonical.ite h.bump (Canonical.ite h.bump (Canonical.ite h.ptpRelay.bump (Canonical.ite h.ptpRelay.ethAccept h.ptpRelay.bump)))

theorem execEthRxFrame_canonical (h : Canonical s) {dt p len : Nat} {bytes : List Byte} :
    OutCanonical (execEthRxFrame dt p len bytes s) := by
  unfold execEthRxFrame
  dsimp only
  exact OutCanonical.ite (h.after.advance.eddyAt.foldl fun _ _ hu => hu.ethCheck).next h.after.next

theorem Canonical.egressDone (h : Canonical s) {runnel : Nat} {all : Bool} {drop : State → State} {block w0 : Nat} {cookie : Word} {st : Status}
    {ts : Nat} (hdrop : ∀ u, Canonical u → Canonical (drop u)) :
    Canonical (s.egressDone runnel all drop block w0 cookie st ts) :=
    Canonical.ite ((h.on (fun _ hu => hdrop _ hu)).on (fun _ hu => hu.siltInternal)).enginePush ((h.on (fun _ hu => hdrop _ hu)).on
        (fun _ hu => hu.siltInternal))

theorem Canonical.ethDone (h : Canonical s) {p w0 : Nat} {cookie : Word} {st : Status} {ts : Nat} {frees : Bool} :
    Canonical (s.ethDone p w0 cookie st ts frees) := (h.on (fun _ hu => hu.freeChain)).egressDone (fun _ hu => hu.bump)

theorem Canonical.ethStart (h : Canonical s) {p : Nat} {t : EthTx} :
    Canonical (s.ethStart p t) := h.setEthPort.setFld

theorem Canonical.ethRecord (h : Canonical s) {p w0 : Nat} {cookie : Word} :
    Canonical (s.ethRecord p w0 cookie) := by
  unfold State.ethRecord
  split
  · exact Canonical.ite h.ethDone (by split <;> exact h.ethDone)
  · exact Canonical.ite h.ethDone (by split; exacts [h.ethDone, Canonical.ite h.readWords.frame.ethDone h.readWords.frame.ethStart])

theorem Canonical.ethPop (h : Canonical s) {p : Nat} :
    Canonical (s.ethPop p) :=
    Canonical.ite (Canonical.ite h.setRunTurn.setRunnel.judgeMarks.bump.noteBad.ethDone h.setRunTurn.setRunnel.judgeMarks.bump.noteBad.ethRecord) h

theorem execEthTxRecord_canonical (h : Canonical s) {dt p : Nat} :
    OutCanonical (execEthTxRecord dt p s) := by
  unfold execEthTxRecord
  dsimp only
  split
  · split
    · exact h.after.setEthPort.relayCopy.ethStart.next
    · exact h.after.ethPop.next
  · exact h.after.next

theorem Canonical.ethEmit (h : Canonical s) {p : Nat} {bs : List Byte} :
    Canonical (s.ethEmit p bs) := by
  unfold State.ethEmit
  split; next heq => exact (h.eddyAt.of_snd heq).frame

theorem Canonical.ethIdle (h : Canonical s) {p : Nat} :
    Canonical (s.ethIdle p) := h.setEthPort.setFld

theorem execEthTxDone_canonical (h : Canonical s) {dt p : Nat} :
    OutCanonical (execEthTxDone dt p s) := by
  unfold execEthTxDone
  dsimp only
  split
  · split
    · exact (h.after.ethIdle.ethEmit.on (fun _ hu => hu.bump)).ethDone.next
    · exact (h.after.ethIdle.ethEmit.on (fun _ hu => hu.bump)).next
  · exact h.next

theorem Canonical.ethCut (h : Canonical s) {p : Nat} :
    Canonical (s.ethCut p) := by
  unfold State.ethCut
  dsimp only
  split
  · split
    · exact h.fresh.ethIdle.ethEmit.ethDone
    · exact h.fresh.ethIdle.ethEmit
  · exact h

theorem Canonical.ethLinkFall (h : Canonical s) {p : Nat} :
    Canonical (s.ethLinkFall p) := Canonical.ite h h.ethCut.unhold.unhold.setEthPort.setReg.raise

theorem execEthLinkUp_canonical (h : Canonical s) {dt p : Nat} :
    OutCanonical (execEthLinkUp dt p s) := OutCanonical.ite h.after.setFld.setFld.setFld.raise.next h.after.next

theorem Canonical.ethLinkLost (h : Canonical s) {p : Nat} {cut : Bool} :
    Canonical (s.ethLinkLost p cut) := (h.on (fun _ hu => hu.bump)).ethLinkFall

theorem execEthLinkDown_canonical (h : Canonical s) {dt p : Nat} {cut : Bool} :
    OutCanonical (execEthLinkDown dt p cut s) := h.after.ethLinkLost.next

theorem Canonical.ethCtlWrite (h : Canonical s) {p : Nat} {d : Word} :
    Canonical (s.ethCtlWrite p d) := ((Canonical.ite h.setReg (h.setReg.on (fun _ hu => hu.raise))).on (fun _ hu => hu.setEthPort)).on
        (fun _ hu => hu.frame.ethLinkLost)

theorem Canonical.ethParamWrite (h : Canonical s) {id : RegId} {mask : Word} {p : Nat} {d : Word} :
    Canonical (s.ethParamWrite id mask p d) := Canonical.ite h.raise h.setReg

theorem execEthEnable_canonical (h : Canonical s) {p : Nat} {d : Word} :
    OutCanonical (execEthEnable p d s) := (h.powered (fun _ hu => hu.ethCtlWrite)).next

end Sys2Proof.Machine
end

section
/-! PROOFS. The canonical form is kept by the host link, memory integrity, Clepsydra, the schedule and Twin. -/

namespace Sys2Proof.Machine

variable {s t : State}

theorem Canonical.hostAnswer (h : Canonical s) {bs : List Byte} {bad : Bool} :
    Canonical (s.hostAnswer bs bad) := h

theorem Canonical.bar2Write (h : Canonical s) {o : Nat} {bs : List Byte} :
    Canonical (s.bar2Write o bs) := h.memStore

theorem Canonical.bar2Read (h : Canonical s) {o n : Nat} :
    Canonical (s.bar2Read o n) := h.memReads.hostAnswer

theorem execBar2Access_canonical (h : Canonical s) {dt : Nat} {write : Bool} {o n : Nat} {bs : List Byte} :
    OutCanonical (execBar2Access dt write o n bs s) :=
    OutCanonical.ite h.after.next (OutCanonical.ite h.after.bar2Write.next (OutCanonical.ite h.after.bar2Read.next h.after.next))

theorem Canonical.setAer (h : Canonical s) {a : AerState} :
    Canonical (s.setAer a) := h

theorem Canonical.configSet (h : Canonical s) {mps mrrs : Nat} {d3hot : Bool} :
    Canonical (s.configSet mps mrrs d3hot) := h

theorem Canonical.configWrite (h : Canonical s) {w : ConfigWrite} :
    Canonical (s.configWrite w) := by
  unfold State.configWrite
  split
  · split
    · exact h.configSet.frame.setAer
    · exact h.configSet.setAer
  · split
    · exact h.frame.setAer
    · exact h.setAer

theorem Canonical.setRing (h : Canonical s) {n : Nat} {r : HostRing} :
    Canonical (s.setRing n r) := h

theorem Canonical.ringStop (h : Canonical s) {n : Nat} :
    Canonical (s.ringStop n) := h.setRing.setFld.settleVector

theorem Canonical.ringError (h : Canonical s) {n : Nat} :
    Canonical (s.ringError n) := h.ringStop.setFld

theorem Canonical.ringLose (h : Canonical s) {n : Nat} :
    Canonical (s.ringLose n) := Canonical.ite h.popWords.bump h

theorem Canonical.ringsStop (h : Canonical s) {popped : List Nat} :
    Canonical (s.ringsStop popped) := (h.foldl fun _ _ hu => hu.on (fun _ hv => hv.ringLose)).foldl fun _ _ hu => hu.ringStop

theorem Canonical.ringCtlWrite (h : Canonical s) {n : Nat} {d : Word} {busy : Bool} :
    Canonical (s.ringCtlWrite n d busy) := by
  unfold State.ringCtlWrite
  dsimp only
  split
  · exact Canonical.ite (Canonical.ite h.setReg h.setReg).setReg.setRing.settleVector.setFld (Canonical.ite h.setReg
        h.setReg).setReg.setRing.settleVector.setFld
  · exact (Canonical.ite h.setReg h.setReg).ringStop.setRing
  · exact Canonical.ite h.setReg h.setReg

theorem execRingEnable_canonical (h : Canonical s) {n : Nat} {d : Word} :
    OutCanonical (execRingEnable n d s) := (h.powered (fun _ hu => hu.ringCtlWrite)).next

theorem execRingDisable_canonical (h : Canonical s) {n : Nat} {busy : Bool} {d : Word} :
    OutCanonical (execRingDisable n busy d s) := (h.powered (fun _ hu => hu.ringCtlWrite)).next

theorem Canonical.ringParamWrite (h : Canonical s) {id : RegId} {n : Nat} {d : Word} :
    Canonical (s.ringParamWrite id n d) := Canonical.ite h h.setReg

theorem Canonical.beyondReach (h : Canonical s) {n idx : Nat} :
    Canonical (s.beyondReach n idx) := h.ringError.setRing

theorem Canonical.unstop (h : Canonical s) {n k : Nat} (e : s.unstop n = some (k, t)) : Canonical t := by
  unfold State.unstop at e
  split at e
  · split at e
    · obtain ⟨-, rfl⟩ := Prod.mk.inj (Option.some.inj e)
      exact h.setRing.setFld.setFld
    · cases e
  · cases e

theorem Canonical.doorbell (h : Canonical s) {n idx : Nat} :
    Canonical (s.doorbell n idx) :=
    Canonical.ite h.setRing.settleVector (Canonical.ite (Canonical.ite h.setRing.settleVector.setFld h.setRing.settleVector.beyondReach)
        (Canonical.ite h.setRing.settleVector.setFld h.setRing.settleVector.beyondReach))

theorem execRingDoorbell_canonical (h : Canonical s) {n idx : Nat} :
    OutCanonical (execRingDoorbell n idx s) := (h.powered (fun _ hu => hu.doorbell)).next

theorem Canonical.ringSignal (h : Canonical s) {n : Nat} :
    Canonical (s.ringSignal n) := h.setRing.sendVector

theorem Canonical.hostWrite (h : Canonical s) {a : Nat} {bs : List Byte} :
    Canonical (s.hostWrite a bs) := h

theorem Canonical.ringMoved (h : Canonical s) {n index : Nat} :
    Canonical (s.ringMoved n index) :=
    Canonical.ite h.hostWrite.setRing (Canonical.ite h.hostWrite.setRing.setRing.ringSignal h.hostWrite.setRing.setRing)

theorem Canonical.ringMove (h : Canonical s) {n : Nat} {f : State → State} (hf : ∀ u, Canonical u → Canonical (f u)) :
    Canonical (s.ringMove n f) := by
  unfold State.ringMove
  split
  · next heq => exact (hf _ (h.unstop heq)).doorbell
  · exact hf s h

theorem Canonical.ringIn (h : Canonical s) {n : Nat} {ws : List Word} :
    Canonical (s.ringIn n ws) := Canonical.ite (h.setFld.on (fun _ hu => hu.bump)).ringPush.ringMoved h

theorem execRingDmaReadDone_canonical (h : Canonical s) {dt n : Nat} {ws : List Word} :
    OutCanonical (execRingDmaReadDone dt n ws s) := (h.after.ringMove (fun _ hu => hu.ringIn)).next

theorem Canonical.ringOut (h : Canonical s) {n : Nat} :
    Canonical (s.ringOut n) := Canonical.ite
        (h.setRunTurn.setRunnel.judgeMarks.bump.noteBad.foldl fun _ _ hu => hu.hostWrite).bump.setFld.ringMoved h

theorem execRingRecordPop_canonical (h : Canonical s) {dt n : Nat} :
    OutCanonical (execRingRecordPop dt n s) := (h.after.ringMove (fun _ hu => hu.ringOut)).next

theorem execRingCoalTimer_canonical (h : Canonical s) {n : Nat} :
    OutCanonical (execRingCoalTimer n s) := by
  unfold execRingCoalTimer
  dsimp only
  split
  · exact h.advanceTo.endCycle.ringSignal.next
  · exact h.next

theorem execRingDmaError_canonical (h : Canonical s) {e : DmaFailure} {n : Nat} :
    OutCanonical (execRingDmaError e n s) := OutCanonical.ite h.after.setAer.ringError.raise.bump.siltPost.next h.after.next

theorem Canonical.pcieDown (h : Canonical s) :
    Canonical (s.pcieDown) := h.setFld.setFld.setFld

theorem execPcieLinkDown_canonical (h : Canonical s) {dt : Nat} {popped : List Nat} :
    OutCanonical (execPcieLinkDown dt popped s) := OutCanonical.ite h.after.ringsStop.pcieDown.raise.next h.after.next

theorem Canonical.hotReset (h : Canonical s) {popped : List Nat} :
    Canonical (s.hotReset popped) := (h.ringsStop.pcieDown.setFld.setFld.frame.foldl fun _ _ hu => hu.foldl fun _ _ hv => hv.setReg).raise

theorem execHotReset_canonical (h : Canonical s) {dt : Nat} {popped : List Nat} :
    OutCanonical (execHotReset dt popped s) := (h.after.powered (fun _ hu => hu.hotReset)).next

theorem execPciePerst_canonical (h : Canonical s) {p : Low} {popped : List Nat} :
    OutCanonical (execPciePerst p popped s) := by
  unfold execPciePerst
  split; next heq => exact ((h.after.filtered.of_snd heq).on (fun _ hu => hu.after.powered (fun _ hv => hv.hotReset))).next

theorem execBusMasterClear_canonical (h : Canonical s) {dt : Nat} {cfg : ConfigWrite} {popped : List Nat} :
    OutCanonical (execBusMasterClear dt cfg popped s) :=
    OutCanonical.ite h.after.next (OutCanonical.ite h.after.configWrite.setFld.next (OutCanonical.ite h.after.configWrite.ringsStop.setFld.next
        h.after.configWrite.next))

theorem execPcieLinkUp_canonical (h : Canonical s) {dt width speed : Nat} :
    OutCanonical (execPcieLinkUp dt width speed s) := OutCanonical.ite h.after.setFld.setFld.setFld.raise.next h.after.next

theorem Canonical.ingressEnd (h : Canonical s) {p : Wired} {st : Status} :
    Canonical (s.ingressEnd p st) := (h.frame.on (fun _ hu => hu.siltInternal)).pushPair

theorem Canonical.takeIngress (h : Canonical s) {ws : List RunWord} :
    Canonical (s.takeIngress ws) := Canonical.ite h.ingressEnd (Canonical.ite h.freeChain.ingressEnd (Canonical.ite h.ingressEnd h.frame))

theorem execHostIngressRecord_canonical (h : Canonical s) {dt : Nat} :
    OutCanonical (execHostIngressRecord dt s) := OutCanonical.ite h.after.setRunTurn.setRunnel.judgeMarks.bump.noteBad.takeIngress.next h.after.next

theorem Canonical.skimBegin (h : Canonical s) :
    Canonical (s.skimBegin) := (h.frame.setFld.setFld.setFld.foldl fun _ _ hu => hu.setReg).setFld

theorem Canonical.skimCtlWrite (h : Canonical s) {d : Word} :
    Canonical (s.skimCtlWrite d) :=
    Canonical.ite (Canonical.ite ((h.on (fun _ hu => hu.setFld)).on (fun _ hu => hu.frame)).raise ((h.on (fun _ hu => hu.setFld)).on
        (fun _ hu => hu.frame)).skimBegin) ((h.on (fun _ hu => hu.setFld)).on (fun _ hu => hu.frame))

theorem execSkimStart_canonical (h : Canonical s) {m : Nat} :
    OutCanonical (execSkimStart m s) := (h.powered (fun _ hu => hu.skimCtlWrite)).next

theorem execSkimAbort_canonical (h : Canonical s) :
    OutCanonical (execSkimAbort s) := (h.powered (fun _ hu => hu.skimCtlWrite)).next

theorem Canonical.skimParamWrite (h : Canonical s) {id : RegId} {d : Word} :
    Canonical (s.skimParamWrite id d) := Canonical.ite h h.setReg

theorem Canonical.skimNote (h : Canonical s) {w : Nat} {prior : Bool} :
    Canonical (s.skimNote w prior) := Canonical.ite h.bump.setFld.setFld.setFld h.bump

theorem Canonical.skimRead (h : Canonical s) {m w : Nat} :
    Canonical (s.skimRead m w) := by
  unfold State.skimRead
  dsimp only
  exact Canonical.ite h.memRead.skimNote (h.memRead.on (fun _ hu => hu.bump))

theorem execSkimWord_canonical (h : Canonical s) {dt : Nat} :
    OutCanonical (execSkimWord dt s) := by
  unfold execSkimWord
  split
  · exact OutCanonical.ite h.next h.after.skimRead.frame.next
  · exact h.next

theorem execSkimDone_canonical (h : Canonical s) :
    OutCanonical (execSkimDone s) := by
  unfold execSkimDone
  split
  · exact OutCanonical.ite h.frame.setFld.setFld.raise.next h.next
  · exact h.next

theorem Canonical.flipCtlWrite (h : Canonical s) {d : Word} :
    Canonical (s.flipCtlWrite d) := Canonical.ite h (Canonical.ite h.setFld.setFld (h.setReg.on (fun _ hu => Canonical.ite hu.raise hu.setFld)))

theorem execFlipArm_canonical (h : Canonical s) {d : Word} :
    OutCanonical (execFlipArm d s) := (h.powered (fun _ hu => hu.flipCtlWrite)).next

theorem execFlipLock_canonical (h : Canonical s) :
    OutCanonical (execFlipLock s) := (h.powered (fun _ hu => hu.flipCtlWrite)).next

theorem Canonical.flipParamWrite (h : Canonical s) {id : RegId} {mask d : Word} :
    Canonical (s.flipParamWrite id mask d) := Canonical.ite h h.setReg

theorem Canonical.nowLatch (h : Canonical s) :
    Canonical (s.nowLatch) := h.setFld

theorem execNowSRead_canonical (h : Canonical s) {dt : Nat} :
    OutCanonical (execNowSRead dt s) := (h.after.powered (fun _ hu => hu.nowLatch)).next

theorem Canonical.clpStart (h : Canonical s) :
    Canonical (s.clpStart) := Canonical.ite (h.frame.on (fun _ hu => hu.frame)).frame.setFld (h.frame.on
        (fun _ hu => hu.frame)).frame.raise.siltPost

theorem execCisternTrimCorrect_canonical (h : Canonical s) :
    OutCanonical (execCisternTrimCorrect s) := by
  unfold execCisternTrimCorrect
  split
  · exact h.advanceTo.next
  · exact h.next

theorem Canonical.rejectSample (h : Canonical s) :
    Canonical (s.rejectSample) := h.bump.raise.frame.on (fun _ hu => hu.frame.raise)

theorem Canonical.acceptSample (h : Canonical s) {off : Int} {interval : Nat} :
    Canonical (s.acceptSample off interval) := h.frame.lower.bump.setFld.setFld.setFld

theorem Canonical.sample (h : Canonical s) {off : Int} {interval : Nat} :
    Canonical (s.sample off interval) := Canonical.ite h.rejectSample h.acceptSample

theorem Canonical.specLate (h : Canonical s) {f : TxFrame} :
    Canonical (s.specLate f) := h

theorem Canonical.overtaken (h : Canonical s) {j : Nat} {f : TxFrame} :
    Canonical (s.overtaken j f) := by
  unfold State.overtaken
  split
  · split
    · exact h.specLate
    · exact h.completeTx
  · exact h

theorem Canonical.shiftTimes (h : Canonical s) {d : Int} :
    Canonical (s.shiftTimes d) := h

theorem Canonical.jumpTo (h : Canonical s) {q : Nat} :
    Canonical (s.jumpTo q) := h.frame.shiftTimes.lower.raise.foldl fun _ _ hu => hu.foldl fun _ _ hv => hv.overtaken

theorem Canonical.clpSet (h : Canonical s) :
    Canonical (s.clpSet) := Canonical.ite h.raise h.jumpTo.setFld.setFld

theorem Canonical.clpStep (h : Canonical s) :
    Canonical (s.clpStep) := Canonical.ite h.raise h.jumpTo

theorem execSet_canonical (h : Canonical s) {dt : Nat} :
    OutCanonical (execSet dt s) := (h.after.powered (fun _ hu => hu.clpSet)).next

theorem execStep_canonical (h : Canonical s) {dt : Nat} :
    OutCanonical (execStep dt s) := (h.after.powered (fun _ hu => hu.clpStep)).next

theorem Canonical.mirrorReg (h : Canonical s) {id : RegId} {i : Nat} {d : Word} :
    Canonical (s.mirrorReg id i d) := h.mirrorPost

theorem Canonical.handoverSlot (h : Canonical s) :
    Canonical (s.handoverSlot) := h.on (fun _ hu => hu.frame)

theorem Canonical.asnStart (h : Canonical s) :
    Canonical (s.asnStart) := h.frame.handoverSlot.setFld.raise.macUpdate

theorem Canonical.clpArm (h : Canonical s) :
    Canonical (s.clpArm) := Canonical.ite h.raise (Canonical.ite h.setFld.mirrorReg.asnStart h.setFld.mirrorReg)

theorem Canonical.clpDisarm (h : Canonical s) :
    Canonical (s.clpDisarm) := ((h.on (fun _ hu => hu.frame)).on (fun _ hu => hu.frame)).setFld.setFld.mirrorReg.macUpdate

theorem execArm_canonical (h : Canonical s) {dt : Nat} :
    OutCanonical (execArm dt s) := (h.after.powered (fun _ hu => hu.clpArm)).next

theorem execDisarm_canonical (h : Canonical s) {dt : Nat} :
    OutCanonical (execDisarm dt s) := (h.after.powered (fun _ hu => hu.clpDisarm)).next

theorem execAsnStart_canonical (h : Canonical s) :
    OutCanonical (execAsnStart s) := OutCanonical.ite h.advanceToFull.asnStart.next h.next

theorem Canonical.anchorWrite (h : Canonical s) {id : RegId} {mask d : Word} :
    Canonical (s.anchorWrite id mask d) := Canonical.ite h.raise h.setReg.mirrorReg

theorem Canonical.ofsWrite (h : Canonical s) {d : Word} :
    Canonical (s.ofsWrite d) := Canonical.ite h.sample h.raise

theorem execOfsSample_canonical (h : Canonical s) {dt : Nat} {d : Word} :
    OutCanonical (execOfsSample dt d s) := (h.after.powered (fun _ hu => hu.ofsWrite)).next

theorem execSlewEnd_canonical (h : Canonical s) :
    OutCanonical (execSlewEnd s) := by
  unfold execSlewEnd
  split
  · exact h.advance.frame.next
  · exact h.next

theorem execHoldover_canonical (h : Canonical s) :
    OutCanonical (execHoldover s) := OutCanonical.ite h.advanceTo.endCycle.setFld.raise.next h.next

theorem Canonical.masterChg (h : Canonical s) :
    Canonical (s.masterChg) := h.frame.lower.raise

theorem Canonical.resetI (h : Canonical s) :
    Canonical (s.resetI) := h.setFld

theorem execMasterChg_canonical (h : Canonical s) {dt : Nat} :
    OutCanonical (execMasterChg dt s) := (h.after.powered (fun _ hu => hu.masterChg)).next

theorem execResetI_canonical (h : Canonical s) {dt : Nat} :
    OutCanonical (execResetI dt s) := (h.after.powered (fun _ hu => hu.resetI)).next

theorem Canonical.clpCmdWrite (h : Canonical s) {d : Word} :
    Canonical (s.clpCmdWrite d) := (((((h.on (fun _ hu => hu.clpSet)).on (fun _ hu => hu.clpStep)).on (fun _ hu => hu.clpArm)).on
        (fun _ hu => hu.clpDisarm)).on (fun _ hu => hu.masterChg)).on (fun _ hu => hu.resetI)

theorem Canonical.steerCtlWrite (h : Canonical s) {d : Word} :
    Canonical (s.steerCtlWrite d) := h.setReg.on (fun _ hu => hu.frame.setFld)

theorem Canonical.ppsStamp (h : Canonical s) {t : Nat} :
    Canonical (s.ppsStamp t) := h.setFld.setFld.on (fun _ hu => hu.sample)

theorem Canonical.ppsEdge (h : Canonical s) {on : Bool} {arrived : Nat} :
    Canonical (s.ppsEdge on arrived) := Canonical.ite h.frame.bump.frame.ppsStamp h

theorem execPpsInEdge_canonical (h : Canonical s) {e : Change} :
    OutCanonical (execPpsInEdge e s) := by
  unfold execPpsInEdge
  dsimp only
  exact OutCanonical.ite h.after.filtered.after.frame.ppsEdge.next h.after.filtered.frame.next

theorem execPpsMiss_canonical (h : Canonical s) :
    OutCanonical (execPpsMiss s) := by
  unfold execPpsMiss
  split
  · exact h.advanceTo.frame.raise.next
  · exact h.next

theorem Canonical.ppsCtlWrite (h : Canonical s) {d : Word} :
    Canonical (s.ppsCtlWrite d) := h.setReg.frame

theorem execPpsOutAssert_canonical (h : Canonical s) :
    OutCanonical (execPpsOutAssert s) := OutCanonical.ite h.advanceToFull.frame.next h.next

theorem execPpsOutRelease_canonical (h : Canonical s) :
    OutCanonical (execPpsOutRelease s) := by
  unfold execPpsOutRelease
  split
  · exact h.advanceTo.frame.next
  · exact h.next

theorem Canonical.keepCell (h : Canonical s) {i : Nat} :
    Canonical (s.keepCell i) := h

theorem Canonical.cellSet (h : Canonical s) {i : Nat} {d : Word} :
    Canonical (s.cellSet i d) := h.keepCell.memWrite.mirrorPost

theorem Canonical.cellWrite (h : Canonical s) {d : Word} :
    Canonical (s.cellWrite d) := h.cellSet

theorem Canonical.schedWrite (h : Canonical s) {id : RegId} {i : Nat} {d : Word} :
    Canonical (s.schedWrite id i d) := h.setReg.mirrorReg.on (fun _ hu => hu.pauseArmed)

theorem Canonical.schedApply (h : Canonical s) {key : Nat} {ws : List Word} :
    Canonical (s.schedApply key ws) := by
  unfold State.schedApply
  dsimp only
  split
  · exact h.cellSet
  · split
    · exact Canonical.ite h.clpArm (Canonical.ite h.clpDisarm h)
    · split
      · exact h.macProfileWrite
      · exact h.schedWrite
      · exact h.anchorWrite
      · exact h

theorem Canonical.schedWords (h : Canonical s) {key i : Nat} :
    Canonical (s.schedWords key i).2 := by
  unfold State.schedWords
  split
  · split; next heq => exact h.memRead.of_snd heq
  · exact h

theorem Canonical.twnStart (h : Canonical s) :
    Canonical (s.twnStart) := h.frame.yieldFrames.setFld.setFld

theorem Canonical.twnStop (h : Canonical s) :
    Canonical (s.twnStop) := h.frame.setFld.setFld.setFld

theorem Canonical.twnCtlWrite (h : Canonical s) {d : Word} :
    Canonical (s.twnCtlWrite d) := by
  unfold State.twnCtlWrite
  dsimp only
  split
  · exact Canonical.ite h h.twnStop
  · split
    · exact h.setReg
    · split
      · exact h.setReg.twnStart
      · exact h.setReg.setFld.raise

theorem Canonical.twnParamWrite (h : Canonical s) {id : RegId} {d : Word} :
    Canonical (s.twnParamWrite id d) := Canonical.ite h h.setReg

theorem execTwinEnable_canonical (h : Canonical s) {d : Word} :
    OutCanonical (execTwinEnable d s) := (h.powered (fun _ hu => hu.twnCtlWrite)).next

theorem execPairWaitExpiry_canonical (h : Canonical s) :
    OutCanonical (execPairWaitExpiry s) := OutCanonical.ite (Canonical.ite h.advanceTo h.advanceTo.enterActive).next h.next

theorem execTwinLaneLock_canonical (h : Canonical s) {dt k : Nat} {up : Bool} :
    OutCanonical (execTwinLaneLock dt k up s) := (Canonical.ite h.after.setFld h.after.setFld.unhold.unhold).next

theorem execHeartbeatSend_canonical (h : Canonical s) :
    OutCanonical (execHeartbeatSend s) := by
  unfold execHeartbeatSend
  split
  · exact h.advanceTo.frame.twnSend.next
  · exact h.next

theorem Canonical.linkHeard (h : Canonical s) :
    Canonical (s.linkHeard) := Canonical.ite h.frame.setFld.raise h.frame

theorem execLinkSilence_canonical (h : Canonical s) :
    OutCanonical (execLinkSilence s) := by
  unfold execLinkSilence
  split
  · exact OutCanonical.ite h.advanceTo.endCycle.frame.setFld.raise.next h.next
  · exact h.next

theorem Canonical.pairConflict (h : Canonical s) {p : TwnPeer} :
    Canonical (s.pairConflict p) := by
  unfold State.pairConflict
  dsimp only
  split
  · exact Canonical.ite h.raise.siltPost.yieldTo.setFld.frame h.raise.siltPost
  · exact h.raise.siltPost.frame

theorem Canonical.heartbeatRole (h : Canonical s) {p : TwnPeer} :
    Canonical (s.heartbeatRole p) := by
  unfold State.heartbeatRole
  split
  · exact Canonical.ite h h.setFld.enterStandby
  · exact Canonical.ite h (Canonical.ite h.enterActive h.enterStandby)
  · exact Canonical.ite h.yieldTo h
  · exact h

theorem Canonical.heartbeat (h : Canonical s) {at_ stamp w : Nat} :
    Canonical (s.heartbeat at_ stamp w) := Canonical.ite h.bump.setFld.frame.linkHeard.pairConflict h.bump.setFld.frame.linkHeard.heartbeatRole

theorem Canonical.syncSlot (h : Canonical s) {i : Nat} :
    Canonical (s.syncSlot i).2 := by
  unfold State.syncSlot
  split; next heq => exact h.readEntry.of_snd heq

theorem Canonical.syncDrift (h : Canonical s) {i : Nat} :
    Canonical (s.syncDrift i).2 := by
  unfold State.syncDrift
  split
  · next heq => exact h.memRead.of_snd heq
  · next heq => exact (h.memRead.of_snd heq).dropWord

theorem Canonical.bulkWords (h : Canonical s) {cls key i : Nat} :
    Canonical (s.bulkWords cls key i).2 := by
  unfold State.bulkWords
  dsimp only
  split
  · exact h.syncSlot
  · exact h.syncDrift
  · exact h.schedWords

theorem Canonical.validSlots (h : Canonical s) {xs : List Nat} : Canonical (s.validSlots xs).2 := by
  induction xs generalizing s with
  | nil => exact h
  | cons x xs ih => exact ih h.readEntry

theorem Canonical.validDrifts (h : Canonical s) {xs : List Nat} : Canonical (s.validDrifts xs).2 := by
  induction xs generalizing s with
  | nil => exact h
  | cons x xs ih => exact ih h.syncDrift

theorem Canonical.bulkPass (h : Canonical s) :
    Canonical (s.bulkPass) := h.validSlots.validDrifts.frame

theorem Canonical.bulkStart (h : Canonical s) :
    Canonical (s.bulkStart) := Canonical.ite h.bulkPass h.frame

theorem Canonical.mirrorOut (h : Canonical s) {ws : List Word} :
    Canonical (s.mirrorOut ws) := h.twnSend.on (fun _ hu => hu.bump)

theorem Canonical.bulkNext (h : Canonical s) {cls k : Nat} {rest : List (Nat × Nat)} :
    Canonical (s.bulkNext cls k rest) := by
  unfold State.bulkNext
  split; next heq => exact (h.frame.bulkWords.of_snd heq).mirrorOut

theorem execMirrorSend_canonical (h : Canonical s) :
    OutCanonical (execMirrorSend s) := by
  unfold execMirrorSend
  dsimp only
  split
  · split
    · exact (h.on (fun _ hu => hu.bulkPass)).keyGroups.frame.twnSend.next
    · split
      · exact (h.on (fun _ hu => hu.bulkPass)).keyGroups.frame.mirrorOut.next
      · exact (h.on (fun _ hu => hu.bulkPass)).keyGroups.bulkNext.next
      · exact OutCanonical.ite (h.on (fun _ hu => hu.bulkPass)).keyGroups.frame.twnSend.next (h.on (fun _ hu => hu.bulkPass)).keyGroups.next
  · exact h.next

theorem Canonical.floorEntry (h : Canonical s) {ovr : Bool} {i w : Nat} :
    Canonical (s.floorEntry ovr i w) := by
  unfold State.floorEntry
  dsimp only
  exact Canonical.ite h.readSlot.updateSlot.floorDue.counterMarks h.readSlot.updateSlot.floorDue.counterMarks.raise.siltPost

theorem Canonical.floorApply (h : Canonical s) {key : Nat} {ws : List Word} :
    Canonical (s.floorApply key ws) := h.foldl fun _ _ hu => hu.floorEntry

theorem Canonical.mirrorApply (h : Canonical s) {ws : List Word} :
    Canonical (s.mirrorApply ws) := by
  unfold State.mirrorApply
  dsimp only
  split
  · split
    · exact h.bump.writeEntry
    · exact h.bump.memWrite
    · exact h.bump.schedApply
    · exact h.bump.enginePush
    · exact h.bump.floorApply
    · exact h.bump
  · exact h

theorem Canonical.resyncArrives (h : Canonical s) :
    Canonical (s.resyncArrives) := by
  unfold State.resyncArrives
  split
  · exact h.setFld.raise.twnSend
  · exact h.bulkStart
  · exact h

theorem Canonical.syncEnds (h : Canonical s) :
    Canonical (s.syncEnds) := Canonical.ite h.setFld.raise h

theorem Canonical.takeoverPlace (h : Canonical s) :
    Canonical (s.takeoverPlace) := by
  unfold State.takeoverPlace
  dsimp only
  split
  · next heq => exact (h.alloc.of_snd heq).putFrame.place
  · next heq => exact (h.alloc.of_snd heq).siltInternal.takeoverDone

theorem execTakeoverDecision_canonical (h : Canonical s) {dt : Nat} :
    OutCanonical (execTakeoverDecision dt s) := OutCanonical.ite h.after.setFld.twnSend.siltPost.frame.takeoverPlace.next h.after.next

theorem execSuspectWindowEnd_canonical (h : Canonical s) :
    OutCanonical (execSuspectWindowEnd s) := OutCanonical.ite h.next h.advanceTo.frame.next

theorem Canonical.twnHandover (h : Canonical s) :
    Canonical (s.twnHandover) := Canonical.ite h.frame h.raise

theorem Canonical.twnResync (h : Canonical s) :
    Canonical (s.twnResync) := Canonical.ite h.twnSend h

theorem Canonical.twnCmdWrite (h : Canonical s) {d : Word} :
    Canonical (s.twnCmdWrite d) := (h.on (fun _ hu => hu.twnHandover)).on (fun _ hu => hu.twnResync)

theorem execTwnHandover_canonical (h : Canonical s) :
    OutCanonical (execTwnHandover s) := (h.powered (fun _ hu => hu.twnCmdWrite)).next

theorem execTwnResync_canonical (h : Canonical s) :
    OutCanonical (execTwnResync s) := (h.powered (fun _ hu => hu.twnCmdWrite)).next

theorem execHandoverSend_canonical (h : Canonical s) {dt : Nat} :
    OutCanonical (execHandoverSend dt s) := by
  unfold execHandoverSend
  dsimp only
  split
  · exact OutCanonical.ite h.after.frame.twnSend.next h.after.next
  · exact h.after.next

theorem Canonical.handoverArrives (h : Canonical s) :
    Canonical (s.handoverArrives) := Canonical.ite h.frame h

theorem Canonical.goodbyeArrives (h : Canonical s) :
    Canonical (s.goodbyeArrives) := Canonical.ite h.frame h

theorem Canonical.takeoverArrives (h : Canonical s) {w : Nat} :
    Canonical (s.takeoverArrives w) := Canonical.ite h.yieldTo h

theorem Canonical.packetArrives (h : Canonical s) {f : Passing} {bs : List Byte} :
    Canonical (s.packetArrives f bs) := by
  unfold State.packetArrives
  split
  · next heq => exact (h.alloc.of_snd heq).putFrame.frame
  · next heq => exact h.alloc.of_snd heq

theorem Canonical.twnReceive (h : Canonical s) {f : Passing} :
    Canonical (s.twnReceive f) := by
  unfold State.twnReceive
  dsimp only
  split
  · exact h.bump
  · split
    · exact h.heartbeat
    · exact h.mirrorApply
    · exact h.syncEnds
    · exact h.takeoverArrives
    · exact h.handoverArrives
    · exact h.goodbyeArrives
    · exact h.packetArrives
    · exact h.resyncArrives

theorem Canonical.twnArrive (h : Canonical s) {dt type seq stamp : Nat} {payload : List Word} {ok : Bool} :
    Canonical (s.twnArrive dt type seq stamp payload ok) := by
  unfold State.twnArrive
  dsimp only
  exact Canonical.ite h.after (h.after.twnPoint.foldl fun _ _ hu => hu.twnReceive)

theorem execHeartbeat_canonical (h : Canonical s) {dt seq stamp : Nat} {w : Word} {ok : Bool} :
    OutCanonical (execHeartbeat dt seq stamp w ok s) := h.twnArrive.next

theorem execMirror_canonical (h : Canonical s) {dt seq stamp : Nat} {ws : List Word} {ok : Bool} :
    OutCanonical (execMirror dt seq stamp ws ok s) := h.twnArrive.next

theorem execResync_canonical (h : Canonical s) {dt seq stamp : Nat} {ok : Bool} :
    OutCanonical (execResync dt seq stamp ok s) := h.twnArrive.next

theorem execSyncEnd_canonical (h : Canonical s) {dt seq stamp : Nat} {ok : Bool} :
    OutCanonical (execSyncEnd dt seq stamp ok s) := h.twnArrive.next

theorem execTakeover_canonical (h : Canonical s) {dt seq stamp : Nat} {w : Word} {ok : Bool} :
    OutCanonical (execTakeover dt seq stamp w ok s) := h.twnArrive.next

theorem execHandover_canonical (h : Canonical s) {dt seq stamp : Nat} {w : Word} {ok : Bool} :
    OutCanonical (execHandover dt seq stamp w ok s) := h.twnArrive.next

theorem execGoodbye_canonical (h : Canonical s) {dt seq stamp : Nat} {w : Word} {ok : Bool} :
    OutCanonical (execGoodbye dt seq stamp w ok s) := h.twnArrive.next

theorem execPacket_canonical (h : Canonical s) {dt seq stamp : Nat} {ws : List Word} {ok : Bool} :
    OutCanonical (execPacket dt seq stamp ws ok s) := h.twnArrive.next

theorem Canonical.twnTxDone (h : Canonical s) {w0 : Nat} {cookie : Word} {st : Status} {ts : Nat} {frees : Bool} :
    Canonical (s.twnTxDone w0 cookie st ts frees) := (h.on (fun _ hu => hu.freeChain)).egressDone (fun _ hu => hu)

theorem Canonical.twnTx (h : Canonical s) {w0 : Nat} {cookie : Word} :
    Canonical (s.twnTx w0 cookie) := by
  unfold State.twnTx
  split
  · exact Canonical.ite h.twnTxDone (by split <;> exact h.twnTxDone)
  · exact Canonical.ite h.twnTxDone (by split; exacts [h.twnTxDone, Canonical.ite h.readWords.twnTxDone h.readWords.twnSend.twnTxDone])

theorem execTwinTxRecord_canonical (h : Canonical s) {dt : Nat} :
    OutCanonical (execTwinTxRecord dt s) :=
    OutCanonical.ite (OutCanonical.ite h.after.setRunTurn.setRunnel.judgeMarks.bump.noteBad.twnTxDone.next
        h.after.setRunTurn.setRunnel.judgeMarks.bump.noteBad.twnTx.next) h.after.next

end Sys2Proof.Machine
end

section
/-! PROOFS. The canonical form is kept by the Still, power and reset, Spillway and the bus. -/

namespace Sys2Proof.Machine

variable {s t : State}

theorem Canonical.stillTake (h : Canonical s) :
    Canonical (s.stillTake) := Canonical.ite h.frame.raise (Canonical.ite h h.setFld)

theorem Canonical.stillRelease (h : Canonical s) :
    Canonical (s.stillRelease) := by
  unfold State.stillRelease
  split
  · exact Canonical.ite (Canonical.ite h.frame.setFld h.frame.setFld.retract).stillTake h.frame.setFld
  · exact h.frame.setFld

theorem Canonical.stillWrite (h : Canonical s) {d : Word} :
    Canonical (s.stillWrite d) := ((h.setReg.on (fun _ hu => hu.frame)).on (fun _ hu => hu.stillRelease)).on (fun _ hu => hu.stillTake)

theorem execStillTake_canonical (h : Canonical s) {d : Word} :
    OutCanonical (execStillTake d s) := (h.powered (fun _ hu => hu.stillWrite)).next

theorem execStillRelease_canonical (h : Canonical s) {d : Word} :
    OutCanonical (execStillRelease d s) := (h.powered (fun _ hu => hu.stillWrite)).next

theorem execStillAuto_canonical (h : Canonical s) :
    OutCanonical (execStillAuto s) := OutCanonical.ite h.advanceTo.frame.stillTake.next h.next

theorem Canonical.waitCounts (h : Canonical s) :
    Canonical (s.waitCounts) := h.foldl fun _ _ hu => hu.waitCount

theorem SMap.above_filter {α : Type} {b : Nat} {m : SMap α} (p : Nat × α → Bool) (h : SMap.above b m = true)
    (hs : SMap.sorted m = true) : SMap.above b (m.filter p) = true := by
  induction m with
  | nil => rfl
  | cons e m ih =>
    rw [SMap.sorted_cons, Bool.and_eq_true] at hs
    obtain ⟨he, hm⟩ := hs
    rw [List.filter_cons]
    split
    · exact h
    · exact ih (SMap.above_of_lt (Nat.le_of_lt (of_decide_eq_true h)) he) hm

/-- What a filter leaves of a map has rising keys. -/
theorem SMap.sorted_filter {α : Type} {m : SMap α} (p : Nat × α → Bool) (hs : SMap.sorted m = true) :
    SMap.sorted (m.filter p) = true := by
  induction m with
  | nil => rfl
  | cons e m ih =>
    rw [SMap.sorted_cons, Bool.and_eq_true] at hs
    obtain ⟨he, hm⟩ := hs
    rw [List.filter_cons]
    split
    · rw [SMap.sorted_cons, Bool.and_eq_true]
      exact ⟨SMap.above_filter p he hm, ih hm⟩
    · exact ih hm

theorem Canonical.countersClear (h : Canonical s) : Canonical s.countersClear := ⟨h.1, SMap.sorted_filter _ h.2⟩

theorem execStillSnapshot_canonical (h : Canonical s) :
    OutCanonical (execStillSnapshot s) :=
    OutCanonical.ite (h.frame.advanceTo.waitCounts.frame.on (fun _ hu => hu.countersClear)).setFld.setFld.setFld.setFld.setFld.raise.next h.next

theorem Canonical.siltPostWrite (h : Canonical s) {req code value : Nat} :
    Canonical (s.siltPostWrite req code value) := Canonical.ite h.siltPost h.raise

theorem execSiltPost_canonical (h : Canonical s) {req code value : Nat} :
    OutCanonical (execSiltPost req code value s) := (h.powered (fun _ hu => hu.siltPostWrite)).next

theorem Canonical.statClear (h : Canonical s) :
    Canonical (s.statClear) := h

theorem Canonical.siltCtlWrite (h : Canonical s) {d : Word} :
    Canonical (s.siltCtlWrite d) := (h.setReg.on (fun _ hu => hu.statClear)).on (fun _ hu => hu.siltStart)

theorem execStatClear_canonical (h : Canonical s) :
    OutCanonical (execStatClear s) := (h.powered (fun _ hu => hu.siltCtlWrite)).next

theorem execSiltFlush_canonical (h : Canonical s) :
    OutCanonical (execSiltFlush s) := (h.powered (fun _ hu => hu.siltCtlWrite)).next

theorem execSiltFlushTimer_canonical (h : Canonical s) :
    OutCanonical (execSiltFlushTimer s) := OutCanonical.ite h.advanceTo.siltStart.next h.next

theorem execSiltFlushDone_canonical (h : Canonical s) :
    OutCanonical (execSiltFlushDone s) := OutCanonical.ite h.siltDone.next h.next

theorem execSiltRingScan_canonical (h : Canonical s) {dt : Nat} : OutCanonical (execSiltRingScan dt s) :=
  OutCanonical.ite h.next h.after.ringScan.next

theorem execOpHour_canonical (h : Canonical s) :
    OutCanonical (execOpHour s) := OutCanonical.ite h.advanceTo.frame.setFld.setFld.siltPost.next h.next

theorem Canonical.siltCfgWrite (h : Canonical s) {d : Word} :
    Canonical (s.siltCfgWrite d) := h.frame.siltSettle

theorem Canonical.eddyRelease (h : Canonical s) {k : Nat} :
    Canonical (s.eddyRelease k) := by
  unfold State.eddyRelease
  dsimp only
  split
  · exact h.unhold
  · exact Canonical.ite h.unhold.ethCheck (Canonical.ite h.unhold.frame (Canonical.ite (Canonical.ite h.unhold h.unhold.twnReceive)
        h.unhold.twnEmit))

theorem Canonical.eddyClose (h : Canonical s) :
    Canonical (s.eddyClose) := h.setFld.foldl fun _ _ hu => hu.setFld.eddyRelease

theorem Canonical.eddyKeyWrite (h : Canonical s) {d : Word} :
    Canonical (s.eddyKeyWrite d) := Canonical.ite h.frame (Canonical.ite h.setFld.frame (h.frame.eddyClose.on (fun _ hu => hu.setFld.setFld)))

theorem execEddyKey_canonical (h : Canonical s) {dt : Nat} {d : Word} :
    OutCanonical (execEddyKey dt d s) := (h.after.powered (fun _ hu => hu.eddyKeyWrite)).next

theorem execEddyLock_canonical (h : Canonical s) :
    OutCanonical (execEddyLock s) := (h.powered (fun _ hu => hu.eddyKeyWrite)).next

theorem Canonical.eddySeedWrite (h : Canonical s) {k : Nat} {d : Word} :
    Canonical (s.eddySeedWrite k d) := h.setReg.setPoint

theorem execEddySeedWrite_canonical (h : Canonical s) {k : Nat} {d : Word} :
    OutCanonical (execEddySeedWrite k d s) := (h.powered (fun _ hu => hu.eddySeedWrite)).next

theorem Canonical.eddyCfgWrite (h : Canonical s) {k : Nat} {d : Word} :
    Canonical (s.eddyCfgWrite k d) := Canonical.ite (Canonical.ite h.setReg h.setReg.eddyRelease) h

theorem execEddyHoldRelease_canonical (h : Canonical s) {k : Nat} :
    OutCanonical (execEddyHoldRelease k s) := by
  unfold execEddyHoldRelease
  dsimp only
  split
  · exact h.advanceTo.eddyRelease.next
  · exact h.next

theorem Canonical.tear (h : Canonical s) {w : FlsOp} :
    Canonical (s.tear w) := h.foldl fun _ _ hu => hu.frame.setFlashByte

theorem Canonical.tearFlash (h : Canonical s) :
    Canonical (s.tearFlash) := by
  unfold State.tearFlash
  dsimp only
  split
  · split
    · exact h.tear.tear
    · exact h.tear
  · split
    · exact h.tear
    · exact h

/-- The state with every register at its reset value. -/
theorem Canonical.noRegs (h : Canonical s) : Canonical { s with regs := [] } := ⟨h.1, rfl⟩

theorem Canonical.resetRegs (h : Canonical s) {cause : Nat} : Canonical (s.resetRegs cause) :=
  h.noRegs.setReg.setReg.setFld.setFld.setReg.setReg.setFld.setFld.setFld.setFld

theorem Canonical.fullReset (h : Canonical s) {cause : Nat} :
    Canonical (s.fullReset cause) := h.meterFlush.tearFlash.resetRegs.frame

theorem Canonical.goodbyeSend (h : Canonical s) :
    Canonical (s.goodbyeSend) := Canonical.ite h.twnSend h

theorem Canonical.requestReset (h : Canonical s) {bit : Nat} :
    Canonical (s.requestReset bit) := Canonical.ite h.goodbyeSend.fullReset h

theorem Canonical.wedgeMark (h : Canonical s) {k : Nat} :
    Canonical (s.wedgeMark k) := ((h.foldl fun _ _ hu => hu.regionDrop.setThrState).on (fun _ hu => hu.setFld)).raise.siltPost

theorem Canonical.wedgeReset (h : Canonical s) {k : Nat} :
    Canonical (s.wedgeReset k) := Canonical.ite h.requestReset (h.on (fun _ hu => hu.requestReset))

theorem Canonical.wedgeCore (h : Canonical s) {k : Nat} :
    Canonical (s.wedgeCore k) := h.wedgeMark.wedgeReset

theorem Canonical.drbgStart (h : Canonical s) :
    Canonical (s.drbgStart) := h.reseed.frame.setFld

theorem Canonical.release (h : Canonical s) {strap : Nat} : Canonical (s.release strap) := by
  unfold State.release
  dsimp only
  refine Canonical.siltPost (Canonical.frame (Canonical.on (Canonical.drbgStart ?_) fun _ hu => hu.setFld.shadowReload.coldFill))
  exact ⟨rfl, h.2⟩

theorem Canonical.pfailChain (h : Canonical s) {j : Nat} :
    Canonical (s.pfailChain j) := h.abortLive.forRills (fun _ _ hu => hu.setRill.setFld)

theorem Canonical.pfailStart (h : Canonical s) {causes : Nat} :
    Canonical (s.pfailStart causes) := ((h.frame.on (fun _ hu => hu.raise)).on
        (fun _ hu => hu.raise)).goodbyeSend.siltPost.siltPfail.foldl fun _ _ hu => hu.pfailChain

theorem Canonical.pfailHeld (h : Canonical s) :
    Canonical (s.pfailHeld) := by
  unfold State.pfailHeld
  exact h.on (fun _ hu => hu.pfailStart)

theorem Canonical.pfailCtlWrite (h : Canonical s) {d : Word} :
    Canonical (s.pfailCtlWrite d) := h.setReg.pfailHeld

theorem execResetRelease_canonical (h : Canonical s) {dt : Nat} {strap1 strap0 : Bool} :
    OutCanonical (execResetRelease dt strap1 strap0 s) := OutCanonical.ite h.after.release.pfailHeld.next h.next

theorem execPowerRestart_canonical (h : Canonical s) {dt : Nat} {strap1 strap0 : Bool} :
    OutCanonical (execPowerRestart dt strap1 strap0 s) := OutCanonical.ite h.after.setFld.setFld.release.next h.next

theorem execMemoryInitDone_canonical (h : Canonical s) {dt m : Nat} :
    OutCanonical (execMemoryInitDone dt m s) := OutCanonical.ite h.advanceTo.frame.next h.next

theorem Canonical.setJetLock (h : Canonical s) {k v : Nat} :
    Canonical (s.setJetLock k v) := h.setFld

theorem execJetLock_canonical (h : Canonical s) {dt k : Nat} :
    OutCanonical (execJetLock dt k s) := by
  unfold execJetLock
  split
  · exact OutCanonical.ite h.advanceTo.frame.setJetLock.advanceTo.clpStart.next h.advanceTo.frame.setJetLock.next
  · exact h.next

theorem execJetLockTimeout_canonical (h : Canonical s) {k : Nat} :
    OutCanonical (execJetLockTimeout k s) := by
  unfold execJetLockTimeout
  split
  · exact OutCanonical.ite h.advanceTo.jetStart.next (OutCanonical.ite h.advanceTo.frame.requestReset.next
        (h.advanceTo.frame.raise.siltPost.foldl fun _ _ hu => hu.wedgeMark).wedgeReset.next)
  · exact h.next

theorem execChainWakeRequest_canonical (h : Canonical s) {j : Nat} :
    OutCanonical (execChainWakeRequest j s) := by
  unfold execChainWakeRequest
  dsimp only
  split
  · exact h.advanceToFull.frame.wakeUpdate.next
  · exact h.next

theorem execClusterStop_canonical (h : Canonical s) {c : Nat} :
    OutCanonical (execClusterStop c s) := OutCanonical.ite h.frame.setJetLock.next h.next

theorem execClusterWake_canonical (h : Canonical s) {c : Nat} :
    OutCanonical (execClusterWake c s) := by
  unfold execClusterWake
  dsimp only
  split
  · exact h.next
  · split
    · exact h.clusterStart.next
    · split
      · exact h.advance.clusterStart.next
      · exact h.next

theorem Canonical.sscWrite (h : Canonical s) {d : Word} :
    Canonical (s.sscWrite d) := Canonical.ite h.setReg.frame (Canonical.ite h.setReg.frame h.setReg)

theorem execSscApply_canonical (h : Canonical s) :
    OutCanonical (execSscApply s) := h.frame.advance.frame.next

theorem execPfailDetect_canonical (h : Canonical s) {e : Change} {both : Bool} :
    OutCanonical (execPfailDetect e both s) := by
  unfold execPfailDetect
  dsimp only
  exact OutCanonical.ite ((h.after.filtered.on (fun _ hu => hu.after.setFld)).on (fun _ hu => hu.setFld)).pfailStart.next ((h.after.filtered.on
      (fun _ hu => hu.after.setFld)).on (fun _ hu => hu.setFld)).next

theorem execBrownOut_canonical (h : Canonical s) {e : Change} :
    OutCanonical (execBrownOut e s) :=
    OutCanonical.ite h.after.setFld.next (OutCanonical.ite h.after.next (OutCanonical.ite h.after.after.setFld.pfailStart.next
        h.after.after.setFld.next))

theorem Canonical.dormantWrite (h : Canonical s) {d : Word} :
    Canonical (s.dormantWrite d) := Canonical.ite h (Canonical.ite h.raise (Canonical.ite h.setReg.pfailStart h.setReg))

theorem execDormantEnter_canonical (h : Canonical s) {d : Word} :
    OutCanonical (execDormantEnter d s) := (h.powered (fun _ hu => hu.dormantWrite)).next

theorem Canonical.wakeUp (h : Canonical s) :
    Canonical (s.wakeUp) := h

theorem execPfailReset_canonical (h : Canonical s) {wakeN : Bool} :
    OutCanonical (execPfailReset wakeN s) :=
    OutCanonical.ite (OutCanonical.ite (Canonical.ite h.advanceTo.frame h.advanceTo).fullReset.frame.next (Canonical.ite h.advanceTo.frame
        h.advanceTo).fullReset.wakeUp.next) h.next

theorem execDormantAlarm_canonical (h : Canonical s) :
    OutCanonical (execDormantAlarm s) := OutCanonical.ite h.advanceTo.wakeUp.next h.next

theorem execWakeNWake_canonical (h : Canonical s) {p : Low} :
    OutCanonical (execWakeNWake p s) := OutCanonical.ite h.after.advanceTo.wakeUp.next h.after.next

theorem Canonical.resetCtlWrite (h : Canonical s) {d : Word} :
    Canonical (s.resetCtlWrite d) := Canonical.ite h.requestReset h

theorem execSoftReset_canonical (h : Canonical s) {d : Word} :
    OutCanonical (execSoftReset d s) := (h.powered (fun _ hu => hu.resetCtlWrite)).next

theorem Canonical.rstN (h : Canonical s) :
    Canonical (s.rstN) := by
  unfold State.rstN
  split
  · exact h.fullReset
  · exact h.frame
  · exact h.frame

theorem execRstNAssert_canonical (h : Canonical s) {p : Low} :
    OutCanonical (execRstNAssert p s) := by
  unfold execRstNAssert
  split; next heq => exact ((h.after.filtered.of_snd heq).on (fun _ hu => hu.after.rstN)).next

theorem Canonical.powerLost (h : Canonical s) :
    Canonical (s.powerLost) := by
  unfold State.powerLost
  split
  · exact h.fullReset.frame
  · exact h.fullReset.frame
  · exact h.frame

theorem execVbatLoss_canonical (h : Canonical s) {dt : Nat} :
    OutCanonical (execVbatLoss dt s) :=
    OutCanonical.ite h.next ((h.after.on (fun _ hu => hu.fullReset)).foldl fun _ _ hu => hu.setReg).setFld.frame.next

theorem execCisternSupplySwitch_canonical (h : Canonical s) {dt : Nat} {supply : CisternSupply} :
    OutCanonical (execCisternSupplySwitch dt supply s) := by
  unfold execCisternSupplySwitch
  split
  · exact (h.after.on (fun _ hu => hu.powerLost)).frame.next
  · exact ((h.after.on (fun _ hu => hu.setFld)).on (fun _ hu => hu.frame)).frame.next

theorem execVbatLow_canonical (h : Canonical s) {dt : Nat} :
    OutCanonical (execVbatLow dt s) := OutCanonical.ite h.after.next (h.after.setFld.on (fun _ hu => hu.raise)).next

theorem execVbatRestore_canonical (h : Canonical s) {dt : Nat} :
    OutCanonical (execVbatRestore dt s) := h.after.setFld.next

theorem Canonical.spwShow (h : Canonical s) {k : Nat} :
    Canonical (s.spwShow k) := h.setFld.setFld

theorem Canonical.putSpw (h : Canonical s) {k : Nat} {p : SpwSession} :
    Canonical (s.putSpw k p) := h.setSpw.spwShow

theorem Canonical.spwResult (h : Canonical s) {st : Status} {reason : Nat} :
    Canonical (s.spwResult st reason) := h.frame.setFld.setFld.on (fun _ hu => hu.siltInternal)

theorem Canonical.spwWhen (h : Canonical s) {ok : Bool} {f : State → State} (hf : ∀ u, Canonical u → Canonical (f u)) :
    Canonical (s.spwWhen ok f) := Canonical.ite (hf _ h).spwResult h.spwResult

theorem Canonical.spwLoad (h : Canonical s) {k : Nat} :
    Canonical (s.spwLoad k) := Canonical.ite h.spwResult (Canonical.ite h.putSpw.setFld.setFld.spwResult h.spwResult)

theorem Canonical.spwRound (h : Canonical s) {k kind : Nat} {set missing : List Nat} :
    Canonical (s.spwRound k kind set missing) := Canonical.ite h.setFld.setFld.putSpw.raise h.setFld.setFld.putSpw.setFld

theorem Canonical.spwStartFull (h : Canonical s) {k : Nat} :
    Canonical (s.spwStartFull k) := h.spwWhen (fun _ hu => hu.spwRound)

theorem Canonical.spwStartRepair (h : Canonical s) {k : Nat} :
    Canonical (s.spwStartRepair k) := h.spwWhen (fun _ hu => hu.spwRound)

theorem Canonical.spwMerge (h : Canonical s) {k base : Nat} :
    Canonical (s.spwMerge k base) := h.spwWhen (fun _ hu => hu.putSpw)

theorem Canonical.spwClearMissing (h : Canonical s) {k : Nat} :
    Canonical (s.spwClearMissing k) := h.spwWhen (fun _ hu => hu.putSpw)

theorem Canonical.spwSuspend (h : Canonical s) {k : Nat} :
    Canonical (s.spwSuspend k) := h.spwWhen (fun _ hu => hu.setFld)

theorem Canonical.spwResume (h : Canonical s) {k : Nat} :
    Canonical (s.spwResume k) := h.spwWhen (fun _ hu => hu.setFld)

theorem Canonical.spwAbort (h : Canonical s) {k : Nat} :
    Canonical (s.spwAbort k) := h.spwWhen (fun _ hu => hu.putSpw.setFld)

theorem Canonical.spwCmdWrite (h : Canonical s) {d : Word} :
    Canonical (s.spwCmdWrite d) := by
  unfold State.spwCmdWrite
  split
  · exact h.raise
  · split
    · exact h.spwLoad
    · exact h.spwStartFull
    · exact h.spwStartRepair
    · exact h.spwMerge
    · exact h.spwClearMissing
    · exact h.spwSuspend
    · exact h.spwResume
    · exact h.spwAbort
    · exact h.spwResult

theorem execSpwLoad_canonical (h : Canonical s) {k : Nat} :
    OutCanonical (execSpwLoad k s) := (h.powered (fun _ hu => hu.spwCmdWrite)).next

theorem execStartFull_canonical (h : Canonical s) {k : Nat} :
    OutCanonical (execStartFull k s) := (h.powered (fun _ hu => hu.spwCmdWrite)).next

theorem execStartRepair_canonical (h : Canonical s) {k : Nat} :
    OutCanonical (execStartRepair k s) := (h.powered (fun _ hu => hu.spwCmdWrite)).next

theorem execMerge_canonical (h : Canonical s) {k base : Nat} :
    OutCanonical (execMerge k base s) := (h.powered (fun _ hu => hu.spwCmdWrite)).next

theorem execClearMissing_canonical (h : Canonical s) {k : Nat} :
    OutCanonical (execClearMissing k s) := (h.powered (fun _ hu => hu.spwCmdWrite)).next

theorem execSuspend_canonical (h : Canonical s) {k : Nat} :
    OutCanonical (execSuspend k s) := (h.powered (fun _ hu => hu.spwCmdWrite)).next

theorem execResume_canonical (h : Canonical s) {k : Nat} :
    OutCanonical (execResume k s) := (h.powered (fun _ hu => hu.spwCmdWrite)).next

theorem execAbort_canonical (h : Canonical s) {k : Nat} :
    OutCanonical (execAbort k s) := (h.powered (fun _ hu => hu.spwCmdWrite)).next

theorem Canonical.spwRegWrite (h : Canonical s) {id : RegId} {k : Nat} {d : Word} :
    Canonical (s.spwRegWrite id k d) := Canonical.ite h.setReg h.raise

theorem Canonical.spwPlaced (h : Canonical s) {k : Nat} {x : SpwSlot} :
    Canonical (s.spwPlaced k x) := h.putSpw.on (fun _ hu => hu.setFld.raise)

theorem Canonical.spwSkip (h : Canonical s) {k : Nat} {x : SpwSlot} :
    Canonical (s.spwSkip k x) := (h.setSpw.frame.on (fun _ hu => hu.flsEnd)).freeChain.bump

theorem execSpwFlashReadDone_canonical (h : Canonical s) {dt k : Nat} :
    OutCanonical (execSpwFlashReadDone dt k s) := by
  unfold execSpwFlashReadDone
  dsimp only
  split
  · split
    · exact OutCanonical.ite (OutCanonical.ite h.after.flsEnd.spwSkip.next h.after.flsEnd.putFrame.placeCopies.spwPlaced.next) h.next
    · exact h.next
  · exact h.next

theorem execSpwSlotSkip_canonical (h : Canonical s) {k : Nat} :
    OutCanonical (execSpwSlotSkip k s) := by
  unfold execSpwSlotSkip
  split
  · exact h.advanceToFull.spwSkip.raise.next
  · exact h.next

theorem Canonical.msixFlush (h : Canonical s) {v : Nat} :
    Canonical (s.msixFlush v) := Canonical.ite h.frame.sendVector h

theorem Canonical.msixWrite (h : Canonical s) {v k d : Nat} :
    Canonical (s.msixWrite v k d) := h.frame.msixFlush

theorem Canonical.msixEnable (h : Canonical s) {en funcMask : Bool} :
    Canonical (s.msixEnable en funcMask) := (h.frame.setFld.on (fun _ hu => hu.foldl fun _ _ hv => hv.msixFlush)).on
        (fun _ hu => hu.foldl fun _ _ hv => hv.sendVector)

theorem execMsixEnable_canonical (h : Canonical s) {en funcMask : Bool} :
    OutCanonical (execMsixEnable en funcMask s) := (h.powered (fun _ hu => hu.msixEnable)).next

theorem execMsixUnmask_canonical (h : Canonical s) {v : Nat} :
    OutCanonical (execMsixUnmask v s) := (h.powered (fun _ hu => hu.msixWrite)).next

theorem Canonical.rcRead (h : Canonical s) {id : RegId} {i j : Nat} :
    Canonical (s.rcRead id i j).2 := h.setReg

theorem Canonical.shownWord (h : Canonical s) {m w : Nat} :
    Canonical (s.shownWord m w).2 := by
  unfold State.shownWord
  split
  · next heq => exact h.memRead.of_snd heq
  · next heq => exact (h.memRead.of_snd heq).dropWord

theorem Canonical.regRead (h : Canonical s) {id : RegId} {i j : Nat} :
    Canonical (s.regRead id i j).2 := by
  unfold State.regRead
  split
  · split
    · exact h
    · split
      · exact h
      · exact h.frame
  · exact h.shownWord
  · exact h.shownWord
  · exact h.jDbgDataRead
  · exact h.dbgDataRead
  · exact h.hostPop
  · exact h.nowLatch
  · exact h.waitCount.rcRead
  · exact h.nearSeen
  · split
    · exact h
    · exact h.rcRead

theorem Canonical.busRead (h : Canonical s) {req off : Nat} :
    Canonical (s.busRead req off).2 := by
  unfold State.busRead
  split
  · exact h
  · split
    · split
      · exact h
      · exact h.regRead
    · exact h
    · exact h
    · exact h
    · exact h
    · exact h

theorem execCounterRead_canonical (h : Canonical s) {a : RegRead} :
    OutCanonical (execCounterRead a s) := by
  unfold execCounterRead
  dsimp only
  split
  · exact h.after.next
  · split
    · exact (h.after.on (fun _ hu => hu.raise.hostAnswer)).next
    · split
      · exact OutCanonical.ite h.after.next (h.after.busRead.on (fun _ hu => hu.hostAnswer)).next
      · exact h.after.next

theorem Canonical.plainWrite (h : Canonical s) {id : RegId} {i j : Nat} {d : Word} :
    Canonical (s.plainWrite id i j d) := by
  unfold State.plainWrite
  split
  · exact h.setReg.rearm
  · split
    · exact h.setReg.rearm
    · exact h.setReg

theorem Canonical.ssidWrite (h : Canonical s) {d : Word} :
    Canonical (s.ssidWrite d) := Canonical.ite h (Canonical.ite h.setFld h.setReg)

theorem Canonical.coexGrpWrite (h : Canonical s) {g : Nat} {d : Word} :
    Canonical (s.coexGrpWrite g d) := h.plainWrite.setGrant

theorem Canonical.of_some (h : Canonical s) : ∀ t ∈ some s, Canonical t := fun _ e => Option.some.inj e ▸ h

theorem Canonical.radioWrite (h : Canonical s) {id : RegId} {i j : Nat} {d : Word} : ∀ t ∈ s.radioWrite id i j d, Canonical t := by
  unfold State.radioWrite
  split
  · exact .of_some h.phyModeWrite
  · exact .of_some h.plmChainCtlWrite
  · exact .of_some h.plmWindowWrite
  · exact .of_some h.rillCfgWrite
  · exact .of_some h.rillFreqWrite
  · exact .of_some h.rillLimWrite
  · exact .of_some h.blankGrpWrite
  · exact .of_some h.coexGrpWrite
  · exact .of_some h.txChainCtlWrite
  · exact .of_some h.synWindowWrite
  · exact .of_some h.synCtlWrite
  · exact .of_some h.femCtlWrite
  · exact .of_some h.carCfgWrite
  · exact .of_some h.carFreqWrite
  · exact .of_some (h.on fun _ hu => hu.fuseBlow)
  · exact .of_some h.nearSeen.plainWrite
  · exact .of_some h.nearSeen.plainWrite
  · exact .of_some h.chtSwlimWrite
  · exact .of_some h.chtNearWrite
  · exact .of_some h.macCtlWrite
  · exact .of_some h.macProfileWrite
  · exact .of_some h.macProfileWrite
  · exact .of_some h.macProfileWrite
  · exact .of_some h.macProfileWrite
  · exact .of_some h.macProfileWrite
  · exact .of_some h.macProfileWrite
  · exact .of_some h.schedWrite
  · exact .of_some h.schedWrite
  · exact .of_some h.schedWrite
  · exact .of_some h.cellWrite
  · exact .of_some h.spwCmdWrite
  · exact .of_some h.spwRegWrite
  · exact .of_some h.spwRegWrite
  · exact .of_some h.spwRegWrite
  · exact .of_some h.spwRegWrite
  · exact .of_some h.spwRegWrite
  · exact .of_some h.spwRegWrite
  · exact fun _ e => nomatch e

theorem Canonical.coreWrite (h : Canonical s) {req : Nat} {id : RegId} {i j : Nat} {d : Word} : ∀ t ∈ s.coreWrite req id i j d, Canonical t := by
  unfold State.coreWrite
  split
  · exact .of_some h.ageCtlWrite
  · exact .of_some h.relocSeedWrite
  · exact .of_some h.slcGoWrite
  · exact .of_some h.grtCmdWrite
  · exact .of_some (Canonical.ite h.wdWrite h)
  · exact .of_some h.jBootWrite
  · exact .of_some h.jDbgSelWrite
  · exact .of_some h.jDbgDataWrite
  · exact .of_some h.oclWake.thrCtlWrite
  · exact .of_some h.oclWake.wdWrite
  · exact .of_some h.oclWake.plainWrite
  · exact .of_some h.oclWake.dbgDataWrite
  · exact .of_some h.hallocWrite
  · exact .of_some h.freeChain
  · exact .of_some h.hpushCtlWrite
  · exact .of_some h.runCfgWrite
  · exact .of_some h.runEvtWrite
  · exact .of_some h.holdMarks.plainWrite
  · exact .of_some (h.on fun _ hu => hu.flushWrite)
  · exact .of_some h.clpCmdWrite
  · exact .of_some h.steerCtlWrite
  · exact .of_some h.ofsWrite
  · exact .of_some h.anchorWrite
  · exact .of_some h.anchorWrite
  · exact .of_some h.anchorWrite
  · exact .of_some h.ppsCtlWrite
  · exact fun _ e => nomatch e

theorem Canonical.sysWrite (h : Canonical s) {req : Nat} {id : RegId} {i : Nat} {d : Word} : ∀ t ∈ s.sysWrite req id i d, Canonical t := by
  unfold State.sysWrite
  split
  · exact .of_some h.ethCtlWrite
  · exact .of_some h.ethParamWrite
  · exact .of_some h.ethParamWrite
  · exact .of_some h.ssidWrite
  · exact .of_some h.ringCtlWrite
  · exact .of_some h.ringParamWrite
  · exact .of_some h.ringParamWrite
  · exact .of_some h.ringParamWrite
  · exact .of_some h.doorbell
  · exact .of_some h.flsCmdWrite
  · exact .of_some h.sscWrite
  · exact .of_some h.pfailCtlWrite
  · exact .of_some h.dormantWrite
  · exact .of_some h.resetCtlWrite
  · exact .of_some h.skimCtlWrite
  · exact .of_some h.skimParamWrite
  · exact .of_some h.skimParamWrite
  · exact .of_some h.flipCtlWrite
  · exact .of_some h.flipParamWrite
  · exact .of_some h.flipParamWrite
  · exact .of_some h.twnCtlWrite
  · exact .of_some h.twnParamWrite
  · exact .of_some h.twnParamWrite
  · exact .of_some h.twnParamWrite
  · exact .of_some h.twnCmdWrite
  · exact .of_some h.stillWrite
  · exact .of_some h.siltCtlWrite
  · exact .of_some h.siltPostWrite
  · exact .of_some h.siltCfgWrite
  · exact .of_some h.eddyKeyWrite
  · exact .of_some h.eddyCfgWrite
  · exact .of_some h.eddySeedWrite
  · exact fun _ e => nomatch e

theorem Canonical.regWrite (h : Canonical s) {req : Nat} {id : RegId} {i j : Nat} {d : Word} :
    Canonical (s.regWrite req id i j d) := by
  unfold State.regWrite
  split
  · next heq => exact h.radioWrite _ heq
  · next heq _ => exact h.coreWrite _ heq
  · next heq _ _ => exact h.sysWrite _ heq
  · exact h.plainWrite

theorem Canonical.busWrite (h : Canonical s) {req off w : Nat} {d : Word} :
    Canonical (s.busWrite req off w d) := by
  unfold State.busWrite
  split
  · exact h
  · split
    · exact Canonical.ite h h.regWrite.keepEvents
    · exact Canonical.ite h.msixWrite.msixWrite h.msixWrite
    · exact h

theorem execRegisterWrite_canonical (h : Canonical s) {a : Requester} {off w : Nat} {d : Word} :
    OutCanonical (execRegisterWrite a off w d s) :=
    OutCanonical.ite h.after.busWrite.next (OutCanonical.ite (h.after.powered (fun _ hu => hu.raise)).next h.after.next)

end Sys2Proof.Machine
end

section
/-! PROOFS. The canonical form is kept by the instructions of a thread, SPI, and every command. -/

namespace Sys2Proof.Machine

variable {s t : State}

theorem Canonical.setG (h : Canonical s) {t r : Nat} {v : Word} :
    Canonical (s.setG t r v) := h.setThr

theorem Canonical.setGs (h : Canonical s) {t r : Nat} {vs : List Word} : Canonical (s.setGs t r vs) := by
  induction vs generalizing s r with
  | nil => exact h
  | cons v vs ih => exact ih h.setG

theorem Canonical.setP (h : Canonical s) {t k : Nat} {b : Bool} :
    Canonical (s.setP t k b) := h.setThr

theorem Canonical.setH (h : Canonical s) {t k : Nat} {v : Word} :
    Canonical (s.setH t k v) := h.setThr

theorem Canonical.readEach (h : Canonical s) {m : Nat} {ws : List Nat} : Canonical (s.readEach m ws).2.2 := by
  induction ws generalizing s with
  | nil => exact h
  | cons w ws ih => exact ih h.memRead

theorem Canonical.loadPiece (h : Canonical s) {es : List OclEffect} {m o n : Nat} :
    Canonical (s.loadPiece es m o n).2.2 := h.readEach

theorem Canonical.loadPieces (h : Canonical s) {es : List OclEffect} {ps : List (Nat × Nat × Nat)} :
    Canonical (s.loadPieces es ps).2.2 := by
  induction ps generalizing s with
  | nil => exact h
  | cons p ps ih => exact ih h.loadPiece

theorem Canonical.quiet (h : Canonical s) (ht : Canonical t) : Canonical (s.quiet t) := ⟨ht.1, h.2⟩

theorem Canonical.inRegion (h : Canonical s) {i : Nat} (ht : Canonical t) : Canonical (s.inRegion i t) :=
  Canonical.ite (h.quiet ht) ht

theorem Canonical.load (h : Canonical s) {i : Nat} {ps : List (Nat × Nat × Nat)} : Canonical (s.load i ps).2.2 :=
  h.inRegion h.loadPieces

theorem Canonical.checkPieces (h : Canonical s) {ps : List (Nat × Nat × List Byte)} : Canonical (s.checkPieces ps).2 := by
  induction ps generalizing s with
  | nil => exact h
  | cons p ps ih => exact ih h.partialCheck

theorem Canonical.mergePiece (h : Canonical s) {p : Nat × Nat × List Byte} :
    Canonical (s.mergePiece p) := h.setMemBytes.sealWords

theorem Canonical.storePieces (h : Canonical s) {ps : List (Nat × Nat × List Byte)} :
    Canonical (s.storePieces ps).2 := by
  unfold State.storePieces
  dsimp only
  split
  · exact h.checkPieces
  · exact h.checkPieces.foldl fun _ _ hu => hu.mergePiece

theorem Canonical.thrFault (h : Canonical s) {t cause : Nat} {einfo : Word} :
    Canonical (s.thrFault t cause einfo) := by
  unfold State.thrFault
  exact h.setThrState.setThr.oclEvent.siltPost.on fun _ hu => hu.wedgeCore

theorem Canonical.deliver (h : Canonical s) {t cause : Nat} {einfo : Word} :
    Canonical (s.deliver t cause einfo) := Canonical.ite h.thrFault (h.on (fun _ hu => hu.setThrState)).setThr.oclCount

theorem Canonical.except (h : Canonical s) {t cause : Nat} {einfo : Word} :
    Canonical (s.except t cause einfo) := Canonical.ite h.dropTo.setThr h.deliver

theorem Canonical.wdDeliver (h : Canonical s) {t : Nat} :
    Canonical (s.wdDeliver t) := Canonical.ite h.setThr.except h

theorem Canonical.takeTurn (h : Canonical s) {t : Nat} :
    Canonical (s.takeTurn t) := Canonical.ite h.nextCycle.frame h.nextCycle

theorem Canonical.issueCount (h : Canonical s) {t : Nat} :
    Canonical (s.issueCount t) := h.on (fun _ hu => hu.bump)

theorem Canonical.fetch (h : Canonical s) {t : Nat} :
    Canonical (s.fetch t).2 := by
  unfold State.fetch
  split; next heq => exact h.inRegion (h.memRead.of_snd heq)

theorem Canonical.issue (h : Canonical s) {t opc w : Nat} {legal : Bool} {f : State → State} (hf : ∀ u, Canonical u → Canonical (f u)) :
    Canonical (s.issue t opc w legal f) := by
  unfold State.issue
  dsimp only
  split
  · split
    · next heq => exact (h.takeTurn.fetch.of_snd heq).except
    · split
      · split
        · next heq _ _ => exact hf _ (h.takeTurn.fetch.of_snd heq).issueCount
        · next heq _ _ => exact (h.takeTurn.fetch.of_snd heq).issueCount.except
      · next heq _ => exact (h.takeTurn.fetch.of_snd heq).issueCount.retire
  · exact h

theorem Canonical.wrongPath (h : Canonical s) {t : Nat} :
    Canonical (s.wrongPath t) := h.frame.on (fun _ hu => hu.bump)

theorem Canonical.issueBranch (h : Canonical s) {t opc w : Nat} {legal : Bool} {f : State → State} (hf : ∀ u, Canonical u → Canonical (f u)) :
    Canonical (s.issueBranch t opc w legal f) := (h.issue (fun _ hu => hf _ hu)).on (fun _ hu => hu.wrongPath)

theorem Canonical.result (h : Canonical s) {t rd : Nat} {v : Word} :
    Canonical (s.result t rd v) := h.setG.retire

theorem Canonical.resultP (h : Canonical s) {t pd : Nat} {b : Bool} :
    Canonical (s.resultP t pd b) := h.setP.retire

theorem Canonical.unlessRegion (h : Canonical s) {t : Nat} {f : State → State} (hf : ∀ u, Canonical u → Canonical (f u)) :
    Canonical (s.unlessRegion t f) := Canonical.ite h.dropTo (hf _ h)

theorem Canonical.buffer (h : Canonical s) {t n : Nat} {es : List OclEffect} {f : State → State} (hf : ∀ u, Canonical u → Canonical (f u)) :
    Canonical (s.buffer t n es f) := by
  unfold State.buffer
  split
  · exact Canonical.ite (hf _ h.setThr).retire h.dropTo
  · exact h

theorem Canonical.loadOp (h : Canonical s) {i a n rd : Nat} : Canonical (s.loadOp i a n rd) := by
  unfold State.loadOp
  split
  · exact h.unlessRegion fun _ hu => Canonical.ite hu.except (Canonical.ite hu.enterWait hu.except)
  · next m o _ =>
    refine Canonical.ite h.except (h.whenReady fun u hu => ?_)
    have hl := hu.load (i := i) (ps := [(m, o, n)])
    generalize u.load i [(m, o, n)] = p at hl ⊢
    exact Canonical.ite hl.except hl.result
  · exact Canonical.ite h.except h.except

theorem Canonical.writeOp (h : Canonical s) {t : Nat} {ps : List (Nat × Nat × List Byte)} {a : Option Nat} :
    Canonical (s.writeOp t ps a) := by
  unfold State.writeOp
  split
  · exact h.buffer (fun _ hu => hu)
  · split
    · split
      · next heq => exact (h.storePieces.of_snd heq).except
      · next heq => exact (h.storePieces.of_snd heq).retire

theorem Canonical.storeOp (h : Canonical s) {t a n : Nat} {v : Word} :
    Canonical (s.storeOp t a n v) := by
  unfold State.storeOp
  split
  · exact h.except
  · split
    · exact Canonical.ite (Canonical.ite (h.buffer (fun _ hu => hu)) h.enterWait) h.except
    · exact h.writeOp
    · exact h.except

theorem Canonical.atomicOp (h : Canonical s) {i a rd : Nat} {f : Word → Option Word} : Canonical (s.atomicOp i a rd f) := by
  refine h.unlessRegion fun _ hu => Canonical.ite hu.except ?_
  split
  · refine hu.whenReady fun _ hv => Canonical.ite hv.memRead.except (Canonical.result ?_)
    split
    · exact hv.memRead.memWrite
    · exact hv.memRead
  · exact hu.except

theorem Canonical.frameLoad (h : Canonical s) {t hs o n rd : Nat} :
    Canonical (s.frameLoad t hs o n rd) := by
  unfold State.frameLoad
  dsimp only
  split
  · exact h.except
  · exact h.whenReady (fun _ hu => (by split; exacts [hu.load.except, hu.load.result]))

theorem Canonical.frameStore (h : Canonical s) {t hs o n : Nat} {v : Word} :
    Canonical (s.frameStore t hs o n v) := by
  unfold State.frameStore
  split
  · exact h.except
  · exact h.writeOp

theorem Canonical.threadLand (h : Canonical s) {t n : Nat} {ws : List Word} :
    Canonical (s.threadLand t n ws) := h.land.on (fun _ hu => hu.keyGroups)

theorem Canonical.pushOp (h : Canonical s) {t n : Nat} {ws : List Word} :
    Canonical (s.pushOp t n ws) := Canonical.ite h.except (Canonical.ite (h.buffer (fun _ hu => hu)) (Canonical.ite h.threadLand.retire
        h.enterWait))

theorem Canonical.popInto (h : Canonical s) {t n k rd : Nat} :
    Canonical (s.popInto t n k rd) :=
    Canonical.ite h.setRunTurn.setRunnel.judgeMarks.bump.noteBad.except h.setRunTurn.setRunnel.judgeMarks.bump.noteBad.setGs.retire

theorem Canonical.popwTake (h : Canonical s) {t n rd px : Nat} :
    Canonical (s.popwTake t n rd px) :=
    Canonical.ite h.setRunTurn.setRunnel.judgeMarks.bump.noteBad.except h.setRunTurn.setRunnel.judgeMarks.bump.noteBad.setGs.setP.retire

theorem Canonical.popArrive (h : Canonical s) {t : Nat} :
    Canonical (s.popArrive t) := by
  unfold State.popArrive
  split
  · split
    · exact h.except
    · split
      · exact h
      · split
        · exact h.popwTake
        · exact h.popInto
        · exact h
  · exact h

theorem Canonical.servePops (h : Canonical s) {t n : Nat} :
    Canonical (s.servePops t n) := h.foldl fun _ _ hu => hu.popArrive

theorem Canonical.popOp (h : Canonical s) {t n k rd : Nat} :
    Canonical (s.popOp t n k rd) := h.unlessRegion (fun _ hu => Canonical.ite hu.except (Canonical.ite hu.servePops.popInto hu.servePops.enterWait))

theorem Canonical.sealPoison (h : Canonical s) {t a : Nat} :
    Canonical (s.sealPoison t a) := by
  unfold State.sealPoison
  split
  · exact h.setThr
  · exact h

theorem Canonical.sealEffect (h : Canonical s) {i : Nat} {e : OclEffect} : ∀ t ∈ s.sealEffect i e, Canonical t := by
  unfold State.sealEffect
  split
  · refine Canonical.of_some ?_
    split
    · exact h.storePieces.sealPoison
    · exact h.storePieces
  · exact Canonical.of_some (Canonical.ite h h.busWrite)
  · split
    · exact Canonical.of_some h.lostPush
    · split
      · exact Canonical.of_some h.threadLand
      · exact fun _ e => nomatch e
  · exact Canonical.of_some h.freeChain

theorem Canonical.holdEffects (h : Canonical s) {t : Nat} {es : List OclEffect} :
    Canonical (s.holdEffects t es) := by
  unfold State.holdEffects
  split
  · exact h.setThr
  · exact h

theorem Canonical.sealDone (h : Canonical s) {t : Nat} :
    Canonical (s.sealDone t) := by
  unfold State.sealDone
  split
  · split
    · exact h.specsSeal.oclCount.setThr.retire.oclEvent.deliver.wdDeliver.on (fun _ hu => hu.setThrState)
    · exact h.specsSeal.oclCount.setThr.retire.wdDeliver.on (fun _ hu => hu.setThrState)
  · exact h

theorem Canonical.sealRun (h : Canonical s) {i : Nat} {es : List OclEffect} : Canonical (s.sealRun i es) := by
  induction es generalizing s with
  | nil => exact h.sealDone
  | cons e es ih =>
    unfold State.sealRun
    split
    · exact h.holdEffects
    · next heq => exact Canonical.ite (ih (h.sealEffect _ heq).holdEffects) (h.sealEffect _ heq)

theorem Canonical.pushRoom (h : Canonical s) {t : Nat} :
    Canonical (s.pushRoom t) := by
  unfold State.pushRoom
  split
  · exact h
  · split
    · exact Canonical.ite h.except (Canonical.ite h.threadLand.retire h)
    · exact h.sealRun
    · exact h

theorem Canonical.servePushes (h : Canonical s) {t n : Nat} :
    Canonical (s.servePushes t n) := h.serveAll.foldl fun _ _ hu => hu.pushRoom

theorem Canonical.sealTime (h : Canonical s) {n : Nat} :
    Canonical (s.sealTime n) := h.frame.advance

theorem Canonical.aluA (h : Canonical s) {t opc w : Nat} {f : Word → Word → Word} :
    Canonical (s.aluA t opc w f) := h.issue (fun _ hu => hu.result)

theorem Canonical.aluB (h : Canonical s) {t opc w : Nat} {legal : Bool} {f : Word → Word} :
    Canonical (s.aluB t opc w legal f) := h.issue (fun _ hu => hu.result)

theorem Canonical.aluD (h : Canonical s) {t opc w : Nat} {f : Word → Word} :
    Canonical (s.aluD t opc w f) := h.issue (fun _ hu => hu.result)

theorem Canonical.compare (h : Canonical s) {t opc w : Nat} {f : Word → Word → Bool} :
    Canonical (s.compare t opc w f) := h.issue (fun _ hu => hu.resultP)

theorem Canonical.predOp (h : Canonical s) {t opc w : Nat} {legal : Bool} {f : Bool → Bool → Bool} :
    Canonical (s.predOp t opc w legal f) := h.issue (fun _ hu => hu.resultP)

theorem execAdd_canonical (h : Canonical s) {t w : Nat} :
    OutCanonical (execAdd t w s) := h.aluA.next

theorem execSub_canonical (h : Canonical s) {t w : Nat} :
    OutCanonical (execSub t w s) := h.aluA.next

theorem execAnd_canonical (h : Canonical s) {t w : Nat} :
    OutCanonical (execAnd t w s) := h.aluA.next

theorem execOr_canonical (h : Canonical s) {t w : Nat} :
    OutCanonical (execOr t w s) := h.aluA.next

theorem execXor_canonical (h : Canonical s) {t w : Nat} :
    OutCanonical (execXor t w s) := h.aluA.next

theorem execSll_canonical (h : Canonical s) {t w : Nat} :
    OutCanonical (execSll t w s) := h.aluA.next

theorem execSrl_canonical (h : Canonical s) {t w : Nat} :
    OutCanonical (execSrl t w s) := h.aluA.next

theorem execSra_canonical (h : Canonical s) {t w : Nat} :
    OutCanonical (execSra t w s) := h.aluA.next

theorem execMul_canonical (h : Canonical s) {t w : Nat} :
    OutCanonical (execMul t w s) := h.aluA.next

theorem execSel_canonical (h : Canonical s) {t w : Nat} :
    OutCanonical (execSel t w s) := h.aluA.next

theorem execAddi_canonical (h : Canonical s) {t w : Nat} :
    OutCanonical (execAddi t w s) := h.aluB.next

theorem execAndi_canonical (h : Canonical s) {t w : Nat} :
    OutCanonical (execAndi t w s) := h.aluB.next

theorem execOri_canonical (h : Canonical s) {t w : Nat} :
    OutCanonical (execOri t w s) := h.aluB.next

theorem execXori_canonical (h : Canonical s) {t w : Nat} :
    OutCanonical (execXori t w s) := h.aluB.next

theorem execSlli_canonical (h : Canonical s) {t w : Nat} :
    OutCanonical (execSlli t w s) := h.aluB.next

theorem execSrli_canonical (h : Canonical s) {t w : Nat} :
    OutCanonical (execSrli t w s) := h.aluB.next

theorem execSrai_canonical (h : Canonical s) {t w : Nat} :
    OutCanonical (execSrai t w s) := h.aluB.next

theorem execLi_canonical (h : Canonical s) {t w : Nat} :
    OutCanonical (execLi t w s) := h.aluD.next

theorem execLih_canonical (h : Canonical s) {t w : Nat} :
    OutCanonical (execLih t w s) := h.aluD.next

theorem execCeq_canonical (h : Canonical s) {t w : Nat} :
    OutCanonical (execCeq t w s) := h.compare.next

theorem execCne_canonical (h : Canonical s) {t w : Nat} :
    OutCanonical (execCne t w s) := h.compare.next

theorem execClt_canonical (h : Canonical s) {t w : Nat} :
    OutCanonical (execClt t w s) := h.compare.next

theorem execCltu_canonical (h : Canonical s) {t w : Nat} :
    OutCanonical (execCltu t w s) := h.compare.next

theorem execCge_canonical (h : Canonical s) {t w : Nat} :
    OutCanonical (execCge t w s) := h.compare.next

theorem execCgeu_canonical (h : Canonical s) {t w : Nat} :
    OutCanonical (execCgeu t w s) := h.compare.next

theorem execPand_canonical (h : Canonical s) {t w : Nat} :
    OutCanonical (execPand t w s) := h.predOp.next

theorem execPor_canonical (h : Canonical s) {t w : Nat} :
    OutCanonical (execPor t w s) := h.predOp.next

theorem execPnot_canonical (h : Canonical s) {t w : Nat} :
    OutCanonical (execPnot t w s) := h.predOp.next

theorem execBfx_canonical (h : Canonical s) {t w : Nat} :
    OutCanonical (execBfx t w s) := h.aluB.next

theorem execBfxs_canonical (h : Canonical s) {t w : Nat} :
    OutCanonical (execBfxs t w s) := h.aluB.next

theorem execBfi_canonical (h : Canonical s) {t w : Nat} :
    OutCanonical (execBfi t w s) := h.aluB.next

theorem execClz_canonical (h : Canonical s) {t w : Nat} :
    OutCanonical (execClz t w s) := h.aluA.next

theorem execBswap_canonical (h : Canonical s) {t w : Nat} :
    OutCanonical (execBswap t w s) := h.aluA.next

theorem execCrc32cb_canonical (h : Canonical s) {t w : Nat} :
    OutCanonical (execCrc32cb t w s) := h.aluA.next

theorem execCrc32cd_canonical (h : Canonical s) {t w : Nat} :
    OutCanonical (execCrc32cd t w s) := h.aluA.next

theorem execCrc32b_canonical (h : Canonical s) {t w : Nat} :
    OutCanonical (execCrc32b t w s) := h.aluA.next

theorem execCrc32d_canonical (h : Canonical s) {t w : Nat} :
    OutCanonical (execCrc32d t w s) := h.aluA.next

theorem execCrc16b_canonical (h : Canonical s) {t w : Nat} :
    OutCanonical (execCrc16b t w s) := h.aluA.next

theorem Canonical.goTo (h : Canonical s) {t target : Nat} :
    Canonical (s.goTo t target) := h.retire.setThr

theorem Canonical.branch (h : Canonical s) {t : Nat} {target : Int} {f : State → State} (hf : ∀ u, Canonical u → Canonical (f u)) :
    Canonical (s.branch t target f) := Canonical.ite (hf _ h).goTo h.except

theorem execBr_canonical (h : Canonical s) {t w : Nat} :
    OutCanonical (execBr t w s) := (h.issueBranch (fun _ hu => hu.branch (fun _ hv => hv))).next

theorem execCall_canonical (h : Canonical s) {t w : Nat} :
    OutCanonical (execCall t w s) := (h.issueBranch (fun _ hu => hu.branch (fun _ hv => hv.setG))).next

theorem execJalr_canonical (h : Canonical s) {t w : Nat} :
    OutCanonical (execJalr t w s) := (h.issueBranch (fun _ hu => Canonical.ite hu.except (hu.branch (fun _ hv => hv.setG)))).next

theorem execDbnz_canonical (h : Canonical s) {t w : Nat} :
    OutCanonical (execDbnz t w s) := (h.issueBranch (fun _ hu => Canonical.ite hu.setG.retire (hu.branch (fun _ hv => hv.setG)))).next

theorem execLdb_canonical (h : Canonical s) {t w : Nat} :
    OutCanonical (execLdb t w s) := (h.issue (fun _ hu => hu.loadOp)).next

theorem execLdh_canonical (h : Canonical s) {t w : Nat} :
    OutCanonical (execLdh t w s) := (h.issue (fun _ hu => hu.loadOp)).next

theorem execLdw_canonical (h : Canonical s) {t w : Nat} :
    OutCanonical (execLdw t w s) := (h.issue (fun _ hu => hu.loadOp)).next

theorem execLdd_canonical (h : Canonical s) {t w : Nat} :
    OutCanonical (execLdd t w s) := (h.issue (fun _ hu => hu.loadOp)).next

theorem execStb_canonical (h : Canonical s) {t w : Nat} :
    OutCanonical (execStb t w s) := (h.issue (fun _ hu => hu.storeOp)).next

theorem execSth_canonical (h : Canonical s) {t w : Nat} :
    OutCanonical (execSth t w s) := (h.issue (fun _ hu => hu.storeOp)).next

theorem execStw_canonical (h : Canonical s) {t w : Nat} :
    OutCanonical (execStw t w s) := (h.issue (fun _ hu => hu.storeOp)).next

theorem execStd_canonical (h : Canonical s) {t w : Nat} :
    OutCanonical (execStd t w s) := (h.issue (fun _ hu => hu.storeOp)).next

theorem execAmoadd_canonical (h : Canonical s) {t w : Nat} :
    OutCanonical (execAmoadd t w s) := (h.issue (fun _ hu => hu.atomicOp)).next

theorem execCas_canonical (h : Canonical s) {t w : Nat} :
    OutCanonical (execCas t w s) := (h.issue (fun _ hu => hu.atomicOp)).next

theorem Canonical.fence (h : Canonical s) {t w : Nat} :
    Canonical (s.fence t w) := Canonical.ite h.takeTurn (h.issue (fun _ hu => hu.retire))

theorem execFenceFull_canonical (h : Canonical s) {t w : Nat} :
    OutCanonical (execFenceFull t w s) := h.fence.next

theorem execFenceSt_canonical (h : Canonical s) {t w : Nat} :
    OutCanonical (execFenceSt t w s) := h.fence.next

theorem execFenceRn_canonical (h : Canonical s) {t w : Nat} :
    OutCanonical (execFenceRn t w s) := h.fence.next

theorem execHmk_canonical (h : Canonical s) {t w : Nat} :
    OutCanonical (execHmk t w s) := (h.issue (fun _ hu => Canonical.ite hu.except hu.setH.retire)).next

theorem execHget_canonical (h : Canonical s) {t w : Nat} :
    OutCanonical (execHget t w s) := (h.issue (fun _ hu => hu.result)).next

theorem execHldb_canonical (h : Canonical s) {t w : Nat} :
    OutCanonical (execHldb t w s) := (h.issue (fun _ hu => hu.frameLoad)).next

theorem execHldd_canonical (h : Canonical s) {t w : Nat} :
    OutCanonical (execHldd t w s) := (h.issue (fun _ hu => hu.frameLoad)).next

theorem execHstb_canonical (h : Canonical s) {t w : Nat} :
    OutCanonical (execHstb t w s) := (h.issue (fun _ hu => hu.frameStore)).next

theorem execHstd_canonical (h : Canonical s) {t w : Nat} :
    OutCanonical (execHstd t w s) := (h.issue (fun _ hu => hu.frameStore)).next

theorem Canonical.badHandle (h : Canonical s) {t : Nat} :
    Canonical (s.badHandle t) := h.frame.except

theorem Canonical.noteCell (h : Canonical s) {t c : Nat} :
    Canonical (s.noteCell t c) := by
  unfold State.noteCell
  split
  · exact h.setThr
  · exact h

theorem execHalloc_canonical (h : Canonical s) {i w : Nat} : OutCanonical (execHalloc i w s) := by
  refine (h.issue fun u hu => Canonical.ite hu.badHandle ?_).next
  have ha := hu.inRegion (i := i) (hu.allocFloor (len := (u.g i (opRB w)).toNat))
  generalize u.allocFloor (u.g i (opRB w)).toNat = p at ha ⊢
  dsimp only
  split
  · exact ha.noteCell.setH.setP.retire
  · exact ha.setH.setP.retire

theorem execHfree_canonical (h : Canonical s) {t w : Nat} :
    OutCanonical (execHfree t w s) := (h.issue (fun _ hu => Canonical.ite hu.badHandle (Canonical.ite (hu.buffer
        (fun _ hv => hv.setH)) hu.freeChain.setH.retire))).next

theorem Canonical.cryptoOp (h : Canonical s) {i : Nat} {dst src : Nat × Nat} {f : List Byte → List Byte → List Byte} :
    Canonical (s.cryptoOp i dst src f) := by
  unfold State.cryptoOp
  dsimp only
  split
  · exact h.except
  · next m o k p _ _ _ =>
    refine h.whenReady fun _ hu => hu.whenReady fun v hv => ?_
    have hd := hv.load (i := i) (ps := [(m, o, dst.2)])
    generalize v.load i [(m, o, dst.2)] = q at hd ⊢
    have hs := hd.load (i := i) (ps := [(k, p, src.2)])
    generalize q.2.2.load i [(k, p, src.2)] = r at hs ⊢
    split
    · exact hs.except
    · exact Canonical.ite (hs.buffer fun _ hw => hw) (hs.foldl fun _ _ hw => hw.mergePiece).retire
  · exact h.except
  · exact h.except

theorem execShab_canonical (h : Canonical s) {t w : Nat} :
    OutCanonical (execShab t w s) := (h.issue (fun _ hu => hu.cryptoOp)).next

theorem execAesb_canonical (h : Canonical s) {t w : Nat} :
    OutCanonical (execAesb t w s) := (h.issue (fun _ hu => hu.cryptoOp)).next

theorem execPush_canonical (h : Canonical s) {t w : Nat} :
    OutCanonical (execPush t w s) := (h.issue (fun _ hu => hu.pushOp)).next

theorem Canonical.pushSpec (h : Canonical s) {t n : Nat} {d : TxDesc} :
    Canonical (s.pushSpec t n d) := h.buffer (fun _ hu => hu.place)

theorem execPush4_canonical (h : Canonical s) {t w : Nat} :
    OutCanonical (execPush4 t w s) := (h.issue (fun _ hu => Canonical.ite hu.pushSpec hu.pushOp)).next

theorem execTpush_canonical (h : Canonical s) {t w : Nat} :
    OutCanonical (execTpush t w s) := (h.issue (fun _ hu => hu.unlessRegion (fun _ hv => Canonical.ite hv.except
        (Canonical.ite hv.servePushes.threadLand.resultP hv.servePushes.resultP)))).next

theorem execPop_canonical (h : Canonical s) {t w : Nat} :
    OutCanonical (execPop t w s) := (h.issue (fun _ hu => hu.popOp)).next

theorem execPop4_canonical (h : Canonical s) {t w : Nat} :
    OutCanonical (execPop4 t w s) := (h.issue (fun _ hu => hu.popOp)).next

theorem execPopw_canonical (h : Canonical s) {t w : Nat} :
    OutCanonical (execPopw t w s) := (h.issue (fun _ hu => hu.unlessRegion (fun _ hv => Canonical.ite hv.except
        (Canonical.ite hv.servePops.popwTake (Canonical.ite hv.servePops.resultP hv.servePops.frame.enterWait))))).next

theorem execRlev_canonical (h : Canonical s) {t w : Nat} :
    OutCanonical (execRlev t w s) := (h.issue (fun _ hu => Canonical.ite hu.except hu.result)).next

theorem execPushRoom_canonical (h : Canonical s) {t : Nat} :
    OutCanonical (execPushRoom t s) := h.pushRoom.next

theorem execPopWordArrive_canonical (h : Canonical s) {t : Nat} :
    OutCanonical (execPopWordArrive t s) := by
  unfold execPopWordArrive
  split
  · exact h.servePops.popArrive.next
  · exact h.next

theorem execPopwTimeout_canonical (h : Canonical s) {t : Nat} :
    OutCanonical (execPopwTimeout t s) := by
  unfold execPopwTimeout
  split
  · exact (Canonical.ite h.advanceTo.servePops.popwTake h.advanceTo.servePops.resultP).next
  · exact h.next

theorem execNow_canonical (h : Canonical s) {t w : Nat} :
    OutCanonical (execNow t w s) := (h.issue (fun _ hu => hu.result)).next

theorem execNowf_canonical (h : Canonical s) {t w : Nat} :
    OutCanonical (execNowf t w s) := (h.issue (fun _ hu => hu.setGs.retire)).next

theorem execAsn_canonical (h : Canonical s) {t w : Nat} :
    OutCanonical (execAsn t w s) := (h.issue (fun _ hu => hu.result)).next

theorem execWaitt_canonical (h : Canonical s) {t w : Nat} :
    OutCanonical (execWaitt t w s) := (h.issue (fun _ hu => Canonical.ite hu.enterWait hu.retire)).next

theorem execWaittRelease_canonical (h : Canonical s) {t : Nat} :
    OutCanonical (execWaittRelease t s) := by
  unfold execWaittRelease
  split
  · exact (h.on (fun _ hu => hu.advanceToFull)).retire.next
  · exact h.next

theorem execA2t_canonical (h : Canonical s) {t w : Nat} :
    OutCanonical (execA2t t w s) := (h.issue (fun _ hu => hu.result)).next

theorem Canonical.tcmdIssue (h : Canonical s) {i a : Nat} : Canonical (s.tcmdIssue i a) := by
  unfold State.tcmdIssue
  split
  · next m o _ =>
    refine h.whenReady fun _ hu => hu.whenReady fun v hv => ?_
    have hr := hv.readEach (m := m) (ws := (List.range 6).map (o / 8 + ·))
    generalize v.readEach m ((List.range 6).map (o / 8 + ·)) = p at hr ⊢
    dsimp only
    split
    · exact hr.except
    · exact hr.tableCmd.retire
  · exact h

theorem execTcmd_canonical (h : Canonical s) {t w : Nat} :
    OutCanonical (execTcmd t w s) := (h.issue (fun _ hu => hu.unlessRegion (fun _ hv => Canonical.ite hv.except (Canonical.ite hv.except
        (Canonical.ite hv.frame.tcmdIssue hv.frame.enterWait))))).next

theorem execTcmdAccept_canonical (h : Canonical s) {t : Nat} :
    OutCanonical (execTcmdAccept t s) := by
  unfold execTcmdAccept
  split
  · exact h.tcmdIssue.next
  · exact h.next

theorem execTfind_canonical (h : Canonical s) {t w : Nat} :
    OutCanonical (execTfind t w s) := (h.issue (fun _ hu => hu.enterWait)).next

theorem Canonical.readSlots (h : Canonical s) {is : List Nat} : Canonical (s.readSlots is).2.2 := by
  induction is generalizing s with
  | nil => exact h
  | cons i is ih =>
    have hr := h.memReads (m := 1) (w := 4 * i) (n := 4)
    unfold State.readSlots
    generalize s.memReads 1 (4 * i) 4 = p at hr ⊢
    exact ih hr

theorem execTfindResult_canonical (h : Canonical s) {i : Nat} : OutCanonical (execTfindResult i s) := by
  refine Canonical.next ?_
  split
  · next eui cls rd _ _ =>
    dsimp only
    generalize (List.range 4).map (bucketBase eui cls 0 + ·) ++ (List.range 4).map (bucketBase eui cls 1 + ·) = slots
    split
    · exact (h.inRegion h.bump.readSlots).except
    · exact (h.inRegion h.bump.readSlots).result
  · exact h

theorem execTrd_canonical (h : Canonical s) {i w : Nat} : OutCanonical (execTrd i w s) :=
  (h.issue fun _ hu => hu.whenReady fun _ hv =>
    Canonical.ite (hv.inRegion hv.memRead).except (hv.inRegion hv.memRead).result).next

theorem Canonical.rndTo (h : Canonical s) {t rd : Nat} :
    Canonical (s.rndTo t rd) := h.frame.result

theorem execRnd_canonical (h : Canonical s) {t w : Nat} :
    OutCanonical (execRnd t w s) := (h.issue (fun _ hu => Canonical.ite hu.rndTo hu.enterWait)).next

theorem execRndReady_canonical (h : Canonical s) {t : Nat} :
    OutCanonical (execRndReady t s) := by
  unfold execRndReady
  split
  · exact h.rndTo.next
  · exact h.next

theorem Canonical.openRegion (h : Canonical s) {t target : Nat} :
    Canonical (s.openRegion t target) := h.retire.setThr

theorem execSpb_canonical (h : Canonical s) {t w : Nat} :
    OutCanonical (execSpb t w s) := (h.issue (fun _ hu => hu.unlessRegion (fun _ hv => hv.openRegion))).next

theorem execSps_canonical (h : Canonical s) {t w : Nat} :
    OutCanonical (execSps t w s) := by
  unfold execSps
  exact (h.issue (fun _ hu => (by split; exacts [hu.enterWait.sealTime.sealRun, hu]))).next

theorem execSpd_canonical (h : Canonical s) {t w : Nat} :
    OutCanonical (execSpd t w s) := (h.issue (fun _ hu => hu.dropTo)).next

theorem execMfs_canonical (h : Canonical s) {t w : Nat} :
    OutCanonical (execMfs t w s) := (h.issue (fun _ hu => hu.result)).next

theorem execMts_canonical (h : Canonical s) {t w : Nat} :
    OutCanonical (execMts t w s) := (h.issue (fun _ hu => Canonical.ite hu.wdKick.retire (hu.unlessRegion (fun _ hv => hv.setThr.retire)))).next

theorem execTrap_canonical (h : Canonical s) {t w : Nat} :
    OutCanonical (execTrap t w s) := (h.issue (fun _ hu => hu.except)).next

theorem execEret_canonical (h : Canonical s) {t w : Nat} :
    OutCanonical (execEret t w s) := (h.issue (fun _ hu => hu.unlessRegion (fun _ hv => hv.retire.setThr.wdDeliver))).next

theorem execYield_canonical (h : Canonical s) {t w : Nat} :
    OutCanonical (execYield t w s) := (h.issue (fun _ hu => hu.frame.retire)).next

theorem execBrk_canonical (h : Canonical s) {t w : Nat} :
    OutCanonical (execBrk t w s) := (h.issue (fun _ hu => Canonical.ite hu.setThrState hu.except)).next

theorem execRegisterWindowDone_canonical (h : Canonical s) {t : Nat} :
    OutCanonical (execRegisterWindowDone t s) := by
  unfold execRegisterWindowDone
  dsimp only
  split
  · exact (Canonical.ite h.nextCycle.busRead.result h.nextCycle).next
  · exact (Canonical.ite h.nextCycle.busWrite.retire h.nextCycle.busWrite).next
  · exact h.nextCycle.next

theorem Canonical.wdFirst (h : Canonical s) {t : Nat} :
    Canonical (s.wdFirst t) := Canonical.ite h.setThr.oclEvent.except (Canonical.ite h.setThr.oclEvent.setThr h.setThr.oclEvent.setThr.wdDeliver)

theorem execWatchdogExpiry_canonical (h : Canonical s) {t : Nat} :
    OutCanonical (execWatchdogExpiry t s) := (Canonical.ite (Canonical.ite h.advance.wdRestart.thrFault h.advance.wdRestart.wdFirst) h).next

theorem execCoreWedge_canonical (h : Canonical s) {dt k : Nat} :
    OutCanonical (execCoreWedge dt k s) := (Canonical.ite h.advance.wedgeCore h).next

theorem Canonical.spiOpen (h : Canonical s) {f : State → State} (hf : ∀ u, Canonical u → Canonical (f u)) :
    Canonical (s.spiOpen f) := Canonical.ite (hf _ h) h.frame

theorem Canonical.spiEnd (h : Canonical s) {status : Nat} {out : List Byte} :
    Canonical (s.spiEnd status out) := Canonical.ite h.frame h.frame.raise.bump

theorem Canonical.spiNoData (h : Canonical s) {w status : Nat} :
    Canonical (s.spiNoData w status) := h.spiEnd

theorem Canonical.spiRead (h : Canonical s) {off w : Nat} {ready : Bool} :
    Canonical (s.spiRead off w ready) := by
  unfold State.spiRead
  split
  · exact h.spiNoData
  · split
    · exact h.spiNoData
    · split
      · split; next heq => exact (h.busRead.of_snd heq).spiEnd
      · exact (h.frame.on (fun _ hu => hu.busRead)).spiNoData

theorem Canonical.spiWrite (h : Canonical s) {off w : Nat} {d : Word} :
    Canonical (s.spiWrite off w d) := Canonical.ite h.busWrite.spiEnd h.spiEnd

theorem execSpiRegRead32_canonical (h : Canonical s) {dt off : Nat} {ready : Bool} :
    OutCanonical (execSpiRegRead32 dt off ready s) := (h.after.spiOpen (fun _ hu => hu.spiRead)).next

theorem execSpiRegRead64_canonical (h : Canonical s) {dt off : Nat} {ready : Bool} :
    OutCanonical (execSpiRegRead64 dt off ready s) := (h.after.spiOpen (fun _ hu => hu.spiRead)).next

theorem execSpiRegWrite32_canonical (h : Canonical s) {dt off : Nat} {d : Word} :
    OutCanonical (execSpiRegWrite32 dt off d s) := (h.after.spiOpen (fun _ hu => hu.spiWrite)).next

theorem execSpiRegWrite64_canonical (h : Canonical s) {dt off : Nat} {d : Word} :
    OutCanonical (execSpiRegWrite64 dt off d s) := (h.after.spiOpen (fun _ hu => hu.spiWrite)).next

theorem Canonical.spiLoad (h : Canonical s) {rs : List (Nat × Nat)} : Canonical (s.spiLoad rs).2 := by
  induction rs generalizing s with
  | nil => exact h
  | cons r rs ih => exact ih h.memLoad

theorem execSpiPktRead_canonical (h : Canonical s) {r : PktRead} {o n : Nat} :
    OutCanonical (execSpiPktRead r o n s) := (h.after.spiOpen (fun _ hu => Canonical.ite hu.spiEnd (Canonical.ite hu.memReads.spiLoad.spiEnd
        (hu.frame.on (fun _ hv => hv.spiLoad)).spiEnd))).next

theorem Canonical.spiStore (h : Canonical s) {o : Nat} {bs : List Byte} :
    Canonical (s.spiStore o bs) := h.foldl fun _ _ hu => hu.memStore

theorem execSpiPktWrite_canonical (h : Canonical s) {dt o : Nat} {bs : List Byte} :
    OutCanonical (execSpiPktWrite dt o bs s) := (h.after.spiOpen (fun _ hu => hu.spiStore.spiStore.spiEnd)).next

theorem execSpiStatusRead_canonical (h : Canonical s) {dt : Nat} :
    OutCanonical (execSpiStatusRead dt s) := (h.after.spiOpen (fun _ hu => hu.frame)).next

theorem execSpiBadTransaction_canonical (h : Canonical s) {dt : Nat} :
    OutCanonical (execSpiBadTransaction dt s) := (h.after.spiOpen (fun _ hu => hu.spiEnd)).next

theorem exec_canonical (h : Canonical s) (c : Instr) : OutCanonical (exec c s) := by
  cases c with
  | registerWrite _ _ _ _ => exact execRegisterWrite_canonical h
  | counterRead _ => exact execCounterRead_canonical h
  | msixEnable _ _ => exact execMsixEnable_canonical h
  | msixUnmask _ => exact execMsixUnmask_canonical h
  | clipInterval _ _ _ _ => exact execClipInterval_canonical h
  | plmWindowWrite _ _ => exact execPlmWindowWrite_canonical h
  | plmChainCtlWrite _ _ => exact execPlmChainCtlWrite_canonical h
  | chainPrimed _ => exact execChainPrimed_canonical h
  | chainListening _ => exact execChainListening_canonical h
  | chainLeaveListening _ => exact execChainLeaveListening_canonical h
  | chainParked _ => exact execChainParked_canonical h
  | rillEnable _ _ _ => exact execRillEnable_canonical h
  | rillDisable _ _ _ => exact execRillDisable_canonical h
  | rillConfigWrite _ _ _ _ => exact execRillConfigWrite_canonical h
  | phyModeWrite _ _ => exact execPhyModeWrite_canonical h
  | preambleDetect _ _ _ _ _ _ => exact execPreambleDetect_canonical h
  | aerialChoice _ _ _ _ _ => exact execAerialChoice_canonical h
  | aerialChoiceForced _ _ _ _ _ => exact execAerialChoiceForced_canonical h
  | sfdTimeout _ _ _ => exact execSfdTimeout_canonical h
  | sfdFound _ _ _ _ _ _ _ _ _ => exact execSfdFound_canonical h
  | phrReceived _ _ _ _ _ _ _ _ => exact execPhrReceived_canonical h
  | psduByte _ _ _ _ => exact execPsduByte_canonical h
  | frameEnd _ _ _ => exact execFrameEnd_canonical h
  | blankingEnd _ => exact execBlankingEnd_canonical h
  | synWindowWrite _ _ => exact execSynWindowWrite_canonical h
  | cal _ _ => exact execCal_canonical h
  | synLock _ _ => exact execSynLock_canonical h
  | synFault _ => exact execSynFault_canonical h
  | tempCalDue _ _ _ => exact execTempCalDue_canonical h
  | tempCalStart _ _ => exact execTempCalStart_canonical h
  | calStarved _ => exact execCalStarved_canonical h
  | txWake _ _ => exact execTxWake_canonical h
  | txOff _ => exact execTxOff_canonical h
  | carrierEnable _ _ _ => exact execCarrierEnable_canonical h
  | carrierConfigWrite _ _ _ _ => exact execCarrierConfigWrite_canonical h
  | txDescriptor _ _ => exact execTxDescriptor_canonical h
  | charterStageResume _ => exact execCharterStageResume_canonical h
  | coexReqAssert _ _ => exact execCoexReqAssert_canonical h
  | grantSample _ _ _ => exact execGrantSample_canonical h
  | grantWithdrawal _ _ => exact execGrantWithdrawal_canonical h
  | commitPoint _ _ => exact execCommitPoint_canonical h
  | txLate _ _ => exact execTxLate_canonical h
  | txswAssert _ _ => exact execTxswAssert_canonical h
  | paAssert _ _ => exact execPaAssert_canonical h
  | rfStart _ _ => exact execRfStart_canonical h
  | lastRf _ _ => exact execLastRf_canonical h
  | paRelease _ => exact execPaRelease_canonical h
  | txswRelease _ => exact execTxswRelease_canonical h
  | lnaActive _ => exact execLnaActive_canonical h
  | lockLoss _ _ => exact execLockLoss_canonical h
  | femPolApply _ => exact execFemPolApply_canonical h
  | fuseBlow _ => exact execFuseBlow_canonical h
  | fuseDone => exact execFuseDone_canonical h
  | digestDone => exact execDigestDone_canonical h
  | binRotation => exact execBinRotation_canonical h
  | macEnable _ => exact execMacEnable_canonical h
  | slotResolve => exact execSlotResolve_canonical h
  | slotStart => exact execSlotStart_canonical h
  | slotEnd => exact execSlotEnd_canonical h
  | ackWindowClose _ _ => exact execAckWindowClose_canonical h
  | spwLoad _ => exact execSpwLoad_canonical h
  | startFull _ => exact execStartFull_canonical h
  | startRepair _ => exact execStartRepair_canonical h
  | merge _ _ => exact execMerge_canonical h
  | clearMissing _ => exact execClearMissing_canonical h
  | suspend _ => exact execSuspend_canonical h
  | resume _ => exact execResume_canonical h
  | abort _ => exact execAbort_canonical h
  | spwFlashReadDone _ _ => exact execSpwFlashReadDone_canonical h
  | spwSlotSkip _ => exact execSpwSlotSkip_canonical h
  | sluiceHeader _ => exact execSluiceHeader_canonical h
  | wiredPacket _ => exact execWiredPacket_canonical h
  | sluiceCommit _ => exact execSluiceCommit_canonical h
  | search _ _ => exact execSearch_canonical h
  | next _ _ => exact execNext_canonical h
  | insert _ _ => exact execInsert_canonical h
  | update _ _ => exact execUpdate_canonical h
  | delete _ _ => exact execDelete_canonical h
  | flushPort _ _ => exact execFlushPort_canonical h
  | flushPortDone => exact execFlushPortDone_canonical h
  | scanTimeout => exact execScanTimeout_canonical h
  | agerVisit => exact execAgerVisit_canonical h
  | relocSeedWrite _ => exact execRelocSeedWrite_canonical h
  | recon _ => exact execRecon_canonical h
  | enrol _ => exact execEnrol_canonical h
  | refresh _ => exact execRefresh_canonical h
  | sealRoot _ => exact execSealRoot_canonical h
  | grtLoad _ => exact execGrtLoad_canonical h
  | provision _ => exact execProvision_canonical h
  | rekeyNet _ => exact execRekeyNet_canonical h
  | importGroup _ => exact execImportGroup_canonical h
  | retireGroup _ => exact execRetireGroup_canonical h
  | importOvr _ => exact execImportOvr_canonical h
  | clearOvr _ => exact execClearOvr_canonical h
  | exportPage _ => exact execExportPage_canonical h
  | floorCommit _ => exact execFloorCommit_canonical h
  | attest _ => exact execAttest_canonical h
  | grtBlow _ => exact execGrtBlow_canonical h
  | debugExport _ => exact execDebugExport_canonical h
  | grtCmdDone => exact execGrtCmdDone_canonical h
  | invalidationSweepDone => exact execInvalidationSweepDone_canonical h
  | msgErase => exact execMsgErase_canonical h
  | keyReady _ => exact execKeyReady_canonical h
  | verifyJobStart _ => exact execVerifyJobStart_canonical h
  | verifyDone _ => exact execVerifyDone_canonical h
  | protectJobStart _ _ => exact execProtectJobStart_canonical h
  | protectDone _ _ => exact execProtectDone_canonical h
  | maskRefresh => exact execMaskRefresh_canonical h
  | drbgReseed => exact execDrbgReseed_canonical h
  | drbgHealthFail _ _ => exact execDrbgHealthFail_canonical h
  | unlockChal _ => exact execUnlockChal_canonical h
  | unlockResp _ _ => exact execUnlockResp_canonical h
  | add _ _ => exact execAdd_canonical h
  | sub _ _ => exact execSub_canonical h
  | and _ _ => exact execAnd_canonical h
  | or _ _ => exact execOr_canonical h
  | xor _ _ => exact execXor_canonical h
  | sll _ _ => exact execSll_canonical h
  | srl _ _ => exact execSrl_canonical h
  | sra _ _ => exact execSra_canonical h
  | mul _ _ => exact execMul_canonical h
  | sel _ _ => exact execSel_canonical h
  | addi _ _ => exact execAddi_canonical h
  | andi _ _ => exact execAndi_canonical h
  | ori _ _ => exact execOri_canonical h
  | xori _ _ => exact execXori_canonical h
  | slli _ _ => exact execSlli_canonical h
  | srli _ _ => exact execSrli_canonical h
  | srai _ _ => exact execSrai_canonical h
  | li _ _ => exact execLi_canonical h
  | lih _ _ => exact execLih_canonical h
  | ceq _ _ => exact execCeq_canonical h
  | cne _ _ => exact execCne_canonical h
  | clt _ _ => exact execClt_canonical h
  | cltu _ _ => exact execCltu_canonical h
  | cge _ _ => exact execCge_canonical h
  | cgeu _ _ => exact execCgeu_canonical h
  | pand _ _ => exact execPand_canonical h
  | por _ _ => exact execPor_canonical h
  | pnot _ _ => exact execPnot_canonical h
  | br _ _ => exact execBr_canonical h
  | call _ _ => exact execCall_canonical h
  | jalr _ _ => exact execJalr_canonical h
  | dbnz _ _ => exact execDbnz_canonical h
  | ldb _ _ => exact execLdb_canonical h
  | ldh _ _ => exact execLdh_canonical h
  | ldw _ _ => exact execLdw_canonical h
  | ldd _ _ => exact execLdd_canonical h
  | stb _ _ => exact execStb_canonical h
  | sth _ _ => exact execSth_canonical h
  | stw _ _ => exact execStw_canonical h
  | std _ _ => exact execStd_canonical h
  | amoadd _ _ => exact execAmoadd_canonical h
  | cas _ _ => exact execCas_canonical h
  | fenceFull _ _ => exact execFenceFull_canonical h
  | fenceSt _ _ => exact execFenceSt_canonical h
  | fenceRn _ _ => exact execFenceRn_canonical h
  | push _ _ => exact execPush_canonical h
  | push4 _ _ => exact execPush4_canonical h
  | tpush _ _ => exact execTpush_canonical h
  | pop _ _ => exact execPop_canonical h
  | pop4 _ _ => exact execPop4_canonical h
  | popw _ _ => exact execPopw_canonical h
  | rlev _ _ => exact execRlev_canonical h
  | pushRoom _ => exact execPushRoom_canonical h
  | popWordArrive _ => exact execPopWordArrive_canonical h
  | popwTimeout _ => exact execPopwTimeout_canonical h
  | now _ _ => exact execNow_canonical h
  | nowf _ _ => exact execNowf_canonical h
  | asn _ _ => exact execAsn_canonical h
  | waitt _ _ => exact execWaitt_canonical h
  | waittRelease _ => exact execWaittRelease_canonical h
  | a2t _ _ => exact execA2t_canonical h
  | tcmd _ _ => exact execTcmd_canonical h
  | tcmdAccept _ => exact execTcmdAccept_canonical h
  | tfind _ _ => exact execTfind_canonical h
  | tfindResult _ => exact execTfindResult_canonical h
  | trd _ _ => exact execTrd_canonical h
  | hmk _ _ => exact execHmk_canonical h
  | hget _ _ => exact execHget_canonical h
  | hldb _ _ => exact execHldb_canonical h
  | hldd _ _ => exact execHldd_canonical h
  | hstb _ _ => exact execHstb_canonical h
  | hstd _ _ => exact execHstd_canonical h
  | halloc _ _ => exact execHalloc_canonical h
  | hfree _ _ => exact execHfree_canonical h
  | bfx _ _ => exact execBfx_canonical h
  | bfxs _ _ => exact execBfxs_canonical h
  | bfi _ _ => exact execBfi_canonical h
  | clz _ _ => exact execClz_canonical h
  | bswap _ _ => exact execBswap_canonical h
  | crc32cb _ _ => exact execCrc32cb_canonical h
  | crc32cd _ _ => exact execCrc32cd_canonical h
  | crc32b _ _ => exact execCrc32b_canonical h
  | crc32d _ _ => exact execCrc32d_canonical h
  | crc16b _ _ => exact execCrc16b_canonical h
  | shab _ _ => exact execShab_canonical h
  | aesb _ _ => exact execAesb_canonical h
  | rnd _ _ => exact execRnd_canonical h
  | rndReady _ => exact execRndReady_canonical h
  | spb _ _ => exact execSpb_canonical h
  | sps _ _ => exact execSps_canonical h
  | spd _ _ => exact execSpd_canonical h
  | mfs _ _ => exact execMfs_canonical h
  | mts _ _ => exact execMts_canonical h
  | trap _ _ => exact execTrap_canonical h
  | eret _ _ => exact execEret_canonical h
  | yield _ _ => exact execYield_canonical h
  | brk _ _ => exact execBrk_canonical h
  | registerWindowDone _ => exact execRegisterWindowDone_canonical h
  | thrStart _ _ => exact execThrStart_canonical h
  | thrStop _ _ => exact execThrStop_canonical h
  | thrHalt _ _ => exact execThrHalt_canonical h
  | thrResume _ _ => exact execThrResume_canonical h
  | dbgDataWrite _ _ => exact execDbgDataWrite_canonical h
  | jDbgHalt _ => exact execJDbgHalt_canonical h
  | jDbgResume _ => exact execJDbgResume_canonical h
  | watchdogExpiry _ => exact execWatchdogExpiry_canonical h
  | coreWedge _ _ => exact execCoreWedge_canonical h
  | runnelEnable _ _ => exact execRunnelEnable_canonical h
  | runnelDisable _ _ => exact execRunnelDisable_canonical h
  | runnelDisableDone _ => exact execRunnelDisableDone_canonical h
  | enginePushRoom _ => exact execEnginePushRoom_canonical h
  | hostPush _ => exact execHostPush_canonical h
  | hostPop _ => exact execHostPop_canonical h
  | runnelFlush _ => exact execRunnelFlush_canonical h
  | flushDone _ => exact execFlushDone_canonical h
  | hostAlloc _ => exact execHostAlloc_canonical h
  | hostAllocDone => exact execHostAllocDone_canonical h
  | hostFree _ => exact execHostFree_canonical h
  | cisternTrimCorrect => exact execCisternTrimCorrect_canonical h
  | nowSRead _ => exact execNowSRead_canonical h
  | set _ => exact execSet_canonical h
  | step _ => exact execStep_canonical h
  | arm _ => exact execArm_canonical h
  | disarm _ => exact execDisarm_canonical h
  | masterChg _ => exact execMasterChg_canonical h
  | resetI _ => exact execResetI_canonical h
  | ofsSample _ _ => exact execOfsSample_canonical h
  | slewEnd => exact execSlewEnd_canonical h
  | holdover => exact execHoldover_canonical h
  | ppsInEdge _ => exact execPpsInEdge_canonical h
  | ppsMiss => exact execPpsMiss_canonical h
  | ppsOutAssert => exact execPpsOutAssert_canonical h
  | ppsOutRelease => exact execPpsOutRelease_canonical h
  | asnStart => exact execAsnStart_canonical h
  | ethEnable _ _ => exact execEthEnable_canonical h
  | ethRxFrame _ _ _ _ => exact execEthRxFrame_canonical h
  | ethTxRecord _ _ => exact execEthTxRecord_canonical h
  | ethTxDone _ _ => exact execEthTxDone_canonical h
  | ethLinkUp _ _ => exact execEthLinkUp_canonical h
  | ethLinkDown _ _ _ => exact execEthLinkDown_canonical h
  | bar2Access _ _ _ _ _ => exact execBar2Access_canonical h
  | pcieLinkDown _ _ => exact execPcieLinkDown_canonical h
  | hotReset _ _ => exact execHotReset_canonical h
  | busMasterClear _ _ _ => exact execBusMasterClear_canonical h
  | pciePerst _ _ => exact execPciePerst_canonical h
  | ringEnable _ _ => exact execRingEnable_canonical h
  | ringDisable _ _ _ => exact execRingDisable_canonical h
  | ringDoorbell _ _ => exact execRingDoorbell_canonical h
  | ringDmaReadDone _ _ _ => exact execRingDmaReadDone_canonical h
  | ringRecordPop _ _ => exact execRingRecordPop_canonical h
  | ringCoalTimer _ => exact execRingCoalTimer_canonical h
  | ringDmaError _ _ => exact execRingDmaError_canonical h
  | hostIngressRecord _ => exact execHostIngressRecord_canonical h
  | spiRegRead32 _ _ _ => exact execSpiRegRead32_canonical h
  | spiRegRead64 _ _ _ => exact execSpiRegRead64_canonical h
  | spiRegWrite32 _ _ _ => exact execSpiRegWrite32_canonical h
  | spiRegWrite64 _ _ _ => exact execSpiRegWrite64_canonical h
  | spiPktRead _ _ _ => exact execSpiPktRead_canonical h
  | spiPktWrite _ _ _ => exact execSpiPktWrite_canonical h
  | spiStatusRead _ => exact execSpiStatusRead_canonical h
  | spiBadTransaction _ => exact execSpiBadTransaction_canonical h
  | flashDiscoveryDone _ _ _ => exact execFlashDiscoveryDone_canonical h
  | flsRead _ _ => exact execFlsRead_canonical h
  | flsProgram _ _ => exact execFlsProgram_canonical h
  | erase4k _ => exact execErase4k_canonical h
  | erase64k _ => exact execErase64k_canonical h
  | flsCmdDone _ _ => exact execFlsCmdDone_canonical h
  | resetRelease _ _ _ => exact execResetRelease_canonical h
  | memoryInitDone _ _ => exact execMemoryInitDone_canonical h
  | jetLock _ _ => exact execJetLock_canonical h
  | jetLockTimeout _ => exact execJetLockTimeout_canonical h
  | chainWakeRequest _ => exact execChainWakeRequest_canonical h
  | clusterStop _ => exact execClusterStop_canonical h
  | clusterWake _ => exact execClusterWake_canonical h
  | sscApply => exact execSscApply_canonical h
  | dormantEnter _ => exact execDormantEnter_canonical h
  | dormantAlarm => exact execDormantAlarm_canonical h
  | wakeNWake _ => exact execWakeNWake_canonical h
  | pfailDetect _ _ => exact execPfailDetect_canonical h
  | brownOut _ => exact execBrownOut_canonical h
  | pfailReset _ => exact execPfailReset_canonical h
  | powerRestart _ _ _ => exact execPowerRestart_canonical h
  | softReset _ => exact execSoftReset_canonical h
  | rstNAssert _ => exact execRstNAssert_canonical h
  | vbatLoss _ => exact execVbatLoss_canonical h
  | cisternSupplySwitch _ _ => exact execCisternSupplySwitch_canonical h
  | vbatLow _ => exact execVbatLow_canonical h
  | skimStart _ => exact execSkimStart_canonical h
  | skimAbort => exact execSkimAbort_canonical h
  | skimWord _ => exact execSkimWord_canonical h
  | skimDone => exact execSkimDone_canonical h
  | flipArm _ => exact execFlipArm_canonical h
  | flipLock => exact execFlipLock_canonical h
  | twinEnable _ => exact execTwinEnable_canonical h
  | pairWaitExpiry => exact execPairWaitExpiry_canonical h
  | twinLaneLock _ _ _ => exact execTwinLaneLock_canonical h
  | heartbeatSend => exact execHeartbeatSend_canonical h
  | heartbeat _ _ _ _ _ => exact execHeartbeat_canonical h
  | linkSilence => exact execLinkSilence_canonical h
  | mirrorSend => exact execMirrorSend_canonical h
  | mirror _ _ _ _ _ => exact execMirror_canonical h
  | resync _ _ _ _ => exact execResync_canonical h
  | twnResync => exact execTwnResync_canonical h
  | syncEnd _ _ _ _ => exact execSyncEnd_canonical h
  | takeoverDecision _ => exact execTakeoverDecision_canonical h
  | takeover _ _ _ _ _ => exact execTakeover_canonical h
  | suspectWindowEnd => exact execSuspectWindowEnd_canonical h
  | twnHandover => exact execTwnHandover_canonical h
  | handoverSend _ => exact execHandoverSend_canonical h
  | handover _ _ _ _ _ => exact execHandover_canonical h
  | goodbye _ _ _ _ _ => exact execGoodbye_canonical h
  | packet _ _ _ _ _ => exact execPacket_canonical h
  | twinTxRecord _ => exact execTwinTxRecord_canonical h
  | bootRomStart _ => exact execBootRomStart_canonical h
  | activate _ _ => exact execActivate_canonical h
  | stillTake _ => exact execStillTake_canonical h
  | stillSnapshot => exact execStillSnapshot_canonical h
  | stillRelease _ => exact execStillRelease_canonical h
  | stillAuto => exact execStillAuto_canonical h
  | siltPost _ _ _ => exact execSiltPost_canonical h
  | statClear => exact execStatClear_canonical h
  | siltFlush => exact execSiltFlush_canonical h
  | siltFlushTimer => exact execSiltFlushTimer_canonical h
  | siltFlushDone => exact execSiltFlushDone_canonical h
  | siltRingScan _ => exact execSiltRingScan_canonical h
  | opHour => exact execOpHour_canonical h
  | eddyKey _ _ => exact execEddyKey_canonical h
  | eddyLock => exact execEddyLock_canonical h
  | eddySeedWrite _ _ => exact execEddySeedWrite_canonical h
  | eddyHoldRelease _ => exact execEddyHoldRelease_canonical h
  | pcieLinkUp _ _ _ => exact execPcieLinkUp_canonical h
  | charterLoaded => exact execCharterLoaded_canonical h
  | vbatRestore _ => exact execVbatRestore_canonical h

theorem Canonical.withQueue (h : Canonical s) {q : List Instr} :
    Canonical (s.withQueue q) := h

theorem step_canonical (h : Canonical s) : OutCanonical (step s) := by
  unfold step
  split
  · exact exec_canonical h.withQueue _
  · exact h.advance.next

theorem Canonical.withFetchWord (h : Canonical s) {nbits w : Nat} :
    Canonical (s.withFetchWord nbits w) := h

/-- Settles O54: `step_canonical`, from one lemma per command and one per operation that a command is made of. -/
theorem stepKeepsCanonicalForm : Obligations.StepKeepsCanonicalForm := fun _ t h ht => step_canonical h t ht

end Sys2Proof.Machine
end

section
/-! PROOFS. `Obligations.StepRunsFrontCommand` and `Obligations.ResetState`. -/

namespace Sys2Proof.Machine

/-- Time that passes changes Clepsydra alone. -/
theorem advance_only_clp (s : State) (d : Nat) : s.advance d = { s with clp := (s.advance d).clp } := by
  simp only [State.advance, State.cisternTicks]
  split <;> rfl

/-- Settles O1: by the two cases of `step`. -/
theorem stepRunsFrontCommand : Obligations.StepRunsFrontCommand := by
  refine ⟨fun s c q h => ?_, fun _ _ => rfl, fun s h => ⟨?_, advance_now s 1, advance_only_clp s 1⟩⟩
  · simp only [step, h]
  · simp only [step, h]

/-- A register that the reset state does not list reads its reset value. -/
theorem reset_reg (id : RegId) (i j : Nat) : State.reset.reg id i j = resetAt id i j := rfl

/-- Settles O2: the reset state lists nothing, so every read of it is a default. -/
theorem resetState : Obligations.ResetState :=
  ⟨rfl, reset_reg, fun _ _ => rfl, fun _ _ => rfl, fun _ => rfl, fun _ => rfl, fun _ => rfl, rfl, rfl, rfl, rfl, rfl, wf_reset, rfl⟩

end Sys2Proof.Machine
end

section
/-! PROOFS. Rules that the statements of the system blocks share: flags after writes and events, and what the passage of time leaves alone. -/

namespace Sys2Proof.Machine

/-! ## Flags -/

theorem flag_setFld_one (s : State) (f : Fld) (i j : Nat) (h : f.lo + f.w ≤ 64) (hw : f.w = 1) : (s.setFld f 1 i j).flag f i j = true :=
  flag_setFld_cond s f true i j h hw

theorem flag_setFld_zero (s : State) (f : Fld) (i j : Nat) (h : f.lo + f.w ≤ 64) (hw : f.w = 1) : (s.setFld f 0 i j).flag f i j = false :=
  flag_setFld_cond s f false i j h hw

theorem flag_setFld_id (s : State) {f g : Fld} (v i j i' j' : Nat) (h : g.reg ≠ f.reg) : (s.setFld f v i j).flag g i' j' = s.flag g i' j' := by
  rw [State.flag, fld_setFld_id _ _ _ _ _ _ h, State.flag]

theorem flag_setFld_disjoint (s : State) {f g : Fld} (v i j i' j' : Nat) (h : f.lo + f.w ≤ 64)
    (hd : g.lo + g.w ≤ f.lo ∨ f.lo + f.w ≤ g.lo) : (s.setFld f v i j).flag g i' j' = s.flag g i' j' := by
  rw [State.flag, fld_setFld_disjoint _ _ _ _ _ _ h hd, State.flag]

theorem flag_setReg_id (s : State) {id : RegId} {g : Fld} (v : Word) (i j i' j' : Nat) (h : g.reg ≠ id) :
    (s.setReg id i j v).flag g i' j' = s.flag g i' j' := by
  rw [State.flag, State.fld, reg_setReg_id _ _ _ _ _ _ h, State.flag, State.fld]

theorem fld_setReg_id (s : State) {id : RegId} {g : Fld} (v : Word) (i j i' j' : Nat) (h : g.reg ≠ id) :
    (s.setReg id i j v).fld g i' j' = s.fld g i' j' := by
  rw [State.fld, reg_setReg_id _ _ _ _ _ _ h, State.fld]

theorem flag_raise_id (s : State) {f g : Fld} (i i' j' : Nat) (h : g.reg ≠ f.reg) : (s.raise f i).flag g i' j' = s.flag g i' j' := by
  rw [State.flag, fld_raise_id _ _ _ _ h, State.flag]

theorem flag_raise_disjoint (s : State) {f g : Fld} (i i' j' : Nat) (h : f.lo + f.w ≤ 64)
    (hd : g.lo + g.w ≤ f.lo ∨ f.lo + f.w ≤ g.lo) : (s.raise f i).flag g i' j' = s.flag g i' j' := by
  rw [State.flag, fld_raise_disjoint _ _ _ _ h hd, State.flag]

theorem flag_bump_id (s : State) {f g : Fld} (n i j i' j' : Nat) (h : g.reg ≠ f.reg) : (s.bump f n i j).flag g i' j' = s.flag g i' j' := by
  rw [State.flag, fld_bump_id _ _ _ _ _ _ h, State.flag]

theorem reg_setFld_id (s : State) {f : Fld} {id : RegId} (v i j i' j' : Nat) (h : id ≠ f.reg) :
    (s.setFld f v i j).reg id i' j' = s.reg id i' j' := reg_setReg_id _ _ _ _ _ _ h

/-- A flag that every step of a fold leaves alone. -/
theorem foldl_flag {α : Type} {f : State → α → State} {g : Fld} {i j : Nat} (h : ∀ s a, (f s a).flag g i j = s.flag g i j)
    (l : List α) (s : State) : (l.foldl f s).flag g i j = s.flag g i j :=
  List.foldlRecOn (motive := fun t : State => t.flag g i j = s.flag g i j) l f rfl fun t ht a _ => (h t a).trans ht

/-- A component of the state that every step of a fold leaves alone. -/
theorem foldl_keeps {α β : Type} {f : State → α → State} {c : State → β} (h : ∀ s a, c (f s a) = c s) (l : List α) (s : State) :
    c (l.foldl f s) = c s :=
  List.foldlRecOn (motive := fun t : State => c t = c s) l f rfl fun t ht a _ => (h t a).trans ht

/-- A component of the state that a conditional update leaves alone. -/
theorem on_component {β : Type} {c : State → β} {f : State → State} (s : State) (b : Bool) (h : c (f s) = c s) : c (s.on b f) = c s :=
  on_keeps (P := fun t : State => c t = c s) b rfl h

/-! ## Time -/

@[simp] theorem after_pending (s : State) (dt : Nat) : (s.after dt).pending = s.pending := advance_pending s _
@[simp] theorem after_mem (s : State) (dt : Nat) : (s.after dt).mem = s.mem := advance_mem s _
@[simp] theorem after_ecc (s : State) (dt : Nat) : (s.after dt).ecc = s.ecc := advance_ecc s _
@[simp] theorem after_cyc (s : State) (dt : Nat) : (s.after dt).cyc = s.cyc := advance_cyc s _
@[simp] theorem after_pwr (s : State) (dt : Nat) : (s.after dt).pwr = s.pwr := advance_pwr s _
@[simp] theorem after_hst (s : State) (dt : Nat) : (s.after dt).hst = s.hst := advance_hst s _
@[simp] theorem after_obs (s : State) (dt : Nat) : (s.after dt).obs = s.obs := advance_obs s _
@[simp] theorem after_cht (s : State) (dt : Nat) : (s.after dt).cht = s.cht := advance_cht s _
@[simp] theorem after_mac (s : State) (dt : Nat) : (s.after dt).mac = s.mac := advance_mac s _
@[simp] theorem after_spw (s : State) (dt : Nat) : (s.after dt).spw = s.spw := advance_spw s _
@[simp] theorem after_eth (s : State) (dt : Nat) : (s.after dt).eth = s.eth := advance_eth s _
@[simp] theorem after_fls (s : State) (dt : Nat) : (s.after dt).fls = s.fls := advance_fls s _
@[simp] theorem after_skim (s : State) (dt : Nat) : (s.after dt).skim = s.skim := advance_skim s _
@[simp] theorem after_twn (s : State) (dt : Nat) : (s.after dt).twn = s.twn := advance_twn s _
@[simp] theorem after_bot (s : State) (dt : Nat) : (s.after dt).bot = s.bot := advance_bot s _
@[simp] theorem after_ocl (s : State) (dt : Nat) : (s.after dt).ocl = s.ocl := advance_ocl s _
@[simp] theorem after_regs (s : State) (dt : Nat) : (s.after dt).regs = s.regs := advance_regs s _
@[simp] theorem after_draw (s : State) (dt : Nat) : (s.after dt).draw = s.draw := advance_draw s _

@[simp] theorem advanceTo_pending (s : State) (t : Nat) : (s.advanceTo t).pending = s.pending := advance_pending s _
@[simp] theorem advanceTo_mem (s : State) (t : Nat) : (s.advanceTo t).mem = s.mem := advance_mem s _
@[simp] theorem advanceTo_ecc (s : State) (t : Nat) : (s.advanceTo t).ecc = s.ecc := advance_ecc s _
@[simp] theorem advanceTo_cyc (s : State) (t : Nat) : (s.advanceTo t).cyc = s.cyc := advance_cyc s _
@[simp] theorem advanceTo_pwr (s : State) (t : Nat) : (s.advanceTo t).pwr = s.pwr := advance_pwr s _
@[simp] theorem advanceTo_hst (s : State) (t : Nat) : (s.advanceTo t).hst = s.hst := advance_hst s _
@[simp] theorem advanceTo_obs (s : State) (t : Nat) : (s.advanceTo t).obs = s.obs := advance_obs s _
@[simp] theorem advanceTo_txf (s : State) (t : Nat) : (s.advanceTo t).txf = s.txf := advance_txf s _
@[simp] theorem advanceTo_mac (s : State) (t : Nat) : (s.advanceTo t).mac = s.mac := advance_mac s _
@[simp] theorem advanceTo_spw (s : State) (t : Nat) : (s.advanceTo t).spw = s.spw := advance_spw s _
@[simp] theorem advanceTo_eth (s : State) (t : Nat) : (s.advanceTo t).eth = s.eth := advance_eth s _
@[simp] theorem advanceTo_fls (s : State) (t : Nat) : (s.advanceTo t).fls = s.fls := advance_fls s _
@[simp] theorem advanceTo_skim (s : State) (t : Nat) : (s.advanceTo t).skim = s.skim := advance_skim s _
@[simp] theorem advanceTo_twn (s : State) (t : Nat) : (s.advanceTo t).twn = s.twn := advance_twn s _
@[simp] theorem advanceTo_bot (s : State) (t : Nat) : (s.advanceTo t).bot = s.bot := advance_bot s _
@[simp] theorem advanceTo_ocl (s : State) (t : Nat) : (s.advanceTo t).ocl = s.ocl := advance_ocl s _
@[simp] theorem advanceTo_regs (s : State) (t : Nat) : (s.advanceTo t).regs = s.regs := advance_regs s _
@[simp] theorem advanceTo_draw (s : State) (t : Nat) : (s.advanceTo t).draw = s.draw := advance_draw s _

@[simp] theorem after_sfld (s : State) (dt : Nat) (f : Fld) (i j : Nat) : (s.after dt).sfld f i j = s.sfld f i j := by
  rw [State.sfld, after_fld, State.sfld]

theorem after_memReady (s : State) (dt m : Nat) : (s.after dt).memReady m = s.memReady m := by rw [State.memReady, after_pwr, State.memReady]

/-! ## Commands that come after some time, and events that fall -/

variable {s : State} {dt : Nat}

/-- A command that lets `dt` ns pass and then acts on a powered device. -/
theorem completes_of_after {c : Instr} {f : State → State} {P : State → Prop} (hr : s.released = true)
    (he : exec c s = .next ((s.after dt).powered f)) (h : P (f (s.after dt))) : Completes c s P :=
  ⟨_, he, by rwa [powered_of_released ((after_released s dt).trans hr)]⟩

theorem lower_clp (s : State) (f : Fld) (i : Nat) : (s.lower f i).clp = s.clp := by
  obtain ⟨_, _, _, h⟩ := settleVector_sameButMessages (s.setFld f 0 i) (vectorOf f.reg i)
  rw [State.lower, h]
  rfl

theorem lower_regs (s : State) (f : Fld) (i : Nat) : (s.lower f i).regs = (s.setFld f 0 i).regs := (settleVector_sameButMessages _ _).regs

theorem flag_lower_self (s : State) (f : Fld) (i : Nat) (h : f.lo + f.w ≤ 64) (hw : f.w = 1) : (s.lower f i).flag f i = false :=
  (flag_of_reg (reg_congr (lower_regs s f i) _ _ _)).trans (flag_setFld_zero s f i 0 h hw)

theorem lower_txf (s : State) (f : Fld) (i : Nat) : (s.lower f i).txf = s.txf := by
  obtain ⟨_, _, _, h⟩ := settleVector_sameButMessages (s.setFld f 0 i) (vectorOf f.reg i)
  rw [State.lower, h]
  rfl

end Sys2Proof.Machine
end

section
/-! PROOFS. What the Silt recorder, interrupt messages, the memories and the error injector touch: memory and its error marks, the recorder, the
host interface, and a few registers. Everything else stays (R439–R448, R505–R513, R526). -/

namespace Sys2Proof.Machine

/-- The blocks that neither the recorder nor a memory access nor an interrupt message touches. -/
def State.outside (s : State) : State := { s with regs := [], mem := [], ecc := [], draw := 0, obs := {}, hst := {}, cyc := {} }

/-- `t` is `s` but for memory, the recorder, the host interface and the registers `ids`. -/
structure State.Near (ids : List RegId) (s t : State) : Prop where
  outside : t.outside = s.outside
  reg : ∀ id ∉ ids, ∀ i j, t.reg id i j = s.reg id i j

namespace State.Near

variable {ids : List RegId} {s t u : State}

theorem refl (ids : List RegId) (s : State) : s.Near ids s := ⟨rfl, fun _ _ _ _ => rfl⟩

theorem trans (h : s.Near ids t) (h' : t.Near ids u) : s.Near ids u :=
  ⟨h'.outside.trans h.outside, fun id hid i j => (h'.reg id hid i j).trans (h.reg id hid i j)⟩

theorem mono {ids' : List RegId} (h : s.Near ids t) (hsub : ids ⊆ ids') : s.Near ids' t :=
  ⟨h.outside, fun id hid => h.reg id fun hin => hid (hsub hin)⟩

/-- A change of what `outside` leaves out, the registers apart. -/
theorem rest (h : s.Near ids t) (ho : u.outside = t.outside) (hr : u.regs = t.regs) : s.Near ids u :=
  h.trans ⟨ho, fun id _ i j => reg_congr hr id i j⟩

theorem setFld {f : Fld} {v i j : Nat} (hf : f.reg ∈ ids) (h : s.Near ids t) : s.Near ids (t.setFld f v i j) :=
  h.trans ⟨rfl, fun _ hid _ _ => reg_setReg_id _ _ _ _ _ _ fun e => hid (e ▸ hf)⟩

theorem sendVector_outside (s : State) (v : Nat) : (s.sendVector v).outside = s.outside := by
  simp only [State.sendVector]
  repeat' split
  all_goals rfl

theorem raise_outside (s : State) (f : Fld) (i : Nat) : (s.raise f i).outside = s.outside := by
  obtain ⟨c, hc⟩ := noteEvent_eq s f i
  obtain h | h := raise_cases s f i
  · rw [h, hc]
    rfl
  · rw [h, sendVector_outside, hc]
    rfl

theorem raise {f : Fld} {i : Nat} (hf : f.reg ∈ ids) (h : s.Near ids t) : s.Near ids (t.raise f i) :=
  h.trans ⟨raise_outside t f i, fun _ hid _ _ => reg_raise_id _ _ _ _ fun e => hid (e ▸ hf)⟩

theorem bump {f : Fld} {n i j : Nat} (hf : f.reg ∈ ids) (h : s.Near ids t) : s.Near ids (t.bump f n i j) :=
  h.trans ⟨rfl, fun _ hid _ _ => reg_bump_id _ _ _ _ _ _ fun e => hid (e ▸ hf)⟩

theorem on {c : Bool} {f : State → State} (hf : ∀ t : State, t.Near ids (f t)) (h : s.Near ids t) : s.Near ids (t.on c f) :=
  on_keeps c h (h.trans (hf t))

theorem foldl {α : Type} {f : State → α → State} {l : List α} (hf : ∀ (s : State) (a : α), s.Near ids (f s a)) (h : s.Near ids t) :
    s.Near ids (l.foldl f t) :=
  List.foldlRecOn l f h fun _ h a _ => h.trans (hf _ a)

/-! ## What stays -/

variable (h : s.Near ids t)
include h

theorem fld {f : Fld} (hf : f.reg ∉ ids) (i j : Nat) : t.fld f i j = s.fld f i j := fld_of_reg (h.reg _ hf i j)

theorem flag {f : Fld} (hf : f.reg ∉ ids) (i j : Nat) : t.flag f i j = s.flag f i j := flag_of_reg (h.reg _ hf i j)

theorem clp : t.clp = s.clp := (congrArg State.clp h.outside : t.outside.clp = s.outside.clp)

theorem pwr : t.pwr = s.pwr := (congrArg State.pwr h.outside : t.outside.pwr = s.outside.pwr)

theorem txf : t.txf = s.txf := (congrArg State.txf h.outside : t.outside.txf = s.outside.txf)

theorem plm : t.plm = s.plm := (congrArg State.plm h.outside : t.outside.plm = s.outside.plm)

theorem cht : t.cht = s.cht := (congrArg State.cht h.outside : t.outside.cht = s.outside.cht)

theorem mac : t.mac = s.mac := (congrArg State.mac h.outside : t.outside.mac = s.outside.mac)

theorem eth : t.eth = s.eth := (congrArg State.eth h.outside : t.outside.eth = s.outside.eth)

theorem fls : t.fls = s.fls := (congrArg State.fls h.outside : t.outside.fls = s.outside.fls)

theorem twn : t.twn = s.twn := (congrArg State.twn h.outside : t.outside.twn = s.outside.twn)

theorem grt : t.grt = s.grt := (congrArg State.grt h.outside : t.outside.grt = s.outside.grt)

theorem bot : t.bot = s.bot := (congrArg State.bot h.outside : t.outside.bot = s.outside.bot)

theorem slc : t.slc = s.slc := (congrArg State.slc h.outside : t.outside.slc = s.outside.slc)

end State.Near

/-! ## Memory words -/

/-- The registers of the error injector. -/
def flipIds : List RegId := [.MEM_FLIP_CTL, .MEM_EVT, .MEM_CNT_FLIP]

theorem setMemByte_near (ids : List RegId) (s : State) (m o : Nat) (b : Byte) : s.Near ids (s.setMemByte m o b) :=
  .rest (.refl ids s) rfl rfl

theorem setMemBytes_near (ids : List RegId) (m : Nat) (bs : List Byte) (s : State) (o : Nat) : s.Near ids (s.setMemBytes m o bs) := by
  induction bs generalizing s o with
  | nil => exact .refl ids s
  | cons b bs ih => exact (setMemByte_near ids s m o b).trans (ih _ _)

theorem eccClear_near (ids : List RegId) (s : State) (m w : Nat) : s.Near ids (s.eccClear m w) := .rest (.refl ids s) rfl rfl

theorem flipApply_near (s : State) (m w : Nat) : s.Near flipIds (s.flipApply m w) := by
  unfold State.flipApply
  split
  · exact .bump (by decide) <| .raise (by decide) <| .setFld (by decide) <| .on (fun t => .rest (.refl _ t) rfl rfl) <| .refl _ s
  · exact .refl _ s

theorem memWrite_near (s : State) (m w v : Nat) : s.Near flipIds (s.memWrite m w v) :=
  ((setMemBytes_near flipIds m _ s _).trans (eccClear_near _ _ m w)).trans (flipApply_near _ m w)

theorem memWrites_near (m : Nat) (vs : List Nat) (s : State) (w : Nat) : s.Near flipIds (s.memWrites m w vs) := by
  induction vs generalizing s w with
  | nil => exact .refl _ s
  | cons v vs ih => exact (memWrite_near s m w v).trans (ih _ _)

/-! ## The Silt recorder -/

/-- The registers that a post may change: the recorder's own, and those of the error injector, which sees the buffer's words. -/
def siltIds : List RegId :=
  [.OBS_SILT_SEQ, .OBS_SILT_STAT, .OBS_STAT, .OBS_EVT, .OBS_CNT_SILT_KEPT, .OBS_CNT_SILT_LOST, .OBS_CNT_SILT_SUPP] ++ flipIds

theorem withObs_near (ids : List RegId) (s : State) (o : ObsState) : s.Near ids { s with obs := o } := .rest (.refl ids s) rfl rfl

theorem siltWrite_near (s : State) (base seq : Nat) (rs : List (Nat × Nat × Nat)) : s.Near siltIds (s.siltWrite base seq rs) :=
  .foldl (fun t _ => (memWrites_near 7 _ t _).mono (by decide)) (.refl _ s)

theorem flushAsk_near (s : State) : s.Near siltIds s.flushAsk := by
  unfold State.flushAsk
  split
  · exact withObs_near _ s _
  · exact .setFld (by decide) (withObs_near _ s _)

/-- A post touches the recorder and its registers. -/
theorem siltPost_near (s : State) (code value rank : Nat) : s.Near siltIds (s.siltPost code value rank) := by
  have kept (n seq k : Nat) (t : State) : t.Near siltIds (((t.siltCount n).setFld F.OBS_SILT_SEQ_SEQ seq).bump F.OBS_CNT_SILT_KEPT_COUNT k) :=
    .bump (by decide) <| .setFld (by decide) <| .setFld (by decide) <| withObs_near _ t _
  have lost (t : State) : t.Near siltIds
      (({ t with obs := { t.obs with lost := t.obs.lost + 1 } }.bump F.OBS_CNT_SILT_LOST_COUNT).raise F.OBS_EVT_SILT_OVERFLOW) :=
    .raise (by decide) <| .bump (by decide) <| withObs_near _ t _
  have supp (t : State) : t.Near siltIds (t.bump F.OBS_CNT_SILT_SUPP_COUNT) := .bump (by decide) (.refl _ t)
  have posted (obs : ObsState) (base seq : Nat) (rs : List (Nat × Nat × Nat)) : s.Near siltIds ({ s with obs := obs }.siltWrite base seq rs) :=
    (withObs_near _ s obs).trans (siltWrite_near _ base seq rs)
  simp only [State.siltPost]
  split
  · exact .on flushAsk_near <| .on supp <| .on lost <| .on (kept _ _ _) <| posted _ _ _ _
  · exact .on supp <| .on lost <| .on (kept _ _ _) <| posted _ _ _ _

end Sys2Proof.Machine
end

section
/-! PROOFS. `Obligations.FlipMaskArming`: the write of MEM_FLIP_CTL by its cases (R12, R449). -/

namespace Sys2Proof.Machine

variable {s : State} {d : Word}

/-- The fields of MEM_FLIP_CTL that a write of ARM without LOCK takes before it is judged. -/
def State.flipCtlTaken (s : State) (d : Word) : State := s.setReg .MEM_FLIP_CTL 0 0 ((d ||| 0x100) &&& 0x3FEFF)

theorem flipCtlWrite_locked (h : s.flag F.MEM_FLIP_CTL_LOCK = true) (d : Word) : s.flipCtlWrite d = s := if_pos h

theorem flipCtlWrite_lock (h : s.flag F.MEM_FLIP_CTL_LOCK = false) (hd : d.getLsbD 31 = true) :
    s.flipCtlWrite d = (s.setFld F.MEM_FLIP_CTL_LOCK 1).setFld F.MEM_FLIP_CTL_ARM 0 := by
  simp [State.flipCtlWrite, h, hd]

theorem flipCtlWrite_arm (h : s.flag F.MEM_FLIP_CTL_LOCK = false) (hd : d.getLsbD 31 = false) :
    s.flipCtlWrite (d ||| 0x100) = if (s.flipCtlTaken d).flipRefused = true then (s.flipCtlTaken d).raise F.MEM_EVT_FLIP_REFUSED
      else (s.flipCtlTaken d).setFld F.MEM_FLIP_CTL_ARM 1 := by
  have hlock : (d ||| 0x100).getLsbD 31 = false := by rw [BitVec.getLsbD_or, hd]; rfl
  have harm : (d ||| 0x100).getLsbD 8 = true := by rw [BitVec.getLsbD_or]; simp
  simp only [State.flipCtlWrite, h, hlock, harm, Bool.false_eq_true, if_false, on_true]
  rfl

theorem flipCtlTaken_mem (s : State) (d : Word) : (s.flipCtlTaken d).fld F.MEM_FLIP_CTL_MEM = d.toNat % 2 ^ 8 := by
  have hmask : ∀ k < 8, (0x3FEFF : Word).getLsbD k = true := by decide
  have hbits : (d ||| 0x100).toNat % 2 ^ 8 = d.toNat % 2 ^ 8 := by
    rw [BitVec.toNat_or, Nat.or_mod_two_pow, show (0x100 : Word).toNat % 2 ^ 8 = 0 from rfl, Nat.or_zero]
  exact (fld_setReg_masked s F.MEM_FLIP_CTL_MEM 0 0 _ _ rfl hmask).trans hbits

theorem flipCtlTaken_arm (s : State) (d : Word) : (s.flipCtlTaken d).flag F.MEM_FLIP_CTL_ARM = false := by
  rw [show F.MEM_FLIP_CTL_ARM = ⟨.MEM_FLIP_CTL, 8, 1⟩ from rfl, flag_bit, State.flipCtlTaken, reg_setReg_self, BitVec.getLsbD_and,
    show (0x3FEFF : Word).getLsbD 8 = false from rfl, Bool.and_false]

theorem flipCtlTaken_jtagOpen (s : State) (d : Word) : (s.flipCtlTaken d).jtagOpen = s.jtagOpen := by
  rw [State.jtagOpen, State.flipCtlTaken, flag_setReg_id _ _ _ _ _ _ (by decide), State.jtagOpen, setReg_grt]

theorem flipRefused_iff (s : State) : s.flipRefused = true ↔ memWords (s.fld F.MEM_FLIP_CTL_MEM) = none ∨
    ((s.fld F.MEM_FLIP_CTL_MEM = 2 ∨ s.fld F.MEM_FLIP_CTL_MEM = 3 ∨ s.fld F.MEM_FLIP_CTL_MEM = 4) ∧ s.jtagOpen = false) := by
  generalize hm : s.fld F.MEM_FLIP_CTL_MEM = m
  simp only [State.flipRefused, hm, Bool.or_eq_true, Bool.and_eq_true, Option.isNone_iff_eq_none, decide_eq_true_iff, Bool.not_eq_true']
  refine or_congr_right (and_congr_left' ?_)
  omega

/-- A write of ARM is refused by the memory that it names (R449). -/
theorem flipCtlTaken_refused_iff (s : State) (d : Word) : (s.flipCtlTaken d).flipRefused = true ↔ memWords (d.toNat % 2 ^ 8) = none ∨
    ((d.toNat % 2 ^ 8 = 2 ∨ d.toNat % 2 ^ 8 = 3 ∨ d.toNat % 2 ^ 8 = 4) ∧ s.jtagOpen = false) := by
  rw [flipRefused_iff, flipCtlTaken_mem, flipCtlTaken_jtagOpen]

theorem flipArm_refused (hlock : s.flag F.MEM_FLIP_CTL_LOCK = false) (hd : d.getLsbD 31 = false)
    (href : (s.flipCtlTaken d).flipRefused = true) (hr : s.released = true) : Completes (.flipArm d) s fun t =>
      t.flag F.MEM_FLIP_CTL_ARM = false ∧ t.flag F.MEM_EVT_FLIP_REFUSED = true := by
  refine completes_of_powered (f := fun s => s.flipCtlWrite (d ||| 0x100)) hr rfl ?_
  rw [flipCtlWrite_arm hlock hd, if_pos href]
  exact ⟨(flag_raise_id _ _ _ _ (by decide)).trans (flipCtlTaken_arm s d), flag_raise_self _ _ _ (by decide) rfl⟩

theorem flipArm_armed (hlock : s.flag F.MEM_FLIP_CTL_LOCK = false) (hd : d.getLsbD 31 = false)
    (href : ¬(s.flipCtlTaken d).flipRefused = true) (hr : s.released = true) : Completes (.flipArm d) s fun t =>
      t.flag F.MEM_FLIP_CTL_ARM = true ∧ t.fld F.MEM_FLIP_CTL_MEM = d.toNat % 2 ^ 8 := by
  refine completes_of_powered (f := fun s => s.flipCtlWrite (d ||| 0x100)) hr rfl ?_
  rw [flipCtlWrite_arm hlock hd, if_neg href]
  exact ⟨flag_setFld_one _ _ _ _ (by decide) rfl, (fld_setFld_disjoint _ _ _ _ _ _ (by decide) (by decide)).trans (flipCtlTaken_mem s d)⟩

theorem flipLock_completes (hlock : s.flag F.MEM_FLIP_CTL_LOCK = false) (hr : s.released = true) : Completes .flipLock s fun t =>
    t.flag F.MEM_FLIP_CTL_LOCK = true ∧ t.flag F.MEM_FLIP_CTL_ARM = false ∧
      ∀ f ∈ [F.MEM_FLIP_CTL_MEM, F.MEM_FLIP_CTL_ANY, F.MEM_FLIP_CTL_CHECK], t.fld f = s.fld f := by
  have hbit : (s.reg .MEM_FLIP_CTL 0 0 ||| 0x80000000).getLsbD 31 = true := by rw [BitVec.getLsbD_or]; simp
  refine completes_of_powered (f := fun s => s.flipCtlWrite (s.reg .MEM_FLIP_CTL 0 0 ||| 0x80000000)) hr rfl ?_
  rw [flipCtlWrite_lock hlock hbit]
  refine ⟨?_, flag_setFld_zero _ _ _ _ (by decide) rfl, fun f hf => ?_⟩
  · rw [flag_setFld_disjoint _ _ _ _ _ _ (by decide) (by decide), flag_setFld_one _ _ _ _ (by decide) rfl]
  · have hpast : ∀ f ∈ [F.MEM_FLIP_CTL_MEM, F.MEM_FLIP_CTL_ANY, F.MEM_FLIP_CTL_CHECK], ∀ g ∈ [F.MEM_FLIP_CTL_LOCK, F.MEM_FLIP_CTL_ARM],
        f.lo + f.w ≤ g.lo ∨ g.lo + g.w ≤ f.lo := by decide
    rw [fld_setFld_disjoint _ _ _ _ _ _ (by decide) (hpast f hf _ (by simp)),
      fld_setFld_disjoint _ _ _ _ _ _ (by decide) (hpast f hf _ (by simp))]

theorem flip_locked_completes (hlock : s.flag F.MEM_FLIP_CTL_LOCK = true) (hr : s.released = true) :
    ∀ c ∈ [Instr.flipArm d, .flipLock], Completes c s fun t => t = s := by
  simp only [List.forall_mem_cons, List.not_mem_nil, false_imp_iff, implies_true, and_true]
  exact ⟨completes_of_powered (f := fun s => s.flipCtlWrite (d ||| 0x100)) hr rfl (flipCtlWrite_locked hlock _),
    completes_of_powered (f := fun s => s.flipCtlWrite (s.reg .MEM_FLIP_CTL 0 0 ||| 0x80000000)) hr rfl (flipCtlWrite_locked hlock _)⟩

/-- Settles O59: by the four cases of a write of MEM_FLIP_CTL: LOCK set before, set by the write, an ARM refused, an ARM taken. -/
theorem flipMaskArming : Obligations.FlipMaskArming :=
  ⟨fun s d hlock hd href hr => flipArm_refused hlock hd ((flipCtlTaken_refused_iff s d).mpr href) hr,
    fun s d hlock hd hmem hopen hr => flipArm_armed hlock hd (fun h => by
      obtain h | ⟨h, hj⟩ := (flipCtlTaken_refused_iff s d).mp h
      · exact hmem h
      · obtain hne | hj' := hopen
        · exact h.elim hne.1 fun h => h.elim hne.2.1 hne.2.2
        · exact absurd (hj.symm.trans hj') Bool.false_ne_true) hr,
    fun _ hlock hr => flipLock_completes hlock hr,
    fun _ _ hlock hd => flipCtlWrite_lock hlock hd,
    fun _ d _ hlock => ⟨flip_locked_completes hlock, flipCtlWrite_locked hlock d, fun _ => if_pos hlock⟩⟩

end Sys2Proof.Machine
end

section
/-! PROOFS. `Obligations.WordWrite`: a functional write of a word (R442, R448). -/

namespace Sys2Proof.Machine

/-- A stored word reads as written. -/
theorem memWord_setMemWord {v : Nat} (s : State) (m w : Nat) (hv : v < 2 ^ 64) : (s.setMemWord m w v).memWord m w = v := by
  have h := memWord_memWrite s m w (BitVec.ofNat 64 v)
  rwa [BitVec.toNat_ofNat, Nat.mod_eq_of_lt hv, memWord_of_mem (memWrite_mem ..)] at h

theorem setMemWord_regs (s : State) (m w v : Nat) : (s.setMemWord m w v).regs = s.regs := setMemBytes_regs s m _ _

/-- A write of a word stays within its 8 bytes. -/
theorem memByte_memWrite_out (s : State) {m w v m' a : Nat} (hw : w < 2 ^ 21) (ha : a < 2 ^ 24) (h : m' ≠ m ∨ a / 8 ≠ w) :
    (s.memWrite m w v).memByte m' a = s.memByte m' a := by
  rw [memByte_of_mem (memWrite_mem ..)]
  refine memByte_setMemBytes_out _ _ _ _ _ _ fun k hk heq => ?_
  rw [length_leBytes] at hk
  obtain ⟨hm, hak⟩ := memAddr_inj ha (by omega) heq
  omega

section
variable {s : State} {m w v : Nat}

/-- A word whose bytes are stored and whose check bits are good. -/
def State.wordStored (s : State) (m w v : Nat) : State := (s.setMemWord m w v).eccClear m w

theorem wordStored_regs (s : State) (m w v : Nat) : (s.wordStored m w v).regs = s.regs := setMemWord_regs s m w v

theorem wordStored_mem (s : State) (m w v : Nat) : (s.wordStored m w v).mem = (s.setMemWord m w v).mem := rfl

theorem memWrite_of_misses (h : s.flipHits m w = false) : s.memWrite m w v = s.wordStored m w v :=
  flipApply_of_misses (s := s.wordStored m w v) ((flipHits_congr (wordStored_regs s m w v) m w).trans h)

theorem memWrite_good (hv : v < 2 ^ 64) (h : s.flipHits m w = false) :
    (s.memWrite m w v).eccOf m w = none ∧ (s.memWrite m w v).regs = s.regs ∧
      (s.memWrite m w v).memRead m w = (.good v, s.memWrite m w v) := by
  rw [memWrite_of_misses h]
  have hgood : (s.wordStored m w v).eccOf m w = none := eccOf_eccClear _ m w
  refine ⟨hgood, wordStored_regs s m w v, (memRead_of_good hgood).trans ?_⟩
  rw [(memWord_of_mem (wordStored_mem s m w v) m w).trans (memWord_setMemWord s m w hv)]

/-- The mask of the flip (R448). -/
def State.flipMask (s : State) : Nat := s.fld F.MEM_FLIP_DATA_DATA + 2 ^ 64 * s.fld F.MEM_FLIP_CTL_CHECK

/-- A word that the flip-mask has hit: its error mark, and the record of the flip. -/
theorem memWrite_of_hits (h : s.flipHits m w = true) : s.memWrite m w v =
    ((((s.wordStored m w v).on (s.flipMask != 0) fun u => u.eccSet m w ⟨s.flipMask, false⟩).setFld F.MEM_FLIP_CTL_ARM 0).raise
      F.MEM_EVT_FLIP_DONE).bump F.MEM_CNT_FLIP_COUNT := by
  have hregs := wordStored_regs s m w v
  have hmask : (s.wordStored m w v).flipMask = s.flipMask := by simp only [State.flipMask, fld_congr hregs]
  rw [← hmask]
  exact if_pos ((flipHits_congr hregs m w).trans h)

/-- The error mark that a mask leaves: none where it flips nothing. -/
theorem eccOf_flipped (u : State) (m w k : Nat) (h : u.eccOf m w = none) :
    (u.on (k != 0) fun u => u.eccSet m w ⟨k, false⟩).eccOf m w = if k = 0 then none else some ⟨k, false⟩ := by
  by_cases hk : k = 0
  · simpa [hk] using h
  · rw [bne_iff_ne.mpr hk, on_true, if_neg hk]
    exact SMap.find?_put_self ..

theorem memWrite_flipped (h : s.flipHits m w = true) :
    (s.memWrite m w v).eccOf m w = (if s.flipMask = 0 then none else some ⟨s.flipMask, false⟩) ∧
      (s.memWrite m w v).flag F.MEM_FLIP_CTL_ARM = false ∧ (s.memWrite m w v).flag F.MEM_EVT_FLIP_DONE = true ∧
        (s.memWrite m w v).fld F.MEM_CNT_FLIP_COUNT = min 0xFFFFFFFF (s.fld F.MEM_CNT_FLIP_COUNT + 1) := by
  rw [memWrite_of_hits h]
  have hregs : ((s.wordStored m w v).on (s.flipMask != 0) fun u => u.eccSet m w ⟨s.flipMask, false⟩).regs = s.regs :=
    (on_component (c := State.regs) _ _ rfl).trans (wordStored_regs s m w v)
  have hecc := eccOf_flipped (s.wordStored m w v) m w s.flipMask (eccOf_eccClear _ m w)
  generalize (s.wordStored m w v).on _ _ = u at hregs hecc ⊢
  refine ⟨?_, ?_, ?_, ?_⟩
  · rw [State.eccOf, bump_ecc, raise_ecc, setFld_ecc]
    exact hecc
  · rw [flag_bump_id _ _ _ _ _ _ (by decide), flag_raise_id _ _ _ _ (by decide), flag_setFld_zero _ _ _ _ (by decide) rfl]
  · rw [flag_bump_id _ _ _ _ _ _ (by decide), flag_raise_self _ _ _ (by decide) rfl]
  · rw [fld_bump_32 _ _ _ _ rfl rfl, fld_raise_id _ _ _ _ (by decide), fld_setFld_id _ _ _ _ _ _ (by decide), fld_congr hregs]

end

/-- Settles O56: the stored bytes, and whether the armed flip-mask hits. -/
theorem wordWrite : Obligations.WordWrite := fun s m w _ hw hv =>
  ⟨fun _ _ ha h => memByte_memWrite_out s hw ha h, (memWord_of_mem (memWrite_mem ..) m w).trans (memWord_setMemWord s m w hv),
    memWrite_good hv, memWrite_flipped⟩

end Sys2Proof.Machine
end

section
/-! PROOFS. `Obligations.InterruptMessages`: what `sendVector`, `unsend` and `raise` do (R526, R527, R529). -/

namespace Sys2Proof.Machine

variable {s : State} {v : Nat}

theorem sendVector_disabled (h : s.flag F.HST_STAT_MSIX_EN = false) : s.sendVector v = s := by
  simp [State.sendVector, h]

theorem sendVector_masked (hen : s.flag F.HST_STAT_MSIX_EN = true) (hmask : s.hst.funcMask = true ∨ (SMap.getD s.hst.msix v {}).mask = true) :
    s.sendVector v = { s with hst := { s.hst with pba := SMap.put s.hst.pba v () } } := by
  have hm : (s.hst.funcMask || (SMap.getD s.hst.msix v {}).mask) = true := by rwa [Bool.or_eq_true]
  simp only [State.sendVector, hen, hm, Bool.not_true, Bool.false_eq_true, if_false, if_true]

theorem sendVector_posted (hen : s.flag F.HST_STAT_MSIX_EN = true) (hfunc : s.hst.funcMask = false)
    (hmask : (SMap.getD s.hst.msix v {}).mask = false) (hbm : s.busMaster = true) :
    s.sendVector v = { s with hst := { (s.unsend v).1 with
      sent := (s.unsend v).1.sent ++ [⟨(SMap.getD s.hst.msix v {}).addr, leBytes 4 (SMap.getD s.hst.msix v {}).data⟩],
      msgs := (s.cycle, (s.unsend v).1.msgs.2 ++
        [(v, ⟨(SMap.getD s.hst.msix v {}).addr, leBytes 4 (SMap.getD s.hst.msix v {}).data⟩, false)]) } } := by
  simp only [State.sendVector, hen, hfunc, hmask, hbm, Bool.not_true, Bool.or_self, Bool.false_eq_true, if_false, if_true]

theorem unsend_none (h : s.msgsNow.find? (fun m => m.1 == v) = none) : (s.unsend v).1.sent = s.hst.sent := by
  rw [State.unsend, h]

theorem unsend_some {m : Nat × HostWrite × Bool} (h : s.msgsNow.find? (fun m => m.1 == v) = some m) :
    (s.unsend v).1.sent = (s.hst.sent.reverse.erase m.2.1).reverse := by
  rw [State.unsend, h]

theorem srcRaised_congr {t u : State} (h : t.regs = u.regs) (id : RegId) (i : Nat) : t.srcRaised id i = u.srcRaised id i := by
  simp only [State.srcRaised, reg_congr h]

/-- The source after an event bit is set, whatever the event leaves in the cycle's log. -/
theorem srcRaised_noteEvent (s : State) (f : Fld) (i : Nat) :
    ((s.noteEvent f i).setFld f 1 i).srcRaised f.reg i = (s.setFld f 1 i).srcRaised f.reg i :=
  srcRaised_congr (setFld_regs_congr (noteEvent_regs s f i) f 1 i 0) f.reg i

theorem raise_of_raised {f : Fld} {i : Nat} (h : s.srcRaised f.reg i = true) : s.raise f i = (s.noteEvent f i).setFld f 1 i := by
  rw [State.raise, h, Bool.not_true, Bool.false_and, on_false]

theorem raise_of_rising {f : Fld} {i : Nat} (h : s.srcRaised f.reg i = false) (h' : (s.setFld f 1 i).srcRaised f.reg i = true) :
    s.raise f i = ((s.noteEvent f i).setFld f 1 i).sendVector (vectorOf f.reg i) := by
  rw [State.raise, h, srcRaised_noteEvent, h', Bool.not_false, Bool.and_self, on_true]

/-- Settles O57: the cases of `sendVector`, of `unsend` and of `raise`. -/
theorem interruptMessages : Obligations.InterruptMessages :=
  ⟨fun _ _ h => sendVector_disabled h, fun _ _ hen hmask => sendVector_masked hen hmask,
    fun _ _ hen hfunc hmask hlink hbm hd3 => sendVector_posted hen hfunc hmask (by simp [State.busMaster, hlink, hbm, hd3]),
    fun _ _ h => unsend_none h, fun _ _ _ h => unsend_some h,
    fun s f i hw hlo => flag_raise_self s f i (by omega) hw, fun _ _ _ h => raise_of_raised h, fun _ _ _ h h' => raise_of_rising h h'⟩

end Sys2Proof.Machine
end

section
/-! PROOFS. `Obligations.SkimmerCommands`: the Skimmer's commands, each by its case (R445, R446). -/

namespace Sys2Proof.Machine

variable {s : State} {k : Skim}

/-! ## Start and abort -/

/-- The word of a START: bit 8 is START, bit 9 is ABORT. -/
theorem skimStart_word (m : Nat) : (BitVec.ofNat 64 (m % 256 + 256)).getLsbD 8 = true ∧ (BitVec.ofNat 64 (m % 256 + 256)).getLsbD 9 = false ∧
    bits (BitVec.ofNat 64 (m % 256 + 256)).toNat 0 8 = m % 256 := by
  have hlt : m % 256 < 256 := Nat.mod_lt _ (by decide)
  generalize m % 256 = x at hlt ⊢
  have hn : (BitVec.ofNat 64 (x + 256)).toNat = x + 256 := by rw [BitVec.toNat_ofNat]; omega
  simp only [BitVec.getLsbD, hn, Nat.testBit_eq_decide_div_mod_eq, bits, decide_eq_true_iff, decide_eq_false_iff_not]
  omega

/-- The registers of a pass that begins. -/
theorem skimBegin_completes (s : State) : s.skimBegin.skim = some ⟨s.fld F.MEM_SKIM_CTL_MEM, s.fld F.MEM_SKIM_FIRST_WORD,
      s.fld F.MEM_SKIM_LAST_WORD, false⟩ ∧ s.skimBegin.flag F.MEM_STAT_SKIM_BUSY = true ∧ s.skimBegin.fld F.MEM_SKIM_UE_COUNT = 0 ∧
        s.skimBegin.fld F.MEM_SKIM_CE_COUNT = 0 := by
  have hfold : ∀ (u : State) (f : Fld), f.reg ≠ .MEM_SKIM_ADDR →
      ((List.range 8).foldl (fun u i => u.setReg .MEM_SKIM_ADDR i 0 0) u).fld f = u.fld f :=
    fun u f hf => foldl_fld (fun _ _ => fld_setReg_id _ _ _ _ _ _ hf) _ u
  unfold State.skimBegin
  dsimp only
  refine ⟨?_, flag_setFld_one _ _ _ _ (by decide) rfl, ?_, ?_⟩
  · exact foldl_keeps (f := fun u i => u.setReg .MEM_SKIM_ADDR i 0 0) (c := State.skim) (fun _ _ => rfl) (List.range 8) _
  · rw [fld_setFld_id _ _ _ _ _ _ (by decide), hfold _ _ (by decide), fld_setFld_id _ _ _ _ _ _ (by decide),
      fld_setFld_self _ _ _ _ _ (by decide), Nat.zero_mod]
  · rw [fld_setFld_id _ _ _ _ _ _ (by decide), hfold _ _ (by decide), fld_setFld_id _ _ _ _ _ _ (by decide),
      fld_setFld_id _ _ _ _ _ _ (by decide), fld_setFld_self _ _ _ _ _ (by decide), Nat.zero_mod]

theorem skimStart_completes {m : Nat} (hm : m < 256) (hskim : s.skim = none) (href : (s.setFld F.MEM_SKIM_CTL_MEM m).skimRefused = false)
    (hr : s.released = true) : Completes (.skimStart m) s fun t =>
      t.skim = some ⟨m, s.fld F.MEM_SKIM_FIRST_WORD, s.fld F.MEM_SKIM_LAST_WORD, false⟩ ∧ t.flag F.MEM_STAT_SKIM_BUSY = true ∧
        t.fld F.MEM_SKIM_UE_COUNT = 0 ∧ t.fld F.MEM_SKIM_CE_COUNT = 0 := by
  obtain ⟨hstart, habort, hmem⟩ := skimStart_word m
  replace hmem := hmem.trans (Nat.mod_eq_of_lt hm)
  refine completes_of_powered (f := fun s => s.skimCtlWrite (BitVec.ofNat 64 (m % 256 + 256))) hr rfl ?_
  have hwrite : s.skimCtlWrite (BitVec.ofNat 64 (m % 256 + 256)) = (s.setFld F.MEM_SKIM_CTL_MEM m).skimBegin := by
    simp only [State.skimCtlWrite, hskim, hstart, habort, hmem, href, Option.isNone_none, on_true, on_false, if_true, Bool.false_eq_true,
      if_false]
  obtain ⟨hpass, hbusy, hue, hce⟩ := skimBegin_completes (s.setFld F.MEM_SKIM_CTL_MEM m)
  rw [fld_setFld_self _ _ _ _ _ (by decide), fld_setFld_id _ _ _ _ _ _ (by decide), fld_setFld_id _ _ _ _ _ _ (by decide),
    show m % 2 ^ F.MEM_SKIM_CTL_MEM.w = m from Nat.mod_eq_of_lt hm] at hpass
  rw [hwrite]
  exact ⟨hpass, hbusy, hue, hce⟩

/-- During a pass a START is refused. -/
theorem skimStart_busy (m : Nat) (hskim : s.skim = some k) (hr : s.released = true) :
    Completes (.skimStart m) s fun t => t = s.raise F.MEM_EVT_SKIM_REFUSED := by
  obtain ⟨hstart, habort, -⟩ := skimStart_word m
  refine completes_of_powered (f := fun s => s.skimCtlWrite (BitVec.ofNat 64 (m % 256 + 256))) hr rfl ?_
  simp only [State.skimCtlWrite, hskim, hstart, habort, Option.isNone_some, on_false, if_true, State.skimRefused, Option.isSome_some,
    Bool.true_or]

theorem skimAbort_completes (hskim : s.skim = some k) (hr : s.released = true) :
    Completes .skimAbort s fun t => t = { s with skim := some { k with abort := true } } := by
  refine completes_of_powered (f := fun s => s.skimCtlWrite 0x200) hr rfl ?_
  have hstart : (0x200 : Word).getLsbD 8 = false := rfl
  have habort : (0x200 : Word).getLsbD 9 = true := rfl
  simp only [State.skimCtlWrite, hskim, hstart, habort, Option.isNone_some, on_false, on_true, Bool.false_eq_true, if_false, Option.map_some]

/-! ## The words of a pass -/

/-- The pass past its next word. -/
def Skim.past (k : Skim) : Skim := { k with next := k.next + 1 }

/-- A pass that goes on reads its next word. -/
theorem exec_skimWord (dt : Nat) (hskim : s.skim = some k) (habort : k.abort = false) (hnext : k.next ≤ k.last) (hready : s.memReady k.mem = true) :
    exec (.skimWord dt) s = .next { (s.after dt).skimRead k.mem k.next with skim := some k.past } := by
  have hgo : ¬(k.abort = true ∨ k.last < k.next ∨ s.memReady k.mem = false) := by simp [habort, hready]; omega
  have hexec : exec (.skimWord dt) s = execSkimWord dt s := rfl
  rw [hexec, execSkimWord, hskim]
  exact if_neg hgo

theorem skimRead_good {m w : Nat} (h : s.eccOf m w = none) : s.skimRead m w = s := by
  simp [State.skimRead, h, memRead_of_good h, WordRead.isBad]

/-- A poisoned word enters the summary and stays as it is. -/
theorem skimRead_poisoned {m w : Nat} {e : EccMark} (h : s.eccOf m w = some e) (hp : e.poisoned = true) :
    s.skimRead m w = s.skimNote w true := by
  simp [State.skimRead, h, memRead_of_poisoned h hp, WordRead.isBad, hp]

theorem skimNote_ecc (w : Nat) (prior : Bool) : (s.skimNote w prior).ecc = s.ecc := by
  unfold State.skimNote
  dsimp only
  split <;> rfl

theorem skimNote_count (w : Nat) (prior : Bool) :
    (s.skimNote w prior).fld F.MEM_SKIM_UE_COUNT = min 0xFFFFFFFF (s.fld F.MEM_SKIM_UE_COUNT + 1) := by
  unfold State.skimNote
  dsimp only
  split
  · rw [fld_setFld_id _ _ _ _ _ _ (by decide), fld_setFld_id _ _ _ _ _ _ (by decide), fld_setFld_id _ _ _ _ _ _ (by decide),
      fld_bump_32 _ _ _ _ rfl rfl]
  · exact fld_bump_32 _ _ _ _ rfl rfl

/-- A word whose flips decode good becomes a good codeword. -/
theorem skimRead_healed {m w : Nat} {e : EccMark} (h : s.eccOf m w = some e) (hp : e.poisoned = false) (hw : s.decodeWeight e = 0) :
    (s.skimRead m w).eccOf m w = none ∧ (s.skimRead m w).regs = s.regs := by
  have hread : ∃ x v, s.memRead m w = (.good x, ({ s with draw := s.draw + 1 }.setMemWord m w v).eccClear m w) := by
    simp only [State.memRead, h, hp, hw, Bool.false_eq_true, if_false]
    exact ⟨_, _, rfl⟩
  obtain ⟨x, v, hread⟩ := hread
  have hskim : s.skimRead m w = ({ s with draw := s.draw + 1 }.setMemWord m w v).eccClear m w := by
    simp [State.skimRead, h, hread, WordRead.isBad, hw]
  rw [hskim]
  exact ⟨eccOf_eccClear _ m w, setMemWord_regs _ m w v⟩

theorem after_eccOf (s : State) (dt m w : Nat) : (s.after dt).eccOf m w = s.eccOf m w := by rw [State.eccOf, after_ecc, State.eccOf]

theorem after_decodeWeight (s : State) (dt : Nat) (e : EccMark) : (s.after dt).decodeWeight e = s.decodeWeight e := by
  simp only [State.decodeWeight, after_draw]

/-! ## The end of a pass -/

theorem skimDone_completes (hskim : s.skim = some k) (hend : k.abort = true ∨ k.last < k.next) : Completes .skimDone s fun t =>
    t.skim = none ∧ t.flag F.MEM_STAT_SKIM_BUSY = false ∧ t.flag F.MEM_STAT_ABORTED = k.abort ∧ t.flag F.MEM_EVT_SKIM_DONE = true := by
  have hexec : exec .skimDone s = .next ((({ s with skim := none }.setFld F.MEM_STAT_SKIM_BUSY 0).setFld F.MEM_STAT_ABORTED
      (cond k.abort 1 0)).raise F.MEM_EVT_SKIM_DONE) := by
    rw [show exec .skimDone s = execSkimDone s from rfl, execSkimDone, hskim]
    exact if_pos hend
  refine completes_of_exec hexec ⟨?_, ?_, ?_, flag_raise_self _ _ _ (by decide) rfl⟩
  · rw [raise_skim]
    rfl
  · rw [flag_raise_id _ _ _ _ (by decide), flag_setFld_disjoint _ _ _ _ _ _ (by decide) (by decide),
      flag_setFld_zero _ _ _ _ (by decide) rfl]
  · rw [flag_raise_id _ _ _ _ (by decide), flag_setFld_cond _ _ _ _ _ (by decide) rfl]

/-- Settles O46: a clause for each case of the Skimmer's commands; what the pass does with a word by the word's error mark. -/
theorem skimmerCommands : Obligations.SkimmerCommands := by
  refine ⟨fun s m hm hskim href hr => skimStart_completes hm hskim href hr, fun s m k hskim hr => skimStart_busy m hskim hr,
    fun s k hskim hr => skimAbort_completes hskim hr, ?good, ?poisoned, ?healed, ?waits, fun s k hskim hend => skimDone_completes hskim hend⟩
  case good =>
    intro s dt k hskim habort hnext hready hecc
    refine completes_of_exec (exec_skimWord dt hskim habort hnext hready) ?_
    rw [skimRead_good ((after_eccOf s dt _ _).trans hecc)]
    rfl
  case poisoned =>
    intro s dt k e hskim habort hnext hready hecc hp
    refine completes_of_exec (exec_skimWord dt hskim habort hnext hready) ?_
    have hmark := (after_eccOf s dt k.mem k.next).trans hecc
    rw [skimRead_poisoned hmark hp]
    refine ⟨rfl, ?_, ?_⟩
    · exact (congrArg (SMap.find? · _) (skimNote_ecc k.next true)).trans hmark
    · exact (skimNote_count k.next true).trans (by rw [after_fld])
  case healed =>
    intro s dt k e hskim habort hnext hready hecc hp hw
    obtain ⟨hgood, hregs⟩ := skimRead_healed ((after_eccOf s dt k.mem k.next).trans hecc) hp ((after_decodeWeight s dt e).trans hw)
    exact completes_of_exec (exec_skimWord dt hskim habort hnext hready) ⟨rfl, hgood, hregs.trans (after_regs s dt)⟩
  case waits =>
    intro s dt k hskim hready
    refine completes_of_exec (t := s) ?_ rfl
    rw [show exec (.skimWord dt) s = execSkimWord dt s from rfl, execSkimWord, hskim]
    exact if_pos (.inr (.inr hready))

end Sys2Proof.Machine
end

section
/-! PROOFS. `Obligations.EddyCommands`: the key sequence, the seeds and the release of what a point holds (R517–R520). -/

namespace Sys2Proof.Machine

variable {s : State} {dt : Nat} {d : Word}

theorem after_point (s : State) (dt k : Nat) : (s.after dt).point k = s.point k := by rw [State.point, after_obs, State.point]

theorem advanceTo_point (s : State) (t k : Nat) : (s.advanceTo t).point k = s.point k := by rw [State.point, advanceTo_obs, State.point]

theorem after_powered (hr : s.released = true) (f : State → State) : (s.after dt).powered f = f (s.after dt) :=
  powered_of_released ((after_released s dt).trans hr) f

theorem exec_eddyKey (hr : s.released = true) : exec (.eddyKey dt d) s = .next ((s.after dt).eddyKeyWrite d) :=
  congrArg Host.Outcome.next (after_powered hr _)

/-! ## The keys -/

/-- The first key begins the sequence. -/
theorem eddyKeyWrite_first (h : d.toNat % 2 ^ 32 = 0x0000EDD1) :
    s.eddyKeyWrite d = { s with obs := { s.obs with eddyKeyAt := some s.clp.now } } := if_pos h

/-- The second key in time opens what is not locked. -/
theorem eddyKeyWrite_second {a : Nat} (h : d.toNat % 2 ^ 32 = 0x1EDD0000) (hat : s.obs.eddyKeyAt = some a) (htime : s.clp.now ≤ a + 1000000)
    (hlocked : s.flag F.OBS_STAT_LOCKED = false) :
    s.eddyKeyWrite d = { s.setFld F.OBS_STAT_OPEN 1 with obs := { s.obs with eddyKeyAt := none } } := by
  simp only [State.eddyKeyWrite, h, hat, hlocked, htime, decide_true, and_self, if_true]
  rfl

/-- The state once the key sequence is given up. -/
def State.eddyKeyLost (s : State) : State := { s with obs := { s.obs with eddyKeyAt := none } }

/-- Any other write closes, and locks where bit 31 is set. -/
theorem eddyKeyWrite_other (h : d.toNat % 2 ^ 32 ≠ 0x0000EDD1)
    (h' : d.toNat % 2 ^ 32 ≠ 0x1EDD0000 ∨ s.flag F.OBS_STAT_LOCKED = true) :
    s.eddyKeyWrite d = s.eddyKeyLost.eddyClose.on (d.getLsbD 31) fun s => (s.setFld F.OBS_STAT_LOCKED 1).setFld F.OBS_EDDY_KEY_LOCK 1 := by
  have hnot : ∀ p : Prop, ¬(d.toNat % 2 ^ 32 = 0x1EDD0000 ∧ p ∧ s.flag F.OBS_STAT_LOCKED = false) := by
    rintro p ⟨hn, -, hl⟩
    exact h'.elim (fun h => h hn) fun h => absurd (hl.symm.trans h) Bool.false_ne_true
  simp only [State.eddyKeyWrite]
  rw [if_neg h, if_neg (hnot _)]
  rfl

/-! ## Closing -/

theorem eddyRelease_of_empty {k : Nat} (h : (s.point k).held = none) : s.eddyRelease k = s := by
  simp [State.eddyRelease, State.unhold, h]

/-- A point is disabled, and releases what it holds. -/
def State.eddyDisable (s : State) (k : Nat) : State := (s.setFld F.OBS_EDDY_CFG_EN 0 k).eddyRelease k

/-- Where no point holds anything, a close clears OPEN and every EN. -/
theorem foldl_eddyDisable (ks : List Nat) (s : State) (h : ∀ k, (s.point k).held = none) :
    (∀ g : Fld, g.reg ≠ .OBS_EDDY_CFG → ∀ i, (ks.foldl State.eddyDisable s).flag g i = s.flag g i) ∧
      ∀ k, k ∈ ks ∨ s.flag F.OBS_EDDY_CFG_EN k = false → (ks.foldl State.eddyDisable s).flag F.OBS_EDDY_CFG_EN k = false := by
  induction ks generalizing s with
  | nil => exact ⟨fun _ _ _ => rfl, fun k hk => hk.resolve_left List.not_mem_nil⟩
  | cons k ks ih =>
    have hstep : s.eddyDisable k = s.setFld F.OBS_EDDY_CFG_EN 0 k := eddyRelease_of_empty (h k)
    rw [List.foldl_cons, hstep]
    obtain ⟨hflags, hen⟩ := ih (s.setFld F.OBS_EDDY_CFG_EN 0 k) h
    refine ⟨fun g hg i => (hflags g hg i).trans (flag_setFld_id _ _ _ _ _ _ hg), fun x hx => hen x ?_⟩
    by_cases hxk : x = k
    · exact .inr (hxk ▸ flag_setFld_zero _ _ _ _ (by decide) rfl)
    · refine hx.imp (fun hx => (List.mem_cons.mp hx).resolve_left hxk) fun hx => ?_
      rw [State.flag, fld_setFld_copy _ _ _ _ _ _ fun e => hxk e.1]
      exact hx

theorem eddyClose_flags (h : ∀ k, (s.point k).held = none) : s.eddyClose.flag F.OBS_STAT_OPEN = false ∧
    s.eddyClose.flag F.OBS_STAT_LOCKED = s.flag F.OBS_STAT_LOCKED ∧ ∀ k, k < 10 → s.eddyClose.flag F.OBS_EDDY_CFG_EN k = false := by
  obtain ⟨hflags, hen⟩ := foldl_eddyDisable (List.range 10) (s.setFld F.OBS_STAT_OPEN 0) h
  refine ⟨(hflags _ (by decide) _).trans (flag_setFld_zero _ _ _ _ (by decide) rfl),
    (hflags _ (by decide) _).trans (flag_setFld_disjoint _ _ _ _ _ _ (by decide) (by decide)),
    fun k hk => hen k (.inl (List.mem_range.mpr hk))⟩

/-- What a write that closes leaves of the flags. -/
theorem eddyKeyWrite_closes (h : d.toNat % 2 ^ 32 ≠ 0x0000EDD1)
    (h' : d.toNat % 2 ^ 32 ≠ 0x1EDD0000 ∨ s.flag F.OBS_STAT_LOCKED = true) (hheld : ∀ k, (s.point k).held = none) :
    (s.eddyKeyWrite d).flag F.OBS_STAT_OPEN = false ∧
      (s.eddyKeyWrite d).flag F.OBS_STAT_LOCKED = (s.flag F.OBS_STAT_LOCKED || d.getLsbD 31) ∧
        (d.getLsbD 31 = true → (s.eddyKeyWrite d).flag F.OBS_EDDY_KEY_LOCK = true) ∧
          ∀ k, k < 10 → (s.eddyKeyWrite d).flag F.OBS_EDDY_CFG_EN k = false := by
  obtain ⟨hopen, hlocked, hen⟩ := eddyClose_flags (s := s.eddyKeyLost) hheld
  rw [eddyKeyWrite_other h h']
  cases d.getLsbD 31 with
  | false => exact ⟨hopen, hlocked.trans (Bool.or_false _).symm, fun e => absurd e Bool.false_ne_true, hen⟩
  | true =>
    rw [on_true, Bool.or_true]
    refine ⟨?_, ?_, fun _ => flag_setFld_one _ _ _ _ (by decide) rfl, fun k hk => ?_⟩
    · rw [flag_setFld_id _ _ _ _ _ _ (by decide), flag_setFld_disjoint _ _ _ _ _ _ (by decide) (by decide), hopen]
    · rw [flag_setFld_id _ _ _ _ _ _ (by decide), flag_setFld_one _ _ _ _ (by decide) rfl]
    · rw [flag_setFld_id _ _ _ _ _ _ (by decide), flag_setFld_id _ _ _ _ _ _ (by decide), hen k hk]

/-! ## Seeds and holds -/

theorem point_setPoint (s : State) (k : Nat) (p : EddyPoint) : (s.setPoint k p).point k = p := SMap.getD_put_self ..

theorem eddySeedWrite_completes {k : Nat} (hk : k < 10) (hr : s.released = true) : Completes (.eddySeedWrite k d) s fun t =>
    t.reg .OBS_EDDY_SEED k 0 = BitVec.ofNat 64 (d.toNat % 2 ^ 32) ∧
      (t.point k).lfsr = BitVec.ofNat 32 (if d.toNat % 2 ^ 32 = 0 then 1 else d.toNat % 2 ^ 32) ∧ (t.point k).held = (s.point k).held := by
  refine completes_of_powered (f := fun s => s.eddySeedWrite (k % 10) d) hr rfl ?_
  rw [Nat.mod_eq_of_lt hk, State.eddySeedWrite]
  dsimp only
  rw [point_setPoint]
  exact ⟨by rw [setPoint_reg, reg_setReg_self], rfl, rfl⟩

/-- What a point that held a frame, and holds it no longer, does with it. -/
theorem eddyRelease_of_held {k : Nat} {h : EddyHeld} (hheld : (s.point k).held = some h) :
    let u := s.setPoint k { s.point k with held := none }
    s.eddyRelease k = if k < 4 then u.ethCheck k (u.fullOfPast h.ts) ⟨h.bytes, h.ts, h.asn⟩
      else if k < 8 then { u with eth := { u.eth with sent := u.eth.sent ++ [(k - 4, h.bytes)] } }
      else if k = 8 then (if u.role = 0 then u else u.twnReceive ⟨h.bytes, h.ts, h.asn⟩)
      else u.twnEmit ⟨h.bytes, h.ts, h.asn⟩ := by
  simp only [State.eddyRelease, State.unhold, hheld]

/-- Settles O53: the key sequence by the value written, the seed, and the release of a held frame. -/
theorem eddyCommands : Obligations.EddyCommands := by
  refine ⟨?first, ?second, ?other, ?lock, ?locked, fun s k d hk hr => eddySeedWrite_completes hk hr, ?release⟩
  case first =>
    intro s dt d h hr
    refine completes_of_exec (exec_eddyKey hr) ?_
    rw [eddyKeyWrite_first h]
    exact ⟨congrArg some (after_now s dt), after_regs s dt⟩
  case second =>
    intro s dt a d h hat htime hlocked hr
    refine completes_of_exec (exec_eddyKey hr) ?_
    rw [eddyKeyWrite_second (a := a) h (by rw [after_obs, hat]) (by rwa [after_now]) (by rw [after_flag, hlocked])]
    exact ⟨flag_setFld_one (s.after dt) _ _ _ (by decide) rfl, rfl⟩
  case other =>
    intro s dt d h h' hheld hr
    obtain ⟨hopen, hlocked, -, hen⟩ := eddyKeyWrite_closes (s := s.after dt) h (.inl h') fun k => by rw [after_point, hheld]
    rw [after_flag] at hlocked
    exact completes_of_exec (exec_eddyKey hr) ⟨hopen, hlocked, hen⟩
  case lock =>
    intro s hheld hr
    obtain ⟨hopen, hlocked, hkey, -⟩ := eddyKeyWrite_closes (s := s) (d := 0x80000000) (by decide) (.inl (by decide)) hheld
    exact completes_of_powered (f := fun s => s.eddyKeyWrite 0x80000000) hr rfl ⟨hopen, hlocked.trans (Bool.or_true _), hkey rfl⟩
  case locked =>
    intro s dt d hlocked _ h hheld hr
    have hclose := eddyKeyWrite_closes (s := s.after dt) (d := d) (by rw [h]; decide) (.inr (by rw [after_flag, hlocked]))
      fun k => by rw [after_point, hheld]
    exact completes_of_exec (exec_eddyKey hr) hclose.1
  case release =>
    intro s k h hk hheld
    have hexec : exec (.eddyHoldRelease k) s = .next ((s.advanceTo (h.since + 1000000)).eddyRelease k) := by
      rw [show exec (.eddyHoldRelease k) s = execEddyHoldRelease k s from rfl, execEddyHoldRelease, Nat.mod_eq_of_lt hk, hheld]
    refine completes_of_exec hexec ?_
    have hrole : ∀ p, ((s.advanceTo (h.since + 1000000)).setPoint k p).role = s.role := fun p => advanceTo_fld ..
    rw [eddyRelease_of_held ((congrArg EddyPoint.held (advanceTo_point ..)).trans hheld), advanceTo_point, hrole]
    simp only [State.setPoint, advanceTo_eth]

end Sys2Proof.Machine
end

section
/-! PROOFS. `Obligations.FullReset`: the registers and the blocks after a full reset (R430, R431). -/

namespace Sys2Proof.Machine

/-! ## What precedes it: the meters are counted and the flash's operations cut -/

/-- The state that a full reset starts from. -/
def State.cut (s : State) : State := s.meterFlush.tearFlash

theorem meterFlush_keeps {β : Type} {c : State → β} (h : ∀ (t : State) x, c { t with cht := x } = c t) (s : State) :
    c s.meterFlush = c s :=
  (foldl_keeps (fun t _ => h t _) s.cht.meters _).trans (h s _)

theorem tear_keeps {β : Type} {c : State → β} (h : ∀ (t : State) d f, c { t with draw := d, fls := f } = c t) (s : State) (w : FlsOp) :
    c (s.tear w) = c s :=
  foldl_keeps (fun t k => h t (t.draw + 1) (t.fresh.2.setFlashByte (w.addr + k) (BitVec.ofNat 8 t.fresh.1)).fls) _ s

theorem tearFlash_keeps {β : Type} {c : State → β} (h : ∀ (t : State) d f, c { t with draw := d, fls := f } = c t) (s : State) :
    c s.tearFlash = c s := by
  unfold State.tearFlash
  dsimp only
  split <;> split <;> simp only [tear_keeps h]

/-- What the meters and the flash have no part in stays. -/
theorem cut_keeps {β : Type} {c : State → β} (hcht : ∀ (t : State) x, c { t with cht := x } = c t)
    (hfls : ∀ (t : State) d f, c { t with draw := d, fls := f } = c t) (s : State) : c s.cut = c s :=
  (tearFlash_keeps hfls _).trans (meterFlush_keeps hcht s)

theorem cut_regs (s : State) : s.cut.regs = s.regs := cut_keeps (c := State.regs) (fun _ _ => rfl) (fun _ _ _ => rfl) s

theorem cut_clp (s : State) : s.cut.clp = s.clp := cut_keeps (c := State.clp) (fun _ _ => rfl) (fun _ _ _ => rfl) s

theorem cut_pwr (s : State) : s.cut.pwr = s.pwr := cut_keeps (c := State.pwr) (fun _ _ => rfl) (fun _ _ _ => rfl) s

theorem cut_grt (s : State) : s.cut.grt = s.grt := cut_keeps (c := State.grt) (fun _ _ => rfl) (fun _ _ _ => rfl) s

theorem cut_bot (s : State) : s.cut.bot = s.bot := cut_keeps (c := State.bot) (fun _ _ => rfl) (fun _ _ _ => rfl) s

theorem cut_eth (s : State) : s.cut.eth = s.eth := cut_keeps (c := State.eth) (fun _ _ => rfl) (fun _ _ _ => rfl) s

theorem cut_fuses (s : State) : s.cut.cht.fuses = s.cht.fuses :=
  (tearFlash_keeps (c := fun t => t.cht.fuses) (fun _ _ _ => rfl) _).trans
    (congrArg Lasting.fuses (meterFlush_lasting (s := s)))

/-! ## The registers -/

/-- The registers of a full reset, from the state as it is cut. -/
theorem fullReset_regs (s : State) (cause : Nat) : (s.fullReset cause).regs = (s.cut.resetRegs cause).regs := rfl

theorem resetRegs_reg (s : State) (cause : Nat) {id : RegId} (i j : Nat)
    (h : id ∉ [RegId.CLP_CIS_CTL, .PWR_ALARM, .PWR_DORMANT, .GLB_RESET_CAUSE, .GLB_RESET_COUNT, .PWR_STAT]) :
    (s.resetRegs cause).reg id i j = resetAt id i j := by
  simp only [List.mem_cons, List.not_mem_nil, or_false, not_or] at h
  obtain ⟨hcis, halarm, hdormant, hcause, hcount, hstat⟩ := h
  simp only [State.resetRegs]
  rw [reg_setFld_id _ _ _ _ _ _ hstat, reg_setFld_id _ _ _ _ _ _ hstat, reg_setFld_id _ _ _ _ _ _ hstat,
    reg_setFld_id _ _ _ _ _ _ hcount, reg_setReg_id _ _ _ _ _ _ hcount, reg_setReg_id _ _ _ _ _ _ hcause,
    reg_setFld_id _ _ _ _ _ _ hdormant, reg_setFld_id _ _ _ _ _ _ hdormant, reg_setReg_id _ _ _ _ _ _ halarm,
    reg_setReg_id _ _ _ _ _ _ hcis]
  rfl

theorem resetRegs_kept (s : State) (cause : Nat) :
    (s.resetRegs cause).reg .GLB_RESET_CAUSE 0 0 = BitVec.ofNat 64 cause ∧
      (s.resetRegs cause).reg .CLP_CIS_CTL 0 0 = s.reg .CLP_CIS_CTL 0 0 ∧
      (s.resetRegs cause).fld F.GLB_RESET_COUNT_RESETS = (s.fld F.GLB_RESET_COUNT_RESETS + 1) % 2 ^ 16 ∧
      (s.resetRegs cause).fld F.GLB_RESET_COUNT_CYCLES = s.fld F.GLB_RESET_COUNT_CYCLES := by
  simp only [State.resetRegs]
  refine ⟨?_, ?_, ?_, ?_⟩
  · rw [reg_setFld_id _ _ _ _ _ _ (by decide), reg_setFld_id _ _ _ _ _ _ (by decide), reg_setFld_id _ _ _ _ _ _ (by decide),
      reg_setFld_id _ _ _ _ _ _ (by decide), reg_setReg_id _ _ _ _ _ _ (by decide), reg_setReg_self]
  · rw [reg_setFld_id _ _ _ _ _ _ (by decide), reg_setFld_id _ _ _ _ _ _ (by decide), reg_setFld_id _ _ _ _ _ _ (by decide),
      reg_setFld_id _ _ _ _ _ _ (by decide), reg_setReg_id _ _ _ _ _ _ (by decide), reg_setReg_id _ _ _ _ _ _ (by decide),
      reg_setFld_id _ _ _ _ _ _ (by decide), reg_setFld_id _ _ _ _ _ _ (by decide), reg_setReg_id _ _ _ _ _ _ (by decide),
      reg_setReg_self]
  · rw [fld_setFld_id _ _ _ _ _ _ (by decide), fld_setFld_id _ _ _ _ _ _ (by decide), fld_setFld_id _ _ _ _ _ _ (by decide),
      fld_setFld_self _ _ _ _ _ (by decide)]
    rfl
  · rw [fld_setFld_id _ _ _ _ _ _ (by decide), fld_setFld_id _ _ _ _ _ _ (by decide), fld_setFld_id _ _ _ _ _ _ (by decide),
      fld_setFld_disjoint _ _ _ _ _ _ (by decide) (by decide)]
    exact fld_of_reg (f := F.GLB_RESET_COUNT_CYCLES) (reg_setReg_self ..)

/-! ## The blocks -/

theorem fullReset_clp (s : State) (cause : Nat) : (s.fullReset cause).clp =
    { now := s.clp.now, cisTicks := s.clp.cisTicks, cisAcc := s.clp.cisAcc, cisLost := s.clp.cisLost } := by
  rw [← cut_clp s]
  rfl

theorem fullReset_pwr (s : State) (cause : Nat) : (s.fullReset cause).pwr =
    { phase := .reset, vbatLost := s.pwr.vbatLost, pwrReq := s.pwr.pwrReq, onVbat := s.pwr.onVbat, mains := s.pwr.mains, rose := s.pwr.rose,
      slew := s.pwr.slew } := by
  rw [← cut_pwr s]
  rfl

theorem fullReset_eth (s : State) (cause : Nat) : (s.fullReset cause).eth = { sent := s.eth.sent } := by
  rw [← cut_eth s]
  rfl

theorem fullReset_grt (s : State) (cause : Nat) : (s.fullReset cause).grt =
    { provLock := s.grt.provLock, dbgLock := s.grt.dbgLock, jtagLock := s.grt.jtagLock, pufReads := s.grt.pufReads,
      seeds := s.grt.seeds } := by
  rw [← cut_grt s]
  rfl

theorem fullReset_bot (s : State) (cause : Nat) : (s.fullReset cause).bot = { owners := s.bot.owners, revoked := s.bot.revoked } := by
  rw [← cut_bot s]
  rfl

theorem fullReset_fuses (s : State) (cause : Nat) : (s.fullReset cause).cht.fuses = s.cht.fuses :=
  (rfl : (s.fullReset cause).cht.fuses = s.cut.cht.fuses).trans (cut_fuses s)

/-- Settles O43: the registers by `resetRegs`; what stays stays through the cut of what runs. -/
theorem fullReset : Obligations.FullReset := by
  refine ⟨fun s cause id i j h => (reg_congr (fullReset_regs s cause) id i j).trans (resetRegs_reg _ cause i j h), fun s cause => ?_⟩
  obtain ⟨hcause, hcis, hresets, hcycles⟩ := resetRegs_kept s.cut cause
  rw [reg_congr (cut_regs s)] at hcis
  rw [fld_congr (cut_regs s)] at hresets hcycles
  have hregs := fullReset_regs s cause
  dsimp only
  rw [fullReset_pwr, fullReset_clp, fullReset_fuses, fullReset_grt, fullReset_bot, fullReset_eth, reg_congr hregs, reg_congr hregs,
    fld_congr hregs, fld_congr hregs]
  exact ⟨rfl, rfl, rfl, rfl, rfl, rfl, rfl, rfl, rfl, rfl, rfl, rfl, rfl, rfl, rfl, hcause, hcis, hresets, hcycles⟩

end Sys2Proof.Machine
end

section
/-! PROOFS. `Obligations.ClockCommands`: the jet PLLs, the wake fabric, the gating of clusters and the spread spectrum (R358, R418–R421, R426). -/

namespace Sys2Proof.Machine

variable {s : State} {k : Nat} {j : Jet}

/-! ## The jet PLLs (R358, R418) -/

/-- A jet PLL is no longer locking. -/
def State.jetGone (s : State) (k : Nat) : State := { s with pwr := { s.pwr with jets := SMap.del s.pwr.jets k } }

theorem jetGone_jets (s : State) (k : Nat) : SMap.find? (s.jetGone k).pwr.jets k = none := SMap.find?_del_self ..

/-- The lock bit of a jet PLL reads as it was set. -/
theorem jetLocked_setJetLock (s : State) {k : Nat} (v : Nat) (hk : k < 7) : (s.setJetLock k v).jetLocked k = v.testBit 0 := by
  have hlt : (setBits (s.fld F.PWR_STAT_JET_LOCK) k 1 v) < 2 ^ 7 := setBits_lt (fld_lt s F.PWR_STAT_JET_LOCK 0 0) (by omega)
  rw [State.jetLocked, State.setJetLock, fld_setFld_self _ _ _ _ _ (by decide), show F.PWR_STAT_JET_LOCK.w = 7 from rfl,
    Nat.mod_eq_of_lt hlt, testBit_setBits_self]

/-- A PLL that locks at `t`. -/
def State.jetLockAt (s : State) (k t : Nat) : State := ((s.advanceTo t).jetGone k).setJetLock k 1

theorem exec_jetLock (dt : Nat) (hj : SMap.find? s.pwr.jets k = some j) : exec (.jetLock dt k) s =
    let v := s.jetLockAt k (min (s.clp.now + dt) (j.startAt + 12000))
    if k = 1 then .next (v.advanceTo (tickTime (ticksAt v.clp.now + 1))).clpStart else .next v := by
  rw [show exec (.jetLock dt k) s = execJetLock dt k s from rfl, execJetLock, hj]
  rfl

theorem jetLockAt_locked (s : State) (t : Nat) (hk : k < 7) : (s.jetLockAt k t).jetLocked k = true ∧
    SMap.find? (s.jetLockAt k t).pwr.jets k = none ∧ (s.jetLockAt k t).clp.now = max s.clp.now t :=
  ⟨jetLocked_setJetLock _ 1 hk, jetGone_jets _ k, advanceTo_now s t⟩

/-- Clepsydra runs once it has started (R358). -/
theorem clpStart_on (s : State) : s.clpStart.clp.on = true := by
  simp only [State.clpStart]
  split
  · rfl
  · rw [(siltPost_near _ _ _ _).clp, raise_clp]

theorem jetLock_completes (dt : Nat) (hk : k < 7) (hk1 : k ≠ 1) (hj : SMap.find? s.pwr.jets k = some j) : Completes (.jetLock dt k) s fun t =>
    t.jetLocked k = true ∧ SMap.find? t.pwr.jets k = none ∧ t.clp.now = max s.clp.now (min (s.clp.now + dt) (j.startAt + 12000)) :=
  completes_of_exec ((exec_jetLock dt hj).trans (if_neg hk1)) (jetLockAt_locked s _ hk)

theorem jetLock_starts (dt : Nat) (hj : SMap.find? s.pwr.jets 1 = some j) : Completes (.jetLock dt 1) s fun t => ∃ v : State,
    v.jetLocked 1 = true ∧ SMap.find? v.pwr.jets 1 = none ∧ t = v.clpStart ∧ t.clp.on = true := by
  refine completes_of_exec ((exec_jetLock dt hj).trans (if_pos rfl)) ⟨_, ?_, ?_, rfl, clpStart_on _⟩
  · rw [State.jetLocked, advanceTo_fld]
    exact (jetLockAt_locked s _ (by decide)).1
  · rw [advanceTo_pwr]
    exact jetGone_jets _ 1

theorem exec_jetLockTimeout (hj : SMap.find? s.pwr.jets k = some j) : exec (.jetLockTimeout k) s =
    let u := s.advanceTo (j.startAt + 50000)
    if (!j.again) = true then .next (u.jetStart k true)
    else if k ≤ 2 then .next ((u.jetGone k).requestReset 7)
    else .next (((List.range 8).foldl (fun s i => s.wedgeMark (8 * (k - 3) + i)) (((u.jetGone k).raise F.PWR_EVT_JET_FAULT).siltPost 17 k)).wedgeReset
      (8 * (k - 3))) := by
  rw [show exec (.jetLockTimeout k) s = execJetLockTimeout k s from rfl, execJetLockTimeout, hj]
  rfl

theorem jetLockTimeout_restarts (hj : SMap.find? s.pwr.jets k = some j) (ha : j.again = false) : Completes (.jetLockTimeout k) s fun t =>
    SMap.find? t.pwr.jets k = some ⟨t.clp.now, true⟩ ∧ t.clp.now = max s.clp.now (j.startAt + 50000) := by
  refine completes_of_exec ((exec_jetLockTimeout hj).trans (if_pos (by rw [ha]; rfl))) ⟨SMap.find?_put_self .., advanceTo_now s _⟩

theorem jetLockTimeout_resets (hj : SMap.find? s.pwr.jets k = some j) (ha : j.again = true) (hk : k ≤ 2) :
    Completes (.jetLockTimeout k) s fun t => ∃ v : State, SMap.find? v.pwr.jets k = none ∧ v.pwr.phase = s.pwr.phase ∧ t = v.requestReset 7 := by
  have hagain : ¬(!j.again) = true := by rw [ha]; exact Bool.false_ne_true
  refine completes_of_exec ((exec_jetLockTimeout hj).trans ((if_neg hagain).trans (if_pos hk))) ⟨_, jetGone_jets _ k, ?_, rfl⟩
  rw [State.jetGone, advanceTo_pwr]

theorem jetLockTimeout_wedges (hj : SMap.find? s.pwr.jets k = some j) (ha : j.again = true) (hk : 3 ≤ k) :
    Completes (.jetLockTimeout k) s fun t => ∃ v : State, SMap.find? v.pwr.jets k = none ∧ v.flag F.PWR_EVT_JET_FAULT = true ∧
      t = ((List.range 8).foldl (fun u i => u.wedgeMark (8 * (k - 3) + i)) (v.siltPost 17 k)).wedgeReset (8 * (k - 3)) := by
  have hagain : ¬(!j.again) = true := by rw [ha]; exact Bool.false_ne_true
  refine completes_of_exec ((exec_jetLockTimeout hj).trans ((if_neg hagain).trans (if_neg (by omega)))) ⟨_, ?_, flag_raise_self _ _ _ (by decide) rfl, rfl⟩
  rw [raise_pwr]
  exact jetGone_jets _ k

/-! ## The wake fabric (R419) -/

/-- CHAIN_LEAD before slot `a`, a chain is asked for. -/
def State.wakeAsked (s : State) (n a : Nat) : State :=
  let u := s.advanceToFull (s.slotStart a - s.chainLead)
  { u with mac := { u.mac with wake := setBits u.mac.wake n 1 1 } }

theorem wakeAsked_now (s : State) (n a : Nat) :
    (s.wakeAsked n a).clp.now = s.clp.now + s.nsUntilFull (s.slotStart a - s.chainLead) := advance_now s _

theorem chainWakeRequest_completes {n a listen : Nat} (hn : n < 16) (hwork : s.mac.work = some (a, listen)) (hl : listen.testBit n = true)
    (hw : s.mac.wake.testBit n = false) : Completes (.chainWakeRequest n) s fun t => ∃ v : State, v.mac.wake.testBit n = true ∧
      v.clp.now = s.clp.now + s.nsUntilFull (s.slotStart a - s.chainLead) ∧ t = v.wakeUpdate n := by
  have hexec : exec (.chainWakeRequest n) s = .next ((s.wakeAsked n a).wakeUpdate n) := by
    rw [show exec (.chainWakeRequest n) s = execChainWakeRequest n s from rfl, execChainWakeRequest, Nat.mod_eq_of_lt hn]
    simp only [hwork, Option.bind_some, hl, hw, Bool.not_false, Bool.and_self, if_true]
    rfl
  exact completes_of_exec hexec ⟨_, testBit_setBits_self .., wakeAsked_now s n a, rfl⟩

theorem chainWakeRequest_idle {n : Nat} (hwork : s.mac.work = none) (hres : s.mac.resolved = none) :
    Completes (.chainWakeRequest n) s fun t => t = s := by
  refine completes_of_exec (t := s) ?_ rfl
  rw [show exec (.chainWakeRequest n) s = execChainWakeRequest n s from rfl, execChainWakeRequest]
  simp only [hwork, hres, Option.bind_none]
  rfl

/-! ## Gating clusters (R420, R421) -/

variable {c : Nat}

theorem clusterStop_completes (hc : c < 4) (hruns : s.clusterRuns c = true) (hauto : s.flag F.PWR_CL_CTL_AUTO c = true)
    (hdue : s.clusterDeadline c = none) (hidle : ∀ t, t < 32 → s.thrIdle (32 * c + t) = true) : Completes (.clusterStop c) s fun t =>
      SMap.find? t.ocl.stopped c = some s.clp.now ∧ t.jetLocked (3 + c) = false ∧ t.clusterRuns c = false := by
  have hall : (clusterThreads c).all s.thrIdle = true := by
    simp only [clusterThreads, List.all_map, List.all_eq_true, List.mem_range]
    exact fun t ht => hidle t ht
  have hexec : exec (.clusterStop c) s =
      .next ({ s with ocl := { s.ocl with stopped := SMap.put s.ocl.stopped c s.clp.now } }.setJetLock (3 + c) 0) := by
    rw [show exec (.clusterStop c) s = execClusterStop c s from rfl, execClusterStop, Nat.mod_eq_of_lt hc]
    simp only [hdue, hruns, hauto, hall, Bool.and_self, if_true]
  have hlock := jetLocked_setJetLock { s with ocl := { s.ocl with stopped := SMap.put s.ocl.stopped c s.clp.now } } (k := 3 + c) 0 (by omega)
  refine completes_of_exec hexec ⟨SMap.find?_put_self .., hlock, ?_⟩
  rw [State.clusterRuns, hlock]
  rfl

/-- A stopped cluster has its clock again, and its PLL starts. -/
theorem clusterStart_completes {a : Nat} (ha : SMap.find? s.ocl.stopped c = some a) :
    SMap.find? (s.clusterStart c).ocl.stopped c = none ∧ SMap.find? (s.clusterStart c).pwr.jets (3 + c) = some ⟨s.clp.now, false⟩ ∧
      (s.clusterStart c).clp = s.clp := by
  simp only [State.clusterStart, ha]
  exact ⟨SMap.find?_del_self .., SMap.find?_put_self .., rfl⟩

theorem clusterWake_landed {a : Nat} (hc : c < 4) (ha : SMap.find? s.ocl.stopped c = some a) (hland : s.wordLanded c a = true) :
    Completes (.clusterWake c) s fun t => SMap.find? t.ocl.stopped c = none ∧ SMap.find? t.pwr.jets (3 + c) = some ⟨s.clp.now, false⟩ := by
  have hexec : exec (.clusterWake c) s = .next (s.clusterStart c) := by
    rw [show exec (.clusterWake c) s = execClusterWake c s from rfl, execClusterWake, Nat.mod_eq_of_lt hc]
    simp only [ha, hland, if_true]
  obtain ⟨hstop, hjet, -⟩ := clusterStart_completes ha
  exact completes_of_exec hexec ⟨hstop, hjet⟩

theorem clusterWake_deadline {a d : Nat} (hc : c < 4) (ha : SMap.find? s.ocl.stopped c = some a) (hland : s.wordLanded c a = false)
    (hdue : s.clusterDeadline c = some d) : Completes (.clusterWake c) s fun t =>
      SMap.find? t.ocl.stopped c = none ∧ t.clp.now = s.clp.now + (d - s.clLead) := by
  have hexec : exec (.clusterWake c) s = .next ((s.advance (d - s.clLead)).clusterStart c) := by
    rw [show exec (.clusterWake c) s = execClusterWake c s from rfl, execClusterWake, Nat.mod_eq_of_lt hc]
    simp only [ha, hland, hdue, Bool.false_eq_true, if_false]
  obtain ⟨hstop, -, hclp⟩ := clusterStart_completes (s := s.advance (d - s.clLead)) (c := c) (a := a) (by rw [advance_ocl, ha])
  exact completes_of_exec hexec ⟨hstop, (congrArg ClpState.now hclp).trans (advance_now s _)⟩

/-! ## Spread spectrum (R426) -/

theorem sscApply_completes (s : State) : Completes .sscApply s fun t => t.pwr.sscCl = s.fld F.PWR_SSC_CL_EN ∧
    t.pwr.sscFab = s.flag F.PWR_SSC_FAB_EN ∧ t.pwr.sscSince = t.clp.now ∧ s.clp.now ≤ t.clp.now ∧ t.clp.now ≤ s.clp.now + 31746 := by
  have hlt : s.fresh.1 % 31747 < 31747 := Nat.mod_lt _ (by decide)
  have hnow : (s.fresh.2.advance (s.fresh.1 % 31747)).clp.now = s.clp.now + s.fresh.1 % 31747 := advance_now ..
  have hregs : (s.fresh.2.advance (s.fresh.1 % 31747)).regs = s.regs := advance_regs ..
  refine ⟨_, rfl, fld_congr hregs _ _ _, flag_congr hregs _ _ _, rfl, ?_, ?_⟩
  · exact hnow ▸ Nat.le_add_right ..
  · exact hnow ▸ Nat.add_le_add_left (Nat.le_of_lt_succ hlt) _

/-- Settles O45: a lemma for each clause. -/
theorem clockCommands : Obligations.ClockCommands :=
  ⟨fun _ dt _ _ hk hk1 hj => jetLock_completes dt hk hk1 hj, fun _ dt _ hj => jetLock_starts dt hj,
    fun _ _ _ hj ha => jetLockTimeout_restarts hj ha, fun _ _ _ hj ha hk => jetLockTimeout_resets hj ha hk,
    fun _ _ _ hj ha hk => jetLockTimeout_wedges hj ha hk, fun _ _ _ _ hn hwork hl hw => chainWakeRequest_completes hn hwork hl hw,
    fun _ _ hwork hres => chainWakeRequest_idle hwork hres, fun _ _ hc hruns hauto hdue hidle => clusterStop_completes hc hruns hauto hdue hidle,
    fun _ _ _ hc ha hland => clusterWake_landed hc ha hland, fun _ _ _ _ hc ha hland hdue => clusterWake_deadline hc ha hland hdue,
    sscApply_completes⟩

end Sys2Proof.Machine
end

section
/-! PROOFS. `Obligations.ResetCommands` fails: with the internal reset held, an ACTIVATE at 0 ns still lets the Cistern work off an accumulator
that holds a whole tick (R357, R431). -/

namespace Sys2Proof.Machine

/-- The reset state with one whole trickle tick in the accumulator of the Cistern's trim. -/
def wholeTickOwed : State := { State.reset with clp := { State.reset.clp with cisAcc := 64000000 } }

/-- Without power an ACTIVATE lets its time pass and does nothing else. -/
theorem activate_of_held {s : State} (h : s.released = false) (dt req : Nat) : exec (.activate dt req) s = .next (s.after dt) := by
  have hheld : (s.after dt).released = false := (after_released s dt).trans h
  have hexec : exec (.activate dt req) s = .next ((s.after dt).powered fun u => u.jBootWrite req 1) := rfl
  rw [hexec, State.powered, hheld, on_false]

/-- The owed tick is counted even where no time passes. -/
theorem wholeTickOwed_after : (wholeTickOwed.after 0).clp.cisTicks = 1 := rfl

/-- Refutes O44: its clause on commands while the internal reset is held. ACTIVATE with 0 ns before it leaves `wholeTickOwed` with one tick
more in the Cistern, where the clause says that nothing changes. -/
theorem not_resetCommands : ¬ Obligations.ResetCommands := by
  unfold Obligations.ResetCommands
  rintro ⟨-, -, -, -, -, -, -, -, -, -, -, -, hheld, -⟩
  obtain ⟨t, hexec, ht⟩ := hheld wholeTickOwed 0 0 0 0 false 0 rfl (.activate 0 0) (by simp)
  rw [activate_of_held rfl, ht] at hexec
  have hsame : wholeTickOwed.after 0 = wholeTickOwed := Host.Outcome.next.inj hexec
  have hticks : (1 : Nat) = 0 := wholeTickOwed_after.symm.trans (congrArg (fun u : State => u.clp.cisTicks) hsame)
  exact absurd hticks (by decide)

end Sys2Proof.Machine
end

section
/-! PROOFS. The registers that frees of packet cells and pushes to runnels leave alone (R332–R346), and Eddy's points that are off (R518). -/

namespace Sys2Proof.Machine

variable {s : State} {id : RegId}

/-- The registers, the recorder's and the memories' apart, that a free of cells or a push to a runnel may write. -/
def pushRegs : List RegId := [.RUN_CNT_DOUBLE_FREE, .RUN_CNT_LOST, .RUN_EVT_N, .OBS_RUN_CNT]

theorem doubleFree_reg (s : State) (c i j : Nat) (hw : id ∉ slotWorkRegs) (hp : id ∉ pushRegs) : (s.doubleFree c).reg id i j = s.reg id i j := by
  have hraise : id ≠ F.RUN_EVT_DOUBLE_FREE.reg := fun e => hw (e ▸ by decide)
  have hbump : id ≠ F.RUN_CNT_DOUBLE_FREE_COUNT.reg := fun e => hp (e ▸ by decide)
  rw [State.doubleFree, siltPost_workAlike _ _ _ _ id hw, reg_raise_id _ _ _ _ hraise, reg_bump_id _ _ _ _ _ _ hbump]

theorem freeWalk_reg (n : Nat) (s : State) (c i j : Nat) (hw : id ∉ slotWorkRegs) (hp : id ∉ pushRegs) :
    (s.freeWalk n c).reg id i j = s.reg id i j := by
  induction n generalizing s c with
  | zero => rfl
  | succ n ih =>
    simp only [State.freeWalk]
    split
    · exact doubleFree_reg s c i j hw hp
    · split
      · rfl
      · exact ih _ _

theorem freeChain_reg (s : State) (c i j : Nat) (hw : id ∉ slotWorkRegs) (hp : id ∉ pushRegs) : (s.freeChain c).reg id i j = s.reg id i j :=
  freeWalk_reg _ s c i j hw hp

theorem land_reg (s : State) (n : Nat) (ws : List RunWord) (who i j : Nat) (hp : id ∉ pushRegs) : (s.land n ws who).reg id i j = s.reg id i j := by
  have hmarks : id ≠ .RUN_EVT_N := fun e => hp (e ▸ by decide)
  have hbump : id ≠ F.OBS_RUN_CNT_COUNT.reg := fun e => hp (e ▸ by decide)
  exact (judgeMarks_reg _ n i j hmarks).trans (reg_bump_id _ _ _ _ _ _ hbump)

theorem enginePush_reg (s : State) (n : Nat) (ws : List RunWord) (req i j : Nat) (hw : id ∉ slotWorkRegs) (hp : id ∉ pushRegs) :
    (s.enginePush n ws req).reg id i j = s.reg id i j := by
  have hlost : id ≠ .RUN_CNT_LOST := fun e => hp (e ▸ by decide)
  unfold State.enginePush
  split
  · exact lostPush_reg s n i j hw hlost
  · dsimp only
    split
    · exact land_reg s n ws 255 i j hp
    · rfl

/-! ## Eddy's points -/

/-- A point that is off lets a frame through as it is (R518). -/
theorem eddyAt_off {k : Nat} (h : s.pointOn k = false) (fix : List Byte → List Byte) (f : Passing) : s.eddyAt k fix f = ([f], s) := by
  rw [State.eddyAt, h]
  rfl

/-- A message of the Twin link passes a point that is off as it is (R519). -/
theorem twnPoint_off {k : Nat} (h : s.pointOn k = false) (type : Nat) (f : Passing) : s.twnPoint k type f = ([f], s) := by
  rw [State.twnPoint, eddyAt_off h, h]
  simp only [Bool.false_eq_true, if_false, ite_self]

/-- Whether a point acts hangs on its registers. -/
theorem pointOn_of_reg {t : State} {k : Nat} (hopen : t.flag F.OBS_STAT_OPEN = s.flag F.OBS_STAT_OPEN)
    (hen : t.flag F.OBS_EDDY_CFG_EN k = s.flag F.OBS_EDDY_CFG_EN k) : t.pointOn k = s.pointOn k := by
  rw [State.pointOn, hopen, hen, State.pointOn]

theorem after_pointOn (s : State) (dt k : Nat) : (s.after dt).pointOn k = s.pointOn k := pointOn_of_reg (after_flag ..) (after_flag ..)

theorem eddyCorrupt_reg (s : State) (k r : Nat) (fix : List Byte → List Byte) (f : Passing) (i j : Nat) (h : id ≠ .OBS_CNT_EDDY) :
    (s.eddyCorrupt k r fix f).2.reg id i j = s.reg id i j := by
  unfold State.eddyCorrupt
  split
  · exact reg_bump_id _ _ _ _ _ _ h
  · rfl

theorem passPoint_regs (s : State) (k : Nat) (f : Passing) : (s.passPoint k f).2.regs = s.regs := by
  unfold State.passPoint
  split
  · rfl
  · split <;> rfl

theorem eddyAt_reg (s : State) (k : Nat) (fix : List Byte → List Byte) (f : Passing) (i j : Nat) (h : id ≠ .OBS_CNT_EDDY) :
    (s.eddyAt k fix f).2.reg id i j = s.reg id i j := by
  have hcorrupt := eddyCorrupt_reg (s.next32 k).2 k (s.next32 k).1 fix f i j h
  simp only [State.eddyAt]
  split
  · rfl
  · split
    · exact reg_bump_id _ _ _ _ _ _ h
    · split
      · exact (reg_bump_id _ _ _ _ _ _ h).trans hcorrupt
      · exact (reg_congr (passPoint_regs _ _ _) id i j).trans hcorrupt

theorem unhold_regs (s : State) (k : Nat) : (s.unhold k).2.regs = s.regs := by
  unfold State.unhold
  split <;> rfl

end Sys2Proof.Machine
end

section
/-! PROOFS. `Obligations.TwinMessages`: the messages that arrive on the Twin link (R456). -/

namespace Sys2Proof.Machine

variable {s : State}

/-! ## A message as it lies on the link (R456) -/

/-- The header word of a message. -/
def twnHead (type seq stamp n : Nat) : Nat := stamp % 2 ^ 32 + 2 ^ 32 * (seq % 65536) + 2 ^ 48 * (n % 4096) + 2 ^ 60 * (type % 16)

/-- The payload of a message as bytes. -/
def twnBody (ws : List Word) : List Byte := ws.flatMap fun w => leBytes 8 w.toNat

/-- A message without its check word. -/
def twnFront (type seq stamp : Nat) (ws : List Word) : List Byte := leBytes 8 (twnHead type seq stamp ws.length) ++ twnBody ws

theorem twnBytes_eq (type seq stamp : Nat) (ws : List Word) :
    twnBytes type seq stamp ws = twnFront type seq stamp ws ++ twnCheck (twnFront type seq stamp ws) := rfl

theorem twnHead_type (type seq stamp n : Nat) : bits (twnHead type seq stamp n) 60 4 = type % 16 := by
  simp only [bits, twnHead]
  omega

theorem twnHead_length (type seq stamp n : Nat) : bits (twnHead type seq stamp n) 48 12 = n % 4096 := by
  simp only [bits, twnHead]
  omega

theorem twnHead_stamp (type seq stamp n : Nat) : twnHead type seq stamp n % 2 ^ 32 = stamp % 2 ^ 32 := by
  simp only [twnHead]
  omega

theorem length_twnBody (ws : List Word) : (twnBody ws).length = 8 * ws.length := by
  induction ws with
  | nil => rfl
  | cons w ws ih => rw [twnBody, List.flatMap_cons, List.length_append, length_leBytes, ← twnBody, ih, List.length_cons, Nat.mul_succ, Nat.add_comm]

theorem length_twnFront (type seq stamp : Nat) (ws : List Word) : (twnFront type seq stamp ws).length = 8 * ws.length + 8 := by
  rw [twnFront, List.length_append, length_leBytes, length_twnBody, Nat.add_comm]

theorem length_twnCheck (bs : List Byte) : (twnCheck bs).length = 8 := length_leBytes ..

/-- A message's header is read from its first eight bytes. -/
theorem twnFront_head (type seq stamp : Nat) (ws : List Word) (c : List Byte) :
    ofLe ((twnFront type seq stamp ws ++ c).take 8) = twnHead type seq stamp ws.length := by
  rw [twnFront, List.append_assoc, List.take_left' (length_leBytes ..), ofLe_leBytes]
  exact Nat.mod_eq_of_lt (by simp only [twnHead]; omega)

/-- A message's payload lies between its header and its check word. -/
theorem twnFront_body (type seq stamp : Nat) (ws : List Word) {c : List Byte} (hc : c.length = 8) :
    ((twnFront type seq stamp ws ++ c).drop 8).take ((twnFront type seq stamp ws ++ c).length - 16) = twnBody ws := by
  have hlen : (twnFront type seq stamp ws ++ c).length - 16 = (twnBody ws).length := by
    rw [List.length_append, length_twnFront, length_twnBody, hc]
    omega
  rw [hlen, twnFront, List.append_assoc, List.drop_left' (length_leBytes ..), List.take_left]

theorem chunks8_leBytes (v : Nat) (bs : List Byte) : chunks8 (leBytes 8 v ++ bs) = leBytes 8 v :: chunks8 bs := rfl

/-- The words of a payload come back from its bytes. -/
theorem twnBody_words (ws : List Word) : ((chunks8 (twnBody ws)).map fun c => BitVec.ofNat 64 (ofLe c)) = ws := by
  induction ws with
  | nil => rfl
  | cons w ws ih =>
    rw [twnBody, List.flatMap_cons, chunks8_leBytes, List.map_cons, ← twnBody, ih, ofLe_leBytes, show 256 ^ 8 = 2 ^ 64 from rfl, Nat.mod_eq_of_lt w.isLt, BitVec.ofNat_toNat,
      BitVec.setWidth_eq]

/-! ## Good and bad messages -/

/-- A message whose check word is its own is good where its TYPE is known, its length fits the header and a message of one word has one. -/
theorem goodMsg_twnBytes {type : Nat} (seq stamp : Nat) {ws : List Word} (h1 : 1 ≤ type) (h8 : type ≤ 8) (hn : ws.length < 4096)
    (hone : ([1, 4, 5, 6] : List Nat).contains type = true → ws.length = 1) : goodMsg (twnBytes type seq stamp ws) = true := by
  have hlen : (twnBytes type seq stamp ws).length = 8 * ws.length + 16 := by
    rw [twnBytes_eq, List.length_append, length_twnFront, length_twnCheck]
  have hfront : (twnBytes type seq stamp ws).length - 8 = (twnFront type seq stamp ws).length := by rw [hlen, length_twnFront]; omega
  have hcheck : (twnBytes type seq stamp ws).drop (8 * ws.length + 16 - 8) =
      twnCheck ((twnBytes type seq stamp ws).take (8 * ws.length + 16 - 8)) := by
    rw [← hlen, hfront, twnBytes_eq, List.drop_left, List.take_left]
  have hcount : ws.length % 4096 = (8 * ws.length + 16) / 8 - 2 := by omega
  have hsize : ([1, 4, 5, 6] : List Nat).contains type = true → 8 * ws.length + 16 = 24 := fun h => by rw [hone h]
  simp only [goodMsg, hlen]
  rw [hcheck, twnBytes_eq, twnFront_head, twnHead_length, twnHead_type, Nat.mod_eq_of_lt (show type < 16 by omega), hcount]
  simp only [beq_self_eq_true, Bool.and_true, Bool.and_eq_true, Bool.or_eq_true, Bool.not_eq_true', decide_eq_true_eq, beq_iff_eq]
  refine ⟨⟨⟨⟨by omega, by omega⟩, h1⟩, h8⟩, ?_⟩
  cases hc : ([1, 4, 5, 6] : List Nat).contains type
  · exact .inl rfl
  · exact .inr (hsize hc)

/-- A flipped bit in the first byte after `front` leaves all else as it was. -/
theorem flipBit_append (front : List Byte) (c : Byte) (cs : List Byte) :
    flipBit (front ++ c :: cs) (8 * front.length) = front ++ (c ^^^ 1) :: cs := by
  have hdiv : 8 * front.length / 8 = front.length := by omega
  have hmod : 8 * front.length % 8 = 0 := by omega
  have hget : (front ++ c :: cs).getD front.length 0 = c := by simp
  have hdrop : (front ++ c :: cs).drop (front.length + 1) = cs := by simp
  simp only [flipBit, hdiv, hmod, List.take_left, hget, hdrop]
  rfl

theorem byte_flip_ne (c : Byte) : c ^^^ 1 ≠ c := by
  intro h
  have := congrArg (c ^^^ ·) h
  simp only [← BitVec.xor_assoc, BitVec.xor_self, BitVec.zero_xor] at this
  exact absurd this (by decide)

/-- A message whose check word came wrong is bad. -/
theorem goodMsg_flipped (type seq stamp : Nat) (ws : List Word) :
    goodMsg (flipBit (twnBytes type seq stamp ws) (8 * ((twnBytes type seq stamp ws).length - 8))) = false := by
  obtain ⟨c, cs, hc⟩ : ∃ c cs, twnCheck (twnFront type seq stamp ws) = c :: cs := ⟨_, _, rfl⟩
  have hcs : cs.length + 1 = 8 := by rw [← List.length_cons (a := c), ← hc, length_twnCheck]
  have hat : (twnBytes type seq stamp ws).length - 8 = (twnFront type seq stamp ws).length := by
    rw [twnBytes_eq, List.length_append, length_twnCheck, Nat.add_sub_cancel]
  have hflip : flipBit (twnBytes type seq stamp ws) (8 * ((twnBytes type seq stamp ws).length - 8)) =
      twnFront type seq stamp ws ++ (c ^^^ 1) :: cs := by
    rw [hat, twnBytes_eq, hc, flipBit_append]
  have hlen : (twnFront type seq stamp ws ++ (c ^^^ 1) :: cs).length - 8 = (twnFront type seq stamp ws).length := by
    rw [List.length_append, List.length_cons, hcs, Nat.add_sub_cancel]
  have hwrong : (((c ^^^ 1) :: cs) == c :: cs) = false :=
    beq_eq_false_iff_ne.mpr fun h => byte_flip_ne c (List.head_eq_of_cons_eq h)
  rw [hflip, goodMsg]
  simp only [hlen, List.drop_left, List.take_left, hc, hwrong, Bool.and_false, Bool.false_and]

/-! ## Reception -/

theorem twnReceive_bad {f : Passing} (h : goodMsg f.bytes = false) : s.twnReceive f = s.bump F.TWN_CNT_BAD_MSG_COUNT := by
  rw [State.twnReceive, h]
  rfl

/-- What a good message does, by its TYPE. -/
def State.twnTake (s : State) (type : Nat) (f : Passing) (stamp : Nat) (ws : List Word) : State :=
  match type with
  | 1 => s.heartbeat f.ts stamp (ws.getD 0 0).toNat
  | 2 => s.mirrorApply ws
  | 3 => s.syncEnds
  | 4 => s.takeoverArrives (ws.getD 0 0).toNat
  | 5 => s.handoverArrives
  | 6 => s.goodbyeArrives
  | 7 => s.packetArrives f (twnBody ws)
  | _ => s.resyncArrives

theorem twnReceive_good {type : Nat} (seq stamp ts asn : Nat) {ws : List Word} (h1 : 1 ≤ type) (h8 : type ≤ 8) (hn : ws.length < 4096)
    (hone : ([1, 4, 5, 6] : List Nat).contains type = true → ws.length = 1) :
    s.twnReceive ⟨twnBytes type seq stamp ws, ts, asn⟩ = s.twnTake type ⟨twnBytes type seq stamp ws, ts, asn⟩ (stamp % 2 ^ 32) ws := by
  rw [State.twnReceive, goodMsg_twnBytes seq stamp h1 h8 hn hone]
  simp only [twnBytes_eq, twnFront_head, twnHead_type, twnHead_stamp, twnFront_body type seq stamp ws (length_twnCheck _), twnBody_words,
    Nat.mod_eq_of_lt (show type < 16 by omega)]
  rfl

theorem after_role (s : State) (dt : Nat) : (s.after dt).role = s.role := after_fld ..

theorem after_linkUp (s : State) (dt : Nat) : (s.after dt).linkUp = s.linkUp := by rw [State.linkUp, after_fld, State.linkUp]

theorem twnArrive_alone (dt type seq stamp : Nat) (ws : List Word) (ok : Bool) (hrole : s.role = 0) :
    s.twnArrive dt type seq stamp ws ok = s.after dt := by
  rw [State.twnArrive]
  exact if_pos (.inl ((after_role s dt).trans hrole))

section Arrives

variable {dt type seq stamp : Nat} {ws : List Word}

theorem twnArrive_received (ok : Bool) (hrole : s.role ≠ 0) (hup : s.linkUp = true) (hpoint : s.pointOn 8 = false) :
    s.twnArrive dt type seq stamp ws ok = (s.after dt).twnReceive
      ⟨if ok then twnBytes type seq stamp ws else flipBit (twnBytes type seq stamp ws) (8 * ((twnBytes type seq stamp ws).length - 8)),
        (s.after dt).service, if (s.after dt).asnValid then (s.after dt).asn else noAsn⟩ := by
  have hopen : ¬((s.after dt).role = 0 ∨ (s.after dt).linkUp = false) := by
    rw [after_role, after_linkUp, hup]
    rintro (h | h)
    · exact hrole h
    · exact Bool.false_ne_true h.symm
  rw [State.twnArrive]
  dsimp only
  rw [if_neg hopen, twnPoint_off ((after_pointOn s dt 8).trans hpoint)]
  rfl

theorem twnArrive_good (hrole : s.role ≠ 0) (hup : s.linkUp = true) (hpoint : s.pointOn 8 = false) (h1 : 1 ≤ type) (h8 : type ≤ 8)
    (hn : ws.length < 4096) (hone : ([1, 4, 5, 6] : List Nat).contains type = true → ws.length = 1) :
    s.twnArrive dt type seq stamp ws true = (s.after dt).twnTake type
      ⟨twnBytes type seq stamp ws, (s.after dt).service, if (s.after dt).asnValid then (s.after dt).asn else noAsn⟩ (stamp % 2 ^ 32) ws :=
  (twnArrive_received true hrole hup hpoint).trans (twnReceive_good seq stamp _ _ h1 h8 hn hone)

theorem twnArrive_bad (hrole : s.role ≠ 0) (hup : s.linkUp = true) (hpoint : s.pointOn 8 = false) :
    s.twnArrive dt type seq stamp ws false = (s.after dt).bump F.TWN_CNT_BAD_MSG_COUNT :=
  (twnArrive_received false hrole hup hpoint).trans (twnReceive_bad (goodMsg_flipped type seq stamp ws))

end Arrives

/-- The commands of the messages that arrive, with what `twnArrive` takes from each. -/
theorem exec_twnArrive (dt seq stamp : Nat) (w : Word) (ws : List Word) (ok : Bool) {c : Instr}
    (hc : c ∈ [Instr.heartbeat dt seq stamp w ok, .mirror dt seq stamp ws ok, .resync dt seq stamp ok, .syncEnd dt seq stamp ok,
      .takeover dt seq stamp w ok, .handover dt seq stamp w ok, .goodbye dt seq stamp w ok, .packet dt seq stamp ws ok]) :
    ∃ (type : Nat) (ps : List Word), exec c s = .next (s.twnArrive dt type seq stamp ps ok) := by
  simp only [List.mem_cons, List.not_mem_nil, or_false] at hc
  obtain rfl | rfl | rfl | rfl | rfl | rfl | rfl | rfl := hc
  · exact ⟨1, [w], rfl⟩
  · exact ⟨2, ws, rfl⟩
  · exact ⟨8, [], rfl⟩
  · exact ⟨3, [], rfl⟩
  · exact ⟨4, [w], rfl⟩
  · exact ⟨5, [w], rfl⟩
  · exact ⟨6, [w], rfl⟩
  · exact ⟨7, ws, rfl⟩

/-- Settles O48. -/
theorem twinMessages : Obligations.TwinMessages := by
  unfold Obligations.TwinMessages
  refine ⟨fun s dt seq stamp w ws hrole hup hpoint hn => ?_, fun s dt seq stamp w ws hrole hup hpoint _ c hc => ?_,
    fun s dt seq stamp w ws ok hrole c hc => ?_⟩
  · refine ⟨completes_of_exec rfl (twnArrive_good hrole hup hpoint ?_ ?_ ?_ ?_), completes_of_exec rfl (twnArrive_good hrole hup hpoint ?_ ?_ hn ?_),
      completes_of_exec rfl (twnArrive_good hrole hup hpoint ?_ ?_ ?_ ?_), completes_of_exec rfl (twnArrive_good hrole hup hpoint ?_ ?_ ?_ ?_),
      completes_of_exec rfl (twnArrive_good hrole hup hpoint ?_ ?_ ?_ ?_), completes_of_exec rfl (twnArrive_good hrole hup hpoint ?_ ?_ ?_ ?_),
      completes_of_exec rfl (twnArrive_good hrole hup hpoint ?_ ?_ ?_ ?_), completes_of_exec rfl (twnArrive_good hrole hup hpoint ?_ ?_ hn ?_)⟩
    all_goals simp
  · obtain ⟨type, ps, hexec⟩ := exec_twnArrive (s := s) dt seq stamp w ws false hc
    exact completes_of_exec hexec (twnArrive_bad hrole hup hpoint)
  · obtain ⟨type, ps, hexec⟩ := exec_twnArrive (s := s) dt seq stamp w ws ok hc
    exact completes_of_exec hexec (twnArrive_alone dt type seq stamp ps ok hrole)

end Sys2Proof.Machine
end

section
/-! PROOFS. `Obligations.ClepsydraCommands`: Clepsydra's commands and events (R355–R370). -/

namespace Sys2Proof.Machine

variable {s : State} {dt : Nat}

/-! ## What time leaves alone -/

theorem after_timeHeld (s : State) (dt : Nat) : (s.after dt).timeHeld = s.timeHeld := by
  rw [State.timeHeld, after_flag, after_flag, State.timeHeld]

/-- What of Clepsydra the passage of time keeps: all but its clocks and the slew's remainder. -/
theorem advance_clp (s : State) (d : Nat) : ∃ now ft rem ticks acc, (s.advance d).clp =
    { s.clp with now := now, ft := ft, slewRem := rem, cisTicks := ticks, cisAcc := acc } := by
  simp only [State.advance, State.cisternTicks]
  split
  · exact ⟨_, _, _, _, _, rfl⟩
  · exact ⟨_, _, _, _, _, rfl⟩

theorem after_ppsLevel (s : State) (dt : Nat) : (s.after dt).clp.ppsLevel = s.clp.ppsLevel := by
  obtain ⟨_, _, _, _, _, h⟩ := advance_clp s dt
  rw [State.after, h]

theorem after_rejects (s : State) (dt : Nat) : (s.after dt).clp.rejects = s.clp.rejects := by
  obtain ⟨_, _, _, _, _, h⟩ := advance_clp s dt
  rw [State.after, h]

/-! ## Time as read, SET and STEP (R355–R360) -/

theorem cisternTrimCorrect_completes {k : Nat} (hon : s.clp.on = false) (hk : s.trimTicks = some k) : Completes .cisternTrimCorrect s fun t =>
    t = s.advanceTo (tickTime (ticksAt s.clp.now + k)) := by
  refine completes_of_exec ?_ rfl
  rw [show exec .cisternTrimCorrect s = execCisternTrimCorrect s from rfl, execCisternTrimCorrect, hon, hk]

theorem nowSRead_latches (hr : s.released = true) : Completes (.nowSRead dt) s fun t => t.fld F.CLP_NOW_NS_NS = (s.after dt).fullNs % 10 ^ 9 := by
  refine completes_of_after hr rfl ?_
  rw [State.nowLatch, fld_setFld_self _ _ _ _ _ (by decide)]
  exact Nat.mod_eq_of_lt ((Nat.mod_lt _ (by decide)).trans (by decide))

theorem set_completes (hheld : s.timeHeld = false) (hns : s.fld F.CLP_SET_NS_NS ≤ 999999999) (hr : s.released = true) :
    Completes (.set dt) s fun t => t.flag F.CLP_STAT_FT_VALID = true ∧ t.flag F.CLP_CIS_CTL_TIME_OK = true ∧
      t = (((s.after dt).jumpTo ((s.fld F.CLP_SET_S_SEC * 10 ^ 9 + s.fld F.CLP_SET_NS_NS) * 2 ^ 40)).setFld
        F.CLP_STAT_FT_VALID 1).setFld F.CLP_CIS_CTL_TIME_OK 1 := by
  refine completes_of_after hr rfl ?_
  have hgo : (s.after dt).clpSet = (((s.after dt).jumpTo ((s.fld F.CLP_SET_S_SEC * 10 ^ 9 + s.fld F.CLP_SET_NS_NS) * 2 ^ 40)).setFld
      F.CLP_STAT_FT_VALID 1).setFld F.CLP_CIS_CTL_TIME_OK 1 := by
    rw [State.clpSet]
    simp only [after_timeHeld, after_fld, hheld, Bool.false_or]
    rw [if_neg (fun h => absurd (of_decide_eq_true h) (by omega))]
  rw [hgo]
  refine ⟨?_, flag_setFld_one _ _ _ _ (by decide) rfl, rfl⟩
  rw [flag_setFld_id _ _ _ _ _ _ (by decide)]
  exact flag_setFld_one _ _ _ _ (by decide) rfl

theorem set_refused (h : s.timeHeld = true ∨ 999999999 < s.fld F.CLP_SET_NS_NS) (hr : s.released = true) : Completes (.set dt) s fun t =>
    t = (s.after dt).raise F.CLP_EVT_CMD_REFUSED := by
  refine completes_of_after hr rfl ?_
  rw [State.clpSet]
  simp only [after_timeHeld, after_fld]
  refine if_pos ?_
  rcases h with h | h
  · rw [h, Bool.true_or]
  · rw [decide_eq_true h, Bool.or_true]

theorem step_completes (hheld : s.timeHeld = false) (hlo : 0 ≤ ((s.after dt).clp.ft : Int) + s.sfld F.CLP_STEP_NS * 2 ^ 40)
    (hhi : ((s.after dt).clp.ft : Int) + s.sfld F.CLP_STEP_NS * 2 ^ 40 < 2 ^ 48 * 10 ^ 9 * 2 ^ 40) (hr : s.released = true) :
    Completes (.step dt) s fun t => t = (s.after dt).jumpTo (((s.after dt).clp.ft : Int) + s.sfld F.CLP_STEP_NS * 2 ^ 40).toNat := by
  refine completes_of_after hr rfl ?_
  rw [State.clpStep]
  simp only [after_timeHeld, after_sfld, hheld, Bool.false_or, decide_eq_false (not_lt.mpr hlo), decide_eq_false (not_le.mpr hhi)]
  exact if_neg Bool.false_ne_true

theorem step_refused (hheld : s.timeHeld = true) (hr : s.released = true) : Completes (.step dt) s fun t =>
    t = (s.after dt).raise F.CLP_EVT_CMD_REFUSED := by
  refine completes_of_after hr rfl ?_
  rw [State.clpStep]
  simp only [after_timeHeld, hheld, Bool.true_or, if_true]

/-- Full time has become `q`, before the frames that it overtakes are told. -/
def State.jumped (s : State) (q : Nat) : State :=
  let d : Int := (q / 2 ^ 40 : Nat) - (s.fullNs : Int)
  let past := s.clp.asnPast.map fun _ => (0, 0, 0, 0, 1)
  ({ s with clp := { s.clp with ft := q, rejects := 0, jump := false, asnPast := past } }.shiftTimes d).lower F.CLP_EVT_JUMP_PENDING
    |>.raise F.CLP_EVT_STEP_DONE

theorem jumpTo_eq (s : State) (q : Nat) : s.jumpTo q =
    (List.range 16).foldl (fun s j => (s.tx j).frames.foldl (fun s f => s.overtaken j f) s) (s.jumped q) := rfl

/-- A change of every chain that keeps its place and invents no frame leaves a chain without frames without frames. -/
theorem frames_map {g : Nat × TxfChain → Nat × TxfChain} (hkey : ∀ e, (g e).1 = e.1) (hg : ∀ e, e.2.frames = [] → (g e).2.frames = [])
    {m : SMap TxfChain} {j : Nat} (h : (SMap.getD m j {}).frames = []) : (SMap.getD (m.map g) j {}).frames = [] := by
  induction m with
  | nil => rfl
  | cons e m ih =>
    have hcons : SMap.getD (g e :: m.map g) j {} = if j = e.1 then (g e).2 else SMap.getD (m.map g) j {} := by
      rw [← hkey e]
      simp only [SMap.getD, SMap.find?]
      split <;> rfl
    have hcons' : SMap.getD (e :: m) j {} = if j = e.1 then e.2 else SMap.getD m j {} := by
      simp only [SMap.getD, SMap.find?]
      split <;> rfl
    rw [hcons'] at h
    rw [List.map_cons, hcons]
    split
    · next hj => exact hg e (by rwa [if_pos hj] at h)
    · next hj => exact ih (by rwa [if_neg hj] at h)

theorem tx_shiftTimes_idle {d : Int} {j : Nat} (h : (s.tx j).frames = []) : ((s.shiftTimes d).tx j).frames = [] := by
  rw [State.tx, State.shiftTimes]
  refine frames_map (m := s.txf.chains) ?_ (fun e he => ?_) h
  · exact fun _ => rfl
  · exact List.map_eq_nil_iff.mpr he

theorem jumped_idle (q : Nat) {j : Nat} (h : (s.tx j).frames = []) : ((s.jumped q).tx j).frames = [] := by
  rw [State.jumped, raise_tx, State.tx, lower_txf]
  exact tx_shiftTimes_idle h

/-- With no frame held, a jump has no frame to tell. -/
theorem jumpTo_of_idle (q : Nat) (h : ∀ j, (s.tx j).frames = []) : s.jumpTo q = s.jumped q := by
  rw [jumpTo_eq]
  refine List.foldlRecOn (motive := fun t : State => t = s.jumped q) _ _ rfl fun t ht j _ => ?_
  rw [ht, jumped_idle q (h j)]
  rfl

theorem jumped_clp (s : State) (q : Nat) : (s.jumped q).clp.ft = q ∧ (s.jumped q).clp.rejects = 0 := by
  rw [State.jumped, raise_clp, lower_clp]
  exact ⟨rfl, rfl⟩

theorem jumpTo_idle (q : Nat) (h : ∀ j, (s.tx j).frames = []) :
    (s.jumpTo q).clp.ft = q ∧ (s.jumpTo q).clp.rejects = 0 ∧ (s.jumpTo q).flag F.CLP_EVT_STEP_DONE = true := by
  rw [jumpTo_of_idle q h]
  obtain ⟨hft, hrejects⟩ := jumped_clp s q
  exact ⟨hft, hrejects, flag_raise_self _ _ _ (by decide) rfl⟩

/-! ## The mapping between ASN and time (R369–R371) -/

/-- ARMED is set, and the command mirrored. -/
def State.clpArmed (s : State) : State := (s.setFld F.CLP_STAT_ARMED 1).mirrorReg .CLP_CMD 0 4

theorem mirrorPost_regs (s : State) (cls idx : Nat) (ws : List Word) : (s.mirrorPost cls idx ws).regs = s.regs := (mirrorPost_regs_grt s cls idx ws).1

theorem mirrorPost_clp (s : State) (cls idx : Nat) (ws : List Word) : (s.mirrorPost cls idx ws).clp = s.clp := by
  unfold State.mirrorPost
  repeat' split
  all_goals rfl

theorem fld_mirrorReg (s : State) (id : RegId) (n : Nat) (d : Word) (f : Fld) (i j : Nat) : (s.mirrorReg id n d).fld f i j = s.fld f i j :=
  fld_congr (mirrorPost_regs ..) f i j

theorem flag_mirrorReg (s : State) (id : RegId) (n : Nat) (d : Word) (f : Fld) (i j : Nat) : (s.mirrorReg id n d).flag f i j = s.flag f i j := by
  rw [State.flag, fld_mirrorReg, State.flag]

theorem clpArmed_fullNs (s : State) : s.clpArmed.fullNs = s.fullNs := by
  rw [State.fullNs, State.clpArmed, State.mirrorReg, mirrorPost_clp, State.fullNs, setFld_clp]

theorem clpArmed_anchorNs (s : State) : s.clpArmed.anchorNs = s.anchorNs := by
  simp only [State.anchorNs, State.clpArmed, fld_mirrorReg]
  rw [fld_setFld_id _ _ _ _ _ _ (by decide), fld_setFld_id _ _ _ _ _ _ (by decide)]

theorem clpArmed_asnValid (s : State) : s.clpArmed.asnValid = s.asnValid := by
  rw [State.asnValid, State.clpArmed, flag_mirrorReg, flag_setFld_disjoint _ _ _ _ _ _ (by decide) (by decide), State.asnValid]

theorem after_anchorNs (s : State) (dt : Nat) : (s.after dt).anchorNs = s.anchorNs := by
  simp only [State.anchorNs, after_fld]

theorem arm_completes (hlo : 10000 ≤ s.fld F.MAC_SLOT_SLOT_LEN_US) (hhi : s.fld F.MAC_SLOT_SLOT_LEN_US ≤ 50000) (hasn : s.asnValid = false)
    (hr : s.released = true) : Completes (.arm dt) s fun t => ∃ v : State, v.flag F.CLP_STAT_ARMED = true ∧ v.fullNs = (s.after dt).fullNs ∧
      t = if s.anchorNs ≤ v.fullNs then v.asnStart else v := by
  refine completes_of_after hr rfl ⟨(s.after dt).clpArmed, ?_, clpArmed_fullNs _, ?_⟩
  · rw [State.clpArmed, flag_mirrorReg]
    exact flag_setFld_one _ _ _ _ (by decide) rfl
  · have hrange : ¬((s.after dt).fld F.MAC_SLOT_SLOT_LEN_US < 10000 ∨ 50000 < (s.after dt).fld F.MAC_SLOT_SLOT_LEN_US) := by
      rw [after_fld]
      omega
    have hvalid : (s.after dt).clpArmed.asnValid = false := (clpArmed_asnValid _).trans ((after_flag ..).trans hasn)
    rw [State.clpArm]
    dsimp only
    rw [if_neg hrange, ← State.clpArmed, clpArmed_anchorNs, after_anchorNs, hvalid]
    simp only [and_true]

theorem arm_refused (h : s.fld F.MAC_SLOT_SLOT_LEN_US < 10000 ∨ 50000 < s.fld F.MAC_SLOT_SLOT_LEN_US) (hr : s.released = true) :
    Completes (.arm dt) s fun t => t = (s.after dt).raise F.CLP_EVT_CMD_REFUSED := by
  refine completes_of_after hr rfl ?_
  rw [State.clpArm]
  dsimp only
  rw [after_fld]
  exact if_pos h

theorem disarm_completes (hr : s.released = true) : Completes (.disarm dt) s fun t => ∃ v : State, v.flag F.CLP_STAT_ARMED = false ∧
    v.asnValid = false ∧ t = v.macUpdate := by
  refine completes_of_after hr rfl ⟨_, ?_, ?_, rfl⟩
  · rw [flag_mirrorReg, flag_setFld_disjoint _ _ _ _ _ _ (by decide) (by decide)]
    exact flag_setFld_zero _ _ _ _ (by decide) rfl
  · rw [State.asnValid, flag_mirrorReg]
    exact flag_setFld_zero _ _ _ _ (by decide) rfl

theorem asnStart_completes (harmed : s.flag F.CLP_STAT_ARMED = true) (hasn : s.asnValid = false) : Completes .asnStart s fun t =>
    t = (s.advanceToFull s.anchorNs).asnStart := by
  refine completes_of_exec ?_ rfl
  rw [show exec .asnStart s = execAsnStart s from rfl, execAsnStart]
  exact if_pos ⟨harmed, hasn⟩

/-! ## Steering (R361–R366) -/

theorem masterChg_completes (hr : s.released = true) : Completes (.masterChg dt) s fun t => t.clp.rejects = 0 ∧
    t.flag F.CLP_EVT_JUMP_PENDING = false ∧ t.flag F.CLP_EVT_MASTER_CHANGE = true := by
  refine completes_of_after hr rfl ⟨?_, ?_, flag_raise_self _ _ _ (by decide) rfl⟩
  · rw [State.masterChg, raise_clp, lower_clp]
  · rw [State.masterChg, flag_raise_disjoint _ _ _ _ (by decide) (by decide)]
    exact flag_lower_self _ _ _ (by decide) rfl

theorem resetI_completes (hr : s.released = true) : Completes (.resetI dt) s fun t => t = (s.after dt).setFld F.CLP_RATE_I_RATE_I 0 :=
  completes_of_after hr rfl rfl

theorem ofsWrite_sample (d : Word) (h : s.fld F.CLP_STEER_CTL_SRC = 1) :
    s.ofsWrite d = s.sample d.toInt (max 1 (s.fld F.CLP_STEER_CTL_INTERVAL_MS)) := if_pos h

theorem acceptSample_clp (s : State) (off : Int) (interval : Nat) : (s.acceptSample off interval).clp =
    { s.clp with rejects := 0, jump := false, sampled := true, lastOk := s.clp.now,
                 slewRem := -(off / 2 ^ s.fld F.CLP_STEER_CTL_KP_SHIFT) * 2 ^ 40 } := by
  rw [State.acceptSample, setFld_clp, setFld_clp, setFld_clp, bump_clp, lower_clp]

theorem ofsSample_accepted {d : Word} (hsrc : s.fld F.CLP_STEER_CTL_SRC = 1)
    (hd : d.toInt.natAbs ≤ s.fld F.CLP_STEER_LIM_JUMP_LIMIT_US * 1000) (hr : s.released = true) : Completes (.ofsSample dt d) s fun t =>
      t.fld F.CLP_STAT_STEER = 1 ∧ t.clp.lastOk = s.clp.now + dt ∧ t.clp.rejects = 0 ∧ t.clp.sampled = true ∧
        t.clp.slewRem = -(d.toInt / 2 ^ s.fld F.CLP_STEER_CTL_KP_SHIFT) * 2 ^ 40 := by
  have hgo : (s.after dt).ofsWrite d = (s.after dt).acceptSample d.toInt (max 1 ((s.after dt).fld F.CLP_STEER_CTL_INTERVAL_MS)) := by
    rw [ofsWrite_sample d ((after_fld ..).trans hsrc), State.sample, after_fld]
    exact if_neg (not_lt.mpr hd)
  refine completes_of_after hr rfl ?_
  rw [hgo, acceptSample_clp]
  exact ⟨fld_setFld_self _ _ _ _ _ (by decide), after_now s dt, rfl, rfl, by rw [after_fld]⟩

/-- A rejected sample, counted and reported. -/
def State.sampleRejected (s : State) : State :=
  let u := (s.bump F.CLP_CNT_REJECT_COUNT).raise F.CLP_EVT_SAMPLE_REJECT
  { u with clp := { u.clp with rejects := u.clp.rejects + 1 } }

theorem sampleRejected_rejects (s : State) : s.sampleRejected.clp.rejects = s.clp.rejects + 1 := by
  simp only [State.sampleRejected, raise_clp, bump_clp]

theorem sampleRejected_event (s : State) : s.sampleRejected.flag F.CLP_EVT_SAMPLE_REJECT = true :=
  flag_raise_self _ _ _ (by decide) rfl

theorem rejectSample_eq (s : State) : s.rejectSample = s.sampleRejected.on (s.sampleRejected.clp.rejects == 4) fun s =>
    { s with clp := { s.clp with jump := true } }.raise F.CLP_EVT_JUMP_PENDING := rfl

theorem rejectSample_effects (s : State) : s.rejectSample.clp.rejects = s.clp.rejects + 1 ∧ s.rejectSample.flag F.CLP_EVT_SAMPLE_REJECT = true ∧
    (s.clp.rejects = 3 → s.rejectSample.flag F.CLP_EVT_JUMP_PENDING = true) := by
  rw [rejectSample_eq, sampleRejected_rejects]
  refine ⟨?_, ?_, fun h => ?_⟩
  · exact on_keeps (P := fun u : State => u.clp.rejects = s.clp.rejects + 1) _ (sampleRejected_rejects s)
      (by rw [raise_clp]; exact sampleRejected_rejects s)
  · exact on_keeps (P := fun u : State => u.flag F.CLP_EVT_SAMPLE_REJECT = true) _ (sampleRejected_event s)
      ((flag_raise_disjoint _ _ _ _ (by decide) (by decide)).trans (sampleRejected_event s))
  · rw [h]
    exact flag_raise_self _ _ _ (by decide) rfl

theorem ofsSample_rejected {d : Word} (hsrc : s.fld F.CLP_STEER_CTL_SRC = 1)
    (hd : s.fld F.CLP_STEER_LIM_JUMP_LIMIT_US * 1000 < d.toInt.natAbs) (hr : s.released = true) : Completes (.ofsSample dt d) s fun t =>
      t.clp.rejects = s.clp.rejects + 1 ∧ t.flag F.CLP_EVT_SAMPLE_REJECT = true ∧
        (s.clp.rejects = 3 → t.flag F.CLP_EVT_JUMP_PENDING = true) := by
  have hgo : (s.after dt).ofsWrite d = (s.after dt).rejectSample := by
    rw [ofsWrite_sample d ((after_fld ..).trans hsrc), State.sample, after_fld]
    exact if_pos hd
  refine completes_of_after hr rfl ?_
  have heffects := rejectSample_effects (s.after dt)
  rw [after_rejects] at heffects
  rw [hgo]
  exact heffects

theorem slewEnd_completes {d : Nat} (hon : s.clp.on = true) (hd : s.slewLeft = some d) : Completes .slewEnd s fun t =>
    t.clp.slewRem = 0 ∧ t.clp.now = s.clp.now + d := by
  refine completes_of_exec (t := { s.advance d with clp := { (s.advance d).clp with slewRem := 0 } }) ?_ ⟨rfl, advance_now s d⟩
  rw [show exec .slewEnd s = execSlewEnd s from rfl, execSlewEnd, hon, hd]

theorem holdover_completes (hsteered : s.steered = true) (hsteer : s.fld F.CLP_STAT_STEER ≠ 2) : Completes .holdover s fun t =>
    t.fld F.CLP_STAT_STEER = 2 ∧ t.flag F.CLP_EVT_HOLDOVER = true ∧
      t.clp.now = max s.clp.now (s.clp.lastOk + max 1 (s.fld F.CLP_STEER_LIM_LOSS) * 100000000) + 1 := by
  have hexec : exec .holdover s = .next ((((s.advanceTo (s.clp.lastOk + max 1 (s.fld F.CLP_STEER_LIM_LOSS) * 100000000)).endCycle).setFld
      F.CLP_STAT_STEER 2).raise F.CLP_EVT_HOLDOVER) := by
    rw [show exec .holdover s = execHoldover s from rfl, execHoldover]
    exact if_pos ⟨hsteered, hsteer⟩
  refine completes_of_exec hexec ⟨?_, flag_raise_self _ _ _ (by decide) rfl, ?_⟩
  · rw [fld_raise_id _ _ _ _ (by decide)]
    exact fld_setFld_self _ _ _ _ _ (by decide)
  · rw [raise_clp, setFld_clp, State.endCycle, advance_now, advanceTo_now]

/-! ## PPS (R367, R368) -/

/-- PPS_IN's filter holds a level. -/
def State.ppsHold (s : State) (level : Bool) : State := { s with clp := { s.clp with ppsLevel := some level } }

theorem ppsHold_same {level : Bool} (h : s.clp.ppsLevel = some level) : s.ppsHold level = s := by
  rw [State.ppsHold, ← h]

/-- A level held for so long that the filter surely takes it, or surely does not. -/
theorem filtered_sure {held : Nat} (h : held ≤ 28 ∨ 37 ≤ held) : s.filtered 28 37 held = (decide (37 ≤ held), s) := by
  rw [State.filtered]
  by_cases hno : held ≤ 28
  · rw [if_pos hno, decide_eq_false (by omega)]
  · rw [if_neg hno, if_pos (by omega), decide_eq_true (by omega)]

theorem exec_ppsInEdge {held : Nat} (level : Bool) (h : held ≤ 28 ∨ 37 ≤ held) : exec (.ppsInEdge ⟨dt, level, held⟩) s =
    if 37 ≤ held ∧ s.clp.ppsLevel.getD (!level) ≠ level then
      .next ((((s.after dt).after 33).ppsHold level).ppsEdge level (s.after dt).fullNs)
    else .next ((s.after dt).ppsHold (s.clp.ppsLevel.getD (!level))) := by
  rw [show exec (.ppsInEdge ⟨dt, level, held⟩) s = execPpsInEdge ⟨dt, level, held⟩ s from rfl, execPpsInEdge]
  simp only [filtered_sure h, after_ppsLevel, decide_eq_true_eq]
  rfl

/-- The filter takes a level that it did not hold. -/
theorem exec_ppsInEdge_new {held : Nat} {level : Bool} (h : 37 ≤ held) (hlevel : s.clp.ppsLevel ≠ some level) :
    exec (.ppsInEdge ⟨dt, level, held⟩) s = .next ((((s.after dt).after 33).ppsHold level).ppsEdge level (s.after dt).fullNs) := by
  have hwas : s.clp.ppsLevel.getD (!level) ≠ level := by
    cases hl : s.clp.ppsLevel with
    | none => exact Bool.not_ne_self level
    | some b => exact fun e => hlevel (hl.trans (congrArg some e))
  rw [exec_ppsInEdge level (.inr h), if_pos ⟨h, hwas⟩]

/-- The filter keeps the level that it holds. -/
theorem exec_ppsInEdge_held {held : Nat} {level was : Bool} (h : held ≤ 28 ∨ 37 ≤ held) (hlevel : s.clp.ppsLevel = some was)
    (hstays : held ≤ 28 ∨ was = level) : exec (.ppsInEdge ⟨dt, level, held⟩) s = .next (s.after dt) := by
  have hno : ¬(37 ≤ held ∧ was ≠ level) := by
    rintro ⟨hlong, hne⟩
    rcases hstays with hshort | he
    · omega
    · exact hne he
  rw [exec_ppsInEdge level h, hlevel, Option.getD_some, if_neg hno, ppsHold_same ((after_ppsLevel s dt).trans hlevel)]

/-- The active edge is counted, and stamped with the draw of its reading. -/
theorem ppsEdge_active {on : Bool} {arrived : Nat} (hen : s.flag F.CLP_PPS_CTL_IN_EN = true) (hon : on = !s.flag F.CLP_PPS_CTL_IN_POL) :
    s.ppsEdge on arrived = { s.fresh.2.bump F.CLP_CNT_PPS_IN_COUNT with
      clp := { s.clp with ppsIn := some s.clp.now } }.ppsStamp
        ((arrived : Int) + s.sfld F.CLP_PPS_CTL_IN_ADJ + (s.fresh.1 % 11 : Nat) - 5).toNat := by
  rw [State.ppsEdge, if_pos ⟨hen, hon⟩]
  rfl

theorem ppsEdge_inactive {on : Bool} {arrived : Nat} (hon : on ≠ !s.flag F.CLP_PPS_CTL_IN_POL) : s.ppsEdge on arrived = s := by
  rw [State.ppsEdge]
  exact if_neg fun h => hon h.2

theorem ppsStamp_unsteered (t : Nat) (h : s.fld F.CLP_STEER_CTL_SRC ≠ 2) : s.ppsStamp t =
    (s.setFld F.CLP_PPS_TS_S_SEC (t / 10 ^ 9)).setFld F.CLP_PPS_TS_NS_NS (t % 10 ^ 9) := by
  have hsrc : ((s.setFld F.CLP_PPS_TS_S_SEC (t / 10 ^ 9)).setFld F.CLP_PPS_TS_NS_NS (t % 10 ^ 9)).fld F.CLP_STEER_CTL_SRC =
      s.fld F.CLP_STEER_CTL_SRC := by
    rw [fld_setFld_id _ _ _ _ _ _ (by decide), fld_setFld_id _ _ _ _ _ _ (by decide)]
  rw [State.ppsStamp, hsrc, beq_eq_false_iff_ne.mpr h, on_false]

theorem ppsStamp_effects (t : Nat) (h : s.fld F.CLP_STEER_CTL_SRC ≠ 2) : (s.ppsStamp t).clp = s.clp ∧
    (s.ppsStamp t).fld F.CLP_PPS_TS_NS_NS = t % 10 ^ 9 := by
  rw [ppsStamp_unsteered t h]
  exact ⟨rfl, (fld_setFld_self _ _ _ _ _ (by decide)).trans (Nat.mod_eq_of_lt ((Nat.mod_lt _ (by decide)).trans (by decide)))⟩

section Edge

variable {held : Nat} (hen : s.flag F.CLP_PPS_CTL_IN_EN = true) (hsrc : s.fld F.CLP_STEER_CTL_SRC ≠ 2) (hheld : 37 ≤ held)

include hen hsrc hheld in
theorem ppsInEdge_active (hlevel : s.clp.ppsLevel ≠ some !s.flag F.CLP_PPS_CTL_IN_POL) :
    Completes (.ppsInEdge ⟨dt, !s.flag F.CLP_PPS_CTL_IN_POL, held⟩) s fun t => t.clp.ppsIn = some t.clp.now ∧
      t.clp.now = s.clp.now + dt + 33 ∧ ∃ e : Int, -5 ≤ e ∧ e ≤ 5 ∧ t.fld F.CLP_PPS_TS_NS_NS =
        ((((s.after dt).fullNs : Int) + s.sfld F.CLP_PPS_CTL_IN_ADJ + e).toNat % 10 ^ 9) := by
  refine completes_of_exec (exec_ppsInEdge_new hheld hlevel) ?_
  generalize hu : ((s.after dt).after 33).ppsHold (!s.flag F.CLP_PPS_CTL_IN_POL) = u
  have hfld (f : Fld) : u.fld f = s.fld f := by
    rw [← hu]
    exact (after_fld (s.after dt) 33 f 0 0).trans (after_fld s dt f 0 0)
  have hflag (f : Fld) : u.flag f = s.flag f := by rw [State.flag, hfld, State.flag]
  have hnow : u.clp.now = s.clp.now + dt + 33 := by
    rw [← hu]
    exact (after_now (s.after dt) 33).trans (by rw [after_now])
  have hadj : u.sfld F.CLP_PPS_CTL_IN_ADJ = s.sfld F.CLP_PPS_CTL_IN_ADJ := by rw [State.sfld, hfld, State.sfld]
  rw [ppsEdge_active ((hflag _).trans hen) (by rw [hflag]), hadj]
  obtain ⟨hclp, hns⟩ := ppsStamp_effects (s := { u.fresh.2.bump F.CLP_CNT_PPS_IN_COUNT with clp := { u.clp with ppsIn := some u.clp.now } })
    (((s.after dt).fullNs : Int) + s.sfld F.CLP_PPS_CTL_IN_ADJ + (u.fresh.1 % 11 : Nat) - 5).toNat
    (by
      intro h
      refine hsrc ((hfld _).symm.trans (Eq.trans ?_ h))
      exact (fld_bump_id u.fresh.2 _ _ _ _ _ (by decide)).symm)
  have hdraw : u.fresh.1 % 11 < 11 := Nat.mod_lt _ (by decide)
  rw [hclp, hns]
  refine ⟨rfl, hnow, (u.fresh.1 % 11 : Nat) - 5, by omega, by omega, ?_⟩
  rw [add_sub_assoc]

include hheld in
theorem ppsInEdge_inactive (hlevel : s.clp.ppsLevel ≠ some !!s.flag F.CLP_PPS_CTL_IN_POL) :
    Completes (.ppsInEdge ⟨dt, !!s.flag F.CLP_PPS_CTL_IN_POL, held⟩) s fun t =>
      t = ((s.after dt).after 33).ppsHold !!s.flag F.CLP_PPS_CTL_IN_POL := by
  refine completes_of_exec (exec_ppsInEdge_new hheld hlevel) (ppsEdge_inactive ?_)
  have hpol : (((s.after dt).after 33).ppsHold !!s.flag F.CLP_PPS_CTL_IN_POL).flag F.CLP_PPS_CTL_IN_POL = s.flag F.CLP_PPS_CTL_IN_POL :=
    (after_flag (s.after dt) 33 _ 0 0).trans (after_flag s dt _ 0 0)
  rw [hpol]
  exact Bool.not_ne_self _

end Edge

theorem ppsMiss_completes {at_ : Nat} (h : s.clp.ppsIn = some at_) : Completes .ppsMiss s fun t =>
    t.clp.ppsIn = none ∧ t.flag F.CLP_EVT_PPS_MISS = true ∧ t.clp.now = max s.clp.now (at_ + 1001000000) := by
  have hexec : exec .ppsMiss s = .next ({ s.advanceTo (at_ + 1001000000) with
      clp := { (s.advanceTo (at_ + 1001000000)).clp with ppsIn := none } }.raise F.CLP_EVT_PPS_MISS) := by
    rw [show exec .ppsMiss s = execPpsMiss s from rfl, execPpsMiss, h]
  refine completes_of_exec hexec ⟨?_, flag_raise_self _ _ _ (by decide) rfl, ?_⟩
  · rw [raise_clp]
  · rw [raise_clp]
    exact advanceTo_now s _

theorem ppsOutAssert_completes (hen : s.flag F.CLP_PPS_CTL_OUT_EN = true) (hon : s.clp.on = true) (hout : s.clp.ppsOut = none) :
    Completes .ppsOutAssert s fun t => t.clp.ppsOut = some t.clp.now ∧
      t.clp.now = s.clp.now + s.nsUntilFull ((s.fullNs + 999999999) / 10 ^ 9 * 10 ^ 9) := by
  have hexec : exec .ppsOutAssert s =
      let u := s.advanceToFull ((s.fullNs + 999999999) / 10 ^ 9 * 10 ^ 9)
      .next { u with clp := { u.clp with ppsOut := some u.clp.now } } := by
    rw [show exec .ppsOutAssert s = execPpsOutAssert s from rfl, execPpsOutAssert]
    exact if_pos ⟨hen, hon, hout⟩
  exact completes_of_exec hexec ⟨rfl, advance_now s _⟩

theorem ppsOutRelease_completes {at_ : Nat} (h : s.clp.ppsOut = some at_) : Completes .ppsOutRelease s fun t =>
    t.clp.ppsOut = none ∧ t.clp.now = max s.clp.now (at_ + max 1 (s.fld F.CLP_PPS_CTL_OUT_WIDTH) * 100000) := by
  have hexec : exec .ppsOutRelease s =
      let u := s.advanceTo (at_ + max 1 (s.fld F.CLP_PPS_CTL_OUT_WIDTH) * 100000)
      .next { u with clp := { u.clp with ppsOut := none } } := by
    rw [show exec .ppsOutRelease s = execPpsOutRelease s from rfl, execPpsOutRelease, h]
  exact completes_of_exec hexec ⟨rfl, advanceTo_now s _⟩

/-- Settles O38. -/
theorem clepsydraCommands : Obligations.ClepsydraCommands := by
  unfold Obligations.ClepsydraCommands
  exact ⟨fun _ _ hon hk => cisternTrimCorrect_completes hon hk, fun _ _ hr => nowSRead_latches hr, fun _ _ hheld hns hr => set_completes hheld hns hr,
    fun _ _ h hr => set_refused h hr, fun _ _ hheld hlo hhi hr => step_completes hheld hlo hhi hr, fun _ _ hheld hr => step_refused hheld hr,
    fun _ q h => jumpTo_idle q h, fun _ _ hlo hhi hasn hr => arm_completes hlo hhi hasn hr, fun _ _ h hr => arm_refused h hr,
    fun _ _ hr => disarm_completes hr, fun _ harmed hasn => asnStart_completes harmed hasn, fun _ _ hr => masterChg_completes hr,
    fun _ _ hr => resetI_completes hr, fun _ _ _ hsrc hd hr => ofsSample_accepted hsrc hd hr,
    fun _ _ _ hsrc hd hr => ofsSample_rejected hsrc hd hr, fun _ _ hon hd => slewEnd_completes hon hd,
    fun _ hsteered hsteer => holdover_completes hsteered hsteer,
    fun _ _ hen hsrc => ⟨fun _ hheld hlevel => ppsInEdge_active hen hsrc hheld hlevel, fun _ hheld hlevel => ppsInEdge_inactive hheld hlevel,
      fun _ _ hheld hlevel => completes_of_exec (exec_ppsInEdge_held hheld hlevel (.inr rfl)) rfl,
      fun _ _ hheld hlevel => completes_of_exec (exec_ppsInEdge_held (.inl hheld) hlevel (.inl hheld)) rfl⟩,
    fun _ _ h => ppsMiss_completes h, fun _ hen hon hout => ppsOutAssert_completes hen hon hout, fun _ _ h => ppsOutRelease_completes h⟩

end Sys2Proof.Machine
end

section
/-! PROOFS. `Obligations.EthernetCommands`: the Ethernet ports (R383–R387). -/

namespace Sys2Proof.Machine

variable {s : State} {dt p : Nat}

/-! ## Ports -/

@[simp] theorem ethPort_setEthPort (s : State) (p : Nat) (v : EthPort) : (s.setEthPort p v).ethPort p = v := SMap.getD_put_self ..

theorem ethPort_of_eth {s t : State} (h : t.eth = s.eth) (p : Nat) : t.ethPort p = s.ethPort p := by rw [State.ethPort, h, State.ethPort]

theorem after_ethPort (s : State) (dt p : Nat) : (s.after dt).ethPort p = s.ethPort p := ethPort_of_eth (after_eth s dt) p

theorem after_ethUp (s : State) (dt p : Nat) : (s.after dt).ethUp p = s.ethUp p := after_flag ..

theorem ethStart_port (s : State) (p : Nat) (x : EthTx) : ((s.ethStart p x).ethPort p).tx = some x ∧
    (s.ethStart p x).flag F.ETH_STAT_TX_BUSY p = true := by
  refine ⟨?_, flag_setFld_one _ _ _ _ (by decide) rfl⟩
  rw [State.ethStart, ethPort_of_eth (setFld_eth ..), ethPort_setEthPort]

theorem ethIdle_port (s : State) (p : Nat) : ((s.ethIdle p).ethPort p).tx = none ∧ (s.ethIdle p).flag F.ETH_STAT_TX_BUSY p = false := by
  refine ⟨?_, flag_setFld_zero _ _ _ _ (by decide) rfl⟩
  rw [State.ethIdle, ethPort_of_eth (setFld_eth ..), ethPort_setEthPort]

theorem ethIdle_sent (s : State) (p : Nat) : (s.ethIdle p).eth.sent = s.eth.sent := rfl

theorem ethIdle_flag (s : State) (p : Nat) {f : Fld} (i : Nat) (h : f.reg ≠ .ETH_STAT) : (s.ethIdle p).flag f i = s.flag f i :=
  flag_setFld_id _ _ _ _ _ _ h

/-! ## ETH_CTL (R383, R387) -/

/-- EN is bit 0 of ETH_CTL. -/
theorem ethCtl_en (s : State) (p : Nat) : (s.reg .ETH_CTL p 0).getLsbD 0 = s.flag F.ETH_CTL_EN p := (flag_bit s .ETH_CTL p 0 0).symm

theorem ethCtlWrite_of_off (d : Word) (h : s.flag F.ETH_CTL_EN p = false) : s.ethCtlWrite p d =
    (s.setReg .ETH_CTL p 0 (d &&& 0xFFFFFF)).on (d.getLsbD 0) fun u => u.setEthPort p { u.ethPort p with used := true } := by
  have hnew : (d &&& 0xFFFFFF).getLsbD 0 = d.getLsbD 0 := by rw [BitVec.getLsbD_and, show (0xFFFFFF : Word).getLsbD 0 = true from rfl, Bool.and_true]
  rw [State.ethCtlWrite]
  simp only [ethCtl_en, h, hnew]
  rfl

theorem exec_ethEnable (d : Word) (hp : p < 4) : exec (.ethEnable p d) s = .next (s.powered fun s => s.ethCtlWrite p d) := by
  rw [show exec (.ethEnable p d) s = execEthEnable p d s from rfl, execEthEnable, Nat.mod_eq_of_lt hp]

theorem ethEnable_takes (d : Word) (hp : p < 4) (hen : s.flag F.ETH_CTL_EN p = false) (hr : s.released = true) :
    Completes (.ethEnable p d) s fun t => t.reg .ETH_CTL p 0 = d &&& 0xFFFFFF ∧ (t.ethPort p).used = (d.getLsbD 0 || (s.ethPort p).used) := by
  refine completes_of_powered (f := fun s => s.ethCtlWrite p d) hr (exec_ethEnable d hp) ?_
  rw [ethCtlWrite_of_off d hen]
  cases d.getLsbD 0
  · exact ⟨reg_setReg_self .., rfl⟩
  · rw [on_true]
    exact ⟨reg_setReg_self .., by rw [ethPort_setEthPort, Bool.true_or]⟩

/-- The write that clears EN, up to the fall of the link. -/
def State.ethCleared (s : State) (p : Nat) (d : Word) : State :=
  (s.setReg .ETH_CTL p 0 ((s.reg .ETH_CTL p 0 &&& 0xFFFFFE) ||| (d &&& 0xFFFFFF &&& 1))).on
    (decide ((s.reg .ETH_CTL p 0 &&& 0xFFFFFE) ≠ (d &&& 0xFFFFFF &&& 0xFFFFFE))) fun s => s.raise F.ETH_EVT_CFG_IGNORED p

theorem ethCleared_en (s : State) (p : Nat) {d : Word} (hd : d.getLsbD 0 = false) : (s.ethCleared p d).flag F.ETH_CTL_EN p = false := by
  have hbit : (s.setReg .ETH_CTL p 0 ((s.reg .ETH_CTL p 0 &&& 0xFFFFFE) ||| (d &&& 0xFFFFFF &&& 1))).flag F.ETH_CTL_EN p = false := by
    rw [← ethCtl_en, reg_setReg_self, BitVec.getLsbD_or, BitVec.getLsbD_and, BitVec.getLsbD_and, BitVec.getLsbD_and, hd,
      show (0xFFFFFE : Word).getLsbD 0 = false from rfl, Bool.and_false, Bool.false_and, Bool.false_and, Bool.or_false]
  exact on_keeps (P := fun u : State => u.flag F.ETH_CTL_EN p = false) _ hbit ((flag_raise_id _ _ _ _ (by decide)).trans hbit)

theorem ethCleared_up (s : State) (p : Nat) (d : Word) : (s.ethCleared p d).ethUp p = s.ethUp p := by
  have hup : (s.setReg .ETH_CTL p 0 ((s.reg .ETH_CTL p 0 &&& 0xFFFFFE) ||| (d &&& 0xFFFFFF &&& 1))).ethUp p = s.ethUp p :=
    flag_setReg_id _ _ _ _ _ _ (by decide)
  exact on_keeps (P := fun u : State => u.ethUp p = s.ethUp p) _ hup ((flag_raise_id _ _ _ _ (by decide)).trans hup)

theorem ethCtlWrite_of_cleared {d : Word} (hen : s.flag F.ETH_CTL_EN p = true) (hd : d.getLsbD 0 = false) :
    s.ethCtlWrite p d = (s.ethCleared p d).fresh.2.ethLinkLost p ((s.ethCleared p d).fresh.1.testBit 0) := by
  have hnew : (d &&& 0xFFFFFF).getLsbD 0 = false := by rw [BitVec.getLsbD_and, hd, Bool.false_and]
  rw [State.ethCtlWrite]
  simp only [ethCtl_en, hen, hnew, Bool.not_true, Bool.false_eq_true, if_false, on_false, Bool.not_false, Bool.and_self, on_true]
  rfl

theorem ethEnable_clears {d : Word} (hp : p < 4) (hen : s.flag F.ETH_CTL_EN p = true) (hd : d.getLsbD 0 = false) (hr : s.released = true) :
    Completes (.ethEnable p d) s fun t => ∃ (v : State) (cut : Bool), v.flag F.ETH_CTL_EN p = false ∧ v.ethUp p = s.ethUp p ∧
      t = v.ethLinkLost p cut := by
  refine completes_of_powered (f := fun s => s.ethCtlWrite p d) hr (exec_ethEnable d hp) ?_
  have hfresh (f : Fld) : (s.ethCleared p d).fresh.2.flag f p = (s.ethCleared p d).flag f p := flag_of_reg (fresh_reg ..)
  exact ⟨(s.ethCleared p d).fresh.2, (s.ethCleared p d).fresh.1.testBit 0, (hfresh _).trans (ethCleared_en s p hd),
    (hfresh _).trans (ethCleared_up s p d), ethCtlWrite_of_cleared hen hd⟩

/-! ## Reception (R384) -/

theorem ethRxFrame_up (len : Nat) (bs : List Byte) (hp : p < 4) (hup : s.ethUp p = true) (hpoint : s.pointOn p = false) :
    Completes (.ethRxFrame dt p len bs) s fun t => t = ((s.after dt).advance len).ethCheck p
      (((s.after dt).advance len).fullOfPast (s.after dt).service)
      ⟨bs, (s.after dt).service, if (s.after dt).asnValid then (s.after dt).asn else noAsn⟩ := by
  have hoff : ((s.after dt).advance len).pointOn p = false := ((after_pointOn _ len p).trans (after_pointOn s dt p)).trans hpoint
  refine completes_of_exec (t := _) ?_ rfl
  rw [show exec (.ethRxFrame dt p len bs) s = execEthRxFrame dt p len bs s from rfl, execEthRxFrame, Nat.mod_eq_of_lt hp]
  dsimp only
  rw [after_ethUp, hup, if_pos rfl, eddyAt_off hoff]
  rfl

theorem ethRxFrame_down (len : Nat) (bs : List Byte) (hp : p < 4) (hup : s.ethUp p = false) :
    Completes (.ethRxFrame dt p len bs) s fun t => t = s.after dt := by
  refine completes_of_exec ?_ rfl
  rw [show exec (.ethRxFrame dt p len bs) s = execEthRxFrame dt p len bs s from rfl, execEthRxFrame, Nat.mod_eq_of_lt hp]
  dsimp only
  rw [after_ethUp, hup, if_neg Bool.false_ne_true]

theorem ethCheck_badFcs {x : Nat} {f : Passing} (h : f.bytes.length < 4 ∨
    ethFcs (f.bytes.take (f.bytes.length - 4)) ≠ f.bytes.drop (f.bytes.length - 4)) : s.ethCheck p x f = s.bump F.ETH_CNT_RX_FCS_COUNT 1 p := by
  rw [State.ethCheck]
  exact if_pos h

/-! ## Egress (R376, R386, R387) -/

section TxRecord

/-- A port that may take its next record or relay copy still may after a while. -/
theorem ethTx_free (hused : s.flag F.ETH_CTL_EN p = true ∨ (s.ethPort p).used = true) (htx : (s.ethPort p).tx = none)
    (hmem : s.memReady 0 = true) : ((s.after dt).flag F.ETH_CTL_EN p = true ∨ ((s.after dt).ethPort p).used = true) ∧
      ((s.after dt).ethPort p).tx = none ∧ (s.after dt).memReady 0 = true := by
  rw [after_flag, after_ethPort, after_memReady]
  exact ⟨hused, htx, hmem⟩

theorem ethTxRecord_pops (hp : p < 4) (hused : s.flag F.ETH_CTL_EN p = true ∨ (s.ethPort p).used = true) (htx : (s.ethPort p).tx = none)
    (hrelay : (s.ethPort p).relay = []) (hmem : s.memReady 0 = true) : Completes (.ethTxRecord dt p) s fun t => t = (s.after dt).ethPop p := by
  refine completes_of_exec ?_ rfl
  rw [show exec (.ethTxRecord dt p) s = execEthTxRecord dt p s from rfl, execEthTxRecord, Nat.mod_eq_of_lt hp]
  dsimp only
  rw [if_pos (ethTx_free hused htx hmem), after_ethPort, hrelay]

theorem ethTxRecord_relays {r : EthRelay} {rest : List EthRelay} (hp : p < 4)
    (hused : s.flag F.ETH_CTL_EN p = true ∨ (s.ethPort p).used = true) (htx : (s.ethPort p).tx = none)
    (hrelay : (s.ethPort p).relay = r :: rest) (hmem : s.memReady 0 = true) : Completes (.ethTxRecord dt p) s fun t =>
      t.flag F.ETH_STAT_TX_BUSY p = true ∧ ∃ x, (t.ethPort p).tx = some x ∧ x.desc = none ∧ x.bad = false := by
  have hexec : exec (.ethTxRecord dt p) s =
      let w := ((s.after dt).setEthPort p { s.ethPort p with relay := rest }).relayCopy r
      .next (w.2.ethStart p ⟨w.1, w.2.service, none, false⟩) := by
    rw [show exec (.ethTxRecord dt p) s = execEthTxRecord dt p s from rfl, execEthTxRecord, Nat.mod_eq_of_lt hp]
    dsimp only
    rw [if_pos (ethTx_free hused htx hmem), after_ethPort, hrelay]
  obtain ⟨htx', hbusy⟩ := ethStart_port (((s.after dt).setEthPort p { s.ethPort p with relay := rest }).relayCopy r).2 p
    ⟨(((s.after dt).setEthPort p { s.ethPort p with relay := rest }).relayCopy r).1, _, none, false⟩
  exact completes_of_exec hexec ⟨hbusy, _, htx', rfl, rfl⟩

theorem ethTxRecord_waits (hmem : s.memReady 0 = false) : Completes (.ethTxRecord dt p) s fun t => t = s.after dt := by
  refine completes_of_exec ?_ rfl
  rw [show exec (.ethTxRecord dt p) s = execEthTxRecord dt p s from rfl, execEthTxRecord]
  refine if_neg fun h => ?_
  obtain ⟨-, -, hready⟩ := h
  rw [after_memReady, hmem] at hready
  exact Bool.false_ne_true hready

end TxRecord

/-- A frame passes a transmit point that is off as it is. -/
theorem ethEmit_off (h : s.pointOn (4 + p) = false) (bs : List Byte) :
    s.ethEmit p bs = { s with eth := { s.eth with sent := s.eth.sent ++ [(p, bs)] } } := by
  rw [State.ethEmit, eddyAt_off h]
  rfl

section TxDone

/-- The port has sent the last byte of a frame, and counts it. -/
def State.ethSent (s : State) (dt p : Nat) (x : EthTx) : State :=
  (((s.after dt).ethIdle p).ethEmit p (ethWire x.bytes x.bad)).on (!x.bad && !((s.after dt).ethIdle p).eddyDrops (4 + p)) fun s =>
    s.bump F.ETH_CNT_TX_OK_COUNT 1 p

theorem ethSent_port (x : EthTx) (hpoint : s.pointOn (4 + p) = false) : ((s.ethSent dt p x).ethPort p).tx = none ∧
    (s.ethSent dt p x).flag F.ETH_STAT_TX_BUSY p = false ∧ (s.ethSent dt p x).eth.sent = s.eth.sent ++ [(p, ethWire x.bytes x.bad)] := by
  obtain ⟨htx, hbusy⟩ := ethIdle_port (s.after dt) p
  have hoff : ((s.after dt).ethIdle p).pointOn (4 + p) = false :=
    ((pointOn_of_reg (ethIdle_flag _ p _ (by decide)) (ethIdle_flag _ p _ (by decide))).trans (after_pointOn s dt _)).trans hpoint
  have hemit := ethEmit_off hoff (ethWire x.bytes x.bad)
  have heth : (s.ethSent dt p x).eth = (((s.after dt).ethIdle p).ethEmit p (ethWire x.bytes x.bad)).eth :=
    on_component (c := State.eth) _ _ (bump_eth ..)
  refine ⟨?_, ?_, ?_⟩
  · rw [ethPort_of_eth heth, hemit]
    exact htx
  · refine on_keeps (P := fun u : State => u.flag F.ETH_STAT_TX_BUSY p = false) _ ?_ ?_
    · rw [hemit]
      exact hbusy
    · rw [flag_bump_id _ _ _ _ _ _ (by decide), hemit]
      exact hbusy
  · rw [heth, hemit, ethIdle_sent, after_eth]

theorem exec_ethTxDone_relay {x : EthTx} (hp : p < 4) (htx : (s.ethPort p).tx = some x) (hdesc : x.desc = none) :
    exec (.ethTxDone dt p) s = .next (s.ethSent dt p x) := by
  rw [show exec (.ethTxDone dt p) s = execEthTxDone dt p s from rfl, execEthTxDone, Nat.mod_eq_of_lt hp]
  simp only [htx, hdesc, State.ethSent]

theorem exec_ethTxDone_record {w0 : Nat} {cookie : Word} {x : EthTx} (hp : p < 4) (htx : (s.ethPort p).tx = some x)
    (hdesc : x.desc = some (w0, cookie)) : exec (.ethTxDone dt p) s =
      .next ((s.ethSent dt p x).ethDone p w0 cookie (if x.bad then .poisoned else .ok) x.at_ true) := by
  rw [show exec (.ethTxDone dt p) s = execEthTxDone dt p s from rfl, execEthTxDone, Nat.mod_eq_of_lt hp]
  simp only [htx, hdesc, State.ethSent]

theorem ethTxDone_relay {x : EthTx} (hp : p < 4) (htx : (s.ethPort p).tx = some x) (hdesc : x.desc = none)
    (hpoint : s.pointOn (4 + p) = false) : Completes (.ethTxDone dt p) s fun t => (t.ethPort p).tx = none ∧
      t.flag F.ETH_STAT_TX_BUSY p = false ∧ t.eth.sent = s.eth.sent ++ [(p, ethWire x.bytes x.bad)] := by
  exact completes_of_exec (exec_ethTxDone_relay hp htx hdesc) (ethSent_port (dt := dt) x hpoint)

theorem ethTxDone_record {w0 : Nat} {cookie : Word} {x : EthTx} (hp : p < 4) (htx : (s.ethPort p).tx = some x)
    (hdesc : x.desc = some (w0, cookie)) (hpoint : s.pointOn (4 + p) = false) : Completes (.ethTxDone dt p) s fun t => ∃ v : State,
      (v.ethPort p).tx = none ∧ v.flag F.ETH_STAT_TX_BUSY p = false ∧ v.eth.sent = s.eth.sent ++ [(p, ethWire x.bytes x.bad)] ∧
        t = v.ethDone p w0 cookie (if x.bad then .poisoned else .ok) x.at_ true := by
  obtain ⟨hnone, hbusy, hsent⟩ := ethSent_port (dt := dt) x hpoint
  exact completes_of_exec (exec_ethTxDone_record hp htx hdesc) ⟨_, hnone, hbusy, hsent, rfl⟩

end TxDone

/-! ## The link (R387) -/

theorem ethLinkUp_completes (hp : p < 4) (hen : s.flag F.ETH_CTL_EN p = true) (hup : s.ethUp p = false) : Completes (.ethLinkUp dt p) s fun t =>
    t.ethUp p = true ∧ t.flag F.ETH_STAT_BLOCK_LOCK p = true ∧
      t.flag F.ETH_STAT_FEC_LOCK p = decide (s.fld F.ETH_CTL_FEC p = 1 ∨ s.fld F.ETH_CTL_FEC p = 2) ∧ t.flag F.ETH_EVT_LINK_UP p = true := by
  have hgo : (s.after dt).flag F.ETH_CTL_EN p = true ∧ (s.after dt).ethUp p = false := by
    rw [after_flag, after_ethUp]
    exact ⟨hen, hup⟩
  refine completes_of_exec (t := (((((s.after dt).setFld F.ETH_STAT_LINK 1 p).setFld F.ETH_STAT_BLOCK_LOCK 1 p).setFld F.ETH_STAT_FEC_LOCK
    (if s.fld F.ETH_CTL_FEC p = 1 ∨ s.fld F.ETH_CTL_FEC p = 2 then 1 else 0) p).raise F.ETH_EVT_LINK_UP p)) ?_
    ⟨?_, ?_, ?_, flag_raise_self _ _ _ (by decide) rfl⟩
  · rw [show exec (.ethLinkUp dt p) s = execEthLinkUp dt p s from rfl, execEthLinkUp, Nat.mod_eq_of_lt hp]
    dsimp only
    rw [if_pos hgo, after_fld]
  · rw [State.ethUp, flag_raise_id _ _ _ _ (by decide), flag_setFld_disjoint _ _ _ _ _ _ (by decide) (by decide),
      flag_setFld_disjoint _ _ _ _ _ _ (by decide) (by decide)]
    exact flag_setFld_one _ _ _ _ (by decide) rfl
  · rw [flag_raise_id _ _ _ _ (by decide), flag_setFld_disjoint _ _ _ _ _ _ (by decide) (by decide)]
    exact flag_setFld_one _ _ _ _ (by decide) rfl
  · rw [flag_raise_id _ _ _ _ (by decide)]
    by_cases hfec : s.fld F.ETH_CTL_FEC p = 1 ∨ s.fld F.ETH_CTL_FEC p = 2
    · rw [if_pos hfec, decide_eq_true hfec]
      exact flag_setFld_one _ _ _ _ (by decide) rfl
    · rw [if_neg hfec, decide_eq_false hfec]
      exact flag_setFld_zero _ _ _ _ (by decide) rfl

/-- What a completion of a port leaves of the registers. -/
theorem ethDone_reg (s : State) (p w0 : Nat) (cookie : Word) {st : Status} (ts : Nat) (frees : Bool) (hst : st ≠ .internal) {id : RegId}
    (i j : Nat) (hw : id ∉ slotWorkRegs) (hp : id ∉ pushRegs) (hd : id ≠ .ETH_CNT_TX_DROP) :
    (s.ethDone p w0 cookie st ts frees).reg id i j = s.reg id i j := by
  have hfree : (s.on (frees && !w0.testBit 2) fun s => s.freeChain (bits w0 32 16)).reg id i j = s.reg id i j :=
    on_keeps (P := fun u : State => u.reg id i j = s.reg id i j) _ rfl (freeChain_reg s _ i j hw hp)
  simp only [State.ethDone, State.egressDone, decide_eq_false hst, on_false]
  refine Eq.trans ?_ hfree
  generalize (s.on (frees && !w0.testBit 2) fun s => s.freeChain (bits w0 32 16)) = u
  have hdrop : (u.on (decide (st ≠ .ok)) fun s => s.bump F.ETH_CNT_TX_DROP_COUNT 1 p).reg id i j = u.reg id i j :=
    on_keeps (P := fun v : State => v.reg id i j = u.reg id i j) _ rfl (reg_bump_id _ _ _ _ _ _ hd)
  split
  · exact (enginePush_reg _ _ _ _ i j hw hp).trans hdrop
  · exact hdrop

/-- What the cut of a frame leaves of the registers. -/
theorem ethCut_reg (s : State) (p : Nat) {id : RegId} (i j : Nat) (hw : id ∉ slotWorkRegs) (hp : id ∉ pushRegs)
    (hd : id ∉ [RegId.ETH_CNT_TX_DROP, .ETH_STAT, .OBS_CNT_EDDY]) : (s.ethCut p).reg id i j = s.reg id i j := by
  obtain ⟨hdrop, hstat, heddy⟩ : id ≠ .ETH_CNT_TX_DROP ∧ id ≠ .ETH_STAT ∧ id ≠ .OBS_CNT_EDDY := by simpa using hd
  have hemit (bs : List Byte) : ((s.fresh.2.ethIdle p).ethEmit p bs).reg id i j = s.reg id i j :=
    (eddyAt_reg (s.fresh.2.ethIdle p) (4 + p) ethFix _ i j heddy).trans (reg_setFld_id _ _ _ _ _ _ hstat)
  rw [State.ethCut]
  split
  · dsimp only
    split
    · exact (ethDone_reg _ _ _ _ _ _ (by decide) i j hw hp hdrop).trans (hemit _)
    · exact hemit _
  · rfl

/-- The cut of the frame under transmission, and what Eddy holds discarded. -/
def State.ethFallen (s : State) (p : Nat) : State := (((s.ethCut p).unhold p).2.unhold (4 + p)).2

theorem ethFallen_reg (s : State) (p : Nat) {id : RegId} (i j : Nat) (hw : id ∉ slotWorkRegs) (hp : id ∉ pushRegs)
    (hd : id ∉ [RegId.ETH_CNT_TX_DROP, .ETH_STAT, .OBS_CNT_EDDY]) : (s.ethFallen p).reg id i j = s.reg id i j :=
  (reg_congr ((unhold_regs _ _).trans (unhold_regs _ _)) id i j).trans (ethCut_reg s p i j hw hp hd)

theorem ethLinkFall_of_up (h : s.ethUp p = true) : s.ethLinkFall p =
    (((s.ethFallen p).setEthPort p { (s.ethFallen p).ethPort p with relay := [] }).setReg .ETH_STAT p 0 0).raise F.ETH_EVT_LINK_DOWN p := by
  rw [State.ethLinkFall, h]
  rfl

theorem ethLinkFall_of_down (h : s.ethUp p = false) : s.ethLinkFall p = s := by
  rw [State.ethLinkFall, h]
  rfl

theorem ethLinkFall_falls (h : s.ethUp p = true) : (s.ethLinkFall p).ethUp p = false ∧ (s.ethLinkFall p).flag F.ETH_EVT_LINK_DOWN p = true ∧
    ((s.ethLinkFall p).ethPort p).relay = [] ∧ (s.ethLinkFall p).fld F.ETH_CNT_RX_FCS_COUNT p = s.fld F.ETH_CNT_RX_FCS_COUNT p := by
  rw [ethLinkFall_of_up h]
  refine ⟨?_, flag_raise_self _ _ _ (by decide) rfl, ?_, ?_⟩
  · rw [State.ethUp, flag_raise_id _ _ _ _ (by decide), State.flag, show RegId.ETH_STAT = F.ETH_STAT_LINK.reg from rfl, fld_setReg_self]
    decide
  · rw [ethPort_of_eth (raise_eth ..), ethPort_of_eth (setReg_eth ..), ethPort_setEthPort]
  · rw [fld_raise_id _ _ _ _ (by decide), fld_setReg_id _ _ _ _ _ _ (by decide)]
    exact fld_of_reg (ethFallen_reg s p p 0 (by decide) (by decide) (by decide))

theorem ethLinkLost_of_down (cut : Bool) (h : s.ethUp p = false) : s.ethLinkLost p cut = s := by
  rw [State.ethLinkLost, h, Bool.and_false, on_false, ethLinkFall_of_down h]

theorem ethLinkLost_falls (cut : Bool) (h : s.ethUp p = true) : (s.ethLinkLost p cut).ethUp p = false ∧
    (s.ethLinkLost p cut).flag F.ETH_EVT_LINK_DOWN p = true ∧ ((s.ethLinkLost p cut).ethPort p).relay = [] ∧
      (cut = true → (s.ethLinkLost p cut).fld F.ETH_CNT_RX_FCS_COUNT p = min 0xFFFFFFFF (s.fld F.ETH_CNT_RX_FCS_COUNT p + 1)) := by
  rw [State.ethLinkLost, h, Bool.and_true]
  cases cut
  · obtain ⟨hup, hevt, hrelay, -⟩ := ethLinkFall_falls h
    exact ⟨hup, hevt, hrelay, fun e => absurd e Bool.false_ne_true⟩
  · have hbump : (s.bump F.ETH_CNT_RX_FCS_COUNT 1 p).ethUp p = true := (flag_bump_id _ _ _ _ _ _ (by decide)).trans h
    obtain ⟨hup, hevt, hrelay, hcnt⟩ := ethLinkFall_falls hbump
    exact ⟨hup, hevt, hrelay, fun _ => hcnt.trans (fld_bump_32 s 1 p 0 rfl rfl)⟩

theorem exec_ethLinkDown (cut : Bool) (hp : p < 4) : exec (.ethLinkDown dt p cut) s = .next ((s.after dt).ethLinkLost p cut) := by
  rw [show exec (.ethLinkDown dt p cut) s = execEthLinkDown dt p cut s from rfl, execEthLinkDown, Nat.mod_eq_of_lt hp]

theorem ethLinkDown_falls (cut : Bool) (hp : p < 4) (hup : s.ethUp p = true) : Completes (.ethLinkDown dt p cut) s fun t =>
    t.ethUp p = false ∧ t.flag F.ETH_EVT_LINK_DOWN p = true ∧ (t.ethPort p).relay = [] ∧
      (cut = true → t.fld F.ETH_CNT_RX_FCS_COUNT p = min 0xFFFFFFFF (s.fld F.ETH_CNT_RX_FCS_COUNT p + 1)) := by
  obtain ⟨hdown, hevt, hrelay, hcnt⟩ := ethLinkLost_falls cut ((after_ethUp s dt p).trans hup)
  exact completes_of_exec (exec_ethLinkDown cut hp) ⟨hdown, hevt, hrelay, fun h => (hcnt h).trans (by rw [after_fld])⟩

theorem ethLinkDown_idle (cut : Bool) (hp : p < 4) (hup : s.ethUp p = false) : Completes (.ethLinkDown dt p cut) s fun t => t = s.after dt :=
  completes_of_exec (exec_ethLinkDown cut hp) (ethLinkLost_of_down cut ((after_ethUp s dt p).trans hup))

/-- Settles O39. -/
theorem ethernetCommands : Obligations.EthernetCommands := by
  unfold Obligations.EthernetCommands
  exact ⟨fun _ _ d hp hen hr => ethEnable_takes d hp hen hr, fun _ _ _ hp hen hd hr => ethEnable_clears hp hen hd hr,
    fun _ _ _ len bs hp hup hpoint => ethRxFrame_up len bs hp hup hpoint, fun _ _ _ len bs hp hup => ethRxFrame_down len bs hp hup,
    fun _ _ _ _ h => ethCheck_badFcs h, fun _ _ _ hp hused htx hrelay hmem => ethTxRecord_pops hp hused htx hrelay hmem,
    fun _ _ _ hmem => ethTxRecord_waits hmem, fun _ _ _ _ _ hp hused htx hrelay hmem => ethTxRecord_relays hp hused htx hrelay hmem,
    fun _ _ _ _ hp htx hdesc hpoint => ethTxDone_relay hp htx hdesc hpoint,
    fun _ _ _ _ _ _ hp htx hdesc hpoint => ethTxDone_record hp htx hdesc hpoint, fun _ _ _ hp hen hup => ethLinkUp_completes hp hen hup,
    fun _ _ _ cut hp hup => ethLinkDown_falls cut hp hup, fun _ _ _ cut hp hup => ethLinkDown_idle cut hp hup⟩

end Sys2Proof.Machine
end

section
/-! PROOFS. The Still and the operating hours (R500–R504, R512). -/

namespace Sys2Proof.Machine

variable {s : State}

/-! ## Requests and releases (R500, R503, R504) -/

/-- A Still that is pending already, or that nothing forbids, is pending after a request. -/
theorem stillTake_asked (hheld : s.flag F.OBS_STAT_STILL_HELD = false)
    (h : s.flag F.OBS_STAT_STILL_PENDING = true ∨ s.pwr.phase ≠ .failing) :
    s.stillTake.flag F.OBS_STAT_STILL_PENDING = true ∧ s.stillTake.flag F.OBS_STAT_STILL_HELD = false := by
  rw [State.stillTake, hheld, if_neg Bool.false_ne_true]
  cases hpend : s.flag F.OBS_STAT_STILL_PENDING with
  | true =>
    rw [Bool.true_or, if_pos rfl]
    exact ⟨hpend, hheld⟩
  | false =>
    have hphase : s.pwr.phase ≠ .failing := h.resolve_left fun e => Bool.false_ne_true (hpend.symm.trans e)
    rw [beq_eq_false_iff_ne.mpr hphase, Bool.or_false, if_neg Bool.false_ne_true]
    exact ⟨flag_setFld_one _ _ _ _ (by decide) rfl, (flag_setFld_disjoint _ _ _ _ _ _ (by decide) (by decide)).trans hheld⟩

/-- A request while a Still is held is refused. -/
theorem stillTake_refused (hheld : s.flag F.OBS_STAT_STILL_HELD = true) :
    (∀ f : Fld, f.reg ≠ .OBS_EVT → s.stillTake.flag f = s.flag f) ∧ s.stillTake.flag F.OBS_EVT_STILL_REFUSED = true := by
  rw [State.stillTake, hheld, if_pos rfl]
  exact ⟨fun f hf => flag_raise_id _ _ _ _ hf, flag_raise_self _ _ _ (by decide) rfl⟩

/-- The flags of OBS_STAT that a request leaves alone when the request is not what they say. -/
theorem stillTake_event {f : Fld} (hheld : s.flag F.OBS_STAT_STILL_HELD = false) (hf : f.reg ≠ .OBS_STAT) : s.stillTake.flag f = s.flag f := by
  rw [State.stillTake, hheld, if_neg Bool.false_ne_true]
  split
  · rfl
  · exact flag_setFld_id _ _ _ _ _ _ hf

/-- HELD cleared and no refusal remembered. -/
def State.stillFreed (s : State) : State := { s with obs := { s.obs with refused := none } }.setFld F.OBS_STAT_STILL_HELD 0

theorem stillFreed_held (s : State) : s.stillFreed.flag F.OBS_STAT_STILL_HELD = false := flag_setFld_zero _ _ _ _ (by decide) rfl

theorem stillFreed_pending (s : State) : s.stillFreed.flag F.OBS_STAT_STILL_PENDING = s.flag F.OBS_STAT_STILL_PENDING :=
  flag_setFld_disjoint { s with obs := { s.obs with refused := none } } _ _ _ _ _ (by decide) (by decide)

/-- HELD cleared, and a refusal of the same cycle taken back. -/
def State.stillUnrefused (s : State) (was : Bool) : State := if was then s.stillFreed else s.stillFreed.retract F.OBS_EVT_STILL_REFUSED

theorem retract_pwr (s : State) (f : Fld) (i : Nat) : (s.retract f i).pwr = s.pwr := by
  unfold State.retract
  dsimp only
  split <;> rfl

theorem flag_retract_id (s : State) {f g : Fld} (i i' j' : Nat) (h : g.reg ≠ f.reg) : (s.retract f i).flag g i' j' = s.flag g i' j' :=
  flag_of_reg (retract_reg s i i' j' h)

theorem flag_retract_self (s : State) (f : Fld) (i : Nat) (h : f.lo + f.w ≤ 64) (hw : f.w = 1) : (s.retract f i).flag f i = false := by
  unfold State.retract
  dsimp only
  split <;> exact flag_setFld_zero _ _ _ _ h hw

theorem stillUnrefused_stat (s : State) (was : Bool) : (s.stillUnrefused was).flag F.OBS_STAT_STILL_HELD = false ∧
    (s.stillUnrefused was).flag F.OBS_STAT_STILL_PENDING = s.flag F.OBS_STAT_STILL_PENDING ∧ (s.stillUnrefused was).pwr = s.pwr := by
  cases was
  · exact ⟨(flag_retract_id _ _ _ _ (by decide)).trans (stillFreed_held s), (flag_retract_id _ _ _ _ (by decide)).trans (stillFreed_pending s),
      retract_pwr _ _ _⟩
  · exact ⟨stillFreed_held s, stillFreed_pending s, rfl⟩

theorem stillRelease_plain (h : ∀ p, s.obs.refused = some p → p.1 ≠ s.cycle) : s.stillRelease = s.stillFreed := by
  rw [State.stillRelease]
  cases hr : s.obs.refused with
  | none => rfl
  | some p =>
    obtain ⟨c, was⟩ := p
    exact if_neg (h _ hr)

theorem stillRelease_refused {was : Bool} (h : s.obs.refused = some (s.cycle, was)) : s.stillRelease = (s.stillUnrefused was).stillTake := by
  rw [State.stillRelease, h]
  exact if_pos rfl

/-- After a release nothing is held, and a request that its cycle refused may be pending. -/
theorem stillRelease_stat (hphase : s.pwr.phase ≠ .failing) : s.stillRelease.flag F.OBS_STAT_STILL_HELD = false ∧
    (s.stillRelease.flag F.OBS_STAT_STILL_PENDING = true ∨ s.stillRelease.pwr.phase ≠ .failing) := by
  by_cases h : ∀ p, s.obs.refused = some p → p.1 ≠ s.cycle
  · rw [stillRelease_plain h]
    exact ⟨stillFreed_held s, .inr hphase⟩
  · obtain ⟨⟨c, was⟩, hr, rfl⟩ : ∃ p, s.obs.refused = some p ∧ p.1 = s.cycle := by
      push Not at h
      exact h
    obtain ⟨hheld, -, hpwr⟩ := stillUnrefused_stat s was
    obtain ⟨hpend, hfree⟩ := stillTake_asked hheld (.inr (hpwr ▸ hphase))
    rw [stillRelease_refused hr]
    exact ⟨hfree, .inl hpend⟩

/-! ## OBS_STILL_CTL (R500, R503) -/

/-- The fields of OBS_STILL_CTL are written, and AUTO's seconds start. -/
def State.stillCtl (s : State) (d : Word) : State :=
  (s.setReg .OBS_STILL_CTL 0 0 (d &&& 0xFFFF000C)).on (d.getLsbD 3 && !s.flag F.OBS_STILL_CTL_AUTO) fun s =>
    { s with obs := { s.obs with autoSince := s.clp.now } }

theorem stillWrite_eq (s : State) (d : Word) : s.stillWrite d =
    ((s.stillCtl d).on (d.getLsbD 1 && !(s.stillCtl d).flag F.OBS_STAT_STILL_PENDING) State.stillRelease).on (d.getLsbD 0) State.stillTake := rfl

theorem stillCtl_flag (s : State) (d : Word) {f : Fld} (hf : f.reg ≠ .OBS_STILL_CTL) : (s.stillCtl d).flag f = s.flag f :=
  on_keeps (P := fun u : State => u.flag f = s.flag f) _ (flag_setReg_id _ _ _ _ _ _ hf) (flag_setReg_id _ _ _ _ _ _ hf)

theorem stillCtl_pwr (s : State) (d : Word) : (s.stillCtl d).pwr = s.pwr := on_keeps (P := fun u : State => u.pwr = s.pwr) _ rfl rfl

theorem stillCtl_refused (s : State) (d : Word) : (s.stillCtl d).obs.refused = s.obs.refused :=
  on_keeps (P := fun u : State => u.obs.refused = s.obs.refused) _ rfl rfl

theorem stillCtl_cycle (s : State) (d : Word) : (s.stillCtl d).cycle = s.cycle := on_keeps (P := fun u : State => u.cycle = s.cycle) _ rfl rfl

/-- A write with TAKE set and RELEASE clear. -/
theorem stillWrite_take {d : Word} (h0 : d.getLsbD 0 = true) (h1 : d.getLsbD 1 = false) : s.stillWrite d = (s.stillCtl d).stillTake := by
  rw [stillWrite_eq, h0, h1, Bool.false_and, on_false, on_true]

/-- A write with RELEASE set while no Still is pending. -/
theorem stillWrite_release {d : Word} (h1 : d.getLsbD 1 = true) (hpend : s.flag F.OBS_STAT_STILL_PENDING = false) :
    s.stillWrite d = (s.stillCtl d).stillRelease.on (d.getLsbD 0) State.stillTake := by
  rw [stillWrite_eq, stillCtl_flag _ _ (by decide), hpend, h1, Bool.not_false, Bool.and_self, on_true]

theorem takeBits (d : Word) : (d ||| 1).getLsbD 0 = true ∧ (d ||| 1).getLsbD 1 = d.getLsbD 1 := by
  rw [BitVec.getLsbD_or, BitVec.getLsbD_or, show (1 : Word).getLsbD 0 = true from rfl, show (1 : Word).getLsbD 1 = false from rfl, Bool.or_true,
    Bool.or_false]
  exact ⟨rfl, rfl⟩

theorem releaseBits (d : Word) : (d &&& ~~~1 ||| 2).getLsbD 0 = false ∧ (d &&& ~~~1 ||| 2).getLsbD 1 = true := by
  rw [BitVec.getLsbD_or, BitVec.getLsbD_or, BitVec.getLsbD_and, show (~~~1 : Word).getLsbD 0 = false by decide, show (2 : Word).getLsbD 0 = false from rfl,
    show (2 : Word).getLsbD 1 = true from rfl, Bool.and_false, Bool.or_true]
  exact ⟨rfl, rfl⟩

theorem stillTake_completes (d : Word) (hpend : s.flag F.OBS_STAT_STILL_PENDING = false) (hheld : s.flag F.OBS_STAT_STILL_HELD = false)
    (hphase : s.pwr.phase ≠ .failing) (hr : s.released = true) : Completes (.stillTake d) s fun t =>
      t.flag F.OBS_STAT_STILL_PENDING = true ∧ t.flag F.OBS_STAT_STILL_HELD = false := by
  obtain ⟨h0, h1⟩ := takeBits d
  have hctl : (s.stillCtl (d ||| 1)).pwr.phase ≠ .failing := by rwa [stillCtl_pwr]
  refine completes_of_powered (f := fun s => s.stillWrite (d ||| 1)) hr rfl ?_
  cases hd : d.getLsbD 1 with
  | false =>
    rw [stillWrite_take h0 (h1.trans hd)]
    exact stillTake_asked ((stillCtl_flag _ _ (by decide)).trans hheld) (.inr hctl)
  | true =>
    obtain ⟨hfree, hasked⟩ := stillRelease_stat hctl
    rw [stillWrite_release (h1.trans hd) hpend, h0, on_true]
    exact stillTake_asked hfree hasked

theorem stillTake_held_completes {d : Word} (hpend : s.flag F.OBS_STAT_STILL_PENDING = false) (hheld : s.flag F.OBS_STAT_STILL_HELD = true)
    (hd : d.getLsbD 1 = false) (hr : s.released = true) : Completes (.stillTake d) s fun t => t.flag F.OBS_STAT_STILL_PENDING = false ∧
      t.flag F.OBS_STAT_STILL_HELD = true ∧ t.flag F.OBS_EVT_STILL_REFUSED = true := by
  obtain ⟨h0, h1⟩ := takeBits d
  have hctl (f : Fld) (hf : f.reg ≠ .OBS_STILL_CTL) : (s.stillCtl (d ||| 1)).flag f = s.flag f := stillCtl_flag _ _ hf
  obtain ⟨hkeeps, hevt⟩ := stillTake_refused ((hctl _ (by decide)).trans hheld)
  refine completes_of_powered (f := fun s => s.stillWrite (d ||| 1)) hr rfl ?_
  rw [stillWrite_take h0 (h1.trans hd)]
  exact ⟨(hkeeps _ (by decide)).trans ((hctl _ (by decide)).trans hpend), (hkeeps _ (by decide)).trans ((hctl _ (by decide)).trans hheld), hevt⟩

theorem stillWrite_releases (d : Word) (hpend : s.flag F.OBS_STAT_STILL_PENDING = false) :
    s.stillWrite (d &&& ~~~1 ||| 2) = (s.stillCtl (d &&& ~~~1 ||| 2)).stillRelease := by
  obtain ⟨h0, h1⟩ := releaseBits d
  rw [stillWrite_release h1 hpend, h0, on_false]

theorem stillRelease_completes (d : Word) (hpend : s.flag F.OBS_STAT_STILL_PENDING = false)
    (hrefused : ∀ p, s.obs.refused = some p → p.1 ≠ s.cycle) (hr : s.released = true) : Completes (.stillRelease d) s fun t =>
      t.flag F.OBS_STAT_STILL_HELD = false ∧ t.flag F.OBS_STAT_STILL_PENDING = false := by
  refine completes_of_powered (f := fun s => s.stillWrite (d &&& ~~~1 ||| 2)) hr rfl ?_
  rw [stillWrite_releases d hpend, stillRelease_plain (by rwa [stillCtl_refused, stillCtl_cycle])]
  exact ⟨stillFreed_held _, (stillFreed_pending _).trans ((stillCtl_flag _ _ (by decide)).trans hpend)⟩

theorem stillRelease_takes (d : Word) (hpend : s.flag F.OBS_STAT_STILL_PENDING = false) (hrefused : s.obs.refused = some (s.cycle, false))
    (hphase : s.pwr.phase ≠ .failing) (hr : s.released = true) : Completes (.stillRelease d) s fun t =>
      t.flag F.OBS_STAT_STILL_HELD = false ∧ t.flag F.OBS_STAT_STILL_PENDING = true ∧ t.flag F.OBS_EVT_STILL_REFUSED = false := by
  have hctl : (s.stillCtl (d &&& ~~~1 ||| 2)).obs.refused = some ((s.stillCtl (d &&& ~~~1 ||| 2)).cycle, false) := by
    rwa [stillCtl_refused, stillCtl_cycle]
  obtain ⟨hheld, -, hpwr⟩ := stillUnrefused_stat (s.stillCtl (d &&& ~~~1 ||| 2)) false
  obtain ⟨hasked, hfree⟩ := stillTake_asked hheld (.inr (by rwa [hpwr, stillCtl_pwr]))
  refine completes_of_powered (f := fun s => s.stillWrite (d &&& ~~~1 ||| 2)) hr rfl ?_
  rw [stillWrite_releases d hpend, stillRelease_refused hctl]
  refine ⟨hfree, hasked, (stillTake_event hheld (by decide)).trans ?_⟩
  exact flag_retract_self _ _ _ (by decide) rfl

theorem stillAuto_completes (hauto : s.flag F.OBS_STILL_CTL_AUTO = true) (hpend : s.flag F.OBS_STAT_STILL_PENDING = false)
    (hheld : s.flag F.OBS_STAT_STILL_HELD = false) (hphase : s.pwr.phase ≠ .failing) : Completes .stillAuto s fun t =>
      t.flag F.OBS_STAT_STILL_PENDING = true ∧ t.obs.autoSince = t.clp.now ∧
        t.clp.now = max s.clp.now (s.obs.autoSince + 10 ^ 9 * max 1 (s.fld F.OBS_STILL_CTL_AUTO_S)) := by
  generalize hu : s.advanceTo (s.obs.autoSince + 10 ^ 9 * max 1 (s.fld F.OBS_STILL_CTL_AUTO_S)) = u
  have hflag (f : Fld) : u.flag f = s.flag f := by rw [← hu]; exact flag_of_reg (reg_congr (advanceTo_regs s _) _ _ _)
  have hnow : u.clp.now = max s.clp.now (s.obs.autoSince + 10 ^ 9 * max 1 (s.fld F.OBS_STILL_CTL_AUTO_S)) := by rw [← hu, advanceTo_now]
  have htake : ({ u with obs := { u.obs with autoSince := u.clp.now } } : State).stillTake =
      ({ u with obs := { u.obs with autoSince := u.clp.now } } : State).setFld F.OBS_STAT_STILL_PENDING 1 := by
    have hphase' : u.pwr.phase ≠ .failing := by rwa [← hu, advanceTo_pwr]
    have hheld' : ({ u with obs := { u.obs with autoSince := u.clp.now } } : State).flag F.OBS_STAT_STILL_HELD = false := (hflag _).trans hheld
    have hpend' : ({ u with obs := { u.obs with autoSince := u.clp.now } } : State).flag F.OBS_STAT_STILL_PENDING = false := (hflag _).trans hpend
    rw [State.stillTake, hheld', hpend', if_neg Bool.false_ne_true, Bool.false_or]
    exact if_neg fun e => hphase' (eq_of_beq e)
  have hexec : exec .stillAuto s = .next ({ u with obs := { u.obs with autoSince := u.clp.now } } : State).stillTake := by
    rw [show exec .stillAuto s = execStillAuto s from rfl, execStillAuto, if_pos hauto, ← hu]
  rw [htake] at hexec
  exact completes_of_exec hexec ⟨flag_setFld_one _ _ _ _ (by decide) rfl, rfl, hnow⟩

/-! ## The snapshot (R500–R502) -/

/-- A component that a thread's wait leaves alone where its registers and its thread do. -/
theorem waitCount_keeps {β : Type} {c : State → β} (hthr : ∀ (s : State) (t : Nat) (th : OclThread), c (s.setThr t th) = c s)
    (hcount : ∀ (s : State) (n t : Nat), c (s.count F.OBS_THR_CNT_COUNT n t 1) = c s) (s : State) (t : Nat) : c (s.waitCount t) = c s := by
  unfold State.waitCount
  dsimp only
  split
  · exact (on_component _ _ (hcount _ _ _)).trans (hthr _ _ _)
  · rfl

theorem waitCounts_keeps {β : Type} {c : State → β} (hthr : ∀ (s : State) (t : Nat) (th : OclThread), c (s.setThr t th) = c s)
    (hcount : ∀ (s : State) (n t : Nat), c (s.count F.OBS_THR_CNT_COUNT n t 1) = c s) (s : State) : c s.waitCounts = c s := by
  rw [State.waitCounts]
  exact foldl_keeps (waitCount_keeps hthr hcount) _ s

theorem waitCounts_obs (s : State) : s.waitCounts.obs = s.obs := waitCounts_keeps (c := State.obs) (fun _ _ _ => rfl) (fun _ _ _ => rfl) s

theorem waitCounts_clp (s : State) : s.waitCounts.clp = s.clp := waitCounts_keeps (c := State.clp) (fun _ _ _ => rfl) (fun _ _ _ => rfl) s

theorem waitCounts_fld (s : State) {f : Fld} (h : f.reg ≠ .OBS_THR_CNT) : s.waitCounts.fld f = s.fld f :=
  waitCounts_keeps (c := fun u : State => u.fld f) (fun _ _ _ => rfl) (fun _ _ _ => fld_setFld_id _ _ _ _ _ _ h) s

/-- The instant of a Still: the first edge of the fabric clock after the next trickle tick, with the time that threads have waited counted. -/
def State.stillEdge (s : State) : State := (s.fresh.2.advanceTo (tickTime (ticksAt s.clp.now + 1) + s.fresh.1 % 2)).waitCounts

theorem stillEdge_part (s : State) : s.stillEdge.obs = s.obs ∧
    s.stillEdge.clp.now = max s.clp.now (tickTime (ticksAt s.clp.now + 1) + s.fresh.1 % 2) := by
  rw [State.stillEdge, waitCounts_obs, waitCounts_clp, advanceTo_obs, advanceTo_now]
  exact ⟨rfl, rfl⟩

theorem stillEdge_fld (s : State) {f : Fld} (h : f.reg ≠ .OBS_THR_CNT) : s.stillEdge.fld f = s.fld f :=
  (waitCounts_fld _ h).trans (fld_congr (advanceTo_regs s.fresh.2 _) f 0 0)

/-- The shadows of a Still, kept with those before. -/
def State.stillShadowed (s : State) (seq : Nat) : State :=
  { s with obs := { s.obs with
      shadow := s.counterCopy, shadowSeq := (List.range 292).map fun u => (u, seq)
      shadowWas := (s.cycle, s.obs.shadow, s.obs.shadowSeq) } }

/-- The registers of a Still. -/
def State.stillStamped (s : State) (seq : Nat) : State :=
  let s := (s.stillShadowed seq).on ((s.stillShadowed seq).flag F.OBS_STILL_CTL_CLEAR) State.countersClear
  let s := s.setFld F.OBS_STILL_SEQ_SEQ seq
  let s := (s.setFld F.OBS_STILL_S_SEC (s.fullNs / 10 ^ 9)).setFld F.OBS_STILL_NS_NS (s.fullNs % 10 ^ 9)
  (s.setFld F.OBS_STAT_STILL_PENDING 0).setFld F.OBS_STAT_STILL_HELD 1

theorem countersClear_obs (s : State) : s.countersClear.obs = s.obs := rfl

theorem stillStamped_obs (s : State) (seq : Nat) : (s.stillStamped seq).obs = (s.stillShadowed seq).obs := by
  simp only [State.stillStamped, setFld_obs]
  exact on_component (c := State.obs) _ _ (countersClear_obs _)

theorem stillStamped_clp (s : State) (seq : Nat) : (s.stillStamped seq).clp = s.clp := by
  simp only [State.stillStamped, setFld_clp]
  exact on_component (c := State.clp) (s.stillShadowed seq) _ rfl

theorem stillStamped_ocl (s : State) (seq : Nat) : (s.stillStamped seq).ocl = s.ocl := by
  simp only [State.stillStamped, setFld_ocl]
  exact on_component (c := State.ocl) (s.stillShadowed seq) _ rfl

theorem stillShadowed_obs (s : State) (seq : Nat) : (s.stillShadowed seq).obs.shadowWas = (s.cycle, s.obs.shadow, s.obs.shadowSeq) ∧
    (s.stillShadowed seq).obs.shadowSeq = (List.range 292).map fun u => (u, seq) := ⟨rfl, rfl⟩

theorem stillStamped_stat (s : State) (seq : Nat) : (s.stillStamped seq).flag F.OBS_STAT_STILL_PENDING = false ∧
    (s.stillStamped seq).flag F.OBS_STAT_STILL_HELD = true := by
  refine ⟨?_, flag_setFld_one _ _ _ _ (by decide) rfl⟩
  rw [State.stillStamped, flag_setFld_disjoint _ _ _ _ _ _ (by decide) (by decide)]
  exact flag_setFld_zero _ _ _ _ (by decide) rfl

theorem stillStamped_seq (s : State) {seq : Nat} (h : seq < 2 ^ 32) : (s.stillStamped seq).fld F.OBS_STILL_SEQ_SEQ = seq := by
  rw [State.stillStamped, fld_setFld_id _ _ _ _ _ _ (by decide), fld_setFld_id _ _ _ _ _ _ (by decide), fld_setFld_id _ _ _ _ _ _ (by decide),
    fld_setFld_id _ _ _ _ _ _ (by decide), fld_setFld_self _ _ _ _ _ (by decide)]
  exact Nat.mod_eq_of_lt h

theorem stillSnapshot_completes (hpend : s.flag F.OBS_STAT_STILL_PENDING = true) (hphase : s.pwr.phase ≠ .failing) :
    Completes .stillSnapshot s fun t =>
      t.flag F.OBS_STAT_STILL_PENDING = false ∧ t.flag F.OBS_STAT_STILL_HELD = true ∧ t.flag F.OBS_EVT_STILL_DONE = true ∧
        t.shadows = (s.obs.shadow, s.obs.shadowSeq) ∧ t.fld F.OBS_STILL_SEQ_SEQ = (s.fld F.OBS_STILL_SEQ_SEQ + 1) % 2 ^ 32 ∧
          (t.clp.now = max s.clp.now (tickTime (ticksAt s.clp.now + 1)) ∨
            t.clp.now = max s.clp.now (tickTime (ticksAt s.clp.now + 1) + 1)) ∧
            ∀ u, u < 292 → SMap.find? t.obs.shadowSeq u = some ((s.fld F.OBS_STILL_SEQ_SEQ + 1) % 2 ^ 32) := by
  obtain ⟨hobs, hnow⟩ := stillEdge_part s
  have hseq : (s.stillEdge.fld F.OBS_STILL_SEQ_SEQ + 1) % 2 ^ 32 = (s.fld F.OBS_STILL_SEQ_SEQ + 1) % 2 ^ 32 := by
    rw [stillEdge_fld s (by decide)]
  have hexec : exec .stillSnapshot s =
      .next ((s.stillEdge.stillStamped ((s.stillEdge.fld F.OBS_STILL_SEQ_SEQ + 1) % 2 ^ 32)).raise F.OBS_EVT_STILL_DONE) := by
    have hgo : (s.flag F.OBS_STAT_STILL_PENDING && s.pwr.phase != .failing) = true := by
      rw [hpend, Bool.true_and]
      exact bne_iff_ne.mpr hphase
    rw [show exec .stillSnapshot s = execStillSnapshot s from rfl, execStillSnapshot, if_pos hgo]
    simp only [State.stillStamped, State.stillShadowed, State.stillEdge, State.fresh]
  rw [hseq] at hexec
  generalize hq : (s.fld F.OBS_STILL_SEQ_SEQ + 1) % 2 ^ 32 = seq at hexec ⊢
  obtain ⟨hwas, hshadow⟩ := stillShadowed_obs s.stillEdge seq
  obtain ⟨hpend', hheld'⟩ := stillStamped_stat s.stillEdge seq
  refine completes_of_exec hexec ⟨?_, ?_, flag_raise_self _ _ _ (by decide) rfl, ?_, ?_, ?_, fun u hu => ?_⟩
  · exact (flag_raise_id _ _ _ _ (by decide)).trans hpend'
  · exact (flag_raise_id _ _ _ _ (by decide)).trans hheld'
  · have hc : ((s.stillEdge.stillStamped seq).raise F.OBS_EVT_STILL_DONE).cycle = s.stillEdge.cycle := by
      rw [State.cycle, raise_clp, raise_ocl, stillStamped_clp, stillStamped_ocl, State.cycle]
    rw [State.shadows, hc, raise_obs, stillStamped_obs, hwas, if_pos rfl, hobs]
  · rw [fld_raise_id _ _ _ _ (by decide)]
    exact stillStamped_seq _ (hq ▸ Nat.mod_lt _ (by decide))
  · rw [raise_clp, stillStamped_clp, hnow]
    have hdraw : s.fresh.1 % 2 = 0 ∨ s.fresh.1 % 2 = 1 := Nat.mod_two_eq_zero_or_one _
    rcases hdraw with h | h
    · exact .inl (by rw [h, Nat.add_zero])
    · exact .inr (by rw [h])
  · rw [raise_obs, stillStamped_obs, hshadow]
    exact find?_map_pair (List.range 292) (fun _ => seq) (List.mem_range.mpr hu)

/-- A filter that drops a key leaves nothing there. -/
theorem find?_filter_dropped {α : Type} (m : SMap α) {p : Nat × α → Bool} {q : Nat} (hp : ∀ v, p (q, v) = false) :
    SMap.find? (m.filter p) q = none := by
  induction m with
  | nil => rfl
  | cons e m ih =>
    obtain ⟨k, v⟩ := e
    by_cases hk : p (k, v) = true
    · have hne : q ≠ k := by
        rintro rfl
        exact Bool.false_ne_true ((hp v).symm.trans hk)
      rw [List.filter_cons_of_pos hk, SMap.find?, if_neg hne]
      exact ih
    · rw [List.filter_cons_of_neg hk]
      exact ih

theorem mem_counterKeys {u : Nat} {c : RegId × Nat × Nat} (hu : u < 292) (hc : c ∈ unitCounters u) : regKey c.1 c.2.1 c.2.2 ∈ counterKeys := by
  rw [counterKeys]
  exact List.mem_flatMap.mpr ⟨u, List.mem_range.mpr hu, List.mem_map.mpr ⟨c, hc, rfl⟩⟩

theorem find?_countersClear {q : Nat} (h : q ∈ counterKeys) : SMap.find? s.countersClear.regs q = none := by
  have hkey : counterKeys.contains q = true := List.contains_iff_mem.mpr h
  rw [State.countersClear]
  refine find?_filter_dropped _ fun v => ?_
  dsimp only
  rw [hkey, Bool.not_true]

theorem countersClear_reg {u : Nat} {c : RegId × Nat × Nat} (hu : u < 292) (hc : c ∈ unitCounters u) :
    s.countersClear.reg c.1 c.2.1 c.2.2 = resetAt c.1 c.2.1 c.2.2 := by
  rw [State.reg, SMap.getD, find?_countersClear (mem_counterKeys hu hc), Option.getD_none]

/-! ## Operating hours (R512) -/

/-- The instant at which the operating hour ends. -/
def State.hourEnd (s : State) : Nat := s.obs.opSince + (3600 - s.fld F.OBS_OP_SEC_SEC) * 10 ^ 9

/-- The operating hour has ended, and its seconds start again from there. -/
def State.hourEnded (s : State) : State :=
  let u := s.advanceTo s.hourEnd
  { u with obs := { u.obs with opSince := s.hourEnd } }

theorem withObs_fld (s : State) (o : ObsState) (f : Fld) : { s with obs := o }.fld f = s.fld f := rfl

theorem hourEnded_hours (s : State) : s.hourEnded.fld F.OBS_OP_HOURS_HOURS = s.fld F.OBS_OP_HOURS_HOURS := by
  rw [State.hourEnded, withObs_fld]
  exact fld_congr (advanceTo_regs s _) _ 0 0

theorem exec_opHour (hr : s.released = true) : exec .opHour s =
    .next (((s.hourEnded.setFld F.OBS_OP_HOURS_HOURS (s.hourEnded.fld F.OBS_OP_HOURS_HOURS + 1)).setFld F.OBS_OP_SEC_SEC 0).siltPost 274 0) := by
  rw [show exec .opHour s = execOpHour s from rfl, execOpHour, if_pos hr]
  simp only [State.hourEnded, State.hourEnd, advanceTo_obs]

theorem opHour_completes (hr : s.released = true) : Completes .opHour s fun t => ∃ v : State,
    v.fld F.OBS_OP_HOURS_HOURS = (s.fld F.OBS_OP_HOURS_HOURS + 1) % 2 ^ 32 ∧ v.fld F.OBS_OP_SEC_SEC = 0 ∧ t = v.siltPost 274 0 := by
  refine completes_of_exec (exec_opHour hr) ⟨_, ?_, fld_setFld_self _ _ _ _ _ (by decide), rfl⟩
  rw [fld_setFld_id _ _ _ _ _ _ (by decide), fld_setFld_self _ _ _ _ _ (by decide), hourEnded_hours]
  rfl

theorem opHour_held (hr : s.released = false) : Completes .opHour s fun t => t = s :=
  completes_of_exec ((if_neg (by rw [hr]; exact Bool.false_ne_true) : execOpHour s = _)) rfl

end Sys2Proof.Machine
end

section
/-! PROOFS. `Obligations.StillAndSilt`: the Silt recorder's commands (R507, R508, R512, R513), and the statement whole. -/

namespace Sys2Proof.Machine

variable {s : State}

/-! ## The flash port's queue leaves the recorder alone (R406) -/

/-- `t` is `s` to the recorder: its state and every register but FLS_STAT. -/
structure State.PortAlike (s t : State) : Prop where
  obs : t.obs = s.obs
  reg : ∀ id ≠ .FLS_STAT, ∀ i j, t.reg id i j = s.reg id i j

namespace State.PortAlike

variable {t u : State}

theorem refl (s : State) : s.PortAlike s := ⟨rfl, fun _ _ _ _ => rfl⟩

theorem trans (h : s.PortAlike t) (h' : t.PortAlike u) : s.PortAlike u :=
  ⟨h'.obs.trans h.obs, fun id hid i j => (h'.reg id hid i j).trans (h.reg id hid i j)⟩

theorem rest (h : s.PortAlike t) (ho : u.obs = t.obs) (hr : u.regs = t.regs) : s.PortAlike u :=
  h.trans ⟨ho, fun id _ i j => reg_congr hr id i j⟩

theorem setFld {f : Fld} {v : Nat} (hf : f.reg = .FLS_STAT) (h : s.PortAlike t) : s.PortAlike (t.setFld f v) :=
  h.trans ⟨rfl, fun _ hid _ _ => reg_setReg_id _ _ _ _ _ _ fun e => hid (e.trans hf)⟩

theorem flag (h : s.PortAlike t) {f : Fld} (hf : f.reg ≠ .FLS_STAT) : t.flag f = s.flag f := flag_of_reg (h.reg _ hf 0 0)

end State.PortAlike

theorem flsResume_portAlike (s : State) : s.PortAlike s.flsResume := by
  unfold State.flsResume
  split
  · exact .setFld rfl <| .setFld rfl <| .rest (.refl s) rfl rfl
  · exact .setFld rfl (.refl s)

theorem flsServe_portAlike (s : State) : s.PortAlike s.flsServe := by
  unfold State.flsServe
  dsimp only
  split
  · exact .refl s
  · split
    · split
      · exact .setFld rfl (.refl s)
      · exact flsResume_portAlike s
    · split
      · exact flsResume_portAlike s
      · split
        · exact .setFld rfl (.rest (.refl s) rfl rfl)
        · exact .refl s

theorem flsQueue_portAlike (s : State) (w : FlsOp) : s.PortAlike (s.flsQueue w) := by
  have yields : s.PortAlike (s.flsYield w.src) := by
    unfold State.flsYield
    repeat' split
    · exact .rest (.refl s) rfl rfl
    · exact .refl s
    · exact .refl s
  have suspends (t : State) : t.PortAlike t.suspendErase := by
    unfold State.suspendErase
    split
    · split
      · exact .setFld rfl (.rest (.refl t) rfl rfl)
      · exact .refl t
    · exact .refl t
  have hqueued : s.PortAlike { s.flsYield w.src with fls := { (s.flsYield w.src).fls with waiting := (s.flsYield w.src).fls.waiting ++ [w] } } :=
    yields.rest rfl rfl
  exact on_keeps (P := s.PortAlike) _ hqueued (hqueued.trans (suspends _))

theorem siltLayout_obs (rs : List (List Byte)) (s : State) (sector slot seq : Nat) : (s.siltLayout sector slot seq rs).2.obs = s.obs := by
  induction rs generalizing s sector slot seq with
  | nil => rfl
  | cons r rs ih =>
    unfold State.siltLayout
    dsimp only
    have hhead : (if slot = 0 then s.siltHeader seq else ([], s)).2.obs = s.obs := by split <;> rfl
    split <;> exact (ih _ _ _ _).trans hhead

theorem siltSubmit_portAlike (s : State) (src : Nat) (rs : List (List Byte)) : s.PortAlike (s.siltSubmit src rs) :=
  List.foldlRecOn (motive := s.PortAlike) _ _ (.rest (.refl s) (siltLayout_obs rs s _ _ _) (siltLayout_regs rs s _ _ _))
    fun _ h _ _ => h.trans (flsQueue_portAlike _ _)

/-! ## What a post leaves of the recorder (R507–R510) -/

theorem setMemBytes_obs (m : Nat) (bs : List Byte) (s : State) (o : Nat) : (s.setMemBytes m o bs).obs = s.obs := by
  induction bs generalizing s o with
  | nil => rfl
  | cons b bs ih => exact ih _ _

theorem flipApply_obs (s : State) (m w : Nat) : (s.flipApply m w).obs = s.obs := by
  unfold State.flipApply
  split
  · rw [bump_obs, raise_obs, setFld_obs]
    exact on_component (c := State.obs) _ _ rfl
  · rfl

theorem memWrite_obs (s : State) (m w v : Nat) : (s.memWrite m w v).obs = s.obs :=
  (flipApply_obs _ m w).trans (setMemBytes_obs m _ s _)

theorem memWrites_obs (m : Nat) (vs : List Nat) (s : State) (w : Nat) : (s.memWrites m w vs).obs = s.obs := by
  induction vs generalizing s w with
  | nil => rfl
  | cons v vs ih => exact (ih _ _).trans (memWrite_obs s m w v)

theorem siltWrite_obs (s : State) (base seq : Nat) (rs : List (Nat × Nat × Nat)) : (s.siltWrite base seq rs).obs = s.obs :=
  foldl_keeps (c := State.obs) (fun t _ => memWrites_obs 7 _ t _) _ s

/-- The statistics, and the posts of the cycle. -/
def State.siltStats (s : State) : SMap SiltCode × SiltTurn := (s.obs.codes, s.obs.turn)

theorem flushAsk_siltStats (s : State) : s.flushAsk.siltStats = s.siltStats := by
  unfold State.flushAsk
  split <;> rfl

/-- The posts of a cycle with one more, in their order (R516). -/
def SiltTurn.with (u : SiltTurn) (code value rank : Nat) : List (Nat × Nat × Nat) :=
  (u.posts.filter fun p => decide (p.1 ≤ rank)) ++ (rank, code, value % 2 ^ 32) :: u.posts.filter fun p => decide (rank < p.1)

/-- A post leaves the statistics of its cycle's posts in their order, and those posts. -/
theorem siltPost_siltStats (s : State) (code value rank : Nat) :
    (s.siltPost code value rank).obs.codes =
      (siltFates s.opHour (2048 - (s.obs.bufCount - s.siltTurn.kept)) s.siltTurn.codes (s.siltTurn.with code value rank)).1 ∧
    (s.siltPost code value rank).obs.turn.posts = s.siltTurn.with code value rank := by
  have kept (n seq k : Nat) (t : State) : (((t.siltCount n).setFld F.OBS_SILT_SEQ_SEQ seq).bump F.OBS_CNT_SILT_KEPT_COUNT k).siltStats =
      t.siltStats := rfl
  have lost (t : State) : (({ t with obs := { t.obs with lost := t.obs.lost + 1 } }.bump F.OBS_CNT_SILT_LOST_COUNT).raise
      F.OBS_EVT_SILT_OVERFLOW).siltStats = t.siltStats := by
    rw [State.siltStats, raise_obs]
    rfl
  have supp (t : State) : (t.bump F.OBS_CNT_SILT_SUPP_COUNT).siltStats = t.siltStats := rfl
  have hstats : ∃ u : SiltTurn, u.posts = s.siltTurn.with code value rank ∧ (s.siltPost code value rank).siltStats =
      ((siltFates s.opHour (2048 - (s.obs.bufCount - s.siltTurn.kept)) s.siltTurn.codes (s.siltTurn.with code value rank)).1, u) := by
    have posted (obs : ObsState) (base seq : Nat) (rs : List (Nat × Nat × Nat)) :
        ({ s with obs := obs }.siltWrite base seq rs).siltStats = (obs.codes, obs.turn) := by rw [State.siltStats, siltWrite_obs]
    simp only [State.siltPost]
    split
    · exact ⟨_, rfl, (on_component _ _ (flushAsk_siltStats _)).trans <| (on_component _ _ (supp _)).trans <|
        (on_component _ _ (lost _)).trans <| (on_component _ _ (kept _ _ _ _)).trans (posted _ _ _ _)⟩
    · exact ⟨_, rfl, (on_component _ _ (supp _)).trans <| (on_component _ _ (lost _)).trans <|
        (on_component _ _ (kept _ _ _ _)).trans (posted _ _ _ _)⟩
  obtain ⟨u, hposts, hu⟩ := hstats
  exact ⟨congrArg Prod.fst hu, (congrArg (fun p => p.2.posts) hu).trans hposts⟩

/-- The first post of a cycle finds the codes as they stand. -/
theorem siltTurn_codes (h : s.siltTurn.posts = []) : s.siltTurn.codes = s.obs.codes := by
  rw [State.siltTurn] at h ⊢
  split at h
  · next hturn =>
    rw [h, List.isEmpty_nil, Bool.not_true, Bool.and_false] at hturn
    exact absurd hturn Bool.false_ne_true
  · next hturn => rw [if_neg hturn]

theorem siltTurn_with_first (h : s.siltTurn.posts = []) (code value rank : Nat) : s.siltTurn.with code value rank = [(rank, code, value % 2 ^ 32)] := by
  rw [SiltTurn.with, h]
  rfl

/-- The statistics of a single post (R508, R509): those of its code, whatever becomes of its record. -/
theorem siltFates_single (hour room : Nat) (codes : SMap SiltCode) (rank code value : Nat) : ∃ window kept supp,
    SMap.getD (siltFates hour room codes [(rank, code, value)]).1 code {} =
      { (SMap.getD codes code {}).note value hour with window := window, kept := kept, supp := supp } := by
  have hhour (c : SiltCode) : ∃ window kept, c.inHour hour = { c with window := window, kept := kept } := by
    rw [SiltCode.inHour]
    split
    · exact ⟨_, _, rfl⟩
    · exact ⟨_, _, rfl⟩
  obtain ⟨window, kept, hc⟩ := hhour ((SMap.getD codes code {}).note value hour)
  simp only [siltFates]
  rw [hc]
  split
  · exact ⟨_, _, _, SMap.getD_put_self ..⟩
  · split
    · exact ⟨_, _, _, SMap.getD_put_self ..⟩
    · exact ⟨_, _, _, SMap.getD_put_self ..⟩

theorem siltPost_first (code value rank : Nat) (h : s.siltTurn.posts = []) : ∃ window kept supp,
    SMap.getD (s.siltPost code value rank).obs.codes code {} =
      { (SMap.getD s.obs.codes code {}).note (value % 2 ^ 32) s.opHour with window := window, kept := kept, supp := supp } := by
  rw [(siltPost_siltStats s code value rank).1, siltTurn_with_first h, siltTurn_codes h]
  exact siltFates_single _ _ _ _ _ _

theorem siltPost_statistics (code value rank : Nat) (h : s.siltTurn.posts = []) :
    let c := SMap.getD s.obs.codes code {}
    let d := SMap.getD (s.siltPost code value rank).obs.codes code {}
    d.count = min (2 ^ 32 - 1) (c.count + 1) ∧ d.lastHour = s.opHour ∧
      (c.count ≠ 0 → d.min = min c.min (value % 2 ^ 32) ∧ d.max = max c.max (value % 2 ^ 32) ∧ d.firstHour = c.firstHour) ∧
      (c.count = 0 → d.min = value % 2 ^ 32 ∧ d.max = value % 2 ^ 32 ∧ d.firstHour = s.opHour) := by
  obtain ⟨window, kept, supp, hd⟩ := siltPost_first code value rank h
  dsimp only
  rw [hd]
  exact ⟨rfl, rfl, fun hc => ⟨if_neg hc, if_neg hc, if_neg hc⟩, fun hc => ⟨if_pos hc, if_pos hc, if_pos hc⟩⟩

/-- The posts of a cycle stay when one more comes. -/
theorem siltPost_keepsPosts (code value rank : Nat) {p : Nat × Nat × Nat} (hp : p ∈ s.siltTurn.posts) :
    p ∈ (s.siltPost code value rank).obs.turn.posts := by
  rw [(siltPost_siltStats s code value rank).2, SiltTurn.with, List.mem_append, List.mem_cons, List.mem_filter, List.mem_filter]
  by_cases hrank : p.1 ≤ rank
  · exact .inl ⟨hp, decide_eq_true hrank⟩
  · exact .inr (.inr ⟨hp, decide_eq_true (not_le.mp hrank)⟩)

theorem siltPostWrite_taken {req code : Nat} (value : Nat) (h : req = 129 ∨ 384 ≤ code % 512) (hr : s.released = true) :
    Completes (.siltPost req code value) s fun t =>
      t = s.siltPost (code % 512) value (if req = 128 then 1 else if req = 129 then 2 else 3 + req) :=
  completes_of_powered (f := fun s => s.siltPostWrite req code value) hr rfl (if_pos h)

theorem siltPostWrite_refused {req code : Nat} (value : Nat) (hreq : req ≠ 129) (hcode : code % 512 < 384) (hr : s.released = true) :
    Completes (.siltPost req code value) s fun t => t = s.raise F.OBS_EVT_POST_REFUSED :=
  completes_of_powered (f := fun s => s.siltPostWrite req code value) hr rfl (if_neg fun h => h.elim hreq fun h => by omega)

/-! ## OBS_SILT_CTL (R508, R513) -/

/-- The fields of OBS_SILT_CTL as a write leaves them. -/
def State.siltCtl (s : State) (d : Word) : State := s.setReg .OBS_SILT_CTL 0 0 (d &&& 0xFFFFFFF0)

/-- A command bit in place of another leaves FLUSH_MARK as it stands. -/
theorem siltCtl_flushMark (s : State) {d : Word} (h : ∀ k, 4 ≤ k → k < 16 → d.getLsbD k = (s.reg .OBS_SILT_CTL 0 0).getLsbD k) :
    (s.siltCtl d).flushMark = s.flushMark := by
  have hmark : (s.siltCtl d).fld F.OBS_SILT_CTL_FLUSH_MARK = s.fld F.OBS_SILT_CTL_FLUSH_MARK := by
    rw [State.siltCtl, show RegId.OBS_SILT_CTL = F.OBS_SILT_CTL_FLUSH_MARK.reg from rfl, fld_setReg_self]
    refine bits_congr fun k hlo hhi => ?_
    have hmask : (0xFFFFFFF0 : Word).getLsbD k = true := by
      have hall : ∀ k, k < 16 → 4 ≤ k → (0xFFFFFFF0 : Word).getLsbD k = true := by decide
      exact hall k hhi hlo
    change (d &&& 0xFFFFFFF0).getLsbD k = (s.reg .OBS_SILT_CTL 0 0).getLsbD k
    rw [BitVec.getLsbD_and, hmask, Bool.and_true, h k hlo hhi]
  rw [State.flushMark, hmark, State.flushMark]

theorem flushBits (r : Word) : (r &&& ~~~2 ||| 1).getLsbD 0 = true ∧ (r &&& ~~~2 ||| 1).getLsbD 1 = false := by
  rw [BitVec.getLsbD_or, BitVec.getLsbD_or, BitVec.getLsbD_and, BitVec.getLsbD_and, show (~~~2 : Word).getLsbD 1 = false by decide, show (1 : Word).getLsbD 0 = true from rfl,
    show (1 : Word).getLsbD 1 = false from rfl, Bool.or_true, Bool.and_false]
  exact ⟨rfl, rfl⟩

theorem clearBits_above (r : Word) {k : Nat} (hlo : 4 ≤ k) (hhi : k < 16) : (r &&& ~~~1 ||| 2).getLsbD k = r.getLsbD k := by
  have hone : ∀ k, k < 16 → 4 ≤ k → (~~~1 : Word).getLsbD k = true := by decide
  have htwo : ∀ k, k < 16 → 4 ≤ k → (2 : Word).getLsbD k = false := by decide
  rw [BitVec.getLsbD_or, BitVec.getLsbD_and, hone k hhi hlo, htwo k hhi hlo, Bool.and_true, Bool.or_false]

theorem siltCtlWrite_eq (s : State) (d : Word) : s.siltCtlWrite d =
    ((s.siltCtl d).on (d.getLsbD 1) State.statClear).on
      (d.getLsbD 0 || decide (((s.siltCtl d).on (d.getLsbD 1) State.statClear).flushMark ≤
        ((s.siltCtl d).on (d.getLsbD 1) State.statClear).obs.bufCount)) State.siltStart := rfl

/-- Cleared statistics, code by code. -/
theorem getD_clear (m : SMap SiltCode) (code : Nat) :
    SMap.getD (m.map fun (e : Nat × SiltCode) => (e.1, e.2.clear)) code {} = (SMap.getD m code {}).clear := by
  induction m with
  | nil => rfl
  | cons e m ih =>
    simp only [List.map_cons, SMap.getD, SMap.find?] at ih ⊢
    split
    · rfl
    · exact ih

theorem statClear_codes (h : s.siltTurn.posts = []) (code : Nat) :
    SMap.getD s.statClear.obs.codes code {} = (SMap.getD s.obs.codes code {}).clear := by
  rw [State.statClear, h]
  exact getD_clear _ _

theorem statClear_completes (hcount : s.obs.bufCount < s.flushMark) (hposts : s.siltTurn.posts = []) (hr : s.released = true) :
    Completes .statClear s fun t => ∀ code, let c := SMap.getD s.obs.codes code {}
      SMap.getD t.obs.codes code {} = { c with count := 0, min := 0, max := 0, firstHour := 0, lastHour := 0, bins := [] } := by
  obtain ⟨h0, h1⟩ := releaseBits (s.reg .OBS_SILT_CTL 0 0)
  generalize hd : s.reg .OBS_SILT_CTL 0 0 &&& ~~~1 ||| 2 = d at h0 h1
  have hmark : (s.siltCtl d).statClear.flushMark = s.flushMark :=
    siltCtl_flushMark s fun k hlo hhi => hd ▸ clearBits_above _ hlo hhi
  have hno : ¬((s.siltCtl d).statClear.flushMark ≤ (s.siltCtl d).statClear.obs.bufCount) := by
    rw [hmark]
    exact not_le.mpr hcount
  refine completes_of_powered (f := fun s => s.siltCtlWrite (s.reg .OBS_SILT_CTL 0 0 &&& ~~~1 ||| 2)) hr rfl ?_
  rw [hd, siltCtlWrite_eq, h0, h1, on_true, Bool.false_or, decide_eq_false hno, on_false]
  exact fun code => statClear_codes (s := s.siltCtl d) hposts code

/-! ## Flushes (R513) -/

theorem flushAsk_waits (h : s.flag F.OBS_STAT_FLUSHING = true ∨ s.flag F.OBS_STAT_RESTORED = false) :
    s.flushAsk = { s with obs := { s.obs with flushReq := true } } := by
  rw [State.flushAsk]
  refine if_pos ?_
  rcases h with h | h
  · rw [h, Bool.true_or]
  · rw [h, Bool.not_false, Bool.or_true]

/-- A flush of `n` records runs. -/
def State.Flushes (s : State) (n : Nat) : Prop := s.flag F.OBS_STAT_FLUSHING = true ∧ s.obs.flushing = n

theorem State.Flushes.keep {n : Nat} {t : State} (h : s.Flushes n) (hflag : t.flag F.OBS_STAT_FLUSHING = s.flag F.OBS_STAT_FLUSHING)
    (hobs : t.obs.flushing = s.obs.flushing) : t.Flushes n := ⟨hflag.trans h.1, hobs.trans h.2⟩

theorem State.Flushes.rest {n : Nat} {t : State} (h : s.Flushes n) (hregs : t.regs = s.regs) (hobs : t.obs = s.obs) : t.Flushes n :=
  h.keep (flag_of_reg (reg_congr hregs _ _ _)) (congrArg ObsState.flushing hobs)

theorem flushAsk_starts (hflushing : s.flag F.OBS_STAT_FLUSHING = false) (hrestored : s.flag F.OBS_STAT_RESTORED = true) :
    s.flushAsk.Flushes s.obs.bufCount := by
  have hgo : ¬(s.flag F.OBS_STAT_FLUSHING || !s.flag F.OBS_STAT_RESTORED) = true := by
    rw [hflushing, hrestored]
    exact Bool.false_ne_true
  rw [State.flushAsk, if_neg hgo]
  exact ⟨flag_setFld_one _ _ _ _ (by decide) rfl, rfl⟩

theorem State.Flushes.flushAsk {n : Nat} (h : s.Flushes n) : s.flushAsk.Flushes n := by
  rw [flushAsk_waits (.inl h.1)]
  exact h.keep rfl rfl

theorem State.Flushes.port {n : Nat} {t : State} (h : s.Flushes n) (hport : s.PortAlike t) : t.Flushes n :=
  h.keep (hport.flag (by decide)) (by rw [hport.obs])

theorem State.Flushes.bump {n : Nat} (h : s.Flushes n) {f : Fld} (k i j : Nat) (hf : F.OBS_STAT_FLUSHING.reg ≠ f.reg) : (s.bump f k i j).Flushes n :=
  h.keep (flag_bump_id _ _ _ _ _ _ hf) rfl

theorem State.Flushes.setFld {n : Nat} (h : s.Flushes n) {f : Fld} (v i j : Nat) (hf : F.OBS_STAT_FLUSHING.reg ≠ f.reg) : (s.setFld f v i j).Flushes n :=
  h.keep (flag_setFld_id _ _ _ _ _ _ hf) rfl

theorem State.Flushes.raise {n : Nat} (h : s.Flushes n) {f : Fld} (i : Nat) (hf : F.OBS_STAT_FLUSHING.reg ≠ f.reg) : (s.raise f i).Flushes n :=
  h.keep (flag_raise_id _ _ _ _ hf) (by rw [raise_obs])

/-- A post does not disturb a flush that runs. -/
theorem State.Flushes.siltPost {n : Nat} (h : s.Flushes n) (code value rank : Nat) : (s.siltPost code value rank).Flushes n := by
  have kept (m seq k : Nat) (t : State) (ht : t.Flushes n) :
      (((t.siltCount m).setFld F.OBS_SILT_SEQ_SEQ seq).bump F.OBS_CNT_SILT_KEPT_COUNT k).Flushes n := by
    have hcount : (t.siltCount m).Flushes n := ht.keep (flag_setFld_id _ _ _ _ _ _ (by decide)) rfl
    exact (hcount.setFld _ _ _ (by decide)).bump _ _ _ (by decide)
  have lost (t : State) (ht : t.Flushes n) : (({ t with obs := { t.obs with lost := t.obs.lost + 1 } }.bump F.OBS_CNT_SILT_LOST_COUNT).raise
      F.OBS_EVT_SILT_OVERFLOW).Flushes n := by
    have hlost : ({ t with obs := { t.obs with lost := t.obs.lost + 1 } } : State).Flushes n := ht.keep rfl rfl
    exact (hlost.bump _ _ _ (by decide)).raise _ (by decide)
  have posted (codes : SMap SiltCode) (turn : SiltTurn) (base seq : Nat) (rs : List (Nat × Nat × Nat)) :
      ({ s with obs := { s.obs with codes := codes, turn := turn } }.siltWrite base seq rs).Flushes n := by
    refine h.keep ?_ (by rw [siltWrite_obs])
    have hnear : State.Near flipIds { s with obs := { s.obs with codes := codes, turn := turn } }
        ({ s with obs := { s.obs with codes := codes, turn := turn } }.siltWrite base seq rs) := .foldl (fun t _ => memWrites_near 7 _ t _) (.refl _ _)
    exact hnear.flag (by decide) 0 0
  have onStep {c : Bool} {f : State → State} (hf : ∀ t : State, t.Flushes n → (f t).Flushes n) {t : State} (ht : t.Flushes n) :
      (t.on c f).Flushes n := on_keeps (P := fun u : State => u.Flushes n) c ht (hf t ht)
  have supp (t : State) (ht : t.Flushes n) : (t.bump F.OBS_CNT_SILT_SUPP_COUNT).Flushes n := ht.bump _ _ _ (by decide)
  simp only [State.siltPost]
  split
  · exact onStep (fun _ ht => ht.flushAsk) <| onStep supp <| onStep lost <| onStep (kept _ _ _) <| posted _ _ _ _ _
  · exact onStep supp <| onStep lost <| onStep (kept _ _ _) <| posted _ _ _ _ _

/-- A read of a word does not disturb a flush that runs. -/
theorem State.Flushes.memRead {n : Nat} (h : s.Flushes n) (m w : Nat) : (s.memRead m w).2.Flushes n := by
  have words (t : State) (v : Nat) (ht : t.Flushes n) : (t.setMemWord m w v).Flushes n :=
    ht.rest (setMemWord_regs t m w v) (setMemBytes_obs m _ t _)
  have corrects (t : State) (ht : t.Flushes n) : (t.correct m w).Flushes n := by
    have hclear : (t.eccClear m w).Flushes n := ht.rest (eccClear_regs ..) (eccClear_obs ..)
    have hcount : (((t.eccClear m w).bump F.MEM_CNT_CE_COUNT).raise F.MEM_EVT_CE).Flushes n := (hclear.bump _ _ _ (by decide)).raise _ (by decide)
    exact (hcount.setFld _ _ _ (by decide)).setFld _ _ _ (by decide)
  have marks (mask : Nat) : (s.poisonMark m w mask).Flushes n := by
    have hword : ((s.setMemWord m w (s.memWord m w ^^^ (mask % 2 ^ 64))).eccSet m w ⟨0, true⟩).Flushes n := (words s _ h).rest (eccSet_regs ..) (eccSet_obs ..)
    have hcount := (hword.bump (f := F.MEM_CNT_UE_COUNT) 1 0 0 (by decide)).raise (f := F.MEM_EVT_UE) 0 (by decide)
    exact ((hcount.setFld (f := F.MEM_LAST_UE_MEM) m 0 0 (by decide)).setFld (f := F.MEM_LAST_UE_WORD) w 0 0 (by decide)).siltPost 257 m 0
  unfold State.memRead
  split
  · exact h
  · split
    · exact h
    · split
      · exact (words { s with draw := s.draw + 1 } _ (h.rest rfl rfl)).rest (eccClear_regs ..) (eccClear_obs ..)
      · split
        · exact corrects s h
        · exact corrects _ (words s.fresh.2 _ (h.rest rfl rfl))
      · exact marks _

theorem State.Flushes.memReads {n : Nat} (k m w : Nat) (h : s.Flushes n) : (s.memReads m w k).2.2.Flushes n := by
  induction k generalizing s w with
  | zero => exact h
  | succ k ih => exact ih _ (h.memRead m w)

theorem State.Flushes.siltRecords {n : Nat} (k slot : Nat) (h : s.Flushes n) : (s.siltRecords slot k).2.Flushes n := by
  induction k generalizing s slot with
  | zero => exact h
  | succ k ih =>
    have hread := h.memReads 4 7 (4 * (slot % 2048))
    unfold State.siltRecords
    generalize s.memReads 7 (4 * (slot % 2048)) 4 = r at hread ⊢
    obtain ⟨vs, bad, u⟩ := r
    refine ih _ ?_
    dsimp only at hread ⊢
    split
    · have hlost : ({ u with obs := { u.obs with lost := u.obs.lost + 1 } } : State).Flushes n := hread.keep rfl rfl
      exact (hlost.bump _ _ _ (by decide)).bump _ _ _ (by decide)
    · exact hread

theorem State.Flushes.siltLoad {n : Nat} (h : s.Flushes n) : s.siltLoad.Flushes n := by
  unfold State.siltLoad
  split
  · exact ((h.keep rfl rfl : ({ s with obs := { s.obs with unread := false } }.siltSettle).Flushes n).siltRecords _ _).port (siltSubmit_portAlike _ _ _)
  · exact h

theorem siltStart_flushes (hflushing : s.flag F.OBS_STAT_FLUSHING = false) (hrestored : s.flag F.OBS_STAT_RESTORED = true) :
    s.siltStart.Flushes s.obs.bufCount := (flushAsk_starts hflushing hrestored).siltLoad.port (flsServe_portAlike _)

theorem siltFlush_eq (s : State) : s.siltCtlWrite (s.reg .OBS_SILT_CTL 0 0 &&& ~~~2 ||| 1) =
    (s.siltCtl (s.reg .OBS_SILT_CTL 0 0 &&& ~~~2 ||| 1)).siltStart := by
  obtain ⟨h0, h1⟩ := flushBits (s.reg .OBS_SILT_CTL 0 0)
  rw [siltCtlWrite_eq, h0, h1, on_false, Bool.true_or, on_true]

theorem siltCtl_flag (s : State) (d : Word) {f : Fld} (h : f.reg ≠ .OBS_SILT_CTL) : (s.siltCtl d).flag f = s.flag f := flag_setReg_id _ _ _ _ _ _ h

theorem siltFlush_starts (hflushing : s.flag F.OBS_STAT_FLUSHING = false) (hrestored : s.flag F.OBS_STAT_RESTORED = true) (hr : s.released = true) :
    Completes .siltFlush s fun t => t.flag F.OBS_STAT_FLUSHING = true ∧ t.obs.flushing = s.obs.bufCount := by
  refine completes_of_powered (f := fun s => s.siltCtlWrite (s.reg .OBS_SILT_CTL 0 0 &&& ~~~2 ||| 1)) hr rfl ?_
  rw [siltFlush_eq]
  exact siltStart_flushes ((siltCtl_flag _ _ (by decide)).trans hflushing) ((siltCtl_flag _ _ (by decide)).trans hrestored)

theorem siltFlush_waits (hrestored : s.flag F.OBS_STAT_RESTORED = false) (hunread : s.obs.unread = false) (hr : s.released = true) :
    Completes .siltFlush s fun t => t.obs.flushReq = true ∧ t.flag F.OBS_STAT_FLUSHING = s.flag F.OBS_STAT_FLUSHING := by
  refine completes_of_powered (f := fun s => s.siltCtlWrite (s.reg .OBS_SILT_CTL 0 0 &&& ~~~2 ||| 1)) hr rfl ?_
  rw [siltFlush_eq]
  generalize hu : s.siltCtl (s.reg .OBS_SILT_CTL 0 0 &&& ~~~2 ||| 1) = u
  have hflag {f : Fld} (h : f.reg ≠ .OBS_SILT_CTL) : u.flag f = s.flag f := hu ▸ siltCtl_flag _ _ h
  have hobs : u.obs = s.obs := hu ▸ rfl
  have hload : u.flushAsk.siltLoad = { u with obs := { u.obs with flushReq := true } } := by
    rw [flushAsk_waits (.inr ((hflag (by decide)).trans hrestored)), State.siltLoad]
    exact if_neg (by rw [hobs, hunread]; exact Bool.false_ne_true)
  have hport := flsServe_portAlike ({ u with obs := { u.obs with flushReq := true } } : State)
  rw [State.siltStart, hload, hport.obs, hport.flag (by decide)]
  exact ⟨rfl, hflag (by decide)⟩

theorem siltFlushTimer_completes (hcount : 0 < s.obs.bufCount) (hflushing : s.flag F.OBS_STAT_FLUSHING = false) : Completes .siltFlushTimer s fun t =>
    t = (s.advanceTo (s.obs.bufSince + 10 ^ 9 * max 1 (s.fld F.OBS_SILT_CTL_FLUSH_S))).siltStart := by
  refine completes_of_exec ?_ rfl
  rw [show exec .siltFlushTimer s = execSiltFlushTimer s from rfl, execSiltFlushTimer, if_pos ⟨hcount, hflushing⟩]

/-- The records of a flush have left the buffer. -/
def State.siltDrained (s : State) : State :=
  let n := s.obs.flushing
  let u : State := { s with obs := { s.obs with
    bufHead := (s.obs.bufHead + n) % 2048, bufCount := s.obs.bufCount - n, bufSince := s.obs.bufNext.getD s.clp.now, flushing := 0 } }
  (u.setFld F.OBS_SILT_STAT_BUFFERED u.obs.bufCount).setFld F.OBS_STAT_FLUSHING 0

theorem siltDone_of_plain (hlost : s.obs.lost = 0) (hreq : s.obs.flushReq = false) (hphase : s.pwr.phase ≠ .failing) :
    s.siltDone = (s.siltDrained.raise F.OBS_EVT_FLUSH_DONE).flsServe := by
  have hobs : (s.siltDrained.raise F.OBS_EVT_FLUSH_DONE).flsServe.obs = s.siltDrained.obs := (flsServe_portAlike _).obs.trans (raise_obs _ _ _)
  have hno : ¬(s.siltDrained.pwr.phase = .failing ∧ 0 < s.siltDrained.obs.bufCount) := fun h => hphase h.1
  have hzero : (s.siltDrained.raise F.OBS_EVT_FLUSH_DONE).flsServe.obs.lost = 0 := by rw [hobs]; exact hlost
  have hnot : (s.siltDrained.raise F.OBS_EVT_FLUSH_DONE).flsServe.obs.flushReq = false := by rw [hobs]; exact hreq
  rw [State.siltDone]
  refine (if_neg hno).trans ?_
  change ((s.siltDrained.raise F.OBS_EVT_FLUSH_DONE).flsServe.on (decide ((s.siltDrained.raise F.OBS_EVT_FLUSH_DONE).flsServe.obs.lost ≠ 0)) _).on
    ((s.siltDrained.raise F.OBS_EVT_FLUSH_DONE).flsServe.on (decide ((s.siltDrained.raise F.OBS_EVT_FLUSH_DONE).flsServe.obs.lost ≠ 0)) _).obs.flushReq _ = _
  rw [hzero, decide_eq_false (fun h => h rfl), on_false, hnot, on_false]

theorem siltFlushDone_completes (hflushing : s.flag F.OBS_STAT_FLUSHING = true) (hidle : s.siltIdle = true) (hlost : s.obs.lost = 0)
    (hreq : s.obs.flushReq = false) (hphase : s.pwr.phase ≠ .failing) : Completes .siltFlushDone s fun t =>
      t.flag F.OBS_STAT_FLUSHING = false ∧ t.flag F.OBS_EVT_FLUSH_DONE = true ∧ t.obs.bufCount = s.obs.bufCount - s.obs.flushing ∧
        t.obs.bufHead = (s.obs.bufHead + s.obs.flushing) % 2048 ∧ t.obs.flushing = 0 := by
  have hexec : exec .siltFlushDone s = .next s.siltDone := by
    rw [show exec .siltFlushDone s = execSiltFlushDone s from rfl, execSiltFlushDone, hflushing, hidle]
    rfl
  have hport := flsServe_portAlike (s.siltDrained.raise F.OBS_EVT_FLUSH_DONE)
  rw [siltDone_of_plain hlost hreq hphase] at hexec
  refine completes_of_exec hexec ?_
  rw [hport.obs, hport.flag (by decide), hport.flag (by decide), raise_obs, flag_raise_id _ _ _ _ (by decide)]
  exact ⟨flag_setFld_zero _ _ _ _ (by decide) rfl, flag_raise_self _ _ _ (by decide) rfl, rfl, rfl, rfl⟩

/-! ## The scan at start-up (R512) -/

theorem ringScan_cases (s : State) : ∃ u : State, (s.fld F.FLS_STAT_MODE = 0 → u = s) ∧ s.ringScan =
    ((u.setFld F.OBS_STAT_RESTORED 1).on (s.fld F.FLS_STAT_MODE != 0) State.eraseAhead).on
      ((u.setFld F.OBS_STAT_RESTORED 1).on (s.fld F.FLS_STAT_MODE != 0) State.eraseAhead).obs.flushReq State.siltStart := by
  refine ⟨_, fun h => ?_, rfl⟩
  simp only [h]

theorem siltRingScan_completes {dt : Nat} (hrestored : s.flag F.OBS_STAT_RESTORED = false) (hfound : s.fls.discovered = true)
    (hmem : s.memReady 7 = true) : Completes (.siltRingScan dt) s fun t => ∃ v w : State, v.flag F.OBS_STAT_RESTORED = true ∧
      t = w.on w.obs.flushReq State.siltStart ∧ (s.fld F.FLS_STAT_MODE ≠ 0 → w = v.eraseAhead) ∧
        (s.fld F.FLS_STAT_MODE = 0 → w = v ∧ v.fld F.OBS_SILT_SEQ_SEQ = s.fld F.OBS_SILT_SEQ_SEQ) := by
  have hexec : exec (.siltRingScan dt) s = .next (s.after dt).ringScan := by
    rw [show exec (.siltRingScan dt) s = execSiltRingScan dt s from rfl, execSiltRingScan, hrestored, hfound, hmem]
    rfl
  obtain ⟨u, hu, hscan⟩ := ringScan_cases (s.after dt)
  rw [after_fld] at hu hscan
  refine completes_of_exec hexec ⟨u.setFld F.OBS_STAT_RESTORED 1, _, flag_setFld_one _ _ _ _ (by decide) rfl, hscan, fun hmode => ?_, fun hmode => ?_⟩
  · rw [bne_iff_ne.mpr hmode, on_true]
  · rw [hmode]
    refine ⟨rfl, ?_⟩
    rw [hu hmode, fld_setFld_id _ _ _ _ _ _ (by decide), after_fld]

theorem siltRingScan_waits {dt : Nat} (h : s.flag F.OBS_STAT_RESTORED = true ∨ s.fls.discovered = false ∨ s.memReady 7 = false) :
    Completes (.siltRingScan dt) s fun t => t = s := by
  refine completes_of_exec ?_ rfl
  rw [show exec (.siltRingScan dt) s = execSiltRingScan dt s from rfl, execSiltRingScan]
  refine if_pos ?_
  rcases h with h | h | h
  · rw [h, Bool.true_or, Bool.true_or]
  · rw [h, Bool.not_false, Bool.or_true, Bool.true_or]
  · rw [h, Bool.not_false, Bool.or_true]

/-- Settles O52. -/
theorem stillAndSilt : Obligations.StillAndSilt := by
  unfold Obligations.StillAndSilt
  exact ⟨⟨fun _ d hpend hheld hphase hr => stillTake_completes d hpend hheld hphase hr,
      fun _ _ hpend hheld hd hr => stillTake_held_completes hpend hheld hd hr, fun _ d hpend href hr => stillRelease_completes d hpend href hr,
      fun _ d hpend href hphase hr => stillRelease_takes d hpend href hphase hr, fun _ hpend hphase => stillSnapshot_completes hpend hphase,
      fun _ _ _ hu hc => countersClear_reg hu hc, fun _ hauto hpend hheld hphase => stillAuto_completes hauto hpend hheld hphase,
      fun _ hr => opHour_completes hr, fun _ hr => opHour_held hr⟩,
    fun _ _ _ value h hr => siltPostWrite_taken value h hr, fun _ _ _ value hreq hcode hr => siltPostWrite_refused value hreq hcode hr,
    fun _ code value rank h => siltPost_statistics code value rank h, fun _ code value rank _ hp => siltPost_keepsPosts code value rank hp,
    fun _ hcount hposts hr => statClear_completes hcount hposts hr, fun _ hflushing hrestored hr => siltFlush_starts hflushing hrestored hr,
    fun _ h => flushAsk_waits h, fun _ hrestored hunread hr => siltFlush_waits hrestored hunread hr,
    fun _ hcount hflushing => siltFlushTimer_completes hcount hflushing,
    fun _ hflushing hidle hlost hreq hphase => siltFlushDone_completes hflushing hidle hlost hreq hphase,
    fun _ _ hrestored hfound hmem => siltRingScan_completes hrestored hfound hmem, fun _ _ h => siltRingScan_waits h⟩

end Sys2Proof.Machine
end

section
/-! PROOFS. Runs of bytes of a memory whose words are good: what a read gives and what a store leaves (R439, R442). -/

namespace Sys2Proof.Machine

/-! ## Runs of bytes -/

theorem length_memBytes (s : State) (m o n : Nat) : (s.memBytes m o n).length = n := by simp [State.memBytes]

theorem memBytes_append (s : State) (m o n k : Nat) : s.memBytes m o n ++ s.memBytes m (o + n) k = s.memBytes m o (n + k) := by
  simp [State.memBytes, List.range_add, Function.comp_def, Nat.add_assoc]

theorem memBytes_take {n k : Nat} (s : State) (m o : Nat) (h : k ≤ n) : (s.memBytes m o n).take k = s.memBytes m o k := by
  rw [← Nat.add_sub_cancel' h, ← memBytes_append, List.take_left' (length_memBytes ..)]

theorem memBytes_drop {n k : Nat} (s : State) (m o : Nat) (h : k ≤ n) : (s.memBytes m o n).drop k = s.memBytes m (o + k) (n - k) := by
  conv => lhs; rw [← Nat.add_sub_cancel' h, ← memBytes_append, List.drop_left' (length_memBytes ..)]

theorem leBytes_memWord (s : State) (m w : Nat) : leBytes 8 (s.memWord m w) = s.memBytes m (8 * w) 8 := by
  refine List.ext_getElem (by rw [length_leBytes, length_memBytes]) fun k hk _ => ?_
  rw [length_leBytes] at hk
  have hbyte := memWord_byte s m (8 * w + k)
  rw [show (8 * w + k) / 8 = w by omega, show (8 * w + k) % 8 = k by omega] at hbyte
  rw [getElem_leBytes, hbyte]
  simp [State.memBytes]

/-! ## Reads -/

theorem memReads_words {s : State} {m : Nat} (h : ∀ x, s.eccOf m x = none) (w n : Nat) :
    ∃ vs, s.memReads m w n = (vs, false, s) ∧ vs.flatMap (leBytes 8) = s.memBytes m (8 * w) (8 * n) := by
  induction n generalizing w with
  | zero => exact ⟨[], rfl, rfl⟩
  | succ n ih =>
    obtain ⟨vs, hread, hbytes⟩ := ih (w + 1)
    refine ⟨s.memWord m w :: vs, by simp [State.memReads, memRead_of_good (h w), hread, WordRead.val, WordRead.isBad], ?_⟩
    rw [List.flatMap_cons, leBytes_memWord, hbytes, show 8 * (w + 1) = 8 * w + 8 by omega, memBytes_append, show 8 + 8 * n = 8 * (n + 1) by omega]

theorem length_wordsOf (o n : Nat) : (wordsOf o n).length = if n = 0 then 0 else (o + n - 1) / 8 + 1 - o / 8 := by
  unfold wordsOf
  split <;> simp

/-- A read of good words gives the bytes as they are stored, and changes nothing. -/
theorem memLoad_of_good {s : State} {m : Nat} (h : ∀ x, s.eccOf m x = none) (o n : Nat) : s.memLoad m o n = (s.memBytes m o n, false, s) := by
  obtain ⟨vs, hread, hbytes⟩ := memReads_words h (o / 8) (wordsOf o n).length
  have hcut : ((vs.flatMap (leBytes 8)).drop (o % 8)).take n = s.memBytes m o n := by
    rw [hbytes, length_wordsOf]
    split
    · subst n
      rfl
    · rw [memBytes_drop _ _ _ (by omega), memBytes_take _ _ _ (by omega), show 8 * (o / 8) + o % 8 = o by omega]
  simp only [State.memLoad, hread, hcut]

/-! ## Stores -/

theorem sealWords_of_good {s : State} {m : Nat} (harm : s.flag F.MEM_FLIP_CTL_ARM = false) (ws : List Nat) :
    (s.sealWords m ws).regs = s.regs ∧ (s.sealWords m ws).hst = s.hst ∧ ((∀ x, s.eccOf m x = none) → ∀ x, (s.sealWords m ws).eccOf m x = none) := by
  induction ws generalizing s with
  | nil => exact ⟨rfl, rfl, id⟩
  | cons w ws ih =>
    have hmiss : (s.eccClear m w).flipHits m w = false := by
      rw [State.flipHits, flag_congr (show (s.eccClear m w).regs = s.regs from rfl), harm]
      rfl
    obtain ⟨hregs, hhst, hecc⟩ := ih (s := s.eccClear m w) harm
    rw [State.sealWords, flipApply_of_misses hmiss]
    refine ⟨hregs, hhst, fun hnone => hecc fun x => ?_⟩
    by_cases hx : x = w
    · rw [hx, eccOf_eccClear]
    · exact (SMap.find?_del_ne _ fun heq => hx (by simpa [eccKey] using heq)).trans (hnone x)

theorem setMemBytes_ecc (s : State) (m o : Nat) (bs : List Byte) : (s.setMemBytes m o bs).ecc = s.ecc := by
  induction bs generalizing s o with
  | nil => rfl
  | cons b bs ih => exact ih (s.setMemByte m o b) (o + 1)

theorem setMemBytes_hst (s : State) (m o : Nat) (bs : List Byte) : (s.setMemBytes m o bs).hst = s.hst := by
  induction bs generalizing s o with
  | nil => rfl
  | cons b bs ih => exact ih (s.setMemByte m o b) (o + 1)

/-- What a run of stores finds and leaves: good words of a memory, and a flip-mask that is not armed. -/
def State.StoresGood (s : State) (m : Nat) : Prop := (∀ x, s.eccOf m x = none) ∧ s.flag F.MEM_FLIP_CTL_ARM = false

theorem memStore_of_good {s : State} {m : Nat} (h : s.StoresGood m) (o : Nat) (bs : List Byte) : (s.memStore m o bs).2.StoresGood m ∧
    (s.memStore m o bs).2.mem = (s.setMemBytes m o bs).mem ∧ (s.memStore m o bs).2.regs = s.regs ∧ (s.memStore m o bs).2.hst = s.hst := by
  obtain ⟨hecc, harm⟩ := h
  have hregs := setMemBytes_regs s m o bs
  have hstored : ∀ x, (s.setMemBytes m o bs).eccOf m x = none := fun x => by rw [State.eccOf, setMemBytes_ecc]; exact hecc x
  obtain ⟨hseal, hhst, hgood⟩ := sealWords_of_good (m := m) ((flag_congr hregs _ 0 0).trans harm) (wordsOf o bs.length)
  have hall : ∀ x ∈ wordsOf o bs.length, coversPart o bs.length x = true → s.eccOf m x = none := fun x _ _ => hecc x
  simp only [State.memStore, partialCheck_of_good (wordsOf o bs.length) hall, Bool.false_eq_true, if_false]
  exact ⟨⟨hgood hstored, (flag_congr (hseal.trans hregs) _ 0 0).trans harm⟩, sealWords_mem .., hseal.trans hregs, hhst.trans (setMemBytes_hst ..)⟩

end Sys2Proof.Machine
end

section
/-! PROOFS. What the messages of events leave of the host link's state (R527). -/

namespace Sys2Proof.Machine

/-- A part of the host link's state that is neither a pending bit nor a message. -/
def HostState.NoMessage {β : Type} (q : HostState → β) : Prop :=
  ∀ (h : HostState) pba sent msgs, q { h with pba := pba, sent := sent, msgs := msgs } = q h

variable {β : Type} {q : HostState → β}

theorem State.SameButMessages.hst_part {s t : State} (h : s.SameButMessages t) (hq : HostState.NoMessage q) : q t.hst = q s.hst := by
  obtain ⟨_, _, _, rfl⟩ := h
  exact hq ..

theorem raise_hst_part (s : State) (f : Fld) (i : Nat) (hq : HostState.NoMessage q) : q (s.raise f i).hst = q s.hst := by
  rw [State.raise]
  refine (on_component (c := fun t : State => q t.hst) _ _ ((sendVector_sameButMessages ..).hst_part hq)).trans ?_
  exact congrArg q (noteEvent_hst s f i)

theorem lower_hst_part (s : State) (f : Fld) (i : Nat) (hq : HostState.NoMessage q) : q (s.lower f i).hst = q s.hst :=
  (settleVector_sameButMessages _ _).hst_part hq

end Sys2Proof.Machine
end

section
/-! PROOFS. `Obligations.SpiAndFlash`, SPI part: the management SPI target's transactions (R400, R401). -/

namespace Sys2Proof.Machine

/-! ## Ends of a transaction -/

theorem spiOpen_of_released {s : State} {dt : Nat} (hr : s.released = true) (f : State → State) : (s.after dt).spiOpen f = f (s.after dt) :=
  if_pos ((after_released s dt).trans hr)

theorem spiOpen_of_held {s : State} {dt : Nat} (hr : s.released = false) (f : State → State) :
    (s.after dt).spiOpen f = { s.after dt with hst := { (s.after dt).hst with spiOut := [] } } :=
  if_neg (by rw [after_released, hr]; exact Bool.false_ne_true)

section
variable (s : State) {k : Nat} (hk : k ≠ 0) (out : List Byte)
include hk

theorem spiEnd_of_error : s.spiEnd k out =
    (({ s with hst := { s.hst with spi := k, spiOut := out } }.raise F.HST_EVT_SPI_ERR).bump F.HST_CNT_SPI_ERR_COUNT) := if_neg hk

theorem spiEnd_spi : (s.spiEnd k out).hst.spi = k := by
  rw [spiEnd_of_error s hk, bump_hst]
  exact raise_hst_part (q := HostState.spi) _ _ _ fun _ _ _ _ => rfl

theorem spiEnd_spiOut : (s.spiEnd k out).hst.spiOut = out := by
  rw [spiEnd_of_error s hk, bump_hst]
  exact raise_hst_part (q := HostState.spiOut) _ _ _ fun _ _ _ _ => rfl

theorem spiEnd_clp : (s.spiEnd k out).clp = s.clp := by rw [spiEnd_of_error s hk, bump_clp, raise_clp]

theorem spiEnd_event : (s.spiEnd k out).flag F.HST_EVT_SPI_ERR = true := by
  rw [spiEnd_of_error s hk, flag_bump_id _ _ _ _ _ _ (by decide), flag_raise_self _ _ _ (by decide) rfl]

theorem spiEnd_count : (s.spiEnd k out).fld F.HST_CNT_SPI_ERR_COUNT = min 0xFFFFFFFF (s.fld F.HST_CNT_SPI_ERR_COUNT + 1) := by
  rw [spiEnd_of_error s hk, fld_bump_32 _ _ _ _ rfl rfl, fld_raise_id _ _ _ _ (by decide)]
  rfl

end

/-! ## Registers -/

theorem spiRead_of_width {off w : Nat} (s : State) (r : Bool) (hw : widthOk off w = false) :
    s.spiRead off w r = s.spiEnd 2 (List.replicate w 0xFF ++ [2]) := by simp [State.spiRead, hw, State.spiNoData]

theorem spiRead_of_ready {s : State} {off w : Nat} (hw : widthOk off w = true) (hr : s.readReady off = true) :
    s.spiRead off w true = (s.busRead 128 off).2.spiEnd 0 (leBytes w (s.busRead 128 off).1.toNat ++ [0]) := by
  simp [State.spiRead, hw, hr]

theorem spiRead_of_late {s : State} {off w : Nat} {r : Bool} (hw : widthOk off w = true) (hr : r = false ∨ s.readReady off = false) :
    ∃ u : State, s.spiRead off w r = u.spiEnd 1 (List.replicate w 0xFF ++ [1]) := by
  rcases hready : s.readReady off with _ | _
  · exact ⟨s, by simp [State.spiRead, hw, hready, State.spiNoData]⟩
  · obtain rfl : r = false := by simpa [hready] using hr
    exact ⟨_, by simp only [State.spiRead, hw, hready, State.spiNoData, Bool.not_true, Bool.false_eq_true, if_false]; rfl⟩

theorem readReady_after (s : State) (dt off : Nat) : (s.after dt).readReady off = s.readReady off := by
  unfold State.readReady
  simp only [after_memReady]

theorem spiWrite_of_width {off w : Nat} (s : State) (d : Word) (hw : widthOk off w = true) :
    s.spiWrite off w d = (s.busWrite 128 off w d).spiEnd 0 := if_pos hw

theorem spiWrite_of_misfit {off w : Nat} (s : State) (d : Word) (hw : widthOk off w = false) : s.spiWrite off w d = s.spiEnd 2 :=
  if_neg (by rw [hw]; exact Bool.false_ne_true)

/-! ## Packet memory -/

theorem spiLoad_of_good {s : State} (h : ∀ x, s.eccOf 0 x = none) (rs : List (Nat × Nat)) :
    s.spiLoad rs = (rs.flatMap fun r => s.memBytes 0 r.1 r.2, s) := by
  induction rs with
  | nil => rfl
  | cons r rs ih => simp only [State.spiLoad, memLoad_of_good h, ih, List.flatMap_cons]

theorem memReads_clp (m n : Nat) (s : State) (w : Nat) : (s.memReads m w n).2.2.clp = s.clp := by
  induction n generalizing s w with
  | zero => rfl
  | succ n ih => exact (ih _ _).trans (memRead_txAlike s m w).clp

theorem spiLoad_clp (rs : List (Nat × Nat)) (s : State) : (s.spiLoad rs).2.clp = s.clp := by
  induction rs generalizing s with
  | nil => rfl
  | cons r rs ih => exact (ih _).trans (memReads_clp ..)

/-- The part of a run of bytes that lies in word `w`. -/
def spiPiece (o : Nat) (bs : List Byte) (w : Nat) : List Byte :=
  (bs.drop (max o (8 * w) - o)).take (min (o + bs.length) (8 * w + 8) - max o (8 * w))

theorem length_spiPiece (o : Nat) (bs : List Byte) (w : Nat) :
    (spiPiece o bs w).length = min (o + bs.length) (8 * w + 8) - max o (8 * w) := by
  rw [spiPiece, List.length_take, List.length_drop]
  omega

theorem memByte_spiPiece (s : State) {o w m a : Nat} {bs : List Byte} (hend : o + bs.length ≤ 2 ^ 24) (ha : a < 2 ^ 24) :
    (s.setMemBytes 0 (max o (8 * w)) (spiPiece o bs w)).memByte m a =
      if m = 0 ∧ o ≤ a ∧ a < o + bs.length ∧ a / 8 = w then bs.getD (a - o) 0 else s.memByte m a := by
  have hlen := length_spiPiece o bs w
  by_cases hsmall : spiPiece o bs w = []
  · rw [hsmall, List.length_nil] at hlen
    rw [hsmall, if_neg (by omega)]
    rfl
  · have hpos := List.length_pos_iff.mpr hsmall
    rw [memByte_setMemBytes _ _ _ _ (by omega) ha]
    split
    case isTrue h =>
      rw [if_pos (by omega), List.getD_eq_getElem _ _ (by omega)]
      simp only [spiPiece, List.getElem_take, List.getElem_drop]
      congr 1
      omega
    case isFalse h => rw [if_neg (by omega)]

/-- A run of bytes that is stored word by word, over words that are good. -/
theorem spiStore_words {o m a : Nat} {bs : List Byte} (hend : o + bs.length ≤ 2 ^ 24) (ha : a < 2 ^ 24) (ws : List Nat) {s t : State}
    (hs : s.StoresGood 0) (ht : t = ws.foldl (fun s w => (s.memStore 0 (max o (8 * w)) (spiPiece o bs w)).2) s) :
    t.memByte m a = if m = 0 ∧ o ≤ a ∧ a < o + bs.length ∧ a / 8 ∈ ws then bs.getD (a - o) 0 else s.memByte m a := by
  induction ws generalizing s with
  | nil => simp [ht]
  | cons w ws ih =>
    obtain ⟨hgood, hmem, -⟩ := memStore_of_good hs (max o (8 * w)) (spiPiece o bs w)
    rw [ih hgood ht, memByte_of_mem hmem, memByte_spiPiece s hend ha]
    grind

theorem spiStore_of_good {s : State} {o m a : Nat} {bs : List Byte} (hs : s.StoresGood 0) (hend : o + bs.length ≤ 2 ^ 24) (ha : a < 2 ^ 24) :
    (s.spiStore o bs).memByte m a = if m = 0 ∧ o ≤ a ∧ a < o + bs.length then bs.getD (a - o) 0 else s.memByte m a := by
  rw [spiStore_words (m := m) (t := s.spiStore o bs) hend ha (wordsOf o bs.length) hs rfl]
  refine if_congr (and_congr_right fun _ => and_congr_right fun hlo => ?_) rfl rfl
  rw [mem_wordsOf]
  omega

theorem spiStore_nil (s : State) (o : Nat) : s.spiStore o [] = s := rfl

/-! ## The transactions -/

section
variable {s : State} {dt off : Nat} (hr : s.released = true)
include hr

theorem spiRegRead_of_ready : ∀ e ∈ [(Instr.spiRegRead32 dt off true, 4), (.spiRegRead64 dt off true, 8)],
    widthOk off e.2 = true → s.readReady off = true → Completes e.1 s fun t =>
      t = ((s.after dt).busRead 128 off).2.spiEnd 0 (leBytes e.2 ((s.after dt).busRead 128 off).1.toNat ++ [0]) := by
  simp only [List.forall_mem_cons, List.not_mem_nil, false_imp_iff, implies_true, and_true]
  refine ⟨fun hw hready => ⟨_, rfl, ?_⟩, fun hw hready => ⟨_, rfl, ?_⟩⟩
  all_goals rw [spiOpen_of_released hr, spiRead_of_ready hw ((readReady_after ..).trans hready)]

theorem spiRegRead_of_width (r : Bool) : ∀ e ∈ [(Instr.spiRegRead32 dt off r, 4), (.spiRegRead64 dt off r, 8)],
    widthOk off e.2 = false → Completes e.1 s fun t => t = (s.after dt).spiEnd 2 (List.replicate e.2 0xFF ++ [2]) := by
  simp only [List.forall_mem_cons, List.not_mem_nil, false_imp_iff, implies_true, and_true]
  refine ⟨fun hw => ⟨_, rfl, ?_⟩, fun hw => ⟨_, rfl, ?_⟩⟩
  all_goals rw [spiOpen_of_released hr, spiRead_of_width _ _ hw]

theorem spiRegRead_of_late (r : Bool) : ∀ e ∈ [(Instr.spiRegRead32 dt off r, 4), (.spiRegRead64 dt off r, 8)],
    widthOk off e.2 = true → (r = false ∨ s.readReady off = false) → Completes e.1 s fun t => t.hst.spi = 1 ∧
      t.hst.spiOut = List.replicate e.2 0xFF ++ [1] ∧ t.flag F.HST_EVT_SPI_ERR = true := by
  have hlate {w : Nat} (hw : widthOk off w = true) (h : r = false ∨ s.readReady off = false) :
      let t := (s.after dt).spiOpen fun s => s.spiRead off w r
      t.hst.spi = 1 ∧ t.hst.spiOut = List.replicate w 0xFF ++ [1] ∧ t.flag F.HST_EVT_SPI_ERR = true := by
    obtain ⟨u, hu⟩ := spiRead_of_late hw (h.imp_right (readReady_after s dt off).trans)
    simp only [spiOpen_of_released hr, hu]
    exact ⟨spiEnd_spi u one_ne_zero _, spiEnd_spiOut u one_ne_zero _, spiEnd_event u one_ne_zero _⟩
  simp only [List.forall_mem_cons, List.not_mem_nil, false_imp_iff, implies_true, and_true]
  exact ⟨fun hw h => ⟨_, rfl, hlate hw h⟩, fun hw h => ⟨_, rfl, hlate hw h⟩⟩

theorem spiRegWrite_spec (d : Word) :
    (widthOk off 4 = true → Completes (.spiRegWrite32 dt off d) s fun t => t = ((s.after dt).busWrite 128 off 4 (d &&& 0xFFFFFFFF)).spiEnd 0) ∧
    (widthOk off 4 = false → Completes (.spiRegWrite32 dt off d) s fun t => t = (s.after dt).spiEnd 2) ∧
    (widthOk off 8 = true → Completes (.spiRegWrite64 dt off d) s fun t => t = ((s.after dt).busWrite 128 off 8 d).spiEnd 0) ∧
    (widthOk off 8 = false → Completes (.spiRegWrite64 dt off d) s fun t => t = (s.after dt).spiEnd 2) := by
  refine ⟨fun hw => ⟨_, rfl, ?_⟩, fun hw => ⟨_, rfl, ?_⟩, fun hw => ⟨_, rfl, ?_⟩, fun hw => ⟨_, rfl, ?_⟩⟩
  · rw [spiOpen_of_released hr, spiWrite_of_width _ _ hw]
  · rw [spiOpen_of_released hr, spiWrite_of_misfit _ _ hw]
  · rw [spiOpen_of_released hr, spiWrite_of_width _ _ hw]
  · rw [spiOpen_of_released hr, spiWrite_of_misfit _ _ hw]

theorem spiPktRead_of_ready (o n : Nat) (hmem : s.memReady 0 = true) (hecc : ∀ x, s.eccOf 0 x = none) :
    Completes (.spiPktRead ⟨dt, true⟩ o n) s fun t => t = { s.after dt with hst := { (s.after dt).hst with
      spi := 0, spiOut := (spiRuns o n).flatMap fun r => s.memBytes 0 r.1 r.2 } } := by
  have hafter : ∀ x, (s.after dt).eccOf 0 x = none := fun x => by rw [State.eccOf, after_ecc]; exact hecc x
  have hbytes (r : Nat × Nat) : (s.after dt).memBytes 0 r.1 r.2 = s.memBytes 0 r.1 r.2 := by
    simp only [State.memBytes, memByte_of_mem (after_mem s dt)]
  refine ⟨_, rfl, ?_⟩
  simp only [spiOpen_of_released hr, after_memReady, hmem, spiLoad_of_good hafter, hbytes]
  rfl

theorem spiPktRead_of_late (r : PktRead) (o n : Nat) (h : r.ready = false ∨ s.memReady 0 = false) : Completes (.spiPktRead r o n) s fun t =>
    t.hst.spi = 1 ∧ t.hst.spiOut = List.replicate n 0xFF ∧ t.flag F.HST_EVT_SPI_ERR = true ∧ t.clp.now = s.clp.now + r.dt := by
  have hends (u : State) (hu : u.clp = (s.after r.dt).clp) : let t := u.spiEnd 1 (List.replicate n 0xFF)
      t.hst.spi = 1 ∧ t.hst.spiOut = List.replicate n 0xFF ∧ t.flag F.HST_EVT_SPI_ERR = true ∧ t.clp.now = s.clp.now + r.dt :=
    ⟨spiEnd_spi u one_ne_zero _, spiEnd_spiOut u one_ne_zero _, spiEnd_event u one_ne_zero _, by
      rw [spiEnd_clp u one_ne_zero, hu, after_now]⟩
  refine ⟨_, rfl, ?_⟩
  rw [spiOpen_of_released hr]
  rcases hmem : s.memReady 0 with _ | _
  · simp only [after_memReady, hmem, Bool.not_false, if_true]
    exact hends _ rfl
  · obtain hready : r.ready = false := by simpa [hmem] using h
    simp only [after_memReady, hmem, hready, Bool.not_true, Bool.false_eq_true, if_false]
    exact hends _ (on_component (c := State.clp) _ _ (spiLoad_clp ..))

theorem spiPktWrite_of_good (o : Nat) (bs : List Byte) (hend : o + bs.length ≤ 2 ^ 24) (hecc : ∀ x, s.eccOf 0 x = none)
    (harm : s.flag F.MEM_FLIP_CTL_ARM = false) : Completes (.spiPktWrite dt o bs) s fun t => t.hst.spi = 0 ∧
      ∀ m a, a < 2 ^ 24 → t.memByte m a = if m = 0 ∧ o ≤ a ∧ a < o + bs.length then bs.getD (a - o) 0 else s.memByte m a := by
  have hgood : (s.after dt).StoresGood 0 := ⟨fun x => by rw [State.eccOf, after_ecc]; exact hecc x, (after_flag ..).trans harm⟩
  refine ⟨_, rfl, ?_⟩
  rw [spiOpen_of_released hr]
  refine ⟨rfl, fun m a ha => ?_⟩
  rw [List.drop_eq_nil_of_le (by omega), spiStore_nil, List.take_of_length_le (by omega)]
  refine (spiStore_of_good hgood (by omega) ha).trans ?_
  rw [memByte_of_mem (after_mem s dt)]
  grind

theorem spiStatusRead_spec : Completes (.spiStatusRead dt) s fun t =>
    t = { s.after dt with hst := { (s.after dt).hst with spiOut := [BitVec.ofNat 8 s.hst.spi] } } :=
  ⟨_, rfl, by rw [spiOpen_of_released hr, after_hst]⟩

theorem spiBadTransaction_spec : Completes (.spiBadTransaction dt) s fun t => t.hst.spi = 3 ∧ t.flag F.HST_EVT_SPI_ERR = true ∧
    t.fld F.HST_CNT_SPI_ERR_COUNT = min 0xFFFFFFFF (s.fld F.HST_CNT_SPI_ERR_COUNT + 1) := by
  refine ⟨_, rfl, ?_⟩
  rw [spiOpen_of_released hr]
  refine ⟨spiEnd_spi _ three_ne_zero _, spiEnd_event _ three_ne_zero _, ?_⟩
  rw [spiEnd_count _ three_ne_zero, after_fld]

end

theorem spi_of_held {s : State} (dt o n : Nat) (d : Word) (r : Bool) (bs : List Byte) (hr : s.released = false) :
    ∀ c ∈ [Instr.spiRegRead32 dt o r, .spiRegRead64 dt o r, .spiRegWrite32 dt o d, .spiRegWrite64 dt o d, .spiPktRead ⟨dt, r⟩ o n,
        .spiPktWrite dt o bs, .spiStatusRead dt, .spiBadTransaction dt], Completes c s fun t =>
      t = { s.after dt with hst := { (s.after dt).hst with spiOut := [] } } := by
  simp only [List.forall_mem_cons, List.not_mem_nil, false_imp_iff, implies_true, and_true]
  exact ⟨⟨_, rfl, spiOpen_of_held hr _⟩, ⟨_, rfl, spiOpen_of_held hr _⟩, ⟨_, rfl, spiOpen_of_held hr _⟩, ⟨_, rfl, spiOpen_of_held hr _⟩,
    ⟨_, rfl, spiOpen_of_held hr _⟩, ⟨_, rfl, spiOpen_of_held hr _⟩, ⟨_, rfl, spiOpen_of_held hr _⟩, ⟨_, rfl, spiOpen_of_held hr _⟩⟩

end Sys2Proof.Machine
end

section
/-! PROOFS. `Obligations.SpiAndFlash`, flash part: the port's order of work and its two command interfaces (R402–R406). -/

namespace Sys2Proof.Machine

/-! ## The port -/

section
variable {s : State}

/-- What the port's service shows of an idle port without work: a suspended erase goes on, or OP_BUSY clears. -/
theorem flsServe_of_idle (hw : s.fls.waiting = []) :
    s.flsServe = s ∨ s.flsServe = s.setFld F.FLS_STAT_OP_BUSY 0 ∨ s.flsServe = s.flsResume := by
  unfold State.flsServe
  split
  · exact .inl rfl
  · simp only [hw, List.filter_nil, List.map_nil, List.min?_nil]
    split
    · exact .inr (.inl rfl)
    · exact .inr (.inr rfl)

theorem flsServe_without_work (hb : s.fls.busy = none) (hw : s.fls.waiting = []) (hs : s.fls.suspended = none)
    (hmode : s.fld F.FLS_STAT_MODE ≠ 0) : s.flsServe = s.setFld F.FLS_STAT_OP_BUSY 0 := by
  have hidle : (s.fls.busy.isSome || s.fld F.FLS_STAT_MODE == 0) = false := by simp [hb, hmode]
  have hresume : s.flsResume = s.setFld F.FLS_STAT_OP_BUSY 0 := by simp only [State.flsResume, hs]
  unfold State.flsServe
  rw [hidle, if_neg Bool.false_ne_true]
  simp only [hw, List.filter_nil, List.map_nil, List.min?_nil, hresume, ite_self]

theorem flsResume_keeps : s.flsResume.clp = s.clp ∧ s.flsResume.fls.discovered = s.fls.discovered ∧
    ∀ g : Fld, g.lo + g.w ≤ 4 → s.flsResume.fld g = s.fld g := by
  unfold State.flsResume
  split
  · refine ⟨rfl, rfl, fun g hg => ?_⟩
    rw [fld_setFld_disjoint _ _ _ _ _ _ (by decide) (.inl (hg.trans (by decide))), fld_setFld_disjoint _ _ _ _ _ _ (by decide) (.inl hg)]
    rfl
  · exact ⟨rfl, rfl, fun g hg => fld_setFld_disjoint _ _ _ _ _ _ (by decide) (.inl hg)⟩

theorem flsServe_of_idle_keeps (hw : s.fls.waiting = []) : s.flsServe.clp = s.clp ∧
    s.flsServe.fls.discovered = s.fls.discovered ∧ ∀ g : Fld, g.lo + g.w ≤ 4 → s.flsServe.fld g = s.fld g := by
  rcases flsServe_of_idle hw with h | h | h
  · rw [h]
    exact ⟨rfl, rfl, fun _ _ => rfl⟩
  · rw [h]
    exact ⟨rfl, rfl, fun g hg => fld_setFld_disjoint _ _ _ _ _ _ (by decide) (.inl hg)⟩
  · rw [h]
    exact flsResume_keeps

/-- The waiting work that is ready comes to the idle port in the order of R406. -/
theorem flsServe_of_ready {w : FlsOp} (hb : s.fls.busy = none) (hs : s.fls.suspended = none) (hmode : s.fld F.FLS_STAT_MODE ≠ 0)
    (hmin : ((s.fls.waiting.filter fun w => w.src == 0 || !s.flushHolds).map fun w => w.src).min? = some w.src)
    (hfind : (s.fls.waiting.filter fun w => w.src == 0 || !s.flushHolds).find? (fun v => v.src == w.src) = some w) :
    s.flsServe = { s with fls := { s.fls with busy := some w, waiting := s.fls.waiting.erase w, startedAt := some s.clp.now } }.setFld
      F.FLS_STAT_OP_BUSY 1 := by
  have hidle : (s.fls.busy.isSome || s.fld F.FLS_STAT_MODE == 0) = false := by simp [hb, hmode]
  unfold State.flsServe
  simp only [hidle, Bool.false_eq_true, if_false, hmin, hfind, hs, Option.isSome_none, Bool.false_and]

theorem flsQueue_of_idle (hb : s.fls.busy = none) (w : FlsOp) :
    s.flsQueue w = { s with fls := { s.fls with waiting := s.fls.waiting ++ [w] } } := by
  have hyield : s.flsYield w.src = s := by simp only [State.flsYield, hb]
  have hkeep : ({ s with fls := { s.fls with waiting := s.fls.waiting ++ [w] } } : State).suspendErase =
      { s with fls := { s.fls with waiting := s.fls.waiting ++ [w] } } := by simp only [State.suspendErase, hb]
  rw [State.flsQueue, hyield]
  exact on_keeps (P := (· = { s with fls := { s.fls with waiting := s.fls.waiting ++ [w] } })) _ rfl hkeep

theorem flsSubmit_of_read (hread : s.obs.unread = false) (w : FlsOp) : s.flsSubmit w = (s.flsQueue w).flsServe := by
  rw [State.flsSubmit, State.siltLoad, if_neg (by rw [hread]; exact Bool.false_ne_true)]

/-- Work that comes to an idle port starts at once. -/
theorem flsSubmit_of_idle {w : FlsOp} (hb : s.fls.busy = none) (hw : s.fls.waiting = []) (hs : s.fls.suspended = none)
    (hmode : s.fld F.FLS_STAT_MODE ≠ 0) (hread : s.obs.unread = false) (hsrc : w.src = 0 ∨ s.flushHolds = false) :
    (s.flsSubmit w).fls.busy = some w ∧ (s.flsSubmit w).flag F.FLS_STAT_OP_BUSY = true := by
  have hready : (w.src == 0 || !s.flushHolds) = true := by rcases hsrc with h | h <;> simp [h]
  let u : State := { s with fls := { s.fls with waiting := s.fls.waiting ++ [w] } }
  have hqueue : s.flsQueue w = u := flsQueue_of_idle hb w
  have hwait : u.fls.waiting = [w] := congrArg (· ++ [w]) hw
  have hholds : u.flushHolds = s.flushHolds := rfl
  rw [flsSubmit_of_read hread, hqueue, flsServe_of_ready (w := w) (s := u) hb hs hmode]
  · exact ⟨rfl, flag_setFld_one _ _ _ _ (by decide) rfl⟩
  · simp [hholds, hwait, hready]
  · simp [hholds, hwait, hready]

/-- Work that comes in the cycle in which the port has taken up work of a later rank goes before it (R406). -/
theorem flsSubmit_of_yield {w b : FlsOp} (hb : s.fls.busy = some b) (hstart : s.fls.startedAt = some s.clp.now) (h1 : 1 ≤ w.src)
    (hrank : w.src < b.src) (hw : s.fls.waiting = []) (hs : s.fls.suspended = none) (hmode : s.fld F.FLS_STAT_MODE ≠ 0)
    (hread : s.obs.unread = false) (hholds : s.flushHolds = false) :
    (s.flsSubmit w).fls.busy = some w ∧ (s.flsSubmit w).fls.waiting = [b] := by
  let u : State := { s with fls := { s.fls with busy := none, waiting := [b, w], startedAt := none } }
  have hqueue : s.flsQueue w = u := by
    have hyield : s.flsYield w.src = { s with fls := { s.fls with busy := none, waiting := [b], startedAt := none } } := by
      simp only [State.flsYield, hb, hstart, hrank, and_self, if_true, hw]
    rw [State.flsQueue, hyield, decide_eq_false (by omega)]
    rfl
  have hu : u.flushHolds = false := hholds
  have hne : b ≠ w := fun h => by simp [h] at hrank
  have hwait : u.fls.waiting = [b, w] := rfl
  rw [flsSubmit_of_read hread, hqueue, flsServe_of_ready (w := w) (s := u) rfl hs hmode]
  · exact ⟨rfl, by simp [hwait, hne]⟩
  · simp [hwait, hu]
    omega
  · simp [hwait, hu, hrank.ne']

end

/-! ## Discovery -/

section
variable {s : State} {dt density : Nat}

theorem flashDiscovery_of_done (mode : Nat) (h : s.released = false ∨ s.fls.discovered = true) :
    Completes (.flashDiscoveryDone dt mode density) s fun t => t = s.after dt := ⟨_, if_pos h, rfl⟩

variable (hr : s.released = true) (hd : s.fls.discovered = false)
include hr hd

/-- The port within 2 ms of the release, its discovery done. -/
def State.flashProbed (s : State) (dt : Nat) : State :=
  let u := s.advanceTo (min (s.clp.now + dt) (s.pwr.released + 2000000))
  { u with fls := { u.fls with discovered := true } }

omit hr hd in
theorem flashProbed_regs : (s.flashProbed dt).regs = s.regs := advanceTo_regs s _

omit hr hd in
theorem flashProbed_now : (s.flashProbed dt).clp.now ≤ max s.clp.now (s.pwr.released + 2000000) := by
  refine (advanceTo_now s _).trans_le ?_
  omega

theorem flashDiscovery_found {mode : Nat} (hm : mode = 1 ∨ mode = 2) (hw : s.fls.waiting = []) :
    Completes (.flashDiscoveryDone dt mode density) s fun t => t.fld F.FLS_STAT_MODE = mode ∧ t.fld F.FLS_STAT_DENSITY = density % 4 ∧
      t.fls.discovered = true ∧ t.clp.now ≤ max s.clp.now (s.pwr.released + 2000000) := by
  have hfls : (s.flashProbed dt).fls = { s.fls with discovered := true } := by simp only [State.flashProbed, advanceTo_fls]
  refine ⟨((((s.flashProbed dt).setFld F.FLS_STAT_MODE mode).setFld F.FLS_STAT_DENSITY (density % 4)).flsServe),
    (if_neg (by simp [hr, hd])).trans (if_pos hm), ?_⟩
  obtain ⟨hclp, hdisc, hfld⟩ := flsServe_of_idle_keeps
    (s := ((s.flashProbed dt).setFld F.FLS_STAT_MODE mode).setFld F.FLS_STAT_DENSITY (density % 4))
    (by rw [setFld_fls, setFld_fls, hfls]; exact hw)
  refine ⟨?_, ?_, ?_, ?_⟩
  · rw [hfld _ (by decide), fld_setFld_disjoint _ _ _ _ _ _ (by decide) (by decide), fld_setFld_self _ _ _ _ _ (by decide)]
    rcases hm with rfl | rfl <;> rfl
  · rw [hfld _ (by decide), fld_setFld_self _ _ _ _ _ (by decide)]
    exact Nat.mod_mod _ _
  · rw [hdisc, setFld_fls, setFld_fls, hfls]
  · rw [hclp]
    exact flashProbed_now

theorem flashDiscovery_failed (hmode : s.fld F.FLS_STAT_MODE = 0) : Completes (.flashDiscoveryDone dt 0 density) s fun t =>
    t.fld F.FLS_STAT_MODE = 0 ∧ t.flag F.FLS_EVT_DISCOVER_FAIL = true := by
  refine ⟨(s.flashProbed dt).raise F.FLS_EVT_DISCOVER_FAIL, (if_neg (by simp [hr, hd])).trans (if_neg (by decide)), ?_,
    flag_raise_self _ _ _ (by decide) rfl⟩
  rw [fld_raise_id _ _ _ _ (by decide), fld_congr flashProbed_regs, hmode]

end

/-! ## The command interfaces -/

section
variable {s : State} {i len : Nat}

theorem flsBuf_setFld_id (f : Fld) (v k : Nat) (h : RegId.FLS_BUF ≠ f.reg) : (s.setFld f v k).flsBuf i = s.flsBuf i := by
  simp only [State.flsBuf, reg_setFld_id s v k 0 i _ h]

theorem flsCmdWrite_accepted (op : Nat) (hb : s.flag F.FLS_CSTAT_BUSY i = false)
    (hok : (s.setFld F.FLS_CSTAT_BUSY 1 i).flsRefusal i op len (s.fld F.FLS_ADDR_ADDR i) = none) : s.flsCmdWrite i op len =
      (s.setFld F.FLS_CSTAT_BUSY 1 i).flsSubmit { src := if i = 0 then 1 else 4, kind := if op = 1 then .read else if op = 2 then .program
        else if op = 3 then .erase4k else .erase64k, addr := s.fld F.FLS_ADDR_ADDR i, len := len, data := (s.flsBuf i).take len } := by
  simp only [State.flsCmdWrite, hb, Bool.false_eq_true, if_false, hok, flsBuf_setFld_id _ _ _ (show RegId.FLS_BUF ≠ F.FLS_CSTAT_BUSY.reg by decide)]

theorem flsCmdWrite_refused (op r : Nat) (hb : s.flag F.FLS_CSTAT_BUSY i = false)
    (hr : (s.setFld F.FLS_CSTAT_BUSY 1 i).flsRefusal i op len (s.fld F.FLS_ADDR_ADDR i) = some r) :
    ∃ v : State, s.flsCmdWrite i op len = v.flsFinish i false r ∧ v.fls = s.fls ∧
      (r = 1 → v.fld F.FLS_CNT_REFUSED_COUNT = min 0xFFFFFFFF (s.fld F.FLS_CNT_REFUSED_COUNT + 1)) := by
  refine ⟨(s.setFld F.FLS_CSTAT_BUSY 1 i).on (r == 1) fun s => s.bump F.FLS_CNT_REFUSED_COUNT, ?_, ?_, ?_⟩
  · simp only [State.flsCmdWrite, hb, Bool.false_eq_true, if_false, hr]
  · exact on_component (c := State.fls) _ _ rfl
  · rintro rfl
    rw [beq_self_eq_true, on_true, fld_bump_32 _ _ _ _ rfl rfl, fld_setFld_id _ _ _ _ _ _ (by decide)]

theorem flsCmdWrite_ignored (op : Nat) (hb : s.flag F.FLS_CSTAT_BUSY i = true) : s.flsCmdWrite i op len = s.raise F.FLS_EVT_CMD_IGNORED :=
  if_pos hb

end

/-! ## The end of a command -/

section
variable (s : State) (i : Nat)

theorem setFlsBuf_keeps (bs : List Byte) :
    (s.setFlsBuf i bs).fls = s.fls ∧ ∀ g : Fld, g.reg ≠ .FLS_BUF → ∀ a b, (s.setFlsBuf i bs).fld g a b = s.fld g a b :=
  List.foldlRecOn (motive := fun t : State => t.fls = s.fls ∧ ∀ g : Fld, g.reg ≠ .FLS_BUF → ∀ a b, t.fld g a b = s.fld g a b) _ _
    ⟨rfl, fun _ _ _ _ => rfl⟩ fun _ h _ _ => ⟨h.1, fun g hg a b => (fld_setReg_id _ _ _ _ _ _ hg).trans (h.2 g hg a b)⟩

theorem flashProgram_regs (bs : List Byte) (a : Nat) : (s.flashProgram a bs).regs = s.regs := by
  induction bs generalizing s a with
  | nil => rfl
  | cons b bs ih => exact ih _ _

theorem flashProgram_order (bs : List Byte) (a : Nat) :
    (s.flashProgram a bs).fls.waiting = s.fls.waiting ∧ (s.flashProgram a bs).fls.suspended = s.fls.suspended := by
  induction bs generalizing s a with
  | nil => exact ⟨rfl, rfl⟩
  | cons b bs ih => exact ih _ _

theorem flsEffect_keeps (w : FlsOp) : (s.flsEffect w).regs = s.regs ∧ (s.flsEffect w).fls.waiting = s.fls.waiting ∧
    (s.flsEffect w).fls.suspended = s.fls.suspended := by
  unfold State.flsEffect
  split
  · exact ⟨rfl, rfl, rfl⟩
  · exact ⟨flashProgram_regs .., flashProgram_order ..⟩
  · exact ⟨rfl, rfl, rfl⟩
  · exact ⟨rfl, rfl, rfl⟩

/-- What a command of interface 0 that ends well leaves. -/
theorem flsFinish_done : let t := s.flsFinish 0 true 0
    t.fls = s.fls ∧ t.flag F.FLS_CSTAT_BUSY 0 = false ∧ t.fld F.FLS_CSTAT_STATUS 0 = 0 ∧ t.flag F.FLS_EVT_CMD_DONE_0 = true ∧
      t.fld F.FLS_STAT_MODE = s.fld F.FLS_STAT_MODE := by
  let u := ((s.setFld F.FLS_CSTAT_BUSY 0 0).setFld F.FLS_CSTAT_STATUS 0 0).setFld F.FLS_CSTAT_REASON 0 0
  have hfinish : s.flsFinish 0 true 0 = u.raise F.FLS_EVT_CMD_DONE_0 := rfl
  simp only [hfinish]
  refine ⟨raise_fls .., ?_, ?_, flag_raise_self _ _ _ (by decide) rfl, ?_⟩
  · rw [flag_raise_id _ _ _ _ (by decide), flag_setFld_disjoint _ _ _ _ _ _ (by decide) (by decide),
      flag_setFld_disjoint _ _ _ _ _ _ (by decide) (by decide), flag_setFld_zero _ _ _ _ (by decide) rfl]
  · rw [fld_raise_id _ _ _ _ (by decide), fld_setFld_disjoint _ _ _ _ _ _ (by decide) (by decide), fld_setFld_self _ _ _ _ _ (by decide)]
    rfl
  · rw [fld_raise_id _ _ _ _ (by decide), fld_setFld_id _ _ _ _ _ _ (by decide), fld_setFld_id _ _ _ _ _ _ (by decide),
      fld_setFld_id _ _ _ _ _ _ (by decide)]

theorem flsCmdEnd_finishes (w : FlsOp) : ∃ u : State, s.flsCmdEnd 0 w false = u.flsFinish 0 true 0 ∧ u.fls = s.fls ∧
    u.fld F.FLS_STAT_MODE = s.fld F.FLS_STAT_MODE := by
  unfold State.flsCmdEnd
  split
  · obtain ⟨hfls, hfld⟩ := setFlsBuf_keeps s 0 (s.flashBytes w.addr w.len)
    exact ⟨_, rfl, hfls, hfld _ (by decide) _ _⟩
  · rw [if_neg Bool.false_ne_true]
    exact ⟨s, rfl, rfl, rfl⟩

end

/-- The state in which the running operation has taken its effect, and the port is idle. -/
def State.flsEffected (s : State) (w : FlsOp) : State := { s.flsEffect w with fls := { (s.flsEffect w).fls with busy := none } }

/-- The end of a command of interface 0. -/
theorem exec_flsCmdDone {s : State} {w : FlsOp} (dt : Nat) (hread : s.obs.unread = false) (hb : s.fls.busy = some w) (hsrc : w.src = 1) :
    exec (.flsCmdDone dt false) s = .next (((s.after dt).flsEffected w).flsCmdEnd 0 w false).flsServe := by
  have hsilt : w.isSilt = false := by rw [FlsOp.isSilt, hsrc]; rfl
  rw [show exec (.flsCmdDone dt false) s = execFlsCmdDone dt false s from rfl, execFlsCmdDone, hread, on_false]
  simp only [hb, hsrc, hsilt, Bool.false_and, Bool.false_eq_true, OfNat.one_ne_ofNat, if_false, if_true, State.flsEffected]

theorem flsCmdDone_ends {s : State} {w : FlsOp} (dt : Nat) (hread : s.obs.unread = false) (hb : s.fls.busy = some w) (hsrc : w.src = 1)
    (hw : s.fls.waiting = []) (hs : s.fls.suspended = none) (hmode : s.fld F.FLS_STAT_MODE ≠ 0) :
    Completes (.flsCmdDone dt false) s fun t => t.fls.busy = none ∧ t.flag F.FLS_STAT_OP_BUSY = false ∧ t.flag F.FLS_CSTAT_BUSY 0 = false ∧
      t.fld F.FLS_CSTAT_STATUS 0 = 0 ∧ t.flag F.FLS_EVT_CMD_DONE_0 = true := by
  obtain ⟨hregs, hwait, hsusp⟩ := flsEffect_keeps (s.after dt) w
  obtain ⟨u, hend, hufls, humode⟩ := flsCmdEnd_finishes ((s.after dt).flsEffected w) w
  obtain ⟨hfls, hbusy, hstatus, hdone, hfmode⟩ := flsFinish_done u
  refine ⟨_, exec_flsCmdDone dt hread hb hsrc, ?_⟩
  rw [hend, flsServe_without_work]
  · refine ⟨?_, flag_setFld_zero _ _ _ _ (by decide) rfl, ?_, ?_, ?_⟩
    · rw [setFld_fls, hfls, hufls, State.flsEffected]
    · rwa [flag_setFld_id _ _ _ _ _ _ (by decide)]
    · rwa [fld_setFld_id _ _ _ _ _ _ (by decide)]
    · rwa [flag_setFld_id _ _ _ _ _ _ (by decide)]
  · rw [hfls, hufls, State.flsEffected]
  · rw [hfls, hufls]
    exact hwait.trans ((congrArg FlsState.waiting (after_fls s dt)).trans hw)
  · rw [hfls, hufls]
    exact hsusp.trans ((congrArg FlsState.suspended (after_fls s dt)).trans hs)
  · rw [hfmode, humode, show ((s.after dt).flsEffected w).fld F.FLS_STAT_MODE = (s.after dt).fld F.FLS_STAT_MODE from
      fld_congr (s := (s.after dt).flsEffected w) hregs _ _ _, after_fld]
    exact hmode

/-- The commands of an interface that is not busy: submitted to the port, or refused at once. -/
theorem flsCommand_spec {s : State} {i len : Nat} (hi : i < 2) (hlen : len < 512) (hb : s.flag F.FLS_CSTAT_BUSY i = false)
    (hr : s.released = true) :
    let u := s.setFld F.FLS_CSTAT_BUSY 1 i
    let a := s.fld F.FLS_ADDR_ADDR i
    let src := if i = 0 then 1 else 4
    ∀ e ∈ [(Instr.flsRead i len, 1, FlsKind.read, len), (.flsProgram i len, 2, .program, len), (.erase4k i, 3, .erase4k, 0),
        (.erase64k i, 4, .erase64k, 0)],
      (u.flsRefusal i e.2.1 e.2.2.2 a = none → Completes e.1 s fun t => t = u.flsSubmit
        { src := src, kind := e.2.2.1, addr := a, len := e.2.2.2, data := (s.flsBuf i).take e.2.2.2 }) ∧
      (∀ r, u.flsRefusal i e.2.1 e.2.2.2 a = some r → Completes e.1 s fun t => ∃ v : State, t = v.flsFinish i false r ∧
        v.fls = s.fls ∧ (r = 1 → v.fld F.FLS_CNT_REFUSED_COUNT = min 0xFFFFFFFF (s.fld F.FLS_CNT_REFUSED_COUNT + 1))) := by
  have hwrite (op k : Nat) : (s.powered fun s => s.flsCmdWrite (i % 2) op k) = s.flsCmdWrite i op k := by
    rw [powered_of_released hr, Nat.mod_eq_of_lt hi]
  have hmod : len % 512 = len := Nat.mod_eq_of_lt hlen
  simp only [List.forall_mem_cons, List.not_mem_nil, false_imp_iff, implies_true, and_true]
  refine ⟨⟨fun h => ⟨_, rfl, ?_⟩, fun r h => ⟨_, rfl, ?_⟩⟩, ⟨fun h => ⟨_, rfl, ?_⟩, fun r h => ⟨_, rfl, ?_⟩⟩,
    ⟨fun h => ⟨_, rfl, ?_⟩, fun r h => ⟨_, rfl, ?_⟩⟩, ⟨fun h => ⟨_, rfl, ?_⟩, fun r h => ⟨_, rfl, ?_⟩⟩⟩
  all_goals simp only [hmod, hwrite]
  · exact flsCmdWrite_accepted 1 hb h
  · exact flsCmdWrite_refused 1 r hb h
  · exact flsCmdWrite_accepted 2 hb h
  · exact flsCmdWrite_refused 2 r hb h
  · exact flsCmdWrite_accepted 3 hb h
  · exact flsCmdWrite_refused 3 r hb h
  · exact flsCmdWrite_accepted 4 hb h
  · exact flsCmdWrite_refused 4 r hb h

theorem flsRead_ignored {s : State} {i : Nat} (len : Nat) (hi : i < 2) (hb : s.flag F.FLS_CSTAT_BUSY i = true) (hr : s.released = true) :
    Completes (.flsRead i len) s fun t => t = s.raise F.FLS_EVT_CMD_IGNORED :=
  ⟨_, rfl, by rw [powered_of_released hr, Nat.mod_eq_of_lt hi, flsCmdWrite_ignored 1 hb]⟩

/-- Settles O42: a lemma per transaction of the SPI target, and per command and event of the flash port. -/
theorem spiAndFlash : Obligations.SpiAndFlash :=
  ⟨⟨fun _ _ _ e he hw hready hr => spiRegRead_of_ready hr e he hw hready, fun _ _ _ r e he hw hr => spiRegRead_of_width hr r e he hw,
    fun _ _ _ r e he hw h hr => spiRegRead_of_late hr r e he hw h,
    fun _ _ _ d => ⟨fun hw hr => (spiRegWrite_spec hr d).1 hw, fun hw hr => (spiRegWrite_spec hr d).2.1 hw,
      fun hw hr => (spiRegWrite_spec hr d).2.2.1 hw, fun hw hr => (spiRegWrite_spec hr d).2.2.2 hw⟩,
    fun _ _ o n hmem hecc hr => spiPktRead_of_ready hr o n hmem hecc, fun _ r o n h hr => spiPktRead_of_late hr r o n h,
    fun _ _ o bs hend hecc harm hr => spiPktWrite_of_good hr o bs hend hecc harm, fun _ _ hr => spiStatusRead_spec hr,
    fun _ _ hr => spiBadTransaction_spec hr, fun _ dt o n d r bs hr => spi_of_held dt o n d r bs hr⟩,
  fun _ _ _ _ hr hd hm _ hw => flashDiscovery_found hr hd hm hw, fun _ _ mode _ h => flashDiscovery_of_done mode h,
  fun _ _ _ hr hd hmode => flashDiscovery_failed hr hd hmode, fun _ _ _ hi hlen hb hr => flsCommand_spec hi hlen hb hr,
  fun _ _ len hi hb hr => flsRead_ignored len hi hb hr, fun _ _ hb hw hs hmode hread hsrc => flsSubmit_of_idle hb hw hs hmode hread hsrc,
  fun _ _ _ hb hstart h1 hrank hw hs hmode hread hholds => flsSubmit_of_yield hb hstart h1 hrank hw hs hmode hread hholds,
  fun _ dt _ hread hb hsrc hw hs hmode => flsCmdDone_ends dt hread hb hsrc hw hs hmode⟩

end Sys2Proof.Machine
end

section
/-! PROOFS. What a message that leaves on the Twin link touches, and the roles' entries (R453–R459, R468). -/

namespace Sys2Proof.Machine

/-! ## Messages that leave -/

/-- Eddy counts faults in one register, and holds and draws in its points. -/
def eddyIds : List RegId := [.OBS_CNT_EDDY]

theorem next32_near (s : State) (k : Nat) : s.Near eddyIds (s.next32 k).2 := withObs_near _ s _

theorem passPoint_near (s : State) (k : Nat) (f : Passing) : s.Near eddyIds (s.passPoint k f).2 := by
  unfold State.passPoint
  split
  · exact .refl _ s
  · split <;> exact withObs_near _ s _

theorem eddyCorrupt_near (s : State) (k r : Nat) (fix : List Byte → List Byte) (f : Passing) : s.Near eddyIds (s.eddyCorrupt k r fix f).2 := by
  unfold State.eddyCorrupt
  split
  · exact .bump (by decide) (next32_near s k)
  · exact .refl _ s

theorem eddyAt_near (s : State) (k : Nat) (fix : List Byte → List Byte) (f : Passing) : s.Near eddyIds (s.eddyAt k fix f).2 := by
  have hcorrupt := (next32_near s k).trans (eddyCorrupt_near (s.next32 k).2 k (s.next32 k).1 fix f)
  simp only [State.eddyAt]
  split
  · exact .refl _ s
  · split
    · exact .bump (by decide) (next32_near s k)
    · split
      · exact .bump (by decide) ((hcorrupt.trans (next32_near _ k)).trans (withObs_near _ _ _))
      · exact (hcorrupt.trans (next32_near _ k)).trans (passPoint_near _ _ _)

theorem twnPoint_near (s : State) (k type : Nat) (f : Passing) : s.Near eddyIds (s.twnPoint k type f).2 := by
  unfold State.twnPoint
  split
  · exact eddyAt_near ..
  · split
    · exact passPoint_near ..
    · exact .refl _ s

/-- The state with other counts of the messages sent. -/
def State.withSent (s : State) (seq : Nat) (sent : List (Nat × List Byte)) : State :=
  { s with twn := { s.twn with seq := seq, sent := sent } }

theorem foldl_twnEmit (fs : List Passing) (s : State) : ∃ sent, fs.foldl (fun s f => s.twnEmit f) s = s.withSent s.twn.seq sent := by
  induction fs generalizing s with
  | nil => exact ⟨_, rfl⟩
  | cons f fs ih =>
    obtain ⟨sent, h⟩ := ih (s.twnEmit f)
    exact ⟨sent, h⟩

/-- A message that leaves touches what was sent, and Eddy's point 9. -/
theorem twnSend_near (s : State) (type : Nat) (ws : List Word) :
    ∃ seq sent, (s.withSent seq sent).Near eddyIds (s.twnSend type ws) := by
  unfold State.twnSend
  split
  · exact ⟨_, _, .refl _ s⟩
  · have hpoint := twnPoint_near (s.withSent ((s.twn.seq + 1) % 65536) s.twn.sent) 9 type
      ⟨twnBytes type s.twn.seq s.service ws, s.service, noAsn⟩
    dsimp only
    generalize hp : State.twnPoint _ 9 type _ = p
    obtain ⟨sent, h⟩ := foldl_twnEmit p.1 p.2
    rw [h]
    refine ⟨(s.twn.seq + 1) % 65536, sent, ?_⟩
    replace hpoint : (s.withSent ((s.twn.seq + 1) % 65536) s.twn.sent).Near eddyIds p.2 := by rw [← hp]; exact hpoint
    have hseq : p.2.twn.seq = (s.twn.seq + 1) % 65536 := congrArg TwnState.seq hpoint.twn
    refine ⟨?_, fun id hid i j => hpoint.reg id hid i j⟩
    rw [hseq]
    exact congrArg (fun u : State => u.withSent ((s.twn.seq + 1) % 65536) sent) hpoint.outside

section
variable (s : State) (type : Nat) (ws : List Word)

theorem twnSend_reg {id : RegId} (h : id ∉ eddyIds) (i j : Nat) : (s.twnSend type ws).reg id i j = s.reg id i j := by
  obtain ⟨_, _, hnear⟩ := twnSend_near s type ws
  exact hnear.reg id h i j

theorem twnSend_fld {f : Fld} (h : f.reg ∉ eddyIds) (i j : Nat) : (s.twnSend type ws).fld f i j = s.fld f i j := by
  obtain ⟨_, _, hnear⟩ := twnSend_near s type ws
  exact hnear.fld h i j

theorem twnSend_flag {f : Fld} (h : f.reg ∉ eddyIds) (i j : Nat) : (s.twnSend type ws).flag f i j = s.flag f i j := by
  obtain ⟨_, _, hnear⟩ := twnSend_near s type ws
  exact hnear.flag h i j

theorem twnSend_clp : (s.twnSend type ws).clp = s.clp := by
  obtain ⟨_, _, hnear⟩ := twnSend_near s type ws
  exact hnear.clp

theorem twnSend_twn : ∃ seq sent, (s.twnSend type ws).twn = { s.twn with seq := seq, sent := sent } := by
  obtain ⟨seq, sent, hnear⟩ := twnSend_near s type ws
  exact ⟨seq, sent, hnear.twn⟩

end

/-- A message that leaves while point 9 is off: one copy on each of its lanes, numbered in turn (R456). -/
theorem twnSend_off {s : State} {type : Nat} (ws : List Word) (hup : s.linkUp = true) (hpoint : s.pointOn 9 = false) (ht : type < 16) :
    s.twnSend type ws = s.withSent ((s.twn.seq + 1) % 65536)
      (s.twn.sent ++ (s.twnLanes type).map fun k => (k, twnBytes type s.twn.seq s.service ws)) := by
  have hlock : s.fld F.TWN_STAT_LANE_LOCK ≠ 0 := by simpa [State.linkUp] using hup
  have htype : bits (ofLe ((twnBytes type s.twn.seq s.service ws).take 8)) 60 4 = type := by
    rw [twnBytes_eq, twnFront_head, twnHead_type, Nat.mod_eq_of_lt ht]
  have hpass : (s.withSent ((s.twn.seq + 1) % 65536) s.twn.sent).pointOn 9 = false := hpoint
  rw [State.twnSend, if_neg hlock]
  rw [show ({ s with twn := { s.twn with seq := (s.twn.seq + 1) % 65536 } } : State) = s.withSent ((s.twn.seq + 1) % 65536) s.twn.sent from rfl]
  simp only [twnPoint_off hpass, List.foldl_cons, List.foldl_nil, State.twnEmit, htype]
  rfl

/-! ## Roles -/

theorem role_of_reg {s t : State} (h : t.reg .TWN_STAT 0 0 = s.reg .TWN_STAT 0 0) : t.role = s.role := fld_of_reg h

theorem enterActive_role (s : State) : s.enterActive.role = 3 := fld_setFld_self _ _ _ _ _ (by decide)

theorem enterStandby_role (s : State) : s.enterStandby.role = 2 := by
  rw [State.role, State.enterStandby, twnSend_fld _ _ _ (by decide)]
  refine (fld_setFld_disjoint _ _ _ _ _ _ (by decide) (by decide)).trans ?_
  rw [fld_setFld_disjoint _ _ _ _ _ _ (by decide) (by decide), fld_setFld_disjoint _ _ _ _ _ _ (by decide) (by decide),
    fld_setFld_self _ _ _ _ _ (by decide)]
  rfl

theorem enterStandby_term (s : State) : s.enterStandby.fld F.TWN_STAT_TERM = s.fld F.TWN_STAT_TERM := by
  rw [State.enterStandby, twnSend_fld _ _ _ (by decide)]
  refine (fld_setFld_disjoint _ _ _ _ _ _ (by decide) (by decide)).trans ?_
  rw [fld_setFld_disjoint _ _ _ _ _ _ (by decide) (by decide), fld_setFld_disjoint _ _ _ _ _ _ (by decide) (by decide),
    fld_setFld_disjoint _ _ _ _ _ _ (by decide) (by decide)]

theorem enterStandby_act (s : State) : s.enterStandby.twn.act = false := by
  rw [State.enterStandby]
  obtain ⟨_, _, h⟩ := twnSend_twn _ 8 _
  rw [h]

theorem raise_role (s : State) {f : Fld} (h : f.reg ≠ .TWN_STAT) : (s.raise f).role = s.role := fld_raise_id _ _ _ _ (Ne.symm h)

end Sys2Proof.Machine
end

section
/-! PROOFS. `Obligations.TwinMessageEffects`: what the messages of the Twin link do (R455, R458, R461, R464, R468, R471, R472). -/

namespace Sys2Proof.Machine

variable {s : State}

/-! ## Heartbeats -/

theorem toPattern_lt (w : Nat) (x : Int) : toPattern w x < 2 ^ w := by
  have hpos : (0 : Int) < (2 ^ w : Nat) := by exact_mod_cast Nat.two_pow_pos w
  have := Int.emod_lt_of_pos x hpos
  have := Int.emod_nonneg x hpos.ne'
  unfold toPattern
  omega

/-- The link path after the `n`th good heartbeat in a row. -/
def State.beatCounted (s : State) (n : Nat) : State := { s with twn := { s.twn with lastHb := some s.clp.now, streak := n } }

/-- The instant of a restoration noted. -/
def State.linkRestored (s : State) : State := { s with twn := { s.twn with restored := some s.clp.now } }

theorem linkHeard_cases (s : State) : ∃ n, s.linkHeard =
    ((s.beatCounted n).linkRestored.setFld F.TWN_STAT_LINK_OK 1).raise F.TWN_EVT_LINK_RESTORE ∨ s.linkHeard = s.beatCounted n :=
  ⟨_, ite_eq_or_eq _ _ _⟩

/-- What a good heartbeat leaves of the link's registers and state. -/
theorem linkHeard_keeps (s : State) : s.linkHeard.role = s.role ∧ s.linkHeard.twn.peer = s.twn.peer ∧
    s.linkHeard.twn.lastHb = some s.clp.now ∧ ∀ f : Fld, f.reg ∉ [RegId.TWN_STAT, .TWN_EVT] → s.linkHeard.fld f = s.fld f := by
  obtain ⟨n, h | h⟩ := linkHeard_cases s
  · rw [h]
    refine ⟨?_, ?_, ?_, fun f hf => ?_⟩
    · rw [raise_role _ (by decide), State.role, fld_setFld_disjoint _ _ _ _ _ _ (by decide) (by decide)]
      rfl
    · rw [raise_twn]
      rfl
    · rw [raise_twn]
      rfl
    · have hstat : f.reg ≠ .TWN_STAT := fun e => hf (by simp [e])
      have hevt : f.reg ≠ .TWN_EVT := fun e => hf (by simp [e])
      rw [fld_raise_id _ _ _ _ hevt, fld_setFld_id _ _ _ _ _ _ hstat]
      rfl
  · rw [h]
    exact ⟨rfl, rfl, rfl, fun _ _ => rfl⟩

/-- A heartbeat settles no role of a device that is ALONE or STANDBY. -/
theorem heartbeatRole_idle (p : TwnPeer) (h : s.role = 0 ∨ s.role = 2) : s.heartbeatRole p = s := by
  rcases h with h | h <;> simp only [State.heartbeatRole, h]

/-- The state that counts a heartbeat and takes its offset and its sender. -/
def State.beatTaken (s : State) (a stamp w : Nat) : State :=
  let u := (s.bump F.TWN_CNT_HB_RX_COUNT).setFld F.TWN_PEER_OFS_OFS (toPattern 32 (max (-2147483648) (min 2147483647 ((a : Int) - stamp))))
  { u with twn := { u.twn with peer := some (peerOf w) } }

theorem heartbeat_taken (a stamp w : Nat) (hunit : (peerOf w).unit ≠ s.fld F.TWN_CTL_UNIT) :
    s.heartbeat a stamp w = (s.beatTaken a stamp w).linkHeard.heartbeatRole (peerOf w) := by
  have hctl : (s.beatTaken a stamp w).linkHeard.fld F.TWN_CTL_UNIT = s.fld F.TWN_CTL_UNIT := by
    obtain ⟨-, -, -, hfld⟩ := linkHeard_keeps (s.beatTaken a stamp w)
    rw [hfld _ (by decide)]
    exact (fld_setFld_id _ _ _ _ _ _ (by decide)).trans (fld_bump_id _ _ _ _ _ _ (by decide))
  rw [← hctl] at hunit
  exact if_neg hunit

theorem heartbeat_idle (a stamp w : Nat) (hunit : (peerOf w).unit ≠ s.fld F.TWN_CTL_UNIT) (hrole : s.role = 0 ∨ s.role = 2) :
    let t := s.heartbeat a stamp w
    t.fld F.TWN_CNT_HB_RX_COUNT = min 0xFFFFFFFF (s.fld F.TWN_CNT_HB_RX_COUNT + 1) ∧ t.twn.peer = some (peerOf w) ∧
      t.twn.lastHb = some s.clp.now ∧ t.role = s.role ∧
      t.fld F.TWN_PEER_OFS_OFS = toPattern 32 (max (-2147483648) (min 2147483647 ((a : Int) - stamp))) := by
  obtain ⟨hr, hpeer, hlast, hfld⟩ := linkHeard_keeps (s.beatTaken a stamp w)
  have htaken : (s.beatTaken a stamp w).role = s.role :=
    (fld_setFld_id _ _ _ _ _ _ (by decide)).trans (fld_bump_id _ _ _ _ _ _ (by decide))
  rw [heartbeat_taken a stamp w hunit, heartbeatRole_idle _ (by rwa [hr, htaken])]
  refine ⟨?_, hpeer, hlast, hr.trans htaken, ?_⟩
  · rw [hfld _ (by decide)]
    exact (fld_setFld_id _ _ _ _ _ _ (by decide)).trans (fld_bump_32 _ _ _ _ rfl rfl)
  · rw [hfld _ (by decide)]
    exact (fld_setFld_self _ _ _ _ _ (by decide)).trans (Nat.mod_eq_of_lt (toPattern_lt _ _))

theorem peerOf_term_lt (w : Nat) : (peerOf w).term < 2 ^ 16 := Nat.mod_lt _ (Nat.two_pow_pos _)

theorem heartbeatRole_of_active (w : Nat) (hrole : s.role = 1) (hc : s.twn.conflict = false) (hp : (peerOf w).role = 3) :
    (s.heartbeatRole (peerOf w)).role = 2 ∧ (s.heartbeatRole (peerOf w)).fld F.TWN_STAT_TERM = (peerOf w).term := by
  have heq : s.heartbeatRole (peerOf w) = (s.setFld F.TWN_STAT_TERM (peerOf w).term).enterStandby := by
    simp only [State.heartbeatRole, hrole, hp, hc, Bool.false_eq_true, if_false]
  rw [heq, enterStandby_role, enterStandby_term, fld_setFld_self _ _ _ _ _ (by decide)]
  exact ⟨rfl, Nat.mod_eq_of_lt (peerOf_term_lt w)⟩

theorem heartbeatRole_of_pairing (w : Nat) (hrole : s.role = 1) (hc : s.twn.conflict = false) (hp : (peerOf w).role = 1) :
    (s.flag F.TWN_CTL_PREFER = true → (peerOf w).prefer = false → (s.heartbeatRole (peerOf w)).role = 3) ∧
    (s.flag F.TWN_CTL_PREFER = false → (peerOf w).prefer = true → (s.heartbeatRole (peerOf w)).role = 2) ∧
    (s.flag F.TWN_CTL_PREFER = (peerOf w).prefer →
      (s.heartbeatRole (peerOf w)).role = if s.fld F.TWN_CTL_UNIT = 0 then 3 else 2) := by
  have heq : s.heartbeatRole (peerOf w) = if (s.flag F.TWN_CTL_PREFER && !(peerOf w).prefer) ||
      (s.flag F.TWN_CTL_PREFER == (peerOf w).prefer && s.fld F.TWN_CTL_UNIT == 0) then s.enterActive else s.enterStandby := by
    simp only [State.heartbeatRole, hrole, hp, hc, Bool.false_eq_true, if_false]
  rw [heq]
  refine ⟨fun h h' => ?_, fun h h' => ?_, fun h => ?_⟩
  · simp [h, h', enterActive_role]
  · simp [h, h', enterStandby_role]
  · by_cases hu : s.fld F.TWN_CTL_UNIT = 0
    · simp [h, hu, enterActive_role]
    · simp [h, hu, enterStandby_role]

theorem linkHeard_restores (hok : s.flag F.TWN_STAT_LINK_OK = false) (hn : 3 ≤ s.twn.streak) (hlast : s.twn.lastHb = some s.clp.now) :
    s.linkHeard.flag F.TWN_STAT_LINK_OK = true ∧ s.linkHeard.flag F.TWN_EVT_LINK_RESTORE = true := by
  have heq : ∃ u : State, s.linkHeard = (u.setFld F.TWN_STAT_LINK_OK 1).raise F.TWN_EVT_LINK_RESTORE := by
    simp only [State.linkHeard, hlast, Nat.sub_self, Nat.zero_le, decide_true, if_true]
    rw [if_pos ⟨Nat.succ_le_succ hn, hok⟩]
    exact ⟨_, rfl⟩
  obtain ⟨u, hu⟩ := heq
  rw [hu, flag_raise_id _ _ _ _ (by decide)]
  exact ⟨flag_setFld_one _ _ _ _ (by decide) rfl, flag_raise_self _ _ _ (by decide) rfl⟩

/-! ## Mirroring and the ends of a role -/

theorem standby_messages (hrole : s.role = 2) : s.syncEnds.flag F.TWN_STAT_SYNCED = true ∧ s.syncEnds.flag F.TWN_EVT_SYNC_DONE = true ∧
    s.goodbyeArrives = { s with twn := { s.twn with goodbye := true } } ∧
      s.resyncArrives = ((s.setFld F.TWN_STAT_SYNCED 0).raise F.TWN_EVT_SYNC_LOST).twnSend 8 [] ∧
        (s.twn.taking = true → s.handoverArrives = s) ∧ (s.twn.taking = false → s.handoverArrives = { s with twn := { s.twn with
          arrived := true, handing := if s.asnValid then some ((s.asn + 1) % 2 ^ 40) else none } }) := by
  refine ⟨?_, ?_, if_pos hrole, ?_, fun ht => ?_, fun ht => ?_⟩
  · rw [State.syncEnds, if_pos hrole, flag_raise_id _ _ _ _ (by decide), flag_setFld_one _ _ _ _ (by decide) rfl]
  · rw [State.syncEnds, if_pos hrole, flag_raise_self _ _ _ (by decide) rfl]
  · simp only [State.resyncArrives, hrole]
  · simp [State.handoverArrives, ht]
  · simp [State.handoverArrives, ht, hrole]

theorem handoverSlot_of_start (ha : s.twn.arrived = true) (hat : s.fullNs = s.anchorNs) : s.handoverSlot.twn.handing = some s.asn := by
  rw [State.handoverSlot, ha, on_true, if_pos (by omega)]

theorem messages_not_standby (hrole : s.role ≠ 2) : s.syncEnds = s ∧ s.goodbyeArrives = s ∧ s.handoverArrives = s ∧ ∀ ws, s.mirrorApply ws = s :=
  ⟨if_neg hrole, if_neg hrole, if_neg fun h => hrole h.1, fun _ => if_neg hrole⟩

theorem yieldTo_effects {term : Nat} (ht : term < 65536) : (s.yieldTo term).role = 2 ∧ (s.yieldTo term).fld F.TWN_STAT_TERM = term ∧
    (s.yieldTo term).twn.act = false ∧ (s.yieldTo term).flag F.TWN_EVT_YIELDED = true := by
  rw [State.yieldTo]
  refine ⟨?_, ?_, ?_, flag_raise_self _ _ _ (by decide) rfl⟩
  · rw [raise_role _ (by decide), enterStandby_role]
  · rw [fld_raise_id _ _ _ _ (by decide), enterStandby_term, fld_setFld_self _ _ _ _ _ (by decide)]
    exact Nat.mod_eq_of_lt ht
  · rw [raise_twn, enterStandby_act]

theorem mirrorApply_standby (w : Word) (ws : List Word) (hrole : s.role = 2) (hcls : w.toNat % 256 = 0) : s.mirrorApply (w :: ws) =
    (s.bump F.TWN_CNT_MIRROR_RX_COUNT).writeEntry (w.toNat / 256 % 524288) (entryOf (ws.map fun (x : Word) => x.toNat)) := by
  simp only [State.mirrorApply, if_pos hrole, List.getD_cons_zero, hcls, List.drop_one, List.tail_cons]

theorem mirrorApply_drift (w x : Word) (hrole : s.role = 2) (hcls : w.toNat % 256 = 1) : s.mirrorApply [w, x] =
    (s.bump F.TWN_CNT_MIRROR_RX_COUNT).memWrite 5 (w.toNat / 256 % 524288) x.toNat := by
  simp only [State.mirrorApply, if_pos hrole, List.getD_cons_zero, hcls, List.drop_one, List.tail_cons]

/-- Settles O49: a lemma per message, over the roles. -/
theorem twinMessageEffects : Obligations.TwinMessageEffects :=
  ⟨fun _ a stamp w hunit hrole => heartbeat_idle a stamp w hunit hrole, fun _ w hrole hc hp => heartbeatRole_of_active w hrole hc hp,
    fun _ w hrole hc hp => heartbeatRole_of_pairing w hrole hc hp, fun _ hok hn hlast => linkHeard_restores hok hn hlast,
    fun _ hrole => standby_messages hrole, fun _ ha hat => handoverSlot_of_start ha hat, fun _ hrole => messages_not_standby hrole,
    fun _ _ => ⟨fun h => if_pos h, fun h => if_neg h⟩, fun _ _ ht => yieldTo_effects ht,
    fun _ w ws hrole hcls => mirrorApply_standby w ws hrole hcls, fun _ w x hrole hcls => mirrorApply_drift w x hrole hcls⟩

end Sys2Proof.Machine
end

section
/-! PROOFS. `Obligations.TwinLinkCommands`: Twin's enable, link, heartbeats and mirroring (R453–R458, R461, R464). -/

namespace Sys2Proof.Machine

variable {s : State}

/-! ## Enable (R453–R455) -/

theorem twnCheckCode_lt (s : State) : s.twnCheckCode < 2 ^ 3 := by
  unfold State.twnCheckCode
  dsimp only
  repeat' split
  all_goals decide

/-- With nothing in the launch units, a yielding device ends no frame. -/
theorem yieldFrames_of_idle (h : ∀ j, (s.tx j).frames = []) : s.yieldFrames = s :=
  List.foldlRecOn (motive := fun t : State => t = s) _ _ rfl fun t ht j _ => by rw [ht, h j]; rfl

/-- A device that has just been enabled, before its frames end. -/
def State.twnEnabled (s : State) : State :=
  { s with twn := { s.twn with enabledAt := s.clp.now, beatAt := some (s.twn.beatAt.getD s.clp.now), peer := none, conflict := false } }

theorem twnStart_eq (s : State) : s.twnStart = (s.twnEnabled.yieldFrames.setFld F.TWN_CTL_EN 1).setFld F.TWN_STAT_ROLE 1 := rfl

theorem twnStart_effects (s : State) : s.twnStart.flag F.TWN_CTL_EN = true ∧ s.twnStart.role = 1 := by
  rw [twnStart_eq]
  refine ⟨?_, ?_⟩
  · rw [flag_setFld_id _ _ _ _ _ _ (by decide), flag_setFld_one _ _ _ _ (by decide) rfl]
  · rw [State.role, fld_setFld_self _ _ _ _ _ (by decide)]
    rfl

/-- TWN_CTL as a write leaves it while EN is 0. -/
def State.twnParams (s : State) (d : Word) : State := s.setReg .TWN_CTL 0 0 (d &&& 0x3E)

theorem twnParams_off (s : State) (d : Word) : (s.twnParams d).flag F.TWN_CTL_EN = false := by
  have hbit := flag_bit (s.twnParams d) .TWN_CTL 0 0 0
  rw [show (⟨.TWN_CTL, 0, 1⟩ : Fld) = F.TWN_CTL_EN from rfl] at hbit
  rw [hbit, State.twnParams, reg_setReg_self, BitVec.getLsbD_and]
  exact Bool.and_false _

theorem twnCtlWrite_enables {d : Word} (hen : s.flag F.TWN_CTL_EN = false) (hd : d.getLsbD 0 = true) : s.twnCtlWrite d =
    if (s.twnParams d).twnCheckCode = 0 then (s.twnParams d).twnStart
    else ((s.twnParams d).setFld F.TWN_STAT_REFUSE (s.twnParams d).twnCheckCode).raise F.TWN_EVT_ENABLE_REFUSED := by
  rw [State.twnCtlWrite, hen, hd]
  dsimp only
  rw [← State.twnParams, if_neg Bool.false_ne_true]
  cases (s.twnParams d).twnCheckCode <;> rfl

theorem twinEnable_enables {d : Word} (hen : s.flag F.TWN_CTL_EN = false) (hd : d.getLsbD 0 = true) (hr : s.released = true) :
    Completes (.twinEnable d) s fun t => if (s.twnParams d).twnCheckCode = 0 then
        t.flag F.TWN_CTL_EN = true ∧ t.role = 1 ∧ ∃ v : State, t = (v.yieldFrames.setFld F.TWN_CTL_EN 1).setFld F.TWN_STAT_ROLE 1 ∧
          v.txf = s.txf ∧ v.twn.enabledAt = s.clp.now ∧ v.twn.peer = none ∧ v.twn.beatAt = some (s.twn.beatAt.getD s.clp.now) ∧
            ((∀ j, (s.tx j).frames = []) → t.twn = v.twn)
      else t.flag F.TWN_CTL_EN = false ∧ t.fld F.TWN_STAT_REFUSE = (s.twnParams d).twnCheckCode ∧
        t.flag F.TWN_EVT_ENABLE_REFUSED = true ∧ t.role = s.role := by
  refine ⟨_, rfl, ?_⟩
  rw [powered_of_released hr, twnCtlWrite_enables hen hd]
  split
  · obtain ⟨hon, hrole⟩ := twnStart_effects (s.twnParams d)
    refine ⟨hon, hrole, (s.twnParams d).twnEnabled, rfl, rfl, rfl, rfl, rfl, fun hidle => ?_⟩
    have hsame : (s.twnParams d).twnEnabled.yieldFrames = (s.twnParams d).twnEnabled := yieldFrames_of_idle hidle
    rw [twnStart_eq, setFld_twn, setFld_twn, hsame]
  · refine ⟨?_, ?_, flag_raise_self _ _ _ (by decide) rfl, ?_⟩
    · rw [flag_raise_id _ _ _ _ (by decide), flag_setFld_id _ _ _ _ _ _ (by decide), twnParams_off]
    · rw [fld_raise_id _ _ _ _ (by decide), fld_setFld_self _ _ _ _ _ (by decide)]
      exact Nat.mod_eq_of_lt (twnCheckCode_lt _)
    · rw [raise_role _ (by decide), State.role, fld_setFld_disjoint _ _ _ _ _ _ (by decide) (by decide)]
      exact fld_setReg_id _ _ _ _ _ _ (by decide)

theorem twinEnable_disables {d : Word} (hen : s.flag F.TWN_CTL_EN = true) (hd : d.getLsbD 0 = false) (hr : s.released = true) :
    Completes (.twinEnable d) s fun t => t.flag F.TWN_CTL_EN = false ∧ t.role = 0 ∧ t.twn.act = false ∧ t.twn.queue = [] ∧
      t.flag F.TWN_STAT_SYNCED = false := by
  have hstop : s.twnCtlWrite d = s.twnStop := by
    rw [State.twnCtlWrite, hen, hd]
    rfl
  refine ⟨_, rfl, ?_⟩
  rw [powered_of_released hr, hstop, State.twnStop]
  refine ⟨?_, ?_, rfl, rfl, flag_setFld_zero _ _ _ _ (by decide) rfl⟩
  · rw [flag_setFld_id _ _ _ _ _ _ (by decide), flag_setFld_id _ _ _ _ _ _ (by decide), flag_setFld_zero _ _ _ _ (by decide) rfl]
  · rw [State.role, fld_setFld_disjoint _ _ _ _ _ _ (by decide) (by decide), fld_setFld_self _ _ _ _ _ (by decide)]
    rfl

theorem pairWaitExpiry_active (hrole : s.role = 1) (hc : s.twn.conflict = false) : Completes .pairWaitExpiry s fun t => t.role = 3 ∧
    t.twn.act = true ∧ t.clp.now = max s.clp.now (s.twn.enabledAt + max 1 (s.fld F.TWN_TIMING_PAIR_WAIT_MS) * 1000000) := by
  let u := s.advanceTo (s.twn.enabledAt + max 1 (s.fld F.TWN_TIMING_PAIR_WAIT_MS) * 1000000)
  have hrun : exec .pairWaitExpiry s = .next u.enterActive := by
    rw [show exec .pairWaitExpiry s = execPairWaitExpiry s from rfl, execPairWaitExpiry, if_pos hrole]
    simp only [advanceTo_twn, hc, Bool.false_eq_true, if_false, u]
  exact ⟨_, hrun, enterActive_role u, rfl, advanceTo_now s _⟩

/-! ## The link (R456–R458) -/

theorem unhold_clp (s : State) (k : Nat) : (s.unhold k).2.clp = s.clp := by
  unfold State.unhold
  split <;> rfl

theorem unhold_point (s : State) (k : Nat) : ((s.unhold k).2.point k).held = none := by
  unfold State.unhold
  split
  · exact congrArg EddyPoint.held (SMap.getD_put_self ..)
  · assumption

theorem unhold_point_ne (s : State) {k j : Nat} (h : j ≠ k) : (s.unhold k).2.point j = s.point j := by
  unfold State.unhold
  split
  · exact SMap.getD_put_ne _ _ _ h
  · rfl

/-- The state after a lane gained or lost lock, before what follows from the loss of the last. -/
def State.lanesSet (s : State) (dt m : Nat) : State := (s.after dt).setFld F.TWN_STAT_LANE_LOCK m

theorem lanesSet_fld (s : State) (dt : Nat) {m : Nat} (h : m < 2 ^ 2) : (s.lanesSet dt m).fld F.TWN_STAT_LANE_LOCK = m :=
  (fld_setFld_self _ _ _ _ _ (by decide)).trans (Nat.mod_eq_of_lt h)

theorem exec_twinLaneLock {dt k : Nat} (up : Bool) (hk : k < 2) : exec (.twinLaneLock dt k up) s = .next
    (let u := s.lanesSet dt (if up then s.fld F.TWN_STAT_LANE_LOCK ||| 2 ^ k else s.fld F.TWN_STAT_LANE_LOCK &&& (3 - 2 ^ k))
     if u.linkUp then u else ((u.unhold 8).2.unhold 9).2) := by
  rw [show exec (.twinLaneLock dt k up) s = execTwinLaneLock dt k up s from rfl, execTwinLaneLock, Nat.mod_eq_of_lt hk]
  dsimp only
  rw [after_fld]
  rfl

theorem twinLaneLock_gains {dt k : Nat} (hk : k < 2) : Completes (.twinLaneLock dt k true) s fun t =>
    t.fld F.TWN_STAT_LANE_LOCK = s.fld F.TWN_STAT_LANE_LOCK ||| 2 ^ k ∧ t.clp.now = s.clp.now + dt := by
  have hlt : s.fld F.TWN_STAT_LANE_LOCK ||| 2 ^ k < 2 ^ 2 := Nat.or_lt_two_pow (fld_lt ..) (Nat.pow_lt_pow_right (by decide) hk)
  have hne : s.fld F.TWN_STAT_LANE_LOCK ||| 2 ^ k ≠ 0 := fun h => (Nat.two_pow_pos k).ne' (Nat.or_eq_zero_iff.mp h).2
  have hup : (s.lanesSet dt (s.fld F.TWN_STAT_LANE_LOCK ||| 2 ^ k)).linkUp = true := by
    rw [State.linkUp, lanesSet_fld s dt hlt]
    exact bne_iff_ne.mpr hne
  refine ⟨_, exec_twinLaneLock true hk, ?_⟩
  simp only [if_true, hup, lanesSet_fld s dt hlt, true_and]
  exact after_now s dt

theorem twinLaneLock_loses {dt k : Nat} (hk : k < 2) : Completes (.twinLaneLock dt k false) s fun t =>
    t.fld F.TWN_STAT_LANE_LOCK = s.fld F.TWN_STAT_LANE_LOCK &&& (3 - 2 ^ k) ∧
      (t.fld F.TWN_STAT_LANE_LOCK = 0 → (t.point 8).held = none ∧ (t.point 9).held = none) := by
  refine ⟨_, exec_twinLaneLock false hk, ?_⟩
  simp only [Bool.false_eq_true, if_false]
  have hfld := lanesSet_fld s dt (Nat.and_lt_two_pow (s.fld F.TWN_STAT_LANE_LOCK) (show 3 - 2 ^ k < 2 ^ 2 from (Nat.sub_le ..).trans_lt (by decide)))
  generalize s.lanesSet dt (s.fld F.TWN_STAT_LANE_LOCK &&& (3 - 2 ^ k)) = u at hfld
  split
  case isTrue h =>
    refine ⟨hfld, fun h0 => ?_⟩
    rw [State.linkUp, h0] at h
    exact absurd h (by decide)
  case isFalse =>
    refine ⟨?_, fun _ => ⟨?_, unhold_point _ 9⟩⟩
    · rw [fld_congr (unhold_regs _ 9), fld_congr (unhold_regs _ 8), hfld]
    · rw [unhold_point_ne _ (by decide), unhold_point]

theorem twnWord_congr {t u : State} (h : t.regs = u.regs) : t.twnWord = u.twnWord := by simp only [State.twnWord, fld_congr h]

theorem twnLanes_congr {t u : State} (h : t.regs = u.regs) (type : Nat) : t.twnLanes type = u.twnLanes type := by
  simp only [State.twnLanes, fld_congr h]

theorem linkUp_congr {t u : State} (h : t.regs = u.regs) : t.linkUp = u.linkUp := by simp only [State.linkUp, fld_congr h]

theorem pointOn_congr {t u : State} (h : t.regs = u.regs) (k : Nat) : t.pointOn k = u.pointOn k := by simp only [State.pointOn, flag_congr h]

/-- The state in which a heartbeat that is due leaves: the instant of the next is drawn. -/
def State.beatDue (s : State) (b : Nat) : State :=
  let u := s.advanceTo b
  { u.fresh.2 with twn := { u.fresh.2.twn with beatAt := some (b + 249000 + u.fresh.1 % 2001) } }

theorem beatDue_regs (s : State) (b : Nat) : (s.beatDue b).regs = s.regs := advanceTo_regs s b

theorem heartbeatSend_sends {b : Nat} (hbeat : s.twn.beatAt = some b) (hup : s.linkUp = true) (hpoint : s.pointOn 9 = false) :
    Completes .heartbeatSend s fun t =>
      t.twn.sent = s.twn.sent ++ (s.twnLanes 1).map (fun k => (k, twnBytes 1 s.twn.seq (s.advanceTo b).service [s.twnWord])) ∧
        t.twn.seq = (s.twn.seq + 1) % 65536 ∧ ∃ x, t.twn.beatAt = some x ∧ b + 249000 ≤ x ∧ x ≤ b + 251000 := by
  have hregs := beatDue_regs s b
  have hword : (s.advanceTo b).fresh.2.twnWord = s.twnWord := twnWord_congr (advanceTo_regs s b)
  have hrun : exec .heartbeatSend s = .next ((s.beatDue b).twnSend 1 [s.twnWord]) := by
    rw [show exec .heartbeatSend s = execHeartbeatSend s from rfl, execHeartbeatSend, hbeat, ← hword]
    rfl
  have htwn : (s.beatDue b).twn = { s.twn with beatAt := some (b + 249000 + (s.advanceTo b).fresh.1 % 2001) } := by
    simp only [State.beatDue, State.fresh, advanceTo_twn]
  have hservice : (s.beatDue b).service = (s.advanceTo b).service := rfl
  refine ⟨_, hrun, ?_⟩
  rw [twnSend_off _ ((linkUp_congr hregs).trans hup) ((pointOn_congr hregs 9).trans hpoint) (by decide), State.withSent]
  simp only [htwn, hservice, twnLanes_congr hregs, true_and]
  exact ⟨_, rfl, Nat.le_add_right .., by omega⟩

theorem linkSilence_fails {a : Nat} (hlast : s.twn.lastHb = some a) (hok : s.flag F.TWN_STAT_LINK_OK = true) :
    Completes .linkSilence s fun t => t.flag F.TWN_STAT_LINK_OK = false ∧ t.flag F.TWN_EVT_LINK_FAIL = true ∧ t.twn.streak = 0 ∧
      t.clp.now = max s.clp.now (a + 1000000) + 1 := by
  let u := (s.advanceTo (a + 1000000)).endCycle
  have hrun : exec .linkSilence s = .next (({ u with twn := { u.twn with streak := 0 } }.setFld F.TWN_STAT_LINK_OK 0).raise
      F.TWN_EVT_LINK_FAIL) := by
    rw [show exec .linkSilence s = execLinkSilence s from rfl, execLinkSilence, hlast]
    exact if_pos hok
  refine ⟨_, hrun, ?_, flag_raise_self _ _ _ (by decide) rfl, ?_, ?_⟩
  · rw [flag_raise_id _ _ _ _ (by decide), flag_setFld_zero _ _ _ _ (by decide) rfl]
  · rw [raise_twn]
    rfl
  · rw [raise_clp]
    exact (advance_now ..).trans (congrArg (· + 1) (advanceTo_now s _))

end Sys2Proof.Machine
end

section
/-! PROOFS. `Obligations.TwinLinkCommands`, mirroring part (R461, R464). -/

namespace Sys2Proof.Machine

variable {s : State}

/-! ## Good memories -/

/-- What a bulk sync reads of good memories hangs on memory and registers alone, and changes nothing. -/
theorem memReads_congr {u : State} (hmem : u.mem = s.mem) {m : Nat} (hs : ∀ x, s.eccOf m x = none) (hu : ∀ x, u.eccOf m x = none) (w n : Nat) :
    ∃ vs, s.memReads m w n = (vs, false, s) ∧ u.memReads m w n = (vs, false, u) := by
  induction n generalizing w with
  | zero => exact ⟨[], rfl, rfl⟩
  | succ n ih =>
    obtain ⟨vs, hrs, hru⟩ := ih (w + 1)
    refine ⟨s.memWord m w :: vs, ?_, ?_⟩
    · simp [State.memReads, memRead_of_good (hs w), hrs, WordRead.val, WordRead.isBad]
    · simp [State.memReads, memRead_of_good (hu w), hru, memWord_of_mem hmem, WordRead.val, WordRead.isBad]

theorem schedRegs_congr {u : State} (hregs : u.regs = s.regs) (key : Nat) : u.schedRegs key = s.schedRegs key := by
  simp only [State.schedRegs, flag_congr hregs, reg_congr hregs]

theorem schedWords_of_good {u : State} (hregs : u.regs = s.regs) (hmem : u.mem = s.mem) (hs : ∀ m x, s.eccOf m x = none)
    (hu : ∀ m x, u.eccOf m x = none) (key i : Nat) : u.schedWords key i = ((s.schedWords key i).1, u) := by
  unfold State.schedWords
  split
  · simp only [memRead_of_good (hs 6 i), memRead_of_good (hu 6 i), memWord_of_mem hmem]
  · rw [schedRegs_congr hregs]

theorem syncSlot_of_good {u : State} (hmem : u.mem = s.mem) (hs : ∀ m x, s.eccOf m x = none) (hu : ∀ m x, u.eccOf m x = none) (i : Nat) :
    u.syncSlot i = ((s.syncSlot i).1, u) := by
  obtain ⟨vs, hrs, hru⟩ := memReads_congr hmem (hs 1) (hu 1) (4 * i) 4
  simp only [State.syncSlot, State.readEntry, hrs, hru, Bool.false_eq_true, if_false]

theorem syncDrift_of_good {u : State} (hmem : u.mem = s.mem) (hs : ∀ m x, s.eccOf m x = none) (hu : ∀ m x, u.eccOf m x = none) (i : Nat) :
    u.syncDrift i = ((s.syncDrift i).1, u) := by
  simp only [State.syncDrift, memRead_of_good (hs 5 i), memRead_of_good (hu 5 i), memWord_of_mem hmem]

theorem bulkWords_of_good {u : State} (hregs : u.regs = s.regs) (hmem : u.mem = s.mem) (hs : ∀ m x, s.eccOf m x = none)
    (hu : ∀ m x, u.eccOf m x = none) (cls key i : Nat) : u.bulkWords cls key i = ((s.bulkWords cls key i).1, u) := by
  rcases cls with _ | _ | cls
  · simp only [State.bulkWords, syncSlot_of_good hmem hs hu]
  · simp only [State.bulkWords, syncDrift_of_good hmem hs hu]
  · simp only [State.bulkWords, schedWords_of_good hregs hmem hs hu]

/-! ## Mirror messages -/

theorem keyGroups_off (h : s.runnelOn (s.fld F.TWN_RUNNEL_KEY_RUNNEL) = false) (n : Nat) : s.keyGroups n = s := by
  cases n with
  | zero => rfl
  | succ n => exact if_neg fun hon => Bool.false_ne_true (h.symm.trans hon.2.1)

theorem twnDrops_off (h : s.pointOn 9 = false) (type : Nat) : s.twnDrops type = false := by
  rw [State.twnDrops, State.eddyDrops, h, Bool.false_and, Bool.and_false]

theorem mirrorOut_off (h : s.pointOn 9 = false) (hup : s.linkUp = true) (ws : List Word) :
    s.mirrorOut ws = (s.withSent ((s.twn.seq + 1) % 65536) (s.twn.sent ++ (s.twnLanes 2).map fun k =>
      (k, twnBytes 2 s.twn.seq s.service ws))).bump F.TWN_CNT_MIRROR_TX_COUNT := by
  rw [State.mirrorOut, twnDrops_off h, Bool.not_false, on_true, twnSend_off ws hup h (by decide)]

section
variable (hrole : s.role = 3) (hup : s.linkUp = true) (hkey : s.runnelOn (s.fld F.TWN_RUNNEL_KEY_RUNNEL) = false)
  (hover : s.twn.overflow = false)
include hrole hup hkey hover

/-- MIRROR_SEND while Jomuter pushes nothing, no pass is due and the queue has not overflowed: a live message is the first to leave. -/
theorem exec_mirrorSend_live (hask : (s.twn.bulkAsked && s.memsReady bulkMems) = false) {m : List Word} {ms : List (List Word)}
    (hq : s.twn.queue = m :: ms) : exec .mirrorSend s = .next ({ s with twn := { s.twn with queue := ms } }.mirrorOut m) := by
  rw [show exec .mirrorSend s = execMirrorSend s from rfl, execMirrorSend, if_pos ⟨hrole, hup⟩, hask, on_false, keyGroups_off hkey]
  simp only [hover, Bool.false_eq_true, if_false, hq]

theorem exec_mirrorSend_bulk (hask : (s.twn.bulkAsked && s.memsReady bulkMems) = false) (hq : s.twn.queue = []) {cls k : Nat}
    {ks : List (Nat × Nat)} (hb : s.twn.bulk = (cls, k) :: ks) : exec .mirrorSend s = .next (s.bulkNext cls k ks) := by
  rw [show exec .mirrorSend s = execMirrorSend s from rfl, execMirrorSend, if_pos ⟨hrole, hup⟩, hask, on_false, keyGroups_off hkey]
  simp only [hover, Bool.false_eq_true, if_false, hq, hb]

theorem exec_mirrorSend_end (hask : (s.twn.bulkAsked && s.memsReady bulkMems) = false) (hq : s.twn.queue = []) (hb : s.twn.bulk = []) :
    exec .mirrorSend s = .next (if s.twn.bulkOpen then { s with twn := { s.twn with bulkOpen := false } }.twnSend 3 [] else s) := by
  rw [show exec .mirrorSend s = execMirrorSend s from rfl, execMirrorSend, if_pos ⟨hrole, hup⟩, hask, on_false, keyGroups_off hkey]
  simp only [hover, Bool.false_eq_true, if_false, hq, hb]
  split <;> rfl

theorem mirrorSend_live (hpoint : s.pointOn 9 = false) (hask : s.twn.bulkAsked = false) {m : List Word} {ms : List (List Word)}
    (hq : s.twn.queue = m :: ms) : Completes .mirrorSend s fun t => t.twn.queue = ms ∧
      t.twn.sent = s.twn.sent ++ (s.twnLanes 2).map (fun k => (k, twnBytes 2 s.twn.seq s.service m)) ∧
        t.fld F.TWN_CNT_MIRROR_TX_COUNT = min 0xFFFFFFFF (s.fld F.TWN_CNT_MIRROR_TX_COUNT + 1) := by
  refine ⟨_, exec_mirrorSend_live hrole hup hkey hover (by rw [hask]; rfl) hq, ?_⟩
  have hout := mirrorOut_off (s := { s with twn := { s.twn with queue := ms } }) hpoint hup m
  rw [hout]
  exact ⟨rfl, rfl, fld_bump_32 _ _ _ _ rfl rfl⟩

theorem mirrorSend_bulk (hpoint : s.pointOn 9 = false) (hask : s.twn.bulkAsked = false) (hq : s.twn.queue = []) {cls k : Nat}
    {ks : List (Nat × Nat)} (hb : s.twn.bulk = (cls, k) :: ks) (hecc : ∀ m x, s.eccOf m x = none) :
    Completes .mirrorSend s fun t => t.twn.bulk = ks ∧ t.twn.bulkAt = (cls, k + 1) ∧
      t.twn.sent = s.twn.sent ++ (s.twnLanes 2).map fun l => (l, twnBytes 2 s.twn.seq s.service
        (s.bulkWords cls (k % 2 ^ 20) (k / 2 ^ 20)).1) := by
  refine ⟨_, exec_mirrorSend_bulk hrole hup hkey hover (by rw [hask]; rfl) hq hb, ?_⟩
  let u : State := { s with twn := { s.twn with bulk := ks, bulkAt := (cls, k + 1) } }
  have hwords : u.bulkWords cls (k % 2 ^ 20) (k / 2 ^ 20) = ((s.bulkWords cls (k % 2 ^ 20) (k / 2 ^ 20)).1, u) :=
    bulkWords_of_good (s := s) (u := u) rfl rfl hecc hecc _ _ _
  have hnext : s.bulkNext cls k ks = u.mirrorOut (s.bulkWords cls (k % 2 ^ 20) (k / 2 ^ 20)).1 := by
    rw [State.bulkNext, show ({ s with twn := { s.twn with bulk := ks, bulkAt := (cls, k + 1) } } : State) = u from rfl]
    simp only [hwords]
  rw [hnext, mirrorOut_off (s := u) hpoint hup]
  exact ⟨rfl, rfl, rfl⟩

theorem mirrorSend_end (hpoint : s.pointOn 9 = false) (hask : s.twn.bulkAsked = false) (hq : s.twn.queue = []) (hb : s.twn.bulk = [])
    (hopen : s.twn.bulkOpen = true) : Completes .mirrorSend s fun t =>
      t.twn.bulkOpen = false ∧ t.twn.sent = s.twn.sent ++ (s.twnLanes 3).map fun l => (l, twnBytes 3 s.twn.seq s.service []) := by
  refine ⟨_, exec_mirrorSend_end hrole hup hkey hover (by rw [hask]; rfl) hq hb, ?_⟩
  have hsend := twnSend_off (s := { s with twn := { s.twn with bulkOpen := false } }) (type := 3) [] hup hpoint (by decide)
  rw [if_pos hopen, hsend]
  exact ⟨rfl, rfl⟩

theorem mirrorSend_waits (hmem : s.memsReady bulkMems = false) (hq : s.twn.queue = []) (hb : s.twn.bulk = [])
    (hopen : s.twn.bulkOpen = false) : Completes .mirrorSend s fun t => t = s :=
  ⟨_, exec_mirrorSend_end hrole hup hkey hover (by rw [hmem, Bool.and_false]) hq hb, if_neg (by rw [hopen]; exact Bool.false_ne_true)⟩

end

theorem mem_bulkInsert (x : Nat × Nat) (ys : List (Nat × Nat)) : x ∈ bulkInsert x ys := by
  induction ys with
  | nil => exact List.mem_singleton_self x
  | cons y ys ih =>
    unfold bulkInsert
    split
    · exact List.mem_cons.mpr (.inl ‹_›)
    · split
      · exact List.mem_cons_self
      · exact List.mem_cons_of_mem _ ih

theorem mirrorPost_left {cls idx : Nat} (ws : List Word) (hrole : s.role = 3) (hcls : cls < 2) (hopen : s.twn.bulkOpen = true)
    (hat : bulkKey s.twn.bulkAt ≤ bulkKey (cls, idx)) :
    (s.mirrorPost cls idx ws).twn.queue = s.twn.queue ∧ (cls, idx) ∈ (s.mirrorPost cls idx ws).twn.bulk := by
  rw [State.mirrorPost, if_pos (show s.fld F.TWN_STAT_ROLE = 3 from hrole), if_pos ⟨hopen, hcls, hat⟩]
  exact ⟨rfl, mem_bulkInsert _ _⟩

theorem twnLanes_up (hup : s.linkUp = true) : (∀ type ∈ [1, 4, 6], s.twnLanes type = [0, 1].filter fun k =>
      (s.fld F.TWN_STAT_LANE_LOCK).testBit k) ∧ (∀ type ∈ [2, 3, 5, 7, 8], s.twnLanes type =
        [if (s.fld F.TWN_STAT_LANE_LOCK).testBit 0 then 0 else 1]) := by
  refine ⟨fun type ht => if_pos (List.contains_iff_mem.mpr ht), fun type ht => ?_⟩
  have hnot : ¬([1, 4, 6] : List Nat).contains type = true := by
    simp only [List.mem_cons, List.not_mem_nil, or_false] at ht
    obtain rfl | rfl | rfl | rfl | rfl := ht <;> decide
  have hlock : s.fld F.TWN_STAT_LANE_LOCK ≠ 0 := by simpa [State.linkUp] using hup
  have hlt : s.fld F.TWN_STAT_LANE_LOCK < 4 := fld_lt ..
  rw [State.twnLanes, if_neg hnot]
  generalize s.fld F.TWN_STAT_LANE_LOCK = m at hlock hlt
  interval_cases m
  · exact absurd rfl hlock
  all_goals rfl

theorem twnResync_sends (hrole : s.role = 2) (hup : s.linkUp = true) (hpoint : s.pointOn 9 = false) (hr : s.released = true) :
    Completes .twnResync s fun t =>
      t.twn.sent = s.twn.sent ++ (s.twnLanes 8).map (fun l => (l, twnBytes 8 s.twn.seq s.service [])) ∧ t.regs = s.regs := by
  have hwrite : (s.powered fun s => s.twnCmdWrite 2) = s.twnSend 8 [] := by
    rw [powered_of_released hr]
    exact if_pos hrole
  refine ⟨_, rfl, ?_⟩
  rw [hwrite, twnSend_off [] hup hpoint (by decide)]
  exact ⟨rfl, rfl⟩

/-- Settles O47: a lemma per command and event of the link. -/
theorem twinLinkCommands : Obligations.TwinLinkCommands :=
  ⟨fun _ _ hen hd hr => twinEnable_enables hen hd hr, fun _ _ hen hd hr => twinEnable_disables hen hd hr,
    fun _ hrole hc => pairWaitExpiry_active hrole hc, fun _ _ _ hk => twinLaneLock_gains hk, fun _ _ _ hk => twinLaneLock_loses hk,
    fun _ _ hbeat hup hpoint => heartbeatSend_sends hbeat hup hpoint, fun _ _ hlast hok => linkSilence_fails hlast hok,
    fun _ _ _ hrole hup hpoint hkey hover hask hq => mirrorSend_live hrole hup hkey hover hpoint hask hq,
    fun _ _ _ _ hrole hup hpoint hkey hover hask hq hb hecc => mirrorSend_bulk hrole hup hkey hover hpoint hask hq hb hecc,
    fun _ hrole hup hpoint hkey hover hask hq hb hopen => mirrorSend_end hrole hup hkey hover hpoint hask hq hb hopen,
    fun _ hrole hup hkey _ hmem hover hq hb hopen => mirrorSend_waits hrole hup hkey hover hmem hq hb hopen,
    fun _ => ⟨rfl, rfl, rfl⟩, fun _ _ _ ws hrole hcls hopen hat => mirrorPost_left ws hrole hcls hopen hat, fun _ hup => twnLanes_up hup,
    fun _ hrole hup hpoint hr => twnResync_sends hrole hup hpoint hr⟩

end Sys2Proof.Machine
end

section
/-! PROOFS. `Obligations.TwinTakeoverCommands`: takeover, handover and the egress of the Twin link (R456, R466–R471). -/

namespace Sys2Proof.Machine

variable {s : State} {dt : Nat}

/-! ## Takeover (R466, R470) -/

/-- The state in which a standby has decided: TERM has risen, TAKEOVER is out, the decision is recorded. -/
def State.takeoverSaid (s : State) : State :=
  let u := s.setFld F.TWN_STAT_TERM (s.fld F.TWN_STAT_TERM + 1)
  (u.twnSend 4 [u.twnWord]).siltPost 242 (u.fld F.TWN_STAT_TERM)

/-- A decision with its suspects. -/
def State.decided (v : State) (suspects : List Nat) : State :=
  { v with twn := { v.twn with taking := true, decidedAt := v.clp.now, suspects := suspects, handing := none, arrived := false } }

/-- The valid node-table slots. -/
def State.validIndices (v : State) : List Nat := (v.liveSlots 0 524288).filter fun i => (v.memWord 1 (4 * i + 1)).testBit 55

theorem decided_fld (v : State) (l : List Nat) (f : Fld) : (v.decided l).fld f = v.fld f := rfl

theorem takeoverSaid_clp (s : State) : s.takeoverSaid.clp = s.clp := (siltPost_near ..).clp.trans (twnSend_clp ..)

theorem takeoverSaid_term (s : State) : s.takeoverSaid.fld F.TWN_STAT_TERM = (s.fld F.TWN_STAT_TERM + 1) % 65536 :=
  ((siltPost_near ..).fld (by decide) 0 0).trans <| (twnSend_fld _ _ _ (by decide) 0 0).trans <| fld_setFld_self _ _ _ _ _ (by decide)

theorem takeoverDecision_taken (h : (s.after dt).mayTake = true) : Completes (.takeoverDecision dt) s fun t => ∃ v : State,
    v.fld F.TWN_STAT_TERM = (s.fld F.TWN_STAT_TERM + 1) % 65536 ∧ v.twn.taking = true ∧ v.twn.decidedAt = s.clp.now + dt ∧
      v.twn.handing = none ∧ t = v.takeoverPlace := by
  have hrun : exec (.takeoverDecision dt) s = .next ((s.after dt).takeoverSaid.decided (s.after dt).takeoverSaid.validIndices).takeoverPlace := by
    rw [show exec (.takeoverDecision dt) s = execTakeoverDecision dt s from rfl]
    simp only [execTakeoverDecision, if_pos h, State.decided, State.validIndices, State.takeoverSaid]
  have hclp := takeoverSaid_clp (s.after dt)
  have hterm := takeoverSaid_term (s.after dt)
  rw [after_fld] at hterm
  refine ⟨_, hrun, ?_⟩
  generalize (s.after dt).takeoverSaid = v at hclp hterm ⊢
  exact ⟨v.decided v.validIndices, (decided_fld ..).trans hterm, rfl, (congrArg ClpState.now hclp).trans (after_now s dt), rfl, rfl⟩

theorem takeoverDecision_not (h : (s.after dt).mayTake = false) : Completes (.takeoverDecision dt) s fun t => t = s.after dt :=
  ⟨_, if_neg (by rw [h]; exact Bool.false_ne_true), rfl⟩

/-- An allocation that succeeds touches the cells alone. -/
theorem allocAbove_regs {floor len : Nat} {cs : List Nat} {v : State} (h : s.allocAbove floor len = (some cs, v)) : v.regs = s.regs := by
  unfold State.allocAbove at h
  split at h
  · obtain ⟨-, draw, run, hcells⟩ := takeCells_effect (cellsFor len) s
    rcases hc : s.takeCells (cellsFor len) with ⟨ds, u⟩
    rw [hc] at h hcells
    obtain ⟨-, rfl⟩ := Prod.mk.inj h
    rw [show u = _ from hcells]
  · cases (Prod.mk.inj h).1

theorem takeoverPlace_placed {v : State} {cs : List Nat} (h : s.alloc (s.takeoverFrame s.tkFcs).length = (some cs, v)) :
    ∃ p : Placed, s.takeoverPlace = (v.putFrame cs (s.takeoverFrame s.tkFcs)).place p ∧ p.origin = .takeover ∧
      p.desc.len = (s.takeoverFrame s.tkFcs).length ∧ p.desc.mode = 1 ∧ p.desc.tol = 255 ∧
        p.desc.group = s.fld F.TWN_TK_TK_GROUP ∧ p.desc.chain = s.fld F.TWN_TK_TK_CHAIN := by
  have hregs : v.regs = s.regs := allocAbove_regs h
  rw [State.takeoverPlace]
  simp only [h]
  exact ⟨_, rfl, rfl, rfl, rfl, rfl, fld_congr hregs _ _ _, fld_congr hregs _ _ _⟩

theorem takeoverPlace_internal {v : State} (h : s.alloc (s.takeoverFrame s.tkFcs).length = (none, v)) :
    s.takeoverPlace = (v.siltInternal 3 0).takeoverDone .internal := by
  rw [State.takeoverPlace]
  simp only [h]

theorem takeoverDone_failed {st : Status} (hrole : s.fld F.TWN_STAT_ROLE = 2) (hst : st ≠ .ok) :
    (s.takeoverDone st).fld F.TWN_STAT_ROLE = 3 ∧ (s.takeoverDone st).twn.handing = none ∧
      (s.takeoverDone st).flag F.TWN_EVT_TK_FAIL = true := by
  let u : State := { s with twn := { s.twn with taking := false, workFrom := s.fullNs } }.raise F.TWN_EVT_TK_FAIL
  have hrole' : (u.fld F.TWN_STAT_ROLE == 2) = true := by
    rw [fld_raise_id _ _ _ _ (by decide)]
    exact beq_iff_eq.mpr hrole
  have hdone : s.takeoverDone st = { u with twn := { u.twn with act := true, handing := none, arrived := false } }.setFld F.TWN_STAT_ROLE 3 := by
    refine (if_neg hst).trans ?_
    change u.on (u.fld F.TWN_STAT_ROLE == 2) _ = _
    rw [hrole', on_true]
  rw [hdone]
  refine ⟨fld_setFld_self _ _ _ _ _ (by decide), rfl, ?_⟩
  rw [flag_setFld_id _ _ _ _ _ _ (by decide)]
  exact flag_raise_self _ _ _ (by decide) rfl

theorem suspectWindowEnd_ends (h : s.twn.suspects ≠ []) : Completes .suspectWindowEnd s fun t => t.twn.suspects = [] ∧
    t.clp.now = max s.clp.now (s.twn.decidedAt + s.fld F.TWN_SUSPECT_SUSPECT_MS * 1000000) :=
  ⟨_, if_neg h, rfl, advanceTo_now s _⟩

/-! ## Handover (R471) -/

theorem twnHandover_taken (hrole : s.role = 3) (hpeer : s.peerReady = true) (hasn : s.asnValid = true) (hr : s.released = true) :
    Completes .twnHandover s fun t => t = { s with twn := { s.twn with handing := some ((s.asn + 2) % 2 ^ 40), handed := false } } := by
  have hready : (s.role == 3 && s.peerReady && s.asnValid) = true := by rw [hrole, hpeer, hasn]; rfl
  refine ⟨_, rfl, ?_⟩
  rw [powered_of_released hr]
  exact if_pos hready

theorem twnHandover_refused (h : s.role ≠ 3 ∨ s.peerReady = false ∨ s.asnValid = false) (hr : s.released = true) :
    Completes .twnHandover s fun t => t = s.raise F.TWN_EVT_CMD_REFUSED := by
  have hready : ¬(s.role == 3 && s.peerReady && s.asnValid) = true := by
    rcases h with h | h | h <;> simp [h]
  refine ⟨_, rfl, ?_⟩
  rw [powered_of_released hr]
  exact if_neg hready

/-- The HANDOVER is on its way. -/
def State.handedOver (v : State) : State := { v with twn := { v.twn with handed := true } }

theorem exec_handoverSend {h : Nat} (hh : s.twn.handing = some h) (hrole : s.role = 3) (hsent : s.twn.handed = false)
    (hq : s.twn.queue = []) (hover : s.twn.overflow = false) (hleft : (h + 2 ^ 40 - (s.after dt).asn) % 2 ^ 40 ≤ 1) :
    exec (.handoverSend dt) s = .next ((s.after dt).handedOver.twnSend 5 [(s.after dt).twnWord]) := by
  have hrole' : (s.after dt).role = 3 := (after_role s dt).trans hrole
  rw [← after_twn s dt] at hh hsent hq hover
  rw [show exec (.handoverSend dt) s = execHandoverSend dt s from rfl, execHandoverSend]
  dsimp only
  split
  case h_1 k hk =>
    obtain rfl : k = h := Option.some.inj (hk.symm.trans hh)
    exact if_pos ⟨hrole', hsent, hq, hover, .inl hleft⟩
  case h_2 hk => exact absurd (hk.symm.trans hh) (by simp)

theorem handoverSend_sends {h : Nat} (hh : s.twn.handing = some h) (hrole : s.role = 3) (hsent : s.twn.handed = false)
    (hq : s.twn.queue = []) (hover : s.twn.overflow = false) (hleft : (h + 2 ^ 40 - (s.after dt).asn) % 2 ^ 40 ≤ 1) (hup : s.linkUp = true)
    (hpoint : s.pointOn 9 = false) : Completes (.handoverSend dt) s fun t => t.twn.handed = true ∧
      t.twn.sent = s.twn.sent ++ (s.twnLanes 5).map fun l => (l, twnBytes 5 s.twn.seq (s.after dt).service [(s.after dt).twnWord]) := by
  have hregs : (s.after dt).handedOver.regs = s.regs := after_regs s dt
  have htwn : (s.after dt).handedOver.twn = { s.twn with handed := true } := by rw [State.handedOver, after_twn]
  have hservice : (s.after dt).handedOver.service = (s.after dt).service := rfl
  refine ⟨_, exec_handoverSend hh hrole hsent hq hover hleft, ?_⟩
  generalize (s.after dt).handedOver = u at hregs htwn hservice
  rw [twnSend_off _ ((linkUp_congr hregs).trans hup) ((pointOn_congr hregs 9).trans hpoint) (by decide), hservice, twnLanes_congr hregs,
    State.withSent, htwn]
  exact ⟨rfl, rfl⟩

/-! ## Egress (R456, R386) -/

theorem after_poppable (s : State) (dt n : Nat) : (s.after dt).poppable n = s.poppable n := by
  simp only [State.poppable, State.recordRest, State.recLen, after_runnel, after_fld]

theorem twinTxRecord_worked (hrole : s.role ≠ 0) (hon : s.runnelOn (s.fld F.TWN_RUNNEL_TX_RUNNEL) = true)
    (hmany : 2 ≤ s.poppable (s.fld F.TWN_RUNNEL_TX_RUNNEL)) (hmem : s.memReady 0 = true) :
    let n := s.fld F.TWN_RUNNEL_TX_RUNNEL
    let q := ((s.after dt).popWords n 2).1
    let u := ((s.after dt).popWords n 2).2
    q.any RunWord.isBad = false → Completes (.twinTxRecord dt) s fun t =>
      t = u.twnTx ((q.getD 0 ⟨0, false, false⟩).val).toNat (q.getD 1 ⟨0, false, false⟩).val := by
  intro n q u hgood
  refine ⟨_, ?_, rfl⟩
  rw [show exec (.twinTxRecord dt) s = execTwinTxRecord dt s from rfl, execTwinTxRecord]
  simp only [after_fld]
  rw [if_pos ⟨by rwa [after_role], (after_runnelOn ..).trans hon, by rwa [after_poppable], (after_memReady ..).trans hmem⟩]
  rw [if_neg (show ¬q.any RunWord.isBad = true by rw [hgood]; exact Bool.false_ne_true)]

theorem twinTxRecord_waits (h : s.role = 0 ∨ s.poppable (s.fld F.TWN_RUNNEL_TX_RUNNEL) < 2 ∨ s.memReady 0 = false) :
    Completes (.twinTxRecord dt) s fun t => t = s.after dt := by
  refine ⟨_, ?_, rfl⟩
  rw [show exec (.twinTxRecord dt) s = execTwinTxRecord dt s from rfl, execTwinTxRecord]
  simp only [after_fld, after_role, after_poppable, after_memReady]
  refine if_neg fun hwork => ?_
  obtain ⟨hrole, -, hmany, hmem⟩ := hwork
  rcases h with h | h | h
  · exact hrole h
  · omega
  · exact Bool.false_ne_true (h.symm.trans hmem)

/-- Settles O50: a lemma per command of takeover and handover, and per end of an egress record. -/
theorem twinTakeoverCommands : Obligations.TwinTakeoverCommands :=
  ⟨fun _ _ h => takeoverDecision_taken h, fun _ _ h => takeoverDecision_not h, fun _ _ _ h => takeoverPlace_placed h,
    fun _ _ h => takeoverPlace_internal h, fun _ _ hrole hst => takeoverDone_failed hrole hst, fun _ h => suspectWindowEnd_ends h,
    fun _ hrole hpeer hasn hr => twnHandover_taken hrole hpeer hasn hr, fun _ h hr => twnHandover_refused h hr,
    fun _ _ _ hh hrole hsent hq hover hleft hup hpoint => handoverSend_sends hh hrole hsent hq hover hleft hup hpoint,
    fun _ _ hrole hon hmany hmem hgood => twinTxRecord_worked hrole hon hmany hmem hgood, fun _ _ h => twinTxRecord_waits h,
    fun _ _ _ h => if_pos h⟩

end Sys2Proof.Machine
end

section
/-! PROOFS. `Obligations.HostCommands`: the packet-memory window, the link and configuration space (R388–R391, R550). -/

namespace Sys2Proof.Machine

variable {s : State} {dt : Nat}

/-! ## The packet-memory window (R390) -/

theorem after_hostReaches (s : State) (dt : Nat) : (s.after dt).hostReaches = s.hostReaches := by
  rw [State.hostReaches, after_flag, after_hst, State.hostReaches]

theorem bar2Access_reached (o n : Nat) (bs : List Byte) (hup : s.flag F.HST_STAT_LINK_UP = true) (hd3 : s.hst.cfg.d3hot = false) :
    (Completes (.bar2Access dt true o n bs) s fun t => t = (s.after dt).bar2Write (o % 2 ^ 24) (bs.take 4096)) ∧
    (s.memReady 0 = true → Completes (.bar2Access dt false o n bs) s fun t => t = (s.after dt).bar2Read (o % 2 ^ 24) (min n 4096)) ∧
    (s.memReady 0 = false → Completes (.bar2Access dt false o n bs) s fun t => t = s.after dt) := by
  have hreach : ¬(s.after dt).hostReaches = false := by
    rw [after_hostReaches, State.hostReaches, hup, hd3]
    decide
  refine ⟨⟨_, (if_neg hreach).trans (if_pos rfl), rfl⟩, fun hmem => ⟨_, ?_, rfl⟩, fun hmem => ⟨_, ?_, rfl⟩⟩
  · exact ((if_neg hreach).trans (if_neg Bool.false_ne_true)).trans (if_pos ((after_memReady ..).trans hmem))
  · exact ((if_neg hreach).trans (if_neg Bool.false_ne_true)).trans (if_neg (by rw [after_memReady, hmem]; exact Bool.false_ne_true))

theorem bar2Read_of_good (o n : Nat) (hend : o + n ≤ 2 ^ 24) (hecc : ∀ x, s.eccOf 0 x = none) :
    s.bar2Read o n = s.hostAnswer (s.memBytes 0 o n) false := by
  rw [State.bar2Read, Nat.min_eq_left (by omega)]
  simp only [memLoad_of_good hecc]

theorem bar2Access_unreached (o n : Nat) (write : Bool) (bs : List Byte) (h : s.flag F.HST_STAT_LINK_UP = false ∨ s.hst.cfg.d3hot = true) :
    Completes (.bar2Access dt write o n bs) s fun t => t = s.after dt := by
  refine ⟨_, if_pos ?_, rfl⟩
  rw [after_hostReaches, State.hostReaches]
  rcases h with h | h <;> simp [h]

/-! ## Rings that stop (R391, R397) -/

theorem ringStop_regs (s : State) (n : Nat) : (s.ringStop n).regs = (s.setFld F.HST_RING_CTL_EN 0 n).regs :=
  (settleVector_sameButMessages _ _).regs

theorem ringStop_off (s : State) (n : Nat) : (s.ringStop n).flag F.HST_RING_CTL_EN n = false :=
  (flag_congr (ringStop_regs s n) _ _ _).trans (flag_setFld_zero _ _ _ _ (by decide) rfl)

theorem ringStop_keeps_off {m n : Nat} (h : s.flag F.HST_RING_CTL_EN n = false) : (s.ringStop m).flag F.HST_RING_CTL_EN n = false := by
  by_cases hmn : n = m
  · exact hmn ▸ ringStop_off s n
  · refine (flag_of_reg ?_).trans h
    exact (reg_congr (ringStop_regs s m) _ _ _).trans (reg_setReg_ne _ _ fun he => hmn he.2.1)

theorem ringsOff_of_mem {ms : List Nat} {n : Nat} (h : n ∈ ms) (s : State) : (ms.foldl (fun s n => s.ringStop n) s).flag F.HST_RING_CTL_EN n = false := by
  induction ms generalizing s with
  | nil => cases h
  | cons m ms ih =>
    by_cases hin : n ∈ ms
    · exact ih hin _
    · obtain rfl : n = m := (List.mem_cons.mp h).resolve_right hin
      exact List.foldlRecOn (motive := fun t : State => t.flag F.HST_RING_CTL_EN n = false) ms _ (ringStop_off s n)
        fun _ ht _ _ => ringStop_keeps_off ht

/-- Every ring has stopped. -/
theorem ringsStop_off (s : State) (popped : List Nat) {n : Nat} (hn : n < 16) : (s.ringsStop popped).flag F.HST_RING_CTL_EN n = false := by
  rw [State.ringsStop]
  exact ringsOff_of_mem (List.mem_range.mpr hn) _

/-! ## The link (R391, R550) -/

theorem pcieDown_up (s : State) : s.pcieDown.flag F.HST_STAT_LINK_UP = false ∧ s.pcieDown.fld F.HST_STAT_WIDTH = 0 := by
  rw [State.pcieDown]
  refine ⟨?_, ?_⟩
  · rw [flag_setFld_disjoint _ _ _ _ _ _ (by decide) (by decide), flag_setFld_disjoint _ _ _ _ _ _ (by decide) (by decide),
      flag_setFld_zero _ _ _ _ (by decide) rfl]
  · rw [fld_setFld_disjoint _ _ _ _ _ _ (by decide) (by decide), fld_setFld_self _ _ _ _ _ (by decide)]
    rfl

theorem pcieDown_flag (s : State) {f : Fld} (i : Nat) (h : f.reg ≠ .HST_STAT) : s.pcieDown.flag f i = s.flag f i := by
  rw [State.pcieDown, flag_setFld_id _ _ _ _ _ _ h, flag_setFld_id _ _ _ _ _ _ h, flag_setFld_id _ _ _ _ _ _ h]

theorem pcieLinkDown_falls (popped : List Nat) (hup : s.flag F.HST_STAT_LINK_UP = true) : Completes (.pcieLinkDown dt popped) s fun t =>
    t.flag F.HST_STAT_LINK_UP = false ∧ t.fld F.HST_STAT_WIDTH = 0 ∧ t.flag F.HST_EVT_LINK_DOWN = true ∧
      ∀ n, n < 16 → t.flag F.HST_RING_CTL_EN n = false := by
  obtain ⟨hdown, hwidth⟩ := pcieDown_up ((s.after dt).ringsStop popped)
  refine ⟨_, if_pos ((after_flag ..).trans hup), ?_, ?_, flag_raise_self _ _ _ (by decide) rfl, fun n hn => ?_⟩
  · rw [flag_raise_id _ _ _ _ (by decide), hdown]
  · rw [fld_raise_id _ _ _ _ (by decide), hwidth]
  · rw [flag_raise_id _ _ _ _ (by decide), pcieDown_flag _ _ (by decide), ringsStop_off _ _ hn]

/-- The registers of one ring return to reset. -/
def State.ringClear (s : State) (n : Nat) : State :=
  [RegId.HST_RING_CTL, .HST_RING_COAL, .HST_RING_BASE, .HST_RING_WB, .HST_RING_DB, .HST_RING_PTR].foldl (fun s id =>
    s.setReg id n 0 (resetAt id n 0)) s

theorem ringClear_keeps_off {m n : Nat} (h : s.flag F.HST_RING_CTL_EN n = false) : (s.ringClear m).flag F.HST_RING_CTL_EN n = false := by
  simp only [State.ringClear, List.foldl_cons, List.foldl_nil]
  rw [flag_setReg_id _ _ _ _ _ _ (by decide), flag_setReg_id _ _ _ _ _ _ (by decide), flag_setReg_id _ _ _ _ _ _ (by decide),
    flag_setReg_id _ _ _ _ _ _ (by decide), flag_setReg_id _ _ _ _ _ _ (by decide)]
  by_cases hmn : n = m
  · subst hmn
    rw [State.flag, State.fld, show F.HST_RING_CTL_EN.reg = RegId.HST_RING_CTL from rfl, reg_setReg_self, show resetAt .HST_RING_CTL n 0 = BitVec.ofNat 64 RegId.HST_RING_CTL.resetWord from by rw [resetAt, if_neg (by decide)]]
    decide
  · refine (flag_of_reg ?_).trans h
    exact reg_setReg_ne _ _ fun he => hmn he.2.1

theorem ringClear_flag {f : Fld} (s : State) (m : Nat) (h : f.reg = .HST_STAT) : (s.ringClear m).flag f = s.flag f := by
  have hne (id : RegId) (hid : id ≠ .HST_STAT) (t : State) (v : Word) : (t.setReg id m 0 v).flag f = t.flag f :=
    flag_setReg_id _ _ _ _ _ _ (h ▸ hid.symm)
  simp only [State.ringClear, List.foldl_cons, List.foldl_nil]
  rw [hne _ (by decide), hne _ (by decide), hne _ (by decide), hne _ (by decide), hne _ (by decide), hne _ (by decide)]

theorem ringClear_hst (s : State) (m : Nat) : (s.ringClear m).hst = s.hst := rfl

/-- A hot reset before the ring registers are cleared: rings, link and messaging are off, and configuration space is at reset. -/
def State.hotStopped (s : State) (popped : List Nat) : State :=
  let s := (((s.ringsStop popped).pcieDown).setFld F.HST_STAT_MSIX_EN 0).setFld F.HST_STAT_BUS_MASTER 0
  { s with hst := { s.hst with pba := [], msgs := ((0, 0), []), funcMask := false, cfg := {} } }

theorem hotReset_eq (s : State) (popped : List Nat) :
    s.hotReset popped = ((List.range 16).foldl State.ringClear (s.hotStopped popped)).raise F.HST_EVT_HOT_RESET := rfl

theorem hotStopped_flag (s : State) (popped : List Nat) (f : Fld) (i : Nat) : (s.hotStopped popped).flag f i =
    ((((s.ringsStop popped).pcieDown).setFld F.HST_STAT_MSIX_EN 0).setFld F.HST_STAT_BUS_MASTER 0).flag f i := rfl

theorem hotReset_effects (s : State) (popped : List Nat) : let t := s.hotReset popped
    t.flag F.HST_STAT_LINK_UP = false ∧ t.flag F.HST_STAT_MSIX_EN = false ∧ t.flag F.HST_STAT_BUS_MASTER = false ∧
      t.hst.funcMask = false ∧ t.hst.cfg = {} ∧ t.flag F.HST_EVT_HOT_RESET = true ∧ ∀ n, n < 16 → t.flag F.HST_RING_CTL_EN n = false := by
  have hstat {f : Fld} (h : f.reg = .HST_STAT) :
      ((List.range 16).foldl State.ringClear (s.hotStopped popped)).flag f = (s.hotStopped popped).flag f :=
    foldl_flag (fun t m => ringClear_flag t m h) _ _
  have hhst : ((List.range 16).foldl State.ringClear (s.hotStopped popped)).hst = (s.hotStopped popped).hst :=
    foldl_keeps (c := State.hst) ringClear_hst _ _
  simp only [hotReset_eq]
  refine ⟨?_, ?_, ?_, ?_, ?_, flag_raise_self _ _ _ (by decide) rfl, fun n hn => ?_⟩
  · rw [flag_raise_id _ _ _ _ (by decide), hstat rfl, hotStopped_flag, flag_setFld_disjoint _ _ _ _ _ _ (by decide) (by decide),
      flag_setFld_disjoint _ _ _ _ _ _ (by decide) (by decide), (pcieDown_up _).1]
  · rw [flag_raise_id _ _ _ _ (by decide), hstat rfl, hotStopped_flag, flag_setFld_disjoint _ _ _ _ _ _ (by decide) (by decide),
      flag_setFld_zero _ _ _ _ (by decide) rfl]
  · rw [flag_raise_id _ _ _ _ (by decide), hstat rfl, hotStopped_flag, flag_setFld_zero _ _ _ _ (by decide) rfl]
  · refine (raise_hst_part (q := HostState.funcMask) _ _ _ fun _ _ _ _ => rfl).trans ?_
    rw [hhst]
    rfl
  · refine (raise_hst_part (q := HostState.cfg) _ _ _ fun _ _ _ _ => rfl).trans ?_
    rw [hhst]
    rfl
  · rw [flag_raise_id _ _ _ _ (by decide)]
    refine List.foldlRecOn (motive := fun t : State => t.flag F.HST_RING_CTL_EN n = false) _ _ ?_ fun _ ht _ _ => ringClear_keeps_off ht
    rw [hotStopped_flag, flag_setFld_id _ _ _ _ _ _ (by decide), flag_setFld_id _ _ _ _ _ _ (by decide), pcieDown_flag _ _ (by decide),
      ringsStop_off _ _ hn]

/-- A reset level that the filter takes (R537, R550). -/
def State.perstSeen (u : State) (popped : List Nat) : State := (u.after 100).powered fun s => s.hotReset popped

theorem exec_pciePerst {held : Nat} (popped : List Nat) (h : 100 ≤ held) :
    exec (.pciePerst ⟨dt, held⟩ popped) s = .next ((s.after dt).perstSeen popped) := by
  have hseen : (s.after dt).filtered 19 100 held = (true, s.after dt) := by rw [State.filtered, if_neg (by omega), if_pos h]
  have hon (u : State) : (u.on true fun s => (s.after 100).powered fun s => s.hotReset popped) = u.perstSeen popped := on_true u _
  rw [show exec (.pciePerst ⟨dt, held⟩ popped) s = execPciePerst ⟨dt, held⟩ popped s from rfl, execPciePerst]
  simp only [hseen, hon]

theorem hotReset_commands {held : Nat} (popped : List Nat) (hr : s.released = true) (h : 100 ≤ held) :
    ∀ c ∈ [Instr.hotReset dt popped, .pciePerst ⟨dt, held⟩ popped], Completes c s fun t =>
    t.flag F.HST_STAT_LINK_UP = false ∧ t.flag F.HST_STAT_MSIX_EN = false ∧ t.flag F.HST_STAT_BUS_MASTER = false ∧
      t.hst.funcMask = false ∧ t.hst.cfg = {} ∧ t.flag F.HST_EVT_HOT_RESET = true ∧ ∀ n, n < 16 → t.flag F.HST_RING_CTL_EN n = false := by
  have hr' : ((s.after dt).after 100).released = true := by rw [after_released, after_released, hr]
  simp only [List.forall_mem_cons, List.not_mem_nil, false_imp_iff, implies_true, and_true]
  exact ⟨completes_of_after hr rfl (hotReset_effects _ popped), _, exec_pciePerst popped h, by
    rw [State.perstSeen, powered_of_released hr']
    exact hotReset_effects _ popped⟩

theorem pciePerst_short {held : Nat} (popped : List Nat) (h : held ≤ 19) : Completes (.pciePerst ⟨dt, held⟩ popped) s fun t => t = s.after dt := by
  refine ⟨_, ?_, rfl⟩
  have hseen : (s.after dt).filtered 19 100 held = (false, s.after dt) := if_pos h
  rw [show exec (.pciePerst ⟨dt, held⟩ popped) s = execPciePerst ⟨dt, held⟩ popped s from rfl, execPciePerst]
  simp only [hseen, on_false]

theorem pciePerst_held {held : Nat} (popped : List Nat) (hr : s.released = false) (h : 100 ≤ held) :
    Completes (.pciePerst ⟨dt, held⟩ popped) s fun t => t = (s.after dt).after 100 := by
  refine ⟨_, exec_pciePerst popped h, if_neg ?_⟩
  rw [after_released, after_released, hr]
  exact Bool.false_ne_true

theorem pcieLinkUp_trains {width speed : Nat} (hup : s.flag F.HST_STAT_LINK_UP = false) (hw : width ∈ [1, 2, 4]) (h1 : 1 ≤ speed)
    (h4 : speed ≤ 4) (hr : s.released = true) : Completes (.pcieLinkUp dt width speed) s fun t =>
      t.flag F.HST_STAT_LINK_UP = true ∧ t.fld F.HST_STAT_WIDTH = width ∧ t.fld F.HST_STAT_SPEED = speed ∧ t.flag F.HST_EVT_LINK_UP = true := by
  have hlt : width < 8 := by
    simp only [List.mem_cons, List.not_mem_nil, or_false] at hw
    omega
  refine ⟨_, if_pos ⟨(after_released ..).trans hr, (after_flag ..).trans hup, List.contains_iff_mem.mpr hw, h1, h4⟩, ?_, ?_, ?_,
    flag_raise_self _ _ _ (by decide) rfl⟩
  · rw [flag_raise_id _ _ _ _ (by decide), flag_setFld_disjoint _ _ _ _ _ _ (by decide) (by decide),
      flag_setFld_disjoint _ _ _ _ _ _ (by decide) (by decide), flag_setFld_one _ _ _ _ (by decide) rfl]
  · rw [fld_raise_id _ _ _ _ (by decide), fld_setFld_disjoint _ _ _ _ _ _ (by decide) (by decide), fld_setFld_self _ _ _ _ _ (by decide)]
    exact Nat.mod_eq_of_lt hlt
  · rw [fld_raise_id _ _ _ _ (by decide), fld_setFld_self _ _ _ _ _ (by decide)]
    exact Nat.mod_eq_of_lt (show speed < 8 by omega)

/-! ## Configuration space (R388, R389) -/

theorem aerWrite_nothing (a : AerState) : a.write {} = a := by simp [AerState.write]

theorem setAer_self (s : State) : s.setAer s.hst.cfg.aer = s := rfl

section
variable (hr : s.released = true)
include hr

theorem exec_busMasterClear (cfg : ConfigWrite) (popped : List Nat) : exec (.busMasterClear dt cfg popped) s = .next
    (let u := (s.after dt).configWrite cfg
     if cfg.bme then u.setFld F.HST_STAT_BUS_MASTER 1
     else if u.flag F.HST_STAT_BUS_MASTER then (u.ringsStop popped).setFld F.HST_STAT_BUS_MASTER 0 else u) := by
  rw [show exec (.busMasterClear dt cfg popped) s = execBusMasterClear dt cfg popped s from rfl, execBusMasterClear]
  dsimp only
  rw [if_neg (by rw [after_released, hr]; exact Bool.noConfusion)]
  split
  · rfl
  · split <;> rfl

theorem busMaster_sets (popped : List Nat) : Completes (.busMasterClear dt ⟨true, none, none, {}⟩ popped) s fun t =>
    t = (s.after dt).setFld F.HST_STAT_BUS_MASTER 1 := by
  have hwrite : (s.after dt).configWrite ⟨true, none, none, {}⟩ = s.after dt := by
    simp only [State.configWrite, aerWrite_nothing, setAer_self]
  exact ⟨_, exec_busMasterClear hr _ popped, by simp only [hwrite, if_true]⟩

theorem busMaster_clears (popped : List Nat) (hbme : s.flag F.HST_STAT_BUS_MASTER = true) :
    Completes (.busMasterClear dt ⟨false, none, none, {}⟩ popped) s fun t => t.flag F.HST_STAT_BUS_MASTER = false ∧
      ∀ n, n < 16 → t.flag F.HST_RING_CTL_EN n = false := by
  have hwrite : (s.after dt).configWrite ⟨false, none, none, {}⟩ = s.after dt := by
    simp only [State.configWrite, aerWrite_nothing, setAer_self]
  refine ⟨_, exec_busMasterClear hr _ popped, ?_⟩
  simp only [hwrite, after_flag, hbme, Bool.false_eq_true, if_false, if_true]
  refine ⟨flag_setFld_zero _ _ _ _ (by decide) rfl, fun n hn => ?_⟩
  rw [flag_setFld_id _ _ _ _ _ _ (by decide), ringsStop_off _ _ hn]

theorem busMaster_settings {mps mrrs : Nat} (d3 : Bool) (popped : List Nat) (hmps : mps ∈ [128, 256, 512])
    (hmrrs : mrrs ∈ [128, 256, 512, 1024, 2048, 4096]) : Completes (.busMasterClear dt ⟨true, some (mps, mrrs, d3), none, {}⟩ popped) s fun t =>
      t.hst.cfg = { s.hst.cfg with maxPayload := mps, maxRead := mrrs, d3hot := d3 } ∧ t.flag F.HST_STAT_BUS_MASTER = true ∧
        (d3 = true → t.dmaOk = false) := by
  have hwrite : ((s.after dt).configWrite ⟨true, some (mps, mrrs, d3), none, {}⟩).hst.cfg =
      { s.hst.cfg with maxPayload := mps, maxRead := mrrs, d3hot := d3 } := by
    simp only [State.configWrite, aerWrite_nothing, setAer_self, State.configSet, if_pos (List.contains_iff_mem.mpr hmps),
      if_pos (List.contains_iff_mem.mpr hmrrs), after_hst]
  refine ⟨_, exec_busMasterClear hr _ popped, ?_⟩
  generalize (s.after dt).configWrite _ = u at hwrite
  simp only [if_true, setFld_hst, hwrite, true_and]
  refine ⟨flag_setFld_one _ _ _ _ (by decide) rfl, fun hd3 => ?_⟩
  rw [State.dmaOk, State.busMaster, setFld_hst, hwrite, hd3]
  exact Bool.and_false _

end

/-- The low half of a base address, without the bits below its size. -/
theorem bar_low (k w b : Nat) (h : k + w = 32) : bits (b / 2 ^ k * 2 ^ k) k w = b % 2 ^ 32 / 2 ^ k := by
  rw [bits, Nat.mul_div_cancel _ (Nat.two_pow_pos k), ← h, Nat.pow_add, Nat.mod_mul_right_div_self]

/-- The high half of a base address. -/
theorem bar_high (k : Nat) {b : Nat} (h : b < 2 ^ 64) (hk : k ≤ 32) : bits (b / 2 ^ k * 2 ^ k) 32 32 = b / 2 ^ 32 := by
  have hsplit : 2 ^ 32 = 2 ^ k * 2 ^ (32 - k) := by rw [← Nat.pow_add, Nat.add_sub_cancel' hk]
  have hdiv : b / 2 ^ k * 2 ^ k / 2 ^ 32 = b / 2 ^ 32 := by
    rw [hsplit, ← Nat.div_div_eq_div_mul, Nat.mul_div_cancel _ (Nat.two_pow_pos k), Nat.div_div_eq_div_mul]
  rw [bits, hdiv]
  exact Nat.mod_eq_of_lt (Nat.div_lt_of_lt_mul h)

/-- The words of the error registers. -/
def AerState.words (a : AerState) : List Nat := [a.uncor, a.mask, a.severity, a.cor, a.corMask, a.first] ++ a.header

theorem aerRegs_eq (s : State) : s.aerRegs = s.hst.cfg.aer.words := rfl

theorem aerWrite_effects (a : AerState) (w : AerWrite) : let cor := a.cor ||| (w.corrected &&& linkErrors)
    (a.write w).status = a.status - (a.status &&& w.clearStatus) ∧ (w.masks = none →
      (a.write w).words = [a.uncor - (a.uncor &&& w.clearUncor), a.mask, a.severity, cor - (cor &&& w.clearCor), a.corMask, a.first] ++ a.header) ∧
    ∀ m v k, m < 2 ^ 32 → v < 2 ^ 32 → k < 2 ^ 32 → w.masks = some (m, v, k) →
      (a.write w).words = [a.uncor - (a.uncor &&& w.clearUncor), m, v, cor - (cor &&& w.clearCor), k, a.first] ++ a.header := by
  refine ⟨?_, fun h => ?_, fun m v k hm hv hk h => ?_⟩
  · unfold AerState.write
    dsimp only
    split <;> rfl
  · simp only [AerState.words, AerState.write, h]
  · simp only [AerState.words, AerState.write, h, Nat.mod_eq_of_lt hm, Nat.mod_eq_of_lt hv, Nat.mod_eq_of_lt hk]

theorem busMaster_bars {b0 b2 : Nat} (w : AerWrite) (popped : List Nat) (h0 : b0 < 2 ^ 64) (h2 : b2 < 2 ^ 64) (hr : s.released = true) :
    let a := s.hst.cfg.aer
    let cor := a.cor ||| (w.corrected &&& linkErrors)
    Completes (.busMasterClear dt ⟨true, none, some (b0, b2), w⟩ popped) s fun t =>
      t.configRead 0x10 = some (b0 % 2 ^ 32 / 2 ^ 27 * 2 ^ 27 + 4) ∧ t.configRead 0x14 = some (b0 / 2 ^ 32) ∧
      t.configRead 0x18 = some (b2 % 2 ^ 32 / 2 ^ 24 * 2 ^ 24 + 12) ∧ t.configRead 0x1C = some (b2 / 2 ^ 32) ∧
      t.hst.cfg.aer.status = a.status - (a.status &&& w.clearStatus) ∧ (w.masks = none →
        t.aerRegs = [a.uncor - (a.uncor &&& w.clearUncor), a.mask, a.severity, cor - (cor &&& w.clearCor), a.corMask, a.first] ++ a.header) ∧
      ∀ m v k, m < 2 ^ 32 → v < 2 ^ 32 → k < 2 ^ 32 → w.masks = some (m, v, k) →
        t.aerRegs = [a.uncor - (a.uncor &&& w.clearUncor), m, v, cor - (cor &&& w.clearCor), k, a.first] ++ a.header := by
  intro a cor
  have hwrite : ((s.after dt).configWrite ⟨true, none, some (b0, b2), w⟩).hst.cfg =
      { s.hst.cfg with bar0 := b0 / 2 ^ 27 * 2 ^ 27, bar2 := b2 / 2 ^ 24 * 2 ^ 24, aer := a.write w } := by
    simp only [State.configWrite, State.setAer, after_hst, a]
  refine ⟨_, exec_busMasterClear hr _ popped, ?_⟩
  generalize (s.after dt).configWrite _ = u at hwrite
  simp only [if_true]
  have hcfg : (u.setFld F.HST_STAT_BUS_MASTER 1).hst.cfg =
      { s.hst.cfg with bar0 := b0 / 2 ^ 27 * 2 ^ 27, bar2 := b2 / 2 ^ 24 * 2 ^ 24, aer := a.write w } := hwrite
  obtain ⟨hstatus, hnone, hsome⟩ := aerWrite_effects a w
  simp only [State.configRead, aerRegs_eq, hcfg, bar_low 27 5 b0 rfl, bar_low 24 8 b2 rfl, bar_high 27 h0 (by decide), bar_high 24 h2 (by decide)]
  exact ⟨trivial, trivial, trivial, trivial, hstatus, hnone, hsome⟩

theorem configRead_ids (s : State) : s.configRead 0 = some 0x64161F4C ∧ (s.configRead 8).map (fun v => v / 256) = some 0x0D8000 ∧
    s.configRead 0x2C = some (s.fld F.HST_SSID_SSVID + s.fld F.HST_SSID_SSID * 2 ^ 16) := by
  refine ⟨rfl, ?_, rfl⟩
  simp only [State.configRead, Option.map_some, Option.some.injEq]
  omega

end Sys2Proof.Machine
end

section
/-! PROOFS. `Obligations.HostCommands`, rings (R393–R398), DMA errors (R388, R397) and host ingress (R399). -/

namespace Sys2Proof.Machine

variable {s : State} {dt n : Nat}

/-! ## A ring beyond its registers -/

/-- Messages leave the rings alone. -/
theorem ring_noMessage (n : Nat) : HostState.NoMessage fun h => SMap.getD h.rings n {} := fun _ _ _ _ => rfl

theorem ring_setRing (s : State) (n : Nat) (r : HostRing) : (s.setRing n r).ring n = r := SMap.getD_put_self ..

theorem ring_settleVector (s : State) (v n : Nat) : (s.settleVector v).ring n = s.ring n :=
  (settleVector_sameButMessages s v).hst_part (ring_noMessage n)

theorem ring_sendVector (s : State) (v n : Nat) : (s.sendVector v).ring n = s.ring n :=
  (sendVector_sameButMessages s v false).hst_part (ring_noMessage n)

theorem after_ring (s : State) (dt n : Nat) : (s.after dt).ring n = s.ring n := by rw [State.ring, after_hst, State.ring]

theorem after_ringRuns (s : State) (dt n : Nat) : (s.after dt).ringRuns n = s.ringRuns n := by
  simp only [State.ringRuns, State.dmaOk, State.busMaster, after_flag, after_hst, after_ring]

theorem after_ringUsed (s : State) (dt n : Nat) : (s.after dt).ringUsed n = s.ringUsed n := by
  simp only [State.ringUsed, State.ringSize, after_fld]

theorem ringError_stops (s : State) (n : Nat) :
    (s.ringError n).flag F.HST_RING_CTL_EN n = false ∧ (s.ringError n).flag F.HST_RING_CTL_ERR n = true := by
  rw [State.ringError]
  refine ⟨?_, flag_setFld_one _ _ _ _ (by decide) rfl⟩
  rw [flag_setFld_disjoint _ _ _ _ _ _ (by decide) (by decide), ringStop_off]

/-! ## Writes of HST_RING_CTL_n (R393, R398) -/

theorem ringCtl_en (s : State) (n : Nat) : (s.reg .HST_RING_CTL n 0).getLsbD 0 = s.flag F.HST_RING_CTL_EN n := (flag_bit s .HST_RING_CTL n 0 0).symm

/-- What a write puts into HST_RING_CTL_n while EN is 0. -/
def State.ringParams (s : State) (n : Nat) (d : Word) : Word := (d &&& 0x3FFFFE) ||| (s.reg .HST_RING_CTL n 0 &&& 0x400000 &&& ~~~d)

/-- A ring that is being enabled, its indices and its counts at zero, before its check. -/
def State.ringArmed (s : State) (n : Nat) (d : Word) : State :=
  (((s.setReg .HST_RING_CTL n 0 (s.ringParams n d)).setReg .HST_RING_PTR n 0 0).setRing n {}).settleVector
    (bits (s.reg .HST_RING_CTL n 0).toNat F.HST_RING_CTL_VEC.lo F.HST_RING_CTL_VEC.w)

section
variable (d : Word)

theorem ringArmed_regs : (s.ringArmed n d).regs = ((s.setReg .HST_RING_CTL n 0 (s.ringParams n d)).setReg .HST_RING_PTR n 0 0).regs :=
  (settleVector_sameButMessages _ _).regs

theorem ringArmed_ring : (s.ringArmed n d).ring n = {} := (ring_settleVector ..).trans (ring_setRing ..)

theorem ringArmed_fld {f : Fld} (hctl : f.reg ≠ .HST_RING_CTL) (hptr : f.reg ≠ .HST_RING_PTR) : (s.ringArmed n d).fld f n = s.fld f n :=
  (fld_congr (ringArmed_regs d) _ _ _).trans <| (fld_setReg_id _ _ _ _ _ _ hptr).trans (fld_setReg_id _ _ _ _ _ _ hctl)

theorem ringArmed_ctl : (s.ringArmed n d).reg .HST_RING_CTL n 0 = s.ringParams n d :=
  (reg_congr (ringArmed_regs d) _ _ _).trans <| (reg_setReg_id _ _ _ _ _ _ (by decide)).trans (reg_setReg_self ..)

theorem ringArmed_ptr : (s.ringArmed n d).reg .HST_RING_PTR n 0 = 0 := (reg_congr (ringArmed_regs d) _ _ _).trans (reg_setReg_self ..)

theorem ringParams_size (d : Word) : bits (s.ringParams n (d ||| 1)).toNat 2 5 = bits d.toNat 2 5 := by
  refine bits_congr fun k hlo hhi => ?_
  have hk : k = 2 ∨ k = 3 ∨ k = 4 ∨ k = 5 ∨ k = 6 := by omega
  rw [BitVec.testBit_toNat, BitVec.testBit_toNat, State.ringParams]
  simp only [BitVec.getLsbD_or, BitVec.getLsbD_and]
  obtain rfl | rfl | rfl | rfl | rfl := hk <;> simp

theorem ringArmed_size : (s.ringArmed n (d ||| 1)).fld F.HST_RING_CTL_SIZE n = bits d.toNat 2 5 := by
  rw [State.fld, show F.HST_RING_CTL_SIZE.reg = RegId.HST_RING_CTL from rfl, ringArmed_ctl]
  exact ringParams_size d

theorem ringArmed_off : (s.ringArmed n d).flag F.HST_RING_CTL_EN n = false := by
  rw [← ringCtl_en, ringArmed_ctl, State.ringParams]
  simp

/-- A write with EN 1 to a ring that is off (R393): its check. -/
theorem ringCtlWrite_enables (busy : Bool) (hen : s.flag F.HST_RING_CTL_EN n = false) : s.ringCtlWrite n (d ||| 1) busy =
    if s.fld F.HST_RING_BASE_ADDR n % 4096 ≠ 0 ∨ s.fld F.HST_RING_WB_ADDR n % 8 ≠ 0 ∨ bits d.toNat 2 5 < 6 ∨ 16 < bits d.toNat 2 5
    then (s.ringArmed n (d ||| 1)).setFld F.HST_RING_CTL_ERR 1 n else (s.ringArmed n (d ||| 1)).setFld F.HST_RING_CTL_EN 1 n := by
  have hone : (d ||| 1).getLsbD 0 = true := by simp
  have hbase := ringArmed_fld (s := s) (n := n) (d ||| 1) (f := F.HST_RING_BASE_ADDR) (by decide) (by decide)
  have hwb := ringArmed_fld (s := s) (n := n) (d ||| 1) (f := F.HST_RING_WB_ADDR) (by decide) (by decide)
  rw [← hbase, ← hwb, ← ringArmed_size (s := s) (n := n) d]
  simp only [State.ringCtlWrite, ringCtl_en, hen, hone, Bool.false_eq_true, if_false]
  rfl

theorem ringEnable_starts (hn : n < 16) (hen : s.flag F.HST_RING_CTL_EN n = false) (hbase : s.fld F.HST_RING_BASE_ADDR n % 4096 = 0)
    (hwb : s.fld F.HST_RING_WB_ADDR n % 8 = 0) (hlo : 6 ≤ bits d.toNat 2 5) (hhi : bits d.toNat 2 5 ≤ 16) (hr : s.released = true) :
    Completes (.ringEnable n d) s fun t =>
      t.flag F.HST_RING_CTL_EN n = true ∧ t.fld F.HST_RING_CTL_SIZE n = bits d.toNat 2 5 ∧ t.fld F.HST_RING_PTR_HEAD n = 0 ∧
        t.fld F.HST_RING_PTR_TAIL n = 0 ∧ t.ring n = {} := by
  have hptr {f : Fld} (hf : f.reg = .HST_RING_PTR) : (s.ringArmed n (d ||| 1)).fld f n = 0 := by
    rw [State.fld, hf, ringArmed_ptr]
    simp [bits]
  refine ⟨_, rfl, ?_⟩
  rw [powered_of_released hr, Nat.mod_eq_of_lt hn, ringCtlWrite_enables d false hen, if_neg (by omega)]
  refine ⟨flag_setFld_one _ _ _ _ (by decide) rfl, ?_, ?_, ?_, ringArmed_ring _⟩
  · rw [fld_setFld_disjoint _ _ _ _ _ _ (by decide) (by decide), ringArmed_size]
  · rw [fld_setFld_id _ _ _ _ _ _ (by decide), hptr rfl]
  · rw [fld_setFld_id _ _ _ _ _ _ (by decide), hptr rfl]

theorem ringEnable_refused (hn : n < 16) (hen : s.flag F.HST_RING_CTL_EN n = false) (hbase : s.fld F.HST_RING_BASE_ADDR n % 4096 ≠ 0)
    (hr : s.released = true) : Completes (.ringEnable n d) s fun t =>
      t.flag F.HST_RING_CTL_EN n = false ∧ t.flag F.HST_RING_CTL_ERR n = true := by
  refine ⟨_, rfl, ?_⟩
  rw [powered_of_released hr, Nat.mod_eq_of_lt hn, ringCtlWrite_enables d false hen, if_pos (.inl hbase)]
  refine ⟨?_, flag_setFld_one _ _ _ _ (by decide) rfl⟩
  rw [flag_setFld_disjoint _ _ _ _ _ _ (by decide) (by decide), ringArmed_off]

theorem ringDisable_stops (busy : Bool) (hn : n < 16) (hen : s.flag F.HST_RING_CTL_EN n = true) (hr : s.released = true) :
    Completes (.ringDisable n busy d) s fun t => t.flag F.HST_RING_CTL_EN n = false ∧ t.ring n = { stopping := busy } := by
  have hzero : (d &&& ~~~1).getLsbD 0 = false := by simp
  have hwrite : ∃ u : State, s.ringCtlWrite n (d &&& ~~~1) busy = (u.ringStop n).setRing n { stopping := busy } := by
    simp only [State.ringCtlWrite, ringCtl_en, hen, hzero, if_true]
    exact ⟨_, rfl⟩
  obtain ⟨u, hu⟩ := hwrite
  refine ⟨_, rfl, ?_⟩
  rw [powered_of_released hr, Nat.mod_eq_of_lt hn, hu]
  exact ⟨ringStop_off u n, ring_setRing ..⟩

end

/-! ## Doorbells (R393, R398) -/

/-- A ring whose interrupt falls as the host writes its index. -/
def State.rung (s : State) (n : Nat) : State := (s.setRing n { s.ring n with raised := false }).settleVector (s.fld F.HST_RING_CTL_VEC n)

theorem rung_regs (s : State) (n : Nat) : (s.rung n).regs = s.regs := (settleVector_sameButMessages _ _).regs

section
variable {idx : Nat} (hen : s.flag F.HST_RING_CTL_EN n = true)
include hen

/-- A doorbell of a ring that runs is judged on the ring as it stands. -/
theorem doorbell_running : s.doorbell n idx =
    if s.flag F.HST_RING_CTL_DIR n then
      if idx < s.ringSize n ∧ (idx + s.ringSize n - s.fld F.HST_RING_PTR_HEAD n) % s.ringSize n ≤ s.ringUsed n then
        (s.rung n).setFld F.HST_RING_PTR_HEAD idx n else (s.rung n).beyondReach n idx
    else if idx < s.ringSize n ∧ s.ringUsed n ≤ (idx + s.ringSize n - s.fld F.HST_RING_PTR_HEAD n) % s.ringSize n then
      (s.rung n).setFld F.HST_RING_PTR_TAIL idx n else (s.rung n).beyondReach n idx := by
  have hregs := rung_regs s n
  have hused : (s.rung n).ringUsed n = s.ringUsed n := by simp only [State.ringUsed, State.ringSize, fld_congr hregs]
  have hsize : (s.rung n).ringSize n = s.ringSize n := by simp only [State.ringSize, fld_congr hregs]
  rw [State.doorbell]
  dsimp only
  rw [← State.rung, flag_congr hregs, hen, Bool.not_true, if_neg Bool.false_ne_true, flag_congr hregs, hused, hsize, fld_congr hregs]

end

theorem beyondReach_stops (s : State) (n idx : Nat) :
    (s.beyondReach n idx).flag F.HST_RING_CTL_EN n = false ∧ (s.beyondReach n idx).flag F.HST_RING_CTL_ERR n = true := ringError_stops s n

section
variable {idx : Nat} (hn : n < 16) (hidx : idx < 65536) (hen : s.flag F.HST_RING_CTL_EN n = true) (hr : s.released = true)
include hn hidx hen hr

theorem ringDoorbell_in (hsize : idx < s.ringSize n) (hdir : s.flag F.HST_RING_CTL_DIR n = false)
    (hq : s.ringUsed n ≤ (idx + s.ringSize n - s.fld F.HST_RING_PTR_HEAD n) % s.ringSize n) :
    Completes (.ringDoorbell n idx) s fun t => t.fld F.HST_RING_PTR_TAIL n = idx := by
  refine ⟨_, rfl, ?_⟩
  rw [powered_of_released hr, Nat.mod_eq_of_lt hn, Nat.mod_eq_of_lt hidx, doorbell_running hen, hdir, if_neg Bool.false_ne_true,
    if_pos ⟨hsize, hq⟩]
  exact (fld_setFld_self _ _ _ _ _ (by decide)).trans (Nat.mod_eq_of_lt hidx)

theorem ringDoorbell_out (hsize : idx < s.ringSize n) (hdir : s.flag F.HST_RING_CTL_DIR n = true)
    (hq : (idx + s.ringSize n - s.fld F.HST_RING_PTR_HEAD n) % s.ringSize n ≤ s.ringUsed n) :
    Completes (.ringDoorbell n idx) s fun t => t.fld F.HST_RING_PTR_HEAD n = idx := by
  refine ⟨_, rfl, ?_⟩
  rw [powered_of_released hr, Nat.mod_eq_of_lt hn, Nat.mod_eq_of_lt hidx, doorbell_running hen, hdir, if_pos rfl,
    if_pos ⟨hsize, hq⟩]
  exact (fld_setFld_self _ _ _ _ _ (by decide)).trans (Nat.mod_eq_of_lt hidx)

/-- An index beyond the ring's words, or beyond what the device has left free or filled, stops the ring. -/
theorem ringDoorbell_beyond (h : s.ringSize n ≤ idx ∨ (if s.flag F.HST_RING_CTL_DIR n then
      s.ringUsed n < (idx + s.ringSize n - s.fld F.HST_RING_PTR_HEAD n) % s.ringSize n
      else (idx + s.ringSize n - s.fld F.HST_RING_PTR_HEAD n) % s.ringSize n < s.ringUsed n)) :
    Completes (.ringDoorbell n idx) s fun t => t.flag F.HST_RING_CTL_EN n = false ∧ t.flag F.HST_RING_CTL_ERR n = true := by
  have hbeyond : s.doorbell n idx = (s.rung n).beyondReach n idx := by
    rw [doorbell_running hen]
    split at h
    case isTrue hdir => rw [if_pos hdir, if_neg (by omega)]
    case isFalse hdir => rw [if_neg hdir, if_neg (by omega)]
  refine ⟨_, rfl, ?_⟩
  rw [powered_of_released hr, Nat.mod_eq_of_lt hn, Nat.mod_eq_of_lt hidx, hbeyond]
  exact beyondReach_stops _ n idx

end

/-! ## Records (R394–R396) -/

theorem ringMove_plain (hbeyond : (s.ring n).beyond = none) (f : State → State) : s.ringMove n f = f s := by
  simp only [State.ringMove, State.unstop, hbeyond]

/-- A record's words land, and the ring's index moves (R394). -/
theorem ringDmaReadDone_moves (ws : List Word) : let q := s.ringRunnel n
    n < 16 → s.ringRuns n = true → s.flag F.HST_RING_CTL_DIR n = false → ws.length = s.recLen q → ws.length ≤ s.ringUsed n →
    (s.runnel q).ringWaits = [] → (s.ring n).beyond = none → Completes (.ringDmaReadDone dt n ws) s fun t => ∃ v : State, v.fld F.HST_RING_PTR_HEAD n =
      (s.fld F.HST_RING_PTR_HEAD n + ws.length) % s.ringSize n % 2 ^ F.HST_RING_PTR_HEAD.w ∧
        t = (v.ringPush q (ws.map fun w => mkWord w)).ringMoved n ((s.fld F.HST_RING_PTR_HEAD n + ws.length) % s.ringSize n) := by
  intro q hn hruns hdir hlen hused hwaits hbeyond
  have hgo : (s.after dt).ringRuns n = true ∧ (s.after dt).flag F.HST_RING_CTL_DIR n = false ∧
      ws.length = (s.after dt).recLen ((s.after dt).ringRunnel n) ∧ ws.length ≤ (s.after dt).ringUsed n ∧
      ((s.after dt).runnel ((s.after dt).ringRunnel n)).ringWaits = [] := by
    simp only [after_ringRuns, after_flag, State.recLen, State.ringRunnel, after_fld, after_ringUsed, after_runnel]
    exact ⟨hruns, hdir, hlen, hused, hwaits⟩
  let u := (s.after dt).setFld F.HST_RING_PTR_HEAD ((s.fld F.HST_RING_PTR_HEAD n + ws.length) % s.ringSize n) n
  have hrun : exec (.ringDmaReadDone dt n ws) s = .next (((u.on (u.runnelOn q) fun s => s.bump F.HST_CNT_RING_IN_COUNT ws.length).ringPush q
      (ws.map fun w => mkWord w)).ringMoved n ((s.fld F.HST_RING_PTR_HEAD n + ws.length) % s.ringSize n)) := by
    rw [show exec (.ringDmaReadDone dt n ws) s = execRingDmaReadDone dt n ws s from rfl, execRingDmaReadDone, Nat.mod_eq_of_lt hn,
      ringMove_plain (by rw [after_ring, hbeyond]), State.ringIn]
    dsimp only
    rw [if_pos hgo]
    simp only [after_fld, State.ringSize, State.ringRunnel, u, q]
  refine ⟨_, hrun, _, ?_, rfl⟩
  refine (on_keeps (P := fun t : State => t.fld F.HST_RING_PTR_HEAD n = u.fld F.HST_RING_PTR_HEAD n) _ rfl
    (fld_bump_id _ _ _ _ _ _ (by decide))).trans ?_
  exact fld_setFld_self _ _ _ _ _ (by decide)

/-- What a moved record touches: the host link alone. -/
theorem ringSignal_frame (s : State) (n : Nat) : (s.ringSignal n).run = s.run ∧ (s.ringSignal n).regs = s.regs := by
  obtain ⟨_, _, _, h⟩ := sendVector_sameButMessages (s.setRing n { s.ring n with count := 0, since := none, raised := true })
    (s.fld F.HST_RING_CTL_VEC n) false
  rw [State.ringSignal, h]
  exact ⟨rfl, rfl⟩

theorem ringMoved_frame (s : State) (n index : Nat) : (s.ringMoved n index).run = s.run ∧ (s.ringMoved n index).regs = s.regs := by
  unfold State.ringMoved
  dsimp only
  split
  · exact ⟨rfl, rfl⟩
  · split
    · exact ringSignal_frame _ n
    · exact ⟨rfl, rfl⟩

/-- Pops touch the runnel's events and the counts of bad words. -/
theorem popWords_reg (s : State) (q k : Nat) {id : RegId} (i j : Nat) (h : id ∉ [RegId.RUN_EVT_N, .RUN_CNT_BAD_WORD, .OBS_RUN_CNT]) :
    (s.popWords q k).2.reg id i j = s.reg id i j := by
  simp only [List.mem_cons, List.not_mem_nil, or_false, not_or] at h
  obtain ⟨hevt, hbad, hcnt⟩ := h
  exact (noteBad_reg _ q _ i j hbad hevt).trans ((reg_bump_id _ _ _ _ _ _ hcnt).trans (unqueue_reg s q k i j hevt))

theorem popWords_fld (s : State) (q k : Nat) {f : Fld} (i j : Nat) (h : f.reg ∉ [RegId.RUN_EVT_N, .RUN_CNT_BAD_WORD, .OBS_RUN_CNT]) :
    (s.popWords q k).2.fld f i j = s.fld f i j := fld_of_reg (popWords_reg s q k i j h)

/-- A record's words go to the host's memory. -/
def State.ringPut (s : State) (n base tail : Nat) (ws : List RunWord) : State :=
  ws.zipIdx.foldl (fun s e => s.hostWrite (base + 8 * ((tail + e.2) % s.ringSize n)) (leBytes 8 e.1.val.toNat)) s

theorem ringPut_frame (s : State) (n base tail : Nat) (ws : List RunWord) :
    (s.ringPut n base tail ws).run = s.run ∧ (s.ringPut n base tail ws).regs = s.regs := by
  unfold State.ringPut
  refine ⟨foldl_keeps (c := State.run) ?_ _ _, foldl_keeps (c := State.regs) ?_ _ _⟩
  all_goals exact fun _ _ => rfl

/-- A record has gone from the runnel to the host. -/
def State.ringTaken (s : State) (n : Nat) : State :=
  let k := s.recLen (s.ringRunnel n)
  let u := (s.popWords (s.ringRunnel n) k).2
  (u.ringPut n (u.fld F.HST_RING_BASE_ADDR n) (u.fld F.HST_RING_PTR_TAIL n) (s.popWords (s.ringRunnel n) k).1).bump F.HST_CNT_RING_OUT_COUNT k

theorem ringTaken_run (s : State) (n : Nat) :
    (s.ringTaken n).run = (s.popWords (s.ringRunnel n) (s.recLen (s.ringRunnel n))).2.run := (ringPut_frame ..).1

theorem ringTaken_fld (s : State) (n : Nat) {f : Fld} (h : f.reg ∉ [RegId.RUN_EVT_N, .RUN_CNT_BAD_WORD, .OBS_RUN_CNT, .HST_CNT_RING_OUT]) :
    (s.ringTaken n).fld f n = s.fld f n := by
  have hcnt : f.reg ≠ .HST_CNT_RING_OUT := fun e => h (by simp [e])
  have hpop : f.reg ∉ [RegId.RUN_EVT_N, .RUN_CNT_BAD_WORD, .OBS_RUN_CNT] := fun e => h (by simp only [List.mem_cons, List.not_mem_nil] at e ⊢; tauto)
  exact (fld_bump_id _ _ _ _ _ _ hcnt).trans ((fld_congr (ringPut_frame ..).2 _ _ _).trans (popWords_fld _ _ _ _ _ hpop))

theorem ringOut_moves (hgo : s.ringRuns n = true ∧ s.flag F.HST_RING_CTL_DIR n = true ∧ s.runnelOn (s.ringRunnel n) = true ∧
      s.recLen (s.ringRunnel n) ≤ s.poppable (s.ringRunnel n) ∧ s.recLen (s.ringRunnel n) + s.ringUsed n + 1 ≤ s.ringSize n) :
    ∃ tail, tail = (s.fld F.HST_RING_PTR_TAIL n + s.recLen (s.ringRunnel n)) % s.ringSize n ∧
      s.ringOut n = ((s.ringTaken n).setFld F.HST_RING_PTR_TAIL tail n).ringMoved n tail := by
  have hsize := ringTaken_fld s n (f := F.HST_RING_CTL_SIZE) (by decide)
  refine ⟨((s.popWords (s.ringRunnel n) (s.recLen (s.ringRunnel n))).2.fld F.HST_RING_PTR_TAIL n + s.recLen (s.ringRunnel n)) %
    (s.ringTaken n).ringSize n, ?_, if_pos hgo⟩
  rw [popWords_fld _ _ _ _ _ (by decide), State.ringSize, hsize, State.ringSize]

theorem ringRecordPop_moves : let q := s.ringRunnel n
    n < 16 → s.ringRuns n = true → s.flag F.HST_RING_CTL_DIR n = true → s.runnelOn q = true → s.recLen q ≤ s.poppable q →
    s.recLen q + s.ringUsed n + 1 ≤ s.ringSize n → (s.ring n).beyond = none → Completes (.ringRecordPop dt n) s fun t =>
      (t.runnel q).words = (s.runnel q).words.drop (s.recLen q) ∧
        t.fld F.HST_RING_PTR_TAIL n = (s.fld F.HST_RING_PTR_TAIL n + s.recLen q) % s.ringSize n % 2 ^ F.HST_RING_PTR_TAIL.w := by
  intro q hn hruns hdir hon hmany hroom hbeyond
  let u := s.after dt
  have hq : u.ringRunnel n = q := after_fld ..
  have hlen : u.recLen q = s.recLen q := by simp only [u, State.recLen, after_fld]
  have hsize : u.ringSize n = s.ringSize n := by simp only [u, State.ringSize, after_fld]
  have hgo : u.ringRuns n = true ∧ u.flag F.HST_RING_CTL_DIR n = true ∧ u.runnelOn (u.ringRunnel n) = true ∧
      u.recLen (u.ringRunnel n) ≤ u.poppable (u.ringRunnel n) ∧ u.recLen (u.ringRunnel n) + u.ringUsed n + 1 ≤ u.ringSize n := by
    rw [hq, hlen, hsize, after_ringRuns, after_flag, after_runnelOn, after_poppable, after_ringUsed]
    exact ⟨hruns, hdir, hon, hmany, hroom⟩
  obtain ⟨tail, htail, hout⟩ := ringOut_moves hgo
  have hrun : exec (.ringRecordPop dt n) s = .next (u.ringOut n) := by
    rw [show exec (.ringRecordPop dt n) s = execRingRecordPop dt n s from rfl, execRingRecordPop, Nat.mod_eq_of_lt hn,
      ringMove_plain (by rw [after_ring, hbeyond])]
  obtain ⟨hmrun, hmregs⟩ := ringMoved_frame ((u.ringTaken n).setFld F.HST_RING_PTR_TAIL tail n) n tail
  refine ⟨_, hrun, ?_⟩
  rw [hout]
  refine ⟨?_, ?_⟩
  · rw [runnel_of_run hmrun, runnel_of_run (setFld_run ..), runnel_of_run (ringTaken_run u n), hq, popWords_words, hlen, after_runnel]
  · rw [fld_congr hmregs, fld_setFld_self _ _ _ _ _ (by decide), htail, hq, hlen, hsize, after_fld]

theorem ringCoalTimer_signals {a : Nat} (hn : n < 16) (hsince : (s.ring n).since = some a) : Completes (.ringCoalTimer n) s fun t =>
    (t.ring n).count = 0 ∧ (t.ring n).since = none ∧ (t.ring n).raised = true ∧
      t.clp.now = max s.clp.now (a + max 1 (s.fld F.HST_RING_COAL_COAL_US n) * 1000) + 1 := by
  have hrun : exec (.ringCoalTimer n) s =
      .next ((s.advanceTo (a + max 1 (s.fld F.HST_RING_COAL_COAL_US n) * 1000)).endCycle.ringSignal n) := by
    rw [show exec (.ringCoalTimer n) s = execRingCoalTimer n s from rfl, execRingCoalTimer, Nat.mod_eq_of_lt hn, hsince]
  have hring (u : State) : (u.ringSignal n).ring n = { u.ring n with count := 0, since := none, raised := true } :=
    (ring_sendVector ..).trans (ring_setRing ..)
  have hclp (u : State) : (u.ringSignal n).clp = u.clp := by
    obtain ⟨_, _, _, h⟩ := sendVector_sameButMessages (u.setRing n { u.ring n with count := 0, since := none, raised := true })
      (u.fld F.HST_RING_CTL_VEC n) false
    rw [State.ringSignal, h]
    rfl
  refine ⟨_, hrun, ?_⟩
  simp only [hring, hclp, true_and]
  exact (advance_now ..).trans (congrArg (· + 1) (advanceTo_now s _))

/-! ## DMA errors (R388, R397) -/

theorem flipApply_cfg (s : State) (m w : Nat) : (s.flipApply m w).hst.cfg = s.hst.cfg := by
  unfold State.flipApply
  split
  · rw [bump_hst, raise_hst_part (q := HostState.cfg) _ _ _ fun _ _ _ _ => rfl]
    exact on_component (c := fun t : State => t.hst.cfg) _ _ rfl
  · rfl

theorem memWrites_cfg (m : Nat) (vs : List Nat) (s : State) (w : Nat) : (s.memWrites m w vs).hst.cfg = s.hst.cfg := by
  induction vs generalizing s w with
  | nil => rfl
  | cons v vs ih => exact (ih _ _).trans ((flipApply_cfg _ m w).trans (congrArg HostState.cfg (setMemBytes_hst s m _ _)))

theorem flushAsk_cfg (s : State) : s.flushAsk.hst.cfg = s.hst.cfg := by
  unfold State.flushAsk
  split <;> rfl

/-- A post of the recorder leaves configuration space alone. -/
theorem siltPost_cfg (s : State) (code value rank : Nat) : (s.siltPost code value rank).hst.cfg = s.hst.cfg := by
  have hon {t u : State} {b : Bool} {f : State → State} (hf : ∀ v : State, (f v).hst.cfg = v.hst.cfg) (h : u.hst.cfg = t.hst.cfg) :
      (u.on b f).hst.cfg = t.hst.cfg := (on_component (c := fun v : State => v.hst.cfg) u b (hf u)).trans h
  have hwrite (u : State) (base seq : Nat) (rs : List (Nat × Nat × Nat)) : (u.siltWrite base seq rs).hst.cfg = u.hst.cfg :=
    foldl_keeps (c := fun v : State => v.hst.cfg) (fun u _ => memWrites_cfg 7 _ u _) _ u
  have hevent (u : State) (f : Fld) (k : Nat) :
      (({ u with obs := { u.obs with lost := k } }.bump F.OBS_CNT_SILT_LOST_COUNT).raise f).hst.cfg = u.hst.cfg :=
    raise_hst_part (q := HostState.cfg) _ _ _ fun _ _ _ _ => rfl
  simp only [State.siltPost]
  split
  · exact hon flushAsk_cfg <| hon (fun _ => rfl) <| hon (fun _ => hevent _ _ _) <| hon (fun _ => rfl) <| hwrite _ _ _ _
  · exact hon (fun _ => rfl) <| hon (fun _ => hevent _ _ _) <| hon (fun _ => rfl) <| hwrite _ _ _ _

/-- A ring whose DMA read has failed, before the record of it. -/
def State.dmaFailed (s : State) (e : DmaFailure) (n : Nat) : State :=
  (((s.setAer (s.hst.cfg.aer.dmaError e.cause)).ringError n).raise F.HST_EVT_DMA_ERR).bump F.HST_CNT_DMA_ERR_COUNT

theorem dmaFailed_cfg (s : State) (e : DmaFailure) (n : Nat) : (s.dmaFailed e n).hst.cfg.aer = s.hst.cfg.aer.dmaError e.cause := by
  rw [State.dmaFailed, bump_hst, raise_hst_part (q := HostState.cfg) _ _ _ fun _ _ _ _ => rfl, State.ringError, setFld_hst]
  exact congrArg PcieCfg.aer ((settleVector_sameButMessages _ _).hst_part (q := HostState.cfg) fun _ _ _ _ => rfl)

theorem ringDmaError_stops (e : DmaFailure) (hn : n < 16) (hruns : s.ringRuns n = true) (hdir : s.flag F.HST_RING_CTL_DIR n = false) :
    Completes (.ringDmaError e n) s fun t => t.hst.cfg.aer = s.hst.cfg.aer.dmaError e.cause ∧ ∃ v : State,
      v.flag F.HST_RING_CTL_EN n = false ∧ v.flag F.HST_RING_CTL_ERR n = true ∧ v.flag F.HST_EVT_DMA_ERR = true ∧ t = v.siltPost 209 n := by
  have hrun : exec (.ringDmaError e n) s = .next (((s.after e.dt).dmaFailed e n).siltPost 209 n) := by
    rw [show exec (.ringDmaError e n) s = execRingDmaError e n s from rfl, execRingDmaError, Nat.mod_eq_of_lt hn]
    exact if_pos ⟨(after_ringRuns ..).trans hruns, (after_flag ..).trans hdir⟩
  obtain ⟨hoff, herr⟩ := ringError_stops ((s.after e.dt).setAer ((s.after e.dt).hst.cfg.aer.dmaError e.cause)) n
  refine ⟨_, hrun, ?_, (s.after e.dt).dmaFailed e n, ?_, ?_, ?_, rfl⟩
  · rw [siltPost_cfg, dmaFailed_cfg, after_hst]
  · rw [State.dmaFailed, flag_bump_id _ _ _ _ _ _ (by decide), flag_raise_id _ _ _ _ (by decide), hoff]
  · rw [State.dmaFailed, flag_bump_id _ _ _ _ _ _ (by decide), flag_raise_id _ _ _ _ (by decide), herr]
  · rw [State.dmaFailed, flag_bump_id _ _ _ _ _ _ (by decide), flag_raise_self _ _ _ (by decide) rfl]

theorem uncorrectable_uncor (a : AerState) (b : Nat) (h : List Nat) : (a.uncorrectable b h).uncor = a.uncor ||| 2 ^ b := by
  unfold AerState.uncorrectable
  dsimp only
  split <;> rfl

theorem dmaError_bits (a : AerState) : (a.dmaError .timeout).uncor = a.uncor ||| 2 ^ 14 ∧ (∀ h, (a.dmaError (.poisoned h)).uncor = a.uncor ||| 2 ^ 12) ∧
    (a.dmaError .unsupported).status = a.status ||| 2 ^ 13 ∧ (a.dmaError .abort).status = a.status ||| 2 ^ 12 :=
  ⟨uncorrectable_uncor a 14 _, fun _ => uncorrectable_uncor _ 12 _, rfl, rfl⟩

/-! ## Host ingress (R399) -/

theorem hostIngressRecord_taken : let n := s.fld F.HST_IN_RUNNEL_RUNNEL
    s.runnelOn n = true → 2 ≤ s.poppable n → Completes (.hostIngressRecord dt) s fun t =>
      t = ((s.after dt).popWords n 2).2.takeIngress ((s.after dt).popWords n 2).1 := by
  intro n hon hmany
  refine ⟨_, ?_, rfl⟩
  have hgo : ((s.after dt).runnelOn n && decide (2 ≤ (s.after dt).poppable n)) = true := by
    rw [after_runnelOn, after_poppable, hon, decide_eq_true hmany]
    rfl
  rw [show exec (.hostIngressRecord dt) s = execHostIngressRecord dt s from rfl, execHostIngressRecord]
  simp only [after_fld]
  exact if_pos hgo

/-- Settles O41: a lemma per command and event of the host link. -/
theorem hostCommands : Obligations.HostCommands :=
  ⟨fun _ _ o n bs hup hd3 => bar2Access_reached o n bs hup hd3, fun _ o n hend hecc => bar2Read_of_good o n hend hecc,
    fun _ _ o n write bs h => bar2Access_unreached o n write bs h, fun _ _ popped hup => pcieLinkDown_falls popped hup,
    fun _ _ _ popped hr h => hotReset_commands popped hr h, fun _ _ _ popped h => pciePerst_short popped h,
    fun _ _ _ popped hr h => pciePerst_held popped hr h, fun _ _ popped hr => busMaster_sets hr popped,
    fun _ _ popped hbme hr => busMaster_clears hr popped hbme,
    fun _ _ _ _ d3 popped hmps hmrrs hr => busMaster_settings hr d3 popped hmps hmrrs,
    fun _ _ _ _ w popped h0 h2 hr => busMaster_bars w popped h0 h2 hr, fun s => configRead_ids s,
    fun _ _ _ _ hup hw h1 h4 hr => pcieLinkUp_trains hup hw h1 h4 hr,
    fun _ _ d hn hen hbase hwb hlo hhi hr => ringEnable_starts d hn hen hbase hwb hlo hhi hr,
    fun _ _ d hn hen hbase hr => ringEnable_refused d hn hen hbase hr, fun _ _ busy d hn hen hr => ringDisable_stops d busy hn hen hr,
    fun _ _ _ hn hsize hidx hen => ⟨fun hdir hq hr => ringDoorbell_in hn hidx hen hr hsize hdir hq,
      fun hdir hq hr => ringDoorbell_out hn hidx hen hr hsize hdir hq, fun h hr => ringDoorbell_beyond hn hidx hen hr (.inr h)⟩,
    fun _ _ _ hn hsize hidx hen hr => ringDoorbell_beyond hn hidx hen hr (.inl hsize), fun _ _ _ ws => ringDmaReadDone_moves ws,
    fun _ _ _ => ringRecordPop_moves, fun _ _ _ hn hsince => ringCoalTimer_signals hn hsince,
    fun _ e _ hn hruns hdir => ringDmaError_stops e hn hruns hdir, dmaError_bits, fun _ _ => hostIngressRecord_taken⟩

end Sys2Proof.Machine
end

section
/-! PROOFS. `Obligations.FirstOwnerKey`: the first owner key of a cold boot (R481, R484, R485). -/

namespace Sys2Proof.Machine

/-! ## What a post leaves of memory: the event buffer, MEM 7, alone takes it -/

section
variable {m a : Nat} (hm : m ≠ 7) (ha : a < 2 ^ 24)
include hm ha

theorem memByte_memWrites_buffer (vs : List Nat) (s : State) {w : Nat} (hw : w + vs.length ≤ 2 ^ 21) :
    (s.memWrites 7 w vs).memByte m a = s.memByte m a := by
  induction vs generalizing s w with
  | nil => rfl
  | cons v vs ih =>
    rw [List.length_cons] at hw
    calc ((s.memWrite 7 w v).memWrites 7 (w + 1) vs).memByte m a
      _ = (s.memWrite 7 w v).memByte m a := ih _ (by omega)
      _ = s.memByte m a := memByte_memWrite_out s (by omega) ha (.inl hm)

theorem memByte_siltWrite (s : State) (base seq : Nat) (rs : List (Nat × Nat × Nat)) :
    (s.siltWrite base seq rs).memByte m a = s.memByte m a :=
  foldl_keeps (c := fun t : State => t.memByte m a)
    (fun t e => memByte_memWrites_buffer hm ha _ t (by rw [List.length_map, List.length_range]; omega)) _ s

/-- A post writes no memory but the event buffer. -/
theorem memByte_siltPost (s : State) (code value rank : Nat) : (s.siltPost code value rank).memByte m a = s.memByte m a := by
  have keeps {f : State → State} (hf : ∀ t : State, (f t).mem = t.mem) (b : Bool) (t : State) : (t.on b f).memByte m a = t.memByte m a :=
    on_component (c := fun t : State => t.memByte m a) t b (memByte_of_mem (hf t) m a)
  have posted (obs : ObsState) (base seq : Nat) (rs : List (Nat × Nat × Nat)) :
      ({ s with obs := obs }.siltWrite base seq rs).memByte m a = s.memByte m a := memByte_siltWrite hm ha _ base seq rs
  simp only [State.siltPost]
  split
  · rw [keeps flushAsk_mem, keeps (by simp), keeps (by simp), keeps (by simp), posted]
  · rw [keeps (by simp), keeps (by simp), keeps (by simp), posted]

theorem memByte_bootFail (s : State) (r code : Nat) : (s.bootFail r code).memByte m a = s.memByte m a := by
  rw [State.bootFail, memByte_siltPost hm ha, memByte_of_mem (setFld_mem ..)]

end

/-! ## The owner records -/

theorem bootFail_bot (s : State) (r code : Nat) : (s.bootFail r code).bot = s.bot := (siltPost_near _ _ _ _).bot

section
variable {s : State} {r : Nat} (hnone : s.bot.owners = [])
include hnone

/-- While no slot is programmed any KEY_SLOT is accepted. -/
theorem checkKey_of_no_owner : s.checkKey r = true := by simp [State.checkKey, hnone]

/-- The first key goes into the slot that the image names. -/
theorem firstKey_of_no_owner :
    s.firstKey r = { s with bot := { s.bot with owners := [(s.payloadNat r 5 1, s.keyHash r)] } } := by
  simp [State.firstKey, State.blowKey, hnone, SMap.put]

/-- The checks get past the signature exactly where shape, blocks and signature are good. -/
theorem checkCold_past_signature : (s.checkCold r = 0 ∨ 5 ≤ s.checkCold r) ↔
    s.checkShape r = true ∧ (List.range (s.payloadNat r 8 4 / 65536)).all (s.blockOk r) = true ∧ s.checkSig r = true := by
  simp only [State.checkCold, checkKey_of_no_owner hnone]
  cases s.checkShape r
  · simp
  cases (List.range (s.payloadNat r 8 4 / 65536)).all (s.blockOk r)
  · simp
  cases s.checkSig r
  · simp
  simp only [Bool.not_true, Bool.false_eq_true, if_false, and_self, iff_true]
  repeat' split
  all_goals omega

end

/-- A cold check ends with the record of its failure, if any, on the state with the first key. -/
theorem tryCold_state (s : State) (r : Nat) : (s.tryCold r).2 =
    if s.checkCold r = 0 then s.firstKey r
    else (if 5 ≤ s.checkCold r then s.firstKey r else s).bootFail r (s.checkCold r) := by
  by_cases h : s.checkCold r = 0 <;> simp [State.tryCold, h]

theorem tryCold_bot (s : State) (r : Nat) :
    (s.tryCold r).2.bot = (if s.checkCold r = 0 ∨ 5 ≤ s.checkCold r then s.firstKey r else s).bot := by
  rw [tryCold_state]
  by_cases h : s.checkCold r = 0
  · simp [h]
  · simp [h, bootFail_bot]

theorem blowKey_mem (s : State) (slot hash : Nat) : (s.blowKey slot hash).mem = s.mem := by
  rw [State.blowKey]
  split <;> rfl

theorem firstKey_mem (s : State) (r : Nat) : (s.firstKey r).mem = s.mem := by
  rw [State.firstKey]
  split
  · exact blowKey_mem ..
  · rfl

theorem memByte_tryCold {m a : Nat} (hm : m ≠ 7) (ha : a < 2 ^ 24) (s : State) (r : Nat) : (s.tryCold r).2.memByte m a = s.memByte m a := by
  rw [tryCold_state]
  split
  · exact memByte_of_mem (firstKey_mem s r) m a
  · rw [memByte_bootFail hm ha]
    split
    · exact memByte_of_mem (firstKey_mem s r) m a
    · rfl

/-- Settles O58: with no owner the key comparison passes, so the checks get past it exactly where shape, blocks and signature are good, and
there the first key is blown; the record of a failure goes to the event buffer. -/
theorem firstOwnerKey : Obligations.FirstOwnerKey := by
  intro s r hnone
  refine ⟨checkKey_of_no_owner hnone, ?_, fun m a hm ha => memByte_tryCold hm ha s r⟩
  rw [tryCold_bot]
  simp only [checkCold_past_signature hnone]
  split
  · rw [firstKey_of_no_owner hnone]
    rfl
  · exact hnone

end Sys2Proof.Machine
end

section
/-! PROOFS. What a drop of a region and a start of a thread leave alone: the boot's own state, the flash device, and OCL_J_BOOT (R301, R314, R485, R491). -/

namespace Sys2Proof.Machine

/-- `t` is `s` as the boot sees it: the same boot state, the same flash device and the same OCL_J_BOOT. -/
structure State.BootAlike (s t : State) : Prop where
  bot : t.bot = s.bot
  fls : t.fls = s.fls
  reg : t.reg .OCL_J_BOOT 0 0 = s.reg .OCL_J_BOOT 0 0

namespace State.BootAlike

variable {s t u : State}

theorem refl (s : State) : s.BootAlike s := ⟨rfl, rfl, rfl⟩

theorem trans (h : s.BootAlike t) (h' : t.BootAlike u) : s.BootAlike u := ⟨h'.bot.trans h.bot, h'.fls.trans h.fls, h'.reg.trans h.reg⟩

theorem rest (h : s.BootAlike t) (hb : u.bot = t.bot) (hf : u.fls = t.fls) (hr : u.regs = t.regs) : s.BootAlike u :=
  h.trans ⟨hb, hf, reg_congr hr _ _ _⟩

theorem setFld {f : Fld} {v i j : Nat} (hf : .OCL_J_BOOT ≠ f.reg) (h : s.BootAlike t) : s.BootAlike (t.setFld f v i j) :=
  h.trans ⟨rfl, rfl, reg_setReg_id _ _ _ _ _ _ hf⟩

theorem raise {f : Fld} {i : Nat} (hf : .OCL_J_BOOT ≠ f.reg) (h : s.BootAlike t) : s.BootAlike (t.raise f i) :=
  h.trans ⟨raise_bot t f i, raise_fls t f i, reg_raise_id _ _ _ _ hf⟩

theorem bump {f : Fld} {n i j : Nat} (hf : .OCL_J_BOOT ≠ f.reg) (h : s.BootAlike t) : s.BootAlike (t.bump f n i j) :=
  h.trans ⟨rfl, rfl, reg_bump_id _ _ _ _ _ _ hf⟩

theorem on {c : Bool} {f : State → State} (hf : ∀ t : State, t.BootAlike (f t)) (h : s.BootAlike t) : s.BootAlike (t.on c f) :=
  on_keeps c h (h.trans (hf t))

theorem foldl {α : Type} {f : State → α → State} {l : List α} (hf : ∀ (s : State) (a : α), s.BootAlike (f s a)) (h : s.BootAlike t) :
    s.BootAlike (l.foldl f t) :=
  List.foldlRecOn l f h fun _ h a _ => h.trans (hf _ a)

theorem fld (h : s.BootAlike t) {f : Fld} (hf : f.reg = .OCL_J_BOOT) : t.fld f = s.fld f := fld_of_reg (by rw [hf, h.reg])

theorem flag (h : s.BootAlike t) {f : Fld} (hf : f.reg = .OCL_J_BOOT) : t.flag f = s.flag f := flag_of_reg (by rw [hf, h.reg])

end State.BootAlike

/-! ## Posts, cells and pushes (R332–R346, R507) -/

variable (s : State)

theorem siltPost_bootAlike (code value rank : Nat) : s.BootAlike (s.siltPost code value rank) :=
  have h := siltPost_near s code value rank
  ⟨h.bot, h.fls, h.reg _ (by decide) _ _⟩

theorem doubleFree_bootAlike (c : Nat) : s.BootAlike (s.doubleFree c) :=
  .trans (.raise (by decide) <| .bump (by decide) <| .refl s) (siltPost_bootAlike _ _ _ _)

theorem freeWalk_bootAlike (n c : Nat) : s.BootAlike (s.freeWalk n c) := by
  induction n generalizing s c with
  | zero => exact .refl s
  | succ n ih =>
    have hfreed (v next : Nat) : s.BootAlike (s.fresh.2.setLink c ⟨v, false, true⟩) := .rest (.refl s) rfl rfl rfl
    simp only [State.freeWalk]
    split
    · exact doubleFree_bootAlike s c
    · split
      · exact hfreed _ 0
      · exact (hfreed _ 0).trans (ih _ _)

theorem freeChain_bootAlike (c : Nat) : s.BootAlike (s.freeChain c) := freeWalk_bootAlike s _ c

theorem retract_bot (f : Fld) (i : Nat) : (s.retract f i).bot = s.bot := by
  simp only [State.retract]
  split <;> rfl

theorem retract_fls (f : Fld) (i : Nat) : (s.retract f i).fls = s.fls := by
  simp only [State.retract]
  split <;> rfl

theorem judgeMarks_bootAlike (n : Nat) : s.BootAlike (s.judgeMarks n) := by
  have hbot (u : State) := crossing_keeps u (p := State.bot) setFld_bot noteEvent_bot raise_bot retract_bot
  have hfls (u : State) := crossing_keeps u (p := State.fls) setFld_fls noteEvent_fls raise_fls retract_fls
  exact ⟨by rw [State.judgeMarks, hbot, hbot], by rw [State.judgeMarks, hfls, hfls], judgeMarks_reg s n 0 0 (by decide)⟩

theorem setRunTurn_bootAlike (n : Nat) (u : RunTurn) : s.BootAlike (s.setRunTurn n u) := .rest (.refl s) rfl rfl rfl

theorem setRunnel_bootAlike (n : Nat) (r : Runnel) : s.BootAlike (s.setRunnel n r) := .rest (.refl s) rfl rfl rfl

theorem land_bootAlike (n : Nat) (ws : List RunWord) (who : Nat) : s.BootAlike (s.land n ws who) := by
  refine State.BootAlike.trans ?_ (judgeMarks_bootAlike _ n)
  exact .bump (by decide) <| (setRunTurn_bootAlike s n _).trans (setRunnel_bootAlike _ n _)

theorem lostPush_bootAlike (n : Nat) : s.BootAlike (s.lostPush n) :=
  .trans (.raise (by decide) <| .bump (by decide) <| .refl s) (siltPost_bootAlike _ _ _ _)

theorem enginePush_bootAlike (n : Nat) (ws : List RunWord) (req : Nat) : s.BootAlike (s.enginePush n ws req) := by
  unfold State.enginePush
  split
  · exact lostPush_bootAlike s n
  · dsimp only
    split
    · exact land_bootAlike s n ws 255
    · exact setRunnel_bootAlike s n _

/-! ## Completions (R17, R122, R141, R148, R166, R171, R466) -/

theorem pushTxDone_bootAlike (d : TxDesc) (status launch asn rssi : Nat) : s.BootAlike (s.pushTxDone d status launch asn rssi) := by
  unfold State.pushTxDone
  split
  · exact .refl s
  · exact enginePush_bootAlike s _ _ _

theorem sharedDone_bootAlike (g : Nat) (ok : Bool) : s.BootAlike (s.sharedDone g ok).2 := by
  have hheld (sh : SMap SharedChain) : s.BootAlike { s with txf := { s.txf with shared := sh } } := .rest (.refl s) rfl rfl rfl
  simp only [State.sharedDone]
  split
  · exact (hheld _).trans (freeChain_bootAlike _ _)
  · exact hheld _

theorem bcnCopyDone_bootAlike (g : Nat) (st : Status) : s.BootAlike (s.bcnCopyDone g st) := by
  refine State.BootAlike.trans ?_ (sharedDone_bootAlike _ g _)
  split
  · exact .bump (by decide) (.refl s)
  · exact .raise (by decide) <| .bump (by decide) <| .refl s

theorem spwCopyDone_bootAlike (k g : Nat) (st : Status) : s.BootAlike (s.spwCopyDone k g st) := by
  refine .on (fun t => .bump (by decide) (.refl t)) ?_
  refine State.BootAlike.trans ?_ (sharedDone_bootAlike _ g _)
  exact .on (fun t => .raise (by decide) <| .rest (.refl t) rfl rfl rfl) <| .on (fun t => .bump (by decide) (.refl t)) <| .refl s

theorem takeoverDone_bootAlike (st : Status) : s.BootAlike (s.takeoverDone st) := by
  have hheld (t : State) (w : TwnState) : t.BootAlike { t with twn := w } := .rest (.refl t) rfl rfl rfl
  simp only [State.takeoverDone]
  split
  · exact hheld s _
  · exact .on (fun t => .setFld (by decide) (hheld t _)) <| .raise (by decide) <| hheld s _

theorem deliverTx_bootAlike (o : TxOrigin) (d : TxDesc) (st : Status) (launch asn rssi : Nat) (frees : Bool) :
    s.BootAlike (s.deliverTx o d st launch asn rssi frees) := by
  have hposted : s.BootAlike (s.on (decide (st = .internal)) fun s => s.siltInternal 3 0) := .on (fun t => siltPost_bootAlike t _ _ _) (.refl s)
  have hfreed := State.BootAlike.on (c := frees) (f := fun u => u.freeDesc d)
    (fun t => .on (fun u => freeChain_bootAlike u _) (.refl t)) hposted
  cases o with
  | runnel n => exact hfreed.trans (pushTxDone_bootAlike _ _ _ _ _ _)
  | spec n tid => exact hfreed.trans (pushTxDone_bootAlike _ _ _ _ _ _)
  | ack key =>
    simp only [State.deliverTx]
    split
    · exact .bump (by decide) hfreed
    · exact .raise (by decide) (.bump (by decide) hfreed)
  | beacon g => exact hposted.trans (bcnCopyDone_bootAlike _ g st)
  | spw k g => exact hposted.trans (spwCopyDone_bootAlike _ k g st)
  | takeover => exact hfreed.trans (takeoverDone_bootAlike _ st)

/-! ## A region's drop (R292, R314) -/

theorem nearUpdate_bootAlike : s.BootAlike s.nearUpdate :=
  .on (fun t => .raise (by decide) (.refl t)) <| .setFld (by decide) <| .refl s

theorem nearSeen_bootAlike : s.BootAlike s.nearSeen := by
  simp only [State.nearSeen]
  split
  · exact nearUpdate_bootAlike s
  · exact (nearUpdate_bootAlike s).rest rfl rfl rfl

theorem weirRelease_bootAlike (es : List Nat) (a : Nat) : s.BootAlike (s.weirRelease es a) :=
  .foldl (fun t _ => .setFld (by decide) (.refl t)) (.rest (.refl s) rfl rfl rfl)

theorem coexEnd_bootAlike (j : Nat) (f : TxFrame) : s.BootAlike (s.coexEnd j f) := by
  unfold State.coexEnd State.coexUpdate
  split
  · have hheld (c : Bool) (x : TxfChain) : s.BootAlike (s.on c fun s => s.setTx j x) := .on (fun t => .rest (.refl t) rfl rfl rfl) (.refl s)
    dsimp only
    split
    · exact hheld _ _
    · exact .setFld (by decide) (.setFld (by decide) (hheld _ _))
  · exact .refl s

theorem setFrames_bootAlike (j : Nat) (fs : List TxFrame) : s.BootAlike (s.setFrames j fs) := .rest (.refl s) rfl rfl rfl

theorem idleTouch_bootAlike (before : State) (j : Nat) : s.BootAlike (s.idleTouch before j) := .on (fun t => .rest (.refl t) rfl rfl rfl) (.refl s)

theorem specDrop_bootAlike (cells : List Nat) (i : SpecItem) : s.BootAlike (s.specDrop cells i) := by
  simp only [State.specDrop]
  split
  · exact deliverTx_bootAlike s _ _ _ _ _ _ _
  · split
    · refine State.BootAlike.trans ?_ (idleTouch_bootAlike _ s _)
      refine State.BootAlike.trans ?_ (deliverTx_bootAlike _ _ _ _ _ _ _ _)
      refine .on (fun t => .raise (by decide) (.refl t)) ?_
      refine State.BootAlike.trans ?_ (nearUpdate_bootAlike _)
      refine State.BootAlike.trans ?_ (weirRelease_bootAlike _ _ _)
      refine State.BootAlike.trans ?_ (coexEnd_bootAlike _ _ _)
      exact (nearSeen_bootAlike s).trans (setFrames_bootAlike _ _ _)
    · exact .refl s

theorem withCht_bootAlike (c : ChtState) : s.BootAlike { s with cht := c } := .rest (.refl s) rfl rfl rfl

theorem setThr_bootAlike (t : Nat) (th : OclThread) : s.BootAlike (s.setThr t th) := .rest (.refl s) rfl rfl rfl

theorem specsDrop_bootAlike (t : Nat) (cells : List Nat) : s.BootAlike (s.specsDrop t cells) :=
  .foldl (fun u i => specDrop_bootAlike u cells i) (withCht_bootAlike s _)

theorem regionDrop_bootAlike (t : Nat) : s.BootAlike (s.regionDrop t) := by
  unfold State.regionDrop
  split
  · refine .on (fun u => .bump (by decide) (.refl u)) ?_
    refine State.BootAlike.trans ?_ (specsDrop_bootAlike _ t _)
    exact .foldl (fun u c => freeChain_bootAlike u c) (setThr_bootAlike s t _)
  · exact .refl s

/-! ## A thread's start (R301) -/

theorem setThrState_bootAlike (t st : Nat) : s.BootAlike (s.setThrState t st) := by
  have hcount : s.BootAlike (s.waitCount t) := by
    simp only [State.waitCount]
    split
    · exact .on (fun u => .setFld (by decide) (.refl u)) <| .rest (.refl s) rfl rfl rfl
    · exact .refl s
  exact hcount.rest rfl rfl rfl

theorem thrInit_bootAlike (t pc : Nat) : s.BootAlike (s.thrInit t pc) := by
  have hpassed : s.BootAlike { s with ocl := { s.ocl with passes := s.ocl.passes.filter (· ≠ t) } } := .rest (.refl s) rfl rfl rfl
  exact (hpassed.trans (setThrState_bootAlike _ t 1)).trans (setThr_bootAlike _ t _)

end Sys2Proof.Machine
end

section
/-! PROOFS. Jomuter's boot ROM: what starting it, stopping it and entering an image leave (R434, R485, R486, R491). -/

namespace Sys2Proof.Machine

/-! ## What the flash device alone determines -/

section
variable {s t : State} (h : t.fls = s.fls)
include h

theorem flashByte_of_fls (a : Nat) : t.flashByte a = s.flashByte a := by rw [State.flashByte, h, State.flashByte]

theorem flashBytes_of_fls (a n : Nat) : t.flashBytes a n = s.flashBytes a n :=
  List.map_congr_left fun _ _ => flashByte_of_fls h _

theorem bootHdr_of_fls : t.bootHdr = s.bootHdr := by
  have hcopy (k : Nat) : t.bootHdrAt k = s.bootHdrAt k := by simp only [State.bootHdrAt, flashBytes_of_fls h]
  simp only [State.bootHdr, hcopy]

theorem payload_of_fls (r p n : Nat) : t.payload r p n = s.payload r p n := List.map_congr_left fun _ _ => flashByte_of_fls h _

theorem payloadNat_of_fls (r p n : Nat) : t.payloadNat r p n = s.payloadNat r p n := by
  rw [State.payloadNat, payload_of_fls h, State.payloadNat]

theorem imageDigest_of_fls (r : Nat) : t.imageDigest r = s.imageDigest r := by
  simp only [State.imageDigest, payload_of_fls h, payloadNat_of_fls h]

end

/-! ## Threads -/

variable (s : State)

theorem setThrState_reg {id : RegId} (t st i j : Nat) (h : id ≠ .OBS_THR_CNT) : (s.setThrState t st).reg id i j = s.reg id i j := by
  have hcount : (s.waitCount t).reg id i j = s.reg id i j := by
    simp only [State.waitCount]
    split
    · refine on_keeps (P := fun u : State => u.reg id i j = s.reg id i j) _ rfl ?_
      exact reg_setReg_id _ _ _ _ _ _ h
    · rfl
  exact hcount

theorem thrInit_reg {id : RegId} (t pc i j : Nat) (h : id ≠ .OBS_THR_CNT) : (s.thrInit t pc).reg id i j = s.reg id i j :=
  setThrState_reg { s with ocl := { s.ocl with passes := s.ocl.passes.filter (· ≠ t) } } t 1 i j h

/-- A thread that starts is Ready at its first address. -/
theorem thrInit_thr (t pc : Nat) : ((s.thrInit t pc).thr t).state = 1 ∧ ((s.thrInit t pc).thr t).pc = pc % 32768 / 4 * 4 := by
  rw [State.thrInit, thr_setThr]
  exact ⟨rfl, rfl⟩

theorem setThrState_state (t st : Nat) : ((s.setThrState t st).thr t).state = st := by
  rw [State.setThrState, thr_setThr]

/-! ## The ROM starts and stops -/

theorem romStart_fls : s.romStart.fls = s.fls := by
  rw [State.romStart]
  split
  · rfl
  · exact (thrInit_bootAlike s 129 0).fls

theorem romStart_fld (f : Fld) (i j : Nat) (h : f.reg ≠ .OBS_THR_CNT) : s.romStart.fld f i j = s.fld f i j := by
  rw [State.romStart]
  split
  · rfl
  · exact fld_of_reg (thrInit_reg s 129 0 i j h)

theorem romStart_bot : s.romStart.bot = { s.bot with romRun := true } := by
  rw [State.romStart]
  split
  · next h => rw [← h]
  · rfl

/-- The ROM begins at address 0 of a thread that was not in it. -/
theorem romStart_thr (h : s.bot.romRun = false) : (s.romStart.thr 129).pc = 0 ∧ (s.romStart.thr 129).state = 1 := by
  have hstart : s.romStart.thr 129 = (s.thrInit 129 0).thr 129 := by
    rw [State.romStart, h]
    rfl
  rw [hstart]
  exact (thrInit_thr s 129 0).symm

theorem withBot_thr (b : BotState) (t : Nat) : { s with bot := b }.thr t = s.thr t := rfl

/-- A ROM that no image follows has stopped, Halted at address 0. -/
theorem romStop_thr : (s.romStop.thr 129).state = 3 ∧ (s.romStop.thr 129).pc = 0 := by
  simp only [State.romStop, withBot_thr]
  exact ⟨setThrState_state _ _ _, (setThrState_pc _ _ _).trans (thrInit_thr _ _ _).2⟩

/-! ## An image is entered -/

/-- The boot's own state, and OCL_J_BOOT, of an image that is entered (R491). -/
def State.bootRecord (s : State) (r : Nat) (warm fallback : Bool) (result : Nat) (dflts : Bool) : State :=
  let s := { s.fresh.2 with bot := { s.bot with digest := s.imageDigest r, booted := true, romRun := false } }
  let s := (((s.setFld F.OCL_J_BOOT_RES r).setFld F.OCL_J_BOOT_WARM (cond warm 1 0)).setFld F.OCL_J_BOOT_FALLBACK
    (cond fallback 1 0)).setFld F.OCL_J_BOOT_RESULT result
  ((s.setFld F.OCL_J_BOOT_DEFAULTS (if dflts then 1 else 0)).setFld F.OCL_J_BOOT_KEY_SLOT
    (s.payloadNat r 5 1)).setFld F.OCL_J_BOOT_SETTINGS_FMT (s.payloadNat r 16 2)

/-- The image's code starts at address 0 with g1 and g2 set (R491). -/
def State.startCode (s : State) (r g1 : Nat) : State :=
  let s := (s.regionDrop 129).thrInit 129 0
  s.setThr 129 (((s.thr 129).setReg 1 (BitVec.ofNat 64 g1)).setReg 2 (BitVec.ofNat 64 (s.payloadNat r 12 4)))

/-- An entry writes its record, posts where it found no settings of the image's format, and starts the code. -/
theorem enter_eq (r : Nat) (warm fallback : Bool) (result : Nat) : ∃ (body : Option Nat) (dflt : Nat),
    (∀ a, s.settings = some (s.payloadNat r 16 2, a) → body = some a) ∧
    s.enter r warm fallback result = ((s.bootRecord r warm fallback result body.isNone).on body.isNone fun t =>
      t.siltPost 3 (s.payloadNat r 16 2)).startCode r (body.getD dflt) := by
  refine ⟨_, _, ?_, rfl⟩
  intro a h
  simp [h]

theorem startCode_bootAlike (r g1 : Nat) : s.BootAlike (s.startCode r g1) :=
  ((regionDrop_bootAlike s 129).trans (thrInit_bootAlike _ 129 0)).trans (setThr_bootAlike _ 129 _)

theorem startCode_thr (r g1 : Nat) : ((s.startCode r g1).thr 129).state = 1 ∧ ((s.startCode r g1).thr 129).pc = 0 ∧
    ((s.startCode r g1).thr 129).reg 1 = BitVec.ofNat 64 g1 ∧
    ((s.startCode r g1).thr 129).reg 2 = BitVec.ofNat 64 (s.payloadNat r 12 4) := by
  have hfls := ((regionDrop_bootAlike s 129).trans (thrInit_bootAlike _ 129 0)).fls
  obtain ⟨hstate, hpc⟩ := thrInit_thr (s.regionDrop 129) 129 0
  rw [State.startCode, thr_setThr, payloadNat_of_fls hfls]
  simp [hstate, hpc, reg_setReg]

theorem enter_bot (r : Nat) (warm fallback : Bool) (result : Nat) : (s.enter r warm fallback result).bot =
    { s.bot with digest := s.imageDigest r, booted := true, romRun := false } := by
  obtain ⟨body, dflt, -, h⟩ := enter_eq s r warm fallback result
  rw [h, (startCode_bootAlike _ _ _).bot, on_component (c := State.bot) _ _ (siltPost_near _ _ _ _).bot]
  rfl

theorem bootRecord_fls (r : Nat) (warm fallback : Bool) (result : Nat) (dflts : Bool) :
    (s.bootRecord r warm fallback result dflts).fls = s.fls := rfl

/-- OCL_J_BOOT as the record of an entry leaves it. -/
theorem bootRecord_fields {r result : Nat} (hr : r < 2) (hres : result < 8) (warm fallback : Bool) :
    let t := s.bootRecord r warm fallback result false
    t.fld F.OCL_J_BOOT_RES = r ∧ t.flag F.OCL_J_BOOT_WARM = warm ∧ t.flag F.OCL_J_BOOT_FALLBACK = fallback ∧
      t.fld F.OCL_J_BOOT_RESULT = result ∧ t.flag F.OCL_J_BOOT_DEFAULTS = false := by
  have later (u : State) {f g : Fld} (v : Nat) (hf : f.lo + f.w ≤ 64) (hd : g.lo + g.w ≤ f.lo ∨ f.lo + f.w ≤ g.lo) :
      (u.setFld f v).fld g = u.fld g := fld_setFld_disjoint u v 0 0 0 0 hf hd
  have laterFlag (u : State) {f g : Fld} (v : Nat) (hf : f.lo + f.w ≤ 64) (hd : g.lo + g.w ≤ f.lo ∨ f.lo + f.w ≤ g.lo) :
      (u.setFld f v).flag g = u.flag g := flag_setFld_disjoint u v 0 0 0 0 hf hd
  simp only [State.bootRecord]
  refine ⟨?_, ?_, ?_, ?_, ?_⟩
  · rw [later _ _ (by decide) (by decide), later _ _ (by decide) (by decide), later _ _ (by decide) (by decide),
      later _ _ (by decide) (by decide), later _ _ (by decide) (by decide), later _ _ (by decide) (by decide),
      fld_setFld_self _ _ _ _ _ (by decide)]
    exact Nat.mod_eq_of_lt hr
  · rw [laterFlag _ _ (by decide) (by decide), laterFlag _ _ (by decide) (by decide), laterFlag _ _ (by decide) (by decide),
      laterFlag _ _ (by decide) (by decide), laterFlag _ _ (by decide) (by decide), flag_setFld_cond _ _ _ _ _ (by decide) rfl]
  · rw [laterFlag _ _ (by decide) (by decide), laterFlag _ _ (by decide) (by decide), laterFlag _ _ (by decide) (by decide),
      laterFlag _ _ (by decide) (by decide), flag_setFld_cond _ _ _ _ _ (by decide) rfl]
  · rw [later _ _ (by decide) (by decide), later _ _ (by decide) (by decide), later _ _ (by decide) (by decide),
      fld_setFld_self _ _ _ _ _ (by decide)]
    exact Nat.mod_eq_of_lt hres
  · rw [laterFlag _ _ (by decide) (by decide), laterFlag _ _ (by decide) (by decide)]
    exact flag_setFld_zero _ _ _ _ (by decide) rfl

end Sys2Proof.Machine
end

section
/-! PROOFS. `Obligations.BootCommands`: the cold boot and the activation (R434, R481, R484–R491). -/

namespace Sys2Proof.Machine

/-! ## The boot ends with an image entered, or with none -/

/-- The ROM has made its choice. -/
def State.bootDone (s : State) : Prop := s.bot.booted = true ∧ s.bot.romRun = false

theorem enter_bootDone (s : State) (r : Nat) (warm fallback : Bool) (result : Nat) : (s.enter r warm fallback result).bootDone := by
  rw [State.bootDone, enter_bot]
  exact ⟨rfl, rfl⟩

theorem romStop_bootDone (s : State) : s.romStop.bootDone := ⟨rfl, rfl⟩

theorem bootFrom_bootDone (s : State) (r : Nat) (good fallback : Bool) : (s.bootFrom r good fallback).bootDone := enter_bootDone _ _ _ _ _

theorem bootOther_bootDone (s : State) (r : Nat) : (s.bootOther r).bootDone := by
  unfold State.bootOther
  split
  · split
    · dsimp only
      split
      · exact bootFrom_bootDone _ _ _ _
      · exact romStop_bootDone _
    · exact romStop_bootDone _
  · exact romStop_bootDone _

/-! ## BOOT_ROM_START (R434, R485) -/

/-- The conditions under which Jomuter's boot ROM starts or goes on. -/
structure State.RomRuns (s : State) : Prop where
  phase : s.pwr.phase = .run
  booted : s.bot.booted = false
  ready : s.memReady 8 = true

section
variable {s : State} {dt k r : Nat} {h : BootHdr}

theorem exec_bootRomStart (hs : s.RomRuns) :
    exec (.bootRomStart dt) s = .next ((s.after dt).romStart.on s.fls.discovered State.romBoot) := by
  rw [show exec (.bootRomStart dt) s = execBootRomStart dt s from rfl, execBootRomStart, if_pos ⟨hs.phase, hs.booted, hs.ready⟩]
  dsimp only
  rw [romStart_fls, after_fls]

theorem exec_bootRomStart_choice (hs : s.RomRuns) (hd : s.fls.discovered = true) :
    exec (.bootRomStart dt) s = .next (s.after dt).romStart.romBoot := by
  rw [exec_bootRomStart hs, hd, on_true]

theorem romStart_after_hdr (s : State) (dt : Nat) : (s.after dt).romStart.bootHdr = s.bootHdr :=
  bootHdr_of_fls ((romStart_fls _).trans (after_fls s dt))

theorem romStart_after_mode (s : State) (dt : Nat) : (s.after dt).romStart.fld F.FLS_STAT_MODE = s.fld F.FLS_STAT_MODE :=
  (romStart_fld _ _ _ _ (by decide)).trans (after_fld ..)

theorem romBoot_headed (hmode : s.fld F.FLS_STAT_MODE ≠ 0) (hhdr : s.bootHdr = some (k, h)) : s.romBoot = s.bootHeaded h := by
  rw [State.romBoot, if_neg hmode, hhdr]

theorem romBoot_bare (hmode : s.fld F.FLS_STAT_MODE ≠ 0) (hhdr : s.bootHdr = none) : s.romBoot = s.bootBare := by
  rw [State.romBoot, if_neg hmode, hhdr]

/-- A reservoir that is GOOD is the first choice, and nothing is spent. -/
theorem bootHeaded_good (hst : h.state (h.active % 2) = 3) : s.bootHeaded h =
    if (s.tryCold (h.active % 2)).1 then (s.tryCold (h.active % 2)).2.bootFrom (h.active % 2) true false
    else ((s.tryCold (h.active % 2)).2.editHdr fun e => e.setState (h.active % 2) 4).bootOther (1 - h.active % 2) := by
  simp [State.bootHeaded, hst]

/-- A reservoir that is EMPTY, WRITTEN or BAD is given up at once. -/
theorem bootHeaded_unfit (hst : h.state (h.active % 2) = 0 ∨ h.state (h.active % 2) = 1 ∨ 4 ≤ h.state (h.active % 2)) :
    s.bootHeaded h = (s.editHdr fun e => e.setState (h.active % 2) 4).bootOther (1 - h.active % 2) := by
  have htrial : h.state (h.active % 2) ≠ 2 := by omega
  have hgood : h.state (h.active % 2) ≠ 3 := by omega
  simp [State.bootHeaded, htrial, hgood]

theorem bootHeaded_good_bootDone (hst : h.state (h.active % 2) = 3) : (s.bootHeaded h).bootDone := by
  rw [bootHeaded_good hst]
  split
  · exact bootFrom_bootDone _ _ _ _
  · exact bootOther_bootDone _ _

end

/-! ## The checks (R484, R485) -/

theorem checkCold_lt (s : State) (r : Nat) : s.checkCold r < 8 := by
  unfold State.checkCold
  repeat' split
  all_goals decide

theorem checkWarm_lt (s : State) (r : Nat) : s.checkWarm r < 8 := by
  unfold State.checkWarm
  repeat' split
  all_goals decide

theorem bootFail_result (s : State) (r : Nat) {code : Nat} (h : code < 8) : (s.bootFail r code).fld F.OCL_J_BOOT_RESULT = code := by
  rw [State.bootFail, (siltPost_near _ _ _ _).fld (by decide), fld_setFld_self _ _ _ _ _ (by decide)]
  exact Nat.mod_eq_of_lt h

theorem tryCold_fst (s : State) (r : Nat) : (s.tryCold r).1 = decide (s.checkCold r = 0) := by
  by_cases h : s.checkCold r = 0 <;> simp [State.tryCold, h]

theorem tryCold_result {s : State} {r : Nat} (h : (s.tryCold r).1 = false) : (s.tryCold r).2.fld F.OCL_J_BOOT_RESULT = s.checkCold r := by
  rw [tryCold_fst, decide_eq_false_iff_not] at h
  rw [tryCold_state, if_neg h]
  exact bootFail_result _ _ (checkCold_lt s r)

/-! ## ACTIVATE (R488–R490) -/

section
variable {s : State} {dt k : Nat} {h : BootHdr}

theorem exec_activate (hr : s.released = true) (req : Nat) : exec (.activate dt req) s = .next ((s.after dt).jBootWrite req 1) := by
  rw [show exec (.activate dt req) s = execActivate dt req s from rfl, execActivate, powered_of_released ((after_released s dt).trans hr)]

theorem jBootWrite_other {req : Nat} (hreq : req ≠ 129) (d : Word) : s.jBootWrite req d = s := by
  rw [State.jBootWrite, if_neg fun h => hreq h.1]

/-- Jomuter's write with ACTIVATE set, of a device with a boot header: step 1, then the warm path. -/
theorem jBootWrite_activate (hr : s.released = true) (hhdr : s.bootHdr = some (k, h)) : s.jBootWrite 129 1 =
    if s.checkWarm (h.active % 2) ≠ 0 then s.fresh.2.setFld F.OCL_J_BOOT_RESULT (s.checkWarm (h.active % 2))
    else if h.state (h.active % 2) = 0 ∨ h.state (h.active % 2) = 4 ∨
        s.imageDigest (h.active % 2) ≠ (if h.active % 2 = 0 then h.dgA else h.dgB) then
      s.fresh.2.setFld F.OCL_J_BOOT_RESULT s.fresh.1
    else s.fresh.2.warmGo (h.active % 2) (h.state (h.active % 2) == 3) := by
  have hphase : s.pwr.phase = .run ∨ s.pwr.phase = .failing := by simpa [State.released] using hr
  rw [State.jBootWrite, if_pos ⟨rfl, rfl, hphase⟩, hhdr]
  rfl

/-- Step 1 of an activation that fails writes BOOT_RESULT and nothing else of the boot. -/
theorem afterFreshRecord (s : State) (dt v : Nat) : let t := (s.after dt).fresh.2.setFld F.OCL_J_BOOT_RESULT v
    t.bot = s.bot ∧ t.ocl = s.ocl ∧ t.fls = s.fls :=
  ⟨after_bot s dt, after_ocl s dt, after_fls s dt⟩

theorem fresh_after (s : State) (dt : Nat) : (s.after dt).fresh.2 = { s.after dt with draw := s.draw + 1 } := by
  rw [State.fresh, after_draw]

end

/-! ## The warm path (R489, R490) -/

/-- A reservoir whose load has failed is BAD, and the other one is in force. -/
def State.givenUp (s : State) (r code : Nat) : State := (s.bootFail r code).editHdr fun h => { h.setState r 4 with active := 1 - r }

section
variable {s t u : State} {r code code' : Nat} {good : Bool}

theorem warmGo_loaded (hload : (s.firstKey r).stopAll.warmLoad r = (0, t)) :
    s.warmGo r good = (t.keyActionsIf r good).enter r true false (t.fld F.OCL_J_BOOT_RESULT) := by
  simp only [State.warmGo, hload, if_true]

variable (hload : (s.firstKey r).stopAll.warmLoad r = (code, t)) (hcode : code ≠ 0)
include hload hcode

theorem warmGo_stopped (hboot : (t.givenUp r code).bootable (1 - r) = false) : s.warmGo r good = (t.givenUp r code).romStop := by
  simp only [State.givenUp] at hboot
  simp only [State.warmGo, hload, if_neg hcode, hboot, Bool.not_false, if_true, State.givenUp]

variable (hboot : (t.givenUp r code).bootable (1 - r) = true)
include hboot

theorem warmGo_other {other : Bool} (hother : (t.givenUp r code).warmLoad (1 - r) = (0, u))
    (hsome : ∀ k h, u.bootHdr = some (k, h) → other = (h.state (1 - r) == 3)) (hnone : u.bootHdr = none → other = false) :
    s.warmGo r good = (u.keyActionsIf (1 - r) other).enter (1 - r) true true code := by
  simp only [State.givenUp] at hboot hother
  simp only [State.warmGo, hload, if_neg hcode, hboot, hother, Bool.not_true, Bool.false_eq_true, if_false, if_true]
  cases hhdr : u.bootHdr with
  | none => simp only [hnone hhdr]
  | some e => simp only [hsome _ _ hhdr]

theorem warmGo_failed (hother : (t.givenUp r code).warmLoad (1 - r) = (code', u)) (hcode' : code' ≠ 0) :
    s.warmGo r good = (u.bootFail (1 - r) code').romStop := by
  simp only [State.givenUp] at hboot hother
  simp only [State.warmGo, hload, if_neg hcode, hboot, hother, Bool.not_true, Bool.false_eq_true, if_false, if_neg hcode']

end

/-- The warm path by its outcomes: the chosen reservoir, then the other where it may boot. -/
theorem warmGo_eq {s w : State} {r : Nat} {other : Bool} {v u : Nat × State} (good : Bool) (hload : (s.firstKey r).stopAll.warmLoad r = v)
    (hw : v.2.givenUp r v.1 = w) (hother : w.warmLoad (1 - r) = u)
    (hsome : ∀ k h, u.2.bootHdr = some (k, h) → other = (h.state (1 - r) == 3)) (hnone : u.2.bootHdr = none → other = false) :
    s.warmGo r good = if v.1 = 0 then (v.2.keyActionsIf r good).enter r true false (v.2.fld F.OCL_J_BOOT_RESULT)
      else if w.bootable (1 - r) = false then w.romStop
      else if u.1 = 0 then (u.2.keyActionsIf (1 - r) other).enter (1 - r) true true v.1
      else (u.2.bootFail (1 - r) u.1).romStop := by
  obtain ⟨code, t⟩ := v
  obtain ⟨code', x⟩ := u
  subst hw
  dsimp only at hother hsome hnone ⊢
  by_cases hcode : code = 0
  · subst hcode
    exact warmGo_loaded hload
  · rw [if_neg hcode]
    cases hboot : (t.givenUp r code).bootable (1 - r) with
    | false => exact warmGo_stopped hload hcode hboot
    | true =>
      rw [if_neg (by decide)]
      by_cases hcode' : code' = 0
      · subst hcode'
        exact warmGo_other hload hcode hboot hother hsome hnone
      · rw [if_neg hcode']
        exact warmGo_failed hload hcode hboot hother hcode'

/-- Settles O51: BOOT_ROM_START by what the header in force says, ACTIVATE by its step 1, and the warm path by its outcomes; a record, a
region's drop and a thread's start leave OCL_J_BOOT and the boot's own state alone. -/
theorem bootCommands : Obligations.BootCommands := by
  refine ⟨?_, ?_, ?_, ?_, ?_, ?_, ?_, ?_, ?_, ?_, ?_, ?_⟩
  · intro s dt k h r u hphase hbooted hready hd hmode hhdr hst
    refine completes_of_exec (exec_bootRomStart_choice ⟨hphase, hbooted, hready⟩ hd) ?_
    rw [romBoot_headed (by rwa [romStart_after_mode]) ((romStart_after_hdr s dt).trans hhdr)]
    obtain ⟨hb, hrun⟩ := bootHeaded_good_bootDone (s := (s.after dt).romStart) hst
    exact ⟨hb, hrun, bootHeaded_good hst⟩
  · intro s dt k h r hphase hbooted hready hd hmode hhdr hst
    refine completes_of_exec (exec_bootRomStart_choice ⟨hphase, hbooted, hready⟩ hd) ?_
    rw [romBoot_headed (by rwa [romStart_after_mode]) ((romStart_after_hdr s dt).trans hhdr)]
    exact bootHeaded_unfit hst
  · intro s dt u hphase hbooted hready hd hmode hhdr
    refine completes_of_exec (exec_bootRomStart_choice ⟨hphase, hbooted, hready⟩ hd) ?_
    rw [romBoot_bare (by rwa [romStart_after_mode]) ((romStart_after_hdr s dt).trans hhdr)]
    rfl
  · intro s dt hphase hbooted hready hd hmode
    refine completes_of_exec (exec_bootRomStart_choice ⟨hphase, hbooted, hready⟩ hd) ?_
    rw [State.romBoot, if_pos ((romStart_after_mode s dt).trans hmode)]
  · intro s dt hphase hbooted hready hd
    refine completes_of_exec (exec_bootRomStart ⟨hphase, hbooted, hready⟩) ?_
    rw [hd, on_false, romStart_bot, after_bot]
    exact ⟨rfl, rfl, hbooted, fun hrom => romStart_thr _ (by rwa [after_bot])⟩
  · intro s
    exact ⟨(romStop_thr s).1, (romStop_thr s).2, rfl, rfl⟩
  · intro s dt h
    refine completes_of_exec (t := s) ?_ rfl
    rw [show exec (.bootRomStart dt) s = execBootRomStart dt s from rfl, execBootRomStart, if_neg]
    rintro ⟨hphase, hbooted, hready⟩
    simp [hphase, hbooted, hready] at h
  · exact fun s r => ⟨tryCold_fst s r, tryCold_result⟩
  · intro s r a fmt res warm fallback hr hres hset hfmt
    obtain ⟨body, dflt, hbody, henter⟩ := enter_eq s r warm fallback res
    have hbody : body = some a := hbody a (by rw [hset, hfmt])
    rw [hbody] at henter
    have hlate := startCode_bootAlike (s.bootRecord r warm fallback res false) r a
    obtain ⟨hres', hwarm, hfall, hresult, hdflt⟩ := bootRecord_fields s hr hres warm fallback
    obtain ⟨hstate, hpc, hg1, hg2⟩ := startCode_thr (s.bootRecord r warm fallback res false) r a
    have henter : s.enter r warm fallback res = (s.bootRecord r warm fallback res false).startCode r a := henter
    have hbot := enter_bot s r warm fallback res
    dsimp only
    refine ⟨by rw [hbot], by rw [hbot], ?_⟩
    rw [henter]
    exact ⟨(hlate.fld rfl).trans hres', (hlate.flag rfl).trans hwarm, (hlate.flag rfl).trans hfall, (hlate.fld rfl).trans hresult,
      (hlate.flag rfl).trans hdflt, hstate, hpc, hg1, hg2.trans (by rw [payloadNat_of_fls (bootRecord_fls s r warm fallback res false)])⟩
  · intro s dt req hreq hr
    exact completes_of_exec (exec_activate hr req) (jBootWrite_other hreq 1)
  · intro s dt k h
    dsimp only
    intro hhdr hr
    refine completes_of_exec (exec_activate hr 129) ?_
    have hfls := after_fls s dt
    rw [jBootWrite_activate ((after_released s dt).trans hr) ((bootHdr_of_fls hfls).trans hhdr), imageDigest_of_fls hfls]
    by_cases hcode : (s.after dt).checkWarm (h.active % 2) ≠ 0
    · rw [if_pos hcode, if_pos hcode]
      exact ⟨(fld_setFld_self _ _ _ _ _ (by decide)).trans (Nat.mod_eq_of_lt (checkWarm_lt _ _)), afterFreshRecord s dt _⟩
    · rw [if_neg hcode, if_neg hcode]
      generalize (if h.active % 2 = 0 then h.dgA else h.dgB) = digest
      by_cases hunfit : h.state (h.active % 2) = 0 ∨ h.state (h.active % 2) = 4 ∨ s.imageDigest (h.active % 2) ≠ digest
      · rw [if_pos hunfit, if_pos hunfit]
        exact afterFreshRecord s dt _
      · rw [if_neg hunfit, if_neg hunfit, fresh_after]
  · intro s r good
    refine warmGo_eq good rfl rfl rfl (fun k h hhdr => ?_) fun hhdr => ?_
    · rw [hhdr]
    · rw [hhdr]

end Sys2Proof.Machine
end
